-- ==== Sys2Proof/Word.lean ====
section
/-! DEFINITION. The word types of the PX-96 and their plainest arithmetic: 64-bit words, bytes, bit fields of a word,
and the small operand kinds the commands of `Syntax.lean` carry. -/

namespace Sys2Proof

/-- A 64-bit register or general-purpose register value. -/
abbrev W := BitVec 64

/-- One byte of memory. -/
abbrev Byte := BitVec 8

/-- The value of bits `[hi:lo]` of a word, as the manual writes bit ranges. -/
def field (w : W) (hi lo : Nat) : Nat := (w.toNat >>> lo) % 2 ^ (hi + 1 - lo)

/-- `w` with bits `[hi:lo]` replaced by the low bits of `v`; every other bit keeps its value. -/
def putField (w : W) (hi lo : Nat) (v : Nat) : W :=
  let m : W := (BitVec.ofNat 64 (2 ^ (hi + 1 - lo) - 1)) <<< lo
  (w &&& ~~~m) ||| ((BitVec.ofNat 64 (v % 2 ^ (hi + 1 - lo))) <<< lo)

/-- One bit of a word. -/
def bit (w : W) (n : Nat) : Bool := w.getLsbD n

/-- A truth value as a one-bit number. -/
def b2n (b : Bool) : Nat := if b then 1 else 0

/-- The `n` low-order bytes of a number, least significant first (R4). -/
def leBytes : Nat → Nat → List Byte
  | 0, _ => []
  | n + 1, v => BitVec.ofNat 8 v :: leBytes n (v / 256)

/-- The number a list of bytes spells, least significant first (R4). -/
def ofLeBytes : List Byte → Nat
  | [] => 0
  | b :: bs => b.toNat + 256 * ofLeBytes bs

/-- Sign extension of the low `n` bits of `v` to 64 bits. -/
def sext (n v : Nat) : W :=
  if v % 2 ^ n < 2 ^ (n - 1) then BitVec.ofNat 64 (v % 2 ^ n)
  else BitVec.ofNat 64 (2 ^ 64 - 2 ^ n + v % 2 ^ n)

/-- Who presents an access to the on-die configuration space: a core, whose world and partition come from its own
state; Macen; the security processor; or the debug module, which carries the world and partition it is given (R504). -/
inductive Agent where
  | core (c : Nat)
  | macen
  | sp
  | dbg (secure : Bool) (part : Nat)
  deriving DecidableEq, Repr

/-- Where a load puts its value: an integer register (sign- or zero-extended), a floating-point register (narrower
values are NaN-boxed) or the low part of a vector register. -/
inductive Dst where
  | x (rd : Nat) (signed : Bool)
  | f (rd : Nat)
  | v (rd : Nat)
  deriving DecidableEq, Repr

/-- Where a store takes its value from. -/
inductive Src where
  | x (r : Nat)
  | f (r : Nat)
  | v (r : Nat)
  deriving DecidableEq, Repr

/-- The atomic operations of the A extension. -/
inductive AmoOp where
  | swap | add | and | or | xor | min | max | minu | maxu
  deriving DecidableEq, Repr

/-- A requester: a core slot by physical core ID, or a ring agent by ring position (R13): 0 journal, 25 I/O coherence,
26 cipher, 27 fabric. -/
inductive Rq where
  | core (c : Nat)
  | agent (pos : Nat)
  deriving DecidableEq, Repr

/-- A folio as a port receives it (R226): its header fields, its payload, its trailer, and whether its FEC codewords were correctable, `fec` of their
symbols corrected. `typ`
is 0 IDLE or 1 DATA; `plen` is the number of payload bytes used; a payload shorter than 232 bytes stands for one that zeros fill. -/
structure Folio where
  typ : Nat := 1
  seq : Nat := 0
  ack : Nat := 0
  nak : Bool := false
  cls : Nat := 0
  seg : Nat := 3
  crClass : Nat := 0
  crCount : Nat := 0
  plen : Nat := 0
  payload : List Byte := []
  trailer : List Byte := []
  fecOk : Bool := true
  fec : Nat := 0
  deriving DecidableEq, Repr

/-- The architectural state of R153 with the pc, as a checkpoint keeps it. `csr` holds fcsr, the vector CSRs, and, for an
interval of a checked pair, every CSR that an instruction may write without serialising (R205). -/
structure Ckpt where
  x : List (Nat × W) := []
  f : List (Nat × W) := []
  v : List (Nat × BitVec 256) := []
  csr : List (Nat × W) := []
  pc : W := 0
  deriving DecidableEq, Repr

/-- One store-stream entry that the Tongs compare (R208): the address, the byte mask within the line, the data and whether its region is NC. -/
structure StoreEnt where
  pa : Nat := 0
  mask : Nat := 0
  data : BitVec 256 := 0
  nc : Bool := false
  deriving DecidableEq, Repr

/-- What Macen finds in a channel's slots at training (R281 to R284): whether it is populated, a code of its configuration
(type, density, width, stack height, ranks, DIMMs), whether that is supported, its DIMMs, logical ranks and GiB per rank, the
highest rate code its SPD allows (1 2400 to 4 3200), and the training step that failed (0 none). -/
structure DimmPop where
  populated : Bool := true
  config : Nat := 0
  supported : Bool := true
  dpc : Nat := 1
  ranks : Nat := 2
  rankGib : Nat := 32
  speed : Nat := 4
  failed : Nat := 0
  deriving DecidableEq, Repr

/-- The errors a DRAM burst returns with (R291) and where the first lies: 0 none, 1 any error within one device, 2 one device
plus a single-bit error in another, 3 two whole devices, 4 more. -/
structure Burst where
  err : Nat := 0
  rank : Nat := 0
  bankGroup : Nat := 0
  bank : Nat := 0
  row : Nat := 0
  device : Nat := 0
  column : Nat := 0
  deriving DecidableEq, Repr

/-- A clock domain that can lose and regain PLL lock (R435): the always-on domain, the SP, Macen, the mesh domain, a core slot, a DDR channel,
any other block by its unit of R357, or an external clock. -/
inductive ClockDom where
  | aon | sp | macen | mesh
  | core (c : Nat)
  | chan (ch : Nat)
  | block (u : Nat)
  | ext
  deriving DecidableEq, Repr

/-- One reading of an ageing monitor (R483, R484): the monitor, its slack in ps and the local temperature in °C; at a boot's calibration
the slack is the one at guardband 0, and `guard` the smallest step at which the monitor reads at least 35 ps. -/
structure Reading where
  mon : Nat := 0
  slack : Int := 0
  tj : Int := 0
  guard : Nat := 0
  deriving DecidableEq, Repr

/-- The debug module's access ports (R495, R496): the JTAG TAP, and the mesh port with the agent that reaches it. -/
inductive DbgPort where
  | jtag
  | mesh (ag : Agent)
  deriving DecidableEq, Repr

end Sys2Proof
end

