-- ==== Sys2Proof/Syntax.lean ====
section
/-! DEFINITION. The commands of the PX-96: one constructor per row of the spec's command table, with the row's operands. What an operand
stands for is said at the command's meaning in `Machine/`. -/

namespace Sys2Proof

/-- A command that the block takes from outside, or an event that its surroundings report (the rows of the table, in its order). -/
inductive Instr where
  /-- REGISTER_WRITE (R7): A write to an ODC or CSR register that has no row of its own; reserved encodings and the per-field access codes are applied. -/
  | registerWrite (ag : Agent) (pa : Nat) (size : Nat) (value : Nat)
  /-- RS_SNAPSHOT_READ (R7): A read of an RS register latches a snapshot that later RS fields return until the next read of the lowest word. -/
  | rsSnapshotRead (ag : Agent) (pa : Nat) (size : Nat)
  /-- LOAD (R81): A core load is translated, checked and performed, possibly ahead of older accesses. -/
  | load (c : Nat) (dst : Dst) (rs1 : Nat) (imm : W) (size : Nat) (len : Nat) (acc : Nat) (ahead : Nat) (off : Nat) (n : Nat) (insn : W)
  /-- STORE (R78): A core store retires into the store buffer and later becomes visible in L1D. -/
  | store (c : Nat) (src : Src) (rs1 : Nat) (imm : W) (size : Nat) (len : Nat) (acc : Nat) (insn : W)
  /-- STORE_BUFFER_WRITE (R78): A retired store whose line is held in E or M is written from the store buffer into L1D. -/
  | storeBufferWrite (c : Nat) (n : Nat)
  /-- AMO (R83): An atomic memory operation performs on its line with the aq and rl ordering of the architecture. -/
  | amo (c : Nat) (op : AmoOp) (rd : Nat) (rs1 : Nat) (rs2 : Nat) (size : Nat) (aq : Bool) (rl : Bool) (len : Nat)
  /-- LR (R89): LR fetches its line in E or M and sets the reservation. -/
  | lr (c : Nat) (rd : Nat) (rs1 : Nat) (size : Nat) (aq : Bool) (rl : Bool) (len : Nat)
  /-- SC (R89): SC succeeds or fails on the reservation and always clears it. -/
  | sc (c : Nat) (rd : Nat) (rs1 : Nat) (rs2 : Nat) (size : Nat) (aq : Bool) (rl : Bool) (len : Nat)
  /-- HOLD_WINDOW_END (R92): The 64-core-cycle hold window of an LR expires. -/
  | holdWindowEnd (c : Nat)
  /-- FENCE (R82): A FENCE waits as its sets require and then costs its stated cycles. -/
  | fence (c : Nat) (pred : Nat) (succ : Nat) (len : Nat)
  /-- FENCE_TSO (R82): FENCE.TSO waits for older loads and inserts an ordering point. -/
  | fenceTso (c : Nat) (len : Nat)
  /-- FENCE_I (R67): FENCE.I drains the store buffer and flushes L1I of the current world and partition. -/
  | fenceI (c : Nat) (len : Nat)
  /-- SFENCE_VMA (R66): SFENCE.VMA drains and invalidates matching TLB and walk-cache entries of the core. -/
  | sfenceVma (c : Nat) (rs1 : Nat) (rs2 : Nat) (len : Nat) (insn : W)
  /-- HFENCE_VVMA (R66): HFENCE.VVMA invalidates matching VS-stage entries of the core. -/
  | hfenceVvma (c : Nat) (rs1 : Nat) (rs2 : Nat) (len : Nat) (insn : W)
  /-- HFENCE_GVMA (R66): HFENCE.GVMA invalidates matching G-stage entries of the core. -/
  | hfenceGvma (c : Nat) (rs1 : Nat) (rs2 : Nat) (len : Nat) (insn : W)
  /-- SINVAL_VMA (R67): A Svinval invalidation instruction invalidates matching entries without a drain. -/
  | sinvalVma (c : Nat) (kind : Nat) (rs1 : Nat) (rs2 : Nat) (len : Nat) (insn : W)
  /-- SFENCE_W_INVAL (R67): SFENCE.W.INVAL drains the store buffer ahead of Svinval invalidations. -/
  | sfenceWInval (c : Nat) (len : Nat) (insn : W)
  /-- SFENCE_INVAL_IR (R67): SFENCE.INVAL.IR orders the Svinval invalidations before later implicit references. -/
  | sfenceInvalIr (c : Nat) (len : Nat) (insn : W)
  /-- CBO_ZERO (R37): CBO.ZERO writes 64 zero bytes as one store that takes ownership of the line. -/
  | cboZero (c : Nat) (rs1 : Nat) (len : Nat) (insn : W)
  /-- CBO_CLEAN (R37): CBO.CLEAN writes a dirty line back, invalidates other copies and keeps the issuer's copy in S. -/
  | cboClean (c : Nat) (rs1 : Nat) (len : Nat) (insn : W)
  /-- CBO_FLUSH (R37): CBO.FLUSH writes a dirty line back and invalidates every copy. -/
  | cboFlush (c : Nat) (rs1 : Nat) (len : Nat) (insn : W)
  /-- CBO_INVAL (R37): CBO.INVAL acts as CBO.FLUSH in every mode. -/
  | cboInval (c : Nat) (rs1 : Nat) (len : Nat) (insn : W)
  /-- PREFETCH (R37): A PREFETCH hint fills a line or is dropped without fault. -/
  | prefetch (c : Nat) (kind : Nat) (rs1 : Nat) (imm : W) (len : Nat)
  /-- WFI (R35): WFI stops dispatch until an interrupt is pending or a debug halt arrives. -/
  | wfi (c : Nat) (len : Nat) (insn : W)
  /-- WFI_WAKE (R446): A pending interrupt wakes a core in WFI, from clock gating or power gating. -/
  | wfiWake (c : Nat)
  /-- PAUSE (R35): PAUSE stops dispatch for 48 core cycles or until an interrupt is taken. -/
  | pause (c : Nat) (len : Nat)
  /-- PAUSE_END (R35): The 48-cycle stop of PAUSE ends and dispatch resumes. -/
  | pauseEnd (c : Nat)
  /-- TIME_READ (R36): A read of the time CSR returns DTIME from the tile's copy, never decreasing. -/
  | timeRead (c : Nat) (rd : Nat) (len : Nat) (insn : W)
  /-- CSR_WRITE (R55): A CSR write is checked for privilege and applied, serialising where R40 says so. -/
  | csrWrite (c : Nat) (csr : Nat) (op : Nat) (rd : Nat) (rs1 : Nat) (imm : Bool) (len : Nat) (insn : W)
  /-- ECALL (R53): ECALL traps with its standard causes. -/
  | ecall (c : Nat)
  /-- EBREAK (R502): EBREAK traps, or halts into debug when the mode's EBREAKM bit is set. -/
  | ebreak (c : Nat)
  /-- MRET (R349): MRET leaves M-mode and switches to the normal world when NS is 1. -/
  | mret (c : Nat) (insn : W)
  /-- SRET (R33): SRET returns from a supervisor trap as the architecture defines. -/
  | sret (c : Nat) (insn : W)
  /-- TRAP (R349): A synchronous exception or interrupt is taken, with a world switch when it enters M-mode from NS 1. -/
  | trap (c : Nat) (intr : Bool) (code : Nat) (tval : W) (gpa : W)
  /-- BRANCH_MISPREDICT (R41): A mispredicted branch resolves, squashes younger instructions and refetches after 13 cycles. -/
  | branchMispredict (c : Nat) (rd : Nat) (taken : Bool) (jump : Bool) (call : Bool) (ret : Bool) (target : W) (len : Nat)
  /-- PAGE_TABLE_WALK (R61): An L2 TLB miss takes a walker and walks the page tables until the leaf is installed or a fault is found. -/
  | pageTableWalk (c : Nat) (va : Nat) (acc : Nat) (spec : Bool)
  /-- DEVICE_STORE_ACK (R85): A device store at the head of the buffer is acknowledged, by mesh acceptance or by the target. -/
  | deviceStoreAck (c : Nat) (target : Bool) (tag : Nat) (status : Nat)
  /-- RD_SHARED (R107): A read for a load is accepted by the home and completed, with a snoop when the Sieve calls for one. -/
  | rdShared (c : Nat) (line : Nat)
  /-- RD_OWN (R107): A read for ownership is accepted by the home and completed in M. -/
  | rdOwn (rq : Rq) (line : Nat)
  /-- UPGRADE (R107): An ownership request for a line held in S or O is completed, or treated as RD_OWN. -/
  | upgrade (c : Nat) (line : Nat)
  /-- RD_ONCE (R107): An agent reads the current value of a line without keeping a copy. -/
  | rdOnce (pos : Nat) (line : Nat)
  /-- WR_LINE (R107): An agent writes a full line into L3 without a tag and every cached copy is invalidated. -/
  | wrLine (pos : Nat) (line : Nat) (data : BitVec 512)
  /-- CBO_FLUSH_REQUEST (R107): The home writes a line to DRAM, invalidates other copies and completes once the controller accepts. -/
  | cboFlushRequest (c : Nat) (line : Nat)
  /-- AMO_HOME (R104): An AMO on an NC line is performed at the home. -/
  | amoHome (c : Nat) (line : Nat)
  /-- NAK (R118): A requester receives NAK, counts it and draws a backoff. -/
  | nak (rq : Rq) (line : Nat)
  /-- NAK_RETRY (R118): The backoff after a NAK ends and the request is retried. -/
  | nakRetry (rq : Rq) (line : Nat)
  /-- FAIRNESS_RESERVATION_DROP (R119): A fairness reservation whose request has not returned within 2,048 mesh cycles is dropped. -/
  | fairnessReservationDrop (line : Nat)
  /-- COMP (R105): The requester receives COMP and uses the data once it also holds the DATA. -/
  | comp (rq : Rq) (line : Nat)
  /-- DATA (R105): The requester receives one line of DATA with its poison bit and durability tag. -/
  | data (rq : Rq) (line : Nat)
  /-- DEFER_RSP (R112): The home receives the final snoop answer after a visibility window and completes the request. -/
  | deferRsp (line : Nat)
  /-- WB_DIRTY (R121): The home applies, parks or discards a writeback of a dirty line. -/
  | wbDirty (c : Nat) (line : Nat)
  /-- EVICT_CLEAN (R115): The home applies a clean eviction notice, clearing the Sieve bit when LAST is set. -/
  | evictClean (c : Nat) (line : Nat)
  /-- WB_ACK (R121): An L2 receives WB_ACK and frees its writeback buffer entry. -/
  | wbAck (c : Nat) (line : Nat)
  /-- WB_ACK_DISCARDED (R121): An L2 receives WB_ACK_DISCARDED and frees its writeback buffer entry. -/
  | wbAckDiscarded (c : Nat) (line : Nat)
  /-- EVICT_ACK (R115): An L2 receives EVICT_ACK and may request the line again. -/
  | evictAck (c : Nat) (line : Nat)
  /-- SNP_SHARED (R106): A shared snoop reaches a stop, which answers into the slot. -/
  | snpShared (ring : Nat) (slot : Nat) (pos : Nat)
  /-- SNP_OWN (R106): An ownership snoop reaches a stop, which supplies or invalidates. -/
  | snpOwn (ring : Nat) (slot : Nat) (pos : Nat)
  /-- SNP_ONCE (R106): A read-once snoop reaches a stop, which supplies without changing state. -/
  | snpOnce (ring : Nat) (slot : Nat) (pos : Nat)
  /-- SNP_INV (R106): An invalidating snoop reaches a stop, which writes back and invalidates. -/
  | snpInv (ring : Nat) (slot : Nat) (pos : Nat)
  /-- COMBINED_RESPONSE (R112): A snoop slot returns to its home, which acts on HOLD, DEFER or the plain response. -/
  | combinedResponse (ring : Nat) (slot : Nat)
  /-- SNOOP_SLOT_RESERVATION (R111): A home that has waited 28 mesh cycles for an empty slot reserves the next full slot. -/
  | snoopSlotReservation (line : Nat) (ring : Nat) (slot : Nat)
  /-- TIMEOUT (R139): A request's deadline passes and the initiating stop synthesises a TIMEOUT response and a record. -/
  | timeout (node : Nat) (tag : Nat)
  /-- LATE_RESPONSE (R139): A response with a stale epoch is dropped and counted, and its index's late count falls. -/
  | lateResponse (node : Nat) (tag : Nat)
  /-- ERROR_RESPONSE (R142): A unit receives a response whose STATUS is not OK and acts as its kind requires. -/
  | errorResponse (node : Nat) (tag : Nat) (status : Nat)
  /-- LINK_CORRECTED (R144): A flit with a single-bit link error is corrected and delivered. -/
  | linkCorrected (node : Nat) (port : Nat) (wire : Nat)
  /-- LINK_UNCORRECTED (R144): A flit with an uncorrectable link error stops the link and asserts ERROR_N. -/
  | linkUncorrected (node : Nat) (port : Nat)
  /-- APPLY (R145): MESH_LINK_CFG APPLY starts the quiescing and reconfiguration of a link. -/
  | apply (ag : Agent) (node : Nat) (port : Nat) (w : W)
  /-- LINK_RECONFIG_DONE (R145): The wire switch and test of a link end and sending resumes. -/
  | linkReconfigDone (node : Nat) (port : Nat)
  /-- CLEAR (R139): MESH_INIT_STATUS CLEAR sets the timeout and late counts to 0. -/
  | clear (ag : Agent) (node : Nat) (w : W)
  /-- CLOSE (R147): LID_SECTION CMD CLOSE puts an OPEN section into DRAINING. -/
  | close (ag : Agent) (node : Nat) (sec : Nat) (w : W)
  /-- OPEN (R147): LID_SECTION CMD OPEN reopens a CLOSED section with no reset source asserted. -/
  | lidOpen (ag : Agent) (node : Nat) (sec : Nat) (w : W)
  /-- LID_DRAIN (R147): A section starts draining on a power-down, block, core or partition reset or loss of lock. -/
  | lidDrain (node : Nat) (sec : Nat)
  /-- LID_DRAIN_LIMIT (R147): The drain limit expires, answers and abandons outstanding work and closes the section. -/
  | lidDrainLimit (node : Nat) (sec : Nat)
  /-- LID_CLOSED (R147): The last drain condition is met and the section becomes CLOSED. -/
  | lidClosed (node : Nat) (sec : Nat)
  /-- DOMAIN_OFF (R147): A request at a draining or closed section, or presented by its block, completes with DOMAIN_OFF. -/
  | domainOff (node : Nat) (tag : Nat)
  /-- CG_BEGIN (R151): CG.BEGIN drains the store buffer, checkpoints the core and opens a group on the bound stream. -/
  | cgBegin (c : Nat) (rd : Nat) (rs1 : Nat) (len : Nat) (insn : W)
  /-- CG_END (R163): CG.END commits an open group through staging, sequencing, visibility and record. -/
  | cgEnd (c : Nat) (rd : Nat) (rs1 : Nat) (len : Nat) (insn : W)
  /-- CG_ABORT (R157): CG.ABORT ends the open group with EXPLICIT, or retires as a no-op. -/
  | cgAbort (c : Nat) (rs1 : Nat) (len : Nat) (insn : W)
  /-- CG_TEST (R168): CG.TEST writes 1 to rd when a group is open and 0 otherwise. -/
  | cgTest (c : Nat) (rd : Nat) (len : Nat) (insn : W)
  /-- FENCE_D (R168): FENCE.D waits until every dependency entry of the core is durable or LOST. -/
  | fenceD (c : Nat) (len : Nat) (insn : W)
  /-- CG_INTERRUPT_DEFERRAL (R161): A normal-band interrupt or swap request deferred for DEFER_US aborts the group with INTERRUPT. -/
  | cgInterruptDeferral (c : Nat)
  /-- STAGING_RESERVATION (R193): The journal engine receives a staging reservation and grants it or holds it waiting. -/
  | stagingReservation (c : Nat)
  /-- STAGING_GRANT (R163): The core receives its staging grant and sends its commit request. -/
  | stagingGrant (c : Nat)
  /-- JOURNAL_FULL (R163): A reservation unsatisfied for 10 µs aborts the group and is cancelled. -/
  | journalFull (c : Nat)
  /-- STAGING_CANCEL (R193): The journal engine drops or returns a cancelled reservation. -/
  | stagingCancel (c : Nat)
  /-- COMMIT_REQUEST (R176): The Spine accepts a commit request, assigns a number or parks it, and replies. -/
  | commitRequest (c : Nat)
  /-- COMMIT_REPLY (R163): The reply with g reaches the L2, which makes the write set visible and opens its DEFER window. -/
  | commitReply (c : Nat)
  /-- FLIP_WINDOW_END (R123): The visibility window of 5 + ceil(N/14) mesh cycles ends and deferred snoops are answered. -/
  | flipWindowEnd (c : Nat)
  /-- RECORD_SEGMENT (R163): The journal engine receives a group's written lines and forms the record. -/
  | recordSegment (stream : Nat) (g : Nat)
  /-- WATERMARK_PUBLICATION (R185): A destination takes a publication flit and updates its copies of W and A, marking LOST entries. -/
  | watermarkPublication (dest : Nat)
  /-- CG_DEPSEQ_WRITE (R175): A write to CG_DEPSEQ asks the Spine for A and raises the entry, limited by it, when the answer arrives. -/
  | cgDepseqWrite (c : Nat) (op : Nat) (rd : Nat) (rs1 : Nat) (imm : Bool) (len : Nat)
  /-- CG_DEPSEQ_ANSWER (R175): The Spine's answer of A arrives and the CG_DEPSEQ write completes. -/
  | cgDepseqAnswer (c : Nat)
  /-- LOST_CLEAR (R173): A 1 written to CG_STATUS.LOST empties every LOST entry of the core. -/
  | lostClear (c : Nat) (op : Nat) (rd : Nat) (rs1 : Nat) (imm : Bool) (len : Nat)
  /-- PUBLICATION_ROUND (R184): The Spine sends one round of watermark publications to its 28 destinations. -/
  | publicationRound
  /-- RESOLUTION (R181): A number becomes resolved at its level and the durable watermark advances. -/
  | resolution (stream : Nat)
  /-- STREAM_ENABLE (R180): EN written 1 sweeps and opens a DISABLED stream. -/
  | streamEnable (ag : Agent) (stream : Nat) (level : Nat)
  /-- STREAM_DISABLE (R180): EN written 0 disables a fenced, disabled or drained stream, or is ignored. -/
  | streamDisable (ag : Agent) (stream : Nat) (level : Nat)
  /-- FENCE_STREAM (R186): CMD FENCE fences a stream at its loss point and gives parked requests lost numbers. -/
  | fenceStream (ag : Agent) (stream : Nat)
  /-- RESUME (R180): CMD RESUME reopens a PAUSED stream and serves its parked requests. -/
  | resume (ag : Agent) (stream : Nat)
  /-- RESTART (R180): CMD RESTART sweeps and reopens a FENCED stream from NEXT. -/
  | restart (ag : Agent) (stream : Nat)
  /-- SWEEP (R189): A destination receives SWEEP and drops or poisons the stream's tags. -/
  | sweep (stream : Nat) (dest : Nat)
  /-- SWEEP_ANSWER (R189): The Spine collects a sweep answer and opens the stream once all have answered. -/
  | sweepAnswer (stream : Nat) (dest : Nat)
  /-- CLOSE_MARK (R196): The Spine and journal engine take a core's close mark and discard or void its outstanding work. -/
  | closeMark (c : Nat)
  /-- JOURNAL_APPEND (R194): The journal engine appends a stream's next complete record to its mirrored region. -/
  | journalAppend (stream : Nat)
  /-- APPEND_ACCEPTED (R181): Both channels of the mirrored pair accept a record and the number reaches level 1. -/
  | appendAccepted (stream : Nat) (g : Nat)
  /-- DRAIN_PTR_WRITE (R195): A write to JRN_DRAIN_PTR frees region space, or is ignored and sets DRAIN_ERR. -/
  | drainPtrWrite (ag : Agent) (stream : Nat) (w : W)
  /-- PARK (R199): PAIR_CTL CMD PARK puts the trailer into PAIRWAIT. -/
  | park (c : Nat) (op : Nat) (rd : Nat) (rs1 : Nat) (imm : Bool) (len : Nat) (insn : W)
  /-- BIND (R199): PAIR_CTL CMD BIND checks the conditions and binds the pair by copying state. -/
  | bind (c : Nat) (op : Nat) (rd : Nat) (rs1 : Nat) (imm : Bool) (len : Nat) (insn : W)
  /-- UNBIND (R201): PAIR_CTL CMD UNBIND dissolves the pair after its interval is compared, or releases a PAIRWAIT core. -/
  | unbind (c : Nat) (op : Nat) (rd : Nat) (rs1 : Nat) (imm : Bool) (len : Nat) (insn : W)
  /-- PAIR_SYNC (R205): PAIR.SYNC closes the interval and retires once the comparison passes, or is a no-op unpaired. -/
  | pairSync (c : Nat) (len : Nat) (insn : W)
  /-- INTERVAL_END (R205): An interval of a pair ends at one of its closing events. -/
  | intervalEnd (i : Nat)
  /-- INTERVAL_COMPARISON (R209): The Tongs compare both signatures and store streams, releasing the stores or rolling back. -/
  | intervalComparison (i : Nat) (sig : W) (stores : List StoreEnt) (race : Bool)
  /-- VOTE_SPARE_POWERED (R212): The voting spare is powered and the checkpoint is copied into three cores. -/
  | voteSparePowered (i : Nat)
  /-- VOTE_RESULT (R213): The Tongs compare three results and apply the vote's outcome. -/
  | voteResult (i : Nat) (tSig : W) (tStores : List StoreEnt) (sSig : W) (sStores : List StoreEnt) (fin : Ckpt)
  /-- VOTE_LIMIT (R213): The vote limit expires and the pair enters STOPPED. -/
  | voteLimit (i : Nat)
  /-- ENABLE (R251): FAB_PORT_CTL ENABLE starts training, or written 0 squelches the port. -/
  | enable (ag : Agent) (p : Nat) (w : W)
  /-- RETRAIN (R251): CMD RETRAIN takes a QUARANTINED port back to TRAINING. -/
  | retrain (ag : Agent) (p : Nat) (w : W)
  /-- LANE_SWAP (R225): CMD LANE_SWAP moves an active lane onto the spare while the link runs. -/
  | laneSwap (ag : Agent) (p : Nat) (w : W)
  /-- LANE_SWAP_PACKET (R225): A link-local LANE_SWAP packet advances the agreed swap at the peer. -/
  | laneSwapPacket
  /-- TRAINING_COMPLETE (R224): Training of a port ends with LINK_UP on 4 or 2 lanes. -/
  | trainingComplete (p : Nat) (lanes : Nat) (rtt : Nat)
  /-- TRAINING_RETRY (R224): A failed training is retried every 100 ms while ENABLE is 1. -/
  | trainingRetry (p : Nat)
  /-- ATTEST_NONCE (R251): A port receives the peer's nonce and its SP sends evidence over it. -/
  | attestNonce
  /-- ATTEST_EVIDENCE (R252): A port receives the peer's evidence and its SP checks it. -/
  | attestEvidence
  /-- ATTEST_RESULT (R251): A port receives the peer's accept or reject and becomes ACTIVE or QUARANTINED. -/
  | attestResult
  /-- ATTESTATION_LIMIT (R251): The 200 ms attestation limit expires and the port is QUARANTINED. -/
  | attestationLimit (p : Nat)
  /-- DATA_FOLIO (R227): A receiver accepts or discards a DATA folio, NAKing at the first discard. -/
  | dataFolio (p : Nat) (f : Folio)
  /-- IDLE_FOLIO (R227): A receiver takes an IDLE folio's acknowledgement and credits. -/
  | idleFolio (p : Nat) (f : Folio)
  /-- FOLIO_NAK (R228): A sender receives NAK and resends from ACK + 1. -/
  | folioNak (p : Nat) (ack : Nat)
  /-- NAK_REPEAT (R227): The receiver repeats its NAK every 5 µs until the expected folio arrives. -/
  | nakRepeat (p : Nat)
  /-- REPLAY_TIMEOUT (R228): ACK has not advanced for 20 µs and the sender resends from the oldest folio. -/
  | replayTimeout (p : Nat)
  /-- LINK_DOWN (R230): The resend limit or loss of link takes the port DOWN and back to TRAINING. -/
  | linkDown (p : Nat) (loss : Bool)
  /-- SWITCH_FORWARD (R236): The switch looks up a packet's DST and forwards, delivers or discards it. -/
  | switchForward (p : Nat)
  /-- APERTURE_ACCESS (R241): A core access in an aperture reaches node 42 and is sent as a remote request or answered DENIED. -/
  | apertureAccess (node : Nat) (tag : Nat)
  /-- WRITE (R244): A node performs an inbound WRITE through the home, or denies it. -/
  | write
  /-- READ (R244): A node performs an inbound READ through the home, or denies it. -/
  | read
  /-- ATOMIC (R244): A node performs an inbound ATOMIC through the home, or denies it. -/
  | atomic
  /-- READ_RSP (R243): Node 42 receives a remote read response and answers the core. -/
  | readRsp
  /-- WRITE_ACK (R242): Node 42 receives a WRITE_ACK and acknowledges the core's write. -/
  | writeAck
  /-- ATOMIC_RSP (R243): Node 42 receives an ATOMIC_RSP and answers the core with the old value. -/
  | atomicRsp
  /-- REMOTE_READ_TIMEOUT (R243): No response arrives within RREAD_US and node 42 answers the core with TIMEOUT. -/
  | remoteReadTimeout (tag : Nat)
  /-- MSG (R247): A target places a MSG into a receive ring slot or refuses it. -/
  | msg
  /-- MSG_RSP (R246): The sender receives MSG_RSP, writes the descriptor's STATUS and advances HEAD. -/
  | msgRsp
  /-- TAIL (R246): A write to FAB_SQ_PTR TAIL posts descriptors that the device then sends. -/
  | tail (ag : Agent) (q : Nat) (w : W)
  /-- CONSUMER (R247): A write to FAB_RXRING_PTR CONSUMER releases receive slots. -/
  | consumer (ag : Agent) (ring : Nat) (w : W)
  /-- TIME_SYNC (R249): A device receives TIME_SYNC from its upstream port and corrects DTIME. -/
  | timeSync
  /-- TIME_SYNC_INTERVAL (R249): SYNC_US elapses and a downstream port sends TIME_SYNC. -/
  | timeSyncInterval (p : Nat)
  /-- TIME_DELAY_REQ (R249): A downstream port answers TIME_DELAY_REQ with the arrival time. -/
  | timeDelayReq
  /-- TIME_DELAY_RSP (R249): A device receives the delay response and measures the link delay. -/
  | timeDelayRsp
  /-- REMOTE_RESET (R254): The SP verifies a REMOTE_RESET command and acknowledges or rejects it. -/
  | remoteReset
  /-- REMOTE_RESET_VERIFIED (R254): Verification completes and an accepted command causes a system reset. -/
  | remoteResetVerified
  /-- REMOTE_RESET_RSP (R232): The fabric manager's node receives the accept or reject of a remote reset. -/
  | remoteResetRsp
  /-- QUIRE (R265): A replica slot checks and appends the records of a quire and acknowledges. -/
  | quire
  /-- ACK (R267): The primary takes a cumulative ACK and raises the replica's held number. -/
  | ack
  /-- REJECT (R267): The primary takes a REJECT and starts catch-up or marks the replica SILENT. -/
  | reject
  /-- PROBE (R265): A replica slot answers a PROBE with an ACK. -/
  | probe
  /-- PROBE_INTERVAL (R267): PEER_TIMEOUT_US / 4 elapses and the primary probes a SILENT replica. -/
  | probeInterval (stream : Nat) (r : Nat)
  /-- REJOIN (R267): The primary takes a REJOIN and moves the replica into CATCH_UP. -/
  | rejoin
  /-- TERM_REQUEST (R272): A voter grants or refuses a candidate's proposed term. -/
  | termRequest
  /-- TERM_GRANT (R266): A candidate counts a grant and takes over on a majority. -/
  | termGrant
  /-- TERM_REFUSE (R266): A candidate counts a refusal and fails when a majority can no longer be reached. -/
  | termRefuse
  /-- LAST_GASP (R265): A replica slot applies a LAST_GASP and becomes ENDED, or records it as stale. -/
  | lastGasp
  /-- CMD_PROMOTE (R266): JRN_REPL_STATE CMD PROMOTE makes the stream a candidate in a new term. -/
  | cmdPromote (ag : Agent) (stream : Nat) (w : W)
  /-- STEP_DOWN (R266): JRN_REPL_STATE CMD STEP_DOWN fences the stream and deposes it. -/
  | stepDown (ag : Agent) (stream : Nat) (w : W)
  /-- PROMOTION_LIMIT (R266): A candidate reaches no majority within 10 ms and returns to IDLE. -/
  | promotionLimit (stream : Nat)
  /-- REPLICA_SILENT (R267): Nothing outstanding is answered for PEER_TIMEOUT_US and the replica becomes SILENT. -/
  | replicaSilent (stream : Nat) (r : Nat)
  /-- CATCHUP_WALK (R269): The catch-up header walk finds the start record or ends in CATCHUP_GAP. -/
  | catchupWalk (stream : Nat) (r : Nat)
  /-- CATCHUP_SWITCH (R269): The catch-up reader passes the highest appended number and the replica becomes LIVE. -/
  | catchupSwitch (stream : Nat) (r : Nat)
  /-- SLOT_VALID (R265): VALID written 1 arms a replica slot and sends REJOIN, or written 0 turns it OFF. -/
  | slotValid (ag : Agent) (slot : Nat) (w : W)
  /-- LAST_GASP_BUDGET (R275): GASP_US passes, the engine sends LAST_GASP with F and the stream ends. -/
  | lastGaspBudget (stream : Nat)
  /-- DEGRADED_FROM_CLEAR (R268): A write of 0 to JRN_REPL_DEGRADED clears FROM. -/
  | degradedFromClear (ag : Agent) (stream : Nat) (w : W)
  /-- CHANNEL_TRAINING (R284): Macen trains a channel through the seven JESD79-4 steps, or leaves it out. -/
  | channelTraining (ch : Nat) (pop : DimmPop)
  /-- DRAM_ZEROING (R285): Each controller writes zeros with valid check bits to every mapped line. -/
  | dramZeroing
  /-- MCT_DECODE_WRITE (R289): A write to MCT_DECODE is accepted only before the boot core is released. -/
  | mctDecodeWrite (ag : Agent) (n : Nat) (w : W)
  /-- MC_READ (R304): A read enters a channel's queue and is scheduled by age, class and row hit. -/
  | mcRead (line : Nat) (cls : Nat) (part : Nat) (bucket : Bool)
  /-- MC_WRITE (R290): A write enters a channel's queue, or both queues of a mirrored pair together. -/
  | mcWrite (line : Nat) (data : BitVec 512) (mask : Nat) (poison : Bool) (cls : Nat) (part : Nat) (bucket : Bool) (b : Burst) (pb : Burst)
  /-- DRAM_READ_COMPLETE (R291): A burst returns and is delivered, corrected, or poisoned under the ECC rules. -/
  | dramReadComplete (ch : Nat) (hits : List Nat) (b : Burst) (pb : Burst)
  /-- REFRESH (R301): A rank's refresh interval elapses and a refresh is issued or postponed. -/
  | refresh (ch : Nat) (rank : Nat) (postpone : Bool)
  /-- ZQCS (R286): ZQCS is issued every 128 ms inside a refresh window. -/
  | zqcs (ch : Nat) (rank : Nat)
  /-- CA_PARITY_FAILURE (R286): A command fails CA parity and is retried, and a fifth failure fails the channel. -/
  | caParityFailure (ch : Nat)
  /-- CHANNEL_LOST (R299): A channel leaves service and ends its queued requests with TARGET_ERROR. -/
  | channelLost (ch : Nat)
  /-- DEVICE_ERASED (R295): Macen places one device of one rank in erasure. -/
  | deviceErased (ch : Nat) (rank : Nat) (dev : Nat)
  /-- PPR_APPLIED (R296): Macen repairs a row live with soft post-package repair. -/
  | pprApplied (ch : Nat) (line : Nat) (place : Nat)
  /-- RANK_SPARED (R297): Macen copies a failing rank into the spare rank and redirects it. -/
  | rankSpared (ch : Nat) (rank : Nat)
  /-- RANK_COPY_DONE (R297): The rank copy ends and the rank is redirected to the spare. -/
  | rankCopyDone (ch : Nat)
  /-- PATROL_SCRUB (R300): The patrol scrub reads its next line and corrects or poisons it. -/
  | patrolScrub (ch : Nat) (b : Burst) (pb : Burst)
  /-- SELF_REFRESH_ENTRY (R302): At the RCP's request a channel finishes its commands and enters self-refresh. -/
  | selfRefreshEntry (ch : Nat)
  /-- SELF_REFRESH_EXIT (R302): A request arrives and the channel leaves self-refresh within 2 µs. -/
  | selfRefreshExit (ch : Nat)
  /-- ECC_COUNT_CLEAR (R294): MCT_ECC_COUNT CLEAR sets both error counts to 0. -/
  | eccCountClear (ag : Agent) (ch : Nat) (w : W)
  /-- PCIE_OUTBOUND_REQUEST (R312): A core access in a PCIe window becomes an MRd, MWr or configuration request. -/
  | pcieOutboundRequest (node : Nat) (tag : Nat) (p : Nat) (tenBit : Bool)
  /-- PCIE_COMPLETION (R312): A completion returns and the controller answers the initiator with a mesh status. -/
  | pcieCompletion (c : Nat) (tag : Nat) (status : Nat) (data : Nat) (poisoned : Bool)
  /-- PCIE_CPL_TIMEOUT (R312): CPL_TIMEOUT_US passes without a completion and the controller returns TIMEOUT. -/
  | pcieCplTimeout (c : Nat) (tag : Nat)
  /-- PCIE_INBOUND_REQUEST (R317): The IOMMU assigns, translates and checks an inbound request. -/
  | pcieInboundRequest (c : Nat) (p : Nat) (rid : Nat) (write : Bool) (addr : Nat) (len : Nat) (data : List Byte) (pasid : Bool) (bar2 : Bool) (tenBit : Bool)
  /-- PCIE_LINK_DOWN (R314): A root port's link goes up or down and raises its source. -/
  | pcieLinkDown (c : Nat) (p : Nat) (up : Bool) (width : Nat) (speed : Nat) (ltssm : Nat) (surprise : Bool)
  /-- PCIE_AER (R314): A root port logs an AER error and raises its source. -/
  | pcieAer (c : Nat) (p : Nat) (sev : Nat)
  /-- PERST_REL (R310): PCIE_PORT_CFG.PERST_REL drives a port's PERST_N high or low. -/
  | perstRel (ag : Agent) (c : Nat) (p : Nat) (w : W)
  /-- INVAL_PARTITION (R325): IOMMU_INVAL CMD 1 invalidates every entry of the partition. -/
  | invalPartition (ag : Agent) (part : Nat) (w : W)
  /-- INVAL_FAT_ENTRY (R325): IOMMU_INVAL CMD 2 invalidates the entries of one FAT entry. -/
  | invalFatEntry (ag : Agent) (part : Nat) (w : W)
  /-- INVAL_VMID (R325): IOMMU_INVAL CMD 3 invalidates the entries of one VMID. -/
  | invalVmid (ag : Agent) (part : Nat) (w : W)
  /-- INVAL_DONE (R325): An IOMMU invalidation completes and raises the invalidation-done source. -/
  | invalDone (part : Nat)
  /-- CPH_TAIL (R330): A write to CPH_RING_PTR TAIL posts job descriptors that the cluster fetches. -/
  | cphTail (ag : Agent) (k : Nat) (r : Nat) (w : W)
  /-- DESCRIPTOR_FETCH (R330): A cluster fetches and starts the next descriptor of a ring in its turn. -/
  | descriptorFetch (k : Nat)
  /-- AES_ENCRYPT (R332): Job opcode 0x01 encrypts SRC with AES in the selected mode. -/
  | aesEncrypt (k : Nat) (r : Nat) (ix : Nat)
  /-- AES_DECRYPT (R332): Job opcode 0x02 decrypts SRC with AES in the selected mode. -/
  | aesDecrypt (k : Nat) (r : Nat) (ix : Nat)
  /-- AES_CMAC_GENERATE (R332): Job opcode 0x03 generates an AES-CMAC. -/
  | aesCmacGenerate (k : Nat) (r : Nat) (ix : Nat)
  /-- AES_CMAC_VERIFY (R332): Job opcode 0x04 verifies an AES-CMAC. -/
  | aesCmacVerify (k : Nat) (r : Nat) (ix : Nat)
  /-- TDES_ENCRYPT (R332): Job opcode 0x05 encrypts with TDES. -/
  | tdesEncrypt (k : Nat) (r : Nat) (ix : Nat)
  /-- TDES_DECRYPT (R332): Job opcode 0x06 decrypts with TDES. -/
  | tdesDecrypt (k : Nat) (r : Nat) (ix : Nat)
  /-- RETAIL_MAC_GENERATE (R332): Job opcode 0x07 generates a retail MAC. -/
  | retailMacGenerate (k : Nat) (r : Nat) (ix : Nat)
  /-- RETAIL_MAC_VERIFY (R332): Job opcode 0x08 verifies a retail MAC. -/
  | retailMacVerify (k : Nat) (r : Nat) (ix : Nat)
  /-- HASH (R332): Job opcode 0x10 hashes SRC with the selected algorithm. -/
  | hash (k : Nat) (r : Nat) (ix : Nat)
  /-- HMAC_GENERATE (R332): Job opcode 0x11 generates an HMAC. -/
  | hmacGenerate (k : Nat) (r : Nat) (ix : Nat)
  /-- HMAC_VERIFY (R332): Job opcode 0x12 verifies an HMAC. -/
  | hmacVerify (k : Nat) (r : Nat) (ix : Nat)
  /-- RSA_VERIFY (R332): Job opcode 0x20 verifies an RSA signature. -/
  | rsaVerify (k : Nat) (r : Nat) (ix : Nat)
  /-- RSA_SIGN (R332): Job opcode 0x21 signs with RSA, with blinding. -/
  | rsaSign (k : Nat) (r : Nat) (ix : Nat)
  /-- ECDSA_VERIFY (R332): Job opcode 0x22 verifies an ECDSA signature. -/
  | ecdsaVerify (k : Nat) (r : Nat) (ix : Nat)
  /-- ECDSA_SIGN (R332): Job opcode 0x23 signs with ECDSA and deterministic k. -/
  | ecdsaSign (k : Nat) (r : Nat) (ix : Nat)
  /-- ED25519_VERIFY (R332): Job opcode 0x24 verifies an Ed25519 signature. -/
  | ed25519Verify (k : Nat) (r : Nat) (ix : Nat)
  /-- ED25519_SIGN (R332): Job opcode 0x25 signs with Ed25519. -/
  | ed25519Sign (k : Nat) (r : Nat) (ix : Nat)
  /-- ML_DSA_65_VERIFY (R332): Job opcode 0x26 verifies an ML-DSA-65 signature. -/
  | mlDsa65Verify (k : Nat) (r : Nat) (ix : Nat)
  /-- ML_DSA_65_SIGN (R332): Job opcode 0x27 signs with ML-DSA-65, hedged or deterministic. -/
  | mlDsa65Sign (k : Nat) (r : Nat) (ix : Nat)
  /-- PIN_TRANSLATE (R338): Job opcode 0x30 decrypts, checks and re-encrypts a PIN block. -/
  | pinTranslate (k : Nat) (r : Nat) (ix : Nat)
  /-- DUKPT_PIN_TRANSLATE (R339): Job opcode 0x31 derives the DUKPT key and translates a PIN block. -/
  | dukptPinTranslate (k : Nat) (r : Nat) (ix : Nat)
  /-- DUKPT_MAC_VERIFY (R339): Job opcode 0x32 derives the DUKPT key and verifies a MAC. -/
  | dukptMacVerify (k : Nat) (r : Nat) (ix : Nat)
  /-- CRYPTOGRAM_VERIFY (R340): Job opcode 0x33 derives card and session keys and verifies a cryptogram. -/
  | cryptogramVerify (k : Nat) (r : Nat) (ix : Nat)
  /-- RANDOM (R332): Job opcode 0x3F writes DST_LEN bytes from the DRBG. -/
  | random (k : Nat) (r : Nat) (ix : Nat)
  /-- JOB_COMPLETE (R333): A job completes, writes DST_LEN and STATUS, and HEAD advances in ring order. -/
  | jobComplete (k : Nat) (r : Nat) (ix : Nat)
  /-- CIPHER_SELFTEST (R344): At power-up a cluster runs its self-tests and resumes each ring at HEAD. -/
  | cipherSelftest (k : Nat) (failed : Nat)
  /-- WPC_SYNC_GO (R356): WPC_SYNC GO starts the invalidation of entries covering a changed range. -/
  | wpcSyncGo (ag : Agent) (w : W)
  /-- WPC_SYNC_DONE (R356): Every core and agent has acknowledged and DONE reads 1. -/
  | wpcSyncDone
  /-- LOCK (R360): WPC_CFG LOCK fixes the table base, enable and secure ways until a system reset. -/
  | lock (ag : Agent) (w : W)
  /-- RESET (R363): WPC_PART_CTL CMD RESET starts a partition reset. -/
  | reset (ag : Agent) (part : Nat) (w : W)
  /-- RELEASE (R364): WPC_PART_CTL CMD RELEASE releases the harts of a HELD partition. -/
  | release (ag : Agent) (part : Nat) (w : W)
  /-- PARTITION_RESET (R364): The WPC carries a partition reset through its six steps. -/
  | partitionReset (part : Nat)
  /-- PARTITION_FLUSH_DONE (R364): The L2s of the partition have written back and been acknowledged, and step 4 begins. -/
  | partitionFlushDone (part : Nat)
  /-- FLUSH_LIMIT (R365): FLUSH_LIMIT_US passes with step 3 incomplete and the device performs a system reset. -/
  | flushLimit (part : Nat)
  /-- WCALL (R351): WCALL traps to the monitor with mcause 24. -/
  | wcall (c : Nat) (insn : W)
  /-- WCALL_VERSION (R351): WCALL function VERSION returns the monitor version and offered classes. -/
  | wcallVersion (c : Nat)
  /-- PAIR_BIND (R351): WCALL function PAIR_BIND binds the caller as leader of a pair. -/
  | pairBind (c : Nat)
  /-- PAIR_UNBIND (R351): WCALL function PAIR_UNBIND dissolves the caller's pair. -/
  | pairUnbind (c : Nat)
  /-- PART_RESET_SELF (R351): WCALL function PART_RESET_SELF starts a partition reset of the caller's partition. -/
  | partResetSelf (c : Nat)
  /-- SOURCE_PENDING (R371): A wired source's input rises or stays high and the source becomes pending at its target. -/
  | sourcePending (src : Nat) (high : Bool)
  /-- MESSAGE_INTERRUPT (R374): A message interrupt sets the message bit of its priority at its target. -/
  | messageInterrupt (hart : Nat) (page : Nat) (prio : Nat)
  /-- EVR_TGT_CLAIM (R380): A core read of EVR_TGT_CLAIM claims the best pending entry below THRESH. -/
  | evrTgtClaim (ag : Agent) (h : Nat) (t : Nat)
  /-- EVR_TGT_EOI (R381): A write to EVR_TGT_EOI ends a wired source's service, re-pending a high level source. -/
  | evrTgtEoi (ag : Agent) (h : Nat) (t : Nat) (w : W)
  /-- EVR_TGT_INJECT (R374): A write to EVR_TGT_INJECT sets a message bit as an interprocessor interrupt. -/
  | evrTgtInject (ag : Agent) (h : Nat) (t : Nat) (w : W)
  /-- EVR_SRC_CFG_WRITE (R382): A write to EVR_SRC_CFG enables, disables or reroutes a source, keeping its place in the order. -/
  | evrSrcCfgWrite (ag : Agent) (n : Nat) (w : W)
  /-- NMI_ENTRY (R377): An NMI-class event is taken in M-mode whatever the enables, setting NMI_ACTIVE. -/
  | nmiEntry (c : Nat)
  /-- KEY_GENERATE (R399): SP command KEY_GENERATE creates a key and returns its handle. -/
  | keyGenerate (ag : Agent) (cls : Nat) (secure : Bool) (part : Nat) (usage : Nat) (alg : Nat) (size : Nat)
  /-- KEY_IMPORT (R399): SP command KEY_IMPORT unwraps a key block or takes a public key. -/
  | keyImport (ag : Agent) (kek : Nat) (secure : Bool) (part : Nat) (alg : Nat) (size : Nat) (block : List Byte)
  /-- KEY_EXPORT (R399): SP command KEY_EXPORT wraps an exportable key under a KEK key. -/
  | keyExport (ag : Agent) (h : Nat) (kek : Nat)
  /-- KEY_DELETE (R337): SP command KEY_DELETE frees a handle and the clusters drop its entry. -/
  | keyDelete (ag : Agent) (h : Nat)
  /-- KEY_INFO (R399): SP command KEY_INFO returns a key's class, owner, usage and check value. -/
  | keyInfo (ag : Agent) (h : Nat)
  /-- FM_KEY_SET (R399): SP command FM_KEY_SET installs the fabric-manager key hashes. -/
  | fmKeySet (ag : Agent) (hashes : List Byte)
  /-- IMAGE_ARM (R399): SP command IMAGE_ARM verifies a slot's bundle and appends ARMED. -/
  | imageArm (ag : Agent) (slot : Nat) (maxA : Nat) (trialS : Nat) (good : Bool)
  /-- TRIAL_CONFIRM (R413): SP command TRIAL_CONFIRM appends CONFIRMED, raises the rollback counter and stops the watchdog. -/
  | trialConfirm (ag : Agent) (fails : Nat) (bad : List Nat)
  /-- REVOKE_IMAGE_KEY (R415): SP command REVOKE_IMAGE_KEY blows an image-key slot's revocation group when both slots stay bootable. -/
  | revokeImageKey (ag : Agent) (k : Nat) (bad : List Nat)
  /-- REVOKE_DEBUG_KEY (R399): SP command REVOKE_DEBUG_KEY blows a debug-key slot's revocation group. -/
  | revokeDebugKey (ag : Agent) (k : Nat) (bad : List Nat)
  /-- LC_ADVANCE (R391): SP command LC_ADVANCE burns the target life-cycle group. -/
  | lcAdvance (ag : Agent) (target : Nat) (bad : List Nat)
  /-- KEYSTORE_ERASE (R399): SP command KEYSTORE_ERASE erases both key-store copies. -/
  | keystoreErase (ag : Agent)
  /-- ATTEST (R420): SP command ATTEST produces signed evidence over a nonce. -/
  | attest (ag : Agent) (nonce : List Byte)
  /-- TAMPER (R401): A sensor trips, keys are zeroised and a power-on reset is forced. -/
  | tamper (sensor : Nat)
  /-- SP_BOOT (R402): The SP ROM checks itself, loads the key store and verifies and selects a bundle. -/
  | spBoot (goods : List Bool) (bad : List Nat)
  /-- TRIAL_WATCHDOG_WARNING (R412): The trial watchdog reaches 90% of TRIAL_S and raises SP source 2. -/
  | trialWatchdogWarning
  /-- TRIAL_WATCHDOG_EXPIRY (R412): The trial watchdog expires and causes a system reset. -/
  | trialWatchdogExpiry
  /-- CHUNK (R417): RCV_CTL CMD CHUNK writes the chunk into the target slot's bundle area. -/
  | chunk (data : List Byte) (w : W)
  /-- FINISH (R417): RCV_CTL CMD FINISH verifies the received bundle and arms it or shows REJECTED. -/
  | finish (w : W) (good : Bool)
  /-- ABORT (R417): RCV_CTL CMD ABORT abandons the recovery transfer. -/
  | rcvAbort (w : W)
  /-- FABRIC_RECOVERY (R418): The SP admits a fabric neighbour and reads the recovery bundle through aperture 4,095. -/
  | fabricRecovery (p : Nat) (off : Nat) (data : List Byte) (fin : Bool) (good : Bool)
  /-- POWER_ON_RESET (R425): A power-on reset clears everything but the backup domain and is recorded. -/
  | powerOnReset (cause : Nat)
  /-- SYSTEM_RESET (R425): A system reset clears the device except what it spares and is recorded. -/
  | systemReset (cause : Nat)
  /-- CORE_RESET (R425): A core reset resets the named core slots as steps 2 to 4 of a partition reset. -/
  | coreReset (cs : List Nat)
  /-- BLOCK_RESET (R425): A block reset closes the block's Lid sections and resets the block. -/
  | blockReset (u : Nat)
  /-- RESET_IN_N (R426): RESET_IN_N falls past its glitch filter and causes a system reset. -/
  | resetInN (low : Bool)
  /-- PWRGOOD (R426): PWRGOOD or a rail changes and a power-on reset is entered or can be released. -/
  | pwrgood (sig : Nat) (good : Bool)
  /-- THERMTRIP (R450): The THERMTRIP comparator trips, drives THERMTRIP_N low and forces a power-on reset. -/
  | thermtrip
  /-- RESET_HOLD_END (R430): The 10 µs hold after the last reset source ends and the release sequence restarts. -/
  | resetHoldEnd
  /-- DOMAIN_RELEASE (R434): A release step's condition, lock and counted gap are met and its domains leave reset. -/
  | domainRelease (step : Nat) (cal : List Reading)
  /-- OPTION_LOADING (R431): The option loader copies fuses and the option page into shadow registers. -/
  | optionLoading (src : Nat) (recov : Bool)
  /-- LOCK_LOSS (R435): A domain loses PLL lock and is reset or held as its kind requires. -/
  | lockLoss (d : ClockDom)
  /-- REGULATOR_FAULT (R442): An integrated regulator fails and its blocks are closed or the device resets. -/
  | regulatorFault (reg : Nat) (units : List Nat)
  /-- RAIL_NEAR_EDGE (R443): A rail comes within 2% of an edge of its window and raises its RAS source. -/
  | railNearEdge (rail : Nat)
  /-- VBAK_LOST (R429): VBAK falls below its window and the backup domain loses its contents. -/
  | vbakLost
  /-- POWER_FAIL_WARNING (R385): PFW_N passes its glitch filter, the NMI source pends and replicated streams begin their last gasp. -/
  | powerFailWarning
  /-- PROCHOT_N (R449): PROCHOT_N has been low for 1 µs and the throttle begins. -/
  | prochotN (low : Bool)
  /-- THROTTLE_ENTRY (R449): A sensor reads at least 110 °C and every partition runs at P3. -/
  | throttleEntry (sensor : Nat) (tj : Int)
  /-- THROTTLE_EXIT (R449): Every sensor has read at most 105 °C for 10 ms and partitions return to their target. -/
  | throttleExit (sensor : Nat) (tj : Int)
  /-- TARGET (R445): A write to RCP_PSTATE.TARGET starts a P-state change. -/
  | target (ag : Agent) (p : Nat) (w : W)
  /-- PSTATE_CHANGE_DONE (R445): A P-state change finishes relock, voltage ramp and restart and CHANGING clears. -/
  | pstateChangeDone (p : Nat)
  /-- PWR_ON (R447): RCP_BLOCK_CTL PWR_ON powers a block down through its Lid or powers it up. -/
  | pwrOn (ag : Agent) (u : Nat) (w : W)
  /-- POWER_GATE_DONE (R447): A block's sections are CLOSED and its power is gated, applying any pending power-up. -/
  | powerGateDone (u : Nat)
  /-- CORE_POWER_GATE (R446): Macen power-gates a core that has been in WFI longer than its idle policy. -/
  | corePowerGate (c : Nat)
  /-- PACKAGE_IDLE_ENTRY (R448): Every core is idle and the channels enter self-refresh. -/
  | packageIdleEntry
  /-- PACKAGE_IDLE_EXIT (R448): An interrupt or inbound request ends package idle. -/
  | packageIdleExit
  /-- KICK (R452): A write of 0x4B43 to KICK reloads a watchdog. -/
  | kick (ag : Agent) (wd : Nat) (w : W)
  /-- WATCHDOG_HALF (R451): A watchdog reaches half its period and raises its timer source. -/
  | watchdogHalf (wd : Nat)
  /-- WATCHDOG_EXPIRY (R452): A watchdog reaches 0 and starts a partition reset or a system reset. -/
  | watchdogExpiry (wd : Nat)
  /-- CLEAR_CAUSES (R427): RCP_RESET_CAUSE CLEAR_CAUSES sets every per-cause count to 0. -/
  | clearCauses (ag : Agent) (w : W)
  /-- RTC_WRITE (R453): A write to RCP_RTC loads the tick count. -/
  | rtcWrite (ag : Agent) (w : W)
  /-- RING (R457): MBX_DOORBELL RING copies the request, checks it and runs the command. -/
  | ring (ag : Agent) (n : Nat) (w : W)
  /-- MBX_ACK (R457): MBX_DOORBELL ACK clears a DONE page's response and returns it to IDLE. -/
  | mbxAck (ag : Agent) (n : Nat) (w : W)
  /-- COMMAND_FINISHED (R457): A mailbox command finishes and its whole response becomes visible. -/
  | commandFinished (n : Nat)
  /-- OPERATION_FINISHED (R460): A mailbox operation finishes and the page's completion source is raised. -/
  | operationFinished (n : Nat) (id : Nat)
  /-- FEATURES_GET (R461): Mailbox command FEATURES_GET returns the offered and negotiated masks. -/
  | featuresGet (n : Nat)
  /-- FEATURES_SET (R461): Mailbox command FEATURES_SET negotiates a feature mask. -/
  | featuresSet (n : Nat)
  /-- OP_STATUS (R460): Mailbox command OP_STATUS returns an operation's state and frees it when DONE. -/
  | opStatus (n : Nat)
  /-- VERSION (R465): Mailbox command VERSION returns the firmware, bundle and protocol versions. -/
  | version (n : Nat)
  /-- PSTATE_SET (R465): Mailbox command PSTATE_SET sets a partition's P-state. -/
  | pstateSet (n : Nat)
  /-- PSTATE_GET (R465): Mailbox command PSTATE_GET returns RCP_PSTATE. -/
  | pstateGet (n : Nat)
  /-- BLOCK_POWER (R466): Mailbox command BLOCK_POWER powers a unit up or down. -/
  | blockPower (n : Nat)
  /-- IDLE_POLICY (R465): Mailbox command IDLE_POLICY sets the WFI time before power gating. -/
  | idlePolicy (n : Nat)
  /-- POWER_READ (R465): Mailbox command POWER_READ returns package power, rail currents and TJ_MAX. -/
  | powerRead (n : Nat) (mw : List Nat)
  /-- ERRLOG_READ (R466): Mailbox command ERRLOG_READ returns held error records within the page's scope. -/
  | errlogRead (n : Nat)
  /-- SPARES_GET (R465): Mailbox command SPARES_GET returns the spare inventory. -/
  | sparesGet (n : Nat)
  /-- AGEING_GET (R483): Mailbox command AGEING_GET returns monitor readings. -/
  | ageingGet (n : Nat)
  /-- CORE_SWAP (R486): Mailbox command CORE_SWAP starts a live core swap into the tile's spare. -/
  | coreSwap (n : Nat)
  /-- PART_RESET (R467): Mailbox command PART_RESET starts a partition reset. -/
  | partReset (n : Nat)
  /-- HART_RELEASE (R467): Mailbox command HART_RELEASE releases a hart whose slot is held in reset. -/
  | hartRelease (n : Nat)
  /-- PART_STATUS (R465): Mailbox command PART_STATUS returns WPC_PART_CTL and the partition's harts. -/
  | partStatus (n : Nat)
  /-- WT_ASSIGN (R467): Mailbox command WT_ASSIGN writes World Table bytes and syncs. -/
  | wtAssign (n : Nat)
  /-- OWNER_SET (R467): Mailbox command OWNER_SET writes a WPC_OWNER entry and syncs where needed. -/
  | ownerSet (n : Nat)
  /-- ROUTE_SET (R467): Mailbox command ROUTE_SET writes routing entries in ascending node order. -/
  | routeSet (n : Nat)
  /-- PORT_SET (R465): Mailbox command PORT_SET writes FAB_PORT_CTL. -/
  | portSet (n : Nat)
  /-- PORT_GET (R465): Mailbox command PORT_GET returns FAB_PORT_STATUS. -/
  | portGet (n : Nat)
  /-- NODE_SET (R465): Mailbox command NODE_SET writes FAB_NODE. -/
  | nodeSet (n : Nat)
  /-- REPL_CFG (R465): Mailbox command REPL_CFG writes a stream's replication configuration and members. -/
  | replCfg (n : Nat)
  /-- PROMOTE (R465): Mailbox command PROMOTE starts a promotion and finishes when STATE leaves CANDIDATE. -/
  | promote (n : Nat)
  /-- MBX_STEP_DOWN (R465): Mailbox command STEP_DOWN deposes a primary stream. -/
  | mbxStepDown (n : Nat)
  /-- SLOT_ARM (R465): Mailbox command SLOT_ARM loads and arms a replica slot. -/
  | slotArm (n : Nat)
  /-- SLOT_DISARM (R465): Mailbox command SLOT_DISARM disarms a replica slot. -/
  | slotDisarm (n : Nat)
  /-- REPL_GET (R465): Mailbox command REPL_GET returns replication state of a stream and slot. -/
  | replGet (n : Nat)
  /-- LADLE_SET (R524): Mailbox command LADLE_SET configures a partition's Ladle. -/
  | ladleSet (n : Nat)
  /-- IMAGE_WRITE (R467): Mailbox command IMAGE_WRITE writes bundle bytes into the slot that did not boot. -/
  | imageWrite (n : Nat)
  /-- MBX_IMAGE_ARM (R467): Mailbox command IMAGE_ARM forwards the arm to the SP. -/
  | mbxImageArm (n : Nat) (good : Bool)
  /-- MBX_TRIAL_CONFIRM (R467): Mailbox command TRIAL_CONFIRM forwards the confirmation to the SP. -/
  | mbxTrialConfirm (n : Nat) (fails : Nat) (bad : List Nat)
  /-- MBX_REVOKE_IMAGE_KEY (R467): Mailbox command REVOKE_IMAGE_KEY forwards the revocation to the SP. -/
  | mbxRevokeImageKey (n : Nat) (bad : List Nat)
  /-- MBX_ATTEST (R467): Mailbox command ATTEST forwards to the SP and returns evidence. -/
  | mbxAttest (n : Nat)
  /-- TIME_GET (R465): Mailbox command TIME_GET returns DTIME, RTC and time status. -/
  | timeGet (n : Nat)
  /-- RTC_SET (R465): Mailbox command RTC_SET loads the RTC. -/
  | rtcSet (n : Nat)
  /-- ERROR_RECORD (R469): The error collector numbers, stores and copies a record and raises its RAS source. -/
  | errorRecord (source : Nat) (unit : Nat) (cls : Nat) (code : Nat) (addr : Nat) (place : Nat)
  /-- MACEN_RESTART (R473): The Macen cores disagree and Macen is reset, reloaded and its pages reset. -/
  | macenRestart (part : List (Nat × Nat))
  /-- WRITE_WORD (R475): SMBus Write Word sets the sideband page offset pointer. -/
  | writeWord (w : Nat) (pec : Bool)
  /-- BLOCK_WRITE (R475): SMBus Block Write writes bytes at the pointer and advances it. -/
  | blockWrite (bs : List Byte) (pec : Bool)
  /-- BLOCK_READ (R475): SMBus Block Read reads 32 bytes at the pointer and advances it. -/
  | blockRead (pec : Bool)
  /-- WRITE_BYTE (R475): SMBus Write Byte acts as a doorbell command on the sideband page. -/
  | writeByte (b : Byte) (pec : Bool)
  /-- SMBUS_TIMEOUT (R547): SMB_SCL held low for 25 ms makes the target release SDA and reset. -/
  | smbusTimeout
  /-- AGEING_SAMPLE (R484): Macen samples every powered monitor once per second and acts on thresholds. -/
  | ageingSample (rs : List Reading)
  /-- LIVE_CORE_SWAP (R487): The core takes the swap request at a boundary and its hart moves to the spare. -/
  | liveCoreSwap (t : Nat)
  /-- SWAP_SPARE_POWERED (R486): The spare is powered and locked and Macen sends the swap request. -/
  | swapSparePowered (t : Nat)
  /-- SWAP_IN_RESET (R489): A slot with a failed regulator or PLL gives its hart to the spare, held in reset. -/
  | swapInReset (c : Nat)
  /-- OLD_SLOT_GATED (R488): The old slot has written back and is gated, becoming RETIRED or SPARE. -/
  | oldSlotGated (t : Nat)
  /-- REPAIR_LOG_APPEND (R480): The SP burns a repair-log entry, data bits first and VALID last. -/
  | repairLogAppend (bad : List Nat)
  /-- SRAM_ROW_SPARE (R491): A failing row of L3, Sieve or staging is taken out, mapped to a spare and tested. -/
  | sramRowSpare (arr : Nat) (row : Nat) (sets : List Nat)
  /-- CORE_ARRAY_ROW_SPARE (R490): A row of an L1 or L2 array is repaired through a swap or at the next core reset. -/
  | coreArrayRowSpare (arr : Nat) (row : Nat) (pass : Bool)
  /-- SPD_LOG_WRITE (R493): Macen writes a repair entry into a DIMM's SPD end-user area. -/
  | spdLogWrite (ch : Nat) (dimm : Nat) (typ : Nat) (rankDev : Nat) (bank : Nat) (row : Nat) (good : Bool)
  /-- IDCODE (R495): TAP instruction IDCODE selects the identification register. -/
  | idcode
  /-- SAMPLE_PRELOAD (R495): TAP instruction SAMPLE/PRELOAD selects the boundary register. -/
  | samplePreload (pins : List Bool) (cells : List Bool)
  /-- EXTEST (R495): TAP instruction EXTEST drives the boundary register, or acts as BYPASS. -/
  | extest
  /-- DBGACC (R495): TAP instruction DBGACC reads or writes the DBG window. -/
  | dbgacc (op : Nat) (off : Nat) (data : W)
  /-- LC_CMD (R495): TAP instruction LC_CMD reaches the SP mailbox for LC_ADVANCE in BLANK. -/
  | lcCmd (target : Nat) (bad : List Nat)
  /-- BYPASS (R495): TAP instruction BYPASS selects the 1-bit register. -/
  | bypass
  /-- TAP_RESET (R546): Five TCK cycles with TMS high put the TAP in Test-Logic-Reset. -/
  | tapReset
  /-- VERIFY (R497): DBG_AUTH CMD VERIFY asks the SP to check a debug certificate. -/
  | verify (p : DbgPort) (w : W)
  /-- VERIFY_COMPLETE (R497): Certificate verification completes and the session opens or is rejected. -/
  | verifyComplete (p : DbgPort)
  /-- END (R497): DBG_AUTH CMD END ends the port's session and renews its nonce. -/
  | dbgEnd (p : DbgPort) (w : W)
  /-- DEBUG_SYSTEM_RESET (R515): DBG_AUTH CMD SYSTEM_RESET causes a system reset with cause 11. -/
  | debugSystemReset (p : DbgPort) (w : W)
  /-- HALT (R499): DBG_CORE_CTL CMD HALT stops the core at its next retirement boundary. -/
  | haltHart (p : DbgPort) (h : Nat) (w : W)
  /-- HALT_TAKEN (R500): A halt request reaches a boundary, aborting any group and clearing the reservation. -/
  | haltTaken (c : Nat)
  /-- DEBUG_RESUME (R499): DBG_CORE_CTL CMD RESUME restarts a halted core. -/
  | debugResume (p : DbgPort) (h : Nat) (w : W)
  /-- STEP (R501): DBG_CORE_CTL CMD STEP retires one instruction and halts. -/
  | stepHart (p : DbgPort) (h : Nat) (w : W)
  /-- DEBUG_CORE_RESET (R499): DBG_CORE_CTL CORE_RESET core-resets the hart's slot. -/
  | debugCoreReset (p : DbgPort) (h : Nat) (w : W)
  /-- REGDATA_ACCESS (R503): An access to DBG_CORE_REGDATA reads or writes a halted core's register. -/
  | regdataAccess (p : DbgPort) (h : Nat) (wr : Option W)
  /-- GO (R504): DBG_MEM_CTL GO issues one debug memory access or peek. -/
  | goCmd (p : DbgPort) (w : W)
  /-- DEBUG_ACCESS_COMPLETE (R505): A debug memory access completes with its status and data. -/
  | debugAccessComplete
  /-- FREEZE_RELEASE (R507): The last halted hart resumes and frozen units continue, the watchdog raised to 1 ms. -/
  | freezeRelease (part : Nat)
  /-- VT_TX (R511): A virtual-terminal TX access pushes or pops a byte. -/
  | vtTx (p : DbgPort) (i : Nat) (wr : Option W) (low : Bool)
  /-- VT_RX (R511): A virtual-terminal RX access pushes or pops a byte. -/
  | vtRx (p : DbgPort) (i : Nat) (wr : Option W) (low : Bool)
  /-- TRACE_SYNC (R512): Each traced hart writes a SYNC packet every 1 ms. -/
  | traceSync
  /-- LADLE_TICK (R525): At a period multiple of DTIME the named units latch their counters into shadows. -/
  | ladleTick
  /-- LADLE_RECORD (R526): The Ladle gathers the shadows and writes a record into the partition's ring. -/
  | ladleRecord
  /-- UART_TRANSMIT (R551): A write to UART_DATA pushes a byte into the transmit FIFO. -/
  | uartTransmit (ag : Agent) (u : Nat) (w : W)
  /-- UART_RECEIVE_READ (R551): A core read of UART_DATA pops one received byte. -/
  | uartReceiveRead (ag : Agent) (u : Nat)
  /-- UART_CHARACTER (R551): A character arrives on RXD and enters the receive FIFO or is dropped. -/
  | uartCharacter (u : Nat) (b : Byte) (err : Bool)
  /-- PLL_RELOCK (R435): A domain that lost PLL lock regains it, so a core held in core reset may be released and another block's reset is released and its Lid sections reopen. -/
  | pllRelock (d : ClockDom)
  /-- PFW_N_RELEASE (R486): PFW_N rises past its glitch filter, after which Macen may start a deferred swap, repair or link reconfiguration and package idle may be entered. -/
  | pfwNRelease
  /-- SECONDARY_BUS_RESET_END (R323): The 2 ms hot reset, and any PERST_N pulse, of an owned root port ends, so step 5 of the partition reset completes and step 6 can release or hold the harts. -/
  | secondaryBusResetEnd (c : Nat) (p : Nat)
  /-- POWER_UP_DONE (R447): A block that is powering up finishes within 10 µs, STATE moves from POWERING_UP to ON, its sections open and it begins its own start-up. -/
  | powerUpDone (u : Nat)
  /-- UART_CHARACTER_SENT (R551): The UART transmitter finishes shifting out a character and takes the next byte from the FIFO, or sets TX_EMPTY and raises the transmit-empty source. -/
  | uartCharacterSent (u : Nat)
  /-- DIMM_TEMPERATURE (R301): Macen reads a DIMM temperature that crosses 85 °C, 95 °C or 90 °C and changes the rank's refresh interval or halves or restores the channel's issue rate. -/
  | dimmTemperature (ch : Nat) (dimm : Nat) (temp : Nat)
  deriving DecidableEq, Repr

end Sys2Proof
end

