-- ==== Sys2Proof/Decode.lean ====
section
/-! DEFINITION. Commands have no encoding: no row of the spec's command table gives bits, so no word spells a command. -/

namespace Sys2Proof

/-- The command that a word spells by the table's bits: none, since the table gives no row any bits. -/
def decodeTableWord (_nbits _w : Nat) : Option Instr := none

end Sys2Proof
end

