-- ==== Sys2Proof/Config.lean ====
section
/-! DEFINITION. What one device fixes and the manual does not: the free values. None of these has a body a proof could
see, so a claim that mentions one holds whatever it is. -/

namespace Sys2Proof.Config

open Sys2Proof

/-- The stream of values the manual leaves to chance or to a policy it names without fixing (the random backoff of
R118, a pseudo-LRU victim of R98, a nonce): the n-th value drawn since reset. -/
opaque freeValue : Nat → BitVec 64

/-- Byte `i` of what a cryptographic algorithm that the manual names by its standard (R326, R397, R402) makes of its inputs. `fn`
says which algorithm and direction; the standard itself is not part of the manual. -/
opaque cryptoByte (fn : Nat) (args : List (List (BitVec 8))) (i : Nat) : BitVec 8

/-- Whether a check that a named standard defines (a signature) passes on its inputs. -/
opaque cryptoTrue (fn : Nat) (args : List (List (BitVec 8))) : Bool

/-- The PIN digits in an encrypted PIN block of an ISO 9564-1 format, or none where its fields are inconsistent (R338). -/
opaque pinOf (format : Nat) (key block pan : List (BitVec 8)) : Option (List Nat)

/-- An ANSI X9.143 key block of a key under a key-encryption key, and the class, usage, algorithm, size and value that such a block
holds, or none where it does not unwrap (R399). -/
opaque keyBlock (kek attrs key : List (BitVec 8)) : List (BitVec 8)
opaque keyOfBlock (kek block : List (BitVec 8)) : Option (Nat × Nat × Nat × Nat × List (BitVec 8))

/-- The Macen firmware version that VERSION reports (R465). -/
opaque macenVersion : Nat

end Sys2Proof.Config
end

