-- ==== Sys2Proof/Machine/Tbl.lean ====
section
/-! DEFINITION. Sparse tables in one canonical form: keys strictly rising, no entry equal to the default that an
unlisted key reads as. Memory, register files and every unit-indexed piece of state are held this way. -/

namespace Sys2Proof.Machine

open Sys2Proof

/-- A sparse table from unit numbers (addresses, lines, indices) to values. -/
abbrev Tbl (α : Type) := List (Nat × α)

/-- The value at key `k`; an unlisted key reads as `d`. -/
def tget {α : Type} (d : α) : Tbl α → Nat → α
  | [], _ => d
  | (k', v) :: t, k => if k' = k then v else tget d t k

/-- `t` with key `k` not listed. -/
def tdel {α : Type} : Tbl α → Nat → Tbl α
  | [], _ => []
  | (k', v) :: t, k => if k' = k then tdel t k else (k', v) :: tdel t k

/-- `t` with the pair inserted before the first larger key. -/
def tins {α : Type} : Tbl α → Nat → α → Tbl α
  | [], k, v => [(k, v)]
  | (k', v') :: t, k, v => if k < k' then (k, v) :: (k', v') :: t else (k', v') :: tins t k v

/-- Write `v` at key `k`. Writing the default removes the entry, so equal tables are equal data. -/
def tset {α : Type} [DecidableEq α] (d : α) (t : Tbl α) (k : Nat) (v : α) : Tbl α :=
  if v = d then tdel t k else tins (tdel t k) k v

/-- Keys strictly rising. -/
def trising {α : Type} : Tbl α → Bool
  | [] => true
  | [_] => true
  | (k, _) :: (k', v') :: t => decide (k < k') && trising ((k', v') :: t)

/-- No entry equals the default. -/
def tclean {α : Type} [DecidableEq α] (d : α) : Tbl α → Bool
  | [] => true
  | (_, v) :: t => !decide (v = d) && tclean d t

/-- The canonical form. -/
def twf {α : Type} [DecidableEq α] (d : α) (t : Tbl α) : Bool := trising t && tclean d t

/-- Keep the entries a test keeps. -/
def tfilter {α : Type} (p : Nat → α → Bool) (t : Tbl α) : Tbl α := t.filter fun e => p e.1 e.2

end Sys2Proof.Machine
end

