-- ==== Sys2Proof/Machine/RegTable.lean ====
section
/-! DEFINITION. The register tables of the manual as data: every register of the on-die configuration space, of the
secure-only space and of the device's own CSRs, with its reset value, its fields, their access codes (R7), the encodings
R6 does not reserve, and its addresses (R18). Field names are the manual's own. -/

namespace Sys2Proof.Machine

open Sys2Proof

/-- The registers the manual defines, under their own names. A register with several units is one constructor; the unit
is an index beside it. -/
inductive RegId where
  /-- Core slot map. -/
  | TILE_CORE_MAP
  /-- Home occupancy snapshot. -/
  | TILE_HOME_STATUS
  /-- Output link configuration. -/
  | MESH_LINK_CFG
  /-- Initiator timeouts. -/
  | MESH_TIMEOUT
  /-- Initiator timeout and late-response counts. -/
  | MESH_INIT_STATUS
  /-- Lid control and status. -/
  | LID_SECTION
  /-- Commit-group status. -/
  | CG_STATUS
  /-- Abort location. -/
  | CG_ABORT_PC
  /-- Last commit number. -/
  | CG_LASTSEQ
  /-- Dependency and watermark selector. -/
  | CG_DEPSEL
  /-- Dependency entry. -/
  | CG_DEPSEQ
  /-- Undurable dependencies. -/
  | CG_DEPMASK
  /-- Lost dependencies. -/
  | CG_DEPLOST
  /-- Durable watermark. -/
  | CG_WMARK
  /-- Stream binding. -/
  | CG_BIND
  /-- Commit-group configuration. -/
  | CG_CFG
  /-- Stream configuration. -/
  | SPN_STREAM_CFG
  /-- Stream state and commands. -/
  | SPN_STREAM_STATE
  /-- Durable watermark. -/
  | SPN_STREAM_WMARK
  /-- Highest assigned number. -/
  | SPN_STREAM_ASSIGNED
  /-- First number. -/
  | SPN_STREAM_NEXT
  /-- Journal region and staging quota. -/
  | JRN_REGION
  /-- Append pointer. -/
  | JRN_APPEND_PTR
  /-- Drain pointer. -/
  | JRN_DRAIN_PTR
  /-- Staging and region status. -/
  | JRN_STREAM_STATUS
  /-- Pair control. -/
  | PAIR_CTL
  /-- Pair state. -/
  | PAIR_STATUS
  /-- Trailer resume address. -/
  | PAIR_RESUME
  /-- Mismatch and vote counts. -/
  | PAIR_COUNT
  /-- Last failed interval. -/
  | PAIR_FAILPC
  /-- Vote configuration. -/
  | PAIR_CFG
  /-- Node identity and fabric timing. -/
  | FAB_NODE
  /-- Routing entry. -/
  | FAB_ROUTE
  /-- Aperture. -/
  | FAB_APERTURE
  /-- Inbound window. -/
  | FAB_INBOUND
  /-- Receive ring. -/
  | FAB_RXRING_CFG
  /-- Receive ring pointers. -/
  | FAB_RXRING_PTR
  /-- Send queue. -/
  | FAB_SQ_CFG
  /-- Send queue pointers. -/
  | FAB_SQ_PTR
  /-- Port control. -/
  | FAB_PORT_CTL
  /-- Port status. -/
  | FAB_PORT_STATUS
  /-- Replication configuration. -/
  | JRN_REPL_CFG
  /-- Members. -/
  | JRN_REPL_MEMBERS
  /-- Replication state and commands. -/
  | JRN_REPL_STATE
  /-- First dropped number. -/
  | JRN_REPL_DEGRADED
  /-- Replica acknowledgement. -/
  | JRN_REPL_HELD
  /-- Replica slot. -/
  | JRN_RSLOT_CFG
  /-- Slot region. -/
  | JRN_RSLOT_REGION
  /-- Slot terms. -/
  | JRN_RSLOT_TERM
  /-- Slot held number. -/
  | JRN_RSLOT_HELD
  /-- Slot append pointer. -/
  | JRN_RSLOT_APPEND
  /-- Slot drain pointer. -/
  | JRN_RSLOT_DRAIN
  /-- Final number. -/
  | JRN_RSLOT_GASP
  /-- Decode window. -/
  | MCT_DECODE
  /-- Channel state. -/
  | MCT_CH_STATUS
  /-- Error counts. -/
  | MCT_ECC_COUNT
  /-- Last error. -/
  | MCT_ECC_LOG
  /-- Patrol scrub. -/
  | MCT_SCRUB
  /-- Controller control. -/
  | PCIE_CTL
  /-- Port ownership. -/
  | PCIE_PORT_CFG
  /-- Port status. -/
  | PCIE_PORT_STATUS
  /-- Function assignment match. -/
  | IOMMU_FAT_MATCH
  /-- Device context table. -/
  | IOMMU_FAT_BASE
  /-- Invalidation. -/
  | IOMMU_INVAL
  /-- Last fault. -/
  | IOMMU_FAULT
  /-- Cluster status. -/
  | CPH_STATUS
  /-- Job ring. -/
  | CPH_RING_CFG
  /-- Job ring pointers. -/
  | CPH_RING_PTR
  /-- World control. -/
  | WCTL
  /-- World status. -/
  | WSTATUS
  /-- Table base, secure ways and lock. -/
  | WPC_CFG
  /-- Ownership change. -/
  | WPC_SYNC
  /-- Region table entry. -/
  | WPC_REGION
  /-- Owner entry. -/
  | WPC_OWNER
  /-- Partition configuration. -/
  | WPC_PART_CFG
  /-- Partition reset control. -/
  | WPC_PART_CTL
  /-- Power-fail warning time. -/
  | EVR_PFW_TIME
  /-- Wired source route. -/
  | EVR_SRC_CFG
  /-- Pending sources. -/
  | EVR_SRC_PEND
  /-- Fabric receive ring route. -/
  | EVR_RING_ROUTE
  /-- Claim. -/
  | EVR_TGT_CLAIM
  /-- Completion. -/
  | EVR_TGT_EOI
  /-- Threshold. -/
  | EVR_TGT_THRESH
  /-- Interprocessor interrupt. -/
  | EVR_TGT_INJECT
  /-- Target status. -/
  | EVR_TGT_STATUS
  /-- Boot result. -/
  | SP_BOOT_STATUS
  /-- Booted bundle. -/
  | SP_BOOT_SEQ
  /-- Trial watchdog. -/
  | SP_TRIAL
  /-- Core reset vector. -/
  | TILE_RESET_VEC
  /-- Reset record. -/
  | RCP_RESET_CAUSE
  /-- Per-cause counts. -/
  | RCP_CAUSE_COUNT
  /-- Real-time clock. -/
  | RCP_RTC
  /-- Partition operating point. -/
  | RCP_PSTATE
  /-- Block power. -/
  | RCP_BLOCK_CTL
  /-- Thermal status. -/
  | RCP_THERMAL
  /-- Watchdog. -/
  | TMR_WDOG
  /-- Collector status. -/
  | ERC_STATUS
  /-- Secure record ring. -/
  | ERC_RING_CFG
  /-- Record store. -/
  | ERC_RECORD
  /-- Doorbell. -/
  | MBX_DOORBELL
  /-- Page status. -/
  | MBX_STATUS
  /-- Session. -/
  | DBG_AUTH
  /-- Nonce. -/
  | DBG_AUTH_NONCE
  /-- Freeze bits. -/
  | DBG_FREEZE
  /-- Memory access. -/
  | DBG_MEM_CTL
  /-- Memory data. -/
  | DBG_MEM_DATA
  /-- Patch unit. -/
  | DBG_PATCH_CFG
  /-- Patch data. -/
  | DBG_PATCH_DATA
  /-- Trace ring. -/
  | DBG_TRACE_CFG
  /-- Trace position. -/
  | DBG_TRACE_PTR
  /-- Run control. -/
  | DBG_CORE_CTL
  /-- Run state. -/
  | DBG_CORE_STATUS
  /-- Register select. -/
  | DBG_CORE_REGSEL
  /-- Register data. -/
  | DBG_CORE_REGDATA
  /-- Trigger. -/
  | DBG_TRIG_CFG
  /-- Trigger comparison value. -/
  | DBG_TRIG_VAL
  /-- Virtual terminal. -/
  | DBG_VT_TX
  /-- Virtual terminal. -/
  | DBG_VT_RX
  /-- Core counter overflow. -/
  | TILE_CORE_OVF
  /-- Block counter configuration. -/
  | CNT_CFG
  /-- Block counter value. -/
  | CNT
  /-- Ladle configuration. -/
  | LDL_PART_CFG
  /-- Counter-set mask. -/
  | LDL_PART_MASK
  /-- Ladle status. -/
  | LDL_PART_STATUS
  /-- UART configuration. -/
  | UART_CFG
  /-- UART data. -/
  | UART_DATA
  /-- UART status. -/
  | UART_STATUS
  /-- GPIO pin. -/
  | GPIO_CFG
  /-- Output slew. -/
  | LSIO_PAD_CFG
  deriving DecidableEq, Repr

/-- The access codes of R7. -/
inductive Acc where
  | ro | rw | w1c | w1s | wo | rs
  deriving DecidableEq, Repr

/-- One field of a register: its bits, its access code and the encodings a write may put into it (R6; the empty list
means that none is reserved). -/
structure Fld where
  reg : RegId
  hi : Nat
  lo : Nat
  acc : Acc
  legal : List (Nat × Nat)
  deriving DecidableEq, Repr

/-- The number under which a register's units are stored. -/
def RegId.num : RegId → Nat
  | .TILE_CORE_MAP => 0
  | .TILE_HOME_STATUS => 1
  | .MESH_LINK_CFG => 2
  | .MESH_TIMEOUT => 3
  | .MESH_INIT_STATUS => 4
  | .LID_SECTION => 5
  | .CG_STATUS => 6
  | .CG_ABORT_PC => 7
  | .CG_LASTSEQ => 8
  | .CG_DEPSEL => 9
  | .CG_DEPSEQ => 10
  | .CG_DEPMASK => 11
  | .CG_DEPLOST => 12
  | .CG_WMARK => 13
  | .CG_BIND => 14
  | .CG_CFG => 15
  | .SPN_STREAM_CFG => 16
  | .SPN_STREAM_STATE => 17
  | .SPN_STREAM_WMARK => 18
  | .SPN_STREAM_ASSIGNED => 19
  | .SPN_STREAM_NEXT => 20
  | .JRN_REGION => 21
  | .JRN_APPEND_PTR => 22
  | .JRN_DRAIN_PTR => 23
  | .JRN_STREAM_STATUS => 24
  | .PAIR_CTL => 25
  | .PAIR_STATUS => 26
  | .PAIR_RESUME => 27
  | .PAIR_COUNT => 28
  | .PAIR_FAILPC => 29
  | .PAIR_CFG => 30
  | .FAB_NODE => 31
  | .FAB_ROUTE => 32
  | .FAB_APERTURE => 33
  | .FAB_INBOUND => 34
  | .FAB_RXRING_CFG => 35
  | .FAB_RXRING_PTR => 36
  | .FAB_SQ_CFG => 37
  | .FAB_SQ_PTR => 38
  | .FAB_PORT_CTL => 39
  | .FAB_PORT_STATUS => 40
  | .JRN_REPL_CFG => 41
  | .JRN_REPL_MEMBERS => 42
  | .JRN_REPL_STATE => 43
  | .JRN_REPL_DEGRADED => 44
  | .JRN_REPL_HELD => 45
  | .JRN_RSLOT_CFG => 46
  | .JRN_RSLOT_REGION => 47
  | .JRN_RSLOT_TERM => 48
  | .JRN_RSLOT_HELD => 49
  | .JRN_RSLOT_APPEND => 50
  | .JRN_RSLOT_DRAIN => 51
  | .JRN_RSLOT_GASP => 52
  | .MCT_DECODE => 53
  | .MCT_CH_STATUS => 54
  | .MCT_ECC_COUNT => 55
  | .MCT_ECC_LOG => 56
  | .MCT_SCRUB => 57
  | .PCIE_CTL => 58
  | .PCIE_PORT_CFG => 59
  | .PCIE_PORT_STATUS => 60
  | .IOMMU_FAT_MATCH => 61
  | .IOMMU_FAT_BASE => 62
  | .IOMMU_INVAL => 63
  | .IOMMU_FAULT => 64
  | .CPH_STATUS => 65
  | .CPH_RING_CFG => 66
  | .CPH_RING_PTR => 67
  | .WCTL => 68
  | .WSTATUS => 69
  | .WPC_CFG => 70
  | .WPC_SYNC => 71
  | .WPC_REGION => 72
  | .WPC_OWNER => 73
  | .WPC_PART_CFG => 74
  | .WPC_PART_CTL => 75
  | .EVR_PFW_TIME => 76
  | .EVR_SRC_CFG => 77
  | .EVR_SRC_PEND => 78
  | .EVR_RING_ROUTE => 79
  | .EVR_TGT_CLAIM => 80
  | .EVR_TGT_EOI => 81
  | .EVR_TGT_THRESH => 82
  | .EVR_TGT_INJECT => 83
  | .EVR_TGT_STATUS => 84
  | .SP_BOOT_STATUS => 85
  | .SP_BOOT_SEQ => 86
  | .SP_TRIAL => 87
  | .TILE_RESET_VEC => 88
  | .RCP_RESET_CAUSE => 89
  | .RCP_CAUSE_COUNT => 90
  | .RCP_RTC => 91
  | .RCP_PSTATE => 92
  | .RCP_BLOCK_CTL => 93
  | .RCP_THERMAL => 94
  | .TMR_WDOG => 95
  | .ERC_STATUS => 96
  | .ERC_RING_CFG => 97
  | .ERC_RECORD => 98
  | .MBX_DOORBELL => 99
  | .MBX_STATUS => 100
  | .DBG_AUTH => 101
  | .DBG_AUTH_NONCE => 102
  | .DBG_FREEZE => 103
  | .DBG_MEM_CTL => 104
  | .DBG_MEM_DATA => 105
  | .DBG_PATCH_CFG => 106
  | .DBG_PATCH_DATA => 107
  | .DBG_TRACE_CFG => 108
  | .DBG_TRACE_PTR => 109
  | .DBG_CORE_CTL => 110
  | .DBG_CORE_STATUS => 111
  | .DBG_CORE_REGSEL => 112
  | .DBG_CORE_REGDATA => 113
  | .DBG_TRIG_CFG => 114
  | .DBG_TRIG_VAL => 115
  | .DBG_VT_TX => 116
  | .DBG_VT_RX => 117
  | .TILE_CORE_OVF => 118
  | .CNT_CFG => 119
  | .CNT => 120
  | .LDL_PART_CFG => 121
  | .LDL_PART_MASK => 122
  | .LDL_PART_STATUS => 123
  | .UART_CFG => 124
  | .UART_DATA => 125
  | .UART_STATUS => 126
  | .GPIO_CFG => 127
  | .LSIO_PAD_CFG => 128

/-- The reset value of unit `i` of a register, as its section's heading line states it (R9). TILE_CORE_MAP is loaded by
Macen from the repair log before any core of the tile is released; with no spare used, R22 gives slots 0 to 3 the harts
4t to 4t + 3 and leaves slot 4 SPARE. WPC_OWNER follows R357 and its own section; MBX_STATUS.GENERATION is R462's value
at the first Macen start. -/
def RegId.resetVal (r : RegId) (i : Nat) : W :=
  match r with
  | .TILE_CORE_MAP => BitVec.ofNat 64 (4 * i + (4 * i + 1) * 2 ^ 12 + (4 * i + 2) * 2 ^ 24 + (4 * i + 3) * 2 ^ 36 + 0x7F * 2 ^ 48 + 2 ^ 58)
  | .TILE_HOME_STATUS => 0
  | .MESH_LINK_CFG => 0x3FF03FF02422442
  | .MESH_TIMEOUT => 0x7D000000032
  | .MESH_INIT_STATUS => 0
  | .LID_SECTION => 0x6400000000
  | .CG_STATUS => 0
  | .CG_ABORT_PC => 0
  | .CG_LASTSEQ => 0
  | .CG_DEPSEL => 0
  | .CG_DEPSEQ => 0
  | .CG_DEPMASK => 0
  | .CG_DEPLOST => 0
  | .CG_WMARK => 0
  | .CG_BIND => 0
  | .CG_CFG => 0x4000000000000014
  | .SPN_STREAM_CFG => 1
  | .SPN_STREAM_STATE => 0
  | .SPN_STREAM_WMARK => 0
  | .SPN_STREAM_ASSIGNED => 0
  | .SPN_STREAM_NEXT => 1
  | .JRN_REGION => 0x8000000000000
  | .JRN_APPEND_PTR => 0
  | .JRN_DRAIN_PTR => 0
  | .JRN_STREAM_STATUS => 0
  | .PAIR_CTL => 0
  | .PAIR_STATUS => 0
  | .PAIR_RESUME => 0
  | .PAIR_COUNT => 0
  | .PAIR_FAILPC => 0
  | .PAIR_CFG => 0x32
  | .FAB_NODE => 0x3E81F40000000
  | .FAB_ROUTE => 0
  | .FAB_APERTURE => 0xF80000000000000
  | .FAB_INBOUND => 0x2A000000000000
  | .FAB_RXRING_CFG => 0x320000000000000
  | .FAB_RXRING_PTR => 0
  | .FAB_SQ_CFG => 0x20000000000000
  | .FAB_SQ_PTR => 0
  | .FAB_PORT_CTL => 0x7000000
  | .FAB_PORT_STATUS => 0xE0000000000000
  | .JRN_REPL_CFG => 0x14000C8
  | .JRN_REPL_MEMBERS => 0
  | .JRN_REPL_STATE => 0
  | .JRN_REPL_DEGRADED => 0
  | .JRN_REPL_HELD => 0
  | .JRN_RSLOT_CFG => 0
  | .JRN_RSLOT_REGION => 0
  | .JRN_RSLOT_TERM => 0
  | .JRN_RSLOT_HELD => 0
  | .JRN_RSLOT_APPEND => 0
  | .JRN_RSLOT_DRAIN => 0
  | .JRN_RSLOT_GASP => 0
  | .MCT_DECODE => 0
  | .MCT_CH_STATUS => 0x1FF8000000000
  | .MCT_ECC_COUNT => 0
  | .MCT_ECC_LOG => 0
  | .MCT_SCRUB => 0x8000001800000000
  | .PCIE_CTL => 0x50003E800000000
  | .PCIE_PORT_CFG => 0
  | .PCIE_PORT_STATUS => 0
  | .IOMMU_FAT_MATCH => 0
  | .IOMMU_FAT_BASE => 0
  | .IOMMU_INVAL => 0
  | .IOMMU_FAULT => 0
  | .CPH_STATUS => 0
  | .CPH_RING_CFG => 0x102000000000000
  | .CPH_RING_PTR => 0
  | .WCTL => 0
  | .WSTATUS => 0
  | .WPC_CFG => 0x200000000000000
  | .WPC_SYNC => 0x4015000000000000
  | .WPC_REGION => 0
  | .WPC_OWNER =>
    if 1 ≤ i ∧ i ≤ 16 then BitVec.ofNat 64 (0xA000000000000000 + (i - 1))   -- MBX pages 0 to 15: NORMAL, the page's partition
    else if i = 19 ∨ i = 80 ∨ i = 81 then 0xC000000000000000                -- EVR, TMR, WPC: SHARED
    else if i < 84 then 0x8000000000000000                                  -- SECURE
    else if 192 ≤ i ∧ i ≤ 287 then 0xA000000000000000                       -- harts: partition 0
    else 0
  | .WPC_PART_CFG => 0x4003E800400000
  | .WPC_PART_CTL => 0
  | .EVR_PFW_TIME => 0
  | .EVR_SRC_CFG => 0
  | .EVR_SRC_PEND => 0
  | .EVR_RING_ROUTE => 0
  | .EVR_TGT_CLAIM => 0
  | .EVR_TGT_EOI => 0
  | .EVR_TGT_THRESH => 0x100
  | .EVR_TGT_INJECT => 0
  | .EVR_TGT_STATUS => 0
  | .SP_BOOT_STATUS => 0
  | .SP_BOOT_SEQ => 0
  | .SP_TRIAL => 0
  | .TILE_RESET_VEC => 0
  | .RCP_RESET_CAUSE => 0x80000000
  | .RCP_CAUSE_COUNT => 0
  | .RCP_RTC => 0
  | .RCP_PSTATE => 0x3840000
  | .RCP_BLOCK_CTL => 0x8000000000000000
  | .RCP_THERMAL => 0
  | .TMR_WDOG => if i = 16 then 0x8000271000002710 else 0x400003E800000000
  | .ERC_STATUS => 0
  | .ERC_RING_CFG => 0
  | .ERC_RECORD => 0
  | .MBX_DOORBELL => 0
  | .MBX_STATUS => 0
  | .DBG_AUTH => 0
  | .DBG_AUTH_NONCE => 0
  | .DBG_FREEZE => 0x7E00000000000000
  | .DBG_MEM_CTL => 0
  | .DBG_MEM_DATA => 0
  | .DBG_PATCH_CFG => 0
  | .DBG_PATCH_DATA => 0
  | .DBG_TRACE_CFG => 0
  | .DBG_TRACE_PTR => 0
  | .DBG_CORE_CTL => 0x4000000000000000
  | .DBG_CORE_STATUS => 0
  | .DBG_CORE_REGSEL => 0
  | .DBG_CORE_REGDATA => 0
  | .DBG_TRIG_CFG => 0
  | .DBG_TRIG_VAL => 0
  | .DBG_VT_TX => 0
  | .DBG_VT_RX => 0
  | .TILE_CORE_OVF => 0
  | .CNT_CFG => 0
  | .CNT => 0
  | .LDL_PART_CFG => 0xC003E8000000000
  | .LDL_PART_MASK => 0
  | .LDL_PART_STATUS => 0
  | .UART_CFG => 0x6C08
  | .UART_DATA => 0
  | .UART_STATUS => 0x8000000000000000
  | .GPIO_CFG => 0x1000000000000000
  | .LSIO_PAD_CFG => 0

namespace TILE_CORE_MAP
/-- state of slot 4: 0b00 ENABLED, 0b01 SPARE, 0b10 RETIRED, 0b11 VOTING (spare drawn in as third core of a vote). -/
def SLOT4_STATE : Fld := ⟨.TILE_CORE_MAP, 59, 58, .ro, []⟩
/-- hart ID held by slot 4, 0 to 95; 0x7F when the slot holds no role. -/
def SLOT4_HART : Fld := ⟨.TILE_CORE_MAP, 54, 48, .ro, []⟩
/-- as SLOT4_STATE, for slot 3. -/
def SLOT3_STATE : Fld := ⟨.TILE_CORE_MAP, 47, 46, .ro, []⟩
/-- as SLOT4_HART, for slot 3. -/
def SLOT3_HART : Fld := ⟨.TILE_CORE_MAP, 42, 36, .ro, []⟩
/-- as SLOT4_STATE, for slot 2. -/
def SLOT2_STATE : Fld := ⟨.TILE_CORE_MAP, 35, 34, .ro, []⟩
/-- as SLOT4_HART, for slot 2. -/
def SLOT2_HART : Fld := ⟨.TILE_CORE_MAP, 30, 24, .ro, []⟩
/-- as SLOT4_STATE, for slot 1. -/
def SLOT1_STATE : Fld := ⟨.TILE_CORE_MAP, 23, 22, .ro, []⟩
/-- as SLOT4_HART, for slot 1. -/
def SLOT1_HART : Fld := ⟨.TILE_CORE_MAP, 18, 12, .ro, []⟩
/-- as SLOT4_STATE, for slot 0. -/
def SLOT0_STATE : Fld := ⟨.TILE_CORE_MAP, 11, 10, .ro, []⟩
/-- as SLOT4_HART, for slot 0. -/
def SLOT0_HART : Fld := ⟨.TILE_CORE_MAP, 6, 0, .ro, []⟩
end TILE_CORE_MAP

namespace TILE_HOME_STATUS
/-- entries in use in the dependency victim buffer, 0 to 64. -/
def DEPVB_USED : Fld := ⟨.TILE_HOME_STATUS, 47, 41, .rs, []⟩
/-- valid Sieve entries, 0 to 98,304. -/
def SIEVE_VALID : Fld := ⟨.TILE_HOME_STATUS, 40, 24, .rs, []⟩
/-- fairness reservations held, 0 to 32. -/
def RESV_USED : Fld := ⟨.TILE_HOME_STATUS, 23, 18, .rs, []⟩
/-- tracker entries in use, 0 to 256. -/
def TRACKER_USED : Fld := ⟨.TILE_HOME_STATUS, 8, 0, .rs, []⟩
end TILE_HOME_STATUS

namespace MESH_LINK_CFG
/-- 1 while the procedure of R145 runs. -/
def QUIESCE_BUSY : Fld := ⟨.MESH_LINK_CFG, 63, 63, .ro, []⟩
/-- 1 starts the procedure of R145 with the values held in this register. -/
def APPLY : Fld := ⟨.MESH_LINK_CFG, 62, 62, .wo, []⟩
/-- wire, 0 to 555, replaced by spare 1; 0x03FF none; 556 to 1,022 reserved. -/
def SPARE1_WIRE : Fld := ⟨.MESH_LINK_CFG, 57, 48, .rw, [(0, 0x22B), (0x3FF, 0x3FF)]⟩
/-- wire replaced by spare 0, as SPARE1_WIRE. -/
def SPARE0_WIRE : Fld := ⟨.MESH_LINK_CFG, 41, 32, .rw, [(0, 0x22B), (0x3FF, 0x3FF)]⟩
/-- weight of JRN, 1 to 15; 0 reserved. -/
def W_JRN : Fld := ⟨.MESH_LINK_CFG, 27, 24, .rw, [(1, 0xF)]⟩
/-- weight of IORSP. -/
def W_IORSP : Fld := ⟨.MESH_LINK_CFG, 23, 20, .rw, [(1, 0xF)]⟩
/-- weight of IOREQ. -/
def W_IOREQ : Fld := ⟨.MESH_LINK_CFG, 19, 16, .rw, [(1, 0xF)]⟩
/-- weight of WB. -/
def W_WB : Fld := ⟨.MESH_LINK_CFG, 15, 12, .rw, [(1, 0xF)]⟩
/-- weight of DAT. -/
def W_DAT : Fld := ⟨.MESH_LINK_CFG, 11, 8, .rw, [(1, 0xF)]⟩
/-- weight of RSP. -/
def W_RSP : Fld := ⟨.MESH_LINK_CFG, 7, 4, .rw, [(1, 0xF)]⟩
/-- weight of REQ. -/
def W_REQ : Fld := ⟨.MESH_LINK_CFG, 3, 0, .rw, [(1, 0xF)]⟩
end MESH_LINK_CFG

namespace MESH_TIMEOUT
/-- device timeout in µs, 2 to 65,535; 0 and 1 reserved. -/
def DEVICE_US : Fld := ⟨.MESH_TIMEOUT, 47, 32, .rw, [(2, 0xFFFF)]⟩
/-- memory timeout in µs, 2 to 65,535; 0 and 1 reserved. -/
def MEMORY_US : Fld := ⟨.MESH_TIMEOUT, 15, 0, .rw, [(2, 0xFFFF)]⟩
end MESH_TIMEOUT

namespace MESH_INIT_STATUS
/-- late responses dropped under R139 and R147. -/
def LATE_DROPPED : Fld := ⟨.MESH_INIT_STATUS, 63, 48, .rs, []⟩
/-- device timeouts. -/
def TIMEOUT_DEVICE : Fld := ⟨.MESH_INIT_STATUS, 47, 32, .rs, []⟩
/-- memory timeouts. -/
def TIMEOUT_MEMORY : Fld := ⟨.MESH_INIT_STATUS, 31, 16, .rs, []⟩
/-- 1 sets the three counts to 0; a count event in the same cycle counts after the clear. -/
def CLEAR : Fld := ⟨.MESH_INIT_STATUS, 15, 15, .wo, []⟩
/-- tag indices quarantined under R140, 0 to 1,024. -/
def QUARANTINED : Fld := ⟨.MESH_INIT_STATUS, 10, 0, .rs, []⟩
end MESH_INIT_STATUS

namespace LID_SECTION
/-- drain limit in µs, 1 to 65,535; 0 reserved (a limit of 0 applies only under R149). -/
def DRAIN_LIMIT_US : Fld := ⟨.LID_SECTION, 47, 32, .rw, [(1, 0xFFFF)]⟩
/-- outbound requests abandoned at the last close, saturating at 255. -/
def ABANDONED : Fld := ⟨.LID_SECTION, 23, 16, .ro, []⟩
/-- 0b00 OPEN, 0b01 DRAINING, 0b10 CLOSED. -/
def STATE : Fld := ⟨.LID_SECTION, 7, 6, .ro, []⟩
/-- the last close reached the drain limit; a set in the same cycle as a clear wins (R8). -/
def DRAIN_EXPIRED : Fld := ⟨.LID_SECTION, 5, 5, .w1c, []⟩
/-- 0b01 CLOSE, 0b10 OPEN, 0b00 no action; 0b11 reserved. -/
def CMD : Fld := ⟨.LID_SECTION, 1, 0, .wo, []⟩
end LID_SECTION

namespace CG_STATUS
/-- a group is open. -/
def ACTIVE : Fld := ⟨.CG_STATUS, 63, 63, .ro, []⟩
/-- a dependency entry was marked LOST, or a post-visibility failure occurred (R166); writing 1 empties every …. -/
def LOST : Fld := ⟨.CG_STATUS, 61, 61, .w1c, []⟩
/-- the last abort voided a sequence number. -/
def VOIDED : Fld := ⟨.CG_STATUS, 60, 60, .ro, []⟩
/-- exception code for EXCEPTION; 0 otherwise. -/
def CAUSE : Fld := ⟨.CG_STATUS, 31, 24, .ro, []⟩
/-- hint of R158. -/
def RETRY : Fld := ⟨.CG_STATUS, 16, 16, .ro, []⟩
/-- rs1 bits [7:0] of CG.ABORT for EXPLICIT; 0 otherwise. -/
def USER_CODE : Fld := ⟨.CG_STATUS, 15, 8, .ro, []⟩
/-- code of R158 for the last abort or failure; 0 if none since reset. -/
def ABORT_CODE : Fld := ⟨.CG_STATUS, 7, 0, .ro, []⟩
end CG_STATUS

namespace CG_ABORT_PC
/-- virtual address of the instruction that ended the group, or of the oldest unretired instruction when the …. -/
def PC : Fld := ⟨.CG_ABORT_PC, 63, 0, .ro, []⟩
end CG_ABORT_PC

namespace CG_LASTSEQ
/-- g of the last CG.END; 0 after a group with an empty write set. -/
def SEQ : Fld := ⟨.CG_LASTSEQ, 63, 0, .rw, []⟩
end CG_LASTSEQ

namespace CG_DEPSEL
/-- stream read through CG_DEPSEQ and CG_WMARK. -/
def STREAM : Fld := ⟨.CG_DEPSEL, 5, 0, .rw, []⟩
end CG_DEPSEL

namespace CG_DEPSEQ
/-- entry of the selected stream: 0 when empty, and its number when LOST; a write sets the entry to the larger …. -/
def SEQ : Fld := ⟨.CG_DEPSEQ, 63, 0, .rw, []⟩
end CG_DEPSEQ

namespace CG_DEPMASK
/-- bit s is 1 while the entry for stream s is undurable and not LOST. -/
def MASK : Fld := ⟨.CG_DEPMASK, 63, 0, .ro, []⟩
end CG_DEPMASK

namespace CG_DEPLOST
/-- bit s is 1 while the entry for stream s is LOST. -/
def MASK : Fld := ⟨.CG_DEPLOST, 63, 0, .ro, []⟩
end CG_DEPLOST

namespace CG_WMARK
/-- published durable watermark of the selected stream as the tile holds it; 0 for a stream not assigned to …. -/
def WMARK : Fld := ⟨.CG_WMARK, 63, 0, .ro, []⟩
end CG_WMARK

namespace CG_BIND
/-- the slot is bound. -/
def VALID : Fld := ⟨.CG_BIND, 63, 63, .rw, []⟩
/-- U and VU mode may open groups on the slot. -/
def UEN : Fld := ⟨.CG_BIND, 62, 62, .rw, []⟩
/-- journal stream, 0 to 63; assignment is checked at CG.BEGIN (R152). -/
def STREAM : Fld := ⟨.CG_BIND, 5, 0, .rw, []⟩
end CG_BIND

namespace CG_CFG
/-- CG.BEGIN is allowed. -/
def EN : Fld := ⟨.CG_CFG, 63, 63, .rw, []⟩
/-- device stores and AMOs wait for durable dependencies (R171). -/
def DEVHOLD : Fld := ⟨.CG_CFG, 62, 62, .rw, []⟩
/-- interrupt deferral in µs, 1 to 20; 0 and 21 to 31 reserved. -/
def DEFER_US : Fld := ⟨.CG_CFG, 4, 0, .rw, [(1, 0x14)]⟩
end CG_CFG

namespace SPN_STREAM_CFG
/-- stream enabled; a write takes effect as R180 states. -/
def EN : Fld := ⟨.SPN_STREAM_CFG, 63, 63, .rw, []⟩
/-- durability level 0 to 3 (R181). -/
def LEVEL : Fld := ⟨.SPN_STREAM_CFG, 1, 0, .rw, []⟩
end SPN_STREAM_CFG

namespace SPN_STREAM_STATE
/-- 0b00 DISABLED, 0b01 OPEN, 0b10 PAUSED, 0b11 FENCED. -/
def STATE : Fld := ⟨.SPN_STREAM_STATE, 63, 62, .ro, []⟩
/-- 0b00 none, 0b01 term, 0b10 dependency, 0b11 command or refused append. -/
def FENCE_CAUSE : Fld := ⟨.SPN_STREAM_STATE, 61, 60, .ro, []⟩
/-- opening count of R189; 0 after reset, 1 after the first opening. -/
def OPENING : Fld := ⟨.SPN_STREAM_STATE, 58, 43, .ro, []⟩
/-- A − W, 0 to 1,024; 0 when FENCED. -/
def UNDURABLE : Fld := ⟨.SPN_STREAM_STATE, 42, 32, .rs, []⟩
/-- parked requests, 0 to 96. -/
def PARKED : Fld := ⟨.SPN_STREAM_STATE, 31, 24, .rs, []⟩
/-- 0b01 FENCE, 0b10 RESUME, 0b11 RESTART, 0b00 no action. -/
def CMD : Fld := ⟨.SPN_STREAM_STATE, 1, 0, .wo, []⟩
end SPN_STREAM_STATE

namespace SPN_STREAM_WMARK
/-- W of R182; the loss point when FENCED. -/
def W : Fld := ⟨.SPN_STREAM_WMARK, 63, 0, .ro, []⟩
end SPN_STREAM_WMARK

namespace SPN_STREAM_ASSIGNED
/-- highest number assigned, including lost and voided numbers. -/
def A : Fld := ⟨.SPN_STREAM_ASSIGNED, 63, 0, .ro, []⟩
end SPN_STREAM_ASSIGNED

namespace SPN_STREAM_NEXT
/-- first number used at enable and RESTART; 0 is reserved and leaves the field unchanged. -/
def NEXT : Fld := ⟨.SPN_STREAM_NEXT, 63, 0, .rw, [(1, 0xFFFFFFFFFFFFFFFF)]⟩
end SPN_STREAM_NEXT

namespace JRN_REGION
/-- region size 2^SIZE_LOG2 bytes, 21 to 40; 0 means no region, and every reservation of the stream waits; 1 …. -/
def SIZE_LOG2 : Fld := ⟨.JRN_REGION, 63, 58, .rw, [(0, 0), (0x15, 0x28)]⟩
/-- staging quota in units of 64 KiB, 1 to 512; 0 and 513 to 1,023 reserved; applies to later reservations. -/
def QUOTA_64K : Fld := ⟨.JRN_REGION, 57, 48, .rw, [(1, 0x200)]⟩
/-- PA[47:21] of the region's base. -/
def BASE : Fld := ⟨.JRN_REGION, 47, 21, .rw, []⟩
end JRN_REGION

namespace JRN_APPEND_PTR
/-- bytes appended since enable or RESTART, including pads and remainders. -/
def APPEND : Fld := ⟨.JRN_APPEND_PTR, 63, 0, .ro, []⟩
end JRN_APPEND_PTR

namespace JRN_DRAIN_PTR
/-- bytes released by software; written under R195. -/
def DRAIN : Fld := ⟨.JRN_DRAIN_PTR, 63, 0, .rw, []⟩
end JRN_DRAIN_PTR

namespace JRN_STREAM_STATUS
/-- bytes of the stream held in staging, 0 to 33,554,432. -/
def STAGED : Fld := ⟨.JRN_STREAM_STATUS, 57, 32, .rs, []⟩
/-- appends wait for the drain (R195). -/
def REGION_FULL : Fld := ⟨.JRN_STREAM_STATUS, 1, 1, .ro, []⟩
/-- a DRAIN_PTR write was ignored; a set in the same cycle as a clear wins (R8). -/
def DRAIN_ERR : Fld := ⟨.JRN_STREAM_STATUS, 0, 0, .w1c, []⟩
end JRN_STREAM_STATUS

namespace PAIR_CTL
/-- slot of the other core, 0 to 4; 5 to 7 reserved. -/
def PARTNER : Fld := ⟨.PAIR_CTL, 11, 9, .rw, [(0, 4)]⟩
/-- 0b00 none, 0b01 leader, 0b10 trailer; 0b11 reserved. -/
def ROLE : Fld := ⟨.PAIR_CTL, 3, 2, .rw, [(0, 2)]⟩
/-- 0b01 BIND, 0b10 UNBIND, 0b11 PARK, 0b00 no action; a CMD that R200 does not allow in the current state is …. -/
def CMD : Fld := ⟨.PAIR_CTL, 1, 0, .wo, []⟩
end PAIR_CTL

namespace PAIR_STATUS
/-- 0b000 UNBOUND, 0b001 PAIRWAIT, 0b010 BOUND, 0b011 VOTING, 0b100 STOPPED; other values never read. -/
def STATE : Fld := ⟨.PAIR_STATUS, 63, 61, .ro, []⟩
/-- last BIND: 0 accepted, 1 partner not in PAIRWAIT, 2 partner in another partition, 3 partner not ENABLED or …. -/
def BIND_ERR : Fld := ⟨.PAIR_STATUS, 55, 52, .ro, []⟩
/-- outcome of the last vote under R213; 0 none. -/
def LAST_VOTE : Fld := ⟨.PAIR_STATUS, 51, 48, .ro, []⟩
/-- input-log entries in use, 0 to 1,024. -/
def LOG_USED : Fld := ⟨.PAIR_STATUS, 10, 0, .ro, []⟩
end PAIR_STATUS

namespace PAIR_RESUME
/-- bits [63:2] of the address at which the trailer resumes after UNBIND. -/
def ADDR : Fld := ⟨.PAIR_RESUME, 63, 2, .rw, []⟩
end PAIR_RESUME

namespace PAIR_COUNT
/-- votes requested. -/
def VOTES : Fld := ⟨.PAIR_COUNT, 63, 32, .ro, []⟩
/-- failed intervals, including WALK_RACE. -/
def MISMATCHES : Fld := ⟨.PAIR_COUNT, 31, 0, .ro, []⟩
end PAIR_COUNT

namespace PAIR_FAILPC
/-- start pc of the pair's last failed interval under R211; 0 when none is outstanding. -/
def PC : Fld := ⟨.PAIR_FAILPC, 63, 0, .ro, []⟩
end PAIR_FAILPC

namespace PAIR_CFG
/-- vote limit in µs, 20 to 1,000; 0 to 19 and 1,001 to 65,535 reserved. -/
def VOTE_LIMIT_US : Fld := ⟨.PAIR_CFG, 15, 0, .rw, [(0x14, 0x3E8)]⟩
end PAIR_CFG

namespace FAB_NODE
/-- fabric timers frozen (R255); a write of 1 outside DEVELOP is ignored. -/
def FREEZE : Fld := ⟨.FAB_NODE, 63, 63, .rw, []⟩
/-- this device is the grandmaster. -/
def GM : Fld := ⟨.FAB_NODE, 62, 62, .rw, []⟩
/-- remote timeout in µs, 10 to 65,535; 0 to 9 reserved. -/
def RREAD_US : Fld := ⟨.FAB_NODE, 55, 40, .rw, [(0xA, 0xFFFF)]⟩
/-- sync interval in µs, 16 to 1,000; other values reserved. -/
def SYNC_US : Fld := ⟨.FAB_NODE, 39, 30, .rw, [(0x10, 0x3E8)]⟩
/-- fabric domain checked at admission. -/
def DOMAIN : Fld := ⟨.FAB_NODE, 29, 14, .rw, []⟩
/-- node ID, 1 to 16,383; 0 unassigned, and no port leaves LINK_UP. -/
def NODE_ID : Fld := ⟨.FAB_NODE, 13, 0, .rw, []⟩
end FAB_NODE

namespace FAB_ROUTE
/-- entry in use. -/
def VALID : Fld := ⟨.FAB_ROUTE, 63, 63, .rw, []⟩
/-- the packet moves to level 1 here. -/
def LVL_UP : Fld := ⟨.FAB_ROUTE, 4, 4, .rw, []⟩
/-- output port 0 to 7; 0xF node 42; 8 to 14 reserved. -/
def OUT : Fld := ⟨.FAB_ROUTE, 3, 0, .rw, [(0, 7), (0xF, 0xF)]⟩
end FAB_ROUTE

namespace FAB_APERTURE
/-- aperture in use. -/
def VALID : Fld := ⟨.FAB_APERTURE, 63, 63, .rw, []⟩
/-- reads allowed. -/
def RD : Fld := ⟨.FAB_APERTURE, 62, 62, .rw, []⟩
/-- writes allowed. -/
def WR : Fld := ⟨.FAB_APERTURE, 61, 61, .rw, []⟩
/-- atomics allowed. -/
def ATOM : Fld := ⟨.FAB_APERTURE, 60, 60, .rw, []⟩
/-- window 2^SIZE_LOG2 bytes, 12 to 31; 0 to 11 reserved. -/
def SIZE_LOG2 : Fld := ⟨.FAB_APERTURE, 59, 55, .rw, [(0xC, 0x1F)]⟩
/-- target node ID. -/
def NODE : Fld := ⟨.FAB_APERTURE, 49, 36, .rw, []⟩
/-- remote PA[47:12] (R241). -/
def RBASE : Fld := ⟨.FAB_APERTURE, 35, 0, .rw, []⟩
end FAB_APERTURE

namespace FAB_INBOUND
/-- window in use. -/
def VALID : Fld := ⟨.FAB_INBOUND, 63, 63, .rw, []⟩
/-- reads allowed. -/
def RD : Fld := ⟨.FAB_INBOUND, 62, 62, .rw, []⟩
/-- writes allowed. -/
def WR : Fld := ⟨.FAB_INBOUND, 61, 61, .rw, []⟩
/-- atomics allowed. -/
def ATOM : Fld := ⟨.FAB_INBOUND, 60, 60, .rw, []⟩
/-- 1 secure, 0 normal. -/
def WORLD : Fld := ⟨.FAB_INBOUND, 59, 59, .rw, []⟩
/-- owning partition. -/
def PARTITION : Fld := ⟨.FAB_INBOUND, 58, 55, .rw, []⟩
/-- window 2^SIZE_LOG2 bytes, 21 to 40; other values reserved. -/
def SIZE_LOG2 : Fld := ⟨.FAB_INBOUND, 54, 49, .rw, [(0x15, 0x28)]⟩
/-- permitted source; 0 any. -/
def SRC_NODE : Fld := ⟨.FAB_INBOUND, 48, 35, .rw, []⟩
/-- local PA[47:21], aligned to the window size. -/
def BASE : Fld := ⟨.FAB_INBOUND, 26, 0, .rw, []⟩
end FAB_INBOUND

namespace FAB_RXRING_CFG
/-- ring in use. -/
def VALID : Fld := ⟨.FAB_RXRING_CFG, 63, 63, .rw, []⟩
/-- owning partition. -/
def PARTITION : Fld := ⟨.FAB_RXRING_CFG, 62, 59, .rw, []⟩
/-- slot 2^SLOT_LOG2 bytes, 6 to 12; other values reserved. -/
def SLOT_LOG2 : Fld := ⟨.FAB_RXRING_CFG, 58, 55, .rw, [(6, 0xC)]⟩
/-- 2^COUNT_LOG2 slots, 4 to 15; 0 to 3 reserved. -/
def COUNT_LOG2 : Fld := ⟨.FAB_RXRING_CFG, 54, 51, .rw, [(4, 0xF)]⟩
/-- permitted sender; 0 any. -/
def SRC_NODE : Fld := ⟨.FAB_RXRING_CFG, 49, 36, .rw, []⟩
/-- PA[47:12], aligned to the ring size. -/
def BASE : Fld := ⟨.FAB_RXRING_CFG, 35, 0, .rw, []⟩
end FAB_RXRING_CFG

namespace FAB_RXRING_PTR
/-- slots written, mod 2^16. -/
def PRODUCER : Fld := ⟨.FAB_RXRING_PTR, 47, 32, .ro, []⟩
/-- slots released by software; a value outside the range from the old CONSUMER to PRODUCER is ignored. -/
def CONSUMER : Fld := ⟨.FAB_RXRING_PTR, 15, 0, .rw, []⟩
end FAB_RXRING_PTR

namespace FAB_SQ_CFG
/-- queue in use. -/
def VALID : Fld := ⟨.FAB_SQ_CFG, 63, 63, .rw, []⟩
/-- 2^COUNT_LOG2 descriptors, 4 to 15; 0 to 3 reserved. -/
def COUNT_LOG2 : Fld := ⟨.FAB_SQ_CFG, 54, 51, .rw, [(4, 0xF)]⟩
/-- PA[47:12], aligned to the queue size. -/
def BASE : Fld := ⟨.FAB_SQ_CFG, 35, 0, .rw, []⟩
end FAB_SQ_CFG

namespace FAB_SQ_PTR
/-- descriptors completed, mod 2^16. -/
def HEAD : Fld := ⟨.FAB_SQ_PTR, 47, 32, .ro, []⟩
/-- descriptors posted; a value more than 2^COUNT_LOG2 ahead of HEAD is ignored. -/
def TAIL : Fld := ⟨.FAB_SQ_PTR, 15, 0, .rw, []⟩
end FAB_SQ_PTR

namespace FAB_PORT_CTL
/-- port enabled (R251). -/
def ENABLE : Fld := ⟨.FAB_PORT_CTL, 63, 63, .rw, []⟩
/-- link encryption (R253). -/
def ENC : Fld := ⟨.FAB_PORT_CTL, 62, 62, .rw, []⟩
/-- 0b00 none, 0b01 upstream, 0b10 downstream; 0b11 reserved. -/
def TIME_ROLE : Fld := ⟨.FAB_PORT_CTL, 61, 60, .rw, [(0, 2)]⟩
/-- key-store handle of the link key. -/
def KEY_HANDLE : Fld := ⟨.FAB_PORT_CTL, 55, 40, .rw, []⟩
/-- active lane, 0 to 3, for LANE_SWAP; 0b111 none; 4 to 6 reserved. -/
def SPARE_FOR : Fld := ⟨.FAB_PORT_CTL, 26, 24, .rw, [(0, 3), (7, 7)]⟩
/-- 0x1 RETRAIN, 0x2 LANE_SWAP, 0x0 no action; other values reserved. -/
def CMD : Fld := ⟨.FAB_PORT_CTL, 3, 0, .wo, []⟩
end FAB_PORT_CTL

namespace FAB_PORT_STATUS
/-- 0 DISABLED, 1 TRAINING, 2 LINK_UP, 3 ATTESTING, 4 ACTIVE, 5 QUARANTINED; other values never read. -/
def STATE : Fld := ⟨.FAB_PORT_STATUS, 63, 60, .ro, []⟩
/-- active lanes: 0, 2 or 4. -/
def LANES : Fld := ⟨.FAB_PORT_STATUS, 59, 56, .ro, []⟩
/-- lane that the spare replaces; 0b111 none. -/
def SPARE_USE : Fld := ⟨.FAB_PORT_STATUS, 55, 53, .ro, []⟩
/-- peer's node ID once ACTIVE. -/
def PEER_NODE : Fld := ⟨.FAB_PORT_STATUS, 47, 34, .ro, []⟩
/-- round trip measured at training, in ns, to within 8 ns; it includes the terms of R229 except the …. -/
def RTT_NS : Fld := ⟨.FAB_PORT_STATUS, 31, 16, .ro, []⟩
/-- 0 none, 1 signature, 2 key chain, 3 life cycle, 4 domain, 5 node ID, 6 nonce, 7 timeout, 8 key epoch exhausted. -/
def ADMIT_ERR : Fld := ⟨.FAB_PORT_STATUS, 15, 8, .ro, []⟩
/-- a GCM tag failed. -/
def AUTH_FAIL : Fld := ⟨.FAB_PORT_STATUS, 2, 2, .w1c, []⟩
/-- set under R249 or R250. -/
def TIME_FAULT : Fld := ⟨.FAB_PORT_STATUS, 1, 1, .w1c, []⟩
/-- folios were resent. -/
def REPLAY : Fld := ⟨.FAB_PORT_STATUS, 0, 0, .w1c, []⟩
end FAB_PORT_STATUS

namespace JRN_REPL_CFG
/-- ledger identifier (R258). -/
def LEDGER : Fld := ⟨.JRN_REPL_CFG, 63, 32, .rw, []⟩
/-- 0 BLOCK, 1 DROP (R268). -/
def POLICY : Fld := ⟨.JRN_REPL_CFG, 31, 31, .rw, []⟩
/-- last-gasp budget in µs, 5 to 200; other values reserved. -/
def GASP_US : Fld := ⟨.JRN_REPL_CFG, 27, 20, .rw, [(5, 0xC8)]⟩
/-- peer timeout in µs, 20 to 1,000,000; other values reserved. -/
def PEER_TIMEOUT_US : Fld := ⟨.JRN_REPL_CFG, 19, 0, .rw, [(0x14, 0xF4240)]⟩
end JRN_REPL_CFG

namespace JRN_REPL_MEMBERS
/-- replica 0 named. -/
def R0_VALID : Fld := ⟨.JRN_REPL_MEMBERS, 63, 63, .rw, []⟩
/-- replica 1 named. -/
def R1_VALID : Fld := ⟨.JRN_REPL_MEMBERS, 62, 62, .rw, []⟩
/-- witness named. -/
def WIT_VALID : Fld := ⟨.JRN_REPL_MEMBERS, 61, 61, .rw, []⟩
/-- witness node ID. -/
def WIT_NODE : Fld := ⟨.JRN_REPL_MEMBERS, 41, 28, .rw, []⟩
/-- replica 1 node ID. -/
def R1_NODE : Fld := ⟨.JRN_REPL_MEMBERS, 27, 14, .rw, []⟩
/-- replica 0 node ID. -/
def R0_NODE : Fld := ⟨.JRN_REPL_MEMBERS, 13, 0, .rw, []⟩
end JRN_REPL_MEMBERS

namespace JRN_REPL_STATE
/-- 0 IDLE, 1 STREAMING, 2 DEGRADED, 3 CANDIDATE, 4 DEPOSED, 5 ENDED; other values never read. -/
def STATE : Fld := ⟨.JRN_REPL_STATE, 63, 61, .ro, []⟩
/-- 0 OFF, 1 LIVE, 2 CATCH_UP, 3 SILENT. -/
def R0_STATE : Fld := ⟨.JRN_REPL_STATE, 60, 59, .ro, []⟩
/-- as R0_STATE. -/
def R1_STATE : Fld := ⟨.JRN_REPL_STATE, 58, 57, .ro, []⟩
/-- grants received in the current promotion: bit 56 replica 0, bit 55 replica 1, bit 54 witness. -/
def GRANTED : Fld := ⟨.JRN_REPL_STATE, 56, 54, .ro, []⟩
/-- 0 none, 1 refused, 2 limit expired, 3 stream not DISABLED or FENCED, 4 term not higher, 5 slot invalid, 6 …. -/
def PROMOTE_ERR : Fld := ⟨.JRN_REPL_STATE, 53, 50, .ro, []⟩
/-- current term. -/
def TERM : Fld := ⟨.JRN_REPL_STATE, 47, 16, .rw, []⟩
/-- slot taken over at PROMOTE, 0 to 63. -/
def SLOT : Fld := ⟨.JRN_REPL_STATE, 15, 10, .rw, []⟩
/-- 1 take over SLOT; 0 keep the stream's own region. -/
def SLOT_V : Fld := ⟨.JRN_REPL_STATE, 9, 9, .rw, []⟩
/-- 0x1 PROMOTE, 0x2 STEP_DOWN, 0x0 no action; other values reserved. -/
def CMD : Fld := ⟨.JRN_REPL_STATE, 3, 0, .wo, []⟩
end JRN_REPL_STATE

namespace JRN_REPL_DEGRADED
/-- first number given a lower level under R268; 0 none; a write of 0 clears it, and other writes are ignored; …. -/
def FROM : Fld := ⟨.JRN_REPL_DEGRADED, 63, 0, .rw, []⟩
end JRN_REPL_DEGRADED

namespace JRN_REPL_HELD
/-- highest number the replica has acknowledged in the current term; 0 while OFF. -/
def HELD : Fld := ⟨.JRN_REPL_HELD, 63, 0, .ro, []⟩
end JRN_REPL_HELD

namespace JRN_RSLOT_CFG
/-- slot armed (R265). -/
def VALID : Fld := ⟨.JRN_RSLOT_CFG, 63, 63, .rw, []⟩
/-- slot is a witness. -/
def WITNESS : Fld := ⟨.JRN_RSLOT_CFG, 62, 62, .rw, []⟩
/-- 0 OFF, 1 WAITING, 2 CATCH_UP, 3 LIVE, 4 ENDED; other values never read. -/
def STATE : Fld := ⟨.JRN_RSLOT_CFG, 61, 59, .ro, []⟩
/-- node ID of the primary; updated by the device under R265. -/
def PRIMARY : Fld := ⟨.JRN_RSLOT_CFG, 57, 44, .rw, []⟩
/-- partition whose mirrored DRAM holds the region. -/
def PARTITION : Fld := ⟨.JRN_RSLOT_CFG, 43, 40, .rw, []⟩
/-- ledger identifier. -/
def LEDGER : Fld := ⟨.JRN_RSLOT_CFG, 31, 0, .rw, []⟩
end JRN_RSLOT_CFG

namespace JRN_RSLOT_REGION
/-- region size 2^SIZE_LOG2 bytes, 21 to 40; 0 no region (a witness); other values reserved. -/
def SIZE_LOG2 : Fld := ⟨.JRN_RSLOT_REGION, 63, 58, .rw, [(0, 0), (0x15, 0x28)]⟩
/-- PA[47:21] of the region's base. -/
def BASE : Fld := ⟨.JRN_RSLOT_REGION, 47, 21, .rw, []⟩
end JRN_RSLOT_REGION

namespace JRN_RSLOT_TERM
/-- term of the last held record. -/
def LAST_TERM : Fld := ⟨.JRN_RSLOT_TERM, 63, 32, .rw, []⟩
/-- current term (R260). -/
def TERM : Fld := ⟨.JRN_RSLOT_TERM, 31, 0, .rw, []⟩
end JRN_RSLOT_TERM

namespace JRN_RSLOT_HELD
/-- highest number held contiguously. -/
def HELD : Fld := ⟨.JRN_RSLOT_HELD, 63, 0, .rw, []⟩
end JRN_RSLOT_HELD

namespace JRN_RSLOT_APPEND
/-- free-running byte count of the next append, as JRN_APPEND_PTR. -/
def APPEND : Fld := ⟨.JRN_RSLOT_APPEND, 63, 0, .rw, []⟩
end JRN_RSLOT_APPEND

namespace JRN_RSLOT_DRAIN
/-- bytes released by software; written under R195. -/
def DRAIN : Fld := ⟨.JRN_RSLOT_DRAIN, 63, 0, .rw, []⟩
end JRN_RSLOT_DRAIN

namespace JRN_RSLOT_GASP
/-- F of the applied LAST_GASP; 0 when none has been applied since VALID was last written 1. -/
def SEQUENCE : Fld := ⟨.JRN_RSLOT_GASP, 63, 0, .ro, []⟩
end JRN_RSLOT_GASP

namespace MCT_DECODE
/-- window in use. -/
def VALID : Fld := ⟨.MCT_DECODE, 63, 63, .rw, []⟩
/-- mirrored window (R290). -/
def MIRROR : Fld := ⟨.MCT_DECODE, 62, 62, .rw, []⟩
/-- channels of the window; the count of set bits is to be 1, 2, 4, 8 or 16, or, for MIRROR, whole pairs with …. -/
def CH_MASK : Fld := ⟨.MCT_DECODE, 61, 46, .rw, []⟩
/-- channel address of the window's start on each channel, in GiB, 0 to 511. -/
def CHOFF_GIB : Fld := ⟨.MCT_DECODE, 45, 37, .rw, []⟩
/-- end of the window, exclusive, in GiB, 1 to 8,192. -/
def LIMIT_GIB : Fld := ⟨.MCT_DECODE, 36, 23, .rw, [(1, 0x2000)]⟩
/-- start of the window in GiB, 0 to 8,191. -/
def BASE_GIB : Fld := ⟨.MCT_DECODE, 22, 10, .rw, []⟩
end MCT_DECODE

namespace MCT_CH_STATUS
/-- 0 OFF, 1 TRAINING, 2 ACTIVE, 3 SELF_REFRESH, 4 FAILED; other values never read. -/
def STATE : Fld := ⟨.MCT_CH_STATUS, 63, 61, .ro, []⟩
/-- 0 none, 1 2400, 2 2666, 3 2933, 4 3200 MT/s. -/
def SPEED : Fld := ⟨.MCT_CH_STATUS, 60, 58, .ro, []⟩
/-- DIMMs in the channel, 0 to 2. -/
def DPC : Fld := ⟨.MCT_CH_STATUS, 57, 56, .ro, []⟩
/-- logical ranks, including the spare, 0 to 16. -/
def RANKS : Fld := ⟨.MCT_CH_STATUS, 55, 51, .ro, []⟩
/-- 0 none, 1 READY, 2 COPYING, 3 IN_USE. -/
def SPARE : Fld := ⟨.MCT_CH_STATUS, 50, 49, .ro, []⟩
/-- device in erasure, 0 to 17; 0x1F none. -/
def ERASED_DEV : Fld := ⟨.MCT_CH_STATUS, 48, 44, .ro, []⟩
/-- logical rank of the erased device, 0 to 15; 0x1F none. -/
def ERASED_RANK : Fld := ⟨.MCT_CH_STATUS, 43, 39, .ro, []⟩
/-- mapped capacity C of R288 in GiB, 0 to 512. -/
def CAP_GIB : Fld := ⟨.MCT_CH_STATUS, 38, 29, .ro, []⟩
/-- rows repaired on the channel, saturating at 255. -/
def PPR_USED : Fld := ⟨.MCT_CH_STATUS, 28, 21, .ro, []⟩
end MCT_CH_STATUS

namespace MCT_ECC_COUNT
/-- detected, not corrected, including patrol finds. -/
def UNCORRECTED : Fld := ⟨.MCT_ECC_COUNT, 63, 48, .rs, []⟩
/-- corrected, including mirror corrections. -/
def CORRECTED : Fld := ⟨.MCT_ECC_COUNT, 47, 16, .rs, []⟩
/-- 1 sets both counts to 0; a count event in the same cycle counts after the clear. -/
def CLEAR : Fld := ⟨.MCT_ECC_COUNT, 15, 15, .wo, []⟩
end MCT_ECC_COUNT

namespace MCT_ECC_LOG
/-- an error has been logged; a set in the same cycle as a clear wins (R8). -/
def VALID : Fld := ⟨.MCT_ECC_LOG, 63, 63, .w1c, []⟩
/-- 0 corrected, 1 uncorrected, 2 mirror corrected, 3 patrol uncorrected. -/
def KIND : Fld := ⟨.MCT_ECC_LOG, 62, 61, .rs, []⟩
/-- logical rank of the channel, 0 to 15. -/
def RANK : Fld := ⟨.MCT_ECC_LOG, 60, 57, .rs, []⟩
/-- bank group. -/
def BANK_GROUP : Fld := ⟨.MCT_ECC_LOG, 56, 55, .rs, []⟩
/-- bank. -/
def BANK : Fld := ⟨.MCT_ECC_LOG, 54, 53, .rs, []⟩
/-- row. -/
def ROW : Fld := ⟨.MCT_ECC_LOG, 52, 35, .rs, []⟩
/-- device in error, 0 to 17; 0x1F more than one. -/
def DEVICE : Fld := ⟨.MCT_ECC_LOG, 34, 30, .rs, []⟩
/-- column. -/
def COLUMN : Fld := ⟨.MCT_ECC_LOG, 29, 20, .rs, []⟩
end MCT_ECC_LOG

namespace MCT_SCRUB
/-- patrol scrub on (R300). -/
def EN : Fld := ⟨.MCT_SCRUB, 63, 63, .rw, []⟩
/-- hours per pass, 1 to 168; 0 and 169 to 65,535 reserved. -/
def PERIOD_H : Fld := ⟨.MCT_SCRUB, 47, 32, .rw, [(1, 0xA8)]⟩
/-- passes completed since reset, saturating. -/
def PASSES : Fld := ⟨.MCT_SCRUB, 31, 0, .ro, []⟩
end MCT_SCRUB

namespace PCIE_CTL
/-- controller enabled; links train. -/
def EN : Fld := ⟨.PCIE_CTL, 63, 63, .rw, []⟩
/-- 0 root port, 1 endpoint; 1 is reserved on controllers 1 to 3. -/
def MODE : Fld := ⟨.PCIE_CTL, 62, 62, .rw, []⟩
/-- R310, 0 to 4; 5 to 7 reserved. -/
def BIFURCATION : Fld := ⟨.PCIE_CTL, 61, 59, .rw, [(0, 4)]⟩
/-- 1 to 5 for 2.5 to 32 GT/s; 0, 6 and 7 reserved. -/
def MAX_SPEED : Fld := ⟨.PCIE_CTL, 58, 56, .rw, [(1, 5)]⟩
/-- completion timeout in µs, 50 to 65,535; 0 to 49 reserved. -/
def CPL_TIMEOUT_US : Fld := ⟨.PCIE_CTL, 47, 32, .rw, [(0x32, 0xFFFF)]⟩
end PCIE_CTL

namespace PCIE_PORT_CFG
/-- 1 drives the port's PERST_N high. -/
def PERST_REL : Fld := ⟨.PCIE_PORT_CFG, 63, 63, .rw, []⟩
/-- the port belongs wholly to PARTITION (R323). -/
def OWNED : Fld := ⟨.PCIE_PORT_CFG, 62, 62, .rw, []⟩
/-- 1 secure, 0 normal. -/
def WORLD : Fld := ⟨.PCIE_PORT_CFG, 61, 61, .rw, []⟩
/-- owning partition. -/
def PARTITION : Fld := ⟨.PCIE_PORT_CFG, 60, 57, .rw, []⟩
end PCIE_PORT_CFG

namespace PCIE_PORT_STATUS
/-- Data Link Layer active. -/
def LINK_UP : Fld := ⟨.PCIE_PORT_STATUS, 63, 63, .ro, []⟩
/-- negotiated width: 0, 1, 2, 4, 8 or 16. -/
def WIDTH : Fld := ⟨.PCIE_PORT_STATUS, 62, 58, .ro, []⟩
/-- 0 none, 1 to 5 as MAX_SPEED. -/
def SPEED : Fld := ⟨.PCIE_PORT_STATUS, 57, 55, .ro, []⟩
/-- LTSSM state code. -/
def LTSSM : Fld := ⟨.PCIE_PORT_STATUS, 54, 49, .ro, []⟩
/-- non-posted tags held by the port, 0 to 768. -/
def TAGS_USED : Fld := ⟨.PCIE_PORT_STATUS, 41, 32, .ro, []⟩
/-- the link went down unexpectedly. -/
def SURPRISE_DOWN : Fld := ⟨.PCIE_PORT_STATUS, 2, 2, .w1c, []⟩
/-- a completion timed out. -/
def CPL_TIMEOUT : Fld := ⟨.PCIE_PORT_STATUS, 1, 1, .w1c, []⟩
/-- an AER error was logged. -/
def AER : Fld := ⟨.PCIE_PORT_STATUS, 0, 0, .w1c, []⟩
end PCIE_PORT_STATUS

namespace IOMMU_FAT_MATCH
/-- entry in use. -/
def VALID : Fld := ⟨.IOMMU_FAT_MATCH, 63, 63, .rw, []⟩
/-- 1 secure, 0 normal. -/
def WORLD : Fld := ⟨.IOMMU_FAT_MATCH, 62, 62, .rw, []⟩
/-- owning partition. -/
def PARTITION : Fld := ⟨.IOMMU_FAT_MATCH, 61, 58, .rw, []⟩
/-- controller 0 to 3. -/
def CONTROLLER : Fld := ⟨.IOMMU_FAT_MATCH, 57, 56, .rw, []⟩
/-- the range holds 2^RID_LOG2 RIDs, 0 to 16; 17 to 31 reserved. -/
def RID_LOG2 : Fld := ⟨.IOMMU_FAT_MATCH, 36, 32, .rw, [(0, 0x10)]⟩
/-- first RID, aligned to the range size. -/
def RID_BASE : Fld := ⟨.IOMMU_FAT_MATCH, 15, 0, .rw, []⟩
end IOMMU_FAT_MATCH

namespace IOMMU_FAT_BASE
/-- PA[47:12] of the DCT. -/
def DCT : Fld := ⟨.IOMMU_FAT_BASE, 47, 12, .rw, []⟩
end IOMMU_FAT_BASE

namespace IOMMU_INVAL
/-- a command is running. -/
def BUSY : Fld := ⟨.IOMMU_INVAL, 63, 63, .ro, []⟩
/-- entry for CMD 2; an entry of another partition matches nothing. -/
def FAT_ENTRY : Fld := ⟨.IOMMU_INVAL, 55, 48, .rw, []⟩
/-- VMID for CMD 3. -/
def VMID : Fld := ⟨.IOMMU_INVAL, 33, 20, .rw, []⟩
/-- 1 whole partition, 2 one FAT entry, 3 one VMID, 0 no action; 4 to 7 reserved. -/
def CMD : Fld := ⟨.IOMMU_INVAL, 2, 0, .wo, []⟩
end IOMMU_INVAL

namespace IOMMU_FAULT
/-- a fault has been logged; a set in the same cycle as a clear wins (R8). -/
def VALID : Fld := ⟨.IOMMU_FAULT, 63, 63, .w1c, []⟩
/-- 0 no context, 1 translation, 2 World Table, 3 MSI discarded. -/
def KIND : Fld := ⟨.IOMMU_FAULT, 62, 60, .rs, []⟩
/-- controller of the request. -/
def CONTROLLER : Fld := ⟨.IOMMU_FAULT, 59, 58, .rs, []⟩
/-- the request was a write. -/
def WRITE : Fld := ⟨.IOMMU_FAULT, 57, 57, .rs, []⟩
/-- requester ID. -/
def RID : Fld := ⟨.IOMMU_FAULT, 56, 41, .rs, []⟩
/-- faults since the last clear, saturating at 63. -/
def COUNT : Fld := ⟨.IOMMU_FAULT, 40, 35, .rs, []⟩
end IOMMU_FAULT

namespace CPH_STATUS
/-- 0b00 OFF, 0b01 SELFTEST, 0b10 READY, 0b11 FAILED. -/
def STATE : Fld := ⟨.CPH_STATUS, 63, 62, .ro, []⟩
/-- key-cache entries in use, 0 to 256. -/
def KEYCACHE_USED : Fld := ⟨.CPH_STATUS, 56, 48, .ro, []⟩
/-- jobs in flight, 0 to 64. -/
def JOBS : Fld := ⟨.CPH_STATUS, 47, 40, .ro, []⟩
/-- the last self-test failed (R344). -/
def SELFTEST_FAIL : Fld := ⟨.CPH_STATUS, 0, 0, .ro, []⟩
end CPH_STATUS

namespace CPH_RING_CFG
/-- ring in use. -/
def VALID : Fld := ⟨.CPH_RING_CFG, 63, 63, .rw, []⟩
/-- 1 secure, 0 normal. -/
def WORLD : Fld := ⟨.CPH_RING_CFG, 62, 62, .rw, []⟩
/-- owning partition. -/
def PARTITION : Fld := ⟨.CPH_RING_CFG, 61, 58, .rw, []⟩
/-- 2^COUNT_LOG2 descriptors, 4 to 15; 0 to 3 reserved. -/
def COUNT_LOG2 : Fld := ⟨.CPH_RING_CFG, 57, 54, .rw, [(4, 0xF)]⟩
/-- memory class of R131. -/
def QOS : Fld := ⟨.CPH_RING_CFG, 49, 48, .rw, []⟩
/-- PA[47:12], aligned to the ring size. -/
def BASE : Fld := ⟨.CPH_RING_CFG, 47, 12, .rw, []⟩
end CPH_RING_CFG

namespace CPH_RING_PTR
/-- descriptors completed, mod 2^16 (R333). -/
def HEAD : Fld := ⟨.CPH_RING_PTR, 47, 32, .ro, []⟩
/-- descriptors posted; a value more than 2^COUNT_LOG2 ahead of HEAD is ignored. -/
def TAIL : Fld := ⟨.CPH_RING_PTR, 15, 0, .rw, []⟩
end CPH_RING_PTR

namespace WCTL
/-- modes below M run in the normal world; takes effect at the next MRET (R349). -/
def NS : Fld := ⟨.WCTL, 0, 0, .rw, []⟩
end WCTL

namespace WSTATUS
/-- the last trap into M-mode came from the normal world. -/
def PREV_NS : Fld := ⟨.WSTATUS, 63, 63, .ro, []⟩
/-- partition of the hart (R362). -/
def PARTITION : Fld := ⟨.WSTATUS, 3, 0, .ro, []⟩
end WSTATUS

namespace WPC_CFG
/-- fixes WT_BASE, WT_EN and SECURE_WAYS. -/
def LOCK : Fld := ⟨.WPC_CFG, 63, 63, .w1s, []⟩
/-- L3 ways for the secure world, 0 to 8; 9 to 15 reserved (R360). -/
def SECURE_WAYS : Fld := ⟨.WPC_CFG, 59, 56, .rw, [(0, 8)]⟩
/-- PA[47:22] of the World Table. -/
def WT_BASE : Fld := ⟨.WPC_CFG, 47, 22, .rw, []⟩
/-- the World Table is used (R353). -/
def WT_EN : Fld := ⟨.WPC_CFG, 0, 0, .rw, []⟩
end WPC_CFG

namespace WPC_SYNC
/-- invalidation under way (R356). -/
def BUSY : Fld := ⟨.WPC_SYNC, 63, 63, .ro, []⟩
/-- the last command completed; cleared by GO. -/
def DONE : Fld := ⟨.WPC_SYNC, 62, 62, .ro, []⟩
/-- range of 2^SIZE_LOG2 bytes, 21 to 48; other values reserved. -/
def SIZE_LOG2 : Fld := ⟨.WPC_SYNC, 53, 48, .rw, [(0x15, 0x30)]⟩
/-- PA[47:21] of the range, aligned to its size. -/
def BASE : Fld := ⟨.WPC_SYNC, 47, 21, .rw, []⟩
/-- 1 starts the invalidation. -/
def GO : Fld := ⟨.WPC_SYNC, 0, 0, .wo, []⟩
end WPC_SYNC

namespace WPC_REGION
/-- entry in use. -/
def VALID : Fld := ⟨.WPC_REGION, 63, 63, .rw, []⟩
/-- early write acknowledgement allowed (R71, R72). -/
def EWA : Fld := ⟨.WPC_REGION, 62, 62, .rw, []⟩
/-- for PCIe addresses: owner given by WORLD and PARTITION; 0 secure. -/
def ASSIGN : Fld := ⟨.WPC_REGION, 61, 61, .rw, []⟩
/-- 1 secure, 0 normal. -/
def WORLD : Fld := ⟨.WPC_REGION, 60, 60, .rw, []⟩
/-- owning partition. -/
def PARTITION : Fld := ⟨.WPC_REGION, 59, 56, .rw, []⟩
/-- range of 2^SIZE_LOG2 bytes, 21 to 40; other values reserved. -/
def SIZE_LOG2 : Fld := ⟨.WPC_REGION, 53, 48, .rw, [(0x15, 0x28)]⟩
/-- PA[47:21], aligned to the size. -/
def BASE : Fld := ⟨.WPC_REGION, 47, 21, .rw, []⟩
end WPC_REGION

namespace WPC_OWNER
/-- entry in use; 0 means secure, or partition 0 for a hart. -/
def VALID : Fld := ⟨.WPC_OWNER, 63, 63, .rw, []⟩
/-- 0b00 SECURE, 0b01 NORMAL, 0b10 SHARED (block entries only; reserved elsewhere); 0b11 reserved; hart …. -/
def KIND : Fld := ⟨.WPC_OWNER, 62, 61, .rw, [(0, 2)]⟩
/-- owning partition; ignored for SECURE and SHARED. -/
def PARTITION : Fld := ⟨.WPC_OWNER, 3, 0, .rw, []⟩
end WPC_OWNER

namespace WPC_PART_CFG
/-- a partition reset becomes a system reset (R363). -/
def ESCALATE : Fld := ⟨.WPC_PART_CFG, 63, 63, .rw, []⟩
/-- lowest normal-band priority number allowed, 64 to 255; 0 to 63 reserved. -/
def PRIO_FLOOR : Fld := ⟨.WPC_PART_CFG, 55, 48, .rw, [(0x40, 0xFF)]⟩
/-- limit of step 3 in µs, 50 to 65,535; 0 to 49 reserved. -/
def FLUSH_LIMIT_US : Fld := ⟨.WPC_PART_CFG, 47, 32, .rw, [(0x32, 0xFFFF)]⟩
/-- bucket depth per channel in KiB, 1 to 65,535; 0 reserved. -/
def BURST_KIB : Fld := ⟨.WPC_PART_CFG, 31, 16, .rw, [(1, 0xFFFF)]⟩
/-- device-wide rate in units of 100 MB/s; 0 unregulated (R361). -/
def RATE : Fld := ⟨.WPC_PART_CFG, 15, 0, .rw, []⟩
end WPC_PART_CFG

namespace WPC_PART_CTL
/-- 0b00 RUNNING, 0b01 RESETTING, 0b10 HELD; 0b11 never read. -/
def STATE : Fld := ⟨.WPC_PART_CTL, 63, 62, .ro, []⟩
/-- stay HELD after step 5 of R364. -/
def HOLD : Fld := ⟨.WPC_PART_CTL, 61, 61, .rw, []⟩
/-- 0 none, 1 watchdog, 2 command, 3 Macen, 4 WCALL. -/
def LAST_CAUSE : Fld := ⟨.WPC_PART_CTL, 55, 52, .ro, []⟩
/-- partition resets since system reset, saturating. -/
def RESETS : Fld := ⟨.WPC_PART_CTL, 31, 16, .ro, []⟩
/-- 0b01 RESET, 0b10 RELEASE (only in HELD), 0b00 no action; 0b11 reserved. -/
def CMD : Fld := ⟨.WPC_PART_CTL, 1, 0, .wo, []⟩
end WPC_PART_CTL

namespace EVR_PFW_TIME
/-- DTIME at which source 1,600 last became pending (R388). -/
def DTIME : Fld := ⟨.EVR_PFW_TIME, 63, 0, .ro, []⟩
end EVR_PFW_TIME

namespace EVR_SRC_CFG
/-- source enabled (R382). -/
def EN : Fld := ⟨.EVR_SRC_CFG, 63, 63, .rw, []⟩
/-- NMI-class when PAGE is 16 (R377); ignored otherwise. -/
def NMI : Fld := ⟨.EVR_SRC_CFG, 62, 62, .rw, []⟩
/-- 1 edge, 0 level (R371). -/
def EDGE : Fld := ⟨.EVR_SRC_CFG, 61, 61, .rw, []⟩
/-- target hart, 0 to 95; 96 to 127 reserved. -/
def HART : Fld := ⟨.EVR_SRC_CFG, 22, 16, .rw, [(0, 0x5F)]⟩
/-- target t of R372, 0 to 16; 17 to 31 reserved. -/
def PAGE : Fld := ⟨.EVR_SRC_CFG, 12, 8, .rw, [(0, 0x10)]⟩
/-- programmed priority (R373). -/
def PRIO : Fld := ⟨.EVR_SRC_CFG, 7, 0, .rw, []⟩
end EVR_SRC_CFG

namespace EVR_SRC_PEND
/-- bit i is 1 while source 64 × word + i is pending. -/
def PEND : Fld := ⟨.EVR_SRC_PEND, 63, 0, .ro, []⟩
end EVR_SRC_PEND

namespace EVR_RING_ROUTE
/-- ring raises message interrupts (R374). -/
def EN : Fld := ⟨.EVR_RING_ROUTE, 63, 63, .rw, []⟩
/-- target hart, 0 to 95; 96 to 127 reserved. -/
def HART : Fld := ⟨.EVR_RING_ROUTE, 22, 16, .rw, [(0, 0x5F)]⟩
/-- target, 0 to 16; 17 to 31 reserved. -/
def PAGE : Fld := ⟨.EVR_RING_ROUTE, 12, 8, .rw, [(0, 0x10)]⟩
/-- priority, and so the message bit set. -/
def PRIO : Fld := ⟨.EVR_RING_ROUTE, 7, 0, .rw, []⟩
end EVR_RING_ROUTE

namespace EVR_TGT_CLAIM
/-- an entry was claimed. -/
def VALID : Fld := ⟨.EVR_TGT_CLAIM, 63, 63, .rs, []⟩
/-- identity of R372; 0 when VALID is 0. -/
def ID : Fld := ⟨.EVR_TGT_CLAIM, 11, 0, .rs, []⟩
end EVR_TGT_CLAIM

namespace EVR_TGT_EOI
/-- identity whose service ends (R381). -/
def ID : Fld := ⟨.EVR_TGT_EOI, 11, 0, .wo, []⟩
end EVR_TGT_EOI

namespace EVR_TGT_THRESH
/-- entries with priority below THRESH are signalled and claimable; 0 masks all; 0x101 to 0x1FF reserved. -/
def THRESH : Fld := ⟨.EVR_TGT_THRESH, 8, 0, .rw, [(0, 0x100)]⟩
end EVR_TGT_THRESH

namespace EVR_TGT_INJECT
/-- sets the message bit of this priority, held under R373. -/
def PRIO : Fld := ⟨.EVR_TGT_INJECT, 7, 0, .wo, []⟩
end EVR_TGT_INJECT

namespace EVR_TGT_STATUS
/-- the target is signalled (R376). -/
def LINE : Fld := ⟨.EVR_TGT_STATUS, 63, 63, .ro, []⟩
/-- an NMI-class event is in service; also cleared by its EOI. -/
def NMI_ACTIVE : Fld := ⟨.EVR_TGT_STATUS, 62, 62, .w1c, []⟩
/-- the last NMI-class entry interrupted M-mode with MIE 0 (R377). -/
def NMI_IN_M : Fld := ⟨.EVR_TGT_STATUS, 61, 61, .w1c, []⟩
/-- pending entries, 0 to 2,304. -/
def PENDING : Fld := ⟨.EVR_TGT_STATUS, 43, 32, .ro, []⟩
/-- BEST holds an entry. -/
def BEST_VALID : Fld := ⟨.EVR_TGT_STATUS, 12, 12, .ro, []⟩
/-- identity that a claim would return now. -/
def BEST : Fld := ⟨.EVR_TGT_STATUS, 11, 0, .ro, []⟩
end EVR_TGT_STATUS

namespace SP_BOOT_STATUS
/-- 0 BLANK, 1 TEST, 2 DEVELOP, 3 PRODUCTION, 4 RMA, 5 SCRAPPED. -/
def LC : Fld := ⟨.SP_BOOT_STATUS, 63, 61, .ro, []⟩
/-- 0 NONE, 1 NORMAL_CERT, 2 FULL. -/
def DEBUG : Fld := ⟨.SP_BOOT_STATUS, 60, 59, .ro, []⟩
/-- the booted bundle is on trial. -/
def TRIAL : Fld := ⟨.SP_BOOT_STATUS, 58, 58, .ro, []⟩
/-- 0 A, 1 B. -/
def SLOT : Fld := ⟨.SP_BOOT_STATUS, 57, 57, .ro, []⟩
/-- attempt number, 0 to 3. -/
def ATTEMPT : Fld := ⟨.SP_BOOT_STATUS, 56, 55, .ro, []⟩
/-- rollback counter, 0 to 256. -/
def ROLLBACK : Fld := ⟨.SP_BOOT_STATUS, 52, 44, .ro, []⟩
/-- bit k: image-key slot k revoked. -/
def IMG_REVOKED : Fld := ⟨.SP_BOOT_STATUS, 43, 40, .ro, []⟩
/-- bit k: debug-key slot k revoked. -/
def DBG_REVOKED : Fld := ⟨.SP_BOOT_STATUS, 39, 38, .ro, []⟩
/-- VERSION of the booted bundle. -/
def VERSION : Fld := ⟨.SP_BOOT_STATUS, 31, 16, .ro, []⟩
/-- strap. -/
def RECOV_SEL : Fld := ⟨.SP_BOOT_STATUS, 7, 7, .ro, []⟩
/-- straps. -/
def BOOT_SRC : Fld := ⟨.SP_BOOT_STATUS, 6, 5, .ro, []⟩
end SP_BOOT_STATUS

namespace SP_BOOT_SEQ
/-- SEQ of the booted bundle. -/
def SEQ : Fld := ⟨.SP_BOOT_SEQ, 63, 0, .ro, []⟩
end SP_BOOT_SEQ

namespace SP_TRIAL
/-- the trial watchdog is armed. -/
def RUNNING : Fld := ⟨.SP_TRIAL, 63, 63, .ro, []⟩
/-- period in s, 60 to 3,600. -/
def TRIAL_S : Fld := ⟨.SP_TRIAL, 43, 32, .ro, []⟩
/-- milliseconds to expiry; 0 when not armed. -/
def REMAIN_MS : Fld := ⟨.SP_TRIAL, 31, 0, .ro, []⟩
end SP_TRIAL

namespace TILE_RESET_VEC
/-- bits [63:2] of the pc at release (R33). -/
def ADDR : Fld := ⟨.TILE_RESET_VEC, 63, 2, .rw, []⟩
end TILE_RESET_VEC

namespace RCP_RESET_CAUSE
/-- power-on and system resets entered, saturating (R427). -/
def TOTAL : Fld := ⟨.RCP_RESET_CAUSE, 63, 32, .ro, []⟩
/-- the backup domain lost VBAK (R429); a set in the same cycle as a clear wins (R8). -/
def VBAK_LOST : Fld := ⟨.RCP_RESET_CAUSE, 31, 31, .w1c, []⟩
/-- 1 sets every RCP_CAUSE_COUNT byte to 0; TOTAL is unchanged. -/
def CLEAR_CAUSES : Fld := ⟨.RCP_RESET_CAUSE, 30, 30, .wo, []⟩
/-- bit n − 1 set when cause n asserted at the last entry or during it (R427). -/
def MASK : Fld := ⟨.RCP_RESET_CAUSE, 19, 8, .ro, []⟩
/-- cause of the reset before the last; 0 none. -/
def PREV_CAUSE : Fld := ⟨.RCP_RESET_CAUSE, 7, 4, .ro, []⟩
/-- cause code of R426; 0 none. -/
def LAST_CAUSE : Fld := ⟨.RCP_RESET_CAUSE, 3, 0, .ro, []⟩
end RCP_RESET_CAUSE

namespace RCP_CAUSE_COUNT
/-- word 0: byte n − 1 counts cause n, for n from 1 to 8; word 1: bytes 0 to 3 count causes 9 to 12, other …. -/
def COUNTS : Fld := ⟨.RCP_CAUSE_COUNT, 63, 0, .ro, []⟩
end RCP_CAUSE_COUNT

namespace RCP_RTC
/-- count of 32.768 kHz ticks; a write loads the count, and counting continues; at step 1, DTIME is loaded …. -/
def TICKS : Fld := ⟨.RCP_RTC, 63, 0, .rw, []⟩
end RCP_RTC

namespace RCP_PSTATE
/-- a change under R445 is running. -/
def CHANGING : Fld := ⟨.RCP_PSTATE, 63, 63, .ro, []⟩
/-- the throttle of R449 applies. -/
def THROTTLED : Fld := ⟨.RCP_PSTATE, 62, 62, .ro, []⟩
/-- P-state in effect; 3 while throttled. -/
def CURRENT : Fld := ⟨.RCP_PSTATE, 57, 56, .ro, []⟩
/-- 0 to 3 for P0 to P3 (R49). -/
def TARGET : Fld := ⟨.RCP_PSTATE, 49, 48, .rw, []⟩
/-- core voltage setpoint in mV (R444). -/
def VOLT_MV : Fld := ⟨.RCP_PSTATE, 27, 16, .ro, []⟩
end RCP_PSTATE

namespace RCP_BLOCK_CTL
/-- 0 powers the unit down, 1 powers it up (R447). -/
def PWR_ON : Fld := ⟨.RCP_BLOCK_CTL, 63, 63, .rw, []⟩
/-- 0b00 ON, 0b01 DRAINING, 0b10 OFF, 0b11 POWERING_UP. -/
def STATE : Fld := ⟨.RCP_BLOCK_CTL, 59, 58, .ro, []⟩
/-- for mesh-domain and MCT units: bit 16 the secure vote, bit p the vote of partition p; 0 for other units. -/
def VOTES : Fld := ⟨.RCP_BLOCK_CTL, 16, 0, .ro, []⟩
end RCP_BLOCK_CTL

namespace RCP_THERMAL
/-- the throttle of R449 applies. -/
def THROTTLE : Fld := ⟨.RCP_THERMAL, 63, 63, .ro, []⟩
/-- PROCHOT_N is low. -/
def PROCHOT : Fld := ⟨.RCP_THERMAL, 62, 62, .ro, []⟩
/-- hottest sensor reading, °C, two's complement. -/
def TJ_MAX : Fld := ⟨.RCP_THERMAL, 47, 40, .ro, []⟩
/-- index of that sensor, 0 to 47. -/
def HOT_SENSOR : Fld := ⟨.RCP_THERMAL, 39, 32, .ro, []⟩
/-- throttle entries since system reset, saturating. -/
def THROTTLES : Fld := ⟨.RCP_THERMAL, 15, 0, .ro, []⟩
end RCP_THERMAL

namespace TMR_WDOG
/-- watchdog counting (R452). -/
def EN : Fld := ⟨.TMR_WDOG, 63, 63, .rw, []⟩
/-- stop during a debug halt, as *Debug, trace and run control* states; reads 0 and ignores writes for w = 16. -/
def FREEZE : Fld := ⟨.TMR_WDOG, 62, 62, .rw, []⟩
/-- period in ms, 1 to 65,535; 0 reserved. -/
def PERIOD_MS : Fld := ⟨.TMR_WDOG, 47, 32, .rw, [(1, 0xFFFF)]⟩
/-- 0x4B43 reloads the count. -/
def KICK : Fld := ⟨.TMR_WDOG, 31, 16, .wo, []⟩
/-- ms left, rounded up; 0 while EN is 0. -/
def REMAIN_MS : Fld := ⟨.TMR_WDOG, 15, 0, .ro, []⟩
end TMR_WDOG

namespace ERC_STATUS
/-- SEQUENCE of the last record stored; 0 when none since reset; the store holds the records from LAST_SEQ − …. -/
def LAST_SEQ : Fld := ⟨.ERC_STATUS, 63, 0, .ro, []⟩
end ERC_STATUS

namespace ERC_RING_CFG
/-- records are copied to the ring (R469). -/
def EN : Fld := ⟨.ERC_RING_CFG, 63, 63, .rw, []⟩
/-- a ring write was refused; a set in the same cycle as a clear wins (R8). -/
def RING_ERR : Fld := ⟨.ERC_RING_CFG, 62, 62, .w1c, []⟩
/-- ring of 2^SIZE_LOG2 bytes, 12 to 40; 0 to 11 and 41 to 63 reserved. -/
def SIZE_LOG2 : Fld := ⟨.ERC_RING_CFG, 57, 52, .rw, [(0xC, 0x28)]⟩
/-- PA[47:12] of the ring, aligned to its size. -/
def BASE : Fld := ⟨.ERC_RING_CFG, 47, 12, .rw, []⟩
end ERC_RING_CFG

namespace ERC_RECORD
/-- bytes 8w to 8w + 7 of the record in slot i (R468); 0 while the slot holds no record. -/
def DATA : Fld := ⟨.ERC_RECORD, 63, 0, .ro, []⟩
end ERC_RECORD

namespace MBX_DOORBELL
/-- 0b01 RING, 0b10 ACK, 0b00 no action; 0b11 reserved (R457). -/
def CMD : Fld := ⟨.MBX_DOORBELL, 1, 0, .wo, []⟩
end MBX_DOORBELL

namespace MBX_STATUS
/-- 0b00 IDLE, 0b01 BUSY, 0b10 DONE; 0b11 never read. -/
def STATE : Fld := ⟨.MBX_STATUS, 63, 62, .ro, []⟩
/-- a RING or ACK was ignored while BUSY. -/
def OVERRUN : Fld := ⟨.MBX_STATUS, 61, 61, .w1c, []⟩
/-- a RING carried the held result's tag. -/
def DUP : Fld := ⟨.MBX_STATUS, 60, 60, .w1c, []⟩
/-- operations held by the page, 0 to 4. -/
def OPS : Fld := ⟨.MBX_STATUS, 50, 48, .ro, []⟩
/-- TAG of the running command or the held result; 0 when IDLE. -/
def TAG : Fld := ⟨.MBX_STATUS, 47, 32, .ro, []⟩
/-- current generation. -/
def GENERATION : Fld := ⟨.MBX_STATUS, 31, 16, .ro, []⟩
/-- STATUS in the response header. -/
def STATUS : Fld := ⟨.MBX_STATUS, 15, 0, .ro, []⟩
end MBX_STATUS

namespace DBG_AUTH
/-- 0 NONE, 1 NORMAL_CERT, 2 FULL. -/
def SESSION : Fld := ⟨.DBG_AUTH, 63, 62, .ro, []⟩
/-- last VERIFY: 0 none, 1 accepted, 2 rejected, 3 verifying. -/
def RESULT : Fld := ⟨.DBG_AUTH, 61, 60, .ro, []⟩
/-- 0 none, 1 format, 2 key slot empty or revoked, 3 key hash, 4 UID, 5 nonce, 6 signature, 7 rate limit. -/
def REASON : Fld := ⟨.DBG_AUTH, 59, 56, .ro, []⟩
/-- partitions granted. -/
def PART_MASK : Fld := ⟨.DBG_AUTH, 55, 40, .ro, []⟩
/-- rights granted. -/
def RIGHTS : Fld := ⟨.DBG_AUTH, 39, 32, .ro, []⟩
/-- 0b01 VERIFY, 0b10 END, 0b11 SYSTEM_RESET (FULL only; cause 11), 0b00 no action. -/
def CMD : Fld := ⟨.DBG_AUTH, 1, 0, .wo, []⟩
end DBG_AUTH

namespace DBG_AUTH_NONCE
/-- bytes 8w to 8w + 7 of the port's current nonce. -/
def NONCE : Fld := ⟨.DBG_AUTH_NONCE, 63, 0, .ro, []⟩
end DBG_AUTH_NONCE

namespace DBG_FREEZE
/-- trial watchdog freezes; a write of 1 outside DEVELOP is ignored. -/
def TRIAL : Fld := ⟨.DBG_FREEZE, 63, 63, .rw, []⟩
/-- secure console freezes. -/
def UART0 : Fld := ⟨.DBG_FREEZE, 62, 62, .rw, []⟩
/-- normal console freezes. -/
def UART1 : Fld := ⟨.DBG_FREEZE, 61, 61, .rw, []⟩
/-- cluster 0 rings freeze. -/
def CIPHER0 : Fld := ⟨.DBG_FREEZE, 60, 60, .rw, []⟩
/-- cluster 1 rings freeze. -/
def CIPHER1 : Fld := ⟨.DBG_FREEZE, 59, 59, .rw, []⟩
/-- Ladle snapshots freeze. -/
def LADLE : Fld := ⟨.DBG_FREEZE, 58, 58, .rw, []⟩
/-- fabric send queues freeze. -/
def FABSQ : Fld := ⟨.DBG_FREEZE, 57, 57, .rw, []⟩
end DBG_FREEZE

namespace DBG_MEM_CTL
/-- access under way. -/
def BUSY : Fld := ⟨.DBG_MEM_CTL, 63, 63, .ro, []⟩
/-- 0 OK, 1 FAULT, 2 DENIED, 3 REFUSED (R505). -/
def STATUS : Fld := ⟨.DBG_MEM_CTL, 62, 61, .ro, []⟩
/-- 1 effectful read; ignored for writes. -/
def EFFECT : Fld := ⟨.DBG_MEM_CTL, 60, 60, .rw, []⟩
/-- 1 secure, 0 normal. -/
def WORLD : Fld := ⟨.DBG_MEM_CTL, 59, 59, .rw, []⟩
/-- partition carried. -/
def PARTITION : Fld := ⟨.DBG_MEM_CTL, 58, 55, .rw, []⟩
/-- 0 1 byte, 1 2 bytes, 2 4 bytes, 3 8 bytes. -/
def SIZE : Fld := ⟨.DBG_MEM_CTL, 54, 53, .rw, []⟩
/-- 1 write. -/
def WRITE : Fld := ⟨.DBG_MEM_CTL, 52, 52, .rw, []⟩
/-- 1 issues the access. -/
def GO : Fld := ⟨.DBG_MEM_CTL, 48, 48, .wo, []⟩
/-- physical address, aligned to SIZE. -/
def ADDR : Fld := ⟨.DBG_MEM_CTL, 47, 0, .rw, []⟩
end DBG_MEM_CTL

namespace DBG_MEM_DATA
/-- write data, or read result zero-extended. -/
def DATA : Fld := ⟨.DBG_MEM_DATA, 63, 0, .rw, []⟩
end DBG_MEM_DATA

namespace DBG_PATCH_CFG
/-- unit in use. -/
def EN : Fld := ⟨.DBG_PATCH_CFG, 63, 63, .rw, []⟩
/-- 0 SP, 1 Macen. -/
def TARGET : Fld := ⟨.DBG_PATCH_CFG, 62, 62, .rw, []⟩
/-- loaded from a PATCH segment (R510). -/
def LOCKED : Fld := ⟨.DBG_PATCH_CFG, 61, 61, .ro, []⟩
/-- address bits [47:5] of the line. -/
def LINE : Fld := ⟨.DBG_PATCH_CFG, 47, 5, .rw, []⟩
end DBG_PATCH_CFG

namespace DBG_PATCH_DATA
/-- bytes of the line. -/
def DATA : Fld := ⟨.DBG_PATCH_DATA, 63, 0, .rw, []⟩
end DBG_PATCH_DATA

namespace DBG_TRACE_CFG
/-- trace recorded. -/
def EN : Fld := ⟨.DBG_TRACE_CFG, 63, 63, .rw, []⟩
/-- 1 secure, 0 normal; forced 0 under NORMAL_CERT. -/
def WORLD : Fld := ⟨.DBG_TRACE_CFG, 62, 62, .rw, []⟩
/-- ring's partition. -/
def PARTITION : Fld := ⟨.DBG_TRACE_CFG, 61, 58, .rw, []⟩
/-- ring of 2^SIZE_LOG2 bytes, 12 to 40; other values reserved. -/
def SIZE_LOG2 : Fld := ⟨.DBG_TRACE_CFG, 57, 52, .rw, [(0xC, 0x28)]⟩
/-- PA[47:12], aligned to the ring size. -/
def BASE : Fld := ⟨.DBG_TRACE_CFG, 47, 12, .rw, []⟩
end DBG_TRACE_CFG

namespace DBG_TRACE_PTR
/-- packets dropped since EN was last written 1, saturating. -/
def LOST : Fld := ⟨.DBG_TRACE_PTR, 63, 48, .ro, []⟩
/-- bytes written since EN was last written 1, mod 2^48; the ring offset is WRITE mod 2^SIZE_LOG2. -/
def WRITE : Fld := ⟨.DBG_TRACE_PTR, 47, 0, .ro, []⟩
end DBG_TRACE_PTR

namespace DBG_CORE_CTL
/-- halt at the first instruction after a core reset (R499); FULL only. -/
def RESETHALT : Fld := ⟨.DBG_CORE_CTL, 63, 63, .rw, []⟩
/-- normal-band interrupts pend during a step (R501). -/
def STEPIE : Fld := ⟨.DBG_CORE_CTL, 62, 62, .rw, []⟩
/-- EBREAK halts in M, S or HS, U, and VS or VU respectively. -/
def EBREAKM : Fld := ⟨.DBG_CORE_CTL, 61, 58, .rw, []⟩
/-- the hart is traced (R512). -/
def TRACE : Fld := ⟨.DBG_CORE_CTL, 57, 57, .rw, []⟩
/-- 1 core reset of the hart's slot, cause debug (R426); needs RUN. -/
def CORE_RESET : Fld := ⟨.DBG_CORE_CTL, 2, 2, .wo, []⟩
/-- 0b01 HALT, 0b10 RESUME, 0b11 STEP, 0b00 no action. -/
def CMD : Fld := ⟨.DBG_CORE_CTL, 1, 0, .wo, []⟩
end DBG_CORE_CTL

namespace DBG_CORE_STATUS
/-- 0 RUNNING, 1 HALT_PENDING, 2 HALTED, 3 UNAVAILABLE (in reset, or no slot). -/
def STATE : Fld := ⟨.DBG_CORE_STATUS, 63, 62, .ro, []⟩
/-- 0 none, 1 REQUEST, 2 STEP, 3 TRIGGER, 4 EBREAK, 5 RESETHALT, 6 SECURE_PREEMPT. -/
def CAUSE : Fld := ⟨.DBG_CORE_STATUS, 61, 58, .ro, []⟩
/-- trigger that halted the core. -/
def TRIGGER : Fld := ⟨.DBG_CORE_STATUS, 57, 55, .ro, []⟩
/-- the hart is a bound trailer (R501). -/
def PAIRED : Fld := ⟨.DBG_CORE_STATUS, 54, 54, .ro, []⟩
end DBG_CORE_STATUS

namespace DBG_CORE_REGSEL
/-- a REGDATA access failed (R503); a set in the same cycle as a clear wins (R8). -/
def ERR : Fld := ⟨.DBG_CORE_REGSEL, 63, 63, .w1c, []⟩
/-- 0x0000–0x0FFF CSR at that address; 0x1000 + n x_n; 0x1020 + n f_n; 0x1040 pc; 0x1100 + 4v + k bits [64k + …. -/
def REG : Fld := ⟨.DBG_CORE_REGSEL, 15, 0, .rw, []⟩
end DBG_CORE_REGSEL

namespace DBG_CORE_REGDATA
/-- the selected register of the halted core (R503). -/
def DATA : Fld := ⟨.DBG_CORE_REGDATA, 63, 0, .rw, []⟩
end DBG_CORE_REGDATA

namespace DBG_TRIG_CFG
/-- trigger armed. -/
def EN : Fld := ⟨.DBG_TRIG_CFG, 63, 63, .rw, []⟩
/-- 0 EXEC, 1 LOAD, 2 STORE, 3 LOAD_OR_STORE, 4 DATA_LOAD, 5 DATA_STORE; 6 and 7 reserved. -/
def TYPE : Fld := ⟨.DBG_TRIG_CFG, 62, 60, .rw, [(0, 5)]⟩
/-- 0 equal, 1 greater or equal, 2 less than; 3 reserved. -/
def MATCH : Fld := ⟨.DBG_TRIG_CFG, 59, 58, .rw, [(0, 2)]⟩
/-- fires only together with trigger n + 1 (R502). -/
def CHAIN : Fld := ⟨.DBG_TRIG_CFG, 57, 57, .rw, []⟩
/-- fires in M, S or HS, U, and VS or VU respectively. -/
def MODES : Fld := ⟨.DBG_TRIG_CFG, 56, 53, .rw, []⟩
/-- 0 halt, 1 TRIGGER trace packet only. -/
def ACTION : Fld := ⟨.DBG_TRIG_CFG, 52, 52, .rw, []⟩
end DBG_TRIG_CFG

namespace DBG_TRIG_VAL
/-- comparison value. -/
def VAL : Fld := ⟨.DBG_TRIG_VAL, 63, 0, .rw, []⟩
end DBG_TRIG_VAL

namespace DBG_VT_TX
/-- a byte was returned. -/
def VALID : Fld := ⟨.DBG_VT_TX, 63, 63, .rs, []⟩
/-- a write found the FIFO full; a set in the same cycle as a clear wins (R8). -/
def DROPPED : Fld := ⟨.DBG_VT_TX, 62, 62, .w1c, []⟩
/-- byte pushed or popped. -/
def DATA : Fld := ⟨.DBG_VT_TX, 7, 0, .wo, []⟩
end DBG_VT_TX

namespace DBG_VT_RX
/-- a byte was returned. -/
def VALID : Fld := ⟨.DBG_VT_RX, 63, 63, .rs, []⟩
/-- a write found the FIFO full; a set in the same cycle as a clear wins (R8). -/
def DROPPED : Fld := ⟨.DBG_VT_RX, 62, 62, .w1c, []⟩
/-- byte pushed or popped. -/
def DATA : Fld := ⟨.DBG_VT_RX, 7, 0, .wo, []⟩
end DBG_VT_RX

namespace TILE_CORE_OVF
/-- bit k: OVF of mhpmcounterk, k from 3 to 8. -/
def HPM : Fld := ⟨.TILE_CORE_OVF, 8, 3, .w1c, []⟩
/-- OVF of minstret. -/
def IR : Fld := ⟨.TILE_CORE_OVF, 2, 2, .w1c, []⟩
/-- OVF of mcycle. -/
def CY : Fld := ⟨.TILE_CORE_OVF, 0, 0, .w1c, []⟩
end TILE_CORE_OVF

namespace CNT_CFG
/-- the counter counts. -/
def EN : Fld := ⟨.CNT_CFG, 63, 63, .rw, []⟩
/-- (P) events counted only for PARTITION (R522). -/
def PFILT : Fld := ⟨.CNT_CFG, 62, 62, .rw, []⟩
/-- partition filtered. -/
def PARTITION : Fld := ⟨.CNT_CFG, 61, 58, .rw, []⟩
/-- event code of R522. -/
def EVENT : Fld := ⟨.CNT_CFG, 7, 0, .rw, []⟩
end CNT_CFG

namespace CNT
/-- the value has wrapped (R516). -/
def OVF : Fld := ⟨.CNT, 63, 63, .w1c, []⟩
/-- count. -/
def VALUE : Fld := ⟨.CNT, 47, 0, .rw, []⟩
end CNT

namespace LDL_PART_CFG
/-- snapshots taken; writing 1 sets LAST_SEQ to 0. -/
def EN : Fld := ⟨.LDL_PART_CFG, 63, 63, .rw, []⟩
/-- U and VU may read the core counters (R520). -/
def UEN : Fld := ⟨.LDL_PART_CFG, 62, 62, .rw, []⟩
/-- ring of 2^SIZE_LOG2 bytes, 12 to 40; other values reserved. -/
def SIZE_LOG2 : Fld := ⟨.LDL_PART_CFG, 61, 56, .rw, [(0xC, 0x28)]⟩
/-- period in µs, 1 to 1,000,000; other values reserved. -/
def PERIOD_US : Fld := ⟨.LDL_PART_CFG, 55, 36, .rw, [(1, 0xF4240)]⟩
/-- PA[47:12] of the ring, aligned to its size. -/
def BASE : Fld := ⟨.LDL_PART_CFG, 35, 0, .rw, []⟩
end LDL_PART_CFG

namespace LDL_PART_MASK
/-- mask bits 64w + 63 to 64w (R524). -/
def MASK : Fld := ⟨.LDL_PART_MASK, 63, 0, .rw, []⟩
end LDL_PART_MASK

namespace LDL_PART_STATUS
/-- the ring was refused or too small (R528); a set in the same cycle as a clear wins (R8). -/
def RING_ERR : Fld := ⟨.LDL_PART_STATUS, 63, 63, .w1c, []⟩
/-- SEQ of the last record whose header was accepted. -/
def LAST_SEQ : Fld := ⟨.LDL_PART_STATUS, 47, 0, .ro, []⟩
end LDL_PART_STATUS

namespace UART_CFG
/-- UART enabled. -/
def EN : Fld := ⟨.UART_CFG, 63, 63, .rw, []⟩
/-- 0b00 none, 0b01 even, 0b10 odd; 0b11 reserved. -/
def PARITY : Fld := ⟨.UART_CFG, 62, 61, .rw, [(0, 2)]⟩
/-- 2 stop bits. -/
def STOP2 : Fld := ⟨.UART_CFG, 60, 60, .rw, []⟩
/-- integer divisor, 1 to 65,535; 0 reserved. -/
def DIV : Fld := ⟨.UART_CFG, 23, 8, .rw, [(1, 0xFFFF)]⟩
/-- sixteenths added to DIV. -/
def FRAC : Fld := ⟨.UART_CFG, 3, 0, .rw, []⟩
end UART_CFG

namespace UART_DATA
/-- a byte was returned. -/
def VALID : Fld := ⟨.UART_DATA, 63, 63, .rs, []⟩
/-- the byte had a parity or framing error, or was a break. -/
def PERR : Fld := ⟨.UART_DATA, 8, 8, .rs, []⟩
/-- byte sent or received. -/
def DATA : Fld := ⟨.UART_DATA, 7, 0, .wo, []⟩
end UART_DATA

namespace UART_STATUS
/-- transmit FIFO and shifter empty. -/
def TX_EMPTY : Fld := ⟨.UART_STATUS, 63, 63, .ro, []⟩
/-- bytes in the transmit FIFO, 0 to 64. -/
def TX_LEVEL : Fld := ⟨.UART_STATUS, 62, 56, .ro, []⟩
/-- bytes in the receive FIFO, 0 to 64. -/
def RX_LEVEL : Fld := ⟨.UART_STATUS, 55, 49, .ro, []⟩
/-- a write found the transmit FIFO full. -/
def TX_DROPPED : Fld := ⟨.UART_STATUS, 2, 2, .w1c, []⟩
/-- a character was lost at a full receive FIFO. -/
def RX_OVERRUN : Fld := ⟨.UART_STATUS, 1, 1, .w1c, []⟩
/-- a character had PERR. -/
def RX_ERROR : Fld := ⟨.UART_STATUS, 0, 0, .w1c, []⟩
end UART_STATUS

namespace GPIO_CFG
/-- the pin drives OUT. -/
def OE : Fld := ⟨.GPIO_CFG, 63, 63, .rw, []⟩
/-- level driven. -/
def OUT : Fld := ⟨.GPIO_CFG, 62, 62, .rw, []⟩
/-- 0b00 none, 0b01 pull-down, 0b10 pull-up; 0b11 reserved. -/
def PULL : Fld := ⟨.GPIO_CFG, 61, 60, .rw, [(0, 2)]⟩
/-- setting of R542. -/
def SLEW : Fld := ⟨.GPIO_CFG, 59, 58, .rw, []⟩
/-- the source sees the inverted level (R552). -/
def INV : Fld := ⟨.GPIO_CFG, 57, 57, .rw, []⟩
/-- synchronised pin level. -/
def IN : Fld := ⟨.GPIO_CFG, 0, 0, .ro, []⟩
end GPIO_CFG

namespace LSIO_PAD_CFG
/-- setting of R542 for TDO while TCK runs at 10 MHz or less. -/
def TDO_SLEW : Fld := ⟨.LSIO_PAD_CFG, 9, 8, .rw, []⟩
/-- for PERST_N[15:0]. -/
def PERST_SLEW : Fld := ⟨.LSIO_PAD_CFG, 7, 6, .rw, []⟩
/-- for READY. -/
def READY_SLEW : Fld := ⟨.LSIO_PAD_CFG, 5, 4, .rw, []⟩
/-- for UART1_TXD. -/
def UART1_SLEW : Fld := ⟨.LSIO_PAD_CFG, 3, 2, .rw, []⟩
/-- for UART0_TXD. -/
def UART0_SLEW : Fld := ⟨.LSIO_PAD_CFG, 1, 0, .rw, []⟩
end LSIO_PAD_CFG

/-- The fields of a register, highest first, without the reserved ones (a reserved field reads 0 and ignores writes, R6). -/
def RegId.flds : RegId → List Fld
  | .TILE_CORE_MAP => [TILE_CORE_MAP.SLOT4_STATE, TILE_CORE_MAP.SLOT4_HART, TILE_CORE_MAP.SLOT3_STATE, TILE_CORE_MAP.SLOT3_HART, TILE_CORE_MAP.SLOT2_STATE, TILE_CORE_MAP.SLOT2_HART, TILE_CORE_MAP.SLOT1_STATE, TILE_CORE_MAP.SLOT1_HART, TILE_CORE_MAP.SLOT0_STATE, TILE_CORE_MAP.SLOT0_HART]
  | .TILE_HOME_STATUS => [TILE_HOME_STATUS.DEPVB_USED, TILE_HOME_STATUS.SIEVE_VALID, TILE_HOME_STATUS.RESV_USED, TILE_HOME_STATUS.TRACKER_USED]
  | .MESH_LINK_CFG => [MESH_LINK_CFG.QUIESCE_BUSY, MESH_LINK_CFG.APPLY, MESH_LINK_CFG.SPARE1_WIRE, MESH_LINK_CFG.SPARE0_WIRE, MESH_LINK_CFG.W_JRN, MESH_LINK_CFG.W_IORSP, MESH_LINK_CFG.W_IOREQ, MESH_LINK_CFG.W_WB, MESH_LINK_CFG.W_DAT, MESH_LINK_CFG.W_RSP, MESH_LINK_CFG.W_REQ]
  | .MESH_TIMEOUT => [MESH_TIMEOUT.DEVICE_US, MESH_TIMEOUT.MEMORY_US]
  | .MESH_INIT_STATUS => [MESH_INIT_STATUS.LATE_DROPPED, MESH_INIT_STATUS.TIMEOUT_DEVICE, MESH_INIT_STATUS.TIMEOUT_MEMORY, MESH_INIT_STATUS.CLEAR, MESH_INIT_STATUS.QUARANTINED]
  | .LID_SECTION => [LID_SECTION.DRAIN_LIMIT_US, LID_SECTION.ABANDONED, LID_SECTION.STATE, LID_SECTION.DRAIN_EXPIRED, LID_SECTION.CMD]
  | .CG_STATUS => [CG_STATUS.ACTIVE, CG_STATUS.LOST, CG_STATUS.VOIDED, CG_STATUS.CAUSE, CG_STATUS.RETRY, CG_STATUS.USER_CODE, CG_STATUS.ABORT_CODE]
  | .CG_ABORT_PC => [CG_ABORT_PC.PC]
  | .CG_LASTSEQ => [CG_LASTSEQ.SEQ]
  | .CG_DEPSEL => [CG_DEPSEL.STREAM]
  | .CG_DEPSEQ => [CG_DEPSEQ.SEQ]
  | .CG_DEPMASK => [CG_DEPMASK.MASK]
  | .CG_DEPLOST => [CG_DEPLOST.MASK]
  | .CG_WMARK => [CG_WMARK.WMARK]
  | .CG_BIND => [CG_BIND.VALID, CG_BIND.UEN, CG_BIND.STREAM]
  | .CG_CFG => [CG_CFG.EN, CG_CFG.DEVHOLD, CG_CFG.DEFER_US]
  | .SPN_STREAM_CFG => [SPN_STREAM_CFG.EN, SPN_STREAM_CFG.LEVEL]
  | .SPN_STREAM_STATE => [SPN_STREAM_STATE.STATE, SPN_STREAM_STATE.FENCE_CAUSE, SPN_STREAM_STATE.OPENING, SPN_STREAM_STATE.UNDURABLE, SPN_STREAM_STATE.PARKED, SPN_STREAM_STATE.CMD]
  | .SPN_STREAM_WMARK => [SPN_STREAM_WMARK.W]
  | .SPN_STREAM_ASSIGNED => [SPN_STREAM_ASSIGNED.A]
  | .SPN_STREAM_NEXT => [SPN_STREAM_NEXT.NEXT]
  | .JRN_REGION => [JRN_REGION.SIZE_LOG2, JRN_REGION.QUOTA_64K, JRN_REGION.BASE]
  | .JRN_APPEND_PTR => [JRN_APPEND_PTR.APPEND]
  | .JRN_DRAIN_PTR => [JRN_DRAIN_PTR.DRAIN]
  | .JRN_STREAM_STATUS => [JRN_STREAM_STATUS.STAGED, JRN_STREAM_STATUS.REGION_FULL, JRN_STREAM_STATUS.DRAIN_ERR]
  | .PAIR_CTL => [PAIR_CTL.PARTNER, PAIR_CTL.ROLE, PAIR_CTL.CMD]
  | .PAIR_STATUS => [PAIR_STATUS.STATE, PAIR_STATUS.BIND_ERR, PAIR_STATUS.LAST_VOTE, PAIR_STATUS.LOG_USED]
  | .PAIR_RESUME => [PAIR_RESUME.ADDR]
  | .PAIR_COUNT => [PAIR_COUNT.VOTES, PAIR_COUNT.MISMATCHES]
  | .PAIR_FAILPC => [PAIR_FAILPC.PC]
  | .PAIR_CFG => [PAIR_CFG.VOTE_LIMIT_US]
  | .FAB_NODE => [FAB_NODE.FREEZE, FAB_NODE.GM, FAB_NODE.RREAD_US, FAB_NODE.SYNC_US, FAB_NODE.DOMAIN, FAB_NODE.NODE_ID]
  | .FAB_ROUTE => [FAB_ROUTE.VALID, FAB_ROUTE.LVL_UP, FAB_ROUTE.OUT]
  | .FAB_APERTURE => [FAB_APERTURE.VALID, FAB_APERTURE.RD, FAB_APERTURE.WR, FAB_APERTURE.ATOM, FAB_APERTURE.SIZE_LOG2, FAB_APERTURE.NODE, FAB_APERTURE.RBASE]
  | .FAB_INBOUND => [FAB_INBOUND.VALID, FAB_INBOUND.RD, FAB_INBOUND.WR, FAB_INBOUND.ATOM, FAB_INBOUND.WORLD, FAB_INBOUND.PARTITION, FAB_INBOUND.SIZE_LOG2, FAB_INBOUND.SRC_NODE, FAB_INBOUND.BASE]
  | .FAB_RXRING_CFG => [FAB_RXRING_CFG.VALID, FAB_RXRING_CFG.PARTITION, FAB_RXRING_CFG.SLOT_LOG2, FAB_RXRING_CFG.COUNT_LOG2, FAB_RXRING_CFG.SRC_NODE, FAB_RXRING_CFG.BASE]
  | .FAB_RXRING_PTR => [FAB_RXRING_PTR.PRODUCER, FAB_RXRING_PTR.CONSUMER]
  | .FAB_SQ_CFG => [FAB_SQ_CFG.VALID, FAB_SQ_CFG.COUNT_LOG2, FAB_SQ_CFG.BASE]
  | .FAB_SQ_PTR => [FAB_SQ_PTR.HEAD, FAB_SQ_PTR.TAIL]
  | .FAB_PORT_CTL => [FAB_PORT_CTL.ENABLE, FAB_PORT_CTL.ENC, FAB_PORT_CTL.TIME_ROLE, FAB_PORT_CTL.KEY_HANDLE, FAB_PORT_CTL.SPARE_FOR, FAB_PORT_CTL.CMD]
  | .FAB_PORT_STATUS => [FAB_PORT_STATUS.STATE, FAB_PORT_STATUS.LANES, FAB_PORT_STATUS.SPARE_USE, FAB_PORT_STATUS.PEER_NODE, FAB_PORT_STATUS.RTT_NS, FAB_PORT_STATUS.ADMIT_ERR, FAB_PORT_STATUS.AUTH_FAIL, FAB_PORT_STATUS.TIME_FAULT, FAB_PORT_STATUS.REPLAY]
  | .JRN_REPL_CFG => [JRN_REPL_CFG.LEDGER, JRN_REPL_CFG.POLICY, JRN_REPL_CFG.GASP_US, JRN_REPL_CFG.PEER_TIMEOUT_US]
  | .JRN_REPL_MEMBERS => [JRN_REPL_MEMBERS.R0_VALID, JRN_REPL_MEMBERS.R1_VALID, JRN_REPL_MEMBERS.WIT_VALID, JRN_REPL_MEMBERS.WIT_NODE, JRN_REPL_MEMBERS.R1_NODE, JRN_REPL_MEMBERS.R0_NODE]
  | .JRN_REPL_STATE => [JRN_REPL_STATE.STATE, JRN_REPL_STATE.R0_STATE, JRN_REPL_STATE.R1_STATE, JRN_REPL_STATE.GRANTED, JRN_REPL_STATE.PROMOTE_ERR, JRN_REPL_STATE.TERM, JRN_REPL_STATE.SLOT, JRN_REPL_STATE.SLOT_V, JRN_REPL_STATE.CMD]
  | .JRN_REPL_DEGRADED => [JRN_REPL_DEGRADED.FROM]
  | .JRN_REPL_HELD => [JRN_REPL_HELD.HELD]
  | .JRN_RSLOT_CFG => [JRN_RSLOT_CFG.VALID, JRN_RSLOT_CFG.WITNESS, JRN_RSLOT_CFG.STATE, JRN_RSLOT_CFG.PRIMARY, JRN_RSLOT_CFG.PARTITION, JRN_RSLOT_CFG.LEDGER]
  | .JRN_RSLOT_REGION => [JRN_RSLOT_REGION.SIZE_LOG2, JRN_RSLOT_REGION.BASE]
  | .JRN_RSLOT_TERM => [JRN_RSLOT_TERM.LAST_TERM, JRN_RSLOT_TERM.TERM]
  | .JRN_RSLOT_HELD => [JRN_RSLOT_HELD.HELD]
  | .JRN_RSLOT_APPEND => [JRN_RSLOT_APPEND.APPEND]
  | .JRN_RSLOT_DRAIN => [JRN_RSLOT_DRAIN.DRAIN]
  | .JRN_RSLOT_GASP => [JRN_RSLOT_GASP.SEQUENCE]
  | .MCT_DECODE => [MCT_DECODE.VALID, MCT_DECODE.MIRROR, MCT_DECODE.CH_MASK, MCT_DECODE.CHOFF_GIB, MCT_DECODE.LIMIT_GIB, MCT_DECODE.BASE_GIB]
  | .MCT_CH_STATUS => [MCT_CH_STATUS.STATE, MCT_CH_STATUS.SPEED, MCT_CH_STATUS.DPC, MCT_CH_STATUS.RANKS, MCT_CH_STATUS.SPARE, MCT_CH_STATUS.ERASED_DEV, MCT_CH_STATUS.ERASED_RANK, MCT_CH_STATUS.CAP_GIB, MCT_CH_STATUS.PPR_USED]
  | .MCT_ECC_COUNT => [MCT_ECC_COUNT.UNCORRECTED, MCT_ECC_COUNT.CORRECTED, MCT_ECC_COUNT.CLEAR]
  | .MCT_ECC_LOG => [MCT_ECC_LOG.VALID, MCT_ECC_LOG.KIND, MCT_ECC_LOG.RANK, MCT_ECC_LOG.BANK_GROUP, MCT_ECC_LOG.BANK, MCT_ECC_LOG.ROW, MCT_ECC_LOG.DEVICE, MCT_ECC_LOG.COLUMN]
  | .MCT_SCRUB => [MCT_SCRUB.EN, MCT_SCRUB.PERIOD_H, MCT_SCRUB.PASSES]
  | .PCIE_CTL => [PCIE_CTL.EN, PCIE_CTL.MODE, PCIE_CTL.BIFURCATION, PCIE_CTL.MAX_SPEED, PCIE_CTL.CPL_TIMEOUT_US]
  | .PCIE_PORT_CFG => [PCIE_PORT_CFG.PERST_REL, PCIE_PORT_CFG.OWNED, PCIE_PORT_CFG.WORLD, PCIE_PORT_CFG.PARTITION]
  | .PCIE_PORT_STATUS => [PCIE_PORT_STATUS.LINK_UP, PCIE_PORT_STATUS.WIDTH, PCIE_PORT_STATUS.SPEED, PCIE_PORT_STATUS.LTSSM, PCIE_PORT_STATUS.TAGS_USED, PCIE_PORT_STATUS.SURPRISE_DOWN, PCIE_PORT_STATUS.CPL_TIMEOUT, PCIE_PORT_STATUS.AER]
  | .IOMMU_FAT_MATCH => [IOMMU_FAT_MATCH.VALID, IOMMU_FAT_MATCH.WORLD, IOMMU_FAT_MATCH.PARTITION, IOMMU_FAT_MATCH.CONTROLLER, IOMMU_FAT_MATCH.RID_LOG2, IOMMU_FAT_MATCH.RID_BASE]
  | .IOMMU_FAT_BASE => [IOMMU_FAT_BASE.DCT]
  | .IOMMU_INVAL => [IOMMU_INVAL.BUSY, IOMMU_INVAL.FAT_ENTRY, IOMMU_INVAL.VMID, IOMMU_INVAL.CMD]
  | .IOMMU_FAULT => [IOMMU_FAULT.VALID, IOMMU_FAULT.KIND, IOMMU_FAULT.CONTROLLER, IOMMU_FAULT.WRITE, IOMMU_FAULT.RID, IOMMU_FAULT.COUNT]
  | .CPH_STATUS => [CPH_STATUS.STATE, CPH_STATUS.KEYCACHE_USED, CPH_STATUS.JOBS, CPH_STATUS.SELFTEST_FAIL]
  | .CPH_RING_CFG => [CPH_RING_CFG.VALID, CPH_RING_CFG.WORLD, CPH_RING_CFG.PARTITION, CPH_RING_CFG.COUNT_LOG2, CPH_RING_CFG.QOS, CPH_RING_CFG.BASE]
  | .CPH_RING_PTR => [CPH_RING_PTR.HEAD, CPH_RING_PTR.TAIL]
  | .WCTL => [WCTL.NS]
  | .WSTATUS => [WSTATUS.PREV_NS, WSTATUS.PARTITION]
  | .WPC_CFG => [WPC_CFG.LOCK, WPC_CFG.SECURE_WAYS, WPC_CFG.WT_BASE, WPC_CFG.WT_EN]
  | .WPC_SYNC => [WPC_SYNC.BUSY, WPC_SYNC.DONE, WPC_SYNC.SIZE_LOG2, WPC_SYNC.BASE, WPC_SYNC.GO]
  | .WPC_REGION => [WPC_REGION.VALID, WPC_REGION.EWA, WPC_REGION.ASSIGN, WPC_REGION.WORLD, WPC_REGION.PARTITION, WPC_REGION.SIZE_LOG2, WPC_REGION.BASE]
  | .WPC_OWNER => [WPC_OWNER.VALID, WPC_OWNER.KIND, WPC_OWNER.PARTITION]
  | .WPC_PART_CFG => [WPC_PART_CFG.ESCALATE, WPC_PART_CFG.PRIO_FLOOR, WPC_PART_CFG.FLUSH_LIMIT_US, WPC_PART_CFG.BURST_KIB, WPC_PART_CFG.RATE]
  | .WPC_PART_CTL => [WPC_PART_CTL.STATE, WPC_PART_CTL.HOLD, WPC_PART_CTL.LAST_CAUSE, WPC_PART_CTL.RESETS, WPC_PART_CTL.CMD]
  | .EVR_PFW_TIME => [EVR_PFW_TIME.DTIME]
  | .EVR_SRC_CFG => [EVR_SRC_CFG.EN, EVR_SRC_CFG.NMI, EVR_SRC_CFG.EDGE, EVR_SRC_CFG.HART, EVR_SRC_CFG.PAGE, EVR_SRC_CFG.PRIO]
  | .EVR_SRC_PEND => [EVR_SRC_PEND.PEND]
  | .EVR_RING_ROUTE => [EVR_RING_ROUTE.EN, EVR_RING_ROUTE.HART, EVR_RING_ROUTE.PAGE, EVR_RING_ROUTE.PRIO]
  | .EVR_TGT_CLAIM => [EVR_TGT_CLAIM.VALID, EVR_TGT_CLAIM.ID]
  | .EVR_TGT_EOI => [EVR_TGT_EOI.ID]
  | .EVR_TGT_THRESH => [EVR_TGT_THRESH.THRESH]
  | .EVR_TGT_INJECT => [EVR_TGT_INJECT.PRIO]
  | .EVR_TGT_STATUS => [EVR_TGT_STATUS.LINE, EVR_TGT_STATUS.NMI_ACTIVE, EVR_TGT_STATUS.NMI_IN_M, EVR_TGT_STATUS.PENDING, EVR_TGT_STATUS.BEST_VALID, EVR_TGT_STATUS.BEST]
  | .SP_BOOT_STATUS => [SP_BOOT_STATUS.LC, SP_BOOT_STATUS.DEBUG, SP_BOOT_STATUS.TRIAL, SP_BOOT_STATUS.SLOT, SP_BOOT_STATUS.ATTEMPT, SP_BOOT_STATUS.ROLLBACK, SP_BOOT_STATUS.IMG_REVOKED, SP_BOOT_STATUS.DBG_REVOKED, SP_BOOT_STATUS.VERSION, SP_BOOT_STATUS.RECOV_SEL, SP_BOOT_STATUS.BOOT_SRC]
  | .SP_BOOT_SEQ => [SP_BOOT_SEQ.SEQ]
  | .SP_TRIAL => [SP_TRIAL.RUNNING, SP_TRIAL.TRIAL_S, SP_TRIAL.REMAIN_MS]
  | .TILE_RESET_VEC => [TILE_RESET_VEC.ADDR]
  | .RCP_RESET_CAUSE => [RCP_RESET_CAUSE.TOTAL, RCP_RESET_CAUSE.VBAK_LOST, RCP_RESET_CAUSE.CLEAR_CAUSES, RCP_RESET_CAUSE.MASK, RCP_RESET_CAUSE.PREV_CAUSE, RCP_RESET_CAUSE.LAST_CAUSE]
  | .RCP_CAUSE_COUNT => [RCP_CAUSE_COUNT.COUNTS]
  | .RCP_RTC => [RCP_RTC.TICKS]
  | .RCP_PSTATE => [RCP_PSTATE.CHANGING, RCP_PSTATE.THROTTLED, RCP_PSTATE.CURRENT, RCP_PSTATE.TARGET, RCP_PSTATE.VOLT_MV]
  | .RCP_BLOCK_CTL => [RCP_BLOCK_CTL.PWR_ON, RCP_BLOCK_CTL.STATE, RCP_BLOCK_CTL.VOTES]
  | .RCP_THERMAL => [RCP_THERMAL.THROTTLE, RCP_THERMAL.PROCHOT, RCP_THERMAL.TJ_MAX, RCP_THERMAL.HOT_SENSOR, RCP_THERMAL.THROTTLES]
  | .TMR_WDOG => [TMR_WDOG.EN, TMR_WDOG.FREEZE, TMR_WDOG.PERIOD_MS, TMR_WDOG.KICK, TMR_WDOG.REMAIN_MS]
  | .ERC_STATUS => [ERC_STATUS.LAST_SEQ]
  | .ERC_RING_CFG => [ERC_RING_CFG.EN, ERC_RING_CFG.RING_ERR, ERC_RING_CFG.SIZE_LOG2, ERC_RING_CFG.BASE]
  | .ERC_RECORD => [ERC_RECORD.DATA]
  | .MBX_DOORBELL => [MBX_DOORBELL.CMD]
  | .MBX_STATUS => [MBX_STATUS.STATE, MBX_STATUS.OVERRUN, MBX_STATUS.DUP, MBX_STATUS.OPS, MBX_STATUS.TAG, MBX_STATUS.GENERATION, MBX_STATUS.STATUS]
  | .DBG_AUTH => [DBG_AUTH.SESSION, DBG_AUTH.RESULT, DBG_AUTH.REASON, DBG_AUTH.PART_MASK, DBG_AUTH.RIGHTS, DBG_AUTH.CMD]
  | .DBG_AUTH_NONCE => [DBG_AUTH_NONCE.NONCE]
  | .DBG_FREEZE => [DBG_FREEZE.TRIAL, DBG_FREEZE.UART0, DBG_FREEZE.UART1, DBG_FREEZE.CIPHER0, DBG_FREEZE.CIPHER1, DBG_FREEZE.LADLE, DBG_FREEZE.FABSQ]
  | .DBG_MEM_CTL => [DBG_MEM_CTL.BUSY, DBG_MEM_CTL.STATUS, DBG_MEM_CTL.EFFECT, DBG_MEM_CTL.WORLD, DBG_MEM_CTL.PARTITION, DBG_MEM_CTL.SIZE, DBG_MEM_CTL.WRITE, DBG_MEM_CTL.GO, DBG_MEM_CTL.ADDR]
  | .DBG_MEM_DATA => [DBG_MEM_DATA.DATA]
  | .DBG_PATCH_CFG => [DBG_PATCH_CFG.EN, DBG_PATCH_CFG.TARGET, DBG_PATCH_CFG.LOCKED, DBG_PATCH_CFG.LINE]
  | .DBG_PATCH_DATA => [DBG_PATCH_DATA.DATA]
  | .DBG_TRACE_CFG => [DBG_TRACE_CFG.EN, DBG_TRACE_CFG.WORLD, DBG_TRACE_CFG.PARTITION, DBG_TRACE_CFG.SIZE_LOG2, DBG_TRACE_CFG.BASE]
  | .DBG_TRACE_PTR => [DBG_TRACE_PTR.LOST, DBG_TRACE_PTR.WRITE]
  | .DBG_CORE_CTL => [DBG_CORE_CTL.RESETHALT, DBG_CORE_CTL.STEPIE, DBG_CORE_CTL.EBREAKM, DBG_CORE_CTL.TRACE, DBG_CORE_CTL.CORE_RESET, DBG_CORE_CTL.CMD]
  | .DBG_CORE_STATUS => [DBG_CORE_STATUS.STATE, DBG_CORE_STATUS.CAUSE, DBG_CORE_STATUS.TRIGGER, DBG_CORE_STATUS.PAIRED]
  | .DBG_CORE_REGSEL => [DBG_CORE_REGSEL.ERR, DBG_CORE_REGSEL.REG]
  | .DBG_CORE_REGDATA => [DBG_CORE_REGDATA.DATA]
  | .DBG_TRIG_CFG => [DBG_TRIG_CFG.EN, DBG_TRIG_CFG.TYPE, DBG_TRIG_CFG.MATCH, DBG_TRIG_CFG.CHAIN, DBG_TRIG_CFG.MODES, DBG_TRIG_CFG.ACTION]
  | .DBG_TRIG_VAL => [DBG_TRIG_VAL.VAL]
  | .DBG_VT_TX => [DBG_VT_TX.VALID, DBG_VT_TX.DROPPED, DBG_VT_TX.DATA]
  | .DBG_VT_RX => [DBG_VT_RX.VALID, DBG_VT_RX.DROPPED, DBG_VT_RX.DATA]
  | .TILE_CORE_OVF => [TILE_CORE_OVF.HPM, TILE_CORE_OVF.IR, TILE_CORE_OVF.CY]
  | .CNT_CFG => [CNT_CFG.EN, CNT_CFG.PFILT, CNT_CFG.PARTITION, CNT_CFG.EVENT]
  | .CNT => [CNT.OVF, CNT.VALUE]
  | .LDL_PART_CFG => [LDL_PART_CFG.EN, LDL_PART_CFG.UEN, LDL_PART_CFG.SIZE_LOG2, LDL_PART_CFG.PERIOD_US, LDL_PART_CFG.BASE]
  | .LDL_PART_MASK => [LDL_PART_MASK.MASK]
  | .LDL_PART_STATUS => [LDL_PART_STATUS.RING_ERR, LDL_PART_STATUS.LAST_SEQ]
  | .UART_CFG => [UART_CFG.EN, UART_CFG.PARITY, UART_CFG.STOP2, UART_CFG.DIV, UART_CFG.FRAC]
  | .UART_DATA => [UART_DATA.VALID, UART_DATA.PERR, UART_DATA.DATA]
  | .UART_STATUS => [UART_STATUS.TX_EMPTY, UART_STATUS.TX_LEVEL, UART_STATUS.RX_LEVEL, UART_STATUS.TX_DROPPED, UART_STATUS.RX_OVERRUN, UART_STATUS.RX_ERROR]
  | .GPIO_CFG => [GPIO_CFG.OE, GPIO_CFG.OUT, GPIO_CFG.PULL, GPIO_CFG.SLEW, GPIO_CFG.INV, GPIO_CFG.IN]
  | .LSIO_PAD_CFG => [LSIO_PAD_CFG.TDO_SLEW, LSIO_PAD_CFG.PERST_SLEW, LSIO_PAD_CFG.READY_SLEW, LSIO_PAD_CFG.UART1_SLEW, LSIO_PAD_CFG.UART0_SLEW]

/-- One run of addresses at which a register's units lie: `base + s1 × a + s2 × b`, with `a < n1` and `b < n2`, is unit
`ibase + a × n2 + b`. -/
structure Span where
  reg : RegId
  base : Nat
  s1 : Nat
  n1 : Nat
  s2 : Nat
  n2 : Nat
  ibase : Nat
  deriving DecidableEq, Repr

/-- Addresses of the registers, part 0 (R14, R18, and the heading line of each register). -/
def spans0 : List Span := [
  ⟨.TILE_CORE_MAP, 0xFE0010000000, 0x100000, 24, 0, 1, 0⟩,
  ⟨.TILE_HOME_STATUS, 0xFE0010000100, 0x100000, 24, 0, 1, 0⟩,
  ⟨.MESH_LINK_CFG, 0xFE0000800000, 0x1000, 48, 8, 4, 0⟩,
  ⟨.MESH_TIMEOUT, 0xFE0000800100, 0x1000, 48, 8, 32, 0⟩,
  ⟨.MESH_INIT_STATUS, 0xFE0000800400, 0x1000, 48, 0, 1, 0⟩,
  ⟨.LID_SECTION, 0xFE0000800200, 0x1000, 48, 8, 5, 0⟩,
  ⟨.SPN_STREAM_CFG, 0xFE0003000100, 0x40, 64, 0, 1, 0⟩,
  ⟨.SPN_STREAM_STATE, 0xFE0003000108, 0x40, 64, 0, 1, 0⟩,
  ⟨.SPN_STREAM_WMARK, 0xFE0003000110, 0x40, 64, 0, 1, 0⟩,
  ⟨.SPN_STREAM_ASSIGNED, 0xFE0003000118, 0x40, 64, 0, 1, 0⟩,
  ⟨.SPN_STREAM_NEXT, 0xFE0003000120, 0x40, 64, 0, 1, 0⟩,
  ⟨.JRN_REGION, 0xFE0004000100, 0x40, 64, 0, 1, 0⟩,
  ⟨.JRN_APPEND_PTR, 0xFE0004000108, 0x40, 64, 0, 1, 0⟩,
  ⟨.JRN_DRAIN_PTR, 0xFE0004000110, 0x40, 64, 0, 1, 0⟩,
  ⟨.JRN_STREAM_STATUS, 0xFE0004000118, 0x40, 64, 0, 1, 0⟩,
  ⟨.JRN_REPL_CFG, 0xFE0004000120, 0x40, 64, 0, 1, 0⟩,
  ⟨.JRN_REPL_MEMBERS, 0xFE0004000128, 0x40, 64, 0, 1, 0⟩,
  ⟨.JRN_REPL_STATE, 0xFE0004000130, 0x40, 64, 0, 1, 0⟩,
  ⟨.JRN_REPL_DEGRADED, 0xFE0004000138, 0x40, 64, 0, 1, 0⟩,
  ⟨.JRN_REPL_HELD, 0xFE0004003000, 0x10, 64, 8, 2, 0⟩]

/-- Addresses of the registers, part 1 (R14, R18, and the heading line of each register). -/
def spans1 : List Span := [
  ⟨.JRN_RSLOT_CFG, 0xFE0004008000, 0x40, 64, 0, 1, 0⟩,
  ⟨.JRN_RSLOT_REGION, 0xFE0004008008, 0x40, 64, 0, 1, 0⟩,
  ⟨.JRN_RSLOT_TERM, 0xFE0004008010, 0x40, 64, 0, 1, 0⟩,
  ⟨.JRN_RSLOT_HELD, 0xFE0004008018, 0x40, 64, 0, 1, 0⟩,
  ⟨.JRN_RSLOT_APPEND, 0xFE0004008020, 0x40, 64, 0, 1, 0⟩,
  ⟨.JRN_RSLOT_DRAIN, 0xFE0004008028, 0x40, 64, 0, 1, 0⟩,
  ⟨.JRN_RSLOT_GASP, 0xFE0004008030, 0x40, 64, 0, 1, 0⟩,
  ⟨.FAB_NODE, 0xFE0008000000, 0, 1, 0, 1, 0⟩,
  ⟨.FAB_ROUTE, 0xFE0008020000, 8, 16384, 0, 1, 0⟩,
  ⟨.FAB_APERTURE, 0xFE0008040000, 8, 4096, 0, 1, 0⟩,
  ⟨.FAB_INBOUND, 0xFE0008050000, 8, 256, 0, 1, 0⟩,
  ⟨.FAB_RXRING_CFG, 0xFE0008060000, 0x10, 256, 0, 1, 0⟩,
  ⟨.FAB_RXRING_PTR, 0xFE0008060008, 0x10, 256, 0, 1, 0⟩,
  ⟨.FAB_SQ_CFG, 0xFE0008070000, 0x10, 16, 0, 1, 0⟩,
  ⟨.FAB_SQ_PTR, 0xFE0008070008, 0x10, 16, 0, 1, 0⟩,
  ⟨.FAB_PORT_CTL, 0xFE0008100000, 0x100000, 8, 0, 1, 0⟩,
  ⟨.FAB_PORT_STATUS, 0xFE0008100008, 0x100000, 8, 0, 1, 0⟩,
  ⟨.MCT_DECODE, 0xFE000C001000, 8, 8, 0, 1, 0⟩,
  ⟨.MCT_CH_STATUS, 0xFE000C000000, 0x100000, 16, 0, 1, 0⟩,
  ⟨.MCT_ECC_COUNT, 0xFE000C000008, 0x100000, 16, 0, 1, 0⟩]

/-- Addresses of the registers, part 2 (R14, R18, and the heading line of each register). -/
def spans2 : List Span := [
  ⟨.MCT_ECC_LOG, 0xFE000C000010, 0x100000, 16, 0, 1, 0⟩,
  ⟨.MCT_SCRUB, 0xFE000C000018, 0x100000, 16, 0, 1, 0⟩,
  ⟨.PCIE_CTL, 0xFE000A000000, 0x400000, 4, 0, 1, 0⟩,
  ⟨.PCIE_PORT_CFG, 0xFE000A000100, 0x400000, 4, 8, 4, 0⟩,
  ⟨.PCIE_PORT_STATUS, 0xFE000A000200, 0x400000, 4, 8, 4, 0⟩,
  ⟨.IOMMU_FAT_MATCH, 0xFE000B001000, 0x10, 256, 0, 1, 0⟩,
  ⟨.IOMMU_FAT_BASE, 0xFE000B001008, 0x10, 256, 0, 1, 0⟩,
  ⟨.IOMMU_INVAL, 0xFE000B002000, 0x10, 16, 0, 1, 0⟩,
  ⟨.IOMMU_FAULT, 0xFE000B002008, 0x10, 16, 0, 1, 0⟩,
  ⟨.CPH_STATUS, 0xFE0005000000, 0x1000000, 2, 0, 1, 0⟩,
  ⟨.CPH_RING_CFG, 0xFE0005001000, 0x1000000, 2, 0x10, 32, 0⟩,
  ⟨.CPH_RING_PTR, 0xFE0005001008, 0x1000000, 2, 0x10, 32, 0⟩,
  ⟨.WPC_CFG, 0xFE0023000000, 0, 1, 0, 1, 0⟩,
  ⟨.WPC_SYNC, 0xFE0023000008, 0, 1, 0, 1, 0⟩,
  ⟨.WPC_REGION, 0xFE0023000100, 8, 32, 0, 1, 0⟩,
  ⟨.WPC_OWNER, 0xFE0023010000, 8, 6432, 0, 1, 0⟩,
  ⟨.WPC_PART_CFG, 0xFE0023020000, 0x10, 16, 0, 1, 0⟩,
  ⟨.WPC_PART_CTL, 0xFE0023020008, 0x10, 16, 0, 1, 0⟩,
  ⟨.EVR_PFW_TIME, 0xFE0002000100, 0, 1, 0, 1, 0⟩,
  ⟨.EVR_SRC_CFG, 0xFE0002010000, 8, 2048, 0, 1, 0⟩]

/-- Addresses of the registers, part 3 (R14, R18, and the heading line of each register). -/
def spans3 : List Span := [
  ⟨.EVR_SRC_PEND, 0xFE0002020000, 8, 32, 0, 1, 0⟩,
  ⟨.EVR_RING_ROUTE, 0xFE0002030000, 8, 256, 0, 1, 0⟩,
  ⟨.EVR_TGT_CLAIM, 0xFE0002400000, 0x20000, 96, 0x1000, 17, 0⟩,
  ⟨.EVR_TGT_EOI, 0xFE0002400008, 0x20000, 96, 0x1000, 17, 0⟩,
  ⟨.EVR_TGT_THRESH, 0xFE0002400010, 0x20000, 96, 0x1000, 17, 0⟩,
  ⟨.EVR_TGT_INJECT, 0xFE0002400018, 0x20000, 96, 0x1000, 17, 0⟩,
  ⟨.EVR_TGT_STATUS, 0xFE0002400020, 0x20000, 96, 0x1000, 17, 0⟩,
  ⟨.SP_BOOT_STATUS, 0xFF0002000000, 0, 1, 0, 1, 0⟩,
  ⟨.SP_BOOT_SEQ, 0xFF0002000008, 0, 1, 0, 1, 0⟩,
  ⟨.SP_TRIAL, 0xFF0002000010, 0, 1, 0, 1, 0⟩,
  ⟨.TILE_RESET_VEC, 0xFE0010000200, 0x100000, 24, 8, 5, 0⟩,
  ⟨.RCP_RESET_CAUSE, 0xFE0000000000, 0, 1, 0, 1, 0⟩,
  ⟨.RCP_CAUSE_COUNT, 0xFE0000000008, 8, 2, 0, 1, 0⟩,
  ⟨.RCP_RTC, 0xFE0000000018, 0, 1, 0, 1, 0⟩,
  ⟨.RCP_PSTATE, 0xFE0000000100, 8, 16, 0, 1, 0⟩,
  ⟨.RCP_BLOCK_CTL, 0xFE0000000200, 8, 84, 0, 1, 0⟩,
  ⟨.RCP_THERMAL, 0xFE0000000600, 0, 1, 0, 1, 0⟩,
  ⟨.TMR_WDOG, 0xFE0022000100, 0x10, 17, 0, 1, 0⟩,
  ⟨.ERC_STATUS, 0xFE0025000000, 0, 1, 0, 1, 0⟩,
  ⟨.ERC_RING_CFG, 0xFE0025000008, 0, 1, 0, 1, 0⟩]

/-- Addresses of the registers, part 4 (R14, R18, and the heading line of each register). -/
def spans4 : List Span := [
  ⟨.ERC_RECORD, 0xFE0025010000, 0x20, 4096, 8, 4, 0⟩,
  ⟨.MBX_DOORBELL, 0xFE0001000000, 0x10000, 18, 0, 1, 0⟩,
  ⟨.MBX_STATUS, 0xFE0001000008, 0x10000, 18, 0, 1, 0⟩,
  ⟨.DBG_AUTH, 0xFE0020000000, 0, 1, 0, 1, 0⟩,
  ⟨.DBG_AUTH_NONCE, 0xFE0020000020, 8, 4, 0, 1, 0⟩,
  ⟨.DBG_FREEZE, 0xFE0020000008, 0, 1, 0, 1, 0⟩,
  ⟨.DBG_MEM_CTL, 0xFE0020000100, 0, 1, 0, 1, 0⟩,
  ⟨.DBG_MEM_DATA, 0xFE0020000108, 0, 1, 0, 1, 0⟩,
  ⟨.DBG_PATCH_CFG, 0xFE0020000200, 8, 16, 0, 1, 0⟩,
  ⟨.DBG_PATCH_DATA, 0xFE0020000400, 0x20, 16, 8, 4, 0⟩,
  ⟨.DBG_TRACE_CFG, 0xFE0020001000, 0, 1, 0, 1, 0⟩,
  ⟨.DBG_TRACE_PTR, 0xFE0020001008, 0, 1, 0, 1, 0⟩,
  ⟨.DBG_CORE_CTL, 0xFE0020100000, 0x1000, 96, 0, 1, 0⟩,
  ⟨.DBG_CORE_STATUS, 0xFE0020100008, 0x1000, 96, 0, 1, 0⟩,
  ⟨.DBG_CORE_REGSEL, 0xFE0020100010, 0x1000, 96, 0, 1, 0⟩,
  ⟨.DBG_CORE_REGDATA, 0xFE0020100018, 0x1000, 96, 0, 1, 0⟩,
  ⟨.DBG_TRIG_CFG, 0xFE0020100100, 0x1000, 96, 0x10, 8, 0⟩,
  ⟨.DBG_TRIG_VAL, 0xFE0020100108, 0x1000, 96, 0x10, 8, 0⟩,
  ⟨.DBG_VT_TX, 0xFE0020200000, 0x1000, 98, 0, 1, 0⟩,
  ⟨.DBG_VT_TX, 0xFE0020300000, 0x1000, 98, 0, 1, 98⟩]

/-- Addresses of the registers, part 5 (R14, R18, and the heading line of each register). -/
def spans5 : List Span := [
  ⟨.DBG_VT_RX, 0xFE0020200008, 0x1000, 98, 0, 1, 0⟩,
  ⟨.DBG_VT_RX, 0xFE0020300008, 0x1000, 98, 0, 1, 98⟩,
  ⟨.TILE_CORE_OVF, 0xFE0010000300, 0x100000, 24, 8, 5, 0⟩,
  ⟨.CNT_CFG, 0xFE001000F000, 0x100000, 24, 0x10, 8, 0⟩,
  ⟨.CNT_CFG, 0xFE000C00F000, 0x100000, 16, 0x10, 8, 192⟩,
  ⟨.CNT_CFG, 0xFE000810F000, 0x100000, 8, 0x10, 8, 320⟩,
  ⟨.CNT_CFG, 0xFE000300F000, 0, 1, 0x10, 8, 384⟩,
  ⟨.CNT_CFG, 0xFE000400F000, 0, 1, 0x10, 8, 392⟩,
  ⟨.CNT_CFG, 0xFE000500F000, 0, 1, 0x10, 4, 400⟩,
  ⟨.CNT_CFG, 0xFE000600F000, 0, 1, 0x10, 4, 408⟩,
  ⟨.CNT_CFG, 0xFE000A00F000, 0x400000, 4, 0x10, 8, 416⟩,
  ⟨.CNT, 0xFE001000F008, 0x100000, 24, 0x10, 8, 0⟩,
  ⟨.CNT, 0xFE000C00F008, 0x100000, 16, 0x10, 8, 192⟩,
  ⟨.CNT, 0xFE000810F008, 0x100000, 8, 0x10, 8, 320⟩,
  ⟨.CNT, 0xFE000300F008, 0, 1, 0x10, 8, 384⟩,
  ⟨.CNT, 0xFE000400F008, 0, 1, 0x10, 8, 392⟩,
  ⟨.CNT, 0xFE000500F008, 0, 1, 0x10, 4, 400⟩,
  ⟨.CNT, 0xFE000600F008, 0, 1, 0x10, 4, 408⟩,
  ⟨.CNT, 0xFE000A00F008, 0x400000, 4, 0x10, 8, 416⟩,
  ⟨.LDL_PART_CFG, 0xFE0021000100, 0x40, 16, 0, 1, 0⟩]

/-- Addresses of the registers, part 6 (R14, R18, and the heading line of each register). -/
def spans6 : List Span := [
  ⟨.LDL_PART_MASK, 0xFE0021000108, 0x40, 16, 8, 4, 0⟩,
  ⟨.LDL_PART_STATUS, 0xFE0021000128, 0x40, 16, 0, 1, 0⟩,
  ⟨.UART_CFG, 0xFE0024000000, 0x1000, 2, 0, 1, 0⟩,
  ⟨.UART_DATA, 0xFE0024000008, 0x1000, 2, 0, 1, 0⟩,
  ⟨.UART_STATUS, 0xFE0024000010, 0x1000, 2, 0, 1, 0⟩,
  ⟨.GPIO_CFG, 0xFE0024002000, 8, 32, 0, 1, 0⟩,
  ⟨.LSIO_PAD_CFG, 0xFE0024003000, 0, 1, 0, 1, 0⟩]

/-- Every run of addresses of the register map. -/
def spans : List Span := spans0 ++ spans1 ++ spans2 ++ spans3 ++ spans4 ++ spans5 ++ spans6

/-- The device's own CSRs (R54): `CG_BIND` has eight, one per binding slot. -/
def csrReg : Nat → Option (RegId × Nat)
  | 0x800 => some (.CG_STATUS, 0)
  | 0x801 => some (.CG_ABORT_PC, 0)
  | 0x802 => some (.CG_LASTSEQ, 0)
  | 0x803 => some (.CG_DEPSEL, 0)
  | 0x804 => some (.CG_DEPSEQ, 0)
  | 0x805 => some (.CG_DEPMASK, 0)
  | 0x806 => some (.CG_DEPLOST, 0)
  | 0x807 => some (.CG_WMARK, 0)
  | 0x5C0 => some (.CG_BIND, 0)
  | 0x5C1 => some (.CG_BIND, 1)
  | 0x5C2 => some (.CG_BIND, 2)
  | 0x5C3 => some (.CG_BIND, 3)
  | 0x5C4 => some (.CG_BIND, 4)
  | 0x5C5 => some (.CG_BIND, 5)
  | 0x5C6 => some (.CG_BIND, 6)
  | 0x5C7 => some (.CG_BIND, 7)
  | 0x5C8 => some (.CG_CFG, 0)
  | 0x7D0 => some (.PAIR_CTL, 0)
  | 0x7D1 => some (.PAIR_STATUS, 0)
  | 0x7D2 => some (.PAIR_RESUME, 0)
  | 0x7D3 => some (.PAIR_COUNT, 0)
  | 0x7D4 => some (.PAIR_FAILPC, 0)
  | 0x7D5 => some (.PAIR_CFG, 0)
  | 0x7C0 => some (.WCTL, 0)
  | 0x7C1 => some (.WSTATUS, 0)
  | _ => none

/-- A span's unit at an address, if the address is one of its registers' first bytes. -/
def Span.unitAt (p : Span) (a : Nat) : Option Nat :=
  if a < p.base then none
  else
    let off := a - p.base
    let x := if p.s1 = 0 then 0 else Nat.min (off / p.s1) (p.n1 - 1)
    let rest := off - p.s1 * x
    let y := if p.s2 = 0 then 0 else Nat.min (rest / p.s2) (p.n2 - 1)
    if rest = p.s2 * y then some (p.ibase + x * p.n2 + y) else none

/-- The register whose 64 bits begin at an address, with its unit. -/
def regAt (a : Nat) : Option (RegId × Nat) :=
  spans.findSome? fun p => (p.unitAt a).map fun i => (p.reg, i)

end Sys2Proof.Machine
end

