-- ==== Sys2Proof/Machine/Cells.lean ====
section
/-! DEFINITION. The plain-data parts that State is made of: a core with its caches, its store buffer and its commit
group; a home's tables; the stores of the Spine, the journal engine and the Tongs; one record type per structure the
manual names. Every type has its value at reset as its field defaults. -/

namespace Sys2Proof.Machine

open Sys2Proof

/-- The data of one 64-byte line; byte 0 is in the low bits (R4). -/
abbrev Line := BitVec 512

/-- A durability tag: the stream and the sequence number of the commit that wrote the line (R125). -/
structure Tag where
  stream : Nat
  seq : Nat
  deriving DecidableEq, Repr

/-- The MOESI states of a private L2 line other than Invalid, which is "not listed" (R98, R106). -/
inductive Moesi where
  | m | o | e | s
  deriving DecidableEq, Repr

/-- A line as it travels: data, the poison bit and the durability tag (R100, R104, R125). -/
structure LineData where
  data : Line := 0
  poison : Bool := false
  tag : Option Tag := none
  deriving DecidableEq, Repr

/-- One line of a private L2 (R98, R125). -/
structure L2Line where
  st : Moesi := .s
  d : LineData := {}
  deriving DecidableEq, Repr

/-- One entry of a private L2's writeback buffer, kept until its acknowledgement (R115, R121). `dirty` tells a WB_DIRTY
from an EVICT_CLEAN notice, `last` is the LAST flag it left with, `supplied` that a snoop took the data from it, `disc` that ownership passed with it, and
`acked` the acknowledgement that is on its way back (0 none, 1 accepted, 2 discarded). -/
structure WbEnt where
  d : LineData := {}
  dirty : Bool := true
  last : Bool := false
  supplied : Bool := false
  disc : Bool := false
  acked : Nat := 0
  deriving DecidableEq, Repr

/-- The kinds of coherence request of R104. -/
inductive ReqKind where
  | rdShared | rdOwn | upgrade | rdOnce | wrLine | cboClean | cboFlush | amoHome
  deriving DecidableEq, Repr

/-- A coherence request of a requester, from its sending to its completion (R104, R105, R118). `comp` and `data` are
what the home and the owner have sent; `compHeld` and `dataHeld` that they have arrived. `noData` is the COMP's statement
that no DATA follows. `secure` and `part` are the tags of the instruction or agent that it serves (R46, R80), `inst` that it is an
instruction fetch's (R48), `lr` an LR's and `hint` a prefetch's (R155, R157); `off` that its block's Lid section was not OPEN when it was presented, so that it never
entered the mesh (R147). -/
structure Req where
  kind : ReqKind := .rdShared
  nak : Nat := 0
  wait : Nat := 0
  reserved : Bool := false
  nakIn : Bool := false
  accepted : Bool := false
  comp : Option (Option Moesi) := none
  compStatus : Nat := 0
  compHeld : Bool := false
  noData : Bool := false
  data : Option LineData := none
  dataHeld : Bool := false
  tag : Nat := 0
  wr : Option LineData := none
  secure : Bool := true
  part : Nat := 0
  inst : Bool := false
  lr : Bool := false
  hint : Bool := false
  off : Bool := false
  deriving DecidableEq, Repr

/-- What an entry of the store buffer is (R78, R85): a store to normal memory, to memory mapped NC, to a device region, or
one CBO.ZERO. -/
inductive SbKind where
  | normal | nc | device | cboZero
  deriving DecidableEq, Repr

/-- One entry of the store buffer (R78, R80, R85). `seg` is its segment between ordering points, `ival` the interval of a
checked pair that holds it (R209), `grp` that it belongs to the open commit group (R154). -/
structure SbEnt where
  pa : Nat := 0
  size : Nat := 0
  data : BitVec 256 := 0
  kind : SbKind := .normal
  ewa : Bool := false
  secure : Bool := false
  part : Nat := 0
  seg : Nat := 0
  ival : Option Nat := none
  grp : Bool := false
  sent : Bool := false
  ans : Option Nat := none
  txn : Nat := 0
  deriving DecidableEq, Repr

/-- A translation held in a TLB, with its tags, permissions and the cached World Table verdict (R60, R72, R73). `size` is
the page's log2 size; `bare` says that its first stage was Bare, so that no U bit applies; `gbase` and `gsize` are the guest page that the
G stage mapped, which HFENCE.GVMA names. -/
structure TlbEnt where
  secure : Bool := false
  part : Nat := 0
  vmid : Nat := 0
  asid : Nat := 0
  glob : Bool := false
  two : Bool := false
  bare : Bool := false
  vbase : Nat := 0
  size : Nat := 12
  pbase : Nat := 0
  gbase : Nat := 0
  gsize : Nat := 12
  r : Bool := false
  w : Bool := false
  x : Bool := false
  u : Bool := false
  dirty : Bool := false
  pbmt : Nat := 0
  ewa : Bool := false
  wtOk : Bool := false
  deriving DecidableEq, Repr

/-- A leaf that a stage of a walk found. -/
structure Leaf where
  pa : Nat := 0
  size : Nat := 12
  r : Bool := true
  w : Bool := true
  x : Bool := true
  u : Bool := true
  glob : Bool := false
  dirty : Bool := true
  pbmt : Nat := 0
  deriving DecidableEq, Repr

/-- An entry of a walk cache (R60): a non-leaf PTE of the first stage, or a G-stage translation of a guest page (`gst`). -/
structure WalkEnt where
  secure : Bool := false
  part : Nat := 0
  vmid : Nat := 0
  asid : Nat := 0
  glob : Bool := false
  virt : Bool := false
  gst : Bool := false
  vbase : Nat := 0
  size : Nat := 0
  l : Leaf := {}
  deriving DecidableEq, Repr

/-- A reservation: its line, its width in bytes, whether its hold window is open and whether one was granted for its LR,
and whether the open group's own LR set it (R89, R92, R156). -/
structure Resv where
  line : Nat := 0
  width : Nat := 0
  hold : Bool := false
  grp : Bool := false
  deriving DecidableEq, Repr

/-- An entry of the load queue (R39, R81): a load, or a part of one, that was performed before it is the oldest. `at_` is the number of
the instruction, as `Core.icount` counts them; the bytes [`off`, `off` + `n`) of its access were read, from these lines; `near` are all the lines it touches; `stale` says that a line of it has been
invalidated or evicted since. -/
structure LoadEnt where
  at_ : Nat := 0
  va : Nat := 0
  size : Nat := 0
  off : Nat := 0
  n : Nat := 0
  bs : List Byte := []
  lines : List (Nat × LineData) := []
  near : List Nat := []
  stale : Bool := false
  deriving DecidableEq, Repr

/-- A predictor entry with the three tags of R42: the branch it was trained by, and where it went. -/
structure BpEnt where
  pc : W := 0
  secure : Bool := true
  part : Nat := 0
  mode : Nat := 3
  target : W := 0
  taken : Bool := false
  deriving DecidableEq, Repr

/-- Where an open commit group stands between CG.BEGIN and its end (R163). -/
inductive GPhase where
  | opened                                   -- running its loads and stores
  | staging                                  -- step 2: reservation sent
  | requested                                -- the commit request has left the core
  | flipping (g : Nat) (lost : Bool)         -- step 4: the visibility window
  deriving DecidableEq, Repr

/-- A CG.END that waits in step 6 of R163, its group closed: its number, stream, destination and whether the stream was
already fenced when the number was assigned (R186). -/
structure CgWait where
  g : Nat := 0
  stream : Nat := 0
  rd : Nat := 0
  lost : Bool := false
  early : Bool := false
  len : Nat := 4
  deps : List (Nat × Nat) := []
  deriving DecidableEq, Repr

/-- A commit request: its core, its stream, its record length and the dependencies it carries (R163). -/
structure CommitReq where
  core : Nat := 0
  stream : Nat := 0
  len : Nat := 0
  deps : List (Nat × Nat) := []
  deriving DecidableEq, Repr

/-- A core's open commit group (R151 to R163). `writes` is the L2's write-set buffer, line number to value; `early` and
`endRd` are CG.END's EARLY flag and destination; `deferAt` is the DTIME of the first deferred interrupt or swap. -/
structure Group where
  stream : Nat := 0
  slot : Nat := 0
  fallback : W := 0
  beginPc : W := 0
  beginRd : Nat := 0
  ck : Ckpt := {}
  reads : List Nat := []
  writes : Tbl (Option (Line × Nat)) := []
  phase : GPhase := .opened
  early : Bool := false
  endRd : Nat := 0
  endLen : Nat := 4
  deps : List (Nat × Nat) := []
  deferAt : Option Nat := none
  deriving DecidableEq, Repr

/-- A dependency entry: a number (0 when empty) and its LOST mark (R169, R173). -/
structure Dep where
  seq : Nat := 0
  lost : Bool := false
  deriving DecidableEq, Repr

/-- Whether a core retires instructions, and if not why (R35, R200, R214, R434, R446, R486, R498). -/
inductive Run where
  | held                                     -- held in reset, not yet released
  | running
  | wfi
  | pause

  | halted                                   -- debug halt
  | pairWait                                 -- PARK
  | stopped                                  -- its pair is STOPPED
  | gated                                    -- power-gated
  deriving DecidableEq, Repr

/-- The privilege modes (R30): M, S (HS when the hypervisor extension's V bit is clear) and U; VS and VU are S and U with
`virt` set. -/
inductive Mode where
  | m | s | u
  deriving DecidableEq, Repr

/-- One core slot (R21, R30 to R175): its architectural registers, its translation structures, its caches and buffers,
its reservation, its commit group and dependency entries, and its debug halt: a HALT request, a step, and the cause and trigger of
a halt that takes effect before the next instruction the session reaches (R498, R501); a swap request, and whether it has stopped the core
while its stores drain (R486, R487). `tlb` and `tlbBig` are the L2 TLB and its large-page part, `dtlb` and `itlb` the first level, and
`walks` the walks that hold a walker (R60, R61); `icount` numbers the instructions; `lrWin` is the line that an LR has asked for, and whether
its hold window waits for the line (0), is open (1) or has ended (2) (R92); `resumeAt` is where a core that was reset in PAIRWAIT resumes
(R200). -/
structure Core where
  x : Tbl W := []
  f : Tbl W := []
  v : Tbl (BitVec 256) := []
  pc : W := 0
  mode : Mode := .m
  virt : Bool := false
  secure : Bool := true
  part : Nat := 0
  csr : Tbl W := []
  run : Run := .held
  idle : Run := .running
  tlb : List TlbEnt := []
  tlbBig : List TlbEnt := []
  dtlb : List TlbEnt := []
  itlb : List TlbEnt := []
  walkCache : List WalkEnt := []
  walks : List (Nat × Nat) := []
  icount : Nat := 0
  loadq : List LoadEnt := []
  bp : List BpEnt := []
  lrWin : Option (Nat × Nat) := none
  sb : List SbEnt := []
  seg : Nat := 0
  resv : Option Resv := none
  cboDone : Option Nat := none
  ras : List W := []
  l1d : List Nat := []
  l1i : List (Nat × Bool × Nat) := []
  l2 : Tbl (Option L2Line) := []
  wb : Tbl (Option WbEnt) := []
  reqs : Tbl (Option Req) := []
  group : Option Group := none
  cgWait : Option CgWait := none
  voidOut : Bool := false
  deps : Tbl Dep := []
  depseqReq : Option (Nat × Nat × Nat × Nat) := none
  cgReq : Option CommitReq := none
  cgReply : Option (Nat × Nat × Bool) := none
  cancel : Option Nat := none
  devLoad : Option (Nat × Nat) := none
  devAns : Option (Nat × Nat) := none
  lineErr : Option (Nat × Nat) := none
  amoReq : Option (AmoOp × Nat × Nat × Nat) := none
  haltReq : Bool := false
  stopNext : Option (Nat × Nat) := none
  swapReq : Bool := false
  swapStop : Bool := false
  flushing : Bool := false
  step : Bool := false
  resumeAt : Option W := none
  deriving DecidableEq, Repr

/-- The loads of the load queue that watch a line learn that it has gone from L1D (R81). -/
def Core.staleLoads (k : Core) (line : Nat) : Core :=
  { k with loadq := k.loadq.map fun e => if e.near.contains line then { e with stale := true } else e }

/-- A squash (R41): what younger instructions have left in the load queue and the walkers goes, with the hold window of a wrong-path LR
(R92). Cache and TLB fills, predictor entries and counts stay (R43). -/
def Core.squash (k : Core) : Core := { k with loadq := [], walks := [], lrWin := none, depseqReq := none }

/-- Empty the translation structures (R199). -/
def Core.emptyTlbs (k : Core) : Core :=
  { k with tlb := [], tlbBig := [], dtlb := [], itlb := [], walkCache := [], walks := [] }

/-- Every architectural register of one core into another (R199 step 4). -/
def Core.copyArch (a b : Core) : Core :=
  { b with x := a.x, f := a.f, v := a.v, pc := a.pc, mode := a.mode, virt := a.virt, secure := a.secure, part := a.part,
           csr := a.csr }

/-- One line of an L3 slice or of a dependency victim buffer: the truncated tag keeps the number's low 12 bits (R126);
`secure` says which world's ways hold it (R99, R360). -/
structure L3Line where
  data : Line := 0
  dirty : Bool := false
  poison : Bool := false
  tag : Option Tag := none
  secure : Bool := false
  stamp : Nat := 0
  deriving DecidableEq, Repr

/-- One Sieve entry: the 28-bit presence vector and when it was last used (R113, R114). -/
structure SieveEnt where
  mask : Nat := 0
  stamp : Nat := 0
  deriving DecidableEq, Repr

/-- The snoop types of R109. -/
inductive Snp where
  | shared | own | once | inv
  deriving DecidableEq, Repr

/-- One slot of a snoop ring, with the fields of R109. `at_` is the ring position it has reached and `seen` marks the stops that it has
passed. -/
structure Slot where
  valid : Bool := false
  rsv : Bool := false
  rsvPos : Nat := 0
  origPos : Nat := 0
  typ : Snp := .shared
  line : Nat := 0
  present : Nat := 0
  ownerPos : Nat := 0
  hitOwn : Bool := false
  hitS : Bool := false
  wbStale : Bool := false
  hold : Bool := false
  defer : Bool := false
  cgAborted : Bool := false
  reqNode : Nat := 0
  tracker : Nat := 0
  at_ : Nat := 0
  seen : Nat := 0
  deriving DecidableEq, Repr

/-- Where an open tracker entry stands (R107, R112). -/
inductive TrkPhase where
  | needSlot                                 -- a snoop is ready and waits for a ring slot
  | snooping                                 -- its slot is on the ring
  | deferred                                 -- waits for DEFER_RSP
  | needWb                                   -- waits for an owner's writeback
  | needWrite                                -- waits for the memory controller or for durability (CBO_FLUSH)
  deriving DecidableEq, Repr

/-- One open tracker entry of a home; `rq` is none for a back-invalidation of the Sieve (R103, R114). `parked` is the
core whose writeback is parked with the entry (R121), `id` the entry's number, which the snoop carries as TRACKER (R109), `resp` the combined
response it acts on. -/
structure Trk where
  rq : Option Rq := none
  kind : ReqKind := .rdShared
  phase : TrkPhase := .needSlot
  parked : Option Nat := none
  id : Nat := 0
  resp : Slot := {}
  deriving DecidableEq, Repr

/-- What a busy initiator tag index was taken for (R138, R142). -/
inductive TxnUse where
  | line (rq : Rq) (line : Nat)              -- a coherence request
  | devLoad (c : Nat)                        -- a device load or AMO
  | devStore (c : Nat) (early : Bool)        -- a device store; acknowledged early under EWA
  | other (unit : Nat)                       -- a request of a block other than a core
  | job (cluster ring ix : Nat)              -- a cipher job whose read waits for tagged data (R342)
  deriving DecidableEq, Repr

/-- What a device request carries to its target: 0 read, 1 write, 2 atomic with its funct5; the size, the write data or
operand, whether the mesh acknowledges it early, the world and partition, the order in which it was sent, whether the target
has taken it, whether its block's Lid section was not OPEN when it was presented (R147), and the answer to a requester other than a core. -/
structure Io where
  kind : Nat := 0
  size : Nat := 0
  data : Nat := 0
  funct : Nat := 0
  ewa : Bool := false
  secure : Bool := false
  part : Nat := 0
  ord : Nat := 0
  taken : Bool := false
  off : Bool := false
  ans : Option (Nat × Nat) := none
  deriving DecidableEq, Repr

/-- The message classes of R133: what travels on the mesh. -/
inductive Msg where
  | rdShared | rdOwn | upgrade | rdOnce | wrLine | cboFlush | amoHome   -- coherence requests (R104)
  | mcRead | mcWrite                                                  -- a home and a memory-controller stop
  | nak | comp | deferRsp | wbAck | wbDisc | evictAck | commitReply     -- answers without data
  | data                                                              -- DATA and a controller's data
  | wbDirty | evictClean                                              -- writebacks and notices
  | devRead | devWrite | devAmo                                       -- device requests
  | devRsp                                                            -- their responses
  | commitReq | segment | append | publication                        -- the journal's traffic
  | interrupt | lid | halt                                            -- URG
  deriving DecidableEq, Repr

/-- A packet on the mesh: the fields of its header (R131), its length in flits (R130), the flits that have entered the mesh, and whether its
tail has reached its destination's local port. `who` is the core slot, or 1000 and the ring position, that the message concerns. -/
structure MPkt where
  msg : Msg := .rdShared
  who : Nat := 0
  src : Nat := 0
  dst : Nat := 0
  unit : Nat := 0
  world : Bool := false
  part : Nat := 0
  tag : Nat := 0
  epoch : Nat := 0
  qos : Nat := 2
  nak : Nat := 0
  status : Nat := 0
  size : Nat := 0
  addr : Nat := 0
  len : Nat := 1
  poison : Bool := false
  inj : Nat := 0
  arr : Bool := false
  deriving DecidableEq, Repr

/-- A flit in a router's buffer: its packet, its place in it, and the mesh cycle from which it can leave. -/
structure MFlit where
  p : Nat := 0
  ix : Nat := 0
  ready : Nat := 0
  deriving DecidableEq, Repr

/-- The routers (R128 to R136): the packets in flight in the order in which they were sent, the mesh cycle, the input buffers (by node, port
and channel), the packet that holds each output, the credits on their way back, each channel's packets in the present round of an
output, the input served last, and the wire maps and weights in force where they differ from reset (R145). -/
structure Mesh where
  pkts : Tbl (Option MPkt) := []
  next : Nat := 0
  cycle : Nat := 0
  bufs : Tbl (List MFlit) := []
  hold : Tbl (Option (Nat × Nat × Nat)) := []
  owed : List (Nat × Nat) := []
  used : Tbl Nat := []
  last : Tbl Nat := []
  active : Tbl (Option W) := []
  deriving DecidableEq, Repr

/-- One initiator tag index (R138 to R140). `deadline` is the DTIME at which its request times out, 0 for none. -/
structure Txn where
  use : Option TxnUse := none
  deadline : Nat := 0
  io : Io := {}
  pa : Nat := 0
  device : Bool := false
  epoch : Nat := 0
  late : Nat := 0
  deriving DecidableEq, Repr

/-- One input-log entry (R204), with the interval it belongs to. -/
structure LogEnt where
  typ : Nat := 0
  pos : Nat := 0
  value : W := 0
  ival : Nat := 0
  deriving DecidableEq, Repr

/-- One interval of a checked pair, as the leader made it (R205, R207). -/
structure Ival where
  id : Nat := 0
  startPc : W := 0
  ck : Ckpt := {}
  count : Nat := 0
  sig : W := 0xFFFFFFFFFFFFFFFF
  stores : List StoreEnt := []
  deriving DecidableEq, Repr

/-- A vote in progress (R212). -/
structure Vote where
  spare : Nat := 0
  powered : Bool := false
  ival : Ival := {}
  deriving DecidableEq, Repr

/-- A checked pair of a tile (R198 to R219). `leader` and `trailer` are slots; `race` says that a walk of the trailer has found A or D clear
since the last comparison (R202). -/
structure Pair where
  bound : Bool := false
  leader : Nat := 0
  trailer : Nat := 0
  cur : Ival := {}
  awaiting : List Ival := []
  log : List LogEnt := []
  vote : Option Vote := none
  voteWaits : Bool := false
  race : Bool := false
  deriving DecidableEq, Repr

/-- A number assigned by the Spine and not yet below the watermark (R181, R182). -/
structure SeqEnt where
  seq : Nat := 0
  core : Nat := 0
  level : Nat := 0
  deps : List (Nat × Nat) := []
  staged : Bool := false
  appended : Bool := false
  acks : Nat := 0
  deriving DecidableEq, Repr

/-- The Spine's state of one stream beside its registers (R178 to R189). `early` is how many of the parked requests were
accepted before a pause; `fencedPub` the FENCED flag of its publications; `newOpen` that the next publication carries
OPENED; `sweep` the destinations whose answer the sweep in progress still awaits, `swept` those that have done it, `sweepL`
its L, and `takeover` that the opening keeps the journal pointers (R273), `gasp` that power-fail has stopped
assignment (R275), and `openNext` the value NEXT had when the current term opened the stream (R267), and
`lastApp`, `lastTerm` the number and term of the last record appended (R272), and `refused` the members that refused the
promotion in progress. -/
structure SpnStream where
  nums : List SeqEnt := []
  parked : List CommitReq := []
  early : Nat := 0
  fencedPub : Bool := false
  newOpen : Bool := false
  sweep : Option (List Nat) := none
  swept : List Nat := []
  sweepL : Nat := 0
  takeover : Bool := false
  gasp : Bool := false
  openNext : Nat := 0
  lastApp : Nat := 0
  lastTerm : Nat := 0
  refused : Nat := 0
  deriving DecidableEq, Repr

/-- A destination's copy of a stream's W, A and FENCED (R185). -/
structure Pub where
  w : Nat := 0
  a : Nat := 0
  fenced : Bool := false
  deriving DecidableEq, Repr

/-- One entry of a publication flit (R183). -/
structure PubEnt where
  stream : Nat := 0
  w : Nat := 0
  a : Nat := 0
  fenced : Bool := false
  opened : Bool := false
  deriving DecidableEq, Repr

/-- A staging reservation (R193). -/
structure StageRes where
  core : Nat := 0
  bytes : Nat := 0
  granted : Bool := false
  used : Bool := false
  at_ : Nat := 0
  deriving DecidableEq, Repr

/-- A journal record in staging (R190, R191): the number, its core, the written lines with their byte masks, and what the
header carries. `typ` is 1 DATA, 2 VOID, 4 LAST_GASP. `sentTo` lists the replicas that have been sent it in a quire. -/
structure JRec where
  seq : Nat := 0
  core : Nat := 0
  typ : Nat := 1
  lines : List (Nat × Nat × Line) := []
  nlines : Nat := 0
  complete : Bool := false
  level : Nat := 0
  term : Nat := 0
  part : Nat := 0
  time : Nat := 0
  origin : Nat := 0
  opening : Nat := 0
  appended : Bool := false
  appending : Bool := false
  sentTo : List Nat := []
  deriving DecidableEq, Repr

/-- An error record as the collector stores it (R468). -/
structure ErrRec where
  seq : Nat := 0
  dtime : Nat := 0
  source : Nat := 0
  unit : Nat := 0
  cls : Nat := 0
  code : Nat := 0
  supp : Nat := 0
  addr : Nat := 0
  deriving DecidableEq, Repr

/-- A trace packet (R512): TYPE, INFO, DTIME[31:0] and ADDR; HART is the table's key. -/
structure TracePkt where
  typ : Nat := 0
  info : Nat := 0
  time : Nat := 0
  addr : Nat := 0
  deriving DecidableEq, Repr

/-- An entry pending at a target of the event router: its identity (R372), the target it is held at and its priority
(R373). The list that holds these is in arbiter order (R375). -/
structure PendEnt where
  hart : Nat := 0
  page : Nat := 0
  prio : Nat := 0
  ident : Nat := 0
  deriving DecidableEq, Repr

/-- What an instruction did to memory, as triggers and signatures see it: the virtual address and size, whether it loads
or stores, and the values. -/
structure MemAcc where
  va : Nat := 0
  size : Nat := 0
  ld : Bool := false
  st : Bool := false
  ldVal : Option Nat := none
  stVal : Option Nat := none
  deriving DecidableEq, Repr

/-- A fabric packet (R231), with the level it travels at (R236). -/
structure Pkt where
  dst : Nat := 0
  src : Nat := 0
  op : Nat := 0
  flags : Nat := 0
  tag : Nat := 0
  len : Nat := 0
  status : Nat := 0
  aux : Nat := 0
  addr : Nat := 0
  operand : Nat := 0
  data : List Byte := []
  level : Nat := 0
  deriving DecidableEq, Repr

/-- One fabric port beside its registers (R224 to R235, R251 to R253): the folios that wait for each class, the folios sent
and unacknowledged, the credits used per class, the output's place in its round, the reassembly of the receive side with the
credits it owes, whether a NAK is out, the last IDLE folio sent, the attestation in progress, a lane swap in progress (4 × lane +
step), the requests that wait for the port (R243), and the times of R249. -/
structure Port where
  txq : Tbl (List Folio) := []
  replay : List Folio := []
  txSeq : Nat := 0
  resends : Nat := 0
  crUsed : Tbl Nat := []
  round : Nat := 0
  rxExp : Nat := 0
  nakOut : Bool := false
  sinceAck : Nat := 0
  rxSeg : Tbl (List Byte) := []
  rxq : List (Nat × Pkt) := []
  crOwed : Tbl Nat := []
  idle : Option Folio := none
  iv : Nat := 0
  rxIv : Nat := 0
  epoch : Nat := 0
  peerEpoch : Nat := 0
  ownNonce : List Byte := []
  peerNonce : List Byte := []
  ownOk : Bool := false
  peerOk : Bool := false
  peerNode : Nat := 0
  swap : Nat := 0
  waiting : List Nat := []
  syncT1 : Nat := 0
  syncT2 : Nat := 0
  reqT3 : Nat := 0
  delay : Nat := 0
  deriving DecidableEq, Repr

/-- What a fabric request of node 42 was sent for: a core's access by its mesh node and tag index, or a descriptor of a
send queue. -/
inductive RemUse where
  | core (node tag epoch : Nat)
  | msg (q ix : Nat)
  deriving DecidableEq, Repr

/-- A fabric request that awaits its response (R243, R246). `sent` is false while it queues for its port. -/
structure RemOp where
  use : RemUse := .core 0 0 0
  port : Nat := 0
  pkt : Pkt := {}
  sent : Bool := true
  deriving DecidableEq, Repr

/-- The primary's engine for one replica of a stream (R263, R267, R269): whether the catch-up reader runs and from which
number, its region position when the engine keeps one, the unanswered quires and probes, the next number to send, the last acknowledgement
with the region position after it, and the HELD and LAST_TERM of its grant in a promotion. -/
structure Repl where
  quires : List (Nat × Nat) := []
  probes : Nat := 0
  next : Nat := 0
  walk : Bool := false
  pos : Option Nat := none
  lastAck : Option (Nat × Nat) := none
  grant : Option (Nat × Nat) := none
  deriving DecidableEq, Repr

/-- A request in a channel's queue (R303 to R305): its line, its class (0 urgent to 3 bulk), its partition, whether it has a
bucket (not secure, no journal append, not Macen's), and when it entered. -/
structure McReq where
  line : Nat := 0
  cls : Nat := 2
  part : Nat := 0
  bucket : Bool := true
  at_ : Nat := 0
  deriving DecidableEq, Repr

/-- What a memory controller last answered: the line, its data, the poison bit and the mesh STATUS. -/
structure McRsp where
  line : Nat := 0
  data : Line := 0
  poison : Bool := false
  status : Nat := 0
  deriving DecidableEq, Repr

/-- A partition's token bucket on one channel (R305, R361): its bytes, or none while it is full; the remainder of its refill
and when that was last counted. -/
structure Bucket where
  bytes : Option Nat := none
  rem : Nat := 0
  at_ : Nat := 0
  deriving DecidableEq, Repr

/-- One DDR channel beside its registers: its queues, the CA parity failures of the command in hand, the rank being copied,
the patrol's next line of the channel address space, the postponed refreshes of each rank, and the DIMMs above 85 °C and
those that halve the issue rate, and the bank groups (rank × 4 + group) whose repair is used. -/
structure Chan where
  pop : Option DimmPop := none
  reads : List McReq := []
  writes : List McReq := []
  parity : Nat := 0
  copyRank : Nat := 0
  scrub : Nat := 0
  postponed : Tbl Nat := []
  hot : Tbl Bool := []
  slow : Tbl Bool := []
  ppr : List Nat := []
  buckets : Tbl Bucket := []
  deriving DecidableEq, Repr

/-- What a non-posted request of a PCIe controller was sent for: a core's access by its mesh node, tag index and epoch, or a
request that another controller's device made (R319 P2P). -/
inductive PcieUse where
  | core (node tag epoch : Nat)
  | peer (c port : Nat)
  deriving DecidableEq, Repr

/-- A non-posted tag of a PCIe controller (R313): its port, whether it is a configuration request and a write, its size and
its physical address, and the partition of the requester. -/
structure PcieTag where
  use : PcieUse := .core 0 0 0
  port : Nat := 0
  cfg : Bool := false
  write : Bool := false
  size : Nat := 0
  pa : Nat := 0
  secure : Bool := false
  part : Nat := 0
  deriving DecidableEq, Repr

/-- A TLP that a controller sends (R312): 0 MRd, 1 MWr, 2 configuration read, 3 configuration write; its port, the bus
address or the offset in ECAM, its size and its data. -/
structure Tlp where
  kind : Nat := 0
  port : Nat := 0
  addr : Nat := 0
  size : Nat := 0
  data : Nat := 0
  tag : Nat := 0
  deriving DecidableEq, Repr

/-- The completion that a controller returned last to a device (R317, R319): 0 successful, 1 UR, 2 CA, and the bytes. -/
structure Cpl where
  port : Nat := 0
  rid : Nat := 0
  status : Nat := 0
  data : List Byte := []
  deriving DecidableEq, Repr

/-- A device context as the IOMMU caches it (R317, R318), tagged by controller and RID, with the FAT entry it came by. -/
structure IoCtx where
  ctl : Nat := 0
  rid : Nat := 0
  entry : Nat := 0
  secure : Bool := false
  part : Nat := 0
  s1 : W := 0
  s2 : W := 0
  msi : Nat := 0
  irt : Nat := 0
  irtLog2 : Nat := 0
  valid : Bool := false
  p2p : Bool := false
  qos : Nat := 0
  deriving DecidableEq, Repr

/-- An IOTLB entry (R319): a combined translation of 4 KiB, 2 MiB or 1 GiB, tagged by world, partition, VMID and context. -/
structure IoTlbEnt where
  secure : Bool := false
  part : Nat := 0
  vmid : Nat := 0
  ctl : Nat := 0
  rid : Nat := 0
  entry : Nat := 0
  vbase : Nat := 0
  size : Nat := 12
  pbase : Nat := 0
  r : Bool := false
  w : Bool := false
  dirty : Bool := false
  deriving DecidableEq, Repr

/-- A key of the key store (R335, R336, R397, R399): its class, its owner, its usage mask, its algorithm (0 AES-128, 1 AES-256,
2 double- and 3 triple-length TDES, 4 HMAC, 5 RSA, 6 P-256, 7 P-384, 8 Ed25519, 9 ML-DSA-65), the secret bytes and the public
ones, an RSA modulus's length in bytes, and a LINK key's epoch (R253). -/
structure Key where
  cls : Nat := 0
  secure : Bool := false
  part : Nat := 0
  usage : Nat := 0
  alg : Nat := 0
  value : List Byte := []
  pub : List Byte := []
  size : Nat := 0
  epoch : Nat := 0
  deriving DecidableEq, Repr

/-- A job of a cipher ring (R330 to R333): the descriptor's fields, the keys as they were checked, whether it has started, its
status once it has one with the bytes it wrote, whether STATUS has been written, and the tag index of a read that waits (R342). -/
structure Job where
  ix : Nat := 0
  op : Nat := 0
  flags : Nat := 0
  key1 : Nat := 0
  key2 : Nat := 0
  alg : Nat := 0
  src : Nat := 0
  dst : Nat := 0
  srcLen : Nat := 0
  dstLen : Nat := 0
  param : List Byte := []
  aux : Nat := 0
  auxLen : Nat := 0
  k1 : Option Key := none
  k2 : Option Key := none
  started : Bool := false
  status : Option Nat := none
  outLen : Nat := 0
  posted : Bool := false
  wait : Option Nat := none
  deriving DecidableEq, Repr

/-- The option page's fields (R396, R439), at their defaults: `ssc` 0 is no spread; and the repair log's valid entries in index order
(R479, R481), which the option loader copies beside them. -/
structure Opt where
  spare : Bool := true
  mirror : Nat := 64
  bar0 : Nat := 20
  node : Nat := 0
  domain : Nat := 0
  source : Nat := 0
  addr : Nat := 0
  ssc : Nat := 0
  pstate : Nat := 0
  swdg : Nat := 10000
  log : List Nat := []
  deriving DecidableEq, Repr

/-- A sealed copy of the key store in flash (R397): whether it is whole, the KEK it is sealed under, its generation, the keys and
the order in which handles are issued. -/
structure KsCopy where
  whole : Bool := false
  kek : List Byte := []
  gen : Nat := 0
  keys : Tbl (Option Key) := []
  next : Nat := 1
  freed : List Nat := []
  deriving DecidableEq, Repr

/-- The bundle that booted (R411): its slot, none before one is selected; whether it is on trial, the attempt, and its manifest's SEQ,
VERSION and FLOOR. -/
structure Boot where
  slot : Option Nat := none
  trial : Bool := false
  attempt : Nat := 0
  seq : Nat := 0
  version : Nat := 0
  floor : Nat := 0
  deriving DecidableEq, Repr

/-- The answer of an SP command (R399): a status code of R463 and the payload. -/
structure SpRsp where
  status : Nat := 0
  data : List Byte := []
  deriving DecidableEq, Repr

/-- An ageing monitor as Macen last sampled it (R483, R484): its slack and its slack at calibration, the temperature, and the consecutive
samples below 25 ps, and below 15 ps with the guardband at 10. -/
structure Mon where
  slack : Int := 0
  boot : Int := 0
  tj : Int := 0
  low : Nat := 0
  lim : Nat := 0
  deriving DecidableEq, Repr

/-- A live core swap of a tile (R486 to R490): 0 none, 1 decided, 2 spare powering up, 3 requested, 4 moved and the old slot writing
back, 5 the old slot held for an array repair; the two slots; and why: 1 a threshold, 2 CORE_SWAP, 3 an array row. -/
structure Swap where
  phase : Nat := 0
  old : Nat := 0
  new : Nat := 0
  why : Nat := 0
  deriving DecidableEq, Repr

/-- A mailbox command as it was copied at its RING (R456 to R459), with its result once it has one: STATUS, DETAIL and payload. -/
structure MbxCmd where
  code : Nat := 0
  tag : Nat := 0
  payload : List Byte := []
  res : Option (Nat × Nat × List Byte) := none
  deriving DecidableEq, Repr

/-- An operation of a page (R460): its OP_ID, its command and request payload, whether its writes have been made, its final STATUS,
DETAIL and payload once they are known, and whether it is DONE. -/
structure MbxOp where
  id : Nat := 0
  code : Nat := 0
  payload : List Byte := []
  begun : Bool := false
  res : Option (Nat × Nat × List Byte) := none
  done : Bool := false
  deriving DecidableEq, Repr

/-- A mailbox page (R454 to R461), 18 being the sideband page: its request area, the command that runs, the response area's bytes once
DONE, its operations, its negotiated mask and the sideband's offset pointer. STATE and the rest of MBX_STATUS are in that register. -/
structure Page where
  req : Tbl Byte := []
  cur : Option MbxCmd := none
  rsp : List Byte := []
  ops : List MbxOp := []
  mask : Nat := 1
  ptr : Nat := 0
  deriving DecidableEq, Repr

/-- Macen beside its pages: restarts since the last system reset and when the last one was (DTIME plus 1), the next OP_ID, each
partition's idle policy in µs, each supply's guardband in steps of 5 mV, the monitors, the errors it counts (time and detail), the
repairs that are due (kind and place), the swaps, the core slots that failed, the repair-log entries to be burned, and the rows of each
array that spares replace, the L3 sets that a row repair holds out of use (tile × 8,192 + set, R491), and the bytes of the last SMBus Block
Read. -/
structure Macen where
  restarts : Nat := 0
  lastStart : Nat := 0
  nextOp : Nat := 1
  idle : Tbl Nat := []
  guards : Tbl Nat := []
  mons : Tbl Mon := []
  hist : Tbl (List (Nat × Nat)) := []
  due : List (Nat × Nat × Nat) := []
  swaps : Tbl Swap := []
  failed : Tbl Nat := []
  repairQ : List Nat := []
  rows : Tbl (List Nat) := []
  l3Busy : List Nat := []
  smb : List Byte := []
  deriving DecidableEq, Repr

/-- The Ladle (R525 to R527): every unit's shadow counters, by the keys of the counters; the ticks not yet gathered (partition, T, mask and
period), the staged records (partition, T, mask, period and entries), each partition's ticks without a record, when its EN was last
written 1 (DTIME plus 1), and the last tick (T plus 1). -/
structure Ladle where
  shadow : Tbl Nat := []
  waits : List (Nat × Nat × Nat × Nat) := []
  staged : List (Nat × Nat × Nat × Nat × List Nat) := []
  skipped : Tbl Nat := []
  since : Tbl Nat := []
  lastT : Nat := 0
  deriving DecidableEq, Repr

/-- The JTAG TAP (R495): the instruction selected, the data register that a capture would shift out, the result of the previous read
through DBGACC, the STATUS of the previous access (0 OK, 1 FAULT, 2 DENIED, 3 BUSY), the boundary cells, and whether EXTEST drives them. -/
structure Tap where
  ir : Nat := 1
  dr : Nat := 0x200965B7
  data : W := 0
  status : Nat := 0
  cells : List Bool := []
  driving : Bool := false
  deriving DecidableEq, Repr

/-- The debug module beside its registers: whether the ceiling has been written since the reset (R392, R496), the certificate buffer, the
certificate under verification on each port (0 JTAG, 1 mesh) and when each port's last VERIFY came (DTIME plus 1), the memory access
under way (its DBG_MEM_CTL and data, whether the session refuses it, and the tag index it uses), the answer of a register to it, the
partitions with a halted hart since the last release, the terminals' FIFOs (endpoint × 2 for TX, + 1 for RX), each hart's trace packets
dropped since its last LOST packet, and the TAP. -/
structure Dbg where
  ceilOn : Bool := false
  cert : Tbl Byte := []
  pend : Tbl (List Byte) := []
  lastVerify : Tbl Nat := []
  acc : Option (W × W × Bool × Option Nat) := none
  ans : Option (Nat × Nat) := none
  froze : Tbl Bool := []
  vt : Tbl (List Nat) := []
  lost : Tbl Nat := []
  tap : Tap := {}
  deriving DecidableEq, Repr

/-- The low-speed I/O (R551, R552): each UART's transmit FIFO, the character in its shifter, its receive FIFO (byte, and whether it had an
error) and the last character sent; and the levels that the board puts on the GPIO pins. -/
structure Lsio where
  tx : Tbl (List Nat) := []
  shift : Tbl (Option Nat) := []
  rx : Tbl (List (Nat × Bool)) := []
  last : Tbl (Option Nat) := []
  pin : Tbl Bool := []
  deriving DecidableEq, Repr

/-- Remote resets (R254): whether a command has verified and its reset is to follow, when the SP last took one (its DTIME plus 1), and the
answer that last came back here with the node it came from: 0 none, 1 accepted, 2 rejected. -/
structure Remote where
  accepted : Bool := false
  at_ : Nat := 0
  rspSrc : Nat := 0
  rsp : Nat := 0
  deriving DecidableEq, Repr

/-- The recovery window of the SP (R416, R417): whether the device is in RECOVERY_WAIT, the channel the straps select (0 recovery
port, 1 PCIe, 2 fabric), RCV_STATUS, RCV_CTL and the chunk data, and the slot the transfer writes. -/
structure Rcv where
  active : Bool := false
  chan : Nat := 0
  st : Nat := 0
  reason : Nat := 0
  off : Nat := 0
  len : Nat := 0
  data : Tbl Byte := []
  slot : Option Nat := none
  deriving DecidableEq, Repr

end Sys2Proof.Machine
end

