-- ==== Sys2Proof/Machine/State.lean ====
section
/-! DEFINITION. The state of the PX-96 as one block of plain data, its value right after reset, and the reasons a step
can stop. -/

namespace Sys2Proof.Machine

open Sys2Proof

/-- The response of the last register, buffer or mailbox read or write presented to the device: what its sender gets.
`status` is a mesh STATUS of R131 (0 OK, 1 TIMEOUT, 2 DOMAIN_OFF, 3 DENIED, 4 TARGET_ERROR) or 5, an access fault before
issue. -/
structure Rsp where
  data : W := 0
  status : Nat := 0
  deriving DecidableEq, Repr

/-- The whole device and the queue of commands that wait for it. -/
structure State where
  pending : List Instr := []
  -- the model's own counters: free values drawn, and the order in which lines were last used
  free : Nat := 0
  stamp : Nat := 0
  -- time and registers
  dtime : Nat := 0
  regs : Tbl (Tbl W) := []
  rsp : Rsp := {}
  -- cores, caches, homes and memory
  cores : Tbl Core := []
  mem : List Host.Cell := []
  memPoison : Tbl Bool := []
  chans : Tbl Chan := []
  mcRsp : McRsp := {}
  -- the shadow registers of the option page, and the straps as they were sampled (R396, R431, R439, R536)
  opt : Opt := {}
  bootSrc : Nat := 0
  recovSel : Bool := false
  l3 : Tbl (Option L3Line) := []
  depvb : Tbl (Option L3Line) := []
  sieve : Tbl SieveEnt := []
  trk : Tbl (Option Trk) := []
  fair : Tbl (Option Rq) := []
  slots : Tbl Slot := []
  agentReqs : Tbl (Option Req) := []
  -- requests whose initiator has timed out and that their home has still to take (R27)
  ghosts : List (Nat × Nat × ReqKind) := []
  -- the mesh
  mesh : Mesh := {}
  txns : Tbl Txn := []
  linkStopped : Tbl Bool := []
  lidHeld : Tbl Bool := []
  pfw : Bool := false
  -- worlds and partitions
  wtCache : Tbl (List (Nat × Line)) := []
  hartPart : Tbl Nat := []
  -- pairs, Spine and journal
  pairs : Tbl Pair := []
  spn : Tbl SpnStream := []
  spnChanged : List Nat := []
  jrnRes : Tbl (List StageRes) := []
  jrnRecs : Tbl (List JRec) := []
  pubs : Tbl Pub := []
  pubFlits : Tbl (List (List PubEnt)) := []
  repl : Tbl Repl := []
  -- the fabric: ports, packets delivered to node 42 with the port they came by (8 from the device itself), requests that
  -- await a response, and packets discarded for a reserved opcode
  ports : Tbl Port := []
  fabIn : List (Nat × Pkt) := []
  fabRem : Tbl (Option RemOp) := []
  fabDropped : Nat := 0
  remote : Remote := {}
  -- send queues: the next descriptor to send, and the completed ones that HEAD has not passed (R246)
  sqNext : Tbl Nat := []
  sqDone : Tbl (List Nat) := []
  -- time: the offset still to be slewed, ahead or behind, and the accumulated parts per million (R250)
  slew : Int := 0
  slewAcc : Nat := 0
  -- PCIe and the IOMMU: tags by controller × 1024 + tag, the last TLP and the last completion of each controller, ports held
  -- in hot reset, completions dropped as late, message interrupts discarded by a partition reset
  pcieTags : Tbl (Option PcieTag) := []
  pcieOut : Tbl Tlp := []
  pcieCpl : Tbl Cpl := []
  portReset : Tbl Bool := []
  pcieLate : Tbl Nat := []
  msiLost : Nat := 0
  ctxCache : List IoCtx := []
  ioTlb : List IoTlbEnt := []
  -- cipher clusters: the jobs of each ring (cluster × 32 + ring) in ring order, the ring whose turn is next, and the handles in
  -- each key cache
  jobs : Tbl (List Job) := []
  cphTurn : Tbl Nat := []
  cphKeys : Tbl (List Nat) := []
  -- the key store (R397, R398): live keys, the next handle never issued, and the freed handles in the order they were freed
  keys : Tbl (Option Key) := []
  keyNext : Nat := 1
  keyFreed : List Nat := []
  -- event router: wired inputs that are high, the pending entries in arbiter order, the wired sources in service at their
  -- targets, and the source of each hart's NMI-class event in service (R371 to R383)
  srcHigh : Tbl Bool := []
  pend : List PendEnt := []
  inServ : List PendEnt := []
  nmiTaken : Tbl Nat := []
  -- error collector and rate limits
  records : Tbl ErrRec := []
  limits : Tbl Nat := []
  withheld : Tbl Nat := []
  errorN : Bool := false
  -- reset and power: the level in progress (0 none, 1 system, 2 power-on), the release step reached (R434), rails out of their
  -- windows (VIN18, VIO18, VDDQ, VANA09, VBAK), the pins PWRGOOD, RESET_IN_N low, PROCHOT_N low, THERMTRIP_N low and READY
  rstLevel : Nat := 0
  relStep : Nat := 0
  railOut : Tbl Bool := []
  pwrgood : Bool := true
  resetInLow : Bool := false
  prochotLow : Bool := false
  thermtrip : Bool := false
  readyPin : Bool := false
  -- clocks and power: domains without PLL lock (core slots from 0, units of R357 from 200 on), regulators that have failed (R442), the
  -- P-state that each partition's change goes to (R445) and whether its cores are stopped for it (R50), package idle (R448), and the fraction of the RTC's next tick
  unlocked : Tbl Bool := []
  regFailed : Tbl Bool := []
  pGoal : Tbl Nat := []
  pStop : Tbl Bool := []
  pkgIdle : Bool := false
  rtcAcc : Nat := 0
  -- partition resets: the step in progress (0 none, 2 to be carried on, 3 flushing, 5 closing)
  partStep : Tbl Nat := []
  -- security processor: blown fuse bits (R393), the recovery window, and the step of the boot chain reached (R402)
  fuses : Tbl Bool := []
  rcv : Rcv := {}
  bootStep : Nat := 0
  -- both flash devices, flash f from f × 2^26 on, with the sealed key-store copies beside them (R397, R407); the KEK, whether the
  -- key store was erased since the last power-on reset, the fabric-manager key hashes, the bundle that booted, the last answer of
  -- an SP command, and the times of the last pieces of evidence (R391, R397, R399, R402, R421)
  flash : Tbl Byte := []
  ksCopy : Tbl KsCopy := []
  kek : List Byte := []
  ksErased : Bool := false
  fmKeys : List Byte := []
  boot : Boot := {}
  spRsp : SpRsp := {}
  evidence : List Nat := []
  -- Macen, its mailbox pages (R454 to R477), and the end-user bytes of each DIMM's SPD, 128 a DIMM (R493)
  mac : Macen := {}
  pages : Tbl Page := []
  spd : Tbl Byte := []
  -- trace: each hart's 4 KiB packet buffer (R512), and the snapshots of RS registers (R7)
  traceBuf : Tbl (List TracePkt) := []
  snaps : Tbl (Option W) := []
  -- counters (R516): value, and OVF at bit 48
  cnt : Tbl Nat := []
  ldl : Ladle := {}
  -- the debug module, the low-speed I/O, and the nanoseconds that each watchdog (17 is the trial watchdog) has counted
  -- of its present millisecond (R412, R452)
  dbg : Dbg := {}
  lsio : Lsio := {}
  wdogNs : Tbl Nat := []
  -- tenths of a core cycle that each core has run beyond its last whole one (R49)
  cycAcc : Tbl Nat := []
  deriving DecidableEq, Repr

/-- The device right after reset: every register at the value its section states, every table empty. -/
def State.reset : State := {}

/-- A step of this block never stops with a fault: the manual names every outcome of every command (R10). No constructor
is ever raised. -/
inductive Fault where
  /-- Raised by no meaning; safe. -/
  | none
  deriving DecidableEq, Repr

/-- Why a command has no meaning. -/
inductive Refusal where
  /-- Raised by `exec` for a command this model does not yet give a meaning; safe. -/
  | notModelled (mnemonic : String)
  deriving DecidableEq, Repr

end Sys2Proof.Machine
end

