-- ==== Sys2Proof/Machine/Ops.lean ====
section
/-! DEFINITION. The operations every family shares: registers and their fields, cores and harts, time and free values,
event sources, commit-group abort, coherent memory, error records and counters. -/

namespace Sys2Proof.Machine

open Sys2Proof

/-! ### Registers and fields -/

/-- The 64 bits of unit `i` of a register. -/
def State.rd (s : State) (r : RegId) (i : Nat) : W :=
  tget (r.resetVal i) (tget [] s.regs r.num) i

/-- Set the 64 bits of unit `i` of a register. -/
def State.wr (s : State) (r : RegId) (i : Nat) (v : W) : State :=
  { s with regs := tset [] s.regs r.num (tset (r.resetVal i) (tget [] s.regs r.num) i v) }

/-- A field of unit `i`. -/
def State.fld (s : State) (F : Fld) (i : Nat) : Nat := field (s.rd F.reg i) F.hi F.lo

/-- Set a field of unit `i`; the register's other bits keep their values. -/
def State.setFld (s : State) (F : Fld) (i v : Nat) : State :=
  s.wr F.reg i (putField (s.rd F.reg i) F.hi F.lo v)

/-- Add one to a field that saturates at its largest value. -/
def State.incSat (s : State) (F : Fld) (i : Nat) : State :=
  let v := s.fld F i
  if v + 1 < 2 ^ (F.hi + 1 - F.lo) then s.setFld F i (v + 1) else s

/-! ### Free values -/

/-- Draw a free value from a closed range. -/
def State.drawIn (s : State) (lo hi : Nat) : Nat :=
  lo + (Config.freeValue s.free).toNat % (hi + 1 - lo)

/-- Advance to the next free value. -/
def State.drawn (s : State) : State := { s with free := s.free + 1 }

/-! ### Fuses and the life cycle (R390, R393, R394) -/

/-- A fuse bit reads 1 once it is blown. -/
def State.fuse (s : State) (n : Nat) : Bool := tget false s.fuses n

/-- `n` fuse bits from `lo` on as a number, bit `lo` lowest. -/
def State.fuseField (s : State) (lo n : Nat) : Nat :=
  s.fuses.foldl (fun v e => if lo ≤ e.1 ∧ e.1 < lo + n ∧ e.2 then v + 2 ^ (e.1 - lo) else v) 0

/-- Whether a group of 8 fuses counts as blown: at least 5 of them are (R390). -/
def State.fuseGroup (s : State) (lo : Nat) : Bool :=
  decide (5 ≤ ((List.range 8).filter fun i => s.fuse (lo + i)).length)

/-- The life-cycle state, coded as SP_BOOT_STATUS.LC: 0 BLANK, 1 TEST, 2 DEVELOP, 3 PRODUCTION, 4 RMA, 5 SCRAPPED, named by the
highest blown group (R390). -/
def State.lc (s : State) : Nat := (List.range 5).foldl (fun v g => if s.fuseGroup (8 * g) then g + 1 else v) 0

/-- Whether a unit with a freeze bit is frozen (R506): any hart of the partition, or of the device (16), is halted. -/
def State.halted (s : State) (part : Nat) : Bool :=
  s.cores.any fun e => e.2.run == .halted && (part == 16 || e.2.part == part)

/-! ### The repair log and the errors that Macen counts (R479, R485) -/

/-- A repair-log entry's fields. -/
def logTyp (e : Nat) : Nat := e / 2 ^ 28 % 16
def logBits (e hi lo : Nat) : Nat := e / 2 ^ lo % 2 ^ (hi + 1 - lo)

/-- The lane that the log's last FAB_LANE entry of a port names (R479, R481). -/
def State.fabLane (s : State) (p : Nat) : Option Nat :=
  ((s.opt.log.filter fun e => logTyp e == 6 && logBits e 27 25 == p).getLast?).map fun e => logBits e 24 23

/-- Ask for a repair-log entry (R480). -/
def State.logRepair (s : State) (typ bits : Nat) : State :=
  { s with mac := { s.mac with repairQ := s.mac.repairQ ++ [typ * 2 ^ 28 + bits + 1] } }

/-- Count an error of a kind in a window of DTIME that slides (R485): the errors of that kind within it, this one last. -/
def State.note (s : State) (key window detail : Nat) : List (Nat × Nat) × State :=
  let l := ((tget [] s.mac.hist key).filter fun e => decide (s.dtime < e.1 + window)) ++ [(s.dtime, detail)]
  (l, { s with mac := { s.mac with hist := tset [] s.mac.hist key l } })

/-- Forget the errors of a kind once Macen has acted on them. -/
def State.forget (s : State) (key : Nat) : State := { s with mac := { s.mac with hist := tset [] s.mac.hist key [] } }

/-- A repair is due (R485): 1 an SRAM row (array, row), 2 a mesh wire (link, wire), 3 a DRAM row (channel, place), 4 a DRAM device
(channel, rank × 32 + device), 5 a core slot (core, why). -/
def State.setDue (s : State) (d : Nat × Nat × Nat) : State :=
  if s.mac.due.contains d then s else { s with mac := { s.mac with due := s.mac.due ++ [d] } }
def State.unDue (s : State) (d : Nat × Nat × Nat) : State := { s with mac := { s.mac with due := s.mac.due.erase d } }

/-- 24 hours and 1 hour of DTIME. -/
def day : Nat := 86400000000000
def hour : Nat := 3600000000000

/-! ### Floor plan (R11 to R13, R21) -/

/-- The node of tile `t` (R12). -/
def tileNode (t : Nat) : Nat := 8 * (1 + t / 6) + 1 + t % 6

/-- The node that serves channel `ch` (R12). -/
def chNode (ch : Nat) : Nat := let k := ch / 2; if k < 4 then 8 * (1 + k) else 8 * (k - 3) + 7

/-- The ring position of tile `t` (R13). -/
def tilePos (t : Nat) : Nat :=
  if t < 6 then 6 - t else if t < 12 then t + 1 else if t < 18 then 30 - t else t + 1

/-- The tile at a ring position, or none at an agent's stop (R13). -/
def posTile (p : Nat) : Option Nat :=
  if 1 ≤ p ∧ p ≤ 6 then some (6 - p) else if 7 ≤ p ∧ p ≤ 12 then some (p - 1)
  else if 13 ≤ p ∧ p ≤ 18 then some (30 - p) else if 19 ≤ p ∧ p ≤ 24 then some (p - 1) else none

/-- The node beside an agent's ring stop (R13). -/
def agentNode (p : Nat) : Nat := if p = 0 then 4 else if p = 25 then 46 else if p = 26 then 43 else 42

/-- The home tile of a line (R101). -/
def homeOf (line : Nat) : Nat :=
  let f := (line % 2 ^ 14) ^^^ ((line >>> 14) % 2 ^ 14) ^^^ ((line >>> 28) % 2 ^ 14)
  (f * 24) >>> 14

/-- A core slot's tile and slot number (R21). -/
def coreTile (c : Nat) : Nat := c / 5
def coreSlot (c : Nat) : Nat := c % 5
def tileCores (t : Nat) : List Nat := [5 * t, 5 * t + 1, 5 * t + 2, 5 * t + 3, 5 * t + 4]

/-! ### Cores and harts -/

/-- Core slot `c`, by physical core ID. -/
def State.core (s : State) (c : Nat) : Core := tget {} s.cores c

def State.setCore (s : State) (c : Nat) (k : Core) : State := { s with cores := tset {} s.cores c k }

/-- Apply `f` to core slot `c`. -/
def State.onCore (s : State) (c : Nat) (f : Core → Core) : State := s.setCore c (f (s.core c))

/-- The core slots that hold anything beyond their reset state. -/
def State.coreIds (s : State) : List Nat := s.cores.map (·.1)

/-- The state of slot `c` in its tile's TILE_CORE_MAP: 0 ENABLED, 1 SPARE, 2 RETIRED, 3 VOTING. -/
def State.slotState (s : State) (c : Nat) : Nat :=
  field (s.rd .TILE_CORE_MAP (coreTile c)) (12 * coreSlot c + 11) (12 * coreSlot c + 10)

/-- The hart that slot `c` holds; 0x7F when it holds no role. -/
def State.coreHart (s : State) (c : Nat) : Nat :=
  field (s.rd .TILE_CORE_MAP (coreTile c)) (12 * coreSlot c + 6) (12 * coreSlot c)

/-- Write slot `c`'s entry of TILE_CORE_MAP (R24: the whole map changes in one write). -/
def State.setSlot (s : State) (c st hart : Nat) : State :=
  let m := s.rd .TILE_CORE_MAP (coreTile c)
  s.wr .TILE_CORE_MAP (coreTile c)
    (putField (putField m (12 * coreSlot c + 11) (12 * coreSlot c + 10) st)
      (12 * coreSlot c + 6) (12 * coreSlot c) hart)

/-- The core slot that holds a hart. A hart never leaves its tile (R22, R23). -/
def State.hartCore (s : State) (h : Nat) : Option Nat :=
  (List.range 5).findSome? fun n =>
    let c := 5 * (h / 4) + n
    if s.coreHart c = h ∧ s.slotState c ≠ 2 then some c else none

/-- The partition of a hart: its WPC_OWNER entry as it was when the hart was last released (R362). -/
def State.hartPart1 (s : State) (h : Nat) : Nat := tget 0 s.hartPart h

/-- An integer register; x0 reads 0. -/
def Core.getX (k : Core) (r : Nat) : W := if r = 0 then 0 else tget 0 k.x r

/-- Write an integer register; x0 discards writes. -/
def Core.setX (k : Core) (r : Nat) (v : W) : Core := if r = 0 then k else { k with x := tset 0 k.x r v }

def Core.getF (k : Core) (r : Nat) : W := tget 0 k.f r
def Core.setF (k : Core) (r : Nat) (v : W) : Core := { k with f := tset 0 k.f r v }
def Core.getV (k : Core) (r : Nat) : BitVec 256 := tget 0 k.v r
def Core.setV (k : Core) (r : Nat) (v : BitVec 256) : Core := { k with v := tset 0 k.v r v }

/-- A standard CSR that needs no view of its own (a CSR the spec gives no reset value reads 0 until written). -/
def Core.getCsr (k : Core) (a : Nat) : W := tget 0 k.csr a
def Core.setCsr (k : Core) (a : Nat) (v : W) : Core := { k with csr := tset 0 k.csr a v }

/-! ### Counters (R516 to R522) -/

/-- Add `n` to a counter: bits [47:0] wrap, and OVF at bit 48 stays once set (R516). -/
def cntAdd (v n : Nat) : Nat :=
  let w := v % 2 ^ 48 + n
  w % 2 ^ 48 + 2 ^ 48 * (if 2 ^ 48 ≤ w then 1 else v / 2 ^ 48)

/-- The key of counter `k` (0 mcycle, 2 minstret, 3 to 8 mhpmcounter) of core `c`; block counters use unit × 8 + n. -/
def coreCntKey (c k : Nat) : Nat := 1024 + c * 16 + k

/-- A counted core event: each of mhpmcounter3 to 8 whose mhpmevent selects it, unless mcountinhibit stops it (R517). -/
def State.coreCount (s : State) (c ev : Nat) : State :=
  let k := s.core c
  let inh := k.getCsr 0x320
  let cnt := [3, 4, 5, 6, 7, 8].foldl (fun t n =>
    if (k.getCsr (0x320 + n)).toNat = ev ∧ bit inh n = false then
      tset 0 t (coreCntKey c n) (cntAdd (tget 0 t (coreCntKey c n)) 1) else t) s.cnt
  { s with cnt := cnt }

/-- minstret counts one retired instruction unless mcountinhibit.IR stops it. -/
def State.countInstret (s : State) (c : Nat) : State :=
  if bit ((s.core c).getCsr 0x320) 2 then s
  else { s with cnt := tset 0 s.cnt (coreCntKey c 2) (cntAdd (tget 0 s.cnt (coreCntKey c 2)) 1) }

/-- A counted event of a block's unit; `part` is the event's partition for an event marked (P) (R522). -/
def State.count (s : State) (unit ev : Nat) (part : Option Nat) (n : Nat) : State :=
  let cnt := [0, 1, 2, 3, 4, 5, 6, 7].foldl (fun t j =>
    let i := unit * 8 + j
    if s.fld CNT_CFG.EN i = 1 ∧ s.fld CNT_CFG.EVENT i = ev ∧
        (part.isNone ∨ s.fld CNT_CFG.PFILT i = 0 ∨ part = some (s.fld CNT_CFG.PARTITION i)) then
      tset 0 t i (cntAdd (tget 0 t i) n) else t) s.cnt
  { s with cnt := cnt }

/-- The block-counter unit of a tile, a channel, a port, the Spine, the journal engine, a cluster and a PCIe controller. -/
def cuTile (t : Nat) : Nat := t
def cuCh (ch : Nat) : Nat := 24 + ch
def cuPort (p : Nat) : Nat := 40 + p
def cuSpn : Nat := 48
def cuJrn : Nat := 49
def cuCph (k : Nat) : Nat := 50 + k
def cuPcie (c : Nat) : Nat := 52 + c

/-! ### Ownership (R353 to R357) -/

/-- The owner a WPC_OWNER entry names: none for SECURE, `some 16` for SHARED, `some p` for partition p. -/
def State.owner (s : State) (i : Nat) : Option Nat :=
  if s.fld WPC_OWNER.VALID i = 0 then none
  else if s.fld WPC_OWNER.KIND i = 1 then some (s.fld WPC_OWNER.PARTITION i)
  else if s.fld WPC_OWNER.KIND i = 2 then some 16 else none

/-- Whether an access with these tags passes an owner (R354). -/
def ownerPasses (o : Option Nat) (secure : Bool) (part : Nat) : Bool :=
  secure || o == some 16 || o == some part

/-- WPC_OWNER indices of a stream, a hart, a wired source and an aperture (R357). -/
def ixStream (n : Nat) : Nat := 128 + n
def ixHart (h : Nat) : Nat := 192 + h
def ixSrc (n : Nat) : Nat := 288 + n
def ixAper (n : Nat) : Nat := 2336 + n

/-- Whether a stream is assigned to the world and partition that a core runs in (R175). -/
def State.streamMine (s : State) (c n : Nat) : Bool :=
  if (s.core c).secure then (s.owner (ixStream n)).isNone else s.owner (ixStream n) == some (s.core c).part

/-- The partition a hart's WPC_OWNER entry names; an invalid entry gives partition 0. -/
def State.hartOwner (s : State) (h : Nat) : Nat :=
  if s.fld WPC_OWNER.VALID (ixHart h) = 0 then 0 else s.fld WPC_OWNER.PARTITION (ixHart h)

/-! ### Commit-group abort (R158, R160) -/

/-- The RETRY hint of an abort code (R158). -/
def abortRetry (code : Nat) : Nat :=
  if code = 0x01 ∨ code = 0x05 ∨ code = 0x06 ∨ code = 0x0A ∨ code = 0x0C ∨ code = 0x0D then 1 else 0

/-- Restore a checkpoint into a core (R153): the registers, fcsr and the vector CSRs. -/
def Core.restore (k : Core) (ck : Ckpt) : Core :=
  { k with x := ck.x, f := ck.f, v := ck.v,
           csr := [0x001, 0x002, 0x003, 0x008, 0x009, 0x00A, 0x00F, 0xC20, 0xC21].foldl
             (fun t a => tset 0 t a (tget 0 ck.csr a)) k.csr }

/-- The checkpoint of a core now (R153). -/
def Core.checkpoint (k : Core) : Ckpt :=
  { x := k.x, f := k.f, v := k.v, pc := k.pc,
    csr := [0x001, 0x002, 0x003, 0x008, 0x009, 0x00A, 0x00F, 0xC20, 0xC21].foldl
      (fun t a => tset 0 t a (tget 0 k.csr a)) [] }

/-- Whether an open group can still abort: until the reply that makes it visible (R163 step 4). -/
def Group.abortable (g : Group) : Bool :=
  match g.phase with
  | .flipping _ _ => false
  | _ => true

/-- Whether the group's commit request has left the core. -/
def Group.requestSent (g : Group) : Bool :=
  match g.phase with
  | .requested => true
  | .flipping _ _ => true
  | _ => false

/-- The index of the pair that a bound core belongs to: pair key tile × 2 + n. -/
def State.pairOf (s : State) (c : Nat) : Option Nat :=
  [coreTile c * 2, coreTile c * 2 + 1].find? fun i =>
    let p := tget {} s.pairs i
    p.bound && (p.leader == coreSlot c || p.trailer == coreSlot c)

/-- The CSRs of the register table that an instruction may write without serialising, by CSR number. -/
def ckRegs : List (Nat × RegId × Nat) :=
  [(0x802, .CG_LASTSEQ, 0), (0x803, .CG_DEPSEL, 0), (0x5C8, .CG_CFG, 0)] ++
  (List.range 8).map fun n => (0x5C0 + n, .CG_BIND, n)

/-- The unit of a core's CSR in the register table: CG_BIND holds eight per core. -/
def csrUnit (r : RegId) (c n : Nat) : Nat := if r = .CG_BIND then c * 8 + n else c

/-- The checkpoint of an interval of a checked pair: a core's checkpoint, with every CSR that an instruction may write
without serialising (R205). -/
def State.ivalCk (s : State) (c : Nat) : Ckpt :=
  let k := s.core c
  { k.checkpoint with csr := ckRegs.foldl (fun t e => tset 0 t e.1 (s.rd e.2.1 (csrUnit e.2.1 c e.2.2))) k.csr }

/-- Restore an interval's checkpoint into a core. -/
def State.ivalRestore (s : State) (c : Nat) (ck : Ckpt) : State :=
  let s1 := ckRegs.foldl (fun s e => s.wr e.2.1 (csrUnit e.2.1 c e.2.2) (tget 0 ck.csr e.1)) s
  s1.onCore c fun k => { k with x := ck.x, f := ck.f, v := ck.v, pc := ck.pc,
                                csr := ck.csr.filter fun e => !ckRegs.any fun r => r.1 == e.1 }

/-- Open a new interval of a pair at its leader's present state (R205). -/
def State.openIval (s : State) (i : Nat) : State :=
  let p := tget {} s.pairs i
  let l := i / 2 * 5 + p.leader
  let cur : Ival := { id := p.cur.id + 1, startPc := (s.core l).pc, ck := s.ivalCk l }
  { s with pairs := tset {} s.pairs i { p with cur := cur } }

/-- Whether a core is the trailer of a bound pair: it retires nothing under its own commands (R198, R202). -/
def State.isTrailer (s : State) (c : Nat) : Bool :=
  match s.pairOf c with
  | some i => (tget {} s.pairs i).trailer == coreSlot c
  | none => false

/-- The bound pair that a core leads. -/
def State.ledPair (s : State) (c : Nat) : Option Nat :=
  match s.pairOf c with
  | some i => if (tget {} s.pairs i).leader = coreSlot c then some i else none
  | none => none

/-- Append an entry to the pair's input log (R203, R204); outside a pair nothing is sent. -/
def State.pairLog (s : State) (c typ : Nat) (value : W) : State :=
  match s.ledPair c with
  | none => s
  | some i =>
    let p := tget {} s.pairs i
    { s with pairs := tset {} s.pairs i { p with log := p.log ++ [{ typ := typ, pos := p.cur.count, value := value, ival := p.cur.id }] } }

/-- Abort the open commit group of core `c` (R160): squash, discard the write-set buffer and the group's buffered stores,
return its staging reservation or void its number, restore the checkpoint, write CG_STATUS, CG_ABORT_PC and the rd of
CG.BEGIN, clear the reservation and resume at the fallback; a pair logs CG_STATUS for the trailer (R203). With code PARTITION_RESET the core's own reset stands in
place of the last steps, and the event is counted at the tile. Without an abortable group nothing happens. -/
def State.abortGroup (s : State) (c code cause user : Nat) : State :=
  let k := s.core c
  match k.group with
  | none => s
  | some g =>
    if g.abortable = false then s
    else
      let keep := (tget [] s.jrnRes g.stream).filter fun r => r.core ≠ c ∨ r.used
      let s1 : State := if code = 0x0A then s.onCore c fun k => { k with cancel := some g.stream }
        else { s with jrnRes := tset [] s.jrnRes g.stream keep }
      let k := s1.core c
      let sb := k.sb.filter fun e => !e.grp
      if code = 0x0E then
        ((s1.setCore c { k.squash with group := none, sb := sb, voidOut := k.voidOut || g.requestSent, resv := none })
          |>.count (cuTile (coreTile c)) 0x0C (some k.part) 1)
      else
        let st := s1.rd .CG_STATUS c
        let st' := putField (putField (putField (putField (putField (putField st 63 63 0) 60 60 (b2n g.requestSent))
          31 24 (if code = 0x04 then cause else 0)) 16 16 (abortRetry code))
          15 8 (if code = 0x09 then user else 0)) 7 0 code
        let k' := ({ k.squash with group := none, sb := sb, voidOut := k.voidOut || g.requestSent,
                                   resv := none, pc := g.fallback }.restore g.ck).setX g.beginRd
                    (BitVec.ofNat 64 (field st' 31 0))
        let s2 := ((s1.setCore c k').wr .CG_STATUS c st').wr .CG_ABORT_PC c k.pc
        let s3 := s2.coreCount c 0x0E
        match s3.pairOf c with
        | some i => (s3.pairLog c 9 (BitVec.ofNat 64 (field st' 31 0))).openIval i
        | none => s3

/-- Clear every reservation on a line except one core's (R90). -/
def State.clearResv (s : State) (line : Nat) (except : Option Nat) : State :=
  s.coreIds.foldl (fun s c =>
    match (s.core c).resv with
    | some r => if r.line = line ∧ except ≠ some c then s.onCore c fun k => { k with resv := none } else s
    | none => s) s

/-- Whether a line is in the open group's write set, or its read set, and the group can still abort. -/
def Core.inWriteSet (k : Core) (line : Nat) : Bool :=
  match k.group with
  | some g => g.abortable && ((tget none g.writes line).isSome || k.sb.any fun e => e.grp && e.pa / 64 == line)
  | none => false

def Core.inReadSet (k : Core) (line : Nat) : Bool :=
  match k.group with
  | some g => g.abortable && g.reads.contains line
  | none => false

/-- Whether the core's L2 is flipping a committing group that wrote the line (R123). -/
def Core.flippingLine (k : Core) (line : Nat) : Bool :=
  match k.group with
  | some g => (!g.abortable) && (tget none g.writes line).isSome
  | none => false

/-! ### Event router (R371 to R383) -/

/-- The two pair-stopped sources of each tile are machine-check-class (R378). -/
def isMcheck (src : Nat) : Bool := decide (src < 384) && (src % 16 == 10 || src % 16 == 11)

/-- The priority at which an event of programmed priority `p` is held at a target (R373). -/
def State.heldPrio (s : State) (hart page p : Nat) : Nat :=
  if page = 16 then Nat.min p 63
  else Nat.max p (s.fld WPC_PART_CFG.PRIO_FLOOR (s.hartPart1 hart))

/-- Index of target `t` of hart `h`. -/
def tgtIx (h t : Nat) : Nat := h * 17 + t

/-- Step 1 of a partition reset discards the events of its harts and sources until step 6 (R383). -/
def State.discards (s : State) (hart : Nat) (src : Option Nat) : Bool :=
  (s.fld WPC_PART_CTL.STATE (s.hartPart1 hart) == 1) ||
  (match src with
   | some n => match s.owner (ixSrc n) with
     | some p => decide (p < 16) && s.fld WPC_PART_CTL.STATE p == 1
     | none => false
   | none => false)

/-- Whether a target is signalled: it holds a pending entry below its threshold (R376). -/
def State.signalled (s : State) (h t : Nat) : Bool :=
  s.pend.any fun e => e.hart == h && e.page == t && decide (e.prio < s.fld EVR_TGT_THRESH.THRESH (tgtIx h t))

/-- Whether an entry at the secure target is an NMI-class event (R377). -/
def State.isNmi (s : State) (e : PendEnt) : Bool :=
  e.page == 16 && decide (e.ident < 2048) && s.fld EVR_SRC_CFG.NMI e.ident == 1

/-- Whether a secure target holds a signalled entry that is taken as an external interrupt and not as an NMI-class event. -/
def State.plainSecure (s : State) (h : Nat) : Bool :=
  s.pend.any fun e => e.hart == h && e.page == 16 && !s.isNmi e && decide (e.prio < s.fld EVR_TGT_THRESH.THRESH (tgtIx h 16))

/-- What a newly pending event does to its hart's core at once: a secure-band interrupt ends an open commit group with
WORLD_SWITCH, and a normal-band one starts its deferral (R161, R162). -/
def State.deliver (s : State) (h t : Nat) : State :=
  if s.signalled h t = false then s
  else
    match s.hartCore h with
    | none => s
    | some c =>
      match (s.core c).group with
      | none => s
      | some g =>
        if t = 16 then
          if g.requestSent then s else s.abortGroup c 0x0C 0 0
        else
          match g.deferAt with
          | some _ => s
          | none => s.onCore c fun k => { k with group := some { g with deferAt := some s.dtime } }

/-- A wired source's input rises: it becomes pending at the target of its route, unless it is disabled, already pending,
in service as a level source, or discarded by a partition reset (R371, R378, R382, R383, R388). -/
def State.raise (s : State) (src : Nat) : State :=
  let i := src
  if s.fld EVR_SRC_CFG.EN i = 0 ∧ isMcheck src = false then s
  else if s.pend.any (fun e => e.ident == src) then s
  else if s.fld EVR_SRC_CFG.EDGE i = 0 ∧ s.inServ.any (fun e => e.ident == src) then s
  else
    let h := s.fld EVR_SRC_CFG.HART i
    let t := s.fld EVR_SRC_CFG.PAGE i
    if s.discards h (some src) then s
    else
      let e : PendEnt := { hart := h, page := t, prio := s.heldPrio h t (s.fld EVR_SRC_CFG.PRIO i), ident := src }
      let s1 : State := { s with pend := s.pend ++ [e] }
      let s2 := if src = 1600 then s1.wr .EVR_PFW_TIME 0 (BitVec.ofNat 64 s.dtime) else s1
      s2.deliver h t

/-- A message interrupt sets the message bit of its priority at its target, or merges with it (R373, R374). -/
def State.message (s : State) (h t p : Nat) : State :=
  let q := s.heldPrio h t p
  if s.discards h none then s
  else if s.pend.any (fun e => e.hart == h && e.page == t && e.ident == 0x800 + q) then s
  else
    ({ s with pend := s.pend ++ [{ hart := h, page := t, prio := q, ident := 0x800 + q }] } : State).deliver h t

/-! ### Memory (R14 to R16, R287 to R293, R299) -/

/-- The DRAM window that holds an address: the lowest-numbered valid MCT_DECODE window (R287). -/
def State.window (s : State) (pa : Nat) : Option Nat :=
  (List.range 8).find? fun n =>
    s.fld MCT_DECODE.VALID n = 1 ∧ s.fld MCT_DECODE.BASE_GIB n * 2 ^ 30 ≤ pa ∧
    pa < s.fld MCT_DECODE.LIMIT_GIB n * 2 ^ 30

/-- The set bits of a 16-bit channel mask, ascending. -/
def maskBits (m : Nat) : List Nat := (List.range 16).filter fun n => m.testBit n

/-- The pairs (2p, 2p + 1) whose channels are both in a mask. -/
def maskPairs (m : Nat) : List Nat := (List.range 8).filter fun p => m.testBit (2 * p) && m.testBit (2 * p + 1)

/-- Where a DRAM address lies (R287): its channel, its partner when the window is mirrored, and its channel address. -/
def State.place (s : State) (pa : Nat) : Option (Nat × Option Nat × Nat) :=
  match s.window pa with
  | none => none
  | some n =>
    let o := pa - s.fld MCT_DECODE.BASE_GIB n * 2 ^ 30
    let g := o / 4096
    let mirror := s.fld MCT_DECODE.MIRROR n = 1
    let ways := if mirror then maskPairs (s.fld MCT_DECODE.CH_MASK n) else maskBits (s.fld MCT_DECODE.CH_MASK n)
    let k := Nat.log2 ways.length
    let w := (g ^^^ (g >>> 8) ^^^ (g >>> 16)) % 2 ^ k
    let ca := s.fld MCT_DECODE.CHOFF_GIB n * 2 ^ 30 + (g >>> k) * 4096 + o % 4096
    match ways[w]? with
    | none => none
    | some u => if mirror then some (2 * u, some (2 * u + 1), ca) else some (u, none, ca)

/-- Whether an address is installed DRAM. -/
def State.isDram (s : State) (pa : Nat) : Bool := decide (pa < 0x80000000000) && (s.window pa).isSome

/-- Whether an address lies in a mirrored window (R194, R264). -/
def State.isMirrored (s : State) (pa : Nat) : Bool :=
  match s.window pa with
  | some n => s.fld MCT_DECODE.MIRROR n == 1
  | none => false

/-- Whether a channel has failed (R299). -/
def State.chFailed (s : State) (ch : Nat) : Bool := s.fld MCT_CH_STATUS.STATE ch == 4

/-- What a request to a channel meets (R147, R299): TARGET_ERROR where the channel has failed, DOMAIN_OFF where its section of its stop is
not OPEN. A failed channel whose section is closed as well answers as a failed one (DEDUCED, log 41). -/
def State.chStatus (s : State) (ch : Nat) : Nat :=
  if s.chFailed ch then 4 else if s.fld LID_SECTION.STATE (chNode ch * 5 + ch % 2) = 0 then 0 else 2

/-- The mesh STATUS that a read or write of a line at the memory controllers gets: an error where every copy's channel answers with one
(R147, R299). -/
def State.memStatus (s : State) (line : Nat) : Nat :=
  match s.place (line * 64) with
  | some (ch, none, _) => s.chStatus ch
  | some (ch, some ch2, _) => if s.chStatus ch = 0 ∨ s.chStatus ch2 = 0 then 0 else Nat.min (s.chStatus ch) (s.chStatus ch2)
  | none => 4

/-- One byte of DRAM; memory that nothing has written holds the zeros of R285. -/
def memByte (m : List Host.Cell) (a : Nat) : Byte := tget 0 m a

/-- Write one byte of DRAM. -/
def memSetByte (m : List Host.Cell) (a : Nat) (b : Byte) : List Host.Cell := tset 0 m a b

/-- The canonical form of memory: addresses strictly rising, and no byte listed that equals what an unlisted one reads. -/
abbrev Memory.wf (m : List Host.Cell) : Bool := twf (0 : Byte) m

/-- Write a list of bytes from an address on. -/
def memSetBytes : List Host.Cell → Nat → List Byte → List Host.Cell
  | m, _, [] => m
  | m, a, b :: bs => memSetBytes (memSetByte m a b) (a + 1) bs

/-- `n` bytes from an address on. -/
def memGetBytes (m : List Host.Cell) (a : Nat) : Nat → List Byte
  | 0 => []
  | n + 1 => memByte m a :: memGetBytes m (a + 1) n

/-- The line that 64 bytes spell. -/
def lineOfBytes (bs : List Byte) : Line := BitVec.ofNat 512 (ofLeBytes bs)

/-- The bytes `[off, off + n)` of a line, as a number. -/
def lineGet (d : Line) (off n : Nat) : Nat := (d.toNat >>> (8 * off)) % 2 ^ (8 * n)

/-- A line with bytes `[off, off + n)` replaced. -/
def lineSet (d : Line) (off n v : Nat) : Line :=
  let m : Line := (BitVec.ofNat 512 (2 ^ (8 * n) - 1)) <<< (8 * off)
  (d &&& ~~~m) ||| ((BitVec.ofNat 512 (v % 2 ^ (8 * n))) <<< (8 * off))

/-- A line merged with another under a byte mask of 64 bits. -/
def lineMerge (old new : Line) (mask : Nat) : Line :=
  (List.range 64).foldl (fun d i => if mask.testBit i then lineSet d i 1 (lineGet new i 1) else d) old

/-- The line as DRAM holds it (R98, R292). -/
def State.dramLine (s : State) (line : Nat) : LineData :=
  { data := lineOfBytes (memGetBytes s.mem (line * 64) 64), poison := tget false s.memPoison line }

/-- Write a line into DRAM, or discard it where every copy's channel has failed (R292, R299). -/
def State.dramWrite (s : State) (line : Nat) (d : Line) (poison : Bool) : State :=
  if s.memStatus line = 0 then
    { s with mem := memSetBytes s.mem (line * 64) (leBytes 64 d.toNat),
             memPoison := tset false s.memPoison line poison }
  else s

/-- The published copies that a destination keeps (R185): destinations 0 to 23 are the tiles, then nodes 42, 43, 44, 46. -/
def State.pub (s : State) (dest stream : Nat) : Pub := tget {} s.pubs (dest * 64 + stream)

/-- Expand an L3's truncated tag with a home's copies of W and A (R126). -/
def State.expandTag (s : State) (home : Nat) (t : Option Tag) : Option Tag :=
  match t with
  | none => none
  | some t =>
    let p := s.pub home t.stream
    let base := p.w + 1
    let n := base + (t.seq + 4096 - base % 4096) % 4096
    if n ≤ p.a then some { stream := t.stream, seq := n } else none

/-- What the home itself can supply for a line: its dependency victim buffer, its L3 slice, or DRAM (R107, R126, R127). -/
def State.homeData (s : State) (line : Nat) : LineData :=
  match tget none s.depvb line with
  | some l => { data := l.data, poison := l.poison, tag := s.expandTag (homeOf line) l.tag }
  | none =>
    match tget none s.l3 line with
    | some l => { data := l.data, poison := l.poison, tag := s.expandTag (homeOf line) l.tag }
    | none => s.dramLine line

/-- The data of a line that an owner has given up and that is on its way to the next one: the DATA of an ownership request that has not
reached its requester (R105). -/
def Req.carried (r : Req) : Option LineData :=
  if r.kind = .rdOwn ∨ r.kind = .upgrade then r.data else none

/-- The owner's copy of a line: in a private L2, in a writeback buffer whose data the home has not taken, or on its way to its new owner
(R105, R106, R121). -/
def State.ownerOf (s : State) (line : Nat) : Option (Nat × LineData) :=
  match s.coreIds.findSome? (fun c =>
      match tget none (s.core c).l2 line with
      | some l => if l.st = .s then none else some (c, l.d)
      | none => none) with
  | some o => some o
  | none =>
    match s.coreIds.findSome? (fun c => ((tget none (s.core c).reqs line).bind Req.carried).map fun d => (c, d)) with
    | some o => some o
    | none => s.coreIds.findSome? fun c =>
        match tget none (s.core c).wb line with
        | some w => if w.dirty && !w.disc && w.acked == 0 then some (c, w.d) else none
        | none => none

/-- The current committed value of a line, wherever it is. -/
def State.curLine (s : State) (line : Nat) : LineData :=
  match s.ownerOf line with
  | some (_, d) => d
  | none => s.homeData line

/-- `n` current bytes at a physical address, least significant first; they may cross lines. -/
def State.curBytes (s : State) (pa : Nat) : Nat → List Byte
  | 0 => []
  | n + 1 => BitVec.ofNat 8 (lineGet (s.curLine (pa / 64)).data (pa % 64) 1) :: s.curBytes (pa + 1) n

/-- `n` current bytes at a physical address as a number. -/
def State.curNat (s : State) (pa n : Nat) : Nat := ofLeBytes (s.curBytes pa n)

/-- The ways of an L3 set that a world's fills use (R99, R360). -/
def State.l3Ways (s : State) (secure : Bool) : Nat :=
  if secure then s.fld WPC_CFG.SECURE_WAYS 0 else 16 - s.fld WPC_CFG.SECURE_WAYS 0

/-- Whether a line's L3 set is out of use for a row repair (R491). -/
def State.l3Held (s : State) (line : Nat) : Bool := s.mac.l3Busy.contains (homeOf line * 8192 + line % 8192)

/-- Put a tagged line into its home's 64-entry dependency victim buffer, if it has room (R127). -/
def State.depvbPut (s : State) (line : Nat) (l : L3Line) : Option State :=
  if ((s.depvb.filter fun e => homeOf e.1 == homeOf line).length < 64) ∨ (tget none s.depvb line).isSome then
    some { s with depvb := tset none s.depvb line (some l) }
  else none

/-- Whether a home's line carries data that a fence has lost: its stream is fenced and its tag names a number above the loss point (R189). -/
def State.tagLost (s : State) (home : Nat) (t : Option Tag) : Bool :=
  match s.expandTag home t with
  | some t => (s.pub home t.stream).fenced && decide ((s.pub home t.stream).w < t.seq)
  | none => false

/-- The lines of a line's L3 set that one world's ways hold. The spec gives only the number of sets: which one a line maps to, its line
number modulo 8,192, is a DESIGN CHOICE (log 26). -/
def State.l3Set (s : State) (line : Nat) (secure : Bool) : Tbl (Option L3Line) :=
  s.l3.filter fun e => e.1 != line && homeOf e.1 == homeOf line && e.1 % 8192 == line % 8192 &&
    (match e.2 with | some x => x.secure == secure | none => false)

/-- A victim leaves the L3 (R98, R127, R189): a dirty untagged line is written to DRAM, one that a fence has lost with the poison pattern,
and a tagged line goes to the dependency victim buffer; none where that is full. -/
def State.l3Evict (s : State) (vl : Nat) (x : L3Line) : Option State :=
  let out := fun (s : State) => ({ s with l3 := tset none s.l3 vl none } : State)
  if s.tagLost (homeOf vl) x.tag then some (out (s.dramWrite vl x.data true))
  else if (s.expandTag (homeOf vl) x.tag).isNone then some (out (if x.dirty then s.dramWrite vl x.data x.poison else s))
  else (s.depvbPut vl x).map out

/-- Put a line into its home's L3 slice (R98, R99, R127, R360). A line that the slice holds already stays in its way, unless the fill
belongs to the other world's ways. A full set of its world's ways gives up an untagged line, which re-reference prediction chooses (a free
value); where every way holds a tagged line, a dirty untagged line moves one of them to the dependency victim buffer, and anything else is
not allocated. With no way for the world, or in a set that a row repair holds (R491), nothing is allocated. -/
def State.l3Alloc (s : State) (line : Nat) (l : L3Line) : Option State :=
  let put := fun (s : State) =>
    ({ s with l3 := tset none s.l3 line (some { l with stamp := s.stamp }), stamp := s.stamp + 1,
              depvb := tset none s.depvb line none } : State)
  let here : Bool := match tget none s.l3 line with | some x => x.secure == l.secure | none => false
  let set := s.l3Set line l.secure
  if s.l3Ways l.secure = 0 ∨ s.l3Held line then none
  else if here = true ∨ set.length < s.l3Ways l.secure then some (put s)
  else
    let free := set.filter fun e => match e.2 with
      | some x => (s.expandTag (homeOf line) x.tag).isNone || s.tagLost (homeOf line) x.tag
      | none => false
    match (if free.isEmpty ∧ l.dirty ∧ l.tag.isNone then set else free)[s.drawIn 0 (free.length - 1)]? with
    | some (vl, some x) => (s.drawn.l3Evict vl x).map put
    | _ => none

/-- Put a dirty line where its home keeps it: into L3, a tagged one that cannot allocate into the dependency victim buffer, and an untagged
one straight into DRAM. A tagged line is never written to DRAM (R127): an agent's write that finds the buffer full waits in it beyond its 64
entries (DESIGN CHOICE, log 27: the home would NAK the agent until there is room). -/
def State.l3Put (s : State) (line : Nat) (l : L3Line) : State :=
  match s.l3Alloc line l with
  | some s => s
  | none =>
    let s1 : State := { s with l3 := tset none s.l3 line none }
    if s.tagLost (homeOf line) l.tag then { s1.dramWrite line l.data true with depvb := tset none s.depvb line none }
    else if l.tag.isSome then { s1 with depvb := tset none s.depvb line (some l) }
    else { s1.dramWrite line l.data l.poison with depvb := tset none s.depvb line none }

/-- Finish the visibility window of a core's committing group (R163 step 4): the speculative values enter the data array
in state M with the durability tag (stream, g), the group closes, its number is recorded, and CG.END goes on to step 6. The written lines go into the journal record. -/
def State.finishFlip (s : State) (c : Nat) : State :=
  let k := s.core c
  match k.group with
  | none => s
  | some gr =>
    match gr.phase with
    | .flipping g lost =>
      let tag : Tag := { stream := gr.stream, seq := g }
      let l2 := gr.writes.foldl (fun t e =>
        match e.2, tget none t e.1 with
        | some (d, m), some l =>
          let full := m % 2 ^ 64 == 2 ^ 64 - 1
          tset none t e.1 (some { st := .m, d := { data := lineMerge l.d.data d m, poison := l.d.poison && !full, tag := some tag } })
        | some (d, _), none => tset none t e.1 (some { st := .m, d := { data := d, poison := false, tag := some tag } })
        | none, _ => t) k.l2
      let lines := gr.writes.filterMap fun e => e.2.map fun v => (e.1, v.2, v.1)
      let lost := lost || ((s.pub (coreTile c) gr.stream).fenced && decide ((s.pub (coreTile c) gr.stream).w < g))
      let recs := (tget [] s.jrnRecs gr.stream).map fun r =>
        if r.seq = g ∧ r.core = c ∧ r.typ = 1 then { r with lines := lines } else r
      let old := tget {} k.deps gr.stream
      let dep : Dep := if lost then { old with lost := true } else { old with seq := Nat.max old.seq g }
      let k1 : Core := { k with l2 := l2, group := none, resv := none, deps := tset {} k.deps gr.stream dep }
      let s1 : State := { s with jrnRecs := tset [] s.jrnRecs gr.stream recs }
      let s2 := (s1.wr .CG_LASTSEQ c (BitVec.ofNat 64 g)).setFld CG_STATUS.ACTIVE c 0
      let s3 := if lost then ((s2.coreCount c 0x0D).setFld CG_STATUS.LOST c 1).raise (16 * coreTile c + 5 + coreSlot c)
        else s2.coreCount c 0x0D
      let w : CgWait := { g := g, stream := gr.stream, rd := gr.endRd, lost := lost, early := gr.early }
      let w : CgWait := { w with len := gr.endLen, deps := gr.deps }
      s3.setCore c { k1 with cgWait := some w }
    | _ => s

/-- Every committing group that is flipping the line finishes first (a DEFER_RSP answers from the committed data, R123). -/
def State.settleFlips (s : State) (line : Nat) : State :=
  s.coreIds.foldl (fun s c => if (s.core c).flippingLine line then s.finishFlip c else s) s

/-- A read of a line's current value by an agent that keeps no copy (RD_ONCE): a group whose write set holds the line
aborts with CONFLICT (R107, R122). -/
def State.agentRead (s : State) (line : Nat) : State :=
  let s := s.settleFlips line
  s.coreIds.foldl (fun s c => if (s.core c).inWriteSet line then s.abortGroup c 0x01 0 0 else s) s

/-- A request of a core for a line that an agent's access has overtaken at the home: what had been granted or supplied and has not been
installed is taken back, and the request is NAKed (R103). A request that brings no line keeps its answer. -/
def Req.overtaken (r : Req) : Req :=
  match r.kind with
  | .rdShared | .rdOwn | .upgrade =>
    if r.comp.isSome then { r with comp := none, compHeld := false, noData := false, data := none, dataHeld := false,
                                   accepted := false, nakIn := true }
    else { r with data := none, dataHeld := false }
  | _ => r

/-- Remove every private copy of a line, as SNP_OWN or SNP_INV does at every stop: groups whose sets hold it abort, reservations on it
clear. An agent's access that this model performs in one step stands, at the line's home, after every hold window of the line (the NAKs of
R112 and R124 have been waited out) and before every request whose line has not been installed: DESIGN CHOICE (log 28), one of the orders
that the home's arbiter may choose (R102). -/
def State.dropCopies (s : State) (line : Nat) : State :=
  let s := s.settleFlips line
  let s := s.coreIds.foldl (fun s c =>
    if (s.core c).inWriteSet line || (s.core c).inReadSet line then s.abortGroup c 0x01 0 0 else s) s
  let s := s.clearResv line none
  let s := s.coreIds.foldl (fun s c =>
    s.onCore c fun k => { k.staleLoads line with
      l2 := tset none k.l2 line none, l1d := k.l1d.filter (· ≠ line), l1i := k.l1i.filter fun e => e.1 != line,
      lrWin := match k.lrWin with | some (l, n) => if l = line then some (l, 2) else some (l, n) | none => none,
      wb := match tget none k.wb line with
        | some w => tset none k.wb line (some { w with supplied := true, disc := true })
        | none => k.wb,
      reqs := match tget none k.reqs line with
        | some r => tset none k.reqs line (some r.overtaken)
        | none => k.reqs }) s
  { s with sieve := tset {} s.sieve line {} }

/-- A write of a line by an agent through the line's home (R107): every copy is invalidated. A full line (WR_LINE) is
written into L3 without a durability tag; a partial write (RD_OWN, merge, writeback) leaves the tag in place (R320, R469). -/
def State.agentWrite (s : State) (line : Nat) (d : Line) (mask : Nat) (secure : Bool) : State :=
  let full := mask % 2 ^ 64 = 2 ^ 64 - 1
  let cur := s.curLine line
  let s1 := s.dropCopies line
  let d' := if full then d else lineMerge cur.data d mask
  let tag := if full then none else cur.tag.map fun t => { t with seq := t.seq % 4096 }
  let s2 : State := { s1 with depvb := tset none s1.depvb line none }
  s2.l3Put line { data := d', dirty := true, poison := if full then false else cur.poison, tag := tag, secure := secure }

/-- Write `n` bytes at an address through the homes of the lines they lie in, by an agent. -/
def State.agentWriteBytes (s : State) (pa : Nat) (bs : List Byte) (secure : Bool) : State :=
  let off := pa % 64
  let first := bs.take (64 - off)
  let n := first.length
  let s1 := if n = 0 then s else
    s.agentWrite (pa / 64) (lineSet 0 off n (ofLeBytes first)) ((2 ^ n - 1) * 2 ^ off) secure
  let rest := bs.drop (64 - off)
  (List.range (rest.length / 64 + 1)).foldl (fun s j =>
    let chunk := (rest.drop (64 * j)).take 64
    if chunk.length = 0 then s
    else s.agentWrite (pa / 64 + 1 + j) (lineSet 0 0 chunk.length (ofLeBytes chunk)) (2 ^ chunk.length - 1) secure) s1

/-! ### Error records (R468, R469) -/

/-- The four 64-bit words of a record (R468). -/
def ErrRec.word (r : ErrRec) (w : Nat) : W :=
  match w with
  | 0 => BitVec.ofNat 64 r.seq
  | 1 => BitVec.ofNat 64 r.dtime
  | 2 => BitVec.ofNat 64 (r.source + 2 ^ 8 * r.unit + 2 ^ 16 * (r.cls * 2 ^ 14 + r.code) + 2 ^ 32 * r.supp)
  | _ => BitVec.ofNat 64 r.addr

/-- The 32 bytes of a record. -/
def ErrRec.bytes (r : ErrRec) : List Byte :=
  leBytes 8 (r.word 0).toNat ++ leBytes 8 (r.word 1).toNat ++ leBytes 8 (r.word 2).toNat ++ leBytes 8 (r.word 3).toNat

/-- The key under which a stop's rate limit counts the records it withholds (R468 SUPPRESSED). -/
def suppKey (source unit code : Nat) : Nat := (source * 256 + unit) * 4096 + code

/-- The collector's copy of a record into the secure ring (R469), or its refusal when the address is not installed DRAM. -/
def State.ringWrite (s : State) (r : ErrRec) : State :=
  if s.fld ERC_RING_CFG.EN 0 = 0 then s
  else
    let a := s.fld ERC_RING_CFG.BASE 0 * 4096 + 32 * ((r.seq - 1) % 2 ^ (s.fld ERC_RING_CFG.SIZE_LOG2 0 - 5))
    if s.isDram a then s.agentWriteBytes a r.bytes true
    else (s.setFld ERC_RING_CFG.EN 0 0).setFld ERC_RING_CFG.RING_ERR 0 1

/-- A record reaches the error collector (R469): it is numbered and stored, copied to the secure ring, its class's RAS
source is raised, and a fatal one asserts ERROR_N. Classes: 0 corrected, 1 deferred, 2 uncorrected, 3 fatal. -/
def State.logErr (s : State) (source unit cls code addr : Nat) : State :=
  let n := s.fld ERC_STATUS.LAST_SEQ 0 + 1
  let key := suppKey source unit code
  let r : ErrRec := { seq := n, dtime := s.dtime, source := source, unit := unit, cls := cls, code := code,
                      supp := Nat.min (tget 0 s.withheld key) 0xFFFF, addr := addr }
  let s1 : State := { s with records := tset {} s.records (n % 4096) r, withheld := tset 0 s.withheld key 0,
                             errorN := s.errorN || cls == 3 }
  let s2 := (s1.setFld ERC_STATUS.LAST_SEQ 0 n).ringWrite r
  s2.raise (1604 + cls)

/-- A record under a rate limit of one per `period` ns for `lim`: within the period it is withheld and counted (R294,
R347, R358, R468). -/
def State.logLimited (s : State) (lim period source unit cls code addr : Nat) : State :=
  let lastT := tget 0 s.limits lim
  if lastT ≠ 0 ∧ s.dtime + 1 < lastT + period then
    let key := suppKey source unit code
    { s with withheld := tset 0 s.withheld key (tget 0 s.withheld key + 1) }
  else ({ s with limits := tset 0 s.limits lim (s.dtime + 1) } : State).logErr source unit cls code addr

/-- The tile at a node, if the node is a tile's (R12). -/
def nodeTile (node : Nat) : Option Nat :=
  let x := node % 8
  let y := node / 8
  if 1 ≤ x ∧ x ≤ 6 ∧ 1 ≤ y ∧ y ≤ 4 then some (6 * (y - 1) + (x - 1)) else none

/-- A tile's stop-error source, offset 12 of R370, for a record that its stop writes (R139, R143, R358). -/
def State.stopError (s : State) (node : Nat) : State :=
  match nodeTile node with
  | some t => s.raise (16 * t + 12)
  | none => s

/-- An uncorrected record that a stop writes as the initiator of a request (R139, R143). -/
def State.stopRecord (s : State) (node unit code addr : Nat) : State :=
  (s.logErr node unit 2 code addr).stopError node

/-- The refusal record of a stop: at most one per partition per millisecond (R358); 0x800 before issue by a tile, 0x104 on
arrival by the target. -/
def State.logRefusal (s : State) (node unit code part addr : Nat) : State :=
  let s1 := s.logLimited (2 ^ 20 + node * 16 + part) 1000000 node unit (if code = 0x800 then 1 else 2) code addr
  if s1.fld ERC_STATUS.LAST_SEQ 0 = s.fld ERC_STATUS.LAST_SEQ 0 then s1 else s1.stopError node

end Sys2Proof.Machine
end

