-- ==== Sys2Proof/Machine/Router.lean ====
section
/-! DEFINITION. The routers of the mesh (R128 to R136): message classes and their channels, the header and the control word, routes, credits,
arbitration and the movement of flits; and the two operations that the protocols use, posting a packet and taking it where it arrives. -/

namespace Sys2Proof.Machine

open Sys2Proof

/-! ### Messages (R130 to R133) -/

/-- The virtual channel of a message class (R133): 0 REQ, 1 RSP, 2 DAT, 3 WB, 4 IOREQ, 5 IORSP, 6 JRN, 7 URG. -/
def Msg.vc : Msg → Nat
  | .rdShared | .rdOwn | .upgrade | .rdOnce | .wrLine | .cboFlush | .amoHome | .mcRead | .mcWrite => 0
  | .nak | .comp | .deferRsp | .wbAck | .wbDisc | .evictAck | .commitReply => 1
  | .data => 2
  | .wbDirty | .evictClean => 3
  | .devRead | .devWrite | .devAmo => 4
  | .devRsp => 5
  | .commitReq | .segment | .append | .publication => 6
  | .interrupt | .lid | .halt => 7

/-- The OPCODE of a message class. The spec names the messages and gives them no numbers: DESIGN CHOICE (log 30), their order in R104 and
R133. -/
def Msg.opcode : Msg → Nat
  | .rdShared => 0 | .rdOwn => 1 | .upgrade => 2 | .rdOnce => 3 | .wrLine => 4 | .cboFlush => 5 | .amoHome => 6 | .nak => 7
  | .comp => 8 | .deferRsp => 9 | .wbAck => 10 | .wbDisc => 11 | .evictAck => 12 | .data => 13 | .wbDirty => 14 | .evictClean => 15
  | .mcRead => 16 | .mcWrite => 17 | .devRead => 18 | .devWrite => 19 | .devAmo => 20 | .devRsp => 21 | .commitReq => 22
  | .segment => 23 | .append => 24 | .publication => 25 | .commitReply => 26 | .interrupt => 27 | .lid => 28 | .halt => 29

/-- The length of a packet in flits (R131), by its class and the bytes of data it carries; a URG packet is a single flit (R132). -/
def Msg.flits (m : Msg) (bytes : Nat) : Nat :=
  match m with
  | .data | .deferRsp | .wbDirty | .wrLine => 2
  | .cboFlush => if bytes = 0 then 1 else 2
  | .mcWrite | .devWrite | .devAmo | .devRsp => if bytes ≤ 8 then 1 else 2
  | .segment => 1 + Nat.max 1 (Nat.min 3 ((bytes + 63) / 64))
  | .append => 1 + Nat.max 1 (Nat.min 4 ((bytes + 63) / 64))
  | _ => 1

/-- The common header of a head flit (R131). -/
def MPkt.header (p : MPkt) : BitVec 128 :=
  BitVec.ofNat 128 (p.msg.opcode * 2 ^ 120 + p.src % 64 * 2 ^ 114 + p.dst % 64 * 2 ^ 108 + p.unit % 32 * 2 ^ 103 +
    (if p.world then 2 ^ 102 else 0) + p.part % 16 * 2 ^ 98 + p.tag % 1024 * 2 ^ 88 + p.epoch % 4 * 2 ^ 86 + p.qos % 4 * 2 ^ 84 +
    p.nak % 16 * 2 ^ 80 + p.status % 256 * 2 ^ 72 + p.size % 256 * 2 ^ 64 + p.addr % 2 ^ 48)

/-- The TYPE of flit `ix` of a packet (R130): 0 head, 1 body, 2 tail, 3 single. -/
def MPkt.flitType (p : MPkt) (ix : Nat) : Nat :=
  if p.len ≤ 1 then 3 else if ix = 0 then 0 else if ix + 1 = p.len then 2 else 1

/-- The control word of flit `ix` of a packet (R130). -/
def MPkt.control (p : MPkt) (ix : Nat) : BitVec 24 :=
  BitVec.ofNat 24 ((if p.poison then 2 ^ 20 else 0) + (if ix = 0 then p.len % 8 * 2 ^ 17 else 0) + p.src % 64 * 2 ^ 11 +
    p.dst % 64 * 2 ^ 5 + p.flitType ix * 2 ^ 3 + p.msg.vc)

/-! ### Routes (R128) -/

/-- The output port towards a node: X first, then Y; 0 north, 1 east, 2 south, 3 west, 4 local. -/
def hopPort (node dst : Nat) : Nat :=
  if node % 8 < dst % 8 then 1 else if dst % 8 < node % 8 then 3
  else if node / 8 < dst / 8 then 2 else if dst / 8 < node / 8 then 0 else 4

/-- The node beyond an output port. -/
def hopNode (node port : Nat) : Nat :=
  if port = 0 then node - 8 else if port = 1 then node + 1 else if port = 2 then node + 8 else if port = 3 then node - 1 else node

/-- The input port at which a flit enters that left through an output port. -/
def farPort (port : Nat) : Nat := (port + 2) % 4

/-- The links of a route, each by its upstream node and output port; a route has at most 12 hops. -/
def routeFrom : Nat → Nat → Nat → List (Nat × Nat)
  | 0, _, _ => []
  | n + 1, node, dst =>
    let p := hopPort node dst
    if p = 4 then [] else (node, p) :: routeFrom n (hopNode node p) dst

def route (src dst : Nat) : List (Nat × Nat) := routeFrom 12 src dst

/-- Whether a link carries packets: it has not been stopped (R144) and is not being reconfigured (R145). -/
def State.linkOpen (s : State) (l : Nat × Nat) : Bool :=
  !tget false s.linkStopped (l.1 * 4 + l.2) && s.fld MESH_LINK_CFG.QUIESCE_BUSY (l.1 * 4 + l.2) == 0

/-! ### Sending and receiving -/

/-- Send a packet: it waits at its source's local port (R135). -/
def State.post (s : State) (p : MPkt) : State :=
  { s with mesh := { s.mesh with pkts := tset none s.mesh.pkts s.mesh.next (some p), next := s.mesh.next + 1 } }

/-- The oldest packet of a class for a unit and an address. -/
def State.meshPkt (s : State) (m : Msg) (who addr : Nat) : Option (Nat × MPkt) :=
  s.mesh.pkts.findSome? fun e => match e.2 with
    | some p => if p.msg = m ∧ p.who = who ∧ p.addr = addr then some (e.1, p) else none
    | none => none

/-- The node at which a packet's last flit is. -/
def State.pktNode (s : State) (n : Nat) (p : MPkt) : Nat :=
  match s.mesh.bufs.find? fun e => e.2.any fun f => f.p == n && f.ix + 1 == p.inj with
  | some e => e.1 / 40
  | none => p.src

/-- Whether a packet can be taken now: it has arrived, or nothing stands in its way: no link of the rest of its route is stopped or being
reconfigured; and no packet sent before it from its source to its destination on its channel is still to be taken (R129). The time
that it spends in the routers is what the command that takes it stands for: DESIGN CHOICE (log 31). -/
def State.canTakePkt (s : State) (n : Nat) (p : MPkt) : Bool :=
  (p.arr || (routeFrom 12 (s.pktNode n p) p.dst).all s.linkOpen) &&
  !s.mesh.pkts.any fun e => decide (e.1 < n) && (match e.2 with
    | some q => q.src == p.src && q.dst == p.dst && q.msg.vc == p.msg.vc
    | none => false)

/-- Whether the message of a class for a unit and an address can be taken: it is not in the mesh, or it can leave it. -/
def State.canTake (s : State) (m : Msg) (who addr : Nat) : Bool :=
  match s.meshPkt m who addr with
  | some e => s.canTakePkt e.1 e.2
  | none => true

/-- Take a packet out of the mesh. -/
def State.take (s : State) (m : Msg) (who addr : Nat) : State :=
  match s.meshPkt m who addr with
  | none => s
  | some e =>
    { s with mesh := { s.mesh with
        pkts := tset none s.mesh.pkts e.1 none
        bufs := (s.mesh.bufs.map fun b => (b.1, b.2.filter fun f => f.p != e.1)).filter fun b => !b.2.isEmpty
        hold := s.mesh.hold.filter fun h => match h.2 with | some q => q.2.2 != e.1 | none => false } }

/-! ### The movement of flits (R128, R135, R136) -/

/-- The key of an input buffer. -/
def bufKey (node port vc : Nat) : Nat := (node * 5 + port) * 8 + vc

/-- The credits that a sender holds for a buffer: 8, less the flits in it or on their way to it and the credits on their way back (R135). -/
def Mesh.credits (m : Mesh) (key : Nat) : Nat :=
  8 - (tget [] m.bufs key).length - (m.owed.filter fun o => o.2 == key).length

/-- The weight of a channel on an output (R136), from the values that the last reconfiguration loaded (R145). The local output has none: its
weight is taken as 1. -/
def State.weight (s : State) (node port vc : Nat) : Nat :=
  if port = 4 then 1
  else
    let i := node * 4 + port
    let w := match tget none s.mesh.active i with
      | some w => w
      | none => RegId.resetVal .MESH_LINK_CFG i
    field w (4 * vc + 3) (4 * vc)

/-- The packet whose flit is at the head of a buffer, if it can leave in this cycle through an output. -/
def Mesh.headAt (m : Mesh) (node port vc out : Nat) : Option (MFlit × MPkt) :=
  match tget [] m.bufs (bufKey node port vc) with
  | [] => none
  | f :: _ =>
    if m.cycle < f.ready then none
    else match tget none m.pkts f.p with
      | some p => if hopPort node p.dst = out then some (f, p) else none
      | none => none

/-- The input that a channel of an output serves next, in round robin (R136). -/
def Mesh.nextInput (m : Mesh) (node out vc : Nat) : Option Nat :=
  let start := tget 4 m.last (bufKey node out vc)
  ([1, 2, 3, 4, 5].map fun i => (start + i) % 5).find? fun i =>
    match m.headAt node i vc out with
    | some (f, _) => f.ix == 0
    | none => false

/-- The packet that an output starts next: URG first, then the channels in weighted round robin (R136). A round ends when no waiting channel
has any of its weight left. -/
def State.chooseOut (s : State) (node out : Nat) : Option (Nat × Nat) × Mesh :=
  let m := s.mesh
  let open_ := out == 4 || s.linkOpen (node, out)
  let room := fun (vc : Nat) => out == 4 || decide (0 < m.credits (bufKey (hopNode node out) (farPort out) vc))
  if open_ = false then (none, m)
  else
    match (if room 7 then m.nextInput node out 7 else none) with
    | some i => (some (i, 7), m)
    | none =>
      let ready := (List.range 7).filter fun v => room v && (m.nextInput node out v).isSome
      let used := fun (v : Nat) => tget 0 m.used (bufKey node out v)
      let pick := fun (m : Mesh) (v : Nat) => (m.nextInput node out v).map fun i => (i, v)
      match ready.find? fun v => decide (used v < s.weight node out v) with
      | some v => (pick m v, m)
      | none => match ready with
        | [] => (none, m)
        | v :: _ => (pick m v, { m with used := (List.range 7).foldl (fun t v => tset 0 t (bufKey node out v) 0) m.used })

/-- Move one flit from an input buffer through an output: it leaves the buffer, whose credit returns 4 cycles later (the round trip of R135
less the 2 cycles of the hop, DEDUCED, log 32), and can leave the next router 2 cycles later (R128); at the local port it is consumed. -/
def Mesh.move (m : Mesh) (node out port vc : Nat) (f : MFlit) (p : MPkt) : Mesh :=
  let k := bufKey node port vc
  let head := f.ix == 0
  let tail := f.ix + 1 == p.len
  let bufs := tset [] m.bufs k ((tget [] m.bufs k).drop 1)
  let k2 := bufKey (hopNode node out) (farPort out) vc
  { m with
    bufs := if out = 4 then bufs else tset [] bufs k2 (tget [] bufs k2 ++ [{ f with ready := m.cycle + 2 }])
    owed := m.owed ++ [(m.cycle + 4, k)]
    hold := tset none m.hold (node * 5 + out) (if tail then none else some (port, vc, f.p))
    used := if head && vc != 7 then tset 0 m.used (bufKey node out vc) (tget 0 m.used (bufKey node out vc) + 1) else m.used
    last := if head then tset 4 m.last (bufKey node out vc) port else m.last
    pkts := if out = 4 ∧ tail then tset none m.pkts f.p (some { p with arr := true }) else m.pkts }

/-- One output of one router in one mesh cycle: the packet that holds it goes on, from head to tail, or another starts (R135, R136). A link
that has been stopped carries nothing; one that is being reconfigured lets a packet in progress finish (R145). -/
def State.outputCycle (s : State) (node out : Nat) : State :=
  let m := s.mesh
  match tget none m.hold (node * 5 + out) with
  | some (port, vc, n) =>
    let room := out == 4 || (decide (0 < m.credits (bufKey (hopNode node out) (farPort out) vc)) &&
      !tget false s.linkStopped (node * 4 + out))
    (match m.headAt node port vc out with
     | some (f, p) => if room && f.p == n then { s with mesh := m.move node out port vc f p } else s
     | none => s)
  | none =>
    let c := s.chooseOut node out
    match c.1 with
    | some (port, vc) => (match c.2.headAt node port vc out with
        | some (f, p) => { s with mesh := c.2.move node out port vc f p }
        | none => s)
    | none => s

/-- A stop's next flit of a channel enters its router's local input buffer where that has room (R135). -/
def Mesh.inject (m : Mesh) : Mesh :=
  (m.pkts.foldl (fun (a : Mesh × List (Nat × Nat)) e => match e.2 with
    | none => a
    | some p =>
      if p.len ≤ p.inj ∨ a.2.contains (p.src, p.msg.vc) then a
      else
        let k := bufKey p.src 4 p.msg.vc
        let b := a.2 ++ [(p.src, p.msg.vc)]
        if (tget [] a.1.bufs k).length < 8 then
          ({ a.1 with bufs := tset [] a.1.bufs k (tget [] a.1.bufs k ++ [{ p := e.1, ix := p.inj, ready := m.cycle + 1 }]),
                      pkts := tset none a.1.pkts e.1 (some { p with inj := p.inj + 1 }) }, b)
        else (a.1, b)) (m, [])).1

/-- One cycle of the mesh clock: nothing happens while the mesh is empty. -/
def State.meshCycle (s : State) : State :=
  if s.mesh.pkts = [] then s
  else
    let nodes : List Nat := (s.mesh.bufs.map fun e => e.1 / 40).eraseDups
    let s1 := nodes.foldl (fun s n => [0, 1, 2, 3, 4].foldl (fun s o => s.outputCycle n o) s) s
    let m := s1.mesh.inject
    let c := m.cycle + 1
    { s1 with mesh := { m with cycle := c, owed := m.owed.filter fun o => decide (c < o.1) } }

end Sys2Proof.Machine
end

