-- ==== Sys2Proof/Machine/Operands.lean ====
section
/-! DEFINITION. The operand forms of core accesses: the regions of the physical address map (R14, R18), their attributes
(R68, R70), access sizes, extension of loaded values, and the arithmetic of atomics. -/

namespace Sys2Proof.Machine

open Sys2Proof

/-- The regions of R14, with the vacant rest. -/
inductive Region where
  | dram | aperture | pcie | odc | secureOnly | vacant
  deriving DecidableEq, Repr

/-- The region of a physical address (R14 to R16, R18, R58). -/
def State.region (s : State) (pa : Nat) : Region :=
  if pa < 0x080000000000 then if s.isDram pa then .dram else .vacant
  else if pa < 0x100000000000 then .aperture
  else if pa < 0x140000000000 then .pcie
  else if 0xFE0000000000 ≤ pa ∧ pa < 0xFE0100000000 then
    let o := pa % 0x10000000000
    if (0x07000000 ≤ o ∧ o < 0x08000000) ∨ 0x26000000 ≤ o then .vacant else .odc
  else if 0xFF0000000000 ≤ pa ∧ pa < 0xFF0010000000 then .secureOnly
  else .vacant

/-- A device region of R84 to R87: everything but DRAM mapped PMA or NC. -/
def isDeviceRegion (r : Region) (pbmt : Nat) : Bool :=
  match r with
  | .dram => pbmt == 2
  | .vacant => false
  | _ => true

/-- Whether the region allows AMOs (R68, R70). -/
def amoAllowed (r : Region) (pbmt : Nat) : Bool :=
  match r with
  | .dram => pbmt == 0 || pbmt == 1
  | .aperture => true
  | _ => false

/-- Whether the region allows LR and SC (R68, R70). -/
def lrscAllowed (r : Region) (pbmt : Nat) : Bool :=
  match r with
  | .dram => pbmt == 0
  | _ => false

/-- Whether an address lies in the configuration space of a PCIe controller: the top 256 MiB of its window, which controller
0 lacks as an endpoint (R311, R322). -/
def State.isEcam (s : State) (pa : Nat) : Bool :=
  decide (0x100000000000 ≤ pa ∧ pa < 0x140000000000 ∧ 0xFFF0000000 ≤ pa % 2 ^ 40) &&
  !(pa / 2 ^ 40 == 0x10 && s.fld PCIE_CTL.MODE 0 == 1)

/-- The early-write-acknowledgement bit of an address: that of the lowest-numbered matching region entry (R71); ECAM forbids
it (R312). DESIGN CHOICE (log entry 46): a VALID entry whose SIZE_LOG2 still holds its reset value 0, which is no size of R71, covers the one
byte at its base; a BASE that is not aligned to the size is rounded down to it; an entry that reaches outside the aperture and PCIe ranges
matches nothing. -/
def State.regionEwa (s : State) (pa : Nat) : Bool :=
  if s.isEcam pa then false else
  match (List.range 32).find? fun e =>
      let sz := s.fld WPC_REGION.SIZE_LOG2 e
      let base := s.fld WPC_REGION.BASE e * 2 ^ 21
      let lo := base - base % 2 ^ sz
      s.fld WPC_REGION.VALID e = 1 ∧ lo ≤ pa ∧ pa < lo + 2 ^ sz ∧
      0x080000000000 ≤ lo ∧ lo + 2 ^ sz ≤ 0x140000000000 with
  | some e => s.fld WPC_REGION.EWA e == 1
  | none => false

/-- The owner of a PCIe window address: the lowest-numbered matching region entry with ASSIGN, else secure (R354). -/
def State.regionOwner (s : State) (pa : Nat) : Option Nat :=
  match (List.range 32).find? fun e =>
      let sz := s.fld WPC_REGION.SIZE_LOG2 e
      let base := s.fld WPC_REGION.BASE e * 2 ^ 21
      let lo := base - base % 2 ^ sz
      s.fld WPC_REGION.VALID e = 1 ∧ lo ≤ pa ∧ pa < lo + 2 ^ sz ∧
      0x080000000000 ≤ lo ∧ lo + 2 ^ sz ≤ 0x140000000000 with
  | some e => if s.fld WPC_REGION.ASSIGN e = 1 ∧ s.fld WPC_REGION.WORLD e = 0
      then some (s.fld WPC_REGION.PARTITION e) else none
  | none => none

/-- A loaded value of `size` bytes as its destination register receives it. -/
def extend (signed : Bool) (size v : Nat) : W :=
  if signed then sext (8 * size) v else BitVec.ofNat 64 (v % 2 ^ (8 * size))

/-- A floating-point value of `size` bytes in a 64-bit register: the upper bits are all ones (NaN boxing). -/
def nanBox (size v : Nat) : W :=
  BitVec.ofNat 64 (2 ^ 64 - 2 ^ (8 * size) + v % 2 ^ (8 * size))

/-- The signed value of the low `n` bits. -/
def signedVal (n v : Nat) : Int :=
  if v % 2 ^ n < 2 ^ (n - 1) then (v % 2 ^ n : Nat) else (v % 2 ^ n : Nat) - (2 ^ n : Nat)

/-- The value an atomic of `size` bytes leaves in memory. -/
def amoResult (op : AmoOp) (size old src : Nat) : Nat :=
  let n := 8 * size
  let a := old % 2 ^ n
  let b := src % 2 ^ n
  match op with
  | .swap => b
  | .add => (a + b) % 2 ^ n
  | .and => a &&& b
  | .or => a ||| b
  | .xor => a ^^^ b
  | .min => if signedVal n a ≤ signedVal n b then a else b
  | .max => if signedVal n a ≤ signedVal n b then b else a
  | .minu => Nat.min a b
  | .maxu => Nat.max a b

/-- The RISC-V funct5 of an atomic, which names it on PCIe and in fabric packets (R231). -/
def amoFunct5 : AmoOp → Nat
  | .add => 0 | .swap => 1 | .xor => 4 | .or => 8 | .and => 12 | .min => 16 | .max => 20 | .minu => 24 | .maxu => 28

/-- The atomic that a funct5 names. -/
def amoOf (f : Nat) : Option AmoOp :=
  [AmoOp.add, .swap, .xor, .or, .and, .min, .max, .minu, .maxu].find? fun o => amoFunct5 o == f

/-- Whether an access of `n` bytes at an address is naturally aligned. -/
def aligned (a n : Nat) : Bool := n == 0 || a % n == 0

/-- Whether an access of `n` bytes stays within one 64-byte line (R34, R76). -/
def oneLine (a n : Nat) : Bool := decide (a % 64 + n ≤ 64)

end Sys2Proof.Machine
end

