-- ==== Sys2Proof/Machine/RegAccess.lean ====
section
/-! DEFINITION. An access to the on-die configuration space or the secure-only space: which stop serves it, whether its
world and partition may reach it, what each field does with a write (R5 to R8), and the views that some registers compute
when they are read. -/

namespace Sys2Proof.Machine

open Sys2Proof

/-! ### Who serves an address and who may reach it -/

/-- The WPC_OWNER unit of an ODC address (R18, R357); none for a mailbox page beyond 17, a PCIe controller beyond 3, a
channel beyond 15 or a tile beyond 23, which no unit governs (R19). DESIGN CHOICE (log entry 20): offsets of the FAB window beyond
port 7, for which R18 and R357 name no unit and no stop, belong to the switch, unit 24 at node 42. -/
def odcUnit (pa : Nat) : Option Nat :=
  let o := pa % 0x10000000000
  let w := o / 0x1000000
  let u := o % 0x1000000
  if pa / 0x10000000000 ≠ 0xFE then none
  else if w = 0 then some 0
  else if w = 1 then (if u / 0x10000 ≤ 17 then some (1 + u / 0x10000) else none)
  else if w = 2 then some 19
  else if w = 3 then some 20
  else if w = 4 then some 21
  else if w = 5 then some 22
  else if w = 6 then some 23
  else if w = 8 ∨ w = 9 then
    (let k := o / 0x100000 - 0x80
     if k = 0 then some 24 else if k ≤ 8 then some (24 + k) else some 24)
  else if w = 0x0A then (if u / 0x400000 ≤ 3 then some (33 + u / 0x400000) else none)
  else if w = 0x0B then some 37
  else if 0x0C ≤ w ∧ w ≤ 0x0F then
    (let ch := o / 0x100000 - 0xC0; if ch ≤ 15 then some (38 + ch) else none)
  else if 0x10 ≤ w ∧ w ≤ 0x1F then
    (let t := o / 0x100000 - 0x100; if t ≤ 23 then some (54 + t) else none)
  else if w = 0x20 then some 78
  else if w = 0x21 then some 79
  else if w = 0x22 then some 80
  else if w = 0x23 then some 81
  else if w = 0x24 then some 82
  else if w = 0x25 then some 83
  else none

/-- The node that serves a unit of R357 and the Lid section its block has there, if it has one (R12, R147). -/
def unitStop (u : Nat) : Nat × Option Nat :=
  if u ≤ 18 then (0, some 0)
  else if u = 19 then (7, some 0)
  else if u = 20 then (3, some 0)
  else if u = 21 then (4, some 0)
  else if u = 22 then (43, some 0)
  else if u = 23 then (44, some 0)
  else if u = 24 then (42, some 0)
  else if u ≤ 32 then (if u ≤ 28 then (41, some (u - 25)) else (45, some (u - 29)))
  else if u ≤ 36 then ((if u = 33 then 1 else if u = 34 then 2 else if u = 35 then 5 else 6), some 0)
  else if u = 37 then (46, some 0)
  else if u ≤ 53 then (chNode (u - 38), some ((u - 38) % 2))
  else if u ≤ 77 then (tileNode (u - 54), none)
  else if u = 78 then (47, some 0)
  else if u = 79 then (47, some 1)
  else if u = 80 then (47, none)
  else if u = 81 then (40, some 0)
  else if u = 82 then (47, some 2)
  else (0, some 0)

/-- The node that serves an ODC address and the Lid section it passes, if its block has one (R18, R19, R147). -/
def odcStop (pa : Nat) : Nat × Option Nat :=
  match odcUnit pa with
  | some u => unitStop u
  | none =>
    let w := pa / 0x1000000
    if w = 0xFE0001 then (0, some 0) else if w = 0xFE000A then (1, some 0)
    else if 0xFE000C ≤ w ∧ w ≤ 0xFE000F then (8, some 0) else (9, none)

/-- The state of a Lid section: 0 OPEN, 1 DRAINING, 2 CLOSED. -/
def lidIx (node sec : Nat) : Nat := node * 5 + sec
def State.lidState (s : State) (node sec : Nat) : Nat := s.fld LID_SECTION.STATE (lidIx node sec)

/-- The world and partition that an agent's accesses carry (R73, R504): Macen and the SP act for the secure world. -/
def State.agentSecure (s : State) (ag : Agent) : Bool :=
  match ag with
  | .core c => (s.core c).secure
  | .macen => true
  | .sp => true
  | .dbg sec _ => sec

def State.agentPart (s : State) (ag : Agent) : Nat :=
  match ag with
  | .core c => (s.core c).part
  | .dbg _ p => p
  | _ => 0

/-- Whether an address lies in the on-die or secure-only space. -/
def State.isOdc (s : State) (pa : Nat) : Bool := s.region pa == .odc || s.region pa == .secureOnly

/-- The device stores of a core to the configuration space that their target has not performed yet, by the key of their tag index. -/
def State.odcStores (s : State) (c : Nat) : List (Nat × Txn) :=
  s.txns.filter fun e => (match e.2.use with | some (.devStore c' _) => c' == c | _ => false) && !e.2.io.taken && s.isOdc e.2.pa

/-- The one of them that names the register at an address. -/
def State.odcStore (s : State) (c pa : Nat) : Option (Nat × Txn) := (s.odcStores c).find? fun e => e.2.pa / 8 == pa / 8

/-- The world and partition of an access at an address: a store that has left a core's buffer carries those it was buffered with (R80). -/
def State.accSecure (s : State) (ag : Agent) (pa : Nat) (write : Bool) : Bool :=
  match ag with
  | .core c => if write then ((s.odcStore c pa).map fun e => e.2.io.secure).getD (s.core c).secure else (s.core c).secure
  | _ => s.agentSecure ag

def State.accPart (s : State) (ag : Agent) (pa : Nat) (write : Bool) : Nat :=
  match ag with
  | .core c => if write then ((s.odcStore c pa).map fun e => e.2.io.part).getD (s.core c).part else (s.core c).part
  | _ => s.agentPart ag

/-- Whether an access of a core at an address is one that the core has sent, its packet having reached the target (R85, R87, R129). DESIGN
CHOICE (log entry 45): the access of a core with no load or store of the space on the mesh stands for itself. -/
def State.odcTurn (s : State) (ag : Agent) (pa : Nat) (write : Bool) : Bool :=
  match ag with
  | .core c =>
    if write then (s.odcStores c).isEmpty || (match s.odcStore c pa with
      | some e => s.canTake .devWrite e.1 e.2.pa
      | none => false)
    else (match (s.core c).devLoad with
      | some (n, a) => !s.isOdc a || (a / 8 == pa / 8 && s.canTake .devRead (tileNode (coreTile c) * 1024 + n) a)
      | none => true)
  | _ => true

/-- The index range of WPC_OWNER that hart registers of the DBG and EVR pages belong to. -/
def State.ownsHart (s : State) (part h : Nat) : Bool := s.hartPart1 h == part

/-- Whether the normal world of partition `p` may read unit `i` of a register, once its block's owner let the access
through (R150, R197, R257, R280, R308, R325, R348, R368, R389, R453, R477, R523, R529, R554). -/
def State.normalRead (s : State) (p : Nat) (r : RegId) (i : Nat) : Bool :=
  match r with
  | .TILE_CORE_MAP | .TILE_HOME_STATUS | .TILE_CORE_OVF => true
  | .MESH_LINK_CFG | .MESH_TIMEOUT | .MESH_INIT_STATUS | .LID_SECTION => true
  | .SPN_STREAM_CFG | .SPN_STREAM_STATE | .SPN_STREAM_WMARK | .SPN_STREAM_ASSIGNED | .SPN_STREAM_NEXT
  | .JRN_REGION | .JRN_APPEND_PTR | .JRN_DRAIN_PTR | .JRN_STREAM_STATUS
  | .JRN_REPL_CFG | .JRN_REPL_MEMBERS | .JRN_REPL_STATE | .JRN_REPL_DEGRADED => s.owner (ixStream i) == some p
  | .JRN_REPL_HELD => s.owner (ixStream (i / 2)) == some p
  | .JRN_RSLOT_CFG | .JRN_RSLOT_REGION | .JRN_RSLOT_TERM | .JRN_RSLOT_HELD | .JRN_RSLOT_APPEND
  | .JRN_RSLOT_DRAIN | .JRN_RSLOT_GASP => s.fld JRN_RSLOT_CFG.PARTITION i == p
  | .FAB_APERTURE => s.owner (ixAper i) == some p
  | .FAB_INBOUND => s.fld FAB_INBOUND.PARTITION i == p
  | .FAB_RXRING_CFG | .FAB_RXRING_PTR => s.fld FAB_RXRING_CFG.PARTITION i == p
  | .FAB_SQ_CFG | .FAB_SQ_PTR => i == p
  | .MCT_DECODE | .MCT_CH_STATUS | .MCT_ECC_COUNT | .MCT_ECC_LOG | .MCT_SCRUB => true
  | .PCIE_CTL | .PCIE_PORT_CFG | .PCIE_PORT_STATUS | .IOMMU_FAT_MATCH | .IOMMU_FAT_BASE | .IOMMU_INVAL
  | .IOMMU_FAULT => true
  | .CPH_RING_CFG | .CPH_RING_PTR => s.fld CPH_RING_CFG.PARTITION i == p && s.fld CPH_RING_CFG.WORLD i == 0
  | .WPC_PART_CTL => i == p
  | .EVR_PFW_TIME | .EVR_SRC_PEND => true
  | .EVR_SRC_CFG => s.owner (ixSrc i) == some p
  | .EVR_RING_ROUTE => s.fld FAB_RXRING_CFG.PARTITION i == p
  | .EVR_TGT_CLAIM | .EVR_TGT_EOI | .EVR_TGT_THRESH | .EVR_TGT_INJECT | .EVR_TGT_STATUS =>
    s.ownsHart p (i / 17) && i % 17 != 16
  | .TILE_RESET_VEC => true
  | .RCP_RESET_CAUSE | .RCP_THERMAL | .RCP_BLOCK_CTL => true
  | .RCP_PSTATE => i == p
  | .TMR_WDOG => i == p
  | .MBX_DOORBELL | .MBX_STATUS => true
  | .DBG_VT_TX | .DBG_VT_RX => decide (i < 96) && s.ownsHart p i
  | .CNT_CFG | .CNT => true
  | .LDL_PART_CFG | .LDL_PART_STATUS => i == p
  | .LDL_PART_MASK => i / 4 == p
  | .UART_CFG | .UART_DATA | .UART_STATUS => i == 1 && s.owner (ixSrc 1731) == some p
  | .GPIO_CFG => s.owner (ixSrc (1696 + i)) == some p
  | _ => false

/-- A source or ring route that the normal world may program: a hart of its partition, a guest or host page, no NMI
(R389). -/
def State.normalRoute (s : State) (p : Nat) (w : W) (nmi : Bool) : Bool :=
  s.ownsHart p (field w 22 16) && decide (field w 12 8 ≤ 15) && !nmi

/-- Whether the normal world of partition `p` may write `w` to unit `i` of a register. -/
def State.normalWrite (s : State) (p : Nat) (r : RegId) (i : Nat) (w : W) : Bool :=
  match r with
  | .TILE_CORE_OVF => true
  | .JRN_DRAIN_PTR => s.owner (ixStream i) == some p
  | .JRN_RSLOT_DRAIN => s.fld JRN_RSLOT_CFG.PARTITION i == p
  | .FAB_RXRING_PTR => s.fld FAB_RXRING_CFG.PARTITION i == p
  | .FAB_SQ_PTR => i == p
  | .CPH_RING_PTR => s.fld CPH_RING_CFG.PARTITION i == p && s.fld CPH_RING_CFG.WORLD i == 0
  | .IOMMU_INVAL | .IOMMU_FAULT => i == p
  | .EVR_SRC_CFG => s.owner (ixSrc i) == some p && s.normalRoute p w (bit w 62)
  | .EVR_RING_ROUTE => s.fld FAB_RXRING_CFG.PARTITION i == p && s.normalRoute p w false
  | .EVR_TGT_EOI | .EVR_TGT_THRESH | .EVR_TGT_INJECT | .EVR_TGT_STATUS => s.ownsHart p (i / 17) && i % 17 != 16
  | .RCP_BLOCK_CTL => s.owner i == some p
  | .TMR_WDOG => i == p && !(s.fld TMR_WDOG.EN i == 1 && field w TMR_WDOG.EN.hi TMR_WDOG.EN.lo == 0)
  | .MBX_DOORBELL | .MBX_STATUS => true
  | .DBG_VT_TX | .DBG_VT_RX => decide (i < 96) && s.ownsHart p i
  | .UART_CFG | .UART_DATA | .UART_STATUS => i == 1 && s.owner (ixSrc 1731) == some p
  | .GPIO_CFG => s.owner (ixSrc (1696 + i)) == some p
  | _ => false

/-- Whether the secure world may write a register (R308, R325, R368, R424, R453, R470, and each register's section). -/
def State.secureWrite (s : State) (r : RegId) (i : Nat) : Bool :=
  match r with
  | .MCT_DECODE | .MCT_CH_STATUS | .MCT_ECC_COUNT | .MCT_ECC_LOG | .MCT_SCRUB => false
  | .RCP_PSTATE => false
  | .TILE_RESET_VEC => (s.core i).run == .held
  | _ => true

/-- Whether Macen may write a register: everything it shares with the secure world, RCP_PSTATE and RCP_BLOCK_CTL (R453)
and the channel registers (R308), but not what only the secure world writes (R325, R368, R470). -/
def macenWrite (r : RegId) : Bool :=
  match r with
  | .PCIE_PORT_CFG | .IOMMU_FAT_MATCH | .IOMMU_FAT_BASE | .IOMMU_INVAL | .IOMMU_FAULT => false
  | .WPC_CFG | .WPC_SYNC | .WPC_REGION | .WPC_OWNER | .WPC_PART_CFG | .WPC_PART_CTL => false
  | .ERC_RING_CFG | .RCP_RTC | .RCP_RESET_CAUSE | .TMR_WDOG | .TILE_RESET_VEC => false
  | _ => true

/-- The answer to the question whether an access may go on: it is performed; refused before issue by the tile; answered
DOMAIN_OFF at a Lid; refused on arrival by the target's own rule; or it is not the access that its core has sent. -/
inductive Gate where
  | pass | early | off | late | wait
  deriving DecidableEq, Repr

/-- The address of unit `i` of a register: the first span that holds the unit. -/
def regAddr (r : RegId) (i : Nat) : Nat :=
  (spans.findSome? fun p =>
    if p.reg = r ∧ p.ibase ≤ i ∧ i < p.ibase + p.n1 * p.n2 then
      some (p.base + p.s1 * ((i - p.ibase) / p.n2) + p.s2 * ((i - p.ibase) % p.n2))
    else none).getD 0

/-- Whether a session of a debug port (0 JTAG, 1 mesh) reaches unit `i` of a register of the DBG window (R496, R498): before the ceiling
is written and in SCRAPPED only DBG_AUTH and DBG_AUTH_NONCE; the endpoint pages of the terminals are their endpoints'; the rest only with
a session, and under NORMAL_CERT within its PART_MASK and RIGHTS. -/
def State.dbgMay (s : State) (port : Nat) (r : RegId) (i : Nat) (write : Bool) : Bool :=
  let mask := s.fld DBG_AUTH.PART_MASK port
  let right := fun n => (s.fld DBG_AUTH.RIGHTS port).testBit n
  let hart := fun h => mask.testBit (s.hartPart1 h)
  let terminal := fun (e : Nat) => decide (e < 96) && hart e &&
    (match s.hartCore e with | some c => !(s.core c).secure | none => true)
  match r with
  | .DBG_AUTH | .DBG_AUTH_NONCE => true
  | _ =>
    if s.dbg.ceilOn = false ∨ s.lc = 5 then false
    else if (r = .DBG_VT_TX ∨ r = .DBG_VT_RX) ∧ i < 98 then true
    else match s.fld DBG_AUTH.SESSION port with
      | 2 => true
      | 1 => (match r with
        | .DBG_FREEZE | .DBG_MEM_CTL | .DBG_MEM_DATA => true
        | .DBG_TRACE_CFG | .DBG_TRACE_PTR => right 3
        | .DBG_PATCH_CFG | .DBG_PATCH_DATA => !write
        | .DBG_CORE_STATUS => hart i
        | .DBG_CORE_CTL => hart i && (right 0 || right 3)
        | .DBG_CORE_REGSEL | .DBG_CORE_REGDATA => hart i && right 1
        | .DBG_TRIG_CFG | .DBG_TRIG_VAL => hart (i / 8) && right 0
        | .DBG_VT_TX | .DBG_VT_RX => terminal (i - 98)
        | _ => false)
      | _ => false

/-- Whether a register lies in the DBG window. -/
def isDbgReg (r : RegId) : Bool := decide (101 ≤ r.num ∧ r.num ≤ 117)

/-- The gate of an access by an agent to unit `i` of a register, for a read or for a write of `w` (R17, R20, R354, R358). -/
def State.gate (s : State) (ag : Agent) (r : RegId) (i : Nat) (write : Option W) : Gate :=
  let pa := regAddr r i
  let sec := s.accSecure ag pa write.isSome
  let p := s.accPart ag pa write.isSome
  let stop := odcStop pa
  let early := match ag with
    | .core _ | .dbg _ _ =>
      if 0xFF0000000000 ≤ pa then !sec
      else match odcUnit pa with
        | some u => !ownerPasses (s.owner u) sec p
        | none => false
    | _ => false
  if s.odcTurn ag pa write.isSome = false then .wait
  else if early then .early
  else if 0xFF0000000000 ≤ pa then
    (match write with
     | some _ => if ag == .sp then .pass else .late
     | none => .pass)
  else if (match stop.2 with | some k => s.lidState stop.1 k != 0 | none => false) then .off
  else if isDbgReg r && !s.dbgMay 1 r i write.isSome then .late
  else
    match ag, write with
    | .sp, some _ => if r = .RCP_PSTATE then .late else .pass
    | .sp, none => .pass
    | .macen, some _ => if macenWrite r then .pass else .late
    | .macen, none => .pass
    | _, some w => if sec then (if s.secureWrite r i then .pass else .late)
        else if s.normalWrite p r i w then .pass else .late
    | _, none => if sec then .pass else if s.normalRead p r i then .pass else .late

/-! ### What a field does with a write (R6, R7) -/

/-- Whether a value is not a reserved encoding of a field. -/
def Fld.allows (F : Fld) (v : Nat) : Bool := F.legal.isEmpty || F.legal.any fun p => decide (p.1 ≤ v ∧ v ≤ p.2)

/-- Whether a field ignores writes in the present state, as its register's section says. `w` is the value written. -/
def State.locked (s : State) (F : Fld) (i : Nat) (w : W) : Bool :=
  match F.reg with
  | .MESH_LINK_CFG => s.fld MESH_LINK_CFG.QUIESCE_BUSY i == 1
  | .JRN_REGION => (F == JRN_REGION.SIZE_LOG2 || F == JRN_REGION.BASE) &&
      !(s.fld SPN_STREAM_STATE.STATE i == 0 || s.fld SPN_STREAM_STATE.STATE i == 3)
  | .FAB_NODE => ((F == FAB_NODE.NODE_ID || F == FAB_NODE.DOMAIN) &&
        (List.range 8).any fun p => s.fld FAB_PORT_STATUS.STATE p == 3 || s.fld FAB_PORT_STATUS.STATE p == 4) ||
      (F == FAB_NODE.FREEZE && s.lc != 2)
  | .FAB_PORT_CTL => (F == FAB_PORT_CTL.ENC || F == FAB_PORT_CTL.KEY_HANDLE) &&
      (s.fld FAB_PORT_STATUS.STATE i == 3 || s.fld FAB_PORT_STATUS.STATE i == 4)
  | .FAB_SQ_PTR => F == FAB_SQ_PTR.TAIL &&
      decide (2 ^ s.fld FAB_SQ_CFG.COUNT_LOG2 i < (field w 15 0 + 65536 - s.fld FAB_SQ_PTR.HEAD i) % 65536)
  | .FAB_RXRING_PTR => F == FAB_RXRING_PTR.CONSUMER &&
      decide ((s.fld FAB_RXRING_PTR.PRODUCER i + 65536 - s.fld FAB_RXRING_PTR.CONSUMER i) % 65536 <
        (field w 15 0 + 65536 - s.fld FAB_RXRING_PTR.CONSUMER i) % 65536)
  | .JRN_REPL_CFG => F == JRN_REPL_CFG.LEDGER &&
      !(s.fld JRN_REPL_STATE.STATE i == 0 || s.fld JRN_REPL_STATE.STATE i == 4 || s.fld JRN_REPL_STATE.STATE i == 5)
  | .JRN_REPL_MEMBERS => s.fld JRN_REPL_STATE.STATE i == 3
  | .JRN_REPL_STATE => field w JRN_REPL_STATE.CMD.hi JRN_REPL_STATE.CMD.lo != 1
  | .JRN_REPL_DEGRADED => w != 0
  | .JRN_RSLOT_CFG => F != JRN_RSLOT_CFG.VALID && s.fld JRN_RSLOT_CFG.VALID i == 1
  | .JRN_RSLOT_DRAIN => decide ((s.fld JRN_RSLOT_APPEND.APPEND i + 2 ^ 64 - s.fld JRN_RSLOT_DRAIN.DRAIN i) % 2 ^ 64 <
      (w.toNat + 2 ^ 64 - s.fld JRN_RSLOT_DRAIN.DRAIN i) % 2 ^ 64)
  | .JRN_RSLOT_REGION | .JRN_RSLOT_TERM | .JRN_RSLOT_HELD | .JRN_RSLOT_APPEND => s.fld JRN_RSLOT_CFG.VALID i == 1
  | .MCT_DECODE => decide (8 ≤ s.bootStep)
  | .PCIE_CTL => ((F == PCIE_CTL.MODE || F == PCIE_CTL.BIFURCATION) && s.fld PCIE_CTL.EN i == 1) ||
      (F == PCIE_CTL.MODE && i != 0)
  | .IOMMU_INVAL => s.fld IOMMU_INVAL.BUSY i == 1
  | .CPH_RING_PTR => F == CPH_RING_PTR.TAIL &&
      decide (2 ^ s.fld CPH_RING_CFG.COUNT_LOG2 i < (field w 15 0 + 65536 - s.fld CPH_RING_PTR.HEAD i) % 65536)
  | .CPH_RING_CFG => F != CPH_RING_CFG.VALID && s.fld CPH_RING_CFG.VALID i == 1
  | .WPC_CFG => s.fld WPC_CFG.LOCK 0 == 1
  | .WPC_OWNER => (decide (1 ≤ i ∧ i ≤ 16) || i == 18 || i == 81 || decide (84 ≤ i ∧ i ≤ 127)) ||
      (F == WPC_OWNER.KIND && decide (192 ≤ i ∧ i ≤ 287)) ||
      (F == WPC_OWNER.KIND && field w 62 61 == 2 && decide (128 ≤ i))
  | .ERC_RING_CFG =>
      (s.fld ERC_RING_CFG.EN 0 == 1 && F != ERC_RING_CFG.EN && F != ERC_RING_CFG.RING_ERR) ||
      (F == ERC_RING_CFG.EN && s.fld ERC_RING_CFG.EN 0 == 0 && field w 63 63 == 1 &&
        !(ERC_RING_CFG.SIZE_LOG2.allows (field w 57 52) || ERC_RING_CFG.SIZE_LOG2.allows (s.fld ERC_RING_CFG.SIZE_LOG2 0)))
  | .DBG_TRACE_CFG => s.fld DBG_TRACE_CFG.EN 0 == 1 && F != DBG_TRACE_CFG.EN
  | .DBG_FREEZE => F == DBG_FREEZE.TRIAL && s.lc != 2
  | .TMR_WDOG => i == 16 && (F == TMR_WDOG.FREEZE ||
      (F == TMR_WDOG.EN && field w 63 63 == 0 && s.fld TMR_WDOG.EN i == 1 && s.lc != 2))
  | .DBG_PATCH_CFG => s.fld DBG_PATCH_CFG.LOCKED i == 1
  | .DBG_PATCH_DATA => s.fld DBG_PATCH_CFG.LOCKED (i / 4) == 1
  | .LDL_PART_CFG => s.fld LDL_PART_CFG.EN i == 1 && F != LDL_PART_CFG.EN && F != LDL_PART_CFG.UEN
  | .LDL_PART_MASK => s.fld LDL_PART_CFG.EN (i / 4) == 1
  | .PAIR_CTL => (F == PAIR_CTL.ROLE || F == PAIR_CTL.PARTNER) && decide (2 ≤ s.fld PAIR_STATUS.STATE i)
  | .RCP_BLOCK_CTL => F == RCP_BLOCK_CTL.PWR_ON && (decide (i ≤ 18) || i == 80 || i == 81 || i == 83)
  | _ => false

/-- The highest event code of the unit of a block counter (R522); the codes of a unit run from 1 without a gap, and 0 counts nothing. -/
def cntEvents (i : Nat) : Nat :=
  if i < 192 then 0x0E else if i < 384 then 8 else if i < 392 then 6 else if i < 400 then 8 else if i < 416 then 5 else 8

/-- The value that the sections with a rule across fields leave a write with: MESH_LINK_CFG never names one wire twice, judged on the
values that the write would leave, CNT_CFG takes only the events of its unit (R522), MCT_DECODE judges MIRROR and CH_MASK together,
LDL_PART_MASK keeps its reserved bits 0. -/
def State.fixup (s : State) (r : RegId) (i : Nat) (w : W) : W :=
  match r with
  | .MESH_LINK_CFG =>
    let old := s.rd r i
    let left := fun (F : Fld) (v : W) => if F.allows (field w F.hi F.lo) then v else putField v F.hi F.lo (field old F.hi F.lo)
    let w0 := left MESH_LINK_CFG.SPARE1_WIRE (left MESH_LINK_CFG.SPARE0_WIRE w)
    let clash := fun v : W => field v 57 48 == field v 41 32 && field v 41 32 != 0x3FF
    if clash w0 then
      let w1 := putField w0 57 48 (field old 57 48)
      if clash w1 then putField w1 41 32 (field old 41 32) else w1
    else w0
  | .CNT_CFG => if cntEvents i < field w 7 0 then putField w 7 0 (s.fld CNT_CFG.EVENT i) else w
  | .MCT_DECODE =>
    let m := field w 61 46
    let nb := (maskBits m).length
    let np := (maskPairs m).length
    let okPlain := nb == 1 || nb == 2 || nb == 4 || nb == 8 || nb == 16
    let okMirror := nb == 2 * np && (np == 1 || np == 2 || np == 4 || np == 8)
    let old := s.rd r i
    if (if field w 62 62 = 1 then okMirror else okPlain) then w
    else putField (putField w 62 62 (field old 62 62)) 61 46 (field old 61 46)
  | .LDL_PART_MASK => if i % 4 = 3 then 0 else if i % 4 = 2 then w &&& 0xFFFFFF else w
  | .WPC_OWNER => if 192 ≤ i ∧ i ≤ 287 then putField w 62 61 1 else w
  | _ => w

/-- One field under a write of `w` to its register: RW takes a value that is not reserved, W1C and W1S act on the ones,
and RO, RS and WO leave the register as it is (a WO field's action belongs to the command that names it). -/
def State.writeFld (s : State) (F : Fld) (i : Nat) (w : W) : State :=
  let v := field w F.hi F.lo
  if s.locked F i w then s
  else
    match F.acc with
    | .rw => if F.allows v then s.setFld F i v else s
    | .w1c => s.setFld F i (s.fld F i &&& ((2 ^ (F.hi + 1 - F.lo) - 1) ^^^ v))
    | .w1s => s.setFld F i (s.fld F i ||| v)
    | _ => s

/-- A write of `w` to unit `i` of a register, field by field, each judged on the register as it was before the write (R6,
R7); the rules across fields then apply. -/
def State.regWrite (s : State) (r : RegId) (i : Nat) (w : W) : State :=
  let w := s.fixup r i w
  r.flds.foldl (fun t F => if s.locked F i w then t else
    let v := field w F.hi F.lo
    match F.acc with
    | .rw => if F.allows v then t.setFld F i v else t
    | .w1c => t.setFld F i (t.fld F i &&& ((2 ^ (F.hi + 1 - F.lo) - 1) ^^^ v))
    | .w1s => t.setFld F i (t.fld F i ||| v)
    | _ => t) s

/-- A write to one 32-bit half (R5): RW fields take the covered bits and keep the rest; W1C, W1S and WO act only on
covered bits. The value is widened to 64 bits so that the whole-register rule judges it. -/
def State.halfValue (s : State) (r : RegId) (i : Nat) (high : Bool) (v : Nat) : W :=
  let cov := if high then BitVec.ofNat 64 ((v % 2 ^ 32) * 2 ^ 32) else BitVec.ofNat 64 (v % 2 ^ 32)
  let mask : W := if high then 0xFFFFFFFF00000000 else 0xFFFFFFFF
  let keep := r.flds.foldl (fun (m : W) F => if F.acc = .rw then putField m F.hi F.lo (2 ^ (F.hi + 1 - F.lo) - 1) else m) 0
  cov ||| (s.rd r i &&& keep &&& ~~~mask)

/-- Whether a register's section lets it be accessed as two 32-bit halves (R5): every ODC register but the fabric's, whose
section does not say so. -/
def halvesOk (r : RegId) : Bool :=
  match r with
  | .FAB_NODE | .FAB_ROUTE | .FAB_APERTURE | .FAB_INBOUND | .FAB_RXRING_CFG | .FAB_RXRING_PTR | .FAB_SQ_CFG
  | .FAB_SQ_PTR | .FAB_PORT_CTL | .FAB_PORT_STATUS => false
  | _ => true

/-- The register, unit and width form that an access of `size` bytes at `pa` reaches: none where R5 makes it an access
fault; a unit of none where no register lies there (R19). The last part says which half. -/
def regForm (pa size : Nat) : Option (Option (RegId × Nat) × Option Bool) :=
  if size = 8 ∧ pa % 8 = 0 then some (regAt pa, none)
  else if size = 4 ∧ pa % 4 = 0 then
    match regAt (pa - pa % 8) with
    | some (r, i) => if halvesOk r then some (some (r, i), some (pa % 8 == 4)) else none
    | none => some (none, some (pa % 8 == 4))
  else none

/-- Whether a device access of a core has a width and alignment that its target takes (R5, R312); any other is an access
fault. -/
def State.widthOk (s : State) (pa size : Nat) : Bool :=
  match s.region pa with
  | .odc | .secureOnly => (match regAt (pa - pa % 8) with
      | some _ => (regForm pa size).isSome
      | none => true)
  | .pcie => !s.isEcam pa || ((size == 1 || size == 2 || size == 4) && pa % size == 0)
  | _ => true

/-! ### Views: registers whose value is computed when it is read -/

/-- The best pending entry of a target: the earliest-ordered of the best priority below THRESH (R380). -/
def State.best (s : State) (h t : Nat) : Option PendEnt :=
  let es := s.pend.filter fun e => e.hart == h && e.page == t &&
    decide (e.prio < s.fld EVR_TGT_THRESH.THRESH (tgtIx h t))
  es.foldl (fun b e => match b with
    | none => some e
    | some b => if e.prio < b.prio then some e else some b) none

/-- Count the entries of a home's tables (TILE_HOME_STATUS). -/
def State.homeStatus (s : State) (t : Nat) : W :=
  let cnt := fun (l : List Nat) => (l.filter fun n => homeOf n == t).length
  putField (putField (putField (putField 0
    47 41 (cnt (s.depvb.map (·.1)))) 40 24 (cnt (s.sieve.map (·.1)))) 23 18 (cnt (s.fair.map (·.1))))
    8 0 (cnt (s.trk.map (·.1)))

/-- Bytes of a record (R190). -/
def JRec.bytes (r : JRec) : Nat := if r.typ = 1 then 64 + 72 * r.nlines else 64

/-- Bytes a stream holds in staging: its records, and the granted reservations whose request has no record yet (R193). -/
def State.staged (s : State) (stream : Nat) : Nat :=
  ((tget [] s.jrnRecs stream).map JRec.bytes).sum +
  (((tget [] s.jrnRes stream).filter fun r => r.granted).map (·.bytes)).sum

/-- The units of the mesh domain and the memory-controller stops, which are powered down only while no vote stands (R447): the event
router, the Spine, the journal engine, the IOMMU, the channels and the tiles' uncore. -/
def votedUnit (u : Nat) : Bool := u == 19 || u == 20 || u == 21 || u == 37 || decide (38 ≤ u ∧ u ≤ 77)

/-- The votes that stand (R359, R447): the secure world's while any core runs, and each partition's while a hart of it is out of reset. -/
def State.votes (s : State) : Nat :=
  let up := s.cores.filter fun e => e.2.run != .held && s.slotState e.1 == 0
  let parts := (List.range 16).foldl (fun m p => if up.any fun e => e.2.part == p then m + 2 ^ p else m) 0
  if up.any fun e => e.2.run != .gated then parts + 2 ^ 16 else parts

/-- A terminal register as it reads without popping (R505, R511): `dir` 0 is TX, which the port page drains, and 1 RX, which the endpoint
page drains; pages from 98 on are port pages. -/
def State.vtView (s : State) (dir i : Nat) : W :=
  let e := i % 98
  let drop := field (s.rd (if dir = 0 then .DBG_VT_TX else .DBG_VT_RX) e) 62 62
  let v := putField 0 62 62 drop
  if (dir = 0) = (98 ≤ i) then
    match tget [] s.dbg.vt (2 * e + dir) with
    | b :: _ => putField (putField v 63 63 1) 7 0 b
    | [] => v
  else v

/-- The level of a GPIO pin (R552): what it drives with OE, else what the board puts on it. -/
def State.gpioLevel (s : State) (n : Nat) : Bool :=
  if s.fld GPIO_CFG.OE n = 1 then s.fld GPIO_CFG.OUT n == 1 else tget false s.lsio.pin n

/-- The output ports of a node: 0 north, 1 east, 2 south, 3 west; ports on the die's edge are absent (R11, R150). -/
def portHere (node p : Nat) : Bool :=
  decide (node < 48) && (match p with
    | 0 => decide (8 ≤ node)
    | 1 => decide (node % 8 ≠ 7)
    | 2 => decide (node < 40)
    | 3 => decide (node % 8 ≠ 0)
    | _ => false)

/-- The Lid sections of a node: one per core slot of a tile, per channel of a memory-controller stop, per port of a fabric stop; 2 at
node 46, 3 at node 47, and 1 at every other stop (R147). -/
def lidSections (node : Nat) : Nat :=
  if 48 ≤ node then 0
  else if (nodeTile node).isSome then 5
  else if 8 ≤ node ∧ node < 40 then 2
  else if node = 41 ∨ node = 45 then 4
  else if node = 46 then 2
  else if node = 47 then 3
  else 1

/-- Whether a unit of a register belongs to a port or section that its node does not have: it reads 0 and ignores writes (R150). -/
def regAbsent (r : RegId) (i : Nat) : Bool :=
  match r with
  | .MESH_LINK_CFG => !portHere (i / 4) (i % 4)
  | .LID_SECTION => decide (lidSections (i / 5) ≤ i % 5)
  | _ => false

/-- The value a read of unit `i` of a register returns: WO fields read 0, and the fields that show state held elsewhere
are computed from it. `normal` is the reading partition when the reader is in the normal world. -/
def State.regRead (s : State) (r : RegId) (i : Nat) (normal : Option Nat) : W :=
  if regAbsent r i then 0 else
  let v := r.flds.foldl (fun (v : W) F => if F.acc = .wo then putField v F.hi F.lo 0 else v) (s.rd r i)
  match r with
  | .TILE_HOME_STATUS => s.homeStatus i
  | .MESH_INIT_STATUS =>
    putField v 10 0 (((List.range 1024).filter fun k => (tget {} s.txns (i * 1024 + k)).late == 3).length)
  | .SPN_STREAM_STATE =>
    let a := s.fld SPN_STREAM_ASSIGNED.A i
    let w := s.fld SPN_STREAM_WMARK.W i
    putField (putField v 42 32 (if s.fld SPN_STREAM_STATE.STATE i = 3 then 0 else Nat.min (a - w) 1024))
      31 24 (tget {} s.spn i).parked.length
  | .JRN_STREAM_STATUS => putField v 57 32 (s.staged i)
  | .CG_DEPSEQ => BitVec.ofNat 64 (tget {} (s.core i).deps (s.fld CG_DEPSEL.STREAM i)).seq
  | .CG_DEPMASK => (List.range 64).foldl (fun (m : W) n =>
      let d := tget {} (s.core i).deps n
      if d.seq ≠ 0 ∧ d.lost = false then m ||| (1 <<< n) else m) 0
  | .CG_DEPLOST => (List.range 64).foldl (fun (m : W) n =>
      if (tget {} (s.core i).deps n).lost then m ||| (1 <<< n) else m) 0
  | .CG_WMARK =>
    let st := s.fld CG_DEPSEL.STREAM i
    if s.streamMine i st then
      BitVec.ofNat 64 (s.pub (coreTile i) st).w else 0
  | .WSTATUS => putField v 3 0 (s.core i).part
  | .PAIR_STATUS => match s.pairOf i with
    | some n => putField v 10 0 (tget {} s.pairs n).log.length
    | none => v
  | .DBG_CORE_STATUS =>
    let trailer := match s.hartCore i with
      | some c => (match s.pairOf c with | some n => (tget {} s.pairs n).trailer == coreSlot c | none => false)
      | none => false
    let v := putField v 54 54 (b2n trailer)
    (match s.hartCore i with
     | some c => if (s.core c).run = .held then putField v 63 62 3 else v
     | none => putField v 63 62 3)
  | .EVR_SRC_PEND => (List.range 64).foldl (fun (m : W) n =>
      let src := 64 * i + n
      let mine := match normal with | none => true | some p => s.owner (ixSrc src) == some p
      if mine && s.pend.any (fun e => e.ident == src) then m ||| (1 <<< n) else m) 0
  | .EVR_TGT_STATUS =>
    let h := i / 17
    let t := i % 17
    let v := putField v 63 63 (b2n (s.signalled h t))
    let v := putField v 43 32 ((s.pend.filter fun e => e.hart == h && e.page == t).length)
    let v := match s.best h t with
      | some e => putField (putField v 12 12 1) 11 0 e.ident
      | none => putField v 12 0 0
    if t = 16 then v else putField v 62 61 0
  | .EVR_TGT_CLAIM => match s.best (i / 17) (i % 17) with
      | some e => putField (BitVec.ofNat 64 e.ident) 63 63 1
      | none => 0
  | .ERC_RECORD =>
    let e := tget {} s.records (i / 4)
    if e.seq = 0 then 0 else e.word (i % 4)
  | .CNT => BitVec.ofNat 64 (tget 0 s.cnt i % 2 ^ 48 + (tget 0 s.cnt i / 2 ^ 48) * 2 ^ 63)
  | .TILE_CORE_OVF => [0, 2, 3, 4, 5, 6, 7, 8].foldl (fun (m : W) k =>
      if tget 0 s.cnt (coreCntKey i k) / 2 ^ 48 = 1 then m ||| (1 <<< k) else m) 0
  | .RCP_BLOCK_CTL => if votedUnit i then putField v 16 0 s.votes else v
  | .DBG_AUTH => putField (s.rd .DBG_AUTH 1) 1 0 0
  | .DBG_AUTH_NONCE => s.rd .DBG_AUTH_NONCE (4 + i % 4)
  | .DBG_VT_TX => s.vtView 0 i
  | .DBG_VT_RX => s.vtView 1 i
  | .UART_STATUS =>
    let n := (tget [] s.lsio.tx i).length
    putField (putField (putField v 63 63 (b2n (n == 0 && (tget none s.lsio.shift i).isNone))) 62 56 n) 55 49 (tget [] s.lsio.rx i).length
  | .UART_DATA => (match tget [] s.lsio.rx i with
      | (b, e) :: _ => putField (putField (putField 0 63 63 1) 8 8 (b2n e)) 7 0 b
      | [] => 0)
  | .GPIO_CFG => putField v 0 0 (b2n (s.gpioLevel i))
  | _ => v

/-- Answer a read: the response goes to its sender, and to a core's device load that waits for it, whose packet its target has taken. -/
def State.answer (s : State) (ag : Agent) (data : W) (status : Nat) : State :=
  let s1 : State := { s with rsp := { data := data, status := status } }
  match ag with
  | .core c => match (s1.core c).devLoad with
    | some (n, a) =>
      if s1.isOdc a then
        (s1.take .devRead (tileNode (coreTile c) * 1024 + n) a).onCore c fun k => { k with devAns := some (data.toNat, status) }
      else s1
    | none => s1
  | .dbg _ _ => { s1 with dbg := { s1.dbg with ans := some (data.toNat, status) } }
  | _ => s1

/-- Answer a write: the response goes to its sender, and to the tag index of the store that its core has sent (R85). -/
def State.answerW (s : State) (ag : Agent) (pa status : Nat) : State :=
  match ag with
  | .core c => match s.odcStore c pa with
    | some e =>
      ({ s with rsp := { data := 0, status := status },
                txns := tset {} s.txns e.1 { e.2 with io := { e.2.io with taken := true, ans := some (0, status) } } } : State).take
        .devWrite e.1 e.2.pa
    | none => { s with rsp := { data := 0, status := status } }
  | _ => s.answer ag 0 status

/-- Answer a refused access. -/
def State.answerNo (s : State) (ag : Agent) (pa : Nat) (write : Bool) (status : Nat) : State :=
  if write then s.answerW ag pa status else s.answer ag 0 status

/-- The record of a refused or unanswered access, and its response (R20, R88, R143, R358): before issue the core's tile
writes WORLD_DENIED; on arrival a refused write is answered DENIED and the target writes DENIED, while a refused read of a
register returns 0 with status OK and is not logged. -/
def State.refuse (s : State) (ag : Agent) (g : Gate) (pa : Nat) (write : Bool) : State :=
  let p := s.accPart ag pa write
  match g with
  | .pass | .wait => s
  | .early => match ag with
    | .core c => (s.logRefusal (tileNode (coreTile c)) (coreSlot c) 0x800 p pa).answerNo ag pa write 5
    | _ => (s.logRefusal 47 0 0x800 p pa).answerNo ag pa write 3
  | .off => match ag with
    | .core c => (s.stopRecord (tileNode (coreTile c)) (coreSlot c) 0x103 pa).answerNo ag pa write 2
    | _ => s.answerNo ag pa write 2
  | .late =>
    if write then (s.logRefusal (odcStop pa).1 0xFF 0x104 p pa).answerW ag pa 3
    else s.answer ag 0 0

/-- Perform `k` on the state when the agent may write `w` to unit `i` of the register; otherwise refuse the write. The
register's own fields have been written when `k` runs. -/
def State.onWrite (s : State) (ag : Agent) (r : RegId) (i : Nat) (w : W) (k : State → State) : State :=
  match s.gate ag r i (some w) with
  | .pass => (if regAbsent r i then s else k (s.regWrite r i w)).answerW ag (regAddr r i) 0
  | g => s.refuse ag g (regAddr r i) true

/-! ### Buffers (R455, R458, R497) and reads -/

/-- A response: STATUS, DETAIL and payload (R456). -/
abbrev Ans := Nat × Nat × List Byte

def State.page (s : State) (n : Nat) : Page := tget {} s.pages n
def State.setPage (s : State) (n : Nat) (p : Page) : State := { s with pages := tset {} s.pages n p }

/-- The 16-byte header of a response (R456). -/
def State.rspHeader (s : State) (n code tag len status detail : Nat) : List Byte :=
  leBytes 2 code ++ leBytes 2 tag ++ leBytes 4 len ++ leBytes 2 status ++ leBytes 2 (s.fld MBX_STATUS.GENERATION n) ++ leBytes 4 detail

/-- A byte of a page's request area, which returns what the caller last wrote, or of its response area, by the page's state (R455,
R458). -/
def State.mbxByte (s : State) (n off : Nat) : Byte :=
  let p := s.page n
  if off < 0x1000 then 0
  else if off < 0x8000 then tget 0 p.req (off - 0x1000)
  else match s.fld MBX_STATUS.STATE n with
    | 1 => (match p.cur with | some m => s.rspHeader n m.code m.tag 0 1 0 | none => []).getD (off - 0x8000) 0
    | 2 => p.rsp.getD (off - 0x8000) 0
    | _ => 0

/-- A write to a page's request area, ignored while it is BUSY; every other byte ignores it (R455, R457). -/
def State.mbxPut (s : State) (n off : Nat) (bs : List Byte) : State :=
  if s.fld MBX_STATUS.STATE n = 1 then s
  else
    let p := s.page n
    let req := ((List.range bs.length).zip bs).foldl (fun t e =>
      let o := off + e.1
      if 0x1000 ≤ o ∧ o < 0x8000 then tset 0 t (o - 0x1000) e.2 else t) p.req
    s.setPage n { p with req := req }

/-- The buffers of the ODC space that are no registers: a mailbox page's areas, which take 1, 2, 4 or 8 bytes (R455), and the debug
certificate buffer (R497). -/
inductive Buf where
  | mbx (page off : Nat)
  | cert (off : Nat)
  deriving DecidableEq, Repr

def bufAt (pa : Nat) : Option Buf :=
  if 0xFE0001000000 ≤ pa ∧ pa < 0xFE0001120000 ∧ 0x1000 ≤ pa % 0x10000 then some (.mbx (pa / 0x10000 % 0x10000 - 0x100) (pa % 0x10000))
  else
    let o := pa - (regAddr .DBG_AUTH 0 + 0x2000)
    if regAddr .DBG_AUTH 0 + 0x2000 ≤ pa ∧ o < 5424 then some (.cert o) else none

/-- The gate of an access to an ODC address that is no register (R19, R20, R354, R358, R496). -/
def State.odcGate (s : State) (ag : Agent) (pa : Nat) (write : Bool) : Gate :=
  let stop := odcStop pa
  let sec := s.accSecure ag pa write
  let early := match ag with
    | .core _ | .dbg _ _ =>
      if 0xFF0000000000 ≤ pa then !sec
      else match odcUnit pa with
        | some u => !ownerPasses (s.owner u) sec (s.accPart ag pa write)
        | none => false
    | _ => false
  if s.odcTurn ag pa write = false then .wait
  else if early then .early
  else if (match stop.2 with | some k => s.lidState stop.1 k != 0 | none => false) then .off
  else match bufAt pa with
    | some (.cert _) => if s.dbg.ceilOn && s.lc != 5 && sec then .pass else .late
    | _ => .pass

/-- The bytes of a buffer. -/
def State.bufGet (s : State) (b : Buf) (size : Nat) : Nat :=
  match b with
  | .mbx n off => ofLeBytes ((List.range size).map fun i => s.mbxByte n (off + i))
  | .cert off => ofLeBytes ((List.range size).map fun i => tget 0 s.dbg.cert (off + i))

/-- Write the bytes of a buffer. -/
def State.bufPut (s : State) (b : Buf) (bs : List Byte) : State :=
  match b with
  | .mbx n off => s.mbxPut n off bs
  | .cert off =>
    let cert := ((List.range bs.length).zip bs).foldl (fun t e => if off + e.1 < 5424 then tset 0 t (off + e.1) e.2 else t) s.dbg.cert
    { s with dbg := { s.dbg with cert := cert } }

/-- Whether a read of a register has a row of its own: its RS fields latch a snapshot, pop or claim (R7), or it reads a core's register
(R503). -/
def readRow (r : RegId) : Bool := r = .DBG_CORE_REGDATA || r.flds.any fun F => F.acc == .rs

/-- The key of a register's snapshot (R7). -/
def snapKey (r : RegId) (i : Nat) : Nat := r.num * 65536 + i

/-- Latch the snapshot of a register (R7). -/
def State.snap (s : State) (r : RegId) (i : Nat) (v : W) : State := { s with snaps := tset none s.snaps (snapKey r i) (some v) }

/-- One half of a register's value, or all of it. -/
def halfOf (v : W) (half : Option Bool) : W :=
  match half with
  | some true => v >>> 32
  | some false => v &&& 0xFFFFFFFF
  | none => v

/-- A read of an ODC or secure-only address that has no row of its own, with its answer (R5, R7, R17, R19, R358). A read of RCP_RTC's low
half latches the high half for the next read of it (R453). -/
def State.odcRead (s : State) (ag : Agent) (pa size : Nat) : State :=
  match bufAt pa with
  | some b => (match s.odcGate ag pa false with
      | .pass => s.answer ag (BitVec.ofNat 64 (s.bufGet b size)) 0
      | g => s.refuse ag g pa false)
  | none => match regForm pa size with
    | none => (match regAt (pa - pa % 8) with
        | some _ => s.answer ag 0 5
        | none => (match s.odcGate ag pa false with
            | .pass => s.answer ag 0 0
            | g => s.refuse ag g pa false))
    | some (none, _) => (match s.odcGate ag pa false with
        | .pass => s.answer ag 0 0
        | g => s.refuse ag g pa false)
    | some (some (r, i), half) => (match s.gate ag r i none with
        | .pass =>
          let cur := s.regRead r i (if s.agentSecure ag then none else some (s.agentPart ag))
          if r = .RCP_RTC then
            let snap := tget none s.snaps (snapKey r i)
            let v := if half = some true then snap.getD cur else cur
            ({ s with snaps := tset none s.snaps (snapKey r i) (if half = some false then some cur else if half = some true then none else snap) }
              : State).answer ag (halfOf v half) 0
          else s.answer ag (halfOf cur half) 0
        | g => s.refuse ag g pa false)

/-- Serve a device load of a core from the on-die or secure-only space, once it is under way: every register without a row of its own for
reads, and the buffers. -/
def State.serveLoad (s : State) (c pa size : Nat) : State :=
  match s.region pa with
  | .odc | .secureOnly =>
    (match regAt (pa - pa % 8) with
     | some (r, _) => if readRow r then s else s.odcRead (.core c) pa size
     | none => s.odcRead (.core c) pa size)
  | _ => s

end Sys2Proof.Machine
end

