-- ==== Sys2Proof/Machine/CoreOps.lean ====
section
/-! DEFINITION. What every instruction of a core shares: the World Table check, translation and its checks, triggers and
trace, traps and world switches, debug halts, retirement, and the bookkeeping of checked pairs. -/

namespace Sys2Proof.Machine

open Sys2Proof

/-! ### Trace and debug halts (R500, R502, R512) -/

/-- Record a trace packet for a core's hart, if it is traced into a ring it may enter; a packet that finds its 4 KiB
buffer full is dropped and counted, and a LOST packet tells of it once there is room (R512). -/
def State.trace (s : State) (c typ info addr : Nat) : State :=
  let h := s.coreHart c
  let k := s.core c
  if 96 ≤ h ∨ s.fld DBG_CORE_CTL.TRACE h = 0 ∨ s.fld DBG_TRACE_CFG.EN 0 = 0 then s
  else if s.fld DBG_TRACE_CFG.WORLD 0 = 0 ∧ k.part ≠ s.fld DBG_TRACE_CFG.PARTITION 0 then s
  else
    let buf := tget [] s.traceBuf h
    let sess := s.fld DBG_AUTH.SESSION 0 = 2 ∨ s.fld DBG_AUTH.SESSION 1 = 2
    let gap := k.secure && !decide sess && typ != 0x05
    if gap && (match buf.getLast? with | some p => p.typ == 0x0E | none => false) then s
    else
      let p : TracePkt := if gap then { typ := 0x0E, info := 0, time := s.dtime % 2 ^ 32, addr := k.pc.toNat }
        else { typ := typ, info := info % 2 ^ 16, time := s.dtime % 2 ^ 32, addr := addr }
      let n := tget 0 s.dbg.lost h
      let lostPkt : TracePkt := { typ := 0x0D, info := Nat.min n 65535, time := s.dtime % 2 ^ 32, addr := 0 }
      if n ≠ 0 ∧ buf.length < 255 then
        { s with traceBuf := tset [] s.traceBuf h (buf ++ [lostPkt, p]), dbg := { s.dbg with lost := tset 0 s.dbg.lost h 0 } }
      else if n = 0 ∧ buf.length < 256 then { s with traceBuf := tset [] s.traceBuf h (buf ++ [p]) }
      else
        let s1 : State := { s with dbg := { s.dbg with lost := tset 0 s.dbg.lost h (n + 1) } }
        (s1.incSat DBG_TRACE_PTR.LOST 0).raise 1762

/-- The trailer of a pair that a core leads stops and goes on with it (R219): its run state. -/
def State.trailerRun (s : State) (c : Nat) (r : Run) : State :=
  match s.ledPair c with
  | some i => s.onCore (i / 2 * 5 + (tget {} s.pairs i).trailer) fun k => { k with run := r, idle := .running }
  | none => s

/-- Enter the debug halt (R499, R500, R513): an open group aborts with DEBUG and the core halts at its fallback, the
reservation is cleared; both cores of a pair halt, and the halt is an entry of its log with its cause (R203, R219; the cause as its VALUE is
a DESIGN CHOICE, log 43). -/
def State.enterHalt (s : State) (c cause trig : Nat) : State :=
  let h := s.coreHart c
  let s1 := ((s.abortGroup c 0x06 0 0).pairLog c 7 (BitVec.ofNat 64 cause)).trailerRun c .halted
  let s2 := s1.onCore c fun k =>
    { k with resv := none, run := .halted, idle := if k.run = .halted then k.idle else k.run,
             haltReq := false, step := false, stopNext := none, cgWait := none }
  let s3 := ((s2.setFld DBG_CORE_STATUS.STATE h 2).setFld DBG_CORE_STATUS.CAUSE h cause).setFld
    DBG_CORE_STATUS.TRIGGER h trig
  let s4 := (s3.trace c 0x0A 0 (s3.core c).pc.toNat).raise 1760
  { s4 with dbg := { s4.dbg with froze := tset false s4.dbg.froze (s4.core c).part true } }

/-- The bit of EBREAKM and of a trigger's MODES that stands for a core's present mode: M, S or HS, U, VS or VU. -/
def Core.modeBit (k : Core) : Nat :=
  if k.virt then 0 else match k.mode with | .m => 3 | .s => 2 | .u => 1

/-- Whether a debug session reaches a core: a FULL session, or a NORMAL_CERT session of its partition while it runs in the
normal world (R496, R498). -/
def State.sessionReaches (s : State) (port c right : Nat) : Bool :=
  let k := s.core c
  s.fld DBG_AUTH.SESSION port == 2 ||
  (s.fld DBG_AUTH.SESSION port == 1 && (s.fld DBG_AUTH.PART_MASK port).testBit k.part &&
    (s.fld DBG_AUTH.RIGHTS port).testBit right)

/-- Whether a FULL session is open on a port. -/
def State.fullSession (s : State) : Bool := s.fld DBG_AUTH.SESSION 0 == 2 || s.fld DBG_AUTH.SESSION 1 == 2

/-- Whether a pending halt takes effect now (R498): a FULL session stops a core anywhere, any other one only in the normal
world. -/
def State.haltReaches (s : State) (c : Nat) : Bool := s.fullSession || !(s.core c).secure

/-- Whether trigger `n` of a hart matches (R502): `typ` is its TYPE's value and `vs` the values it compares. -/
def State.trigMatch (s : State) (h n : Nat) (k : Core) (typs vs : List Nat) : Bool :=
  let i := h * 8 + n
  let val := (s.rd .DBG_TRIG_VAL i).toNat
  let full := s.fld DBG_AUTH.SESSION 0 == 2 || s.fld DBG_AUTH.SESSION 1 == 2
  s.fld DBG_TRIG_CFG.EN i == 1 && typs.contains (s.fld DBG_TRIG_CFG.TYPE i) &&
  (s.fld DBG_TRIG_CFG.MODES i).testBit k.modeBit && (full || !k.secure) &&
  vs.any fun v => match s.fld DBG_TRIG_CFG.MATCH i with
    | 0 => v == val
    | 1 => decide (val ≤ v)
    | _ => decide (v < val)

/-- The triggers of a core's hart that fire on one instruction: `addr` pairs each address type with the addresses it
compares, `data` the data types with the values. A chained trigger fires only with its successor (R502). -/
def State.fired (s : State) (c : Nat) (tests : List (List Nat × List Nat)) : List Nat :=
  let h := s.coreHart c
  let k := s.core c
  let hit := fun n => tests.any fun t => s.trigMatch h n k t.1 t.2
  if 96 ≤ h then [] else
  (List.range 8).filter fun n =>
    hit n && (n == 7 || s.fld DBG_TRIG_CFG.CHAIN (h * 8 + n) == 0 || hit (n + 1))

/-- Act on the fired triggers: those whose ACTION is a packet record it, and the lowest-numbered halting one, if any, is
returned (R502). -/
def State.trigPackets (s : State) (c : Nat) (ns : List Nat) : State :=
  ns.foldl (fun s n => if s.fld DBG_TRIG_CFG.ACTION (s.coreHart c * 8 + n) = 1
    then s.trace c 0x0F n (s.core c).pc.toNat else s) s

def State.trigHalt (s : State) (c : Nat) (ns : List Nat) : Option Nat :=
  ns.find? fun n => s.fld DBG_TRIG_CFG.ACTION (s.coreHart c * 8 + n) = 0

/-! ### Checked pairs: readiness, log and intervals (R198 to R207) -/

/-- CRC-64 of ECMA-182, not reflected, one bit at a time (R207). -/
def crc64Bits : Nat → W → W
  | 0, x => x
  | n + 1, x => crc64Bits n (if bit x 63 then (x <<< 1) ^^^ 0x42F0E1EBA9EA3693 else x <<< 1)

def crc64Byte (crc : W) (b : Nat) : W := crc64Bits 8 (crc ^^^ (BitVec.ofNat 64 (b % 256) <<< 56))

/-- crc64(sig, v): the CRC of the 8 bytes of `v`, least significant first (R207). -/
def crc64 (crc : W) (v : Nat) : W :=
  (List.range 8).foldl (fun c i => crc64Byte c (v >>> (8 * i))) crc

/-- Whether a core can execute its next instruction: it is running, no CG.END of it waits, its partition's cores are not stopped for a P-state
change (R50), no group of it is between its reservation and its visibility, it is no trailer, and, leading a pair, at
most two intervals await comparison, the input log has room, and in a vote the cores run the voted interval (R204, R206,
R212). -/
def State.ready (s : State) (c : Nat) : Bool :=
  let k := s.core c
  !(k.stopNext.isSome && s.haltReaches c) && !k.swapStop && !tget false s.pStop k.part &&
  k.run == .running && k.cgWait.isNone && k.depseqReq.isNone && !s.isTrailer c &&
  (match k.group with | some g => g.phase == .opened | none => true) &&
  (match s.ledPair c with
   | some i => let p := tget {} s.pairs i
     decide (p.log.length < 1024) && !p.voteWaits &&
     (match p.vote with
      | none => decide (p.awaiting.length ≤ 2)
      | some v => v.powered && p.awaiting.isEmpty)
   | none => true)

/-- End the leader's open interval: it awaits comparison and a new one opens at the leader's present state (R205). -/
def State.endIval (s : State) (i : Nat) : State :=
  let p := tget {} s.pairs i
  let s1 : State := { s with pairs := tset {} s.pairs i { p with awaiting := p.awaiting ++ [p.cur] } }
  s1.openIval i

/-- Whether every interval of the core's pair, the open one included, has been compared: what the events of R205 marked
"waits" need before they go on. -/
def State.allCompared (s : State) (c : Nat) : Bool :=
  match s.ledPair c with
  | none => true
  | some i => let p := tget {} s.pairs i
    p.awaiting.isEmpty && p.cur.count == 0 && p.cur.stores.isEmpty

/-- Close the open interval so that it can be compared, if it holds anything; the instruction then waits. -/
def State.closeIval (s : State) (c : Nat) : State :=
  match s.ledPair c with
  | none => s
  | some i => let p := tget {} s.pairs i
    if p.cur.count = 0 ∧ p.cur.stores = [] then s else s.endIval i

/-- The restart point of a pair moves past an instruction that was performed once, after the comparison (R205, R217): the open
interval starts again at the leader's present state, with what has been folded into its signature. -/
def State.rebase (s : State) (c : Nat) : State :=
  match s.ledPair c with
  | none => s
  | some i =>
    let p := tget {} s.pairs i
    let k := s.core c
    let cur : Ival := { p.cur with startPc := k.pc, ck := s.ivalCk c, count := 0, stores := [] }
    { s with pairs := tset {} s.pairs i { p with cur := cur } }

/-- The trigger tests of an instruction at `pc`: EXEC its address; LOAD, STORE and LOAD_OR_STORE each byte accessed;
DATA_LOAD and DATA_STORE the values (R502). -/
def trigTests (pc : Nat) (a : Option MemAcc) : List (List Nat × List Nat) :=
  ([0], [pc]) :: match a with
    | none => []
    | some a =>
      let addrs := (List.range a.size).map fun i => a.va + i
      (if a.ld then [([1, 3], addrs)] else []) ++ (if a.st then [([2, 3], addrs)] else []) ++
      (match a.ldVal with | some v => [([4], [v])] | none => []) ++
      (match a.stVal with | some v => [([5], [v])] | none => [])

/-- A retired instruction of a pair's leader is folded into the open interval's signature (R207): its address, the values it wrote to
its destinations, and the address and size of its access; the interval ends at its 512th instruction or 64th store (R205). -/
def State.pairFold (s : State) (c pc : Nat) (dests : List W) (a : Option MemAcc) : State :=
  match s.ledPair c with
  | none => s
  | some i =>
    let p : Pair := tget {} s.pairs i
    let sig := dests.foldl (fun (g : W) (d : W) => crc64 g d.toNat) (crc64 p.cur.sig pc)
    let sig := match a with
      | some a => crc64 sig (a.va ^^^ (a.size <<< 56))
      | none => sig
    let p' : Pair := { p with cur := { p.cur with sig := sig, count := p.cur.count + 1 } }
    let s' : State := { s with pairs := tset {} s.pairs i p' }
    if 512 ≤ p'.cur.count ∨ 64 ≤ p'.cur.stores.length then s'.endIval i else s'

/-- A retired instruction's single step or fired trigger, if any, halts the core, or leaves it to halt when the session reaches it
(R498, R501, R502). -/
def State.stopAfter (s : State) (c : Nat) (ns : List Nat) : State :=
  match (if (s.core c).step then some (2, 0) else (s.trigHalt c ns).map fun n => (3, n)) with
  | none => s
  | some (cause, n) =>
    if s.allCompared c && s.haltReaches c then s.enterHalt c cause n
    else (s.onCore c fun k => { k with stopNext := some (cause, n), step := false }).closeIval c

/-- The oldest instruction leaves the core for the one at `next`: it takes its load-queue entries with it (R81). -/
def Core.advance (k : Core) (next : W) : Core :=
  { k with pc := next, icount := k.icount + 1, loadq := k.loadq.filter fun e => decide (k.icount < e.at_) }

/-- One instruction retires: the pc moves to `next`, minstret counts it, a pair folds it into the interval's signature (R207); fired
triggers write their packets, and one that halts, or a single step, halts the core (R501, R502). -/
def State.retireTo (s : State) (c : Nat) (next : W) (dests : List W) (a : Option MemAcc) : State :=
  let pc := (s.core c).pc.toNat
  let ns := s.fired c (trigTests pc a)
  ((((s.trigPackets c ns).onCore c fun k => (k.advance next)).countInstret c).pairFold c pc dests a).stopAfter c ns

/-- An instruction of `len` bytes retires and the next one follows it. -/
def State.retire (s : State) (c len : Nat) (dests : List W) (a : Option MemAcc) : State :=
  s.retireTo c ((s.core c).pc + BitVec.ofNat 64 len) dests a

/-- Start an instruction: nothing happens while the core cannot execute (its command is then sent again); a halting
address trigger halts before the instruction executes, unless the instruction is single-stepped (R501, R502). -/
def State.issue (s : State) (c : Nat) (a : Option MemAcc) (k : State → State) : State :=
  if s.ready c = false then s
  else
    match (if (s.core c).step then none else s.trigHalt c (s.fired c (trigTests (s.core c).pc.toNat a))) with
    | some n => if s.allCompared c then s.enterHalt c 3 n else s.closeIval c
    | none => k s

/-! ### Worlds (R349, R353 to R358) -/

/-- The byte of the World Table for a granule, through a tile's or an agent's World Table cache (R353, R355); the cache
holds 128 lines and drops the oldest. Keys: tiles 0 to 23, 24 IOMMU, 25 fabric agent, 26 cipher agent, 27 journal agent. -/
def State.wtFetch (s : State) (key part pa : Nat) : Nat × State :=
  let ta := s.fld WPC_CFG.WT_BASE 0 * 2 ^ 22 + pa / 2 ^ 21
  let ln := ta / 64
  let cache := tget [] s.wtCache key
  match cache.find? fun e => e.1 == ln with
  | some e => (lineGet e.2 (ta % 64) 1, s)
  | none =>
    let d := (s.curLine ln).data
    let cache' := (if cache.length < 128 then cache else cache.drop 1) ++ [(ln, d)]
    let s1 : State := { s with wtCache := tset [] s.wtCache key cache' }
    (lineGet d (ta % 64) 1, if key < 24 then s1.count (cuTile key) 0x0E (some part) 1 else s1)

/-- The owner of a DRAM address (R353): a partition, or none for secure. -/
def State.dramOwner (s : State) (key part pa : Nat) : Option Nat × State :=
  if s.fld WPC_CFG.WT_EN 0 = 0 then (none, s)
  else if pa / 2 ^ 22 = s.fld WPC_CFG.WT_BASE 0 then (none, s)
  else
    let r := s.wtFetch key part pa
    ((if r.1.testBit 7 && !r.1.testBit 4 then some (r.1 % 16) else none), r.2)

/-- Whether an access with these tags may reach a physical address (R17, R354). -/
def State.worldOk (s : State) (key : Nat) (secure : Bool) (part pa : Nat) : Bool × State :=
  match s.region pa with
  | .dram => let r := s.dramOwner key part pa; (ownerPasses r.1 secure part, r.2)
  | .aperture => (ownerPasses (s.owner (ixAper (pa / 0x80000000 % 0x1000))) secure part, s)
  | .pcie => (ownerPasses (s.regionOwner pa) secure part, s)
  | .odc => (match odcUnit pa with
      | some u => ownerPasses (s.owner u) secure part
      | none => true, s)
  | .secureOnly => (secure, s)
  | .vacant => (false, s)

/-- Every world switch empties the return-address stack, clears the reservation and aborts an open group with WORLD_SWITCH
(R349). -/
def State.worldSwitch (s : State) (c : Nat) (secure : Bool) : State :=
  let s1 := s.abortGroup c 0x0C 0 0
  let s2 := s1.onCore c fun k => { k.squash with ras := [], resv := none, secure := secure }
  s2.trace c 0x05 (b2n secure) (s2.core c).pc.toNat

/-! ### Traps (R30, R33, R53, R157, R349, R377) -/

/-- A trap vector: BASE, or BASE + 4 × code for an interrupt in vectored mode (R33). -/
def trapTarget (tvec : W) (intr : Bool) (code : Nat) : W :=
  let base := tvec &&& ~~~(3 : W)
  if bit tvec 0 && intr then base + BitVec.ofNat 64 (4 * code) else base

/-- A trap cause register's value. -/
def causeWord (intr : Bool) (code : Nat) : W :=
  if intr then BitVec.ofNat 64 (2 ^ 63 + code) else BitVec.ofNat 64 code

/-- mideleg: bits 2, 6, 10 and 12 read 1 with the hypervisor extension. -/
def Core.mideleg (k : Core) : W := (k.getCsr 0x303 &&& 0x222) ||| 0x1444

/-- Whether a trap is delegated past M-mode, and past HS-mode: to VS-mode only from V = 1. Bit 24 of medeleg, WCALL's,
reads 0 (R351). -/
def Core.delegTo (k : Core) (intr : Bool) (code : Nat) : Mode × Bool :=
  let md := if intr then k.mideleg else k.getCsr 0x302
  let hd := if intr then k.getCsr 0x603 else k.getCsr 0x602
  if k.mode = .m ∨ bit md code = false ∨ (code = 24 ∧ intr = false) ∨ (code = 32 ∧ intr) then (.m, false)
  else if k.virt && bit hd code then (.s, true) else (.s, false)

/-- Whether a trap from a virtual mode writes a guest virtual address as its trap value: a misaligned address, an access fault, a
breakpoint, a page fault or a guest page fault (R33). -/
def Core.trapGva (k : Core) (intr : Bool) (code : Nat) : Bool :=
  k.virt && !intr && [0, 1, 3, 4, 5, 6, 7, 12, 13, 15, 20, 21, 23].contains code

/-- Write the saved state and enter the handler (R30, R33): pc, cause, trap value and, for a guest page fault, the guest
physical address shifted right by 2; the status stack of the mode entered; then the mode and the vector. -/
def Core.enterTrap (k : Core) (intr : Bool) (code : Nat) (tval gpa : W) : Core :=
  let st := k.getCsr 0x300
  match k.delegTo intr code with
  | (.s, true) =>
    let vst := k.getCsr 0x200
    let vst := putField (putField (putField vst 8 8 (if k.mode = .s then 1 else 0)) 5 5 (field vst 1 1)) 1 1 0
    let code' := if intr then code - 1 else code
    { ((((k.setCsr 0x241 k.pc).setCsr 0x242 (causeWord intr code')).setCsr 0x243 tval).setCsr 0x200 vst) with
      mode := .s, virt := true, pc := trapTarget (k.getCsr 0x205) intr code' }
  | (.s, false) =>
    let st := putField (putField (putField st 8 8 (if k.mode = .s then 1 else 0)) 5 5 (field st 1 1)) 1 1 0
    let hs := k.getCsr 0x600
    let hs := putField (putField hs 7 7 (b2n k.virt)) 6 6 (b2n (k.trapGva intr code))
    let hs := if k.virt then putField hs 8 8 (if k.mode = .s then 1 else 0) else hs
    { ((((((k.setCsr 0x141 k.pc).setCsr 0x142 (causeWord intr code)).setCsr 0x143 tval).setCsr 0x643 gpa).setCsr
        0x300 st).setCsr 0x600 hs) with
      mode := .s, virt := false, pc := trapTarget (k.getCsr 0x105) intr code }
  | _ =>
    let mpp := match k.mode with | .m => 3 | .s => 1 | .u => 0
    let st := putField (putField (putField st 12 11 mpp) 7 7 (field st 3 3)) 3 3 0
    let st := putField (putField st 39 39 (b2n k.virt)) 38 38 (b2n (k.trapGva intr code))
    { (((((k.setCsr 0x341 k.pc).setCsr 0x342 (causeWord intr code)).setCsr 0x343 tval).setCsr 0x34B gpa).setCsr
        0x300 st) with
      mode := .m, virt := false, pc := trapTarget (k.getCsr 0x305) intr code }

/-- What mtval2 or htval takes (R33): the guest physical address of a guest page fault, shifted right by 2, and 0 for any other trap. -/
def trapGpa (intr : Bool) (code : Nat) (gpa : W) : W := if intr = false ∧ (code = 20 ∨ code = 21 ∨ code = 23) then gpa else 0

/-- Take a trap (R90, R167, R349): the reservation is cleared, a CG.END that waits for durability is left to run again, and
a trap into M-mode from the normal world is a world switch, which WSTATUS.PREV_NS records. A step whose instruction traps halts
at the handler's first instruction, or, where the session does not reach it, when the core is back (R498, R501). -/
def State.takeTrap (s : State) (c : Nat) (intr : Bool) (code : Nat) (tval gpa : W) : State :=
  let gpa := trapGpa intr code gpa
  let k0 := s.core c
  let toM := (k0.delegTo intr code).1 = .m
  let s1 := if toM ∧ k0.secure = false then s.worldSwitch c true else s
  let k := s1.core c
  let epc := k.pc.toNat
  let s2 := s1.setCore c { (k.enterTrap intr code tval gpa).squash with
    resv := none, cgWait := none, run := if k.run = .wfi ∨ k.run = .pause then .running else k.run }
  let s3 := if toM then s2.setFld WSTATUS.PREV_NS c (b2n (!k0.secure)) else s2
  let s4 := ((s3.coreCount c 0x10).trace c (if intr then 0x03 else 0x02) code epc).rebase c
  if k0.step then
    (if s4.haltReaches c then (if intr then s4 else s4.enterHalt c 2 0)
     else s4.onCore c fun k => { k with step := false, stopNext := some (if intr then 6 else 2, 0) })
  else s4

/-- A synchronous exception of the oldest instruction: inside an open group it ends the group with EXCEPTION and its code,
and no exception is taken; otherwise the trap is taken (R157), on a pair only once every earlier instruction has been
compared (R205). -/
def State.exception (s : State) (c code : Nat) (tval gpa : W) : State :=
  match (s.core c).group with
  | some _ => let s1 := s.abortGroup c 0x04 code 0
    s1.trace c 0x08 0x04 0
  | none =>
    if s.allCompared c then s.takeTrap c false code tval gpa else s.closeIval c

/-- An access that ends the group with DEVICE_ACCESS (R157). -/
def State.deviceAbort (s : State) (c : Nat) : State := (s.abortGroup c 0x07 0 0).trace c 0x08 0x07 0

/-! ### Translation (R56 to R62, R70 to R75) -/

/-- Whether floating-point or vector state is off in the present mode (mstatus.FS and VS, and vsstatus's where V is 1). -/
def Core.fsOff (k : Core) : Bool :=
  field (k.getCsr 0x300) 14 13 == 0 || (k.virt && field (k.getCsr 0x200) 14 13 == 0)
def Core.vsOff (k : Core) : Bool :=
  field (k.getCsr 0x300) 10 9 == 0 || (k.virt && field (k.getCsr 0x200) 10 9 == 0)

/-- The kind of access of a code: 0 load, 1 store or AMO, 2 instruction fetch. Codes 4, 5 and 6 are the hypervisor's HLV, HSV and HLVX, which
load, store and load. -/
def accBase (acc : Nat) : Nat := if acc = 4 ∨ acc = 6 then 0 else if acc = 5 then 1 else acc

/-- The privilege mode an access runs in: the hypervisor's loads and stores in VS or VU as hstatus.SPVP says; MPRV lets M-mode use MPP's
for its data accesses. -/
def Core.accMode (k : Core) (acc : Nat) : Mode × Bool :=
  let st := k.getCsr 0x300
  if 4 ≤ acc then (if bit (k.getCsr 0x600) 8 then .s else .u, true)
  else if k.mode = .m ∧ bit st 17 ∧ acc ≠ 2 then
    (match field st 12 11 with | 3 => (.m, false) | 1 => (.s, field st 39 39 == 1) | _ => (.u, field st 39 39 == 1))
  else (k.mode, k.virt)

/-- The root register of the first stage and its MODE, for an access in a mode. -/
def Core.root (k : Core) (virt : Bool) : W := if virt then k.getCsr 0x280 else k.getCsr 0x180

/-- Whether an access is translated at all: not in M-mode, and not when every stage that applies is Bare. -/
def Core.translated (k : Core) (md : Mode) (virt : Bool) : Bool :=
  md != .m && (field (k.root virt) 63 60 != 0 || (virt && field (k.getCsr 0x680) 63 60 != 0))

/-- Whether a TLB entry serves an access: same world, partition, stage kind, VMID and ASID, and its page covers the address (R59, R60). -/
def Core.tlbHit (k : Core) (virt : Bool) (va : Nat) (e : TlbEnt) : Bool :=
  let asid := field (k.root virt) 59 44
  let vmid := field (k.getCsr 0x680) 57 44
  e.secure == k.secure && e.part == k.part && e.two == virt &&
    (e.glob || e.asid == asid) && (!virt || e.vmid == vmid) && va / 2 ^ e.size == e.vbase / 2 ^ e.size

/-- The TLB entry that serves an access: in the first level for fetches or data, then in the L2 TLB and its large-page part (R60). -/
def Core.tlbFind (k : Core) (virt : Bool) (acc va : Nat) : Option TlbEnt :=
  ((if acc = 2 then k.itlb else k.dtlb) ++ k.tlb ++ k.tlbBig).find? (k.tlbHit virt va)

/-- Whether two entries map the same page for the same context, so that the newer replaces the older. -/
def TlbEnt.clash (e o : TlbEnt) : Bool :=
  o.secure == e.secure && o.part == e.part && o.two == e.two && o.vmid == e.vmid && o.asid == e.asid &&
  o.vbase / 2 ^ (Nat.max o.size e.size) == e.vbase / 2 ^ (Nat.max o.size e.size)

/-- Put an entry at the front of a fully associative structure of `n`. The spec does not say which entry a full structure gives up: the model
drops the one filled first (DESIGN CHOICE, log 23). -/
def tlbPut (l : List TlbEnt) (n : Nat) (e : TlbEnt) : List TlbEnt := (e :: l.filter fun o => !e.clash o).take n

/-- Put an entry into the L2 TLB: 256 sets of 12 ways, by the page number of its own size (the set function is a DESIGN CHOICE, log 23). -/
def tlbPutSet (l : List TlbEnt) (e : TlbEnt) : List TlbEnt :=
  let others := l.filter fun o => !e.clash o
  let same := fun (o : TlbEnt) => o.size == e.size && o.vbase / 2 ^ o.size % 256 == e.vbase / 2 ^ e.size % 256
  e :: (others.filter same).take 11 ++ others.filter fun o => !same o

/-- Fill a translation into the first level for its kind of access and into the L2 TLB or its large-page part (R60). -/
def Core.tlbAdd (k : Core) (acc : Nat) (e : TlbEnt) : Core :=
  let k1 := if acc = 2 then { k with itlb := tlbPut k.itlb 64 e } else { k with dtlb := tlbPut k.dtlb 96 e }
  if e.size ≤ 21 then { k1 with tlb := tlbPutSet k1.tlb e } else { k1 with tlbBig := tlbPut k1.tlbBig 32 e }

/-- Drop entries from every translation structure. -/
def Core.tlbDrop (k : Core) (hit : TlbEnt → Bool) : Core :=
  let f := fun (l : List TlbEnt) => l.filter fun e => !hit e
  { k with tlb := f k.tlb, tlbBig := f k.tlbBig, dtlb := f k.dtlb, itlb := f k.itlb }

/-- The page-fault, guest-page-fault, access-fault and misaligned causes of an access. -/
def pfCause (acc : Nat) : Nat := if accBase acc = 0 then 13 else if accBase acc = 1 then 15 else 12
def gpfCause (acc : Nat) : Nat := if accBase acc = 0 then 21 else if accBase acc = 1 then 23 else 20
def afCause (acc : Nat) : Nat := if accBase acc = 0 then 5 else if accBase acc = 1 then 7 else 1
def maCause (acc : Nat) : Nat := if accBase acc = 0 then 4 else 6

/-- Whether a page may be reached from a mode by its U bit (SUM of mstatus). -/
def userOk (st : W) (md : Mode) (u : Bool) (acc : Nat) : Bool :=
  match md with
  | .u => u
  | .s => !u || (acc != 2 && bit st 18)
  | .m => true

/-- Whether a page's R, W and X allow an access: MXR of mstatus lets a load read an executable page, and HLVX needs X. -/
def rwxOk (st : W) (r w x : Bool) (acc : Nat) : Bool :=
  if acc = 6 then x else if accBase acc = 0 then r || (x && bit st 19) else if accBase acc = 1 then w else x

/-- Whether a translation's permissions allow an access in a mode. -/
def permOk (st : W) (md : Mode) (r w x u : Bool) (acc : Nat) : Bool := userOk st md u acc && rwxOk st r w x acc

/-- The byte of pmpcfg for PMP entry `n`, and the range of a NAPOT or TOR entry at 4 KiB granularity (R33). -/
def Core.pmpCfg (k : Core) (n : Nat) : Nat :=
  field (k.getCsr (if n < 8 then 0x3A0 else 0x3A2)) (8 * (n % 8) + 7) (8 * (n % 8))

/-- The number of low one bits of a value. -/
def trailOnes : Nat → Nat → Nat
  | 0, _ => 0
  | n + 1, v => if v % 2 = 1 then trailOnes n (v / 2) + 1 else 0

def Core.pmpRange (k : Core) (n : Nat) : Nat × Nat :=
  let a := (k.getCsr (0x3B0 + n)).toNat % 2 ^ 54
  match (k.pmpCfg n / 8) % 4 with
  | 1 => ((if n = 0 then 0 else (k.getCsr (0x3B0 + n - 1)).toNat % 2 ^ 54 / 1024 * 4096), a / 1024 * 4096)
  | 3 => let b := a / 512 * 512 + 511
         let t := trailOnes 54 b + 3
         let base := b * 4 / 2 ^ t * 2 ^ t
         (base, base + 2 ^ t)
  | _ => (0, 0)

/-- The physical-memory protection check (R33, R75): the lowest-numbered entry that covers a byte of the access decides;
M-mode passes where no entry or no locked entry matches. -/
def Core.pmpOk (k : Core) (md : Mode) (pa size acc : Nat) : Bool :=
  match (List.range 16).find? fun n =>
      let r := k.pmpRange n
      decide (r.1 < pa + size ∧ pa < r.2) with
  | none => md == .m
  | some n =>
    let r := k.pmpRange n
    let cfg := k.pmpCfg n
    let whole := decide (r.1 ≤ pa ∧ pa + size ≤ r.2)
    whole && ((md == .m && !cfg.testBit 7) ||
      (if acc = 0 then cfg.testBit 0 else if acc = 1 then cfg.testBit 1 else cfg.testBit 2))

/-- What a translation yields: it must be walked; an exception with its cause and guest address; or a physical address
with its attributes. -/
inductive Xlat where
  | miss
  | exn (cause : Nat)
  | dev
  | ok (pa : Nat) (pbmt : Nat) (ewa : Bool)
  deriving DecidableEq, Repr

/-- The checks of a physical address after its translation (R75): PMP, then the attributes, which `att` judges (R68 to R70) and which end an
open group with DEVICE_ACCESS for anything but cacheable DRAM (`dev`, R157), then the World Table; `wt` is the verdict of a TLB entry (R73),
and without one the table is read. A refusal before issue is recorded as WORLD_DENIED (R358). -/
def State.xlatChecks (s : State) (c : Nat) (md : Mode) (size acc pa pbmt : Nat) (ewa : Bool) (wt : Option Bool)
    (att : Region → Nat → Bool) : Xlat × State :=
  let k := s.core c
  if k.pmpOk md pa size (accBase acc) = false then (.exn (afCause acc), s)
  else if s.region pa = .vacant then (.exn (afCause acc), s)
  else if k.group.isSome ∧ (s.region pa ≠ .dram ∨ pbmt ≠ 0) then (.dev, s)
  else if att (s.region pa) pbmt = false then (.exn (afCause acc), s)
  else
    let r := match wt with
      | some b => (b, s)
      | none => s.worldOk (coreTile c) k.secure k.part pa
    if r.1 then (.ok pa pbmt ewa, r.2)
    else (.exn (afCause acc), r.2.logRefusal (tileNode (coreTile c)) (coreSlot c) 0x800 k.part pa)

/-- Translate and check one address within one page (R75): page permissions first, then the checks of the physical address; an
untranslated access is checked directly. -/
def State.xlatAs (s : State) (c va size acc : Nat) (att : Region → Nat → Bool) : Xlat × State :=
  let k := s.core c
  let md := (k.accMode acc).1
  let virt := (k.accMode acc).2
  if k.translated md virt = false then s.xlatChecks c md size acc va 0 (s.regionEwa va) none att
  else
    match k.tlbFind virt acc va with
    | none => (.miss, s)
    | some e =>
      let st := k.getCsr (if virt then 0x200 else 0x300)
      let pa := e.pbase + va % 2 ^ e.size
      if accBase acc = 1 ∧ e.w ∧ e.dirty = false then (.miss, s)
      else if ((e.bare || userOk st md e.u acc) && rwxOk st e.r e.w e.x acc) = false then (.miss, s)
      else
        let s1 := s.onCore c fun k => k.tlbAdd acc e
        if e.size ≤ 21 then s1.xlatChecks c md size acc pa e.pbmt e.ewa (some e.wtOk) att
        else s1.xlatChecks c md size acc pa e.pbmt (s.regionEwa pa) none att

/-- The same for an access that every region's attributes allow. -/
def State.xlat (s : State) (c va size acc : Nat) : Xlat × State := s.xlatAs c va size acc fun _ _ => true

/-! ### Private caches -/

/-- Fill a line into the L1D (8 ways, 128 sets, R98): a full set loses a line of pseudo-LRU's choice, a free value; losing
the reserved line clears the reservation (R90), but for that of the open group's own LR, whose line is in the group's sets (R156). Which set a
line maps to, its number modulo the sets, is a DESIGN CHOICE (log 26). -/
def State.fillL1 (s : State) (c line : Nat) : State :=
  let k := s.core c
  if k.l1d.contains line then s
  else
    let set := k.l1d.filter fun l => l % 128 == line % 128
    if set.length < 8 then s.setCore c { k with l1d := k.l1d ++ [line] }
    else
      let victim := set.getD (s.drawIn 0 7) 0
      let resv := match k.resv with
        | some r => if r.line = victim ∧ r.grp = false then none else some r
        | none => none
      s.drawn.setCore c { k.staleLoads victim with l1d := k.l1d.filter (· ≠ victim) ++ [line], resv := resv }

/-- Fill a line into the L1I (8 ways, 128 sets, R98), with the world and partition that fetched it. -/
def State.fillL1I (s : State) (c line : Nat) : State :=
  let k := s.core c
  let rest := k.l1i.filter (·.1 ≠ line)
  let set := rest.filter fun e => e.1 % 128 == line % 128
  let drop := if set.length < 8 then rest
    else rest.filter fun e => e.1 ≠ (set.getD (s.drawIn 0 7) (0, false, 0)).1
  (if set.length < 8 then s else s.drawn).setCore c { k with l1i := (line, k.secure, k.part) :: drop }

/-- Record the durability tag of a line that a retiring access touched (R169, R173): the stream's entry rises to the tag's
number unless that is already durable as the tile knows; a number above a fenced stream's loss point marks the entry LOST,
raises the tile's dependency-lost source and ends an open group. -/
def State.depRecord (s : State) (c : Nat) (t : Option Tag) : State :=
  match t with
  | none => s
  | some t =>
    let p := s.pub (coreTile c) t.stream
    let d := tget {} (s.core c).deps t.stream
    if p.fenced ∧ p.w < t.seq then
      let s1 := s.onCore c fun k => { k with deps := tset {} k.deps t.stream { d with lost := true } }
      let s2 := (s1.setFld CG_STATUS.LOST c 1).raise (16 * coreTile c + 5 + coreSlot c)
      s2.abortGroup c 0x0F 0 0
    else if t.seq ≤ p.w then s
    else s.onCore c fun k => { k with deps := tset {} k.deps t.stream { d with seq := Nat.max d.seq t.seq } }

/-- The core's dependency entries that are neither empty, nor LOST, nor durable as the tile knows. -/
def State.undurable (s : State) (c : Nat) : List (Nat × Nat) :=
  (s.core c).deps.filterMap fun e =>
    if e.2.seq ≠ 0 ∧ e.2.lost = false ∧ (s.pub (coreTile c) e.1).w < e.2.seq then some (e.1, e.2.seq) else none

/-- Whether any dependency entry of the core is LOST. -/
def Core.anyLost (k : Core) : Bool := k.deps.any fun e => e.2.lost

/-- The unit field of a request's records and its index in MESH_TIMEOUT: the core slot, the I/O coherence agent's number in its stop, or the
unit of a block (R131, R138, R143). -/
def useUnit : TxnUse → Nat
  | .line (.core c) _ => coreSlot c
  | .line (.agent p) _ => if p = 25 then 1 else 0
  | .devLoad c => coreSlot c
  | .devStore c _ => coreSlot c
  | .other u => u
  | .job .. => 0

/-- The deadline of a request that enters the mesh now (R138): its unit's memory or device timeout. -/
def State.deadlineOf (s : State) (node unit : Nat) (device : Bool) : Nat :=
  s.dtime + 1000 * s.fld (if device then MESH_TIMEOUT.DEVICE_US else MESH_TIMEOUT.MEMORY_US) (node * 32 + unit % 32)

/-- Take a free initiator tag index of a node, not quarantined (R138, R140). -/
def State.takeTxn (s : State) (node : Nat) (use : TxnUse) (pa : Nat) (device : Bool) : Option (Nat × State) :=
  match (List.range 1024).find? fun n =>
      let t := tget {} s.txns (node * 1024 + n)
      t.use.isNone && decide (t.late < 3) with
  | none => none
  | some n =>
    let t := tget {} s.txns (node * 1024 + n)
    let dl := s.deadlineOf node (useUnit use) device
    some (n, { s with txns := tset {} s.txns (node * 1024 + n) { t with use := some use, pa := pa, device := device, deadline := dl } })

/-- Free a tag index when its request ends in time. -/
def State.freeTxn (s : State) (node n : Nat) : State :=
  let t := tget {} s.txns (node * 1024 + n)
  { s with txns := tset {} s.txns (node * 1024 + n) { t with use := none, io := {}, deadline := 0 } }

/-- The stop that serves a device address: node 42 for the apertures, a PCIe controller's, or that of the unit an ODC address is in; a line of
DRAM mapped IO is served by its home's tile. -/
def State.devNode (s : State) (pa : Nat) : Nat :=
  match s.region pa with
  | .aperture => 42
  | .pcie => (unitStop (33 + (pa / 2 ^ 40 - 16))).1
  | .odc | .secureOnly => (match odcUnit pa with | some u => (unitStop u).1 | none => 0)
  | _ => tileNode (homeOf (pa / 64))

/-- Whether a block's own Lid section lets its requests into the mesh: it is OPEN, or the stop has no section for it (R147). -/
def State.lidSends (s : State) (node unit : Nat) : Bool := decide (lidSections node ≤ unit) || s.lidState node unit == 0

/-- Put what a device request carries into its tag index, and send its packet, unless the block's section is not OPEN (R147). -/
def State.setIo (s : State) (node n : Nat) (io : Io) : State :=
  let t := tget {} s.txns (node * 1024 + n)
  let unit := match t.use with | some u => useUnit u | none => 0
  let off := !s.lidSends node unit
  let m : Msg := if io.kind = 0 then .devRead else if io.kind = 1 then .devWrite else .devAmo
  let p : MPkt := { msg := m, who := node * 1024 + n, src := node, dst := s.devNode t.pa, unit := unit, world := io.secure,
                    part := io.part, tag := n, epoch := t.epoch, size := io.size - 1, addr := t.pa,
                    len := m.flits (if io.kind = 0 then 0 else io.size) }
  let s1 : State := { s with
    txns := tset {} s.txns (node * 1024 + n) { t with io := { io with ord := s.stamp, off := off } }, stamp := s.stamp + 1 }
  if off then s1 else s1.post p

/-- The message that carries a coherence request. -/
def ReqKind.msg : ReqKind → Msg
  | .rdShared => .rdShared | .rdOwn => .rdOwn | .upgrade => .upgrade | .rdOnce => .rdOnce | .wrLine => .wrLine
  | .cboClean | .cboFlush => .cboFlush | .amoHome => .amoHome

/-- The requests of a core that use its L2 miss buffers beside its lines': its device accesses (R48). -/
def State.devOut (s : State) (c : Nat) : Nat :=
  (s.txns.filter fun e => e.2.use == some (.devLoad c) || e.2.use == some (.devStore c true) ||
    e.2.use == some (.devStore c false)).length

/-- Whether a core has a free miss buffer for a request (R25, R48): of the 16 of its L1I or the 48 of its L1D, and of the 64 of its L2. -/
def State.missFree (s : State) (c : Nat) (inst : Bool) : Bool :=
  let k := s.core c
  let mine := (k.reqs.filter fun e => match e.2 with | some r => r.inst == inst | none => false).length
  decide (mine < (if inst then 16 else 48)) && decide (k.reqs.length + s.devOut c < 64)

/-- Send a coherence request of a core for a line, with the tags and the kind that `r0` gives it, unless one is outstanding, the miss
buffers are in use, a writeback or notice of the line is unacknowledged in the core's L2 or, sent with LAST, in any L2 of its tile (R48,
R115), or no tag index is free. -/
def State.sendReqAs (s : State) (c line : Nat) (kind : ReqKind) (r0 : Req) : State :=
  let k := s.core c
  let node := tileNode (coreTile c)
  let tileWaits := (List.range 5).any fun n =>
    match tget none (s.core (coreTile c * 5 + n)).wb line with
    | some w => w.last
    | none => false
  if (tget none k.reqs line).isSome ∨ s.missFree c r0.inst = false ∨ (tget none k.wb line).isSome ∨ tileWaits then s
  else
    match s.takeTxn node (.line (.core c) line) (line * 64) false with
    | none => s
    | some (n, s1) =>
      let off := !s.lidSends node (coreSlot c)
      let r : Req := { r0 with kind := kind, tag := n, off := off }
      let p : MPkt := { msg := kind.msg, who := c, src := node, dst := tileNode (homeOf line), unit := coreSlot c, world := r0.secure,
                        part := r0.part, tag := n, epoch := (tget {} s1.txns (node * 1024 + n)).epoch, addr := line * 64,
                        len := kind.msg.flits (if r0.wr.isSome then 64 else 0) }
      let s2 := (s1.onCore c fun k => { k with reqs := tset none k.reqs line (some r) }).coreCount c 0x06
      if off then s2 else s2.post p

/-- The same for an instruction of the core as it runs now. -/
def State.sendReq (s : State) (c line : Nat) (kind : ReqKind) (wr : Option LineData) : State :=
  s.sendReqAs c line kind { wr := wr, secure := (s.core c).secure, part := (s.core c).part }

/-- The value a core's open group or its own store buffer gives for a line, over its L2's copy. -/
def Core.lineView (k : Core) (line : Nat) : Option LineData :=
  match k.group with
  | some g => match tget none g.writes line with
    | some (d, _) => (match tget none k.l2 line with
        | some l => some { l.d with data := d }
        | none => some { data := d })
    | none => (tget none k.l2 line).map (·.d)
  | none => (tget none k.l2 line).map (·.d)

/-- Store-buffer entries that overlap `n` bytes at `pa`, oldest first (R79). -/
def Core.sbOverlap (k : Core) (pa n : Nat) : List SbEnt :=
  k.sb.filter fun e =>
    let sz := if e.kind = .cboZero then 64 else e.size
    decide (e.pa < pa + n ∧ pa < e.pa + sz)

/-- Whether the core's store buffer has drained: every older store is visible or acknowledged (R82). -/
def Core.drained (k : Core) : Bool := k.sb.isEmpty

/-- A new ordering point in the store buffer: later entries lie in the next segment (R78). -/
def Core.orderPoint (k : Core) : Core := { k with seg := k.seg + 1 }

end Sys2Proof.Machine
end

