-- ==== Sys2Proof/Machine/CoreMem.lean ====
section
/-! DEFINITION. The memory instructions of a core: loads, stores and the store buffer, atomics, reservations, fences,
cache-block operations and page-table walks (chapters 02, 03, 04 and 07). An instruction that cannot perform yet leaves a
request behind where the manual has it send one, and is commanded again. -/

namespace Sys2Proof.Machine

open Sys2Proof

/-- The outcome of a command. -/
abbrev Res := Host.Outcome State Fault Refusal

/-! ### Shared steps -/

/-- Split `n` bytes at an address where a boundary of `b` bytes cuts them. -/
def splitAt2 (b a n : Nat) : List (Nat × Nat) :=
  let n1 := Nat.min n (b - a % b)
  if n1 = n then [(a, n)] else [(a, n1), (a + n1, n - n1)]

/-- The physical parts of an access, each translated and checked on its own (R34), or what stops it. -/
inductive Parts where
  | miss
  | exn (cause va : Nat)
  | dev
  | ok (ps : List (Nat × Nat × Nat × Bool))
  deriving DecidableEq, Repr

/-- Translate and check the parts of an access that a page boundary splits (R34, R75). Each part yields its physical
address, its length, its PBMT and its EWA bit. -/
def State.xlatParts (s : State) (c va n acc : Nat) : Parts × State :=
  (splitAt2 4096 va n).foldl (fun r p =>
    match r.1 with
    | .ok ps => match r.2.xlat c p.1 p.2 acc with
      | (.miss, s') => (.miss, s')
      | (.dev, s') => (.dev, s')
      | (.exn cause, s') => (.exn cause p.1, s')
      | (.ok pa pbmt ewa, s') => (.ok (ps ++ [(pa, p.2, pbmt, ewa)]), s')
    | _ => r) (.ok [], s)

/-- Whether the core holds a line with ownership, in E or M (R78, R89). -/
def Core.owns (k : Core) (line : Nat) : Bool :=
  match tget none k.l2 line with
  | some l => l.st == .m || l.st == .e
  | none => false

/-- Ask for ownership of a line with the tags of an instruction: UPGRADE where the L2 holds it in S or O, RD_OWN otherwise (R104). -/
def State.wantOwnAs (s : State) (c line : Nat) (r0 : Req) : State :=
  match tget none (s.core c).l2 line with
  | some _ => s.sendReqAs c line .upgrade r0
  | none => s.sendReqAs c line .rdOwn r0

/-- The same for an instruction of the core as it runs now. -/
def State.wantOwn (s : State) (c line : Nat) : State :=
  s.wantOwnAs c line { secure := (s.core c).secure, part := (s.core c).part }

/-- An error response that the core's request for a line has ended with: the access that waited for the line takes the
access fault of its own type (R142). None where there is no such response. -/
def State.errFault (s : State) (c line acc va : Nat) : Option State :=
  match (s.core c).lineErr with
  | some (l, _) =>
    if l = line then
      let s := s.onCore c fun k => { k with lineErr := none }
      some ((s.pairLog c 5 (BitVec.ofNat 64 (afCause acc))).exception c (afCause acc) (BitVec.ofNat 64 va) 0)
    else none
  | none => none

/-- Ask for ownership, or take the fault of the request that failed. -/
def State.ownOrFault (s : State) (c line acc va : Nat) : State :=
  match s.errFault c line acc va with
  | some s => s
  | none => s.wantOwn c line

/-- The poisoned-data fault of R100: the record 0xB01 that names the tile, and the access fault. -/
def State.poisonFault (s : State) (c acc va pa : Nat) : State :=
  let s1 := s.logErr (tileNode (coreTile c)) (coreSlot c) 2 0xB01 pa
  (s1.pairLog c 5 (BitVec.ofNat 64 (afCause acc))).exception c (afCause acc) (BitVec.ofNat 64 va) 0

/-- Add a line to the open group's read set when an access retires (R154); a 1,025th line ends the group with
CAPACITY_READ (R155). Outside a group nothing happens. -/
def State.joinReads (s : State) (c line : Nat) : State :=
  match (s.core c).group with
  | none => s
  | some g =>
    if g.reads.contains line then s
    else if 1024 ≤ g.reads.length then (s.abortGroup c 0x02 0 0).trace c 0x08 0x02 0
    else s.onCore c fun k => { k with group := some { g with reads := g.reads ++ [line] } }

/-- The distinct lines of the open group's write set, buffered stores included (R154). -/
def Core.writeLines (k : Core) : List Nat :=
  match k.group with
  | none => []
  | some g =>
    let held : List Nat := g.writes.map fun e => e.1
    let buffered : List Nat := (k.sb.filter fun e => e.grp).map fun e => e.pa / 64
    (held ++ buffered).eraseDups

/-- Whether a store to a line would be the 257th of the write set (R155). -/
def Core.writesFull (k : Core) (line : Nat) : Bool :=
  k.group.isSome && decide (256 ≤ k.writeLines.length) && !k.writeLines.contains line

/-- Whether an open group was ended by what an instruction just did. -/
def State.groupLost (s0 s1 : State) (c : Nat) : Bool := (s0.core c).group.isSome && (s1.core c).group.isNone

/-- Write an integer, floating-point or vector destination, and the values the signature folds (R33, R207). -/
def State.putDst (s : State) (c : Nat) (d : Dst) (size v : Nat) : State × List W :=
  match d with
  | .x rd sg => (s.onCore c fun k => k.setX rd (extend sg size v), [extend sg size v])
  | .f rd => (s.onCore c fun k => (k.setF rd (nanBox size v)).setCsr 0x300
      (putField (k.getCsr 0x300) 14 13 3), [nanBox size v])
  | .v rd => (s.onCore c fun k => (k.setV rd (BitVec.ofNat 256 v)).setCsr 0x300
      (putField (k.getCsr 0x300) 10 9 3),
      (List.range 4).map fun i => BitVec.ofNat 64 (v >>> (64 * i)))

/-- The value a store takes. -/
def Core.srcVal (k : Core) (r : Src) : Nat :=
  match r with
  | .x n => (k.getX n).toNat
  | .f n => (k.getF n).toNat
  | .v n => (k.getV n).toNat

/-- The sizes an access to a register file can have: 1, 2, 4 or 8 bytes, and up to 32 for a vector register. -/
def sizeOk (vec : Bool) (size : Nat) : Bool :=
  size == 1 || size == 2 || size == 4 || size == 8 || (vec && decide (1 ≤ size ∧ size ≤ 32))

def dstV (d : Dst) : Bool := match d with | .v _ => true | _ => false
def srcV (d : Src) : Bool := match d with | .v _ => true | _ => false

/-- Issue a device load or AMO of the core, where a miss buffer and a tag index are free (R48); it waits for its answer. -/
def State.devIssue (s : State) (c pa : Nat) (io : Io) : State :=
  let k := s.core c
  if 64 ≤ k.reqs.length + s.devOut c then s else
  match s.takeTxn (tileNode (coreTile c)) (.devLoad c) pa true with
  | none => s
  | some (n, s0) =>
    let s1 := s0.setIo (tileNode (coreTile c)) n { io with secure := k.secure, part := k.part }
    ((s1.onCore c fun k => { k with devLoad := some (n, pa) }).coreCount c 0x0B).coreCount c 0x06

/-- Take the answer of a device load or AMO off the core and free its tag index. -/
def State.devTake (s : State) (c : Nat) : State :=
  let s1 := match (s.core c).devLoad with
    | some (n, _) => s.freeTxn (tileNode (coreTile c)) n
    | none => s
  s1.onCore c fun k => { k with devLoad := none, devAns := none }

/-- The imprecise store access fault of R88: the tile's store-error source for the slot, and the record of a DENIED or
TARGET_ERROR answer; a timeout or DOMAIN_OFF has its record from the stop that synthesised it. -/
def State.reportStore (s : State) (c pa status : Nat) : State :=
  let s1 := s.raise (16 * coreTile c + coreSlot c)
  if status = 3 then s1.logErr (tileNode (coreTile c)) (coreSlot c) 2 0x105 pa
  else if status = 4 then s1.logErr (tileNode (coreTile c)) (coreSlot c) 2 0x106 pa
  else s1

/-- The record that a device store acknowledged early leaves when its target answers DENIED or TARGET_ERROR (R87, R142). The spec names for
such a store only the record of R139: the model writes R143's code for the status, with the core slot as its unit, and raises the stop's
error source with it (DESIGN CHOICE, log 29). A DOMAIN_OFF answer is recorded as R143 says. -/
def State.earlyFail (s : State) (node unit pa status : Nat) : State :=
  if status = 2 then s.stopRecord node unit 0x103 pa
  else if status = 3 then s.stopRecord node unit 0x105 pa
  else if status = 4 then s.stopRecord node unit 0x106 pa else s

/-- Send the ownership requests of retired stores, with each store's own tags (R80): at most 16 lines at once (R78, R154). The stores of an
interval that has not been compared are held. The spec does not say which lines go first: the model takes them oldest first, and counts
every ownership request of the core among the 16, an AMO's, LR's or SC's included (DESIGN CHOICE, log 24). -/
def State.ownReqs (s : State) (c : Nat) : State :=
  (s.core c).sb.foldl (fun s e =>
    let line := e.pa / 64
    let k := s.core c
    let busy := (k.reqs.filter fun r => match r.2 with
      | some q => q.kind == .rdOwn || q.kind == .upgrade
      | none => false).length
    if (e.kind == .normal || e.kind == .cboZero) && e.ival.isNone && !k.owns line && decide (busy < 16)
    then s.wantOwnAs c line { secure := e.secure, part := e.part } else s) s

/-- The store-buffer entries that a pair's open interval holds carry its number (R209). -/
def State.ivalOf (s : State) (c : Nat) : Option Nat :=
  match s.ledPair c with
  | some i => some (tget {} s.pairs i).cur.id
  | none => none

/-- Add entries to the pair's store stream (R208). -/
def State.pairStores (s : State) (c : Nat) (es : List StoreEnt) : State :=
  match s.ledPair c with
  | none => s
  | some i =>
    let p := tget {} s.pairs i
    { s with pairs := tset {} s.pairs i { p with cur := { p.cur with stores := p.cur.stores ++ es } } }

/-- Write `n` bytes of a line the core owns: into the write-set buffer inside a group, recording the tag it replaces (R154,
R170), and into the L2 in state M otherwise, where the tag stays (R171). A full-line write clears poison (R100). -/
def State.ownedWrite (s : State) (c pa n v : Nat) (grp : Bool) : State :=
  let k := s.core c
  let line := pa / 64
  let off := pa % 64
  match tget none k.l2 line with
  | none => s
  | some l =>
    if grp then
      let s1 := s.depRecord c l.d.tag
      match (s1.core c).group with
      | none => s1
      | some g =>
        let old := match tget none g.writes line with | some (d, m) => (d, m) | none => (l.d.data, 0)
        let d := lineSet old.1 off n v
        let m := old.2 ||| ((2 ^ n - 1) * 2 ^ off)
        (s1.onCore c fun k => { k with group := some { g with writes := tset none g.writes line (some (d, m)) } }).fillL1
          c line
    else
      let d : LineData := { l.d with data := lineSet l.d.data off n v, poison := l.d.poison && !(n == 64) }
      ((s.onCore c fun k => { k with l2 := tset none k.l2 line (some { st := .m, d := d }) }).clearResv line
        (some c)).fillL1 c line

/-! ### LOAD -/

/-- The value of one part of a load from normal memory within a line (R79): from the one older store that covers it, where `whole` says
that the part is the whole load, or from the line. None where it waits. -/
def Core.loadPart (k : Core) (whole : Bool) (pa n : Nat) : Option (List Byte × List (Nat × LineData)) :=
  match k.sbOverlap pa n with
  | [e] =>
    if whole ∧ e.kind ≠ .device ∧ e.pa ≤ pa ∧ pa + n ≤ e.pa + (if e.kind = .cboZero then 64 else e.size) then
      some (leBytes n (if e.kind = .cboZero then 0 else e.data.toNat >>> (8 * (pa - e.pa))), [])
    else none
  | [] => (k.lineView (pa / 64)).map fun d => (leBytes n (lineGet d.data (pa % 64) n), [(pa / 64, d)])
  | _ => none

/-- The line segments of an access: where each lies in it, its physical address and its length (R76). -/
def segments (ps : List (Nat × Nat × Nat × Bool)) : List (Nat × Nat × Nat) :=
  ((ps.flatMap fun p => splitAt2 64 p.1 p.2.1).foldl
    (fun (a : List (Nat × Nat × Nat) × Nat) q => (a.1 ++ [(a.2, q.1, q.2)], a.2 + q.2)) ([], 0)).1

/-- A load performs at its place in program order: a younger load that has read one of its lines, and lost it since, is squashed and
executed again, so that two loads of one address never see two stores in the wrong order (R81). -/
def State.loadOrder (s : State) (c at_ : Nat) (near : List Nat) : State :=
  s.onCore c fun k =>
    { k with loadq := k.loadq.filter fun e => !(decide (at_ < e.at_) && e.stale && e.near.any near.contains) }

/-- The stores, or the write of an atomic, of the oldest instruction squash every younger load that has already read one of their lines
(R81). -/
def State.storeOrder (s : State) (c : Nat) (lines : List Nat) : State :=
  s.onCore c fun k => { k with loadq := k.loadq.filter fun e => !e.near.any lines.contains }

/-- The durability tags of the lines that a load touched: those it read, and for a value from the store buffer the line as the L2 holds it
(R169). -/
def Core.loadTags (k : Core) (lines : List (Nat × LineData)) (near : List Nat) : List (Option Tag) :=
  near.map fun n => match lines.find? fun e => e.1 == n with
    | some e => e.2.tag
    | none => match tget none k.l2 n with
      | some l => l.d.tag
      | none => none

/-- Log a loaded value for a pair: one entry for each 8 bytes (R203, R204). -/
def State.pairLogLoad (s : State) (c typ size v : Nat) : State :=
  (List.range ((size + 7) / 8)).foldl (fun s i => s.pairLog c typ (BitVec.ofNat 64 (v / 2 ^ (64 * i)))) s

/-- A load that has its value retires: the tags of its lines are recorded, the lines join the read set, the value reaches the register, the
pair's log and the interval's signature (R81, R154, R159, R169, R203). -/
def State.loadDone (s : State) (c : Nat) (dst : Dst) (va size len : Nat) (bs : List Byte) (lines : List (Nat × LineData))
    (near : List Nat) : State :=
  let s1 := ((s.core c).loadTags lines near).foldl (fun s t => s.depRecord c t) s
  if s.groupLost s1 c then s1
  else
    let s2 := near.foldl (fun s l => s.joinReads c l) s1
    if s.groupLost s2 c then s2
    else
      let v := ofLeBytes bs
      let s3 := s2.pairLogLoad c 1 size v
      let r := s3.putDst c dst size v
      r.1.retire c len r.2 (some { va := va, size := size, ld := true, ldVal := some v })

/-- What a load of normal memory reads now for its segments that are still to be read: their bytes, and the lines. -/
def Core.loadNow (k : Core) (segs : List (Nat × Nat × Nat)) (whole : Bool) :
    List (Option (Nat × List Byte × List (Nat × LineData))) :=
  segs.map fun g => (k.loadPart whole g.2.1 g.2.2).map fun v => (g.1, v.1, v.2)

/-- What a load of normal memory does while it has no value: it asks for the lines that it lacks; a load that overlaps buffered stores
waits for them (R79). -/
def State.loadMiss (s : State) (c va : Nat) (segs : List (Nat × Nat × Nat)) (oldest : Bool) : State :=
  let k := s.core c
  if segs.any fun g => (k.sbOverlap g.2.1 g.2.2).isEmpty == false then (if oldest && (s.ledPair c).isSome then s.closeIval c else s)
  else
    match (if oldest then segs.findSome? fun g => s.errFault c (g.2.1 / 64) 0 va else none) with
    | some s => s
    | none => segs.foldl (fun s g =>
        if ((s.core c).lineView (g.2.1 / 64)).isSome then s
        else (s.sendReq c (g.2.1 / 64) .rdShared none).coreCount c 0x05) s

/-- LOAD ahead of older accesses (R43, R81, R84): `n` bytes at `off` of the access of the instruction `ahead` places younger than the
oldest are read from normal memory and held in the load queue until it retires. Nothing architectural changes; a fault waits for the
retirement. -/
def State.loadAhead (s : State) (c va size acc ahead off n : Nat) : State :=
  let k0 := s.core c
  let at_ := k0.icount + ahead
  if k0.run ≠ .running ∨ s.isTrailer c ∨ size < off + n ∨ k0.loadq.any (fun e => e.at_ == at_ && e.off == off) ∨
      128 ≤ ((k0.loadq.map (·.at_)).eraseDups.filter (· ≠ at_)).length then s
  else
    match s.xlatParts c (va + off) n acc with
    | (.ok ps, s1) =>
      if ps.any fun p => s.region p.1 != .dram || p.2.2.1 != 0 then s
      else
        let k := s1.core c
        let segs := segments ps
        let vs := k.loadNow segs (decide (segs.length ≤ 1 ∧ n = size))
        let near := segs.map fun g => g.2.1 / 64
        if vs.all (·.isSome) then
          let lines := vs.flatMap fun v => match v with | some (_, _, l) => l | none => []
          if lines.any (·.2.poison) then s1
          else
            let e : LoadEnt := { at_ := at_, va := va, size := size, off := off, n := n, lines := lines, near := near,
                                 bs := vs.flatMap fun v => match v with | some (_, b, _) => b | none => [] }
            let s2 := (lines.foldl (fun s l => s.fillL1 c l.1) s1).loadOrder c at_ near
            s2.onCore c fun k => { k with loadq := k.loadq ++ [e] }
        else s1.loadMiss c va segs false
    | (_, s1) => s1

/-- Whether a hypervisor load or store may execute: from M and HS, and from U under hstatus.HU; the flag says that the exception is a
virtual-instruction one. -/
def Core.hlvOk (k : Core) : Bool × Bool :=
  if k.virt then (false, true) else (k.mode != .u || bit (k.getCsr 0x600) 9, false)

/-- Whether a memory instruction is illegal before its access: a hypervisor access in a mode that has none, or a floating-point or vector one
while that state is off (R30, R33). -/
def State.memIllegal (s : State) (c acc : Nat) (fp vec : Bool) (insn : W) : Option State :=
  let k := s.core c
  if 4 ≤ acc ∧ k.hlvOk.1 = false then some (s.exception c (if k.hlvOk.2 then 22 else 2) insn 0)
  else if (fp && k.fsOff) || (vec && k.vsOff) then some (s.exception c 2 insn 0)
  else none

/-- The value of a load of a device region, or of DRAM mapped IO, at its retirement (R84). -/
def State.devDone (s : State) (c : Nat) (dst : Dst) (va size len v : Nat) : State :=
  let s1 := s.pairLogLoad c 3 size v
  let r := s1.putDst c dst size v
  (r.1.retire c len r.2 (some { va := va, size := size, ld := true, ldVal := some v })).rebase c

/-- A load that is not of cacheable memory, as the oldest instruction: of a device region (R84), or of DRAM mapped IO or NC (R70). -/
def State.loadUncached (s : State) (c : Nat) (dst : Dst) (va size len : Nat) (ps : List (Nat × Nat × Nat × Bool)) : State :=
  let k := s.core c
  let pa := (ps.headD (0, 0, 0, false)).1
  if ps.any fun p => isDeviceRegion (s.region p.1) p.2.2.1 then
    if va % size ≠ 0 then s.exception c 4 (BitVec.ofNat 64 va) 0
    else if (ps.all fun p => s.widthOk p.1 size) = false then s.exception c 5 (BitVec.ofNat 64 va) 0
    else if s.allCompared c = false then s.closeIval c
    else if k.sb.any (·.kind == .device) then s
    else if s.region pa = .dram then
      let s := (s.agentRead (pa / 64)).coreCount c 0x0B
      let d := s.curLine (pa / 64)
      if d.poison then s.poisonFault c 0 va pa else (s.depRecord c d.tag).devDone c dst va size len (s.curNat pa size)
    else
      match k.devAns with
      | some (v, st) =>
        if st = 0 then (s.devTake c).devDone c dst va size len (v % 2 ^ (8 * size))
        else ((s.devTake c).pairLog c 5 5).exception c 5 (BitVec.ofNat 64 va) 0
      | none => if k.devLoad.isSome then s.serveLoad c pa size else s.devIssue c pa { kind := 0, size := size }
  else
    let segs := segments ps
    let hits := segs.any fun g => (k.sbOverlap g.2.1 g.2.2).isEmpty == false
    if hits then
      match segs with
      | [g] => (match k.loadPart true g.2.1 g.2.2 with
        | some (bs, []) => s.loadDone c dst va size len bs [] [g.2.1 / 64]
        | _ => s)
      | _ => s
    else
      let s := segs.foldl (fun s g => s.agentRead (g.2.1 / 64)) s
      let lines := segs.map fun g => (g.2.1 / 64, s.curLine (g.2.1 / 64))
      match lines.find? (·.2.poison) with
      | some l => s.poisonFault c 0 va (l.1 * 64)
      | none => s.loadDone c dst va size len (ps.flatMap fun p => s.curBytes p.1 p.2.1) lines (lines.map (·.1))

/-- A load of cacheable memory as the oldest instruction (R76, R79, R81): what the load queue holds of it is used, and what it does not is
read now. -/
def State.loadCached (s : State) (c : Nat) (dst : Dst) (va size len : Nat) (ps : List (Nat × Nat × Nat × Bool)) : State :=
  let k := s.core c
  let segs := segments ps
  let near := segs.map fun g => g.2.1 / 64
  let ents := k.loadq.filter fun e => e.at_ == k.icount && e.va == va && e.size == size && !(e.stale && k.group.isSome)
  let old := fun (i : Nat) => ents.findSome? fun e => if e.off ≤ i ∧ i < e.off + e.n then e.bs[i - e.off]? else none
  let todo := segs.filter fun g => (List.range g.2.2).any fun i => (old (g.1 + i)).isNone
  let vs := k.loadNow todo (decide (segs.length ≤ 1))
  if vs.all (·.isSome) then
    let now := vs.flatMap fun v => match v with | some (o, b, _) => (List.range b.length).zip b |>.map (fun e => (o + e.1, e.2)) | none => []
    let fresh := vs.flatMap fun v => match v with | some (_, _, l) => l | none => []
    let bs := (List.range size).map fun i => match old i with
      | some b => b
      | none => ((now.find? fun e => e.1 == i).map (·.2)).getD 0
    match fresh.find? (·.2.poison) with
    | some l => s.poisonFault c 0 va (l.1 * 64)
    | none =>
      ((fresh.foldl (fun s l => s.fillL1 c l.1) s).loadOrder c k.icount near).loadDone c dst va size len bs
        (fresh ++ ents.flatMap (·.lines)) near
  else s.loadMiss c va todo true

/-- LOAD (R81): a load of `size` bytes at x[rs1] + imm is translated, checked (R75) and performed. `acc` is 0, or 4 for HLV and 6 for HLVX.
With `ahead` 0 and `n` 0 it is the oldest instruction and retires; otherwise the `n` bytes at `off` of it (all of them where `n` is 0) are
performed early. -/
def execLoad (c : Nat) (dst : Dst) (rs1 : Nat) (imm : W) (size len acc ahead off n : Nat) (insn : W) (s : State) : Res :=
  let va := ((s.core c).getX rs1 + imm).toNat
  .next <| if sizeOk (dstV dst) size = false ∨ (acc ≠ 0 ∧ acc ≠ 4 ∧ acc ≠ 6) then s
  else if ahead ≠ 0 ∨ n ≠ 0 then s.loadAhead c va size acc ahead off (if n = 0 then size else n)
  else
  s.issue c (some { va := va, size := size, ld := true }) fun s =>
    match s.memIllegal c acc (match dst with | .f _ => true | _ => false) (dstV dst) insn with
    | some s => s
    | none =>
    match s.xlatParts c va size acc with
    | (.miss, s) => s
    | (.dev, s) => s.deviceAbort c
    | (.exn cause va', s) => s.exception c cause (BitVec.ofNat 64 va') 0
    | (.ok ps, s) =>
      if ps.any fun p => isDeviceRegion (s.region p.1) p.2.2.1 || p.2.2.1 == 1 then s.loadUncached c dst va size len ps
      else s.loadCached c dst va size len ps

/-! ### STORE and the store buffer -/

/-- Whether a device store or AMO may retire past the core's dependency entries (R171): 0 yes, 1 it waits, 2 an entry is
LOST. -/
def State.devHold (s : State) (c : Nat) : Nat :=
  if s.fld CG_CFG.DEVHOLD c = 0 then 0
  else if (s.core c).anyLost then 2
  else if (s.undurable c).isEmpty then 0 else 1

/-- The store access fault of R171. -/
def State.lostFault (s : State) (c va : Nat) : State :=
  (s.setFld CG_STATUS.LOST c 1).exception c 7 (BitVec.ofNat 64 va) 0

/-- STORE (R78): a store of `size` bytes retires into the store buffer, one entry for each line segment; `acc` is 1, or 5 for HSV. -/
def execStore (c : Nat) (src : Src) (rs1 : Nat) (imm : W) (size len acc : Nat) (insn : W) (s : State) : Res :=
  let va := ((s.core c).getX rs1 + imm).toNat
  .next <| if sizeOk (srcV src) size = false ∨ (acc ≠ 1 ∧ acc ≠ 5) then s else
  s.issue c (some { va := va, size := size, st := true }) fun s =>
    match s.memIllegal c acc (match src with | .f _ => true | _ => false) (srcV src) insn with
    | some s => s
    | none =>
    match s.xlatParts c va size acc with
    | (.miss, s) => s
    | (.dev, s) => s.deviceAbort c
    | (.exn cause va', s) => s.exception c cause (BitVec.ofNat 64 va') 0
    | (.ok ps, s) =>
      let k := s.core c
      let v := k.srcVal src % 2 ^ (8 * size)
      let dev := ps.any fun p => isDeviceRegion (s.region p.1) p.2.2.1
      let nc := ps.any fun p => p.2.2.1 == 1 && s.region p.1 == .dram
      let segs := (ps.flatMap fun p => (splitAt2 64 p.1 p.2.1).map fun q => (q.1, q.2, p.2.2.2))
      let offs := segs.foldl (fun (a : List Nat × Nat) g => (a.1 ++ [a.2], a.2 + g.2.1)) ([], 0)
      if dev && va % size != 0 then s.exception c 6 (BitVec.ofNat 64 va) 0
      else if dev && !(ps.all fun p => s.widthOk p.1 size) then s.exception c 7 (BitVec.ofNat 64 va) 0
      else if dev && s.devHold c == 2 then s.lostFault c va
      else if dev && s.devHold c == 1 then s
      else if dev && !s.allCompared c then s.closeIval c
      else if 96 < k.sb.length + segs.length then s
      else if segs.any fun g => k.writesFull (g.1 / 64) then (s.abortGroup c 0x03 0 0).trace c 0x08 0x03 0
      else
        let ival := if dev then none else s.ivalOf c
        let kind : SbKind := if dev then .device else if nc then .nc else .normal
        let es := (segs.zip offs.1).map fun g =>
          ({ pa := g.1.1, size := g.1.2.1, data := BitVec.ofNat 256 ((v >>> (8 * g.2)) % 2 ^ (8 * g.1.2.1)), kind := kind,
             ewa := g.1.2.2 && s.region g.1.1 != .dram, secure := k.secure, part := k.part,
             seg := if dev then k.seg + 1 else k.seg, ival := ival, grp := k.group.isSome } : SbEnt)
        let s0 := s.storeOrder c (segs.map fun g => g.1 / 64)
        let s1 := s0.onCore c fun k => { k with sb := k.sb ++ es, seg := if dev then k.seg + 2 else k.seg }
        let s2 := s1.pairStores c (es.map fun e =>
          { pa := e.pa - e.pa % 64, mask := (2 ^ e.size - 1) * 2 ^ (e.pa % 64), data := e.data,
            nc := e.kind == .nc })
        let s3 := s2.ownReqs c
        let s4 := s3.retire c len [] (some { va := va, size := size, st := true, stVal := some v })
        if dev then s4.rebase c else s4

/-- Whether the entry at an index of the store buffer may leave it now (R78, R85, R154, R209): it is released from its
interval; no older entry lies before an ordering point that precedes it or overlaps it; a device store is the oldest. -/
def Core.sbMayLeave (k : Core) (n : Nat) (e : SbEnt) : Bool :=
  let older := k.sb.take n
  e.ival.isNone && !e.sent &&
  (match e.kind with
   | .device => n == 0
   | _ => older.all fun o => o.seg == e.seg && o.kind != .device &&
       !(decide (o.pa < e.pa + (if e.kind = .cboZero then 64 else e.size) ∧
                 e.pa < o.pa + (if o.kind = .cboZero then 64 else o.size))))

/-- STORE_BUFFER_WRITE (R78): the entry at index `n` leaves the store buffer: into L1D where its line is held in E or M,
into the write-set buffer inside a group, to the line's home when it is mapped NC, and as a device write, which stays
until it is acknowledged. -/
def execStoreBufferWrite (c n : Nat) (s : State) : Res :=
  let k := s.core c
  .next <| match k.sb[n]? with
  | none => s
  | some e =>
    if k.sbMayLeave n e = false then s
    else
      let line := e.pa / 64
      let drop := fun (s : State) => s.onCore c fun k => { k with sb := k.sb.eraseIdx n }
      match e.kind with
      | .normal =>
        if k.owns line then (drop s).ownedWrite c e.pa e.size e.data.toNat e.grp else s.ownReqs c
      | .cboZero =>
        if k.owns line then (drop s).ownedWrite c (line * 64) 64 0 e.grp else s.ownReqs c
      | .nc => (drop s).agentWriteBytes e.pa (leBytes e.size e.data.toNat) e.secure
      | .device =>
        if s.region e.pa = .dram then
          ((drop s).agentWriteBytes e.pa (leBytes e.size e.data.toNat) e.secure).coreCount c 0x0B
        else if 64 ≤ k.reqs.length + s.devOut c then s
        else
          match s.takeTxn (tileNode (coreTile c)) (.devStore c e.ewa) e.pa true with
          | none => s
          | some (t, s0) =>
            let io : Io := { kind := 1, size := e.size, data := e.data.toNat, ewa := e.ewa, secure := e.secure, part := e.part }
            let s1 := s0.setIo (tileNode (coreTile c)) t io
            ((s1.onCore c fun k => { k with sb := k.sb.set n { e with sent := true, txn := t } }).coreCount c
              0x0B).coreCount c 0x06

/-- DEVICE_STORE_ACK (R85): with `target` false the mesh has accepted the device store at the head, which EWA lets leave;
with `target` true the response that the target gave the store of a tag index arrives, with its status. A failed store that EWA did not
acknowledge is an imprecise store access fault (R87, R88); one that it did leaves only the stop's error event. -/
def execDeviceStoreAck (c : Nat) (target : Bool) (tag status : Nat) (s : State) : Res :=
  let k := s.core c
  let node := tileNode (coreTile c)
  .next <|
  if target = false then
    match k.sb with
    | e :: rest => if e.kind = .device ∧ e.sent ∧ e.ewa then s.setCore c { k with sb := rest } else s
    | [] => s
  else
    let t := tget {} s.txns (node * 1024 + tag)
    match t.use with
    | some (.devStore c' early) =>
      if c' ≠ c ∨ (t.io.ans.map fun a => a.2) ≠ some status then s
      else
        let s1 := s.freeTxn node tag
        let s2 := s1.onCore c fun k => { k with sb := k.sb.filter fun e => !(e.sent && e.txn == tag) }
        if early then s2.earlyFail node (coreSlot c) t.pa status
        else if status = 0 then s2 else s2.reportStore c t.pa status
    | _ => s

/-! ### Atomics and reservations -/

/-- An AMO, LR or SC that carries aq holds every younger access until it is performed (R83): no load ahead of it stays in the load queue. -/
def Core.acquire (k : Core) (aq : Bool) : Core := if aq then { k with loadq := [] } else k

/-- Whether the write of an atomic waits for the store buffer: with rl until it has drained (R83), otherwise while an entry lies before an
ordering point (R78). -/
def Core.atomicWaits (k : Core) (rl : Bool) : Bool := if rl then !k.drained else k.sb.any fun e => e.seg != k.seg

/-- AMO (R83): an atomic of 4 or 8 bytes at x[rs1] performs on its line, at its home (NC), or at its device. -/
def execAmo (c : Nat) (op : AmoOp) (rd rs1 rs2 size : Nat) (aq rl : Bool) (len : Nat) (s : State) : Res :=
  let va := ((s.core c).getX rs1).toNat
  .next <| if size ≠ 4 ∧ size ≠ 8 then s else
  s.issue c (some { va := va, size := size, ld := true, st := true }) fun s =>
    if va % size ≠ 0 then s.exception c 6 (BitVec.ofNat 64 va) 0
    else match s.xlatAs c va size 1 amoAllowed with
    | (.miss, s) => s
    | (.dev, s) => s.deviceAbort c
    | (.exn cause, s) => s.exception c cause (BitVec.ofNat 64 va) 0
    | (.ok pa pbmt _, s) =>
      let k := s.core c
      let r := s.region pa
      let src := (k.getX rs2).toNat
      let line := pa / 64
      let off := pa % 64
      let done := fun (s : State) (old : Nat) =>
        let v := amoResult op size old src
        let s := s.pairLog c 4 (BitVec.ofNat 64 old)
        let s := s.pairStores c [{ pa := line * 64, mask := (2 ^ size - 1) * 2 ^ off, data := BitVec.ofNat 256 v }]
        let a : MemAcc := { va := va, size := size, ld := true, st := true, ldVal := some old, stVal := some v }
        let s := (s.storeOrder c [line]).onCore c fun k =>
          { k.acquire aq with seg := if rl then k.seg + 1 else k.seg }
        ((s.onCore c fun k => k.setX rd (extend true size old)).retire c len [extend true size old] (some a)).rebase c
      if s.allCompared c = false then s.closeIval c
      else if k.atomicWaits rl then s
      else if r = .aperture then
        if s.devHold c = 2 then s.lostFault c va
        else if s.devHold c = 1 then s
        else match k.devAns with
          | some (old, st) =>
            let s := s.devTake c
            if st = 0 then done s (old % 2 ^ (8 * size)) else (s.pairLog c 5 7).exception c 7 (BitVec.ofNat 64 va) 0
          | none =>
            if k.devLoad.isSome ∨ k.sb.any (·.kind == .device) then s
            else (s.devIssue c pa { kind := 2, size := size, data := src, funct := amoFunct5 op }).onCore c fun k => { k with amoReq := some (op, size, pa, src) }
      else if (k.sbOverlap pa size).isEmpty = false then s
      else if pbmt = 1 then
        match k.devAns with
        | some (old, st) =>
          let s := s.onCore c fun k => { k with devAns := none, amoReq := none }
          if st = 0 then done s (old % 2 ^ (8 * size)) else (s.pairLog c 5 7).exception c 7 (BitVec.ofNat 64 va) 0
        | none =>
          match s.errFault c line 1 va with
          | some s => s
          | none => (s.sendReq c line .amoHome none).onCore c fun k => { k with amoReq := some (op, size, pa, src) }
      else if k.owns line = false then s.ownOrFault c line 1 va
      else if k.writesFull line then (s.abortGroup c 0x03 0 0).trace c 0x08 0x03 0
      else
        match k.lineView line with
        | none => s
        | some d =>
          if d.poison then s.poisonFault c 1 va pa
          else
            let s1 := (s.depRecord c d.tag).joinReads c line
            if s.groupLost s1 c then s1
            else
              let old := lineGet d.data off size
              done (s1.ownedWrite c pa size (amoResult op size old src) k.group.isSome) old

/-- An LR asks for its line as a store would; outside a group its hold window waits for the line's arrival (R89, R92). -/
def State.lrFetch (s : State) (c line va : Nat) : State :=
  match s.errFault c line 0 va with
  | some s => s
  | none =>
    let s1 := s.wantOwnAs c line { secure := (s.core c).secure, part := (s.core c).part, lr := true }
    s1.onCore c fun k => match k.lrWin with
      | some (l, n) => { k with lrWin := if l = line then some (l, n) else if k.group.isNone then some (line, 0) else none }
      | none => { k with lrWin := if k.group.isNone then some (line, 0) else none }

/-- LR (R89): the line is fetched in E or M and the reservation set; outside a group it opens one hold window (R92, R156). -/
def execLr (c rd rs1 size : Nat) (aq rl : Bool) (len : Nat) (s : State) : Res :=
  let va := ((s.core c).getX rs1).toNat
  .next <| if size ≠ 4 ∧ size ≠ 8 then s else
  s.issue c (some { va := va, size := size, ld := true }) fun s =>
    if va % size ≠ 0 then s.exception c 4 (BitVec.ofNat 64 va) 0
    else match s.xlatAs c va size 0 lrscAllowed with
    | (.miss, s) => s
    | (.dev, s) => s.deviceAbort c
    | (.exn cause, s) => s.exception c cause (BitVec.ofNat 64 va) 0
    | (.ok pa _ _, s) =>
      let k := s.core c
      let line := pa / 64
      if s.allCompared c = false then s.closeIval c
      else if rl && !k.drained then s
      else if (k.sbOverlap pa size).isEmpty = false then s
      else if k.owns line = false then s.lrFetch c line va
      else
        match k.lineView line with
        | none => s
        | some d =>
          if d.poison then s.poisonFault c 0 va pa
          else
            let s1 := ((s.fillL1 c line).depRecord c d.tag).joinReads c line
            if s.groupLost s1 c then s1
            else
              let v := lineGet d.data (pa % 64) size
              let s2 := s1.pairLog c 1 (BitVec.ofNat 64 v)
              let s3 := s2.onCore c fun k =>
                { (k.acquire aq).setX rd (extend true size v) with
                  lrWin := none,
                  resv := some { line := line, width := size, grp := k.group.isSome, hold := k.group.isNone && k.lrWin != some (line, 2) } }
              s3.retire c len [extend true size v] (some { va := va, size := size, ld := true, ldVal := some v })

/-- SC (R89): it succeeds where a reservation of the line and the width is held, writes 0 or 1 to rd, and always clears the
reservation. -/
def execSc (c rd rs1 rs2 size : Nat) (aq rl : Bool) (len : Nat) (s : State) : Res :=
  let va := ((s.core c).getX rs1).toNat
  .next <| if size ≠ 4 ∧ size ≠ 8 then s else
  s.issue c (some { va := va, size := size, st := true }) fun s =>
    if va % size ≠ 0 then s.exception c 6 (BitVec.ofNat 64 va) 0
    else match s.xlatAs c va size 1 lrscAllowed with
    | (.miss, s) => s
    | (.dev, s) => s.deviceAbort c
    | (.exn cause, s) => s.exception c cause (BitVec.ofNat 64 va) 0
    | (.ok pa _ _, s) =>
      let k := s.core c
      let line := pa / 64
      let fin := fun (s : State) (r : W) (st : Bool) (v : Nat) =>
        let s := s.pairLog c 4 r
        let s := (if st then s.storeOrder c [line] else s).onCore c fun k =>
          { (k.acquire aq).setX rd r with resv := none, seg := if rl then k.seg + 1 else k.seg }
        let a : MemAcc := { va := va, size := size, st := st, stVal := if st then some v else none }
        (s.retire c len [r] (some a)).rebase c
      if s.allCompared c = false then s.closeIval c
      else if rl && !k.drained then s
      else if (match k.resv with | some r => r.line == line && r.width == size | none => false) = false then fin s 1 false 0
      else if (k.sbOverlap pa size).isEmpty = false ∨ k.atomicWaits rl then s
      else if k.owns line = false then s.ownOrFault c line 1 va
      else if k.writesFull line then (s.abortGroup c 0x03 0 0).trace c 0x08 0x03 0
      else
        let v := (k.getX rs2).toNat % 2 ^ (8 * size)
        let s1 := s.ownedWrite c pa size v k.group.isSome
        if s.groupLost s1 c then s1
        else
          let s2 := s1.pairStores c [{ pa := line * 64, mask := (2 ^ size - 1) * 2 ^ (pa % 64), data := BitVec.ofNat 256 v }]
          fin s2 0 true v

/-- HOLD_WINDOW_END (R92): the hold window of the core's LR closes; the reservation stays. -/
def execHoldWindowEnd (c : Nat) (s : State) : Res :=
  .next (s.onCore c fun k => { k with resv := k.resv.map fun r => { r with hold := false },
                                      lrWin := k.lrWin.map fun w => (w.1, if w.2 = 1 then 2 else w.2) })

/-! ### Fences -/

/-- A fence's set as it acts: where FIOM of the xenvcfg registers applies to the mode, i stands for i and r, and o for o and w (R33). -/
def Core.fenceSet (k : Core) (f : Nat) : Nat :=
  let menv := bit (k.getCsr 0x30A) 0
  let senv := bit (k.getCsr 0x10A) 0
  let henv := bit (k.getCsr 0x60A) 0
  let on := match k.mode with
    | .m => false
    | .s => menv || (k.virt && henv)
    | .u => menv || senv || (k.virt && henv)
  if on then f ||| (if f.testBit 3 then 2 else 0) ||| (if f.testBit 2 then 1 else 0) else f

/-- FENCE (R82): every fence but w,w and r,w holds younger loads, so that none ahead of it stays in the load queue. A fence with w or o before i or r waits for the store buffer to drain; one that names w before it is an
ordering point (R78); on a pair it closes the interval (R205). Sets are i, o, r, w from bit 3 down. -/
def execFence (c pred succ len : Nat) (s : State) : Res :=
  .next <| s.issue c none fun s =>
    let k := s.core c
    let p := k.fenceSet pred
    let q := k.fenceSet succ
    let drains := (p.testBit 0 || p.testBit 2) && (q.testBit 1 || q.testBit 3)
    if drains && !s.allCompared c then s.closeIval c
    else if drains && !k.drained then s
    else
      let free := (p == 1 || p == 2) && q == 1
      let s1 := s.onCore c fun k => (if p.testBit 0 then k.orderPoint else k).acquire (!free)
      (s1.retire c len [] none).closeIval c

/-- FENCE.TSO (R82): older loads are performed, and an ordering point stands in the store buffer. -/
def execFenceTso (c len : Nat) (s : State) : Res :=
  .next <| s.issue c none fun s =>
    ((s.onCore c Core.orderPoint).retire c len [] none).closeIval c

/-- The cores on which a core's translation and fetch fences act: a pair's fence acts on both (R202). -/
def State.fenceCores (s : State) (c : Nat) : List Nat :=
  match s.ledPair c with
  | some i => [c, i / 2 * 5 + (tget {} s.pairs i).trailer]
  | none => [c]

/-- An instruction that a group may not hold: it ends the group with EXCEPTION and CAUSE 2 and is not executed (R157). -/
def State.notInGroup (s : State) (c : Nat) (k : State → State) : State :=
  match (s.core c).group with
  | some _ => (s.abortGroup c 0x04 2 0).trace c 0x08 0x04 0
  | none => k s

/-- An illegal-instruction exception, or a virtual-instruction exception from a virtual mode. -/
def State.illegal (s : State) (c : Nat) (virt : Bool) (insn : W) : State :=
  s.exception c (if virt then 22 else 2) insn 0

/-- A custom-0 instruction word that is illegal whatever the mode (R51): funct7 or rs2 is not zero, an operand field that the instruction does
not use is not zero, or funct3 is 0b111. -/
def custom0Bad (insn : W) (rd rs1 : Bool) : Bool :=
  field insn 31 25 != 0 || field insn 24 20 != 0 || (!rd && field insn 11 7 != 0) || (!rs1 && field insn 19 15 != 0) || field insn 14 12 == 7

/-- A fence that drains, waits for the comparison on a pair, and then acts and retires (R67, R205). -/
def State.drainThen (s : State) (c len : Nat) (k : State → State) : State :=
  if s.allCompared c = false then s.closeIval c
  else if (s.core c).drained = false then s
  else ((k (s.onCore c Core.squash)).retire c len [] none).closeIval c

/-- FENCE.I (R67): drains the store buffer and flushes L1I of the current world and partition. -/
def execFenceI (c len : Nat) (s : State) : Res :=
  .next <| s.issue c none fun s => s.notInGroup c fun s => s.drainThen c len fun s =>
    let k0 := s.core c
    (s.fenceCores c).foldl (fun s d => s.onCore d fun k =>
      { k with l1i := k.l1i.filter fun e => !(e.2.1 == k0.secure && e.2.2 == k0.part) }) s

/-- Drop the TLB and walk-cache entries of a core that an invalidation names (R66, R67): those of its world and partition
(of both worlds from M-mode under SFENCE.VMA), of one stage kind, of a VMID, of an ASID (not global entries), and whose
page covers a virtual address, or whose guest page, as the G stage maps it, a guest address. -/
def Core.invalidate (k : Core) (bothWorlds two : Bool) (vmid asid va ga : Option Nat) : Core :=
  let hit := fun (e : TlbEnt) =>
    (bothWorlds || e.secure == k.secure) && e.part == k.part && e.two == two &&
    (match vmid with | some v => e.vmid == v | none => true) &&
    (match asid with | some a => !e.glob && e.asid == a | none => true) &&
    (match va with | some v => v / 2 ^ e.size == e.vbase / 2 ^ e.size | none => true) &&
    (match ga with | some v => v / 2 ^ e.gsize == e.gbase / 2 ^ e.gsize | none => true)
  let hitW := fun (e : WalkEnt) =>
    (bothWorlds || e.secure == k.secure) && e.part == k.part && e.virt == two &&
    (match vmid with | some v => e.vmid == v | none => true) &&
    (if e.gst then (match ga with | some v => v / 2 ^ e.size == e.vbase / 2 ^ e.size | none => true)
     else (match asid with | some a => !e.glob && e.asid == a | none => true) &&
      (match va with | some v => v / 2 ^ e.size == e.vbase / 2 ^ e.size | none => true))
  { (k.tlbDrop hit) with walkCache := k.walkCache.filter fun e => !hitW e }

/-- The operands of an invalidation: none where the register is x0. -/
def Core.selVal (k : Core) (r n : Nat) : Option Nat := if r = 0 then none else some ((k.getX r).toNat % 2 ^ n)

/-- SFENCE.VMA's privilege: not from U or VU, nor from S under mstatus.TVM or VS under hstatus.VTVM. -/
def Core.sfenceOk (k : Core) : Bool × Bool :=
  match k.mode with
  | .m => (true, false)
  | .u => (false, k.virt)
  | .s => if k.virt then (!bit (k.getCsr 0x600) 20, true) else (!bit (k.getCsr 0x300) 20, false)

/-- The invalidation of SFENCE.VMA and SINVAL.VMA on the executing core or pair; `both` is SFENCE.VMA's exception for M-mode (R66). -/
def State.sfenceAct (s : State) (c rs1 rs2 : Nat) (both : Bool) : State :=
  let k0 := s.core c
  let vmid := if k0.virt then some (field (k0.getCsr 0x680) 57 44) else none
  (s.fenceCores c).foldl (fun s d => s.onCore d fun k =>
    k.invalidate (both && k0.mode == .m) k0.virt vmid (k0.selVal rs2 16) (k0.selVal rs1 64) none) s

/-- SFENCE.VMA (R66, R67): drains and invalidates the matching entries of the core. -/
def execSfenceVma (c rs1 rs2 len : Nat) (insn : W) (s : State) : Res :=
  .next <| s.issue c none fun s => s.notInGroup c fun s =>
    let ok := (s.core c).sfenceOk
    if ok.1 = false then s.illegal c ok.2 insn
    else s.drainThen c len fun s => s.sfenceAct c rs1 rs2 true

/-- Whether the hypervisor fences may execute: from M and HS; illegal in U, a virtual instruction in VS and VU. -/
def Core.hfenceOk (k : Core) : Bool × Bool :=
  if k.virt then (false, true) else (k.mode != .u, false)

/-- The invalidation of HFENCE.VVMA and HINVAL.VVMA: VS-stage entries of hgatp's VMID. -/
def State.hfenceVAct (s : State) (c rs1 rs2 : Nat) : State :=
  let k0 := s.core c
  (s.fenceCores c).foldl (fun s d => s.onCore d fun k =>
    k.invalidate false true (some (field (k0.getCsr 0x680) 57 44)) (k0.selVal rs2 16) (k0.selVal rs1 64) none) s

/-- The invalidation of HFENCE.GVMA and HINVAL.GVMA: the two-stage entries of a VMID that a guest page covers, which rs1 names by its address
shifted right by 2. -/
def State.hfenceGAct (s : State) (c rs1 rs2 : Nat) : State :=
  let k0 := s.core c
  (s.fenceCores c).foldl (fun s d => s.onCore d fun k =>
    k.invalidate false true (k0.selVal rs2 14) none none ((k0.selVal rs1 64).map (· * 4))) s

/-- HFENCE.VVMA (R66). -/
def execHfenceVvma (c rs1 rs2 len : Nat) (insn : W) (s : State) : Res :=
  .next <| s.issue c none fun s => s.notInGroup c fun s =>
    let ok := (s.core c).hfenceOk
    if ok.1 = false then s.illegal c ok.2 insn
    else s.drainThen c len fun s => s.hfenceVAct c rs1 rs2

/-- HFENCE.GVMA (R66): not from HS under mstatus.TVM. -/
def execHfenceGvma (c rs1 rs2 len : Nat) (insn : W) (s : State) : Res :=
  .next <| s.issue c none fun s => s.notInGroup c fun s =>
    let k := s.core c
    let ok := k.hfenceOk
    if ok.1 = false ∨ (k.mode = .s ∧ bit (k.getCsr 0x300) 20) then s.illegal c ok.2 insn
    else s.drainThen c len fun s => s.hfenceGAct c rs1 rs2

/-- SINVAL.VMA, HINVAL.VVMA and HINVAL.GVMA (kind 0, 1, 2): invalidate without a drain (R67). -/
def execSinvalVma (c kind rs1 rs2 len : Nat) (insn : W) (s : State) : Res :=
  .next <| s.issue c none fun s => s.notInGroup c fun s =>
    let k := s.core c
    let ok := if kind = 0 then k.sfenceOk
      else if kind = 2 ∧ k.hfenceOk.1 ∧ k.mode = .s ∧ bit (k.getCsr 0x300) 20 then (false, false) else k.hfenceOk
    if ok.1 = false then s.illegal c ok.2 insn
    else if s.allCompared c = false then s.closeIval c
    else
      let s1 := if kind = 0 then s.sfenceAct c rs1 rs2 false else if kind = 1 then s.hfenceVAct c rs1 rs2
        else s.hfenceGAct c rs1 rs2
      (s1.retire c len [] none).closeIval c

/-- SFENCE.W.INVAL (R67): drains the store buffer. -/
def execSfenceWInval (c len : Nat) (insn : W) (s : State) : Res :=
  .next <| s.issue c none fun s => s.notInGroup c fun s =>
    let k := s.core c
    if k.mode = .u then s.illegal c k.virt insn else s.drainThen c len fun s => s

/-- SFENCE.INVAL.IR (R67): orders earlier Svinval invalidations before later implicit references, which this model performs
in program order. -/
def execSfenceInvalIr (c len : Nat) (insn : W) (s : State) : Res :=
  .next <| s.issue c none fun s => s.notInGroup c fun s =>
    let k := s.core c
    if k.mode = .u then s.illegal c k.virt insn
    else if s.allCompared c = false then s.closeIval c
    else ((s.onCore c Core.squash).retire c len [] none).closeIval c

/-! ### Cache-block operations -/

/-- What xenvcfg lets a cache-block instruction do in the present mode: `f` tests one xenvcfg value. The answer says whether
it may execute and, if not, whether the exception is a virtual-instruction one (menvcfg first, R33). -/
def Core.envOk (k : Core) (f : W → Bool) : Bool × Bool :=
  if k.mode = .m then (true, false)
  else if f (k.getCsr 0x30A) = false then (false, false)
  else if k.virt then
    (if f (k.getCsr 0x60A) = false then (false, true)
     else if k.mode = .u ∧ f (k.getCsr 0x10A) = false then (false, true) else (true, false))
  else if k.mode = .u ∧ f (k.getCsr 0x10A) = false then (false, false)
  else (true, false)

/-- CBO.ZERO (R37, R78): 64 zero bytes as one store-buffer entry, which on a page mapped NC is written at the line's home (R70). -/
def execCboZero (c rs1 len : Nat) (insn : W) (s : State) : Res :=
  let va := ((s.core c).getX rs1).toNat / 64 * 64
  .next <| s.issue c (some { va := va, size := 64, st := true }) fun s =>
    let ok := (s.core c).envOk fun e => bit e 7
    if ok.1 = false then s.illegal c ok.2 insn
    else match s.xlatAs c va 64 1 fun r pb => r == .dram && pb != 2 with
    | (.miss, s) => s
    | (.dev, s) => s.deviceAbort c
    | (.exn cause, s) => s.exception c cause (BitVec.ofNat 64 va) 0
    | (.ok pa pbmt _, s) =>
      let k := s.core c
      if 96 ≤ k.sb.length then s
      else if k.writesFull (pa / 64) then (s.abortGroup c 0x03 0 0).trace c 0x08 0x03 0
      else
        let kind : SbKind := if pbmt = 1 then .nc else .cboZero
        let e : SbEnt := { pa := pa, size := 64, kind := kind, secure := k.secure, part := k.part, seg := k.seg,
                           ival := s.ivalOf c, grp := k.group.isSome }
        let s1 := (s.storeOrder c [pa / 64]).onCore c fun k => { k with sb := k.sb ++ [e] }
        let s2 := s1.pairStores c [{ pa := pa, mask := 2 ^ 64 - 1, data := 0 }]
        (s2.ownReqs c).retire c len [] (some { va := va, size := 64, st := true, stVal := some 0 })

/-- CBO.CLEAN and CBO.FLUSH (R37): CBO_FLUSH goes to the line's home with the data of an M or O copy; once the home has
completed it the issuer keeps its copy in S, or drops it, and every reservation on the line is cleared (R90). The spec does not say what
the instruction does at an address outside DRAM: there is no line to act on, and it retires (DESIGN CHOICE, log 25). -/
def State.cboOp (s : State) (c rs1 len : Nat) (clean : Bool) (env : W → Bool) (insn : W) : State :=
  let va := ((s.core c).getX rs1).toNat / 64 * 64
  s.issue c none fun s => s.notInGroup c fun s =>
    let ok := (s.core c).envOk env
    if ok.1 = false then s.illegal c ok.2 insn
    else match s.xlat c va 64 0 with
    | (.miss, s) => s
    | (.dev, s) => s.deviceAbort c
    | (.exn cause, s) => s.exception c (cause + 2) (BitVec.ofNat 64 va) 0
    | (.ok pa _ _, s) =>
      let k := s.core c
      let line := pa / 64
      if s.region pa ≠ .dram then s.retire c len [] none
      else if s.allCompared c = false then s.closeIval c
      else if (k.sbOverlap (line * 64) 64).isEmpty = false then s
      else if k.cboDone = some line then
        let l2 := match tget none k.l2 line with
          | some l => if clean then tset none k.l2 line (some { l with st := .s }) else tset none k.l2 line none
          | none => k.l2
        let l1d := if clean then k.l1d else k.l1d.filter (· ≠ line)
        let l1i := if clean then k.l1i else k.l1i.filter (·.1 ≠ line)
        let k1 := if clean then k else k.staleLoads line
        let s1 := (s.setCore c { k1 with l2 := l2, l1d := l1d, l1i := l1i, cboDone := none }).clearResv line none
        s1.retire c len [] none
      else
        let wr := match tget none k.l2 line with
          | some l => if l.st = .m ∨ l.st = .o then some l.d else none
          | none => none
        match s.errFault c line 1 va with
        | some s => s
        | none => s.sendReq c line (if clean then .cboClean else .cboFlush) wr

/-- CBO.CLEAN (R37). -/
def execCboClean (c rs1 len : Nat) (insn : W) (s : State) : Res :=
  .next (s.cboOp c rs1 len true (fun e => bit e 6) insn)

/-- CBO.FLUSH (R37). -/
def execCboFlush (c rs1 len : Nat) (insn : W) (s : State) : Res :=
  .next (s.cboOp c rs1 len false (fun e => bit e 6) insn)

/-- CBO.INVAL (R37): as CBO.FLUSH in every mode. -/
def execCboInval (c rs1 len : Nat) (insn : W) (s : State) : Res :=
  .next (s.cboOp c rs1 len false (fun e => field e 5 4 != 0) insn)

/-- PREFETCH.R, PREFETCH.W and PREFETCH.I (kind 0, 1, 2): a hint that fills a line, or is dropped without fault on a TLB
miss, a device region, a refused translation or a full set of buffers (R37, R48); inside a group its line joins the read
set (R154). -/
def execPrefetch (c kind rs1 : Nat) (imm : W) (len : Nat) (s : State) : Res :=
  let va := ((s.core c).getX rs1 + imm).toNat / 64 * 64
  .next <| s.issue c none fun s =>
    match s.xlat c va 64 (if kind = 1 then 1 else if kind = 2 then 2 else 0) with
    | (.ok pa pbmt _, s1) =>
      if s.region pa ≠ .dram ∨ pbmt ≠ 0 then s.retire c len [] none
      else
        let line := pa / 64
        let k := s1.core c
        let have_ := if kind = 1 then k.owns line else (tget none k.l2 line).isSome
        let r0 : Req := { secure := k.secure, part := k.part, inst := kind == 2, hint := true }
        let s2 := if have_ then (if kind = 1 then s1 else if kind = 2 then s1.fillL1I c line else s1.fillL1 c line)
          else if kind = 1 then s1.wantOwnAs c line r0 else s1.sendReqAs c line .rdShared r0
        let dropped := !have_ && (tget none (s2.core c).reqs line).isNone
        let s3 := if dropped then s1 else s2.joinReads c line
        if s.groupLost s3 c then s3 else s3.retire c len [] none
    | _ => s.retire c len [] none

/-! ### Page-table walks (R56 to R65) -/

/-- How a walk or one of its reads ends. -/
inductive Walk where
  | fault (cause gpa : Nat)
  | wait                                     -- a line that it needs is still to come
  | ok (l : Leaf)
  deriving DecidableEq, Repr

/-- A walk under way: the state, and the A- and D-bit updates that it will make, each with the address of the PTE, the value that the walk
read and the new one (R63). -/
structure Wk where
  s : State
  upd : List (Nat × W × W) := []

/-- The 8 bytes of a PTE as the core's walker reads them through the L1D: a normal coherent read of the line's committed value (R61; that the
core's own group's speculative value is not used is a DESIGN CHOICE, log 34, as R64 keeps walks out of its sets), with the updates that the
walk itself is about to make. Without the line, a shared read is sent and the walk waits; poisoned data fails. -/
def Wk.read (w : Wk) (c pa : Nat) : (Walk × W) × Wk :=
  let s := w.s
  match tget none (s.core c).l2 (pa / 64) with
  | some l =>
    let v := match w.upd.find? fun u => u.1 == pa with
      | some u => u.2.2
      | none => BitVec.ofNat 64 (lineGet l.d.data (pa % 64) 8)
    if l.d.poison then ((.fault 5 0, v), w) else ((.ok {}, v), { w with s := s.fillL1 c (pa / 64) })
  | none =>
    if (s.core c).lineErr.any fun e => e.1 == pa / 64 then
      ((.fault 5 0, 0), { w with s := s.onCore c fun k => { k with lineErr := none } })
    else ((.wait, 0), { w with s := s.sendReq c (pa / 64) .rdShared none })

/-- Note an update of a PTE; one that the walk has already noted keeps the value that it read. -/
def Wk.note (w : Wk) (pa : Nat) (old new : W) : Wk :=
  match w.upd.find? fun u => u.1 == pa with
  | some u => { w with upd := w.upd.map fun v => if v.1 = pa then (pa, u.2.1, new) else v }
  | none => { w with upd := w.upd ++ [(pa, old, new)] }

/-- Write a PTE's A and D bits, an atomic operation on a line that the core owns (R63). The line joins no set of an open group, and the update
stands if that aborts (R64): the group's own copy of the line takes it where the group has not written those bytes. -/
def State.pteWrite (s : State) (c pa : Nat) (v : W) : State :=
  let line := pa / 64
  let off := pa % 64
  (s.onCore c fun k =>
    let l2 := match tget none k.l2 line with
      | some l => tset none k.l2 line (some { st := .m, d := { l.d with data := lineSet l.d.data off 8 v.toNat } })
      | none => k.l2
    let group := k.group.map fun g => match tget none g.writes line with
      | some (d, m) =>
        let d' := (List.range 8).foldl (fun (d : Line) i => if m.testBit (off + i) then d else lineSet d (off + i) 1 (v.toNat / 256 ^ i)) d
        { g with writes := tset none g.writes line (some (d', m)) }
      | none => g
    { k with l2 := l2, group := group }).clearResv line (some c)

/-- Whether a walk read at a physical address may be made (R58, R62, R75): it lies in DRAM of the core's own world and
partition, and PMP lets S-mode read it. -/
def State.walkOk (s : State) (c pa : Nat) : Bool × State :=
  let k := s.core c
  if s.region pa ≠ .dram then (false, s)
  else if k.pmpOk .s pa 8 0 = false then (false, s)
  else
    let o := s.dramOwner (coreTile c) k.part pa
    (o.1 == (if k.secure then none else some k.part), o.2)

/-- The number of levels and of translated bits of a MODE (R56): 8 Sv39, 9 Sv48, 10 Sv57. -/
def modeLevels (m : Nat) : Nat := if m = 8 then 3 else if m = 9 then 4 else if m = 10 then 5 else 0

/-- Whether a virtual address is the sign extension that its mode needs. -/
def canonical (m va : Nat) : Bool :=
  let n := 12 + 9 * modeLevels m
  va / 2 ^ (n - 1) == 0 || va / 2 ^ (n - 1) == 2 ^ (64 - (n - 1)) - 1

/-- Judge a leaf PTE at a level: its page size with Svnapot, its attributes with Svpbmt, or none where the encoding is a
page fault. -/
def leafOf (pte : W) (lvl : Nat) (pbmte : Bool) : Option Leaf :=
  let ppn := field pte 53 10
  let n := bit pte 63
  let pb := field pte 62 61
  let pg := if n then 16 else 12 + 9 * lvl
  if n ∧ (lvl ≠ 0 ∨ ppn % 16 ≠ 8) then none
  else if pb = 3 ∨ (pb ≠ 0 ∧ pbmte = false) then none
  else if n = false ∧ ppn % 2 ^ (9 * lvl) ≠ 0 then none
  else if field pte 60 54 ≠ 0 then none
  else some { pa := ppn * 4096 / 2 ^ pg * 2 ^ pg, size := pg, r := bit pte 1, w := bit pte 2, x := bit pte 3, u := bit pte 4,
              glob := bit pte 5, dirty := bit pte 7, pbmt := pb }

/-- What the access needs of a leaf: 0 load, 1 store, 2 fetch. -/
structure Need where
  acc : Nat := 0
  md : Mode := .s
  st : W := 0
  deriving DecidableEq, Repr

/-- Add an entry to one of the core's two walk caches of 64 entries each (R60). -/
def State.walkAdd (s : State) (c : Nat) (e : WalkEnt) : State :=
  s.onCore c fun k =>
    let same := (k.walkCache.filter fun o => o.gst == e.gst && !(o.virt == e.virt && o.secure == e.secure &&
      o.part == e.part && o.vmid == e.vmid && o.asid == e.asid && o.size == e.size && o.vbase == e.vbase)).take 63
    { k with walkCache := e :: same ++ k.walkCache.filter fun o => o.gst != e.gst }

/-- Keep a non-leaf PTE of the first stage. -/
def State.walkFill (s : State) (c acc vbase size : Nat) (l : Leaf) : State :=
  let k := s.core c
  let virt := (k.accMode acc).2
  s.walkAdd c { secure := k.secure, part := k.part, vmid := field (k.getCsr 0x680) 57 44, glob := l.glob,
                asid := field (k.root virt) 59 44, virt := virt, gst := false, vbase := vbase, size := size, l := l }

/-- The deepest cached non-leaf PTE of the first stage for an address: its level, its table and whether it is global, else the root. -/
def Core.walkStart (k : Core) (virt : Bool) (va levels root : Nat) : Nat × Nat × Bool :=
  (k.walkCache.filter fun e => !e.gst && e.virt == virt && e.secure == k.secure && e.part == k.part &&
      (e.glob || e.asid == field (k.root virt) 59 44) && (!virt || e.vmid == field (k.getCsr 0x680) 57 44) &&
      va / 2 ^ e.size == e.vbase / 2 ^ e.size && decide (e.size < 12 + 9 * levels)).foldl
    (fun b e => if (e.size - 12) / 9 < b.1 then ((e.size - 12) / 9, e.l.pa, e.glob) else b) (levels, root, false)

/-- A cached G-stage translation that allows the reference (R60). -/
def Core.gCached (k : Core) (acc gpa : Nat) : Option Leaf :=
  (k.walkCache.find? fun e => e.gst && e.secure == k.secure && e.part == k.part &&
      e.vmid == field (k.getCsr 0x680) 57 44 && gpa / 2 ^ e.size == e.vbase / 2 ^ e.size &&
      (if accBase acc = 1 then e.l.w && e.l.dirty else rwxOk 0 e.l.r e.l.w e.l.x acc)).map (·.l)

/-- One stage of a walk, a level at a time, from a table at `base`. `gst` says that it is the G stage, whose leaves need U; `glob` that a
table above was global; `tr` turns the address of a PTE into a physical one (the G stage under a VS walk): its flag says that the PTE is to
be written. `orig` is the access that the walk is for. -/
def Wk.stage (w : Wk) (c : Nat) (gst : Bool) (pbmte : Bool) (nd : Need) (va orig : Nat)
    (tr : Wk → Nat → Bool → (Walk × Wk)) (pf : Nat → Nat) (glob : Bool) : Nat → Nat → (Walk × Wk)
  | 0, _ => (.fault (pf nd.acc) 0, w)
  | lvl + 1, base =>
    let ix := if gst then va / 2 ^ (12 + 9 * lvl) else va / 2 ^ (12 + 9 * lvl) % 512
    let a := base + 8 * ix
    match tr w a false with
    | (.ok la, w) =>
      let ok := w.s.walkOk c la.pa
      let w : Wk := { w with s := ok.2 }
      if ok.1 = false ∨ la.pbmt ≠ 0 then (.fault (afCause orig) 0, w)
      else
        match w.read c la.pa with
        | ((.wait, _), w) => (.wait, w)
        | ((.fault _ _, _), w) => (.fault (afCause orig) 0, w)
        | ((.ok _, pte), w) =>
          if bit pte 0 = false ∨ (bit pte 1 = false ∧ bit pte 2) then (.fault (pf nd.acc) 0, w)
          else if bit pte 1 = false ∧ bit pte 3 = false then
            if field pte 63 54 ≠ 0 ∨ field pte 7 6 ≠ 0 ∨ bit pte 4 then (.fault (pf nd.acc) 0, w)
            else if lvl = 0 then (.fault (pf nd.acc) 0, w)
            else
              let g := glob || bit pte 5
              let w : Wk := if gst then w else
                { w with s := w.s.walkFill c orig (va / 2 ^ (12 + 9 * lvl) * 2 ^ (12 + 9 * lvl)) (12 + 9 * lvl)
                                { pa := field pte 53 10 * 4096, size := 12, glob := g } }
              w.stage c gst pbmte nd (if gst then va % 2 ^ (12 + 9 * lvl) else va) orig tr pf g lvl (field pte 53 10 * 4096)
          else
            match leafOf pte lvl pbmte with
            | none => (.fault (pf nd.acc) 0, w)
            | some l =>
              let perm := if gst then l.u && rwxOk nd.st l.r l.w l.x nd.acc
                else permOk nd.st nd.md l.r l.w l.x l.u nd.acc
              let l := { l with glob := l.glob || glob }
              if perm = false then (.fault (pf nd.acc) 0, w)
              else if bit pte 6 ∧ (accBase nd.acc ≠ 1 ∨ bit pte 7) then (.ok l, w)
              else
                match tr w a true with
                | (.ok lw, w) =>
                  let pte' := pte ||| 0x40 ||| (if accBase nd.acc = 1 then 0x80 else 0)
                  (.ok { l with dirty := bit pte' 7 }, w.note lw.pa pte pte')
                | r => r
    | r => r

/-- The G stage: a guest physical address to a physical one (R56 to R58); too wide an address, or a failed walk, is a guest
page fault of the original access's type. `acc` is what this reference itself needs. -/
def Wk.gStage (w : Wk) (c : Nat) (orig acc gpa : Nat) : Walk × Wk :=
  let k := w.s.core c
  let hg := k.getCsr 0x680
  let m := field hg 63 60
  if m = 0 then (if gpa < 2 ^ 48 then (.ok { pa := gpa / 4096 * 4096, size := 12 }, w)
                 else (.fault (afCause orig) 0, w))
  else if 2 ^ (12 + 9 * modeLevels m + 2) ≤ gpa then (.fault (gpfCause orig) gpa, w)
  else
    match k.gCached acc gpa with
    | some l => (.ok l, w)
    | none =>
    match w.stage c true (bit (k.getCsr 0x30A) 62) { acc := acc, md := .u, st := k.getCsr 0x300 } gpa orig
      (fun w a _ => (.ok { pa := a, size := 3 }, w)) gpfCause false (modeLevels m) (field hg 35 2 * 4 * 4096) with
    | (.fault cause _, w) => (.fault (if cause = gpfCause acc then gpfCause orig else cause) gpa, w)
    | (.ok l, w) =>
      let e : WalkEnt := { secure := k.secure, part := k.part, vmid := field hg 57 44, virt := true, gst := true,
                           vbase := gpa / 2 ^ l.size * 2 ^ l.size, size := l.size, l := l }
      (.ok l, { w with s := w.s.walkAdd c e })
    | r => r

/-- What a walk finds: the combined leaf, whether its first stage was Bare, and the guest page that the G stage mapped. -/
structure Found where
  l : Leaf := {}
  bare : Bool := false
  gbase : Nat := 0
  gsize : Nat := 12
  deriving DecidableEq, Repr

/-- The whole walk of one virtual address: the first stage, through the G stage in a virtual mode, then the G stage of the
final address (R60 to R64). -/
def Wk.walk (w : Wk) (c va acc : Nat) : Walk × Found × Wk :=
  let k := w.s.core c
  let (md, virt) := k.accMode acc
  let root := k.root virt
  let m := field root 63 60
  let st := if virt then k.getCsr 0x200 else k.getCsr 0x300
  let pbmte := if virt then bit (k.getCsr 0x60A) 62 else bit (k.getCsr 0x30A) 62
  let tr := fun (w : Wk) (a : Nat) (wr : Bool) =>
    if virt then
      match w.gStage c acc (if wr then 1 else 0) a with
      | (.ok l, w) => (Walk.ok { l with pa := l.pa + a % 2 ^ l.size }, w)
      | r => r
    else (.ok { pa := a, size := 3 }, w)
  let first :=
    if m = 0 then (Walk.ok { pa := va / 4096 * 4096, size := 12 }, w)
    else if canonical m va = false then (.fault (pfCause acc) 0, w)
    else
      let b := k.walkStart virt va (modeLevels m) (field root 35 0 * 4096)
      w.stage c false pbmte { acc := acc, md := md, st := st } va acc tr pfCause b.2.2 b.1 b.2.1
  match first with
  | (.ok l, w) =>
    if virt = false then (.ok l, { l := l, bare := m == 0 }, w)
    else
      let gpa := l.pa + va % 2 ^ l.size
      match w.gStage c acc acc gpa with
      | (.ok g, w) =>
        let size := Nat.min l.size g.size
        let l' : Leaf :=
          { pa := (g.pa + gpa % 2 ^ g.size) / 2 ^ size * 2 ^ size, size := size,
            r := l.r && g.r, w := l.w && g.w, x := l.x && g.x, u := l.u, glob := l.glob,
            dirty := l.dirty && g.dirty, pbmt := if l.pbmt = 0 then g.pbmt else l.pbmt }
        (.ok l', { l := l', bare := m == 0, gbase := gpa / 2 ^ g.size * 2 ^ g.size, gsize := g.size }, w)
      | (r, w) => (r, {}, w)
  | (r, w) => (r, {}, w)

/-- Install what a walk found in the TLBs, with the World Table's verdict and the region's EWA bit (R72, R73); a page above 2 MiB covers
several granules and regions, which each access then asks for. -/
def State.tlbInstall (s : State) (c va acc : Nat) (f : Found) : State :=
  let k := s.core c
  let virt := (k.accMode acc).2
  let size := f.l.size
  let pa := (f.l.pa + va % 2 ^ size) / 2 ^ size * 2 ^ size
  let wt := if size ≤ 21 then s.worldOk (coreTile c) k.secure k.part pa else (true, s)
  let e : TlbEnt :=
    { secure := k.secure, part := k.part, vmid := field (k.getCsr 0x680) 57 44, asid := field (k.root virt) 59 44,
      glob := f.l.glob, two := virt, bare := f.bare, vbase := va / 2 ^ size * 2 ^ size, size := size, pbase := pa,
      gbase := f.gbase, gsize := f.gsize, r := f.l.r, w := f.l.w, x := f.l.x, u := f.l.u, dirty := f.l.dirty,
      pbmt := if s.region pa = .dram then f.l.pbmt else 0, ewa := s.regionEwa pa, wtOk := wt.1 }
  wt.2.onCore c fun k => k.tlbAdd acc e

/-- The walker of a walk is free again. -/
def State.walkEnds (s : State) (c va acc : Nat) : State :=
  s.onCore c fun k => { k with walks := k.walks.filter (· ≠ (va / 4096, acc)) }

/-- Whether the PTEs that a walk is to update lie in lines that the core owns, and still hold what the walk read (R63). -/
def State.updReady (s : State) (c : Nat) (upd : List (Nat × W × W)) : Bool :=
  upd.all fun u => (s.core c).owns (u.1 / 64) && (match tget none (s.core c).l2 (u.1 / 64) with
    | some l => BitVec.ofNat 64 (lineGet l.d.data (u.1 % 64) 8) == u.2.1
    | none => false)

/-- A trailer computes what the leader computes (R203): before a walk of its own it stands where the leader does. -/
def State.mirror (s : State) (c : Nat) : State :=
  match (if s.isTrailer c then s.pairOf c else none) with
  | some i => s.onCore c fun k => (s.core (i / 2 * 5 + (tget {} s.pairs i).leader)).copyArch k
  | none => s

/-- A walk of a trailer found A clear, or D clear for a store: the interval is to end in a mismatch of kind WALK_RACE (R202). -/
def State.walkRace (s : State) (c : Nat) : State :=
  match (if s.isTrailer c then s.pairOf c else none) with
  | some i => { s with pairs := tset {} s.pairs i { tget {} s.pairs i with race := true } }
  | none => s

/-- PAGE_TABLE_WALK (R61): the walk for an access at `va` takes one of the core's four walkers until it ends. `acc` is 0 for a load, 1 for a
store, 2 for a fetch, and 4 to 6 for a hypervisor access. It installs its leaf, or takes the fault that it finds; it writes A and D bits
only once nothing can fail, and restarts from the root where a PTE has changed (R62, R63). A speculative walk, or one of a bound trailer
(R65, R202), takes no fault and writes nothing (R45); a trailer's that finds A or D clear is a WALK_RACE. -/
def execPageTableWalk (c va acc : Nat) (spec : Bool) (s : State) : Res :=
  let s := s.mirror c
  let k := s.core c
  let (md, virt) := k.accMode acc
  let spec := spec || s.isTrailer c
  .next <|
  if k.run ≠ .running ∨ 7 ≤ acc ∨ acc = 3 ∨ k.translated md virt = false ∨
      (4 ≤ k.walks.length ∧ !k.walks.contains (va / 4096, acc)) then s
  else
    let new := !k.walks.contains (va / 4096, acc)
    let s := if new then (s.onCore c fun k => { k with walks := k.walks ++ [(va / 4096, acc)] }).coreCount c 0x08 else s
    match ({ s := s } : Wk).walk c va acc with
    | (.wait, _, w) => w.s
    | (.fault cause gpa, _, w) =>
      let s1 := w.s.walkEnds c va acc
      if spec then s1 else s1.exception c cause (BitVec.ofNat 64 va) (BitVec.ofNat 64 (gpa / 4))
    | (.ok _, f, w) =>
      if w.upd = [] then (w.s.walkEnds c va acc).tlbInstall c va acc f
      else if spec then (w.s.walkEnds c va acc).walkRace c
      else if w.s.updReady c w.upd then
        ((w.upd.foldl (fun s u => s.pteWrite c u.1 u.2.2) w.s).walkEnds c va acc).tlbInstall c va acc f
      else w.upd.foldl (fun s u => if (s.core c).owns (u.1 / 64) then s else s.wantOwn c (u.1 / 64)) w.s

end Sys2Proof.Machine
end

