-- ==== Sys2Proof/Machine/Coherence.lean ====
section
/-! DEFINITION. The coherence protocol (chapter 05): requests at a line's home, snoops on the rings, completions at the
requester, writebacks and notices, NAKs and fairness reservations. -/

namespace Sys2Proof.Machine

open Sys2Proof

/-! ### The requester's side of a request -/

/-- A requester's outstanding request for a line. -/
def State.getReq (s : State) (rq : Rq) (line : Nat) : Option Req :=
  match rq with
  | .core c => tget none (s.core c).reqs line
  | .agent p => tget none s.agentReqs (p * 2 ^ 42 + line)

/-- Replace, or remove, a requester's request. -/
def State.putReq (s : State) (rq : Rq) (line : Nat) (r : Option Req) : State :=
  match rq with
  | .core c => s.onCore c fun k => { k with reqs := tset none k.reqs line r }
  | .agent p => { s with agentReqs := tset none s.agentReqs (p * 2 ^ 42 + line) r }

/-- The ring position, node, world and partition of a requester. -/
def rqPos : Rq → Nat
  | .core c => tilePos (coreTile c)
  | .agent p => p

def rqNode : Rq → Nat
  | .core c => tileNode (coreTile c)
  | .agent p => agentNode p

/-- The number by which packets name a requester. -/
def rqWho : Rq → Nat
  | .core c => c
  | .agent p => 1000 + p

/-- The world and partition of the instruction or agent that a request for a line serves (R46, R80, R99); without one, of the core as it
runs now. -/
def State.rqSecure (s : State) (rq : Rq) (line : Nat) : Bool :=
  match s.getReq rq line with
  | some r => r.secure
  | none => match rq with
    | .core c => (s.core c).secure
    | .agent _ => false

def State.rqPart (s : State) (rq : Rq) (line : Nat) : Nat :=
  match s.getReq rq line with
  | some r => r.part
  | none => match rq with
    | .core c => (s.core c).part
    | .agent _ => 0

/-! ### Packets of the protocol (R104, R131, R133) -/

/-- Send a message of the protocol about a line from one node to another; the request it belongs to gives the header's tags. -/
def State.postMsg (s : State) (m : Msg) (rq : Rq) (src dst line : Nat) (poison : Bool) (status : Nat) : State :=
  let r := (s.getReq rq line).getD {}
  let unit := match rq with | .core c => coreSlot c | .agent p => if p = 25 then 1 else 0
  s.post { msg := m, who := rqWho rq, src := src, dst := dst, unit := unit, world := r.secure, part := r.part, tag := r.tag,
           epoch := (tget {} s.txns (rqNode rq * 1024 + r.tag)).epoch, nak := r.nak, status := status, addr := line * 64,
           len := m.flits 64, poison := poison }

/-- Whether a protocol message can be taken where it is going, and its taking. -/
def State.msgOk (s : State) (m : Msg) (rq : Rq) (line : Nat) : Bool := s.canTake m (rqWho rq) (line * 64)
def State.takeMsg (s : State) (m : Msg) (rq : Rq) (line : Nat) : State := s.take m (rqWho rq) (line * 64)

/-- The tile learns from a tagged line that it accepts that its number is assigned: its copy of A rises to it (R185). -/
def State.learnTag (s : State) (dest : Nat) (t : Option Tag) : State :=
  match t with
  | none => s
  | some t =>
    let i := dest * 64 + t.stream
    let p := tget {} s.pubs i
    if t.seq ≤ p.a then s else { s with pubs := tset {} s.pubs i { p with a := t.seq } }

/-- What a sweep does to a copy of a line (R189): a tag at or below L is dropped; one above L turns the line into a poisoned line without a
tag. -/
def sweepData (n l : Nat) (d : LineData) : LineData :=
  match d.tag with
  | some t => if t.stream = n then { d with tag := none, poison := d.poison || decide (l < t.seq) } else d
  | none => d

/-- A line as a destination takes it: swept, where a sweep of its stream is under way that the destination has answered already. -/
def State.sweptData (s : State) (dest : Nat) (d : LineData) : LineData :=
  match d.tag with
  | some t =>
    let x := tget {} s.spn t.stream
    if x.sweep.isSome && x.swept.contains dest then sweepData t.stream x.sweepL d else d
  | none => d

/-! ### Filling and evicting private caches -/

/-- Whether another core slot of the tile holds the line: when none does, the notice or writeback carries LAST (R115). -/
def State.lastOfTile (s : State) (c line : Nat) : Bool :=
  (List.range 5).all fun n =>
    let d := coreTile c * 5 + n
    d == c || (tget none (s.core d).l2 line).isNone

/-- A private L2 gives up a line: L1 copies go with it, a reservation on it is cleared, and the writeback buffer holds the
WB_DIRTY or EVICT_CLEAN until it is acknowledged (R98, R115, R121). -/
def State.evictL2 (s : State) (c line : Nat) : State :=
  let k := s.core c
  match tget none k.l2 line with
  | none => s
  | some l =>
    let e : WbEnt := { d := l.d, dirty := l.st == .m || l.st == .o, last := s.lastOfTile c line }
    let resv := match k.resv with
      | some r => if r.line = line then none else some r
      | none => none
    (s.setCore c { k.staleLoads line with
      l2 := tset none k.l2 line none, l1d := k.l1d.filter (· ≠ line), l1i := k.l1i.filter fun e => e.1 != line,
      wb := tset none k.wb line (some e), resv := resv }).postMsg (if e.dirty then .wbDirty else .evictClean) (.core c)
      (tileNode (coreTile c)) (tileNode (homeOf line)) line e.d.poison 0

/-- Whether a core's group protects a line of its sets from replacement: while it is open, and while it flips (R98, R155). -/
def Core.groupHolds (k : Core) (line : Nat) : Bool :=
  match k.group with
  | some g => g.reads.contains line || (tget none g.writes line).isSome || k.sb.any fun e => e.grp && e.pa / 64 == line
  | none => false

/-- Install a line that a request brought (8 ways, 2,048 sets): a full set gives up a line outside the open group's sets, of
pseudo-LRU's choice (a free value); where all 8 belong to the group it aborts (R98, R155). A hold window that waits for the line opens
(R92). Which set a line maps to, its number modulo the sets, is a DESIGN CHOICE (log 26). -/
def State.fillL2 (s : State) (c line : Nat) (l : L2Line) (forStore : Bool) : State :=
  let put := fun (s : State) => (s.onCore c fun k =>
    { k with l2 := tset none k.l2 line (some l),
             lrWin := if k.lrWin = some (line, 0) then some (line, 1) else k.lrWin }).fillL1 c line
  let k := s.core c
  if (tget none k.l2 line).isSome then put s
  else
    let set : List Nat := (k.l2.filter fun e => e.1 % 2048 == line % 2048).map fun e => e.1
    if set.length < 8 then put s
    else
      let free := set.filter fun n => !k.groupHolds n
      match free[s.drawIn 0 (free.length - 1)]? with
      | some v => put (s.drawn.evictL2 c v)
      | none =>
        let code := if forStore then 0x03 else 0x02
        let s1 := (s.abortGroup c code 0 0).trace c 0x08 code 0
        put (s1.drawn.evictL2 c (set.getD (s1.drawIn 0 7) 0))

/-- A request of a core ends with a STATUS other than OK (R142, R566): inside a group an ownership request ends the group
with EXCEPTION and cause 7; outside one the buffered stores of the line are removed and reported; any other access that
waits for the line, an LR's among them, takes its access fault when it is executed again, and a prefetch's is dropped (R37, R142). -/
def State.failReq (s : State) (c line status : Nat) (r : Req) : State :=
  let k := s.core c
  let own := (r.kind == .rdOwn || r.kind == .upgrade) && !r.lr
  if r.hint then s
  else if own && (match k.group with | some g => g.abortable | none => false) then
    (s.abortGroup c 0x04 7 0).trace c 0x08 0x04 0
  else
    let mine := k.sb.filter fun e => own && e.pa / 64 == line && (e.kind == .normal || e.kind == .cboZero)
    if mine.isEmpty then s.onCore c fun k => { k with lineErr := some (line, status) }
    else
      let s1 := s.onCore c fun k =>
        { k with sb := k.sb.filter fun e => !(e.pa / 64 == line && (e.kind == .normal || e.kind == .cboZero)) }
      mine.foldl (fun s e => s.reportStore c e.pa status) s1

/-- The requester holds everything its request needs: the request ends, its tag index is free, and the line is installed in
the state the COMP granted (R105); a CBO tells its core, an agent's read or write is over. An agent's RD_OWN ends in M: the agent keeps no
cache, so that the line it owned goes back to its home dirty at once (DESIGN CHOICE, log 35). -/
def State.finishReq (s : State) (rq : Rq) (line : Nat) : State :=
  match s.getReq rq line with
  | none => s
  | some r =>
    if r.compHeld = false ∨ (r.dataHeld = false ∧ r.noData = false ∧ r.compStatus = 0) then s
    else
      let s1 := (s.putReq rq line none).freeTxn (rqNode rq) r.tag
      match rq with
      | .agent _ => (match r.kind, r.data with
        | .rdOwn, some d =>
          (s1.learnTag (homeOf line) d.tag).l3Put line
            { data := d.data, dirty := true, poison := d.poison, secure := r.secure,
              tag := d.tag.map fun t => { t with seq := t.seq % 4096 } }
        | _, _ => s1)
      | .core c =>
        if r.compStatus ≠ 0 then s1.failReq c line r.compStatus r
        else
          match r.kind, r.comp with
          | .cboClean, _ | .cboFlush, _ => s1.onCore c fun k => { k with cboDone := some line }
          | .amoHome, _ => s1
          | _, some (some st) =>
            let d : LineData := match r.data with
              | some d => s1.sweptData (coreTile c) d
              | none => match tget none (s1.core c).l2 line with
                | some l => l.d
                | none => {}
            let forStore := (r.kind == .rdOwn || r.kind == .upgrade) && !r.lr && !r.hint
            (((s1.learnTag (coreTile c) d.tag).fillL2 c line { st := st, d := d } forStore)).ownReqs c
          | _, _ => s1

/-- COMP (R105): the requester receives the COMP of its request. -/
def execComp (rq : Rq) (line : Nat) (s : State) : Res :=
  .next <| match s.getReq rq line with
  | some r => if r.comp.isSome ∧ s.msgOk .comp rq line then
      ((s.takeMsg .comp rq line).putReq rq line (some { r with compHeld := true })).finishReq rq line else s
  | none => s

/-- DATA (R105): the requester receives the line with its poison bit and durability tag. -/
def execData (rq : Rq) (line : Nat) (s : State) : Res :=
  .next <| match s.getReq rq line with
  | some r => if r.data.isSome ∧ s.msgOk .data rq line then
      ((s.takeMsg .data rq line).putReq rq line (some { r with dataHeld := true })).finishReq rq line else s
  | none => s

/-! ### The home -/

/-- The tag as the L3 keeps it: the number's low 12 bits (R126). -/
def truncTag (t : Option Tag) : Option Tag :=
  match t with
  | some t => some { stream := t.stream, seq := t.seq % 4096 }
  | none => none

/-- The number that a home gives a tracker entry: the lowest that is free (R103, R109). -/
def State.trkId (s : State) (home : Nat) : Nat :=
  let used := s.trk.filterMap fun e => if homeOf e.1 = home then e.2.map (·.id) else none
  ((List.range 257).find? fun n => !used.contains n).getD 0

/-- Rewrite the Sieve entry of a line (R112 to R114). A new entry in a full set of 12 evicts the least recently used one whose line has no
open tracker entry: an SNP_INV goes out through a tracker entry of its own, and the entry is freed when the combined response returns; the
new entry stands beside it until then (DESIGN CHOICE, log 36). Which set a line maps to, its number modulo 8,192, is a DESIGN CHOICE (log
26). -/
def State.sievePut (s : State) (line mask : Nat) : State :=
  let ent : SieveEnt := if mask = 0 then {} else { mask := mask, stamp := s.stamp }
  let put := fun (s : State) => ({ s with sieve := tset {} s.sieve line ent, stamp := s.stamp + 1 } : State)
  if mask = 0 ∨ (tget {} s.sieve line).mask ≠ 0 then put s
  else
    let set := s.sieve.filter fun e => homeOf e.1 == homeOf line && e.1 % 8192 == line % 8192
    if set.length < 12 then put s
    else
      match (set.filter fun e => (tget none s.trk e.1).isNone).foldl (fun (b : Option (Nat × SieveEnt)) e => match b with
        | none => some e
        | some b => if e.2.stamp < b.2.stamp then some e else some b) none with
      | none => put s
      | some v =>
        let t : Trk := { kind := .wrLine, id := s.trkId (homeOf line) }
        put (({ s with trk := tset none s.trk v.1 (some t) } : State).count (cuTile (homeOf line)) 0x07 none 1)

/-- NAK a request (R103, R119): a request with a NAK count of 8 or more takes the line's fairness reservation when there is
none and the home has fewer than 32; the NAK to its holder carries RESERVED. -/
def State.nakReq (s : State) (rq : Rq) (line : Nat) : State :=
  match s.getReq rq line with
  | none => s
  | some r =>
    let held := tget none s.fair line
    let take := held.isNone && decide (8 ≤ r.nak) &&
      decide ((s.fair.filter fun e => homeOf e.1 == homeOf line).length < 32)
    let s1 : State := if take then { s with fair := tset none s.fair line (some rq) } else s
    let res := take || held == some rq
    let r' : Req := { r with nakIn := true, reserved := res, accepted := false, data := none, dataHeld := false }
    let s2 := (s1.putReq rq line (some r')).postMsg .nak rq (tileNode (homeOf line)) (rqNode rq) line false 0
    s2.count (cuTile (homeOf line)) 0x02 (some r.part) 1

/-- Put a snoop that is ready into a slot of its ring that it may fill (R111), if there is one. Filling a slot that the home had reserved ends
the reservation: the spec does not say when RSV clears (DESIGN CHOICE, log 37). -/
def State.fillSlot (s : State) (line : Nat) : State :=
  match tget none s.trk line with
  | none => s
  | some t =>
    if t.phase ≠ .needSlot then s
    else
      let ring := line % 2
      let pos := tilePos (homeOf line)
      match (List.range 28).find? fun k =>
          let x := tget {} s.slots (ring * 28 + k)
          !x.valid && (!x.rsv || x.rsvPos == pos) with
      | none => s
      | some k =>
        let typ : Snp := match t.kind with
          | .rdShared => .shared
          | .rdOwn | .upgrade => .own
          | .rdOnce => .once
          | _ => .inv
        let node := match t.rq with | some rq => rqNode rq | none => 0
        let x : Slot := { valid := true, origPos := pos, typ := typ, line := line, reqNode := node, tracker := t.id, at_ := pos }
        ({ s with slots := tset {} s.slots (ring * 28 + k) x,
                  trk := tset none s.trk line (some { t with phase := .snooping }) } : State).count
          (cuTile (homeOf line)) 0x05 none 1

/-- Send the COMP, with the DATA where the home supplies it, and close the tracker entry (R107). -/
def State.sendComp (s : State) (rq : Rq) (line : Nat) (st : Option Moesi) (data : Option LineData) (noData : Bool)
    (status : Nat) : State :=
  let s1 : State := { s with trk := tset none s.trk line none }
  match s1.getReq rq line with
  | none => s1
  | some r =>
    let home := tileNode (homeOf line)
    let s2 := s1.putReq rq line (some { r with comp := some st, compStatus := status, noData := noData,
                                               data := if r.data.isSome then r.data else data })
    let s3 := s2.postMsg .comp rq home (rqNode rq) line false status
    match r.data, data with
    | none, some d => s3.postMsg .data rq home (rqNode rq) line d.poison status
    | _, _ => s3

/-- The home's own supply of a line (R107): an L3 or dependency-buffer copy, or DRAM, whose fill allocates in L3 (R98). -/
def State.homeSupply (s : State) (line : Nat) (secure : Bool) (part : Nat) : LineData × State :=
  let d := s.homeData line
  if (tget none s.depvb line).isSome then (d, s)
  else match tget none s.l3 line with
    | some l => (d, { s with l3 := tset none s.l3 line (some { l with stamp := s.stamp }), stamp := s.stamp + 1 })
    | none =>
      let s1 := s.count (cuTile (homeOf line)) 0x0B (some part) 1
      (d, match s1.l3Alloc line { data := d.data, poison := d.poison, secure := secure } with
          | some s => s
          | none => s1)

/-- Whether some private cache still has to deliver its writeback of the line. -/
def State.wbDue (s : State) (line : Nat) : Bool :=
  s.coreIds.any fun c => match tget none (s.core c).wb line with
    | some w => w.dirty && w.acked == 0 && !w.disc
    | none => false

/-- Write a line's home copy to DRAM for CBO_FLUSH and complete the request, unless its tag has not become durable (R107,
R127) or an owner's writeback is still due. -/
def State.finishCbo (s : State) (rq : Rq) (line : Nat) (t : Trk) : State :=
  if s.wbDue line then { s with trk := tset none s.trk line (some { t with phase := .needWb }) }
  else
    let r := s.getReq rq line
    let mine := match r, rq with
      | some r, .core c => (match r.wr, tget none (s.core c).l2 line with
        | some _, some l => if l.st = .m ∨ l.st = .o then some l.d else none
        | _, _ => none)
      | _, _ => none
    let d := match mine with | some d => d | none => s.homeData line
    let tag := match mine with
      | some d => (match d.tag with
          | some t => if t.seq ≤ (s.pub (homeOf line) t.stream).w then none else some t
          | none => none)
      | none => d.tag
    if tag.isSome then
      let s1 := match mine with
        | some m => s.l3Put line { data := m.data, dirty := true, poison := m.poison,
                                   tag := truncTag m.tag, secure := s.rqSecure rq line }
        | none => s
      let s2 := s1.putReq rq line (r.map fun r => { r with wr := none })
      let t' : Trk := { t with phase := .needWrite }
      { s2 with trk := tset none s2.trk line (some t') }
    else
      let status := s.memStatus line
      let dirty := mine.isSome || (tget none s.depvb line).isSome ||
        (match tget none s.l3 line with | some l => l.dirty | none => false)
      let s1 := if dirty then s.dramWrite line d.data d.poison else s
      let l3' := match tget none s1.l3 line with
        | some l =>
          let l' : L3Line := { l with data := d.data, dirty := false, poison := d.poison, tag := none }
          tset none s1.l3 line (some l')
        | none => s1.l3
      let s2 : State := { s1 with depvb := tset none s1.depvb line none, l3 := l3' }
      s2.sendComp rq line none none true (if dirty then status else 0)

/-- Clear a stop's presence bit. -/
def State.sieveClear (s : State) (line pos : Nat) : State :=
  let e := tget {} s.sieve line
  let m := e.mask &&& ((2 ^ 28 - 1) ^^^ 2 ^ pos)
  { s with sieve := tset {} s.sieve line (if m = 0 then {} else { e with mask := m }) }

/-- Apply a dirty line at its home: into L3, into the dependency victim buffer, or none where neither can take a tagged
one (R127). A line whose tag a fence has lost is kept poisoned, without a tag (R189). -/
def State.applyDirty (s : State) (line : Nat) (d : LineData) (secure : Bool) : Option State :=
  let home := homeOf line
  let d := s.sweptData home d
  let s := s.learnTag home d.tag
  let lost := match d.tag with
    | some t => (s.pub home t.stream).fenced && decide ((s.pub home t.stream).w < t.seq)
    | none => false
  let tag := match d.tag with
    | some t => if lost ∨ t.seq ≤ (s.pub home t.stream).w then none else some { t with seq := t.seq % 4096 }
    | none => none
  let ent : L3Line := { data := d.data, dirty := true, poison := d.poison || lost, tag := tag, secure := secure }
  match s.l3Alloc line ent with
  | some s => some s
  | none =>
    let s1 : State := { s with l3 := tset none s.l3 line none }
    if tag.isSome then s1.depvbPut line ent
    else some { s1.dramWrite line d.data ent.poison with depvb := tset none s1.depvb line none }

/-- A writeback reaches its home (R121): the home parks a writeback whose line has an open tracker entry, discards one whose ownership has
passed, and applies any other; LAST, once the writeback is applied, clears the stop's bit (R115). Parked writebacks use the home's 32-entry
writeback queue (R103). The spec gives ways to fills and says nothing of a writeback: its allocation uses the ways of the world in which
the core runs when it arrives (DESIGN CHOICE, log 38). A tagged one that neither L3 nor the dependency victim
buffer can take is NAKed and sent again (R127). -/
def State.wbArrive (s : State) (c line : Nat) : State :=
  let k := s.core c
  match tget none k.wb line with
  | none => s
  | some w =>
    if w.dirty = false ∨ w.acked ≠ 0 then s
    else
      let setW := fun (s : State) (a : Nat) => (s.onCore c fun k =>
        { k with wb := tset none k.wb line (some { w with acked := a }) }).postMsg (if a = 1 then .wbAck else .wbDisc) (.core c)
          (tileNode (homeOf line)) (tileNode (coreTile c)) line false 0
      match tget none s.trk line with
      | some t =>
        if t.phase ≠ .needWb then
          (if t.parked.isNone ∧ 32 ≤ (s.trk.filter fun e => homeOf e.1 == homeOf line && (match e.2 with
              | some t => t.parked.isSome | none => false)).length then s
           else { s with trk := tset none s.trk line (some { t with parked := some c }) })
        else
          match s.applyDirty line w.d k.secure with
          | none => s
          | some s1 =>
            let s2 := if w.last then s1.sieveClear line (tilePos (coreTile c)) else s1
            let s3 := setW s2 1
            (match t.rq with
             | some rq => if s3.wbDue line then s3 else s3.finishCbo rq line t
             | none => s3)
      | none =>
        if w.disc then setW s 2
        else
          match s.applyDirty line w.d k.secure with
          | some s1 => setW (if w.last then s1.sieveClear line (tilePos (coreTile c)) else s1) 1
          | none => s.count (cuTile (homeOf line)) 0x09 none 1

/-- The home's completion of a request (R107, R112): `x` is the combined response, empty where no snoop was needed. -/
def State.completeReq (s : State) (line : Nat) (x : Slot) : State :=
  match tget none s.trk line with
  | none => s
  | some t =>
    match t.rq with
    | none =>
      let s1 : State := { s with trk := tset none s.trk line none }
      if t.kind = .wrLine then s1.sievePut line x.present else s1
    | some rq =>
      let sec := s.rqSecure rq line
      let part := s.rqPart rq line
      let bitOf := 2 ^ rqPos rq
      let r := s.getReq rq line
      let holds := match rq with | .core c => (tget none (s.core c).l2 line).isSome | .agent _ => false
      let sup := r.bind (·.data)
      let own := t.kind == .rdOwn || t.kind == .upgrade
      -- a writeback that the owner answered from (R121)
      let s := if x.wbStale then
          (match posTile x.ownerPos with
           | some tl => (List.range 5).foldl (fun s n => s.onCore (tl * 5 + n) fun k =>
               match tget none k.wb line with
               | some w => if w.supplied && own then { k with wb := tset none k.wb line (some { w with disc := true }) } else k
               | none => k) s
           | none => s)
        else s
      match t.kind with
      | .rdShared =>
        let st : Moesi := if x.hitOwn ∨ x.hitS ∨ x.present ≠ 0 then .s else .e
        let h := if sup.isSome then ({}, s) else s.homeSupply line sec part
        let status := if sup.isSome then 0 else if h.1 == s.dramLine line && (tget none s.l3 line).isNone &&
          (tget none s.depvb line).isNone then s.memStatus line else 0
        if status ≠ 0 then (s.sievePut line x.present).sendComp rq line none none true status
        else ((h.2.sievePut line (x.present ||| bitOf)).sendComp rq line (some st)
          (if sup.isSome then none else some h.1) false 0)
      | .rdOwn | .upgrade =>
        if t.kind == .upgrade && holds && sup.isNone then
          ((s.sievePut line (x.present ||| bitOf)).sendComp rq line (some .m) none true 0)
        else
          let h := if sup.isSome then ({}, s) else s.homeSupply line sec part
          let status := if sup.isSome then 0 else if (tget none s.l3 line).isNone && (tget none s.depvb line).isNone
            then s.memStatus line else 0
          if status ≠ 0 then (s.sievePut line x.present).sendComp rq line none none true status
          else
            let keep := match rq with | .core _ => bitOf | .agent _ => 0
            ((h.2.sievePut line (x.present ||| keep)).sendComp rq line (some .m)
              (if sup.isSome then none else some h.1) false 0)
      | .rdOnce =>
        let h := if sup.isSome then ({}, s) else s.homeSupply line sec part
        ((h.2.sievePut line x.present).sendComp rq line none (if sup.isSome then none else some h.1) false 0)
      | .wrLine =>
        let d := (r.bind (·.wr)).getD {}
        let s1 := s.dropCopies line
        let s2 := s1.l3Put line { data := d.data, dirty := true, secure := sec }
        (s2.sievePut line 0).sendComp rq line none none true 0
      | .cboClean | .cboFlush => (s.sievePut line (x.present ||| (if holds then bitOf else 0))).finishCbo rq line t
      | .amoHome => s.sendComp rq line none none true 0

/-- The home completes a request, and then handles the writeback parked with its entry (R121). -/
def State.complete (s : State) (line : Nat) (x : Slot) : State :=
  let s1 := s.completeReq line x
  match tget none s.trk line with
  | some { parked := some c, .. } => s1.wbArrive c line
  | _ => s1

/-- Whether all 256 tracker entries of a home are in use (R25, R103). -/
def State.trkFull (s : State) (home : Nat) : Bool := decide (256 ≤ (s.trk.filter fun e => homeOf e.1 == home).length)

/-- The home's arbiter takes a request (R102, R103, R108, R119, R491): it is NAKed where the line has an open tracker entry or
another requester's reservation, or its set is out of use; it waits where all 256 entries are in use; otherwise it is accepted, and completes at once
when the Sieve shows no copy. A request whose initiator has timed out is taken like any other, and its answer finds nobody (R27, R139): the
model answers it without a snoop, so that no data is lost with it (DESIGN CHOICE, log 33). -/
def State.accept (s : State) (rq : Rq) (line : Nat) (kind : ReqKind) : State :=
  match s.getReq rq line with
  | none =>
    let g := (rqWho rq, line, kind)
    if s.ghosts.contains g ∧ (tget none s.trk line).isNone ∧ s.trkFull (homeOf line) = false ∧ s.msgOk kind.msg rq line then
      let s0 := s.takeMsg kind.msg rq line
      ({ s0 with ghosts := s.ghosts.erase g } : State).count (cuTile (homeOf line)) 0x01 none 1
    else s
  | some r =>
    let home := homeOf line
    if r.kind ≠ kind ∨ r.accepted ∨ r.nakIn ∨ r.off ∨ r.wait ≠ 0 ∨ r.comp.isSome ∨ s.isDram (line * 64) = false ∨
        s.msgOk kind.msg rq line = false then s
    else if (tget none s.trk line).isSome ∨ s.l3Held line then (s.takeMsg kind.msg rq line).nakReq rq line
    else if (match tget none s.fair line with | some o => o != rq | none => false) then (s.takeMsg kind.msg rq line).nakReq rq line
    else if s.trkFull home then s
    else
      let t : Trk := { rq := some rq, kind := kind, id := s.trkId home }
      let s0 := s.takeMsg kind.msg rq line
      let s1 : State := { s0 with fair := tset none s.fair line none, trk := tset none s.trk line (some t) }
      let s2 := (s1.putReq rq line (some { r with accepted := true })).count (cuTile home) 0x01 (some r.part) 1
      if (tget ({} : SieveEnt) s.sieve line).mask = 0 then (s2.count (cuTile home) 0x06 none 1).complete line {}
      else s2.fillSlot line

/-- RD_SHARED (R107). -/
def execRdShared (c line : Nat) (s : State) : Res := .next (s.accept (.core c) line .rdShared)

/-- The line operations that the agent at a ring position has in flight. -/
def State.agentLines (s : State) (p : Nat) : Nat := (s.agentReqs.filter fun e => e.1 / 2 ^ 42 == p && e.2.isSome).length

/-- The line operations that an agent may have in flight: 256 of the I/O coherence agent (R321), 128 of the cipher agent for both
clusters (R341). -/
def agentBound (p : Nat) : Nat := if p = 25 then 256 else if p = 26 then 128 else 1024

/-- An agent's own request, sent when it has none for the line. The row names no world: the request carries that of the line's owner in the
World Table, for which alone the agents act (R354; DEDUCED, log 39). -/
def State.agentSend (s : State) (rq : Rq) (line : Nat) (kind : ReqKind) (wr : Option LineData) : State :=
  match rq with
  | .core _ => s
  | .agent p =>
    if (s.getReq rq line).isSome ∨ s.isDram (line * 64) = false ∨ agentBound p ≤ s.agentLines p then s
    else match s.takeTxn (agentNode p) (.line rq line) (line * 64) false with
      | none => s
      | some (n, s1) =>
        let off := !s.lidSends (agentNode p) (if p = 25 then 1 else 0)
        let o := (s1.dramOwner (if p = 25 then 24 else if p = 26 then 26 else if p = 27 then 25 else 27) 0 (line * 64)).1
        let r : Req := { kind := kind, tag := n, wr := wr, secure := o.isNone, part := o.getD 0, off := off }
        let s2 := s1.putReq rq line (some r)
        if off then s2 else s2.postMsg kind.msg rq (agentNode p) (tileNode (homeOf line)) line false 0

/-- RD_OWN (R107): of a core, or of an agent that writes part of a line. -/
def execRdOwn (rq : Rq) (line : Nat) (s : State) : Res := .next ((s.agentSend rq line .rdOwn none).accept rq line .rdOwn)

/-- UPGRADE (R107). -/
def execUpgrade (c line : Nat) (s : State) : Res := .next (s.accept (.core c) line .upgrade)

/-- RD_ONCE (R107): an agent at ring position `pos` reads the current value. -/
def execRdOnce (pos line : Nat) (s : State) : Res :=
  .next ((s.agentSend (.agent pos) line .rdOnce none).accept (.agent pos) line .rdOnce)

/-- WR_LINE (R107): an agent writes a full line. -/
def execWrLine (pos line : Nat) (data : BitVec 512) (s : State) : Res :=
  .next ((s.agentSend (.agent pos) line .wrLine (some { data := data })).accept (.agent pos) line .wrLine)

/-- CBO_FLUSH (R107): of CBO.CLEAN or CBO.FLUSH. -/
def execCboFlushRequest (c line : Nat) (s : State) : Res :=
  .next ((s.accept (.core c) line .cboClean).accept (.core c) line .cboFlush)

/-- AMO_HOME (R104): the home performs the atomic that the core asked for on a line mapped NC; mismatched cached copies are
dropped at the granule of the line (R70). It takes a tracker entry until its answer, which is sent at once (R103); poisoned data is the
AMO's access fault (R100), and the tag of the line that it read is recorded (R169). -/
def execAmoHome (c line : Nat) (s : State) : Res :=
  let k := s.core c
  .next <| match tget none k.reqs line, k.amoReq with
  | some r, some (op, size, pa, src) =>
    if r.kind ≠ .amoHome ∨ pa / 64 ≠ line ∨ r.nakIn ∨ r.off ∨ r.wait ≠ 0 ∨ s.msgOk .amoHome (.core c) line = false then s
    else if (tget none s.trk line).isSome then (s.takeMsg .amoHome (.core c) line).nakReq (.core c) line
    else if (match tget none s.fair line with | some o => o != Rq.core c | none => false) then
      (s.takeMsg .amoHome (.core c) line).nakReq (.core c) line
    else if s.trkFull (homeOf line) then s
    else
      let cur := s.curLine line
      let status := if cur.poison then 4 else s.memStatus line
      let old := s.curNat pa size
      let s0 := (s.takeMsg .amoHome (.core c) line).count (cuTile (homeOf line)) 0x01 (some r.part) 1
      let s1 := (s0.putReq (.core c) line none).freeTxn (tileNode (coreTile c)) r.tag
      let s2 : State := { s1 with fair := tset none s1.fair line none }
      let s3 := if status = 0 then (s2.agentWriteBytes pa (leBytes size (amoResult op size old src)) r.secure).depRecord c cur.tag
        else s2
      let s4 := if cur.poison then s3.logErr (tileNode (coreTile c)) (coreSlot c) 2 0xB01 pa else s3
      s4.onCore c fun k => { k with devAns := some (old, status), amoReq := none }
  | _, _ => s

/-! ### NAKs and fairness (R118 to R120) -/

/-- The backoff range of the k-th NAK, in mesh cycles (R118). -/
def nakRange (k : Nat) : Nat × Nat :=
  if k ≤ 1 then (16, 64) else if k = 2 then (32, 128) else if k = 3 then (64, 256)
  else if k = 4 then (128, 512) else (256, 1024)

/-- NAK (R118): the requester counts it, saturating at 15, and waits a random time in the range of its number, or exactly 16
mesh cycles under RESERVED. -/
def execNak (rq : Rq) (line : Nat) (s : State) : Res :=
  .next <| match s.getReq rq line with
  | some r =>
    if r.nakIn = false ∨ s.msgOk .nak rq line = false then s
    else
      let n := Nat.min 15 (r.nak + 1)
      let rg := nakRange n
      let w := if r.reserved then 16 else s.drawIn rg.1 rg.2
      let s := s.takeMsg .nak rq line
      let s1 := (if r.reserved then s else s.drawn).putReq rq line (some { r with nak := n, wait := w, nakIn := false })
      match rq with
      | .core c => s1.count (cuTile (coreTile c)) 0x03 (some (s.core c).part) 1
      | .agent _ => s1
  | none => s

/-- A request has a new deadline from now on (R138). -/
def State.newDeadline (s : State) (node tag : Nat) : State :=
  let i := node * 1024 + tag
  let t := tget {} s.txns i
  match t.use with
  | some u => { s with txns := tset {} s.txns i { t with deadline := s.deadlineOf node (useUnit u) t.device } }
  | none => s

/-- NAK_RETRY (R118): the wait ends and the request is sent again, with a new deadline (R138). -/
def execNakRetry (rq : Rq) (line : Nat) (s : State) : Res :=
  .next <| match s.getReq rq line with
  | some r =>
    if r.wait = 0 then s
    else ((s.putReq rq line (some { r with wait := 0 })).newDeadline (rqNode rq) r.tag).postMsg r.kind.msg rq (rqNode rq)
      (tileNode (homeOf line)) line false 0
  | none => s

/-- FAIRNESS_RESERVATION_DROP (R119): the reservation of a line is dropped. -/
def execFairnessReservationDrop (line : Nat) (s : State) : Res :=
  .next { s with fair := tset none s.fair line none }

/-! ### Snoops (R106, R109 to R112, R121 to R124) -/

/-- Give the requester the data that an owner in core `c` supplies, directly over the mesh (R106). -/
def State.supply (s : State) (c line : Nat) (d : LineData) : State :=
  match tget none s.trk line with
  | some { rq := some rq, .. } =>
    (match s.getReq rq line with
     | some r => (s.putReq rq line (some { r with data := some d })).postMsg .data rq (tileNode (coreTile c)) (rqNode rq) line d.poison 0
     | none => s)
  | _ => s

/-- The line leaves a core that answers a snoop by losing it: its L1 copies and a reservation go. -/
def Core.dropLine (k : Core) (line : Nat) : Core :=
  { k.staleLoads line with
    l2 := tset none k.l2 line none,
    l1d := k.l1d.filter (· ≠ line),
    l1i := k.l1i.filter fun e => e.1 != line,
    resv := match k.resv with
             | some r => if r.line = line then none else some r
             | none => none }

/-- One core's answer to a snoop (R106, R121 to R124), with the slot's fields it changes. -/
def State.snoopCore (s : State) (c : Nat) (x : Slot) : State × Slot :=
  let line := x.line
  let k := s.core c
  let pos := tilePos (coreTile c)
  let held := k.lrWin == some (line, 1) || (match k.resv with
    | some r => r.hold && r.line == line
    | none => false)
  if held && x.typ != .once then (s, { x with hold := true, present := x.present ||| 2 ^ pos })
  else if k.flippingLine line then
    (s.count (cuTile (coreTile c)) 0x08 none 1,
      { x with defer := true, ownerPos := pos, present := x.present ||| 2 ^ pos })
  else
    let conflict := k.inWriteSet line || (k.inReadSet line && (x.typ == .own || x.typ == .inv))
    let s := if conflict then (s.abortGroup c 0x01 0 0).trace c 0x08 0x01 0 else s
    let x := if conflict then { x with cgAborted := true } else x
    let k := s.core c
    match tget none k.l2 line with
    | some l =>
      let own := x.typ == .own
      let keep : Slot := { x with present := x.present ||| 2 ^ pos }
      let gone := { keep with present := x.present }
      match l.st, x.typ with
      | .s, .shared | .s, .once => (s, { keep with hitS := true })
      | .s, _ => (s.onCore c fun k => k.dropLine line, gone)
      | st, .shared =>
        let s1 := (s.supply c line l.d).onCore c fun k =>
          { k with l2 := tset none k.l2 line (some { l with st := if st = .e then .s else .o }) }
        (s1, { keep with hitOwn := true, ownerPos := pos })
      | _, .once => (s.supply c line l.d, { keep with hitOwn := true, ownerPos := pos })
      | .e, .inv => (s.onCore c fun k => k.dropLine line, gone)
      | _, .inv =>
        let last := s.lastOfTile c line
        let s1 := s.onCore c fun k =>
          { k.dropLine line with wb := tset none k.wb line (some { d := l.d, dirty := true, last := last }) }
        (s1.postMsg .wbDirty (.core c) (tileNode (coreTile c)) (tileNode (homeOf line)) line l.d.poison 0, gone)
      | _, _ =>
        let s1 := if own then s.supply c line l.d else s
        (s1.onCore c fun k => k.dropLine line, { gone with hitOwn := true, ownerPos := pos })
    | none =>
      match tget none k.wb line with
      | some w =>
        if w.dirty && !w.supplied && w.acked != 2 && x.typ == .inv then (s, { x with ownerPos := pos, wbStale := true })
        else if w.dirty && !w.supplied && w.acked != 2 then
          let s1 := (s.supply c line w.d).onCore c fun k =>
            { k with wb := tset none k.wb line (some { w with supplied := true, disc := x.typ == .own }) }
          (s1, { x with hitOwn := true, ownerPos := pos, wbStale := true })
        else (s, x)
      | none => (s, x)

/-- The ring position after one (R13): ring 0 moves a slot from p to p + 1, ring 1 from p to p + 27, modulo 28. Each slot's moves are its own
commands; the rings' common clock is not modelled (DESIGN CHOICE, log 40). -/
def ringNext (ring p : Nat) : Nat := (if ring = 0 then p + 1 else p + 27) % 28

/-- Offer the empty slots of a ring to the homes that wait for one (R111); a home never fills the slot that it has just emptied. -/
def State.offerSlots (s : State) (ring : Nat) (except : Option Nat) : State :=
  let waiting := s.trk.filter fun e => e.1 % 2 == ring && some (homeOf e.1) != except &&
    (match e.2 with | some t => t.phase == .needSlot | none => false)
  waiting.foldl (fun s e => s.fillSlot e.1) s

/-- A snoop passes a ring stop, the next after the one it has reached (R13, R110): every core slot of the tile answers, but for the requester itself; an agent's stop has
nothing to answer. -/
def State.snoopStop (s : State) (n pos : Nat) : State :=
  let x := tget {} s.slots n
  if x.valid = false ∨ x.seen.testBit pos ∨ pos ≠ ringNext (n / 28) x.at_ then s
  else
    let rq := match tget none s.trk x.line with | some t => t.rq | none => none
    let x := { x with seen := x.seen ||| 2 ^ pos, at_ := pos }
    let r := match posTile pos with
      | none => (s, x)
      | some t => (List.range 5).foldl (fun (a : State × Slot) k =>
          if rq == some (Rq.core (t * 5 + k)) then a else a.1.snoopCore (t * 5 + k) a.2) (s, x)
    { r.1 with slots := tset {} r.1.slots n r.2 }

/-- A snoop of one type passes a stop. -/
def State.snoopTyp (s : State) (typ : Snp) (ring slot pos : Nat) : State :=
  if slot < 28 ∧ ring < 2 ∧ pos < 28 ∧ (tget {} s.slots (ring * 28 + slot)).typ = typ then
    (s.snoopStop (ring * 28 + slot) pos).offerSlots ring none
  else s

/-- SNP_SHARED (R106). -/
def execSnpShared (ring slot pos : Nat) (s : State) : Res := .next (s.snoopTyp .shared ring slot pos)

/-- SNP_OWN (R106). -/
def execSnpOwn (ring slot pos : Nat) (s : State) : Res := .next (s.snoopTyp .own ring slot pos)

/-- SNP_ONCE (R106). -/
def execSnpOnce (ring slot pos : Nat) (s : State) : Res := .next (s.snoopTyp .once ring slot pos)

/-- SNP_INV (R106). -/
def execSnpInv (ring slot pos : Nat) (s : State) : Res := .next (s.snoopTyp .inv ring slot pos)

/-- The requester's own stop in a Sieve mask, where the requester holds the line (R112). -/
def State.rqMask (s : State) (t : Trk) (line : Nat) : Nat :=
  match t.rq with
  | some (.core c) => if (tget none (s.core c).l2 line).isSome then 2 ^ tilePos (coreTile c) else 0
  | _ => 0

/-- HOLD (R112): the Sieve entry is rewritten, the tracker entry closes and the requester is NAKed; a back-invalidation sends its SNP_INV
again. A writeback parked with the entry is handled. -/
def State.heldBack (s : State) (line : Nat) (t : Trk) (x : Slot) : State :=
  let s1 := s.sievePut line (x.present ||| s.rqMask t line)
  match t.rq with
  | none => { s1 with trk := tset none s1.trk line (some { t with phase := .needSlot }) }
  | some rq =>
    let s2 := ({ s1 with trk := tset none s1.trk line none } : State).nakReq rq line
    match t.parked with
    | some c => s2.wbArrive c line
    | none => s2

/-- COMBINED_RESPONSE (R110, R112): the slot has passed every stop and is back at its home, which empties it and acts on
HOLD, on DEFER or on the plain response. The emptied slot goes to a home that waits for one (R111). -/
def execCombinedResponse (ring slot : Nat) (s : State) : Res :=
  let n := ring * 28 + slot
  .next <|
  if ring ≥ 2 ∨ slot ≥ 28 ∨ (tget {} s.slots n).valid = false then s
  else
    let s := (List.range 28).foldl (fun s _ => s.snoopStop n (ringNext ring (tget {} s.slots n).at_)) s
    let x := tget {} s.slots n
    let line := x.line
    let s : State := { s with slots := tset {} s.slots n { rsv := x.rsv, rsvPos := x.rsvPos } }
    let s := match tget none s.trk line with
      | none => s
      | some t =>
        if x.hold then s.heldBack line t x
        else if x.defer then
          let s1 := s.sievePut line (x.present ||| s.rqMask t line)
          { s1 with trk := tset none s1.trk line (some { t with phase := .deferred, resp := x }) }
        else s.complete line x
    s.offerSlots ring (some (homeOf line))

/-- SNOOP_SLOT_RESERVATION (R111): the home of a line whose snoop waits fills a slot that it may fill, or else reserves a full one. -/
def execSnoopSlotReservation (line ring slot : Nat) (s : State) : Res :=
  let n := ring * 28 + slot
  let s := s.fillSlot line
  .next <| match tget none s.trk line with
  | some t =>
    let x := tget {} s.slots n
    if t.phase = .needSlot ∧ ring = line % 2 ∧ slot < 28 ∧ x.valid ∧ x.rsv = false then
      { s with slots := tset {} s.slots n { x with rsv := true, rsvPos := tilePos (homeOf line) } }
    else s
  | none => s

/-- DEFER_RSP (R112, R123): once its flip has ended, the L2 at OWNER_POS answers from the committed data with its new tag,
and the home completes the request. -/
def execDeferRsp (line : Nat) (s : State) : Res :=
  .next <| match tget none s.trk line with
  | some t =>
    if t.phase ≠ .deferred ∨ s.coreIds.any (fun c => (s.core c).flippingLine line) then s
    else
      let x := { t.resp with defer := false }
      let r := match posTile x.ownerPos with
        | none => (s, x)
        | some tl => (List.range 5).foldl (fun (a : State × Slot) k =>
            if t.rq == some (Rq.core (tl * 5 + k)) then a
            else a.1.snoopCore (tl * 5 + k) { a.2 with present := a.2.present &&& ((2 ^ 28 - 1) ^^^ 2 ^ x.ownerPos) }) (s, x)
      if r.2.hold then r.1.heldBack line t r.2 else r.1.complete line r.2
  | none => s

/-! ### Writebacks and notices (R115, R121, R127) -/

/-- WB_DIRTY (R121). -/
def execWbDirty (c line : Nat) (s : State) : Res :=
  .next (if s.msgOk .wbDirty (.core c) line then (s.takeMsg .wbDirty (.core c) line).wbArrive c line else s)

/-- EVICT_CLEAN (R115): the home applies the notice; with LAST set it clears the stop's Sieve bit. -/
def execEvictClean (c line : Nat) (s : State) : Res :=
  let k := s.core c
  .next <| match tget none k.wb line with
  | some w =>
    if w.dirty ∨ w.acked ≠ 0 ∨ s.msgOk .evictClean (.core c) line = false then s
    else
      let s := s.takeMsg .evictClean (.core c) line
      let s1 := if w.last then s.sieveClear line (tilePos (coreTile c)) else s
      (s1.onCore c fun k => { k with wb := tset none k.wb line (some { w with acked := 1 }) }).postMsg .evictAck (.core c)
        (tileNode (homeOf line)) (tileNode (coreTile c)) line false 0
  | none => s

/-- Free a writeback buffer entry whose acknowledgement has arrived. -/
def State.wbFree (s : State) (c line acked : Nat) (dirty : Bool) : State :=
  match tget none (s.core c).wb line with
  | some w =>
    let m : Msg := if dirty = false then .evictAck else if acked = 1 then .wbAck else .wbDisc
    if w.acked = acked ∧ w.dirty = dirty ∧ s.msgOk m (.core c) line then
      (s.takeMsg m (.core c) line).onCore c fun k => { k with wb := tset none k.wb line none } else s
  | none => s

/-- WB_ACK (R121). -/
def execWbAck (c line : Nat) (s : State) : Res := .next (s.wbFree c line 1 true)

/-- WB_ACK_DISCARDED (R121). -/
def execWbAckDiscarded (c line : Nat) (s : State) : Res := .next (s.wbFree c line 2 true)

/-- EVICT_ACK (R115). -/
def execEvictAck (c line : Nat) (s : State) : Res := .next (s.wbFree c line 1 false)

end Sys2Proof.Machine
end

