-- ==== Sys2Proof/Machine/Mesh.lean ====
section
/-! DEFINITION. The on-die mesh as its initiators see it (chapter 06): deadlines and late responses, error responses, link
errors and reconfiguration, and the Lid sections. -/

namespace Sys2Proof.Machine

open Sys2Proof

/-- A request that ends before its home has taken it stays in the mesh, and the home takes it all the same (R27). -/
def State.leaveGhost (s : State) (rq : Rq) (line : Nat) (r : Req) : State :=
  if r.accepted ∨ r.nakIn ∨ r.off ∨ r.wait ≠ 0 then s else { s with ghosts := s.ghosts ++ [(rqWho rq, line, r.kind)] }

/-- Deliver a response whose STATUS is not OK to the unit that waits for it (R87, R142, R566). An agent's request for a line is over, and the
other units find their index free (R139); a cipher job sees that when it next looks (R342). -/
def State.deliverError (s : State) (u : TxnUse) (tag pa status : Nat) : State :=
  match u with
  | .line (.core c) line =>
    (match tget none (s.core c).reqs line with
     | some r => ((s.leaveGhost (.core c) line r).putReq (.core c) line none).failReq c line status r
     | none => s)
  | .line (.agent p) line =>
    (match s.getReq (.agent p) line with
     | some r => (s.leaveGhost (.agent p) line r).putReq (.agent p) line none
     | none => s)
  | .devLoad c => s.onCore c fun k =>
      match k.devLoad with
      | some (n, _) => if n = tag then { k with devAns := some (0, status) } else k
      | none => k
  | .devStore c early =>
    let s1 := s.onCore c fun k => { k with sb := k.sb.filter fun e => !(e.sent && e.txn == tag) }
    if early then s1 else s1.reportStore c pa status
  | .other _ => s
  | .job .. => s

/-- Whether the final response of a tag index's request has come, so that its deadline has no effect any more (R141). -/
def State.respArrived (s : State) (t : Txn) (n : Nat) : Bool :=
  match t.use with
  | some (.devLoad c) => (s.core c).devAns.isSome && (match (s.core c).devLoad with | some (m, _) => m == n | none => false)
  | some (.other _) => t.io.ans.isSome
  | _ => false

/-- The deadline of a tag index passes (R139, R141): the TIMEOUT response, the record, the counts, the epoch and the late-pending
count. -/
def State.timeoutTxn (s : State) (node n : Nat) : State :=
  let i := node * 1024 + n
  let t := tget {} s.txns i
  match (if s.respArrived t n then none else t.use) with
  | none => s
  | some u =>
    let t' : Txn := { t with use := none, io := {}, deadline := 0, epoch := (t.epoch + 1) % 4, late := Nat.min 3 (t.late + 1) }
    let s1 : State := { s with txns := tset {} s.txns i t' }
    let s2 := s1.incSat (if t.device then MESH_INIT_STATUS.TIMEOUT_DEVICE else MESH_INIT_STATUS.TIMEOUT_MEMORY) node
    let s3 := s2.stopRecord node (useUnit u) (if t.device then 0x102 else 0x101) t.pa
    s3.deliverError u n t.pa 1

/-- Whether the deadline of a tag index has passed (R138); an index without one never times out. -/
def State.overdue (s : State) (node n : Nat) : Bool :=
  let d := (tget {} s.txns (node * 1024 + n)).deadline
  d != 0 && decide (d ≤ s.dtime)

/-- TIMEOUT (R138, R139): a request whose deadline has passed gets the TIMEOUT response. -/
def execTimeout (node tag : Nat) (s : State) : Res :=
  .next (if s.overdue node (tag % 1024) then s.timeoutTxn node (tag % 1024) else s)

/-- LATE_RESPONSE (R139): a response of an older epoch is dropped and counted, and its index has one fewer pending. -/
def execLateResponse (node tag : Nat) (s : State) : Res :=
  let i := node * 1024 + tag % 1024
  let t := tget {} s.txns i
  .next <| if t.late = 0 then s
  else ({ s with txns := tset {} s.txns i { t with late := t.late - 1 } } : State).incSat MESH_INIT_STATUS.LATE_DROPPED node

/-- The stop that a request of a tag index goes to, and the unit that its records name (R88, R143). -/
def State.targetStop (s : State) (t : Txn) : Nat × Nat :=
  match t.use with
  | some (.line _ line) => (tileNode (homeOf line), 0)
  | _ => match s.region t.pa with
    | .odc | .secureOnly => (match odcUnit t.pa with | some u => ((unitStop u).1, (unitStop u).2.getD 0) | none => (0, 0))
    | _ => (s.devNode t.pa, 0)

/-- End a request with a response whose STATUS is not OK; DOMAIN_OFF has its record from the initiating stop (R143), and DENIED one of the
target's own beside it (R88). -/
def State.errorTxn (s : State) (node n status : Nat) : State :=
  let t := tget {} s.txns (node * 1024 + n)
  match (if s.respArrived t n then none else t.use) with
  | none => s
  | some u =>
    let s1 := s.freeTxn node n
    let early := match u with | .devStore _ e => e | _ => false
    let s2 := if status = 2 then s1.stopRecord node (useUnit u) 0x103 t.pa
      else if status = 3 then s1.logRefusal (s.targetStop t).1 (s.targetStop t).2 0x104 t.io.part t.pa else s1
    let s3 := if early && status != 2 then s2.earlyFail node (useUnit u) t.pa status else s2
    s3.deliverError u n t.pa status

/-- ERROR_RESPONSE (R142): a response with STATUS 2 DOMAIN_OFF, 3 DENIED or 4 TARGET_ERROR. -/
def execErrorResponse (node tag status : Nat) (s : State) : Res :=
  .next <| if status = 2 ∨ status = 3 ∨ status = 4 then s.errorTxn node (tag % 1024) status else s

/-- Macen moves the wires that are due to spares (R145, R485, R492), at most one live repair per router at a time and none while PFW_N
is asserted; a link whose spares are both in use keeps the wire. -/
def State.applyWires (s : State) : State :=
  s.mac.due.foldl (fun s d =>
    let i := d.2.1
    let busy := (List.range 4).any fun p => s.fld MESH_LINK_CFG.QUIESCE_BUSY (i / 4 * 4 + p) == 1
    if d.1 ≠ 2 ∨ s.pfw ∨ busy then s
    else
      let sp := if s.fld MESH_LINK_CFG.SPARE0_WIRE i = 0x3FF then some (0, MESH_LINK_CFG.SPARE0_WIRE)
        else if s.fld MESH_LINK_CFG.SPARE1_WIRE i = 0x3FF then some (1, MESH_LINK_CFG.SPARE1_WIRE) else none
      match sp with
      | none => s.unDue d
      | some (n, F) =>
        let s1 := ((s.unDue d).setFld F i d.2.2).setFld MESH_LINK_CFG.QUIESCE_BUSY i 1
        (s1.logErr 0 (i % 4) 0 0xA15 (i / 4 * 2 ^ 16 + d.2.2)).logRepair 5
          (i / 4 * 2 ^ 22 + i % 4 * 2 ^ 20 + n * 2 ^ 19 + d.2.2 * 2 ^ 9)) s

/-- LINK_CORRECTED (R144): the router that receives from output `port` of `node` writes the record (R143); the 16th record for one wire
within an hour makes Macen move it to a spare (R485). -/
def execLinkCorrected (node port wire : Nat) (s : State) : Res :=
  let s1 := s.logErr (hopNode node (port % 4)) 0 0 0x110 (port * 1024 + wire)
  let i := node * 4 + port % 4
  let key := 2 * 2 ^ 40 + i * 1024 + wire
  let r := s1.note key hour 0
  .next (if 16 ≤ r.1.length then (((r.2.forget key).setDue (2, i, wire)).applyWires) else r.2)

/-- LINK_UNCORRECTED (R144): the receiving router stops the link, and the fatal record asserts ERROR_N. -/
def execLinkUncorrected (node port : Nat) (s : State) : Res :=
  .next (({ s with linkStopped := tset false s.linkStopped (node * 4 + port % 4) true } : State).logErr (hopNode node (port % 4)) 0 3
    0x111 (port * 1024))

/-- APPLY (R145): a write of MESH_LINK_CFG whose APPLY bit starts the procedure; Macen starts none while PFW_N is
asserted (R146). -/
def execApply (ag : Agent) (node port : Nat) (w : W) (s : State) : Res :=
  let i := node * 4 + port % 4
  .next <| if ag = .macen ∧ s.pfw then s
  else if s.fld MESH_LINK_CFG.QUIESCE_BUSY i = 1 then s.onWrite ag .MESH_LINK_CFG i w fun s => s
  else s.onWrite ag .MESH_LINK_CFG i w fun s => if bit w 62 then s.setFld MESH_LINK_CFG.QUIESCE_BUSY i 1 else s

/-- LINK_RECONFIG_DONE (R145): the spare-wire map and the weights of the register are in force, and sending resumes. -/
def execLinkReconfigDone (node port : Nat) (s : State) : Res :=
  let i := node * 4 + port % 4
  .next (if s.fld MESH_LINK_CFG.QUIESCE_BUSY i = 0 then s
    else (({ s with mesh := { s.mesh with active := tset none s.mesh.active i (some (s.rd .MESH_LINK_CFG i)) } } : State).setFld
      MESH_LINK_CFG.QUIESCE_BUSY i 0).applyWires)

/-- CLEAR: a 1 written to MESH_INIT_STATUS.CLEAR sets the three counts to 0 (R139, R150). -/
def execClear (ag : Agent) (node : Nat) (w : W) (s : State) : Res :=
  .next <| s.onWrite ag .MESH_INIT_STATUS node w fun s =>
    if bit w 15 then
      ((s.setFld MESH_INIT_STATUS.LATE_DROPPED node 0).setFld MESH_INIT_STATUS.TIMEOUT_DEVICE node 0).setFld
        MESH_INIT_STATUS.TIMEOUT_MEMORY node 0
    else s

/-- An OPEN section begins to drain (R147). -/
def State.lidDrain (s : State) (node sec : Nat) : State :=
  if s.lidState node sec = 0 ∧ sec < lidSections node then s.setFld LID_SECTION.STATE (lidIx node sec) 1 else s

/-- A CLOSED section opens where no reset source holds its block (R147). -/
def State.lidOpen (s : State) (node sec : Nat) : State :=
  if s.lidState node sec = 2 ∧ tget false s.lidHeld (lidIx node sec) = false then
    s.setFld LID_SECTION.STATE (lidIx node sec) 0
  else s

/-- The tag indices of a node whose outbound requests belong to a section. -/
def State.outbound (s : State) (node sec : Nat) : List Nat :=
  (s.txns.filter fun e => e.1 / 1024 == node && (match e.2.use with
    | some u => useUnit u == sec
    | none => false)).map fun e => e.1 % 1024

/-- The Lid section through which a device request to a window reaches its block: an aperture's, node 42, or a PCIe controller's. -/
def State.windowLid (s : State) (pa : Nat) : Option (Nat × Nat) :=
  match s.region pa with
  | .aperture => some (42, 0)
  | .pcie => some ((unitStop (33 + (pa / 2 ^ 40 - 16))).1, 0)
  | _ => none

/-- The requests that a section has accepted and its block has not answered, by node and tag index; a posted write among them is delivered
whatever happens to the section (R148). -/
def State.accepted (s : State) (node sec : Nat) : List (Nat × Nat) :=
  (s.txns.filter fun e => e.2.use.isSome && e.2.io.taken && e.2.io.ans.isNone && !e.2.io.ewa &&
      s.windowLid e.2.pa == some (node, sec)).map fun e => (e.1 / 1024, e.1 % 1024)

/-- The outstanding requests of a section that its drain limit abandons: all but the posted writes that the mesh has accepted, which travel on
and complete at their targets (R148). -/
def State.abandons (s : State) (node sec : Nat) : List Nat :=
  (s.outbound node sec).filter fun n => match (tget {} s.txns (node * 1024 + n)).use with
    | some (.devStore _ early) => !early || (tget {} s.txns (node * 1024 + n)).io.off
    | _ => true

/-- The block's later answer to an abandoned request finds nobody: its record of the requester is dropped. -/
def State.disown (s : State) (node tag : Nat) : State :=
  { s with
    pcieTags := s.pcieTags.map fun e => (e.1, e.2.map fun t => match t.use with
      | .core n k _ => if n = node ∧ k = tag then { t with use := .core n k 4 } else t
      | _ => t),
    fabRem := s.fabRem.map fun e => (e.1, e.2.map fun o => match o.use with
      | .core n k _ => if n = node ∧ k = tag then { o with use := .core n k 4 } else o
      | _ => o) }

/-- A draining section closes when it owes no answer and nothing of it is outstanding. -/
def State.lidClose (s : State) (node sec : Nat) : State :=
  if s.lidState node sec = 1 ∧ s.outbound node sec = [] ∧ s.accepted node sec = [] then
    (s.setFld LID_SECTION.STATE (lidIx node sec) 2).setFld LID_SECTION.ABANDONED (lidIx node sec) 0
  else s

/-- A draining section reaches its limit: the accepted requests are answered with DOMAIN_OFF, what is outstanding is abandoned as a
timed-out request is, and it closes (R147). -/
def State.lidExpire (s : State) (node sec : Nat) : State :=
  if s.lidState node sec ≠ 1 then s
  else
    let out := s.abandons node sec
    let acc := s.accepted node sec
    if s.outbound node sec = [] ∧ acc = [] then s.lidClose node sec
    else
      let s0 := acc.foldl (fun s e => (s.errorTxn e.1 e.2 2).disown e.1 e.2) s
      let s1 := out.foldl (fun s n => s.timeoutTxn node n) s0
      let i := lidIx node sec
      let s2 := ((s1.setFld LID_SECTION.STATE i 2).setFld LID_SECTION.ABANDONED i (Nat.min out.length 255)).setFld
        LID_SECTION.DRAIN_EXPIRED i 1
      s2.logErr node sec 1 0x112 out.length

/-- Whether a section may close other than for its block's reset: those of the Spine, the journal engine, the event router and the IOMMU only
while no vote stands (R149, R447). -/
def State.mayClose (s : State) (node sec : Nat) : Bool :=
  !(node == 3 || node == 4 || node == 7 || (node == 46 && sec == 0)) || s.votes == 0

/-- CLOSE: LID_SECTION.CMD CLOSE puts an OPEN section into DRAINING (R147, R149). -/
def execClose (ag : Agent) (node sec : Nat) (w : W) (s : State) : Res :=
  .next <| s.onWrite ag .LID_SECTION (lidIx node sec) w fun s =>
    if field w 1 0 = 1 ∧ s.mayClose node sec then s.lidDrain node sec else s

/-- OPEN: LID_SECTION.CMD OPEN reopens a CLOSED section with no reset source asserted (R147). -/
def execOpen (ag : Agent) (node sec : Nat) (w : W) (s : State) : Res :=
  .next <| s.onWrite ag .LID_SECTION (lidIx node sec) w fun s =>
    if field w 1 0 = 2 then s.lidOpen node sec else s

/-- LID_DRAIN (R147): a power-down, a reset or loss of lock starts the draining of an OPEN section; the resets of the mesh domain's blocks
drain theirs themselves (R149). -/
def execLidDrain (node sec : Nat) (s : State) : Res := .next (if s.mayClose node sec then s.lidDrain node sec else s)

/-- LID_DRAIN_LIMIT (R147). -/
def execLidDrainLimit (node sec : Nat) (s : State) : Res := .next (s.lidExpire node sec)

/-- LID_CLOSED (R147). -/
def execLidClosed (node sec : Nat) (s : State) : Res := .next (s.lidClose node sec)

/-- The section through which a request to an address reaches its target: a window's, or that of the block an ODC address is in. -/
def State.targetLid (s : State) (pa : Nat) : Option (Nat × Nat) :=
  match s.region pa with
  | .odc | .secureOnly => match odcUnit pa with
    | some u => (unitStop u).2.map fun k => ((unitStop u).1, k)
    | none => none
  | _ => s.windowLid pa

/-- Whether an outstanding request meets a section that is not OPEN: its own block's, when the block presented it, or its target's where the
block has not accepted it (R147). -/
def State.meetsLid (s : State) (node tag : Nat) : Bool :=
  let t := tget {} s.txns (node * 1024 + tag)
  match t.use with
  | none => false
  | some u =>
    let off := t.io.off || (match u with
      | .line rq line => (match s.getReq rq line with | some r => r.off | none => false)
      | _ => false)
    off || (!t.io.taken && (match s.targetLid t.pa with | some e => s.lidState e.1 e.2 != 0 | none => false))

/-- DOMAIN_OFF (R147): a request that reaches a draining or closed section, or that its block presents, completes with
DOMAIN_OFF. -/
def execDomainOff (node tag : Nat) (s : State) : Res :=
  .next (if s.meetsLid node (tag % 1024) then s.errorTxn node (tag % 1024) 2 else s)

end Sys2Proof.Machine
end

