-- ==== Sys2Proof/Machine/FabNet.lean ====
section
/-! DEFINITION. The fabric's packets and folios and the switch, which every sender of a packet uses (R226 to R240): the
bytes of a packet, its virtual lane, its folios, a port's credits, replay buffer and output order, and the routing of a
packet to a port or to node 42. -/

namespace Sys2Proof.Machine

open Sys2Proof

/-! ### Checks (R192, R226, R326) -/

/-- One bit of the reflected CRC-32C (R192). -/
def crc32cBits : Nat → Nat → Nat
  | 0, x => x
  | n + 1, x => crc32cBits n (if x % 2 = 1 then (x / 2) ^^^ 0x82F63B78 else x / 2)

/-- crc32c_update over bytes. -/
def crc32c (crc : Nat) (bs : List Byte) : Nat := bs.foldl (fun c b => crc32cBits 8 (c ^^^ b.toNat)) crc

/-- CRC-32C of bytes, finished as in R192. -/
def crcOf (bs : List Byte) : Nat := crc32c 0xFFFFFFFF bs ^^^ 0xFFFFFFFF

/-- `n` bytes that an algorithm makes of its inputs. -/
def crypto (fn : Nat) (args : List (List Byte)) (n : Nat) : List Byte := (List.range n).map (Config.cryptoByte fn args)

/-! ### Packets and folios -/

/-- The virtual lane of an opcode (R232, R262); none for a reserved opcode. -/
def opVl (op : Nat) : Option Nat :=
  if op = 1 ∨ op = 2 ∨ op = 5 ∨ op = 7 then some 0
  else if op = 3 ∨ op = 4 ∨ op = 6 ∨ op = 8 then some 1
  else if op = 0x11 ∨ op = 0x12 ∨ op = 0x16 ∨ op = 0x17 then some 1
  else if 0x10 ≤ op ∧ op ≤ 0x18 then some 2
  else if op = 0x20 ∨ op = 0x21 ∨ op = 0x22 ∨ op = 0x30 ∨ op = 0x31 ∨ op = 0x32 ∨ op = 0x38 ∨ op = 0x39 ∨ op = 0x3A then
    some 3
  else none

/-- The bytes of a packet: the 32-byte header of R231 and the payload. -/
def Pkt.bytes (p : Pkt) : List Byte :=
  leBytes 2 p.dst ++ leBytes 2 p.src ++ leBytes 1 p.op ++ leBytes 1 p.flags ++ leBytes 2 p.tag ++ leBytes 3 p.len ++
  leBytes 1 p.status ++ leBytes 4 p.aux ++ leBytes 8 p.addr ++ leBytes 8 p.operand ++ p.data

/-- The packet that bytes spell. -/
def pktOf (bs : List Byte) (level : Nat) : Pkt :=
  let g := fun (o n : Nat) => ofLeBytes ((bs.drop o).take n)
  { dst := g 0 2 % 2 ^ 14, src := g 2 2 % 2 ^ 14, op := g 4 1, flags := g 5 1, tag := g 6 2, len := g 8 3, status := g 11 1,
    aux := g 12 4, addr := g 16 8 % 2 ^ 48, operand := g 24 8, data := bs.drop 32, level := level }

/-- Cut a list into pieces of `n`; `fuel` bounds the pieces. -/
def pieces : Nat → Nat → List Byte → List (List Byte)
  | 0, _, _ => []
  | fuel + 1, n, bs => if bs.length ≤ n then [bs] else bs.take n :: pieces fuel n (bs.drop n)

/-- The folios of a packet, their SEQ and ACK not yet given (R226). -/
def Pkt.folios (p : Pkt) : List Folio :=
  let cls := (opVl p.op).getD 0 * 2 + p.level
  let ps := pieces 400 232 p.bytes
  let n := ps.length
  (ps.zip (List.range n)).map fun e =>
    { typ := 1, cls := cls, payload := e.1, plen := e.1.length,
      seg := (if e.2 = 0 then 1 else 0) + (if e.2 + 1 = n then 2 else 0) }

/-- The header of a folio: bytes 0 to 7 (R226). -/
def folioHead (f : Folio) : Nat :=
  f.typ % 16 * 2 ^ 60 + f.seq % 4096 * 2 ^ 48 + f.ack % 4096 * 2 ^ 36 + b2n f.nak * 2 ^ 35 + f.cls % 8 * 2 ^ 32 + f.seg % 4 * 2 ^ 30 +
  f.crClass % 8 * 2 ^ 27 + f.crCount % 2048 * 2 ^ 16 + f.plen % 256 * 2 ^ 8

/-- The 232 bytes of the payload. -/
def folioBody (f : Folio) : List Byte := f.payload.take 232 ++ List.replicate (232 - f.payload.length) 0

/-- The trailer without encryption (R226): the CRC-32C of bytes 0 to 239, then zeros. -/
def folioCrc (f : Folio) : List Byte := leBytes 4 (crcOf (leBytes 8 (folioHead f) ++ folioBody f)) ++ List.replicate 12 0

/-- The IV of the `n`-th DATA folio since ACTIVE under a key epoch (R253). DESIGN CHOICE (log entry 47): both numbers stand least significant
byte first, the first DATA folio has count 0, and an IDLE folio has the count of the DATA folios before it. -/
def folioIv (epoch n : Nat) : List Byte := leBytes 4 epoch ++ leBytes 8 n

/-- A folio as it leaves (R226, R253): with a link key, its payload encrypted and the GCM tag in its trailer, the header authenticated;
otherwise the CRC. An IDLE folio has no payload to encrypt. -/
def folioSeal (key : Option (List Byte)) (epoch n : Nat) (f : Folio) : Folio :=
  match key with
  | none => { f with trailer := folioCrc f }
  | some k =>
    let iv := folioIv epoch n
    let ct := if f.typ = 0 then folioBody f else crypto 1 [[3], k, iv, folioBody f] 232
    { f with payload := ct, trailer := crypto 0x101 [k, iv, leBytes 8 (folioHead f), ct] 16 }

/-- A folio as its receiver opens it (R227, R253): none where its CRC or tag does not check. -/
def folioUnseal (key : Option (List Byte)) (epoch n : Nat) (f : Folio) : Option Folio :=
  match key with
  | none => if f.trailer = folioCrc f then some f else none
  | some k =>
    let iv := folioIv epoch n
    if f.trailer = crypto 0x101 [k, iv, leBytes 8 (folioHead f), folioBody f] 16 then
      some (if f.typ = 0 then f else { f with payload := crypto 2 [[3], k, iv, folioBody f] 232 })
    else none

/-! ### Ports -/

def State.port (s : State) (p : Nat) : Port := tget {} s.ports p
def State.setPort (s : State) (p : Nat) (x : Port) : State := { s with ports := tset {} s.ports p x }

/-- The node of a port's registers and sources (41 or 45). -/
def portNode (p : Nat) : Nat := if p < 4 then 41 else 45

/-- The first wired source of a port (R369). -/
def portSrc (p : Nat) : Nat := 896 + 32 * p

/-- Whether the sender holds a credit of a class (R233): one of its 64 reserved ones, or one of the 1,536 shared. -/
def Port.credit (x : Port) (cls : Nat) : Bool :=
  let used := tget 0 x.crUsed cls
  let shared := ((List.range 8).map fun c => tget 0 x.crUsed c - 64).sum
  decide (used < 64) || decide (shared < 1536)

/-- Whether a class has a folio that may leave now: a credit, and room in the replay buffer (R228, R233). -/
def Port.mayTx (x : Port) (cls : Nat) : Bool :=
  !(tget [] x.txq cls).isEmpty && x.credit cls && decide (x.replay.length < 1024)

/-- The class whose folio leaves next, with the new place in the round (R234): VL3 first; then VL1 for four places, VL2 for
two and VL0 for two. A packet that has begun keeps its class's order because its folios are queued together. -/
def Port.pick (x : Port) : Option (Nat × Nat) :=
  if x.mayTx 6 then some (6, x.round)
  else if x.mayTx 7 then some (7, x.round)
  else
    let vlAt := fun r => if r < 4 then 1 else if r < 6 then 2 else 0
    (List.range 8).findSome? fun i =>
      let r := (x.round + i) % 8
      let c := vlAt r * 2
      if x.mayTx c then some (c, (r + 1) % 8) else if x.mayTx (c + 1) then some (c + 1, (r + 1) % 8) else none

/-- Take the credits that one outgoing folio returns (R226 CR_CLASS, CR_COUNT). -/
def Port.owe (x : Port) : Nat × Nat × Port :=
  match (List.range 8).find? fun c => 0 < tget 0 x.crOwed c with
  | some c => let n := Nat.min (tget 0 x.crOwed c) 2047
    (c, n, { x with crOwed := tset 0 x.crOwed c (tget 0 x.crOwed c - n) })
  | none => (0, 0, x)

/-- Send the folios that may leave, in the output's order: each takes the next SEQ, carries the current ACK, uses a credit
and enters the replay buffer; `key` is the link key in use. -/
def portPump (key : Option (List Byte)) : Nat → Port → Port × Nat
  | 0, x => (x, 0)
  | fuel + 1, x =>
    match x.pick with
    | none => (x, 0)
    | some (cls, round) =>
      match tget [] x.txq cls with
      | [] => (x, 0)
      | f :: rest =>
        let o := x.owe
        let f' := folioSeal key x.epoch x.iv
          { f with seq := o.2.2.txSeq, ack := (x.rxExp + 4095) % 4096, crClass := o.1, crCount := o.2.1 }
        let x' : Port := { o.2.2 with
          txq := tset [] x.txq cls rest, replay := x.replay ++ [f'], txSeq := (x.txSeq + 1) % 4096, round := round,
          crUsed := tset 0 x.crUsed cls (tget 0 x.crUsed cls + 1), sinceAck := 0, iv := x.iv + 1 }
        let r := portPump key fuel x'
        (r.1, r.2 + 1)

/-- The key that encrypts a port's folios: that of KEY_HANDLE while the port is ACTIVE with ENC set (R253). -/
def State.linkKey (s : State) (p : Nat) : Option (List Byte) :=
  if s.fld FAB_PORT_CTL.ENC p = 1 ∧ s.fld FAB_PORT_STATUS.STATE p = 4 then
    some (((tget none s.keys (s.fld FAB_PORT_CTL.KEY_HANDLE p)).map fun k => k.value).getD [])
  else none

/-- Run a port's output and count the DATA folios it sends. -/
def State.pump (s : State) (p : Nat) : State :=
  let x := s.port p
  let r := portPump (s.linkKey p) 1025 x
  (s.setPort p r.1).count (cuPort p) 0x01 none r.2

/-- Queue a packet on a port. -/
def State.enqueue (s : State) (p : Nat) (k : Pkt) : State :=
  let x := s.port p
  let cls := (opVl k.op).getD 0 * 2 + k.level
  (s.setPort p { x with txq := tset [] x.txq cls (tget [] x.txq cls ++ k.folios) }).pump p

/-! ### The switch (R236 to R239) -/

/-- Where a destination routes: none where no usable route exists; `some (none, _)` node 42; `some (some p, up)` a port. -/
def State.routeOf (s : State) (dst : Nat) (onPort : Bool) : Option (Option Nat × Bool) :=
  if dst = s.fld FAB_NODE.NODE_ID 0 ∨ (dst = 0 ∧ onPort) then some (none, false)
  else if dst = 0 ∨ s.fld FAB_ROUTE.VALID dst = 0 then none
  else
    let out := s.fld FAB_ROUTE.OUT dst
    if out = 15 then some (none, false)
    else if out < 8 ∧ s.fld FAB_PORT_STATUS.STATE out = 4 then some (some out, s.fld FAB_ROUTE.LVL_UP dst = 1)
    else none

/-- Deliver a packet to node 42 or send it on a port, with no answer where neither is possible. -/
def State.deliverPkt (s : State) (inPort : Nat) (k : Pkt) : Option State :=
  match s.routeOf k.dst (decide (inPort < 8)) with
  | some (none, _) => some { s with fabIn := s.fabIn ++ [(inPort, k)] }
  | some (some p, up) => some (s.enqueue p { k with level := if up then 1 else k.level })
  | none => none

/-- The response that the switch sends for an undeliverable request (R239): the request's tag, STATUS UNREACHABLE and, for
a replication request, a control block with its LEDGER and TERM. It carries the request's destination as its source. -/
def Pkt.unreachable (k : Pkt) : Option Pkt :=
  let r : Pkt := { dst := k.src, src := k.dst, tag := k.tag, status := 5, flags := k.flags }
  let cb := k.data.take 8 ++ List.replicate 24 0
  if k.op = 2 then some { r with op := 3 }
  else if k.op = 1 then (if k.flags % 2 = 1 then some { r with op := 4 } else none)
  else if k.op = 5 then some { r with op := 6 }
  else if k.op = 7 then some { r with op := 8 }
  else if k.op = 0x10 ∨ k.op = 0x13 ∨ k.op = 0x14 ∨ k.op = 0x18 then some { r with op := 0x12, data := cb, len := 32 }
  else if k.op = 0x15 then some { r with op := 0x17, data := cb, len := 32 }
  else none

/-- The switch takes a packet from a port, or from node 42 as port 8 (R236, R239). -/
def State.switch (s : State) (inPort : Nat) (k : Pkt) : State :=
  match s.deliverPkt inPort k with
  | some s => s
  | none =>
    let s1 := s.logErr 42 0xFF 2 0x404 k.dst
    match k.unreachable with
    | none => s1
    | some r => (s1.deliverPkt inPort r).getD s1

/-- Node 42 sends a packet. -/
def State.fabSend (s : State) (k : Pkt) : State := s.switch 8 { k with src := s.fld FAB_NODE.NODE_ID 0, level := 0 }

/-- The first packet delivered to node 42 with one of these opcodes that no earlier packet of its source, port and virtual
lane precedes (R237); it leaves the list. -/
def State.takePkt (s : State) (op : Nat) : Option (Nat × Pkt × State) :=
  let ok := fun (i : Nat) =>
    match s.fabIn[i]? with
    | none => false
    | some e => e.2.op == op && !((s.fabIn.take i).any fun o =>
        o.1 == e.1 && o.2.src == e.2.src && opVl o.2.op == opVl e.2.op)
  match (List.range s.fabIn.length).find? ok with
  | none => none
  | some i =>
    match s.fabIn[i]? with
    | none => none
    | some e => some (e.1, e.2, { s with fabIn := s.fabIn.eraseIdx i })

end Sys2Proof.Machine
end

