-- ==== Sys2Proof/Machine/Spine.lean ====
section
/-! DEFINITION. The Spine and the journal (chapter 08), with the sending side of replication that rides on them (R259 to
R269): numbering, parking, fences and their cascade, sweeps and openings, publications, resolution, staging, records and
their CRC, and the quires of the primary. -/

namespace Sys2Proof.Machine

open Sys2Proof

/-! ### Streams -/

def State.stream (s : State) (n : Nat) : SpnStream := tget {} s.spn n
def State.setStream (s : State) (n : Nat) (x : SpnStream) : State := { s with spn := tset {} s.spn n x }

/-- A stream's values changed and wait for publication; the list keeps the order of the oldest change (R184). -/
def State.changed (s : State) (n : Nat) : State :=
  if s.spnChanged.contains n then s else { s with spnChanged := s.spnChanged ++ [n] }

/-- The partition a stream's assignment names, for records and counters. -/
def State.streamPart (s : State) (n : Nat) : Nat := s.fld WPC_OWNER.PARTITION (ixStream n)

/-- The replicas a level needs (R259). -/
def levelK (level : Nat) : Nat := if level = 3 then 2 else if level = 2 then 1 else 0

/-- The state of replica `r` (0 OFF, 1 LIVE, 2 CATCH_UP, 3 SILENT), and whether it is answering (R259). -/
def State.rstate (s : State) (n r : Nat) : Nat :=
  if r = 0 then s.fld JRN_REPL_STATE.R0_STATE n else s.fld JRN_REPL_STATE.R1_STATE n

def State.answering (s : State) (n : Nat) : Nat :=
  ((List.range 2).filter fun r => s.rstate n r == 1 || s.rstate n r == 2).length

/-- The level a number assigned now takes: the configured one, or the achievable one while the stream is DEGRADED under
DROP (R181, R268). -/
def State.levelNow (s : State) (n : Nat) : Nat :=
  let cfg := s.fld SPN_STREAM_CFG.LEVEL n
  if s.fld JRN_REPL_STATE.STATE n = 2 ∧ s.fld JRN_REPL_CFG.POLICY n = 1 then Nat.min cfg (1 + s.answering n) else cfg

/-- Whether a dependency can no longer become durable: its stream is fenced, or disabled after a fence, with a loss point
below the number. -/
def State.depLost (s : State) (d : Nat × Nat) : Bool :=
  (s.stream d.1).fencedPub && decide (s.fld SPN_STREAM_WMARK.W d.1 < d.2)

/-- A region: its base and its size, 0 for none. -/
def State.jrnBase (s : State) (n : Nat) : Nat := s.fld JRN_REGION.BASE n * 2 ^ 21
def State.jrnSize (s : State) (n : Nat) : Nat :=
  if s.fld JRN_REGION.SIZE_LOG2 n = 0 then 0 else 2 ^ s.fld JRN_REGION.SIZE_LOG2 n

/-! ### The staging buffer (R193) -/

/-- Whether a reservation fits: the stream within its quota, the buffer within 32 MiB less 64 KiB, and a region. -/
def State.fits (s : State) (n bytes : Nat) : Bool :=
  let total := ((List.range 64).map s.staged).sum
  s.jrnSize n != 0 && decide (s.staged n + bytes ≤ s.fld JRN_REGION.QUOTA_64K n * 65536) &&
  decide (total + bytes ≤ 32 * 2 ^ 20 - 64 * 2 ^ 10)

/-- Insert a waiting reservation in the order of its arrival. -/
def insRes (e : Nat × Nat × StageRes) : List (Nat × Nat × StageRes) → List (Nat × Nat × StageRes)
  | [] => [e]
  | x :: xs => if e.1 < x.1 then e :: x :: xs else x :: insRes e xs

/-- Grant the reservations that fit, in the order in which node 4 received them; one that does not fit holds back its own
stream only. -/
def State.grantAll (s : State) : State :=
  let all := (s.jrnRes.flatMap fun e => (e.2.filter fun r => !r.granted).map fun r => (r.at_, e.1, r))
  let order := all.foldl (fun l e => insRes e l) []
  (order.foldl (fun (st : State × List Nat) e =>
    let s := st.1
    let n := e.2.1
    if st.2.contains n then st
    else if s.fits n e.2.2.bytes then
      ({ s with jrnRes := tset [] s.jrnRes n ((tget [] s.jrnRes n).map fun r =>
          if r.core = e.2.2.core then { r with granted := true } else r) }, st.2)
    else (s, n :: st.2)) (s, [])).1

/-- Free the staged records that have left: in the region, and sent to every LIVE replica (R193, R263). -/
def State.freeStaged (s : State) (n : Nat) : State :=
  let live := (List.range 2).filter fun r => s.rstate n r == 1
  let keep := (tget [] s.jrnRecs n).filter fun r => !(r.appended && live.all fun x => r.sentTo.contains x)
  ({ s with jrnRecs := tset [] s.jrnRecs n keep } : State).grantAll

/-- Drop the reservation that a core's commit request used (R193). -/
def State.dropRes (s : State) (n c : Nat) : State :=
  ({ s with jrnRes := tset [] s.jrnRes n ((tget [] s.jrnRes n).filter fun r => r.core ≠ c) } : State).grantAll

/-- Give a request a number that is lost at once (R186): the reply carries LOST and the record is discarded. -/
def State.assignLost (s : State) (q : CommitReq) : State :=
  let g := s.fld SPN_STREAM_ASSIGNED.A q.stream + 1
  let s1 := (s.setFld SPN_STREAM_ASSIGNED.A q.stream g).dropRes q.stream q.core
  let s2 := s1.onCore q.core fun k => { k with cgReply := some (q.stream, g, true) }
  (s2.count cuSpn 0x03 (some (s.core q.core).part) 1).changed q.stream

/-- Fence one stream (R180, R186, R188): its loss point is its W, every parked request gets a lost number in list order,
its records that are not appended are discarded, and FENCED is published. -/
def State.fenceOne (s : State) (n cause : Nat) : State :=
  let x := s.stream n
  let s1 := x.parked.foldl State.assignLost s
  let s2 := s1.setStream n { x with nums := [], parked := [], early := 0, fencedPub := true, newOpen := false, gasp := false }
  let s3 : State := { s2 with jrnRecs := tset [] s2.jrnRecs n [] }
  let s4 := ((s3.setFld SPN_STREAM_STATE.STATE n 3).setFld SPN_STREAM_STATE.FENCE_CAUSE n cause).setFld
    JRN_STREAM_STATUS.REGION_FULL n 0
  ((s4.changed n).count cuSpn 0x04 none 1).logErr 3 n 1 0x201 (s.fld SPN_STREAM_WMARK.W n) |>.raise 1408

/-- Whether a stream is in OPEN or PAUSED. -/
def State.streamUp (s : State) (n : Nat) : Bool :=
  s.fld SPN_STREAM_STATE.STATE n == 1 || s.fld SPN_STREAM_STATE.STATE n == 2

/-- The cascade of R187: every stream with a number above its W that carries a lost dependency is fenced, until no further
one qualifies. -/
def cascade : Nat → State → State
  | 0, s => s
  | fuel + 1, s =>
    match (List.range 64).find? fun t => s.streamUp t && (s.stream t).nums.any fun e => e.deps.any s.depLost with
    | none => s
    | some t => cascade fuel (s.fenceOne t 2)

/-- Fence an OPEN or PAUSED stream, with its cascade; elsewhere nothing happens (R180, R187). -/
def State.fence (s : State) (n cause : Nat) : State :=
  if s.streamUp n then cascade 64 (s.fenceOne n cause) else s

/-- Assign a request the next number (R178, R190): the number, its journal record, and the reply. -/
def State.assign (s : State) (q : CommitReq) : State :=
  let n := q.stream
  let g := s.fld SPN_STREAM_ASSIGNED.A n + 1
  let x := s.stream n
  let lv := s.levelNow n
  let e : SeqEnt := { seq := g, core := q.core, level := lv, deps := q.deps }
  let r : JRec := { seq := g, core := q.core, nlines := (q.len - 64) / 72, level := lv,
                    term := s.fld JRN_REPL_STATE.TERM n, part := (s.core q.core).part, time := s.dtime,
                    origin := s.fld FAB_NODE.NODE_ID 0, opening := s.fld SPN_STREAM_STATE.OPENING n }
  let s1 := (s.setFld SPN_STREAM_ASSIGNED.A n g).setStream n { x with nums := x.nums ++ [e] }
  let s2 : State := { s1 with jrnRecs := tset [] s1.jrnRecs n (tget [] s1.jrnRecs n ++ [r]) }
  let s3 := (s2.dropRes n q.core).onCore q.core fun k => { k with cgReply := some (n, g, false) }
  cascade 64 (s3.changed n)

/-- Numbers assigned and not durable (R179). -/
def State.undurableNums (s : State) (n : Nat) : Nat := s.fld SPN_STREAM_ASSIGNED.A n - s.fld SPN_STREAM_WMARK.W n

/-- Serve parked requests from the head of a stream's list while numbers are free (R179): in OPEN all of them, in PAUSED
those accepted before the pause, and none after PFW_N (R275). -/
def serveParked : Nat → Nat → State → State
  | 0, _, s => s
  | fuel + 1, n, s =>
    let x := s.stream n
    match x.parked with
    | [] => s
    | q :: rest =>
      let st := s.fld SPN_STREAM_STATE.STATE n
      if s.undurableNums n < 1024 ∧ x.gasp = false ∧ (st = 1 ∨ (st = 2 ∧ 0 < x.early)) then
        serveParked fuel n ((s.setStream n { x with parked := rest, early := x.early - 1 }).assign q)
      else s

/-- COMMIT_REQUEST (R176 to R180): the Spine takes a core's commit request from its input queue, and numbers it, parks it,
or gives it a lost number. -/
def State.commitRequest (s : State) (c : Nat) : State :=
  match (s.core c).cgReq with
  | none => s
  | some q =>
    let n := q.stream
    let s1 := (s.onCore c fun k => { k with cgReq := none }).count cuSpn 0x01 (some (s.core c).part) 1
    let x := s1.stream n
    let park := fun (s : State) =>
      (s.setStream n { x with parked := x.parked ++ [q] }).count cuSpn 0x02 (some (s.core c).part) 1
    match s1.fld SPN_STREAM_STATE.STATE n with
    | 1 => if s1.undurableNums n < 1024 ∧ x.parked = [] ∧ x.gasp = false then s1.assign q else park s1
    | 2 => park s1
    | _ => s1.assignLost q

/-! ### Records (R190 to R192) -/

/-- Bit i set when the group wrote any of bytes 8i to 8i + 7 (R191). -/
def maskBytes (m : Nat) : Nat :=
  ((List.range 8).map fun i => if (m >>> (8 * i)) % 256 = 0 then 0 else 2 ^ i).sum

/-- The bytes of a record of a stream, its CRC included (R190, R191); a PAD is TYPE 3 with its length. -/
def recBytes (stream : Nat) (r : JRec) (padLen : Nat) : List Byte :=
  let data := decide (r.typ = 1)
  let pad := decide (r.typ = 3)
  let len := if pad then padLen else if data then 64 + 72 * r.lines.length else 64
  let z := fun (v : Nat) => if pad then 0 else v
  let hdr := leBytes 1 r.typ ++ leBytes 1 1 ++ leBytes 2 (if data then r.lines.length else 0) ++ leBytes 4 len ++
    leBytes 8 (z r.seq) ++ leBytes 4 (z r.term) ++ leBytes 1 stream ++ leBytes 1 (z r.level) ++ leBytes 1 (z r.part % 16) ++
    leBytes 1 0 ++ leBytes 8 (z r.time) ++ leBytes 2 (z r.origin) ++ leBytes 2 (z r.opening) ++ leBytes 24 0
  let ents := if data then r.lines.flatMap fun l =>
      leBytes 8 (maskBytes l.2.1 * 2 ^ 56 + l.1 * 64) ++ leBytes 64 l.2.2.toNat else []
  let crc := crc32c (crc32c 0xFFFFFFFF hdr) ents ^^^ 0xFFFFFFFF
  hdr ++ leBytes 4 crc ++ ents

/-- Whether the bytes of a record carry their own CRC (R192). -/
def recOk (bs : List Byte) : Bool :=
  decide (64 ≤ bs.length) &&
  (crc32c (crc32c 0xFFFFFFFF (bs.take 60)) (bs.drop 64) ^^^ 0xFFFFFFFF) == ofLeBytes ((bs.drop 60).take 4)

/-- The difference of two free-running byte counts (R195). -/
def ptrDiff (a b : Nat) : Nat := (a + 2 ^ 64 - b) % 2 ^ 64

/-- The pad a record of `len` bytes needs before it at a byte count (R194). -/
def padFor (size ptr len : Nat) : Nat :=
  let rem := size - ptr % size
  if rem < len then rem else 0

/-- Whether an address lies in a mirrored window with both channels of its pair in service: an append needs both (R299). -/
def State.pairServes (s : State) (pa : Nat) : Bool :=
  match s.place pa with
  | some (ch, some ch2, _) => !s.chFailed ch && !s.chFailed ch2
  | _ => false

/-- Whether an append of `n` bytes at `pa` lies in mirrored DRAM of a world and partition (R194): the World Table is asked for each 2 MiB
granule, the mirroring map for each 4 KiB granule, which may lie in another pair (R287, R299). -/
def State.appendOk (s : State) (sec : Bool) (part pa n : Nat) : Bool × State :=
  let cut := fun (g : Nat) => (List.range ((pa + n - 1) / g - pa / g + 1)).map fun i => Nat.max pa ((pa / g + i) * g)
  (cut (2 ^ 21)).foldl (fun r a =>
    if r.1 = false then r
    else
      let w := r.2.worldOk 27 sec part a
      (w.1, w.2)) ((cut 4096).all fun a => s.isDram a && s.pairServes a, s)

/-- Write a record into a region at a byte count, with the PAD before it where one is needed; the count after it (R194). -/
def State.regionPut (s : State) (stream base size ptr : Nat) (bs : List Byte) : State × Nat :=
  let pad := padFor size ptr bs.length
  let padBs := recBytes stream { typ := 3 } pad
  let s1 := if 64 ≤ pad then s.agentWriteBytes (base + ptr % size) padBs false else s
  let at_ := (ptr + pad) % 2 ^ 64
  (s1.agentWriteBytes (base + at_ % size) bs false, (at_ + bs.length) % 2 ^ 64)

/-! ### Replication: the primary's engine (R261 to R269) -/

/-- The control block of R261. -/
def ctlBlock (ledger term a b lastTerm reason flags count : Nat) : List Byte :=
  leBytes 4 ledger ++ leBytes 4 term ++ leBytes 8 a ++ leBytes 8 b ++ leBytes 4 lastTerm ++ leBytes 1 reason ++
  leBytes 1 flags ++ leBytes 2 count

/-- Node `r` of a stream's members: replicas 0 and 1, and 2 the witness; none when it is not valid. -/
def State.member (s : State) (n r : Nat) : Option Nat :=
  if r = 0 then (if s.fld JRN_REPL_MEMBERS.R0_VALID n = 1 then some (s.fld JRN_REPL_MEMBERS.R0_NODE n) else none)
  else if r = 1 then (if s.fld JRN_REPL_MEMBERS.R1_VALID n = 1 then some (s.fld JRN_REPL_MEMBERS.R1_NODE n) else none)
  else if s.fld JRN_REPL_MEMBERS.WIT_VALID n = 1 then some (s.fld JRN_REPL_MEMBERS.WIT_NODE n) else none

def State.getRepl (s : State) (n r : Nat) : Repl := tget {} s.repl (n * 2 + r)
def State.setRepl (s : State) (n r : Nat) (x : Repl) : State := { s with repl := tset {} s.repl (n * 2 + r) x }

/-- Send a replication message of a stream to a node. -/
def State.replMsg (s : State) (n op node a b reason flags count : Nat) (body : List Byte) : State :=
  let data := ctlBlock (s.fld JRN_REPL_CFG.LEDGER n) (s.fld JRN_REPL_STATE.TERM n) a b (s.stream n).lastTerm
    reason flags count ++ body
  s.fabSend { dst := node, op := op, len := data.length, data := data }

/-- Whether the stream's replication state lets its engine send (R267). -/
def State.sending (s : State) (n : Nat) : Bool :=
  s.fld JRN_REPL_STATE.STATE n == 1 || s.fld JRN_REPL_STATE.STATE n == 2

/-- Lower the unresolved numbers of a stream under DROP (R268). -/
def State.lowerLevels (s : State) (n : Nat) : State :=
  let lv := Nat.min (1 + s.answering n) 3
  let x := s.stream n
  s.setStream n { x with nums := x.nums.map fun e => { e with level := Nat.min e.level lv } }

/-- A change of the replication state, STATE or a replica's, raises its source (R370). -/
def State.setReplState (s : State) (n v : Nat) : State :=
  if s.fld JRN_REPL_STATE.STATE n = v then s else (s.setFld JRN_REPL_STATE.STATE n v).raise 1411

/-- Judge STREAMING and DEGRADED by the number of answering replicas, and apply the policy (R266, R268). -/
def State.judge (s : State) (n : Nat) : State :=
  let few := decide (s.answering n < levelK (s.fld SPN_STREAM_CFG.LEVEL n))
  let drop := s.fld JRN_REPL_CFG.POLICY n = 1
  if s.fld JRN_REPL_STATE.STATE n = 1 ∧ few then
    let w := s.fld SPN_STREAM_WMARK.W n
    let s1 := (s.setReplState n 2).logErr 4 n 1 0x203 w
    if drop then
      let s2 := s1.lowerLevels n
      let s3 := if s2.fld JRN_REPL_DEGRADED.FROM n = 0 then s2.setFld JRN_REPL_DEGRADED.FROM n (w + 1) else s2
      s3.logErr 4 n 1 0x204 (w + 1)
    else s1
  else if s.fld JRN_REPL_STATE.STATE n = 2 then
    if few then (if drop then s.lowerLevels n else s) else s.setReplState n 1
  else s

/-- Move a replica to a state, and judge the stream (R266, R267). -/
def State.setRstate (s : State) (n r v : Nat) : State :=
  if s.rstate n r = v then s
  else ((s.setFld (if r = 0 then JRN_REPL_STATE.R0_STATE else JRN_REPL_STATE.R1_STATE) n v).raise 1411).judge n

/-- The header of the record at a byte count of a region: its type, length, number, term and position; a remainder of fewer
than 64 bytes and PADs are skipped. `fuel` bounds the skips. -/
def State.recAt (s : State) (base size stop : Nat) : Nat → Nat → Option (Nat × Nat × Nat × Nat × Nat)
  | 0, _ => none
  | fuel + 1, p =>
    if size = 0 ∨ p = stop then none
    else
      let rem := size - p % size
      if rem < 64 then s.recAt base size stop fuel ((p + rem) % 2 ^ 64)
      else
        let a := base + p % size
        let typ := s.curNat a 1
        let len := s.curNat (a + 4) 4
        if typ = 3 then s.recAt base size stop fuel ((p + rem) % 2 ^ 64)
        else some (typ, len, s.curNat (a + 8) 8, s.curNat (a + 16) 4, p)

/-- The position of the record numbered `h` between two byte counts of a region, with the position after it and its term;
`fuel` bounds the records walked (R269, R273). -/
def State.findRec (s : State) (base size stop h : Nat) : Nat → Nat → Option (Nat × Nat × Nat)
  | 0, _ => none
  | fuel + 1, p =>
    match s.recAt base size stop 3 p with
    | none => none
    | some (_, len, seq, term, q) =>
      let next := (q + Nat.max len 64) % 2 ^ 64
      if seq = h then some (q, next, term) else s.findRec base size stop h fuel next

/-- Gather whole records from a region up to the limit of one quire: their bytes, how many, the last number and the position
after them. -/
def State.gather (s : State) (base size stop : Nat) : Nat → Nat → List Byte → Nat → Nat → List Byte × Nat × Nat × Nat
  | 0, p, acc, cnt, lastN => (acc, cnt, lastN, p)
  | fuel + 1, p, acc, cnt, lastN =>
    match s.recAt base size stop 3 p with
    | none => (acc, cnt, lastN, stop)
    | some (_, len, seq, _, q) =>
      let len := Nat.max len 64
      if 65504 < acc.length + len then (acc, cnt, lastN, p)
      else s.gather base size stop fuel ((q + len) % 2 ^ 64) (acc ++ s.curBytes (base + q % size) len) (cnt + 1) seq

/-- Send quires to one replica while fewer than 16 are unanswered (R263, R269): from staging when it is LIVE, from the
region when it catches up. -/
def replSend : Nat → Nat → Nat → State → State
  | 0, _, _, s => s
  | fuel + 1, n, r, s =>
    let x := s.getRepl n r
    match s.member n r with
    | none => s
    | some node =>
      if s.sending n = false ∨ 16 ≤ x.quires.length then s
      else if s.rstate n r = 1 then
        let recs := tget [] s.jrnRecs n
        let pick := (List.range 1024).foldl (fun (acc : List JRec × List Byte × Bool) i =>
          if acc.2.2 then acc else
          match recs.find? fun q => q.seq = x.next + i ∧ q.complete with
          | none => (acc.1, acc.2.1, true)
          | some q =>
            let bs := recBytes n q 0
            if 65504 < acc.2.1.length + bs.length then (acc.1, acc.2.1, true)
            else (acc.1 ++ [q], acc.2.1 ++ bs, false)) ([], [], false)
        if pick.1 = [] then s
        else
          let lastN := x.next + pick.1.length - 1
          let recs' := recs.map fun q => if x.next ≤ q.seq ∧ q.seq ≤ lastN then { q with sentTo := q.sentTo ++ [r] } else q
          let s1 := s.setRepl n r { x with quires := x.quires ++ [(x.next, lastN)], next := lastN + 1 }
          let s2 : State := { s1 with jrnRecs := tset [] s1.jrnRecs n recs' }
          let s3 := (s2.replMsg n 0x10 node x.next lastN 0 0 pick.1.length pick.2.1).count cuJrn 0x04 none 1
          replSend fuel n r s3
      else if s.rstate n r = 2 then
        match x.pos with
        | none => s
        | some p =>
          let g := s.gather (s.jrnBase n) (s.jrnSize n) (s.fld JRN_APPEND_PTR.APPEND n) 1024 p [] 0 0
          if g.2.1 = 0 then s.setRepl n r { x with pos := some g.2.2.2 }
          else
            let s1 := s.setRepl n r { x with quires := x.quires ++ [(x.next, g.2.2.1)], next := g.2.2.1 + 1,
                                             pos := some g.2.2.2 }
            let s2 := (s1.replMsg n 0x10 node x.next g.2.2.1 0 1 g.2.1 g.1).count cuJrn 0x04 none 1
            replSend fuel n r s2
      else s

/-- Run the engine for both replicas, and free what the quires have carried to every LIVE one (R193). -/
def State.replPump (s : State) (n : Nat) : State := (replSend 17 n 1 (replSend 17 n 0 s)).freeStaged n

/-! ### Staging (R193) -/

/-- Turn a number's record into a void record (R160, R196). -/
def State.voidRec (s : State) (n g : Nat) : State :=
  let f := fun (r : JRec) => if r.seq = g then { r with typ := 2, lines := [], nlines := 0, complete := true } else r
  let x := s.stream n
  let nums := x.nums.map fun e => if e.seq = g then { e with staged := true } else e
  let s1 : State := { s with jrnRecs := tset [] s.jrnRecs n ((tget [] s.jrnRecs n).map f) }
  (((s1.setStream n { x with nums := nums }).count cuJrn 0x03 (some (s.streamPart n)) 1).grantAll).replPump n

/-- STAGING_RESERVATION (R193): node 4 receives the reservation of a core that waits in step 2 of R163, and grants the
reservations that fit. -/
def execStagingReservation (c : Nat) (s : State) : Res :=
  let k := s.core c
  .next <| match k.group with
  | some g =>
    if g.phase = .staging ∧ ((tget [] s.jrnRes g.stream).any fun r => r.core = c) = false ∧ k.cancel.isNone then
      let r : StageRes := { core := c, bytes := 64 + 72 * g.writes.length, at_ := s.stamp }
      ({ s with jrnRes := tset [] s.jrnRes g.stream (tget [] s.jrnRes g.stream ++ [r]), stamp := s.stamp + 1 } :
        State).grantAll
    else s.grantAll
  | none => s.grantAll

/-- STAGING_CANCEL (R193): the cancelled reservation is dropped, or returned when it was granted meanwhile. -/
def execStagingCancel (c : Nat) (s : State) : Res :=
  .next <| match (s.core c).cancel with
  | none => s
  | some n =>
    let keep := (tget [] s.jrnRes n).filter fun r => r.core ≠ c ∨ r.used
    let s1 : State := { s with jrnRes := tset [] s.jrnRes n keep }
    (s1.onCore c fun k => { k with cancel := none }).grantAll

/-- COMMIT_REQUEST (R176). -/
def execCommitRequest (c : Nat) (s : State) : Res := .next (s.commitRequest c)

/-- The engine has received the written lines of a number and holds its complete record. -/
def State.recSegments (s : State) (stream g : Nat) : State :=
  let recs := tget [] s.jrnRecs stream
  match recs.find? fun r => r.seq = g with
  | none => s
  | some r =>
    if r.typ = 1 ∧ r.complete = false ∧ r.lines ≠ [] then
      let x := s.stream stream
      let nums := x.nums.map fun e => if e.seq = g then { e with staged := true } else e
      let s1 : State := { s with jrnRecs := tset [] s.jrnRecs stream (recs.map fun r =>
        if r.seq = g then { r with complete := true, nlines := r.lines.length } else r) }
      (s1.setStream stream { x with nums := nums }).replPump stream
    else s

/-- RECORD_SEGMENT (R163 step 5): the segments of a number reach the engine. -/
def execRecordSegment (stream g : Nat) (s : State) : Res := .next (s.recSegments stream g)

/-! ### Publications (R183 to R185) -/

/-- PUBLICATION_ROUND (R184): the four streams changed longest ago, in one flit to each of the 28 destinations. -/
def execPublicationRound (s : State) : Res :=
  let pick := s.spnChanged.take 4
  .next <| if pick = [] then s else
  let ents := pick.map fun n =>
    let w := s.fld SPN_STREAM_WMARK.W n
    let d := Nat.min (s.fld SPN_STREAM_ASSIGNED.A n - w) 65535
    let e : PubEnt := { stream := n, w := w, a := w + d, fenced := (s.stream n).fencedPub, opened := (s.stream n).newOpen }
    e
  let s1 := pick.foldl (fun s n => s.setStream n { s.stream n with newOpen := false }) s
  let s2 : State := { s1 with spnChanged := s.spnChanged.drop 4 }
  let s3 := (List.range 28).foldl (fun (s : State) d =>
    { s with pubFlits := tset [] s.pubFlits d (tget [] s.pubFlits d ++ [ents]) }) s2
  s3.count cuSpn 0x05 none 1

/-- Whether a number is resolved at its level (R181). -/
def SeqEnt.resolved (e : SeqEnt) : Bool :=
  match e.level with
  | 0 => e.staged
  | 1 => e.appended
  | 2 => e.appended && e.acks != 0
  | _ => e.appended && e.acks == 3

/-- Move W over resolved numbers whose dependencies are durable (R182, R164). -/
def advanceW : Nat → Nat → State → State
  | 0, _, s => s
  | fuel + 1, n, s =>
    let x := s.stream n
    match x.nums with
    | [] => s
    | e :: rest =>
      if e.resolved && e.deps.all fun d => decide (d.2 ≤ s.fld SPN_STREAM_WMARK.W d.1) && !(s.depLost d) then
        advanceW fuel n (((s.setStream n { x with nums := rest }).setFld SPN_STREAM_WMARK.W n e.seq).changed n)
      else s

/-- RESOLUTION (R181, R182, R179): the watermark advances as far as it can and parked requests are served. -/
def execResolution (stream : Nat) (s : State) : Res :=
  .next <| if s.streamUp stream then serveParked 128 stream (advanceW 1024 stream s) else s

/-! ### Stream commands (R180, R189) -/

/-- Start the sweep that precedes an opening (R189): L is the loss point, or W for a stream disabled without a fence. -/
def State.startSweep (s : State) (n : Nat) (takeover : Bool) : State :=
  let x := s.stream n
  match x.sweep with
  | some _ => s
  | none => s.setStream n { x with sweep := some (List.range 28), swept := [], sweepL := s.fld SPN_STREAM_WMARK.W n,
                                   takeover := takeover }

/-- Open the stream once every destination has answered (R180, R189). -/
def State.openStream (s : State) (n : Nat) : State :=
  let x := s.stream n
  let next := s.fld SPN_STREAM_NEXT.NEXT n
  let s1 := ((((s.setFld SPN_STREAM_STATE.STATE n 1).setFld SPN_STREAM_STATE.FENCE_CAUSE n 0).setFld
    SPN_STREAM_STATE.OPENING n ((s.fld SPN_STREAM_STATE.OPENING n + 1) % 65536)).setFld
    SPN_STREAM_ASSIGNED.A n (next - 1)).setFld SPN_STREAM_WMARK.W n (next - 1)
  let s2 := (if x.takeover then s1 else (s1.setFld JRN_APPEND_PTR.APPEND n 0).setFld JRN_DRAIN_PTR.DRAIN n 0).setFld
    SPN_STREAM_CFG.EN n 1
  let y : SpnStream := { nums := [], newOpen := true, openNext := next }
  let y : SpnStream := if x.takeover then { y with lastApp := x.lastApp, lastTerm := x.lastTerm } else y
  (s2.setStream n y).changed n

/-- STREAM_ENABLE (R180, R189): EN written 1 sweeps a DISABLED stream, which opens when every destination has answered. The
write also carries LEVEL. -/
def execStreamEnable (ag : Agent) (stream level : Nat) (s : State) : Res :=
  let w := putField (BitVec.ofNat 64 (level % 4)) 63 63 1
  .next <| s.onWrite ag .SPN_STREAM_CFG stream w fun t =>
    if t.fld SPN_STREAM_STATE.STATE stream = 0 then t.startSweep stream false else t

/-- STREAM_DISABLE (R180): EN written 0 disables a stream that is FENCED, DISABLED or drained; otherwise EN stays 1. -/
def execStreamDisable (ag : Agent) (stream level : Nat) (s : State) : Res :=
  .next <| s.onWrite ag .SPN_STREAM_CFG stream (BitVec.ofNat 64 (level % 4)) fun t =>
    let st := t.fld SPN_STREAM_STATE.STATE stream
    let x := t.stream stream
    if st = 0 ∨ st = 3 ∨ (t.undurableNums stream = 0 ∧ x.parked = []) then
      (t.setFld SPN_STREAM_STATE.STATE stream 0).setStream stream { x with sweep := none, swept := [], early := 0 }
    else t.setFld SPN_STREAM_CFG.EN stream (s.fld SPN_STREAM_CFG.EN stream)

/-- FENCE_STREAM (R186). -/
def execFenceStream (ag : Agent) (stream : Nat) (s : State) : Res :=
  .next <| s.onWrite ag .SPN_STREAM_STATE stream 1 fun t => t.fence stream 3

/-- RESUME (R180): a PAUSED stream reopens and serves its parked requests. -/
def execResume (ag : Agent) (stream : Nat) (s : State) : Res :=
  .next <| s.onWrite ag .SPN_STREAM_STATE stream 2 fun t =>
    if t.fld SPN_STREAM_STATE.STATE stream = 2 then
      serveParked 128 stream (t.setFld SPN_STREAM_STATE.STATE stream 1)
    else t

/-- RESTART (R180): a FENCED stream is swept and opened from NEXT. -/
def execRestart (ag : Agent) (stream : Nat) (s : State) : Res :=
  .next <| s.onWrite ag .SPN_STREAM_STATE stream 3 fun t =>
    if t.fld SPN_STREAM_STATE.STATE stream = 3 then t.startSweep stream false else t

/-- Sweep the data that is on its way to the requests of cores (R189): a line that was sent before the sweep of its sender is swept with the
requester's tile, or at the latest before the stream opens, so that no tag of the earlier numbering is left. -/
def State.sweepFlight (s : State) (cs : List Nat) (n l : Nat) : State :=
  cs.foldl (fun s c => s.onCore c fun k =>
    { k with reqs := k.reqs.map fun e => (e.1, e.2.map fun r => { r with data := r.data.map (sweepData n l) }) }) s

/-- Sweep the lines of one tile: its cores' L2s and writeback buffers, its L3 slice and its dependency victim buffer. -/
def State.sweepTile (s : State) (t n l : Nat) : State :=
  let s1 := (List.range 5).foldl (fun s i => s.onCore (5 * t + i) fun k =>
    { k with l2 := k.l2.map (fun e => (e.1, e.2.map fun x => { x with d := sweepData n l x.d })),
             wb := k.wb.map (fun e => (e.1, e.2.map fun x => { x with d := sweepData n l x.d })) }) (s.sweepFlight (tileCores t) n l)
  let f := fun (e : Nat × Option L3Line) =>
    if homeOf e.1 ≠ t then e
    else (e.1, e.2.map fun x =>
      match x.tag with
      | some g =>
        if g.stream ≠ n then x
        else
          let lost := match s1.expandTag t (some g) with
            | some h => decide (l < h.seq)
            | none => false
          { x with tag := none, poison := x.poison || lost, dirty := x.dirty || lost }
      | none => x)
  { s1 with l3 := s1.l3.map f, depvb := s1.depvb.map f }

/-- SWEEP (R189): a destination receives SWEEP and drops or poisons the stream's tags; the agents' withheld reads complete
with TARGET_ERROR, because the tag they wait for is LOST. -/
def execSweep (stream dest : Nat) (s : State) : Res :=
  let x := s.stream stream
  .next <| if x.sweep.isSome ∧ dest < 28 ∧ x.swept.contains dest = false then
    let s1 := if dest < 24 then s.sweepTile dest stream x.sweepL else s
    s1.setStream stream { s1.stream stream with swept := x.swept ++ [dest] }
  else s

/-- SWEEP_ANSWER (R189): the Spine collects a destination's answer and opens the stream after the last. -/
def execSweepAnswer (stream dest : Nat) (s : State) : Res :=
  let x := s.stream stream
  .next <| match x.sweep with
  | none => s
  | some ds =>
    if x.swept.contains dest ∧ ds.contains dest then
      let ds' := ds.filter (· ≠ dest)
      if ds' = [] then (s.sweepFlight (List.range 120) stream x.sweepL).openStream stream else s.setStream stream { x with sweep := some ds' }
    else s

/-- CLOSE_MARK (R196): the mark follows every earlier JRN packet of its stop, so the core's commit request and the segments that its L2 has sent
are taken first; then the Spine discards the core's parked requests, and the engine returns its unused reservations and
voids its numbers whose segments are incomplete. -/
def State.closeMark (s : State) (c : Nat) : State :=
  let s1 := s.commitRequest c
  let s2 := (List.range 64).foldl (fun s n =>
    let x := s.stream n
    let mine : List CommitReq := x.parked.filter fun q => q.core == c
    let s := if mine.isEmpty then s else
      let early := ((x.parked.take x.early).filter fun q => q.core ≠ c).length
      (s.setStream n { x with parked := x.parked.filter fun q => q.core ≠ c, early := early }).dropRes n c
    let s := if ((tget [] s.jrnRes n).any fun r => r.core = c) then s.dropRes n c else s
    (tget [] s.jrnRecs n).foldl (fun s r =>
      if r.core ≠ c ∨ r.complete then s
      else if r.typ = 1 ∧ r.lines ≠ [] then s.recSegments n r.seq else s.voidRec n r.seq) s) s1
  (s2.onCore c fun k => { k with voidOut := false, cgReply := none, cancel := none }).grantAll

def execCloseMark (c : Nat) (s : State) : Res := .next (s.closeMark c)

/-! ### Appending (R194, R195) -/

/-- The stream's next record in sequence order that is not yet in the region. -/
def State.nextRec (s : State) (n : Nat) : Option JRec := (tget [] s.jrnRecs n).find? fun r => !r.appending

/-- Whether a record of `len` bytes fits the region beside what the drain has not released (R195). -/
def State.regionFits (s : State) (n len : Nat) : Bool :=
  let ptr := s.fld JRN_APPEND_PTR.APPEND n
  decide (ptrDiff (ptr + padFor (s.jrnSize n) ptr len + len) (s.fld JRN_DRAIN_PTR.DRAIN n) ≤ s.jrnSize n)

/-- JOURNAL_APPEND (R194, R195): the stream's next complete record, with any PAD before it, is written to its region;
REGION_FULL is set where it does not fit; a region that the World Table or the mirroring map refuses fences the stream. -/
def execJournalAppend (stream : Nat) (s : State) : Res :=
  .next <| match s.nextRec stream with
  | none => s
  | some r =>
    if r.complete = false ∨ s.streamUp stream = false ∨ s.jrnSize stream = 0 then s
    else
      let bs := recBytes stream r 0
      if s.regionFits stream bs.length = false then
        if s.fld JRN_STREAM_STATUS.REGION_FULL stream = 1 then s
        else (s.setFld JRN_STREAM_STATUS.REGION_FULL stream 1).raise 1409
      else
        let base := s.jrnBase stream
        let size := s.jrnSize stream
        let ptr := s.fld JRN_APPEND_PTR.APPEND stream
        let pad := padFor size ptr bs.length
        let sec := (s.owner (ixStream stream)).isNone
        let ok1 := s.appendOk sec (s.streamPart stream) (base + (ptr + pad) % size) bs.length
        let ok2 := if pad = 0 then ok1 else ok1.2.appendOk sec (s.streamPart stream) (base + ptr % size) pad
        if ok1.1 && ok2.1 then
          let p := ok2.2.regionPut stream base size ptr bs
          let s1 := (p.1.setFld JRN_APPEND_PTR.APPEND stream p.2).setFld JRN_STREAM_STATUS.REGION_FULL stream 0
          let s2 : State := { s1 with jrnRecs := tset [] s1.jrnRecs stream ((tget [] s1.jrnRecs stream).map fun q =>
            if q.seq = r.seq then { q with appending := true } else q) }
          let x := s2.stream stream
          let s3 := s2.setStream stream { x with lastApp := r.seq, lastTerm := r.term }
          let part := some (s.streamPart stream)
          (s3.count cuJrn 0x01 part 1).count cuJrn 0x02 part ((bs.length + 63) / 64) |>.replPump stream
        else
          (ok2.2.logErr 4 stream 1 0x202 base).fence stream 3

/-- APPEND_ACCEPTED (R181, R193): both channels of the mirrored pair have accepted the record. -/
def execAppendAccepted (stream g : Nat) (s : State) : Res :=
  let recs := tget [] s.jrnRecs stream
  .next <| if (recs.any fun r => r.seq = g ∧ r.appending) = false then s
  else
    let x := s.stream stream
    let s1 : State := { s with jrnRecs := tset [] s.jrnRecs stream (recs.map fun r =>
      if r.seq = g then { r with appended := true } else r) }
    let s2 := s1.setStream stream { x with nums := x.nums.map fun e =>
      if e.seq = g then { e with appended := true } else e }
    s2.freeStaged stream

/-- DRAIN_PTR_WRITE (R195, R197): software releases region bytes; a value outside DRAIN_PTR to APPEND_PTR sets DRAIN_ERR. -/
def execDrainPtrWrite (ag : Agent) (stream : Nat) (w : W) (s : State) : Res :=
  .next <| match s.gate ag .JRN_DRAIN_PTR stream (some w) with
  | .pass =>
    let old := s.fld JRN_DRAIN_PTR.DRAIN stream
    let s1 :=
      if ptrDiff w.toNat old ≤ ptrDiff (s.fld JRN_APPEND_PTR.APPEND stream) old then
        let t := s.setFld JRN_DRAIN_PTR.DRAIN stream w.toNat
        match t.nextRec stream with
        | some r => if t.jrnSize stream ≠ 0 ∧ t.regionFits stream r.bytes then
            t.setFld JRN_STREAM_STATUS.REGION_FULL stream 0 else t
        | none => t.setFld JRN_STREAM_STATUS.REGION_FULL stream 0
      else (s.setFld JRN_STREAM_STATUS.DRAIN_ERR stream 1).raise 1410
    s1.answerW ag (regAddr .JRN_DRAIN_PTR stream) 0
  | g => s.refuse ag g (regAddr .JRN_DRAIN_PTR stream) true

end Sys2Proof.Machine
end

