-- ==== Sys2Proof/Machine/Commit.lean ====
section
/-! DEFINITION. Commit groups at the core (chapter 07): CG.BEGIN to CG.END and every step between them, FENCE.D, the
publications that a destination takes, and the dependency entries. The lines a core's interrupts show are here as well,
because a deferral ends on them. -/

namespace Sys2Proof.Machine

open Sys2Proof

/-! ### Interrupt lines of a core (R33, R376) -/

/-- The hart whose lines a core shows. -/
def State.hartOf (s : State) (c : Nat) : Nat := s.coreHart c

/-- hgeip: bit t is the signalled guest target t; masked while the core runs with NS 0 (R33, R376). -/
def State.hgeip (s : State) (c : Nat) : W :=
  let h := s.hartOf c
  if (s.core c).secure ∨ 96 ≤ h then 0
  else (List.range 16).foldl (fun (w : W) t => if 1 ≤ t ∧ s.signalled h t then w ||| (1 <<< t) else w) 0

/-- mip: MEIP from the secure target, SEIP from the host target, the guest lines through hgeie and VGEIN, the supervisor
timers of Sstc, and the software-written bits. -/
def State.mip (s : State) (c : Nat) : W :=
  let k := s.core c
  let h := s.hartOf c
  let sw := k.getCsr 0x344 &&& 0x222
  let hv := k.getCsr 0x645 &&& 0x444
  let g := s.hgeip c
  let menv := bit (k.getCsr 0x30A) 63
  let henv := bit (k.getCsr 0x60A) 63
  let vgein := field (k.getCsr 0x600) 17 12
  let set := fun (w : W) (n : Nat) (b : Bool) => if b then w ||| (1 <<< n) else w
  let w := sw ||| hv
  let w := set w 11 (decide (h < 96) && s.signalled h 16)
  let w := set w 9 (decide (h < 96) && !k.secure && s.signalled h 0)
  let w := if menv then set (w &&& ~~~(0x20 : W)) 5 (decide ((k.getCsr 0x14D).toNat ≤ s.dtime)) else w
  let w := set w 12 ((g &&& k.getCsr 0x607) != 0)
  let w := set w 10 (vgein != 0 && bit g vgein)
  if menv && henv then
    set w 6 (decide ((k.getCsr 0x24D).toNat ≤ (s.dtime + (k.getCsr 0x605).toNat) % 2 ^ 64)) else w

/-- Where a bit of mip would be taken now: 3 M-mode, 2 HS, 1 VS, 0 not now. -/
def Core.intrMode (k : Core) (n : Nat) : Nat :=
  let st := k.getCsr 0x300
  if bit k.mideleg n = false then
    (if k.mode ≠ .m ∨ bit st 3 then 3 else 0)
  else if bit (k.getCsr 0x603) n = false then
    (match k.mode with
     | .m => 0
     | .s => if k.virt || bit st 1 then 2 else 0
     | .u => 2)
  else if k.virt then
    (match k.mode with
     | .s => if bit (k.getCsr 0x200) 1 then 1 else 0
     | _ => 1)
  else 0

/-- The interrupt a core would take next: the one for the highest mode, and within it in the architecture's order. -/
def State.intr (s : State) (c : Nat) : Option Nat :=
  let k := s.core c
  let w := s.mip c &&& k.getCsr 0x304
  let w := if s.plainSecure (s.hartOf c) then w else w &&& ~~~(0x800 : W)
  let order := [11, 3, 7, 9, 1, 5, 12, 10, 2, 6]
  let at_ := fun m => order.find? fun n => bit w n && k.intrMode n == m
  match at_ 3 with
  | some n => some n
  | none => match at_ 2 with
    | some n => some n
    | none => at_ 1

/-! ### Ending a group -/

/-- Abort a core's open group and record the trace packet (R158, R512). -/
def State.cgAbort (s : State) (c code cause user : Nat) : State :=
  match (s.core c).group with
  | some g => if g.abortable then (s.abortGroup c code cause user).trace c 0x08 code 0 else s
  | none => s

/-- A CG.END that waits in step 6 retires with a value (R163, R166): its interval ends after it (R205). -/
def State.cgRetire (s : State) (c rd len : Nat) (v : W) : State :=
  ((s.onCore c fun k => { k.setX rd v with cgWait := none }).retire c len [v] none).closeIval c

/-- The value of rd where durability can no longer arrive (R166). -/
def cgLost : W := 0xFFFFFFFFFFFFFFFF

/-- Whether a core's CG.END in step 6 can retire: at once with EARLY; with the failure of R166 where a dependency it carried
was lost or its stream was fenced below its number; or once the published watermark has reached its number. -/
def State.cgTryRetire (s : State) (c : Nat) : State :=
  let k := s.core c
  match k.cgWait with
  | none => s
  | some w =>
    let t := coreTile c
    let fail := fun (code : Nat) =>
      (((((s.setFld CG_STATUS.ABORT_CODE c code).setFld CG_STATUS.CAUSE c 0).setFld CG_STATUS.USER_CODE c 0).setFld
        CG_STATUS.RETRY c (abortRetry code)).setFld CG_STATUS.LOST c 1).cgRetire c w.rd w.len cgLost
    let p := s.pub t w.stream
    if k.run ≠ .running then s
    else if w.early then s.cgRetire c w.rd w.len (BitVec.ofNat 64 w.g)
    else if w.deps.any fun d => (s.pub t d.1).fenced && decide ((s.pub t d.1).w < d.2) then fail 0x0F
    else if w.lost || (p.fenced && decide (p.w < w.g)) then fail 0x0B
    else if w.g ≤ p.w then s.cgRetire c w.rd w.len (BitVec.ofNat 64 w.g)
    else s

/-! ### Instructions -/

/-- Whether the custom-0 commit instructions execute in a core's mode and world (R52, R350). -/
def Core.cgMode (k : Core) : Bool := k.mode != .m && !k.secure

/-- CG.BEGIN (R151 to R153): drains the store buffer, checkpoints the core, writes 0 to rd and opens the group; a secure-band interrupt that
is signalled already ends it at once (R162). -/
def execCgBegin (c rd rs1 len : Nat) (insn : W) (s : State) : Res :=
  .next <| s.issue c none fun s =>
    let k := s.core c
    match k.group with
    | some _ => s.cgAbort c 0x08 0 0
    | none =>
      let v := k.getX rs1
      let i := c * 8 + field v 2 0
      let stream := s.fld CG_BIND.STREAM i
      if custom0Bad insn true true ∨ k.cgMode = false ∨ s.fld CG_CFG.EN c = 0 ∨ field v 32 3 ≠ 0 ∨ s.fld CG_BIND.VALID i = 0 ∨
          (k.mode = .u ∧ s.fld CG_BIND.UEN i = 0) ∨ s.owner (ixStream stream) ≠ some k.part then
        s.illegal c false insn
      else if s.allCompared c = false then s.closeIval c
      else if k.drained = false then s
      else
        let g : Group := { stream := stream, slot := field v 2 0, beginPc := k.pc, beginRd := rd, ck := k.checkpoint,
                           fallback := k.pc + 4 + (sext 31 (field v 63 33) <<< 1) }
        let s1 := (s.setCore c { (k.setX rd 0).squash with group := some g, resv := none }).setFld CG_STATUS.ACTIVE c 1
        let s2 := (((s1.coreCount c 0x0C).trace c 0x06 0 0).retire c len [0] none).closeIval c
        if s.hartOf c < 96 ∧ s.signalled (s.hartOf c) 16 then s2.cgAbort c 0x0C 0 0
        else if k.anyLost then s2.cgAbort c 0x0F 0 0
        else if (s.pub (coreTile c) stream).fenced then s2.cgAbort c 0x0B 0 0
        else s2

/-- CG.END (R163, R165 to R167): step 1's waits, then the staging reservation; an empty write set needs no number; with no
group open it waits as FENCE.D does and returns CG_LASTSEQ. Sent again while it waits in step 6, it retires when it can. -/
def execCgEnd (c rd rs1 len : Nat) (insn : W) (s : State) : Res :=
  .next <| if (s.core c).cgWait.isSome then s.cgTryRetire c else
  s.issue c none fun s =>
    let k := s.core c
    let v := k.getX rs1
    let early := bit v 0
    if custom0Bad insn true true ∨ k.cgMode = false ∨ field v 63 1 ≠ 0 then s.illegal c false insn
    else if s.allCompared c = false then s.closeIval c
    else
      match k.group with
      | none =>
        if early = false ∧ s.undurable c ≠ [] then s
        else (s.onCore c fun k => { k.squash with resv := none }).cgRetire c rd len (s.rd .CG_LASTSEQ c)
      | some g =>
        if k.anyLost then s.cgAbort c 0x0F 0 0
        else if k.sb.any (·.grp) then s.ownReqs c
        else if g.writes = [] then
          if early = false ∧ s.undurable c ≠ [] then s
          else
            let s1 := (s.setCore c { k.squash with group := none, resv := none }).setFld CG_STATUS.ACTIVE c 0
            ((s1.wr .CG_LASTSEQ c 0).trace c 0x07 0 0).cgRetire c rd len 0
        else if 4 < ((s.undurable c).filter fun d => d.1 ≠ g.stream).length then s
        else
          let g' : Group := { g with phase := .staging, early := early, endRd := rd, endLen := len }
          s.setCore c { k.squash with group := some g' }

/-- CG.ABORT (R157, R168): ends the open group with EXPLICIT and rs1[7:0], or retires as a no-op. -/
def execCgAbort (c rs1 len : Nat) (insn : W) (s : State) : Res :=
  .next <| s.issue c none fun s =>
    let k := s.core c
    if custom0Bad insn false true ∨ k.cgMode = false then s.illegal c false insn
    else match k.group with
      | some _ => s.cgAbort c 0x09 0 (field (k.getX rs1) 7 0)
      | none => s.retire c len [] none

/-- CG.TEST (R168, R350): 1 in an open group, otherwise 0; 0 below M-mode in the secure world. -/
def execCgTest (c rd len : Nat) (insn : W) (s : State) : Res :=
  .next <| s.issue c none fun s =>
    let k := s.core c
    if custom0Bad insn true false ∨ k.mode = .m then s.illegal c false insn
    else
      let v : W := if k.group.isSome then 1 else 0
      (s.onCore c fun k => k.setX rd v).retire c len [v] none

/-- FENCE.D (R168): waits until every dependency entry is durable or LOST. -/
def execFenceD (c len : Nat) (insn : W) (s : State) : Res :=
  .next <| s.issue c none fun s =>
    let k := s.core c
    if custom0Bad insn false false ∨ k.cgMode = false then s.illegal c false insn
    else if s.allCompared c = false then s.closeIval c
    else if s.undurable c ≠ [] then s
    else
      let s1 := if k.anyLost then s.setFld CG_STATUS.LOST c 1 else s
      (s1.retire c len [] none).closeIval c

/-- CG_INTERRUPT_DEFERRAL (R161, R162): an enabled interrupt or a swap request has been deferred for DEFER_US and the group
has not ended: it aborts with INTERRUPT, unless its commit request has left the core. -/
def execCgInterruptDeferral (c : Nat) (s : State) : Res :=
  let k := s.core c
  .next <| match k.group with
  | some g => if g.requestSent = false ∧ ((s.intr c).isSome ∨ k.swapReq) then s.cgAbort c 0x05 0 0 else s
  | none => s

/-- STAGING_GRANT (R163 step 3): the core has its reservation and sends its commit request, with its undurable entries for
other streams. -/
def execStagingGrant (c : Nat) (s : State) : Res :=
  let k := s.core c
  .next <| match k.group with
  | none => s
  | some g =>
    let mine := (tget [] s.jrnRes g.stream).any fun r => r.core == c && r.granted && !r.used
    if g.phase = .staging ∧ mine ∧ k.cgReq.isNone ∧ k.cgReply.isNone ∧ k.voidOut = false then
      let deps := ((s.undurable c).filter fun d => d.1 ≠ g.stream).take 4
      let q : CommitReq := { core := c, stream := g.stream, len := 64 + 72 * g.writes.length, deps := deps }
      let g' : Group := { g with phase := .requested, deps := deps }
      let s1 := s.setCore c { k with group := some g', cgReq := some q }
      { s1 with jrnRes := tset [] s1.jrnRes g.stream ((tget [] s1.jrnRes g.stream).map fun r =>
          if r.core = c then { r with used := true } else r) }
    else s

/-- JOURNAL_FULL (R158, R163 step 2): the reservation has stayed unsatisfied for 10 µs; the group aborts and the core cancels
it. -/
def execJournalFull (c : Nat) (s : State) : Res :=
  .next <| match (s.core c).group with
  | some g => if g.phase = .staging then s.cgAbort c 0x0A 0 0 else s
  | none => s

/-- COMMIT_REPLY (R163 step 4, R185): the reply reaches the L2, which makes the write set visible and defers snoops to it; a
group that has aborted since leaves a void record. The tile raises its copy of A to the number. -/
def execCommitReply (c : Nat) (s : State) : Res :=
  let k := s.core c
  .next <| match k.cgReply with
  | none => s
  | some (n, g, lost) =>
    let i := coreTile c * 64 + n
    let p := tget {} s.pubs i
    let s1 : State := { s with pubs := tset {} s.pubs i { p with a := Nat.max p.a g } }
    let s2 := s1.setCore c { k with cgReply := none, voidOut := false }
    if k.voidOut then (if lost then s2 else s2.voidRec n g)
    else match k.group with
      | some gr =>
        if gr.phase = .requested then
          let gr' : Group := { gr with phase := .flipping g lost }
          ((s2.onCore c fun k => { k with group := some gr' }).pairLog c 8 (BitVec.ofNat 64 g)).trace c 0x07 0 g
        else s2
      | none => s2

/-- FLIP_WINDOW_END (R123, R163): the window of 5 + ceil(N/14) mesh cycles ends, the group closes and CG.END goes to step 6. -/
def execFlipWindowEnd (c : Nat) (s : State) : Res :=
  .next <| match (s.core c).group with
  | some g => (match g.phase with
    | .flipping _ _ => (s.finishFlip c).cgTryRetire c
    | _ => s)
  | none => s

/-! ### Dependency entries (R169, R173, R175) -/

/-- LOST_CLEAR (R173): every LOST entry of the core empties and LOST reads 0. -/
def State.lostClear (s : State) (c : Nat) : State :=
  (s.onCore c fun k => { k with deps := k.deps.filter fun e => !e.2.lost }).setFld CG_STATUS.LOST c 0

/-- A value that a CSR instruction writes over an old one: op 0 CSRRW, 1 CSRRS, 2 CSRRC. -/
def csrNew (op : Nat) (old src : W) : W :=
  if op = 0 then src else if op = 1 then old ||| src else old &&& ~~~src

/-- The source of a CSR instruction, register or immediate, and whether it writes at all. -/
def Core.csrSrc (k : Core) (rs1 : Nat) (imm : Bool) : W :=
  if imm then BitVec.ofNat 64 (rs1 % 32) else k.getX rs1
def csrWrites (op rs1 : Nat) : Bool := op == 0 || rs1 != 0

/-- Retire a CSR instruction with the old value in rd. -/
def State.csrDone (s : State) (c rd len : Nat) (old : W) : State :=
  (s.onCore c fun k => k.setX rd old).retire c len [old] none

/-- A CSR instruction on CG_STATUS that writes LOST 1 (R173, R175). -/
def State.lostClearInsn (s : State) (c op rd rs1 : Nat) (imm : Bool) (len : Nat) : State :=
  let old := s.regRead .CG_STATUS c none
  let new := csrNew op old ((s.core c).csrSrc rs1 imm)
  let s0 := s.pairLog c 2 old
  (if csrWrites op rs1 && bit new 61 then s0.lostClear c else s0).csrDone c rd len old

/-- LOST_CLEAR (R173, R175): a CSR instruction writes CG_STATUS. -/
def execLostClear (c op rd rs1 : Nat) (imm : Bool) (len : Nat) (s : State) : Res :=
  .next <| s.issue c none fun s => s.lostClearInsn c op rd rs1 imm len

/-- A CSR instruction on CG_DEPSEQ (R175): a write that can have an effect waits for the Spine's A; a write of 0, from U or VU,
for a stream of another partition, or over a LOST entry has none. -/
def State.depseqInsn (s : State) (c op rd rs1 : Nat) (imm : Bool) (len : Nat) : State :=
  let k := s.core c
  let n := s.fld CG_DEPSEL.STREAM c
  let old := s.regRead .CG_DEPSEQ c none
  let new := csrNew op old (k.csrSrc rs1 imm)
  let s0 := s.pairLog c 2 old
  if csrWrites op rs1 && new != 0 && k.mode != .u && s.streamMine c n && !(tget {} k.deps n).lost then
    s0.onCore c fun k => { k with depseqReq := some (n, new.toNat, rd, len) }
  else s0.csrDone c rd len old

/-- CG_DEPSEQ_WRITE (R175). -/
def execCgDepseqWrite (c op rd rs1 : Nat) (imm : Bool) (len : Nat) (s : State) : Res :=
  .next <| s.issue c none fun s => s.depseqInsn c op rd rs1 imm len

/-- CG_DEPSEQ_ANSWER (R175): the Spine's A arrives, the entry takes the larger of its value and the written value limited to
A, and the write completes. An entry that the tile knows durable empties at once. -/
def execCgDepseqAnswer (c : Nat) (s : State) : Res :=
  let k := s.core c
  .next <| match k.depseqReq with
  | none => s
  | some (n, v, rd, len) =>
    let d := tget {} k.deps n
    let seq := Nat.max d.seq (Nat.min v (s.fld SPN_STREAM_ASSIGNED.A n))
    let d' : Dep := if d.lost then d else if seq ≤ (s.pub (coreTile c) n).w then {} else { d with seq := seq }
    let old := BitVec.ofNat 64 d.seq
    let s1 := s.setCore c { k with depseqReq := none, deps := tset {} k.deps n d' }
    s1.csrDone c rd len old

/-! ### Publications at a destination (R125, R127, R169, R173, R185, R189) -/

/-- Clear the durability tags of a core's L2 lines and buffered writebacks that are durable as its tile knows (R125). -/
def State.clearTags (s : State) (c : Nat) : State :=
  let t := coreTile c
  let f := fun (d : LineData) => match d.tag with
    | some g => if g.seq ≤ (s.pub t g.stream).w then { d with tag := none } else d
    | none => d
  s.onCore c fun k =>
    { k with l2 := k.l2.map (fun e => (e.1, e.2.map fun x => { x with d := f x.d })),
             wb := k.wb.map (fun e => (e.1, e.2.map fun x => { x with d := f x.d })) }

/-- A core's dependency entries after a publication: those the watermark has reached empty, and those above the loss point of
a fenced stream become LOST, which raises the tile's source and ends an open group (R169, R173). -/
def State.depsAfter (s : State) (c : Nat) (e : PubEnt) : State :=
  let k := s.core c
  let d := tget {} k.deps e.stream
  let p := s.pub (coreTile c) e.stream
  if d.seq ≠ 0 ∧ d.lost = false ∧ d.seq ≤ p.w then s.setCore c { k with deps := tset {} k.deps e.stream {} }
  else if d.seq ≠ 0 ∧ d.lost = false ∧ p.fenced then
    let d' : Dep := { d with lost := true }
    (((s.setCore c { k with deps := tset {} k.deps e.stream d' }).setFld CG_STATUS.LOST c 1).raise
      (16 * coreTile c + 5 + coreSlot c)).cgAbort c 0x0F 0 0
  else s

/-- A group on a fenced stream whose commit request has not left the core ends with STREAM_FENCED (R158). -/
def State.fencedGroup (s : State) (c : Nat) : State :=
  match (s.core c).group with
  | some g => if (s.pub (coreTile c) g.stream).fenced ∧ g.requestSent = false then s.cgAbort c 0x0B 0 0 else s
  | none => s

/-- A home's dependency victim buffer after a publication: an entry whose tag has become durable goes to DRAM, and one above
a fenced stream's loss point goes there with poison (R127, R189). -/
def State.depvbDrain (s : State) (t : Nat) : State :=
  s.depvb.foldl (fun s e =>
    if homeOf e.1 ≠ t then s
    else match e.2 with
      | none => s
      | some l =>
        let out := fun (poison : Bool) (s : State) =>
          { s.dramWrite e.1 l.data poison with depvb := tset none s.depvb e.1 none }
        match s.expandTag t l.tag with
        | none => out l.poison s
        | some g => if (s.pub t g.stream).fenced then out true s else s) s

/-- The cache-block flushes of a home that wait for durability try again (R107). -/
def State.retryCbo (s : State) (t : Nat) : State :=
  s.trk.foldl (fun s e =>
    match e.2 with
    | some k => (match k.phase, k.rq with
      | .needWrite, some rq => if homeOf e.1 = t then s.finishCbo rq e.1 k else s
      | _, _ => s)
    | none => s) s

/-- A destination takes one entry of a flit (R185): its copies, the tags, the dependency entries and the victim buffer that they decide. -/
def State.takePub (s : State) (dest : Nat) (e : PubEnt) : State :=
  let p := s.pub dest e.stream
  let p' : Pub := if e.opened then { w := e.w, a := e.a, fenced := e.fenced }
    else { w := Nat.max p.w e.w, a := Nat.max p.a e.a, fenced := e.fenced }
  let s1 : State := { s with pubs := tset {} s.pubs (dest * 64 + e.stream) p' }
  if 24 ≤ dest then s1
  else
    let s2 := (tileCores dest).foldl (fun s c => (s.clearTags c).depsAfter c e) s1
    (s2.depvbDrain dest).retryCbo dest

/-- WATERMARK_PUBLICATION (R185): a destination takes its next flit. The entries of a flit reach a core together, so DEPENDENCY_LOST by one of
them stands before STREAM_FENCED by another (R159); then the waiting CG.ENDs see what was published. -/
def execWatermarkPublication (dest : Nat) (s : State) : Res :=
  .next <| match tget [] s.pubFlits dest with
  | [] => s
  | es :: rest =>
    let s1 := es.foldl (fun s e => s.takePub dest e) { s with pubFlits := tset [] s.pubFlits dest rest }
    if 24 ≤ dest then s1 else (tileCores dest).foldl (fun s c => (s.fencedGroup c).cgTryRetire c) s1

end Sys2Proof.Machine
end

