-- ==== Sys2Proof/Machine/Pairs.lean ====
section
/-! DEFINITION. Checked execution pairs (chapter 09): parking, binding and unbinding, interval ends and the comparison of the
Tongs, mismatches, votes and their outcomes. Pair `i` is pair `i % 2` of tile `i / 2`. -/

namespace Sys2Proof.Machine

open Sys2Proof

def State.pair (s : State) (i : Nat) : Pair := tget {} s.pairs i
def State.setPair (s : State) (i : Nat) (p : Pair) : State := { s with pairs := tset {} s.pairs i p }

/-- The leader's and the trailer's core of a pair. -/
def State.leaderOf (s : State) (i : Nat) : Nat := i / 2 * 5 + (s.pair i).leader
def State.trailerOf (s : State) (i : Nat) : Nat := i / 2 * 5 + (s.pair i).trailer

/-- Set a field of both cores' pair CSRs. -/
def State.pairFld (s : State) (i : Nat) (F : Fld) (v : Nat) : State :=
  (s.setFld F (s.leaderOf i) v).setFld F (s.trailerOf i) v

/-! ### Moving a hart's state between slots (R199, R213, R487) -/

/-- The CSRs of a core that live in the register table, other than the pair CSRs. -/
def moveRegs : List RegId := [.CG_STATUS, .CG_ABORT_PC, .CG_LASTSEQ, .CG_DEPSEL, .CG_CFG, .WCTL, .WSTATUS]
def pairRegs : List RegId := [.PAIR_CTL, .PAIR_STATUS, .PAIR_RESUME, .PAIR_COUNT, .PAIR_FAILPC, .PAIR_CFG]

/-- Copy registers, the CSRs of the register table and the counters of one core to another. -/
def State.copyRegs (s : State) (rs : List RegId) (a b : Nat) : State :=
  let s1 := rs.foldl (fun s r => s.wr r b (s.rd r a)) s
  let s2 := (List.range 8).foldl (fun s n => s.wr .CG_BIND (b * 8 + n) (s.rd .CG_BIND (a * 8 + n))) s1
  { s2 with cnt := (List.range 9).foldl (fun t n => tset 0 t (coreCntKey b n) (tget 0 t (coreCntKey a n))) s2.cnt }

/-- A slot has lost its role (R116, R213, R488): its core is held, and its L2 writes everything back; it keeps answering snoops until it has.
OLD_SLOT_GATED gates it then. -/
def State.leaveSlot (s : State) (a : Nat) : State :=
  let s1 := s.onCore a fun k => { k with
    sb := [], deps := [], cgWait := none, depseqReq := none, resv := none, group := none, ras := [], loadq := [], run := .held,
    idle := .running, flushing := true, haltReq := false, step := false, stopNext := none, swapReq := false, swapStop := false }
  ((s1.core a).l2.map (·.1)).foldl (fun s l => s.evictL2 a l) s1

/-- A hart moves to another slot of its tile (R23, R24, R213, R487): its registers, every CSR, its counters and its dependency
entries, in one write of TILE_CORE_MAP; the old slot becomes `st` and writes back.
A wait of CG.END, the stores that the Tongs hold and the reservation's loss go with the hart. -/
def State.moveHart (s : State) (a b st : Nat) : State :=
  let ka := s.core a
  let kb := s.core b
  let h := s.coreHart a
  let kb' : Core := { ka.copyArch kb with
                      deps := ka.deps, cgWait := ka.cgWait, depseqReq := ka.depseqReq, sb := ka.sb,
                      seg := ka.seg, run := ka.run, idle := ka.idle, resv := none, group := none, ras := [],
                      haltReq := ka.haltReq, step := ka.step, stopNext := ka.stopNext, swapReq := false }
  let s1 := (s.setCore b kb').leaveSlot a
  let s2 := s1.copyRegs (moveRegs ++ pairRegs) a b
  (s2.setSlot a st 0x7F).setSlot b 0 h

/-! ### PAIR_CTL (R199 to R201, R220) -/

/-- The error of a BIND, 0 when every condition of R199 holds: 3 partner not ENABLED or the own slot, 1 not in PAIRWAIT, 2 in
another partition, 4 the tile holds 2 pairs. -/
def State.bindErr (s : State) (c p : Nat) : Nat :=
  let t := coreTile c
  let d := t * 5 + p
  if p = coreSlot c ∨ 5 ≤ p ∨ s.slotState d ≠ 0 then 3
  else if s.fld PAIR_STATUS.STATE d ≠ 1 then 1
  else if (s.core d).part ≠ (s.core c).part then 2
  else if (s.pair (2 * t)).bound ∧ (s.pair (2 * t + 1)).bound then 4
  else 0

/-- Bind a core as leader with a slot of its tile as trailer (R199 steps 3 to 5): BIND_ERR, or the trailer's translation
structures empty, the leader's state copied, both counts 0 and the first interval open. -/
def State.bind (s : State) (c p : Nat) : State :=
  let e := s.bindErr c p
  let s := s.setFld PAIR_STATUS.BIND_ERR c e
  if e ≠ 0 then s
  else
    let t := coreTile c
    let d := t * 5 + p
    let i := if (s.pair (2 * t)).bound then 2 * t + 1 else 2 * t
    let kd : Core := { ((s.core c).copyArch (s.core d)).emptyTlbs with ras := [], resv := none, run := .running }
    let s1 := (s.setCore d kd).copyRegs moveRegs c d
    let s2 := s1.setPair i { bound := true, leader := coreSlot c, trailer := p, cur := { id := (s.pair i).cur.id } }
    let s3 := (((s2.pairFld i PAIR_STATUS.STATE 2).pairFld i PAIR_COUNT.VOTES 0).pairFld i PAIR_COUNT.MISMATCHES 0).pairFld i
      PAIR_FAILPC.PC 0
    s3.openIval i

/-- A core in PAIRWAIT, or a released trailer, resumes at its PAIR_RESUME in M-mode with mstatus.MIE 0 (R200, R201). -/
def State.resumeTrailer (s : State) (d : Nat) : State :=
  let pc := s.rd .PAIR_RESUME d &&& ~~~(3 : W)
  (s.onCore d fun k => { (k.setCsr 0x300 (putField (k.getCsr 0x300) 3 3 0)) with
    pc := pc, mode := .m, virt := false, secure := true, run := .running, idle := .running, resv := none }).setFld PAIR_STATUS.STATE d 0

/-- Dissolve a bound pair (R200): the cores are no longer tied and both states are UNBOUND. -/
def State.dissolve (s : State) (i : Nat) : State :=
  let l := s.leaderOf i
  let d := s.trailerOf i
  let s1 := (s.setFld PAIR_STATUS.STATE l 0).setFld PAIR_STATUS.STATE d 0
  let free := fun (s : State) => s.onCore l fun k => { k with sb := k.sb.map fun e => { e with ival := none } }
  (free s1).setPair i { cur := { id := (s.pair i).cur.id } }

/-- UNBIND by the pair, after its interval has been compared (R201): the leader goes on alone, the trailer resumes at its
PAIR_RESUME with the pair's other registers. -/
def State.unbind (s : State) (i : Nat) : State :=
  let l := s.leaderOf i
  let d := s.trailerOf i
  let s1 := s.dissolve i
  let s2 := (s1.setCore d ((s1.core l).copyArch (s1.core d))).copyRegs moveRegs l d
  s2.resumeTrailer d

/-- A CSR instruction on PAIR_CTL in M-mode (R199, R200, R220): on a pair it is performed once, after the comparison; ROLE and
PARTNER are written unless STATE is BOUND or above, and the command acts where R200 allows it. -/
def State.pairCtlInsn (s : State) (c op rd rs1 : Nat) (imm : Bool) (len : Nat) : State :=
  if s.allCompared c = false then s.closeIval c
  else
    let old := s.regRead .PAIR_CTL c none
    let new := csrNew op old ((s.core c).csrSrc rs1 imm)
    let st := s.fld PAIR_STATUS.STATE c
    let s0 := s.pairLog c 2 old
    if csrWrites op rs1 = false then s0.csrDone c rd len old
    else
      let s1 := ((s0.regWrite .PAIR_CTL c new).csrDone c rd len old).rebase c
      let cmd := field new 1 0
      let p := s1.fld PAIR_CTL.PARTNER c
      if cmd = 3 ∧ st = 0 ∧ s1.fld PAIR_CTL.ROLE c = 2 ∧ p ≤ 4 then
        (s1.setFld PAIR_STATUS.STATE c 1).onCore c fun k => { k with run := if k.run = .running then .pairWait else k.run }
      else if cmd = 1 ∧ st = 0 ∧ s1.fld PAIR_CTL.ROLE c = 1 then s1.bind c p
      else if cmd = 2 ∧ st = 2 then
        (match s1.ledPair c with | some i => s1.unbind i | none => s1)
      else s1

/-- A CSR instruction on a machine CSR of the pair: the mode check of R55, then the instruction when its command is `cmd`. -/
def State.pairCmd (s : State) (cmd c op rd rs1 : Nat) (imm : Bool) (len : Nat) (insn : W) : State :=
  s.issue c none fun s =>
    if (s.core c).mode ≠ .m then s.illegal c false insn
    else if field (csrNew op (s.regRead .PAIR_CTL c none) ((s.core c).csrSrc rs1 imm)) 1 0 ≠ cmd then s
    else s.pairCtlInsn c op rd rs1 imm len

/-- PARK (R199 step 1): the trailer's core writes PAIR_CTL with CMD PARK and enters PAIRWAIT. -/
def execPark (c op rd rs1 : Nat) (imm : Bool) (len : Nat) (insn : W) (s : State) : Res :=
  .next (s.pairCmd 3 c op rd rs1 imm len insn)

/-- BIND (R199 steps 2 to 5). -/
def execBind (c op rd rs1 : Nat) (imm : Bool) (len : Nat) (insn : W) (s : State) : Res :=
  .next (s.pairCmd 1 c op rd rs1 imm len insn)

/-- UNBIND (R201). -/
def execUnbind (c op rd rs1 : Nat) (imm : Bool) (len : Nat) (insn : W) (s : State) : Res :=
  .next (s.pairCmd 2 c op rd rs1 imm len insn)

/-- PAIR.SYNC (R205, R53): on a pair the interval closes and the instruction retires once the comparison has passed;
elsewhere it is a no-op. -/
def execPairSync (c len : Nat) (insn : W) (s : State) : Res :=
  .next <| s.issue c none fun s =>
    if custom0Bad insn false false then s.illegal c false insn
    else if s.allCompared c then ((s.retire c len [] none).closeIval c) else s.closeIval c

/-- INTERVAL_END (R205, R206): the open interval of a pair ends at a closing event and a new one opens. -/
def execIntervalEnd (i : Nat) (s : State) : Res :=
  let p := s.pair i
  .next <| if p.bound ∧ p.vote.isNone ∧ p.voteWaits = false ∧ p.awaiting.length ≤ 2 ∧
      ((p.cur.count == 0 && p.cur.stores.isEmpty) = false) then s.endIval i else s

/-! ### Comparison and mismatch (R208 to R211) -/

/-- The held stores of an interval become eligible to leave the leader's store buffer, and its log entries free (R209). -/
def State.release (s : State) (i id : Nat) : State :=
  let p := s.pair i
  let s1 := s.setPair i { p with awaiting := p.awaiting.filter (fun v => v.id ≠ id), race := false,
                                 log := p.log.filter fun e => e.ival ≠ id }
  s1.onCore (s.leaderOf i) fun k => { k with sb := k.sb.map fun e => if e.ival = some id then { e with ival := none } else e }

/-- Discard every held store of an interval and of later ones, with their log entries, and the leader's reservation (R210). -/
def State.discard (s : State) (i : Nat) : State :=
  let p := s.pair i
  let s1 := s.setPair i { p with awaiting := [], log := [], race := false }
  s1.onCore (s.leaderOf i) fun k => { k with sb := k.sb.filter fun e => e.ival.isNone, resv := none }

/-- Restore a pair to a checkpoint and open the interval that runs from it again (R210). -/
def State.rollback (s : State) (i : Nat) (ck : Ckpt) : State :=
  let l := s.leaderOf i
  let s1 := (s.ivalRestore l ck).onCore l fun k => { k with cgWait := none, depseqReq := none }
  s1.openIval i

/-- A record of the Tongs (R215). -/
def State.tongsRecord (s : State) (i slot cls code : Nat) (pc : W) : State :=
  s.logErr (tileNode (i / 2)) slot cls code pc.toNat

/-- Stop a pair on an interval (R214): both cores halt at the interval's checkpoint, which debug can read, and the pair-stopped source of the
tile is raised. -/
def State.stopPair (s : State) (i outcome code : Nat) (iv : Ival) : State :=
  let stop := fun (s : State) (c : Nat) => (s.ivalRestore c iv.ck).onCore c fun k => { k with run := .stopped }
  let s1 := stop (stop s (s.leaderOf i)) (s.trailerOf i)
  let s2 := ((s1.pairFld i PAIR_STATUS.STATE 4).pairFld i PAIR_STATUS.LAST_VOTE outcome)
  let s3 := s2.setPair i { s2.pair i with vote := none, voteWaits := false, awaiting := [] }
  (s3.tongsRecord i (s.pair i).leader 2 code iv.startPc).raise (16 * (i / 2) + 10 + i % 2)

/-- The SPARE slot of a tile, if it has one. -/
def State.spareOf (s : State) (t : Nat) : Option Nat := (List.range 5).find? fun n => s.slotState (5 * t + n) == 1

/-- Request a vote on a failed interval (R212): the tile's SPARE slot becomes VOTING; a slot that the tile's other pair has
in a vote is waited for; without one the pair stops with NO_SPARE. -/
def State.requestVote (s : State) (i : Nat) (iv : Ival) : State :=
  let t := i / 2
  let v : Vote := { ival := iv }
  match s.spareOf t with
  | some n =>
    let s1 := s.setSlot (5 * t + n) 3 0x7F
    let s2 := (s1.pairFld i PAIR_STATUS.STATE 3)
    let s3 := (s2.incSat PAIR_COUNT.VOTES (s.leaderOf i)).incSat PAIR_COUNT.VOTES (s.trailerOf i)
    s3.setPair i { s3.pair i with vote := some { v with spare := n }, voteWaits := false }
  | none =>
    if (List.range 5).any fun n => s.slotState (5 * t + n) == 3 then
      (s.pairFld i PAIR_STATUS.STATE 3).setPair i { s.pair i with vote := some v, voteWaits := true }
    else s.stopPair i 6 0x305 iv

/-- An interval fails (R210, R211, R215, R174): the counts, the record and the source; its stores are discarded; a repeated
mismatch requests a vote, an open group ends with PAIR_MISMATCH, and otherwise the pair runs again from the interval's
checkpoint. A walk race rolls back and is never repeated. -/
def State.mismatch (s : State) (i : Nat) (iv : Ival) (race : Bool) : State :=
  let l := s.leaderOf i
  let s1 := (s.incSat PAIR_COUNT.MISMATCHES l).incSat PAIR_COUNT.MISMATCHES (s.trailerOf i)
  let s2 := ((s1.count (cuTile (i / 2)) 0x0D (some (s.core l).part) 1).tongsRecord i (s.pair i).leader 0 0x300 iv.startPc).raise
    (16 * (i / 2) + 14)
  let s3 := ((s2.trace l 0x09 0 0).discard i)
  let failPc := s.rd .PAIR_FAILPC l
  if !race && failPc != 0 && failPc == iv.startPc then s3.requestVote i iv
  else
    let s4 := if race then s3 else s3.pairFld i PAIR_FAILPC.PC iv.startPc.toNat
    match (s4.core l).group with
    | some _ => s4.cgAbort l 0x0D 0 0
    | none => s4.rollback i iv.ck

/-- INTERVAL_COMPARISON (R208, R209): the Tongs compare the oldest interval that awaits comparison with the trailer's
signature and store stream; `race` is a WALK_RACE that the trailer found, besides one that its walks here have found (R202). -/
def execIntervalComparison (i : Nat) (sig : W) (stores : List StoreEnt) (race : Bool) (s : State) : Res :=
  let p := s.pair i
  .next <| if p.bound = false ∨ p.vote.isSome then s
  else match p.awaiting with
  | [] => s
  | iv :: _ =>
    let race := race || p.race
    if !race && iv.sig == sig && iv.stores == stores then
      let s1 := (s.release i iv.id).coreCount (s.leaderOf i) 0x11
      if s.rd .PAIR_FAILPC (s.leaderOf i) = iv.startPc then s1.pairFld i PAIR_FAILPC.PC 0 else s1
    else s.mismatch i iv race

/-! ### The vote (R212, R213) -/

/-- VOTE_SPARE_POWERED (R212 steps 1 and 2): the spare is powered, its caches empty (R116), its section open, and the failed interval's
checkpoint is in all three cores, which run it again. -/
def execVoteSparePowered (i : Nat) (s : State) : Res :=
  let p := s.pair i
  .next <| match p.vote with
  | some v =>
    let l := s.leaderOf i
    let sp := i / 2 * 5 + v.spare
    if v.powered ∨ p.voteWaits ∨ (s.core sp).flushing then s
    else
      let s0 := (s.setCore sp { (s.core l).copyArch (s.core sp) with run := .pairWait }).lidOpen (tileNode (i / 2)) v.spare
      let s1 := (s0.ivalRestore l v.ival.ck).ivalRestore sp v.ival.ck
      let s2 := s1.setPair i { p with vote := some { v with powered := true } }
      s2.openIval i
  | none => s

/-- A vote retires a slot: Macen adds it to the repair log (R213, R481). -/
def State.voteRetires (s : State) (i n : Nat) : State := s.logRepair 2 (i / 2 * 2 ^ 23 + n * 2 ^ 20)

/-- The spare goes back to SPARE, or is retired, and powers down; a vote of the tile's other pair that waited for it begins (R212). -/
def State.spareBack (s : State) (i n st : Nat) : State :=
  let c := i / 2 * 5 + n
  let s0 := (s.setSlot c st 0x7F).leaveSlot c
  let s1 := if st = 2 then s0.voteRetires i n else s0
  let j := i / 2 * 2 + (1 - i % 2)
  if (s1.pair j).voteWaits then
    match (s1.pair j).vote with
    | some v => (s1.setPair j { s1.pair j with vote := none, voteWaits := false }).requestVote j v.ival
    | none => s1
  else s1

/-- A waiting vote of the other pair goes on when the spare has taken a role or is gone (R212). -/
def State.wakeVote (s : State) (i : Nat) : State :=
  let j := i / 2 * 2 + (1 - i % 2)
  match (s.pair j).vote with
  | some v => if (s.pair j).voteWaits then
      (s.setPair j { s.pair j with vote := none, voteWaits := false }).requestVote j v.ival else s
  | none => s

/-- The store-buffer entries of a majority's store stream, in the attributes of a core. -/
def voteStores (k : Core) (es : List StoreEnt) : List SbEnt :=
  es.map fun e =>
    let off := ((List.range 64).find? fun n => e.mask.testBit n).getD 0
    let size := ((List.range 64).filter fun n => e.mask.testBit n).length
    { pa := e.pa + off, size := if size = 64 then 64 else size, data := e.data,
      kind := if e.mask % 2 ^ 64 = 2 ^ 64 - 1 then .cboZero else if e.nc then .nc else .normal,
      secure := k.secure, part := k.part, seg := k.seg }

/-- The pair goes on after a vote (R213): outside a group the stores of the voted interval are released and the pair resumes
after it; inside one they are never released, the group ends with PAIR_MISMATCH and the pair resumes at its fallback (R174), whichever core
was outvoted. -/
def State.voteGoesOn (s : State) (i outcome : Nat) (iv : Ival) : State :=
  let l := s.leaderOf i
  let s1 := (s.pairFld i PAIR_STATUS.STATE 2).pairFld i PAIR_STATUS.LAST_VOTE outcome
  let s2 := s1.setPair i { s1.pair i with vote := none, voteWaits := false }
  let s3 := s2.pairFld i PAIR_FAILPC.PC 0
  match (s3.core l).group with
  | some _ => (s3.discard i).cgAbort l 0x0D 0 0
  | none => (s3.release i iv.id).coreCount l 0x11

/-- VOTE_RESULT (R213): the Tongs compare the leader's run of the interval with those of the trailer and of the spare; `fin`
is the state that the majority reached where the leader was outvoted. -/
def execVoteResult (i : Nat) (tSig : W) (tStores : List StoreEnt) (sSig : W) (sStores : List StoreEnt) (fin : Ckpt)
    (s : State) : Res :=
  let p := s.pair i
  .next <| match p.vote, p.awaiting with
  | some v, iv :: _ =>
    if v.powered = false then s
    else
      let lt := iv.sig == tSig && iv.stores == tStores
      let ls := iv.sig == sSig && iv.stores == sStores
      let ts := tSig == sSig && tStores == sStores
      let l := s.leaderOf i
      let t := s.trailerOf i
      let sp := i / 2 * 5 + v.spare
      let pc := v.ival.startPc
      if lt && ls then
        ((s.voteGoesOn i 1 iv).tongsRecord i p.leader 0 0x301 pc).spareBack i v.spare 1
      else if ls then
        let s1 := s.voteGoesOn i 3 iv
        let k : Core := { (s1.core l).copyArch (s1.core sp) with run := .running }
        let s2 := ((s1.setCore sp k).copyRegs moveRegs l sp).copyRegs pairRegs t sp
        let s3 := ((s2.setSlot sp 0 (s.coreHart t)).setSlot t 2 0x7F).leaveSlot t
        let s4 := s3.setPair i { s3.pair i with trailer := v.spare }
        ((s4.voteRetires i p.trailer).tongsRecord i p.trailer 0 0x302 pc).wakeVote i
      else if ts then
        let s0 := if (s.core l).group.isSome then s else s.onCore l fun k => { k.restore fin with
          pc := fin.pc
          sb := (k.sb.filter fun e => e.ival ≠ some iv.id) ++ (voteStores k tStores).map fun e => { e with ival := some iv.id } }
        let s1 := (s0.voteGoesOn i 2 iv).moveHart l sp 2
        let s2 := (s1.setPair i { s1.pair i with leader := v.spare }).openIval i
        ((s2.voteRetires i p.leader).tongsRecord i p.leader 0 0x302 pc).wakeVote i
      else if lt then
        ((s.voteGoesOn i 4 iv).tongsRecord i v.spare 0 0x303 pc).spareBack i v.spare 2
      else (s.stopPair i 5 0x304 v.ival).spareBack i v.spare 1
  | _, _ => s

/-- VOTE_LIMIT (R212, R213): the vote has not ended within VOTE_LIMIT_US; the pair stops and the spare returns. -/
def execVoteLimit (i : Nat) (s : State) : Res :=
  let p := s.pair i
  .next <| match p.vote with
  | some v =>
    let s1 := s.stopPair i 7 0x306 v.ival
    if p.voteWaits then s1 else s1.spareBack i v.spare 1
  | none => s

end Sys2Proof.Machine
end

