-- ==== Sys2Proof/Machine/Csr.lean ====
section
/-! DEFINITION. The CSRs: which exist, who may reach them (R55, R520, the privileged architecture), what a read returns and
what a write leaves, with the choices of R31 to R33, R54, R56, R57 and R517. -/

namespace Sys2Proof.Machine

open Sys2Proof

/-! ### Which CSRs exist -/

/-- The standard CSRs of the core's extensions (R30, R33). -/
def stdCsr (a : Nat) : Bool :=
  [0x001, 0x002, 0x003, 0x008, 0x009, 0x00A, 0x00F, 0xC20, 0xC21, 0xC22,
   0x100, 0x104, 0x105, 0x106, 0x10A, 0x140, 0x141, 0x142, 0x143, 0x144, 0x14D, 0x180,
   0x200, 0x204, 0x205, 0x240, 0x241, 0x242, 0x243, 0x244, 0x24D, 0x280,
   0x300, 0x301, 0x302, 0x303, 0x304, 0x305, 0x306, 0x30A, 0x320, 0x340, 0x341, 0x342, 0x343, 0x344, 0x34A, 0x34B,
   0x3A0, 0x3A2,
   0x600, 0x602, 0x603, 0x604, 0x605, 0x606, 0x607, 0x60A, 0x643, 0x644, 0x645, 0x64A, 0x680, 0xE12,
   0xF11, 0xF12, 0xF13, 0xF14, 0xF15].contains a ||
  decide (0xC00 ≤ a ∧ a ≤ 0xC1F) || decide (0xB02 ≤ a ∧ a ≤ 0xB1F) || a == 0xB00 ||
  decide (0x323 ≤ a ∧ a ≤ 0x33F) || decide (0x3B0 ≤ a ∧ a ≤ 0x3BF)

/-- The custom ranges of R54. -/
def customCsr (a : Nat) : Bool :=
  decide (0x7C0 ≤ a ∧ a ≤ 0x7DF) || decide (0x5C0 ≤ a ∧ a ≤ 0x5CF) || decide (0x800 ≤ a ∧ a ≤ 0x80F)

/-- Whether a CSR address is read-only: bits [11:10] are 11, or a custom CSR whose section is RO (R55). -/
def csrRo (a : Nat) : Bool :=
  a / 1024 == 3 || [0x801, 0x805, 0x806, 0x807, 0x7C1, 0x7D1, 0x7D3, 0x7D4].contains a

/-- The supervisor CSRs that VS-mode reaches as its own. -/
def vsAlias (a : Nat) : Bool := [0x100, 0x104, 0x105, 0x140, 0x141, 0x142, 0x143, 0x144, 0x14D, 0x180].contains a

/-- The CSR that an address names in a core's present mode. -/
def Core.csrAddr (k : Core) (a : Nat) : Nat := if k.virt && vsAlias a then a + 0x100 else a

/-- The refusal of a counter read: 0 none, 1 illegal instruction, 2 virtual instruction (R520). -/
def State.cntRefusal (s : State) (c n : Nat) : Nat :=
  let k := s.core c
  let men := bit (k.getCsr 0x306) n
  let hen := bit (k.getCsr 0x606) n
  let sen := bit (k.getCsr 0x106) n
  if k.mode = .m then 0
  else if men = false then 1
  else if k.virt ∧ (hen = false ∨ (k.mode = .u ∧ sen = false)) then 2
  else if k.mode = .u ∧ sen = false then 1
  else if k.mode = .u ∧ n ≠ 1 ∧ n ≤ 8 ∧ s.fld LDL_PART_CFG.UEN k.part = 0 then 1
  else 0


/-- The refusal of a CSR access: 0 none, 1 illegal instruction, 2 virtual instruction. -/
def State.csrRefusal (s : State) (c a : Nat) (write : Bool) : Nat :=
  let k := s.core c
  let lvl := (a / 256) % 4
  if customCsr a then
    if write && csrRo a then 1
    else if 0x7C0 ≤ a ∧ a ≤ 0x7DF then (if k.mode = .m then 0 else 1)
    else if 0x5C0 ≤ a ∧ a ≤ 0x5CF then
      (if k.mode = .u then 1 else if k.virt then 2 else 0)
    else 0
  else if stdCsr a = false then 1
  else if write && csrRo a then 1
  else if lvl = 3 then (if k.mode = .m then 0 else 1)
  else if lvl = 2 then
    (match k.mode with
     | .m => 0
     | .s => if k.virt then 2 else 0
     | .u => if k.virt then 2 else 1)
  else if lvl = 1 ∧ k.mode = .u then (if k.virt then 2 else 1)
  else if a = 0x180 ∧ k.mode = .s then
    (if k.virt then (if bit (k.getCsr 0x600) 20 then 2 else 0) else if bit (k.getCsr 0x300) 20 then 1 else 0)
  else if 0xC00 ≤ a ∧ a ≤ 0xC1F then s.cntRefusal c (a - 0xC00)
  else if a = 0x14D ∧ k.mode = .s then
    (if bit (k.getCsr 0x30A) 63 = false ∨ bit (k.getCsr 0x306) 1 = false then 1
     else if k.virt ∧ (bit (k.getCsr 0x60A) 63 = false ∨ bit (k.getCsr 0x606) 1 = false) then 2 else 0)
  else if a ≤ 3 then (if k.fsOff then 1 else 0)
  else if a = 8 ∨ a = 9 ∨ a = 0xA ∨ a = 0xF ∨ a = 0xC20 ∨ a = 0xC21 ∨ a = 0xC22 then (if k.vsOff then 1 else 0)
  else 0

/-! ### Reads -/

/-- mstatus as it reads: SXL and UXL are 64-bit, and SD summarises FS and VS (R33). -/
def mstatusView (v : W) : W :=
  let sd := b2n (field v 14 13 == 3 || field v 10 9 == 3)
  putField (putField (putField v 35 34 2) 33 32 2) 63 63 sd

/-- sstatus's fields of mstatus. -/
def sstatusMask : W := 0xC6722

/-- A counter's value: 0 cycle, 2 instret, 3 to 8 the event counters; the rest read 0 (R33, R517). -/
def State.coreCntVal (s : State) (c n : Nat) : W :=
  if n = 0 ∨ n = 2 ∨ (3 ≤ n ∧ n ≤ 8) then BitVec.ofNat 64 (tget 0 s.cnt (coreCntKey c n) % 2 ^ 48) else 0

/-- The time CSR: DTIME, with htimedelta added where V is 1 (R36). -/
def State.timeVal (s : State) (c : Nat) : W :=
  let k := s.core c
  if k.virt then BitVec.ofNat 64 s.dtime + k.getCsr 0x605 else BitVec.ofNat 64 s.dtime

/-- pmpaddr as it reads at 4 KiB granularity: bits [8:0] read 1 in a NAPOT entry and bits [9:0] read 0 otherwise (R33). -/
def Core.pmpaddrView (k : Core) (n : Nat) : W :=
  let v := k.getCsr (0x3B0 + n)
  if (k.pmpCfg n / 8) % 4 = 3 then v ||| 0x1FF else v &&& ~~~(0x3FF : W)

/-- The value that a read of a CSR returns; the mode's aliases are already resolved. -/
def State.csrRead (s : State) (c a : Nat) : W :=
  let k := s.core c
  let fcsr := k.getCsr 0x003
  let mie := k.getCsr 0x304
  let mideleg := k.mideleg
  let hideleg := k.getCsr 0x603
  match csrReg a with
  | some (r, n) =>
    let r' := match s.pairOf c with
      | some i => if 0x7D0 ≤ a ∧ a ≤ 0x7D5 then i / 2 * 5 + (tget {} s.pairs i).leader else c
      | none => c
    s.regRead r (csrUnit r r' n) none
  | none =>
    if customCsr a then 0
    else if a = 0x001 then fcsr &&& 0x1F
    else if a = 0x002 then (fcsr >>> 5) &&& 7
    else if a = 0x00F then (k.getCsr 0x00A <<< 1) ||| k.getCsr 0x009
    else if a = 0xC22 then 32
    else if a = 0x100 then putField ((mstatusView (k.getCsr 0x300)) &&& (sstatusMask ||| 0x8000000300000000)) 35 34 0
    else if a = 0x200 then putField ((mstatusView (k.getCsr 0x200)) &&& (sstatusMask ||| 0x8000000300000000)) 35 34 0
    else if a = 0x300 then mstatusView (k.getCsr 0x300)
    else if a = 0x600 then putField (k.getCsr 0x600) 33 32 2
    else if a = 0x301 then 0x80000000003411AF
    else if a = 0x303 then mideleg
    else if a = 0x104 then mie &&& mideleg &&& 0x222
    else if a = 0x144 then s.mip c &&& mideleg &&& 0x222
    else if a = 0x204 then (mie &&& hideleg &&& 0x444) >>> 1
    else if a = 0x244 then (s.mip c &&& hideleg &&& 0x444) >>> 1
    else if a = 0x344 then s.mip c
    else if a = 0x604 then mie &&& 0x1444
    else if a = 0x644 then s.mip c &&& 0x1444
    else if a = 0xE12 then s.hgeip c
    else if a = 0xF11 then 0x5B7
    else if a = 0xF12 then 0x8000000000000096
    else if a = 0xF13 then 0x0201
    else if a = 0xF14 then BitVec.ofNat 64 (s.coreHart c)
    else if a = 0xF15 then 0
    else if a = 0xC01 then s.timeVal c
    else if 0xC00 ≤ a ∧ a ≤ 0xC1F then s.coreCntVal c (a - 0xC00)
    else if 0xB00 ≤ a ∧ a ≤ 0xB1F then s.coreCntVal c (a - 0xB00)
    else if 0x3B0 ≤ a ∧ a ≤ 0x3BF then k.pmpaddrView (a - 0x3B0)
    else k.getCsr a

/-- Whether a read of a CSR is an input-log entry of a pair (R203). -/
def csrLogged (a : Nat) : Bool :=
  decide (0xC00 ≤ a ∧ a ≤ 0xC08) || decide (0xB00 ≤ a ∧ a ≤ 0xB08) || a == 0xF14 || a == 0x344 || a == 0x144 || a == 0x644 ||
  a == 0x244 || decide (0x800 ≤ a ∧ a ≤ 0x807) || decide (0x7D0 ≤ a ∧ a ≤ 0x7DF)

/-! ### Writes -/

/-- Whether a write changes translation, privilege, interrupt enable or world state: the serialising class of R40. -/
def csrSerial (a : Nat) : Bool :=
  [0x100, 0x104, 0x10A, 0x180, 0x200, 0x204, 0x280, 0x300, 0x302, 0x303, 0x304, 0x30A, 0x600, 0x602, 0x603, 0x604, 0x607,
   0x60A, 0x680, 0x7C0, 0x7D0].contains a || decide (0x3A0 ≤ a ∧ a ≤ 0x3BF)

/-- Merge a write through a mask. -/
def masked (old new mask : W) : W := (old &&& ~~~mask) ||| (new &&& mask)

/-- A vector base register: MODE 0 or 1, 4-byte alignment in direct mode and 64-byte alignment in vectored mode (R33). A
reserved MODE leaves the old one. -/
def tvecVal (old new : W) : W :=
  let md := if field new 1 0 ≤ 1 then field new 1 0 else field old 1 0
  if md = 1 then (new &&& ~~~(0x3F : W)) ||| 1 else new &&& ~~~(3 : W)

/-- satp and vsatp (R56, R57), and hgatp. -/
def satpVal (old new : W) : W :=
  if [0, 8, 9, 10].contains (field new 63 60) then new &&& 0xFFFFF00FFFFFFFFF else old
def hgatpVal (old new : W) : W :=
  if [0, 8, 9, 10].contains (field new 63 60) then new &&& 0xF3FFF00FFFFFFFFC else old

/-- mstatus: MPP's reserved value 2 leaves the old one. -/
def mstatusVal (old new : W) : W :=
  let v := masked old new 0xC0007E7FAA
  if field new 12 11 = 2 then putField v 12 11 (field old 12 11) else v

/-- hstatus: VGEIN holds 0 to 15 (GEILEN). -/
def hstatusVal (old new : W) : W :=
  let v := masked old new 0x73F3C0
  if 15 < field new 17 12 then putField v 17 12 (field old 17 12) else v

/-- The environment configuration registers: CBIE's reserved value 2 leaves the old one. -/
def envVal (old new mask : W) : W :=
  let v := masked old new mask
  if field new 5 4 = 2 then putField v 5 4 (field old 5 4) else v

/-- One pmpcfg byte (R33): OFF, TOR and NAPOT only, W without R reserved, a locked entry unchanged. -/
def pmpByte (old new : Nat) : Nat :=
  if old / 128 = 1 then old
  else
    let a := if (new / 8) % 4 = 2 then (old / 8) % 4 else (new / 8) % 4
    let rwx := if new % 4 = 2 then old % 8 else new % 8
    (new / 128) * 128 + a * 8 + rwx

def pmpcfgVal (old new : W) : W :=
  (List.range 8).foldl (fun (v : W) i =>
    putField v (8 * i + 7) (8 * i) (pmpByte (field old (8 * i + 7) (8 * i)) (field new (8 * i + 7) (8 * i)))) 0

/-- Whether pmpaddr `n` is locked: by its own entry, or as the base of a locked TOR entry. -/
def Core.pmpLocked (k : Core) (n : Nat) : Bool :=
  decide (k.pmpCfg n / 128 = 1) ||
  (decide (n < 15) && decide (k.pmpCfg (n + 1) / 128 = 1) && decide ((k.pmpCfg (n + 1) / 8) % 4 = 1))

/-- Set a counter's value; OVF stays (R516, R517). -/
def State.setCoreCnt (s : State) (c n : Nat) (v : W) : State :=
  if n = 0 ∨ n = 2 ∨ (3 ≤ n ∧ n ≤ 8) then
    let old := tget 0 s.cnt (coreCntKey c n)
    { s with cnt := tset 0 s.cnt (coreCntKey c n) (old / 2 ^ 48 * 2 ^ 48 + v.toNat % 2 ^ 48) }
  else s

/-- The value a plain CSR keeps of a write: its WARL fields. -/
def csrKeep (a : Nat) (old new : W) : W :=
  if a = 0x003 then new &&& 0xFF
  else if a = 0x008 then new &&& 0xFF
  else if a = 0x009 then new &&& 1
  else if a = 0x00A then new &&& 3
  else if a = 0x105 ∨ a = 0x205 ∨ a = 0x305 then tvecVal old new
  else if a = 0x106 ∨ a = 0x306 ∨ a = 0x606 then new &&& 0xFFFFFFFF
  else if a = 0x10A then envVal old new 0xF1
  else if a = 0x30A ∨ a = 0x60A then envVal old new 0xC0000000000000F1
  else if a = 0x141 ∨ a = 0x241 ∨ a = 0x341 then new &&& ~~~(1 : W)
  else if a = 0x180 ∨ a = 0x280 then satpVal old new
  else if a = 0x680 then hgatpVal old new
  else if a = 0x200 then masked old new sstatusMask
  else if a = 0x300 then mstatusVal old new
  else if a = 0x302 then new &&& 0xF0B7FF
  else if a = 0x602 then new &&& 0xB1FF
  else if a = 0x603 then new &&& 0x444
  else if a = 0x304 then new &&& 0x1EEE
  else if a = 0x320 then new &&& 0x1FD
  else if a = 0x600 then hstatusVal old new
  else if a = 0x607 then new &&& 0xFFFE
  else if a = 0x645 then new &&& 0x444
  else if a = 0x3A0 ∨ a = 0x3A2 then pmpcfgVal old new
  else if 0x323 ≤ a ∧ a ≤ 0x328 then (if field new 7 0 ≤ 0x11 then new &&& 0xFF else old)
  else if 0x329 ≤ a ∧ a ≤ 0x33F then 0
  else if 0x3B0 ≤ a ∧ a ≤ 0x3BF then new &&& 0x3FFFFFFFFFFFFF
  else new

/-- Mark floating-point or vector state dirty (R33). -/
def Core.dirty (k : Core) (hi lo : Nat) : Core :=
  let k1 := k.setCsr 0x300 (putField (k.getCsr 0x300) hi lo 3)
  if k.virt then k1.setCsr 0x200 (putField (k1.getCsr 0x200) hi lo 3) else k1

/-- Write a CSR; the mode's aliases are already resolved, and the access is allowed. -/
def State.csrPut (s : State) (c a : Nat) (new : W) : State :=
  let k := s.core c
  let mie := k.getCsr 0x304
  let mideleg := k.mideleg
  let hideleg := k.getCsr 0x603
  let put := fun (a : Nat) (v : W) => s.setCore c (k.setCsr a (csrKeep a (k.getCsr a) v))
  match csrReg a with
  | some (r, n) =>
    if a = 0x800 then s
    else if (a = 0x802 ∨ a = 0x804) ∧ k.mode = .u then s
    else s.regWrite r (csrUnit r c n) new
  | none =>
    if customCsr a then s
    else if a = 0x001 then s.setCore c ((k.setCsr 0x003 (masked (k.getCsr 0x003) new 0x1F)).dirty 14 13)
    else if a = 0x002 then s.setCore c ((k.setCsr 0x003 (masked (k.getCsr 0x003) (new <<< 5) 0xE0)).dirty 14 13)
    else if a = 0x003 then s.setCore c ((k.setCsr 0x003 (new &&& 0xFF)).dirty 14 13)
    else if a = 0x008 ∨ a = 0x009 ∨ a = 0x00A then s.setCore c ((k.setCsr a (csrKeep a 0 new)).dirty 10 9)
    else if a = 0x00F then s.setCore c (((k.setCsr 0x009 (new &&& 1)).setCsr 0x00A ((new >>> 1) &&& 3)).dirty 10 9)
    else if a = 0x100 then put 0x300 (masked (k.getCsr 0x300) new sstatusMask)
    else if a = 0x301 then s
    else if a = 0x303 then s.setCore c (k.setCsr 0x303 (new &&& 0x222))
    else if a = 0x104 then put 0x304 (masked mie new (mideleg &&& 0x222))
    else if a = 0x204 then put 0x304 (masked mie (new <<< 1) (hideleg &&& 0x444))
    else if a = 0x604 then put 0x304 (masked mie new 0x1444)
    else if a = 0x144 then s.setCore c (k.setCsr 0x344 (masked (k.getCsr 0x344) new (mideleg &&& 2)))
    else if a = 0x244 then s.setCore c (k.setCsr 0x645 (masked (k.getCsr 0x645) (new <<< 1) (hideleg &&& 4)))
    else if a = 0x344 then
      s.setCore c ((k.setCsr 0x344 (masked (k.getCsr 0x344) new 0x222)).setCsr 0x645 (masked (k.getCsr 0x645) new 4))
    else if a = 0x644 then s.setCore c (k.setCsr 0x645 (masked (k.getCsr 0x645) new 4))
    else if 0xB00 ≤ a ∧ a ≤ 0xB1F then s.setCoreCnt c (a - 0xB00) new
    else if 0x3B0 ≤ a ∧ a ≤ 0x3BF then (if k.pmpLocked (a - 0x3B0) then s else put a new)
    else put a new

end Sys2Proof.Machine
end

