-- ==== Sys2Proof/Machine/CoreSys.lean ====
section
/-! DEFINITION. The system instructions of a core: waiting for interrupts, CSR instructions, environment calls and
breakpoints, returns from traps, traps, and the resolution of a branch. -/

namespace Sys2Proof.Machine

open Sys2Proof

/-! ### WFI, PAUSE and time (R35, R36, R446) -/

/-- Whether WFI is allowed: 0 yes, 1 illegal instruction, 2 virtual instruction. TW and VTW act at once: no bounded wait is
allowed first (R35). -/
def Core.wfiRefusal (k : Core) : Nat :=
  if k.mode ≠ .m ∧ bit (k.getCsr 0x300) 21 then 1
  else if k.mode = .u then (if k.virt then 2 else 1)
  else if k.virt ∧ bit (k.getCsr 0x600) 21 then 2
  else 0

/-- Whether a core in WFI has a reason to leave it: an interrupt pending at any privilege level, or a debug halt (R35). A line that is
masked in the secure world counts, because its interrupt pends (R352, DEDUCED). -/
def State.wakes (s : State) (c : Nat) : Bool :=
  s.mip c != 0 || (s.core c).haltReq || (decide (s.hartOf c < 96) && (List.range 17).any fun t => s.signalled (s.hartOf c) t)

/-- WFI (R35): dispatch stops until WFI_WAKE; a group ends with EXCEPTION and cause 2 (R157). -/
def execWfi (c len : Nat) (insn : W) (s : State) : Res :=
  .next <| s.issue c none fun s => s.notInGroup c fun s =>
    let r := (s.core c).wfiRefusal
    if r ≠ 0 then s.illegal c (r == 2) insn
    else if s.allCompared c = false then s.closeIval c
    else
      let s1 := (s.retire c len [] none).rebase c
      if s1.wakes c ∨ (s1.core c).run ≠ .running then s1 else s1.onCore c fun k => { k with run := .wfi }

/-- WFI_WAKE (R35, R446): a pending interrupt, or a debug halt request, ends a core's WFI, from clock gating or from power
gating, which opens its section again (R147). -/
def execWfiWake (c : Nat) (s : State) : Res :=
  let k := s.core c
  .next <|
    if s.wakes c = false then s
    else if k.run = .wfi then s.onCore c fun k => { k with run := .running }
    else if k.run = .gated ∧ k.idle = .wfi then
      (s.onCore c fun k => { k with run := .running, idle := .running }).lidOpen (tileNode (coreTile c)) (coreSlot c)
    else s

/-- PAUSE (R35): dispatch stops for 48 core cycles, or until an interrupt is taken. -/
def execPause (c len : Nat) (s : State) : Res :=
  .next <| s.issue c none fun s =>
    let s1 := s.retire c len [] none
    if (s1.core c).run = .running then s1.onCore c fun k => { k with run := .pause } else s1

/-- PAUSE_END (R35): the 48 cycles have passed; the core's clock stands still in the stop of a P-state change (R50). -/
def execPauseEnd (c : Nat) (s : State) : Res :=
  .next (if (s.core c).run = .pause ∧ tget false s.pStop (s.core c).part = false then s.onCore c fun k => { k with run := .running }
    else s)

/-- TIME_READ (R36): the time CSR, DTIME from the tile's copy; on a pair the value is an input-log entry (R203). -/
def execTimeRead (c rd len : Nat) (insn : W) (s : State) : Res :=
  .next <| s.issue c none fun s =>
    let r := s.csrRefusal c 0xC01 false
    if r ≠ 0 then s.illegal c (r == 2) insn
    else
      let v := s.timeVal c
      (s.pairLog c 2 v).csrDone c rd len v

/-! ### CSR instructions (R40, R55, R157, R203) -/

/-- CSR_WRITE (R55): a CSR instruction, op 0 CSRRW, 1 CSRRS, 2 CSRRC, with a register or an immediate source. A refused
access raises illegal or virtual instruction. A serialising write ends an open group (R157) and, on a pair, waits until every
earlier instruction has been compared and is performed once (R205). CSRs whose write is a command of its own act as it does. -/
def execCsrWrite (c csr op rd rs1 : Nat) (imm : Bool) (len : Nat) (insn : W) (s : State) : Res :=
  .next <| s.issue c none fun s =>
    let a := (s.core c).csrAddr csr
    let wr := csrWrites op rs1
    let r := s.csrRefusal c csr wr
    let serial := wr && csrSerial a
    if r ≠ 0 then s.illegal c (r == 2) insn
    else if serial && (s.core c).group.isSome then s.notInGroup c id
    else if csr = 0x804 then s.depseqInsn c op rd rs1 imm len
    else if csr = 0x800 then s.lostClearInsn c op rd rs1 imm len
    else if csr = 0x7D0 then s.pairCtlInsn c op rd rs1 imm len
    else if serial && !s.allCompared c then s.closeIval c
    else
      let old := s.csrRead c a
      let new := csrNew op old ((s.core c).csrSrc rs1 imm)
      let s0 := if csrLogged a then s.pairLog c 2 old else s
      let s1 := if wr then s0.csrPut c a new else s0
      let s2 := s1.csrDone c rd len old
      if serial then (s2.onCore c Core.squash).rebase c else s2

/-! ### ECALL and EBREAK (R53, R502) -/

/-- ECALL's cause in each mode: U and VU 8, HS 9, VS 10, M 11. -/
def Core.ecallCause (k : Core) : Nat :=
  match k.mode with
  | .u => 8
  | .s => if k.virt then 10 else 9
  | .m => 11

/-- ECALL (R53): traps with its standard cause; a group ends with EXCEPTION and cause 2 (R157). -/
def execEcall (c : Nat) (s : State) : Res :=
  .next <| s.issue c none fun s => s.notInGroup c fun s => s.exception c (s.core c).ecallCause 0 0

/-- Whether EBREAK of a core halts it into debug (R502): its mode's EBREAKM bit is set and a session reaches the core; under
a certificate the bit of M-mode is ignored. -/
def State.ebreakHalts (s : State) (c : Nat) : Bool :=
  let k := s.core c
  let h := s.coreHart c
  decide (h < 96) && (s.fld DBG_CORE_CTL.EBREAKM h).testBit k.modeBit &&
  [0, 1].any fun p => s.fld DBG_AUTH.SESSION p == 2 ||
    (s.sessionReaches p c 0 && !k.secure && k.mode != .m)

/-- EBREAK (R157, R502): a halt with cause EBREAK where the mode's EBREAKM bit asks for one, else a breakpoint exception. -/
def execEbreak (c : Nat) (s : State) : Res :=
  .next <| s.issue c none fun s => s.notInGroup c fun s =>
    if s.ebreakHalts c then (if s.allCompared c then s.enterHalt c 4 0 else s.closeIval c)
    else s.exception c 3 (s.core c).pc 0

/-! ### Returns from traps (R33, R349) -/

/-- What MRET restores: the mode from MPP and MPV, MIE from MPIE; MPP becomes U, and MPRV clears when the new mode is not
M. -/
def Core.mret (k : Core) : Core :=
  let st := k.getCsr 0x300
  let md : Mode := match field st 12 11 with | 3 => .m | 1 => .s | _ => .u
  let virt := bit st 39 && md != .m
  let st1 := putField (putField (putField (putField st 3 3 (field st 7 7)) 7 7 1) 12 11 0) 39 39 0
  let st2 := if md = .m then st1 else putField st1 17 17 0
  { k.setCsr 0x300 st2 with mode := md, virt := virt, pc := k.getCsr 0x341 }

/-- What SRET restores in M- or HS-mode: the mode from SPP and hstatus.SPV, SIE from SPIE; in VS-mode, vsstatus's. -/
def Core.sret (k : Core) : Core :=
  if k.virt then
    let st := k.getCsr 0x200
    let md : Mode := if field st 8 8 = 1 then .s else .u
    let st1 := putField (putField (putField st 1 1 (field st 5 5)) 5 5 1) 8 8 0
    { k.setCsr 0x200 st1 with mode := md, pc := k.getCsr 0x241 }
  else
    let st := k.getCsr 0x300
    let hs := k.getCsr 0x600
    let md : Mode := if field st 8 8 = 1 then .s else .u
    let st1 := putField (putField (putField (putField st 1 1 (field st 5 5)) 5 5 1) 8 8 0) 17 17 0
    { (k.setCsr 0x300 st1).setCsr 0x600 (putField hs 7 7 0) with
      mode := md, virt := bit hs 7, pc := k.getCsr 0x141 }

/-- Whether SRET is refused: TSR in HS-mode, VTSR in VS-mode, and every user mode. -/
def Core.sretRefusal (k : Core) : Nat :=
  match k.mode with
  | .m => 0
  | .u => if k.virt then 2 else 1
  | .s => if k.virt then (if bit (k.getCsr 0x600) 22 then 2 else 0) else if bit (k.getCsr 0x300) 22 then 1 else 0

/-- A return that leaves M-mode with WCTL.NS set switches to the normal world (R349); its packet is RETURN (R512). It is a
closing event of a pair and performed once, after the comparison (R205). -/
def State.xret (s : State) (c : Nat) (f : Core → Core) : State :=
  if s.allCompared c = false then s.closeIval c
  else
    let k := s.core c
    let k' := f k
    let s1 := (s.retireTo c k'.pc [] none).onCore c fun k1 => { k1.squash with csr := k'.csr, mode := k'.mode, virt := k'.virt }
    let s2 := if k.mode = .m ∧ k'.mode ≠ .m ∧ s.fld WCTL.NS c = 1 then s1.worldSwitch c false else s1
    (s2.trace c 0x04 0 k'.pc.toNat).rebase c

/-- MRET (R349). -/
def execMret (c : Nat) (insn : W) (s : State) : Res :=
  .next <| s.issue c none fun s => s.notInGroup c fun s =>
    if (s.core c).mode ≠ .m then s.illegal c (s.core c).virt insn else s.xret c Core.mret

/-- SRET (R33). -/
def execSret (c : Nat) (insn : W) (s : State) : Res :=
  .next <| s.issue c none fun s => s.notInGroup c fun s =>
    let r := (s.core c).sretRefusal
    if r ≠ 0 then s.illegal c (r == 2) insn else s.xret c Core.sret

/-! ### Traps (R90, R161, R167, R205, R349) -/

/-- Whether a core can take an interrupt now: it is running, waiting in WFI, PAUSE or a CG.END that waits for durability, is not stopped for a
P-state change (R50), holds no open group, is no trailer, and a single step with STEPIE masks all but the secure band (R501). A halt that a
NORMAL_CERT session made does not hold back the secure band (R498). A device access that has been sent is performed once, so its instruction
retires first (DEDUCED from R44, log 42). -/
def State.intrReady (s : State) (c code : Nat) : Bool :=
  let k := s.core c
  let h := s.coreHart c
  (k.run == .running || k.run == .wfi || k.run == .pause ||
    (k.run == .halted && !s.fullSession && (code == 11 || code == 32))) &&
  !tget false s.pStop k.part && k.devLoad.isNone && k.devAns.isNone && k.amoReq.isNone &&
  k.group.isNone && !s.isTrailer c && s.allCompared c &&
  (!k.step || code == 11 || code == 32 || (decide (h < 96) && s.fld DBG_CORE_CTL.STEPIE h == 0))

/-- A secure-band interrupt that a core takes ends its debug halt: the core halts again before its first normal-world
instruction (R498). -/
def State.preempt (s : State) (c : Nat) : State :=
  if (s.core c).run = .halted then
    ((s.onCore c fun k => { k with run := .running, stopNext := some (6, 0) }).trailerRun c .running).setFld DBG_CORE_STATUS.STATE
      (s.coreHart c) 0
  else s

/-- TRAP (R349): an interrupt that the core would take next, or a synchronous exception of its oldest instruction (an
instruction that this model gives no command of its own). An interrupt of a pair is an input-log entry (R203). -/
def execTrap (c : Nat) (intr : Bool) (code : Nat) (tval gpa : W) (s : State) : Res :=
  .next <|
    if intr then
      (if s.intr c = some code then
        (if s.intrReady c code then ((s.preempt c).pairLog c 6 (causeWord true code)).takeTrap c true code 0 0
         else s.closeIval c)
       else s)
    else s.issue c none fun s => s.exception c (code % 64) tval gpa

/-! ### Branches (R41, R512, R519) -/

/-- The return-address stack after a call or a return: 32 entries, the oldest lost (R39). -/
def rasNext (ras : List W) (call ret : Bool) (link : W) : List W :=
  let r1 := if ret then ras.dropLast else ras
  if call then (if r1.length < 32 then r1 else r1.drop 1) ++ [link] else r1

/-- The tags of the predictor entries that a core trains and uses now: its world, its partition and its privilege mode (R42). -/
def Core.bpTags (k : Core) : Bool × Nat × Nat := (k.secure, k.part, k.modeBit)

/-- Train the predictor with a branch or jump at the pc (R42). The entry that a fetch there uses, the one with the core's three tags, is
trained again, or a new one is made; entries with other tags stay as they are. -/
def Core.train (k : Core) (taken : Bool) (target : W) : Core :=
  let mine := fun (e : BpEnt) => e.pc == k.pc && (e.secure, e.part, e.mode) == k.bpTags
  let e : BpEnt := { pc := k.pc, secure := k.secure, part := k.part, mode := k.modeBit, target := target, taken := taken }
  { k with bp := if k.bp.any mine then k.bp.map fun o => if mine o then e else o else k.bp ++ [e] }

/-- BRANCH_MISPREDICT (R41, R42): the branch or jump resolves against its prediction: it goes to `target` when it is taken and to
the next instruction when not, links into rd when it is a jump, and fetch restarts there. What younger instructions have left in the load
queue goes, and the predictor is trained. The return-address stack stands as it did at the branch: no younger instruction has moved it. -/
def execBranchMispredict (c rd : Nat) (taken jump call ret : Bool) (target : W) (len : Nat) (s : State) : Res :=
  .next <| s.issue c none fun s =>
    let k := s.core c
    let link := k.pc + BitVec.ofNat 64 len
    let dest := if taken then target &&& ~~~(1 : W) else link
    let s1 := (s.coreCount c 0x01).coreCount c 0x02
    let s2 := s1.onCore c fun k =>
      { (if jump then k.setX rd link else k).squash.train taken dest with ras := rasNext k.ras call ret link }
    let s3 := if taken then s2.trace c 0x01 0 dest.toNat else s2
    s3.retireTo c dest (if jump then [link] else []) none

end Sys2Proof.Machine
end

