-- ==== Sys2Proof/Machine/AgentIo.lean ====
section
/-! DEFINITION. What the coherent agents of the device share (R107, R172, R245, R320): reads and writes of DRAM through the
lines' homes, withheld while data is not durable, and the answers that the targets of device requests give. -/

namespace Sys2Proof.Machine

open Sys2Proof

/-- What an agent's read of memory yields: it is withheld (R172), it fails, or its bytes. -/
inductive AgRd where
  | wait
  | err
  | ok (bs : List Byte)
  deriving DecidableEq, Repr

/-- The lines that `n` bytes from `pa` lie in. -/
def linesOf (pa n : Nat) : List Nat := (List.range ((pa % 64 + n + 63) / 64)).map (pa / 64 + ·)

/-- Whether a line can be read or written: DRAM, and either cached or on a channel that serves (R299). -/
def State.lineOk (s : State) (line : Nat) : Bool :=
  s.isDram (line * 64) &&
  ((s.ownerOf line).isSome || (tget none s.l3 line).isSome || (tget none s.depvb line).isSome || s.memStatus line == 0)

/-- How R172 treats a line for the agent whose published copies are `dest` (24 fabric, 25 cipher, 26 security processor,
27 I/O coherence): 0 it may be used, 1 it is withheld, 2 its data is lost. -/
def State.tagHold (s : State) (dest line : Nat) : Nat :=
  match (s.curLine line).tag with
  | none => 0
  | some t =>
    let p := s.pub dest t.stream
    if t.seq ≤ p.w then 0 else if p.fenced then 2 else 1

/-- Read `n` bytes as an agent does, by RD_ONCE of each line (R107, R172), answered from the committed data of a group whose visibility window
is open (R123); poisoned or absent data fails. -/
def State.dmaRead (s : State) (dest pa n : Nat) : AgRd × State :=
  let ls := linesOf pa n
  let s := ls.foldl (fun s l => s.settleFlips l) s
  if ls.any fun l => !s.lineOk l || (s.curLine l).poison || s.tagHold dest l == 2 then (.err, s)
  else if ls.any fun l => s.tagHold dest l == 1 then (.wait, s)
  else
    let s1 := ls.foldl (fun s l => s.agentRead l) s
    (.ok (s1.curBytes pa n), s1)

/-- Write bytes as an agent does (R245, R320), or fail where a line is not there. -/
def State.dmaWrite (s : State) (pa : Nat) (bs : List Byte) (secure : Bool) : Option State :=
  if (linesOf pa bs.length).all fun l => s.lineOk l then some (s.agentWriteBytes pa bs secure) else none

/-- Whether the World Table gives every granule of `n` bytes at `pa` to a world and partition, through an agent's cache. -/
def State.dramIs (s : State) (key pa n : Nat) (secure : Bool) (part : Nat) : Bool × State :=
  let gs := (List.range (n / 2 ^ 21 + 2)).map fun i => Nat.min (pa + i * 2 ^ 21) (pa + n - 1)
  gs.foldl (fun (r : Bool × State) a =>
    let q := r.2.dramOwner key part a
    (r.1 && q.2.isDram a && (if secure then q.1 == none else q.1 == some part), q.2)) (true, s)

/-- The same bytes checked as accesses of a world and partition (R354). -/
def State.dramMay (s : State) (key pa n : Nat) (secure : Bool) (part : Nat) : Bool × State :=
  let gs := (List.range (n / 2 ^ 21 + 2)).map fun i => Nat.min (pa + i * 2 ^ 21) (pa + n - 1)
  gs.foldl (fun (r : Bool × State) a =>
    let q := r.2.dramOwner key part a
    (r.1 && q.2.isDram a && ownerPasses q.1 secure part, q.2)) (true, s)

/-- Write the bytes that a mask selects: bit `i` of the mask stands for byte `i`. -/
def State.maskedWrite (s : State) (pa : Nat) (bs : List Byte) (mask : Nat) (secure : Bool) : State :=
  let n := bs.length
  if mask % 2 ^ n = 2 ^ n - 1 then s.agentWriteBytes pa bs secure
  else (linesOf pa n).foldl (fun s l =>
    let at_ := fun (i : Nat) => decide ((pa + i) / 64 = l)
    let m := (List.range n).foldl (fun m i => if mask.testBit i && at_ i then m + 2 ^ ((pa + i) % 64) else m) 0
    let d := ((List.range n).zip bs).foldl (fun (d : Line) (e : Nat × Byte) =>
      if at_ e.1 then lineSet d ((pa + e.1) % 64) 1 e.2.toNat else d) 0
    if m = 0 then s else s.agentWrite l d m secure) s

/-- An atomic of `size` bytes at `pa` by an agent: the old value, and the state with the line written (R245). -/
def State.agentAtomic (s : State) (pa size : Nat) (op : AmoOp) (src : Nat) (secure : Bool) : Nat × State :=
  let old := s.curNat pa size
  (old, s.agentWriteBytes pa (leBytes size (amoResult op size old src)) secure)

/-- A target answers a device request of a tag index (R87, R142): a load's or atomic's answer waits at its core; a store
leaves the store buffer, or is reported; another unit's answer waits in the tag index. An index that is no longer busy with
this epoch drops it (R139). -/
def State.ioAnswer (s : State) (node tag epoch data status : Nat) : State :=
  let i := node * 1024 + tag
  let t := tget {} s.txns i
  if t.epoch ≠ epoch ∨ t.use.isNone then
    (if t.late = 0 then s
     else ({ s with txns := tset {} s.txns i { t with late := t.late - 1 } } : State).incSat MESH_INIT_STATUS.LATE_DROPPED node)
  else match t.use with
    | some (.devLoad c) => (if status = 2 then s.stopRecord node (coreSlot c) 0x103 t.pa else s).onCore c fun k =>
        match k.devLoad with
        | some (n, _) => if n = tag then { k with devAns := some (data, status) } else k
        | none => k
    | some (.devStore c early) =>
      let s1 := s.freeTxn node tag
      let s2 := s1.onCore c fun k => { k with sb := k.sb.filter fun e => !(e.sent && e.txn == tag) }
      if early then s2.earlyFail node (coreSlot c) t.pa status
      else if status = 0 then s2
      else (if status = 2 then s2.stopRecord node (coreSlot c) 0x103 t.pa else s2).reportStore c t.pa status
    | some (.other _) =>
      { s with txns := tset {} s.txns i { t with io := { t.io with ans := some (data, status) } } }
    | _ => s

/-- The class of the packet that carries a device request. -/
def Io.msg (io : Io) : Msg := if io.kind = 0 then .devRead else if io.kind = 1 then .devWrite else .devAmo

/-- Whether a device request can be taken by its target: its packet can leave the mesh, and every earlier request of its stop to the same
target stop has been taken, because the mesh keeps the order of one source, destination and channel and of no others (R85, R129). -/
def State.ioNext (s : State) (node tag : Nat) : Bool :=
  let t := tget {} s.txns (node * 1024 + tag)
  let dev := fun (u : Option TxnUse) => match u with
    | some (.devLoad _) | some (.devStore _ _) | some (.other _) => true
    | _ => false
  dev t.use && !t.io.taken && !t.io.off && t.io.ans.isNone && s.canTake t.io.msg (node * 1024 + tag) t.pa &&
  !(s.txns.any fun e => e.1 / 1024 == node && dev e.2.use && !e.2.io.taken && !e.2.io.off && decide (e.2.io.ord < t.io.ord) &&
    isDeviceRegion (s.region e.2.pa) 0 && s.devNode e.2.pa == s.devNode t.pa)

/-- A device request is taken by its target: its packet leaves the mesh. -/
def State.ioTake (s : State) (node tag : Nat) : State :=
  let i := node * 1024 + tag
  let t := tget {} s.txns i
  let s1 : State := { s with txns := tset {} s.txns i { t with io := { t.io with taken := true } } }
  s1.take t.io.msg i t.pa

end Sys2Proof.Machine
end

