-- ==== Sys2Proof/Machine/Fabric.lean ====
section
/-! DEFINITION. The Drerik fabric (chapter 10): ports and their training, folios and link-level retry, the switch's inputs,
remote memory, message rings and time. Admission is in `Admission.lean`. -/

namespace Sys2Proof.Machine

open Sys2Proof

/-! ### Port states (R224, R230, R251) -/

/-- Set a port's state; a change raises the port-state-change source (R370). -/
def State.setPortState (s : State) (p st : Nat) : State :=
  if s.fld FAB_PORT_STATUS.STATE p = st then s
  else (s.setFld FAB_PORT_STATUS.STATE p st).raise (portSrc p)

/-- A link-local packet leaves through a port. -/
def State.linkLocal (s : State) (p : Nat) (k : Pkt) : State :=
  s.enqueue p { k with dst := 0, src := s.fld FAB_NODE.NODE_ID 0, level := 0 }

/-- What a port loses when its link ends (R230): its unacknowledged folios and every packet partly sent or received. The
requests that queue for it are sent on, and find no route. -/
def State.portClear (s : State) (p : Nat) : State :=
  let x := s.port p
  let s1 := s.setPort p { rxq := x.rxq }
  x.waiting.foldl (fun s t =>
    match tget none s.fabRem t with
    | some o => ({ s with fabRem := tset none s.fabRem t (some { o with sent := true }) } : State).fabSend o.pkt
    | none => s) s1

/-- The link goes DOWN (R230): record LINK_DOWN, and the port goes back to TRAINING. -/
def State.portDown (s : State) (p : Nat) : State :=
  let peer := s.fld FAB_PORT_STATUS.PEER_NODE p
  let s1 := ((s.setPortState p 1).setFld FAB_PORT_STATUS.LANES p 0).setFld FAB_PORT_STATUS.PEER_NODE p 0
  ((s1.portClear p).logErr (portNode p) p 2 0x402 peer).raise (portSrc p + 5)

/-- 32 bytes of the DRBG, a free value. -/
def State.nonce (s : State) : List Byte × State :=
  ((List.range 4).flatMap fun i => leBytes 8 (Config.freeValue (s.free + i)).toNat, { s with free := s.free + 4 })

/-- A port in LINK_UP of a device that has a node ID sends its nonce and starts attesting (R251). -/
def State.attest (s : State) (p : Nat) : State :=
  if s.fld FAB_PORT_STATUS.STATE p = 2 ∧ s.fld FAB_NODE.NODE_ID 0 ≠ 0 then
    let n := s.nonce
    let s1 := n.2.setPort p { n.2.port p with ownNonce := n.1, peerNonce := [], ownOk := false, peerOk := false }
    (s1.setPortState p 3).linkLocal p { op := 0x30, data := n.1, len := 32 }
  else s

/-- A device with no upstream port, or with two, keeps free-running time and sets TIME_FAULT (R249); the grandmaster needs
none. -/
def State.timeRoles (s : State) : State :=
  let up := (List.range 8).filter fun p => s.fld FAB_PORT_CTL.TIME_ROLE p == 1
  if s.fld FAB_NODE.GM 0 = 1 ∨ up.length = 1 then s
  else (if up = [] then List.range 8 else up).foldl (fun s p =>
    if s.fld FAB_PORT_STATUS.STATE p = 4 then
      (if s.fld FAB_PORT_STATUS.TIME_FAULT p = 1 then s
       else (s.setFld FAB_PORT_STATUS.TIME_FAULT p 1).raise (portSrc p + 4))
    else s) s

/-- What a write to FAB_PORT_CTL starts (R225, R251), after its fields are written: ENABLE, and the command in `w`. -/
def State.portCtl (s : State) (p cmd : Nat) : State :=
  let st := s.fld FAB_PORT_STATUS.STATE p
  if s.fld FAB_PORT_CTL.ENABLE p = 0 then
    (if st = 0 then s
     else ((s.setPortState p 0).setFld FAB_PORT_STATUS.LANES p 0).portClear p)
  else
    let s1 := if st = 0 then s.setPortState p 1 else s
    if cmd = 1 ∧ st = 5 then (s1.setPortState p 1).portClear p
    else if cmd = 2 ∧ st = 4 then
      let lane := s1.fld FAB_PORT_CTL.SPARE_FOR p
      if s1.fld FAB_PORT_STATUS.SPARE_USE p ≠ 7 ∨ 4 ≤ lane then s1
      else (s1.setPort p { s1.port p with swap := 4 * lane + 1 }).linkLocal p
        { op := 0x3A, data := leBytes 4 lane, len := 4 }
    else s1

/-- A write of `w` to a port's FAB_PORT_CTL. -/
def State.portCtlWrite (s : State) (ag : Agent) (p : Nat) (w : W) : State :=
  s.onWrite ag .FAB_PORT_CTL p w fun s => (s.portCtl p (field w 3 0)).timeRoles

/-- ENABLE (R251): a write to FAB_PORT_CTL starts training, or squelches the port. -/
def execEnable (ag : Agent) (p : Nat) (w : W) (s : State) : Res := .next (s.portCtlWrite ag p w)

/-- RETRAIN (R251): CMD RETRAIN takes a QUARANTINED port back to TRAINING. -/
def execRetrain (ag : Agent) (p : Nat) (w : W) (s : State) : Res := .next (s.portCtlWrite ag p w)

/-- LANE_SWAP (R225): CMD LANE_SWAP proposes to the peer to move the lane SPARE_FOR onto the spare; ignored when the spare is
in use or the port is not ACTIVE. Macen logs the lane that it moves (R485). -/
def execLaneSwap (ag : Agent) (p : Nat) (w : W) (s : State) : Res :=
  let s1 := s.portCtlWrite ag p w
  .next <| if ag = .macen ∧ (s.port p).swap = 0 ∧ (s1.port p).swap ≠ 0 then
    s1.logRepair 6 (p % 8 * 2 ^ 25 + s1.fld FAB_PORT_CTL.SPARE_FOR p % 4 * 2 ^ 23) else s1

/-- The spare takes a lane's place (R225): SPARE_USE and the record LANE_SPARED. -/
def State.laneSpared (s : State) (p lane : Nat) : State :=
  ((s.setFld FAB_PORT_STATUS.SPARE_USE p lane).logErr (portNode p) p 0 0x401 lane).raise (portSrc p + 3)

/-- LANE_SWAP_PACKET (R225): a link-local LANE_SWAP packet, lane in its first payload byte and step in its second, advances
the swap: 0 proposes, 1 agrees, 2 tells that the proposer has switched over. -/
def execLaneSwapPacket (s : State) : Res :=
  .next <| match s.takePkt 0x3A with
  | none => s
  | some (p, k, s) =>
    let g := fun i => (k.data.getD i 0).toNat
    let lane := g 0
    let x := s.port p
    let send := fun (s : State) (step : Nat) => s.linkLocal p { op := 0x3A, data := leBytes 4 (lane + 256 * step), len := 4 }
    if 8 ≤ p ∨ s.fld FAB_PORT_STATUS.STATE p ≠ 4 ∨ s.fld FAB_PORT_STATUS.SPARE_USE p ≠ 7 ∨ 4 ≤ lane then s
    else if g 1 = 0 then send (s.setPort p { x with swap := 4 * lane + 2 }) 1
    else if g 1 = 1 ∧ x.swap = 4 * lane + 1 then
      send ((s.setPort p { x with swap := 0 }).laneSpared p lane) 2
    else if g 1 = 2 ∧ x.swap = 4 * lane + 2 then (s.setPort p { x with swap := 0 }).laneSpared p lane
    else s

/-- The number of set bits among the five lanes. -/
def goodLanes (m : Nat) : Nat := ((List.range 5).filter fun i => m.testBit i).length

/-- TRAINING_COMPLETE (R224): training ends with the good lanes of a mask and the measured round trip: LINK_UP on 4 lanes,
the spare standing in where one of the four is bad or the repair log names one (R481), or on 2. Then attestation starts (R251). -/
def execTrainingComplete (p lanes rtt : Nat) (s : State) : Res :=
  .next <| if 8 ≤ p ∨ s.fld FAB_PORT_STATUS.STATE p ≠ 1 ∨ goodLanes lanes < 2 then s
  else
    let lanes := match s.fabLane p with
      | some l => if lanes.testBit l then lanes - 2 ^ l else lanes
      | none => lanes
    let bad := (List.range 4).find? fun i => !lanes.testBit i
    let four := decide (4 ≤ goodLanes lanes)
    let use := match bad with | some b => if four then b else 7 | none => 7
    let s1 := (((s.setFld FAB_PORT_STATUS.LANES p (if four then 4 else 2)).setFld FAB_PORT_STATUS.SPARE_USE p use).setFld
      FAB_PORT_STATUS.RTT_NS p rtt).setPort p { rxq := (s.port p).rxq, waiting := (s.port p).waiting }
    (s1.setPortState p 2).attest p

/-- TRAINING_RETRY (R224): a failed training starts again while ENABLE is 1; the port stays in TRAINING on no lane. -/
def execTrainingRetry (p : Nat) (s : State) : Res :=
  .next <| if s.fld FAB_PORT_STATUS.STATE p = 1 ∧ s.fld FAB_PORT_CTL.ENABLE p = 1 then s.setFld FAB_PORT_STATUS.LANES p 0 else s

/-! ### Folios and link-level retry (R226 to R230) -/

/-- Whether a port's link carries folios. -/
def State.linkUp (s : State) (p : Nat) : Bool := decide (p < 8) && [2, 3, 4].contains (s.fld FAB_PORT_STATUS.STATE p)

/-- Send an IDLE folio with the current ACK, and NAK when `nak` (R226, R227). -/
def State.sendIdle (s : State) (p : Nat) (nak : Bool) : State :=
  let x := s.port p
  let o := x.owe
  let f : Folio := { typ := 0, seq := x.txSeq, ack := (x.rxExp + 4095) % 4096, nak := nak, crClass := o.1, crCount := o.2.1 }
  s.setPort p { o.2.2 with idle := some (folioSeal (s.linkKey p) x.epoch x.iv f), sinceAck := 0 }

/-- Take an acknowledgement (R228): the folios up to it leave the replay buffer, and progress resets the resend count. -/
def State.takeAck (s : State) (p ack : Nat) : State :=
  let x := s.port p
  match x.replay.findIdx? fun f => f.seq == ack with
  | none => s
  | some i => (s.setPort p { x with replay := x.replay.drop (i + 1), resends := 0 }).pump p

/-- Take returned credits (R233). -/
def State.takeCredit (s : State) (p cls n : Nat) : State :=
  if n = 0 then s
  else
    let x := s.port p
    (s.setPort p { x with crUsed := tset 0 x.crUsed cls (tget 0 x.crUsed cls - n) }).pump p

/-- Resend every folio that is held for replay (R228); after 8 resends without progress of ACK the port goes DOWN (R230). -/
def State.resend (s : State) (p : Nat) : State :=
  let x := s.port p
  if x.replay.isEmpty then s
  else if 8 ≤ x.resends then s.portDown p
  else
    let s1 := (s.setPort p { x with resends := x.resends + 1 }).count (cuPort p) 0x03 none x.replay.length
    (s1.setFld FAB_PORT_STATUS.REPLAY p 1).raise (portSrc p + 2)

/-- The first discard after an accepted folio sends NAK (R227). -/
def State.discardFolio (s : State) (p : Nat) : State :=
  let x := s.port p
  if x.nakOut then s
  else ((s.setPort p { x with nakOut := true }).count (cuPort p) 0x04 none 1).sendIdle p true

/-- What a valid header carries besides its payload: the acknowledgement, and NAK. -/
def State.takeHeader (s : State) (p : Nat) (f : Folio) : State :=
  let s1 := s.takeAck p f.ack
  if f.nak then s1.resend p else s1

/-- An accepted DATA folio: the sequence advances, its segment joins its packet, and a whole packet waits for the switch
(R226, R227). In LINK_UP and ATTESTING only link-local admission packets are carried (R251). -/
def State.acceptFolio (s : State) (p : Nat) (f : Folio) : State :=
  let x := s.port p
  let late := x.nakOut
  let seg := (if f.seg % 2 = 1 then [] else tget [] x.rxSeg f.cls) ++ (folioBody f).take f.plen
  let whole := decide (2 ≤ f.seg)
  let k := pktOf seg (f.cls % 2)
  let pass := s.fld FAB_PORT_STATUS.STATE p == 4 || (decide (0x30 ≤ k.op ∧ k.op ≤ 0x32) && k.dst == 0)
  let x1 : Port := { x with
    rxExp := (x.rxExp + 1) % 4096, rxIv := x.rxIv + 1, nakOut := false, sinceAck := x.sinceAck + 1,
    rxSeg := tset [] x.rxSeg f.cls (if whole then [] else seg),
    rxq := if whole && pass then x.rxq ++ [(f.cls, k)] else x.rxq,
    crOwed := if whole && !pass then tset 0 x.crOwed f.cls (tget 0 x.crOwed f.cls + (pieces 400 232 seg).length) else x.crOwed }
  let s1 := (s.setPort p x1).count (cuPort p) 0x02 none 1
  let s2 := if late then
      (((s1.setFld FAB_PORT_STATUS.REPLAY p 1).logErr (portNode p) p 0 0x400 f.seq).raise (portSrc p + 2)) else s1
  if 32 ≤ x1.sinceAck then s2.sendIdle p false else s2

/-- A folio that a port receives, opened (R227, R253): none where its CRC or tag does not check. A folio that is not the next expected one
opens under the count of its own place. -/
def State.openFolio (s : State) (p : Nat) (f : Folio) : Option Folio :=
  let x := s.port p
  let ahead := (f.seq + 4096 - x.rxExp) % 4096
  folioUnseal (s.linkKey p) x.peerEpoch (if ahead < 2048 then x.rxIv + ahead else x.rxIv + ahead - 4096) f

/-- DATA_FOLIO (R227): a port receives a DATA folio. -/
def execDataFolio (p : Nat) (f : Folio) (s : State) : Res :=
  .next <| if s.linkUp p = false ∨ f.typ ≠ 1 then s
  else if f.fecOk = false then (s.count (cuPort p) 0x06 none 1).discardFolio p
  else
    let s := s.count (cuPort p) 0x05 none f.fec
    match s.openFolio p f with
    | none => (if (s.linkKey p).isSome then s.setFld FAB_PORT_STATUS.AUTH_FAIL p 1 else s).discardFolio p
    | some f =>
      if f.seq ≠ (s.port p).rxExp then (s.takeHeader p f).discardFolio p
      else ((s.acceptFolio p f).takeHeader p f).takeCredit p f.crClass f.crCount

/-- IDLE_FOLIO (R227): a port receives an IDLE folio: its acknowledgement, its NAK and its credits. -/
def execIdleFolio (p : Nat) (f : Folio) (s : State) : Res :=
  .next <| if s.linkUp p = false ∨ f.typ ≠ 0 then s
  else if f.fecOk = false then s.count (cuPort p) 0x06 none 1
  else
    let s := s.count (cuPort p) 0x05 none f.fec
    match s.openFolio p f with
    | none => if (s.linkKey p).isSome then s.setFld FAB_PORT_STATUS.AUTH_FAIL p 1 else s
    | some f => (s.takeHeader p f).takeCredit p f.crClass f.crCount

/-- FOLIO_NAK (R228): a sender receives NAK with an ACK and resends from ACK + 1, in order. -/
def execFolioNak (p ack : Nat) (s : State) : Res :=
  .next <| if s.linkUp p = false then s else (s.takeAck p ack).resend p

/-- NAK_REPEAT (R227): every 5 µs until the expected folio arrives; stopped by FREEZE (R255). -/
def execNakRepeat (p : Nat) (s : State) : Res :=
  .next <| if s.linkUp p && (s.port p).nakOut && s.fld FAB_NODE.FREEZE 0 == 0 then
    (s.count (cuPort p) 0x04 none 1).sendIdle p true else s

/-- REPLAY_TIMEOUT (R228): ACK has not advanced for 20 µs; stopped by FREEZE (R255). -/
def execReplayTimeout (p : Nat) (s : State) : Res :=
  .next <| if s.linkUp p && s.fld FAB_NODE.FREEZE 0 == 0 then s.resend p else s

/-- LINK_DOWN (R230): the loss of the link, or the resend limit. -/
def execLinkDown (p : Nat) (loss : Bool) (s : State) : Res :=
  .next <| if s.linkUp p && (loss || decide (8 ≤ (s.port p).resends)) then s.portDown p else s

/-- SWITCH_FORWARD (R236, R239): the switch takes the oldest packet of an input port, and the folios' room returns as
credit. A reserved opcode is discarded and counted (R232). -/
def execSwitchForward (p : Nat) (s : State) : Res :=
  let x := s.port p
  .next <| match x.rxq with
  | [] => s
  | (cls, k) :: rest =>
    let n := (pieces 400 232 k.bytes).length
    let s1 := s.setPort p { x with rxq := rest, crOwed := tset 0 x.crOwed cls (tget 0 x.crOwed cls + n) }
    if (opVl k.op).isNone then { s1 with fabDropped := s1.fabDropped + 1 } else s1.switch p k

/-! ### Remote memory, the initiating side (R241 to R243) -/

/-- The lowest free tag of node 42. -/
def State.fabTag (s : State) : Option Nat := (List.range 65536).find? fun t => (tget none s.fabRem t).isNone

/-- The reads and atomics outstanding on a port, and those that queue for it. -/
def State.fabOut (s : State) (p : Nat) : Nat :=
  (s.fabRem.filter fun e => match e.2 with
    | some o => o.port == p && o.sent && (o.pkt.op == 2 || o.pkt.op == 5)
    | none => false).length

/-- Send the requests that queue for a port while its bound of 1,024 allows (R243). -/
def State.fabNext (s : State) (p : Nat) : State :=
  if 8 ≤ p then s
  else match (s.port p).waiting with
    | [] => s
    | t :: rest =>
      if 1024 ≤ s.fabOut p then s
      else match tget none s.fabRem t with
        | none => s.setPort p { s.port p with waiting := rest }
        | some o => ({ s.setPort p { s.port p with waiting := rest } with
            fabRem := tset none s.fabRem t (some { o with sent := true }) } : State).fabSend o.pkt

/-- Fabric STATUS as a mesh STATUS (R243). -/
def meshStatus (st : Nat) : Nat := if st = 0 then 0 else if st = 1 then 1 else if st = 3 then 3 else 4

/-- The remote address of an aperture access (R241), or none where the access is refused. -/
def State.apertureAddr (s : State) (pa kind : Nat) : Option (Nat × Nat) :=
  let n := pa / 0x80000000 % 0x1000
  let o := pa - (0x080000000000 + n * 0x80000000)
  let sz := s.fld FAB_APERTURE.SIZE_LOG2 n
  let perm := if kind = 0 then FAB_APERTURE.RD else if kind = 1 then FAB_APERTURE.WR else FAB_APERTURE.ATOM
  if s.fld FAB_APERTURE.VALID n = 0 ∨ 2 ^ sz ≤ o ∨ s.fld perm n = 0 then none
  else some (s.fld FAB_APERTURE.NODE n, s.fld FAB_APERTURE.RBASE n / 2 ^ (sz - 12) * 2 ^ (sz - 12) * 4096 + o)

/-- APERTURE_ACCESS (R241 to R243): the device request of a tag index reaches node 42 and is sent as WRITE, READ or ATOMIC,
queued for its port, or answered DENIED with the record of node 42 (R88, R143). Past the queue of 64 the request waits for credit (R26). -/
def execApertureAccess (node tag : Nat) (s : State) : Res :=
  let tag := tag % 1024
  let t := tget {} s.txns (node * 1024 + tag)
  .next <| if s.ioNext node tag = false ∨ s.region t.pa ≠ .aperture ∨ t.io.size = 0 ∨ 64 < t.io.size then s
  else match s.apertureAddr t.pa t.io.kind with
  | none => ((s.ioTake node tag).logRefusal 42 0 0x104 t.io.part t.pa).ioAnswer node tag t.epoch 0 3
  | some (dst, addr) =>
    let flags := (if t.io.kind = 1 ∧ t.io.ewa = false then 1 else 0) + 2 * b2n t.io.secure + 4 * (t.io.part % 16)
    let n := t.io.size
    let base : Pkt := { dst := dst, op := 2, flags := flags, addr := addr, len := n }
    let k : Pkt := if t.io.kind = 0 then base
      else if t.io.kind = 1 then
        { base with op := 1, len := n + 8, data := leBytes n t.io.data ++ leBytes 8 (2 ^ n - 1) }
      else { base with op := 5, len := 0, operand := t.io.data % 2 ^ 64, aux := t.io.funct % 32 + (if n = 8 then 256 else 0) }
    if t.io.kind = 1 ∧ t.io.ewa then ((s.ioTake node tag).ioAnswer node tag t.epoch 0 0).fabSend k
    else match s.fabTag with
    | none => s
    | some ft =>
      let port := match s.routeOf dst false with | some (some p, _) => p | _ => 8
      let k := { k with tag := ft }
      let full := decide (port < 8) && decide (1024 ≤ s.fabOut port) && t.io.kind != 1
      let o : RemOp := { use := .core node tag t.epoch, port := port, pkt := k, sent := !full }
      let put := fun (s : State) => ({ s.ioTake node tag with fabRem := tset none s.fabRem ft (some o) } : State)
      if full then
        (if 64 ≤ (s.port port).waiting.length then s
         else (put s).setPort port { s.port port with waiting := (s.port port).waiting ++ [ft] })
      else (put s).fabSend k

/-- Node 42 takes the response of a request and answers the core (R243); one whose request is gone is dropped. -/
def State.fabRsp (s : State) (op reqOp : Nat) : State :=
  match s.takePkt op with
  | none => s
  | some (_, k, s) =>
    match tget none s.fabRem k.tag with
    | none => s
    | some o =>
      match o.use with
      | .core node tag epoch =>
        if o.pkt.op ≠ reqOp ∨ o.sent = false then s
        else
          let s1 : State := { s with fabRem := tset none s.fabRem k.tag none }
          (s1.ioAnswer node tag epoch (ofLeBytes k.data) (meshStatus k.status)).fabNext o.port
      | .msg _ _ => s

/-- READ_RSP (R243). -/
def execReadRsp (s : State) : Res := .next (s.fabRsp 3 2)

/-- WRITE_ACK (R242). -/
def execWriteAck (s : State) : Res := .next (s.fabRsp 4 1)

/-- ATOMIC_RSP (R243): the old value. -/
def execAtomicRsp (s : State) : Res := .next (s.fabRsp 6 5)

/-! ### Message rings (R246 to R248) -/

/-- The address of a descriptor of a send queue. -/
def State.sqAddr (s : State) (q ix : Nat) : Nat :=
  s.fld FAB_SQ_CFG.BASE q * 4096 + (ix % 2 ^ s.fld FAB_SQ_CFG.COUNT_LOG2 q) * 64

/-- Move HEAD over the completed descriptors, in order; `fuel` bounds the 16 in flight. -/
def State.sqHead : Nat → Nat → State → State
  | 0, _, s => s
  | fuel + 1, q, s =>
    let h := s.fld FAB_SQ_PTR.HEAD q
    if (tget [] s.sqDone q).contains h then
      State.sqHead fuel q ({ s.setFld FAB_SQ_PTR.HEAD q ((h + 1) % 65536) with
        sqDone := tset [] s.sqDone q ((tget [] s.sqDone q).filter (· ≠ h)) } : State)
    else s

/-- A descriptor completes with a STATUS (R246). -/
def State.sqComplete (s : State) (q ix st : Nat) : State :=
  let s1 := (s.dmaWrite (s.sqAddr q ix + 6) [BitVec.ofNat 8 st] false).getD s
  State.sqHead 17 q { s1 with sqDone := tset [] s1.sqDone q (tget [] s1.sqDone q ++ [ix]) }

/-- The messages of a queue in flight. -/
def State.sqFlight (s : State) (q : Nat) : Nat :=
  (s.fabRem.filter fun e => match e.2 with
    | some o => (match o.use with | .msg q' _ => q' == q | _ => false)
    | none => false).length

/-- Send the posted descriptors of a queue in order, up to 16 in flight (R246). The descriptor and the message must lie in
DRAM of the partition; a descriptor or message whose data is not yet durable waits (R172). -/
def State.sqSend : Nat → Nat → State → State
  | 0, _, s => s
  | fuel + 1, q, s =>
    let ix := tget 0 s.sqNext q
    if s.fld FAB_SQ_CFG.VALID q = 0 ∨ (s.fld DBG_FREEZE.FABSQ 0 = 1 ∧ s.halted q) ∨ ix = s.fld FAB_SQ_PTR.TAIL q ∨ 16 ≤ s.sqFlight q then s
    else
      let r := s.dramIs 25 (s.sqAddr q ix) 64 false q
      let next := fun (s : State) => ({ s with sqNext := tset 0 s.sqNext q ((ix + 1) % 65536) } : State)
      let done := fun (s : State) (st : Nat) => State.sqSend fuel q ((next s).sqComplete q ix st)
      if r.1 = false then done r.2 3
      else match r.2.dmaRead 24 (s.sqAddr q ix) 16 with
      | (.wait, s) => s
      | (.err, s) => done s 3
      | (.ok d, s) =>
        let g := fun (o n : Nat) => ofLeBytes ((d.drop o).take n)
        let len := g 4 2
        if len = 0 ∨ 4080 < len then done s 4
        else
          let m := s.dramIs 25 (g 8 8 % 2 ^ 48) len false q
          if m.1 = false then done m.2 3
          else match m.2.dmaRead 24 (g 8 8 % 2 ^ 48) len, m.2.fabTag with
          | (.wait, s), _ => s
          | (.err, s), _ => done s 3
          | (.ok _, s), none => s
          | (.ok bs, s), some t =>
            let k : Pkt := { dst := g 0 2 % 2 ^ 14, op := 7, flags := 4 * q, tag := t, len := len, aux := g 2 1, data := bs }
            let o : RemOp := { use := .msg q ix, port := 8, pkt := k }
            State.sqSend fuel q (({ next s with fabRem := tset none s.fabRem t (some o) } : State).fabSend k)

/-- TAIL (R246): a write to FAB_SQ_PTR posts descriptors, which the device then sends. -/
def execTail (ag : Agent) (q : Nat) (w : W) (s : State) : Res :=
  .next (s.onWrite ag .FAB_SQ_PTR q w fun s => State.sqSend 17 q s)

/-- CONSUMER (R247): a write to FAB_RXRING_PTR releases receive slots. -/
def execConsumer (ag : Agent) (ring : Nat) (w : W) (s : State) : Res := .next (s.onWrite ag .FAB_RXRING_PTR ring w id)

/-- MSG_RSP (R246): the descriptor gets its STATUS, HEAD advances, and the next descriptors are sent. -/
def execMsgRsp (s : State) : Res :=
  .next <| match s.takePkt 8 with
  | none => s
  | some (_, k, s) =>
    match tget none s.fabRem k.tag with
    | some { use := .msg q ix, .. } =>
      let st := if k.status = 0 then 1 else if k.status = 6 then 2 else if k.status = 7 then 4
        else if k.status = 5 then 5 else 3
      State.sqSend 17 q (({ s with fabRem := tset none s.fabRem k.tag none } : State).sqComplete q ix st)
    | _ => s

/-- REMOTE_READ_TIMEOUT (R243, R247): no response within RREAD_US: the core gets TIMEOUT and a record is written; a message's
descriptor completes with TIMEOUT. A late response then finds nothing. FREEZE stops the timer (R255). -/
def execRemoteReadTimeout (tag : Nat) (s : State) : Res :=
  .next <| if s.fld FAB_NODE.FREEZE 0 = 1 then s
  else match tget none s.fabRem tag with
  | none => s
  | some o =>
    let s1 : State := { s with fabRem := tset none s.fabRem tag none }
    match o.use with
    | .msg q ix => State.sqSend 17 q (s1.sqComplete q ix 6)
    | .core node t epoch =>
      if o.pkt.op = 1 ∨ o.sent = false then s
      else ((s1.ioAnswer node t epoch 0 1).logErr 42 0xFF 2 0x406 o.pkt.addr).fabNext o.port

/-- A message interrupt of a receive ring (R374). -/
def State.ringIrq (s : State) (r : Nat) : State :=
  if s.fld EVR_RING_ROUTE.EN r = 1 then
    s.message (s.fld EVR_RING_ROUTE.HART r) (s.fld EVR_RING_ROUTE.PAGE r) (s.fld EVR_RING_ROUTE.PRIO r)
  else s

/-- MSG (R247): the message is placed into the next slot of its ring, or refused; nothing is written then. -/
def execMsg (s : State) : Res :=
  .next <| match s.takePkt 7 with
  | none => s
  | some (_, k, s) =>
    let r := k.aux % 256
    let rsp := fun (s : State) (st : Nat) => s.fabSend { dst := k.src, op := 8, tag := k.tag, status := st, flags := k.flags }
    let slot := 2 ^ s.fld FAB_RXRING_CFG.SLOT_LOG2 r
    let cnt := 2 ^ s.fld FAB_RXRING_CFG.COUNT_LOG2 r
    let prod := s.fld FAB_RXRING_PTR.PRODUCER r
    let src := s.fld FAB_RXRING_CFG.SRC_NODE r
    let base := s.fld FAB_RXRING_CFG.BASE r * 4096
    let w := s.dramIs 25 base (slot * cnt) false (s.fld FAB_RXRING_CFG.PARTITION r)
    if s.fld FAB_RXRING_CFG.VALID r = 0 ∨ (src ≠ 0 ∧ src ≠ k.src) ∨ w.1 = false then rsp w.2 3
    else if slot - 16 < k.data.length then rsp w.2 7
    else if (prod + 65536 - s.fld FAB_RXRING_PTR.CONSUMER r) % 65536 = cnt then rsp w.2 6
    else
      let bytes := leBytes 2 k.src ++ leBytes 2 k.data.length ++ leBytes 4 0 ++ leBytes 8 s.dtime ++ k.data
      match w.2.dmaWrite (base + prod % cnt * slot) bytes false with
      | none => rsp w.2 3
      | some s => rsp ((s.setFld FAB_RXRING_PTR.PRODUCER r ((prod + 1) % 65536)).ringIrq r) 0

/-! ### Remote memory, the target's side (R244, R245) -/

/-- The inbound window that serves an address of a source: the lowest-numbered valid one that contains it (R244). -/
def State.inbound (s : State) (src addr n : Nat) : Option Nat :=
  (List.range 256).find? fun w =>
    let sz := 2 ^ s.fld FAB_INBOUND.SIZE_LOG2 w
    let base := s.fld FAB_INBOUND.BASE w * 2 ^ 21 / sz * sz
    decide (s.fld FAB_INBOUND.VALID w = 1 ∧ (s.fld FAB_INBOUND.SRC_NODE w = 0 ∨ s.fld FAB_INBOUND.SRC_NODE w = src) ∧
      base ≤ addr ∧ addr + n ≤ base + sz)

/-- Whether an inbound access may be performed, and the world it is performed in (R244). -/
def State.inboundOk (s : State) (k : Pkt) (n : Nat) (perm : Fld) : Option Bool × State :=
  match s.inbound k.src k.addr n with
  | none => (none, s)
  | some w =>
    let sec := s.fld FAB_INBOUND.WORLD w == 1
    let r := s.dramIs 25 k.addr n sec (s.fld FAB_INBOUND.PARTITION w)
    (if s.fld perm w = 1 ∧ r.1 then some sec else none, r.2)

/-- The response of a performed or refused inbound request. -/
def State.inRsp (s : State) (k : Pkt) (op status : Nat) (data : List Byte) : State :=
  s.fabSend { dst := k.src, op := op, flags := k.flags, tag := k.tag, status := status, len := data.length, data := data }

/-- WRITE (R244, R245): the bytes of the mask are written through the lines' homes, or the write is denied and recorded. -/
def execWrite (s : State) : Res :=
  .next <| match s.takePkt 1 with
  | none => s
  | some (_, k, s) =>
    let bs := k.data.take (k.data.length - 8)
    let mask := ofLeBytes (k.data.drop (k.data.length - 8))
    let n := bs.length
    let ack := fun (s : State) (st : Nat) => if k.flags % 2 = 1 then s.inRsp k 4 st [] else s
    if n = 0 ∨ 64 < n then ack (s.logErr 42 0xFF 2 0x405 k.addr) 3
    else match s.inboundOk k n FAB_INBOUND.WR with
    | (none, s) => ack (s.logErr 42 0xFF 2 0x405 k.addr) 3
    | (some sec, s) =>
      if (linesOf k.addr n).all fun l => s.lineOk l then ack (s.maskedWrite k.addr bs mask sec) 0 else ack s 4

/-- READ (R244, R245): the bytes are read through the lines' homes and returned, or the read is denied and recorded; tagged
data is withheld (R172). -/
def execRead (s0 : State) : Res :=
  .next <| match s0.takePkt 2 with
  | none => s0
  | some (_, k, s) =>
    if k.len = 0 ∨ 64 < k.len then (s.logErr 42 0xFF 2 0x405 k.addr).inRsp k 3 3 []
    else match s.inboundOk k k.len FAB_INBOUND.RD with
    | (none, s) => (s.logErr 42 0xFF 2 0x405 k.addr).inRsp k 3 3 []
    | (some _, s) =>
      match s.dmaRead 24 k.addr k.len with
      | (.wait, _) => s0
      | (.err, s) => s.inRsp k 3 4 []
      | (.ok bs, s) => s.inRsp k 3 0 bs

/-- ATOMIC (R244, R245): the operation performs on the line and the old value is returned, or it is denied and recorded. -/
def execAtomic (s0 : State) : Res :=
  .next <| match s0.takePkt 5 with
  | none => s0
  | some (_, k, s) =>
    let n := if k.aux.testBit 8 then 8 else 4
    match amoOf (k.aux % 32), s.inboundOk k n FAB_INBOUND.ATOM with
    | some op, (some sec, s) =>
      if k.addr % n ≠ 0 then (s.logErr 42 0xFF 2 0x405 k.addr).inRsp k 6 3 []
      else match s.dmaRead 24 k.addr n with
      | (.wait, _) => s0
      | (.err, s) => s.inRsp k 6 4 []
      | (.ok _, s) =>
        let r := s.agentAtomic k.addr n op k.operand sec
        r.2.inRsp k 6 0 (leBytes 8 r.1)
    | _, (_, s) => (s.logErr 42 0xFF 2 0x405 k.addr).inRsp k 6 3 []

/-! ### Time (R249, R250) -/

/-- Correct DTIME to an upstream time (R250): behind by more than 50 µs it steps forward once; otherwise it slews, and
TIME_FAULT is set when it is ahead by more than 50 µs. -/
def State.timeSet (s : State) (p upstream : Nat) : State :=
  if s.dtime + 50000 < upstream then ({ s with dtime := upstream, slew := 0 } : State).raise 1297
  else
    let s1 : State := { s with slew := (upstream : Int) - (s.dtime : Int) }
    if upstream + 50000 < s.dtime then (s1.setFld FAB_PORT_STATUS.TIME_FAULT p 1).raise (portSrc p + 4) else s1

/-- Whether a port is the device's one source of time (R249). -/
def State.upstream (s : State) (p : Nat) : Bool :=
  s.fld FAB_NODE.GM 0 == 0 && ((List.range 8).filter fun q => s.fld FAB_PORT_CTL.TIME_ROLE q == 1) == [p]

/-- TIME_SYNC (R249): from the one upstream port, the device corrects DTIME by the departure time and the link delay, and
asks for the delay again. -/
def execTimeSync (s : State) : Res :=
  .next <| match s.takePkt 0x20 with
  | none => s
  | some (p, k, s) =>
    if s.upstream p = false then s.timeRoles
    else
      let x := s.port p
      let now := s.dtime
      let s1 := (s.setPort p { x with syncT1 := k.operand, syncT2 := now, reqT3 := now }).timeSet p (k.operand + x.delay)
      s1.linkLocal p { op := 0x21 }

/-- TIME_SYNC_INTERVAL (R249): a downstream port sends TIME_SYNC with its departure time. -/
def execTimeSyncInterval (p : Nat) (s : State) : Res :=
  .next <| if s.fld FAB_PORT_STATUS.STATE p = 4 ∧ s.fld FAB_PORT_CTL.TIME_ROLE p = 2 ∧ p < 8 then
    (s.linkLocal p { op := 0x20, operand := s.dtime % 2 ^ 64 }).timeRoles else s.timeRoles

/-- TIME_DELAY_REQ (R249): a downstream port answers with the arrival time. -/
def execTimeDelayReq (s : State) : Res :=
  .next <| match s.takePkt 0x21 with
  | none => s
  | some (p, _, s) =>
    if p < 8 ∧ s.fld FAB_PORT_CTL.TIME_ROLE p = 2 then s.linkLocal p { op := 0x22, len := 8, data := leBytes 8 s.dtime } else s

/-- TIME_DELAY_RSP (R249): the link delay is half of the measured round trip, and DTIME is corrected with it. -/
def execTimeDelayRsp (s : State) : Res :=
  .next <| match s.takePkt 0x22 with
  | none => s
  | some (p, k, s) =>
    if s.upstream p = false then s
    else
      let x := s.port p
      let d := ((x.syncT2 + ofLeBytes k.data) - (x.syncT1 + x.reqT3)) / 2
      (s.setPort p { x with delay := d }).timeSet p (x.syncT1 + d + (s.dtime - x.syncT2))

end Sys2Proof.Machine
end

