-- ==== Sys2Proof/Machine/Repl.lean ====
section
/-! DEFINITION. Replicated journal streams (chapter 11): the messages of node 4, the replica slots, the primary's replicas,
promotion and takeover, catch-up and the last gasp. -/

namespace Sys2Proof.Machine

open Sys2Proof

/-! ### Control blocks and who holds a ledger (R258, R261) -/

/-- The control block at the head of a replication payload (R261). -/
structure Ctl where
  ledger : Nat
  term : Nat
  a : Nat
  b : Nat
  lastTerm : Nat
  reason : Nat
  flags : Nat
  count : Nat
  deriving DecidableEq, Repr

/-- The control block of a packet. -/
def Pkt.ctl (k : Pkt) : Ctl :=
  let g := fun (o n : Nat) => ofLeBytes ((k.data.drop o).take n)
  { ledger := g 0 4, term := g 4 4, a := g 8 8, b := g 16 8, lastTerm := g 24 4, reason := g 28 1, flags := g 29 1, count := g 30 2 }

/-- The slot, or the stream, of this device that holds a ledger (R258). -/
def State.slotOf (s : State) (ledger : Nat) : Option Nat :=
  if ledger = 0 then none
  else (List.range 64).find? fun i => s.fld JRN_RSLOT_CFG.VALID i == 1 && s.fld JRN_RSLOT_CFG.LEDGER i == ledger

def State.streamOf (s : State) (ledger : Nat) : Option Nat :=
  if ledger = 0 then none else (List.range 64).find? fun n => s.fld JRN_REPL_CFG.LEDGER n == ledger

/-- Send a message with a control block of its own. -/
def State.ctlMsg (s : State) (op node ledger term a b lastTerm reason : Nat) : State :=
  let d := ctlBlock ledger term a b lastTerm reason 0 0
  s.fabSend { dst := node, op := op, len := d.length, data := d }

/-- The answer to a request for a ledger that the device does not hold: NOT_ARMED, in the request's term. -/
def State.notArmed (s : State) (k : Pkt) : State :=
  s.ctlMsg (if k.op = 0x15 then 0x17 else 0x12) k.src k.ctl.ledger k.ctl.term 0 0 0 3

/-- An answer of a slot: its ledger, term, HELD and LAST_TERM. -/
def State.slotMsg (s : State) (i op node reason : Nat) : State :=
  s.ctlMsg op node (s.fld JRN_RSLOT_CFG.LEDGER i) (s.fld JRN_RSLOT_TERM.TERM i) (s.fld JRN_RSLOT_HELD.HELD i) 0
    (s.fld JRN_RSLOT_TERM.LAST_TERM i) reason

/-- An answer of a stream: its ledger, term, last appended number and that record's term (R272). -/
def State.streamMsg (s : State) (n op node reason : Nat) : State :=
  s.ctlMsg op node (s.fld JRN_REPL_CFG.LEDGER n) (s.fld JRN_REPL_STATE.TERM n) (s.stream n).lastApp 0
    (s.stream n).lastTerm reason

/-- A replication record of class uncorrected, with its source (R279, R370). -/
def State.replError (s : State) (unit code addr : Nat) : State := (s.logErr 4 unit 2 code addr).raise 1413

/-! ### Replica slots (R264, R265) -/

/-- Set a slot's state; reaching ENDED raises its source (R370). -/
def State.setSlotState (s : State) (i st : Nat) : State :=
  if s.fld JRN_RSLOT_CFG.STATE i = st then s
  else
    let s1 := s.setFld JRN_RSLOT_CFG.STATE i st
    if st = 4 then s1.raise 1412 else s1

def State.slotSize (s : State) (i : Nat) : Nat :=
  if s.fld JRN_RSLOT_REGION.SIZE_LOG2 i = 0 then 0 else 2 ^ s.fld JRN_RSLOT_REGION.SIZE_LOG2 i

/-- What an append to a slot's region comes to: appended, no room (R195), or refused (R194). -/
inductive SlotPut where
  | done (s : State)
  | full (s : State)
  | refused (s : State)

/-- Append a record, byte for byte, to a slot's region (R264). -/
def State.slotAppend (s : State) (i : Nat) (bs : List Byte) : SlotPut :=
  let size := s.slotSize i
  let base := s.fld JRN_RSLOT_REGION.BASE i * 2 ^ 21
  let ptr := s.fld JRN_RSLOT_APPEND.APPEND i
  let pad := padFor size ptr bs.length
  if size = 0 then .refused s
  else if size < ptrDiff (ptr + pad + bs.length) (s.fld JRN_RSLOT_DRAIN.DRAIN i) then .full s
  else
    let ok1 := s.appendOk false (s.fld JRN_RSLOT_CFG.PARTITION i) (base + (ptr + pad) % size) bs.length
    let ok2 := if pad = 0 then ok1 else ok1.2.appendOk false (s.fld JRN_RSLOT_CFG.PARTITION i) (base + ptr % size) pad
    if ok1.1 && ok2.1 then
      let p := ok2.2.regionPut ((bs.getD 20 0).toNat) base size ptr bs
      .done (p.1.setFld JRN_RSLOT_APPEND.APPEND i p.2)
    else .refused ok2.2

/-- How the records of a quire end: all taken, a bad record, no room, or a refused append; with whether any was appended. -/
inductive QuireEnd where
  | all | bad | full | refused
  deriving DecidableEq, Repr

/-- Take the records of a quire in order (R265): those up to HELD are skipped, each further one is checked and appended, and
HELD and LAST_TERM follow it. -/
def State.takeRecs : Nat → Nat → List Byte → Bool → State → QuireEnd × Bool × State
  | 0, _, _, any, s => (.all, any, s)
  | fuel + 1, i, bs, any, s =>
    if bs.isEmpty then (.all, any, s)
    else
      let g := fun (o n : Nat) => ofLeBytes ((bs.drop o).take n)
      let len := g 4 4
      let rec1 := bs.take len
      let held := s.fld JRN_RSLOT_HELD.HELD i
      if len < 64 ∨ bs.length < len then (.bad, any, s)
      else if g 8 8 ≤ held then State.takeRecs fuel i (bs.drop len) any s
      else if recOk rec1 = false ∨ g 8 8 ≠ held + 1 then (.bad, any, s)
      else match s.slotAppend i rec1 with
      | .full s => (.full, any, s)
      | .refused s => (.refused, any, s)
      | .done s => State.takeRecs fuel i (bs.drop len) true
          ((s.setFld JRN_RSLOT_HELD.HELD i (g 8 8)).setFld JRN_RSLOT_TERM.LAST_TERM i (g 16 4))

/-- The term check of a slot on a QUIRE, PROBE or LAST_GASP (R265): none where the message ends there; a witness drops what
is not below its term. -/
def State.slotTerm (s : State) (i : Nat) (k : Pkt) : Option State :=
  let t := s.fld JRN_RSLOT_TERM.TERM i
  if s.fld JRN_RSLOT_CFG.WITNESS i = 1 then none
  else if t < k.ctl.term then
    some ((s.setFld JRN_RSLOT_TERM.TERM i k.ctl.term).setFld JRN_RSLOT_CFG.PRIMARY i k.src)
  else some s

/-- Whether a message's term is below the slot's. -/
def State.slotStale (s : State) (i : Nat) (k : Pkt) : Bool := decide (k.ctl.term < s.fld JRN_RSLOT_TERM.TERM i)

/-- The answer of a stream to a request whose term is below its own: REJECT STALE_TERM, or TERM_REFUSE (R266). -/
def State.streamStale (s : State) (n : Nat) (k : Pkt) : State :=
  s.streamMsg n (if k.op = 0x15 then 0x17 else 0x12) k.src (if k.op = 0x15 then 6 else 1)

/-- A candidate gives up (R266): PROMOTE_ERR, the record PROMOTION_FAILED with the proposed term, and IDLE. -/
def State.promotionFails (s : State) (n err : Nat) : State :=
  ((s.setFld JRN_REPL_STATE.PROMOTE_ERR n err).logErr 4 n 1 0x209 (s.fld JRN_REPL_STATE.TERM n)).setReplState n 0

/-- A primary-side stream learns of a term above its own (R266, R274). -/
def State.higherTerm (s : State) (n term : Nat) : State :=
  match s.fld JRN_REPL_STATE.STATE n with
  | 3 => (s.promotionFails n 6).setFld JRN_REPL_STATE.TERM n term
  | 1 => ((s.setFld JRN_REPL_STATE.TERM n term).fence n 1).setReplState n 4
  | 2 => ((s.setFld JRN_REPL_STATE.TERM n term).fence n 1).setReplState n 4
  | _ => s.setFld JRN_REPL_STATE.TERM n term

/-- The term check of a stream on a message (R266): below its own term a request is answered and a response dropped; above
it, the stream takes the term. The result tells whether the message is handled further. -/
def State.streamTerm (s : State) (n : Nat) (k : Pkt) (request : Bool) : Bool × State :=
  let t := s.fld JRN_REPL_STATE.TERM n
  if k.ctl.term < t then (false, if request then s.streamStale n k else s)
  else if t < k.ctl.term then (true, s.higherTerm n k.ctl.term)
  else (true, s)

/-- While a promotion runs, its stream and the slot that it names hold one ledger (R258): the candidate sees the terms of the messages that
the slot takes (R266). -/
def State.candidateSees (s : State) (k : Pkt) : State :=
  match s.streamOf k.ctl.ledger with
  | some n => if s.fld JRN_REPL_STATE.STATE n = 3 ∧ s.fld JRN_REPL_STATE.TERM n < k.ctl.term then s.higherTerm n k.ctl.term else s
  | none => s

/-- A request that only a slot serves, sent to a ledger that a stream holds or that the device does not hold. -/
def State.notSlot (s : State) (k : Pkt) : State :=
  match s.streamOf k.ctl.ledger with
  | some n => (s.streamTerm n k true).2
  | none => s.notArmed k

/-- QUIRE (R265). -/
def execQuire (s : State) : Res :=
  .next <| match s.takePkt 0x10 with
  | none => s
  | some (_, k, s) =>
    match s.slotOf k.ctl.ledger with
    | none => s.notSlot k
    | some i =>
      let s := s.candidateSees k
      if s.fld JRN_RSLOT_CFG.STATE i = 0 then s
      else if s.slotStale i k then s.slotMsg i 0x12 k.src 1
      else match s.slotTerm i k with
      | none => s
      | some s =>
        let held := s.fld JRN_RSLOT_HELD.HELD i
        let next := if k.ctl.flags % 2 = 1 then 2 else 3
        if k.ctl.b ≤ held then s.slotMsg i 0x11 k.src 0
        else if held + 1 < k.ctl.a then s.slotMsg i 0x12 k.src 2
        else
          let r := State.takeRecs 1024 i (k.data.drop 32) false s
          let s1 := r.2.2
          let moved := if r.2.1 then s1.setSlotState i next else s1
          match r.1 with
          | .all => (s1.setSlotState i next).slotMsg i 0x11 k.src 0
          | .full => moved
          | .bad => moved.slotMsg i 0x12 k.src 4
          | .refused =>
            ((s1.logErr 4 (0x40 + i) 1 0x202 (s1.fld JRN_RSLOT_REGION.BASE i * 2 ^ 21)).slotMsg i 0x12 k.src
              5).setSlotState i 0

/-- PROBE (R265): a slot answers with ACK. -/
def execProbe (s : State) : Res :=
  .next <| match s.takePkt 0x13 with
  | none => s
  | some (_, k, s) =>
    match s.slotOf k.ctl.ledger with
    | none => s.notSlot k
    | some i =>
      let s := s.candidateSees k
      if s.fld JRN_RSLOT_CFG.STATE i = 0 then s
      else if s.slotStale i k then s.slotMsg i 0x12 k.src 1
      else match s.slotTerm i k with
      | none => s
      | some s => if s.fld JRN_RSLOT_CFG.STATE i = 4 then s else s.slotMsg i 0x11 k.src 0

/-- LAST_GASP (R265, R276): the record is appended where it can be, GASP takes F and the slot ends; one of an older term is
recorded as stale and not applied. -/
def execLastGasp (s : State) : Res :=
  .next <| match s.takePkt 0x18 with
  | none => s
  | some (_, k, s) =>
    match s.slotOf k.ctl.ledger with
    | none => s.notSlot k
    | some i =>
      let s := s.candidateSees k
      if s.fld JRN_RSLOT_CFG.STATE i = 0 then s
      else if s.slotStale i k then s.logErr 4 (0x40 + i) 1 0x208 k.ctl.a
      else match s.slotTerm i k with
      | none => s
      | some s =>
        let st := s.fld JRN_RSLOT_CFG.STATE i
        if (st = 2 ∨ st = 3) ∧ s.fld JRN_RSLOT_CFG.PRIMARY i = k.src then
          let s1 := match s.slotAppend i ((k.data.drop 32).take 64) with
            | .done s => s
            | .full s => s
            | .refused s =>
              if s.slotSize i = 0 then s
              else s.logErr 4 (0x40 + i) 1 0x202 (s.fld JRN_RSLOT_REGION.BASE i * 2 ^ 21)
          (s1.setFld JRN_RSLOT_GASP.SEQUENCE i k.ctl.a).setSlotState i 4
        else s

/-- A write to JRN_RSLOT_CFG (R265): VALID written 1 arms the slot and sends REJOIN, except from a witness; written 0 it turns it OFF. -/
def State.slotCfgWrite (s : State) (ag : Agent) (slot : Nat) (w : W) : State :=
  let was := s.fld JRN_RSLOT_CFG.VALID slot
  s.onWrite ag .JRN_RSLOT_CFG slot w fun s =>
    let now := s.fld JRN_RSLOT_CFG.VALID slot
    if was = 0 ∧ now = 1 then
      let s1 := (s.setFld JRN_RSLOT_GASP.SEQUENCE slot 0).setSlotState slot 1
      if s1.fld JRN_RSLOT_CFG.WITNESS slot = 1 then s1
      else s1.slotMsg slot 0x14 (s1.fld JRN_RSLOT_CFG.PRIMARY slot) 0
    else if now = 0 then s.setSlotState slot 0
    else s

/-- SLOT_VALID (R265): a write to JRN_RSLOT_CFG. -/
def execSlotValid (ag : Agent) (slot : Nat) (w : W) (s : State) : Res := .next (s.slotCfgWrite ag slot w)

/-! ### Votes (R271, R272) -/

/-- Whether a voter grants a term (R272). -/
def grants (proposed term candTerm candHeld lastTerm held : Nat) : Bool :=
  decide (term < proposed) && (decide (lastTerm < candTerm) || (candTerm == lastTerm && decide (held ≤ candHeld)))

/-- TERM_REQUEST (R272): a slot or a primary-side stream votes; a witness grants any higher term. -/
def execTermRequest (s : State) : Res :=
  .next <| match s.takePkt 0x15 with
  | none => s
  | some (_, k, s) =>
    let q := k.ctl
    match s.slotOf q.ledger with
    | some i =>
      let s := s.candidateSees k
      let t := s.fld JRN_RSLOT_TERM.TERM i
      if s.fld JRN_RSLOT_CFG.STATE i = 0 then s
      else if q.term ≤ t then s.slotMsg i 0x17 k.src 6
      else if s.fld JRN_RSLOT_CFG.WITNESS i = 1 ∨
          grants q.term t q.lastTerm q.a (s.fld JRN_RSLOT_TERM.LAST_TERM i) (s.fld JRN_RSLOT_HELD.HELD i) then
        (((s.setFld JRN_RSLOT_TERM.TERM i q.term).setFld JRN_RSLOT_CFG.PRIMARY i k.src).setSlotState i 1).slotMsg i 0x16
          k.src 0
      else s.slotMsg i 0x17 k.src 7
    | none =>
      match s.streamOf q.ledger with
      | none => s.notArmed k
      | some n =>
        let t := s.fld JRN_REPL_STATE.TERM n
        let x := s.stream n
        if q.term ≤ t then s.streamMsg n 0x17 k.src 6
        else
          let s1 := s.higherTerm n q.term
          if grants q.term t q.lastTerm q.a x.lastTerm x.lastApp then s1.streamMsg n 0x16 k.src 0
          else s1.streamMsg n 0x17 k.src 7

/-- The members of a stream that vote, and the member at a node: 0 and 1 the replicas, 2 the witness. -/
def State.members (s : State) (n : Nat) : List Nat := (List.range 3).filter fun r => (s.member n r).isSome
def State.memberAt (s : State) (n node : Nat) : Option Nat := (List.range 3).find? fun r => s.member n r == some node

/-- The bit of GRANTED that stands for a member. -/
def grantBit (r : Nat) : Nat := if r = 0 then 4 else if r = 1 then 2 else 1

/-- A replica enters CATCH_UP from `h` + 1 (R267, R269): the reader starts at the engine's position after the last
acknowledgement in this term where it keeps one at or below `h`. -/
def State.catchUp (s : State) (n r h : Nat) : State :=
  let x := s.getRepl n r
  let s1 := s.setRepl n r { x with quires := [], probes := 0, next := h + 1, walk := true, pos := none }
  (s1.setRstate n r 2).freeStaged n

/-- A replica leaves the answering states, or goes OFF with its HELD. -/
def State.replLeaves (s : State) (n r st : Nat) : State :=
  let x := s.getRepl n r
  let s1 := s.setRepl n r { x with quires := [], probes := 0, walk := false, pos := none }
  let s2 := if st = 0 then s1.setFld JRN_REPL_HELD.HELD (n * 2 + r) 0 else s1
  (s2.setRstate n r st).freeStaged n

/-- The divergence row of R267: a replica whose last record is of an older term and that holds numbers of this opening. -/
def State.diverged (s : State) (n h lastTerm : Nat) : Bool :=
  decide (lastTerm < s.fld JRN_REPL_STATE.TERM n) && decide ((s.stream n).openNext ≤ h)

/-- The takeover of R273: the region, NEXT and the journal pointers, the sweep that opens the stream, and each replica's
state. -/
def State.takeover (s : State) (n : Nat) : State :=
  let slot := s.fld JRN_REPL_STATE.SLOT n
  let s1 :=
    if s.fld JRN_REPL_STATE.SLOT_V n = 1 then
      let h := s.fld JRN_RSLOT_HELD.HELD slot
      let t := ((s.setFld JRN_REGION.BASE n (s.fld JRN_RSLOT_REGION.BASE slot)).setFld JRN_REGION.SIZE_LOG2 n
        (s.fld JRN_RSLOT_REGION.SIZE_LOG2 slot)).setFld JRN_APPEND_PTR.APPEND n (s.fld JRN_RSLOT_APPEND.APPEND slot)
      let t := (t.setFld JRN_DRAIN_PTR.DRAIN n (s.fld JRN_RSLOT_DRAIN.DRAIN slot)).setFld SPN_STREAM_NEXT.NEXT n (h + 1)
      let t := (t.setFld JRN_RSLOT_CFG.VALID slot 0).setSlotState slot 0
      t.setStream n { t.stream n with lastApp := h, lastTerm := s.fld JRN_RSLOT_TERM.LAST_TERM slot }
    else
      let w := s.fld SPN_STREAM_WMARK.W n
      let drain := s.fld JRN_DRAIN_PTR.DRAIN n
      let f := if w = 0 then none else s.findRec (s.jrnBase n) (s.jrnSize n) (s.fld JRN_APPEND_PTR.APPEND n) w
        (s.jrnSize n / 64 + 1) drain
      let t := (s.setFld SPN_STREAM_NEXT.NEXT n (w + 1)).setFld JRN_APPEND_PTR.APPEND n
        (match f with | some e => e.2.1 | none => drain)
      t.setStream n { t.stream n with lastApp := w, lastTerm := match f with | some e => e.2.2 | none => 0 }
  let s2 := s1.setStream n { s1.stream n with openNext := s1.fld SPN_STREAM_NEXT.NEXT n }
  let s3 := (List.range 2).foldl (fun (s : State) r =>
    let x := s.getRepl n r
    let set := fun (s : State) (v : Nat) =>
      s.setFld (if r = 0 then JRN_REPL_STATE.R0_STATE else JRN_REPL_STATE.R1_STATE) n v
    if (s.member n r).isNone then set s 0
    else match x.grant with
    | some (h, lt) =>
      let s := s.setRepl n r { next := h + 1, walk := true }
      if s.diverged n h lt then set ((s.replError n 0x207 h).setFld JRN_REPL_HELD.HELD (n * 2 + r) 0) 0
      else set (s.setFld JRN_REPL_HELD.HELD (n * 2 + r) h) 2
    | none => set ((s.setRepl n r {}).setFld JRN_REPL_HELD.HELD (n * 2 + r) 0) 3) s2
  ((s3.setReplState n 1).judge n).startSweep n true

/-- A candidate that has a majority takes over (R271, R273). -/
def State.countVotes (s : State) (n : Nat) : State :=
  let g := ((List.range 3).filter fun b => (s.fld JRN_REPL_STATE.GRANTED n).testBit b).length + 1
  if (s.members n).length + 1 < 2 * g then s.takeover n else s

/-- The stream, the member and the message of a response of the current term, or the state the term check left. -/
def State.response (s : State) (k : Pkt) : State × Option (Nat × Option Nat) :=
  match s.streamOf k.ctl.ledger with
  | none => (s, none)
  | some n =>
    let r := s.streamTerm n k false
    (r.2, if r.1 then some (n, r.2.memberAt n k.src) else none)

/-- TERM_GRANT (R266): the candidate counts the grant and takes over on a majority; later, only the divergence row acts. -/
def execTermGrant (s : State) : Res :=
  .next <| match s.takePkt 0x16 with
  | none => s
  | some (_, k, s) =>
    match s.response k with
    | (s, some (n, some r)) =>
      if s.fld JRN_REPL_STATE.STATE n = 3 ∧ k.ctl.term = s.fld JRN_REPL_STATE.TERM n then
        let s1 := s.setFld JRN_REPL_STATE.GRANTED n (s.fld JRN_REPL_STATE.GRANTED n ||| grantBit r)
        let s2 := if r < 2 then s1.setRepl n r { s1.getRepl n r with grant := some (k.ctl.a, k.ctl.lastTerm) } else s1
        s2.countVotes n
      else if r < 2 ∧ s.rstate n r ≠ 0 ∧ s.diverged n k.ctl.a k.ctl.lastTerm ∧ s.sending n then
        (s.replError n 0x207 k.ctl.a).replLeaves n r 0
      else s
    | (s, _) => s

/-- TERM_REFUSE (R266), or the switch's UNREACHABLE: the candidate fails when a majority can no longer be reached. -/
def execTermRefuse (s : State) : Res :=
  .next <| match s.takePkt 0x17 with
  | none => s
  | some (_, k, s) =>
    match s.response k with
    | (s, some (n, some r)) =>
      if s.fld JRN_REPL_STATE.STATE n = 3 then
        let x := s.stream n
        let m := x.refused ||| grantBit r
        let s1 := s.setStream n { x with refused := m }
        let voters := (s1.members n).length + 1
        let left := voters - ((List.range 3).filter fun b => m.testBit b).length
        if 2 * left ≤ voters then s1.promotionFails n 1 else s1
      else s
    | (s, _) => s

/-- A write to JRN_REPL_STATE with CMD PROMOTE (R266, R271): the stream becomes a candidate in the new term, or PROMOTE_ERR is
written and TERM, SLOT and SLOT_V stay as they were. -/
def State.promoteWrite (s0 : State) (ag : Agent) (stream : Nat) (w : W) : State :=
  let old := s0.rd .JRN_REPL_STATE stream
  s0.onWrite ag .JRN_REPL_STATE stream w fun s =>
    if field w 3 0 ≠ 1 then s
    else
      let st := s.fld JRN_REPL_STATE.STATE stream
      let spn := s.fld SPN_STREAM_STATE.STATE stream
      let slot := s.fld JRN_REPL_STATE.SLOT stream
      let useSlot := s.fld JRN_REPL_STATE.SLOT_V stream = 1
      let err := if st = 1 ∨ st = 2 ∨ st = 3 then 7
        else if spn ≠ 0 ∧ spn ≠ 3 then 3
        else if s.fld JRN_REPL_STATE.TERM stream ≤ field old 47 16 then 4
        else if useSlot ∧ s.fld JRN_RSLOT_CFG.VALID slot = 0 then 5 else 0
      if err ≠ 0 then (s.wr .JRN_REPL_STATE stream old).setFld JRN_REPL_STATE.PROMOTE_ERR stream err
      else
        let t := s.fld JRN_REPL_STATE.TERM stream
        let s1 := (s.setFld JRN_REPL_STATE.PROMOTE_ERR stream 0).setFld JRN_REPL_STATE.GRANTED stream 0
        let s2 := if useSlot then s1.setFld JRN_RSLOT_TERM.TERM slot t else s1
        let s3 := s2.setStream stream { s2.stream stream with refused := 0 }
        let s4 := ((s3.setRepl stream 0 { s3.getRepl stream 0 with grant := none }).setRepl stream 1
          { s3.getRepl stream 1 with grant := none }).setReplState stream 3
        let held := if useSlot then s4.fld JRN_RSLOT_HELD.HELD slot else (s4.stream stream).lastApp
        let lt := if useSlot then s4.fld JRN_RSLOT_TERM.LAST_TERM slot else (s4.stream stream).lastTerm
        let s5 := (s4.members stream).foldl (fun s r =>
          match s.member stream r with
          | some node => s.ctlMsg 0x15 node (s.fld JRN_REPL_CFG.LEDGER stream) t held 0 lt 0
          | none => s) s4
        s5.countVotes stream

/-- CMD_PROMOTE (R266, R271): a write to JRN_REPL_STATE with CMD PROMOTE. -/
def execCmdPromote (ag : Agent) (stream : Nat) (w : W) (s : State) : Res := .next (s.promoteWrite ag stream w)

/-- A write to JRN_REPL_STATE with CMD STEP_DOWN (R266): the stream is fenced as a term fence and deposed. -/
def State.stepDownWrite (s : State) (ag : Agent) (stream : Nat) (w : W) : State :=
  s.onWrite ag .JRN_REPL_STATE stream w fun s =>
    if field w 3 0 = 2 ∧ s.sending stream then (s.fence stream 1).setReplState stream 4 else s

/-- STEP_DOWN (R266): a write to JRN_REPL_STATE with CMD STEP_DOWN. -/
def execStepDown (ag : Agent) (stream : Nat) (w : W) (s : State) : Res := .next (s.stepDownWrite ag stream w)

/-- PROMOTION_LIMIT (R266): 10 ms pass without a majority; FREEZE stops the timer (R278). -/
def execPromotionLimit (stream : Nat) (s : State) : Res :=
  .next <| if s.fld JRN_REPL_STATE.STATE stream = 3 ∧ s.fld FAB_NODE.FREEZE 0 = 0 then s.promotionFails stream 2 else s

/-! ### The last gasp (R275) -/

/-- Steps 3 and 4 of R275, the engine having stopped sending: LAST_GASP with F goes to every LIVE and CATCH_UP replica and, if
appends can proceed, into the stream's own region; the stream is fenced and its replication ends. -/
def State.gaspEnd (s : State) (stream : Nat) : State :=
  let x := s.stream stream
  let live := (List.range 2).filter fun r => s.rstate stream r == 1
  let f := if live.isEmpty then x.lastApp
    else live.foldl (fun m r => Nat.min m ((s.getRepl stream r).next - 1)) (s.fld SPN_STREAM_ASSIGNED.A stream)
  let r : JRec := { seq := f, typ := 4, term := s.fld JRN_REPL_STATE.TERM stream, part := s.streamPart stream, time := s.dtime,
                    level := s.fld SPN_STREAM_CFG.LEVEL stream, origin := s.fld FAB_NODE.NODE_ID 0,
                    opening := s.fld SPN_STREAM_STATE.OPENING stream }
  let bs := recBytes stream r 0
  let s1 := (List.range 2).foldl (fun (s : State) q =>
    match s.member stream q with
    | some node => if s.rstate stream q = 1 ∨ s.rstate stream q = 2 then s.replMsg stream 0x18 node f 0 0 0 0 bs else s
    | none => s) s
  let base := s1.jrnBase stream
  let size := s1.jrnSize stream
  let ptr := s1.fld JRN_APPEND_PTR.APPEND stream
  let s2 :=
    if size = 0 ∨ s1.regionFits stream bs.length = false then s1
    else
      let ok := s1.appendOk (s1.owner (ixStream stream)).isNone (s1.streamPart stream)
        (base + (ptr + padFor size ptr 64) % size) 64
      if ok.1 then
        let p := ok.2.regionPut stream base size ptr bs
        p.1.setFld JRN_APPEND_PTR.APPEND stream p.2
      else ok.2
  (s2.fence stream 3).setReplState stream 5

/-- Whether the engine has nothing left to send to a LIVE replica: every assigned number has been sent, or the next one's
segments are incomplete (step 2 of R275). -/
def State.gaspSent (s : State) (n : Nat) : Bool :=
  (List.range 2).all fun r => s.rstate n r != 1 ||
    !((tget [] s.jrnRecs n).any fun q => q.seq == (s.getRepl n r).next && q.complete)

/-- Send what can be sent, and end the last gasp of a stream that has nothing left to send. -/
def State.gaspStep (s : State) (n : Nat) : State :=
  let s1 := s.replPump n
  if (s1.stream n).gasp && s1.sending n && s1.gaspSent n then s1.gaspEnd n else s1

/-- Steps 1 and 2 of R275: the streams that replicate stop assigning numbers, and the engine sends what is assigned. -/
def State.gaspStart (s : State) : State :=
  (List.range 64).foldl (fun (s : State) n =>
    if s.sending n then (s.setStream n { s.stream n with gasp := true }).gaspStep n else s) s

/-- LAST_GASP_BUDGET (R275): GASP_US has passed, and the engine stops sending. -/
def execLastGaspBudget (stream : Nat) (s : State) : Res :=
  .next (if (s.stream stream).gasp && s.sending stream then (s.replPump stream).gaspEnd stream else s)

/-! ### The primary's replicas (R267 to R269) -/

/-- Where the record numbered `h` of a stream ends in its region, from the engine's last position or the drain pointer. -/
def State.posAfter (s : State) (n r h : Nat) : Option Nat :=
  let p := match (s.getRepl n r).lastAck with | some e => e.2 | none => s.fld JRN_DRAIN_PTR.DRAIN n
  (s.findRec (s.jrnBase n) (s.jrnSize n) (s.fld JRN_APPEND_PTR.APPEND n) h (s.jrnSize n / 64 + 1) p).map (·.2.1)

/-- A replica acknowledged `h`: the quires and probes it answers are no longer outstanding, and the engine keeps the region
position after it where the record is in the region. -/
def State.answered (s : State) (n r h : Nat) : State :=
  let x := s.getRepl n r
  let la := match s.posAfter n r h with | some p => some (h, p) | none => x.lastAck
  s.setRepl n r { x with quires := x.quires.filter fun q => h < q.2, probes := 0, lastAck := la }

/-- Record a replica's acknowledgement of every number up to `h` (R181). -/
def State.ackUpTo (s : State) (n r h : Nat) : State :=
  let x := s.stream n
  let nums := x.nums.map fun e => if e.seq ≤ h then { e with acks := e.acks ||| (r + 1) } else e
  (s.setFld JRN_REPL_HELD.HELD (n * 2 + r) h).setStream n { x with nums := nums }

/-- A SILENT replica answers with HELD `h` (R267). -/
def State.replReturns (s : State) (n r h : Nat) : State :=
  let s1 := if h < s.fld JRN_REPL_HELD.HELD (n * 2 + r) then s.logErr 4 n 1 0x205 h else s
  (s1.ackUpTo n r h).catchUp n r h

/-- ACK (R267). -/
def execAck (s : State) : Res :=
  .next <| match s.takePkt 0x11 with
  | none => s
  | some (_, k, s) =>
    match s.response k with
    | (s, some (n, some r)) =>
      let h := k.ctl.a
      let st := s.rstate n r
      let s := s.count cuJrn 0x05 none 1
      if 2 ≤ r ∨ st = 0 ∨ s.sending n = false then s
      else if s.diverged n h k.ctl.lastTerm then (s.replError n 0x207 h).replLeaves n r 0
      else if st = 3 then s.replReturns n r h
      else
        let s1 := s.answered n r h
        let s2 := if s.fld JRN_REPL_HELD.HELD (n * 2 + r) < h then s1.ackUpTo n r h else s1
        s2.gaspStep n
    | (s, _) => s

/-- REJECT (R267): catch-up after GAP or BAD_RECORD, SILENT after NOT_ARMED, REGION_REFUSED or UNREACHABLE. -/
def execReject (s : State) : Res :=
  .next <| match s.takePkt 0x12 with
  | none => s
  | some (_, k, s) =>
    match s.response k with
    | (s, some (n, some r)) =>
      let st := s.rstate n r
      if 2 ≤ r ∨ s.sending n = false ∨ (st ≠ 1 ∧ st ≠ 2) then s
      else if k.status = 5 then (s.logErr 4 n 1 0x20A k.src).replLeaves n r 3
      else if k.ctl.reason = 2 ∨ k.ctl.reason = 4 then s.catchUp n r k.ctl.a
      else if k.ctl.reason = 3 ∨ k.ctl.reason = 5 then s.replLeaves n r 3
      else s
    | (s, _) => s

/-- REJOIN (R267). -/
def execRejoin (s : State) : Res :=
  .next <| match s.takePkt 0x14 with
  | none => s
  | some (_, k, s) =>
    match s.streamOf k.ctl.ledger with
    | none => if (s.slotOf k.ctl.ledger).isSome then s else s.notArmed k
    | some n =>
      let t := s.streamTerm n k true
      let s := t.2
      match t.1, s.memberAt n k.src with
      | true, some r =>
        let h := k.ctl.a
        let st := s.rstate n r
        if 2 ≤ r ∨ st = 0 then s
        else if s.sending n ∧ s.diverged n h k.ctl.lastTerm then (s.replError n 0x207 h).replLeaves n r 0
        else if st = 3 then s.replReturns n r h
        else if h < s.fld JRN_REPL_HELD.HELD (n * 2 + r) then
          ((s.logErr 4 n 1 0x205 h).setFld JRN_REPL_HELD.HELD (n * 2 + r) h).catchUp n r h
        else s
      | _, _ => s

/-- PROBE_INTERVAL (R267): a SILENT replica is probed every PEER_TIMEOUT_US / 4; FREEZE stops the timer (R278). -/
def execProbeInterval (stream r : Nat) (s : State) : Res :=
  .next <| match s.member stream r with
  | some node =>
    if r < 2 ∧ s.rstate stream r = 3 ∧ s.sending stream ∧ s.fld FAB_NODE.FREEZE 0 = 0 then
      let x := s.getRepl stream r
      (s.setRepl stream r { x with probes := x.probes + 1 }).replMsg stream 0x13 node
        (s.fld SPN_STREAM_ASSIGNED.A stream) (s.fld SPN_STREAM_WMARK.W stream) 0 0 0 []
    else s
  | none => s

/-- REPLICA_SILENT (R267): nothing outstanding has been answered for PEER_TIMEOUT_US. -/
def execReplicaSilent (stream r : Nat) (s : State) : Res :=
  let x := s.getRepl stream r
  .next <| match s.member stream r with
  | some node =>
    if r < 2 ∧ (s.rstate stream r = 1 ∨ s.rstate stream r = 2) ∧ s.sending stream ∧ s.fld FAB_NODE.FREEZE 0 = 0 ∧
        (x.quires ≠ [] ∨ x.probes ≠ 0) then
      (s.logErr 4 stream 1 0x20A node).replLeaves stream r 3
    else s
  | none => s

/-- CATCHUP_WALK (R269): the header walk finds the start record, or finds that the region no longer holds it. -/
def execCatchupWalk (stream r : Nat) (s : State) : Res :=
  let x := s.getRepl stream r
  let stop := s.fld JRN_APPEND_PTR.APPEND stream
  .next <| if 2 ≤ r ∨ s.rstate stream r ≠ 2 ∨ x.walk = false ∨ s.sending stream = false then s
  else
    let start := match x.lastAck with
      | some e => if e.1 < x.next then e.2 else s.fld JRN_DRAIN_PTR.DRAIN stream
      | none => s.fld JRN_DRAIN_PTR.DRAIN stream
    match s.findRec (s.jrnBase stream) (s.jrnSize stream) stop x.next (s.jrnSize stream / 64 + 1) start with
    | some e => (s.setRepl stream r { x with walk := false, pos := some e.1 }).replPump stream
    | none =>
      if (s.stream stream).lastApp < x.next then s.setRepl stream r { x with walk := false, pos := some stop }
      else (s.replError stream 0x206 x.next).replLeaves stream r 0

/-- CATCHUP_SWITCH (R269): the reader has sent the highest appended number and the replica becomes LIVE. -/
def execCatchupSwitch (stream r : Nat) (s : State) : Res :=
  let x := s.getRepl stream r
  .next <| if r < 2 ∧ s.rstate stream r = 2 ∧ x.walk = false ∧ (s.stream stream).lastApp < x.next ∧ s.sending stream then
    let recs := (tget [] s.jrnRecs stream).map fun q => if q.seq < x.next then { q with sentTo := q.sentTo ++ [r] } else q
    let s1 : State := { s with jrnRecs := tset [] s.jrnRecs stream recs }
    (s1.setRstate stream r 1).replPump stream
  else s

/-- What a write to JRN_REPL_MEMBERS does to the replicas (R267): one made valid becomes SILENT, one made invalid OFF. -/
def State.membersWritten (s : State) (n : Nat) (old : W) : State :=
  (List.range 2).foldl (fun (s : State) r =>
    let was := bit old (63 - r)
    let now := (s.member n r).isSome
    if was = false ∧ now then (s.setRepl n r {}).setRstate n r 3
    else if was ∧ now = false then s.replLeaves n r 0
    else s) s

/-- DEGRADED_FROM_CLEAR (R268): a write of 0 clears FROM; other writes are ignored. -/
def execDegradedFromClear (ag : Agent) (stream : Nat) (w : W) (s : State) : Res :=
  .next (s.onWrite ag .JRN_REPL_DEGRADED stream w id)

end Sys2Proof.Machine
end

