-- ==== Sys2Proof/Machine/Dram.lean ====
section
/-! DEFINITION. The DDR4 memory controllers (chapter 12): training and the address map, the queues and their scheduling, ECC
and poison, failing devices, ranks and channels, the patrol scrub and refresh. -/

namespace Sys2Proof.Machine

open Sys2Proof

/-! ### Channels -/

def State.chan (s : State) (ch : Nat) : Chan := tget {} s.chans ch
def State.setChan (s : State) (ch : Nat) (x : Chan) : State := { s with chans := tset {} s.chans ch x }

/-- The channels in use. -/
def State.chInUse (s : State) : List Nat :=
  (List.range 16).filter fun ch => s.fld MCT_CH_STATUS.STATE ch == 2 || s.fld MCT_CH_STATUS.STATE ch == 3

/-- The first wired source of a channel (R369), and its record's writer. -/
def chSrc (ch : Nat) : Nat := 384 + 16 * ch
def State.chRecord (s : State) (ch cls code addr off : Nat) : State :=
  (s.logErr (chNode ch) ch cls code addr).raise (chSrc ch + off)

/-! ### Training and the map (R281 to R288) -/

/-- Leave a channel out (R283): state OFF and the record TRAINING_FAILED. -/
def State.leaveOut (s : State) (ch step : Nat) : State :=
  (s.setFld MCT_CH_STATUS.STATE ch 0).logErr (chNode ch) ch 1 0x507 step

/-- The 16 entries of a DIMM's repair history (R493): entry `i` of DIMM `d` (channel × 2 + DIMM), none where it is free or its CHECK
fails. -/
def State.spdEnt (s : State) (d i : Nat) : Option (List Nat) :=
  let e := (List.range 8).map fun j => (tget 0 s.spd (d * 128 + 8 * i + j)).toNat
  let t := e.getD 0 0
  if 1 ≤ t ∧ t ≤ 4 ∧ (e.take 6).sum % 256 = e.getD 6 0 then some e else none

/-- Write an entry of a DIMM's repair history, with its CHECK. -/
def State.spdPut (s : State) (d i typ rankDev bank row : Nat) : State :=
  let e := [typ % 256, rankDev % 256, bank % 16, row % 256, row / 256 % 256, row / 65536 % 4]
  let e := e ++ [e.sum % 256, 0]
  { s with spd := ((List.range 8).zip e).foldl (fun t x => tset 0 t (d * 128 + 8 * i + x.1) (BitVec.ofNat 8 x.2)) s.spd }

/-- What Macen does at boot with a channel's repair history (R493): a pending soft repair is made hard, an erased device is erased
again, and a failed rank is replaced by the spare without a copy. -/
def State.spdBoot (s : State) (ch : Nat) : State :=
  (List.range 32).foldl (fun s n =>
    let d := ch * 2 + n / 16
    let i := n % 16
    match s.spdEnt d i with
    | none => s
    | some e =>
      let rd := e.getD 1 0
      let rank := n / 16 * 8 + rd % 8
      let row := e.getD 3 0 + 256 * e.getD 4 0 + 65536 * e.getD 5 0
      let bg := rank * 4 + e.getD 2 0 % 4
      match e.getD 0 0 with
      | 1 => (s.spdPut d i 2 rd (e.getD 2 0) row).setChan ch { s.chan ch with ppr := bg :: (s.chan ch).ppr }
      | 2 => s.setChan ch { s.chan ch with ppr := bg :: (s.chan ch).ppr }
      | 3 => (s.setFld MCT_CH_STATUS.ERASED_DEV ch (rd / 8)).setFld MCT_CH_STATUS.ERASED_RANK ch rank
      | _ => if s.fld MCT_CH_STATUS.SPARE ch = 1 then (s.setChan ch { s.chan ch with copyRank := rank }).setFld MCT_CH_STATUS.SPARE ch 3
        else s) s

/-- A watchdog's count starts again from `ms` milliseconds (R452). -/
def State.wdogLoad (s : State) (wd ms : Nat) : State :=
  ({ s with wdogNs := tset 0 s.wdogNs wd 0 } : State).setFld TMR_WDOG.REMAIN_MS wd ms

/-- SP firmware kicks the system watchdog (R452): until the boot core is released, after each boot step and each report of progress. -/
def State.kick16 (s : State) : State :=
  if s.fld TMR_WDOG.EN 16 = 1 then s.wdogLoad 16 (s.fld TMR_WDOG.PERIOD_MS 16) else s

/-- Whether a channel's population is one of R281: its DIMMs of a supported kind, one or two of them, at most 8 logical ranks on each, and at
most 512 GiB. -/
def dimmFits (p : DimmPop) : Bool :=
  p.supported && (p.dpc == 1 || p.dpc == 2) && decide (1 ≤ p.ranks ∧ p.ranks ≤ 8 * p.dpc ∧ p.ranks * p.rankGib ≤ 512)

/-- CHANNEL_TRAINING (R283, R284): Macen reads a channel's SPDs and trains it through the seven steps, or leaves it out: a
populated channel that is unsupported, differs from channel 0 or fails a step, and channel 0 when it is empty. The others wait for
channel 0. -/
def execChannelTraining (ch : Nat) (pop : DimmPop) (s : State) : Res :=
  .next <| if 16 ≤ ch ∨ 8 ≤ s.bootStep ∨ s.fld MCT_CH_STATUS.STATE ch ≠ 0 ∨ (ch ≠ 0 ∧ (s.chan 0).pop = none) then s
  else
    let s1 := s.kick16.setChan ch { s.chan ch with pop := some pop }
    if pop.populated = false then (if ch = 0 then s1.leaveOut ch 0 else s1)
    else
      let same := match (s1.chan 0).pop with
        | some p0 => p0.populated && p0.config == pop.config && p0.dpc == pop.dpc && p0.ranks == pop.ranks && p0.rankGib == pop.rankGib
        | none => ch == 0
      if dimmFits pop = false ∨ same = false then s1.leaveOut ch 0
      else if pop.failed ≠ 0 then s1.leaveOut ch pop.failed
      else
        let spare := s.opt.spare && decide (1 < pop.ranks)
        let cap := (pop.ranks - b2n spare) * pop.rankGib
        ((((((s1.setFld MCT_CH_STATUS.STATE ch 2).setFld MCT_CH_STATUS.DPC ch pop.dpc).setFld MCT_CH_STATUS.RANKS ch
          pop.ranks).setFld MCT_CH_STATUS.SPARE ch (b2n spare)).setFld MCT_CH_STATUS.CAP_GIB ch cap).setFld
          MCT_CH_STATUS.SPEED ch pop.speed).spdBoot ch

/-- The channels Macen uses (R283): the largest set that the trained channels contain. -/
def State.chSet (s : State) : List Nat :=
  let ok := fun (l : List Nat) => l.all fun ch => s.fld MCT_CH_STATUS.STATE ch == 2
  let sets := [List.range 16, [0, 1, 2, 3, 8, 9, 10, 11], [0, 1, 8, 9]]
  (sets.find? ok).getD []

/-- The address map of R288 over the channels in use, with one rate for all of them (R282); other channels are OFF. With no
set there is no DRAM, and ERROR_N is asserted. -/
def State.buildMap (s : State) : State :=
  let used := s.chSet
  let s1 := (List.range 16).foldl (fun (s : State) ch =>
    if used.contains ch then s else (s.setFld MCT_CH_STATUS.STATE ch 0).setFld MCT_CH_STATUS.SPEED ch 0) s
  let speed := used.foldl (fun m ch => Nat.min m
    (if s.fld MCT_CH_STATUS.DPC ch = 2 then Nat.min 3 (s.fld MCT_CH_STATUS.SPEED ch) else s.fld MCT_CH_STATUS.SPEED ch)) 4
  let s2 := used.foldl (fun (s : State) ch => s.setFld MCT_CH_STATUS.SPEED ch speed) s1
  match used with
  | [] => { s2 with errorN := true }
  | ch0 :: _ =>
    let n := used.length
    let p := n / 2
    let c := s.fld MCT_CH_STATUS.CAP_GIB ch0
    let m := Nat.min ((s.opt.mirror + p - 1) / p) (c / 2)
    let mask := used.foldl (fun a ch => a + 2 ^ ch) 0
    let win := fun (mirror base limit off : Nat) =>
      putField (putField (putField (putField (putField (putField 0 63 63 1) 62 62 mirror) 61 46 mask) 45 37 off)
        36 23 limit) 22 10 base
    let e0 := n * (c - m)
    let s3 := s2.wr .MCT_DECODE 0 (win 0 0 e0 0)
    let s4 := s3.wr .MCT_DECODE 1 (if m = 0 then 0 else win 1 e0 (e0 + p * m) (c - m))
    (List.range 6).foldl (fun (s : State) i => s.wr .MCT_DECODE (i + 2) 0) s4

/-- MCT_DECODE_WRITE (R289): accepted only until the boot core is released; a reserved MIRROR and CH_MASK pair leaves both. -/
def execMctDecodeWrite (ag : Agent) (n : Nat) (w : W) (s : State) : Res := .next (s.onWrite ag .MCT_DECODE n w id)

/-! ### Queues and scheduling (R290, R299, R303 to R305) -/

/-- A bucket refilled to the present (R305, R361): RATE × 100 MB/s over the channels in use, up to BURST_KIB. -/
def State.bucketNow (s : State) (ch part : Nat) : Bucket :=
  let b := tget {} (s.chan ch).buckets part
  let burst := s.fld WPC_PART_CFG.BURST_KIB part * 1024
  match b.bytes with
  | none => b
  | some v =>
    let d := 10 * Nat.max 1 s.chInUse.length
    let t := b.rem + (s.dtime - b.at_) * s.fld WPC_PART_CFG.RATE part
    if burst ≤ v + t / d then {} else { bytes := some (v + t / d), rem := t % d, at_ := s.dtime }

/-- Whether a request is demoted to bulk when it is chosen: its partition is regulated and its bucket holds no token. -/
def State.demoted (s : State) (ch : Nat) (q : McReq) : Bool :=
  q.bucket && s.fld WPC_PART_CFG.RATE q.part != 0 &&
  (match (s.bucketNow ch q.part).bytes with | some v => decide (v < 64) | none => false)

/-- A request takes one token of 64 bytes when it issues, or is counted as demoted. -/
def State.takeToken (s : State) (ch : Nat) (q : McReq) : State :=
  if q.bucket = false ∨ s.fld WPC_PART_CFG.RATE q.part = 0 then s
  else if s.demoted ch q then s.count (cuCh ch) 0x06 (some q.part) 1
  else
    let b := s.bucketNow ch q.part
    let v := match b.bytes with | some v => v | none => s.fld WPC_PART_CFG.BURST_KIB q.part * 1024
    let at_ := match b.bytes with | some _ => b.at_ | none => s.dtime
    let x := s.chan ch
    s.setChan ch { x with buckets := tset {} x.buckets q.part { bytes := some (v - 64), rem := b.rem, at_ := at_ } }

/-- The index of the request that the next command slot goes to (R304): one that has waited 2 µs, oldest first; else the best
class after demotion, in it a row hit, then the oldest. `hits` are the lines whose row is open. -/
def State.mcPick (s : State) (ch : Nat) (qs : List McReq) (hits : List Nat) : Option Nat :=
  let ix := List.range qs.length
  let get := fun i => qs.getD i {}
  match ix.find? fun i => decide ((get i).at_ + 2000 ≤ s.dtime) with
  | some i => some i
  | none =>
    let cls := fun i => if s.demoted ch (get i) then 3 else (get i).cls
    let best := ix.foldl (fun m i => Nat.min m (cls i)) 4
    match ix.find? fun i => cls i == best && hits.contains (get i).line with
    | some i => some i
    | none => ix.find? fun i => cls i == best

/-- Drain a channel's write queue (R303): all of it with no read waiting; from 64 entries down to 32; otherwise the writes
that have waited 2 µs. The data of an entry is in DRAM from its acceptance on, as a read of a queued line sees it. -/
def State.mcDrain (s : State) (ch : Nat) : State :=
  let x := s.chan ch
  let n := x.writes.length
  let k := if x.reads.isEmpty then n else if 64 ≤ n then n - 32
    else (x.writes.takeWhile fun q => decide (q.at_ + 2000 ≤ s.dtime)).length
  let s1 := (x.writes.take k).foldl (fun (s : State) q => (s.takeToken ch q).count (cuCh ch) 0x02 (some q.part) 1) s
  s1.setChan ch { s1.chan ch with writes := x.writes.drop k, parity := if k = 0 then x.parity else 0 }

/-- A channel that is asked for something while in self-refresh starts its exit (R302). -/
def State.mcWake (s : State) (ch : Nat) : State :=
  if s.fld MCT_CH_STATUS.STATE ch = 3 then s.setFld MCT_CH_STATUS.STATE ch 2 else s

/-- Whether a channel takes requests: it has not failed, and its section of its stop is OPEN (R147, R299). -/
def State.chServes (s : State) (ch : Nat) : Bool := s.chStatus ch == 0

/-- The channel that serves a read of a line (R287, R290, R299): in a mirrored pair the shorter read queue, the even one when
equal, or the partner of a failed channel; none where no channel can. -/
def State.readCh (s : State) (line : Nat) : Option Nat :=
  match s.place (line * 64) with
  | some (ch, none, _) => if s.chServes ch then some ch else none
  | some (ch, some ch2, _) =>
    if s.chServes ch = false then (if s.chServes ch2 then some ch2 else none)
    else if s.chServes ch2 = false then some ch
    else if (s.chan ch2).reads.length < (s.chan ch).reads.length then some ch2 else some ch
  | none => none

/-- MC_READ (R303, R304): a read enters its channel's queue while it has room for one of 128; a read of a line held in the
write queue returns the queued data; a read of a lost channel's line ends with TARGET_ERROR (R299), one that meets a closed section with
DOMAIN_OFF (R147). -/
def execMcRead (line cls part : Nat) (bucket : Bool) (s : State) : Res :=
  .next <| match s.readCh line with
  | none => { s with mcRsp := { line := line, status := s.memStatus line } }
  | some ch =>
    let s := s.mcWake ch
    let x := s.chan ch
    if x.writes.any fun q => q.line == line then
      let d := s.dramLine line
      { s with mcRsp := { line := line, data := d.data, poison := d.poison } }
    else if 128 ≤ x.reads.length then s
    else
      let q : McReq := { line := line, cls := cls % 4, part := part % 16, bucket := bucket, at_ := s.dtime }
      s.setChan ch { x with reads := x.reads ++ [q] }

/-! ### ECC (R291 to R294) -/

/-- What the ECC makes of a burst: 0 delivered, 1 corrected, 2 detected and not corrected, 3 miscorrected (R291). With more
errors than the code covers, a free value says which of the last three it is. -/
def State.eccOf (s : State) (ch : Nat) (b : Burst) : Nat :=
  let erased := s.fld MCT_CH_STATUS.ERASED_DEV ch != 31 && s.fld MCT_CH_STATUS.ERASED_RANK ch == b.rank
  match b.err with
  | 0 => 0
  | 1 => if erased && s.fld MCT_CH_STATUS.ERASED_DEV ch != b.device then 2 else 1
  | 2 => if erased then 1 else 2
  | 3 => 2
  | _ => s.drawIn 1 3

/-- Log an error in a channel's registers (R308): the count of its kind, and MCT_ECC_LOG. -/
def State.eccLog (s : State) (ch kind : Nat) (b : Burst) : State :=
  let s1 := s.incSat (if kind = 1 ∨ kind = 3 then MCT_ECC_COUNT.UNCORRECTED else MCT_ECC_COUNT.CORRECTED) ch
  let dev := if b.err ≤ 1 then b.device else 31
  s1.wr .MCT_ECC_LOG ch (putField (putField (putField (putField (putField (putField (putField (putField 0 63 63 1) 62 61 kind)
    60 57 b.rank) 56 55 b.bankGroup) 54 53 b.bank) 52 35 b.row) 34 30 dev) 29 20 b.column)

/-- Macen counts a corrected error of a DRAM row and device (R485): 2 in one row more than 1 s apart within 24 h make the row due for a
soft repair where its bank group has none, errors in 4 rows of one device make the device due for erasure. -/
def State.noteDram (s : State) (ch : Nat) (b : Burst) : State :=
  let place := ((b.rank * 4 + b.bankGroup) * 4 + b.bank) * 2 ^ 18 + b.row
  let r := s.note (3 * 2 ^ 40 + ch * 2 ^ 30 + place) day 0
  let s1 := if (r.1.any fun e => e.1 + 1000000000 < s.dtime) && !(s.chan ch).ppr.contains (b.rank * 4 + b.bankGroup) then
    r.2.setDue (3, ch, place) else r.2
  if b.err ≠ 1 then s1
  else
    let q := s1.note (4 * 2 ^ 40 + ch * 1024 + b.rank * 32 + b.device) day ((b.bankGroup * 4 + b.bank) * 2 ^ 18 + b.row)
    if 4 ≤ ((q.1.map (·.2)).eraseDups).length then q.2.setDue (4, ch, b.rank * 32 + b.device) else q.2

/-- The record and log of a corrected error (R294): at most one record per channel per millisecond. -/
def State.eccCorrected (s : State) (ch line : Nat) (b : Burst) : State :=
  let n := s.fld ERC_STATUS.LAST_SEQ 0
  let s1 := ((s.eccLog ch 0 b).count (cuCh ch) 0x08 none 1).logLimited (2 ^ 21 + ch) 1000000 (chNode ch) ch 0 0x500 (line * 64)
  (if s1.fld ERC_STATUS.LAST_SEQ 0 = n then s1 else s1.raise (chSrc ch)).noteDram ch b

/-- The other channel of a line's mirrored pair, where it serves. -/
def State.partner (s : State) (ch line : Nat) : Option Nat :=
  match s.place (line * 64) with
  | some (a, some b, _) => let o := if a = ch then b else a; if s.chFailed o then none else some o
  | _ => none

/-- A burst of a line read on a channel, with the partner's burst for a mirrored line (R291 to R293): the poison bit it is
returned with, and the state with the records, repairs and poison of it. `patrol` marks a patrol find (R300). -/
def State.burstRead (s : State) (ch line : Nat) (b pb : Burst) (patrol : Bool) : Bool × State :=
  if tget false s.memPoison line then (true, s)
  else
    let e := s.eccOf ch b
    let s := if 4 ≤ b.err then s.drawn else s
    let bad := fun (s : State) =>
      let s1 := s.eccLog ch (if patrol then 3 else 1) b
      let s2 := if patrol then s1.chRecord ch 1 0x508 (line * 64) 7 else s1.chRecord ch 2 0x501 (line * 64) 1
      let s3 := if b.err = 1 then s2.setDue (4, ch, b.rank * 32 + b.device) else s2
      (true, { s3 with memPoison := tset false s3.memPoison line true })
    if e = 0 then (false, s)
    else if e = 1 then (false, s.eccCorrected ch line b)
    else if e = 2 then
      match s.partner ch line with
      | none => bad s
      | some o =>
        let pe := s.eccOf o pb
        if pe = 2 then bad s
        else
          let s1 := if pe = 1 then s.eccCorrected o line pb else s
          (false, ((s1.eccLog ch 2 b).count (cuCh ch) 0x08 none 1).chRecord ch 0 0x505 (line * 64) 5)
    else (false, (s.eccCorrected ch line b).drawn)

/-- Whether the same burst delivers wrong data: the ECC miscorrected it, or the good-looking copy of a mirrored line (R291). -/
def State.misread (s : State) (ch line : Nat) (b pb : Burst) : Bool :=
  let e := s.eccOf ch b
  let s1 := if 4 ≤ b.err then s.drawn else s
  !tget false s.memPoison line && (e == 3 || (e == 2 && match s1.partner ch line with
    | some o => s1.eccOf o pb == 3
    | none => false))

/-- The data of a miscorrected burst, a free value. -/
def State.freeLine (s : State) : Line :=
  (List.range 8).foldl (fun (d : Line) i => d ||| ((Config.freeValue (s.free + 2 + i)).setWidth 512 <<< (64 * i))) 0

/-- DRAM_READ_COMPLETE (R291 to R293, R304): the request that the channel serves next returns from its burst, delivered,
corrected, served from the mirror, or poisoned. A miscorrected burst delivers a free value. -/
def execDramReadComplete (ch : Nat) (hits : List Nat) (b pb : Burst) (s : State) : Res :=
  let x := s.chan ch
  .next <| match s.mcPick ch x.reads hits with
  | none => s.mcDrain ch
  | some i =>
    match x.reads[i]? with
    | none => s
    | some q =>
      let aged := decide (q.at_ + 2000 ≤ s.dtime)
      let s1 := (s.takeToken ch q).count (cuCh ch) 0x01 (some q.part) 1
      let s1 := if hits.contains q.line then s1 else s1.count (cuCh ch) 0x03 none 1
      let s2 := if aged then s1.count (cuCh ch) 0x07 none 1 else s1
      let s3 := s2.setChan ch { s2.chan ch with reads := x.reads.eraseIdx i, parity := 0 }
      let d := s3.dramLine q.line
      let r := s3.burstRead ch q.line b pb false
      let data := if s3.misread ch q.line b pb then s3.freeLine else d.data
      ({ r.2 with mcRsp := { line := q.line, data := data, poison := r.1 } } : State).mcDrain ch

/-- MC_WRITE (R290, R292, R299): a write enters its channel's queue, or both queues of a mirrored pair together, while each
has room for one of 96. A masked write is a read-modify-write of the burst `b`; a failed channel's write is discarded with
TARGET_ERROR, or goes to the partner alone; a closed section answers DOMAIN_OFF (R147). -/
def execMcWrite (line : Nat) (data : BitVec 512) (mask : Nat) (poison : Bool) (cls part : Nat) (bucket : Bool)
    (b pb : Burst) (s : State) : Res :=
  .next <| match s.place (line * 64) with
  | none => { s with mcRsp := { line := line, status := s.memStatus line } }
  | some (ch, ch2, _) =>
    let chs := (ch :: ch2.toList).filter fun c => s.chServes c
    match chs with
    | [] => { s with mcRsp := { line := line, status := s.memStatus line } }
    | c0 :: _ =>
      if chs.any fun c => 96 ≤ (s.chan c).writes.length then s
      else
        let s1 := chs.foldl (fun (s : State) c => s.mcWake c) s
        let full := mask % 2 ^ 64 == 2 ^ 64 - 1
        let r := if full then (false, s1) else s1.burstRead c0 line b pb false
        let old := if s1.misread c0 line b pb then s1.freeLine else (r.2.dramLine line).data
        let d := if full then data else lineMerge old data mask
        let s2 := r.2.dramWrite line d (poison || r.1)
        let q : McReq := { line := line, cls := cls % 4, part := part % 16, bucket := bucket, at_ := s.dtime }
        let s3 := chs.foldl (fun (s : State) c =>
          (s.setChan c { s.chan c with writes := (s.chan c).writes ++ [q] }).mcDrain c) s2
        { s3 with mcRsp := { line := line, status := 0 } }

/-! ### Failing devices, rows, ranks and channels (R286, R295 to R299) -/

/-- A channel leaves service (R299): FAILED, its queued requests end with TARGET_ERROR, and the record CHANNEL_LOST. -/
def State.channelLost (s : State) (ch : Nat) : State :=
  if s.fld MCT_CH_STATUS.STATE ch ≠ 2 ∧ s.fld MCT_CH_STATUS.STATE ch ≠ 3 then s
  else
    let x := s.chan ch
    let rsp := match x.reads.getLast? with
      | some q => { line := q.line, status := 4 }
      | none => s.mcRsp
    let s1 := (s.setFld MCT_CH_STATUS.STATE ch 4).setChan ch { x with reads := [], writes := [], parity := 0 }
    ({ s1 with mcRsp := rsp } : State).chRecord ch 3 0x506 ch 6

/-- CHANNEL_LOST (R299): Macen declares the channel failed. -/
def execChannelLost (ch : Nat) (s : State) : Res := .next (if ch < 16 then s.channelLost ch else s)

/-- CA_PARITY_FAILURE (R286): the command is retried at most 4 times; a fifth failure takes the channel out of service. -/
def execCaParityFailure (ch : Nat) (s : State) : Res :=
  let x := s.chan ch
  .next <| if 16 ≤ ch ∨ s.fld MCT_CH_STATUS.STATE ch ≠ 2 then s
  else if 4 ≤ x.parity then s.channelLost ch
  else s.setChan ch { x with parity := x.parity + 1 }

/-- The rank copy starts (R297), if a spare rank is ready. -/
def State.rankCopy (s : State) (ch rank : Nat) : State :=
  if s.fld MCT_CH_STATUS.SPARE ch = 1 then
    (s.setFld MCT_CH_STATUS.SPARE ch 2).setChan ch { s.chan ch with copyRank := rank }
  else s

/-- DEVICE_ERASED (R295): Macen places a device that is due in erasure, one per channel, and a rank spare starts at once. -/
def execDeviceErased (ch rank dev : Nat) (s : State) : Res :=
  .next <| if 16 ≤ ch ∨ 16 ≤ rank ∨ 18 ≤ dev ∨ s.fld MCT_CH_STATUS.STATE ch ≠ 2 ∨ s.fld MCT_CH_STATUS.ERASED_DEV ch ≠ 31 ∨
      s.pfw ∨ s.mac.due.contains (4, ch, rank * 32 + dev) = false then s
  else
    ((((s.unDue (4, ch, rank * 32 + dev)).setFld MCT_CH_STATUS.ERASED_DEV ch dev).setFld MCT_CH_STATUS.ERASED_RANK ch rank).chRecord ch 1 0x502
      (rank * 32 + dev) 2).rankCopy ch rank

/-- PPR_APPLIED (R296): a row that is due, named by `place` and holding the line, is repaired live; its lines keep their data. -/
def execPprApplied (ch line place : Nat) (s : State) : Res :=
  .next <| if 16 ≤ ch ∨ s.fld MCT_CH_STATUS.STATE ch ≠ 2 ∨ s.pfw ∨ s.mac.due.contains (3, ch, place) = false then s
  else (((s.unDue (3, ch, place)).setChan ch { s.chan ch with ppr := (s.chan ch).ppr ++ [place / 2 ^ 20] }).incSat MCT_CH_STATUS.PPR_USED ch).chRecord ch 0 0x503 (line * 64) 3

/-- RANK_SPARED (R297): Macen starts copying a failing rank into the spare rank. -/
def execRankSpared (ch rank : Nat) (s : State) : Res :=
  .next <| if 16 ≤ ch ∨ s.fld MCT_CH_STATUS.STATE ch ≠ 2 then s else s.rankCopy ch rank

/-- RANK_COPY_DONE (R297): the rank is redirected to the spare, an erasure of it ends, and RANK_SPARED is recorded. -/
def execRankCopyDone (ch : Nat) (s : State) : Res :=
  .next <| if 16 ≤ ch ∨ s.fld MCT_CH_STATUS.SPARE ch ≠ 2 then s
  else
    let r := (s.chan ch).copyRank
    let s1 := s.setFld MCT_CH_STATUS.SPARE ch 3
    let s2 := if s1.fld MCT_CH_STATUS.ERASED_RANK ch = r then
        (s1.setFld MCT_CH_STATUS.ERASED_DEV ch 31).setFld MCT_CH_STATUS.ERASED_RANK ch 31 else s1
    s2.chRecord ch 0 0x504 r 4

/-! ### Patrol scrub and refresh (R300 to R302, R286) -/

/-- The line that lies at a channel address (R287): the inverse of the placement, through the lowest window that has it. -/
def State.chLine (s : State) (ch caddr : Nat) : Option Nat :=
  (List.range 8).findSome? fun n =>
    let mirror := s.fld MCT_DECODE.MIRROR n = 1
    let m := s.fld MCT_DECODE.CH_MASK n
    let ways := if mirror then maskPairs m else maskBits m
    let k := Nat.log2 ways.length
    let off := s.fld MCT_DECODE.CHOFF_GIB n * 2 ^ 30
    match ways.findIdx? fun u => if mirror then u == ch / 2 else u == ch with
    | none => none
    | some w =>
      if s.fld MCT_DECODE.VALID n = 0 ∨ caddr < off then none
      else
        let hi := (caddr - off) / 4096 * 2 ^ k
        let lo := (w ^^^ (hi >>> 8) ^^^ (hi >>> 16)) % 2 ^ k
        let pa := s.fld MCT_DECODE.BASE_GIB n * 2 ^ 30 + (hi + lo) * 4096 + caddr % 4096
        match s.place pa with
        | some (a, b, c) => if (a = ch ∨ b = some ch) ∧ c = caddr then some (pa / 64) else none
        | none => none

/-- PATROL_SCRUB (R300): the patrol reads its next mapped line and corrects it, or stores it with the poison pattern; what the ECC miscorrects
is written back too. -/
def execPatrolScrub (ch : Nat) (b pb : Burst) (s : State) : Res :=
  .next <| if 16 ≤ ch ∨ s.fld MCT_SCRUB.EN ch = 0 ∨ s.fld MCT_CH_STATUS.STATE ch ≠ 2 then s
  else
    let x := s.chan ch
    let s1 := match s.chLine ch (x.scrub * 64) with
      | some line =>
        let r := s.burstRead ch line b pb true
        if s.misread ch line b pb then r.2.dramWrite line s.freeLine false else r.2
      | none => s
    let total := s.fld MCT_CH_STATUS.CAP_GIB ch * 2 ^ 24
    if total ≤ x.scrub + 1 then (s1.setChan ch { s1.chan ch with scrub := 0 }).incSat MCT_SCRUB.PASSES ch
    else s1.setChan ch { s1.chan ch with scrub := x.scrub + 1 }

/-- REFRESH (R301): a rank's interval has passed: with requests waiting the controller may postpone at most 8 refreshes of it;
otherwise it issues this one and the postponed ones. -/
def execRefresh (ch rank : Nat) (postpone : Bool) (s : State) : Res :=
  let x := s.chan ch
  let n := tget 0 x.postponed rank
  .next <| if 16 ≤ ch ∨ s.fld MCT_CH_STATUS.STATE ch ≠ 2 then s
  else if postpone ∧ n < 8 ∧ (x.reads ≠ [] ∨ x.writes ≠ []) then s.setChan ch { x with postponed := tset 0 x.postponed rank (n + 1) }
  else s.setChan ch { x with postponed := tset 0 x.postponed rank 0 }

/-- ZQCS (R286): every 128 ms, inside a refresh window: the rank's postponed refreshes are issued with it, and nothing else
of the state changes. -/
def execZqcs (ch rank : Nat) (s : State) : Res :=
  let x := s.chan ch
  .next <| if 16 ≤ ch ∨ s.fld MCT_CH_STATUS.STATE ch ≠ 2 then s
  else s.setChan ch { x with postponed := tset 0 x.postponed rank 0 }

/-- DIMM_TEMPERATURE (R301): Macen reads a DIMM's temperature in °C: above 85 its ranks are refreshed every 3.9 µs; above 95
the channel's issue rate is halved until it falls below 90. -/
def execDimmTemperature (ch dimm temp : Nat) (s : State) : Res :=
  let x := s.chan ch
  let d := dimm % 2
  .next <| if 16 ≤ ch then s
  else
    let slow := if 95 < temp then true else if temp < 90 then false else tget false x.slow d
    s.setChan ch { x with hot := tset false x.hot d (decide (85 < temp)), slow := tset false x.slow d slow }

/-- SELF_REFRESH_ENTRY (R302): at the RCP's request, with no request waiting, the channel enters self-refresh. -/
def execSelfRefreshEntry (ch : Nat) (s : State) : Res :=
  let x := s.chan ch
  .next <| if ch < 16 ∧ s.fld MCT_CH_STATUS.STATE ch = 2 ∧ x.reads = [] then
    (s.mcDrain ch).setFld MCT_CH_STATUS.STATE ch 3 else s

/-- SELF_REFRESH_EXIT (R302): the channel is back within 2 µs. -/
def execSelfRefreshExit (ch : Nat) (s : State) : Res := .next (if ch < 16 then s.mcWake ch else s)

/-- ECC_COUNT_CLEAR (R294): CLEAR written 1 sets both counts to 0. -/
def execEccCountClear (ag : Agent) (ch : Nat) (w : W) (s : State) : Res :=
  .next <| s.onWrite ag .MCT_ECC_COUNT ch w fun s =>
    if bit w 15 then (s.setFld MCT_ECC_COUNT.UNCORRECTED ch 0).setFld MCT_ECC_COUNT.CORRECTED ch 0 else s

end Sys2Proof.Machine
end

