-- ==== Sys2Proof/Machine/Pcie.lean ====
section
/-! DEFINITION. PCIe and the IOMMU (chapter 13): outbound requests and their completions, ports, the assignment and
translation of inbound requests, message interrupts and invalidation. -/

namespace Sys2Proof.Machine

open Sys2Proof

/-! ### Controllers and ports (R310, R314) -/

/-- The node of a controller (R12), its first wired source and the index of a port's registers. -/
def pcieNode (c : Nat) : Nat := if c = 0 then 1 else if c = 1 then 2 else if c = 2 then 5 else 6
def pcieSrc (c : Nat) : Nat := 640 + 64 * c
def portIx (c p : Nat) : Nat := c * 4 + p

/-- The width of a controller's root port under its BIFURCATION (R310); 0 where the port does not exist. -/
def State.portWidth (s : State) (c p : Nat) : Nat :=
  match s.fld PCIE_CTL.BIFURCATION c, p with
  | 0, 0 => 16
  | 1, 0 => 8
  | 1, 2 => 8
  | 2, 0 => 8
  | 2, 2 => 4
  | 2, 3 => 4
  | 3, 0 => 4
  | 3, 1 => 4
  | 3, 2 => 8
  | 4, n => if n < 4 then 4 else 0
  | _, _ => 0

/-- Whether a port of an enabled controller carries requests: its link is up, and no hot reset holds it (R323). -/
def State.portUp (s : State) (c p : Nat) : Bool :=
  s.fld PCIE_CTL.EN c == 1 && decide (0 < s.portWidth c p) && s.fld PCIE_PORT_STATUS.LINK_UP (portIx c p) == 1 &&
  !tget false s.portReset (portIx c p)

/-! ### The outbound path (R311 to R313) -/

/-- How an outbound request goes on: it waits for a tag, it has gone out and awaits its completion, or it is answered. -/
inductive Out where
  | wait
  | sent
  | done (data status : Nat)
  deriving DecidableEq, Repr

/-- The lowest free non-posted tag of a controller, if the port may hold one more (R313). -/
def State.pcieTag (s : State) (c p : Nat) (tenBit : Bool) : Option Nat :=
  if tenBit = false ∧ 256 ≤ s.fld PCIE_PORT_STATUS.TAGS_USED (portIx c p) then none
  else (List.range 768).find? fun t => (tget none s.pcieTags (c * 1024 + t)).isNone

/-- An access at offset `off` of a controller's window becomes a TLP of port `p` (R311, R312). A configuration access to bus
0 reaches a root port of the controller itself; where there is none, or the link is down, it ends as an Unsupported
Request does. -/
def State.pcieOutbound (s : State) (c p : Nat) (tenBit : Bool) (r : PcieTag) (off data : Nat) : Out × State :=
  let cfg := s.isEcam r.pa
  let o := if cfg then off % 0x10000000 else off
  let dev := o / 2 ^ 15 % 32
  let tlp := fun (k tag : Nat) => ({ kind := k, port := p, addr := o, size := r.size, data := data, tag := tag } : Tlp)
  let s1 := fun (k tag : Nat) => ({ s with pcieOut := tset {} s.pcieOut c (tlp k tag) } : State)
  if cfg && decide (o / 2 ^ 20 = 0) && decide (0 < s.portWidth c dev) && s.fld PCIE_CTL.EN c == 1 && decide (o / 2 ^ 12 % 8 = 0) then
    (if r.write then (.done 0 0, s) else (.done (s.drawIn 0 (2 ^ (8 * r.size) - 1)) 0, s.drawn))
  else if (cfg && decide (o / 2 ^ 20 = 0)) || !s.portUp c p then
    (.done (if cfg && !r.write then 2 ^ (8 * r.size) - 1 else 0) (if cfg || r.write then 0 else 4), s)
  else if r.write && !cfg then (.done 0 0, (s1 1 0).count (cuPcie c) 0x02 (some r.part) 1)
  else match s.pcieTag c p tenBit with
    | none => (.wait, s)
    | some t =>
      let s2 := s1 (if cfg then (if r.write then 3 else 2) else 0) t
      let s3 : State := { s2 with pcieTags := tset none s2.pcieTags (c * 1024 + t) (some { r with cfg := cfg, port := p }) }
      let s4 := s3.setFld PCIE_PORT_STATUS.TAGS_USED (portIx c p) (s3.fld PCIE_PORT_STATUS.TAGS_USED (portIx c p) + 1)
      (.sent, s4.count (cuPcie c) 0x01 (some r.part) 1)

/-- PCIE_OUTBOUND_REQUEST (R312): a core access in a PCIe window, taken from tag index `tag` of node `node`, leaves through port
`p`; `tenBit` says that the device behind it takes 10-bit tags. -/
def execPcieOutboundRequest (node tag p : Nat) (tenBit : Bool) (s : State) : Res :=
  let t := tget {} s.txns (node * 1024 + tag)
  let c := t.pa / 2 ^ 40 - 16
  .next <| if s.region t.pa ≠ .pcie ∨ s.ioNext node tag = false ∨ 4 ≤ p then s
  else if s.lidState (pcieNode c) 0 ≠ 0 then s
  else if s.widthOk t.pa t.io.size = false ∨ t.io.kind = 2 then (s.ioTake node tag).ioAnswer node tag t.epoch 0 4
  else
    let r : PcieTag := { use := .core node tag t.epoch, write := t.io.kind == 1, size := t.io.size, pa := t.pa,
                         secure := t.io.secure, part := t.io.part }
    match s.pcieOutbound c p tenBit r (t.pa % 2 ^ 40) t.io.data with
    | (.wait, _) => s
    | (.sent, s) => s.ioTake node tag
    | (.done d st, s) => (s.ioTake node tag).ioAnswer node tag t.epoch d st

/-- Free a tag of a controller. -/
def State.pcieFree (s : State) (c t : Nat) : State :=
  match tget none s.pcieTags (c * 1024 + t) with
  | none => s
  | some r =>
    let s1 : State := { s with pcieTags := tset none s.pcieTags (c * 1024 + t) none }
    s1.setFld PCIE_PORT_STATUS.TAGS_USED (portIx c r.port) (s1.fld PCIE_PORT_STATUS.TAGS_USED (portIx c r.port) - 1)

/-- Answer the requester of a non-posted request with data and a mesh STATUS. -/
def State.pcieAnswer (s : State) (r : PcieTag) (data status : Nat) : State :=
  match r.use with
  | .core node tag epoch => s.ioAnswer node tag epoch data status
  | .peer c port =>
    let ok := status == 0
    let k : Cpl := { port := port, status := if ok then 0 else 2, data := if ok then leBytes r.size data else [] }
    { s with pcieCpl := tset {} s.pcieCpl c k }

/-- PCIE_COMPLETION (R312, R313): a completion returns for a tag: 0 successful, 1 UR, 2 CA. One whose tag was freed is dropped
and counted. -/
def execPcieCompletion (c tag status data : Nat) (poisoned : Bool) (s : State) : Res :=
  .next <| if 4 ≤ c then s
  else match tget none s.pcieTags (c * 1024 + tag % 1024) with
    | none => { s with pcieLate := tset 0 s.pcieLate c (tget 0 s.pcieLate c + 1) }
    | some r =>
      let s1 := s.pcieFree c (tag % 1024)
      let ones := 2 ^ (8 * r.size) - 1
      if r.cfg && status == 1 then s1.pcieAnswer r (if r.write then 0 else ones) 0
      else if status ≠ 0 ∨ poisoned then s1.pcieAnswer r 0 4
      else s1.pcieAnswer r (data % 2 ^ (8 * r.size)) 0

/-- PCIE_CPL_TIMEOUT (R312, R314): CPL_TIMEOUT_US passes without a completion. -/
def execPcieCplTimeout (c tag : Nat) (s : State) : Res :=
  .next <| if 4 ≤ c then s
  else match tget none s.pcieTags (c * 1024 + tag % 1024) with
    | none => s
    | some r =>
      let s1 := (s.pcieFree c (tag % 1024)).setFld PCIE_PORT_STATUS.CPL_TIMEOUT (portIx c r.port) 1
      let s2 := (s1.logErr (pcieNode c) r.port 2 0x602 r.pa).raise (pcieSrc c + 32 + r.port)
      (s2.count (cuPcie c) 0x05 none 1).pcieAnswer r 0 1

/-! ### Links, errors and PERST (R310, R314, R323) -/

/-- PCIE_LINK_DOWN (R314): a root port's link goes up, with its negotiated width and speed, or down. -/
def execPcieLinkDown (c p : Nat) (up : Bool) (width speed ltssm : Nat) (surprise : Bool) (s : State) : Res :=
  .next <| if 4 ≤ c ∨ s.portWidth c p = 0 ∨ s.fld PCIE_CTL.EN c = 0 then s
  else
    let i := portIx c p
    let s1 := ((s.setFld PCIE_PORT_STATUS.LINK_UP i (b2n up)).setFld PCIE_PORT_STATUS.WIDTH i
      (if up then Nat.min width (s.portWidth c p) else 0)).setFld PCIE_PORT_STATUS.SPEED i
      (if up then Nat.min speed (s.fld PCIE_CTL.MAX_SPEED c) else 0)
    let s2 := s1.setFld PCIE_PORT_STATUS.LTSSM i ltssm
    let s3 := if up then s2
      else (if surprise then s2.setFld PCIE_PORT_STATUS.SURPRISE_DOWN i 1 else s2).logErr (pcieNode c) p 2 0x603 p
    s3.raise (pcieSrc c + 28 + p)

/-- A controller's links go down, with EN 0 or with its power (R314, R324, R447): each that was up has its record and source. -/
def State.pcieDown (s : State) (c : Nat) : State :=
  (List.range 4).foldl (fun s p =>
    let i := portIx c p
    if s.fld PCIE_PORT_STATUS.LINK_UP i = 0 then s
    else ((((s.setFld PCIE_PORT_STATUS.LINK_UP i 0).setFld PCIE_PORT_STATUS.WIDTH i 0).setFld PCIE_PORT_STATUS.SPEED i 0).logErr
      (pcieNode c) p 2 0x603 p).raise (pcieSrc c + 28 + p)) s

/-- PCIE_AER (R314): a root port logs an AER error: 0 correctable, 1 non-fatal, 2 fatal. -/
def execPcieAer (c p sev : Nat) (s : State) : Res :=
  .next <| if 4 ≤ c ∨ s.portWidth c p = 0 ∨ 3 ≤ sev then s
  else
    let s1 := s.setFld PCIE_PORT_STATUS.AER (portIx c p) 1
    (s1.logErr (pcieNode c) p (if sev = 0 then 0 else 2) (if sev = 0 then 0x600 else 0x601) p).raise (pcieSrc c + 16 + 3 * p + sev)

/-- PERST_REL (R310): a write to PCIE_PORT_CFG drives the port's PERST_N. -/
def execPerstRel (ag : Agent) (c p : Nat) (w : W) (s : State) : Res :=
  .next <| if 4 ≤ c ∨ 4 ≤ p then s else s.onWrite ag .PCIE_PORT_CFG (portIx c p) w id

/-- Whether a port's PERST_N output is high (R310, R323). -/
def State.perstHigh (s : State) (c p : Nat) : Bool :=
  s.fld PCIE_PORT_CFG.PERST_REL (portIx c p) == 1 && !tget false s.portReset (portIx c p)

/-- Step 5 of a partition reset (R323): the partition's owned ports are held in hot reset, and its context-cache and IOTLB
entries, its IOMMU_FAULT and its harts' outbound tags go. -/
def State.pciePartReset (s : State) (part : Nat) : State :=
  let s1 : State := { s with ctxCache := s.ctxCache.filter (fun e => e.part != part),
                             ioTlb := s.ioTlb.filter fun e => e.part != part }
  let s2 := s1.wr .IOMMU_FAULT part 0
  let s3 := (List.range 16).foldl (fun s i =>
    if s.fld PCIE_PORT_CFG.OWNED i = 1 ∧ s.fld PCIE_PORT_CFG.PARTITION i = part ∧ 0 < s.portWidth (i / 4) (i % 4) then
      ({ s with portReset := tset false s.portReset i true } : State)
    else s) s2
  s3.pcieTags.foldl (fun s e => match e.2 with
    | some r => (match r.use with
      | .core _ _ _ => if r.secure = false ∧ r.part = part then s.pcieFree (e.1 / 1024) (e.1 % 1024) else s
      | _ => s)
    | none => s) s3

/-! ### Invalidation (R325) -/

/-- A write of `w` to a partition's IOMMU_INVAL: the command in it runs unless one is running. -/
def State.invalWrite (s : State) (ag : Agent) (part : Nat) (w : W) : State :=
  if 16 ≤ part then s else
  let busy := s.fld IOMMU_INVAL.BUSY part
  s.onWrite ag .IOMMU_INVAL part w fun s =>
    let cmd := field w 2 0
    let e := s.fld IOMMU_INVAL.FAT_ENTRY part
    let v := s.fld IOMMU_INVAL.VMID part
    let go := fun (kc : IoCtx → Bool) (kt : IoTlbEnt → Bool) =>
      ({ s with ctxCache := s.ctxCache.filter (fun x => !(x.part == part && kc x)),
                ioTlb := s.ioTlb.filter fun x => !(x.part == part && kt x) } : State).setFld IOMMU_INVAL.BUSY part 1
    if busy = 1 then s
    else if cmd = 1 then go (fun _ => true) (fun _ => true)
    else if cmd = 2 then go (fun x => x.entry == e) (fun x => x.entry == e)
    else if cmd = 3 then go (fun x => field x.s2 57 44 == v) (fun x => x.vmid == v)
    else s

/-- INVAL_PARTITION (R325): CMD 1 invalidates every entry of the partition. -/
def execInvalPartition (ag : Agent) (part : Nat) (w : W) (s : State) : Res := .next (s.invalWrite ag part w)

/-- INVAL_FAT_ENTRY (R325): CMD 2 invalidates the entries of one FAT entry. -/
def execInvalFatEntry (ag : Agent) (part : Nat) (w : W) (s : State) : Res := .next (s.invalWrite ag part w)

/-- INVAL_VMID (R325): CMD 3 invalidates the entries of one VMID. -/
def execInvalVmid (ag : Agent) (part : Nat) (w : W) (s : State) : Res := .next (s.invalWrite ag part w)

/-- INVAL_DONE (R319, R325): the command completes and the invalidation-done source is raised. -/
def execInvalDone (part : Nat) (s : State) : Res :=
  .next <| if 16 ≤ part ∨ s.fld IOMMU_INVAL.BUSY part = 0 then s
  else (s.setFld IOMMU_INVAL.BUSY part 0).raise (1536 + 16 + part)

/-! ### Inbound requests: assignment and translation (R317 to R319) -/

/-- The lowest-numbered FAT entry that matches a requester (R317). -/
def State.fatMatch (s : State) (c rid : Nat) : Option Nat :=
  (List.range 256).find? fun e =>
    let lo := s.fld IOMMU_FAT_MATCH.RID_BASE e
    s.fld IOMMU_FAT_MATCH.VALID e = 1 ∧ s.fld IOMMU_FAT_MATCH.CONTROLLER e = c ∧ lo ≤ rid ∧
    rid < lo + 2 ^ s.fld IOMMU_FAT_MATCH.RID_LOG2 e

/-- Whether the IOMMU may read `n` bytes of DRAM for a request (R319). -/
def State.ioMay (s : State) (ctx : IoCtx) (pa n : Nat) : Bool × State := s.dramMay 24 pa n ctx.secure ctx.part

/-- How the IOMMU's work ends: a fault of a KIND with the address for its record, or a result. -/
inductive IoRes (α : Type) where
  | fault (kind addr : Nat)
  | ok (v : α)
  deriving DecidableEq, Repr

/-- The device context of a requester, from the context cache or its DCT (R317, R318). -/
def State.ioContext (s : State) (c rid e : Nat) : IoRes IoCtx × State :=
  match s.ctxCache.find? fun x => x.ctl == c && x.rid == rid with
  | some x => (.ok x, s)
  | none =>
    let b : IoCtx := { ctl := c, rid := rid, entry := e, secure := s.fld IOMMU_FAT_MATCH.WORLD e == 1,
                       part := s.fld IOMMU_FAT_MATCH.PARTITION e }
    let pa := s.fld IOMMU_FAT_BASE.DCT e * 4096 + 64 * (rid - s.fld IOMMU_FAT_MATCH.RID_BASE e)
    match s.ioMay b pa 64 with
    | (false, s) => (.fault 2 pa, s)
    | (true, s) =>
      let s := s.agentRead (pa / 64)
      let g := fun o n => s.curNat (pa + o) n
      let fl := g 32 2
      let x : IoCtx :=
        { b with s1 := BitVec.ofNat 64 (g 0 8), s2 := BitVec.ofNat 64 (g 8 8), msi := g 16 8 / 4096,
                 irt := g 24 8 % 2 ^ 48 / 4096 * 4096, irtLog2 := g 24 8 % 16,
                 valid := fl.testBit 0, p2p := fl.testBit 1, qos := fl / 4 % 4 }
      (.ok x, { s with ctxCache := x :: s.ctxCache.take 255 })

/-- One stage of the IOMMU's walk, a level at a time from a table at `base` (R56 to R63, R319). `tr` turns the address of a
PTE into a physical one. -/
def State.ioStage (s : State) (ctx : IoCtx) (gst wr : Bool) (va iova : Nat)
    (tr : State → Nat → Bool → (IoRes Leaf × State)) : Nat → Nat → (IoRes Leaf × State)
  | 0, _ => (.fault 1 iova, s)
  | lvl + 1, base =>
    let ix := if gst then va / 2 ^ (12 + 9 * lvl) else va / 2 ^ (12 + 9 * lvl) % 512
    match tr s (base + 8 * ix) false with
    | (.fault k a, s) => (.fault k a, s)
    | (.ok la, s) =>
      match s.ioMay ctx la.pa 8 with
      | (false, s) => (.fault 2 la.pa, s)
      | (true, s) =>
        let s := s.agentRead (la.pa / 64)
        let pte : W := BitVec.ofNat 64 (s.curNat la.pa 8)
        if bit pte 0 = false ∨ (bit pte 1 = false ∧ bit pte 2) then (.fault 1 iova, s)
        else if bit pte 1 = false ∧ bit pte 3 = false then
          if field pte 63 54 ≠ 0 ∨ field pte 7 6 ≠ 0 ∨ bit pte 4 then (.fault 1 iova, s)
          else s.ioStage ctx gst wr (if gst then va % 2 ^ (12 + 9 * lvl) else va) iova tr lvl (field pte 53 10 * 4096)
        else
          match leafOf pte lvl true with
          | none => (.fault 1 iova, s)
          | some l =>
            if (gst && !l.u) || !(if wr then l.w else l.r) then (.fault 1 iova, s)
            else if bit pte 6 ∧ (wr = false ∨ bit pte 7) then (.ok l, s)
            else
              match tr s (base + 8 * ix) true with
              | (.fault k a, s) => (.fault k a, s)
              | (.ok lw, s) =>
                let pte' := pte ||| 0x40 ||| (if wr then 0x80 else 0)
                (.ok { l with dirty := bit pte' 7 }, s.agentWriteBytes lw.pa (leBytes 8 pte'.toNat) ctx.secure)

/-- The second stage of a context: Bare, or the walk of S2ATP; the answer's `pa` is that of the page. -/
def State.ioG (s : State) (ctx : IoCtx) (wr : Bool) (gpa iova : Nat) : IoRes Leaf × State :=
  let m := field ctx.s2 63 60
  if m = 0 then
    (if gpa < 2 ^ 48 then (.ok { pa := gpa / 2 ^ 30 * 2 ^ 30, size := 30 }, s) else (.fault 1 iova, s))
  else if modeLevels m = 0 ∨ 2 ^ (12 + 9 * modeLevels m + 2) ≤ gpa then (.fault 1 iova, s)
  else s.ioStage ctx true wr gpa iova (fun s a _ => (.ok { pa := a, size := 3 }, s)) (modeLevels m)
    (field ctx.s2 35 2 * 4 * 4096)

/-- Both stages of a translation: the physical address and the page it came by (R319). -/
def State.ioWalk (s : State) (ctx : IoCtx) (wr : Bool) (iova : Nat) : IoRes Leaf × State :=
  let m := field ctx.s1 63 60
  let tr := fun (s : State) (a : Nat) (w : Bool) =>
    match s.ioG ctx w a iova with
    | (.ok l, s) => (IoRes.ok { l with pa := l.pa + a % 2 ^ l.size }, s)
    | r => r
  let first :=
    if m = 0 then (IoRes.ok ({ pa := iova / 2 ^ 30 * 2 ^ 30, size := 30 } : Leaf), s)
    else if modeLevels m = 0 ∨ canonical m iova = false then (.fault 1 iova, s)
    else s.ioStage ctx false wr iova iova tr (modeLevels m) (field ctx.s1 35 0 * 4096)
  match first with
  | (.fault k a, s) => (.fault k a, s)
  | (.ok l, s) =>
    match s.ioG ctx wr (l.pa + iova % 2 ^ l.size) iova with
    | (.fault k a, s) => (.fault k a, s)
    | (.ok g, s) =>
      let gpa := l.pa + iova % 2 ^ l.size
      let z := Nat.min l.size g.size
      let size := if 30 ≤ z then 30 else if 21 ≤ z then 21 else 12
      (.ok { pa := (g.pa + gpa % 2 ^ g.size) / 2 ^ size * 2 ^ size, size := size, r := l.r && g.r, w := l.w && g.w,
             dirty := l.dirty && g.dirty }, s)

/-- Whether two IOTLB entries stand in one of its 512 sets, and whether they have one tag. DESIGN CHOICE (log entry 23): the set is the page
number at the entry's own size, modulo 512, and a full set gives up its oldest entry. -/
def IoTlbEnt.sameSet (a b : IoTlbEnt) : Bool := a.vbase / 2 ^ a.size % 512 == b.vbase / 2 ^ b.size % 512
def IoTlbEnt.clash (a b : IoTlbEnt) : Bool :=
  a.secure == b.secure && a.part == b.part && a.vmid == b.vmid && a.ctl == b.ctl && a.rid == b.rid && a.vbase == b.vbase && a.size == b.size

/-- Install an entry in its set of 8 ways (R319). -/
def ioTlbPut (l : List IoTlbEnt) (e : IoTlbEnt) : List IoTlbEnt :=
  let others := l.filter fun o => !o.clash e
  e :: (others.filter fun o => o.sameSet e).take 7 ++ others.filter fun o => !o.sameSet e

/-- Translate an IOVA, through the IOTLB (R319): 4,096 entries of 8 ways. -/
def State.ioXlat (s : State) (ctx : IoCtx) (wr : Bool) (iova : Nat) : IoRes Nat × State :=
  let vmid := field ctx.s2 57 44
  match s.ioTlb.find? fun e => e.secure == ctx.secure && e.part == ctx.part && e.vmid == vmid && e.ctl == ctx.ctl &&
      e.rid == ctx.rid && e.vbase / 2 ^ e.size == iova / 2 ^ e.size && (if wr then e.w && e.dirty else e.r) with
  | some e => (.ok (e.pbase + iova % 2 ^ e.size), s)
  | none =>
    match s.ioWalk ctx wr iova with
    | (.fault k a, s) => (.fault k a, s)
    | (.ok l, s) =>
      let e : IoTlbEnt :=
        { secure := ctx.secure, part := ctx.part, vmid := vmid, ctl := ctx.ctl, rid := ctx.rid, entry := ctx.entry,
          vbase := iova / 2 ^ l.size * 2 ^ l.size, size := l.size, pbase := l.pa, r := l.r, w := l.w, dirty := l.dirty }
      (.ok (l.pa + iova % 2 ^ l.size), { s with ioTlb := ioTlbPut s.ioTlb e })

/-! ### Inbound requests: performance (R315, R316, R319, R320) -/

/-- An inbound request: its controller, port and requester, whether it writes, its address, length and data, whether it
carries a PASID prefix or asks for a translation, and, in endpoint mode, the BAR it hits (0 or 2). -/
structure Inb where
  c : Nat := 0
  port : Nat := 0
  rid : Nat := 0
  write : Bool := false
  addr : Nat := 0
  len : Nat := 0
  data : List Byte := []
  deriving DecidableEq, Repr

/-- Complete an inbound read; a write has no completion. -/
def State.inbDone (s : State) (q : Inb) (status : Nat) (bs : List Byte) : State :=
  if q.write then s
  else { s with pcieCpl := tset {} s.pcieCpl q.c { port := q.port, rid := q.rid, status := status, data := bs } }

/-- An IOMMU fault of a partition (R319, IOMMU_FAULT): its record, the fault register and the partition's source. -/
def State.ioFault (s : State) (q : Inb) (part kind cls code addr : Nat) : State :=
  let s1 := s.logErr 46 q.c cls code addr
  let v := s1.rd .IOMMU_FAULT part
  let n := Nat.min (field v 40 35 + 1) 63
  let n := if field v 63 63 = 0 then 1 else n
  let v := putField (putField (putField (putField (putField (putField v 63 63 1) 62 60 kind) 59 58 q.c) 57 57 (b2n q.write))
    56 41 q.rid) 40 35 n
  (((s1.wr .IOMMU_FAULT part v).raise (1536 + part)).count (cuPcie q.c) 0x08 none 1)

/-- A message interrupt (R315): the remap table entry is read and handed to the event router, or the message is discarded. -/
def State.inbMsi (s : State) (q : Inb) (ctx : IoCtx) : State :=
  let d := ofLeBytes q.data
  let ix := d % 2 ^ 11
  let lose := fun (s : State) => s.ioFault q ctx.part 3 1 0x613 ix
  if q.len ≠ 4 ∨ d / 2 ^ 11 ≠ 0 ∨ 11 < ctx.irtLog2 ∨ 2 ^ ctx.irtLog2 ≤ ix then lose s
  else
    let pa := ctx.irt + 8 * ix
    match s.ioMay ctx pa 8 with
    | (false, s) => s.ioFault q ctx.part 2 2 0x612 pa
    | (true, s) =>
      let s := s.agentRead (pa / 64)
      let e : W := BitVec.ofNat 64 (s.curNat pa 8)
      let h := field e 22 16
      let page := field e 11 8
      if bit e 63 = false ∨ 96 ≤ h ∨ s.ownsHart ctx.part h = false ∨ (ctx.secure ∧ page ≠ 0) then lose s
      else if ctx.secure then s.message h 16 (field e 7 0)
      else s.message h page (Nat.max 64 (field e 7 0))

/-- Perform a translated request at a physical address (R319, R320). A read that R172 withholds is not performed yet. -/
def State.inbPerform (s0 s : State) (q : Inb) (ctx : IoCtx) (pa : Nat) (tenBit : Bool) : State :=
  let deny := fun (s : State) => (s.ioFault q ctx.part 2 2 0x612 pa).inbDone q 2 []
  match s.region pa with
  | .dram =>
    (match s.ioMay ctx pa q.len with
    | (false, s) => deny s
    | (true, s) =>
      if q.write then (match s.dmaWrite pa q.data ctx.secure with
        | some s => s
        | none => s)
      else match s.dmaRead 27 pa q.len with
        | (.wait, _) => s0
        | (.err, s) => s.inbDone q 2 []
        | (.ok bs, s) => s.inbDone q 0 bs)
  | .pcie =>
    let c2 := pa / 2 ^ 40 - 16
    if ctx.p2p = false ∨ c2 = q.c ∨ s.isEcam pa ∨ ownerPasses (s.regionOwner pa) ctx.secure ctx.part = false then deny s
    else
      let p2 := ((List.range 4).find? fun p => s.portUp c2 p).getD 0
      let r : PcieTag := { use := .peer q.c q.port, write := q.write, size := q.len, pa := pa, secure := ctx.secure, part := ctx.part }
      (match s.pcieOutbound c2 p2 tenBit r (pa % 2 ^ 40) (ofLeBytes q.data) with
      | (.wait, _) => s0
      | (.sent, s) => s
      | (.done d st, s) => s.inbDone q (if st = 0 then 0 else 2) (if st = 0 then leBytes q.len d else []))
  | _ => deny s

/-- Whether the requester's partition is in a reset that discards its requests (R323). -/
def State.inbReset (s : State) (part : Nat) : Bool := s.fld WPC_PART_CTL.STATE part == 1

/-- Whether a write of a requester in partition reset was a message interrupt: its page is the MSI_IOVA of the requester's context (R315, R323). -/
def State.lostMsi (s : State) (q : Inb) (e : Nat) : Bool :=
  let page := match s.ctxCache.find? fun x => x.ctl == q.c && x.rid == q.rid with
    | some x => x.msi
    | none => s.curNat (s.fld IOMMU_FAT_BASE.DCT e * 4096 + 64 * (q.rid - s.fld IOMMU_FAT_MATCH.RID_BASE e) + 16) 8 / 4096
  q.write && q.len == 4 && q.addr / 4096 == page

/-- A request at the IOMMU (R317, R319). -/
def State.ioInbound (s : State) (q : Inb) (tenBit : Bool) : State :=
  match s.fatMatch q.c q.rid with
  | none => (((s.logErr 46 q.c 2 0x610 q.rid).raise 1568).count (cuPcie q.c) 0x08 none 1).inbDone q 1 []
  | some e =>
    let part := s.fld IOMMU_FAT_MATCH.PARTITION e
    if s.inbReset part then
      ({ s with msiLost := if s.lostMsi q e then s.msiLost + 1 else s.msiLost } : State).inbDone q 1 []
    else match s.ioContext q.c q.rid e with
      | (.fault k a, s) => (s.ioFault q part k 2 0x612 a).inbDone q 2 []
      | (.ok ctx, s1) =>
        if ctx.valid = false then (s1.ioFault q part 0 2 0x610 q.rid).inbDone q 1 []
        else
          let s2 := s1.count (cuPcie q.c) 0x03 (some part) 1
          if q.write && q.addr / 4096 == ctx.msi then s2.inbMsi q ctx
          else match s2.ioXlat ctx q.write q.addr with
            | (.fault k a, s3) => (s3.ioFault q part k 2 (if k = 1 then 0x611 else 0x612) a).inbDone q 2 []
            | (.ok pa, s3) => s.inbPerform s3 q ctx pa tenBit

/-- The byte at an offset of the recovery window (R417). -/
def State.rcvByte (s : State) (o : Nat) : Byte :=
  if s.rcv.active = false then 0
  else if o < 8 then (leBytes 8 (s.rcv.st + 256 * s.rcv.reason)).getD o 0
  else if o < 16 then (leBytes 8 (s.rcv.off + 2 ^ 32 * s.rcv.len)).getD (o - 8) 0
  else if o < 32 then (leBytes 16 (s.fuseField 64 128)).getD (o - 16) 0
  else if 0x8000 ≤ o ∧ o < 0x10000 then tget 0 s.rcv.data (o - 0x8000)
  else 0

/-- A write of chunk data, or of the OFFSET and LENGTH of RCV_CTL, into the recovery window (R417); its CMD is a command of its
own. -/
def State.rcvWrite (s : State) (o : Nat) (bs : List Byte) : State :=
  if s.rcv.active = false then s
  else if 0x8000 ≤ o ∧ o + bs.length ≤ 0x10000 then
    { s with rcv := { s.rcv with data := memSetBytes s.rcv.data (o - 0x8000) bs } }
  else if o = 8 ∧ bs.length = 8 then
    let v := ofLeBytes bs
    { s with rcv := { s.rcv with off := v % 2 ^ 32, len := v / 2 ^ 32 % 2 ^ 16 } }
  else s

/-- PCIE_INBOUND_REQUEST (R317): a device behind port `p` of controller `c` reads `len` bytes at `addr`, or writes `data`; in
endpoint mode the host does, in BAR0 or in BAR2 (R322). A request with a PASID prefix, or one that asks for a translation,
is completed with Unsupported Request (R309). One that would take the I/O coherence agent past 256 line operations finds no credit on its link
and waits (R321). -/
def execPcieInboundRequest (c p rid : Nat) (write : Bool) (addr len : Nat) (data : List Byte) (pasid : Bool) (bar2 tenBit : Bool)
    (s : State) : Res :=
  let ep := s.fld PCIE_CTL.MODE c == 1
  let n := if write then data.length else len
  let q : Inb := { c := c, port := p, rid := if ep then 0 else rid % 2 ^ 16, write := write, addr := addr % 2 ^ 64,
                   len := n, data := data }
  .next <| if 4 ≤ c ∨ n = 0 ∨ (write ∧ 512 < n) ∨ 4096 < n ∨ 4096 < q.addr % 4096 + n then s
  else if ep = false ∧ s.portUp c p = false then s
  else if agentBound 25 < s.agentLines 25 + (linesOf q.addr n).length then s
  else if pasid then s.inbDone q 1 []
  else if ep && bar2 then
    (if write then s.rcvWrite (q.addr % 65536) data
     else s.inbDone q 0 ((List.range n).map fun i => s.rcvByte (q.addr % 65536 + i)))
  else s.ioInbound q tenBit

/-- SECONDARY_BUS_RESET_END (R323): the 2 ms hot reset of a port, and any PERST_N pulse, ends. -/
def execSecondaryBusResetEnd (c p : Nat) (s : State) : Res :=
  .next <| if 4 ≤ c ∨ 4 ≤ p then s else { s with portReset := tset false s.portReset (portIx c p) false }

end Sys2Proof.Machine
end

