-- ==== Sys2Proof/Machine/Cipher.lean ====
section
/-! DEFINITION. The cipher clusters (chapter 14): job rings, key checks, the jobs of each opcode and their completion. The
algorithms that the manual names by their standards are free functions of their inputs (`Config.cryptoByte`,
`Config.cryptoTrue`). -/

namespace Sys2Proof.Machine

open Sys2Proof

/-! ### Rings and jobs (R329, R330, R345 to R347) -/

def cphNode (k : Nat) : Nat := if k = 0 then 43 else 44
def cphSrc (k : Nat) : Nat := 1152 + 64 * k
def ringIx (k r : Nat) : Nat := k * 32 + r

/-- The jobs of a ring that HEAD has not passed. -/
def State.ringJobs (s : State) (k r : Nat) : List Job := tget [] s.jobs (ringIx k r)

/-- A cluster's jobs in flight and its key cache, as CPH_STATUS shows them. -/
def State.cphCounts (s : State) (k : Nat) : State :=
  let n := ((List.range 32).map fun r => ((s.ringJobs k r).filter fun j => j.started && !j.posted).length).sum
  (s.setFld CPH_STATUS.JOBS k n).setFld CPH_STATUS.KEYCACHE_USED k (tget [] s.cphKeys k).length

/-- Replace a ring's jobs: the next job starts when it may (R330). -/
def State.setJobs (s : State) (k r : Nat) (js : List Job) : State :=
  let start := fun (acc : List Job) (j : Job) =>
    let may := if j.flags.testBit 1 then acc.all (fun p => p.posted) else acc.all (fun p => p.started)
    acc ++ [if j.started then j else { j with started := may }]
  ({ s with jobs := tset [] s.jobs (ringIx k r) (js.foldl start []) } : State).cphCounts k

/-- Whether an access of a ring's job is granted (R341): DRAM of the ring's world and partition. -/
def State.cphMay (s : State) (k r pa n : Nat) : Bool × State :=
  let i := ringIx k r
  if n = 0 then (true, s)
  else s.dramMay 26 pa n (s.fld CPH_RING_CFG.WORLD i == 1) (s.fld CPH_RING_CFG.PARTITION i)

/-- How a job's access or its work ends: it waits for data to be durable (R342), it completes the job with a status and the
address for a record, or it goes on. -/
inductive JRes (α : Type) where
  | wait
  | fail (status addr : Nat)
  | ok (v : α)
  deriving DecidableEq, Repr

/-- A job's read (R341, R342). -/
def State.cphRead (s : State) (k r pa n : Nat) : JRes (List Byte) × State :=
  match s.cphMay k r pa n with
  | (false, s) => (.fail 0x0C pa, s)
  | (true, s) =>
    if n = 0 then (.ok [], s)
    else match s.dmaRead 25 pa n with
      | (.wait, _) => (.wait, s)
      | (.err, s) => (.fail (if (linesOf pa n).any fun l => s.tagHold 25 l == 2 then 7 else 6) pa, s)
      | (.ok bs, s) => (.ok bs, s)

/-- CPH_TAIL (R330): a write to CPH_RING_PTR posts descriptors. -/
def execCphTail (ag : Agent) (k r : Nat) (w : W) (s : State) : Res :=
  .next <| if 2 ≤ k ∨ 32 ≤ r then s else s.onWrite ag .CPH_RING_PTR (ringIx k r) w id

/-- The first descriptor of a ring that is not fetched: the ring is served only when every job it has fetched has started. -/
def State.fetchable (s : State) (k r : Nat) : Option Nat :=
  let i := ringIx k r
  let head := s.fld CPH_RING_PTR.HEAD i
  let n := (s.fld CPH_RING_PTR.TAIL i + 65536 - head) % 65536
  let js := s.ringJobs k r
  if s.fld CPH_RING_CFG.VALID i = 0 ∨ js.any (fun j => !j.started) ∨
      s.fld WPC_PART_CTL.STATE (s.fld CPH_RING_CFG.PARTITION i) = 1 ∨
      (s.fld (if k = 0 then DBG_FREEZE.CIPHER0 else DBG_FREEZE.CIPHER1) 0 = 1 ∧ s.halted (s.fld CPH_RING_CFG.PARTITION i))
  then none
  else ((List.range n).map fun d => (head + d) % 65536).find? fun x => !js.any fun j => j.ix == x

/-- The class that an opcode needs of KEY1 and of KEY2 (R332, R336): the classes allowed. -/
def keyClasses (op : Nat) (second : Bool) : List Nat :=
  if op = 0x04 ∨ op = 0x08 ∨ op = 0x12 then [0, 4]
  else if op ≤ 0x11 ∧ op ≠ 0x10 then [0]
  else if op = 0x20 ∨ op = 0x22 ∨ op = 0x24 ∨ op = 0x26 then [6]
  else if op = 0x21 ∨ op = 0x23 ∨ op = 0x25 ∨ op = 0x27 then [5]
  else if op = 0x30 then [1]
  else if op = 0x31 then (if second then [1] else [2])
  else if op = 0x32 then [2]
  else if op = 0x33 then [3]
  else []

/-- The algorithms that an opcode takes of its keys. -/
def keyAlgs (op alg : Nat) (second : Bool) : List Nat :=
  let aesTdes := fun f => if f = 4 then [0, 1] else [2, 3]
  if op ≤ 0x04 then [0, 1]
  else if op ≤ 0x08 then [2, 3]
  else if op = 0x11 ∨ op = 0x12 then [0, 1, 2, 3, 4]
  else if op = 0x20 ∨ op = 0x21 then [5]
  else if op = 0x22 ∨ op = 0x23 then [6, 7]
  else if op = 0x24 ∨ op = 0x25 then [8]
  else if op = 0x26 ∨ op = 0x27 then [9]
  else if op = 0x30 ∨ op = 0x31 then aesTdes (if second then alg / 16 else alg % 16)
  else if alg % 2 = 1 then [0, 1] else [2, 3]

/-- Whether a handle passes R335 for a ring: 0 is right only where the opcode needs no key there. -/
def State.keyOk (s : State) (secure : Bool) (part op alg h : Nat) (second : Bool) : Bool :=
  let verify := op == 0x20 || op == 0x22 || op == 0x24 || op == 0x26
  if h = 0 then op == 0x10 || op == 0x3F || (verify && !second) || (second && op != 0x30 && op != 0x31)
  else match tget none s.keys h with
    | none => false
    | some k => (keyClasses op second).contains k.cls && (keyAlgs op alg second).contains k.alg &&
        (secure || (!k.secure && k.part == part))

/-- Whether an ALG byte names a variant of an opcode (R332). -/
def algOk (op alg : Nat) : Bool :=
  if op = 1 ∨ op = 2 then decide (alg ≤ 4)
  else if op = 5 ∨ op = 6 then decide (alg ≤ 1)
  else if 0x10 ≤ op ∧ op ≤ 0x12 then decide (alg ≤ 6)
  else if op = 0x20 ∨ op = 0x21 then decide (alg % 16 ≤ 2) && decide (alg / 16 ≤ 1)
  else if op = 0x22 ∨ op = 0x23 ∨ op = 0x32 ∨ op = 0x33 then decide (alg ≤ 1)
  else if op = 0x30 ∨ op = 0x31 then [0, 1, 3, 4].contains (alg % 16) && [0, 1, 3, 4].contains (alg / 16)
  else alg == 0

/-- The opcodes of R332. -/
def jobOps : List Nat :=
  [1, 2, 3, 4, 5, 6, 7, 8, 0x10, 0x11, 0x12, 0x20, 0x21, 0x22, 0x23, 0x24, 0x25, 0x26, 0x27, 0x30, 0x31, 0x32, 0x33, 0x3F]

/-- Bring a key into a cluster's cache of 256 (R337). -/
def State.keyCache (s : State) (k h : Nat) (part : Nat) : State :=
  let c := tget [] s.cphKeys k
  if h = 0 then s
  else if c.contains h then { s with cphKeys := tset [] s.cphKeys k (h :: c.filter (· ≠ h)) }
  else ({ s with cphKeys := tset [] s.cphKeys k (h :: c.take 255) } : State).count (cuCph k) 0x04 (some part) 1

/-- The record of a job's failure (R347), at most one per ring and code per millisecond. -/
def State.cphRecord (s : State) (k r status addr : Nat) : State :=
  let code := if status = 3 then 0x700 else if status = 4 then 0x701 else if status = 6 then 0x702
    else if status = 0x0C then 0x703 else 0
  if code = 0 then s
  else s.logLimited (2 ^ 21 + ringIx k r * 4096 + code) 1000000 (cphNode k) r (if code < 0x702 then 1 else 2) code addr

/-- Give a job its status and length. -/
def State.jobDone (s : State) (k r ix status outLen addr : Nat) : State :=
  let js := (s.ringJobs k r).map fun j => if j.ix = ix then { j with status := some status, outLen := outLen } else j
  (s.setJobs k r js).cphRecord k r status addr

/-- Fetch the descriptor `ix` of a ring, check it and its keys, and start its job (R330 to R336). -/
def State.fetchDesc (s : State) (k r ix : Nat) : State :=
  let i := ringIx k r
  let secure := s.fld CPH_RING_CFG.WORLD i == 1
  let part := s.fld CPH_RING_CFG.PARTITION i
  let pa := s.fld CPH_RING_CFG.BASE i * 4096 + 64 * (ix % 2 ^ s.fld CPH_RING_CFG.COUNT_LOG2 i)
  match s.cphRead k r pa 64 with
  | (.wait, _) => s
  | (.fail st a, s) => (s.setJobs k r (s.ringJobs k r ++ [{ ix := ix }])).jobDone k r ix st 0 a
  | (.ok bs, s) =>
    let g := fun (o n : Nat) => ofLeBytes ((bs.drop o).take n)
    let j : Job := { ix := ix, op := g 0 1, flags := g 1 1, key1 := g 2 2, key2 := g 4 2, alg := g 7 1, src := g 8 8,
                     dst := g 16 8, srcLen := g 24 4, dstLen := g 28 4, param := (bs.drop 32).take 16, aux := g 48 8,
                     auxLen := g 56 4, k1 := tget none s.keys (g 2 2), k2 := tget none s.keys (g 4 2) }
    let s1 := s.setJobs k r (s.ringJobs k r ++ [j])
    if s.fld CPH_STATUS.STATE k = 3 then s1.jobDone k r ix 0x0B 0 0
    else if jobOps.contains j.op = false ∨ algOk j.op j.alg = false ∨ 16 ≤ j.flags ∨ 16777216 < j.srcLen ∨
        65536 < j.auxLen then s1.jobDone k r ix 0x04 0 pa
    else if s.keyOk secure part j.op j.alg j.key1 false = false then s1.jobDone k r ix 0x03 0 j.key1
    else if s.keyOk secure part j.op j.alg j.key2 true = false then s1.jobDone k r ix 0x03 0 j.key2
    else ((s1.keyCache k j.key1 part).keyCache k j.key2 part).cphCounts k

/-- DESCRIPTOR_FETCH (R330): a cluster takes the next descriptor, its rings in round robin, while fewer than 64 jobs run. -/
def execDescriptorFetch (k : Nat) (s : State) : Res :=
  .next <| if 2 ≤ k ∨ s.fld CPH_STATUS.STATE k < 2 ∨ s.lidState (cphNode k) 0 ≠ 0 ∨ 64 ≤ s.fld CPH_STATUS.JOBS k then s
  else
    let t := tget 0 s.cphTurn k
    match ((List.range 32).map fun d => (t + d) % 32).find? fun r => (s.fetchable k r).isSome with
    | none => s
    | some r => match s.fetchable k r with
      | none => s
      | some ix =>
        let s1 := s.fetchDesc k r ix
        if (s1.ringJobs k r).length = (s.ringJobs k r).length then s
        else { s1 with cphTurn := tset 0 s1.cphTurn k ((r + 1) % 32) }

/-! ### The work of a job -/

/-- What a job makes: its output, or a verdict with the output that goes with it. -/
structure JOut where
  pass : Bool := true
  out : List Byte := []
  deriving DecidableEq, Repr

/-- Write a job's output to DST (R333, R341). -/
def State.jobWrite (s : State) (k r : Nat) (j : Job) (o : JOut) : State :=
  let n := o.out.length
  if j.dstLen < n then s.jobDone k r j.ix 0x0A 0 0
  else match s.cphMay k r j.dst n with
    | (false, s) => s.jobDone k r j.ix 0x0C 0 j.dst
    | (true, s) =>
      let sec := s.fld CPH_RING_CFG.WORLD (ringIx k r) == 1
      if n = 0 then s.jobDone k r j.ix (if o.pass then 1 else 2) 0 0
      else match s.dmaWrite j.dst o.out sec with
        | none => s.jobDone k r j.ix 0x06 0 j.dst
        | some s => s.jobDone k r j.ix (if o.pass then 1 else 2) n 0

/-- A job's wait for tagged data is over: its tag index is free. -/
def State.unwait (s : State) (k r : Nat) (j : Job) : State :=
  match j.wait with
  | none => s
  | some n =>
    if (tget {} s.txns (cphNode k * 1024 + n)).use = some (.job k r j.ix) then s.freeTxn (cphNode k) n else s

/-- A job whose read is withheld (R342): the wait holds a tag index of the cluster's stop and counts toward its memory timeout; when that
has ended it, the job completes with BUS_ERROR. -/
def State.jobWait (s : State) (k r : Nat) (j : Job) : State :=
  match j.wait with
  | some n => if (tget {} s.txns (cphNode k * 1024 + n)).use = some (.job k r j.ix) then s else s.jobDone k r j.ix 6 0 j.src
  | none => match s.takeTxn (cphNode k) (.job k r j.ix) j.src false with
    | none => s
    | some (n, s) => s.setJobs k r ((s.ringJobs k r).map fun x => if x.ix = j.ix then { x with wait := some n } else x)

/-- Run the job at `ix` of a ring if it has started, has the opcode and is not finished, while the cipher agent has a line operation free
(R341). An access that the cluster's Lid ends leaves it without a status (R344). -/
def State.runJob (s : State) (k r ix op : Nat) (f : State → Job → JRes JOut × State) : State :=
  if 2 ≤ k ∨ 32 ≤ r ∨ s.lidState (cphNode k) 0 = 2 ∨ agentBound 26 ≤ s.agentLines 26 then s
  else match (s.ringJobs k r).find? fun j => j.ix == ix && j.op == op && j.started && j.status.isNone with
    | none => s
    | some j => match f s j with
      | (.wait, _) => s.jobWait k r j
      | (.fail st a, s) => (s.unwait k r j).jobDone k r ix st 0 a
      | (.ok o, s) => (s.unwait k r j).jobWrite k r j o

/-- Read SRC and go on. -/
def State.withSrc (s : State) (k r : Nat) (j : Job) (f : State → List Byte → JRes JOut × State) : JRes JOut × State :=
  match s.cphRead k r j.src j.srcLen with
  | (.wait, s) => (.wait, s)
  | (.fail st a, s) => (.fail st a, s)
  | (.ok bs, s) => f s bs

/-- Read AUX and go on. -/
def State.withAux (s : State) (k r : Nat) (j : Job) (f : State → List Byte → JRes JOut × State) : JRes JOut × State :=
  match s.cphRead k r j.aux j.auxLen with
  | (.wait, s) => (.wait, s)
  | (.fail st a, s) => (.fail st a, s)
  | (.ok bs, s) => f s bs

/-- The secret bytes of a job's keys. -/
def Job.v1 (j : Job) : List Byte := match j.k1 with | some k => k.value | none => []
def Job.v2 (j : Job) : List Byte := match j.k2 with | some k => k.value | none => []

/-- Output where DST has room for it, with nothing read or written otherwise. -/
def roomFor (j : Job) (n : Nat) (x : JRes JOut × State) (s : State) : JRes JOut × State :=
  if j.dstLen < n then (.fail 0x0A 0, s) else x

/-- AES_ENCRYPT (R332): ECB, CBC, CTR, GCM or XTS; GCM takes the AAD at AUX and appends the tag. -/
def execAesEncrypt (k r ix : Nat) (s : State) : Res :=
  .next <| s.runJob k r ix 1 fun s j =>
    let n := j.srcLen
    let bad := (decide (j.alg ≤ 1) && decide (n % 16 ≠ 0)) || (j.alg == 4 && decide (n < 16))
    if bad then (.fail 5 0, s)
    else if j.alg = 3 then
      roomFor j (n + 16) (s.withAux k r j fun s aad => s.withSrc k r j fun s bs =>
        let ct := crypto 1 [[3], j.v1, j.param.take 12, bs] n
        (.ok { out := ct ++ crypto 0x101 [j.v1, j.param.take 12, aad, ct] 16 }, s)) s
    else roomFor j n (s.withSrc k r j fun s bs =>
      (.ok { out := crypto 1 [[BitVec.ofNat 8 j.alg], j.v1, j.v2, j.param, bs] n }, s)) s

/-- AES_DECRYPT (R332, R333): GCM takes the tag from the last 16 bytes of SRC; where it does not match, DST is overwritten with
zeros. -/
def execAesDecrypt (k r ix : Nat) (s : State) : Res :=
  .next <| s.runJob k r ix 2 fun s j =>
    let n := j.srcLen
    let bad := (decide (j.alg ≤ 1) && decide (n % 16 ≠ 0)) || ((j.alg == 3 || j.alg == 4) && decide (n < 16))
    if bad then (.fail 5 0, s)
    else if j.alg = 3 then
      roomFor j (n - 16) (s.withAux k r j fun s aad => s.withSrc k r j fun s bs =>
        let ct := bs.take (n - 16)
        if crypto 0x101 [j.v1, j.param.take 12, aad, ct] 16 = bs.drop (n - 16) then
          (.ok { out := crypto 2 [[3], j.v1, j.param.take 12, ct] (n - 16) }, s)
        else (.ok { pass := false, out := List.replicate (n - 16) 0 }, s)) s
    else roomFor j n (s.withSrc k r j fun s bs =>
      (.ok { out := crypto 2 [[BitVec.ofNat 8 j.alg], j.v1, j.v2, j.param, bs] n }, s)) s

/-- The length of a hash, or of an HMAC over it (R332). -/
def hashLen (alg : Nat) : Nat :=
  if alg = 0 then 32 else if alg = 1 then 48 else if alg = 2 then 64 else if alg = 3 then 28 else if alg = 4 then 32
  else if alg = 5 then 48 else 64

/-- A job that writes an `n`-byte value of SRC. -/
def State.genJob (s : State) (k r ix op n : Nat) (mac : Job → List Byte → List Byte) : State :=
  s.runJob k r ix op fun s j => roomFor j n (s.withSrc k r j fun s bs => (.ok { out := mac j bs }, s)) s

/-- A job that compares an `n`-byte value of SRC with the one at AUX. -/
def State.checkJob (s : State) (k r ix op n : Nat) (mac : Job → List Byte → List Byte) : State :=
  s.runJob k r ix op fun s j =>
    if j.auxLen ≠ n then (.fail 5 0, s)
    else s.withAux k r j fun s given => s.withSrc k r j fun s bs => (.ok { pass := mac j bs == given }, s)

/-- The MACs of R326 under a key. -/
def cmac (key bs : List Byte) : List Byte := crypto 3 [key, bs] 16
def retailMac (key bs : List Byte) : List Byte := crypto 7 [key, bs] 8
def hashOf (alg : Nat) (bs : List Byte) : List Byte := crypto 0x10 [[BitVec.ofNat 8 alg], bs] (hashLen alg)
def hmacOf (alg : Nat) (key bs : List Byte) : List Byte := crypto 0x11 [[BitVec.ofNat 8 alg], key, bs] (hashLen alg)

/-- AES_CMAC_GENERATE (R332). -/
def execAesCmacGenerate (k r ix : Nat) (s : State) : Res := .next (s.genJob k r ix 3 16 fun j bs => cmac j.v1 bs)

/-- AES_CMAC_VERIFY (R332): the MAC is at AUX. -/
def execAesCmacVerify (k r ix : Nat) (s : State) : Res := .next (s.checkJob k r ix 4 16 fun j bs => cmac j.v1 bs)

/-- A TDES job in ECB or CBC, on whole blocks. -/
def State.tdesJob (s : State) (k r ix op : Nat) : State :=
  s.runJob k r ix op fun s j =>
    if j.srcLen % 8 ≠ 0 then (.fail 5 0, s)
    else roomFor j j.srcLen (s.withSrc k r j fun s bs =>
      (.ok { out := crypto op [[BitVec.ofNat 8 j.alg], j.v1, j.param.take 8, bs] j.srcLen }, s)) s

/-- TDES_ENCRYPT (R332). -/
def execTdesEncrypt (k r ix : Nat) (s : State) : Res := .next (s.tdesJob k r ix 5)

/-- TDES_DECRYPT (R332). -/
def execTdesDecrypt (k r ix : Nat) (s : State) : Res := .next (s.tdesJob k r ix 6)

/-- RETAIL_MAC_GENERATE (R332). -/
def execRetailMacGenerate (k r ix : Nat) (s : State) : Res := .next (s.genJob k r ix 7 8 fun j bs => retailMac j.v1 bs)

/-- RETAIL_MAC_VERIFY (R332). -/
def execRetailMacVerify (k r ix : Nat) (s : State) : Res := .next (s.checkJob k r ix 8 8 fun j bs => retailMac j.v1 bs)

/-- The job at an index of a ring, for the rows whose length depends on its ALG. -/
def State.jobAlg (s : State) (k r ix : Nat) : Nat := (((s.ringJobs k r).find? fun j => j.ix == ix).map (·.alg)).getD 0

/-- HASH (R332). -/
def execHash (k r ix : Nat) (s : State) : Res :=
  .next (s.genJob k r ix 0x10 (hashLen (s.jobAlg k r ix)) fun j bs => hashOf j.alg bs)

/-- HMAC_GENERATE (R332). -/
def execHmacGenerate (k r ix : Nat) (s : State) : Res :=
  .next (s.genJob k r ix 0x11 (hashLen (s.jobAlg k r ix)) fun j bs => hmacOf j.alg j.v1 bs)

/-- HMAC_VERIFY (R332). -/
def execHmacVerify (k r ix : Nat) (s : State) : Res :=
  .next (s.checkJob k r ix 0x12 (hashLen (s.jobAlg k r ix)) fun j bs => hmacOf j.alg j.v1 bs)

/-! ### Signatures (R332) -/

/-- The lengths of an algorithm's public key and signature, from the key or, inline, from ALG and AUX_LEN. RSA: the modulus's
bytes, 256 to 512 in steps of 8. -/
def sigLens (op : Nat) (j : Job) : Nat × Nat :=
  let m := match j.k1 with | some k => k.size | none => j.auxLen / 2
  let p384 := match j.k1 with | some k => k.alg == 7 | none => j.alg == 1
  if op / 2 = 0x10 then (m, m)
  else if op / 2 = 0x11 then (if p384 then (96, 96) else (64, 64))
  else if op / 2 = 0x12 then (32, 64)
  else (1952, 3309)

/-- A verify job: the public key comes from the handle or precedes the signature in AUX. -/
def State.verifyJob (s : State) (k r ix op : Nat) : State :=
  s.runJob k r ix op fun s j =>
    let n := sigLens op j
    let inl := j.k1.isNone
    let lenOk := j.auxLen == (if inl then n.1 + n.2 else n.2)
    let rsaOk := op != 0x20 || (decide (256 ≤ n.1 ∧ n.1 ≤ 512) && n.1 % 8 == 0)
    if lenOk = false ∨ rsaOk = false then (.fail 5 0, s)
    else s.withAux k r j fun s aux => s.withSrc k r j fun s msg =>
      let pk := if inl then aux.take n.1 else (match j.k1 with | some x => x.pub | none => [])
      let sig := if inl then aux.drop n.1 else aux
      (.ok { pass := Config.cryptoTrue op [[BitVec.ofNat 8 j.alg], pk, msg, sig] }, s)

/-- A sign job; `fresh` is random data that the signature draws on. -/
def State.signJob (s : State) (k r ix op : Nat) (fresh : Bool) : State :=
  s.runJob k r ix op fun s j =>
    let n := (sigLens op j).2
    roomFor j n (s.withSrc k r j fun s msg =>
      let rnd := if fresh then s.nonce else ([], s)
      (.ok { out := crypto op [[BitVec.ofNat 8 j.alg], j.v1, msg, rnd.1] n }, rnd.2)) s

/-- RSA_VERIFY (R332). -/
def execRsaVerify (k r ix : Nat) (s : State) : Res := .next (s.verifyJob k r ix 0x20)

/-- RSA_SIGN (R332): the salt of PSS is random. -/
def execRsaSign (k r ix : Nat) (s : State) : Res := .next (s.signJob k r ix 0x21 (decide (16 ≤ s.jobAlg k r ix)))

/-- ECDSA_VERIFY (R332). -/
def execEcdsaVerify (k r ix : Nat) (s : State) : Res := .next (s.verifyJob k r ix 0x22)

/-- ECDSA_SIGN (R332): k is deterministic. -/
def execEcdsaSign (k r ix : Nat) (s : State) : Res := .next (s.signJob k r ix 0x23 false)

/-- ED25519_VERIFY (R332). -/
def execEd25519Verify (k r ix : Nat) (s : State) : Res := .next (s.verifyJob k r ix 0x24)

/-- ED25519_SIGN (R332). -/
def execEd25519Sign (k r ix : Nat) (s : State) : Res := .next (s.signJob k r ix 0x25 false)

/-- ML_DSA_65_VERIFY (R332). -/
def execMlDsa65Verify (k r ix : Nat) (s : State) : Res := .next (s.verifyJob k r ix 0x26)

/-- Whether the job at an index has FLAGS.DET set. -/
def State.jobDet (s : State) (k r ix : Nat) : Bool :=
  (((s.ringJobs k r).find? fun j => j.ix == ix).map fun j => j.flags.testBit 3).getD false

/-- ML_DSA_65_SIGN (R332): hedged, or deterministic with FLAGS.DET. -/
def execMlDsa65Sign (k r ix : Nat) (s : State) : Res := .next (s.signJob k r ix 0x27 (!s.jobDet k r ix))

/-! ### Payment functions (R338 to R340) -/

/-- The bytes of a PIN block: 16 in format 4. -/
def pinLen (f : Nat) : Nat := if f = 4 then 16 else 8

/-- PIN translation of R338 from a key `kin` to KEY2. -/
def State.pinJob (s : State) (k r : Nat) (j : Job) (kin : List Byte) : JRes JOut × State :=
  let fi := j.alg % 16
  let fo := j.alg / 16
  if j.auxLen < 27 then (.fail 5 0, s)
  else roomFor j (pinLen fo) (s.withAux k r j fun s aux =>
    let blk := aux.take (pinLen fi)
    let digits := (aux.getD 26 0).toNat
    let pan := (aux.drop 16).take 10 ++ [aux.getD 26 0]
    let tdesOk := match j.k2 with | some x => x.usage.testBit 2 | none => false
    match Config.pinOf fi kin blk pan with
    | none => (.fail 8 0, s)
    | some pin =>
      if pin.length < 4 ∨ 12 < pin.length ∨ ((fi ≠ 1 ∨ fo ≠ 1) ∧ (digits = 0 ∨ 19 < digits)) ∨ (fo = 1 ∧ fi ≠ 1) ∨
          (fi = 4 ∧ fo ≠ 4 ∧ tdesOk = false) then (.fail 8 0, s)
      else
        let rnd := if fo = 0 then ([], s) else s.nonce
        (.ok { out := crypto 0x130 [[BitVec.ofNat 8 fo], j.v2, pin.map (BitVec.ofNat 8), pan, rnd.1] (pinLen fo) }, rnd.2)) s

/-- PIN_TRANSLATE (R338). -/
def execPinTranslate (k r ix : Nat) (s : State) : Res := .next (s.runJob k r ix 0x30 fun s j => s.pinJob k r j j.v1)

/-- The one-bits of a number of at most 32 bits. -/
def ones (v : Nat) : Nat := ((List.range 32).filter fun i => v.testBit i).length

/-- The number that bytes spell, most significant first. -/
def ofBeBytes (bs : List Byte) : Nat := ofLeBytes bs.reverse

/-- A KSN and whether its counter is one the derivation takes (R339): 21 bits at the end of 10 bytes for TDES, 32 at the end of
12 for AES. -/
def ksnOf (j : Job) : List Byte × Bool :=
  let aes := match j.k1 with | some k => decide (k.alg ≤ 1) | none => false
  let ksn := j.param.take (if aes then 12 else 10)
  (ksn, if aes then decide (ones (ofBeBytes (ksn.drop 8)) ≤ 16) else decide (ones (ofBeBytes (ksn.drop 7) % 2 ^ 21) ≤ 10))

/-- DUKPT_PIN_TRANSLATE (R339): the PIN key is derived from KEY1 and the KSN. -/
def execDukptPinTranslate (k r ix : Nat) (s : State) : Res :=
  .next <| s.runJob k r ix 0x31 fun s j =>
    let n := ksnOf j
    if n.2 = false then (.fail 9 0, s) else s.pinJob k r j (crypto 0x131 [j.v1, n.1] 32)

/-- DUKPT_MAC_VERIFY (R339): the MAC key is derived, and the MAC at AUX is compared with SRC's. -/
def execDukptMacVerify (k r ix : Nat) (s : State) : Res :=
  .next <| s.runJob k r ix 0x32 fun s j =>
    let n := ksnOf j
    let aes := j.alg == 1
    if n.2 = false then (.fail 9 0, s)
    else if j.auxLen ≠ (if aes then 16 else 8) then (.fail 5 0, s)
    else s.withAux k r j fun s given => s.withSrc k r j fun s bs =>
      let key := crypto 0x132 [j.v1, n.1] 32
      (.ok { pass := (if aes then cmac key bs else retailMac key bs) == given }, s)

/-- One derivation of R340: the ECB encryption of 16 bytes under a key; for TDES the right half is XORed with 0xFF first. -/
def derive340 (aes : Bool) (key bs : List Byte) : List Byte :=
  if aes then crypto 1 [[0], key, [], [], bs] 16
  else crypto 5 [[0], key, [], bs.take 8 ++ (bs.drop 8).map (· ^^^ 0xFF)] 16

/-- CRYPTOGRAM_VERIFY (R340). -/
def execCryptogramVerify (k r ix : Nat) (s : State) : Res :=
  .next <| s.runJob k r ix 0x33 fun s j =>
    let aes := j.alg == 1
    let resp := j.flags.testBit 2
    if j.auxLen < (if resp then 48 else 32) then (.fail 5 0, s)
    else roomFor j (if resp then 8 else 0) (s.withAux k r j fun s aux => s.withSrc k r j fun s bs =>
      let card := derive340 aes j.v1 (aux.take 16)
      let sess := derive340 aes card ((aux.drop 16).take 16)
      let mac := fun bs => (if aes then cmac sess bs else retailMac sess bs).take 8
      let ok := mac bs == j.param.take 8
      (.ok { pass := ok, out := if ok && resp then mac ((aux.drop 32).take 16) else [] }, s)) s

/-- `n` bytes of the DRBG, eight to a free value. -/
def State.random (s : State) (n : Nat) : List Byte × State :=
  let m := (n + 7) / 8
  (((List.range m).flatMap fun i => leBytes 8 (Config.freeValue (s.free + i)).toNat).take n, { s with free := s.free + m })

/-- RANDOM (R332): DST_LEN bytes, 1 to 4,096. -/
def execRandom (k r ix : Nat) (s : State) : Res :=
  .next <| s.runJob k r ix 0x3F fun s j =>
    if j.dstLen = 0 ∨ 4096 < j.dstLen then (.fail 5 0, s)
    else let x := s.random j.dstLen; (.ok { out := x.1 }, x.2)

/-! ### Completion, self-test, reset (R333, R337, R343, R344) -/

/-- HEAD advances in ring order over the descriptors whose STATUS is written; each with IRQ raises the ring's source. -/
def State.headAdvance (s : State) (k r : Nat) : Nat → State
  | 0 => s
  | fuel + 1 =>
    let i := ringIx k r
    let h := s.fld CPH_RING_PTR.HEAD i
    match (s.ringJobs k r).find? fun j => j.ix == h && j.posted with
    | none => s
    | some j =>
      let s1 := (s.setFld CPH_RING_PTR.HEAD i (h + 1)).setJobs k r ((s.ringJobs k r).filter fun x => x.ix != h)
      let s2 := if j.flags.testBit 0 then s1.raise (cphSrc k + r) else s1
      s2.headAdvance k r fuel

/-- JOB_COMPLETE (R333): a finished job writes DST_LEN and then STATUS into its descriptor, and HEAD advances. Where the
descriptor may not be written, or the cluster's Lid is CLOSED, STATUS is not written and HEAD stays before it (R344). -/
def execJobComplete (k r ix : Nat) (s : State) : Res :=
  let i := ringIx k r
  .next <| if 2 ≤ k ∨ 32 ≤ r ∨ s.lidState (cphNode k) 0 = 2 then s
  else match (s.ringJobs k r).find? fun j => j.ix == ix && j.started && !j.posted with
    | none => s
    | some j => match j.status with
      | none => s
      | some st =>
        let pa := s.fld CPH_RING_CFG.BASE i * 4096 + 64 * (ix % 2 ^ s.fld CPH_RING_CFG.COUNT_LOG2 i)
        let sec := s.fld CPH_RING_CFG.WORLD i == 1
        let part := some (s.fld CPH_RING_CFG.PARTITION i)
        match s.cphMay k r pa 64 with
        | (false, s) => s
        | (true, s) => match s.dmaWrite (pa + 28) (leBytes 4 j.outLen) sec with
          | none => s
          | some s =>
            let s1 := s.agentWriteBytes (pa + 6) (leBytes 1 st) sec
            let s2 := s1.setJobs k r ((s1.ringJobs k r).map fun x => if x.ix = ix then { x with posted := true } else x)
            let s3 := s2.count (cuCph k) (if st = 1 then 1 else if st = 2 then 2 else 3) part 1
            s3.headAdvance k r 65536

/-- A cluster that powers up (R344): its rings resume at HEAD, and every job without a STATUS will be fetched again. -/
def State.cphResume (s : State) (k : Nat) : State :=
  (List.range 32).foldl (fun s r =>
    let s1 := (s.ringJobs k r).foldl (fun s j => s.unwait k r j) s
    s1.setJobs k r ((s1.ringJobs k r).filter (·.posted))) s

/-- CIPHER_SELFTEST (R344): the known-answer tests end, with the number of the test that failed or 0. -/
def execCipherSelftest (k failed : Nat) (s : State) : Res :=
  .next <| if 2 ≤ k ∨ 2 ≤ s.fld CPH_STATUS.STATE k then s
  else
    let s1 := s.cphResume k
    if failed = 0 then (s1.setFld CPH_STATUS.STATE k 2).setFld CPH_STATUS.SELFTEST_FAIL k 0
    else (((s1.setFld CPH_STATUS.STATE k 3).setFld CPH_STATUS.SELFTEST_FAIL k 1).logErr (cphNode k) 0xFF 2 0x704 failed).raise
      (cphSrc k + 32)

/-- The power gate of a cluster (R337, R344): its key cache is zeroised; a failed self-test holds until the next system reset. -/
def State.cphGate (s : State) (k : Nat) : State :=
  (({ s with cphKeys := tset [] s.cphKeys k [] } : State).setFld CPH_STATUS.STATE k
    (if s.fld CPH_STATUS.STATE k = 3 then 3 else 0)).cphCounts k

/-- Both clusters drop a handle (R337). -/
def State.dropKey (s : State) (h : Nat) : State :=
  [0, 1].foldl (fun s k =>
    ({ s with cphKeys := tset [] s.cphKeys k ((tget [] s.cphKeys k).filter (· ≠ h)) } : State).cphCounts k) s

/-- A partition reset drops the jobs of the partition's rings and sets HEAD equal to TAIL (R343). -/
def State.cphPartReset (s : State) (part : Nat) : State :=
  (List.range 64).foldl (fun s i =>
    if s.fld CPH_RING_CFG.PARTITION i = part ∧ (s.fld CPH_RING_CFG.VALID i = 1 ∨ (tget [] s.jobs i).length ≠ 0) then
      let s1 := (tget [] s.jobs i).foldl (fun s j => s.unwait (i / 32) (i % 32) j) s
      (s1.setJobs (i / 32) (i % 32) []).setFld CPH_RING_PTR.HEAD i (s.fld CPH_RING_PTR.TAIL i)
    else s) s

end Sys2Proof.Machine
end

