-- ==== Sys2Proof/Machine/Reset.lean ====
section
/-! DEFINITION. Resets (R425 to R434, R363 to R366): what a system and a power-on reset clear and record, what a core reset
does to a core slot and how one is released, and the parts of a partition reset. -/

namespace Sys2Proof.Machine

open Sys2Proof

/-! ### System and power-on resets (R425 to R427) -/

/-- The registers of the backup domain, which every reset spares, and those of the debug logic, which a system reset spares too
(R425); both sessions end at every reset (R496). -/
def backupRegs : List RegId := [.RCP_RESET_CAUSE, .RCP_CAUSE_COUNT, .RCP_RTC]
def debugRegs : List RegId :=
  [.DBG_AUTH, .DBG_AUTH_NONCE, .DBG_FREEZE, .DBG_MEM_CTL, .DBG_MEM_DATA, .DBG_TRACE_CFG, .DBG_TRACE_PTR, .DBG_CORE_CTL,
   .DBG_CORE_REGSEL, .DBG_TRIG_CFG, .DBG_TRIG_VAL, .DBG_VT_TX, .DBG_VT_RX]

/-- Both debug sessions end (R496); RESULT and REASON stay. DESIGN CHOICE (log entry 22): a verification that the reset of the SP cut short
leaves RESULT none. -/
def State.endSessions (s : State) : State :=
  [0, 1].foldl (fun s n =>
    let s1 := ((s.setFld DBG_AUTH.SESSION n 0).setFld DBG_AUTH.PART_MASK n 0).setFld DBG_AUTH.RIGHTS n 0
    if s.fld DBG_AUTH.RESULT n = 3 then s1.setFld DBG_AUTH.RESULT n 0 else s1) s

/-- The whole device after a system or power-on reset (R425): every block at its reset values but for what the level spares,
the non-volatile fuses and flash, the pins that the board drives, and DRAM, which is zeroed before any core runs (R285). -/
def State.cleared (s : State) (powerOn : Bool) : State :=
  { pending := s.pending, free := s.free, stamp := s.stamp, dtime := s.dtime, rsp := s.rsp, mem := s.mem,
    memPoison := s.memPoison, fuses := s.fuses, flash := s.flash, spd := s.spd, ksCopy := s.ksCopy,
    regFailed := s.regFailed, unlocked := s.unlocked, rtcAcc := s.rtcAcc,
    traceBuf := if powerOn then [] else s.traceBuf,
    dbg := if powerOn then {} else { s.dbg with ceilOn := false, pend := [], acc := none, ans := none, froze := [] },
    lsio := { pin := s.lsio.pin }, ksErased := s.ksErased && !powerOn, pfw := s.pfw, railOut := s.railOut, pwrgood := s.pwrgood,
    resetInLow := s.resetInLow, prochotLow := s.prochotLow, thermtrip := s.thermtrip, rstLevel := s.rstLevel,
    regs := s.regs.filter fun e => (if powerOn then backupRegs else backupRegs ++ debugRegs).any fun r => r.num == e.1 }

/-- A reset source of the power-on or system level asserts (R427): while a reset of the same or a higher level is in progress
its bit of MASK is set; otherwise the backup domain records it and the level is entered. Cause 0 is one without a code. -/
def State.enterReset (s : State) (powerOn : Bool) (cause : Nat) : State :=
  let lvl := if powerOn then 2 else 1
  let m := if cause = 0 then 0 else 2 ^ (cause - 1)
  if lvl ≤ s.rstLevel then s.setFld RCP_RESET_CAUSE.MASK 0 (s.fld RCP_RESET_CAUSE.MASK 0 ||| m)
  else
    let s1 := (s.setFld RCP_RESET_CAUSE.PREV_CAUSE 0 (s.fld RCP_RESET_CAUSE.LAST_CAUSE 0)).setFld RCP_RESET_CAUSE.LAST_CAUSE 0 cause
    let s2 := (s1.setFld RCP_RESET_CAUSE.MASK 0 m).incSat RCP_RESET_CAUSE.TOTAL 0
    let w := (cause - 1) / 8
    let b := 8 * ((cause - 1) % 8)
    let v := s2.rd .RCP_CAUSE_COUNT w
    let s3 := if cause = 0 then s2 else s2.wr .RCP_CAUSE_COUNT w (putField v (b + 7) b (Nat.min 255 (field v (b + 7) b + 1)))
    let s4 := s3.endSessions.cleared powerOn
    { s4 with rstLevel := lvl, relStep := if powerOn then 0 else Nat.min 1 s.relStep }

/-- A system reset of a cause of R426. -/
def State.systemReset (s : State) (cause : Nat) : State := s.enterReset false cause

/-- The system reset that stands in a partition reset's place (R363, R365): R426 gives it no cause code, so the code it records
is a free value. -/
def State.escalate (s : State) (part addr : Nat) : State :=
  let s1 := s.logErr 40 part 3 0x802 addr
  (s1.drawn).systemReset (s1.drawIn 0 12)

/-! ### Core reset and release (R364 steps 2 to 4, R425, R433) -/

/-- The registers of the register table that belong to core slot `c` and that its reset clears. -/
def coreRegs : List RegId :=
  [.CG_STATUS, .CG_ABORT_PC, .CG_LASTSEQ, .CG_DEPSEL, .CG_CFG, .WCTL, .WSTATUS] ++
  [.PAIR_CTL, .PAIR_STATUS, .PAIR_RESUME, .PAIR_COUNT, .PAIR_FAILPC, .PAIR_CFG]

/-- The other core of a pair that a reset of core `c` dissolves (R200): its pair CSRs reset; one that is STOPPED stays so until its own reset
(R214). The spec does not say where it goes on: DESIGN CHOICE (log 44). A leader goes back to where the last passed interval ended, for what
came after it has not been checked, an open group ending with PAIR_MISMATCH; a trailer resumes at its PAIR_RESUME as after an UNBIND. -/
def State.leftAlone (s : State) (i c : Nat) : State :=
  let l := s.leaderOf i
  let d := s.trailerOf i
  let o := if c = l then d else l
  let bare := fun (s : State) => pairRegs.foldl (fun s r => s.wr r o (r.resetVal o)) s
  if s.fld PAIR_STATUS.STATE o = 4 then (s.setFld PAIR_STATUS.STATE c 0).setPair i { cur := { id := (s.pair i).cur.id } }
  else if c = l then bare (((s.dissolve i).setCore d ((s.core l).copyArch (s.core d))).resumeTrailer d)
  else
    let p := s.pair i
    let s1 := if s.allCompared l then s
      else match (s.core l).group with
        | some _ => (s.discard i).cgAbort l 0x0D 0 0
        | none => (s.discard i).ivalRestore l (p.awaiting.head?.getD p.cur).ck
    bare (s1.dissolve i)

/-- Dissolve the pair of a core and any vote in it (R200, R364 step 2). -/
def State.unpair (s : State) (c : Nat) : State :=
  match s.pairOf c with
  | none => s
  | some i =>
    let s1 := match (s.pair i).vote with
      | some v => if (s.pair i).voteWaits then s else s.spareBack i v.spare 1
      | none => s
    s1.leftAlone i c

/-- Step 2 of R364 for one core, and the start of step 3: it stops and squashes, its group aborts with PARTITION_RESET, its
buffered stores and reservation go, its pair and its debug halt end, its CSRs and counters take their reset values, and its L2
begins to write back. -/
def State.coreStop (s : State) (c : Nat) : State :=
  let s1 := (s.abortGroup c 0x0E 0 0).unpair c
  let k := s1.core c
  let k' : Core := { l2 := k.l2, wb := k.wb, reqs := k.reqs, voidOut := k.voidOut, cgReq := k.cgReq, cgReply := k.cgReply,
                     cancel := k.cancel, secure := k.secure, part := k.part, resumeAt := k.resumeAt, run := .held, flushing := true }
  let s2 := s1.setCore c k'
  let s3 := coreRegs.foldl (fun s r => s.wr r c (r.resetVal c)) s2
  let s4 := (List.range 8).foldl (fun s n => s.wr .CG_BIND (c * 8 + n) (RegId.resetVal .CG_BIND (c * 8 + n))) s3
  let s5 : State := { s4 with cnt := s4.cnt.filter fun e => !(decide (coreCntKey c 0 ≤ e.1) && decide (e.1 < coreCntKey c 16)) }
  let s6 := (k'.l2.map (·.1)).foldl (fun s l => s.evictL2 c l) s5
  let h := s6.coreHart c
  if h < 96 then s6.wr .DBG_CORE_STATUS h 0 else s6

/-- Whether a core's L2 has written everything back and every acknowledgement has arrived (R116). -/
def Core.flushed (k : Core) : Bool := k.l2.isEmpty && k.wb.isEmpty

/-- Step 4 of R364 for one core: its Lid section closes with a drain limit of 0, what is outstanding is abandoned, and
CLOSE_MARK reaches the Spine and the journal engine (R149, R196). -/
def State.coreClose (s : State) (c : Nat) : State :=
  let node := tileNode (coreTile c)
  let n := coreSlot c
  let s1 := (s.lidDrain node n).lidExpire node n
  let s2 := s1.closeMark c
  ({ s2 with lidHeld := tset false s2.lidHeld (lidIx node n) true } : State).onCore c fun k =>
    { k with reqs := [], devLoad := none, devAns := none, depseqReq := none, amoReq := none, flushing := false }

/-- One step of a core reset: the core stops and flushes, and once it is flushed its section closes. A core in PAIRWAIT is to resume at its
PAIR_RESUME (R200); a slot without a role that is power-gated has nothing to reset and stays so (R29). -/
def State.coreResetStep (s : State) (c : Nat) : State :=
  if (s.core c).run = .gated ∧ s.slotState c ≠ 0 then s
  else
  let s0 := if s.fld PAIR_STATUS.STATE c = 1 then s.onCore c fun k => { k with resumeAt := some (s.rd .PAIR_RESUME c &&& ~~~(3 : W)) } else s
  let s1 := if (s0.core c).flushing then s0 else s0.coreStop c
  if (s1.core c).flushed then s1.coreClose c else s1

/-- Whether a slot has failed (R485, R489): its regulator has, or its PLL has lost lock twice within 24 h. -/
def State.slotFailed (s : State) (c : Nat) : Bool := tget false s.regFailed c || tget 0 s.mac.failed c != 0

/-- Release a core that is held in reset, whose clock is locked and whose regulator is good: in M-mode at its TILE_RESET_VEC, or where it was
to resume from PAIRWAIT (R200), with the partition of its hart's WPC_OWNER entry (R33,
R362), halted at its first instruction where RESETHALT is set (R499). Channels in self-refresh wake for it (R425). -/
def State.coreRelease (s : State) (c : Nat) : State :=
  let h := s.coreHart c
  let k := s.core c
  if k.run ≠ .held ∨ k.flushing ∨ 96 ≤ h ∨ s.slotState c ≠ 0 ∨ tget false s.unlocked c ∨ s.slotFailed c then s
  else
    let node := tileNode (coreTile c)
    let part := s.hartOwner h
    let s := (List.range 16).foldl (fun s ch => s.mcWake ch) s
    let s1 : State := { s with lidHeld := tset false s.lidHeld (lidIx node (coreSlot c)) false,
                               hartPart := tset 0 s.hartPart h part }
    let s2 := (s1.lidOpen node (coreSlot c)).setCore c
      { run := .running, part := part, pc := k.resumeAt.getD (s1.rd .TILE_RESET_VEC c &&& ~~~(3 : W)) }
    let s3 := s2.wr .DBG_CORE_STATUS h 0
    if s3.fld DBG_CORE_CTL.RESETHALT h = 1 then s3.enterHalt c 5 0 else s3

/-! ### The parts of a partition reset (R364) -/

/-- The core slots of the harts of a partition, by the entries in force (R362). -/
def State.partCores (s : State) (part : Nat) : List Nat :=
  (List.range 96).filterMap fun h => if s.hartPart1 h = part then s.hartCore h else none

/-- Step 1 at the event router (R383). -/
def State.evrPartReset (s : State) (part : Nat) : State :=
  let mine := fun (e : PendEnt) => s.ownsHart part e.hart || (decide (e.ident < 2048) && s.owner (ixSrc e.ident) == some part)
  let s1 : State := { s with pend := s.pend.filter (fun e => !mine e), inServ := s.inServ.filter fun e => !mine e }
  (List.range 96).foldl (fun s h =>
    if s.ownsHart part h then
      let s2 : State := { s with nmiTaken := tset 0 s.nmiTaken h 0 }
      (List.range 17).foldl (fun s t =>
        let i := tgtIx h t
        (s.wr .EVR_TGT_THRESH i (RegId.resetVal .EVR_TGT_THRESH i)).setFld EVR_TGT_STATUS.NMI_ACTIVE i 0) s2
    else s) s1

/-- Step 1 at the Spine (R180): the partition's open streams pause; the requests already accepted are still served. -/
def State.pausePart (s : State) (part : Nat) : State :=
  (List.range 64).foldl (fun s n =>
    if s.owner (ixStream n) = some part ∧ s.fld SPN_STREAM_STATE.STATE n = 1 then
      let x := s.stream n
      (s.setStream n { x with early := x.parked.length }).setFld SPN_STREAM_STATE.STATE n 2
    else s) s

/-- The buckets of a partition are set to burst on every channel (R306). -/
def State.fillBuckets (s : State) (part : Nat) : State :=
  (List.range 16).foldl (fun s ch =>
    let x := s.chan ch
    if (tget {} x.buckets part).bytes.isNone then s else s.setChan ch { x with buckets := tset {} x.buckets part {} }) s

/-- A partition's fabric send queue is emptied (R248): its descriptors and the responses to its messages are dropped. -/
def State.sqPartReset (s : State) (q : Nat) : State :=
  let tail := s.fld FAB_SQ_PTR.TAIL q
  let s1 : State := { s with
    sqNext := tset 0 s.sqNext q tail, sqDone := tset [] s.sqDone q [],
    fabRem := s.fabRem.filter fun e => match e.2 with
      | some o => (match o.use with | .msg q' _ => q' != q | _ => true)
      | none => true }
  s1.setFld FAB_SQ_PTR.HEAD q tail

/-- A partition reset starts (R363): ignored unless STATE is RUNNING; a system reset with ESCALATE; otherwise step 1. Causes: 1
watchdog, 2 command, 3 Macen, 4 WCALL. -/
def State.partStart (s : State) (part cause : Nat) : State :=
  if 16 ≤ part ∨ s.fld WPC_PART_CTL.STATE part ≠ 0 then s
  else if s.fld WPC_PART_CFG.ESCALATE part = 1 then s.escalate part 0
  else
    let s1 := ((s.setFld WPC_PART_CTL.STATE part 1).setFld WPC_PART_CTL.LAST_CAUSE part cause).incSat WPC_PART_CTL.RESETS part
    ({ (s1.evrPartReset part).pausePart part with partStep := tset 0 s1.partStep part 2 } : State)

/-- The level sources that are still high pend again once events are no longer discarded (R366, R383). -/
def State.reraise (s : State) (part : Nat) : State :=
  s.srcHigh.foldl (fun s e =>
    if s.fld EVR_SRC_CFG.EDGE e.1 = 0 ∧
        (s.owner (ixSrc e.1) = some part ∨ s.ownsHart part (s.fld EVR_SRC_CFG.HART e.1)) then s.raise e.1 else s) s

/-- Step 6, or RELEASE: the harts whose entries name the partition run, STATE is RUNNING and record PART_RESET is written. -/
def State.partRelease (s : State) (part : Nat) : State :=
  let hs := (List.range 96).filter fun h => s.hartOwner h = part
  let s1 := hs.foldl (fun s h => match s.hartCore h with | some c => s.coreRelease c | none => s) s
  let s2 : State := { s1.setFld WPC_PART_CTL.STATE part 0 with partStep := tset 0 s1.partStep part 0 }
  (s2.reraise part).logErr 40 part 1 0x801 (s2.fld WPC_PART_CTL.LAST_CAUSE part)

end Sys2Proof.Machine
end

