-- ==== Sys2Proof/Machine/Wpc.lean ====
section
/-! DEFINITION. Worlds and partitions (chapter 15): ownership changes, the lock, partition resets and the calls of the secure
monitor. -/

namespace Sys2Proof.Machine

open Sys2Proof

/-! ### Ownership changes (R356) and the lock (R360) -/

/-- Whether `[a, a + n)` meets `[b, b + m)`. -/
def meets (a n b m : Nat) : Bool := decide (a < b + m ∧ b < a + n)

/-- Drop every cached translation and World Table line that covers a range of physical addresses, on every core and agent
(R356 step 3). -/
def State.dropOwnership (s : State) (lo n : Nat) : State :=
  let s1 := s.coreIds.foldl (fun s c => s.onCore c fun k =>
    { k.tlbDrop (fun e => meets e.pbase (2 ^ e.size) lo n) with walkCache := [] }) s
  let wt := s1.fld WPC_CFG.WT_BASE 0 * 2 ^ 22
  let keep := fun (e : Nat × Line) => !meets ((e.1 * 64 - wt) * 2 ^ 21) (64 * 2 ^ 21) lo n
  { s1 with wtCache := (s1.wtCache.map fun e => (e.1, e.2.filter keep)).filter (fun e => !e.2.isEmpty),
            ioTlb := s1.ioTlb.filter fun e => !meets e.pbase (2 ^ e.size) lo n }

/-- WPC_SYNC_GO (R356): a write to WPC_SYNC whose GO starts the invalidation; ignored while BUSY is 1. -/
def execWpcSyncGo (ag : Agent) (w : W) (s : State) : Res :=
  let busy := s.fld WPC_SYNC.BUSY 0
  .next <| s.onWrite ag .WPC_SYNC 0 w fun s =>
    if bit w 0 = false ∨ busy = 1 then s
    else
      let n := 2 ^ s.fld WPC_SYNC.SIZE_LOG2 0
      let base := s.fld WPC_SYNC.BASE 0 * 2 ^ 21
      ((s.dropOwnership (base - base % n) n).setFld WPC_SYNC.BUSY 0 1).setFld WPC_SYNC.DONE 0 0

/-- WPC_SYNC_DONE (R356): every core and agent has acknowledged. -/
def execWpcSyncDone (s : State) : Res :=
  .next <| if s.fld WPC_SYNC.BUSY 0 = 0 then s else (s.setFld WPC_SYNC.BUSY 0 0).setFld WPC_SYNC.DONE 0 1

/-- LOCK (R360): a write to WPC_CFG; LOCK fixes every field until a system reset. -/
def execLock (ag : Agent) (w : W) (s : State) : Res := .next (s.onWrite ag .WPC_CFG 0 w id)

/-! ### Partition reset (R363 to R366) -/

/-- A write of `w` to a partition's WPC_PART_CTL: HOLD, and the command in it. -/
def State.partCtlWrite (s : State) (ag : Agent) (part : Nat) (w : W) : State :=
  if 16 ≤ part then s else
  s.onWrite ag .WPC_PART_CTL part w fun s =>
    if field w 1 0 = 1 then s.partStart part 2
    else if field w 1 0 = 2 ∧ s.fld WPC_PART_CTL.STATE part = 2 then s.partRelease part
    else s

/-- RESET (R363): CMD RESET starts a partition reset. -/
def execReset (ag : Agent) (part : Nat) (w : W) (s : State) : Res := .next (s.partCtlWrite ag part w)

/-- RELEASE (R364): CMD RELEASE releases the harts of a HELD partition. -/
def execRelease (ag : Agent) (part : Nat) (w : W) (s : State) : Res := .next (s.partCtlWrite ag part w)

/-- Whether an owned port of a partition is still in hot reset (R323). -/
def State.portsBusy (s : State) (part : Nat) : Bool :=
  (List.range 16).any fun i => tget false s.portReset i && s.fld PCIE_PORT_CFG.OWNED i == 1 &&
    s.fld PCIE_PORT_CFG.PARTITION i == part

/-- PARTITION_RESET (R364): the WPC carries a partition reset on: step 2 and the flush of step 3, or, once the ports are out of
hot reset, step 6. -/
def execPartitionReset (part : Nat) (s : State) : Res :=
  .next <| match tget 0 s.partStep part with
  | 2 =>
    let s1 := (s.partCores part).foldl (fun s c => s.coreStop c) s
    { s1 with partStep := tset 0 s1.partStep part 3 }
  | 5 =>
    if s.portsBusy part then s
    else if s.fld WPC_PART_CTL.HOLD part = 1 then
      (({ s with partStep := tset 0 s.partStep part 0 } : State).setFld WPC_PART_CTL.STATE part 2).reraise part
    else s.partRelease part
  | _ => s

/-- PARTITION_FLUSH_DONE (R364): the L2s of the partition have written back and been acknowledged; step 4 closes the sections and
step 5 acts on the buckets, PCIe and the IOMMU, the cipher rings and the send queue. -/
def execPartitionFlushDone (part : Nat) (s : State) : Res :=
  let cs := s.partCores part
  .next <| if tget 0 s.partStep part ≠ 3 ∨ (cs.all fun c => (s.core c).flushed) = false then s
  else
    let s1 := cs.foldl (fun s c => s.coreClose c) s
    let s2 := ((((s1.fillBuckets part).pciePartReset part).cphPartReset part).sqPartReset part)
    { s2 with partStep := tset 0 s2.partStep part 5 }

/-- FLUSH_LIMIT (R365): step 3 has not completed when FLUSH_LIMIT_US has passed. -/
def execFlushLimit (part : Nat) (s : State) : Res :=
  .next <| if tget 0 s.partStep part = 3 then s.escalate part 1 else s

/-! ### WCALL (R351) -/

/-- WCALL (R351): it raises mcause 24, which always reaches the monitor; inside a group the group ends with
WORLD_SWITCH and WCALL is not executed (R157). -/
def execWcall (c : Nat) (insn : W) (s : State) : Res :=
  .next <| s.issue c none fun s =>
    if custom0Bad insn false false then s.illegal c false insn
    else if (s.core c).mode ≠ .s ∨ (s.core c).virt then s.illegal c (s.core c).virt insn
    else if (s.core c).group.isSome then s.cgAbort c 0x0C 0 0
    else s.exception c 24 0 0

/-- The monitor answers a call: results in a0 and a1 to a3, and the caller goes on after its WCALL. -/
def State.wcallReply (s : State) (c status : Nat) (res : List (Nat × W)) : State :=
  s.onCore c fun k =>
    let k1 := k.setX 10 (BitVec.ofNat 64 status)
    let k2 := res.foldl (fun (k : Core) e => k.setX e.1 e.2) k1
    k2.setCsr 0x341 (k2.getCsr 0x341 + 4)

/-- Whether the monitor on a core has a call of function `fn` to serve. -/
def State.wcallPends (s : State) (c fn : Nat) : Bool :=
  let k := s.core c
  k.run == .running && k.mode == .m && k.getCsr 0x342 == 24 && k.getX 10 == BitVec.ofNat 64 fn

/-- WCALL_VERSION (R351): the monitor's version and its function classes, which the manual leaves to the monitor. -/
def execWcallVersion (c : Nat) (s : State) : Res :=
  .next <| if s.wcallPends c 0 = false then s
  else
    let s1 := s.wcallReply c 0 [(11, Config.freeValue s.free), (12, Config.freeValue (s.free + 1))]
    { s1 with free := s.free + 2 }

/-- PAIR_BIND (R351): the calling hart becomes leader of the trailer slot in a1, under R199; a BIND outside UNBOUND is ignored (R200), and the
answer is the BIND_ERR that stands. -/
def execPairBind (c : Nat) (s : State) : Res :=
  .next <| if s.wcallPends c 0x02000001 = false then s
  else
    let p := ((s.core c).getX 11).toNat
    if 5 ≤ p then s.wcallReply c 3 [(11, 3)]
    else if s.fld PAIR_STATUS.STATE c ≠ 0 then s.wcallReply c 0 [(11, BitVec.ofNat 64 (s.fld PAIR_STATUS.BIND_ERR c))]
    else
      let s1 := (s.setFld PAIR_CTL.ROLE c 1).setFld PAIR_CTL.PARTNER c p
      let s2 := s1.wcallReply c 0 [(11, BitVec.ofNat 64 (s1.bindErr c p))]
      s2.bind c p

/-- PAIR_UNBIND (R351): the caller's pair is dissolved under R201. -/
def execPairUnbind (c : Nat) (s : State) : Res :=
  .next <| if s.wcallPends c 0x02000002 = false then s
  else match s.ledPair c with
    | some i => if s.allCompared c then (s.wcallReply c 0 []).unbind i else s.closeIval c
    | none => s.wcallReply c 0 []

/-- PART_RESET_SELF (R351): a partition reset of the caller's partition with cause WCALL; denied below M where hgatp is not
Bare. -/
def execPartResetSelf (c : Nat) (s : State) : Res :=
  .next <| if s.wcallPends c 0x03000001 = false then s
  else
    let k := s.core c
    if field (k.getCsr 0x680) 63 60 ≠ 0 then s.wcallReply c 2 []
    else if s.fld WPC_PART_CTL.STATE k.part ≠ 0 then s.wcallReply c 4 []
    else s.partStart k.part 4

end Sys2Proof.Machine
end

