-- ==== Sys2Proof/Machine/Evr.lean ====
section
/-! DEFINITION. The event router (chapter 16): wired sources, message interrupts, claims, completions, route writes and
NMI-class entry. -/

namespace Sys2Proof.Machine

open Sys2Proof

/-! ### Events (R371, R374) -/

/-- A wired source's input rises, or falls (R371). A level source is pending while its input is high, unless it is in service; a
machine-check-class event stays pending (R378). -/
def State.setSource (s : State) (src : Nat) (high : Bool) : State :=
  let was := tget false s.srcHigh src
  let s1 : State := { s with srcHigh := tset false s.srcHigh src high }
  if high then (if was then s1 else s1.raise src)
  else if s.fld EVR_SRC_CFG.EDGE src = 0 ∧ isMcheck src = false then
    { s1 with pend := s1.pend.filter fun e => e.ident != src }
  else s1

/-- SOURCE_PENDING (R371): a wired source's input rises, or falls. A GPIO source's input is its pin's level, inverted when INV is 1
(R552). -/
def execSourcePending (src : Nat) (high : Bool) (s : State) : Res :=
  .next <| if 2048 ≤ src then s
  else if 1696 ≤ src ∧ src < 1728 then
    let n := src - 1696
    let s1 : State := { s with lsio := { s.lsio with pin := tset false s.lsio.pin n (high != (s.fld GPIO_CFG.INV n == 1)) } }
    s1.setSource src (s1.gpioLevel n != (s1.fld GPIO_CFG.INV n == 1))
  else s.setSource src high

/-- MESSAGE_INTERRUPT (R374): a message sets the message bit of its priority at its target, or merges with it. -/
def execMessageInterrupt (hart page prio : Nat) (s : State) : Res :=
  .next <| if hart < 96 ∧ page ≤ 16 ∧ prio < 256 then s.message hart page prio else s

/-! ### The target registers (R374, R380, R381) -/

/-- A read of EVR_TGT_CLAIM (R380, R505): a core's read, or an effectful one of the debug module, removes the earliest entry of the best
priority below THRESH, and a wired source enters service at the target; other readers see the entry and take nothing. -/
def State.claim (s : State) (ag : Agent) (h t : Nat) : State :=
  let i := tgtIx h t
  match s.gate ag .EVR_TGT_CLAIM i none with
  | .pass =>
    let v := s.regRead .EVR_TGT_CLAIM i none
    let takes := match ag with | .core _ | .dbg _ _ => true | _ => false
    (match takes, s.best h t with
     | true, some e =>
       let s1 : State := { s with pend := s.pend.filter fun x => x != e }
       let s2 : State := if 2048 ≤ e.ident ∨ s1.inServ.contains e then s1 else { s1 with inServ := s1.inServ ++ [e] }
       (s2.snap .EVR_TGT_CLAIM i v).answer ag v 0
     | _, _ => (s.snap .EVR_TGT_CLAIM i v).answer ag v 0)
  | g => s.refuse ag g (regAddr .EVR_TGT_CLAIM i) false

/-- EVR_TGT_CLAIM (R380): a read of a target's CLAIM register. -/
def execEvrTgtClaim (ag : Agent) (h t : Nat) (s : State) : Res := .next (if h < 96 ∧ t ≤ 16 then s.claim ag h t else s)

/-- End the service of a wired source at a target (R377, R381): a level source whose input is still high pends again, and
NMI_ACTIVE clears with the completion of the source that was taken. -/
def State.evrEoi (s : State) (h t ident : Nat) : State :=
  let here := fun (e : PendEnt) => e.ident == ident && e.hart == h && e.page == t
  if s.inServ.any here = false then s
  else
    let s1 : State := { s with inServ := s.inServ.filter fun e => !here e }
    let s2 := if t = 16 ∧ tget 0 s1.nmiTaken h = ident then
        { s1.setFld EVR_TGT_STATUS.NMI_ACTIVE (tgtIx h 16) 0 with nmiTaken := tset 0 s1.nmiTaken h 0 } else s1
    if s2.fld EVR_SRC_CFG.EDGE ident = 0 ∧ tget false s2.srcHigh ident then s2.raise ident else s2

/-- EVR_TGT_EOI (R381): a write of an identity ends its service; one that is not in service there, or a message, is ignored. -/
def execEvrTgtEoi (ag : Agent) (h t : Nat) (w : W) (s : State) : Res :=
  .next <| s.onWrite ag .EVR_TGT_EOI (tgtIx h t) w fun s => s.evrEoi h t (field w 11 0)

/-- EVR_TGT_INJECT (R374): an interprocessor interrupt. -/
def execEvrTgtInject (ag : Agent) (h t : Nat) (w : W) (s : State) : Res :=
  .next <| s.onWrite ag .EVR_TGT_INJECT (tgtIx h t) w fun s => s.message h t (field w 7 0)

/-- EVR_SRC_CFG_WRITE (R382): a pending source moves to its new target and keeps its place in the order; EN 0 clears its
pending state, except a machine-check-class one's (R378); an enabled level source whose input is high pends. -/
def execEvrSrcCfgWrite (ag : Agent) (n : Nat) (w : W) (s : State) : Res :=
  .next <| s.onWrite ag .EVR_SRC_CFG n w fun s =>
    let h := s.fld EVR_SRC_CFG.HART n
    let t := s.fld EVR_SRC_CFG.PAGE n
    let p := s.heldPrio h t (s.fld EVR_SRC_CFG.PRIO n)
    if s.fld EVR_SRC_CFG.EN n = 0 ∧ isMcheck n = false then { s with pend := s.pend.filter fun e => e.ident != n }
    else if s.pend.any fun e => e.ident == n then
      (({ s with pend := s.pend.map fun e => if e.ident = n then { e with hart := h, page := t, prio := p } else e } : State)).deliver h t
    else if s.fld EVR_SRC_CFG.EDGE n = 0 ∧ tget false s.srcHigh n then s.raise n
    else s

/-! ### NMI-class events (R377) -/

/-- The NMI-class event that a hart would take: the earliest of the best priority below THRESH. -/
def State.bestNmi (s : State) (h : Nat) : Option PendEnt :=
  (s.pend.filter fun e => e.hart == h && s.isNmi e && decide (e.prio < s.fld EVR_TGT_THRESH.THRESH (tgtIx h 16))).foldl
    (fun b e => match b with
      | none => some e
      | some b => if e.prio < b.prio then some e else some b) none

/-- NMI_ENTRY (R377): while NMI_ACTIVE is clear, the core takes its NMI-class event in M-mode with code 32, whatever MIE and mie
hold. A group whose commit request has not left ends with WORLD_SWITCH first (R162). -/
def execNmiEntry (c : Nat) (s : State) : Res :=
  let h := s.coreHart c
  .next <| match s.bestNmi h with
  | none => s
  | some e =>
    if 96 ≤ h ∨ s.fld EVR_TGT_STATUS.NMI_ACTIVE (tgtIx h 16) = 1 then s
    else
      let s1 := match (s.core c).group with
        | some g => if g.requestSent then s else s.cgAbort c 0x0C 0 0
        | none => s
      if s1.intrReady c 32 then
        let k := s1.core c
        let inM := k.mode == .m && !bit (k.getCsr 0x300) 3
        let s2 := ((s1.preempt c).pairLog c 6 (causeWord true 32)).takeTrap c true 32 0 0
        let s3 := s2.setFld EVR_TGT_STATUS.NMI_ACTIVE (tgtIx h 16) 1
        let s4 := if inM then s3.setFld EVR_TGT_STATUS.NMI_IN_M (tgtIx h 16) 1 else s3
        { s4 with nmiTaken := tset 0 s4.nmiTaken h e.ident }
      else s1.closeIval c

end Sys2Proof.Machine
end

