-- ==== Sys2Proof/Machine/Sp.lean ====
section
/-! DEFINITION. The security processor (chapter 17): fuses, the key store and its commands, the boot slots with their Endpaper logs,
bundle verification, the boot chain, recovery and evidence. -/

namespace Sys2Proof.Machine

open Sys2Proof

/-! ### Fuses (R391, R394, R395) -/

/-- One burn of a fuse bit: at most three pulses, each read back. A bit in `bad` fails them all, with record FUSE_BURN_FAILED and SP
source 3. -/
def State.burn (s : State) (bad : List Nat) (n : Nat) : State :=
  if s.fuse n then s
  else if bad.contains n then (s.logErr 40 0 2 0x902 n).raise 1667
  else { s with fuses := tset false s.fuses n true }

/-- Burn a list of bits in order. -/
def State.burnAll (s : State) (bad ns : List Nat) : State := ns.foldl (fun s n => s.burn bad n) s

/-- Burn the 8 bits of a group. -/
def State.burnGroup (s : State) (bad : List Nat) (lo : Nat) : State := s.burnAll bad ((List.range 8).map (lo + ·))

/-- The rollback counter (R394): the index of the highest blown thermometer bit plus 1. -/
def State.rollback256 (s : State) : Nat :=
  s.fuses.foldl (fun v e => if 5120 ≤ e.1 ∧ e.1 < 5376 ∧ e.2 then Nat.max v (e.1 - 5119) else v) 0

/-- Raise the rollback counter to a FLOOR, bit by bit; a bit that fails leaves the counter where it is (R395). -/
def State.raiseCounter (s : State) (bad : List Nat) (floor : Nat) : Nat → State
  | 0 => s
  | fuel + 1 =>
    let n := s.rollback256
    if floor ≤ n then s
    else
      let s1 := s.burn bad (5120 + n)
      if s1.rollback256 = n then s1 else s1.raiseCounter bad floor fuel

/-- `n` fuse bytes from bit `lo` on. -/
def State.fuseBytes (s : State) (lo n : Nat) : List Byte := leBytes n (s.fuseField lo (8 * n))

/-- The device unique ID (R393). -/
def State.uid (s : State) : List Byte := s.fuseBytes 64 16

/-- A key slot's fuses (R393, R394): whether it is empty, its two SHA-384 hashes, and whether its revocation group is blown. -/
def State.slotEmpty (s : State) (lo : Nat) : Bool := s.fuseField lo 768 == 0
def State.slotHashes (s : State) (lo : Nat) : List Byte := s.fuseBytes lo 96
def State.imgRevoked (s : State) (k : Nat) : Bool := s.fuseGroup (3328 + 8 * k)
def State.dbgRevoked (s : State) (k : Nat) : Bool := s.fuseGroup (4896 + 8 * k)

/-! ### Flash (R407) -/

/-- `n` bytes of flash device `f` from an offset; erased flash reads 0xFF. -/
def State.flashGet (s : State) (f off n : Nat) : List Byte := (List.range n).map fun i => tget 0xFF s.flash (f * 2 ^ 26 + off + i)

/-- A little-endian field of flash. -/
def State.flashNat (s : State) (f off n : Nat) : Nat := ofLeBytes (s.flashGet f off n)

/-- Write bytes to flash device `f`. -/
def State.flashPut (s : State) (f off : Nat) (bs : List Byte) : State :=
  let a := f * 2 ^ 26 + off
  { s with flash := ((List.range bs.length).zip bs).foldl (fun t e => tset 0xFF t (a + e.1) e.2) s.flash }

/-- Erase `n` bytes of flash device `f`. -/
def State.flashErase (s : State) (f off n : Nat) : State :=
  let a := f * 2 ^ 26 + off
  { s with flash := s.flash.filter fun e => !(decide (a ≤ e.1) && decide (e.1 < a + n)) }

/-! ### Bundles (R404 to R406) -/

/-- A bundle's place in its flash device, and a little-endian manifest field. -/
def bundleBase : Nat := 0x100000
def State.man (s : State) (f off n : Nat) : Nat := s.flashNat f (bundleBase + off) n

/-- The bytes of the manifest that are signed, its SHA-384, and digest(m). -/
def State.manSigned (s : State) (f : Nat) : List Byte := s.flashGet f bundleBase 1344
def State.manHash (s : State) (f : Nat) : List Byte := hashOf 1 (s.manSigned f)
def State.manDigest (s : State) (f : Nat) : List Byte := (s.manHash f).take 32

/-- A segment entry (R405): type, offset, length, load address and digest. -/
structure Seg where
  typ : Nat := 0
  off : Nat := 0
  len : Nat := 0
  load : Nat := 0
  digest : List Byte := []
  deriving DecidableEq, Repr

def State.seg (s : State) (f i : Nat) : Seg :=
  let b := 64 + 80 * i
  { typ := s.man f b 1, off := s.man f (b + 4) 4, len := s.man f (b + 8) 4, load := s.man f (b + 16) 8,
    digest := s.flashGet f (bundleBase + b + 24) 48 }

/-- The segments of a type. -/
def State.segs (s : State) (f typ : Nat) : List Seg :=
  ((List.range 16).map fun i => s.seg f i).filter fun g => g.typ == typ

/-- Whether `n` manifest bytes from an offset are 0. -/
def State.manZero (s : State) (f off n : Nat) : Bool := (s.flashGet f (bundleBase + off) n).all (· == 0)

/-- Whether an entry keeps R405: a listed type with its own limits, an offset past the manifest, and reserved bytes 0; entries that
are not in use have type 0. -/
def State.segOk (s : State) (f i n : Nat) : Bool :=
  let g := s.seg f i
  let b := 64 + 80 * i
  if n ≤ i then g.typ == 0
  else decide (1 ≤ g.typ ∧ g.typ ≤ 5) && s.manZero f (b + 1) 3 && s.manZero f (b + 12) 4 && s.manZero f (b + 72) 8 &&
    decide (8192 ≤ g.off) && (g.typ == 3 || g.typ == 4 || g.load == 0) &&
    !(g.typ == 1 && decide (512 * 1024 < g.len)) && !(g.typ == 2 && decide (4 * 2 ^ 20 < g.len))

/-- verify(slot) of R406: 0 when every check passes, else the number of the check that fails, counted from 1. -/
def State.verifySlot (s : State) (f : Nat) : Nat :=
  let n := s.man f 6 2
  let k := s.man f 20 1
  let pkE := s.flashGet f (bundleBase + 4720) 32
  let pkM := s.flashGet f (bundleBase + 4752) 1952
  let sigE := s.flashGet f (bundleBase + 1344) 64
  let sigM := s.flashGet f (bundleBase + 1408) 3309
  if (s.man f 0 4 == 0x4D4E4650 && s.man f 4 2 == 1 && decide (1 ≤ n ∧ n ≤ 16) && decide (1 ≤ s.man f 8 8) &&
      decide (s.man f 16 2 ≤ 256) && decide (k ≤ 3) && s.manZero f 22 42 && s.manZero f 4717 3 && s.manZero f 6704 1488 &&
      (List.range 16).all fun i => s.segOk f i n) = false then 1
  else if ([1, 2, 3, 4].all fun t => (s.segs f t).length == 1) = false then 2
  else if ([1, 2, 3, 4, 5].all fun t => (s.segs f t).all fun g => decide (g.off + g.len ≤ 63 * 2 ^ 20)) = false then 3
  else if s.slotEmpty (256 + 768 * k) || s.imgRevoked k then 4
  else if hashOf 1 pkE ++ hashOf 1 pkM ≠ s.slotHashes (256 + 768 * k) then 5
  else if (Config.cryptoTrue 0x24 [[0], pkE, s.manSigned f, sigE] &&
      Config.cryptoTrue 0x26 [[0], pkM, s.manSigned f, sigM]) = false then 6
  else if s.man f 16 2 < s.man f 18 2 ∨ s.man f 16 2 < s.rollback256 then 7
  else if (s.man f 21 1).testBit s.lc = false then 8
  else 0

/-- The bytes of a segment as flash holds them, and whether their SHA-384 is the entry's. -/
def State.segBytes (s : State) (f : Nat) (g : Seg) : List Byte := s.flashGet f (bundleBase + g.off) g.len
def State.segDigestOk (s : State) (f : Nat) (g : Seg) : Bool := hashOf 1 (s.segBytes f g) == g.digest

/-! ### Endpaper logs (R408, R409) -/

def logBase : Nat := 0x10000

/-- The bytes of record `i` of a slot's log. -/
def State.epRec (s : State) (f i : Nat) : List Byte := s.flashGet f (logBase + 64 * i) 64
def recField (bs : List Byte) (off n : Nat) : Nat := ofLeBytes ((bs.drop off).take n)

/-- Whether a record's MAGIC, TYPE and CRC are valid. -/
def recValid (bs : List Byte) : Bool :=
  recField bs 0 4 == 0x45505244 && decide (1 ≤ recField bs 4 1 ∧ recField bs 4 1 ≤ 4) && crcOf (bs.take 60) == recField bs 60 4

/-- The index of a slot's current record: the highest COUNTER among the valid ones. -/
def State.curRec (s : State) (f : Nat) : Option Nat :=
  (List.range 4096).foldl (fun b i =>
    if s.flashNat f (logBase + 64 * i) 4 = 0x45505244 then
      (let r := s.epRec f i
       if recValid r then
         match b with
         | none => some i
         | some j => if recField (s.epRec f j) 8 8 < recField r 8 8 then some i else b
       else b)
    else b) none

/-- Append a record (R409): in the next erased place of the current block, else in the next block, whose successor is then erased.
A record that reads back wrong (`good` false) leaves its place spoilt. -/
def State.appendRec (s : State) (f typ attempt maxA seq : Nat) (dig : List Byte) (trialS : Nat) (good : Bool) : State :=
  let cur := s.curRec f
  let p := match cur with | some i => i + 1 | none => 0
  let cnt := match cur with | some i => recField (s.epRec f i) 8 8 + 1 | none => 1
  let blk := match cur with | some i => i / 1024 | none => 0
  let free := (List.range (1024 * (blk + 1) - p)).find? fun j => (s.epRec f (p + j)).all (· == 0xFF)
  let nb := (blk + 1) % 4
  let (i, s1) := match free with
    | some j => (p + j, s)
    | none => (1024 * nb, s.flashErase f (logBase + 65536 * ((nb + 1) % 4)) 65536)
  let body := leBytes 4 0x45505244 ++ leBytes 1 typ ++ leBytes 1 attempt ++ leBytes 1 maxA ++ leBytes 1 0 ++ leBytes 8 cnt ++
    leBytes 8 seq ++ dig ++ leBytes 2 trialS ++ leBytes 2 0
  if good then s1.flashPut f (logBase + 64 * i) (body ++ leBytes 4 (crcOf body))
  else
    let r := s1.random 63
    r.2.flashPut f (logBase + 64 * i) (0 :: r.1)

/-- Append FAILED after a trial, with record TRIAL_FAILED (R403, R410, R423). -/
def State.appendFailed (s : State) (f : Nat) (good : Bool) : State :=
  match s.curRec f with
  | none => s
  | some i =>
    let r := s.epRec f i
    (s.appendRec f 4 (recField r 5 1) (recField r 6 1) (recField r 16 8) ((r.drop 24).take 32) (recField r 56 2) good).logErr
      40 0 1 0x901 (recField r 16 8)

/-- What a slot is eligible as (R410): 0 not, 1 trial, 2 confirmed. -/
def State.eligible (s : State) (f : Nat) : Nat :=
  match s.curRec f with
  | none => 0
  | some i =>
    let r := s.epRec f i
    let t := recField r 4 1
    let e := if t = 1 then 1 else if t = 2 then (if recField r 5 1 < recField r 6 1 then 1 else 0) else if t = 3 then 2 else 0
    if e = 0 then 0
    else if s.verifySlot f = 0 ∧ (r.drop 24).take 32 = s.manDigest f then e else 0

/-! ### The key store (R397, R398) -/

/-- The key-encryption key of the device, derived from its PUF and the helper data. -/
def State.kekNow (s : State) : List Byte := crypto 0x40 [s.fuseBytes 5376 512] 32

/-- Write the key store into both copies, the one with the lower generation first. -/
def State.ksSave (s : State) : State :=
  let g := Nat.max (tget {} s.ksCopy 0).gen (tget {} s.ksCopy 1).gen + 1
  let c : KsCopy := { whole := true, kek := s.kek, gen := g, keys := s.keys, next := s.keyNext, freed := s.keyFreed }
  { s with ksCopy := tset {} (tset {} s.ksCopy 0 c) 1 c }

/-- Load the key store at boot: the whole copy with the higher generation; a bad copy beside a good one is reported and rewritten. -/
def State.ksLoad (s : State) : State :=
  let ok := fun (i : Nat) => (tget {} s.ksCopy i).whole && (tget {} s.ksCopy i).kek == s.kek
  let pick := if ok 0 && (!ok 1 || decide ((tget {} s.ksCopy 1).gen ≤ (tget {} s.ksCopy 0).gen)) then some 0
    else if ok 1 then some 1 else none
  match pick with
  | none => s
  | some i =>
    let c := tget {} s.ksCopy i
    let s1 : State := { s with keys := c.keys, keyNext := c.next, keyFreed := c.freed }
    if ok (1 - i) then s1
    else (({ s1 with ksCopy := tset {} s1.ksCopy (1 - i) c } : State).logErr 40 0 1 0x904 (1 - i)).raise 1668

/-- The next handle (R398): the never-issued ones first, then the freed ones in the order in which they were freed. -/
def State.takeHandle (s : State) : Option (Nat × State) :=
  if s.keyNext < 65536 then some (s.keyNext, { s with keyNext := s.keyNext + 1 })
  else match s.keyFreed with
    | h :: t => some (h, { s with keyFreed := t })
    | [] => none

/-! ### SP commands (R399) -/

/-- What an SP command answers: a status of R463, its payload and the state. -/
abbrev SpRes := Nat × List Byte × State

/-- Answer an SP command of the secure world: the answer stands in the SP mailbox, and SP source 0 is raised. The normal world does
not reach the mailbox. -/
def State.spCall (s : State) (ag : Agent) (f : State → SpRes) : State :=
  if s.agentSecure ag = false then s.refuse ag .early 0xFF0000000000 true
  else
    let r := f s
    ({ r.2.2 with spRsp := { status := r.1, data := r.2.1 } } : State).raise 1664

/-- The secret's length in bytes of an algorithm, with `size` for HMAC keys and RSA moduli; the public key's length; 0 where the
algorithm has none. -/
def keyLen (alg size : Nat) : Nat :=
  match alg with
  | 0 => 16 | 1 => 32 | 2 => 16 | 3 => 24 | 4 => size | 5 => size | 6 => 32 | 7 => 48 | 8 => 32 | 9 => 4032 | _ => 0
def pubLen (alg size : Nat) : Nat :=
  match alg with
  | 5 => size | 6 => 64 | 7 => 96 | 8 => 32 | 9 => 1952 | _ => 0

/-- Whether a class takes an algorithm (R336): asymmetric keys are SIGN_PRIVATE or VERIFY_PUBLIC, LINK keys AES-256. -/
def classTakes (cls alg size : Nat) : Bool :=
  if cls = 5 ∨ cls = 6 then decide (5 ≤ alg ∧ alg ≤ 9) && (alg != 5 || (decide (256 ≤ size ∧ size ≤ 512) && size % 8 == 0))
  else if cls = 7 then alg == 1
  else decide (cls ≤ 8) && decide (alg ≤ 4) && (alg != 4 || decide (1 ≤ size))

/-- Add a key: LINK and PLATFORM keys belong to the secure world; the store holds at most 8,192 keys. -/
def State.addKey (s : State) (k : Key) : SpRes :=
  if (k.cls = 7 ∨ k.cls = 8) ∧ k.secure = false then (5, [], s)
  else if 8192 ≤ s.keys.length then (6, [], s)
  else match s.takeHandle with
    | none => (6, [], s)
    | some (h, s1) => (0, leBytes 2 h, ({ s1 with keys := tset none s1.keys h (some k) } : State).ksSave)

/-- KEY_GENERATE (R399): a new key of a class, from the DRBG, with its owner and usage mask; the handle is returned. -/
def execKeyGenerate (ag : Agent) (cls : Nat) (secure : Bool) (part usage alg size : Nat) (s : State) : Res :=
  .next <| s.spCall ag fun s =>
    if cls = 6 ∨ classTakes cls alg size = false ∨ 16 ≤ part ∨ 8 ≤ usage then (3, [], s)
    else
      let r := s.random (keyLen alg size)
      r.2.addKey { cls := cls, secure := secure, part := part, usage := usage, alg := alg, value := r.1,
                   pub := if cls = 5 then crypto 0x41 [[BitVec.ofNat 8 alg], r.1] (pubLen alg size) else [], size := size }

/-- KEY_IMPORT (R399): a key block wrapped under a key with usage KEK, or, with handle 0, a public key in clear. -/
def execKeyImport (ag : Agent) (kek : Nat) (secure : Bool) (part alg size : Nat) (block : List Byte) (s : State) : Res :=
  .next <| s.spCall ag fun s =>
    if 16 ≤ part then (3, [], s)
    else if kek = 0 then
      (if classTakes 6 alg size = false ∨ block.length ≠ pubLen alg size then (3, [], s)
       else s.addKey { cls := 6, secure := secure, part := part, alg := alg, pub := block, size := size })
    else match tget none s.keys kek with
      | none => (5, [], s)
      | some k =>
        if k.usage.testBit 0 = false then (5, [], s)
        else match Config.keyOfBlock k.value block with
          | none => (5, [], s)
          | some (cls, usage, alg, size, value) =>
            if classTakes cls alg size = false then (3, [], s)
            else s.addKey { cls := cls, secure := secure, part := part, usage := usage, alg := alg, value := value, size := size }

/-- KEY_EXPORT (R399): an exportable key as a block under a KEK key; never LINK or PLATFORM. -/
def execKeyExport (ag : Agent) (h kek : Nat) (s : State) : Res :=
  .next <| s.spCall ag fun s =>
    match tget none s.keys h, tget none s.keys kek with
    | some k, some w =>
      if k.usage.testBit 1 = false ∨ k.cls = 7 ∨ k.cls = 8 ∨ w.usage.testBit 0 = false then (5, [], s)
      else (0, Config.keyBlock w.value (leBytes 4 (k.cls + 2 ^ 8 * k.usage + 2 ^ 16 * k.alg)) k.value, s)
    | _, _ => (5, [], s)

/-- KEY_DELETE (R337, R398): the handle is freed and the caches drop its entry. -/
def execKeyDelete (ag : Agent) (h : Nat) (s : State) : Res :=
  .next <| s.spCall ag fun s =>
    match tget none s.keys h with
    | none => (5, [], s)
    | some _ =>
      (0, [], (({ s with keys := tset none s.keys h none, keyFreed := s.keyFreed ++ [h] } : State).ksSave).dropKey h)

/-- KEY_INFO (R399): class, owner, usage and a 3-byte check value. -/
def execKeyInfo (ag : Agent) (h : Nat) (s : State) : Res :=
  .next <| s.spCall ag fun s =>
    match tget none s.keys h with
    | none => (5, [], s)
    | some k => (0, leBytes 1 k.cls ++ leBytes 1 (b2n k.secure) ++ leBytes 1 k.part ++ leBytes 1 k.usage ++
        crypto 0x43 [[BitVec.ofNat 8 k.alg], k.value, k.pub] 3, s)

/-- FM_KEY_SET (R254, R399): the SHA-384 hashes of the fabric-manager keys. -/
def execFmKeySet (ag : Agent) (hashes : List Byte) (s : State) : Res :=
  .next <| s.spCall ag fun s => if hashes.length ≠ 96 then (3, [], s) else (0, [], { s with fmKeys := hashes })

/-- IMAGE_ARM's work (R399): verify the bundle in a slot and append ARMED. -/
def State.imageArm (s : State) (slot maxA trialS : Nat) (good : Bool) : SpRes :=
  if 2 ≤ slot ∨ maxA = 0 ∨ 3 < maxA ∨ trialS < 60 ∨ 3600 < trialS then (3, [], s)
  else
    let v := s.verifySlot slot
    if v ≠ 0 then (5, [], s.logErr 40 0 1 0x900 (slot * 2 ^ 32 + v))
    else
      let s1 := s.appendRec slot 1 0 maxA (s.man slot 8 8) (s.manDigest slot) trialS good
      (if good then 0 else 7, [], s1)

/-- IMAGE_ARM (R399). -/
def execImageArm (ag : Agent) (slot maxA trialS : Nat) (good : Bool) (s : State) : Res :=
  .next <| s.spCall ag fun s => s.imageArm slot maxA trialS good

/-- Disarm the trial watchdog. -/
def State.trialOff (s : State) : State :=
  ({ s.wr .SP_TRIAL 0 0 with boot := { s.boot with trial := false } } : State).setFld SP_BOOT_STATUS.TRIAL 0 0

/-- TRIAL_CONFIRM's work (R413), with the number of record writes that read back wrong: CONFIRMED is appended, the counter rises to
the FLOOR, the watchdog stops. -/
def State.trialConfirm (s : State) (fails : Nat) (bad : List Nat) : SpRes :=
  match s.boot.slot with
  | none => (5, [], s)
  | some f =>
    if s.fld SP_TRIAL.RUNNING 0 = 0 then (if s.boot.trial then (5, [], s) else (0, [], s))
    else
      let s1 := (List.range (Nat.min fails 3)).foldl (fun s _ =>
        s.appendRec f 3 s.boot.attempt 1 s.boot.seq (s.manDigest f) 60 false) s
      if 3 ≤ fails then (7, [], s1)
      else
        let r := match s1.curRec f with | some i => s1.epRec f i | none => []
        let s2 := s1.appendRec f 3 s.boot.attempt (recField r 6 1) s.boot.seq ((r.drop 24).take 32) (recField r 56 2) true
        let s3 := s2.raiseCounter bad s.boot.floor 256
        (0, [], (s3.trialOff).setFld SP_BOOT_STATUS.ROLLBACK 0 s3.rollback256)

/-- TRIAL_CONFIRM (R413): its caller is Macen. -/
def execTrialConfirm (ag : Agent) (fails : Nat) (bad : List Nat) (s : State) : Res :=
  .next <| s.spCall ag fun s => if ag = .macen then s.trialConfirm fails bad else (5, [], s)

/-- REVOKE_IMAGE_KEY's work (R415): only while both slots hold bundles that verify under other key slots. -/
def State.revokeImage (s : State) (k : Nat) (bad : List Nat) : SpRes :=
  if 4 ≤ k then (3, [], s)
  else if ([0, 1].all fun f => s.verifySlot f == 0 && s.man f 20 1 != k) = false then (5, [], s)
  else
    let s1 := s.burnGroup bad (3328 + 8 * k)
    (if s1.imgRevoked k then 0 else 7, [], if s1.imgRevoked k then
      s1.setFld SP_BOOT_STATUS.IMG_REVOKED 0 (s1.fld SP_BOOT_STATUS.IMG_REVOKED 0 ||| 2 ^ k) else s1)

/-- REVOKE_IMAGE_KEY (R415). -/
def execRevokeImageKey (ag : Agent) (k : Nat) (bad : List Nat) (s : State) : Res :=
  .next <| s.spCall ag fun s => s.revokeImage k bad

/-- REVOKE_DEBUG_KEY (R399). -/
def execRevokeDebugKey (ag : Agent) (k : Nat) (bad : List Nat) (s : State) : Res :=
  .next <| s.spCall ag fun s =>
    if 2 ≤ k then (3, [], s)
    else
      let s1 := s.burnGroup bad (4896 + 8 * k)
      (if s1.dbgRevoked k then 0 else 7, [], if s1.dbgRevoked k then
        s1.setFld SP_BOOT_STATUS.DBG_REVOKED 0 (s1.fld SP_BOOT_STATUS.DBG_REVOKED 0 ||| 2 ^ k) else s1)

/-- LC_ADVANCE's work (R390, R391): to the next state of the table, or to SCRAPPED; to RMA only after a KEYSTORE_ERASE since the last
power-on reset; to SCRAPPED after every bit of the PUF helper data. -/
def State.lcAdvance (s : State) (target : Nat) (bad : List Nat) : SpRes :=
  let lc := s.lc
  let may := (lc == 0 && target == 1) || (lc == 1 && (target == 2 || target == 5)) || (lc == 2 && (target == 3 || target == 5)) ||
    (lc == 3 && (target == 4 || target == 5)) || (lc == 4 && target == 5)
  if may = false ∨ (target = 4 ∧ s.ksErased = false) then (5, [], s)
  else
    let s1 := if target = 5 then s.burnAll bad ((List.range 4096).map (5376 + ·)) else s
    let s2 := s1.burnGroup bad (8 * (target - 1))
    (if s2.lc = target then 0 else 7, [], s2)

/-- LC_ADVANCE (R391), from the secure world. -/
def execLcAdvance (ag : Agent) (target : Nat) (bad : List Nat) (s : State) : Res :=
  .next <| s.spCall ag fun s => s.lcAdvance target bad

/-- KEYSTORE_ERASE (R399): both copies are erased and the keys are gone. -/
def execKeystoreErase (ag : Agent) (s : State) : Res :=
  .next <| s.spCall ag fun s =>
    let s1 : State := { s with keys := [], keyNext := 1, keyFreed := [], ksCopy := [], ksErased := true, cphKeys := [] }
    (0, [], (s1.cphCounts 0).cphCounts 1)

/-! ### Evidence (R419 to R421) -/

/-- The device certificate, the device private keys and their public halves. -/
def State.devCert (s : State) : List Byte := s.flashGet 0 0x50000 5376
def State.devKey (s : State) (fn : Nat) : List Byte := crypto fn [s.kek, s.uid] 32
def State.certOwn (s : State) : Bool :=
  s.devCert.take 2000 == s.uid ++ crypto 0x46 [[8], s.devKey 0x44] 32 ++ crypto 0x46 [[9], s.devKey 0x45] 1952

/-- Evidence over a nonce (R420). -/
def State.evidenceOf (s : State) (nonce : List Byte) : List Byte :=
  let f := s.boot.slot.getD 0
  let body := leBytes 4 1 ++ leBytes 4 8877 ++ nonce ++ s.uid ++ leBytes 1 s.lc ++
    leBytes 1 (if s.certOwn then s.fld SP_BOOT_STATUS.DEBUG 0 else 2) ++ leBytes 1 (s.boot.slot.getD 0xFF) ++ leBytes 1 (b2n s.boot.trial) ++
    leBytes 2 (s.fld FAB_NODE.DOMAIN 0) ++ leBytes 2 (s.fld FAB_NODE.NODE_ID 0) ++ leBytes 8 s.boot.seq ++ leBytes 2 s.boot.version ++
    leBytes 2 s.rollback256 ++ leBytes 4 (s.fld RCP_RESET_CAUSE.TOTAL 0) ++ s.manHash f ++ s.devCert
  body ++ crypto 0x25 [[0], s.devKey 0x44, body, []] 64 ++ crypto 0x27 [[0], s.devKey 0x45, body, []] 3309

/-- Whether the SP may produce another piece of evidence now: at most 50 per second. -/
def State.evReady (s : State) : Bool := decide ((s.evidence.filter fun t => s.dtime < t + 1000000000).length < 50)

/-- Produce evidence and count it. -/
def State.takeEvidence (s : State) (nonce : List Byte) : List Byte × State :=
  (s.evidenceOf nonce, { s with evidence := (s.evidence.filter fun t => s.dtime < t + 1000000000) ++ [s.dtime] })

/-- ATTEST (R420): evidence over a 32-byte nonce; a request beyond 50 per second waits. -/
def execAttest (ag : Agent) (nonce : List Byte) (s : State) : Res :=
  .next <| if s.agentSecure ag && nonce.length == 32 && !s.evReady then s
  else s.spCall ag fun s =>
    if nonce.length ≠ 32 then (3, [], s)
    else let e := s.takeEvidence nonce; (0, e.1, e.2)

/-! ### Tamper (R400, R401) -/

/-- TAMPER (R401): sensor 0 voltage, 1 clock, 2 temperature, 3 light, 4 shield; BLANK and TEST mask the last two. The KEK, the key
area, the key caches and the link keys are zeroised, and a power-on reset with cause 4 follows. -/
def execTamper (sensor : Nat) (s : State) : Res :=
  .next <| if 5 ≤ sensor ∨ (3 ≤ sensor ∧ s.lc ≤ 1) then s
  else ({ s with kek := [], keys := [], cphKeys := [] } : State).enterReset true 4

/-! ### The boot chain (R392, R402, R403, R411, R416, R510) -/

/-- The debug ceiling of a life-cycle state (R390): 0 NONE, 1 NORMAL_CERT, 2 FULL. -/
def ceiling (lc : Nat) : Nat := if lc = 3 then 1 else if lc = 5 then 0 else 2

/-- Write SP_BOOT_STATUS and SP_BOOT_SEQ with the ceiling; where it is FULL, both ports' sessions open (R392, R496). -/
def State.writeStatus (s : State) : State :=
  let b := s.boot
  let img := (List.range 4).foldl (fun m k => if s.imgRevoked k then m + 2 ^ k else m) 0
  let dbg := (List.range 2).foldl (fun m k => if s.dbgRevoked k then m + 2 ^ k else m) 0
  let w := [(63, 61, s.lc), (60, 59, ceiling s.lc), (58, 58, b2n b.trial), (57, 57, b.slot.getD 0), (56, 55, b.attempt),
    (52, 44, s.rollback256), (43, 40, img), (39, 38, dbg), (31, 16, b.version), (7, 7, b2n s.recovSel),
    (6, 5, s.bootSrc)].foldl (fun (w : W) (e : Nat × Nat × Nat) => putField w e.1 e.2.1 e.2.2) 0
  let s0 := (s.wr .SP_BOOT_STATUS 0 w).wr .SP_BOOT_SEQ 0 (BitVec.ofNat 64 b.seq)
  let s1 : State := { s0 with dbg := { s0.dbg with ceilOn := true } }
  if ceiling s.lc = 2 then
    [0, 1].foldl (fun s p => (s.setFld DBG_AUTH.SESSION p 2).logErr 47 p 0 0xC01 0xFFFFFFFF) s1
  else s1

/-- Load the PATCH entries of one target (0 SP, 1 Macen) and lock their units (R510). -/
def State.loadPatch (s : State) (bs : List Byte) (target : Nat) : State :=
  (List.range (bs.length / 48)).foldl (fun s i =>
    let e := (bs.drop (48 * i)).take 48
    let u := recField e 0 1
    if recField e 1 1 ≠ target ∨ 16 ≤ u then s
    else
      let w := putField (putField (putField (putField 0 63 63 1) 62 62 target) 61 61 1) 47 5 (recField e 8 8 / 32)
      (List.range 4).foldl (fun s j => s.wr .DBG_PATCH_DATA (u * 4 + j) (BitVec.ofNat 64 (recField e (16 + 8 * j) 8)))
        (s.wr .DBG_PATCH_CFG u w)) s

/-- Whether a bundle's PATCH segment is absent, or is one whose bytes keep R510 and match their digest. -/
def State.patchOk (s : State) (f : Nat) : Bool :=
  match s.segs f 5 with
  | [] => true
  | [g] => g.len % 48 == 0 && decide (g.len ≤ 768) && s.segDigestOk f g &&
      (let us := (List.range (g.len / 48)).map fun i => recField (s.segBytes f g) (48 * i) 1
       us.eraseDups.length == us.length)
  | _ => false

/-- A segment digest fails (R403): a bundle on trial gets FAILED; IMAGE_REJECTED is recorded and a system reset follows. -/
def State.reject (s : State) (f : Nat) (good : Bool) : State :=
  let s1 := if s.boot.trial then s.appendFailed f good else s
  (s1.logErr 40 0 1 0x900 (f * 2 ^ 32 + 0xFF)).systemReset 7

/-- RECOVERY_WAIT (R392, R416): the channel that the straps select is released, ERROR_N is asserted and the ceiling written. -/
def State.recoveryWait (s : State) : State :=
  let s1 := s.writeStatus
  let s2 := if s1.bootSrc = 1 then s1.setFld PCIE_CTL.MODE 0 1 else s1
  { s2 with rcv := { active := true, chan := if s2.bootSrc = 1 then 1 else if s2.bootSrc = 2 then 2 else 0 }, errorN := true }

/-- Step 4's selection (R411) among the candidates in order; `goods` says of each record written, in turn, whether it reads back. The
bundle to boot, with what was appended. -/
def State.select : List Nat → List Bool → State → State
  | [], _, s => s
  | f :: rest, goods, s =>
    let b : Boot := { slot := some f, seq := s.man f 8 8, version := s.man f 16 2, floor := s.man f 18 2 }
    match s.curRec f with
    | none => State.select rest goods s
    | some i =>
      let r := s.epRec f i
      if s.eligible f = 2 then { s with boot := { b with attempt := recField r 5 1 } }
      else
        let a := recField r 5 1 + 1
        let s1 := s.appendRec f 2 a (recField r 6 1) (recField r 16 8) ((r.drop 24).take 32) (recField r 56 2) (goods.headD true)
        if goods.headD true then
          let t := recField r 56 2
          let w := putField (putField (putField 0 63 63 1) 43 32 t) 31 0 (t * 1000)
          ({ s1.wr .SP_TRIAL 0 w with wdogNs := tset 0 s1.wdogNs 17 0, boot := { b with trial := true, attempt := a } } : State)
        else State.select rest (goods.drop 1) s1

/-- The slots eligible to boot, in R411's order. -/
def State.candidates (s : State) : List Nat :=
  let e := fun f => s.eligible f
  let ok := [0, 1].filter fun f => e f != 0
  match ok with
  | [0, 1] =>
    let a := s.man 0 8 8
    let b := s.man 1 8 8
    if b < a then [0, 1] else if a < b then [1, 0] else if e 0 = 1 ∧ e 1 = 2 then [1, 0] else [0, 1]
  | l => l

/-- What steps 3 and 4 do to the logs before the selection (R409, R410): the next block is erased again, a trial with no attempts left
gets FAILED, and a bundle that a current record names and that does not verify is recorded. -/
def State.slotCheck (s : State) (f : Nat) (good : Bool) : State :=
  match s.curRec f with
  | none => s
  | some i =>
    let r := s.epRec f i
    let s1 := s.flashErase f (logBase + 65536 * ((i / 1024 + 1) % 4)) 65536
    if recField r 4 1 = 2 ∧ recField r 6 1 ≤ recField r 5 1 then s1.appendFailed f good
    else if recField r 4 1 ≠ 4 ∧ s1.verifySlot f ≠ 0 then s1.logErr 40 0 1 0x900 (f * 2 ^ 32 + s1.verifySlot f)
    else s1

/-- SP_BOOT (R402): steps 3 to 6 of the boot chain, once the options are loaded and the SP is released. `goods` says of each record
written whether it reads back, `bad` names the fuse bits that fail. -/
def execSpBoot (goods : List Bool) (bad : List Nat) (s : State) : Res :=
  .next <| if s.bootStep ≠ 2 ∨ s.relStep < 3 ∨ s.rcv.active then s
  else
    let s1 : State := { s with bootStep := 3, kek := s.kekNow }
    let s2 := if s1.fld RCP_RESET_CAUSE.LAST_CAUSE 0 = 4 then s1.logErr 40 0 3 0x903 0 else s1
    let s3 := s2.ksLoad
    let g := s3.lc
    let s4 := if 0 < g then s3.burnGroup bad (8 * (g - 1)) else s3
    if g = 0 ∨ g = 5 then s4.writeStatus
    else if s4.recovSel then s4.recoveryWait
    else
      let s5 := (s4.slotCheck 0 (goods.headD true)).slotCheck 1 (goods.getD 1 true)
      let s6 := State.select s5.candidates (goods.drop 2) s5
      match s6.boot.slot with
      | none => s6.recoveryWait
      | some f =>
        let seg1 := fun t => (s6.segs f t).headD {}
        let pb := match s6.segs f 5 with | [g] => s6.segBytes f g | _ => []
        if s6.patchOk f = false then s6.reject f true
        else
          let s7 := s6.loadPatch pb 0
          if s7.segDigestOk f (seg1 1) = false ∨ s7.segDigestOk f (seg1 2) = false then s7.reject f true
          else
            let s8 := if s7.boot.trial then s7 else s7.raiseCounter bad s7.boot.floor 256
            { (s8.loadPatch pb 1).writeStatus.kick16 with bootStep := 6 }

/-- DRAM_ZEROING (R285, R402 step 7): every line that the windows map holds zeros with valid check bits; stage 1 then copies the
MONITOR and LOADER segments to their load addresses and checks the copies. -/
def execDramZeroing (s : State) : Res :=
  .next <| if s.bootStep ≠ 6 ∨ s.relStep < 6 then s
  else
    let s1 : State := { s.buildMap with mem := [], memPoison := [] }
    match s1.boot.slot with
    | none => s1
    | some f =>
      let put := fun (s : State) (t : Nat) =>
        let g := (s.segs f t).headD {}
        if s.isDram g.load && s.isDram (g.load + g.len - 1) then
          ({ s with mem := memSetBytes s.mem g.load (s.segBytes f g) } : State) else s
      let s2 := put (put s1 3) 4
      let ok := fun (t : Nat) =>
        let g := (s2.segs f t).headD {}
        hashOf 1 (memGetBytes s2.mem g.load g.len) == g.digest
      if ok 3 && ok 4 then { s2.kick16 with bootStep := 7 } else s2.reject f true

/-- TRIAL_WATCHDOG_WARNING (R412): 90% of TRIAL_S has passed. -/
def execTrialWatchdogWarning (s : State) : Res :=
  .next <| if s.fld SP_TRIAL.RUNNING 0 = 1 then s.raise 1666 else s

/-- TRIAL_WATCHDOG_EXPIRY (R412): a system reset with cause 9. -/
def execTrialWatchdogExpiry (s : State) : Res :=
  .next <| if s.fld SP_TRIAL.RUNNING 0 = 1 ∧ (s.halted 16 && s.fld DBG_FREEZE.TRIAL 0 == 1) = false then s.systemReset 9 else s

/-! ### Recovery (R417, R418) -/

/-- The target slot: one with no eligible bundle, or the one with the lower SEQ. -/
def State.rcvTarget (s : State) : Nat :=
  if s.eligible 0 = 0 then 0 else if s.eligible 1 = 0 then 1 else if s.man 1 8 8 < s.man 0 8 8 then 1 else 0

/-- Write a chunk into the target slot's bundle area, which the first chunk erases. -/
def State.rcvChunk (s : State) (off : Nat) (bs : List Byte) : State :=
  let s1 := match s.rcv.slot with
    | some _ => s
    | none => let f := s.rcvTarget
      { s.flashErase f bundleBase (63 * 2 ^ 20) with rcv := { s.rcv with slot := some f } }
  let f := s1.rcv.slot.getD 0
  ({ s1 with rcv := { s1.rcv with st := 1, reason := 0 } } : State).flashPut f (bundleBase + off) bs

/-- Verify what was received (R417): every check of R406 and every segment digest; then ARMED, DONE and a system reset, or
REJECTED. -/
def State.rcvFinish (s : State) (good : Bool) : State :=
  match s.rcv.slot with
  | none => s
  | some f =>
    let v := s.verifySlot f
    let dig := (List.range 16).all fun i => let g := s.seg f i; g.typ == 0 || s.segDigestOk f g
    let v := if v ≠ 0 then v else if dig then 0 else 0xFF
    if v ≠ 0 then { s with rcv := { s.rcv with st := 5, reason := v, slot := none } }
    else
      let s1 := s.appendRec f 1 0 1 (s.man f 8 8) (s.manDigest f) 600 good
      ({ s1 with rcv := { s1.rcv with st := 4 } } : State).systemReset 7

/-- Take a write of RCV_CTL. -/
def State.rcvCtl (s : State) (w : W) : State :=
  { s with rcv := { s.rcv with off := field w 31 0, len := field w 47 32 } }

/-- CHUNK (R417): the host has written `data` into RCV_DATA and writes RCV_CTL with CMD 1; LENGTH is 1 to 32,768 and the chunk lies
in the bundle area. -/
def execChunk (data : List Byte) (w : W) (s : State) : Res :=
  .next <| if s.rcv.active = false ∨ field w 49 48 ≠ 1 then s
  else
    let s1 := (s.rcvWrite 0x8000 (data.take 32768)).rcvCtl w
    let n := s1.rcv.len
    if n = 0 ∨ 32768 < n ∨ 63 * 2 ^ 20 < s1.rcv.off + n then s1
    else s1.rcvChunk s1.rcv.off ((List.range n).map fun i => tget 0 s1.rcv.data i)

/-- FINISH (R417): RCV_CTL with CMD 2. -/
def execFinish (w : W) (good : Bool) (s : State) : Res :=
  .next <| if s.rcv.active = false ∨ field w 49 48 ≠ 2 then s else (s.rcvCtl w).rcvFinish good

/-- ABORT (R417): RCV_CTL with CMD 3 abandons the transfer. -/
def execAbort (w : W) (s : State) : Res :=
  .next <| if s.rcv.active = false ∨ field w 49 48 ≠ 3 then s
  else let s1 := s.rcvCtl w
    { s1 with rcv := { s1.rcv with st := 0, reason := 0, slot := none } }

/-- FABRIC_RECOVERY (R418): the SP loads the node ID and the domain and enables all ports; once a port admits the neighbour it routes
REC_SOURCE there, maps aperture 4,095 read-only onto REC_ADDR, and each further read brings `data` at an offset of the bundle, the
last one with `fin`. A REC_NODE_ID of 0 leaves the device waiting. -/
def execFabricRecovery (p off : Nat) (data : List Byte) (fin good : Bool) (s : State) : Res :=
  .next <| if s.rcv.active = false ∨ s.rcv.chan ≠ 2 ∨ s.opt.node = 0 then s
  else if s.fld FAB_NODE.NODE_ID 0 ≠ s.opt.node then
    let s1 := (s.setFld FAB_NODE.NODE_ID 0 s.opt.node).setFld FAB_NODE.DOMAIN 0 s.opt.domain
    (List.range 8).foldl (fun s q => (s.setFld FAB_PORT_CTL.ENABLE q 1).portCtl q 0) s1
  else if 8 ≤ p ∨ s.fld FAB_PORT_STATUS.STATE p ≠ 4 then s
  else
    let s1 := (s.setFld FAB_ROUTE.VALID s.opt.source 1).setFld FAB_ROUTE.OUT s.opt.source p
    let s2 := ((s1.setFld FAB_APERTURE.VALID 4095 1).setFld FAB_APERTURE.RD 4095 1).setFld FAB_APERTURE.SIZE_LOG2 4095 31
    let s3 := (s2.setFld FAB_APERTURE.NODE 4095 s.opt.source).setFld FAB_APERTURE.RBASE 4095 (s.opt.addr / 4096)
    let s4 := if data = [] then s3 else s3.rcvChunk off data
    if fin then s4.rcvFinish good else s4

/-! ### The code that the SP and Macen run (R509) -/

/-- The patch unit that stands for a 32-byte line of the code address space of the SP, or of Macen: the lowest-numbered enabled one that names
it. -/
def State.patchUnit (s : State) (macen : Bool) (addr : Nat) : Option Nat :=
  (List.range 16).find? fun u =>
    s.fld DBG_PATCH_CFG.EN u == 1 && s.fld DBG_PATCH_CFG.TARGET u == b2n macen && s.fld DBG_PATCH_CFG.LINE u == addr / 32 % 2 ^ 43

/-- The 32 bytes of the line that an instruction fetch or a data read of the SP, or of either Macen core, finds in its code address space:
`held` is what the ROM or the loaded segment holds there. -/
def State.codeLine (s : State) (macen : Bool) (addr : Nat) (held : List Byte) : List Byte :=
  match s.patchUnit macen addr with
  | some u => (List.range 4).flatMap fun w => leBytes 8 (s.rd .DBG_PATCH_DATA (4 * u + w)).toNat
  | none => held

end Sys2Proof.Machine
end

