-- ==== Sys2Proof/Machine/Admission.lean ====
section
/-! DEFINITION. Admission to the fabric (R251 to R253): the exchange of nonces, evidence and results over a port; and remote
resets (R254). -/

namespace Sys2Proof.Machine

open Sys2Proof

/-- A port's admission fails (R251): ATTEST_RESULT reject goes out, ADMIT_ERR is written, record ADMISSION_FAILED is made and the port is
QUARANTINED. -/
def State.admitFail (s : State) (p err : Nat) : State :=
  let s1 := s.linkLocal p { op := 0x32, data := leBytes 4 err ++ leBytes 4 0, len := 8 }
  let s2 := ((s1.setFld FAB_PORT_STATUS.ADMIT_ERR p err).logErr (portNode p) p 1 0x403 err).raise (portSrc p + 1)
  s2.setPortState p 5

/-- Whether a port is ATTESTING. -/
def State.attesting (s : State) (p : Nat) : Bool := decide (p < 8) && s.fld FAB_PORT_STATUS.STATE p == 3

/-- Both results are in (R251): PEER_NODE is written, encryption starts and the port is ACTIVE. -/
def State.letIn (s : State) (p : Nat) : State :=
  let x := s.port p
  if x.ownOk && x.peerOk then
    let s1 := (s.setPort p { x with iv := 0, rxIv := 0 }).setFld FAB_PORT_STATUS.PEER_NODE p x.peerNode
    ((s1.setFld FAB_PORT_STATUS.ADMIT_ERR p 0).setPortState p 4).timeRoles
  else s

/-- ATTEST_NONCE (R251, R421): the SP sends evidence over the peer's nonce; beyond 50 pieces per second it waits. -/
def execAttestNonce (s : State) : Res :=
  .next <| match s.takePkt 0x30 with
  | none => s
  | some (p, k, s1) =>
    if s1.attesting p = false ∨ k.data.length ≠ 32 then s1
    else if s1.evReady = false then s
    else
      let e := s1.takeEvidence k.data
      (e.2.setPort p { e.2.port p with peerNonce := k.data }).linkLocal p { op := 0x31, data := e.1, len := 8877 }

/-- A little-endian field of evidence (R420). -/
def evField (e : List Byte) (off n : Nat) : Nat := ofLeBytes ((e.drop off).take n)

/-- The SP's check of a peer's evidence against the nonce this port sent (R252, R421): 0 accepted, else the ADMIT_ERR. -/
def State.evCheck (s : State) (p : Nat) (e : List Byte) : Nat :=
  let cert := (e.drop 128).take 5376
  let edPk := (cert.drop 16).take 32
  let mlPk := (cert.drop 48).take 1952
  let body := e.take 5504
  if (e.length == 8877 && evField e 0 4 == 1 && evField e 4 4 == 8877 &&
      Config.cryptoTrue 0x24 [[0], edPk, body, (e.drop 5504).take 64] &&
      Config.cryptoTrue 0x26 [[0], mlPk, body, (e.drop 5568).take 3309]) = false then 1
  else if (Config.cryptoTrue 0x61 [cert.take 2000, (cert.drop 2000).take 64] &&
      Config.cryptoTrue 0x62 [cert.take 2000, (cert.drop 2064).take 3309]) = false then 2
  else if (e.drop 8).take 32 ≠ (s.port p).ownNonce then 6
  else if evField e 56 1 ≠ s.lc then 3
  else if evField e 60 2 ≠ s.fld FAB_NODE.DOMAIN 0 then 4
  else if evField e 62 2 = 0 ∨ evField e 62 2 = s.fld FAB_NODE.NODE_ID 0 then 5
  else 0

/-- The key epoch a port enters ACTIVE with (R253): without ENC none is used; with it the key store advances the LINK key's, unless it
cannot. -/
def State.linkEpoch (s : State) (p : Nat) : Option (Nat × State) :=
  if s.fld FAB_PORT_CTL.ENC p = 0 then some (0, s)
  else
    let h := s.fld FAB_PORT_CTL.KEY_HANDLE p
    match tget none s.keys h with
    | none => none
    | some k =>
      if k.cls ≠ 7 ∨ 0xFFFFFFFF ≤ k.epoch then none
      else some (k.epoch + 1, ({ s with keys := tset none s.keys h (some { k with epoch := k.epoch + 1 }) } : State).ksSave)

/-- ATTEST_EVIDENCE (R251, R252): the peer's evidence is checked, and the result goes to the peer. -/
def execAttestEvidence (s : State) : Res :=
  .next <| match s.takePkt 0x31 with
  | none => s
  | some (p, k, s) =>
    if s.attesting p = false then s
    else
      let err := s.evCheck p k.data
      if err ≠ 0 then s.admitFail p err
      else match s.linkEpoch p with
        | none => s.admitFail p 8
        | some (ep, s1) =>
          let s2 := s1.setPort p { s1.port p with ownOk := true, peerNode := evField k.data 62 2 % 2 ^ 14, epoch := ep }
          (s2.linkLocal p { op := 0x32, data := leBytes 4 0 ++ leBytes 4 ep, len := 8 }).letIn p

/-- ATTEST_RESULT (R251): the peer accepts or rejects. -/
def execAttestResult (s : State) : Res :=
  .next <| match s.takePkt 0x32 with
  | none => s
  | some (p, k, s) =>
    if s.attesting p = false then s
    else
      let code := evField k.data 0 4 % 256
      if evField k.data 0 4 = 0 then (s.setPort p { s.port p with peerOk := true, peerEpoch := evField k.data 4 4 }).letIn p
      else s.admitFail p code

/-- ATTESTATION_LIMIT (R251, R255): 200 ms have passed without ACTIVE; FREEZE stops this timer. -/
def execAttestationLimit (p : Nat) (s : State) : Res :=
  .next <| if s.attesting p && s.fld FAB_NODE.FREEZE 0 == 0 then s.admitFail p 7 else s

/-! ### Remote reset (R254, R428) -/

/-- Whether a REMOTE_RESET command is to be obeyed: it verifies under an installed fabric-manager key, names this node and the current
total, which still rises, and has not expired. Its payload holds the node, the counter, the expiry and the two signatures. -/
def State.remoteOk (s : State) (d : List Byte) : Bool :=
  let total := s.fld RCP_RESET_CAUSE.TOTAL 0
  d.length == 3387 && s.fmKeys != [] && Config.cryptoTrue 0x60 [s.fmKeys, d.take 14, (d.drop 14).take 64, d.drop 78] &&
  evField d 0 2 == s.fld FAB_NODE.NODE_ID 0 && evField d 2 4 == total && total != 0xFFFFFFFF && decide (s.dtime ≤ evField d 6 8)

/-- REMOTE_RESET (R254): at most one command is taken per 10 ms and the others are discarded; it is acknowledged, or rejected and
recorded. -/
def execRemoteReset (s : State) : Res :=
  .next <| match s.takePkt 0x38 with
  | none => s
  | some (_, k, s) =>
    if s.remote.at_ ≠ 0 ∧ s.dtime + 1 < s.remote.at_ + 10000000 then s
    else
      let ok := s.remoteOk k.data
      let s1 : State := { s with remote := { s.remote with at_ := s.dtime + 1, accepted := ok } }
      let s2 := s1.fabSend { dst := k.src, op := 0x39, flags := k.flags, tag := k.tag, data := leBytes 4 (b2n !ok), len := 4 }
      if ok then s2 else s2.logErr 42 0xFF 1 0x407 k.src

/-- REMOTE_RESET_VERIFIED (R254): the accepted command causes a system reset. -/
def execRemoteResetVerified (s : State) : Res :=
  .next <| if s.remote.accepted then ({ s with remote := { s.remote with accepted := false } } : State).systemReset 6 else s

/-- REMOTE_RESET_RSP (R232): the answer of the node that was to be reset. -/
def execRemoteResetRsp (s : State) : Res :=
  .next <| match s.takePkt 0x39 with
  | none => s
  | some (_, k, s) =>
    { s with remote := { s.remote with rspSrc := k.src, rsp := if evField k.data 0 4 = 0 then 1 else 2 } }

end Sys2Proof.Machine
end

