-- ==== Sys2Proof/Machine/Longevity.lean ====
section
/-! DEFINITION. Spares, ageing and repair in service (chapter 20): the repair log and its replay, the ageing monitors and guardbands, live
core swaps, and the repair of array rows. -/

namespace Sys2Proof.Machine

open Sys2Proof

/-! ### The repair log (R479 to R481) -/

/-- Entry `i` of the log as the fuses hold it. -/
def State.logFuse (s : State) (i : Nat) : Nat := s.fuseField (9472 + 32 * i) 32

/-- The valid entries in index order, as the option loader copies them (R481). -/
def State.logRead (s : State) : List Nat := ((List.range 512).map fun i => s.logFuse i).filter fun e => e % 2 == 1

/-- The free entries: all 32 bits are 0. -/
def State.logFree (s : State) : List Nat := (List.range 512).filter fun i => s.logFuse i == 0

/-- REPAIR_LOG_APPEND (R480): the SP burns the next entry that Macen asks for into the first free place it may take, data bits first and
VALID last; a bit that fails abandons the place, and the entry goes to the next free one. The last 24 places take only CORE_RETIRED. -/
def execRepairLogAppend (bad : List Nat) (s : State) : Res :=
  .next <| match s.mac.repairQ with
  | [] => s
  | e :: rest =>
    let done := fun (s : State) => ({ s with mac := { s.mac with repairQ := rest } } : State)
    match s.logFree.find? fun i => decide (i < 488) || logTyp e == 2 with
    | none => (done s).logErr 0 0xFF 1 0xA16 (logTyp e)
    | some i =>
      let base := 9472 + 32 * i
      let bits := ((List.range 31).map (· + 1)).filter fun b => e.testBit b
      match bits.findIdx? fun b => bad.contains (base + b) with
      | some k => s.burnAll bad ((bits.take (k + 1)).map (base + ·))
      | none =>
        let s1 := s.burnAll bad (bits.map (base + ·) ++ [base])
        if s1.fuse base then done s1 else s1

/-- A tile's map while its entries are replayed: the state of each slot, the hart each holds, and whether a CORE_SPARE entry has been
met. -/
structure TileMap where
  st : List Nat := [0, 0, 0, 0, 1]
  hart : List Nat := []
  named : Bool := false
  deriving DecidableEq, Repr

/-- The harts of the enabled slots by rank (R22). -/
def rankHarts (t : Nat) (st : List Nat) : List Nat :=
  (List.range 5).map fun n =>
    if st.getD n 2 = 0 then
      (let r := ((List.range n).filter fun m => st.getD m 2 == 0).length
       if r < 4 then 4 * t + r else 0x7F)
    else 0x7F

/-- Replay one CORE_SPARE (1) or CORE_RETIRED (2) entry of a tile (R481). -/
def TileMap.replay (t : Nat) (m : TileMap) (typ slot : Nat) : TileMap :=
  let spare := m.st.findIdx? (· == 1)
  let give := fun (st hart : List Nat) =>
    let h := m.hart.getD slot 0x7F
    if h = 0x7F then (st, hart)
    else match spare with
      | some p => (st.set p 0, (hart.set p h).set slot 0x7F)
      | none => (st, hart.set slot 0x7F)
  if m.named = false then
    (if typ = 2 then
      (let st := (m.st.map fun x => if x = 1 then 0 else x).set slot 2
       { m with st := st, hart := rankHarts t st })
     else
      (let st := (m.st.map fun x => if x = 1 then 0 else x).set slot 1
       { st := st, hart := rankHarts t st, named := true }))
  else if typ = 1 then
    let g := give (m.st.set slot 1) m.hart
    { m with st := g.1, hart := g.2 }
  else
    let g := give (m.st.set slot 2) m.hart
    { m with st := g.1, hart := g.2 }

/-- TILE_CORE_MAP of a tile after the replay of the log. -/
def State.tileMap (s : State) (t : Nat) : W :=
  let es := s.opt.log.filter fun e => (logTyp e == 1 || logTyp e == 2) && logBits e 27 23 == t && decide (logBits e 22 20 < 5)
  let m := es.foldl (fun (m : TileMap) e => m.replay t (logTyp e) (logBits e 22 20)) { hart := rankHarts t [0, 0, 0, 0, 1] }
  (List.range 5).foldl (fun (w : W) n =>
    putField (putField w (12 * n + 11) (12 * n + 10) (m.st.getD n 2)) (12 * n + 6) (12 * n) (m.hart.getD n 0x7F)) 0

/-- What the log gives the mesh domain before its release (R481): the core maps, the spare wires, and the rows that spares replace. SPARE and
RETIRED slots stay power-gated (R29, R446). -/
def State.replayLog (s : State) : State :=
  let s0 := (List.range 24).foldl (fun s t => s.wr .TILE_CORE_MAP t (s.tileMap t)) s
  let s1 := (List.range 120).foldl (fun s c => if s.slotState c = 0 then s else s.onCore c fun k => { k with run := .gated }) s0
  s1.opt.log.foldl (fun s e =>
    if logTyp e = 5 then
      let F := if logBits e 19 19 = 1 then MESH_LINK_CFG.SPARE1_WIRE else MESH_LINK_CFG.SPARE0_WIRE
      if F.allows (logBits e 18 9) then s.setFld F (logBits e 27 22 * 4 + logBits e 21 20) (logBits e 18 9) else s
    else if logTyp e = 3 then
      let a := logBits e 27 18
      { s with mac := { s.mac with rows := tset [] s.mac.rows a (tget [] s.mac.rows a ++ [logBits e 17 5]) } }
    else s) s1

/-! ### Guardbands and monitors (R482 to R485) -/

/-- The supply of a monitor: a core slot's regulator (0 to 119), the mesh domain (120), the memory-controller stops (121), PCIe (122), the
fabric (123), the cipher clusters (124), Macen and the SP (125), and the always-on domain's LDO (126), which has no guardband. -/
def monSupply (n : Nat) : Nat :=
  if n < 480 then n / 4 else if n < 528 then 120 else if n < 544 then 121 else if n < 552 then 123 else if n < 556 then 122
  else if n < 558 then 124 else if n < 562 then 120 else if n < 564 then 125 else if n = 564 then 123 else if n = 565 then 126
  else 120

/-- The unit of R357 whose power a monitor's domain follows, where it has one of its own. -/
def monUnit (n : Nat) : Option Nat :=
  if 528 ≤ n ∧ n < 544 then some (38 + (n - 528)) else if 544 ≤ n ∧ n < 552 then some (25 + (n - 544))
  else if 552 ≤ n ∧ n < 556 then some (33 + (n - 552)) else if n = 556 ∨ n = 557 then some 22 else none

/-- Whether a monitor's domain is powered. -/
def State.monOn (s : State) (n : Nat) : Bool :=
  if n < 480 then (s.core (n / 4)).run != .gated && (s.slotState (n / 4) == 0 || s.slotState (n / 4) == 3)
  else match monUnit n with
    | some u => s.fld RCP_BLOCK_CTL.STATE u != 2
    | none => true

def State.mon (s : State) (n : Nat) : Mon := tget {} s.mac.mons n
def State.guard (s : State) (sup : Nat) : Nat := tget 0 s.mac.guards sup
def State.setMon (s : State) (n : Nat) (m : Mon) : State := { s with mac := { s.mac with mons := tset {} s.mac.mons n m } }
def State.setGuard (s : State) (sup g : Nat) : State := { s with mac := { s.mac with guards := tset 0 s.mac.guards sup g } }

/-- The nominal voltage of a P-state in mV (R444). -/
def pMv (p : Nat) : Nat := match p with | 0 => 900 | 1 => 800 | 2 => 700 | _ => 620

/-- VOLT_MV of a partition at a P-state: the highest setpoint among its enabled cores (R484). -/
def State.voltAt (s : State) (part p : Nat) : Nat :=
  let gs := (List.range 120).filterMap fun c =>
    if s.slotState c = 0 ∧ s.coreHart c < 96 ∧ s.hartOwner (s.coreHart c) = part then some (s.guard c) else none
  pMv p + 5 * gs.foldl Nat.max 0

/-- Rewrite VOLT_MV of every partition whose voltage is not ramping. -/
def State.volts (s : State) : State :=
  (List.range 16).foldl (fun s p =>
    if s.fld RCP_PSTATE.CHANGING p = 1 then s else s.setFld RCP_PSTATE.VOLT_MV p (s.voltAt p (s.fld RCP_PSTATE.CURRENT p))) s

/-- A boot's calibration of a supply that is about to be released (R484): the smallest step at which every monitor on it reads at least
35 ps, at most 10. -/
def State.calibrate (s : State) (rs : List Reading) : State :=
  (rs.foldl (fun s r =>
    if 580 ≤ r.mon then s
    else
      let s1 := s.setMon r.mon { s.mon r.mon with boot := r.slack, slack := r.slack, tj := r.tj, low := 0, lim := 0 }
      let sup := monSupply r.mon
      if sup = 126 then s1 else s1.setGuard sup (Nat.min 10 (Nat.max (s1.guard sup) r.guard))) s).volts

/-- Macen's guardband rises by one step (R484), and the counts of the supply's monitors begin again. -/
def State.raiseGuard (s : State) (mon : Nat) : State :=
  let sup := monSupply mon
  let g := s.guard sup + 1
  let mons := s.mac.mons.map fun e => if monSupply e.1 = sup then (e.1, { e.2 with low := 0 }) else e
  let s1 : State := { s with mac := { s.mac with mons := mons } }
  ((s1.setGuard sup g).volts).logErr 0 0xFF 0 0xA12 (mon * 256 + g)

/-! ### Live core swaps (R485 to R490) -/

def State.swapOf (s : State) (t : Nat) : Swap := tget {} s.mac.swaps t
def State.setSwap (s : State) (t : Nat) (w : Swap) : State := { s with mac := { s.mac with swaps := tset {} s.mac.swaps t w } }

/-- Whether Macen may start a swap of a tile now (R486). -/
def State.swapMay (s : State) (t old : Nat) : Bool :=
  let k := s.core (5 * t + old)
  k.run != .halted && s.fld WPC_PART_CTL.STATE k.part != 1 && s.fld RCP_PSTATE.CHANGING k.part != 1 &&
  !((List.range 5).any fun n => s.slotState (5 * t + n) == 3) && !s.pfw

/-- Decide a swap of a slot (R485, R486): one live repair per tile runs at a time, and a tile with no SPARE slot has its exhaustion
recorded (R489). -/
def State.swapDecide (s : State) (c why : Nat) : State :=
  let t := coreTile c
  if (s.swapOf t).phase ≠ 0 then s.setDue (5, c, why)
  else match s.spareOf t with
    | none => if why = 1 then s.logErr 0 t 1 0xA11 c else s
    | some n => s.setSwap t { phase := if s.swapMay t (coreSlot c) then 2 else 1, old := coreSlot c, new := n, why := why }

/-- Start what a condition held back (R485, R486): swaps that were decided, and slots that are due. -/
def State.goOn (s : State) : State :=
  let s1 := s.mac.swaps.foldl (fun s e =>
    if e.2.phase = 1 ∧ s.swapMay e.1 e.2.old then s.setSwap e.1 { e.2 with phase := 2 } else s) s
  let s2 := s1.mac.due.foldl (fun s d =>
    if d.1 = 5 ∧ (s.swapOf (coreTile d.2.1)).phase = 0 ∧ s.slotState d.2.1 = 0 then (s.unDue d).swapDecide d.2.1 d.2.2 else s) s1
  s2.applyWires

/-- One sample of a monitor (R483 to R485). -/
def State.sample (s : State) (r : Reading) : State :=
  if 580 ≤ r.mon ∨ s.monOn r.mon = false then s
  else
    let m := s.mon r.mon
    let sup := monSupply r.mon
    let g := s.guard sup
    let low := if r.slack < 25 then m.low + 1 else 0
    let lim := if r.slack < 15 ∧ g = 10 then m.lim + 1 else 0
    let s1 := s.setMon r.mon { m with slack := r.slack, tj := r.tj, low := low, lim := lim }
    let s2 := if 3 ≤ low ∧ g < 10 ∧ sup ≠ 126 then s1.raiseGuard r.mon else s1
    if lim ≠ 3 then s2
    else if sup < 120 then s2.swapDecide sup 1
    else s2.logErr 0 0xFF 2 0xA13 r.mon

/-- AGEING_SAMPLE (R484): Macen samples every powered monitor once per second and acts on the thresholds. -/
def execAgeingSample (rs : List Reading) (s : State) : Res := .next (rs.foldl (fun s r => s.sample r) s).goOn

/-- SWAP_SPARE_POWERED (R486): the spare is powered and its PLL locked; Macen sends the swap request, which an open group defers. -/
def execSwapSparePowered (t : Nat) (s : State) : Res :=
  let w := s.swapOf t
  .next <| if w.phase ≠ 2 ∧ (w.phase ≠ 1 ∨ s.swapMay t w.old = false) then s
  else if s.slotState (5 * t + w.new) ≠ 1 then s
  else
    let s1 := s.setSwap t { w with phase := 3 }
    s1.onCore (5 * t + w.old) fun k =>
      { k with swapReq := true,
               group := k.group.map fun g => { g with deferAt := some (g.deferAt.getD s.dtime) } }

/-- Whether a core is at a boundary where it takes a swap request (R486): no group open, no device access outstanding or buffered, and,
leading a pair, every interval compared. -/
def State.swapBoundary (s : State) (c : Nat) : Bool :=
  let k := s.core c
  (k.run == .running || k.run == .wfi || k.run == .pause) && k.group.isNone && k.devLoad.isNone && k.amoReq.isNone &&
  !(k.sb.any fun e => e.kind == .device) && s.allCompared c

/-- LIVE_CORE_SWAP (R486 to R488): at the boundary the core stops, and once its store buffer has drained its hart moves to the spare in one
write of TILE_CORE_MAP; the old slot starts to write back. -/
def execLiveCoreSwap (t : Nat) (s : State) : Res :=
  let w := s.swapOf t
  let a := 5 * t + w.old
  let b := 5 * t + w.new
  .next <| if w.phase ≠ 3 ∨ s.slotState b ≠ 1 then s
  else if s.swapBoundary a = false then (if (s.core a).group.isNone then s.closeIval a else s)
  else if (s.core a).sb ≠ [] then s.onCore a fun k => { k with swapStop := true }
  else
    let h := s.coreHart a
    let pr := s.pairOf a
    let s1 := s.moveHart a b (if w.why = 1 then 2 else 1)
    let s4 := (s1.onCore b fun k => { k.emptyTlbs with l1d := [], l1i := [], bp := [], swapStop := false }).lidOpen (tileNode t) w.new
    let s5 := match pr with
      | none => s4
      | some i =>
        let p := s4.pair i
        (s4.setPair i (if p.leader = w.old then { p with leader := w.new } else { p with trailer := w.new })).openIval i
    (s5.setSwap t { w with phase := 4 }).logErr 0 t 0 0xA10 (h * 2 ^ 16 + w.old * 2 ^ 8 + w.new)

/-- Gate a slot that has lost its role, once its L2 has written everything back, every acknowledgement and answer has come and its section is
CLOSED (R116, R149). A line that a late answer brought in is written back as well. With `keep` it stays powered, for an array's repair
(R490). -/
def State.gateSlot (s : State) (a : Nat) (keep : Bool) : State :=
  let k := s.core a
  if k.run ≠ .held ∨ k.flushing = false ∨ s.slotState a = 0 then s
  else if k.l2 ≠ [] then (k.l2.map (·.1)).foldl (fun s l => s.evictL2 a l) s
  else if k.flushed = false ∨ k.reqs ≠ [] then s
  else
    let node := tileNode (coreTile a)
    let s1 := (s.lidDrain node (coreSlot a)).lidClose node (coreSlot a)
    if s1.lidState node (coreSlot a) = 2 then s1.setCore a { run := if keep then .held else .gated } else s1

/-- OLD_SLOT_GATED (R116, R213, R488, R490): the slots of a tile that have lost their roles are gated as they have written back; that of a
live swap goes into the repair log. A slot that was swapped for an array row stays powered for the repair. -/
def execOldSlotGated (t : Nat) (s : State) : Res :=
  let w := s.swapOf t
  let a := 5 * t + w.old
  .next <| if 24 ≤ t then s
  else
    let keep := fun c => w.phase == 4 && w.why == 3 && c == a
    let s1 := (tileCores t).foldl (fun s c => s.gateSlot c (keep c)) s
    if w.phase = 4 ∧ w.why = 3 then (if (s1.core a).flushing then s1 else s1.setSwap t { w with phase := 5 })
    else if w.phase ≠ 4 ∨ (s1.core a).run ≠ .gated then s1
    else ((s1.setSwap t {}).logRepair (if w.why = 1 then 2 else 1) (t * 2 ^ 23 + w.old * 2 ^ 20)).goOn

/-- SWAP_IN_RESET (R489): a failed slot that is held in reset gives its hart to the SPARE slot, which stays in reset; with no SPARE slot
the hart holds no slot. -/
def execSwapInReset (c : Nat) (s : State) : Res :=
  let t := coreTile c
  .next <| if 120 ≤ c ∨ s.slotFailed c = false ∨ (s.core c).run ≠ .held ∨ (s.core c).flushing ∨ s.slotState c ≠ 0 ∨ s.pfw then s
  else
    let h := s.coreHart c
    let s1 := s.logRepair 2 (t * 2 ^ 23 + coreSlot c * 2 ^ 20)
    match s.spareOf t with
    | some n =>
      let s2 := ((s1.setSlot c 2 0x7F).setSlot (5 * t + n) 0 h).setCore (5 * t + n) { run := .held }
      (s2.onCore c fun _ => { run := .gated }).logErr 0 t 0 0xA10 (h * 2 ^ 16 + coreSlot c * 2 ^ 8 + n)
    | none => ((s1.setSlot c 2 0x7F).onCore c fun _ => { run := .gated }).logErr 0 t 1 0xA11 c

/-! ### Arrays (R478, R490, R491) -/

/-- The spare rows of an array (R478, R479). -/
def arraySpares (a : Nat) : Nat :=
  if a < 480 then (if a % 4 = 2 then 16 else 4) else if a < 528 then (if a % 2 = 0 then 16 else 8) else if a < 552 then 8
  else if a = 552 then 16 else 4

/-- Map a spare row, and ask for the log entry of it. -/
def State.mapRow (s : State) (a row : Nat) : State :=
  let l := tget [] s.mac.rows a
  ({ s with mac := { s.mac with rows := tset [] s.mac.rows a (l ++ [row]) } } : State).logRepair 3
    (a * 2 ^ 18 + row * 2 ^ 5 + l.length % 16 * 2)

/-- An L3 line leaves its slice for a row repair (R491): a tagged line goes to the dependency victim buffer, a dirty one to DRAM. -/
def State.l3Out (s : State) (line : Nat) : Option State :=
  match tget none s.l3 line with
  | none => some s
  | some l =>
    let out := fun (s : State) => ({ s with l3 := tset none s.l3 line none } : State)
    if (s.expandTag (homeOf line) l.tag).isSome then (s.depvbPut line l).map out
    else some (out (if l.dirty then s.dramWrite line l.data l.poison else s))

/-- A Sieve entry is back-invalidated (R114): copies go, groups that hold the line abort, an owner's data goes to L3. -/
def State.backInval (s : State) (line : Nat) : State :=
  let dirty := match s.ownerOf line with | some (_, d) => some d | none => none
  let world := match s.ownerOf line with | some (c, _) => (s.core c).secure | none => false
  let s1 := (s.dropCopies line).count (cuTile (homeOf line)) 0x07 none 1
  let s2 := match dirty with
    | some d => s1.l3Put line { data := d.data, dirty := true, poison := d.poison, tag := truncTag d.tag, secure := world }
    | none => s1
  { s2 with sieve := tset {} s2.sieve line {} }

/-- SRAM_ROW_SPARE (R491): a row of an L3 data or tag array, a Sieve or journal staging that is due is taken out, mapped to a spare and
returned to use. `sets` are the L3 or Sieve sets that the row holds. A line that waits for room in the dependency victim buffer holds the
repair up, and the sets stay out of use meanwhile. A tile runs one live repair at a time (R485). A row of the Spine's array goes into the
log for the next system reset (R478). -/
def execSramRowSpare (arr row : Nat) (sets : List Nat) (s : State) : Res :=
  let tile := if arr < 528 then (arr - 480) / 2 else arr - 528
  .next <| if arr < 480 ∨ 553 < arr ∨ s.pfw ∨ (arr < 552 ∧ (s.swapOf tile).phase ≠ 0) ∨ s.mac.due.contains (1, arr, row) = false ∨
      arraySpares arr ≤ (tget [] s.mac.rows arr).length then s
  else
    let fin := fun (s : State) => ((s.unDue (1, arr, row)).mapRow arr row).logErr 0 0xFF 0 0xA14 (arr * 2 ^ 16 + row)
    if arr < 528 then
      let t := (arr - 480) / 2
      let ls := (s.l3.map (·.1)).filter fun l => homeOf l == t && sets.contains (l % 8192)
      let r := ls.foldl (fun (o : Bool × State) l => match o.2.l3Out l with
        | some s => (o.1, s)
        | none => (false, o.2)) (true, s)
      let others := s.mac.l3Busy.filter fun x => x / 8192 != t
      let hold := fun (s : State) (l : List Nat) => ({ s with mac := { s.mac with l3Busy := l } } : State)
      if r.1 then fin (hold r.2 others) else hold r.2 (others ++ sets.map fun x => t * 8192 + x % 8192)
    else if arr < 552 then
      let ls := (s.sieve.map (·.1)).filter fun l => homeOf l == arr - 528 && sets.contains (l % 8192)
      fin (ls.foldl (fun s l => s.backInval l) s)
    else if arr = 552 then fin s
    else (s.unDue (1, arr, row)).mapRow arr row

/-- CORE_ARRAY_ROW_SPARE (R490): a row of an L1 or L2 array that is due: with a SPARE slot a swap starts, and once the old slot is out of
use the spare row is mapped and tested (`pass`), after which the slot is SPARE, or RETIRED where the test fails; with none the log entry
waits for the slot's next core reset. -/
def execCoreArrayRowSpare (arr row : Nat) (pass : Bool) (s : State) : Res :=
  let c := arr / 4
  let t := coreTile c
  let w := s.swapOf t
  .next <| if 480 ≤ arr ∨ s.pfw ∨ s.mac.due.contains (1, arr, row) = false ∨ arraySpares arr ≤ (tget [] s.mac.rows arr).length then s
  else if w.phase = 5 ∧ w.old = coreSlot c then
    let s1 := (((s.unDue (1, arr, row)).mapRow arr row).setSwap t {}).onCore c fun k => { k with run := .gated }
    if pass then (s1.logRepair 1 (t * 2 ^ 23 + w.old * 2 ^ 20)).goOn
    else ((s1.setSlot c 2 0x7F).logRepair 2 (t * 2 ^ 23 + w.old * 2 ^ 20)).goOn
  else if w.phase ≠ 0 then s
  else match s.spareOf t with
    | some _ => if s.slotState c = 0 then s.swapDecide c 3 else s
    | none => (s.unDue (1, arr, row)).mapRow arr row

/-- SPD_LOG_WRITE (R493): Macen writes a repair entry into a DIMM's end-user area: into a free place, else over the oldest HARD_PPR entry.
A write that fails is recorded. -/
def execSpdLogWrite (ch dimm typ rankDev bank row : Nat) (good : Bool) (s : State) : Res :=
  let d := ch * 2 + dimm
  .next <| if 16 ≤ ch ∨ 2 ≤ dimm ∨ typ = 0 ∨ 4 < typ then s
  else if good = false then s.logErr 0 ch 1 0xA17 dimm
  else
    let free := (List.range 16).find? fun i => (s.spdEnt d i).isNone
    let old := (List.range 16).find? fun i => match s.spdEnt d i with | some e => e.getD 0 0 == 2 | none => false
    match free, old with
    | some i, _ => s.spdPut d i typ rankDev bank row
    | none, some i => s.spdPut d i typ rankDev bank row
    | none, none => s

/-- What Macen makes of an error record (R485): an SRAM row with 4 corrected or 2 uncorrected errors within 24 h is due, and so is a column
with corrected errors in 3 rows. `place` is what Macen learns beside the record: the column of a corrected error, the array and row of an
uncorrected one. -/
def State.countErr (s : State) (code addr place : Nat) : State :=
  if code = 0xB00 then
    let arr := addr / 2 ^ 16
    let row := addr % 2 ^ 16
    let r := s.note (5 * 2 ^ 40 + addr) day 0
    let s1 := if 4 ≤ r.1.length then (r.2.forget (5 * 2 ^ 40 + addr)).setDue (1, arr, row) else r.2
    let key := 6 * 2 ^ 40 + arr * 2 ^ 16 + place
    let q := s1.note key day row
    if 3 ≤ ((q.1.map (·.2)).eraseDups).length then
      (q.2.forget key).logRepair 4 (arr * 2 ^ 18 + place % 2 ^ 13 * 2 ^ 5)
    else q.2
  else if code = 0xB01 then
    let r := s.note (7 * 2 ^ 40 + place) day 0
    if 2 ≤ r.1.length then (r.2.forget (7 * 2 ^ 40 + place)).setDue (1, place / 2 ^ 16, place % 2 ^ 16) else r.2
  else s

/-- What an uncorrectable error does to the line that a cache read (R100), as the record SRAM_UNCORRECTED names them: the core slot's L1 and L2,
or the tile's L3 slice with 0xFF. A line in M or O, or a dirty line of L3, is marked poisoned; a clean one is invalidated. -/
def State.arrayError (s : State) (source unit code addr : Nat) : State :=
  let line := addr / 64
  match (if code = 0xB01 then nodeTile source else none) with
  | none => s
  | some t =>
    if unit < 5 then
      let c := 5 * t + unit
      match tget none (s.core c).l2 line with
      | none => s
      | some l =>
        if l.st = .m ∨ l.st = .o then
          s.onCore c fun k => { k with l2 := tset none k.l2 line (some { l with d := { l.d with poison := true } }) }
        else s.onCore c fun k => k.dropLine line
    else if unit = 0xFF ∧ homeOf line = t then
      match tget none s.l3 line with
      | none => s
      | some x => { s with l3 := tset none s.l3 line (if x.dirty then some { x with poison := true } else none) }
    else s

end Sys2Proof.Machine
end

