-- ==== Sys2Proof/Machine/Rcp.lean ====
section
/-! DEFINITION. The reset, clock and power controller (chapter 18): reset sources and levels, the release sequence, the option loader,
clocks, rails and regulators, P-states, block power, idle, thermal limits, watchdogs and the RTC. -/

namespace Sys2Proof.Machine

open Sys2Proof

/-! ### Reset levels and sources (R425 to R430, R450) -/

/-- POWER_ON_RESET (R425): a source of the power-on level asserts. -/
def execPowerOnReset (cause : Nat) (s : State) : Res := .next (if 1 ≤ cause ∧ cause ≤ 4 then s.enterReset true cause else s)

/-- SYSTEM_RESET (R425): a source of the system level asserts. -/
def execSystemReset (cause : Nat) (s : State) : Res := .next (if 5 ≤ cause ∧ cause ≤ 12 then s.systemReset cause else s)

/-- Whether every core slot that holds a role is in reset. -/
def State.allHeld (s : State) : Bool := (List.range 120).all fun c => s.slotState c != 0 || (s.core c).run == .held

/-- CORE_RESET (R425): the named slots stop, write back and close; sent again, it goes on. With every core in reset the channels hold DRAM
in self-refresh. -/
def execCoreReset (cs : List Nat) (s : State) : Res :=
  let s1 := (cs.filter fun c => decide (c < 120)).foldl (fun s c => s.coreResetStep c) s
  .next <| if s1.allHeld && !s.allHeld then
    (List.range 16).foldl (fun s ch =>
      if s.fld MCT_CH_STATUS.STATE ch = 2 ∧ (s.chan ch).reads = [] then (s.mcDrain ch).setFld MCT_CH_STATUS.STATE ch 3 else s) s1
  else s1

/-- The register that a number of the table stands for. -/
def regOfNum (n : Nat) : Option RegId := (spans.find? fun p => p.reg.num == n).map (·.reg)

/-- The registers that a block reset spares: ownership, the block counters, which only a system reset clears (R523), DBG_CORE_CTL, which
only a power-on reset clears (R515), the maps that Macen loads (R24), the mesh registers, which no block owns (R150), and the backup domain
(R425). -/
def blockSpares : List RegId :=
  [.WPC_OWNER, .WPC_CFG, .CNT_CFG, .DBG_CORE_CTL, .TILE_CORE_MAP, .MESH_LINK_CFG, .MESH_TIMEOUT, .MESH_INIT_STATUS, .LID_SECTION] ++ backupRegs

/-- Set every register of a unit to its reset value (R425). -/
def State.unitRegsReset (s : State) (u : Nat) : State :=
  { s with regs := (s.regs.map fun e =>
      match regOfNum e.1 with
      | some r => (e.1, if blockSpares.contains r then e.2 else e.2.filter fun x => odcUnit (regAddr r x.1) != some u)
      | none => e).filter fun e => !e.2.isEmpty }

/-- Set what a unit holds beside its registers to its reset value. -/
def State.unitClear (s : State) (u : Nat) : State :=
  let s := s.unitRegsReset u
  if u = 19 then { s with pend := [], inServ := [], nmiTaken := [] }
  else if u = 20 then { s with spn := [], spnChanged := [], pubs := [], pubFlits := [] }
  else if u = 21 then { s with jrnRes := [], jrnRecs := [], repl := [] }
  else if u = 22 ∨ u = 23 then
    (List.range 32).foldl (fun s r => s.setJobs (u - 22) r []) (({ s with cphKeys := tset [] s.cphKeys (u - 22) [] } : State))
  else if u = 24 then { s with fabIn := [], fabRem := [], sqNext := [], sqDone := [] }
  else if 25 ≤ u ∧ u ≤ 32 then (s.portClear (u - 25)).setPort (u - 25) {}
  else if 33 ≤ u ∧ u ≤ 36 then
    { s with pcieTags := s.pcieTags.filter (fun e => e.1 / 1024 != u - 33), pcieOut := tset {} s.pcieOut (u - 33) {},
             pcieCpl := tset {} s.pcieCpl (u - 33) {} }
  else if u = 37 then { s with ctxCache := [], ioTlb := [] }
  else if 38 ≤ u ∧ u ≤ 53 then s.setChan (u - 38) { (s.chan (u - 38)) with reads := [], writes := [], parity := 0 }
  else s

/-- The sections of a unit's block (R147, R149): one, where its stop has one for it; unit 37 has both of node 46, the IOMMU's
and the I/O coherence agent's (DEDUCED: no other unit gates the agent). -/
def unitSecs (u : Nat) : List Nat :=
  match (unitStop u).2 with
  | some k => if u = 37 then [0, 1] else [k]
  | none => []

/-- Whether every section of a unit's block is closed; a block with none has nothing to close. -/
def State.unitClosed (s : State) (u : Nat) : Bool :=
  (unitSecs u).all fun k => s.lidState (unitStop u).1 k == 2

/-- The block's sections begin to drain, and are held closed. -/
def State.unitDrain (s : State) (u : Nat) : State :=
  (unitSecs u).foldl (fun (s : State) k =>
    let n := (unitStop u).1
    { s.lidDrain n k with lidHeld := tset false s.lidHeld (lidIx n k) true }) s

/-- The block's sections open again. -/
def State.unitOpen (s : State) (u : Nat) : State :=
  (unitSecs u).foldl (fun (s : State) k =>
    let n := (unitStop u).1
    ({ s with lidHeld := tset false s.lidHeld (lidIx n k) false } : State).lidOpen n k) s

/-- BLOCK_RESET (R425): the block's section drains; sent again once it is CLOSED, the block is reset and, with its clock locked, the
section opens. -/
def execBlockReset (u : Nat) (s : State) : Res :=
  .next <| if 84 ≤ u then s
  else if s.unitClosed u = false then s.unitDrain u
  else
    let s1 := s.unitClear u
    if tget false s.unlocked (200 + u) then s1 else s1.unitOpen u

/-- RESET_IN_N (R426, R430): the filtered pin falls, a system reset with cause 5, or rises. -/
def execResetInN (low : Bool) (s : State) : Res :=
  let s1 : State := { s with resetInLow := low }
  .next (if low && !s.resetInLow then s1.systemReset 5 else s1)

/-- Whether every rail is good and PWRGOOD is high. -/
def State.powerGood (s : State) : Bool := s.pwrgood && s.railOut.all fun e => !e.2

/-- PWRGOOD (R426, R450): the pin (`sig` 5) or a rail (0 VIN18, 1 VIO18, 2 VDDQ, 3 VANA09, 4 VBAK) leaves its window, cause 2, or comes
back; when all are good after any rail was out, the reset is recorded again with cause 1. PWRGOOD low releases THERMTRIP_N. -/
def execPwrgood (sig : Nat) (good : Bool) (s : State) : Res :=
  .next <| if 6 ≤ sig then s
  else
    let was := s.powerGood
    let wasRail := s.railOut.any fun e => e.2
    let s1 : State := if sig = 5 then { s with pwrgood := good, thermtrip := s.thermtrip && good }
      else { s with railOut := tset false s.railOut sig (!good) }
    if good = false then s1.enterReset true 2
    else if was = false ∧ s1.powerGood then
      (if wasRail then ({ s1 with rstLevel := 0 } : State).enterReset true 1 else s1)
    else s1

/-- THERMTRIP (R450): THERMTRIP_N goes low and a power-on reset with cause 3 follows. -/
def execThermtrip (s : State) : Res := .next (({ s with thermtrip := true } : State).enterReset true 3)

/-- RESET_HOLD_END (R430, R433): no source has asserted for 10 µs, and the release sequence starts again. -/
def execResetHoldEnd (s : State) : Res :=
  .next (if s.resetInLow || !s.powerGood || s.thermtrip then s else { s with rstLevel := 0 })

/-- VBAK_LOST (R429): the backup domain loses its contents. -/
def execVbakLost (s : State) : Res :=
  .next <| ((((s.wr .RCP_RESET_CAUSE 0 0x80000000).wr .RCP_CAUSE_COUNT 0 0).wr .RCP_CAUSE_COUNT 1 0).wr .RCP_RTC 0 0)

/-- CLEAR_CAUSES (R427): a write to RCP_RESET_CAUSE; CLEAR_CAUSES sets every count to 0, and a 1 clears VBAK_LOST. -/
def execClearCauses (ag : Agent) (w : W) (s : State) : Res :=
  .next <| s.onWrite ag .RCP_RESET_CAUSE 0 w fun s =>
    if bit w 30 then (s.wr .RCP_CAUSE_COUNT 0 0).wr .RCP_CAUSE_COUNT 1 0 else s

/-- RTC_WRITE (R453): a write loads the tick count. -/
def execRtcWrite (ag : Agent) (w : W) (s : State) : Res :=
  .next <| s.onWrite ag .RCP_RTC 0 w fun s => { s with rtcAcc := 0 }

/-! ### Release (R431, R434, R439, R536) -/

/-- The generation of a Macen start (R462), loaded into every page. -/
def State.loadGeneration (s : State) : State :=
  let g := 1 + (s.fld RCP_RESET_CAUSE.TOTAL 0 * 16 + s.mac.restarts) % 65535
  (List.range 19).foldl (fun s n => s.wr .MBX_STATUS n (putField 0 31 16 g)) s

/-- An option page in a flash device, if its MAGIC, LENGTH and CRC are right (R396). -/
def State.optPage (s : State) (f : Nat) : Option (List Byte) :=
  let p := s.flashGet f 0 4096
  if recField p 0 4 = 0x4F505447 ∧ recField p 4 4 = 4096 ∧ crcOf (p.take 4092) = recField p 4092 4 then some p else none

/-- The fields of an option page; a value out of range selects the default (R396, R439). -/
def optOf (p : List Byte) : Opt :=
  let g := fun o n => recField p o n
  let pick := fun (v lo hi d : Nat) => if lo ≤ v ∧ v ≤ hi then v else d
  { spare := g 8 1 != 0, mirror := g 10 2, bar0 := pick (g 12 1) 20 36 20, node := g 16 2 % 2 ^ 14, domain := g 18 2,
    source := g 20 2 % 2 ^ 14, addr := g 24 8 % 2 ^ 48, ssc := pick (g 32 1) 1 50 0, pstate := pick (g 33 1) 1 4 1 - 1,
    swdg := pick (g 34 2) 100 65535 10000 }

/-- OPTION_LOADING (R396, R431, R536, R537): the shadow registers are loaded from the option page of flash 0, else of flash 1, else at
their defaults; the repair log and the fuses with them; the straps are sampled as loading completes. -/
def execOptionLoading (src : Nat) (recov : Bool) (s : State) : Res :=
  .next <| if s.relStep ≠ 2 ∨ s.bootStep ≠ 0 ∨ s.rstLevel ≠ 0 then s
  else
    let o := match s.optPage 0 with
      | some p => optOf p
      | none => match s.optPage 1 with
        | some p => optOf p
        | none => {}
    let s1 : State := { s with opt := { o with log := s.logRead }, bootSrc := src % 4, recovSel := recov, bootStep := 2 }
    let s2 := (List.range 16).foldl (fun s p =>
      ((s.setFld RCP_PSTATE.CURRENT p o.pstate).setFld RCP_PSTATE.TARGET p o.pstate).setFld RCP_PSTATE.VOLT_MV p (pMv o.pstate)) s1
    if src % 4 = 1 then s2.setFld PCIE_CTL.MODE 0 1 else s2

/-- Whether a release step's condition is met (R434). -/
def State.stepReady (s : State) (n : Nat) : Bool :=
  match n with
  | 1 => s.powerGood
  | 3 => decide (2 ≤ s.bootStep)
  | 4 => decide (6 ≤ s.bootStep)
  | 8 => decide (7 ≤ s.bootStep)
  | _ => true

/-- What a domain's release does (R434): step 1 loads DTIME from the RTC, step 3 enables the system watchdog, step 4 starts Macen, step 5
applies the repair log, step 7 starts the clusters' self-tests, and step 8 releases the boot core at the monitor's entry and drives
READY high. -/
def State.stepWork (s : State) (n : Nat) : State :=
  match n with
  | 1 => { s with dtime := s.fld RCP_RTC.TICKS 0 * 1953125 / 64 }
  | 3 => ((s.setFld TMR_WDOG.EN 16 1).setFld TMR_WDOG.PERIOD_MS 16 s.opt.swdg).wdogLoad 16 s.opt.swdg
  | 4 => s.loadGeneration
  | 5 =>
    let s1 := s.replayLog
    if s1.fld RCP_RESET_CAUSE.VBAK_LOST 0 = 1 then s1.raise 1615 else s1
  | 7 => [0, 1].foldl (fun s k => s.setFld CPH_STATUS.STATE k 1) s
  | 8 =>
    match s.boot.slot, s.hartCore 0 with
    | some f, some c =>
      let s1 := (s.wr .TILE_RESET_VEC c (BitVec.ofNat 64 ((s.segs f 3).headD {}).load)).coreRelease c
      let s2 : State := { s1 with bootStep := 8, readyPin := true }
      if s2.boot.trial then s2.raise 1665 else s2
    | _, _ => s
  | _ => s

/-- DOMAIN_RELEASE (R434): the next step's condition holds, its PLL is locked and its gap has passed; a power-on reset ends with
step 1, a system reset with its hold (R430). `cal` holds the calibration of the
supplies that the step releases (R484). -/
def execDomainRelease (step : Nat) (cal : List Reading) (s : State) : Res :=
  let held := s.rstLevel != 0 && !(step == 1 && s.rstLevel == 2 && !s.thermtrip)
  .next <| if held ∨ step ≠ s.relStep + 1 ∨ 8 < step ∨ s.stepReady step = false then s
  else (({ (if 4 < step then s.calibrate cal else s) with relStep := step, rstLevel := 0 } : State).stepWork step)

/-! ### Clocks, rails and regulators (R435, R442, R443) -/

/-- LOCK_LOSS (R435): a domain loses PLL lock: a tamper response, a system reset, a core held in reset, a failed channel, or a block whose
section closes and whose reset is held. -/
def execLockLoss (d : ClockDom) (s : State) : Res :=
  .next <| match d with
  | .aon | .sp => ({ s with kek := [], keys := [], cphKeys := [] } : State).enterReset true 4
  | .macen | .mesh => s.systemReset 12
  | .core c =>
    if 120 ≤ c then s
    else
      let r := s.note (8 * 2 ^ 40 + c) day 0
      let s1 : State := { r.2 with unlocked := tset false r.2.unlocked c true }
      let s2 : State := if 2 ≤ r.1.length then { s1 with mac := { s1.mac with failed := tset 0 s1.mac.failed c 2 } } else s1
      s2.coreResetStep c
  | .chan ch =>
    if 16 ≤ ch then s
    else
      let u := 38 + ch
      (({ s with unlocked := tset false s.unlocked (200 + u) true } : State).unitDrain u).channelLost ch
  | .block u => if 84 ≤ u then s else ({ s with unlocked := tset false s.unlocked (200 + u) true } : State).unitDrain u
  | .ext => s

/-- PLL_RELOCK (R435): a core may be released again; another block's reset is released and its section opens. -/
def execPllRelock (d : ClockDom) (s : State) : Res :=
  .next <| match d with
  | .core c => { s with unlocked := tset false s.unlocked c false }
  | .block u =>
    if tget false s.unlocked (200 + u) = false then s
    else
      let s1 : State := { s with unlocked := tset false s.unlocked (200 + u) false }
      let s2 := (unitSecs u).foldl (fun (s : State) k => s.lidExpire (unitStop u).1 k) s1
      (s2.unitClear u).unitOpen u
  | .chan ch => { s with unlocked := tset false s.unlocked (238 + ch) false }
  | _ => s

/-- REGULATOR_FAULT (R442): regulators 0 to 119 are the core slots', 120 to 131 the mesh domain's phases, the rest the uncore's, whose
blocks `units` names. -/
def execRegulatorFault (reg : Nat) (units : List Nat) (s : State) : Res :=
  .next <| if 144 ≤ reg ∨ tget false s.regFailed reg then s
  else
    let s1 : State := { s with regFailed := tset false s.regFailed reg true }
    if reg < 120 then (s1.raise 1608).coreResetStep reg
    else if reg < 132 then
      let n := ((List.range 12).filter fun k => tget false s1.regFailed (120 + k)).length
      let s2 := s1.raise 1609
      if n = 1 then s2 else s2.systemReset 12
    else (units.filter fun u => decide (u < 84)).foldl (fun s u => s.unitDrain u) (s1.raise 1609)

/-- RAIL_NEAR_EDGE (R443): a rail within 2% of an edge of its window. -/
def execRailNearEdge (rail : Nat) (s : State) : Res := .next (if rail < 5 then s.raise (1610 + rail) else s)

/-- POWER_FAIL_WARNING (R275, R385): PFW_N passes its filter: its source pends and the streams that replicate begin their last gasp. -/
def execPowerFailWarning (s : State) : Res :=
  .next (if s.pfw then s else (({ s with pfw := true } : State).raise 1600).gaspStart)

/-- PFW_N_RELEASE (R486): PFW_N rises, and Macen starts what it deferred. A fence of the last gasp stands (R275). -/
def execPfwNRelease (s : State) : Res := .next (if s.pfw then ({ s with pfw := false } : State).goOn else s)

/-! ### P-states (R49, R50, R444, R445) and the throttle (R449) -/

/-- The P-state that a partition is to run at. -/
def State.pWanted (s : State) (p : Nat) : Nat := if s.fld RCP_PSTATE.THROTTLED p = 1 then 3 else s.fld RCP_PSTATE.TARGET p

/-- Start a change where one is wanted and none runs (R445): to a lower frequency the partition's cores stop first (R50), to a higher one they
run on while the voltage rises. -/
def State.pStart (s : State) (p : Nat) : State :=
  let goal := s.pWanted p
  let cur := s.fld RCP_PSTATE.CURRENT p
  if s.fld RCP_PSTATE.CHANGING p = 1 ∨ goal = cur then s
  else
    let s1 := ({ s with pGoal := tset 0 s.pGoal p goal } : State).setFld RCP_PSTATE.CHANGING p 1
    if goal < cur then s1 else { s1 with pStop := tset false s1.pStop p true }

/-- TARGET (R445): a write to RCP_PSTATE; a change that runs completes first. -/
def execTarget (ag : Agent) (p : Nat) (w : W) (s : State) : Res :=
  .next (s.onWrite ag .RCP_PSTATE p w fun s => if p < 16 then s.pStart p else s)

/-- The end of a change (R445): CHANGING clears, and a TARGET written meanwhile starts the next one. -/
def State.pEnd (s : State) (p : Nat) : State := ((s.setFld RCP_PSTATE.CHANGING p 0).pStart p).goOn

/-- PSTATE_CHANGE_DONE (R445, R50): the step of a change that runs is over. At a stop, relock and restart are, and the cores resume at the
new frequency, which ends a rise; before the stop of a rise and after that of a fall, the voltage ramp is. -/
def execPstateChangeDone (p : Nat) (s : State) : Res :=
  .next <| if 16 ≤ p ∨ s.fld RCP_PSTATE.CHANGING p = 0 then s
  else
    let goal := tget 0 s.pGoal p
    if tget false s.pStop p then
      let rise := goal < s.fld RCP_PSTATE.CURRENT p
      let s1 := ({ s with pStop := tset false s.pStop p false } : State).setFld RCP_PSTATE.CURRENT p goal
      if rise then s1.pEnd p else s1
    else
      let s1 := s.setFld RCP_PSTATE.VOLT_MV p (s.voltAt p goal)
      if s.fld RCP_PSTATE.CURRENT p = goal then s1.pEnd p else { s1 with pStop := tset false s1.pStop p true }

/-- The throttle begins. -/
def State.throttle (s : State) : State :=
  if s.fld RCP_THERMAL.THROTTLE 0 = 1 then s
  else
    let s1 := ((s.setFld RCP_THERMAL.THROTTLE 0 1).incSat RCP_THERMAL.THROTTLES 0).raise 1602
    (List.range 16).foldl (fun s p => (s.setFld RCP_PSTATE.THROTTLED p 1).pStart p) s1

/-- PROCHOT_N (R449): the pin has been low for 1 µs, which throttles, or is high again. -/
def execProchotN (low : Bool) (s : State) : Res :=
  let s1 := ({ s with prochotLow := low } : State).setFld RCP_THERMAL.PROCHOT 0 (b2n low)
  .next (if low && !s.prochotLow then (s1.raise 1601).throttle else s1)

/-- The hottest reading as RCP_THERMAL shows it. -/
def State.hottest (s : State) (sensor : Nat) (tj : Int) : State :=
  (s.setFld RCP_THERMAL.TJ_MAX 0 (tj % 256).toNat).setFld RCP_THERMAL.HOT_SENSOR 0 (sensor % 48)

/-- THROTTLE_ENTRY (R449): the hottest sensor reads `tj`, at least 110 °C. -/
def execThrottleEntry (sensor : Nat) (tj : Int) (s : State) : Res :=
  let s1 := s.hottest sensor tj
  .next (if 110 ≤ tj then s1.throttle else s1)

/-- THROTTLE_EXIT (R449): every sensor has read at most 105 °C for 10 ms, the hottest `tj`, and PROCHOT_N is high; the partitions return
to their TARGET. -/
def execThrottleExit (sensor : Nat) (tj : Int) (s : State) : Res :=
  let s1 := s.hottest sensor tj
  .next <| if s.fld RCP_THERMAL.THROTTLE 0 = 0 ∨ 105 < tj ∨ s.prochotLow then s1
  else (List.range 16).foldl (fun s p => (s.setFld RCP_PSTATE.THROTTLED p 0).pStart p)
    ((s1.setFld RCP_THERMAL.THROTTLE 0 0).raise 1603)

/-! ### Block power (R447) and idle (R446, R448) -/

/-- A power-down that is asked for and permitted begins: the section drains. -/
def State.downStart (s : State) (u : Nat) : State :=
  if s.fld RCP_BLOCK_CTL.PWR_ON u = 0 ∧ s.fld RCP_BLOCK_CTL.STATE u = 0 ∧ (votedUnit u = false ∨ s.votes = 0) then
    (s.setFld RCP_BLOCK_CTL.STATE u 1).unitDrain u
  else s

/-- What PWR_ON asks of a unit that is ON or OFF. -/
def State.powerAct (s : State) (u : Nat) : State :=
  if s.fld RCP_BLOCK_CTL.PWR_ON u = 1 ∧ s.fld RCP_BLOCK_CTL.STATE u = 2 then s.setFld RCP_BLOCK_CTL.STATE u 3 else s.downStart u

/-- PWR_ON (R447): a write to RCP_BLOCK_CTL powers a unit down through its Lid, or up. -/
def execPwrOn (ag : Agent) (u : Nat) (w : W) (s : State) : Res :=
  .next (s.onWrite ag .RCP_BLOCK_CTL u w fun s => if u < 84 then s.powerAct u else s)

/-- What a block loses with its power: a cluster its key cache, a port its link, a controller its links. The spec does not say that any other
block loses anything: DESIGN CHOICE (log 50), it keeps what it holds. -/
def State.powerLost (s : State) (u : Nat) : State :=
  if u = 22 ∨ u = 23 then s.cphGate (u - 22)
  else if 25 ≤ u ∧ u ≤ 32 then
    let p := u - 25
    if s.fld FAB_PORT_STATUS.STATE p = 0 then s
    else ((s.setPortState p 1).setFld FAB_PORT_STATUS.LANES p 0).portClear p
  else if 33 ≤ u ∧ u ≤ 36 then s.pcieDown (u - 33)
  else s

/-- POWER_GATE_DONE (R149, R447): the sections are CLOSED and the power is gated; a power-up that waited begins. A power-down that a vote
held back starts here once no vote stands. -/
def execPowerGateDone (u : Nat) (s : State) : Res :=
  .next <| if 84 ≤ u then s
  else if s.fld RCP_BLOCK_CTL.STATE u = 1 then
    (if s.unitClosed u then ((s.powerLost u).setFld RCP_BLOCK_CTL.STATE u 2).powerAct u else s)
  else s.downStart u

/-- POWER_UP_DONE (R447): the block is ON, its section opens and it begins its start-up: a cluster its self-tests (R344). -/
def execPowerUpDone (u : Nat) (s : State) : Res :=
  .next <| if 84 ≤ u ∨ s.fld RCP_BLOCK_CTL.STATE u ≠ 3 then s
  else
    let s1 := (s.setFld RCP_BLOCK_CTL.STATE u 0).unitOpen u
    let s2 := if u = 22 ∨ u = 23 then
      (if s1.fld CPH_STATUS.STATE (u - 22) = 3 then s1.cphResume (u - 22) else s1.setFld CPH_STATUS.STATE (u - 22) 1) else s1
    s2.downStart u

/-- CORE_POWER_GATE (R446): Macen gates a core that has been in WFI for longer than its partition's idle policy, once its L2 has written
back, every acknowledgement and answer has come (R116) and its section is CLOSED (R149); it wakes with cold caches. The hart that source
1,600 names is never gated. -/
def execCorePowerGate (c : Nat) (s : State) : Res :=
  let k := s.core c
  .next <| if k.run ≠ .wfi ∨ tget 0 s.mac.idle k.part = 0 ∨ s.coreHart c = s.fld EVR_SRC_CFG.HART 1600 ∨ (s.pairOf c).isSome ∨ k.sb ≠ [] then s
  else
    let s1 := (k.l2.map (·.1)).foldl (fun s l => s.evictL2 c l) s
    if (s1.core c).flushed = false ∨ k.reqs ≠ [] then s1
    else
      let node := tileNode (coreTile c)
      let s2 := (s1.lidDrain node (coreSlot c)).lidClose node (coreSlot c)
      if s2.lidState node (coreSlot c) ≠ 2 then s2
      else s2.onCore c fun k => { k.emptyTlbs with run := .gated, idle := .wfi, l1d := [], l1i := [], ras := [], loadq := [], bp := [] }

/-- PACKAGE_IDLE_ENTRY (R448): every core is in WFI or gated, PFW_N is high and no P-state change runs: the channels enter
self-refresh. -/
def execPackageIdleEntry (s : State) : Res :=
  let quiet := (List.range 120).all fun c => s.slotState c != 0 || (s.core c).run == .wfi || (s.core c).run == .gated
  let still := (List.range 16).all fun p => s.fld RCP_PSTATE.CHANGING p == 0
  .next <| if quiet = false ∨ s.pfw ∨ still = false then s
  else (List.range 16).foldl (fun s ch =>
    if s.fld MCT_CH_STATUS.STATE ch = 2 ∧ (s.chan ch).reads = [] then (s.mcDrain ch).setFld MCT_CH_STATUS.STATE ch 3 else s)
      { s with pkgIdle := true }

/-- PACKAGE_IDLE_EXIT (R448): an interrupt or an inbound request ends package idle. -/
def execPackageIdleExit (s : State) : Res :=
  .next <| if s.pkgIdle then (List.range 16).foldl (fun s ch => s.mcWake ch) { s with pkgIdle := false } else s

/-! ### Watchdogs (R451, R452, R506 to R508) -/

/-- Whether a watchdog is frozen by a debug halt: only a partition's, with its FREEZE bit. -/
def State.wdogFrozen (s : State) (w : Nat) : Bool := decide (w < 16) && s.fld TMR_WDOG.FREEZE w == 1 && s.halted w

/-- KICK (R452): a write to a TMR_WDOG: EN and PERIOD_MS, and 0x4B43 in KICK, which reloads the count. Enabling a watchdog loads it, and
with EN 0 the count reads 0. -/
def execKick (ag : Agent) (wd : Nat) (w : W) (s : State) : Res :=
  let was := s.fld TMR_WDOG.EN wd
  .next <| s.onWrite ag .TMR_WDOG wd w fun s =>
    let en := s.fld TMR_WDOG.EN wd
    if en = 0 then s.setFld TMR_WDOG.REMAIN_MS wd 0
    else if was = 0 ∨ field w 31 16 = 0x4B43 then s.wdogLoad wd (s.fld TMR_WDOG.PERIOD_MS wd)
    else s

/-- WATCHDOG_HALF (R451): a watchdog reaches half its period. -/
def execWatchdogHalf (wd : Nat) (s : State) : Res :=
  .next <| if 16 < wd ∨ s.fld TMR_WDOG.EN wd = 0 ∨ s.wdogFrozen wd then s
  else (s.wdogLoad wd ((s.fld TMR_WDOG.PERIOD_MS wd + 1) / 2)).raise (if wd = 16 then 1296 else 1280 + wd)

/-- WATCHDOG_EXPIRY (R452): a watchdog reaches 0: a partition reset with cause 1, or a system reset with cause 10. -/
def execWatchdogExpiry (wd : Nat) (s : State) : Res :=
  .next <| if 16 < wd ∨ s.fld TMR_WDOG.EN wd = 0 ∨ s.wdogFrozen wd then s
  else
    let s1 := s.setFld TMR_WDOG.REMAIN_MS wd 0
    if wd = 16 then (if s.relStep < 3 then s else s1.systemReset 10) else s1.partStart wd 1

end Sys2Proof.Machine
end

