-- ==== Sys2Proof/Machine/Counters.lean ====
section
/-! DEFINITION. Performance counters and the Ladle (chapter 22): what a tick latches, and the records it leaves in a partition's ring. -/

namespace Sys2Proof.Machine

open Sys2Proof

/-- A write to LDL_PART_CFG (R525): EN written 1 starts SEQ anew. -/
def State.ladleCfg (s : State) (ag : Agent) (p : Nat) (w : W) : State :=
  s.onWrite ag .LDL_PART_CFG p w fun s =>
    if bit w 63 then
      ({ s with ldl := { s.ldl with since := tset 0 s.ldl.since p (s.dtime + 1), skipped := tset 0 s.ldl.skipped p 0 } } : State).setFld
        LDL_PART_STATUS.LAST_SEQ p 0
    else s

/-- The counters of a core slot in record order: mcycle, minstret and mhpmcounter3 to 8 (R524). -/
def slotCounters : List Nat := [0, 2, 3, 4, 5, 6, 7, 8]

/-- The counters behind a mask bit, by their keys in the shadows (R524): 8 of the slot that holds a hart, 4 of a cipher cluster, 8 of any
other unit. Shadow keys of harts stand beyond every counter's. -/
def setKeys (b : Nat) : List Nat :=
  if b < 96 then (List.range 8).map fun k => 4096 + b * 8 + k
  else if b = 146 ∨ b = 147 then (List.range 4).map fun k => cuCph (b - 146) * 8 + k
  else
    let u := if b < 120 then cuTile (b - 96) else if b < 136 then cuCh (b - 120) else if b < 144 then cuPort (b - 136)
      else if b = 144 then cuSpn else if b = 145 then cuJrn else cuPcie (b - 148)
    (List.range 8).map fun k => u * 8 + k

/-- What a counter set latches (R525): a hart that holds no slot, or whose slot is in reset, latches zeros. -/
def State.latchOf (s : State) (b : Nat) : List (Nat × Nat) :=
  if b < 96 then
    let vals := match s.hartCore b with
      | some c => if (s.core c).run = .held then List.replicate 8 0 else slotCounters.map fun k => tget 0 s.cnt (coreCntKey c k)
      | none => List.replicate 8 0
    (setKeys b).zip vals
  else (setKeys b).map fun k => (k, tget 0 s.cnt k)

/-- The mask of a partition's Ladle. -/
def State.ladleMask (s : State) (p : Nat) : Nat :=
  (List.range 4).foldl (fun m w => m + (s.rd .LDL_PART_MASK (4 * p + w)).toNat * 2 ^ (64 * w)) 0

/-- The counter sets that a mask names, in record order. -/
def maskSets (m : Nat) : List Nat := (List.range 152).filter fun b => m.testBit b

/-- The bytes of a record with `n` entries (R526). -/
def recordLen (n : Nat) : Nat := (64 + 8 * n + 63) / 64 * 64

/-- Whether the Ladle makes no record of a partition now (R506, R527). -/
def State.ladleHeld (s : State) (p : Nat) : Bool :=
  (s.fld DBG_FREEZE.LADLE 0 == 1 && s.halted p) || s.lidState (unitStop 79).1 ((unitStop 79).2.getD 0) != 0

/-- Gather the shadows of the ticks that wait, in partition order (R526, R527): each becomes a staged record, or is counted as
skipped where the 64 KiB of staging cannot hold it. -/
def State.ladleGather (s : State) : State :=
  s.ldl.waits.foldl (fun s e =>
    let keys := (maskSets e.2.2.1).flatMap setKeys
    let used := (s.ldl.staged.map fun r => recordLen r.2.2.2.2.length).sum
    if keys = [] then s
    else if s.ladleHeld e.1 ∨ 65536 < used + recordLen keys.length then
      { s with ldl := { s.ldl with skipped := tset 0 s.ldl.skipped e.1 (Nat.min (2 ^ 32 - 1) (tget 0 s.ldl.skipped e.1 + 1)) } }
    else
      let vals := keys.map fun k => let v := tget 0 s.ldl.shadow k; v % 2 ^ 48 + v / 2 ^ 48 * 2 ^ 63
      { s with ldl := { s.ldl with staged := s.ldl.staged ++ [(e.1, e.2.1, e.2.2.1, e.2.2.2, vals)] } })
    { s with ldl := { s.ldl with waits := [] } }

/-- LADLE_TICK (R525): DTIME is a multiple of a period: every unit named by a partition that ticks copies its counters into its
shadow. -/
def execLadleTick (s0 : State) : Res :=
  .next <| if s0.ldl.lastT = s0.dtime + 1 then s0
  else
    let s := s0.ladleGather
    let t := s.dtime
    let ps := (List.range 16).filter fun p =>
      let d := s.fld LDL_PART_CFG.PERIOD_US p * 1000
      s.fld LDL_PART_CFG.EN p == 1 && decide (t % d = 0) && tget 0 s.ldl.since p != t + 1
    if ps = [] then s0
    else
      let sets := ((ps.map fun p => maskSets (s.ladleMask p)).flatten).eraseDups
      let shadow := sets.foldl (fun sh b => (s.latchOf b).foldl (fun sh e => tset 0 sh e.1 e.2) sh) s.ldl.shadow
      { s with ldl := { s.ldl with
          shadow := shadow, lastT := t + 1,
          waits := ps.map fun p => (p, t, s.ladleMask p, s.fld LDL_PART_CFG.PERIOD_US p) } }

/-- The bytes of a record (R526). -/
def ladleBytes (p seq t skipped period mask : Nat) (vals : List Nat) : List Byte :=
  leBytes 4 0x4C444C52 ++ leBytes 2 vals.length ++ leBytes 1 p ++ leBytes 1 0 ++ leBytes 8 seq ++ leBytes 8 t ++ leBytes 4 skipped ++
    leBytes 4 period ++ leBytes 32 mask ++ vals.flatMap (leBytes 8)

/-- The partition to which the World Table gives a DRAM address (R353). -/
def State.wtOwner (s : State) (pa : Nat) : Option Nat :=
  if s.isDram pa = false ∨ s.fld WPC_CFG.WT_EN 0 = 0 ∨ pa / 2 ^ 22 = s.fld WPC_CFG.WT_BASE 0 then none
  else
    let b := s.curNat (s.fld WPC_CFG.WT_BASE 0 * 2 ^ 22 + pa / 2 ^ 21) 1
    if b.testBit 7 && !b.testBit 4 then some (b % 16) else none

/-- LADLE_RECORD (R526, R528): what waits is gathered, and the oldest staged record is written into its partition's ring, its entries
first and its header last. A ring that the World Table refuses, or that is too small for a record, clears EN with RING_ERR and record
LADLE_RING_DENIED. -/
def execLadleRecord (s0 : State) : Res :=
  let s := s0.ladleGather
  .next <| match s.ldl.staged with
  | [] => s
  | (p, t, mask, period, vals) :: rest =>
    let len := recordLen vals.length
    let lg := s.fld LDL_PART_CFG.SIZE_LOG2 p
    let base := s.fld LDL_PART_CFG.BASE p * 4096
    let seq := s.fld LDL_PART_STATUS.LAST_SEQ p + 1
    let a := base + (seq - 1) % (2 ^ lg / len) * len
    if 2 ^ lg < len ∨ s.wtOwner a ≠ some p ∨ s.wtOwner (a + len - 1) ≠ some p then
      let s1 : State := { s with ldl := { s.ldl with staged := rest.filter fun e => e.1 != p } }
      ((s1.setFld LDL_PART_CFG.EN p 0).setFld LDL_PART_STATUS.RING_ERR p 1).logErr 47 p 1 0xD00 base
    else
      let bs := ladleBytes p seq t (tget 0 s.ldl.skipped p) period mask vals
      let s1 : State := { s with ldl := { s.ldl with staged := rest, skipped := tset 0 s.ldl.skipped p 0 } }
      let s2 := (s1.agentWriteBytes (a + 64) (bs.drop 64) false).agentWriteBytes a (bs.take 64) false
      s2.setFld LDL_PART_STATUS.LAST_SEQ p (seq % 2 ^ 48)

end Sys2Proof.Machine
end

