-- ==== Sys2Proof/Machine/Macen.lean ====
section
/-! DEFINITION. The Macen management interface (chapter 19): the mailbox pages, their commands and operations, the error collector's
records, Macen restarts and the SMBus sideband. -/

namespace Sys2Proof.Machine

open Sys2Proof

/-! ### Pages (R454 to R458) -/

/-- `n` bytes of a page's request area. -/
def Page.reqBytes (p : Page) (off n : Nat) : List Byte := (List.range n).map fun i => tget 0 p.req (off + i)

/-! ### The commands of R465 -/

/-- A row of R465: code, feature bit, the pages that may issue it (1 P, 2 F, 4 S, 8 B), whether it completes as an operation, and the
length of its request payload (0x10000 where it depends on a count). -/
structure MbxRow where
  code : Nat
  feat : Nat
  pages : Nat
  op : Bool
  len : Nat
  deriving DecidableEq, Repr

def mbxRows1 : List MbxRow :=
  [⟨0x0001, 0, 15, false, 0⟩, ⟨0x0002, 0, 15, false, 32⟩, ⟨0x0003, 0, 15, false, 4⟩, ⟨0x0004, 0, 15, false, 0⟩,
   ⟨0x1001, 1, 13, false, 2⟩, ⟨0x1002, 1, 13, false, 1⟩, ⟨0x1003, 1, 5, true, 3⟩, ⟨0x1004, 1, 5, false, 8⟩,
   ⟨0x1005, 1, 13, false, 0⟩, ⟨0x1101, 2, 15, false, 10⟩, ⟨0x1201, 3, 12, false, 0⟩, ⟨0x1202, 3, 12, false, 4⟩,
   ⟨0x1203, 3, 4, true, 2⟩, ⟨0x1301, 4, 5, true, 2⟩, ⟨0x1302, 4, 4, false, 1⟩, ⟨0x1303, 4, 13, false, 1⟩,
   ⟨0x1401, 5, 4, true, 13⟩, ⟨0x1402, 5, 4, true, 12⟩]

def mbxRows2 : List MbxRow :=
  [⟨0x1501, 6, 6, false, 0x10000⟩, ⟨0x1502, 6, 6, false, 16⟩, ⟨0x1503, 6, 14, false, 1⟩, ⟨0x1504, 6, 6, false, 8⟩,
   ⟨0x1601, 7, 6, false, 24⟩, ⟨0x1602, 7, 6, true, 8⟩, ⟨0x1603, 7, 6, false, 1⟩, ⟨0x1604, 7, 6, false, 56⟩,
   ⟨0x1605, 7, 6, false, 1⟩, ⟨0x1606, 7, 14, false, 2⟩, ⟨0x1701, 8, 5, false, 48⟩, ⟨0x1801, 9, 12, true, 0x10000⟩,
   ⟨0x0201, 9, 12, true, 4⟩, ⟨0x0202, 10, 12, false, 0⟩, ⟨0x0203, 9, 4, false, 1⟩, ⟨0x0401, 11, 15, true, 32⟩,
   ⟨0x1A01, 12, 15, false, 0⟩, ⟨0x1A02, 12, 12, false, 8⟩]

def mbxRows : List MbxRow := mbxRows1 ++ mbxRows2

/-- The kind of a page in R465's Pages column. -/
def pageBit (n : Nat) : Nat := if n < 16 then 1 else if n = 16 then 2 else if n = 17 then 4 else 8

def MbxRow.may (r : MbxRow) (n : Nat) : Bool := r.pages / pageBit n % 2 == 1

/-- The mask that a page is offered (R461). -/
def offered (n : Nat) : Nat := (mbxRows.filter fun r => r.may n).foldl (fun m r => m ||| 2 ^ r.feat) 0

/-- A payload field, 0 beyond the payload. -/
def pl (p : List Byte) (off n : Nat) : Nat := ofLeBytes ((p.drop off).take n)

/-- The request payload length that a command takes (R465); a count that is out of its range takes none. -/
def MbxRow.wants (r : MbxRow) (p : List Byte) : Option Nat :=
  if r.len < 0x10000 then some r.len
  else if r.code = 0x1501 then (let k := pl p 2 2; if 1 ≤ k ∧ k ≤ 3581 then some (4 + 8 * k) else none)
  else let k := pl p 8 4; if 1 ≤ k ∧ k ≤ 16384 then some (12 + k) else none

/-- The unit of R357 behind a bit of a Ladle mask from 96 on (R524). -/
def maskUnit (b : Nat) : Option Nat :=
  if b < 96 then none else if b < 120 then some (54 + (b - 96)) else if b < 136 then some (38 + (b - 120))
  else if b < 144 then some (25 + (b - 136)) else if b = 144 then some 20 else if b = 145 then some 21
  else if b < 148 then some (22 + (b - 146)) else if b < 152 then some (33 + (b - 148)) else none

/-- Whether a page may issue a command on what it names (R466, R524). -/
def State.inScope (s : State) (n : Nat) (r : MbxRow) (p : List Byte) : Bool :=
  if 16 ≤ n then true
  else if r.code = 0x1003 then s.owner (pl p 0 2) == some n && decide (pl p 0 2 < 84)
  else if r.code ∈ [0x1001, 0x1002, 0x1004, 0x1301, 0x1303] then pl p 0 1 == n
  else if r.code = 0x1701 then
    pl p 0 1 == n && (List.range 152).all fun b =>
      !(pl p 16 32).testBit b ||
      (match maskUnit b with
       | some u => s.owner u == some 16 || s.owner u == some n
       | none => s.ownsHart n b)
  else true

/-- The checks of R459 on a request in their order: the STATUS of the first that fails, or 0. Check 7 applies to a command that would
start an operation. -/
def State.mbxCheck (s : State) (n code tag len gen : Nat) (p : List Byte) : Nat :=
  if tag = 0 then 2
  else match mbxRows.find? fun r => r.code == code with
    | none => 4
    | some r =>
      if 28656 < len ∨ r.wants p ≠ some len then 3
      else if code ≠ 1 ∧ code ≠ 2 ∧ gen ≠ s.fld MBX_STATUS.GENERATION n then 8
      else if (s.page n).mask.testBit r.feat = false then 4
      else if r.may n = false ∨ s.inScope n r p = false then 5
      else if r.op ∧ !(code = 0x1301 && decide (n < 16)) ∧ 4 ≤ (s.page n).ops.length then 6
      else 0

/-- The completion source of a page; the sideband page has none (R471). -/
def State.pageSource (s : State) (n : Nat) : State := if n < 18 then s.raise (1472 + n) else s

/-- A RING (R457 to R459). -/
def State.ring (s : State) (n : Nat) : State :=
  let p := s.page n
  let st := s.fld MBX_STATUS.STATE n
  let f := fun o k => ofLeBytes (p.reqBytes o k)
  let tag := f 2 2
  if st = 1 then s.setFld MBX_STATUS.OVERRUN n 1
  else if st = 2 ∧ tag = s.fld MBX_STATUS.TAG n then (s.setFld MBX_STATUS.DUP n 1).pageSource n
  else
    let len := f 4 4
    let pay := p.reqBytes 16 (Nat.min len 28656)
    let chk := s.mbxCheck n (f 0 2) tag len (f 10 2) pay
    let m : MbxCmd := { code := f 0 2, tag := tag, payload := pay, res := if chk = 0 then none else some (chk, 0, []) }
    let s1 := s.setPage n { p with cur := some m, rsp := [] }
    ((s1.setFld MBX_STATUS.STATE n 1).setFld MBX_STATUS.TAG n tag).setFld MBX_STATUS.STATUS n 1

/-- An ACK (R457): a DONE page's response is cleared. -/
def State.ack (s : State) (n : Nat) : State :=
  match s.fld MBX_STATUS.STATE n with
  | 1 => s.setFld MBX_STATUS.OVERRUN n 1
  | 2 =>
    let s1 := s.setPage n { s.page n with cur := none, rsp := [] }
    ((s1.setFld MBX_STATUS.STATE n 0).setFld MBX_STATUS.TAG n 0).setFld MBX_STATUS.STATUS n 0
  | _ => s

/-- RING (R457): a write to MBX_DOORBELL with CMD RING. -/
def execRing (ag : Agent) (n : Nat) (w : W) (s : State) : Res :=
  .next <| s.onWrite ag .MBX_DOORBELL n w fun s => if n < 18 ∧ field w 1 0 = 1 then s.ring n else s

/-- MBX_ACK (R457): a write to MBX_DOORBELL with CMD ACK. -/
def execMbxAck (ag : Agent) (n : Nat) (w : W) (s : State) : Res :=
  .next <| s.onWrite ag .MBX_DOORBELL n w fun s => if n < 18 ∧ field w 1 0 = 2 then s.ack n else s

/-! ### Running commands -/

/-- The running command of a page gets its result. -/
def State.result (s : State) (n : Nat) (a : Ans) : State :=
  match (s.page n).cur with
  | some m => s.setPage n { s.page n with cur := some { m with res := some a } }
  | none => s

/-- Run an at-once command of a page: the command that it holds, if it is this one and passed its checks. -/
def State.mbxRun (s : State) (n code : Nat) (f : List Byte → State → Ans × State) : State :=
  match (s.page n).cur with
  | some m =>
    if m.code = code ∧ m.res.isNone then
      let r := f m.payload s
      r.2.result n r.1
    else s
  | none => s

/-- A query: the payload alone decides the answer. -/
def State.mbxAsk (s : State) (n code : Nat) (f : List Byte → Ans) : State := s.mbxRun n code fun p s => (f p, s)

/-- The answers that need no payload. -/
def badLength : Ans := (3, 0, [])
def denied : Ans := (5, 0, [])
def noResource : Ans := (6, 0, [])
def okWith (bs : List Byte) : Ans := (0, 0, bs)

/-- Eight bytes of a register as Macen reads it. -/
def State.regBytes (s : State) (r : RegId) (i : Nat) : List Byte := leBytes 8 (s.regRead r i none).toNat

/-- Macen's write of a register for a command, made for the world that it serves: it fails where the register's block is behind a Lid
that is not open. -/
def State.macSet (s : State) (r : RegId) (i : Nat) (w : W) : Bool × State :=
  match odcStop (regAddr r i) with
  | (node, some k) => if s.lidState node k = 0 then (true, s.regWrite r i w) else (false, s)
  | (_, none) => (true, s.regWrite r i w)

/-- An answer after a write through a register's own row: what the device answered, then a payload. -/
def State.after (s : State) (bs : State → List Byte) : Ans × State :=
  if s.rsp.status = 0 then (okWith (bs s), s) else if s.rsp.status = 1 then ((7, 0, []), s) else (denied, s)

/-- A page's operation count as MBX_STATUS shows it. -/
def State.setOps (s : State) (n : Nat) (ops : List MbxOp) : State :=
  (s.setPage n { s.page n with ops := ops }).setFld MBX_STATUS.OPS n ops.length

/-- Start an operation of a page (R460): IN_PROGRESS with its OP_ID in DETAIL. -/
def State.opStart (s : State) (n code : Nat) (p : List Byte) (begun : Bool) (res : Option Ans) : Ans × State :=
  let id := s.mac.nextOp
  let s1 : State := { s with mac := { s.mac with nextOp := id + 1 } }
  ((9, id, []), s1.setOps n ((s1.page n).ops ++ [{ id := id, code := code, payload := p, begun := begun, res := res }]))

/-- COMMAND_FINISHED (R457): a running command that has its result: the whole response becomes visible and the completion source is
raised. PSTATE_SET has it only once CHANGING reads 0 (R465). -/
def execCommandFinished (n : Nat) (s : State) : Res :=
  .next <| match (s.page n).cur with
  | none => s
  | some m =>
    match s.fld MBX_STATUS.STATE n, m.res with
    | 1, some (st, det, bs) =>
      let part := pl m.payload 0 1
      if m.code = 0x1001 ∧ st = 0 ∧ s.fld RCP_PSTATE.CHANGING part = 1 then s
      else
        let bs := if m.code = 0x1001 ∧ st = 0 then s.regBytes .RCP_PSTATE part else bs
        let s1 := s.setPage n { s.page n with cur := none, rsp := s.rspHeader n m.code m.tag bs.length st det ++ bs }
        ((s1.setFld MBX_STATUS.STATE n 2).setFld MBX_STATUS.STATUS n st).pageSource n
    | _, _ => s

/-! ### Features, versions and operations (R460, R461) -/

/-- FEATURES_GET (R461). -/
def execFeaturesGet (n : Nat) (s : State) : Res :=
  .next <| s.mbxAsk n 0x0001 fun _ => okWith (leBytes 32 (offered n) ++ leBytes 32 (s.page n).mask)

/-- FEATURES_SET (R461). -/
def execFeaturesSet (n : Nat) (s : State) : Res :=
  .next <| s.mbxRun n 0x0002 fun p s =>
    let m := (ofLeBytes p &&& offered n) ||| 1
    (okWith (leBytes 32 m), s.setPage n { s.page n with mask := m })

/-- OP_STATUS (R460): an operation of this page; one that is DONE is freed. -/
def execOpStatus (n : Nat) (s : State) : Res :=
  .next <| s.mbxRun n 0x0003 fun p s =>
    let id := pl p 0 4
    let rsp := fun (st fin det : Nat) (bs : List Byte) =>
      okWith (leBytes 4 id ++ leBytes 2 st ++ leBytes 2 fin ++ leBytes 4 det ++ leBytes 4 0 ++ bs)
    match (s.page n).ops.find? fun o => o.id == id with
    | none => (rsp 0 0 0 [], s)
    | some o =>
      match o.done, o.res with
      | true, some (st, det, bs) => (rsp 2 st det bs, s.setOps n ((s.page n).ops.filter fun q => q.id != id))
      | _, _ => (rsp 1 9 0 [], s)

/-- VERSION (R465). -/
def execVersion (n : Nat) (s : State) : Res :=
  .next <| s.mbxAsk n 0x0004 fun _ => okWith (leBytes 8 Config.macenVersion ++ leBytes 8 s.boot.seq ++ leBytes 2 1)

/-! ### Power (R465, R466) -/

/-- PSTATE_SET: TARGET is written; the command finishes once CHANGING reads 0. -/
def execPstateSet (n : Nat) (s : State) : Res :=
  .next <| s.mbxRun n 0x1001 fun p s =>
    let part := pl p 0 1
    if 16 ≤ part ∨ 4 ≤ pl p 1 1 then (badLength, s)
    else (okWith [], (s.setFld RCP_PSTATE.TARGET part (pl p 1 1)).pStart part)

/-- PSTATE_GET. -/
def execPstateGet (n : Nat) (s : State) : Res :=
  .next <| s.mbxAsk n 0x1002 fun p => if 16 ≤ pl p 0 1 then badLength else okWith (s.regBytes .RCP_PSTATE (pl p 0 1))

/-- BLOCK_POWER: PWR_ON of a unit is written; a unit whose PWR_ON is fixed is refused. -/
def execBlockPower (n : Nat) (s : State) : Res :=
  .next <| s.mbxRun n 0x1003 fun p s =>
    let u := pl p 0 2
    let on := pl p 2 1
    if 84 ≤ u ∨ 2 ≤ on then (badLength, s)
    else if s.locked RCP_BLOCK_CTL.PWR_ON u 0 then (denied, s)
    else ((s.setFld RCP_BLOCK_CTL.PWR_ON u on).powerAct u).opStart n 0x1003 p true none

/-- IDLE_POLICY: the WFI time before power gating. -/
def execIdlePolicy (n : Nat) (s : State) : Res :=
  .next <| s.mbxRun n 0x1004 fun p s =>
    let t := pl p 4 4
    if 16 ≤ pl p 0 1 ∨ (t ≠ 0 ∧ (t < 100 ∨ 1000000 < t)) then (badLength, s)
    else (okWith [], { s with mac := { s.mac with idle := tset 0 s.mac.idle (pl p 0 1) t } })

/-- POWER_READ: package power in mW and the currents of the five rails in mA, as measured. -/
def execPowerRead (n : Nat) (mw : List Nat) (s : State) : Res :=
  .next <| s.mbxAsk n 0x1005 fun _ =>
    okWith ((List.range 6).flatMap (fun i => leBytes 4 (mw.getD i 0)) ++ leBytes 1 (s.fld RCP_THERMAL.TJ_MAX 0))

/-! ### Records, spares and ageing (R466, R483, R486) -/

/-- The record codes whose unit is a core slot of a tile (R143, R215, R367, R494), and those whose address is a physical address. -/
def coreSlotCodes : List Nat :=
  [0x101, 0x102, 0x103, 0x105, 0x106, 0x300, 0x301, 0x302, 0x303, 0x304, 0x305, 0x306, 0x800, 0xB00, 0xB01]
def physCodes : List Nat :=
  [0x101, 0x102, 0x103, 0x104, 0x105, 0x106, 0x405, 0x500, 0x501, 0x503, 0x505, 0x508, 0x602, 0x612, 0x701, 0x702, 0x703, 0x800, 0xB01]

/-- Whether ERRLOG_READ returns a record to a page (R466). -/
def State.recordScope (s : State) (n : Nat) (r : ErrRec) : Bool :=
  if 17 ≤ n then true
  else if n = 16 then decide (0x200 ≤ r.code ∧ r.code ≤ 0x2FF) || decide (0x400 ≤ r.code ∧ r.code ≤ 0x4FF)
  else
    (match nodeTile r.source with
     | some t => coreSlotCodes.contains r.code && decide (r.unit < 5) && decide (s.coreHart (5 * t + r.unit) < 96) &&
         s.ownsHart n (s.coreHart (5 * t + r.unit))
     | none => false) ||
    (physCodes.contains r.code && s.wtOwner r.addr == some n)

/-- ERRLOG_READ: the records held from a sequence number on, within the page's scope. -/
def execErrlogRead (n : Nat) (s : State) : Res :=
  .next <| s.mbxAsk n 0x1101 fun p =>
    let first := pl p 0 8
    let want := pl p 8 2
    if want = 0 ∨ 1000 < want then badLength
    else
      let last := s.fld ERC_STATUS.LAST_SEQ 0
      let oldest := Nat.max 1 (last - 4095)
      let from_ := Nat.max first oldest
      let held := (List.range (last + 1 - from_)).map fun i => tget {} s.records ((from_ + i) % 4096)
      let rs := (held.filter fun r => s.recordScope n r).take want
      (0, if 0 < last then oldest - Nat.max 1 first else 0,
        leBytes 2 rs.length ++ leBytes 6 0 ++ rs.flatMap ErrRec.bytes)

/-- SPARES_GET: the spare inventory. -/
def execSparesGet (n : Nat) (s : State) : Res :=
  .next <| s.mbxAsk n 0x1201 fun _ =>
    okWith ((List.range 24).flatMap (fun t => s.regBytes .TILE_CORE_MAP t) ++
      (List.range 16).map (fun ch => BitVec.ofNat 8 (s.fld MCT_CH_STATUS.SPARE ch)) ++
      (List.range 8).map (fun p => BitVec.ofNat 8 (s.fld FAB_PORT_STATUS.SPARE_USE p)) ++ leBytes 2 s.logFree.length)

/-- A monitor's 8 bytes (R483). -/
def State.monBytes (s : State) (i : Nat) : List Byte :=
  let m := s.mon i
  let g := s.guard (monSupply i)
  let st := if s.monOn i = false then 3 else if m.slack < 15 ∧ g = 10 then 2 else if m.slack < 25 then 1 else 0
  leBytes 2 (m.slack % 65536).toNat ++ leBytes 2 (m.boot % 65536).toNat ++ leBytes 1 (m.tj % 256).toNat ++ leBytes 1 g ++
    leBytes 1 st ++ leBytes 1 0

/-- AGEING_GET (R483). -/
def execAgeingGet (n : Nat) (s : State) : Res :=
  .next <| s.mbxAsk n 0x1202 fun p =>
    let first := pl p 0 2
    let k := pl p 2 2
    if k = 0 ∨ 580 < first + k then badLength
    else okWith ((List.range k).flatMap fun i => s.monBytes (first + i))

/-- Macen takes up a CORE_SWAP when its tile runs no other repair (R485, R486): the new swap, or none where the spare or the slot named
cannot take the role. -/
def State.swapBegin (s : State) (p : List Byte) : Option State :=
  match s.hartCore (pl p 0 1) with
  | none => none
  | some c =>
    let t := coreTile c
    let new := if pl p 1 1 = 0xFF then s.spareOf t else if s.slotState (5 * t + pl p 1 1) = 1 then some (pl p 1 1) else none
    new.map fun m => s.setSwap t { phase := if s.swapMay t (coreSlot c) then 2 else 1, old := coreSlot c, new := m, why := 2 }

/-- CORE_SWAP (R486): starts a live core swap into the tile's spare, or the slot named. -/
def execCoreSwap (n : Nat) (s : State) : Res :=
  .next <| s.mbxRun n 0x1203 fun p s =>
    let h := pl p 0 1
    if 96 ≤ h ∨ (5 ≤ pl p 1 1 ∧ pl p 1 1 ≠ 0xFF) then (badLength, s)
    else if (s.swapOf (h / 4)).phase ≠ 0 then s.opStart n 0x1203 p false none
    else match s.swapBegin p with
      | none => (noResource, s)
      | some s1 => s1.opStart n 0x1203 p true none

/-! ### Partitions and the World Table (R467) -/

/-- PART_RESET: on the caller's own partition it completes as the reset starts; from page 17 it is an operation. -/
def execPartReset (n : Nat) (s : State) : Res :=
  .next <| s.mbxRun n 0x1301 fun p s =>
    let part := pl p 0 1
    if 16 ≤ part ∨ 2 ≤ pl p 1 1 then (badLength, s)
    else if s.fld WPC_PART_CTL.STATE part ≠ 0 then (denied, s)
    else
      let s1 := (s.setFld WPC_PART_CTL.HOLD part (pl p 1 1)).partStart part 3
      if n < 16 then (okWith (s1.regBytes .WPC_PART_CTL part), s1) else s1.opStart n 0x1301 p true none

/-- HART_RELEASE: refused unless the hart's slot is held in reset. -/
def execHartRelease (n : Nat) (s : State) : Res :=
  .next <| s.mbxRun n 0x1302 fun p s =>
    if 96 ≤ pl p 0 1 then (badLength, s)
    else match s.hartCore (pl p 0 1) with
      | none => (denied, s)
      | some c =>
        let s1 := s.coreRelease c
        if (s.core c).run = .held ∧ (s1.core c).run ≠ .held then (okWith [], s1) else (denied, s)

/-- PART_STATUS: WPC_PART_CTL and the partition's harts. -/
def execPartStatus (n : Nat) (s : State) : Res :=
  .next <| s.mbxAsk n 0x1303 fun p =>
    let part := pl p 0 1
    if 16 ≤ part then badLength
    else
      let m := (List.range 96).foldl (fun m h => if s.hartPart1 h = part then m + 2 ^ h else m) 0
      okWith (s.regBytes .WPC_PART_CTL part ++ leBytes 12 m)

/-- The smallest aligned power-of-two range that covers `[a, b)`: its SIZE_LOG2. -/
def coverLog (a b : Nat) : Nat → Nat
  | 0 => 48
  | k + 1 =>
    let n := 47 - k
    if a / 2 ^ n = (b - 1) / 2 ^ n then n else coverLog a b k

/-- Macen starts a sync of a range (R356 steps 2 and 3), unless one runs. -/
def State.syncStart (s : State) (a b : Nat) : Bool × State :=
  if s.fld WPC_SYNC.BUSY 0 = 1 then (false, s)
  else
    let k := coverLog a b 27
    let base := a - a % 2 ^ k
    let s1 := (s.setFld WPC_SYNC.SIZE_LOG2 0 k).setFld WPC_SYNC.BASE 0 (base / 2 ^ 21)
    (true, ((s1.dropOwnership base (2 ^ k)).setFld WPC_SYNC.BUSY 0 1).setFld WPC_SYNC.DONE 0 0)

/-- The first `k` World Table bytes of a WT_ASSIGN are written. -/
def State.wtAssign (s : State) (p : List Byte) (k : Nat) : State :=
  s.agentWriteBytes (s.fld WPC_CFG.WT_BASE 0 * 2 ^ 22 + pl p 0 8 / 2 ^ 21) (List.replicate (Nat.min k (pl p 8 4)) (BitVec.ofNat 8 (pl p 12 1))) true

/-- The range of physical addresses behind an entry of WPC_OWNER whose change calls for a sync (R356): a block or an aperture. -/
def ownerRange (i : Nat) : Option (Nat × Nat) :=
  if i < 128 then some (0xFE0000000000, 0xFE0100000000)
  else if 2336 ≤ i then some (0x080000000000 + (i - 2336) * 0x80000000, 0x080000000000 + (i - 2335) * 0x80000000)
  else none

/-- WT_ASSIGN: the bytes are written, and the operation finishes when the sync of the range is done. -/
def execWtAssign (n : Nat) (s : State) : Res :=
  .next <| s.mbxRun n 0x1401 fun p s =>
    let pa := pl p 0 8
    let k := pl p 8 4
    if pa % 2 ^ 21 ≠ 0 ∨ k = 0 ∨ 4194304 < k ∨ 2 ^ 43 < pa + k * 2 ^ 21 ∨ pl p 12 1 / 32 % 4 ≠ 0 then (badLength, s)
    else if s.isDram (s.fld WPC_CFG.WT_BASE 0 * 2 ^ 22) = false then (denied, s)
    else
      let r := (s.wtAssign p k).syncStart pa (pa + k * 2 ^ 21)
      r.2.opStart n 0x1401 p r.1 none

/-- OWNER_SET: the entry is written; where R356 calls for a sync the operation finishes when it is done. -/
def execOwnerSet (n : Nat) (s : State) : Res :=
  .next <| s.mbxRun n 0x1402 fun p s =>
    let i := pl p 0 4
    if 6432 ≤ i then (badLength, s)
    else
      let r := s.macSet .WPC_OWNER i (BitVec.ofNat 64 (pl p 4 8))
      if r.1 = false then (denied, s)
      else match ownerRange i with
        | none => r.2.opStart n 0x1402 p true (some (okWith []))
        | some (a, b) => let q := r.2.syncStart a b; q.2.opStart n 0x1402 p q.1 none

/-! ### The fabric and replication (R465, R467) -/

/-- The first `k` entries of a ROUTE_SET, in ascending node order. -/
def State.routeSet (s : State) (p : List Byte) (k : Nat) : State :=
  (List.range (Nat.min k (pl p 2 2))).foldl (fun s i =>
    s.onWrite .macen .FAB_ROUTE (pl p 0 2 + i) (BitVec.ofNat 64 (pl p (4 + 8 * i) 8)) id) s

/-- ROUTE_SET. -/
def execRouteSet (n : Nat) (s : State) : Res :=
  .next <| s.mbxRun n 0x1501 fun p s =>
    if 16384 < pl p 0 2 + pl p 2 2 then (badLength, s) else (s.routeSet p (pl p 2 2)).after fun _ => []

/-- PORT_SET: FAB_PORT_CTL is written. -/
def execPortSet (n : Nat) (s : State) : Res :=
  .next <| s.mbxRun n 0x1502 fun p s =>
    let i := pl p 0 1
    if 8 ≤ i then (badLength, s)
    else (s.portCtlWrite .macen i (BitVec.ofNat 64 (pl p 8 8))).after fun s => s.regBytes .FAB_PORT_STATUS i

/-- PORT_GET. -/
def execPortGet (n : Nat) (s : State) : Res :=
  .next <| s.mbxAsk n 0x1503 fun p => if 8 ≤ pl p 0 1 then badLength else okWith (s.regBytes .FAB_PORT_STATUS (pl p 0 1))

/-- A write to FAB_NODE (R251): once the device has a node ID, ports in LINK_UP start attesting. -/
def State.nodeWrite (s : State) (ag : Agent) (w : W) : State :=
  s.onWrite ag .FAB_NODE 0 w fun s => ((List.range 8).foldl (fun s p => s.attest p) s).timeRoles

/-- NODE_SET. -/
def execNodeSet (n : Nat) (s : State) : Res :=
  .next <| s.mbxRun n 0x1504 fun p s => (s.nodeWrite .macen (BitVec.ofNat 64 (pl p 0 8))).after fun s => s.regBytes .FAB_NODE 0

/-- A write to JRN_REPL_MEMBERS (R267). -/
def State.membersWrite (s : State) (ag : Agent) (n : Nat) (w : W) : State :=
  let old := s.rd .JRN_REPL_MEMBERS n
  s.onWrite ag .JRN_REPL_MEMBERS n w fun s => s.membersWritten n old

/-- REPL_CFG: the replication configuration and the members of a stream. -/
def execReplCfg (n : Nat) (s : State) : Res :=
  .next <| s.mbxRun n 0x1601 fun p s =>
    let i := pl p 0 1
    if 64 ≤ i then (badLength, s)
    else ((s.onWrite .macen .JRN_REPL_CFG i (BitVec.ofNat 64 (pl p 8 8)) id).membersWrite .macen i (BitVec.ofNat 64 (pl p 16 8))).after
      fun s => s.regBytes .JRN_REPL_STATE i

/-- PROMOTE: an operation until STATE leaves CANDIDATE. -/
def execPromote (n : Nat) (s : State) : Res :=
  .next <| s.mbxRun n 0x1602 fun p s =>
    let i := pl p 0 1
    if 64 ≤ i ∨ 64 ≤ pl p 1 1 ∨ 2 ≤ pl p 2 1 then (badLength, s)
    else
      let w := putField (putField (putField (putField 0 47 16 (pl p 4 4)) 15 10 (pl p 1 1)) 9 9 (pl p 2 1)) 3 0 1
      let s1 := s.promoteWrite .macen i w
      if s1.rsp.status ≠ 0 then (denied, s1) else s1.opStart n 0x1602 p true none

/-- STEP_DOWN: a primary stream is deposed; TERM, SLOT and SLOT_V keep their values. -/
def execMbxStepDown (n : Nat) (s : State) : Res :=
  .next <| s.mbxRun n 0x1603 fun p s =>
    let i := pl p 0 1
    if 64 ≤ i then (badLength, s)
    else (s.stepDownWrite .macen i (putField (s.rd .JRN_REPL_STATE i) 3 0 2)).after fun s => s.regBytes .JRN_REPL_STATE i

/-- SLOT_ARM: a replica slot is loaded with VALID 0, and then armed. -/
def execSlotArm (n : Nat) (s : State) : Res :=
  .next <| s.mbxRun n 0x1604 fun p s =>
    let i := pl p 0 1
    let w := fun o => BitVec.ofNat 64 (pl p o 8)
    if 64 ≤ i then (badLength, s)
    else
      let s1 := s.slotCfgWrite .macen i (putField (w 8) 63 63 0)
      let s2 := [(RegId.JRN_RSLOT_REGION, 16), (.JRN_RSLOT_TERM, 24), (.JRN_RSLOT_HELD, 32), (.JRN_RSLOT_APPEND, 40), (.JRN_RSLOT_DRAIN, 48)].foldl
        (fun s (e : RegId × Nat) => s.onWrite .macen e.1 i (w e.2) id) s1
      (s2.slotCfgWrite .macen i (putField (w 8) 63 63 1)).after fun s => s.regBytes .JRN_RSLOT_CFG i

/-- SLOT_DISARM. -/
def execSlotDisarm (n : Nat) (s : State) : Res :=
  .next <| s.mbxRun n 0x1605 fun p s =>
    let i := pl p 0 1
    if 64 ≤ i then (badLength, s)
    else (s.slotCfgWrite .macen i (putField (s.rd .JRN_RSLOT_CFG i) 63 63 0)).after fun s => s.regBytes .JRN_RSLOT_CFG i

/-- REPL_GET: the replication state of a stream and of a slot. -/
def execReplGet (n : Nat) (s : State) : Res :=
  .next <| s.mbxAsk n 0x1606 fun p =>
    let i := pl p 0 1
    let k := pl p 1 1
    if 64 ≤ i ∨ 64 ≤ k then badLength
    else okWith (s.regBytes .JRN_REPL_STATE i ++ s.regBytes .JRN_REPL_HELD (2 * i) ++ s.regBytes .JRN_REPL_HELD (2 * i + 1) ++
      s.regBytes .SPN_STREAM_WMARK i ++ s.regBytes .SPN_STREAM_ASSIGNED i ++ s.regBytes .JRN_RSLOT_CFG k ++
      s.regBytes .JRN_RSLOT_HELD k ++ s.regBytes .JRN_RSLOT_GASP k)

/-! ### The Ladle, images, evidence and time (R465, R467, R524) -/

/-- LADLE_SET (R524): EN 0 first, then the other fields and the mask, then EN as asked. -/
def execLadleSet (n : Nat) (s : State) : Res :=
  .next <| s.mbxRun n 0x1701 fun p s =>
    let i := pl p 0 1
    let per := pl p 4 4
    if 16 ≤ i ∨ 2 ≤ pl p 1 1 ∨ pl p 2 1 < 12 ∨ 40 < pl p 2 1 ∨ per = 0 ∨ 1000000 < per ∨ 2 ^ 48 ≤ pl p 8 8 ∨
        (pl p 8 8) % 2 ^ pl p 2 1 ≠ 0 then (badLength, s)
    else
      let old := putField (s.rd .LDL_PART_CFG i) 63 63 0
      let w := putField (putField (putField old 61 56 (pl p 2 1)) 55 36 per) 35 0 (pl p 8 8 / 4096)
      let s1 := (s.onWrite .macen .LDL_PART_CFG i old id).onWrite .macen .LDL_PART_CFG i w id
      let s2 := (List.range 4).foldl (fun s k => s.onWrite .macen .LDL_PART_MASK (4 * i + k) (BitVec.ofNat 64 (pl p (16 + 8 * k) 8)) id) s1
      (s2.ladleCfg .macen i (putField w 63 63 (pl p 1 1))).after fun _ => []

/-- The first `k` bytes of an IMAGE_WRITE reach the slot's flash. -/
def State.imageWrite (s : State) (p : List Byte) (k : Nat) : State :=
  s.flashPut (pl p 0 1) (bundleBase + pl p 4 4) ((p.drop 12).take (Nat.min k (pl p 8 4)))

/-- IMAGE_WRITE (R467): bundle bytes for the slot that did not boot. -/
def execImageWrite (n : Nat) (s : State) : Res :=
  .next <| s.mbxRun n 0x1801 fun p s =>
    if 2 ≤ pl p 0 1 ∨ 63 * 2 ^ 20 < pl p 4 4 + pl p 8 4 then (badLength, s)
    else if s.boot.slot = some (pl p 0 1) then (denied, s)
    else (s.imageWrite p (pl p 8 4)).opStart n 0x1801 p true (some (okWith []))

/-- IMAGE_ARM: forwarded to the SP, whose status is returned; `good` says whether the record it writes reads back. -/
def execMbxImageArm (n : Nat) (good : Bool) (s : State) : Res :=
  .next <| s.mbxRun n 0x0201 fun p s =>
    let r := s.imageArm (pl p 0 1) (pl p 1 1) (pl p 2 2) good
    r.2.2.opStart n 0x0201 p true (some (r.1, 0, r.2.1))

/-- TRIAL_CONFIRM: forwarded to the SP. -/
def execMbxTrialConfirm (n fails : Nat) (bad : List Nat) (s : State) : Res :=
  .next <| s.mbxRun n 0x0202 fun _ s => let r := s.trialConfirm fails bad; ((r.1, 0, r.2.1), r.2.2)

/-- REVOKE_IMAGE_KEY: forwarded to the SP. -/
def execMbxRevokeImageKey (n : Nat) (bad : List Nat) (s : State) : Res :=
  .next <| s.mbxRun n 0x0203 fun p s => let r := s.revokeImage (pl p 0 1) bad; ((r.1, 0, r.2.1), r.2.2)

/-- ATTEST: forwarded to the SP, which produces the evidence by the operation's end. -/
def execMbxAttest (n : Nat) (s : State) : Res := .next <| s.mbxRun n 0x0401 fun p s => s.opStart n 0x0401 p false none

/-- TIME_GET. -/
def execTimeGet (n : Nat) (s : State) : Res :=
  .next <| s.mbxAsk n 0x1A01 fun _ =>
    let fault := (List.range 8).any fun p => s.fld FAB_PORT_STATUS.TIME_FAULT p == 1
    okWith (leBytes 8 s.dtime ++ s.regBytes .RCP_RTC 0 ++ leBytes 1 (s.fld FAB_NODE.GM 0 + 2 * b2n fault))

/-- RTC_SET: the RTC is loaded. -/
def execRtcSet (n : Nat) (s : State) : Res :=
  .next <| s.mbxRun n 0x1A02 fun p s =>
    let r := s.macSet .RCP_RTC 0 (BitVec.ofNat 64 (pl p 0 8))
    if r.1 then (okWith [], { r.2 with rtcAcc := 0 }) else (denied, s)

/-! ### Operations finish (R460, R467) -/

/-- What an operation has come to: its answer once its condition holds, with the state after what it still had to do. -/
def State.opEnd (s : State) (o : MbxOp) : Option Ans × State :=
  let p := o.payload
  match o.res with
  | some a => (some a, s)
  | none =>
    if o.code = 0x1003 then
      (let u := pl p 0 2
       (if s.fld RCP_BLOCK_CTL.STATE u = (if pl p 2 1 = 1 then 0 else 2) then some (okWith (s.regBytes .RCP_BLOCK_CTL u)) else none, s))
    else if o.code = 0x1203 then
      (let t := pl p 0 1 / 4
       if (s.swapOf t).phase ≠ 0 then (none, s)
       else if o.begun then (some (okWith (s.regBytes .TILE_CORE_MAP t)), s)
       else match s.swapBegin p with
         | none => (some noResource, s)
         | some s1 => (none, s1))
    else if o.code = 0x1301 then
      (if s.fld WPC_PART_CTL.STATE (pl p 0 1) = 1 then none else some (okWith (s.regBytes .WPC_PART_CTL (pl p 0 1))), s)
    else if o.code = 0x1401 ∨ o.code = 0x1402 then
      (if o.begun then (if s.fld WPC_SYNC.DONE 0 = 1 then some (okWith []) else none, s)
       else
         let a := if o.code = 0x1401 then some (pl p 0 8, pl p 0 8 + pl p 8 4 * 2 ^ 21) else ownerRange (pl p 0 4)
         match a with
         | some (x, y) => (none, (s.syncStart x y).2)
         | none => (some (okWith []), s))
    else if o.code = 0x1602 then
      (let i := pl p 0 1
       (if s.fld JRN_REPL_STATE.STATE i = 3 then none
        else some (0, s.fld JRN_REPL_STATE.PROMOTE_ERR i, s.regBytes .JRN_REPL_STATE i), s))
    else if o.code = 0x0401 then
      (if s.evReady then (let e := s.takeEvidence p; (some (okWith e.1), e.2)) else (none, s))
    else (none, s)

/-- Whether an operation that had to wait has now begun. -/
def MbxOp.nowBegun (o : MbxOp) (s s1 : State) : Bool :=
  o.begun || (o.code == 0x1203 && s1.swapOf (pl o.payload 0 1 / 4) != s.swapOf (pl o.payload 0 1 / 4)) ||
  ((o.code == 0x1401 || o.code == 0x1402) && s.fld WPC_SYNC.BUSY 0 == 0)

/-- OPERATION_FINISHED (R460): an operation whose condition holds is DONE, and the page's completion source is raised; one that still
waits for its turn takes it. -/
def execOperationFinished (n id : Nat) (s : State) : Res :=
  .next <| match (s.page n).ops.find? fun o => o.id == id && !o.done with
  | none => s
  | some o =>
    let r := s.opEnd o
    let o1 : MbxOp := { o with begun := o.nowBegun s r.2, res := r.1, done := r.1.isSome }
    let s1 := r.2.setOps n ((r.2.page n).ops.map fun q => if q.id = id then o1 else q)
    if r.1.isSome then s1.pageSource n else s1

/-! ### The error collector, Macen restarts and the sideband -/

/-- ERROR_RECORD (R469): a record that a block reports, with what the error that it reports does to a cache's line (R100); Macen counts it
(R485). `place` is what Macen learns beside it. -/
def execErrorRecord (source unit cls code addr place : Nat) (s : State) : Res :=
  .next <| if 48 ≤ source ∨ 256 ≤ unit ∨ 4 ≤ cls ∨ 4096 ≤ code then s
  else ((s.arrayError source unit code addr).logErr source unit cls code (addr % 2 ^ 64)).countErr code (addr % 2 ^ 64) place

/-- The part of a running command that a restart leaves applied (R474): its first `k` entries or bytes. -/
def State.partly (s : State) (n k : Nat) : State :=
  match (s.page n).cur with
  | some m =>
    if m.res.isSome then s
    else if m.code = 0x1501 ∧ pl m.payload 0 2 + pl m.payload 2 2 ≤ 16384 then s.routeSet m.payload k
    else if m.code = 0x1401 ∧ pl m.payload 0 8 + pl m.payload 8 4 * 2 ^ 21 ≤ 2 ^ 43 then s.wtAssign m.payload k
    else if m.code = 0x1402 ∧ 0 < k ∧ pl m.payload 0 4 < 6432 then (s.macSet .WPC_OWNER (pl m.payload 0 4) (BitVec.ofNat 64 (pl m.payload 4 8))).2
    else if m.code = 0x1801 ∧ pl m.payload 0 1 < 2 ∧ s.boot.slot ≠ some (pl m.payload 0 1) ∧
        pl m.payload 4 4 + pl m.payload 8 4 ≤ 63 * 2 ^ 20 then s.imageWrite m.payload k
    else s
  | none => s

/-- MACEN_RESTART (R473, R474): every page is IDLE with bit 0 alone negotiated and a new generation; a restart with C at 15, or within
1 s of the one before, is a system reset with cause 8. `part` names how far a page's running command got. -/
def execMacenRestart (part : List (Nat × Nat)) (s0 : State) : Res :=
  .next <| if 15 ≤ s0.mac.restarts ∨ (s0.mac.lastStart ≠ 0 ∧ s0.dtime + 1 < s0.mac.lastStart + 1000000000) then s0.systemReset 8
  else
    let s := part.foldl (fun s e => if e.1 < 19 then s.partly e.1 e.2 else s) s0
    let s1 : State := { s with pages := [], mac := { s.mac with restarts := s.mac.restarts + 1, lastStart := s.dtime + 1 } }
    let s2 := s1.loadGeneration.logErr 0 0 1 0xA00 s1.mac.restarts
    let s3 := (List.range 18).foldl (fun s n => s.raise (1490 + n)) s2
    let s4 := s3.raise 1508
    match s4.boot.slot with
    | some f => if s4.segDigestOk f ((s4.segs f 2).headD {}) then s4 else s4.reject f true
    | none => s4

/-- A transaction whose PEC fails is discarded and recorded, at most once per second (R472, R476). -/
def State.pecFail (s : State) (code : Nat) : State := s.logLimited (2 ^ 22) 1000000000 0 0xFF 0 0xA01 code

/-- Whether Macen answers its SMBus address: it has been released. -/
def State.smbOn (s : State) : Bool := decide (4 ≤ s.relStep)

/-- WRITE_WORD (R475): command 0x01 sets the sideband page's offset pointer. -/
def execWriteWord (w : Nat) (pec : Bool) (s : State) : Res :=
  .next <| if s.smbOn = false then s else if pec = false then s.pecFail 1
  else s.setPage 18 { s.page 18 with ptr := w % 65536 }

/-- BLOCK_WRITE (R475): command 0x02 writes 1 to 32 bytes at the pointer and advances it. -/
def execBlockWrite (bs : List Byte) (pec : Bool) (s : State) : Res :=
  .next <| if s.smbOn = false ∨ bs = [] ∨ 32 < bs.length then s else if pec = false then s.pecFail 2
  else
    let at_ := (s.page 18).ptr
    let s1 := s.mbxPut 18 at_ bs
    s1.setPage 18 { s1.page 18 with ptr := (at_ + bs.length) % 65536 }

/-- A byte of the sideband page: its registers, then its areas. -/
def State.sideByte (s : State) (off : Nat) : Byte :=
  let o := off % 65536
  if 8 ≤ o ∧ o < 16 then (s.regBytes .MBX_STATUS 18).getD (o - 8) 0 else s.mbxByte 18 o

/-- BLOCK_READ (R475): command 0x03 reads 32 bytes at the pointer and advances it. -/
def execBlockRead (pec : Bool) (s : State) : Res :=
  .next <| if s.smbOn = false then s else if pec = false then s.pecFail 3
  else
    let at_ := (s.page 18).ptr
    let s1 : State := { s with mac := { s.mac with smb := (List.range 32).map fun i => s.sideByte (at_ + i) } }
    s1.setPage 18 { s1.page 18 with ptr := (at_ + 32) % 65536 }

/-- WRITE_BYTE (R475): command 0x04 acts as MBX_DOORBELL on the sideband page. -/
def execWriteByte (b : Byte) (pec : Bool) (s : State) : Res :=
  .next <| if s.smbOn = false then s else if pec = false then s.pecFail 4
  else if b.toNat % 4 = 1 then s.ring 18 else if b.toNat % 4 = 2 then s.ack 18 else s

/-- SMBUS_TIMEOUT (R547): SMB_SCL has been low for 25 ms: the target releases SMB_SDA and resets its state. -/
def execSmbusTimeout (s : State) : Res :=
  .next (({ s with mac := { s.mac with smb := [] } } : State).setPage 18 { s.page 18 with ptr := 0 })

end Sys2Proof.Machine
end

