-- ==== Sys2Proof/Machine/Debug.lean ====
section
/-! DEFINITION. The debug module (chapter 21): the TAP, sessions and certificates, run control, registers of halted cores, freezes, virtual
terminals and trace. Memory accesses are in `Access.lean`. -/

namespace Sys2Proof.Machine

open Sys2Proof

/-! ### Ports and sessions (R495 to R498, R515) -/

/-- The number of a port: 0 JTAG, 1 mesh. -/
def portNo : DbgPort → Nat
  | .jtag => 0
  | .mesh _ => 1

/-- A DBGACC access ends with a STATUS: 0 OK, 1 FAULT, 2 DENIED (R495). -/
def Tap.answer (t : Tap) (data : W) (status : Nat) : Tap :=
  if status = 0 then { t with status := 0, data := data, dr := data.toNat } else { t with status := status, dr := t.data.toNat }

/-- Answer an access through a port. A DBGACC capture returns the result of the last read that completed (R495). -/
def State.portAnswer (s : State) (p : DbgPort) (data : W) (status : Nat) : State :=
  match p with
  | .jtag =>
    { s with dbg := { s.dbg with tap := s.dbg.tap.answer data (match status with | 0 => 0 | 3 => 2 | _ => 1) } }
  | .mesh ag => s.answer ag data status

/-- Perform `k` where a port's session and, on the mesh port, the rules of the DBG window let it access unit `i` of a register; otherwise
a read returns 0, and a write is answered DENIED (R496, R515). -/
def State.portAccess (s : State) (p : DbgPort) (r : RegId) (i : Nat) (write : Option W) (k : State → W × State) : State :=
  match p with
  | .jtag =>
    if s.dbgMay 0 r i write.isSome then (let a := k s; a.2.portAnswer p (if write.isSome then a.2.dbg.tap.data else a.1) 0)
    else s.portAnswer p 0 (if write.isSome then 3 else 0)
  | .mesh ag => match s.gate ag r i write with
    | .pass => let a := k s; if write.isSome then a.2.answerW ag (regAddr r i) 0 else a.2.answer ag a.1 0
    | g => s.refuse ag g (regAddr r i) write.isSome

/-- A write of unit `i` of a register through a port; `k` follows the write of the register's own fields. -/
def State.portWrite (s : State) (p : DbgPort) (r : RegId) (i : Nat) (w : W) (k : State → State) : State :=
  s.portAccess p r i (some w) fun s => (0, k (s.regWrite r i w))

/-- The session of a port: 0 NONE, 1 NORMAL_CERT, 2 FULL. -/
def State.session (s : State) (port : Nat) : Nat := s.fld DBG_AUTH.SESSION port

/-- Write a port's nonce afresh from the DRBG (R497). -/
def State.freshNonce (s : State) (port : Nat) : State :=
  let n := s.nonce
  (List.range 4).foldl (fun s w => s.wr .DBG_AUTH_NONCE (4 * port + w) (BitVec.ofNat 64 (ofLeBytes ((n.1.drop (8 * w)).take 8)))) n.2

/-- The port's nonce as bytes. -/
def State.nonceBytes (s : State) (port : Nat) : List Byte :=
  (List.range 4).flatMap fun w => leBytes 8 (s.rd .DBG_AUTH_NONCE (4 * port + w)).toNat

/-- What the SP finds in a debug certificate (R497): 0 when it accepts it, else the REASON. -/
def State.certCheck (s : State) (port : Nat) (c : List Byte) : Nat :=
  let f := fun o n => recField c o n
  let lo := 3360 + 768 * f 6 1
  let ed := (c.drop 64).take 32
  let ml := (c.drop 96).take 1952
  let body := c.take 2048
  if f 0 4 ≠ 0x44424743 ∨ f 4 2 ≠ 1 ∨ 2 ≤ f 6 1 ∨ f 7 1 ≠ 0 ∨ 16 ≤ f 58 1 ∨ f 59 5 ≠ 0 ∨ f 5421 3 ≠ 0 then 1
  else if s.slotEmpty lo ∨ s.dbgRevoked (f 6 1) then 2
  else if hashOf 1 ed ++ hashOf 1 ml ≠ s.slotHashes lo then 3
  else if (c.drop 8).take 16 ≠ s.uid then 4
  else if (c.drop 24).take 32 ≠ s.nonceBytes port then 5
  else if (Config.cryptoTrue 0x24 [[0], ed, body, (c.drop 2048).take 64] &&
      Config.cryptoTrue 0x26 [[0], ml, body, (c.drop 2112).take 3309]) = false then 6
  else 0

/-- A VERIFY completes (R497, R513, R514): RESULT and REASON, the session and the record, a fresh nonce and the source. -/
def State.verified (s : State) (port reason : Nat) (c : List Byte) : State :=
  let s0 : State := { s with dbg := { s.dbg with pend := tset [] s.dbg.pend port [] } }
  let s1 := (s0.setFld DBG_AUTH.RESULT port (if reason = 0 then 1 else 2)).setFld DBG_AUTH.REASON port reason
  let s2 := if reason ≠ 0 then s1.logErr 47 port 1 0xC00 reason
    else
      let m := recField c 56 2
      let r := recField c 58 1
      if s1.session port = 2 ∨ ceiling s1.lc = 0 then s1
      else (((s1.setFld DBG_AUTH.SESSION port 1).setFld DBG_AUTH.PART_MASK port m).setFld DBG_AUTH.RIGHTS port r).logErr 47 port 0
        0xC01 (m * 256 + r)
  (s2.freshNonce port).raise 1761

/-- A write of DBG_AUTH (R497, R515): VERIFY asks the SP to check the certificate in the buffer, at most once per port per 100 ms; END
ends the session; SYSTEM_RESET needs FULL. -/
def State.authWrite (s : State) (p : DbgPort) (w : W) : State :=
  let n := portNo p
  let cmd := field w 1 0
  if cmd = 3 ∧ s.session n ≠ 2 then
    (match p with
     | .jtag => s.portAnswer .jtag 0 3
     | .mesh ag => (match s.gate ag .DBG_AUTH n (some w) with
         | .pass => s.refuse ag .late (regAddr .DBG_AUTH n) true
         | g => s.refuse ag g (regAddr .DBG_AUTH n) true))
  else s.portAccess p .DBG_AUTH n (some w) fun s =>
    (0,
     match cmd with
     | 1 =>
       if s.dbg.ceilOn = false ∨ s.fld DBG_AUTH.RESULT n = 3 then s
       else
         let last := tget 0 s.dbg.lastVerify n
         let c := (List.range 5424).map fun i => tget 0 s.dbg.cert i
         let s1 : State := { s with dbg := { s.dbg with lastVerify := tset 0 s.dbg.lastVerify n (s.dtime + 1) } }
         if last ≠ 0 ∧ s.dtime + 1 < last + 100000000 then s1.verified n 7 []
         else ({ s1 with dbg := { s1.dbg with pend := tset [] s1.dbg.pend n c } } : State).setFld DBG_AUTH.RESULT n 3
     | 2 =>
       if s.dbg.ceilOn = false then s
       else (((s.setFld DBG_AUTH.SESSION n 0).setFld DBG_AUTH.PART_MASK n 0).setFld DBG_AUTH.RIGHTS n 0).freshNonce n
     | 3 => s.systemReset 11
     | _ => s)

/-- VERIFY (R497). -/
def execVerify (p : DbgPort) (w : W) (s : State) : Res := .next (if field w 1 0 = 1 then s.authWrite p w else s)

/-- VERIFY_COMPLETE (R497): the SP has checked the certificate. -/
def execVerifyComplete (p : DbgPort) (s : State) : Res :=
  let n := portNo p
  .next <| match tget [] s.dbg.pend n with
  | [] => s
  | c => s.verified n (s.certCheck n c) c

/-- END (R497). -/
def execEnd (p : DbgPort) (w : W) (s : State) : Res := .next (if field w 1 0 = 2 then s.authWrite p w else s)

/-- DEBUG_SYSTEM_RESET (R515): a system reset with cause 11, from a FULL session only. -/
def execDebugSystemReset (p : DbgPort) (w : W) (s : State) : Res := .next (if field w 1 0 = 3 then s.authWrite p w else s)

/-! ### Run control (R499 to R501) -/

/-- Whether a hart's core is a bound trailer, whose run-control requests are ignored (R501). -/
def State.trailerHart (s : State) (h : Nat) : Bool := match s.hartCore h with | some c => s.isTrailer c | none => false

/-- Leave the halt (R499): the core goes on where it stopped, with its pc as a debugger may have written it. -/
def State.unhalt (s : State) (c : Nat) (step : Bool) : State :=
  let h := s.coreHart c
  let s1 := s.onCore c fun k => { k with
    run := if step ∧ (k.idle = .wfi ∨ k.idle = .pause ∨ k.idle = .gated) then .running else k.idle,
    idle := .running, step := step, stopNext := none }
  let s2 := ((((s1.trailerRun c .running).setFld DBG_CORE_STATUS.STATE h 0).setFld DBG_CORE_STATUS.CAUSE h 0).setFld DBG_CORE_STATUS.TRIGGER h 0)
  s2.trace c 0x0B 0 (s2.core c).pc.toNat

/-- The command of a write to DBG_CORE_CTL: 1 HALT, 2 RESUME, 3 STEP. A step clears the reservation and ends an open group with DEBUG, as
the halt before it did (R500). -/
def State.runCmd (s : State) (h cmd : Nat) : State :=
  match s.hartCore h with
  | none => s
  | some c =>
    let k := s.core c
    if s.trailerHart h ∨ k.run = .held then s
    else match cmd with
      | 1 => if k.run = .halted ∨ k.haltReq then s
        else (s.onCore c fun k => { k with haltReq := true }).setFld DBG_CORE_STATUS.STATE h 1
      | 2 => if k.run = .halted then s.unhalt c false
        else if k.haltReq then (s.onCore c fun k => { k with haltReq := false }).setFld DBG_CORE_STATUS.STATE h 0 else s
      | 3 => if k.run = .halted then s.unhalt c true else s
      | _ => s

/-- A write of DBG_CORE_CTL through a port (R498, R499, R512): RESETHALT needs FULL, TRACE the right TRACE, and the rest the right RUN;
what the session forbids keeps its value. -/
def State.coreCtlWrite (s : State) (p : DbgPort) (h : Nat) (w : W) : State :=
  let n := portNo p
  let full := s.session n == 2
  let right := fun b => full || (s.fld DBG_AUTH.RIGHTS n).testBit b
  let old := s.rd .DBG_CORE_CTL h
  let w1 := if full then w else putField w 63 63 (field old 63 63)
  let w2 := if right 0 then w1 else putField (putField (putField w1 62 58 (field old 62 58)) 2 2 0) 1 0 0
  let w3 := if right 3 then w2 else putField w2 57 57 (field old 57 57)
  s.portWrite p .DBG_CORE_CTL h w3 fun s =>
    let s1 := s.runCmd h (field w3 1 0)
    if bit w3 2 ∧ s1.trailerHart h = false then
      (match s1.hartCore h with | some c => s1.coreResetStep c | none => s1)
    else s1

/-- HALT (R499): the core is to stop at its next retirement boundary. -/
def execHalt (p : DbgPort) (h : Nat) (w : W) (s : State) : Res :=
  .next (if h < 96 ∧ field w 1 0 = 1 then s.coreCtlWrite p h w else s)

/-- DEBUG_RESUME (R499). -/
def execDebugResume (p : DbgPort) (h : Nat) (w : W) (s : State) : Res :=
  .next (if h < 96 ∧ field w 1 0 = 2 then s.coreCtlWrite p h w else s)

/-- STEP (R501). -/
def execStep (p : DbgPort) (h : Nat) (w : W) (s : State) : Res :=
  .next (if h < 96 ∧ field w 1 0 = 3 then s.coreCtlWrite p h w else s)

/-- DEBUG_CORE_RESET (R499): a core reset of the hart's slot; sent again, the reset goes on and, once the slot is closed, the core is
released. -/
def execDebugCoreReset (p : DbgPort) (h : Nat) (w : W) (s : State) : Res :=
  .next <| if 96 ≤ h ∨ bit w 2 = false then s
  else match s.hartCore h with
    | none => s.coreCtlWrite p h w
    | some c =>
      let k := s.core c
      let may := s.session (portNo p) == 2 || (s.fld DBG_AUTH.RIGHTS (portNo p)).testBit 0
      if k.run = .held ∧ k.flushing = false ∧ may then s.portWrite p .DBG_CORE_CTL h (putField (s.rd .DBG_CORE_CTL h) 2 0 0) fun s => s.coreRelease c
      else s.coreCtlWrite p h w

/-- Whether a core is at a boundary where a halt can take effect (R499): nothing of it is between a commit request and its reply, no device
load or AMO is outstanding, and no earlier interval awaits comparison. A core in PAIRWAIT and a STOPPED one retire nothing and halt at once, so
that debug can read their registers (R200, R214). -/
def State.haltBoundary (s : State) (c : Nat) : Bool :=
  let k := s.core c
  (k.run == .running || k.run == .wfi || k.run == .pause || k.run == .gated || k.run == .pairWait || k.run == .stopped) && s.haltReaches c &&
  (match k.group with | some g => !g.requestSent | none => true) && k.devLoad.isNone && k.amoReq.isNone && s.allCompared c

/-- HALT_TAKEN (R500): a halt request, or a halt that a step, a trigger or a secure handler put off, reaches a boundary: an open group
aborts with DEBUG and the reservation is cleared. -/
def execHaltTaken (c : Nat) (s : State) : Res :=
  let k := s.core c
  .next <| if 120 ≤ c ∨ (k.haltReq = false ∧ k.stopNext.isNone) then s
  else if s.haltBoundary c then
    (match k.stopNext with
     | some (cause, n) => s.enterHalt c cause n
     | none => s.enterHalt c 1 0)
  else if s.haltReaches c then s.closeIval c else s

/-- FREEZE_RELEASE (R507): the last halted hart of a partition has left HALTED: its frozen watchdog goes on, with at least 1 ms. -/
def execFreezeRelease (part : Nat) (s : State) : Res :=
  .next <| if 16 ≤ part ∨ tget false s.dbg.froze part = false ∨ s.halted part then s
  else
    let s1 : State := { s with dbg := { s.dbg with froze := tset false s.dbg.froze part false } }
    let left := s1.fld TMR_WDOG.REMAIN_MS part * 1000000
    if s1.fld TMR_WDOG.EN part = 1 ∧ s1.fld TMR_WDOG.FREEZE part = 1 ∧ left < 1000000 + tget 0 s1.wdogNs part then
      s1.wdogLoad part 1
    else s1

/-! ### Registers of a halted core (R498, R501, R503) -/

/-- Whether REGSEL lists a register number. -/
def regListed (n : Nat) : Bool :=
  (decide (n < 0x1000) && (stdCsr n || customCsr n)) || decide (0x1000 ≤ n ∧ n ≤ 0x1040) || decide (0x1100 ≤ n ∧ n < 0x1180)

/-- Whether a session may reach a register of a core: under NORMAL_CERT neither a machine-mode CSR nor anything of the secure world. -/
def State.regAllowed (s : State) (port c n : Nat) : Bool :=
  s.session port == 2 ||
  (!(s.core c).secure && !(decide (n < 0x1000) && ((n / 256 % 4 == 3 && !customCsr n) || decide (0x7C0 ≤ n ∧ n ≤ 0x7DF))))

/-- The value of a register of a core. -/
def State.coreReg (s : State) (c n : Nat) : W :=
  let k := s.core c
  if n < 0x1000 then s.csrRead c n
  else if n < 0x1020 then k.getX (n - 0x1000)
  else if n < 0x1040 then k.getF (n - 0x1020)
  else if n = 0x1040 then k.pc
  else BitVec.ofNat 64 ((k.getV ((n - 0x1100) / 4)).toNat >>> (64 * (n % 4)))

/-- Write a register of a core. A write of PAIR_CTL with CMD UNBIND while the core is in PAIRWAIT lets it go on at its PAIR_RESUME, once the
halt ends (R200). -/
def State.setCoreReg (s : State) (c n : Nat) (w : W) : State :=
  if n = 0x7D0 ∧ field w 1 0 = 2 ∧ s.fld PAIR_STATUS.STATE c = 1 then
    ((s.csrPut c n w).resumeTrailer c).onCore c fun k => { k with run := .halted, idle := .running }
  else if n < 0x1000 then (if csrRo n then s else s.csrPut c n w)
  else s.onCore c fun k =>
    if n < 0x1020 then k.setX (n - 0x1000) w
    else if n < 0x1040 then k.setF (n - 0x1020) w
    else if n = 0x1040 then { k with pc := w &&& ~~~(1 : W) }
    else
      let v := (n - 0x1100) / 4
      let m : BitVec 256 := (BitVec.ofNat 256 (2 ^ 64 - 1)) <<< (64 * (n % 4))
      k.setV v ((k.getV v &&& ~~~m) ||| ((BitVec.ofNat 256 w.toNat) <<< (64 * (n % 4))))

/-- The cores that hold a register of a hart: both cores of a pair (R501). -/
def State.regCores (s : State) (c : Nat) : List Nat :=
  match s.ledPair c with
  | some i => [c, i / 2 * 5 + (s.pair i).trailer]
  | none => [c]

/-- An access to DBG_CORE_REGDATA (R503): a read, of the whole or of one half (R5, R515), or a write of the register that REGSEL names; ERR
where the core is not HALTED, the number is not listed, or the session forbids it. -/
def State.regdata (s : State) (p : DbgPort) (h : Nat) (wr : Option W) (half : Option Bool) : State :=
  let n := s.fld DBG_CORE_REGSEL.REG h
  s.portAccess p .DBG_CORE_REGDATA h wr fun s =>
    match s.hartCore h with
    | none => (0, s.setFld DBG_CORE_REGSEL.ERR h 1)
    | some c =>
      if (s.core c).run ≠ .halted ∨ regListed n = false ∨ s.regAllowed (portNo p) c n = false then (0, s.setFld DBG_CORE_REGSEL.ERR h 1)
      else match wr with
        | none => (halfOf (s.coreReg c n) half, s)
        | some w => (0, (s.regCores c).foldl (fun s c => s.setCoreReg c n w) s)

/-- The half of a register that a core's device load reads, if it reads one (R5). -/
def State.loadHalf (s : State) (p : DbgPort) : Option Bool :=
  match p with
  | .mesh (.core c) => (match (s.core c).devLoad with
    | some (size, pa) => if size = 4 then some (pa % 8 == 4) else none
    | none => none)
  | _ => none

/-- REGDATA_ACCESS (R503). -/
def execRegdataAccess (p : DbgPort) (h : Nat) (wr : Option W) (s : State) : Res :=
  .next (if h < 96 then s.regdata p h wr (s.loadHalf p) else s)

/-! ### Virtual terminals (R511) -/

/-- An access to a terminal register: on the page that feeds its FIFO a write pushes a byte, on the page that drains it a read pops one.
`dir` 0 is TX and 1 RX; pages from 98 on are port pages; `low` says whether the write covers the DATA bits. -/
def State.vtAccess (s : State) (p : DbgPort) (dir i : Nat) (wr : Option W) (low : Bool) : State :=
  let r : RegId := if dir = 0 then .DBG_VT_TX else .DBG_VT_RX
  let e := i % 98
  let drains := (dir = 0) = (98 ≤ i)
  let F : Fld := if dir = 0 then DBG_VT_TX.DROPPED else DBG_VT_RX.DROPPED
  s.portAccess p r i wr fun s =>
    let q := tget [] s.dbg.vt (2 * e + dir)
    match wr with
    | none =>
      let v := s.vtView dir i
      let s1 := s.snap r i v
      (v, if drains then { s1 with dbg := { s1.dbg with vt := tset [] s1.dbg.vt (2 * e + dir) (q.drop 1) } } else s1)
    | some w =>
      let s1 := if bit w 62 then s.setFld F e 0 else s
      (0, if drains ∨ low = false then s1
        else if 64 ≤ q.length then s1.setFld F e 1
        else { s1 with dbg := { s1.dbg with vt := tset [] s1.dbg.vt (2 * e + dir) (q ++ [field w 7 0]) } })

/-- VT_TX (R511). -/
def execVtTx (p : DbgPort) (i : Nat) (wr : Option W) (low : Bool) (s : State) : Res :=
  .next (if i < 196 then s.vtAccess p 0 i wr low else s)

/-- VT_RX (R511). -/
def execVtRx (p : DbgPort) (i : Nat) (wr : Option W) (low : Bool) (s : State) : Res :=
  .next (if i < 196 then s.vtAccess p 1 i wr low else s)

/-! ### Trace (R512) -/

/-- The 16 bytes of a packet of a hart. -/
def TracePkt.bytes (q : TracePkt) (h : Nat) : List Byte :=
  leBytes 1 q.typ ++ leBytes 1 h ++ leBytes 2 q.info ++ leBytes 4 q.time ++ leBytes 8 q.addr

/-- Write a hart's buffered packets into the trace ring, as its WORLD and PARTITION may; packets that the World Table refuses are
dropped and counted. A LOST packet stands for those that were dropped for want of room. -/
def State.traceDrain (s : State) (h : Nat) : State :=
  let lg := s.fld DBG_TRACE_CFG.SIZE_LOG2 0
  let base := s.fld DBG_TRACE_CFG.BASE 0 * 4096
  let sec := s.fld DBG_TRACE_CFG.WORLD 0 == 1
  let part := s.fld DBG_TRACE_CFG.PARTITION 0
  (tget [] s.traceBuf h).foldl (fun s q =>
    let at_ := s.fld DBG_TRACE_PTR.WRITE 0
    let a := base + at_ % 2 ^ lg
    if s.isDram a && (sec || s.wtOwner a == some part) then
      (s.agentWriteBytes a (q.bytes h) sec).setFld DBG_TRACE_PTR.WRITE 0 ((at_ + 16) % 2 ^ 48)
    else (s.incSat DBG_TRACE_PTR.LOST 0).raise 1762) { s with traceBuf := tset [] s.traceBuf h [] }

/-- TRACE_SYNC (R512): each traced hart writes a SYNC packet, and what the harts have buffered reaches the ring. -/
def execTraceSync (s : State) : Res :=
  .next <| if s.fld DBG_TRACE_CFG.EN 0 = 0 then s
  else
    let s1 := (List.range 96).foldl (fun s h => match s.hartCore h with
      | some c => if s.fld DBG_CORE_CTL.TRACE h = 1 then s.trace c 0x0C 0 s.dtime else s
      | none => s) s
    (s1.traceBuf.map (·.1)).foldl (fun s h => s.traceDrain h) s1

/-- A write of DBG_TRACE_CFG (R512, R515): WORLD is forced to 0 under NORMAL_CERT, and EN written 1 begins WRITE and LOST anew. -/
def State.traceCfgWrite (s : State) (p : DbgPort) (w : W) : State :=
  let w1 := if s.session (portNo p) = 2 then w else putField w 62 62 0
  s.portWrite p .DBG_TRACE_CFG 0 w1 fun s => if bit w1 63 then s.wr .DBG_TRACE_PTR 0 0 else s

/-! ### The TAP (R495, R546) -/

def State.setTap (s : State) (f : Tap → Tap) : State := { s with dbg := { s.dbg with tap := f s.dbg.tap } }

/-- IDCODE (R495, R564): the identification register is selected: stepping major number 2, part 0x0096, maker 0x5B7. -/
def execIdcode (s : State) : Res := .next (s.setTap fun t => { t with ir := 1, dr := 0x200965B7, driving := false })

/-- SAMPLE_PRELOAD (R495): the boundary register samples the pins, and the cells shifted in are kept. -/
def execSamplePreload (pins cells : List Bool) (s : State) : Res :=
  .next (s.setTap fun t => { t with ir := 2, dr := pins.foldr (fun b n => 2 * n + b2n b) 0, cells := cells, driving := false })

/-- Whether EXTEST is accepted: the ceiling is FULL and every core and Macen are halted or in reset. -/
def State.extestOk (s : State) : Bool :=
  s.dbg.ceilOn && ceiling s.lc == 2 && decide (s.relStep < 4) &&
  s.cores.all fun e => e.2.run == .halted || e.2.run == .held

/-- EXTEST (R495): the boundary register drives the pins; where it is not accepted it acts as BYPASS. -/
def execExtest (s : State) : Res :=
  .next (s.setTap fun t => if s.extestOk then { t with ir := 3, driving := true } else { t with ir := 0xFF, dr := 0, driving := false })

/-- LC_CMD (R495): in BLANK, LC_ADVANCE through the SP mailbox; in any other state BYPASS. -/
def execLcCmd (target : Nat) (bad : List Nat) (s : State) : Res :=
  .next <| if s.lc ≠ 0 then s.setTap fun t => { t with ir := 0xFF, dr := 0, driving := false }
  else
    let r := s.lcAdvance target bad
    r.2.2.setTap fun t => { t with ir := 0x11, dr := r.1, driving := false }

/-- BYPASS (R495): the 1-bit register is selected, which captures 0. -/
def execBypass (s : State) : Res := .next (s.setTap fun t => { t with ir := 0xFF, dr := 0, driving := false })

/-- TAP_RESET (R546): Test-Logic-Reset, which selects IDCODE. -/
def execTapReset (s : State) : Res := .next (s.setTap fun _ => {})

end Sys2Proof.Machine
end

