-- ==== Sys2Proof/Machine/LowSpeed.lean ====
section
/-! DEFINITION. The low-speed I/O (chapter 23): the UARTs and the GPIO pins. -/

namespace Sys2Proof.Machine

open Sys2Proof

/-- The UART sources follow their levels (R553): receive, transmit empty and error. -/
def State.uartSources (s : State) (u : Nat) : State :=
  let b := 1728 + 3 * u
  let en := s.fld UART_CFG.EN u == 1
  let empty := (tget [] s.lsio.tx u).isEmpty && (tget none s.lsio.shift u).isNone
  let err := s.fld UART_STATUS.TX_DROPPED u == 1 || s.fld UART_STATUS.RX_OVERRUN u == 1 || s.fld UART_STATUS.RX_ERROR u == 1
  ((s.setSource b (!(tget [] s.lsio.rx u).isEmpty)).setSource (b + 1) (en && empty)).setSource (b + 2) err

/-- Whether a UART's transmitter is frozen (R506). -/
def State.uartFrozen (s : State) (u : Nat) : Bool :=
  s.fld (if u = 0 then DBG_FREEZE.UART0 else DBG_FREEZE.UART1) 0 == 1 && s.halted 16

/-- The transmitter takes the next byte of its FIFO where it is enabled, idle and not frozen. -/
def State.uartStart (s : State) (u : Nat) : State :=
  match tget [] s.lsio.tx u, tget none s.lsio.shift u with
  | b :: rest, none =>
    if s.fld UART_CFG.EN u = 1 ∧ s.uartFrozen u = false then
      { s with lsio := { s.lsio with tx := tset [] s.lsio.tx u rest, shift := tset none s.lsio.shift u (some b) } }
    else s
  | _, _ => s

/-- A write to UART_DATA (R551) pushes a byte; a full FIFO drops it and sets TX_DROPPED. -/
def State.uartPut (s : State) (ag : Agent) (u : Nat) (w : W) : State :=
  s.onWrite ag .UART_DATA u w fun s =>
    let q := tget [] s.lsio.tx u
    let s1 : State := if 64 ≤ q.length then s.setFld UART_STATUS.TX_DROPPED u 1
      else { s with lsio := { s.lsio with tx := tset [] s.lsio.tx u (q ++ [field w 7 0]) } }
    (s1.uartStart u).uartSources u

/-- UART_TRANSMIT (R551): a write to UART_DATA. -/
def execUartTransmit (ag : Agent) (u : Nat) (w : W) (s : State) : Res := .next (if u < 2 then s.uartPut ag u w else s)

/-- A read of UART_DATA (R551) returns and pops one received byte. -/
def State.uartGet (s : State) (ag : Agent) (u : Nat) : State :=
  match s.gate ag .UART_DATA u none with
    | .pass =>
      let v := s.regRead .UART_DATA u none
      let s1 : State := { s with lsio := { s.lsio with rx := tset [] s.lsio.rx u ((tget [] s.lsio.rx u).drop 1) } }
      ((s1.uartSources u).snap .UART_DATA u v).answer ag v 0
    | g => s.refuse ag g (regAddr .UART_DATA u) false

/-- UART_RECEIVE_READ (R551): a read of UART_DATA. -/
def execUartReceiveRead (ag : Agent) (u : Nat) (s : State) : Res := .next (if u < 2 then s.uartGet ag u else s)

/-- UART_CHARACTER (R551): a character arrives; `err` says that it had a parity or framing error, or was a break. While EN is 0 it is
discarded; at a full FIFO it is dropped with RX_OVERRUN. -/
def execUartCharacter (u : Nat) (b : Byte) (err : Bool) (s : State) : Res :=
  .next <| if 2 ≤ u ∨ s.fld UART_CFG.EN u = 0 then s
  else
    let q := tget [] s.lsio.rx u
    let s1 : State := if 64 ≤ q.length then s.setFld UART_STATUS.RX_OVERRUN u 1
      else
        let s2 : State := { s with lsio := { s.lsio with rx := tset [] s.lsio.rx u (q ++ [(b.toNat, err)]) } }
        if err then s2.setFld UART_STATUS.RX_ERROR u 1 else s2
    s1.uartSources u

/-- UART_CHARACTER_SENT (R551, R553): the character in the shifter is out, and the next byte follows unless the transmitter is frozen; a
transmitter that a freeze held starts again. -/
def execUartCharacterSent (u : Nat) (s : State) : Res :=
  .next <| if 2 ≤ u ∨ s.fld UART_CFG.EN u = 0 then s
  else
    let s1 : State := match tget none s.lsio.shift u with
      | some b => { s with lsio := { s.lsio with shift := tset none s.lsio.shift u none, last := tset none s.lsio.last u (some b) } }
      | none => s
    (s1.uartStart u).uartSources u

/-- A write of UART_CFG. -/
def State.uartCfg (s : State) (ag : Agent) (u : Nat) (w : W) : State :=
  s.onWrite ag .UART_CFG u w fun s => (s.uartStart u).uartSources u

/-- A write of UART_STATUS. -/
def State.uartStatus (s : State) (ag : Agent) (u : Nat) (w : W) : State := s.onWrite ag .UART_STATUS u w fun s => s.uartSources u

/-- A write of GPIO_CFG (R552): its source's input follows the pin and INV. -/
def State.gpioCfg (s : State) (ag : Agent) (n : Nat) (w : W) : State :=
  s.onWrite ag .GPIO_CFG n w fun s => s.setSource (1696 + n) (s.gpioLevel n != (s.fld GPIO_CFG.INV n == 1))

/-! ### The outputs (R531 to R535, R542) -/

/-- What an output pin shows: a level it drives, a weak pull, neither (high impedance, released, squelched or electrically idle), or the
signalling of the protocol that the group's block runs. -/
inductive Drive where
  | low | high | pullUp | pullDown | off | protocol
  deriving DecidableEq, Repr

/-- The output groups of R531; a channel's, port's, UART's or pin's number where the group has several. -/
inductive OutPin where
  | ddrReset (ch : Nat) | cke (ch : Nat) | ddrOther (ch : Nat) | pcieTx (c : Nat) | perst (c p : Nat) | fabricTx (p : Nat)
  | flashCs | flashReset | flashBus | recSio | uartTxd (u : Nat) | gpio (n : Nat) | sideband | tdo | ready | errorN | thermtripN
  deriving DecidableEq, Repr

/-- The state of an output (R531 to R535, R552): that of the table until the block that serves the group is released and configured. -/
def State.output (s : State) : OutPin → Drive
  | .ddrReset ch | .cke ch => if s.fld MCT_CH_STATUS.STATE ch = 0 then .low else .protocol
  | .ddrOther ch => if s.fld MCT_CH_STATUS.STATE ch = 0 then .off else .protocol
  | .pcieTx c => if s.fld PCIE_CTL.EN c = 1 then .protocol else .off
  | .perst c p => if s.perstHigh c p then .high else .low
  | .fabricTx p => if s.fld FAB_PORT_CTL.ENABLE p = 1 then .protocol else .off
  | .flashCs => if s.relStep < 2 then .pullUp else .protocol
  | .flashReset => if s.relStep < 2 then .low else .protocol
  | .flashBus => if s.relStep < 2 then .pullDown else .protocol
  | .recSio => if s.rcv.active then .protocol else .off
  | .uartTxd u => if s.relStep < 3 then .pullUp else if (tget none s.lsio.shift u).isSome then .protocol else .high
  | .gpio n =>
    if s.fld GPIO_CFG.OE n = 1 then (if s.fld GPIO_CFG.OUT n = 1 then .high else .low)
    else match s.fld GPIO_CFG.PULL n with
      | 1 => .pullDown
      | 2 => .pullUp
      | _ => .off
  | .sideband | .tdo => .off
  | .ready => if s.readyPin then .high else .low
  | .errorN => if s.errorN then .low else .off
  | .thermtripN => if s.thermtrip then .low else .off

/-- The slew setting of TDO for a TCK period in nanoseconds (R542): 3 where the last period was shorter than 100 ns. -/
def State.tdoSlew (s : State) (tckNs : Nat) : Nat := if tckNs < 100 then 3 else s.fld LSIO_PAD_CFG.TDO_SLEW 0

/-- The baud rate of a UART (R551): 200 MHz over 16 × (DIV + FRAC / 16). -/
def State.baud (s : State) (u : Nat) : Nat := 200000000 / (16 * s.fld UART_CFG.DIV u + s.fld UART_CFG.FRAC u)

end Sys2Proof.Machine
end

