-- ==== Sys2Proof/Machine/Access.lean ====
section
/-! DEFINITION. Accesses to registers in general: writes of any register with what each one starts (R5 to R8, R19), snapshot reads (R7), and
the accesses of the debug module (R495, R504, R505). -/

namespace Sys2Proof.Machine

open Sys2Proof

/-- The state that a meaning answers. -/
def nextOf (s : State) (r : Res) : State := match r with | .next t => t | _ => s

/-! ### Writes -/

/-- A write to a block counter (R516): VALUE is loaded, and a 1 in bit 63 clears OVF. -/
def State.cntWrite (s : State) (ag : Agent) (i : Nat) (w : W) : State :=
  s.onWrite ag .CNT i w fun s =>
    let ovf := if bit w 63 then 0 else tget 0 s.cnt i / 2 ^ 48
    { s with cnt := tset 0 s.cnt i (field w 47 0 + ovf * 2 ^ 48) }

/-- A write to TILE_CORE_OVF: a 1 clears the OVF of a counter of the slot. -/
def State.ovfWrite (s : State) (ag : Agent) (c : Nat) (w : W) : State :=
  s.onWrite ag .TILE_CORE_OVF c w fun s =>
    { s with cnt := slotCounters.foldl (fun t k =>
        if bit w k then tset 0 t (coreCntKey c k) (tget 0 t (coreCntKey c k) % 2 ^ 48) else t) s.cnt }

/-- A write to PCIE_CTL: with EN 0 no link of the controller is up; one that was goes down, with its record and source (R314, R324). -/
def State.pcieCtlWrite (s : State) (ag : Agent) (c : Nat) (w : W) : State :=
  s.onWrite ag .PCIE_CTL c w fun s =>
    if s.fld PCIE_CTL.EN c = 1 then s else s.pcieDown c

/-- The priority threshold of a target changes, and a target that is now signalled tells its core (R376). -/
def State.threshWrite (s : State) (ag : Agent) (i : Nat) (w : W) : State :=
  s.onWrite ag .EVR_TGT_THRESH i w fun s => s.deliver (i / 17) (i % 17)

/-- A write of DBG_MEM_CTL (R504): GO issues one access, unless one is under way. Under NORMAL_CERT it carries the normal world, and it is
refused without the right MEMORY or for a partition outside PART_MASK. -/
def State.memCtlWrite (s : State) (p : DbgPort) (w : W) : State :=
  let n := portNo p
  let busy := s.fld DBG_MEM_CTL.BUSY 0
  let cert := s.session n == 1
  let w := if cert then putField w 59 59 0 else w
  s.portWrite p .DBG_MEM_CTL 0 w fun s =>
    if bit w 48 = false ∨ busy = 1 then s
    else
      let part := field w 58 55
      let no := cert && (!(s.fld DBG_AUTH.RIGHTS n).testBit 2 || !(s.fld DBG_AUTH.PART_MASK n).testBit part)
      let pa := field w 47 0
      let size := 2 ^ field w 54 53
      let sec := bit w 59
      let dev := (s.region pa == .aperture || s.region pa == .pcie) && (bit w 52 || bit w 60)
      let s1 := s.setFld DBG_MEM_CTL.BUSY 0 1
      let d := s1.rd .DBG_MEM_DATA 0
      let keep := fun (s : State) (t : Option Nat) => ({ s with dbg := { s.dbg with acc := some (w, d, no, t) } } : State)
      if no ∨ dev = false ∨ pa % size ≠ 0 ∨ (s1.worldOk 28 sec part pa).1 = false then keep s1 none
      else match s1.takeTxn 47 (.other 0) pa true with
        | none => keep s1 none
        | some (t, s2) =>
          let io : Io := { kind := if bit w 52 then 1 else 0, size := size, data := d.toNat, secure := sec, part := part }
          keep (s2.setIo 47 t io) (some t)

/-- GO (R504): a write of DBG_MEM_CTL with GO. -/
def execGo (p : DbgPort) (w : W) (s : State) : Res := .next (if bit w 48 then s.memCtlWrite p w else s)

/-- A write of any register of the DBG window through a port, with what it starts. -/
def State.dbgPut (s : State) (p : DbgPort) (r : RegId) (i : Nat) (w : W) (low : Bool) : State :=
  match r with
  | .DBG_AUTH => s.authWrite p w
  | .DBG_CORE_CTL => s.coreCtlWrite p i w
  | .DBG_CORE_REGDATA => s.regdata p i (some w) none
  | .DBG_VT_TX => s.vtAccess p 0 i (some w) low
  | .DBG_VT_RX => s.vtAccess p 1 i (some w) low
  | .DBG_MEM_CTL => s.memCtlWrite p w
  | .DBG_TRACE_CFG => s.traceCfgWrite p w
  | _ => s.portWrite p r i w id

/-- A write of `w` to unit `i` of any register by an agent, with what it starts; `low` says whether the low half is covered. -/
def State.regPut (s : State) (ag : Agent) (r : RegId) (i : Nat) (w : W) (low : Bool) : State :=
  let row := fun (x : Res) => nextOf s x
  if isDbgReg r then s.dbgPut (.mesh ag) r i w low
  else match r with
  | .MESH_LINK_CFG => row (execApply ag (i / 4) (i % 4) w s)
  | .MESH_INIT_STATUS => row (execClear ag i w s)
  | .LID_SECTION => if field w 1 0 = 2 then row (execOpen ag (i / 5) (i % 5) w s) else row (execClose ag (i / 5) (i % 5) w s)
  | .SPN_STREAM_CFG => if bit w 63 then row (execStreamEnable ag i (field w 1 0) s) else row (execStreamDisable ag i (field w 1 0) s)
  | .SPN_STREAM_STATE => (match field w 1 0 with
      | 1 => row (execFenceStream ag i s)
      | 2 => row (execResume ag i s)
      | 3 => row (execRestart ag i s)
      | _ => s.onWrite ag r i w id)
  | .JRN_DRAIN_PTR => row (execDrainPtrWrite ag i w s)
  | .JRN_REPL_MEMBERS => s.membersWrite ag i w
  | .JRN_REPL_STATE => if field w 3 0 = 1 then s.promoteWrite ag i w else s.stepDownWrite ag i w
  | .JRN_RSLOT_CFG => s.slotCfgWrite ag i w
  | .FAB_NODE => s.nodeWrite ag w
  | .FAB_PORT_CTL => row (execLaneSwap ag i w s)
  | .FAB_SQ_PTR => row (execTail ag i w s)
  | .MCT_ECC_COUNT => row (execEccCountClear ag i w s)
  | .PCIE_CTL => s.pcieCtlWrite ag i w
  | .PCIE_PORT_CFG => row (execPerstRel ag (i / 4) (i % 4) w s)
  | .IOMMU_INVAL => s.invalWrite ag i w
  | .CPH_RING_PTR => row (execCphTail ag (i / 32) (i % 32) w s)
  | .WPC_SYNC => row (execWpcSyncGo ag w s)
  | .WPC_PART_CTL => s.partCtlWrite ag i w
  | .EVR_SRC_CFG => row (execEvrSrcCfgWrite ag i w s)
  | .EVR_TGT_EOI => if low then row (execEvrTgtEoi ag (i / 17) (i % 17) w s) else s.onWrite ag r i w id
  | .EVR_TGT_INJECT => if low then row (execEvrTgtInject ag (i / 17) (i % 17) w s) else s.onWrite ag r i w id
  | .EVR_TGT_THRESH => s.threshWrite ag i w
  | .RCP_RESET_CAUSE => row (execClearCauses ag w s)
  | .RCP_RTC => row (execRtcWrite ag w s)
  | .RCP_PSTATE => row (execTarget ag i w s)
  | .RCP_BLOCK_CTL => row (execPwrOn ag i w s)
  | .TMR_WDOG => row (execKick ag i w s)
  | .MBX_DOORBELL => if field w 1 0 = 2 then row (execMbxAck ag i w s) else row (execRing ag i w s)
  | .TILE_CORE_OVF => s.ovfWrite ag i w
  | .CNT => s.cntWrite ag i w
  | .LDL_PART_CFG => s.ladleCfg ag i w
  | .UART_CFG => s.uartCfg ag i w
  | .UART_DATA => if low then s.uartPut ag i w else s.onWrite ag r i w id
  | .UART_STATUS => s.uartStatus ag i w
  | .GPIO_CFG => s.gpioCfg ag i w
  | _ => s.onWrite ag r i w id

/-- One half of a value replaced. -/
def putHalf (old : W) (high : Bool) (v : Nat) : W :=
  if high then BitVec.ofNat 64 (v % 2 ^ 32 * 2 ^ 32 + old.toNat % 2 ^ 32) else BitVec.ofNat 64 (old.toNat / 2 ^ 32 * 2 ^ 32 + v % 2 ^ 32)

/-- The whole-register value of a write to one half (R5). What CNT and DBG_CORE_REGDATA hold stands elsewhere. -/
def State.widen (s : State) (r : RegId) (i : Nat) (high : Bool) (v : Nat) : W :=
  if r = .CNT then putHalf (BitVec.ofNat 64 (field (s.regRead .CNT i none) 47 0)) high v
  else if r = .DBG_CORE_REGDATA then
    putHalf (match s.hartCore i with | some c => s.coreReg c (s.fld DBG_CORE_REGSEL.REG i) | none => 0) high v
  else s.halfValue r i high v

/-- A write of `size` bytes at an address of the on-die or secure-only space (R5 to R8, R17, R19, R358, R455). -/
def State.odcWrite (s : State) (ag : Agent) (pa size value : Nat) : State :=
  match bufAt pa with
  | some b =>
    if pa % size ≠ 0 ∨ ¬ (size = 1 ∨ size = 2 ∨ size = 4 ∨ size = 8) then s.answerW ag pa 5
    else (match s.odcGate ag pa true with
      | .pass => (s.bufPut b (leBytes size value)).answerW ag pa 0
      | g => s.refuse ag g pa true)
  | none => match regForm pa size with
    | none => (match regAt (pa - pa % 8) with
        | some _ => s.answerW ag pa 5
        | none => (match s.odcGate ag pa true with
            | .pass => s.answerW ag pa 0
            | g => s.refuse ag g pa true))
    | some (none, _) => (match s.odcGate ag pa true with
        | .pass => s.answerW ag pa 0
        | g => s.refuse ag g pa true)
    | some (some (r, i), none) => s.regPut ag r i (BitVec.ofNat 64 value) true
    | some (some (r, i), some high) => s.regPut ag r i (s.widen r i high value) (!high)

/-- REGISTER_WRITE (R5 to R8): a write to the on-die or secure-only space. -/
def execRegisterWrite (ag : Agent) (pa size value : Nat) (s : State) : Res :=
  .next <| match s.region pa with
  | .odc | .secureOnly => s.odcWrite ag pa size value
  | _ => s

/-! ### Reads -/

/-- Registers whose whole read pops, claims or reads a core's register, in a row of its own. -/
def popRow (r : RegId) : Bool := r == .EVR_TGT_CLAIM || r == .UART_DATA || r == .DBG_VT_TX || r == .DBG_VT_RX || r == .DBG_CORE_REGDATA

/-- A read of a register with RS fields (R7): the whole register or its low half latches the snapshot, and the high half returns the RS
fields of the last one. DESIGN CHOICE (log entry 21): the high half read before any snapshot has been latched returns the present value. -/
def State.snapRead (s : State) (ag : Agent) (r : RegId) (i : Nat) (half : Option Bool) : State :=
  match s.gate ag r i none with
  | .pass =>
    let cur := s.regRead r i (if s.agentSecure ag then none else some (s.agentPart ag))
    if half = some true then
      let old := (tget none s.snaps (snapKey r i)).getD cur
      let v := r.flds.foldl (fun (v : W) F => if F.acc = .rs then putField v F.hi F.lo (field old F.hi F.lo) else v) cur
      s.answer ag (halfOf v half) 0
    else (s.snap r i cur).answer ag (halfOf cur half) 0
  | g => s.refuse ag g (regAddr r i) false

/-- RS_SNAPSHOT_READ (R7): a read of a register with RS fields that has no other row. -/
def execRsSnapshotRead (ag : Agent) (pa size : Nat) (s : State) : Res :=
  .next <| match regForm pa size with
  | some (some (r, i), half) =>
    if readRow r = false ∨ r = .DBG_CORE_REGDATA ∨ (popRow r ∧ half ≠ some true) then s else s.snapRead ag r i half
  | _ => s

/-- A read of any register or buffer as a load performs it, with its side effects. -/
def State.regGet (s : State) (ag : Agent) (pa size : Nat) : State :=
  match regForm pa size with
  | some (some (r, i), half) =>
    if readRow r = false then s.odcRead ag pa size
    else if r = .DBG_CORE_REGDATA then s.regdata (.mesh ag) i none half
    else if half = some true ∨ popRow r = false then s.snapRead ag r i half
    else match r with
      | .EVR_TGT_CLAIM => s.claim ag (i / 17) (i % 17)
      | .UART_DATA => s.uartGet ag i
      | .DBG_VT_TX => s.vtAccess (.mesh ag) 0 i none true
      | _ => s.vtAccess (.mesh ag) 1 i none true
  | _ => s.odcRead ag pa size

/-! ### Accesses of the debug module (R495, R504, R505) -/

/-- The debug module's access ends: STATUS, and the data of a read. -/
def State.dbgEnd (s : State) (status : Nat) (data : Option Nat) : State :=
  let s1 : State := { s with dbg := { s.dbg with acc := none, ans := none } }
  let s2 := (s1.setFld DBG_MEM_CTL.BUSY 0 0).setFld DBG_MEM_CTL.STATUS 0 status
  match data with
  | some d => s2.wr .DBG_MEM_DATA 0 (BitVec.ofNat 64 d)
  | none => s2

/-- STATUS of DBG_MEM_CTL for an answer to the access. -/
def dbgStatus (st : Nat) : Nat := if st = 0 then 0 else if st = 3 then 2 else 1

/-- What a peek of the ODC space returns: the present value, with nothing popped, latched or claimed (R505). -/
def State.peek (s : State) (ag : Agent) (pa size : Nat) : State :=
  match regForm pa size with
  | some (some (r, i), half) => (match s.gate ag r i none with
      | .pass => s.answer ag (halfOf (if r = .DBG_CORE_REGDATA then 0
          else s.regRead r i (if s.agentSecure ag then none else some (s.agentPart ag))) half) 0
      | g => s.refuse ag g pa false)
  | _ => s.odcRead ag pa size

/-- The debug module's access is performed at its target (R504, R505). -/
def State.dbgPerform (s : State) (w d : W) (no : Bool) (tag : Option Nat) : State :=
  let pa := field w 47 0
  let size := 2 ^ field w 54 53
  let write := bit w 52
  let effect := bit w 60 || write
  let sec := bit w 59
  let part := field w 58 55
  let ag : Agent := .dbg sec part
  let fin := fun (s : State) => match s.dbg.ans with
    | some (v, st) => s.dbgEnd (if st = 5 then 1 else dbgStatus st) (if write then none else some (v % 2 ^ (8 * size)))
    | none => s.dbgEnd 1 none
  let reg := s.region pa
  if no then s.dbgEnd 2 none
  else if pa % size ≠ 0 ∨ reg = .vacant then s.dbgEnd 1 none
  else if reg = .dram then
    if (sec || s.wtOwner pa == some part) = false then (s.refuse ag .early pa write).dbgEnd 2 none
    else if s.lineOk (pa / 64) = false then s.dbgEnd 1 none
    else if write then (s.agentWriteBytes pa (leBytes size d.toNat) sec).dbgEnd 0 none
    else if (s.curLine (pa / 64)).poison then s.dbgEnd 1 none
    else
      let s1 := s.agentRead (pa / 64)
      s1.dbgEnd 0 (some (s1.curNat pa size))
  else if effect = false ∧ reg ≠ .odc then s.dbgEnd 3 none
  else if reg = .odc ∨ reg = .secureOnly then
    let s0 : State := { s with dbg := { s.dbg with ans := none } }
    if write then fin (s0.odcWrite ag pa size d.toNat)
    else if effect then fin (s0.regGet ag pa size) else fin (s0.peek ag pa size)
  else match tag with
    | none => if (s.worldOk 28 sec part pa).1 then s.dbgEnd 1 none else (s.refuse ag .early pa write).dbgEnd 2 none
    | some t =>
      let x := tget {} s.txns (47 * 1024 + t)
      if x.use ≠ some (.other 0) then s.dbgEnd 1 none
      else match x.io.ans with
        | some (v, st) => (s.freeTxn 47 t).dbgEnd (dbgStatus st) (if write ∨ st ≠ 0 then none else some (v % 2 ^ (8 * size)))
        | none => s

/-- DEBUG_ACCESS_COMPLETE (R505): the access under way completes with its status and data. -/
def execDebugAccessComplete (s : State) : Res :=
  .next <| match s.dbg.acc with
  | some (w, d, no, tag) => s.dbgPerform w d no tag
  | none => s

/-- A read of any register of the DBG window through the JTAG port. -/
def State.jtagRead (s : State) (r : RegId) (i : Nat) : State :=
  match r with
  | .DBG_CORE_REGDATA => s.regdata .jtag i none none
  | .DBG_VT_TX => s.vtAccess .jtag 0 i none true
  | .DBG_VT_RX => s.vtAccess .jtag 1 i none true
  | .DBG_AUTH => s.portAnswer .jtag (putField (s.rd .DBG_AUTH 0) 1 0 0) 0
  | .DBG_AUTH_NONCE => s.portAnswer .jtag (s.rd .DBG_AUTH_NONCE (i % 4)) 0
  | _ => s.portAccess .jtag r i none fun s => (s.regRead r i none, s)

/-- DBGACC (R495): a read (`op` 1) or a write (`op` 2) of 64 bits at an offset of the DBG window. -/
def execDbgacc (op off : Nat) (data : W) (s0 : State) : Res :=
  let s := s0.setTap fun t => { t with ir := 0x10, driving := false }
  let pa := regAddr .DBG_AUTH 0 + off % 2 ^ 24
  .next <| if op ≠ 1 ∧ op ≠ 2 then s
  else if pa % 8 ≠ 0 then s.portAnswer .jtag 0 5
  else match bufAt pa with
    | some b =>
      if s.dbg.ceilOn = false ∨ s.lc = 5 then s.portAnswer .jtag 0 (if op = 2 then 3 else 0)
      else if op = 2 then (s.bufPut b (leBytes 8 data.toNat)).portAnswer .jtag s.dbg.tap.data 0
      else s.portAnswer .jtag (BitVec.ofNat 64 (s.bufGet b 8)) 0
    | none => match regAt pa with
      | none => s.portAnswer .jtag (if op = 2 then s.dbg.tap.data else 0) 0
      | some (r, i) =>
        if isDbgReg r = false then s.portAnswer .jtag (if op = 2 then s.dbg.tap.data else 0) 0
        else if op = 2 then s.dbgPut .jtag r i data true
        else s.jtagRead r i

end Sys2Proof.Machine
end

