-- ==== Sys2Proof/Machine/Tick.lean ====
section
/-! DEFINITION. One nanosecond without a command: the counters that run by themselves (R49, R250, R412, R452, R517) and the packets that the
mesh moves (R128 to R137). What a count that runs out causes is a command of its own. -/

namespace Sys2Proof.Machine

open Sys2Proof

/-- DTIME (R36, R250): one nanosecond, slewed by at most 200 parts per million until the offset is gone; it never decreases. -/
def State.tickTime (s : State) : State :=
  if s.slew = 0 then { s with dtime := s.dtime + 1 }
  else if s.slewAcc + 200 < 1000000 then { s with dtime := s.dtime + 1, slewAcc := s.slewAcc + 200 }
  else if 0 < s.slew then { s with dtime := s.dtime + 2, slewAcc := s.slewAcc + 200 - 1000000, slew := s.slew - 1 }
  else { s with slewAcc := s.slewAcc + 200 - 1000000, slew := s.slew + 1 }

/-- The RTC (R429): 32,768 ticks a second. -/
def State.tickRtc (s : State) : State :=
  if s.rtcAcc + 32768 < 1000000000 then { s with rtcAcc := s.rtcAcc + 32768 }
  else ({ s with rtcAcc := s.rtcAcc + 32768 - 1000000000 } : State).wr .RCP_RTC 0 (s.rd .RCP_RTC 0 + 1)

/-- One nanosecond of a watchdog that runs (R452): each whole millisecond takes one from `REMAIN_MS`. -/
def State.tickCount (s : State) (f : Fld) (i slot : Nat) : State :=
  if s.fld f i = 0 then s
  else if tget 0 s.wdogNs slot + 1 < 1000000 then { s with wdogNs := tset 0 s.wdogNs slot (tget 0 s.wdogNs slot + 1) }
  else ({ s with wdogNs := tset 0 s.wdogNs slot 0 } : State).setFld f i (s.fld f i - 1)

/-- The 17 watchdogs, each counting while it is enabled and not frozen (R452, R506), and the trial watchdog (R412). -/
def State.tickDogs (s : State) : State :=
  let s1 := (List.range 17).foldl (fun s w =>
    if s.fld TMR_WDOG.EN w = 0 ∨ s.wdogFrozen w then s else s.tickCount TMR_WDOG.REMAIN_MS w w) s
  if s1.fld SP_TRIAL.RUNNING 0 = 1 ∧ (s1.halted 16 && s1.fld DBG_FREEZE.TRIAL 0 == 1) = false then
    s1.tickCount SP_TRIAL.REMAIN_MS 0 17
  else s1

/-- Tenths of a core cycle in one nanosecond at a P-state (R49). -/
def pTenths (p : Nat) : Nat := if p = 0 then 30 else if p = 1 then 24 else if p = 2 then 16 else 8

/-- Add `n` to counter `k` of core `c`. -/
def State.addCnt (s : State) (c k n : Nat) : State :=
  if n = 0 then s else { s with cnt := tset 0 s.cnt (coreCntKey c k) (cntAdd (tget 0 s.cnt (coreCntKey c k)) n) }

/-- One nanosecond of a core's cycle counters (R517, R518): mcycle, the programmable events that count cycles, none of them while the
core is halted, stops for a P-state change, is gated or is held in reset (R50, R499). -/
def State.tickCore (s : State) (c : Nat) : State :=
  let k := s.core c
  if k.run = .held ∨ k.run = .halted ∨ k.run = .gated ∨ tget false s.pStop k.part then s
  else
    let t := tget 0 s.cycAcc c + pTenths (s.fld RCP_PSTATE.CURRENT k.part)
    let n := t / 10
    let inh := k.getCsr 0x320
    let s1 : State := { s with cycAcc := tset 0 s.cycAcc c (t % 10) }
    let s2 := if bit inh 0 then s1 else s1.addCnt c 0 n
    let busy := (k.reqs.filter fun e => e.2.isSome).length
    [3, 4, 5, 6, 7, 8].foldl (fun s j =>
      if bit inh j then s
      else match (k.getCsr (0x320 + j)).toNat with
        | 0x07 => s.addCnt c j (busy * n)
        | 0x0F => if k.cgWait.isSome then s.addCnt c j n else s
        | _ => s) s2

/-! ### The per-cycle events of the block counters (R521, R522) -/

/-- The cycles of a clock of `num / den` cycles per nanosecond that end by time `t` and had not ended by `t0`. -/
def cyclesIn (num den t0 t : Nat) : Nat := t * num / den - t0 * num / den

/-- Half the transfer rate of a channel in MHz (R281): its clock. -/
def channelMts (speed : Nat) : Nat := if speed = 1 then 2400 else if speed = 2 then 2666 else if speed = 3 then 2933 else if speed = 4 then 3200 else 0

/-- An event that adds `q` in each of `n` cycles of a unit. -/
def State.perCycle (s : State) (unit ev : Nat) (part : Option Nat) (q n : Nat) : State :=
  if q * n = 0 then s else s.count unit ev part (q * n)

/-- The requests of a core that wait under R118, each counted for its partition in `n` mesh cycles. -/
def State.tickBackoff (s : State) (n c : Nat) : State :=
  (s.core c).reqs.foldl (fun s e => match e.2 with
    | some r => if r.wait = 0 then s else s.perCycle (cuTile (coreTile c)) 0x04 (some r.part) 1 n
    | none => s) s

/-- The tracker entries that each home has in use. -/
def State.tickTrackers (s : State) (n : Nat) : State :=
  (List.range 24).foldl (fun s t => s.perCycle (cuTile t) 0x0A none (s.trk.filter fun e => homeOf e.1 == t).length n) s

/-- The queues of a channel. -/
def State.tickChannel (s : State) (t0 ch : Nat) : State :=
  let n := cyclesIn (channelMts (s.fld MCT_CH_STATUS.SPEED ch)) 2000 t0 s.dtime
  (s.perCycle (cuCh ch) 0x04 none (s.chan ch).reads.length n).perCycle (cuCh ch) 0x05 none (s.chan ch).writes.length n

/-- A port's slots of 5.12 ns: those in which a folio waits without a credit, and the remote reads outstanding. -/
def State.tickPort (s : State) (t0 p : Nat) : State :=
  let n := cyclesIn 100 512 t0 s.dtime
  let x := s.port p
  let stuck := (List.range 8).any fun c => !(tget [] x.txq c).isEmpty && !x.credit c
  let reads := s.fabRem.filter fun e => match e.2 with
    | some o => o.port == p && o.pkt.op == 1
    | none => false
  (s.perCycle (cuPort p) 0x07 none (b2n stuck) n).perCycle (cuPort p) 0x08 none reads.length n

/-- The Spine and the journal engine: requests parked, reservations waiting, bytes staged, and regions that are full. -/
def State.tickSpine (s : State) (n : Nat) : State :=
  let parked := (s.spn.map fun e => e.2.parked.length).sum
  let waiting := (s.jrnRes.map fun e => (e.2.filter fun r => !r.granted).length).sum
  let bytes := ((List.range 64).map s.staged).sum
  let full := (List.range 64).any fun i => s.fld JRN_STREAM_STATUS.REGION_FULL i == 1
  (((s.perCycle cuSpn 0x06 none parked n).perCycle cuJrn 0x06 none waiting n).perCycle cuJrn 0x07 none (bytes / 65536) n).perCycle
    cuJrn 0x08 none (b2n full) n

/-- The block counters' per-cycle events since DTIME was `t0`: two mesh cycles and 1.6 cluster cycles a nanosecond (R436). -/
def State.tickBlocks (s : State) (t0 : Nat) : State :=
  let n := cyclesIn 2 1 t0 s.dtime
  let s1 := ((s.cores.map (·.1)).foldl (fun s c => s.tickBackoff n c) s).tickTrackers n
  let s2 := (List.range 16).foldl (fun s ch => s.tickChannel t0 ch) s1
  let s3 := ((List.range 8).foldl (fun s p => s.tickPort t0 p) s2).tickSpine n
  let s4 := (List.range 2).foldl (fun s k => s.perCycle (cuCph k) 0x05 none (s.fld CPH_STATUS.JOBS k) (cyclesIn 16 10 t0 s.dtime)) s3
  (List.range 4).foldl (fun s c =>
    s.perCycle (cuPcie c) 0x06 none (s.pcieTags.filter fun e => e.1 / 1024 == c && e.2.isSome).length n) s4

/-- Whether a block counter runs. -/
def State.counting (s : State) : Bool := (tget [] s.regs RegId.CNT_CFG.num).any fun e => bit e.2 63

/-- What the block does when no command waits: one nanosecond passes, in which the mesh runs two cycles at the 2 GHz of its clock (R49, R135). -/
def State.tick (s : State) : State :=
  let s1 := (s.cores.map (·.1)).foldl (fun s c => s.tickCore c) s.tickTime.tickRtc.tickDogs.meshCycle.meshCycle
  if s1.counting then s1.tickBlocks s.dtime else s1

end Sys2Proof.Machine
end

