-- ==== Sys2Proof/Machine/Dispatch.lean ====
section
/-! DEFINITION. One arm per command: a direct call of its meaning. -/

namespace Sys2Proof.Machine

open Sys2Proof

def exec (i : Instr) (s : State) : Host.Outcome State Fault Refusal :=
  match i with
  | .registerWrite ag pa size value => Sys2Proof.Machine.execRegisterWrite ag pa size value s
  | .rsSnapshotRead ag pa size => Sys2Proof.Machine.execRsSnapshotRead ag pa size s
  | .load c dst rs1 imm size len acc ahead off n insn => Sys2Proof.Machine.execLoad c dst rs1 imm size len acc ahead off n insn s
  | .store c src rs1 imm size len acc insn => Sys2Proof.Machine.execStore c src rs1 imm size len acc insn s
  | .storeBufferWrite c n => Sys2Proof.Machine.execStoreBufferWrite c n s
  | .amo c op rd rs1 rs2 size aq rl len => Sys2Proof.Machine.execAmo c op rd rs1 rs2 size aq rl len s
  | .lr c rd rs1 size aq rl len => Sys2Proof.Machine.execLr c rd rs1 size aq rl len s
  | .sc c rd rs1 rs2 size aq rl len => Sys2Proof.Machine.execSc c rd rs1 rs2 size aq rl len s
  | .holdWindowEnd c => Sys2Proof.Machine.execHoldWindowEnd c s
  | .fence c pred succ len => Sys2Proof.Machine.execFence c pred succ len s
  | .fenceTso c len => Sys2Proof.Machine.execFenceTso c len s
  | .fenceI c len => Sys2Proof.Machine.execFenceI c len s
  | .sfenceVma c rs1 rs2 len insn => Sys2Proof.Machine.execSfenceVma c rs1 rs2 len insn s
  | .hfenceVvma c rs1 rs2 len insn => Sys2Proof.Machine.execHfenceVvma c rs1 rs2 len insn s
  | .hfenceGvma c rs1 rs2 len insn => Sys2Proof.Machine.execHfenceGvma c rs1 rs2 len insn s
  | .sinvalVma c kind rs1 rs2 len insn => Sys2Proof.Machine.execSinvalVma c kind rs1 rs2 len insn s
  | .sfenceWInval c len insn => Sys2Proof.Machine.execSfenceWInval c len insn s
  | .sfenceInvalIr c len insn => Sys2Proof.Machine.execSfenceInvalIr c len insn s
  | .cboZero c rs1 len insn => Sys2Proof.Machine.execCboZero c rs1 len insn s
  | .cboClean c rs1 len insn => Sys2Proof.Machine.execCboClean c rs1 len insn s
  | .cboFlush c rs1 len insn => Sys2Proof.Machine.execCboFlush c rs1 len insn s
  | .cboInval c rs1 len insn => Sys2Proof.Machine.execCboInval c rs1 len insn s
  | .prefetch c kind rs1 imm len => Sys2Proof.Machine.execPrefetch c kind rs1 imm len s
  | .wfi c len insn => Sys2Proof.Machine.execWfi c len insn s
  | .wfiWake c => Sys2Proof.Machine.execWfiWake c s
  | .pause c len => Sys2Proof.Machine.execPause c len s
  | .pauseEnd c => Sys2Proof.Machine.execPauseEnd c s
  | .timeRead c rd len insn => Sys2Proof.Machine.execTimeRead c rd len insn s
  | .csrWrite c csr op rd rs1 imm len insn => Sys2Proof.Machine.execCsrWrite c csr op rd rs1 imm len insn s
  | .ecall c => Sys2Proof.Machine.execEcall c s
  | .ebreak c => Sys2Proof.Machine.execEbreak c s
  | .mret c insn => Sys2Proof.Machine.execMret c insn s
  | .sret c insn => Sys2Proof.Machine.execSret c insn s
  | .trap c intr code tval gpa => Sys2Proof.Machine.execTrap c intr code tval gpa s
  | .branchMispredict c rd taken jump call ret target len => Sys2Proof.Machine.execBranchMispredict c rd taken jump call ret target len s
  | .pageTableWalk c va acc spec => Sys2Proof.Machine.execPageTableWalk c va acc spec s
  | .deviceStoreAck c target tag status => Sys2Proof.Machine.execDeviceStoreAck c target tag status s
  | .rdShared c line => Sys2Proof.Machine.execRdShared c line s
  | .rdOwn rq line => Sys2Proof.Machine.execRdOwn rq line s
  | .upgrade c line => Sys2Proof.Machine.execUpgrade c line s
  | .rdOnce pos line => Sys2Proof.Machine.execRdOnce pos line s
  | .wrLine pos line data => Sys2Proof.Machine.execWrLine pos line data s
  | .cboFlushRequest c line => Sys2Proof.Machine.execCboFlushRequest c line s
  | .amoHome c line => Sys2Proof.Machine.execAmoHome c line s
  | .nak rq line => Sys2Proof.Machine.execNak rq line s
  | .nakRetry rq line => Sys2Proof.Machine.execNakRetry rq line s
  | .fairnessReservationDrop line => Sys2Proof.Machine.execFairnessReservationDrop line s
  | .comp rq line => Sys2Proof.Machine.execComp rq line s
  | .data rq line => Sys2Proof.Machine.execData rq line s
  | .deferRsp line => Sys2Proof.Machine.execDeferRsp line s
  | .wbDirty c line => Sys2Proof.Machine.execWbDirty c line s
  | .evictClean c line => Sys2Proof.Machine.execEvictClean c line s
  | .wbAck c line => Sys2Proof.Machine.execWbAck c line s
  | .wbAckDiscarded c line => Sys2Proof.Machine.execWbAckDiscarded c line s
  | .evictAck c line => Sys2Proof.Machine.execEvictAck c line s
  | .snpShared ring slot pos => Sys2Proof.Machine.execSnpShared ring slot pos s
  | .snpOwn ring slot pos => Sys2Proof.Machine.execSnpOwn ring slot pos s
  | .snpOnce ring slot pos => Sys2Proof.Machine.execSnpOnce ring slot pos s
  | .snpInv ring slot pos => Sys2Proof.Machine.execSnpInv ring slot pos s
  | .combinedResponse ring slot => Sys2Proof.Machine.execCombinedResponse ring slot s
  | .snoopSlotReservation line ring slot => Sys2Proof.Machine.execSnoopSlotReservation line ring slot s
  | .timeout node tag => Sys2Proof.Machine.execTimeout node tag s
  | .lateResponse node tag => Sys2Proof.Machine.execLateResponse node tag s
  | .errorResponse node tag status => Sys2Proof.Machine.execErrorResponse node tag status s
  | .linkCorrected node port wire => Sys2Proof.Machine.execLinkCorrected node port wire s
  | .linkUncorrected node port => Sys2Proof.Machine.execLinkUncorrected node port s
  | .apply ag node port w => Sys2Proof.Machine.execApply ag node port w s
  | .linkReconfigDone node port => Sys2Proof.Machine.execLinkReconfigDone node port s
  | .clear ag node w => Sys2Proof.Machine.execClear ag node w s
  | .close ag node sec w => Sys2Proof.Machine.execClose ag node sec w s
  | .lidOpen ag node sec w => Sys2Proof.Machine.execOpen ag node sec w s
  | .lidDrain node sec => Sys2Proof.Machine.execLidDrain node sec s
  | .lidDrainLimit node sec => Sys2Proof.Machine.execLidDrainLimit node sec s
  | .lidClosed node sec => Sys2Proof.Machine.execLidClosed node sec s
  | .domainOff node tag => Sys2Proof.Machine.execDomainOff node tag s
  | .cgBegin c rd rs1 len insn => Sys2Proof.Machine.execCgBegin c rd rs1 len insn s
  | .cgEnd c rd rs1 len insn => Sys2Proof.Machine.execCgEnd c rd rs1 len insn s
  | .cgAbort c rs1 len insn => Sys2Proof.Machine.execCgAbort c rs1 len insn s
  | .cgTest c rd len insn => Sys2Proof.Machine.execCgTest c rd len insn s
  | .fenceD c len insn => Sys2Proof.Machine.execFenceD c len insn s
  | .cgInterruptDeferral c => Sys2Proof.Machine.execCgInterruptDeferral c s
  | .stagingReservation c => Sys2Proof.Machine.execStagingReservation c s
  | .stagingGrant c => Sys2Proof.Machine.execStagingGrant c s
  | .journalFull c => Sys2Proof.Machine.execJournalFull c s
  | .stagingCancel c => Sys2Proof.Machine.execStagingCancel c s
  | .commitRequest c => Sys2Proof.Machine.execCommitRequest c s
  | .commitReply c => Sys2Proof.Machine.execCommitReply c s
  | .flipWindowEnd c => Sys2Proof.Machine.execFlipWindowEnd c s
  | .recordSegment stream g => Sys2Proof.Machine.execRecordSegment stream g s
  | .watermarkPublication dest => Sys2Proof.Machine.execWatermarkPublication dest s
  | .cgDepseqWrite c op rd rs1 imm len => Sys2Proof.Machine.execCgDepseqWrite c op rd rs1 imm len s
  | .cgDepseqAnswer c => Sys2Proof.Machine.execCgDepseqAnswer c s
  | .lostClear c op rd rs1 imm len => Sys2Proof.Machine.execLostClear c op rd rs1 imm len s
  | .publicationRound => Sys2Proof.Machine.execPublicationRound s
  | .resolution stream => Sys2Proof.Machine.execResolution stream s
  | .streamEnable ag stream level => Sys2Proof.Machine.execStreamEnable ag stream level s
  | .streamDisable ag stream level => Sys2Proof.Machine.execStreamDisable ag stream level s
  | .fenceStream ag stream => Sys2Proof.Machine.execFenceStream ag stream s
  | .resume ag stream => Sys2Proof.Machine.execResume ag stream s
  | .restart ag stream => Sys2Proof.Machine.execRestart ag stream s
  | .sweep stream dest => Sys2Proof.Machine.execSweep stream dest s
  | .sweepAnswer stream dest => Sys2Proof.Machine.execSweepAnswer stream dest s
  | .closeMark c => Sys2Proof.Machine.execCloseMark c s
  | .journalAppend stream => Sys2Proof.Machine.execJournalAppend stream s
  | .appendAccepted stream g => Sys2Proof.Machine.execAppendAccepted stream g s
  | .drainPtrWrite ag stream w => Sys2Proof.Machine.execDrainPtrWrite ag stream w s
  | .park c op rd rs1 imm len insn => Sys2Proof.Machine.execPark c op rd rs1 imm len insn s
  | .bind c op rd rs1 imm len insn => Sys2Proof.Machine.execBind c op rd rs1 imm len insn s
  | .unbind c op rd rs1 imm len insn => Sys2Proof.Machine.execUnbind c op rd rs1 imm len insn s
  | .pairSync c len insn => Sys2Proof.Machine.execPairSync c len insn s
  | .intervalEnd ix => Sys2Proof.Machine.execIntervalEnd ix s
  | .intervalComparison ix sig stores race => Sys2Proof.Machine.execIntervalComparison ix sig stores race s
  | .voteSparePowered ix => Sys2Proof.Machine.execVoteSparePowered ix s
  | .voteResult ix tSig tStores sSig sStores fin => Sys2Proof.Machine.execVoteResult ix tSig tStores sSig sStores fin s
  | .voteLimit ix => Sys2Proof.Machine.execVoteLimit ix s
  | .enable ag p w => Sys2Proof.Machine.execEnable ag p w s
  | .retrain ag p w => Sys2Proof.Machine.execRetrain ag p w s
  | .laneSwap ag p w => Sys2Proof.Machine.execLaneSwap ag p w s
  | .laneSwapPacket => Sys2Proof.Machine.execLaneSwapPacket s
  | .trainingComplete p lanes rtt => Sys2Proof.Machine.execTrainingComplete p lanes rtt s
  | .trainingRetry p => Sys2Proof.Machine.execTrainingRetry p s
  | .attestNonce => Sys2Proof.Machine.execAttestNonce s
  | .attestEvidence => Sys2Proof.Machine.execAttestEvidence s
  | .attestResult => Sys2Proof.Machine.execAttestResult s
  | .attestationLimit p => Sys2Proof.Machine.execAttestationLimit p s
  | .dataFolio p f => Sys2Proof.Machine.execDataFolio p f s
  | .idleFolio p f => Sys2Proof.Machine.execIdleFolio p f s
  | .folioNak p ack => Sys2Proof.Machine.execFolioNak p ack s
  | .nakRepeat p => Sys2Proof.Machine.execNakRepeat p s
  | .replayTimeout p => Sys2Proof.Machine.execReplayTimeout p s
  | .linkDown p loss => Sys2Proof.Machine.execLinkDown p loss s
  | .switchForward p => Sys2Proof.Machine.execSwitchForward p s
  | .apertureAccess node tag => Sys2Proof.Machine.execApertureAccess node tag s
  | .write => Sys2Proof.Machine.execWrite s
  | .read => Sys2Proof.Machine.execRead s
  | .atomic => Sys2Proof.Machine.execAtomic s
  | .readRsp => Sys2Proof.Machine.execReadRsp s
  | .writeAck => Sys2Proof.Machine.execWriteAck s
  | .atomicRsp => Sys2Proof.Machine.execAtomicRsp s
  | .remoteReadTimeout tag => Sys2Proof.Machine.execRemoteReadTimeout tag s
  | .msg => Sys2Proof.Machine.execMsg s
  | .msgRsp => Sys2Proof.Machine.execMsgRsp s
  | .tail ag q w => Sys2Proof.Machine.execTail ag q w s
  | .consumer ag ring w => Sys2Proof.Machine.execConsumer ag ring w s
  | .timeSync => Sys2Proof.Machine.execTimeSync s
  | .timeSyncInterval p => Sys2Proof.Machine.execTimeSyncInterval p s
  | .timeDelayReq => Sys2Proof.Machine.execTimeDelayReq s
  | .timeDelayRsp => Sys2Proof.Machine.execTimeDelayRsp s
  | .remoteReset => Sys2Proof.Machine.execRemoteReset s
  | .remoteResetVerified => Sys2Proof.Machine.execRemoteResetVerified s
  | .remoteResetRsp => Sys2Proof.Machine.execRemoteResetRsp s
  | .quire => Sys2Proof.Machine.execQuire s
  | .ack => Sys2Proof.Machine.execAck s
  | .reject => Sys2Proof.Machine.execReject s
  | .probe => Sys2Proof.Machine.execProbe s
  | .probeInterval stream r => Sys2Proof.Machine.execProbeInterval stream r s
  | .rejoin => Sys2Proof.Machine.execRejoin s
  | .termRequest => Sys2Proof.Machine.execTermRequest s
  | .termGrant => Sys2Proof.Machine.execTermGrant s
  | .termRefuse => Sys2Proof.Machine.execTermRefuse s
  | .lastGasp => Sys2Proof.Machine.execLastGasp s
  | .cmdPromote ag stream w => Sys2Proof.Machine.execCmdPromote ag stream w s
  | .stepDown ag stream w => Sys2Proof.Machine.execStepDown ag stream w s
  | .promotionLimit stream => Sys2Proof.Machine.execPromotionLimit stream s
  | .replicaSilent stream r => Sys2Proof.Machine.execReplicaSilent stream r s
  | .catchupWalk stream r => Sys2Proof.Machine.execCatchupWalk stream r s
  | .catchupSwitch stream r => Sys2Proof.Machine.execCatchupSwitch stream r s
  | .slotValid ag slot w => Sys2Proof.Machine.execSlotValid ag slot w s
  | .lastGaspBudget stream => Sys2Proof.Machine.execLastGaspBudget stream s
  | .degradedFromClear ag stream w => Sys2Proof.Machine.execDegradedFromClear ag stream w s
  | .channelTraining ch pop => Sys2Proof.Machine.execChannelTraining ch pop s
  | .dramZeroing => Sys2Proof.Machine.execDramZeroing s
  | .mctDecodeWrite ag n w => Sys2Proof.Machine.execMctDecodeWrite ag n w s
  | .mcRead line cls part bucket => Sys2Proof.Machine.execMcRead line cls part bucket s
  | .mcWrite line data mask poison cls part bucket b pb => Sys2Proof.Machine.execMcWrite line data mask poison cls part bucket b pb s
  | .dramReadComplete ch hits b pb => Sys2Proof.Machine.execDramReadComplete ch hits b pb s
  | .refresh ch rank postpone => Sys2Proof.Machine.execRefresh ch rank postpone s
  | .zqcs ch rank => Sys2Proof.Machine.execZqcs ch rank s
  | .caParityFailure ch => Sys2Proof.Machine.execCaParityFailure ch s
  | .channelLost ch => Sys2Proof.Machine.execChannelLost ch s
  | .deviceErased ch rank dev => Sys2Proof.Machine.execDeviceErased ch rank dev s
  | .pprApplied ch line place => Sys2Proof.Machine.execPprApplied ch line place s
  | .rankSpared ch rank => Sys2Proof.Machine.execRankSpared ch rank s
  | .rankCopyDone ch => Sys2Proof.Machine.execRankCopyDone ch s
  | .patrolScrub ch b pb => Sys2Proof.Machine.execPatrolScrub ch b pb s
  | .selfRefreshEntry ch => Sys2Proof.Machine.execSelfRefreshEntry ch s
  | .selfRefreshExit ch => Sys2Proof.Machine.execSelfRefreshExit ch s
  | .eccCountClear ag ch w => Sys2Proof.Machine.execEccCountClear ag ch w s
  | .pcieOutboundRequest node tag p tenBit => Sys2Proof.Machine.execPcieOutboundRequest node tag p tenBit s
  | .pcieCompletion c tag status data poisoned => Sys2Proof.Machine.execPcieCompletion c tag status data poisoned s
  | .pcieCplTimeout c tag => Sys2Proof.Machine.execPcieCplTimeout c tag s
  | .pcieInboundRequest c p rid write addr len data pasid bar2 tenBit => Sys2Proof.Machine.execPcieInboundRequest c p rid write addr len data pasid bar2 tenBit s
  | .pcieLinkDown c p up width speed ltssm surprise => Sys2Proof.Machine.execPcieLinkDown c p up width speed ltssm surprise s
  | .pcieAer c p sev => Sys2Proof.Machine.execPcieAer c p sev s
  | .perstRel ag c p w => Sys2Proof.Machine.execPerstRel ag c p w s
  | .invalPartition ag part w => Sys2Proof.Machine.execInvalPartition ag part w s
  | .invalFatEntry ag part w => Sys2Proof.Machine.execInvalFatEntry ag part w s
  | .invalVmid ag part w => Sys2Proof.Machine.execInvalVmid ag part w s
  | .invalDone part => Sys2Proof.Machine.execInvalDone part s
  | .cphTail ag k r w => Sys2Proof.Machine.execCphTail ag k r w s
  | .descriptorFetch k => Sys2Proof.Machine.execDescriptorFetch k s
  | .aesEncrypt k r ix => Sys2Proof.Machine.execAesEncrypt k r ix s
  | .aesDecrypt k r ix => Sys2Proof.Machine.execAesDecrypt k r ix s
  | .aesCmacGenerate k r ix => Sys2Proof.Machine.execAesCmacGenerate k r ix s
  | .aesCmacVerify k r ix => Sys2Proof.Machine.execAesCmacVerify k r ix s
  | .tdesEncrypt k r ix => Sys2Proof.Machine.execTdesEncrypt k r ix s
  | .tdesDecrypt k r ix => Sys2Proof.Machine.execTdesDecrypt k r ix s
  | .retailMacGenerate k r ix => Sys2Proof.Machine.execRetailMacGenerate k r ix s
  | .retailMacVerify k r ix => Sys2Proof.Machine.execRetailMacVerify k r ix s
  | .hash k r ix => Sys2Proof.Machine.execHash k r ix s
  | .hmacGenerate k r ix => Sys2Proof.Machine.execHmacGenerate k r ix s
  | .hmacVerify k r ix => Sys2Proof.Machine.execHmacVerify k r ix s
  | .rsaVerify k r ix => Sys2Proof.Machine.execRsaVerify k r ix s
  | .rsaSign k r ix => Sys2Proof.Machine.execRsaSign k r ix s
  | .ecdsaVerify k r ix => Sys2Proof.Machine.execEcdsaVerify k r ix s
  | .ecdsaSign k r ix => Sys2Proof.Machine.execEcdsaSign k r ix s
  | .ed25519Verify k r ix => Sys2Proof.Machine.execEd25519Verify k r ix s
  | .ed25519Sign k r ix => Sys2Proof.Machine.execEd25519Sign k r ix s
  | .mlDsa65Verify k r ix => Sys2Proof.Machine.execMlDsa65Verify k r ix s
  | .mlDsa65Sign k r ix => Sys2Proof.Machine.execMlDsa65Sign k r ix s
  | .pinTranslate k r ix => Sys2Proof.Machine.execPinTranslate k r ix s
  | .dukptPinTranslate k r ix => Sys2Proof.Machine.execDukptPinTranslate k r ix s
  | .dukptMacVerify k r ix => Sys2Proof.Machine.execDukptMacVerify k r ix s
  | .cryptogramVerify k r ix => Sys2Proof.Machine.execCryptogramVerify k r ix s
  | .random k r ix => Sys2Proof.Machine.execRandom k r ix s
  | .jobComplete k r ix => Sys2Proof.Machine.execJobComplete k r ix s
  | .cipherSelftest k failed => Sys2Proof.Machine.execCipherSelftest k failed s
  | .wpcSyncGo ag w => Sys2Proof.Machine.execWpcSyncGo ag w s
  | .wpcSyncDone => Sys2Proof.Machine.execWpcSyncDone s
  | .lock ag w => Sys2Proof.Machine.execLock ag w s
  | .reset ag part w => Sys2Proof.Machine.execReset ag part w s
  | .release ag part w => Sys2Proof.Machine.execRelease ag part w s
  | .partitionReset part => Sys2Proof.Machine.execPartitionReset part s
  | .partitionFlushDone part => Sys2Proof.Machine.execPartitionFlushDone part s
  | .flushLimit part => Sys2Proof.Machine.execFlushLimit part s
  | .wcall c insn => Sys2Proof.Machine.execWcall c insn s
  | .wcallVersion c => Sys2Proof.Machine.execWcallVersion c s
  | .pairBind c => Sys2Proof.Machine.execPairBind c s
  | .pairUnbind c => Sys2Proof.Machine.execPairUnbind c s
  | .partResetSelf c => Sys2Proof.Machine.execPartResetSelf c s
  | .sourcePending src high => Sys2Proof.Machine.execSourcePending src high s
  | .messageInterrupt hart page prio => Sys2Proof.Machine.execMessageInterrupt hart page prio s
  | .evrTgtClaim ag h t => Sys2Proof.Machine.execEvrTgtClaim ag h t s
  | .evrTgtEoi ag h t w => Sys2Proof.Machine.execEvrTgtEoi ag h t w s
  | .evrTgtInject ag h t w => Sys2Proof.Machine.execEvrTgtInject ag h t w s
  | .evrSrcCfgWrite ag n w => Sys2Proof.Machine.execEvrSrcCfgWrite ag n w s
  | .nmiEntry c => Sys2Proof.Machine.execNmiEntry c s
  | .keyGenerate ag cls secure part usage alg size => Sys2Proof.Machine.execKeyGenerate ag cls secure part usage alg size s
  | .keyImport ag kek secure part alg size block => Sys2Proof.Machine.execKeyImport ag kek secure part alg size block s
  | .keyExport ag h kek => Sys2Proof.Machine.execKeyExport ag h kek s
  | .keyDelete ag h => Sys2Proof.Machine.execKeyDelete ag h s
  | .keyInfo ag h => Sys2Proof.Machine.execKeyInfo ag h s
  | .fmKeySet ag hashes => Sys2Proof.Machine.execFmKeySet ag hashes s
  | .imageArm ag slot maxA trialS good => Sys2Proof.Machine.execImageArm ag slot maxA trialS good s
  | .trialConfirm ag fails bad => Sys2Proof.Machine.execTrialConfirm ag fails bad s
  | .revokeImageKey ag k bad => Sys2Proof.Machine.execRevokeImageKey ag k bad s
  | .revokeDebugKey ag k bad => Sys2Proof.Machine.execRevokeDebugKey ag k bad s
  | .lcAdvance ag target bad => Sys2Proof.Machine.execLcAdvance ag target bad s
  | .keystoreErase ag => Sys2Proof.Machine.execKeystoreErase ag s
  | .attest ag nonce => Sys2Proof.Machine.execAttest ag nonce s
  | .tamper sensor => Sys2Proof.Machine.execTamper sensor s
  | .spBoot goods bad => Sys2Proof.Machine.execSpBoot goods bad s
  | .trialWatchdogWarning => Sys2Proof.Machine.execTrialWatchdogWarning s
  | .trialWatchdogExpiry => Sys2Proof.Machine.execTrialWatchdogExpiry s
  | .chunk data w => Sys2Proof.Machine.execChunk data w s
  | .finish w good => Sys2Proof.Machine.execFinish w good s
  | .rcvAbort w => Sys2Proof.Machine.execAbort w s
  | .fabricRecovery p off data fin good => Sys2Proof.Machine.execFabricRecovery p off data fin good s
  | .powerOnReset cause => Sys2Proof.Machine.execPowerOnReset cause s
  | .systemReset cause => Sys2Proof.Machine.execSystemReset cause s
  | .coreReset cs => Sys2Proof.Machine.execCoreReset cs s
  | .blockReset u => Sys2Proof.Machine.execBlockReset u s
  | .resetInN low => Sys2Proof.Machine.execResetInN low s
  | .pwrgood sig good => Sys2Proof.Machine.execPwrgood sig good s
  | .thermtrip => Sys2Proof.Machine.execThermtrip s
  | .resetHoldEnd => Sys2Proof.Machine.execResetHoldEnd s
  | .domainRelease step cal => Sys2Proof.Machine.execDomainRelease step cal s
  | .optionLoading src recov => Sys2Proof.Machine.execOptionLoading src recov s
  | .lockLoss d => Sys2Proof.Machine.execLockLoss d s
  | .regulatorFault reg units => Sys2Proof.Machine.execRegulatorFault reg units s
  | .railNearEdge rail => Sys2Proof.Machine.execRailNearEdge rail s
  | .vbakLost => Sys2Proof.Machine.execVbakLost s
  | .powerFailWarning => Sys2Proof.Machine.execPowerFailWarning s
  | .prochotN low => Sys2Proof.Machine.execProchotN low s
  | .throttleEntry sensor tj => Sys2Proof.Machine.execThrottleEntry sensor tj s
  | .throttleExit sensor tj => Sys2Proof.Machine.execThrottleExit sensor tj s
  | .target ag p w => Sys2Proof.Machine.execTarget ag p w s
  | .pstateChangeDone p => Sys2Proof.Machine.execPstateChangeDone p s
  | .pwrOn ag u w => Sys2Proof.Machine.execPwrOn ag u w s
  | .powerGateDone u => Sys2Proof.Machine.execPowerGateDone u s
  | .corePowerGate c => Sys2Proof.Machine.execCorePowerGate c s
  | .packageIdleEntry => Sys2Proof.Machine.execPackageIdleEntry s
  | .packageIdleExit => Sys2Proof.Machine.execPackageIdleExit s
  | .kick ag wd w => Sys2Proof.Machine.execKick ag wd w s
  | .watchdogHalf wd => Sys2Proof.Machine.execWatchdogHalf wd s
  | .watchdogExpiry wd => Sys2Proof.Machine.execWatchdogExpiry wd s
  | .clearCauses ag w => Sys2Proof.Machine.execClearCauses ag w s
  | .rtcWrite ag w => Sys2Proof.Machine.execRtcWrite ag w s
  | .ring ag n w => Sys2Proof.Machine.execRing ag n w s
  | .mbxAck ag n w => Sys2Proof.Machine.execMbxAck ag n w s
  | .commandFinished n => Sys2Proof.Machine.execCommandFinished n s
  | .operationFinished n id => Sys2Proof.Machine.execOperationFinished n id s
  | .featuresGet n => Sys2Proof.Machine.execFeaturesGet n s
  | .featuresSet n => Sys2Proof.Machine.execFeaturesSet n s
  | .opStatus n => Sys2Proof.Machine.execOpStatus n s
  | .version n => Sys2Proof.Machine.execVersion n s
  | .pstateSet n => Sys2Proof.Machine.execPstateSet n s
  | .pstateGet n => Sys2Proof.Machine.execPstateGet n s
  | .blockPower n => Sys2Proof.Machine.execBlockPower n s
  | .idlePolicy n => Sys2Proof.Machine.execIdlePolicy n s
  | .powerRead n mw => Sys2Proof.Machine.execPowerRead n mw s
  | .errlogRead n => Sys2Proof.Machine.execErrlogRead n s
  | .sparesGet n => Sys2Proof.Machine.execSparesGet n s
  | .ageingGet n => Sys2Proof.Machine.execAgeingGet n s
  | .coreSwap n => Sys2Proof.Machine.execCoreSwap n s
  | .partReset n => Sys2Proof.Machine.execPartReset n s
  | .hartRelease n => Sys2Proof.Machine.execHartRelease n s
  | .partStatus n => Sys2Proof.Machine.execPartStatus n s
  | .wtAssign n => Sys2Proof.Machine.execWtAssign n s
  | .ownerSet n => Sys2Proof.Machine.execOwnerSet n s
  | .routeSet n => Sys2Proof.Machine.execRouteSet n s
  | .portSet n => Sys2Proof.Machine.execPortSet n s
  | .portGet n => Sys2Proof.Machine.execPortGet n s
  | .nodeSet n => Sys2Proof.Machine.execNodeSet n s
  | .replCfg n => Sys2Proof.Machine.execReplCfg n s
  | .promote n => Sys2Proof.Machine.execPromote n s
  | .mbxStepDown n => Sys2Proof.Machine.execMbxStepDown n s
  | .slotArm n => Sys2Proof.Machine.execSlotArm n s
  | .slotDisarm n => Sys2Proof.Machine.execSlotDisarm n s
  | .replGet n => Sys2Proof.Machine.execReplGet n s
  | .ladleSet n => Sys2Proof.Machine.execLadleSet n s
  | .imageWrite n => Sys2Proof.Machine.execImageWrite n s
  | .mbxImageArm n good => Sys2Proof.Machine.execMbxImageArm n good s
  | .mbxTrialConfirm n fails bad => Sys2Proof.Machine.execMbxTrialConfirm n fails bad s
  | .mbxRevokeImageKey n bad => Sys2Proof.Machine.execMbxRevokeImageKey n bad s
  | .mbxAttest n => Sys2Proof.Machine.execMbxAttest n s
  | .timeGet n => Sys2Proof.Machine.execTimeGet n s
  | .rtcSet n => Sys2Proof.Machine.execRtcSet n s
  | .errorRecord source unit cls code addr place => Sys2Proof.Machine.execErrorRecord source unit cls code addr place s
  | .macenRestart part => Sys2Proof.Machine.execMacenRestart part s
  | .writeWord w pec => Sys2Proof.Machine.execWriteWord w pec s
  | .blockWrite bs pec => Sys2Proof.Machine.execBlockWrite bs pec s
  | .blockRead pec => Sys2Proof.Machine.execBlockRead pec s
  | .writeByte b pec => Sys2Proof.Machine.execWriteByte b pec s
  | .smbusTimeout => Sys2Proof.Machine.execSmbusTimeout s
  | .ageingSample rs => Sys2Proof.Machine.execAgeingSample rs s
  | .liveCoreSwap t => Sys2Proof.Machine.execLiveCoreSwap t s
  | .swapSparePowered t => Sys2Proof.Machine.execSwapSparePowered t s
  | .swapInReset c => Sys2Proof.Machine.execSwapInReset c s
  | .oldSlotGated t => Sys2Proof.Machine.execOldSlotGated t s
  | .repairLogAppend bad => Sys2Proof.Machine.execRepairLogAppend bad s
  | .sramRowSpare arr row sets => Sys2Proof.Machine.execSramRowSpare arr row sets s
  | .coreArrayRowSpare arr row pass => Sys2Proof.Machine.execCoreArrayRowSpare arr row pass s
  | .spdLogWrite ch dimm typ rankDev bank row good => Sys2Proof.Machine.execSpdLogWrite ch dimm typ rankDev bank row good s
  | .idcode => Sys2Proof.Machine.execIdcode s
  | .samplePreload pins cells => Sys2Proof.Machine.execSamplePreload pins cells s
  | .extest => Sys2Proof.Machine.execExtest s
  | .dbgacc op off data => Sys2Proof.Machine.execDbgacc op off data s
  | .lcCmd target bad => Sys2Proof.Machine.execLcCmd target bad s
  | .bypass => Sys2Proof.Machine.execBypass s
  | .tapReset => Sys2Proof.Machine.execTapReset s
  | .verify p w => Sys2Proof.Machine.execVerify p w s
  | .verifyComplete p => Sys2Proof.Machine.execVerifyComplete p s
  | .dbgEnd p w => Sys2Proof.Machine.execEnd p w s
  | .debugSystemReset p w => Sys2Proof.Machine.execDebugSystemReset p w s
  | .haltHart p h w => Sys2Proof.Machine.execHalt p h w s
  | .haltTaken c => Sys2Proof.Machine.execHaltTaken c s
  | .debugResume p h w => Sys2Proof.Machine.execDebugResume p h w s
  | .stepHart p h w => Sys2Proof.Machine.execStep p h w s
  | .debugCoreReset p h w => Sys2Proof.Machine.execDebugCoreReset p h w s
  | .regdataAccess p h wr => Sys2Proof.Machine.execRegdataAccess p h wr s
  | .goCmd p w => Sys2Proof.Machine.execGo p w s
  | .debugAccessComplete => Sys2Proof.Machine.execDebugAccessComplete s
  | .freezeRelease part => Sys2Proof.Machine.execFreezeRelease part s
  | .vtTx p ix wr low => Sys2Proof.Machine.execVtTx p ix wr low s
  | .vtRx p ix wr low => Sys2Proof.Machine.execVtRx p ix wr low s
  | .traceSync => Sys2Proof.Machine.execTraceSync s
  | .ladleTick => Sys2Proof.Machine.execLadleTick s
  | .ladleRecord => Sys2Proof.Machine.execLadleRecord s
  | .uartTransmit ag u w => Sys2Proof.Machine.execUartTransmit ag u w s
  | .uartReceiveRead ag u => Sys2Proof.Machine.execUartReceiveRead ag u s
  | .uartCharacter u b err => Sys2Proof.Machine.execUartCharacter u b err s
  | .pllRelock d => Sys2Proof.Machine.execPllRelock d s
  | .pfwNRelease => Sys2Proof.Machine.execPfwNRelease s
  | .secondaryBusResetEnd c p => Sys2Proof.Machine.execSecondaryBusResetEnd c p s
  | .powerUpDone u => Sys2Proof.Machine.execPowerUpDone u s
  | .uartCharacterSent u => Sys2Proof.Machine.execUartCharacterSent u s
  | .dimmTemperature ch dimm temp => Sys2Proof.Machine.execDimmTemperature ch dimm temp s

end Sys2Proof.Machine
end

