-- ==== Sys2Proof/Conditions.lean ====
section
/-! DEFINITION. Conditions on a state that the statements name: when a core carries out its next instruction, when a command of the mesh or
of a block finds what it needs. -/

namespace Sys2Proof.Machine

open Sys2Proof

/-- Whether no trigger of core `c`'s hart fires on an instruction with access `a` at its pc, and the core is not single-stepped (R501,
R502). -/
def State.untriggered (s : State) (c : Nat) (a : Option MemAcc) : Prop :=
  (s.core c).step = false ∧ s.fired c (trigTests (s.core c).pc.toNat a) = []

/-- Whether core `c` carries out its next instruction now: it is ready for one, and no trigger or step halts it. -/
def State.runs (s : State) (c : Nat) : Prop := s.ready c = true ∧ s.untriggered c none

/-- Whether core `c` carries out now an instruction that accesses `size` bytes at `va`: no trigger fires on it, whatever it moves. -/
def State.runsMem (s : State) (c va size : Nat) (ld st : Bool) : Prop :=
  s.ready c = true ∧ ∀ lv sv, s.untriggered c (some { va := va, size := size, ld := ld, st := st, ldVal := lv, stVal := sv })

/-- Whether an access translates, without a split, to normal memory at `pa` (R75): kind 0 a load, 1 a store, 2 a fetch. -/
def State.toDram (s : State) (c va size acc pa : Nat) : Prop :=
  s.region pa = .dram ∧ ∃ ewa, (s.xlat c va size acc).1 = .ok pa 0 ewa

/-- Whether an access translates, without a split, to a device region at `pa` (R68, R71). -/
def State.toDevice (s : State) (c va size acc pa : Nat) (ewa : Bool) : Prop :=
  s.region pa ≠ .dram ∧ isDeviceRegion (s.region pa) 0 = true ∧ (s.xlat c va size acc).1 = .ok pa 0 ewa

/-- Whether a destination of a core holds what a load of `size` bytes with value `v` gives it (R33): register x0 reads 0. -/
def Core.loaded (k : Core) (dst : Dst) (size v : Nat) : Prop :=
  match dst with
  | .x rd sg => k.getX rd = if rd = 0 then 0 else extend sg size v
  | .f rd => k.getF rd = nanBox size v
  | .v rd => k.getV rd = BitVec.ofNat 256 v

/-- Whether a destination or a source is a floating-point register. -/
def dstF (d : Dst) : Bool := match d with | .f _ => true | _ => false
def srcF (d : Src) : Bool := match d with | .f _ => true | _ => false

/-- Whether the core has performed none of its oldest instruction ahead of its turn (R81). -/
def Core.fresh (k : Core) : Prop := ∀ e ∈ k.loadq, e.at_ ≠ k.icount

/-- Whether two cores hold the same translations. -/
def Core.sameTlbs (k k' : Core) : Prop :=
  k.tlb = k'.tlb ∧ k.tlbBig = k'.tlbBig ∧ k.dtlb = k'.dtlb ∧ k.itlb = k'.itlb ∧ k.walkCache = k'.walkCache

/-- Whether no core is inside a commit group. -/
def State.noGroups (s : State) : Prop := ∀ c, (s.core c).group = none

/-- Whether core `c`'s L2 holds a line, with its data `d` free of poison; and whether it holds it in E or M. -/
def State.holds (s : State) (c line : Nat) (d : LineData) : Prop :=
  (∃ st, tget none (s.core c).l2 line = some { st := st, d := d }) ∧ d.poison = false
def State.ownsLine (s : State) (c line : Nat) (d : LineData) : Prop :=
  (∃ st, (st = .m ∨ st = .e) ∧ tget none (s.core c).l2 line = some { st := st, d := d }) ∧ d.poison = false

/-- In `t`, the error collector has stored the record of an event of `s`, under the next SEQUENCE (R469). -/
def State.recorded (s t : State) (source unit cls code addr : Nat) : Prop :=
  t.fld ERC_STATUS.LAST_SEQ 0 = (s.fld ERC_STATUS.LAST_SEQ 0 + 1) % 2 ^ 64 ∧
  tget {} t.records ((s.fld ERC_STATUS.LAST_SEQ 0 + 1) % 4096) =
    { seq := s.fld ERC_STATUS.LAST_SEQ 0 + 1, dtime := s.dtime, source := source, unit := unit, cls := cls, code := code,
      supp := Nat.min (tget 0 s.withheld (suppKey source unit code)) 0xFFFF, addr := addr }

/-- Whether a trace packet of core `c` raises no event: tracing is off, or the trace buffer has room (R512). -/
def State.traceRoom (s : State) (c : Nat) : Prop := s.fld DBG_TRACE_CFG.EN 0 = 0 ∨ (tget [] s.traceBuf (s.coreHart c)).length < 255

/-- Whether a trace packet of core `c` cannot end an open group of its own: it is outside a group, or the packet raises no event. -/
def State.traceCalm (s : State) (c : Nat) : Prop := (s.core c).group = none ∨ s.traceRoom c

/-- Whether a line's home can take a requester's request `r` for it at once (R102, R103, R108, R119, R129, R491). -/
def State.canAccept (s : State) (rq : Rq) (line : Nat) (r : Req) : Prop :=
  s.getReq rq line = some r ∧ r.accepted = false ∧ r.nakIn = false ∧ r.off = false ∧ r.wait = 0 ∧ r.comp = none ∧ r.data = none ∧
  s.isDram (line * 64) = true ∧ s.msgOk r.kind.msg rq line = true ∧ tget none s.trk line = none ∧ s.l3Held line = false ∧
  (tget none s.fair line = none ∨ tget none s.fair line = some rq) ∧ s.trkFull (homeOf line) = false

/-- Whether the Sieve has no copy of a line, and room for an entry of it (R113, R114). -/
def State.sieveFree (s : State) (line : Nat) : Prop :=
  (tget {} s.sieve line).mask = 0 ∧ (s.sieve.filter fun e => homeOf e.1 == homeOf line && e.1 % 8192 == line % 8192).length < 12

/-- In `t`, the home has sent the COMP of a requester's request, granting `st`, with the DATA it says (R105). -/
def State.granted (t : State) (rq : Rq) (line : Nat) (st : Option Moesi) (d : Option LineData) : Prop :=
  ∃ r, t.getReq rq line = some r ∧ r.comp = some st ∧ r.data = d ∧ r.compStatus = 0 ∧ (d = none → r.noData = true)

/-- Whether the IOMMU sees a request of `n` bytes at `addr` that comes to controller `c`, as one of requester `q` (R309, R317, R321, R322): one
of a device behind an up port, or, in endpoint mode, one of the host in BAR0; the agent has credit for its lines. -/
def State.takesInbound (s : State) (c p rid addr n q : Nat) (bar2 : Bool) : Prop :=
  c < 4 ∧ 0 < n ∧ addr % 4096 + n ≤ 4096 ∧ addr < 2 ^ 64 ∧ s.agentLines 25 + (linesOf addr n).length ≤ 256 ∧
  ((s.fld PCIE_CTL.MODE c = 0 ∧ s.portUp c p = true ∧ rid < 65536 ∧ q = rid) ∨ (s.fld PCIE_CTL.MODE c = 1 ∧ bar2 = false ∧ q = 0))

/-- Whether `j` is the job that a cipher row of opcode `op` runs at index `ix` of ring `r` of cluster `k`. -/
def State.jobAt (s : State) (k r ix op : Nat) (j : Job) : Prop :=
  k < 2 ∧ r < 32 ∧ s.lidState (cphNode k) 0 ≠ 2 ∧ s.agentLines 26 < 128 ∧
  (s.ringJobs k r).find? (fun j => j.ix == ix && j.op == op && j.started && j.status.isNone) = some j

/-- Whether `n` bytes at a job's DST are within DST_LEN and may be written, once the job waits for nothing, which leaves `v` (R333, R341). -/
def State.jobDest (s : State) (k r : Nat) (j : Job) (n : Nat) (v : State) : Prop :=
  n ≤ j.dstLen ∧ (s.unwait k r j).cphMay k r j.dst n = (true, v) ∧ (n ≠ 0 → ((linesOf j.dst n).all fun l => v.lineOk l) = true)

/-- The state after a job has written its output, if any, to DST and ended with a STATUS (R333). -/
def State.jobOut (v : State) (k r : Nat) (j : Job) (st : Nat) (out : List Byte) : State :=
  if out = [] then v.jobDone k r j.ix st 0 0
  else (v.agentWriteBytes j.dst out (v.fld CPH_RING_CFG.WORLD (ringIx k r) == 1)).jobDone k r j.ix st out.length 0

/-- In `t`, core `c` of `s` is at its next instruction, `len` bytes on. -/
def State.advanced (s t : State) (c len : Nat) : Prop := (t.core c).pc = (s.core c).pc + BitVec.ofNat 64 len

/-- In `t`, core `c` of `s` has taken a trap: its saved state is written, and it is at its handler (R33, R349). -/
def State.trapped (s t : State) (c : Nat) (intr : Bool) (code : Nat) (tval gpa : W) : Prop :=
  let k := (s.core c).enterTrap intr code tval (trapGpa intr code gpa)
  (t.core c).pc = k.pc ∧ (t.core c).csr = k.csr ∧ (t.core c).mode = k.mode ∧ (t.core c).virt = k.virt ∧ (t.core c).x = (s.core c).x ∧
  (t.core c).resv = none

/-- Whether page `n` runs the mailbox command `code` with payload `p`, which passed its checks and has no result yet (R457, R459). -/
def State.runsCmd (s : State) (n code : Nat) (p : List Byte) : Prop :=
  ∃ m, (s.page n).cur = some m ∧ m.code = code ∧ m.payload = p ∧ m.res = none

/-- In `t`, page `n`'s running command has the result STATUS, DETAIL and payload `a` (R456). -/
def State.hasResult (t : State) (n : Nat) (a : Ans) : Prop := ∃ m, (t.page n).cur = some m ∧ m.res = some a

/-- In `t`, page `n`'s command of `s` has become an operation (R460): the next OP_ID, in DETAIL of IN_PROGRESS, with what it has begun and
what it already comes to. -/
def State.startedOp (s t : State) (n code : Nat) (p : List Byte) (begun : Bool) (res : Option Ans) : Prop :=
  t.hasResult n (9, s.mac.nextOp, []) ∧ t.mac.nextOp = s.mac.nextOp + 1 ∧
  (t.page n).ops = (s.page n).ops ++ [{ id := s.mac.nextOp, code := code, payload := p, begun := begun, res := res }]

/-- Whether a debug port's session and, on the mesh port, the rules of the DBG window let it write unit `i` of a register, and read it (R496,
R515). -/
def State.portWrites (s : State) (p : DbgPort) (r : RegId) (i : Nat) : Prop :=
  match p with
  | .jtag => s.dbgMay 0 r i true = true
  | .mesh ag => ∀ w, s.gate ag r i (some w) = .pass
def State.portReads (s : State) (p : DbgPort) (r : RegId) (i : Nat) : Prop :=
  match p with
  | .jtag => s.dbgMay 0 r i false = true
  | .mesh ag => s.gate ag r i none = .pass

/-- In `t`, a debug port's read has been answered with `data`, with no error (R495). -/
def State.portGot (t : State) (p : DbgPort) (data : W) : Prop :=
  match p with
  | .jtag => t.dbg.tap.status = 0 ∧ t.dbg.tap.data = data ∧ t.dbg.tap.dr = data.toNat
  | .mesh _ => t.rsp = { data := data, status := 0 }

/-- Whether a debug port's session has a right, by a certificate or by being FULL (R497, R498): 0 RUN, 1 REGS, 2 MEMORY, 3 TRACE. -/
def State.portRight (s : State) (p : DbgPort) (right : Nat) : Prop :=
  s.session (portNo p) = 2 ∨ (s.fld DBG_AUTH.RIGHTS (portNo p)).testBit right = true

end Sys2Proof.Machine
end

