-- ==== Sys2Proof/Frames.lean ====
section
/-! DEFINITION. Frames: what of a state stays as it was. The statements say with `Only` which parts of the state and which registers a
command may have changed; every other part and every other register is as before. -/

namespace Sys2Proof.Machine

open Sys2Proof

/-- The parts of a state beside its registers, one for each field of State. -/
inductive Part where
  | pending | free | stamp | dtime | rsp | cores | mem | memPoison | chans | mcRsp | opt | bootSrc | recovSel | l3 | depvb 
  | sieve | trk | fair | slots | agentReqs | ghosts | mesh | txns | linkStopped | lidHeld | pfw | wtCache | hartPart | pairs 
  | spn | spnChanged | jrnRes | jrnRecs | pubs | pubFlits | repl | ports | fabIn | fabRem | fabDropped | remote | sqNext 
  | sqDone | slew | slewAcc | pcieTags | pcieOut | pcieCpl | portReset | pcieLate | msiLost | ctxCache | ioTlb | jobs | cphTurn 
  | cphKeys | keys | keyNext | keyFreed | srcHigh | pend | inServ | nmiTaken | records | limits | withheld | errorN | rstLevel 
  | relStep | railOut | pwrgood | resetInLow | prochotLow | thermtrip | readyPin | unlocked | regFailed | pGoal | pStop 
  | pkgIdle | rtcAcc | partStep | fuses | rcv | bootStep | flash | ksCopy | kek | ksErased | fmKeys | boot | spRsp | evidence 
  | mac | pages | spd | traceBuf | snaps | cnt | ldl | dbg | lsio | wdogNs | cycAcc 
  deriving DecidableEq, Repr

/-- A part is the same in two states. -/
def Part.same (s t : State) : Part → Prop
  | .pending => t.pending = s.pending
  | .free => t.free = s.free
  | .stamp => t.stamp = s.stamp
  | .dtime => t.dtime = s.dtime
  | .rsp => t.rsp = s.rsp
  | .cores => t.cores = s.cores
  | .mem => t.mem = s.mem
  | .memPoison => t.memPoison = s.memPoison
  | .chans => t.chans = s.chans
  | .mcRsp => t.mcRsp = s.mcRsp
  | .opt => t.opt = s.opt
  | .bootSrc => t.bootSrc = s.bootSrc
  | .recovSel => t.recovSel = s.recovSel
  | .l3 => t.l3 = s.l3
  | .depvb => t.depvb = s.depvb
  | .sieve => t.sieve = s.sieve
  | .trk => t.trk = s.trk
  | .fair => t.fair = s.fair
  | .slots => t.slots = s.slots
  | .agentReqs => t.agentReqs = s.agentReqs
  | .ghosts => t.ghosts = s.ghosts
  | .mesh => t.mesh = s.mesh
  | .txns => t.txns = s.txns
  | .linkStopped => t.linkStopped = s.linkStopped
  | .lidHeld => t.lidHeld = s.lidHeld
  | .pfw => t.pfw = s.pfw
  | .wtCache => t.wtCache = s.wtCache
  | .hartPart => t.hartPart = s.hartPart
  | .pairs => t.pairs = s.pairs
  | .spn => t.spn = s.spn
  | .spnChanged => t.spnChanged = s.spnChanged
  | .jrnRes => t.jrnRes = s.jrnRes
  | .jrnRecs => t.jrnRecs = s.jrnRecs
  | .pubs => t.pubs = s.pubs
  | .pubFlits => t.pubFlits = s.pubFlits
  | .repl => t.repl = s.repl
  | .ports => t.ports = s.ports
  | .fabIn => t.fabIn = s.fabIn
  | .fabRem => t.fabRem = s.fabRem
  | .fabDropped => t.fabDropped = s.fabDropped
  | .remote => t.remote = s.remote
  | .sqNext => t.sqNext = s.sqNext
  | .sqDone => t.sqDone = s.sqDone
  | .slew => t.slew = s.slew
  | .slewAcc => t.slewAcc = s.slewAcc
  | .pcieTags => t.pcieTags = s.pcieTags
  | .pcieOut => t.pcieOut = s.pcieOut
  | .pcieCpl => t.pcieCpl = s.pcieCpl
  | .portReset => t.portReset = s.portReset
  | .pcieLate => t.pcieLate = s.pcieLate
  | .msiLost => t.msiLost = s.msiLost
  | .ctxCache => t.ctxCache = s.ctxCache
  | .ioTlb => t.ioTlb = s.ioTlb
  | .jobs => t.jobs = s.jobs
  | .cphTurn => t.cphTurn = s.cphTurn
  | .cphKeys => t.cphKeys = s.cphKeys
  | .keys => t.keys = s.keys
  | .keyNext => t.keyNext = s.keyNext
  | .keyFreed => t.keyFreed = s.keyFreed
  | .srcHigh => t.srcHigh = s.srcHigh
  | .pend => t.pend = s.pend
  | .inServ => t.inServ = s.inServ
  | .nmiTaken => t.nmiTaken = s.nmiTaken
  | .records => t.records = s.records
  | .limits => t.limits = s.limits
  | .withheld => t.withheld = s.withheld
  | .errorN => t.errorN = s.errorN
  | .rstLevel => t.rstLevel = s.rstLevel
  | .relStep => t.relStep = s.relStep
  | .railOut => t.railOut = s.railOut
  | .pwrgood => t.pwrgood = s.pwrgood
  | .resetInLow => t.resetInLow = s.resetInLow
  | .prochotLow => t.prochotLow = s.prochotLow
  | .thermtrip => t.thermtrip = s.thermtrip
  | .readyPin => t.readyPin = s.readyPin
  | .unlocked => t.unlocked = s.unlocked
  | .regFailed => t.regFailed = s.regFailed
  | .pGoal => t.pGoal = s.pGoal
  | .pStop => t.pStop = s.pStop
  | .pkgIdle => t.pkgIdle = s.pkgIdle
  | .rtcAcc => t.rtcAcc = s.rtcAcc
  | .partStep => t.partStep = s.partStep
  | .fuses => t.fuses = s.fuses
  | .rcv => t.rcv = s.rcv
  | .bootStep => t.bootStep = s.bootStep
  | .flash => t.flash = s.flash
  | .ksCopy => t.ksCopy = s.ksCopy
  | .kek => t.kek = s.kek
  | .ksErased => t.ksErased = s.ksErased
  | .fmKeys => t.fmKeys = s.fmKeys
  | .boot => t.boot = s.boot
  | .spRsp => t.spRsp = s.spRsp
  | .evidence => t.evidence = s.evidence
  | .mac => t.mac = s.mac
  | .pages => t.pages = s.pages
  | .spd => t.spd = s.spd
  | .traceBuf => t.traceBuf = s.traceBuf
  | .snaps => t.snaps = s.snaps
  | .cnt => t.cnt = s.cnt
  | .ldl => t.ldl = s.ldl
  | .dbg => t.dbg = s.dbg
  | .lsio => t.lsio = s.lsio
  | .wdogNs => t.wdogNs = s.wdogNs
  | .cycAcc => t.cycAcc = s.cycAcc

/-- `t` differs from `s` at most in the parts `ps` and in the registers `rs`. Every byte of memory is as before unless `mem` is in `ps`. -/
def Only (ps : List Part) (rs : List RegId) (s t : State) : Prop :=
  (∀ p, p ∉ ps → p.same s t) ∧ ∀ r, r ∉ rs → ∀ i, t.rd r i = s.rd r i

/-- What taking a group down, raising a source, and writing an error record may change (R157, R371, R468). -/
def abortParts : List Part := [.cores, .pairs, .jrnRes, .cnt]
def abortRegs : List RegId := [.CG_ABORT_PC, .CG_STATUS]
def raiseParts : List Part := .pend :: abortParts
def raiseRegs : List RegId := .EVR_PFW_TIME :: abortRegs
def cacheParts : List Part := [.free, .stamp, .mem, .memPoison, .l3, .depvb, .sieve, .jrnRecs] ++ raiseParts
def cacheRegs : List RegId := .CG_LASTSEQ :: raiseRegs
def errParts : List Part := [.records, .withheld, .errorN] ++ cacheParts
def errRegs : List RegId := [.ERC_RING_CFG, .ERC_STATUS] ++ cacheRegs

/-- The answer to an access (R20). -/
def answerParts : List Part := [.rsp, .cores, .mesh, .dbg]

/-- The entry that a wired source makes at its target, and whether its rise makes one: it is enabled (or machine-check-class), not already
pending, not in service as a level source, and not discarded by a partition reset (R371, R378, R382, R383). -/
def State.entryOf (s : State) (src : Nat) : PendEnt :=
  let h := s.fld EVR_SRC_CFG.HART src
  let t := s.fld EVR_SRC_CFG.PAGE src
  { hart := h, page := t, prio := s.heldPrio h t (s.fld EVR_SRC_CFG.PRIO src), ident := src }

def State.canPend (s : State) (src : Nat) : Prop :=
  (s.fld EVR_SRC_CFG.EN src = 1 ∨ isMcheck src = true) ∧ (∀ e ∈ s.pend, e.ident ≠ src) ∧
  (s.fld EVR_SRC_CFG.EDGE src = 1 ∨ ∀ e ∈ s.inServ, e.ident ≠ src) ∧ s.discards (s.fld EVR_SRC_CFG.HART src) (some src) = false

end Sys2Proof.Machine
end

