-- ==== Sys2Proof/FrameTable.lean ====
section
/-! DEFINITION. The frame of every command: the parts of the state and the registers that it may change, in every state and with every
operand. What a command's own effect changes stands in its list; so does what the events in its course can: an error record and its ring
write (R469), a source that pends (R371), a group that ends (R157), and the caches that a ring write passes through. -/

namespace Sys2Proof.Machine

open Sys2Proof

/-- Every part but those listed. -/
def partsBut (l : List Part) : List Part :=
  ([.pending, .free, .stamp, .dtime, .rsp, .cores, .mem, .memPoison, .chans, .mcRsp, .opt, .bootSrc, .recovSel, .l3, .depvb, .sieve, 
   .trk, .fair, .slots, .agentReqs, .ghosts, .mesh, .txns, .linkStopped, .lidHeld, .pfw, .wtCache, .hartPart, .pairs, .spn, 
   .spnChanged, .jrnRes, .jrnRecs, .pubs, .pubFlits, .repl, .ports, .fabIn, .fabRem, .fabDropped, .remote, .sqNext, .sqDone, .slew, 
   .slewAcc, .pcieTags, .pcieOut, .pcieCpl, .portReset, .pcieLate, .msiLost, .ctxCache, .ioTlb, .jobs, .cphTurn, .cphKeys, .keys, 
   .keyNext, .keyFreed, .srcHigh, .pend, .inServ, .nmiTaken, .records, .limits, .withheld, .errorN, .rstLevel, .relStep, .railOut, 
   .pwrgood, .resetInLow, .prochotLow, .thermtrip, .readyPin, .unlocked, .regFailed, .pGoal, .pStop, .pkgIdle, .rtcAcc, .partStep, 
   .fuses, .rcv, .bootStep, .flash, .ksCopy, .kek, .ksErased, .fmKeys, .boot, .spRsp, .evidence, .mac, .pages, .spd, .traceBuf, .snaps, 
   .cnt, .ldl, .dbg, .lsio, .wdogNs, .cycAcc] : List Part).filter fun p => decide (p ∉ l)

/-- Every register. -/
def allRegs : List RegId :=
  [.TILE_CORE_MAP, .TILE_HOME_STATUS, .MESH_LINK_CFG, .MESH_TIMEOUT, .MESH_INIT_STATUS, .LID_SECTION, .CG_STATUS, .CG_ABORT_PC, 
   .CG_LASTSEQ, .CG_DEPSEL, .CG_DEPSEQ, .CG_DEPMASK, .CG_DEPLOST, .CG_WMARK, .CG_BIND, .CG_CFG, .SPN_STREAM_CFG, .SPN_STREAM_STATE, 
   .SPN_STREAM_WMARK, .SPN_STREAM_ASSIGNED, .SPN_STREAM_NEXT, .JRN_REGION, .JRN_APPEND_PTR, .JRN_DRAIN_PTR, .JRN_STREAM_STATUS, 
   .PAIR_CTL, .PAIR_STATUS, .PAIR_RESUME, .PAIR_COUNT, .PAIR_FAILPC, .PAIR_CFG, .FAB_NODE, .FAB_ROUTE, .FAB_APERTURE, .FAB_INBOUND, 
   .FAB_RXRING_CFG, .FAB_RXRING_PTR, .FAB_SQ_CFG, .FAB_SQ_PTR, .FAB_PORT_CTL, .FAB_PORT_STATUS, .JRN_REPL_CFG, .JRN_REPL_MEMBERS, 
   .JRN_REPL_STATE, .JRN_REPL_DEGRADED, .JRN_REPL_HELD, .JRN_RSLOT_CFG, .JRN_RSLOT_REGION, .JRN_RSLOT_TERM, .JRN_RSLOT_HELD, 
   .JRN_RSLOT_APPEND, .JRN_RSLOT_DRAIN, .JRN_RSLOT_GASP, .MCT_DECODE, .MCT_CH_STATUS, .MCT_ECC_COUNT, .MCT_ECC_LOG, .MCT_SCRUB, 
   .PCIE_CTL, .PCIE_PORT_CFG, .PCIE_PORT_STATUS, .IOMMU_FAT_MATCH, .IOMMU_FAT_BASE, .IOMMU_INVAL, .IOMMU_FAULT, .CPH_STATUS, 
   .CPH_RING_CFG, .CPH_RING_PTR, .WCTL, .WSTATUS, .WPC_CFG, .WPC_SYNC, .WPC_REGION, .WPC_OWNER, .WPC_PART_CFG, .WPC_PART_CTL, 
   .EVR_PFW_TIME, .EVR_SRC_CFG, .EVR_SRC_PEND, .EVR_RING_ROUTE, .EVR_TGT_CLAIM, .EVR_TGT_EOI, .EVR_TGT_THRESH, .EVR_TGT_INJECT, 
   .EVR_TGT_STATUS, .SP_BOOT_STATUS, .SP_BOOT_SEQ, .SP_TRIAL, .TILE_RESET_VEC, .RCP_RESET_CAUSE, .RCP_CAUSE_COUNT, .RCP_RTC, 
   .RCP_PSTATE, .RCP_BLOCK_CTL, .RCP_THERMAL, .TMR_WDOG, .ERC_STATUS, .ERC_RING_CFG, .ERC_RECORD, .MBX_DOORBELL, .MBX_STATUS, 
   .DBG_AUTH, .DBG_AUTH_NONCE, .DBG_FREEZE, .DBG_MEM_CTL, .DBG_MEM_DATA, .DBG_PATCH_CFG, .DBG_PATCH_DATA, .DBG_TRACE_CFG, 
   .DBG_TRACE_PTR, .DBG_CORE_CTL, .DBG_CORE_STATUS, .DBG_CORE_REGSEL, .DBG_CORE_REGDATA, .DBG_TRIG_CFG, .DBG_TRIG_VAL, .DBG_VT_TX, 
   .DBG_VT_RX, .TILE_CORE_OVF, .CNT_CFG, .CNT, .LDL_PART_CFG, .LDL_PART_MASK, .LDL_PART_STATUS, .UART_CFG, .UART_DATA, .UART_STATUS, 
   .GPIO_CFG, .LSIO_PAD_CFG]


/-- A list with the members of another. -/
def partsPlus (l m : List Part) : List Part := l ++ m
def regsPlus (l m : List RegId) : List RegId := l ++ m

/-- The parts of the state and the registers that a command may change. -/
def frame : Instr → List Part × List RegId
  | .registerWrite _ _ _ _ => (partsBut [.pending, .dtime, .pfw, .railOut, .pwrgood, .resetInLow, .prochotLow, .thermtrip, .unlocked, .regFailed,
    .fuses, .flash, .ksCopy, .spd], allRegs)
  | .rsSnapshotRead _ _ _ => (partsPlus [.mesh, .txns, .limits, .snaps] (partsPlus errParts answerParts), errRegs)
  | .load _ _ _ _ _ _ _ _ _ _ _ => (partsPlus [.mesh, .txns, .wtCache, .limits, .traceBuf, .snaps] (partsPlus errParts answerParts),
    regsPlus [.WSTATUS, .DBG_TRACE_PTR, .DBG_CORE_STATUS] errRegs)
  | .store _ _ _ _ _ _ _ _ => (partsPlus [.mesh, .txns, .wtCache, .limits, .traceBuf, .dbg] errParts, regsPlus [.WSTATUS, .DBG_TRACE_PTR,
    .DBG_CORE_STATUS] errRegs)
  | .storeBufferWrite _ _ => (partsPlus [.mesh, .txns] cacheParts, cacheRegs)
  | .amo _ _ _ _ _ _ _ _ _ => (partsPlus [.mesh, .txns, .wtCache, .limits, .traceBuf, .dbg] errParts, regsPlus [.WSTATUS, .DBG_TRACE_PTR,
    .DBG_CORE_STATUS] errRegs)
  | .lr _ _ _ _ _ _ _ => (partsPlus [.mesh, .txns, .wtCache, .limits, .traceBuf, .dbg] errParts, regsPlus [.WSTATUS, .DBG_TRACE_PTR,
    .DBG_CORE_STATUS] errRegs)
  | .sc _ _ _ _ _ _ _ _ => (partsPlus [.mesh, .txns, .wtCache, .limits, .traceBuf, .dbg] errParts, regsPlus [.WSTATUS, .DBG_TRACE_PTR,
    .DBG_CORE_STATUS] errRegs)
  | .holdWindowEnd _ => ([.cores], [])
  | .fence _ _ _ _ => (partsPlus [.traceBuf, .dbg] raiseParts, regsPlus [.DBG_TRACE_PTR, .DBG_CORE_STATUS] raiseRegs)
  | .fenceTso _ _ => (partsPlus [.traceBuf, .dbg] raiseParts, regsPlus [.DBG_TRACE_PTR, .DBG_CORE_STATUS] raiseRegs)
  | .fenceI _ _ => (partsPlus [.traceBuf, .dbg] raiseParts, regsPlus [.DBG_TRACE_PTR, .DBG_CORE_STATUS] raiseRegs)
  | .sfenceVma _ _ _ _ _ => (partsPlus [.traceBuf, .dbg] raiseParts, regsPlus [.WSTATUS, .DBG_TRACE_PTR, .DBG_CORE_STATUS] raiseRegs)
  | .hfenceVvma _ _ _ _ _ => (partsPlus [.traceBuf, .dbg] raiseParts, regsPlus [.WSTATUS, .DBG_TRACE_PTR, .DBG_CORE_STATUS] raiseRegs)
  | .hfenceGvma _ _ _ _ _ => (partsPlus [.traceBuf, .dbg] raiseParts, regsPlus [.WSTATUS, .DBG_TRACE_PTR, .DBG_CORE_STATUS] raiseRegs)
  | .sinvalVma _ _ _ _ _ _ => (partsPlus [.traceBuf, .dbg] raiseParts, regsPlus [.WSTATUS, .DBG_TRACE_PTR, .DBG_CORE_STATUS] raiseRegs)
  | .sfenceWInval _ _ _ => (partsPlus [.traceBuf, .dbg] raiseParts, regsPlus [.WSTATUS, .DBG_TRACE_PTR, .DBG_CORE_STATUS] raiseRegs)
  | .sfenceInvalIr _ _ _ => (partsPlus [.traceBuf, .dbg] raiseParts, regsPlus [.WSTATUS, .DBG_TRACE_PTR, .DBG_CORE_STATUS] raiseRegs)
  | .cboZero _ _ _ _ => (partsPlus [.mesh, .txns, .wtCache, .limits, .traceBuf, .dbg] errParts, regsPlus [.WSTATUS, .DBG_TRACE_PTR,
    .DBG_CORE_STATUS] errRegs)
  | .cboClean _ _ _ _ => (partsPlus [.mesh, .txns, .wtCache, .limits, .traceBuf, .dbg] errParts, regsPlus [.WSTATUS, .DBG_TRACE_PTR,
    .DBG_CORE_STATUS] errRegs)
  | .cboFlush _ _ _ _ => (partsPlus [.mesh, .txns, .wtCache, .limits, .traceBuf, .dbg] errParts, regsPlus [.WSTATUS, .DBG_TRACE_PTR,
    .DBG_CORE_STATUS] errRegs)
  | .cboInval _ _ _ _ => (partsPlus [.mesh, .txns, .wtCache, .limits, .traceBuf, .dbg] errParts, regsPlus [.WSTATUS, .DBG_TRACE_PTR,
    .DBG_CORE_STATUS] errRegs)
  | .prefetch _ _ _ _ _ => (partsPlus [.mesh, .txns, .wtCache, .limits, .traceBuf, .dbg] errParts, regsPlus [.DBG_TRACE_PTR,
    .DBG_CORE_STATUS] errRegs)
  | .wfi _ _ _ => (partsPlus [.traceBuf, .dbg] raiseParts, regsPlus [.WSTATUS, .DBG_TRACE_PTR, .DBG_CORE_STATUS] raiseRegs)
  | .wfiWake _ => ([.cores], [.LID_SECTION])
  | .pause _ _ => (partsPlus [.traceBuf, .dbg] raiseParts, regsPlus [.DBG_TRACE_PTR, .DBG_CORE_STATUS] raiseRegs)
  | .pauseEnd _ => ([.cores], [])
  | .timeRead _ _ _ _ => (partsPlus [.traceBuf, .dbg] raiseParts, regsPlus [.WSTATUS, .DBG_TRACE_PTR, .DBG_CORE_STATUS] raiseRegs)
  | .csrWrite _ _ _ _ _ _ _ _ => (partsPlus [.traceBuf, .dbg] raiseParts, allRegs)
  | .ecall _ => (partsPlus [.traceBuf, .dbg] raiseParts, regsPlus [.WSTATUS, .DBG_TRACE_PTR, .DBG_CORE_STATUS] raiseRegs)
  | .ebreak _ => (partsPlus [.traceBuf, .dbg] raiseParts, regsPlus [.WSTATUS, .DBG_TRACE_PTR, .DBG_CORE_STATUS] raiseRegs)
  | .mret _ _ => (partsPlus [.traceBuf, .dbg] raiseParts, regsPlus [.WSTATUS, .DBG_TRACE_PTR, .DBG_CORE_STATUS] raiseRegs)
  | .sret _ _ => (partsPlus [.traceBuf, .dbg] raiseParts, regsPlus [.WSTATUS, .DBG_TRACE_PTR, .DBG_CORE_STATUS] raiseRegs)
  | .trap _ _ _ _ _ => (partsPlus [.traceBuf, .dbg] raiseParts, regsPlus [.WSTATUS, .DBG_TRACE_PTR, .DBG_CORE_STATUS] raiseRegs)
  | .branchMispredict _ _ _ _ _ _ _ _ => (partsPlus [.traceBuf, .dbg] raiseParts, regsPlus [.DBG_TRACE_PTR, .DBG_CORE_STATUS] raiseRegs)
  | .pageTableWalk _ _ _ _ => (partsPlus [.free, .mesh, .txns, .wtCache, .traceBuf, .dbg] raiseParts, regsPlus [.WSTATUS, .DBG_TRACE_PTR,
    .DBG_CORE_STATUS] raiseRegs)
  | .deviceStoreAck _ _ _ _ => (partsPlus [.txns] errParts, errRegs)
  | .rdShared _ _ => (partsPlus [.trk, .fair, .slots, .agentReqs, .ghosts, .mesh, .pubs] cacheParts, cacheRegs)
  | .rdOwn _ _ => (partsPlus [.trk, .fair, .slots, .agentReqs, .ghosts, .mesh, .txns, .wtCache, .pubs] cacheParts, cacheRegs)
  | .upgrade _ _ => (partsPlus [.trk, .fair, .slots, .agentReqs, .ghosts, .mesh, .pubs] cacheParts, cacheRegs)
  | .rdOnce _ _ => (partsPlus [.trk, .fair, .slots, .agentReqs, .ghosts, .mesh, .txns, .wtCache, .pubs] cacheParts, cacheRegs)
  | .wrLine _ _ _ => (partsPlus [.trk, .fair, .slots, .agentReqs, .ghosts, .mesh, .txns, .wtCache, .pubs] cacheParts, cacheRegs)
  | .cboFlushRequest _ _ => (partsPlus [.trk, .fair, .slots, .agentReqs, .ghosts, .mesh, .pubs] cacheParts, cacheRegs)
  | .amoHome _ _ => (partsPlus [.fair, .agentReqs, .mesh, .txns] errParts, errRegs)
  | .nak _ _ => ([.free, .cores, .agentReqs, .mesh, .cnt], [])
  | .nakRetry _ _ => ([.cores, .agentReqs, .mesh, .txns], [])
  | .fairnessReservationDrop _ => ([.fair], [])
  | .comp _ _ => (partsPlus [.agentReqs, .mesh, .txns, .pubs, .traceBuf, .dbg] errParts, regsPlus [.DBG_TRACE_PTR] errRegs)
  | .data _ _ => (partsPlus [.agentReqs, .mesh, .txns, .pubs, .traceBuf, .dbg] errParts, regsPlus [.DBG_TRACE_PTR] errRegs)
  | .deferRsp _ => (partsPlus [.trk, .fair, .agentReqs, .mesh, .pubs, .traceBuf, .dbg] cacheParts, regsPlus [.DBG_TRACE_PTR] cacheRegs)
  | .wbDirty _ _ => ([.free, .stamp, .cores, .mem, .memPoison, .l3, .depvb, .sieve, .trk, .agentReqs, .mesh, .pubs, .cnt], [])
  | .evictClean _ _ => ([.cores, .sieve, .mesh], [])
  | .wbAck _ _ => ([.cores, .mesh], [])
  | .wbAckDiscarded _ _ => ([.cores, .mesh], [])
  | .evictAck _ _ => ([.cores, .mesh], [])
  | .snpShared _ _ _ => (partsPlus [.trk, .slots, .agentReqs, .mesh, .traceBuf, .dbg] raiseParts, regsPlus [.DBG_TRACE_PTR] raiseRegs)
  | .snpOwn _ _ _ => (partsPlus [.trk, .slots, .agentReqs, .mesh, .traceBuf, .dbg] raiseParts, regsPlus [.DBG_TRACE_PTR] raiseRegs)
  | .snpOnce _ _ _ => (partsPlus [.trk, .slots, .agentReqs, .mesh, .traceBuf, .dbg] raiseParts, regsPlus [.DBG_TRACE_PTR] raiseRegs)
  | .snpInv _ _ _ => (partsPlus [.trk, .slots, .agentReqs, .mesh, .traceBuf, .dbg] raiseParts, regsPlus [.DBG_TRACE_PTR] raiseRegs)
  | .combinedResponse _ _ => (partsPlus [.trk, .fair, .slots, .agentReqs, .mesh, .pubs, .traceBuf, .dbg] cacheParts,
    regsPlus [.DBG_TRACE_PTR] cacheRegs)
  | .snoopSlotReservation _ _ _ => ([.trk, .slots, .cnt], [])
  | .timeout _ _ => (partsPlus [.agentReqs, .ghosts, .txns, .traceBuf, .dbg] errParts, regsPlus [.MESH_INIT_STATUS, .DBG_TRACE_PTR] errRegs)
  | .lateResponse _ _ => ([.txns], [.MESH_INIT_STATUS])
  | .errorResponse _ _ _ => (partsPlus [.agentReqs, .ghosts, .txns, .limits, .traceBuf, .dbg] errParts, regsPlus [.DBG_TRACE_PTR] errRegs)
  | .linkCorrected _ _ _ => (partsPlus [.mac] errParts, allRegs)
  | .linkUncorrected _ _ => (partsPlus [.linkStopped] errParts, errRegs)
  | .apply _ _ _ _ => (partsPlus [.mesh, .txns, .limits] (partsPlus errParts answerParts), regsPlus [.MESH_LINK_CFG] errRegs)
  | .linkReconfigDone _ _ => (partsPlus [.mesh, .mac] errParts, allRegs)
  | .clear _ _ _ => (partsPlus [.mesh, .txns, .limits] (partsPlus errParts answerParts), regsPlus [.MESH_INIT_STATUS] errRegs)
  | .close _ _ _ _ => (partsPlus [.mesh, .txns, .limits] (partsPlus errParts answerParts), regsPlus [.LID_SECTION] errRegs)
  | .lidOpen _ _ _ _ => (partsPlus [.mesh, .txns, .limits] (partsPlus errParts answerParts), regsPlus [.LID_SECTION] errRegs)
  | .lidDrain _ _ => ([], [.LID_SECTION])
  | .lidDrainLimit _ _ => (partsPlus [.agentReqs, .ghosts, .txns, .fabRem, .pcieTags, .limits, .traceBuf, .dbg] errParts,
    regsPlus [.MESH_INIT_STATUS, .LID_SECTION, .DBG_TRACE_PTR] errRegs)
  | .lidClosed _ _ => ([], [.LID_SECTION])
  | .domainOff _ _ => (partsPlus [.agentReqs, .ghosts, .txns, .limits, .traceBuf, .dbg] errParts, regsPlus [.DBG_TRACE_PTR] errRegs)
  | .cgBegin _ _ _ _ _ => (partsPlus [.traceBuf, .dbg] raiseParts, regsPlus [.WSTATUS, .DBG_TRACE_PTR, .DBG_CORE_STATUS] raiseRegs)
  | .cgEnd _ _ _ _ _ => (partsPlus [.mesh, .txns, .traceBuf, .dbg] raiseParts, regsPlus [.WSTATUS, .DBG_TRACE_PTR, .DBG_CORE_STATUS] cacheRegs)
  | .cgAbort _ _ _ _ => (partsPlus [.traceBuf, .dbg] raiseParts, regsPlus [.WSTATUS, .DBG_TRACE_PTR, .DBG_CORE_STATUS] raiseRegs)
  | .cgTest _ _ _ _ => (partsPlus [.traceBuf, .dbg] raiseParts, regsPlus [.WSTATUS, .DBG_TRACE_PTR, .DBG_CORE_STATUS] raiseRegs)
  | .fenceD _ _ _ => (partsPlus [.traceBuf, .dbg] raiseParts, regsPlus [.WSTATUS, .DBG_TRACE_PTR, .DBG_CORE_STATUS] raiseRegs)
  | .cgInterruptDeferral _ => (partsPlus [.traceBuf, .dbg] raiseParts, regsPlus [.DBG_TRACE_PTR] raiseRegs)
  | .stagingReservation _ => ([.stamp, .jrnRes], [])
  | .stagingGrant _ => ([.cores, .jrnRes], [])
  | .journalFull _ => (partsPlus [.traceBuf, .dbg] raiseParts, regsPlus [.DBG_TRACE_PTR] raiseRegs)
  | .stagingCancel _ => ([.cores, .jrnRes], [])
  | .commitRequest _ => (partsPlus [.spn, .spnChanged] errParts, regsPlus [.SPN_STREAM_STATE, .SPN_STREAM_ASSIGNED, .JRN_STREAM_STATUS] errRegs)
  | .commitReply _ => (partsPlus [.spn, .pubs, .repl, .ports, .fabIn, .traceBuf, .dbg] errParts, regsPlus [.DBG_TRACE_PTR] errRegs)
  | .flipWindowEnd _ => (partsPlus [.jrnRecs, .traceBuf, .dbg] raiseParts, regsPlus [.DBG_TRACE_PTR, .DBG_CORE_STATUS] cacheRegs)
  | .recordSegment _ _ => (partsPlus [.spn, .repl, .ports, .fabIn] errParts, errRegs)
  | .watermarkPublication _ => (partsPlus [.free, .stamp, .mem, .memPoison, .l3, .depvb, .trk, .agentReqs, .mesh, .pubs, .pubFlits, .traceBuf,
    .dbg] raiseParts, regsPlus [.DBG_TRACE_PTR, .DBG_CORE_STATUS] raiseRegs)
  | .cgDepseqWrite _ _ _ _ _ _ => (partsPlus [.traceBuf, .dbg] raiseParts, regsPlus [.DBG_TRACE_PTR, .DBG_CORE_STATUS] raiseRegs)
  | .cgDepseqAnswer _ => (partsPlus [.traceBuf, .dbg] raiseParts, regsPlus [.DBG_TRACE_PTR, .DBG_CORE_STATUS] raiseRegs)
  | .lostClear _ _ _ _ _ _ => (partsPlus [.traceBuf, .dbg] raiseParts, regsPlus [.DBG_TRACE_PTR, .DBG_CORE_STATUS] raiseRegs)
  | .publicationRound => ([.spn, .spnChanged, .pubFlits, .cnt], [])
  | .resolution _ => (partsPlus [.spn, .spnChanged] errParts, regsPlus [.SPN_STREAM_STATE, .SPN_STREAM_WMARK, .SPN_STREAM_ASSIGNED,
    .JRN_STREAM_STATUS] errRegs)
  | .streamEnable _ _ _ => (partsPlus [.mesh, .txns, .spn, .limits] (partsPlus errParts answerParts), regsPlus [.SPN_STREAM_CFG] errRegs)
  | .streamDisable _ _ _ => (partsPlus [.mesh, .txns, .spn, .limits] (partsPlus errParts answerParts), regsPlus [.SPN_STREAM_CFG,
    .SPN_STREAM_STATE] errRegs)
  | .fenceStream _ _ => (partsPlus [.mesh, .txns, .spn, .spnChanged, .limits] (partsPlus errParts answerParts), regsPlus [.SPN_STREAM_STATE,
    .SPN_STREAM_ASSIGNED, .JRN_STREAM_STATUS] errRegs)
  | .resume _ _ => (partsPlus [.mesh, .txns, .spn, .spnChanged, .limits] (partsPlus errParts answerParts), regsPlus [.SPN_STREAM_STATE,
    .SPN_STREAM_ASSIGNED, .JRN_STREAM_STATUS] errRegs)
  | .restart _ _ => (partsPlus [.mesh, .txns, .spn, .limits] (partsPlus errParts answerParts), regsPlus [.SPN_STREAM_STATE] errRegs)
  | .sweep _ _ => ([.cores, .l3, .depvb, .spn], [])
  | .sweepAnswer _ _ => ([.cores, .spn, .spnChanged], [.SPN_STREAM_CFG, .SPN_STREAM_STATE, .SPN_STREAM_WMARK, .SPN_STREAM_ASSIGNED, .JRN_APPEND_PTR,
    .JRN_DRAIN_PTR])
  | .closeMark _ => (partsPlus [.spn, .spnChanged, .repl, .ports, .fabIn] errParts, regsPlus [.SPN_STREAM_STATE, .SPN_STREAM_ASSIGNED,
    .JRN_STREAM_STATUS] errRegs)
  | .journalAppend _ => (partsPlus [.wtCache, .spn, .spnChanged, .repl, .ports, .fabIn] errParts, regsPlus [.SPN_STREAM_STATE, .SPN_STREAM_ASSIGNED,
    .JRN_APPEND_PTR, .JRN_STREAM_STATUS] errRegs)
  | .appendAccepted _ _ => ([.spn, .jrnRes, .jrnRecs], [])
  | .drainPtrWrite _ _ _ => (partsPlus [.mesh, .txns, .limits] (partsPlus errParts answerParts), regsPlus [.JRN_DRAIN_PTR,
    .JRN_STREAM_STATUS] errRegs)
  | .park _ _ _ _ _ _ _ => (partsPlus [.traceBuf, .dbg] raiseParts, allRegs)
  | .bind _ _ _ _ _ _ _ => (partsPlus [.traceBuf, .dbg] raiseParts, allRegs)
  | .unbind _ _ _ _ _ _ _ => (partsPlus [.traceBuf, .dbg] raiseParts, allRegs)
  | .pairSync _ _ _ => (partsPlus [.traceBuf, .dbg] raiseParts, regsPlus [.WSTATUS, .DBG_TRACE_PTR, .DBG_CORE_STATUS] raiseRegs)
  | .intervalEnd _ => ([.pairs], [])
  | .intervalComparison _ _ _ _ => (partsPlus [.traceBuf, .dbg] errParts, allRegs)
  | .voteSparePowered _ => ([.cores, .pairs], allRegs)
  | .voteResult _ _ _ _ _ _ => (partsPlus [.mesh, .mac, .traceBuf, .dbg] errParts, allRegs)
  | .voteLimit _ => (partsPlus [.mesh, .mac] errParts, allRegs)
  | .enable _ _ _ => (partsPlus [.mesh, .txns, .ports, .fabIn, .fabRem, .limits] (partsPlus errParts answerParts), regsPlus [.FAB_PORT_CTL,
    .FAB_PORT_STATUS] errRegs)
  | .retrain _ _ _ => (partsPlus [.mesh, .txns, .ports, .fabIn, .fabRem, .limits] (partsPlus errParts answerParts), regsPlus [.FAB_PORT_CTL,
    .FAB_PORT_STATUS] errRegs)
  | .laneSwap _ _ _ => (partsPlus [.mesh, .txns, .ports, .fabIn, .fabRem, .limits, .mac] (partsPlus errParts answerParts), regsPlus [.FAB_PORT_CTL,
    .FAB_PORT_STATUS] errRegs)
  | .laneSwapPacket => (partsPlus [.ports, .fabIn] errParts, regsPlus [.FAB_PORT_STATUS] errRegs)
  | .trainingComplete _ _ _ => (partsPlus [.free, .ports] raiseParts, regsPlus [.FAB_PORT_STATUS] raiseRegs)
  | .trainingRetry _ => ([], [.FAB_PORT_STATUS])
  | .attestNonce => ([.ports, .fabIn, .evidence, .cnt], [])
  | .attestEvidence => (partsPlus [.ports, .fabIn, .keys, .ksCopy] errParts, regsPlus [.FAB_PORT_STATUS] errRegs)
  | .attestResult => (partsPlus [.ports, .fabIn] errParts, regsPlus [.FAB_PORT_STATUS] errRegs)
  | .attestationLimit _ => (partsPlus [.ports] errParts, regsPlus [.FAB_PORT_STATUS] errRegs)
  | .dataFolio _ _ => (partsPlus [.ports, .fabIn, .fabRem] errParts, regsPlus [.FAB_PORT_STATUS] errRegs)
  | .idleFolio _ _ => (partsPlus [.ports, .fabIn, .fabRem] errParts, regsPlus [.FAB_PORT_STATUS] errRegs)
  | .folioNak _ _ => (partsPlus [.ports, .fabIn, .fabRem] errParts, regsPlus [.FAB_PORT_STATUS] errRegs)
  | .nakRepeat _ => ([.ports, .cnt], [])
  | .replayTimeout _ => (partsPlus [.ports, .fabIn, .fabRem] errParts, regsPlus [.FAB_PORT_STATUS] errRegs)
  | .linkDown _ _ => (partsPlus [.ports, .fabIn, .fabRem] errParts, regsPlus [.FAB_PORT_STATUS] errRegs)
  | .switchForward _ => (partsPlus [.ports, .fabIn, .fabDropped] errParts, errRegs)
  | .apertureAccess _ _ => (partsPlus [.mesh, .txns, .ports, .fabIn, .fabRem, .limits] errParts, regsPlus [.MESH_INIT_STATUS] errRegs)
  | .write => (partsPlus [.wtCache, .ports, .fabIn] errParts, errRegs)
  | .read => (partsPlus [.wtCache, .ports, .fabIn] errParts, errRegs)
  | .atomic => (partsPlus [.wtCache, .ports, .fabIn] errParts, errRegs)
  | .readRsp => (partsPlus [.txns, .ports, .fabIn, .fabRem] errParts, regsPlus [.MESH_INIT_STATUS] errRegs)
  | .writeAck => (partsPlus [.txns, .ports, .fabIn, .fabRem] errParts, regsPlus [.MESH_INIT_STATUS] errRegs)
  | .atomicRsp => (partsPlus [.txns, .ports, .fabIn, .fabRem] errParts, regsPlus [.MESH_INIT_STATUS] errRegs)
  | .remoteReadTimeout _ => (partsPlus [.txns, .wtCache, .ports, .fabIn, .fabRem, .sqNext, .sqDone] errParts, regsPlus [.MESH_INIT_STATUS,
    .FAB_SQ_PTR] errRegs)
  | .msg => (partsPlus [.wtCache, .ports, .fabIn] errParts, regsPlus [.FAB_RXRING_PTR] errRegs)
  | .msgRsp => (partsPlus [.wtCache, .ports, .fabIn, .fabRem, .sqNext, .sqDone] errParts, regsPlus [.FAB_SQ_PTR] errRegs)
  | .tail _ _ _ => (partsPlus [.mesh, .txns, .wtCache, .ports, .fabIn, .fabRem, .sqNext, .sqDone, .limits] (partsPlus errParts answerParts),
    regsPlus [.FAB_SQ_PTR] errRegs)
  | .consumer _ _ _ => (partsPlus [.mesh, .txns, .limits] (partsPlus errParts answerParts), regsPlus [.FAB_RXRING_PTR] errRegs)
  | .timeSync => (partsPlus [.dtime, .ports, .fabIn, .slew] raiseParts, regsPlus [.FAB_PORT_STATUS] raiseRegs)
  | .timeSyncInterval _ => (partsPlus [.ports] raiseParts, regsPlus [.FAB_PORT_STATUS] raiseRegs)
  | .timeDelayReq => ([.ports, .fabIn, .cnt], [])
  | .timeDelayRsp => (partsPlus [.dtime, .ports, .fabIn, .slew] raiseParts, regsPlus [.FAB_PORT_STATUS] raiseRegs)
  | .remoteReset => (partsPlus [.ports, .fabIn, .remote] errParts, errRegs)
  | .remoteResetVerified => (partsBut [.pending, .free, .stamp, .dtime, .rsp, .mem, .memPoison, .pfw, .railOut, .pwrgood, .resetInLow, .prochotLow,
    .thermtrip, .unlocked, .regFailed, .rtcAcc, .fuses, .flash, .ksCopy, .spd], allRegs)
  | .remoteResetRsp => ([.fabIn, .remote], [])
  | .quire => (partsPlus [.wtCache, .spn, .spnChanged, .ports, .fabIn] errParts, regsPlus [.SPN_STREAM_STATE, .SPN_STREAM_ASSIGNED,
    .JRN_STREAM_STATUS, .JRN_REPL_STATE, .JRN_RSLOT_CFG, .JRN_RSLOT_TERM, .JRN_RSLOT_HELD, .JRN_RSLOT_APPEND] errRegs)
  | .ack => (partsPlus [.wtCache, .spn, .spnChanged, .repl, .ports, .fabIn] errParts, regsPlus [.SPN_STREAM_STATE, .SPN_STREAM_ASSIGNED,
    .JRN_APPEND_PTR, .JRN_STREAM_STATUS, .JRN_REPL_STATE, .JRN_REPL_DEGRADED, .JRN_REPL_HELD] errRegs)
  | .reject => (partsPlus [.spn, .spnChanged, .repl, .ports, .fabIn] errParts, regsPlus [.SPN_STREAM_STATE, .SPN_STREAM_ASSIGNED, .JRN_STREAM_STATUS,
    .JRN_REPL_STATE, .JRN_REPL_DEGRADED, .JRN_REPL_HELD] errRegs)
  | .probe => (partsPlus [.spn, .spnChanged, .ports, .fabIn] errParts, regsPlus [.SPN_STREAM_STATE, .SPN_STREAM_ASSIGNED, .JRN_STREAM_STATUS,
    .JRN_REPL_STATE, .JRN_RSLOT_CFG, .JRN_RSLOT_TERM] errRegs)
  | .probeInterval _ _ => (partsPlus [.repl, .ports, .fabIn] errParts, errRegs)
  | .rejoin => (partsPlus [.spn, .spnChanged, .repl, .ports, .fabIn] errParts, regsPlus [.SPN_STREAM_STATE, .SPN_STREAM_ASSIGNED, .JRN_STREAM_STATUS,
    .JRN_REPL_STATE, .JRN_REPL_DEGRADED, .JRN_REPL_HELD] errRegs)
  | .termRequest => (partsPlus [.spn, .spnChanged, .ports, .fabIn] errParts, regsPlus [.SPN_STREAM_STATE, .SPN_STREAM_ASSIGNED, .JRN_STREAM_STATUS,
    .JRN_REPL_STATE, .JRN_RSLOT_CFG, .JRN_RSLOT_TERM] errRegs)
  | .termGrant => (partsPlus [.spn, .spnChanged, .repl, .ports, .fabIn] errParts, regsPlus [.SPN_STREAM_STATE, .SPN_STREAM_ASSIGNED,
    .SPN_STREAM_NEXT, .JRN_REGION, .JRN_APPEND_PTR, .JRN_DRAIN_PTR, .JRN_STREAM_STATUS, .JRN_REPL_STATE, .JRN_REPL_DEGRADED, .JRN_REPL_HELD,
    .JRN_RSLOT_CFG] errRegs)
  | .termRefuse => (partsPlus [.spn, .spnChanged, .ports, .fabIn] errParts, regsPlus [.SPN_STREAM_STATE, .SPN_STREAM_ASSIGNED, .JRN_STREAM_STATUS,
    .JRN_REPL_STATE] errRegs)
  | .lastGasp => (partsPlus [.wtCache, .spn, .spnChanged, .ports, .fabIn] errParts, regsPlus [.SPN_STREAM_STATE, .SPN_STREAM_ASSIGNED,
    .JRN_STREAM_STATUS, .JRN_REPL_STATE, .JRN_RSLOT_CFG, .JRN_RSLOT_TERM, .JRN_RSLOT_HELD, .JRN_RSLOT_APPEND, .JRN_RSLOT_GASP] errRegs)
  | .cmdPromote _ _ _ => (partsPlus [.mesh, .txns, .spn, .repl, .ports, .fabIn, .limits] (partsPlus errParts answerParts),
    regsPlus [.SPN_STREAM_NEXT, .JRN_REGION, .JRN_APPEND_PTR, .JRN_DRAIN_PTR, .JRN_REPL_STATE, .JRN_REPL_DEGRADED, .JRN_REPL_HELD, .JRN_RSLOT_CFG,
    .JRN_RSLOT_TERM] errRegs)
  | .stepDown _ _ _ => (partsPlus [.mesh, .txns, .spn, .spnChanged, .limits] (partsPlus errParts answerParts), regsPlus [.SPN_STREAM_STATE,
    .SPN_STREAM_ASSIGNED, .JRN_STREAM_STATUS, .JRN_REPL_STATE] errRegs)
  | .promotionLimit _ => (errParts, regsPlus [.JRN_REPL_STATE] errRegs)
  | .replicaSilent _ _ => (partsPlus [.spn, .repl] errParts, regsPlus [.JRN_REPL_STATE, .JRN_REPL_DEGRADED, .JRN_REPL_HELD] errRegs)
  | .catchupWalk _ _ => (partsPlus [.spn, .repl, .ports, .fabIn] errParts, regsPlus [.JRN_REPL_STATE, .JRN_REPL_DEGRADED, .JRN_REPL_HELD] errRegs)
  | .catchupSwitch _ _ => (partsPlus [.spn, .repl, .ports, .fabIn] errParts, regsPlus [.JRN_REPL_STATE, .JRN_REPL_DEGRADED] errRegs)
  | .slotValid _ _ _ => (partsPlus [.mesh, .txns, .ports, .fabIn, .limits] (partsPlus errParts answerParts), regsPlus [.JRN_RSLOT_CFG,
    .JRN_RSLOT_GASP] errRegs)
  | .lastGaspBudget _ => (partsPlus [.wtCache, .spn, .spnChanged, .repl, .ports, .fabIn] errParts, regsPlus [.SPN_STREAM_STATE, .SPN_STREAM_ASSIGNED,
    .JRN_APPEND_PTR, .JRN_STREAM_STATUS, .JRN_REPL_STATE] errRegs)
  | .degradedFromClear _ _ _ => (partsPlus [.mesh, .txns, .limits] (partsPlus errParts answerParts), regsPlus [.JRN_REPL_DEGRADED] errRegs)
  | .channelTraining _ _ => (partsPlus [.chans, .spd, .wdogNs] errParts, regsPlus [.MCT_CH_STATUS, .TMR_WDOG] errRegs)
  | .dramZeroing => (partsBut [.pending, .dtime, .rsp, .pfw, .railOut, .pwrgood, .resetInLow, .prochotLow, .thermtrip, .unlocked, .regFailed,
    .rtcAcc, .fuses, .ksCopy, .spd], allRegs)
  | .mctDecodeWrite _ _ _ => (partsPlus [.mesh, .txns, .limits] (partsPlus errParts answerParts), regsPlus [.MCT_DECODE] errRegs)
  | .mcRead _ _ _ _ => ([.chans, .mcRsp], [.MCT_CH_STATUS])
  | .mcWrite _ _ _ _ _ _ _ _ _ => (partsPlus [.chans, .mcRsp, .limits, .mac] errParts, regsPlus [.MCT_CH_STATUS, .MCT_ECC_COUNT,
    .MCT_ECC_LOG] errRegs)
  | .dramReadComplete _ _ _ _ => (partsPlus [.chans, .mcRsp, .limits, .mac] errParts, regsPlus [.MCT_ECC_COUNT, .MCT_ECC_LOG] errRegs)
  | .refresh _ _ _ => ([.chans], [])
  | .zqcs _ _ => ([.chans], [])
  | .caParityFailure _ => (partsPlus [.chans, .mcRsp] errParts, regsPlus [.MCT_CH_STATUS] errRegs)
  | .channelLost _ => (partsPlus [.chans, .mcRsp] errParts, regsPlus [.MCT_CH_STATUS] errRegs)
  | .deviceErased _ _ _ => (partsPlus [.chans, .mac] errParts, regsPlus [.MCT_CH_STATUS] errRegs)
  | .pprApplied _ _ _ => (partsPlus [.chans, .mac] errParts, regsPlus [.MCT_CH_STATUS] errRegs)
  | .rankSpared _ _ => ([.chans], [.MCT_CH_STATUS])
  | .rankCopyDone _ => (errParts, regsPlus [.MCT_CH_STATUS] errRegs)
  | .patrolScrub _ _ _ => (partsPlus [.chans, .limits, .mac] errParts, regsPlus [.MCT_ECC_COUNT, .MCT_ECC_LOG, .MCT_SCRUB] errRegs)
  | .selfRefreshEntry _ => ([.chans, .cnt], [.MCT_CH_STATUS])
  | .selfRefreshExit _ => ([], [.MCT_CH_STATUS])
  | .eccCountClear _ _ _ => (partsPlus [.mesh, .txns, .limits] (partsPlus errParts answerParts), regsPlus [.MCT_ECC_COUNT] errRegs)
  | .pcieOutboundRequest _ _ _ _ => (partsPlus [.mesh, .txns, .pcieTags, .pcieOut] errParts, regsPlus [.MESH_INIT_STATUS, .PCIE_PORT_STATUS] errRegs)
  | .pcieCompletion _ _ _ _ _ => (partsPlus [.txns, .pcieTags, .pcieCpl, .pcieLate] errParts, regsPlus [.MESH_INIT_STATUS, .PCIE_PORT_STATUS] errRegs)
  | .pcieCplTimeout _ _ => (partsPlus [.txns, .pcieTags, .pcieCpl] errParts, regsPlus [.MESH_INIT_STATUS, .PCIE_PORT_STATUS] errRegs)
  | .pcieInboundRequest _ _ _ _ _ _ _ _ _ _ => (partsPlus [.wtCache, .pcieTags, .pcieOut, .pcieCpl, .msiLost, .ctxCache, .ioTlb, .rcv] errParts,
    regsPlus [.PCIE_PORT_STATUS, .IOMMU_FAULT] errRegs)
  | .pcieLinkDown _ _ _ _ _ _ _ => (errParts, regsPlus [.PCIE_PORT_STATUS] errRegs)
  | .pcieAer _ _ _ => (errParts, regsPlus [.PCIE_PORT_STATUS] errRegs)
  | .perstRel _ _ _ _ => (partsPlus [.mesh, .txns, .limits] (partsPlus errParts answerParts), regsPlus [.PCIE_PORT_CFG] errRegs)
  | .invalPartition _ _ _ => (partsPlus [.mesh, .txns, .ctxCache, .ioTlb, .limits] (partsPlus errParts answerParts), regsPlus [.IOMMU_INVAL] errRegs)
  | .invalFatEntry _ _ _ => (partsPlus [.mesh, .txns, .ctxCache, .ioTlb, .limits] (partsPlus errParts answerParts), regsPlus [.IOMMU_INVAL] errRegs)
  | .invalVmid _ _ _ => (partsPlus [.mesh, .txns, .ctxCache, .ioTlb, .limits] (partsPlus errParts answerParts), regsPlus [.IOMMU_INVAL] errRegs)
  | .invalDone _ => (raiseParts, regsPlus [.IOMMU_INVAL] raiseRegs)
  | .cphTail _ _ _ _ => (partsPlus [.mesh, .txns, .limits] (partsPlus errParts answerParts), regsPlus [.CPH_RING_PTR] errRegs)
  | .descriptorFetch _ => (partsPlus [.wtCache, .jobs, .cphTurn, .cphKeys, .limits] errParts, regsPlus [.CPH_STATUS] errRegs)
  | .aesEncrypt _ _ _ => (partsPlus [.txns, .wtCache, .jobs, .limits] errParts, regsPlus [.CPH_STATUS] errRegs)
  | .aesDecrypt _ _ _ => (partsPlus [.txns, .wtCache, .jobs, .limits] errParts, regsPlus [.CPH_STATUS] errRegs)
  | .aesCmacGenerate _ _ _ => (partsPlus [.txns, .wtCache, .jobs, .limits] errParts, regsPlus [.CPH_STATUS] errRegs)
  | .aesCmacVerify _ _ _ => (partsPlus [.txns, .wtCache, .jobs, .limits] errParts, regsPlus [.CPH_STATUS] errRegs)
  | .tdesEncrypt _ _ _ => (partsPlus [.txns, .wtCache, .jobs, .limits] errParts, regsPlus [.CPH_STATUS] errRegs)
  | .tdesDecrypt _ _ _ => (partsPlus [.txns, .wtCache, .jobs, .limits] errParts, regsPlus [.CPH_STATUS] errRegs)
  | .retailMacGenerate _ _ _ => (partsPlus [.txns, .wtCache, .jobs, .limits] errParts, regsPlus [.CPH_STATUS] errRegs)
  | .retailMacVerify _ _ _ => (partsPlus [.txns, .wtCache, .jobs, .limits] errParts, regsPlus [.CPH_STATUS] errRegs)
  | .hash _ _ _ => (partsPlus [.txns, .wtCache, .jobs, .limits] errParts, regsPlus [.CPH_STATUS] errRegs)
  | .hmacGenerate _ _ _ => (partsPlus [.txns, .wtCache, .jobs, .limits] errParts, regsPlus [.CPH_STATUS] errRegs)
  | .hmacVerify _ _ _ => (partsPlus [.txns, .wtCache, .jobs, .limits] errParts, regsPlus [.CPH_STATUS] errRegs)
  | .rsaVerify _ _ _ => (partsPlus [.txns, .wtCache, .jobs, .limits] errParts, regsPlus [.CPH_STATUS] errRegs)
  | .rsaSign _ _ _ => (partsPlus [.txns, .wtCache, .jobs, .limits] errParts, regsPlus [.CPH_STATUS] errRegs)
  | .ecdsaVerify _ _ _ => (partsPlus [.txns, .wtCache, .jobs, .limits] errParts, regsPlus [.CPH_STATUS] errRegs)
  | .ecdsaSign _ _ _ => (partsPlus [.txns, .wtCache, .jobs, .limits] errParts, regsPlus [.CPH_STATUS] errRegs)
  | .ed25519Verify _ _ _ => (partsPlus [.txns, .wtCache, .jobs, .limits] errParts, regsPlus [.CPH_STATUS] errRegs)
  | .ed25519Sign _ _ _ => (partsPlus [.txns, .wtCache, .jobs, .limits] errParts, regsPlus [.CPH_STATUS] errRegs)
  | .mlDsa65Verify _ _ _ => (partsPlus [.txns, .wtCache, .jobs, .limits] errParts, regsPlus [.CPH_STATUS] errRegs)
  | .mlDsa65Sign _ _ _ => (partsPlus [.txns, .wtCache, .jobs, .limits] errParts, regsPlus [.CPH_STATUS] errRegs)
  | .pinTranslate _ _ _ => (partsPlus [.txns, .wtCache, .jobs, .limits] errParts, regsPlus [.CPH_STATUS] errRegs)
  | .dukptPinTranslate _ _ _ => (partsPlus [.txns, .wtCache, .jobs, .limits] errParts, regsPlus [.CPH_STATUS] errRegs)
  | .dukptMacVerify _ _ _ => (partsPlus [.txns, .wtCache, .jobs, .limits] errParts, regsPlus [.CPH_STATUS] errRegs)
  | .cryptogramVerify _ _ _ => (partsPlus [.txns, .wtCache, .jobs, .limits] errParts, regsPlus [.CPH_STATUS] errRegs)
  | .random _ _ _ => (partsPlus [.txns, .wtCache, .jobs, .limits] errParts, regsPlus [.CPH_STATUS] errRegs)
  | .jobComplete _ _ _ => (partsPlus [.wtCache, .jobs] cacheParts, regsPlus [.CPH_STATUS, .CPH_RING_PTR] cacheRegs)
  | .cipherSelftest _ _ => (partsPlus [.txns, .jobs] errParts, regsPlus [.CPH_STATUS] errRegs)
  | .wpcSyncGo _ _ => (partsPlus [.mesh, .txns, .wtCache, .ioTlb, .limits] (partsPlus errParts answerParts), regsPlus [.WPC_SYNC] errRegs)
  | .wpcSyncDone => ([], [.WPC_SYNC])
  | .lock _ _ => (partsPlus [.mesh, .txns, .limits] (partsPlus errParts answerParts), regsPlus [.WPC_CFG] errRegs)
  | .reset _ _ _ => (partsBut [.pending, .dtime, .pfw, .railOut, .pwrgood, .resetInLow, .prochotLow, .thermtrip, .unlocked, .regFailed, .rtcAcc,
    .fuses, .flash, .ksCopy, .spd], allRegs)
  | .release _ _ _ => (partsBut [.pending, .dtime, .pfw, .railOut, .pwrgood, .resetInLow, .prochotLow, .thermtrip, .unlocked, .regFailed, .rtcAcc,
    .fuses, .flash, .ksCopy, .spd], allRegs)
  | .partitionReset _ => (partsPlus [.mesh, .lidHeld, .hartPart, .partStep, .mac, .traceBuf, .dbg] errParts, allRegs)
  | .partitionFlushDone _ => (partsPlus [.chans, .agentReqs, .ghosts, .txns, .lidHeld, .spn, .spnChanged, .repl, .ports, .fabIn, .fabRem, .sqNext,
    .sqDone, .pcieTags, .portReset, .ctxCache, .ioTlb, .jobs, .limits, .partStep, .traceBuf, .dbg] errParts, regsPlus [.MESH_INIT_STATUS,
    .LID_SECTION, .SPN_STREAM_STATE, .SPN_STREAM_ASSIGNED, .JRN_STREAM_STATUS, .FAB_SQ_PTR, .PCIE_PORT_STATUS, .IOMMU_FAULT, .CPH_STATUS,
    .CPH_RING_PTR, .DBG_TRACE_PTR] errRegs)
  | .flushLimit _ => (partsBut [.pending, .dtime, .rsp, .pfw, .railOut, .pwrgood, .resetInLow, .prochotLow, .thermtrip, .unlocked, .regFailed,
    .rtcAcc, .fuses, .flash, .ksCopy, .spd], allRegs)
  | .wcall _ _ => (partsPlus [.traceBuf, .dbg] raiseParts, regsPlus [.WSTATUS, .DBG_TRACE_PTR, .DBG_CORE_STATUS] raiseRegs)
  | .wcallVersion _ => ([.free, .cores], [])
  | .pairBind _ => ([.cores, .pairs, .cnt], allRegs)
  | .pairUnbind _ => ([.cores, .pairs, .cnt], allRegs)
  | .partResetSelf _ => (partsBut [.pending, .dtime, .rsp, .pfw, .railOut, .pwrgood, .resetInLow, .prochotLow, .thermtrip, .unlocked, .regFailed,
    .rtcAcc, .fuses, .flash, .ksCopy, .spd], allRegs)
  | .sourcePending _ _ => (partsPlus [.srcHigh, .lsio] raiseParts, raiseRegs)
  | .messageInterrupt _ _ _ => (raiseParts, abortRegs)
  | .evrTgtClaim _ _ _ => (partsPlus [.mesh, .txns, .inServ, .limits, .snaps] (partsPlus errParts answerParts), errRegs)
  | .evrTgtEoi _ _ _ _ => (partsPlus [.mesh, .txns, .inServ, .nmiTaken, .limits] (partsPlus errParts answerParts), regsPlus [.EVR_TGT_EOI,
    .EVR_TGT_STATUS] errRegs)
  | .evrTgtInject _ _ _ _ => (partsPlus [.mesh, .txns, .limits] (partsPlus errParts answerParts), regsPlus [.EVR_TGT_INJECT] errRegs)
  | .evrSrcCfgWrite _ _ _ => (partsPlus [.mesh, .txns, .limits] (partsPlus errParts answerParts), regsPlus [.EVR_SRC_CFG] errRegs)
  | .nmiEntry _ => (partsPlus [.nmiTaken, .traceBuf, .dbg] raiseParts, regsPlus [.WSTATUS, .EVR_TGT_STATUS, .DBG_TRACE_PTR,
    .DBG_CORE_STATUS] raiseRegs)
  | .keyGenerate _ _ _ _ _ _ _ => (partsPlus [.mesh, .txns, .keys, .keyNext, .keyFreed, .limits, .ksCopy, .spRsp] (partsPlus errParts answerParts),
    errRegs)
  | .keyImport _ _ _ _ _ _ _ => (partsPlus [.mesh, .txns, .keys, .keyNext, .keyFreed, .limits, .ksCopy, .spRsp] (partsPlus errParts answerParts),
    errRegs)
  | .keyExport _ _ _ => (partsPlus [.mesh, .txns, .limits, .spRsp] (partsPlus errParts answerParts), errRegs)
  | .keyDelete _ _ => (partsPlus [.mesh, .txns, .cphKeys, .keys, .keyFreed, .limits, .ksCopy, .spRsp] (partsPlus errParts answerParts),
    regsPlus [.CPH_STATUS] errRegs)
  | .keyInfo _ _ => (partsPlus [.mesh, .txns, .limits, .spRsp] (partsPlus errParts answerParts), errRegs)
  | .fmKeySet _ _ => (partsPlus [.mesh, .txns, .limits, .fmKeys, .spRsp] (partsPlus errParts answerParts), errRegs)
  | .imageArm _ _ _ _ _ => (partsPlus [.mesh, .txns, .limits, .flash, .spRsp] (partsPlus errParts answerParts), errRegs)
  | .trialConfirm _ _ _ => (partsPlus [.mesh, .txns, .limits, .fuses, .flash, .boot, .spRsp] (partsPlus errParts answerParts),
    regsPlus [.SP_BOOT_STATUS, .SP_TRIAL] errRegs)
  | .revokeImageKey _ _ _ => (partsPlus [.mesh, .txns, .limits, .fuses, .spRsp] (partsPlus errParts answerParts), regsPlus [.SP_BOOT_STATUS] errRegs)
  | .revokeDebugKey _ _ _ => (partsPlus [.mesh, .txns, .limits, .fuses, .spRsp] (partsPlus errParts answerParts), regsPlus [.SP_BOOT_STATUS] errRegs)
  | .lcAdvance _ _ _ => (partsPlus [.mesh, .txns, .limits, .fuses, .spRsp] (partsPlus errParts answerParts), errRegs)
  | .keystoreErase _ => (partsPlus [.mesh, .txns, .cphKeys, .keys, .keyNext, .keyFreed, .limits, .ksCopy, .ksErased,
    .spRsp] (partsPlus errParts answerParts), regsPlus [.CPH_STATUS] errRegs)
  | .attest _ _ => (partsPlus [.mesh, .txns, .limits, .spRsp, .evidence] (partsPlus errParts answerParts), errRegs)
  | .tamper _ => (partsBut [.pending, .free, .stamp, .dtime, .rsp, .mem, .memPoison, .pfw, .railOut, .pwrgood, .resetInLow, .prochotLow, .thermtrip,
    .unlocked, .regFailed, .rtcAcc, .fuses, .flash, .ksCopy, .spd], allRegs)
  | .spBoot _ _ => (partsBut [.pending, .dtime, .rsp, .pfw, .railOut, .pwrgood, .resetInLow, .prochotLow, .thermtrip, .unlocked, .regFailed, .rtcAcc,
    .spd], allRegs)
  | .trialWatchdogWarning => (raiseParts, raiseRegs)
  | .trialWatchdogExpiry => (partsBut [.pending, .free, .stamp, .dtime, .rsp, .mem, .memPoison, .pfw, .railOut, .pwrgood, .resetInLow, .prochotLow,
    .thermtrip, .unlocked, .regFailed, .rtcAcc, .fuses, .flash, .ksCopy, .spd], allRegs)
  | .chunk _ _ => ([.rcv, .flash], [])
  | .finish _ _ => (partsBut [.pending, .stamp, .dtime, .rsp, .mem, .memPoison, .pfw, .railOut, .pwrgood, .resetInLow, .prochotLow, .thermtrip,
    .unlocked, .regFailed, .rtcAcc, .fuses, .ksCopy, .spd], allRegs)
  | .rcvAbort _ => ([.rcv], [])
  | .fabricRecovery _ _ _ _ _ => (partsBut [.pending, .dtime, .rsp, .pfw, .railOut, .pwrgood, .resetInLow, .prochotLow, .thermtrip, .unlocked,
    .regFailed, .rtcAcc, .fuses, .ksCopy, .spd], allRegs)
  | .powerOnReset _ => (partsBut [.pending, .free, .stamp, .dtime, .rsp, .mem, .memPoison, .pfw, .railOut, .pwrgood, .resetInLow, .prochotLow,
    .thermtrip, .unlocked, .regFailed, .rtcAcc, .fuses, .flash, .ksCopy, .spd], allRegs)
  | .systemReset _ => (partsBut [.pending, .free, .stamp, .dtime, .rsp, .mem, .memPoison, .pfw, .railOut, .pwrgood, .resetInLow, .prochotLow,
    .thermtrip, .unlocked, .regFailed, .rtcAcc, .fuses, .flash, .ksCopy, .spd], allRegs)
  | .coreReset _ => (partsPlus [.chans, .agentReqs, .ghosts, .mesh, .txns, .lidHeld, .spn, .spnChanged, .repl, .ports, .fabIn, .fabRem, .pcieTags,
    .limits, .mac, .traceBuf, .dbg] errParts, allRegs)
  | .blockReset _ => (partsPlus [.chans, .lidHeld, .spn, .spnChanged, .pubs, .pubFlits, .repl, .ports, .fabIn, .fabRem, .sqNext, .sqDone, .pcieTags,
    .pcieOut, .pcieCpl, .ctxCache, .ioTlb, .jobs, .cphKeys, .inServ, .nmiTaken] errParts, allRegs)
  | .resetInN _ => (partsBut [.pending, .free, .stamp, .dtime, .rsp, .mem, .memPoison, .pfw, .railOut, .pwrgood, .prochotLow, .thermtrip, .unlocked,
    .regFailed, .rtcAcc, .fuses, .flash, .ksCopy, .spd], allRegs)
  | .pwrgood _ _ => (partsBut [.pending, .free, .stamp, .dtime, .rsp, .mem, .memPoison, .pfw, .resetInLow, .prochotLow, .unlocked, .regFailed,
    .rtcAcc, .fuses, .flash, .ksCopy, .spd], allRegs)
  | .thermtrip => (partsBut [.pending, .free, .stamp, .dtime, .rsp, .mem, .memPoison, .pfw, .railOut, .pwrgood, .resetInLow, .prochotLow, .unlocked,
    .regFailed, .rtcAcc, .fuses, .flash, .ksCopy, .spd], allRegs)
  | .resetHoldEnd => ([.rstLevel], [])
  | .domainRelease _ _ => (partsPlus [.dtime, .lidHeld, .hartPart, .rstLevel, .relStep, .readyPin, .bootStep, .mac, .traceBuf, .dbg,
    .wdogNs] raiseParts, allRegs)
  | .optionLoading _ _ => ([.opt, .bootSrc, .recovSel, .bootStep], [.PCIE_CTL, .RCP_PSTATE])
  | .lockLoss _ => (partsBut [.pending, .dtime, .rsp, .pfw, .railOut, .pwrgood, .resetInLow, .prochotLow, .thermtrip, .regFailed, .rtcAcc, .fuses,
    .flash, .ksCopy, .spd], allRegs)
  | .regulatorFault _ _ => (partsBut [.pending, .dtime, .rsp, .pfw, .railOut, .pwrgood, .resetInLow, .prochotLow, .thermtrip, .unlocked, .rtcAcc,
    .fuses, .flash, .ksCopy, .spd], allRegs)
  | .railNearEdge _ => (raiseParts, raiseRegs)
  | .vbakLost => ([], [.RCP_RESET_CAUSE, .RCP_CAUSE_COUNT, .RCP_RTC])
  | .powerFailWarning => (partsPlus [.pfw, .wtCache, .spn, .spnChanged, .repl, .ports, .fabIn] errParts, regsPlus [.SPN_STREAM_STATE,
    .SPN_STREAM_ASSIGNED, .JRN_APPEND_PTR, .JRN_STREAM_STATUS, .JRN_REPL_STATE] errRegs)
  | .prochotN _ => (partsPlus [.prochotLow, .pGoal, .pStop] raiseParts, regsPlus [.RCP_PSTATE, .RCP_THERMAL] raiseRegs)
  | .throttleEntry _ _ => (partsPlus [.pGoal, .pStop] raiseParts, regsPlus [.RCP_PSTATE, .RCP_THERMAL] raiseRegs)
  | .throttleExit _ _ => (partsPlus [.pGoal, .pStop] raiseParts, regsPlus [.RCP_PSTATE, .RCP_THERMAL] raiseRegs)
  | .target _ _ _ => (partsPlus [.mesh, .txns, .limits, .pGoal, .pStop] (partsPlus errParts answerParts), regsPlus [.RCP_PSTATE] errRegs)
  | .pstateChangeDone _ => (partsPlus [.pGoal, .pStop, .mac] errParts, allRegs)
  | .pwrOn _ _ _ => (partsPlus [.mesh, .txns, .lidHeld, .limits] (partsPlus errParts answerParts), regsPlus [.LID_SECTION, .RCP_BLOCK_CTL] errRegs)
  | .powerGateDone _ => (partsPlus [.lidHeld, .ports, .fabIn, .fabRem, .cphKeys] errParts, regsPlus [.LID_SECTION, .FAB_PORT_STATUS,
    .PCIE_PORT_STATUS, .CPH_STATUS, .RCP_BLOCK_CTL] errRegs)
  | .corePowerGate _ => ([.cores, .mesh], [.LID_SECTION])
  | .packageIdleEntry => ([.chans, .pkgIdle, .cnt], [.MCT_CH_STATUS])
  | .packageIdleExit => ([.pkgIdle], [.MCT_CH_STATUS])
  | .kick _ _ _ => (partsPlus [.mesh, .txns, .limits, .wdogNs] (partsPlus errParts answerParts), regsPlus [.TMR_WDOG] errRegs)
  | .watchdogHalf _ => (partsPlus [.wdogNs] raiseParts, regsPlus [.TMR_WDOG] raiseRegs)
  | .watchdogExpiry _ => (partsBut [.pending, .dtime, .rsp, .pfw, .railOut, .pwrgood, .resetInLow, .prochotLow, .thermtrip, .unlocked, .regFailed,
    .rtcAcc, .fuses, .flash, .ksCopy, .spd], allRegs)
  | .clearCauses _ _ => (partsPlus [.mesh, .txns, .limits] (partsPlus errParts answerParts), regsPlus [.RCP_RESET_CAUSE, .RCP_CAUSE_COUNT] errRegs)
  | .rtcWrite _ _ => (partsPlus [.mesh, .txns, .limits, .rtcAcc] (partsPlus errParts answerParts), regsPlus [.RCP_RTC] errRegs)
  | .ring _ _ _ => (partsPlus [.mesh, .txns, .limits, .pages] (partsPlus errParts answerParts), regsPlus [.MBX_DOORBELL, .MBX_STATUS] errRegs)
  | .mbxAck _ _ _ => (partsPlus [.mesh, .txns, .limits, .pages] (partsPlus errParts answerParts), regsPlus [.MBX_DOORBELL, .MBX_STATUS] errRegs)
  | .commandFinished _ => (partsPlus [.pages] raiseParts, regsPlus [.MBX_STATUS] raiseRegs)
  | .operationFinished _ _ => (partsPlus [.wtCache, .ioTlb, .evidence, .mac, .pages] raiseParts, regsPlus [.WPC_SYNC, .MBX_STATUS] raiseRegs)
  | .featuresGet _ => ([.pages], [])
  | .featuresSet _ => ([.pages], [])
  | .opStatus _ => ([.pages], [.MBX_STATUS])
  | .version _ => ([.pages], [])
  | .pstateSet _ => ([.pGoal, .pStop, .pages], [.RCP_PSTATE])
  | .pstateGet _ => ([.pages], [])
  | .blockPower _ => ([.lidHeld, .mac, .pages], [.LID_SECTION, .RCP_BLOCK_CTL, .MBX_STATUS])
  | .idlePolicy _ => ([.mac, .pages], [])
  | .powerRead _ _ => ([.pages], [])
  | .errlogRead _ => ([.pages], [])
  | .sparesGet _ => ([.pages], [])
  | .ageingGet _ => ([.pages], [])
  | .coreSwap _ => ([.mac, .pages], [.MBX_STATUS])
  | .partReset _ => (partsBut [.pending, .dtime, .rsp, .pfw, .railOut, .pwrgood, .resetInLow, .prochotLow, .thermtrip, .unlocked, .regFailed,
    .rtcAcc, .fuses, .flash, .ksCopy, .spd], allRegs)
  | .hartRelease _ => (partsPlus [.lidHeld, .hartPart, .pages, .traceBuf, .dbg] raiseParts, regsPlus [.LID_SECTION, .MCT_CH_STATUS, .DBG_TRACE_PTR,
    .DBG_CORE_STATUS] raiseRegs)
  | .partStatus _ => ([.pages], [])
  | .wtAssign _ => (partsPlus [.wtCache, .ioTlb, .mac, .pages] cacheParts, regsPlus [.WPC_SYNC, .MBX_STATUS] cacheRegs)
  | .ownerSet _ => ([.cores, .wtCache, .ioTlb, .mac, .pages], [.WPC_SYNC, .WPC_OWNER, .MBX_STATUS])
  | .routeSet _ => (partsPlus [.mesh, .txns, .limits, .pages] (partsPlus errParts answerParts), regsPlus [.FAB_ROUTE] errRegs)
  | .portSet _ => (partsPlus [.mesh, .txns, .ports, .fabIn, .fabRem, .limits, .pages] (partsPlus errParts answerParts), regsPlus [.FAB_PORT_CTL,
    .FAB_PORT_STATUS] errRegs)
  | .portGet _ => ([.pages], [])
  | .nodeSet _ => (partsPlus [.mesh, .txns, .ports, .limits, .pages] (partsPlus errParts answerParts), regsPlus [.FAB_NODE, .FAB_PORT_STATUS] errRegs)
  | .replCfg _ => (partsPlus [.mesh, .txns, .spn, .repl, .limits, .pages] (partsPlus errParts answerParts), regsPlus [.JRN_REPL_CFG,
    .JRN_REPL_MEMBERS, .JRN_REPL_STATE, .JRN_REPL_DEGRADED, .JRN_REPL_HELD] errRegs)
  | .promote _ => (partsPlus [.mesh, .txns, .spn, .repl, .ports, .fabIn, .limits, .mac, .pages] (partsPlus errParts answerParts),
    regsPlus [.SPN_STREAM_NEXT, .JRN_REGION, .JRN_APPEND_PTR, .JRN_DRAIN_PTR, .JRN_REPL_STATE, .JRN_REPL_DEGRADED, .JRN_REPL_HELD, .JRN_RSLOT_CFG,
    .JRN_RSLOT_TERM, .MBX_STATUS] errRegs)
  | .mbxStepDown _ => (partsPlus [.mesh, .txns, .spn, .spnChanged, .limits, .pages] (partsPlus errParts answerParts), regsPlus [.SPN_STREAM_STATE,
    .SPN_STREAM_ASSIGNED, .JRN_STREAM_STATUS, .JRN_REPL_STATE] errRegs)
  | .slotArm _ => (partsPlus [.mesh, .txns, .ports, .fabIn, .limits, .pages] (partsPlus errParts answerParts), allRegs)
  | .slotDisarm _ => (partsPlus [.mesh, .txns, .ports, .fabIn, .limits, .pages] (partsPlus errParts answerParts), regsPlus [.JRN_RSLOT_CFG,
    .JRN_RSLOT_GASP] errRegs)
  | .replGet _ => ([.pages], [])
  | .ladleSet _ => (partsPlus [.mesh, .txns, .limits, .pages, .ldl] (partsPlus errParts answerParts), regsPlus [.LDL_PART_CFG, .LDL_PART_MASK,
    .LDL_PART_STATUS] errRegs)
  | .imageWrite _ => ([.flash, .mac, .pages], [.MBX_STATUS])
  | .mbxImageArm _ _ => (partsPlus [.flash, .mac, .pages] errParts, regsPlus [.MBX_STATUS] errRegs)
  | .mbxTrialConfirm _ _ _ => (partsPlus [.fuses, .flash, .boot, .pages] errParts, regsPlus [.SP_BOOT_STATUS, .SP_TRIAL] errRegs)
  | .mbxRevokeImageKey _ _ => (partsPlus [.fuses, .pages] errParts, regsPlus [.SP_BOOT_STATUS] errRegs)
  | .mbxAttest _ => ([.mac, .pages], [.MBX_STATUS])
  | .timeGet _ => ([.pages], [])
  | .rtcSet _ => ([.rtcAcc, .pages], [.RCP_RTC])
  | .errorRecord _ _ _ _ _ _ => (partsPlus [.mac] errParts, errRegs)
  | .macenRestart _ => (partsBut [.pending, .dtime, .pfw, .railOut, .pwrgood, .resetInLow, .prochotLow, .thermtrip, .unlocked, .regFailed, .rtcAcc,
    .fuses, .ksCopy, .spd], allRegs)
  | .writeWord _ _ => (partsPlus [.limits, .pages] errParts, errRegs)
  | .blockWrite _ _ => (partsPlus [.limits, .pages] errParts, errRegs)
  | .blockRead _ => (partsPlus [.limits, .mac, .pages] errParts, errRegs)
  | .writeByte _ _ => (partsPlus [.limits, .pages] errParts, regsPlus [.MBX_STATUS] errRegs)
  | .smbusTimeout => ([.mac, .pages], [])
  | .ageingSample _ => (partsPlus [.mac] errParts, allRegs)
  | .liveCoreSwap _ => (partsPlus [.mesh, .mac] errParts, allRegs)
  | .swapSparePowered _ => ([.cores, .mac], [])
  | .swapInReset _ => (partsPlus [.mac] errParts, regsPlus [.TILE_CORE_MAP] errRegs)
  | .oldSlotGated _ => (partsPlus [.mesh, .mac] errParts, allRegs)
  | .repairLogAppend _ => (partsPlus [.fuses, .mac] errParts, errRegs)
  | .sramRowSpare _ _ _ => (partsPlus [.mac] errParts, errRegs)
  | .coreArrayRowSpare _ _ _ => (partsPlus [.mac] errParts, allRegs)
  | .spdLogWrite _ _ _ _ _ _ _ => (partsPlus [.spd] errParts, errRegs)
  | .idcode => ([.dbg], [])
  | .samplePreload _ _ => ([.dbg], [])
  | .extest => ([.dbg], [])
  | .dbgacc _ _ _ => (partsBut [.pending, .dtime, .pfw, .railOut, .pwrgood, .resetInLow, .prochotLow, .thermtrip, .unlocked, .regFailed, .rtcAcc,
    .fuses, .flash, .ksCopy, .spd], allRegs)
  | .lcCmd _ _ => (partsPlus [.fuses, .dbg] errParts, errRegs)
  | .bypass => ([.dbg], [])
  | .tapReset => ([.dbg], [])
  | .verify _ _ => (partsBut [.pending, .dtime, .pfw, .railOut, .pwrgood, .resetInLow, .prochotLow, .thermtrip, .unlocked, .regFailed, .rtcAcc,
    .fuses, .flash, .ksCopy, .spd], allRegs)
  | .verifyComplete _ => (partsPlus [.dbg] errParts, regsPlus [.DBG_AUTH, .DBG_AUTH_NONCE] errRegs)
  | .dbgEnd _ _ => (partsBut [.pending, .dtime, .pfw, .railOut, .pwrgood, .resetInLow, .prochotLow, .thermtrip, .unlocked, .regFailed, .rtcAcc,
    .fuses, .flash, .ksCopy, .spd], allRegs)
  | .debugSystemReset _ _ => (partsBut [.pending, .dtime, .pfw, .railOut, .pwrgood, .resetInLow, .prochotLow, .thermtrip, .unlocked, .regFailed,
    .rtcAcc, .fuses, .flash, .ksCopy, .spd], allRegs)
  | .haltHart _ _ _ => (partsPlus [.agentReqs, .ghosts, .mesh, .txns, .lidHeld, .spn, .spnChanged, .repl, .ports, .fabIn, .fabRem, .pcieTags,
    .limits, .mac, .traceBuf] (partsPlus errParts answerParts), allRegs)
  | .haltTaken _ => (partsPlus [.traceBuf, .dbg] raiseParts, regsPlus [.DBG_TRACE_PTR, .DBG_CORE_STATUS] raiseRegs)
  | .debugResume _ _ _ => (partsPlus [.agentReqs, .ghosts, .mesh, .txns, .lidHeld, .spn, .spnChanged, .repl, .ports, .fabIn, .fabRem, .pcieTags,
    .limits, .mac, .traceBuf] (partsPlus errParts answerParts), allRegs)
  | .stepHart _ _ _ => (partsPlus [.agentReqs, .ghosts, .mesh, .txns, .lidHeld, .spn, .spnChanged, .repl, .ports, .fabIn, .fabRem, .pcieTags,
    .limits, .mac, .traceBuf] (partsPlus errParts answerParts), allRegs)
  | .debugCoreReset _ _ _ => (partsPlus [.agentReqs, .ghosts, .mesh, .txns, .lidHeld, .hartPart, .spn, .spnChanged, .repl, .ports, .fabIn, .fabRem,
    .pcieTags, .limits, .mac, .traceBuf] (partsPlus errParts answerParts), allRegs)
  | .regdataAccess _ _ _ => (partsPlus [.mesh, .txns, .limits] (partsPlus errParts answerParts), allRegs)
  | .goCmd _ _ => (partsPlus [.mesh, .txns, .wtCache, .limits] (partsPlus errParts answerParts), regsPlus [.DBG_MEM_CTL] errRegs)
  | .debugAccessComplete => (partsBut [.pending, .dtime, .pfw, .railOut, .pwrgood, .resetInLow, .prochotLow, .thermtrip, .unlocked, .regFailed,
    .fuses, .flash, .ksCopy, .spd], allRegs)
  | .freezeRelease _ => ([.dbg, .wdogNs], [.TMR_WDOG])
  | .vtTx _ _ _ _ => (partsPlus [.mesh, .txns, .limits, .snaps] (partsPlus errParts answerParts), allRegs)
  | .vtRx _ _ _ _ => (partsPlus [.mesh, .txns, .limits, .snaps] (partsPlus errParts answerParts), allRegs)
  | .traceSync => (partsPlus [.traceBuf, .dbg] cacheParts, regsPlus [.DBG_TRACE_PTR] cacheRegs)
  | .ladleTick => ([.ldl], [])
  | .ladleRecord => (partsPlus [.ldl] errParts, regsPlus [.LDL_PART_CFG, .LDL_PART_STATUS] errRegs)
  | .uartTransmit _ _ _ => (partsPlus [.mesh, .txns, .srcHigh, .limits, .lsio] (partsPlus errParts answerParts), regsPlus [.UART_DATA,
    .UART_STATUS] errRegs)
  | .uartReceiveRead _ _ => (partsPlus [.mesh, .txns, .srcHigh, .limits, .snaps, .lsio] (partsPlus errParts answerParts), errRegs)
  | .uartCharacter _ _ _ => (partsPlus [.srcHigh, .lsio] raiseParts, regsPlus [.UART_STATUS] raiseRegs)
  | .pllRelock _ => (partsPlus [.chans, .agentReqs, .ghosts, .txns, .lidHeld, .spn, .spnChanged, .pubs, .pubFlits, .repl, .ports, .fabIn, .fabRem,
    .sqNext, .sqDone, .pcieTags, .pcieOut, .pcieCpl, .ctxCache, .ioTlb, .jobs, .cphKeys, .inServ, .nmiTaken, .limits, .unlocked, .traceBuf,
    .dbg] errParts, allRegs)
  | .pfwNRelease => (partsPlus [.pfw, .mac] errParts, allRegs)
  | .secondaryBusResetEnd _ _ => ([.portReset], [])
  | .powerUpDone _ => ([.txns, .lidHeld, .jobs], [.LID_SECTION, .CPH_STATUS, .RCP_BLOCK_CTL])
  | .uartCharacterSent _ => (partsPlus [.srcHigh, .lsio] raiseParts, raiseRegs)
  | .dimmTemperature _ _ _ => ([.chans], [])

end Sys2Proof.Machine
end

