-- ==== Sys2Proof/Safety.lean ====
section
/-! DEFINITION. What a sound state of the block is: its memory is in canonical form. -/

namespace Sys2Proof.Machine

open Sys2Proof

/-- DRAM is held in its one canonical form: addresses strictly rising, no byte listed that an unlisted one reads as. -/
def State.memOk (s : State) : Prop := Memory.wf s.mem = true

end Sys2Proof.Machine
end

