-- ==== Sys2Proof/Certificates/Slice0/Obligations.lean ====
section
/-! DEFINITION. The statements for the provers. Those named Complete say, for each command of a family, when it has its own effect and what
that effect leaves; `CommandFrame` says for every command what it leaves unchanged. -/

open Sys2Proof Sys2Proof.Machine

/-- A step takes the command at the front of the queue and is that command's effect on the state with the queue's rest. -/
def Obligations.StepRunsFront : Prop :=
  ∀ (s : State) (i : Instr) (rest : List Instr), s.pending = i :: rest → step s = exec i { s with pending := rest }

/-- With no command waiting, a step is one nanosecond (the model's choice, log entry 1): DTIME counts it while no offset is being slewed in
(R36, R250), never goes back, and the queue stays empty. -/
def Obligations.IdleStepIsOneNanosecond : Prop :=
  ∀ (s : State), s.pending = [] →
    ∃ t, step s = .next t ∧ t.pending = [] ∧ s.dtime ≤ t.dtime ∧ t.dtime ≤ s.dtime + 2 ∧ (s.slew = 0 → t.dtime = s.dtime + 1)

/-- Every command has an effect in every state: no command and no idle step ends in a fault or a refusal, and a step takes one command off the
queue and leaves the others in their order (the block's form, log entry 1). -/
def Obligations.EveryStepAnswersNext : Prop :=
  (∀ (i : Instr) (s : State), ∃ t, exec i s = .next t ∧ t.pending = s.pending) ∧
  (∀ (s : State), ∃ t, step s = .next t ∧ t.pending = s.pending.tail)

/-- What a command leaves as it was: whatever state and operands, every part of the state outside the command's list in `frame`, and every
unit of every register outside it, is unchanged; memory and every other part not listed with it. The lists name what the command's own effect
writes and what the events in its course write (R157, R371, R469). -/
def Obligations.CommandFrame : Prop :=
  ∀ (i : Instr) (s t : State), exec i s = .next t → Only (frame i).1 (frame i).2 s t

/-- Memory keeps its one canonical form through every step: addresses strictly rising, and no byte listed that an unlisted one reads as
(R285: DRAM is zeroed). -/
def Obligations.MemoryStaysCanonical : Prop :=
  ∀ (s t : State), s.memOk → step s = .next t → t.memOk

/-- Right after reset memory is in its canonical form with nothing listed, no command waits, every register reads its reset value, no core
runs, nothing pends, and no fuse is blown (R9, R285; where the spec gives no value, the log's entries). -/
def Obligations.ResetState : Prop :=
  State.reset.memOk ∧ State.reset.mem = [] ∧ State.reset.pending = [] ∧ (∀ r i, State.reset.rd r i = r.resetVal i) ∧
  (∀ c, (State.reset.core c).run = .held) ∧ State.reset.pend = [] ∧ (∀ n, State.reset.fuse n = false)

/-- A blown fuse reads 1 for ever: no step of any kind takes a fuse back, so no life-cycle state, rollback counter or repair entry that fuses
hold can fall (R390, R393, R394). -/
def Obligations.FusesStayBlown : Prop :=
  ∀ (s t : State), step s = .next t → (∀ n, s.fuse n = true → t.fuse n = true) ∧ s.lc ≤ t.lc

/-- misa (R31): its value in every state and on every core, and that a write changes nothing. -/
def Obligations.MisaIsReadOnly : Prop :=
  ∀ (s : State) (c : Nat) (v : W), s.csrRead c 0x301 = 0x80000000003411AF ∧ s.csrPut c 0x301 v = s

/-- The MODE values that satp, vsatp and hgatp accept (R56): 0, 8, 9 and 10, which MODE then reads; a write of any other leaves the whole
register as it was. -/
def Obligations.TranslationModes : Prop :=
  ∀ (s : State) (c a : Nat) (v : W), a = 0x180 ∨ a = 0x280 ∨ a = 0x680 →
    (field v 63 60 ∈ [0, 8, 9, 10] → field (((s.csrPut c a v).core c).getCsr a) 63 60 = field v 63 60) ∧
    (field v 63 60 ∉ [0, 8, 9, 10] → ((s.csrPut c a v).core c).getCsr a = (s.core c).getCsr a)

/-- REMOTE_RESET with TOTAL at 0xFFFF_FFFF (R428): no payload is obeyed, and the command that arrives is rejected and none is newly accepted. -/
def Obligations.RemoteResetStopsAtTheLastCount : Prop :=
  ∀ (s : State), s.fld RCP_RESET_CAUSE.TOTAL 0 = 0xFFFFFFFF →
    (∀ d, s.remoteOk d = false) ∧
    (∀ t, exec .remoteReset s = .next t → t.remote.accepted = true → s.remote.accepted = true)

/-- A partition reset and the buckets (R306): on every channel the partition's bucket is at its burst, every other partition's is as it was, and
the requests queued at every channel stay queued, each with its class. -/
def Obligations.BucketsAtPartitionReset : Prop :=
  ∀ (s : State) (part ch : Nat), tget 0 s.partStep part = 3 → (∀ c ∈ s.partCores part, (s.core c).flushed = true) → ch < 16 →
    ∃ t, exec (.partitionFlushDone part) s = .next t ∧
      ((tget {} (t.chan ch).buckets part).bytes = none) ∧
      (∀ p, p ≠ part → tget {} (t.chan ch).buckets p = tget {} (s.chan ch).buckets p) ∧
      (t.chan ch).reads = (s.chan ch).reads ∧ (t.chan ch).writes = (s.chan ch).writes

/-- A partition reset and the fabric send queue (R248): queue q's HEAD is its TAIL, no descriptor of it is to be sent or to complete, and no
request of its messages waits for a response. -/
def Obligations.SendQueueAtPartitionReset : Prop :=
  ∀ (s : State) (q : Nat), tget 0 s.partStep q = 3 → (∀ c ∈ s.partCores q, (s.core c).flushed = true) →
    ∃ t, exec (.partitionFlushDone q) s = .next t ∧ t.fld FAB_SQ_PTR.HEAD q = t.fld FAB_SQ_PTR.TAIL q ∧
      t.fld FAB_SQ_PTR.TAIL q = s.fld FAB_SQ_PTR.TAIL q ∧ tget 0 t.sqNext q = t.fld FAB_SQ_PTR.TAIL q ∧ tget [] t.sqDone q = [] ∧
      ∀ e ∈ t.fabRem, ∀ o, e.2 = some o → ∀ q' ix, o.use = .msg q' ix → q' ≠ q

/-- The loss of the backup domain (R429): RCP_RESET_CAUSE and both words of RCP_CAUSE_COUNT read 0 but for VBAK_LOST, which reads 1, the RTC
restarts at 0, and once step 5 of a release has released the event router, source 1615 (RAS source 15) pends. -/
def Obligations.BackupDomainLost : Prop :=
  (∀ (s : State), ∃ t, exec .vbakLost s = .next t ∧ t.fld RCP_RESET_CAUSE.VBAK_LOST 0 = 1 ∧
    t.rd .RCP_RESET_CAUSE 0 = BitVec.ofNat 64 (2 ^ RCP_RESET_CAUSE.VBAK_LOST.lo) ∧ t.rd .RCP_CAUSE_COUNT 0 = 0 ∧ t.rd .RCP_CAUSE_COUNT 1 = 0 ∧
    t.rd .RCP_RTC 0 = 0) ∧
  (∀ (s : State) (cal : List Reading), s.fld RCP_RESET_CAUSE.VBAK_LOST 0 = 1 → s.rstLevel = 0 → s.relStep = 4 → s.stepReady 5 = true →
    s.canPend 1615 → ∃ t, exec (.domainRelease 5 cal) s = .next t ∧ t.relStep = 5 ∧ ∃ e ∈ t.pend, e.ident = 1615)

/-- CG.END of a group with an empty write set (R165): CG_LASTSEQ and rd read 0, the group is closed with no number asked for, no record written
and nothing reserved in staging (said of a core that leads no pair, with tracing off: a trace packet's ring has events of its own); with EARLY
it retires at once, without it only when no dependency entry is undurable, and until then it changes nothing. -/
def Obligations.EmptyGroupCommit : Prop :=
  ∀ (s : State) (c rd rs1 len : Nat) (insn : W) (g : Group), s.runs c → custom0Bad insn true true = false →
    (s.core c).cgWait = none → (s.core c).cgMode = true → field ((s.core c).getX rs1) 63 1 = 0 → (s.core c).group = some g → g.writes = [] →
    (s.core c).anyLost = false → (s.core c).sb.any (·.grp) = false → s.allCompared c = true →
    (bit ((s.core c).getX rs1) 0 = true ∨ s.undurable c = [] →
      ∃ t, exec (.cgEnd c rd rs1 len insn) s = .next t ∧ s.advanced t c len ∧ t.rd .CG_LASTSEQ c = 0 ∧ (t.core c).getX rd = 0 ∧
        (t.core c).group = none ∧ (t.core c).cgReq = (s.core c).cgReq ∧ t.spn = s.spn ∧
        (s.ledPair c = none → s.fld DBG_TRACE_CFG.EN 0 = 0 → t.jrnRes = s.jrnRes ∧ t.jrnRecs = s.jrnRecs)) ∧
    (bit ((s.core c).getX rs1) 0 = false → s.undurable c ≠ [] → exec (.cgEnd c rd rs1 len insn) s = .next s)

/-- A write of a register, field by field (R6, R7): a RW field takes its bits of the value unless they are a reserved encoding of it, when it
keeps its own; a 1 written to a W1C field clears a bit and to a W1S field sets one; a field that the register's section locks, and a field
software may not write, stays; and so does every bit outside the fields, every other unit and every other register. The value is judged after
the rules across fields of its section (`fixup`). -/
def Obligations.RegisterWriteRules : Prop :=
  ∀ (s : State) (r : RegId) (i : Nat) (w : W),
    (∀ F ∈ r.flds, (s.regWrite r i w).fld F i =
      if s.locked F i (s.fixup r i w) then s.fld F i
      else match F.acc with
        | .rw => if F.allows (field (s.fixup r i w) F.hi F.lo) then field (s.fixup r i w) F.hi F.lo else s.fld F i
        | .w1c => s.fld F i &&& ((2 ^ (F.hi + 1 - F.lo) - 1) ^^^ field (s.fixup r i w) F.hi F.lo)
        | .w1s => s.fld F i ||| field (s.fixup r i w) F.hi F.lo
        | _ => s.fld F i) ∧
    (∀ b, (∀ F ∈ r.flds, b < F.lo ∨ F.hi < b) → bit ((s.regWrite r i w).rd r i) b = bit (s.rd r i) b) ∧
    (∀ q j, q ≠ r ∨ j ≠ i → (s.regWrite r i w).rd q j = s.rd q j)

/-- The system instructions of a core complete (R35, R36, R40, R55): WFI retires and waits unless something wakes it, and its wait ends when
something does, from clock gating and from power gating, which opens the core's section; PAUSE stops dispatch and ends; the time CSR reads DTIME;
a CSR instruction gives the old value and writes the new one, and one on CG_STATUS, CG_DEPSEQ or a PAIR_CTL command is that command's row; a
mispredicted branch goes where it resolves, and links where it is a jump (said of a core whose trace packet finds room, R512). Register 0 reads 0
whatever is written. -/
def Obligations.SystemInstructionsComplete : Prop :=
  (∀ (s : State) (c len : Nat) (insn : W), s.runs c → (s.core c).group = none → (s.core c).wfiRefusal = 0 → s.allCompared c = true →
    ∃ t, exec (.wfi c len insn) s = .next t ∧ (t.core c).run = (if s.wakes c then .running else .wfi) ∧ s.advanced t c len) ∧
  (∀ (s : State) (c : Nat), s.wakes c = true →
    ((s.core c).run = .wfi → ∃ t, exec (.wfiWake c) s = .next t ∧ (t.core c).run = .running) ∧
    ((s.core c).run = .gated → (s.core c).idle = .wfi → ∃ t, exec (.wfiWake c) s = .next t ∧ (t.core c).run = .running)) ∧
  (∀ (s : State) (c len : Nat), s.runs c → ∃ t, exec (.pause c len) s = .next t ∧ (t.core c).run = .pause ∧ s.advanced t c len) ∧
  (∀ (s : State) (c : Nat), (s.core c).run = .pause → tget false s.pStop (s.core c).part = false →
    ∃ t, exec (.pauseEnd c) s = .next t ∧ (t.core c).run = .running) ∧
  (∀ (s : State) (c rd len : Nat) (insn : W), s.runs c → s.csrRefusal c 0xC01 false = 0 →
    ∃ t, exec (.timeRead c rd len insn) s = .next t ∧ (t.core c).getX rd = (if rd = 0 then 0 else s.timeVal c) ∧ s.advanced t c len) ∧
  (∀ (s : State) (c csr op rd rs1 : Nat) (imm : Bool) (len : Nat) (insn : W), s.runs c →
    s.csrRefusal c csr (csrWrites op rs1) = 0 → csr ≠ 0x800 → csr ≠ 0x804 → csr ≠ 0x7D0 →
    ((s.core c).group = none ∧ s.allCompared c = true ∨ (csrWrites op rs1 && csrSerial ((s.core c).csrAddr csr)) = false) →
    ∃ t, exec (.csrWrite c csr op rd rs1 imm len insn) s = .next t ∧
      (t.core c).getX rd = (if rd = 0 then 0 else s.csrRead c ((s.core c).csrAddr csr)) ∧ s.advanced t c len ∧
      (csrWrites op rs1 = true → csr ∈ [0x340, 0x343, 0x642, 0x643] →
        (t.core c).getCsr csr = csrNew op (s.csrRead c csr) ((s.core c).csrSrc rs1 imm)) ∧
      (t.core c).csr = (if csrWrites op rs1 then ((s.csrPut c ((s.core c).csrAddr csr)
        (csrNew op (s.csrRead c ((s.core c).csrAddr csr)) ((s.core c).csrSrc rs1 imm))).core c).csr else (s.core c).csr)) ∧
  (∀ (s : State) (c op rd rs1 : Nat) (imm : Bool) (len : Nat) (insn : W), 
    (s.csrRefusal c 0x800 (csrWrites op rs1) = 0 →
      exec (.csrWrite c 0x800 op rd rs1 imm len insn) s = exec (.lostClear c op rd rs1 imm len) s) ∧
    (s.csrRefusal c 0x804 (csrWrites op rs1) = 0 →
      exec (.csrWrite c 0x804 op rd rs1 imm len insn) s = exec (.cgDepseqWrite c op rd rs1 imm len) s) ∧
    ((s.core c).mode = .m → (s.core c).group = none →
      let cmd := field (csrNew op (s.regRead .PAIR_CTL c none) ((s.core c).csrSrc rs1 imm)) 1 0
      (cmd = 1 → exec (.csrWrite c 0x7D0 op rd rs1 imm len insn) s = exec (.bind c op rd rs1 imm len insn) s) ∧
      (cmd = 2 → exec (.csrWrite c 0x7D0 op rd rs1 imm len insn) s = exec (.unbind c op rd rs1 imm len insn) s) ∧
      (cmd = 3 → exec (.csrWrite c 0x7D0 op rd rs1 imm len insn) s = exec (.park c op rd rs1 imm len insn) s) ∧
      (cmd = 0 → s.runs c → s.allCompared c = true →
        ∃ t, exec (.csrWrite c 0x7D0 op rd rs1 imm len insn) s = .next t ∧
          (t.core c).getX rd = (if rd = 0 then 0 else s.regRead .PAIR_CTL c none) ∧ s.advanced t c len))) ∧
  (∀ (s : State) (c rd : Nat) (taken jump call ret : Bool) (target : W) (len : Nat), s.runs c → s.traceCalm c →
    ∃ t, exec (.branchMispredict c rd taken jump call ret target len) s = .next t ∧
      (t.core c).pc = (if taken then target &&& ~~~(1 : W) else (s.core c).pc + BitVec.ofNat 64 len) ∧
      (t.core c).getX rd = (if jump = true ∧ rd ≠ 0 then (s.core c).pc + BitVec.ofNat 64 len else (s.core c).getX rd) ∧
      (t.core c).ras = rasNext (s.core c).ras call ret ((s.core c).pc + BitVec.ofNat 64 len))

/-- Calls, breakpoints, traps and returns complete (R33, R53, R157, R349): ECALL and EBREAK outside a group trap with their causes, EBREAK halts
where a session asks for it, an interrupt that is due and an instruction's exception are taken, and MRET and SRET go back to the saved pc and
mode with the status the architecture restores, MRET into the normal world where WCTL.NS asks for it. -/
def Obligations.TrapsAndReturns : Prop :=
  (∀ (s : State) (c : Nat), s.runs c → (s.core c).group = none → s.allCompared c = true →
    ∃ t, exec (.ecall c) s = .next t ∧ s.trapped t c false (s.core c).ecallCause 0 0) ∧
  (∀ (s : State) (c : Nat), s.runs c → (s.core c).group = none → s.allCompared c = true → s.ebreakHalts c = false →
    ∃ t, exec (.ebreak c) s = .next t ∧ s.trapped t c false 3 (s.core c).pc 0) ∧
  (∀ (s : State) (c : Nat), s.runs c → (s.core c).group = none → s.allCompared c = true → s.ebreakHalts c = true →
    ∃ t, exec (.ebreak c) s = .next t ∧ (t.core c).run = .halted ∧ (t.core c).pc = (s.core c).pc ∧
      t.fld DBG_CORE_STATUS.STATE (s.coreHart c) = 2 ∧ t.fld DBG_CORE_STATUS.CAUSE (s.coreHart c) = 4) ∧
  (∀ (s : State) (c code : Nat) (tval gpa : W), s.intr c = some code → s.intrReady c code = true →
    ∃ t, exec (.trap c true code tval gpa) s = .next t ∧ s.trapped t c true code 0 0) ∧
  (∀ (s : State) (c code : Nat) (tval gpa : W), s.runs c → (s.core c).group = none → s.allCompared c = true →
    ∃ t, exec (.trap c false code tval gpa) s = .next t ∧ s.trapped t c false (code % 64) tval gpa) ∧
  (∀ (s : State) (c : Nat) (insn : W), s.runs c → (s.core c).group = none → s.allCompared c = true → (s.core c).mode = .m →
    ∃ t, exec (.mret c insn) s = .next t ∧ (t.core c).pc = (s.core c).getCsr 0x341 ∧
      (t.core c).mode = (match field ((s.core c).getCsr 0x300) 12 11 with | 3 => .m | 1 => .s | _ => .u) ∧
      (t.core c).virt = (bit ((s.core c).getCsr 0x300) 39 && (t.core c).mode != .m) ∧ (t.core c).csr = (s.core c).mret.csr ∧
      (t.core c).secure = ((s.core c).secure && !((t.core c).mode != .m && s.fld WCTL.NS c == 1))) ∧
  (∀ (s : State) (c : Nat) (insn : W), s.runs c → (s.core c).group = none → s.allCompared c = true → (s.core c).sretRefusal = 0 →
    ∃ t, exec (.sret c insn) s = .next t ∧
      (t.core c).pc = (if (s.core c).virt then (s.core c).getCsr 0x241 else (s.core c).getCsr 0x141) ∧
      (t.core c).mode = (if field ((s.core c).getCsr (if (s.core c).virt then 0x200 else 0x300)) 8 8 = 1 then .s else .u) ∧
      (t.core c).virt = ((s.core c).virt || bit ((s.core c).getCsr 0x600) 7) ∧ (t.core c).csr = (s.core c).sret.csr)

/-- The memory instructions of a core complete (R37, R70, R76, R78, R79, R81, R83, R84, R85, R89, R92), on a pair too. A load outside a group gives
the bytes of the line its L2 holds, those of the one older store that covers them, or a device's answer, and one performed early leaves its bytes
in the load queue; a store enters the store buffer, of a device region too, and leaves it into an owned line, inside a group into the write set,
or as a device write; a device store's answer frees its tag index; an atomic performs on an owned line, or takes the answer of its aperture or
home; LR reserves the line; SC stores and clears the reservation, or answers 1 without one; a hold window ends; CBO.ZERO enters the buffer. -/
def Obligations.MemoryInstructionsComplete : Prop :=
  (∀ (s : State) (c rs1 size len acc pa : Nat) (dst : Dst) (imm insn : W) (d : LineData),
    let va := ((s.core c).getX rs1 + imm).toNat
    s.runsMem c va size true false → (s.core c).group = none → acc ∈ [0, 4, 6] → sizeOk (dstV dst) size = true →
    s.memIllegal c acc (dstF dst) (dstV dst) insn = none →
    va % 4096 + size ≤ 4096 → s.toDram c va size acc pa → pa % 64 + size ≤ 64 → (s.core c).fresh →
    (s.core c).sbOverlap pa size = [] → s.holds c (pa / 64) d →
    ∃ t, exec (.load c dst rs1 imm size len acc 0 0 0 insn) s = .next t ∧ (t.core c).loaded dst size (lineGet d.data (pa % 64) size) ∧
      s.advanced t c len) ∧
  (∀ (s : State) (c rs1 size len acc pa : Nat) (dst : Dst) (imm insn : W) (e : SbEnt),
    let va := ((s.core c).getX rs1 + imm).toNat
    s.runsMem c va size true false → (s.core c).group = none → acc ∈ [0, 4, 6] → sizeOk (dstV dst) size = true →
    s.memIllegal c acc (dstF dst) (dstV dst) insn = none →
    va % 4096 + size ≤ 4096 → s.toDram c va size acc pa → pa % 64 + size ≤ 64 → (s.core c).fresh →
    (s.core c).sbOverlap pa size = [e] → e.kind = .normal → e.pa ≤ pa → pa + size ≤ e.pa + e.size →
    ∃ t, exec (.load c dst rs1 imm size len acc 0 0 0 insn) s = .next t ∧
      (t.core c).loaded dst size (e.data.toNat / 2 ^ (8 * (pa - e.pa)) % 2 ^ (8 * size)) ∧ s.advanced t c len) ∧
  (∀ (s : State) (c rs1 size len acc pa v : Nat) (dst : Dst) (imm insn : W) (ewa : Bool),
    let va := ((s.core c).getX rs1 + imm).toNat
    s.runsMem c va size true false → (s.core c).group = none → acc ∈ [0, 4, 6] → sizeOk (dstV dst) size = true →
    s.memIllegal c acc (dstF dst) (dstV dst) insn = none →
    va % 4096 + size ≤ 4096 → s.toDevice c va size acc pa ewa → va % size = 0 → s.widthOk pa size = true → s.allCompared c = true →
    (s.core c).sb.any (·.kind == .device) = false → (s.core c).devAns = some (v, 0) →
    ∃ t, exec (.load c dst rs1 imm size len acc 0 0 0 insn) s = .next t ∧ (t.core c).loaded dst size (v % 2 ^ (8 * size)) ∧
      (t.core c).devAns = none ∧ s.advanced t c len) ∧
  (∀ (s : State) (c rs1 size len acc ahead pa : Nat) (dst : Dst) (imm insn : W) (d : LineData),
    let va := ((s.core c).getX rs1 + imm).toNat
    (s.core c).run = .running → s.isTrailer c = false → 0 < ahead → acc ∈ [0, 4, 6] → sizeOk (dstV dst) size = true →
    va % 4096 + size ≤ 4096 → s.toDram c va size acc pa → pa % 64 + size ≤ 64 → (s.core c).loadq = [] →
    (s.core c).sbOverlap pa size = [] → (s.core c).lineView (pa / 64) = some d → d.poison = false →
    ∃ t e, exec (.load c dst rs1 imm size len acc ahead 0 0 insn) s = .next t ∧ (t.core c).loadq = [e] ∧ e.at_ = (s.core c).icount + ahead ∧
      e.bs = leBytes size (lineGet d.data (pa % 64) size) ∧ (t.core c).pc = (s.core c).pc ∧ (t.core c).x = (s.core c).x) ∧
  (∀ (s : State) (c rs1 size len acc pa : Nat) (src : Src) (imm insn : W),
    let va := ((s.core c).getX rs1 + imm).toNat
    s.runsMem c va size false true → acc = 1 ∨ acc = 5 → sizeOk (srcV src) size = true →
    s.memIllegal c acc (srcF src) (srcV src) insn = none →
    va % 4096 + size ≤ 4096 → s.toDram c va size acc pa → pa % 64 + size ≤ 64 → (s.core c).sb.length < 96 →
    (s.core c).writesFull (pa / 64) = false →
    ∃ t, exec (.store c src rs1 imm size len acc insn) s = .next t ∧ s.advanced t c len ∧
      ∃ e : SbEnt, (t.core c).sb = (s.core c).sb ++ [e] ∧ e.pa = pa ∧ e.size = size ∧ e.kind = .normal ∧
        e.grp = (s.core c).group.isSome ∧ e.data = BitVec.ofNat 256 ((s.core c).srcVal src % 2 ^ (8 * size))) ∧
  (∀ (s : State) (c rs1 size len acc pa : Nat) (src : Src) (imm insn : W) (ewa : Bool),
    let va := ((s.core c).getX rs1 + imm).toNat
    s.runsMem c va size false true → acc = 1 ∨ acc = 5 → sizeOk (srcV src) size = true →
    s.memIllegal c acc (srcF src) (srcV src) insn = none →
    va % 4096 + size ≤ 4096 → s.toDevice c va size acc pa ewa → pa % 64 + size ≤ 64 → va % size = 0 → s.widthOk pa size = true →
    s.devHold c = 0 → s.allCompared c = true → (s.core c).group = none → (s.core c).sb.length < 96 →
    ∃ t, exec (.store c src rs1 imm size len acc insn) s = .next t ∧ s.advanced t c len ∧
      ∃ e : SbEnt, (t.core c).sb = (s.core c).sb ++ [e] ∧ e.pa = pa ∧ e.size = size ∧ e.kind = .device ∧ e.ewa = ewa ∧
        e.data = BitVec.ofNat 256 ((s.core c).srcVal src % 2 ^ (8 * size))) ∧
  (∀ (s : State) (c n : Nat) (e : SbEnt), (s.core c).sb[n]? = some e → (s.core c).sbMayLeave n e = true →
    (∀ l, e.kind = .normal → tget none (s.core c).l2 (e.pa / 64) = some l → l.st = .m ∨ l.st = .e → e.grp = false →
      ∃ t, exec (.storeBufferWrite c n) s = .next t ∧ (t.core c).sb = (s.core c).sb.eraseIdx n ∧
        ∃ l', tget none (t.core c).l2 (e.pa / 64) = some l' ∧ l'.st = .m ∧
          l'.d.data = lineSet l.d.data (e.pa % 64) e.size e.data.toNat ∧ l'.d.tag = l.d.tag) ∧
    (∀ l, e.kind = .cboZero → tget none (s.core c).l2 (e.pa / 64) = some l → l.st = .m ∨ l.st = .e → e.grp = false →
      ∃ t, exec (.storeBufferWrite c n) s = .next t ∧ (t.core c).sb = (s.core c).sb.eraseIdx n ∧
        ∃ l', tget none (t.core c).l2 (e.pa / 64) = some l' ∧ l'.st = .m ∧ l'.d.data = lineSet l.d.data 0 64 0 ∧ l'.d.poison = false) ∧
    (∀ l g, e.kind = .normal → tget none (s.core c).l2 (e.pa / 64) = some l → l.st = .m ∨ l.st = .e → e.grp = true →
      (s.core c).group = some g → l.d.tag = none →
      ∃ t g' w, exec (.storeBufferWrite c n) s = .next t ∧ (t.core c).sb = (s.core c).sb.eraseIdx n ∧ (t.core c).group = some g' ∧
        tget none g'.writes (e.pa / 64) = some w ∧
        w.1 = lineSet (match tget none g.writes (e.pa / 64) with | some o => o.1 | none => l.d.data) (e.pa % 64) e.size e.data.toNat) ∧
    (∀ ix s0, e.kind = .device → s.region e.pa ≠ .dram → (s.core c).reqs.length + s.devOut c < 64 →
      s.takeTxn (tileNode (coreTile c)) (.devStore c e.ewa) e.pa true = some (ix, s0) →
      ∃ t, exec (.storeBufferWrite c n) s = .next t ∧ (t.core c).sb = (s.core c).sb.set n { e with sent := true, txn := ix } ∧
        (tget {} t.txns (tileNode (coreTile c) * 1024 + ix)).use = some (.devStore c e.ewa))) ∧
  (∀ (s : State) (c tag status : Nat),
    (∀ e rest, (s.core c).sb = e :: rest → e.kind = .device → e.sent = true → e.ewa = true →
      ∃ t, exec (.deviceStoreAck c false tag status) s = .next t ∧ (t.core c).sb = rest) ∧
    (∀ early d, let ix := tileNode (coreTile c) * 1024 + tag
      (tget {} s.txns ix).use = some (.devStore c early) → (tget {} s.txns ix).io.ans = some (d, status) →
      ∃ t, exec (.deviceStoreAck c true tag status) s = .next t ∧ (tget {} t.txns ix).use = none ∧
        (status = 0 → (t.core c).sb = (s.core c).sb.filter fun e => !(e.sent && e.txn == tag)))) ∧
  (∀ (s : State) (c rd rs1 rs2 size len pa : Nat) (op : AmoOp) (aq rl : Bool) (d : LineData),
    let va := ((s.core c).getX rs1).toNat
    s.runsMem c va size true true → (s.core c).group = none → s.allCompared c = true → size = 4 ∨ size = 8 → va % size = 0 →
    s.toDram c va size 1 pa → (s.core c).sbOverlap pa size = [] → (s.core c).atomicWaits rl = false → s.ownsLine c (pa / 64) d →
    ∃ t, exec (.amo c op rd rs1 rs2 size aq rl len) s = .next t ∧ s.advanced t c len ∧
      (t.core c).getX rd = (if rd = 0 then 0 else extend true size (lineGet d.data (pa % 64) size)) ∧
      ∃ l', tget none (t.core c).l2 (pa / 64) = some l' ∧ l'.st = .m ∧ l'.d.data = lineSet d.data (pa % 64) size
        (amoResult op size (lineGet d.data (pa % 64) size) ((s.core c).getX rs2).toNat)) ∧
  (∀ (s : State) (c rd rs1 rs2 size len pa old : Nat) (op : AmoOp) (aq rl ewa : Bool),
    let va := ((s.core c).getX rs1).toNat
    s.runsMem c va size true true → (s.core c).group = none → s.allCompared c = true → size = 4 ∨ size = 8 → va % size = 0 →
    s.toDevice c va size 1 pa ewa → s.region pa = .aperture → s.devHold c = 0 → (s.core c).atomicWaits rl = false →
    (s.core c).devAns = some (old, 0) →
    ∃ t, exec (.amo c op rd rs1 rs2 size aq rl len) s = .next t ∧ s.advanced t c len ∧ (t.core c).devAns = none ∧
      (t.core c).getX rd = (if rd = 0 then 0 else extend true size (old % 2 ^ (8 * size)))) ∧
  (∀ (s : State) (c rd rs1 size len pa : Nat) (aq rl : Bool) (d : LineData),
    let va := ((s.core c).getX rs1).toNat
    s.runsMem c va size true false → (s.core c).group = none → s.allCompared c = true → size = 4 ∨ size = 8 → va % size = 0 →
    s.toDram c va size 0 pa → (s.core c).sbOverlap pa size = [] → (rl = true → (s.core c).sb = []) → s.ownsLine c (pa / 64) d →
    ∃ t, exec (.lr c rd rs1 size aq rl len) s = .next t ∧ s.advanced t c len ∧
      (t.core c).getX rd = (if rd = 0 then 0 else extend true size (lineGet d.data (pa % 64) size)) ∧
      ∃ hold, (t.core c).resv = some { line := pa / 64, width := size, hold := hold, grp := false }) ∧
  (∀ (s : State) (c rd rs1 rs2 size len pa : Nat) (aq rl : Bool) (d : LineData) (r : Resv),
    let va := ((s.core c).getX rs1).toNat
    s.runsMem c va size false true → (s.core c).group = none → s.allCompared c = true → size = 4 ∨ size = 8 → va % size = 0 →
    s.toDram c va size 1 pa → (s.core c).sbOverlap pa size = [] → (s.core c).atomicWaits rl = false → s.ownsLine c (pa / 64) d →
    (s.core c).resv = some r → r.line = pa / 64 → r.width = size →
    ∃ t, exec (.sc c rd rs1 rs2 size aq rl len) s = .next t ∧ s.advanced t c len ∧ (t.core c).getX rd = 0 ∧ (t.core c).resv = none ∧
      ∃ l', tget none (t.core c).l2 (pa / 64) = some l' ∧ l'.st = .m ∧
        l'.d.data = lineSet d.data (pa % 64) size (((s.core c).getX rs2).toNat % 2 ^ (8 * size))) ∧
  (∀ (s : State) (c rd rs1 rs2 size len pa : Nat) (aq rl : Bool),
    let va := ((s.core c).getX rs1).toNat
    s.runsMem c va size false true → s.allCompared c = true → size = 4 ∨ size = 8 → va % size = 0 →
    s.toDram c va size 1 pa → (rl = true → (s.core c).sb = []) →
    (∀ r, (s.core c).resv = some r → r.line ≠ pa / 64 ∨ r.width ≠ size) →
    ∃ t, exec (.sc c rd rs1 rs2 size aq rl len) s = .next t ∧ s.advanced t c len ∧
      (t.core c).getX rd = (if rd = 0 then 0 else 1) ∧ (t.core c).resv = none) ∧
  (∀ (s : State) (c : Nat) (r : Resv), (s.core c).resv = some r →
    ∃ t, exec (.holdWindowEnd c) s = .next t ∧ (t.core c).resv = some { r with hold := false }) ∧
  (∀ (s : State) (c rs1 len pa : Nat) (insn : W), s.runsMem c (((s.core c).getX rs1).toNat / 64 * 64) 64 false true →
    ((s.core c).envOk fun e => bit e 7).1 = true → s.toDram c (((s.core c).getX rs1).toNat / 64 * 64) 64 1 pa → (s.core c).sb.length < 96 →
    (s.core c).writesFull (pa / 64) = false →
    ∃ t, exec (.cboZero c rs1 len insn) s = .next t ∧ s.advanced t c len ∧
      ∃ e : SbEnt, (t.core c).sb = (s.core c).sb ++ [e] ∧ e.pa = pa ∧ e.kind = .cboZero ∧ e.grp = (s.core c).group.isSome)

/-- The fences and invalidations of a core complete (R66, R67, R82), on a pair once every interval has been compared: a memory fence that need
not wait for older stores, or whose older stores have drained, retires and is an ordering point of the store buffer where it names w; FENCE.I
empties the instruction cache of the core's world and partition, and the address-translation fences drop the translations they name. -/
def Obligations.FencesComplete : Prop :=
  (∀ (s : State) (c pred succ len : Nat), s.runs c →
    let p := (s.core c).fenceSet pred
    let q := (s.core c).fenceSet succ
    (((p.testBit 0 || p.testBit 2) && (q.testBit 1 || q.testBit 3)) = true → s.allCompared c = true ∧ (s.core c).sb = []) →
    ∃ t, exec (.fence c pred succ len) s = .next t ∧ s.advanced t c len ∧
      (t.core c).seg = (s.core c).seg + (if p.testBit 0 then 1 else 0)) ∧
  (∀ (s : State) (c len : Nat), s.runs c →
    ∃ t, exec (.fenceTso c len) s = .next t ∧ s.advanced t c len ∧ (t.core c).seg = (s.core c).seg + 1) ∧
  (∀ (s : State) (c len : Nat), s.runs c → (s.core c).group = none → s.allCompared c = true → (s.core c).sb = [] →
    ∃ t, exec (.fenceI c len) s = .next t ∧ s.advanced t c len ∧
      (t.core c).l1i = (s.core c).l1i.filter fun e => !(e.2.1 == (s.core c).secure && e.2.2 == (s.core c).part)) ∧
  (∀ (s : State) (c rs1 rs2 len : Nat) (insn : W), s.runs c → (s.core c).group = none → s.allCompared c = true → (s.core c).sb = [] →
    (s.core c).sfenceOk.1 = true →
    ∃ t, exec (.sfenceVma c rs1 rs2 len insn) s = .next t ∧ s.advanced t c len ∧
      (t.core c).sameTlbs ((s.core c).invalidate ((s.core c).mode == .m) (s.core c).virt
        (if (s.core c).virt then some (field ((s.core c).getCsr 0x680) 57 44) else none) ((s.core c).selVal rs2 16) ((s.core c).selVal rs1 64) none)) ∧
  (∀ (s : State) (c rs1 rs2 len : Nat) (insn : W), s.runs c → (s.core c).group = none → s.allCompared c = true → (s.core c).sb = [] →
    (s.core c).hfenceOk.1 = true →
    ∃ t, exec (.hfenceVvma c rs1 rs2 len insn) s = .next t ∧ s.advanced t c len ∧
      (t.core c).sameTlbs ((s.core c).invalidate false true (some (field ((s.core c).getCsr 0x680) 57 44)) ((s.core c).selVal rs2 16)
        ((s.core c).selVal rs1 64) none)) ∧
  (∀ (s : State) (c rs1 rs2 len : Nat) (insn : W), s.runs c → (s.core c).group = none → s.allCompared c = true → (s.core c).sb = [] →
    (s.core c).hfenceOk.1 = true → ¬((s.core c).mode = .s ∧ bit ((s.core c).getCsr 0x300) 20) →
    ∃ t, exec (.hfenceGvma c rs1 rs2 len insn) s = .next t ∧ s.advanced t c len ∧
      (t.core c).sameTlbs ((s.core c).invalidate false true ((s.core c).selVal rs2 14) none none (((s.core c).selVal rs1 64).map (· * 4)))) ∧
  (∀ (s : State) (c rs1 rs2 len : Nat) (insn : W), s.runs c → (s.core c).group = none → s.allCompared c = true →
    ((s.core c).sfenceOk.1 = true →
      ∃ t, exec (.sinvalVma c 0 rs1 rs2 len insn) s = .next t ∧ s.advanced t c len ∧
        (t.core c).sameTlbs ((s.core c).invalidate false (s.core c).virt
          (if (s.core c).virt then some (field ((s.core c).getCsr 0x680) 57 44) else none) ((s.core c).selVal rs2 16) ((s.core c).selVal rs1 64) none)) ∧
    ((s.core c).hfenceOk.1 = true →
      ∃ t, exec (.sinvalVma c 1 rs1 rs2 len insn) s = .next t ∧ s.advanced t c len ∧
        (t.core c).sameTlbs ((s.core c).invalidate false true (some (field ((s.core c).getCsr 0x680) 57 44)) ((s.core c).selVal rs2 16)
          ((s.core c).selVal rs1 64) none)) ∧
    ((s.core c).hfenceOk.1 = true → ¬((s.core c).mode = .s ∧ bit ((s.core c).getCsr 0x300) 20) →
      ∃ t, exec (.sinvalVma c 2 rs1 rs2 len insn) s = .next t ∧ s.advanced t c len ∧
        (t.core c).sameTlbs ((s.core c).invalidate false true ((s.core c).selVal rs2 14) none none (((s.core c).selVal rs1 64).map (· * 4))))) ∧
  (∀ (s : State) (c len : Nat) (insn : W), s.runs c → (s.core c).group = none → s.allCompared c = true → (s.core c).sb = [] →
    (s.core c).mode ≠ .u → ∃ t, exec (.sfenceWInval c len insn) s = .next t ∧ s.advanced t c len) ∧
  (∀ (s : State) (c len : Nat) (insn : W), s.runs c → (s.core c).group = none → s.allCompared c = true → (s.core c).mode ≠ .u →
    ∃ t, exec (.sfenceInvalIr c len insn) s = .next t ∧ s.advanced t c len)

/-- The cache-block instructions and page-table walks complete (R37, R48, R60, R61, R63): a CBO whose home has answered leaves the line in S
or drops the core's copies; a prefetch always retires, and one whose line the L2 holds fills the L1D or the L1I; and a walk that finds its leaf,
with no PTE to update or all of them in lines that the core owns, installs it in the TLBs (a trailer's stands where its leader does). -/
def Obligations.CacheBlocksAndWalksComplete : Prop :=
  (∀ (s : State) (c rs1 len pa : Nat) (insn : W), s.runs c → (s.core c).group = none → s.allCompared c = true →
    s.toDram c (((s.core c).getX rs1).toNat / 64 * 64) 64 0 pa → (s.core c).sbOverlap (pa / 64 * 64) 64 = [] → (s.core c).cboDone = some (pa / 64) →
    (((s.core c).envOk fun e => bit e 6).1 = true → ∀ l, tget none (s.core c).l2 (pa / 64) = some l →
      ∃ t, exec (.cboClean c rs1 len insn) s = .next t ∧ s.advanced t c len ∧ tget none (t.core c).l2 (pa / 64) = some { l with st := .s }) ∧
    (((s.core c).envOk fun e => bit e 6).1 = true →
      ∃ t, exec (.cboFlush c rs1 len insn) s = .next t ∧ s.advanced t c len ∧ tget none (t.core c).l2 (pa / 64) = none ∧ pa / 64 ∉ (t.core c).l1d) ∧
    (((s.core c).envOk fun e => field e 5 4 != 0).1 = true →
      ∃ t, exec (.cboInval c rs1 len insn) s = .next t ∧ s.advanced t c len ∧ tget none (t.core c).l2 (pa / 64) = none ∧ pa / 64 ∉ (t.core c).l1d)) ∧
  (∀ (s : State) (c kind rs1 len : Nat) (imm : W), s.runs c → (s.core c).group = none →
    ∃ t, exec (.prefetch c kind rs1 imm len) s = .next t ∧ s.advanced t c len ∧
      (∀ pa, s.toDram c (((s.core c).getX rs1 + imm).toNat / 64 * 64) 64 (if kind = 1 then 1 else if kind = 2 then 2 else 0) pa →
        (tget none (s.core c).l2 (pa / 64)).isSome = true →
        (kind = 0 → pa / 64 ∈ (t.core c).l1d) ∧ (kind = 2 → ∃ e ∈ (t.core c).l1i, e.1 = pa / 64))) ∧
  (∀ (s : State) (c va acc : Nat) (spec : Bool) (l : Leaf) (f : Found) (w : Wk),
    let s' := s.mirror c
    let s0 := if (s'.core c).walks.contains (va / 4096, acc) then s'
      else (s'.onCore c fun k => { k with walks := k.walks ++ [(va / 4096, acc)] }).coreCount c 0x08
    (s'.core c).run = .running → acc < 7 → acc ≠ 3 → (s'.core c).walks.length < 4 →
    (s'.core c).translated ((s'.core c).accMode acc).1 ((s'.core c).accMode acc).2 = true →
    ({ s := s0 } : Wk).walk c va acc = (.ok l, f, w) →
    (w.upd = [] ∨ spec = false ∧ s'.isTrailer c = false ∧ w.s.updReady c w.upd = true) →
    ∃ t e, exec (.pageTableWalk c va acc spec) s = .next t ∧
      (if acc = 2 then (t.core c).itlb else (t.core c).dtlb).head? = some e ∧
      (if f.l.size ≤ 21 then (t.core c).tlb else (t.core c).tlbBig).head? = some e ∧
      e.size = f.l.size ∧ e.vbase = va / 2 ^ f.l.size * 2 ^ f.l.size ∧ e.pbase = (f.l.pa + va % 2 ^ f.l.size) / 2 ^ f.l.size * 2 ^ f.l.size ∧
      e.r = f.l.r ∧ e.w = f.l.w ∧ e.x = f.l.x ∧ e.u = f.l.u)

/-- The commit instructions and dependency registers complete (R151 to R153, R157, R163, R166 to R168, R173, R175), on a pair once every interval
has been compared: CG.BEGIN opens a group with its checkpoint; CG.END takes a group to its staging reservation and, waiting for durability,
retires with its number once that is published, at once with EARLY, or with all ones where durability can no longer come, and with no group open
gives CG_LASTSEQ; CG.ABORT ends a group at its fallback and is a no-op outside one; CG.TEST tells whether one is open; FENCE.D retires once
nothing is undurable; and the dependency CSRs take their writes. -/
def Obligations.CommitInstructionsComplete : Prop :=
  (∀ (s : State) (c rd rs1 len n : Nat) (insn : W), s.runs c → (s.core c).group = none → s.allCompared c = true → s.traceRoom c →
    custom0Bad insn true true = false → (s.core c).cgMode = true →
    s.fld CG_CFG.EN c = 1 → field ((s.core c).getX rs1) 32 3 = 0 → s.fld CG_BIND.VALID (c * 8 + field ((s.core c).getX rs1) 2 0) = 1 →
    ((s.core c).mode = .u → s.fld CG_BIND.UEN (c * 8 + field ((s.core c).getX rs1) 2 0) = 1) →
    s.fld CG_BIND.STREAM (c * 8 + field ((s.core c).getX rs1) 2 0) = n → s.owner (ixStream n) = some (s.core c).part → (s.core c).sb = [] →
    (s.core c).anyLost = false → (s.pub (coreTile c) n).fenced = false → ¬(s.hartOf c < 96 ∧ s.signalled (s.hartOf c) 16 = true) →
    ∃ t, exec (.cgBegin c rd rs1 len insn) s = .next t ∧ s.advanced t c len ∧ t.fld CG_STATUS.ACTIVE c = 1 ∧ (t.core c).getX rd = 0 ∧
      ∃ g : Group, (t.core c).group = some g ∧ g.stream = n ∧ g.phase = .opened ∧ g.beginPc = (s.core c).pc ∧ g.ck = (s.core c).checkpoint ∧
        g.fallback = (s.core c).pc + 4 + (sext 31 (field ((s.core c).getX rs1) 63 33) <<< 1)) ∧
  (∀ (s : State) (c rd rs1 len : Nat) (insn : W) (g : Group), s.runs c → s.allCompared c = true → custom0Bad insn true true = false →
    (s.core c).cgMode = true → field ((s.core c).getX rs1) 63 1 = 0 → (s.core c).group = some g → (s.core c).anyLost = false →
    (s.core c).sb.any (·.grp) = false → ((s.undurable c).filter fun d => d.1 ≠ g.stream).length ≤ 4 → g.writes ≠ [] →
    ∃ t, exec (.cgEnd c rd rs1 len insn) s = .next t ∧ (t.core c).group =
      some { g with phase := .staging, early := bit ((s.core c).getX rs1) 0, endRd := rd, endLen := len }) ∧
  (∀ (s : State) (c rd rs1 len : Nat) (insn : W), s.runs c → s.allCompared c = true → custom0Bad insn true true = false →
    (s.core c).cgMode = true → field ((s.core c).getX rs1) 63 1 = 0 → (s.core c).group = none →
    (bit ((s.core c).getX rs1) 0 = true ∨ s.undurable c = []) →
    ∃ t, exec (.cgEnd c rd rs1 len insn) s = .next t ∧ s.advanced t c len ∧
      (t.core c).getX rd = (if rd = 0 then 0 else s.rd .CG_LASTSEQ c) ∧ (t.core c).resv = none) ∧
  (∀ (s : State) (c rd rs1 len : Nat) (insn : W) (w : CgWait), (s.core c).cgWait = some w → s.untriggered c none → (s.core c).run = .running →
    (w.early = true ∨ w.deps.any (fun d => (s.pub (coreTile c) d.1).fenced && decide ((s.pub (coreTile c) d.1).w < d.2)) = false ∧ w.lost = false ∧
      w.g ≤ (s.pub (coreTile c) w.stream).w →
      ∃ t, exec (.cgEnd c rd rs1 len insn) s = .next t ∧ s.advanced t c w.len ∧
        (t.core c).getX w.rd = (if w.rd = 0 then 0 else BitVec.ofNat 64 w.g) ∧ (t.core c).cgWait = none) ∧
    (w.early = false → w.lost = true ∨ ((s.pub (coreTile c) w.stream).fenced = true ∧ (s.pub (coreTile c) w.stream).w < w.g) →
      ∃ t, exec (.cgEnd c rd rs1 len insn) s = .next t ∧ s.advanced t c w.len ∧ (t.core c).getX w.rd = (if w.rd = 0 then 0 else cgLost) ∧
        (t.core c).cgWait = none ∧ t.fld CG_STATUS.LOST c = 1)) ∧
  (∀ (s : State) (c rs1 len : Nat) (insn : W), s.runs c → custom0Bad insn false true = false → (s.core c).cgMode = true →
    (∀ g, (s.core c).group = some g → g.abortable = true →
      ∃ t, exec (.cgAbort c rs1 len insn) s = .next t ∧ (t.core c).group = none ∧ (t.core c).pc = g.fallback ∧ (t.core c).resv = none ∧
        t.fld CG_STATUS.ABORT_CODE c = 9 ∧ t.fld CG_STATUS.ACTIVE c = 0 ∧ t.rd .CG_ABORT_PC c = (s.core c).pc ∧
        (∀ r, r ≠ g.beginRd → (t.core c).getX r = if r = 0 then 0 else tget 0 g.ck.x r)) ∧
    ((s.core c).group = none → ∃ t, exec (.cgAbort c rs1 len insn) s = .next t ∧ s.advanced t c len ∧ (t.core c).x = (s.core c).x)) ∧
  (∀ (s : State) (c rd len : Nat) (insn : W), s.runs c → custom0Bad insn true false = false → (s.core c).mode ≠ .m →
    ∃ t, exec (.cgTest c rd len insn) s = .next t ∧ s.advanced t c len ∧
      (t.core c).getX rd = if rd = 0 then 0 else if (s.core c).group.isSome then 1 else 0) ∧
  (∀ (s : State) (c len : Nat) (insn : W), s.runs c → s.allCompared c = true → custom0Bad insn false false = false → (s.core c).cgMode = true →
    s.undurable c = [] →
    ∃ t, exec (.fenceD c len insn) s = .next t ∧ s.advanced t c len ∧ ((s.core c).anyLost = true → t.fld CG_STATUS.LOST c = 1)) ∧
  (∀ (s : State) (c op rd rs1 len : Nat) (imm : Bool), s.runs c →
    ∃ t, exec (.lostClear c op rd rs1 imm len) s = .next t ∧ s.advanced t c len ∧
      (t.core c).getX rd = (if rd = 0 then 0 else s.regRead .CG_STATUS c none) ∧
      (csrWrites op rs1 = true → bit (csrNew op (s.regRead .CG_STATUS c none) ((s.core c).csrSrc rs1 imm)) 61 = true →
        t.fld CG_STATUS.LOST c = 0 ∧ (t.core c).anyLost = false)) ∧
  (∀ (s : State) (c op rd rs1 len n v : Nat) (imm : Bool), s.runs c → s.fld CG_DEPSEL.STREAM c = n →
    (csrNew op (s.regRead .CG_DEPSEQ c none) ((s.core c).csrSrc rs1 imm)).toNat = v →
    (csrWrites op rs1 = true ∧ v ≠ 0 ∧ (s.core c).mode ≠ .u ∧ s.streamMine c n = true ∧ (tget {} (s.core c).deps n).lost = false →
      ∃ t, exec (.cgDepseqWrite c op rd rs1 imm len) s = .next t ∧ (t.core c).depseqReq = some (n, v, rd, len)) ∧
    (csrWrites op rs1 = false ∨ v = 0 ∨ (s.core c).mode = .u ∨ s.streamMine c n = false ∨ (tget {} (s.core c).deps n).lost = true →
      ∃ t, exec (.cgDepseqWrite c op rd rs1 imm len) s = .next t ∧ s.advanced t c len ∧ (t.core c).deps = (s.core c).deps ∧
        (t.core c).getX rd = (if rd = 0 then 0 else s.regRead .CG_DEPSEQ c none))) ∧
  (∀ (s : State) (c n v rd len : Nat), (s.core c).depseqReq = some (n, v, rd, len) → s.untriggered c none →
    let d := tget {} (s.core c).deps n
    let q := Nat.max d.seq (Nat.min v (s.fld SPN_STREAM_ASSIGNED.A n))
    ∃ t, exec (.cgDepseqAnswer c) s = .next t ∧ s.advanced t c len ∧ (t.core c).depseqReq = none ∧
      (t.core c).getX rd = (if rd = 0 then 0 else BitVec.ofNat 64 d.seq) ∧
      tget {} (t.core c).deps n = (if d.lost = true then d else if q ≤ (s.pub (coreTile c) n).w then {} else { d with seq := q }))

/-- The events of a commit group complete (R123, R158, R161 to R163, R166, R185): a deferred interrupt and a full journal end a group with their
codes, a granted reservation sends the commit request with the undurable streams, the reply opens the visibility window and raises the tile's
copy of A, the end of the window puts every written line into the L2 with its tag while CG_LASTSEQ holds the number, and a destination takes a
published watermark. -/
def Obligations.CommitEventsComplete : Prop :=
  (∀ (s : State) (c : Nat) (g : Group), (s.core c).group = some g → g.abortable = true →
    g.requestSent = false → ((s.intr c).isSome = true ∨ (s.core c).swapReq = true) →
    ∃ t, exec (.cgInterruptDeferral c) s = .next t ∧ (t.core c).group = none ∧ (t.core c).pc = g.fallback ∧ t.fld CG_STATUS.ABORT_CODE c = 5) ∧
  (∀ (s : State) (c : Nat) (g : Group), (s.core c).group = some g → g.phase = .staging →
    ((tget [] s.jrnRes g.stream).any fun r => r.core == c && r.granted && !r.used) = true → (s.core c).cgReq = none →
    (s.core c).cgReply = none → (s.core c).voidOut = false →
    ∃ t, exec (.stagingGrant c) s = .next t ∧ (∃ g', (t.core c).group = some g' ∧ g'.phase = .requested) ∧
      ∃ q, (t.core c).cgReq = some q ∧ q.core = c ∧ q.stream = g.stream ∧ q.len = 64 + 72 * g.writes.length ∧
        q.deps = ((s.undurable c).filter fun d => d.1 ≠ g.stream).take 4) ∧
  (∀ (s : State) (c : Nat) (g : Group), (s.core c).group = some g → g.phase = .staging →
    ∃ t, exec (.journalFull c) s = .next t ∧ (t.core c).group = none ∧ (t.core c).pc = g.fallback ∧ (t.core c).cancel = some g.stream ∧
      t.fld CG_STATUS.ABORT_CODE c = 0x0A) ∧
  (∀ (s : State) (c n g : Nat) (lost : Bool) (gr : Group), (s.core c).cgReply = some (n, g, lost) → (s.core c).voidOut = false →
    s.traceRoom c → (s.core c).group = some gr → gr.phase = .requested →
    ∃ t, exec (.commitReply c) s = .next t ∧ (t.core c).cgReply = none ∧ (t.core c).group = some { gr with phase := .flipping g lost } ∧
      (t.pub (coreTile c) n).a = Nat.max (s.pub (coreTile c) n).a g) ∧
  (∀ (s : State) (c g : Nat) (gr : Group), (s.core c).group = some gr → gr.phase = .flipping g false →
    ((s.pub (coreTile c) gr.stream).fenced && decide ((s.pub (coreTile c) gr.stream).w < g)) = false →
    gr.deps.any (fun d => (s.pub (coreTile c) d.1).fenced && decide ((s.pub (coreTile c) d.1).w < d.2)) = false →
    (gr.early = false ∧ (s.pub (coreTile c) gr.stream).w < g →
      ∃ t, exec (.flipWindowEnd c) s = .next t ∧ (t.core c).group = none ∧ t.rd .CG_LASTSEQ c = BitVec.ofNat 64 g ∧
        t.fld CG_STATUS.ACTIVE c = 0 ∧ (∃ w, (t.core c).cgWait = some w ∧ w.g = g ∧ w.stream = gr.stream) ∧
        ((gr.writes.map (·.1)).Nodup → ∀ line d m, (line, some (d, m)) ∈ gr.writes →
          ∃ l', tget none (t.core c).l2 line = some l' ∧ l'.st = .m ∧ l'.d.tag = some { stream := gr.stream, seq := g } ∧
            l'.d.data = (match tget none (s.core c).l2 line with | some l => lineMerge l.d.data d m | none => d))) ∧
    (gr.early = true ∨ g ≤ (s.pub (coreTile c) gr.stream).w → s.untriggered c none → (s.core c).run = .running →
      ∃ t, exec (.flipWindowEnd c) s = .next t ∧ (t.core c).group = none ∧ (t.core c).cgWait = none ∧ s.advanced t c gr.endLen ∧
        (t.core c).getX gr.endRd = (if gr.endRd = 0 then 0 else BitVec.ofNat 64 g))) ∧
  (∀ (s : State) (dest : Nat) (e : PubEnt) (rest : List (List PubEnt)), tget [] s.pubFlits dest = [e] :: rest →
    ∃ t, exec (.watermarkPublication dest) s = .next t ∧ tget [] t.pubFlits dest = rest ∧
      t.pub dest e.stream = (if e.opened = true then { w := e.w, a := e.a, fenced := e.fenced }
        else { w := Nat.max (s.pub dest e.stream).w e.w, a := Nat.max (s.pub dest e.stream).a e.a, fenced := e.fenced }))

/-- The commands of checked pairs complete (R199 to R201, R205, R206, R208 to R215): PARK waits in PAIRWAIT, BIND ties two cores
and copies the leader's state or gives its error, UNBIND releases the trailer at its PAIR_RESUME, PAIR.SYNC retires once everything is compared,
an interval ends, and is compared: its stores are released, or the pair runs again from its checkpoint; and a vote begins, ends with each
outcome, or stops the pair at its limit. A core that is UNBOUND leads no pair; the outcomes are said of a device with no open group. -/
def Obligations.PairsComplete : Prop :=
  (∀ (s : State) (c op rd rs1 len : Nat) (imm : Bool) (insn w : W), s.runs c → s.ledPair c = none → (s.core c).mode = .m →
    csrWrites op rs1 = true → csrNew op (s.regRead .PAIR_CTL c none) ((s.core c).csrSrc rs1 imm) = w → field w 1 0 = 3 →
    s.fld PAIR_STATUS.STATE c = 0 → (s.regWrite .PAIR_CTL c w).fld PAIR_CTL.ROLE c = 2 → (s.regWrite .PAIR_CTL c w).fld PAIR_CTL.PARTNER c ≤ 4 →
    ∃ t, exec (.park c op rd rs1 imm len insn) s = .next t ∧ s.advanced t c len ∧ (t.core c).run = .pairWait ∧ t.fld PAIR_STATUS.STATE c = 1) ∧
  (∀ (s : State) (c op rd rs1 len p : Nat) (imm : Bool) (insn w : W), s.runs c → s.ledPair c = none → (s.core c).mode = .m →
    csrWrites op rs1 = true → csrNew op (s.regRead .PAIR_CTL c none) ((s.core c).csrSrc rs1 imm) = w → field w 1 0 = 1 →
    s.fld PAIR_STATUS.STATE c = 0 → (s.regWrite .PAIR_CTL c w).fld PAIR_CTL.ROLE c = 1 → (s.regWrite .PAIR_CTL c w).fld PAIR_CTL.PARTNER c = p →
    p ≠ coreSlot c → p < 5 → s.slotState (coreTile c * 5 + p) = 0 → s.fld PAIR_STATUS.STATE (coreTile c * 5 + p) = 1 →
    (s.core (coreTile c * 5 + p)).part = (s.core c).part →
    ¬((s.pair (2 * coreTile c)).bound = true ∧ (s.pair (2 * coreTile c + 1)).bound = true) →
    let i := if (s.pair (2 * coreTile c)).bound then 2 * coreTile c + 1 else 2 * coreTile c
    ∃ t, exec (.bind c op rd rs1 imm len insn) s = .next t ∧ s.advanced t c len ∧ (t.pair i).bound = true ∧
      (t.pair i).leader = coreSlot c ∧ (t.pair i).trailer = p ∧ t.fld PAIR_STATUS.STATE c = 2 ∧
      (t.core (coreTile c * 5 + p)).pc = (t.core c).pc ∧ (t.core (coreTile c * 5 + p)).x = (t.core c).x ∧
      (t.core (coreTile c * 5 + p)).tlb = []) ∧
  (∀ (s : State) (c op rd rs1 len i : Nat) (imm : Bool) (insn w : W), s.runs c → s.ledPair c = some i → s.allCompared c = true →
    (s.core c).mode = .m → csrWrites op rs1 = true → csrNew op (s.regRead .PAIR_CTL c none) ((s.core c).csrSrc rs1 imm) = w →
    field w 1 0 = 2 → s.fld PAIR_STATUS.STATE c = 2 →
    ∃ t, exec (.unbind c op rd rs1 imm len insn) s = .next t ∧ (t.pair i).bound = false ∧ t.fld PAIR_STATUS.STATE (s.trailerOf i) = 0 ∧
      (t.core (s.trailerOf i)).pc = s.rd .PAIR_RESUME (s.trailerOf i) &&& ~~~(3 : W) ∧ (t.core (s.trailerOf i)).mode = .m ∧
      (t.core (s.trailerOf i)).run = .running) ∧
  (∀ (s : State) (c len : Nat) (insn : W), s.runs c → custom0Bad insn false false = false → s.allCompared c = true →
    ∃ t, exec (.pairSync c len insn) s = .next t ∧ s.advanced t c len) ∧
  (∀ (s : State) (i : Nat), (s.pair i).bound = true → (s.pair i).vote = none → (s.pair i).voteWaits = false → (s.pair i).awaiting.length ≤ 2 →
    ((s.pair i).cur.count ≠ 0 ∨ (s.pair i).cur.stores ≠ []) →
    ∃ t, exec (.intervalEnd i) s = .next t ∧ (t.pair i).awaiting = (s.pair i).awaiting ++ [(s.pair i).cur] ∧
      (t.pair i).cur.id = (s.pair i).cur.id + 1 ∧ (t.pair i).cur.count = 0 ∧ (t.pair i).cur.startPc = (s.core (s.leaderOf i)).pc) ∧
  (∀ (s : State) (i : Nat) (iv : Ival) (rest : List Ival), (s.pair i).bound = true → (s.pair i).vote = none → (s.pair i).race = false →
    (s.pair i).awaiting = iv :: rest →
    ∃ t, exec (.intervalComparison i iv.sig iv.stores false) s = .next t ∧ (t.pair i).awaiting = rest.filter (fun v => v.id ≠ iv.id) ∧
      (t.core (s.leaderOf i)).sb = (s.core (s.leaderOf i)).sb.map (fun e => if e.ival = some iv.id then { e with ival := none } else e)) ∧
  (∀ (s : State) (i : Nat) (iv : Ival) (rest : List Ival) (sig : W) (stores : List StoreEnt) (race : Bool), (s.pair i).bound = true →
    (s.pair i).vote = none → (s.pair i).awaiting = iv :: rest → race = true ∨ (s.pair i).race = true ∨ sig ≠ iv.sig ∨ stores ≠ iv.stores →
    s.noGroups → s.fld ERC_RING_CFG.EN 0 = 0 → s.rd .PAIR_FAILPC (s.leaderOf i) ≠ iv.startPc →
    ∃ t, exec (.intervalComparison i sig stores race) s = .next t ∧ (t.core (s.leaderOf i)).pc = iv.ck.pc ∧
      (t.core (s.leaderOf i)).x = iv.ck.x ∧ (t.pair i).awaiting = [] ∧ (∀ e ∈ (t.core (s.leaderOf i)).sb, e.ival = none)) ∧
  (∀ (s : State) (i : Nat) (v : Vote), (s.pair i).vote = some v → v.powered = false → (s.pair i).voteWaits = false →
    (s.core (i / 2 * 5 + v.spare)).flushing = false →
    ∃ t, exec (.voteSparePowered i) s = .next t ∧ (t.pair i).vote = some { v with powered := true } ∧
      (t.core (i / 2 * 5 + v.spare)).pc = v.ival.ck.pc ∧ (t.core (i / 2 * 5 + v.spare)).x = v.ival.ck.x) ∧
  (∀ (s : State) (i : Nat) (v : Vote) (iv : Ival) (rest : List Ival) (fin : Ckpt), (s.pair i).vote = some v → v.powered = true →
    (s.pair i).awaiting = iv :: rest → s.noGroups → s.fld ERC_RING_CFG.EN 0 = 0 →
    (s.pair (i / 2 * 2 + (1 - i % 2))).voteWaits = false →
    (∃ t, exec (.voteResult i iv.sig iv.stores iv.sig iv.stores fin) s = .next t ∧ t.fld PAIR_STATUS.STATE (s.leaderOf i) = 2 ∧
      t.fld PAIR_STATUS.LAST_VOTE (s.leaderOf i) = 1 ∧ (t.core (i / 2 * 5 + v.spare)).run = .held) ∧
    (∀ sig, sig ≠ iv.sig →
      (v.spare ≠ (s.pair i).trailer →
        ∃ t, exec (.voteResult i sig iv.stores iv.sig iv.stores fin) s = .next t ∧ t.fld PAIR_STATUS.LAST_VOTE (s.leaderOf i) = 3 ∧
          (t.pair i).trailer = v.spare ∧ (t.core (i / 2 * 5 + v.spare)).run = .running) ∧
      (∃ t, exec (.voteResult i sig iv.stores sig iv.stores fin) s = .next t ∧
        t.fld PAIR_STATUS.LAST_VOTE (i / 2 * 5 + v.spare) = 2 ∧ (t.pair i).leader = v.spare) ∧
      (∃ t, exec (.voteResult i iv.sig iv.stores sig iv.stores fin) s = .next t ∧ t.fld PAIR_STATUS.LAST_VOTE (s.leaderOf i) = 4) ∧
      (∀ sig2, sig2 ≠ iv.sig → sig2 ≠ sig →
        ∃ t, exec (.voteResult i sig iv.stores sig2 iv.stores fin) s = .next t ∧ t.fld PAIR_STATUS.STATE (s.leaderOf i) = 4 ∧
          t.fld PAIR_STATUS.LAST_VOTE (s.leaderOf i) = 5))) ∧
  (∀ (s : State) (i : Nat) (v : Vote), (s.pair i).vote = some v →
    (s.pair i).voteWaits = true ∨ (s.noGroups ∧ s.fld ERC_RING_CFG.EN 0 = 0 ∧ (s.pair (i / 2 * 2 + (1 - i % 2))).voteWaits = false) →
    ∃ t, exec (.voteLimit i) s = .next t ∧ t.fld PAIR_STATUS.STATE (s.leaderOf i) = 4 ∧ t.fld PAIR_STATUS.LAST_VOTE (s.leaderOf i) = 7)

/-- The requests of the coherence protocol complete (R100, R104, R105, R107, R118, R119, R138): a home that can take a request, of a line whose
Sieve entry shows no copy, answers it with what it grants and the data it holds or reads from DRAM; an atomic on a line mapped NC answers with the
old value; a NAK is counted and waited for, a wait ends, and a reservation is dropped. -/
def Obligations.RequestsComplete : Prop :=
  (∀ (s : State) (c line : Nat) (r : Req), s.canAccept (.core c) line r → r.kind = .rdShared → s.sieveFree line →
    (tget none s.l3 line).isSome = true ∨ s.memStatus line = 0 →
    ∃ t, exec (.rdShared c line) s = .next t ∧ t.granted (.core c) line (some .e) (some (s.homeData line)) ∧
      (tget {} t.sieve line).mask = 2 ^ tilePos (coreTile c) ∧ tget none t.trk line = none) ∧
  (∀ (s : State) (rq : Rq) (line : Nat) (r : Req),
    let s' := s.agentSend rq line .rdOwn none
    s'.canAccept rq line r → r.kind = .rdOwn → s'.sieveFree line → (tget none s'.l3 line).isSome = true ∨ s'.memStatus line = 0 →
    ∃ t, exec (.rdOwn rq line) s = .next t ∧ t.granted rq line (some .m) (some (s'.homeData line)) ∧
      (tget {} t.sieve line).mask = (match rq with | .core c => 2 ^ tilePos (coreTile c) | .agent _ => 0)) ∧
  (∀ (s : State) (c line : Nat) (r : Req), s.canAccept (.core c) line r → r.kind = .upgrade → s.sieveFree line →
    (tget none (s.core c).l2 line).isSome = true →
    ∃ t, exec (.upgrade c line) s = .next t ∧ t.granted (.core c) line (some .m) none) ∧
  (∀ (s : State) (pos line : Nat) (r : Req),
    let s' := s.agentSend (.agent pos) line .rdOnce none
    s'.canAccept (.agent pos) line r → r.kind = .rdOnce → s'.sieveFree line →
    ∃ t, exec (.rdOnce pos line) s = .next t ∧ t.granted (.agent pos) line none (some (s'.homeData line)) ∧ (tget {} t.sieve line).mask = 0) ∧
  (∀ (s : State) (pos line : Nat) (data : BitVec 512) (r : Req),
    let s' := s.agentSend (.agent pos) line .wrLine (some { data := data })
    s'.canAccept (.agent pos) line r → r.kind = .wrLine → s'.sieveFree line →
    ∃ t, exec (.wrLine pos line data) s = .next t ∧ t.granted (.agent pos) line none none ∧ (tget {} t.sieve line).mask = 0) ∧
  (∀ (s : State) (c line : Nat) (r : Req), s.canAccept (.core c) line r → r.kind = .cboClean ∨ r.kind = .cboFlush → r.wr = none →
    s.sieveFree line → (tget none (s.core c).l2 line).isSome = false → s.wbDue line = false → (s.homeData line).tag = none → s.memStatus line = 0 →
    ∃ t, exec (.cboFlushRequest c line) s = .next t ∧ t.granted (.core c) line none none ∧ tget none t.depvb line = none ∧
      ∀ l, tget none t.l3 line = some l → l.dirty = false) ∧
  (∀ (s : State) (c line size pa src : Nat) (op : AmoOp) (r : Req), tget none (s.core c).reqs line = some r → (s.core c).amoReq = some (op, size, pa, src) →
    r.kind = .amoHome → pa / 64 = line → r.nakIn = false → r.off = false → r.wait = 0 → s.msgOk .amoHome (.core c) line = true →
    tget none s.trk line = none → (tget none s.fair line = none ∨ tget none s.fair line = some (.core c)) → s.trkFull (homeOf line) = false →
    ∃ t, exec (.amoHome c line) s = .next t ∧
      (t.core c).devAns = some (s.curNat pa size, if (s.curLine line).poison then 4 else s.memStatus line) ∧ (t.core c).amoReq = none) ∧
  (∀ (s : State) (rq : Rq) (line : Nat) (r : Req), s.getReq rq line = some r → r.nakIn = true → s.msgOk .nak rq line = true →
    ∃ t w, exec (.nak rq line) s = .next t ∧ t.getReq rq line = some { r with nak := Nat.min 15 (r.nak + 1), wait := w, nakIn := false } ∧
      (r.reserved = true → w = 16) ∧
      (r.reserved = false → (nakRange (Nat.min 15 (r.nak + 1))).1 ≤ w ∧ w ≤ (nakRange (Nat.min 15 (r.nak + 1))).2)) ∧
  (∀ (s : State) (rq : Rq) (line : Nat) (r : Req), s.getReq rq line = some r →
    ∃ t, exec (.nakRetry rq line) s = .next t ∧ t.getReq rq line = some { r with wait := 0 }) ∧
  (∀ (s : State) (line : Nat), ∃ t, exec (.fairnessReservationDrop line) s = .next t ∧ tget none t.fair line = none)

/-- What the home and the snoops send completes (R105, R106, R109 to R112, R115, R121, R123, R185, R189): COMP and DATA are held until the request
ends, which installs the line, or ends a core's CBO; a snoop visits its next stop, where a line that no group and no hold window keeps is given up,
shared or left as the snoop's type says, a hold window answers HOLD, and a group whose write set has the line ends; the response of a slot that
has passed every stop ends the request; writebacks and notices are taken and acknowledged. -/
def Obligations.RepliesComplete : Prop :=
  (∀ (s : State) (rq : Rq) (line : Nat) (r : Req), s.getReq rq line = some r → r.comp.isSome = true → s.msgOk .comp rq line = true →
    (r.dataHeld = false → r.noData = false → r.compStatus = 0 →
      ∃ t, exec (.comp rq line) s = .next t ∧ t.getReq rq line = some { r with compHeld := true }) ∧
    (∀ c, rq = .core c → r.kind = .cboClean ∨ r.kind = .cboFlush → r.noData = true → r.compStatus = 0 →
      ∃ t, exec (.comp rq line) s = .next t ∧ t.getReq rq line = none ∧ (t.core c).cboDone = some line)) ∧
  (∀ (s : State) (rq : Rq) (line : Nat) (r : Req), s.getReq rq line = some r → r.data.isSome = true → r.compHeld = false →
    s.msgOk .data rq line = true →
    ∃ t, exec (.data rq line) s = .next t ∧ t.getReq rq line = some { r with dataHeld := true }) ∧
  (∀ (s : State) (c line : Nat) (r : Req) (st : Moesi) (d : LineData), tget none (s.core c).reqs line = some r → r.comp = some (some st) →
    r.data = some d → r.compHeld = true → r.compStatus = 0 → r.kind = .rdShared ∨ r.kind = .rdOwn ∨ r.kind = .upgrade →
    s.msgOk .data (.core c) line = true →
    (tget none (s.core c).l2 line).isSome = true ∨ ((s.core c).l2.filter fun e => e.1 % 2048 == line % 2048).length < 8 →
    ∃ t, exec (.data (.core c) line) s = .next t ∧ tget none (t.core c).l2 line = some { st := st, d := s.sweptData (coreTile c) d }) ∧
  (∀ (s : State) (line p : Nat) (t : Trk), tget none s.trk line = some t → t.phase = .deferred → t.rq = some (.agent p) → t.kind = .rdOnce →
    t.parked = none → (s.coreIds.any fun c => (s.core c).flippingLine line) = false → t.resp.typ = .once → t.resp.hold = false →
    (s.getReq (.agent p) line).isSome = true →
    ∃ u, exec (.deferRsp line) s = .next u ∧ ∃ r, u.getReq (.agent p) line = some r ∧ r.comp = some none ∧ r.compStatus = 0 ∧
      tget none u.trk line = none) ∧
  (∀ (s : State) (c line : Nat) (w : WbEnt), tget none (s.core c).wb line = some w → w.dirty = true → w.acked = 0 →
    s.msgOk .wbDirty (.core c) line = true → tget none s.trk line = none →
    (w.disc = false → w.d.tag = none →
      ∃ t, exec (.wbDirty c line) s = .next t ∧ tget none (t.core c).wb line = some { w with acked := 1 } ∧
        (∀ x, tget none s.l3 line = some x → x.secure = (s.core c).secure → s.l3Ways x.secure ≠ 0 → s.l3Held line = false →
          ∃ l, tget none t.l3 line = some l ∧ l.data = w.d.data ∧ l.dirty = true ∧ l.poison = w.d.poison)) ∧
    (w.disc = true →
      ∃ t, exec (.wbDirty c line) s = .next t ∧ tget none (t.core c).wb line = some { w with acked := 2 } ∧ t.l3 = s.l3 ∧ t.mem = s.mem)) ∧
  (∀ (s : State) (c line : Nat) (w : WbEnt), tget none (s.core c).wb line = some w → w.dirty = false → w.acked = 0 →
    s.msgOk .evictClean (.core c) line = true →
    ∃ t, exec (.evictClean c line) s = .next t ∧ tget none (t.core c).wb line = some { w with acked := 1 } ∧
      (w.last = true → (tget {} t.sieve line).mask = (tget {} s.sieve line).mask &&& ((2 ^ 28 - 1) ^^^ 2 ^ tilePos (coreTile c)))) ∧
  (∀ (s : State) (c line : Nat) (w : WbEnt), tget none (s.core c).wb line = some w →
    (w.acked = 1 → w.dirty = true → s.msgOk .wbAck (.core c) line = true →
      ∃ t, exec (.wbAck c line) s = .next t ∧ tget none (t.core c).wb line = none) ∧
    (w.acked = 2 → w.dirty = true → s.msgOk .wbDisc (.core c) line = true →
      ∃ t, exec (.wbAckDiscarded c line) s = .next t ∧ tget none (t.core c).wb line = none) ∧
    (w.acked = 1 → w.dirty = false → s.msgOk .evictAck (.core c) line = true →
      ∃ t, exec (.evictAck c line) s = .next t ∧ tget none (t.core c).wb line = none)) ∧
  (∀ (s : State) (ring slot pos tile : Nat) (x : Slot), slot < 28 → ring < 2 → tget {} s.slots (ring * 28 + slot) = x → x.valid = true →
    x.seen.testBit pos = false → pos = ringNext ring x.at_ → posTile pos = some tile → (∀ k, k < 5 → (s.core (tile * 5 + k)).group = none) →
    (∀ k, k < 5 → (s.core (tile * 5 + k)).lrWin ≠ some (x.line, 1) ∧
      ∀ r, (s.core (tile * 5 + k)).resv = some r → r.hold = false ∨ r.line ≠ x.line) →
    (∀ t, tget none s.trk x.line = some t → ∀ k, k < 5 → t.rq ≠ some (.core (tile * 5 + k))) →
    (x.typ = .shared → ∃ t, exec (.snpShared ring slot pos) s = .next t ∧ (tget {} t.slots (ring * 28 + slot)).seen.testBit pos = true ∧
      ∀ k, k < 5 → ∀ l, tget none (s.core (tile * 5 + k)).l2 x.line = some l →
        tget none (t.core (tile * 5 + k)).l2 x.line = some { l with st := if l.st = .s ∨ l.st = .e then .s else .o }) ∧
    (x.typ = .own → ∃ t, exec (.snpOwn ring slot pos) s = .next t ∧ (tget {} t.slots (ring * 28 + slot)).seen.testBit pos = true ∧
      ∀ k, k < 5 → tget none (t.core (tile * 5 + k)).l2 x.line = none) ∧
    (x.typ = .once → ∃ t, exec (.snpOnce ring slot pos) s = .next t ∧ (tget {} t.slots (ring * 28 + slot)).seen.testBit pos = true ∧
      ∀ k, k < 5 → tget none (t.core (tile * 5 + k)).l2 x.line = tget none (s.core (tile * 5 + k)).l2 x.line) ∧
    (x.typ = .inv → ∃ t, exec (.snpInv ring slot pos) s = .next t ∧ (tget {} t.slots (ring * 28 + slot)).seen.testBit pos = true ∧
      ∀ k, k < 5 → tget none (t.core (tile * 5 + k)).l2 x.line = none)) ∧
  (∀ (s : State) (ring slot pos tile k : Nat) (x : Slot) (r : Resv), slot < 28 → ring < 2 → tget {} s.slots (ring * 28 + slot) = x →
    x.valid = true → x.seen.testBit pos = false → pos = ringNext ring x.at_ → posTile pos = some tile → k < 5 → x.typ = .own →
    (∀ t, tget none s.trk x.line = some t → t.rq ≠ some (.core (tile * 5 + k))) →
    (s.core (tile * 5 + k)).resv = some r → r.hold = true → r.line = x.line → s.noGroups →
    ∃ t, exec (.snpOwn ring slot pos) s = .next t ∧ (tget {} t.slots (ring * 28 + slot)).hold = true ∧
      (t.core (tile * 5 + k)).resv = some r ∧ tget none (t.core (tile * 5 + k)).l2 x.line = tget none (s.core (tile * 5 + k)).l2 x.line) ∧
  (∀ (s : State) (ring slot p : Nat) (x : Slot) (k : Trk), ring < 2 → slot < 28 → tget {} s.slots (ring * 28 + slot) = x → x.valid = true →
    x.seen = 2 ^ 28 - 1 → x.hold = false → x.defer = false → tget none s.trk x.line = some k → k.rq = some (.agent p) → k.kind = .rdOnce →
    k.parked = none → (s.getReq (.agent p) x.line).isSome = true →
    (s.trk.all fun e => match e.2 with | some t => t.phase != .needSlot | none => true) = true →
    ∃ t, exec (.combinedResponse ring slot) s = .next t ∧ (tget {} t.slots (ring * 28 + slot)).valid = false ∧ tget none t.trk x.line = none ∧
      ∃ r, t.getReq (.agent p) x.line = some r ∧ r.comp = some none) ∧
  (∀ (s : State) (line slot : Nat) (k : Trk), tget none s.trk line = some k → k.phase = .needSlot → slot < 28 →
    (∀ n, n < 28 → (tget {} s.slots (line % 2 * 28 + n)).valid = true) → (tget {} s.slots (line % 2 * 28 + slot)).rsv = false →
    ∃ t, exec (.snoopSlotReservation line (line % 2) slot) s = .next t ∧
      tget {} t.slots (line % 2 * 28 + slot) =
        { tget {} s.slots (line % 2 * 28 + slot) with rsv := true, rsvPos := tilePos (homeOf line) })

/-- The mesh's commands complete (R139, R142 to R145, R147, R150): a deadline ends its request and ages its index, a late response is
dropped and counted, an error response ends a request; a link's errors are recorded and an uncorrected one stops it; APPLY and the end of
the procedure set and clear QUIESCE_BUSY, CLEAR the counts; and a Lid section drains, closes, expires and opens. -/
def Obligations.MeshComplete : Prop :=
  (∀ (s : State) (node tag : Nat) (u : TxnUse), (tget {} s.txns (node * 1024 + tag % 1024)).use = some u →
    s.overdue node (tag % 1024) = true → s.respArrived (tget {} s.txns (node * 1024 + tag % 1024)) (tag % 1024) = false →
    ∃ t, exec (.timeout node tag) s = .next t ∧ tget {} t.txns (node * 1024 + tag % 1024) =
      { tget {} s.txns (node * 1024 + tag % 1024) with
        use := none, io := {}, deadline := 0, epoch := ((tget {} s.txns (node * 1024 + tag % 1024)).epoch + 1) % 4,
        late := Nat.min 3 ((tget {} s.txns (node * 1024 + tag % 1024)).late + 1) }) ∧
  (∀ (s : State) (node tag : Nat), (tget {} s.txns (node * 1024 + tag % 1024)).late ≠ 0 →
    ∃ t, exec (.lateResponse node tag) s = .next t ∧
      (tget {} t.txns (node * 1024 + tag % 1024)).late = (tget {} s.txns (node * 1024 + tag % 1024)).late - 1) ∧
  (∀ (s : State) (node tag status : Nat) (u : TxnUse), (tget {} s.txns (node * 1024 + tag % 1024)).use = some u →
    s.respArrived (tget {} s.txns (node * 1024 + tag % 1024)) (tag % 1024) = false → status = 2 ∨ status = 3 ∨ status = 4 →
    ∃ t, exec (.errorResponse node tag status) s = .next t ∧ (tget {} t.txns (node * 1024 + tag % 1024)).use = none) ∧
  (∀ (s : State) (node port wire : Nat), ((s.logErr (hopNode node (port % 4)) 0 0 0x110 (port * 1024 + wire)).note
      (2 * 2 ^ 40 + (node * 4 + port % 4) * 1024 + wire) hour 0).1.length < 16 →
    ∃ t, exec (.linkCorrected node port wire) s = .next t ∧ s.recorded t (hopNode node (port % 4)) 0 0 0x110 (port * 1024 + wire)) ∧
  (∀ (s : State) (node port : Nat), ∃ t, exec (.linkUncorrected node port) s = .next t ∧
    tget false t.linkStopped (node * 4 + port % 4) = true ∧ t.errorN = true ∧
      s.recorded t (hopNode node (port % 4)) 0 3 0x111 (port * 1024)) ∧
  (∀ (s : State) (ag : Agent) (node port : Nat) (w : W), ¬(ag = .macen ∧ s.pfw = true) → s.fld MESH_LINK_CFG.QUIESCE_BUSY (node * 4 + port % 4) = 0 →
    s.gate ag .MESH_LINK_CFG (node * 4 + port % 4) (some w) = .pass → regAbsent .MESH_LINK_CFG (node * 4 + port % 4) = false → bit w 62 = true →
    ∃ t, exec (.apply ag node port w) s = .next t ∧ t.fld MESH_LINK_CFG.QUIESCE_BUSY (node * 4 + port % 4) = 1 ∧ t.rsp = { data := 0, status := 0 }) ∧
  (∀ (s : State) (node port : Nat), s.mac.due = [] →
    ∃ t, exec (.linkReconfigDone node port) s = .next t ∧ t.fld MESH_LINK_CFG.QUIESCE_BUSY (node * 4 + port % 4) = 0 ∧
      (s.fld MESH_LINK_CFG.QUIESCE_BUSY (node * 4 + port % 4) ≠ 0 →
        tget none t.mesh.active (node * 4 + port % 4) = some (s.rd .MESH_LINK_CFG (node * 4 + port % 4)))) ∧
  (∀ (s : State) (ag : Agent) (node : Nat) (w : W), s.gate ag .MESH_INIT_STATUS node (some w) = .pass → regAbsent .MESH_INIT_STATUS node = false →
    bit w 15 = true →
    ∃ t, exec (.clear ag node w) s = .next t ∧ t.fld MESH_INIT_STATUS.LATE_DROPPED node = 0 ∧ t.fld MESH_INIT_STATUS.TIMEOUT_DEVICE node = 0 ∧
      t.fld MESH_INIT_STATUS.TIMEOUT_MEMORY node = 0 ∧ t.rsp = { data := 0, status := 0 }) ∧
  (∀ (s : State) (ag : Agent) (node sec : Nat) (w : W), s.gate ag .LID_SECTION (lidIx node sec) (some w) = .pass →
    regAbsent .LID_SECTION (lidIx node sec) = false → field w 1 0 = 1 → (s.regWrite .LID_SECTION (lidIx node sec) w).lidState node sec = 0 →
    sec < lidSections node → s.mayClose node sec = true →
    ∃ t, exec (.close ag node sec w) s = .next t ∧ t.lidState node sec = 1 ∧ t.rsp = { data := 0, status := 0 }) ∧
  (∀ (s : State) (ag : Agent) (node sec : Nat) (w : W), s.gate ag .LID_SECTION (lidIx node sec) (some w) = .pass →
    regAbsent .LID_SECTION (lidIx node sec) = false → field w 1 0 = 2 → (s.regWrite .LID_SECTION (lidIx node sec) w).lidState node sec = 2 →
    tget false s.lidHeld (lidIx node sec) = false →
    ∃ t, exec (.lidOpen ag node sec w) s = .next t ∧ t.lidState node sec = 0 ∧ t.rsp = { data := 0, status := 0 }) ∧
  (∀ (s : State) (node sec : Nat), s.lidState node sec = 0 → sec < lidSections node → s.mayClose node sec = true →
    ∃ t, exec (.lidDrain node sec) s = .next t ∧ t.lidState node sec = 1) ∧
  (∀ (s : State) (node sec : Nat), s.lidState node sec = 1 → s.outbound node sec ≠ [] ∨ s.accepted node sec ≠ [] →
    ∃ t, exec (.lidDrainLimit node sec) s = .next t ∧ t.lidState node sec = 2 ∧ t.fld LID_SECTION.DRAIN_EXPIRED (lidIx node sec) = 1 ∧
      t.fld LID_SECTION.ABANDONED (lidIx node sec) = Nat.min (s.abandons node sec).length 255) ∧
  (∀ (s : State) (node sec : Nat), s.lidState node sec = 1 → s.outbound node sec = [] → s.accepted node sec = [] →
    ∃ t, exec (.lidClosed node sec) s = .next t ∧ t.lidState node sec = 2 ∧ t.fld LID_SECTION.ABANDONED (lidIx node sec) = 0) ∧
  (∀ (s : State) (node tag : Nat), s.meetsLid node (tag % 1024) = true →
    s.respArrived (tget {} s.txns (node * 1024 + tag % 1024)) (tag % 1024) = false →
    ∃ t, exec (.domainOff node tag) s = .next t ∧ (tget {} t.txns (node * 1024 + tag % 1024)).use = none)

/-- The Spine's commands complete (R163, R176 to R186, R189): a commit request is numbered in OPEN, parked in PAUSED and lost in FENCED, a
segment makes its record whole, the watermark passes a resolved number, four changed streams go out in a publication round, and the stream
commands enable, disable, fence, resume, restart and sweep a stream and open it after the last answer. -/
def Obligations.SpineComplete : Prop :=
  (∀ (s : State) (c : Nat) (q : CommitReq), (s.core c).cgReq = some q → s.fld SPN_STREAM_STATE.STATE q.stream = 1 → s.undurableNums q.stream < 1024 →
    (s.stream q.stream).parked = [] → (s.stream q.stream).gasp = false →
    (∀ n, ((s.stream n).nums.any fun e => e.deps.any s.depLost) = false) → (q.deps.any s.depLost) = false →
    ∃ t, exec (.commitRequest c) s = .next t ∧
      t.fld SPN_STREAM_ASSIGNED.A q.stream = (s.fld SPN_STREAM_ASSIGNED.A q.stream + 1) % 2 ^ 64 ∧
      (t.core q.core).cgReply = some (q.stream, s.fld SPN_STREAM_ASSIGNED.A q.stream + 1, false) ∧
      (t.stream q.stream).nums = (s.stream q.stream).nums ++
        [{ seq := s.fld SPN_STREAM_ASSIGNED.A q.stream + 1, core := q.core, level := s.levelNow q.stream, deps := q.deps }]) ∧
  (∀ (s : State) (c : Nat) (q : CommitReq), (s.core c).cgReq = some q → s.fld SPN_STREAM_STATE.STATE q.stream = 2 ∨
      (s.fld SPN_STREAM_STATE.STATE q.stream = 1 ∧
        (1024 ≤ s.undurableNums q.stream ∨ (s.stream q.stream).parked ≠ [] ∨ (s.stream q.stream).gasp = true)) →
    ∃ t, exec (.commitRequest c) s = .next t ∧ (t.core c).cgReq = none ∧ (t.stream q.stream).parked = (s.stream q.stream).parked ++ [q]) ∧
  (∀ (s : State) (c : Nat) (q : CommitReq), (s.core c).cgReq = some q →
    s.fld SPN_STREAM_STATE.STATE q.stream = 3 ∨ s.fld SPN_STREAM_STATE.STATE q.stream = 0 →
    ∃ t, exec (.commitRequest c) s = .next t ∧ (t.core q.core).cgReply = some (q.stream, s.fld SPN_STREAM_ASSIGNED.A q.stream + 1, true)) ∧
  (∀ (s : State) (n g : Nat) (r : JRec), ((tget [] s.jrnRecs n).find? fun r => r.seq = g) = some r → r.typ = 1 → r.complete = false → r.lines ≠ [] →
    ∃ t, exec (.recordSegment n g) s = .next t ∧
      (t.stream n).nums = (s.stream n).nums.map (fun e => if e.seq = g then { e with staged := true } else e)) ∧
  (∀ (s : State), s.spnChanged ≠ [] →
    ∃ t es, exec .publicationRound s = .next t ∧ t.spnChanged = s.spnChanged.drop 4 ∧
      es.map (fun e : PubEnt => (e.stream, e.w, e.fenced)) = (s.spnChanged.take 4).map (fun n => (n, s.fld SPN_STREAM_WMARK.W n, (s.stream n).fencedPub)) ∧
      ∀ d, d < 28 → tget [] t.pubFlits d = tget [] s.pubFlits d ++ [es]) ∧
  (∀ (s : State) (n : Nat) (e : SeqEnt) (rest : List SeqEnt), s.streamUp n = true → (s.stream n).nums = e :: rest → (s.stream n).parked = [] →
    e.resolved = true → (∀ d ∈ e.deps, d.2 ≤ s.fld SPN_STREAM_WMARK.W d.1 ∧ s.depLost d = false) → (∀ x ∈ rest.head?, x.resolved = false) →
    e.seq < 2 ^ 64 →
    ∃ t, exec (.resolution n) s = .next t ∧ t.fld SPN_STREAM_WMARK.W n = e.seq ∧ (t.stream n).nums = rest ∧ n ∈ t.spnChanged) ∧
  (∀ (s : State) (ag : Agent) (n level : Nat), s.gate ag .SPN_STREAM_CFG n (some (putField (BitVec.ofNat 64 (level % 4)) 63 63 1)) = .pass →
    regAbsent .SPN_STREAM_CFG n = false → s.fld SPN_STREAM_STATE.STATE n = 0 → (s.stream n).sweep = none →
    ∃ t, exec (.streamEnable ag n level) s = .next t ∧ (t.stream n).sweep = some (List.range 28) ∧
      (t.stream n).sweepL = s.fld SPN_STREAM_WMARK.W n ∧ t.rsp = { data := 0, status := 0 }) ∧
  (∀ (s : State) (ag : Agent) (n level : Nat), s.gate ag .SPN_STREAM_CFG n (some (BitVec.ofNat 64 (level % 4))) = .pass →
    regAbsent .SPN_STREAM_CFG n = false → s.fld SPN_STREAM_STATE.STATE n < 4 →
    ∃ t, exec (.streamDisable ag n level) s = .next t ∧ t.rsp = { data := 0, status := 0 } ∧
      if s.fld SPN_STREAM_STATE.STATE n = 0 ∨ s.fld SPN_STREAM_STATE.STATE n = 3 ∨ (s.undurableNums n = 0 ∧ (s.stream n).parked = []) then
        t.fld SPN_STREAM_STATE.STATE n = 0
      else t.fld SPN_STREAM_STATE.STATE n = s.fld SPN_STREAM_STATE.STATE n ∧ t.fld SPN_STREAM_CFG.EN n = s.fld SPN_STREAM_CFG.EN n) ∧
  (∀ (s : State) (ag : Agent) (n : Nat), s.gate ag .SPN_STREAM_STATE n (some 1) = .pass → regAbsent .SPN_STREAM_STATE n = false →
    (s.regWrite .SPN_STREAM_STATE n 1).streamUp n = true →
    ∃ t, exec (.fenceStream ag n) s = .next t ∧ t.fld SPN_STREAM_STATE.STATE n = 3 ∧ t.fld SPN_STREAM_STATE.FENCE_CAUSE n = 3 ∧
      t.rsp = { data := 0, status := 0 }) ∧
  (∀ (s : State) (ag : Agent) (n : Nat), s.gate ag .SPN_STREAM_STATE n (some 2) = .pass → regAbsent .SPN_STREAM_STATE n = false →
    (s.regWrite .SPN_STREAM_STATE n 2).fld SPN_STREAM_STATE.STATE n = 2 → (s.stream n).parked = [] →
    ∃ t, exec (.resume ag n) s = .next t ∧ t.fld SPN_STREAM_STATE.STATE n = 1 ∧ t.rsp = { data := 0, status := 0 }) ∧
  (∀ (s : State) (ag : Agent) (n : Nat), s.gate ag .SPN_STREAM_STATE n (some 3) = .pass → regAbsent .SPN_STREAM_STATE n = false →
    (s.regWrite .SPN_STREAM_STATE n 3).fld SPN_STREAM_STATE.STATE n = 3 → (s.stream n).sweep = none →
    ∃ t, exec (.restart ag n) s = .next t ∧ (t.stream n).sweep = some (List.range 28) ∧ t.rsp = { data := 0, status := 0 }) ∧
  (∀ (s : State) (n dest : Nat), (s.stream n).sweep.isSome = true → dest < 28 → (s.stream n).swept.contains dest = false →
    ∃ t, exec (.sweep n dest) s = .next t ∧ (t.stream n).swept = (s.stream n).swept ++ [dest]) ∧
  (∀ (s : State) (n dest : Nat), (s.stream n).sweep = some [dest] → (s.stream n).swept.contains dest = true →
    ∃ t, exec (.sweepAnswer n dest) s = .next t ∧ t.fld SPN_STREAM_STATE.STATE n = 1 ∧ t.fld SPN_STREAM_STATE.FENCE_CAUSE n = 0 ∧
      t.fld SPN_STREAM_CFG.EN n = 1 ∧ (t.stream n).sweep = none) ∧
  (∀ (s : State) (n dest : Nat) (ds : List Nat), (s.stream n).sweep = some ds → (s.stream n).swept.contains dest = true → dest ∈ ds →
    ds.filter (· ≠ dest) ≠ [] →
    ∃ t, exec (.sweepAnswer n dest) s = .next t ∧ (t.stream n).sweep = some (ds.filter (· ≠ dest)))

/-- The journal engine's commands complete (R181, R193 to R196): a reservation waits with its size and a cancel takes it back, CLOSE_MARK
leaves nothing of a core behind, a whole record is appended and accepted, and software's DRAIN_PTR write is taken. -/
def Obligations.JournalComplete : Prop :=
  (∀ (s : State) (c : Nat) (g : Group), (s.core c).group = some g → g.phase = .staging →
    ((tget [] s.jrnRes g.stream).any fun r => r.core = c) = false → (s.core c).cancel = none →
    ∃ t, exec (.stagingReservation c) s = .next t ∧ ∃ r ∈ tget [] t.jrnRes g.stream, r.core = c ∧ r.bytes = 64 + 72 * g.writes.length) ∧
  (∀ (s : State) (c n : Nat), (s.core c).cancel = some n →
    ∃ t, exec (.stagingCancel c) s = .next t ∧ (t.core c).cancel = none ∧ ∀ r ∈ tget [] t.jrnRes n, r.core = c → r.used = true) ∧
  (∀ (s : State) (c : Nat), ∃ t, exec (.closeMark c) s = .next t ∧ (t.core c).voidOut = false ∧ (t.core c).cgReply = none ∧ (t.core c).cancel = none) ∧
  (∀ (s : State) (n : Nat) (r : JRec), s.nextRec n = some r → r.complete = true → s.streamUp n = true → s.jrnSize n ≠ 0 →
    s.regionFits n (recBytes n r 0).length = true →
    (s.appendOk (s.owner (ixStream n)).isNone (s.streamPart n)
      (s.jrnBase n + (s.fld JRN_APPEND_PTR.APPEND n + padFor (s.jrnSize n) (s.fld JRN_APPEND_PTR.APPEND n) (recBytes n r 0).length) % s.jrnSize n)
      (recBytes n r 0).length).1 = true →
    padFor (s.jrnSize n) (s.fld JRN_APPEND_PTR.APPEND n) (recBytes n r 0).length = 0 ∨
    ((s.appendOk (s.owner (ixStream n)).isNone (s.streamPart n)
      (s.jrnBase n + (s.fld JRN_APPEND_PTR.APPEND n + padFor (s.jrnSize n) (s.fld JRN_APPEND_PTR.APPEND n) (recBytes n r 0).length) % s.jrnSize n)
      (recBytes n r 0).length).2.appendOk (s.owner (ixStream n)).isNone (s.streamPart n)
      (s.jrnBase n + s.fld JRN_APPEND_PTR.APPEND n % s.jrnSize n)
      (padFor (s.jrnSize n) (s.fld JRN_APPEND_PTR.APPEND n) (recBytes n r 0).length)).1 = true →
    ∃ t, exec (.journalAppend n) s = .next t ∧
      t.fld JRN_APPEND_PTR.APPEND n = (s.fld JRN_APPEND_PTR.APPEND n +
        padFor (s.jrnSize n) (s.fld JRN_APPEND_PTR.APPEND n) (recBytes n r 0).length + (recBytes n r 0).length) % 2 ^ 64 ∧
      (t.stream n).lastApp = r.seq ∧ (t.stream n).lastTerm = r.term) ∧
  (∀ (s : State) (n : Nat) (r : JRec), s.nextRec n = some r → r.complete = true → s.streamUp n = true → s.jrnSize n ≠ 0 →
    s.regionFits n (recBytes n r 0).length = false →
    ∃ t, exec (.journalAppend n) s = .next t ∧ t.fld JRN_STREAM_STATUS.REGION_FULL n = 1 ∧ t.mem = s.mem) ∧
  (∀ (s : State) (n g : Nat), ((tget [] s.jrnRecs n).any fun r => r.seq = g ∧ r.appending) = true →
    ∃ t, exec (.appendAccepted n g) s = .next t ∧
      (t.stream n).nums = (s.stream n).nums.map (fun e => if e.seq = g then { e with appended := true } else e)) ∧
  (∀ (s : State) (ag : Agent) (n : Nat) (w : W), s.gate ag .JRN_DRAIN_PTR n (some w) = .pass →
    ptrDiff w.toNat (s.fld JRN_DRAIN_PTR.DRAIN n) ≤ ptrDiff (s.fld JRN_APPEND_PTR.APPEND n) (s.fld JRN_DRAIN_PTR.DRAIN n) →
    ∃ t, exec (.drainPtrWrite ag n w) s = .next t ∧ t.fld JRN_DRAIN_PTR.DRAIN n = w.toNat ∧ t.rsp = { data := 0, status := 0 }) ∧
  (∀ (s : State) (ag : Agent) (n : Nat) (w : W), s.gate ag .JRN_DRAIN_PTR n (some w) = .pass →
    ptrDiff (s.fld JRN_APPEND_PTR.APPEND n) (s.fld JRN_DRAIN_PTR.DRAIN n) < ptrDiff w.toNat (s.fld JRN_DRAIN_PTR.DRAIN n) →
    ∃ t, exec (.drainPtrWrite ag n w) s = .next t ∧ t.fld JRN_DRAIN_PTR.DRAIN n = s.fld JRN_DRAIN_PTR.DRAIN n ∧
      t.fld JRN_STREAM_STATUS.DRAIN_ERR n = 1 ∧ t.rsp = { data := 0, status := 0 })

/-- What a replica slot does with the messages of R260 completes (R264, R265, R272): records are taken in order and HELD follows them, a
higher term is taken with its primary, a last gasp ends the slot, a vote is granted, and VALID arms the slot. -/
def Obligations.ReplicaSlotsComplete : Prop :=
  (∀ (s u0 u v w : State) (p i : Nat) (k : Pkt) (any : Bool), s.takePkt 0x10 = some (p, k, u0) → u0.slotOf k.ctl.ledger = some i → u = u0.candidateSees k →
    u.fld JRN_RSLOT_CFG.STATE i ≠ 0 → u.slotStale i k = false → u.slotTerm i k = some v → v.fld JRN_RSLOT_HELD.HELD i < k.ctl.b →
    k.ctl.a ≤ v.fld JRN_RSLOT_HELD.HELD i + 1 → State.takeRecs 1024 i (k.data.drop 32) false v = (.all, any, w) →
    ∃ t, exec .quire s = .next t ∧ t.fld JRN_RSLOT_HELD.HELD i = w.fld JRN_RSLOT_HELD.HELD i ∧
      t.fld JRN_RSLOT_CFG.STATE i = (if k.ctl.flags % 2 = 1 then 2 else 3) ∧ t.fld JRN_RSLOT_TERM.TERM i = w.fld JRN_RSLOT_TERM.TERM i) ∧
  (∀ (s u0 u : State) (p i : Nat) (k : Pkt), s.takePkt 0x13 = some (p, k, u0) → u0.slotOf k.ctl.ledger = some i → u = u0.candidateSees k →
    u.fld JRN_RSLOT_CFG.STATE i ≠ 0 → u.fld JRN_RSLOT_CFG.STATE i ≠ 4 → u.fld JRN_RSLOT_CFG.WITNESS i = 0 →
    u.fld JRN_RSLOT_TERM.TERM i < k.ctl.term → k.ctl.term < 2 ^ 32 → k.src < 2 ^ 14 →
    ∃ t, exec .probe s = .next t ∧ t.fld JRN_RSLOT_TERM.TERM i = k.ctl.term ∧ t.fld JRN_RSLOT_CFG.PRIMARY i = k.src) ∧
  (∀ (s u0 u : State) (p i : Nat) (k : Pkt), s.takePkt 0x18 = some (p, k, u0) → u0.slotOf k.ctl.ledger = some i → u = u0.candidateSees k →
    u.fld JRN_RSLOT_CFG.STATE i = 2 ∨ u.fld JRN_RSLOT_CFG.STATE i = 3 → u.fld JRN_RSLOT_CFG.WITNESS i = 0 →
    u.fld JRN_RSLOT_TERM.TERM i = k.ctl.term → u.fld JRN_RSLOT_CFG.PRIMARY i = k.src → k.ctl.a < 2 ^ 64 →
    ∃ t, exec .lastGasp s = .next t ∧ t.fld JRN_RSLOT_GASP.SEQUENCE i = k.ctl.a ∧ t.fld JRN_RSLOT_CFG.STATE i = 4) ∧
  (∀ (s u0 u : State) (p i : Nat) (k : Pkt), s.takePkt 0x15 = some (p, k, u0) → u0.slotOf k.ctl.ledger = some i → u = u0.candidateSees k →
    u.fld JRN_RSLOT_CFG.STATE i ≠ 0 → u.fld JRN_RSLOT_TERM.TERM i < k.ctl.term → k.ctl.term < 2 ^ 32 → k.src < 2 ^ 14 →
    u.fld JRN_RSLOT_CFG.WITNESS i = 1 ∨ grants k.ctl.term (u.fld JRN_RSLOT_TERM.TERM i) k.ctl.lastTerm k.ctl.a
      (u.fld JRN_RSLOT_TERM.LAST_TERM i) (u.fld JRN_RSLOT_HELD.HELD i) = true →
    ∃ t, exec .termRequest s = .next t ∧ t.fld JRN_RSLOT_TERM.TERM i = k.ctl.term ∧ t.fld JRN_RSLOT_CFG.PRIMARY i = k.src ∧
      t.fld JRN_RSLOT_CFG.STATE i = 1) ∧
  (∀ (s : State) (ag : Agent) (slot : Nat) (w : W), s.gate ag .JRN_RSLOT_CFG slot (some w) = .pass → regAbsent .JRN_RSLOT_CFG slot = false →
    s.fld JRN_RSLOT_CFG.VALID slot = 0 → (s.regWrite .JRN_RSLOT_CFG slot w).fld JRN_RSLOT_CFG.VALID slot = 1 →
    ∃ t, exec (.slotValid ag slot w) s = .next t ∧ t.fld JRN_RSLOT_CFG.STATE slot = 1 ∧ t.fld JRN_RSLOT_GASP.SEQUENCE slot = 0 ∧
      t.rsp = { data := 0, status := 0 }) ∧
  (∀ (s : State) (ag : Agent) (slot : Nat) (w : W), s.gate ag .JRN_RSLOT_CFG slot (some w) = .pass → regAbsent .JRN_RSLOT_CFG slot = false →
    (s.regWrite .JRN_RSLOT_CFG slot w).fld JRN_RSLOT_CFG.VALID slot = 0 →
    ∃ t, exec (.slotValid ag slot w) s = .next t ∧ t.fld JRN_RSLOT_CFG.STATE slot = 0 ∧ t.rsp = { data := 0, status := 0 })

/-- What a stream's replication engine does completes (R266 to R269, R271, R275): acknowledgements move HELD and the numbers they cover,
a replica goes to CATCH_UP, SILENT and LIVE, a candidate counts grants and refusals and gives up at its limit, PROMOTE and STEP_DOWN move
the state, and the last gasp ends it. -/
def Obligations.ReplicationComplete : Prop :=
  (∀ (s u v : State) (p n r : Nat) (k : Pkt), s.takePkt 0x11 = some (p, k, u) → u.response k = (v, some (n, some r)) → r < 2 →
    v.rstate n r = 1 ∨ v.rstate n r = 2 → v.sending n = true → v.diverged n k.ctl.a k.ctl.lastTerm = false → (v.stream n).gasp = false →
    v.fld JRN_REPL_HELD.HELD (n * 2 + r) < k.ctl.a → k.ctl.a < 2 ^ 64 →
    ∃ t, exec .ack s = .next t ∧ t.fld JRN_REPL_HELD.HELD (n * 2 + r) = k.ctl.a ∧
      (t.stream n).nums = (v.stream n).nums.map (fun e => if e.seq ≤ k.ctl.a then { e with acks := e.acks ||| (r + 1) } else e)) ∧
  (∀ (s u v : State) (p n r : Nat) (k : Pkt), s.takePkt 0x12 = some (p, k, u) → u.response k = (v, some (n, some r)) → r < 2 →
    v.rstate n r = 1 ∨ v.rstate n r = 2 → v.sending n = true → k.status ≠ 5 → k.ctl.reason = 2 ∨ k.ctl.reason = 4 →
    ∃ t, exec .reject s = .next t ∧ t.rstate n r = 2) ∧
  (∀ (s u v : State) (p n r : Nat) (k : Pkt), s.takePkt 0x12 = some (p, k, u) → u.response k = (v, some (n, some r)) → r < 2 →
    v.rstate n r = 1 ∨ v.rstate n r = 2 → v.sending n = true → k.status = 5 ∨ k.ctl.reason = 3 ∨ k.ctl.reason = 5 →
    ∃ t, exec .reject s = .next t ∧ t.rstate n r = 3) ∧
  (∀ (s u v : State) (p n r : Nat) (k : Pkt), s.takePkt 0x14 = some (p, k, u) → u.streamOf k.ctl.ledger = some n →
    u.streamTerm n k true = (true, v) → v.memberAt n k.src = some r → r < 2 → v.rstate n r = 3 →
    v.sending n = false ∨ v.diverged n k.ctl.a k.ctl.lastTerm = false →
    ∃ t, exec .rejoin s = .next t ∧ t.rstate n r = 2) ∧
  (∀ (s u v : State) (p n r : Nat) (k : Pkt), s.takePkt 0x16 = some (p, k, u) → u.response k = (v, some (n, some r)) →
    v.fld JRN_REPL_STATE.STATE n = 3 → k.ctl.term = v.fld JRN_REPL_STATE.TERM n →
    2 * (((List.range 3).filter fun b => (v.fld JRN_REPL_STATE.GRANTED n ||| grantBit r).testBit b).length + 1) ≤ (v.members n).length + 1 →
    ∃ t, exec .termGrant s = .next t ∧ t.fld JRN_REPL_STATE.GRANTED n = v.fld JRN_REPL_STATE.GRANTED n ||| grantBit r ∧
      t.fld JRN_REPL_STATE.STATE n = 3) ∧
  (∀ (s u v : State) (p n r : Nat) (k : Pkt), s.takePkt 0x16 = some (p, k, u) → u.response k = (v, some (n, some r)) →
    v.fld JRN_REPL_STATE.STATE n = 3 → k.ctl.term = v.fld JRN_REPL_STATE.TERM n →
    (v.members n).length + 1 < 2 * (((List.range 3).filter fun b => (v.fld JRN_REPL_STATE.GRANTED n ||| grantBit r).testBit b).length + 1) →
    ∃ t, exec .termGrant s = .next t ∧ t.sending n = true ∧ (t.stream n).sweep.isSome = true) ∧
  (∀ (s u v : State) (p n r : Nat) (k : Pkt), s.takePkt 0x17 = some (p, k, u) → u.response k = (v, some (n, some r)) →
    v.fld JRN_REPL_STATE.STATE n = 3 →
    ∃ t, exec .termRefuse s = .next t ∧ (t.stream n).refused = (v.stream n).refused ||| grantBit r) ∧
  (∀ (s : State) (n r node : Nat), s.member n r = some node → r < 2 → s.rstate n r = 3 → s.sending n = true → s.fld FAB_NODE.FREEZE 0 = 0 →
    ∃ t, exec (.probeInterval n r) s = .next t ∧ (t.getRepl n r).probes = (s.getRepl n r).probes + 1) ∧
  (∀ (s : State) (n r node : Nat), s.member n r = some node → r < 2 → s.rstate n r = 1 ∨ s.rstate n r = 2 → s.sending n = true →
    s.fld FAB_NODE.FREEZE 0 = 0 → (s.getRepl n r).quires ≠ [] ∨ (s.getRepl n r).probes ≠ 0 →
    ∃ t, exec (.replicaSilent n r) s = .next t ∧ t.rstate n r = 3) ∧
  (∀ (s : State) (n r : Nat), r < 2 → s.rstate n r = 2 → (s.getRepl n r).walk = true → (s.getRepl n r).lastAck = none → s.sending n = true →
    s.findRec (s.jrnBase n) (s.jrnSize n) (s.fld JRN_APPEND_PTR.APPEND n) (s.getRepl n r).next (s.jrnSize n / 64 + 1) (s.fld JRN_DRAIN_PTR.DRAIN n) = none →
    (s.stream n).lastApp < (s.getRepl n r).next →
    ∃ t, exec (.catchupWalk n r) s = .next t ∧ (t.getRepl n r).walk = false ∧ (t.getRepl n r).pos = some (s.fld JRN_APPEND_PTR.APPEND n)) ∧
  (∀ (s : State) (n r : Nat), r < 2 → s.rstate n r = 2 → (s.getRepl n r).walk = false → (s.stream n).lastApp < (s.getRepl n r).next →
    s.sending n = true →
    ∃ t, exec (.catchupSwitch n r) s = .next t ∧ t.rstate n r = 1) ∧
  (∀ (s : State) (n : Nat), s.fld JRN_REPL_STATE.STATE n = 3 → s.fld FAB_NODE.FREEZE 0 = 0 →
    ∃ t, exec (.promotionLimit n) s = .next t ∧ t.fld JRN_REPL_STATE.STATE n = 0 ∧ t.fld JRN_REPL_STATE.PROMOTE_ERR n = 2) ∧
  (∀ (s : State) (ag : Agent) (n : Nat) (w : W), s.gate ag .JRN_REPL_STATE n (some w) = .pass → regAbsent .JRN_REPL_STATE n = false →
    field w 3 0 = 1 → (s.fld JRN_REPL_STATE.STATE n = 0 ∨ s.fld JRN_REPL_STATE.STATE n = 4 ∨ s.fld JRN_REPL_STATE.STATE n = 5) →
    (s.regWrite .JRN_REPL_STATE n w).fld JRN_REPL_STATE.STATE n = s.fld JRN_REPL_STATE.STATE n →
    s.fld SPN_STREAM_STATE.STATE n = 0 → s.fld JRN_REPL_STATE.TERM n < (s.regWrite .JRN_REPL_STATE n w).fld JRN_REPL_STATE.TERM n →
    (s.regWrite .JRN_REPL_STATE n w).fld JRN_REPL_STATE.SLOT_V n = 0 ∨
      s.fld JRN_RSLOT_CFG.VALID ((s.regWrite .JRN_REPL_STATE n w).fld JRN_REPL_STATE.SLOT n) = 1 → s.members n ≠ [] →
    ∃ t, exec (.cmdPromote ag n w) s = .next t ∧ t.fld JRN_REPL_STATE.STATE n = 3 ∧ t.fld JRN_REPL_STATE.GRANTED n = 0 ∧
      t.fld JRN_REPL_STATE.PROMOTE_ERR n = 0 ∧ t.fld JRN_REPL_STATE.TERM n = (s.regWrite .JRN_REPL_STATE n w).fld JRN_REPL_STATE.TERM n) ∧
  (∀ (s : State) (ag : Agent) (n : Nat) (w : W), s.gate ag .JRN_REPL_STATE n (some w) = .pass → regAbsent .JRN_REPL_STATE n = false →
    field w 3 0 = 1 → (s.regWrite .JRN_REPL_STATE n w).fld JRN_REPL_STATE.STATE n = 1 ∨
      (s.regWrite .JRN_REPL_STATE n w).fld JRN_REPL_STATE.STATE n = 2 ∨ (s.regWrite .JRN_REPL_STATE n w).fld JRN_REPL_STATE.STATE n = 3 →
    ∃ t, exec (.cmdPromote ag n w) s = .next t ∧ t.fld JRN_REPL_STATE.STATE n = s.fld JRN_REPL_STATE.STATE n ∧
      t.fld JRN_REPL_STATE.TERM n = s.fld JRN_REPL_STATE.TERM n ∧ t.fld JRN_REPL_STATE.PROMOTE_ERR n = 7) ∧
  (∀ (s : State) (ag : Agent) (n : Nat) (w : W), s.gate ag .JRN_REPL_STATE n (some w) = .pass → regAbsent .JRN_REPL_STATE n = false →
    field w 3 0 = 2 → (s.regWrite .JRN_REPL_STATE n w).sending n = true →
    ∃ t, exec (.stepDown ag n w) s = .next t ∧ t.fld JRN_REPL_STATE.STATE n = 4) ∧
  (∀ (s : State) (n : Nat), (s.stream n).gasp = true → s.sending n = true →
    ∃ t, exec (.lastGaspBudget n) s = .next t ∧ t.fld JRN_REPL_STATE.STATE n = 5) ∧
  (∀ (s : State) (ag : Agent) (n : Nat), s.gate ag .JRN_REPL_DEGRADED n (some 0) = .pass → regAbsent .JRN_REPL_DEGRADED n = false →
    ∃ t, exec (.degradedFromClear ag n 0) s = .next t ∧ t.fld JRN_REPL_DEGRADED.FROM n = 0 ∧ t.rsp = { data := 0, status := 0 })

/-- The commands of the fabric ports complete (R224 to R230, R236, R251): a port is enabled, retrained, swaps a lane and trains; a DATA folio
is accepted, an acknowledgement frees what it covers, a NAK and a timeout resend, a lost link goes DOWN, and the switch delivers a packet. -/
def Obligations.FabricPortsComplete : Prop :=
  (∀ (s : State) (ag : Agent) (p : Nat) (w : W), s.gate ag .FAB_PORT_CTL p (some w) = .pass → regAbsent .FAB_PORT_CTL p = false →
    (s.regWrite .FAB_PORT_CTL p w).fld FAB_PORT_CTL.ENABLE p = 1 → s.fld FAB_PORT_STATUS.STATE p = 0 → field w 3 0 = 0 →
    ∃ t, exec (.enable ag p w) s = .next t ∧ t.fld FAB_PORT_STATUS.STATE p = 1 ∧ t.rsp = { data := 0, status := 0 }) ∧
  (∀ (s : State) (ag : Agent) (p : Nat) (w : W), s.gate ag .FAB_PORT_CTL p (some w) = .pass → regAbsent .FAB_PORT_CTL p = false →
    (s.regWrite .FAB_PORT_CTL p w).fld FAB_PORT_CTL.ENABLE p = 0 → s.fld FAB_PORT_STATUS.STATE p ≠ 0 →
    ∃ t, exec (.enable ag p w) s = .next t ∧ t.fld FAB_PORT_STATUS.STATE p = 0 ∧ t.fld FAB_PORT_STATUS.LANES p = 0) ∧
  (∀ (s : State) (ag : Agent) (p : Nat) (w : W), s.gate ag .FAB_PORT_CTL p (some w) = .pass → regAbsent .FAB_PORT_CTL p = false →
    (s.regWrite .FAB_PORT_CTL p w).fld FAB_PORT_CTL.ENABLE p = 1 → s.fld FAB_PORT_STATUS.STATE p = 5 → field w 3 0 = 1 →
    ∃ t, exec (.retrain ag p w) s = .next t ∧ t.fld FAB_PORT_STATUS.STATE p = 1) ∧
  (∀ (s : State) (ag : Agent) (p lane : Nat) (w : W), s.gate ag .FAB_PORT_CTL p (some w) = .pass → regAbsent .FAB_PORT_CTL p = false →
    (s.regWrite .FAB_PORT_CTL p w).fld FAB_PORT_CTL.ENABLE p = 1 → (s.regWrite .FAB_PORT_CTL p w).fld FAB_PORT_CTL.SPARE_FOR p = lane → lane < 4 →
    s.fld FAB_PORT_STATUS.STATE p = 4 → s.fld FAB_PORT_STATUS.SPARE_USE p = 7 → field w 3 0 = 2 →
    ∃ t, exec (.laneSwap ag p w) s = .next t ∧ (t.port p).swap = 4 * lane + 1) ∧
  (∀ (s u : State) (p lane : Nat) (k : Pkt), s.takePkt 0x3A = some (p, k, u) → p < 8 → u.fld FAB_PORT_STATUS.STATE p = 4 →
    u.fld FAB_PORT_STATUS.SPARE_USE p = 7 → (k.data.getD 0 0).toNat = lane → lane < 4 → (k.data.getD 1 0).toNat = 0 →
    ∃ t, exec .laneSwapPacket s = .next t ∧ (t.port p).swap = 4 * lane + 2) ∧
  (∀ (s u : State) (p lane step : Nat) (k : Pkt), s.takePkt 0x3A = some (p, k, u) → p < 8 → u.fld FAB_PORT_STATUS.STATE p = 4 →
    u.fld FAB_PORT_STATUS.SPARE_USE p = 7 → (k.data.getD 0 0).toNat = lane → lane < 4 → (k.data.getD 1 0).toNat = step →
    step = 1 ∨ step = 2 → (u.port p).swap = 4 * lane + step →
    ∃ t, exec .laneSwapPacket s = .next t ∧ t.fld FAB_PORT_STATUS.SPARE_USE p = lane ∧ (t.port p).swap = 0) ∧
  (∀ (s : State) (p lanes used rtt : Nat), p < 8 → s.fld FAB_PORT_STATUS.STATE p = 1 → 2 ≤ goodLanes lanes → rtt < 2 ^ 16 →
    (used = match s.fabLane p with | some l => if lanes.testBit l then lanes - 2 ^ l else lanes | none => lanes) →
    ∃ t, exec (.trainingComplete p lanes rtt) s = .next t ∧
      t.fld FAB_PORT_STATUS.STATE p = (if s.fld FAB_NODE.NODE_ID 0 = 0 then 2 else 3) ∧
      t.fld FAB_PORT_STATUS.LANES p = (if 4 ≤ goodLanes used then 4 else 2) ∧ t.fld FAB_PORT_STATUS.RTT_NS p = rtt ∧
      t.fld FAB_PORT_STATUS.SPARE_USE p =
        match (List.range 4).find? fun i => !used.testBit i with | some b => if 4 ≤ goodLanes used then b else 7 | none => 7) ∧
  (∀ (s : State) (p : Nat), s.fld FAB_PORT_STATUS.STATE p = 1 → s.fld FAB_PORT_CTL.ENABLE p = 1 →
    ∃ t, exec (.trainingRetry p) s = .next t ∧ t.fld FAB_PORT_STATUS.LANES p = 0 ∧ t.fld FAB_PORT_STATUS.STATE p = 1) ∧
  (∀ (s : State) (p : Nat) (f g : Folio), s.linkUp p = true → f.typ = 1 → f.fecOk = true → s.openFolio p f = some g → g.seq = (s.port p).rxExp →
    g.nak = false ∨ (s.port p).resends < 8 →
    ∃ t, exec (.dataFolio p f) s = .next t ∧ (t.port p).rxExp = ((s.port p).rxExp + 1) % 4096) ∧
  (∀ (s : State) (p : Nat) (f : Folio), s.linkUp p = true → f.typ = 1 → f.fecOk = false ∨ s.openFolio p f = none →
    ∃ t, exec (.dataFolio p f) s = .next t ∧ (t.port p).rxExp = (s.port p).rxExp ∧ (t.port p).nakOut = true) ∧
  (∀ (s : State) (p i : Nat) (f g : Folio), s.linkUp p = true → f.typ = 0 → f.fecOk = true → s.openFolio p f = some g → g.nak = false →
    (s.port p).txq = [] → ((s.port p).replay.findIdx? fun h => h.seq == g.ack) = some i →
    ∃ t, exec (.idleFolio p f) s = .next t ∧ (t.port p).replay = (s.port p).replay.drop (i + 1) ∧ (t.port p).resends = 0) ∧
  (∀ (s : State) (p ack : Nat), s.linkUp p = true → ((s.port p).replay.findIdx? fun g => g.seq == ack) = none → (s.port p).replay ≠ [] →
    (s.port p).resends < 8 →
    ∃ t, exec (.folioNak p ack) s = .next t ∧ (t.port p).resends = (s.port p).resends + 1 ∧ t.fld FAB_PORT_STATUS.REPLAY p = 1) ∧
  (∀ (s : State) (p ack i : Nat), s.linkUp p = true → ((s.port p).replay.findIdx? fun g => g.seq == ack) = some i →
    i + 1 < (s.port p).replay.length →
    ∃ t, exec (.folioNak p ack) s = .next t ∧ (t.port p).resends = 1 ∧ t.fld FAB_PORT_STATUS.REPLAY p = 1) ∧
  (∀ (s : State) (p : Nat), s.linkUp p = true → (s.port p).nakOut = true → s.fld FAB_NODE.FREEZE 0 = 0 →
    ∃ t, exec (.nakRepeat p) s = .next t ∧ ∃ f, (t.port p).idle = some f ∧ f.nak = true ∧ f.ack = ((s.port p).rxExp + 4095) % 4096) ∧
  (∀ (s : State) (p : Nat), s.linkUp p = true → s.fld FAB_NODE.FREEZE 0 = 0 → (s.port p).replay ≠ [] → (s.port p).resends < 8 →
    ∃ t, exec (.replayTimeout p) s = .next t ∧ (t.port p).resends = (s.port p).resends + 1 ∧ t.fld FAB_PORT_STATUS.REPLAY p = 1) ∧
  (∀ (s : State) (p : Nat) (loss : Bool), s.linkUp p = true → loss = true ∨ 8 ≤ (s.port p).resends →
    ∃ t, exec (.linkDown p loss) s = .next t ∧ t.fld FAB_PORT_STATUS.STATE p = 1 ∧ t.fld FAB_PORT_STATUS.LANES p = 0 ∧
      t.fld FAB_PORT_STATUS.PEER_NODE p = 0) ∧
  (∀ (s : State) (p cls : Nat) (k : Pkt) (rest : List (Nat × Pkt)), (s.port p).rxq = (cls, k) :: rest → (opVl k.op).isSome = true →
    (∃ up, s.routeOf k.dst (decide (p < 8)) = some (none, up)) →
    ∃ t, exec (.switchForward p) s = .next t ∧ t.fabIn = s.fabIn ++ [(p, k)] ∧ (t.port p).rxq = rest) ∧
  (∀ (s : State) (p cls : Nat) (k : Pkt) (rest : List (Nat × Pkt)), (s.port p).rxq = (cls, k) :: rest → (opVl k.op).isSome = true →
    s.routeOf k.dst (decide (p < 8)) = none → k.unreachable = none →
    ∃ t, exec (.switchForward p) s = .next t ∧ s.recorded t 42 0xFF 2 0x404 k.dst ∧ (t.port p).rxq = rest) ∧
  (∀ (s : State) (p cls : Nat) (k : Pkt) (rest : List (Nat × Pkt)), (s.port p).rxq = (cls, k) :: rest → opVl k.op = none →
    ∃ t, exec (.switchForward p) s = .next t ∧ t.fabDropped = s.fabDropped + 1 ∧ (t.port p).rxq = rest)

/-- The commands of remote memory complete (R241 to R245): an aperture access is sent as its request, a request that an inbound window allows is
performed and answered, and a response ends the request that it answers. -/
def Obligations.RemoteMemoryComplete : Prop :=
  (∀ (s : State) (node tag ft dst addr : Nat), tag < 1024 → s.ioNext node tag = true → s.region (tget {} s.txns (node * 1024 + tag)).pa = .aperture →
    0 < (tget {} s.txns (node * 1024 + tag)).io.size → (tget {} s.txns (node * 1024 + tag)).io.size ≤ 64 →
    s.apertureAddr (tget {} s.txns (node * 1024 + tag)).pa (tget {} s.txns (node * 1024 + tag)).io.kind = some (dst, addr) →
    (tget {} s.txns (node * 1024 + tag)).io.kind ≠ 1 ∨ (tget {} s.txns (node * 1024 + tag)).io.ewa = false →
    s.fabTag = some ft → (∀ p, s.fabOut p < 1024) →
    ∃ t, exec (.apertureAccess node tag) s = .next t ∧ (tget {} t.txns (node * 1024 + tag)).io.taken = true ∧
      ∃ o, tget none t.fabRem ft = some o ∧ o.sent = true ∧
        o.pkt.op = (match (tget {} s.txns (node * 1024 + tag)).io.kind with | 0 => 2 | 1 => 1 | _ => 5) ∧ o.pkt.dst = dst ∧ o.pkt.addr = addr ∧ o.pkt.tag = ft ∧
        o.use = .core node tag (tget {} s.txns (node * 1024 + tag)).epoch) ∧
  (∀ (s : State) (node tag c dst addr : Nat), tag < 1024 → s.ioNext node tag = true → s.region (tget {} s.txns (node * 1024 + tag)).pa = .aperture →
    0 < (tget {} s.txns (node * 1024 + tag)).io.size → (tget {} s.txns (node * 1024 + tag)).io.size ≤ 64 →
    s.apertureAddr (tget {} s.txns (node * 1024 + tag)).pa 1 = some (dst, addr) → (tget {} s.txns (node * 1024 + tag)).io.kind = 1 →
    (tget {} s.txns (node * 1024 + tag)).io.ewa = true → (tget {} s.txns (node * 1024 + tag)).use = some (.devStore c true) →
    ∃ t, exec (.apertureAccess node tag) s = .next t ∧ (tget {} t.txns (node * 1024 + tag)).use = none) ∧
  (∀ (s : State) (node tag c : Nat) (x : Nat × Nat), tag < 1024 → s.ioNext node tag = true →
    s.region (tget {} s.txns (node * 1024 + tag)).pa = .aperture →
    0 < (tget {} s.txns (node * 1024 + tag)).io.size → (tget {} s.txns (node * 1024 + tag)).io.size ≤ 64 →
    s.apertureAddr (tget {} s.txns (node * 1024 + tag)).pa (tget {} s.txns (node * 1024 + tag)).io.kind = none →
    (tget {} s.txns (node * 1024 + tag)).use = some (.devLoad c) → (s.core c).devLoad = some x → x.1 = tag → (s.core c).group = none →
    ∃ t, exec (.apertureAccess node tag) s = .next t ∧ (t.core c).devAns = some (0, 3)) ∧
  (∀ (s u v : State) (p : Nat) (k : Pkt) (sec : Bool), s.takePkt 1 = some (p, k, u) → 8 < k.data.length → k.data.length ≤ 72 →
    u.inboundOk k (k.data.length - 8) FAB_INBOUND.WR = (some sec, v) → ((linesOf k.addr (k.data.length - 8)).all fun l => v.lineOk l) = true →
    exec .write s = .next (if k.flags % 2 = 1 then
        (v.maskedWrite k.addr (k.data.take (k.data.length - 8)) (ofLeBytes (k.data.drop (k.data.length - 8))) sec).inRsp k 4 0 []
      else v.maskedWrite k.addr (k.data.take (k.data.length - 8)) (ofLeBytes (k.data.drop (k.data.length - 8))) sec)) ∧
  (∀ (s u v : State) (p : Nat) (k : Pkt), s.takePkt 1 = some (p, k, u) → k.flags % 2 = 0 → 8 < k.data.length → k.data.length ≤ 72 →
    u.inboundOk k (k.data.length - 8) FAB_INBOUND.WR = (none, v) →
    ∃ t, exec .write s = .next t ∧ v.recorded t 42 0xFF 2 0x405 k.addr ∧ t.mem = v.mem) ∧
  (∀ (s u v w : State) (p : Nat) (k : Pkt) (sec : Bool) (bs : List Byte), s.takePkt 2 = some (p, k, u) → 0 < k.len → k.len ≤ 64 →
    u.inboundOk k k.len FAB_INBOUND.RD = (some sec, v) → v.dmaRead 24 k.addr k.len = (.ok bs, w) →
    exec .read s = .next (w.inRsp k 3 0 bs)) ∧
  (∀ (s u v w : State) (p n : Nat) (k : Pkt) (sec : Bool) (op : AmoOp) (bs : List Byte), s.takePkt 5 = some (p, k, u) →
    n = (if k.aux.testBit 8 then 8 else 4) →
    amoOf (k.aux % 32) = some op → u.inboundOk k n FAB_INBOUND.ATOM = (some sec, v) → k.addr % n = 0 → v.dmaRead 24 k.addr n = (.ok bs, w) →
    exec .atomic s = .next ((w.agentWriteBytes k.addr (leBytes n (amoResult op n (w.curNat k.addr n) k.operand)) sec).inRsp k 6 0
      (leBytes 8 (w.curNat k.addr n)))) ∧
  (∀ (s u : State) (p node tag c : Nat) (k : Pkt) (o : RemOp) (x : Nat × Nat), s.takePkt 3 = some (p, k, u) → tget none u.fabRem k.tag = some o →
    o.use = .core node tag (tget {} u.txns (node * 1024 + tag)).epoch → o.pkt.op = 2 → o.sent = true →
    (tget {} u.txns (node * 1024 + tag)).use = some (.devLoad c) → (u.core c).devLoad = some x → x.1 = tag →
    ∃ t, exec .readRsp s = .next t ∧ tget none t.fabRem k.tag = none ∧ (t.core c).devAns = some (ofLeBytes k.data, meshStatus k.status)) ∧
  (∀ (s u : State) (p node tag c : Nat) (k : Pkt) (o : RemOp), s.takePkt 4 = some (p, k, u) → tget none u.fabRem k.tag = some o →
    o.use = .core node tag (tget {} u.txns (node * 1024 + tag)).epoch → o.pkt.op = 1 → o.sent = true →
    (tget {} u.txns (node * 1024 + tag)).use = some (.devStore c false) →
    ∃ t, exec .writeAck s = .next t ∧ tget none t.fabRem k.tag = none ∧ (tget {} t.txns (node * 1024 + tag)).use = none) ∧
  (∀ (s u : State) (p node tag c : Nat) (k : Pkt) (o : RemOp) (x : Nat × Nat), s.takePkt 6 = some (p, k, u) → tget none u.fabRem k.tag = some o →
    o.use = .core node tag (tget {} u.txns (node * 1024 + tag)).epoch → o.pkt.op = 5 → o.sent = true →
    (tget {} u.txns (node * 1024 + tag)).use = some (.devLoad c) → (u.core c).devLoad = some x → x.1 = tag →
    ∃ t, exec .atomicRsp s = .next t ∧ tget none t.fabRem k.tag = none ∧ (t.core c).devAns = some (ofLeBytes k.data, meshStatus k.status)) ∧
  (∀ (s : State) (ft node tag c : Nat) (o : RemOp) (x : Nat × Nat), s.fld FAB_NODE.FREEZE 0 = 0 → tget none s.fabRem ft = some o →
    o.use = .core node tag (tget {} s.txns (node * 1024 + tag)).epoch → o.pkt.op ≠ 1 → o.sent = true →
    (tget {} s.txns (node * 1024 + tag)).use = some (.devLoad c) → (s.core c).devLoad = some x → x.1 = tag →
    ∃ t, exec (.remoteReadTimeout ft) s = .next t ∧ tget none t.fabRem ft = none ∧
      ((s.core c).group = none → (t.core c).devAns = some (0, 1)) ∧ ((s.port o.port).waiting = [] → s.recorded t 42 0xFF 2 0x406 o.pkt.addr)) ∧
  (∀ (s : State) (ft q ix : Nat) (o : RemOp), s.fld FAB_NODE.FREEZE 0 = 0 → tget none s.fabRem ft = some o → o.use = .msg q ix →
    ix = s.fld FAB_SQ_PTR.HEAD q → tget [] s.sqDone q = [] → s.fld FAB_SQ_CFG.VALID q = 0 →
    ∃ t, exec (.remoteReadTimeout ft) s = .next t ∧ tget none t.fabRem ft = none ∧ t.fld FAB_SQ_PTR.HEAD q = (ix + 1) % 65536)

/-- The message rings and time complete (R246 to R250): a message goes into its ring's next slot, a response moves HEAD over its descriptor,
software's pointers are taken, and TIME_SYNC, its request and its answer give the link delay and correct DTIME. -/
def Obligations.MessagesAndTimeComplete : Prop :=
  (∀ (s u w v : State) (p r : Nat) (k : Pkt), s.takePkt 7 = some (p, k, u) → k.aux % 256 = r → u.fld FAB_RXRING_CFG.VALID r = 1 →
    u.fld FAB_RXRING_CFG.SRC_NODE r = 0 ∨ u.fld FAB_RXRING_CFG.SRC_NODE r = k.src →
    u.dramIs 25 (u.fld FAB_RXRING_CFG.BASE r * 4096) (2 ^ u.fld FAB_RXRING_CFG.SLOT_LOG2 r * 2 ^ u.fld FAB_RXRING_CFG.COUNT_LOG2 r) false
      (u.fld FAB_RXRING_CFG.PARTITION r) = (true, w) →
    k.data.length ≤ 2 ^ u.fld FAB_RXRING_CFG.SLOT_LOG2 r - 16 →
    (u.fld FAB_RXRING_PTR.PRODUCER r + 65536 - u.fld FAB_RXRING_PTR.CONSUMER r) % 65536 ≠ 2 ^ u.fld FAB_RXRING_CFG.COUNT_LOG2 r →
    w.dmaWrite (u.fld FAB_RXRING_CFG.BASE r * 4096 + u.fld FAB_RXRING_PTR.PRODUCER r % 2 ^ u.fld FAB_RXRING_CFG.COUNT_LOG2 r * 2 ^ u.fld FAB_RXRING_CFG.SLOT_LOG2 r)
      (leBytes 2 k.src ++ leBytes 2 k.data.length ++ leBytes 4 0 ++ leBytes 8 u.dtime ++ k.data) false = some v →
    ∃ t, exec .msg s = .next t ∧ t.fld FAB_RXRING_PTR.PRODUCER r = (u.fld FAB_RXRING_PTR.PRODUCER r + 1) % 65536) ∧
  (∀ (s u : State) (p q ix : Nat) (k : Pkt) (o : RemOp), s.takePkt 8 = some (p, k, u) → tget none u.fabRem k.tag = some o → o.use = .msg q ix →
    ix = u.fld FAB_SQ_PTR.HEAD q → tget [] u.sqDone q = [] → u.fld FAB_SQ_CFG.VALID q = 0 →
    ∃ t, exec .msgRsp s = .next t ∧ t.fld FAB_SQ_PTR.HEAD q = (ix + 1) % 65536 ∧ tget none t.fabRem k.tag = none) ∧
  (∀ (s : State) (ag : Agent) (q : Nat) (w : W), s.gate ag .FAB_SQ_PTR q (some w) = .pass → regAbsent .FAB_SQ_PTR q = false →
    ∃ t, exec (.tail ag q w) s = .next t ∧ t.fld FAB_SQ_PTR.TAIL q = (s.regWrite .FAB_SQ_PTR q w).fld FAB_SQ_PTR.TAIL q ∧ t.rsp = { data := 0, status := 0 }) ∧
  (∀ (s : State) (ag : Agent) (r : Nat) (w : W), s.gate ag .FAB_RXRING_PTR r (some w) = .pass → regAbsent .FAB_RXRING_PTR r = false →
    ∃ t, exec (.consumer ag r w) s = .next t ∧ t.fld FAB_RXRING_PTR.CONSUMER r = (s.regWrite .FAB_RXRING_PTR r w).fld FAB_RXRING_PTR.CONSUMER r ∧
      t.rsp = { data := 0, status := 0 }) ∧
  (∀ (s u : State) (p : Nat) (k : Pkt), s.takePkt 0x20 = some (p, k, u) → u.upstream p = true → u.dtime + 50000 < k.operand + (u.port p).delay →
    ∃ t, exec .timeSync s = .next t ∧ t.dtime = k.operand + (u.port p).delay ∧ (t.port p).syncT1 = k.operand ∧ (t.port p).syncT2 = u.dtime) ∧
  (∀ (s u : State) (p : Nat) (k : Pkt), s.takePkt 0x20 = some (p, k, u) → u.upstream p = true → k.operand + (u.port p).delay ≤ u.dtime + 50000 →
    ∃ t, exec .timeSync s = .next t ∧ t.dtime = u.dtime ∧ t.slew = ((k.operand + (u.port p).delay : Nat) : Int) - (u.dtime : Int)) ∧
  (∀ (s : State) (p : Nat), s.fld FAB_PORT_STATUS.STATE p = 4 → s.fld FAB_PORT_CTL.TIME_ROLE p = 2 → p < 8 →
    exec (.timeSyncInterval p) s = .next (s.linkLocal p { op := 0x20, operand := s.dtime % 2 ^ 64 }).timeRoles) ∧
  (∀ (s u : State) (p : Nat) (k : Pkt), s.takePkt 0x21 = some (p, k, u) → p < 8 → u.fld FAB_PORT_CTL.TIME_ROLE p = 2 →
    exec .timeDelayReq s = .next (u.linkLocal p { op := 0x22, len := 8, data := leBytes 8 u.dtime })) ∧
  (∀ (s u : State) (p : Nat) (k : Pkt), s.takePkt 0x22 = some (p, k, u) → u.upstream p = true →
    ∃ t, exec .timeDelayRsp s = .next t ∧
      (t.port p).delay = ((u.port p).syncT2 + ofLeBytes k.data - ((u.port p).syncT1 + (u.port p).reqT3)) / 2)

/-- The commands on DRAM channels complete (R283, R286, R289, R294, R299, R301, R302): training gives a channel its settings, the map and the
error counts take their writes, refreshes, calibration and temperatures are noted, self-refresh is entered and left, and a channel that fails
or whose commands fail leaves service with its record. -/
def Obligations.ChannelsComplete : Prop :=
  (∀ (s : State) (ch : Nat) (pop : DimmPop), ch < 16 → s.bootStep < 8 → s.fld MCT_CH_STATUS.STATE ch = 0 →
    ch = 0 ∨ (∃ p, (s.chan 0).pop = some p ∧ p.populated = true ∧ p.config = pop.config ∧ p.dpc = pop.dpc ∧ p.ranks = pop.ranks ∧ p.rankGib = pop.rankGib) →
    pop.populated = true → dimmFits pop = true → pop.failed = 0 → pop.speed < 8 →
    ∃ t, exec (.channelTraining ch pop) s = .next t ∧ t.fld MCT_CH_STATUS.STATE ch = 2 ∧ t.fld MCT_CH_STATUS.DPC ch = pop.dpc ∧
      t.fld MCT_CH_STATUS.RANKS ch = pop.ranks ∧ t.fld MCT_CH_STATUS.SPEED ch = pop.speed ∧
      t.fld MCT_CH_STATUS.CAP_GIB ch = (pop.ranks - (if s.opt.spare && decide (1 < pop.ranks) then 1 else 0)) * pop.rankGib) ∧
  (∀ (s : State) (ch : Nat) (pop : DimmPop), ch < 16 → s.bootStep < 8 → s.fld MCT_CH_STATUS.STATE ch = 0 → ch = 0 ∨ (s.chan 0).pop.isSome = true →
    pop.populated = true → dimmFits pop = false →
    ∃ t, exec (.channelTraining ch pop) s = .next t ∧ t.fld MCT_CH_STATUS.STATE ch = 0 ∧ s.recorded t (chNode ch) ch 1 0x507 0) ∧
  (∀ (s : State) (ch : Nat) (pop : DimmPop), ch < 16 → s.bootStep < 8 → s.fld MCT_CH_STATUS.STATE ch = 0 →
    ch = 0 ∨ (∃ p, (s.chan 0).pop = some p ∧ p.populated = true ∧ p.config = pop.config ∧ p.dpc = pop.dpc ∧ p.ranks = pop.ranks ∧ p.rankGib = pop.rankGib) →
    pop.populated = true → dimmFits pop = true → pop.failed ≠ 0 →
    ∃ t, exec (.channelTraining ch pop) s = .next t ∧ t.fld MCT_CH_STATUS.STATE ch = 0 ∧ s.recorded t (chNode ch) ch 1 0x507 pop.failed) ∧
  (∀ (s : State) (ag : Agent) (n : Nat) (w : W), s.gate ag .MCT_DECODE n (some w) = .pass → regAbsent .MCT_DECODE n = false →
    ∃ t, exec (.mctDecodeWrite ag n w) s = .next t ∧ t.rd .MCT_DECODE n = (s.regWrite .MCT_DECODE n w).rd .MCT_DECODE n ∧
      t.rsp = { data := 0, status := 0 }) ∧
  (∀ (s : State) (ag : Agent) (ch : Nat) (w : W), s.gate ag .MCT_ECC_COUNT ch (some w) = .pass → regAbsent .MCT_ECC_COUNT ch = false →
    bit w 15 = true →
    ∃ t, exec (.eccCountClear ag ch w) s = .next t ∧ t.fld MCT_ECC_COUNT.UNCORRECTED ch = 0 ∧ t.fld MCT_ECC_COUNT.CORRECTED ch = 0 ∧
      t.rsp = { data := 0, status := 0 }) ∧
  (∀ (s : State) (ch rank : Nat), ch < 16 → s.fld MCT_CH_STATUS.STATE ch = 2 → tget 0 (s.chan ch).postponed rank < 8 →
    (s.chan ch).reads ≠ [] ∨ (s.chan ch).writes ≠ [] →
    ∃ t, exec (.refresh ch rank true) s = .next t ∧ tget 0 (t.chan ch).postponed rank = tget 0 (s.chan ch).postponed rank + 1) ∧
  (∀ (s : State) (ch rank : Nat) (b : Bool), ch < 16 → s.fld MCT_CH_STATUS.STATE ch = 2 →
    b = false ∨ 8 ≤ tget 0 (s.chan ch).postponed rank ∨ ((s.chan ch).reads = [] ∧ (s.chan ch).writes = []) →
    ∃ t, exec (.refresh ch rank b) s = .next t ∧ tget 0 (t.chan ch).postponed rank = 0) ∧
  (∀ (s : State) (ch rank : Nat), ch < 16 → s.fld MCT_CH_STATUS.STATE ch = 2 →
    ∃ t, exec (.zqcs ch rank) s = .next t ∧ tget 0 (t.chan ch).postponed rank = 0) ∧
  (∀ (s : State) (ch dimm temp : Nat), ch < 16 →
    ∃ t, exec (.dimmTemperature ch dimm temp) s = .next t ∧ tget false (t.chan ch).hot (dimm % 2) = decide (85 < temp) ∧
      (95 < temp → tget false (t.chan ch).slow (dimm % 2) = true) ∧ (temp < 90 → tget false (t.chan ch).slow (dimm % 2) = false) ∧
      (90 ≤ temp → temp ≤ 95 → tget false (t.chan ch).slow (dimm % 2) = tget false (s.chan ch).slow (dimm % 2))) ∧
  (∀ (s : State) (ch : Nat), ch < 16 → s.fld MCT_CH_STATUS.STATE ch = 2 → (s.chan ch).reads = [] →
    ∃ t, exec (.selfRefreshEntry ch) s = .next t ∧ t.fld MCT_CH_STATUS.STATE ch = 3 ∧ (t.chan ch).writes = []) ∧
  (∀ (s : State) (ch : Nat), ch < 16 → s.fld MCT_CH_STATUS.STATE ch = 3 →
    exec (.selfRefreshExit ch) s = .next (s.setFld MCT_CH_STATUS.STATE ch 2)) ∧
  (∀ (s : State) (ch : Nat), ch < 16 → s.fld MCT_CH_STATUS.STATE ch = 2 → (s.chan ch).parity < 4 →
    ∃ t, exec (.caParityFailure ch) s = .next t ∧ (t.chan ch).parity = (s.chan ch).parity + 1 ∧ t.fld MCT_CH_STATUS.STATE ch = 2) ∧
  (∀ (s : State) (ch : Nat), ch < 16 → s.fld MCT_CH_STATUS.STATE ch = 2 → 4 ≤ (s.chan ch).parity →
    ∃ t, exec (.caParityFailure ch) s = .next t ∧ t.fld MCT_CH_STATUS.STATE ch = 4 ∧ s.recorded t (chNode ch) ch 3 0x506 ch) ∧
  (∀ (s : State) (ch : Nat), ch < 16 → s.fld MCT_CH_STATUS.STATE ch = 2 ∨ s.fld MCT_CH_STATUS.STATE ch = 3 →
    ∃ t, exec (.channelLost ch) s = .next t ∧ t.fld MCT_CH_STATUS.STATE ch = 4 ∧ (t.chan ch).reads = [] ∧ (t.chan ch).writes = [] ∧
      s.recorded t (chNode ch) ch 3 0x506 ch)

/-- The commands on DRAM data complete (R290 to R297, R300, R303, R304): a read queues or is served from the write queue, a write's data is in
DRAM from its acceptance on, a burst returns its line, an error that neither the code nor a mirror corrects poisons it and is recorded, a
device is erased, a row repaired and a rank spared, and the patrol goes on to its next line. -/
def Obligations.DramDataComplete : Prop :=
  (∀ (s : State) (line cls part ch : Nat) (b : Bool), s.readCh line = some ch →
    ((s.chan ch).writes.any fun q => q.line == line) = false → (s.chan ch).reads.length < 128 →
    ∃ t, exec (.mcRead line cls part b) s = .next t ∧ (t.chan ch).reads = (s.chan ch).reads ++
      [{ line := line, cls := cls % 4, part := part % 16, bucket := b, at_ := s.dtime }]) ∧
  (∀ (s : State) (line cls part ch : Nat) (b : Bool), s.readCh line = some ch →
    ((s.chan ch).writes.any fun q => q.line == line) = true →
    ∃ t, exec (.mcRead line cls part b) s = .next t ∧
      t.mcRsp = { line := line, data := (s.dramLine line).data, poison := (s.dramLine line).poison, status := 0 }) ∧
  (∀ (s : State) (line cls part : Nat) (b : Bool), s.readCh line = none →
    ∃ t, exec (.mcRead line cls part b) s = .next t ∧ t.mcRsp.line = line ∧ t.mcRsp.status = s.memStatus line) ∧
  (∀ (s : State) (line cls part ch ca mask : Nat) (ch2 : Option Nat) (data : BitVec 512) (poison bk : Bool) (b pb : Burst),
    s.place (line * 64) = some (ch, ch2, ca) → (∃ c ∈ ch :: ch2.toList, s.chServes c = true) →
    (∀ c ∈ ch :: ch2.toList, s.chServes c = true → (s.chan c).writes.length < 96) → mask % 2 ^ 64 = 2 ^ 64 - 1 ∨ b.err = 0 →
    ∃ t, exec (.mcWrite line data mask poison cls part bk b pb) s = .next t ∧
      t.mem = memSetBytes s.mem (line * 64)
        (leBytes 64 (if mask % 2 ^ 64 = 2 ^ 64 - 1 then data else lineMerge (s.dramLine line).data data mask).toNat) ∧
      tget false t.memPoison line = (poison || (mask % 2 ^ 64 != 2 ^ 64 - 1 && tget false s.memPoison line)) ∧
      t.mcRsp.line = line ∧ t.mcRsp.status = 0) ∧
  (∀ (s : State) (line cls part mask : Nat) (data : BitVec 512) (poison bk : Bool) (b pb : Burst),
    (∀ ch ch2 ca, s.place (line * 64) = some (ch, ch2, ca) → ∀ c ∈ ch :: ch2.toList, s.chServes c = false) →
    ∃ t, exec (.mcWrite line data mask poison cls part bk b pb) s = .next t ∧ t.mem = s.mem ∧ t.mcRsp.line = line ∧ t.mcRsp.status = s.memStatus line) ∧
  (∀ (s : State) (ch i : Nat) (hits : List Nat) (q : McReq) (b pb : Burst), s.mcPick ch (s.chan ch).reads hits = some i →
    (s.chan ch).reads[i]? = some q → b.err = 0 →
    ∃ t, exec (.dramReadComplete ch hits b pb) s = .next t ∧ (t.chan ch).reads = (s.chan ch).reads.eraseIdx i ∧
      t.mcRsp = { line := q.line, data := (s.dramLine q.line).data, poison := tget false s.memPoison q.line, status := 0 }) ∧
  (∀ (s : State) (ch i : Nat) (hits : List Nat) (q : McReq) (b pb : Burst), s.mcPick ch (s.chan ch).reads hits = some i →
    (s.chan ch).reads[i]? = some q →
    b.err = 2 → s.fld MCT_CH_STATUS.ERASED_DEV ch = 31 → tget false s.memPoison q.line = false → s.partner ch q.line = none →
    ∃ t, exec (.dramReadComplete ch hits b pb) s = .next t ∧ (t.chan ch).reads = (s.chan ch).reads.eraseIdx i ∧ t.mcRsp.poison = true ∧ tget false t.memPoison q.line = true ∧
      s.recorded t (chNode ch) ch 2 0x501 (q.line * 64)) ∧
  (∀ (s : State) (ch rank dev : Nat), ch < 16 → rank < 16 → dev < 18 → s.fld MCT_CH_STATUS.STATE ch = 2 → s.fld MCT_CH_STATUS.ERASED_DEV ch = 31 →
    s.pfw = false → (4, ch, rank * 32 + dev) ∈ s.mac.due →
    ∃ t, exec (.deviceErased ch rank dev) s = .next t ∧ t.fld MCT_CH_STATUS.ERASED_DEV ch = dev ∧ t.fld MCT_CH_STATUS.ERASED_RANK ch = rank ∧
      s.recorded t (chNode ch) ch 1 0x502 (rank * 32 + dev) ∧
      (s.fld MCT_CH_STATUS.SPARE ch = 1 → t.fld MCT_CH_STATUS.SPARE ch = 2 ∧ (t.chan ch).copyRank = rank)) ∧
  (∀ (s : State) (ch line place : Nat), ch < 16 → s.fld MCT_CH_STATUS.STATE ch = 2 → s.pfw = false → (3, ch, place) ∈ s.mac.due →
    ∃ t, exec (.pprApplied ch line place) s = .next t ∧ t.fld MCT_CH_STATUS.PPR_USED ch = Nat.min 255 (s.fld MCT_CH_STATUS.PPR_USED ch + 1) ∧
      (t.chan ch).ppr = (s.chan ch).ppr ++ [place / 2 ^ 20] ∧ s.recorded t (chNode ch) ch 0 0x503 (line * 64)) ∧
  (∀ (s : State) (ch rank : Nat), ch < 16 → s.fld MCT_CH_STATUS.STATE ch = 2 → s.fld MCT_CH_STATUS.SPARE ch = 1 →
    ∃ t, exec (.rankSpared ch rank) s = .next t ∧ t.fld MCT_CH_STATUS.SPARE ch = 2 ∧ (t.chan ch).copyRank = rank) ∧
  (∀ (s : State) (ch : Nat), ch < 16 → s.fld MCT_CH_STATUS.SPARE ch = 2 →
    ∃ t, exec (.rankCopyDone ch) s = .next t ∧ t.fld MCT_CH_STATUS.SPARE ch = 3 ∧ s.recorded t (chNode ch) ch 0 0x504 (s.chan ch).copyRank ∧
      (s.fld MCT_CH_STATUS.ERASED_RANK ch = (s.chan ch).copyRank → t.fld MCT_CH_STATUS.ERASED_DEV ch = 31 ∧ t.fld MCT_CH_STATUS.ERASED_RANK ch = 31)) ∧
  (∀ (s : State) (ch : Nat) (b pb : Burst), ch < 16 → s.fld MCT_SCRUB.EN ch = 1 → s.fld MCT_CH_STATUS.STATE ch = 2 → b.err = 0 →
    (s.chan ch).scrub + 1 < s.fld MCT_CH_STATUS.CAP_GIB ch * 2 ^ 24 →
    ∃ t, exec (.patrolScrub ch b pb) s = .next t ∧ (t.chan ch).scrub = (s.chan ch).scrub + 1) ∧
  (∀ (s : State) (ch : Nat) (b pb : Burst), ch < 16 → s.fld MCT_SCRUB.EN ch = 1 → s.fld MCT_CH_STATUS.STATE ch = 2 → b.err = 0 →
    s.fld MCT_CH_STATUS.CAP_GIB ch * 2 ^ 24 ≤ (s.chan ch).scrub + 1 →
    ∃ t, exec (.patrolScrub ch b pb) s = .next t ∧ (t.chan ch).scrub = 0 ∧ s.fld MCT_SCRUB.PASSES ch ≤ t.fld MCT_SCRUB.PASSES ch) ∧
  (∀ (s : State) (ch line : Nat) (b pb : Burst), ch < 16 → s.fld MCT_SCRUB.EN ch = 1 → s.fld MCT_CH_STATUS.STATE ch = 2 → b.err = 2 →
    s.fld MCT_CH_STATUS.ERASED_DEV ch = 31 → s.chLine ch ((s.chan ch).scrub * 64) = some line → tget false s.memPoison line = false →
    s.partner ch line = none → (s.chan ch).scrub + 1 < s.fld MCT_CH_STATUS.CAP_GIB ch * 2 ^ 24 →
    ∃ t, exec (.patrolScrub ch b pb) s = .next t ∧ (t.chan ch).scrub = (s.chan ch).scrub + 1 ∧ tget false t.memPoison line = true ∧
      s.recorded t (chNode ch) ch 1 0x508 (line * 64))

/-- The PCIe and IOMMU commands complete (R310, R312 to R315, R317, R319, R323, R325): a core's read goes out under the lowest free tag and its
completion or its timeout answers it, a posted write is answered at once, ports report their links and errors, a device's requests that the
IOMMU lets through reach memory and the event router and one of no FAT entry is recorded, and IOMMU_INVAL drops what its CMD names. -/
def Obligations.PcieComplete : Prop :=
  (∀ (s : State) (node tag p g c o : Nat) (b cfg : Bool) (x : Txn), x = tget {} s.txns (node * 1024 + tag) → c = x.pa / 2 ^ 40 - 16 →
    cfg = s.isEcam x.pa → o = (if cfg then x.pa % 2 ^ 40 % 0x10000000 else x.pa % 2 ^ 40) →
    s.region x.pa = .pcie → s.widthOk x.pa x.io.size = true → x.io.kind ≠ 2 → (x.io.kind ≠ 1 ∨ cfg = true) → (cfg = true → 2 ^ 20 ≤ o) →
    s.lidState (pcieNode c) 0 = 0 → s.portUp c p = true → s.pcieTag c p b = some g → s.ioNext node tag = true → p < 4 →
    ∃ u, exec (.pcieOutboundRequest node tag p b) s = .next u ∧ (tget {} u.txns (node * 1024 + tag)).io.taken = true ∧
      tget none u.pcieTags (c * 1024 + g) =
        some { use := .core node tag x.epoch, port := p, cfg := cfg, write := x.io.kind == 1, size := x.io.size, pa := x.pa, secure := x.io.secure, part := x.io.part } ∧
      (tget {} u.pcieOut c).kind = (if cfg then (if x.io.kind = 1 then 3 else 2) else 0) ∧ (tget {} u.pcieOut c).addr = o ∧
      (tget {} u.pcieOut c).tag = g ∧ (tget {} u.pcieOut c).size = x.io.size) ∧
  (∀ (s : State) (node tag p k c : Nat) (b e : Bool) (x : Txn), x = tget {} s.txns (node * 1024 + tag) → c = x.pa / 2 ^ 40 - 16 →
    s.region x.pa = .pcie → s.isEcam x.pa = false → x.io.kind = 1 → x.use = some (.devStore k e) → s.lidState (pcieNode c) 0 = 0 →
    s.portUp c p = true → s.ioNext node tag = true → p < 4 →
    ∃ u, exec (.pcieOutboundRequest node tag p b) s = .next u ∧ (tget {} u.txns (node * 1024 + tag)).use = none ∧
      (tget {} u.pcieOut c).kind = 1 ∧ (tget {} u.pcieOut c).addr = x.pa % 2 ^ 40 ∧ (tget {} u.pcieOut c).data = x.io.data) ∧
  (∀ (s : State) (node tag p k c : Nat) (b : Bool) (x : Txn) (d : Nat × Nat), x = tget {} s.txns (node * 1024 + tag) → c = x.pa / 2 ^ 40 - 16 →
    s.region x.pa = .pcie → s.widthOk x.pa x.io.size = true → x.io.kind = 0 → x.use = some (.devLoad k) → (s.core k).devLoad = some d → d.1 = tag →
    s.lidState (pcieNode c) 0 = 0 → s.ioNext node tag = true → p < 4 →
    (s.isEcam x.pa = true ∧ x.pa % 0x10000000 < 2 ^ 20) ∨ s.portUp c p = false →
    ∃ u v, exec (.pcieOutboundRequest node tag p b) s = .next u ∧ (u.core k).devAns = some (v, if s.isEcam x.pa then 0 else 4)) ∧
  (∀ (s : State) (c tag st data node tg k : Nat) (b : Bool) (r : PcieTag) (x : Nat × Nat), c < 4 →
    tget none s.pcieTags (c * 1024 + tag % 1024) = some r →
    r.use = .core node tg (tget {} s.txns (node * 1024 + tg)).epoch → (tget {} s.txns (node * 1024 + tg)).use = some (.devLoad k) →
    (s.core k).devLoad = some x → x.1 = tg →
    ∃ t, exec (.pcieCompletion c tag st data b) s = .next t ∧ tget none t.pcieTags (c * 1024 + tag % 1024) = none ∧
      (t.core k).devAns = some (
        if r.cfg = true ∧ st = 1 then (if r.write then 0 else 2 ^ (8 * r.size) - 1, 0)
        else if st ≠ 0 ∨ b = true then (0, 4) else (data % 2 ^ (8 * r.size), 0))) ∧
  (∀ (s : State) (c tag st data : Nat) (b : Bool), c < 4 → tget none s.pcieTags (c * 1024 + tag % 1024) = none →
    ∃ t, exec (.pcieCompletion c tag st data b) s = .next t ∧ tget 0 t.pcieLate c = tget 0 s.pcieLate c + 1) ∧
  (∀ (s : State) (c tag node tg k : Nat) (r : PcieTag) (x : Nat × Nat), c < 4 → r.port < 4 → tget none s.pcieTags (c * 1024 + tag % 1024) = some r →
    r.use = .core node tg (tget {} s.txns (node * 1024 + tg)).epoch → (tget {} s.txns (node * 1024 + tg)).use = some (.devLoad k) →
    (s.core k).devLoad = some x → x.1 = tg →
    ∃ t, exec (.pcieCplTimeout c tag) s = .next t ∧ tget none t.pcieTags (c * 1024 + tag % 1024) = none ∧
      t.fld PCIE_PORT_STATUS.CPL_TIMEOUT (portIx c r.port) = 1 ∧ s.recorded t (pcieNode c) r.port 2 0x602 r.pa ∧
      (s.noGroups → s.fld ERC_RING_CFG.EN 0 = 0 → (t.core k).devAns = some (0, 1))) ∧
  (∀ (s : State) (c p width speed ltssm : Nat) (b : Bool), c < 4 → s.portWidth c p ≠ 0 → s.fld PCIE_CTL.EN c = 1 → ltssm < 32 →
    ∃ t, exec (.pcieLinkDown c p true width speed ltssm b) s = .next t ∧ t.fld PCIE_PORT_STATUS.LINK_UP (portIx c p) = 1 ∧
      t.fld PCIE_PORT_STATUS.WIDTH (portIx c p) = Nat.min width (s.portWidth c p) ∧
      t.fld PCIE_PORT_STATUS.SPEED (portIx c p) = Nat.min speed (s.fld PCIE_CTL.MAX_SPEED c) ∧ t.fld PCIE_PORT_STATUS.LTSSM (portIx c p) = ltssm) ∧
  (∀ (s : State) (c p width speed ltssm : Nat) (b : Bool), c < 4 → s.portWidth c p ≠ 0 → s.fld PCIE_CTL.EN c = 1 →
    ∃ t, exec (.pcieLinkDown c p false width speed ltssm b) s = .next t ∧ t.fld PCIE_PORT_STATUS.LINK_UP (portIx c p) = 0 ∧
      t.fld PCIE_PORT_STATUS.WIDTH (portIx c p) = 0 ∧ t.fld PCIE_PORT_STATUS.SURPRISE_DOWN (portIx c p) =
        (if b then 1 else s.fld PCIE_PORT_STATUS.SURPRISE_DOWN (portIx c p)) ∧ s.recorded t (pcieNode c) p 2 0x603 p) ∧
  (∀ (s : State) (c p sev : Nat), c < 4 → s.portWidth c p ≠ 0 → sev < 3 →
    ∃ t, exec (.pcieAer c p sev) s = .next t ∧ t.fld PCIE_PORT_STATUS.AER (portIx c p) = 1 ∧
      s.recorded t (pcieNode c) p (if sev = 0 then 0 else 2) (if sev = 0 then 0x600 else 0x601) p) ∧
  (∀ (s : State) (ag : Agent) (c p : Nat) (w : W), c < 4 → p < 4 → s.gate ag .PCIE_PORT_CFG (portIx c p) (some w) = .pass →
    regAbsent .PCIE_PORT_CFG (portIx c p) = false →
    ∃ t, exec (.perstRel ag c p w) s = .next t ∧ t.rd .PCIE_PORT_CFG (portIx c p) = (s.regWrite .PCIE_PORT_CFG (portIx c p) w).rd .PCIE_PORT_CFG (portIx c p) ∧
      t.rsp = { data := 0, status := 0 }) ∧
  (∀ (s : State) (c p : Nat), c < 4 → p < 4 →
    ∃ t, exec (.secondaryBusResetEnd c p) s = .next t ∧ tget false t.portReset (portIx c p) = false)

/-- The IOMMU's commands complete (R315, R317, R319, R325): a device's requests that it lets through reach memory and the event router, one of
no FAT entry is recorded and completed as unsupported, and IOMMU_INVAL drops what its CMD names until the command is done. -/
def Obligations.IommuComplete : Prop :=
  (∀ (s s1 s3 s4 s5 : State) (c p rid addr len e pa q : Nat) (ds : List Byte) (ctx : IoCtx) (b2 b : Bool), ds.length ≤ 512 →
    s.takesInbound c p rid addr ds.length q b2 → s.fatMatch c q = some e →
    s.inbReset (s.fld IOMMU_FAT_MATCH.PARTITION e) = false → s.ioContext c q e = (.ok ctx, s1) → ctx.valid = true → addr / 4096 ≠ ctx.msi →
    (s1.count (cuPcie c) 0x03 (some (s.fld IOMMU_FAT_MATCH.PARTITION e)) 1).ioXlat ctx true addr = (.ok pa, s3) → s3.region pa = .dram →
    s3.ioMay ctx pa ds.length = (true, s4) → s4.dmaWrite pa ds ctx.secure = some s5 →
    exec (.pcieInboundRequest c p rid true addr len ds false b2 b) s = .next s5) ∧
  (∀ (s s1 s3 s4 s5 : State) (c p rid addr len e pa q : Nat) (data ds : List Byte) (ctx : IoCtx) (b2 b : Bool),
    s.takesInbound c p rid addr len q b2 → s.fatMatch c q = some e →
    s.inbReset (s.fld IOMMU_FAT_MATCH.PARTITION e) = false → s.ioContext c q e = (.ok ctx, s1) → ctx.valid = true →
    (s1.count (cuPcie c) 0x03 (some (s.fld IOMMU_FAT_MATCH.PARTITION e)) 1).ioXlat ctx false addr = (.ok pa, s3) → s3.region pa = .dram →
    s3.ioMay ctx pa len = (true, s4) → s4.dmaRead 27 pa len = (.ok ds, s5) →
    ∃ t, exec (.pcieInboundRequest c p rid false addr len data false b2 b) s = .next t ∧
      tget {} t.pcieCpl c = { port := p, rid := q, status := 0, data := ds }) ∧
  (∀ (s s1 s4 : State) (c p rid addr len e q : Nat) (ds : List Byte) (ctx : IoCtx) (b2 b : Bool), ds.length = 4 →
    s.takesInbound c p rid addr 4 q b2 → s.fatMatch c q = some e →
    s.inbReset (s.fld IOMMU_FAT_MATCH.PARTITION e) = false → s.ioContext c q e = (.ok ctx, s1) → ctx.valid = true → addr / 4096 = ctx.msi →
    ofLeBytes ds < 2 ^ 11 → ctx.irtLog2 ≤ 11 → ofLeBytes ds < 2 ^ ctx.irtLog2 →
    (s1.count (cuPcie c) 0x03 (some (s.fld IOMMU_FAT_MATCH.PARTITION e)) 1).ioMay ctx (ctx.irt + 8 * ofLeBytes ds) 8 = (true, s4) →
    (let u := s4.agentRead ((ctx.irt + 8 * ofLeBytes ds) / 64)
     let w : W := BitVec.ofNat 64 (u.curNat (ctx.irt + 8 * ofLeBytes ds) 8)
     bit w 63 = true → field w 22 16 < 96 → u.ownsHart ctx.part (field w 22 16) = true → ctx.secure = false ∨ field w 11 8 = 0 →
     exec (.pcieInboundRequest c p rid true addr len ds false b2 b) s = .next (
       if ctx.secure then u.message (field w 22 16) 16 (field w 7 0)
       else u.message (field w 22 16) (field w 11 8) (Nat.max 64 (field w 7 0))))) ∧
  (∀ (s s1 s3 : State) (c p rid addr len e k a q : Nat) (data : List Byte) (ctx : IoCtx) (b2 b : Bool),
    s.takesInbound c p rid addr len q b2 → s.fatMatch c q = some e →
    s.inbReset (s.fld IOMMU_FAT_MATCH.PARTITION e) = false → s.ioContext c q e = (.ok ctx, s1) → ctx.valid = true →
    (s1.count (cuPcie c) 0x03 (some (s.fld IOMMU_FAT_MATCH.PARTITION e)) 1).ioXlat ctx false addr = (.fault k a, s3) →
    ∃ t, exec (.pcieInboundRequest c p rid false addr len data false b2 b) s = .next t ∧
      tget {} t.pcieCpl c = { port := p, rid := q, status := 2, data := [] } ∧ s3.recorded t 46 c 2 (if k = 1 then 0x611 else 0x612) a) ∧
  (∀ (s : State) (c p rid addr len q : Nat) (data : List Byte) (b2 b : Bool), s.takesInbound c p rid addr len q b2 → s.fatMatch c q = none →
    ∃ t, exec (.pcieInboundRequest c p rid false addr len data false b2 b) s = .next t ∧
      tget {} t.pcieCpl c = { port := p, rid := q, status := 1, data := [] } ∧ s.recorded t 46 c 2 0x610 q) ∧
  (∀ (s : State) (c p rid addr len q : Nat) (data : List Byte) (b2 b : Bool), s.takesInbound c p rid addr len q b2 →
    ∃ t, exec (.pcieInboundRequest c p rid false addr len data true b2 b) s = .next t ∧
      tget {} t.pcieCpl c = { port := p, rid := q, status := 1, data := [] }) ∧
  (∀ (s : State) (c p rid addr len : Nat) (data : List Byte) (b : Bool), s.takesInbound c p rid addr len 0 false → s.fld PCIE_CTL.MODE c = 1 →
    ∃ t, exec (.pcieInboundRequest c p rid false addr len data false true b) s = .next t ∧
      tget {} t.pcieCpl c = { port := p, rid := 0, status := 0, data := (List.range len).map fun i => s.rcvByte (addr % 65536 + i) }) ∧
  (∀ (s : State) (ag : Agent) (part : Nat) (w : W), part < 16 → s.gate ag .IOMMU_INVAL part (some w) = .pass → regAbsent .IOMMU_INVAL part = false →
    s.fld IOMMU_INVAL.BUSY part = 0 → field w 2 0 = 1 →
    ∃ t, exec (.invalPartition ag part w) s = .next t ∧ t.ctxCache = s.ctxCache.filter (fun x => x.part ≠ part) ∧
      t.ioTlb = s.ioTlb.filter (fun x => x.part ≠ part) ∧ t.fld IOMMU_INVAL.BUSY part = 1 ∧ t.rsp = { data := 0, status := 0 }) ∧
  (∀ (s : State) (ag : Agent) (part : Nat) (w : W), part < 16 → s.gate ag .IOMMU_INVAL part (some w) = .pass → regAbsent .IOMMU_INVAL part = false →
    s.fld IOMMU_INVAL.BUSY part = 0 → field w 2 0 = 2 →
    ∃ t, exec (.invalFatEntry ag part w) s = .next t ∧ t.fld IOMMU_INVAL.BUSY part = 1 ∧ t.rsp = { data := 0, status := 0 } ∧
      (let e := (s.regWrite .IOMMU_INVAL part w).fld IOMMU_INVAL.FAT_ENTRY part
       t.ctxCache = s.ctxCache.filter (fun x => x.part ≠ part ∨ x.entry ≠ e) ∧ t.ioTlb = s.ioTlb.filter (fun x => x.part ≠ part ∨ x.entry ≠ e))) ∧
  (∀ (s : State) (ag : Agent) (part : Nat) (w : W), part < 16 → s.gate ag .IOMMU_INVAL part (some w) = .pass → regAbsent .IOMMU_INVAL part = false →
    s.fld IOMMU_INVAL.BUSY part = 0 → field w 2 0 = 3 →
    ∃ t, exec (.invalVmid ag part w) s = .next t ∧ t.fld IOMMU_INVAL.BUSY part = 1 ∧ t.rsp = { data := 0, status := 0 } ∧
      (let v := (s.regWrite .IOMMU_INVAL part w).fld IOMMU_INVAL.VMID part
       t.ctxCache = s.ctxCache.filter (fun x => x.part ≠ part ∨ field x.s2 57 44 ≠ v) ∧ t.ioTlb = s.ioTlb.filter (fun x => x.part ≠ part ∨ x.vmid ≠ v))) ∧
  (∀ (s : State) (part : Nat), part < 16 → s.fld IOMMU_INVAL.BUSY part = 1 → (s.setFld IOMMU_INVAL.BUSY part 0).canPend (1552 + part) →
    ∃ t, exec (.invalDone part) s = .next t ∧ t.fld IOMMU_INVAL.BUSY part = 0 ∧
      t.pend = s.pend ++ [(s.setFld IOMMU_INVAL.BUSY part 0).entryOf (1552 + part)])

/-- The cipher clusters' own commands complete, and the jobs that need no key (R330 to R333, R344): software posts descriptors, a cluster fetches
the next one and starts its job, a finished job leaves its ring, the self-test ends in RUN or FAILED, and hashes and random bytes are written to DST. -/
def Obligations.CipherRingsComplete : Prop :=
  (∀ (s : State) (ag : Agent) (k r : Nat) (w : W), k < 2 → r < 32 → s.gate ag .CPH_RING_PTR (ringIx k r) (some w) = .pass →
    regAbsent .CPH_RING_PTR (ringIx k r) = false →
    ∃ t, exec (.cphTail ag k r w) s = .next t ∧ t.rd .CPH_RING_PTR (ringIx k r) = (s.regWrite .CPH_RING_PTR (ringIx k r) w).rd .CPH_RING_PTR (ringIx k r) ∧
      t.rsp = { data := 0, status := 0 }) ∧
  (∀ (s u : State) (k r ix : Nat) (bs : List Byte), k < 2 → s.fld CPH_STATUS.STATE k = 2 → s.lidState (cphNode k) 0 = 0 → s.fld CPH_STATUS.JOBS k < 64 →
    tget 0 s.cphTurn k = r → r < 32 → s.fetchable k r = some ix → bs.length = 64 →
    s.cphRead k r (s.fld CPH_RING_CFG.BASE (ringIx k r) * 4096 + 64 * (ix % 2 ^ s.fld CPH_RING_CFG.COUNT_LOG2 (ringIx k r))) 64 = (.ok bs, u) →
    (let g := fun (o n : Nat) => ofLeBytes ((bs.drop o).take n)
     let ok := fun (h : Nat) (b : Bool) => u.keyOk (s.fld CPH_RING_CFG.WORLD (ringIx k r) == 1) (s.fld CPH_RING_CFG.PARTITION (ringIx k r)) (g 0 1) (g 7 1) h b
     g 0 1 ∈ jobOps → algOk (g 0 1) (g 7 1) = true → g 1 1 < 16 → g 24 4 ≤ 16777216 → g 56 4 ≤ 65536 → ok (g 2 2) false = true → ok (g 4 2) true = true →
     ∃ t j, exec (.descriptorFetch k) s = .next t ∧ (t.ringJobs k r).getLast? = some j ∧ j.ix = ix ∧ j.op = g 0 1 ∧ j.status = none ∧ j.src = g 8 8 ∧
       j.srcLen = g 24 4 ∧ j.dst = g 16 8 ∧ j.dstLen = g 28 4 ∧ tget 0 t.cphTurn k = (r + 1) % 32)) ∧
  (∀ (s u : State) (k r ix : Nat) (bs : List Byte), k < 2 → s.fld CPH_STATUS.STATE k = 3 → s.lidState (cphNode k) 0 = 0 → s.fld CPH_STATUS.JOBS k < 64 →
    tget 0 s.cphTurn k = r → r < 32 → s.fetchable k r = some ix →
    s.cphRead k r (s.fld CPH_RING_CFG.BASE (ringIx k r) * 4096 + 64 * (ix % 2 ^ s.fld CPH_RING_CFG.COUNT_LOG2 (ringIx k r))) 64 = (.ok bs, u) →
    ∃ t j, exec (.descriptorFetch k) s = .next t ∧ (t.ringJobs k r).getLast? = some j ∧ j.ix = ix ∧ j.status = some 0x0B) ∧
  (∀ (s u : State) (k r : Nat) (j : Job) (st : Nat), k < 2 → r < 32 → s.lidState (cphNode k) 0 ≠ 2 → s.ringJobs k r = [j] → j.started = true →
    j.posted = false → j.status = some st → s.fld CPH_RING_PTR.HEAD (ringIx k r) = j.ix →
    (let pa := s.fld CPH_RING_CFG.BASE (ringIx k r) * 4096 + 64 * (j.ix % 2 ^ s.fld CPH_RING_CFG.COUNT_LOG2 (ringIx k r))
     s.cphMay k r pa 64 = (true, u) ∧ ((linesOf (pa + 28) 4).all fun l => u.lineOk l) = true) →
    ∃ t, exec (.jobComplete k r j.ix) s = .next t ∧ t.ringJobs k r = [] ∧ t.fld CPH_RING_PTR.HEAD (ringIx k r) = (j.ix + 1) % 65536) ∧
  (∀ (s : State) (k : Nat), k < 2 → s.fld CPH_STATUS.STATE k < 2 →
    ∃ t, exec (.cipherSelftest k 0) s = .next t ∧ t.fld CPH_STATUS.STATE k = 2 ∧ t.fld CPH_STATUS.SELFTEST_FAIL k = 0) ∧
  (∀ (s : State) (k n : Nat), k < 2 → s.fld CPH_STATUS.STATE k < 2 → n ≠ 0 →
    ∃ t, exec (.cipherSelftest k n) s = .next t ∧ t.fld CPH_STATUS.STATE k = 3 ∧ t.fld CPH_STATUS.SELFTEST_FAIL k = 1 ∧ s.recorded t (cphNode k) 0xFF 2 0x704 n) ∧
  (∀ (s u v : State) (k r ix : Nat) (j : Job) (bs : List Byte), s.jobAt k r ix 0x10 j → s.jobAlg k r ix = j.alg → s.cphRead k r j.src j.srcLen = (.ok bs, u) →
    u.jobDest k r j (hashLen j.alg) v → exec (.hash k r ix) s = .next (v.jobOut k r j 1 (hashOf j.alg bs))) ∧
  (∀ (s u : State) (k r ix st a : Nat) (j : Job), s.jobAt k r ix 0x10 j → s.jobAlg k r ix = j.alg → s.cphRead k r j.src j.srcLen = (.fail st a, u) →
    hashLen j.alg ≤ j.dstLen → exec (.hash k r ix) s = .next ((u.unwait k r j).jobDone k r ix st 0 a)) ∧
  (∀ (s v : State) (k r ix : Nat) (j : Job), s.jobAt k r ix 0x3F j → 1 ≤ j.dstLen → j.dstLen ≤ 4096 → (s.random j.dstLen).2.jobDest k r j j.dstLen v →
    exec (.random k r ix) s = .next (v.jobOut k r j 1 (s.random j.dstLen).1))

/-- The AES and TDES jobs and the MACs complete (R332, R333): each reads SRC, and AUX where it has one, and writes its output to DST or ends with the
verdict 1 or 2; what the algorithms of R326 compute are free functions of the inputs. -/
def Obligations.CipherMacsComplete : Prop :=
  (∀ (s u v : State) (k r ix : Nat) (j : Job) (bs : List Byte), s.jobAt k r ix 1 j → j.alg ≠ 3 → (j.alg ≤ 1 → j.srcLen % 16 = 0) → (j.alg = 4 → 16 ≤ j.srcLen) →
    s.cphRead k r j.src j.srcLen = (.ok bs, u) → u.jobDest k r j j.srcLen v →
    exec (.aesEncrypt k r ix) s = .next (v.jobOut k r j 1 (crypto 1 [[BitVec.ofNat 8 j.alg], j.v1, j.v2, j.param, bs] j.srcLen))) ∧
  (∀ (s u u2 v : State) (k r ix : Nat) (j : Job) (aad bs : List Byte), s.jobAt k r ix 1 j → j.alg = 3 → s.cphRead k r j.aux j.auxLen = (.ok aad, u) →
    u.cphRead k r j.src j.srcLen = (.ok bs, u2) → u2.jobDest k r j (j.srcLen + 16) v →
    (let ct := crypto 1 [[3], j.v1, j.param.take 12, bs] j.srcLen
     exec (.aesEncrypt k r ix) s = .next (v.jobOut k r j 1 (ct ++ crypto 0x101 [j.v1, j.param.take 12, aad, ct] 16)))) ∧
  (∀ (s u v : State) (k r ix : Nat) (j : Job) (bs : List Byte), s.jobAt k r ix 2 j → j.alg ≠ 3 → (j.alg ≤ 1 → j.srcLen % 16 = 0) → (j.alg = 4 → 16 ≤ j.srcLen) →
    s.cphRead k r j.src j.srcLen = (.ok bs, u) → u.jobDest k r j j.srcLen v →
    exec (.aesDecrypt k r ix) s = .next (v.jobOut k r j 1 (crypto 2 [[BitVec.ofNat 8 j.alg], j.v1, j.v2, j.param, bs] j.srcLen))) ∧
  (∀ (s u u2 v : State) (k r ix : Nat) (j : Job) (aad bs : List Byte), s.jobAt k r ix 2 j → j.alg = 3 → 16 ≤ j.srcLen → s.cphRead k r j.aux j.auxLen = (.ok aad, u) →
    u.cphRead k r j.src j.srcLen = (.ok bs, u2) → u2.jobDest k r j (j.srcLen - 16) v →
    (let ct := bs.take (j.srcLen - 16)
     exec (.aesDecrypt k r ix) s = .next (if crypto 0x101 [j.v1, j.param.take 12, aad, ct] 16 = bs.drop (j.srcLen - 16) then
       v.jobOut k r j 1 (crypto 2 [[3], j.v1, j.param.take 12, ct] (j.srcLen - 16)) else v.jobOut k r j 2 (List.replicate (j.srcLen - 16) 0)))) ∧
  (∀ (s u v : State) (k r ix : Nat) (j : Job) (bs : List Byte), s.jobAt k r ix 3 j → s.cphRead k r j.src j.srcLen = (.ok bs, u) →
    u.jobDest k r j 16 v → exec (.aesCmacGenerate k r ix) s = .next (v.jobOut k r j 1 (cmac j.v1 bs))) ∧
  (∀ (s u v : State) (k r ix : Nat) (j : Job) (aux bs : List Byte), s.jobAt k r ix 4 j → j.auxLen = 16 →
    s.cphRead k r j.aux j.auxLen = (.ok aux, u) → u.cphRead k r j.src j.srcLen = (.ok bs, v) →
    exec (.aesCmacVerify k r ix) s = .next ((v.unwait k r j).jobDone k r j.ix (if cmac j.v1 bs = aux then 1 else 2) 0 0)) ∧
  (∀ (s u v : State) (k r ix : Nat) (j : Job) (bs : List Byte), s.jobAt k r ix 5 j → j.srcLen % 8 = 0 → s.cphRead k r j.src j.srcLen = (.ok bs, u) →
    u.jobDest k r j j.srcLen v → exec (.tdesEncrypt k r ix) s = .next (v.jobOut k r j 1 (crypto 5 [[BitVec.ofNat 8 j.alg], j.v1, j.param.take 8, bs] j.srcLen))) ∧
  (∀ (s u v : State) (k r ix : Nat) (j : Job) (bs : List Byte), s.jobAt k r ix 6 j → j.srcLen % 8 = 0 → s.cphRead k r j.src j.srcLen = (.ok bs, u) →
    u.jobDest k r j j.srcLen v → exec (.tdesDecrypt k r ix) s = .next (v.jobOut k r j 1 (crypto 6 [[BitVec.ofNat 8 j.alg], j.v1, j.param.take 8, bs] j.srcLen))) ∧
  (∀ (s u v : State) (k r ix : Nat) (j : Job) (bs : List Byte), s.jobAt k r ix 7 j → s.cphRead k r j.src j.srcLen = (.ok bs, u) →
    u.jobDest k r j 8 v → exec (.retailMacGenerate k r ix) s = .next (v.jobOut k r j 1 (retailMac j.v1 bs))) ∧
  (∀ (s u v : State) (k r ix : Nat) (j : Job) (aux bs : List Byte), s.jobAt k r ix 8 j → j.auxLen = 8 →
    s.cphRead k r j.aux j.auxLen = (.ok aux, u) → u.cphRead k r j.src j.srcLen = (.ok bs, v) →
    exec (.retailMacVerify k r ix) s = .next ((v.unwait k r j).jobDone k r j.ix (if retailMac j.v1 bs = aux then 1 else 2) 0 0)) ∧
  (∀ (s u v : State) (k r ix : Nat) (j : Job) (bs : List Byte), s.jobAt k r ix 0x11 j → s.jobAlg k r ix = j.alg → s.cphRead k r j.src j.srcLen = (.ok bs, u) →
    u.jobDest k r j (hashLen j.alg) v → exec (.hmacGenerate k r ix) s = .next (v.jobOut k r j 1 (hmacOf j.alg j.v1 bs))) ∧
  (∀ (s u v : State) (k r ix : Nat) (j : Job) (aux bs : List Byte), s.jobAt k r ix 0x12 j → s.jobAlg k r ix = j.alg → j.auxLen = hashLen j.alg →
    s.cphRead k r j.aux j.auxLen = (.ok aux, u) → u.cphRead k r j.src j.srcLen = (.ok bs, v) →
    exec (.hmacVerify k r ix) s = .next ((v.unwait k r j).jobDone k r j.ix (if hmacOf j.alg j.v1 bs = aux then 1 else 2) 0 0))

/-- The signature jobs under a key handle and the payment jobs complete (R332, R338 to R340): each reads SRC and AUX and ends with the verdict 1 or 2
or with its output in DST; a PIN block whose fields are inconsistent ends with 8. -/
def Obligations.CipherPublicAndPaymentComplete : Prop :=
  (∀ (s u v : State) (k r ix : Nat) (j : Job) (aux bs : List Byte), s.jobAt k r ix 0x20 j →
    j.auxLen = (if j.k1.isNone then (sigLens 0x20 j).1 + (sigLens 0x20 j).2 else (sigLens 0x20 j).2) → 256 ≤ (sigLens 0x20 j).1 → (sigLens 0x20 j).1 ≤ 512 → (sigLens 0x20 j).1 % 8 = 0 → 
    s.cphRead k r j.aux j.auxLen = (.ok aux, u) → u.cphRead k r j.src j.srcLen = (.ok bs, v) →
    (let pk := match j.k1 with | some x => x.pub | none => aux.take (sigLens 0x20 j).1
     let sig := if j.k1.isNone then aux.drop (sigLens 0x20 j).1 else aux
     exec (.rsaVerify k r ix) s = .next ((v.unwait k r j).jobDone k r j.ix (if Config.cryptoTrue 0x20 [[BitVec.ofNat 8 j.alg], pk, bs, sig] then 1 else 2) 0 0))) ∧
  (∀ (s u v : State) (k r ix : Nat) (j : Job) (aux bs : List Byte), s.jobAt k r ix 0x22 j →
    j.auxLen = (if j.k1.isNone then (sigLens 0x22 j).1 + (sigLens 0x22 j).2 else (sigLens 0x22 j).2) → 
    s.cphRead k r j.aux j.auxLen = (.ok aux, u) → u.cphRead k r j.src j.srcLen = (.ok bs, v) →
    (let pk := match j.k1 with | some x => x.pub | none => aux.take (sigLens 0x22 j).1
     let sig := if j.k1.isNone then aux.drop (sigLens 0x22 j).1 else aux
     exec (.ecdsaVerify k r ix) s = .next ((v.unwait k r j).jobDone k r j.ix (if Config.cryptoTrue 0x22 [[BitVec.ofNat 8 j.alg], pk, bs, sig] then 1 else 2) 0 0))) ∧
  (∀ (s u v : State) (k r ix : Nat) (j : Job) (aux bs : List Byte), s.jobAt k r ix 0x24 j →
    j.auxLen = (if j.k1.isNone then (sigLens 0x24 j).1 + (sigLens 0x24 j).2 else (sigLens 0x24 j).2) → 
    s.cphRead k r j.aux j.auxLen = (.ok aux, u) → u.cphRead k r j.src j.srcLen = (.ok bs, v) →
    (let pk := match j.k1 with | some x => x.pub | none => aux.take (sigLens 0x24 j).1
     let sig := if j.k1.isNone then aux.drop (sigLens 0x24 j).1 else aux
     exec (.ed25519Verify k r ix) s = .next ((v.unwait k r j).jobDone k r j.ix (if Config.cryptoTrue 0x24 [[BitVec.ofNat 8 j.alg], pk, bs, sig] then 1 else 2) 0 0))) ∧
  (∀ (s u v : State) (k r ix : Nat) (j : Job) (aux bs : List Byte), s.jobAt k r ix 0x26 j →
    j.auxLen = (if j.k1.isNone then (sigLens 0x26 j).1 + (sigLens 0x26 j).2 else (sigLens 0x26 j).2) → 
    s.cphRead k r j.aux j.auxLen = (.ok aux, u) → u.cphRead k r j.src j.srcLen = (.ok bs, v) →
    (let pk := match j.k1 with | some x => x.pub | none => aux.take (sigLens 0x26 j).1
     let sig := if j.k1.isNone then aux.drop (sigLens 0x26 j).1 else aux
     exec (.mlDsa65Verify k r ix) s = .next ((v.unwait k r j).jobDone k r j.ix (if Config.cryptoTrue 0x26 [[BitVec.ofNat 8 j.alg], pk, bs, sig] then 1 else 2) 0 0))) ∧
  (∀ (s u v : State) (k r ix : Nat) (j : Job) (bs : List Byte), s.jobAt k r ix 0x21 j → s.cphRead k r j.src j.srcLen = (.ok bs, u) →
    (let rnd := if 16 ≤ s.jobAlg k r ix then u.nonce else ([], u)
     rnd.2.jobDest k r j (sigLens 0x21 j).2 v →
     exec (.rsaSign k r ix) s = .next (v.jobOut k r j 1 (crypto 0x21 [[BitVec.ofNat 8 j.alg], j.v1, bs, rnd.1] (sigLens 0x21 j).2)))) ∧
  (∀ (s u v : State) (k r ix : Nat) (j : Job) (bs : List Byte), s.jobAt k r ix 0x23 j → s.cphRead k r j.src j.srcLen = (.ok bs, u) →
    u.jobDest k r j (sigLens 0x23 j).2 v →
    exec (.ecdsaSign k r ix) s = .next (v.jobOut k r j 1 (crypto 0x23 [[BitVec.ofNat 8 j.alg], j.v1, bs, []] (sigLens 0x23 j).2))) ∧
  (∀ (s u v : State) (k r ix : Nat) (j : Job) (bs : List Byte), s.jobAt k r ix 0x25 j → s.cphRead k r j.src j.srcLen = (.ok bs, u) →
    u.jobDest k r j (sigLens 0x25 j).2 v →
    exec (.ed25519Sign k r ix) s = .next (v.jobOut k r j 1 (crypto 0x25 [[BitVec.ofNat 8 j.alg], j.v1, bs, []] (sigLens 0x25 j).2))) ∧
  (∀ (s u v : State) (k r ix : Nat) (j : Job) (bs : List Byte), s.jobAt k r ix 0x27 j → s.cphRead k r j.src j.srcLen = (.ok bs, u) →
    (let rnd := if s.jobDet k r ix = false then u.nonce else ([], u)
     rnd.2.jobDest k r j (sigLens 0x27 j).2 v →
     exec (.mlDsa65Sign k r ix) s = .next (v.jobOut k r j 1 (crypto 0x27 [[BitVec.ofNat 8 j.alg], j.v1, bs, rnd.1] (sigLens 0x27 j).2)))) ∧
  (∀ (s u v : State) (k r ix : Nat) (j : Job) (aux : List Byte), s.jobAt k r ix 0x30 j → 27 ≤ j.auxLen →
    s.cphRead k r j.aux j.auxLen = (.ok aux, u) →
    (let fi := j.alg % 16
     let fo := j.alg / 16
     let pan := (aux.drop 16).take 10 ++ [aux.getD 26 0]
     let digits := (aux.getD 26 0).toNat
     let tdesOk := match j.k2 with | some x => x.usage.testBit 2 | none => false
     let rnd := if fo = 0 then ([], u) else u.nonce
     rnd.2.jobDest k r j (pinLen fo) v →
     exec (.pinTranslate k r ix) s = .next (match Config.pinOf fi (j.v1) (aux.take (pinLen fi)) pan with
       | none => (u.unwait k r j).jobDone k r j.ix 8 0 0
       | some pin => if pin.length < 4 ∨ 12 < pin.length ∨ ((fi ≠ 1 ∨ fo ≠ 1) ∧ (digits = 0 ∨ 19 < digits)) ∨ (fo = 1 ∧ fi ≠ 1) ∨
             (fi = 4 ∧ fo ≠ 4 ∧ tdesOk = false) then (u.unwait k r j).jobDone k r j.ix 8 0 0
           else v.jobOut k r j 1 (crypto 0x130 [[BitVec.ofNat 8 fo], j.v2, pin.map (BitVec.ofNat 8), pan, rnd.1] (pinLen fo))))) ∧
  (∀ (s u v : State) (k r ix : Nat) (j : Job) (aux : List Byte), s.jobAt k r ix 0x31 j → (ksnOf j).2 = true → 27 ≤ j.auxLen →
    s.cphRead k r j.aux j.auxLen = (.ok aux, u) →
    (let fi := j.alg % 16
     let fo := j.alg / 16
     let pan := (aux.drop 16).take 10 ++ [aux.getD 26 0]
     let digits := (aux.getD 26 0).toNat
     let tdesOk := match j.k2 with | some x => x.usage.testBit 2 | none => false
     let rnd := if fo = 0 then ([], u) else u.nonce
     rnd.2.jobDest k r j (pinLen fo) v →
     exec (.dukptPinTranslate k r ix) s = .next (match Config.pinOf fi (crypto 0x131 [j.v1, (ksnOf j).1] 32) (aux.take (pinLen fi)) pan with
       | none => (u.unwait k r j).jobDone k r j.ix 8 0 0
       | some pin => if pin.length < 4 ∨ 12 < pin.length ∨ ((fi ≠ 1 ∨ fo ≠ 1) ∧ (digits = 0 ∨ 19 < digits)) ∨ (fo = 1 ∧ fi ≠ 1) ∨
             (fi = 4 ∧ fo ≠ 4 ∧ tdesOk = false) then (u.unwait k r j).jobDone k r j.ix 8 0 0
           else v.jobOut k r j 1 (crypto 0x130 [[BitVec.ofNat 8 fo], j.v2, pin.map (BitVec.ofNat 8), pan, rnd.1] (pinLen fo))))) ∧
  (∀ (s u v : State) (k r ix : Nat) (j : Job) (aux bs : List Byte), s.jobAt k r ix 0x32 j → (ksnOf j).2 = true → j.auxLen = (if j.alg = 1 then 16 else 8) →
    s.cphRead k r j.aux j.auxLen = (.ok aux, u) → u.cphRead k r j.src j.srcLen = (.ok bs, v) →
    exec (.dukptMacVerify k r ix) s = .next ((v.unwait k r j).jobDone k r j.ix (if (if j.alg = 1 then cmac (crypto 0x132 [j.v1, (ksnOf j).1] 32) bs else retailMac (crypto 0x132 [j.v1, (ksnOf j).1] 32) bs) = aux then 1 else 2) 0 0)) ∧
  (∀ (s u v : State) (k r ix : Nat) (j : Job) (aux bs : List Byte), s.jobAt k r ix 0x33 j → j.flags.testBit 2 = false → 32 ≤ j.auxLen →
    s.cphRead k r j.aux j.auxLen = (.ok aux, u) → u.cphRead k r j.src j.srcLen = (.ok bs, v) →
    (let sess := derive340 (j.alg == 1) (derive340 (j.alg == 1) j.v1 (aux.take 16)) ((aux.drop 16).take 16)
     exec (.cryptogramVerify k r ix) s = .next ((v.unwait k r j).jobDone k r j.ix
       (if (if j.alg = 1 then cmac sess bs else retailMac sess bs).take 8 = j.param.take 8 then 1 else 2) 0 0))) ∧
  (∀ (s u v w : State) (k r ix : Nat) (j : Job) (aux bs : List Byte), s.jobAt k r ix 0x33 j → j.flags.testBit 2 = true → 48 ≤ j.auxLen →
    s.cphRead k r j.aux j.auxLen = (.ok aux, u) → u.cphRead k r j.src j.srcLen = (.ok bs, v) → v.jobDest k r j 8 w →
    (let sess := derive340 (j.alg == 1) (derive340 (j.alg == 1) j.v1 (aux.take 16)) ((aux.drop 16).take 16)
     let mac := fun bs => (if j.alg = 1 then cmac sess bs else retailMac sess bs).take 8
     exec (.cryptogramVerify k r ix) s = .next (if mac bs = j.param.take 8 then w.jobOut k r j 1 (mac ((aux.drop 32).take 16))
       else (v.unwait k r j).jobDone k r j.ix 2 0 0)))

/-- The commands of the world and partition controller complete (R356, R360, R363 to R366): a synchronisation drops the translations and World
Table bytes of its range in every core and agent and ends, WPC_CFG takes its write, a partition reset starts, or becomes a system reset with
ESCALATE, stops and flushes the partition's cores, closes them and ends RUNNING or HELD, a HELD partition is released, and a flush past its limit
becomes a system reset. A command that finds the controller busy, or the partition in another state, changes nothing there. -/
def Obligations.OwnershipComplete : Prop :=
  (∀ (s : State) (ag : Agent) (w : W), s.gate ag .WPC_SYNC 0 (some w) = .pass → regAbsent .WPC_SYNC 0 = false →
    (bit w 0 = true → s.fld WPC_SYNC.BUSY 0 = 0 →
      (let u := s.regWrite .WPC_SYNC 0 w
       let n := 2 ^ u.fld WPC_SYNC.SIZE_LOG2 0
       let lo := u.fld WPC_SYNC.BASE 0 * 2 ^ 21 - u.fld WPC_SYNC.BASE 0 * 2 ^ 21 % n
       let left := fun (l : List TlbEnt) => l.filter (fun e => !meets e.pbase (2 ^ e.size) lo n)
       ∃ t, exec (.wpcSyncGo ag w) s = .next t ∧ t.fld WPC_SYNC.BUSY 0 = 1 ∧ t.fld WPC_SYNC.DONE 0 = 0 ∧ t.rsp = { data := 0, status := 0 } ∧
         t.ioTlb = s.ioTlb.filter (fun e => !meets e.pbase (2 ^ e.size) lo n) ∧
         (∀ a, ∀ e ∈ tget [] t.wtCache a, meets ((e.1 * 64 - s.fld WPC_CFG.WT_BASE 0 * 2 ^ 22) * 2 ^ 21) (64 * 2 ^ 21) lo n = false) ∧
         ∀ c ∈ s.coreIds, (t.core c).tlb = left (s.core c).tlb ∧ (t.core c).tlbBig = left (s.core c).tlbBig ∧
           (t.core c).dtlb = left (s.core c).dtlb ∧ (t.core c).itlb = left (s.core c).itlb ∧ (t.core c).walkCache = [])) ∧
    (bit w 0 = false ∨ s.fld WPC_SYNC.BUSY 0 = 1 →
      ∃ t, exec (.wpcSyncGo ag w) s = .next t ∧ t.rd .WPC_SYNC 0 = (s.regWrite .WPC_SYNC 0 w).rd .WPC_SYNC 0 ∧ t.rsp = { data := 0, status := 0 } ∧
        t.ioTlb = s.ioTlb ∧ t.cores = s.cores ∧ t.wtCache = s.wtCache)) ∧
  (∀ (s : State), (s.fld WPC_SYNC.BUSY 0 = 1 →
      ∃ t, exec .wpcSyncDone s = .next t ∧ t.fld WPC_SYNC.BUSY 0 = 0 ∧ t.fld WPC_SYNC.DONE 0 = 1) ∧
    (s.fld WPC_SYNC.BUSY 0 = 0 → exec .wpcSyncDone s = .next s)) ∧
  (∀ (s : State) (ag : Agent) (w : W), s.gate ag .WPC_CFG 0 (some w) = .pass → regAbsent .WPC_CFG 0 = false →
    ∃ t, exec (.lock ag w) s = .next t ∧ t.rd .WPC_CFG 0 = (s.regWrite .WPC_CFG 0 w).rd .WPC_CFG 0 ∧ t.rsp = { data := 0, status := 0 }) ∧
  (∀ (s : State) (ag : Agent) (part : Nat) (w : W), part < 16 → s.gate ag .WPC_PART_CTL part (some w) = .pass → regAbsent .WPC_PART_CTL part = false →
    field w 1 0 = 1 →
    ((s.regWrite .WPC_PART_CTL part w).fld WPC_PART_CTL.STATE part = 0 → s.fld WPC_PART_CFG.ESCALATE part = 0 →
      ∃ t, exec (.reset ag part w) s = .next t ∧ t.fld WPC_PART_CTL.STATE part = 1 ∧ t.fld WPC_PART_CTL.LAST_CAUSE part = 2 ∧
        tget 0 t.partStep part = 2 ∧ t.rsp = { data := 0, status := 0 }) ∧
    ((s.regWrite .WPC_PART_CTL part w).fld WPC_PART_CTL.STATE part = 0 → s.fld WPC_PART_CFG.ESCALATE part = 1 → s.rstLevel = 0 →
      ∃ t, exec (.reset ag part w) s = .next t ∧ t.rstLevel = 1 ∧ t.cores = []) ∧
    ((s.regWrite .WPC_PART_CTL part w).fld WPC_PART_CTL.STATE part ≠ 0 →
      ∃ t, exec (.reset ag part w) s = .next t ∧ t.rd .WPC_PART_CTL part = (s.regWrite .WPC_PART_CTL part w).rd .WPC_PART_CTL part ∧
        t.partStep = s.partStep ∧ t.cores = s.cores ∧ t.rsp = { data := 0, status := 0 })) ∧
  (∀ (s : State) (ag : Agent) (part : Nat) (w : W), part < 16 → s.gate ag .WPC_PART_CTL part (some w) = .pass → regAbsent .WPC_PART_CTL part = false →
    field w 1 0 = 2 →
    ((s.regWrite .WPC_PART_CTL part w).fld WPC_PART_CTL.STATE part = 2 →
      ∃ t, exec (.release ag part w) s = .next t ∧ t.fld WPC_PART_CTL.STATE part = 0 ∧ t.rsp = { data := 0, status := 0 } ∧
        s.recorded t 40 part 1 0x801 ((s.regWrite .WPC_PART_CTL part w).fld WPC_PART_CTL.LAST_CAUSE part)) ∧
    ((s.regWrite .WPC_PART_CTL part w).fld WPC_PART_CTL.STATE part ≠ 2 →
      ∃ t, exec (.release ag part w) s = .next t ∧ t.rd .WPC_PART_CTL part = (s.regWrite .WPC_PART_CTL part w).rd .WPC_PART_CTL part ∧
        t.partStep = s.partStep ∧ t.cores = s.cores ∧ t.rsp = { data := 0, status := 0 })) ∧
  (∀ (s : State) (part : Nat), tget 0 s.partStep part = 2 →
    (∃ t, exec (.partitionReset part) s = .next t ∧ tget 0 t.partStep part = 3) ∧
    ((∀ c ∈ s.partCores part, s.pairOf c = none) →
      ∃ t, exec (.partitionReset part) s = .next t ∧ ∀ c ∈ s.partCores part, (t.core c).run = .held ∧ (t.core c).flushing = true ∧
        (t.core c).group = none ∧ (t.core c).sb = []) ∧
    (∀ c, s.partCores part = [c] →
      ∃ t, exec (.partitionReset part) s = .next t ∧ (t.core c).run = .held ∧ (t.core c).flushing = true ∧
        (t.core c).group = none ∧ (t.core c).sb = []) ∧
    (∀ i, s.partCores part = [s.leaderOf i, s.trailerOf i] → s.pairOf (s.leaderOf i) = some i → (s.pair i).vote = none →
      (s.pair i).leader ≠ (s.pair i).trailer → (s.pair i).leader < 5 → (s.pair i).trailer < 5 →
      (s.pair (i / 2 * 2 + (1 - i % 2))).bound = false →
      ∃ t, exec (.partitionReset part) s = .next t ∧ (t.pair i).bound = false ∧ (t.core (s.leaderOf i)).run = .held ∧
        (t.core (s.leaderOf i)).sb = [] ∧ (t.core (s.trailerOf i)).run = .held ∧ (t.core (s.trailerOf i)).sb = [])) ∧
  (∀ (s : State) (part : Nat), tget 0 s.partStep part = 5 → s.portsBusy part = false → s.fld WPC_PART_CTL.HOLD part = 1 →
    ∃ t, exec (.partitionReset part) s = .next t ∧ tget 0 t.partStep part = 0 ∧ t.fld WPC_PART_CTL.STATE part = 2) ∧
  (∀ (s : State) (part : Nat), tget 0 s.partStep part = 5 → s.portsBusy part = false → s.fld WPC_PART_CTL.HOLD part = 0 →
    ∃ t, exec (.partitionReset part) s = .next t ∧ tget 0 t.partStep part = 0 ∧ t.fld WPC_PART_CTL.STATE part = 0 ∧
      s.recorded t 40 part 1 0x801 (s.fld WPC_PART_CTL.LAST_CAUSE part)) ∧
  (∀ (s : State) (part : Nat), tget 0 s.partStep part = 3 →
    ((∀ c ∈ s.partCores part, (s.core c).flushed = true) →
      ∃ t, exec (.partitionFlushDone part) s = .next t ∧ tget 0 t.partStep part = 5) ∧
    ((∃ c ∈ s.partCores part, (s.core c).flushed = false) → exec (.partitionFlushDone part) s = .next s)) ∧
  (∀ (s : State) (part : Nat), tget 0 s.partStep part = 3 → s.rstLevel = 0 →
    ∃ t, exec (.flushLimit part) s = .next t ∧ t.rstLevel = 1 ∧ t.cores = [] ∧ t.mem = (s.logErr 40 part 3 0x802 1).mem)

/-- WCALL and the calls that the monitor serves complete (R33, R51, R55, R157, R199 to R201, R351, R363): WCALL traps into M-mode with cause 24
from S-mode, is illegal elsewhere, and ends an open group; and the calls answer in a0 and the registers after it and return behind the WCALL,
bind and unbind the caller's pair, and reset its partition. -/
def Obligations.MonitorCallsComplete : Prop :=
  (∀ (s : State) (c : Nat) (insn : W), s.runs c →
    (custom0Bad insn false false = false → (s.core c).mode = .s → (s.core c).virt = false → (s.core c).group = none → s.allCompared c = true →
      ∃ t, exec (.wcall c insn) s = .next t ∧ s.trapped t c false 24 0 0 ∧ (t.core c).mode = .m) ∧
    (custom0Bad insn false false = false → (s.core c).mode = .s → (s.core c).virt = false →
      ∀ g, (s.core c).group = some g → g.abortable = true →
      ∃ t, exec (.wcall c insn) s = .next t ∧ (t.core c).group = none ∧ (t.core c).pc = g.fallback ∧ t.fld CG_STATUS.ABORT_CODE c = 0x0C) ∧
    (custom0Bad insn false false = true ∨ (s.core c).mode ≠ .s ∨ (s.core c).virt = true → (s.core c).group = none → s.allCompared c = true →
      ∃ t, exec (.wcall c insn) s = .next t ∧
        s.trapped t c false (if custom0Bad insn false false = false ∧ (s.core c).virt = true then 22 else 2) insn 0)) ∧
  (∀ (s : State) (c : Nat), s.wcallPends c 0 = true →
    ∃ t, exec (.wcallVersion c) s = .next t ∧ (t.core c).getX 10 = 0 ∧ (t.core c).getX 11 = Config.freeValue s.free ∧
      (t.core c).getX 12 = Config.freeValue (s.free + 1) ∧ (t.core c).getCsr 0x341 = (s.core c).getCsr 0x341 + 4) ∧
  (∀ (s : State) (c p : Nat), s.wcallPends c 0x02000001 = true → ((s.core c).getX 11).toNat = p →
    (5 ≤ p →
      ∃ t, exec (.pairBind c) s = .next t ∧ (t.core c).getX 10 = 3 ∧ (t.core c).getX 11 = 3 ∧
        (t.core c).getCsr 0x341 = (s.core c).getCsr 0x341 + 4) ∧
    (p < 5 → s.fld PAIR_STATUS.STATE c ≠ 0 →
      ∃ t, exec (.pairBind c) s = .next t ∧ (t.core c).getX 10 = 0 ∧
        (t.core c).getX 11 = BitVec.ofNat 64 (s.fld PAIR_STATUS.BIND_ERR c) ∧ t.pairs = s.pairs ∧
        (t.core c).getCsr 0x341 = (s.core c).getCsr 0x341 + 4) ∧
    (p < 5 → s.fld PAIR_STATUS.STATE c = 0 → s.bindErr c p ≠ 0 →
      ∃ t, exec (.pairBind c) s = .next t ∧ (t.core c).getX 10 = 0 ∧ (t.core c).getX 11 = BitVec.ofNat 64 (s.bindErr c p) ∧
        t.fld PAIR_STATUS.BIND_ERR c = s.bindErr c p ∧ t.pairs = s.pairs ∧ (t.core c).getCsr 0x341 = (s.core c).getCsr 0x341 + 4) ∧
    (p < 5 → s.fld PAIR_STATUS.STATE c = 0 → p ≠ coreSlot c → s.slotState (coreTile c * 5 + p) = 0 →
      s.fld PAIR_STATUS.STATE (coreTile c * 5 + p) = 1 → (s.core (coreTile c * 5 + p)).part = (s.core c).part →
      ¬((s.pair (2 * coreTile c)).bound = true ∧ (s.pair (2 * coreTile c + 1)).bound = true) →
      let i := if (s.pair (2 * coreTile c)).bound then 2 * coreTile c + 1 else 2 * coreTile c
      ∃ t, exec (.pairBind c) s = .next t ∧ (t.core c).getX 10 = 0 ∧ (t.core c).getX 11 = 0 ∧ (t.pair i).bound = true ∧
        (t.pair i).leader = coreSlot c ∧ (t.pair i).trailer = p ∧ t.fld PAIR_STATUS.STATE c = 2 ∧
        (t.core (coreTile c * 5 + p)).pc = (t.core c).pc ∧ (t.core (coreTile c * 5 + p)).x = (t.core c).x ∧
        (t.core c).getCsr 0x341 = (s.core c).getCsr 0x341 + 4)) ∧
  (∀ (s : State) (c : Nat), s.wcallPends c 0x02000002 = true → s.ledPair c = none →
    ∃ t, exec (.pairUnbind c) s = .next t ∧ (t.core c).getX 10 = 0 ∧ (t.core c).getCsr 0x341 = (s.core c).getCsr 0x341 + 4) ∧
  (∀ (s : State) (c i : Nat), s.wcallPends c 0x02000002 = true → s.ledPair c = some i → s.allCompared c = true →
    ∃ t, exec (.pairUnbind c) s = .next t ∧ (t.pair i).bound = false ∧ (t.core (s.trailerOf i)).pc = s.rd .PAIR_RESUME (s.trailerOf i) &&& ~~~(3 : W) ∧
      (t.core (s.trailerOf i)).mode = .m ∧ (t.core (s.trailerOf i)).run = .running) ∧
  (∀ (s : State) (c part : Nat), s.wcallPends c 0x03000001 = true → (s.core c).part = part →
    (field ((s.core c).getCsr 0x680) 63 60 ≠ 0 →
      ∃ t, exec (.partResetSelf c) s = .next t ∧ (t.core c).getX 10 = 2 ∧ (t.core c).getCsr 0x341 = (s.core c).getCsr 0x341 + 4) ∧
    (field ((s.core c).getCsr 0x680) 63 60 = 0 → s.fld WPC_PART_CTL.STATE part ≠ 0 →
      ∃ t, exec (.partResetSelf c) s = .next t ∧ (t.core c).getX 10 = 4 ∧ (t.core c).getCsr 0x341 = (s.core c).getCsr 0x341 + 4) ∧
    (field ((s.core c).getCsr 0x680) 63 60 = 0 → part < 16 → s.fld WPC_PART_CTL.STATE part = 0 →
      (s.fld WPC_PART_CFG.ESCALATE part = 0 →
        ∃ t, exec (.partResetSelf c) s = .next t ∧ t.fld WPC_PART_CTL.STATE part = 1 ∧ t.fld WPC_PART_CTL.LAST_CAUSE part = 4 ∧
          tget 0 t.partStep part = 2) ∧
      (s.fld WPC_PART_CFG.ESCALATE part = 1 → s.rstLevel = 0 →
        ∃ t, exec (.partResetSelf c) s = .next t ∧ t.rstLevel = 1 ∧ t.cores = [])))

/-- The event router's commands complete (R371, R374, R377, R380 to R382, R552): a wired source's rise makes its entry and its fall takes a level
source's back; a GPIO source's input is its pin's level; a message makes its entry or merges with it; a claim answers with the best entry and
takes it for a core, and takes nothing for another reader; EOI ends the service; INJECT makes a message's entry; a route write moves a pending
source, takes the entry of one with EN 0 back, and makes a high level source pend; and an NMI-class event is taken in M-mode, in an open group
once it has ended. -/
def Obligations.EventsComplete : Prop :=
  (∀ (s : State) (src : Nat), src < 1696 ∨ (1728 ≤ src ∧ src < 2048) → tget false s.srcHigh src = false → s.canPend src →
    ∃ t, exec (.sourcePending src true) s = .next t ∧ tget false t.srcHigh src = true ∧ t.pend = s.pend ++ [s.entryOf src]) ∧
  (∀ (s : State) (src : Nat), src < 1696 ∨ (1728 ≤ src ∧ src < 2048) → s.fld EVR_SRC_CFG.EDGE src = 0 → isMcheck src = false →
    ∃ t, exec (.sourcePending src false) s = .next t ∧ tget false t.srcHigh src = false ∧
      t.pend = (s.pend.filter fun e => e.ident != src)) ∧
  (∀ (s : State) (src : Nat), src < 1696 ∨ (1728 ≤ src ∧ src < 2048) → s.fld EVR_SRC_CFG.EDGE src = 1 ∨ isMcheck src = true →
    ∃ t, exec (.sourcePending src false) s = .next t ∧ tget false t.srcHigh src = false ∧ t.pend = s.pend) ∧
  (∀ (s : State) (n : Nat) (high : Bool), n < 32 →
    ∃ t, exec (.sourcePending (1696 + n) high) s = .next t ∧
      tget false t.lsio.pin n = (high != (s.fld GPIO_CFG.INV n == 1)) ∧
      tget false t.srcHigh (1696 + n) = (t.gpioLevel n != (s.fld GPIO_CFG.INV n == 1))) ∧
  (∀ (s : State) (hart page prio : Nat), hart < 96 → page ≤ 16 → prio < 256 → s.discards hart none = false →
    ((∀ e ∈ s.pend, ¬(e.hart = hart ∧ e.page = page ∧ e.ident = 0x800 + s.heldPrio hart page prio)) →
      ∃ t, exec (.messageInterrupt hart page prio) s = .next t ∧
        t.pend = s.pend ++ [{ hart := hart, page := page, prio := s.heldPrio hart page prio, ident := 0x800 + s.heldPrio hart page prio }]) ∧
    ((∃ e ∈ s.pend, e.hart = hart ∧ e.page = page ∧ e.ident = 0x800 + s.heldPrio hart page prio) →
      exec (.messageInterrupt hart page prio) s = .next s)) ∧
  (∀ (s : State) (c h t : Nat) (e : PendEnt), h < 96 → t ≤ 16 → s.gate (.core c) .EVR_TGT_CLAIM (tgtIx h t) none = .pass →
    s.best h t = some e →
    ∃ u, exec (.evrTgtClaim (.core c) h t) s = .next u ∧ u.pend = (s.pend.filter fun x => x != e) ∧
      u.rsp = { data := s.regRead .EVR_TGT_CLAIM (tgtIx h t) none, status := 0 } ∧ (e.ident < 2048 → e ∈ u.inServ)) ∧
  (∀ (s : State) (ag : Agent) (h t : Nat), h < 96 → t ≤ 16 → s.gate ag .EVR_TGT_CLAIM (tgtIx h t) none = .pass →
    ((∀ c, ag ≠ .core c) ∧ (∀ n b, ag ≠ .dbg n b)) ∨ s.best h t = none →
    ∃ u, exec (.evrTgtClaim ag h t) s = .next u ∧ u.pend = s.pend ∧ u.inServ = s.inServ ∧
      u.rsp = { data := s.regRead .EVR_TGT_CLAIM (tgtIx h t) none, status := 0 }) ∧
  (∀ (s : State) (ag : Agent) (h t : Nat) (w : W), h < 96 → t ≤ 16 → s.gate ag .EVR_TGT_EOI (tgtIx h t) (some w) = .pass →
    ∃ u, exec (.evrTgtEoi ag h t w) s = .next u ∧
      u.inServ = (s.inServ.filter fun e => !(e.ident == field w 11 0 && e.hart == h && e.page == t)) ∧
      u.rsp = { data := 0, status := 0 }) ∧
  (∀ (s : State) (ag : Agent) (h t : Nat) (w : W), h < 96 → t ≤ 16 → s.gate ag .EVR_TGT_INJECT (tgtIx h t) (some w) = .pass →
    s.discards h none = false →
    (∀ e ∈ s.pend, ¬(e.hart = h ∧ e.page = t ∧ e.ident = 0x800 + s.heldPrio h t (field w 7 0))) →
    ∃ u, exec (.evrTgtInject ag h t w) s = .next u ∧ u.rsp = { data := 0, status := 0 } ∧
      u.pend = s.pend ++ [{ hart := h, page := t, prio := s.heldPrio h t (field w 7 0), ident := 0x800 + s.heldPrio h t (field w 7 0) }]) ∧
  (∀ (s : State) (ag : Agent) (n : Nat) (w : W), s.gate ag .EVR_SRC_CFG n (some w) = .pass → regAbsent .EVR_SRC_CFG n = false →
    (let v := s.regWrite .EVR_SRC_CFG n w
     ((v.fld EVR_SRC_CFG.EN n = 0 → isMcheck n = false →
       ∃ u, exec (.evrSrcCfgWrite ag n w) s = .next u ∧ u.rd .EVR_SRC_CFG n = v.rd .EVR_SRC_CFG n ∧
         u.pend = (s.pend.filter fun e => e.ident != n) ∧ u.rsp = { data := 0, status := 0 }) ∧
      (v.fld EVR_SRC_CFG.EN n = 1 ∨ isMcheck n = true → s.pend.any (fun e => e.ident == n) = true →
       ∃ u, exec (.evrSrcCfgWrite ag n w) s = .next u ∧ u.rd .EVR_SRC_CFG n = v.rd .EVR_SRC_CFG n ∧
         u.pend = s.pend.map (fun e => if e.ident = n then v.entryOf n else e) ∧ u.rsp = { data := 0, status := 0 }) ∧
      (v.fld EVR_SRC_CFG.EDGE n = 0 → tget false s.srcHigh n = true → v.canPend n →
       ∃ u, exec (.evrSrcCfgWrite ag n w) s = .next u ∧ u.pend = s.pend ++ [v.entryOf n] ∧ u.rsp = { data := 0, status := 0 })))) ∧
  (∀ (s : State) (c : Nat) (e : PendEnt), s.coreHart c < 96 → s.bestNmi (s.coreHart c) = some e →
    s.fld EVR_TGT_STATUS.NMI_ACTIVE (tgtIx (s.coreHart c) 16) = 0 →
    ((s.core c).group = none → s.intrReady c 32 = true →
      ∃ t, exec (.nmiEntry c) s = .next t ∧ t.fld EVR_TGT_STATUS.NMI_ACTIVE (tgtIx (s.coreHart c) 16) = 1 ∧
        tget 0 t.nmiTaken (s.coreHart c) = e.ident ∧ (t.core c).mode = .m ∧ (t.core c).getCsr 0x342 = causeWord true 32) ∧
    (∀ g, (s.core c).group = some g → g.abortable = true → g.requestSent = false → (s.cgAbort c 0x0C 0 0).intrReady c 32 = true →
      ∃ t, exec (.nmiEntry c) s = .next t ∧ (t.core c).group = none ∧ (t.core c).getCsr 0x341 = g.fallback ∧
        t.fld CG_STATUS.ABORT_CODE c = 0x0C ∧ t.fld EVR_TGT_STATUS.NMI_ACTIVE (tgtIx (s.coreHart c) 16) = 1 ∧
        tget 0 t.nmiTaken (s.coreHart c) = e.ident ∧ (t.core c).mode = .m))

/-- The security processor's key and evidence commands complete (R336, R337, R398, R399, R420): a key is generated or imported under the next
handle, exported, described and deleted, the fabric manager's hashes are set, the key store is erased, and evidence over a nonce is returned.
Outside the ranges they answer status 3, for a key that they may not use 5, and with 8,192 keys 6, and change no key. -/
def Obligations.KeyCommandsComplete : Prop :=
  (∀ (s : State) (ag : Agent) (cls part usage alg size : Nat) (secure : Bool), s.agentSecure ag = true → cls ≠ 6 → classTakes cls alg size = true →
    part < 16 → usage < 8 → (cls = 7 ∨ cls = 8 → secure = true) → s.keys.length < 8192 → s.keyNext < 65536 →
    ∃ t k, exec (.keyGenerate ag cls secure part usage alg size) s = .next t ∧ t.spRsp = { status := 0, data := leBytes 2 s.keyNext } ∧
      tget none t.keys s.keyNext = some k ∧ k.cls = cls ∧ k.secure = secure ∧ k.part = part ∧ k.usage = usage ∧ k.alg = alg ∧
      k.value = (s.random (keyLen alg size)).1 ∧ t.keyNext = s.keyNext + 1) ∧
  (∀ (s : State) (ag : Agent) (part alg size : Nat) (secure : Bool) (block : List Byte), s.agentSecure ag = true → part < 16 → classTakes 6 alg size = true →
    block.length = pubLen alg size → s.keys.length < 8192 → s.keyNext < 65536 →
    ∃ t, exec (.keyImport ag 0 secure part alg size block) s = .next t ∧ t.spRsp = { status := 0, data := leBytes 2 s.keyNext } ∧
      tget none t.keys s.keyNext = some { cls := 6, secure := secure, part := part, alg := alg, pub := block, size := size }) ∧
  (∀ (s : State) (ag : Agent) (kek part alg size : Nat) (secure : Bool) (block : List Byte) (w : Key), s.agentSecure ag = true → part < 16 → kek ≠ 0 →
    tget none s.keys kek = some w → w.usage.testBit 0 = true → s.keys.length < 8192 → s.keyNext < 65536 →
    ∃ t, exec (.keyImport ag kek secure part alg size block) s = .next t ∧ (match Config.keyOfBlock w.value block with
      | none => t.spRsp = { status := 5, data := [] } ∧ t.keys = s.keys
      | some (cls, usage, a, n, value) => classTakes cls a n = true → (cls = 7 ∨ cls = 8 → secure = true) →
          t.spRsp = { status := 0, data := leBytes 2 s.keyNext } ∧
          tget none t.keys s.keyNext = some { cls := cls, secure := secure, part := part, usage := usage, alg := a, value := value, size := n })) ∧
  (∀ (s : State) (ag : Agent) (h kek : Nat) (k w : Key), s.agentSecure ag = true → tget none s.keys h = some k → tget none s.keys kek = some w →
    k.usage.testBit 1 = true → k.cls ≠ 7 → k.cls ≠ 8 → w.usage.testBit 0 = true →
    ∃ t, exec (.keyExport ag h kek) s = .next t ∧ t.keys = s.keys ∧
      t.spRsp = { status := 0, data := Config.keyBlock w.value (leBytes 4 (k.cls + 2 ^ 8 * k.usage + 2 ^ 16 * k.alg)) k.value }) ∧
  (∀ (s : State) (ag : Agent) (h : Nat) (k : Key), s.agentSecure ag = true → tget none s.keys h = some k →
    ∃ t, exec (.keyDelete ag h) s = .next t ∧ t.spRsp = { status := 0, data := [] } ∧ tget none t.keys h = none ∧ t.keyFreed = s.keyFreed ++ [h] ∧
      ∀ q, q < 2 → tget [] t.cphKeys q = (tget [] s.cphKeys q).filter (· ≠ h)) ∧
  (∀ (s : State) (ag : Agent) (h : Nat) (k : Key), s.agentSecure ag = true → tget none s.keys h = some k →
    ∃ t, exec (.keyInfo ag h) s = .next t ∧ t.keys = s.keys ∧ t.spRsp.status = 0 ∧
      t.spRsp.data.take 4 = leBytes 1 k.cls ++ leBytes 1 (b2n k.secure) ++ leBytes 1 k.part ++ leBytes 1 k.usage) ∧
  (∀ (s : State) (ag : Agent) (hs : List Byte), s.agentSecure ag = true → hs.length = 96 →
    ∃ t, exec (.fmKeySet ag hs) s = .next t ∧ t.fmKeys = hs ∧ t.spRsp = { status := 0, data := [] }) ∧
  (∀ (s : State) (ag : Agent), s.agentSecure ag = true →
    ∃ t, exec (.keystoreErase ag) s = .next t ∧ t.keys = [] ∧ t.ksCopy = [] ∧ t.cphKeys = [] ∧ t.ksErased = true ∧ t.spRsp = { status := 0, data := [] }) ∧
  (∀ (s : State) (ag : Agent) (nonce : List Byte), s.agentSecure ag = true → nonce.length = 32 → s.evReady = true →
    ∃ t, exec (.attest ag nonce) s = .next t ∧ t.spRsp = { status := 0, data := s.evidenceOf nonce } ∧
      t.evidence = s.evidence.filter (fun a => s.dtime < a + 1000000000) ++ [s.dtime]) ∧
  (∀ (s : State) (ag : Agent), s.agentSecure ag = true →
    (∀ (cls part usage alg size : Nat) (secure : Bool), (cls = 6 ∨ classTakes cls alg size = false ∨ 16 ≤ part ∨ 8 ≤ usage →
        ∃ t, exec (.keyGenerate ag cls secure part usage alg size) s = .next t ∧ t.spRsp = { status := 3, data := [] } ∧ t.keys = s.keys) ∧
      (cls ≠ 6 → classTakes cls alg size = true → part < 16 → usage < 8 → (cls = 7 ∨ cls = 8 → secure = true) → 8192 ≤ s.keys.length →
        ∃ t, exec (.keyGenerate ag cls secure part usage alg size) s = .next t ∧ t.spRsp = { status := 6, data := [] } ∧ t.keys = s.keys)) ∧
    (∀ (kek part alg size : Nat) (secure : Bool) (block : List Byte), part < 16 → kek ≠ 0 → tget none s.keys kek = none →
      ∃ t, exec (.keyImport ag kek secure part alg size block) s = .next t ∧ t.spRsp = { status := 5, data := [] } ∧ t.keys = s.keys) ∧
    (∀ (h kek : Nat), tget none s.keys h = none ∨ tget none s.keys kek = none →
      ∃ t, exec (.keyExport ag h kek) s = .next t ∧ t.spRsp = { status := 5, data := [] } ∧ t.keys = s.keys) ∧
    (∀ (h kek : Nat) (k w : Key), tget none s.keys h = some k → tget none s.keys kek = some w →
      k.usage.testBit 1 = false ∨ k.cls = 7 ∨ k.cls = 8 ∨ w.usage.testBit 0 = false →
      ∃ t, exec (.keyExport ag h kek) s = .next t ∧ t.spRsp = { status := 5, data := [] } ∧ t.keys = s.keys) ∧
    (∀ (h : Nat), tget none s.keys h = none →
      (∃ t, exec (.keyDelete ag h) s = .next t ∧ t.spRsp = { status := 5, data := [] } ∧ t.keys = s.keys) ∧
      (∃ t, exec (.keyInfo ag h) s = .next t ∧ t.spRsp = { status := 5, data := [] } ∧ t.keys = s.keys)) ∧
    (∀ (hs : List Byte), hs.length ≠ 96 →
      ∃ t, exec (.fmKeySet ag hs) s = .next t ∧ t.fmKeys = s.fmKeys ∧ t.spRsp = { status := 3, data := [] }) ∧
    (∀ (nonce : List Byte), nonce.length ≠ 32 →
      ∃ t, exec (.attest ag nonce) s = .next t ∧ t.spRsp = { status := 3, data := [] }))

/-- The commands that burn fuses and react to attacks complete (R390, R391, R395, R401, R415): a life-cycle state advances to the next, a key slot
is revoked by its whole group, and a tamper event leaves no key and enters a power-on reset with cause 4. -/
def Obligations.FuseAndTamperComplete : Prop :=
  (∀ (s : State) (ag : Agent), s.agentSecure ag = true → s.lc < 3 ∨ (s.lc = 3 ∧ s.ksErased = true) →
    ∃ t, exec (.lcAdvance ag (s.lc + 1) []) s = .next t ∧ t.lc = s.lc + 1 ∧ t.spRsp = { status := 0, data := [] }) ∧
  (∀ (s : State) (ag : Agent) (target : Nat) (bad : List Nat), s.agentSecure ag = true →
    (target ≠ s.lc + 1 ∧ target ≠ 5) ∨ (target = 5 ∧ s.lc = 0) ∨ s.lc = 5 ∨ (target = 4 ∧ s.ksErased = false) →
    ∃ t, exec (.lcAdvance ag target bad) s = .next t ∧ t.fuses = s.fuses ∧ t.spRsp = { status := 5, data := [] }) ∧
  (∀ (s : State) (ag : Agent), s.agentSecure ag = true → 1 ≤ s.lc → s.lc ≤ 4 →
    ∃ t, exec (.lcAdvance ag 5 []) s = .next t ∧ t.lc = 5 ∧ t.spRsp = { status := 0, data := [] } ∧ ∀ n, 5376 ≤ n → n < 9472 → t.fuse n = true) ∧
  (∀ (s : State) (ag : Agent) (k : Nat), s.agentSecure ag = true → k < 2 →
    ∃ t, exec (.revokeDebugKey ag k []) s = .next t ∧ t.dbgRevoked k = true ∧ t.spRsp = { status := 0, data := [] } ∧
      ∀ i, i < 8 → t.fuse (4896 + 8 * k + i) = true) ∧
  (∀ (s : State) (ag : Agent) (k : Nat), s.agentSecure ag = true → k < 4 →
    ∃ t, exec (.revokeImageKey ag k []) s = .next t ∧
      (if s.verifySlot 0 = 0 ∧ s.verifySlot 1 = 0 ∧ s.man 0 20 1 ≠ k ∧ s.man 1 20 1 ≠ k then
        t.imgRevoked k = true ∧ t.spRsp = { status := 0, data := [] } else t.fuses = s.fuses ∧ t.spRsp = { status := 5, data := [] })) ∧
  (∀ (s : State) (n : Nat), n < 5 → (3 ≤ n → 1 < s.lc) → s.rstLevel < 2 →
    ∃ t, exec (.tamper n) s = .next t ∧ t.kek = [] ∧ t.keys = [] ∧ t.cphKeys = [] ∧ t.rstLevel = 2 ∧ t.fld RCP_RESET_CAUSE.LAST_CAUSE 0 = 4) ∧
  (∀ (s : State) (n : Nat), n < 5 → 3 ≤ n → s.lc ≤ 1 → exec (.tamper n) s = .next s) ∧
  (∀ (s : State) (ag : Agent) (k : Nat) (bad : List Nat), s.agentSecure ag = true →
    (2 ≤ k → ∃ t, exec (.revokeDebugKey ag k bad) s = .next t ∧ t.fuses = s.fuses ∧ t.spRsp = { status := 3, data := [] }) ∧
    (4 ≤ k → ∃ t, exec (.revokeImageKey ag k bad) s = .next t ∧ t.fuses = s.fuses ∧ t.spRsp = { status := 3, data := [] }))

/-- The boot chain and recovery complete (R285, R392, R402, R403, R410 to R413, R416 to R418): a BLANK or SCRAPPED device stops after its status,
a device whose straps select recovery waits there, any other one ends booted, waiting in recovery or in a system reset; an image is armed and a
trial is confirmed, warned of and ended; DRAM is zeroed, and recovery takes chunks, verifies them and arms the bundle, over PCIe or the fabric. -/
def Obligations.BootComplete : Prop :=
  (∀ (s : State) (goods : List Bool) (bad : List Nat), s.bootStep = 2 → 3 ≤ s.relStep → s.rcv.active = false → s.lc = 0 →
    ∃ t, exec (.spBoot goods bad) s = .next t ∧ t.bootStep = 3 ∧ t.kek = s.kekNow ∧ t.fld SP_BOOT_STATUS.LC 0 = 0 ∧
      t.fld DBG_AUTH.SESSION 0 = 2 ∧ t.fld DBG_AUTH.SESSION 1 = 2) ∧
  (∀ (s : State) (goods : List Bool), s.bootStep = 2 → 3 ≤ s.relStep → s.rcv.active = false → s.lc = 5 →
    ∃ t, exec (.spBoot goods []) s = .next t ∧ t.bootStep = 3 ∧ t.fld SP_BOOT_STATUS.LC 0 = 5 ∧
      t.fld DBG_AUTH.SESSION 0 = s.fld DBG_AUTH.SESSION 0) ∧
  (∀ (s : State) (goods : List Bool) (bad : List Nat), s.bootStep = 2 → 3 ≤ s.relStep → s.rcv.active = false → 0 < s.lc → s.lc < 5 → s.recovSel = true →
    ∃ t, exec (.spBoot goods bad) s = .next t ∧ t.rcv.active = true ∧ t.rcv.st = 0 ∧ t.errorN = true) ∧
  (∀ (s : State) (goods : List Bool) (bad : List Nat), s.bootStep = 2 → 3 ≤ s.relStep → s.rcv.active = false → 0 < s.lc → s.lc < 5 → s.recovSel = false →
    s.rstLevel = 0 →
    ∃ t, exec (.spBoot goods bad) s = .next t ∧ (t.bootStep = 6 ∧ t.boot.slot.isSome = true ∨ t.rcv.active = true ∧ t.errorN = true ∨ t.rstLevel = 1)) ∧
  (∀ (s : State), s.bootStep = 6 → 6 ≤ s.relStep → s.boot.slot = none →
    ∃ t, exec .dramZeroing s = .next t ∧ t.mem = [] ∧ t.memPoison = []) ∧
  (∀ (s : State) (f : Nat), s.bootStep = 6 → 6 ≤ s.relStep → s.boot.slot = some f → s.rstLevel = 0 →
    ∃ t, exec .dramZeroing s = .next t ∧ (t.bootStep = 7 ∧ t.memPoison = [] ∨ t.rstLevel = 1)) ∧
  (∀ (s : State) (ag : Agent) (f maxA trialS : Nat) (good : Bool), s.agentSecure ag = true → f < 2 → 0 < maxA → maxA ≤ 3 → 60 ≤ trialS → trialS ≤ 3600 →
    ∃ t, exec (.imageArm ag f maxA trialS good) s = .next t ∧ (if s.verifySlot f = 0 then
        t.flash = (s.appendRec f 1 0 maxA (s.man f 8 8) (s.manDigest f) trialS good).flash ∧ t.spRsp = { status := if good then 0 else 7, data := [] }
      else t.flash = s.flash ∧ t.spRsp = { status := 5, data := [] } ∧ s.recorded t 40 0 1 0x900 (f * 2 ^ 32 + s.verifySlot f))) ∧
  (∀ (s : State) (f : Nat) (bad : List Nat), s.boot.slot = some f → s.fld SP_TRIAL.RUNNING 0 = 1 →
    (let r := match s.curRec f with | some i => s.epRec f i | none => []
     ∃ t, exec (.trialConfirm .macen 0 bad) s = .next t ∧ t.spRsp = { status := 0, data := [] } ∧ t.fld SP_TRIAL.RUNNING 0 = 0 ∧ t.boot.trial = false ∧
       t.flash = (s.appendRec f 3 s.boot.attempt (recField r 6 1) s.boot.seq ((r.drop 24).take 32) (recField r 56 2) true).flash ∧
       t.fuses = (s.raiseCounter bad s.boot.floor 256).fuses)) ∧
  (∀ (s : State) (ag : Agent) (fails : Nat) (bad : List Nat), s.agentSecure ag = true →
    (ag ≠ .macen ∨ s.boot.slot = none →
      ∃ t, exec (.trialConfirm ag fails bad) s = .next t ∧ t.flash = s.flash ∧ t.spRsp = { status := 5, data := [] }) ∧
    (ag = .macen → s.boot.slot ≠ none → s.fld SP_TRIAL.RUNNING 0 = 0 → s.boot.trial = false →
      ∃ t, exec (.trialConfirm ag fails bad) s = .next t ∧ t.flash = s.flash ∧ t.spRsp = { status := 0, data := [] })) ∧
  (∀ (s : State) (bad : List Nat) (fails : Nat), s.boot.slot ≠ none → s.fld SP_TRIAL.RUNNING 0 = 1 → 3 ≤ fails →
    ∃ t, exec (.trialConfirm .macen fails bad) s = .next t ∧ t.fld SP_TRIAL.RUNNING 0 = 1 ∧ t.fuses = s.fuses ∧
      t.spRsp = { status := 7, data := [] }) ∧
  (∀ (s : State), s.fld SP_TRIAL.RUNNING 0 = 1 → s.canPend 1666 →
    ∃ t, exec .trialWatchdogWarning s = .next t ∧ t.pend = s.pend ++ [s.entryOf 1666]) ∧
  (∀ (s : State), s.fld SP_TRIAL.RUNNING 0 = 1 → s.halted 16 = false ∨ s.fld DBG_FREEZE.TRIAL 0 = 0 → s.rstLevel = 0 →
    ∃ t, exec .trialWatchdogExpiry s = .next t ∧ t.rstLevel = 1 ∧ t.fld RCP_RESET_CAUSE.LAST_CAUSE 0 = 9) ∧
  (∀ (s : State) (data : List Byte) (w : W), s.rcv.active = true → field w 49 48 = 1 → field w 47 32 = data.length → data ≠ [] → data.length ≤ 32768 →
    field w 31 0 + data.length ≤ 63 * 2 ^ 20 →
    ∃ t f, exec (.chunk data w) s = .next t ∧ t.rcv.st = 1 ∧ t.rcv.slot = some f ∧ (∀ g, s.rcv.slot = some g → f = g) ∧
      t.flashGet f (bundleBase + field w 31 0) data.length = data) ∧
  (∀ (s : State) (data : List Byte) (w : W), s.rcv.active = true → field w 49 48 = 1 →
    field w 47 32 = 0 ∨ 32768 < field w 47 32 ∨ 63 * 2 ^ 20 < field w 31 0 + field w 47 32 →
    ∃ t, exec (.chunk data w) s = .next t ∧ t.flash = s.flash ∧ t.rcv.st = s.rcv.st ∧ t.rcv.slot = s.rcv.slot) ∧
  (∀ (s : State) (f : Nat) (w : W) (good : Bool), s.rcv.active = true → field w 49 48 = 2 → s.rcv.slot = some f → s.rstLevel = 0 →
    ∃ t, exec (.finish w good) s = .next t ∧ (t.rcv.st = 5 ∧ t.rcv.slot = none ∧ t.flash = s.flash ∨
      t.rstLevel = 1 ∧ t.fld RCP_RESET_CAUSE.LAST_CAUSE 0 = 7 ∧ t.flash = (s.appendRec f 1 0 1 (s.man f 8 8) (s.manDigest f) 600 good).flash)) ∧
  (∀ (s : State) (w : W), s.rcv.active = true → field w 49 48 = 3 →
    ∃ t, exec (.rcvAbort w) s = .next t ∧ t.rcv.st = 0 ∧ t.rcv.slot = none) ∧
  (∀ (s : State) (p off : Nat) (data : List Byte) (fin good : Bool), s.rcv.active = true → s.rcv.chan = 2 → s.opt.node ≠ 0 →
    s.fld FAB_NODE.NODE_ID 0 ≠ s.opt.node → s.opt.node < 16384 →
    ∃ t, exec (.fabricRecovery p off data fin good) s = .next t ∧ t.fld FAB_NODE.NODE_ID 0 = s.opt.node ∧
      ∀ q, q < 8 → t.fld FAB_PORT_CTL.ENABLE q = 1) ∧
  (∀ (s : State) (p off : Nat) (data : List Byte) (good : Bool), s.rcv.active = true → s.rcv.chan = 2 → s.opt.node ≠ 0 →
    s.fld FAB_NODE.NODE_ID 0 = s.opt.node → p < 8 → s.fld FAB_PORT_STATUS.STATE p = 4 → data ≠ [] →
    ∃ t f, exec (.fabricRecovery p off data false good) s = .next t ∧ t.fld FAB_ROUTE.VALID s.opt.source = 1 ∧ t.fld FAB_ROUTE.OUT s.opt.source = p ∧
      t.fld FAB_APERTURE.VALID 4095 = 1 ∧ t.rcv.slot = some f ∧ t.flashGet f (bundleBase + off) data.length = data) ∧
  (∀ (s : State) (p off f : Nat) (data : List Byte) (good : Bool), s.rcv.active = true → s.rcv.chan = 2 → s.opt.node ≠ 0 →
    s.fld FAB_NODE.NODE_ID 0 = s.opt.node → p < 8 → s.fld FAB_PORT_STATUS.STATE p = 4 → s.rcv.slot = some f → s.rstLevel = 0 →
    ∃ t, exec (.fabricRecovery p off data true good) s = .next t ∧ (t.rcv.st = 5 ∧ t.rcv.slot = none ∨
      t.rstLevel = 1 ∧ t.fld RCP_RESET_CAUSE.LAST_CAUSE 0 = 7)) ∧
  (∀ (s : State) (p off : Nat) (data : List Byte) (fin good : Bool), s.rcv.active = true → s.rcv.chan = 2 → s.opt.node = 0 →
    exec (.fabricRecovery p off data fin good) s = .next s)

/-- The reset commands complete (R147, R425 to R427, R430, R433, R450, R453): a source of the power-on or system level enters its level,
records its cause and clears the cores, one that a level in progress covers sets its MASK bit, a core stops, a block drains and comes back,
the pins and rails raise their causes, the hold ends, and the backup domain's registers take their writes. A slot without a role that is
power-gated stays so, and the cores that one command names are reset one after another. -/
def Obligations.ResetsComplete : Prop :=
  (∀ (s : State) (cause : Nat), 1 ≤ cause → cause ≤ 4 → s.rstLevel < 2 →
    ∃ t, exec (.powerOnReset cause) s = .next t ∧ t.rstLevel = 2 ∧ t.relStep = 0 ∧ t.fld RCP_RESET_CAUSE.LAST_CAUSE 0 = cause ∧
      t.fld RCP_RESET_CAUSE.PREV_CAUSE 0 = s.fld RCP_RESET_CAUSE.LAST_CAUSE 0 ∧ t.fld RCP_RESET_CAUSE.MASK 0 = 2 ^ (cause - 1) ∧
      t.fld RCP_RESET_CAUSE.TOTAL 0 = Nat.min 0xFFFFFFFF (s.fld RCP_RESET_CAUSE.TOTAL 0 + 1) ∧
      t.rd .RCP_RTC 0 = s.rd .RCP_RTC 0 ∧ t.cores = [] ∧ t.pend = [] ∧ t.traceBuf = [] ∧ t.mem = s.mem ∧ t.fuses = s.fuses) ∧
  (∀ (s : State) (cause : Nat), 1 ≤ cause → cause ≤ 4 → s.rstLevel = 2 →
    ∃ t, exec (.powerOnReset cause) s = .next t ∧ t.rstLevel = 2 ∧ t.cores = s.cores ∧
      t.fld RCP_RESET_CAUSE.LAST_CAUSE 0 = s.fld RCP_RESET_CAUSE.LAST_CAUSE 0 ∧
      t.fld RCP_RESET_CAUSE.MASK 0 = s.fld RCP_RESET_CAUSE.MASK 0 ||| 2 ^ (cause - 1)) ∧
  (∀ (s : State) (cause : Nat), 5 ≤ cause → cause ≤ 12 → s.rstLevel = 0 →
    ∃ t, exec (.systemReset cause) s = .next t ∧ t.rstLevel = 1 ∧ t.fld RCP_RESET_CAUSE.LAST_CAUSE 0 = cause ∧
      t.fld RCP_RESET_CAUSE.PREV_CAUSE 0 = s.fld RCP_RESET_CAUSE.LAST_CAUSE 0 ∧ t.fld RCP_RESET_CAUSE.MASK 0 = 2 ^ (cause - 1) ∧
      t.rd .RCP_RTC 0 = s.rd .RCP_RTC 0 ∧ t.cores = [] ∧ t.pend = [] ∧ t.traceBuf = s.traceBuf ∧ t.mem = s.mem ∧ t.fuses = s.fuses) ∧
  (∀ (s : State) (cause : Nat), 5 ≤ cause → cause ≤ 12 → 1 ≤ s.rstLevel →
    ∃ t, exec (.systemReset cause) s = .next t ∧ t.rstLevel = s.rstLevel ∧ t.cores = s.cores ∧
      t.fld RCP_RESET_CAUSE.LAST_CAUSE 0 = s.fld RCP_RESET_CAUSE.LAST_CAUSE 0 ∧
      t.fld RCP_RESET_CAUSE.MASK 0 = s.fld RCP_RESET_CAUSE.MASK 0 ||| 2 ^ (cause - 1)) ∧
  (∀ (s : State) (c : Nat), c < 120 → (s.core c).flushing = false →
    ((s.core c).run ≠ .gated ∨ s.slotState c = 0 →
      ∃ t, exec (.coreReset [c]) s = .next t ∧ (t.core c).run = .held ∧ (t.core c).sb = [] ∧ (t.core c).group = none ∧ (t.core c).resv = none ∧
        (s.fld PAIR_STATUS.STATE c = 1 → (t.core c).resumeAt = some (s.rd .PAIR_RESUME c &&& ~~~(3 : W)))) ∧
    ((s.core c).run = .gated → s.slotState c ≠ 0 → ∃ t, exec (.coreReset [c]) s = .next t ∧ t.core c = s.core c)) ∧
  (∀ (s u : State) (c : Nat) (cs : List Nat), c < 120 → s.allHeld = false → exec (.coreReset [c]) s = .next u → u.allHeld = false →
    exec (.coreReset (c :: cs)) s = exec (.coreReset cs) u) ∧
  (∀ (s : State) (u : Nat), u < 84 → s.unitClosed u = false →
    ∃ t, exec (.blockReset u) s = .next t ∧ ∀ k ∈ unitSecs u, tget false t.lidHeld (lidIx (unitStop u).1 k) = true ∧
      (s.lidState (unitStop u).1 k = 0 → t.lidState (unitStop u).1 k = 1)) ∧
  (∀ (s : State) (u : Nat), u < 84 → s.unitClosed u = true → tget false s.unlocked (200 + u) = false →
    ∃ t, exec (.blockReset u) s = .next t ∧ ∀ k ∈ unitSecs u, t.lidState (unitStop u).1 k = 0) ∧
  (∀ (s : State) (u : Nat), u < 84 → s.unitClosed u = true → tget false s.unlocked (200 + u) = true →
    ∃ t, exec (.blockReset u) s = .next t ∧ ∀ k ∈ unitSecs u, t.lidState (unitStop u).1 k = 2) ∧
  (∀ (s : State), s.resetInLow = false → s.rstLevel = 0 →
    ∃ t, exec (.resetInN true) s = .next t ∧ t.resetInLow = true ∧ t.rstLevel = 1 ∧ t.fld RCP_RESET_CAUSE.LAST_CAUSE 0 = 5) ∧
  (∀ (s : State), exec (.resetInN false) s = .next { s with resetInLow := false } ∧
    (s.resetInLow = true → exec (.resetInN true) s = .next s)) ∧
  (∀ (s : State) (sig : Nat), sig < 6 → s.rstLevel < 2 →
    ∃ t, exec (.pwrgood sig false) s = .next t ∧ t.rstLevel = 2 ∧ t.fld RCP_RESET_CAUSE.LAST_CAUSE 0 = 2 ∧
      (sig = 5 → t.pwrgood = false) ∧ (sig ≠ 5 → tget false t.railOut sig = true)) ∧
  (∀ (s : State), s.pwrgood = false → (s.railOut.all fun e => !e.2) = true →
    ∃ t, exec (.pwrgood 5 true) s = .next t ∧ t.pwrgood = true ∧ t.powerGood = true ∧ t.rstLevel = s.rstLevel) ∧
  (∀ (s : State) (sig : Nat), sig < 5 → s.pwrgood = true → tget false s.railOut sig = true →
    (({ s with railOut := tset false s.railOut sig false } : State).powerGood = true →
      ∃ t, exec (.pwrgood sig true) s = .next t ∧ t.powerGood = true ∧ t.rstLevel = 2 ∧ t.fld RCP_RESET_CAUSE.LAST_CAUSE 0 = 1) ∧
    (({ s with railOut := tset false s.railOut sig false } : State).powerGood = false →
      exec (.pwrgood sig true) s = .next { s with railOut := tset false s.railOut sig false })) ∧
  (∀ (s : State), s.rstLevel < 2 →
    ∃ t, exec .thermtrip s = .next t ∧ t.thermtrip = true ∧ t.rstLevel = 2 ∧ t.fld RCP_RESET_CAUSE.LAST_CAUSE 0 = 3) ∧
  (∀ (s : State), s.resetInLow = false → s.powerGood = true → s.thermtrip = false →
    exec .resetHoldEnd s = .next { s with rstLevel := 0 }) ∧
  (∀ (s : State), s.resetInLow = true ∨ s.powerGood = false ∨ s.thermtrip = true → exec .resetHoldEnd s = .next s) ∧
  (∀ (s : State) (ag : Agent) (w : W), s.gate ag .RCP_RESET_CAUSE 0 (some w) = .pass →
    ∃ t, exec (.clearCauses ag w) s = .next t ∧ t.rsp = { data := 0, status := 0 } ∧
      t.rd .RCP_RESET_CAUSE 0 = (s.regWrite .RCP_RESET_CAUSE 0 w).rd .RCP_RESET_CAUSE 0 ∧
      ∀ n, n < 2 → t.rd .RCP_CAUSE_COUNT n = if bit w 30 then 0 else s.rd .RCP_CAUSE_COUNT n) ∧
  (∀ (s : State) (ag : Agent) (w : W), s.gate ag .RCP_RTC 0 (some w) = .pass →
    ∃ t, exec (.rtcWrite ag w) s = .next t ∧ t.rtcAcc = 0 ∧ t.fld RCP_RTC.TICKS 0 = field w RCP_RTC.TICKS.hi RCP_RTC.TICKS.lo ∧
      t.rsp = { data := 0, status := 0 })

/-- The release, clock and rail commands complete (R275, R429, R431, R434 to R436, R442, R443, R486, R536): a domain is released in its order, the
option page and the straps are loaded, a lost lock and its return act on their domain, a failed regulator raises its source and takes its core or
its block down, a rail near its edge is reported, and PFW_N begins the last gasp and ends. -/
def Obligations.ReleaseAndClocksComplete : Prop :=
  (∀ (s : State) (step : Nat) (cal : List Reading), s.rstLevel = 0 ∨ (step = 1 ∧ s.rstLevel = 2 ∧ s.thermtrip = false) →
    step = s.relStep + 1 → step ≤ 8 → s.stepReady step = true →
    ∃ t, exec (.domainRelease step cal) s = .next t ∧ t.relStep = step ∧ t.rstLevel = 0 ∧
      (step = 1 → t.dtime = s.fld RCP_RTC.TICKS 0 * 1953125 / 64) ∧
      (step = 3 → t.fld TMR_WDOG.EN 16 = 1 ∧ t.fld TMR_WDOG.PERIOD_MS 16 = s.opt.swdg % 65536 ∧ t.fld TMR_WDOG.REMAIN_MS 16 = s.opt.swdg % 65536) ∧
      (step = 7 → t.fld CPH_STATUS.STATE 0 = 1 ∧ t.fld CPH_STATUS.STATE 1 = 1) ∧
      (∀ f c, step = 8 → s.boot.slot = some f → s.hartCore 0 = some c → t.readyPin = true ∧ t.bootStep = 8)) ∧
  (∀ (s : State) (src : Nat) (recov : Bool), s.relStep = 2 → s.bootStep = 0 → s.rstLevel = 0 →
    ∃ t, exec (.optionLoading src recov) s = .next t ∧ t.bootStep = 2 ∧ t.bootSrc = src % 4 ∧ t.recovSel = recov ∧
      t.opt = { (match s.optPage 0 with | some p => optOf p | none => match s.optPage 1 with | some p => optOf p | none => {}) with log := s.logRead } ∧
      ∀ p, p < 16 → t.fld RCP_PSTATE.CURRENT p = t.opt.pstate % 4 ∧ t.fld RCP_PSTATE.TARGET p = t.opt.pstate % 4) ∧
  (∀ (s : State) (d : ClockDom), d = .aon ∨ d = .sp → s.rstLevel < 2 →
    ∃ t, exec (.lockLoss d) s = .next t ∧ t.rstLevel = 2 ∧ t.fld RCP_RESET_CAUSE.LAST_CAUSE 0 = 4 ∧ t.kek = [] ∧ t.keys = [] ∧ t.cphKeys = []) ∧
  (∀ (s : State) (d : ClockDom), d = .macen ∨ d = .mesh → s.rstLevel = 0 →
    ∃ t, exec (.lockLoss d) s = .next t ∧ t.rstLevel = 1 ∧ t.fld RCP_RESET_CAUSE.LAST_CAUSE 0 = 12) ∧
  (∀ (s : State) (c : Nat), c < 120 → (s.core c).flushing = false →
    ((s.core c).run ≠ .gated ∨ s.slotState c = 0 →
      ∃ t, exec (.lockLoss (.core c)) s = .next t ∧ tget false t.unlocked c = true ∧ (t.core c).run = .held) ∧
    ((s.core c).run = .gated → s.slotState c ≠ 0 →
      ∃ t, exec (.lockLoss (.core c)) s = .next t ∧ tget false t.unlocked c = true ∧ t.core c = s.core c)) ∧
  (∀ (s : State), exec (.lockLoss .ext) s = .next s) ∧
  (∀ (s : State) (ch : Nat), ch < 16 → s.fld MCT_CH_STATUS.STATE ch = 2 ∨ s.fld MCT_CH_STATUS.STATE ch = 3 →
    ∃ t, exec (.lockLoss (.chan ch)) s = .next t ∧ tget false t.unlocked (238 + ch) = true ∧ t.fld MCT_CH_STATUS.STATE ch = 4) ∧
  (∀ (s : State) (u : Nat), u < 84 →
    ∃ t, exec (.lockLoss (.block u)) s = .next t ∧ tget false t.unlocked (200 + u) = true ∧
      ∀ k ∈ unitSecs u, tget false t.lidHeld (lidIx (unitStop u).1 k) = true ∧ (s.lidState (unitStop u).1 k = 0 → t.lidState (unitStop u).1 k = 1)) ∧
  (∀ (s : State) (c : Nat), exec (.pllRelock (.core c)) s = .next { s with unlocked := tset false s.unlocked c false }) ∧
  (∀ (s : State) (ch : Nat), exec (.pllRelock (.chan ch)) s = .next { s with unlocked := tset false s.unlocked (238 + ch) false }) ∧
  (∀ (s : State) (d : ClockDom), d = .aon ∨ d = .sp ∨ d = .macen ∨ d = .mesh ∨ d = .ext → exec (.pllRelock d) s = .next s) ∧
  (∀ (s : State) (u : Nat), tget false s.unlocked (200 + u) = false → exec (.pllRelock (.block u)) s = .next s) ∧
  (∀ (s : State) (u : Nat), u < 84 → tget false s.unlocked (200 + u) = true →
    (∀ k ∈ unitSecs u, s.lidState (unitStop u).1 k = 1 ∨ s.lidState (unitStop u).1 k = 2) →
    ∃ t, exec (.pllRelock (.block u)) s = .next t ∧ tget false t.unlocked (200 + u) = false ∧ ∀ k ∈ unitSecs u, t.lidState (unitStop u).1 k = 0) ∧
  (∀ (s : State) (c : Nat) (us : List Nat), c < 120 → tget false s.regFailed c = false → (s.core c).flushing = false →
    (s.core c).run ≠ .gated ∨ s.slotState c = 0 →
    ∃ t, exec (.regulatorFault c us) s = .next t ∧ tget false t.regFailed c = true ∧ (t.core c).run = .held) ∧
  (∀ (s : State) (reg u : Nat), 132 ≤ reg → reg < 144 → tget false s.regFailed reg = false → u < 84 →
    ∃ t, exec (.regulatorFault reg [u]) s = .next t ∧ tget false t.regFailed reg = true ∧
      ∀ k ∈ unitSecs u, tget false t.lidHeld (lidIx (unitStop u).1 k) = true ∧ (s.lidState (unitStop u).1 k = 0 → t.lidState (unitStop u).1 k = 1)) ∧
  (∀ (s : State) (reg : Nat) (us : List Nat), 120 ≤ reg → reg < 132 → tget false s.regFailed reg = false →
    (∀ k, k < 12 → tget false s.regFailed (120 + k) = false) → s.canPend 1609 →
    ∃ t, exec (.regulatorFault reg us) s = .next t ∧ tget false t.regFailed reg = true ∧ t.pend = s.pend ++ [s.entryOf 1609] ∧
      t.rstLevel = s.rstLevel) ∧
  (∀ (s : State) (reg k : Nat) (us : List Nat), 120 ≤ reg → reg < 132 → tget false s.regFailed reg = false → k < 12 →
    tget false s.regFailed (120 + k) = true → s.rstLevel = 0 →
    ∃ t, exec (.regulatorFault reg us) s = .next t ∧ t.rstLevel = 1 ∧ t.fld RCP_RESET_CAUSE.LAST_CAUSE 0 = 12) ∧
  (∀ (s : State) (rail : Nat), rail < 5 → s.canPend (1610 + rail) →
    ∃ t, exec (.railNearEdge rail) s = .next t ∧ t.pend = s.pend ++ [s.entryOf (1610 + rail)]) ∧
  (∀ (s : State), s.pfw = false → s.canPend 1600 →
    ∃ t, exec .powerFailWarning s = .next t ∧ t.pfw = true ∧ s.entryOf 1600 ∈ t.pend) ∧
  (∀ (s : State), s.pfw = true → ∃ t, exec .pfwNRelease s = .next t ∧ t.pfw = false)

/-- The power and watchdog commands complete (R50, R445 to R449, R451, R452): a TARGET starts a change of P-state and the change ends at its goal, a
block goes down through its Lid and comes up, a core is gated, the package idles and wakes, PROCHOT_N and the sensors start and end the throttle,
and a watchdog is kicked, warns at half its period and resets its partition or the device. -/
def Obligations.PowerComplete : Prop :=
  (∀ (s : State) (ag : Agent) (p : Nat) (w : W), s.gate ag .RCP_PSTATE p (some w) = .pass → p < 16 →
    (s.regWrite .RCP_PSTATE p w).fld RCP_PSTATE.THROTTLED p = 0 → (s.regWrite .RCP_PSTATE p w).fld RCP_PSTATE.CHANGING p = 0 →
    (s.regWrite .RCP_PSTATE p w).fld RCP_PSTATE.TARGET p ≠ (s.regWrite .RCP_PSTATE p w).fld RCP_PSTATE.CURRENT p →
    ∃ t, exec (.target ag p w) s = .next t ∧ t.fld RCP_PSTATE.CHANGING p = 1 ∧
      tget 0 t.pGoal p = (s.regWrite .RCP_PSTATE p w).fld RCP_PSTATE.TARGET p ∧ t.rsp = { data := 0, status := 0 } ∧
      ((s.regWrite .RCP_PSTATE p w).fld RCP_PSTATE.CURRENT p < tget 0 t.pGoal p → tget false t.pStop p = true)) ∧
  (∀ (s : State) (ag : Agent) (p : Nat) (w : W), s.gate ag .RCP_PSTATE p (some w) = .pass → p < 16 →
    ((s.regWrite .RCP_PSTATE p w).fld RCP_PSTATE.CHANGING p = 1 ∨
      (s.regWrite .RCP_PSTATE p w).pWanted p = (s.regWrite .RCP_PSTATE p w).fld RCP_PSTATE.CURRENT p) →
    ∃ t, exec (.target ag p w) s = .next t ∧ t.rd .RCP_PSTATE p = (s.regWrite .RCP_PSTATE p w).rd .RCP_PSTATE p ∧ t.pGoal = s.pGoal ∧
      t.rsp = { data := 0, status := 0 }) ∧
  (∀ (s : State) (p goal cur : Nat), p < 16 → s.fld RCP_PSTATE.CHANGING p = 1 → tget 0 s.pGoal p = goal → goal < 4 →
    s.fld RCP_PSTATE.CURRENT p = cur →
    (tget false s.pStop p = true → goal < cur → s.pWanted p = goal →
      ∃ t, exec (.pstateChangeDone p) s = .next t ∧ t.fld RCP_PSTATE.CHANGING p = 0 ∧ t.fld RCP_PSTATE.CURRENT p = goal ∧
        tget false t.pStop p = false) ∧
    (tget false s.pStop p = true → cur ≤ goal →
      ∃ t, exec (.pstateChangeDone p) s = .next t ∧ t.fld RCP_PSTATE.CHANGING p = 1 ∧ t.fld RCP_PSTATE.CURRENT p = goal ∧
        tget false t.pStop p = false) ∧
    (tget false s.pStop p = false → cur ≠ goal →
      ∃ t, exec (.pstateChangeDone p) s = .next t ∧ t.fld RCP_PSTATE.CHANGING p = 1 ∧ t.fld RCP_PSTATE.CURRENT p = cur ∧
        tget false t.pStop p = true) ∧
    (tget false s.pStop p = false → cur = goal → s.pWanted p = goal →
      ∃ t, exec (.pstateChangeDone p) s = .next t ∧ t.fld RCP_PSTATE.CHANGING p = 0 ∧ t.fld RCP_PSTATE.CURRENT p = goal)) ∧
  (∀ (s : State) (ag : Agent) (u : Nat) (w : W), s.gate ag .RCP_BLOCK_CTL u (some w) = .pass → u < 84 →
    (s.regWrite .RCP_BLOCK_CTL u w).fld RCP_BLOCK_CTL.PWR_ON u = 0 → s.fld RCP_BLOCK_CTL.STATE u = 0 → votedUnit u = false ∨ s.votes = 0 →
    ∃ t, exec (.pwrOn ag u w) s = .next t ∧ t.fld RCP_BLOCK_CTL.STATE u = 1 ∧
      ∀ k ∈ unitSecs u, s.lidState (unitStop u).1 k = 0 → t.lidState (unitStop u).1 k = 1) ∧
  (∀ (s : State) (ag : Agent) (u : Nat) (w : W), s.gate ag .RCP_BLOCK_CTL u (some w) = .pass → u < 84 →
    (s.regWrite .RCP_BLOCK_CTL u w).fld RCP_BLOCK_CTL.PWR_ON u = 1 → s.fld RCP_BLOCK_CTL.STATE u = 2 →
    ∃ t, exec (.pwrOn ag u w) s = .next t ∧ t.fld RCP_BLOCK_CTL.STATE u = 3) ∧
  (∀ (s : State) (u : Nat), u < 84 → s.fld RCP_BLOCK_CTL.STATE u = 1 → s.unitClosed u = true →
    ∃ t, exec (.powerGateDone u) s = .next t ∧ t.fld RCP_BLOCK_CTL.STATE u = (if s.fld RCP_BLOCK_CTL.PWR_ON u = 1 then 3 else 2)) ∧
  (∀ (s : State) (u : Nat), u < 84 → s.fld RCP_BLOCK_CTL.STATE u = 0 → s.fld RCP_BLOCK_CTL.PWR_ON u = 0 → votedUnit u = false ∨ s.votes = 0 →
    ∃ t, exec (.powerGateDone u) s = .next t ∧ t.fld RCP_BLOCK_CTL.STATE u = 1) ∧
  (∀ (s : State) (u : Nat), u < 84 → s.fld RCP_BLOCK_CTL.STATE u = 3 → s.fld RCP_BLOCK_CTL.PWR_ON u = 1 →
    ∃ t, exec (.powerUpDone u) s = .next t ∧ t.fld RCP_BLOCK_CTL.STATE u = 0 ∧
      (∀ k ∈ unitSecs u, s.lidState (unitStop u).1 k = 2 → t.lidState (unitStop u).1 k = 0) ∧
      (u = 22 ∨ u = 23 → s.fld CPH_STATUS.STATE (u - 22) ≠ 3 → t.fld CPH_STATUS.STATE (u - 22) = 1)) ∧
  (∀ (s : State) (c : Nat), (s.core c).run = .wfi → tget 0 s.mac.idle (s.core c).part ≠ 0 → s.coreHart c ≠ s.fld EVR_SRC_CFG.HART 1600 →
    s.pairOf c = none → (s.core c).sb = [] → (s.core c).l2 = [] → (s.core c).wb = [] → (s.core c).reqs = [] → c < 120 →
    s.lidState (tileNode (coreTile c)) (coreSlot c) ≤ 2 → s.outbound (tileNode (coreTile c)) (coreSlot c) = [] →
    s.accepted (tileNode (coreTile c)) (coreSlot c) = [] →
    ∃ t, exec (.corePowerGate c) s = .next t ∧ (t.core c).run = .gated ∧ (t.core c).tlb = [] ∧ (t.core c).l1d = [] ∧ (t.core c).pc = (s.core c).pc ∧
      (t.core c).x = (s.core c).x) ∧
  (∀ (s : State), (∀ c, c < 120 → s.slotState c ≠ 0 ∨ (s.core c).run = .wfi ∨ (s.core c).run = .gated) → s.pfw = false →
    (∀ p, p < 16 → s.fld RCP_PSTATE.CHANGING p = 0) →
    ∃ t, exec .packageIdleEntry s = .next t ∧ t.pkgIdle = true ∧
      ∀ ch, ch < 16 → s.fld MCT_CH_STATUS.STATE ch = 2 → (s.chan ch).reads = [] → t.fld MCT_CH_STATUS.STATE ch = 3) ∧
  (∀ (s : State), s.pkgIdle = true →
    ∃ t, exec .packageIdleExit s = .next t ∧ t.pkgIdle = false ∧
      ∀ ch, ch < 16 → s.fld MCT_CH_STATUS.STATE ch = 3 → t.fld MCT_CH_STATUS.STATE ch = 2) ∧
  (∀ (s : State), s.prochotLow = false → s.fld RCP_THERMAL.THROTTLE 0 = 0 →
    ∃ t, exec (.prochotN true) s = .next t ∧ t.prochotLow = true ∧ t.fld RCP_THERMAL.PROCHOT 0 = 1 ∧ t.fld RCP_THERMAL.THROTTLE 0 = 1 ∧
      ∀ p, p < 16 → t.fld RCP_PSTATE.THROTTLED p = 1) ∧
  (∀ (s : State), ∃ t, exec (.prochotN false) s = .next t ∧ t.prochotLow = false ∧ t.fld RCP_THERMAL.PROCHOT 0 = 0 ∧
    t.fld RCP_THERMAL.THROTTLE 0 = s.fld RCP_THERMAL.THROTTLE 0) ∧
  (∀ (s : State) (sensor : Nat) (tj : Int), 110 ≤ tj → s.fld RCP_THERMAL.THROTTLE 0 = 0 →
    ∃ t, exec (.throttleEntry sensor tj) s = .next t ∧ t.fld RCP_THERMAL.THROTTLE 0 = 1 ∧ t.fld RCP_THERMAL.TJ_MAX 0 = (tj % 256).toNat ∧
      t.fld RCP_THERMAL.HOT_SENSOR 0 = sensor % 48 ∧ ∀ p, p < 16 → t.fld RCP_PSTATE.THROTTLED p = 1) ∧
  (∀ (s : State) (sensor : Nat) (tj : Int), s.fld RCP_THERMAL.THROTTLE 0 = 1 → tj ≤ 105 → s.prochotLow = false →
    ∃ t, exec (.throttleExit sensor tj) s = .next t ∧ t.fld RCP_THERMAL.THROTTLE 0 = 0 ∧ ∀ p, p < 16 → t.fld RCP_PSTATE.THROTTLED p = 0) ∧
  (∀ (s : State) (ag : Agent) (wd : Nat) (w : W), s.gate ag .TMR_WDOG wd (some w) = .pass → s.fld TMR_WDOG.EN wd = 1 →
    (s.regWrite .TMR_WDOG wd w).fld TMR_WDOG.EN wd = 1 → field w 31 16 = 0x4B43 →
    ∃ t, exec (.kick ag wd w) s = .next t ∧ t.fld TMR_WDOG.REMAIN_MS wd = (s.regWrite .TMR_WDOG wd w).fld TMR_WDOG.PERIOD_MS wd ∧
      tget 0 t.wdogNs wd = 0 ∧ t.rsp = { data := 0, status := 0 }) ∧
  (∀ (s : State) (ag : Agent) (wd : Nat) (w : W), s.gate ag .TMR_WDOG wd (some w) = .pass → (s.regWrite .TMR_WDOG wd w).fld TMR_WDOG.EN wd = 0 →
    ∃ t, exec (.kick ag wd w) s = .next t ∧ t.fld TMR_WDOG.EN wd = 0 ∧ t.fld TMR_WDOG.REMAIN_MS wd = 0) ∧
  (∀ (s : State) (wd : Nat), wd < 16 → s.fld TMR_WDOG.EN wd = 1 → s.wdogFrozen wd = false → s.canPend (1280 + wd) →
    ∃ t, exec (.watchdogHalf wd) s = .next t ∧ t.pend = s.pend ++ [s.entryOf (1280 + wd)] ∧
      t.fld TMR_WDOG.REMAIN_MS wd = (s.fld TMR_WDOG.PERIOD_MS wd + 1) / 2) ∧
  (∀ (s : State) (wd : Nat), wd < 16 → s.fld TMR_WDOG.EN wd = 1 → s.wdogFrozen wd = false → s.fld WPC_PART_CTL.STATE wd = 0 →
    s.fld WPC_PART_CFG.ESCALATE wd = 0 →
    ∃ t, exec (.watchdogExpiry wd) s = .next t ∧ t.fld TMR_WDOG.REMAIN_MS wd = 0 ∧ t.fld WPC_PART_CTL.STATE wd = 1 ∧
      t.fld WPC_PART_CTL.LAST_CAUSE wd = 1 ∧ tget 0 t.partStep wd = 2) ∧
  (∀ (s : State), s.fld TMR_WDOG.EN 16 = 1 → 3 ≤ s.relStep → s.rstLevel = 0 →
    ∃ t, exec (.watchdogExpiry 16) s = .next t ∧ t.rstLevel = 1 ∧ t.fld RCP_RESET_CAUSE.LAST_CAUSE 0 = 10)

/-- The mailbox pages, the error collector, Macen's restart and the sideband complete (R455, R457 to R460, R469, R473, R475, R476, R547): a ring
starts a command that passed its checks or holds the STATUS of the first that it failed, an acknowledgement clears a finished one, results and
operations become visible, a record is stored, a restart idles every page under a new generation, and the sideband moves bytes at its pointer. -/
def Obligations.MailboxComplete : Prop :=
  (∀ (s : State) (ag : Agent) (n code tag len chk : Nat) (w : W) (pay : List Byte), s.gate ag .MBX_DOORBELL n (some w) = .pass → n < 18 →
    field w 1 0 = 1 → s.fld MBX_STATUS.STATE n = 0 ∨ (s.fld MBX_STATUS.STATE n = 2 ∧ tag ≠ s.fld MBX_STATUS.TAG n) →
    ofLeBytes ((s.page n).reqBytes 0 2) = code → ofLeBytes ((s.page n).reqBytes 2 2) = tag →
    ofLeBytes ((s.page n).reqBytes 4 4) = len → (s.page n).reqBytes 16 (Nat.min len 28656) = pay →
    s.mbxCheck n code tag len (ofLeBytes ((s.page n).reqBytes 10 2)) pay = chk →
    ∃ t, exec (.ring ag n w) s = .next t ∧ t.rsp = { data := 0, status := 0 } ∧ t.fld MBX_STATUS.STATE n = 1 ∧ t.fld MBX_STATUS.TAG n = tag ∧
      t.fld MBX_STATUS.STATUS n = 1 ∧ (t.page n).rsp = [] ∧
      (t.page n).cur = some { code := code, tag := tag, payload := pay, res := if chk = 0 then none else some (chk, 0, []) }) ∧
  (∀ (s : State) (ag : Agent) (n : Nat) (w : W), s.gate ag .MBX_DOORBELL n (some w) = .pass → n < 18 → field w 1 0 = 1 →
    s.fld MBX_STATUS.STATE n = 1 →
    ∃ t, exec (.ring ag n w) s = .next t ∧ t.fld MBX_STATUS.OVERRUN n = 1 ∧ t.fld MBX_STATUS.STATE n = 1 ∧ t.pages = s.pages) ∧
  (∀ (s : State) (ag : Agent) (n : Nat) (w : W), s.gate ag .MBX_DOORBELL n (some w) = .pass → n < 18 → field w 1 0 = 1 →
    s.fld MBX_STATUS.STATE n = 2 → ofLeBytes ((s.page n).reqBytes 2 2) = s.fld MBX_STATUS.TAG n →
    ∃ t, exec (.ring ag n w) s = .next t ∧ t.fld MBX_STATUS.DUP n = 1 ∧ t.fld MBX_STATUS.STATE n = 2 ∧ t.pages = s.pages) ∧
  (∀ (s : State) (ag : Agent) (n : Nat) (w : W), s.gate ag .MBX_DOORBELL n (some w) = .pass → n < 18 → field w 1 0 = 2 →
    s.fld MBX_STATUS.STATE n = 2 →
    ∃ t, exec (.mbxAck ag n w) s = .next t ∧ t.fld MBX_STATUS.STATE n = 0 ∧ t.fld MBX_STATUS.TAG n = 0 ∧ t.fld MBX_STATUS.STATUS n = 0 ∧
      (t.page n).cur = none ∧ (t.page n).rsp = [] ∧ (t.page n).ops = (s.page n).ops) ∧
  (∀ (s : State) (n st det : Nat) (m : MbxCmd) (bs : List Byte), (s.page n).cur = some m → s.fld MBX_STATUS.STATE n = 1 → m.res = some (st, det, bs) →
    m.code ≠ 0x1001 → st < 2 ^ 16 →
    ∃ t, exec (.commandFinished n) s = .next t ∧ t.fld MBX_STATUS.STATE n = 2 ∧ t.fld MBX_STATUS.STATUS n = st ∧ (t.page n).cur = none ∧
      (t.page n).rsp = s.rspHeader n m.code m.tag bs.length st det ++ bs ∧
      (n < 18 → s.canPend (1472 + n) → t.pend = s.pend ++ [s.entryOf (1472 + n)])) ∧
  (∀ (s : State) (n id : Nat) (o : MbxOp) (a : Ans), (s.page n).ops.find? (fun o => o.id == id && !o.done) = some o → o.res = some a →
    ∃ t, exec (.operationFinished n id) s = .next t ∧ (∃ q ∈ (t.page n).ops, q.id = id ∧ q.done = true ∧ q.res = some a ∧ q.code = o.code) ∧
      (n < 18 → s.canPend (1472 + n) → t.pend = s.pend ++ [s.entryOf (1472 + n)])) ∧
  (∀ (s : State) (source unit cls code addr place : Nat), source < 48 → unit < 256 → cls < 4 → code < 4096 →
    ∃ t, exec (.errorRecord source unit cls code addr place) s = .next t ∧ s.recorded t source unit cls code (addr % 2 ^ 64)) ∧
  (∀ (s u : State) (n id : Nat) (o : MbxOp) (r : Option Ans), (s.page n).ops.find? (fun o => o.id == id && !o.done) = some o → s.opEnd o = (r, u) →
    (u.page n).ops = (s.page n).ops →
    ∃ t, exec (.operationFinished n id) s = .next t ∧ ∃ q ∈ (t.page n).ops, q.id = id ∧ q.done = r.isSome ∧ q.res = r ∧ q.code = o.code) ∧
  (∀ (s : State) (n st : Nat) (m : MbxCmd) (det : Nat) (bs : List Byte), (s.page n).cur = some m → s.fld MBX_STATUS.STATE n = 1 →
    m.res = some (st, det, bs) → m.code = 0x1001 → st = 0 →
    (s.fld RCP_PSTATE.CHANGING (pl m.payload 0 1) = 1 → exec (.commandFinished n) s = .next s) ∧
    (s.fld RCP_PSTATE.CHANGING (pl m.payload 0 1) ≠ 1 →
      ∃ t, exec (.commandFinished n) s = .next t ∧ t.fld MBX_STATUS.STATE n = 2 ∧ t.fld MBX_STATUS.STATUS n = 0 ∧ (t.page n).cur = none ∧
        (t.page n).rsp = s.rspHeader n m.code m.tag 8 st det ++ s.regBytes .RCP_PSTATE (pl m.payload 0 1))) ∧
  (∀ (s : State) (n : Nat), (s.page n).cur = none → exec (.commandFinished n) s = .next s) ∧
  (∀ (s : State) (ag : Agent) (n : Nat) (w : W), s.gate ag .MBX_DOORBELL n (some w) = .pass → n < 18 → field w 1 0 = 2 →
    (s.fld MBX_STATUS.STATE n = 1 →
      ∃ t, exec (.mbxAck ag n w) s = .next t ∧ t.fld MBX_STATUS.OVERRUN n = 1 ∧ t.fld MBX_STATUS.STATE n = 1 ∧ t.pages = s.pages) ∧
    (s.fld MBX_STATUS.STATE n = 0 →
      ∃ t, exec (.mbxAck ag n w) s = .next t ∧ t.fld MBX_STATUS.STATE n = 0 ∧ t.pages = s.pages ∧ t.rsp = { data := 0, status := 0 })) ∧
  (∀ (s : State), s.mac.restarts < 15 → s.mac.lastStart = 0 ∨ s.mac.lastStart + 1000000000 ≤ s.dtime + 1 →
    ∃ t, exec (.macenRestart []) s = .next t ∧ t.pages = [] ∧
      ((∀ f, s.boot.slot = some f → s.segDigestOk f ((s.segs f 2).headD {}) = true) →
        t.mac.restarts = s.mac.restarts + 1 ∧ t.mac.lastStart = s.dtime + 1 ∧ ∀ n, n < 19 → t.fld MBX_STATUS.STATE n = 0 ∧
          t.fld MBX_STATUS.GENERATION n = 1 + (s.fld RCP_RESET_CAUSE.TOTAL 0 * 16 + (s.mac.restarts + 1)) % 65535)) ∧
  (∀ (s : State), 15 ≤ s.mac.restarts → s.rstLevel = 0 →
    ∃ t, exec (.macenRestart []) s = .next t ∧ t.rstLevel = 1 ∧ t.fld RCP_RESET_CAUSE.LAST_CAUSE 0 = 8) ∧
  (∀ (s : State) (part : List (Nat × Nat)), 15 ≤ s.mac.restarts ∨ (s.mac.lastStart ≠ 0 ∧ s.dtime + 1 < s.mac.lastStart + 1000000000) →
    s.rstLevel = 0 →
    ∃ t, exec (.macenRestart part) s = .next t ∧ t.rstLevel = 1 ∧ t.fld RCP_RESET_CAUSE.LAST_CAUSE 0 = 8) ∧
  (∀ (s : State) (part : List (Nat × Nat)), s.mac.restarts < 15 → s.mac.lastStart = 0 ∨ s.mac.lastStart + 1000000000 ≤ s.dtime + 1 →
    ∃ t, exec (.macenRestart part) s = .next t ∧ t.pages = []) ∧
  (∀ (s : State) (w : Nat), 4 ≤ s.relStep → ∃ t, exec (.writeWord w true) s = .next t ∧ (t.page 18).ptr = w % 65536) ∧
  (∀ (s : State) (w : Nat), 4 ≤ s.relStep → tget 0 s.limits (2 ^ 22) = 0 →
    ∃ t, exec (.writeWord w false) s = .next t ∧ s.recorded t 0 0xFF 0 0xA01 1 ∧ t.pages = s.pages) ∧
  (∀ (s : State) (bs : List Byte), 4 ≤ s.relStep → bs ≠ [] → bs.length ≤ 32 → s.fld MBX_STATUS.STATE 18 ≠ 1 →
    ∃ t, exec (.blockWrite bs true) s = .next t ∧ (t.page 18).ptr = ((s.page 18).ptr + bs.length) % 65536 ∧
      ∀ i, i < bs.length → 0x1000 ≤ (s.page 18).ptr + i → (s.page 18).ptr + i < 0x8000 →
        tget 0 (t.page 18).req ((s.page 18).ptr + i - 0x1000) = bs.getD i 0) ∧
  (∀ (s : State), 4 ≤ s.relStep →
    ∃ t, exec (.blockRead true) s = .next t ∧ (t.page 18).ptr = ((s.page 18).ptr + 32) % 65536 ∧
      t.mac.smb = (List.range 32).map fun i => s.sideByte ((s.page 18).ptr + i)) ∧
  (∀ (s : State) (b : Byte), 4 ≤ s.relStep → b.toNat % 4 = 1 → s.fld MBX_STATUS.STATE 18 = 0 →
    ∃ t, exec (.writeByte b true) s = .next t ∧ t.fld MBX_STATUS.STATE 18 = 1 ∧ (t.page 18).cur.isSome = true) ∧
  (∀ (s : State) (b : Byte), 4 ≤ s.relStep → b.toNat % 4 = 2 → s.fld MBX_STATUS.STATE 18 = 2 →
    ∃ t, exec (.writeByte b true) s = .next t ∧ t.fld MBX_STATUS.STATE 18 = 0 ∧ (t.page 18).cur = none) ∧
  (∀ (s : State), ∃ t, exec .smbusTimeout s = .next t ∧ t.mac.smb = [] ∧ (t.page 18).ptr = 0) ∧
  (∀ (s : State), 4 ≤ s.relStep → tget 0 s.limits (2 ^ 22) = 0 →
    (∀ bs, bs ≠ [] → bs.length ≤ 32 →
      ∃ t, exec (.blockWrite bs false) s = .next t ∧ s.recorded t 0 0xFF 0 0xA01 2 ∧ t.pages = s.pages) ∧
    (∃ t, exec (.blockRead false) s = .next t ∧ s.recorded t 0 0xFF 0 0xA01 3 ∧ t.pages = s.pages) ∧
    (∀ b, ∃ t, exec (.writeByte b false) s = .next t ∧ s.recorded t 0 0xFF 0 0xA01 4 ∧ t.pages = s.pages)) ∧
  (∀ (s : State), s.relStep < 4 → ∀ w bs b pec, exec (.writeWord w pec) s = .next s ∧ exec (.blockWrite bs pec) s = .next s ∧
    exec (.blockRead pec) s = .next s ∧ exec (.writeByte b pec) s = .next s)

/-- The mailbox commands that read complete (R460, R461, R465 to R467, R483): each running one gets STATUS OK with the payload of R465, from the
registers, the records, the monitors and the page; FEATURES_SET keeps bit 0 and drops what is not offered; OP_STATUS frees an operation that is
done. -/
def Obligations.MailboxQueriesComplete : Prop :=
  (∀ (s : State) (n : Nat) (p : List Byte), s.runsCmd n 0x0001 p →
    ∃ t, exec (.featuresGet n) s = .next t ∧ t.hasResult n (0, 0, leBytes 32 (offered n) ++ leBytes 32 (s.page n).mask)) ∧
  (∀ (s : State) (n : Nat) (p : List Byte), s.runsCmd n 0x0002 p →
    ∃ t, exec (.featuresSet n) s = .next t ∧ (t.page n).mask = ((ofLeBytes p &&& offered n) ||| 1) ∧ t.hasResult n (0, 0, leBytes 32 (t.page n).mask)) ∧
  (∀ (s : State) (n : Nat) (p : List Byte) (o : MbxOp) (st det : Nat) (bs : List Byte), s.runsCmd n 0x0003 p →
    (s.page n).ops.find? (fun o => o.id == pl p 0 4) = some o → o.done = true → o.res = some (st, det, bs) →
    ∃ t, exec (.opStatus n) s = .next t ∧ (t.page n).ops = ((s.page n).ops.filter fun q => q.id != pl p 0 4) ∧
      t.hasResult n (0, 0, leBytes 4 (pl p 0 4) ++ leBytes 2 2 ++ leBytes 2 st ++ leBytes 4 det ++ leBytes 4 0 ++ bs)) ∧
  (∀ (s : State) (n : Nat) (p : List Byte), s.runsCmd n 0x0003 p → (s.page n).ops.find? (fun o => o.id == pl p 0 4) = none →
    ∃ t, exec (.opStatus n) s = .next t ∧ (t.page n).ops = (s.page n).ops ∧
      t.hasResult n (0, 0, leBytes 4 (pl p 0 4) ++ leBytes 2 0 ++ leBytes 2 0 ++ leBytes 4 0 ++ leBytes 4 0)) ∧
  (∀ (s : State) (n : Nat) (p : List Byte), s.runsCmd n 0x0004 p →
    ∃ t, exec (.version n) s = .next t ∧ t.hasResult n (0, 0, leBytes 8 Config.macenVersion ++ leBytes 8 s.boot.seq ++ leBytes 2 1)) ∧
  (∀ (s : State) (n : Nat) (p : List Byte), s.runsCmd n 0x1002 p → pl p 0 1 < 16 →
    ∃ t, exec (.pstateGet n) s = .next t ∧ t.hasResult n (0, 0, leBytes 8 (s.regRead .RCP_PSTATE (pl p 0 1) none).toNat)) ∧
  (∀ (s : State) (n : Nat) (mw : List Nat) (p : List Byte), s.runsCmd n 0x1005 p →
    ∃ t, exec (.powerRead n mw) s = .next t ∧
      t.hasResult n (0, 0, (List.range 6).flatMap (fun i => leBytes 4 (mw.getD i 0)) ++ leBytes 1 (s.fld RCP_THERMAL.TJ_MAX 0))) ∧
  (∀ (s : State) (n : Nat) (p : List Byte), s.runsCmd n 0x1101 p → 1 ≤ pl p 8 2 → pl p 8 2 ≤ 1000 → 17 ≤ n → 1 ≤ pl p 0 8 →
    pl p 0 8 ≤ s.fld ERC_STATUS.LAST_SEQ 0 → s.fld ERC_STATUS.LAST_SEQ 0 ≤ 4096 →
    ∃ t, exec (.errlogRead n) s = .next t ∧ t.hasResult n
      (let rs := ((List.range (s.fld ERC_STATUS.LAST_SEQ 0 + 1 - pl p 0 8)).map fun i => tget {} s.records ((pl p 0 8 + i) % 4096)).take (pl p 8 2)
       (0, 0, leBytes 2 rs.length ++ leBytes 6 0 ++ rs.flatMap ErrRec.bytes))) ∧
  (∀ (s : State) (n : Nat) (p : List Byte), s.runsCmd n 0x1101 p → 1 ≤ pl p 8 2 → pl p 8 2 ≤ 1000 →
    (let last := s.fld ERC_STATUS.LAST_SEQ 0
     let oldest := Nat.max 1 (last - 4095)
     let start := Nat.max (pl p 0 8) oldest
     let rs := (((List.range (last + 1 - start)).map fun i => tget {} s.records ((start + i) % 4096)).filter fun r => s.recordScope n r).take (pl p 8 2)
     ∃ t, exec (.errlogRead n) s = .next t ∧
       t.hasResult n (0, if 0 < last then oldest - Nat.max 1 (pl p 0 8) else 0, leBytes 2 rs.length ++ leBytes 6 0 ++ rs.flatMap ErrRec.bytes))) ∧
  (∀ (s : State) (n : Nat) (p : List Byte) (o : MbxOp), s.runsCmd n 0x0003 p →
    (s.page n).ops.find? (fun o => o.id == pl p 0 4) = some o → o.done = false →
    ∃ t, exec (.opStatus n) s = .next t ∧ (t.page n).ops = (s.page n).ops ∧
      t.hasResult n (0, 0, leBytes 4 (pl p 0 4) ++ leBytes 2 1 ++ leBytes 2 9 ++ leBytes 4 0 ++ leBytes 4 0)) ∧
  (∀ (s : State) (n : Nat) (p : List Byte), s.runsCmd n 0x1201 p →
    ∃ t, exec (.sparesGet n) s = .next t ∧ t.hasResult n (0, 0, (List.range 24).flatMap (fun i => leBytes 8 (s.regRead .TILE_CORE_MAP i none).toNat) ++
      (List.range 16).map (fun ch => BitVec.ofNat 8 (s.fld MCT_CH_STATUS.SPARE ch)) ++
      (List.range 8).map (fun q => BitVec.ofNat 8 (s.fld FAB_PORT_STATUS.SPARE_USE q)) ++ leBytes 2 s.logFree.length)) ∧
  (∀ (s : State) (n : Nat) (p : List Byte), s.runsCmd n 0x1202 p → 1 ≤ pl p 2 2 → pl p 0 2 + pl p 2 2 ≤ 580 →
    ∃ t, exec (.ageingGet n) s = .next t ∧ t.hasResult n (0, 0, (List.range (pl p 2 2)).flatMap fun i => s.monBytes (pl p 0 2 + i))) ∧
  (∀ (s : State) (n : Nat) (p : List Byte), s.runsCmd n 0x1303 p → pl p 0 1 < 16 →
    ∃ t, exec (.partStatus n) s = .next t ∧ t.hasResult n (0, 0, leBytes 8 (s.regRead .WPC_PART_CTL (pl p 0 1) none).toNat ++
      leBytes 12 ((List.range 96).foldl (fun m h => if s.hartPart1 h = pl p 0 1 then m + 2 ^ h else m) 0))) ∧
  (∀ (s : State) (n : Nat) (p : List Byte), s.runsCmd n 0x1503 p → pl p 0 1 < 8 →
    ∃ t, exec (.portGet n) s = .next t ∧ t.hasResult n (0, 0, leBytes 8 (s.regRead .FAB_PORT_STATUS (pl p 0 1) none).toNat)) ∧
  (∀ (s : State) (n : Nat) (p : List Byte), s.runsCmd n 0x1606 p → pl p 0 1 < 64 → pl p 1 1 < 64 →
    ∃ t, exec (.replGet n) s = .next t ∧ t.hasResult n (0, 0, s.regBytes .JRN_REPL_STATE (pl p 0 1) ++ s.regBytes .JRN_REPL_HELD (2 * pl p 0 1) ++
      s.regBytes .JRN_REPL_HELD (2 * pl p 0 1 + 1) ++ s.regBytes .SPN_STREAM_WMARK (pl p 0 1) ++ s.regBytes .SPN_STREAM_ASSIGNED (pl p 0 1) ++
      s.regBytes .JRN_RSLOT_CFG (pl p 1 1) ++ s.regBytes .JRN_RSLOT_HELD (pl p 1 1) ++ s.regBytes .JRN_RSLOT_GASP (pl p 1 1))) ∧
  (∀ (s : State) (n : Nat) (p : List Byte), s.runsCmd n 0x1A01 p → (∀ q, q < 8 → s.fld FAB_PORT_STATUS.TIME_FAULT q = 0) →
    ∃ t, exec (.timeGet n) s = .next t ∧
      t.hasResult n (0, 0, leBytes 8 s.dtime ++ leBytes 8 (s.regRead .RCP_RTC 0 none).toNat ++ leBytes 1 (s.fld FAB_NODE.GM 0))) ∧
  (∀ (s : State) (n q : Nat) (p : List Byte), s.runsCmd n 0x1A01 p → q < 8 → s.fld FAB_PORT_STATUS.TIME_FAULT q = 1 →
    ∃ t, exec (.timeGet n) s = .next t ∧
      t.hasResult n (0, 0, leBytes 8 s.dtime ++ leBytes 8 (s.regRead .RCP_RTC 0 none).toNat ++ leBytes 1 (s.fld FAB_NODE.GM 0 + 2)))

/-- A running mailbox command whose payload is outside its range answers BAD_LENGTH, and one that R465 to R467 do not permit now answers DENIED
or NO_RESOURCE; neither changes a register (R456, R463, R465 to R467, R486). -/
def Obligations.MailboxRangesRefused : Prop :=
  ∀ (s : State) (n : Nat) (p : List Byte),
    (s.runsCmd n 0x1001 p → 16 ≤ pl p 0 1 ∨ 4 ≤ pl p 1 1 → ∃ t, exec (.pstateSet n) s = .next t ∧ t.hasResult n (3, 0, []) ∧ t.regs = s.regs) ∧
    (s.runsCmd n 0x1002 p → 16 ≤ pl p 0 1 → ∃ t, exec (.pstateGet n) s = .next t ∧ t.hasResult n (3, 0, [])) ∧
    (s.runsCmd n 0x1003 p → 84 ≤ pl p 0 2 ∨ 2 ≤ pl p 2 1 → ∃ t, exec (.blockPower n) s = .next t ∧ t.hasResult n (3, 0, []) ∧ t.regs = s.regs) ∧
    (s.runsCmd n 0x1003 p → pl p 0 2 < 84 → pl p 2 1 < 2 → s.locked RCP_BLOCK_CTL.PWR_ON (pl p 0 2) 0 = true →
      ∃ t, exec (.blockPower n) s = .next t ∧ t.hasResult n (5, 0, []) ∧ t.regs = s.regs) ∧
    (s.runsCmd n 0x1004 p → 16 ≤ pl p 0 1 ∨ (pl p 4 4 ≠ 0 ∧ (pl p 4 4 < 100 ∨ 1000000 < pl p 4 4)) →
      ∃ t, exec (.idlePolicy n) s = .next t ∧ t.hasResult n (3, 0, []) ∧ t.mac.idle = s.mac.idle) ∧
    (s.runsCmd n 0x1101 p → pl p 8 2 = 0 ∨ 1000 < pl p 8 2 → ∃ t, exec (.errlogRead n) s = .next t ∧ t.hasResult n (3, 0, [])) ∧
    (s.runsCmd n 0x1202 p → pl p 2 2 = 0 ∨ 580 < pl p 0 2 + pl p 2 2 → ∃ t, exec (.ageingGet n) s = .next t ∧ t.hasResult n (3, 0, [])) ∧
    (s.runsCmd n 0x1203 p → 96 ≤ pl p 0 1 ∨ (5 ≤ pl p 1 1 ∧ pl p 1 1 ≠ 0xFF) →
      ∃ t, exec (.coreSwap n) s = .next t ∧ t.hasResult n (3, 0, []) ∧ t.mac.swaps = s.mac.swaps) ∧
    (s.runsCmd n 0x1203 p → pl p 0 1 < 96 → pl p 1 1 < 5 ∨ pl p 1 1 = 0xFF → (s.swapOf (pl p 0 1 / 4)).phase = 0 → s.swapBegin p = none →
      ∃ t, exec (.coreSwap n) s = .next t ∧ t.hasResult n (6, 0, []) ∧ t.mac.swaps = s.mac.swaps) ∧
    (s.runsCmd n 0x1301 p → 16 ≤ pl p 0 1 ∨ 2 ≤ pl p 1 1 → ∃ t, exec (.partReset n) s = .next t ∧ t.hasResult n (3, 0, []) ∧ t.regs = s.regs) ∧
    (s.runsCmd n 0x1301 p → pl p 0 1 < 16 → pl p 1 1 < 2 → s.fld WPC_PART_CTL.STATE (pl p 0 1) ≠ 0 →
      ∃ t, exec (.partReset n) s = .next t ∧ t.hasResult n (5, 0, []) ∧ t.regs = s.regs) ∧
    (s.runsCmd n 0x1302 p → 96 ≤ pl p 0 1 → ∃ t, exec (.hartRelease n) s = .next t ∧ t.hasResult n (3, 0, []) ∧ t.regs = s.regs) ∧
    (∀ c, s.runsCmd n 0x1302 p → pl p 0 1 < 96 → s.hartCore (pl p 0 1) = some c → (s.core c).run ≠ .held →
      ∃ t, exec (.hartRelease n) s = .next t ∧ t.hasResult n (5, 0, []) ∧ t.cores = s.cores) ∧
    (s.runsCmd n 0x1303 p → 16 ≤ pl p 0 1 → ∃ t, exec (.partStatus n) s = .next t ∧ t.hasResult n (3, 0, [])) ∧
    (s.runsCmd n 0x1401 p → pl p 0 8 % 2 ^ 21 ≠ 0 ∨ pl p 8 4 = 0 ∨ 4194304 < pl p 8 4 ∨ 2 ^ 43 < pl p 0 8 + pl p 8 4 * 2 ^ 21 →
      ∃ t, exec (.wtAssign n) s = .next t ∧ t.hasResult n (3, 0, []) ∧ t.mem = s.mem) ∧
    (s.runsCmd n 0x1402 p → 6432 ≤ pl p 0 4 → ∃ t, exec (.ownerSet n) s = .next t ∧ t.hasResult n (3, 0, []) ∧ t.regs = s.regs) ∧
    (s.runsCmd n 0x1501 p → 16384 < pl p 0 2 + pl p 2 2 → ∃ t, exec (.routeSet n) s = .next t ∧ t.hasResult n (3, 0, []) ∧ t.regs = s.regs) ∧
    (s.runsCmd n 0x1502 p → 8 ≤ pl p 0 1 → ∃ t, exec (.portSet n) s = .next t ∧ t.hasResult n (3, 0, []) ∧ t.regs = s.regs) ∧
    (s.runsCmd n 0x1503 p → 8 ≤ pl p 0 1 → ∃ t, exec (.portGet n) s = .next t ∧ t.hasResult n (3, 0, [])) ∧
    (s.runsCmd n 0x1601 p → 64 ≤ pl p 0 1 → ∃ t, exec (.replCfg n) s = .next t ∧ t.hasResult n (3, 0, []) ∧ t.regs = s.regs) ∧
    (s.runsCmd n 0x1602 p → 64 ≤ pl p 0 1 ∨ 64 ≤ pl p 1 1 ∨ 2 ≤ pl p 2 1 →
      ∃ t, exec (.promote n) s = .next t ∧ t.hasResult n (3, 0, []) ∧ t.regs = s.regs) ∧
    (s.runsCmd n 0x1603 p → 64 ≤ pl p 0 1 → ∃ t, exec (.mbxStepDown n) s = .next t ∧ t.hasResult n (3, 0, []) ∧ t.regs = s.regs) ∧
    (s.runsCmd n 0x1604 p → 64 ≤ pl p 0 1 → ∃ t, exec (.slotArm n) s = .next t ∧ t.hasResult n (3, 0, []) ∧ t.regs = s.regs) ∧
    (s.runsCmd n 0x1605 p → 64 ≤ pl p 0 1 → ∃ t, exec (.slotDisarm n) s = .next t ∧ t.hasResult n (3, 0, []) ∧ t.regs = s.regs) ∧
    (s.runsCmd n 0x1606 p → 64 ≤ pl p 0 1 ∨ 64 ≤ pl p 1 1 → ∃ t, exec (.replGet n) s = .next t ∧ t.hasResult n (3, 0, [])) ∧
    (s.runsCmd n 0x1701 p → 16 ≤ pl p 0 1 ∨ 2 ≤ pl p 1 1 ∨ pl p 2 1 < 12 ∨ 40 < pl p 2 1 ∨ pl p 4 4 = 0 ∨ 1000000 < pl p 4 4 →
      ∃ t, exec (.ladleSet n) s = .next t ∧ t.hasResult n (3, 0, []) ∧ t.regs = s.regs) ∧
    (s.runsCmd n 0x1801 p → 2 ≤ pl p 0 1 ∨ 63 * 2 ^ 20 < pl p 4 4 + pl p 8 4 →
      ∃ t, exec (.imageWrite n) s = .next t ∧ t.hasResult n (3, 0, []) ∧ t.flash = s.flash) ∧
    (s.runsCmd n 0x1801 p → pl p 0 1 < 2 → pl p 4 4 + pl p 8 4 ≤ 63 * 2 ^ 20 → s.boot.slot = some (pl p 0 1) →
      ∃ t, exec (.imageWrite n) s = .next t ∧ t.hasResult n (5, 0, []) ∧ t.flash = s.flash)

/-- The mailbox commands that act complete (R465 to R467, R485, R486, R524): each running one does what R465 gives it and gets its result, or
becomes an operation under the next OP_ID; one that writes a register does what Macen's own write of that register does; one that the SP serves
gets the SP's answer. -/
def Obligations.MailboxCommandsComplete : Prop :=
  (∀ (s : State) (n : Nat) (p : List Byte), s.runsCmd n 0x1001 p → pl p 0 1 < 16 → pl p 1 1 < 4 →
    ∃ t, exec (.pstateSet n) s = .next t ∧ t.hasResult n (0, 0, []) ∧ t.fld RCP_PSTATE.TARGET (pl p 0 1) = pl p 1 1) ∧
  (∀ (s : State) (n : Nat) (p : List Byte), s.runsCmd n 0x1003 p → pl p 0 2 < 84 → pl p 2 1 < 2 → s.locked RCP_BLOCK_CTL.PWR_ON (pl p 0 2) 0 = false →
    ∃ t, exec (.blockPower n) s = .next t ∧ s.startedOp t n 0x1003 p true none ∧ t.fld RCP_BLOCK_CTL.PWR_ON (pl p 0 2) = pl p 2 1 ∧
      (pl p 2 1 = 1 → s.fld RCP_BLOCK_CTL.STATE (pl p 0 2) = 2 → t.fld RCP_BLOCK_CTL.STATE (pl p 0 2) = 3)) ∧
  (∀ (s : State) (n : Nat) (p : List Byte), s.runsCmd n 0x1004 p → pl p 0 1 < 16 → pl p 4 4 = 0 ∨ (100 ≤ pl p 4 4 ∧ pl p 4 4 ≤ 1000000) →
    ∃ t, exec (.idlePolicy n) s = .next t ∧ t.hasResult n (0, 0, []) ∧ tget 0 t.mac.idle (pl p 0 1) = pl p 4 4) ∧
  (∀ (s : State) (n c : Nat) (p : List Byte), s.runsCmd n 0x1203 p → pl p 0 1 < 96 → pl p 1 1 < 5 → s.hartCore (pl p 0 1) = some c →
    (s.swapOf (pl p 0 1 / 4)).phase = 0 → s.slotState (5 * coreTile c + pl p 1 1) = 1 →
    ∃ t, exec (.coreSwap n) s = .next t ∧ s.startedOp t n 0x1203 p true none ∧
      t.swapOf (coreTile c) = { phase := if s.swapMay (coreTile c) (coreSlot c) then 2 else 1, old := coreSlot c, new := pl p 1 1, why := 2 }) ∧
  (∀ (s : State) (n c m : Nat) (p : List Byte), s.runsCmd n 0x1203 p → pl p 0 1 < 96 → pl p 1 1 = 0xFF → s.hartCore (pl p 0 1) = some c →
    (s.swapOf (pl p 0 1 / 4)).phase = 0 → s.spareOf (coreTile c) = some m →
    ∃ t, exec (.coreSwap n) s = .next t ∧ s.startedOp t n 0x1203 p true none ∧
      t.swapOf (coreTile c) = { phase := if s.swapMay (coreTile c) (coreSlot c) then 2 else 1, old := coreSlot c, new := m, why := 2 }) ∧
  (∀ (s : State) (n : Nat) (p : List Byte), s.runsCmd n 0x1203 p → pl p 0 1 < 96 → pl p 1 1 < 5 ∨ pl p 1 1 = 0xFF →
    (s.swapOf (pl p 0 1 / 4)).phase ≠ 0 →
    ∃ t, exec (.coreSwap n) s = .next t ∧ s.startedOp t n 0x1203 p false none ∧ t.mac.swaps = s.mac.swaps) ∧
  (∀ (s : State) (n : Nat) (p : List Byte), n < 16 → s.runsCmd n 0x1301 p → pl p 0 1 < 16 → pl p 1 1 < 2 → s.fld WPC_PART_CTL.STATE (pl p 0 1) = 0 →
    s.fld WPC_PART_CFG.ESCALATE (pl p 0 1) = 0 →
    ∃ t, exec (.partReset n) s = .next t ∧ t.fld WPC_PART_CTL.STATE (pl p 0 1) = 1 ∧ t.fld WPC_PART_CTL.HOLD (pl p 0 1) = pl p 1 1 ∧
      t.fld WPC_PART_CTL.LAST_CAUSE (pl p 0 1) = 3 ∧ t.hasResult n (0, 0, t.regBytes .WPC_PART_CTL (pl p 0 1))) ∧
  (∀ (s : State) (n : Nat) (p : List Byte), 16 ≤ n → s.runsCmd n 0x1301 p → pl p 0 1 < 16 → pl p 1 1 < 2 → s.fld WPC_PART_CTL.STATE (pl p 0 1) = 0 →
    s.fld WPC_PART_CFG.ESCALATE (pl p 0 1) = 0 →
    ∃ t, exec (.partReset n) s = .next t ∧ t.fld WPC_PART_CTL.STATE (pl p 0 1) = 1 ∧ s.startedOp t n 0x1301 p true none) ∧
  (∀ (s : State) (n c : Nat) (p : List Byte), s.runsCmd n 0x1302 p → pl p 0 1 < 96 → s.hartCore (pl p 0 1) = some c → (s.core c).run = .held →
    (s.core c).flushing = false → (s.core c).resumeAt = none → s.coreHart c < 96 → s.slotState c = 0 → tget false s.unlocked c = false →
    s.slotFailed c = false →
    s.fld DBG_CORE_CTL.RESETHALT (s.coreHart c) = 0 →
    ∃ t, exec (.hartRelease n) s = .next t ∧ t.hasResult n (0, 0, []) ∧ (t.core c).run = .running ∧ (t.core c).mode = .m ∧
      (t.core c).pc = s.rd .TILE_RESET_VEC c &&& ~~~(3 : W)) ∧
  (∀ (s : State) (n : Nat) (p : List Byte), s.runsCmd n 0x1401 p → pl p 0 8 % 2 ^ 21 = 0 → 1 ≤ pl p 8 4 → pl p 8 4 ≤ 4194304 →
    pl p 0 8 + pl p 8 4 * 2 ^ 21 ≤ 2 ^ 43 → pl p 12 1 / 32 % 4 = 0 → s.isDram (s.fld WPC_CFG.WT_BASE 0 * 2 ^ 22) = true →
    (s.wtAssign p (pl p 8 4)).fld WPC_SYNC.BUSY 0 = 0 →
    ∃ t, exec (.wtAssign n) s = .next t ∧ t.mem = (s.wtAssign p (pl p 8 4)).mem ∧ t.l3 = (s.wtAssign p (pl p 8 4)).l3 ∧
      t.fld WPC_SYNC.BUSY 0 = 1 ∧ t.fld WPC_SYNC.DONE 0 = 0 ∧ s.startedOp t n 0x1401 p true none) ∧
  (∀ (s : State) (n : Nat) (p : List Byte), s.runsCmd n 0x1402 p → pl p 0 4 < 6432 → ownerRange (pl p 0 4) = none →
    (s.macSet .WPC_OWNER (pl p 0 4) (BitVec.ofNat 64 (pl p 4 8))).1 = true →
    ∃ t, exec (.ownerSet n) s = .next t ∧ s.startedOp t n 0x1402 p true (some (0, 0, [])) ∧
      t.rd .WPC_OWNER (pl p 0 4) = (s.regWrite .WPC_OWNER (pl p 0 4) (BitVec.ofNat 64 (pl p 4 8))).rd .WPC_OWNER (pl p 0 4)) ∧
  (∀ (s : State) (n a b : Nat) (p : List Byte), s.runsCmd n 0x1402 p → pl p 0 4 < 6432 → ownerRange (pl p 0 4) = some (a, b) →
    (s.macSet .WPC_OWNER (pl p 0 4) (BitVec.ofNat 64 (pl p 4 8))).1 = true → s.fld WPC_SYNC.BUSY 0 = 0 →
    ∃ t, exec (.ownerSet n) s = .next t ∧ s.startedOp t n 0x1402 p true none ∧ t.fld WPC_SYNC.BUSY 0 = 1 ∧
      t.rd .WPC_OWNER (pl p 0 4) = (s.regWrite .WPC_OWNER (pl p 0 4) (BitVec.ofNat 64 (pl p 4 8))).rd .WPC_OWNER (pl p 0 4)) ∧
  (∀ (s : State) (n : Nat) (p : List Byte), s.runsCmd n 0x1501 p → pl p 2 2 = 1 → pl p 0 2 < 16384 →
    s.gate .macen .FAB_ROUTE (pl p 0 2) (some (BitVec.ofNat 64 (pl p 4 8))) = .pass →
    ∃ t, exec (.routeSet n) s = .next t ∧ t.hasResult n (0, 0, []) ∧
      t.rd .FAB_ROUTE (pl p 0 2) = (s.regWrite .FAB_ROUTE (pl p 0 2) (BitVec.ofNat 64 (pl p 4 8))).rd .FAB_ROUTE (pl p 0 2)) ∧
  (∀ (s : State) (n : Nat) (p : List Byte), s.runsCmd n 0x1501 p → pl p 0 2 + pl p 2 2 ≤ 16384 → (s.routeSet p (pl p 2 2)).rsp.status = 0 →
    ∃ t, exec (.routeSet n) s = .next t ∧ t.hasResult n (0, 0, []) ∧ t.regs = (s.routeSet p (pl p 2 2)).regs) ∧
  (∀ (s u : State) (n : Nat) (p : List Byte), s.runsCmd n 0x1502 p → pl p 0 1 < 8 →
    s.gate .macen .FAB_PORT_CTL (pl p 0 1) (some (BitVec.ofNat 64 (pl p 8 8))) = .pass →
    exec (.enable .macen (pl p 0 1) (BitVec.ofNat 64 (pl p 8 8))) s = .next u →
    ∃ t, exec (.portSet n) s = .next t ∧ t.hasResult n (0, 0, u.regBytes .FAB_PORT_STATUS (pl p 0 1)) ∧ t.regs = u.regs ∧ t.ports = u.ports) ∧
  (∀ (s : State) (n : Nat) (p : List Byte), s.runsCmd n 0x1504 p → s.gate .macen .FAB_NODE 0 (some (BitVec.ofNat 64 (pl p 0 8))) = .pass →
    ∃ t, exec (.nodeSet n) s = .next t ∧ t.hasResult n (0, 0, t.regBytes .FAB_NODE 0) ∧
      t.fld FAB_NODE.NODE_ID 0 = (s.regWrite .FAB_NODE 0 (BitVec.ofNat 64 (pl p 0 8))).fld FAB_NODE.NODE_ID 0) ∧
  (∀ (s : State) (n : Nat) (p : List Byte), s.runsCmd n 0x1601 p → pl p 0 1 < 64 →
    s.gate .macen .JRN_REPL_CFG (pl p 0 1) (some (BitVec.ofNat 64 (pl p 8 8))) = .pass →
    s.gate .macen .JRN_REPL_MEMBERS (pl p 0 1) (some (BitVec.ofNat 64 (pl p 16 8))) = .pass →
    ∃ t, exec (.replCfg n) s = .next t ∧ t.hasResult n (0, 0, t.regBytes .JRN_REPL_STATE (pl p 0 1)) ∧
      t.rd .JRN_REPL_CFG (pl p 0 1) = (s.regWrite .JRN_REPL_CFG (pl p 0 1) (BitVec.ofNat 64 (pl p 8 8))).rd .JRN_REPL_CFG (pl p 0 1)) ∧
  (∀ (s : State) (n : Nat) (w : W) (p : List Byte), s.runsCmd n 0x1602 p → pl p 0 1 < 64 → pl p 1 1 < 64 → pl p 2 1 < 2 →
    w = putField (putField (putField (putField 0 47 16 (pl p 4 4)) 15 10 (pl p 1 1)) 9 9 (pl p 2 1)) 3 0 1 →
    s.gate .macen .JRN_REPL_STATE (pl p 0 1) (some w) = .pass →
    ∃ t, exec (.promote n) s = .next t ∧ s.startedOp t n 0x1602 p true none ∧
      t.rd .JRN_REPL_STATE (pl p 0 1) = (s.promoteWrite .macen (pl p 0 1) w).rd .JRN_REPL_STATE (pl p 0 1)) ∧
  (∀ (s : State) (n : Nat) (w : W) (p : List Byte), s.runsCmd n 0x1603 p → pl p 0 1 < 64 → w = putField (s.rd .JRN_REPL_STATE (pl p 0 1)) 3 0 2 →
    s.gate .macen .JRN_REPL_STATE (pl p 0 1) (some w) = .pass → s.fld JRN_REPL_STATE.STATE (pl p 0 1) = 1 →
    ∃ t, exec (.mbxStepDown n) s = .next t ∧ t.fld JRN_REPL_STATE.STATE (pl p 0 1) = 4 ∧ t.hasResult n (0, 0, t.regBytes .JRN_REPL_STATE (pl p 0 1))) ∧
  (∀ (s : State) (n i : Nat) (p : List Byte), s.runsCmd n 0x1604 p → pl p 0 1 = i → i < 64 →
    (∀ r ∈ [RegId.JRN_RSLOT_CFG, .JRN_RSLOT_REGION, .JRN_RSLOT_TERM, .JRN_RSLOT_HELD, .JRN_RSLOT_APPEND, .JRN_RSLOT_DRAIN],
      s.gate .macen r i (some 0) = .pass) →
    ∃ t, exec (.slotArm n) s = .next t ∧ t.fld JRN_RSLOT_CFG.VALID i = 1 ∧ t.hasResult n (0, 0, t.regBytes .JRN_RSLOT_CFG i)) ∧
  (∀ (s : State) (n i : Nat) (p : List Byte), s.runsCmd n 0x1605 p → pl p 0 1 = i → i < 64 → s.gate .macen .JRN_RSLOT_CFG i (some 0) = .pass →
    ∃ t, exec (.slotDisarm n) s = .next t ∧ t.fld JRN_RSLOT_CFG.VALID i = 0 ∧ t.hasResult n (0, 0, t.regBytes .JRN_RSLOT_CFG i)) ∧
  (∀ (s : State) (n i : Nat) (p : List Byte), s.runsCmd n 0x1701 p → pl p 0 1 = i → i < 16 → pl p 1 1 < 2 → 12 ≤ pl p 2 1 → pl p 2 1 ≤ 40 →
    1 ≤ pl p 4 4 → pl p 4 4 ≤ 1000000 → pl p 8 8 < 2 ^ 48 → pl p 8 8 % 2 ^ pl p 2 1 = 0 →
    s.gate .macen .LDL_PART_CFG i (some 0) = .pass →
    ∃ t, exec (.ladleSet n) s = .next t ∧ t.fld LDL_PART_CFG.EN i = pl p 1 1 ∧ t.fld LDL_PART_CFG.PERIOD_US i = pl p 4 4 ∧
      t.fld LDL_PART_CFG.SIZE_LOG2 i = pl p 2 1 ∧ t.fld LDL_PART_CFG.BASE i = pl p 8 8 / 4096 ∧ t.hasResult n (0, 0, [])) ∧
  (∀ (s : State) (n : Nat) (p : List Byte), s.runsCmd n 0x1801 p → pl p 0 1 < 2 → pl p 4 4 + pl p 8 4 ≤ 63 * 2 ^ 20 → s.boot.slot ≠ some (pl p 0 1) →
    ∃ t, exec (.imageWrite n) s = .next t ∧ s.startedOp t n 0x1801 p true (some (0, 0, [])) ∧
      t.flash = (s.flashPut (pl p 0 1) (bundleBase + pl p 4 4) ((p.drop 12).take (pl p 8 4))).flash) ∧
  (∀ (s : State) (n : Nat) (good : Bool) (p : List Byte), s.runsCmd n 0x0201 p →
    ∃ t, exec (.mbxImageArm n good) s = .next t ∧
      s.startedOp t n 0x0201 p true (some ((s.imageArm (pl p 0 1) (pl p 1 1) (pl p 2 2) good).1, 0, (s.imageArm (pl p 0 1) (pl p 1 1) (pl p 2 2) good).2.1)) ∧
      t.flash = (s.imageArm (pl p 0 1) (pl p 1 1) (pl p 2 2) good).2.2.flash) ∧
  (∀ (s : State) (n fails : Nat) (bad : List Nat) (p : List Byte), s.runsCmd n 0x0202 p →
    ∃ t, exec (.mbxTrialConfirm n fails bad) s = .next t ∧ t.hasResult n ((s.trialConfirm fails bad).1, 0, (s.trialConfirm fails bad).2.1) ∧
      t.boot = (s.trialConfirm fails bad).2.2.boot ∧ t.fuses = (s.trialConfirm fails bad).2.2.fuses) ∧
  (∀ (s : State) (n : Nat) (bad : List Nat) (p : List Byte), s.runsCmd n 0x0203 p →
    ∃ t, exec (.mbxRevokeImageKey n bad) s = .next t ∧ t.hasResult n ((s.revokeImage (pl p 0 1) bad).1, 0, (s.revokeImage (pl p 0 1) bad).2.1) ∧
      t.fuses = (s.revokeImage (pl p 0 1) bad).2.2.fuses) ∧
  (∀ (s : State) (n : Nat) (p : List Byte), s.runsCmd n 0x0401 p → ∃ t, exec (.mbxAttest n) s = .next t ∧ s.startedOp t n 0x0401 p false none) ∧
  (∀ (s : State) (n : Nat) (p : List Byte), s.runsCmd n 0x1A02 p → (s.macSet .RCP_RTC 0 (BitVec.ofNat 64 (pl p 0 8))).1 = true →
    ∃ t, exec (.rtcSet n) s = .next t ∧ t.hasResult n (0, 0, []) ∧ t.fld RCP_RTC.TICKS 0 = pl p 0 8 ∧ t.rtcAcc = 0)

/-- Admission and remote resets complete (R251, R252, R254, R421): a nonce is answered with evidence, evidence and results let a port in or
quarantine it with its ADMIT_ERR, the limit of 200 ms quarantines it, and a REMOTE_RESET is acknowledged or recorded and resets the node. Beyond
50 pieces of evidence per second a nonce waits; on a port that is not in ATTESTING a packet is only taken. -/
def Obligations.AdmissionComplete : Prop :=
  (∀ (s u : State) (p : Nat) (k : Pkt), s.takePkt 0x30 = some (p, k, u) → u.attesting p = true → k.data.length = 32 → u.evReady = true →
    ∃ t, exec .attestNonce s = .next t ∧ (t.port p).peerNonce = k.data ∧
      t.evidence = u.evidence.filter (fun a => u.dtime < a + 1000000000) ++ [u.dtime]) ∧
  (∀ (s u : State) (p : Nat) (k : Pkt), s.takePkt 0x31 = some (p, k, u) → u.attesting p = true → u.fld FAB_PORT_CTL.ENC p = 0 →
    ∃ t, exec .attestEvidence s = .next t ∧ (if u.evCheck p k.data = 0 then
        (t.port p).ownOk = true ∧ (t.port p).peerNode = evField k.data 62 2 % 2 ^ 14 ∧ (t.port p).epoch = 0
      else t.fld FAB_PORT_STATUS.STATE p = 5 ∧ t.fld FAB_PORT_STATUS.ADMIT_ERR p = u.evCheck p k.data ∧
        u.recorded t (portNode p) p 1 0x403 (u.evCheck p k.data))) ∧
  (∀ (s u : State) (p : Nat) (k : Pkt), s.takePkt 0x31 = some (p, k, u) → u.attesting p = true → u.fld FAB_PORT_CTL.ENC p ≠ 0 → u.evCheck p k.data = 0 →
    (∀ ep v, u.linkEpoch p = some (ep, v) →
      ∃ t, exec .attestEvidence s = .next t ∧ (t.port p).ownOk = true ∧ (t.port p).epoch = ep ∧ t.keys = v.keys) ∧
    (u.linkEpoch p = none →
      ∃ t, exec .attestEvidence s = .next t ∧ t.fld FAB_PORT_STATUS.STATE p = 5 ∧ t.fld FAB_PORT_STATUS.ADMIT_ERR p = 8 ∧
        u.recorded t (portNode p) p 1 0x403 8)) ∧
  (∀ (s u : State) (p : Nat) (k : Pkt), s.takePkt 0x30 = some (p, k, u) →
    (u.attesting p = true → k.data.length = 32 → u.evReady = false → exec .attestNonce s = .next s) ∧
    (u.attesting p = false ∨ k.data.length ≠ 32 → exec .attestNonce s = .next u)) ∧
  (∀ (s u : State) (p : Nat) (k : Pkt), u.attesting p = false →
    (s.takePkt 0x31 = some (p, k, u) → exec .attestEvidence s = .next u) ∧
    (s.takePkt 0x32 = some (p, k, u) → exec .attestResult s = .next u)) ∧
  (∀ (s u : State) (p : Nat) (k : Pkt), s.takePkt 0x32 = some (p, k, u) → u.attesting p = true → evField k.data 0 4 = 0 → (u.port p).ownOk = false →
    ∃ t, exec .attestResult s = .next t ∧ (t.port p).peerOk = true ∧ (t.port p).peerEpoch = evField k.data 4 4 ∧
      t.fld FAB_PORT_STATUS.STATE p = u.fld FAB_PORT_STATUS.STATE p) ∧
  (∀ (s u : State) (p : Nat) (k : Pkt), s.takePkt 0x38 = some (p, k, u) → u.remote.at_ ≠ 0 → u.dtime + 1 < u.remote.at_ + 10000000 →
    exec .remoteReset s = .next u) ∧
  (∀ (s u : State) (p : Nat) (k : Pkt), s.takePkt 0x32 = some (p, k, u) → u.attesting p = true → evField k.data 0 4 = 0 → (u.port p).ownOk = true →
    (u.port p).peerNode < 16384 →
    ∃ t, exec .attestResult s = .next t ∧ t.fld FAB_PORT_STATUS.STATE p = 4 ∧ t.fld FAB_PORT_STATUS.PEER_NODE p = (u.port p).peerNode ∧
      t.fld FAB_PORT_STATUS.ADMIT_ERR p = 0) ∧
  (∀ (s u : State) (p : Nat) (k : Pkt), s.takePkt 0x32 = some (p, k, u) → u.attesting p = true → evField k.data 0 4 ≠ 0 → evField k.data 0 4 < 16 →
    ∃ t, exec .attestResult s = .next t ∧ t.fld FAB_PORT_STATUS.STATE p = 5 ∧ t.fld FAB_PORT_STATUS.ADMIT_ERR p = evField k.data 0 4 ∧
      u.recorded t (portNode p) p 1 0x403 (evField k.data 0 4)) ∧
  (∀ (s : State) (p : Nat), s.attesting p = true → s.fld FAB_NODE.FREEZE 0 = 0 →
    ∃ t, exec (.attestationLimit p) s = .next t ∧ t.fld FAB_PORT_STATUS.STATE p = 5 ∧ t.fld FAB_PORT_STATUS.ADMIT_ERR p = 7 ∧
      s.recorded t (portNode p) p 1 0x403 7) ∧
  (∀ (s u : State) (p : Nat) (k : Pkt), s.takePkt 0x38 = some (p, k, u) → u.remote.at_ = 0 ∨ u.remote.at_ + 10000000 ≤ u.dtime + 1 →
    ∃ t, exec .remoteReset s = .next t ∧ t.remote.at_ = u.dtime + 1 ∧ t.remote.accepted = u.remoteOk k.data) ∧
  (∀ (s : State), s.remote.accepted = true → s.rstLevel = 0 →
    ∃ t, exec .remoteResetVerified s = .next t ∧ t.rstLevel = 1 ∧ t.fld RCP_RESET_CAUSE.LAST_CAUSE 0 = 6) ∧
  (∀ (s u : State) (p : Nat) (k : Pkt), s.takePkt 0x39 = some (p, k, u) →
    ∃ t, exec .remoteResetRsp s = .next t ∧ t.remote.rspSrc = k.src ∧ t.remote.rsp = (if evField k.data 0 4 = 0 then 1 else 2))

/-- The commands on spares, ageing and repair complete (R480, R483 to R491, R493): a sample is kept and a third low one raises the guardband, a
swap is requested, moves the hart at its boundary and leaves the old slot gated, a failed slot in reset gives its hart away, an entry is burnt
into the repair log, rows are replaced by spares and recorded, and a DIMM's history is written. -/
def Obligations.LongevityComplete : Prop :=
  (∀ (s : State) (r : Reading), r.mon < 580 → s.monOn r.mon = true → 25 ≤ r.slack →
    ∃ t, exec (.ageingSample [r]) s = .next t ∧ (t.mon r.mon).slack = r.slack ∧ (t.mon r.mon).tj = r.tj ∧ (t.mon r.mon).low = 0 ∧ (t.mon r.mon).lim = 0) ∧
  (∀ (s : State) (rs : List Reading), (rs.map (·.mon)).Nodup → (∀ r ∈ rs, r.mon < 580 ∧ s.monOn r.mon = true ∧ 25 ≤ r.slack) →
    ∃ t, exec (.ageingSample rs) s = .next t ∧ ∀ r ∈ rs, (t.mon r.mon).slack = r.slack ∧ (t.mon r.mon).tj = r.tj ∧ (t.mon r.mon).low = 0) ∧
  (∀ (s : State) (r : Reading), 580 ≤ r.mon ∨ s.monOn r.mon = false →
    ∃ t, exec (.ageingSample [r]) s = .next t ∧ t.mac.mons = s.mac.mons ∧ t.mac.guards = s.mac.guards) ∧
  (∀ (s : State) (r : Reading) (n : Nat), r.mon < 480 → s.monOn r.mon = true → r.slack < 15 → s.guard (r.mon / 4) = 10 → (s.mon r.mon).lim = 2 →
    s.mac.due = [] → (s.swapOf (r.mon / 4 / 5)).phase = 0 → s.spareOf (r.mon / 4 / 5) = some n →
    ∃ t, exec (.ageingSample [r]) s = .next t ∧ (t.mon r.mon).lim = 3 ∧ t.swapOf (r.mon / 4 / 5) =
      { phase := if s.swapMay (r.mon / 4 / 5) (coreSlot (r.mon / 4)) then 2 else 1, old := coreSlot (r.mon / 4), new := n, why := 1 }) ∧
  (∀ (s : State) (r : Reading), r.mon < 580 → s.monOn r.mon = true → r.slack < 25 → (s.mon r.mon).low = 2 → s.guard (monSupply r.mon) < 10 →
    monSupply r.mon ≠ 126 →
    ∃ t, exec (.ageingSample [r]) s = .next t ∧ t.guard (monSupply r.mon) = s.guard (monSupply r.mon) + 1 ∧ (t.mon r.mon).low = 0) ∧
  (∀ (s : State) (tile : Nat), (s.swapOf tile).phase = 2 → s.slotState (5 * tile + (s.swapOf tile).new) = 1 →
    ∃ t, exec (.swapSparePowered tile) s = .next t ∧ (t.swapOf tile).phase = 3 ∧ (t.core (5 * tile + (s.swapOf tile).old)).swapReq = true) ∧
  (∀ (s : State) (tile a b : Nat), (s.swapOf tile).phase = 3 → (s.swapOf tile).old < 5 → (s.swapOf tile).new < 5 →
    5 * tile + (s.swapOf tile).old = a → 5 * tile + (s.swapOf tile).new = b → a ≠ b → s.slotState b = 1 → s.swapBoundary a = true → (s.core a).sb = [] →
    ∃ t, exec (.liveCoreSwap tile) s = .next t ∧ (t.swapOf tile).phase = 4 ∧
      s.recorded t 0 tile 0 0xA10 (s.coreHart a * 2 ^ 16 + (s.swapOf tile).old * 2 ^ 8 + (s.swapOf tile).new) ∧
      (s.noGroups → s.fld ERC_RING_CFG.EN 0 = 0 → (t.core b).pc = (s.core a).pc ∧ (t.core b).x = (s.core a).x ∧ (t.core b).csr = (s.core a).csr ∧
        (t.core b).resv = none ∧ (t.core a).flushing = true)) ∧
  (∀ (s : State) (tile a : Nat), (s.swapOf tile).phase = 3 → 5 * tile + (s.swapOf tile).old = a → s.slotState (5 * tile + (s.swapOf tile).new) = 1 →
    (s.swapBoundary a = true → (s.core a).sb ≠ [] →
      ∃ t, exec (.liveCoreSwap tile) s = .next t ∧ (t.core a).swapStop = true ∧ (t.core a).pc = (s.core a).pc ∧ (t.swapOf tile).phase = 3) ∧
    ((s.core a).group ≠ none → exec (.liveCoreSwap tile) s = .next s)) ∧
  (∀ (s : State) (tile a : Nat), tile < 24 → (s.swapOf tile).old < 5 → 5 * tile + (s.swapOf tile).old = a → (s.swapOf tile).phase = 4 →
    (s.core a).run = .held → (s.core a).flushing = true → s.slotState a ≠ 0 → (s.core a).l2 = [] → (s.core a).wb = [] → (s.core a).reqs = [] →
    s.lidState (tileNode tile) (coreSlot a) ≤ 2 → s.outbound (tileNode tile) (coreSlot a) = [] → s.accepted (tileNode tile) (coreSlot a) = [] →
    ((s.swapOf tile).why ≠ 3 → s.mac.due = [] →
      ∃ t, exec (.oldSlotGated tile) s = .next t ∧ t.swapOf tile = {} ∧ t.core a = { run := .gated } ∧
        t.mac.repairQ = s.mac.repairQ ++ [(if (s.swapOf tile).why = 1 then 2 else 1) * 2 ^ 28 + (tile * 2 ^ 23 + (s.swapOf tile).old * 2 ^ 20) + 1]) ∧
    ((s.swapOf tile).why = 3 →
      ∃ t, exec (.oldSlotGated tile) s = .next t ∧ (t.swapOf tile).phase = 5 ∧ t.core a = { run := .held } ∧ t.mac.repairQ = s.mac.repairQ)) ∧
  (∀ (s : State) (tile c : Nat), tile < 24 → c ∈ tileCores tile → (s.swapOf tile).phase ≠ 4 →
    (s.core c).run = .held → (s.core c).flushing = true → s.slotState c ≠ 0 → (s.core c).l2 = [] → (s.core c).wb = [] → (s.core c).reqs = [] →
    s.lidState (tileNode tile) (coreSlot c) ≤ 2 → s.outbound (tileNode tile) (coreSlot c) = [] → s.accepted (tileNode tile) (coreSlot c) = [] →
    ∃ t, exec (.oldSlotGated tile) s = .next t ∧ t.core c = { run := .gated } ∧ t.lidState (tileNode tile) (coreSlot c) = 2) ∧
  (∀ (s : State) (c n : Nat), c < 120 → s.slotFailed c = true → (s.core c).run = .held → (s.core c).flushing = false → s.slotState c = 0 → s.pfw = false →
    s.spareOf (coreTile c) = some n →
    ∃ t, exec (.swapInReset c) s = .next t ∧ t.slotState c = 2 ∧ t.slotState (5 * coreTile c + n) = 0 ∧ t.coreHart (5 * coreTile c + n) = s.coreHart c ∧
      s.recorded t 0 (coreTile c) 0 0xA10 (s.coreHart c * 2 ^ 16 + coreSlot c * 2 ^ 8 + n)) ∧
  (∀ (s : State) (c : Nat), c < 120 → s.slotFailed c = true → (s.core c).run = .held → (s.core c).flushing = false → s.slotState c = 0 → s.pfw = false →
    s.spareOf (coreTile c) = none →
    ∃ t, exec (.swapInReset c) s = .next t ∧ t.slotState c = 2 ∧ t.coreHart c = 0x7F ∧ s.recorded t 0 (coreTile c) 1 0xA11 c) ∧
  (∀ (s : State) (e i : Nat) (rest : List Nat), s.mac.repairQ = e :: rest →
    s.logFree.find? (fun i => decide (i < 488) || logTyp e == 2) = some i →
    ∃ t, exec (.repairLogAppend []) s = .next t ∧ t.mac.repairQ = rest ∧ t.fuse (9472 + 32 * i) = true ∧
      ∀ b, 1 ≤ b → b < 32 → e.testBit b = true → t.fuse (9472 + 32 * i + b) = true) ∧
  (∀ (s : State) (e : Nat) (rest bad : List Nat), s.mac.repairQ = e :: rest → s.logFree.find? (fun i => decide (i < 488) || logTyp e == 2) = none →
    ∃ t, exec (.repairLogAppend bad) s = .next t ∧ t.mac.repairQ = rest ∧ t.fuses = s.fuses ∧ s.recorded t 0 0xFF 1 0xA16 (logTyp e)) ∧
  (∀ (s : State) (arr row : Nat) (sets : List Nat), 528 ≤ arr → arr ≤ 553 → s.pfw = false → (1, arr, row) ∈ s.mac.due →
    (arr < 552 → (s.swapOf (arr - 528)).phase = 0) → (tget [] s.mac.rows arr).length < arraySpares arr →
    ∃ t, exec (.sramRowSpare arr row sets) s = .next t ∧ tget [] t.mac.rows arr = tget [] s.mac.rows arr ++ [row] ∧
      (arr < 552 → ∀ l, homeOf l = arr - 528 → l % 8192 ∈ sets → (tget {} t.sieve l).mask = 0) ∧
      (arr ≤ 552 → (arr < 552 → ∀ l, homeOf l = arr - 528 → l % 8192 ∈ sets → l ∉ s.sieve.map (·.1)) →
        s.recorded t 0 0xFF 0 0xA14 (arr * 2 ^ 16 + row))) ∧
  (∀ (s : State) (arr row : Nat) (sets : List Nat), 480 ≤ arr → arr < 528 → s.pfw = false → (1, arr, row) ∈ s.mac.due →
    (s.swapOf ((arr - 480) / 2)).phase = 0 →
    (tget [] s.mac.rows arr).length < arraySpares arr → (∀ l e, tget none s.l3 l = some e → s.expandTag (homeOf l) e.tag = none) →
    ∃ t, exec (.sramRowSpare arr row sets) s = .next t ∧ tget [] t.mac.rows arr = tget [] s.mac.rows arr ++ [row] ∧
      s.recorded t 0 0xFF 0 0xA14 (arr * 2 ^ 16 + row) ∧
      (s.fld ERC_RING_CFG.EN 0 = 0 → ∀ l, homeOf l = (arr - 480) / 2 → l % 8192 ∈ sets → tget none t.l3 l = none)) ∧
  (∀ (s : State) (arr row c n : Nat) (p : Bool), arr < 480 → arr / 4 = c → s.pfw = false → (1, arr, row) ∈ s.mac.due →
    (tget [] s.mac.rows arr).length < arraySpares arr → (s.swapOf (coreTile c)).phase = 0 → s.spareOf (coreTile c) = some n → s.slotState c = 0 →
    ∃ t, exec (.coreArrayRowSpare arr row p) s = .next t ∧ t.swapOf (coreTile c) =
      { phase := if s.swapMay (coreTile c) (coreSlot c) then 2 else 1, old := coreSlot c, new := n, why := 3 }) ∧
  (∀ (s : State) (arr row c : Nat), arr < 480 → arr / 4 = c → s.pfw = false → (1, arr, row) ∈ s.mac.due →
    (tget [] s.mac.rows arr).length < arraySpares arr → (s.swapOf (coreTile c)).phase = 5 → (s.swapOf (coreTile c)).old = coreSlot c →
    (∃ t, exec (.coreArrayRowSpare arr row false) s = .next t ∧ tget [] t.mac.rows arr = tget [] s.mac.rows arr ++ [row] ∧ t.slotState c = 2 ∧
      (t.core c).run = .gated) ∧
    (∃ t, exec (.coreArrayRowSpare arr row true) s = .next t ∧ tget [] t.mac.rows arr = tget [] s.mac.rows arr ++ [row] ∧
      t.slotState c = s.slotState c ∧ (t.core c).run = .gated)) ∧
  (∀ (s : State) (arr row c : Nat) (p : Bool), arr < 480 → arr / 4 = c → s.pfw = false → (1, arr, row) ∈ s.mac.due →
    (tget [] s.mac.rows arr).length < arraySpares arr → (s.swapOf (coreTile c)).phase = 0 → s.spareOf (coreTile c) = none →
    ∃ t, exec (.coreArrayRowSpare arr row p) s = .next t ∧ tget [] t.mac.rows arr = tget [] s.mac.rows arr ++ [row] ∧
      t.mac.repairQ = s.mac.repairQ ++ [3 * 2 ^ 28 + (arr * 2 ^ 18 + row * 2 ^ 5 + (tget [] s.mac.rows arr).length % 16 * 2) + 1]) ∧
  (∀ (s : State) (ch dimm typ rd bank row i : Nat), ch < 16 → dimm < 2 → 1 ≤ typ → typ ≤ 4 → rd < 256 → bank < 16 → row < 2 ^ 18 →
    (List.range 16).find? (fun i => (s.spdEnt (ch * 2 + dimm) i).isNone) = some i →
    ∃ t, exec (.spdLogWrite ch dimm typ rd bank row true) s = .next t ∧
      (t.spdEnt (ch * 2 + dimm) i).map (·.take 6) = some [typ, rd, bank, row % 256, row / 256 % 256, row / 65536]) ∧
  (∀ (s : State) (ch dimm typ rd bank row i : Nat), ch < 16 → dimm < 2 → 1 ≤ typ → typ ≤ 4 → rd < 256 → bank < 16 → row < 2 ^ 18 →
    (∀ j, j < 16 → s.spdEnt (ch * 2 + dimm) j ≠ none) →
    (List.range 16).find? (fun i => match s.spdEnt (ch * 2 + dimm) i with | some e => e.getD 0 0 == 2 | none => false) = some i →
    ∃ t, exec (.spdLogWrite ch dimm typ rd bank row true) s = .next t ∧
      (t.spdEnt (ch * 2 + dimm) i).map (·.take 6) = some [typ, rd, bank, row % 256, row / 256 % 256, row / 65536]) ∧
  (∀ (s : State) (ch dimm typ rd bank row : Nat), ch < 16 → dimm < 2 → 1 ≤ typ → typ ≤ 4 →
    ∃ t, exec (.spdLogWrite ch dimm typ rd bank row false) s = .next t ∧ t.spd = s.spd ∧ s.recorded t 0 ch 1 0xA17 dimm)

/-- The TAP's instructions, the sessions and the debug module's memory accesses complete (R391, R495 to R498, R504, R505, R514, R515): each
TAP instruction selects its register, DBGACC reads and writes the DBG window, VERIFY hands the certificate to the SP, whose answer is written
with its REASON, END ends the session, SYSTEM_RESET resets, GO starts one access and its completion gives STATUS and the data. -/
def Obligations.DebugPortsComplete : Prop :=
  (∀ (s : State), ∃ t, exec .idcode s = .next t ∧ t.dbg.tap.ir = 1 ∧ t.dbg.tap.dr = 0x200965B7 ∧ t.dbg.tap.driving = false) ∧
  (∀ (s : State) (pins cells : List Bool), ∃ t, exec (.samplePreload pins cells) s = .next t ∧ t.dbg.tap.ir = 2 ∧ t.dbg.tap.cells = cells ∧
    t.dbg.tap.dr = pins.foldr (fun b n => 2 * n + b2n b) 0 ∧ t.dbg.tap.driving = false) ∧
  (∀ (s : State), s.extestOk = true →
    ∃ t, exec .extest s = .next t ∧ t.dbg.tap.ir = 3 ∧ t.dbg.tap.driving = true ∧ t.dbg.tap.cells = s.dbg.tap.cells) ∧
  (∀ (s : State), s.extestOk = false → ∃ t, exec .extest s = .next t ∧ t.dbg.tap.ir = 0xFF ∧ t.dbg.tap.dr = 0 ∧ t.dbg.tap.driving = false) ∧
  (∀ (s : State), s.lc = 0 →
    ∃ t, exec (.lcCmd 1 []) s = .next t ∧ t.lc = 1 ∧ t.dbg.tap.ir = 0x11 ∧ t.dbg.tap.dr = 0) ∧
  (∀ (s : State) (bad : List Nat) (n : Nat), s.lc = 0 → n ≠ 1 →
    ∃ t, exec (.lcCmd n bad) s = .next t ∧ t.lc = 0 ∧ t.dbg.tap.ir = 0x11 ∧ t.dbg.tap.dr = 5) ∧
  (∀ (s : State) (bad : List Nat) (n : Nat), s.lc ≠ 0 →
    ∃ t, exec (.lcCmd n bad) s = .next t ∧ t.fuses = s.fuses ∧ t.dbg.tap.ir = 0xFF ∧ t.dbg.tap.dr = 0 ∧ t.dbg.tap.driving = false) ∧
  (∀ (s : State), ∃ t, exec .bypass s = .next t ∧ t.dbg.tap.ir = 0xFF ∧ t.dbg.tap.dr = 0 ∧ t.dbg.tap.driving = false) ∧
  (∀ (s : State), ∃ t, exec .tapReset s = .next t ∧ t.dbg.tap = {}) ∧
  (∀ (s : State) (off i : Nat) (data : W) (r : RegId), (regAddr .DBG_AUTH 0 + off % 2 ^ 24) % 8 = 0 →
    bufAt (regAddr .DBG_AUTH 0 + off % 2 ^ 24) = none → regAt (regAddr .DBG_AUTH 0 + off % 2 ^ 24) = some (r, i) → isDbgReg r = true →
    r ∉ [RegId.DBG_AUTH, .DBG_AUTH_NONCE, .DBG_CORE_REGDATA, .DBG_VT_TX, .DBG_VT_RX] → s.portReads .jtag r i →
    ∃ t, exec (.dbgacc 1 off data) s = .next t ∧ t.dbg.tap.ir = 0x10 ∧ t.portGot .jtag (s.regRead r i none)) ∧
  (∀ (s : State) (off i : Nat) (data : W) (r : RegId), (regAddr .DBG_AUTH 0 + off % 2 ^ 24) % 8 = 0 →
    bufAt (regAddr .DBG_AUTH 0 + off % 2 ^ 24) = none → regAt (regAddr .DBG_AUTH 0 + off % 2 ^ 24) = some (r, i) → isDbgReg r = true →
    r ∉ [RegId.DBG_AUTH, .DBG_CORE_CTL, .DBG_CORE_REGDATA, .DBG_VT_TX, .DBG_VT_RX, .DBG_MEM_CTL, .DBG_TRACE_CFG] → s.portWrites .jtag r i →
    ∃ t, exec (.dbgacc 2 off data) s = .next t ∧ t.dbg.tap.ir = 0x10 ∧ t.dbg.tap.status = 0 ∧ t.dbg.tap.data = s.dbg.tap.data ∧
      t.rd r i = (s.regWrite r i data).rd r i) ∧
  (∀ (s : State) (off i : Nat) (data : W), (regAddr .DBG_AUTH 0 + off % 2 ^ 24) % 8 = 0 →
    bufAt (regAddr .DBG_AUTH 0 + off % 2 ^ 24) = none →
    (regAt (regAddr .DBG_AUTH 0 + off % 2 ^ 24) = some (.DBG_AUTH, i) →
      ∃ t, exec (.dbgacc 1 off data) s = .next t ∧ t.portGot .jtag (putField (s.rd .DBG_AUTH 0) 1 0 0)) ∧
    (regAt (regAddr .DBG_AUTH 0 + off % 2 ^ 24) = some (.DBG_AUTH_NONCE, i) →
      ∃ t, exec (.dbgacc 1 off data) s = .next t ∧ t.portGot .jtag (s.rd .DBG_AUTH_NONCE (i % 4))) ∧
    (regAt (regAddr .DBG_AUTH 0 + off % 2 ^ 24) = none →
      ∃ t, exec (.dbgacc 1 off data) s = .next t ∧ t.portGot .jtag 0)) ∧
  (∀ (s u : State) (off i : Nat) (data : W) (r : RegId), (regAddr .DBG_AUTH 0 + off % 2 ^ 24) % 8 = 0 →
    bufAt (regAddr .DBG_AUTH 0 + off % 2 ^ 24) = none → regAt (regAddr .DBG_AUTH 0 + off % 2 ^ 24) = some (r, i) →
    u = s.setTap (fun t => { t with ir := 0x10, driving := false }) →
    (r = .DBG_AUTH → field data 1 0 = 1 → exec (.dbgacc 2 off data) s = exec (.verify .jtag data) u) ∧
    (r = .DBG_AUTH → field data 1 0 = 2 → exec (.dbgacc 2 off data) s = exec (.dbgEnd .jtag data) u) ∧
    (r = .DBG_AUTH → field data 1 0 = 3 → exec (.dbgacc 2 off data) s = exec (.debugSystemReset .jtag data) u) ∧
    (r = .DBG_CORE_CTL → i < 96 → field data 1 0 = 1 → exec (.dbgacc 2 off data) s = exec (.haltHart .jtag i data) u) ∧
    (r = .DBG_CORE_CTL → i < 96 → field data 1 0 = 2 → exec (.dbgacc 2 off data) s = exec (.debugResume .jtag i data) u) ∧
    (r = .DBG_CORE_CTL → i < 96 → field data 1 0 = 3 → exec (.dbgacc 2 off data) s = exec (.stepHart .jtag i data) u) ∧
    (r = .DBG_CORE_REGDATA → i < 96 → exec (.dbgacc 2 off data) s = exec (.regdataAccess .jtag i (some data)) u ∧
      exec (.dbgacc 1 off data) s = exec (.regdataAccess .jtag i none) u) ∧
    (r = .DBG_VT_TX → i < 196 → exec (.dbgacc 2 off data) s = exec (.vtTx .jtag i (some data) true) u ∧
      exec (.dbgacc 1 off data) s = exec (.vtTx .jtag i none true) u) ∧
    (r = .DBG_VT_RX → i < 196 → exec (.dbgacc 2 off data) s = exec (.vtRx .jtag i (some data) true) u ∧
      exec (.dbgacc 1 off data) s = exec (.vtRx .jtag i none true) u) ∧
    (r = .DBG_MEM_CTL → bit data 48 = true → exec (.dbgacc 2 off data) s = exec (.goCmd .jtag data) u)) ∧
  (∀ (s : State) (off i : Nat) (data : W) (r : RegId), (regAddr .DBG_AUTH 0 + off % 2 ^ 24) % 8 = 0 →
    bufAt (regAddr .DBG_AUTH 0 + off % 2 ^ 24) = none → regAt (regAddr .DBG_AUTH 0 + off % 2 ^ 24) = some (r, i) → isDbgReg r = true →
    r ∉ [RegId.DBG_AUTH, .DBG_AUTH_NONCE] →
    (s.dbgMay 0 r i false = false →
      ∃ t, exec (.dbgacc 1 off data) s = .next t ∧ t.portGot .jtag 0) ∧
    (s.dbgMay 0 r i true = false →
      ∃ t, exec (.dbgacc 2 off data) s = .next t ∧ t.dbg.tap.status = 2 ∧ t.rd r i = s.rd r i)) ∧
  (∀ (s : State) (off op : Nat) (data : W), op = 1 ∨ op = 2 → (regAddr .DBG_AUTH 0 + off % 2 ^ 24) % 8 ≠ 0 →
    ∃ t, exec (.dbgacc op off data) s = .next t ∧ t.dbg.tap.ir = 0x10 ∧ t.dbg.tap.status = 1 ∧ t.dbg.tap.data = s.dbg.tap.data) ∧
  (∀ (s : State) (off : Nat) (data : W) (b : Buf), (regAddr .DBG_AUTH 0 + off % 2 ^ 24) % 8 = 0 →
    bufAt (regAddr .DBG_AUTH 0 + off % 2 ^ 24) = some b → s.dbg.ceilOn = true → s.lc ≠ 5 →
    (∃ t, exec (.dbgacc 1 off data) s = .next t ∧ t.portGot .jtag (BitVec.ofNat 64 (s.bufGet b 8))) ∧
    ∃ t, exec (.dbgacc 2 off data) s = .next t ∧ t.dbg.tap.status = 0 ∧ t.dbg.cert = (s.bufPut b (leBytes 8 data.toNat)).dbg.cert) ∧
  (∀ (s : State) (p : DbgPort) (w : W), field w 1 0 = 1 → s.portWrites p .DBG_AUTH (portNo p) → s.dbg.ceilOn = true →
    s.fld DBG_AUTH.RESULT (portNo p) ≠ 3 → tget 0 s.dbg.lastVerify (portNo p) = 0 ∨ tget 0 s.dbg.lastVerify (portNo p) + 100000000 ≤ s.dtime + 1 →
    ∃ t, exec (.verify p w) s = .next t ∧ t.fld DBG_AUTH.RESULT (portNo p) = 3 ∧
      t.fld DBG_AUTH.SESSION (portNo p) = s.fld DBG_AUTH.SESSION (portNo p) ∧
      tget [] t.dbg.pend (portNo p) = (List.range 5424).map (fun i => tget 0 s.dbg.cert i)) ∧
  (∀ (s : State) (p : DbgPort) (w : W), field w 1 0 = 1 → s.portWrites p .DBG_AUTH (portNo p) → s.dbg.ceilOn = true →
    s.fld DBG_AUTH.RESULT (portNo p) ≠ 3 → tget 0 s.dbg.lastVerify (portNo p) ≠ 0 → s.dtime + 1 < tget 0 s.dbg.lastVerify (portNo p) + 100000000 →
    ∃ t, exec (.verify p w) s = .next t ∧ t.fld DBG_AUTH.RESULT (portNo p) = 2 ∧ t.fld DBG_AUTH.REASON (portNo p) = 7 ∧
      s.recorded t 47 (portNo p) 1 0xC00 7) ∧
  (∀ (s : State) (p : DbgPort) (w : W), field w 1 0 = 1 → s.portWrites p .DBG_AUTH (portNo p) →
    s.dbg.ceilOn = false ∨ s.fld DBG_AUTH.RESULT (portNo p) = 3 →
    ∃ t, exec (.verify p w) s = .next t ∧ t.fld DBG_AUTH.RESULT (portNo p) = s.fld DBG_AUTH.RESULT (portNo p) ∧
      tget [] t.dbg.pend (portNo p) = tget [] s.dbg.pend (portNo p) ∧ t.dbg.lastVerify = s.dbg.lastVerify) ∧
  (∀ (s : State) (p : DbgPort) (c : List Byte), tget [] s.dbg.pend (portNo p) = c → c ≠ [] → s.session (portNo p) = 2 ∨ ceiling s.lc = 0 →
    s.certCheck (portNo p) c = 0 →
    ∃ t, exec (.verifyComplete p) s = .next t ∧ tget [] t.dbg.pend (portNo p) = [] ∧ t.fld DBG_AUTH.REASON (portNo p) = 0 ∧
      t.fld DBG_AUTH.RESULT (portNo p) = 1 ∧ t.session (portNo p) = s.session (portNo p)) ∧
  (∀ (s : State) (p : DbgPort), tget [] s.dbg.pend (portNo p) = [] → exec (.verifyComplete p) s = .next s) ∧
  (∀ (s : State) (p : DbgPort) (c : List Byte), tget [] s.dbg.pend (portNo p) = c → c ≠ [] → s.session (portNo p) ≠ 2 → ceiling s.lc ≠ 0 →
    ∃ t, exec (.verifyComplete p) s = .next t ∧ tget [] t.dbg.pend (portNo p) = [] ∧
      t.fld DBG_AUTH.REASON (portNo p) = s.certCheck (portNo p) c ∧
      (if s.certCheck (portNo p) c = 0 then
        t.fld DBG_AUTH.RESULT (portNo p) = 1 ∧ t.session (portNo p) = 1 ∧ t.fld DBG_AUTH.PART_MASK (portNo p) = recField c 56 2 ∧
          t.fld DBG_AUTH.RIGHTS (portNo p) = recField c 58 1 ∧ s.recorded t 47 (portNo p) 0 0xC01 (recField c 56 2 * 256 + recField c 58 1)
       else t.fld DBG_AUTH.RESULT (portNo p) = 2 ∧ t.session (portNo p) = s.session (portNo p) ∧
          s.recorded t 47 (portNo p) 1 0xC00 (s.certCheck (portNo p) c))) ∧
  (∀ (s : State) (p : DbgPort) (w : W), field w 1 0 = 2 → s.portWrites p .DBG_AUTH (portNo p) → s.dbg.ceilOn = true →
    ∃ t, exec (.dbgEnd p w) s = .next t ∧ t.session (portNo p) = 0 ∧ t.fld DBG_AUTH.PART_MASK (portNo p) = 0 ∧
      t.fld DBG_AUTH.RIGHTS (portNo p) = 0 ∧
      ∀ k, k < 4 → t.rd .DBG_AUTH_NONCE (4 * portNo p + k) = BitVec.ofNat 64 (ofLeBytes ((s.nonce.1.drop (8 * k)).take 8))) ∧
  (∀ (s : State) (p : DbgPort) (w : W), field w 1 0 = 2 → s.portWrites p .DBG_AUTH (portNo p) → s.dbg.ceilOn = false →
    ∃ t, exec (.dbgEnd p w) s = .next t ∧ t.session (portNo p) = s.session (portNo p) ∧
      ∀ k, k < 4 → t.rd .DBG_AUTH_NONCE (4 * portNo p + k) = s.rd .DBG_AUTH_NONCE (4 * portNo p + k)) ∧
  (∀ (s : State) (p : DbgPort) (w : W), field w 1 0 = 3 → s.portWrites p .DBG_AUTH (portNo p) → s.session (portNo p) = 2 → s.rstLevel = 0 →
    ∃ t, exec (.debugSystemReset p w) s = .next t ∧ t.rstLevel = 1 ∧ t.fld RCP_RESET_CAUSE.LAST_CAUSE 0 = 11) ∧
  (∀ (s : State) (p : DbgPort) (w : W), field w 1 0 = 3 → s.portWrites p .DBG_AUTH (portNo p) → s.session (portNo p) ≠ 2 →
    ∃ t, exec (.debugSystemReset p w) s = .next t ∧ t.rstLevel = s.rstLevel ∧
      (match p with | .jtag => t.dbg.tap.status = 2 | .mesh _ => t.rsp.status = 3)) ∧
  (∀ (s : State) (p : DbgPort) (w v : W) (no : Bool), bit w 48 = true → s.portWrites p .DBG_MEM_CTL 0 → s.fld DBG_MEM_CTL.BUSY 0 = 0 →
    v = (if s.session (portNo p) = 1 then putField w 59 59 0 else w) →
    no = (s.session (portNo p) == 1 && (!(s.fld DBG_AUTH.RIGHTS (portNo p)).testBit 2 || !(s.fld DBG_AUTH.PART_MASK (portNo p)).testBit (field w 58 55))) →
    ∃ t, exec (.goCmd p w) s = .next t ∧ t.fld DBG_MEM_CTL.BUSY 0 = 1 ∧ ∃ tag, t.dbg.acc = some (v, s.rd .DBG_MEM_DATA 0, no, tag)) ∧
  (∀ (s : State) (p : DbgPort) (w : W), bit w 48 = true → s.portWrites p .DBG_MEM_CTL 0 → s.fld DBG_MEM_CTL.BUSY 0 = 1 →
    ∃ t, exec (.goCmd p w) s = .next t ∧ t.fld DBG_MEM_CTL.BUSY 0 = 1 ∧ t.dbg.acc = s.dbg.acc) ∧
  (∀ (s : State), s.dbg.acc = none → exec .debugAccessComplete s = .next s) ∧
  (∀ (s : State) (w d : W) (no : Bool) (tag : Option Nat), s.dbg.acc = some (w, d, no, tag) →
    s.region (field w 47 0) ∉ [Region.aperture, .pcie] →
    ∃ t, exec .debugAccessComplete s = .next t ∧ t.dbg.acc = none ∧ t.fld DBG_MEM_CTL.BUSY 0 = 0) ∧
  (∀ (s : State) (w d : W) (tag : Option Nat), s.dbg.acc = some (w, d, true, tag) →
    ∃ t, exec .debugAccessComplete s = .next t ∧ t.dbg.acc = none ∧ t.fld DBG_MEM_CTL.BUSY 0 = 0 ∧ t.fld DBG_MEM_CTL.STATUS 0 = 2 ∧
      t.mem = s.mem) ∧
  (∀ (s : State) (w d : W) (tag : Option Nat) (pa size : Nat), s.dbg.acc = some (w, d, false, tag) → pa = field w 47 0 → size = 2 ^ field w 54 53 →
    s.region pa = .dram → pa % size = 0 → bit w 52 = true → bit w 59 = true ∨ s.wtOwner pa = some (field w 58 55) → s.lineOk (pa / 64) = true →
    ∃ t, exec .debugAccessComplete s = .next t ∧ t.dbg.acc = none ∧ t.fld DBG_MEM_CTL.BUSY 0 = 0 ∧ t.fld DBG_MEM_CTL.STATUS 0 = 0 ∧
      t.mem = (s.agentWriteBytes pa (leBytes size d.toNat) (bit w 59)).mem ∧ t.l3 = (s.agentWriteBytes pa (leBytes size d.toNat) (bit w 59)).l3) ∧
  (∀ (s : State) (w d : W) (tag : Option Nat) (pa size : Nat), s.dbg.acc = some (w, d, false, tag) → pa = field w 47 0 → size = 2 ^ field w 54 53 →
    s.region pa = .dram → pa % size = 0 → bit w 52 = false → bit w 59 = true ∨ s.wtOwner pa = some (field w 58 55) → s.lineOk (pa / 64) = true →
    (s.curLine (pa / 64)).poison = false →
    ∃ t, exec .debugAccessComplete s = .next t ∧ t.dbg.acc = none ∧ t.fld DBG_MEM_CTL.BUSY 0 = 0 ∧ t.fld DBG_MEM_CTL.STATUS 0 = 0 ∧
      t.rd .DBG_MEM_DATA 0 = BitVec.ofNat 64 ((s.agentRead (pa / 64)).curNat pa size)) ∧
  (∀ (s : State) (w d : W) (tag : Option Nat) (pa : Nat), s.dbg.acc = some (w, d, false, tag) → pa = field w 47 0 → pa % 2 ^ field w 54 53 = 0 →
    bit w 52 = false → bit w 60 = false → s.region pa ∉ [Region.dram, .odc, .vacant] →
    ∃ t, exec .debugAccessComplete s = .next t ∧ t.dbg.acc = none ∧ t.fld DBG_MEM_CTL.BUSY 0 = 0 ∧ t.fld DBG_MEM_CTL.STATUS 0 = 3) ∧
  (∀ (s : State) (w d : W) (tag : Option Nat), s.dbg.acc = some (w, d, false, tag) →
    field w 47 0 % 2 ^ field w 54 53 ≠ 0 ∨ s.region (field w 47 0) = .vacant →
    ∃ t, exec .debugAccessComplete s = .next t ∧ t.dbg.acc = none ∧ t.fld DBG_MEM_CTL.STATUS 0 = 1 ∧ t.mem = s.mem) ∧
  (∀ (s : State) (w d : W) (tag : Option Nat), s.dbg.acc = some (w, d, false, tag) → s.region (field w 47 0) = .dram →
    field w 47 0 % 2 ^ field w 54 53 = 0 → bit w 59 = false → s.wtOwner (field w 47 0) ≠ some (field w 58 55) →
    ∃ t, exec .debugAccessComplete s = .next t ∧ t.dbg.acc = none ∧ t.fld DBG_MEM_CTL.STATUS 0 = 2 ∧
      (s.fld ERC_RING_CFG.EN 0 = 0 → t.mem = s.mem)) ∧
  (∀ (s : State) (w d : W) (tag : Option Nat) (pa : Nat), s.dbg.acc = some (w, d, false, tag) → pa = field w 47 0 → s.region pa = .dram →
    pa % 2 ^ field w 54 53 = 0 → bit w 59 = true ∨ s.wtOwner pa = some (field w 58 55) →
    s.lineOk (pa / 64) = false ∨ bit w 52 = false ∧ (s.curLine (pa / 64)).poison = true →
    ∃ t, exec .debugAccessComplete s = .next t ∧ t.dbg.acc = none ∧ t.fld DBG_MEM_CTL.STATUS 0 = 1 ∧ t.mem = s.mem) ∧
  (∀ (s : State) (w d : W) (tag : Option Nat) (pa i : Nat) (r : RegId), s.dbg.acc = some (w, d, false, tag) → pa = field w 47 0 →
    pa % 2 ^ field w 54 53 = 0 → s.region pa = .odc → bit w 52 = false → bit w 60 = false →
    regForm pa (2 ^ field w 54 53) = some (some (r, i), none) → r ≠ .DBG_CORE_REGDATA → s.gate (.dbg (bit w 59) (field w 58 55)) r i none = .pass →
    ∃ t, exec .debugAccessComplete s = .next t ∧ t.dbg.acc = none ∧ t.fld DBG_MEM_CTL.STATUS 0 = 0 ∧ t.snaps = s.snaps ∧
      t.rd .DBG_MEM_DATA 0 = BitVec.ofNat 64
        ((({ s with dbg := { s.dbg with ans := none } } : State).regRead r i (if bit w 59 then none else some (field w 58 55))).toNat %
          2 ^ (8 * 2 ^ field w 54 53))) ∧
  (∀ (s : State) (w d : W) (k v st : Nat), s.dbg.acc = some (w, d, false, some k) → s.region (field w 47 0) ∈ [Region.aperture, .pcie] →
    field w 47 0 % 2 ^ field w 54 53 = 0 → bit w 52 = true ∨ bit w 60 = true → (tget {} s.txns (47 * 1024 + k)).use = some (.other 0) →
    ((tget {} s.txns (47 * 1024 + k)).io.ans = some (v, st) →
      ∃ t, exec .debugAccessComplete s = .next t ∧ t.dbg.acc = none ∧ t.fld DBG_MEM_CTL.BUSY 0 = 0 ∧ t.fld DBG_MEM_CTL.STATUS 0 = dbgStatus st ∧
        (st = 0 → bit w 52 = false → t.rd .DBG_MEM_DATA 0 = BitVec.ofNat 64 (v % 2 ^ (8 * 2 ^ field w 54 53)))) ∧
    ((tget {} s.txns (47 * 1024 + k)).io.ans = none → exec .debugAccessComplete s = .next s))

/-- Run control, the registers of halted cores, freezes, virtual terminals and trace complete (R425, R499 to R501, R503, R507, R511 to R513):
HALT asks, the halt is taken at a boundary and ends the group and the reservation, RESUME and STEP leave it, CORE_RESET holds the slot and,
once it is closed, releases it; REGDATA reads and writes the register selected; a watchdog that was frozen goes on; the terminals pass bytes
in order; and a traced hart's SYNC packet reaches the ring. -/
def Obligations.RunControlComplete : Prop :=
  (∀ (s : State) (p : DbgPort) (h c : Nat) (w : W), h < 96 → field w 1 0 = 1 → bit w 2 = false → s.portWrites p .DBG_CORE_CTL h →
    s.portRight p 0 → s.hartCore h = some c → s.isTrailer c = false → (s.core c).run ≠ .held → (s.core c).run ≠ .halted →
    (s.core c).haltReq = false →
    ∃ t, exec (.haltHart p h w) s = .next t ∧ (t.core c).haltReq = true ∧ t.fld DBG_CORE_STATUS.STATE h = 1 ∧ (t.core c).run = (s.core c).run) ∧
  (∀ (s : State) (p : DbgPort) (h c : Nat) (w : W), h < 96 → field w 1 0 = 1 → bit w 2 = false → s.portWrites p .DBG_CORE_CTL h →
    s.hartCore h = some c → s.isTrailer c = true ∨ (s.core c).run = .held ∨ (s.core c).run = .halted ∨ (s.core c).haltReq = true ∨
      ¬ s.portRight p 0 →
    ∃ t, exec (.haltHart p h w) s = .next t ∧ (t.core c).haltReq = (s.core c).haltReq ∧ (t.core c).run = (s.core c).run ∧
      t.fld DBG_CORE_STATUS.STATE h = s.fld DBG_CORE_STATUS.STATE h) ∧
  (∀ (s : State) (c cause n : Nat), c < 120 → s.coreHart c < 96 → s.haltBoundary c = true →
    ((s.core c).stopNext = none ∧ (s.core c).haltReq = true ∧ cause = 1 ∧ n = 0 ∨ (s.core c).stopNext = some (cause, n) ∧ cause < 16 ∧ n < 8) →
    ∃ t, exec (.haltTaken c) s = .next t ∧ (t.core c).run = .halted ∧ (t.core c).resv = none ∧
      (t.core c).group = none ∧ (t.core c).haltReq = false ∧
      (∀ i, s.ledPair c = some i → (t.core (i / 2 * 5 + (s.pair i).trailer)).run = .halted) ∧
      t.fld DBG_CORE_STATUS.STATE (s.coreHart c) = 2 ∧ t.fld DBG_CORE_STATUS.CAUSE (s.coreHart c) = cause ∧
      t.fld DBG_CORE_STATUS.TRIGGER (s.coreHart c) = n) ∧
  (∀ (s : State) (c : Nat), s.haltBoundary c = false ∨ ((s.core c).haltReq = false ∧ (s.core c).stopNext = none) →
    ∃ t, exec (.haltTaken c) s = .next t ∧ t.core c = s.core c ∧
      (s.haltReaches c = false ∨ s.allCompared c = true ∨ (s.core c).haltReq = false ∧ (s.core c).stopNext = none → t.pairs = s.pairs)) ∧
  (∀ (s : State) (p : DbgPort) (h c : Nat) (w : W), h < 96 → field w 1 0 = 2 → bit w 2 = false → s.portWrites p .DBG_CORE_CTL h →
    s.portRight p 0 → s.hartCore h = some c → s.isTrailer c = false → (s.core c).run = .halted →
    ∃ t, exec (.debugResume p h w) s = .next t ∧ (t.core c).run = (s.core c).idle ∧ (t.core c).pc = (s.core c).pc ∧ (t.core c).step = false ∧
      t.fld DBG_CORE_STATUS.STATE h = 0 ∧ t.fld DBG_CORE_STATUS.CAUSE h = 0 ∧ t.fld DBG_CORE_STATUS.TRIGGER h = 0 ∧
      ∀ i, s.ledPair c = some i → (t.core (i / 2 * 5 + (s.pair i).trailer)).run = .running) ∧
  (∀ (s : State) (p : DbgPort) (h c : Nat) (w : W), h < 96 → field w 1 0 = 2 → bit w 2 = false → s.portWrites p .DBG_CORE_CTL h →
    s.portRight p 0 → s.hartCore h = some c → s.isTrailer c = false → (s.core c).run ≠ .halted → (s.core c).run ≠ .held →
    ∃ t, exec (.debugResume p h w) s = .next t ∧ (t.core c).run = (s.core c).run ∧ (t.core c).haltReq = false ∧
      t.fld DBG_CORE_STATUS.STATE h = if (s.core c).haltReq then 0 else s.fld DBG_CORE_STATUS.STATE h) ∧
  (∀ (s : State) (p : DbgPort) (h c : Nat) (w : W), h < 96 → field w 1 0 = 3 → bit w 2 = false → s.portWrites p .DBG_CORE_CTL h →
    s.portRight p 0 → s.hartCore h = some c → s.isTrailer c = false → (s.core c).run = .halted →
    ∃ t, exec (.stepHart p h w) s = .next t ∧ (t.core c).step = true ∧ (t.core c).pc = (s.core c).pc ∧
      (t.core c).run = (if (s.core c).idle ∈ [Run.wfi, .pause, .gated] then .running else (s.core c).idle) ∧
      t.fld DBG_CORE_STATUS.STATE h = 0) ∧
  (∀ (s : State) (p : DbgPort) (h c : Nat) (w : W), h < 96 → field w 1 0 = 3 → bit w 2 = false → s.portWrites p .DBG_CORE_CTL h →
    s.hartCore h = some c → (s.isTrailer c = true ∨ (s.core c).run ≠ .halted ∨ ¬ s.portRight p 0) →
    ∃ t, exec (.stepHart p h w) s = .next t ∧ (t.core c).run = (s.core c).run ∧ (t.core c).step = (s.core c).step) ∧
  (∀ (s : State) (p : DbgPort) (h c : Nat) (w : W), h < 96 → bit w 2 = true → s.portWrites p .DBG_CORE_CTL h →
    s.portRight p 0 → s.hartCore h = some c → s.slotState c = 0 → s.isTrailer c = false → (s.core c).run ≠ .held → (s.core c).flushing = false →
    ∃ t, exec (.debugCoreReset p h w) s = .next t ∧ (t.core c).run = .held ∧ (t.core c).sb = [] ∧ (t.core c).group = none ∧
      (t.core c).resv = none) ∧
  (∀ (s : State) (p : DbgPort) (h c : Nat) (w : W), h < 96 → bit w 2 = true → s.portWrites p .DBG_CORE_CTL h →
    s.portRight p 0 → s.hartCore h = some c → s.isTrailer c = false → (s.core c).run = .held → (s.core c).flushing = true →
    ∃ t, exec (.debugCoreReset p h w) s = .next t ∧ (t.core c).run = .held ∧ ((t.core c).flushing = false ↔ (s.core c).flushed = true)) ∧
  (∀ (s : State) (p : DbgPort) (h c : Nat) (w : W), h < 96 → bit w 2 = true → s.portWrites p .DBG_CORE_CTL h → s.portRight p 0 → s.hartCore h = some c →
    (s.core c).run = .held → (s.core c).flushing = false → s.slotState c = 0 → tget false s.unlocked c = false → s.slotFailed c = false →
    ∃ t, exec (.debugCoreReset p h w) s = .next t ∧ (t.core c).mode = .m ∧
      (t.core c).run = (if s.fld DBG_CORE_CTL.RESETHALT h = 1 then .halted else .running) ∧
      (t.core c).pc = (s.core c).resumeAt.getD (s.rd .TILE_RESET_VEC c &&& ~~~(3 : W))) ∧
  (∀ (s : State) (p : DbgPort) (h c n : Nat), h < 96 → s.portReads p .DBG_CORE_REGDATA h → s.hartCore h = some c → (s.core c).run = .halted →
    s.fld DBG_CORE_REGSEL.REG h = n → regListed n = true → s.regAllowed (portNo p) c n = true →
    ∃ t, exec (.regdataAccess p h none) s = .next t ∧ t.portGot p (halfOf (s.coreReg c n) (s.loadHalf p))) ∧
  (∀ (s : State) (p : DbgPort) (h c j : Nat) (w : W), h < 96 → s.portWrites p .DBG_CORE_REGDATA h → s.hartCore h = some c →
    (s.core c).run = .halted → s.fld DBG_CORE_REGSEL.REG h = 0x1000 + j → j ≤ 0x40 → s.regAllowed (portNo p) c (0x1000 + j) = true →
    ∃ t, exec (.regdataAccess p h (some w)) s = .next t ∧ ∀ d, d ∈ s.regCores c →
      (j < 32 → (t.core d).getX j = if j = 0 then 0 else w) ∧ (32 ≤ j → j < 64 → (t.core d).getF (j - 32) = w) ∧
      (j = 64 → (t.core d).pc = w &&& ~~~(1 : W))) ∧
  (∀ (s : State) (p : DbgPort) (h c j : Nat) (w : W), h < 96 → s.portWrites p .DBG_CORE_REGDATA h → s.hartCore h = some c →
    (s.core c).run = .halted → s.fld DBG_CORE_REGSEL.REG h = 0x1100 + j → j < 128 → s.regAllowed (portNo p) c (0x1100 + j) = true →
    ∃ t, exec (.regdataAccess p h (some w)) s = .next t ∧ ∀ d, d ∈ s.regCores c → ((t.core d).getV (j / 4)).extractLsb' (64 * (j % 4)) 64 = w ∧
      ∀ q, q < 4 → q ≠ j % 4 → ((t.core d).getV (j / 4)).extractLsb' (64 * q) 64 = ((s.core d).getV (j / 4)).extractLsb' (64 * q) 64) ∧
  (∀ (s : State) (p : DbgPort) (h c n : Nat) (w : W), h < 96 → s.portWrites p .DBG_CORE_REGDATA h → s.hartCore h = some c →
    (s.core c).run = .halted → s.fld DBG_CORE_REGSEL.REG h = n → n < 0x1000 → regListed n = true → s.regAllowed (portNo p) c n = true →
    s.regCores c = [c] → n ≠ 0x7D0 →
    ∃ t, exec (.regdataAccess p h (some w)) s = .next t ∧ t.csrRead c n = if csrRo n then s.csrRead c n else (s.csrPut c n w).csrRead c n) ∧
  (∀ (s : State) (p : DbgPort) (h c : Nat) (wr : Option W), h < 96 → (wr = none → s.portReads p .DBG_CORE_REGDATA h) →
    (wr ≠ none → s.portWrites p .DBG_CORE_REGDATA h) → s.hartCore h = some c →
    (s.core c).run ≠ .halted ∨ regListed (s.fld DBG_CORE_REGSEL.REG h) = false ∨ s.regAllowed (portNo p) c (s.fld DBG_CORE_REGSEL.REG h) = false →
    ∃ t, exec (.regdataAccess p h wr) s = .next t ∧ t.fld DBG_CORE_REGSEL.ERR h = 1) ∧
  (∀ (s : State) (part : Nat), part < 16 → tget false s.dbg.froze part = true → s.halted part = false →
    ∃ t, exec (.freezeRelease part) s = .next t ∧ tget false t.dbg.froze part = false ∧
      (if s.fld TMR_WDOG.EN part = 1 ∧ s.fld TMR_WDOG.FREEZE part = 1 ∧
          s.fld TMR_WDOG.REMAIN_MS part * 1000000 < 1000000 + tget 0 s.wdogNs part then
        t.fld TMR_WDOG.REMAIN_MS part = 1 ∧ tget 0 t.wdogNs part = 0
       else t.fld TMR_WDOG.REMAIN_MS part = s.fld TMR_WDOG.REMAIN_MS part ∧ tget 0 t.wdogNs part = tget 0 s.wdogNs part)) ∧
  (∀ (s : State) (part : Nat), tget false s.dbg.froze part = false ∨ s.halted part = true → exec (.freezeRelease part) s = .next s) ∧
  (∀ (s : State) (p : DbgPort) (i e : Nat) (w : W) (low : Bool), i < 196 → e = i % 98 → s.portWrites p .DBG_VT_TX i →
    ∃ t, exec (.vtTx p i (some w) low) s = .next t ∧
      (if 98 ≤ i ∨ low = false then tget [] t.dbg.vt (2 * e) = tget [] s.dbg.vt (2 * e) ∧
          t.fld DBG_VT_TX.DROPPED e = (if bit w 62 then 0 else s.fld DBG_VT_TX.DROPPED e)
       else if 64 ≤ (tget [] s.dbg.vt (2 * e)).length then tget [] t.dbg.vt (2 * e) = tget [] s.dbg.vt (2 * e) ∧ t.fld DBG_VT_TX.DROPPED e = 1
       else tget [] t.dbg.vt (2 * e) = tget [] s.dbg.vt (2 * e) ++ [field w 7 0] ∧
          t.fld DBG_VT_TX.DROPPED e = if bit w 62 then 0 else s.fld DBG_VT_TX.DROPPED e)) ∧
  (∀ (s : State) (p : DbgPort) (i : Nat) (low : Bool), i < 196 → s.portReads p .DBG_VT_TX i →
    ∃ t, exec (.vtTx p i none low) s = .next t ∧ t.portGot p (s.vtView 0 i) ∧
      tget [] t.dbg.vt (2 * (i % 98)) = (tget [] s.dbg.vt (2 * (i % 98))).drop (if 98 ≤ i then 1 else 0)) ∧
  (∀ (s : State) (p : DbgPort) (i e : Nat) (w : W) (low : Bool), i < 196 → e = i % 98 → s.portWrites p .DBG_VT_RX i →
    ∃ t, exec (.vtRx p i (some w) low) s = .next t ∧
      (if i < 98 ∨ low = false then tget [] t.dbg.vt (2 * e + 1) = tget [] s.dbg.vt (2 * e + 1) ∧
          t.fld DBG_VT_RX.DROPPED e = (if bit w 62 then 0 else s.fld DBG_VT_RX.DROPPED e)
       else if 64 ≤ (tget [] s.dbg.vt (2 * e + 1)).length then
        tget [] t.dbg.vt (2 * e + 1) = tget [] s.dbg.vt (2 * e + 1) ∧ t.fld DBG_VT_RX.DROPPED e = 1
       else tget [] t.dbg.vt (2 * e + 1) = tget [] s.dbg.vt (2 * e + 1) ++ [field w 7 0] ∧
          t.fld DBG_VT_RX.DROPPED e = if bit w 62 then 0 else s.fld DBG_VT_RX.DROPPED e)) ∧
  (∀ (s : State) (p : DbgPort) (i : Nat) (low : Bool), i < 196 → s.portReads p .DBG_VT_RX i →
    ∃ t, exec (.vtRx p i none low) s = .next t ∧ t.portGot p (s.vtView 1 i) ∧
      tget [] t.dbg.vt (2 * (i % 98) + 1) = (tget [] s.dbg.vt (2 * (i % 98) + 1)).drop (if 98 ≤ i then 0 else 1)) ∧
  (∀ (s : State), s.fld DBG_TRACE_CFG.EN 0 = 0 → exec .traceSync s = .next s) ∧
  (∀ (s : State) (h c a : Nat), h < 96 → s.hartCore h = some c → s.fld DBG_CORE_CTL.TRACE h = 1 →
    (∀ g, g < 96 → g ≠ h → s.fld DBG_CORE_CTL.TRACE g = 0) → s.traceBuf = [] → tget 0 s.dbg.lost h = 0 → s.fld DBG_TRACE_CFG.EN 0 = 1 →
    (s.fld DBG_TRACE_CFG.WORLD 0 = 1 ∨ (s.core c).part = s.fld DBG_TRACE_CFG.PARTITION 0) →
    ((s.core c).secure = false ∨ s.fld DBG_AUTH.SESSION 0 = 2 ∨ s.fld DBG_AUTH.SESSION 1 = 2) →
    a = s.fld DBG_TRACE_CFG.BASE 0 * 4096 + s.fld DBG_TRACE_PTR.WRITE 0 % 2 ^ s.fld DBG_TRACE_CFG.SIZE_LOG2 0 →
    ∃ t, exec .traceSync s = .next t ∧
      (if s.isDram a = true ∧ (s.fld DBG_TRACE_CFG.WORLD 0 = 1 ∨ s.wtOwner a = some (s.fld DBG_TRACE_CFG.PARTITION 0)) then
        t.fld DBG_TRACE_PTR.WRITE 0 = (s.fld DBG_TRACE_PTR.WRITE 0 + 16) % 2 ^ 48 ∧
        t.mem = (s.agentWriteBytes a (({ typ := 0x0C, info := 0, time := s.dtime % 2 ^ 32, addr := s.dtime } : TracePkt).bytes h)
          (s.fld DBG_TRACE_CFG.WORLD 0 == 1)).mem
       else t.fld DBG_TRACE_PTR.WRITE 0 = s.fld DBG_TRACE_PTR.WRITE 0 ∧ t.mem = s.mem ∧
        t.fld DBG_TRACE_PTR.LOST 0 = Nat.min (s.fld DBG_TRACE_PTR.LOST 0 + 1) (2 ^ (DBG_TRACE_PTR.LOST.hi + 1 - DBG_TRACE_PTR.LOST.lo) - 1)))

/-- Writes and snapshot reads of registers and buffers complete (R5 to R8, R17, R19, R455, R497): a write of a plain register, of all of it or
of one half, writes its fields and is answered OK; a register whose write is a command of its own takes that command; a wrong width is
answered with an error, an offset without a register takes nothing, a refused write is answered DENIED; a read of a register with RS fields
latches the snapshot that the read of its high half returns. A high half read first returns the present value, the model's choice (log
entry 21). -/
def Obligations.RegisterAccessesComplete : Prop :=
  (∀ (s : State) (ag : Agent) (pa v i : Nat) (r : RegId), s.region pa = .odc ∨ s.region pa = .secureOnly → bufAt pa = none →
    regForm pa 8 = some (some (r, i), none) → isDbgReg r = false →
    r ∉ [RegId.MESH_LINK_CFG, .MESH_INIT_STATUS, .LID_SECTION, .SPN_STREAM_CFG, .SPN_STREAM_STATE, .JRN_DRAIN_PTR, .JRN_REPL_MEMBERS, .JRN_REPL_STATE,
      .JRN_RSLOT_CFG, .FAB_NODE, .FAB_PORT_CTL, .FAB_SQ_PTR, .MCT_ECC_COUNT, .PCIE_CTL, .PCIE_PORT_CFG, .IOMMU_INVAL, .CPH_RING_PTR, .WPC_SYNC,
      .WPC_PART_CTL, .EVR_SRC_CFG, .EVR_TGT_EOI, .EVR_TGT_INJECT, .EVR_TGT_THRESH, .RCP_RESET_CAUSE, .RCP_RTC, .RCP_PSTATE, .RCP_BLOCK_CTL, .TMR_WDOG,
      .MBX_DOORBELL, .TILE_CORE_OVF, .CNT, .LDL_PART_CFG, .UART_CFG, .UART_DATA, .UART_STATUS, .GPIO_CFG] →
    (s.gate ag r i (some (BitVec.ofNat 64 v)) = .pass → regAbsent r i = false →
      ∃ t, exec (.registerWrite ag pa 8 v) s = .next t ∧ t.rsp.status = 0 ∧ t.regs = (s.regWrite r i (BitVec.ofNat 64 v)).regs) ∧
    (s.gate ag r i (some (BitVec.ofNat 64 v)) = .late →
      ∃ t, exec (.registerWrite ag pa 8 v) s = .next t ∧ t.rsp.status = 3 ∧
        t.records = (s.logRefusal (odcStop (regAddr r i)).1 0xFF 0x104 (s.accPart ag (regAddr r i) true) (regAddr r i)).records)) ∧
  (∀ (s : State) (ag : Agent) (pa v i : Nat) (high : Bool) (r : RegId), s.region pa = .odc ∨ s.region pa = .secureOnly → bufAt pa = none →
    regForm pa 4 = some (some (r, i), some high) → isDbgReg r = false →
    r ∉ [RegId.MESH_LINK_CFG, .MESH_INIT_STATUS, .LID_SECTION, .SPN_STREAM_CFG, .SPN_STREAM_STATE, .JRN_DRAIN_PTR, .JRN_REPL_MEMBERS, .JRN_REPL_STATE,
      .JRN_RSLOT_CFG, .FAB_NODE, .FAB_PORT_CTL, .FAB_SQ_PTR, .MCT_ECC_COUNT, .PCIE_CTL, .PCIE_PORT_CFG, .IOMMU_INVAL, .CPH_RING_PTR, .WPC_SYNC,
      .WPC_PART_CTL, .EVR_SRC_CFG, .EVR_TGT_THRESH, .RCP_RESET_CAUSE, .RCP_RTC, .RCP_PSTATE, .RCP_BLOCK_CTL, .TMR_WDOG,
      .MBX_DOORBELL, .TILE_CORE_OVF, .CNT, .LDL_PART_CFG, .UART_CFG, .UART_STATUS, .GPIO_CFG] →
    r ∉ [RegId.EVR_TGT_EOI, .EVR_TGT_INJECT, .UART_DATA] ∨ high = true →
    s.gate ag r i (some (s.halfValue r i high v)) = .pass → regAbsent r i = false →
    ∃ t, exec (.registerWrite ag pa 4 v) s = .next t ∧ t.rsp.status = 0 ∧ t.regs = (s.regWrite r i (s.halfValue r i high v)).regs) ∧
  (∀ (s : State) (ag : Agent) (pa v i : Nat) (r : RegId) (w : W), s.region pa = .odc ∨ s.region pa = .secureOnly → bufAt pa = none →
    regForm pa 8 = some (some (r, i), none) → w = BitVec.ofNat 64 v →
    (r = .MESH_LINK_CFG → exec (.registerWrite ag pa 8 v) s = exec (.apply ag (i / 4) (i % 4) w) s) ∧
    (r = .MESH_INIT_STATUS → exec (.registerWrite ag pa 8 v) s = exec (.clear ag i w) s) ∧
    (r = .LID_SECTION → field w 1 0 = 2 → exec (.registerWrite ag pa 8 v) s = exec (.lidOpen ag (i / 5) (i % 5) w) s) ∧
    (r = .LID_SECTION → field w 1 0 = 1 → exec (.registerWrite ag pa 8 v) s = exec (.close ag (i / 5) (i % 5) w) s) ∧
    (r = .SPN_STREAM_CFG → bit w 63 = true → exec (.registerWrite ag pa 8 v) s = exec (.streamEnable ag i (field w 1 0)) s) ∧
    (r = .SPN_STREAM_CFG → bit w 63 = false → exec (.registerWrite ag pa 8 v) s = exec (.streamDisable ag i (field w 1 0)) s) ∧
    (r = .SPN_STREAM_STATE → field w 1 0 = 1 → exec (.registerWrite ag pa 8 v) s = exec (.fenceStream ag i) s) ∧
    (r = .SPN_STREAM_STATE → field w 1 0 = 2 → exec (.registerWrite ag pa 8 v) s = exec (.resume ag i) s) ∧
    (r = .SPN_STREAM_STATE → field w 1 0 = 3 → exec (.registerWrite ag pa 8 v) s = exec (.restart ag i) s) ∧
    (r = .JRN_DRAIN_PTR → exec (.registerWrite ag pa 8 v) s = exec (.drainPtrWrite ag i w) s) ∧
    (r = .JRN_REPL_STATE → field w 3 0 = 1 → exec (.registerWrite ag pa 8 v) s = exec (.cmdPromote ag i w) s) ∧
    (r = .JRN_REPL_STATE → field w 3 0 = 2 → exec (.registerWrite ag pa 8 v) s = exec (.stepDown ag i w) s) ∧
    (r = .JRN_RSLOT_CFG → exec (.registerWrite ag pa 8 v) s = exec (.slotValid ag i w) s) ∧
    (r = .FAB_PORT_CTL → exec (.registerWrite ag pa 8 v) s = exec (.laneSwap ag i w) s) ∧
    (r = .FAB_SQ_PTR → exec (.registerWrite ag pa 8 v) s = exec (.tail ag i w) s) ∧
    (r = .MCT_ECC_COUNT → exec (.registerWrite ag pa 8 v) s = exec (.eccCountClear ag i w) s) ∧
    (r = .PCIE_PORT_CFG → exec (.registerWrite ag pa 8 v) s = exec (.perstRel ag (i / 4) (i % 4) w) s) ∧
    (r = .IOMMU_INVAL → exec (.registerWrite ag pa 8 v) s = exec (.invalPartition ag i w) s) ∧
    (r = .CPH_RING_PTR → exec (.registerWrite ag pa 8 v) s = exec (.cphTail ag (i / 32) (i % 32) w) s) ∧
    (r = .WPC_SYNC → exec (.registerWrite ag pa 8 v) s = exec (.wpcSyncGo ag w) s) ∧
    (r = .WPC_PART_CTL → exec (.registerWrite ag pa 8 v) s = exec (.reset ag i w) s) ∧
    (r = .EVR_SRC_CFG → exec (.registerWrite ag pa 8 v) s = exec (.evrSrcCfgWrite ag i w) s) ∧
    (r = .EVR_TGT_EOI → exec (.registerWrite ag pa 8 v) s = exec (.evrTgtEoi ag (i / 17) (i % 17) w) s) ∧
    (r = .EVR_TGT_INJECT → exec (.registerWrite ag pa 8 v) s = exec (.evrTgtInject ag (i / 17) (i % 17) w) s) ∧
    (r = .RCP_RESET_CAUSE → exec (.registerWrite ag pa 8 v) s = exec (.clearCauses ag w) s) ∧
    (r = .RCP_RTC → exec (.registerWrite ag pa 8 v) s = exec (.rtcWrite ag w) s) ∧
    (r = .RCP_PSTATE → exec (.registerWrite ag pa 8 v) s = exec (.target ag i w) s) ∧
    (r = .RCP_BLOCK_CTL → exec (.registerWrite ag pa 8 v) s = exec (.pwrOn ag i w) s) ∧
    (r = .TMR_WDOG → exec (.registerWrite ag pa 8 v) s = exec (.kick ag i w) s) ∧
    (r = .MBX_DOORBELL → field w 1 0 = 1 → exec (.registerWrite ag pa 8 v) s = exec (.ring ag i w) s) ∧
    (r = .MBX_DOORBELL → field w 1 0 = 2 → exec (.registerWrite ag pa 8 v) s = exec (.mbxAck ag i w) s) ∧
    (r = .UART_DATA → i < 2 → exec (.registerWrite ag pa 8 v) s = exec (.uartTransmit ag i w) s)) ∧
  (∀ (s : State) (ag : Agent) (pa size v : Nat), s.region pa ≠ .odc → s.region pa ≠ .secureOnly → exec (.registerWrite ag pa size v) s = .next s) ∧
  (∀ (s : State) (ag : Agent) (pa size v : Nat), s.region pa = .odc ∨ s.region pa = .secureOnly → bufAt pa = none → regForm pa size = none →
    (regAt (pa - pa % 8) ≠ none →
      ∃ t, exec (.registerWrite ag pa size v) s = .next t ∧ t.rsp.status = 5 ∧ t.regs = s.regs ∧ t.mem = s.mem) ∧
    (regAt (pa - pa % 8) = none → s.odcGate ag pa true = .pass →
      ∃ t, exec (.registerWrite ag pa size v) s = .next t ∧ t.rsp.status = 0 ∧ t.regs = s.regs ∧ t.mem = s.mem)) ∧
  (∀ (s : State) (ag : Agent) (pa size v : Nat) (h : Option Bool), s.region pa = .odc ∨ s.region pa = .secureOnly → bufAt pa = none →
    regForm pa size = some (none, h) → s.odcGate ag pa true = .pass →
    ∃ t, exec (.registerWrite ag pa size v) s = .next t ∧ t.rsp.status = 0 ∧ t.regs = s.regs ∧ t.mem = s.mem) ∧
  (∀ (s : State) (ag : Agent) (pa size v : Nat) (b : Buf), s.region pa = .odc → bufAt pa = some b →
    (pa % size = 0 → size = 1 ∨ size = 2 ∨ size = 4 ∨ size = 8 → s.odcGate ag pa true = .pass →
      ∃ t, exec (.registerWrite ag pa size v) s = .next t ∧ t.rsp.status = 0 ∧ t.regs = s.regs ∧
        t.pages = (s.bufPut b (leBytes size v)).pages ∧ t.dbg.cert = (s.bufPut b (leBytes size v)).dbg.cert) ∧
    (pa % size ≠ 0 ∨ size ∉ [1, 2, 4, 8] →
      ∃ t, exec (.registerWrite ag pa size v) s = .next t ∧ t.rsp.status = 5 ∧ t.regs = s.regs ∧ t.pages = s.pages ∧ t.dbg.cert = s.dbg.cert)) ∧
  (∀ (s : State) (ag : Agent) (pa size i : Nat) (r : RegId) (half : Option Bool) (v : W), regForm pa size = some (some (r, i), half) →
    readRow r = true → r ≠ .DBG_CORE_REGDATA → popRow r = false → half ≠ some true → s.gate ag r i none = .pass →
    v = s.regRead r i (if s.agentSecure ag then none else some (s.agentPart ag)) →
    ∃ t, exec (.rsSnapshotRead ag pa size) s = .next t ∧ t.rsp.data = halfOf v half ∧ t.rsp.status = 0 ∧
      tget none t.snaps (snapKey r i) = some v ∧ t.regs = s.regs ∧
      (∀ c n a, ag = .core c → (s.core c).devLoad = some (n, a) → s.isOdc a = true →
        (t.core c).devAns = some ((halfOf v half).toNat, 0))) ∧
  (∀ (s : State) (ag : Agent) (pa size i : Nat) (r : RegId), regForm pa size = some (some (r, i), some true) →
    readRow r = true → r ≠ .DBG_CORE_REGDATA → s.gate ag r i none = .pass →
    ∃ t, exec (.rsSnapshotRead ag pa size) s = .next t ∧ t.rsp.status = 0 ∧ t.regs = s.regs ∧ t.snaps = s.snaps ∧
      (∀ old F, tget none s.snaps (snapKey r i) = some old → F ∈ r.flds → F.acc = .rs → 32 ≤ F.hi →
        field t.rsp.data (F.hi - 32) (F.lo - 32) = field old F.hi (max F.lo 32)) ∧
      (tget none s.snaps (snapKey r i) = none →
        t.rsp.data = s.regRead r i (if s.agentSecure ag then none else some (s.agentPart ag)) >>> 32)) ∧
  (∀ (s : State) (ag : Agent) (pa size i : Nat) (r : RegId) (half : Option Bool), regForm pa size = some (some (r, i), half) →
    readRow r = true → r ≠ .DBG_CORE_REGDATA → popRow r = false ∨ half = some true → s.gate ag r i none = .late →
    ∃ t, exec (.rsSnapshotRead ag pa size) s = .next t ∧ t.rsp = { data := 0, status := 0 } ∧ t.snaps = s.snaps) ∧
  (∀ (s : State) (ag : Agent) (pa size : Nat),
    (∀ r i half, regForm pa size = some (some (r, i), half) → readRow r = false ∨ r = .DBG_CORE_REGDATA ∨ popRow r = true ∧ half ≠ some true) →
    exec (.rsSnapshotRead ag pa size) s = .next s)

/-- The Ladle and the UARTs complete (R506, R524 to R528, R551, R553): a tick latches every counter set named and begins a record for every
partition whose period ends; a record is staged, written into its partition's ring and counted, or its ring is refused; a UART's bytes pass
through its FIFOs in order, with DROPPED, OVERRUN and ERROR as it is full or a character is bad. -/
def Obligations.LadleAndUartComplete : Prop :=
  (∀ (s : State) (ps : List Nat), s.ldl.lastT ≠ s.dtime + 1 →
    ps = (List.range 16).filter (fun p => s.fld LDL_PART_CFG.EN p == 1 && decide (s.dtime % (s.fld LDL_PART_CFG.PERIOD_US p * 1000) = 0) &&
      tget 0 s.ldl.since p != s.dtime + 1) → ps ≠ [] →
    ∃ t, exec .ladleTick s = .next t ∧ t.ldl.lastT = s.dtime + 1 ∧
      t.ldl.waits = ps.map (fun p => (p, s.dtime, s.ladleMask p, s.fld LDL_PART_CFG.PERIOD_US p)) ∧
      ∀ p b k v, p ∈ ps → b ∈ maskSets (s.ladleMask p) → (k, v) ∈ s.latchOf b → tget 0 t.ldl.shadow k = v) ∧
  (∀ (s : State), s.ldl.lastT = s.dtime + 1 ∨ (∀ p, p < 16 → s.fld LDL_PART_CFG.EN p = 0 ∨ s.dtime % (s.fld LDL_PART_CFG.PERIOD_US p * 1000) ≠ 0) →
    exec .ladleTick s = .next s) ∧
  (∀ (s : State), exec .ladleRecord s = exec .ladleRecord s.ladleGather) ∧
  (∀ (s : State) (p tm mask per : Nat) (keys : List Nat), s.ldl.waits = [(p, tm, mask, per)] → keys = (maskSets mask).flatMap setKeys → keys ≠ [] →
    if s.ladleHeld p = true ∨ 65536 < (s.ldl.staged.map fun r => recordLen r.2.2.2.2.length).sum + recordLen keys.length then
      tget 0 s.ladleGather.ldl.skipped p = Nat.min (2 ^ 32 - 1) (tget 0 s.ldl.skipped p + 1) ∧ s.ladleGather.ldl.staged = s.ldl.staged
    else s.ladleGather.ldl.staged = s.ldl.staged ++ [(p, tm, mask, per, keys.map fun k => tget 0 s.ldl.shadow k % 2 ^ 48 + tget 0 s.ldl.shadow k / 2 ^ 48 * 2 ^ 63)]) ∧
  (∀ (s : State), s.ldl.waits = [] → s.ldl.staged = [] → exec .ladleRecord s = .next s) ∧
  (∀ (s : State) (p tm mask per len a : Nat) (vals : List Nat) (rest : List (Nat × Nat × Nat × Nat × List Nat)) (bs : List Byte), s.ldl.waits = [] →
    s.ldl.staged = (p, tm, mask, per, vals) :: rest → len = recordLen vals.length → p < 16 →
    a = s.fld LDL_PART_CFG.BASE p * 4096 + s.fld LDL_PART_STATUS.LAST_SEQ p % (2 ^ s.fld LDL_PART_CFG.SIZE_LOG2 p / len) * len →
    bs = ladleBytes p (s.fld LDL_PART_STATUS.LAST_SEQ p + 1) tm (tget 0 s.ldl.skipped p) per mask vals →
    (len ≤ 2 ^ s.fld LDL_PART_CFG.SIZE_LOG2 p → s.wtOwner a = some p → s.wtOwner (a + len - 1) = some p →
      ∃ t, exec .ladleRecord s = .next t ∧ t.ldl.staged = rest ∧ tget 0 t.ldl.skipped p = 0 ∧
        t.fld LDL_PART_STATUS.LAST_SEQ p = (s.fld LDL_PART_STATUS.LAST_SEQ p + 1) % 2 ^ 48 ∧
        t.mem = ((s.agentWriteBytes (a + 64) (bs.drop 64) false).agentWriteBytes a (bs.take 64) false).mem ∧
        t.l3 = ((s.agentWriteBytes (a + 64) (bs.drop 64) false).agentWriteBytes a (bs.take 64) false).l3) ∧
    (2 ^ s.fld LDL_PART_CFG.SIZE_LOG2 p < len ∨ s.wtOwner a ≠ some p ∨ s.wtOwner (a + len - 1) ≠ some p →
      ∃ t, exec .ladleRecord s = .next t ∧ t.ldl.staged = rest.filter (fun e => e.1 != p) ∧ t.fld LDL_PART_CFG.EN p = 0 ∧
        t.fld LDL_PART_STATUS.RING_ERR p = 1 ∧ s.recorded t 47 p 1 0xD00 (s.fld LDL_PART_CFG.BASE p * 4096))) ∧
  (∀ (s : State) (ag : Agent) (u : Nat) (w : W) (q : List Nat), u < 2 → s.gate ag .UART_DATA u (some w) = .pass → q = tget [] s.lsio.tx u →
    ∃ t, exec (.uartTransmit ag u w) s = .next t ∧ t.rsp.status = 0 ∧
      (if 64 ≤ q.length then t.fld UART_STATUS.TX_DROPPED u = 1
       else t.fld UART_STATUS.TX_DROPPED u = s.fld UART_STATUS.TX_DROPPED u ∧
        (if s.fld UART_CFG.EN u = 1 ∧ tget none s.lsio.shift u = none ∧ s.uartFrozen u = false then
          tget none t.lsio.shift u = (q ++ [field w 7 0]).head? ∧ tget [] t.lsio.tx u = (q ++ [field w 7 0]).tail
         else tget none t.lsio.shift u = tget none s.lsio.shift u ∧ tget [] t.lsio.tx u = q ++ [field w 7 0]))) ∧
  (∀ (s : State) (ag : Agent) (u : Nat), u < 2 →
    (s.gate ag .UART_DATA u none = .pass →
      ∃ t, exec (.uartReceiveRead ag u) s = .next t ∧ t.rsp = { data := s.regRead .UART_DATA u none, status := 0 } ∧
        tget [] t.lsio.rx u = (tget [] s.lsio.rx u).drop 1) ∧
    (s.gate ag .UART_DATA u none = .late →
      ∃ t, exec (.uartReceiveRead ag u) s = .next t ∧ t.rsp = { data := 0, status := 0 } ∧ t.lsio.rx = s.lsio.rx)) ∧
  (∀ (s : State) (u : Nat) (b : Byte) (err : Bool) (q : List (Nat × Bool)), u < 2 → s.fld UART_CFG.EN u = 1 → q = tget [] s.lsio.rx u →
    ∃ t, exec (.uartCharacter u b err) s = .next t ∧
      (if 64 ≤ q.length then tget [] t.lsio.rx u = q ∧ t.fld UART_STATUS.RX_OVERRUN u = 1 ∧
          t.fld UART_STATUS.RX_ERROR u = s.fld UART_STATUS.RX_ERROR u
       else tget [] t.lsio.rx u = q ++ [(b.toNat, err)] ∧ t.fld UART_STATUS.RX_OVERRUN u = s.fld UART_STATUS.RX_OVERRUN u ∧
          t.fld UART_STATUS.RX_ERROR u = if err then 1 else s.fld UART_STATUS.RX_ERROR u)) ∧
  (∀ (s : State) (u : Nat) (b : Byte) (err : Bool), s.fld UART_CFG.EN u = 0 →
    exec (.uartCharacter u b err) s = .next s ∧ exec (.uartCharacterSent u) s = .next s) ∧
  (∀ (s : State) (u : Nat), u < 2 → s.fld UART_CFG.EN u = 1 →
    ∃ t, exec (.uartCharacterSent u) s = .next t ∧
      (tget none t.lsio.last u = if (tget none s.lsio.shift u).isSome then tget none s.lsio.shift u else tget none s.lsio.last u) ∧
      (if s.uartFrozen u then tget none t.lsio.shift u = none ∧ tget [] t.lsio.tx u = tget [] s.lsio.tx u
       else tget none t.lsio.shift u = (tget [] s.lsio.tx u).head? ∧ tget [] t.lsio.tx u = (tget [] s.lsio.tx u).tail))

/-- The patch units (R509): where an enabled unit names the processor and the line of a fetch or a read, and no lower-numbered enabled unit
does, the line reads as that unit's four DATA words; where none does, it reads as what the ROM or the segment holds. -/
def Obligations.PatchUnitsReplaceLines : Prop :=
  (∀ (s : State) (macen : Bool) (addr u : Nat) (held : List Byte), u < 16 → s.fld DBG_PATCH_CFG.EN u = 1 → s.fld DBG_PATCH_CFG.TARGET u = b2n macen →
    s.fld DBG_PATCH_CFG.LINE u = addr / 32 % 2 ^ 43 →
    (∀ v, v < u → s.fld DBG_PATCH_CFG.EN v = 1 → s.fld DBG_PATCH_CFG.TARGET v = b2n macen → s.fld DBG_PATCH_CFG.LINE v ≠ addr / 32 % 2 ^ 43) →
    (s.codeLine macen addr held).length = 32 ∧
    ∀ k, k < 4 → ofLeBytes (((s.codeLine macen addr held).drop (8 * k)).take 8) = (s.rd .DBG_PATCH_DATA (4 * u + k)).toNat) ∧
  (∀ (s : State) (macen : Bool) (addr : Nat) (held : List Byte), (∀ v, v < 16 → s.fld DBG_PATCH_CFG.EN v = 1 → s.fld DBG_PATCH_CFG.TARGET v = b2n macen →
      s.fld DBG_PATCH_CFG.LINE v ≠ addr / 32 % 2 ^ 43) → s.codeLine macen addr held = held)
end

