-- ==== Sys2Proof/Laws/Table.lean ====
section
/-! SUPPORT. Sparse tables: a read after a write, and the canonical form that every write keeps. -/

namespace Sys2Proof.Machine

open Sys2Proof

variable {α : Type}

theorem tget_tdel (d : α) (t : Tbl α) (k j : Nat) : tget d (tdel t k) j = if k = j then d else tget d t j := by
  induction t with
  | nil => simp [tdel, tget]
  | cons e t ih =>
    obtain ⟨a, v⟩ := e
    by_cases h1 : a = k <;> by_cases h2 : a = j <;> by_cases h3 : k = j <;> simp_all [tdel, tget]

theorem tget_tins (d : α) (t : Tbl α) (k : Nat) (v : α) (j : Nat) (hk : ∀ e ∈ t, e.1 ≠ k) :
    tget d (tins t k v) j = if k = j then v else tget d t j := by
  induction t with
  | nil => simp [tins, tget]
  | cons e t ih =>
    obtain ⟨a, w⟩ := e
    have ha : a ≠ k := hk (a, w) (by simp)
    have ih := ih (fun e he => hk e (by simp [he]))
    simp only [tins]
    split <;> by_cases h2 : a = j <;> by_cases h3 : k = j <;> simp_all [tget]

theorem mem_tdel {t : Tbl α} {k : Nat} {e : Nat × α} (h : e ∈ tdel t k) : e.1 ≠ k ∧ e ∈ t := by
  induction t with
  | nil => simp [tdel] at h
  | cons a t ih =>
    obtain ⟨a, v⟩ := a
    by_cases h1 : a = k
    · simp [tdel, h1] at h; exact ⟨(ih h).1, by simp [(ih h).2]⟩
    · simp [tdel, h1] at h
      rcases h with h | h
      · subst h; exact ⟨h1, by simp⟩
      · exact ⟨(ih h).1, by simp [(ih h).2]⟩

/-- A read after a write gives the value written at its key and leaves every other key alone. -/
theorem tget_tset [DecidableEq α] (d : α) (t : Tbl α) (k : Nat) (v : α) (j : Nat) :
    tget d (tset d t k v) j = if k = j then v else tget d t j := by
  unfold tset
  by_cases h : v = d
  · simp [h, tget_tdel]
  · rw [if_neg h, tget_tins _ _ _ _ _ (fun e he => (mem_tdel he).1), tget_tdel]
    by_cases h2 : k = j <;> simp [h2]

@[simp] theorem tget_tset_same [DecidableEq α] (d : α) (t : Tbl α) (k : Nat) (v : α) : tget d (tset d t k v) k = v := by
  simp [tget_tset]

/-- A write leaves every other key alone, whatever an unlisted key reads as. -/
theorem tget_tset_ne [DecidableEq α] (e d : α) (t : Tbl α) {k j : Nat} (v : α) (h : k ≠ j) :
    tget e (tset d t k v) j = tget e t j := by
  unfold tset
  by_cases hv : v = d
  · simp [hv, tget_tdel, h]
  · rw [if_neg hv, tget_tins _ _ _ _ _ (fun e he => (mem_tdel he).1), tget_tdel]
    simp [h]

theorem tget_tset_other [DecidableEq α] (d : α) (t : Tbl α) {k j : Nat} (v : α) (h : k ≠ j) :
    tget d (tset d t k v) j = tget d t j := by
  simp [tget_tset, h]

theorem trising_cons {k : Nat} {v : α} {t : Tbl α} :
    trising ((k, v) :: t) = true ↔ (∀ e ∈ t, k < e.1) ∧ trising t = true := by
  induction t generalizing k v with
  | nil => simp [trising]
  | cons e t ih =>
    obtain ⟨a, w⟩ := e
    simp only [trising, Bool.and_eq_true, decide_eq_true_eq, List.mem_cons, forall_eq_or_imp]
    constructor
    · rintro ⟨h1, h2⟩
      exact ⟨⟨h1, fun e he => Nat.lt_trans h1 ((ih.1 h2).1 e he)⟩, h2⟩
    · rintro ⟨⟨h1, _⟩, h2⟩
      exact ⟨h1, h2⟩

theorem tclean_iff [DecidableEq α] {d : α} {t : Tbl α} : tclean d t = true ↔ ∀ e ∈ t, e.2 ≠ d := by
  induction t with
  | nil => simp [tclean]
  | cons e t ih => obtain ⟨a, w⟩ := e; simp [tclean, ih]

theorem trising_tdel {t : Tbl α} (k : Nat) (h : trising t = true) : trising (tdel t k) = true := by
  induction t with
  | nil => simp [tdel, trising]
  | cons e t ih =>
    obtain ⟨a, w⟩ := e
    obtain ⟨h1, h2⟩ := trising_cons.1 h
    by_cases hk : a = k
    · simpa [tdel, hk] using ih h2
    · simp only [tdel, if_neg hk]
      exact trising_cons.2 ⟨fun e he => h1 e (mem_tdel he).2, ih h2⟩

theorem mem_tins {t : Tbl α} {k : Nat} {v : α} {e : Nat × α} (h : e ∈ tins t k v) : e = (k, v) ∨ e ∈ t := by
  induction t with
  | nil => simpa [tins] using h
  | cons a t ih =>
    obtain ⟨a, w⟩ := a
    by_cases h1 : k < a
    · simpa [tins, h1] using h
    · simp [tins, h1] at h
      rcases h with h | h
      · simp [h]
      · rcases ih h with h | h <;> simp [h]

theorem trising_tins {t : Tbl α} {k : Nat} {v : α} (h : trising t = true) (hk : ∀ e ∈ t, e.1 ≠ k) :
    trising (tins t k v) = true := by
  induction t with
  | nil => simp [tins, trising]
  | cons e t ih =>
    obtain ⟨a, w⟩ := e
    obtain ⟨h1, h2⟩ := trising_cons.1 h
    have ha : a ≠ k := hk (a, w) (by simp)
    by_cases h3 : k < a
    · simp only [tins, if_pos h3]
      refine trising_cons.2 ⟨fun e he => ?_, h⟩
      rcases List.mem_cons.1 he with he | he
      · subst he; exact h3
      · exact Nat.lt_trans h3 (h1 e he)
    · simp only [tins, if_neg h3]
      refine trising_cons.2 ⟨fun e he => ?_, ih h2 (fun e he => hk e (by simp [he]))⟩
      rcases mem_tins he with he | he
      · subst he; simp only; omega
      · exact h1 e he

/-- A write keeps the canonical form. -/
theorem twf_tset [DecidableEq α] {d : α} {t : Tbl α} (k : Nat) (v : α) (h : twf d t = true) : twf d (tset d t k v) = true := by
  simp only [twf, Bool.and_eq_true] at h ⊢
  have hc := tclean_iff.1 h.2
  unfold tset
  by_cases hv : v = d
  · rw [if_pos hv]
    exact ⟨trising_tdel k h.1, tclean_iff.2 fun e he => hc e (mem_tdel he).2⟩
  · rw [if_neg hv]
    refine ⟨trising_tins (trising_tdel k h.1) (fun e he => (mem_tdel he).1), tclean_iff.2 fun e he => ?_⟩
    rcases mem_tins he with he | he
    · subst he; exact hv
    · exact hc e (mem_tdel he).2

end Sys2Proof.Machine
end

