-- ==== Sys2Proof/Laws/Regs.lean ====
section
/-! SUPPORT. Registers and their fields: a read after a write. -/

namespace Sys2Proof.Machine

open Sys2Proof

/-- The register of a number. -/
def numReg : Nat → RegId
  | 0 => .TILE_CORE_MAP
  | 1 => .TILE_HOME_STATUS
  | 2 => .MESH_LINK_CFG
  | 3 => .MESH_TIMEOUT
  | 4 => .MESH_INIT_STATUS
  | 5 => .LID_SECTION
  | 6 => .CG_STATUS
  | 7 => .CG_ABORT_PC
  | 8 => .CG_LASTSEQ
  | 9 => .CG_DEPSEL
  | 10 => .CG_DEPSEQ
  | 11 => .CG_DEPMASK
  | 12 => .CG_DEPLOST
  | 13 => .CG_WMARK
  | 14 => .CG_BIND
  | 15 => .CG_CFG
  | 16 => .SPN_STREAM_CFG
  | 17 => .SPN_STREAM_STATE
  | 18 => .SPN_STREAM_WMARK
  | 19 => .SPN_STREAM_ASSIGNED
  | 20 => .SPN_STREAM_NEXT
  | 21 => .JRN_REGION
  | 22 => .JRN_APPEND_PTR
  | 23 => .JRN_DRAIN_PTR
  | 24 => .JRN_STREAM_STATUS
  | 25 => .PAIR_CTL
  | 26 => .PAIR_STATUS
  | 27 => .PAIR_RESUME
  | 28 => .PAIR_COUNT
  | 29 => .PAIR_FAILPC
  | 30 => .PAIR_CFG
  | 31 => .FAB_NODE
  | 32 => .FAB_ROUTE
  | 33 => .FAB_APERTURE
  | 34 => .FAB_INBOUND
  | 35 => .FAB_RXRING_CFG
  | 36 => .FAB_RXRING_PTR
  | 37 => .FAB_SQ_CFG
  | 38 => .FAB_SQ_PTR
  | 39 => .FAB_PORT_CTL
  | 40 => .FAB_PORT_STATUS
  | 41 => .JRN_REPL_CFG
  | 42 => .JRN_REPL_MEMBERS
  | 43 => .JRN_REPL_STATE
  | 44 => .JRN_REPL_DEGRADED
  | 45 => .JRN_REPL_HELD
  | 46 => .JRN_RSLOT_CFG
  | 47 => .JRN_RSLOT_REGION
  | 48 => .JRN_RSLOT_TERM
  | 49 => .JRN_RSLOT_HELD
  | 50 => .JRN_RSLOT_APPEND
  | 51 => .JRN_RSLOT_DRAIN
  | 52 => .JRN_RSLOT_GASP
  | 53 => .MCT_DECODE
  | 54 => .MCT_CH_STATUS
  | 55 => .MCT_ECC_COUNT
  | 56 => .MCT_ECC_LOG
  | 57 => .MCT_SCRUB
  | 58 => .PCIE_CTL
  | 59 => .PCIE_PORT_CFG
  | 60 => .PCIE_PORT_STATUS
  | 61 => .IOMMU_FAT_MATCH
  | 62 => .IOMMU_FAT_BASE
  | 63 => .IOMMU_INVAL
  | 64 => .IOMMU_FAULT
  | 65 => .CPH_STATUS
  | 66 => .CPH_RING_CFG
  | 67 => .CPH_RING_PTR
  | 68 => .WCTL
  | 69 => .WSTATUS
  | 70 => .WPC_CFG
  | 71 => .WPC_SYNC
  | 72 => .WPC_REGION
  | 73 => .WPC_OWNER
  | 74 => .WPC_PART_CFG
  | 75 => .WPC_PART_CTL
  | 76 => .EVR_PFW_TIME
  | 77 => .EVR_SRC_CFG
  | 78 => .EVR_SRC_PEND
  | 79 => .EVR_RING_ROUTE
  | 80 => .EVR_TGT_CLAIM
  | 81 => .EVR_TGT_EOI
  | 82 => .EVR_TGT_THRESH
  | 83 => .EVR_TGT_INJECT
  | 84 => .EVR_TGT_STATUS
  | 85 => .SP_BOOT_STATUS
  | 86 => .SP_BOOT_SEQ
  | 87 => .SP_TRIAL
  | 88 => .TILE_RESET_VEC
  | 89 => .RCP_RESET_CAUSE
  | 90 => .RCP_CAUSE_COUNT
  | 91 => .RCP_RTC
  | 92 => .RCP_PSTATE
  | 93 => .RCP_BLOCK_CTL
  | 94 => .RCP_THERMAL
  | 95 => .TMR_WDOG
  | 96 => .ERC_STATUS
  | 97 => .ERC_RING_CFG
  | 98 => .ERC_RECORD
  | 99 => .MBX_DOORBELL
  | 100 => .MBX_STATUS
  | 101 => .DBG_AUTH
  | 102 => .DBG_AUTH_NONCE
  | 103 => .DBG_FREEZE
  | 104 => .DBG_MEM_CTL
  | 105 => .DBG_MEM_DATA
  | 106 => .DBG_PATCH_CFG
  | 107 => .DBG_PATCH_DATA
  | 108 => .DBG_TRACE_CFG
  | 109 => .DBG_TRACE_PTR
  | 110 => .DBG_CORE_CTL
  | 111 => .DBG_CORE_STATUS
  | 112 => .DBG_CORE_REGSEL
  | 113 => .DBG_CORE_REGDATA
  | 114 => .DBG_TRIG_CFG
  | 115 => .DBG_TRIG_VAL
  | 116 => .DBG_VT_TX
  | 117 => .DBG_VT_RX
  | 118 => .TILE_CORE_OVF
  | 119 => .CNT_CFG
  | 120 => .CNT
  | 121 => .LDL_PART_CFG
  | 122 => .LDL_PART_MASK
  | 123 => .LDL_PART_STATUS
  | 124 => .UART_CFG
  | 125 => .UART_DATA
  | 126 => .UART_STATUS
  | 127 => .GPIO_CFG
  | _ => .LSIO_PAD_CFG

theorem numReg_num (r : RegId) : numReg r.num = r := by cases r <;> rfl

theorem RegId.num_inj {r q : RegId} (h : r.num = q.num) : r = q := by
  rw [← numReg_num r, ← numReg_num q, h]

/-- A read of a register after a write of one. -/
theorem State.rd_wr (s : State) (r q : RegId) (i j : Nat) (v : W) :
    (s.wr r i v).rd q j = if r = q ∧ i = j then v else s.rd q j := by
  unfold State.wr State.rd
  simp only [tget_tset]
  by_cases hr : r = q
  · subst hr
    by_cases hi : i = j
    · subst hi; simp
    · simp [hi, tget_tset_ne]
  · have : r.num ≠ q.num := fun h => hr (RegId.num_inj h)
    simp [hr, this]

@[simp] theorem State.rd_wr_same (s : State) (r : RegId) (i : Nat) (v : W) : (s.wr r i v).rd r i = v := by
  simp [State.rd_wr]

theorem State.rd_wr_unit (s : State) (r q : RegId) {i j : Nat} (v : W) (h : i ≠ j) : (s.wr r i v).rd q j = s.rd q j := by
  simp [State.rd_wr, h]

theorem State.rd_wr_reg (s : State) {r q : RegId} (i j : Nat) (v : W) (h : r ≠ q) : (s.wr r i v).rd q j = s.rd q j := by
  simp [State.rd_wr, h]

/-! ### Bit fields of a word -/

theorem field_eq (w : W) (hi lo : Nat) : field w hi lo = w.toNat / 2 ^ lo % 2 ^ (hi + 1 - lo) := by
  simp [field, Nat.shiftRight_eq_div_pow]

theorem field_lt (w : W) (hi lo : Nat) : field w hi lo < 2 ^ (hi + 1 - lo) := by
  rw [field_eq]; exact Nat.mod_lt _ (Nat.two_pow_pos _)

theorem testBit_field (w : W) (hi lo n : Nat) : (field w hi lo).testBit n = (decide (n < hi + 1 - lo) && w.getLsbD (lo + n)) := by
  rw [field_eq, Nat.testBit_mod_two_pow, ← Nat.shiftRight_eq_div_pow, Nat.testBit_shiftRight, BitVec.getLsbD]

theorem getLsbD_putField (w : W) (hi lo v n : Nat) (h : lo ≤ hi) (h2 : hi < 64) :
    (putField w hi lo v).getLsbD n = if lo ≤ n ∧ n ≤ hi then v.testBit (n - lo) else w.getLsbD n := by
  unfold putField
  rw [BitVec.getLsbD_or, BitVec.getLsbD_and, BitVec.getLsbD_not, BitVec.getLsbD_shiftLeft, BitVec.getLsbD_shiftLeft,
    BitVec.getLsbD_ofNat, BitVec.getLsbD_ofNat, Nat.testBit_mod_two_pow, Nat.testBit_two_pow_sub_one]
  by_cases hn : n < 64
  · by_cases h3 : lo ≤ n <;> by_cases h4 : n ≤ hi
    · have h5 : n - lo < hi + 1 - lo := by omega
      have h6 : n - lo < 64 := by omega
      have h7 : ¬ n < lo := by omega
      simp [hn, h3, h4, h5, h6, h7]
    · have h5 : ¬ n - lo < hi + 1 - lo := by omega
      simp [hn, h4, h5]
    · have h7 : n < lo := by omega
      simp [hn, h3, h7]
    · omega
  · have h4 : ¬ n ≤ hi := by omega
    simp [hn, h4, BitVec.getLsbD_of_ge w n (by omega)]

/-- A field that was put reads as what was put into it. -/
theorem field_putField_same (w : W) (hi lo v : Nat) (h : lo ≤ hi) (h2 : hi < 64) :
    field (putField w hi lo v) hi lo = v % 2 ^ (hi + 1 - lo) := by
  apply Nat.eq_of_testBit_eq
  intro n
  rw [testBit_field, getLsbD_putField _ _ _ _ _ h h2, Nat.testBit_mod_two_pow]
  by_cases hn : n < hi + 1 - lo
  · have h3 : lo + n ≤ hi := by omega
    simp [hn, h3]
  · simp [hn]

/-- A field apart from the one that was put keeps its value. -/
theorem field_putField_other (w : W) (hi lo v hi2 lo2 : Nat) (h : lo ≤ hi) (h2 : hi < 64) (h3 : hi2 < lo ∨ hi < lo2) :
    field (putField w hi lo v) hi2 lo2 = field w hi2 lo2 := by
  apply Nat.eq_of_testBit_eq
  intro n
  rw [testBit_field, testBit_field, getLsbD_putField _ _ _ _ _ h h2]
  by_cases hn : n < hi2 + 1 - lo2
  · have h4 : ¬ (lo ≤ lo2 + n ∧ lo2 + n ≤ hi) := by omega
    simp [hn, h4]
  · simp [hn]

/-! ### Fields of registers -/

/-- What the register table says of every field: it lies within its register. -/
abbrev Fld.inside (F : Fld) : Prop := F.lo ≤ F.hi ∧ F.hi < 64

/-- Two fields that a write of one does not join: of different registers, or apart within one. -/
abbrev Fld.apart (F G : Fld) : Prop := F.reg ≠ G.reg ∨ G.hi < F.lo ∨ F.hi < G.lo

theorem State.fld_setFld_same (s : State) (F : Fld) (i v : Nat) (h : F.inside) :
    (s.setFld F i v).fld F i = v % 2 ^ (F.hi + 1 - F.lo) := by
  simp [State.fld, State.setFld, field_putField_same _ _ _ _ h.1 h.2]

theorem State.fld_setFld_apart (s : State) (F G : Fld) (i j v : Nat) (h : F.inside) (h2 : F.apart G) :
    (s.setFld F i v).fld G j = s.fld G j := by
  unfold State.fld State.setFld
  rw [State.rd_wr]
  split
  · rename_i h3
    rcases h2 with h2 | h2
    · exact absurd h3.1 h2
    · rw [h3.1, h3.2, field_putField_other _ _ _ _ _ _ h.1 h.2 h2]
  · rfl

theorem State.fld_setFld_unit (s : State) (F G : Fld) {i j : Nat} (v : Nat) (h : i ≠ j) :
    (s.setFld F i v).fld G j = s.fld G j := by
  unfold State.fld State.setFld
  rw [State.rd_wr_unit _ _ _ _ h]

theorem State.rd_setFld_reg (s : State) (F : Fld) (i v : Nat) {q : RegId} (j : Nat) (h : F.reg ≠ q) :
    (s.setFld F i v).rd q j = s.rd q j := by
  unfold State.setFld
  rw [State.rd_wr_reg _ _ _ _ h]

theorem State.fld_wr_same (s : State) (F : Fld) (i : Nat) (w : W) : (s.wr F.reg i w).fld F i = field w F.hi F.lo := by
  simp [State.fld]

theorem State.fld_wr_reg (s : State) (F : Fld) {r : RegId} (i j : Nat) (w : W) (h : r ≠ F.reg) : (s.wr r i w).fld F j = s.fld F j := by
  unfold State.fld
  rw [State.rd_wr_reg _ _ _ _ h]

theorem State.fld_lt (s : State) (F : Fld) (i : Nat) : s.fld F i < 2 ^ (F.hi + 1 - F.lo) := field_lt _ _ _

end Sys2Proof.Machine
end

