-- ==== Sys2Proof/Laws/OpsActs.lean ====
section
/-! SUPPORT. What each operation and each command of Ops.lean may touch: `acts_<name>` bounds the fields and the registers that
`<name>` can change (see Acts.lean). -/

namespace Sys2Proof.Machine

open Sys2Proof

theorem acts_coreCount (s : State) (c : Nat) (ev : Nat) :
    Acts 633825300114114700748351602688 0 s (State.coreCount s c ev) := by
  unfold State.coreCount
  extract_lets a1 a2 a3
  clear_value a1
  clear_value a2
  clear_value a3
  refine Acts.trans ?_ (Acts.set_cnt _ _) rfl rfl
  exact Acts.refl _ _ _

theorem acts_setCore (s : State) (c : Nat) (k : Core) :
    Acts 64 0 s (State.setCore s c k) := by
  unfold State.setCore
  refine Acts.trans ?_ (Acts.set_cores _ _) rfl rfl
  exact Acts.refl _ _ _

theorem acts_onCore (s : State) (c : Nat) (f : Core → Core) :
    Acts 64 0 s (State.onCore s c f) := by
  unfold State.onCore
  refine Acts.trans ?_ (acts_setCore _ _ _) rfl rfl
  exact Acts.refl _ _ _

theorem acts_ivalRestore (s : State) (c : Nat) (ck : Ckpt) :
    Acts 80 680564733841876926926749214863536422911 s (State.ivalRestore s c ck) := by
  unfold State.ivalRestore
  extract_lets a1
  have ha1 : Acts 80 680564733841876926926749214863536422911 s a1 := by
    dsimp only [a1]
    refine Acts.foldl (L2 := 80) (R2 := 680564733841876926926749214863536422911) _ ?_ (fun t2 x3 => ?_) rfl rfl
    · exact Acts.refl _ _ _
    · refine Acts.trans ?_ (Acts.wr _ _ _ _) rfl (RegId.inAll _)
      exact Acts.refl _ _ _
  clear_value a1
  refine Acts.trans ?_ (acts_onCore _ _ _) rfl rfl
  with_reducible assumption

theorem acts_openIval (s : State) (i : Nat) :
    Acts 536870912 0 s (State.openIval s i) := by
  unfold State.openIval
  extract_lets a1 a2 a3
  clear_value a1
  clear_value a2
  clear_value a3
  refine Acts.trans ?_ (Acts.set_pairs _ _) rfl rfl
  exact Acts.refl _ _ _

theorem acts_pairLog (s : State) (c : Nat) (typ : Nat) (value : W) :
    Acts 536870912 0 s (State.pairLog s c typ value) := by
  unfold State.pairLog
  split
  · exact Acts.refl _ _ _
  · extract_lets a1
    clear_value a1
    refine Acts.trans ?_ (Acts.set_pairs _ _) rfl rfl
    exact Acts.refl _ _ _

theorem acts_count (s : State) (unit : Nat) (ev : Nat) (part : Option Nat) (n : Nat) :
    Acts 633825300114114700748351602688 0 s (State.count s unit ev part n) := by
  unfold State.count
  extract_lets a1
  clear_value a1
  refine Acts.trans ?_ (Acts.set_cnt _ _) rfl rfl
  exact Acts.refl _ _ _

theorem acts_abortGroup (s : State) (c : Nat) (code : Nat) (cause : Nat) (user : Nat) :
    Acts 633825300114114700753183440976 192 s (State.abortGroup s c code cause user) := by
  unfold State.abortGroup
  extract_lets a1
  clear_value a1
  split
  · exact Acts.refl _ _ _
  · refine Acts.ite (fun _ => ?_) (fun _ => ?_)
    · exact Acts.refl _ _ _
    · extract_lets a2 a3 a4 a5 a6 a7 a8 a9 a10 a11
      clear_value a2
      have ha3 : Acts 633825300114114700753183440976 192 s a3 := by
        dsimp only [a3]
        refine Acts.ite (fun _ => ?_) (fun _ => ?_)
        · refine Acts.trans ?_ (acts_onCore _ _ _) rfl rfl
          exact Acts.refl _ _ _
        · refine Acts.trans ?_ (Acts.set_jrnRes _ _) rfl rfl
          exact Acts.refl _ _ _
      clear_value a3
      clear_value a4
      clear_value a5
      clear_value a6
      clear_value a7
      clear_value a8
      clear_value a9
      have ha10 : Acts 633825300114114700753183440976 192 s a10 := by
        dsimp only [a10]
        refine Acts.trans ?_ (Acts.wr _ _ _ _) rfl rfl
        refine Acts.trans ?_ (Acts.wr _ _ _ _) rfl rfl
        refine Acts.trans ?_ (acts_setCore _ _ _) rfl rfl
        with_reducible assumption
      clear_value a10
      have ha11 : Acts 633825300114114700753183440976 192 s a11 := by
        dsimp only [a11]
        refine Acts.trans ?_ (acts_coreCount _ _ _) rfl rfl
        with_reducible assumption
      clear_value a11
      refine Acts.ite (fun _ => ?_) (fun _ => ?_)
      · refine Acts.trans ?_ (acts_count _ _ _ _ _) rfl rfl
        refine Acts.trans ?_ (acts_setCore _ _ _) rfl rfl
        with_reducible assumption
      · split
        · refine Acts.trans ?_ (acts_openIval _ _) rfl rfl
          refine Acts.trans ?_ (acts_pairLog _ _ _ _) rfl rfl
          with_reducible assumption
        · with_reducible assumption

theorem acts_deliver (s : State) (h : Nat) (t : Nat) :
    Acts 633825300114114700753183440976 192 s (State.deliver s h t) := by
  unfold State.deliver
  refine Acts.ite (fun _ => ?_) (fun _ => ?_)
  · exact Acts.refl _ _ _
  · split
    · exact Acts.refl _ _ _
    · split
      · exact Acts.refl _ _ _
      · refine Acts.ite (fun _ => ?_) (fun _ => ?_)
        · refine Acts.ite (fun _ => ?_) (fun _ => ?_)
          · exact Acts.refl _ _ _
          · refine Acts.trans ?_ (acts_abortGroup _ _ _ _ _) rfl rfl
            exact Acts.refl _ _ _
        · split
          · exact Acts.refl _ _ _
          · refine Acts.trans ?_ (acts_onCore _ _ _) rfl rfl
            exact Acts.refl _ _ _

theorem acts_raise (s : State) (src : Nat) :
    Acts 633825300116420543762397134928 75557863725914323419328 s (State.raise s src) := by
  unfold State.raise
  extract_lets a1 a2 a3 a4 a5 a6
  clear_value a1
  clear_value a2
  clear_value a3
  clear_value a4
  have ha5 : Acts 633825300116420543762397134928 75557863725914323419328 s a5 := by
    refine Acts.trans ?_ (Acts.set_pend _ _) rfl rfl
    exact Acts.refl _ _ _
  clear_value a5
  have ha6 : Acts 633825300116420543762397134928 75557863725914323419328 s a6 := by
    dsimp only [a6]
    refine Acts.ite (fun _ => ?_) (fun _ => ?_)
    · refine Acts.trans ?_ (Acts.wr _ _ _ _) rfl rfl
      with_reducible assumption
    · with_reducible assumption
  clear_value a6
  refine Acts.ite (fun _ => ?_) (fun _ => ?_)
  · exact Acts.refl _ _ _
  · refine Acts.ite (fun _ => ?_) (fun _ => ?_)
    · exact Acts.refl _ _ _
    · refine Acts.ite (fun _ => ?_) (fun _ => ?_)
      · exact Acts.refl _ _ _
      · refine Acts.ite (fun _ => ?_) (fun _ => ?_)
        · exact Acts.refl _ _ _
        · refine Acts.trans ?_ (acts_deliver _ _ _) rfl rfl
          with_reducible assumption

theorem memOk_memSetBytes (m : List Host.Cell) (a : Nat) (bs : List Byte) (h : Memory.wf m = true) :
    Memory.wf (memSetBytes m a bs) = true := by
  induction bs generalizing m a with
  | nil => exact h
  | cons b bs ih => exact ih _ _ (twf_tset _ _ h)

/-- Writing bytes into DRAM keeps memory canonical. -/
theorem Acts.set_mem (s : State) (a : Nat) (bs : List Byte) : Acts 128 0 s { s with mem := memSetBytes s.mem a bs } where
  mem h := by cases h
  pending _ := rfl
  free _ := rfl
  stamp _ := rfl
  dtime _ := rfl
  regs _ := rfl
  rsp _ := rfl
  cores _ := rfl
  memPoison _ := rfl
  chans _ := rfl
  mcRsp _ := rfl
  opt _ := rfl
  bootSrc _ := rfl
  recovSel _ := rfl
  l3 _ := rfl
  depvb _ := rfl
  sieve _ := rfl
  trk _ := rfl
  fair _ := rfl
  slots _ := rfl
  agentReqs _ := rfl
  ghosts _ := rfl
  mesh _ := rfl
  txns _ := rfl
  linkStopped _ := rfl
  lidHeld _ := rfl
  pfw _ := rfl
  wtCache _ := rfl
  hartPart _ := rfl
  pairs _ := rfl
  spn _ := rfl
  spnChanged _ := rfl
  jrnRes _ := rfl
  jrnRecs _ := rfl
  pubs _ := rfl
  pubFlits _ := rfl
  repl _ := rfl
  ports _ := rfl
  fabIn _ := rfl
  fabRem _ := rfl
  fabDropped _ := rfl
  remote _ := rfl
  sqNext _ := rfl
  sqDone _ := rfl
  slew _ := rfl
  slewAcc _ := rfl
  pcieTags _ := rfl
  pcieOut _ := rfl
  pcieCpl _ := rfl
  portReset _ := rfl
  pcieLate _ := rfl
  msiLost _ := rfl
  ctxCache _ := rfl
  ioTlb _ := rfl
  jobs _ := rfl
  cphTurn _ := rfl
  cphKeys _ := rfl
  keys _ := rfl
  keyNext _ := rfl
  keyFreed _ := rfl
  srcHigh _ := rfl
  pend _ := rfl
  inServ _ := rfl
  nmiTaken _ := rfl
  records _ := rfl
  limits _ := rfl
  withheld _ := rfl
  errorN _ := rfl
  rstLevel _ := rfl
  relStep _ := rfl
  railOut _ := rfl
  pwrgood _ := rfl
  resetInLow _ := rfl
  prochotLow _ := rfl
  thermtrip _ := rfl
  readyPin _ := rfl
  unlocked _ := rfl
  regFailed _ := rfl
  pGoal _ := rfl
  pStop _ := rfl
  pkgIdle _ := rfl
  rtcAcc _ := rfl
  partStep _ := rfl
  fuses _ := rfl
  rcv _ := rfl
  bootStep _ := rfl
  flash _ := rfl
  ksCopy _ := rfl
  kek _ := rfl
  ksErased _ := rfl
  fmKeys _ := rfl
  boot _ := rfl
  spRsp _ := rfl
  evidence _ := rfl
  mac _ := rfl
  pages _ := rfl
  spd _ := rfl
  traceBuf _ := rfl
  snaps _ := rfl
  cnt _ := rfl
  ldl _ := rfl
  dbg _ := rfl
  lsio _ := rfl
  wdogNs _ := rfl
  cycAcc _ := rfl
  reg _ _ _ := rfl
  memOk h := memOk_memSetBytes _ _ _ h
  fuseUp _ h := h

theorem acts_dramWrite (s : State) (line : Nat) (d : Line) (poison : Bool) : Acts 384 0 s (s.dramWrite line d poison) := by
  unfold State.dramWrite
  split
  · have h := (Acts.set_mem s (line * 64) (leBytes 64 d.toNat)).mono (L := 384) (R := 0) rfl rfl
    exact h.trans (Acts.set_memPoison _ (tset false s.memPoison line poison)) rfl rfl
  · exact Acts.refl _ _ _

theorem acts_depvbPut (s : State) (line : Nat) (l : L3Line) :
    ActsO 32768 0 s (State.depvbPut s line l) := by
  unfold State.depvbPut
  refine ActsO.ite (fun _ => ?_) (fun _ => ?_)
  · refine ActsO.some ?_
    refine Acts.trans ?_ (Acts.set_depvb _ _) rfl rfl
    exact Acts.refl _ _ _
  · exact ActsO.none
theorem acts_depvbPut_eq {s : State} {line : Nat} {l : L3Line} {t : State} (h : (State.depvbPut s line l) = some t) : Acts 32768 0 s t := acts_depvbPut s line l t h

theorem acts_l3Evict (s : State) (vl : Nat) (x : L3Line) :
    ActsO 49536 0 s (State.l3Evict s vl x) := by
  unfold State.l3Evict
  extract_lets a1
  refine ActsO.ite (fun _ => ?_) (fun _ => ?_)
  · refine ActsO.some ?_
    dsimp only [a1]
    refine Acts.trans ?_ (Acts.set_l3 _ _) rfl rfl
    refine Acts.trans ?_ (acts_dramWrite _ _ _ _) rfl rfl
    exact Acts.refl _ _ _
  · refine ActsO.ite (fun _ => ?_) (fun _ => ?_)
    · refine ActsO.some ?_
      dsimp only [a1]
      refine Acts.trans ?_ (Acts.set_l3 _ _) rfl rfl
      refine Acts.ite (fun _ => ?_) (fun _ => ?_)
      · refine Acts.trans ?_ (acts_dramWrite _ _ _ _) rfl rfl
        exact Acts.refl _ _ _
      · exact Acts.refl _ _ _
    · refine ActsO.map (L2 := 49536) (R2 := 0) ?_ (fun t2 => ?_) rfl rfl
      · refine ActsO.trans ?_ (acts_depvbPut _ _ _) rfl rfl
        exact Acts.refl _ _ _
      · dsimp only [a1]
        refine Acts.trans ?_ (Acts.set_l3 _ _) rfl rfl
        exact Acts.refl _ _ _
theorem acts_l3Evict_eq {s : State} {vl : Nat} {x : L3Line} {t : State} (h : (State.l3Evict s vl x) = some t) : Acts 49536 0 s t := acts_l3Evict s vl x t h

theorem acts_drawn (s : State) :
    Acts 2 0 s (State.drawn s) := by
  unfold State.drawn
  refine Acts.trans ?_ (Acts.set_free _ _) rfl rfl
  exact Acts.refl _ _ _

theorem acts_l3Alloc (s : State) (line : Nat) (l : L3Line) :
    ActsO 49542 0 s (State.l3Alloc s line l) := by
  unfold State.l3Alloc
  extract_lets a1 a2 a3 a4
  clear_value a2
  clear_value a3
  clear_value a4
  refine ActsO.ite (fun _ => ?_) (fun _ => ?_)
  · exact ActsO.none
  · refine ActsO.ite (fun _ => ?_) (fun _ => ?_)
    · refine ActsO.some ?_
      dsimp only [a1]
      refine Acts.trans ?_ (Acts.set_stamp_l3_depvb _ _ _ _) rfl rfl
      exact Acts.refl _ _ _
    · split
      · refine ActsO.map (L2 := 49542) (R2 := 0) ?_ (fun t5 => ?_) rfl rfl
        · refine ActsO.trans ?_ (acts_l3Evict _ _ _) rfl rfl
          refine Acts.trans ?_ (acts_drawn _) rfl rfl
          exact Acts.refl _ _ _
        · dsimp only [a1]
          refine Acts.trans ?_ (Acts.set_stamp_l3_depvb _ _ _ _) rfl rfl
          exact Acts.refl _ _ _
      · exact ActsO.none
theorem acts_l3Alloc_eq {s : State} {line : Nat} {l : L3Line} {t : State} (h : (State.l3Alloc s line l) = some t) : Acts 49542 0 s t := acts_l3Alloc s line l t h

theorem acts_setFld (s : State) (F : Fld) (i v : Nat) : Acts 16 (2 ^ F.reg.num) s (s.setFld F i v) := Acts.wr _ _ _ _

theorem acts_incSat (s : State) (F : Fld) (i : Nat) : Acts 16 (2 ^ F.reg.num) s (s.incSat F i) := by
  unfold State.incSat
  dsimp only
  split
  · exact acts_setFld _ _ _ _
  · exact Acts.refl _ _ _

theorem acts_finishFlip (s : State) (c : Nat) :
    Acts 633825300116420543770987069520 75557863725914323419584 s (State.finishFlip s c) := by
  unfold State.finishFlip
  extract_lets a1
  clear_value a1
  split
  · exact Acts.refl _ _ _
  · split
    · extract_lets a2 a3 a4 a5 a6 a7 a8 a9 a10 a11 a12 a13 a14
      clear_value a2
      clear_value a3
      clear_value a4
      clear_value a5
      clear_value a6
      clear_value a7
      clear_value a8
      clear_value a9
      have ha10 : Acts 633825300116420543770987069520 75557863725914323419584 s a10 := by
        refine Acts.trans ?_ (Acts.set_jrnRecs _ _) rfl rfl
        exact Acts.refl _ _ _
      clear_value a10
      have ha11 : Acts 633825300116420543770987069520 75557863725914323419584 s a11 := by
        dsimp only [a11]
        refine Acts.trans ?_ (acts_setFld _ _ _ _) rfl rfl
        refine Acts.trans ?_ (Acts.wr _ _ _ _) rfl rfl
        with_reducible assumption
      clear_value a11
      have ha12 : Acts 633825300116420543770987069520 75557863725914323419584 s a12 := by
        dsimp only [a12]
        refine Acts.ite (fun _ => ?_) (fun _ => ?_)
        · refine Acts.trans ?_ (acts_raise _ _) rfl rfl
          refine Acts.trans ?_ (acts_setFld _ _ _ _) rfl rfl
          refine Acts.trans ?_ (acts_coreCount _ _ _) rfl rfl
          with_reducible assumption
        · refine Acts.trans ?_ (acts_coreCount _ _ _) rfl rfl
          with_reducible assumption
      clear_value a12
      clear_value a13
      clear_value a14
      refine Acts.trans ?_ (acts_setCore _ _ _) rfl rfl
      with_reducible assumption
    · exact Acts.refl _ _ _

theorem acts_settleFlips (s : State) (line : Nat) :
    Acts 633825300116420543770987069520 75557863725914323419584 s (State.settleFlips s line) := by
  unfold State.settleFlips
  refine Acts.foldl (L2 := 633825300116420543770987069520) (R2 := 75557863725914323419584) _ ?_ (fun t1 x2 => ?_) rfl rfl
  · exact Acts.refl _ _ _
  · refine Acts.ite (fun _ => ?_) (fun _ => ?_)
    · refine Acts.trans ?_ (acts_finishFlip _ _) rfl rfl
      exact Acts.refl _ _ _
    · exact Acts.refl _ _ _

theorem acts_clearResv (s : State) (line : Nat) (except : Option Nat) :
    Acts 64 0 s (State.clearResv s line except) := by
  unfold State.clearResv
  refine Acts.foldl (L2 := 64) (R2 := 0) _ ?_ (fun t1 x2 => ?_) rfl rfl
  · exact Acts.refl _ _ _
  · split
    · refine Acts.ite (fun _ => ?_) (fun _ => ?_)
      · refine Acts.trans ?_ (acts_onCore _ _ _) rfl rfl
        exact Acts.refl _ _ _
      · exact Acts.refl _ _ _
    · exact Acts.refl _ _ _

theorem acts_dropCopies (s : State) (line : Nat) :
    Acts 633825300116420543770987135056 75557863725914323419584 s (State.dropCopies s line) := by
  unfold State.dropCopies
  extract_lets a1 a2 a3 a4
  have ha1 : Acts 633825300116420543770987135056 75557863725914323419584 s a1 := by
    dsimp only [a1]
    refine Acts.trans ?_ (acts_settleFlips _ _) rfl rfl
    exact Acts.refl _ _ _
  clear_value a1
  have ha2 : Acts 633825300116420543770987135056 75557863725914323419584 s a2 := by
    dsimp only [a2]
    refine Acts.foldl (L2 := 633825300116420543770987135056) (R2 := 75557863725914323419584) _ ?_ (fun t5 x6 => ?_) rfl rfl
    · with_reducible assumption
    · refine Acts.ite (fun _ => ?_) (fun _ => ?_)
      · refine Acts.trans ?_ (acts_abortGroup _ _ _ _ _) rfl rfl
        exact Acts.refl _ _ _
      · exact Acts.refl _ _ _
  clear_value a2
  have ha3 : Acts 633825300116420543770987135056 75557863725914323419584 s a3 := by
    dsimp only [a3]
    refine Acts.trans ?_ (acts_clearResv _ _ _) rfl rfl
    with_reducible assumption
  clear_value a3
  have ha4 : Acts 633825300116420543770987135056 75557863725914323419584 s a4 := by
    dsimp only [a4]
    refine Acts.foldl (L2 := 633825300116420543770987135056) (R2 := 75557863725914323419584) _ ?_ (fun t7 x8 => ?_) rfl rfl
    · with_reducible assumption
    · refine Acts.trans ?_ (acts_onCore _ _ _) rfl rfl
      exact Acts.refl _ _ _
  clear_value a4
  refine Acts.trans ?_ (Acts.set_sieve _ _) rfl rfl
  with_reducible assumption

theorem acts_l3Put (s : State) (line : Nat) (l : L3Line) :
    Acts 49542 0 s (State.l3Put s line l) := by
  unfold State.l3Put
  split
  · refine Acts.trans ?_ (acts_l3Alloc_eq (by assumption)) rfl rfl
    exact Acts.refl _ _ _
  · extract_lets a1 a2 a3
    have ha1 : Acts 49542 0 s a1 := by
      refine Acts.trans ?_ (Acts.set_l3 _ _) rfl rfl
      exact Acts.refl _ _ _
    clear_value a1
    have ha2 : Acts 49542 0 s a2 := by
      dsimp only [a2]
      refine Acts.trans ?_ (acts_dramWrite _ _ _ _) rfl rfl
      with_reducible assumption
    clear_value a2
    have ha3 : Acts 49542 0 s a3 := by
      dsimp only [a3]
      refine Acts.trans ?_ (acts_dramWrite _ _ _ _) rfl rfl
      with_reducible assumption
    clear_value a3
    refine Acts.ite (fun _ => ?_) (fun _ => ?_)
    · refine Acts.trans ?_ (Acts.set_depvb _ _) rfl rfl
      with_reducible assumption
    · refine Acts.ite (fun _ => ?_) (fun _ => ?_)
      · refine Acts.trans ?_ (Acts.set_depvb _ _) rfl rfl
        with_reducible assumption
      · refine Acts.trans ?_ (Acts.set_depvb _ _) rfl rfl
        with_reducible assumption

theorem acts_agentWrite (s : State) (line : Nat) (d : Line) (mask : Nat) (secure : Bool) :
    Acts 633825300116420543770987184598 75557863725914323419584 s (State.agentWrite s line d mask secure) := by
  unfold State.agentWrite
  extract_lets a1 a2 a3 a4 a5 a6
  clear_value a2
  have ha3 : Acts 633825300116420543770987184598 75557863725914323419584 s a3 := by
    dsimp only [a3]
    refine Acts.trans ?_ (acts_dropCopies _ _) rfl rfl
    exact Acts.refl _ _ _
  clear_value a3
  clear_value a4
  clear_value a5
  have ha6 : Acts 633825300116420543770987184598 75557863725914323419584 s a6 := by
    refine Acts.trans ?_ (Acts.set_depvb _ _) rfl rfl
    with_reducible assumption
  clear_value a6
  refine Acts.trans ?_ (acts_l3Put _ _ _) rfl rfl
  with_reducible assumption

theorem acts_agentWriteBytes (s : State) (pa : Nat) (bs : List Byte) (secure : Bool) :
    Acts 633825300116420543770987184598 75557863725914323419584 s (State.agentWriteBytes s pa bs secure) := by
  unfold State.agentWriteBytes
  extract_lets a1 a2 a3 a4 a5
  clear_value a1
  clear_value a2
  clear_value a3
  have ha4 : Acts 633825300116420543770987184598 75557863725914323419584 s a4 := by
    dsimp only [a4]
    refine Acts.ite (fun _ => ?_) (fun _ => ?_)
    · exact Acts.refl _ _ _
    · refine Acts.trans ?_ (acts_agentWrite _ _ _ _ _) rfl rfl
      exact Acts.refl _ _ _
  clear_value a4
  clear_value a5
  refine Acts.foldl (L2 := 633825300116420543770987184598) (R2 := 75557863725914323419584) _ ?_ (fun t6 x7 => ?_) rfl rfl
  · with_reducible assumption
  · extract_lets a8
    clear_value a8
    refine Acts.ite (fun _ => ?_) (fun _ => ?_)
    · exact Acts.refl _ _ _
    · refine Acts.trans ?_ (acts_agentWrite _ _ _ _ _) rfl rfl
      exact Acts.refl _ _ _

theorem acts_ringWrite (s : State) (r : ErrRec) :
    Acts 633825300116420543770987184598 158456400586392401101411320256 s (State.ringWrite s r) := by
  unfold State.ringWrite
  refine Acts.ite (fun _ => ?_) (fun _ => ?_)
  · exact Acts.refl _ _ _
  · extract_lets a1
    clear_value a1
    refine Acts.ite (fun _ => ?_) (fun _ => ?_)
    · refine Acts.trans ?_ (acts_agentWriteBytes _ _ _ _) rfl rfl
      exact Acts.refl _ _ _
    · refine Acts.trans ?_ (acts_setFld _ _ _ _) rfl rfl
      refine Acts.trans ?_ (acts_setFld _ _ _ _) rfl rfl
      exact Acts.refl _ _ _

theorem acts_logErr (s : State) (source : Nat) (unit : Nat) (cls : Nat) (code : Nat) (addr : Nat) :
    Acts 633825300356228216729211355606 237684563100656738694955270592 s (State.logErr s source unit cls code addr) := by
  unfold State.logErr
  extract_lets a1 a2 a3 a4 a5
  clear_value a1
  clear_value a2
  clear_value a3
  have ha4 : Acts 633825300356228216729211355606 237684563100656738694955270592 s a4 := by
    refine Acts.trans ?_ (Acts.set_records_withheld_errorN _ _ _ _) rfl rfl
    exact Acts.refl _ _ _
  clear_value a4
  have ha5 : Acts 633825300356228216729211355606 237684563100656738694955270592 s a5 := by
    dsimp only [a5]
    refine Acts.trans ?_ (acts_ringWrite _ _) rfl rfl
    refine Acts.trans ?_ (acts_setFld _ _ _ _) rfl rfl
    with_reducible assumption
  clear_value a5
  refine Acts.trans ?_ (acts_raise _ _) rfl rfl
  with_reducible assumption

theorem acts_agentRead (s : State) (line : Nat) :
    Acts 633825300116420543770987069520 75557863725914323419584 s (State.agentRead s line) := by
  unfold State.agentRead
  extract_lets a1
  have ha1 : Acts 633825300116420543770987069520 75557863725914323419584 s a1 := by
    dsimp only [a1]
    refine Acts.trans ?_ (acts_settleFlips _ _) rfl rfl
    exact Acts.refl _ _ _
  clear_value a1
  refine Acts.foldl (L2 := 633825300116420543770987069520) (R2 := 75557863725914323419584) _ ?_ (fun t2 x3 => ?_) rfl rfl
  · with_reducible assumption
  · refine Acts.ite (fun _ => ?_) (fun _ => ?_)
    · refine Acts.trans ?_ (acts_abortGroup _ _ _ _ _) rfl rfl
      exact Acts.refl _ _ _
    · exact Acts.refl _ _ _

theorem acts_logLimited (s : State) (lim : Nat) (period : Nat) (source : Nat) (unit : Nat) (cls : Nat) (code : Nat) (addr : Nat) :
    Acts 633825300393121704876630458838 237684563100656738694955270592 s (State.logLimited s lim period source unit cls code addr) := by
  unfold State.logLimited
  extract_lets a1 a2
  clear_value a1
  clear_value a2
  refine Acts.ite (fun _ => ?_) (fun _ => ?_)
  · refine Acts.trans ?_ (Acts.set_withheld _ _) rfl rfl
    exact Acts.refl _ _ _
  · refine Acts.trans ?_ (acts_logErr _ _ _ _ _ _) rfl rfl
    refine Acts.trans ?_ (Acts.set_limits _ _) rfl rfl
    exact Acts.refl _ _ _

theorem acts_stopError (s : State) (node : Nat) :
    Acts 633825300116420543762397134928 75557863725914323419328 s (State.stopError s node) := by
  unfold State.stopError
  split
  · refine Acts.trans ?_ (acts_raise _ _) rfl rfl
    exact Acts.refl _ _ _
  · exact Acts.refl _ _ _

theorem acts_logRefusal (s : State) (node : Nat) (unit : Nat) (code : Nat) (part : Nat) (addr : Nat) :
    Acts 633825300393121704876630458838 237684563100656738694955270592 s (State.logRefusal s node unit code part addr) := by
  unfold State.logRefusal
  extract_lets a1
  have ha1 : Acts 633825300393121704876630458838 237684563100656738694955270592 s a1 := by
    dsimp only [a1]
    refine Acts.trans ?_ (acts_logLimited _ _ _ _ _ _ _ _) rfl rfl
    exact Acts.refl _ _ _
  clear_value a1
  refine Acts.ite (fun _ => ?_) (fun _ => ?_)
  · with_reducible assumption
  · refine Acts.trans ?_ (acts_stopError _ _) rfl rfl
    with_reducible assumption

theorem acts_stopRecord (s : State) (node : Nat) (unit : Nat) (code : Nat) (addr : Nat) :
    Acts 633825300356228216729211355606 237684563100656738694955270592 s (State.stopRecord s node unit code addr) := by
  unfold State.stopRecord
  refine Acts.trans ?_ (acts_stopError _ _) rfl rfl
  refine Acts.trans ?_ (acts_logErr _ _ _ _ _ _) rfl rfl
  exact Acts.refl _ _ _

theorem acts_setSlot (s : State) (c : Nat) (st : Nat) (hart : Nat) :
    Acts 16 1 s (State.setSlot s c st hart) := by
  unfold State.setSlot
  extract_lets a1
  clear_value a1
  refine Acts.trans ?_ (Acts.wr _ _ _ _) rfl rfl
  exact Acts.refl _ _ _

theorem acts_setDue (s : State) (d : Nat × Nat × Nat) :
    Acts 19807040628566084398385987584 0 s (State.setDue s d) := by
  unfold State.setDue
  refine Acts.ite (fun _ => ?_) (fun _ => ?_)
  · exact Acts.refl _ _ _
  · refine Acts.trans ?_ (Acts.set_mac _ _) rfl rfl
    exact Acts.refl _ _ _

theorem acts_message (s : State) (h : Nat) (t : Nat) (p : Nat) :
    Acts 633825300116420543762397134928 192 s (State.message s h t p) := by
  unfold State.message
  extract_lets a1
  clear_value a1
  refine Acts.ite (fun _ => ?_) (fun _ => ?_)
  · exact Acts.refl _ _ _
  · refine Acts.ite (fun _ => ?_) (fun _ => ?_)
    · exact Acts.refl _ _ _
    · refine Acts.trans ?_ (acts_deliver _ _ _) rfl rfl
      refine Acts.trans ?_ (Acts.set_pend _ _) rfl rfl
      exact Acts.refl _ _ _

theorem acts_countInstret (s : State) (c : Nat) :
    Acts 633825300114114700748351602688 0 s (State.countInstret s c) := by
  unfold State.countInstret
  refine Acts.ite (fun _ => ?_) (fun _ => ?_)
  · exact Acts.refl _ _ _
  · refine Acts.trans ?_ (Acts.set_cnt _ _) rfl rfl
    exact Acts.refl _ _ _

theorem acts_unDue (s : State) (d : Nat × Nat × Nat) :
    Acts 19807040628566084398385987584 0 s (State.unDue s d) := by
  unfold State.unDue
  refine Acts.trans ?_ (Acts.set_mac _ _) rfl rfl
  exact Acts.refl _ _ _

theorem acts_note (s : State) (key : Nat) (window : Nat) (detail : Nat) :
    Acts 19807040628566084398385987584 0 s (State.note s key window detail).2 := by
  unfold State.note
  extract_lets a1 a2
  clear_value a1
  clear_value a2
  dsimp only
  refine Acts.trans ?_ (Acts.set_mac _ _) rfl rfl
  exact Acts.refl _ _ _
theorem acts_note_eq {s : State} {key : Nat} {window : Nat} {detail : Nat} {x} {t : State} (h : (State.note s key window detail) = (x, t)) : Acts 19807040628566084398385987584 0 s t := by
  have := acts_note s key window detail; rw [h] at this; exact this

theorem acts_logRepair (s : State) (typ : Nat) (bits : Nat) :
    Acts 19807040628566084398385987584 0 s (State.logRepair s typ bits) := by
  unfold State.logRepair
  refine Acts.trans ?_ (Acts.set_mac _ _) rfl rfl
  exact Acts.refl _ _ _

theorem acts_forget (s : State) (key : Nat) :
    Acts 19807040628566084398385987584 0 s (State.forget s key) := by
  unfold State.forget
  refine Acts.trans ?_ (Acts.set_mac _ _) rfl rfl
  exact Acts.refl _ _ _

end Sys2Proof.Machine
end

