-- ==== Sys2Proof/Laws/RouterActs.lean ====
section
/-! SUPPORT. What each operation and each command of Router.lean may touch: `acts_<name>` bounds the fields and the registers that
`<name>` can change (see Acts.lean). -/

namespace Sys2Proof.Machine

open Sys2Proof

theorem acts_outputCycle (s : State) (node : Nat) (out : Nat) :
    Acts 4194304 0 s (State.outputCycle s node out) := by
  unfold State.outputCycle
  extract_lets a1 a2
  clear_value a1
  clear_value a2
  split
  · extract_lets a3
    clear_value a3
    split
    · refine Acts.ite (fun _ => ?_) (fun _ => ?_)
      · refine Acts.trans ?_ (Acts.set_mesh _ _) rfl rfl
        exact Acts.refl _ _ _
      · exact Acts.refl _ _ _
    · exact Acts.refl _ _ _
  · split
    · split
      · refine Acts.trans ?_ (Acts.set_mesh _ _) rfl rfl
        exact Acts.refl _ _ _
      · exact Acts.refl _ _ _
    · exact Acts.refl _ _ _

theorem acts_meshCycle (s : State) :
    Acts 4194304 0 s (State.meshCycle s) := by
  unfold State.meshCycle
  refine Acts.ite (fun _ => ?_) (fun _ => ?_)
  · exact Acts.refl _ _ _
  · extract_lets a1 a2 a3 a4
    clear_value a1
    have ha2 : Acts 4194304 0 s a2 := by
      dsimp only [a2]
      refine Acts.foldl (L2 := 4194304) (R2 := 0) _ ?_ (fun t5 x6 => ?_) rfl rfl
      · exact Acts.refl _ _ _
      · refine Acts.foldl (L2 := 4194304) (R2 := 0) _ ?_ (fun t7 x8 => ?_) rfl rfl
        · exact Acts.refl _ _ _
        · refine Acts.trans ?_ (acts_outputCycle _ _ _) rfl rfl
          exact Acts.refl _ _ _
    clear_value a2
    clear_value a3
    clear_value a4
    refine Acts.trans ?_ (Acts.set_mesh _ _) rfl rfl
    with_reducible assumption

theorem acts_post (s : State) (p : MPkt) :
    Acts 4194304 0 s (State.post s p) := by
  unfold State.post
  refine Acts.trans ?_ (Acts.set_mesh _ _) rfl rfl
  exact Acts.refl _ _ _

theorem acts_take (s : State) (m : Msg) (who : Nat) (addr : Nat) :
    Acts 4194304 0 s (State.take s m who addr) := by
  unfold State.take
  split
  · exact Acts.refl _ _ _
  · refine Acts.trans ?_ (Acts.set_mesh _ _) rfl rfl
    exact Acts.refl _ _ _

end Sys2Proof.Machine
end

