-- ==== Sys2Proof/Laws/RegAccessActs.lean ====
section
/-! SUPPORT. What each operation and each command of RegAccess.lean may touch: `acts_<name>` bounds the fields and the registers that
`<name>` can change (see Acts.lean). -/

namespace Sys2Proof.Machine

open Sys2Proof

theorem acts_answer (s : State) (ag : Agent) (data : W) (status : Nat) :
    Acts 2535301200456458802993410605152 0 s (State.answer s ag data status) := by
  unfold State.answer
  extract_lets a1 a2
  have ha1 : Acts 2535301200456458802993410605152 0 s a1 := by
    refine Acts.trans ?_ (Acts.set_rsp _ _) rfl rfl
    exact Acts.refl _ _ _
  clear_value a1
  clear_value a2
  split
  · split
    · refine Acts.ite (fun _ => ?_) (fun _ => ?_)
      · refine Acts.trans ?_ (acts_onCore _ _ _) rfl rfl
        refine Acts.trans ?_ (acts_take _ _ _ _) rfl rfl
        with_reducible assumption
      · with_reducible assumption
    · with_reducible assumption
  · refine Acts.trans ?_ (Acts.set_dbg _ _) rfl rfl
    with_reducible assumption
  · with_reducible assumption

theorem acts_answerW (s : State) (ag : Agent) (pa : Nat) (status : Nat) :
    Acts 2535301200456458802993418993760 0 s (State.answerW s ag pa status) := by
  unfold State.answerW
  split
  · split
    · refine Acts.trans ?_ (acts_take _ _ _ _) rfl rfl
      refine Acts.trans ?_ (Acts.set_rsp_txns _ _ _) rfl rfl
      exact Acts.refl _ _ _
    · refine Acts.trans ?_ (Acts.set_rsp _ _) rfl rfl
      exact Acts.refl _ _ _
  · refine Acts.trans ?_ (acts_answer _ _ _ _) rfl rfl
    exact Acts.refl _ _ _

theorem acts_answerNo (s : State) (ag : Agent) (pa : Nat) (write : Bool) (status : Nat) :
    Acts 2535301200456458802993418993760 0 s (State.answerNo s ag pa write status) := by
  unfold State.answerNo
  refine Acts.ite (fun _ => ?_) (fun _ => ?_)
  · refine Acts.trans ?_ (acts_answerW _ _ _ _) rfl rfl
    exact Acts.refl _ _ _
  · refine Acts.trans ?_ (acts_answer _ _ _ _) rfl rfl
    exact Acts.refl _ _ _

theorem acts_refuse (s : State) (ag : Agent) (g : Gate) (pa : Nat) (write : Bool) :
    Acts 3169126500849580507870049452534 237684563100656738694955270592 s (State.refuse s ag g pa write) := by
  unfold State.refuse
  extract_lets a1
  clear_value a1
  split
  · exact Acts.refl _ _ _
  · exact Acts.refl _ _ _
  · split
    · refine Acts.trans ?_ (acts_answerNo _ _ _ _ _) rfl rfl
      refine Acts.trans ?_ (acts_logRefusal _ _ _ _ _ _) rfl rfl
      exact Acts.refl _ _ _
    · refine Acts.trans ?_ (acts_answerNo _ _ _ _ _) rfl rfl
      refine Acts.trans ?_ (acts_logRefusal _ _ _ _ _ _) rfl rfl
      exact Acts.refl _ _ _
  · split
    · refine Acts.trans ?_ (acts_answerNo _ _ _ _ _) rfl rfl
      refine Acts.trans ?_ (acts_stopRecord _ _ _ _ _) rfl rfl
      exact Acts.refl _ _ _
    · refine Acts.trans ?_ (acts_answerNo _ _ _ _ _) rfl rfl
      exact Acts.refl _ _ _
  · refine Acts.ite (fun _ => ?_) (fun _ => ?_)
    · refine Acts.trans ?_ (acts_answerW _ _ _ _) rfl rfl
      refine Acts.trans ?_ (acts_logRefusal _ _ _ _ _ _) rfl rfl
      exact Acts.refl _ _ _
    · refine Acts.trans ?_ (acts_answer _ _ _ _) rfl rfl
      exact Acts.refl _ _ _

theorem acts_odcRead (s : State) (ag : Agent) (pa : Nat) (size : Nat) :
    Acts 3486039150906637858244225253878 237684563100656738694955270592 s (State.odcRead s ag pa size) := by
  unfold State.odcRead
  split
  · split
    · refine Acts.trans ?_ (acts_answer _ _ _ _) rfl rfl
      exact Acts.refl _ _ _
    · refine Acts.trans ?_ (acts_refuse _ _ _ _ _) rfl rfl
      exact Acts.refl _ _ _
  · split
    · split
      · refine Acts.trans ?_ (acts_answer _ _ _ _) rfl rfl
        exact Acts.refl _ _ _
      · split
        · refine Acts.trans ?_ (acts_answer _ _ _ _) rfl rfl
          exact Acts.refl _ _ _
        · refine Acts.trans ?_ (acts_refuse _ _ _ _ _) rfl rfl
          exact Acts.refl _ _ _
    · split
      · refine Acts.trans ?_ (acts_answer _ _ _ _) rfl rfl
        exact Acts.refl _ _ _
      · refine Acts.trans ?_ (acts_refuse _ _ _ _ _) rfl rfl
        exact Acts.refl _ _ _
    · split
      · extract_lets a1 a2 a3
        clear_value a1
        clear_value a2
        clear_value a3
        refine Acts.ite (fun _ => ?_) (fun _ => ?_)
        · refine Acts.trans ?_ (acts_answer _ _ _ _) rfl rfl
          refine Acts.trans ?_ (Acts.set_snaps _ _) rfl rfl
          exact Acts.refl _ _ _
        · refine Acts.trans ?_ (acts_answer _ _ _ _) rfl rfl
          exact Acts.refl _ _ _
      · refine Acts.trans ?_ (acts_refuse _ _ _ _ _) rfl rfl
        exact Acts.refl _ _ _

/-- Every field that a register lists is a field of it. -/
theorem RegId.flds_reg (r : RegId) : ∀ F ∈ r.flds, F.reg = r := by
  cases r <;> simp [RegId.flds, Fld.reg] <;> decide

theorem acts_foldl_flds {r : RegId} (l : List Fld) (h : ∀ F ∈ l, F.reg = r) {L R : Nat} {s t : State} {f : State → Fld → State}
    (h1 : Acts L R s t) (hf : ∀ t F, F.reg = r → Acts L R t (f t F)) : Acts L R s (l.foldl f t) := by
  induction l generalizing t with
  | nil => exact h1
  | cons x l ih =>
    exact ih (fun F hF => h F (List.mem_cons_of_mem _ hF)) (h1.trans (hf t x (h x List.mem_cons_self)) (Nat.or_self _) (Nat.or_self _))

theorem acts_regWrite (s : State) (r : RegId) (i : Nat) (w : W) : Acts 16 (2 ^ r.num) s (s.regWrite r i w) := by
  unfold State.regWrite
  refine acts_foldl_flds _ r.flds_reg (Acts.refl _ _ _) fun t F hF => ?_
  subst hF
  dsimp only
  split
  · exact Acts.refl _ _ _
  · split
    · split
      · exact acts_setFld _ _ _ _
      · exact Acts.refl _ _ _
    · exact acts_setFld _ _ _ _
    · exact acts_setFld _ _ _ _
    · exact Acts.refl _ _ _

theorem acts_serveLoad (s : State) (c : Nat) (pa : Nat) (size : Nat) :
    Acts 3486039150906637858244225253878 237684563100656738694955270592 s (State.serveLoad s c pa size) := by
  unfold State.serveLoad
  split
  · split
    · refine Acts.ite (fun _ => ?_) (fun _ => ?_)
      · exact Acts.refl _ _ _
      · refine Acts.trans ?_ (acts_odcRead _ _ _ _) rfl rfl
        exact Acts.refl _ _ _
    · refine Acts.trans ?_ (acts_odcRead _ _ _ _) rfl rfl
      exact Acts.refl _ _ _
  · split
    · refine Acts.ite (fun _ => ?_) (fun _ => ?_)
      · exact Acts.refl _ _ _
      · refine Acts.trans ?_ (acts_odcRead _ _ _ _) rfl rfl
        exact Acts.refl _ _ _
    · refine Acts.trans ?_ (acts_odcRead _ _ _ _) rfl rfl
      exact Acts.refl _ _ _
  · exact Acts.refl _ _ _

theorem acts_setPage (s : State) (n : Nat) (p : Page) :
    Acts 39614081257132168796771975168 0 s (State.setPage s n p) := by
  unfold State.setPage
  refine Acts.trans ?_ (Acts.set_pages _ _) rfl rfl
  exact Acts.refl _ _ _

theorem acts_onWrite {L R : Nat} (s : State) (ag : Agent) (r : RegId) (i : Nat) (w : W) {k : State → State}
    (hk : ∀ t, Acts L R t (k t)) (hL : 3169126500849580507870049452534 ||| L = L) (hR : (237684563100656738694955270592 ||| 2 ^ r.num) ||| R = R) : Acts L R s (s.onWrite ag r i w k) := by
  have hL' := Nat.or_comm _ _ ▸ hL
  have hR0 : 237684563100656738694955270592 ||| R = R := by rw [← hR, ← Nat.or_assoc, ← Nat.or_assoc, Nat.or_self]
  have hR1 : 2 ^ r.num ||| R = R := by
    rw [← hR, ← Nat.or_assoc, Nat.or_comm (2 ^ r.num), Nat.or_assoc 237684563100656738694955270592, Nat.or_self]
  refine Acts.trans (L2 := L) (R2 := R) (Acts.refl _ _ _) ?_ (Nat.or_self _) (Nat.or_self _)
  unfold State.onWrite
  split
  · refine Acts.trans ?_ ((acts_answerW _ _ _ _).mono (L := 3169126500849580507870049452534) (R := 237684563100656738694955270592) rfl rfl) hL hR0
    split
    · exact Acts.refl _ _ _
    · exact Acts.trans ((acts_regWrite _ _ _ _).mono (L := 3169126500849580507870049452534) (R := 2 ^ r.num) rfl (Nat.or_self _) |>.mono hL hR1) (hk _)
        (Nat.or_self _) (Nat.or_self _)
  · exact (acts_refuse _ _ _ _ _).mono hL hR0

theorem acts_mbxPut (s : State) (n : Nat) (off : Nat) (bs : List Byte) :
    Acts 39614081257132168796771975168 0 s (State.mbxPut s n off bs) := by
  unfold State.mbxPut
  refine Acts.ite (fun _ => ?_) (fun _ => ?_)
  · exact Acts.refl _ _ _
  · extract_lets a1 a2
    clear_value a1
    clear_value a2
    refine Acts.trans ?_ (acts_setPage _ _ _) rfl rfl
    exact Acts.refl _ _ _

theorem acts_writeFld (s : State) (F : Fld) (i : Nat) (w : W) : Acts 16 (2 ^ F.reg.num) s (s.writeFld F i w) := by
  unfold State.writeFld
  dsimp only
  split
  · exact Acts.refl _ _ _
  · split
    · split
      · exact acts_setFld _ _ _ _
      · exact Acts.refl _ _ _
    · exact acts_setFld _ _ _ _
    · exact acts_setFld _ _ _ _
    · exact Acts.refl _ _ _

theorem acts_snap (s : State) (r : RegId) (i : Nat) (v : W) :
    Acts 316912650057057350374175801344 0 s (State.snap s r i v) := by
  unfold State.snap
  refine Acts.trans ?_ (Acts.set_snaps _ _) rfl rfl
  exact Acts.refl _ _ _

theorem acts_bufPut (s : State) (b : Buf) (bs : List Byte) :
    Acts 2574915281713590971790178385920 0 s (State.bufPut s b bs) := by
  unfold State.bufPut
  split
  · refine Acts.trans ?_ (acts_mbxPut _ _ _ _) rfl rfl
    exact Acts.refl _ _ _
  · extract_lets a1 a2
    clear_value a1
    clear_value a2
    refine Acts.trans ?_ (Acts.set_dbg _ _) rfl rfl
    exact Acts.refl _ _ _

end Sys2Proof.Machine
end

