-- ==== Sys2Proof/Laws/CoreOpsActs.lean ====
section
/-! SUPPORT. What each operation and each command of CoreOps.lean may touch: `acts_<name>` bounds the fields and the registers that
`<name>` can change (see Acts.lean). -/

namespace Sys2Proof.Machine

open Sys2Proof

theorem acts_wtFetch (s : State) (key : Nat) (part : Nat) (pa : Nat) :
    Acts 633825300114114700748485820416 0 s (State.wtFetch s key part pa).2 := by
  unfold State.wtFetch
  extract_lets a1 a2 a3 a4 a5 a6
  clear_value a1
  clear_value a2
  clear_value a3
  clear_value a4
  clear_value a5
  have ha6 : Acts 633825300114114700748485820416 0 s a6 := by
    refine Acts.trans ?_ (Acts.set_wtCache _ _) rfl rfl
    exact Acts.refl _ _ _
  clear_value a6
  split
  · exact Acts.refl _ _ _
  · dsimp only
    refine Acts.ite (fun _ => ?_) (fun _ => ?_)
    · refine Acts.trans ?_ (acts_count _ _ _ _ _) rfl rfl
      with_reducible assumption
    · with_reducible assumption
theorem acts_wtFetch_eq {s : State} {key : Nat} {part : Nat} {pa : Nat} {x} {t : State} (h : (State.wtFetch s key part pa) = (x, t)) : Acts 633825300114114700748485820416 0 s t := by
  have := acts_wtFetch s key part pa; rw [h] at this; exact this

theorem acts_dramOwner (s : State) (key : Nat) (part : Nat) (pa : Nat) :
    Acts 633825300114114700748485820416 0 s (State.dramOwner s key part pa).2 := by
  unfold State.dramOwner
  refine Acts.ite2 (fun _ => ?_) (fun _ => ?_)
  · exact Acts.refl _ _ _
  · refine Acts.ite2 (fun _ => ?_) (fun _ => ?_)
    · exact Acts.refl _ _ _
    · extract_lets a1
      clear_value (ea1 : a1 = _)
      have ha1 : Acts 633825300114114700748485820416 0 s a1.2 := by
        rw [ea1]
        clear ea1
        refine Acts.trans ?_ (acts_wtFetch _ _ _ _) rfl rfl
        exact Acts.refl _ _ _
      clear ea1
      with_reducible assumption
theorem acts_dramOwner_eq {s : State} {key : Nat} {part : Nat} {pa : Nat} {x} {t : State} (h : (State.dramOwner s key part pa) = (x, t)) : Acts 633825300114114700748485820416 0 s t := by
  have := acts_dramOwner s key part pa; rw [h] at this; exact this

theorem acts_worldOk (s : State) (key : Nat) (secure : Bool) (part : Nat) (pa : Nat) :
    Acts 633825300114114700748485820416 0 s (State.worldOk s key secure part pa).2 := by
  unfold State.worldOk
  split
  · extract_lets a1
    clear_value (ea1 : a1 = _)
    have ha1 : Acts 633825300114114700748485820416 0 s a1.2 := by
      rw [ea1]
      clear ea1
      refine Acts.trans ?_ (acts_dramOwner _ _ _ _) rfl rfl
      exact Acts.refl _ _ _
    clear ea1
    with_reducible assumption
  · exact Acts.refl _ _ _
  · exact Acts.refl _ _ _
  · exact Acts.refl _ _ _
  · exact Acts.refl _ _ _
  · exact Acts.refl _ _ _
theorem acts_worldOk_eq {s : State} {key : Nat} {secure : Bool} {part : Nat} {pa : Nat} {x} {t : State} (h : (State.worldOk s key secure part pa) = (x, t)) : Acts 633825300114114700748485820416 0 s t := by
  have := acts_worldOk s key secure part pa; rw [h] at this; exact this

theorem acts_xlatChecks (s : State) (c : Nat) (md : Mode) (size : Nat) (acc : Nat) (pa : Nat) (pbmt : Nat) (ewa : Bool) (wt : Option Bool) (att : Region → Nat → Bool) :
    Acts 633825300393121704876764676566 237684563100656738694955270592 s (State.xlatChecks s c md size acc pa pbmt ewa wt att).2 := by
  unfold State.xlatChecks
  extract_lets a1 a2
  clear_value a1
  clear_value (ea2 : a2 = _)
  have ha2 : Acts 633825300393121704876764676566 237684563100656738694955270592 s a2.2 := by
    rw [ea2]
    clear ea2
    split
    · exact Acts.refl _ _ _
    · refine Acts.trans ?_ (acts_worldOk _ _ _ _ _) rfl rfl
      exact Acts.refl _ _ _
  clear ea2
  refine Acts.ite2 (fun _ => ?_) (fun _ => ?_)
  · exact Acts.refl _ _ _
  · refine Acts.ite2 (fun _ => ?_) (fun _ => ?_)
    · exact Acts.refl _ _ _
    · refine Acts.ite2 (fun _ => ?_) (fun _ => ?_)
      · exact Acts.refl _ _ _
      · refine Acts.ite2 (fun _ => ?_) (fun _ => ?_)
        · exact Acts.refl _ _ _
        · refine Acts.ite2 (fun _ => ?_) (fun _ => ?_)
          · with_reducible assumption
          · dsimp only
            refine Acts.trans ?_ (acts_logRefusal _ _ _ _ _ _) rfl rfl
            with_reducible assumption
theorem acts_xlatChecks_eq {s : State} {c : Nat} {md : Mode} {size : Nat} {acc : Nat} {pa : Nat} {pbmt : Nat} {ewa : Bool} {wt : Option Bool} {att : Region → Nat → Bool} {x} {t : State} (h : (State.xlatChecks s c md size acc pa pbmt ewa wt att) = (x, t)) : Acts 633825300393121704876764676566 237684563100656738694955270592 s t := by
  have := acts_xlatChecks s c md size acc pa pbmt ewa wt att; rw [h] at this; exact this

theorem acts_fillL1I (s : State) (c : Nat) (line : Nat) :
    Acts 66 0 s (State.fillL1I s c line) := by
  unfold State.fillL1I
  extract_lets a1 a2 a3 a4
  clear_value a1
  clear_value a2
  clear_value a3
  clear_value a4
  refine Acts.trans ?_ (acts_setCore _ _ _) rfl rfl
  refine Acts.ite (fun _ => ?_) (fun _ => ?_)
  · exact Acts.refl _ _ _
  · refine Acts.trans ?_ (acts_drawn _) rfl rfl
    exact Acts.refl _ _ _

theorem acts_trace (s : State) (c : Nat) (typ : Nat) (info : Nat) (addr : Nat) :
    Acts 3327582825601408021942891446352 649037107392411317292226364571840 s (State.trace s c typ info addr) := by
  unfold State.trace
  extract_lets a1 a2 a3 a4 a5 a6 a7 a8 a9 a10
  clear_value a1
  clear_value a2
  clear_value a3
  clear_value a5
  clear_value a6
  clear_value a7
  clear_value a8
  clear_value a9
  have ha10 : Acts 3327582825601408021942891446352 649037107392411317292226364571840 s a10 := by
    refine Acts.trans ?_ (Acts.set_dbg _ _) rfl rfl
    exact Acts.refl _ _ _
  clear_value a10
  refine Acts.ite (fun _ => ?_) (fun _ => ?_)
  · exact Acts.refl _ _ _
  · refine Acts.ite (fun _ => ?_) (fun _ => ?_)
    · exact Acts.refl _ _ _
    · refine Acts.ite (fun _ => ?_) (fun _ => ?_)
      · exact Acts.refl _ _ _
      · refine Acts.ite (fun _ => ?_) (fun _ => ?_)
        · refine Acts.trans ?_ (Acts.set_traceBuf_dbg _ _ _) rfl rfl
          exact Acts.refl _ _ _
        · refine Acts.ite (fun _ => ?_) (fun _ => ?_)
          · refine Acts.trans ?_ (Acts.set_traceBuf _ _) rfl rfl
            exact Acts.refl _ _ _
          · refine Acts.trans ?_ (acts_raise _ _) rfl rfl
            refine Acts.trans ?_ (acts_incSat _ _ _) rfl rfl
            with_reducible assumption

theorem acts_endIval (s : State) (i : Nat) :
    Acts 536870912 0 s (State.endIval s i) := by
  unfold State.endIval
  extract_lets a1 a2
  clear_value a1
  have ha2 : Acts 536870912 0 s a2 := by
    refine Acts.trans ?_ (Acts.set_pairs _ _) rfl rfl
    exact Acts.refl _ _ _
  clear_value a2
  refine Acts.trans ?_ (acts_openIval _ _) rfl rfl
  with_reducible assumption

theorem acts_closeIval (s : State) (c : Nat) :
    Acts 536870912 0 s (State.closeIval s c) := by
  unfold State.closeIval
  split
  · exact Acts.refl _ _ _
  · extract_lets a1
    clear_value a1
    refine Acts.ite (fun _ => ?_) (fun _ => ?_)
    · exact Acts.refl _ _ _
    · refine Acts.trans ?_ (acts_endIval _ _) rfl rfl
      exact Acts.refl _ _ _

theorem acts_rebase (s : State) (c : Nat) :
    Acts 536870912 0 s (State.rebase s c) := by
  unfold State.rebase
  split
  · exact Acts.refl _ _ _
  · extract_lets a1 a2 a3 a4
    clear_value a1
    clear_value a2
    clear_value a3
    clear_value a4
    refine Acts.trans ?_ (Acts.set_pairs _ _) rfl rfl
    exact Acts.refl _ _ _

theorem acts_trailerRun (s : State) (c : Nat) (r : Run) :
    Acts 64 0 s (State.trailerRun s c r) := by
  unfold State.trailerRun
  split
  · refine Acts.trans ?_ (acts_onCore _ _ _) rfl rfl
    exact Acts.refl _ _ _
  · exact Acts.refl _ _ _

theorem acts_enterHalt (s : State) (c : Nat) (cause : Nat) (trig : Nat) :
    Acts 3327582825601408021942891446352 3245185536659825131557474529181888 s (State.enterHalt s c cause trig) := by
  unfold State.enterHalt
  extract_lets a1 a2 a3 a4 a5 a6
  clear_value a1
  have ha2 : Acts 3327582825601408021942891446352 3245185536659825131557474529181888 s a2 := by
    dsimp only [a2]
    refine Acts.trans ?_ (acts_trailerRun _ _ _) rfl rfl
    refine Acts.trans ?_ (acts_pairLog _ _ _ _) rfl rfl
    refine Acts.trans ?_ (acts_abortGroup _ _ _ _ _) rfl rfl
    exact Acts.refl _ _ _
  clear_value a2
  have ha3 : Acts 3327582825601408021942891446352 3245185536659825131557474529181888 s a3 := by
    dsimp only [a3]
    refine Acts.trans ?_ (acts_onCore _ _ _) rfl rfl
    with_reducible assumption
  clear_value a3
  have ha4 : Acts 3327582825601408021942891446352 3245185536659825131557474529181888 s a4 := by
    dsimp only [a4]
    refine Acts.trans ?_ (acts_setFld _ _ _ _) rfl rfl
    refine Acts.trans ?_ (acts_setFld _ _ _ _) rfl rfl
    refine Acts.trans ?_ (acts_setFld _ _ _ _) rfl rfl
    with_reducible assumption
  clear_value a4
  have ha5 : Acts 3327582825601408021942891446352 3245185536659825131557474529181888 s a5 := by
    dsimp only [a5]
    refine Acts.trans ?_ (acts_raise _ _) rfl rfl
    refine Acts.trans ?_ (acts_trace _ _ _ _ _) rfl rfl
    with_reducible assumption
  clear_value a5
  clear_value a6
  refine Acts.trans ?_ (Acts.set_dbg _ _) rfl rfl
  with_reducible assumption

theorem acts_worldSwitch (s : State) (c : Nat) (secure : Bool) :
    Acts 3327582825601408021942891446352 649037107392411317292226364571840 s (State.worldSwitch s c secure) := by
  unfold State.worldSwitch
  extract_lets a1 a2
  have ha1 : Acts 3327582825601408021942891446352 649037107392411317292226364571840 s a1 := by
    dsimp only [a1]
    refine Acts.trans ?_ (acts_abortGroup _ _ _ _ _) rfl rfl
    exact Acts.refl _ _ _
  clear_value a1
  have ha2 : Acts 3327582825601408021942891446352 649037107392411317292226364571840 s a2 := by
    dsimp only [a2]
    refine Acts.trans ?_ (acts_onCore _ _ _) rfl rfl
    with_reducible assumption
  clear_value a2
  refine Acts.trans ?_ (acts_trace _ _ _ _ _) rfl rfl
  with_reducible assumption

theorem acts_takeTrap (s : State) (c : Nat) (intr : Bool) (code : Nat) (tval : W) (gpa : W) :
    Acts 3327582825601408021942891446352 3245185536660415427367833234833600 s (State.takeTrap s c intr code tval gpa) := by
  unfold State.takeTrap
  extract_lets a1 a2 a3 a4 a5 a6 a7 a8 a9 a10
  clear_value a1
  clear_value a2
  have ha4 : Acts 3327582825601408021942891446352 3245185536660415427367833234833600 s a4 := by
    dsimp only [a4]
    refine Acts.ite (fun _ => ?_) (fun _ => ?_)
    · refine Acts.trans ?_ (acts_worldSwitch _ _ _) rfl rfl
      exact Acts.refl _ _ _
    · exact Acts.refl _ _ _
  clear_value a4
  clear_value a5
  clear_value a6
  clear_value a7
  have ha8 : Acts 3327582825601408021942891446352 3245185536660415427367833234833600 s a8 := by
    dsimp only [a8]
    refine Acts.trans ?_ (acts_setCore _ _ _) rfl rfl
    with_reducible assumption
  clear_value a8
  have ha9 : Acts 3327582825601408021942891446352 3245185536660415427367833234833600 s a9 := by
    dsimp only [a9]
    refine Acts.ite (fun _ => ?_) (fun _ => ?_)
    · refine Acts.trans ?_ (acts_setFld _ _ _ _) rfl rfl
      with_reducible assumption
    · with_reducible assumption
  clear_value a9
  have ha10 : Acts 3327582825601408021942891446352 3245185536660415427367833234833600 s a10 := by
    dsimp only [a10]
    refine Acts.trans ?_ (acts_rebase _ _) rfl rfl
    refine Acts.trans ?_ (acts_trace _ _ _ _ _) rfl rfl
    refine Acts.trans ?_ (acts_coreCount _ _ _) rfl rfl
    with_reducible assumption
  clear_value a10
  refine Acts.ite (fun _ => ?_) (fun _ => ?_)
  · refine Acts.ite (fun _ => ?_) (fun _ => ?_)
    · refine Acts.ite (fun _ => ?_) (fun _ => ?_)
      · with_reducible assumption
      · refine Acts.trans ?_ (acts_enterHalt _ _ _ _) rfl rfl
        with_reducible assumption
    · refine Acts.trans ?_ (acts_onCore _ _ _) rfl rfl
      with_reducible assumption
  · with_reducible assumption

theorem acts_exception (s : State) (c : Nat) (code : Nat) (tval : W) (gpa : W) :
    Acts 3327582825601408021942891446352 3245185536660415427367833234833600 s (State.exception s c code tval gpa) := by
  unfold State.exception
  split
  · extract_lets a1
    have ha1 : Acts 3327582825601408021942891446352 3245185536660415427367833234833600 s a1 := by
      dsimp only [a1]
      refine Acts.trans ?_ (acts_abortGroup _ _ _ _ _) rfl rfl
      exact Acts.refl _ _ _
    clear_value a1
    refine Acts.trans ?_ (acts_trace _ _ _ _ _) rfl rfl
    with_reducible assumption
  · refine Acts.ite (fun _ => ?_) (fun _ => ?_)
    · refine Acts.trans ?_ (acts_takeTrap _ _ _ _ _ _) rfl rfl
      exact Acts.refl _ _ _
    · refine Acts.trans ?_ (acts_closeIval _ _) rfl rfl
      exact Acts.refl _ _ _

theorem acts_xlatAs (s : State) (c : Nat) (va : Nat) (size : Nat) (acc : Nat) (att : Region → Nat → Bool) :
    Acts 633825300393121704876764676566 237684563100656738694955270592 s (State.xlatAs s c va size acc att).2 := by
  unfold State.xlatAs
  extract_lets a1 a2 a3 a4
  clear_value a1
  clear_value a2
  clear_value a3
  clear_value a4
  refine Acts.ite2 (fun _ => ?_) (fun _ => ?_)
  · refine Acts.trans ?_ (acts_xlatChecks _ _ _ _ _ _ _ _ _ _) rfl rfl
    exact Acts.refl _ _ _
  · split
    · exact Acts.refl _ _ _
    · extract_lets a5 a6
      clear_value a5
      have ha6 : Acts 633825300393121704876764676566 237684563100656738694955270592 s a6 := by
        dsimp only [a6]
        refine Acts.trans ?_ (acts_onCore _ _ _) rfl rfl
        exact Acts.refl _ _ _
      clear_value a6
      refine Acts.ite2 (fun _ => ?_) (fun _ => ?_)
      · exact Acts.refl _ _ _
      · refine Acts.ite2 (fun _ => ?_) (fun _ => ?_)
        · exact Acts.refl _ _ _
        · refine Acts.ite2 (fun _ => ?_) (fun _ => ?_)
          · refine Acts.trans ?_ (acts_xlatChecks _ _ _ _ _ _ _ _ _ _) rfl rfl
            with_reducible assumption
          · refine Acts.trans ?_ (acts_xlatChecks _ _ _ _ _ _ _ _ _ _) rfl rfl
            with_reducible assumption
theorem acts_xlatAs_eq {s : State} {c : Nat} {va : Nat} {size : Nat} {acc : Nat} {att : Region → Nat → Bool} {x} {t : State} (h : (State.xlatAs s c va size acc att) = (x, t)) : Acts 633825300393121704876764676566 237684563100656738694955270592 s t := by
  have := acts_xlatAs s c va size acc att; rw [h] at this; exact this

theorem acts_xlat (s : State) (c : Nat) (va : Nat) (size : Nat) (acc : Nat) :
    Acts 633825300393121704876764676566 237684563100656738694955270592 s (State.xlat s c va size acc).2 := by
  unfold State.xlat
  refine Acts.trans ?_ (acts_xlatAs _ _ _ _ _ _) rfl rfl
  exact Acts.refl _ _ _
theorem acts_xlat_eq {s : State} {c : Nat} {va : Nat} {size : Nat} {acc : Nat} {x} {t : State} (h : (State.xlat s c va size acc) = (x, t)) : Acts 633825300393121704876764676566 237684563100656738694955270592 s t := by
  have := acts_xlat s c va size acc; rw [h] at this; exact this

theorem acts_stopAfter (s : State) (c : Nat) (ns : List Nat) :
    Acts 3327582825601408021942891446352 3245185536659825131557474529181888 s (State.stopAfter s c ns) := by
  unfold State.stopAfter
  split
  · exact Acts.refl _ _ _
  · refine Acts.ite (fun _ => ?_) (fun _ => ?_)
    · refine Acts.trans ?_ (acts_enterHalt _ _ _ _) rfl rfl
      exact Acts.refl _ _ _
    · refine Acts.trans ?_ (acts_closeIval _ _) rfl rfl
      refine Acts.trans ?_ (acts_onCore _ _ _) rfl rfl
      exact Acts.refl _ _ _

theorem acts_pairFold (s : State) (c : Nat) (pc : Nat) (dests : List W) (a : Option MemAcc) :
    Acts 536870912 0 s (State.pairFold s c pc dests a) := by
  unfold State.pairFold
  split
  · exact Acts.refl _ _ _
  · extract_lets a1 a2 a3 a4 a5 a6
    clear_value a1
    clear_value a2
    clear_value a3
    clear_value a4
    clear_value a5
    have ha6 : Acts 536870912 0 s a6 := by
      refine Acts.trans ?_ (Acts.set_pairs _ _) rfl rfl
      exact Acts.refl _ _ _
    clear_value a6
    refine Acts.ite (fun _ => ?_) (fun _ => ?_)
    · refine Acts.trans ?_ (acts_endIval _ _) rfl rfl
      with_reducible assumption
    · with_reducible assumption

theorem acts_trigPackets (s : State) (c : Nat) (ns : List Nat) :
    Acts 3327582825601408021942891446352 649037107392411317292226364571840 s (State.trigPackets s c ns) := by
  unfold State.trigPackets
  refine Acts.foldl (L2 := 3327582825601408021942891446352) (R2 := 649037107392411317292226364571840) _ ?_ (fun t1 x2 => ?_) rfl rfl
  · exact Acts.refl _ _ _
  · refine Acts.ite (fun _ => ?_) (fun _ => ?_)
    · refine Acts.trans ?_ (acts_trace _ _ _ _ _) rfl rfl
      exact Acts.refl _ _ _
    · exact Acts.refl _ _ _

theorem acts_retireTo (s : State) (c : Nat) (next : W) (dests : List W) (a : Option MemAcc) :
    Acts 3327582825601408021942891446352 3245185536659825131557474529181888 s (State.retireTo s c next dests a) := by
  unfold State.retireTo
  extract_lets a1 a2
  clear_value a1
  clear_value a2
  refine Acts.trans ?_ (acts_stopAfter _ _ _) rfl rfl
  refine Acts.trans ?_ (acts_pairFold _ _ _ _ _) rfl rfl
  refine Acts.trans ?_ (acts_countInstret _ _) rfl rfl
  refine Acts.trans ?_ (acts_onCore _ _ _) rfl rfl
  refine Acts.trans ?_ (acts_trigPackets _ _ _) rfl rfl
  exact Acts.refl _ _ _

theorem acts_retire (s : State) (c : Nat) (len : Nat) (dests : List W) (a : Option MemAcc) :
    Acts 3327582825601408021942891446352 3245185536659825131557474529181888 s (State.retire s c len dests a) := by
  unfold State.retire
  refine Acts.trans ?_ (acts_retireTo _ _ _ _ _) rfl rfl
  exact Acts.refl _ _ _

theorem acts_deviceAbort (s : State) (c : Nat) :
    Acts 3327582825601408021942891446352 649037107392411317292226364571840 s (State.deviceAbort s c) := by
  unfold State.deviceAbort
  refine Acts.trans ?_ (acts_trace _ _ _ _ _) rfl rfl
  refine Acts.trans ?_ (acts_abortGroup _ _ _ _ _) rfl rfl
  exact Acts.refl _ _ _

theorem acts_takeTxn_eq {s : State} {node : Nat} {use : TxnUse} {pa : Nat} {device : Bool} {x} {t : State}
    (h : s.takeTxn node use pa device = some (x, t)) : Acts 8388608 0 s t := by
  unfold State.takeTxn at h
  split at h
  · cases h
  · cases h
    exact Acts.set_txns _ _

theorem acts_sendReqAs (s : State) (c : Nat) (line : Nat) (kind : ReqKind) (r0 : Req) :
    Acts 633825300114114700748364185664 0 s (State.sendReqAs s c line kind r0) := by
  unfold State.sendReqAs
  extract_lets a1 a2 a3 a4
  clear_value a1
  clear_value a2
  clear_value a3
  clear_value a4
  refine Acts.ite (fun _ => ?_) (fun _ => ?_)
  · exact Acts.refl _ _ _
  · split
    · exact Acts.refl _ _ _
    · extract_lets a5 a6 a7
      clear_value a5
      clear_value a6
      have ha7 : Acts 633825300114114700748364185664 0 s a7 := by
        dsimp only [a7]
        refine Acts.trans ?_ (acts_coreCount _ _ _) rfl rfl
        refine Acts.trans ?_ (acts_onCore _ _ _) rfl rfl
        refine Acts.trans ?_ (acts_takeTxn_eq (by assumption)) rfl rfl
        exact Acts.refl _ _ _
      clear_value a7
      refine Acts.ite (fun _ => ?_) (fun _ => ?_)
      · with_reducible assumption
      · refine Acts.trans ?_ (acts_post _ _) rfl rfl
        with_reducible assumption

theorem acts_fillL1 (s : State) (c : Nat) (line : Nat) :
    Acts 66 0 s (State.fillL1 s c line) := by
  unfold State.fillL1
  extract_lets a1 a2 a3 a4 a5
  clear_value a1
  clear_value a2
  clear_value a3
  clear_value a4
  clear_value a5
  refine Acts.ite (fun _ => ?_) (fun _ => ?_)
  · exact Acts.refl _ _ _
  · refine Acts.ite (fun _ => ?_) (fun _ => ?_)
    · refine Acts.trans ?_ (acts_setCore _ _ _) rfl rfl
      exact Acts.refl _ _ _
    · refine Acts.trans ?_ (acts_setCore _ _ _) rfl rfl
      refine Acts.trans ?_ (acts_drawn _) rfl rfl
      exact Acts.refl _ _ _

theorem acts_freeTxn (s : State) (node : Nat) (n : Nat) :
    Acts 8388608 0 s (State.freeTxn s node n) := by
  unfold State.freeTxn
  extract_lets a1
  clear_value a1
  refine Acts.trans ?_ (Acts.set_txns _ _) rfl rfl
  exact Acts.refl _ _ _

theorem acts_setIo (s : State) (node : Nat) (n : Nat) (io : Io) :
    Acts 12582916 0 s (State.setIo s node n io) := by
  unfold State.setIo
  extract_lets a1 a2 a3 a4 a5 a6
  clear_value a1
  clear_value a2
  clear_value a3
  clear_value a4
  clear_value a5
  have ha6 : Acts 12582916 0 s a6 := by
    refine Acts.trans ?_ (Acts.set_stamp_txns _ _ _) rfl rfl
    exact Acts.refl _ _ _
  clear_value a6
  refine Acts.ite (fun _ => ?_) (fun _ => ?_)
  · with_reducible assumption
  · refine Acts.trans ?_ (acts_post _ _) rfl rfl
    with_reducible assumption

theorem acts_issue {L R : Nat} (s : State) (c : Nat) (a : Option MemAcc) {k : State → State} (hk : ∀ t, Acts L R t (k t))
    (hL : 3327582825601408021942891446352 ||| L = L) (hR : 3245185536659825131557474529181888 ||| R = R) : Acts L R s (s.issue c a k) := by
  unfold State.issue
  split
  · exact Acts.refl _ _ _
  · split
    · split
      · exact (acts_enterHalt _ _ _ _).mono (L := 3327582825601408021942891446352) (R := 3245185536659825131557474529181888) rfl rfl |>.mono hL hR
      · exact (acts_closeIval _ _).mono (L := 3327582825601408021942891446352) (R := 3245185536659825131557474529181888) rfl rfl |>.mono hL hR
    · exact hk _

theorem acts_depRecord (s : State) (c : Nat) (t : Option Tag) :
    Acts 633825300116420543762397134928 75557863725914323419328 s (State.depRecord s c t) := by
  unfold State.depRecord
  split
  · exact Acts.refl _ _ _
  · extract_lets a1 a2 a3 a4
    clear_value a1
    clear_value a2
    have ha3 : Acts 633825300116420543762397134928 75557863725914323419328 s a3 := by
      dsimp only [a3]
      refine Acts.trans ?_ (acts_onCore _ _ _) rfl rfl
      exact Acts.refl _ _ _
    clear_value a3
    have ha4 : Acts 633825300116420543762397134928 75557863725914323419328 s a4 := by
      dsimp only [a4]
      refine Acts.trans ?_ (acts_raise _ _) rfl rfl
      refine Acts.trans ?_ (acts_setFld _ _ _ _) rfl rfl
      with_reducible assumption
    clear_value a4
    refine Acts.ite (fun _ => ?_) (fun _ => ?_)
    · refine Acts.trans ?_ (acts_abortGroup _ _ _ _ _) rfl rfl
      with_reducible assumption
    · refine Acts.ite (fun _ => ?_) (fun _ => ?_)
      · exact Acts.refl _ _ _
      · refine Acts.trans ?_ (acts_onCore _ _ _) rfl rfl
        exact Acts.refl _ _ _

theorem acts_sendReq (s : State) (c : Nat) (line : Nat) (kind : ReqKind) (wr : Option LineData) :
    Acts 633825300114114700748364185664 0 s (State.sendReq s c line kind wr) := by
  unfold State.sendReq
  refine Acts.trans ?_ (acts_sendReqAs _ _ _ _ _) rfl rfl
  exact Acts.refl _ _ _

end Sys2Proof.Machine
end

