-- ==== Sys2Proof/Laws/CoreMemActs.lean ====
section
/-! SUPPORT. What each operation and each command of CoreMem.lean may touch: `acts_<name>` bounds the fields and the registers that
`<name>` can change (see Acts.lean). -/

namespace Sys2Proof.Machine

open Sys2Proof

theorem acts_errFault (s : State) (c : Nat) (line : Nat) (acc : Nat) (va : Nat) :
    ActsO 3327582825601408021942891446352 3245185536660415427367833234833600 s (State.errFault s c line acc va) := by
  unfold State.errFault
  split
  · refine ActsO.ite (fun _ => ?_) (fun _ => ?_)
    · extract_lets a1
      have ha1 : Acts 3327582825601408021942891446352 3245185536660415427367833234833600 s a1 := by
        dsimp only [a1]
        refine Acts.trans ?_ (acts_onCore _ _ _) rfl rfl
        exact Acts.refl _ _ _
      clear_value a1
      refine ActsO.some ?_
      refine Acts.trans ?_ (acts_exception _ _ _ _ _) rfl rfl
      refine Acts.trans ?_ (acts_pairLog _ _ _ _) rfl rfl
      with_reducible assumption
    · exact ActsO.none
  · exact ActsO.none
theorem acts_errFault_eq {s : State} {c : Nat} {line : Nat} {acc : Nat} {va : Nat} {t : State} (h : (State.errFault s c line acc va) = some t) : Acts 3327582825601408021942891446352 3245185536660415427367833234833600 s t := acts_errFault s c line acc va t h

theorem acts_illegal (s : State) (c : Nat) (virt : Bool) (insn : W) :
    Acts 3327582825601408021942891446352 3245185536660415427367833234833600 s (State.illegal s c virt insn) := by
  unfold State.illegal
  refine Acts.trans ?_ (acts_exception _ _ _ _ _) rfl rfl
  exact Acts.refl _ _ _

theorem acts_walkAdd (s : State) (c : Nat) (e : WalkEnt) :
    Acts 64 0 s (State.walkAdd s c e) := by
  unfold State.walkAdd
  refine Acts.trans ?_ (acts_onCore _ _ _) rfl rfl
  exact Acts.refl _ _ _

theorem acts_mirror (s : State) (c : Nat) :
    Acts 64 0 s (State.mirror s c) := by
  unfold State.mirror
  split
  · refine Acts.trans ?_ (acts_onCore _ _ _) rfl rfl
    exact Acts.refl _ _ _
  · exact Acts.refl _ _ _

theorem acts_notInGroup {L R : Nat} (s : State) (c : Nat) {k : State → State} (hk : ∀ t, Acts L R t (k t))
    (hL : 3327582825601408021942891446352 ||| L = L) (hR : 649037107392411317292226364571840 ||| R = R) : Acts L R s (s.notInGroup c k) := by
  unfold State.notInGroup
  split
  · exact ((Acts.refl 3327582825601408021942891446352 649037107392411317292226364571840 s).trans (acts_abortGroup _ _ _ _ _) rfl rfl).trans (acts_trace _ _ _ _ _) rfl rfl |>.mono hL hR
  · exact hk _

theorem acts_cboOp (s : State) (c : Nat) (rs1 : Nat) (len : Nat) (clean : Bool) (env : W → Bool) (insn : W) :
    Acts 3327582825878109183057271570902 3245423221147958220380613866684864 s (State.cboOp s c rs1 len clean env insn) := by
  unfold State.cboOp
  extract_lets a1
  clear_value a1
  refine Acts.trans ?_ (acts_issue (L := 3327582825878109183057271570902) (R := 3245423221147958220380613866684864) _ _ _ ?_ rfl rfl) rfl rfl
  · exact Acts.refl _ _ _
  · intro t2
    refine Acts.trans ?_ (acts_notInGroup (L := 3327582825878109183057271570902) (R := 3245423221147958220380613866684864) _ _ ?_ rfl rfl) rfl rfl
    · exact Acts.refl _ _ _
    · intro t3
      extract_lets a4
      clear_value a4
      refine Acts.ite (fun _ => ?_) (fun _ => ?_)
      · refine Acts.trans ?_ (acts_illegal _ _ _ _) rfl rfl
        exact Acts.refl _ _ _
      · split
        · refine Acts.trans ?_ (acts_xlat_eq (by assumption)) rfl rfl
          exact Acts.refl _ _ _
        · refine Acts.trans ?_ (acts_deviceAbort _ _) rfl rfl
          refine Acts.trans ?_ (acts_xlat_eq (by assumption)) rfl rfl
          exact Acts.refl _ _ _
        · refine Acts.trans ?_ (acts_exception _ _ _ _ _) rfl rfl
          refine Acts.trans ?_ (acts_xlat_eq (by assumption)) rfl rfl
          exact Acts.refl _ _ _
        · extract_lets a5 a6 a7 a8 a9 a10 a11 a12
          clear_value a5
          clear_value a6
          clear_value a7
          clear_value a8
          clear_value a9
          clear_value a10
          have ha11 : Acts 3327582825878109183057271570902 3245423221147958220380613866684864 t3 a11 := by
            dsimp only [a11]
            refine Acts.trans ?_ (acts_clearResv _ _ _) rfl rfl
            refine Acts.trans ?_ (acts_setCore _ _ _) rfl rfl
            refine Acts.trans ?_ (acts_xlat_eq (by assumption)) rfl rfl
            exact Acts.refl _ _ _
          clear_value a11
          clear_value a12
          refine Acts.ite (fun _ => ?_) (fun _ => ?_)
          · refine Acts.trans ?_ (acts_retire _ _ _ _ _) rfl rfl
            refine Acts.trans ?_ (acts_xlat_eq (by assumption)) rfl rfl
            exact Acts.refl _ _ _
          · refine Acts.ite (fun _ => ?_) (fun _ => ?_)
            · refine Acts.trans ?_ (acts_closeIval _ _) rfl rfl
              refine Acts.trans ?_ (acts_xlat_eq (by assumption)) rfl rfl
              exact Acts.refl _ _ _
            · refine Acts.ite (fun _ => ?_) (fun _ => ?_)
              · refine Acts.trans ?_ (acts_xlat_eq (by assumption)) rfl rfl
                exact Acts.refl _ _ _
              · refine Acts.ite (fun _ => ?_) (fun _ => ?_)
                · refine Acts.trans ?_ (acts_retire _ _ _ _ _) rfl rfl
                  with_reducible assumption
                · split
                  · refine Acts.trans ?_ (acts_errFault_eq (by assumption)) rfl rfl
                    refine Acts.trans ?_ (acts_xlat_eq (by assumption)) rfl rfl
                    exact Acts.refl _ _ _
                  · refine Acts.trans ?_ (acts_sendReq _ _ _ _ _) rfl rfl
                    refine Acts.trans ?_ (acts_xlat_eq (by assumption)) rfl rfl
                    exact Acts.refl _ _ _

theorem acts_loadMiss (s : State) (c va : Nat) (segs : List (Nat × Nat × Nat)) (oldest : Bool) :
    Acts 3327582825601408021942904029264 3245185536660415427367833234833600 s (s.loadMiss c va segs oldest) := by
  unfold State.loadMiss
  extract_lets k
  refine Acts.ite (fun _ => ?_) (fun _ => ?_)
  · exact Acts.ite (fun _ => (acts_closeIval _ _).mono rfl rfl) (fun _ => Acts.refl _ _ _)
  · split
    · rename_i t h
      split at h
      · obtain ⟨g, _, e⟩ := List.exists_of_findSome?_eq_some h
        exact (acts_errFault_eq e).mono rfl rfl
      · cases h
    · refine Acts.foldl (L2 := 3327582825601408021942904029264) (R2 := 3245185536660415427367833234833600) _ (Acts.refl _ _ _) (fun t g => ?_) rfl rfl
      refine Acts.ite (fun _ => Acts.refl _ _ _) (fun _ => ?_)
      refine Acts.trans ?_ (acts_coreCount _ _ _) rfl rfl
      exact (acts_sendReq _ _ _ _ _).mono rfl rfl

theorem acts_putDst (s : State) (c : Nat) (d : Dst) (size : Nat) (v : Nat) :
    Acts 64 0 s (State.putDst s c d size v).1 := by
  unfold State.putDst
  split
  · dsimp only
    refine Acts.trans ?_ (acts_onCore _ _ _) rfl rfl
    exact Acts.refl _ _ _
  · dsimp only
    refine Acts.trans ?_ (acts_onCore _ _ _) rfl rfl
    exact Acts.refl _ _ _
  · dsimp only
    refine Acts.trans ?_ (acts_onCore _ _ _) rfl rfl
    exact Acts.refl _ _ _
theorem acts_putDst_eq {s : State} {c : Nat} {d : Dst} {size : Nat} {v : Nat} {x} {t : State} (h : (State.putDst s c d size v) = (t, x)) : Acts 64 0 s t := by
  have := acts_putDst s c d size v; rw [h] at this; exact this

theorem acts_joinReads (s : State) (c : Nat) (line : Nat) :
    Acts 3327582825601408021942891446352 649037107392411317292226364571840 s (State.joinReads s c line) := by
  unfold State.joinReads
  split
  · exact Acts.refl _ _ _
  · refine Acts.ite (fun _ => ?_) (fun _ => ?_)
    · exact Acts.refl _ _ _
    · refine Acts.ite (fun _ => ?_) (fun _ => ?_)
      · refine Acts.trans ?_ (acts_trace _ _ _ _ _) rfl rfl
        refine Acts.trans ?_ (acts_abortGroup _ _ _ _ _) rfl rfl
        exact Acts.refl _ _ _
      · refine Acts.trans ?_ (acts_onCore _ _ _) rfl rfl
        exact Acts.refl _ _ _

theorem acts_pairLogLoad (s : State) (c : Nat) (typ : Nat) (size : Nat) (v : Nat) :
    Acts 536870912 0 s (State.pairLogLoad s c typ size v) := by
  unfold State.pairLogLoad
  refine Acts.foldl (L2 := 536870912) (R2 := 0) _ ?_ (fun t1 x2 => ?_) rfl rfl
  · exact Acts.refl _ _ _
  · refine Acts.trans ?_ (acts_pairLog _ _ _ _) rfl rfl
    exact Acts.refl _ _ _

theorem acts_loadDone (s : State) (c : Nat) (dst : Dst) (va : Nat) (size : Nat) (len : Nat) (bs : List Byte) (lines : List (Nat × LineData)) (near : List Nat) :
    Acts 3327582825601408021942891446352 3245185536659825131557474529181888 s (State.loadDone s c dst va size len bs lines near) := by
  unfold State.loadDone
  extract_lets a1 a2 a3 a4 a5
  have ha1 : Acts 3327582825601408021942891446352 3245185536659825131557474529181888 s a1 := by
    dsimp only [a1]
    refine Acts.foldl (L2 := 3327582825601408021942891446352) (R2 := 3245185536659825131557474529181888) _ ?_ (fun t6 x7 => ?_) rfl rfl
    · exact Acts.refl _ _ _
    · refine Acts.trans ?_ (acts_depRecord _ _ _) rfl rfl
      exact Acts.refl _ _ _
  clear_value a1
  have ha2 : Acts 3327582825601408021942891446352 3245185536659825131557474529181888 s a2 := by
    dsimp only [a2]
    refine Acts.foldl (L2 := 3327582825601408021942891446352) (R2 := 3245185536659825131557474529181888) _ ?_ (fun t8 x9 => ?_) rfl rfl
    · with_reducible assumption
    · refine Acts.trans ?_ (acts_joinReads _ _ _) rfl rfl
      exact Acts.refl _ _ _
  clear_value a2
  clear_value a3
  have ha4 : Acts 3327582825601408021942891446352 3245185536659825131557474529181888 s a4 := by
    dsimp only [a4]
    refine Acts.trans ?_ (acts_pairLogLoad _ _ _ _ _) rfl rfl
    with_reducible assumption
  clear_value a4
  clear_value (ea5 : a5 = _)
  have ha5 : Acts 3327582825601408021942891446352 3245185536659825131557474529181888 s a5.1 := by
    rw [ea5]
    clear ea5
    refine Acts.trans ?_ (acts_putDst _ _ _ _ _) rfl rfl
    with_reducible assumption
  clear ea5
  refine Acts.ite (fun _ => ?_) (fun _ => ?_)
  · with_reducible assumption
  · refine Acts.ite (fun _ => ?_) (fun _ => ?_)
    · with_reducible assumption
    · refine Acts.trans ?_ (acts_retire _ _ _ _ _) rfl rfl
      with_reducible assumption

theorem acts_poisonFault (s : State) (c : Nat) (acc : Nat) (va : Nat) (pa : Nat) :
    Acts 3327582825841215694909705667030 3245423221147958220380613866684864 s (State.poisonFault s c acc va pa) := by
  unfold State.poisonFault
  extract_lets a1
  have ha1 : Acts 3327582825841215694909705667030 3245423221147958220380613866684864 s a1 := by
    dsimp only [a1]
    refine Acts.trans ?_ (acts_logErr _ _ _ _ _ _) rfl rfl
    exact Acts.refl _ _ _
  clear_value a1
  refine Acts.trans ?_ (acts_exception _ _ _ _ _) rfl rfl
  refine Acts.trans ?_ (acts_pairLog _ _ _ _) rfl rfl
  with_reducible assumption

theorem acts_loadOrder (s : State) (c : Nat) (at_ : Nat) (near : List Nat) :
    Acts 64 0 s (State.loadOrder s c at_ near) := by
  unfold State.loadOrder
  refine Acts.trans ?_ (acts_onCore _ _ _) rfl rfl
  exact Acts.refl _ _ _

theorem acts_loadCached (s : State) (c : Nat) (dst : Dst) (va : Nat) (size : Nat) (len : Nat) (ps : List (Nat × Nat × Nat × Bool)) :
    Acts 3327582825841215694909718249942 3245423221147958220380613866684864 s (State.loadCached s c dst va size len ps) := by
  unfold State.loadCached
  extract_lets a1 a2 a3 a4 a5 a6 a7 a8 a9 a10
  clear_value a1
  clear_value a2
  clear_value a3
  clear_value a4
  clear_value a5
  clear_value a6
  clear_value a7
  clear_value a8
  clear_value a9
  clear_value a10
  refine Acts.ite (fun _ => ?_) (fun _ => ?_)
  · split
    · refine Acts.trans ?_ (acts_poisonFault _ _ _ _ _) rfl rfl
      exact Acts.refl _ _ _
    · refine Acts.trans ?_ (acts_loadDone _ _ _ _ _ _ _ _ _) rfl rfl
      refine Acts.trans ?_ (acts_loadOrder _ _ _ _) rfl rfl
      refine Acts.foldl (L2 := 3327582825841215694909718249942) (R2 := 3245423221147958220380613866684864) _ ?_ (fun t11 x12 => ?_) rfl rfl
      · exact Acts.refl _ _ _
      · refine Acts.trans ?_ (acts_fillL1 _ _ _) rfl rfl
        exact Acts.refl _ _ _
  · refine Acts.trans ?_ (acts_loadMiss _ _ _ _ _) rfl rfl
    exact Acts.refl _ _ _

theorem acts_memIllegal (s : State) (c : Nat) (acc : Nat) (fp : Bool) (vec : Bool) (insn : W) :
    ActsO 3327582825601408021942891446352 3245185536660415427367833234833600 s (State.memIllegal s c acc fp vec insn) := by
  unfold State.memIllegal
  extract_lets a1
  clear_value a1
  refine ActsO.ite (fun _ => ?_) (fun _ => ?_)
  · refine ActsO.some ?_
    refine Acts.trans ?_ (acts_exception _ _ _ _ _) rfl rfl
    exact Acts.refl _ _ _
  · refine ActsO.ite (fun _ => ?_) (fun _ => ?_)
    · refine ActsO.some ?_
      refine Acts.trans ?_ (acts_exception _ _ _ _ _) rfl rfl
      exact Acts.refl _ _ _
    · exact ActsO.none
theorem acts_memIllegal_eq {s : State} {c : Nat} {acc : Nat} {fp : Bool} {vec : Bool} {insn : W} {t : State} (h : (State.memIllegal s c acc fp vec insn) = some t) : Acts 3327582825601408021942891446352 3245185536660415427367833234833600 s t := acts_memIllegal s c acc fp vec insn t h

theorem acts_xlatParts (s : State) (c : Nat) (va : Nat) (n : Nat) (acc : Nat) :
    Acts 633825300393121704876764676566 237684563100656738694955270592 s (State.xlatParts s c va n acc).2 := by
  unfold State.xlatParts
  refine Acts.foldl2 (L2 := 633825300393121704876764676566) (R2 := 237684563100656738694955270592) _ ?_ (fun t1 x2 => ?_) rfl rfl
  · exact Acts.refl _ _ _
  · split
    · split
      · dsimp only
        refine Acts.trans ?_ (acts_xlat_eq (by assumption)) rfl rfl
        exact Acts.refl _ _ _
      · dsimp only
        refine Acts.trans ?_ (acts_xlat_eq (by assumption)) rfl rfl
        exact Acts.refl _ _ _
      · dsimp only
        refine Acts.trans ?_ (acts_xlat_eq (by assumption)) rfl rfl
        exact Acts.refl _ _ _
      · dsimp only
        refine Acts.trans ?_ (acts_xlat_eq (by assumption)) rfl rfl
        exact Acts.refl _ _ _
    · exact Acts.refl _ _ _
theorem acts_xlatParts_eq {s : State} {c : Nat} {va : Nat} {n : Nat} {acc : Nat} {x} {t : State} (h : (State.xlatParts s c va n acc) = (x, t)) : Acts 633825300393121704876764676566 237684563100656738694955270592 s t := by
  have := acts_xlatParts s c va n acc; rw [h] at this; exact this

theorem acts_loadAhead (s : State) (c : Nat) (va : Nat) (size : Nat) (acc : Nat) (ahead : Nat) (off : Nat) (n : Nat) :
    Acts 3327582825878109183057271570902 3245423221147958220380613866684864 s (State.loadAhead s c va size acc ahead off n) := by
  unfold State.loadAhead
  extract_lets a1 a2
  clear_value a1
  clear_value a2
  refine Acts.ite (fun _ => ?_) (fun _ => ?_)
  · exact Acts.refl _ _ _
  · split
    · refine Acts.ite (fun _ => ?_) (fun _ => ?_)
      · exact Acts.refl _ _ _
      · extract_lets a3 a4 a5 a6 a7 a8 a9
        clear_value a3
        clear_value a4
        clear_value a5
        clear_value a6
        clear_value a7
        clear_value a8
        have ha9 : Acts 3327582825878109183057271570902 3245423221147958220380613866684864 s a9 := by
          dsimp only [a9]
          refine Acts.trans ?_ (acts_loadOrder _ _ _ _) rfl rfl
          refine Acts.foldl (L2 := 3327582825878109183057271570902) (R2 := 3245423221147958220380613866684864) _ ?_ (fun t10 x11 => ?_) rfl rfl
          · refine Acts.trans ?_ (acts_xlatParts_eq (by assumption)) rfl rfl
            exact Acts.refl _ _ _
          · refine Acts.trans ?_ (acts_fillL1 _ _ _) rfl rfl
            exact Acts.refl _ _ _
        clear_value a9
        refine Acts.ite (fun _ => ?_) (fun _ => ?_)
        · refine Acts.ite (fun _ => ?_) (fun _ => ?_)
          · refine Acts.trans ?_ (acts_xlatParts_eq (by assumption)) rfl rfl
            exact Acts.refl _ _ _
          · refine Acts.trans ?_ (acts_onCore _ _ _) rfl rfl
            with_reducible assumption
        · refine Acts.trans ?_ (acts_loadMiss _ _ _ _ _) rfl rfl
          refine Acts.trans ?_ (acts_xlatParts_eq (by assumption)) rfl rfl
          exact Acts.refl _ _ _
    · refine Acts.trans ?_ (acts_xlatParts_eq (by assumption)) rfl rfl
      exact Acts.refl _ _ _

theorem acts_devIssue (s : State) (c : Nat) (pa : Nat) (io : Io) :
    Acts 633825300114114700748364185668 0 s (State.devIssue s c pa io) := by
  unfold State.devIssue
  extract_lets a1
  clear_value a1
  refine Acts.ite (fun _ => ?_) (fun _ => ?_)
  · exact Acts.refl _ _ _
  · split
    · exact Acts.refl _ _ _
    · extract_lets a2
      have ha2 : Acts 633825300114114700748364185668 0 s a2 := by
        dsimp only [a2]
        refine Acts.trans ?_ (acts_setIo _ _ _ _) rfl rfl
        refine Acts.trans ?_ (acts_takeTxn_eq (by assumption)) rfl rfl
        exact Acts.refl _ _ _
      clear_value a2
      refine Acts.trans ?_ (acts_coreCount _ _ _) rfl rfl
      refine Acts.trans ?_ (acts_coreCount _ _ _) rfl rfl
      refine Acts.trans ?_ (acts_onCore _ _ _) rfl rfl
      with_reducible assumption

theorem acts_devDone (s : State) (c : Nat) (dst : Dst) (va : Nat) (size : Nat) (len : Nat) (v : Nat) :
    Acts 3327582825601408021942891446352 3245185536659825131557474529181888 s (State.devDone s c dst va size len v) := by
  unfold State.devDone
  extract_lets a1 a2
  have ha1 : Acts 3327582825601408021942891446352 3245185536659825131557474529181888 s a1 := by
    dsimp only [a1]
    refine Acts.trans ?_ (acts_pairLogLoad _ _ _ _ _) rfl rfl
    exact Acts.refl _ _ _
  clear_value a1
  clear_value (ea2 : a2 = _)
  have ha2 : Acts 3327582825601408021942891446352 3245185536659825131557474529181888 s a2.1 := by
    rw [ea2]
    clear ea2
    refine Acts.trans ?_ (acts_putDst _ _ _ _ _) rfl rfl
    with_reducible assumption
  clear ea2
  refine Acts.trans ?_ (acts_rebase _ _) rfl rfl
  refine Acts.trans ?_ (acts_retire _ _ _ _ _) rfl rfl
  with_reducible assumption

theorem acts_devTake (s : State) (c : Nat) :
    Acts 8388672 0 s (State.devTake s c) := by
  unfold State.devTake
  extract_lets a1
  have ha1 : Acts 8388672 0 s a1 := by
    dsimp only [a1]
    split
    · refine Acts.trans ?_ (acts_freeTxn _ _ _) rfl rfl
      exact Acts.refl _ _ _
    · exact Acts.refl _ _ _
  clear_value a1
  refine Acts.trans ?_ (acts_onCore _ _ _) rfl rfl
  with_reducible assumption

theorem acts_loadUncached (s : State) (c : Nat) (dst : Dst) (va : Nat) (size : Nat) (len : Nat) (ps : List (Nat × Nat × Nat × Bool)) :
    Acts 3644495475935166533431313154550 3245423221147958220380613866684864 s (State.loadUncached s c dst va size len ps) := by
  unfold State.loadUncached
  extract_lets a1 a2 a3 a4 a5 a6 a7 a8
  clear_value a1
  clear_value a2
  have ha3 : Acts 3644495475935166533431313154550 3245423221147958220380613866684864 s a3 := by
    dsimp only [a3]
    refine Acts.trans ?_ (acts_coreCount _ _ _) rfl rfl
    refine Acts.trans ?_ (acts_agentRead _ _) rfl rfl
    exact Acts.refl _ _ _
  clear_value a3
  clear_value a4
  clear_value a5
  clear_value a6
  have ha7 : Acts 3644495475935166533431313154550 3245423221147958220380613866684864 s a7 := by
    dsimp only [a7]
    refine Acts.foldl (L2 := 3644495475935166533431313154550) (R2 := 3245423221147958220380613866684864) _ ?_ (fun t9 x10 => ?_) rfl rfl
    · exact Acts.refl _ _ _
    · refine Acts.trans ?_ (acts_agentRead _ _) rfl rfl
      exact Acts.refl _ _ _
  clear_value a7
  clear_value a8
  refine Acts.ite (fun _ => ?_) (fun _ => ?_)
  · refine Acts.ite (fun _ => ?_) (fun _ => ?_)
    · refine Acts.trans ?_ (acts_exception _ _ _ _ _) rfl rfl
      exact Acts.refl _ _ _
    · refine Acts.ite (fun _ => ?_) (fun _ => ?_)
      · refine Acts.trans ?_ (acts_exception _ _ _ _ _) rfl rfl
        exact Acts.refl _ _ _
      · refine Acts.ite (fun _ => ?_) (fun _ => ?_)
        · refine Acts.trans ?_ (acts_closeIval _ _) rfl rfl
          exact Acts.refl _ _ _
        · refine Acts.ite (fun _ => ?_) (fun _ => ?_)
          · exact Acts.refl _ _ _
          · refine Acts.ite (fun _ => ?_) (fun _ => ?_)
            · refine Acts.ite (fun _ => ?_) (fun _ => ?_)
              · refine Acts.trans ?_ (acts_poisonFault _ _ _ _ _) rfl rfl
                with_reducible assumption
              · refine Acts.trans ?_ (acts_devDone _ _ _ _ _ _ _) rfl rfl
                refine Acts.trans ?_ (acts_depRecord _ _ _) rfl rfl
                with_reducible assumption
            · split
              · refine Acts.ite (fun _ => ?_) (fun _ => ?_)
                · refine Acts.trans ?_ (acts_devDone _ _ _ _ _ _ _) rfl rfl
                  refine Acts.trans ?_ (acts_devTake _ _) rfl rfl
                  exact Acts.refl _ _ _
                · refine Acts.trans ?_ (acts_exception _ _ _ _ _) rfl rfl
                  refine Acts.trans ?_ (acts_pairLog _ _ _ _) rfl rfl
                  refine Acts.trans ?_ (acts_devTake _ _) rfl rfl
                  exact Acts.refl _ _ _
              · refine Acts.ite (fun _ => ?_) (fun _ => ?_)
                · refine Acts.trans ?_ (acts_serveLoad _ _ _ _) rfl rfl
                  exact Acts.refl _ _ _
                · refine Acts.trans ?_ (acts_devIssue _ _ _ _) rfl rfl
                  exact Acts.refl _ _ _
  · refine Acts.ite (fun _ => ?_) (fun _ => ?_)
    · split
      · split
        · refine Acts.trans ?_ (acts_loadDone _ _ _ _ _ _ _ _ _) rfl rfl
          exact Acts.refl _ _ _
        · exact Acts.refl _ _ _
      · exact Acts.refl _ _ _
    · split
      · refine Acts.trans ?_ (acts_poisonFault _ _ _ _ _) rfl rfl
        with_reducible assumption
      · refine Acts.trans ?_ (acts_loadDone _ _ _ _ _ _ _ _ _) rfl rfl
        with_reducible assumption

theorem acts_execLoad (c : Nat) (dst : Dst) (rs1 : Nat) (imm : W) (size : Nat) (len : Nat) (acc : Nat) (ahead : Nat) (off : Nat) (n : Nat) (insn : W) (s : State) :
    ActsR 3644495475935166533431447372278 3245423221147958220380613866684864 s (execLoad c dst rs1 imm size len acc ahead off n insn s) := by
  unfold execLoad
  extract_lets a1
  clear_value a1
  refine ActsR.next ?_
  refine Acts.ite (fun _ => ?_) (fun _ => ?_)
  · exact Acts.refl _ _ _
  · refine Acts.ite (fun _ => ?_) (fun _ => ?_)
    · refine Acts.trans ?_ (acts_loadAhead _ _ _ _ _ _ _ _) rfl rfl
      exact Acts.refl _ _ _
    · refine Acts.trans ?_ (acts_issue (L := 3644495475935166533431447372278) (R := 3245423221147958220380613866684864) _ _ _ ?_ rfl rfl) rfl rfl
      · exact Acts.refl _ _ _
      · intro t2
        split
        · refine Acts.trans ?_ (acts_memIllegal_eq (by assumption)) rfl rfl
          exact Acts.refl _ _ _
        · split
          · refine Acts.trans ?_ (acts_xlatParts_eq (by assumption)) rfl rfl
            exact Acts.refl _ _ _
          · refine Acts.trans ?_ (acts_deviceAbort _ _) rfl rfl
            refine Acts.trans ?_ (acts_xlatParts_eq (by assumption)) rfl rfl
            exact Acts.refl _ _ _
          · refine Acts.trans ?_ (acts_exception _ _ _ _ _) rfl rfl
            refine Acts.trans ?_ (acts_xlatParts_eq (by assumption)) rfl rfl
            exact Acts.refl _ _ _
          · refine Acts.ite (fun _ => ?_) (fun _ => ?_)
            · refine Acts.trans ?_ (acts_loadUncached _ _ _ _ _ _ _) rfl rfl
              refine Acts.trans ?_ (acts_xlatParts_eq (by assumption)) rfl rfl
              exact Acts.refl _ _ _
            · refine Acts.trans ?_ (acts_loadCached _ _ _ _ _ _ _) rfl rfl
              refine Acts.trans ?_ (acts_xlatParts_eq (by assumption)) rfl rfl
              exact Acts.refl _ _ _

theorem acts_wantOwnAs (s : State) (c : Nat) (line : Nat) (r0 : Req) :
    Acts 633825300114114700748364185664 0 s (State.wantOwnAs s c line r0) := by
  unfold State.wantOwnAs
  split
  · refine Acts.trans ?_ (acts_sendReqAs _ _ _ _ _) rfl rfl
    exact Acts.refl _ _ _
  · refine Acts.trans ?_ (acts_sendReqAs _ _ _ _ _) rfl rfl
    exact Acts.refl _ _ _

theorem acts_lrFetch (s : State) (c : Nat) (line : Nat) (va : Nat) :
    Acts 3327582825601408021942904029264 3245185536660415427367833234833600 s (State.lrFetch s c line va) := by
  unfold State.lrFetch
  split
  · refine Acts.trans ?_ (acts_errFault_eq (by assumption)) rfl rfl
    exact Acts.refl _ _ _
  · extract_lets a1
    have ha1 : Acts 3327582825601408021942904029264 3245185536660415427367833234833600 s a1 := by
      dsimp only [a1]
      refine Acts.trans ?_ (acts_wantOwnAs _ _ _ _) rfl rfl
      exact Acts.refl _ _ _
    clear_value a1
    refine Acts.trans ?_ (acts_onCore _ _ _) rfl rfl
    with_reducible assumption

theorem acts_wantOwn (s : State) (c : Nat) (line : Nat) :
    Acts 633825300114114700748364185664 0 s (State.wantOwn s c line) := by
  unfold State.wantOwn
  refine Acts.trans ?_ (acts_wantOwnAs _ _ _ _) rfl rfl
  exact Acts.refl _ _ _

theorem acts_ownOrFault (s : State) (c : Nat) (line : Nat) (acc : Nat) (va : Nat) :
    Acts 3327582825601408021942904029264 3245185536660415427367833234833600 s (State.ownOrFault s c line acc va) := by
  unfold State.ownOrFault
  split
  · refine Acts.trans ?_ (acts_errFault_eq (by assumption)) rfl rfl
    exact Acts.refl _ _ _
  · refine Acts.trans ?_ (acts_wantOwn _ _ _) rfl rfl
    exact Acts.refl _ _ _

theorem acts_execCboFlush (c : Nat) (rs1 : Nat) (len : Nat) (insn : W) (s : State) :
    ActsR 3327582825878109183057271570902 3245423221147958220380613866684864 s (execCboFlush c rs1 len insn s) := by
  unfold execCboFlush
  refine ActsR.next ?_
  refine Acts.trans ?_ (acts_cboOp _ _ _ _ _ _ _) rfl rfl
  exact Acts.refl _ _ _

theorem acts_hfenceVAct (s : State) (c : Nat) (rs1 : Nat) (rs2 : Nat) :
    Acts 64 0 s (State.hfenceVAct s c rs1 rs2) := by
  unfold State.hfenceVAct
  extract_lets a1
  clear_value a1
  refine Acts.foldl (L2 := 64) (R2 := 0) _ ?_ (fun t2 x3 => ?_) rfl rfl
  · exact Acts.refl _ _ _
  · refine Acts.trans ?_ (acts_onCore _ _ _) rfl rfl
    exact Acts.refl _ _ _

theorem acts_earlyFail (s : State) (node : Nat) (unit : Nat) (pa : Nat) (status : Nat) :
    Acts 633825300356228216729211355606 237684563100656738694955270592 s (State.earlyFail s node unit pa status) := by
  unfold State.earlyFail
  refine Acts.ite (fun _ => ?_) (fun _ => ?_)
  · refine Acts.trans ?_ (acts_stopRecord _ _ _ _ _) rfl rfl
    exact Acts.refl _ _ _
  · refine Acts.ite (fun _ => ?_) (fun _ => ?_)
    · refine Acts.trans ?_ (acts_stopRecord _ _ _ _ _) rfl rfl
      exact Acts.refl _ _ _
    · refine Acts.ite (fun _ => ?_) (fun _ => ?_)
      · refine Acts.trans ?_ (acts_stopRecord _ _ _ _ _) rfl rfl
        exact Acts.refl _ _ _
      · exact Acts.refl _ _ _

theorem acts_reportStore (s : State) (c : Nat) (pa : Nat) (status : Nat) :
    Acts 633825300356228216729211355606 237684563100656738694955270592 s (State.reportStore s c pa status) := by
  unfold State.reportStore
  extract_lets a1
  have ha1 : Acts 633825300356228216729211355606 237684563100656738694955270592 s a1 := by
    dsimp only [a1]
    refine Acts.trans ?_ (acts_raise _ _) rfl rfl
    exact Acts.refl _ _ _
  clear_value a1
  refine Acts.ite (fun _ => ?_) (fun _ => ?_)
  · refine Acts.trans ?_ (acts_logErr _ _ _ _ _ _) rfl rfl
    with_reducible assumption
  · refine Acts.ite (fun _ => ?_) (fun _ => ?_)
    · refine Acts.trans ?_ (acts_logErr _ _ _ _ _ _) rfl rfl
      with_reducible assumption
    · with_reducible assumption

theorem acts_execDeviceStoreAck (c : Nat) (target : Bool) (tag : Nat) (status : Nat) (s : State) :
    ActsR 633825300356228216729219744214 237684563100656738694955270592 s (execDeviceStoreAck c target tag status s) := by
  unfold execDeviceStoreAck
  extract_lets a1 a2 a3 a4 a5
  clear_value a1
  clear_value a2
  clear_value a3
  have ha4 : Acts 633825300356228216729219744214 237684563100656738694955270592 s a4 := by
    dsimp only [a4]
    refine Acts.trans ?_ (acts_freeTxn _ _ _) rfl rfl
    exact Acts.refl _ _ _
  clear_value a4
  have ha5 : Acts 633825300356228216729219744214 237684563100656738694955270592 s a5 := by
    dsimp only [a5]
    refine Acts.trans ?_ (acts_onCore _ _ _) rfl rfl
    with_reducible assumption
  clear_value a5
  refine ActsR.next ?_
  refine Acts.ite (fun _ => ?_) (fun _ => ?_)
  · split
    · refine Acts.ite (fun _ => ?_) (fun _ => ?_)
      · refine Acts.trans ?_ (acts_setCore _ _ _) rfl rfl
        exact Acts.refl _ _ _
      · exact Acts.refl _ _ _
    · exact Acts.refl _ _ _
  · split
    · refine Acts.ite (fun _ => ?_) (fun _ => ?_)
      · exact Acts.refl _ _ _
      · refine Acts.ite (fun _ => ?_) (fun _ => ?_)
        · refine Acts.trans ?_ (acts_earlyFail _ _ _ _ _) rfl rfl
          with_reducible assumption
        · refine Acts.ite (fun _ => ?_) (fun _ => ?_)
          · with_reducible assumption
          · refine Acts.trans ?_ (acts_reportStore _ _ _ _) rfl rfl
            with_reducible assumption
    · exact Acts.refl _ _ _

theorem acts_execCboInval (c : Nat) (rs1 : Nat) (len : Nat) (insn : W) (s : State) :
    ActsR 3327582825878109183057271570902 3245423221147958220380613866684864 s (execCboInval c rs1 len insn s) := by
  unfold execCboInval
  refine ActsR.next ?_
  refine Acts.trans ?_ (acts_cboOp _ _ _ _ _ _ _) rfl rfl
  exact Acts.refl _ _ _

theorem acts_sfenceAct (s : State) (c : Nat) (rs1 : Nat) (rs2 : Nat) (both : Bool) :
    Acts 64 0 s (State.sfenceAct s c rs1 rs2 both) := by
  unfold State.sfenceAct
  extract_lets a1 a2
  clear_value a1
  clear_value a2
  refine Acts.foldl (L2 := 64) (R2 := 0) _ ?_ (fun t3 x4 => ?_) rfl rfl
  · exact Acts.refl _ _ _
  · refine Acts.trans ?_ (acts_onCore _ _ _) rfl rfl
    exact Acts.refl _ _ _

theorem acts_walkFill (s : State) (c : Nat) (acc : Nat) (vbase : Nat) (size : Nat) (l : Leaf) :
    Acts 64 0 s (State.walkFill s c acc vbase size l) := by
  unfold State.walkFill
  extract_lets a1 a2
  clear_value a1
  clear_value a2
  refine Acts.trans ?_ (acts_walkAdd _ _ _) rfl rfl
  exact Acts.refl _ _ _

theorem acts_walkOk (s : State) (c : Nat) (pa : Nat) :
    Acts 633825300114114700748485820416 0 s (State.walkOk s c pa).2 := by
  unfold State.walkOk
  extract_lets a1 a2
  clear_value a1
  clear_value (ea2 : a2 = _)
  have ha2 : Acts 633825300114114700748485820416 0 s a2.2 := by
    rw [ea2]
    clear ea2
    refine Acts.trans ?_ (acts_dramOwner _ _ _ _) rfl rfl
    exact Acts.refl _ _ _
  clear ea2
  refine Acts.ite2 (fun _ => ?_) (fun _ => ?_)
  · exact Acts.refl _ _ _
  · refine Acts.ite2 (fun _ => ?_) (fun _ => ?_)
    · exact Acts.refl _ _ _
    · with_reducible assumption
theorem acts_walkOk_eq {s : State} {c : Nat} {pa : Nat} {x} {t : State} (h : (State.walkOk s c pa) = (x, t)) : Acts 633825300114114700748485820416 0 s t := by
  have := acts_walkOk s c pa; rw [h] at this; exact this

theorem acts_execFence (c : Nat) (pred : Nat) (succ : Nat) (len : Nat) (s : State) :
    ActsR 3327582825601408021942891446352 3245185536659825131557474529181888 s (execFence c pred succ len s) := by
  unfold execFence
  refine ActsR.next ?_
  refine Acts.trans ?_ (acts_issue (L := 3327582825601408021942891446352) (R := 3245185536659825131557474529181888) _ _ _ ?_ rfl rfl) rfl rfl
  · exact Acts.refl _ _ _
  · intro t1
    extract_lets a2 a3 a4 a5 a6 a7
    clear_value a2
    clear_value a3
    clear_value a4
    clear_value a5
    clear_value a6
    have ha7 : Acts 3327582825601408021942891446352 3245185536659825131557474529181888 t1 a7 := by
      dsimp only [a7]
      refine Acts.trans ?_ (acts_onCore _ _ _) rfl rfl
      exact Acts.refl _ _ _
    clear_value a7
    refine Acts.ite (fun _ => ?_) (fun _ => ?_)
    · refine Acts.trans ?_ (acts_closeIval _ _) rfl rfl
      exact Acts.refl _ _ _
    · refine Acts.ite (fun _ => ?_) (fun _ => ?_)
      · exact Acts.refl _ _ _
      · refine Acts.trans ?_ (acts_closeIval _ _) rfl rfl
        refine Acts.trans ?_ (acts_retire _ _ _ _ _) rfl rfl
        with_reducible assumption

theorem acts_walkRace (s : State) (c : Nat) :
    Acts 536870912 0 s (State.walkRace s c) := by
  unfold State.walkRace
  split
  · refine Acts.trans ?_ (Acts.set_pairs _ _) rfl rfl
    exact Acts.refl _ _ _
  · exact Acts.refl _ _ _

theorem acts_pteWrite (s : State) (c : Nat) (pa : Nat) (v : W) :
    Acts 64 0 s (State.pteWrite s c pa v) := by
  unfold State.pteWrite
  extract_lets a1 a2
  clear_value a1
  clear_value a2
  refine Acts.trans ?_ (acts_clearResv _ _ _) rfl rfl
  refine Acts.trans ?_ (acts_onCore _ _ _) rfl rfl
  exact Acts.refl _ _ _

theorem acts_walkEnds (s : State) (c : Nat) (va : Nat) (acc : Nat) :
    Acts 64 0 s (State.walkEnds s c va acc) := by
  unfold State.walkEnds
  refine Acts.trans ?_ (acts_onCore _ _ _) rfl rfl
  exact Acts.refl _ _ _

theorem acts_tlbInstall (s : State) (c : Nat) (va : Nat) (acc : Nat) (f : Found) :
    Acts 633825300114114700748485820480 0 s (State.tlbInstall s c va acc f) := by
  unfold State.tlbInstall
  extract_lets a1 a2 a3 a4 a5 a6
  clear_value a1
  clear_value a2
  clear_value a3
  clear_value a4
  clear_value (ea5 : a5 = _)
  have ha5 : Acts 633825300114114700748485820480 0 s a5.2 := by
    rw [ea5]
    clear ea5
    refine Acts.ite2 (fun _ => ?_) (fun _ => ?_)
    · refine Acts.trans ?_ (acts_worldOk _ _ _ _ _) rfl rfl
      exact Acts.refl _ _ _
    · exact Acts.refl _ _ _
  clear ea5
  clear_value a6
  refine Acts.trans ?_ (acts_onCore _ _ _) rfl rfl
  with_reducible assumption

theorem acts_Wk_read (w : Wk) (c pa : Nat) : Acts 633825300114114700748498403394 0 w.s (w.read c pa).2.s := by
  unfold Wk.read
  dsimp only
  split
  · split
    · exact Acts.refl _ _ _
    · exact (acts_fillL1 _ _ _).mono rfl rfl
  · split
    · exact (acts_onCore w.s c (fun k => { k with lineErr := none })).mono rfl rfl
    · have h : Acts 633825300114114700748498403394 0 w.s (w.s.sendReq c (pa / 64) .rdShared none) := Acts.mono (acts_sendReq _ _ _ _ _) rfl rfl
      exact h

theorem Wk.note_s (w : Wk) (pa : Nat) (old new : W) : (w.note pa old new).s = w.s := by
  unfold Wk.note
  split <;> rfl

theorem acts_Wk_stage (w : Wk) (c : Nat) (gst pbmte : Bool) (nd : Need) (va orig : Nat) {tr : Wk → Nat → Bool → (Walk × Wk)}
    (pf : Nat → Nat) (glob : Bool) (lvl base : Nat) (hk : ∀ w a b, Acts 633825300114114700748498403394 0 w.s (tr w a b).2.s) :
    Acts 633825300114114700748498403394 0 w.s (w.stage c gst pbmte nd va orig tr pf glob lvl base).2.s := by
  induction lvl generalizing w va glob base with
  | zero => exact Acts.refl _ _ _
  | succ lvl ih =>
    rw [Wk.stage]
    dsimp only
    generalize (if gst = true then va / 2 ^ (12 + 9 * lvl) else va / 2 ^ (12 + 9 * lvl) % 512) = ix
    have h0 := hk w (base + 8 * ix) false
    split
    · rename_i la w1 h1
      rw [h1] at h0
      have h2 : Acts 633825300114114700748498403394 0 w.s (w1.s.walkOk c la.pa).2 := h0.trans (acts_walkOk _ _ _) rfl rfl
      generalize w1.s.walkOk c la.pa = ok at h2 ⊢
      split
      · exact h2
      · have h3 := h2.trans (acts_Wk_read { w1 with s := ok.2 } c la.pa) rfl rfl
        split
        · rename_i e
          rw [e] at h3
          exact h3
        · rename_i e
          rw [e] at h3
          exact h3
        · rename_i pte w2 e
          rw [e] at h3
          split
          · exact h3
          · split
            · split
              · exact h3
              · split
                · exact h3
                · refine Acts.trans ?_ (ih _ _ _ _) rfl rfl
                  split
                  · exact h3
                  · exact h3.trans (acts_walkFill _ _ _ _ _ _) rfl rfl
            · split
              · exact h3
              · rename_i l _
                generalize (if gst = true then l.u && rwxOk nd.st l.r l.w l.x nd.acc
                  else permOk nd.st nd.md l.r l.w l.x l.u nd.acc) = perm
                split
                · exact h3
                · split
                  · exact h3
                  · have h4 := hk w2 (base + 8 * ix) true
                    split
                    · rename_i e2
                      rw [e2] at h4
                      rw [Wk.note_s]
                      exact h3.trans h4 rfl rfl
                    · exact h3.trans h4 rfl rfl
    · exact h0

theorem acts_Wk_gStage (w : Wk) (c orig acc gpa : Nat) : Acts 633825300114114700748498403394 0 w.s (w.gStage c orig acc gpa).2.s := by
  unfold Wk.gStage
  dsimp only
  split
  · split <;> exact Acts.refl _ _ _
  · split
    · exact Acts.refl _ _ _
    · split
      · exact Acts.refl _ _ _
      · have h := fun nd va pf glob lvl base => acts_Wk_stage w c true (bit ((w.s.core c).getCsr 0x30A) 62) nd va orig
          (tr := fun w a _ => (.ok { pa := a, size := 3 }, w)) pf glob lvl base fun _ _ _ => Acts.refl _ _ _
        split
        · rename_i e
          rw [← show _ = _ from congrArg (fun x => x.2.s) e]
          exact h _ _ _ _ _ _
        · rename_i e
          refine Acts.trans ?_ (acts_walkAdd _ _ _) rfl rfl
          rw [← show _ = _ from congrArg (fun x => x.2.s) e]
          exact h _ _ _ _ _ _
        · exact h _ _ _ _ _ _

theorem acts_Wk_walk (w : Wk) (c va acc : Nat) : Acts 633825300114114700748498403394 0 w.s (w.walk c va acc).2.2.s := by
  unfold Wk.walk
  extract_lets k
  split
  extract_lets root m st pbmte tr b first
  have htr : ∀ w a b, Acts 633825300114114700748498403394 0 w.s (tr w a b).2.s := fun w a b => by
    dsimp only [tr]
    split
    · have h := acts_Wk_gStage w c acc (if b = true then 1 else 0) a
      split
      · rename_i e
        rw [e] at h
        exact h
      · exact h
    · exact Acts.refl _ _ _
  have hf : Acts 633825300114114700748498403394 0 w.s first.2.s := by
    dsimp only [first]
    split
    · exact Acts.refl _ _ _
    · split
      · exact Acts.refl _ _ _
      · exact acts_Wk_stage _ _ _ _ _ _ _ _ _ _ _ htr
  clear_value first
  split
  · rename_i l w1
    split
    · exact hf
    · extract_lets gpa
      have h := acts_Wk_gStage w1 c acc acc gpa
      split
      · rename_i e
        rw [e] at h
        exact hf.trans h rfl rfl
      · rename_i e
        rw [e] at h
        exact hf.trans h rfl rfl
  · exact hf

theorem acts_execPageTableWalk (c va acc : Nat) (spec : Bool) (s : State) : ActsR 3327582825601408021943038246994 3245185536660415427367833234833600 s (execPageTableWalk c va acc spec s) := by
  unfold execPageTableWalk
  extract_lets s0 k
  have h0 : Acts 3327582825601408021943038246994 3245185536660415427367833234833600 s s0 := (acts_mirror _ _).mono rfl rfl
  clear_value s0
  split
  rename_i spec new s1 _ _ _ _
  refine ActsR.next ?_
  refine Acts.ite (fun _ => h0) (fun _ => ?_)
  have h1 : Acts 3327582825601408021943038246994 3245185536660415427367833234833600 s s1 := by
    dsimp only [s1]
    refine Acts.ite (fun _ => ?_) (fun _ => h0)
    exact (h0.trans (acts_onCore _ _ _) rfl rfl).trans (acts_coreCount _ _ _) rfl rfl
  clear_value s1
  have hw := h1.trans (acts_Wk_walk { s := s1 } c va acc) rfl rfl
  split
  · rename_i e
    rw [e] at hw
    exact hw
  · rename_i e
    rw [e] at hw
    extract_lets s2
    have h2 : Acts 3327582825601408021943038246994 3245185536660415427367833234833600 s s2 := hw.trans (acts_walkEnds _ _ _ _) rfl rfl
    clear_value s2
    exact Acts.ite (fun _ => h2) (fun _ => h2.trans (acts_exception _ _ _ _ _) rfl rfl)
  · rename_i f w e
    rw [e] at hw
    have h2 : Acts 3327582825601408021943038246994 3245185536660415427367833234833600 s (w.s.walkEnds c va acc) := hw.trans (acts_walkEnds _ _ _ _) rfl rfl
    refine Acts.ite (fun _ => h2.trans (acts_tlbInstall _ _ _ _ _) rfl rfl) (fun _ => ?_)
    refine Acts.ite (fun _ => h2.trans (acts_walkRace _ _) rfl rfl) (fun _ => ?_)
    refine Acts.ite (fun _ => ?_) (fun _ => ?_)
    · refine Acts.trans ?_ (acts_tlbInstall _ _ _ _ _) rfl rfl
      refine Acts.trans ?_ (acts_walkEnds _ _ _ _) rfl rfl
      refine Acts.foldl (L2 := 3327582825601408021943038246994) (R2 := 3245185536660415427367833234833600) _ hw (fun t u => ?_) rfl rfl
      exact (acts_pteWrite _ _ _ _).mono rfl rfl
    · refine Acts.foldl (L2 := 3327582825601408021943038246994) (R2 := 3245185536660415427367833234833600) _ hw (fun t u => ?_) rfl rfl
      exact Acts.ite (fun _ => Acts.refl _ _ _) (fun _ => (acts_wantOwn _ _ _).mono rfl rfl)

theorem acts_execCboClean (c : Nat) (rs1 : Nat) (len : Nat) (insn : W) (s : State) :
    ActsR 3327582825878109183057271570902 3245423221147958220380613866684864 s (execCboClean c rs1 len insn s) := by
  unfold execCboClean
  refine ActsR.next ?_
  refine Acts.trans ?_ (acts_cboOp _ _ _ _ _ _ _) rfl rfl
  exact Acts.refl _ _ _

theorem acts_ownReqs (s : State) (c : Nat) :
    Acts 633825300114114700748364185664 0 s (State.ownReqs s c) := by
  unfold State.ownReqs
  refine Acts.foldl (L2 := 633825300114114700748364185664) (R2 := 0) _ ?_ (fun t1 x2 => ?_) rfl rfl
  · exact Acts.refl _ _ _
  · extract_lets a3 a4 a5
    clear_value a3
    clear_value a4
    clear_value a5
    refine Acts.ite (fun _ => ?_) (fun _ => ?_)
    · refine Acts.trans ?_ (acts_wantOwnAs _ _ _ _) rfl rfl
      exact Acts.refl _ _ _
    · exact Acts.refl _ _ _

theorem acts_storeOrder (s : State) (c : Nat) (lines : List Nat) :
    Acts 64 0 s (State.storeOrder s c lines) := by
  unfold State.storeOrder
  refine Acts.trans ?_ (acts_onCore _ _ _) rfl rfl
  exact Acts.refl _ _ _

theorem acts_pairStores (s : State) (c : Nat) (es : List StoreEnt) :
    Acts 536870912 0 s (State.pairStores s c es) := by
  unfold State.pairStores
  split
  · exact Acts.refl _ _ _
  · extract_lets a1 a2
    clear_value a1
    clear_value a2
    refine Acts.trans ?_ (Acts.set_pairs _ _) rfl rfl
    exact Acts.refl _ _ _

theorem acts_execCboZero (c : Nat) (rs1 : Nat) (len : Nat) (insn : W) (s : State) :
    ActsR 3327582825878109183057271570902 3245423221147958220380613866684864 s (execCboZero c rs1 len insn s) := by
  unfold execCboZero
  extract_lets a1
  clear_value a1
  refine ActsR.next ?_
  refine Acts.trans ?_ (acts_issue (L := 3327582825878109183057271570902) (R := 3245423221147958220380613866684864) _ _ _ ?_ rfl rfl) rfl rfl
  · exact Acts.refl _ _ _
  · intro t2
    extract_lets a3
    clear_value a3
    refine Acts.ite (fun _ => ?_) (fun _ => ?_)
    · refine Acts.trans ?_ (acts_illegal _ _ _ _) rfl rfl
      exact Acts.refl _ _ _
    · split
      · refine Acts.trans ?_ (acts_xlatAs_eq (by assumption)) rfl rfl
        exact Acts.refl _ _ _
      · refine Acts.trans ?_ (acts_deviceAbort _ _) rfl rfl
        refine Acts.trans ?_ (acts_xlatAs_eq (by assumption)) rfl rfl
        exact Acts.refl _ _ _
      · refine Acts.trans ?_ (acts_exception _ _ _ _ _) rfl rfl
        refine Acts.trans ?_ (acts_xlatAs_eq (by assumption)) rfl rfl
        exact Acts.refl _ _ _
      · extract_lets a4 a5 a6 a7 a8
        clear_value a4
        clear_value a5
        clear_value a6
        have ha7 : Acts 3327582825878109183057271570902 3245423221147958220380613866684864 t2 a7 := by
          dsimp only [a7]
          refine Acts.trans ?_ (acts_onCore _ _ _) rfl rfl
          refine Acts.trans ?_ (acts_storeOrder _ _ _) rfl rfl
          refine Acts.trans ?_ (acts_xlatAs_eq (by assumption)) rfl rfl
          exact Acts.refl _ _ _
        clear_value a7
        have ha8 : Acts 3327582825878109183057271570902 3245423221147958220380613866684864 t2 a8 := by
          dsimp only [a8]
          refine Acts.trans ?_ (acts_pairStores _ _ _) rfl rfl
          with_reducible assumption
        clear_value a8
        refine Acts.ite (fun _ => ?_) (fun _ => ?_)
        · refine Acts.trans ?_ (acts_xlatAs_eq (by assumption)) rfl rfl
          exact Acts.refl _ _ _
        · refine Acts.ite (fun _ => ?_) (fun _ => ?_)
          · refine Acts.trans ?_ (acts_trace _ _ _ _ _) rfl rfl
            refine Acts.trans ?_ (acts_abortGroup _ _ _ _ _) rfl rfl
            refine Acts.trans ?_ (acts_xlatAs_eq (by assumption)) rfl rfl
            exact Acts.refl _ _ _
          · refine Acts.trans ?_ (acts_retire _ _ _ _ _) rfl rfl
            refine Acts.trans ?_ (acts_ownReqs _ _) rfl rfl
            with_reducible assumption

theorem acts_execFenceTso (c : Nat) (len : Nat) (s : State) :
    ActsR 3327582825601408021942891446352 3245185536659825131557474529181888 s (execFenceTso c len s) := by
  unfold execFenceTso
  refine ActsR.next ?_
  refine Acts.trans ?_ (acts_issue (L := 3327582825601408021942891446352) (R := 3245185536659825131557474529181888) _ _ _ ?_ rfl rfl) rfl rfl
  · exact Acts.refl _ _ _
  · intro t1
    refine Acts.trans ?_ (acts_closeIval _ _) rfl rfl
    refine Acts.trans ?_ (acts_retire _ _ _ _ _) rfl rfl
    refine Acts.trans ?_ (acts_onCore _ _ _) rfl rfl
    exact Acts.refl _ _ _

theorem acts_drainThen {L R : Nat} (s : State) (c len : Nat) {k : State → State} (hk : ∀ t, Acts L R t (k t))
    (hL : 3327582825601408021942891446352 ||| L = L) (hR : 3245185536659825131557474529181888 ||| R = R) : Acts L R s (s.drainThen c len k) := by
  unfold State.drainThen
  split
  · exact (acts_closeIval _ _).mono (L := 3327582825601408021942891446352) (R := 3245185536659825131557474529181888) rfl rfl |>.mono hL hR
  · split
    · exact Acts.refl _ _ _
    · refine Acts.trans (L2 := 3327582825601408021942891446352) (R2 := 3245185536659825131557474529181888) ?_ ((acts_closeIval _ _).mono rfl rfl) hL hR
      refine Acts.trans (L2 := 3327582825601408021942891446352) (R2 := 3245185536659825131557474529181888) ?_ ((acts_retire _ _ _ _ _).mono rfl rfl) hL hR
      exact (((acts_onCore s c Core.squash).mono (L := 3327582825601408021942891446352) (R := 3245185536659825131557474529181888) rfl rfl).mono hL hR).trans (hk _) (Nat.or_self _) (Nat.or_self _)

theorem acts_execSfenceWInval (c : Nat) (len : Nat) (insn : W) (s : State) :
    ActsR 3327582825601408021942891446352 3245185536660415427367833234833600 s (execSfenceWInval c len insn s) := by
  unfold execSfenceWInval
  refine ActsR.next ?_
  refine Acts.trans ?_ (acts_issue (L := 3327582825601408021942891446352) (R := 3245185536660415427367833234833600) _ _ _ ?_ rfl rfl) rfl rfl
  · exact Acts.refl _ _ _
  · intro t1
    refine Acts.trans ?_ (acts_notInGroup (L := 3327582825601408021942891446352) (R := 3245185536660415427367833234833600) _ _ ?_ rfl rfl) rfl rfl
    · exact Acts.refl _ _ _
    · intro t2
      extract_lets a3
      clear_value a3
      refine Acts.ite (fun _ => ?_) (fun _ => ?_)
      · refine Acts.trans ?_ (acts_illegal _ _ _ _) rfl rfl
        exact Acts.refl _ _ _
      · refine Acts.trans ?_ (acts_drainThen (L := 3327582825601408021942891446352) (R := 3245185536660415427367833234833600) _ _ _ ?_ rfl rfl) rfl rfl
        · exact Acts.refl _ _ _
        · intro t4
          exact Acts.refl _ _ _

theorem acts_ownedWrite (s : State) (c : Nat) (pa : Nat) (n : Nat) (v : Nat) (grp : Bool) :
    Acts 633825300116420543762397134930 75557863725914323419328 s (State.ownedWrite s c pa n v grp) := by
  unfold State.ownedWrite
  extract_lets a1 a2 a3
  clear_value a1
  clear_value a2
  clear_value a3
  split
  · exact Acts.refl _ _ _
  · refine Acts.ite (fun _ => ?_) (fun _ => ?_)
    · extract_lets a4
      have ha4 : Acts 633825300116420543762397134930 75557863725914323419328 s a4 := by
        dsimp only [a4]
        refine Acts.trans ?_ (acts_depRecord _ _ _) rfl rfl
        exact Acts.refl _ _ _
      clear_value a4
      split
      · with_reducible assumption
      · extract_lets a5 a6 a7
        clear_value a5
        clear_value a6
        clear_value a7
        refine Acts.trans ?_ (acts_fillL1 _ _ _) rfl rfl
        refine Acts.trans ?_ (acts_onCore _ _ _) rfl rfl
        with_reducible assumption
    · extract_lets a8 a9
      clear_value a8
      clear_value a9
      refine Acts.trans ?_ (acts_fillL1 _ _ _) rfl rfl
      refine Acts.trans ?_ (acts_clearResv _ _ _) rfl rfl
      refine Acts.trans ?_ (acts_onCore _ _ _) rfl rfl
      exact Acts.refl _ _ _

theorem acts_execStoreBufferWrite (c : Nat) (n : Nat) (s : State) :
    ActsR 633825300116420543770999767510 75557863725914323419584 s (execStoreBufferWrite c n s) := by
  unfold execStoreBufferWrite
  extract_lets a1 a2
  clear_value a1
  refine ActsR.next ?_
  split
  · exact Acts.refl _ _ _
  · refine Acts.ite (fun _ => ?_) (fun _ => ?_)
    · exact Acts.refl _ _ _
    · extract_lets a3 a4
      clear_value a3
      clear_value a4
      split
      · refine Acts.ite (fun _ => ?_) (fun _ => ?_)
        · refine Acts.trans ?_ (acts_ownedWrite _ _ _ _ _ _) rfl rfl
          dsimp only [a2]
          refine Acts.trans ?_ (acts_onCore _ _ _) rfl rfl
          exact Acts.refl _ _ _
        · refine Acts.trans ?_ (acts_ownReqs _ _) rfl rfl
          exact Acts.refl _ _ _
      · refine Acts.ite (fun _ => ?_) (fun _ => ?_)
        · refine Acts.trans ?_ (acts_ownedWrite _ _ _ _ _ _) rfl rfl
          dsimp only [a2]
          refine Acts.trans ?_ (acts_onCore _ _ _) rfl rfl
          exact Acts.refl _ _ _
        · refine Acts.trans ?_ (acts_ownReqs _ _) rfl rfl
          exact Acts.refl _ _ _
      · refine Acts.trans ?_ (acts_agentWriteBytes _ _ _ _) rfl rfl
        dsimp only [a2]
        refine Acts.trans ?_ (acts_onCore _ _ _) rfl rfl
        exact Acts.refl _ _ _
      · refine Acts.ite (fun _ => ?_) (fun _ => ?_)
        · refine Acts.trans ?_ (acts_coreCount _ _ _) rfl rfl
          refine Acts.trans ?_ (acts_agentWriteBytes _ _ _ _) rfl rfl
          dsimp only [a2]
          refine Acts.trans ?_ (acts_onCore _ _ _) rfl rfl
          exact Acts.refl _ _ _
        · refine Acts.ite (fun _ => ?_) (fun _ => ?_)
          · exact Acts.refl _ _ _
          · split
            · exact Acts.refl _ _ _
            · extract_lets a5
              have ha5 : Acts 633825300116420543770999767510 75557863725914323419584 s a5 := by
                dsimp only [a5]
                refine Acts.trans ?_ (acts_setIo _ _ _ _) rfl rfl
                refine Acts.trans ?_ (acts_takeTxn_eq (by assumption)) rfl rfl
                exact Acts.refl _ _ _
              clear_value a5
              refine Acts.trans ?_ (acts_coreCount _ _ _) rfl rfl
              refine Acts.trans ?_ (acts_coreCount _ _ _) rfl rfl
              refine Acts.trans ?_ (acts_onCore _ _ _) rfl rfl
              with_reducible assumption

theorem acts_hfenceGAct (s : State) (c : Nat) (rs1 : Nat) (rs2 : Nat) :
    Acts 64 0 s (State.hfenceGAct s c rs1 rs2) := by
  unfold State.hfenceGAct
  extract_lets a1
  clear_value a1
  refine Acts.foldl (L2 := 64) (R2 := 0) _ ?_ (fun t2 x3 => ?_) rfl rfl
  · exact Acts.refl _ _ _
  · refine Acts.trans ?_ (acts_onCore _ _ _) rfl rfl
    exact Acts.refl _ _ _

theorem acts_execHfenceVvma (c : Nat) (rs1 : Nat) (rs2 : Nat) (len : Nat) (insn : W) (s : State) :
    ActsR 3327582825601408021942891446352 3245185536660415427367833234833600 s (execHfenceVvma c rs1 rs2 len insn s) := by
  unfold execHfenceVvma
  refine ActsR.next ?_
  refine Acts.trans ?_ (acts_issue (L := 3327582825601408021942891446352) (R := 3245185536660415427367833234833600) _ _ _ ?_ rfl rfl) rfl rfl
  · exact Acts.refl _ _ _
  · intro t1
    refine Acts.trans ?_ (acts_notInGroup (L := 3327582825601408021942891446352) (R := 3245185536660415427367833234833600) _ _ ?_ rfl rfl) rfl rfl
    · exact Acts.refl _ _ _
    · intro t2
      extract_lets a3
      clear_value a3
      refine Acts.ite (fun _ => ?_) (fun _ => ?_)
      · refine Acts.trans ?_ (acts_illegal _ _ _ _) rfl rfl
        exact Acts.refl _ _ _
      · refine Acts.trans ?_ (acts_drainThen (L := 3327582825601408021942891446352) (R := 3245185536660415427367833234833600) _ _ _ ?_ rfl rfl) rfl rfl
        · exact Acts.refl _ _ _
        · intro t4
          refine Acts.trans ?_ (acts_hfenceVAct _ _ _ _) rfl rfl
          exact Acts.refl _ _ _

theorem acts_execLr (c : Nat) (rd : Nat) (rs1 : Nat) (size : Nat) (aq : Bool) (rl : Bool) (len : Nat) (s : State) :
    ActsR 3327582825878109183057271570902 3245423221147958220380613866684864 s (execLr c rd rs1 size aq rl len s) := by
  unfold execLr
  extract_lets a1
  clear_value a1
  refine ActsR.next ?_
  refine Acts.ite (fun _ => ?_) (fun _ => ?_)
  · exact Acts.refl _ _ _
  · refine Acts.trans ?_ (acts_issue (L := 3327582825878109183057271570902) (R := 3245423221147958220380613866684864) _ _ _ ?_ rfl rfl) rfl rfl
    · exact Acts.refl _ _ _
    · intro t2
      refine Acts.ite (fun _ => ?_) (fun _ => ?_)
      · refine Acts.trans ?_ (acts_exception _ _ _ _ _) rfl rfl
        exact Acts.refl _ _ _
      · split
        · refine Acts.trans ?_ (acts_xlatAs_eq (by assumption)) rfl rfl
          exact Acts.refl _ _ _
        · refine Acts.trans ?_ (acts_deviceAbort _ _) rfl rfl
          refine Acts.trans ?_ (acts_xlatAs_eq (by assumption)) rfl rfl
          exact Acts.refl _ _ _
        · refine Acts.trans ?_ (acts_exception _ _ _ _ _) rfl rfl
          refine Acts.trans ?_ (acts_xlatAs_eq (by assumption)) rfl rfl
          exact Acts.refl _ _ _
        · extract_lets a3 a4
          clear_value a3
          clear_value a4
          refine Acts.ite (fun _ => ?_) (fun _ => ?_)
          · refine Acts.trans ?_ (acts_closeIval _ _) rfl rfl
            refine Acts.trans ?_ (acts_xlatAs_eq (by assumption)) rfl rfl
            exact Acts.refl _ _ _
          · refine Acts.ite (fun _ => ?_) (fun _ => ?_)
            · refine Acts.trans ?_ (acts_xlatAs_eq (by assumption)) rfl rfl
              exact Acts.refl _ _ _
            · refine Acts.ite (fun _ => ?_) (fun _ => ?_)
              · refine Acts.trans ?_ (acts_xlatAs_eq (by assumption)) rfl rfl
                exact Acts.refl _ _ _
              · refine Acts.ite (fun _ => ?_) (fun _ => ?_)
                · refine Acts.trans ?_ (acts_lrFetch _ _ _ _) rfl rfl
                  refine Acts.trans ?_ (acts_xlatAs_eq (by assumption)) rfl rfl
                  exact Acts.refl _ _ _
                · split
                  · refine Acts.trans ?_ (acts_xlatAs_eq (by assumption)) rfl rfl
                    exact Acts.refl _ _ _
                  · refine Acts.ite (fun _ => ?_) (fun _ => ?_)
                    · refine Acts.trans ?_ (acts_poisonFault _ _ _ _ _) rfl rfl
                      refine Acts.trans ?_ (acts_xlatAs_eq (by assumption)) rfl rfl
                      exact Acts.refl _ _ _
                    · extract_lets a5 a6 a7 a8
                      have ha5 : Acts 3327582825878109183057271570902 3245423221147958220380613866684864 t2 a5 := by
                        dsimp only [a5]
                        refine Acts.trans ?_ (acts_joinReads _ _ _) rfl rfl
                        refine Acts.trans ?_ (acts_depRecord _ _ _) rfl rfl
                        refine Acts.trans ?_ (acts_fillL1 _ _ _) rfl rfl
                        refine Acts.trans ?_ (acts_xlatAs_eq (by assumption)) rfl rfl
                        exact Acts.refl _ _ _
                      clear_value a5
                      clear_value a6
                      have ha7 : Acts 3327582825878109183057271570902 3245423221147958220380613866684864 t2 a7 := by
                        dsimp only [a7]
                        refine Acts.trans ?_ (acts_pairLog _ _ _ _) rfl rfl
                        with_reducible assumption
                      clear_value a7
                      have ha8 : Acts 3327582825878109183057271570902 3245423221147958220380613866684864 t2 a8 := by
                        dsimp only [a8]
                        refine Acts.trans ?_ (acts_onCore _ _ _) rfl rfl
                        with_reducible assumption
                      clear_value a8
                      refine Acts.ite (fun _ => ?_) (fun _ => ?_)
                      · with_reducible assumption
                      · refine Acts.trans ?_ (acts_retire _ _ _ _ _) rfl rfl
                        with_reducible assumption

theorem acts_execSc (c : Nat) (rd : Nat) (rs1 : Nat) (rs2 : Nat) (size : Nat) (aq : Bool) (rl : Bool) (len : Nat) (s : State) :
    ActsR 3327582825878109183057271570902 3245423221147958220380613866684864 s (execSc c rd rs1 rs2 size aq rl len s) := by
  unfold execSc
  extract_lets a1
  clear_value a1
  refine ActsR.next ?_
  refine Acts.ite (fun _ => ?_) (fun _ => ?_)
  · exact Acts.refl _ _ _
  · refine Acts.trans ?_ (acts_issue (L := 3327582825878109183057271570902) (R := 3245423221147958220380613866684864) _ _ _ ?_ rfl rfl) rfl rfl
    · exact Acts.refl _ _ _
    · intro t2
      refine Acts.ite (fun _ => ?_) (fun _ => ?_)
      · refine Acts.trans ?_ (acts_exception _ _ _ _ _) rfl rfl
        exact Acts.refl _ _ _
      · split
        · refine Acts.trans ?_ (acts_xlatAs_eq (by assumption)) rfl rfl
          exact Acts.refl _ _ _
        · refine Acts.trans ?_ (acts_deviceAbort _ _) rfl rfl
          refine Acts.trans ?_ (acts_xlatAs_eq (by assumption)) rfl rfl
          exact Acts.refl _ _ _
        · refine Acts.trans ?_ (acts_exception _ _ _ _ _) rfl rfl
          refine Acts.trans ?_ (acts_xlatAs_eq (by assumption)) rfl rfl
          exact Acts.refl _ _ _
        · extract_lets a3 a4 a5 a6 a7 a8
          clear_value a3
          clear_value a4
          clear_value a6
          have ha7 : Acts 3327582825878109183057271570902 3245423221147958220380613866684864 t2 a7 := by
            dsimp only [a7]
            refine Acts.trans ?_ (acts_ownedWrite _ _ _ _ _ _) rfl rfl
            refine Acts.trans ?_ (acts_xlatAs_eq (by assumption)) rfl rfl
            exact Acts.refl _ _ _
          clear_value a7
          have ha8 : Acts 3327582825878109183057271570902 3245423221147958220380613866684864 t2 a8 := by
            dsimp only [a8]
            refine Acts.trans ?_ (acts_pairStores _ _ _) rfl rfl
            with_reducible assumption
          clear_value a8
          refine Acts.ite (fun _ => ?_) (fun _ => ?_)
          · refine Acts.trans ?_ (acts_closeIval _ _) rfl rfl
            refine Acts.trans ?_ (acts_xlatAs_eq (by assumption)) rfl rfl
            exact Acts.refl _ _ _
          · refine Acts.ite (fun _ => ?_) (fun _ => ?_)
            · refine Acts.trans ?_ (acts_xlatAs_eq (by assumption)) rfl rfl
              exact Acts.refl _ _ _
            · refine Acts.ite (fun _ => ?_) (fun _ => ?_)
              · dsimp only [a5]
                refine Acts.trans ?_ (acts_rebase _ _) rfl rfl
                refine Acts.trans ?_ (acts_retire _ _ _ _ _) rfl rfl
                refine Acts.trans ?_ (acts_onCore _ _ _) rfl rfl
                refine Acts.ite (fun _ => ?_) (fun _ => ?_)
                · refine Acts.trans ?_ (acts_storeOrder _ _ _) rfl rfl
                  refine Acts.trans ?_ (acts_pairLog _ _ _ _) rfl rfl
                  refine Acts.trans ?_ (acts_xlatAs_eq (by assumption)) rfl rfl
                  exact Acts.refl _ _ _
                · refine Acts.trans ?_ (acts_pairLog _ _ _ _) rfl rfl
                  refine Acts.trans ?_ (acts_xlatAs_eq (by assumption)) rfl rfl
                  exact Acts.refl _ _ _
              · refine Acts.ite (fun _ => ?_) (fun _ => ?_)
                · refine Acts.trans ?_ (acts_xlatAs_eq (by assumption)) rfl rfl
                  exact Acts.refl _ _ _
                · refine Acts.ite (fun _ => ?_) (fun _ => ?_)
                  · refine Acts.trans ?_ (acts_ownOrFault _ _ _ _ _) rfl rfl
                    refine Acts.trans ?_ (acts_xlatAs_eq (by assumption)) rfl rfl
                    exact Acts.refl _ _ _
                  · refine Acts.ite (fun _ => ?_) (fun _ => ?_)
                    · refine Acts.trans ?_ (acts_trace _ _ _ _ _) rfl rfl
                      refine Acts.trans ?_ (acts_abortGroup _ _ _ _ _) rfl rfl
                      refine Acts.trans ?_ (acts_xlatAs_eq (by assumption)) rfl rfl
                      exact Acts.refl _ _ _
                    · refine Acts.ite (fun _ => ?_) (fun _ => ?_)
                      · with_reducible assumption
                      · dsimp only [a5]
                        refine Acts.trans ?_ (acts_rebase _ _) rfl rfl
                        refine Acts.trans ?_ (acts_retire _ _ _ _ _) rfl rfl
                        refine Acts.trans ?_ (acts_onCore _ _ _) rfl rfl
                        refine Acts.ite (fun _ => ?_) (fun _ => ?_)
                        · refine Acts.trans ?_ (acts_storeOrder _ _ _) rfl rfl
                          refine Acts.trans ?_ (acts_pairLog _ _ _ _) rfl rfl
                          with_reducible assumption
                        · refine Acts.trans ?_ (acts_pairLog _ _ _ _) rfl rfl
                          with_reducible assumption

theorem acts_execHoldWindowEnd (c : Nat) (s : State) :
    ActsR 64 0 s (execHoldWindowEnd c s) := by
  unfold execHoldWindowEnd
  refine ActsR.next ?_
  refine Acts.trans ?_ (acts_onCore _ _ _) rfl rfl
  exact Acts.refl _ _ _

theorem acts_execHfenceGvma (c : Nat) (rs1 : Nat) (rs2 : Nat) (len : Nat) (insn : W) (s : State) :
    ActsR 3327582825601408021942891446352 3245185536660415427367833234833600 s (execHfenceGvma c rs1 rs2 len insn s) := by
  unfold execHfenceGvma
  refine ActsR.next ?_
  refine Acts.trans ?_ (acts_issue (L := 3327582825601408021942891446352) (R := 3245185536660415427367833234833600) _ _ _ ?_ rfl rfl) rfl rfl
  · exact Acts.refl _ _ _
  · intro t1
    refine Acts.trans ?_ (acts_notInGroup (L := 3327582825601408021942891446352) (R := 3245185536660415427367833234833600) _ _ ?_ rfl rfl) rfl rfl
    · exact Acts.refl _ _ _
    · intro t2
      extract_lets a3 a4
      clear_value a3
      clear_value a4
      refine Acts.ite (fun _ => ?_) (fun _ => ?_)
      · refine Acts.trans ?_ (acts_illegal _ _ _ _) rfl rfl
        exact Acts.refl _ _ _
      · refine Acts.trans ?_ (acts_drainThen (L := 3327582825601408021942891446352) (R := 3245185536660415427367833234833600) _ _ _ ?_ rfl rfl) rfl rfl
        · exact Acts.refl _ _ _
        · intro t5
          refine Acts.trans ?_ (acts_hfenceGAct _ _ _ _) rfl rfl
          exact Acts.refl _ _ _

theorem acts_execSfenceInvalIr (c : Nat) (len : Nat) (insn : W) (s : State) :
    ActsR 3327582825601408021942891446352 3245185536660415427367833234833600 s (execSfenceInvalIr c len insn s) := by
  unfold execSfenceInvalIr
  refine ActsR.next ?_
  refine Acts.trans ?_ (acts_issue (L := 3327582825601408021942891446352) (R := 3245185536660415427367833234833600) _ _ _ ?_ rfl rfl) rfl rfl
  · exact Acts.refl _ _ _
  · intro t1
    refine Acts.trans ?_ (acts_notInGroup (L := 3327582825601408021942891446352) (R := 3245185536660415427367833234833600) _ _ ?_ rfl rfl) rfl rfl
    · exact Acts.refl _ _ _
    · intro t2
      extract_lets a3
      clear_value a3
      refine Acts.ite (fun _ => ?_) (fun _ => ?_)
      · refine Acts.trans ?_ (acts_illegal _ _ _ _) rfl rfl
        exact Acts.refl _ _ _
      · refine Acts.ite (fun _ => ?_) (fun _ => ?_)
        · refine Acts.trans ?_ (acts_closeIval _ _) rfl rfl
          exact Acts.refl _ _ _
        · refine Acts.trans ?_ (acts_closeIval _ _) rfl rfl
          refine Acts.trans ?_ (acts_retire _ _ _ _ _) rfl rfl
          refine Acts.trans ?_ (acts_onCore _ _ _) rfl rfl
          exact Acts.refl _ _ _

theorem acts_execSfenceVma (c : Nat) (rs1 : Nat) (rs2 : Nat) (len : Nat) (insn : W) (s : State) :
    ActsR 3327582825601408021942891446352 3245185536660415427367833234833600 s (execSfenceVma c rs1 rs2 len insn s) := by
  unfold execSfenceVma
  refine ActsR.next ?_
  refine Acts.trans ?_ (acts_issue (L := 3327582825601408021942891446352) (R := 3245185536660415427367833234833600) _ _ _ ?_ rfl rfl) rfl rfl
  · exact Acts.refl _ _ _
  · intro t1
    refine Acts.trans ?_ (acts_notInGroup (L := 3327582825601408021942891446352) (R := 3245185536660415427367833234833600) _ _ ?_ rfl rfl) rfl rfl
    · exact Acts.refl _ _ _
    · intro t2
      extract_lets a3
      clear_value a3
      refine Acts.ite (fun _ => ?_) (fun _ => ?_)
      · refine Acts.trans ?_ (acts_illegal _ _ _ _) rfl rfl
        exact Acts.refl _ _ _
      · refine Acts.trans ?_ (acts_drainThen (L := 3327582825601408021942891446352) (R := 3245185536660415427367833234833600) _ _ _ ?_ rfl rfl) rfl rfl
        · exact Acts.refl _ _ _
        · intro t4
          refine Acts.trans ?_ (acts_sfenceAct _ _ _ _ _) rfl rfl
          exact Acts.refl _ _ _

theorem acts_lostFault (s : State) (c : Nat) (va : Nat) :
    Acts 3327582825601408021942891446352 3245185536660415427367833234833600 s (State.lostFault s c va) := by
  unfold State.lostFault
  refine Acts.trans ?_ (acts_exception _ _ _ _ _) rfl rfl
  refine Acts.trans ?_ (acts_setFld _ _ _ _) rfl rfl
  exact Acts.refl _ _ _

theorem acts_execStore (c : Nat) (src : Src) (rs1 : Nat) (imm : W) (size : Nat) (len : Nat) (acc : Nat) (insn : W) (s : State) :
    ActsR 3327582825878109183057271570902 3245423221147958220380613866684864 s (execStore c src rs1 imm size len acc insn s) := by
  unfold execStore
  extract_lets a1
  clear_value a1
  refine ActsR.next ?_
  refine Acts.ite (fun _ => ?_) (fun _ => ?_)
  · exact Acts.refl _ _ _
  · refine Acts.trans ?_ (acts_issue (L := 3327582825878109183057271570902) (R := 3245423221147958220380613866684864) _ _ _ ?_ rfl rfl) rfl rfl
    · exact Acts.refl _ _ _
    · intro t2
      split
      · refine Acts.trans ?_ (acts_memIllegal_eq (by assumption)) rfl rfl
        exact Acts.refl _ _ _
      · split
        · refine Acts.trans ?_ (acts_xlatParts_eq (by assumption)) rfl rfl
          exact Acts.refl _ _ _
        · refine Acts.trans ?_ (acts_deviceAbort _ _) rfl rfl
          refine Acts.trans ?_ (acts_xlatParts_eq (by assumption)) rfl rfl
          exact Acts.refl _ _ _
        · refine Acts.trans ?_ (acts_exception _ _ _ _ _) rfl rfl
          refine Acts.trans ?_ (acts_xlatParts_eq (by assumption)) rfl rfl
          exact Acts.refl _ _ _
        · extract_lets a3 a4 a5 a6 a7 a8 a9 a10 a11 a12 a13 a14 a15 a16
          clear_value a3
          clear_value a4
          clear_value a5
          clear_value a6
          clear_value a7
          clear_value a8
          clear_value a9
          clear_value a10
          clear_value a11
          have ha12 : Acts 3327582825878109183057271570902 3245423221147958220380613866684864 t2 a12 := by
            dsimp only [a12]
            refine Acts.trans ?_ (acts_storeOrder _ _ _) rfl rfl
            refine Acts.trans ?_ (acts_xlatParts_eq (by assumption)) rfl rfl
            exact Acts.refl _ _ _
          clear_value a12
          have ha13 : Acts 3327582825878109183057271570902 3245423221147958220380613866684864 t2 a13 := by
            dsimp only [a13]
            refine Acts.trans ?_ (acts_onCore _ _ _) rfl rfl
            with_reducible assumption
          clear_value a13
          have ha14 : Acts 3327582825878109183057271570902 3245423221147958220380613866684864 t2 a14 := by
            dsimp only [a14]
            refine Acts.trans ?_ (acts_pairStores _ _ _) rfl rfl
            with_reducible assumption
          clear_value a14
          have ha15 : Acts 3327582825878109183057271570902 3245423221147958220380613866684864 t2 a15 := by
            dsimp only [a15]
            refine Acts.trans ?_ (acts_ownReqs _ _) rfl rfl
            with_reducible assumption
          clear_value a15
          have ha16 : Acts 3327582825878109183057271570902 3245423221147958220380613866684864 t2 a16 := by
            dsimp only [a16]
            refine Acts.trans ?_ (acts_retire _ _ _ _ _) rfl rfl
            with_reducible assumption
          clear_value a16
          refine Acts.ite (fun _ => ?_) (fun _ => ?_)
          · refine Acts.trans ?_ (acts_exception _ _ _ _ _) rfl rfl
            refine Acts.trans ?_ (acts_xlatParts_eq (by assumption)) rfl rfl
            exact Acts.refl _ _ _
          · refine Acts.ite (fun _ => ?_) (fun _ => ?_)
            · refine Acts.trans ?_ (acts_exception _ _ _ _ _) rfl rfl
              refine Acts.trans ?_ (acts_xlatParts_eq (by assumption)) rfl rfl
              exact Acts.refl _ _ _
            · refine Acts.ite (fun _ => ?_) (fun _ => ?_)
              · refine Acts.trans ?_ (acts_lostFault _ _ _) rfl rfl
                refine Acts.trans ?_ (acts_xlatParts_eq (by assumption)) rfl rfl
                exact Acts.refl _ _ _
              · refine Acts.ite (fun _ => ?_) (fun _ => ?_)
                · refine Acts.trans ?_ (acts_xlatParts_eq (by assumption)) rfl rfl
                  exact Acts.refl _ _ _
                · refine Acts.ite (fun _ => ?_) (fun _ => ?_)
                  · refine Acts.trans ?_ (acts_closeIval _ _) rfl rfl
                    refine Acts.trans ?_ (acts_xlatParts_eq (by assumption)) rfl rfl
                    exact Acts.refl _ _ _
                  · refine Acts.ite (fun _ => ?_) (fun _ => ?_)
                    · refine Acts.trans ?_ (acts_xlatParts_eq (by assumption)) rfl rfl
                      exact Acts.refl _ _ _
                    · refine Acts.ite (fun _ => ?_) (fun _ => ?_)
                      · refine Acts.trans ?_ (acts_trace _ _ _ _ _) rfl rfl
                        refine Acts.trans ?_ (acts_abortGroup _ _ _ _ _) rfl rfl
                        refine Acts.trans ?_ (acts_xlatParts_eq (by assumption)) rfl rfl
                        exact Acts.refl _ _ _
                      · refine Acts.ite (fun _ => ?_) (fun _ => ?_)
                        · refine Acts.trans ?_ (acts_rebase _ _) rfl rfl
                          with_reducible assumption
                        · with_reducible assumption

theorem acts_execSinvalVma (c : Nat) (kind : Nat) (rs1 : Nat) (rs2 : Nat) (len : Nat) (insn : W) (s : State) :
    ActsR 3327582825601408021942891446352 3245185536660415427367833234833600 s (execSinvalVma c kind rs1 rs2 len insn s) := by
  unfold execSinvalVma
  refine ActsR.next ?_
  refine Acts.trans ?_ (acts_issue (L := 3327582825601408021942891446352) (R := 3245185536660415427367833234833600) _ _ _ ?_ rfl rfl) rfl rfl
  · exact Acts.refl _ _ _
  · intro t1
    refine Acts.trans ?_ (acts_notInGroup (L := 3327582825601408021942891446352) (R := 3245185536660415427367833234833600) _ _ ?_ rfl rfl) rfl rfl
    · exact Acts.refl _ _ _
    · intro t2
      extract_lets a3 a4 a5
      clear_value a3
      clear_value a4
      have ha5 : Acts 3327582825601408021942891446352 3245185536660415427367833234833600 t2 a5 := by
        dsimp only [a5]
        refine Acts.ite (fun _ => ?_) (fun _ => ?_)
        · refine Acts.trans ?_ (acts_sfenceAct _ _ _ _ _) rfl rfl
          exact Acts.refl _ _ _
        · refine Acts.ite (fun _ => ?_) (fun _ => ?_)
          · refine Acts.trans ?_ (acts_hfenceVAct _ _ _ _) rfl rfl
            exact Acts.refl _ _ _
          · refine Acts.trans ?_ (acts_hfenceGAct _ _ _ _) rfl rfl
            exact Acts.refl _ _ _
      clear_value a5
      refine Acts.ite (fun _ => ?_) (fun _ => ?_)
      · refine Acts.trans ?_ (acts_illegal _ _ _ _) rfl rfl
        exact Acts.refl _ _ _
      · refine Acts.ite (fun _ => ?_) (fun _ => ?_)
        · refine Acts.trans ?_ (acts_closeIval _ _) rfl rfl
          exact Acts.refl _ _ _
        · refine Acts.trans ?_ (acts_closeIval _ _) rfl rfl
          refine Acts.trans ?_ (acts_retire _ _ _ _ _) rfl rfl
          with_reducible assumption

theorem acts_execAmo (c : Nat) (op : AmoOp) (rd : Nat) (rs1 : Nat) (rs2 : Nat) (size : Nat) (aq : Bool) (rl : Bool) (len : Nat) (s : State) :
    ActsR 3327582825878109183057271570902 3245423221147958220380613866684864 s (execAmo c op rd rs1 rs2 size aq rl len s) := by
  unfold execAmo
  extract_lets a1
  clear_value a1
  refine ActsR.next ?_
  refine Acts.ite (fun _ => ?_) (fun _ => ?_)
  · exact Acts.refl _ _ _
  · refine Acts.trans ?_ (acts_issue (L := 3327582825878109183057271570902) (R := 3245423221147958220380613866684864) _ _ _ ?_ rfl rfl) rfl rfl
    · exact Acts.refl _ _ _
    · intro t2
      refine Acts.ite (fun _ => ?_) (fun _ => ?_)
      · refine Acts.trans ?_ (acts_exception _ _ _ _ _) rfl rfl
        exact Acts.refl _ _ _
      · split
        · refine Acts.trans ?_ (acts_xlatAs_eq (by assumption)) rfl rfl
          exact Acts.refl _ _ _
        · refine Acts.trans ?_ (acts_deviceAbort _ _) rfl rfl
          refine Acts.trans ?_ (acts_xlatAs_eq (by assumption)) rfl rfl
          exact Acts.refl _ _ _
        · refine Acts.trans ?_ (acts_exception _ _ _ _ _) rfl rfl
          refine Acts.trans ?_ (acts_xlatAs_eq (by assumption)) rfl rfl
          exact Acts.refl _ _ _
        · extract_lets a3 a4 a5 a6 a7 a8 a9 a10
          clear_value a3
          clear_value a4
          clear_value a5
          clear_value a6
          clear_value a7
          have ha9 : Acts 3327582825878109183057271570902 3245423221147958220380613866684864 t2 a9 := by
            dsimp only [a9]
            refine Acts.trans ?_ (acts_devTake _ _) rfl rfl
            refine Acts.trans ?_ (acts_xlatAs_eq (by assumption)) rfl rfl
            exact Acts.refl _ _ _
          clear_value a9
          have ha10 : Acts 3327582825878109183057271570902 3245423221147958220380613866684864 t2 a10 := by
            dsimp only [a10]
            refine Acts.trans ?_ (acts_onCore _ _ _) rfl rfl
            refine Acts.trans ?_ (acts_xlatAs_eq (by assumption)) rfl rfl
            exact Acts.refl _ _ _
          clear_value a10
          refine Acts.ite (fun _ => ?_) (fun _ => ?_)
          · refine Acts.trans ?_ (acts_closeIval _ _) rfl rfl
            refine Acts.trans ?_ (acts_xlatAs_eq (by assumption)) rfl rfl
            exact Acts.refl _ _ _
          · refine Acts.ite (fun _ => ?_) (fun _ => ?_)
            · refine Acts.trans ?_ (acts_xlatAs_eq (by assumption)) rfl rfl
              exact Acts.refl _ _ _
            · refine Acts.ite (fun _ => ?_) (fun _ => ?_)
              · refine Acts.ite (fun _ => ?_) (fun _ => ?_)
                · refine Acts.trans ?_ (acts_lostFault _ _ _) rfl rfl
                  refine Acts.trans ?_ (acts_xlatAs_eq (by assumption)) rfl rfl
                  exact Acts.refl _ _ _
                · refine Acts.ite (fun _ => ?_) (fun _ => ?_)
                  · refine Acts.trans ?_ (acts_xlatAs_eq (by assumption)) rfl rfl
                    exact Acts.refl _ _ _
                  · split
                    · refine Acts.ite (fun _ => ?_) (fun _ => ?_)
                      · dsimp only [a8]
                        refine Acts.trans ?_ (acts_rebase _ _) rfl rfl
                        refine Acts.trans ?_ (acts_retire _ _ _ _ _) rfl rfl
                        refine Acts.trans ?_ (acts_onCore _ _ _) rfl rfl
                        refine Acts.trans ?_ (acts_onCore _ _ _) rfl rfl
                        refine Acts.trans ?_ (acts_storeOrder _ _ _) rfl rfl
                        refine Acts.trans ?_ (acts_pairStores _ _ _) rfl rfl
                        refine Acts.trans ?_ (acts_pairLog _ _ _ _) rfl rfl
                        with_reducible assumption
                      · refine Acts.trans ?_ (acts_exception _ _ _ _ _) rfl rfl
                        refine Acts.trans ?_ (acts_pairLog _ _ _ _) rfl rfl
                        with_reducible assumption
                    · refine Acts.ite (fun _ => ?_) (fun _ => ?_)
                      · refine Acts.trans ?_ (acts_xlatAs_eq (by assumption)) rfl rfl
                        exact Acts.refl _ _ _
                      · refine Acts.trans ?_ (acts_onCore _ _ _) rfl rfl
                        refine Acts.trans ?_ (acts_devIssue _ _ _ _) rfl rfl
                        refine Acts.trans ?_ (acts_xlatAs_eq (by assumption)) rfl rfl
                        exact Acts.refl _ _ _
              · refine Acts.ite (fun _ => ?_) (fun _ => ?_)
                · refine Acts.trans ?_ (acts_xlatAs_eq (by assumption)) rfl rfl
                  exact Acts.refl _ _ _
                · refine Acts.ite (fun _ => ?_) (fun _ => ?_)
                  · split
                    · refine Acts.ite (fun _ => ?_) (fun _ => ?_)
                      · dsimp only [a8]
                        refine Acts.trans ?_ (acts_rebase _ _) rfl rfl
                        refine Acts.trans ?_ (acts_retire _ _ _ _ _) rfl rfl
                        refine Acts.trans ?_ (acts_onCore _ _ _) rfl rfl
                        refine Acts.trans ?_ (acts_onCore _ _ _) rfl rfl
                        refine Acts.trans ?_ (acts_storeOrder _ _ _) rfl rfl
                        refine Acts.trans ?_ (acts_pairStores _ _ _) rfl rfl
                        refine Acts.trans ?_ (acts_pairLog _ _ _ _) rfl rfl
                        with_reducible assumption
                      · refine Acts.trans ?_ (acts_exception _ _ _ _ _) rfl rfl
                        refine Acts.trans ?_ (acts_pairLog _ _ _ _) rfl rfl
                        with_reducible assumption
                    · split
                      · refine Acts.trans ?_ (acts_errFault_eq (by assumption)) rfl rfl
                        refine Acts.trans ?_ (acts_xlatAs_eq (by assumption)) rfl rfl
                        exact Acts.refl _ _ _
                      · refine Acts.trans ?_ (acts_onCore _ _ _) rfl rfl
                        refine Acts.trans ?_ (acts_sendReq _ _ _ _ _) rfl rfl
                        refine Acts.trans ?_ (acts_xlatAs_eq (by assumption)) rfl rfl
                        exact Acts.refl _ _ _
                  · refine Acts.ite (fun _ => ?_) (fun _ => ?_)
                    · refine Acts.trans ?_ (acts_ownOrFault _ _ _ _ _) rfl rfl
                      refine Acts.trans ?_ (acts_xlatAs_eq (by assumption)) rfl rfl
                      exact Acts.refl _ _ _
                    · refine Acts.ite (fun _ => ?_) (fun _ => ?_)
                      · refine Acts.trans ?_ (acts_trace _ _ _ _ _) rfl rfl
                        refine Acts.trans ?_ (acts_abortGroup _ _ _ _ _) rfl rfl
                        refine Acts.trans ?_ (acts_xlatAs_eq (by assumption)) rfl rfl
                        exact Acts.refl _ _ _
                      · split
                        · refine Acts.trans ?_ (acts_xlatAs_eq (by assumption)) rfl rfl
                          exact Acts.refl _ _ _
                        · refine Acts.ite (fun _ => ?_) (fun _ => ?_)
                          · refine Acts.trans ?_ (acts_poisonFault _ _ _ _ _) rfl rfl
                            refine Acts.trans ?_ (acts_xlatAs_eq (by assumption)) rfl rfl
                            exact Acts.refl _ _ _
                          · extract_lets a11 a12
                            have ha11 : Acts 3327582825878109183057271570902 3245423221147958220380613866684864 t2 a11 := by
                              dsimp only [a11]
                              refine Acts.trans ?_ (acts_joinReads _ _ _) rfl rfl
                              refine Acts.trans ?_ (acts_depRecord _ _ _) rfl rfl
                              refine Acts.trans ?_ (acts_xlatAs_eq (by assumption)) rfl rfl
                              exact Acts.refl _ _ _
                            clear_value a11
                            clear_value a12
                            refine Acts.ite (fun _ => ?_) (fun _ => ?_)
                            · with_reducible assumption
                            · dsimp only [a8]
                              refine Acts.trans ?_ (acts_rebase _ _) rfl rfl
                              refine Acts.trans ?_ (acts_retire _ _ _ _ _) rfl rfl
                              refine Acts.trans ?_ (acts_onCore _ _ _) rfl rfl
                              refine Acts.trans ?_ (acts_onCore _ _ _) rfl rfl
                              refine Acts.trans ?_ (acts_storeOrder _ _ _) rfl rfl
                              refine Acts.trans ?_ (acts_pairStores _ _ _) rfl rfl
                              refine Acts.trans ?_ (acts_pairLog _ _ _ _) rfl rfl
                              refine Acts.trans ?_ (acts_ownedWrite _ _ _ _ _ _) rfl rfl
                              with_reducible assumption

theorem acts_execPrefetch (c : Nat) (kind : Nat) (rs1 : Nat) (imm : W) (len : Nat) (s : State) :
    ActsR 3327582825878109183057271570902 3245423221147367924570255161033152 s (execPrefetch c kind rs1 imm len s) := by
  unfold execPrefetch
  extract_lets a1
  clear_value a1
  refine ActsR.next ?_
  refine Acts.trans ?_ (acts_issue (L := 3327582825878109183057271570902) (R := 3245423221147367924570255161033152) _ _ _ ?_ rfl rfl) rfl rfl
  · exact Acts.refl _ _ _
  · intro t2
    split
    · refine Acts.ite (fun _ => ?_) (fun _ => ?_)
      · refine Acts.trans ?_ (acts_retire _ _ _ _ _) rfl rfl
        exact Acts.refl _ _ _
      · extract_lets a3 a4 a5 a6 a7 a8 a9
        clear_value a3
        clear_value a4
        clear_value a5
        clear_value a6
        have ha7 : Acts 3327582825878109183057271570902 3245423221147367924570255161033152 t2 a7 := by
          dsimp only [a7]
          refine Acts.ite (fun _ => ?_) (fun _ => ?_)
          · refine Acts.ite (fun _ => ?_) (fun _ => ?_)
            · refine Acts.trans ?_ (acts_xlat_eq (by assumption)) rfl rfl
              exact Acts.refl _ _ _
            · refine Acts.ite (fun _ => ?_) (fun _ => ?_)
              · refine Acts.trans ?_ (acts_fillL1I _ _ _) rfl rfl
                refine Acts.trans ?_ (acts_xlat_eq (by assumption)) rfl rfl
                exact Acts.refl _ _ _
              · refine Acts.trans ?_ (acts_fillL1 _ _ _) rfl rfl
                refine Acts.trans ?_ (acts_xlat_eq (by assumption)) rfl rfl
                exact Acts.refl _ _ _
          · refine Acts.ite (fun _ => ?_) (fun _ => ?_)
            · refine Acts.trans ?_ (acts_wantOwnAs _ _ _ _) rfl rfl
              refine Acts.trans ?_ (acts_xlat_eq (by assumption)) rfl rfl
              exact Acts.refl _ _ _
            · refine Acts.trans ?_ (acts_sendReqAs _ _ _ _ _) rfl rfl
              refine Acts.trans ?_ (acts_xlat_eq (by assumption)) rfl rfl
              exact Acts.refl _ _ _
        clear_value a7
        clear_value a8
        have ha9 : Acts 3327582825878109183057271570902 3245423221147367924570255161033152 t2 a9 := by
          dsimp only [a9]
          refine Acts.ite (fun _ => ?_) (fun _ => ?_)
          · refine Acts.trans ?_ (acts_xlat_eq (by assumption)) rfl rfl
            exact Acts.refl _ _ _
          · refine Acts.trans ?_ (acts_joinReads _ _ _) rfl rfl
            with_reducible assumption
        clear_value a9
        refine Acts.ite (fun _ => ?_) (fun _ => ?_)
        · with_reducible assumption
        · refine Acts.trans ?_ (acts_retire _ _ _ _ _) rfl rfl
          with_reducible assumption
    · refine Acts.trans ?_ (acts_retire _ _ _ _ _) rfl rfl
      exact Acts.refl _ _ _

theorem acts_execFenceI (c : Nat) (len : Nat) (s : State) :
    ActsR 3327582825601408021942891446352 3245185536659825131557474529181888 s (execFenceI c len s) := by
  unfold execFenceI
  refine ActsR.next ?_
  refine Acts.trans ?_ (acts_issue (L := 3327582825601408021942891446352) (R := 3245185536659825131557474529181888) _ _ _ ?_ rfl rfl) rfl rfl
  · exact Acts.refl _ _ _
  · intro t1
    refine Acts.trans ?_ (acts_notInGroup (L := 3327582825601408021942891446352) (R := 3245185536659825131557474529181888) _ _ ?_ rfl rfl) rfl rfl
    · exact Acts.refl _ _ _
    · intro t2
      refine Acts.trans ?_ (acts_drainThen (L := 3327582825601408021942891446352) (R := 3245185536659825131557474529181888) _ _ _ ?_ rfl rfl) rfl rfl
      · exact Acts.refl _ _ _
      · intro t3
        extract_lets a4
        clear_value a4
        refine Acts.foldl (L2 := 3327582825601408021942891446352) (R2 := 3245185536659825131557474529181888) _ ?_ (fun t5 x6 => ?_) rfl rfl
        · exact Acts.refl _ _ _
        · refine Acts.trans ?_ (acts_onCore _ _ _) rfl rfl
          exact Acts.refl _ _ _

end Sys2Proof.Machine
end

