-- ==== Sys2Proof/Laws/CoherenceActs.lean ====
section
/-! SUPPORT. What each operation and each command of Coherence.lean may touch: `acts_<name>` bounds the fields and the registers that
`<name>` can change (see Acts.lean). -/

namespace Sys2Proof.Machine

open Sys2Proof

theorem acts_fillSlot (s : State) (line : Nat) :
    Acts 633825300114114700748352258048 0 s (State.fillSlot s line) := by
  unfold State.fillSlot
  split
  · exact Acts.refl _ _ _
  · refine Acts.ite (fun _ => ?_) (fun _ => ?_)
    · exact Acts.refl _ _ _
    · extract_lets a1 a2 a3 a4 a5
      clear_value a1
      clear_value a2
      clear_value a3
      clear_value a4
      clear_value a5
      split
      · exact Acts.refl _ _ _
      · refine Acts.trans ?_ (acts_count _ _ _ _ _) rfl rfl
        refine Acts.trans ?_ (Acts.set_trk_slots _ _ _) rfl rfl
        exact Acts.refl _ _ _

theorem acts_sieveClear (s : State) (line : Nat) (pos : Nat) :
    Acts 65536 0 s (State.sieveClear s line pos) := by
  unfold State.sieveClear
  extract_lets a1 a2
  clear_value a1
  clear_value a2
  refine Acts.trans ?_ (Acts.set_sieve _ _) rfl rfl
  exact Acts.refl _ _ _

theorem acts_learnTag (s : State) (dest : Nat) (t : Option Tag) :
    Acts 17179869184 0 s (State.learnTag s dest t) := by
  unfold State.learnTag
  split
  · exact Acts.refl _ _ _
  · extract_lets a1 a2
    clear_value a1
    clear_value a2
    refine Acts.ite (fun _ => ?_) (fun _ => ?_)
    · exact Acts.refl _ _ _
    · refine Acts.trans ?_ (Acts.set_pubs _ _) rfl rfl
      exact Acts.refl _ _ _

theorem acts_applyDirty (s : State) (line : Nat) (d : LineData) (secure : Bool) :
    ActsO 17179918726 0 s (State.applyDirty s line d secure) := by
  unfold State.applyDirty
  extract_lets a1 a2 a3 a4 a5 a6 a7 a8
  clear_value a1
  clear_value a2
  have ha3 : Acts 17179918726 0 s a3 := by
    dsimp only [a3]
    refine Acts.trans ?_ (acts_learnTag _ _ _) rfl rfl
    exact Acts.refl _ _ _
  clear_value a3
  clear_value a4
  clear_value a5
  clear_value a6
  have ha7 : Acts 17179918726 0 s a7 := by
    refine Acts.trans ?_ (Acts.set_l3 _ _) rfl rfl
    with_reducible assumption
  clear_value a7
  have ha8 : Acts 17179918726 0 s a8 := by
    dsimp only [a8]
    refine Acts.trans ?_ (acts_dramWrite _ _ _ _) rfl rfl
    with_reducible assumption
  clear_value a8
  split
  · refine ActsO.some ?_
    refine Acts.trans ?_ (acts_l3Alloc_eq (by assumption)) rfl rfl
    with_reducible assumption
  · refine ActsO.ite (fun _ => ?_) (fun _ => ?_)
    · refine ActsO.trans ?_ (acts_depvbPut _ _ _) rfl rfl
      with_reducible assumption
    · refine ActsO.some ?_
      refine Acts.trans ?_ (Acts.set_depvb _ _) rfl rfl
      with_reducible assumption
theorem acts_applyDirty_eq {s : State} {line : Nat} {d : LineData} {secure : Bool} {t : State} (h : (State.applyDirty s line d secure) = some t) : Acts 17179918726 0 s t := acts_applyDirty s line d secure t h

theorem acts_postMsg (s : State) (m : Msg) (rq : Rq) (src : Nat) (dst : Nat) (line : Nat) (poison : Bool) (status : Nat) :
    Acts 4194304 0 s (State.postMsg s m rq src dst line poison status) := by
  unfold State.postMsg
  extract_lets a1 a2
  clear_value a1
  clear_value a2
  refine Acts.trans ?_ (acts_post _ _) rfl rfl
  exact Acts.refl _ _ _

theorem acts_putReq (s : State) (rq : Rq) (line : Nat) (r : Option Req) :
    Acts 1048640 0 s (State.putReq s rq line r) := by
  unfold State.putReq
  split
  · refine Acts.trans ?_ (acts_onCore _ _ _) rfl rfl
    exact Acts.refl _ _ _
  · refine Acts.trans ?_ (Acts.set_agentReqs _ _) rfl rfl
    exact Acts.refl _ _ _

theorem acts_sendComp (s : State) (rq : Rq) (line : Nat) (st : Option Moesi) (data : Option LineData) (noData : Bool) (status : Nat) :
    Acts 5374016 0 s (State.sendComp s rq line st data noData status) := by
  unfold State.sendComp
  extract_lets a1 a2
  have ha1 : Acts 5374016 0 s a1 := by
    refine Acts.trans ?_ (Acts.set_trk _ _) rfl rfl
    exact Acts.refl _ _ _
  clear_value a1
  clear_value a2
  split
  · with_reducible assumption
  · extract_lets a3 a4
    have ha3 : Acts 5374016 0 s a3 := by
      dsimp only [a3]
      refine Acts.trans ?_ (acts_putReq _ _ _ _) rfl rfl
      with_reducible assumption
    clear_value a3
    have ha4 : Acts 5374016 0 s a4 := by
      dsimp only [a4]
      refine Acts.trans ?_ (acts_postMsg _ _ _ _ _ _ _ _) rfl rfl
      with_reducible assumption
    clear_value a4
    split
    · refine Acts.trans ?_ (acts_postMsg _ _ _ _ _ _ _ _) rfl rfl
      with_reducible assumption
    · with_reducible assumption

theorem acts_finishCbo (s : State) (rq : Rq) (line : Nat) (t : Trk) :
    Acts 5423558 0 s (State.finishCbo s rq line t) := by
  unfold State.finishCbo
  refine Acts.ite (fun _ => ?_) (fun _ => ?_)
  · refine Acts.trans ?_ (Acts.set_trk _ _) rfl rfl
    exact Acts.refl _ _ _
  · extract_lets a1 a2 a3 a4 a5 a6 a7 a8 a9 a10 a11 a12
    clear_value a1
    clear_value a2
    clear_value a3
    clear_value a4
    have ha5 : Acts 5423558 0 s a5 := by
      dsimp only [a5]
      split
      · refine Acts.trans ?_ (acts_l3Put _ _ _) rfl rfl
        exact Acts.refl _ _ _
      · exact Acts.refl _ _ _
    clear_value a5
    have ha6 : Acts 5423558 0 s a6 := by
      dsimp only [a6]
      refine Acts.trans ?_ (acts_putReq _ _ _ _) rfl rfl
      with_reducible assumption
    clear_value a6
    clear_value a7
    clear_value a8
    clear_value a9
    have ha10 : Acts 5423558 0 s a10 := by
      dsimp only [a10]
      refine Acts.ite (fun _ => ?_) (fun _ => ?_)
      · refine Acts.trans ?_ (acts_dramWrite _ _ _ _) rfl rfl
        exact Acts.refl _ _ _
      · exact Acts.refl _ _ _
    clear_value a10
    clear_value a11
    have ha12 : Acts 5423558 0 s a12 := by
      refine Acts.trans ?_ (Acts.set_l3_depvb _ _ _) rfl rfl
      with_reducible assumption
    clear_value a12
    refine Acts.ite (fun _ => ?_) (fun _ => ?_)
    · refine Acts.trans ?_ (Acts.set_trk _ _) rfl rfl
      with_reducible assumption
    · refine Acts.trans ?_ (acts_sendComp _ _ _ _ _ _ _) rfl rfl
      with_reducible assumption

theorem acts_wbArrive (s : State) (c : Nat) (line : Nat) :
    Acts 633825300114114700765536960966 0 s (State.wbArrive s c line) := by
  unfold State.wbArrive
  extract_lets a1
  clear_value a1
  split
  · exact Acts.refl _ _ _
  · refine Acts.ite (fun _ => ?_) (fun _ => ?_)
    · exact Acts.refl _ _ _
    · extract_lets a2
      split
      · refine Acts.ite (fun _ => ?_) (fun _ => ?_)
        · refine Acts.ite (fun _ => ?_) (fun _ => ?_)
          · exact Acts.refl _ _ _
          · refine Acts.trans ?_ (Acts.set_trk _ _) rfl rfl
            exact Acts.refl _ _ _
        · split
          · exact Acts.refl _ _ _
          · extract_lets a3 a4
            have ha3 : Acts 633825300114114700765536960966 0 s a3 := by
              dsimp only [a3]
              refine Acts.ite (fun _ => ?_) (fun _ => ?_)
              · refine Acts.trans ?_ (acts_sieveClear _ _ _) rfl rfl
                refine Acts.trans ?_ (acts_applyDirty_eq (by assumption)) rfl rfl
                exact Acts.refl _ _ _
              · refine Acts.trans ?_ (acts_applyDirty_eq (by assumption)) rfl rfl
                exact Acts.refl _ _ _
            clear_value a3
            have ha4 : Acts 633825300114114700765536960966 0 s a4 := by
              dsimp only [a4]
              dsimp only [a2]
              refine Acts.trans ?_ (acts_postMsg _ _ _ _ _ _ _ _) rfl rfl
              refine Acts.trans ?_ (acts_onCore _ _ _) rfl rfl
              with_reducible assumption
            clear_value a4
            split
            · refine Acts.ite (fun _ => ?_) (fun _ => ?_)
              · with_reducible assumption
              · refine Acts.trans ?_ (acts_finishCbo _ _ _ _) rfl rfl
                with_reducible assumption
            · with_reducible assumption
      · refine Acts.ite (fun _ => ?_) (fun _ => ?_)
        · dsimp only [a2]
          refine Acts.trans ?_ (acts_postMsg _ _ _ _ _ _ _ _) rfl rfl
          refine Acts.trans ?_ (acts_onCore _ _ _) rfl rfl
          exact Acts.refl _ _ _
        · split
          · dsimp only [a2]
            refine Acts.trans ?_ (acts_postMsg _ _ _ _ _ _ _ _) rfl rfl
            refine Acts.trans ?_ (acts_onCore _ _ _) rfl rfl
            refine Acts.ite (fun _ => ?_) (fun _ => ?_)
            · refine Acts.trans ?_ (acts_sieveClear _ _ _) rfl rfl
              refine Acts.trans ?_ (acts_applyDirty_eq (by assumption)) rfl rfl
              exact Acts.refl _ _ _
            · refine Acts.trans ?_ (acts_applyDirty_eq (by assumption)) rfl rfl
              exact Acts.refl _ _ _
          · refine Acts.trans ?_ (acts_count _ _ _ _ _) rfl rfl
            exact Acts.refl _ _ _

theorem acts_newDeadline (s : State) (node : Nat) (tag : Nat) :
    Acts 8388608 0 s (State.newDeadline s node tag) := by
  unfold State.newDeadline
  extract_lets a1 a2
  clear_value a1
  clear_value a2
  split
  · refine Acts.trans ?_ (Acts.set_txns _ _) rfl rfl
    exact Acts.refl _ _ _
  · exact Acts.refl _ _ _

theorem acts_execNakRetry (rq : Rq) (line : Nat) (s : State) :
    ActsR 13631552 0 s (execNakRetry rq line s) := by
  unfold execNakRetry
  refine ActsR.next ?_
  split
  · refine Acts.ite (fun _ => ?_) (fun _ => ?_)
    · exact Acts.refl _ _ _
    · refine Acts.trans ?_ (acts_postMsg _ _ _ _ _ _ _ _) rfl rfl
      refine Acts.trans ?_ (acts_newDeadline _ _ _) rfl rfl
      refine Acts.trans ?_ (acts_putReq _ _ _ _) rfl rfl
      exact Acts.refl _ _ _
  · exact Acts.refl _ _ _

theorem acts_agentSend (s : State) (rq : Rq) (line : Nat) (kind : ReqKind) (wr : Option LineData) :
    Acts 633825300114114700748499451968 0 s (State.agentSend s rq line kind wr) := by
  unfold State.agentSend
  split
  · exact Acts.refl _ _ _
  · refine Acts.ite (fun _ => ?_) (fun _ => ?_)
    · exact Acts.refl _ _ _
    · split
      · exact Acts.refl _ _ _
      · extract_lets a1 a2 a3 a4
        clear_value a1
        clear_value a2
        clear_value a3
        have ha4 : Acts 633825300114114700748499451968 0 s a4 := by
          dsimp only [a4]
          refine Acts.trans ?_ (acts_putReq _ _ _ _) rfl rfl
          refine Acts.trans ?_ (acts_takeTxn_eq (by assumption)) rfl rfl
          exact Acts.refl _ _ _
        clear_value a4
        refine Acts.ite (fun _ => ?_) (fun _ => ?_)
        · with_reducible assumption
        · refine Acts.trans ?_ (acts_postMsg _ _ _ _ _ _ _ _) rfl rfl
          with_reducible assumption

theorem acts_sievePut (s : State) (line : Nat) (mask : Nat) :
    Acts 633825300114114700748351799300 0 s (State.sievePut s line mask) := by
  unfold State.sievePut
  extract_lets a1 a2 a3 a4
  clear_value a1
  clear_value a3
  clear_value a4
  refine Acts.ite (fun _ => ?_) (fun _ => ?_)
  · dsimp only [a2]
    refine Acts.trans ?_ (Acts.set_stamp_sieve _ _ _) rfl rfl
    exact Acts.refl _ _ _
  · refine Acts.ite (fun _ => ?_) (fun _ => ?_)
    · dsimp only [a2]
      refine Acts.trans ?_ (Acts.set_stamp_sieve _ _ _) rfl rfl
      exact Acts.refl _ _ _
    · split
      · dsimp only [a2]
        refine Acts.trans ?_ (Acts.set_stamp_sieve _ _ _) rfl rfl
        exact Acts.refl _ _ _
      · dsimp only [a2]
        refine Acts.trans ?_ (Acts.set_stamp_sieve _ _ _) rfl rfl
        refine Acts.trans ?_ (acts_count _ _ _ _ _) rfl rfl
        refine Acts.trans ?_ (Acts.set_trk _ _) rfl rfl
        exact Acts.refl _ _ _

theorem acts_homeSupply (s : State) (line : Nat) (secure : Bool) (part : Nat) :
    Acts 633825300114114700748351652230 0 s (State.homeSupply s line secure part).2 := by
  unfold State.homeSupply
  extract_lets a1 a2
  clear_value a1
  have ha2 : Acts 633825300114114700748351652230 0 s a2 := by
    dsimp only [a2]
    refine Acts.trans ?_ (acts_count _ _ _ _ _) rfl rfl
    exact Acts.refl _ _ _
  clear_value a2
  refine Acts.ite2 (fun _ => ?_) (fun _ => ?_)
  · exact Acts.refl _ _ _
  · split
    · dsimp only
      refine Acts.trans ?_ (Acts.set_stamp_l3 _ _ _) rfl rfl
      exact Acts.refl _ _ _
    · dsimp only
      split
      · refine Acts.trans ?_ (acts_l3Alloc_eq (by assumption)) rfl rfl
        with_reducible assumption
      · with_reducible assumption
theorem acts_homeSupply_eq {s : State} {line : Nat} {secure : Bool} {part : Nat} {x} {t : State} (h : (State.homeSupply s line secure part) = (x, t)) : Acts 633825300114114700748351652230 0 s t := by
  have := acts_homeSupply s line secure part; rw [h] at this; exact this

theorem acts_completeReq (s : State) (line : Nat) (x : Slot) :
    Acts 633825300116420543770992558550 75557863725914323419584 s (State.completeReq s line x) := by
  unfold State.completeReq
  split
  · exact Acts.refl _ _ _
  · split
    · extract_lets a1
      have ha1 : Acts 633825300116420543770992558550 75557863725914323419584 s a1 := by
        refine Acts.trans ?_ (Acts.set_trk _ _) rfl rfl
        exact Acts.refl _ _ _
      clear_value a1
      refine Acts.ite (fun _ => ?_) (fun _ => ?_)
      · refine Acts.trans ?_ (acts_sievePut _ _ _) rfl rfl
        with_reducible assumption
      · with_reducible assumption
    · extract_lets a2 a3 a4 a5 a6 a7 a8 a9 a10 a11 a12 a13 a14 a15 a16 a17 a18
      clear_value a2
      clear_value a3
      clear_value a4
      clear_value a5
      clear_value a6
      clear_value a7
      clear_value a8
      have ha9 : Acts 633825300116420543770992558550 75557863725914323419584 s a9 := by
        dsimp only [a9]
        refine Acts.ite (fun _ => ?_) (fun _ => ?_)
        · split
          · refine Acts.foldl (L2 := 633825300116420543770992558550) (R2 := 75557863725914323419584) _ ?_ (fun t19 x20 => ?_) rfl rfl
            · exact Acts.refl _ _ _
            · refine Acts.trans ?_ (acts_onCore _ _ _) rfl rfl
              exact Acts.refl _ _ _
          · exact Acts.refl _ _ _
        · exact Acts.refl _ _ _
      clear_value a9
      clear_value a10
      clear_value (ea11 : a11 = _)
      have ha11 : Acts 633825300116420543770992558550 75557863725914323419584 s a11.2 := by
        rw [ea11]
        clear ea11
        refine Acts.ite2 (fun _ => ?_) (fun _ => ?_)
        · with_reducible assumption
        · refine Acts.trans ?_ (acts_homeSupply _ _ _ _) rfl rfl
          with_reducible assumption
      clear ea11
      clear_value a12
      clear_value a13
      clear_value a14
      clear_value a15
      clear_value a16
      have ha17 : Acts 633825300116420543770992558550 75557863725914323419584 s a17 := by
        dsimp only [a17]
        refine Acts.trans ?_ (acts_dropCopies _ _) rfl rfl
        with_reducible assumption
      clear_value a17
      have ha18 : Acts 633825300116420543770992558550 75557863725914323419584 s a18 := by
        dsimp only [a18]
        refine Acts.trans ?_ (acts_l3Put _ _ _) rfl rfl
        with_reducible assumption
      clear_value a18
      split
      · refine Acts.ite (fun _ => ?_) (fun _ => ?_)
        · refine Acts.trans ?_ (acts_sendComp _ _ _ _ _ _ _) rfl rfl
          refine Acts.trans ?_ (acts_sievePut _ _ _) rfl rfl
          with_reducible assumption
        · refine Acts.trans ?_ (acts_sendComp _ _ _ _ _ _ _) rfl rfl
          refine Acts.trans ?_ (acts_sievePut _ _ _) rfl rfl
          with_reducible assumption
      · refine Acts.ite (fun _ => ?_) (fun _ => ?_)
        · refine Acts.trans ?_ (acts_sendComp _ _ _ _ _ _ _) rfl rfl
          refine Acts.trans ?_ (acts_sievePut _ _ _) rfl rfl
          with_reducible assumption
        · refine Acts.ite (fun _ => ?_) (fun _ => ?_)
          · refine Acts.trans ?_ (acts_sendComp _ _ _ _ _ _ _) rfl rfl
            refine Acts.trans ?_ (acts_sievePut _ _ _) rfl rfl
            with_reducible assumption
          · refine Acts.trans ?_ (acts_sendComp _ _ _ _ _ _ _) rfl rfl
            refine Acts.trans ?_ (acts_sievePut _ _ _) rfl rfl
            with_reducible assumption
      · refine Acts.ite (fun _ => ?_) (fun _ => ?_)
        · refine Acts.trans ?_ (acts_sendComp _ _ _ _ _ _ _) rfl rfl
          refine Acts.trans ?_ (acts_sievePut _ _ _) rfl rfl
          with_reducible assumption
        · refine Acts.ite (fun _ => ?_) (fun _ => ?_)
          · refine Acts.trans ?_ (acts_sendComp _ _ _ _ _ _ _) rfl rfl
            refine Acts.trans ?_ (acts_sievePut _ _ _) rfl rfl
            with_reducible assumption
          · refine Acts.trans ?_ (acts_sendComp _ _ _ _ _ _ _) rfl rfl
            refine Acts.trans ?_ (acts_sievePut _ _ _) rfl rfl
            with_reducible assumption
      · refine Acts.trans ?_ (acts_sendComp _ _ _ _ _ _ _) rfl rfl
        refine Acts.trans ?_ (acts_sievePut _ _ _) rfl rfl
        with_reducible assumption
      · refine Acts.trans ?_ (acts_sendComp _ _ _ _ _ _ _) rfl rfl
        refine Acts.trans ?_ (acts_sievePut _ _ _) rfl rfl
        with_reducible assumption
      · refine Acts.trans ?_ (acts_finishCbo _ _ _ _) rfl rfl
        refine Acts.trans ?_ (acts_sievePut _ _ _) rfl rfl
        with_reducible assumption
      · refine Acts.trans ?_ (acts_finishCbo _ _ _ _) rfl rfl
        refine Acts.trans ?_ (acts_sievePut _ _ _) rfl rfl
        with_reducible assumption
      · refine Acts.trans ?_ (acts_sendComp _ _ _ _ _ _ _) rfl rfl
        with_reducible assumption

theorem acts_complete (s : State) (line : Nat) (x : Slot) :
    Acts 633825300116420543788172427734 75557863725914323419584 s (State.complete s line x) := by
  unfold State.complete
  extract_lets a1
  have ha1 : Acts 633825300116420543788172427734 75557863725914323419584 s a1 := by
    dsimp only [a1]
    refine Acts.trans ?_ (acts_completeReq _ _ _) rfl rfl
    exact Acts.refl _ _ _
  clear_value a1
  split
  · refine Acts.trans ?_ (acts_wbArrive _ _ _) rfl rfl
    with_reducible assumption
  · with_reducible assumption

theorem acts_nakReq (s : State) (rq : Rq) (line : Nat) :
    Acts 633825300114114700748357107776 0 s (State.nakReq s rq line) := by
  unfold State.nakReq
  split
  · exact Acts.refl _ _ _
  · extract_lets a1 a2 a3 a4 a5 a6
    clear_value a1
    clear_value a2
    have ha3 : Acts 633825300114114700748357107776 0 s a3 := by
      dsimp only [a3]
      refine Acts.ite (fun _ => ?_) (fun _ => ?_)
      · refine Acts.trans ?_ (Acts.set_fair _ _) rfl rfl
        exact Acts.refl _ _ _
      · exact Acts.refl _ _ _
    clear_value a3
    clear_value a4
    clear_value a5
    have ha6 : Acts 633825300114114700748357107776 0 s a6 := by
      dsimp only [a6]
      refine Acts.trans ?_ (acts_postMsg _ _ _ _ _ _ _ _) rfl rfl
      refine Acts.trans ?_ (acts_putReq _ _ _ _) rfl rfl
      with_reducible assumption
    clear_value a6
    refine Acts.trans ?_ (acts_count _ _ _ _ _) rfl rfl
    with_reducible assumption

theorem acts_takeMsg (s : State) (m : Msg) (rq : Rq) (line : Nat) :
    Acts 4194304 0 s (State.takeMsg s m rq line) := by
  unfold State.takeMsg
  refine Acts.trans ?_ (acts_take _ _ _ _) rfl rfl
  exact Acts.refl _ _ _

theorem acts_accept (s : State) (rq : Rq) (line : Nat) (kind : ReqKind) :
    Acts 633825300116420543788175311318 75557863725914323419584 s (State.accept s rq line kind) := by
  unfold State.accept
  split
  · extract_lets a1 a2
    clear_value a1
    have ha2 : Acts 633825300116420543788175311318 75557863725914323419584 s a2 := by
      dsimp only [a2]
      refine Acts.trans ?_ (acts_takeMsg _ _ _ _) rfl rfl
      exact Acts.refl _ _ _
    clear_value a2
    refine Acts.ite (fun _ => ?_) (fun _ => ?_)
    · refine Acts.trans ?_ (acts_count _ _ _ _ _) rfl rfl
      refine Acts.trans ?_ (Acts.set_ghosts _ _) rfl rfl
      with_reducible assumption
    · exact Acts.refl _ _ _
  · extract_lets a3 a4 a5 a6 a7
    clear_value a3
    clear_value a4
    have ha5 : Acts 633825300116420543788175311318 75557863725914323419584 s a5 := by
      dsimp only [a5]
      refine Acts.trans ?_ (acts_takeMsg _ _ _ _) rfl rfl
      exact Acts.refl _ _ _
    clear_value a5
    have ha6 : Acts 633825300116420543788175311318 75557863725914323419584 s a6 := by
      refine Acts.trans ?_ (Acts.set_trk_fair _ _ _) rfl rfl
      with_reducible assumption
    clear_value a6
    have ha7 : Acts 633825300116420543788175311318 75557863725914323419584 s a7 := by
      dsimp only [a7]
      refine Acts.trans ?_ (acts_count _ _ _ _ _) rfl rfl
      refine Acts.trans ?_ (acts_putReq _ _ _ _) rfl rfl
      with_reducible assumption
    clear_value a7
    refine Acts.ite (fun _ => ?_) (fun _ => ?_)
    · exact Acts.refl _ _ _
    · refine Acts.ite (fun _ => ?_) (fun _ => ?_)
      · refine Acts.trans ?_ (acts_nakReq _ _ _) rfl rfl
        refine Acts.trans ?_ (acts_takeMsg _ _ _ _) rfl rfl
        exact Acts.refl _ _ _
      · refine Acts.ite (fun _ => ?_) (fun _ => ?_)
        · refine Acts.trans ?_ (acts_nakReq _ _ _) rfl rfl
          refine Acts.trans ?_ (acts_takeMsg _ _ _ _) rfl rfl
          exact Acts.refl _ _ _
        · refine Acts.ite (fun _ => ?_) (fun _ => ?_)
          · exact Acts.refl _ _ _
          · refine Acts.ite (fun _ => ?_) (fun _ => ?_)
            · refine Acts.trans ?_ (acts_complete _ _ _) rfl rfl
              refine Acts.trans ?_ (acts_count _ _ _ _ _) rfl rfl
              with_reducible assumption
            · refine Acts.trans ?_ (acts_fillSlot _ _) rfl rfl
              with_reducible assumption

theorem acts_execRdOnce (pos : Nat) (line : Nat) (s : State) :
    ActsR 633825300116420543788317917654 75557863725914323419584 s (execRdOnce pos line s) := by
  unfold execRdOnce
  refine ActsR.next ?_
  refine Acts.trans ?_ (acts_accept _ _ _ _) rfl rfl
  refine Acts.trans ?_ (acts_agentSend _ _ _ _ _) rfl rfl
  exact Acts.refl _ _ _

theorem acts_supply (s : State) (c : Nat) (line : Nat) (d : LineData) :
    Acts 5242944 0 s (State.supply s c line d) := by
  unfold State.supply
  split
  · split
    · refine Acts.trans ?_ (acts_postMsg _ _ _ _ _ _ _ _) rfl rfl
      refine Acts.trans ?_ (acts_putReq _ _ _ _) rfl rfl
      exact Acts.refl _ _ _
    · exact Acts.refl _ _ _
  · exact Acts.refl _ _ _

theorem acts_snoopCore (s : State) (c : Nat) (x : Slot) :
    Acts 3327582825601408021942896689232 649037107392411317292226364571840 s (State.snoopCore s c x).1 := by
  unfold State.snoopCore
  extract_lets a1 a2 a3 a4 a5 a6 a7 a8 a9 a10 a11 a12
  clear_value a1
  clear_value a2
  clear_value a3
  clear_value a4
  clear_value a5
  have ha6 : Acts 3327582825601408021942896689232 649037107392411317292226364571840 s a6 := by
    dsimp only [a6]
    refine Acts.ite (fun _ => ?_) (fun _ => ?_)
    · refine Acts.trans ?_ (acts_trace _ _ _ _ _) rfl rfl
      refine Acts.trans ?_ (acts_abortGroup _ _ _ _ _) rfl rfl
      exact Acts.refl _ _ _
    · exact Acts.refl _ _ _
  clear_value a6
  clear_value a7
  clear_value a8
  clear_value a9
  clear_value a10
  clear_value a11
  clear_value a12
  split
  · exact Acts.refl _ _ _
  · split
    · dsimp only
      refine Acts.trans ?_ (acts_count _ _ _ _ _) rfl rfl
      exact Acts.refl _ _ _
    · split
      · split
        · with_reducible assumption
        · with_reducible assumption
        · dsimp only
          refine Acts.trans ?_ (acts_onCore _ _ _) rfl rfl
          with_reducible assumption
        · extract_lets a13
          have ha13 : Acts 3327582825601408021942896689232 649037107392411317292226364571840 s a13 := by
            dsimp only [a13]
            refine Acts.trans ?_ (acts_onCore _ _ _) rfl rfl
            refine Acts.trans ?_ (acts_supply _ _ _ _) rfl rfl
            with_reducible assumption
          clear_value a13
          with_reducible assumption
        · dsimp only
          refine Acts.trans ?_ (acts_supply _ _ _ _) rfl rfl
          with_reducible assumption
        · dsimp only
          refine Acts.trans ?_ (acts_onCore _ _ _) rfl rfl
          with_reducible assumption
        · extract_lets a14
          have ha14 : Acts 3327582825601408021942896689232 649037107392411317292226364571840 s a14 := by
            dsimp only [a14]
            refine Acts.trans ?_ (acts_onCore _ _ _) rfl rfl
            with_reducible assumption
          clear_value a14
          dsimp only
          refine Acts.trans ?_ (acts_postMsg _ _ _ _ _ _ _ _) rfl rfl
          with_reducible assumption
        · extract_lets a15
          have ha15 : Acts 3327582825601408021942896689232 649037107392411317292226364571840 s a15 := by
            dsimp only [a15]
            refine Acts.ite (fun _ => ?_) (fun _ => ?_)
            · refine Acts.trans ?_ (acts_supply _ _ _ _) rfl rfl
              with_reducible assumption
            · with_reducible assumption
          clear_value a15
          dsimp only
          refine Acts.trans ?_ (acts_onCore _ _ _) rfl rfl
          with_reducible assumption
      · split
        · split
          · with_reducible assumption
          · split
            · extract_lets a16
              have ha16 : Acts 3327582825601408021942896689232 649037107392411317292226364571840 s a16 := by
                dsimp only [a16]
                refine Acts.trans ?_ (acts_onCore _ _ _) rfl rfl
                refine Acts.trans ?_ (acts_supply _ _ _ _) rfl rfl
                with_reducible assumption
              clear_value a16
              with_reducible assumption
            · with_reducible assumption
        · with_reducible assumption
theorem acts_snoopCore_eq {s : State} {c : Nat} {x : Slot} {x} {t : State} (h : (State.snoopCore s c x) = (t, x)) : Acts 3327582825601408021942896689232 649037107392411317292226364571840 s t := by
  have := acts_snoopCore s c x; rw [h] at this; exact this

theorem acts_snoopStop (s : State) (n : Nat) (pos : Nat) :
    Acts 3327582825601408021942897213520 649037107392411317292226364571840 s (State.snoopStop s n pos) := by
  unfold State.snoopStop
  extract_lets a1 a2 a3 a4 a5
  clear_value a1
  clear_value a2
  clear_value a3
  clear_value (ea4 : a4 = _)
  have ha4 : Acts 3327582825601408021942897213520 649037107392411317292226364571840 s a4.1 := by
    rw [ea4]
    clear ea4
    split
    · exact Acts.refl _ _ _
    · refine Acts.foldl1 (L2 := 3327582825601408021942897213520) (R2 := 649037107392411317292226364571840) _ ?_ (fun t6 x7 => ?_) rfl rfl
      · exact Acts.refl _ _ _
      · split
        · exact Acts.refl _ _ _
        · refine Acts.trans ?_ (acts_snoopCore _ _ _) rfl rfl
          exact Acts.refl _ _ _
  clear ea4
  have ha5 : Acts 3327582825601408021942897213520 649037107392411317292226364571840 s a5 := by
    dsimp only [a5]
    with_reducible assumption
  clear_value a5
  refine Acts.ite (fun _ => ?_) (fun _ => ?_)
  · exact Acts.refl _ _ _
  · refine Acts.trans ?_ (Acts.set_slots _ _) rfl rfl
    with_reducible assumption

theorem acts_heldBack (s : State) (line : Nat) (t : Trk) (x : Slot) :
    Acts 633825300114114700765537223110 0 s (State.heldBack s line t x) := by
  unfold State.heldBack
  extract_lets a1
  have ha1 : Acts 633825300114114700765537223110 0 s a1 := by
    dsimp only [a1]
    refine Acts.trans ?_ (acts_sievePut _ _ _) rfl rfl
    exact Acts.refl _ _ _
  clear_value a1
  split
  · refine Acts.trans ?_ (Acts.set_trk _ _) rfl rfl
    with_reducible assumption
  · extract_lets a2
    have ha2 : Acts 633825300114114700765537223110 0 s a2 := by
      dsimp only [a2]
      refine Acts.trans ?_ (acts_nakReq _ _ _) rfl rfl
      refine Acts.trans ?_ (Acts.set_trk _ _) rfl rfl
      with_reducible assumption
    clear_value a2
    split
    · refine Acts.trans ?_ (acts_wbArrive _ _ _) rfl rfl
      with_reducible assumption
    · with_reducible assumption

theorem acts_offerSlots (s : State) (ring : Nat) (except : Option Nat) :
    Acts 633825300114114700748352258048 0 s (State.offerSlots s ring except) := by
  unfold State.offerSlots
  extract_lets a1
  clear_value a1
  refine Acts.foldl (L2 := 633825300114114700748352258048) (R2 := 0) _ ?_ (fun t2 x3 => ?_) rfl rfl
  · exact Acts.refl _ _ _
  · refine Acts.trans ?_ (acts_fillSlot _ _) rfl rfl
    exact Acts.refl _ _ _

theorem acts_execCombinedResponse (ring : Nat) (slot : Nat) (s : State) :
    ActsR 3327582825601408021968667525590 649037107392411317292226364572096 s (execCombinedResponse ring slot s) := by
  unfold execCombinedResponse
  extract_lets a1 a2 a3 a4 a5 a6
  clear_value a1
  have ha2 : Acts 3327582825601408021968667525590 649037107392411317292226364572096 s a2 := by
    dsimp only [a2]
    refine Acts.foldl (L2 := 3327582825601408021968667525590) (R2 := 649037107392411317292226364572096) _ ?_ (fun t7 x8 => ?_) rfl rfl
    · exact Acts.refl _ _ _
    · refine Acts.trans ?_ (acts_snoopStop _ _ _) rfl rfl
      exact Acts.refl _ _ _
  clear_value a2
  clear_value a3
  clear_value a4
  have ha5 : Acts 3327582825601408021968667525590 649037107392411317292226364572096 s a5 := by
    refine Acts.trans ?_ (Acts.set_slots _ _) rfl rfl
    with_reducible assumption
  clear_value a5
  have ha6 : Acts 3327582825601408021968667525590 649037107392411317292226364572096 s a6 := by
    dsimp only [a6]
    split
    · with_reducible assumption
    · refine Acts.ite (fun _ => ?_) (fun _ => ?_)
      · refine Acts.trans ?_ (acts_heldBack _ _ _ _) rfl rfl
        with_reducible assumption
      · refine Acts.ite (fun _ => ?_) (fun _ => ?_)
        · refine Acts.trans ?_ (Acts.set_trk _ _) rfl rfl
          refine Acts.trans ?_ (acts_sievePut _ _ _) rfl rfl
          with_reducible assumption
        · refine Acts.trans ?_ (acts_complete _ _ _) rfl rfl
          with_reducible assumption
  clear_value a6
  refine ActsR.next ?_
  refine Acts.ite (fun _ => ?_) (fun _ => ?_)
  · exact Acts.refl _ _ _
  · refine Acts.trans ?_ (acts_offerSlots _ _ _) rfl rfl
    with_reducible assumption

theorem acts_snoopTyp (s : State) (typ : Snp) (ring : Nat) (slot : Nat) (pos : Nat) :
    Acts 3327582825601408021942897344592 649037107392411317292226364571840 s (State.snoopTyp s typ ring slot pos) := by
  unfold State.snoopTyp
  refine Acts.ite (fun _ => ?_) (fun _ => ?_)
  · refine Acts.trans ?_ (acts_offerSlots _ _ _) rfl rfl
    refine Acts.trans ?_ (acts_snoopStop _ _ _) rfl rfl
    exact Acts.refl _ _ _
  · exact Acts.refl _ _ _

theorem acts_execSnpShared (ring : Nat) (slot : Nat) (pos : Nat) (s : State) :
    ActsR 3327582825601408021942897344592 649037107392411317292226364571840 s (execSnpShared ring slot pos s) := by
  unfold execSnpShared
  refine ActsR.next ?_
  refine Acts.trans ?_ (acts_snoopTyp _ _ _ _ _) rfl rfl
  exact Acts.refl _ _ _

theorem acts_execSnpOnce (ring : Nat) (slot : Nat) (pos : Nat) (s : State) :
    ActsR 3327582825601408021942897344592 649037107392411317292226364571840 s (execSnpOnce ring slot pos s) := by
  unfold execSnpOnce
  refine ActsR.next ?_
  refine Acts.trans ?_ (acts_snoopTyp _ _ _ _ _) rfl rfl
  exact Acts.refl _ _ _

theorem acts_evictL2 (s : State) (c : Nat) (line : Nat) :
    Acts 4194368 0 s (State.evictL2 s c line) := by
  unfold State.evictL2
  extract_lets a1 a2 a3
  clear_value a1
  clear_value a2
  clear_value a3
  split
  · exact Acts.refl _ _ _
  · extract_lets a4
    clear_value a4
    refine Acts.trans ?_ (acts_postMsg _ _ _ _ _ _ _ _) rfl rfl
    refine Acts.trans ?_ (acts_setCore _ _ _) rfl rfl
    exact Acts.refl _ _ _

theorem acts_fillL2 (s : State) (c : Nat) (line : Nat) (l : L2Line) (forStore : Bool) :
    Acts 3327582825601408021942895640658 649037107392411317292226364571840 s (State.fillL2 s c line l forStore) := by
  unfold State.fillL2
  extract_lets a1 a2 a3 a4 a5 a6
  clear_value a2
  clear_value a3
  clear_value a4
  clear_value a5
  have ha6 : Acts 3327582825601408021942895640658 649037107392411317292226364571840 s a6 := by
    dsimp only [a6]
    refine Acts.trans ?_ (acts_trace _ _ _ _ _) rfl rfl
    refine Acts.trans ?_ (acts_abortGroup _ _ _ _ _) rfl rfl
    exact Acts.refl _ _ _
  clear_value a6
  refine Acts.ite (fun _ => ?_) (fun _ => ?_)
  · dsimp only [a1]
    refine Acts.trans ?_ (acts_fillL1 _ _ _) rfl rfl
    refine Acts.trans ?_ (acts_onCore _ _ _) rfl rfl
    exact Acts.refl _ _ _
  · refine Acts.ite (fun _ => ?_) (fun _ => ?_)
    · dsimp only [a1]
      refine Acts.trans ?_ (acts_fillL1 _ _ _) rfl rfl
      refine Acts.trans ?_ (acts_onCore _ _ _) rfl rfl
      exact Acts.refl _ _ _
    · split
      · dsimp only [a1]
        refine Acts.trans ?_ (acts_fillL1 _ _ _) rfl rfl
        refine Acts.trans ?_ (acts_onCore _ _ _) rfl rfl
        refine Acts.trans ?_ (acts_evictL2 _ _ _) rfl rfl
        refine Acts.trans ?_ (acts_drawn _) rfl rfl
        exact Acts.refl _ _ _
      · dsimp only [a1]
        refine Acts.trans ?_ (acts_fillL1 _ _ _) rfl rfl
        refine Acts.trans ?_ (acts_onCore _ _ _) rfl rfl
        refine Acts.trans ?_ (acts_evictL2 _ _ _) rfl rfl
        refine Acts.trans ?_ (acts_drawn _) rfl rfl
        with_reducible assumption

theorem acts_failReq (s : State) (c : Nat) (line : Nat) (status : Nat) (r : Req) :
    Acts 3327582825841215694909705667030 649274791879954110305006996423104 s (State.failReq s c line status r) := by
  unfold State.failReq
  extract_lets a1 a2 a3 a4
  clear_value a1
  clear_value a2
  clear_value a3
  have ha4 : Acts 3327582825841215694909705667030 649274791879954110305006996423104 s a4 := by
    dsimp only [a4]
    refine Acts.trans ?_ (acts_onCore _ _ _) rfl rfl
    exact Acts.refl _ _ _
  clear_value a4
  refine Acts.ite (fun _ => ?_) (fun _ => ?_)
  · exact Acts.refl _ _ _
  · refine Acts.ite (fun _ => ?_) (fun _ => ?_)
    · refine Acts.trans ?_ (acts_trace _ _ _ _ _) rfl rfl
      refine Acts.trans ?_ (acts_abortGroup _ _ _ _ _) rfl rfl
      exact Acts.refl _ _ _
    · refine Acts.ite (fun _ => ?_) (fun _ => ?_)
      · refine Acts.trans ?_ (acts_onCore _ _ _) rfl rfl
        exact Acts.refl _ _ _
      · refine Acts.foldl (L2 := 3327582825841215694909705667030) (R2 := 649274791879954110305006996423104) _ ?_ (fun t5 x6 => ?_) rfl rfl
        · with_reducible assumption
        · refine Acts.trans ?_ (acts_reportStore _ _ _ _) rfl rfl
          exact Acts.refl _ _ _

theorem acts_finishReq (s : State) (rq : Rq) (line : Nat) :
    Acts 3327582825841215694926899167702 649274791879954110305006996423104 s (State.finishReq s rq line) := by
  unfold State.finishReq
  split
  · exact Acts.refl _ _ _
  · refine Acts.ite (fun _ => ?_) (fun _ => ?_)
    · exact Acts.refl _ _ _
    · extract_lets a1 a2
      have ha1 : Acts 3327582825841215694926899167702 649274791879954110305006996423104 s a1 := by
        dsimp only [a1]
        refine Acts.trans ?_ (acts_freeTxn _ _ _) rfl rfl
        refine Acts.trans ?_ (acts_putReq _ _ _ _) rfl rfl
        exact Acts.refl _ _ _
      clear_value a1
      clear_value a2
      split
      · split
        · refine Acts.trans ?_ (acts_l3Put _ _ _) rfl rfl
          refine Acts.trans ?_ (acts_learnTag _ _ _) rfl rfl
          with_reducible assumption
        · with_reducible assumption
      · refine Acts.ite (fun _ => ?_) (fun _ => ?_)
        · refine Acts.trans ?_ (acts_failReq _ _ _ _ _) rfl rfl
          with_reducible assumption
        · split
          · refine Acts.trans ?_ (acts_onCore _ _ _) rfl rfl
            with_reducible assumption
          · refine Acts.trans ?_ (acts_onCore _ _ _) rfl rfl
            with_reducible assumption
          · with_reducible assumption
          · extract_lets a3
            clear_value a3
            refine Acts.trans ?_ (acts_ownReqs _ _) rfl rfl
            refine Acts.trans ?_ (acts_fillL2 _ _ _ _ _) rfl rfl
            refine Acts.trans ?_ (acts_learnTag _ _ _) rfl rfl
            with_reducible assumption
          · with_reducible assumption

theorem acts_execUpgrade (c : Nat) (line : Nat) (s : State) :
    ActsR 633825300116420543788175311318 75557863725914323419584 s (execUpgrade c line s) := by
  unfold execUpgrade
  refine ActsR.next ?_
  refine Acts.trans ?_ (acts_accept _ _ _ _) rfl rfl
  exact Acts.refl _ _ _

theorem acts_execSnpOwn (ring : Nat) (slot : Nat) (pos : Nat) (s : State) :
    ActsR 3327582825601408021942897344592 649037107392411317292226364571840 s (execSnpOwn ring slot pos s) := by
  unfold execSnpOwn
  refine ActsR.next ?_
  refine Acts.trans ?_ (acts_snoopTyp _ _ _ _ _) rfl rfl
  exact Acts.refl _ _ _

theorem acts_execSnpInv (ring : Nat) (slot : Nat) (pos : Nat) (s : State) :
    ActsR 3327582825601408021942897344592 649037107392411317292226364571840 s (execSnpInv ring slot pos s) := by
  unfold execSnpInv
  refine ActsR.next ?_
  refine Acts.trans ?_ (acts_snoopTyp _ _ _ _ _) rfl rfl
  exact Acts.refl _ _ _

theorem acts_execComp (rq : Rq) (line : Nat) (s : State) :
    ActsR 3327582825841215694926899167702 649274791879954110305006996423104 s (execComp rq line s) := by
  unfold execComp
  refine ActsR.next ?_
  split
  · refine Acts.ite (fun _ => ?_) (fun _ => ?_)
    · refine Acts.trans ?_ (acts_finishReq _ _ _) rfl rfl
      refine Acts.trans ?_ (acts_putReq _ _ _ _) rfl rfl
      refine Acts.trans ?_ (acts_takeMsg _ _ _ _) rfl rfl
      exact Acts.refl _ _ _
    · exact Acts.refl _ _ _
  · exact Acts.refl _ _ _

theorem acts_execSnoopSlotReservation (line : Nat) (ring : Nat) (slot : Nat) (s : State) :
    ActsR 633825300114114700748352258048 0 s (execSnoopSlotReservation line ring slot s) := by
  unfold execSnoopSlotReservation
  extract_lets a1 a2 a3
  clear_value a1
  have ha2 : Acts 633825300114114700748352258048 0 s a2 := by
    dsimp only [a2]
    refine Acts.trans ?_ (acts_fillSlot _ _) rfl rfl
    exact Acts.refl _ _ _
  clear_value a2
  clear_value a3
  refine ActsR.next ?_
  split
  · refine Acts.ite (fun _ => ?_) (fun _ => ?_)
    · refine Acts.trans ?_ (Acts.set_slots _ _) rfl rfl
      with_reducible assumption
    · with_reducible assumption
  · with_reducible assumption

theorem acts_execData (rq : Rq) (line : Nat) (s : State) :
    ActsR 3327582825841215694926899167702 649274791879954110305006996423104 s (execData rq line s) := by
  unfold execData
  refine ActsR.next ?_
  split
  · refine Acts.ite (fun _ => ?_) (fun _ => ?_)
    · refine Acts.trans ?_ (acts_finishReq _ _ _) rfl rfl
      refine Acts.trans ?_ (acts_putReq _ _ _ _) rfl rfl
      refine Acts.trans ?_ (acts_takeMsg _ _ _ _) rfl rfl
      exact Acts.refl _ _ _
    · exact Acts.refl _ _ _
  · exact Acts.refl _ _ _

theorem acts_wbFree (s : State) (c : Nat) (line : Nat) (acked : Nat) (dirty : Bool) :
    Acts 4194368 0 s (State.wbFree s c line acked dirty) := by
  unfold State.wbFree
  split
  · extract_lets a1
    clear_value a1
    refine Acts.ite (fun _ => ?_) (fun _ => ?_)
    · refine Acts.trans ?_ (acts_onCore _ _ _) rfl rfl
      refine Acts.trans ?_ (acts_takeMsg _ _ _ _) rfl rfl
      exact Acts.refl _ _ _
    · exact Acts.refl _ _ _
  · exact Acts.refl _ _ _

theorem acts_execWbAckDiscarded (c : Nat) (line : Nat) (s : State) :
    ActsR 4194368 0 s (execWbAckDiscarded c line s) := by
  unfold execWbAckDiscarded
  refine ActsR.next ?_
  refine Acts.trans ?_ (acts_wbFree _ _ _ _ _) rfl rfl
  exact Acts.refl _ _ _

theorem acts_execRdShared (c : Nat) (line : Nat) (s : State) :
    ActsR 633825300116420543788175311318 75557863725914323419584 s (execRdShared c line s) := by
  unfold execRdShared
  refine ActsR.next ?_
  refine Acts.trans ?_ (acts_accept _ _ _ _) rfl rfl
  exact Acts.refl _ _ _

theorem acts_execAmoHome (c : Nat) (line : Nat) (s : State) :
    ActsR 633825300356228216729225249238 237684563100656738694955270592 s (execAmoHome c line s) := by
  unfold execAmoHome
  extract_lets a1 a2 a3
  clear_value a1
  clear_value a2
  clear_value a3
  refine ActsR.next ?_
  split
  · refine Acts.ite (fun _ => ?_) (fun _ => ?_)
    · exact Acts.refl _ _ _
    · refine Acts.ite (fun _ => ?_) (fun _ => ?_)
      · refine Acts.trans ?_ (acts_nakReq _ _ _) rfl rfl
        refine Acts.trans ?_ (acts_takeMsg _ _ _ _) rfl rfl
        exact Acts.refl _ _ _
      · refine Acts.ite (fun _ => ?_) (fun _ => ?_)
        · refine Acts.trans ?_ (acts_nakReq _ _ _) rfl rfl
          refine Acts.trans ?_ (acts_takeMsg _ _ _ _) rfl rfl
          exact Acts.refl _ _ _
        · refine Acts.ite (fun _ => ?_) (fun _ => ?_)
          · exact Acts.refl _ _ _
          · extract_lets a4 a5 a6 a7 a8 a9
            clear_value a4
            have ha5 : Acts 633825300356228216729225249238 237684563100656738694955270592 s a5 := by
              dsimp only [a5]
              refine Acts.trans ?_ (acts_count _ _ _ _ _) rfl rfl
              refine Acts.trans ?_ (acts_takeMsg _ _ _ _) rfl rfl
              exact Acts.refl _ _ _
            clear_value a5
            have ha6 : Acts 633825300356228216729225249238 237684563100656738694955270592 s a6 := by
              dsimp only [a6]
              refine Acts.trans ?_ (acts_freeTxn _ _ _) rfl rfl
              refine Acts.trans ?_ (acts_putReq _ _ _ _) rfl rfl
              with_reducible assumption
            clear_value a6
            have ha7 : Acts 633825300356228216729225249238 237684563100656738694955270592 s a7 := by
              refine Acts.trans ?_ (Acts.set_fair _ _) rfl rfl
              with_reducible assumption
            clear_value a7
            have ha8 : Acts 633825300356228216729225249238 237684563100656738694955270592 s a8 := by
              dsimp only [a8]
              refine Acts.ite (fun _ => ?_) (fun _ => ?_)
              · refine Acts.trans ?_ (acts_depRecord _ _ _) rfl rfl
                refine Acts.trans ?_ (acts_agentWriteBytes _ _ _ _) rfl rfl
                with_reducible assumption
              · with_reducible assumption
            clear_value a8
            have ha9 : Acts 633825300356228216729225249238 237684563100656738694955270592 s a9 := by
              dsimp only [a9]
              refine Acts.ite (fun _ => ?_) (fun _ => ?_)
              · refine Acts.trans ?_ (acts_logErr _ _ _ _ _ _) rfl rfl
                with_reducible assumption
              · with_reducible assumption
            clear_value a9
            refine Acts.trans ?_ (acts_onCore _ _ _) rfl rfl
            with_reducible assumption
  · exact Acts.refl _ _ _

theorem acts_execRdOwn (rq : Rq) (line : Nat) (s : State) :
    ActsR 633825300116420543788317917654 75557863725914323419584 s (execRdOwn rq line s) := by
  unfold execRdOwn
  refine ActsR.next ?_
  refine Acts.trans ?_ (acts_accept _ _ _ _) rfl rfl
  refine Acts.trans ?_ (acts_agentSend _ _ _ _ _) rfl rfl
  exact Acts.refl _ _ _

theorem acts_execWrLine (pos : Nat) (line : Nat) (data : BitVec 512) (s : State) :
    ActsR 633825300116420543788317917654 75557863725914323419584 s (execWrLine pos line data s) := by
  unfold execWrLine
  refine ActsR.next ?_
  refine Acts.trans ?_ (acts_accept _ _ _ _) rfl rfl
  refine Acts.trans ?_ (acts_agentSend _ _ _ _ _) rfl rfl
  exact Acts.refl _ _ _

theorem acts_execNak (rq : Rq) (line : Nat) (s : State) :
    ActsR 633825300114114700748356845634 0 s (execNak rq line s) := by
  unfold execNak
  refine ActsR.next ?_
  split
  · refine Acts.ite (fun _ => ?_) (fun _ => ?_)
    · exact Acts.refl _ _ _
    · extract_lets a1 a2 a3 a4 a5
      clear_value a1
      clear_value a2
      clear_value a3
      have ha4 : Acts 633825300114114700748356845634 0 s a4 := by
        dsimp only [a4]
        refine Acts.trans ?_ (acts_takeMsg _ _ _ _) rfl rfl
        exact Acts.refl _ _ _
      clear_value a4
      have ha5 : Acts 633825300114114700748356845634 0 s a5 := by
        dsimp only [a5]
        refine Acts.trans ?_ (acts_putReq _ _ _ _) rfl rfl
        refine Acts.ite (fun _ => ?_) (fun _ => ?_)
        · with_reducible assumption
        · refine Acts.trans ?_ (acts_drawn _) rfl rfl
          with_reducible assumption
      clear_value a5
      split
      · refine Acts.trans ?_ (acts_count _ _ _ _ _) rfl rfl
        with_reducible assumption
      · with_reducible assumption
  · exact Acts.refl _ _ _

theorem acts_execEvictClean (c : Nat) (line : Nat) (s : State) :
    ActsR 4259904 0 s (execEvictClean c line s) := by
  unfold execEvictClean
  extract_lets a1 a2
  clear_value a1
  have ha2 : Acts 4259904 0 s a2 := by
    dsimp only [a2]
    refine Acts.trans ?_ (acts_takeMsg _ _ _ _) rfl rfl
    exact Acts.refl _ _ _
  clear_value a2
  refine ActsR.next ?_
  split
  · refine Acts.ite (fun _ => ?_) (fun _ => ?_)
    · exact Acts.refl _ _ _
    · extract_lets a3
      have ha3 : Acts 4259904 0 s a3 := by
        dsimp only [a3]
        refine Acts.ite (fun _ => ?_) (fun _ => ?_)
        · refine Acts.trans ?_ (acts_sieveClear _ _ _) rfl rfl
          with_reducible assumption
        · with_reducible assumption
      clear_value a3
      refine Acts.trans ?_ (acts_postMsg _ _ _ _ _ _ _ _) rfl rfl
      refine Acts.trans ?_ (acts_onCore _ _ _) rfl rfl
      with_reducible assumption
  · exact Acts.refl _ _ _

theorem acts_execWbAck (c : Nat) (line : Nat) (s : State) :
    ActsR 4194368 0 s (execWbAck c line s) := by
  unfold execWbAck
  refine ActsR.next ?_
  refine Acts.trans ?_ (acts_wbFree _ _ _ _ _) rfl rfl
  exact Acts.refl _ _ _

theorem acts_execDeferRsp (line : Nat) (s : State) :
    ActsR 3327582825601408021968667001302 649037107392411317292226364572096 s (execDeferRsp line s) := by
  unfold execDeferRsp
  refine ActsR.next ?_
  split
  · refine Acts.ite (fun _ => ?_) (fun _ => ?_)
    · exact Acts.refl _ _ _
    · extract_lets a1 a2 a3
      clear_value a1
      clear_value a2
      clear_value (ea3 : a3 = _)
      have ha3 : Acts 3327582825601408021968667001302 649037107392411317292226364572096 s a3.1 := by
        rw [ea3]
        clear ea3
        split
        · exact Acts.refl _ _ _
        · refine Acts.foldl1 (L2 := 3327582825601408021968667001302) (R2 := 649037107392411317292226364572096) _ ?_ (fun t4 x5 => ?_) rfl rfl
          · exact Acts.refl _ _ _
          · split
            · exact Acts.refl _ _ _
            · refine Acts.trans ?_ (acts_snoopCore _ _ _) rfl rfl
              exact Acts.refl _ _ _
      clear ea3
      refine Acts.ite (fun _ => ?_) (fun _ => ?_)
      · refine Acts.trans ?_ (acts_heldBack _ _ _ _) rfl rfl
        with_reducible assumption
      · refine Acts.trans ?_ (acts_complete _ _ _) rfl rfl
        with_reducible assumption
  · exact Acts.refl _ _ _

theorem acts_execEvictAck (c : Nat) (line : Nat) (s : State) :
    ActsR 4194368 0 s (execEvictAck c line s) := by
  unfold execEvictAck
  refine ActsR.next ?_
  refine Acts.trans ?_ (acts_wbFree _ _ _ _ _) rfl rfl
  exact Acts.refl _ _ _

theorem acts_execFairnessReservationDrop (line : Nat) (s : State) :
    ActsR 262144 0 s (execFairnessReservationDrop line s) := by
  unfold execFairnessReservationDrop
  refine ActsR.next ?_
  refine Acts.trans ?_ (Acts.set_fair _ _) rfl rfl
  exact Acts.refl _ _ _

theorem acts_execCboFlushRequest (c : Nat) (line : Nat) (s : State) :
    ActsR 633825300116420543788175311318 75557863725914323419584 s (execCboFlushRequest c line s) := by
  unfold execCboFlushRequest
  refine ActsR.next ?_
  refine Acts.trans ?_ (acts_accept _ _ _ _) rfl rfl
  refine Acts.trans ?_ (acts_accept _ _ _ _) rfl rfl
  exact Acts.refl _ _ _

theorem acts_execWbDirty (c : Nat) (line : Nat) (s : State) :
    ActsR 633825300114114700765536960966 0 s (execWbDirty c line s) := by
  unfold execWbDirty
  refine ActsR.next ?_
  refine Acts.ite (fun _ => ?_) (fun _ => ?_)
  · refine Acts.trans ?_ (acts_wbArrive _ _ _) rfl rfl
    refine Acts.trans ?_ (acts_takeMsg _ _ _ _) rfl rfl
    exact Acts.refl _ _ _
  · exact Acts.refl _ _ _

end Sys2Proof.Machine
end

