-- ==== Sys2Proof/Laws/MeshActs.lean ====
section
/-! SUPPORT. What each operation and each command of Mesh.lean may touch: `acts_<name>` bounds the fields and the registers that
`<name>` can change (see Acts.lean). -/

namespace Sys2Proof.Machine

open Sys2Proof

theorem acts_lidClose (s : State) (node : Nat) (sec : Nat) :
    Acts 16 32 s (State.lidClose s node sec) := by
  unfold State.lidClose
  refine Acts.ite (fun _ => ?_) (fun _ => ?_)
  · refine Acts.trans ?_ (acts_setFld _ _ _ _) rfl rfl
    refine Acts.trans ?_ (acts_setFld _ _ _ _) rfl rfl
    exact Acts.refl _ _ _
  · exact Acts.refl _ _ _

theorem acts_execLidClosed (node : Nat) (sec : Nat) (s : State) :
    ActsR 16 32 s (execLidClosed node sec s) := by
  unfold execLidClosed
  refine ActsR.next ?_
  refine Acts.trans ?_ (acts_lidClose _ _ _) rfl rfl
  exact Acts.refl _ _ _

theorem acts_lidDrain (s : State) (node : Nat) (sec : Nat) :
    Acts 16 32 s (State.lidDrain s node sec) := by
  unfold State.lidDrain
  refine Acts.ite (fun _ => ?_) (fun _ => ?_)
  · refine Acts.trans ?_ (acts_setFld _ _ _ _) rfl rfl
    exact Acts.refl _ _ _
  · exact Acts.refl _ _ _

theorem acts_leaveGhost (s : State) (rq : Rq) (line : Nat) (r : Req) :
    Acts 2097152 0 s (State.leaveGhost s rq line r) := by
  unfold State.leaveGhost
  refine Acts.ite (fun _ => ?_) (fun _ => ?_)
  · exact Acts.refl _ _ _
  · refine Acts.trans ?_ (Acts.set_ghosts _ _) rfl rfl
    exact Acts.refl _ _ _

theorem acts_deliverError (s : State) (u : TxnUse) (tag : Nat) (pa : Nat) (status : Nat) :
    Acts 3327582825841215694909708812758 649274791879954110305006996423104 s (State.deliverError s u tag pa status) := by
  unfold State.deliverError
  split
  · split
    · refine Acts.trans ?_ (acts_failReq _ _ _ _ _) rfl rfl
      refine Acts.trans ?_ (acts_putReq _ _ _ _) rfl rfl
      refine Acts.trans ?_ (acts_leaveGhost _ _ _ _) rfl rfl
      exact Acts.refl _ _ _
    · exact Acts.refl _ _ _
  · split
    · refine Acts.trans ?_ (acts_putReq _ _ _ _) rfl rfl
      refine Acts.trans ?_ (acts_leaveGhost _ _ _ _) rfl rfl
      exact Acts.refl _ _ _
    · exact Acts.refl _ _ _
  · refine Acts.trans ?_ (acts_onCore _ _ _) rfl rfl
    exact Acts.refl _ _ _
  · extract_lets a1
    have ha1 : Acts 3327582825841215694909708812758 649274791879954110305006996423104 s a1 := by
      dsimp only [a1]
      refine Acts.trans ?_ (acts_onCore _ _ _) rfl rfl
      exact Acts.refl _ _ _
    clear_value a1
    refine Acts.ite (fun _ => ?_) (fun _ => ?_)
    · with_reducible assumption
    · refine Acts.trans ?_ (acts_reportStore _ _ _ _) rfl rfl
      with_reducible assumption
  · exact Acts.refl _ _ _
  · exact Acts.refl _ _ _

theorem acts_errorTxn (s : State) (node : Nat) (n : Nat) (status : Nat) :
    Acts 3327582825878109183057136304598 649274791879954110305006996423104 s (State.errorTxn s node n status) := by
  unfold State.errorTxn
  extract_lets a1 a2
  clear_value a1
  have ha2 : Acts 3327582825878109183057136304598 649274791879954110305006996423104 s a2 := by
    dsimp only [a2]
    refine Acts.trans ?_ (acts_freeTxn _ _ _) rfl rfl
    exact Acts.refl _ _ _
  clear_value a2
  split
  · exact Acts.refl _ _ _
  · extract_lets a3 a4 a5
    clear_value a3
    have ha4 : Acts 3327582825878109183057136304598 649274791879954110305006996423104 s a4 := by
      dsimp only [a4]
      refine Acts.ite (fun _ => ?_) (fun _ => ?_)
      · refine Acts.trans ?_ (acts_stopRecord _ _ _ _ _) rfl rfl
        with_reducible assumption
      · refine Acts.ite (fun _ => ?_) (fun _ => ?_)
        · refine Acts.trans ?_ (acts_logRefusal _ _ _ _ _ _) rfl rfl
          with_reducible assumption
        · with_reducible assumption
    clear_value a4
    have ha5 : Acts 3327582825878109183057136304598 649274791879954110305006996423104 s a5 := by
      dsimp only [a5]
      refine Acts.ite (fun _ => ?_) (fun _ => ?_)
      · refine Acts.trans ?_ (acts_earlyFail _ _ _ _ _) rfl rfl
        with_reducible assumption
      · with_reducible assumption
    clear_value a5
    refine Acts.trans ?_ (acts_deliverError _ _ _ _ _) rfl rfl
    with_reducible assumption

theorem acts_execDomainOff (node : Nat) (tag : Nat) (s : State) :
    ActsR 3327582825878109183057136304598 649274791879954110305006996423104 s (execDomainOff node tag s) := by
  unfold execDomainOff
  refine ActsR.next ?_
  refine Acts.ite (fun _ => ?_) (fun _ => ?_)
  · refine Acts.trans ?_ (acts_errorTxn _ _ _ _) rfl rfl
    exact Acts.refl _ _ _
  · exact Acts.refl _ _ _

theorem acts_timeoutTxn (s : State) (node : Nat) (n : Nat) :
    Acts 3327582825841215694909717201366 649274791879954110305006996423120 s (State.timeoutTxn s node n) := by
  unfold State.timeoutTxn
  extract_lets a1 a2 a3 a4 a5
  clear_value a1
  clear_value a2
  clear_value a3
  have ha4 : Acts 3327582825841215694909717201366 649274791879954110305006996423120 s a4 := by
    refine Acts.trans ?_ (Acts.set_txns _ _) rfl rfl
    exact Acts.refl _ _ _
  clear_value a4
  have ha5 : Acts 3327582825841215694909717201366 649274791879954110305006996423120 s a5 := by
    dsimp only [a5]
    refine Acts.trans ?_ (acts_incSat _ _ _) rfl (by split <;> rfl)
    with_reducible assumption
  clear_value a5
  split
  · exact Acts.refl _ _ _
  · extract_lets a6
    have ha6 : Acts 3327582825841215694909717201366 649274791879954110305006996423120 s a6 := by
      dsimp only [a6]
      refine Acts.trans ?_ (acts_stopRecord _ _ _ _ _) rfl rfl
      with_reducible assumption
    clear_value a6
    refine Acts.trans ?_ (acts_deliverError _ _ _ _ _) rfl rfl
    with_reducible assumption

theorem acts_disown (s : State) (node : Nat) (tag : Nat) :
    Acts 70918499991552 0 s (State.disown s node tag) := by
  unfold State.disown
  refine Acts.trans ?_ (Acts.set_fabRem_pcieTags _ _ _) rfl rfl
  exact Acts.refl _ _ _

theorem acts_lidExpire (s : State) (node : Nat) (sec : Nat) :
    Acts 3327582825878109253975636296150 649274791879954110305006996423152 s (State.lidExpire s node sec) := by
  unfold State.lidExpire
  refine Acts.ite (fun _ => ?_) (fun _ => ?_)
  · exact Acts.refl _ _ _
  · extract_lets a1 a2 a3 a4 a5 a6
    clear_value a1
    clear_value a2
    have ha3 : Acts 3327582825878109253975636296150 649274791879954110305006996423152 s a3 := by
      dsimp only [a3]
      refine Acts.foldl (L2 := 3327582825878109253975636296150) (R2 := 649274791879954110305006996423152) _ ?_ (fun t7 x8 => ?_) rfl rfl
      · exact Acts.refl _ _ _
      · refine Acts.trans ?_ (acts_disown _ _ _) rfl rfl
        refine Acts.trans ?_ (acts_errorTxn _ _ _ _) rfl rfl
        exact Acts.refl _ _ _
    clear_value a3
    have ha4 : Acts 3327582825878109253975636296150 649274791879954110305006996423152 s a4 := by
      dsimp only [a4]
      refine Acts.foldl (L2 := 3327582825878109253975636296150) (R2 := 649274791879954110305006996423152) _ ?_ (fun t9 x10 => ?_) rfl rfl
      · with_reducible assumption
      · refine Acts.trans ?_ (acts_timeoutTxn _ _ _) rfl rfl
        exact Acts.refl _ _ _
    clear_value a4
    clear_value a5
    have ha6 : Acts 3327582825878109253975636296150 649274791879954110305006996423152 s a6 := by
      dsimp only [a6]
      refine Acts.trans ?_ (acts_setFld _ _ _ _) rfl rfl
      refine Acts.trans ?_ (acts_setFld _ _ _ _) rfl rfl
      refine Acts.trans ?_ (acts_setFld _ _ _ _) rfl rfl
      with_reducible assumption
    clear_value a6
    refine Acts.ite (fun _ => ?_) (fun _ => ?_)
    · refine Acts.trans ?_ (acts_lidClose _ _ _) rfl rfl
      exact Acts.refl _ _ _
    · refine Acts.trans ?_ (acts_logErr _ _ _ _ _ _) rfl rfl
      with_reducible assumption

theorem acts_execLidDrainLimit (node : Nat) (sec : Nat) (s : State) :
    ActsR 3327582825878109253975636296150 649274791879954110305006996423152 s (execLidDrainLimit node sec s) := by
  unfold execLidDrainLimit
  refine ActsR.next ?_
  refine Acts.trans ?_ (acts_lidExpire _ _ _) rfl rfl
  exact Acts.refl _ _ _

theorem acts_applyWires (s : State) :
    Acts 653632340984794301127597343190 680564733841876926926749214863536422911 s (State.applyWires s) := by
  unfold State.applyWires
  refine Acts.foldl (L2 := 653632340984794301127597343190) (R2 := 680564733841876926926749214863536422911) _ ?_ (fun t1 x2 => ?_) rfl rfl
  · exact Acts.refl _ _ _
  · extract_lets a3 a4 a5
    clear_value a3
    clear_value a4
    clear_value a5
    refine Acts.ite (fun _ => ?_) (fun _ => ?_)
    · exact Acts.refl _ _ _
    · split
      · refine Acts.trans ?_ (acts_unDue _ _) rfl rfl
        exact Acts.refl _ _ _
      · extract_lets a6
        have ha6 : Acts 653632340984794301127597343190 680564733841876926926749214863536422911 t1 a6 := by
          dsimp only [a6]
          refine Acts.trans ?_ (acts_setFld _ _ _ _) rfl rfl
          refine Acts.trans ?_ (acts_setFld _ _ _ _) rfl (RegId.inAll _)
          refine Acts.trans ?_ (acts_unDue _ _) rfl rfl
          exact Acts.refl _ _ _
        clear_value a6
        refine Acts.trans ?_ (acts_logRepair _ _ _) rfl rfl
        refine Acts.trans ?_ (acts_logErr _ _ _ _ _ _) rfl rfl
        with_reducible assumption

theorem acts_execLateResponse (node : Nat) (tag : Nat) (s : State) :
    ActsR 8388624 16 s (execLateResponse node tag s) := by
  unfold execLateResponse
  extract_lets a1 a2
  clear_value a1
  clear_value a2
  refine ActsR.next ?_
  refine Acts.ite (fun _ => ?_) (fun _ => ?_)
  · exact Acts.refl _ _ _
  · refine Acts.trans ?_ (acts_incSat _ _ _) rfl rfl
    refine Acts.trans ?_ (Acts.set_txns _ _) rfl rfl
    exact Acts.refl _ _ _

theorem acts_execLinkCorrected (node : Nat) (port : Nat) (wire : Nat) (s : State) :
    ActsR 653632340984794301127597343190 680564733841876926926749214863536422911 s (execLinkCorrected node port wire s) := by
  unfold execLinkCorrected
  extract_lets a1 a2 a3 a4
  have ha1 : Acts 653632340984794301127597343190 680564733841876926926749214863536422911 s a1 := by
    dsimp only [a1]
    refine Acts.trans ?_ (acts_logErr _ _ _ _ _ _) rfl rfl
    exact Acts.refl _ _ _
  clear_value a1
  clear_value a2
  clear_value a3
  clear_value (ea4 : a4 = _)
  have ha4 : Acts 653632340984794301127597343190 680564733841876926926749214863536422911 s a4.2 := by
    rw [ea4]
    clear ea4
    refine Acts.trans ?_ (acts_note _ _ _ _) rfl rfl
    with_reducible assumption
  clear ea4
  refine ActsR.next ?_
  refine Acts.ite (fun _ => ?_) (fun _ => ?_)
  · refine Acts.trans ?_ (acts_applyWires _) rfl rfl
    refine Acts.trans ?_ (acts_setDue _ _) rfl rfl
    refine Acts.trans ?_ (acts_forget _ _) rfl rfl
    with_reducible assumption
  · with_reducible assumption

theorem acts_execClose (ag : Agent) (node : Nat) (sec : Nat) (w : W) (s : State) :
    ActsR 3169126500849580507870049452534 237684563100656738694955270624 s (execClose ag node sec w s) := by
  unfold execClose
  refine ActsR.next ?_
  refine Acts.trans ?_ (acts_onWrite (L := 3169126500849580507870049452534) (R := 237684563100656738694955270624) _ _ _ _ _ ?_ rfl rfl) rfl rfl
  · exact Acts.refl _ _ _
  · intro t1
    refine Acts.ite (fun _ => ?_) (fun _ => ?_)
    · refine Acts.trans ?_ (acts_lidDrain _ _ _) rfl rfl
      exact Acts.refl _ _ _
    · exact Acts.refl _ _ _

theorem acts_lidOpen (s : State) (node : Nat) (sec : Nat) :
    Acts 16 32 s (State.lidOpen s node sec) := by
  unfold State.lidOpen
  refine Acts.ite (fun _ => ?_) (fun _ => ?_)
  · refine Acts.trans ?_ (acts_setFld _ _ _ _) rfl rfl
    exact Acts.refl _ _ _
  · exact Acts.refl _ _ _

theorem acts_execOpen (ag : Agent) (node : Nat) (sec : Nat) (w : W) (s : State) :
    ActsR 3169126500849580507870049452534 237684563100656738694955270624 s (execOpen ag node sec w s) := by
  unfold execOpen
  refine ActsR.next ?_
  refine Acts.trans ?_ (acts_onWrite (L := 3169126500849580507870049452534) (R := 237684563100656738694955270624) _ _ _ _ _ ?_ rfl rfl) rfl rfl
  · exact Acts.refl _ _ _
  · intro t1
    refine Acts.ite (fun _ => ?_) (fun _ => ?_)
    · refine Acts.trans ?_ (acts_lidOpen _ _ _) rfl rfl
      exact Acts.refl _ _ _
    · exact Acts.refl _ _ _

theorem acts_execErrorResponse (node : Nat) (tag : Nat) (status : Nat) (s : State) :
    ActsR 3327582825878109183057136304598 649274791879954110305006996423104 s (execErrorResponse node tag status s) := by
  unfold execErrorResponse
  refine ActsR.next ?_
  refine Acts.ite (fun _ => ?_) (fun _ => ?_)
  · refine Acts.trans ?_ (acts_errorTxn _ _ _ _) rfl rfl
    exact Acts.refl _ _ _
  · exact Acts.refl _ _ _

theorem acts_execTimeout (node : Nat) (tag : Nat) (s : State) :
    ActsR 3327582825841215694909717201366 649274791879954110305006996423120 s (execTimeout node tag s) := by
  unfold execTimeout
  refine ActsR.next ?_
  refine Acts.ite (fun _ => ?_) (fun _ => ?_)
  · refine Acts.trans ?_ (acts_timeoutTxn _ _ _) rfl rfl
    exact Acts.refl _ _ _
  · exact Acts.refl _ _ _

theorem acts_execLinkUncorrected (node : Nat) (port : Nat) (s : State) :
    ActsR 633825300356228216729228132822 237684563100656738694955270592 s (execLinkUncorrected node port s) := by
  unfold execLinkUncorrected
  refine ActsR.next ?_
  refine Acts.trans ?_ (acts_logErr _ _ _ _ _ _) rfl rfl
  refine Acts.trans ?_ (Acts.set_linkStopped _ _) rfl rfl
  exact Acts.refl _ _ _

theorem acts_execClear (ag : Agent) (node : Nat) (w : W) (s : State) :
    ActsR 3169126500849580507870049452534 237684563100656738694955270608 s (execClear ag node w s) := by
  unfold execClear
  refine ActsR.next ?_
  refine Acts.trans ?_ (acts_onWrite (L := 3169126500849580507870049452534) (R := 237684563100656738694955270608) _ _ _ _ _ ?_ rfl rfl) rfl rfl
  · exact Acts.refl _ _ _
  · intro t1
    refine Acts.ite (fun _ => ?_) (fun _ => ?_)
    · refine Acts.trans ?_ (acts_setFld _ _ _ _) rfl rfl
      refine Acts.trans ?_ (acts_setFld _ _ _ _) rfl rfl
      refine Acts.trans ?_ (acts_setFld _ _ _ _) rfl rfl
      exact Acts.refl _ _ _
    · exact Acts.refl _ _ _

theorem acts_execLinkReconfigDone (node : Nat) (port : Nat) (s : State) :
    ActsR 653632340984794301127601537494 680564733841876926926749214863536422911 s (execLinkReconfigDone node port s) := by
  unfold execLinkReconfigDone
  extract_lets a1 a2
  clear_value a1
  clear_value a2
  refine ActsR.next ?_
  refine Acts.ite (fun _ => ?_) (fun _ => ?_)
  · exact Acts.refl _ _ _
  · refine Acts.trans ?_ (acts_applyWires _) rfl rfl
    refine Acts.trans ?_ (acts_setFld _ _ _ _) rfl rfl
    refine Acts.trans ?_ (Acts.set_mesh _ _) rfl rfl
    exact Acts.refl _ _ _

theorem acts_execApply (ag : Agent) (node : Nat) (port : Nat) (w : W) (s : State) :
    ActsR 3169126500849580507870049452534 237684563100656738694955270596 s (execApply ag node port w s) := by
  unfold execApply
  extract_lets a1
  clear_value a1
  refine ActsR.next ?_
  refine Acts.ite (fun _ => ?_) (fun _ => ?_)
  · exact Acts.refl _ _ _
  · refine Acts.ite (fun _ => ?_) (fun _ => ?_)
    · refine Acts.trans ?_ (acts_onWrite (L := 3169126500849580507870049452534) (R := 237684563100656738694955270596) _ _ _ _ _ ?_ rfl rfl) rfl rfl
      · exact Acts.refl _ _ _
      · intro t2
        exact Acts.refl _ _ _
    · refine Acts.trans ?_ (acts_onWrite (L := 3169126500849580507870049452534) (R := 237684563100656738694955270596) _ _ _ _ _ ?_ rfl rfl) rfl rfl
      · exact Acts.refl _ _ _
      · intro t3
        refine Acts.ite (fun _ => ?_) (fun _ => ?_)
        · refine Acts.trans ?_ (acts_setFld _ _ _ _) rfl rfl
          exact Acts.refl _ _ _
        · exact Acts.refl _ _ _

theorem acts_execLidDrain (node : Nat) (sec : Nat) (s : State) :
    ActsR 16 32 s (execLidDrain node sec s) := by
  unfold execLidDrain
  refine ActsR.next ?_
  refine Acts.ite (fun _ => ?_) (fun _ => ?_)
  · refine Acts.trans ?_ (acts_lidDrain _ _ _) rfl rfl
    exact Acts.refl _ _ _
  · exact Acts.refl _ _ _

end Sys2Proof.Machine
end

