-- ==== Sys2Proof/Laws/FabNetActs.lean ====
section
/-! SUPPORT. What each operation and each command of FabNet.lean may touch: `acts_<name>` bounds the fields and the registers that
`<name>` can change (see Acts.lean). -/

namespace Sys2Proof.Machine

open Sys2Proof

theorem acts_setPort (s : State) (p : Nat) (x : Port) :
    Acts 137438953472 0 s (State.setPort s p x) := by
  unfold State.setPort
  refine Acts.trans ?_ (Acts.set_ports _ _) rfl rfl
  exact Acts.refl _ _ _

theorem acts_pump (s : State) (p : Nat) :
    Acts 633825300114114700885790556160 0 s (State.pump s p) := by
  unfold State.pump
  extract_lets a1 a2
  clear_value a1
  clear_value a2
  refine Acts.trans ?_ (acts_count _ _ _ _ _) rfl rfl
  refine Acts.trans ?_ (acts_setPort _ _ _) rfl rfl
  exact Acts.refl _ _ _

theorem acts_enqueue (s : State) (p : Nat) (k : Pkt) :
    Acts 633825300114114700885790556160 0 s (State.enqueue s p k) := by
  unfold State.enqueue
  extract_lets a1 a2
  clear_value a1
  clear_value a2
  refine Acts.trans ?_ (acts_pump _ _) rfl rfl
  refine Acts.trans ?_ (acts_setPort _ _ _) rfl rfl
  exact Acts.refl _ _ _

theorem acts_deliverPkt (s : State) (inPort : Nat) (k : Pkt) :
    ActsO 633825300114114701160668463104 0 s (State.deliverPkt s inPort k) := by
  unfold State.deliverPkt
  split
  · refine ActsO.some ?_
    refine Acts.trans ?_ (Acts.set_fabIn _ _) rfl rfl
    exact Acts.refl _ _ _
  · refine ActsO.some ?_
    refine Acts.trans ?_ (acts_enqueue _ _ _) rfl rfl
    exact Acts.refl _ _ _
  · exact ActsO.none
theorem acts_deliverPkt_eq {s : State} {inPort : Nat} {k : Pkt} {t : State} (h : (State.deliverPkt s inPort k) = some t) : Acts 633825300114114701160668463104 0 s t := acts_deliverPkt s inPort k t h

theorem acts_switch (s : State) (inPort : Nat) (k : Pkt) :
    Acts 633825300356228217141528216022 237684563100656738694955270592 s (State.switch s inPort k) := by
  unfold State.switch
  split
  · refine Acts.trans ?_ (acts_deliverPkt_eq (by assumption)) rfl rfl
    exact Acts.refl _ _ _
  · extract_lets a1
    have ha1 : Acts 633825300356228217141528216022 237684563100656738694955270592 s a1 := by
      dsimp only [a1]
      refine Acts.trans ?_ (acts_logErr _ _ _ _ _ _) rfl rfl
      exact Acts.refl _ _ _
    clear_value a1
    split
    · with_reducible assumption
    · refine ActsO.getD ?_ ?_
      · refine ActsO.trans ?_ (acts_deliverPkt _ _ _) rfl rfl
        with_reducible assumption
      · with_reducible assumption

theorem acts_fabSend (s : State) (k : Pkt) :
    Acts 633825300356228217141528216022 237684563100656738694955270592 s (State.fabSend s k) := by
  unfold State.fabSend
  refine Acts.trans ?_ (acts_switch _ _ _) rfl rfl
  exact Acts.refl _ _ _

theorem acts_takePkt_eq {s : State} {op : Nat} {x} {y} {t : State} (h : s.takePkt op = some (x, y, t)) : Acts 274877906944 0 s t := by
  unfold State.takePkt at h
  dsimp only at h
  split at h
  · cases h
  · split at h
    · cases h
    · cases h
      exact Acts.set_fabIn _ _

end Sys2Proof.Machine
end

