-- ==== Sys2Proof/Laws/SpineActs.lean ====
section
/-! SUPPORT. What each operation and each command of Spine.lean may touch: `acts_<name>` bounds the fields and the registers that
`<name>` can change (see Acts.lean). -/

namespace Sys2Proof.Machine

open Sys2Proof

theorem acts_setStream (s : State) (n : Nat) (x : SpnStream) :
    Acts 1073741824 0 s (State.setStream s n x) := by
  unfold State.setStream
  refine Acts.trans ?_ (Acts.set_spn _ _) rfl rfl
  exact Acts.refl _ _ _

theorem acts_changed (s : State) (n : Nat) :
    Acts 2147483648 0 s (State.changed s n) := by
  unfold State.changed
  refine Acts.ite (fun _ => ?_) (fun _ => ?_)
  · exact Acts.refl _ _ _
  · refine Acts.trans ?_ (Acts.set_spnChanged _ _) rfl rfl
    exact Acts.refl _ _ _

theorem acts_grantAll (s : State) :
    Acts 4294967296 0 s (State.grantAll s) := by
  unfold State.grantAll
  extract_lets a1 a2
  clear_value a1
  clear_value a2
  refine Acts.foldl1 (L2 := 4294967296) (R2 := 0) _ ?_ (fun t3 x4 => ?_) rfl rfl
  · exact Acts.refl _ _ _
  · extract_lets a5 a6
    have ha5 : Acts 4294967296 0 t3.fst a5 := by
      dsimp only [a5]
      exact Acts.refl _ _ _
    clear_value a5
    clear_value a6
    split
    · exact Acts.refl _ _ _
    · split
      · dsimp only
        refine Acts.trans ?_ (Acts.set_jrnRes _ _) rfl rfl
        with_reducible assumption
      · with_reducible assumption

theorem acts_dropRes (s : State) (n : Nat) (c : Nat) :
    Acts 4294967296 0 s (State.dropRes s n c) := by
  unfold State.dropRes
  refine Acts.trans ?_ (acts_grantAll _) rfl rfl
  refine Acts.trans ?_ (Acts.set_jrnRes _ _) rfl rfl
  exact Acts.refl _ _ _

theorem acts_assignLost (s : State) (q : CommitReq) :
    Acts 633825300114114700754794053712 524288 s (State.assignLost s q) := by
  unfold State.assignLost
  extract_lets a1 a2 a3
  clear_value a1
  have ha2 : Acts 633825300114114700754794053712 524288 s a2 := by
    dsimp only [a2]
    refine Acts.trans ?_ (acts_dropRes _ _ _) rfl rfl
    refine Acts.trans ?_ (acts_setFld _ _ _ _) rfl rfl
    exact Acts.refl _ _ _
  clear_value a2
  have ha3 : Acts 633825300114114700754794053712 524288 s a3 := by
    dsimp only [a3]
    refine Acts.trans ?_ (acts_onCore _ _ _) rfl rfl
    with_reducible assumption
  clear_value a3
  refine Acts.trans ?_ (acts_changed _ _) rfl rfl
  refine Acts.trans ?_ (acts_count _ _ _ _ _) rfl rfl
  with_reducible assumption

theorem acts_fenceOne (s : State) (n : Nat) (cause : Nat) :
    Acts 633825300356228216732432581078 237684563100656738694972703168 s (State.fenceOne s n cause) := by
  unfold State.fenceOne
  extract_lets a1 a2 a3 a4 a5
  clear_value a1
  have ha2 : Acts 633825300356228216732432581078 237684563100656738694972703168 s a2 := by
    dsimp only [a2]
    refine Acts.foldl (L2 := 633825300356228216732432581078) (R2 := 237684563100656738694972703168) _ ?_ (fun t6 x7 => ?_) rfl rfl
    · exact Acts.refl _ _ _
    · refine Acts.trans ?_ (acts_assignLost _ _) rfl rfl
      exact Acts.refl _ _ _
  clear_value a2
  have ha3 : Acts 633825300356228216732432581078 237684563100656738694972703168 s a3 := by
    dsimp only [a3]
    refine Acts.trans ?_ (acts_setStream _ _ _) rfl rfl
    with_reducible assumption
  clear_value a3
  have ha4 : Acts 633825300356228216732432581078 237684563100656738694972703168 s a4 := by
    refine Acts.trans ?_ (Acts.set_jrnRecs _ _) rfl rfl
    with_reducible assumption
  clear_value a4
  have ha5 : Acts 633825300356228216732432581078 237684563100656738694972703168 s a5 := by
    dsimp only [a5]
    refine Acts.trans ?_ (acts_setFld _ _ _ _) rfl rfl
    refine Acts.trans ?_ (acts_setFld _ _ _ _) rfl rfl
    refine Acts.trans ?_ (acts_setFld _ _ _ _) rfl rfl
    with_reducible assumption
  clear_value a5
  refine Acts.trans ?_ (acts_raise _ _) rfl rfl
  refine Acts.trans ?_ (acts_logErr _ _ _ _ _ _) rfl rfl
  refine Acts.trans ?_ (acts_count _ _ _ _ _) rfl rfl
  refine Acts.trans ?_ (acts_changed _ _) rfl rfl
  with_reducible assumption

theorem acts_cascade (fuel : Nat) (s : State) : Acts 633825300356228216732432581078 237684563100656738694972703168 s (cascade fuel s) := by
  induction fuel generalizing s with
  | zero => exact Acts.refl _ _ _
  | succ fuel ih =>
    unfold cascade
    split
    · exact Acts.refl _ _ _
    · refine Acts.trans ?_ (ih _) rfl rfl
      refine Acts.trans ?_ (acts_fenceOne _ _ _) rfl rfl
      exact Acts.refl _ _ _

theorem acts_assign (s : State) (q : CommitReq) :
    Acts 633825300356228216732432581078 237684563100656738694972703168 s (State.assign s q) := by
  unfold State.assign
  extract_lets a1 a2 a3 a4 a5 a6 a7 a8 a9
  clear_value a1
  clear_value a2
  clear_value a3
  clear_value a4
  clear_value a5
  clear_value a6
  have ha7 : Acts 633825300356228216732432581078 237684563100656738694972703168 s a7 := by
    dsimp only [a7]
    refine Acts.trans ?_ (acts_setStream _ _ _) rfl rfl
    refine Acts.trans ?_ (acts_setFld _ _ _ _) rfl rfl
    exact Acts.refl _ _ _
  clear_value a7
  have ha8 : Acts 633825300356228216732432581078 237684563100656738694972703168 s a8 := by
    refine Acts.trans ?_ (Acts.set_jrnRecs _ _) rfl rfl
    with_reducible assumption
  clear_value a8
  have ha9 : Acts 633825300356228216732432581078 237684563100656738694972703168 s a9 := by
    dsimp only [a9]
    refine Acts.trans ?_ (acts_onCore _ _ _) rfl rfl
    refine Acts.trans ?_ (acts_dropRes _ _ _) rfl rfl
    with_reducible assumption
  clear_value a9
  refine Acts.trans ?_ (acts_cascade _ _) rfl rfl
  refine Acts.trans ?_ (acts_changed _ _) rfl rfl
  with_reducible assumption

theorem acts_commitRequest (s : State) (c : Nat) :
    Acts 633825300356228216732432581078 237684563100656738694972703168 s (State.commitRequest s c) := by
  unfold State.commitRequest
  split
  · exact Acts.refl _ _ _
  · extract_lets a1 a2 a3 a4
    clear_value a1
    have ha2 : Acts 633825300356228216732432581078 237684563100656738694972703168 s a2 := by
      dsimp only [a2]
      refine Acts.trans ?_ (acts_count _ _ _ _ _) rfl rfl
      refine Acts.trans ?_ (acts_onCore _ _ _) rfl rfl
      exact Acts.refl _ _ _
    clear_value a2
    clear_value a3
    split
    · refine Acts.ite (fun _ => ?_) (fun _ => ?_)
      · refine Acts.trans ?_ (acts_assign _ _) rfl rfl
        with_reducible assumption
      · dsimp only [a4]
        refine Acts.trans ?_ (acts_count _ _ _ _ _) rfl rfl
        refine Acts.trans ?_ (acts_setStream _ _ _) rfl rfl
        with_reducible assumption
    · dsimp only [a4]
      refine Acts.trans ?_ (acts_count _ _ _ _ _) rfl rfl
      refine Acts.trans ?_ (acts_setStream _ _ _) rfl rfl
      with_reducible assumption
    · refine Acts.trans ?_ (acts_assignLost _ _) rfl rfl
      with_reducible assumption

theorem acts_freeStaged (s : State) (n : Nat) :
    Acts 12884901888 0 s (State.freeStaged s n) := by
  unfold State.freeStaged
  extract_lets a1 a2
  clear_value a1
  clear_value a2
  refine Acts.trans ?_ (acts_grantAll _) rfl rfl
  refine Acts.trans ?_ (Acts.set_jrnRecs _ _) rfl rfl
  exact Acts.refl _ _ _

theorem acts_replMsg (s : State) (n : Nat) (op : Nat) (node : Nat) (a : Nat) (b : Nat) (reason : Nat) (flags : Nat) (count : Nat) (body : List Byte) :
    Acts 633825300356228217141528216022 237684563100656738694955270592 s (State.replMsg s n op node a b reason flags count body) := by
  unfold State.replMsg
  extract_lets a1
  clear_value a1
  refine Acts.trans ?_ (acts_fabSend _ _) rfl rfl
  exact Acts.refl _ _ _

theorem acts_setRepl (s : State) (n : Nat) (r : Nat) (x : Repl) :
    Acts 68719476736 0 s (State.setRepl s n r x) := by
  unfold State.setRepl
  refine Acts.trans ?_ (Acts.set_repl _ _) rfl rfl
  exact Acts.refl _ _ _

theorem acts_replSend (fuel n r : Nat) (s : State) : Acts 633825300356228217210247692758 237684563100656738694955270592 s (replSend fuel n r s) := by
  induction fuel generalizing s with
  | zero => exact Acts.refl _ _ _
  | succ fuel ih =>
    unfold replSend
    extract_lets a1 a2 a3 a4 a5 a6 a7
    clear_value a1
    clear_value a2
    clear_value a3
    clear_value a4
    clear_value a5
    have ha6 : Acts 633825300356228217210247692758 237684563100656738694955270592 s a6 := by
      dsimp only [a6]
      refine Acts.trans ?_ (acts_setRepl _ _ _ _) rfl rfl
      exact Acts.refl _ _ _
    clear_value a6
    have ha7 : Acts 633825300356228217210247692758 237684563100656738694955270592 s a7 := by
      refine Acts.trans ?_ (Acts.set_jrnRecs _ _) rfl rfl
      with_reducible assumption
    clear_value a7
    split
    · exact Acts.refl _ _ _
    · refine Acts.ite (fun _ => ?_) (fun _ => ?_)
      · exact Acts.refl _ _ _
      · refine Acts.ite (fun _ => ?_) (fun _ => ?_)
        · refine Acts.ite (fun _ => ?_) (fun _ => ?_)
          · exact Acts.refl _ _ _
          · extract_lets a8
            have ha8 : Acts 633825300356228217210247692758 237684563100656738694955270592 s a8 := by
              dsimp only [a8]
              refine Acts.trans ?_ (acts_count _ _ _ _ _) rfl rfl
              refine Acts.trans ?_ (acts_replMsg _ _ _ _ _ _ _ _ _ _) rfl rfl
              with_reducible assumption
            clear_value a8
            refine Acts.trans ?_ (ih _) rfl rfl
            with_reducible assumption
        · refine Acts.ite (fun _ => ?_) (fun _ => ?_)
          · split
            · exact Acts.refl _ _ _
            · extract_lets a9 a10 a11
              clear_value a9
              have ha10 : Acts 633825300356228217210247692758 237684563100656738694955270592 s a10 := by
                dsimp only [a10]
                refine Acts.trans ?_ (acts_setRepl _ _ _ _) rfl rfl
                exact Acts.refl _ _ _
              clear_value a10
              have ha11 : Acts 633825300356228217210247692758 237684563100656738694955270592 s a11 := by
                dsimp only [a11]
                refine Acts.trans ?_ (acts_count _ _ _ _ _) rfl rfl
                refine Acts.trans ?_ (acts_replMsg _ _ _ _ _ _ _ _ _ _) rfl rfl
                with_reducible assumption
              clear_value a11
              refine Acts.ite (fun _ => ?_) (fun _ => ?_)
              · refine Acts.trans ?_ (acts_setRepl _ _ _ _) rfl rfl
                exact Acts.refl _ _ _
              · refine Acts.trans ?_ (ih _) rfl rfl
                with_reducible assumption
          · exact Acts.refl _ _ _

theorem acts_replPump (s : State) (n : Nat) :
    Acts 633825300356228217210247692758 237684563100656738694955270592 s (State.replPump s n) := by
  unfold State.replPump
  refine Acts.trans ?_ (acts_freeStaged _ _) rfl rfl
  refine Acts.trans ?_ (acts_replSend _ _ _ _) rfl rfl
  refine Acts.trans ?_ (acts_replSend _ _ _ _) rfl rfl
  exact Acts.refl _ _ _

theorem acts_recSegments (s : State) (stream : Nat) (g : Nat) :
    Acts 633825300356228217211321434582 237684563100656738694955270592 s (State.recSegments s stream g) := by
  unfold State.recSegments
  extract_lets a1 a2 a3 a4
  clear_value a1
  clear_value a2
  clear_value a3
  have ha4 : Acts 633825300356228217211321434582 237684563100656738694955270592 s a4 := by
    refine Acts.trans ?_ (Acts.set_jrnRecs _ _) rfl rfl
    exact Acts.refl _ _ _
  clear_value a4
  split
  · exact Acts.refl _ _ _
  · refine Acts.ite (fun _ => ?_) (fun _ => ?_)
    · refine Acts.trans ?_ (acts_replPump _ _) rfl rfl
      refine Acts.trans ?_ (acts_setStream _ _ _) rfl rfl
      with_reducible assumption
    · exact Acts.refl _ _ _

theorem acts_voidRec (s : State) (n : Nat) (g : Nat) :
    Acts 633825300356228217211321434582 237684563100656738694955270592 s (State.voidRec s n g) := by
  unfold State.voidRec
  extract_lets a1 a2 a3 a4
  clear_value a1
  clear_value a2
  clear_value a3
  have ha4 : Acts 633825300356228217211321434582 237684563100656738694955270592 s a4 := by
    refine Acts.trans ?_ (Acts.set_jrnRecs _ _) rfl rfl
    exact Acts.refl _ _ _
  clear_value a4
  refine Acts.trans ?_ (acts_replPump _ _) rfl rfl
  refine Acts.trans ?_ (acts_grantAll _) rfl rfl
  refine Acts.trans ?_ (acts_count _ _ _ _ _) rfl rfl
  refine Acts.trans ?_ (acts_setStream _ _ _) rfl rfl
  with_reducible assumption

theorem acts_closeMark (s : State) (c : Nat) :
    Acts 633825300356228217213468918230 237684563100656738694972703168 s (State.closeMark s c) := by
  unfold State.closeMark
  extract_lets a1 a2
  have ha1 : Acts 633825300356228217213468918230 237684563100656738694972703168 s a1 := by
    dsimp only [a1]
    refine Acts.trans ?_ (acts_commitRequest _ _) rfl rfl
    exact Acts.refl _ _ _
  clear_value a1
  have ha2 : Acts 633825300356228217213468918230 237684563100656738694972703168 s a2 := by
    dsimp only [a2]
    refine Acts.foldl (L2 := 633825300356228217213468918230) (R2 := 237684563100656738694972703168) _ ?_ (fun t3 x4 => ?_) rfl rfl
    · with_reducible assumption
    · refine Acts.foldl (L2 := 633825300356228217213468918230) (R2 := 237684563100656738694972703168) _ ?_ (fun t5 x6 => ?_) rfl rfl
      · refine Acts.ite (fun _ => ?_) (fun _ => ?_)
        · refine Acts.trans ?_ (acts_dropRes _ _ _) rfl rfl
          refine Acts.ite (fun _ => ?_) (fun _ => ?_)
          · exact Acts.refl _ _ _
          · refine Acts.trans ?_ (acts_dropRes _ _ _) rfl rfl
            refine Acts.trans ?_ (acts_setStream _ _ _) rfl rfl
            exact Acts.refl _ _ _
        · refine Acts.ite (fun _ => ?_) (fun _ => ?_)
          · exact Acts.refl _ _ _
          · refine Acts.trans ?_ (acts_dropRes _ _ _) rfl rfl
            refine Acts.trans ?_ (acts_setStream _ _ _) rfl rfl
            exact Acts.refl _ _ _
      · refine Acts.ite (fun _ => ?_) (fun _ => ?_)
        · exact Acts.refl _ _ _
        · refine Acts.ite (fun _ => ?_) (fun _ => ?_)
          · refine Acts.trans ?_ (acts_recSegments _ _ _) rfl rfl
            exact Acts.refl _ _ _
          · refine Acts.trans ?_ (acts_voidRec _ _ _) rfl rfl
            exact Acts.refl _ _ _
  clear_value a2
  refine Acts.trans ?_ (acts_grantAll _) rfl rfl
  refine Acts.trans ?_ (acts_onCore _ _ _) rfl rfl
  with_reducible assumption

theorem acts_execCloseMark (c : Nat) (s : State) :
    ActsR 633825300356228217213468918230 237684563100656738694972703168 s (execCloseMark c s) := by
  unfold execCloseMark
  refine ActsR.next ?_
  refine Acts.trans ?_ (acts_closeMark _ _) rfl rfl
  exact Acts.refl _ _ _

theorem acts_serveParked (fuel n : Nat) (s : State) : Acts 633825300356228216732432581078 237684563100656738694972703168 s (serveParked fuel n s) := by
  induction fuel generalizing s with
  | zero => exact Acts.refl _ _ _
  | succ fuel ih =>
    unfold serveParked
    extract_lets a1 a2
    clear_value a1
    clear_value a2
    split
    · exact Acts.refl _ _ _
    · refine Acts.ite (fun _ => ?_) (fun _ => ?_)
      · refine Acts.trans ?_ (ih _) rfl rfl
        refine Acts.trans ?_ (acts_assign _ _) rfl rfl
        refine Acts.trans ?_ (acts_setStream _ _ _) rfl rfl
        exact Acts.refl _ _ _
      · exact Acts.refl _ _ _

theorem acts_execResume (ag : Agent) (stream : Nat) (s : State) :
    ActsR 3169126500849580507873270678006 237684563100656738694972703168 s (execResume ag stream s) := by
  unfold execResume
  refine ActsR.next ?_
  refine Acts.trans ?_ (acts_onWrite (L := 3169126500849580507873270678006) (R := 237684563100656738694972703168) _ _ _ _ _ ?_ rfl rfl) rfl rfl
  · exact Acts.refl _ _ _
  · intro t1
    refine Acts.ite (fun _ => ?_) (fun _ => ?_)
    · refine Acts.trans ?_ (acts_serveParked _ _ _) rfl rfl
      refine Acts.trans ?_ (acts_setFld _ _ _ _) rfl rfl
      exact Acts.refl _ _ _
    · exact Acts.refl _ _ _

theorem acts_setReplState (s : State) (n : Nat) (v : Nat) :
    Acts 633825300116420543762397134928 75557863734710416441536 s (State.setReplState s n v) := by
  unfold State.setReplState
  refine Acts.ite (fun _ => ?_) (fun _ => ?_)
  · exact Acts.refl _ _ _
  · refine Acts.trans ?_ (acts_raise _ _) rfl rfl
    refine Acts.trans ?_ (acts_setFld _ _ _ _) rfl rfl
    exact Acts.refl _ _ _

theorem acts_execDrainPtrWrite (ag : Agent) (stream : Nat) (w : W) (s : State) :
    ActsR 3169126500849580507870049452534 237684563100656738694980436416 s (execDrainPtrWrite ag stream w s) := by
  unfold execDrainPtrWrite
  refine ActsR.next ?_
  split
  · extract_lets a1 a2 a3
    clear_value a1
    have ha2 : Acts 3169126500849580507870049452534 237684563100656738694980436416 s a2 := by
      dsimp only [a2]
      refine Acts.trans ?_ (acts_setFld _ _ _ _) rfl rfl
      exact Acts.refl _ _ _
    clear_value a2
    have ha3 : Acts 3169126500849580507870049452534 237684563100656738694980436416 s a3 := by
      dsimp only [a3]
      refine Acts.ite (fun _ => ?_) (fun _ => ?_)
      · split
        · refine Acts.ite (fun _ => ?_) (fun _ => ?_)
          · refine Acts.trans ?_ (acts_setFld _ _ _ _) rfl rfl
            with_reducible assumption
          · with_reducible assumption
        · refine Acts.trans ?_ (acts_setFld _ _ _ _) rfl rfl
          with_reducible assumption
      · refine Acts.trans ?_ (acts_raise _ _) rfl rfl
        refine Acts.trans ?_ (acts_setFld _ _ _ _) rfl rfl
        exact Acts.refl _ _ _
    clear_value a3
    refine Acts.trans ?_ (acts_answerW _ _ _ _) rfl rfl
    with_reducible assumption
  · refine Acts.trans ?_ (acts_refuse _ _ _ _ _) rfl rfl
    exact Acts.refl _ _ _

theorem acts_execStagingCancel (c : Nat) (s : State) :
    ActsR 4294967360 0 s (execStagingCancel c s) := by
  unfold execStagingCancel
  refine ActsR.next ?_
  split
  · exact Acts.refl _ _ _
  · extract_lets a1 a2
    clear_value a1
    have ha2 : Acts 4294967360 0 s a2 := by
      refine Acts.trans ?_ (Acts.set_jrnRes _ _) rfl rfl
      exact Acts.refl _ _ _
    clear_value a2
    refine Acts.trans ?_ (acts_grantAll _) rfl rfl
    refine Acts.trans ?_ (acts_onCore _ _ _) rfl rfl
    with_reducible assumption

theorem acts_sweepFlight (s : State) (cs : List Nat) (n : Nat) (l : Nat) :
    Acts 64 0 s (State.sweepFlight s cs n l) := by
  unfold State.sweepFlight
  refine Acts.foldl (L2 := 64) (R2 := 0) _ ?_ (fun t1 x2 => ?_) rfl rfl
  · exact Acts.refl _ _ _
  · refine Acts.trans ?_ (acts_onCore _ _ _) rfl rfl
    exact Acts.refl _ _ _

theorem acts_fence (s : State) (n : Nat) (cause : Nat) :
    Acts 633825300356228216732432581078 237684563100656738694972703168 s (State.fence s n cause) := by
  unfold State.fence
  refine Acts.ite (fun _ => ?_) (fun _ => ?_)
  · refine Acts.trans ?_ (acts_cascade _ _) rfl rfl
    refine Acts.trans ?_ (acts_fenceOne _ _ _) rfl rfl
    exact Acts.refl _ _ _
  · exact Acts.refl _ _ _

theorem acts_startSweep (s : State) (n : Nat) (takeover : Bool) :
    Acts 1073741824 0 s (State.startSweep s n takeover) := by
  unfold State.startSweep
  extract_lets a1
  clear_value a1
  split
  · exact Acts.refl _ _ _
  · refine Acts.trans ?_ (acts_setStream _ _ _) rfl rfl
    exact Acts.refl _ _ _

theorem acts_execRestart (ag : Agent) (stream : Nat) (s : State) :
    ActsR 3169126500849580507871123194358 237684563100656738694955401664 s (execRestart ag stream s) := by
  unfold execRestart
  refine ActsR.next ?_
  refine Acts.trans ?_ (acts_onWrite (L := 3169126500849580507871123194358) (R := 237684563100656738694955401664) _ _ _ _ _ ?_ rfl rfl) rfl rfl
  · exact Acts.refl _ _ _
  · intro t1
    refine Acts.ite (fun _ => ?_) (fun _ => ?_)
    · refine Acts.trans ?_ (acts_startSweep _ _ _) rfl rfl
      exact Acts.refl _ _ _
    · exact Acts.refl _ _ _

theorem acts_appendOk (s : State) (sec : Bool) (part : Nat) (pa : Nat) (n : Nat) :
    Acts 633825300114114700748485820416 0 s (State.appendOk s sec part pa n).2 := by
  unfold State.appendOk
  extract_lets a1
  clear_value a1
  refine Acts.foldl2 (L2 := 633825300114114700748485820416) (R2 := 0) _ ?_ (fun t2 x3 => ?_) rfl rfl
  · exact Acts.refl _ _ _
  · refine Acts.ite2 (fun _ => ?_) (fun _ => ?_)
    · exact Acts.refl _ _ _
    · extract_lets a4
      clear_value (ea4 : a4 = _)
      have ha4 : Acts 633825300114114700748485820416 0 t2.snd a4.2 := by
        rw [ea4]
        clear ea4
        refine Acts.trans ?_ (acts_worldOk _ _ _ _ _) rfl rfl
        exact Acts.refl _ _ _
      clear ea4
      with_reducible assumption
theorem acts_appendOk_eq {s : State} {sec : Bool} {part : Nat} {pa : Nat} {n : Nat} {x} {t : State} (h : (State.appendOk s sec part pa n) = (x, t)) : Acts 633825300114114700748485820416 0 s t := by
  have := acts_appendOk s sec part pa n; rw [h] at this; exact this

theorem acts_execRecordSegment (stream : Nat) (g : Nat) (s : State) :
    ActsR 633825300356228217211321434582 237684563100656738694955270592 s (execRecordSegment stream g s) := by
  unfold execRecordSegment
  refine ActsR.next ?_
  refine Acts.trans ?_ (acts_recSegments _ _ _) rfl rfl
  exact Acts.refl _ _ _

theorem acts_lowerLevels (s : State) (n : Nat) :
    Acts 1073741824 0 s (State.lowerLevels s n) := by
  unfold State.lowerLevels
  extract_lets a1 a2
  clear_value a1
  clear_value a2
  refine Acts.trans ?_ (acts_setStream _ _ _) rfl rfl
  exact Acts.refl _ _ _

theorem acts_openStream (s : State) (n : Nat) :
    Acts 3221225488 13565952 s (State.openStream s n) := by
  unfold State.openStream
  extract_lets a1 a2 a3 a4 a5 a6
  clear_value a1
  clear_value a2
  have ha3 : Acts 3221225488 13565952 s a3 := by
    dsimp only [a3]
    refine Acts.trans ?_ (acts_setFld _ _ _ _) rfl rfl
    refine Acts.trans ?_ (acts_setFld _ _ _ _) rfl rfl
    refine Acts.trans ?_ (acts_setFld _ _ _ _) rfl rfl
    refine Acts.trans ?_ (acts_setFld _ _ _ _) rfl rfl
    refine Acts.trans ?_ (acts_setFld _ _ _ _) rfl rfl
    exact Acts.refl _ _ _
  clear_value a3
  have ha4 : Acts 3221225488 13565952 s a4 := by
    dsimp only [a4]
    refine Acts.trans ?_ (acts_setFld _ _ _ _) rfl rfl
    refine Acts.ite (fun _ => ?_) (fun _ => ?_)
    · with_reducible assumption
    · refine Acts.trans ?_ (acts_setFld _ _ _ _) rfl rfl
      refine Acts.trans ?_ (acts_setFld _ _ _ _) rfl rfl
      with_reducible assumption
  clear_value a4
  clear_value a5
  clear_value a6
  refine Acts.trans ?_ (acts_changed _ _) rfl rfl
  refine Acts.trans ?_ (acts_setStream _ _ _) rfl rfl
  with_reducible assumption

theorem acts_sweepTile (s : State) (t : Nat) (n : Nat) (l : Nat) :
    Acts 49216 0 s (State.sweepTile s t n l) := by
  unfold State.sweepTile
  extract_lets a1 a2
  have ha1 : Acts 49216 0 s a1 := by
    dsimp only [a1]
    refine Acts.foldl (L2 := 49216) (R2 := 0) _ ?_ (fun t3 x4 => ?_) rfl rfl
    · refine Acts.trans ?_ (acts_sweepFlight _ _ _ _) rfl rfl
      exact Acts.refl _ _ _
    · refine Acts.trans ?_ (acts_onCore _ _ _) rfl rfl
      exact Acts.refl _ _ _
  clear_value a1
  clear_value a2
  refine Acts.trans ?_ (Acts.set_l3_depvb _ _ _) rfl rfl
  with_reducible assumption

theorem acts_execSweepAnswer (stream : Nat) (dest : Nat) (s : State) :
    ActsR 3221225552 13565952 s (execSweepAnswer stream dest s) := by
  unfold execSweepAnswer
  extract_lets a1
  clear_value a1
  refine ActsR.next ?_
  split
  · exact Acts.refl _ _ _
  · refine Acts.ite (fun _ => ?_) (fun _ => ?_)
    · extract_lets a2
      clear_value a2
      refine Acts.ite (fun _ => ?_) (fun _ => ?_)
      · refine Acts.trans ?_ (acts_openStream _ _) rfl rfl
        refine Acts.trans ?_ (acts_sweepFlight _ _ _ _) rfl rfl
        exact Acts.refl _ _ _
      · refine Acts.trans ?_ (acts_setStream _ _ _) rfl rfl
        exact Acts.refl _ _ _
    · exact Acts.refl _ _ _

theorem acts_advanceW (fuel n : Nat) (s : State) : Acts 3221225488 262144 s (advanceW fuel n s) := by
  induction fuel generalizing s with
  | zero => exact Acts.refl _ _ _
  | succ fuel ih =>
    unfold advanceW
    extract_lets a3
    clear_value a3
    split
    · exact Acts.refl _ _ _
    · refine Acts.ite (fun _ => ?_) (fun _ => ?_)
      · refine Acts.trans ?_ (ih _) rfl rfl
        refine Acts.trans ?_ (acts_changed _ _) rfl rfl
        refine Acts.trans ?_ (acts_setFld _ _ _ _) rfl rfl
        refine Acts.trans ?_ (acts_setStream _ _ _) rfl rfl
        exact Acts.refl _ _ _
      · exact Acts.refl _ _ _

theorem acts_execAppendAccepted (stream : Nat) (g : Nat) (s : State) :
    ActsR 13958643712 0 s (execAppendAccepted stream g s) := by
  unfold execAppendAccepted
  extract_lets a1 a2 a3 a4
  clear_value a1
  clear_value a2
  have ha3 : Acts 13958643712 0 s a3 := by
    refine Acts.trans ?_ (Acts.set_jrnRecs _ _) rfl rfl
    exact Acts.refl _ _ _
  clear_value a3
  have ha4 : Acts 13958643712 0 s a4 := by
    dsimp only [a4]
    refine Acts.trans ?_ (acts_setStream _ _ _) rfl rfl
    with_reducible assumption
  clear_value a4
  refine ActsR.next ?_
  refine Acts.ite (fun _ => ?_) (fun _ => ?_)
  · exact Acts.refl _ _ _
  · refine Acts.trans ?_ (acts_freeStaged _ _) rfl rfl
    with_reducible assumption

theorem acts_regionPut (s : State) (stream : Nat) (base : Nat) (size : Nat) (ptr : Nat) (bs : List Byte) :
    Acts 633825300116420543770987184598 75557863725914323419584 s (State.regionPut s stream base size ptr bs).1 := by
  unfold State.regionPut
  extract_lets a1 a2 a3 a4
  clear_value a1
  clear_value a2
  have ha3 : Acts 633825300116420543770987184598 75557863725914323419584 s a3 := by
    dsimp only [a3]
    refine Acts.ite (fun _ => ?_) (fun _ => ?_)
    · refine Acts.trans ?_ (acts_agentWriteBytes _ _ _ _) rfl rfl
      exact Acts.refl _ _ _
    · exact Acts.refl _ _ _
  clear_value a3
  clear_value a4
  dsimp only
  refine Acts.trans ?_ (acts_agentWriteBytes _ _ _ _) rfl rfl
  with_reducible assumption
theorem acts_regionPut_eq {s : State} {stream : Nat} {base : Nat} {size : Nat} {ptr : Nat} {bs : List Byte} {x} {t : State} (h : (State.regionPut s stream base size ptr bs) = (t, x)) : Acts 633825300116420543770987184598 75557863725914323419584 s t := by
  have := acts_regionPut s stream base size ptr bs; rw [h] at this; exact this

theorem acts_execJournalAppend (stream : Nat) (s : State) :
    ActsR 633825300356228217213603135958 237684563100656738694976897472 s (execJournalAppend stream s) := by
  unfold execJournalAppend
  refine ActsR.next ?_
  split
  · exact Acts.refl _ _ _
  · refine Acts.ite (fun _ => ?_) (fun _ => ?_)
    · exact Acts.refl _ _ _
    · extract_lets a1 a2 a3 a4 a5 a6 a7 a8 a9 a10 a11 a12 a13 a14
      clear_value a1
      clear_value a2
      clear_value a3
      clear_value a4
      clear_value a5
      clear_value a6
      clear_value (ea7 : a7 = _)
      have ha7 : Acts 633825300356228217213603135958 237684563100656738694976897472 s a7.2 := by
        rw [ea7]
        clear ea7
        refine Acts.trans ?_ (acts_appendOk _ _ _ _ _) rfl rfl
        exact Acts.refl _ _ _
      clear ea7
      clear_value (ea8 : a8 = _)
      have ha8 : Acts 633825300356228217213603135958 237684563100656738694976897472 s a8.2 := by
        rw [ea8]
        clear ea8
        refine Acts.ite2 (fun _ => ?_) (fun _ => ?_)
        · with_reducible assumption
        · refine Acts.trans ?_ (acts_appendOk _ _ _ _ _) rfl rfl
          with_reducible assumption
      clear ea8
      clear_value (ea9 : a9 = _)
      have ha9 : Acts 633825300356228217213603135958 237684563100656738694976897472 s a9.1 := by
        rw [ea9]
        clear ea9
        refine Acts.trans ?_ (acts_regionPut _ _ _ _ _ _) rfl rfl
        with_reducible assumption
      clear ea9
      have ha10 : Acts 633825300356228217213603135958 237684563100656738694976897472 s a10 := by
        dsimp only [a10]
        refine Acts.trans ?_ (acts_setFld _ _ _ _) rfl rfl
        refine Acts.trans ?_ (acts_setFld _ _ _ _) rfl rfl
        with_reducible assumption
      clear_value a10
      have ha11 : Acts 633825300356228217213603135958 237684563100656738694976897472 s a11 := by
        refine Acts.trans ?_ (Acts.set_jrnRecs _ _) rfl rfl
        with_reducible assumption
      clear_value a11
      clear_value a12
      have ha13 : Acts 633825300356228217213603135958 237684563100656738694976897472 s a13 := by
        dsimp only [a13]
        refine Acts.trans ?_ (acts_setStream _ _ _) rfl rfl
        with_reducible assumption
      clear_value a13
      clear_value a14
      refine Acts.ite (fun _ => ?_) (fun _ => ?_)
      · refine Acts.ite (fun _ => ?_) (fun _ => ?_)
        · exact Acts.refl _ _ _
        · refine Acts.trans ?_ (acts_raise _ _) rfl rfl
          refine Acts.trans ?_ (acts_setFld _ _ _ _) rfl rfl
          exact Acts.refl _ _ _
      · refine Acts.ite (fun _ => ?_) (fun _ => ?_)
        · refine Acts.trans ?_ (acts_replPump _ _) rfl rfl
          refine Acts.trans ?_ (acts_count _ _ _ _ _) rfl rfl
          refine Acts.trans ?_ (acts_count _ _ _ _ _) rfl rfl
          with_reducible assumption
        · refine Acts.trans ?_ (acts_fence _ _ _) rfl rfl
          refine Acts.trans ?_ (acts_logErr _ _ _ _ _ _) rfl rfl
          with_reducible assumption

theorem acts_execStreamDisable (ag : Agent) (stream : Nat) (level : Nat) (s : State) :
    ActsR 3169126500849580507871123194358 237684563100656738694955467200 s (execStreamDisable ag stream level s) := by
  unfold execStreamDisable
  refine ActsR.next ?_
  refine Acts.trans ?_ (acts_onWrite (L := 3169126500849580507871123194358) (R := 237684563100656738694955467200) _ _ _ _ _ ?_ rfl rfl) rfl rfl
  · exact Acts.refl _ _ _
  · intro t1
    extract_lets a2 a3
    clear_value a2
    clear_value a3
    refine Acts.ite (fun _ => ?_) (fun _ => ?_)
    · refine Acts.trans ?_ (acts_setStream _ _ _) rfl rfl
      refine Acts.trans ?_ (acts_setFld _ _ _ _) rfl rfl
      exact Acts.refl _ _ _
    · refine Acts.trans ?_ (acts_setFld _ _ _ _) rfl rfl
      exact Acts.refl _ _ _

theorem acts_execStreamEnable (ag : Agent) (stream : Nat) (level : Nat) (s : State) :
    ActsR 3169126500849580507871123194358 237684563100656738694955336128 s (execStreamEnable ag stream level s) := by
  unfold execStreamEnable
  extract_lets a1
  clear_value a1
  refine ActsR.next ?_
  refine Acts.trans ?_ (acts_onWrite (L := 3169126500849580507871123194358) (R := 237684563100656738694955336128) _ _ _ _ _ ?_ rfl rfl) rfl rfl
  · exact Acts.refl _ _ _
  · intro t2
    refine Acts.ite (fun _ => ?_) (fun _ => ?_)
    · refine Acts.trans ?_ (acts_startSweep _ _ _) rfl rfl
      exact Acts.refl _ _ _
    · exact Acts.refl _ _ _

theorem acts_execSweep (stream : Nat) (dest : Nat) (s : State) :
    ActsR 1073791040 0 s (execSweep stream dest s) := by
  unfold execSweep
  extract_lets a1 a2 a3
  clear_value a1
  have ha2 : Acts 1073791040 0 s a2 := by
    dsimp only [a2]
    refine Acts.ite (fun _ => ?_) (fun _ => ?_)
    · refine Acts.trans ?_ (acts_sweepTile _ _ _ _) rfl rfl
      exact Acts.refl _ _ _
    · exact Acts.refl _ _ _
  clear_value a2
  clear_value a3
  refine ActsR.next ?_
  refine Acts.ite (fun _ => ?_) (fun _ => ?_)
  · refine Acts.trans ?_ (acts_setStream _ _ _) rfl rfl
    with_reducible assumption
  · exact Acts.refl _ _ _

theorem acts_execPublicationRound (s : State) :
    ActsR 633825300114114700785932566528 0 s (execPublicationRound s) := by
  unfold execPublicationRound
  extract_lets a1 a2 a3 a4 a5
  clear_value a1
  clear_value a2
  have ha3 : Acts 633825300114114700785932566528 0 s a3 := by
    dsimp only [a3]
    refine Acts.foldl (L2 := 633825300114114700785932566528) (R2 := 0) _ ?_ (fun t6 x7 => ?_) rfl rfl
    · exact Acts.refl _ _ _
    · refine Acts.trans ?_ (acts_setStream _ _ _) rfl rfl
      exact Acts.refl _ _ _
  clear_value a3
  have ha4 : Acts 633825300114114700785932566528 0 s a4 := by
    refine Acts.trans ?_ (Acts.set_spnChanged _ _) rfl rfl
    with_reducible assumption
  clear_value a4
  have ha5 : Acts 633825300114114700785932566528 0 s a5 := by
    dsimp only [a5]
    refine Acts.foldl (L2 := 633825300114114700785932566528) (R2 := 0) _ ?_ (fun t8 x9 => ?_) rfl rfl
    · with_reducible assumption
    · refine Acts.trans ?_ (Acts.set_pubFlits _ _) rfl rfl
      exact Acts.refl _ _ _
  clear_value a5
  refine ActsR.next ?_
  refine Acts.ite (fun _ => ?_) (fun _ => ?_)
  · exact Acts.refl _ _ _
  · refine Acts.trans ?_ (acts_count _ _ _ _ _) rfl rfl
    with_reducible assumption

theorem acts_execResolution (stream : Nat) (s : State) :
    ActsR 633825300356228216732432581078 237684563100656738694972965312 s (execResolution stream s) := by
  unfold execResolution
  refine ActsR.next ?_
  refine Acts.ite (fun _ => ?_) (fun _ => ?_)
  · refine Acts.trans ?_ (acts_serveParked _ _ _) rfl rfl
    refine Acts.trans ?_ (acts_advanceW _ _ _) rfl rfl
    exact Acts.refl _ _ _
  · exact Acts.refl _ _ _

theorem acts_judge (s : State) (n : Nat) :
    Acts 633825300356228216730285097430 237684563100656765083234337216 s (State.judge s n) := by
  unfold State.judge
  extract_lets a1 a2 a3 a4 a5 a6
  clear_value a1
  clear_value a3
  have ha4 : Acts 633825300356228216730285097430 237684563100656765083234337216 s a4 := by
    dsimp only [a4]
    refine Acts.trans ?_ (acts_logErr _ _ _ _ _ _) rfl rfl
    refine Acts.trans ?_ (acts_setReplState _ _ _) rfl rfl
    exact Acts.refl _ _ _
  clear_value a4
  have ha5 : Acts 633825300356228216730285097430 237684563100656765083234337216 s a5 := by
    dsimp only [a5]
    refine Acts.trans ?_ (acts_lowerLevels _ _) rfl rfl
    with_reducible assumption
  clear_value a5
  have ha6 : Acts 633825300356228216730285097430 237684563100656765083234337216 s a6 := by
    dsimp only [a6]
    refine Acts.ite (fun _ => ?_) (fun _ => ?_)
    · refine Acts.trans ?_ (acts_setFld _ _ _ _) rfl rfl
      with_reducible assumption
    · with_reducible assumption
  clear_value a6
  refine Acts.ite (fun _ => ?_) (fun _ => ?_)
  · refine Acts.ite (fun _ => ?_) (fun _ => ?_)
    · refine Acts.trans ?_ (acts_logErr _ _ _ _ _ _) rfl rfl
      with_reducible assumption
    · with_reducible assumption
  · refine Acts.ite (fun _ => ?_) (fun _ => ?_)
    · refine Acts.ite (fun _ => ?_) (fun _ => ?_)
      · refine Acts.ite (fun _ => ?_) (fun _ => ?_)
        · refine Acts.trans ?_ (acts_lowerLevels _ _) rfl rfl
          exact Acts.refl _ _ _
        · exact Acts.refl _ _ _
      · refine Acts.trans ?_ (acts_setReplState _ _ _) rfl rfl
        exact Acts.refl _ _ _
    · exact Acts.refl _ _ _

theorem acts_execFenceStream (ag : Agent) (stream : Nat) (s : State) :
    ActsR 3169126500849580507873270678006 237684563100656738694972703168 s (execFenceStream ag stream s) := by
  unfold execFenceStream
  refine ActsR.next ?_
  refine Acts.trans ?_ (acts_onWrite (L := 3169126500849580507873270678006) (R := 237684563100656738694972703168) _ _ _ _ _ ?_ rfl rfl) rfl rfl
  · exact Acts.refl _ _ _
  · intro t1
    refine Acts.trans ?_ (acts_fence _ _ _) rfl rfl
    exact Acts.refl _ _ _

theorem acts_execCommitRequest (c : Nat) (s : State) :
    ActsR 633825300356228216732432581078 237684563100656738694972703168 s (execCommitRequest c s) := by
  unfold execCommitRequest
  refine ActsR.next ?_
  refine Acts.trans ?_ (acts_commitRequest _ _) rfl rfl
  exact Acts.refl _ _ _

theorem acts_setRstate (s : State) (n : Nat) (r : Nat) (v : Nat) :
    Acts 633825300356228216730285097430 237684563100656765083234337216 s (State.setRstate s n r v) := by
  unfold State.setRstate
  refine Acts.ite (fun _ => ?_) (fun _ => ?_)
  · exact Acts.refl _ _ _
  · refine Acts.trans ?_ (acts_judge _ _) rfl rfl
    refine Acts.trans ?_ (acts_raise _ _) rfl rfl
    refine Acts.trans ?_ (acts_setFld _ _ _ _) rfl (by split <;> rfl)
    exact Acts.refl _ _ _

theorem acts_execStagingReservation (c : Nat) (s : State) :
    ActsR 4294967300 0 s (execStagingReservation c s) := by
  unfold execStagingReservation
  extract_lets a1
  clear_value a1
  refine ActsR.next ?_
  split
  · refine Acts.ite (fun _ => ?_) (fun _ => ?_)
    · extract_lets a2
      clear_value a2
      refine Acts.trans ?_ (acts_grantAll _) rfl rfl
      refine Acts.trans ?_ (Acts.set_stamp_jrnRes _ _ _) rfl rfl
      exact Acts.refl _ _ _
    · refine Acts.trans ?_ (acts_grantAll _) rfl rfl
      exact Acts.refl _ _ _
  · refine Acts.trans ?_ (acts_grantAll _) rfl rfl
    exact Acts.refl _ _ _

end Sys2Proof.Machine
end

