-- ==== Sys2Proof/Laws/CommitActs.lean ====
section
/-! SUPPORT. What each operation and each command of Commit.lean may touch: `acts_<name>` bounds the fields and the registers that
`<name>` can change (see Acts.lean). -/

namespace Sys2Proof.Machine

open Sys2Proof

theorem acts_csrDone (s : State) (c : Nat) (rd : Nat) (len : Nat) (old : W) :
    Acts 3327582825601408021942891446352 3245185536659825131557474529181888 s (State.csrDone s c rd len old) := by
  unfold State.csrDone
  refine Acts.trans ?_ (acts_retire _ _ _ _ _) rfl rfl
  refine Acts.trans ?_ (acts_onCore _ _ _) rfl rfl
  exact Acts.refl _ _ _

theorem acts_depseqInsn (s : State) (c : Nat) (op : Nat) (rd : Nat) (rs1 : Nat) (imm : Bool) (len : Nat) :
    Acts 3327582825601408021942891446352 3245185536659825131557474529181888 s (State.depseqInsn s c op rd rs1 imm len) := by
  unfold State.depseqInsn
  extract_lets a1 a2 a3 a4 a5
  clear_value a1
  clear_value a2
  clear_value a3
  clear_value a4
  have ha5 : Acts 3327582825601408021942891446352 3245185536659825131557474529181888 s a5 := by
    dsimp only [a5]
    refine Acts.trans ?_ (acts_pairLog _ _ _ _) rfl rfl
    exact Acts.refl _ _ _
  clear_value a5
  refine Acts.ite (fun _ => ?_) (fun _ => ?_)
  · refine Acts.trans ?_ (acts_onCore _ _ _) rfl rfl
    with_reducible assumption
  · refine Acts.trans ?_ (acts_csrDone _ _ _ _ _) rfl rfl
    with_reducible assumption

theorem acts_execCgTest (c : Nat) (rd : Nat) (len : Nat) (insn : W) (s : State) :
    ActsR 3327582825601408021942891446352 3245185536660415427367833234833600 s (execCgTest c rd len insn s) := by
  unfold execCgTest
  refine ActsR.next ?_
  refine Acts.trans ?_ (acts_issue (L := 3327582825601408021942891446352) (R := 3245185536660415427367833234833600) _ _ _ ?_ rfl rfl) rfl rfl
  · exact Acts.refl _ _ _
  · intro t1
    extract_lets a2 a3
    clear_value a2
    clear_value a3
    refine Acts.ite (fun _ => ?_) (fun _ => ?_)
    · refine Acts.trans ?_ (acts_illegal _ _ _ _) rfl rfl
      exact Acts.refl _ _ _
    · refine Acts.trans ?_ (acts_retire _ _ _ _ _) rfl rfl
      refine Acts.trans ?_ (acts_onCore _ _ _) rfl rfl
      exact Acts.refl _ _ _

theorem acts_cgAbort (s : State) (c : Nat) (code : Nat) (cause : Nat) (user : Nat) :
    Acts 3327582825601408021942891446352 649037107392411317292226364571840 s (State.cgAbort s c code cause user) := by
  unfold State.cgAbort
  split
  · refine Acts.ite (fun _ => ?_) (fun _ => ?_)
    · refine Acts.trans ?_ (acts_trace _ _ _ _ _) rfl rfl
      refine Acts.trans ?_ (acts_abortGroup _ _ _ _ _) rfl rfl
      exact Acts.refl _ _ _
    · exact Acts.refl _ _ _
  · exact Acts.refl _ _ _

theorem acts_execJournalFull (c : Nat) (s : State) :
    ActsR 3327582825601408021942891446352 649037107392411317292226364571840 s (execJournalFull c s) := by
  unfold execJournalFull
  refine ActsR.next ?_
  split
  · refine Acts.ite (fun _ => ?_) (fun _ => ?_)
    · refine Acts.trans ?_ (acts_cgAbort _ _ _ _ _) rfl rfl
      exact Acts.refl _ _ _
    · exact Acts.refl _ _ _
  · exact Acts.refl _ _ _

theorem acts_cgRetire (s : State) (c : Nat) (rd : Nat) (len : Nat) (v : W) :
    Acts 3327582825601408021942891446352 3245185536659825131557474529181888 s (State.cgRetire s c rd len v) := by
  unfold State.cgRetire
  refine Acts.trans ?_ (acts_closeIval _ _) rfl rfl
  refine Acts.trans ?_ (acts_retire _ _ _ _ _) rfl rfl
  refine Acts.trans ?_ (acts_onCore _ _ _) rfl rfl
  exact Acts.refl _ _ _

theorem acts_cgTryRetire (s : State) (c : Nat) :
    Acts 3327582825601408021942891446352 3245185536659825131557474529181888 s (State.cgTryRetire s c) := by
  unfold State.cgTryRetire
  extract_lets a1 a2
  clear_value a1
  clear_value a2
  split
  · exact Acts.refl _ _ _
  · extract_lets a3 a4
    clear_value a4
    refine Acts.ite (fun _ => ?_) (fun _ => ?_)
    · exact Acts.refl _ _ _
    · refine Acts.ite (fun _ => ?_) (fun _ => ?_)
      · refine Acts.trans ?_ (acts_cgRetire _ _ _ _ _) rfl rfl
        exact Acts.refl _ _ _
      · refine Acts.ite (fun _ => ?_) (fun _ => ?_)
        · dsimp only [a3]
          refine Acts.trans ?_ (acts_cgRetire _ _ _ _ _) rfl rfl
          refine Acts.trans ?_ (acts_setFld _ _ _ _) rfl rfl
          refine Acts.trans ?_ (acts_setFld _ _ _ _) rfl rfl
          refine Acts.trans ?_ (acts_setFld _ _ _ _) rfl rfl
          refine Acts.trans ?_ (acts_setFld _ _ _ _) rfl rfl
          refine Acts.trans ?_ (acts_setFld _ _ _ _) rfl rfl
          exact Acts.refl _ _ _
        · refine Acts.ite (fun _ => ?_) (fun _ => ?_)
          · dsimp only [a3]
            refine Acts.trans ?_ (acts_cgRetire _ _ _ _ _) rfl rfl
            refine Acts.trans ?_ (acts_setFld _ _ _ _) rfl rfl
            refine Acts.trans ?_ (acts_setFld _ _ _ _) rfl rfl
            refine Acts.trans ?_ (acts_setFld _ _ _ _) rfl rfl
            refine Acts.trans ?_ (acts_setFld _ _ _ _) rfl rfl
            refine Acts.trans ?_ (acts_setFld _ _ _ _) rfl rfl
            exact Acts.refl _ _ _
          · refine Acts.ite (fun _ => ?_) (fun _ => ?_)
            · refine Acts.trans ?_ (acts_cgRetire _ _ _ _ _) rfl rfl
              exact Acts.refl _ _ _
            · exact Acts.refl _ _ _

theorem acts_execCgDepseqAnswer (c : Nat) (s : State) :
    ActsR 3327582825601408021942891446352 3245185536659825131557474529181888 s (execCgDepseqAnswer c s) := by
  unfold execCgDepseqAnswer
  extract_lets a1
  clear_value a1
  refine ActsR.next ?_
  split
  · exact Acts.refl _ _ _
  · extract_lets a2 a3 a4 a5 a6
    clear_value a2
    clear_value a3
    clear_value a4
    clear_value a5
    have ha6 : Acts 3327582825601408021942891446352 3245185536659825131557474529181888 s a6 := by
      dsimp only [a6]
      refine Acts.trans ?_ (acts_setCore _ _ _) rfl rfl
      exact Acts.refl _ _ _
    clear_value a6
    refine Acts.trans ?_ (acts_csrDone _ _ _ _ _) rfl rfl
    with_reducible assumption

theorem acts_retryCbo (s : State) (t : Nat) :
    Acts 5423558 0 s (State.retryCbo s t) := by
  unfold State.retryCbo
  refine Acts.foldl (L2 := 5423558) (R2 := 0) _ ?_ (fun t1 x2 => ?_) rfl rfl
  · exact Acts.refl _ _ _
  · split
    · split
      · refine Acts.ite (fun _ => ?_) (fun _ => ?_)
        · refine Acts.trans ?_ (acts_finishCbo _ _ _ _) rfl rfl
          exact Acts.refl _ _ _
        · exact Acts.refl _ _ _
      · exact Acts.refl _ _ _
    · exact Acts.refl _ _ _

theorem acts_execFlipWindowEnd (c : Nat) (s : State) :
    ActsR 3327582825601408021951481380944 3245185536659825131557474529182144 s (execFlipWindowEnd c s) := by
  unfold execFlipWindowEnd
  refine ActsR.next ?_
  split
  · split
    · refine Acts.trans ?_ (acts_cgTryRetire _ _) rfl rfl
      refine Acts.trans ?_ (acts_finishFlip _ _) rfl rfl
      exact Acts.refl _ _ _
    · exact Acts.refl _ _ _
  · exact Acts.refl _ _ _

theorem acts_fencedGroup (s : State) (c : Nat) :
    Acts 3327582825601408021942891446352 649037107392411317292226364571840 s (State.fencedGroup s c) := by
  unfold State.fencedGroup
  split
  · refine Acts.ite (fun _ => ?_) (fun _ => ?_)
    · refine Acts.trans ?_ (acts_cgAbort _ _ _ _ _) rfl rfl
      exact Acts.refl _ _ _
    · exact Acts.refl _ _ _
  · exact Acts.refl _ _ _

theorem acts_depsAfter (s : State) (c : Nat) (e : PubEnt) :
    Acts 3327582825601408021942891446352 649037107392411317292226364571840 s (State.depsAfter s c e) := by
  unfold State.depsAfter
  extract_lets a1 a2 a3 a4
  clear_value a1
  clear_value a2
  clear_value a3
  clear_value a4
  refine Acts.ite (fun _ => ?_) (fun _ => ?_)
  · refine Acts.trans ?_ (acts_setCore _ _ _) rfl rfl
    exact Acts.refl _ _ _
  · refine Acts.ite (fun _ => ?_) (fun _ => ?_)
    · refine Acts.trans ?_ (acts_cgAbort _ _ _ _ _) rfl rfl
      refine Acts.trans ?_ (acts_raise _ _) rfl rfl
      refine Acts.trans ?_ (acts_setFld _ _ _ _) rfl rfl
      refine Acts.trans ?_ (acts_setCore _ _ _) rfl rfl
      exact Acts.refl _ _ _
    · exact Acts.refl _ _ _

theorem acts_lostClear (s : State) (c : Nat) :
    Acts 80 64 s (State.lostClear s c) := by
  unfold State.lostClear
  refine Acts.trans ?_ (acts_setFld _ _ _ _) rfl rfl
  refine Acts.trans ?_ (acts_onCore _ _ _) rfl rfl
  exact Acts.refl _ _ _

theorem acts_lostClearInsn (s : State) (c : Nat) (op : Nat) (rd : Nat) (rs1 : Nat) (imm : Bool) (len : Nat) :
    Acts 3327582825601408021942891446352 3245185536659825131557474529181888 s (State.lostClearInsn s c op rd rs1 imm len) := by
  unfold State.lostClearInsn
  extract_lets a1 a2 a3
  clear_value a1
  clear_value a2
  have ha3 : Acts 3327582825601408021942891446352 3245185536659825131557474529181888 s a3 := by
    dsimp only [a3]
    refine Acts.trans ?_ (acts_pairLog _ _ _ _) rfl rfl
    exact Acts.refl _ _ _
  clear_value a3
  refine Acts.trans ?_ (acts_csrDone _ _ _ _ _) rfl rfl
  refine Acts.ite (fun _ => ?_) (fun _ => ?_)
  · refine Acts.trans ?_ (acts_lostClear _ _) rfl rfl
    with_reducible assumption
  · with_reducible assumption

theorem acts_execLostClear (c : Nat) (op : Nat) (rd : Nat) (rs1 : Nat) (imm : Bool) (len : Nat) (s : State) :
    ActsR 3327582825601408021942891446352 3245185536659825131557474529181888 s (execLostClear c op rd rs1 imm len s) := by
  unfold execLostClear
  refine ActsR.next ?_
  refine Acts.trans ?_ (acts_issue (L := 3327582825601408021942891446352) (R := 3245185536659825131557474529181888) _ _ _ ?_ rfl rfl) rfl rfl
  · exact Acts.refl _ _ _
  · intro t1
    refine Acts.trans ?_ (acts_lostClearInsn _ _ _ _ _ _ _) rfl rfl
    exact Acts.refl _ _ _

theorem acts_execStagingGrant (c : Nat) (s : State) :
    ActsR 4294967360 0 s (execStagingGrant c s) := by
  unfold execStagingGrant
  extract_lets a1
  clear_value a1
  refine ActsR.next ?_
  split
  · exact Acts.refl _ _ _
  · extract_lets a2 a3 a4 a5 a6
    clear_value a2
    clear_value a3
    clear_value a4
    clear_value a5
    have ha6 : Acts 4294967360 0 s a6 := by
      dsimp only [a6]
      refine Acts.trans ?_ (acts_setCore _ _ _) rfl rfl
      exact Acts.refl _ _ _
    clear_value a6
    refine Acts.ite (fun _ => ?_) (fun _ => ?_)
    · refine Acts.trans ?_ (Acts.set_jrnRes _ _) rfl rfl
      with_reducible assumption
    · exact Acts.refl _ _ _

theorem acts_clearTags (s : State) (c : Nat) :
    Acts 64 0 s (State.clearTags s c) := by
  unfold State.clearTags
  extract_lets a1 a2
  clear_value a1
  clear_value a2
  refine Acts.trans ?_ (acts_onCore _ _ _) rfl rfl
  exact Acts.refl _ _ _

theorem acts_depvbDrain (s : State) (t : Nat) :
    Acts 33152 0 s (State.depvbDrain s t) := by
  unfold State.depvbDrain
  refine Acts.foldl (L2 := 33152) (R2 := 0) _ ?_ (fun t1 x2 => ?_) rfl rfl
  · exact Acts.refl _ _ _
  · refine Acts.ite (fun _ => ?_) (fun _ => ?_)
    · exact Acts.refl _ _ _
    · split
      · exact Acts.refl _ _ _
      · extract_lets a3
        split
        · dsimp only [a3]
          refine Acts.trans ?_ (Acts.set_depvb _ _) rfl rfl
          refine Acts.trans ?_ (acts_dramWrite _ _ _ _) rfl rfl
          exact Acts.refl _ _ _
        · refine Acts.ite (fun _ => ?_) (fun _ => ?_)
          · dsimp only [a3]
            refine Acts.trans ?_ (Acts.set_depvb _ _) rfl rfl
            refine Acts.trans ?_ (acts_dramWrite _ _ _ _) rfl rfl
            exact Acts.refl _ _ _
          · exact Acts.refl _ _ _

theorem acts_takePub (s : State) (dest : Nat) (e : PubEnt) :
    Acts 3327582825601408021960076739030 649037107392411317292226364571840 s (State.takePub s dest e) := by
  unfold State.takePub
  extract_lets a1 a2 a3 a4
  clear_value a1
  clear_value a2
  have ha3 : Acts 3327582825601408021960076739030 649037107392411317292226364571840 s a3 := by
    refine Acts.trans ?_ (Acts.set_pubs _ _) rfl rfl
    exact Acts.refl _ _ _
  clear_value a3
  have ha4 : Acts 3327582825601408021960076739030 649037107392411317292226364571840 s a4 := by
    dsimp only [a4]
    refine Acts.foldl (L2 := 3327582825601408021960076739030) (R2 := 649037107392411317292226364571840) _ ?_ (fun t5 x6 => ?_) rfl rfl
    · with_reducible assumption
    · refine Acts.trans ?_ (acts_depsAfter _ _ _) rfl rfl
      refine Acts.trans ?_ (acts_clearTags _ _) rfl rfl
      exact Acts.refl _ _ _
  clear_value a4
  refine Acts.ite (fun _ => ?_) (fun _ => ?_)
  · with_reducible assumption
  · refine Acts.trans ?_ (acts_retryCbo _ _) rfl rfl
    refine Acts.trans ?_ (acts_depvbDrain _ _) rfl rfl
    with_reducible assumption

theorem acts_execWatermarkPublication (dest : Nat) (s : State) :
    ActsR 3327582825601408021994436477398 3245185536659825131557474529181888 s (execWatermarkPublication dest s) := by
  unfold execWatermarkPublication
  refine ActsR.next ?_
  split
  · exact Acts.refl _ _ _
  · extract_lets a1
    have ha1 : Acts 3327582825601408021994436477398 3245185536659825131557474529181888 s a1 := by
      dsimp only [a1]
      refine Acts.foldl (L2 := 3327582825601408021994436477398) (R2 := 3245185536659825131557474529181888) _ ?_ (fun t2 x3 => ?_) rfl rfl
      · refine Acts.trans ?_ (Acts.set_pubFlits _ _) rfl rfl
        exact Acts.refl _ _ _
      · refine Acts.trans ?_ (acts_takePub _ _ _) rfl rfl
        exact Acts.refl _ _ _
    clear_value a1
    refine Acts.ite (fun _ => ?_) (fun _ => ?_)
    · with_reducible assumption
    · refine Acts.foldl (L2 := 3327582825601408021994436477398) (R2 := 3245185536659825131557474529181888) _ ?_ (fun t4 x5 => ?_) rfl rfl
      · with_reducible assumption
      · refine Acts.trans ?_ (acts_cgTryRetire _ _) rfl rfl
        refine Acts.trans ?_ (acts_fencedGroup _ _) rfl rfl
        exact Acts.refl _ _ _

theorem acts_execCommitReply (c : Nat) (s : State) :
    ActsR 3327582825841215695408995615190 649274791879954110305006996423104 s (execCommitReply c s) := by
  unfold execCommitReply
  extract_lets a1
  clear_value a1
  refine ActsR.next ?_
  split
  · exact Acts.refl _ _ _
  · extract_lets a2 a3 a4 a5
    clear_value a2
    clear_value a3
    have ha4 : Acts 3327582825841215695408995615190 649274791879954110305006996423104 s a4 := by
      refine Acts.trans ?_ (Acts.set_pubs _ _) rfl rfl
      exact Acts.refl _ _ _
    clear_value a4
    have ha5 : Acts 3327582825841215695408995615190 649274791879954110305006996423104 s a5 := by
      dsimp only [a5]
      refine Acts.trans ?_ (acts_setCore _ _ _) rfl rfl
      with_reducible assumption
    clear_value a5
    refine Acts.ite (fun _ => ?_) (fun _ => ?_)
    · refine Acts.ite (fun _ => ?_) (fun _ => ?_)
      · with_reducible assumption
      · refine Acts.trans ?_ (acts_voidRec _ _ _) rfl rfl
        with_reducible assumption
    · split
      · refine Acts.ite (fun _ => ?_) (fun _ => ?_)
        · extract_lets a6
          clear_value a6
          refine Acts.trans ?_ (acts_trace _ _ _ _ _) rfl rfl
          refine Acts.trans ?_ (acts_pairLog _ _ _ _) rfl rfl
          refine Acts.trans ?_ (acts_onCore _ _ _) rfl rfl
          with_reducible assumption
        · with_reducible assumption
      · with_reducible assumption

theorem acts_execCgInterruptDeferral (c : Nat) (s : State) :
    ActsR 3327582825601408021942891446352 649037107392411317292226364571840 s (execCgInterruptDeferral c s) := by
  unfold execCgInterruptDeferral
  extract_lets a1
  clear_value a1
  refine ActsR.next ?_
  split
  · refine Acts.ite (fun _ => ?_) (fun _ => ?_)
    · refine Acts.trans ?_ (acts_cgAbort _ _ _ _ _) rfl rfl
      exact Acts.refl _ _ _
    · exact Acts.refl _ _ _
  · exact Acts.refl _ _ _

theorem acts_execCgEnd (c : Nat) (rd : Nat) (rs1 : Nat) (len : Nat) (insn : W) (s : State) :
    ActsR 3327582825601408021942904029264 3245185536660415427367833234833856 s (execCgEnd c rd rs1 len insn s) := by
  unfold execCgEnd
  refine ActsR.next ?_
  refine Acts.ite (fun _ => ?_) (fun _ => ?_)
  · refine Acts.trans ?_ (acts_cgTryRetire _ _) rfl rfl
    exact Acts.refl _ _ _
  · refine Acts.trans ?_ (acts_issue (L := 3327582825601408021942904029264) (R := 3245185536660415427367833234833856) _ _ _ ?_ rfl rfl) rfl rfl
    · exact Acts.refl _ _ _
    · intro t1
      extract_lets a2 a3 a4 a5 a6
      clear_value a2
      clear_value a3
      clear_value a4
      clear_value a5
      have ha6 : Acts 3327582825601408021942904029264 3245185536660415427367833234833856 t1 a6 := by
        dsimp only [a6]
        refine Acts.trans ?_ (acts_setFld _ _ _ _) rfl rfl
        refine Acts.trans ?_ (acts_setCore _ _ _) rfl rfl
        exact Acts.refl _ _ _
      clear_value a6
      refine Acts.ite (fun _ => ?_) (fun _ => ?_)
      · refine Acts.trans ?_ (acts_illegal _ _ _ _) rfl rfl
        exact Acts.refl _ _ _
      · refine Acts.ite (fun _ => ?_) (fun _ => ?_)
        · refine Acts.trans ?_ (acts_closeIval _ _) rfl rfl
          exact Acts.refl _ _ _
        · split
          · refine Acts.ite (fun _ => ?_) (fun _ => ?_)
            · exact Acts.refl _ _ _
            · refine Acts.trans ?_ (acts_cgRetire _ _ _ _ _) rfl rfl
              refine Acts.trans ?_ (acts_onCore _ _ _) rfl rfl
              exact Acts.refl _ _ _
          · refine Acts.ite (fun _ => ?_) (fun _ => ?_)
            · refine Acts.trans ?_ (acts_cgAbort _ _ _ _ _) rfl rfl
              exact Acts.refl _ _ _
            · refine Acts.ite (fun _ => ?_) (fun _ => ?_)
              · refine Acts.trans ?_ (acts_ownReqs _ _) rfl rfl
                exact Acts.refl _ _ _
              · refine Acts.ite (fun _ => ?_) (fun _ => ?_)
                · refine Acts.ite (fun _ => ?_) (fun _ => ?_)
                  · exact Acts.refl _ _ _
                  · refine Acts.trans ?_ (acts_cgRetire _ _ _ _ _) rfl rfl
                    refine Acts.trans ?_ (acts_trace _ _ _ _ _) rfl rfl
                    refine Acts.trans ?_ (Acts.wr _ _ _ _) rfl rfl
                    with_reducible assumption
                · refine Acts.ite (fun _ => ?_) (fun _ => ?_)
                  · exact Acts.refl _ _ _
                  · extract_lets a7
                    clear_value a7
                    refine Acts.trans ?_ (acts_setCore _ _ _) rfl rfl
                    exact Acts.refl _ _ _

theorem acts_execCgBegin (c : Nat) (rd : Nat) (rs1 : Nat) (len : Nat) (insn : W) (s : State) :
    ActsR 3327582825601408021942891446352 3245185536660415427367833234833600 s (execCgBegin c rd rs1 len insn s) := by
  unfold execCgBegin
  refine ActsR.next ?_
  refine Acts.trans ?_ (acts_issue (L := 3327582825601408021942891446352) (R := 3245185536660415427367833234833600) _ _ _ ?_ rfl rfl) rfl rfl
  · exact Acts.refl _ _ _
  · intro t1
    extract_lets a2 a3 a4 a5 a6 a7 a8 a9
    clear_value a2
    clear_value a3
    clear_value a4
    clear_value a5
    clear_value a6
    clear_value a7
    have ha8 : Acts 3327582825601408021942891446352 3245185536660415427367833234833600 t1 a8 := by
      dsimp only [a8]
      refine Acts.trans ?_ (acts_setFld _ _ _ _) rfl rfl
      refine Acts.trans ?_ (acts_setCore _ _ _) rfl rfl
      exact Acts.refl _ _ _
    clear_value a8
    have ha9 : Acts 3327582825601408021942891446352 3245185536660415427367833234833600 t1 a9 := by
      dsimp only [a9]
      refine Acts.trans ?_ (acts_closeIval _ _) rfl rfl
      refine Acts.trans ?_ (acts_retire _ _ _ _ _) rfl rfl
      refine Acts.trans ?_ (acts_trace _ _ _ _ _) rfl rfl
      refine Acts.trans ?_ (acts_coreCount _ _ _) rfl rfl
      with_reducible assumption
    clear_value a9
    split
    · refine Acts.trans ?_ (acts_cgAbort _ _ _ _ _) rfl rfl
      exact Acts.refl _ _ _
    · refine Acts.ite (fun _ => ?_) (fun _ => ?_)
      · refine Acts.trans ?_ (acts_illegal _ _ _ _) rfl rfl
        exact Acts.refl _ _ _
      · refine Acts.ite (fun _ => ?_) (fun _ => ?_)
        · refine Acts.trans ?_ (acts_closeIval _ _) rfl rfl
          exact Acts.refl _ _ _
        · refine Acts.ite (fun _ => ?_) (fun _ => ?_)
          · exact Acts.refl _ _ _
          · refine Acts.ite (fun _ => ?_) (fun _ => ?_)
            · refine Acts.trans ?_ (acts_cgAbort _ _ _ _ _) rfl rfl
              with_reducible assumption
            · refine Acts.ite (fun _ => ?_) (fun _ => ?_)
              · refine Acts.trans ?_ (acts_cgAbort _ _ _ _ _) rfl rfl
                with_reducible assumption
              · refine Acts.ite (fun _ => ?_) (fun _ => ?_)
                · refine Acts.trans ?_ (acts_cgAbort _ _ _ _ _) rfl rfl
                  with_reducible assumption
                · with_reducible assumption

theorem acts_execFenceD (c : Nat) (len : Nat) (insn : W) (s : State) :
    ActsR 3327582825601408021942891446352 3245185536660415427367833234833600 s (execFenceD c len insn s) := by
  unfold execFenceD
  refine ActsR.next ?_
  refine Acts.trans ?_ (acts_issue (L := 3327582825601408021942891446352) (R := 3245185536660415427367833234833600) _ _ _ ?_ rfl rfl) rfl rfl
  · exact Acts.refl _ _ _
  · intro t1
    extract_lets a2 a3
    clear_value a2
    have ha3 : Acts 3327582825601408021942891446352 3245185536660415427367833234833600 t1 a3 := by
      dsimp only [a3]
      refine Acts.ite (fun _ => ?_) (fun _ => ?_)
      · refine Acts.trans ?_ (acts_setFld _ _ _ _) rfl rfl
        exact Acts.refl _ _ _
      · exact Acts.refl _ _ _
    clear_value a3
    refine Acts.ite (fun _ => ?_) (fun _ => ?_)
    · refine Acts.trans ?_ (acts_illegal _ _ _ _) rfl rfl
      exact Acts.refl _ _ _
    · refine Acts.ite (fun _ => ?_) (fun _ => ?_)
      · refine Acts.trans ?_ (acts_closeIval _ _) rfl rfl
        exact Acts.refl _ _ _
      · refine Acts.ite (fun _ => ?_) (fun _ => ?_)
        · exact Acts.refl _ _ _
        · refine Acts.trans ?_ (acts_closeIval _ _) rfl rfl
          refine Acts.trans ?_ (acts_retire _ _ _ _ _) rfl rfl
          with_reducible assumption

theorem acts_execCgDepseqWrite (c : Nat) (op : Nat) (rd : Nat) (rs1 : Nat) (imm : Bool) (len : Nat) (s : State) :
    ActsR 3327582825601408021942891446352 3245185536659825131557474529181888 s (execCgDepseqWrite c op rd rs1 imm len s) := by
  unfold execCgDepseqWrite
  refine ActsR.next ?_
  refine Acts.trans ?_ (acts_issue (L := 3327582825601408021942891446352) (R := 3245185536659825131557474529181888) _ _ _ ?_ rfl rfl) rfl rfl
  · exact Acts.refl _ _ _
  · intro t1
    refine Acts.trans ?_ (acts_depseqInsn _ _ _ _ _ _ _) rfl rfl
    exact Acts.refl _ _ _

theorem acts_execCgAbort (c : Nat) (rs1 : Nat) (len : Nat) (insn : W) (s : State) :
    ActsR 3327582825601408021942891446352 3245185536660415427367833234833600 s (execCgAbort c rs1 len insn s) := by
  unfold execCgAbort
  refine ActsR.next ?_
  refine Acts.trans ?_ (acts_issue (L := 3327582825601408021942891446352) (R := 3245185536660415427367833234833600) _ _ _ ?_ rfl rfl) rfl rfl
  · exact Acts.refl _ _ _
  · intro t1
    extract_lets a2
    clear_value a2
    refine Acts.ite (fun _ => ?_) (fun _ => ?_)
    · refine Acts.trans ?_ (acts_illegal _ _ _ _) rfl rfl
      exact Acts.refl _ _ _
    · split
      · refine Acts.trans ?_ (acts_cgAbort _ _ _ _ _) rfl rfl
        exact Acts.refl _ _ _
      · refine Acts.trans ?_ (acts_retire _ _ _ _ _) rfl rfl
        exact Acts.refl _ _ _

end Sys2Proof.Machine
end

