-- ==== Sys2Proof/Laws/PairsActs.lean ====
section
/-! SUPPORT. What each operation and each command of Pairs.lean may touch: `acts_<name>` bounds the fields and the registers that
`<name>` can change (see Acts.lean). -/

namespace Sys2Proof.Machine

open Sys2Proof

theorem acts_setPair (s : State) (i : Nat) (p : Pair) :
    Acts 536870912 0 s (State.setPair s i p) := by
  unfold State.setPair
  refine Acts.trans ?_ (Acts.set_pairs _ _) rfl rfl
  exact Acts.refl _ _ _

theorem acts_tongsRecord (s : State) (i : Nat) (slot : Nat) (cls : Nat) (code : Nat) (pc : W) :
    Acts 633825300356228216729211355606 237684563100656738694955270592 s (State.tongsRecord s i slot cls code pc) := by
  unfold State.tongsRecord
  refine Acts.trans ?_ (acts_logErr _ _ _ _ _ _) rfl rfl
  exact Acts.refl _ _ _

theorem acts_pairFld (s : State) (i : Nat) (F : Fld) (v : Nat) :
    Acts 16 680564733841876926926749214863536422911 s (State.pairFld s i F v) := by
  unfold State.pairFld
  refine Acts.trans ?_ (acts_setFld _ _ _ _) rfl (RegId.inAll _)
  refine Acts.trans ?_ (acts_setFld _ _ _ _) rfl (RegId.inAll _)
  exact Acts.refl _ _ _

theorem acts_stopPair (s : State) (i : Nat) (outcome : Nat) (code : Nat) (iv : Ival) :
    Acts 633825300356228216729211355606 680564733841876926926749214863536422911 s (State.stopPair s i outcome code iv) := by
  unfold State.stopPair
  extract_lets a1 a2 a3 a4 a5
  have ha2 : Acts 633825300356228216729211355606 680564733841876926926749214863536422911 s a2 := by
    dsimp only [a2]
    dsimp only [a1]
    refine Acts.trans ?_ (acts_onCore _ _ _) rfl rfl
    refine Acts.trans ?_ (acts_ivalRestore _ _ _) rfl rfl
    refine Acts.trans ?_ (acts_onCore _ _ _) rfl rfl
    refine Acts.trans ?_ (acts_ivalRestore _ _ _) rfl rfl
    exact Acts.refl _ _ _
  clear_value a2
  have ha3 : Acts 633825300356228216729211355606 680564733841876926926749214863536422911 s a3 := by
    dsimp only [a3]
    refine Acts.trans ?_ (acts_pairFld _ _ _ _) rfl rfl
    refine Acts.trans ?_ (acts_pairFld _ _ _ _) rfl rfl
    with_reducible assumption
  clear_value a3
  clear_value a4
  have ha5 : Acts 633825300356228216729211355606 680564733841876926926749214863536422911 s a5 := by
    dsimp only [a5]
    refine Acts.trans ?_ (acts_setPair _ _ _) rfl rfl
    with_reducible assumption
  clear_value a5
  refine Acts.trans ?_ (acts_raise _ _) rfl rfl
  refine Acts.trans ?_ (acts_tongsRecord _ _ _ _ _ _) rfl rfl
  with_reducible assumption

theorem acts_leaveSlot (s : State) (a : Nat) :
    Acts 4194368 0 s (State.leaveSlot s a) := by
  unfold State.leaveSlot
  extract_lets a1
  have ha1 : Acts 4194368 0 s a1 := by
    dsimp only [a1]
    refine Acts.trans ?_ (acts_onCore _ _ _) rfl rfl
    exact Acts.refl _ _ _
  clear_value a1
  refine Acts.foldl (L2 := 4194368) (R2 := 0) _ ?_ (fun t2 x3 => ?_) rfl rfl
  · with_reducible assumption
  · refine Acts.trans ?_ (acts_evictL2 _ _ _) rfl rfl
    exact Acts.refl _ _ _

theorem acts_requestVote (s : State) (i : Nat) (iv : Ival) :
    Acts 633825300356228216729211355606 680564733841876926926749214863536422911 s (State.requestVote s i iv) := by
  unfold State.requestVote
  extract_lets a1 a2 a3
  clear_value a1
  clear_value a2
  clear_value a3
  split
  · extract_lets a4 a5 a6 a7
    have ha4 : Acts 633825300356228216729211355606 680564733841876926926749214863536422911 s a4 := by
      dsimp only [a4]
      refine Acts.trans ?_ (acts_setSlot _ _ _ _) rfl rfl
      exact Acts.refl _ _ _
    clear_value a4
    have ha5 : Acts 633825300356228216729211355606 680564733841876926926749214863536422911 s a5 := by
      dsimp only [a5]
      refine Acts.trans ?_ (acts_pairFld _ _ _ _) rfl rfl
      with_reducible assumption
    clear_value a5
    have ha6 : Acts 633825300356228216729211355606 680564733841876926926749214863536422911 s a6 := by
      dsimp only [a6]
      refine Acts.trans ?_ (acts_incSat _ _ _) rfl rfl
      refine Acts.trans ?_ (acts_incSat _ _ _) rfl rfl
      with_reducible assumption
    clear_value a6
    clear_value a7
    refine Acts.trans ?_ (acts_setPair _ _ _) rfl rfl
    with_reducible assumption
  · refine Acts.ite (fun _ => ?_) (fun _ => ?_)
    · refine Acts.trans ?_ (acts_setPair _ _ _) rfl rfl
      refine Acts.trans ?_ (acts_pairFld _ _ _ _) rfl rfl
      exact Acts.refl _ _ _
    · refine Acts.trans ?_ (acts_stopPair _ _ _ _ _) rfl rfl
      exact Acts.refl _ _ _

theorem acts_voteRetires (s : State) (i : Nat) (n : Nat) :
    Acts 19807040628566084398385987584 0 s (State.voteRetires s i n) := by
  unfold State.voteRetires
  refine Acts.trans ?_ (acts_logRepair _ _ _) rfl rfl
  exact Acts.refl _ _ _

theorem acts_spareBack (s : State) (i : Nat) (n : Nat) (st : Nat) :
    Acts 653632340984794301127601537494 680564733841876926926749214863536422911 s (State.spareBack s i n st) := by
  unfold State.spareBack
  extract_lets a1 a2 a3 a4 a5
  clear_value a1
  have ha2 : Acts 653632340984794301127601537494 680564733841876926926749214863536422911 s a2 := by
    dsimp only [a2]
    refine Acts.trans ?_ (acts_leaveSlot _ _) rfl rfl
    refine Acts.trans ?_ (acts_setSlot _ _ _ _) rfl rfl
    exact Acts.refl _ _ _
  clear_value a2
  have ha3 : Acts 653632340984794301127601537494 680564733841876926926749214863536422911 s a3 := by
    dsimp only [a3]
    refine Acts.ite (fun _ => ?_) (fun _ => ?_)
    · refine Acts.trans ?_ (acts_voteRetires _ _ _) rfl rfl
      with_reducible assumption
    · with_reducible assumption
  clear_value a3
  clear_value a4
  clear_value a5
  refine Acts.ite (fun _ => ?_) (fun _ => ?_)
  · split
    · refine Acts.trans ?_ (acts_requestVote _ _ _) rfl rfl
      refine Acts.trans ?_ (acts_setPair _ _ _) rfl rfl
      with_reducible assumption
    · with_reducible assumption
  · with_reducible assumption

theorem acts_execVoteLimit (i : Nat) (s : State) :
    ActsR 653632340984794301127601537494 680564733841876926926749214863536422911 s (execVoteLimit i s) := by
  unfold execVoteLimit
  extract_lets a1
  clear_value a1
  refine ActsR.next ?_
  split
  · extract_lets a2
    have ha2 : Acts 653632340984794301127601537494 680564733841876926926749214863536422911 s a2 := by
      dsimp only [a2]
      refine Acts.trans ?_ (acts_stopPair _ _ _ _ _) rfl rfl
      exact Acts.refl _ _ _
    clear_value a2
    refine Acts.ite (fun _ => ?_) (fun _ => ?_)
    · with_reducible assumption
    · refine Acts.trans ?_ (acts_spareBack _ _ _ _) rfl rfl
      with_reducible assumption
  · exact Acts.refl _ _ _

theorem acts_dissolve (s : State) (i : Nat) :
    Acts 536870992 67108864 s (State.dissolve s i) := by
  unfold State.dissolve
  extract_lets a1 a2 a3 a4
  clear_value a1
  clear_value a2
  have ha3 : Acts 536870992 67108864 s a3 := by
    dsimp only [a3]
    refine Acts.trans ?_ (acts_setFld _ _ _ _) rfl rfl
    refine Acts.trans ?_ (acts_setFld _ _ _ _) rfl rfl
    exact Acts.refl _ _ _
  clear_value a3
  refine Acts.trans ?_ (acts_setPair _ _ _) rfl rfl
  dsimp only [a4]
  refine Acts.trans ?_ (acts_onCore _ _ _) rfl rfl
  with_reducible assumption

theorem acts_copyRegs (s : State) (rs : List RegId) (a : Nat) (b : Nat) :
    Acts 633825300114114700748351602704 680564733841876926926749214863536422911 s (State.copyRegs s rs a b) := by
  unfold State.copyRegs
  extract_lets a1 a2
  have ha1 : Acts 633825300114114700748351602704 680564733841876926926749214863536422911 s a1 := by
    dsimp only [a1]
    refine Acts.foldl (L2 := 633825300114114700748351602704) (R2 := 680564733841876926926749214863536422911) _ ?_ (fun t3 x4 => ?_) rfl rfl
    · exact Acts.refl _ _ _
    · refine Acts.trans ?_ (Acts.wr _ _ _ _) rfl (RegId.inAll _)
      exact Acts.refl _ _ _
  clear_value a1
  have ha2 : Acts 633825300114114700748351602704 680564733841876926926749214863536422911 s a2 := by
    dsimp only [a2]
    refine Acts.foldl (L2 := 633825300114114700748351602704) (R2 := 680564733841876926926749214863536422911) _ ?_ (fun t5 x6 => ?_) rfl rfl
    · with_reducible assumption
    · refine Acts.trans ?_ (Acts.wr _ _ _ _) rfl rfl
      exact Acts.refl _ _ _
  clear_value a2
  refine Acts.trans ?_ (Acts.set_cnt _ _) rfl rfl
  with_reducible assumption

theorem acts_resumeTrailer (s : State) (d : Nat) :
    Acts 80 67108864 s (State.resumeTrailer s d) := by
  unfold State.resumeTrailer
  extract_lets a1
  clear_value a1
  refine Acts.trans ?_ (acts_setFld _ _ _ _) rfl rfl
  refine Acts.trans ?_ (acts_onCore _ _ _) rfl rfl
  exact Acts.refl _ _ _

theorem acts_unbind (s : State) (i : Nat) :
    Acts 633825300114114700748888473680 680564733841876926926749214863536422911 s (State.unbind s i) := by
  unfold State.unbind
  extract_lets a1 a2 a3 a4
  clear_value a1
  clear_value a2
  have ha3 : Acts 633825300114114700748888473680 680564733841876926926749214863536422911 s a3 := by
    dsimp only [a3]
    refine Acts.trans ?_ (acts_dissolve _ _) rfl rfl
    exact Acts.refl _ _ _
  clear_value a3
  have ha4 : Acts 633825300114114700748888473680 680564733841876926926749214863536422911 s a4 := by
    dsimp only [a4]
    refine Acts.trans ?_ (acts_copyRegs _ _ _ _) rfl rfl
    refine Acts.trans ?_ (acts_setCore _ _ _) rfl rfl
    with_reducible assumption
  clear_value a4
  refine Acts.trans ?_ (acts_resumeTrailer _ _) rfl rfl
  with_reducible assumption

theorem acts_bind (s : State) (c : Nat) (p : Nat) :
    Acts 633825300114114700748888473680 680564733841876926926749214863536422911 s (State.bind s c p) := by
  unfold State.bind
  extract_lets a1 a2 a3 a4 a5 a6 a7 a8 a9 a10
  clear_value a1
  have ha2 : Acts 633825300114114700748888473680 680564733841876926926749214863536422911 s a2 := by
    dsimp only [a2]
    refine Acts.trans ?_ (acts_setFld _ _ _ _) rfl rfl
    exact Acts.refl _ _ _
  clear_value a2
  clear_value a3
  clear_value a4
  clear_value a5
  clear_value a6
  clear_value a7
  have ha8 : Acts 633825300114114700748888473680 680564733841876926926749214863536422911 s a8 := by
    dsimp only [a8]
    refine Acts.trans ?_ (acts_copyRegs _ _ _ _) rfl rfl
    refine Acts.trans ?_ (acts_setCore _ _ _) rfl rfl
    with_reducible assumption
  clear_value a8
  have ha9 : Acts 633825300114114700748888473680 680564733841876926926749214863536422911 s a9 := by
    dsimp only [a9]
    refine Acts.trans ?_ (acts_setPair _ _ _) rfl rfl
    with_reducible assumption
  clear_value a9
  have ha10 : Acts 633825300114114700748888473680 680564733841876926926749214863536422911 s a10 := by
    dsimp only [a10]
    refine Acts.trans ?_ (acts_pairFld _ _ _ _) rfl rfl
    refine Acts.trans ?_ (acts_pairFld _ _ _ _) rfl rfl
    refine Acts.trans ?_ (acts_pairFld _ _ _ _) rfl rfl
    refine Acts.trans ?_ (acts_pairFld _ _ _ _) rfl rfl
    with_reducible assumption
  clear_value a10
  refine Acts.ite (fun _ => ?_) (fun _ => ?_)
  · with_reducible assumption
  · refine Acts.trans ?_ (acts_openIval _ _) rfl rfl
    with_reducible assumption

theorem acts_pairCtlInsn (s : State) (c : Nat) (op : Nat) (rd : Nat) (rs1 : Nat) (imm : Bool) (len : Nat) :
    Acts 3327582825601408021942891446352 680564733841876926926749214863536422911 s (State.pairCtlInsn s c op rd rs1 imm len) := by
  unfold State.pairCtlInsn
  refine Acts.ite (fun _ => ?_) (fun _ => ?_)
  · refine Acts.trans ?_ (acts_closeIval _ _) rfl rfl
    exact Acts.refl _ _ _
  · extract_lets a1 a2 a3 a4 a5 a6 a7
    clear_value a1
    clear_value a2
    clear_value a3
    have ha4 : Acts 3327582825601408021942891446352 680564733841876926926749214863536422911 s a4 := by
      dsimp only [a4]
      refine Acts.trans ?_ (acts_pairLog _ _ _ _) rfl rfl
      exact Acts.refl _ _ _
    clear_value a4
    have ha5 : Acts 3327582825601408021942891446352 680564733841876926926749214863536422911 s a5 := by
      dsimp only [a5]
      refine Acts.trans ?_ (acts_rebase _ _) rfl rfl
      refine Acts.trans ?_ (acts_csrDone _ _ _ _ _) rfl rfl
      refine Acts.trans ?_ (acts_regWrite _ _ _ _) rfl rfl
      with_reducible assumption
    clear_value a5
    clear_value a6
    clear_value a7
    refine Acts.ite (fun _ => ?_) (fun _ => ?_)
    · refine Acts.trans ?_ (acts_csrDone _ _ _ _ _) rfl rfl
      with_reducible assumption
    · refine Acts.ite (fun _ => ?_) (fun _ => ?_)
      · refine Acts.trans ?_ (acts_onCore _ _ _) rfl rfl
        refine Acts.trans ?_ (acts_setFld _ _ _ _) rfl rfl
        with_reducible assumption
      · refine Acts.ite (fun _ => ?_) (fun _ => ?_)
        · refine Acts.trans ?_ (acts_bind _ _ _) rfl rfl
          with_reducible assumption
        · refine Acts.ite (fun _ => ?_) (fun _ => ?_)
          · split
            · refine Acts.trans ?_ (acts_unbind _ _) rfl rfl
              with_reducible assumption
            · with_reducible assumption
          · with_reducible assumption

theorem acts_pairCmd (s : State) (cmd : Nat) (c : Nat) (op : Nat) (rd : Nat) (rs1 : Nat) (imm : Bool) (len : Nat) (insn : W) :
    Acts 3327582825601408021942891446352 680564733841876926926749214863536422911 s (State.pairCmd s cmd c op rd rs1 imm len insn) := by
  unfold State.pairCmd
  refine Acts.trans ?_ (acts_issue (L := 3327582825601408021942891446352) (R := 680564733841876926926749214863536422911) _ _ _ ?_ rfl rfl) rfl rfl
  · exact Acts.refl _ _ _
  · intro t1
    refine Acts.ite (fun _ => ?_) (fun _ => ?_)
    · refine Acts.trans ?_ (acts_illegal _ _ _ _) rfl rfl
      exact Acts.refl _ _ _
    · refine Acts.ite (fun _ => ?_) (fun _ => ?_)
      · exact Acts.refl _ _ _
      · refine Acts.trans ?_ (acts_pairCtlInsn _ _ _ _ _ _ _) rfl rfl
        exact Acts.refl _ _ _

theorem acts_discard (s : State) (i : Nat) :
    Acts 536870976 0 s (State.discard s i) := by
  unfold State.discard
  extract_lets a1 a2
  clear_value a1
  have ha2 : Acts 536870976 0 s a2 := by
    dsimp only [a2]
    refine Acts.trans ?_ (acts_setPair _ _ _) rfl rfl
    exact Acts.refl _ _ _
  clear_value a2
  refine Acts.trans ?_ (acts_onCore _ _ _) rfl rfl
  with_reducible assumption

theorem acts_moveHart (s : State) (a : Nat) (b : Nat) (st : Nat) :
    Acts 633825300114114700748355797072 680564733841876926926749214863536422911 s (State.moveHart s a b st) := by
  unfold State.moveHart
  extract_lets a1 a2 a3 a4 a5 a6 a7
  clear_value a1
  clear_value a2
  clear_value a3
  clear_value a4
  clear_value a5
  have ha6 : Acts 633825300114114700748355797072 680564733841876926926749214863536422911 s a6 := by
    dsimp only [a6]
    refine Acts.trans ?_ (acts_leaveSlot _ _) rfl rfl
    refine Acts.trans ?_ (acts_setCore _ _ _) rfl rfl
    exact Acts.refl _ _ _
  clear_value a6
  have ha7 : Acts 633825300114114700748355797072 680564733841876926926749214863536422911 s a7 := by
    dsimp only [a7]
    refine Acts.trans ?_ (acts_copyRegs _ _ _ _) rfl rfl
    with_reducible assumption
  clear_value a7
  refine Acts.trans ?_ (acts_setSlot _ _ _ _) rfl rfl
  refine Acts.trans ?_ (acts_setSlot _ _ _ _) rfl rfl
  with_reducible assumption

theorem acts_execIntervalEnd (i : Nat) (s : State) :
    ActsR 536870912 0 s (execIntervalEnd i s) := by
  unfold execIntervalEnd
  extract_lets a1
  clear_value a1
  refine ActsR.next ?_
  refine Acts.ite (fun _ => ?_) (fun _ => ?_)
  · refine Acts.trans ?_ (acts_endIval _ _) rfl rfl
    exact Acts.refl _ _ _
  · exact Acts.refl _ _ _

theorem acts_rollback (s : State) (i : Nat) (ck : Ckpt) :
    Acts 536870992 680564733841876926926749214863536422911 s (State.rollback s i ck) := by
  unfold State.rollback
  extract_lets a1 a2
  clear_value a1
  have ha2 : Acts 536870992 680564733841876926926749214863536422911 s a2 := by
    dsimp only [a2]
    refine Acts.trans ?_ (acts_onCore _ _ _) rfl rfl
    refine Acts.trans ?_ (acts_ivalRestore _ _ _) rfl rfl
    exact Acts.refl _ _ _
  clear_value a2
  refine Acts.trans ?_ (acts_openIval _ _) rfl rfl
  with_reducible assumption

theorem acts_mismatch (s : State) (i : Nat) (iv : Ival) (race : Bool) :
    Acts 3327582825841215694909705667030 680564733841876926926749214863536422911 s (State.mismatch s i iv race) := by
  unfold State.mismatch
  extract_lets a1 a2 a3 a4 a5 a6
  clear_value a1
  have ha2 : Acts 3327582825841215694909705667030 680564733841876926926749214863536422911 s a2 := by
    dsimp only [a2]
    refine Acts.trans ?_ (acts_incSat _ _ _) rfl rfl
    refine Acts.trans ?_ (acts_incSat _ _ _) rfl rfl
    exact Acts.refl _ _ _
  clear_value a2
  have ha3 : Acts 3327582825841215694909705667030 680564733841876926926749214863536422911 s a3 := by
    dsimp only [a3]
    refine Acts.trans ?_ (acts_raise _ _) rfl rfl
    refine Acts.trans ?_ (acts_tongsRecord _ _ _ _ _ _) rfl rfl
    refine Acts.trans ?_ (acts_count _ _ _ _ _) rfl rfl
    with_reducible assumption
  clear_value a3
  have ha4 : Acts 3327582825841215694909705667030 680564733841876926926749214863536422911 s a4 := by
    dsimp only [a4]
    refine Acts.trans ?_ (acts_discard _ _) rfl rfl
    refine Acts.trans ?_ (acts_trace _ _ _ _ _) rfl rfl
    with_reducible assumption
  clear_value a4
  clear_value a5
  have ha6 : Acts 3327582825841215694909705667030 680564733841876926926749214863536422911 s a6 := by
    dsimp only [a6]
    refine Acts.ite (fun _ => ?_) (fun _ => ?_)
    · with_reducible assumption
    · refine Acts.trans ?_ (acts_pairFld _ _ _ _) rfl rfl
      with_reducible assumption
  clear_value a6
  refine Acts.ite (fun _ => ?_) (fun _ => ?_)
  · refine Acts.trans ?_ (acts_requestVote _ _ _) rfl rfl
    with_reducible assumption
  · split
    · refine Acts.trans ?_ (acts_cgAbort _ _ _ _ _) rfl rfl
      with_reducible assumption
    · refine Acts.trans ?_ (acts_rollback _ _ _) rfl rfl
      with_reducible assumption

theorem acts_execUnbind (c : Nat) (op : Nat) (rd : Nat) (rs1 : Nat) (imm : Bool) (len : Nat) (insn : W) (s : State) :
    ActsR 3327582825601408021942891446352 680564733841876926926749214863536422911 s (execUnbind c op rd rs1 imm len insn s) := by
  unfold execUnbind
  refine ActsR.next ?_
  refine Acts.trans ?_ (acts_pairCmd _ _ _ _ _ _ _ _ _) rfl rfl
  exact Acts.refl _ _ _

theorem acts_release (s : State) (i : Nat) (id : Nat) :
    Acts 536870976 0 s (State.release s i id) := by
  unfold State.release
  extract_lets a1 a2
  clear_value a1
  have ha2 : Acts 536870976 0 s a2 := by
    dsimp only [a2]
    refine Acts.trans ?_ (acts_setPair _ _ _) rfl rfl
    exact Acts.refl _ _ _
  clear_value a2
  refine Acts.trans ?_ (acts_onCore _ _ _) rfl rfl
  with_reducible assumption

theorem acts_execIntervalComparison (i : Nat) (sig : W) (stores : List StoreEnt) (race : Bool) (s : State) :
    ActsR 3327582825841215694909705667030 680564733841876926926749214863536422911 s (execIntervalComparison i sig stores race s) := by
  unfold execIntervalComparison
  extract_lets a1 a2
  clear_value a1
  clear_value a2
  refine ActsR.next ?_
  refine Acts.ite (fun _ => ?_) (fun _ => ?_)
  · exact Acts.refl _ _ _
  · split
    · exact Acts.refl _ _ _
    · refine Acts.ite (fun _ => ?_) (fun _ => ?_)
      · extract_lets a3
        have ha3 : Acts 3327582825841215694909705667030 680564733841876926926749214863536422911 s a3 := by
          dsimp only [a3]
          refine Acts.trans ?_ (acts_coreCount _ _ _) rfl rfl
          refine Acts.trans ?_ (acts_release _ _ _) rfl rfl
          exact Acts.refl _ _ _
        clear_value a3
        refine Acts.ite (fun _ => ?_) (fun _ => ?_)
        · refine Acts.trans ?_ (acts_pairFld _ _ _ _) rfl rfl
          with_reducible assumption
        · with_reducible assumption
      · refine Acts.trans ?_ (acts_mismatch _ _ _ _) rfl rfl
        exact Acts.refl _ _ _

theorem acts_execBind (c : Nat) (op : Nat) (rd : Nat) (rs1 : Nat) (imm : Bool) (len : Nat) (insn : W) (s : State) :
    ActsR 3327582825601408021942891446352 680564733841876926926749214863536422911 s (execBind c op rd rs1 imm len insn s) := by
  unfold execBind
  refine ActsR.next ?_
  refine Acts.trans ?_ (acts_pairCmd _ _ _ _ _ _ _ _ _) rfl rfl
  exact Acts.refl _ _ _

theorem acts_wakeVote (s : State) (i : Nat) :
    Acts 633825300356228216729211355606 680564733841876926926749214863536422911 s (State.wakeVote s i) := by
  unfold State.wakeVote
  extract_lets a1 a2
  clear_value a1
  clear_value a2
  split
  · refine Acts.ite (fun _ => ?_) (fun _ => ?_)
    · refine Acts.trans ?_ (acts_requestVote _ _ _) rfl rfl
      refine Acts.trans ?_ (acts_setPair _ _ _) rfl rfl
      exact Acts.refl _ _ _
    · exact Acts.refl _ _ _
  · exact Acts.refl _ _ _

theorem acts_voteGoesOn (s : State) (i : Nat) (outcome : Nat) (iv : Ival) :
    Acts 3327582825601408021942891446352 680564733841876926926749214863536422911 s (State.voteGoesOn s i outcome iv) := by
  unfold State.voteGoesOn
  extract_lets a1 a2 a3 a4 a5
  clear_value a1
  have ha2 : Acts 3327582825601408021942891446352 680564733841876926926749214863536422911 s a2 := by
    dsimp only [a2]
    refine Acts.trans ?_ (acts_pairFld _ _ _ _) rfl rfl
    refine Acts.trans ?_ (acts_pairFld _ _ _ _) rfl rfl
    exact Acts.refl _ _ _
  clear_value a2
  clear_value a3
  have ha4 : Acts 3327582825601408021942891446352 680564733841876926926749214863536422911 s a4 := by
    dsimp only [a4]
    refine Acts.trans ?_ (acts_setPair _ _ _) rfl rfl
    with_reducible assumption
  clear_value a4
  have ha5 : Acts 3327582825601408021942891446352 680564733841876926926749214863536422911 s a5 := by
    dsimp only [a5]
    refine Acts.trans ?_ (acts_pairFld _ _ _ _) rfl rfl
    with_reducible assumption
  clear_value a5
  split
  · refine Acts.trans ?_ (acts_cgAbort _ _ _ _ _) rfl rfl
    refine Acts.trans ?_ (acts_discard _ _) rfl rfl
    with_reducible assumption
  · refine Acts.trans ?_ (acts_coreCount _ _ _) rfl rfl
    refine Acts.trans ?_ (acts_release _ _ _) rfl rfl
    with_reducible assumption

theorem acts_execVoteResult (i : Nat) (tSig : W) (tStores : List StoreEnt) (sSig : W) (sStores : List StoreEnt) (fin : Ckpt) (s : State) :
    ActsR 3347389866469781779308095848918 680564733841876926926749214863536422911 s (execVoteResult i tSig tStores sSig sStores fin s) := by
  unfold execVoteResult
  extract_lets a1 a2 a3 a4
  clear_value a1
  clear_value a2
  clear_value a3
  clear_value a4
  refine ActsR.next ?_
  split
  · refine Acts.ite (fun _ => ?_) (fun _ => ?_)
    · exact Acts.refl _ _ _
    · extract_lets a5 a6 a7 a8 a9 a10 a11 a12 a13 a14 a15 a16 a17 a18 a19
      clear_value a5
      clear_value a6
      clear_value a7
      clear_value a8
      have ha9 : Acts 3347389866469781779308095848918 680564733841876926926749214863536422911 s a9 := by
        dsimp only [a9]
        refine Acts.trans ?_ (acts_voteGoesOn _ _ _ _) rfl rfl
        exact Acts.refl _ _ _
      clear_value a9
      clear_value a10
      clear_value a11
      have ha12 : Acts 3347389866469781779308095848918 680564733841876926926749214863536422911 s a12 := by
        dsimp only [a12]
        refine Acts.trans ?_ (acts_copyRegs _ _ _ _) rfl rfl
        refine Acts.trans ?_ (acts_copyRegs _ _ _ _) rfl rfl
        refine Acts.trans ?_ (acts_setCore _ _ _) rfl rfl
        with_reducible assumption
      clear_value a12
      have ha13 : Acts 3347389866469781779308095848918 680564733841876926926749214863536422911 s a13 := by
        dsimp only [a13]
        refine Acts.trans ?_ (acts_leaveSlot _ _) rfl rfl
        refine Acts.trans ?_ (acts_setSlot _ _ _ _) rfl rfl
        refine Acts.trans ?_ (acts_setSlot _ _ _ _) rfl rfl
        with_reducible assumption
      clear_value a13
      clear_value a14
      have ha15 : Acts 3347389866469781779308095848918 680564733841876926926749214863536422911 s a15 := by
        dsimp only [a15]
        refine Acts.trans ?_ (acts_setPair _ _ _) rfl rfl
        with_reducible assumption
      clear_value a15
      have ha16 : Acts 3347389866469781779308095848918 680564733841876926926749214863536422911 s a16 := by
        dsimp only [a16]
        refine Acts.ite (fun _ => ?_) (fun _ => ?_)
        · exact Acts.refl _ _ _
        · refine Acts.trans ?_ (acts_onCore _ _ _) rfl rfl
          exact Acts.refl _ _ _
      clear_value a16
      have ha17 : Acts 3347389866469781779308095848918 680564733841876926926749214863536422911 s a17 := by
        dsimp only [a17]
        refine Acts.trans ?_ (acts_moveHart _ _ _ _) rfl rfl
        refine Acts.trans ?_ (acts_voteGoesOn _ _ _ _) rfl rfl
        with_reducible assumption
      clear_value a17
      clear_value a18
      have ha19 : Acts 3347389866469781779308095848918 680564733841876926926749214863536422911 s a19 := by
        dsimp only [a19]
        refine Acts.trans ?_ (acts_openIval _ _) rfl rfl
        refine Acts.trans ?_ (acts_setPair _ _ _) rfl rfl
        with_reducible assumption
      clear_value a19
      refine Acts.ite (fun _ => ?_) (fun _ => ?_)
      · refine Acts.trans ?_ (acts_spareBack _ _ _ _) rfl rfl
        refine Acts.trans ?_ (acts_tongsRecord _ _ _ _ _ _) rfl rfl
        refine Acts.trans ?_ (acts_voteGoesOn _ _ _ _) rfl rfl
        exact Acts.refl _ _ _
      · refine Acts.ite (fun _ => ?_) (fun _ => ?_)
        · refine Acts.trans ?_ (acts_wakeVote _ _) rfl rfl
          refine Acts.trans ?_ (acts_tongsRecord _ _ _ _ _ _) rfl rfl
          refine Acts.trans ?_ (acts_voteRetires _ _ _) rfl rfl
          with_reducible assumption
        · refine Acts.ite (fun _ => ?_) (fun _ => ?_)
          · refine Acts.trans ?_ (acts_wakeVote _ _) rfl rfl
            refine Acts.trans ?_ (acts_tongsRecord _ _ _ _ _ _) rfl rfl
            refine Acts.trans ?_ (acts_voteRetires _ _ _) rfl rfl
            with_reducible assumption
          · refine Acts.ite (fun _ => ?_) (fun _ => ?_)
            · refine Acts.trans ?_ (acts_spareBack _ _ _ _) rfl rfl
              refine Acts.trans ?_ (acts_tongsRecord _ _ _ _ _ _) rfl rfl
              refine Acts.trans ?_ (acts_voteGoesOn _ _ _ _) rfl rfl
              exact Acts.refl _ _ _
            · refine Acts.trans ?_ (acts_spareBack _ _ _ _) rfl rfl
              refine Acts.trans ?_ (acts_stopPair _ _ _ _ _) rfl rfl
              exact Acts.refl _ _ _
  · exact Acts.refl _ _ _

theorem acts_execVoteSparePowered (i : Nat) (s : State) :
    ActsR 536870992 680564733841876926926749214863536422911 s (execVoteSparePowered i s) := by
  unfold execVoteSparePowered
  extract_lets a1 a2
  clear_value a1
  clear_value a2
  refine ActsR.next ?_
  split
  · extract_lets a3 a4 a5 a6 a7
    clear_value a3
    clear_value a4
    have ha5 : Acts 536870992 680564733841876926926749214863536422911 s a5 := by
      dsimp only [a5]
      refine Acts.trans ?_ (acts_lidOpen _ _ _) rfl rfl
      refine Acts.trans ?_ (acts_setCore _ _ _) rfl rfl
      exact Acts.refl _ _ _
    clear_value a5
    have ha6 : Acts 536870992 680564733841876926926749214863536422911 s a6 := by
      dsimp only [a6]
      refine Acts.trans ?_ (acts_ivalRestore _ _ _) rfl rfl
      refine Acts.trans ?_ (acts_ivalRestore _ _ _) rfl rfl
      with_reducible assumption
    clear_value a6
    have ha7 : Acts 536870992 680564733841876926926749214863536422911 s a7 := by
      dsimp only [a7]
      refine Acts.trans ?_ (acts_setPair _ _ _) rfl rfl
      with_reducible assumption
    clear_value a7
    refine Acts.ite (fun _ => ?_) (fun _ => ?_)
    · exact Acts.refl _ _ _
    · refine Acts.trans ?_ (acts_openIval _ _) rfl rfl
      with_reducible assumption
  · exact Acts.refl _ _ _

theorem acts_execPark (c : Nat) (op : Nat) (rd : Nat) (rs1 : Nat) (imm : Bool) (len : Nat) (insn : W) (s : State) :
    ActsR 3327582825601408021942891446352 680564733841876926926749214863536422911 s (execPark c op rd rs1 imm len insn s) := by
  unfold execPark
  refine ActsR.next ?_
  refine Acts.trans ?_ (acts_pairCmd _ _ _ _ _ _ _ _ _) rfl rfl
  exact Acts.refl _ _ _

theorem acts_execPairSync (c : Nat) (len : Nat) (insn : W) (s : State) :
    ActsR 3327582825601408021942891446352 3245185536660415427367833234833600 s (execPairSync c len insn s) := by
  unfold execPairSync
  refine ActsR.next ?_
  refine Acts.trans ?_ (acts_issue (L := 3327582825601408021942891446352) (R := 3245185536660415427367833234833600) _ _ _ ?_ rfl rfl) rfl rfl
  · exact Acts.refl _ _ _
  · intro t1
    refine Acts.ite (fun _ => ?_) (fun _ => ?_)
    · refine Acts.trans ?_ (acts_illegal _ _ _ _) rfl rfl
      exact Acts.refl _ _ _
    · refine Acts.ite (fun _ => ?_) (fun _ => ?_)
      · refine Acts.trans ?_ (acts_closeIval _ _) rfl rfl
        refine Acts.trans ?_ (acts_retire _ _ _ _ _) rfl rfl
        exact Acts.refl _ _ _
      · refine Acts.trans ?_ (acts_closeIval _ _) rfl rfl
        exact Acts.refl _ _ _

end Sys2Proof.Machine
end

