-- ==== Sys2Proof/Laws/CsrActs.lean ====
section
/-! SUPPORT. What each operation and each command of Csr.lean may touch: `acts_<name>` bounds the fields and the registers that
`<name>` can change (see Acts.lean). -/

namespace Sys2Proof.Machine

open Sys2Proof

theorem acts_setCoreCnt (s : State) (c : Nat) (n : Nat) (v : W) :
    Acts 633825300114114700748351602688 0 s (State.setCoreCnt s c n v) := by
  unfold State.setCoreCnt
  refine Acts.ite (fun _ => ?_) (fun _ => ?_)
  · extract_lets a1
    clear_value a1
    refine Acts.trans ?_ (Acts.set_cnt _ _) rfl rfl
    exact Acts.refl _ _ _
  · exact Acts.refl _ _ _

theorem acts_csrPut (s : State) (c : Nat) (a : Nat) (new : W) :
    Acts 633825300114114700748351602768 680564733841876926926749214863536422911 s (State.csrPut s c a new) := by
  unfold State.csrPut
  extract_lets a1 a2 a3 a4 a5
  clear_value a1
  clear_value a2
  clear_value a3
  clear_value a4
  split
  · refine Acts.ite (fun _ => ?_) (fun _ => ?_)
    · exact Acts.refl _ _ _
    · refine Acts.ite (fun _ => ?_) (fun _ => ?_)
      · exact Acts.refl _ _ _
      · refine Acts.trans ?_ (acts_regWrite _ _ _ _) rfl (RegId.inAll _)
        exact Acts.refl _ _ _
  · refine Acts.ite (fun _ => ?_) (fun _ => ?_)
    · exact Acts.refl _ _ _
    · refine Acts.ite (fun _ => ?_) (fun _ => ?_)
      · refine Acts.trans ?_ (acts_setCore _ _ _) rfl rfl
        exact Acts.refl _ _ _
      · refine Acts.ite (fun _ => ?_) (fun _ => ?_)
        · refine Acts.trans ?_ (acts_setCore _ _ _) rfl rfl
          exact Acts.refl _ _ _
        · refine Acts.ite (fun _ => ?_) (fun _ => ?_)
          · refine Acts.trans ?_ (acts_setCore _ _ _) rfl rfl
            exact Acts.refl _ _ _
          · refine Acts.ite (fun _ => ?_) (fun _ => ?_)
            · refine Acts.trans ?_ (acts_setCore _ _ _) rfl rfl
              exact Acts.refl _ _ _
            · refine Acts.ite (fun _ => ?_) (fun _ => ?_)
              · refine Acts.trans ?_ (acts_setCore _ _ _) rfl rfl
                exact Acts.refl _ _ _
              · refine Acts.ite (fun _ => ?_) (fun _ => ?_)
                · dsimp only [a5]
                  refine Acts.trans ?_ (acts_setCore _ _ _) rfl rfl
                  exact Acts.refl _ _ _
                · refine Acts.ite (fun _ => ?_) (fun _ => ?_)
                  · exact Acts.refl _ _ _
                  · refine Acts.ite (fun _ => ?_) (fun _ => ?_)
                    · refine Acts.trans ?_ (acts_setCore _ _ _) rfl rfl
                      exact Acts.refl _ _ _
                    · refine Acts.ite (fun _ => ?_) (fun _ => ?_)
                      · dsimp only [a5]
                        refine Acts.trans ?_ (acts_setCore _ _ _) rfl rfl
                        exact Acts.refl _ _ _
                      · refine Acts.ite (fun _ => ?_) (fun _ => ?_)
                        · dsimp only [a5]
                          refine Acts.trans ?_ (acts_setCore _ _ _) rfl rfl
                          exact Acts.refl _ _ _
                        · refine Acts.ite (fun _ => ?_) (fun _ => ?_)
                          · dsimp only [a5]
                            refine Acts.trans ?_ (acts_setCore _ _ _) rfl rfl
                            exact Acts.refl _ _ _
                          · refine Acts.ite (fun _ => ?_) (fun _ => ?_)
                            · refine Acts.trans ?_ (acts_setCore _ _ _) rfl rfl
                              exact Acts.refl _ _ _
                            · refine Acts.ite (fun _ => ?_) (fun _ => ?_)
                              · refine Acts.trans ?_ (acts_setCore _ _ _) rfl rfl
                                exact Acts.refl _ _ _
                              · refine Acts.ite (fun _ => ?_) (fun _ => ?_)
                                · refine Acts.trans ?_ (acts_setCore _ _ _) rfl rfl
                                  exact Acts.refl _ _ _
                                · refine Acts.ite (fun _ => ?_) (fun _ => ?_)
                                  · refine Acts.trans ?_ (acts_setCore _ _ _) rfl rfl
                                    exact Acts.refl _ _ _
                                  · refine Acts.ite (fun _ => ?_) (fun _ => ?_)
                                    · refine Acts.trans ?_ (acts_setCoreCnt _ _ _ _) rfl rfl
                                      exact Acts.refl _ _ _
                                    · refine Acts.ite (fun _ => ?_) (fun _ => ?_)
                                      · refine Acts.ite (fun _ => ?_) (fun _ => ?_)
                                        · exact Acts.refl _ _ _
                                        · dsimp only [a5]
                                          refine Acts.trans ?_ (acts_setCore _ _ _) rfl rfl
                                          exact Acts.refl _ _ _
                                      · dsimp only [a5]
                                        refine Acts.trans ?_ (acts_setCore _ _ _) rfl rfl
                                        exact Acts.refl _ _ _

end Sys2Proof.Machine
end

