-- ==== Sys2Proof/Laws/CoreSysActs.lean ====
section
/-! SUPPORT. What each operation and each command of CoreSys.lean may touch: `acts_<name>` bounds the fields and the registers that
`<name>` can change (see Acts.lean). -/

namespace Sys2Proof.Machine

open Sys2Proof

theorem acts_xret (s : State) (c : Nat) (f : Core → Core) :
    Acts 3327582825601408021942891446352 3245185536659825131557474529181888 s (State.xret s c f) := by
  unfold State.xret
  refine Acts.ite (fun _ => ?_) (fun _ => ?_)
  · refine Acts.trans ?_ (acts_closeIval _ _) rfl rfl
    exact Acts.refl _ _ _
  · extract_lets a1 a2 a3 a4
    clear_value a1
    clear_value a2
    have ha3 : Acts 3327582825601408021942891446352 3245185536659825131557474529181888 s a3 := by
      dsimp only [a3]
      refine Acts.trans ?_ (acts_onCore _ _ _) rfl rfl
      refine Acts.trans ?_ (acts_retireTo _ _ _ _ _) rfl rfl
      exact Acts.refl _ _ _
    clear_value a3
    have ha4 : Acts 3327582825601408021942891446352 3245185536659825131557474529181888 s a4 := by
      dsimp only [a4]
      refine Acts.ite (fun _ => ?_) (fun _ => ?_)
      · refine Acts.trans ?_ (acts_worldSwitch _ _ _) rfl rfl
        with_reducible assumption
      · with_reducible assumption
    clear_value a4
    refine Acts.trans ?_ (acts_rebase _ _) rfl rfl
    refine Acts.trans ?_ (acts_trace _ _ _ _ _) rfl rfl
    with_reducible assumption

theorem acts_execSret (c : Nat) (insn : W) (s : State) :
    ActsR 3327582825601408021942891446352 3245185536660415427367833234833600 s (execSret c insn s) := by
  unfold execSret
  refine ActsR.next ?_
  refine Acts.trans ?_ (acts_issue (L := 3327582825601408021942891446352) (R := 3245185536660415427367833234833600) _ _ _ ?_ rfl rfl) rfl rfl
  · exact Acts.refl _ _ _
  · intro t1
    refine Acts.trans ?_ (acts_notInGroup (L := 3327582825601408021942891446352) (R := 3245185536660415427367833234833600) _ _ ?_ rfl rfl) rfl rfl
    · exact Acts.refl _ _ _
    · intro t2
      extract_lets a3
      clear_value a3
      refine Acts.ite (fun _ => ?_) (fun _ => ?_)
      · refine Acts.trans ?_ (acts_illegal _ _ _ _) rfl rfl
        exact Acts.refl _ _ _
      · refine Acts.trans ?_ (acts_xret _ _ _) rfl rfl
        exact Acts.refl _ _ _

theorem acts_execTimeRead (c : Nat) (rd : Nat) (len : Nat) (insn : W) (s : State) :
    ActsR 3327582825601408021942891446352 3245185536660415427367833234833600 s (execTimeRead c rd len insn s) := by
  unfold execTimeRead
  refine ActsR.next ?_
  refine Acts.trans ?_ (acts_issue (L := 3327582825601408021942891446352) (R := 3245185536660415427367833234833600) _ _ _ ?_ rfl rfl) rfl rfl
  · exact Acts.refl _ _ _
  · intro t1
    extract_lets a2 a3
    clear_value a2
    clear_value a3
    refine Acts.ite (fun _ => ?_) (fun _ => ?_)
    · refine Acts.trans ?_ (acts_illegal _ _ _ _) rfl rfl
      exact Acts.refl _ _ _
    · refine Acts.trans ?_ (acts_csrDone _ _ _ _ _) rfl rfl
      refine Acts.trans ?_ (acts_pairLog _ _ _ _) rfl rfl
      exact Acts.refl _ _ _

theorem acts_execCsrWrite (c : Nat) (csr : Nat) (op : Nat) (rd : Nat) (rs1 : Nat) (imm : Bool) (len : Nat) (insn : W) (s : State) :
    ActsR 3327582825601408021942891446352 680564733841876926926749214863536422911 s (execCsrWrite c csr op rd rs1 imm len insn s) := by
  unfold execCsrWrite
  refine ActsR.next ?_
  refine Acts.trans ?_ (acts_issue (L := 3327582825601408021942891446352) (R := 680564733841876926926749214863536422911) _ _ _ ?_ rfl rfl) rfl rfl
  · exact Acts.refl _ _ _
  · intro t1
    extract_lets a2 a3 a4 a5 a6 a7 a8 a9 a10
    clear_value a2
    clear_value a3
    clear_value a4
    clear_value a5
    clear_value a6
    clear_value a7
    have ha8 : Acts 3327582825601408021942891446352 680564733841876926926749214863536422911 t1 a8 := by
      dsimp only [a8]
      refine Acts.ite (fun _ => ?_) (fun _ => ?_)
      · refine Acts.trans ?_ (acts_pairLog _ _ _ _) rfl rfl
        exact Acts.refl _ _ _
      · exact Acts.refl _ _ _
    clear_value a8
    have ha9 : Acts 3327582825601408021942891446352 680564733841876926926749214863536422911 t1 a9 := by
      dsimp only [a9]
      refine Acts.ite (fun _ => ?_) (fun _ => ?_)
      · refine Acts.trans ?_ (acts_csrPut _ _ _ _) rfl rfl
        with_reducible assumption
      · with_reducible assumption
    clear_value a9
    have ha10 : Acts 3327582825601408021942891446352 680564733841876926926749214863536422911 t1 a10 := by
      dsimp only [a10]
      refine Acts.trans ?_ (acts_csrDone _ _ _ _ _) rfl rfl
      with_reducible assumption
    clear_value a10
    refine Acts.ite (fun _ => ?_) (fun _ => ?_)
    · refine Acts.trans ?_ (acts_illegal _ _ _ _) rfl rfl
      exact Acts.refl _ _ _
    · refine Acts.ite (fun _ => ?_) (fun _ => ?_)
      · refine Acts.trans ?_ (acts_notInGroup (L := 3327582825601408021942891446352) (R := 680564733841876926926749214863536422911) _ _ ?_ rfl rfl) rfl rfl
        · exact Acts.refl _ _ _
        · intro t11
          exact Acts.refl _ _ _
      · refine Acts.ite (fun _ => ?_) (fun _ => ?_)
        · refine Acts.trans ?_ (acts_depseqInsn _ _ _ _ _ _ _) rfl rfl
          exact Acts.refl _ _ _
        · refine Acts.ite (fun _ => ?_) (fun _ => ?_)
          · refine Acts.trans ?_ (acts_lostClearInsn _ _ _ _ _ _ _) rfl rfl
            exact Acts.refl _ _ _
          · refine Acts.ite (fun _ => ?_) (fun _ => ?_)
            · refine Acts.trans ?_ (acts_pairCtlInsn _ _ _ _ _ _ _) rfl rfl
              exact Acts.refl _ _ _
            · refine Acts.ite (fun _ => ?_) (fun _ => ?_)
              · refine Acts.trans ?_ (acts_closeIval _ _) rfl rfl
                exact Acts.refl _ _ _
              · refine Acts.ite (fun _ => ?_) (fun _ => ?_)
                · refine Acts.trans ?_ (acts_rebase _ _) rfl rfl
                  refine Acts.trans ?_ (acts_onCore _ _ _) rfl rfl
                  with_reducible assumption
                · with_reducible assumption

theorem acts_preempt (s : State) (c : Nat) :
    Acts 80 2596148429267413814265248164610048 s (State.preempt s c) := by
  unfold State.preempt
  refine Acts.ite (fun _ => ?_) (fun _ => ?_)
  · refine Acts.trans ?_ (acts_setFld _ _ _ _) rfl rfl
    refine Acts.trans ?_ (acts_trailerRun _ _ _) rfl rfl
    refine Acts.trans ?_ (acts_onCore _ _ _) rfl rfl
    exact Acts.refl _ _ _
  · exact Acts.refl _ _ _

theorem acts_execWfiWake (c : Nat) (s : State) :
    ActsR 80 32 s (execWfiWake c s) := by
  unfold execWfiWake
  extract_lets a1
  clear_value a1
  refine ActsR.next ?_
  refine Acts.ite (fun _ => ?_) (fun _ => ?_)
  · exact Acts.refl _ _ _
  · refine Acts.ite (fun _ => ?_) (fun _ => ?_)
    · refine Acts.trans ?_ (acts_onCore _ _ _) rfl rfl
      exact Acts.refl _ _ _
    · refine Acts.ite (fun _ => ?_) (fun _ => ?_)
      · refine Acts.trans ?_ (acts_lidOpen _ _ _) rfl rfl
        refine Acts.trans ?_ (acts_onCore _ _ _) rfl rfl
        exact Acts.refl _ _ _
      · exact Acts.refl _ _ _

theorem acts_execTrap (c : Nat) (intr : Bool) (code : Nat) (tval : W) (gpa : W) (s : State) :
    ActsR 3327582825601408021942891446352 3245185536660415427367833234833600 s (execTrap c intr code tval gpa s) := by
  unfold execTrap
  refine ActsR.next ?_
  refine Acts.ite (fun _ => ?_) (fun _ => ?_)
  · refine Acts.ite (fun _ => ?_) (fun _ => ?_)
    · refine Acts.ite (fun _ => ?_) (fun _ => ?_)
      · refine Acts.trans ?_ (acts_takeTrap _ _ _ _ _ _) rfl rfl
        refine Acts.trans ?_ (acts_pairLog _ _ _ _) rfl rfl
        refine Acts.trans ?_ (acts_preempt _ _) rfl rfl
        exact Acts.refl _ _ _
      · refine Acts.trans ?_ (acts_closeIval _ _) rfl rfl
        exact Acts.refl _ _ _
    · exact Acts.refl _ _ _
  · refine Acts.trans ?_ (acts_issue (L := 3327582825601408021942891446352) (R := 3245185536660415427367833234833600) _ _ _ ?_ rfl rfl) rfl rfl
    · exact Acts.refl _ _ _
    · intro t1
      refine Acts.trans ?_ (acts_exception _ _ _ _ _) rfl rfl
      exact Acts.refl _ _ _

theorem acts_execBranchMispredict (c : Nat) (rd : Nat) (taken : Bool) (jump : Bool) (call : Bool) (ret : Bool) (target : W) (len : Nat) (s : State) :
    ActsR 3327582825601408021942891446352 3245185536659825131557474529181888 s (execBranchMispredict c rd taken jump call ret target len s) := by
  unfold execBranchMispredict
  refine ActsR.next ?_
  refine Acts.trans ?_ (acts_issue (L := 3327582825601408021942891446352) (R := 3245185536659825131557474529181888) _ _ _ ?_ rfl rfl) rfl rfl
  · exact Acts.refl _ _ _
  · intro t1
    extract_lets a2 a3 a4 a5 a6 a7
    clear_value a2
    clear_value a3
    clear_value a4
    have ha5 : Acts 3327582825601408021942891446352 3245185536659825131557474529181888 t1 a5 := by
      dsimp only [a5]
      refine Acts.trans ?_ (acts_coreCount _ _ _) rfl rfl
      refine Acts.trans ?_ (acts_coreCount _ _ _) rfl rfl
      exact Acts.refl _ _ _
    clear_value a5
    have ha6 : Acts 3327582825601408021942891446352 3245185536659825131557474529181888 t1 a6 := by
      dsimp only [a6]
      refine Acts.trans ?_ (acts_onCore _ _ _) rfl rfl
      with_reducible assumption
    clear_value a6
    have ha7 : Acts 3327582825601408021942891446352 3245185536659825131557474529181888 t1 a7 := by
      dsimp only [a7]
      refine Acts.ite (fun _ => ?_) (fun _ => ?_)
      · refine Acts.trans ?_ (acts_trace _ _ _ _ _) rfl rfl
        with_reducible assumption
      · with_reducible assumption
    clear_value a7
    refine Acts.trans ?_ (acts_retireTo _ _ _ _ _) rfl rfl
    with_reducible assumption

theorem acts_execPauseEnd (c : Nat) (s : State) :
    ActsR 64 0 s (execPauseEnd c s) := by
  unfold execPauseEnd
  refine ActsR.next ?_
  refine Acts.ite (fun _ => ?_) (fun _ => ?_)
  · refine Acts.trans ?_ (acts_onCore _ _ _) rfl rfl
    exact Acts.refl _ _ _
  · exact Acts.refl _ _ _

theorem acts_execMret (c : Nat) (insn : W) (s : State) :
    ActsR 3327582825601408021942891446352 3245185536660415427367833234833600 s (execMret c insn s) := by
  unfold execMret
  refine ActsR.next ?_
  refine Acts.trans ?_ (acts_issue (L := 3327582825601408021942891446352) (R := 3245185536660415427367833234833600) _ _ _ ?_ rfl rfl) rfl rfl
  · exact Acts.refl _ _ _
  · intro t1
    refine Acts.trans ?_ (acts_notInGroup (L := 3327582825601408021942891446352) (R := 3245185536660415427367833234833600) _ _ ?_ rfl rfl) rfl rfl
    · exact Acts.refl _ _ _
    · intro t2
      refine Acts.ite (fun _ => ?_) (fun _ => ?_)
      · refine Acts.trans ?_ (acts_illegal _ _ _ _) rfl rfl
        exact Acts.refl _ _ _
      · refine Acts.trans ?_ (acts_xret _ _ _) rfl rfl
        exact Acts.refl _ _ _

theorem acts_execEbreak (c : Nat) (s : State) :
    ActsR 3327582825601408021942891446352 3245185536660415427367833234833600 s (execEbreak c s) := by
  unfold execEbreak
  refine ActsR.next ?_
  refine Acts.trans ?_ (acts_issue (L := 3327582825601408021942891446352) (R := 3245185536660415427367833234833600) _ _ _ ?_ rfl rfl) rfl rfl
  · exact Acts.refl _ _ _
  · intro t1
    refine Acts.trans ?_ (acts_notInGroup (L := 3327582825601408021942891446352) (R := 3245185536660415427367833234833600) _ _ ?_ rfl rfl) rfl rfl
    · exact Acts.refl _ _ _
    · intro t2
      refine Acts.ite (fun _ => ?_) (fun _ => ?_)
      · refine Acts.ite (fun _ => ?_) (fun _ => ?_)
        · refine Acts.trans ?_ (acts_enterHalt _ _ _ _) rfl rfl
          exact Acts.refl _ _ _
        · refine Acts.trans ?_ (acts_closeIval _ _) rfl rfl
          exact Acts.refl _ _ _
      · refine Acts.trans ?_ (acts_exception _ _ _ _ _) rfl rfl
        exact Acts.refl _ _ _

theorem acts_execPause (c : Nat) (len : Nat) (s : State) :
    ActsR 3327582825601408021942891446352 3245185536659825131557474529181888 s (execPause c len s) := by
  unfold execPause
  refine ActsR.next ?_
  refine Acts.trans ?_ (acts_issue (L := 3327582825601408021942891446352) (R := 3245185536659825131557474529181888) _ _ _ ?_ rfl rfl) rfl rfl
  · exact Acts.refl _ _ _
  · intro t1
    extract_lets a2
    have ha2 : Acts 3327582825601408021942891446352 3245185536659825131557474529181888 t1 a2 := by
      dsimp only [a2]
      refine Acts.trans ?_ (acts_retire _ _ _ _ _) rfl rfl
      exact Acts.refl _ _ _
    clear_value a2
    refine Acts.ite (fun _ => ?_) (fun _ => ?_)
    · refine Acts.trans ?_ (acts_onCore _ _ _) rfl rfl
      with_reducible assumption
    · with_reducible assumption

theorem acts_execEcall (c : Nat) (s : State) :
    ActsR 3327582825601408021942891446352 3245185536660415427367833234833600 s (execEcall c s) := by
  unfold execEcall
  refine ActsR.next ?_
  refine Acts.trans ?_ (acts_issue (L := 3327582825601408021942891446352) (R := 3245185536660415427367833234833600) _ _ _ ?_ rfl rfl) rfl rfl
  · exact Acts.refl _ _ _
  · intro t1
    refine Acts.trans ?_ (acts_notInGroup (L := 3327582825601408021942891446352) (R := 3245185536660415427367833234833600) _ _ ?_ rfl rfl) rfl rfl
    · exact Acts.refl _ _ _
    · intro t2
      refine Acts.trans ?_ (acts_exception _ _ _ _ _) rfl rfl
      exact Acts.refl _ _ _

theorem acts_execWfi (c : Nat) (len : Nat) (insn : W) (s : State) :
    ActsR 3327582825601408021942891446352 3245185536660415427367833234833600 s (execWfi c len insn s) := by
  unfold execWfi
  refine ActsR.next ?_
  refine Acts.trans ?_ (acts_issue (L := 3327582825601408021942891446352) (R := 3245185536660415427367833234833600) _ _ _ ?_ rfl rfl) rfl rfl
  · exact Acts.refl _ _ _
  · intro t1
    refine Acts.trans ?_ (acts_notInGroup (L := 3327582825601408021942891446352) (R := 3245185536660415427367833234833600) _ _ ?_ rfl rfl) rfl rfl
    · exact Acts.refl _ _ _
    · intro t2
      extract_lets a3 a4
      clear_value a3
      have ha4 : Acts 3327582825601408021942891446352 3245185536660415427367833234833600 t2 a4 := by
        dsimp only [a4]
        refine Acts.trans ?_ (acts_rebase _ _) rfl rfl
        refine Acts.trans ?_ (acts_retire _ _ _ _ _) rfl rfl
        exact Acts.refl _ _ _
      clear_value a4
      refine Acts.ite (fun _ => ?_) (fun _ => ?_)
      · refine Acts.trans ?_ (acts_illegal _ _ _ _) rfl rfl
        exact Acts.refl _ _ _
      · refine Acts.ite (fun _ => ?_) (fun _ => ?_)
        · refine Acts.trans ?_ (acts_closeIval _ _) rfl rfl
          exact Acts.refl _ _ _
        · refine Acts.ite (fun _ => ?_) (fun _ => ?_)
          · with_reducible assumption
          · refine Acts.trans ?_ (acts_onCore _ _ _) rfl rfl
            with_reducible assumption

end Sys2Proof.Machine
end

