-- ==== Sys2Proof/Laws/AgentIoActs.lean ====
section
/-! SUPPORT. What each operation and each command of AgentIo.lean may touch: `acts_<name>` bounds the fields and the registers that
`<name>` can change (see Acts.lean). -/

namespace Sys2Proof.Machine

open Sys2Proof

theorem acts_dmaRead (s : State) (dest : Nat) (pa : Nat) (n : Nat) :
    Acts 633825300116420543770987069520 75557863725914323419584 s (State.dmaRead s dest pa n).2 := by
  unfold State.dmaRead
  extract_lets a1 a2 a3
  clear_value a1
  have ha2 : Acts 633825300116420543770987069520 75557863725914323419584 s a2 := by
    dsimp only [a2]
    refine Acts.foldl (L2 := 633825300116420543770987069520) (R2 := 75557863725914323419584) _ ?_ (fun t4 x5 => ?_) rfl rfl
    · exact Acts.refl _ _ _
    · refine Acts.trans ?_ (acts_settleFlips _ _) rfl rfl
      exact Acts.refl _ _ _
  clear_value a2
  have ha3 : Acts 633825300116420543770987069520 75557863725914323419584 s a3 := by
    dsimp only [a3]
    refine Acts.foldl (L2 := 633825300116420543770987069520) (R2 := 75557863725914323419584) _ ?_ (fun t6 x7 => ?_) rfl rfl
    · with_reducible assumption
    · refine Acts.trans ?_ (acts_agentRead _ _) rfl rfl
      exact Acts.refl _ _ _
  clear_value a3
  refine Acts.ite2 (fun _ => ?_) (fun _ => ?_)
  · with_reducible assumption
  · refine Acts.ite2 (fun _ => ?_) (fun _ => ?_)
    · with_reducible assumption
    · with_reducible assumption
theorem acts_dmaRead_eq {s : State} {dest : Nat} {pa : Nat} {n : Nat} {x} {t : State} (h : (State.dmaRead s dest pa n) = (x, t)) : Acts 633825300116420543770987069520 75557863725914323419584 s t := by
  have := acts_dmaRead s dest pa n; rw [h] at this; exact this

theorem acts_agentAtomic (s : State) (pa : Nat) (size : Nat) (op : AmoOp) (src : Nat) (secure : Bool) :
    Acts 633825300116420543770987184598 75557863725914323419584 s (State.agentAtomic s pa size op src secure).2 := by
  unfold State.agentAtomic
  extract_lets a1
  clear_value a1
  dsimp only
  refine Acts.trans ?_ (acts_agentWriteBytes _ _ _ _) rfl rfl
  exact Acts.refl _ _ _
theorem acts_agentAtomic_eq {s : State} {pa : Nat} {size : Nat} {op : AmoOp} {src : Nat} {secure : Bool} {x} {t : State} (h : (State.agentAtomic s pa size op src secure) = (x, t)) : Acts 633825300116420543770987184598 75557863725914323419584 s t := by
  have := acts_agentAtomic s pa size op src secure; rw [h] at this; exact this

theorem acts_ioTake (s : State) (node : Nat) (tag : Nat) :
    Acts 12582912 0 s (State.ioTake s node tag) := by
  unfold State.ioTake
  extract_lets a1 a2 a3 a4
  clear_value a1
  clear_value a2
  clear_value a3
  have ha4 : Acts 12582912 0 s a4 := by
    refine Acts.trans ?_ (Acts.set_txns _ _) rfl rfl
    exact Acts.refl _ _ _
  clear_value a4
  refine Acts.trans ?_ (acts_take _ _ _ _) rfl rfl
  with_reducible assumption

theorem acts_dramMay (s : State) (key : Nat) (pa : Nat) (n : Nat) (secure : Bool) (part : Nat) :
    Acts 633825300114114700748485820416 0 s (State.dramMay s key pa n secure part).2 := by
  unfold State.dramMay
  extract_lets a1
  clear_value a1
  refine Acts.foldl2 (L2 := 633825300114114700748485820416) (R2 := 0) _ ?_ (fun t2 x3 => ?_) rfl rfl
  · exact Acts.refl _ _ _
  · extract_lets a4
    clear_value (ea4 : a4 = _)
    have ha4 : Acts 633825300114114700748485820416 0 t2.snd a4.2 := by
      rw [ea4]
      clear ea4
      refine Acts.trans ?_ (acts_dramOwner _ _ _ _) rfl rfl
      exact Acts.refl _ _ _
    clear ea4
    with_reducible assumption
theorem acts_dramMay_eq {s : State} {key : Nat} {pa : Nat} {n : Nat} {secure : Bool} {part : Nat} {x} {t : State} (h : (State.dramMay s key pa n secure part) = (x, t)) : Acts 633825300114114700748485820416 0 s t := by
  have := acts_dramMay s key pa n secure part; rw [h] at this; exact this

theorem acts_maskedWrite (s : State) (pa : Nat) (bs : List Byte) (mask : Nat) (secure : Bool) :
    Acts 633825300116420543770987184598 75557863725914323419584 s (State.maskedWrite s pa bs mask secure) := by
  unfold State.maskedWrite
  extract_lets a1
  clear_value a1
  refine Acts.ite (fun _ => ?_) (fun _ => ?_)
  · refine Acts.trans ?_ (acts_agentWriteBytes _ _ _ _) rfl rfl
    exact Acts.refl _ _ _
  · refine Acts.foldl (L2 := 633825300116420543770987184598) (R2 := 75557863725914323419584) _ ?_ (fun t2 x3 => ?_) rfl rfl
    · exact Acts.refl _ _ _
    · extract_lets a4 a5 a6
      clear_value a4
      clear_value a5
      clear_value a6
      refine Acts.ite (fun _ => ?_) (fun _ => ?_)
      · exact Acts.refl _ _ _
      · refine Acts.trans ?_ (acts_agentWrite _ _ _ _ _) rfl rfl
        exact Acts.refl _ _ _

theorem acts_ioAnswer (s : State) (node : Nat) (tag : Nat) (epoch : Nat) (data : Nat) (status : Nat) :
    Acts 633825300356228216729219744214 237684563100656738694955270608 s (State.ioAnswer s node tag epoch data status) := by
  unfold State.ioAnswer
  extract_lets a1 a2 a3 a4
  clear_value a1
  clear_value a2
  have ha3 : Acts 633825300356228216729219744214 237684563100656738694955270608 s a3 := by
    dsimp only [a3]
    refine Acts.trans ?_ (acts_freeTxn _ _ _) rfl rfl
    exact Acts.refl _ _ _
  clear_value a3
  clear_value a4
  refine Acts.ite (fun _ => ?_) (fun _ => ?_)
  · refine Acts.ite (fun _ => ?_) (fun _ => ?_)
    · exact Acts.refl _ _ _
    · refine Acts.trans ?_ (acts_incSat _ _ _) rfl rfl
      refine Acts.trans ?_ (Acts.set_txns _ _) rfl rfl
      exact Acts.refl _ _ _
  · split
    · refine Acts.trans ?_ (acts_onCore _ _ _) rfl rfl
      refine Acts.ite (fun _ => ?_) (fun _ => ?_)
      · refine Acts.trans ?_ (acts_stopRecord _ _ _ _ _) rfl rfl
        exact Acts.refl _ _ _
      · exact Acts.refl _ _ _
    · extract_lets a5
      have ha5 : Acts 633825300356228216729219744214 237684563100656738694955270608 s a5 := by
        dsimp only [a5]
        refine Acts.trans ?_ (acts_onCore _ _ _) rfl rfl
        with_reducible assumption
      clear_value a5
      refine Acts.ite (fun _ => ?_) (fun _ => ?_)
      · refine Acts.trans ?_ (acts_earlyFail _ _ _ _ _) rfl rfl
        with_reducible assumption
      · refine Acts.ite (fun _ => ?_) (fun _ => ?_)
        · with_reducible assumption
        · refine Acts.trans ?_ (acts_reportStore _ _ _ _) rfl rfl
          refine Acts.ite (fun _ => ?_) (fun _ => ?_)
          · refine Acts.trans ?_ (acts_stopRecord _ _ _ _ _) rfl rfl
            with_reducible assumption
          · with_reducible assumption
    · refine Acts.trans ?_ (Acts.set_txns _ _) rfl rfl
      exact Acts.refl _ _ _
    · exact Acts.refl _ _ _

theorem acts_dmaWrite (s : State) (pa : Nat) (bs : List Byte) (secure : Bool) :
    ActsO 633825300116420543770987184598 75557863725914323419584 s (State.dmaWrite s pa bs secure) := by
  unfold State.dmaWrite
  refine ActsO.ite (fun _ => ?_) (fun _ => ?_)
  · refine ActsO.some ?_
    refine Acts.trans ?_ (acts_agentWriteBytes _ _ _ _) rfl rfl
    exact Acts.refl _ _ _
  · exact ActsO.none
theorem acts_dmaWrite_eq {s : State} {pa : Nat} {bs : List Byte} {secure : Bool} {t : State} (h : (State.dmaWrite s pa bs secure) = some t) : Acts 633825300116420543770987184598 75557863725914323419584 s t := acts_dmaWrite s pa bs secure t h

theorem acts_dramIs (s : State) (key : Nat) (pa : Nat) (n : Nat) (secure : Bool) (part : Nat) :
    Acts 633825300114114700748485820416 0 s (State.dramIs s key pa n secure part).2 := by
  unfold State.dramIs
  extract_lets a1
  clear_value a1
  refine Acts.foldl2 (L2 := 633825300114114700748485820416) (R2 := 0) _ ?_ (fun t2 x3 => ?_) rfl rfl
  · exact Acts.refl _ _ _
  · extract_lets a4
    clear_value (ea4 : a4 = _)
    have ha4 : Acts 633825300114114700748485820416 0 t2.snd a4.2 := by
      rw [ea4]
      clear ea4
      refine Acts.trans ?_ (acts_dramOwner _ _ _ _) rfl rfl
      exact Acts.refl _ _ _
    clear ea4
    with_reducible assumption
theorem acts_dramIs_eq {s : State} {key : Nat} {pa : Nat} {n : Nat} {secure : Bool} {part : Nat} {x} {t : State} (h : (State.dramIs s key pa n secure part) = (x, t)) : Acts 633825300114114700748485820416 0 s t := by
  have := acts_dramIs s key pa n secure part; rw [h] at this; exact this

end Sys2Proof.Machine
end

