-- ==== Sys2Proof/Laws/FabricActs.lean ====
section
/-! SUPPORT. What each operation and each command of Fabric.lean may touch: `acts_<name>` bounds the fields and the registers that
`<name>` can change (see Acts.lean). -/

namespace Sys2Proof.Machine

open Sys2Proof

theorem acts_timeRoles (s : State) :
    Acts 633825300116420543762397134928 75557863727013835047104 s (State.timeRoles s) := by
  unfold State.timeRoles
  extract_lets a1
  clear_value a1
  refine Acts.ite (fun _ => ?_) (fun _ => ?_)
  · exact Acts.refl _ _ _
  · refine Acts.foldl (L2 := 633825300116420543762397134928) (R2 := 75557863727013835047104) _ ?_ (fun t2 x3 => ?_) rfl rfl
    · exact Acts.refl _ _ _
    · refine Acts.ite (fun _ => ?_) (fun _ => ?_)
      · refine Acts.ite (fun _ => ?_) (fun _ => ?_)
        · exact Acts.refl _ _ _
        · refine Acts.trans ?_ (acts_raise _ _) rfl rfl
          refine Acts.trans ?_ (acts_setFld _ _ _ _) rfl rfl
          exact Acts.refl _ _ _
      · exact Acts.refl _ _ _

theorem acts_portClear (s : State) (p : Nat) :
    Acts 633825300356228217691284029910 237684563100656738694955270592 s (State.portClear s p) := by
  unfold State.portClear
  extract_lets a1 a2
  clear_value a1
  have ha2 : Acts 633825300356228217691284029910 237684563100656738694955270592 s a2 := by
    dsimp only [a2]
    refine Acts.trans ?_ (acts_setPort _ _ _) rfl rfl
    exact Acts.refl _ _ _
  clear_value a2
  refine Acts.foldl (L2 := 633825300356228217691284029910) (R2 := 237684563100656738694955270592) _ ?_ (fun t3 x4 => ?_) rfl rfl
  · with_reducible assumption
  · split
    · refine Acts.trans ?_ (acts_fabSend _ _) rfl rfl
      refine Acts.trans ?_ (Acts.set_fabRem _ _) rfl rfl
      exact Acts.refl _ _ _
    · exact Acts.refl _ _ _

theorem acts_setPortState (s : State) (p : Nat) (st : Nat) :
    Acts 633825300116420543762397134928 75557863727013835047104 s (State.setPortState s p st) := by
  unfold State.setPortState
  refine Acts.ite (fun _ => ?_) (fun _ => ?_)
  · exact Acts.refl _ _ _
  · refine Acts.trans ?_ (acts_raise _ _) rfl rfl
    refine Acts.trans ?_ (acts_setFld _ _ _ _) rfl rfl
    exact Acts.refl _ _ _

theorem acts_linkLocal (s : State) (p : Nat) (k : Pkt) :
    Acts 633825300114114700885790556160 0 s (State.linkLocal s p k) := by
  unfold State.linkLocal
  refine Acts.trans ?_ (acts_enqueue _ _ _) rfl rfl
  exact Acts.refl _ _ _

theorem acts_portCtl (s : State) (p : Nat) (cmd : Nat) :
    Acts 633825300356228217691284029910 237684563100656739794466898368 s (State.portCtl s p cmd) := by
  unfold State.portCtl
  extract_lets a1 a2 a3 a4
  clear_value a1
  have ha2 : Acts 633825300356228217691284029910 237684563100656739794466898368 s a2 := by
    dsimp only [a2]
    refine Acts.ite (fun _ => ?_) (fun _ => ?_)
    · refine Acts.trans ?_ (acts_setPortState _ _ _) rfl rfl
      exact Acts.refl _ _ _
    · exact Acts.refl _ _ _
  clear_value a2
  clear_value a3
  clear_value a4
  refine Acts.ite (fun _ => ?_) (fun _ => ?_)
  · refine Acts.ite (fun _ => ?_) (fun _ => ?_)
    · exact Acts.refl _ _ _
    · refine Acts.trans ?_ (acts_portClear _ _) rfl rfl
      refine Acts.trans ?_ (acts_setFld _ _ _ _) rfl rfl
      refine Acts.trans ?_ (acts_setPortState _ _ _) rfl rfl
      exact Acts.refl _ _ _
  · refine Acts.ite (fun _ => ?_) (fun _ => ?_)
    · refine Acts.trans ?_ (acts_portClear _ _) rfl rfl
      refine Acts.trans ?_ (acts_setPortState _ _ _) rfl rfl
      with_reducible assumption
    · refine Acts.ite (fun _ => ?_) (fun _ => ?_)
      · refine Acts.ite (fun _ => ?_) (fun _ => ?_)
        · with_reducible assumption
        · refine Acts.trans ?_ (acts_linkLocal _ _ _) rfl rfl
          refine Acts.trans ?_ (acts_setPort _ _ _) rfl rfl
          with_reducible assumption
      · with_reducible assumption

theorem acts_portCtlWrite (s : State) (ag : Agent) (p : Nat) (w : W) :
    Acts 3169126500849580508832122126838 237684563100656740344222712256 s (State.portCtlWrite s ag p w) := by
  unfold State.portCtlWrite
  refine Acts.trans ?_ (acts_onWrite (L := 3169126500849580508832122126838) (R := 237684563100656740344222712256) _ _ _ _ _ ?_ rfl rfl) rfl rfl
  · exact Acts.refl _ _ _
  · intro t1
    refine Acts.trans ?_ (acts_timeRoles _) rfl rfl
    refine Acts.trans ?_ (acts_portCtl _ _ _) rfl rfl
    exact Acts.refl _ _ _

theorem acts_execEnable (ag : Agent) (p : Nat) (w : W) (s : State) :
    ActsR 3169126500849580508832122126838 237684563100656740344222712256 s (execEnable ag p w s) := by
  unfold execEnable
  refine ActsR.next ?_
  refine Acts.trans ?_ (acts_portCtlWrite _ _ _ _) rfl rfl
  exact Acts.refl _ _ _

theorem acts_ringIrq (s : State) (r : Nat) :
    Acts 633825300116420543762397134928 192 s (State.ringIrq s r) := by
  unfold State.ringIrq
  refine Acts.ite (fun _ => ?_) (fun _ => ?_)
  · refine Acts.trans ?_ (acts_message _ _ _ _) rfl rfl
    exact Acts.refl _ _ _
  · exact Acts.refl _ _ _

theorem acts_execMsg (s : State) :
    ActsR 633825300356228217141662433750 237684563100656738763674747328 s (execMsg s) := by
  unfold execMsg
  refine ActsR.next ?_
  split
  · exact Acts.refl _ _ _
  · extract_lets a1 a2 a3 a4 a5 a6 a7 a8 a9
    clear_value a1
    clear_value a3
    clear_value a4
    clear_value a5
    clear_value a6
    clear_value a7
    clear_value (ea8 : a8 = _)
    have ha8 : Acts 633825300356228217141662433750 237684563100656738763674747328 s a8.2 := by
      rw [ea8]
      clear ea8
      refine Acts.trans ?_ (acts_dramIs _ _ _ _ _ _) rfl rfl
      refine Acts.trans ?_ (acts_takePkt_eq (by assumption)) rfl rfl
      exact Acts.refl _ _ _
    clear ea8
    clear_value a9
    refine Acts.ite (fun _ => ?_) (fun _ => ?_)
    · dsimp only [a2]
      refine Acts.trans ?_ (acts_fabSend _ _) rfl rfl
      with_reducible assumption
    · refine Acts.ite (fun _ => ?_) (fun _ => ?_)
      · dsimp only [a2]
        refine Acts.trans ?_ (acts_fabSend _ _) rfl rfl
        with_reducible assumption
      · refine Acts.ite (fun _ => ?_) (fun _ => ?_)
        · dsimp only [a2]
          refine Acts.trans ?_ (acts_fabSend _ _) rfl rfl
          with_reducible assumption
        · split
          · dsimp only [a2]
            refine Acts.trans ?_ (acts_fabSend _ _) rfl rfl
            with_reducible assumption
          · dsimp only [a2]
            refine Acts.trans ?_ (acts_fabSend _ _) rfl rfl
            refine Acts.trans ?_ (acts_ringIrq _ _) rfl rfl
            refine Acts.trans ?_ (acts_setFld _ _ _ _) rfl rfl
            refine Acts.trans ?_ (acts_dmaWrite_eq (by assumption)) rfl rfl
            with_reducible assumption

theorem acts_portDown (s : State) (p : Nat) :
    Acts 633825300356228217691284029910 237684563100656739794466898368 s (State.portDown s p) := by
  unfold State.portDown
  extract_lets a1 a2
  clear_value a1
  have ha2 : Acts 633825300356228217691284029910 237684563100656739794466898368 s a2 := by
    dsimp only [a2]
    refine Acts.trans ?_ (acts_setFld _ _ _ _) rfl rfl
    refine Acts.trans ?_ (acts_setFld _ _ _ _) rfl rfl
    refine Acts.trans ?_ (acts_setPortState _ _ _) rfl rfl
    exact Acts.refl _ _ _
  clear_value a2
  refine Acts.trans ?_ (acts_raise _ _) rfl rfl
  refine Acts.trans ?_ (acts_logErr _ _ _ _ _ _) rfl rfl
  refine Acts.trans ?_ (acts_portClear _ _) rfl rfl
  with_reducible assumption

theorem acts_sqHead (fuel q : Nat) (s : State) : Acts 8796093022224 274877906944 s (State.sqHead fuel q s) := by
  induction fuel generalizing s with
  | zero => exact Acts.refl _ _ _
  | succ fuel ih =>
    unfold State.sqHead
    extract_lets a3 a4
    clear_value a3
    have ha4 : Acts 8796093022224 274877906944 s a4 := by
      dsimp only [a4]
      refine Acts.trans ?_ (acts_setFld _ _ _ _) rfl rfl
      exact Acts.refl _ _ _
    clear_value a4
    refine Acts.ite (fun _ => ?_) (fun _ => ?_)
    · refine Acts.trans ?_ (ih _) rfl rfl
      refine Acts.trans ?_ (Acts.set_sqDone _ _) rfl rfl
      with_reducible assumption
    · exact Acts.refl _ _ _

theorem acts_sqComplete (s : State) (q : Nat) (ix : Nat) (st : Nat) :
    Acts 633825300116420552567080206806 75557863726189201326528 s (State.sqComplete s q ix st) := by
  unfold State.sqComplete
  extract_lets a1
  have ha1 : Acts 633825300116420552567080206806 75557863726189201326528 s a1 := by
    dsimp only [a1]
    refine ActsO.getD ?_ ?_
    · refine ActsO.trans ?_ (acts_dmaWrite _ _ _ _) rfl rfl
      exact Acts.refl _ _ _
    · exact Acts.refl _ _ _
  clear_value a1
  refine Acts.trans ?_ (acts_sqHead _ _ _) rfl rfl
  refine Acts.trans ?_ (Acts.set_sqDone _ _) rfl rfl
  with_reducible assumption

theorem acts_sqSend (fuel q : Nat) (s : State) : Acts 633825300356228230885557780950 237684563100656738969833177536 s (State.sqSend fuel q s) := by
  induction fuel generalizing s with
  | zero => exact Acts.refl _ _ _
  | succ fuel ih =>
    unfold State.sqSend
    extract_lets a1 a2 a3 a4
    clear_value a1
    have h3 : ∀ t, Acts 633825300356228230885557780950 237684563100656738969833177536 t (a3 t) := fun t => (Acts.set_sqNext t _).mono rfl rfl
    have h4 : ∀ t n, Acts 633825300356228230885557780950 237684563100656738969833177536 t (a4 t n) := fun t n => by
      dsimp only [a4]
      refine Acts.trans ?_ (ih _) rfl rfl
      exact (h3 t).trans (acts_sqComplete _ _ _ _) rfl rfl
    clear_value a4
    clear_value a3
    refine Acts.ite (fun _ => Acts.refl _ _ _) (fun _ => ?_)
    clear_value (e2 : a2 = _)
    have h2 : Acts 633825300356228230885557780950 237684563100656738969833177536 s a2.2 := by
      rw [e2]
      exact (acts_dramIs _ _ _ _ _ _).mono rfl rfl
    clear e2
    refine Acts.ite (fun _ => h2.trans (h4 _ _) rfl rfl) (fun _ => ?_)
    split
    · exact h2.trans (acts_dmaRead_eq (by assumption)) rfl rfl
    · exact (h2.trans (acts_dmaRead_eq (by assumption)) rfl rfl).trans (h4 _ _) rfl rfl
    · rename_i d s1 e3
      have h5 : Acts 633825300356228230885557780950 237684563100656738969833177536 s s1 := h2.trans (acts_dmaRead_eq e3) rfl rfl
      clear e3
      extract_lets a5 a6 a7
      clear_value a6
      refine Acts.ite (fun _ => h5.trans (h4 _ _) rfl rfl) (fun _ => ?_)
      clear_value (e7 : a7 = _)
      have h7 : Acts 633825300356228230885557780950 237684563100656738969833177536 s a7.2 := by
        rw [e7]
        exact h5.trans (acts_dramIs _ _ _ _ _ _) rfl rfl
      clear e7
      refine Acts.ite (fun _ => h7.trans (h4 _ _) rfl rfl) (fun _ => ?_)
      generalize e8 : a7.2.dmaRead 24 _ a6 = x8
      have h8 : Acts 633825300356228230885557780950 237684563100656738969833177536 s x8.2 := by
        rw [← e8]
        exact h7.trans (acts_dmaRead _ _ _ _) rfl rfl
      clear e8
      split
      · exact h8
      · exact h8.trans (h4 _ _) rfl rfl
      · exact h8
      · rename_i s2 t e9
        extract_lets a8 a9 a10
        refine Acts.trans ?_ (ih _) rfl rfl
        refine Acts.trans ?_ (acts_fabSend _ _) rfl rfl
        exact ((h8.trans (h3 _) rfl rfl).trans (Acts.set_fabRem _ _) rfl rfl)

theorem acts_execTail (ag : Agent) (q : Nat) (w : W) (s : State) :
    ActsR 3169126500849580522026395877878 237684563100656738969833177536 s (execTail ag q w s) := by
  unfold execTail
  refine ActsR.next ?_
  refine Acts.trans ?_ (acts_onWrite (L := 3169126500849580522026395877878) (R := 237684563100656738969833177536) _ _ _ _ _ ?_ rfl rfl) rfl rfl
  · exact Acts.refl _ _ _
  · intro t1
    refine Acts.trans ?_ (acts_sqSend _ _ _) rfl rfl
    exact Acts.refl _ _ _

theorem acts_execTimeSyncInterval (p : Nat) (s : State) :
    ActsR 633825300116420543899836088400 75557863727013835047104 s (execTimeSyncInterval p s) := by
  unfold execTimeSyncInterval
  refine ActsR.next ?_
  refine Acts.ite (fun _ => ?_) (fun _ => ?_)
  · refine Acts.trans ?_ (acts_timeRoles _) rfl rfl
    refine Acts.trans ?_ (acts_linkLocal _ _ _) rfl rfl
    exact Acts.refl _ _ _
  · refine Acts.trans ?_ (acts_timeRoles _) rfl rfl
    exact Acts.refl _ _ _

theorem acts_execTrainingRetry (p : Nat) (s : State) :
    ActsR 16 1099511627776 s (execTrainingRetry p s) := by
  unfold execTrainingRetry
  refine ActsR.next ?_
  refine Acts.ite (fun _ => ?_) (fun _ => ?_)
  · refine Acts.trans ?_ (acts_setFld _ _ _ _) rfl rfl
    exact Acts.refl _ _ _
  · exact Acts.refl _ _ _

theorem acts_execApertureAccess (node : Nat) (tag : Nat) (s : State) :
    ActsR 633825300393121705838715716054 237684563100656738694955270608 s (execApertureAccess node tag s) := by
  unfold execApertureAccess
  extract_lets a1 a2 a3 a4
  clear_value a1
  clear_value a2
  clear_value a3
  clear_value a4
  refine ActsR.next ?_
  refine Acts.ite (fun _ => ?_) (fun _ => ?_)
  · exact Acts.refl _ _ _
  · split
    · refine Acts.trans ?_ (acts_ioAnswer _ _ _ _ _ _) rfl rfl
      refine Acts.trans ?_ (acts_logRefusal _ _ _ _ _ _) rfl rfl
      refine Acts.trans ?_ (acts_ioTake _ _ _) rfl rfl
      exact Acts.refl _ _ _
    · extract_lets a5 a6 a7 a8 a9
      clear_value a5
      clear_value a6
      clear_value a8
      clear_value a9
      refine Acts.ite (fun _ => ?_) (fun _ => ?_)
      · refine Acts.trans ?_ (acts_fabSend _ _) rfl rfl
        refine Acts.trans ?_ (acts_ioAnswer _ _ _ _ _ _) rfl rfl
        refine Acts.trans ?_ (acts_ioTake _ _ _) rfl rfl
        exact Acts.refl _ _ _
      · split
        · exact Acts.refl _ _ _
        · extract_lets a10 a11 a12
          clear_value a10
          clear_value a11
          refine Acts.ite (fun _ => ?_) (fun _ => ?_)
          · refine Acts.ite (fun _ => ?_) (fun _ => ?_)
            · exact Acts.refl _ _ _
            · refine Acts.trans ?_ (acts_setPort _ _ _) rfl rfl
              dsimp only [a12]
              refine Acts.trans ?_ (Acts.set_fabRem _ _) rfl rfl
              refine Acts.trans ?_ (acts_ioTake _ _ _) rfl rfl
              exact Acts.refl _ _ _
          · refine Acts.trans ?_ (acts_fabSend _ _) rfl rfl
            dsimp only [a12]
            refine Acts.trans ?_ (Acts.set_fabRem _ _) rfl rfl
            refine Acts.trans ?_ (acts_ioTake _ _ _) rfl rfl
            exact Acts.refl _ _ _

theorem acts_execConsumer (ag : Agent) (ring : Nat) (w : W) (s : State) :
    ActsR 3169126500849580507870049452534 237684563100656738763674747328 s (execConsumer ag ring w s) := by
  unfold execConsumer
  refine ActsR.next ?_
  refine Acts.trans ?_ (acts_onWrite (L := 3169126500849580507870049452534) (R := 237684563100656738763674747328) _ _ _ _ _ ?_ rfl rfl) rfl rfl
  · exact Acts.refl _ _ _
  · intro t1
    exact Acts.refl _ _ _

theorem acts_takeAck (s : State) (p : Nat) (ack : Nat) :
    Acts 633825300114114700885790556160 0 s (State.takeAck s p ack) := by
  unfold State.takeAck
  extract_lets a1
  clear_value a1
  split
  · exact Acts.refl _ _ _
  · refine Acts.trans ?_ (acts_pump _ _) rfl rfl
    refine Acts.trans ?_ (acts_setPort _ _ _) rfl rfl
    exact Acts.refl _ _ _

theorem acts_execTimeDelayReq (s : State) :
    ActsR 633825300114114701160668463104 0 s (execTimeDelayReq s) := by
  unfold execTimeDelayReq
  refine ActsR.next ?_
  split
  · exact Acts.refl _ _ _
  · refine Acts.ite (fun _ => ?_) (fun _ => ?_)
    · refine Acts.trans ?_ (acts_linkLocal _ _ _) rfl rfl
      refine Acts.trans ?_ (acts_takePkt_eq (by assumption)) rfl rfl
      exact Acts.refl _ _ _
    · refine Acts.trans ?_ (acts_takePkt_eq (by assumption)) rfl rfl
      exact Acts.refl _ _ _

theorem acts_laneSpared (s : State) (p : Nat) (lane : Nat) :
    Acts 633825300356228216729211355606 237684563100656739794466898368 s (State.laneSpared s p lane) := by
  unfold State.laneSpared
  refine Acts.trans ?_ (acts_raise _ _) rfl rfl
  refine Acts.trans ?_ (acts_logErr _ _ _ _ _ _) rfl rfl
  refine Acts.trans ?_ (acts_setFld _ _ _ _) rfl rfl
  exact Acts.refl _ _ _

theorem acts_execLaneSwapPacket (s : State) :
    ActsR 633825300356228217141528216022 237684563100656739794466898368 s (execLaneSwapPacket s) := by
  unfold execLaneSwapPacket
  refine ActsR.next ?_
  split
  · exact Acts.refl _ _ _
  · extract_lets a1 a2 a3 a4
    clear_value a1
    clear_value a2
    clear_value a3
    refine Acts.ite (fun _ => ?_) (fun _ => ?_)
    · refine Acts.trans ?_ (acts_takePkt_eq (by assumption)) rfl rfl
      exact Acts.refl _ _ _
    · refine Acts.ite (fun _ => ?_) (fun _ => ?_)
      · dsimp only [a4]
        refine Acts.trans ?_ (acts_linkLocal _ _ _) rfl rfl
        refine Acts.trans ?_ (acts_setPort _ _ _) rfl rfl
        refine Acts.trans ?_ (acts_takePkt_eq (by assumption)) rfl rfl
        exact Acts.refl _ _ _
      · refine Acts.ite (fun _ => ?_) (fun _ => ?_)
        · dsimp only [a4]
          refine Acts.trans ?_ (acts_linkLocal _ _ _) rfl rfl
          refine Acts.trans ?_ (acts_laneSpared _ _ _) rfl rfl
          refine Acts.trans ?_ (acts_setPort _ _ _) rfl rfl
          refine Acts.trans ?_ (acts_takePkt_eq (by assumption)) rfl rfl
          exact Acts.refl _ _ _
        · refine Acts.ite (fun _ => ?_) (fun _ => ?_)
          · refine Acts.trans ?_ (acts_laneSpared _ _ _) rfl rfl
            refine Acts.trans ?_ (acts_setPort _ _ _) rfl rfl
            refine Acts.trans ?_ (acts_takePkt_eq (by assumption)) rfl rfl
            exact Acts.refl _ _ _
          · refine Acts.trans ?_ (acts_takePkt_eq (by assumption)) rfl rfl
            exact Acts.refl _ _ _

theorem acts_execLaneSwap (ag : Agent) (p : Nat) (w : W) (s : State) :
    ActsR 3188933541478146593230508114422 237684563100656740344222712256 s (execLaneSwap ag p w s) := by
  unfold execLaneSwap
  extract_lets a1
  have ha1 : Acts 3188933541478146593230508114422 237684563100656740344222712256 s a1 := by
    dsimp only [a1]
    refine Acts.trans ?_ (acts_portCtlWrite _ _ _ _) rfl rfl
    exact Acts.refl _ _ _
  clear_value a1
  refine ActsR.next ?_
  refine Acts.ite (fun _ => ?_) (fun _ => ?_)
  · refine Acts.trans ?_ (acts_logRepair _ _ _) rfl rfl
    with_reducible assumption
  · with_reducible assumption

theorem acts_execMsgRsp (s : State) :
    ActsR 633825300356228230885557780950 237684563100656738969833177536 s (execMsgRsp s) := by
  unfold execMsgRsp
  refine ActsR.next ?_
  split
  · exact Acts.refl _ _ _
  · split
    · extract_lets a1
      clear_value a1
      refine Acts.trans ?_ (acts_sqSend _ _ _) rfl rfl
      refine Acts.trans ?_ (acts_sqComplete _ _ _ _) rfl rfl
      refine Acts.trans ?_ (Acts.set_fabRem _ _) rfl rfl
      refine Acts.trans ?_ (acts_takePkt_eq (by assumption)) rfl rfl
      exact Acts.refl _ _ _
    · refine Acts.trans ?_ (acts_takePkt_eq (by assumption)) rfl rfl
      exact Acts.refl _ _ _

theorem acts_sendIdle (s : State) (p : Nat) (nak : Bool) :
    Acts 137438953472 0 s (State.sendIdle s p nak) := by
  unfold State.sendIdle
  extract_lets a1 a2 a3 a4
  clear_value a1
  clear_value a2
  clear_value a3
  clear_value a4
  refine Acts.trans ?_ (acts_setPort _ _ _) rfl rfl
  exact Acts.refl _ _ _

theorem acts_fabNext (s : State) (p : Nat) :
    Acts 633825300356228217691284029910 237684563100656738694955270592 s (State.fabNext s p) := by
  unfold State.fabNext
  refine Acts.ite (fun _ => ?_) (fun _ => ?_)
  · exact Acts.refl _ _ _
  · split
    · exact Acts.refl _ _ _
    · refine Acts.ite (fun _ => ?_) (fun _ => ?_)
      · exact Acts.refl _ _ _
      · split
        · refine Acts.trans ?_ (acts_setPort _ _ _) rfl rfl
          exact Acts.refl _ _ _
        · refine Acts.trans ?_ (acts_fabSend _ _) rfl rfl
          extract_lets a1 a2
          clear_value a1
          have ha2 : Acts 633825300356228217691284029910 237684563100656738694955270592 s a2 := by
            dsimp only [a2]
            refine Acts.trans ?_ (acts_setPort _ _ _) rfl rfl
            exact Acts.refl _ _ _
          clear_value a2
          refine Acts.trans ?_ (Acts.set_fabRem _ _) rfl rfl
          with_reducible assumption

theorem acts_fabRsp (s : State) (op : Nat) (reqOp : Nat) :
    Acts 633825300356228217691292418518 237684563100656738694955270608 s (State.fabRsp s op reqOp) := by
  unfold State.fabRsp
  split
  · exact Acts.refl _ _ _
  · split
    · refine Acts.trans ?_ (acts_takePkt_eq (by assumption)) rfl rfl
      exact Acts.refl _ _ _
    · split
      · refine Acts.ite (fun _ => ?_) (fun _ => ?_)
        · refine Acts.trans ?_ (acts_takePkt_eq (by assumption)) rfl rfl
          exact Acts.refl _ _ _
        · extract_lets a1
          have ha1 : Acts 633825300356228217691292418518 237684563100656738694955270608 s a1 := by
            refine Acts.trans ?_ (Acts.set_fabRem _ _) rfl rfl
            refine Acts.trans ?_ (acts_takePkt_eq (by assumption)) rfl rfl
            exact Acts.refl _ _ _
          clear_value a1
          refine Acts.trans ?_ (acts_fabNext _ _) rfl rfl
          refine Acts.trans ?_ (acts_ioAnswer _ _ _ _ _ _) rfl rfl
          with_reducible assumption
      · refine Acts.trans ?_ (acts_takePkt_eq (by assumption)) rfl rfl
        exact Acts.refl _ _ _

theorem acts_execReadRsp (s : State) :
    ActsR 633825300356228217691292418518 237684563100656738694955270608 s (execReadRsp s) := by
  unfold execReadRsp
  refine ActsR.next ?_
  refine Acts.trans ?_ (acts_fabRsp _ _ _) rfl rfl
  exact Acts.refl _ _ _

theorem acts_inboundOk (s : State) (k : Pkt) (n : Nat) (perm : Fld) :
    Acts 633825300114114700748485820416 0 s (State.inboundOk s k n perm).2 := by
  unfold State.inboundOk
  split
  · exact Acts.refl _ _ _
  · extract_lets a1 a2
    clear_value a1
    clear_value (ea2 : a2 = _)
    have ha2 : Acts 633825300114114700748485820416 0 s a2.2 := by
      rw [ea2]
      clear ea2
      refine Acts.trans ?_ (acts_dramIs _ _ _ _ _ _) rfl rfl
      exact Acts.refl _ _ _
    clear ea2
    with_reducible assumption
theorem acts_inboundOk_eq {s : State} {k : Pkt} {n : Nat} {perm : Fld} {x} {t : State} (h : (State.inboundOk s k n perm) = (x, t)) : Acts 633825300114114700748485820416 0 s t := by
  have := acts_inboundOk s k n perm; rw [h] at this; exact this

theorem acts_inRsp (s : State) (k : Pkt) (op : Nat) (status : Nat) (data : List Byte) :
    Acts 633825300356228217141528216022 237684563100656738694955270592 s (State.inRsp s k op status data) := by
  unfold State.inRsp
  refine Acts.trans ?_ (acts_fabSend _ _) rfl rfl
  exact Acts.refl _ _ _

theorem acts_execRead (s0 : State) :
    ActsR 633825300356228217141662433750 237684563100656738694955270592 s0 (execRead s0) := by
  unfold execRead
  refine ActsR.next ?_
  split
  · exact Acts.refl _ _ _
  · refine Acts.ite (fun _ => ?_) (fun _ => ?_)
    · refine Acts.trans ?_ (acts_inRsp _ _ _ _ _) rfl rfl
      refine Acts.trans ?_ (acts_logErr _ _ _ _ _ _) rfl rfl
      refine Acts.trans ?_ (acts_takePkt_eq (by assumption)) rfl rfl
      exact Acts.refl _ _ _
    · split
      · refine Acts.trans ?_ (acts_inRsp _ _ _ _ _) rfl rfl
        refine Acts.trans ?_ (acts_logErr _ _ _ _ _ _) rfl rfl
        refine Acts.trans ?_ (acts_inboundOk_eq (by assumption)) rfl rfl
        refine Acts.trans ?_ (acts_takePkt_eq (by assumption)) rfl rfl
        exact Acts.refl _ _ _
      · split
        · exact Acts.refl _ _ _
        · refine Acts.trans ?_ (acts_inRsp _ _ _ _ _) rfl rfl
          refine Acts.trans ?_ (acts_dmaRead_eq (by assumption)) rfl rfl
          refine Acts.trans ?_ (acts_inboundOk_eq (by assumption)) rfl rfl
          refine Acts.trans ?_ (acts_takePkt_eq (by assumption)) rfl rfl
          exact Acts.refl _ _ _
        · refine Acts.trans ?_ (acts_inRsp _ _ _ _ _) rfl rfl
          refine Acts.trans ?_ (acts_dmaRead_eq (by assumption)) rfl rfl
          refine Acts.trans ?_ (acts_inboundOk_eq (by assumption)) rfl rfl
          refine Acts.trans ?_ (acts_takePkt_eq (by assumption)) rfl rfl
          exact Acts.refl _ _ _

theorem acts_discardFolio (s : State) (p : Nat) :
    Acts 633825300114114700885790556160 0 s (State.discardFolio s p) := by
  unfold State.discardFolio
  extract_lets a1
  clear_value a1
  refine Acts.ite (fun _ => ?_) (fun _ => ?_)
  · exact Acts.refl _ _ _
  · refine Acts.trans ?_ (acts_sendIdle _ _ _) rfl rfl
    refine Acts.trans ?_ (acts_count _ _ _ _ _) rfl rfl
    refine Acts.trans ?_ (acts_setPort _ _ _) rfl rfl
    exact Acts.refl _ _ _

theorem acts_execRetrain (ag : Agent) (p : Nat) (w : W) (s : State) :
    ActsR 3169126500849580508832122126838 237684563100656740344222712256 s (execRetrain ag p w s) := by
  unfold execRetrain
  refine ActsR.next ?_
  refine Acts.trans ?_ (acts_portCtlWrite _ _ _ _) rfl rfl
  exact Acts.refl _ _ _

theorem acts_execWriteAck (s : State) :
    ActsR 633825300356228217691292418518 237684563100656738694955270608 s (execWriteAck s) := by
  unfold execWriteAck
  refine ActsR.next ?_
  refine Acts.trans ?_ (acts_fabRsp _ _ _) rfl rfl
  exact Acts.refl _ _ _

theorem acts_resend (s : State) (p : Nat) :
    Acts 633825300356228217691284029910 237684563100656739794466898368 s (State.resend s p) := by
  unfold State.resend
  extract_lets a1 a2
  clear_value a1
  have ha2 : Acts 633825300356228217691284029910 237684563100656739794466898368 s a2 := by
    dsimp only [a2]
    refine Acts.trans ?_ (acts_count _ _ _ _ _) rfl rfl
    refine Acts.trans ?_ (acts_setPort _ _ _) rfl rfl
    exact Acts.refl _ _ _
  clear_value a2
  refine Acts.ite (fun _ => ?_) (fun _ => ?_)
  · exact Acts.refl _ _ _
  · refine Acts.ite (fun _ => ?_) (fun _ => ?_)
    · refine Acts.trans ?_ (acts_portDown _ _) rfl rfl
      exact Acts.refl _ _ _
    · refine Acts.trans ?_ (acts_raise _ _) rfl rfl
      refine Acts.trans ?_ (acts_setFld _ _ _ _) rfl rfl
      with_reducible assumption

theorem acts_takeHeader (s : State) (p : Nat) (f : Folio) :
    Acts 633825300356228217691284029910 237684563100656739794466898368 s (State.takeHeader s p f) := by
  unfold State.takeHeader
  extract_lets a1
  have ha1 : Acts 633825300356228217691284029910 237684563100656739794466898368 s a1 := by
    dsimp only [a1]
    refine Acts.trans ?_ (acts_takeAck _ _ _) rfl rfl
    exact Acts.refl _ _ _
  clear_value a1
  refine Acts.ite (fun _ => ?_) (fun _ => ?_)
  · refine Acts.trans ?_ (acts_resend _ _) rfl rfl
    with_reducible assumption
  · with_reducible assumption

theorem acts_execLinkDown (p : Nat) (loss : Bool) (s : State) :
    ActsR 633825300356228217691284029910 237684563100656739794466898368 s (execLinkDown p loss s) := by
  unfold execLinkDown
  refine ActsR.next ?_
  refine Acts.ite (fun _ => ?_) (fun _ => ?_)
  · refine Acts.trans ?_ (acts_portDown _ _) rfl rfl
    exact Acts.refl _ _ _
  · exact Acts.refl _ _ _

theorem acts_acceptFolio (s : State) (p : Nat) (f : Folio) :
    Acts 633825300356228216866650309078 237684563100656739794466898368 s (State.acceptFolio s p f) := by
  unfold State.acceptFolio
  extract_lets a1 a2 a3 a4 a5 a6 a7 a8 a9
  clear_value a1
  clear_value a2
  clear_value a3
  clear_value a4
  clear_value a5
  clear_value a6
  clear_value a7
  have ha8 : Acts 633825300356228216866650309078 237684563100656739794466898368 s a8 := by
    dsimp only [a8]
    refine Acts.trans ?_ (acts_count _ _ _ _ _) rfl rfl
    refine Acts.trans ?_ (acts_setPort _ _ _) rfl rfl
    exact Acts.refl _ _ _
  clear_value a8
  have ha9 : Acts 633825300356228216866650309078 237684563100656739794466898368 s a9 := by
    dsimp only [a9]
    refine Acts.ite (fun _ => ?_) (fun _ => ?_)
    · refine Acts.trans ?_ (acts_raise _ _) rfl rfl
      refine Acts.trans ?_ (acts_logErr _ _ _ _ _ _) rfl rfl
      refine Acts.trans ?_ (acts_setFld _ _ _ _) rfl rfl
      with_reducible assumption
    · with_reducible assumption
  clear_value a9
  refine Acts.ite (fun _ => ?_) (fun _ => ?_)
  · refine Acts.trans ?_ (acts_sendIdle _ _ _) rfl rfl
    with_reducible assumption
  · with_reducible assumption

theorem acts_nonce (s : State) :
    Acts 2 0 s (State.nonce s).2 := by
  unfold State.nonce
  dsimp only
  refine Acts.trans ?_ (Acts.set_free _ _) rfl rfl
  exact Acts.refl _ _ _
theorem acts_nonce_eq {s : State} {x} {t : State} (h : (State.nonce s) = (x, t)) : Acts 2 0 s t := by
  have := acts_nonce s; rw [h] at this; exact this

theorem acts_attest (s : State) (p : Nat) :
    Acts 633825300116420543899836088402 75557863727013835047104 s (State.attest s p) := by
  unfold State.attest
  refine Acts.ite (fun _ => ?_) (fun _ => ?_)
  · extract_lets a1 a2 a3
    clear_value (ea1 : a1 = _)
    have ha1 : Acts 633825300116420543899836088402 75557863727013835047104 s a1.2 := by
      rw [ea1]
      clear ea1
      refine Acts.trans ?_ (acts_nonce _) rfl rfl
      exact Acts.refl _ _ _
    clear ea1
    clear_value a2
    have ha3 : Acts 633825300116420543899836088402 75557863727013835047104 s a3 := by
      dsimp only [a3]
      refine Acts.trans ?_ (acts_setPort _ _ _) rfl rfl
      with_reducible assumption
    clear_value a3
    refine Acts.trans ?_ (acts_linkLocal _ _ _) rfl rfl
    refine Acts.trans ?_ (acts_setPortState _ _ _) rfl rfl
    with_reducible assumption
  · exact Acts.refl _ _ _

theorem acts_takeCredit (s : State) (p : Nat) (cls : Nat) (n : Nat) :
    Acts 633825300114114700885790556160 0 s (State.takeCredit s p cls n) := by
  unfold State.takeCredit
  refine Acts.ite (fun _ => ?_) (fun _ => ?_)
  · exact Acts.refl _ _ _
  · extract_lets a1
    clear_value a1
    refine Acts.trans ?_ (acts_pump _ _) rfl rfl
    refine Acts.trans ?_ (acts_setPort _ _ _) rfl rfl
    exact Acts.refl _ _ _

theorem acts_execDataFolio (p : Nat) (f : Folio) (s : State) :
    ActsR 633825300356228217691284029910 237684563100656739794466898368 s (execDataFolio p f s) := by
  unfold execDataFolio
  refine ActsR.next ?_
  refine Acts.ite (fun _ => ?_) (fun _ => ?_)
  · exact Acts.refl _ _ _
  · refine Acts.ite (fun _ => ?_) (fun _ => ?_)
    · refine Acts.trans ?_ (acts_discardFolio _ _) rfl rfl
      refine Acts.trans ?_ (acts_count _ _ _ _ _) rfl rfl
      exact Acts.refl _ _ _
    · extract_lets a1
      have ha1 : Acts 633825300356228217691284029910 237684563100656739794466898368 s a1 := by
        dsimp only [a1]
        refine Acts.trans ?_ (acts_count _ _ _ _ _) rfl rfl
        exact Acts.refl _ _ _
      clear_value a1
      split
      · refine Acts.trans ?_ (acts_discardFolio _ _) rfl rfl
        refine Acts.ite (fun _ => ?_) (fun _ => ?_)
        · refine Acts.trans ?_ (acts_setFld _ _ _ _) rfl rfl
          with_reducible assumption
        · with_reducible assumption
      · refine Acts.ite (fun _ => ?_) (fun _ => ?_)
        · refine Acts.trans ?_ (acts_discardFolio _ _) rfl rfl
          refine Acts.trans ?_ (acts_takeHeader _ _ _) rfl rfl
          with_reducible assumption
        · refine Acts.trans ?_ (acts_takeCredit _ _ _ _) rfl rfl
          refine Acts.trans ?_ (acts_takeHeader _ _ _) rfl rfl
          refine Acts.trans ?_ (acts_acceptFolio _ _ _) rfl rfl
          with_reducible assumption

theorem acts_execWrite (s : State) :
    ActsR 633825300356228217141662433750 237684563100656738694955270592 s (execWrite s) := by
  unfold execWrite
  refine ActsR.next ?_
  split
  · exact Acts.refl _ _ _
  · extract_lets a1 a2 a3 a4
    clear_value a1
    clear_value a2
    clear_value a3
    refine Acts.ite (fun _ => ?_) (fun _ => ?_)
    · dsimp only [a4]
      refine Acts.ite (fun _ => ?_) (fun _ => ?_)
      · refine Acts.trans ?_ (acts_inRsp _ _ _ _ _) rfl rfl
        refine Acts.trans ?_ (acts_logErr _ _ _ _ _ _) rfl rfl
        refine Acts.trans ?_ (acts_takePkt_eq (by assumption)) rfl rfl
        exact Acts.refl _ _ _
      · refine Acts.trans ?_ (acts_logErr _ _ _ _ _ _) rfl rfl
        refine Acts.trans ?_ (acts_takePkt_eq (by assumption)) rfl rfl
        exact Acts.refl _ _ _
    · split
      · dsimp only [a4]
        refine Acts.ite (fun _ => ?_) (fun _ => ?_)
        · refine Acts.trans ?_ (acts_inRsp _ _ _ _ _) rfl rfl
          refine Acts.trans ?_ (acts_logErr _ _ _ _ _ _) rfl rfl
          refine Acts.trans ?_ (acts_inboundOk_eq (by assumption)) rfl rfl
          refine Acts.trans ?_ (acts_takePkt_eq (by assumption)) rfl rfl
          exact Acts.refl _ _ _
        · refine Acts.trans ?_ (acts_logErr _ _ _ _ _ _) rfl rfl
          refine Acts.trans ?_ (acts_inboundOk_eq (by assumption)) rfl rfl
          refine Acts.trans ?_ (acts_takePkt_eq (by assumption)) rfl rfl
          exact Acts.refl _ _ _
      · refine Acts.ite (fun _ => ?_) (fun _ => ?_)
        · dsimp only [a4]
          refine Acts.ite (fun _ => ?_) (fun _ => ?_)
          · refine Acts.trans ?_ (acts_inRsp _ _ _ _ _) rfl rfl
            refine Acts.trans ?_ (acts_maskedWrite _ _ _ _ _) rfl rfl
            refine Acts.trans ?_ (acts_inboundOk_eq (by assumption)) rfl rfl
            refine Acts.trans ?_ (acts_takePkt_eq (by assumption)) rfl rfl
            exact Acts.refl _ _ _
          · refine Acts.trans ?_ (acts_maskedWrite _ _ _ _ _) rfl rfl
            refine Acts.trans ?_ (acts_inboundOk_eq (by assumption)) rfl rfl
            refine Acts.trans ?_ (acts_takePkt_eq (by assumption)) rfl rfl
            exact Acts.refl _ _ _
        · dsimp only [a4]
          refine Acts.ite (fun _ => ?_) (fun _ => ?_)
          · refine Acts.trans ?_ (acts_inRsp _ _ _ _ _) rfl rfl
            refine Acts.trans ?_ (acts_inboundOk_eq (by assumption)) rfl rfl
            refine Acts.trans ?_ (acts_takePkt_eq (by assumption)) rfl rfl
            exact Acts.refl _ _ _
          · refine Acts.trans ?_ (acts_inboundOk_eq (by assumption)) rfl rfl
            refine Acts.trans ?_ (acts_takePkt_eq (by assumption)) rfl rfl
            exact Acts.refl _ _ _

theorem acts_execSwitchForward (p : Nat) (s : State) :
    ActsR 633825300356228218241039843798 237684563100656738694955270592 s (execSwitchForward p s) := by
  unfold execSwitchForward
  extract_lets a1
  clear_value a1
  refine ActsR.next ?_
  split
  · exact Acts.refl _ _ _
  · extract_lets a2 a3
    clear_value a2
    have ha3 : Acts 633825300356228218241039843798 237684563100656738694955270592 s a3 := by
      dsimp only [a3]
      refine Acts.trans ?_ (acts_setPort _ _ _) rfl rfl
      exact Acts.refl _ _ _
    clear_value a3
    refine Acts.ite (fun _ => ?_) (fun _ => ?_)
    · refine Acts.trans ?_ (Acts.set_fabDropped _ _) rfl rfl
      with_reducible assumption
    · refine Acts.trans ?_ (acts_switch _ _ _) rfl rfl
      with_reducible assumption

theorem acts_execReplayTimeout (p : Nat) (s : State) :
    ActsR 633825300356228217691284029910 237684563100656739794466898368 s (execReplayTimeout p s) := by
  unfold execReplayTimeout
  refine ActsR.next ?_
  refine Acts.ite (fun _ => ?_) (fun _ => ?_)
  · refine Acts.trans ?_ (acts_resend _ _) rfl rfl
    exact Acts.refl _ _ _
  · exact Acts.refl _ _ _

theorem acts_execFolioNak (p : Nat) (ack : Nat) (s : State) :
    ActsR 633825300356228217691284029910 237684563100656739794466898368 s (execFolioNak p ack s) := by
  unfold execFolioNak
  refine ActsR.next ?_
  refine Acts.ite (fun _ => ?_) (fun _ => ?_)
  · exact Acts.refl _ _ _
  · refine Acts.trans ?_ (acts_resend _ _) rfl rfl
    refine Acts.trans ?_ (acts_takeAck _ _ _) rfl rfl
    exact Acts.refl _ _ _

theorem acts_timeSet (s : State) (p : Nat) (upstream : Nat) :
    Acts 633825300116420561354583179352 75557863727013835047104 s (State.timeSet s p upstream) := by
  unfold State.timeSet
  refine Acts.ite (fun _ => ?_) (fun _ => ?_)
  · refine Acts.trans ?_ (acts_raise _ _) rfl rfl
    refine Acts.trans ?_ (Acts.set_dtime_slew _ _ _) rfl rfl
    exact Acts.refl _ _ _
  · extract_lets a1
    have ha1 : Acts 633825300116420561354583179352 75557863727013835047104 s a1 := by
      refine Acts.trans ?_ (Acts.set_slew _ _) rfl rfl
      exact Acts.refl _ _ _
    clear_value a1
    refine Acts.ite (fun _ => ?_) (fun _ => ?_)
    · refine Acts.trans ?_ (acts_raise _ _) rfl rfl
      refine Acts.trans ?_ (acts_setFld _ _ _ _) rfl rfl
      with_reducible assumption
    · with_reducible assumption

theorem acts_execIdleFolio (p : Nat) (f : Folio) (s : State) :
    ActsR 633825300356228217691284029910 237684563100656739794466898368 s (execIdleFolio p f s) := by
  unfold execIdleFolio
  refine ActsR.next ?_
  refine Acts.ite (fun _ => ?_) (fun _ => ?_)
  · exact Acts.refl _ _ _
  · refine Acts.ite (fun _ => ?_) (fun _ => ?_)
    · refine Acts.trans ?_ (acts_count _ _ _ _ _) rfl rfl
      exact Acts.refl _ _ _
    · extract_lets a1
      have ha1 : Acts 633825300356228217691284029910 237684563100656739794466898368 s a1 := by
        dsimp only [a1]
        refine Acts.trans ?_ (acts_count _ _ _ _ _) rfl rfl
        exact Acts.refl _ _ _
      clear_value a1
      split
      · refine Acts.ite (fun _ => ?_) (fun _ => ?_)
        · refine Acts.trans ?_ (acts_setFld _ _ _ _) rfl rfl
          with_reducible assumption
        · with_reducible assumption
      · refine Acts.trans ?_ (acts_takeCredit _ _ _ _) rfl rfl
        refine Acts.trans ?_ (acts_takeHeader _ _ _) rfl rfl
        with_reducible assumption

theorem acts_execRemoteReadTimeout (tag : Nat) (s : State) :
    ActsR 633825300356228230885566169558 237684563100656738969833177552 s (execRemoteReadTimeout tag s) := by
  unfold execRemoteReadTimeout
  refine ActsR.next ?_
  refine Acts.ite (fun _ => ?_) (fun _ => ?_)
  · exact Acts.refl _ _ _
  · split
    · exact Acts.refl _ _ _
    · extract_lets a1
      have ha1 : Acts 633825300356228230885566169558 237684563100656738969833177552 s a1 := by
        refine Acts.trans ?_ (Acts.set_fabRem _ _) rfl rfl
        exact Acts.refl _ _ _
      clear_value a1
      split
      · refine Acts.trans ?_ (acts_sqSend _ _ _) rfl rfl
        refine Acts.trans ?_ (acts_sqComplete _ _ _ _) rfl rfl
        with_reducible assumption
      · refine Acts.ite (fun _ => ?_) (fun _ => ?_)
        · exact Acts.refl _ _ _
        · refine Acts.trans ?_ (acts_fabNext _ _) rfl rfl
          refine Acts.trans ?_ (acts_logErr _ _ _ _ _ _) rfl rfl
          refine Acts.trans ?_ (acts_ioAnswer _ _ _ _ _ _) rfl rfl
          with_reducible assumption

theorem acts_execTimeSync (s : State) :
    ActsR 633825300116420561766900039768 75557863727013835047104 s (execTimeSync s) := by
  unfold execTimeSync
  refine ActsR.next ?_
  split
  · exact Acts.refl _ _ _
  · refine Acts.ite (fun _ => ?_) (fun _ => ?_)
    · refine Acts.trans ?_ (acts_timeRoles _) rfl rfl
      refine Acts.trans ?_ (acts_takePkt_eq (by assumption)) rfl rfl
      exact Acts.refl _ _ _
    · extract_lets a1 a2 a3
      clear_value a1
      clear_value a2
      have ha3 : Acts 633825300116420561766900039768 75557863727013835047104 s a3 := by
        dsimp only [a3]
        refine Acts.trans ?_ (acts_timeSet _ _ _) rfl rfl
        refine Acts.trans ?_ (acts_setPort _ _ _) rfl rfl
        refine Acts.trans ?_ (acts_takePkt_eq (by assumption)) rfl rfl
        exact Acts.refl _ _ _
      clear_value a3
      refine Acts.trans ?_ (acts_linkLocal _ _ _) rfl rfl
      with_reducible assumption

theorem acts_execNakRepeat (p : Nat) (s : State) :
    ActsR 633825300114114700885790556160 0 s (execNakRepeat p s) := by
  unfold execNakRepeat
  refine ActsR.next ?_
  refine Acts.ite (fun _ => ?_) (fun _ => ?_)
  · refine Acts.trans ?_ (acts_sendIdle _ _ _) rfl rfl
    refine Acts.trans ?_ (acts_count _ _ _ _ _) rfl rfl
    exact Acts.refl _ _ _
  · exact Acts.refl _ _ _

theorem acts_execTrainingComplete (p : Nat) (lanes : Nat) (rtt : Nat) (s : State) :
    ActsR 633825300116420543899836088402 75557863727013835047104 s (execTrainingComplete p lanes rtt s) := by
  unfold execTrainingComplete
  refine ActsR.next ?_
  refine Acts.ite (fun _ => ?_) (fun _ => ?_)
  · exact Acts.refl _ _ _
  · extract_lets a1 a2 a3 a4 a5
    clear_value a1
    clear_value a2
    clear_value a3
    clear_value a4
    have ha5 : Acts 633825300116420543899836088402 75557863727013835047104 s a5 := by
      dsimp only [a5]
      refine Acts.trans ?_ (acts_setPort _ _ _) rfl rfl
      refine Acts.trans ?_ (acts_setFld _ _ _ _) rfl rfl
      refine Acts.trans ?_ (acts_setFld _ _ _ _) rfl rfl
      refine Acts.trans ?_ (acts_setFld _ _ _ _) rfl rfl
      exact Acts.refl _ _ _
    clear_value a5
    refine Acts.trans ?_ (acts_attest _ _) rfl rfl
    refine Acts.trans ?_ (acts_setPortState _ _ _) rfl rfl
    with_reducible assumption

theorem acts_execTimeDelayRsp (s : State) :
    ActsR 633825300116420561766900039768 75557863727013835047104 s (execTimeDelayRsp s) := by
  unfold execTimeDelayRsp
  refine ActsR.next ?_
  split
  · exact Acts.refl _ _ _
  · refine Acts.ite (fun _ => ?_) (fun _ => ?_)
    · refine Acts.trans ?_ (acts_takePkt_eq (by assumption)) rfl rfl
      exact Acts.refl _ _ _
    · extract_lets a1 a2
      clear_value a1
      clear_value a2
      refine Acts.trans ?_ (acts_timeSet _ _ _) rfl rfl
      refine Acts.trans ?_ (acts_setPort _ _ _) rfl rfl
      refine Acts.trans ?_ (acts_takePkt_eq (by assumption)) rfl rfl
      exact Acts.refl _ _ _

theorem acts_execAtomic (s0 : State) :
    ActsR 633825300356228217141662433750 237684563100656738694955270592 s0 (execAtomic s0) := by
  unfold execAtomic
  refine ActsR.next ?_
  split
  · exact Acts.refl _ _ _
  · extract_lets a1
    clear_value a1
    split
    · refine Acts.ite (fun _ => ?_) (fun _ => ?_)
      · refine Acts.trans ?_ (acts_inRsp _ _ _ _ _) rfl rfl
        refine Acts.trans ?_ (acts_logErr _ _ _ _ _ _) rfl rfl
        refine Acts.trans ?_ (acts_inboundOk_eq (by assumption)) rfl rfl
        refine Acts.trans ?_ (acts_takePkt_eq (by assumption)) rfl rfl
        exact Acts.refl _ _ _
      · split
        · exact Acts.refl _ _ _
        · refine Acts.trans ?_ (acts_inRsp _ _ _ _ _) rfl rfl
          refine Acts.trans ?_ (acts_dmaRead_eq (by assumption)) rfl rfl
          refine Acts.trans ?_ (acts_inboundOk_eq (by assumption)) rfl rfl
          refine Acts.trans ?_ (acts_takePkt_eq (by assumption)) rfl rfl
          exact Acts.refl _ _ _
        · extract_lets a2
          clear_value (ea2 : a2 = _)
          have ha2 : Acts 633825300356228217141662433750 237684563100656738694955270592 s0 a2.2 := by
            rw [ea2]
            clear ea2
            refine Acts.trans ?_ (acts_agentAtomic _ _ _ _ _ _) rfl rfl
            refine Acts.trans ?_ (acts_dmaRead_eq (by assumption)) rfl rfl
            refine Acts.trans ?_ (acts_inboundOk_eq (by assumption)) rfl rfl
            refine Acts.trans ?_ (acts_takePkt_eq (by assumption)) rfl rfl
            exact Acts.refl _ _ _
          clear ea2
          refine Acts.trans ?_ (acts_inRsp _ _ _ _ _) rfl rfl
          with_reducible assumption
    · refine Acts.trans ?_ (acts_inRsp _ _ _ _ _) rfl rfl
      refine Acts.trans ?_ (acts_logErr _ _ _ _ _ _) rfl rfl
      refine Acts.trans ?_ (acts_inboundOk_eq (by assumption)) rfl rfl
      refine Acts.trans ?_ (acts_takePkt_eq (by assumption)) rfl rfl
      exact Acts.refl _ _ _

theorem acts_execAtomicRsp (s : State) :
    ActsR 633825300356228217691292418518 237684563100656738694955270608 s (execAtomicRsp s) := by
  unfold execAtomicRsp
  refine ActsR.next ?_
  refine Acts.trans ?_ (acts_fabRsp _ _ _) rfl rfl
  exact Acts.refl _ _ _

end Sys2Proof.Machine
end

