-- ==== Sys2Proof/Laws/ReplActs.lean ====
section
/-! SUPPORT. What each operation and each command of Repl.lean may touch: `acts_<name>` bounds the fields and the registers that
`<name>` can change (see Acts.lean). -/

namespace Sys2Proof.Machine

open Sys2Proof

theorem acts_replError (s : State) (unit : Nat) (code : Nat) (addr : Nat) :
    Acts 633825300356228216729211355606 237684563100656738694955270592 s (State.replError s unit code addr) := by
  unfold State.replError
  refine Acts.trans ?_ (acts_raise _ _) rfl rfl
  refine Acts.trans ?_ (acts_logErr _ _ _ _ _ _) rfl rfl
  exact Acts.refl _ _ _

theorem acts_replLeaves (s : State) (n : Nat) (r : Nat) (st : Nat) :
    Acts 633825300356228216799004574166 237684563100656800267606426048 s (State.replLeaves s n r st) := by
  unfold State.replLeaves
  extract_lets a1 a2 a3
  clear_value a1
  have ha2 : Acts 633825300356228216799004574166 237684563100656800267606426048 s a2 := by
    dsimp only [a2]
    refine Acts.trans ?_ (acts_setRepl _ _ _ _) rfl rfl
    exact Acts.refl _ _ _
  clear_value a2
  have ha3 : Acts 633825300356228216799004574166 237684563100656800267606426048 s a3 := by
    dsimp only [a3]
    refine Acts.ite (fun _ => ?_) (fun _ => ?_)
    · refine Acts.trans ?_ (acts_setFld _ _ _ _) rfl rfl
      with_reducible assumption
    · with_reducible assumption
  clear_value a3
  refine Acts.trans ?_ (acts_freeStaged _ _) rfl rfl
  refine Acts.trans ?_ (acts_setRstate _ _ _ _) rfl rfl
  with_reducible assumption

theorem acts_ctlMsg (s : State) (op : Nat) (node : Nat) (ledger : Nat) (term : Nat) (a : Nat) (b : Nat) (lastTerm : Nat) (reason : Nat) :
    Acts 633825300356228217141528216022 237684563100656738694955270592 s (State.ctlMsg s op node ledger term a b lastTerm reason) := by
  unfold State.ctlMsg
  extract_lets a1
  clear_value a1
  refine Acts.trans ?_ (acts_fabSend _ _) rfl rfl
  exact Acts.refl _ _ _

theorem acts_streamMsg (s : State) (n : Nat) (op : Nat) (node : Nat) (reason : Nat) :
    Acts 633825300356228217141528216022 237684563100656738694955270592 s (State.streamMsg s n op node reason) := by
  unfold State.streamMsg
  refine Acts.trans ?_ (acts_ctlMsg _ _ _ _ _ _ _ _ _) rfl rfl
  exact Acts.refl _ _ _

theorem acts_streamStale (s : State) (n : Nat) (k : Pkt) :
    Acts 633825300356228217141528216022 237684563100656738694955270592 s (State.streamStale s n k) := by
  unfold State.streamStale
  refine Acts.trans ?_ (acts_streamMsg _ _ _ _ _) rfl rfl
  exact Acts.refl _ _ _

theorem acts_promotionFails (s : State) (n : Nat) (err : Nat) :
    Acts 633825300356228216729211355606 237684563100656747491048292800 s (State.promotionFails s n err) := by
  unfold State.promotionFails
  refine Acts.trans ?_ (acts_setReplState _ _ _) rfl rfl
  refine Acts.trans ?_ (acts_logErr _ _ _ _ _ _) rfl rfl
  refine Acts.trans ?_ (acts_setFld _ _ _ _) rfl rfl
  exact Acts.refl _ _ _

theorem acts_higherTerm (s : State) (n : Nat) (term : Nat) :
    Acts 633825300356228216732432581078 237684563100656747491065725376 s (State.higherTerm s n term) := by
  unfold State.higherTerm
  split
  · refine Acts.trans ?_ (acts_setFld _ _ _ _) rfl rfl
    refine Acts.trans ?_ (acts_promotionFails _ _ _) rfl rfl
    exact Acts.refl _ _ _
  · refine Acts.trans ?_ (acts_setReplState _ _ _) rfl rfl
    refine Acts.trans ?_ (acts_fence _ _ _) rfl rfl
    refine Acts.trans ?_ (acts_setFld _ _ _ _) rfl rfl
    exact Acts.refl _ _ _
  · refine Acts.trans ?_ (acts_setReplState _ _ _) rfl rfl
    refine Acts.trans ?_ (acts_fence _ _ _) rfl rfl
    refine Acts.trans ?_ (acts_setFld _ _ _ _) rfl rfl
    exact Acts.refl _ _ _
  · refine Acts.trans ?_ (acts_setFld _ _ _ _) rfl rfl
    exact Acts.refl _ _ _

theorem acts_streamTerm (s : State) (n : Nat) (k : Pkt) (request : Bool) :
    Acts 633825300356228217144749441494 237684563100656747491065725376 s (State.streamTerm s n k request).2 := by
  unfold State.streamTerm
  extract_lets a1
  clear_value a1
  refine Acts.ite2 (fun _ => ?_) (fun _ => ?_)
  · dsimp only
    refine Acts.ite (fun _ => ?_) (fun _ => ?_)
    · refine Acts.trans ?_ (acts_streamStale _ _ _) rfl rfl
      exact Acts.refl _ _ _
    · exact Acts.refl _ _ _
  · refine Acts.ite2 (fun _ => ?_) (fun _ => ?_)
    · dsimp only
      refine Acts.trans ?_ (acts_higherTerm _ _ _) rfl rfl
      exact Acts.refl _ _ _
    · exact Acts.refl _ _ _
theorem acts_streamTerm_eq {s : State} {n : Nat} {k : Pkt} {request : Bool} {x} {t : State} (h : (State.streamTerm s n k request) = (x, t)) : Acts 633825300356228217144749441494 237684563100656747491065725376 s t := by
  have := acts_streamTerm s n k request; rw [h] at this; exact this

theorem acts_response (s : State) (k : Pkt) :
    Acts 633825300356228217144749441494 237684563100656747491065725376 s (State.response s k).1 := by
  unfold State.response
  split
  · exact Acts.refl _ _ _
  · extract_lets a1
    clear_value (ea1 : a1 = _)
    have ha1 : Acts 633825300356228217144749441494 237684563100656747491065725376 s a1.2 := by
      rw [ea1]
      clear ea1
      refine Acts.trans ?_ (acts_streamTerm _ _ _ _) rfl rfl
      exact Acts.refl _ _ _
    clear ea1
    with_reducible assumption
theorem acts_response_eq {s : State} {k : Pkt} {x} {t : State} (h : (State.response s k) = (t, x)) : Acts 633825300356228217144749441494 237684563100656747491065725376 s t := by
  have := acts_response s k; rw [h] at this; exact this

theorem acts_ackUpTo (s : State) (n : Nat) (r : Nat) (h : Nat) :
    Acts 1073741840 35184372088832 s (State.ackUpTo s n r h) := by
  unfold State.ackUpTo
  extract_lets a1 a2
  clear_value a1
  clear_value a2
  refine Acts.trans ?_ (acts_setStream _ _ _) rfl rfl
  refine Acts.trans ?_ (acts_setFld _ _ _ _) rfl rfl
  exact Acts.refl _ _ _

theorem acts_gaspEnd (s : State) (stream : Nat) :
    Acts 633825300356228217144883659222 237684563100656747491069919680 s (State.gaspEnd s stream) := by
  unfold State.gaspEnd
  extract_lets a1 a2 a3 a4 a5 a6 a7 a8 a9 a10 a11 a12
  clear_value a1
  clear_value a2
  clear_value a3
  clear_value a4
  clear_value a5
  have ha6 : Acts 633825300356228217144883659222 237684563100656747491069919680 s a6 := by
    dsimp only [a6]
    refine Acts.foldl (L2 := 633825300356228217144883659222) (R2 := 237684563100656747491069919680) _ ?_ (fun t13 x14 => ?_) rfl rfl
    · exact Acts.refl _ _ _
    · split
      · refine Acts.ite (fun _ => ?_) (fun _ => ?_)
        · refine Acts.trans ?_ (acts_replMsg _ _ _ _ _ _ _ _ _ _) rfl rfl
          exact Acts.refl _ _ _
        · exact Acts.refl _ _ _
      · exact Acts.refl _ _ _
  clear_value a6
  clear_value a7
  clear_value a8
  clear_value a9
  clear_value (ea10 : a10 = _)
  have ha10 : Acts 633825300356228217144883659222 237684563100656747491069919680 s a10.2 := by
    rw [ea10]
    clear ea10
    refine Acts.trans ?_ (acts_appendOk _ _ _ _ _) rfl rfl
    with_reducible assumption
  clear ea10
  clear_value (ea11 : a11 = _)
  have ha11 : Acts 633825300356228217144883659222 237684563100656747491069919680 s a11.1 := by
    rw [ea11]
    clear ea11
    refine Acts.trans ?_ (acts_regionPut _ _ _ _ _ _) rfl rfl
    with_reducible assumption
  clear ea11
  have ha12 : Acts 633825300356228217144883659222 237684563100656747491069919680 s a12 := by
    dsimp only [a12]
    refine Acts.ite (fun _ => ?_) (fun _ => ?_)
    · with_reducible assumption
    · refine Acts.ite (fun _ => ?_) (fun _ => ?_)
      · refine Acts.trans ?_ (acts_setFld _ _ _ _) rfl rfl
        with_reducible assumption
      · with_reducible assumption
  clear_value a12
  refine Acts.trans ?_ (acts_setReplState _ _ _) rfl rfl
  refine Acts.trans ?_ (acts_fence _ _ _) rfl rfl
  with_reducible assumption

theorem acts_gaspStep (s : State) (n : Nat) :
    Acts 633825300356228217213603135958 237684563100656747491069919680 s (State.gaspStep s n) := by
  unfold State.gaspStep
  extract_lets a1
  have ha1 : Acts 633825300356228217213603135958 237684563100656747491069919680 s a1 := by
    dsimp only [a1]
    refine Acts.trans ?_ (acts_replPump _ _) rfl rfl
    exact Acts.refl _ _ _
  clear_value a1
  refine Acts.ite (fun _ => ?_) (fun _ => ?_)
  · refine Acts.trans ?_ (acts_gaspEnd _ _) rfl rfl
    with_reducible assumption
  · with_reducible assumption

theorem acts_answered (s : State) (n : Nat) (r : Nat) (h : Nat) :
    Acts 68719476736 0 s (State.answered s n r h) := by
  unfold State.answered
  extract_lets a1 a2
  clear_value a1
  clear_value a2
  refine Acts.trans ?_ (acts_setRepl _ _ _ _) rfl rfl
  exact Acts.refl _ _ _

theorem acts_catchUp (s : State) (n : Nat) (r : Nat) (h : Nat) :
    Acts 633825300356228216799004574166 237684563100656765083234337216 s (State.catchUp s n r h) := by
  unfold State.catchUp
  extract_lets a1 a2
  clear_value a1
  have ha2 : Acts 633825300356228216799004574166 237684563100656765083234337216 s a2 := by
    dsimp only [a2]
    refine Acts.trans ?_ (acts_setRepl _ _ _ _) rfl rfl
    exact Acts.refl _ _ _
  clear_value a2
  refine Acts.trans ?_ (acts_freeStaged _ _) rfl rfl
  refine Acts.trans ?_ (acts_setRstate _ _ _ _) rfl rfl
  with_reducible assumption

theorem acts_replReturns (s : State) (n : Nat) (r : Nat) (h : Nat) :
    Acts 633825300356228216799004574166 237684563100656800267606426048 s (State.replReturns s n r h) := by
  unfold State.replReturns
  extract_lets a1
  have ha1 : Acts 633825300356228216799004574166 237684563100656800267606426048 s a1 := by
    dsimp only [a1]
    refine Acts.ite (fun _ => ?_) (fun _ => ?_)
    · refine Acts.trans ?_ (acts_logErr _ _ _ _ _ _) rfl rfl
      exact Acts.refl _ _ _
    · exact Acts.refl _ _ _
  clear_value a1
  refine Acts.trans ?_ (acts_catchUp _ _ _ _) rfl rfl
  refine Acts.trans ?_ (acts_ackUpTo _ _ _ _) rfl rfl
  with_reducible assumption

theorem acts_execAck (s : State) :
    ActsR 633825300356228217213603135958 237684563100656800267628052928 s (execAck s) := by
  unfold execAck
  refine ActsR.next ?_
  split
  · exact Acts.refl _ _ _
  · split
    · extract_lets a1 a2 a3 a4 a5
      clear_value a1
      clear_value a2
      have ha3 : Acts 633825300356228217213603135958 237684563100656800267628052928 s a3 := by
        dsimp only [a3]
        refine Acts.trans ?_ (acts_count _ _ _ _ _) rfl rfl
        refine Acts.trans ?_ (acts_response_eq (by assumption)) rfl rfl
        refine Acts.trans ?_ (acts_takePkt_eq (by assumption)) rfl rfl
        exact Acts.refl _ _ _
      clear_value a3
      have ha4 : Acts 633825300356228217213603135958 237684563100656800267628052928 s a4 := by
        dsimp only [a4]
        refine Acts.trans ?_ (acts_answered _ _ _ _) rfl rfl
        with_reducible assumption
      clear_value a4
      have ha5 : Acts 633825300356228217213603135958 237684563100656800267628052928 s a5 := by
        dsimp only [a5]
        refine Acts.ite (fun _ => ?_) (fun _ => ?_)
        · refine Acts.trans ?_ (acts_ackUpTo _ _ _ _) rfl rfl
          with_reducible assumption
        · with_reducible assumption
      clear_value a5
      refine Acts.ite (fun _ => ?_) (fun _ => ?_)
      · with_reducible assumption
      · refine Acts.ite (fun _ => ?_) (fun _ => ?_)
        · refine Acts.trans ?_ (acts_replLeaves _ _ _ _) rfl rfl
          refine Acts.trans ?_ (acts_replError _ _ _ _) rfl rfl
          with_reducible assumption
        · refine Acts.ite (fun _ => ?_) (fun _ => ?_)
          · refine Acts.trans ?_ (acts_replReturns _ _ _ _) rfl rfl
            with_reducible assumption
          · refine Acts.trans ?_ (acts_gaspStep _ _) rfl rfl
            with_reducible assumption
    · refine Acts.trans ?_ (acts_response_eq (by assumption)) rfl rfl
      refine Acts.trans ?_ (acts_takePkt_eq (by assumption)) rfl rfl
      exact Acts.refl _ _ _

theorem acts_membersWritten (s : State) (n : Nat) (old : W) :
    Acts 633825300356228216799004574166 237684563100656800267606426048 s (State.membersWritten s n old) := by
  unfold State.membersWritten
  refine Acts.foldl (L2 := 633825300356228216799004574166) (R2 := 237684563100656800267606426048) _ ?_ (fun t1 x2 => ?_) rfl rfl
  · exact Acts.refl _ _ _
  · extract_lets a3 a4
    clear_value a3
    clear_value a4
    refine Acts.ite (fun _ => ?_) (fun _ => ?_)
    · refine Acts.trans ?_ (acts_setRstate _ _ _ _) rfl rfl
      refine Acts.trans ?_ (acts_setRepl _ _ _ _) rfl rfl
      exact Acts.refl _ _ _
    · refine Acts.ite (fun _ => ?_) (fun _ => ?_)
      · refine Acts.trans ?_ (acts_replLeaves _ _ _ _) rfl rfl
        exact Acts.refl _ _ _
      · exact Acts.refl _ _ _

theorem acts_setSlotState (s : State) (i : Nat) (st : Nat) :
    Acts 633825300116420543762397134928 75557863796283067596992 s (State.setSlotState s i st) := by
  unfold State.setSlotState
  refine Acts.ite (fun _ => ?_) (fun _ => ?_)
  · exact Acts.refl _ _ _
  · extract_lets a1
    have ha1 : Acts 633825300116420543762397134928 75557863796283067596992 s a1 := by
      dsimp only [a1]
      refine Acts.trans ?_ (acts_setFld _ _ _ _) rfl rfl
      exact Acts.refl _ _ _
    clear_value a1
    refine Acts.ite (fun _ => ?_) (fun _ => ?_)
    · refine Acts.trans ?_ (acts_raise _ _) rfl rfl
      with_reducible assumption
    · with_reducible assumption

theorem acts_candidateSees (s : State) (k : Pkt) :
    Acts 633825300356228216732432581078 237684563100656747491065725376 s (State.candidateSees s k) := by
  unfold State.candidateSees
  split
  · refine Acts.ite (fun _ => ?_) (fun _ => ?_)
    · refine Acts.trans ?_ (acts_higherTerm _ _ _) rfl rfl
      exact Acts.refl _ _ _
    · exact Acts.refl _ _ _
  · exact Acts.refl _ _ _

theorem acts_slotTerm (s : State) (i : Nat) (k : Pkt) :
    ActsO 16 351843720888320 s (State.slotTerm s i k) := by
  unfold State.slotTerm
  extract_lets a1
  clear_value a1
  refine ActsO.ite (fun _ => ?_) (fun _ => ?_)
  · exact ActsO.none
  · refine ActsO.ite (fun _ => ?_) (fun _ => ?_)
    · refine ActsO.some ?_
      refine Acts.trans ?_ (acts_setFld _ _ _ _) rfl rfl
      refine Acts.trans ?_ (acts_setFld _ _ _ _) rfl rfl
      exact Acts.refl _ _ _
    · refine ActsO.some ?_
      exact Acts.refl _ _ _
theorem acts_slotTerm_eq {s : State} {i : Nat} {k : Pkt} {t : State} (h : (State.slotTerm s i k) = some t) : Acts 16 351843720888320 s t := acts_slotTerm s i k t h

theorem acts_notArmed (s : State) (k : Pkt) :
    Acts 633825300356228217141528216022 237684563100656738694955270592 s (State.notArmed s k) := by
  unfold State.notArmed
  refine Acts.trans ?_ (acts_ctlMsg _ _ _ _ _ _ _ _ _) rfl rfl
  exact Acts.refl _ _ _

theorem acts_notSlot (s : State) (k : Pkt) :
    Acts 633825300356228217144749441494 237684563100656747491065725376 s (State.notSlot s k) := by
  unfold State.notSlot
  split
  · refine Acts.trans ?_ (acts_streamTerm _ _ _ _) rfl rfl
    exact Acts.refl _ _ _
  · refine Acts.trans ?_ (acts_notArmed _ _) rfl rfl
    exact Acts.refl _ _ _

/-- The state that an append to a slot's region leaves. -/
def SlotPut.st : SlotPut → State
  | .done s => s
  | .full s => s
  | .refused s => s

theorem acts_slotAppend (s : State) (i : Nat) (bs : List Byte) : Acts 633825300116420543771121402326 75557865696239160394176 s (s.slotAppend i bs).st := by
  unfold State.slotAppend
  extract_lets a1 a2 a3 a4 a5 a6 a7
  clear_value a1 a2 a3 a4
  split
  · exact Acts.refl _ _ _
  · split
    · exact Acts.refl _ _ _
    · clear_value (e5 : a5 = _)
      have h5 : Acts 633825300116420543771121402326 75557865696239160394176 s a5.2 := by
        rw [e5]
        exact (acts_appendOk _ _ _ _ _).mono rfl rfl
      clear e5
      clear_value (e6 : a6 = _)
      have h6 : Acts 633825300116420543771121402326 75557865696239160394176 s a6.2 := by
        rw [e6]
        refine Acts.ite2 (fun _ => h5) (fun _ => ?_)
        exact h5.trans (acts_appendOk _ _ _ _ _) rfl rfl
      clear e6
      split
      · clear_value (e7 : a7 = _)
        have h7 : Acts 633825300116420543771121402326 75557865696239160394176 s a7.1 := by
          rw [e7]
          exact h6.trans (acts_regionPut _ _ _ _ _ _) rfl rfl
        exact h7.trans (acts_setFld _ _ _ _) rfl rfl
      · exact h6

theorem acts_slotAppend_eq_done {s : State} {i : Nat} {bs : List Byte} {t : State} (h : s.slotAppend i bs = .done t) : Acts 633825300116420543771121402326 75557865696239160394176 s t := by
  have := acts_slotAppend s i bs; rw [h] at this; exact this

theorem acts_slotAppend_eq_full {s : State} {i : Nat} {bs : List Byte} {t : State} (h : s.slotAppend i bs = .full t) : Acts 633825300116420543771121402326 75557865696239160394176 s t := by
  have := acts_slotAppend s i bs; rw [h] at this; exact this

theorem acts_slotAppend_eq_refused {s : State} {i : Nat} {bs : List Byte} {t : State} (h : s.slotAppend i bs = .refused t) :
    Acts 633825300116420543771121402326 75557865696239160394176 s t := by
  have := acts_slotAppend s i bs; rw [h] at this; exact this

theorem acts_takeRecs (fuel i : Nat) (bs : List Byte) (any : Bool) (s : State) : Acts 633825300116420543771121402326 75557865696239160394176 s (State.takeRecs fuel i bs any s).2.2 := by
  induction fuel generalizing s bs any with
  | zero => exact Acts.refl _ _ _
  | succ fuel ih =>
    unfold State.takeRecs
    refine Acts.ite3 (fun _ => ?_) (fun _ => ?_)
    · exact Acts.refl _ _ _
    · extract_lets a1 a2 a3 a4
      clear_value a1
      clear_value a2
      clear_value a3
      clear_value a4
      refine Acts.ite3 (fun _ => ?_) (fun _ => ?_)
      · exact Acts.refl _ _ _
      · refine Acts.ite3 (fun _ => ?_) (fun _ => ?_)
        · refine Acts.trans ?_ (ih _ _ _) rfl rfl
          exact Acts.refl _ _ _
        · refine Acts.ite3 (fun _ => ?_) (fun _ => ?_)
          · exact Acts.refl _ _ _
          · split
            · dsimp only
              refine Acts.trans ?_ (acts_slotAppend_eq_full (by assumption)) rfl rfl
              exact Acts.refl _ _ _
            · dsimp only
              refine Acts.trans ?_ (acts_slotAppend_eq_refused (by assumption)) rfl rfl
              exact Acts.refl _ _ _
            · refine Acts.trans ?_ (ih _ _ _) rfl rfl
              refine Acts.trans ?_ (acts_setFld _ _ _ _) rfl rfl
              refine Acts.trans ?_ (acts_setFld _ _ _ _) rfl rfl
              refine Acts.trans ?_ (acts_slotAppend_eq_done (by assumption)) rfl rfl
              exact Acts.refl _ _ _

theorem acts_execLastGasp (s : State) : ActsR 633825300356228217144883659222 237684563100663291784274248128 s (execLastGasp s) := by
  unfold execLastGasp
  refine ActsR.next ?_
  split
  · exact Acts.refl _ _ _
  · rename_i k s1 e
    have h1 : Acts 633825300356228217144883659222 237684563100663291784274248128 s s1 := (acts_takePkt_eq e).mono rfl rfl
    clear e
    split
    · exact h1.trans (acts_notSlot _ _) rfl rfl
    · rename_i i _
      extract_lets s0
      have h1 : Acts 633825300356228217144883659222 237684563100663291784274248128 s s0 := h1.trans (acts_candidateSees _ _) rfl rfl
      clear_value s0
      refine Acts.ite (fun _ => h1) (fun _ => ?_)
      refine Acts.ite (fun _ => h1.trans (acts_logErr _ _ _ _ _ _) rfl rfl) (fun _ => ?_)
      split
      · exact h1
      · rename_i s2 e
        have h2 : Acts 633825300356228217144883659222 237684563100663291784274248128 s s2 := h1.trans (acts_slotTerm_eq e) rfl rfl
        clear e
        extract_lets a1 a2
        clear_value a1
        refine Acts.ite (fun _ => ?_) (fun _ => h2)
        clear_value (e2 : a2 = _)
        have h3 : Acts 633825300356228217144883659222 237684563100663291784274248128 s a2 := by
          rw [e2]
          clear e2
          have h4 := h2.trans (acts_slotAppend s2 i ((k.data.drop 32).take 64)) rfl rfl
          generalize s2.slotAppend i ((k.data.drop 32).take 64) = p at h4 ⊢
          cases p with
          | done t => exact h4
          | full t => exact h4
          | refused t => exact Acts.ite (fun _ => h4) (fun _ => Acts.trans (s := s) (t := t) h4 (acts_logErr _ _ _ _ _ _) rfl rfl)
        exact (h3.trans (acts_setFld _ _ _ _) rfl rfl).trans (acts_setSlotState _ _ _) rfl rfl

theorem acts_execPromotionLimit (stream : Nat) (s : State) :
    ActsR 633825300356228216729211355606 237684563100656747491048292800 s (execPromotionLimit stream s) := by
  unfold execPromotionLimit
  refine ActsR.next ?_
  refine Acts.ite (fun _ => ?_) (fun _ => ?_)
  · refine Acts.trans ?_ (acts_promotionFails _ _ _) rfl rfl
    exact Acts.refl _ _ _
  · exact Acts.refl _ _ _

theorem acts_takeover (s : State) (n : Nat) :
    Acts 633825300356228216799004574166 237684563100656870636366332352 s (State.takeover s n) := by
  unfold State.takeover
  extract_lets a1 a2 a3 a4 a5 a6 a7 a8 a9 a10 a11 a12 a13 a14 a15
  clear_value a1
  clear_value a2
  have ha3 : Acts 633825300356228216799004574166 237684563100656870636366332352 s a3 := by
    dsimp only [a3]
    refine Acts.trans ?_ (acts_setFld _ _ _ _) rfl rfl
    refine Acts.trans ?_ (acts_setFld _ _ _ _) rfl rfl
    refine Acts.trans ?_ (acts_setFld _ _ _ _) rfl rfl
    exact Acts.refl _ _ _
  clear_value a3
  have ha4 : Acts 633825300356228216799004574166 237684563100656870636366332352 s a4 := by
    dsimp only [a4]
    refine Acts.trans ?_ (acts_setFld _ _ _ _) rfl rfl
    refine Acts.trans ?_ (acts_setFld _ _ _ _) rfl rfl
    with_reducible assumption
  clear_value a4
  have ha5 : Acts 633825300356228216799004574166 237684563100656870636366332352 s a5 := by
    dsimp only [a5]
    refine Acts.trans ?_ (acts_setSlotState _ _ _) rfl rfl
    refine Acts.trans ?_ (acts_setFld _ _ _ _) rfl rfl
    with_reducible assumption
  clear_value a5
  clear_value a6
  clear_value a7
  clear_value a8
  clear_value a9
  have ha10 : Acts 633825300356228216799004574166 237684563100656870636366332352 s a10 := by
    dsimp only [a10]
    refine Acts.trans ?_ (acts_setFld _ _ _ _) rfl rfl
    refine Acts.trans ?_ (acts_setFld _ _ _ _) rfl rfl
    exact Acts.refl _ _ _
  clear_value a10
  clear_value a11
  have ha12 : Acts 633825300356228216799004574166 237684563100656870636366332352 s a12 := by
    dsimp only [a12]
    refine Acts.ite (fun _ => ?_) (fun _ => ?_)
    · refine Acts.trans ?_ (acts_setStream _ _ _) rfl rfl
      with_reducible assumption
    · refine Acts.trans ?_ (acts_setStream _ _ _) rfl rfl
      with_reducible assumption
  clear_value a12
  clear_value a13
  have ha14 : Acts 633825300356228216799004574166 237684563100656870636366332352 s a14 := by
    dsimp only [a14]
    refine Acts.trans ?_ (acts_setStream _ _ _) rfl rfl
    with_reducible assumption
  clear_value a14
  have ha15 : Acts 633825300356228216799004574166 237684563100656870636366332352 s a15 := by
    dsimp only [a15]
    refine Acts.foldl (L2 := 633825300356228216799004574166) (R2 := 237684563100656870636366332352) _ ?_ (fun t16 x17 => ?_) rfl rfl
    · with_reducible assumption
    · refine Acts.ite (fun _ => ?_) (fun _ => ?_)
      · refine Acts.trans ?_ (acts_setFld _ _ _ _) rfl (by split <;> rfl)
        exact Acts.refl _ _ _
      · split
        · refine Acts.ite (fun _ => ?_) (fun _ => ?_)
          · refine Acts.trans ?_ (acts_setFld _ _ _ _) rfl (by split <;> rfl)
            refine Acts.trans ?_ (acts_setFld _ _ _ _) rfl rfl
            refine Acts.trans ?_ (acts_replError _ _ _ _) rfl rfl
            refine Acts.trans ?_ (acts_setRepl _ _ _ _) rfl rfl
            exact Acts.refl _ _ _
          · refine Acts.trans ?_ (acts_setFld _ _ _ _) rfl (by split <;> rfl)
            refine Acts.trans ?_ (acts_setFld _ _ _ _) rfl rfl
            refine Acts.trans ?_ (acts_setRepl _ _ _ _) rfl rfl
            exact Acts.refl _ _ _
        · refine Acts.trans ?_ (acts_setFld _ _ _ _) rfl (by split <;> rfl)
          refine Acts.trans ?_ (acts_setFld _ _ _ _) rfl rfl
          refine Acts.trans ?_ (acts_setRepl _ _ _ _) rfl rfl
          exact Acts.refl _ _ _
  clear_value a15
  refine Acts.trans ?_ (acts_startSweep _ _ _) rfl rfl
  refine Acts.trans ?_ (acts_judge _ _) rfl rfl
  refine Acts.trans ?_ (acts_setReplState _ _ _) rfl rfl
  with_reducible assumption

theorem acts_countVotes (s : State) (n : Nat) :
    Acts 633825300356228216799004574166 237684563100656870636366332352 s (State.countVotes s n) := by
  unfold State.countVotes
  extract_lets a1
  clear_value a1
  refine Acts.ite (fun _ => ?_) (fun _ => ?_)
  · refine Acts.trans ?_ (acts_takeover _ _) rfl rfl
    exact Acts.refl _ _ _
  · exact Acts.refl _ _ _

theorem acts_execReject (s : State) :
    ActsR 633825300356228217213468918230 237684563100656800267623858624 s (execReject s) := by
  unfold execReject
  refine ActsR.next ?_
  split
  · exact Acts.refl _ _ _
  · split
    · extract_lets a1
      clear_value a1
      refine Acts.ite (fun _ => ?_) (fun _ => ?_)
      · refine Acts.trans ?_ (acts_response_eq (by assumption)) rfl rfl
        refine Acts.trans ?_ (acts_takePkt_eq (by assumption)) rfl rfl
        exact Acts.refl _ _ _
      · refine Acts.ite (fun _ => ?_) (fun _ => ?_)
        · refine Acts.trans ?_ (acts_replLeaves _ _ _ _) rfl rfl
          refine Acts.trans ?_ (acts_logErr _ _ _ _ _ _) rfl rfl
          refine Acts.trans ?_ (acts_response_eq (by assumption)) rfl rfl
          refine Acts.trans ?_ (acts_takePkt_eq (by assumption)) rfl rfl
          exact Acts.refl _ _ _
        · refine Acts.ite (fun _ => ?_) (fun _ => ?_)
          · refine Acts.trans ?_ (acts_catchUp _ _ _ _) rfl rfl
            refine Acts.trans ?_ (acts_response_eq (by assumption)) rfl rfl
            refine Acts.trans ?_ (acts_takePkt_eq (by assumption)) rfl rfl
            exact Acts.refl _ _ _
          · refine Acts.ite (fun _ => ?_) (fun _ => ?_)
            · refine Acts.trans ?_ (acts_replLeaves _ _ _ _) rfl rfl
              refine Acts.trans ?_ (acts_response_eq (by assumption)) rfl rfl
              refine Acts.trans ?_ (acts_takePkt_eq (by assumption)) rfl rfl
              exact Acts.refl _ _ _
            · refine Acts.trans ?_ (acts_response_eq (by assumption)) rfl rfl
              refine Acts.trans ?_ (acts_takePkt_eq (by assumption)) rfl rfl
              exact Acts.refl _ _ _
    · refine Acts.trans ?_ (acts_response_eq (by assumption)) rfl rfl
      refine Acts.trans ?_ (acts_takePkt_eq (by assumption)) rfl rfl
      exact Acts.refl _ _ _

theorem acts_execRejoin (s : State) :
    ActsR 633825300356228217213468918230 237684563100656800267623858624 s (execRejoin s) := by
  unfold execRejoin
  refine ActsR.next ?_
  split
  · exact Acts.refl _ _ _
  · split
    · refine Acts.ite (fun _ => ?_) (fun _ => ?_)
      · refine Acts.trans ?_ (acts_takePkt_eq (by assumption)) rfl rfl
        exact Acts.refl _ _ _
      · refine Acts.trans ?_ (acts_notArmed _ _) rfl rfl
        refine Acts.trans ?_ (acts_takePkt_eq (by assumption)) rfl rfl
        exact Acts.refl _ _ _
    · extract_lets a1 a2 a3
      clear_value (ea1 : a1 = _)
      have ha1 : Acts 633825300356228217213468918230 237684563100656800267623858624 s a1.2 := by
        rw [ea1]
        clear ea1
        refine Acts.trans ?_ (acts_streamTerm _ _ _ _) rfl rfl
        refine Acts.trans ?_ (acts_takePkt_eq (by assumption)) rfl rfl
        exact Acts.refl _ _ _
      clear ea1
      have ha2 : Acts 633825300356228217213468918230 237684563100656800267623858624 s a2 := by
        dsimp only [a2]
        with_reducible assumption
      clear_value a2
      clear_value a3
      split
      · extract_lets a4
        clear_value a4
        refine Acts.ite (fun _ => ?_) (fun _ => ?_)
        · with_reducible assumption
        · refine Acts.ite (fun _ => ?_) (fun _ => ?_)
          · refine Acts.trans ?_ (acts_replLeaves _ _ _ _) rfl rfl
            refine Acts.trans ?_ (acts_replError _ _ _ _) rfl rfl
            with_reducible assumption
          · refine Acts.ite (fun _ => ?_) (fun _ => ?_)
            · refine Acts.trans ?_ (acts_replReturns _ _ _ _) rfl rfl
              with_reducible assumption
            · refine Acts.ite (fun _ => ?_) (fun _ => ?_)
              · refine Acts.trans ?_ (acts_catchUp _ _ _ _) rfl rfl
                refine Acts.trans ?_ (acts_setFld _ _ _ _) rfl rfl
                refine Acts.trans ?_ (acts_logErr _ _ _ _ _ _) rfl rfl
                with_reducible assumption
              · with_reducible assumption
      · with_reducible assumption

theorem acts_slotMsg (s : State) (i : Nat) (op : Nat) (node : Nat) (reason : Nat) :
    Acts 633825300356228217141528216022 237684563100656738694955270592 s (State.slotMsg s i op node reason) := by
  unfold State.slotMsg
  refine Acts.trans ?_ (acts_ctlMsg _ _ _ _ _ _ _ _ _) rfl rfl
  exact Acts.refl _ _ _

theorem acts_slotCfgWrite (s : State) (ag : Agent) (slot : Nat) (w : W) :
    Acts 3169126500849580508282366312950 237684563100661312663326818752 s (State.slotCfgWrite s ag slot w) := by
  unfold State.slotCfgWrite
  extract_lets a1
  clear_value a1
  refine Acts.trans ?_ (acts_onWrite (L := 3169126500849580508282366312950) (R := 237684563100661312663326818752) _ _ _ _ _ ?_ rfl rfl) rfl rfl
  · exact Acts.refl _ _ _
  · intro t2
    extract_lets a3 a4
    clear_value a3
    have ha4 : Acts 3169126500849580508282366312950 237684563100661312663326818752 t2 a4 := by
      dsimp only [a4]
      refine Acts.trans ?_ (acts_setSlotState _ _ _) rfl rfl
      refine Acts.trans ?_ (acts_setFld _ _ _ _) rfl rfl
      exact Acts.refl _ _ _
    clear_value a4
    refine Acts.ite (fun _ => ?_) (fun _ => ?_)
    · refine Acts.ite (fun _ => ?_) (fun _ => ?_)
      · with_reducible assumption
      · refine Acts.trans ?_ (acts_slotMsg _ _ _ _ _) rfl rfl
        with_reducible assumption
    · refine Acts.ite (fun _ => ?_) (fun _ => ?_)
      · refine Acts.trans ?_ (acts_setSlotState _ _ _) rfl rfl
        exact Acts.refl _ _ _
      · exact Acts.refl _ _ _

theorem acts_stepDownWrite (s : State) (ag : Agent) (stream : Nat) (w : W) :
    Acts 3169126500849580507873270678006 237684563100656747491065725376 s (State.stepDownWrite s ag stream w) := by
  unfold State.stepDownWrite
  refine Acts.trans ?_ (acts_onWrite (L := 3169126500849580507873270678006) (R := 237684563100656747491065725376) _ _ _ _ _ ?_ rfl rfl) rfl rfl
  · exact Acts.refl _ _ _
  · intro t1
    refine Acts.ite (fun _ => ?_) (fun _ => ?_)
    · refine Acts.trans ?_ (acts_setReplState _ _ _) rfl rfl
      refine Acts.trans ?_ (acts_fence _ _ _) rfl rfl
      exact Acts.refl _ _ _
    · exact Acts.refl _ _ _

theorem acts_execStepDown (ag : Agent) (stream : Nat) (w : W) (s : State) :
    ActsR 3169126500849580507873270678006 237684563100656747491065725376 s (execStepDown ag stream w s) := by
  unfold execStepDown
  refine ActsR.next ?_
  refine Acts.trans ?_ (acts_stepDownWrite _ _ _ _) rfl rfl
  exact Acts.refl _ _ _

theorem acts_promoteWrite (s0 : State) (ag : Agent) (stream : Nat) (w : W) :
    Acts 3169126500849580508352159531510 237684563100657152111343043008 s0 (State.promoteWrite s0 ag stream w) := by
  unfold State.promoteWrite
  extract_lets a1
  clear_value a1
  refine Acts.trans ?_ (acts_onWrite (L := 3169126500849580508352159531510) (R := 237684563100657152111343043008) _ _ _ _ _ ?_ rfl rfl) rfl rfl
  · exact Acts.refl _ _ _
  · intro t2
    refine Acts.ite (fun _ => ?_) (fun _ => ?_)
    · exact Acts.refl _ _ _
    · extract_lets a3 a4 a5 a6 a7 a8 a9 a10 a11 a12 a13 a14 a15 a16 a17 a18
      clear_value a3
      clear_value a4
      clear_value a5
      clear_value a7
      clear_value a8
      have ha9 : Acts 3169126500849580508352159531510 237684563100657152111343043008 t2 a9 := by
        dsimp only [a9]
        refine Acts.trans ?_ (acts_setFld _ _ _ _) rfl rfl
        refine Acts.trans ?_ (acts_setFld _ _ _ _) rfl rfl
        exact Acts.refl _ _ _
      clear_value a9
      have ha10 : Acts 3169126500849580508352159531510 237684563100657152111343043008 t2 a10 := by
        dsimp only [a10]
        refine Acts.ite (fun _ => ?_) (fun _ => ?_)
        · refine Acts.trans ?_ (acts_setFld _ _ _ _) rfl rfl
          with_reducible assumption
        · with_reducible assumption
      clear_value a10
      clear_value a11
      have ha12 : Acts 3169126500849580508352159531510 237684563100657152111343043008 t2 a12 := by
        dsimp only [a12]
        refine Acts.trans ?_ (acts_setStream _ _ _) rfl rfl
        with_reducible assumption
      clear_value a12
      clear_value a13
      clear_value a14
      have ha15 : Acts 3169126500849580508352159531510 237684563100657152111343043008 t2 a15 := by
        dsimp only [a15]
        refine Acts.trans ?_ (acts_setReplState _ _ _) rfl rfl
        refine Acts.trans ?_ (acts_setRepl _ _ _ _) rfl rfl
        refine Acts.trans ?_ (acts_setRepl _ _ _ _) rfl rfl
        with_reducible assumption
      clear_value a15
      clear_value a16
      clear_value a17
      have ha18 : Acts 3169126500849580508352159531510 237684563100657152111343043008 t2 a18 := by
        dsimp only [a18]
        refine Acts.foldl (L2 := 3169126500849580508352159531510) (R2 := 237684563100657152111343043008) _ ?_ (fun t19 x20 => ?_) rfl rfl
        · with_reducible assumption
        · split
          · refine Acts.trans ?_ (acts_ctlMsg _ _ _ _ _ _ _ _ _) rfl rfl
            exact Acts.refl _ _ _
          · exact Acts.refl _ _ _
      clear_value a18
      refine Acts.ite (fun _ => ?_) (fun _ => ?_)
      · refine Acts.trans ?_ (acts_setFld _ _ _ _) rfl rfl
        refine Acts.trans ?_ (Acts.wr _ _ _ _) rfl rfl
        exact Acts.refl _ _ _
      · refine Acts.trans ?_ (acts_countVotes _ _) rfl rfl
        with_reducible assumption

theorem acts_execCmdPromote (ag : Agent) (stream : Nat) (w : W) (s : State) :
    ActsR 3169126500849580508352159531510 237684563100657152111343043008 s (execCmdPromote ag stream w s) := by
  unfold execCmdPromote
  refine ActsR.next ?_
  refine Acts.trans ?_ (acts_promoteWrite _ _ _ _) rfl rfl
  exact Acts.refl _ _ _

theorem acts_execProbe (s : State) :
    ActsR 633825300356228217144749441494 237684563100657099334786613696 s (execProbe s) := by
  unfold execProbe
  refine ActsR.next ?_
  split
  · exact Acts.refl _ _ _
  · split
    · refine Acts.trans ?_ (acts_notSlot _ _) rfl rfl
      refine Acts.trans ?_ (acts_takePkt_eq (by assumption)) rfl rfl
      exact Acts.refl _ _ _
    · extract_lets a1
      have ha1 : Acts 633825300356228217144749441494 237684563100657099334786613696 s a1 := by
        dsimp only [a1]
        refine Acts.trans ?_ (acts_candidateSees _ _) rfl rfl
        refine Acts.trans ?_ (acts_takePkt_eq (by assumption)) rfl rfl
        exact Acts.refl _ _ _
      clear_value a1
      refine Acts.ite (fun _ => ?_) (fun _ => ?_)
      · with_reducible assumption
      · refine Acts.ite (fun _ => ?_) (fun _ => ?_)
        · refine Acts.trans ?_ (acts_slotMsg _ _ _ _ _) rfl rfl
          with_reducible assumption
        · split
          · with_reducible assumption
          · refine Acts.ite (fun _ => ?_) (fun _ => ?_)
            · refine Acts.trans ?_ (acts_slotTerm_eq (by assumption)) rfl rfl
              with_reducible assumption
            · refine Acts.trans ?_ (acts_slotMsg _ _ _ _ _) rfl rfl
              refine Acts.trans ?_ (acts_slotTerm_eq (by assumption)) rfl rfl
              with_reducible assumption

theorem acts_execDegradedFromClear (ag : Agent) (stream : Nat) (w : W) (s : State) :
    ActsR 3169126500849580507870049452534 237684563100656756287141315008 s (execDegradedFromClear ag stream w s) := by
  unfold execDegradedFromClear
  refine ActsR.next ?_
  refine Acts.trans ?_ (acts_onWrite (L := 3169126500849580507870049452534) (R := 237684563100656756287141315008) _ _ _ _ _ ?_ rfl rfl) rfl rfl
  · exact Acts.refl _ _ _
  · intro t1
    exact Acts.refl _ _ _

theorem acts_execReplicaSilent (stream : Nat) (r : Nat) (s : State) :
    ActsR 633825300356228216799004574166 237684563100656800267606426048 s (execReplicaSilent stream r s) := by
  unfold execReplicaSilent
  extract_lets a1
  clear_value a1
  refine ActsR.next ?_
  split
  · refine Acts.ite (fun _ => ?_) (fun _ => ?_)
    · refine Acts.trans ?_ (acts_replLeaves _ _ _ _) rfl rfl
      refine Acts.trans ?_ (acts_logErr _ _ _ _ _ _) rfl rfl
      exact Acts.refl _ _ _
    · exact Acts.refl _ _ _
  · exact Acts.refl _ _ _

theorem acts_execCatchupWalk (stream : Nat) (r : Nat) (s : State) :
    ActsR 633825300356228217211321434582 237684563100656800267606426048 s (execCatchupWalk stream r s) := by
  unfold execCatchupWalk
  extract_lets a1 a2 a3
  clear_value a1
  clear_value a2
  clear_value a3
  refine ActsR.next ?_
  refine Acts.ite (fun _ => ?_) (fun _ => ?_)
  · exact Acts.refl _ _ _
  · split
    · refine Acts.trans ?_ (acts_replPump _ _) rfl rfl
      refine Acts.trans ?_ (acts_setRepl _ _ _ _) rfl rfl
      exact Acts.refl _ _ _
    · refine Acts.ite (fun _ => ?_) (fun _ => ?_)
      · refine Acts.trans ?_ (acts_setRepl _ _ _ _) rfl rfl
        exact Acts.refl _ _ _
      · refine Acts.trans ?_ (acts_replLeaves _ _ _ _) rfl rfl
        refine Acts.trans ?_ (acts_replError _ _ _ _) rfl rfl
        exact Acts.refl _ _ _

theorem acts_execTermGrant (s : State) :
    ActsR 633825300356228217213468918230 237684563100656870636383764928 s (execTermGrant s) := by
  unfold execTermGrant
  refine ActsR.next ?_
  split
  · exact Acts.refl _ _ _
  · split
    · refine Acts.ite (fun _ => ?_) (fun _ => ?_)
      · extract_lets a1 a2 a3
        have ha1 : Acts 633825300356228217213468918230 237684563100656870636383764928 s a1 := by
          dsimp only [a1]
          refine Acts.trans ?_ (acts_setFld _ _ _ _) rfl rfl
          refine Acts.trans ?_ (acts_response_eq (by assumption)) rfl rfl
          refine Acts.trans ?_ (acts_takePkt_eq (by assumption)) rfl rfl
          exact Acts.refl _ _ _
        clear_value a1
        clear_value a2
        have ha3 : Acts 633825300356228217213468918230 237684563100656870636383764928 s a3 := by
          dsimp only [a3]
          refine Acts.ite (fun _ => ?_) (fun _ => ?_)
          · refine Acts.trans ?_ (acts_setRepl _ _ _ _) rfl rfl
            with_reducible assumption
          · with_reducible assumption
        clear_value a3
        refine Acts.trans ?_ (acts_countVotes _ _) rfl rfl
        with_reducible assumption
      · refine Acts.ite (fun _ => ?_) (fun _ => ?_)
        · refine Acts.trans ?_ (acts_replLeaves _ _ _ _) rfl rfl
          refine Acts.trans ?_ (acts_replError _ _ _ _) rfl rfl
          refine Acts.trans ?_ (acts_response_eq (by assumption)) rfl rfl
          refine Acts.trans ?_ (acts_takePkt_eq (by assumption)) rfl rfl
          exact Acts.refl _ _ _
        · refine Acts.trans ?_ (acts_response_eq (by assumption)) rfl rfl
          refine Acts.trans ?_ (acts_takePkt_eq (by assumption)) rfl rfl
          exact Acts.refl _ _ _
    · refine Acts.trans ?_ (acts_response_eq (by assumption)) rfl rfl
      refine Acts.trans ?_ (acts_takePkt_eq (by assumption)) rfl rfl
      exact Acts.refl _ _ _

theorem acts_execTermRequest (s : State) :
    ActsR 633825300356228217144749441494 237684563100657099334786613696 s (execTermRequest s) := by
  unfold execTermRequest
  refine ActsR.next ?_
  split
  · exact Acts.refl _ _ _
  · extract_lets a1 a2
    clear_value a1
    have ha2 : Acts 633825300356228217144749441494 237684563100657099334786613696 s a2 := by
      dsimp only [a2]
      refine Acts.trans ?_ (acts_candidateSees _ _) rfl rfl
      refine Acts.trans ?_ (acts_takePkt_eq (by assumption)) rfl rfl
      exact Acts.refl _ _ _
    clear_value a2
    split
    · extract_lets a3
      clear_value a3
      refine Acts.ite (fun _ => ?_) (fun _ => ?_)
      · with_reducible assumption
      · refine Acts.ite (fun _ => ?_) (fun _ => ?_)
        · refine Acts.trans ?_ (acts_slotMsg _ _ _ _ _) rfl rfl
          with_reducible assumption
        · refine Acts.ite (fun _ => ?_) (fun _ => ?_)
          · refine Acts.trans ?_ (acts_slotMsg _ _ _ _ _) rfl rfl
            refine Acts.trans ?_ (acts_setSlotState _ _ _) rfl rfl
            refine Acts.trans ?_ (acts_setFld _ _ _ _) rfl rfl
            refine Acts.trans ?_ (acts_setFld _ _ _ _) rfl rfl
            with_reducible assumption
          · refine Acts.trans ?_ (acts_slotMsg _ _ _ _ _) rfl rfl
            with_reducible assumption
    · split
      · refine Acts.trans ?_ (acts_notArmed _ _) rfl rfl
        refine Acts.trans ?_ (acts_takePkt_eq (by assumption)) rfl rfl
        exact Acts.refl _ _ _
      · extract_lets a4 a5 a6
        clear_value a4
        clear_value a5
        have ha6 : Acts 633825300356228217144749441494 237684563100657099334786613696 s a6 := by
          dsimp only [a6]
          refine Acts.trans ?_ (acts_higherTerm _ _ _) rfl rfl
          refine Acts.trans ?_ (acts_takePkt_eq (by assumption)) rfl rfl
          exact Acts.refl _ _ _
        clear_value a6
        refine Acts.ite (fun _ => ?_) (fun _ => ?_)
        · refine Acts.trans ?_ (acts_streamMsg _ _ _ _ _) rfl rfl
          refine Acts.trans ?_ (acts_takePkt_eq (by assumption)) rfl rfl
          exact Acts.refl _ _ _
        · refine Acts.ite (fun _ => ?_) (fun _ => ?_)
          · refine Acts.trans ?_ (acts_streamMsg _ _ _ _ _) rfl rfl
            with_reducible assumption
          · refine Acts.trans ?_ (acts_streamMsg _ _ _ _ _) rfl rfl
            with_reducible assumption

theorem acts_execSlotValid (ag : Agent) (slot : Nat) (w : W) (s : State) :
    ActsR 3169126500849580508282366312950 237684563100661312663326818752 s (execSlotValid ag slot w s) := by
  unfold execSlotValid
  refine ActsR.next ?_
  refine Acts.trans ?_ (acts_slotCfgWrite _ _ _ _) rfl rfl
  exact Acts.refl _ _ _

theorem acts_execCatchupSwitch (stream : Nat) (r : Nat) (s : State) :
    ActsR 633825300356228217211321434582 237684563100656765083234337216 s (execCatchupSwitch stream r s) := by
  unfold execCatchupSwitch
  extract_lets a1 a2 a3
  clear_value a1
  clear_value a2
  have ha3 : Acts 633825300356228217211321434582 237684563100656765083234337216 s a3 := by
    refine Acts.trans ?_ (Acts.set_jrnRecs _ _) rfl rfl
    exact Acts.refl _ _ _
  clear_value a3
  refine ActsR.next ?_
  refine Acts.ite (fun _ => ?_) (fun _ => ?_)
  · refine Acts.trans ?_ (acts_replPump _ _) rfl rfl
    refine Acts.trans ?_ (acts_setRstate _ _ _ _) rfl rfl
    with_reducible assumption
  · exact Acts.refl _ _ _

theorem acts_gaspStart (s : State) :
    Acts 633825300356228217213603135958 237684563100656747491069919680 s (State.gaspStart s) := by
  unfold State.gaspStart
  refine Acts.foldl (L2 := 633825300356228217213603135958) (R2 := 237684563100656747491069919680) _ ?_ (fun t1 x2 => ?_) rfl rfl
  · exact Acts.refl _ _ _
  · refine Acts.ite (fun _ => ?_) (fun _ => ?_)
    · refine Acts.trans ?_ (acts_gaspStep _ _) rfl rfl
      refine Acts.trans ?_ (acts_setStream _ _ _) rfl rfl
      exact Acts.refl _ _ _
    · exact Acts.refl _ _ _

theorem acts_execTermRefuse (s : State) :
    ActsR 633825300356228217144749441494 237684563100656747491065725376 s (execTermRefuse s) := by
  unfold execTermRefuse
  refine ActsR.next ?_
  split
  · exact Acts.refl _ _ _
  · split
    · refine Acts.ite (fun _ => ?_) (fun _ => ?_)
      · extract_lets a1 a2 a3 a4 a5
        clear_value a1
        clear_value a2
        have ha3 : Acts 633825300356228217144749441494 237684563100656747491065725376 s a3 := by
          dsimp only [a3]
          refine Acts.trans ?_ (acts_setStream _ _ _) rfl rfl
          refine Acts.trans ?_ (acts_response_eq (by assumption)) rfl rfl
          refine Acts.trans ?_ (acts_takePkt_eq (by assumption)) rfl rfl
          exact Acts.refl _ _ _
        clear_value a3
        clear_value a4
        clear_value a5
        refine Acts.ite (fun _ => ?_) (fun _ => ?_)
        · refine Acts.trans ?_ (acts_promotionFails _ _ _) rfl rfl
          with_reducible assumption
        · with_reducible assumption
      · refine Acts.trans ?_ (acts_response_eq (by assumption)) rfl rfl
        refine Acts.trans ?_ (acts_takePkt_eq (by assumption)) rfl rfl
        exact Acts.refl _ _ _
    · refine Acts.trans ?_ (acts_response_eq (by assumption)) rfl rfl
      refine Acts.trans ?_ (acts_takePkt_eq (by assumption)) rfl rfl
      exact Acts.refl _ _ _

theorem acts_execLastGaspBudget (stream : Nat) (s : State) :
    ActsR 633825300356228217213603135958 237684563100656747491069919680 s (execLastGaspBudget stream s) := by
  unfold execLastGaspBudget
  refine ActsR.next ?_
  refine Acts.ite (fun _ => ?_) (fun _ => ?_)
  · refine Acts.trans ?_ (acts_gaspEnd _ _) rfl rfl
    refine Acts.trans ?_ (acts_replPump _ _) rfl rfl
    exact Acts.refl _ _ _
  · exact Acts.refl _ _ _

theorem acts_execQuire (s : State) :
    ActsR 633825300356228217144883659222 237684563100658788184646877632 s (execQuire s) := by
  unfold execQuire
  refine ActsR.next ?_
  split
  · exact Acts.refl _ _ _
  · split
    · refine Acts.trans ?_ (acts_notSlot _ _) rfl rfl
      refine Acts.trans ?_ (acts_takePkt_eq (by assumption)) rfl rfl
      exact Acts.refl _ _ _
    · extract_lets a1 a2
      have ha1 : Acts 633825300356228217144883659222 237684563100658788184646877632 s a1 := by
        dsimp only [a1]
        refine Acts.trans ?_ (acts_candidateSees _ _) rfl rfl
        refine Acts.trans ?_ (acts_takePkt_eq (by assumption)) rfl rfl
        exact Acts.refl _ _ _
      clear_value a1
      clear_value a2
      refine Acts.ite (fun _ => ?_) (fun _ => ?_)
      · with_reducible assumption
      · refine Acts.ite (fun _ => ?_) (fun _ => ?_)
        · refine Acts.trans ?_ (acts_slotMsg _ _ _ _ _) rfl rfl
          with_reducible assumption
        · split
          · with_reducible assumption
          · extract_lets a3 a4 a5 a6
            clear_value a3
            clear_value (ea4 : a4 = _)
            have ha4 : Acts 633825300356228217144883659222 237684563100658788184646877632 s a4.2.2 := by
              rw [ea4]
              clear ea4
              refine Acts.trans ?_ (acts_takeRecs _ _ _ _ _) rfl rfl
              refine Acts.trans ?_ (acts_slotTerm_eq (by assumption)) rfl rfl
              with_reducible assumption
            clear ea4
            have ha5 : Acts 633825300356228217144883659222 237684563100658788184646877632 s a5 := by
              dsimp only [a5]
              with_reducible assumption
            clear_value a5
            have ha6 : Acts 633825300356228217144883659222 237684563100658788184646877632 s a6 := by
              dsimp only [a6]
              refine Acts.ite (fun _ => ?_) (fun _ => ?_)
              · refine Acts.trans ?_ (acts_setSlotState _ _ _) rfl rfl
                with_reducible assumption
              · with_reducible assumption
            clear_value a6
            refine Acts.ite (fun _ => ?_) (fun _ => ?_)
            · refine Acts.trans ?_ (acts_slotMsg _ _ _ _ _) rfl rfl
              refine Acts.trans ?_ (acts_slotTerm_eq (by assumption)) rfl rfl
              with_reducible assumption
            · refine Acts.ite (fun _ => ?_) (fun _ => ?_)
              · refine Acts.trans ?_ (acts_slotMsg _ _ _ _ _) rfl rfl
                refine Acts.trans ?_ (acts_slotTerm_eq (by assumption)) rfl rfl
                with_reducible assumption
              · split
                · refine Acts.trans ?_ (acts_slotMsg _ _ _ _ _) rfl rfl
                  refine Acts.trans ?_ (acts_setSlotState _ _ _) rfl rfl
                  with_reducible assumption
                · with_reducible assumption
                · refine Acts.trans ?_ (acts_slotMsg _ _ _ _ _) rfl rfl
                  with_reducible assumption
                · refine Acts.trans ?_ (acts_setSlotState _ _ _) rfl rfl
                  refine Acts.trans ?_ (acts_slotMsg _ _ _ _ _) rfl rfl
                  refine Acts.trans ?_ (acts_logErr _ _ _ _ _ _) rfl rfl
                  with_reducible assumption

theorem acts_execProbeInterval (stream : Nat) (r : Nat) (s : State) :
    ActsR 633825300356228217210247692758 237684563100656738694955270592 s (execProbeInterval stream r s) := by
  unfold execProbeInterval
  refine ActsR.next ?_
  split
  · refine Acts.ite (fun _ => ?_) (fun _ => ?_)
    · extract_lets a1
      clear_value a1
      refine Acts.trans ?_ (acts_replMsg _ _ _ _ _ _ _ _ _ _) rfl rfl
      refine Acts.trans ?_ (acts_setRepl _ _ _ _) rfl rfl
      exact Acts.refl _ _ _
    · exact Acts.refl _ _ _
  · exact Acts.refl _ _ _

end Sys2Proof.Machine
end

