-- ==== Sys2Proof/Laws/DramActs.lean ====
section
/-! SUPPORT. What each operation and each command of Dram.lean may touch: `acts_<name>` bounds the fields and the registers that
`<name>` can change (see Acts.lean). -/

namespace Sys2Proof.Machine

open Sys2Proof

theorem acts_execEccCountClear (ag : Agent) (ch : Nat) (w : W) (s : State) :
    ActsR 3169126500849580507870049452534 237684563100692767491974234560 s (execEccCountClear ag ch w s) := by
  unfold execEccCountClear
  refine ActsR.next ?_
  refine Acts.trans ?_ (acts_onWrite (L := 3169126500849580507870049452534) (R := 237684563100692767491974234560) _ _ _ _ _ ?_ rfl rfl) rfl rfl
  · exact Acts.refl _ _ _
  · intro t1
    refine Acts.ite (fun _ => ?_) (fun _ => ?_)
    · refine Acts.trans ?_ (acts_setFld _ _ _ _) rfl rfl
      refine Acts.trans ?_ (acts_setFld _ _ _ _) rfl rfl
      exact Acts.refl _ _ _
    · exact Acts.refl _ _ _

theorem acts_setChan (s : State) (ch : Nat) (x : Chan) :
    Acts 512 0 s (State.setChan s ch x) := by
  unfold State.setChan
  refine Acts.trans ?_ (Acts.set_chans _ _) rfl rfl
  exact Acts.refl _ _ _

theorem acts_execRefresh (ch : Nat) (rank : Nat) (postpone : Bool) (s : State) :
    ActsR 512 0 s (execRefresh ch rank postpone s) := by
  unfold execRefresh
  extract_lets a1 a2
  clear_value a1
  clear_value a2
  refine ActsR.next ?_
  refine Acts.ite (fun _ => ?_) (fun _ => ?_)
  · exact Acts.refl _ _ _
  · refine Acts.ite (fun _ => ?_) (fun _ => ?_)
    · refine Acts.trans ?_ (acts_setChan _ _ _) rfl rfl
      exact Acts.refl _ _ _
    · refine Acts.trans ?_ (acts_setChan _ _ _) rfl rfl
      exact Acts.refl _ _ _

theorem acts_mcWake (s : State) (ch : Nat) :
    Acts 16 18014398509481984 s (State.mcWake s ch) := by
  unfold State.mcWake
  refine Acts.ite (fun _ => ?_) (fun _ => ?_)
  · refine Acts.trans ?_ (acts_setFld _ _ _ _) rfl rfl
    exact Acts.refl _ _ _
  · exact Acts.refl _ _ _

theorem acts_execMcRead (line : Nat) (cls : Nat) (part : Nat) (bucket : Bool) (s : State) :
    ActsR 1552 18014398509481984 s (execMcRead line cls part bucket s) := by
  unfold execMcRead
  refine ActsR.next ?_
  split
  · refine Acts.trans ?_ (Acts.set_mcRsp _ _) rfl rfl
    exact Acts.refl _ _ _
  · extract_lets a1 a2 a3 a4
    have ha1 : Acts 1552 18014398509481984 s a1 := by
      dsimp only [a1]
      refine Acts.trans ?_ (acts_mcWake _ _) rfl rfl
      exact Acts.refl _ _ _
    clear_value a1
    clear_value a2
    clear_value a3
    clear_value a4
    refine Acts.ite (fun _ => ?_) (fun _ => ?_)
    · refine Acts.trans ?_ (Acts.set_mcRsp _ _) rfl rfl
      with_reducible assumption
    · refine Acts.ite (fun _ => ?_) (fun _ => ?_)
      · with_reducible assumption
      · refine Acts.trans ?_ (acts_setChan _ _ _) rfl rfl
        with_reducible assumption

theorem acts_chRecord (s : State) (ch : Nat) (cls : Nat) (code : Nat) (addr : Nat) (off : Nat) :
    Acts 633825300356228216729211355606 237684563100656738694955270592 s (State.chRecord s ch cls code addr off) := by
  unfold State.chRecord
  refine Acts.trans ?_ (acts_raise _ _) rfl rfl
  refine Acts.trans ?_ (acts_logErr _ _ _ _ _ _) rfl rfl
  exact Acts.refl _ _ _

theorem acts_execRankCopyDone (ch : Nat) (s : State) :
    ActsR 633825300356228216729211355606 237684563100674753093464752576 s (execRankCopyDone ch s) := by
  unfold execRankCopyDone
  refine ActsR.next ?_
  refine Acts.ite (fun _ => ?_) (fun _ => ?_)
  · exact Acts.refl _ _ _
  · extract_lets a1 a2 a3
    clear_value a1
    have ha2 : Acts 633825300356228216729211355606 237684563100674753093464752576 s a2 := by
      dsimp only [a2]
      refine Acts.trans ?_ (acts_setFld _ _ _ _) rfl rfl
      exact Acts.refl _ _ _
    clear_value a2
    have ha3 : Acts 633825300356228216729211355606 237684563100674753093464752576 s a3 := by
      dsimp only [a3]
      refine Acts.ite (fun _ => ?_) (fun _ => ?_)
      · refine Acts.trans ?_ (acts_setFld _ _ _ _) rfl rfl
        refine Acts.trans ?_ (acts_setFld _ _ _ _) rfl rfl
        with_reducible assumption
      · with_reducible assumption
    clear_value a3
    refine Acts.trans ?_ (acts_chRecord _ _ _ _ _ _) rfl rfl
    with_reducible assumption

theorem acts_leaveOut (s : State) (ch : Nat) (step : Nat) :
    Acts 633825300356228216729211355606 237684563100674753093464752576 s (State.leaveOut s ch step) := by
  unfold State.leaveOut
  refine Acts.trans ?_ (acts_logErr _ _ _ _ _ _) rfl rfl
  refine Acts.trans ?_ (acts_setFld _ _ _ _) rfl rfl
  exact Acts.refl _ _ _

theorem acts_execMctDecodeWrite (ag : Agent) (n : Nat) (w : W) (s : State) :
    ActsR 3169126500849580507870049452534 237684563100665745894210011584 s (execMctDecodeWrite ag n w s) := by
  unfold execMctDecodeWrite
  refine ActsR.next ?_
  refine Acts.trans ?_ (acts_onWrite (L := 3169126500849580507870049452534) (R := 237684563100665745894210011584) _ _ _ _ _ ?_ rfl rfl) rfl rfl
  · exact Acts.refl _ _ _
  · intro t1
    exact Acts.refl _ _ _

theorem acts_rankCopy (s : State) (ch : Nat) (rank : Nat) :
    Acts 528 18014398509481984 s (State.rankCopy s ch rank) := by
  unfold State.rankCopy
  refine Acts.ite (fun _ => ?_) (fun _ => ?_)
  · refine Acts.trans ?_ (acts_setChan _ _ _) rfl rfl
    refine Acts.trans ?_ (acts_setFld _ _ _ _) rfl rfl
    exact Acts.refl _ _ _
  · exact Acts.refl _ _ _

theorem acts_execDeviceErased (ch : Nat) (rank : Nat) (dev : Nat) (s : State) :
    ActsR 653632340984794301127597343702 237684563100674753093464752576 s (execDeviceErased ch rank dev s) := by
  unfold execDeviceErased
  refine ActsR.next ?_
  refine Acts.ite (fun _ => ?_) (fun _ => ?_)
  · exact Acts.refl _ _ _
  · refine Acts.trans ?_ (acts_rankCopy _ _ _) rfl rfl
    refine Acts.trans ?_ (acts_chRecord _ _ _ _ _ _) rfl rfl
    refine Acts.trans ?_ (acts_setFld _ _ _ _) rfl rfl
    refine Acts.trans ?_ (acts_setFld _ _ _ _) rfl rfl
    refine Acts.trans ?_ (acts_unDue _ _) rfl rfl
    exact Acts.refl _ _ _

theorem acts_eccLog (s : State) (ch : Nat) (kind : Nat) (b : Burst) :
    Acts 16 108086391056891904 s (State.eccLog s ch kind b) := by
  unfold State.eccLog
  extract_lets a1 a2
  have ha1 : Acts 16 108086391056891904 s a1 := by
    dsimp only [a1]
    refine Acts.trans ?_ (acts_incSat _ _ _) rfl (by split <;> rfl)
    exact Acts.refl _ _ _
  clear_value a1
  clear_value a2
  refine Acts.trans ?_ (Acts.wr _ _ _ _) rfl rfl
  with_reducible assumption

theorem acts_noteDram (s : State) (ch : Nat) (b : Burst) :
    Acts 19807040628566084398385987584 0 s (State.noteDram s ch b) := by
  unfold State.noteDram
  extract_lets a1 a2 a3 a4
  clear_value a1
  clear_value (ea2 : a2 = _)
  have ha2 : Acts 19807040628566084398385987584 0 s a2.2 := by
    rw [ea2]
    clear ea2
    refine Acts.trans ?_ (acts_note _ _ _ _) rfl rfl
    exact Acts.refl _ _ _
  clear ea2
  have ha3 : Acts 19807040628566084398385987584 0 s a3 := by
    dsimp only [a3]
    refine Acts.ite (fun _ => ?_) (fun _ => ?_)
    · refine Acts.trans ?_ (acts_setDue _ _) rfl rfl
      with_reducible assumption
    · with_reducible assumption
  clear_value a3
  clear_value (ea4 : a4 = _)
  have ha4 : Acts 19807040628566084398385987584 0 s a4.2 := by
    rw [ea4]
    clear ea4
    refine Acts.trans ?_ (acts_note _ _ _ _) rfl rfl
    with_reducible assumption
  clear ea4
  refine Acts.ite (fun _ => ?_) (fun _ => ?_)
  · with_reducible assumption
  · refine Acts.ite (fun _ => ?_) (fun _ => ?_)
    · refine Acts.trans ?_ (acts_setDue _ _) rfl rfl
      with_reducible assumption
    · with_reducible assumption

theorem acts_eccCorrected (s : State) (ch : Nat) (line : Nat) (b : Burst) :
    Acts 653632341021687789275016446422 237684563100764825086012162496 s (State.eccCorrected s ch line b) := by
  unfold State.eccCorrected
  extract_lets a1 a2
  clear_value a1
  have ha2 : Acts 653632341021687789275016446422 237684563100764825086012162496 s a2 := by
    dsimp only [a2]
    refine Acts.trans ?_ (acts_logLimited _ _ _ _ _ _ _ _) rfl rfl
    refine Acts.trans ?_ (acts_count _ _ _ _ _) rfl rfl
    refine Acts.trans ?_ (acts_eccLog _ _ _ _) rfl rfl
    exact Acts.refl _ _ _
  clear_value a2
  refine Acts.trans ?_ (acts_noteDram _ _ _) rfl rfl
  refine Acts.ite (fun _ => ?_) (fun _ => ?_)
  · with_reducible assumption
  · refine Acts.trans ?_ (acts_raise _ _) rfl rfl
    with_reducible assumption

theorem acts_burstRead (s : State) (ch : Nat) (line : Nat) (b : Burst) (pb : Burst) (patrol : Bool) :
    Acts 653632341021687789275016446422 237684563100764825086012162496 s (State.burstRead s ch line b pb patrol).2 := by
  unfold State.burstRead
  refine Acts.ite2 (fun _ => ?_) (fun _ => ?_)
  · exact Acts.refl _ _ _
  · extract_lets a1 a2 a3
    clear_value a1
    have ha2 : Acts 653632341021687789275016446422 237684563100764825086012162496 s a2 := by
      dsimp only [a2]
      refine Acts.ite (fun _ => ?_) (fun _ => ?_)
      · refine Acts.trans ?_ (acts_drawn _) rfl rfl
        exact Acts.refl _ _ _
      · exact Acts.refl _ _ _
    clear_value a2
    refine Acts.ite2 (fun _ => ?_) (fun _ => ?_)
    · with_reducible assumption
    · refine Acts.ite2 (fun _ => ?_) (fun _ => ?_)
      · dsimp only
        refine Acts.trans ?_ (acts_eccCorrected _ _ _ _) rfl rfl
        with_reducible assumption
      · refine Acts.ite2 (fun _ => ?_) (fun _ => ?_)
        · split
          · dsimp only [a3]
            refine Acts.trans ?_ (Acts.set_memPoison _ _) rfl rfl
            refine Acts.ite (fun _ => ?_) (fun _ => ?_)
            · refine Acts.trans ?_ (acts_setDue _ _) rfl rfl
              refine Acts.ite (fun _ => ?_) (fun _ => ?_)
              · refine Acts.trans ?_ (acts_chRecord _ _ _ _ _ _) rfl rfl
                refine Acts.trans ?_ (acts_eccLog _ _ _ _) rfl rfl
                with_reducible assumption
              · refine Acts.trans ?_ (acts_chRecord _ _ _ _ _ _) rfl rfl
                refine Acts.trans ?_ (acts_eccLog _ _ _ _) rfl rfl
                with_reducible assumption
            · refine Acts.ite (fun _ => ?_) (fun _ => ?_)
              · refine Acts.trans ?_ (acts_chRecord _ _ _ _ _ _) rfl rfl
                refine Acts.trans ?_ (acts_eccLog _ _ _ _) rfl rfl
                with_reducible assumption
              · refine Acts.trans ?_ (acts_chRecord _ _ _ _ _ _) rfl rfl
                refine Acts.trans ?_ (acts_eccLog _ _ _ _) rfl rfl
                with_reducible assumption
          · extract_lets a4 a5
            clear_value a4
            have ha5 : Acts 653632341021687789275016446422 237684563100764825086012162496 s a5 := by
              dsimp only [a5]
              refine Acts.ite (fun _ => ?_) (fun _ => ?_)
              · refine Acts.trans ?_ (acts_eccCorrected _ _ _ _) rfl rfl
                with_reducible assumption
              · with_reducible assumption
            clear_value a5
            refine Acts.ite2 (fun _ => ?_) (fun _ => ?_)
            · dsimp only [a3]
              refine Acts.trans ?_ (Acts.set_memPoison _ _) rfl rfl
              refine Acts.ite (fun _ => ?_) (fun _ => ?_)
              · refine Acts.trans ?_ (acts_setDue _ _) rfl rfl
                refine Acts.ite (fun _ => ?_) (fun _ => ?_)
                · refine Acts.trans ?_ (acts_chRecord _ _ _ _ _ _) rfl rfl
                  refine Acts.trans ?_ (acts_eccLog _ _ _ _) rfl rfl
                  with_reducible assumption
                · refine Acts.trans ?_ (acts_chRecord _ _ _ _ _ _) rfl rfl
                  refine Acts.trans ?_ (acts_eccLog _ _ _ _) rfl rfl
                  with_reducible assumption
              · refine Acts.ite (fun _ => ?_) (fun _ => ?_)
                · refine Acts.trans ?_ (acts_chRecord _ _ _ _ _ _) rfl rfl
                  refine Acts.trans ?_ (acts_eccLog _ _ _ _) rfl rfl
                  with_reducible assumption
                · refine Acts.trans ?_ (acts_chRecord _ _ _ _ _ _) rfl rfl
                  refine Acts.trans ?_ (acts_eccLog _ _ _ _) rfl rfl
                  with_reducible assumption
            · dsimp only
              refine Acts.trans ?_ (acts_chRecord _ _ _ _ _ _) rfl rfl
              refine Acts.trans ?_ (acts_count _ _ _ _ _) rfl rfl
              refine Acts.trans ?_ (acts_eccLog _ _ _ _) rfl rfl
              with_reducible assumption
        · dsimp only
          refine Acts.trans ?_ (acts_drawn _) rfl rfl
          refine Acts.trans ?_ (acts_eccCorrected _ _ _ _) rfl rfl
          with_reducible assumption
theorem acts_burstRead_eq {s : State} {ch : Nat} {line : Nat} {b : Burst} {pb : Burst} {patrol : Bool} {x} {t : State} (h : (State.burstRead s ch line b pb patrol) = (x, t)) : Acts 653632341021687789275016446422 237684563100764825086012162496 s t := by
  have := acts_burstRead s ch line b pb patrol; rw [h] at this; exact this

theorem acts_takeToken (s : State) (ch : Nat) (q : McReq) :
    Acts 633825300114114700748351603200 0 s (State.takeToken s ch q) := by
  unfold State.takeToken
  refine Acts.ite (fun _ => ?_) (fun _ => ?_)
  · exact Acts.refl _ _ _
  · refine Acts.ite (fun _ => ?_) (fun _ => ?_)
    · refine Acts.trans ?_ (acts_count _ _ _ _ _) rfl rfl
      exact Acts.refl _ _ _
    · extract_lets a1 a2 a3 a4
      clear_value a1
      clear_value a2
      clear_value a3
      clear_value a4
      refine Acts.trans ?_ (acts_setChan _ _ _) rfl rfl
      exact Acts.refl _ _ _

theorem acts_mcDrain (s : State) (ch : Nat) :
    Acts 633825300114114700748351603200 0 s (State.mcDrain s ch) := by
  unfold State.mcDrain
  extract_lets a1 a2 a3 a4 a5
  clear_value a1
  clear_value a2
  clear_value a3
  have ha4 : Acts 633825300114114700748351603200 0 s a4 := by
    dsimp only [a4]
    refine Acts.foldl (L2 := 633825300114114700748351603200) (R2 := 0) _ ?_ (fun t6 x7 => ?_) rfl rfl
    · exact Acts.refl _ _ _
    · refine Acts.trans ?_ (acts_count _ _ _ _ _) rfl rfl
      refine Acts.trans ?_ (acts_takeToken _ _ _) rfl rfl
      exact Acts.refl _ _ _
  clear_value a4
  clear_value a5
  refine Acts.trans ?_ (acts_setChan _ _ _) rfl rfl
  with_reducible assumption

theorem acts_execDramReadComplete (ch : Nat) (hits : List Nat) (b : Burst) (pb : Burst) (s : State) :
    ActsR 653632341021687789275016447958 237684563100764825086012162496 s (execDramReadComplete ch hits b pb s) := by
  unfold execDramReadComplete
  extract_lets a1
  clear_value a1
  refine ActsR.next ?_
  split
  · refine Acts.trans ?_ (acts_mcDrain _ _) rfl rfl
    exact Acts.refl _ _ _
  · split
    · exact Acts.refl _ _ _
    · extract_lets a2 a3 a4 a5 a6 a7 a8 a9 a10 a11
      clear_value a2
      have ha3 : Acts 653632341021687789275016447958 237684563100764825086012162496 s a3 := by
        dsimp only [a3]
        refine Acts.trans ?_ (acts_count _ _ _ _ _) rfl rfl
        refine Acts.trans ?_ (acts_takeToken _ _ _) rfl rfl
        exact Acts.refl _ _ _
      clear_value a3
      have ha4 : Acts 653632341021687789275016447958 237684563100764825086012162496 s a4 := by
        dsimp only [a4]
        refine Acts.ite (fun _ => ?_) (fun _ => ?_)
        · with_reducible assumption
        · refine Acts.trans ?_ (acts_count _ _ _ _ _) rfl rfl
          with_reducible assumption
      clear_value a4
      have ha5 : Acts 653632341021687789275016447958 237684563100764825086012162496 s a5 := by
        dsimp only [a5]
        refine Acts.ite (fun _ => ?_) (fun _ => ?_)
        · refine Acts.trans ?_ (acts_count _ _ _ _ _) rfl rfl
          with_reducible assumption
        · with_reducible assumption
      clear_value a5
      clear_value a6
      have ha7 : Acts 653632341021687789275016447958 237684563100764825086012162496 s a7 := by
        dsimp only [a7]
        refine Acts.trans ?_ (acts_setChan _ _ _) rfl rfl
        with_reducible assumption
      clear_value a7
      clear_value a8
      clear_value (ea9 : a9 = _)
      have ha9 : Acts 653632341021687789275016447958 237684563100764825086012162496 s a9.2 := by
        rw [ea9]
        clear ea9
        refine Acts.trans ?_ (acts_burstRead _ _ _ _ _ _) rfl rfl
        with_reducible assumption
      clear ea9
      clear_value a10
      have ha11 : Acts 653632341021687789275016447958 237684563100764825086012162496 s a11 := by
        dsimp only [a11]
        with_reducible assumption
      clear_value a11
      refine Acts.trans ?_ (acts_mcDrain _ _) rfl rfl
      refine Acts.trans ?_ (Acts.set_mcRsp _ _) rfl rfl
      with_reducible assumption

theorem acts_execSelfRefreshExit (ch : Nat) (s : State) :
    ActsR 16 18014398509481984 s (execSelfRefreshExit ch s) := by
  unfold execSelfRefreshExit
  refine ActsR.next ?_
  refine Acts.ite (fun _ => ?_) (fun _ => ?_)
  · refine Acts.trans ?_ (acts_mcWake _ _) rfl rfl
    exact Acts.refl _ _ _
  · exact Acts.refl _ _ _

theorem acts_execSelfRefreshEntry (ch : Nat) (s : State) :
    ActsR 633825300114114700748351603216 18014398509481984 s (execSelfRefreshEntry ch s) := by
  unfold execSelfRefreshEntry
  extract_lets a1
  clear_value a1
  refine ActsR.next ?_
  refine Acts.ite (fun _ => ?_) (fun _ => ?_)
  · refine Acts.trans ?_ (acts_setFld _ _ _ _) rfl rfl
    refine Acts.trans ?_ (acts_mcDrain _ _) rfl rfl
    exact Acts.refl _ _ _
  · exact Acts.refl _ _ _

theorem acts_execMcWrite (line : Nat) (data : BitVec 512) (mask : Nat) (poison : Bool) (cls : Nat) (part : Nat) (bucket : Bool) (b : Burst) (pb : Burst) (s : State) :
    ActsR 653632341021687789275016447958 237684563100782839484521644480 s (execMcWrite line data mask poison cls part bucket b pb s) := by
  unfold execMcWrite
  refine ActsR.next ?_
  split
  · refine Acts.trans ?_ (Acts.set_mcRsp _ _) rfl rfl
    exact Acts.refl _ _ _
  · extract_lets a1 a2 a3 a4
    clear_value a1
    have ha2 : Acts 653632341021687789275016447958 237684563100782839484521644480 s a2 := by
      dsimp only [a2]
      refine Acts.foldl (L2 := 653632341021687789275016447958) (R2 := 237684563100782839484521644480) _ ?_ (fun t5 x6 => ?_) rfl rfl
      · exact Acts.refl _ _ _
      · refine Acts.trans ?_ (acts_mcWake _ _) rfl rfl
        exact Acts.refl _ _ _
    clear_value a2
    clear_value a3
    clear_value a4
    split
    · refine Acts.trans ?_ (Acts.set_mcRsp _ _) rfl rfl
      exact Acts.refl _ _ _
    · refine Acts.ite (fun _ => ?_) (fun _ => ?_)
      · exact Acts.refl _ _ _
      · extract_lets a7 a8 a9 a10 a11
        clear_value (ea7 : a7 = _)
        have ha7 : Acts 653632341021687789275016447958 237684563100782839484521644480 s a7.2 := by
          rw [ea7]
          clear ea7
          refine Acts.ite2 (fun _ => ?_) (fun _ => ?_)
          · with_reducible assumption
          · refine Acts.trans ?_ (acts_burstRead _ _ _ _ _ _) rfl rfl
            with_reducible assumption
        clear ea7
        clear_value a8
        clear_value a9
        have ha10 : Acts 653632341021687789275016447958 237684563100782839484521644480 s a10 := by
          dsimp only [a10]
          refine Acts.trans ?_ (acts_dramWrite _ _ _ _) rfl rfl
          with_reducible assumption
        clear_value a10
        have ha11 : Acts 653632341021687789275016447958 237684563100782839484521644480 s a11 := by
          dsimp only [a11]
          refine Acts.foldl (L2 := 653632341021687789275016447958) (R2 := 237684563100782839484521644480) _ ?_ (fun t12 x13 => ?_) rfl rfl
          · with_reducible assumption
          · refine Acts.trans ?_ (acts_mcDrain _ _) rfl rfl
            refine Acts.trans ?_ (acts_setChan _ _ _) rfl rfl
            exact Acts.refl _ _ _
        clear_value a11
        refine Acts.trans ?_ (Acts.set_mcRsp _ _) rfl rfl
        with_reducible assumption

theorem acts_channelLost (s : State) (ch : Nat) :
    Acts 633825300356228216729211357142 237684563100674753093464752576 s (State.channelLost s ch) := by
  unfold State.channelLost
  refine Acts.ite (fun _ => ?_) (fun _ => ?_)
  · exact Acts.refl _ _ _
  · extract_lets a1 a2 a3
    clear_value a1
    clear_value a2
    have ha3 : Acts 633825300356228216729211357142 237684563100674753093464752576 s a3 := by
      dsimp only [a3]
      refine Acts.trans ?_ (acts_setChan _ _ _) rfl rfl
      refine Acts.trans ?_ (acts_setFld _ _ _ _) rfl rfl
      exact Acts.refl _ _ _
    clear_value a3
    refine Acts.trans ?_ (acts_chRecord _ _ _ _ _ _) rfl rfl
    refine Acts.trans ?_ (Acts.set_mcRsp _ _) rfl rfl
    with_reducible assumption

theorem acts_wdogLoad (s : State) (wd : Nat) (ms : Nat) :
    Acts 10141204801825835211973625643024 39614081257132168796771975168 s (State.wdogLoad s wd ms) := by
  unfold State.wdogLoad
  refine Acts.trans ?_ (acts_setFld _ _ _ _) rfl rfl
  refine Acts.trans ?_ (Acts.set_wdogNs _ _) rfl rfl
  exact Acts.refl _ _ _

theorem acts_kick16 (s : State) :
    Acts 10141204801825835211973625643024 39614081257132168796771975168 s (State.kick16 s) := by
  unfold State.kick16
  refine Acts.ite (fun _ => ?_) (fun _ => ?_)
  · refine Acts.trans ?_ (acts_wdogLoad _ _ _) rfl rfl
    exact Acts.refl _ _ _
  · exact Acts.refl _ _ _

theorem acts_execPatrolScrub (ch : Nat) (b : Burst) (pb : Burst) (s : State) :
    ActsR 653632341021687789275016446934 237684563100908940274088018368 s (execPatrolScrub ch b pb s) := by
  unfold execPatrolScrub
  refine ActsR.next ?_
  refine Acts.ite (fun _ => ?_) (fun _ => ?_)
  · exact Acts.refl _ _ _
  · extract_lets a1 a2 a3 a4
    clear_value a1
    have ha2 : Acts 653632341021687789275016446934 237684563100908940274088018368 s a2 := by
      dsimp only [a2]
      split
      · refine Acts.ite (fun _ => ?_) (fun _ => ?_)
        · refine Acts.trans ?_ (acts_dramWrite _ _ _ _) rfl rfl
          refine Acts.trans ?_ (acts_burstRead _ _ _ _ _ _) rfl rfl
          exact Acts.refl _ _ _
        · refine Acts.trans ?_ (acts_burstRead _ _ _ _ _ _) rfl rfl
          exact Acts.refl _ _ _
      · exact Acts.refl _ _ _
    clear_value a2
    clear_value a3
    clear_value a4
    refine Acts.ite (fun _ => ?_) (fun _ => ?_)
    · refine Acts.trans ?_ (acts_incSat _ _ _) rfl rfl
      refine Acts.trans ?_ (acts_setChan _ _ _) rfl rfl
      with_reducible assumption
    · refine Acts.trans ?_ (acts_setChan _ _ _) rfl rfl
      with_reducible assumption

theorem acts_execChannelLost (ch : Nat) (s : State) :
    ActsR 633825300356228216729211357142 237684563100674753093464752576 s (execChannelLost ch s) := by
  unfold execChannelLost
  refine ActsR.next ?_
  refine Acts.ite (fun _ => ?_) (fun _ => ?_)
  · refine Acts.trans ?_ (acts_channelLost _ _) rfl rfl
    exact Acts.refl _ _ _
  · exact Acts.refl _ _ _

theorem acts_execRankSpared (ch : Nat) (rank : Nat) (s : State) :
    ActsR 528 18014398509481984 s (execRankSpared ch rank s) := by
  unfold execRankSpared
  refine ActsR.next ?_
  refine Acts.ite (fun _ => ?_) (fun _ => ?_)
  · exact Acts.refl _ _ _
  · refine Acts.trans ?_ (acts_rankCopy _ _ _) rfl rfl
    exact Acts.refl _ _ _

theorem acts_spdPut (s : State) (d : Nat) (i : Nat) (typ : Nat) (rankDev : Nat) (bank : Nat) (row : Nat) :
    Acts 79228162514264337593543950336 0 s (State.spdPut s d i typ rankDev bank row) := by
  unfold State.spdPut
  extract_lets a1 a2
  clear_value a1
  clear_value a2
  refine Acts.trans ?_ (Acts.set_spd _ _) rfl rfl
  exact Acts.refl _ _ _

theorem acts_spdBoot (s : State) (ch : Nat) :
    Acts 79228162514264337593543950864 18014398509481984 s (State.spdBoot s ch) := by
  unfold State.spdBoot
  refine Acts.foldl (L2 := 79228162514264337593543950864) (R2 := 18014398509481984) _ ?_ (fun t1 x2 => ?_) rfl rfl
  · exact Acts.refl _ _ _
  · extract_lets a3 a4 a5
    clear_value a3
    clear_value a4
    clear_value a5
    split
    · exact Acts.refl _ _ _
    · extract_lets a6 a7 a8 a9
      clear_value a6
      clear_value a7
      clear_value a8
      clear_value a9
      split
      · refine Acts.trans ?_ (acts_setChan _ _ _) rfl rfl
        refine Acts.trans ?_ (acts_spdPut _ _ _ _ _ _ _) rfl rfl
        exact Acts.refl _ _ _
      · refine Acts.trans ?_ (acts_setChan _ _ _) rfl rfl
        exact Acts.refl _ _ _
      · refine Acts.trans ?_ (acts_setFld _ _ _ _) rfl rfl
        refine Acts.trans ?_ (acts_setFld _ _ _ _) rfl rfl
        exact Acts.refl _ _ _
      · refine Acts.ite (fun _ => ?_) (fun _ => ?_)
        · refine Acts.trans ?_ (acts_setFld _ _ _ _) rfl rfl
          refine Acts.trans ?_ (acts_setChan _ _ _) rfl rfl
          exact Acts.refl _ _ _
        · exact Acts.refl _ _ _

theorem acts_execCaParityFailure (ch : Nat) (s : State) :
    ActsR 633825300356228216729211357142 237684563100674753093464752576 s (execCaParityFailure ch s) := by
  unfold execCaParityFailure
  extract_lets a1
  clear_value a1
  refine ActsR.next ?_
  refine Acts.ite (fun _ => ?_) (fun _ => ?_)
  · exact Acts.refl _ _ _
  · refine Acts.ite (fun _ => ?_) (fun _ => ?_)
    · refine Acts.trans ?_ (acts_channelLost _ _) rfl rfl
      exact Acts.refl _ _ _
    · refine Acts.trans ?_ (acts_setChan _ _ _) rfl rfl
      exact Acts.refl _ _ _

theorem acts_execPprApplied (ch : Nat) (line : Nat) (place : Nat) (s : State) :
    ActsR 653632340984794301127597343702 237684563100674753093464752576 s (execPprApplied ch line place s) := by
  unfold execPprApplied
  refine ActsR.next ?_
  refine Acts.ite (fun _ => ?_) (fun _ => ?_)
  · exact Acts.refl _ _ _
  · refine Acts.trans ?_ (acts_chRecord _ _ _ _ _ _) rfl rfl
    refine Acts.trans ?_ (acts_incSat _ _ _) rfl rfl
    refine Acts.trans ?_ (acts_setChan _ _ _) rfl rfl
    refine Acts.trans ?_ (acts_unDue _ _) rfl rfl
    exact Acts.refl _ _ _

theorem acts_execChannelTraining (ch : Nat) (pop : DimmPop) (s : State) :
    ActsR 10854258264696327766296380949462 277298644357806921890236727744 s (execChannelTraining ch pop s) := by
  unfold execChannelTraining
  refine ActsR.next ?_
  refine Acts.ite (fun _ => ?_) (fun _ => ?_)
  · exact Acts.refl _ _ _
  · extract_lets a1 a2 a3 a4 a5
    clear_value a1
    have ha2 : Acts 10854258264696327766296380949462 277298644357806921890236727744 s a2 := by
      dsimp only [a2]
      refine Acts.trans ?_ (acts_setChan _ _ _) rfl rfl
      refine Acts.trans ?_ (acts_kick16 _) rfl rfl
      exact Acts.refl _ _ _
    clear_value a2
    clear_value a3
    clear_value a4
    clear_value a5
    refine Acts.ite (fun _ => ?_) (fun _ => ?_)
    · refine Acts.ite (fun _ => ?_) (fun _ => ?_)
      · refine Acts.trans ?_ (acts_leaveOut _ _ _) rfl rfl
        with_reducible assumption
      · with_reducible assumption
    · refine Acts.ite (fun _ => ?_) (fun _ => ?_)
      · refine Acts.trans ?_ (acts_leaveOut _ _ _) rfl rfl
        with_reducible assumption
      · refine Acts.ite (fun _ => ?_) (fun _ => ?_)
        · refine Acts.trans ?_ (acts_leaveOut _ _ _) rfl rfl
          with_reducible assumption
        · refine Acts.trans ?_ (acts_spdBoot _ _) rfl rfl
          refine Acts.trans ?_ (acts_setFld _ _ _ _) rfl rfl
          refine Acts.trans ?_ (acts_setFld _ _ _ _) rfl rfl
          refine Acts.trans ?_ (acts_setFld _ _ _ _) rfl rfl
          refine Acts.trans ?_ (acts_setFld _ _ _ _) rfl rfl
          refine Acts.trans ?_ (acts_setFld _ _ _ _) rfl rfl
          refine Acts.trans ?_ (acts_setFld _ _ _ _) rfl rfl
          with_reducible assumption

theorem acts_execZqcs (ch : Nat) (rank : Nat) (s : State) :
    ActsR 512 0 s (execZqcs ch rank s) := by
  unfold execZqcs
  extract_lets a1
  clear_value a1
  refine ActsR.next ?_
  refine Acts.ite (fun _ => ?_) (fun _ => ?_)
  · exact Acts.refl _ _ _
  · refine Acts.trans ?_ (acts_setChan _ _ _) rfl rfl
    exact Acts.refl _ _ _

theorem acts_execDimmTemperature (ch : Nat) (dimm : Nat) (temp : Nat) (s : State) :
    ActsR 512 0 s (execDimmTemperature ch dimm temp s) := by
  unfold execDimmTemperature
  extract_lets a1 a2 a3
  clear_value a1
  clear_value a2
  clear_value a3
  refine ActsR.next ?_
  refine Acts.ite (fun _ => ?_) (fun _ => ?_)
  · exact Acts.refl _ _ _
  · refine Acts.trans ?_ (acts_setChan _ _ _) rfl rfl
    exact Acts.refl _ _ _

theorem acts_buildMap (s : State) :
    Acts 147573952589676412944 27021597764222976 s (State.buildMap s) := by
  unfold State.buildMap
  extract_lets a1 a2 a3 a4 a5 a6 a7 a8
  clear_value a1
  have ha2 : Acts 147573952589676412944 27021597764222976 s a2 := by
    dsimp only [a2]
    refine Acts.foldl (L2 := 147573952589676412944) (R2 := 27021597764222976) _ ?_ (fun t9 x10 => ?_) rfl rfl
    · exact Acts.refl _ _ _
    · refine Acts.ite (fun _ => ?_) (fun _ => ?_)
      · exact Acts.refl _ _ _
      · refine Acts.trans ?_ (acts_setFld _ _ _ _) rfl rfl
        refine Acts.trans ?_ (acts_setFld _ _ _ _) rfl rfl
        exact Acts.refl _ _ _
  clear_value a2
  clear_value a3
  have ha4 : Acts 147573952589676412944 27021597764222976 s a4 := by
    dsimp only [a4]
    refine Acts.foldl (L2 := 147573952589676412944) (R2 := 27021597764222976) _ ?_ (fun t11 x12 => ?_) rfl rfl
    · with_reducible assumption
    · refine Acts.trans ?_ (acts_setFld _ _ _ _) rfl rfl
      exact Acts.refl _ _ _
  clear_value a4
  clear_value a5
  clear_value a6
  clear_value a7
  clear_value a8
  split
  · refine Acts.trans ?_ (Acts.set_errorN _ _) rfl rfl
    with_reducible assumption
  · extract_lets a13 a14 a15 a16 a17
    clear_value a13
    clear_value a14
    clear_value a15
    have ha16 : Acts 147573952589676412944 27021597764222976 s a16 := by
      dsimp only [a16]
      refine Acts.trans ?_ (Acts.wr _ _ _ _) rfl rfl
      with_reducible assumption
    clear_value a16
    have ha17 : Acts 147573952589676412944 27021597764222976 s a17 := by
      dsimp only [a17]
      refine Acts.trans ?_ (Acts.wr _ _ _ _) rfl rfl
      with_reducible assumption
    clear_value a17
    refine Acts.foldl (L2 := 147573952589676412944) (R2 := 27021597764222976) _ ?_ (fun t18 x19 => ?_) rfl rfl
    · with_reducible assumption
    · refine Acts.trans ?_ (Acts.wr _ _ _ _) rfl rfl
      exact Acts.refl _ _ _

end Sys2Proof.Machine
end

