-- ==== Sys2Proof/Laws/PcieActs.lean ====
section
/-! SUPPORT. What each operation and each command of Pcie.lean may touch: `acts_<name>` bounds the fields and the registers that
`<name>` can change (see Acts.lean). -/

namespace Sys2Proof.Machine

open Sys2Proof

theorem acts_ioMay (s : State) (ctx : IoCtx) (pa : Nat) (n : Nat) :
    Acts 633825300114114700748485820416 0 s (State.ioMay s ctx pa n).2 := by
  unfold State.ioMay
  refine Acts.trans ?_ (acts_dramMay _ _ _ _ _ _) rfl rfl
  exact Acts.refl _ _ _
theorem acts_ioMay_eq {s : State} {ctx : IoCtx} {pa : Nat} {n : Nat} {x} {t : State} (h : (State.ioMay s ctx pa n) = (x, t)) : Acts 633825300114114700748485820416 0 s t := by
  have := acts_ioMay s ctx pa n; rw [h] at this; exact this

theorem acts_ioStage {L R : Nat} (s : State) (ctx : IoCtx) (gst wr : Bool) (va iova : Nat)
    {tr : State → Nat → Bool → (IoRes Leaf × State)} (lvl base : Nat) (hk : ∀ t a w, Acts L R t (tr t a w).2)
    (hL : 633825300116420543771121402326 ||| L = L) (hR : 75557863725914323419584 ||| R = R) : Acts L R s (s.ioStage ctx gst wr va iova tr lvl base).2 := by
  induction lvl generalizing s va base with
  | zero => exact Acts.refl _ _ _
  | succ lvl ih =>
    unfold State.ioStage
    dsimp only
    generalize (if gst = true then va / 2 ^ (12 + 9 * lvl) else va / 2 ^ (12 + 9 * lvl) % 512) = ix
    have h0 := hk s (base + 8 * ix) false
    generalize tr s (base + 8 * ix) false = q0 at h0 ⊢
    rcases q0 with ⟨⟨k, a⟩ | la, s1⟩
    · exact h0
    · dsimp only at h0 ⊢
      have h1 : Acts L R s (s1.ioMay ctx la.pa 8).2 := h0.trans ((acts_ioMay _ _ _ _).mono (L := 633825300116420543771121402326) (R := 75557863725914323419584) rfl rfl) hL hR
      generalize s1.ioMay ctx la.pa 8 = q1 at h1 ⊢
      rcases q1 with ⟨_ | _, s2⟩
      · exact h1
      · dsimp only at h1 ⊢
        have h2 : Acts L R s (s2.agentRead (la.pa / 64)) := h1.trans ((acts_agentRead _ _).mono (L := 633825300116420543771121402326) (R := 75557863725914323419584) rfl rfl) hL hR
        generalize s2.agentRead (la.pa / 64) = s3 at h2 ⊢
        refine Acts.ite2 (fun _ => h2) (fun _ => ?_)
        refine Acts.ite2 (fun _ => ?_) (fun _ => ?_)
        · refine Acts.ite2 (fun _ => h2) (fun _ => ?_)
          exact h2.trans (ih _ _ _) (Nat.or_self _) (Nat.or_self _)
        · split
          · exact h2
          · refine Acts.ite2 (fun _ => h2) (fun _ => ?_)
            refine Acts.ite2 (fun _ => h2) (fun _ => ?_)
            have h3 := hk s3 (base + 8 * ix) true
            generalize tr s3 (base + 8 * ix) true = q3 at h3 ⊢
            rcases q3 with ⟨⟨k, a⟩ | lw, s4⟩
            · exact h2.trans h3 (Nat.or_self _) (Nat.or_self _)
            · exact (h2.trans h3 (Nat.or_self _) (Nat.or_self _)).trans
                ((acts_agentWriteBytes _ _ _ _).mono (L := 633825300116420543771121402326) (R := 75557863725914323419584) rfl rfl) hL hR

theorem acts_ioStage_eq {L R : Nat} {s : State} {ctx : IoCtx} {gst wr : Bool} {va iova : Nat}
    {tr : State → Nat → Bool → (IoRes Leaf × State)} {lvl base : Nat} {x} {t : State}
    (h : s.ioStage ctx gst wr va iova tr lvl base = (x, t)) (hk : ∀ t a w, Acts L R t (tr t a w).2)
    (hL : 633825300116420543771121402326 ||| L = L) (hR : 75557863725914323419584 ||| R = R) : Acts L R s t := by
  have := acts_ioStage s ctx gst wr va iova lvl base hk hL hR; rw [h] at this; exact this

theorem acts_ioFault (s : State) (q : Inb) (part : Nat) (kind : Nat) (cls : Nat) (code : Nat) (addr : Nat) :
    Acts 633825300356228216729211355606 237684563119103482768664822208 s (State.ioFault s q part kind cls code addr) := by
  unfold State.ioFault
  extract_lets a1 a2 a3 a4 a5
  have ha1 : Acts 633825300356228216729211355606 237684563119103482768664822208 s a1 := by
    dsimp only [a1]
    refine Acts.trans ?_ (acts_logErr _ _ _ _ _ _) rfl rfl
    exact Acts.refl _ _ _
  clear_value a1
  clear_value a2
  clear_value a3
  clear_value a4
  clear_value a5
  refine Acts.trans ?_ (acts_count _ _ _ _ _) rfl rfl
  refine Acts.trans ?_ (acts_raise _ _) rfl rfl
  refine Acts.trans ?_ (Acts.wr _ _ _ _) rfl rfl
  with_reducible assumption

theorem acts_inbMsi (s : State) (q : Inb) (ctx : IoCtx) :
    Acts 633825300356228216729345573334 237684563119103482768664822208 s (State.inbMsi s q ctx) := by
  unfold State.inbMsi
  extract_lets a1 a2 a3 a4
  clear_value a1
  clear_value a2
  clear_value a4
  refine Acts.ite (fun _ => ?_) (fun _ => ?_)
  · dsimp only [a3]
    refine Acts.trans ?_ (acts_ioFault _ _ _ _ _ _ _) rfl rfl
    exact Acts.refl _ _ _
  · split
    · refine Acts.trans ?_ (acts_ioFault _ _ _ _ _ _ _) rfl rfl
      refine Acts.trans ?_ (acts_ioMay_eq (by assumption)) rfl rfl
      exact Acts.refl _ _ _
    · extract_lets a5 a6 a7 a8
      have ha5 : Acts 633825300356228216729345573334 237684563119103482768664822208 s a5 := by
        dsimp only [a5]
        refine Acts.trans ?_ (acts_agentRead _ _) rfl rfl
        refine Acts.trans ?_ (acts_ioMay_eq (by assumption)) rfl rfl
        exact Acts.refl _ _ _
      clear_value a5
      clear_value a6
      clear_value a7
      clear_value a8
      refine Acts.ite (fun _ => ?_) (fun _ => ?_)
      · dsimp only [a3]
        refine Acts.trans ?_ (acts_ioFault _ _ _ _ _ _ _) rfl rfl
        with_reducible assumption
      · refine Acts.ite (fun _ => ?_) (fun _ => ?_)
        · refine Acts.trans ?_ (acts_message _ _ _ _) rfl rfl
          with_reducible assumption
        · refine Acts.trans ?_ (acts_message _ _ _ _) rfl rfl
          with_reducible assumption

theorem acts_invalWrite (s : State) (ag : Agent) (part : Nat) (w : W) :
    Acts 3169126500849594018668931564022 237684563109880110731810046400 s (State.invalWrite s ag part w) := by
  unfold State.invalWrite
  refine Acts.ite (fun _ => ?_) (fun _ => ?_)
  · exact Acts.refl _ _ _
  · extract_lets a1 a2
    clear_value a1
    clear_value a2
    refine Acts.trans ?_ (acts_onWrite (L := 3169126500849594018668931564022) (R := 237684563109880110731810046400) _ _ _ _ _ ?_ rfl rfl) rfl rfl
    · exact Acts.refl _ _ _
    · intro t3
      extract_lets a4 a5 a6
      clear_value a4
      clear_value a5
      refine Acts.ite (fun _ => ?_) (fun _ => ?_)
      · exact Acts.refl _ _ _
      · refine Acts.ite (fun _ => ?_) (fun _ => ?_)
        · dsimp only [a6]
          refine Acts.trans ?_ (acts_setFld _ _ _ _) rfl rfl
          refine Acts.trans ?_ (Acts.set_ctxCache_ioTlb _ _ _) rfl rfl
          exact Acts.refl _ _ _
        · refine Acts.ite (fun _ => ?_) (fun _ => ?_)
          · dsimp only [a6]
            refine Acts.trans ?_ (acts_setFld _ _ _ _) rfl rfl
            refine Acts.trans ?_ (Acts.set_ctxCache_ioTlb _ _ _) rfl rfl
            exact Acts.refl _ _ _
          · refine Acts.ite (fun _ => ?_) (fun _ => ?_)
            · dsimp only [a6]
              refine Acts.trans ?_ (acts_setFld _ _ _ _) rfl rfl
              refine Acts.trans ?_ (Acts.set_ctxCache_ioTlb _ _ _) rfl rfl
              exact Acts.refl _ _ _
            · exact Acts.refl _ _ _

theorem acts_execInvalFatEntry (ag : Agent) (part : Nat) (w : W) (s : State) :
    ActsR 3169126500849594018668931564022 237684563109880110731810046400 s (execInvalFatEntry ag part w s) := by
  unfold execInvalFatEntry
  refine ActsR.next ?_
  refine Acts.trans ?_ (acts_invalWrite _ _ _ _) rfl rfl
  exact Acts.refl _ _ _

theorem acts_execPcieAer (c : Nat) (p : Nat) (sev : Nat) (s : State) :
    ActsR 633825300356228216729211355606 237684563101809660199562117568 s (execPcieAer c p sev s) := by
  unfold execPcieAer
  refine ActsR.next ?_
  refine Acts.ite (fun _ => ?_) (fun _ => ?_)
  · exact Acts.refl _ _ _
  · extract_lets a1
    have ha1 : Acts 633825300356228216729211355606 237684563101809660199562117568 s a1 := by
      dsimp only [a1]
      refine Acts.trans ?_ (acts_setFld _ _ _ _) rfl rfl
      exact Acts.refl _ _ _
    clear_value a1
    refine Acts.trans ?_ (acts_raise _ _) rfl rfl
    refine Acts.trans ?_ (acts_logErr _ _ _ _ _ _) rfl rfl
    with_reducible assumption

theorem acts_pcieAnswer (s : State) (r : PcieTag) (data : Nat) (status : Nat) :
    Acts 633825300356228498204196454870 237684563100656738694955270608 s (State.pcieAnswer s r data status) := by
  unfold State.pcieAnswer
  split
  · refine Acts.trans ?_ (acts_ioAnswer _ _ _ _ _ _) rfl rfl
    exact Acts.refl _ _ _
  · extract_lets a1 a2
    clear_value a1
    clear_value a2
    refine Acts.trans ?_ (Acts.set_pcieCpl _ _) rfl rfl
    exact Acts.refl _ _ _

theorem acts_pcieFree (s : State) (c : Nat) (t : Nat) :
    Acts 70368744177680 1152921504606846976 s (State.pcieFree s c t) := by
  unfold State.pcieFree
  split
  · exact Acts.refl _ _ _
  · extract_lets a1
    have ha1 : Acts 70368744177680 1152921504606846976 s a1 := by
      refine Acts.trans ?_ (Acts.set_pcieTags _ _) rfl rfl
      exact Acts.refl _ _ _
    clear_value a1
    refine Acts.trans ?_ (acts_setFld _ _ _ _) rfl rfl
    with_reducible assumption

theorem acts_execPcieCompletion (c : Nat) (tag : Nat) (status : Nat) (data : Nat) (poisoned : Bool) (s : State) :
    ActsR 633825300356229694472847475158 237684563101809660199562117584 s (execPcieCompletion c tag status data poisoned s) := by
  unfold execPcieCompletion
  refine ActsR.next ?_
  refine Acts.ite (fun _ => ?_) (fun _ => ?_)
  · exact Acts.refl _ _ _
  · split
    · refine Acts.trans ?_ (Acts.set_pcieLate _ _) rfl rfl
      exact Acts.refl _ _ _
    · extract_lets a1 a2
      have ha1 : Acts 633825300356229694472847475158 237684563101809660199562117584 s a1 := by
        dsimp only [a1]
        refine Acts.trans ?_ (acts_pcieFree _ _ _) rfl rfl
        exact Acts.refl _ _ _
      clear_value a1
      clear_value a2
      refine Acts.ite (fun _ => ?_) (fun _ => ?_)
      · refine Acts.trans ?_ (acts_pcieAnswer _ _ _ _) rfl rfl
        with_reducible assumption
      · refine Acts.ite (fun _ => ?_) (fun _ => ?_)
        · refine Acts.trans ?_ (acts_pcieAnswer _ _ _ _) rfl rfl
          with_reducible assumption
        · refine Acts.trans ?_ (acts_pcieAnswer _ _ _ _) rfl rfl
          with_reducible assumption

theorem acts_pciePartReset (s : State) (part : Nat) :
    Acts 14144117579710480 19599665578316398592 s (State.pciePartReset s part) := by
  unfold State.pciePartReset
  extract_lets a1 a2 a3
  have ha1 : Acts 14144117579710480 19599665578316398592 s a1 := by
    refine Acts.trans ?_ (Acts.set_ctxCache_ioTlb _ _ _) rfl rfl
    exact Acts.refl _ _ _
  clear_value a1
  have ha2 : Acts 14144117579710480 19599665578316398592 s a2 := by
    dsimp only [a2]
    refine Acts.trans ?_ (Acts.wr _ _ _ _) rfl rfl
    with_reducible assumption
  clear_value a2
  have ha3 : Acts 14144117579710480 19599665578316398592 s a3 := by
    dsimp only [a3]
    refine Acts.foldl (L2 := 14144117579710480) (R2 := 19599665578316398592) _ ?_ (fun t4 x5 => ?_) rfl rfl
    · with_reducible assumption
    · refine Acts.ite (fun _ => ?_) (fun _ => ?_)
      · refine Acts.trans ?_ (Acts.set_portReset _ _) rfl rfl
        exact Acts.refl _ _ _
      · exact Acts.refl _ _ _
  clear_value a3
  refine Acts.foldl (L2 := 14144117579710480) (R2 := 19599665578316398592) _ ?_ (fun t6 x7 => ?_) rfl rfl
  · with_reducible assumption
  · split
    · split
      · refine Acts.ite (fun _ => ?_) (fun _ => ?_)
        · refine Acts.trans ?_ (acts_pcieFree _ _ _) rfl rfl
          exact Acts.refl _ _ _
        · exact Acts.refl _ _ _
      · exact Acts.refl _ _ _
    · exact Acts.refl _ _ _

theorem acts_execInvalVmid (ag : Agent) (part : Nat) (w : W) (s : State) :
    ActsR 3169126500849594018668931564022 237684563109880110731810046400 s (execInvalVmid ag part w s) := by
  unfold execInvalVmid
  refine ActsR.next ?_
  refine Acts.trans ?_ (acts_invalWrite _ _ _ _) rfl rfl
  exact Acts.refl _ _ _

theorem acts_inbDone (s : State) (q : Inb) (status : Nat) (bs : List Byte) :
    Acts 281474976710656 0 s (State.inbDone s q status bs) := by
  unfold State.inbDone
  refine Acts.ite (fun _ => ?_) (fun _ => ?_)
  · exact Acts.refl _ _ _
  · refine Acts.trans ?_ (Acts.set_pcieCpl _ _) rfl rfl
    exact Acts.refl _ _ _

theorem acts_pcieOutbound (s : State) (c : Nat) (p : Nat) (tenBit : Bool) (r : PcieTag) (off : Nat) (data : Nat) :
    Acts 633825300114114911854584135698 1152921504606846976 s (State.pcieOutbound s c p tenBit r off data).2 := by
  unfold State.pcieOutbound
  extract_lets a1 a2 a3 a4 a5
  clear_value a1
  clear_value a2
  clear_value a3
  clear_value a4
  refine Acts.ite2 (fun _ => ?_) (fun _ => ?_)
  · refine Acts.ite2 (fun _ => ?_) (fun _ => ?_)
    · exact Acts.refl _ _ _
    · dsimp only
      refine Acts.trans ?_ (acts_drawn _) rfl rfl
      exact Acts.refl _ _ _
  · refine Acts.ite2 (fun _ => ?_) (fun _ => ?_)
    · exact Acts.refl _ _ _
    · refine Acts.ite2 (fun _ => ?_) (fun _ => ?_)
      · dsimp only
        refine Acts.trans ?_ (acts_count _ _ _ _ _) rfl rfl
        dsimp only [a5]
        refine Acts.trans ?_ (Acts.set_pcieOut _ _) rfl rfl
        exact Acts.refl _ _ _
      · split
        · exact Acts.refl _ _ _
        · extract_lets a6 a7 a8
          have ha6 : Acts 633825300114114911854584135698 1152921504606846976 s a6 := by
            dsimp only [a6]
            dsimp only [a5]
            refine Acts.trans ?_ (Acts.set_pcieOut _ _) rfl rfl
            exact Acts.refl _ _ _
          clear_value a6
          have ha7 : Acts 633825300114114911854584135698 1152921504606846976 s a7 := by
            refine Acts.trans ?_ (Acts.set_pcieTags _ _) rfl rfl
            with_reducible assumption
          clear_value a7
          have ha8 : Acts 633825300114114911854584135698 1152921504606846976 s a8 := by
            dsimp only [a8]
            refine Acts.trans ?_ (acts_setFld _ _ _ _) rfl rfl
            with_reducible assumption
          clear_value a8
          dsimp only
          refine Acts.trans ?_ (acts_count _ _ _ _ _) rfl rfl
          with_reducible assumption
theorem acts_pcieOutbound_eq {s : State} {c : Nat} {p : Nat} {tenBit : Bool} {r : PcieTag} {off : Nat} {data : Nat} {x} {t : State} (h : (State.pcieOutbound s c p tenBit r off data) = (x, t)) : Acts 633825300114114911854584135698 1152921504606846976 s t := by
  have := acts_pcieOutbound s c p tenBit r off data; rw [h] at this; exact this

theorem acts_inbPerform_aux (s0 s : State) (q : Inb) (ctx : IoCtx) (pa : Nat) (tenBit : Bool) :
    s0.inbPerform s q ctx pa tenBit = s0 ∨ Acts 633825300356228709310554816982 237684563120256404273271669184 s (s0.inbPerform s q ctx pa tenBit) := by
  unfold State.inbPerform
  extract_lets deny
  have hd : ∀ u, Acts 633825300356228709310554816982 237684563120256404273271669184 u (deny u) := fun u => by
    dsimp only [deny]
    refine Acts.trans ?_ (acts_inbDone _ _ _ _) rfl rfl
    refine Acts.trans ?_ (acts_ioFault _ _ _ _ _ _ _) rfl rfl
    exact Acts.refl _ _ _
  clear_value deny
  split
  · split
    · exact .inr (Acts.trans (acts_ioMay_eq (by assumption) |>.mono rfl rfl) (hd _) rfl rfl)
    · have h1 : Acts 633825300356228709310554816982 237684563120256404273271669184 s _ := (acts_ioMay_eq (by assumption)).mono rfl rfl
      split
      · split
        · exact .inr (h1.trans (acts_dmaWrite_eq (by assumption)) rfl rfl)
        · exact .inr h1
      · split
        · exact .inl rfl
        · refine .inr (Acts.trans ?_ (acts_inbDone _ _ _ _) rfl rfl)
          exact h1.trans (acts_dmaRead_eq (by assumption)) rfl rfl
        · refine .inr (Acts.trans ?_ (acts_inbDone _ _ _ _) rfl rfl)
          exact h1.trans (acts_dmaRead_eq (by assumption)) rfl rfl
  · split
    · exact .inr (hd _)
    · split
      · exact .inl rfl
      · exact .inr ((acts_pcieOutbound_eq (by assumption)).mono rfl rfl)
      · refine .inr (Acts.trans ?_ (acts_inbDone _ _ _ _) rfl rfl)
        exact (acts_pcieOutbound_eq (by assumption)).mono rfl rfl
  · exact .inr (hd _)

theorem acts_inbPerform {L R : Nat} {u s0 s : State} {q : Inb} {ctx : IoCtx} {pa : Nat} {tenBit : Bool} (h0 : Acts L R u s0)
    (h : Acts L R u s) (hL : 633825300356228709310554816982 ||| L = L) (hR : 237684563120256404273271669184 ||| R = R) : Acts L R u (s0.inbPerform s q ctx pa tenBit) := by
  rcases acts_inbPerform_aux s0 s q ctx pa tenBit with e | e
  · rw [e]
    exact h0
  · exact h.trans e hL hR

theorem acts_ioG (s : State) (ctx : IoCtx) (wr : Bool) (gpa : Nat) (iova : Nat) :
    Acts 633825300116420543771121402326 75557863725914323419584 s (State.ioG s ctx wr gpa iova).2 := by
  unfold State.ioG
  extract_lets a1
  clear_value a1
  refine Acts.ite2 (fun _ => ?_) (fun _ => ?_)
  · refine Acts.ite2 (fun _ => ?_) (fun _ => ?_)
    · exact Acts.refl _ _ _
    · exact Acts.refl _ _ _
  · refine Acts.ite2 (fun _ => ?_) (fun _ => ?_)
    · exact Acts.refl _ _ _
    · refine Acts.trans ?_ (acts_ioStage (L := 633825300116420543771121402326) (R := 75557863725914323419584) _ _ _ _ _ _ _ _ ?_ rfl rfl) rfl rfl
      · exact Acts.refl _ _ _
      · intro t2
        intro t3
        intro t4
        exact Acts.refl _ _ _
theorem acts_ioG_eq {s : State} {ctx : IoCtx} {wr : Bool} {gpa : Nat} {iova : Nat} {x} {t : State} (h : (State.ioG s ctx wr gpa iova) = (x, t)) : Acts 633825300116420543771121402326 75557863725914323419584 s t := by
  have := acts_ioG s ctx wr gpa iova; rw [h] at this; exact this

theorem acts_ioWalk (s : State) (ctx : IoCtx) (wr : Bool) (iova : Nat) :
    Acts 633825300116420543771121402326 75557863725914323419584 s (State.ioWalk s ctx wr iova).2 := by
  unfold State.ioWalk
  extract_lets a1 a2 a3
  clear_value a1
  clear_value (ea3 : a3 = _)
  have ha3 : Acts 633825300116420543771121402326 75557863725914323419584 s a3.2 := by
    rw [ea3]
    clear ea3
    refine Acts.ite2 (fun _ => ?_) (fun _ => ?_)
    · exact Acts.refl _ _ _
    · refine Acts.ite2 (fun _ => ?_) (fun _ => ?_)
      · exact Acts.refl _ _ _
      · refine Acts.trans ?_ (acts_ioStage (L := 633825300116420543771121402326) (R := 75557863725914323419584) _ _ _ _ _ _ _ _ ?_ rfl rfl) rfl rfl
        · exact Acts.refl _ _ _
        · intro t4
          intro t5
          intro t6
          dsimp only [a2]
          split
          · dsimp only
            refine Acts.trans ?_ (acts_ioG_eq (by assumption)) rfl rfl
            exact Acts.refl _ _ _
          · refine Acts.trans ?_ (acts_ioG _ _ _ _ _) rfl rfl
            exact Acts.refl _ _ _
  clear ea3
  split
  · with_reducible assumption
  · split
    · dsimp only
      refine Acts.trans ?_ (acts_ioG_eq (by assumption)) rfl rfl
      with_reducible assumption
    · extract_lets a7 a8 a9
      clear_value a7
      clear_value a8
      clear_value a9
      dsimp only
      refine Acts.trans ?_ (acts_ioG_eq (by assumption)) rfl rfl
      with_reducible assumption
theorem acts_ioWalk_eq {s : State} {ctx : IoCtx} {wr : Bool} {iova : Nat} {x} {t : State} (h : (State.ioWalk s ctx wr iova) = (x, t)) : Acts 633825300116420543771121402326 75557863725914323419584 s t := by
  have := acts_ioWalk s ctx wr iova; rw [h] at this; exact this

theorem acts_ioXlat (s : State) (ctx : IoCtx) (wr : Bool) (iova : Nat) :
    Acts 633825300116429550970376143318 75557863725914323419584 s (State.ioXlat s ctx wr iova).2 := by
  unfold State.ioXlat
  extract_lets a1
  clear_value a1
  split
  · exact Acts.refl _ _ _
  · split
    · dsimp only
      refine Acts.trans ?_ (acts_ioWalk_eq (by assumption)) rfl rfl
      exact Acts.refl _ _ _
    · extract_lets a2
      clear_value a2
      dsimp only
      refine Acts.trans ?_ (Acts.set_ioTlb _ _) rfl rfl
      refine Acts.trans ?_ (acts_ioWalk_eq (by assumption)) rfl rfl
      exact Acts.refl _ _ _
theorem acts_ioXlat_eq {s : State} {ctx : IoCtx} {wr : Bool} {iova : Nat} {x} {t : State} (h : (State.ioXlat s ctx wr iova) = (x, t)) : Acts 633825300116429550970376143318 75557863725914323419584 s t := by
  have := acts_ioXlat s ctx wr iova; rw [h] at this; exact this

theorem acts_ioContext (s : State) (c : Nat) (rid : Nat) (e : Nat) :
    Acts 633825300116425047370748657744 75557863725914323419584 s (State.ioContext s c rid e).2 := by
  unfold State.ioContext
  split
  · exact Acts.refl _ _ _
  · extract_lets a1 a2
    clear_value a1
    clear_value a2
    split
    · dsimp only
      refine Acts.trans ?_ (acts_ioMay_eq (by assumption)) rfl rfl
      exact Acts.refl _ _ _
    · extract_lets a3 a4 a5 a6
      have ha3 : Acts 633825300116425047370748657744 75557863725914323419584 s a3 := by
        dsimp only [a3]
        refine Acts.trans ?_ (acts_agentRead _ _) rfl rfl
        refine Acts.trans ?_ (acts_ioMay_eq (by assumption)) rfl rfl
        exact Acts.refl _ _ _
      clear_value a3
      clear_value a4
      clear_value a5
      clear_value a6
      dsimp only
      refine Acts.trans ?_ (Acts.set_ctxCache _ _) rfl rfl
      with_reducible assumption
theorem acts_ioContext_eq {s : State} {c : Nat} {rid : Nat} {e : Nat} {x} {t : State} (h : (State.ioContext s c rid e) = (x, t)) : Acts 633825300116425047370748657744 75557863725914323419584 s t := by
  have := acts_ioContext s c rid e; rw [h] at this; exact this

theorem acts_ioInbound (s : State) (q : Inb) (tenBit : Bool) :
    Acts 633825300356244471909250613718 237684563120256404273271669184 s (State.ioInbound s q tenBit) := by
  unfold State.ioInbound
  split
  · refine Acts.trans ?_ (acts_inbDone _ _ _ _) rfl rfl
    refine Acts.trans ?_ (acts_count _ _ _ _ _) rfl rfl
    refine Acts.trans ?_ (acts_raise _ _) rfl rfl
    refine Acts.trans ?_ (acts_logErr _ _ _ _ _ _) rfl rfl
    exact Acts.refl _ _ _
  · extract_lets a1
    clear_value a1
    refine Acts.ite (fun _ => ?_) (fun _ => ?_)
    · refine Acts.trans ?_ (acts_inbDone _ _ _ _) rfl rfl
      refine Acts.trans ?_ (Acts.set_msiLost _ _) rfl rfl
      exact Acts.refl _ _ _
    · split
      · refine Acts.trans ?_ (acts_inbDone _ _ _ _) rfl rfl
        refine Acts.trans ?_ (acts_ioFault _ _ _ _ _ _ _) rfl rfl
        refine Acts.trans ?_ (acts_ioContext_eq (by assumption)) rfl rfl
        exact Acts.refl _ _ _
      · refine Acts.ite (fun _ => ?_) (fun _ => ?_)
        · refine Acts.trans ?_ (acts_inbDone _ _ _ _) rfl rfl
          refine Acts.trans ?_ (acts_ioFault _ _ _ _ _ _ _) rfl rfl
          refine Acts.trans ?_ (acts_ioContext_eq (by assumption)) rfl rfl
          exact Acts.refl _ _ _
        · extract_lets a2
          have ha2 : Acts 633825300356244471909250613718 237684563120256404273271669184 s a2 := by
            dsimp only [a2]
            refine Acts.trans ?_ (acts_count _ _ _ _ _) rfl rfl
            refine Acts.trans ?_ (acts_ioContext_eq (by assumption)) rfl rfl
            exact Acts.refl _ _ _
          clear_value a2
          refine Acts.ite (fun _ => ?_) (fun _ => ?_)
          · refine Acts.trans ?_ (acts_inbMsi _ _ _) rfl rfl
            with_reducible assumption
          · split
            · refine Acts.trans ?_ (acts_inbDone _ _ _ _) rfl rfl
              refine Acts.trans ?_ (acts_ioFault _ _ _ _ _ _ _) rfl rfl
              refine Acts.trans ?_ (acts_ioXlat_eq (by assumption)) rfl rfl
              with_reducible assumption
            · refine acts_inbPerform ?_ ?_ rfl rfl
              · exact Acts.refl _ _ _
              · refine Acts.trans ?_ (acts_ioXlat_eq (by assumption)) rfl rfl
                with_reducible assumption

theorem acts_rcvWrite (s : State) (o : Nat) (bs : List Byte) :
    Acts 19342813113834066795298816 0 s (State.rcvWrite s o bs) := by
  unfold State.rcvWrite
  refine Acts.ite (fun _ => ?_) (fun _ => ?_)
  · exact Acts.refl _ _ _
  · refine Acts.ite (fun _ => ?_) (fun _ => ?_)
    · refine Acts.trans ?_ (Acts.set_rcv _ _) rfl rfl
      exact Acts.refl _ _ _
    · refine Acts.ite (fun _ => ?_) (fun _ => ?_)
      · extract_lets a1 a2
        clear_value a1
        clear_value a2
        refine Acts.trans ?_ (Acts.set_rcv _ _) rfl rfl
        exact Acts.refl _ _ _
      · exact Acts.refl _ _ _

theorem acts_execPcieInboundRequest (c : Nat) (p : Nat) (rid : Nat) (write : Bool) (addr : Nat) (len : Nat) (data : List Byte) (pasid : Bool) (bar2 : Bool) (tenBit : Bool) (s : State) :
    ActsR 633844643169358305976045912534 237684563120256404273271669184 s (execPcieInboundRequest c p rid write addr len data pasid bar2 tenBit s) := by
  unfold execPcieInboundRequest
  extract_lets a1 a2 a3
  clear_value a1
  clear_value a2
  clear_value a3
  refine ActsR.next ?_
  refine Acts.ite (fun _ => ?_) (fun _ => ?_)
  · exact Acts.refl _ _ _
  · refine Acts.ite (fun _ => ?_) (fun _ => ?_)
    · exact Acts.refl _ _ _
    · refine Acts.ite (fun _ => ?_) (fun _ => ?_)
      · exact Acts.refl _ _ _
      · refine Acts.ite (fun _ => ?_) (fun _ => ?_)
        · refine Acts.trans ?_ (acts_inbDone _ _ _ _) rfl rfl
          exact Acts.refl _ _ _
        · refine Acts.ite (fun _ => ?_) (fun _ => ?_)
          · refine Acts.ite (fun _ => ?_) (fun _ => ?_)
            · refine Acts.trans ?_ (acts_rcvWrite _ _ _) rfl rfl
              exact Acts.refl _ _ _
            · refine Acts.trans ?_ (acts_inbDone _ _ _ _) rfl rfl
              exact Acts.refl _ _ _
          · refine Acts.trans ?_ (acts_ioInbound _ _ _) rfl rfl
            exact Acts.refl _ _ _

theorem acts_execPcieOutboundRequest (node : Nat) (tag : Nat) (p : Nat) (tenBit : Bool) (s : State) :
    ActsR 633825300356228427835456471510 237684563101809660199562117584 s (execPcieOutboundRequest node tag p tenBit s) := by
  unfold execPcieOutboundRequest
  extract_lets a1 a2 a3
  clear_value a1
  clear_value a2
  clear_value a3
  refine ActsR.next ?_
  refine Acts.ite (fun _ => ?_) (fun _ => ?_)
  · exact Acts.refl _ _ _
  · refine Acts.ite (fun _ => ?_) (fun _ => ?_)
    · exact Acts.refl _ _ _
    · refine Acts.ite (fun _ => ?_) (fun _ => ?_)
      · refine Acts.trans ?_ (acts_ioAnswer _ _ _ _ _ _) rfl rfl
        refine Acts.trans ?_ (acts_ioTake _ _ _) rfl rfl
        exact Acts.refl _ _ _
      · split
        · exact Acts.refl _ _ _
        · refine Acts.trans ?_ (acts_ioTake _ _ _) rfl rfl
          refine Acts.trans ?_ (acts_pcieOutbound_eq (by assumption)) rfl rfl
          exact Acts.refl _ _ _
        · refine Acts.trans ?_ (acts_ioAnswer _ _ _ _ _ _) rfl rfl
          refine Acts.trans ?_ (acts_ioTake _ _ _) rfl rfl
          refine Acts.trans ?_ (acts_pcieOutbound_eq (by assumption)) rfl rfl
          exact Acts.refl _ _ _

theorem acts_execInvalDone (part : Nat) (s : State) :
    ActsR 633825300116420543762397134928 75567087097951178195136 s (execInvalDone part s) := by
  unfold execInvalDone
  refine ActsR.next ?_
  refine Acts.ite (fun _ => ?_) (fun _ => ?_)
  · exact Acts.refl _ _ _
  · refine Acts.trans ?_ (acts_raise _ _) rfl rfl
    refine Acts.trans ?_ (acts_setFld _ _ _ _) rfl rfl
    exact Acts.refl _ _ _

theorem acts_execSecondaryBusResetEnd (c : Nat) (p : Nat) (s : State) :
    ActsR 562949953421312 0 s (execSecondaryBusResetEnd c p s) := by
  unfold execSecondaryBusResetEnd
  refine ActsR.next ?_
  refine Acts.ite (fun _ => ?_) (fun _ => ?_)
  · exact Acts.refl _ _ _
  · refine Acts.trans ?_ (Acts.set_portReset _ _) rfl rfl
    exact Acts.refl _ _ _

theorem acts_execPerstRel (ag : Agent) (c : Nat) (p : Nat) (w : W) (s : State) :
    ActsR 3169126500849580507870049452534 237684563101233199447258694080 s (execPerstRel ag c p w s) := by
  unfold execPerstRel
  refine ActsR.next ?_
  refine Acts.ite (fun _ => ?_) (fun _ => ?_)
  · exact Acts.refl _ _ _
  · refine Acts.trans ?_ (acts_onWrite (L := 3169126500849580507870049452534) (R := 237684563101233199447258694080) _ _ _ _ _ ?_ rfl rfl) rfl rfl
    · exact Acts.refl _ _ _
    · intro t1
      exact Acts.refl _ _ _

theorem acts_execPcieLinkDown (c : Nat) (p : Nat) (up : Bool) (width : Nat) (speed : Nat) (ltssm : Nat) (surprise : Bool) (s : State) :
    ActsR 633825300356228216729211355606 237684563101809660199562117568 s (execPcieLinkDown c p up width speed ltssm surprise s) := by
  unfold execPcieLinkDown
  refine ActsR.next ?_
  refine Acts.ite (fun _ => ?_) (fun _ => ?_)
  · exact Acts.refl _ _ _
  · extract_lets a1 a2 a3 a4
    clear_value a1
    have ha2 : Acts 633825300356228216729211355606 237684563101809660199562117568 s a2 := by
      dsimp only [a2]
      refine Acts.trans ?_ (acts_setFld _ _ _ _) rfl rfl
      refine Acts.trans ?_ (acts_setFld _ _ _ _) rfl rfl
      refine Acts.trans ?_ (acts_setFld _ _ _ _) rfl rfl
      exact Acts.refl _ _ _
    clear_value a2
    have ha3 : Acts 633825300356228216729211355606 237684563101809660199562117568 s a3 := by
      dsimp only [a3]
      refine Acts.trans ?_ (acts_setFld _ _ _ _) rfl rfl
      with_reducible assumption
    clear_value a3
    have ha4 : Acts 633825300356228216729211355606 237684563101809660199562117568 s a4 := by
      dsimp only [a4]
      refine Acts.ite (fun _ => ?_) (fun _ => ?_)
      · with_reducible assumption
      · refine Acts.trans ?_ (acts_logErr _ _ _ _ _ _) rfl rfl
        refine Acts.ite (fun _ => ?_) (fun _ => ?_)
        · refine Acts.trans ?_ (acts_setFld _ _ _ _) rfl rfl
          with_reducible assumption
        · with_reducible assumption
    clear_value a4
    refine Acts.trans ?_ (acts_raise _ _) rfl rfl
    with_reducible assumption

theorem acts_execInvalPartition (ag : Agent) (part : Nat) (w : W) (s : State) :
    ActsR 3169126500849594018668931564022 237684563109880110731810046400 s (execInvalPartition ag part w s) := by
  unfold execInvalPartition
  refine ActsR.next ?_
  refine Acts.trans ?_ (acts_invalWrite _ _ _ _) rfl rfl
  exact Acts.refl _ _ _

theorem acts_execPcieCplTimeout (c : Nat) (tag : Nat) (s : State) :
    ActsR 633825300356228568572940632534 237684563101809660199562117584 s (execPcieCplTimeout c tag s) := by
  unfold execPcieCplTimeout
  refine ActsR.next ?_
  refine Acts.ite (fun _ => ?_) (fun _ => ?_)
  · exact Acts.refl _ _ _
  · split
    · exact Acts.refl _ _ _
    · extract_lets a1 a2
      have ha1 : Acts 633825300356228568572940632534 237684563101809660199562117584 s a1 := by
        dsimp only [a1]
        refine Acts.trans ?_ (acts_setFld _ _ _ _) rfl rfl
        refine Acts.trans ?_ (acts_pcieFree _ _ _) rfl rfl
        exact Acts.refl _ _ _
      clear_value a1
      have ha2 : Acts 633825300356228568572940632534 237684563101809660199562117584 s a2 := by
        dsimp only [a2]
        refine Acts.trans ?_ (acts_raise _ _) rfl rfl
        refine Acts.trans ?_ (acts_logErr _ _ _ _ _ _) rfl rfl
        with_reducible assumption
      clear_value a2
      refine Acts.trans ?_ (acts_pcieAnswer _ _ _ _) rfl rfl
      refine Acts.trans ?_ (acts_count _ _ _ _ _) rfl rfl
      with_reducible assumption

theorem acts_pcieDown (s : State) (c : Nat) :
    Acts 633825300356228216729211355606 237684563101809660199562117568 s (State.pcieDown s c) := by
  unfold State.pcieDown
  refine Acts.foldl (L2 := 633825300356228216729211355606) (R2 := 237684563101809660199562117568) _ ?_ (fun t1 x2 => ?_) rfl rfl
  · exact Acts.refl _ _ _
  · extract_lets a3
    clear_value a3
    refine Acts.ite (fun _ => ?_) (fun _ => ?_)
    · exact Acts.refl _ _ _
    · refine Acts.trans ?_ (acts_raise _ _) rfl rfl
      refine Acts.trans ?_ (acts_logErr _ _ _ _ _ _) rfl rfl
      refine Acts.trans ?_ (acts_setFld _ _ _ _) rfl rfl
      refine Acts.trans ?_ (acts_setFld _ _ _ _) rfl rfl
      refine Acts.trans ?_ (acts_setFld _ _ _ _) rfl rfl
      exact Acts.refl _ _ _

end Sys2Proof.Machine
end

