-- ==== Sys2Proof/Laws/CipherActs.lean ====
section
/-! SUPPORT. What each operation and each command of Cipher.lean may touch: `acts_<name>` bounds the fields and the registers that
`<name>` can change (see Acts.lean). -/

namespace Sys2Proof.Machine

open Sys2Proof

theorem acts_roomFor {L R : Nat} {u s : State} {j : Job} {n : Nat} {x : JRes JOut × State} (h0 : Acts L R u x.2) (h : Acts L R u s) :
    Acts L R u (roomFor j n x s).2 := by
  unfold roomFor
  split
  · exact h
  · exact h0

theorem acts_roomFor_eq {L R : Nat} {u s : State} {j : Job} {n : Nat} {x : JRes JOut × State} {y} {t : State}
    (e : roomFor j n x s = (y, t)) (h0 : Acts L R u x.2) (h : Acts L R u s) : Acts L R u t := by
  have := acts_roomFor (j := j) (n := n) h0 h; rw [e] at this; exact this

theorem acts_cphMay (s : State) (k : Nat) (r : Nat) (pa : Nat) (n : Nat) :
    Acts 633825300114114700748485820416 0 s (State.cphMay s k r pa n).2 := by
  unfold State.cphMay
  extract_lets a1
  clear_value a1
  refine Acts.ite2 (fun _ => ?_) (fun _ => ?_)
  · exact Acts.refl _ _ _
  · refine Acts.trans ?_ (acts_dramMay _ _ _ _ _ _) rfl rfl
    exact Acts.refl _ _ _
theorem acts_cphMay_eq {s : State} {k : Nat} {r : Nat} {pa : Nat} {n : Nat} {x} {t : State} (h : (State.cphMay s k r pa n) = (x, t)) : Acts 633825300114114700748485820416 0 s t := by
  have := acts_cphMay s k r pa n; rw [h] at this; exact this

theorem acts_cphRead (s : State) (k : Nat) (r : Nat) (pa : Nat) (n : Nat) :
    Acts 633825300116420543771121287248 75557863725914323419584 s (State.cphRead s k r pa n).2 := by
  unfold State.cphRead
  split
  · dsimp only
    refine Acts.trans ?_ (acts_cphMay_eq (by assumption)) rfl rfl
    exact Acts.refl _ _ _
  · refine Acts.ite2 (fun _ => ?_) (fun _ => ?_)
    · dsimp only
      refine Acts.trans ?_ (acts_cphMay_eq (by assumption)) rfl rfl
      exact Acts.refl _ _ _
    · split
      · dsimp only
        refine Acts.trans ?_ (acts_cphMay_eq (by assumption)) rfl rfl
        exact Acts.refl _ _ _
      · dsimp only
        refine Acts.trans ?_ (acts_dmaRead_eq (by assumption)) rfl rfl
        refine Acts.trans ?_ (acts_cphMay_eq (by assumption)) rfl rfl
        exact Acts.refl _ _ _
      · dsimp only
        refine Acts.trans ?_ (acts_dmaRead_eq (by assumption)) rfl rfl
        refine Acts.trans ?_ (acts_cphMay_eq (by assumption)) rfl rfl
        exact Acts.refl _ _ _
theorem acts_cphRead_eq {s : State} {k : Nat} {r : Nat} {pa : Nat} {n : Nat} {x} {t : State} (h : (State.cphRead s k r pa n) = (x, t)) : Acts 633825300116420543771121287248 75557863725914323419584 s t := by
  have := acts_cphRead s k r pa n; rw [h] at this; exact this

theorem acts_withSrc {L R : Nat} (s : State) (k r : Nat) (j : Job) {f : State → List Byte → JRes JOut × State} (hk : ∀ t bs, Acts L R t (f t bs).2)
    (hL : 633825300116420543771121287248 ||| L = L) (hR : 75557863725914323419584 ||| R = R) : Acts L R s (s.withSrc k r j f).2 := by
  unfold State.withSrc
  have h := acts_cphRead s k r j.src j.srcLen
  split
  · exact (acts_cphRead_eq (by assumption)).mono hL hR
  · exact (acts_cphRead_eq (by assumption)).mono hL hR
  · exact Acts.trans ((acts_cphRead_eq (by assumption)).mono hL hR) (hk _ _) (Nat.or_self _) (Nat.or_self _)

theorem acts_withSrc_eq {L R : Nat} {s : State} {k r : Nat} {j : Job} {f : State → List Byte → JRes JOut × State} {x} {t : State}
    (h : s.withSrc k r j f = (x, t)) (hk : ∀ t bs, Acts L R t (f t bs).2) (hL : 633825300116420543771121287248 ||| L = L) (hR : 75557863725914323419584 ||| R = R) : Acts L R s t := by
  have := acts_withSrc s k r j hk hL hR; rw [h] at this; exact this

theorem acts_unwait (s : State) (k : Nat) (r : Nat) (j : Job) :
    Acts 8388608 0 s (State.unwait s k r j) := by
  unfold State.unwait
  split
  · exact Acts.refl _ _ _
  · refine Acts.ite (fun _ => ?_) (fun _ => ?_)
    · refine Acts.trans ?_ (acts_freeTxn _ _ _) rfl rfl
      exact Acts.refl _ _ _
    · exact Acts.refl _ _ _

theorem acts_cphCounts (s : State) (k : Nat) :
    Acts 16 36893488147419103232 s (State.cphCounts s k) := by
  unfold State.cphCounts
  extract_lets a1
  clear_value a1
  refine Acts.trans ?_ (acts_setFld _ _ _ _) rfl rfl
  refine Acts.trans ?_ (acts_setFld _ _ _ _) rfl rfl
  exact Acts.refl _ _ _

theorem acts_setJobs (s : State) (k : Nat) (r : Nat) (js : List Job) :
    Acts 18014398509482000 36893488147419103232 s (State.setJobs s k r js) := by
  unfold State.setJobs
  extract_lets a1
  clear_value a1
  refine Acts.trans ?_ (acts_cphCounts _ _) rfl rfl
  refine Acts.trans ?_ (Acts.set_jobs _ _) rfl rfl
  exact Acts.refl _ _ _

theorem acts_cphRecord (s : State) (k : Nat) (r : Nat) (status : Nat) (addr : Nat) :
    Acts 633825300393121704876630458838 237684563100656738694955270592 s (State.cphRecord s k r status addr) := by
  unfold State.cphRecord
  extract_lets a1
  clear_value a1
  refine Acts.ite (fun _ => ?_) (fun _ => ?_)
  · exact Acts.refl _ _ _
  · refine Acts.trans ?_ (acts_logLimited _ _ _ _ _ _ _ _) rfl rfl
    exact Acts.refl _ _ _

theorem acts_jobDone (s : State) (k : Nat) (r : Nat) (ix : Nat) (status : Nat) (outLen : Nat) (addr : Nat) :
    Acts 633825300393139719275139940822 237684563137550226842374373824 s (State.jobDone s k r ix status outLen addr) := by
  unfold State.jobDone
  extract_lets a1
  clear_value a1
  refine Acts.trans ?_ (acts_cphRecord _ _ _ _ _) rfl rfl
  refine Acts.trans ?_ (acts_setJobs _ _ _ _) rfl rfl
  exact Acts.refl _ _ _

theorem acts_jobWait (s : State) (k : Nat) (r : Nat) (j : Job) :
    Acts 633825300393139719275148329430 237684563137550226842374373824 s (State.jobWait s k r j) := by
  unfold State.jobWait
  split
  · refine Acts.ite (fun _ => ?_) (fun _ => ?_)
    · exact Acts.refl _ _ _
    · refine Acts.trans ?_ (acts_jobDone _ _ _ _ _ _ _) rfl rfl
      exact Acts.refl _ _ _
  · split
    · exact Acts.refl _ _ _
    · refine Acts.trans ?_ (acts_setJobs _ _ _ _) rfl rfl
      refine Acts.trans ?_ (acts_takeTxn_eq (by assumption)) rfl rfl
      exact Acts.refl _ _ _

theorem acts_jobWrite (s : State) (k : Nat) (r : Nat) (j : Job) (o : JOut) :
    Acts 633825300393139719275274158550 237684563137550226842374373824 s (State.jobWrite s k r j o) := by
  unfold State.jobWrite
  extract_lets a1
  clear_value a1
  refine Acts.ite (fun _ => ?_) (fun _ => ?_)
  · refine Acts.trans ?_ (acts_jobDone _ _ _ _ _ _ _) rfl rfl
    exact Acts.refl _ _ _
  · split
    · refine Acts.trans ?_ (acts_jobDone _ _ _ _ _ _ _) rfl rfl
      refine Acts.trans ?_ (acts_cphMay_eq (by assumption)) rfl rfl
      exact Acts.refl _ _ _
    · extract_lets a2
      clear_value a2
      refine Acts.ite (fun _ => ?_) (fun _ => ?_)
      · refine Acts.trans ?_ (acts_jobDone _ _ _ _ _ _ _) rfl rfl
        refine Acts.trans ?_ (acts_cphMay_eq (by assumption)) rfl rfl
        exact Acts.refl _ _ _
      · split
        · refine Acts.trans ?_ (acts_jobDone _ _ _ _ _ _ _) rfl rfl
          refine Acts.trans ?_ (acts_cphMay_eq (by assumption)) rfl rfl
          exact Acts.refl _ _ _
        · refine Acts.trans ?_ (acts_jobDone _ _ _ _ _ _ _) rfl rfl
          refine Acts.trans ?_ (acts_dmaWrite_eq (by assumption)) rfl rfl
          refine Acts.trans ?_ (acts_cphMay_eq (by assumption)) rfl rfl
          exact Acts.refl _ _ _

theorem acts_runJob {L R : Nat} (s : State) (k r ix op : Nat) {f : State → Job → JRes JOut × State} (hk : ∀ t j, Acts L R t (f t j).2)
    (hL : 633825300393139719275282547158 ||| L = L) (hR : 237684563137550226842374373824 ||| R = R) : Acts L R s (s.runJob k r ix op f) := by
  unfold State.runJob
  split
  · exact Acts.refl _ _ _
  · split
    · exact Acts.refl _ _ _
    · split
      · exact (acts_jobWait _ _ _ _).mono (L := 633825300393139719275282547158) (R := 237684563137550226842374373824) rfl rfl |>.mono hL hR
      · refine Acts.trans (L2 := 633825300393139719275282547158) (R2 := 237684563137550226842374373824) (Acts.of_eq2 (hk _ _) (by assumption)) ?_ hL hR
        refine Acts.trans ?_ (acts_jobDone _ _ _ _ _ _ _) rfl rfl
        exact (acts_unwait _ _ _ _).mono rfl rfl
      · refine Acts.trans (L2 := 633825300393139719275282547158) (R2 := 237684563137550226842374373824) (Acts.of_eq2 (hk _ _) (by assumption)) ?_ hL hR
        refine Acts.trans ?_ (acts_jobWrite _ _ _ _ _) rfl rfl
        exact (acts_unwait _ _ _ _).mono rfl rfl

theorem acts_tdesJob (s : State) (k : Nat) (r : Nat) (ix : Nat) (op : Nat) :
    Acts 633825300393139719275282547158 237684563137550226842374373824 s (State.tdesJob s k r ix op) := by
  unfold State.tdesJob
  refine Acts.trans ?_ (acts_runJob (L := 633825300393139719275282547158) (R := 237684563137550226842374373824) _ _ _ _ _ ?_ rfl rfl) rfl rfl
  · exact Acts.refl _ _ _
  · intro t1
    intro t2
    refine Acts.ite2 (fun _ => ?_) (fun _ => ?_)
    · exact Acts.refl _ _ _
    · refine acts_roomFor ?_ ?_
      · refine Acts.trans ?_ (acts_withSrc (L := 633825300393139719275282547158) (R := 237684563137550226842374373824) _ _ _ _ ?_ rfl rfl) rfl rfl
        · exact Acts.refl _ _ _
        · intro t3
          intro t4
          exact Acts.refl _ _ _
      · exact Acts.refl _ _ _

theorem acts_execTdesEncrypt (k : Nat) (r : Nat) (ix : Nat) (s : State) :
    ActsR 633825300393139719275282547158 237684563137550226842374373824 s (execTdesEncrypt k r ix s) := by
  unfold execTdesEncrypt
  refine ActsR.next ?_
  refine Acts.trans ?_ (acts_tdesJob _ _ _ _ _) rfl rfl
  exact Acts.refl _ _ _

theorem acts_genJob (s : State) (k : Nat) (r : Nat) (ix : Nat) (op : Nat) (n : Nat) (mac : Job → List Byte → List Byte) :
    Acts 633825300393139719275282547158 237684563137550226842374373824 s (State.genJob s k r ix op n mac) := by
  unfold State.genJob
  refine Acts.trans ?_ (acts_runJob (L := 633825300393139719275282547158) (R := 237684563137550226842374373824) _ _ _ _ _ ?_ rfl rfl) rfl rfl
  · exact Acts.refl _ _ _
  · intro t1
    intro t2
    refine acts_roomFor ?_ ?_
    · refine Acts.trans ?_ (acts_withSrc (L := 633825300393139719275282547158) (R := 237684563137550226842374373824) _ _ _ _ ?_ rfl rfl) rfl rfl
      · exact Acts.refl _ _ _
      · intro t3
        intro t4
        exact Acts.refl _ _ _
    · exact Acts.refl _ _ _

theorem acts_execAesCmacGenerate (k : Nat) (r : Nat) (ix : Nat) (s : State) :
    ActsR 633825300393139719275282547158 237684563137550226842374373824 s (execAesCmacGenerate k r ix s) := by
  unfold execAesCmacGenerate
  refine ActsR.next ?_
  refine Acts.trans ?_ (acts_genJob _ _ _ _ _ _ _) rfl rfl
  exact Acts.refl _ _ _

theorem acts_execCphTail (ag : Agent) (k : Nat) (r : Nat) (w : W) (s : State) :
    ActsR 3169126500849580507870049452534 237684563248230691284631683520 s (execCphTail ag k r w s) := by
  unfold execCphTail
  refine ActsR.next ?_
  refine Acts.ite (fun _ => ?_) (fun _ => ?_)
  · exact Acts.refl _ _ _
  · refine Acts.trans ?_ (acts_onWrite (L := 3169126500849580507870049452534) (R := 237684563248230691284631683520) _ _ _ _ _ ?_ rfl rfl) rfl rfl
    · exact Acts.refl _ _ _
    · intro t1
      exact Acts.refl _ _ _

theorem acts_dropKey (s : State) (h : Nat) :
    Acts 72057594037927952 36893488147419103232 s (State.dropKey s h) := by
  unfold State.dropKey
  refine Acts.foldl (L2 := 72057594037927952) (R2 := 36893488147419103232) _ ?_ (fun t1 x2 => ?_) rfl rfl
  · exact Acts.refl _ _ _
  · refine Acts.trans ?_ (acts_cphCounts _ _) rfl rfl
    refine Acts.trans ?_ (Acts.set_cphKeys _ _) rfl rfl
    exact Acts.refl _ _ _

theorem acts_withAux {L R : Nat} (s : State) (k r : Nat) (j : Job) {f : State → List Byte → JRes JOut × State} (hk : ∀ t bs, Acts L R t (f t bs).2)
    (hL : 633825300116420543771121287248 ||| L = L) (hR : 75557863725914323419584 ||| R = R) : Acts L R s (s.withAux k r j f).2 := by
  unfold State.withAux
  have h := acts_cphRead s k r j.aux j.auxLen
  split
  · exact (acts_cphRead_eq (by assumption)).mono hL hR
  · exact (acts_cphRead_eq (by assumption)).mono hL hR
  · exact Acts.trans ((acts_cphRead_eq (by assumption)).mono hL hR) (hk _ _) (Nat.or_self _) (Nat.or_self _)

theorem acts_withAux_eq {L R : Nat} {s : State} {k r : Nat} {j : Job} {f : State → List Byte → JRes JOut × State} {x} {t : State}
    (h : s.withAux k r j f = (x, t)) (hk : ∀ t bs, Acts L R t (f t bs).2) (hL : 633825300116420543771121287248 ||| L = L) (hR : 75557863725914323419584 ||| R = R) : Acts L R s t := by
  have := acts_withAux s k r j hk hL hR; rw [h] at this; exact this

theorem acts_pinJob (s : State) (k : Nat) (r : Nat) (j : Job) (kin : List Byte) :
    Acts 633825300116420543771121287250 75557863725914323419584 s (State.pinJob s k r j kin).2 := by
  unfold State.pinJob
  extract_lets a1 a2 a3
  clear_value a1
  clear_value a2
  clear_value a3
  refine Acts.ite2 (fun _ => ?_) (fun _ => ?_)
  · exact Acts.refl _ _ _
  · refine acts_roomFor ?_ ?_
    · refine Acts.trans ?_ (acts_withAux (L := 633825300116420543771121287250) (R := 75557863725914323419584) _ _ _ _ ?_ rfl rfl) rfl rfl
      · exact Acts.refl _ _ _
      · intro t4
        intro t5
        extract_lets a6 a7 a8 a9
        clear_value a6
        clear_value a7
        clear_value a8
        clear_value (ea9 : a9 = _)
        have ha9 : Acts 633825300116420543771121287250 75557863725914323419584 t4 a9.2 := by
          rw [ea9]
          clear ea9
          refine Acts.ite2 (fun _ => ?_) (fun _ => ?_)
          · exact Acts.refl _ _ _
          · refine Acts.trans ?_ (acts_nonce _) rfl rfl
            exact Acts.refl _ _ _
        clear ea9
        split
        · exact Acts.refl _ _ _
        · refine Acts.ite2 (fun _ => ?_) (fun _ => ?_)
          · exact Acts.refl _ _ _
          · with_reducible assumption
    · exact Acts.refl _ _ _
theorem acts_pinJob_eq {s : State} {k : Nat} {r : Nat} {j : Job} {kin : List Byte} {x} {t : State} (h : (State.pinJob s k r j kin) = (x, t)) : Acts 633825300116420543771121287250 75557863725914323419584 s t := by
  have := acts_pinJob s k r j kin; rw [h] at this; exact this

theorem acts_execDukptPinTranslate (k : Nat) (r : Nat) (ix : Nat) (s : State) :
    ActsR 633825300393139719275282547158 237684563137550226842374373824 s (execDukptPinTranslate k r ix s) := by
  unfold execDukptPinTranslate
  refine ActsR.next ?_
  refine Acts.trans ?_ (acts_runJob (L := 633825300393139719275282547158) (R := 237684563137550226842374373824) _ _ _ _ _ ?_ rfl rfl) rfl rfl
  · exact Acts.refl _ _ _
  · intro t1
    intro t2
    extract_lets a3
    clear_value a3
    refine Acts.ite2 (fun _ => ?_) (fun _ => ?_)
    · exact Acts.refl _ _ _
    · refine Acts.trans ?_ (acts_pinJob _ _ _ _ _) rfl rfl
      exact Acts.refl _ _ _

theorem acts_verifyJob (s : State) (k : Nat) (r : Nat) (ix : Nat) (op : Nat) :
    Acts 633825300393139719275282547158 237684563137550226842374373824 s (State.verifyJob s k r ix op) := by
  unfold State.verifyJob
  refine Acts.trans ?_ (acts_runJob (L := 633825300393139719275282547158) (R := 237684563137550226842374373824) _ _ _ _ _ ?_ rfl rfl) rfl rfl
  · exact Acts.refl _ _ _
  · intro t1
    intro t2
    extract_lets a3 a4 a5 a6
    clear_value a3
    clear_value a4
    clear_value a5
    clear_value a6
    refine Acts.ite2 (fun _ => ?_) (fun _ => ?_)
    · exact Acts.refl _ _ _
    · refine Acts.trans ?_ (acts_withAux (L := 633825300393139719275282547158) (R := 237684563137550226842374373824) _ _ _ _ ?_ rfl rfl) rfl rfl
      · exact Acts.refl _ _ _
      · intro t7
        intro t8
        refine Acts.trans ?_ (acts_withSrc (L := 633825300393139719275282547158) (R := 237684563137550226842374373824) _ _ _ _ ?_ rfl rfl) rfl rfl
        · exact Acts.refl _ _ _
        · intro t9
          intro t10
          exact Acts.refl _ _ _

theorem acts_execEd25519Verify (k : Nat) (r : Nat) (ix : Nat) (s : State) :
    ActsR 633825300393139719275282547158 237684563137550226842374373824 s (execEd25519Verify k r ix s) := by
  unfold execEd25519Verify
  refine ActsR.next ?_
  refine Acts.trans ?_ (acts_verifyJob _ _ _ _ _) rfl rfl
  exact Acts.refl _ _ _

theorem acts_execRetailMacGenerate (k : Nat) (r : Nat) (ix : Nat) (s : State) :
    ActsR 633825300393139719275282547158 237684563137550226842374373824 s (execRetailMacGenerate k r ix s) := by
  unfold execRetailMacGenerate
  refine ActsR.next ?_
  refine Acts.trans ?_ (acts_genJob _ _ _ _ _ _ _) rfl rfl
  exact Acts.refl _ _ _

theorem acts_execHmacGenerate (k : Nat) (r : Nat) (ix : Nat) (s : State) :
    ActsR 633825300393139719275282547158 237684563137550226842374373824 s (execHmacGenerate k r ix s) := by
  unfold execHmacGenerate
  refine ActsR.next ?_
  refine Acts.trans ?_ (acts_genJob _ _ _ _ _ _ _) rfl rfl
  exact Acts.refl _ _ _

theorem acts_execHash (k : Nat) (r : Nat) (ix : Nat) (s : State) :
    ActsR 633825300393139719275282547158 237684563137550226842374373824 s (execHash k r ix s) := by
  unfold execHash
  refine ActsR.next ?_
  refine Acts.trans ?_ (acts_genJob _ _ _ _ _ _ _) rfl rfl
  exact Acts.refl _ _ _

theorem acts_headAdvance (s : State) (k r fuel : Nat) : Acts 633825300116438558160906616912 75742331166651418935488 s (s.headAdvance k r fuel) := by
  induction fuel generalizing s with
  | zero => exact Acts.refl _ _ _
  | succ fuel ih =>
    unfold State.headAdvance
    extract_lets a1 a2 a3
    clear_value a1
    clear_value a2
    have ha3 : Acts 633825300116438558160906616912 75742331166651418935488 s a3 := by
      dsimp only [a3]
      refine Acts.trans ?_ (acts_setJobs _ _ _ _) rfl rfl
      refine Acts.trans ?_ (acts_setFld _ _ _ _) rfl rfl
      exact Acts.refl _ _ _
    clear_value a3
    split
    · exact Acts.refl _ _ _
    · extract_lets a4
      have ha4 : Acts 633825300116438558160906616912 75742331166651418935488 s a4 := by
        dsimp only [a4]
        refine Acts.ite (fun _ => ?_) (fun _ => ?_)
        · refine Acts.trans ?_ (acts_raise _ _) rfl rfl
          with_reducible assumption
        · with_reducible assumption
      clear_value a4
      refine Acts.trans ?_ (ih _) rfl rfl
      with_reducible assumption

theorem acts_execJobComplete (k : Nat) (r : Nat) (ix : Nat) (s : State) :
    ActsR 633825300116438558169630884310 75742331166651418935744 s (execJobComplete k r ix s) := by
  unfold execJobComplete
  extract_lets a1 a2 a3 a4
  clear_value a1
  clear_value a2
  clear_value a3
  clear_value a4
  refine ActsR.next ?_
  refine Acts.ite (fun _ => ?_) (fun _ => ?_)
  · exact Acts.refl _ _ _
  · split
    · exact Acts.refl _ _ _
    · split
      · exact Acts.refl _ _ _
      · split
        · refine Acts.trans ?_ (acts_cphMay_eq (by assumption)) rfl rfl
          exact Acts.refl _ _ _
        · split
          · refine Acts.trans ?_ (acts_cphMay_eq (by assumption)) rfl rfl
            exact Acts.refl _ _ _
          · extract_lets a5 a6 a7
            have ha5 : Acts 633825300116438558169630884310 75742331166651418935744 s a5 := by
              dsimp only [a5]
              refine Acts.trans ?_ (acts_agentWriteBytes _ _ _ _) rfl rfl
              refine Acts.trans ?_ (acts_dmaWrite_eq (by assumption)) rfl rfl
              refine Acts.trans ?_ (acts_cphMay_eq (by assumption)) rfl rfl
              exact Acts.refl _ _ _
            clear_value a5
            have ha6 : Acts 633825300116438558169630884310 75742331166651418935744 s a6 := by
              dsimp only [a6]
              refine Acts.trans ?_ (acts_setJobs _ _ _ _) rfl rfl
              with_reducible assumption
            clear_value a6
            have ha7 : Acts 633825300116438558169630884310 75742331166651418935744 s a7 := by
              dsimp only [a7]
              refine Acts.trans ?_ (acts_count _ _ _ _ _) rfl rfl
              with_reducible assumption
            clear_value a7
            refine Acts.trans ?_ (acts_headAdvance _ _ _ _) rfl rfl
            with_reducible assumption

theorem acts_keyCache (s : State) (k : Nat) (h : Nat) (part : Nat) :
    Acts 633825300114186758342389530624 0 s (State.keyCache s k h part) := by
  unfold State.keyCache
  extract_lets a1
  clear_value a1
  refine Acts.ite (fun _ => ?_) (fun _ => ?_)
  · exact Acts.refl _ _ _
  · refine Acts.ite (fun _ => ?_) (fun _ => ?_)
    · refine Acts.trans ?_ (Acts.set_cphKeys _ _) rfl rfl
      exact Acts.refl _ _ _
    · refine Acts.trans ?_ (acts_count _ _ _ _ _) rfl rfl
      refine Acts.trans ?_ (Acts.set_cphKeys _ _) rfl rfl
      exact Acts.refl _ _ _

theorem acts_fetchDesc (s : State) (k : Nat) (r : Nat) (ix : Nat) :
    Acts 633825300393211776869312086486 237684563137550226842374373824 s (State.fetchDesc s k r ix) := by
  unfold State.fetchDesc
  extract_lets a1 a2 a3 a4
  clear_value a1
  clear_value a2
  clear_value a3
  clear_value a4
  split
  · exact Acts.refl _ _ _
  · refine Acts.trans ?_ (acts_jobDone _ _ _ _ _ _ _) rfl rfl
    refine Acts.trans ?_ (acts_setJobs _ _ _ _) rfl rfl
    refine Acts.trans ?_ (acts_cphRead_eq (by assumption)) rfl rfl
    exact Acts.refl _ _ _
  · extract_lets a5 a6 a7
    clear_value a5
    clear_value a6
    have ha7 : Acts 633825300393211776869312086486 237684563137550226842374373824 s a7 := by
      dsimp only [a7]
      refine Acts.trans ?_ (acts_setJobs _ _ _ _) rfl rfl
      refine Acts.trans ?_ (acts_cphRead_eq (by assumption)) rfl rfl
      exact Acts.refl _ _ _
    clear_value a7
    refine Acts.ite (fun _ => ?_) (fun _ => ?_)
    · refine Acts.trans ?_ (acts_jobDone _ _ _ _ _ _ _) rfl rfl
      with_reducible assumption
    · refine Acts.ite (fun _ => ?_) (fun _ => ?_)
      · refine Acts.trans ?_ (acts_jobDone _ _ _ _ _ _ _) rfl rfl
        with_reducible assumption
      · refine Acts.ite (fun _ => ?_) (fun _ => ?_)
        · refine Acts.trans ?_ (acts_jobDone _ _ _ _ _ _ _) rfl rfl
          with_reducible assumption
        · refine Acts.ite (fun _ => ?_) (fun _ => ?_)
          · refine Acts.trans ?_ (acts_jobDone _ _ _ _ _ _ _) rfl rfl
            with_reducible assumption
          · refine Acts.trans ?_ (acts_cphCounts _ _) rfl rfl
            refine Acts.trans ?_ (acts_keyCache _ _ _ _) rfl rfl
            refine Acts.trans ?_ (acts_keyCache _ _ _ _) rfl rfl
            with_reducible assumption

theorem acts_execMlDsa65Verify (k : Nat) (r : Nat) (ix : Nat) (s : State) :
    ActsR 633825300393139719275282547158 237684563137550226842374373824 s (execMlDsa65Verify k r ix s) := by
  unfold execMlDsa65Verify
  refine ActsR.next ?_
  refine Acts.trans ?_ (acts_verifyJob _ _ _ _ _) rfl rfl
  exact Acts.refl _ _ _

theorem acts_signJob (s : State) (k : Nat) (r : Nat) (ix : Nat) (op : Nat) (fresh : Bool) :
    Acts 633825300393139719275282547158 237684563137550226842374373824 s (State.signJob s k r ix op fresh) := by
  unfold State.signJob
  refine Acts.trans ?_ (acts_runJob (L := 633825300393139719275282547158) (R := 237684563137550226842374373824) _ _ _ _ _ ?_ rfl rfl) rfl rfl
  · exact Acts.refl _ _ _
  · intro t1
    intro t2
    extract_lets a3
    clear_value a3
    refine acts_roomFor ?_ ?_
    · refine Acts.trans ?_ (acts_withSrc (L := 633825300393139719275282547158) (R := 237684563137550226842374373824) _ _ _ _ ?_ rfl rfl) rfl rfl
      · exact Acts.refl _ _ _
      · intro t4
        intro t5
        extract_lets a6
        clear_value (ea6 : a6 = _)
        have ha6 : Acts 633825300393139719275282547158 237684563137550226842374373824 t4 a6.2 := by
          rw [ea6]
          clear ea6
          refine Acts.ite2 (fun _ => ?_) (fun _ => ?_)
          · refine Acts.trans ?_ (acts_nonce _) rfl rfl
            exact Acts.refl _ _ _
          · exact Acts.refl _ _ _
        clear ea6
        with_reducible assumption
    · exact Acts.refl _ _ _

theorem acts_random (s : State) (n : Nat) :
    Acts 2 0 s (State.random s n).2 := by
  unfold State.random
  extract_lets a1
  clear_value a1
  dsimp only
  refine Acts.trans ?_ (Acts.set_free _ _) rfl rfl
  exact Acts.refl _ _ _
theorem acts_random_eq {s : State} {n : Nat} {x} {t : State} (h : (State.random s n) = (x, t)) : Acts 2 0 s t := by
  have := acts_random s n; rw [h] at this; exact this

theorem acts_execRandom (k : Nat) (r : Nat) (ix : Nat) (s : State) :
    ActsR 633825300393139719275282547158 237684563137550226842374373824 s (execRandom k r ix s) := by
  unfold execRandom
  refine ActsR.next ?_
  refine Acts.trans ?_ (acts_runJob (L := 633825300393139719275282547158) (R := 237684563137550226842374373824) _ _ _ _ _ ?_ rfl rfl) rfl rfl
  · exact Acts.refl _ _ _
  · intro t1
    intro t2
    refine Acts.ite2 (fun _ => ?_) (fun _ => ?_)
    · exact Acts.refl _ _ _
    · extract_lets a3
      clear_value (ea3 : a3 = _)
      have ha3 : Acts 633825300393139719275282547158 237684563137550226842374373824 t1 a3.2 := by
        rw [ea3]
        clear ea3
        refine Acts.trans ?_ (acts_random _ _) rfl rfl
        exact Acts.refl _ _ _
      clear ea3
      with_reducible assumption

theorem acts_execPinTranslate (k : Nat) (r : Nat) (ix : Nat) (s : State) :
    ActsR 633825300393139719275282547158 237684563137550226842374373824 s (execPinTranslate k r ix s) := by
  unfold execPinTranslate
  refine ActsR.next ?_
  refine Acts.trans ?_ (acts_runJob (L := 633825300393139719275282547158) (R := 237684563137550226842374373824) _ _ _ _ _ ?_ rfl rfl) rfl rfl
  · exact Acts.refl _ _ _
  · intro t1
    intro t2
    refine Acts.trans ?_ (acts_pinJob _ _ _ _ _) rfl rfl
    exact Acts.refl _ _ _

theorem acts_execDukptMacVerify (k : Nat) (r : Nat) (ix : Nat) (s : State) :
    ActsR 633825300393139719275282547158 237684563137550226842374373824 s (execDukptMacVerify k r ix s) := by
  unfold execDukptMacVerify
  refine ActsR.next ?_
  refine Acts.trans ?_ (acts_runJob (L := 633825300393139719275282547158) (R := 237684563137550226842374373824) _ _ _ _ _ ?_ rfl rfl) rfl rfl
  · exact Acts.refl _ _ _
  · intro t1
    intro t2
    extract_lets a3 a4 a5
    clear_value a3
    clear_value a4
    clear_value a5
    refine Acts.ite2 (fun _ => ?_) (fun _ => ?_)
    · exact Acts.refl _ _ _
    · refine Acts.ite2 (fun _ => ?_) (fun _ => ?_)
      · exact Acts.refl _ _ _
      · refine Acts.trans ?_ (acts_withAux (L := 633825300393139719275282547158) (R := 237684563137550226842374373824) _ _ _ _ ?_ rfl rfl) rfl rfl
        · exact Acts.refl _ _ _
        · intro t6
          intro t7
          refine Acts.trans ?_ (acts_withSrc (L := 633825300393139719275282547158) (R := 237684563137550226842374373824) _ _ _ _ ?_ rfl rfl) rfl rfl
          · exact Acts.refl _ _ _
          · intro t8
            intro t9
            exact Acts.refl _ _ _

theorem acts_checkJob (s : State) (k : Nat) (r : Nat) (ix : Nat) (op : Nat) (n : Nat) (mac : Job → List Byte → List Byte) :
    Acts 633825300393139719275282547158 237684563137550226842374373824 s (State.checkJob s k r ix op n mac) := by
  unfold State.checkJob
  refine Acts.trans ?_ (acts_runJob (L := 633825300393139719275282547158) (R := 237684563137550226842374373824) _ _ _ _ _ ?_ rfl rfl) rfl rfl
  · exact Acts.refl _ _ _
  · intro t1
    intro t2
    refine Acts.ite2 (fun _ => ?_) (fun _ => ?_)
    · exact Acts.refl _ _ _
    · refine Acts.trans ?_ (acts_withAux (L := 633825300393139719275282547158) (R := 237684563137550226842374373824) _ _ _ _ ?_ rfl rfl) rfl rfl
      · exact Acts.refl _ _ _
      · intro t3
        intro t4
        refine Acts.trans ?_ (acts_withSrc (L := 633825300393139719275282547158) (R := 237684563137550226842374373824) _ _ _ _ ?_ rfl rfl) rfl rfl
        · exact Acts.refl _ _ _
        · intro t5
          intro t6
          exact Acts.refl _ _ _

theorem acts_execAesCmacVerify (k : Nat) (r : Nat) (ix : Nat) (s : State) :
    ActsR 633825300393139719275282547158 237684563137550226842374373824 s (execAesCmacVerify k r ix s) := by
  unfold execAesCmacVerify
  refine ActsR.next ?_
  refine Acts.trans ?_ (acts_checkJob _ _ _ _ _ _ _) rfl rfl
  exact Acts.refl _ _ _

theorem acts_execRsaSign (k : Nat) (r : Nat) (ix : Nat) (s : State) :
    ActsR 633825300393139719275282547158 237684563137550226842374373824 s (execRsaSign k r ix s) := by
  unfold execRsaSign
  refine ActsR.next ?_
  refine Acts.trans ?_ (acts_signJob _ _ _ _ _ _) rfl rfl
  exact Acts.refl _ _ _

theorem acts_execEcdsaSign (k : Nat) (r : Nat) (ix : Nat) (s : State) :
    ActsR 633825300393139719275282547158 237684563137550226842374373824 s (execEcdsaSign k r ix s) := by
  unfold execEcdsaSign
  refine ActsR.next ?_
  refine Acts.trans ?_ (acts_signJob _ _ _ _ _ _) rfl rfl
  exact Acts.refl _ _ _

theorem acts_execDescriptorFetch (k : Nat) (s : State) :
    ActsR 633825300393247805666331050454 237684563137550226842374373824 s (execDescriptorFetch k s) := by
  unfold execDescriptorFetch
  refine ActsR.next ?_
  refine Acts.ite (fun _ => ?_) (fun _ => ?_)
  · exact Acts.refl _ _ _
  · extract_lets a1
    clear_value a1
    split
    · exact Acts.refl _ _ _
    · split
      · exact Acts.refl _ _ _
      · extract_lets a2
        have ha2 : Acts 633825300393247805666331050454 237684563137550226842374373824 s a2 := by
          dsimp only [a2]
          refine Acts.trans ?_ (acts_fetchDesc _ _ _ _) rfl rfl
          exact Acts.refl _ _ _
        clear_value a2
        refine Acts.ite (fun _ => ?_) (fun _ => ?_)
        · exact Acts.refl _ _ _
        · refine Acts.trans ?_ (Acts.set_cphTurn _ _) rfl rfl
          with_reducible assumption

theorem acts_execEd25519Sign (k : Nat) (r : Nat) (ix : Nat) (s : State) :
    ActsR 633825300393139719275282547158 237684563137550226842374373824 s (execEd25519Sign k r ix s) := by
  unfold execEd25519Sign
  refine ActsR.next ?_
  refine Acts.trans ?_ (acts_signJob _ _ _ _ _ _) rfl rfl
  exact Acts.refl _ _ _

theorem acts_execHmacVerify (k : Nat) (r : Nat) (ix : Nat) (s : State) :
    ActsR 633825300393139719275282547158 237684563137550226842374373824 s (execHmacVerify k r ix s) := by
  unfold execHmacVerify
  refine ActsR.next ?_
  refine Acts.trans ?_ (acts_checkJob _ _ _ _ _ _ _) rfl rfl
  exact Acts.refl _ _ _

theorem acts_execEcdsaVerify (k : Nat) (r : Nat) (ix : Nat) (s : State) :
    ActsR 633825300393139719275282547158 237684563137550226842374373824 s (execEcdsaVerify k r ix s) := by
  unfold execEcdsaVerify
  refine ActsR.next ?_
  refine Acts.trans ?_ (acts_verifyJob _ _ _ _ _) rfl rfl
  exact Acts.refl _ _ _

theorem acts_execAesDecrypt (k : Nat) (r : Nat) (ix : Nat) (s : State) :
    ActsR 633825300393139719275282547158 237684563137550226842374373824 s (execAesDecrypt k r ix s) := by
  unfold execAesDecrypt
  refine ActsR.next ?_
  refine Acts.trans ?_ (acts_runJob (L := 633825300393139719275282547158) (R := 237684563137550226842374373824) _ _ _ _ _ ?_ rfl rfl) rfl rfl
  · exact Acts.refl _ _ _
  · intro t1
    intro t2
    extract_lets a3 a4
    clear_value a3
    clear_value a4
    refine Acts.ite2 (fun _ => ?_) (fun _ => ?_)
    · exact Acts.refl _ _ _
    · refine Acts.ite2 (fun _ => ?_) (fun _ => ?_)
      · refine acts_roomFor ?_ ?_
        · refine Acts.trans ?_ (acts_withAux (L := 633825300393139719275282547158) (R := 237684563137550226842374373824) _ _ _ _ ?_ rfl rfl) rfl rfl
          · exact Acts.refl _ _ _
          · intro t5
            intro t6
            refine Acts.trans ?_ (acts_withSrc (L := 633825300393139719275282547158) (R := 237684563137550226842374373824) _ _ _ _ ?_ rfl rfl) rfl rfl
            · exact Acts.refl _ _ _
            · intro t7
              intro t8
              extract_lets a9
              clear_value a9
              refine Acts.ite2 (fun _ => ?_) (fun _ => ?_)
              · exact Acts.refl _ _ _
              · exact Acts.refl _ _ _
        · exact Acts.refl _ _ _
      · refine acts_roomFor ?_ ?_
        · refine Acts.trans ?_ (acts_withSrc (L := 633825300393139719275282547158) (R := 237684563137550226842374373824) _ _ _ _ ?_ rfl rfl) rfl rfl
          · exact Acts.refl _ _ _
          · intro t10
            intro t11
            exact Acts.refl _ _ _
        · exact Acts.refl _ _ _

theorem acts_execRetailMacVerify (k : Nat) (r : Nat) (ix : Nat) (s : State) :
    ActsR 633825300393139719275282547158 237684563137550226842374373824 s (execRetailMacVerify k r ix s) := by
  unfold execRetailMacVerify
  refine ActsR.next ?_
  refine Acts.trans ?_ (acts_checkJob _ _ _ _ _ _ _) rfl rfl
  exact Acts.refl _ _ _

theorem acts_execMlDsa65Sign (k : Nat) (r : Nat) (ix : Nat) (s : State) :
    ActsR 633825300393139719275282547158 237684563137550226842374373824 s (execMlDsa65Sign k r ix s) := by
  unfold execMlDsa65Sign
  refine ActsR.next ?_
  refine Acts.trans ?_ (acts_signJob _ _ _ _ _ _) rfl rfl
  exact Acts.refl _ _ _

theorem acts_execRsaVerify (k : Nat) (r : Nat) (ix : Nat) (s : State) :
    ActsR 633825300393139719275282547158 237684563137550226842374373824 s (execRsaVerify k r ix s) := by
  unfold execRsaVerify
  refine ActsR.next ?_
  refine Acts.trans ?_ (acts_verifyJob _ _ _ _ _) rfl rfl
  exact Acts.refl _ _ _

theorem acts_execTdesDecrypt (k : Nat) (r : Nat) (ix : Nat) (s : State) :
    ActsR 633825300393139719275282547158 237684563137550226842374373824 s (execTdesDecrypt k r ix s) := by
  unfold execTdesDecrypt
  refine ActsR.next ?_
  refine Acts.trans ?_ (acts_tdesJob _ _ _ _ _) rfl rfl
  exact Acts.refl _ _ _

theorem acts_execCryptogramVerify (k : Nat) (r : Nat) (ix : Nat) (s : State) :
    ActsR 633825300393139719275282547158 237684563137550226842374373824 s (execCryptogramVerify k r ix s) := by
  unfold execCryptogramVerify
  refine ActsR.next ?_
  refine Acts.trans ?_ (acts_runJob (L := 633825300393139719275282547158) (R := 237684563137550226842374373824) _ _ _ _ _ ?_ rfl rfl) rfl rfl
  · exact Acts.refl _ _ _
  · intro t1
    intro t2
    extract_lets a3 a4
    clear_value a3
    clear_value a4
    refine Acts.ite2 (fun _ => ?_) (fun _ => ?_)
    · exact Acts.refl _ _ _
    · refine acts_roomFor ?_ ?_
      · refine Acts.trans ?_ (acts_withAux (L := 633825300393139719275282547158) (R := 237684563137550226842374373824) _ _ _ _ ?_ rfl rfl) rfl rfl
        · exact Acts.refl _ _ _
        · intro t5
          intro t6
          refine Acts.trans ?_ (acts_withSrc (L := 633825300393139719275282547158) (R := 237684563137550226842374373824) _ _ _ _ ?_ rfl rfl) rfl rfl
          · exact Acts.refl _ _ _
          · intro t7
            intro t8
            exact Acts.refl _ _ _
      · exact Acts.refl _ _ _

theorem acts_cphResume (s : State) (k : Nat) :
    Acts 18014398517870608 36893488147419103232 s (State.cphResume s k) := by
  unfold State.cphResume
  refine Acts.foldl (L2 := 18014398517870608) (R2 := 36893488147419103232) _ ?_ (fun t1 x2 => ?_) rfl rfl
  · exact Acts.refl _ _ _
  · extract_lets a3
    have ha3 : Acts 18014398517870608 36893488147419103232 t1 a3 := by
      dsimp only [a3]
      refine Acts.foldl (L2 := 18014398517870608) (R2 := 36893488147419103232) _ ?_ (fun t4 x5 => ?_) rfl rfl
      · exact Acts.refl _ _ _
      · refine Acts.trans ?_ (acts_unwait _ _ _ _) rfl rfl
        exact Acts.refl _ _ _
    clear_value a3
    refine Acts.trans ?_ (acts_setJobs _ _ _ _) rfl rfl
    with_reducible assumption

theorem acts_execCipherSelftest (k : Nat) (failed : Nat) (s : State) :
    ActsR 633825300356246231127729226198 237684563137550226842374373824 s (execCipherSelftest k failed s) := by
  unfold execCipherSelftest
  refine ActsR.next ?_
  refine Acts.ite (fun _ => ?_) (fun _ => ?_)
  · exact Acts.refl _ _ _
  · extract_lets a1
    have ha1 : Acts 633825300356246231127729226198 237684563137550226842374373824 s a1 := by
      dsimp only [a1]
      refine Acts.trans ?_ (acts_cphResume _ _) rfl rfl
      exact Acts.refl _ _ _
    clear_value a1
    refine Acts.ite (fun _ => ?_) (fun _ => ?_)
    · refine Acts.trans ?_ (acts_setFld _ _ _ _) rfl rfl
      refine Acts.trans ?_ (acts_setFld _ _ _ _) rfl rfl
      with_reducible assumption
    · refine Acts.trans ?_ (acts_raise _ _) rfl rfl
      refine Acts.trans ?_ (acts_logErr _ _ _ _ _ _) rfl rfl
      refine Acts.trans ?_ (acts_setFld _ _ _ _) rfl rfl
      refine Acts.trans ?_ (acts_setFld _ _ _ _) rfl rfl
      with_reducible assumption

theorem acts_cphGate (s : State) (k : Nat) :
    Acts 72057594037927952 36893488147419103232 s (State.cphGate s k) := by
  unfold State.cphGate
  refine Acts.trans ?_ (acts_cphCounts _ _) rfl rfl
  refine Acts.trans ?_ (acts_setFld _ _ _ _) rfl rfl
  refine Acts.trans ?_ (Acts.set_cphKeys _ _) rfl rfl
  exact Acts.refl _ _ _

theorem acts_execAesEncrypt (k : Nat) (r : Nat) (ix : Nat) (s : State) :
    ActsR 633825300393139719275282547158 237684563137550226842374373824 s (execAesEncrypt k r ix s) := by
  unfold execAesEncrypt
  refine ActsR.next ?_
  refine Acts.trans ?_ (acts_runJob (L := 633825300393139719275282547158) (R := 237684563137550226842374373824) _ _ _ _ _ ?_ rfl rfl) rfl rfl
  · exact Acts.refl _ _ _
  · intro t1
    intro t2
    extract_lets a3 a4
    clear_value a3
    clear_value a4
    refine Acts.ite2 (fun _ => ?_) (fun _ => ?_)
    · exact Acts.refl _ _ _
    · refine Acts.ite2 (fun _ => ?_) (fun _ => ?_)
      · refine acts_roomFor ?_ ?_
        · refine Acts.trans ?_ (acts_withAux (L := 633825300393139719275282547158) (R := 237684563137550226842374373824) _ _ _ _ ?_ rfl rfl) rfl rfl
          · exact Acts.refl _ _ _
          · intro t5
            intro t6
            refine Acts.trans ?_ (acts_withSrc (L := 633825300393139719275282547158) (R := 237684563137550226842374373824) _ _ _ _ ?_ rfl rfl) rfl rfl
            · exact Acts.refl _ _ _
            · intro t7
              intro t8
              exact Acts.refl _ _ _
        · exact Acts.refl _ _ _
      · refine acts_roomFor ?_ ?_
        · refine Acts.trans ?_ (acts_withSrc (L := 633825300393139719275282547158) (R := 237684563137550226842374373824) _ _ _ _ ?_ rfl rfl) rfl rfl
          · exact Acts.refl _ _ _
          · intro t9
            intro t10
            exact Acts.refl _ _ _
        · exact Acts.refl _ _ _

theorem acts_cphPartReset (s : State) (part : Nat) :
    Acts 18014398517870608 184467440737095516160 s (State.cphPartReset s part) := by
  unfold State.cphPartReset
  refine Acts.foldl (L2 := 18014398517870608) (R2 := 184467440737095516160) _ ?_ (fun t1 x2 => ?_) rfl rfl
  · exact Acts.refl _ _ _
  · refine Acts.ite (fun _ => ?_) (fun _ => ?_)
    · extract_lets a3
      have ha3 : Acts 18014398517870608 184467440737095516160 t1 a3 := by
        dsimp only [a3]
        refine Acts.foldl (L2 := 18014398517870608) (R2 := 184467440737095516160) _ ?_ (fun t4 x5 => ?_) rfl rfl
        · exact Acts.refl _ _ _
        · refine Acts.trans ?_ (acts_unwait _ _ _ _) rfl rfl
          exact Acts.refl _ _ _
      clear_value a3
      refine Acts.trans ?_ (acts_setFld _ _ _ _) rfl rfl
      refine Acts.trans ?_ (acts_setJobs _ _ _ _) rfl rfl
      with_reducible assumption
    · exact Acts.refl _ _ _

end Sys2Proof.Machine
end

