-- ==== Sys2Proof/Laws/ResetActs.lean ====
section
/-! SUPPORT. What each operation and each command of Reset.lean may touch: `acts_<name>` bounds the fields and the registers that
`<name>` can change (see Acts.lean). -/

namespace Sys2Proof.Machine

open Sys2Proof

theorem acts_endSessions (s : State) :
    Acts 16 2535301200456458802993406410752 s (State.endSessions s) := by
  unfold State.endSessions
  refine Acts.foldl (L2 := 16) (R2 := 2535301200456458802993406410752) _ ?_ (fun t1 x2 => ?_) rfl rfl
  · exact Acts.refl _ _ _
  · extract_lets a3
    have ha3 : Acts 16 2535301200456458802993406410752 t1 a3 := by
      dsimp only [a3]
      refine Acts.trans ?_ (acts_setFld _ _ _ _) rfl rfl
      refine Acts.trans ?_ (acts_setFld _ _ _ _) rfl rfl
      refine Acts.trans ?_ (acts_setFld _ _ _ _) rfl rfl
      exact Acts.refl _ _ _
    clear_value a3
    refine Acts.ite (fun _ => ?_) (fun _ => ?_)
    · refine Acts.trans ?_ (acts_setFld _ _ _ _) rfl rfl
      with_reducible assumption
    · with_reducible assumption

theorem acts_cleared (s : State) (powerOn : Bool) : Acts 40485346578206435030045527375440 680564733841876926926749214863536422911 s (s.cleared powerOn) where
  pending _ := rfl
  free _ := rfl
  stamp _ := rfl
  dtime _ := rfl
  regs h := by cases h
  rsp _ := rfl
  cores h := by cases h
  mem _ := rfl
  memPoison _ := rfl
  chans h := by cases h
  mcRsp h := by cases h
  opt h := by cases h
  bootSrc h := by cases h
  recovSel h := by cases h
  l3 h := by cases h
  depvb h := by cases h
  sieve h := by cases h
  trk h := by cases h
  fair h := by cases h
  slots h := by cases h
  agentReqs h := by cases h
  ghosts h := by cases h
  mesh h := by cases h
  txns h := by cases h
  linkStopped h := by cases h
  lidHeld h := by cases h
  pfw _ := rfl
  wtCache h := by cases h
  hartPart h := by cases h
  pairs h := by cases h
  spn h := by cases h
  spnChanged h := by cases h
  jrnRes h := by cases h
  jrnRecs h := by cases h
  pubs h := by cases h
  pubFlits h := by cases h
  repl h := by cases h
  ports h := by cases h
  fabIn h := by cases h
  fabRem h := by cases h
  fabDropped h := by cases h
  remote h := by cases h
  sqNext h := by cases h
  sqDone h := by cases h
  slew h := by cases h
  slewAcc h := by cases h
  pcieTags h := by cases h
  pcieOut h := by cases h
  pcieCpl h := by cases h
  portReset h := by cases h
  pcieLate h := by cases h
  msiLost h := by cases h
  ctxCache h := by cases h
  ioTlb h := by cases h
  jobs h := by cases h
  cphTurn h := by cases h
  cphKeys h := by cases h
  keys h := by cases h
  keyNext h := by cases h
  keyFreed h := by cases h
  srcHigh h := by cases h
  pend h := by cases h
  inServ h := by cases h
  nmiTaken h := by cases h
  records h := by cases h
  limits h := by cases h
  withheld h := by cases h
  errorN h := by cases h
  rstLevel _ := rfl
  relStep h := by cases h
  railOut _ := rfl
  pwrgood _ := rfl
  resetInLow _ := rfl
  prochotLow _ := rfl
  thermtrip _ := rfl
  readyPin h := by cases h
  unlocked _ := rfl
  regFailed _ := rfl
  pGoal h := by cases h
  pStop h := by cases h
  pkgIdle h := by cases h
  rtcAcc _ := rfl
  partStep h := by cases h
  fuses _ := rfl
  rcv h := by cases h
  bootStep h := by cases h
  flash _ := rfl
  ksCopy _ := rfl
  kek h := by cases h
  ksErased h := by cases h
  fmKeys h := by cases h
  boot h := by cases h
  spRsp h := by cases h
  evidence h := by cases h
  mac h := by cases h
  pages h := by cases h
  spd _ := rfl
  traceBuf h := by cases h
  snaps h := by cases h
  cnt h := by cases h
  ldl h := by cases h
  dbg h := by cases h
  lsio h := by cases h
  wdogNs h := by cases h
  cycAcc h := by cases h
  reg r i h := by
    have e : (680564733841876926926749214863536422911 : Nat) = 2 ^ 129 - 1 := rfl
    rw [e, Nat.testBit_two_pow_sub_one] at h
    exact absurd r.num_lt (by simpa using h)
  memOk h := h
  fuseUp _ h := h

theorem acts_enterReset (s : State) (powerOn : Bool) (cause : Nat) :
    Acts 40485346578501582935224880201296 680564733841876926926749214863536422911 s (State.enterReset s powerOn cause) := by
  unfold State.enterReset
  extract_lets a1 a2 a3 a4 a5 a6 a7 a8 a9
  clear_value a1
  clear_value a2
  have ha3 : Acts 40485346578501582935224880201296 680564733841876926926749214863536422911 s a3 := by
    dsimp only [a3]
    refine Acts.trans ?_ (acts_setFld _ _ _ _) rfl rfl
    refine Acts.trans ?_ (acts_setFld _ _ _ _) rfl rfl
    exact Acts.refl _ _ _
  clear_value a3
  have ha4 : Acts 40485346578501582935224880201296 680564733841876926926749214863536422911 s a4 := by
    dsimp only [a4]
    refine Acts.trans ?_ (acts_incSat _ _ _) rfl rfl
    refine Acts.trans ?_ (acts_setFld _ _ _ _) rfl rfl
    with_reducible assumption
  clear_value a4
  clear_value a5
  clear_value a6
  clear_value a7
  have ha8 : Acts 40485346578501582935224880201296 680564733841876926926749214863536422911 s a8 := by
    dsimp only [a8]
    refine Acts.ite (fun _ => ?_) (fun _ => ?_)
    · with_reducible assumption
    · refine Acts.trans ?_ (Acts.wr _ _ _ _) rfl rfl
      with_reducible assumption
  clear_value a8
  have ha9 : Acts 40485346578501582935224880201296 680564733841876926926749214863536422911 s a9 := by
    dsimp only [a9]
    refine Acts.trans ?_ (acts_cleared _ _) rfl rfl
    refine Acts.trans ?_ (acts_endSessions _) rfl rfl
    with_reducible assumption
  clear_value a9
  refine Acts.ite (fun _ => ?_) (fun _ => ?_)
  · refine Acts.trans ?_ (acts_setFld _ _ _ _) rfl rfl
    exact Acts.refl _ _ _
  · refine Acts.trans ?_ (Acts.set_rstLevel_relStep _ _ _) rfl rfl
    with_reducible assumption

theorem acts_leftAlone (s : State) (i : Nat) (c : Nat) :
    Acts 3327582825601408021942891446352 680564733841876926926749214863536422911 s (State.leftAlone s i c) := by
  unfold State.leftAlone
  extract_lets a1 a2 a3 a4 a5 a6
  clear_value a1
  clear_value a2
  clear_value a3
  clear_value a5
  have ha6 : Acts 3327582825601408021942891446352 680564733841876926926749214863536422911 s a6 := by
    dsimp only [a6]
    refine Acts.ite (fun _ => ?_) (fun _ => ?_)
    · exact Acts.refl _ _ _
    · split
      · refine Acts.trans ?_ (acts_cgAbort _ _ _ _ _) rfl rfl
        refine Acts.trans ?_ (acts_discard _ _) rfl rfl
        exact Acts.refl _ _ _
      · refine Acts.trans ?_ (acts_ivalRestore _ _ _) rfl rfl
        refine Acts.trans ?_ (acts_discard _ _) rfl rfl
        exact Acts.refl _ _ _
  clear_value a6
  refine Acts.ite (fun _ => ?_) (fun _ => ?_)
  · refine Acts.trans ?_ (acts_setPair _ _ _) rfl rfl
    refine Acts.trans ?_ (acts_setFld _ _ _ _) rfl rfl
    exact Acts.refl _ _ _
  · refine Acts.ite (fun _ => ?_) (fun _ => ?_)
    · dsimp only [a4]
      refine Acts.foldl (L2 := 3327582825601408021942891446352) (R2 := 680564733841876926926749214863536422911) _ ?_ (fun t7 x8 => ?_) rfl rfl
      · refine Acts.trans ?_ (acts_resumeTrailer _ _) rfl rfl
        refine Acts.trans ?_ (acts_setCore _ _ _) rfl rfl
        refine Acts.trans ?_ (acts_dissolve _ _) rfl rfl
        exact Acts.refl _ _ _
      · refine Acts.trans ?_ (Acts.wr _ _ _ _) rfl (RegId.inAll _)
        exact Acts.refl _ _ _
    · dsimp only [a4]
      refine Acts.foldl (L2 := 3327582825601408021942891446352) (R2 := 680564733841876926926749214863536422911) _ ?_ (fun t9 x10 => ?_) rfl rfl
      · refine Acts.trans ?_ (acts_dissolve _ _) rfl rfl
        with_reducible assumption
      · refine Acts.trans ?_ (Acts.wr _ _ _ _) rfl (RegId.inAll _)
        exact Acts.refl _ _ _

theorem acts_coreClose (s : State) (c : Nat) :
    Acts 3327582825878109254459927413206 649274791879954110305007013855728 s (State.coreClose s c) := by
  unfold State.coreClose
  extract_lets a1 a2 a3 a4
  clear_value a1
  clear_value a2
  have ha3 : Acts 3327582825878109254459927413206 649274791879954110305007013855728 s a3 := by
    dsimp only [a3]
    refine Acts.trans ?_ (acts_lidExpire _ _ _) rfl rfl
    refine Acts.trans ?_ (acts_lidDrain _ _ _) rfl rfl
    exact Acts.refl _ _ _
  clear_value a3
  have ha4 : Acts 3327582825878109254459927413206 649274791879954110305007013855728 s a4 := by
    dsimp only [a4]
    refine Acts.trans ?_ (acts_closeMark _ _) rfl rfl
    with_reducible assumption
  clear_value a4
  refine Acts.trans ?_ (acts_onCore _ _ _) rfl rfl
  refine Acts.trans ?_ (Acts.set_lidHeld _ _) rfl rfl
  with_reducible assumption

theorem acts_unpair (s : State) (c : Nat) :
    Acts 3347389866469781779308095848918 680564733841876926926749214863536422911 s (State.unpair s c) := by
  unfold State.unpair
  split
  · exact Acts.refl _ _ _
  · extract_lets a1
    have ha1 : Acts 3347389866469781779308095848918 680564733841876926926749214863536422911 s a1 := by
      dsimp only [a1]
      split
      · refine Acts.ite (fun _ => ?_) (fun _ => ?_)
        · exact Acts.refl _ _ _
        · refine Acts.trans ?_ (acts_spareBack _ _ _ _) rfl rfl
          exact Acts.refl _ _ _
      · exact Acts.refl _ _ _
    clear_value a1
    refine Acts.trans ?_ (acts_leftAlone _ _ _) rfl rfl
    with_reducible assumption

theorem acts_coreStop (s : State) (c : Nat) :
    Acts 3347389866469781779308095848918 680564733841876926926749214863536422911 s (State.coreStop s c) := by
  unfold State.coreStop
  extract_lets a1 a2 a3 a4 a5 a6 a7 a8 a9
  have ha1 : Acts 3347389866469781779308095848918 680564733841876926926749214863536422911 s a1 := by
    dsimp only [a1]
    refine Acts.trans ?_ (acts_unpair _ _) rfl rfl
    refine Acts.trans ?_ (acts_abortGroup _ _ _ _ _) rfl rfl
    exact Acts.refl _ _ _
  clear_value a1
  clear_value a2
  clear_value a3
  have ha4 : Acts 3347389866469781779308095848918 680564733841876926926749214863536422911 s a4 := by
    dsimp only [a4]
    refine Acts.trans ?_ (acts_setCore _ _ _) rfl rfl
    with_reducible assumption
  clear_value a4
  have ha5 : Acts 3347389866469781779308095848918 680564733841876926926749214863536422911 s a5 := by
    dsimp only [a5]
    refine Acts.foldl (L2 := 3347389866469781779308095848918) (R2 := 680564733841876926926749214863536422911) _ ?_ (fun t10 x11 => ?_) rfl rfl
    · with_reducible assumption
    · refine Acts.trans ?_ (Acts.wr _ _ _ _) rfl (RegId.inAll _)
      exact Acts.refl _ _ _
  clear_value a5
  have ha6 : Acts 3347389866469781779308095848918 680564733841876926926749214863536422911 s a6 := by
    dsimp only [a6]
    refine Acts.foldl (L2 := 3347389866469781779308095848918) (R2 := 680564733841876926926749214863536422911) _ ?_ (fun t12 x13 => ?_) rfl rfl
    · with_reducible assumption
    · refine Acts.trans ?_ (Acts.wr _ _ _ _) rfl rfl
      exact Acts.refl _ _ _
  clear_value a6
  have ha7 : Acts 3347389866469781779308095848918 680564733841876926926749214863536422911 s a7 := by
    refine Acts.trans ?_ (Acts.set_cnt _ _) rfl rfl
    with_reducible assumption
  clear_value a7
  have ha8 : Acts 3347389866469781779308095848918 680564733841876926926749214863536422911 s a8 := by
    dsimp only [a8]
    refine Acts.foldl (L2 := 3347389866469781779308095848918) (R2 := 680564733841876926926749214863536422911) _ ?_ (fun t14 x15 => ?_) rfl rfl
    · with_reducible assumption
    · refine Acts.trans ?_ (acts_evictL2 _ _ _) rfl rfl
      exact Acts.refl _ _ _
  clear_value a8
  clear_value a9
  refine Acts.ite (fun _ => ?_) (fun _ => ?_)
  · refine Acts.trans ?_ (Acts.wr _ _ _ _) rfl rfl
    with_reducible assumption
  · with_reducible assumption

theorem acts_coreResetStep (s : State) (c : Nat) :
    Acts 3347389866506675338858317595094 680564733841876926926749214863536422911 s (State.coreResetStep s c) := by
  unfold State.coreResetStep
  refine Acts.ite (fun _ => ?_) (fun _ => ?_)
  · exact Acts.refl _ _ _
  · extract_lets a1 a2
    have ha1 : Acts 3347389866506675338858317595094 680564733841876926926749214863536422911 s a1 := by
      dsimp only [a1]
      refine Acts.ite (fun _ => ?_) (fun _ => ?_)
      · refine Acts.trans ?_ (acts_onCore _ _ _) rfl rfl
        exact Acts.refl _ _ _
      · exact Acts.refl _ _ _
    clear_value a1
    have ha2 : Acts 3347389866506675338858317595094 680564733841876926926749214863536422911 s a2 := by
      dsimp only [a2]
      refine Acts.ite (fun _ => ?_) (fun _ => ?_)
      · with_reducible assumption
      · refine Acts.trans ?_ (acts_coreStop _ _) rfl rfl
        with_reducible assumption
    clear_value a2
    refine Acts.ite (fun _ => ?_) (fun _ => ?_)
    · refine Acts.trans ?_ (acts_coreClose _ _) rfl rfl
      with_reducible assumption
    · with_reducible assumption

theorem acts_systemReset (s : State) (cause : Nat) :
    Acts 40485346578501582935224880201296 680564733841876926926749214863536422911 s (State.systemReset s cause) := by
  unfold State.systemReset
  refine Acts.trans ?_ (acts_enterReset _ _ _) rfl rfl
  exact Acts.refl _ _ _

theorem acts_escalate (s : State) (part : Nat) (addr : Nat) :
    Acts 40485346578501582935224880201686 680564733841876926926749214863536422911 s (State.escalate s part addr) := by
  unfold State.escalate
  extract_lets a1
  have ha1 : Acts 40485346578501582935224880201686 680564733841876926926749214863536422911 s a1 := by
    dsimp only [a1]
    refine Acts.trans ?_ (acts_logErr _ _ _ _ _ _) rfl rfl
    exact Acts.refl _ _ _
  clear_value a1
  refine Acts.trans ?_ (acts_systemReset _ _) rfl rfl
  refine Acts.trans ?_ (acts_drawn _) rfl rfl
  with_reducible assumption

theorem acts_evrPartReset (s : State) (part : Nat) :
    Acts 16140901064495857680 24178516392292583494123520 s (State.evrPartReset s part) := by
  unfold State.evrPartReset
  extract_lets a1 a2
  clear_value a1
  have ha2 : Acts 16140901064495857680 24178516392292583494123520 s a2 := by
    refine Acts.trans ?_ (Acts.set_pend_inServ _ _ _) rfl rfl
    exact Acts.refl _ _ _
  clear_value a2
  refine Acts.foldl (L2 := 16140901064495857680) (R2 := 24178516392292583494123520) _ ?_ (fun t3 x4 => ?_) rfl rfl
  · with_reducible assumption
  · refine Acts.ite (fun _ => ?_) (fun _ => ?_)
    · extract_lets a5
      have ha5 : Acts 16140901064495857680 24178516392292583494123520 t3 a5 := by
        refine Acts.trans ?_ (Acts.set_nmiTaken _ _) rfl rfl
        exact Acts.refl _ _ _
      clear_value a5
      refine Acts.foldl (L2 := 16140901064495857680) (R2 := 24178516392292583494123520) _ ?_ (fun t6 x7 => ?_) rfl rfl
      · with_reducible assumption
      · extract_lets a8
        clear_value a8
        refine Acts.trans ?_ (acts_setFld _ _ _ _) rfl rfl
        refine Acts.trans ?_ (Acts.wr _ _ _ _) rfl rfl
        exact Acts.refl _ _ _
    · exact Acts.refl _ _ _

theorem acts_pausePart (s : State) (part : Nat) :
    Acts 1073741840 131072 s (State.pausePart s part) := by
  unfold State.pausePart
  refine Acts.foldl (L2 := 1073741840) (R2 := 131072) _ ?_ (fun t1 x2 => ?_) rfl rfl
  · exact Acts.refl _ _ _
  · refine Acts.ite (fun _ => ?_) (fun _ => ?_)
    · extract_lets a3
      clear_value a3
      refine Acts.trans ?_ (acts_setFld _ _ _ _) rfl rfl
      refine Acts.trans ?_ (acts_setStream _ _ _) rfl rfl
      exact Acts.refl _ _ _
    · exact Acts.refl _ _ _

theorem acts_partStart (s : State) (part : Nat) (cause : Nat) :
    Acts 40485346578501582935224880201686 680564733841876926926749214863536422911 s (State.partStart s part cause) := by
  unfold State.partStart
  refine Acts.ite (fun _ => ?_) (fun _ => ?_)
  · exact Acts.refl _ _ _
  · refine Acts.ite (fun _ => ?_) (fun _ => ?_)
    · refine Acts.trans ?_ (acts_escalate _ _ _) rfl rfl
      exact Acts.refl _ _ _
    · extract_lets a1 a2
      have ha1 : Acts 40485346578501582935224880201686 680564733841876926926749214863536422911 s a1 := by
        dsimp only [a1]
        refine Acts.trans ?_ (acts_incSat _ _ _) rfl rfl
        refine Acts.trans ?_ (acts_setFld _ _ _ _) rfl rfl
        refine Acts.trans ?_ (acts_setFld _ _ _ _) rfl rfl
        exact Acts.refl _ _ _
      clear_value a1
      have ha2 : Acts 40485346578501582935224880201686 680564733841876926926749214863536422911 s a2 := by
        dsimp only [a2]
        refine Acts.trans ?_ (acts_pausePart _ _) rfl rfl
        refine Acts.trans ?_ (acts_evrPartReset _ _) rfl rfl
        with_reducible assumption
      clear_value a2
      refine Acts.trans ?_ (Acts.set_partStep _ _) rfl rfl
      with_reducible assumption

theorem acts_sqPartReset (s : State) (q : Nat) :
    Acts 13743895347216 274877906944 s (State.sqPartReset s q) := by
  unfold State.sqPartReset
  extract_lets a1 a2
  clear_value a1
  have ha2 : Acts 13743895347216 274877906944 s a2 := by
    refine Acts.trans ?_ (Acts.set_fabRem_sqNext_sqDone _ _ _ _) rfl rfl
    exact Acts.refl _ _ _
  clear_value a2
  refine Acts.trans ?_ (acts_setFld _ _ _ _) rfl rfl
  with_reducible assumption

theorem acts_reraise (s : State) (part : Nat) :
    Acts 633825300116420543762397134928 75557863725914323419328 s (State.reraise s part) := by
  unfold State.reraise
  refine Acts.foldl (L2 := 633825300116420543762397134928) (R2 := 75557863725914323419328) _ ?_ (fun t1 x2 => ?_) rfl rfl
  · exact Acts.refl _ _ _
  · refine Acts.ite (fun _ => ?_) (fun _ => ?_)
    · refine Acts.trans ?_ (acts_raise _ _) rfl rfl
      exact Acts.refl _ _ _
    · exact Acts.refl _ _ _

theorem acts_coreRelease (s : State) (c : Nat) :
    Acts 3327582825601408021943193436240 3245185536659825149571873038663904 s (State.coreRelease s c) := by
  unfold State.coreRelease
  extract_lets a1 a2 a3 a4 a5 a6 a7 a8
  clear_value a1
  clear_value a2
  clear_value a3
  clear_value a4
  have ha5 : Acts 3327582825601408021943193436240 3245185536659825149571873038663904 s a5 := by
    dsimp only [a5]
    refine Acts.foldl (L2 := 3327582825601408021943193436240) (R2 := 3245185536659825149571873038663904) _ ?_ (fun t9 x10 => ?_) rfl rfl
    · exact Acts.refl _ _ _
    · refine Acts.trans ?_ (acts_mcWake _ _) rfl rfl
      exact Acts.refl _ _ _
  clear_value a5
  have ha6 : Acts 3327582825601408021943193436240 3245185536659825149571873038663904 s a6 := by
    refine Acts.trans ?_ (Acts.set_lidHeld_hartPart _ _ _) rfl rfl
    with_reducible assumption
  clear_value a6
  have ha7 : Acts 3327582825601408021943193436240 3245185536659825149571873038663904 s a7 := by
    dsimp only [a7]
    refine Acts.trans ?_ (acts_setCore _ _ _) rfl rfl
    refine Acts.trans ?_ (acts_lidOpen _ _ _) rfl rfl
    with_reducible assumption
  clear_value a7
  have ha8 : Acts 3327582825601408021943193436240 3245185536659825149571873038663904 s a8 := by
    dsimp only [a8]
    refine Acts.trans ?_ (Acts.wr _ _ _ _) rfl rfl
    with_reducible assumption
  clear_value a8
  refine Acts.ite (fun _ => ?_) (fun _ => ?_)
  · exact Acts.refl _ _ _
  · refine Acts.ite (fun _ => ?_) (fun _ => ?_)
    · refine Acts.trans ?_ (acts_enterHalt _ _ _ _) rfl rfl
      with_reducible assumption
    · with_reducible assumption

theorem acts_partRelease (s : State) (part : Nat) :
    Acts 3327587661544494153426706481622 3245423221185146874447610832224736 s (State.partRelease s part) := by
  unfold State.partRelease
  extract_lets a1 a2 a3 a4
  clear_value a1
  have ha2 : Acts 3327587661544494153426706481622 3245423221185146874447610832224736 s a2 := by
    dsimp only [a2]
    refine Acts.foldl (L2 := 3327587661544494153426706481622) (R2 := 3245423221185146874447610832224736) _ ?_ (fun t5 x6 => ?_) rfl rfl
    · exact Acts.refl _ _ _
    · split
      · refine Acts.trans ?_ (acts_coreRelease _ _) rfl rfl
        exact Acts.refl _ _ _
      · exact Acts.refl _ _ _
  clear_value a2
  have ha3 : Acts 3327587661544494153426706481622 3245423221185146874447610832224736 s a3 := by
    dsimp only [a3]
    refine Acts.trans ?_ (acts_setFld _ _ _ _) rfl rfl
    with_reducible assumption
  clear_value a3
  have ha4 : Acts 3327587661544494153426706481622 3245423221185146874447610832224736 s a4 := by
    refine Acts.trans ?_ (Acts.set_partStep _ _) rfl rfl
    with_reducible assumption
  clear_value a4
  refine Acts.trans ?_ (acts_logErr _ _ _ _ _ _) rfl rfl
  refine Acts.trans ?_ (acts_reraise _ _) rfl rfl
  with_reducible assumption

theorem acts_fillBuckets (s : State) (part : Nat) :
    Acts 512 0 s (State.fillBuckets s part) := by
  unfold State.fillBuckets
  refine Acts.foldl (L2 := 512) (R2 := 0) _ ?_ (fun t1 x2 => ?_) rfl rfl
  · exact Acts.refl _ _ _
  · extract_lets a3
    clear_value a3
    refine Acts.ite (fun _ => ?_) (fun _ => ?_)
    · exact Acts.refl _ _ _
    · refine Acts.trans ?_ (acts_setChan _ _ _) rfl rfl
      exact Acts.refl _ _ _

end Sys2Proof.Machine
end

