-- ==== Sys2Proof/Laws/WpcActs.lean ====
section
/-! SUPPORT. What each operation and each command of Wpc.lean may touch: `acts_<name>` bounds the fields and the registers that
`<name>` can change (see Acts.lean). -/

namespace Sys2Proof.Machine

open Sys2Proof

theorem acts_execPartitionReset (part : Nat) (s : State) :
    ActsR 3347394702173060237825096663510 680564733841876926926749214863536422911 s (execPartitionReset part s) := by
  unfold execPartitionReset
  refine ActsR.next ?_
  split
  · extract_lets a1
    have ha1 : Acts 3347394702173060237825096663510 680564733841876926926749214863536422911 s a1 := by
      dsimp only [a1]
      refine Acts.foldl (L2 := 3347394702173060237825096663510) (R2 := 680564733841876926926749214863536422911) _ ?_ (fun t2 x3 => ?_) rfl rfl
      · exact Acts.refl _ _ _
      · refine Acts.trans ?_ (acts_coreStop _ _) rfl rfl
        exact Acts.refl _ _ _
    clear_value a1
    refine Acts.trans ?_ (Acts.set_partStep _ _) rfl rfl
    with_reducible assumption
  · refine Acts.ite (fun _ => ?_) (fun _ => ?_)
    · exact Acts.refl _ _ _
    · refine Acts.ite (fun _ => ?_) (fun _ => ?_)
      · refine Acts.trans ?_ (acts_reraise _ _) rfl rfl
        refine Acts.trans ?_ (acts_setFld _ _ _ _) rfl rfl
        refine Acts.trans ?_ (Acts.set_partStep _ _) rfl rfl
        exact Acts.refl _ _ _
      · refine Acts.trans ?_ (acts_partRelease _ _) rfl rfl
        exact Acts.refl _ _ _
  · exact Acts.refl _ _ _

theorem acts_execLock (ag : Agent) (w : W) (s : State) :
    ActsR 3169126500849580507870049452534 237684564281248359412366574016 s (execLock ag w s) := by
  unfold execLock
  refine ActsR.next ?_
  refine Acts.trans ?_ (acts_onWrite (L := 3169126500849580507870049452534) (R := 237684564281248359412366574016) _ _ _ _ _ ?_ rfl rfl) rfl rfl
  · exact Acts.refl _ _ _
  · intro t1
    exact Acts.refl _ _ _

theorem acts_partCtlWrite (s : State) (ag : Agent) (part : Nat) (w : W) :
    Acts 40485346578501582935224880201718 680564733841876926926749214863536422911 s (State.partCtlWrite s ag part w) := by
  unfold State.partCtlWrite
  refine Acts.ite (fun _ => ?_) (fun _ => ?_)
  · exact Acts.refl _ _ _
  · refine Acts.trans ?_ (acts_onWrite (L := 40485346578501582935224880201718) (R := 680564733841876926926749214863536422911) _ _ _ _ _ ?_ rfl rfl) rfl rfl
    · exact Acts.refl _ _ _
    · intro t1
      refine Acts.ite (fun _ => ?_) (fun _ => ?_)
      · refine Acts.trans ?_ (acts_partStart _ _ _) rfl rfl
        exact Acts.refl _ _ _
      · refine Acts.ite (fun _ => ?_) (fun _ => ?_)
        · refine Acts.trans ?_ (acts_partRelease _ _) rfl rfl
          exact Acts.refl _ _ _
        · exact Acts.refl _ _ _

theorem acts_execReset (ag : Agent) (part : Nat) (w : W) (s : State) :
    ActsR 40485346578501582935224880201718 680564733841876926926749214863536422911 s (execReset ag part w s) := by
  unfold execReset
  refine ActsR.next ?_
  refine Acts.trans ?_ (acts_partCtlWrite _ _ _ _) rfl rfl
  exact Acts.refl _ _ _

theorem acts_execWcall (c : Nat) (insn : W) (s : State) :
    ActsR 3327582825601408021942891446352 3245185536660415427367833234833600 s (execWcall c insn s) := by
  unfold execWcall
  refine ActsR.next ?_
  refine Acts.trans ?_ (acts_issue (L := 3327582825601408021942891446352) (R := 3245185536660415427367833234833600) _ _ _ ?_ rfl rfl) rfl rfl
  · exact Acts.refl _ _ _
  · intro t1
    refine Acts.ite (fun _ => ?_) (fun _ => ?_)
    · refine Acts.trans ?_ (acts_illegal _ _ _ _) rfl rfl
      exact Acts.refl _ _ _
    · refine Acts.ite (fun _ => ?_) (fun _ => ?_)
      · refine Acts.trans ?_ (acts_illegal _ _ _ _) rfl rfl
        exact Acts.refl _ _ _
      · refine Acts.ite (fun _ => ?_) (fun _ => ?_)
        · refine Acts.trans ?_ (acts_cgAbort _ _ _ _ _) rfl rfl
          exact Acts.refl _ _ _
        · refine Acts.trans ?_ (acts_exception _ _ _ _ _) rfl rfl
          exact Acts.refl _ _ _

theorem acts_execPartitionFlushDone (part : Nat) (s : State) :
    ActsR 3327587661581419814318110786518 649274791880158177411597303677424 s (execPartitionFlushDone part s) := by
  unfold execPartitionFlushDone
  extract_lets a1 a2 a3
  clear_value a1
  have ha2 : Acts 3327587661581419814318110786518 649274791880158177411597303677424 s a2 := by
    dsimp only [a2]
    refine Acts.foldl (L2 := 3327587661581419814318110786518) (R2 := 649274791880158177411597303677424) _ ?_ (fun t4 x5 => ?_) rfl rfl
    · exact Acts.refl _ _ _
    · refine Acts.trans ?_ (acts_coreClose _ _) rfl rfl
      exact Acts.refl _ _ _
  clear_value a2
  have ha3 : Acts 3327587661581419814318110786518 649274791880158177411597303677424 s a3 := by
    dsimp only [a3]
    refine Acts.trans ?_ (acts_sqPartReset _ _) rfl rfl
    refine Acts.trans ?_ (acts_cphPartReset _ _) rfl rfl
    refine Acts.trans ?_ (acts_pciePartReset _ _) rfl rfl
    refine Acts.trans ?_ (acts_fillBuckets _ _) rfl rfl
    with_reducible assumption
  clear_value a3
  refine ActsR.next ?_
  refine Acts.ite (fun _ => ?_) (fun _ => ?_)
  · exact Acts.refl _ _ _
  · refine Acts.trans ?_ (Acts.set_partStep _ _) rfl rfl
    with_reducible assumption

theorem acts_wcallReply (s : State) (c : Nat) (status : Nat) (res : List (Nat × W)) :
    Acts 64 0 s (State.wcallReply s c status res) := by
  unfold State.wcallReply
  refine Acts.trans ?_ (acts_onCore _ _ _) rfl rfl
  exact Acts.refl _ _ _

theorem acts_execWcallVersion (c : Nat) (s : State) :
    ActsR 66 0 s (execWcallVersion c s) := by
  unfold execWcallVersion
  refine ActsR.next ?_
  refine Acts.ite (fun _ => ?_) (fun _ => ?_)
  · exact Acts.refl _ _ _
  · extract_lets a1
    have ha1 : Acts 66 0 s a1 := by
      dsimp only [a1]
      refine Acts.trans ?_ (acts_wcallReply _ _ _ _) rfl rfl
      exact Acts.refl _ _ _
    clear_value a1
    refine Acts.trans ?_ (Acts.set_free _ _) rfl rfl
    with_reducible assumption

theorem acts_execPairUnbind (c : Nat) (s : State) :
    ActsR 633825300114114700748888473680 680564733841876926926749214863536422911 s (execPairUnbind c s) := by
  unfold execPairUnbind
  refine ActsR.next ?_
  refine Acts.ite (fun _ => ?_) (fun _ => ?_)
  · exact Acts.refl _ _ _
  · split
    · refine Acts.ite (fun _ => ?_) (fun _ => ?_)
      · refine Acts.trans ?_ (acts_unbind _ _) rfl rfl
        refine Acts.trans ?_ (acts_wcallReply _ _ _ _) rfl rfl
        exact Acts.refl _ _ _
      · refine Acts.trans ?_ (acts_closeIval _ _) rfl rfl
        exact Acts.refl _ _ _
    · refine Acts.trans ?_ (acts_wcallReply _ _ _ _) rfl rfl
      exact Acts.refl _ _ _

theorem acts_execFlushLimit (part : Nat) (s : State) :
    ActsR 40485346578501582935224880201686 680564733841876926926749214863536422911 s (execFlushLimit part s) := by
  unfold execFlushLimit
  refine ActsR.next ?_
  refine Acts.ite (fun _ => ?_) (fun _ => ?_)
  · refine Acts.trans ?_ (acts_escalate _ _ _) rfl rfl
    exact Acts.refl _ _ _
  · exact Acts.refl _ _ _

theorem acts_execWpcSyncDone (s : State) :
    ActsR 16 2361183241434822606848 s (execWpcSyncDone s) := by
  unfold execWpcSyncDone
  refine ActsR.next ?_
  refine Acts.ite (fun _ => ?_) (fun _ => ?_)
  · exact Acts.refl _ _ _
  · refine Acts.trans ?_ (acts_setFld _ _ _ _) rfl rfl
    refine Acts.trans ?_ (acts_setFld _ _ _ _) rfl rfl
    exact Acts.refl _ _ _

theorem acts_execPairBind (c : Nat) (s : State) :
    ActsR 633825300114114700748888473680 680564733841876926926749214863536422911 s (execPairBind c s) := by
  unfold execPairBind
  refine ActsR.next ?_
  refine Acts.ite (fun _ => ?_) (fun _ => ?_)
  · exact Acts.refl _ _ _
  · extract_lets a1 a2 a3
    clear_value a1
    have ha2 : Acts 633825300114114700748888473680 680564733841876926926749214863536422911 s a2 := by
      dsimp only [a2]
      refine Acts.trans ?_ (acts_setFld _ _ _ _) rfl rfl
      refine Acts.trans ?_ (acts_setFld _ _ _ _) rfl rfl
      exact Acts.refl _ _ _
    clear_value a2
    have ha3 : Acts 633825300114114700748888473680 680564733841876926926749214863536422911 s a3 := by
      dsimp only [a3]
      refine Acts.trans ?_ (acts_wcallReply _ _ _ _) rfl rfl
      with_reducible assumption
    clear_value a3
    refine Acts.ite (fun _ => ?_) (fun _ => ?_)
    · refine Acts.trans ?_ (acts_wcallReply _ _ _ _) rfl rfl
      exact Acts.refl _ _ _
    · refine Acts.ite (fun _ => ?_) (fun _ => ?_)
      · refine Acts.trans ?_ (acts_wcallReply _ _ _ _) rfl rfl
        exact Acts.refl _ _ _
      · refine Acts.trans ?_ (acts_bind _ _ _) rfl rfl
        with_reducible assumption

theorem acts_execPartResetSelf (c : Nat) (s : State) :
    ActsR 40485346578501582935224880201686 680564733841876926926749214863536422911 s (execPartResetSelf c s) := by
  unfold execPartResetSelf
  refine ActsR.next ?_
  refine Acts.ite (fun _ => ?_) (fun _ => ?_)
  · exact Acts.refl _ _ _
  · extract_lets a1
    clear_value a1
    refine Acts.ite (fun _ => ?_) (fun _ => ?_)
    · refine Acts.trans ?_ (acts_wcallReply _ _ _ _) rfl rfl
      exact Acts.refl _ _ _
    · refine Acts.ite (fun _ => ?_) (fun _ => ?_)
      · refine Acts.trans ?_ (acts_wcallReply _ _ _ _) rfl rfl
        exact Acts.refl _ _ _
      · refine Acts.trans ?_ (acts_partStart _ _ _) rfl rfl
        exact Acts.refl _ _ _

theorem acts_dropOwnership (s : State) (lo : Nat) (n : Nat) :
    Acts 9007199388958784 0 s (State.dropOwnership s lo n) := by
  unfold State.dropOwnership
  extract_lets a1 a2 a3
  have ha1 : Acts 9007199388958784 0 s a1 := by
    dsimp only [a1]
    refine Acts.foldl (L2 := 9007199388958784) (R2 := 0) _ ?_ (fun t4 x5 => ?_) rfl rfl
    · exact Acts.refl _ _ _
    · refine Acts.trans ?_ (acts_onCore _ _ _) rfl rfl
      exact Acts.refl _ _ _
  clear_value a1
  clear_value a2
  clear_value a3
  refine Acts.trans ?_ (Acts.set_wtCache_ioTlb _ _ _) rfl rfl
  with_reducible assumption

theorem acts_execWpcSyncGo (ag : Agent) (w : W) (s : State) :
    ActsR 3169126500849589515069438411254 237684565461839980129777877440 s (execWpcSyncGo ag w s) := by
  unfold execWpcSyncGo
  extract_lets a1
  clear_value a1
  refine ActsR.next ?_
  refine Acts.trans ?_ (acts_onWrite (L := 3169126500849589515069438411254) (R := 237684565461839980129777877440) _ _ _ _ _ ?_ rfl rfl) rfl rfl
  · exact Acts.refl _ _ _
  · intro t2
    refine Acts.ite (fun _ => ?_) (fun _ => ?_)
    · exact Acts.refl _ _ _
    · extract_lets a3 a4
      clear_value a3
      clear_value a4
      refine Acts.trans ?_ (acts_setFld _ _ _ _) rfl rfl
      refine Acts.trans ?_ (acts_setFld _ _ _ _) rfl rfl
      refine Acts.trans ?_ (acts_dropOwnership _ _ _) rfl rfl
      exact Acts.refl _ _ _

theorem acts_execRelease (ag : Agent) (part : Nat) (w : W) (s : State) :
    ActsR 40485346578501582935224880201718 680564733841876926926749214863536422911 s (execRelease ag part w s) := by
  unfold execRelease
  refine ActsR.next ?_
  refine Acts.trans ?_ (acts_partCtlWrite _ _ _ _) rfl rfl
  exact Acts.refl _ _ _

end Sys2Proof.Machine
end

