-- ==== Sys2Proof/Laws/EvrActs.lean ====
section
/-! SUPPORT. What each operation and each command of Evr.lean may touch: `acts_<name>` bounds the fields and the registers that
`<name>` can change (see Acts.lean). -/

namespace Sys2Proof.Machine

open Sys2Proof

theorem acts_execMessageInterrupt (hart : Nat) (page : Nat) (prio : Nat) (s : State) :
    ActsR 633825300116420543762397134928 192 s (execMessageInterrupt hart page prio s) := by
  unfold execMessageInterrupt
  refine ActsR.next ?_
  refine Acts.ite (fun _ => ?_) (fun _ => ?_)
  · refine Acts.trans ?_ (acts_message _ _ _ _) rfl rfl
    exact Acts.refl _ _ _
  · exact Acts.refl _ _ _

theorem acts_claim (s : State) (ag : Agent) (h : Nat) (t : Nat) :
    Acts 3486039150911249544262652641782 237684563100656738694955270592 s (State.claim s ag h t) := by
  unfold State.claim
  extract_lets a1 a2 a3
  clear_value a1
  clear_value a2
  clear_value a3
  split
  · split
    · extract_lets a4 a5
      have ha4 : Acts 3486039150911249544262652641782 237684563100656738694955270592 s a4 := by
        refine Acts.trans ?_ (Acts.set_pend _ _) rfl rfl
        exact Acts.refl _ _ _
      clear_value a4
      have ha5 : Acts 3486039150911249544262652641782 237684563100656738694955270592 s a5 := by
        dsimp only [a5]
        refine Acts.ite (fun _ => ?_) (fun _ => ?_)
        · with_reducible assumption
        · refine Acts.trans ?_ (Acts.set_inServ _ _) rfl rfl
          with_reducible assumption
      clear_value a5
      refine Acts.trans ?_ (acts_answer _ _ _ _) rfl rfl
      refine Acts.trans ?_ (acts_snap _ _ _ _) rfl rfl
      with_reducible assumption
    · refine Acts.trans ?_ (acts_answer _ _ _ _) rfl rfl
      refine Acts.trans ?_ (acts_snap _ _ _ _) rfl rfl
      exact Acts.refl _ _ _
  · refine Acts.trans ?_ (acts_refuse _ _ _ _ _) rfl rfl
    exact Acts.refl _ _ _

theorem acts_execEvrTgtClaim (ag : Agent) (h : Nat) (t : Nat) (s : State) :
    ActsR 3486039150911249544262652641782 237684563100656738694955270592 s (execEvrTgtClaim ag h t s) := by
  unfold execEvrTgtClaim
  refine ActsR.next ?_
  refine Acts.ite (fun _ => ?_) (fun _ => ?_)
  · refine Acts.trans ?_ (acts_claim _ _ _ _) rfl rfl
    exact Acts.refl _ _ _
  · exact Acts.refl _ _ _

theorem acts_evrEoi (s : State) (h : Nat) (t : Nat) (ident : Nat) :
    Acts 633825300130255601817679298640 19418370977559981118718144 s (State.evrEoi s h t ident) := by
  unfold State.evrEoi
  extract_lets a1 a2 a3 a4
  clear_value a1
  have ha2 : Acts 633825300130255601817679298640 19418370977559981118718144 s a2 := by
    refine Acts.trans ?_ (Acts.set_inServ _ _) rfl rfl
    exact Acts.refl _ _ _
  clear_value a2
  have ha3 : Acts 633825300130255601817679298640 19418370977559981118718144 s a3 := by
    dsimp only [a3]
    refine Acts.trans ?_ (acts_setFld _ _ _ _) rfl rfl
    with_reducible assumption
  clear_value a3
  have ha4 : Acts 633825300130255601817679298640 19418370977559981118718144 s a4 := by
    dsimp only [a4]
    refine Acts.ite (fun _ => ?_) (fun _ => ?_)
    · refine Acts.trans ?_ (Acts.set_nmiTaken _ _) rfl rfl
      with_reducible assumption
    · with_reducible assumption
  clear_value a4
  refine Acts.ite (fun _ => ?_) (fun _ => ?_)
  · exact Acts.refl _ _ _
  · refine Acts.ite (fun _ => ?_) (fun _ => ?_)
    · refine Acts.trans ?_ (acts_raise _ _) rfl rfl
      with_reducible assumption
    · with_reducible assumption

theorem acts_execEvrTgtEoi (ag : Agent) (h : Nat) (t : Nat) (w : W) (s : State) :
    ActsR 3169126500863415565925331616246 237706323765409802020099981760 s (execEvrTgtEoi ag h t w s) := by
  unfold execEvrTgtEoi
  refine ActsR.next ?_
  refine Acts.trans ?_ (acts_onWrite (L := 3169126500863415565925331616246) (R := 237706323765409802020099981760) _ _ _ _ _ ?_ rfl rfl) rfl rfl
  · exact Acts.refl _ _ _
  · intro t1
    refine Acts.trans ?_ (acts_evrEoi _ _ _ _) rfl rfl
    exact Acts.refl _ _ _

theorem acts_execEvrSrcCfgWrite (ag : Agent) (n : Nat) (w : W) (s : State) :
    ActsR 3169126500849580507870049452534 237684714216384190523602108864 s (execEvrSrcCfgWrite ag n w s) := by
  unfold execEvrSrcCfgWrite
  refine ActsR.next ?_
  refine Acts.trans ?_ (acts_onWrite (L := 3169126500849580507870049452534) (R := 237684714216384190523602108864) _ _ _ _ _ ?_ rfl rfl) rfl rfl
  · exact Acts.refl _ _ _
  · intro t1
    extract_lets a2 a3 a4
    clear_value a2
    clear_value a3
    clear_value a4
    refine Acts.ite (fun _ => ?_) (fun _ => ?_)
    · refine Acts.trans ?_ (Acts.set_pend _ _) rfl rfl
      exact Acts.refl _ _ _
    · refine Acts.ite (fun _ => ?_) (fun _ => ?_)
      · refine Acts.trans ?_ (acts_deliver _ _ _) rfl rfl
        refine Acts.trans ?_ (Acts.set_pend _ _) rfl rfl
        exact Acts.refl _ _ _
      · refine Acts.ite (fun _ => ?_) (fun _ => ?_)
        · refine Acts.trans ?_ (acts_raise _ _) rfl rfl
          exact Acts.refl _ _ _
        · exact Acts.refl _ _ _

theorem acts_setSource (s : State) (src : Nat) (high : Bool) :
    Acts 633825300117573465267003981904 75557863725914323419328 s (State.setSource s src high) := by
  unfold State.setSource
  extract_lets a1 a2
  clear_value a1
  have ha2 : Acts 633825300117573465267003981904 75557863725914323419328 s a2 := by
    refine Acts.trans ?_ (Acts.set_srcHigh _ _) rfl rfl
    exact Acts.refl _ _ _
  clear_value a2
  refine Acts.ite (fun _ => ?_) (fun _ => ?_)
  · refine Acts.ite (fun _ => ?_) (fun _ => ?_)
    · with_reducible assumption
    · refine Acts.trans ?_ (acts_raise _ _) rfl rfl
      with_reducible assumption
  · refine Acts.ite (fun _ => ?_) (fun _ => ?_)
    · refine Acts.trans ?_ (Acts.set_pend _ _) rfl rfl
      with_reducible assumption
    · with_reducible assumption

theorem acts_execSourcePending (src : Nat) (high : Bool) (s : State) :
    ActsR 5704427701030491071253816803408 75557863725914323419328 s (execSourcePending src high s) := by
  unfold execSourcePending
  refine ActsR.next ?_
  refine Acts.ite (fun _ => ?_) (fun _ => ?_)
  · exact Acts.refl _ _ _
  · refine Acts.ite (fun _ => ?_) (fun _ => ?_)
    · extract_lets a1 a2 a3
      clear_value a1
      clear_value a2
      have ha3 : Acts 5704427701030491071253816803408 75557863725914323419328 s a3 := by
        refine Acts.trans ?_ (Acts.set_lsio _ _) rfl rfl
        exact Acts.refl _ _ _
      clear_value a3
      refine Acts.trans ?_ (acts_setSource _ _ _) rfl rfl
      with_reducible assumption
    · refine Acts.trans ?_ (acts_setSource _ _ _) rfl rfl
      exact Acts.refl _ _ _

theorem acts_execNmiEntry (c : Nat) (s : State) :
    ActsR 3327582825610631393979746222160 3245185556003228541201900030132416 s (execNmiEntry c s) := by
  unfold execNmiEntry
  extract_lets a1 a2 a3 a4 a5 a6 a7
  clear_value a1
  have ha2 : Acts 3327582825610631393979746222160 3245185556003228541201900030132416 s a2 := by
    dsimp only [a2]
    split
    · refine Acts.ite (fun _ => ?_) (fun _ => ?_)
      · exact Acts.refl _ _ _
      · refine Acts.trans ?_ (acts_cgAbort _ _ _ _ _) rfl rfl
        exact Acts.refl _ _ _
    · exact Acts.refl _ _ _
  clear_value a2
  clear_value a3
  clear_value a4
  have ha5 : Acts 3327582825610631393979746222160 3245185556003228541201900030132416 s a5 := by
    dsimp only [a5]
    refine Acts.trans ?_ (acts_takeTrap _ _ _ _ _ _) rfl rfl
    refine Acts.trans ?_ (acts_pairLog _ _ _ _) rfl rfl
    refine Acts.trans ?_ (acts_preempt _ _) rfl rfl
    with_reducible assumption
  clear_value a5
  have ha6 : Acts 3327582825610631393979746222160 3245185556003228541201900030132416 s a6 := by
    dsimp only [a6]
    refine Acts.trans ?_ (acts_setFld _ _ _ _) rfl rfl
    with_reducible assumption
  clear_value a6
  have ha7 : Acts 3327582825610631393979746222160 3245185556003228541201900030132416 s a7 := by
    dsimp only [a7]
    refine Acts.ite (fun _ => ?_) (fun _ => ?_)
    · refine Acts.trans ?_ (acts_setFld _ _ _ _) rfl rfl
      with_reducible assumption
    · with_reducible assumption
  clear_value a7
  refine ActsR.next ?_
  split
  · exact Acts.refl _ _ _
  · refine Acts.ite (fun _ => ?_) (fun _ => ?_)
    · exact Acts.refl _ _ _
    · refine Acts.ite (fun _ => ?_) (fun _ => ?_)
      · refine Acts.trans ?_ (Acts.set_nmiTaken _ _) rfl rfl
        with_reducible assumption
      · refine Acts.trans ?_ (acts_closeIval _ _) rfl rfl
        with_reducible assumption

theorem acts_execEvrTgtInject (ag : Agent) (h : Nat) (t : Nat) (w : W) (s : State) :
    ActsR 3169126500849580507870049452534 237694234507213655728352920000 s (execEvrTgtInject ag h t w s) := by
  unfold execEvrTgtInject
  refine ActsR.next ?_
  refine Acts.trans ?_ (acts_onWrite (L := 3169126500849580507870049452534) (R := 237694234507213655728352920000) _ _ _ _ _ ?_ rfl rfl) rfl rfl
  · exact Acts.refl _ _ _
  · intro t1
    refine Acts.trans ?_ (acts_message _ _ _ _) rfl rfl
    exact Acts.refl _ _ _

end Sys2Proof.Machine
end

