-- ==== Sys2Proof/Laws/SpActs.lean ====
section
/-! SUPPORT. What each operation and each command of Sp.lean may touch: `acts_<name>` bounds the fields and the registers that
`<name>` can change (see Acts.lean). -/

namespace Sys2Proof.Machine

open Sys2Proof

theorem Acts.set_fuses (s : State) (n : Nat) : Acts 9671406556917033397649408 0 s { s with fuses := tset false s.fuses n true } where
  fuses h := by cases h
  pending _ := rfl
  free _ := rfl
  stamp _ := rfl
  dtime _ := rfl
  regs _ := rfl
  rsp _ := rfl
  cores _ := rfl
  mem _ := rfl
  memPoison _ := rfl
  chans _ := rfl
  mcRsp _ := rfl
  opt _ := rfl
  bootSrc _ := rfl
  recovSel _ := rfl
  l3 _ := rfl
  depvb _ := rfl
  sieve _ := rfl
  trk _ := rfl
  fair _ := rfl
  slots _ := rfl
  agentReqs _ := rfl
  ghosts _ := rfl
  mesh _ := rfl
  txns _ := rfl
  linkStopped _ := rfl
  lidHeld _ := rfl
  pfw _ := rfl
  wtCache _ := rfl
  hartPart _ := rfl
  pairs _ := rfl
  spn _ := rfl
  spnChanged _ := rfl
  jrnRes _ := rfl
  jrnRecs _ := rfl
  pubs _ := rfl
  pubFlits _ := rfl
  repl _ := rfl
  ports _ := rfl
  fabIn _ := rfl
  fabRem _ := rfl
  fabDropped _ := rfl
  remote _ := rfl
  sqNext _ := rfl
  sqDone _ := rfl
  slew _ := rfl
  slewAcc _ := rfl
  pcieTags _ := rfl
  pcieOut _ := rfl
  pcieCpl _ := rfl
  portReset _ := rfl
  pcieLate _ := rfl
  msiLost _ := rfl
  ctxCache _ := rfl
  ioTlb _ := rfl
  jobs _ := rfl
  cphTurn _ := rfl
  cphKeys _ := rfl
  keys _ := rfl
  keyNext _ := rfl
  keyFreed _ := rfl
  srcHigh _ := rfl
  pend _ := rfl
  inServ _ := rfl
  nmiTaken _ := rfl
  records _ := rfl
  limits _ := rfl
  withheld _ := rfl
  errorN _ := rfl
  rstLevel _ := rfl
  relStep _ := rfl
  railOut _ := rfl
  pwrgood _ := rfl
  resetInLow _ := rfl
  prochotLow _ := rfl
  thermtrip _ := rfl
  readyPin _ := rfl
  unlocked _ := rfl
  regFailed _ := rfl
  pGoal _ := rfl
  pStop _ := rfl
  pkgIdle _ := rfl
  rtcAcc _ := rfl
  partStep _ := rfl
  rcv _ := rfl
  bootStep _ := rfl
  flash _ := rfl
  ksCopy _ := rfl
  kek _ := rfl
  ksErased _ := rfl
  fmKeys _ := rfl
  boot _ := rfl
  spRsp _ := rfl
  evidence _ := rfl
  mac _ := rfl
  pages _ := rfl
  spd _ := rfl
  traceBuf _ := rfl
  snaps _ := rfl
  cnt _ := rfl
  ldl _ := rfl
  dbg _ := rfl
  lsio _ := rfl
  wdogNs _ := rfl
  cycAcc _ := rfl
  reg _ _ _ := rfl
  memOk h := h
  fuseUp m h := by
    show tget false (tset false s.fuses n true) m = true
    rw [tget_tset]
    split
    · rfl
    · exact h

theorem acts_burn (s : State) (bad : List Nat) (n : Nat) : Acts 633834971762785133762609005014 237684563100656738694955270592 s (s.burn bad n) := by
  unfold State.burn
  refine Acts.ite (fun _ => Acts.refl _ _ _) (fun _ => ?_)
  refine Acts.ite (fun _ => ?_) (fun _ => (Acts.set_fuses _ _).mono rfl rfl)
  refine Acts.trans ?_ (acts_raise _ _) rfl rfl
  exact (acts_logErr _ _ _ _ _ _).mono rfl rfl

theorem acts_burnAll (s : State) (bad : List Nat) (ns : List Nat) :
    Acts 633834971762785133762609005014 237684563100656738694955270592 s (State.burnAll s bad ns) := by
  unfold State.burnAll
  refine Acts.foldl (L2 := 633834971762785133762609005014) (R2 := 237684563100656738694955270592) _ ?_ (fun t1 x2 => ?_) rfl rfl
  · exact Acts.refl _ _ _
  · refine Acts.trans ?_ (acts_burn _ _ _) rfl rfl
    exact Acts.refl _ _ _

theorem acts_spCall {L R : Nat} (s : State) (ag : Agent) {f : State → SpRes} (hk : ∀ t, Acts L R t (f t).2.2)
    (hL : 3174078261006722028969645949430 ||| L = L) (hR : 237684563100656738694955270592 ||| R = R) : Acts L R s (s.spCall ag f) := by
  unfold State.spCall
  split
  · exact (acts_refuse _ _ _ _ _).mono (L := 3174078261006722028969645949430) (R := 237684563100656738694955270592) rfl rfl |>.mono hL hR
  · refine Acts.trans (L2 := 3174078261006722028969645949430) (R2 := 237684563100656738694955270592) ?_ ((acts_raise _ _).mono rfl rfl) hL hR
    exact Acts.trans (L2 := 3174078261006722028969645949430) (R2 := 237684563100656738694955270592) (hk _) ((Acts.set_spRsp _ _).mono rfl rfl) hL hR

theorem acts_execKeyInfo (ag : Agent) (h : Nat) (s : State) :
    ActsR 3174078261006722028969645949430 237684563100656738694955270592 s (execKeyInfo ag h s) := by
  unfold execKeyInfo
  refine ActsR.next ?_
  refine Acts.trans ?_ (acts_spCall (L := 3174078261006722028969645949430) (R := 237684563100656738694955270592) _ _ ?_ rfl rfl) rfl rfl
  · exact Acts.refl _ _ _
  · intro t1
    split
    · exact Acts.refl _ _ _
    · exact Acts.refl _ _ _

theorem acts_ksSave (s : State) :
    Acts 154742504910672534362390528 0 s (State.ksSave s) := by
  unfold State.ksSave
  extract_lets a1 a2
  clear_value a1
  clear_value a2
  refine Acts.trans ?_ (Acts.set_ksCopy _ _) rfl rfl
  exact Acts.refl _ _ _

theorem acts_takeHandle_eq {s : State} {x} {t : State} (h : s.takeHandle = some (x, t)) : Acts 864691128455135232 0 s t := by
  unfold State.takeHandle at h
  split at h
  · cases h
    exact (Acts.set_keyNext _ _).mono rfl rfl
  · split at h
    · cases h
      exact (Acts.set_keyFreed _ _).mono rfl rfl
    · cases h

theorem acts_addKey (s : State) (k : Key) :
    Acts 154742505919478850893381632 0 s (State.addKey s k).2.2 := by
  unfold State.addKey
  refine Acts.ite3 (fun _ => ?_) (fun _ => ?_)
  · exact Acts.refl _ _ _
  · refine Acts.ite3 (fun _ => ?_) (fun _ => ?_)
    · exact Acts.refl _ _ _
    · split
      · exact Acts.refl _ _ _
      · dsimp only
        refine Acts.trans ?_ (acts_ksSave _) rfl rfl
        refine Acts.trans ?_ (Acts.set_keys _ _) rfl rfl
        refine Acts.trans ?_ (acts_takeHandle_eq (by assumption)) rfl rfl
        exact Acts.refl _ _ _
theorem acts_addKey_eq {s : State} {k : Key} {x} {y} {t : State} (h : (State.addKey s k) = (x, y, t)) : Acts 154742505919478850893381632 0 s t := by
  have := acts_addKey s k; rw [h] at this; exact this

theorem acts_execKeyGenerate (ag : Agent) (cls : Nat) (secure : Bool) (part : Nat) (usage : Nat) (alg : Nat) (size : Nat) (s : State) :
    ActsR 3174233003512641507820539331062 237684563100656738694955270592 s (execKeyGenerate ag cls secure part usage alg size s) := by
  unfold execKeyGenerate
  refine ActsR.next ?_
  refine Acts.trans ?_ (acts_spCall (L := 3174233003512641507820539331062) (R := 237684563100656738694955270592) _ _ ?_ rfl rfl) rfl rfl
  · exact Acts.refl _ _ _
  · intro t1
    refine Acts.ite3 (fun _ => ?_) (fun _ => ?_)
    · exact Acts.refl _ _ _
    · extract_lets a2
      clear_value (ea2 : a2 = _)
      have ha2 : Acts 3174233003512641507820539331062 237684563100656738694955270592 t1 a2.2 := by
        rw [ea2]
        clear ea2
        refine Acts.trans ?_ (acts_random _ _) rfl rfl
        exact Acts.refl _ _ _
      clear ea2
      refine Acts.trans ?_ (acts_addKey _ _) rfl rfl
      with_reducible assumption

theorem acts_execKeyImport (ag : Agent) (kek : Nat) (secure : Bool) (part : Nat) (alg : Nat) (size : Nat) (block : List Byte) (s : State) :
    ActsR 3174233003512641507820539331062 237684563100656738694955270592 s (execKeyImport ag kek secure part alg size block s) := by
  unfold execKeyImport
  refine ActsR.next ?_
  refine Acts.trans ?_ (acts_spCall (L := 3174233003512641507820539331062) (R := 237684563100656738694955270592) _ _ ?_ rfl rfl) rfl rfl
  · exact Acts.refl _ _ _
  · intro t1
    refine Acts.ite3 (fun _ => ?_) (fun _ => ?_)
    · exact Acts.refl _ _ _
    · refine Acts.ite3 (fun _ => ?_) (fun _ => ?_)
      · refine Acts.ite3 (fun _ => ?_) (fun _ => ?_)
        · exact Acts.refl _ _ _
        · refine Acts.trans ?_ (acts_addKey _ _) rfl rfl
          exact Acts.refl _ _ _
      · split
        · exact Acts.refl _ _ _
        · refine Acts.ite3 (fun _ => ?_) (fun _ => ?_)
          · exact Acts.refl _ _ _
          · split
            · exact Acts.refl _ _ _
            · refine Acts.ite3 (fun _ => ?_) (fun _ => ?_)
              · exact Acts.refl _ _ _
              · refine Acts.trans ?_ (acts_addKey _ _) rfl rfl
                exact Acts.refl _ _ _

theorem acts_rcvCtl (s : State) (w : W) :
    Acts 19342813113834066795298816 0 s (State.rcvCtl s w) := by
  unfold State.rcvCtl
  refine Acts.trans ?_ (Acts.set_rcv _ _) rfl rfl
  exact Acts.refl _ _ _

theorem acts_flashErase (s : State) (f : Nat) (off : Nat) (n : Nat) :
    Acts 77371252455336267181195264 0 s (State.flashErase s f off n) := by
  unfold State.flashErase
  extract_lets a1
  clear_value a1
  refine Acts.trans ?_ (Acts.set_flash _ _) rfl rfl
  exact Acts.refl _ _ _

theorem acts_flashPut (s : State) (f : Nat) (off : Nat) (bs : List Byte) :
    Acts 77371252455336267181195264 0 s (State.flashPut s f off bs) := by
  unfold State.flashPut
  extract_lets a1
  clear_value a1
  refine Acts.trans ?_ (Acts.set_flash _ _) rfl rfl
  exact Acts.refl _ _ _

theorem acts_appendRec (s : State) (f typ attempt maxA seq : Nat) (dig : List Byte) (trialS : Nat) (good : Bool) :
    Acts 77371252455336267181195266 0 s (s.appendRec f typ attempt maxA seq dig trialS good) := by
  unfold State.appendRec
  extract_lets a1 a2 a3 a4 a5 a6 a7
  clear_value a1 a2 a3 a4 a6 a5
  have hg : ∀ (i : Nat) (t : State), Acts 77371252455336267181195266 0 s t → Acts 77371252455336267181195266 0 s (if good = true then t.flashPut f (logBase + 64 * i) (a7 ++ leBytes 4 (crcOf a7))
      else (t.random 63).2.flashPut f (logBase + 64 * i) (0 :: (t.random 63).1)) := fun i t h0 => by
    refine Acts.ite (fun _ => h0.trans (acts_flashPut _ _ _ _) rfl rfl) (fun _ => ?_)
    have h1 : Acts 77371252455336267181195266 0 s (t.random 63).2 := h0.trans (acts_random _ _) rfl rfl
    exact h1.trans (acts_flashPut _ _ _ _) rfl rfl
  cases a5 with
  | some j => exact hg _ _ (Acts.refl _ _ _)
  | none => exact hg _ _ ((acts_flashErase _ _ _ _).mono rfl rfl)

theorem acts_rcvFinish (s : State) (good : Bool) :
    Acts 40485423949754038271492061396562 680564733841876926926749214863536422911 s (State.rcvFinish s good) := by
  unfold State.rcvFinish
  split
  · exact Acts.refl _ _ _
  · extract_lets a1 a2 a3 a4 a5 a6
    clear_value a1
    clear_value a2
    clear_value a3
    clear_value a4
    have ha5 : Acts 40485423949754038271492061396562 680564733841876926926749214863536422911 s a5 := by
      dsimp only [a5]
      refine Acts.trans ?_ (acts_appendRec _ _ _ _ _ _ _ _ _) rfl rfl
      exact Acts.refl _ _ _
    clear_value a5
    clear_value a6
    refine Acts.ite (fun _ => ?_) (fun _ => ?_)
    · refine Acts.trans ?_ (Acts.set_rcv _ _) rfl rfl
      exact Acts.refl _ _ _
    · refine Acts.trans ?_ (acts_systemReset _ _) rfl rfl
      refine Acts.trans ?_ (Acts.set_rcv _ _) rfl rfl
      with_reducible assumption

theorem acts_execFinish (w : W) (good : Bool) (s : State) :
    ActsR 40485423949754038271492061396562 680564733841876926926749214863536422911 s (execFinish w good s) := by
  unfold execFinish
  refine ActsR.next ?_
  refine Acts.ite (fun _ => ?_) (fun _ => ?_)
  · exact Acts.refl _ _ _
  · refine Acts.trans ?_ (acts_rcvFinish _ _) rfl rfl
    refine Acts.trans ?_ (acts_rcvCtl _ _) rfl rfl
    exact Acts.refl _ _ _

theorem acts_imageArm (s : State) (slot : Nat) (maxA : Nat) (trialS : Nat) (good : Bool) :
    Acts 633902671608683552996392550870 237684563100656738694955270592 s (State.imageArm s slot maxA trialS good).2.2 := by
  unfold State.imageArm
  refine Acts.ite3 (fun _ => ?_) (fun _ => ?_)
  · exact Acts.refl _ _ _
  · extract_lets a1 a2
    clear_value a1
    have ha2 : Acts 633902671608683552996392550870 237684563100656738694955270592 s a2 := by
      dsimp only [a2]
      refine Acts.trans ?_ (acts_appendRec _ _ _ _ _ _ _ _ _) rfl rfl
      exact Acts.refl _ _ _
    clear_value a2
    refine Acts.ite3 (fun _ => ?_) (fun _ => ?_)
    · dsimp only
      refine Acts.trans ?_ (acts_logErr _ _ _ _ _ _) rfl rfl
      exact Acts.refl _ _ _
    · with_reducible assumption
theorem acts_imageArm_eq {s : State} {slot : Nat} {maxA : Nat} {trialS : Nat} {good : Bool} {x} {y} {t : State} (h : (State.imageArm s slot maxA trialS good) = (x, y, t)) : Acts 633902671608683552996392550870 237684563100656738694955270592 s t := by
  have := acts_imageArm s slot maxA trialS good; rw [h] at this; exact this

theorem acts_execImageArm (ag : Agent) (slot : Nat) (maxA : Nat) (trialS : Nat) (good : Bool) (s : State) :
    ActsR 3174155632259177365236827144694 237684563100656738694955270592 s (execImageArm ag slot maxA trialS good s) := by
  unfold execImageArm
  refine ActsR.next ?_
  refine Acts.trans ?_ (acts_spCall (L := 3174155632259177365236827144694) (R := 237684563100656738694955270592) _ _ ?_ rfl rfl) rfl rfl
  · exact Acts.refl _ _ _
  · intro t1
    refine Acts.trans ?_ (acts_imageArm _ _ _ _ _) rfl rfl
    exact Acts.refl _ _ _

theorem acts_takeEvidence (s : State) (nonce : List Byte) :
    Acts 9903520314283042199192993792 0 s (State.takeEvidence s nonce).2 := by
  unfold State.takeEvidence
  dsimp only
  refine Acts.trans ?_ (Acts.set_evidence _ _) rfl rfl
  exact Acts.refl _ _ _
theorem acts_takeEvidence_eq {s : State} {nonce : List Byte} {x} {t : State} (h : (State.takeEvidence s nonce) = (x, t)) : Acts 9903520314283042199192993792 0 s t := by
  have := acts_takeEvidence s nonce; rw [h] at this; exact this

theorem acts_execAttest (ag : Agent) (nonce : List Byte) (s : State) :
    ActsR 3183981781321005071168838943222 237684563100656738694955270592 s (execAttest ag nonce s) := by
  unfold execAttest
  refine ActsR.next ?_
  refine Acts.ite (fun _ => ?_) (fun _ => ?_)
  · exact Acts.refl _ _ _
  · refine Acts.trans ?_ (acts_spCall (L := 3183981781321005071168838943222) (R := 237684563100656738694955270592) _ _ ?_ rfl rfl) rfl rfl
    · exact Acts.refl _ _ _
    · intro t1
      refine Acts.ite3 (fun _ => ?_) (fun _ => ?_)
      · exact Acts.refl _ _ _
      · extract_lets a2
        clear_value (ea2 : a2 = _)
        have ha2 : Acts 3183981781321005071168838943222 237684563100656738694955270592 t1 a2.2 := by
          rw [ea2]
          clear ea2
          refine Acts.trans ?_ (acts_takeEvidence _ _) rfl rfl
          exact Acts.refl _ _ _
        clear ea2
        with_reducible assumption

theorem acts_trialOff (s : State) :
    Acts 2475880078570760549798248464 193428131138340667952988160 s (State.trialOff s) := by
  unfold State.trialOff
  refine Acts.trans ?_ (acts_setFld _ _ _ _) rfl rfl
  extract_lets a1 a2
  have ha1 : Acts 2475880078570760549798248464 193428131138340667952988160 s a1 := by
    dsimp only [a1]
    refine Acts.trans ?_ (Acts.wr _ _ _ _) rfl rfl
    exact Acts.refl _ _ _
  clear_value a1
  clear_value a2
  refine Acts.trans ?_ (Acts.set_boot _ _) rfl rfl
  with_reducible assumption

theorem acts_raiseCounter (s : State) (bad : List Nat) (floor fuel : Nat) : Acts 633834971762785133762609005014 237684563100656738694955270592 s (s.raiseCounter bad floor fuel) := by
  induction fuel generalizing s with
  | zero => exact Acts.refl _ _ _
  | succ fuel ih =>
    unfold State.raiseCounter
    extract_lets a3 a4
    clear_value a3
    have ha4 : Acts 633834971762785133762609005014 237684563100656738694955270592 s a4 := by
      dsimp only [a4]
      refine Acts.trans ?_ (acts_burn _ _ _) rfl rfl
      exact Acts.refl _ _ _
    clear_value a4
    refine Acts.ite (fun _ => ?_) (fun _ => ?_)
    · exact Acts.refl _ _ _
    · refine Acts.ite (fun _ => ?_) (fun _ => ?_)
      · with_reducible assumption
      · refine Acts.trans ?_ (ih _) rfl rfl
        with_reducible assumption

theorem acts_trialConfirm (s : State) (fails : Nat) (bad : List Nat) :
    Acts 636388223093811230579588448726 237877991231795079362908258752 s (State.trialConfirm s fails bad).2.2 := by
  unfold State.trialConfirm
  split
  · exact Acts.refl _ _ _
  · refine Acts.ite3 (fun _ => ?_) (fun _ => ?_)
    · refine Acts.ite3 (fun _ => ?_) (fun _ => ?_)
      · exact Acts.refl _ _ _
      · exact Acts.refl _ _ _
    · extract_lets a1 a2 a3 a4
      have ha1 : Acts 636388223093811230579588448726 237877991231795079362908258752 s a1 := by
        dsimp only [a1]
        refine Acts.foldl (L2 := 636388223093811230579588448726) (R2 := 237877991231795079362908258752) _ ?_ (fun t5 x6 => ?_) rfl rfl
        · exact Acts.refl _ _ _
        · refine Acts.trans ?_ (acts_appendRec _ _ _ _ _ _ _ _ _) rfl rfl
          exact Acts.refl _ _ _
      clear_value a1
      clear_value a2
      have ha3 : Acts 636388223093811230579588448726 237877991231795079362908258752 s a3 := by
        dsimp only [a3]
        refine Acts.trans ?_ (acts_appendRec _ _ _ _ _ _ _ _ _) rfl rfl
        with_reducible assumption
      clear_value a3
      have ha4 : Acts 636388223093811230579588448726 237877991231795079362908258752 s a4 := by
        dsimp only [a4]
        refine Acts.trans ?_ (acts_raiseCounter _ _ _ _) rfl rfl
        with_reducible assumption
      clear_value a4
      refine Acts.ite3 (fun _ => ?_) (fun _ => ?_)
      · with_reducible assumption
      · dsimp only
        refine Acts.trans ?_ (acts_setFld _ _ _ _) rfl rfl
        refine Acts.trans ?_ (acts_trialOff _) rfl rfl
        with_reducible assumption
theorem acts_trialConfirm_eq {s : State} {fails : Nat} {bad : List Nat} {x} {y} {t : State} (h : (State.trialConfirm s fails bad) = (x, y, t)) : Acts 636388223093811230579588448726 237877991231795079362908258752 s t := by
  have := acts_trialConfirm s fails bad; rw [h] at this; exact this

theorem acts_execTrialConfirm (ag : Agent) (fails : Nat) (bad : List Nat) (s : State) :
    ActsR 3176641183744305042820023042550 237877991231795079362908258752 s (execTrialConfirm ag fails bad s) := by
  unfold execTrialConfirm
  refine ActsR.next ?_
  refine Acts.trans ?_ (acts_spCall (L := 3176641183744305042820023042550) (R := 237877991231795079362908258752) _ _ ?_ rfl rfl) rfl rfl
  · exact Acts.refl _ _ _
  · intro t1
    refine Acts.ite3 (fun _ => ?_) (fun _ => ?_)
    · refine Acts.trans ?_ (acts_trialConfirm _ _ _) rfl rfl
      exact Acts.refl _ _ _
    · exact Acts.refl _ _ _

theorem acts_writeStatus (s : State) :
    Acts 3169126500812687019722617766358 2773101820435798546089133474240 s (State.writeStatus s) := by
  unfold State.writeStatus
  extract_lets a1 a2 a3 a4 a5 a6 a7
  clear_value a1
  clear_value a2
  clear_value a3
  clear_value a4
  have ha5 : Acts 3169126500812687019722617766358 2773101820435798546089133474240 s a5 := by
    dsimp only [a5]
    refine Acts.trans ?_ (Acts.wr _ _ _ _) rfl rfl
    refine Acts.trans ?_ (Acts.wr _ _ _ _) rfl rfl
    exact Acts.refl _ _ _
  clear_value a5
  clear_value a6
  have ha7 : Acts 3169126500812687019722617766358 2773101820435798546089133474240 s a7 := by
    refine Acts.trans ?_ (Acts.set_dbg _ _) rfl rfl
    with_reducible assumption
  clear_value a7
  refine Acts.ite (fun _ => ?_) (fun _ => ?_)
  · refine Acts.foldl (L2 := 3169126500812687019722617766358) (R2 := 2773101820435798546089133474240) _ ?_ (fun t8 x9 => ?_) rfl rfl
    · with_reducible assumption
    · refine Acts.trans ?_ (acts_logErr _ _ _ _ _ _) rfl rfl
      refine Acts.trans ?_ (acts_setFld _ _ _ _) rfl rfl
      exact Acts.refl _ _ _
  · with_reducible assumption

theorem acts_execTamper (sensor : Nat) (s : State) :
    ActsR 40485346578501582935224880201296 680564733841876926926749214863536422911 s (execTamper sensor s) := by
  unfold execTamper
  refine ActsR.next ?_
  refine Acts.ite (fun _ => ?_) (fun _ => ?_)
  · exact Acts.refl _ _ _
  · refine Acts.trans ?_ (acts_enterReset _ _ _) rfl rfl
    refine Acts.trans ?_ (Acts.set_cphKeys_keys_kek _ _ _ _) rfl rfl
    exact Acts.refl _ _ _

theorem acts_burnGroup (s : State) (bad : List Nat) (lo : Nat) :
    Acts 633834971762785133762609005014 237684563100656738694955270592 s (State.burnGroup s bad lo) := by
  unfold State.burnGroup
  refine Acts.trans ?_ (acts_burnAll _ _ _) rfl rfl
  exact Acts.refl _ _ _

theorem acts_lcAdvance (s : State) (target : Nat) (bad : List Nat) :
    Acts 633834971762785133762609005014 237684563100656738694955270592 s (State.lcAdvance s target bad).2.2 := by
  unfold State.lcAdvance
  extract_lets a1 a2 a3 a4
  clear_value a1
  clear_value a2
  have ha3 : Acts 633834971762785133762609005014 237684563100656738694955270592 s a3 := by
    dsimp only [a3]
    refine Acts.ite (fun _ => ?_) (fun _ => ?_)
    · refine Acts.trans ?_ (acts_burnAll _ _ _) rfl rfl
      exact Acts.refl _ _ _
    · exact Acts.refl _ _ _
  clear_value a3
  have ha4 : Acts 633834971762785133762609005014 237684563100656738694955270592 s a4 := by
    dsimp only [a4]
    refine Acts.trans ?_ (acts_burnGroup _ _ _) rfl rfl
    with_reducible assumption
  clear_value a4
  refine Acts.ite3 (fun _ => ?_) (fun _ => ?_)
  · exact Acts.refl _ _ _
  · with_reducible assumption
theorem acts_lcAdvance_eq {s : State} {target : Nat} {bad : List Nat} {x} {y} {t : State} (h : (State.lcAdvance s target bad) = (x, y, t)) : Acts 633834971762785133762609005014 237684563100656738694955270592 s t := by
  have := acts_lcAdvance s target bad; rw [h] at this; exact this

theorem acts_execLcAdvance (ag : Agent) (target : Nat) (bad : List Nat) (s : State) :
    ActsR 3174087932413278946003043598838 237684563100656738694955270592 s (execLcAdvance ag target bad s) := by
  unfold execLcAdvance
  refine ActsR.next ?_
  refine Acts.trans ?_ (acts_spCall (L := 3174087932413278946003043598838) (R := 237684563100656738694955270592) _ _ ?_ rfl rfl) rfl rfl
  · exact Acts.refl _ _ _
  · intro t1
    refine Acts.trans ?_ (acts_lcAdvance _ _ _) rfl rfl
    exact Acts.refl _ _ _

theorem acts_rcvChunk (s : State) (off : Nat) (bs : List Byte) :
    Acts 96714065569170333976494080 0 s (State.rcvChunk s off bs) := by
  unfold State.rcvChunk
  extract_lets a1 a2 a3 a4 a5 a6
  clear_value a1
  have ha2 : Acts 96714065569170333976494080 0 s a2 := by
    dsimp only [a2]
    refine Acts.trans ?_ (acts_flashErase _ _ _ _) rfl rfl
    exact Acts.refl _ _ _
  clear_value a2
  clear_value a3
  have ha4 : Acts 96714065569170333976494080 0 s a4 := by
    dsimp only [a4]
    split
    · exact Acts.refl _ _ _
    · refine Acts.trans ?_ (Acts.set_rcv _ _) rfl rfl
      with_reducible assumption
  clear_value a4
  clear_value a5
  clear_value a6
  refine Acts.trans ?_ (acts_flashPut _ _ _ _) rfl rfl
  refine Acts.trans ?_ (Acts.set_rcv _ _) rfl rfl
  with_reducible assumption

theorem acts_execFabricRecovery (p : Nat) (off : Nat) (data : List Byte) (fin : Bool) (good : Bool) (s : State) :
    ActsR 40485423949754038271492061396950 680564733841876926926749214863536422911 s (execFabricRecovery p off data fin good s) := by
  unfold execFabricRecovery
  refine ActsR.next ?_
  refine Acts.ite (fun _ => ?_) (fun _ => ?_)
  · exact Acts.refl _ _ _
  · refine Acts.ite (fun _ => ?_) (fun _ => ?_)
    · extract_lets a1
      have ha1 : Acts 40485423949754038271492061396950 680564733841876926926749214863536422911 s a1 := by
        dsimp only [a1]
        refine Acts.trans ?_ (acts_setFld _ _ _ _) rfl rfl
        refine Acts.trans ?_ (acts_setFld _ _ _ _) rfl rfl
        exact Acts.refl _ _ _
      clear_value a1
      refine Acts.foldl (L2 := 40485423949754038271492061396950) (R2 := 680564733841876926926749214863536422911) _ ?_ (fun t2 x3 => ?_) rfl rfl
      · with_reducible assumption
      · refine Acts.trans ?_ (acts_portCtl _ _ _) rfl rfl
        refine Acts.trans ?_ (acts_setFld _ _ _ _) rfl rfl
        exact Acts.refl _ _ _
    · refine Acts.ite (fun _ => ?_) (fun _ => ?_)
      · exact Acts.refl _ _ _
      · extract_lets a4 a5 a6 a7
        have ha4 : Acts 40485423949754038271492061396950 680564733841876926926749214863536422911 s a4 := by
          dsimp only [a4]
          refine Acts.trans ?_ (acts_setFld _ _ _ _) rfl rfl
          refine Acts.trans ?_ (acts_setFld _ _ _ _) rfl rfl
          exact Acts.refl _ _ _
        clear_value a4
        have ha5 : Acts 40485423949754038271492061396950 680564733841876926926749214863536422911 s a5 := by
          dsimp only [a5]
          refine Acts.trans ?_ (acts_setFld _ _ _ _) rfl rfl
          refine Acts.trans ?_ (acts_setFld _ _ _ _) rfl rfl
          refine Acts.trans ?_ (acts_setFld _ _ _ _) rfl rfl
          with_reducible assumption
        clear_value a5
        have ha6 : Acts 40485423949754038271492061396950 680564733841876926926749214863536422911 s a6 := by
          dsimp only [a6]
          refine Acts.trans ?_ (acts_setFld _ _ _ _) rfl rfl
          refine Acts.trans ?_ (acts_setFld _ _ _ _) rfl rfl
          with_reducible assumption
        clear_value a6
        have ha7 : Acts 40485423949754038271492061396950 680564733841876926926749214863536422911 s a7 := by
          dsimp only [a7]
          refine Acts.ite (fun _ => ?_) (fun _ => ?_)
          · with_reducible assumption
          · refine Acts.trans ?_ (acts_rcvChunk _ _ _) rfl rfl
            with_reducible assumption
        clear_value a7
        refine Acts.ite (fun _ => ?_) (fun _ => ?_)
        · refine Acts.trans ?_ (acts_rcvFinish _ _) rfl rfl
          with_reducible assumption
        · with_reducible assumption

theorem acts_appendFailed (s : State) (f : Nat) (good : Bool) :
    Acts 633902671608683552996392550870 237684563100656738694955270592 s (State.appendFailed s f good) := by
  unfold State.appendFailed
  split
  · exact Acts.refl _ _ _
  · extract_lets a1
    clear_value a1
    refine Acts.trans ?_ (acts_logErr _ _ _ _ _ _) rfl rfl
    refine Acts.trans ?_ (acts_appendRec _ _ _ _ _ _ _ _ _) rfl rfl
    exact Acts.refl _ _ _

theorem acts_reject (s : State) (f : Nat) (good : Bool) :
    Acts 40485423949754038271492061396950 680564733841876926926749214863536422911 s (State.reject s f good) := by
  unfold State.reject
  extract_lets a1
  have ha1 : Acts 40485423949754038271492061396950 680564733841876926926749214863536422911 s a1 := by
    dsimp only [a1]
    refine Acts.ite (fun _ => ?_) (fun _ => ?_)
    · refine Acts.trans ?_ (acts_appendFailed _ _ _) rfl rfl
      exact Acts.refl _ _ _
    · exact Acts.refl _ _ _
  clear_value a1
  refine Acts.trans ?_ (acts_systemReset _ _) rfl rfl
  refine Acts.trans ?_ (acts_logErr _ _ _ _ _ _) rfl rfl
  with_reducible assumption

theorem acts_select (l : List Nat) (goods : List Bool) (s : State) : Acts 10143758053156861308790605086738 154742504910672534362390528 s (State.select l goods s) := by
  induction l generalizing goods s with
  | nil => exact Acts.refl _ _ _
  | cons f rest ih =>
    dsimp only [State.select]
    split
    · exact ih _ _
    · rename_i i _
      refine Acts.ite (fun _ => (Acts.set_boot _ _).mono rfl rfl) (fun _ => ?_)
      have h1 : ∀ x1 x2 x3 x4 x5 x6 x7, Acts 10143758053156861308790605086738 154742504910672534362390528 s (s.appendRec f x1 x2 x3 x4 x5 x6 x7) :=
        fun _ _ _ _ _ _ _ => (acts_appendRec _ _ _ _ _ _ _ _ _).mono rfl rfl
      refine Acts.ite (fun _ => ?_) (fun _ => (h1 _ _ _ _ _ _ _).trans (ih _ _) rfl rfl)
      refine Acts.trans ?_ (Acts.set_boot_wdogNs _ _ _) rfl rfl
      exact (h1 _ _ _ _ _ _ _).trans (Acts.wr _ _ _ _) rfl rfl

theorem acts_revokeImage (s : State) (k : Nat) (bad : List Nat) :
    Acts 633834971762785133762609005014 237723248726884406828545868224 s (State.revokeImage s k bad).2.2 := by
  unfold State.revokeImage
  refine Acts.ite3 (fun _ => ?_) (fun _ => ?_)
  · exact Acts.refl _ _ _
  · refine Acts.ite3 (fun _ => ?_) (fun _ => ?_)
    · exact Acts.refl _ _ _
    · extract_lets a1
      have ha1 : Acts 633834971762785133762609005014 237723248726884406828545868224 s a1 := by
        dsimp only [a1]
        refine Acts.trans ?_ (acts_burnGroup _ _ _) rfl rfl
        exact Acts.refl _ _ _
      clear_value a1
      dsimp only
      refine Acts.ite (fun _ => ?_) (fun _ => ?_)
      · refine Acts.trans ?_ (acts_setFld _ _ _ _) rfl rfl
        with_reducible assumption
      · with_reducible assumption
theorem acts_revokeImage_eq {s : State} {k : Nat} {bad : List Nat} {x} {y} {t : State} (h : (State.revokeImage s k bad) = (x, y, t)) : Acts 633834971762785133762609005014 237723248726884406828545868224 s t := by
  have := acts_revokeImage s k bad; rw [h] at this; exact this

theorem acts_execRevokeImageKey (ag : Agent) (k : Nat) (bad : List Nat) (s : State) :
    ActsR 3174087932413278946003043598838 237723248726884406828545868224 s (execRevokeImageKey ag k bad s) := by
  unfold execRevokeImageKey
  refine ActsR.next ?_
  refine Acts.trans ?_ (acts_spCall (L := 3174087932413278946003043598838) (R := 237723248726884406828545868224) _ _ ?_ rfl rfl) rfl rfl
  · exact Acts.refl _ _ _
  · intro t1
    refine Acts.trans ?_ (acts_revokeImage _ _ _) rfl rfl
    exact Acts.refl _ _ _

theorem acts_execChunk (data : List Byte) (w : W) (s : State) :
    ActsR 96714065569170333976494080 0 s (execChunk data w s) := by
  unfold execChunk
  refine ActsR.next ?_
  refine Acts.ite (fun _ => ?_) (fun _ => ?_)
  · exact Acts.refl _ _ _
  · extract_lets a1 a2
    have ha1 : Acts 96714065569170333976494080 0 s a1 := by
      dsimp only [a1]
      refine Acts.trans ?_ (acts_rcvCtl _ _) rfl rfl
      refine Acts.trans ?_ (acts_rcvWrite _ _ _) rfl rfl
      exact Acts.refl _ _ _
    clear_value a1
    clear_value a2
    refine Acts.ite (fun _ => ?_) (fun _ => ?_)
    · with_reducible assumption
    · refine Acts.trans ?_ (acts_rcvChunk _ _ _) rfl rfl
      with_reducible assumption

theorem acts_recoveryWait (s : State) :
    Acts 3169145843625800853789413065174 2773101820436086776465285185984 s (State.recoveryWait s) := by
  unfold State.recoveryWait
  extract_lets a1 a2
  have ha1 : Acts 3169145843625800853789413065174 2773101820436086776465285185984 s a1 := by
    dsimp only [a1]
    refine Acts.trans ?_ (acts_writeStatus _) rfl rfl
    exact Acts.refl _ _ _
  clear_value a1
  have ha2 : Acts 3169145843625800853789413065174 2773101820436086776465285185984 s a2 := by
    dsimp only [a2]
    refine Acts.ite (fun _ => ?_) (fun _ => ?_)
    · refine Acts.trans ?_ (acts_setFld _ _ _ _) rfl rfl
      with_reducible assumption
    · with_reducible assumption
  clear_value a2
  refine Acts.trans ?_ (Acts.set_errorN_rcv _ _ _) rfl rfl
  with_reducible assumption

theorem acts_ksLoad (s : State) :
    Acts 633980042862147695580104737238 237684563100656738694955270592 s (State.ksLoad s) := by
  unfold State.ksLoad
  extract_lets a1 a2
  clear_value a1
  clear_value a2
  split
  · exact Acts.refl _ _ _
  · extract_lets a3 a4
    clear_value a3
    have ha4 : Acts 633980042862147695580104737238 237684563100656738694955270592 s a4 := by
      refine Acts.trans ?_ (Acts.set_keys_keyNext_keyFreed _ _ _ _) rfl rfl
      exact Acts.refl _ _ _
    clear_value a4
    refine Acts.ite (fun _ => ?_) (fun _ => ?_)
    · with_reducible assumption
    · refine Acts.trans ?_ (acts_raise _ _) rfl rfl
      refine Acts.trans ?_ (acts_logErr _ _ _ _ _ _) rfl rfl
      refine Acts.trans ?_ (Acts.set_ksCopy _ _) rfl rfl
      with_reducible assumption

theorem acts_slotCheck (s : State) (f : Nat) (good : Bool) :
    Acts 633902671608683552996392550870 237684563100656738694955270592 s (State.slotCheck s f good) := by
  unfold State.slotCheck
  split
  · exact Acts.refl _ _ _
  · extract_lets a1 a2
    clear_value a1
    have ha2 : Acts 633902671608683552996392550870 237684563100656738694955270592 s a2 := by
      dsimp only [a2]
      refine Acts.trans ?_ (acts_flashErase _ _ _ _) rfl rfl
      exact Acts.refl _ _ _
    clear_value a2
    refine Acts.ite (fun _ => ?_) (fun _ => ?_)
    · refine Acts.trans ?_ (acts_appendFailed _ _ _) rfl rfl
      with_reducible assumption
    · refine Acts.ite (fun _ => ?_) (fun _ => ?_)
      · refine Acts.trans ?_ (acts_logErr _ _ _ _ _ _) rfl rfl
        with_reducible assumption
      · with_reducible assumption

theorem acts_loadPatch (s : State) (bs : List Byte) (target : Nat) :
    Acts 16 243388915243820045087367015432192 s (State.loadPatch s bs target) := by
  unfold State.loadPatch
  refine Acts.foldl (L2 := 16) (R2 := 243388915243820045087367015432192) _ ?_ (fun t1 x2 => ?_) rfl rfl
  · exact Acts.refl _ _ _
  · extract_lets a3 a4 a5
    clear_value a3
    clear_value a4
    clear_value a5
    refine Acts.ite (fun _ => ?_) (fun _ => ?_)
    · exact Acts.refl _ _ _
    · refine Acts.foldl (L2 := 16) (R2 := 243388915243820045087367015432192) _ ?_ (fun t6 x7 => ?_) rfl rfl
      · refine Acts.trans ?_ (Acts.wr _ _ _ _) rfl rfl
        exact Acts.refl _ _ _
      · refine Acts.trans ?_ (Acts.wr _ _ _ _) rfl rfl
        exact Acts.refl _ _ _

theorem acts_execSpBoot (goods : List Bool) (bad : List Nat) (s : State) :
    ActsR 40485588363665505861059821436886 680564733841876926926749214863536422911 s (execSpBoot goods bad s) := by
  unfold execSpBoot
  refine ActsR.next ?_
  refine Acts.ite (fun _ => ?_) (fun _ => ?_)
  · exact Acts.refl _ _ _
  · extract_lets a1 a2 a3 a4 a5 a6 a7
    have ha1 : Acts 40485588363665505861059821436886 680564733841876926926749214863536422911 s a1 := by
      refine Acts.trans ?_ (Acts.set_bootStep_kek _ _ _) rfl rfl
      exact Acts.refl _ _ _
    clear_value a1
    have ha2 : Acts 40485588363665505861059821436886 680564733841876926926749214863536422911 s a2 := by
      dsimp only [a2]
      refine Acts.ite (fun _ => ?_) (fun _ => ?_)
      · refine Acts.trans ?_ (acts_logErr _ _ _ _ _ _) rfl rfl
        with_reducible assumption
      · with_reducible assumption
    clear_value a2
    have ha3 : Acts 40485588363665505861059821436886 680564733841876926926749214863536422911 s a3 := by
      dsimp only [a3]
      refine Acts.trans ?_ (acts_ksLoad _) rfl rfl
      with_reducible assumption
    clear_value a3
    clear_value a4
    have ha5 : Acts 40485588363665505861059821436886 680564733841876926926749214863536422911 s a5 := by
      dsimp only [a5]
      refine Acts.ite (fun _ => ?_) (fun _ => ?_)
      · refine Acts.trans ?_ (acts_burnGroup _ _ _) rfl rfl
        with_reducible assumption
      · with_reducible assumption
    clear_value a5
    have ha6 : Acts 40485588363665505861059821436886 680564733841876926926749214863536422911 s a6 := by
      dsimp only [a6]
      refine Acts.trans ?_ (acts_slotCheck _ _ _) rfl rfl
      refine Acts.trans ?_ (acts_slotCheck _ _ _) rfl rfl
      with_reducible assumption
    clear_value a6
    have ha7 : Acts 40485588363665505861059821436886 680564733841876926926749214863536422911 s a7 := by
      dsimp only [a7]
      refine Acts.trans ?_ (acts_select _ _ _) rfl rfl
      with_reducible assumption
    clear_value a7
    refine Acts.ite (fun _ => ?_) (fun _ => ?_)
    · refine Acts.trans ?_ (acts_writeStatus _) rfl rfl
      with_reducible assumption
    · refine Acts.ite (fun _ => ?_) (fun _ => ?_)
      · refine Acts.trans ?_ (acts_recoveryWait _) rfl rfl
        with_reducible assumption
      · split
        · refine Acts.trans ?_ (acts_recoveryWait _) rfl rfl
          with_reducible assumption
        · extract_lets a8 a9 a10 a11 a12
          clear_value a8
          clear_value a9
          have ha10 : Acts 40485588363665505861059821436886 680564733841876926926749214863536422911 s a10 := by
            dsimp only [a10]
            refine Acts.trans ?_ (acts_loadPatch _ _ _) rfl rfl
            with_reducible assumption
          clear_value a10
          have ha11 : Acts 40485588363665505861059821436886 680564733841876926926749214863536422911 s a11 := by
            dsimp only [a11]
            refine Acts.ite (fun _ => ?_) (fun _ => ?_)
            · with_reducible assumption
            · refine Acts.trans ?_ (acts_raiseCounter _ _ _ _) rfl rfl
              with_reducible assumption
          clear_value a11
          have ha12 : Acts 40485588363665505861059821436886 680564733841876926926749214863536422911 s a12 := by
            dsimp only [a12]
            refine Acts.trans ?_ (acts_kick16 _) rfl rfl
            refine Acts.trans ?_ (acts_writeStatus _) rfl rfl
            refine Acts.trans ?_ (acts_loadPatch _ _ _) rfl rfl
            with_reducible assumption
          clear_value a12
          refine Acts.ite (fun _ => ?_) (fun _ => ?_)
          · refine Acts.trans ?_ (acts_reject _ _ _) rfl rfl
            with_reducible assumption
          · refine Acts.ite (fun _ => ?_) (fun _ => ?_)
            · refine Acts.trans ?_ (acts_reject _ _ _) rfl rfl
              with_reducible assumption
            · refine Acts.trans ?_ (Acts.set_bootStep _ _) rfl rfl
              with_reducible assumption

theorem acts_execTrialWatchdogExpiry (s : State) :
    ActsR 40485346578501582935224880201296 680564733841876926926749214863536422911 s (execTrialWatchdogExpiry s) := by
  unfold execTrialWatchdogExpiry
  refine ActsR.next ?_
  refine Acts.ite (fun _ => ?_) (fun _ => ?_)
  · refine Acts.trans ?_ (acts_systemReset _ _) rfl rfl
    exact Acts.refl _ _ _
  · exact Acts.refl _ _ _

theorem acts_execTrialWatchdogWarning (s : State) :
    ActsR 633825300116420543762397134928 75557863725914323419328 s (execTrialWatchdogWarning s) := by
  unfold execTrialWatchdogWarning
  refine ActsR.next ?_
  refine Acts.ite (fun _ => ?_) (fun _ => ?_)
  · refine Acts.trans ?_ (acts_raise _ _) rfl rfl
    exact Acts.refl _ _ _
  · exact Acts.refl _ _ _

theorem acts_execKeyDelete (ag : Agent) (h : Nat) (s : State) :
    ActsR 3174233003512425335038425547254 237684563137550226842374373824 s (execKeyDelete ag h s) := by
  unfold execKeyDelete
  refine ActsR.next ?_
  refine Acts.trans ?_ (acts_spCall (L := 3174233003512425335038425547254) (R := 237684563137550226842374373824) _ _ ?_ rfl rfl) rfl rfl
  · exact Acts.refl _ _ _
  · intro t1
    split
    · exact Acts.refl _ _ _
    · dsimp only
      refine Acts.trans ?_ (acts_dropKey _ _) rfl rfl
      refine Acts.trans ?_ (acts_ksSave _) rfl rfl
      refine Acts.trans ?_ (Acts.set_keys_keyFreed _ _ _) rfl rfl
      exact Acts.refl _ _ _

theorem acts_execKeystoreErase (ag : Agent) (s : State) :
    ActsR 3174851973532356255552026821110 237684563137550226842374373824 s (execKeystoreErase ag s) := by
  unfold execKeystoreErase
  refine ActsR.next ?_
  refine Acts.trans ?_ (acts_spCall (L := 3174851973532356255552026821110) (R := 237684563137550226842374373824) _ _ ?_ rfl rfl) rfl rfl
  · exact Acts.refl _ _ _
  · intro t1
    extract_lets a2
    have ha2 : Acts 3174851973532356255552026821110 237684563137550226842374373824 t1 a2 := by
      refine Acts.trans ?_ (Acts.set_cphKeys_keys_keyNext_keyFreed_ksCopy_ksErased _ _ _ _ _ _ _) rfl rfl
      exact Acts.refl _ _ _
    clear_value a2
    dsimp only
    refine Acts.trans ?_ (acts_cphCounts _ _) rfl rfl
    refine Acts.trans ?_ (acts_cphCounts _ _) rfl rfl
    with_reducible assumption

theorem acts_execRevokeDebugKey (ag : Agent) (k : Nat) (bad : List Nat) (s : State) :
    ActsR 3174087932413278946003043598838 237723248726884406828545868224 s (execRevokeDebugKey ag k bad s) := by
  unfold execRevokeDebugKey
  refine ActsR.next ?_
  refine Acts.trans ?_ (acts_spCall (L := 3174087932413278946003043598838) (R := 237723248726884406828545868224) _ _ ?_ rfl rfl) rfl rfl
  · exact Acts.refl _ _ _
  · intro t1
    refine Acts.ite3 (fun _ => ?_) (fun _ => ?_)
    · exact Acts.refl _ _ _
    · extract_lets a2
      have ha2 : Acts 3174087932413278946003043598838 237723248726884406828545868224 t1 a2 := by
        dsimp only [a2]
        refine Acts.trans ?_ (acts_burnGroup _ _ _) rfl rfl
        exact Acts.refl _ _ _
      clear_value a2
      dsimp only
      refine Acts.ite (fun _ => ?_) (fun _ => ?_)
      · refine Acts.trans ?_ (acts_setFld _ _ _ _) rfl rfl
        with_reducible assumption
      · with_reducible assumption

theorem acts_execFmKeySet (ag : Agent) (hashes : List Byte) (s : State) :
    ActsR 3175316201046007409244545073654 237684563100656738694955270592 s (execFmKeySet ag hashes s) := by
  unfold execFmKeySet
  refine ActsR.next ?_
  refine Acts.trans ?_ (acts_spCall (L := 3175316201046007409244545073654) (R := 237684563100656738694955270592) _ _ ?_ rfl rfl) rfl rfl
  · exact Acts.refl _ _ _
  · intro t1
    refine Acts.ite3 (fun _ => ?_) (fun _ => ?_)
    · exact Acts.refl _ _ _
    · dsimp only
      refine Acts.trans ?_ (Acts.set_fmKeys _ _) rfl rfl
      exact Acts.refl _ _ _

/-- Zeroed DRAM lists nothing. -/
theorem Acts.set_mem_nil (s : State) : Acts 384 0 s { s with mem := [], memPoison := [] } where
  mem h := by cases h
  memPoison h := by cases h
  pending _ := rfl
  free _ := rfl
  stamp _ := rfl
  dtime _ := rfl
  regs _ := rfl
  rsp _ := rfl
  cores _ := rfl
  chans _ := rfl
  mcRsp _ := rfl
  opt _ := rfl
  bootSrc _ := rfl
  recovSel _ := rfl
  l3 _ := rfl
  depvb _ := rfl
  sieve _ := rfl
  trk _ := rfl
  fair _ := rfl
  slots _ := rfl
  agentReqs _ := rfl
  ghosts _ := rfl
  mesh _ := rfl
  txns _ := rfl
  linkStopped _ := rfl
  lidHeld _ := rfl
  pfw _ := rfl
  wtCache _ := rfl
  hartPart _ := rfl
  pairs _ := rfl
  spn _ := rfl
  spnChanged _ := rfl
  jrnRes _ := rfl
  jrnRecs _ := rfl
  pubs _ := rfl
  pubFlits _ := rfl
  repl _ := rfl
  ports _ := rfl
  fabIn _ := rfl
  fabRem _ := rfl
  fabDropped _ := rfl
  remote _ := rfl
  sqNext _ := rfl
  sqDone _ := rfl
  slew _ := rfl
  slewAcc _ := rfl
  pcieTags _ := rfl
  pcieOut _ := rfl
  pcieCpl _ := rfl
  portReset _ := rfl
  pcieLate _ := rfl
  msiLost _ := rfl
  ctxCache _ := rfl
  ioTlb _ := rfl
  jobs _ := rfl
  cphTurn _ := rfl
  cphKeys _ := rfl
  keys _ := rfl
  keyNext _ := rfl
  keyFreed _ := rfl
  srcHigh _ := rfl
  pend _ := rfl
  inServ _ := rfl
  nmiTaken _ := rfl
  records _ := rfl
  limits _ := rfl
  withheld _ := rfl
  errorN _ := rfl
  rstLevel _ := rfl
  relStep _ := rfl
  railOut _ := rfl
  pwrgood _ := rfl
  resetInLow _ := rfl
  prochotLow _ := rfl
  thermtrip _ := rfl
  readyPin _ := rfl
  unlocked _ := rfl
  regFailed _ := rfl
  pGoal _ := rfl
  pStop _ := rfl
  pkgIdle _ := rfl
  rtcAcc _ := rfl
  partStep _ := rfl
  fuses _ := rfl
  rcv _ := rfl
  bootStep _ := rfl
  flash _ := rfl
  ksCopy _ := rfl
  kek _ := rfl
  ksErased _ := rfl
  fmKeys _ := rfl
  boot _ := rfl
  spRsp _ := rfl
  evidence _ := rfl
  mac _ := rfl
  pages _ := rfl
  spd _ := rfl
  traceBuf _ := rfl
  snaps _ := rfl
  cnt _ := rfl
  ldl _ := rfl
  dbg _ := rfl
  lsio _ := rfl
  wdogNs _ := rfl
  cycAcc _ := rfl
  reg _ _ _ := rfl
  memOk _ := rfl
  fuseUp _ h := h

theorem acts_execDramZeroing (s : State) : ActsR 40485423949754038271492061396950 680564733841876926926749214863536422911 s (execDramZeroing s) := by
  unfold execDramZeroing
  refine ActsR.next ?_
  refine Acts.ite (fun _ => Acts.refl _ _ _) (fun _ => ?_)
  extract_lets src s1
  have h0 : Acts 40485423949754038271492061396950 680564733841876926926749214863536422911 s src := (acts_buildMap s).mono rfl rfl
  clear_value src
  have h1 : Acts 40485423949754038271492061396950 680564733841876926926749214863536422911 s s1 := h0.trans (Acts.set_mem_nil _) rfl rfl
  clear_value s1
  split
  · exact h1
  · rename_i f _
    extract_lets put s2 ok src
    clear_value ok
    have hp : ∀ t n, Acts 40485423949754038271492061396950 680564733841876926926749214863536422911 t (put t n) := fun t n => by
      dsimp only [put]
      refine Acts.ite (fun _ => ?_) (fun _ => Acts.refl _ _ _)
      exact (Acts.set_mem _ _ _).mono rfl rfl
    have h2 : Acts 40485423949754038271492061396950 680564733841876926926749214863536422911 s s2 := (h1.trans (hp _ _) rfl rfl).trans (hp _ _) rfl rfl
    clear_value s2
    have h3 : Acts 40485423949754038271492061396950 680564733841876926926749214863536422911 s src := h2.trans (acts_kick16 _) rfl rfl
    clear_value src
    exact Acts.ite (fun _ => h3.trans (Acts.set_bootStep _ _) rfl rfl) (fun _ => h2.trans (acts_reject _ _ _) rfl rfl)

theorem acts_execKeyExport (ag : Agent) (h : Nat) (kek : Nat) (s : State) :
    ActsR 3174078261006722028969645949430 237684563100656738694955270592 s (execKeyExport ag h kek s) := by
  unfold execKeyExport
  refine ActsR.next ?_
  refine Acts.trans ?_ (acts_spCall (L := 3174078261006722028969645949430) (R := 237684563100656738694955270592) _ _ ?_ rfl rfl) rfl rfl
  · exact Acts.refl _ _ _
  · intro t1
    split
    · refine Acts.ite3 (fun _ => ?_) (fun _ => ?_)
      · exact Acts.refl _ _ _
      · exact Acts.refl _ _ _
    · exact Acts.refl _ _ _

theorem acts_execAbort (w : W) (s : State) :
    ActsR 19342813113834066795298816 0 s (execAbort w s) := by
  unfold execAbort
  refine ActsR.next ?_
  refine Acts.ite (fun _ => ?_) (fun _ => ?_)
  · exact Acts.refl _ _ _
  · extract_lets a1 a2
    have ha1 : Acts 19342813113834066795298816 0 s a1 := by
      dsimp only [a1]
      refine Acts.trans ?_ (acts_rcvCtl _ _) rfl rfl
      exact Acts.refl _ _ _
    clear_value a1
    clear_value a2
    refine Acts.trans ?_ (Acts.set_rcv _ _) rfl rfl
    with_reducible assumption

end Sys2Proof.Machine
end

