-- ==== Sys2Proof/Laws/AdmissionActs.lean ====
section
/-! SUPPORT. What each operation and each command of Admission.lean may touch: `acts_<name>` bounds the fields and the registers that
`<name>` can change (see Acts.lean). -/

namespace Sys2Proof.Machine

open Sys2Proof

theorem acts_linkEpoch_eq {s : State} {p : Nat} {x} {t : State} (h : s.linkEpoch p = some (x, t)) : Acts 154742505054787722438246400 0 s t := by
  unfold State.linkEpoch at h
  split at h
  · cases h
    exact Acts.refl _ _ _
  · dsimp only at h
    split at h
    · cases h
    · split at h
      · cases h
      · cases h
        refine Acts.trans ?_ (acts_ksSave _) rfl rfl
        exact (Acts.set_keys _ _).mono rfl rfl

theorem acts_letIn (s : State) (p : Nat) :
    Acts 633825300116420543899836088400 75557863727013835047104 s (State.letIn s p) := by
  unfold State.letIn
  extract_lets a1 a2
  clear_value a1
  have ha2 : Acts 633825300116420543899836088400 75557863727013835047104 s a2 := by
    dsimp only [a2]
    refine Acts.trans ?_ (acts_setFld _ _ _ _) rfl rfl
    refine Acts.trans ?_ (acts_setPort _ _ _) rfl rfl
    exact Acts.refl _ _ _
  clear_value a2
  refine Acts.ite (fun _ => ?_) (fun _ => ?_)
  · refine Acts.trans ?_ (acts_timeRoles _) rfl rfl
    refine Acts.trans ?_ (acts_setPortState _ _ _) rfl rfl
    refine Acts.trans ?_ (acts_setFld _ _ _ _) rfl rfl
    with_reducible assumption
  · exact Acts.refl _ _ _

theorem acts_admitFail (s : State) (p : Nat) (err : Nat) :
    Acts 633825300356228216866650309078 237684563100656739794466898368 s (State.admitFail s p err) := by
  unfold State.admitFail
  extract_lets a1 a2
  have ha1 : Acts 633825300356228216866650309078 237684563100656739794466898368 s a1 := by
    dsimp only [a1]
    refine Acts.trans ?_ (acts_linkLocal _ _ _) rfl rfl
    exact Acts.refl _ _ _
  clear_value a1
  have ha2 : Acts 633825300356228216866650309078 237684563100656739794466898368 s a2 := by
    dsimp only [a2]
    refine Acts.trans ?_ (acts_raise _ _) rfl rfl
    refine Acts.trans ?_ (acts_logErr _ _ _ _ _ _) rfl rfl
    refine Acts.trans ?_ (acts_setFld _ _ _ _) rfl rfl
    with_reducible assumption
  clear_value a2
  refine Acts.trans ?_ (acts_setPortState _ _ _) rfl rfl
  with_reducible assumption

theorem acts_execAttestEvidence (s : State) :
    ActsR 633980042861283004863966462422 237684563100656739794466898368 s (execAttestEvidence s) := by
  unfold execAttestEvidence
  refine ActsR.next ?_
  split
  · exact Acts.refl _ _ _
  · refine Acts.ite (fun _ => ?_) (fun _ => ?_)
    · refine Acts.trans ?_ (acts_takePkt_eq (by assumption)) rfl rfl
      exact Acts.refl _ _ _
    · extract_lets a1
      clear_value a1
      refine Acts.ite (fun _ => ?_) (fun _ => ?_)
      · refine Acts.trans ?_ (acts_admitFail _ _ _) rfl rfl
        refine Acts.trans ?_ (acts_takePkt_eq (by assumption)) rfl rfl
        exact Acts.refl _ _ _
      · split
        · refine Acts.trans ?_ (acts_admitFail _ _ _) rfl rfl
          refine Acts.trans ?_ (acts_takePkt_eq (by assumption)) rfl rfl
          exact Acts.refl _ _ _
        · extract_lets a2 a3
          clear_value a2
          have ha3 : Acts 633980042861283004863966462422 237684563100656739794466898368 s a3 := by
            dsimp only [a3]
            refine Acts.trans ?_ (acts_setPort _ _ _) rfl rfl
            refine Acts.trans ?_ (acts_linkEpoch_eq (by assumption)) rfl rfl
            refine Acts.trans ?_ (acts_takePkt_eq (by assumption)) rfl rfl
            exact Acts.refl _ _ _
          clear_value a3
          refine Acts.trans ?_ (acts_letIn _ _) rfl rfl
          refine Acts.trans ?_ (acts_linkLocal _ _ _) rfl rfl
          with_reducible assumption

theorem acts_execAttestNonce (s : State) :
    ActsR 643728820428397743359861456896 0 s (execAttestNonce s) := by
  unfold execAttestNonce
  refine ActsR.next ?_
  split
  · exact Acts.refl _ _ _
  · refine Acts.ite (fun _ => ?_) (fun _ => ?_)
    · refine Acts.trans ?_ (acts_takePkt_eq (by assumption)) rfl rfl
      exact Acts.refl _ _ _
    · refine Acts.ite (fun _ => ?_) (fun _ => ?_)
      · exact Acts.refl _ _ _
      · extract_lets a1 a2
        clear_value (ea1 : a1 = _)
        have ha1 : Acts 643728820428397743359861456896 0 s a1.2 := by
          rw [ea1]
          clear ea1
          refine Acts.trans ?_ (acts_takeEvidence _ _) rfl rfl
          refine Acts.trans ?_ (acts_takePkt_eq (by assumption)) rfl rfl
          exact Acts.refl _ _ _
        clear ea1
        clear_value a2
        refine Acts.trans ?_ (acts_linkLocal _ _ _) rfl rfl
        refine Acts.trans ?_ (acts_setPort _ _ _) rfl rfl
        with_reducible assumption

theorem acts_execAttestResult (s : State) :
    ActsR 633825300356228217141528216022 237684563100656739794466898368 s (execAttestResult s) := by
  unfold execAttestResult
  refine ActsR.next ?_
  split
  · exact Acts.refl _ _ _
  · refine Acts.ite (fun _ => ?_) (fun _ => ?_)
    · refine Acts.trans ?_ (acts_takePkt_eq (by assumption)) rfl rfl
      exact Acts.refl _ _ _
    · extract_lets a1 a2
      clear_value a1
      clear_value a2
      refine Acts.ite (fun _ => ?_) (fun _ => ?_)
      · refine Acts.trans ?_ (acts_letIn _ _) rfl rfl
        refine Acts.trans ?_ (acts_setPort _ _ _) rfl rfl
        refine Acts.trans ?_ (acts_takePkt_eq (by assumption)) rfl rfl
        exact Acts.refl _ _ _
      · refine Acts.trans ?_ (acts_admitFail _ _ _) rfl rfl
        refine Acts.trans ?_ (acts_takePkt_eq (by assumption)) rfl rfl
        exact Acts.refl _ _ _

theorem acts_execRemoteResetVerified (s : State) :
    ActsR 40485346578501582935224880201296 680564733841876926926749214863536422911 s (execRemoteResetVerified s) := by
  unfold execRemoteResetVerified
  refine ActsR.next ?_
  refine Acts.ite (fun _ => ?_) (fun _ => ?_)
  · refine Acts.trans ?_ (acts_systemReset _ _) rfl rfl
    refine Acts.trans ?_ (Acts.set_remote _ _) rfl rfl
    exact Acts.refl _ _ _
  · exact Acts.refl _ _ _

theorem acts_execRemoteResetRsp (s : State) :
    ActsR 2473901162496 0 s (execRemoteResetRsp s) := by
  unfold execRemoteResetRsp
  refine ActsR.next ?_
  split
  · exact Acts.refl _ _ _
  · refine Acts.trans ?_ (Acts.set_remote _ _) rfl rfl
    refine Acts.trans ?_ (acts_takePkt_eq (by assumption)) rfl rfl
    exact Acts.refl _ _ _

theorem acts_execAttestationLimit (p : Nat) (s : State) :
    ActsR 633825300356228216866650309078 237684563100656739794466898368 s (execAttestationLimit p s) := by
  unfold execAttestationLimit
  refine ActsR.next ?_
  refine Acts.ite (fun _ => ?_) (fun _ => ?_)
  · refine Acts.trans ?_ (acts_admitFail _ _ _) rfl rfl
    exact Acts.refl _ _ _
  · exact Acts.refl _ _ _

theorem acts_execRemoteReset (s : State) :
    ActsR 633825300356228219340551471574 237684563100656738694955270592 s (execRemoteReset s) := by
  unfold execRemoteReset
  refine ActsR.next ?_
  split
  · exact Acts.refl _ _ _
  · refine Acts.ite (fun _ => ?_) (fun _ => ?_)
    · refine Acts.trans ?_ (acts_takePkt_eq (by assumption)) rfl rfl
      exact Acts.refl _ _ _
    · extract_lets a1 a2 a3 a4
      clear_value a1
      clear_value a2
      have ha3 : Acts 633825300356228219340551471574 237684563100656738694955270592 s a3 := by
        refine Acts.trans ?_ (Acts.set_remote _ _) rfl rfl
        refine Acts.trans ?_ (acts_takePkt_eq (by assumption)) rfl rfl
        exact Acts.refl _ _ _
      clear_value a3
      have ha4 : Acts 633825300356228219340551471574 237684563100656738694955270592 s a4 := by
        dsimp only [a4]
        refine Acts.trans ?_ (acts_fabSend _ _) rfl rfl
        with_reducible assumption
      clear_value a4
      refine Acts.ite (fun _ => ?_) (fun _ => ?_)
      · with_reducible assumption
      · refine Acts.trans ?_ (acts_logErr _ _ _ _ _ _) rfl rfl
        with_reducible assumption

end Sys2Proof.Machine
end

