-- ==== Sys2Proof/Laws/LongevityActs.lean ====
section
/-! SUPPORT. What each operation and each command of Longevity.lean may touch: `acts_<name>` bounds the fields and the registers that
`<name>` can change (see Acts.lean). -/

namespace Sys2Proof.Machine

open Sys2Proof

theorem acts_setSwap (s : State) (t : Nat) (w : Swap) :
    Acts 19807040628566084398385987584 0 s (State.setSwap s t w) := by
  unfold State.setSwap
  refine Acts.trans ?_ (Acts.set_mac _ _) rfl rfl
  exact Acts.refl _ _ _

theorem acts_swapDecide (s : State) (c : Nat) (why : Nat) :
    Acts 653632340984794301127597343190 237684563100656738694955270592 s (State.swapDecide s c why) := by
  unfold State.swapDecide
  extract_lets a1
  clear_value a1
  refine Acts.ite (fun _ => ?_) (fun _ => ?_)
  · refine Acts.trans ?_ (acts_setDue _ _) rfl rfl
    exact Acts.refl _ _ _
  · split
    · refine Acts.ite (fun _ => ?_) (fun _ => ?_)
      · refine Acts.trans ?_ (acts_logErr _ _ _ _ _ _) rfl rfl
        exact Acts.refl _ _ _
      · exact Acts.refl _ _ _
    · refine Acts.trans ?_ (acts_setSwap _ _ _) rfl rfl
      exact Acts.refl _ _ _

theorem acts_goOn (s : State) :
    Acts 653632340984794301127597343190 680564733841876926926749214863536422911 s (State.goOn s) := by
  unfold State.goOn
  extract_lets a1 a2
  have ha1 : Acts 653632340984794301127597343190 680564733841876926926749214863536422911 s a1 := by
    dsimp only [a1]
    refine Acts.foldl (L2 := 653632340984794301127597343190) (R2 := 680564733841876926926749214863536422911) _ ?_ (fun t3 x4 => ?_) rfl rfl
    · exact Acts.refl _ _ _
    · refine Acts.ite (fun _ => ?_) (fun _ => ?_)
      · refine Acts.trans ?_ (acts_setSwap _ _ _) rfl rfl
        exact Acts.refl _ _ _
      · exact Acts.refl _ _ _
  clear_value a1
  have ha2 : Acts 653632340984794301127597343190 680564733841876926926749214863536422911 s a2 := by
    dsimp only [a2]
    refine Acts.foldl (L2 := 653632340984794301127597343190) (R2 := 680564733841876926926749214863536422911) _ ?_ (fun t5 x6 => ?_) rfl rfl
    · with_reducible assumption
    · refine Acts.ite (fun _ => ?_) (fun _ => ?_)
      · refine Acts.trans ?_ (acts_swapDecide _ _ _) rfl rfl
        refine Acts.trans ?_ (acts_unDue _ _) rfl rfl
        exact Acts.refl _ _ _
      · exact Acts.refl _ _ _
  clear_value a2
  refine Acts.trans ?_ (acts_applyWires _) rfl rfl
  with_reducible assumption

theorem acts_mapRow (s : State) (a : Nat) (row : Nat) :
    Acts 19807040628566084398385987584 0 s (State.mapRow s a row) := by
  unfold State.mapRow
  extract_lets a1 a2
  clear_value a1
  clear_value a2
  refine Acts.trans ?_ (acts_logRepair _ _ _) rfl rfl
  refine Acts.trans ?_ (Acts.set_mac _ _) rfl rfl
  exact Acts.refl _ _ _

theorem acts_execCoreArrayRowSpare (arr : Nat) (row : Nat) (pass : Bool) (s : State) :
    ActsR 653632340984794301127597343190 680564733841876926926749214863536422911 s (execCoreArrayRowSpare arr row pass s) := by
  unfold execCoreArrayRowSpare
  extract_lets a1 a2 a3 a4
  clear_value a1
  clear_value a2
  clear_value a3
  have ha4 : Acts 653632340984794301127597343190 680564733841876926926749214863536422911 s a4 := by
    dsimp only [a4]
    refine Acts.trans ?_ (acts_onCore _ _ _) rfl rfl
    refine Acts.trans ?_ (acts_setSwap _ _ _) rfl rfl
    refine Acts.trans ?_ (acts_mapRow _ _ _) rfl rfl
    refine Acts.trans ?_ (acts_unDue _ _) rfl rfl
    exact Acts.refl _ _ _
  clear_value a4
  refine ActsR.next ?_
  refine Acts.ite (fun _ => ?_) (fun _ => ?_)
  · exact Acts.refl _ _ _
  · refine Acts.ite (fun _ => ?_) (fun _ => ?_)
    · refine Acts.ite (fun _ => ?_) (fun _ => ?_)
      · refine Acts.trans ?_ (acts_goOn _) rfl rfl
        refine Acts.trans ?_ (acts_logRepair _ _ _) rfl rfl
        with_reducible assumption
      · refine Acts.trans ?_ (acts_goOn _) rfl rfl
        refine Acts.trans ?_ (acts_logRepair _ _ _) rfl rfl
        refine Acts.trans ?_ (acts_setSlot _ _ _ _) rfl rfl
        with_reducible assumption
    · refine Acts.ite (fun _ => ?_) (fun _ => ?_)
      · exact Acts.refl _ _ _
      · split
        · refine Acts.ite (fun _ => ?_) (fun _ => ?_)
          · refine Acts.trans ?_ (acts_swapDecide _ _ _) rfl rfl
            exact Acts.refl _ _ _
          · exact Acts.refl _ _ _
        · refine Acts.trans ?_ (acts_mapRow _ _ _) rfl rfl
          refine Acts.trans ?_ (acts_unDue _ _) rfl rfl
          exact Acts.refl _ _ _

theorem acts_setMon (s : State) (n : Nat) (m : Mon) :
    Acts 19807040628566084398385987584 0 s (State.setMon s n m) := by
  unfold State.setMon
  refine Acts.trans ?_ (Acts.set_mac _ _) rfl rfl
  exact Acts.refl _ _ _

theorem acts_l3Out (s : State) (line : Nat) :
    ActsO 49536 0 s (State.l3Out s line) := by
  unfold State.l3Out
  split
  · refine ActsO.some ?_
    exact Acts.refl _ _ _
  · extract_lets a1
    refine ActsO.ite (fun _ => ?_) (fun _ => ?_)
    · refine ActsO.map (L2 := 49536) (R2 := 0) ?_ (fun t2 => ?_) rfl rfl
      · refine ActsO.trans ?_ (acts_depvbPut _ _ _) rfl rfl
        exact Acts.refl _ _ _
      · dsimp only [a1]
        refine Acts.trans ?_ (Acts.set_l3 _ _) rfl rfl
        exact Acts.refl _ _ _
    · refine ActsO.some ?_
      dsimp only [a1]
      refine Acts.trans ?_ (Acts.set_l3 _ _) rfl rfl
      refine Acts.ite (fun _ => ?_) (fun _ => ?_)
      · refine Acts.trans ?_ (acts_dramWrite _ _ _ _) rfl rfl
        exact Acts.refl _ _ _
      · exact Acts.refl _ _ _
theorem acts_l3Out_eq {s : State} {line : Nat} {t : State} (h : (State.l3Out s line) = some t) : Acts 49536 0 s t := acts_l3Out s line t h

theorem acts_gateSlot (s : State) (a : Nat) (keep : Bool) :
    Acts 4194384 32 s (State.gateSlot s a keep) := by
  unfold State.gateSlot
  extract_lets a1 a2 a3
  clear_value a1
  clear_value a2
  have ha3 : Acts 4194384 32 s a3 := by
    dsimp only [a3]
    refine Acts.trans ?_ (acts_lidClose _ _ _) rfl rfl
    refine Acts.trans ?_ (acts_lidDrain _ _ _) rfl rfl
    exact Acts.refl _ _ _
  clear_value a3
  refine Acts.ite (fun _ => ?_) (fun _ => ?_)
  · exact Acts.refl _ _ _
  · refine Acts.ite (fun _ => ?_) (fun _ => ?_)
    · refine Acts.foldl (L2 := 4194384) (R2 := 32) _ ?_ (fun t4 x5 => ?_) rfl rfl
      · exact Acts.refl _ _ _
      · refine Acts.trans ?_ (acts_evictL2 _ _ _) rfl rfl
        exact Acts.refl _ _ _
    · refine Acts.ite (fun _ => ?_) (fun _ => ?_)
      · exact Acts.refl _ _ _
      · refine Acts.ite (fun _ => ?_) (fun _ => ?_)
        · refine Acts.trans ?_ (acts_setCore _ _ _) rfl rfl
          with_reducible assumption
        · with_reducible assumption

theorem acts_backInval (s : State) (line : Nat) :
    Acts 633825300116420543770987184598 75557863725914323419584 s (State.backInval s line) := by
  unfold State.backInval
  extract_lets a1 a2 a3 a4
  clear_value a1
  clear_value a2
  have ha3 : Acts 633825300116420543770987184598 75557863725914323419584 s a3 := by
    dsimp only [a3]
    refine Acts.trans ?_ (acts_count _ _ _ _ _) rfl rfl
    refine Acts.trans ?_ (acts_dropCopies _ _) rfl rfl
    exact Acts.refl _ _ _
  clear_value a3
  have ha4 : Acts 633825300116420543770987184598 75557863725914323419584 s a4 := by
    dsimp only [a4]
    split
    · refine Acts.trans ?_ (acts_l3Put _ _ _) rfl rfl
      with_reducible assumption
    · with_reducible assumption
  clear_value a4
  refine Acts.trans ?_ (Acts.set_sieve _ _) rfl rfl
  with_reducible assumption

theorem acts_execSwapInReset (c : Nat) (s : State) :
    ActsR 653632340984794301127597343190 237684563100656738694955270593 s (execSwapInReset c s) := by
  unfold execSwapInReset
  extract_lets a1 a2 a3
  clear_value a1
  clear_value a2
  have ha3 : Acts 653632340984794301127597343190 237684563100656738694955270593 s a3 := by
    dsimp only [a3]
    refine Acts.trans ?_ (acts_logRepair _ _ _) rfl rfl
    exact Acts.refl _ _ _
  clear_value a3
  refine ActsR.next ?_
  refine Acts.ite (fun _ => ?_) (fun _ => ?_)
  · exact Acts.refl _ _ _
  · split
    · extract_lets a4
      have ha4 : Acts 653632340984794301127597343190 237684563100656738694955270593 s a4 := by
        dsimp only [a4]
        refine Acts.trans ?_ (acts_setCore _ _ _) rfl rfl
        refine Acts.trans ?_ (acts_setSlot _ _ _ _) rfl rfl
        refine Acts.trans ?_ (acts_setSlot _ _ _ _) rfl rfl
        with_reducible assumption
      clear_value a4
      refine Acts.trans ?_ (acts_logErr _ _ _ _ _ _) rfl rfl
      refine Acts.trans ?_ (acts_onCore _ _ _) rfl rfl
      with_reducible assumption
    · refine Acts.trans ?_ (acts_logErr _ _ _ _ _ _) rfl rfl
      refine Acts.trans ?_ (acts_onCore _ _ _) rfl rfl
      refine Acts.trans ?_ (acts_setSlot _ _ _ _) rfl rfl
      with_reducible assumption

theorem acts_volts (s : State) :
    Acts 16 4951760157141521099596496896 s (State.volts s) := by
  unfold State.volts
  refine Acts.foldl (L2 := 16) (R2 := 4951760157141521099596496896) _ ?_ (fun t1 x2 => ?_) rfl rfl
  · exact Acts.refl _ _ _
  · refine Acts.ite (fun _ => ?_) (fun _ => ?_)
    · exact Acts.refl _ _ _
    · refine Acts.trans ?_ (acts_setFld _ _ _ _) rfl rfl
      exact Acts.refl _ _ _

theorem acts_setGuard (s : State) (sup : Nat) (g : Nat) :
    Acts 19807040628566084398385987584 0 s (State.setGuard s sup g) := by
  unfold State.setGuard
  refine Acts.trans ?_ (Acts.set_mac _ _) rfl rfl
  exact Acts.refl _ _ _

theorem acts_calibrate (s : State) (rs : List Reading) :
    Acts 19807040628566084398385987600 4951760157141521099596496896 s (State.calibrate s rs) := by
  unfold State.calibrate
  refine Acts.trans ?_ (acts_volts _) rfl rfl
  refine Acts.foldl (L2 := 19807040628566084398385987600) (R2 := 4951760157141521099596496896) _ ?_ (fun t1 x2 => ?_) rfl rfl
  · exact Acts.refl _ _ _
  · refine Acts.ite (fun _ => ?_) (fun _ => ?_)
    · exact Acts.refl _ _ _
    · extract_lets a3 a4 a5
      clear_value a3
      have ha4 : Acts 19807040628566084398385987600 4951760157141521099596496896 t1 a4 := by
        dsimp only [a4]
        refine Acts.trans ?_ (acts_setMon _ _ _) rfl rfl
        exact Acts.refl _ _ _
      clear_value a4
      clear_value a5
      refine Acts.ite (fun _ => ?_) (fun _ => ?_)
      · with_reducible assumption
      · refine Acts.trans ?_ (acts_setGuard _ _ _) rfl rfl
        with_reducible assumption

theorem acts_replayLog (s : State) :
    Acts 19807040628566084398385987664 680564733841876926926749214863536422911 s (State.replayLog s) := by
  unfold State.replayLog
  extract_lets a1 a2
  have ha1 : Acts 19807040628566084398385987664 680564733841876926926749214863536422911 s a1 := by
    dsimp only [a1]
    refine Acts.foldl (L2 := 19807040628566084398385987664) (R2 := 680564733841876926926749214863536422911) _ ?_ (fun t3 x4 => ?_) rfl rfl
    · exact Acts.refl _ _ _
    · refine Acts.trans ?_ (Acts.wr _ _ _ _) rfl rfl
      exact Acts.refl _ _ _
  clear_value a1
  have ha2 : Acts 19807040628566084398385987664 680564733841876926926749214863536422911 s a2 := by
    dsimp only [a2]
    refine Acts.foldl (L2 := 19807040628566084398385987664) (R2 := 680564733841876926926749214863536422911) _ ?_ (fun t5 x6 => ?_) rfl rfl
    · with_reducible assumption
    · refine Acts.ite (fun _ => ?_) (fun _ => ?_)
      · exact Acts.refl _ _ _
      · refine Acts.trans ?_ (acts_onCore _ _ _) rfl rfl
        exact Acts.refl _ _ _
  clear_value a2
  refine Acts.foldl (L2 := 19807040628566084398385987664) (R2 := 680564733841876926926749214863536422911) _ ?_ (fun t7 x8 => ?_) rfl rfl
  · with_reducible assumption
  · refine Acts.ite (fun _ => ?_) (fun _ => ?_)
    · extract_lets a9
      clear_value a9
      refine Acts.ite (fun _ => ?_) (fun _ => ?_)
      · refine Acts.trans ?_ (acts_setFld _ _ _ _) rfl (RegId.inAll _)
        exact Acts.refl _ _ _
      · exact Acts.refl _ _ _
    · refine Acts.ite (fun _ => ?_) (fun _ => ?_)
      · extract_lets a10 a11
        clear_value a10
        clear_value a11
        refine Acts.trans ?_ (Acts.set_mac _ _) rfl rfl
        exact Acts.refl _ _ _
      · exact Acts.refl _ _ _

theorem acts_execSramRowSpare (arr : Nat) (row : Nat) (sets : List Nat) (s : State) :
    ActsR 653632340984794301127597343190 237684563100656738694955270592 s (execSramRowSpare arr row sets s) := by
  unfold execSramRowSpare
  extract_lets a1 a2 a3 a4 a5 a6 a7 a8
  clear_value a1
  clear_value a3
  clear_value a4
  clear_value (ea5 : a5 = _)
  have ha5 : Acts 653632340984794301127597343190 237684563100656738694955270592 s a5.2 := by
    rw [ea5]
    clear ea5
    refine Acts.foldl2 (L2 := 653632340984794301127597343190) (R2 := 237684563100656738694955270592) _ ?_ (fun t9 x10 => ?_) rfl rfl
    · exact Acts.refl _ _ _
    · split
      · dsimp only
        refine Acts.trans ?_ (acts_l3Out_eq (by assumption)) rfl rfl
        exact Acts.refl _ _ _
      · exact Acts.refl _ _ _
  clear ea5
  clear_value a6
  clear_value a8
  refine ActsR.next ?_
  refine Acts.ite (fun _ => ?_) (fun _ => ?_)
  · exact Acts.refl _ _ _
  · refine Acts.ite (fun _ => ?_) (fun _ => ?_)
    · refine Acts.ite (fun _ => ?_) (fun _ => ?_)
      · dsimp only [a2]
        refine Acts.trans ?_ (acts_logErr _ _ _ _ _ _) rfl rfl
        refine Acts.trans ?_ (acts_mapRow _ _ _) rfl rfl
        refine Acts.trans ?_ (acts_unDue _ _) rfl rfl
        dsimp only [a7]
        refine Acts.trans ?_ (Acts.set_mac _ _) rfl rfl
        with_reducible assumption
      · dsimp only [a7]
        refine Acts.trans ?_ (Acts.set_mac _ _) rfl rfl
        with_reducible assumption
    · refine Acts.ite (fun _ => ?_) (fun _ => ?_)
      · dsimp only [a2]
        refine Acts.trans ?_ (acts_logErr _ _ _ _ _ _) rfl rfl
        refine Acts.trans ?_ (acts_mapRow _ _ _) rfl rfl
        refine Acts.trans ?_ (acts_unDue _ _) rfl rfl
        refine Acts.foldl (L2 := 653632340984794301127597343190) (R2 := 237684563100656738694955270592) _ ?_ (fun t11 x12 => ?_) rfl rfl
        · exact Acts.refl _ _ _
        · refine Acts.trans ?_ (acts_backInval _ _) rfl rfl
          exact Acts.refl _ _ _
      · refine Acts.ite (fun _ => ?_) (fun _ => ?_)
        · dsimp only [a2]
          refine Acts.trans ?_ (acts_logErr _ _ _ _ _ _) rfl rfl
          refine Acts.trans ?_ (acts_mapRow _ _ _) rfl rfl
          refine Acts.trans ?_ (acts_unDue _ _) rfl rfl
          exact Acts.refl _ _ _
        · refine Acts.trans ?_ (acts_mapRow _ _ _) rfl rfl
          refine Acts.trans ?_ (acts_unDue _ _) rfl rfl
          exact Acts.refl _ _ _

theorem acts_execSpdLogWrite (ch : Nat) (dimm : Nat) (typ : Nat) (rankDev : Nat) (bank : Nat) (row : Nat) (good : Bool) (s : State) :
    ActsR 713053462870492554322755305942 237684563100656738694955270592 s (execSpdLogWrite ch dimm typ rankDev bank row good s) := by
  unfold execSpdLogWrite
  extract_lets a1 a2 a3
  clear_value a1
  clear_value a2
  clear_value a3
  refine ActsR.next ?_
  refine Acts.ite (fun _ => ?_) (fun _ => ?_)
  · exact Acts.refl _ _ _
  · refine Acts.ite (fun _ => ?_) (fun _ => ?_)
    · refine Acts.trans ?_ (acts_logErr _ _ _ _ _ _) rfl rfl
      exact Acts.refl _ _ _
    · split
      · refine Acts.trans ?_ (acts_spdPut _ _ _ _ _ _ _) rfl rfl
        exact Acts.refl _ _ _
      · refine Acts.trans ?_ (acts_spdPut _ _ _ _ _ _ _) rfl rfl
        exact Acts.refl _ _ _
      · exact Acts.refl _ _ _

theorem acts_countErr (s : State) (code : Nat) (addr : Nat) (place : Nat) :
    Acts 19807040628566084398385987584 0 s (State.countErr s code addr place) := by
  unfold State.countErr
  refine Acts.ite (fun _ => ?_) (fun _ => ?_)
  · extract_lets a1 a2 a3 a4 a5 a6
    clear_value a1
    clear_value a2
    clear_value (ea3 : a3 = _)
    have ha3 : Acts 19807040628566084398385987584 0 s a3.2 := by
      rw [ea3]
      clear ea3
      refine Acts.trans ?_ (acts_note _ _ _ _) rfl rfl
      exact Acts.refl _ _ _
    clear ea3
    have ha4 : Acts 19807040628566084398385987584 0 s a4 := by
      dsimp only [a4]
      refine Acts.ite (fun _ => ?_) (fun _ => ?_)
      · refine Acts.trans ?_ (acts_setDue _ _) rfl rfl
        refine Acts.trans ?_ (acts_forget _ _) rfl rfl
        with_reducible assumption
      · with_reducible assumption
    clear_value a4
    clear_value a5
    clear_value (ea6 : a6 = _)
    have ha6 : Acts 19807040628566084398385987584 0 s a6.2 := by
      rw [ea6]
      clear ea6
      refine Acts.trans ?_ (acts_note _ _ _ _) rfl rfl
      with_reducible assumption
    clear ea6
    refine Acts.ite (fun _ => ?_) (fun _ => ?_)
    · refine Acts.trans ?_ (acts_logRepair _ _ _) rfl rfl
      refine Acts.trans ?_ (acts_forget _ _) rfl rfl
      with_reducible assumption
    · with_reducible assumption
  · refine Acts.ite (fun _ => ?_) (fun _ => ?_)
    · extract_lets a7
      clear_value (ea7 : a7 = _)
      have ha7 : Acts 19807040628566084398385987584 0 s a7.2 := by
        rw [ea7]
        clear ea7
        refine Acts.trans ?_ (acts_note _ _ _ _) rfl rfl
        exact Acts.refl _ _ _
      clear ea7
      refine Acts.ite (fun _ => ?_) (fun _ => ?_)
      · refine Acts.trans ?_ (acts_setDue _ _) rfl rfl
        refine Acts.trans ?_ (acts_forget _ _) rfl rfl
        with_reducible assumption
      · with_reducible assumption
    · exact Acts.refl _ _ _

theorem acts_raiseGuard (s : State) (mon : Nat) :
    Acts 653632340984794301127597343190 242636323257798259794551767488 s (State.raiseGuard s mon) := by
  unfold State.raiseGuard
  extract_lets a1 a2 a3 a4 a5
  clear_value a1
  clear_value a2
  clear_value a3
  clear_value a4
  have ha5 : Acts 653632340984794301127597343190 242636323257798259794551767488 s a5 := by
    refine Acts.trans ?_ (Acts.set_mac _ _) rfl rfl
    exact Acts.refl _ _ _
  clear_value a5
  refine Acts.trans ?_ (acts_logErr _ _ _ _ _ _) rfl rfl
  refine Acts.trans ?_ (acts_volts _) rfl rfl
  refine Acts.trans ?_ (acts_setGuard _ _ _) rfl rfl
  with_reducible assumption

theorem acts_execRepairLogAppend (bad : List Nat) (s : State) :
    ActsR 653642012391351218160994992598 237684563100656738694955270592 s (execRepairLogAppend bad s) := by
  unfold execRepairLogAppend
  refine ActsR.next ?_
  split
  · exact Acts.refl _ _ _
  · extract_lets a1 a2
    clear_value a2
    split
    · refine Acts.trans ?_ (acts_logErr _ _ _ _ _ _) rfl rfl
      dsimp only [a1]
      refine Acts.trans ?_ (Acts.set_mac _ _) rfl rfl
      exact Acts.refl _ _ _
    · extract_lets a3 a4
      clear_value a3
      have ha4 : Acts 653642012391351218160994992598 237684563100656738694955270592 s a4 := by
        dsimp only [a4]
        refine Acts.trans ?_ (acts_burnAll _ _ _) rfl rfl
        exact Acts.refl _ _ _
      clear_value a4
      split
      · refine Acts.trans ?_ (acts_burnAll _ _ _) rfl rfl
        exact Acts.refl _ _ _
      · refine Acts.ite (fun _ => ?_) (fun _ => ?_)
        · dsimp only [a1]
          refine Acts.trans ?_ (Acts.set_mac _ _) rfl rfl
          with_reducible assumption
        · with_reducible assumption

theorem acts_sample (s : State) (r : Reading) :
    Acts 653632340984794301127597343190 242636323257798259794551767488 s (State.sample s r) := by
  unfold State.sample
  refine Acts.ite (fun _ => ?_) (fun _ => ?_)
  · exact Acts.refl _ _ _
  · extract_lets a1 a2 a3 a4 a5 a6 a7
    clear_value a1
    clear_value a2
    clear_value a3
    clear_value a4
    clear_value a5
    have ha6 : Acts 653632340984794301127597343190 242636323257798259794551767488 s a6 := by
      dsimp only [a6]
      refine Acts.trans ?_ (acts_setMon _ _ _) rfl rfl
      exact Acts.refl _ _ _
    clear_value a6
    have ha7 : Acts 653632340984794301127597343190 242636323257798259794551767488 s a7 := by
      dsimp only [a7]
      refine Acts.ite (fun _ => ?_) (fun _ => ?_)
      · refine Acts.trans ?_ (acts_raiseGuard _ _) rfl rfl
        with_reducible assumption
      · with_reducible assumption
    clear_value a7
    refine Acts.ite (fun _ => ?_) (fun _ => ?_)
    · with_reducible assumption
    · refine Acts.ite (fun _ => ?_) (fun _ => ?_)
      · refine Acts.trans ?_ (acts_swapDecide _ _ _) rfl rfl
        with_reducible assumption
      · refine Acts.trans ?_ (acts_logErr _ _ _ _ _ _) rfl rfl
        with_reducible assumption

theorem acts_execOldSlotGated (t : Nat) (s : State) :
    ActsR 653632340984794301127601537494 680564733841876926926749214863536422911 s (execOldSlotGated t s) := by
  unfold execOldSlotGated
  extract_lets a1 a2 a3 a4
  clear_value a1
  clear_value a2
  clear_value a3
  have ha4 : Acts 653632340984794301127601537494 680564733841876926926749214863536422911 s a4 := by
    dsimp only [a4]
    refine Acts.foldl (L2 := 653632340984794301127601537494) (R2 := 680564733841876926926749214863536422911) _ ?_ (fun t5 x6 => ?_) rfl rfl
    · exact Acts.refl _ _ _
    · refine Acts.trans ?_ (acts_gateSlot _ _ _) rfl rfl
      exact Acts.refl _ _ _
  clear_value a4
  refine ActsR.next ?_
  refine Acts.ite (fun _ => ?_) (fun _ => ?_)
  · exact Acts.refl _ _ _
  · refine Acts.ite (fun _ => ?_) (fun _ => ?_)
    · refine Acts.ite (fun _ => ?_) (fun _ => ?_)
      · with_reducible assumption
      · refine Acts.trans ?_ (acts_setSwap _ _ _) rfl rfl
        with_reducible assumption
    · refine Acts.ite (fun _ => ?_) (fun _ => ?_)
      · with_reducible assumption
      · refine Acts.trans ?_ (acts_goOn _) rfl rfl
        refine Acts.trans ?_ (acts_logRepair _ _ _) rfl rfl
        refine Acts.trans ?_ (acts_setSwap _ _ _) rfl rfl
        with_reducible assumption

theorem acts_execAgeingSample (rs : List Reading) (s : State) :
    ActsR 653632340984794301127597343190 680564733841876926926749214863536422911 s (execAgeingSample rs s) := by
  unfold execAgeingSample
  refine ActsR.next ?_
  refine Acts.trans ?_ (acts_goOn _) rfl rfl
  refine Acts.foldl (L2 := 653632340984794301127597343190) (R2 := 680564733841876926926749214863536422911) _ ?_ (fun t1 x2 => ?_) rfl rfl
  · exact Acts.refl _ _ _
  · refine Acts.trans ?_ (acts_sample _ _) rfl rfl
    exact Acts.refl _ _ _

theorem acts_execLiveCoreSwap (t : Nat) (s : State) :
    ActsR 653632340984794301127601537494 680564733841876926926749214863536422911 s (execLiveCoreSwap t s) := by
  unfold execLiveCoreSwap
  extract_lets a1 a2 a3 a4 a5 a6 a7 a8
  clear_value a1
  clear_value a2
  clear_value a3
  clear_value a4
  clear_value a5
  have ha6 : Acts 653632340984794301127601537494 680564733841876926926749214863536422911 s a6 := by
    dsimp only [a6]
    refine Acts.trans ?_ (acts_moveHart _ _ _ _) rfl rfl
    exact Acts.refl _ _ _
  clear_value a6
  have ha7 : Acts 653632340984794301127601537494 680564733841876926926749214863536422911 s a7 := by
    dsimp only [a7]
    refine Acts.trans ?_ (acts_lidOpen _ _ _) rfl rfl
    refine Acts.trans ?_ (acts_onCore _ _ _) rfl rfl
    with_reducible assumption
  clear_value a7
  have ha8 : Acts 653632340984794301127601537494 680564733841876926926749214863536422911 s a8 := by
    dsimp only [a8]
    split
    · with_reducible assumption
    · refine Acts.trans ?_ (acts_openIval _ _) rfl rfl
      refine Acts.trans ?_ (acts_setPair _ _ _) rfl rfl
      with_reducible assumption
  clear_value a8
  refine ActsR.next ?_
  refine Acts.ite (fun _ => ?_) (fun _ => ?_)
  · exact Acts.refl _ _ _
  · refine Acts.ite (fun _ => ?_) (fun _ => ?_)
    · refine Acts.ite (fun _ => ?_) (fun _ => ?_)
      · refine Acts.trans ?_ (acts_closeIval _ _) rfl rfl
        exact Acts.refl _ _ _
      · exact Acts.refl _ _ _
    · refine Acts.ite (fun _ => ?_) (fun _ => ?_)
      · refine Acts.trans ?_ (acts_onCore _ _ _) rfl rfl
        exact Acts.refl _ _ _
      · refine Acts.trans ?_ (acts_logErr _ _ _ _ _ _) rfl rfl
        refine Acts.trans ?_ (acts_setSwap _ _ _) rfl rfl
        with_reducible assumption

theorem acts_arrayError (s : State) (source : Nat) (unit : Nat) (code : Nat) (addr : Nat) :
    Acts 16448 0 s (State.arrayError s source unit code addr) := by
  unfold State.arrayError
  extract_lets a1
  clear_value a1
  split
  · exact Acts.refl _ _ _
  · refine Acts.ite (fun _ => ?_) (fun _ => ?_)
    · extract_lets a2
      clear_value a2
      split
      · exact Acts.refl _ _ _
      · refine Acts.ite (fun _ => ?_) (fun _ => ?_)
        · refine Acts.trans ?_ (acts_onCore _ _ _) rfl rfl
          exact Acts.refl _ _ _
        · refine Acts.trans ?_ (acts_onCore _ _ _) rfl rfl
          exact Acts.refl _ _ _
    · refine Acts.ite (fun _ => ?_) (fun _ => ?_)
      · split
        · exact Acts.refl _ _ _
        · refine Acts.trans ?_ (Acts.set_l3 _ _) rfl rfl
          exact Acts.refl _ _ _
      · exact Acts.refl _ _ _

theorem acts_execSwapSparePowered (t : Nat) (s : State) :
    ActsR 19807040628566084398385987648 0 s (execSwapSparePowered t s) := by
  unfold execSwapSparePowered
  extract_lets a1 a2
  clear_value a1
  have ha2 : Acts 19807040628566084398385987648 0 s a2 := by
    dsimp only [a2]
    refine Acts.trans ?_ (acts_setSwap _ _ _) rfl rfl
    exact Acts.refl _ _ _
  clear_value a2
  refine ActsR.next ?_
  refine Acts.ite (fun _ => ?_) (fun _ => ?_)
  · exact Acts.refl _ _ _
  · refine Acts.ite (fun _ => ?_) (fun _ => ?_)
    · exact Acts.refl _ _ _
    · refine Acts.trans ?_ (acts_onCore _ _ _) rfl rfl
      with_reducible assumption

end Sys2Proof.Machine
end

