-- ==== Sys2Proof/Laws/RcpActs.lean ====
section
/-! SUPPORT. What each operation and each command of Rcp.lean may touch: `acts_<name>` bounds the fields and the registers that
`<name>` can change (see Acts.lean). -/

namespace Sys2Proof.Machine

open Sys2Proof

theorem acts_pStart (s : State) (p : Nat) :
    Acts 906694364710971881029648 4951760157141521099596496896 s (State.pStart s p) := by
  unfold State.pStart
  extract_lets a1 a2 a3
  clear_value a1
  clear_value a2
  have ha3 : Acts 906694364710971881029648 4951760157141521099596496896 s a3 := by
    dsimp only [a3]
    refine Acts.trans ?_ (acts_setFld _ _ _ _) rfl rfl
    refine Acts.trans ?_ (Acts.set_pGoal _ _) rfl rfl
    exact Acts.refl _ _ _
  clear_value a3
  refine Acts.ite (fun _ => ?_) (fun _ => ?_)
  · exact Acts.refl _ _ _
  · refine Acts.ite (fun _ => ?_) (fun _ => ?_)
    · with_reducible assumption
    · refine Acts.trans ?_ (Acts.set_pStop _ _) rfl rfl
      with_reducible assumption

theorem acts_pEnd (s : State) (p : Nat) :
    Acts 653633247679159012099478372822 680564733841876926926749214863536422911 s (State.pEnd s p) := by
  unfold State.pEnd
  refine Acts.trans ?_ (acts_goOn _) rfl rfl
  refine Acts.trans ?_ (acts_pStart _ _) rfl rfl
  refine Acts.trans ?_ (acts_setFld _ _ _ _) rfl rfl
  exact Acts.refl _ _ _

theorem acts_execPstateChangeDone (p : Nat) (s : State) :
    ActsR 653633247679159012099478372822 680564733841876926926749214863536422911 s (execPstateChangeDone p s) := by
  unfold execPstateChangeDone
  refine ActsR.next ?_
  refine Acts.ite (fun _ => ?_) (fun _ => ?_)
  · exact Acts.refl _ _ _
  · extract_lets a1 a2 a3 a4
    clear_value a1
    have ha3 : Acts 653633247679159012099478372822 680564733841876926926749214863536422911 s a3 := by
      dsimp only [a3]
      refine Acts.trans ?_ (acts_setFld _ _ _ _) rfl rfl
      refine Acts.trans ?_ (Acts.set_pStop _ _) rfl rfl
      exact Acts.refl _ _ _
    clear_value a3
    have ha4 : Acts 653633247679159012099478372822 680564733841876926926749214863536422911 s a4 := by
      dsimp only [a4]
      refine Acts.trans ?_ (acts_setFld _ _ _ _) rfl rfl
      exact Acts.refl _ _ _
    clear_value a4
    refine Acts.ite (fun _ => ?_) (fun _ => ?_)
    · refine Acts.ite (fun _ => ?_) (fun _ => ?_)
      · refine Acts.trans ?_ (acts_pEnd _ _) rfl rfl
        with_reducible assumption
      · with_reducible assumption
    · refine Acts.ite (fun _ => ?_) (fun _ => ?_)
      · refine Acts.trans ?_ (acts_pEnd _ _) rfl rfl
        with_reducible assumption
      · refine Acts.trans ?_ (Acts.set_pStop _ _) rfl rfl
        with_reducible assumption

theorem acts_unitDrain (s : State) (u : Nat) :
    Acts 33554448 32 s (State.unitDrain s u) := by
  unfold State.unitDrain
  refine Acts.foldl (L2 := 33554448) (R2 := 32) _ ?_ (fun t1 x2 => ?_) rfl rfl
  · exact Acts.refl _ _ _
  · extract_lets a3 a4
    clear_value a3
    have ha4 : Acts 33554448 32 t1 a4 := by
      dsimp only [a4]
      refine Acts.trans ?_ (acts_lidDrain _ _ _) rfl rfl
      exact Acts.refl _ _ _
    clear_value a4
    refine Acts.trans ?_ (Acts.set_lidHeld _ _) rfl rfl
    with_reducible assumption

theorem acts_downStart (s : State) (u : Nat) :
    Acts 33554448 9903520314283042199192993824 s (State.downStart s u) := by
  unfold State.downStart
  refine Acts.ite (fun _ => ?_) (fun _ => ?_)
  · refine Acts.trans ?_ (acts_unitDrain _ _) rfl rfl
    refine Acts.trans ?_ (acts_setFld _ _ _ _) rfl rfl
    exact Acts.refl _ _ _
  · exact Acts.refl _ _ _

theorem acts_powerAct (s : State) (u : Nat) :
    Acts 33554448 9903520314283042199192993824 s (State.powerAct s u) := by
  unfold State.powerAct
  refine Acts.ite (fun _ => ?_) (fun _ => ?_)
  · refine Acts.trans ?_ (acts_setFld _ _ _ _) rfl rfl
    exact Acts.refl _ _ _
  · refine Acts.trans ?_ (acts_downStart _ _) rfl rfl
    exact Acts.refl _ _ _

theorem acts_execPwrOn (ag : Agent) (u : Nat) (w : W) (s : State) :
    ActsR 3169126500849580507870083006966 247588083414939780894148264416 s (execPwrOn ag u w s) := by
  unfold execPwrOn
  refine ActsR.next ?_
  refine Acts.trans ?_ (acts_onWrite (L := 3169126500849580507870083006966) (R := 247588083414939780894148264416) _ _ _ _ _ ?_ rfl rfl) rfl rfl
  · exact Acts.refl _ _ _
  · intro t1
    refine Acts.ite (fun _ => ?_) (fun _ => ?_)
    · refine Acts.trans ?_ (acts_powerAct _ _) rfl rfl
      exact Acts.refl _ _ _
    · exact Acts.refl _ _ _

theorem acts_execVbakLost (s : State) :
    ActsR 16 4332790137498830962146934784 s (execVbakLost s) := by
  unfold execVbakLost
  refine ActsR.next ?_
  refine Acts.trans ?_ (Acts.wr _ _ _ _) rfl rfl
  refine Acts.trans ?_ (Acts.wr _ _ _ _) rfl rfl
  refine Acts.trans ?_ (Acts.wr _ _ _ _) rfl rfl
  refine Acts.trans ?_ (Acts.wr _ _ _ _) rfl rfl
  exact Acts.refl _ _ _

theorem acts_loadGeneration (s : State) :
    Acts 16 1267650600228229401496703205376 s (State.loadGeneration s) := by
  unfold State.loadGeneration
  extract_lets a1
  clear_value a1
  refine Acts.foldl (L2 := 16) (R2 := 1267650600228229401496703205376) _ ?_ (fun t2 x3 => ?_) rfl rfl
  · exact Acts.refl _ _ _
  · refine Acts.trans ?_ (Acts.wr _ _ _ _) rfl rfl
    exact Acts.refl _ _ _

theorem acts_stepWork (s : State) (n : Nat) :
    Acts 13488633391460968849405957374040 680564733841876926926749214863536422911 s (State.stepWork s n) := by
  unfold State.stepWork
  split
  · refine Acts.trans ?_ (Acts.set_dtime _ _) rfl rfl
    exact Acts.refl _ _ _
  · refine Acts.trans ?_ (acts_wdogLoad _ _ _) rfl rfl
    refine Acts.trans ?_ (acts_setFld _ _ _ _) rfl rfl
    refine Acts.trans ?_ (acts_setFld _ _ _ _) rfl rfl
    exact Acts.refl _ _ _
  · refine Acts.trans ?_ (acts_loadGeneration _) rfl rfl
    exact Acts.refl _ _ _
  · extract_lets a1
    have ha1 : Acts 13488633391460968849405957374040 680564733841876926926749214863536422911 s a1 := by
      dsimp only [a1]
      refine Acts.trans ?_ (acts_replayLog _) rfl rfl
      exact Acts.refl _ _ _
    clear_value a1
    refine Acts.ite (fun _ => ?_) (fun _ => ?_)
    · refine Acts.trans ?_ (acts_raise _ _) rfl rfl
      with_reducible assumption
    · with_reducible assumption
  · refine Acts.foldl (L2 := 13488633391460968849405957374040) (R2 := 680564733841876926926749214863536422911) _ ?_ (fun t2 x3 => ?_) rfl rfl
    · exact Acts.refl _ _ _
    · refine Acts.trans ?_ (acts_setFld _ _ _ _) rfl rfl
      exact Acts.refl _ _ _
  · split
    · extract_lets a4 a5
      have ha4 : Acts 13488633391460968849405957374040 680564733841876926926749214863536422911 s a4 := by
        dsimp only [a4]
        refine Acts.trans ?_ (acts_coreRelease _ _) rfl rfl
        refine Acts.trans ?_ (Acts.wr _ _ _ _) rfl rfl
        exact Acts.refl _ _ _
      clear_value a4
      have ha5 : Acts 13488633391460968849405957374040 680564733841876926926749214863536422911 s a5 := by
        refine Acts.trans ?_ (Acts.set_readyPin_bootStep _ _ _) rfl rfl
        with_reducible assumption
      clear_value a5
      refine Acts.ite (fun _ => ?_) (fun _ => ?_)
      · refine Acts.trans ?_ (acts_raise _ _) rfl rfl
        with_reducible assumption
      · with_reducible assumption
    · exact Acts.refl _ _ _
  · exact Acts.refl _ _ _

theorem acts_execDomainRelease (step : Nat) (cal : List Reading) (s : State) :
    ActsR 13488633392346412564944015851608 680564733841876926926749214863536422911 s (execDomainRelease step cal s) := by
  unfold execDomainRelease
  extract_lets a1 a2
  clear_value a1
  have ha2 : Acts 13488633392346412564944015851608 680564733841876926926749214863536422911 s a2 := by
    dsimp only [a2]
    refine Acts.ite (fun _ => ?_) (fun _ => ?_)
    · refine Acts.trans ?_ (acts_calibrate _ _) rfl rfl
      exact Acts.refl _ _ _
    · exact Acts.refl _ _ _
  clear_value a2
  refine ActsR.next ?_
  refine Acts.ite (fun _ => ?_) (fun _ => ?_)
  · exact Acts.refl _ _ _
  · refine Acts.trans ?_ (acts_stepWork _ _) rfl rfl
    refine Acts.trans ?_ (Acts.set_rstLevel_relStep _ _ _) rfl rfl
    with_reducible assumption

theorem acts_execLockLoss (d : ClockDom) (s : State) :
    ActsR 40485346654059446661139203620822 680564733841876926926749214863536422911 s (execLockLoss d s) := by
  unfold execLockLoss
  refine ActsR.next ?_
  split
  · refine Acts.trans ?_ (acts_enterReset _ _ _) rfl rfl
    refine Acts.trans ?_ (Acts.set_cphKeys_keys_kek _ _ _ _) rfl rfl
    exact Acts.refl _ _ _
  · refine Acts.trans ?_ (acts_enterReset _ _ _) rfl rfl
    refine Acts.trans ?_ (Acts.set_cphKeys_keys_kek _ _ _ _) rfl rfl
    exact Acts.refl _ _ _
  · refine Acts.trans ?_ (acts_systemReset _ _) rfl rfl
    exact Acts.refl _ _ _
  · refine Acts.trans ?_ (acts_systemReset _ _) rfl rfl
    exact Acts.refl _ _ _
  · refine Acts.ite (fun _ => ?_) (fun _ => ?_)
    · exact Acts.refl _ _ _
    · extract_lets a1 a2 a3 a4 a5
      clear_value (ea1 : a1 = _)
      have ha1 : Acts 40485346654059446661139203620822 680564733841876926926749214863536422911 s a1.2 := by
        rw [ea1]
        clear ea1
        refine Acts.trans ?_ (acts_note _ _ _ _) rfl rfl
        exact Acts.refl _ _ _
      clear ea1
      have ha2 : Acts 40485346654059446661139203620822 680564733841876926926749214863536422911 s a2 := by
        dsimp only [a2]
        with_reducible assumption
      clear_value a2
      have ha3 : Acts 40485346654059446661139203620822 680564733841876926926749214863536422911 s a3 := by
        refine Acts.trans ?_ (Acts.set_unlocked _ _) rfl rfl
        with_reducible assumption
      clear_value a3
      clear_value a4
      have ha5 : Acts 40485346654059446661139203620822 680564733841876926926749214863536422911 s a5 := by
        dsimp only [a5]
        refine Acts.ite (fun _ => ?_) (fun _ => ?_)
        · refine Acts.trans ?_ (Acts.set_mac _ _) rfl rfl
          with_reducible assumption
        · with_reducible assumption
      clear_value a5
      refine Acts.trans ?_ (acts_coreResetStep _ _) rfl rfl
      with_reducible assumption
  · refine Acts.ite (fun _ => ?_) (fun _ => ?_)
    · exact Acts.refl _ _ _
    · extract_lets a6
      clear_value a6
      refine Acts.trans ?_ (acts_channelLost _ _) rfl rfl
      refine Acts.trans ?_ (acts_unitDrain _ _) rfl rfl
      refine Acts.trans ?_ (Acts.set_unlocked _ _) rfl rfl
      exact Acts.refl _ _ _
  · refine Acts.ite (fun _ => ?_) (fun _ => ?_)
    · exact Acts.refl _ _ _
    · refine Acts.trans ?_ (acts_unitDrain _ _) rfl rfl
      refine Acts.trans ?_ (Acts.set_unlocked _ _) rfl rfl
      exact Acts.refl _ _ _
  · exact Acts.refl _ _ _

theorem acts_unitOpen (s : State) (u : Nat) :
    Acts 33554448 32 s (State.unitOpen s u) := by
  unfold State.unitOpen
  refine Acts.foldl (L2 := 33554448) (R2 := 32) _ ?_ (fun t1 x2 => ?_) rfl rfl
  · exact Acts.refl _ _ _
  · extract_lets a3
    clear_value a3
    refine Acts.trans ?_ (acts_lidOpen _ _ _) rfl rfl
    refine Acts.trans ?_ (Acts.set_lidHeld _ _) rfl rfl
    exact Acts.refl _ _ _

theorem acts_execOptionLoading (src : Nat) (recov : Bool) (s : State) :
    ActsR 38685626227668133590611984 4951760157429751475748208640 s (execOptionLoading src recov s) := by
  unfold execOptionLoading
  refine ActsR.next ?_
  refine Acts.ite (fun _ => ?_) (fun _ => ?_)
  · exact Acts.refl _ _ _
  · extract_lets a1 a2 a3
    clear_value a1
    have ha2 : Acts 38685626227668133590611984 4951760157429751475748208640 s a2 := by
      refine Acts.trans ?_ (Acts.set_opt_bootSrc_recovSel_bootStep _ _ _ _ _) rfl rfl
      exact Acts.refl _ _ _
    clear_value a2
    have ha3 : Acts 38685626227668133590611984 4951760157429751475748208640 s a3 := by
      dsimp only [a3]
      refine Acts.foldl (L2 := 38685626227668133590611984) (R2 := 4951760157429751475748208640) _ ?_ (fun t4 x5 => ?_) rfl rfl
      · with_reducible assumption
      · refine Acts.trans ?_ (acts_setFld _ _ _ _) rfl rfl
        refine Acts.trans ?_ (acts_setFld _ _ _ _) rfl rfl
        refine Acts.trans ?_ (acts_setFld _ _ _ _) rfl rfl
        exact Acts.refl _ _ _
    clear_value a3
    refine Acts.ite (fun _ => ?_) (fun _ => ?_)
    · refine Acts.trans ?_ (acts_setFld _ _ _ _) rfl rfl
      with_reducible assumption
    · with_reducible assumption

theorem acts_execKick (ag : Agent) (wd : Nat) (w : W) (s : State) :
    ActsR 13310331302675415719843675095542 277298644357788907491727245760 s (execKick ag wd w s) := by
  unfold execKick
  extract_lets a1
  clear_value a1
  refine ActsR.next ?_
  refine Acts.trans ?_ (acts_onWrite (L := 13310331302675415719843675095542) (R := 277298644357788907491727245760) _ _ _ _ _ ?_ rfl rfl) rfl rfl
  · exact Acts.refl _ _ _
  · intro t2
    extract_lets a3
    clear_value a3
    refine Acts.ite (fun _ => ?_) (fun _ => ?_)
    · refine Acts.trans ?_ (acts_setFld _ _ _ _) rfl rfl
      exact Acts.refl _ _ _
    · refine Acts.ite (fun _ => ?_) (fun _ => ?_)
      · refine Acts.trans ?_ (acts_wdogLoad _ _ _) rfl rfl
        exact Acts.refl _ _ _
      · exact Acts.refl _ _ _

theorem acts_execPwrgood (sig : Nat) (good : Bool) (s : State) :
    ActsR 40485346600932823728855694966352 680564733841876926926749214863536422911 s (execPwrgood sig good s) := by
  unfold execPwrgood
  refine ActsR.next ?_
  refine Acts.ite (fun _ => ?_) (fun _ => ?_)
  · exact Acts.refl _ _ _
  · extract_lets a1 a2 a3
    clear_value a1
    clear_value a2
    have ha3 : Acts 40485346600932823728855694966352 680564733841876926926749214863536422911 s a3 := by
      dsimp only [a3]
      refine Acts.ite (fun _ => ?_) (fun _ => ?_)
      · refine Acts.trans ?_ (Acts.set_pwrgood_thermtrip _ _ _) rfl rfl
        exact Acts.refl _ _ _
      · refine Acts.trans ?_ (Acts.set_railOut _ _) rfl rfl
        exact Acts.refl _ _ _
    clear_value a3
    refine Acts.ite (fun _ => ?_) (fun _ => ?_)
    · refine Acts.trans ?_ (acts_enterReset _ _ _) rfl rfl
      with_reducible assumption
    · refine Acts.ite (fun _ => ?_) (fun _ => ?_)
      · refine Acts.ite (fun _ => ?_) (fun _ => ?_)
        · refine Acts.trans ?_ (acts_enterReset _ _ _) rfl rfl
          refine Acts.trans ?_ (Acts.set_rstLevel _ _) rfl rfl
          with_reducible assumption
        · with_reducible assumption
      · with_reducible assumption

theorem acts_execSystemReset (cause : Nat) (s : State) :
    ActsR 40485346578501582935224880201296 680564733841876926926749214863536422911 s (execSystemReset cause s) := by
  unfold execSystemReset
  refine ActsR.next ?_
  refine Acts.ite (fun _ => ?_) (fun _ => ?_)
  · refine Acts.trans ?_ (acts_systemReset _ _) rfl rfl
    exact Acts.refl _ _ _
  · exact Acts.refl _ _ _

theorem acts_unitRegsReset (s : State) (u : Nat) :
    Acts 16 680564733841876926926749214863536422911 s (State.unitRegsReset s u) := by
  unfold State.unitRegsReset
  refine Acts.trans ?_ (Acts.set_regs _ _) rfl rfl
  exact Acts.refl _ _ _

theorem acts_unitClear (s : State) (u : Nat) :
    Acts 633825300370167364436824802262 680564733841876926926749214863536422911 s (State.unitClear s u) := by
  unfold State.unitClear
  extract_lets a1 a2
  have ha1 : Acts 633825300370167364436824802262 680564733841876926926749214863536422911 s a1 := by
    dsimp only [a1]
    refine Acts.trans ?_ (acts_unitRegsReset _ _) rfl rfl
    exact Acts.refl _ _ _
  clear_value a1
  clear_value a2
  refine Acts.ite (fun _ => ?_) (fun _ => ?_)
  · refine Acts.trans ?_ (Acts.set_pend_inServ_nmiTaken _ _ _ _) rfl rfl
    with_reducible assumption
  · refine Acts.ite (fun _ => ?_) (fun _ => ?_)
    · refine Acts.trans ?_ (Acts.set_spn_spnChanged_pubs_pubFlits _ _ _ _ _) rfl rfl
      with_reducible assumption
    · refine Acts.ite (fun _ => ?_) (fun _ => ?_)
      · refine Acts.trans ?_ (Acts.set_jrnRes_jrnRecs_repl _ _ _ _) rfl rfl
        with_reducible assumption
      · refine Acts.ite (fun _ => ?_) (fun _ => ?_)
        · refine Acts.foldl (L2 := 633825300370167364436824802262) (R2 := 680564733841876926926749214863536422911) _ ?_ (fun t3 x4 => ?_) rfl rfl
          · refine Acts.trans ?_ (Acts.set_cphKeys _ _) rfl rfl
            with_reducible assumption
          · refine Acts.trans ?_ (acts_setJobs _ _ _ _) rfl rfl
            exact Acts.refl _ _ _
        · refine Acts.ite (fun _ => ?_) (fun _ => ?_)
          · refine Acts.trans ?_ (Acts.set_fabIn_fabRem_sqNext_sqDone _ _ _ _ _) rfl rfl
            with_reducible assumption
          · refine Acts.ite (fun _ => ?_) (fun _ => ?_)
            · refine Acts.trans ?_ (acts_setPort _ _ _) rfl rfl
              refine Acts.trans ?_ (acts_portClear _ _) rfl rfl
              with_reducible assumption
            · refine Acts.ite (fun _ => ?_) (fun _ => ?_)
              · refine Acts.trans ?_ (Acts.set_pcieTags_pcieOut_pcieCpl _ _ _ _) rfl rfl
                with_reducible assumption
              · refine Acts.ite (fun _ => ?_) (fun _ => ?_)
                · refine Acts.trans ?_ (Acts.set_ctxCache_ioTlb _ _ _) rfl rfl
                  with_reducible assumption
                · refine Acts.ite (fun _ => ?_) (fun _ => ?_)
                  · refine Acts.trans ?_ (acts_setChan _ _ _) rfl rfl
                    with_reducible assumption
                  · with_reducible assumption

theorem acts_execBlockReset (u : Nat) (s : State) :
    ActsR 633825300370167364436858356694 680564733841876926926749214863536422911 s (execBlockReset u s) := by
  unfold execBlockReset
  refine ActsR.next ?_
  refine Acts.ite (fun _ => ?_) (fun _ => ?_)
  · exact Acts.refl _ _ _
  · refine Acts.ite (fun _ => ?_) (fun _ => ?_)
    · refine Acts.trans ?_ (acts_unitDrain _ _) rfl rfl
      exact Acts.refl _ _ _
    · extract_lets a1
      have ha1 : Acts 633825300370167364436858356694 680564733841876926926749214863536422911 s a1 := by
        dsimp only [a1]
        refine Acts.trans ?_ (acts_unitClear _ _) rfl rfl
        exact Acts.refl _ _ _
      clear_value a1
      refine Acts.ite (fun _ => ?_) (fun _ => ?_)
      · with_reducible assumption
      · refine Acts.trans ?_ (acts_unitOpen _ _) rfl rfl
        with_reducible assumption

theorem acts_execRtcWrite (ag : Agent) (w : W) (s : State) :
    ActsR 3169128918701219737128398864886 240160443179227499244753519040 s (execRtcWrite ag w s) := by
  unfold execRtcWrite
  refine ActsR.next ?_
  refine Acts.trans ?_ (acts_onWrite (L := 3169128918701219737128398864886) (R := 240160443179227499244753519040) _ _ _ _ _ ?_ rfl rfl) rfl rfl
  · exact Acts.refl _ _ _
  · intro t1
    refine Acts.trans ?_ (Acts.set_rtcAcc _ _) rfl rfl
    exact Acts.refl _ _ _

theorem acts_powerLost (s : State) (u : Nat) :
    Acts 633825300356300275285321957846 237684563138703149446492848576 s (State.powerLost s u) := by
  unfold State.powerLost
  refine Acts.ite (fun _ => ?_) (fun _ => ?_)
  · refine Acts.trans ?_ (acts_cphGate _ _) rfl rfl
    exact Acts.refl _ _ _
  · refine Acts.ite (fun _ => ?_) (fun _ => ?_)
    · extract_lets a1
      clear_value a1
      refine Acts.ite (fun _ => ?_) (fun _ => ?_)
      · exact Acts.refl _ _ _
      · refine Acts.trans ?_ (acts_portClear _ _) rfl rfl
        refine Acts.trans ?_ (acts_setFld _ _ _ _) rfl rfl
        refine Acts.trans ?_ (acts_setPortState _ _ _) rfl rfl
        exact Acts.refl _ _ _
    · refine Acts.ite (fun _ => ?_) (fun _ => ?_)
      · refine Acts.trans ?_ (acts_pcieDown _ _) rfl rfl
        exact Acts.refl _ _ _
      · exact Acts.refl _ _ _

theorem acts_execCorePowerGate (c : Nat) (s : State) :
    ActsR 4194384 32 s (execCorePowerGate c s) := by
  unfold execCorePowerGate
  extract_lets a1 a2 a3 a4
  clear_value a1
  have ha2 : Acts 4194384 32 s a2 := by
    dsimp only [a2]
    refine Acts.foldl (L2 := 4194384) (R2 := 32) _ ?_ (fun t5 x6 => ?_) rfl rfl
    · exact Acts.refl _ _ _
    · refine Acts.trans ?_ (acts_evictL2 _ _ _) rfl rfl
      exact Acts.refl _ _ _
  clear_value a2
  clear_value a3
  have ha4 : Acts 4194384 32 s a4 := by
    dsimp only [a4]
    refine Acts.trans ?_ (acts_lidClose _ _ _) rfl rfl
    refine Acts.trans ?_ (acts_lidDrain _ _ _) rfl rfl
    with_reducible assumption
  clear_value a4
  refine ActsR.next ?_
  refine Acts.ite (fun _ => ?_) (fun _ => ?_)
  · exact Acts.refl _ _ _
  · refine Acts.ite (fun _ => ?_) (fun _ => ?_)
    · with_reducible assumption
    · refine Acts.ite (fun _ => ?_) (fun _ => ?_)
      · with_reducible assumption
      · refine Acts.trans ?_ (acts_onCore _ _ _) rfl rfl
        with_reducible assumption

theorem acts_hottest (s : State) (sensor : Nat) (tj : Int) :
    Acts 16 19807040628566084398385987584 s (State.hottest s sensor tj) := by
  unfold State.hottest
  refine Acts.trans ?_ (acts_setFld _ _ _ _) rfl rfl
  refine Acts.trans ?_ (acts_setFld _ _ _ _) rfl rfl
  exact Acts.refl _ _ _

theorem acts_execThrottleExit (sensor : Nat) (tj : Int) (s : State) :
    ActsR 633826206810785254734278164560 24758876343571331412305903808 s (execThrottleExit sensor tj s) := by
  unfold execThrottleExit
  extract_lets a1
  have ha1 : Acts 633826206810785254734278164560 24758876343571331412305903808 s a1 := by
    dsimp only [a1]
    refine Acts.trans ?_ (acts_hottest _ _ _) rfl rfl
    exact Acts.refl _ _ _
  clear_value a1
  refine ActsR.next ?_
  refine Acts.ite (fun _ => ?_) (fun _ => ?_)
  · with_reducible assumption
  · refine Acts.foldl (L2 := 633826206810785254734278164560) (R2 := 24758876343571331412305903808) _ ?_ (fun t2 x3 => ?_) rfl rfl
    · refine Acts.trans ?_ (acts_raise _ _) rfl rfl
      refine Acts.trans ?_ (acts_setFld _ _ _ _) rfl rfl
      with_reducible assumption
    · refine Acts.trans ?_ (acts_pStart _ _) rfl rfl
      refine Acts.trans ?_ (acts_setFld _ _ _ _) rfl rfl
      exact Acts.refl _ _ _

theorem acts_execPackageIdleExit (s : State) :
    ActsR 1208925819614629174706192 18014398509481984 s (execPackageIdleExit s) := by
  unfold execPackageIdleExit
  refine ActsR.next ?_
  refine Acts.ite (fun _ => ?_) (fun _ => ?_)
  · refine Acts.foldl (L2 := 1208925819614629174706192) (R2 := 18014398509481984) _ ?_ (fun t1 x2 => ?_) rfl rfl
    · refine Acts.trans ?_ (Acts.set_pkgIdle _ _) rfl rfl
      exact Acts.refl _ _ _
    · refine Acts.trans ?_ (acts_mcWake _ _) rfl rfl
      exact Acts.refl _ _ _
  · exact Acts.refl _ _ _

theorem acts_execResetInN (low : Bool) (s : State) :
    ActsR 40485346583223949418094525414992 680564733841876926926749214863536422911 s (execResetInN low s) := by
  unfold execResetInN
  extract_lets a1
  have ha1 : Acts 40485346583223949418094525414992 680564733841876926926749214863536422911 s a1 := by
    refine Acts.trans ?_ (Acts.set_resetInLow _ _) rfl rfl
    exact Acts.refl _ _ _
  clear_value a1
  refine ActsR.next ?_
  refine Acts.ite (fun _ => ?_) (fun _ => ?_)
  · refine Acts.trans ?_ (acts_systemReset _ _) rfl rfl
    with_reducible assumption
  · with_reducible assumption

theorem acts_execThermtrip (s : State) :
    ActsR 40485346597391048866703461056080 680564733841876926926749214863536422911 s (execThermtrip s) := by
  unfold execThermtrip
  refine ActsR.next ?_
  refine Acts.trans ?_ (acts_enterReset _ _ _) rfl rfl
  refine Acts.trans ?_ (Acts.set_thermtrip _ _) rfl rfl
  exact Acts.refl _ _ _

theorem acts_execPowerGateDone (u : Nat) (s : State) :
    ActsR 633825300356300275285355512278 247588083452986191645685842400 s (execPowerGateDone u s) := by
  unfold execPowerGateDone
  refine ActsR.next ?_
  refine Acts.ite (fun _ => ?_) (fun _ => ?_)
  · exact Acts.refl _ _ _
  · refine Acts.ite (fun _ => ?_) (fun _ => ?_)
    · refine Acts.ite (fun _ => ?_) (fun _ => ?_)
      · refine Acts.trans ?_ (acts_powerAct _ _) rfl rfl
        refine Acts.trans ?_ (acts_setFld _ _ _ _) rfl rfl
        refine Acts.trans ?_ (acts_powerLost _ _) rfl rfl
        exact Acts.refl _ _ _
      · exact Acts.refl _ _ _
    · refine Acts.trans ?_ (acts_downStart _ _) rfl rfl
      exact Acts.refl _ _ _

theorem acts_execWatchdogHalf (wd : Nat) (s : State) :
    ActsR 10775030101942255755736022777936 39614156814995894711095394496 s (execWatchdogHalf wd s) := by
  unfold execWatchdogHalf
  refine ActsR.next ?_
  refine Acts.ite (fun _ => ?_) (fun _ => ?_)
  · exact Acts.refl _ _ _
  · refine Acts.trans ?_ (acts_raise _ _) rfl rfl
    refine Acts.trans ?_ (acts_wdogLoad _ _ _) rfl rfl
    exact Acts.refl _ _ _

theorem acts_execClearCauses (ag : Agent) (w : W) (s : State) :
    ActsR 3169126500849580507870049452534 239541473159584809107303956928 s (execClearCauses ag w s) := by
  unfold execClearCauses
  refine ActsR.next ?_
  refine Acts.trans ?_ (acts_onWrite (L := 3169126500849580507870049452534) (R := 239541473159584809107303956928) _ _ _ _ _ ?_ rfl rfl) rfl rfl
  · exact Acts.refl _ _ _
  · intro t1
    refine Acts.ite (fun _ => ?_) (fun _ => ?_)
    · refine Acts.trans ?_ (Acts.wr _ _ _ _) rfl rfl
      refine Acts.trans ?_ (Acts.wr _ _ _ _) rfl rfl
      exact Acts.refl _ _ _
    · exact Acts.refl _ _ _

theorem acts_execPfwNRelease (s : State) :
    ActsR 653632340984794301127664452054 680564733841876926926749214863536422911 s (execPfwNRelease s) := by
  unfold execPfwNRelease
  refine ActsR.next ?_
  refine Acts.ite (fun _ => ?_) (fun _ => ?_)
  · refine Acts.trans ?_ (acts_goOn _) rfl rfl
    refine Acts.trans ?_ (Acts.set_pfw _ _) rfl rfl
    exact Acts.refl _ _ _
  · exact Acts.refl _ _ _

theorem acts_execWatchdogExpiry (wd : Nat) (s : State) :
    ActsR 40485346578501582935224880201686 680564733841876926926749214863536422911 s (execWatchdogExpiry wd s) := by
  unfold execWatchdogExpiry
  refine ActsR.next ?_
  refine Acts.ite (fun _ => ?_) (fun _ => ?_)
  · exact Acts.refl _ _ _
  · extract_lets a1
    have ha1 : Acts 40485346578501582935224880201686 680564733841876926926749214863536422911 s a1 := by
      dsimp only [a1]
      refine Acts.trans ?_ (acts_setFld _ _ _ _) rfl rfl
      exact Acts.refl _ _ _
    clear_value a1
    refine Acts.ite (fun _ => ?_) (fun _ => ?_)
    · refine Acts.ite (fun _ => ?_) (fun _ => ?_)
      · exact Acts.refl _ _ _
      · refine Acts.trans ?_ (acts_systemReset _ _) rfl rfl
        with_reducible assumption
    · refine Acts.trans ?_ (acts_partStart _ _ _) rfl rfl
      with_reducible assumption

theorem acts_execPowerFailWarning (s : State) :
    ActsR 633825300356228217213670244822 237684563100656747491069919680 s (execPowerFailWarning s) := by
  unfold execPowerFailWarning
  refine ActsR.next ?_
  refine Acts.ite (fun _ => ?_) (fun _ => ?_)
  · exact Acts.refl _ _ _
  · refine Acts.trans ?_ (acts_gaspStart _) rfl rfl
    refine Acts.trans ?_ (acts_raise _ _) rfl rfl
    refine Acts.trans ?_ (Acts.set_pfw _ _) rfl rfl
    exact Acts.refl _ _ _

theorem acts_execPowerUpDone (u : Nat) (s : State) :
    ActsR 18014398551425040 9903520351176530346612097056 s (execPowerUpDone u s) := by
  unfold execPowerUpDone
  refine ActsR.next ?_
  refine Acts.ite (fun _ => ?_) (fun _ => ?_)
  · exact Acts.refl _ _ _
  · extract_lets a1 a2
    have ha1 : Acts 18014398551425040 9903520351176530346612097056 s a1 := by
      dsimp only [a1]
      refine Acts.trans ?_ (acts_unitOpen _ _) rfl rfl
      refine Acts.trans ?_ (acts_setFld _ _ _ _) rfl rfl
      exact Acts.refl _ _ _
    clear_value a1
    have ha2 : Acts 18014398551425040 9903520351176530346612097056 s a2 := by
      dsimp only [a2]
      refine Acts.ite (fun _ => ?_) (fun _ => ?_)
      · refine Acts.ite (fun _ => ?_) (fun _ => ?_)
        · refine Acts.trans ?_ (acts_cphResume _ _) rfl rfl
          with_reducible assumption
        · refine Acts.trans ?_ (acts_setFld _ _ _ _) rfl rfl
          with_reducible assumption
      · with_reducible assumption
    clear_value a2
    refine Acts.trans ?_ (acts_downStart _ _) rfl rfl
    with_reducible assumption

theorem acts_throttle (s : State) :
    Acts 633826206810785254734278164560 24758876343571331412305903808 s (State.throttle s) := by
  unfold State.throttle
  refine Acts.ite (fun _ => ?_) (fun _ => ?_)
  · exact Acts.refl _ _ _
  · extract_lets a1
    have ha1 : Acts 633826206810785254734278164560 24758876343571331412305903808 s a1 := by
      dsimp only [a1]
      refine Acts.trans ?_ (acts_raise _ _) rfl rfl
      refine Acts.trans ?_ (acts_incSat _ _ _) rfl rfl
      refine Acts.trans ?_ (acts_setFld _ _ _ _) rfl rfl
      exact Acts.refl _ _ _
    clear_value a1
    refine Acts.foldl (L2 := 633826206810785254734278164560) (R2 := 24758876343571331412305903808) _ ?_ (fun t2 x3 => ?_) rfl rfl
    · with_reducible assumption
    · refine Acts.trans ?_ (acts_pStart _ _) rfl rfl
      refine Acts.trans ?_ (acts_setFld _ _ _ _) rfl rfl
      exact Acts.refl _ _ _

theorem acts_execRegulatorFault (reg : Nat) (units : List Nat) (s : State) :
    ActsR 40485346729617310387053527039958 680564733841876926926749214863536422911 s (execRegulatorFault reg units s) := by
  unfold execRegulatorFault
  refine ActsR.next ?_
  refine Acts.ite (fun _ => ?_) (fun _ => ?_)
  · exact Acts.refl _ _ _
  · extract_lets a1 a2 a3
    have ha1 : Acts 40485346729617310387053527039958 680564733841876926926749214863536422911 s a1 := by
      refine Acts.trans ?_ (Acts.set_regFailed _ _) rfl rfl
      exact Acts.refl _ _ _
    clear_value a1
    clear_value a2
    have ha3 : Acts 40485346729617310387053527039958 680564733841876926926749214863536422911 s a3 := by
      dsimp only [a3]
      refine Acts.trans ?_ (acts_raise _ _) rfl rfl
      with_reducible assumption
    clear_value a3
    refine Acts.ite (fun _ => ?_) (fun _ => ?_)
    · refine Acts.trans ?_ (acts_coreResetStep _ _) rfl rfl
      refine Acts.trans ?_ (acts_raise _ _) rfl rfl
      with_reducible assumption
    · refine Acts.ite (fun _ => ?_) (fun _ => ?_)
      · refine Acts.ite (fun _ => ?_) (fun _ => ?_)
        · with_reducible assumption
        · refine Acts.trans ?_ (acts_systemReset _ _) rfl rfl
          with_reducible assumption
      · refine Acts.foldl (L2 := 40485346729617310387053527039958) (R2 := 680564733841876926926749214863536422911) _ ?_ (fun t4 x5 => ?_) rfl rfl
        · refine Acts.trans ?_ (acts_raise _ _) rfl rfl
          with_reducible assumption
        · refine Acts.trans ?_ (acts_unitDrain _ _) rfl rfl
          exact Acts.refl _ _ _

theorem acts_execPackageIdleEntry (s : State) :
    ActsR 633826509039934315377526309392 18014398509481984 s (execPackageIdleEntry s) := by
  unfold execPackageIdleEntry
  extract_lets a1 a2
  clear_value a1
  clear_value a2
  refine ActsR.next ?_
  refine Acts.ite (fun _ => ?_) (fun _ => ?_)
  · exact Acts.refl _ _ _
  · refine Acts.foldl (L2 := 633826509039934315377526309392) (R2 := 18014398509481984) _ ?_ (fun t3 x4 => ?_) rfl rfl
    · refine Acts.trans ?_ (Acts.set_pkgIdle _ _) rfl rfl
      exact Acts.refl _ _ _
    · refine Acts.ite (fun _ => ?_) (fun _ => ?_)
      · refine Acts.trans ?_ (acts_setFld _ _ _ _) rfl rfl
        refine Acts.trans ?_ (acts_mcDrain _ _) rfl rfl
        exact Acts.refl _ _ _
      · exact Acts.refl _ _ _

theorem acts_execThrottleEntry (sensor : Nat) (tj : Int) (s : State) :
    ActsR 633826206810785254734278164560 24758876343571331412305903808 s (execThrottleEntry sensor tj s) := by
  unfold execThrottleEntry
  extract_lets a1
  have ha1 : Acts 633826206810785254734278164560 24758876343571331412305903808 s a1 := by
    dsimp only [a1]
    refine Acts.trans ?_ (acts_hottest _ _ _) rfl rfl
    exact Acts.refl _ _ _
  clear_value a1
  refine ActsR.next ?_
  refine Acts.ite (fun _ => ?_) (fun _ => ?_)
  · refine Acts.trans ?_ (acts_throttle _) rfl rfl
    with_reducible assumption
  · with_reducible assumption

theorem acts_execRailNearEdge (rail : Nat) (s : State) :
    ActsR 633825300116420543762397134928 75557863725914323419328 s (execRailNearEdge rail s) := by
  unfold execRailNearEdge
  refine ActsR.next ?_
  refine Acts.ite (fun _ => ?_) (fun _ => ?_)
  · refine Acts.trans ?_ (acts_raise _ _) rfl rfl
    exact Acts.refl _ _ _
  · exact Acts.refl _ _ _

theorem acts_execCoreReset (cs : List Nat) (s : State) :
    ActsR 3347389866506675338858317595606 680564733841876926926749214863536422911 s (execCoreReset cs s) := by
  unfold execCoreReset
  extract_lets a1
  have ha1 : Acts 3347389866506675338858317595606 680564733841876926926749214863536422911 s a1 := by
    dsimp only [a1]
    refine Acts.foldl (L2 := 3347389866506675338858317595606) (R2 := 680564733841876926926749214863536422911) _ ?_ (fun t2 x3 => ?_) rfl rfl
    · exact Acts.refl _ _ _
    · refine Acts.trans ?_ (acts_coreResetStep _ _) rfl rfl
      exact Acts.refl _ _ _
  clear_value a1
  refine ActsR.next ?_
  refine Acts.ite (fun _ => ?_) (fun _ => ?_)
  · refine Acts.foldl (L2 := 3347389866506675338858317595606) (R2 := 680564733841876926926749214863536422911) _ ?_ (fun t4 x5 => ?_) rfl rfl
    · with_reducible assumption
    · refine Acts.ite (fun _ => ?_) (fun _ => ?_)
      · refine Acts.trans ?_ (acts_setFld _ _ _ _) rfl rfl
        refine Acts.trans ?_ (acts_mcDrain _ _) rfl rfl
        exact Acts.refl _ _ _
      · exact Acts.refl _ _ _
  · with_reducible assumption

theorem acts_execProchotN (low : Bool) (s : State) :
    ActsR 633826216255518220473568591952 24758876343571331412305903808 s (execProchotN low s) := by
  unfold execProchotN
  extract_lets a1
  have ha1 : Acts 633826216255518220473568591952 24758876343571331412305903808 s a1 := by
    dsimp only [a1]
    refine Acts.trans ?_ (acts_setFld _ _ _ _) rfl rfl
    refine Acts.trans ?_ (Acts.set_prochotLow _ _) rfl rfl
    exact Acts.refl _ _ _
  clear_value a1
  refine ActsR.next ?_
  refine Acts.ite (fun _ => ?_) (fun _ => ?_)
  · refine Acts.trans ?_ (acts_throttle _) rfl rfl
    refine Acts.trans ?_ (acts_raise _ _) rfl rfl
    with_reducible assumption
  · with_reducible assumption

theorem acts_execResetHoldEnd (s : State) :
    ActsR 295147905179352825856 0 s (execResetHoldEnd s) := by
  unfold execResetHoldEnd
  refine ActsR.next ?_
  refine Acts.ite (fun _ => ?_) (fun _ => ?_)
  · exact Acts.refl _ _ _
  · refine Acts.trans ?_ (Acts.set_rstLevel _ _) rfl rfl
    exact Acts.refl _ _ _

theorem acts_execPllRelock (d : ClockDom) (s : State) :
    ActsR 3327582901449912056679106724822 680564733841876926926749214863536422911 s (execPllRelock d s) := by
  unfold execPllRelock
  refine ActsR.next ?_
  split
  · refine Acts.trans ?_ (Acts.set_unlocked _ _) rfl rfl
    exact Acts.refl _ _ _
  · refine Acts.ite (fun _ => ?_) (fun _ => ?_)
    · exact Acts.refl _ _ _
    · extract_lets a1 a2
      have ha1 : Acts 3327582901449912056679106724822 680564733841876926926749214863536422911 s a1 := by
        refine Acts.trans ?_ (Acts.set_unlocked _ _) rfl rfl
        exact Acts.refl _ _ _
      clear_value a1
      have ha2 : Acts 3327582901449912056679106724822 680564733841876926926749214863536422911 s a2 := by
        dsimp only [a2]
        refine Acts.foldl (L2 := 3327582901449912056679106724822) (R2 := 680564733841876926926749214863536422911) _ ?_ (fun t3 x4 => ?_) rfl rfl
        · with_reducible assumption
        · refine Acts.trans ?_ (acts_lidExpire _ _ _) rfl rfl
          exact Acts.refl _ _ _
      clear_value a2
      refine Acts.trans ?_ (acts_unitOpen _ _) rfl rfl
      refine Acts.trans ?_ (acts_unitClear _ _) rfl rfl
      with_reducible assumption
  · refine Acts.trans ?_ (Acts.set_unlocked _ _) rfl rfl
    exact Acts.refl _ _ _
  · exact Acts.refl _ _ _

theorem acts_execPowerOnReset (cause : Nat) (s : State) :
    ActsR 40485346578501582935224880201296 680564733841876926926749214863536422911 s (execPowerOnReset cause s) := by
  unfold execPowerOnReset
  refine ActsR.next ?_
  refine Acts.ite (fun _ => ?_) (fun _ => ?_)
  · refine Acts.trans ?_ (acts_enterReset _ _ _) rfl rfl
    exact Acts.refl _ _ _
  · exact Acts.refl _ _ _

theorem acts_execTarget (ag : Agent) (p : Nat) (w : W) (s : State) :
    ActsR 3169127407543945218841930482166 242636323257798259794551767488 s (execTarget ag p w s) := by
  unfold execTarget
  refine ActsR.next ?_
  refine Acts.trans ?_ (acts_onWrite (L := 3169127407543945218841930482166) (R := 242636323257798259794551767488) _ _ _ _ _ ?_ rfl rfl) rfl rfl
  · exact Acts.refl _ _ _
  · intro t1
    refine Acts.ite (fun _ => ?_) (fun _ => ?_)
    · refine Acts.trans ?_ (acts_pStart _ _) rfl rfl
      exact Acts.refl _ _ _
    · exact Acts.refl _ _ _

end Sys2Proof.Machine
end

