-- ==== Sys2Proof/Laws/CountersActs.lean ====
section
/-! SUPPORT. What each operation and each command of Counters.lean may touch: `acts_<name>` bounds the fields and the registers that
`<name>` can change (see Acts.lean). -/

namespace Sys2Proof.Machine

open Sys2Proof

theorem acts_ladleGather (s : State) :
    Acts 1267650600228229401496703205376 0 s (State.ladleGather s) := by
  unfold State.ladleGather
  refine Acts.foldl (L2 := 1267650600228229401496703205376) (R2 := 0) _ ?_ (fun t1 x2 => ?_) rfl rfl
  · refine Acts.trans ?_ (Acts.set_ldl _ _) rfl rfl
    exact Acts.refl _ _ _
  · extract_lets a3 a4 a5 a6
    clear_value a3
    clear_value a4
    clear_value a5
    clear_value a6
    refine Acts.ite (fun _ => ?_) (fun _ => ?_)
    · exact Acts.refl _ _ _
    · refine Acts.ite (fun _ => ?_) (fun _ => ?_)
      · refine Acts.trans ?_ (Acts.set_ldl _ _) rfl rfl
        exact Acts.refl _ _ _
      · refine Acts.trans ?_ (Acts.set_ldl _ _) rfl rfl
        exact Acts.refl _ _ _

theorem acts_execLadleTick (s0 : State) :
    ActsR 1267650600228229401496703205376 0 s0 (execLadleTick s0) := by
  unfold execLadleTick
  refine ActsR.next ?_
  refine Acts.ite (fun _ => ?_) (fun _ => ?_)
  · exact Acts.refl _ _ _
  · extract_lets a1 a2 a3 a4 a5 a6
    have ha1 : Acts 1267650600228229401496703205376 0 s0 a1 := by
      dsimp only [a1]
      refine Acts.trans ?_ (acts_ladleGather _) rfl rfl
      exact Acts.refl _ _ _
    clear_value a1
    clear_value a2
    clear_value a3
    clear_value a4
    clear_value a5
    clear_value a6
    refine Acts.ite (fun _ => ?_) (fun _ => ?_)
    · exact Acts.refl _ _ _
    · refine Acts.trans ?_ (Acts.set_ldl _ _) rfl rfl
      with_reducible assumption

theorem acts_execLadleRecord (s0 : State) :
    ActsR 1901475900584457618225914560982 13292280195533721829694809297758716352 s0 (execLadleRecord s0) := by
  unfold execLadleRecord
  extract_lets a1 a2
  have ha1 : Acts 1901475900584457618225914560982 13292280195533721829694809297758716352 s0 a1 := by
    dsimp only [a1]
    refine Acts.trans ?_ (acts_ladleGather _) rfl rfl
    exact Acts.refl _ _ _
  clear_value a1
  clear_value a2
  refine ActsR.next ?_
  split
  · with_reducible assumption
  · extract_lets a3 a4 a5 a6 a7 a8 a9 a10 a11
    clear_value a3
    clear_value a4
    clear_value a5
    clear_value a6
    clear_value a7
    have ha8 : Acts 1901475900584457618225914560982 13292280195533721829694809297758716352 s0 a8 := by
      refine Acts.trans ?_ (Acts.set_ldl _ _) rfl rfl
      with_reducible assumption
    clear_value a8
    clear_value a9
    have ha10 : Acts 1901475900584457618225914560982 13292280195533721829694809297758716352 s0 a10 := by
      refine Acts.trans ?_ (Acts.set_ldl _ _) rfl rfl
      with_reducible assumption
    clear_value a10
    have ha11 : Acts 1901475900584457618225914560982 13292280195533721829694809297758716352 s0 a11 := by
      dsimp only [a11]
      refine Acts.trans ?_ (acts_agentWriteBytes _ _ _ _) rfl rfl
      refine Acts.trans ?_ (acts_agentWriteBytes _ _ _ _) rfl rfl
      with_reducible assumption
    clear_value a11
    refine Acts.ite (fun _ => ?_) (fun _ => ?_)
    · refine Acts.trans ?_ (acts_logErr _ _ _ _ _ _) rfl rfl
      refine Acts.trans ?_ (acts_setFld _ _ _ _) rfl rfl
      refine Acts.trans ?_ (acts_setFld _ _ _ _) rfl rfl
      with_reducible assumption
    · refine Acts.trans ?_ (acts_setFld _ _ _ _) rfl rfl
      with_reducible assumption

theorem acts_ladleCfg (s : State) (ag : Agent) (p : Nat) (w : W) :
    Acts 4436777101077809909366752657910 13292280195533721829694809297758716352 s (State.ladleCfg s ag p w) := by
  unfold State.ladleCfg
  refine Acts.trans ?_ (acts_onWrite (L := 4436777101077809909366752657910) (R := 13292280195533721829694809297758716352) _ _ _ _ _ ?_ rfl rfl) rfl rfl
  · exact Acts.refl _ _ _
  · intro t1
    refine Acts.ite (fun _ => ?_) (fun _ => ?_)
    · refine Acts.trans ?_ (acts_setFld _ _ _ _) rfl rfl
      refine Acts.trans ?_ (Acts.set_ldl _ _) rfl rfl
      exact Acts.refl _ _ _
    · exact Acts.refl _ _ _

end Sys2Proof.Machine
end

