-- ==== Sys2Proof/Laws/MacenActs.lean ====
section
/-! SUPPORT. What each operation and each command of Macen.lean may touch: `acts_<name>` bounds the fields and the registers that
`<name>` can change (see Acts.lean). -/

namespace Sys2Proof.Machine

open Sys2Proof

theorem acts_pecFail (s : State) (code : Nat) :
    Acts 633825300393121704876630458838 237684563100656738694955270592 s (State.pecFail s code) := by
  unfold State.pecFail
  refine Acts.trans ?_ (acts_logLimited _ _ _ _ _ _ _ _) rfl rfl
  exact Acts.refl _ _ _

theorem acts_execBlockWrite (bs : List Byte) (pec : Bool) (s : State) :
    ActsR 673439381650253873673402434006 237684563100656738694955270592 s (execBlockWrite bs pec s) := by
  unfold execBlockWrite
  refine ActsR.next ?_
  refine Acts.ite (fun _ => ?_) (fun _ => ?_)
  · exact Acts.refl _ _ _
  · refine Acts.ite (fun _ => ?_) (fun _ => ?_)
    · refine Acts.trans ?_ (acts_pecFail _ _) rfl rfl
      exact Acts.refl _ _ _
    · extract_lets a1 a2 a3
      clear_value a1
      have ha2 : Acts 673439381650253873673402434006 237684563100656738694955270592 s a2 := by
        dsimp only [a2]
        refine Acts.trans ?_ (acts_mbxPut _ _ _ _) rfl rfl
        exact Acts.refl _ _ _
      clear_value a2
      clear_value a3
      refine Acts.trans ?_ (acts_setPage _ _ _) rfl rfl
      with_reducible assumption

theorem acts_setOps (s : State) (n : Nat) (ops : List MbxOp) :
    Acts 39614081257132168796771975184 1267650600228229401496703205376 s (State.setOps s n ops) := by
  unfold State.setOps
  refine Acts.trans ?_ (acts_setFld _ _ _ _) rfl rfl
  refine Acts.trans ?_ (acts_setPage _ _ _) rfl rfl
  exact Acts.refl _ _ _

theorem acts_opStart (s : State) (n : Nat) (code : Nat) (p : List Byte) (begun : Bool) (res : Option Ans) :
    Acts 59421121885698253195157962768 1267650600228229401496703205376 s (State.opStart s n code p begun res).2 := by
  unfold State.opStart
  extract_lets a1 a2 a3
  clear_value a1
  clear_value a2
  have ha3 : Acts 59421121885698253195157962768 1267650600228229401496703205376 s a3 := by
    refine Acts.trans ?_ (Acts.set_mac _ _) rfl rfl
    exact Acts.refl _ _ _
  clear_value a3
  dsimp only
  refine Acts.trans ?_ (acts_setOps _ _ _) rfl rfl
  with_reducible assumption
theorem acts_opStart_eq {s : State} {n : Nat} {code : Nat} {p : List Byte} {begun : Bool} {res : Option Ans} {x} {t : State} (h : (State.opStart s n code p begun res) = (x, t)) : Acts 59421121885698253195157962768 1267650600228229401496703205376 s t := by
  have := acts_opStart s n code p begun res; rw [h] at this; exact this

theorem acts_syncStart (s : State) (a : Nat) (b : Nat) :
    Acts 9007199388958800 2361183241434822606848 s (State.syncStart s a b).2 := by
  unfold State.syncStart
  refine Acts.ite2 (fun _ => ?_) (fun _ => ?_)
  · exact Acts.refl _ _ _
  · extract_lets a1 a2 a3
    clear_value a1
    clear_value a2
    have ha3 : Acts 9007199388958800 2361183241434822606848 s a3 := by
      dsimp only [a3]
      refine Acts.trans ?_ (acts_setFld _ _ _ _) rfl rfl
      refine Acts.trans ?_ (acts_setFld _ _ _ _) rfl rfl
      exact Acts.refl _ _ _
    clear_value a3
    dsimp only
    refine Acts.trans ?_ (acts_setFld _ _ _ _) rfl rfl
    refine Acts.trans ?_ (acts_setFld _ _ _ _) rfl rfl
    refine Acts.trans ?_ (acts_dropOwnership _ _ _) rfl rfl
    with_reducible assumption
theorem acts_syncStart_eq {s : State} {a : Nat} {b : Nat} {x} {t : State} (h : (State.syncStart s a b) = (x, t)) : Acts 9007199388958800 2361183241434822606848 s t := by
  have := acts_syncStart s a b; rw [h] at this; exact this

theorem acts_result (s : State) (n : Nat) (a : Ans) :
    Acts 39614081257132168796771975168 0 s (State.result s n a) := by
  unfold State.result
  split
  · refine Acts.trans ?_ (acts_setPage _ _ _) rfl rfl
    exact Acts.refl _ _ _
  · exact Acts.refl _ _ _

theorem acts_mbxRun {L R : Nat} (s : State) (n code : Nat) {f : List Byte → State → Ans × State} (hk : ∀ bs t, Acts L R t (f bs t).2)
    (hL : 39614081257132168796771975168 ||| L = L) (hR : 0 ||| R = R) : Acts L R s (s.mbxRun n code f) := by
  unfold State.mbxRun
  split
  · split
    · exact Acts.trans (L2 := 39614081257132168796771975168) (R2 := 0) (hk _ _) ((acts_result _ _ _).mono rfl rfl) hL hR
    · exact Acts.refl _ _ _
  · exact Acts.refl _ _ _

theorem acts_macSet (s : State) (r : RegId) (i : Nat) (w : W) : Acts 16 (2 ^ r.num) s (s.macSet r i w).2 := by
  unfold State.macSet
  generalize odcStop (regAddr r i) = q
  rcases q with ⟨node, _ | k⟩ <;> dsimp only
  · exact acts_regWrite _ _ _ _
  · exact Acts.ite2 (fun _ => acts_regWrite _ _ _ _) (fun _ => Acts.refl _ _ _)

theorem acts_macSet_eq {s : State} {r : RegId} {i : Nat} {w : W} {x} {t : State} (h : s.macSet r i w = (x, t)) :
    Acts 16 (2 ^ r.num) s t := by
  have := acts_macSet s r i w; rw [h] at this; exact this

theorem acts_execOwnerSet (n : Nat) (s : State) :
    ActsR 59421121885707260394546921552 1267650612034145608670816239616 s (execOwnerSet n s) := by
  unfold execOwnerSet
  refine ActsR.next ?_
  refine Acts.trans ?_ (acts_mbxRun (L := 59421121885707260394546921552) (R := 1267650612034145608670816239616) _ _ _ ?_ rfl rfl) rfl rfl
  · exact Acts.refl _ _ _
  · intro t1
    intro t2
    extract_lets a3 a4
    clear_value a3
    clear_value (ea4 : a4 = _)
    have ha4 : Acts 59421121885707260394546921552 1267650612034145608670816239616 t2 a4.2 := by
      rw [ea4]
      clear ea4
      refine Acts.trans ?_ (acts_macSet _ _ _ _) rfl rfl
      exact Acts.refl _ _ _
    clear ea4
    refine Acts.ite2 (fun _ => ?_) (fun _ => ?_)
    · exact Acts.refl _ _ _
    · refine Acts.ite2 (fun _ => ?_) (fun _ => ?_)
      · exact Acts.refl _ _ _
      · split
        · refine Acts.trans ?_ (acts_opStart _ _ _ _ _ _) rfl rfl
          with_reducible assumption
        · extract_lets a5
          clear_value (ea5 : a5 = _)
          have ha5 : Acts 59421121885707260394546921552 1267650612034145608670816239616 t2 a5.2 := by
            rw [ea5]
            clear ea5
            refine Acts.trans ?_ (acts_syncStart _ _ _) rfl rfl
            with_reducible assumption
          clear ea5
          refine Acts.trans ?_ (acts_opStart _ _ _ _ _ _) rfl rfl
          with_reducible assumption

theorem acts_execErrorRecord (source : Nat) (unit : Nat) (cls : Nat) (code : Nat) (addr : Nat) (place : Nat) (s : State) :
    ActsR 653632340984794301127597343190 237684563100656738694955270592 s (execErrorRecord source unit cls code addr place s) := by
  unfold execErrorRecord
  refine ActsR.next ?_
  refine Acts.ite (fun _ => ?_) (fun _ => ?_)
  · exact Acts.refl _ _ _
  · refine Acts.trans ?_ (acts_countErr _ _ _ _) rfl rfl
    refine Acts.trans ?_ (acts_logErr _ _ _ _ _ _) rfl rfl
    refine Acts.trans ?_ (acts_arrayError _ _ _ _ _) rfl rfl
    exact Acts.refl _ _ _

theorem acts_mbxAsk (s : State) (n : Nat) (code : Nat) (f : List Byte → Ans) :
    Acts 39614081257132168796771975168 0 s (State.mbxAsk s n code f) := by
  unfold State.mbxAsk
  refine Acts.trans ?_ (acts_mbxRun (L := 39614081257132168796771975168) (R := 0) _ _ _ ?_ rfl rfl) rfl rfl
  · exact Acts.refl _ _ _
  · intro t1
    intro t2
    exact Acts.refl _ _ _

theorem acts_execSparesGet (n : Nat) (s : State) :
    ActsR 39614081257132168796771975168 0 s (execSparesGet n s) := by
  unfold execSparesGet
  refine ActsR.next ?_
  refine Acts.trans ?_ (acts_mbxAsk _ _ _ _) rfl rfl
  exact Acts.refl _ _ _

theorem acts_swapBegin (s : State) (p : List Byte) :
    ActsO 19807040628566084398385987584 0 s (State.swapBegin s p) := by
  unfold State.swapBegin
  split
  · exact ActsO.none
  · extract_lets a1 a2
    clear_value a1
    clear_value a2
    refine ActsO.mapN _ (fun t3 => ?_)
    refine Acts.trans ?_ (acts_setSwap _ _ _) rfl rfl
    exact Acts.refl _ _ _
theorem acts_swapBegin_eq {s : State} {p : List Byte} {t : State} (h : (State.swapBegin s p) = some t) : Acts 19807040628566084398385987584 0 s t := acts_swapBegin s p t h

theorem acts_opEnd (s : State) (o : MbxOp) :
    Acts 29710560942858133796967940176 2361183241434822606848 s (State.opEnd s o).2 := by
  unfold State.opEnd
  extract_lets a1 a2 a3 a4 a5 a6
  clear_value a1
  clear_value a2
  clear_value a3
  clear_value a4
  clear_value a5
  clear_value (ea6 : a6 = _)
  have ha6 : Acts 29710560942858133796967940176 2361183241434822606848 s a6.2 := by
    rw [ea6]
    clear ea6
    refine Acts.trans ?_ (acts_takeEvidence _ _) rfl rfl
    exact Acts.refl _ _ _
  clear ea6
  split
  · exact Acts.refl _ _ _
  · refine Acts.ite2 (fun _ => ?_) (fun _ => ?_)
    · exact Acts.refl _ _ _
    · refine Acts.ite2 (fun _ => ?_) (fun _ => ?_)
      · refine Acts.ite2 (fun _ => ?_) (fun _ => ?_)
        · exact Acts.refl _ _ _
        · refine Acts.ite2 (fun _ => ?_) (fun _ => ?_)
          · exact Acts.refl _ _ _
          · split
            · exact Acts.refl _ _ _
            · dsimp only
              refine Acts.trans ?_ (acts_swapBegin_eq (by assumption)) rfl rfl
              exact Acts.refl _ _ _
      · refine Acts.ite2 (fun _ => ?_) (fun _ => ?_)
        · exact Acts.refl _ _ _
        · refine Acts.ite2 (fun _ => ?_) (fun _ => ?_)
          · refine Acts.ite2 (fun _ => ?_) (fun _ => ?_)
            · exact Acts.refl _ _ _
            · split
              · dsimp only
                refine Acts.trans ?_ (acts_syncStart _ _ _) rfl rfl
                exact Acts.refl _ _ _
              · exact Acts.refl _ _ _
          · refine Acts.ite2 (fun _ => ?_) (fun _ => ?_)
            · exact Acts.refl _ _ _
            · refine Acts.ite2 (fun _ => ?_) (fun _ => ?_)
              · refine Acts.ite2 (fun _ => ?_) (fun _ => ?_)
                · with_reducible assumption
                · exact Acts.refl _ _ _
              · exact Acts.refl _ _ _
theorem acts_opEnd_eq {s : State} {o : MbxOp} {x} {t : State} (h : (State.opEnd s o) = (x, t)) : Acts 29710560942858133796967940176 2361183241434822606848 s t := by
  have := acts_opEnd s o; rw [h] at this; exact this

theorem acts_execAgeingGet (n : Nat) (s : State) :
    ActsR 39614081257132168796771975168 0 s (execAgeingGet n s) := by
  unfold execAgeingGet
  refine ActsR.next ?_
  refine Acts.trans ?_ (acts_mbxAsk _ _ _ _) rfl rfl
  exact Acts.refl _ _ _

theorem acts_wtAssign (s : State) (p : List Byte) (k : Nat) :
    Acts 633825300116420543770987184598 75557863725914323419584 s (State.wtAssign s p k) := by
  unfold State.wtAssign
  refine Acts.trans ?_ (acts_agentWriteBytes _ _ _ _) rfl rfl
  exact Acts.refl _ _ _

theorem acts_execWtAssign (n : Nat) (s : State) :
    ActsR 693246422002127804165534106070 1267650678147276368845849231808 s (execWtAssign n s) := by
  unfold execWtAssign
  refine ActsR.next ?_
  refine Acts.trans ?_ (acts_mbxRun (L := 693246422002127804165534106070) (R := 1267650678147276368845849231808) _ _ _ ?_ rfl rfl) rfl rfl
  · exact Acts.refl _ _ _
  · intro t1
    intro t2
    extract_lets a3 a4 a5
    clear_value (ea5 : a5 = _)
    have ha5 : Acts 693246422002127804165534106070 1267650678147276368845849231808 t2 a5.2 := by
      rw [ea5]
      clear ea5
      refine Acts.trans ?_ (acts_syncStart _ _ _) rfl rfl
      refine Acts.trans ?_ (acts_wtAssign _ _ _) rfl rfl
      exact Acts.refl _ _ _
    clear ea5
    refine Acts.ite2 (fun _ => ?_) (fun _ => ?_)
    · exact Acts.refl _ _ _
    · refine Acts.ite2 (fun _ => ?_) (fun _ => ?_)
      · exact Acts.refl _ _ _
      · refine Acts.trans ?_ (acts_opStart _ _ _ _ _ _) rfl rfl
        with_reducible assumption

theorem acts_execFeaturesGet (n : Nat) (s : State) :
    ActsR 39614081257132168796771975168 0 s (execFeaturesGet n s) := by
  unfold execFeaturesGet
  refine ActsR.next ?_
  refine Acts.trans ?_ (acts_mbxAsk _ _ _ _) rfl rfl
  exact Acts.refl _ _ _

theorem acts_imageWrite (s : State) (p : List Byte) (k : Nat) :
    Acts 77371252455336267181195264 0 s (State.imageWrite s p k) := by
  unfold State.imageWrite
  refine Acts.trans ?_ (acts_flashPut _ _ _ _) rfl rfl
  exact Acts.refl _ _ _

theorem acts_execImageWrite (n : Nat) (s : State) :
    ActsR 59498493138153589462339158032 1267650600228229401496703205376 s (execImageWrite n s) := by
  unfold execImageWrite
  refine ActsR.next ?_
  refine Acts.trans ?_ (acts_mbxRun (L := 59498493138153589462339158032) (R := 1267650600228229401496703205376) _ _ _ ?_ rfl rfl) rfl rfl
  · exact Acts.refl _ _ _
  · intro t1
    intro t2
    refine Acts.ite2 (fun _ => ?_) (fun _ => ?_)
    · exact Acts.refl _ _ _
    · refine Acts.ite2 (fun _ => ?_) (fun _ => ?_)
      · exact Acts.refl _ _ _
      · refine Acts.trans ?_ (acts_opStart _ _ _ _ _ _) rfl rfl
        refine Acts.trans ?_ (acts_imageWrite _ _ _) rfl rfl
        exact Acts.refl _ _ _

theorem acts_nodeWrite (s : State) (ag : Agent) (w : W) :
    Acts 3169126500849580508007488406006 237684563100656739796614382016 s (State.nodeWrite s ag w) := by
  unfold State.nodeWrite
  refine Acts.trans ?_ (acts_onWrite (L := 3169126500849580508007488406006) (R := 237684563100656739796614382016) _ _ _ _ _ ?_ rfl rfl) rfl rfl
  · exact Acts.refl _ _ _
  · intro t1
    refine Acts.trans ?_ (acts_timeRoles _) rfl rfl
    refine Acts.foldl (L2 := 3169126500849580508007488406006) (R2 := 237684563100656739796614382016) _ ?_ (fun t2 x3 => ?_) rfl rfl
    · exact Acts.refl _ _ _
    · refine Acts.trans ?_ (acts_attest _ _) rfl rfl
      exact Acts.refl _ _ _

theorem acts_after (s : State) (bs : State → List Byte) : Acts 0 0 s (s.after bs).2 := by
  unfold State.after
  split
  · exact Acts.refl _ _ _
  · split <;> exact Acts.refl _ _ _

theorem acts_after_eq {s : State} {bs : State → List Byte} {x} {t : State} (h : s.after bs = (x, t)) : Acts 0 0 s t := by
  have := acts_after s bs; rw [h] at this; exact this

theorem acts_execNodeSet (n : Nat) (s : State) :
    ActsR 3208740582106712676804260381174 237684563100656739796614382016 s (execNodeSet n s) := by
  unfold execNodeSet
  refine ActsR.next ?_
  refine Acts.trans ?_ (acts_mbxRun (L := 3208740582106712676804260381174) (R := 237684563100656739796614382016) _ _ _ ?_ rfl rfl) rfl rfl
  · exact Acts.refl _ _ _
  · intro t1
    intro t2
    refine Acts.trans ?_ (acts_after _ _) rfl rfl
    refine Acts.trans ?_ (acts_nodeWrite _ _ _) rfl rfl
    exact Acts.refl _ _ _

theorem acts_execFeaturesSet (n : Nat) (s : State) :
    ActsR 39614081257132168796771975168 0 s (execFeaturesSet n s) := by
  unfold execFeaturesSet
  refine ActsR.next ?_
  refine Acts.trans ?_ (acts_mbxRun (L := 39614081257132168796771975168) (R := 0) _ _ _ ?_ rfl rfl) rfl rfl
  · exact Acts.refl _ _ _
  · intro t1
    intro t2
    extract_lets a3 a4
    clear_value a3
    clear_value a4
    dsimp only
    refine Acts.trans ?_ (acts_setPage _ _ _) rfl rfl
    exact Acts.refl _ _ _

theorem acts_pageSource (s : State) (n : Nat) :
    Acts 633825300116420543762397134928 75557863725914323419328 s (State.pageSource s n) := by
  unfold State.pageSource
  refine Acts.ite (fun _ => ?_) (fun _ => ?_)
  · refine Acts.trans ?_ (acts_raise _ _) rfl rfl
    exact Acts.refl _ _ _
  · exact Acts.refl _ _ _

theorem acts_ring (s : State) (n : Nat) :
    Acts 673439381373552712559169110096 1267650675786093127411026624704 s (State.ring s n) := by
  unfold State.ring
  extract_lets a1 a2 a3 a4 a5 a6 a7 a8 a9
  clear_value a1
  clear_value a2
  clear_value a3
  clear_value a4
  clear_value a5
  clear_value a6
  clear_value a7
  clear_value a8
  have ha9 : Acts 673439381373552712559169110096 1267650675786093127411026624704 s a9 := by
    dsimp only [a9]
    refine Acts.trans ?_ (acts_setPage _ _ _) rfl rfl
    exact Acts.refl _ _ _
  clear_value a9
  refine Acts.ite (fun _ => ?_) (fun _ => ?_)
  · refine Acts.trans ?_ (acts_setFld _ _ _ _) rfl rfl
    exact Acts.refl _ _ _
  · refine Acts.ite (fun _ => ?_) (fun _ => ?_)
    · refine Acts.trans ?_ (acts_pageSource _ _) rfl rfl
      refine Acts.trans ?_ (acts_setFld _ _ _ _) rfl rfl
      exact Acts.refl _ _ _
    · refine Acts.trans ?_ (acts_setFld _ _ _ _) rfl rfl
      refine Acts.trans ?_ (acts_setFld _ _ _ _) rfl rfl
      refine Acts.trans ?_ (acts_setFld _ _ _ _) rfl rfl
      with_reducible assumption

theorem acts_ack (s : State) (n : Nat) :
    Acts 39614081257132168796771975184 1267650600228229401496703205376 s (State.ack s n) := by
  unfold State.ack
  split
  · refine Acts.trans ?_ (acts_setFld _ _ _ _) rfl rfl
    exact Acts.refl _ _ _
  · extract_lets a1 a2
    clear_value a1
    have ha2 : Acts 39614081257132168796771975184 1267650600228229401496703205376 s a2 := by
      dsimp only [a2]
      refine Acts.trans ?_ (acts_setPage _ _ _) rfl rfl
      exact Acts.refl _ _ _
    clear_value a2
    refine Acts.trans ?_ (acts_setFld _ _ _ _) rfl rfl
    refine Acts.trans ?_ (acts_setFld _ _ _ _) rfl rfl
    refine Acts.trans ?_ (acts_setFld _ _ _ _) rfl rfl
    with_reducible assumption
  · exact Acts.refl _ _ _

theorem acts_execWriteByte (b : Byte) (pec : Bool) (s : State) :
    ActsR 673439381650253873673402434006 1505335163328886140191658475968 s (execWriteByte b pec s) := by
  unfold execWriteByte
  refine ActsR.next ?_
  refine Acts.ite (fun _ => ?_) (fun _ => ?_)
  · exact Acts.refl _ _ _
  · refine Acts.ite (fun _ => ?_) (fun _ => ?_)
    · refine Acts.trans ?_ (acts_pecFail _ _) rfl rfl
      exact Acts.refl _ _ _
    · refine Acts.ite (fun _ => ?_) (fun _ => ?_)
      · refine Acts.trans ?_ (acts_ring _ _) rfl rfl
        exact Acts.refl _ _ _
      · refine Acts.ite (fun _ => ?_) (fun _ => ?_)
        · refine Acts.trans ?_ (acts_ack _ _) rfl rfl
          exact Acts.refl _ _ _
        · exact Acts.refl _ _ _

theorem acts_execTimeGet (n : Nat) (s : State) :
    ActsR 39614081257132168796771975168 0 s (execTimeGet n s) := by
  unfold execTimeGet
  refine ActsR.next ?_
  refine Acts.trans ?_ (acts_mbxAsk _ _ _ _) rfl rfl
  exact Acts.refl _ _ _

theorem acts_execBlockPower (n : Nat) (s : State) :
    ActsR 59421121885698253195191517200 1277554120542512443695896199200 s (execBlockPower n s) := by
  unfold execBlockPower
  refine ActsR.next ?_
  refine Acts.trans ?_ (acts_mbxRun (L := 59421121885698253195191517200) (R := 1277554120542512443695896199200) _ _ _ ?_ rfl rfl) rfl rfl
  · exact Acts.refl _ _ _
  · intro t1
    intro t2
    extract_lets a3 a4
    clear_value a3
    clear_value a4
    refine Acts.ite2 (fun _ => ?_) (fun _ => ?_)
    · exact Acts.refl _ _ _
    · refine Acts.ite2 (fun _ => ?_) (fun _ => ?_)
      · exact Acts.refl _ _ _
      · refine Acts.trans ?_ (acts_opStart _ _ _ _ _ _) rfl rfl
        refine Acts.trans ?_ (acts_powerAct _ _) rfl rfl
        refine Acts.trans ?_ (acts_setFld _ _ _ _) rfl rfl
        exact Acts.refl _ _ _

theorem acts_membersWrite (s : State) (ag : Agent) (n : Nat) (w : W) :
    Acts 3169126500849580507939842671094 237684563100656804665652937152 s (State.membersWrite s ag n w) := by
  unfold State.membersWrite
  extract_lets a1
  clear_value a1
  refine Acts.trans ?_ (acts_onWrite (L := 3169126500849580507939842671094) (R := 237684563100656804665652937152) _ _ _ _ _ ?_ rfl rfl) rfl rfl
  · exact Acts.refl _ _ _
  · intro t2
    refine Acts.trans ?_ (acts_membersWritten _ _ _) rfl rfl
    exact Acts.refl _ _ _

theorem acts_execReplCfg (n : Nat) (s : State) :
    ActsR 3208740582106712676736614646262 237684563100656806864676192704 s (execReplCfg n s) := by
  unfold execReplCfg
  refine ActsR.next ?_
  refine Acts.trans ?_ (acts_mbxRun (L := 3208740582106712676736614646262) (R := 237684563100656806864676192704) _ _ _ ?_ rfl rfl) rfl rfl
  · exact Acts.refl _ _ _
  · intro t1
    intro t2
    extract_lets a3
    clear_value a3
    refine Acts.ite2 (fun _ => ?_) (fun _ => ?_)
    · exact Acts.refl _ _ _
    · refine Acts.trans ?_ (acts_after _ _) rfl rfl
      refine Acts.trans ?_ (acts_membersWrite _ _ _ _) rfl rfl
      refine Acts.trans ?_ (acts_onWrite (L := 3208740582106712676736614646262) (R := 237684563100656806864676192704) _ _ _ _ _ ?_ rfl rfl) rfl rfl
      · exact Acts.refl _ _ _
      · intro t4
        exact Acts.refl _ _ _

theorem acts_execPortGet (n : Nat) (s : State) :
    ActsR 39614081257132168796771975168 0 s (execPortGet n s) := by
  unfold execPortGet
  refine ActsR.next ?_
  refine Acts.trans ?_ (acts_mbxAsk _ _ _ _) rfl rfl
  exact Acts.refl _ _ _

theorem acts_execHartRelease (n : Nat) (s : State) :
    ActsR 3367196906858540190739965411408 3245185536659825149571873038663904 s (execHartRelease n s) := by
  unfold execHartRelease
  refine ActsR.next ?_
  refine Acts.trans ?_ (acts_mbxRun (L := 3367196906858540190739965411408) (R := 3245185536659825149571873038663904) _ _ _ ?_ rfl rfl) rfl rfl
  · exact Acts.refl _ _ _
  · intro t1
    intro t2
    refine Acts.ite2 (fun _ => ?_) (fun _ => ?_)
    · exact Acts.refl _ _ _
    · split
      · exact Acts.refl _ _ _
      · extract_lets a3
        have ha3 : Acts 3367196906858540190739965411408 3245185536659825149571873038663904 t2 a3 := by
          dsimp only [a3]
          refine Acts.trans ?_ (acts_coreRelease _ _) rfl rfl
          exact Acts.refl _ _ _
        clear_value a3
        refine Acts.ite2 (fun _ => ?_) (fun _ => ?_)
        · with_reducible assumption
        · exact Acts.refl _ _ _

theorem acts_execMbxStepDown (n : Nat) (s : State) :
    ActsR 3208740582106712676670042653174 237684563100656747491065725376 s (execMbxStepDown n s) := by
  unfold execMbxStepDown
  refine ActsR.next ?_
  refine Acts.trans ?_ (acts_mbxRun (L := 3208740582106712676670042653174) (R := 237684563100656747491065725376) _ _ _ ?_ rfl rfl) rfl rfl
  · exact Acts.refl _ _ _
  · intro t1
    intro t2
    extract_lets a3
    clear_value a3
    refine Acts.ite2 (fun _ => ?_) (fun _ => ?_)
    · exact Acts.refl _ _ _
    · refine Acts.trans ?_ (acts_after _ _) rfl rfl
      refine Acts.trans ?_ (acts_stepDownWrite _ _ _ _) rfl rfl
      exact Acts.refl _ _ _

theorem acts_execRing (ag : Agent) (n : Nat) (w : W) (s : State) :
    ActsR 3208740582106712676666821427702 2139160463443000840940010078656 s (execRing ag n w s) := by
  unfold execRing
  refine ActsR.next ?_
  refine Acts.trans ?_ (acts_onWrite (L := 3208740582106712676666821427702) (R := 2139160463443000840940010078656) _ _ _ _ _ ?_ rfl rfl) rfl rfl
  · exact Acts.refl _ _ _
  · intro t1
    refine Acts.ite (fun _ => ?_) (fun _ => ?_)
    · refine Acts.trans ?_ (acts_ring _ _) rfl rfl
      exact Acts.refl _ _ _
    · exact Acts.refl _ _ _

theorem acts_execErrlogRead (n : Nat) (s : State) :
    ActsR 39614081257132168796771975168 0 s (execErrlogRead n s) := by
  unfold execErrlogRead
  refine ActsR.next ?_
  refine Acts.trans ?_ (acts_mbxAsk _ _ _ _) rfl rfl
  exact Acts.refl _ _ _

theorem acts_execOperationFinished (n : Nat) (id : Nat) (s : State) :
    ActsR 703149942316410846356137050192 1267650678147276368845849231552 s (execOperationFinished n id s) := by
  unfold execOperationFinished
  refine ActsR.next ?_
  split
  · exact Acts.refl _ _ _
  · extract_lets a1 a2 a3
    clear_value (ea1 : a1 = _)
    have ha1 : Acts 703149942316410846356137050192 1267650678147276368845849231552 s a1.2 := by
      rw [ea1]
      clear ea1
      refine Acts.trans ?_ (acts_opEnd _ _) rfl rfl
      exact Acts.refl _ _ _
    clear ea1
    clear_value a2
    have ha3 : Acts 703149942316410846356137050192 1267650678147276368845849231552 s a3 := by
      dsimp only [a3]
      refine Acts.trans ?_ (acts_setOps _ _ _) rfl rfl
      with_reducible assumption
    clear_value a3
    refine Acts.ite (fun _ => ?_) (fun _ => ?_)
    · refine Acts.trans ?_ (acts_pageSource _ _) rfl rfl
      with_reducible assumption
    · with_reducible assumption

theorem acts_execPartStatus (n : Nat) (s : State) :
    ActsR 39614081257132168796771975168 0 s (execPartStatus n s) := by
  unfold execPartStatus
  refine ActsR.next ?_
  refine Acts.trans ?_ (acts_mbxAsk _ _ _ _) rfl rfl
  exact Acts.refl _ _ _

theorem acts_execPortSet (n : Nat) (s : State) :
    ActsR 3208740582106712677628894102006 237684563100656740344222712256 s (execPortSet n s) := by
  unfold execPortSet
  refine ActsR.next ?_
  refine Acts.trans ?_ (acts_mbxRun (L := 3208740582106712677628894102006) (R := 237684563100656740344222712256) _ _ _ ?_ rfl rfl) rfl rfl
  · exact Acts.refl _ _ _
  · intro t1
    intro t2
    extract_lets a3
    clear_value a3
    refine Acts.ite2 (fun _ => ?_) (fun _ => ?_)
    · exact Acts.refl _ _ _
    · refine Acts.trans ?_ (acts_after _ _) rfl rfl
      refine Acts.trans ?_ (acts_portCtlWrite _ _ _ _) rfl rfl
      exact Acts.refl _ _ _

theorem acts_execCommandFinished (n : Nat) (s : State) :
    ActsR 673439381373552712559169110096 1267650675786093127411026624704 s (execCommandFinished n s) := by
  unfold execCommandFinished
  refine ActsR.next ?_
  split
  · exact Acts.refl _ _ _
  · split
    · extract_lets a1 a2 a3 a4
      clear_value a1
      clear_value a2
      clear_value a3
      have ha4 : Acts 673439381373552712559169110096 1267650675786093127411026624704 s a4 := by
        dsimp only [a4]
        refine Acts.trans ?_ (acts_setPage _ _ _) rfl rfl
        exact Acts.refl _ _ _
      clear_value a4
      refine Acts.ite (fun _ => ?_) (fun _ => ?_)
      · exact Acts.refl _ _ _
      · refine Acts.trans ?_ (acts_pageSource _ _) rfl rfl
        refine Acts.trans ?_ (acts_setFld _ _ _ _) rfl rfl
        refine Acts.trans ?_ (acts_setFld _ _ _ _) rfl rfl
        with_reducible assumption
    · exact Acts.refl _ _ _

theorem acts_routeSet (s : State) (p : List Byte) (k : Nat) :
    Acts 3169126500849580507870049452534 237684563100656738699250237888 s (State.routeSet s p k) := by
  unfold State.routeSet
  refine Acts.foldl (L2 := 3169126500849580507870049452534) (R2 := 237684563100656738699250237888) _ ?_ (fun t1 x2 => ?_) rfl rfl
  · exact Acts.refl _ _ _
  · refine Acts.trans ?_ (acts_onWrite (L := 3169126500849580507870049452534) (R := 237684563100656738699250237888) _ _ _ _ _ ?_ rfl rfl) rfl rfl
    · exact Acts.refl _ _ _
    · intro t3
      exact Acts.refl _ _ _

theorem acts_execRouteSet (n : Nat) (s : State) :
    ActsR 3208740582106712676666821427702 237684563100656738699250237888 s (execRouteSet n s) := by
  unfold execRouteSet
  refine ActsR.next ?_
  refine Acts.trans ?_ (acts_mbxRun (L := 3208740582106712676666821427702) (R := 237684563100656738699250237888) _ _ _ ?_ rfl rfl) rfl rfl
  · exact Acts.refl _ _ _
  · intro t1
    intro t2
    refine Acts.ite2 (fun _ => ?_) (fun _ => ?_)
    · exact Acts.refl _ _ _
    · refine Acts.trans ?_ (acts_after _ _) rfl rfl
      refine Acts.trans ?_ (acts_routeSet _ _ _) rfl rfl
      exact Acts.refl _ _ _

theorem acts_execSlotArm (n : Nat) (s : State) :
    ActsR 3208740582106712677079138288118 680564733841876926926749214863536422911 s (execSlotArm n s) := by
  unfold execSlotArm
  refine ActsR.next ?_
  refine Acts.trans ?_ (acts_mbxRun (L := 3208740582106712677079138288118) (R := 680564733841876926926749214863536422911) _ _ _ ?_ rfl rfl) rfl rfl
  · exact Acts.refl _ _ _
  · intro t1
    intro t2
    extract_lets a3 a4 a5 a6
    clear_value a3
    clear_value a4
    have ha5 : Acts 3208740582106712677079138288118 680564733841876926926749214863536422911 t2 a5 := by
      dsimp only [a5]
      refine Acts.trans ?_ (acts_slotCfgWrite _ _ _ _) rfl rfl
      exact Acts.refl _ _ _
    clear_value a5
    have ha6 : Acts 3208740582106712677079138288118 680564733841876926926749214863536422911 t2 a6 := by
      dsimp only [a6]
      refine Acts.foldl (L2 := 3208740582106712677079138288118) (R2 := 680564733841876926926749214863536422911) _ ?_ (fun t7 x8 => ?_) rfl rfl
      · with_reducible assumption
      · refine Acts.trans ?_ (acts_onWrite (L := 3208740582106712677079138288118) (R := 680564733841876926926749214863536422911) _ _ _ _ _ ?_ rfl (RegId.inAll2 _ _ rfl)) rfl rfl
        · exact Acts.refl _ _ _
        · intro t9
          exact Acts.refl _ _ _
    clear_value a6
    refine Acts.ite2 (fun _ => ?_) (fun _ => ?_)
    · exact Acts.refl _ _ _
    · refine Acts.trans ?_ (acts_after _ _) rfl rfl
      refine Acts.trans ?_ (acts_slotCfgWrite _ _ _ _) rfl rfl
      with_reducible assumption

theorem acts_execPstateGet (n : Nat) (s : State) :
    ActsR 39614081257132168796771975168 0 s (execPstateGet n s) := by
  unfold execPstateGet
  refine ActsR.next ?_
  refine Acts.trans ?_ (acts_mbxAsk _ _ _ _) rfl rfl
  exact Acts.refl _ _ _

theorem acts_execReplGet (n : Nat) (s : State) :
    ActsR 39614081257132168796771975168 0 s (execReplGet n s) := by
  unfold execReplGet
  refine ActsR.next ?_
  refine Acts.trans ?_ (acts_mbxAsk _ _ _ _) rfl rfl
  exact Acts.refl _ _ _

theorem acts_execMbxAttest (n : Nat) (s : State) :
    ActsR 59421121885698253195157962768 1267650600228229401496703205376 s (execMbxAttest n s) := by
  unfold execMbxAttest
  refine ActsR.next ?_
  refine Acts.trans ?_ (acts_mbxRun (L := 59421121885698253195157962768) (R := 1267650600228229401496703205376) _ _ _ ?_ rfl rfl) rfl rfl
  · exact Acts.refl _ _ _
  · intro t1
    intro t2
    refine Acts.trans ?_ (acts_opStart _ _ _ _ _ _) rfl rfl
    exact Acts.refl _ _ _

theorem acts_execMbxImageArm (n : Nat) (good : Bool) (s : State) :
    ActsR 693323793494381806191550513622 1505335163328886140191658475968 s (execMbxImageArm n good s) := by
  unfold execMbxImageArm
  refine ActsR.next ?_
  refine Acts.trans ?_ (acts_mbxRun (L := 693323793494381806191550513622) (R := 1505335163328886140191658475968) _ _ _ ?_ rfl rfl) rfl rfl
  · exact Acts.refl _ _ _
  · intro t1
    intro t2
    extract_lets a3
    clear_value (ea3 : a3 = _)
    have ha3 : Acts 693323793494381806191550513622 1505335163328886140191658475968 t2 a3.2.2 := by
      rw [ea3]
      clear ea3
      refine Acts.trans ?_ (acts_imageArm _ _ _ _ _) rfl rfl
      exact Acts.refl _ _ _
    clear ea3
    refine Acts.trans ?_ (acts_opStart _ _ _ _ _ _) rfl rfl
    with_reducible assumption

theorem acts_execOpStatus (n : Nat) (s : State) :
    ActsR 39614081257132168796771975184 1267650600228229401496703205376 s (execOpStatus n s) := by
  unfold execOpStatus
  refine ActsR.next ?_
  refine Acts.trans ?_ (acts_mbxRun (L := 39614081257132168796771975184) (R := 1267650600228229401496703205376) _ _ _ ?_ rfl rfl) rfl rfl
  · exact Acts.refl _ _ _
  · intro t1
    intro t2
    extract_lets a3 a4
    clear_value a3
    clear_value a4
    split
    · exact Acts.refl _ _ _
    · split
      · dsimp only
        refine Acts.trans ?_ (acts_setOps _ _ _) rfl rfl
        exact Acts.refl _ _ _
      · exact Acts.refl _ _ _

theorem acts_partly (s : State) (n : Nat) (k : Nat) :
    Acts 3169203872102035844137230647798 237684572545389704438540665280 s (State.partly s n k) := by
  unfold State.partly
  split
  · refine Acts.ite (fun _ => ?_) (fun _ => ?_)
    · exact Acts.refl _ _ _
    · refine Acts.ite (fun _ => ?_) (fun _ => ?_)
      · refine Acts.trans ?_ (acts_routeSet _ _ _) rfl rfl
        exact Acts.refl _ _ _
      · refine Acts.ite (fun _ => ?_) (fun _ => ?_)
        · refine Acts.trans ?_ (acts_wtAssign _ _ _) rfl rfl
          exact Acts.refl _ _ _
        · refine Acts.ite (fun _ => ?_) (fun _ => ?_)
          · refine Acts.trans ?_ (acts_macSet _ _ _ _) rfl rfl
            exact Acts.refl _ _ _
          · refine Acts.ite (fun _ => ?_) (fun _ => ?_)
            · refine Acts.trans ?_ (acts_imageWrite _ _ _) rfl rfl
              exact Acts.refl _ _ _
            · exact Acts.refl _ _ _
  · exact Acts.refl _ _ _

theorem acts_execMacenRestart (part : List (Nat × Nat)) (s0 : State) :
    ActsR 40485423949754038271492061396982 680564733841876926926749214863536422911 s0 (execMacenRestart part s0) := by
  unfold execMacenRestart
  refine ActsR.next ?_
  refine Acts.ite (fun _ => ?_) (fun _ => ?_)
  · refine Acts.trans ?_ (acts_systemReset _ _) rfl rfl
    exact Acts.refl _ _ _
  · extract_lets a1 a2 a3 a4 a5 a6
    have ha1 : Acts 40485423949754038271492061396982 680564733841876926926749214863536422911 s0 a1 := by
      dsimp only [a1]
      refine Acts.foldl (L2 := 40485423949754038271492061396982) (R2 := 680564733841876926926749214863536422911) _ ?_ (fun t7 x8 => ?_) rfl rfl
      · exact Acts.refl _ _ _
      · refine Acts.ite (fun _ => ?_) (fun _ => ?_)
        · refine Acts.trans ?_ (acts_partly _ _ _) rfl rfl
          exact Acts.refl _ _ _
        · exact Acts.refl _ _ _
    clear_value a1
    clear_value a2
    have ha3 : Acts 40485423949754038271492061396982 680564733841876926926749214863536422911 s0 a3 := by
      refine Acts.trans ?_ (Acts.set_mac_pages _ _ _) rfl rfl
      with_reducible assumption
    clear_value a3
    have ha4 : Acts 40485423949754038271492061396982 680564733841876926926749214863536422911 s0 a4 := by
      dsimp only [a4]
      refine Acts.trans ?_ (acts_logErr _ _ _ _ _ _) rfl rfl
      refine Acts.trans ?_ (acts_loadGeneration _) rfl rfl
      with_reducible assumption
    clear_value a4
    have ha5 : Acts 40485423949754038271492061396982 680564733841876926926749214863536422911 s0 a5 := by
      dsimp only [a5]
      refine Acts.foldl (L2 := 40485423949754038271492061396982) (R2 := 680564733841876926926749214863536422911) _ ?_ (fun t9 x10 => ?_) rfl rfl
      · with_reducible assumption
      · refine Acts.trans ?_ (acts_raise _ _) rfl rfl
        exact Acts.refl _ _ _
    clear_value a5
    have ha6 : Acts 40485423949754038271492061396982 680564733841876926926749214863536422911 s0 a6 := by
      dsimp only [a6]
      refine Acts.trans ?_ (acts_raise _ _) rfl rfl
      with_reducible assumption
    clear_value a6
    split
    · refine Acts.ite (fun _ => ?_) (fun _ => ?_)
      · with_reducible assumption
      · refine Acts.trans ?_ (acts_reject _ _ _) rfl rfl
        with_reducible assumption
    · with_reducible assumption

theorem acts_execCoreSwap (n : Nat) (s : State) :
    ActsR 59421121885698253195157962768 1267650600228229401496703205376 s (execCoreSwap n s) := by
  unfold execCoreSwap
  refine ActsR.next ?_
  refine Acts.trans ?_ (acts_mbxRun (L := 59421121885698253195157962768) (R := 1267650600228229401496703205376) _ _ _ ?_ rfl rfl) rfl rfl
  · exact Acts.refl _ _ _
  · intro t1
    intro t2
    extract_lets a3
    clear_value a3
    refine Acts.ite2 (fun _ => ?_) (fun _ => ?_)
    · exact Acts.refl _ _ _
    · refine Acts.ite2 (fun _ => ?_) (fun _ => ?_)
      · refine Acts.trans ?_ (acts_opStart _ _ _ _ _ _) rfl rfl
        exact Acts.refl _ _ _
      · split
        · exact Acts.refl _ _ _
        · refine Acts.trans ?_ (acts_opStart _ _ _ _ _ _) rfl rfl
          refine Acts.trans ?_ (acts_swapBegin_eq (by assumption)) rfl rfl
          exact Acts.refl _ _ _

theorem acts_execBlockRead (pec : Bool) (s : State) :
    ActsR 693246422278819958071788421590 237684563100656738694955270592 s (execBlockRead pec s) := by
  unfold execBlockRead
  refine ActsR.next ?_
  refine Acts.ite (fun _ => ?_) (fun _ => ?_)
  · exact Acts.refl _ _ _
  · refine Acts.ite (fun _ => ?_) (fun _ => ?_)
    · refine Acts.trans ?_ (acts_pecFail _ _) rfl rfl
      exact Acts.refl _ _ _
    · extract_lets a1 a2 a3 a4
      clear_value a1
      clear_value a2
      have ha3 : Acts 693246422278819958071788421590 237684563100656738694955270592 s a3 := by
        refine Acts.trans ?_ (Acts.set_mac _ _) rfl rfl
        exact Acts.refl _ _ _
      clear_value a3
      clear_value a4
      refine Acts.trans ?_ (acts_setPage _ _ _) rfl rfl
      with_reducible assumption

theorem acts_execMbxAck (ag : Agent) (n : Nat) (w : W) (s : State) :
    ActsR 3208740582106712676666821427702 2139160463443000840940010078656 s (execMbxAck ag n w s) := by
  unfold execMbxAck
  refine ActsR.next ?_
  refine Acts.trans ?_ (acts_onWrite (L := 3208740582106712676666821427702) (R := 2139160463443000840940010078656) _ _ _ _ _ ?_ rfl rfl) rfl rfl
  · exact Acts.refl _ _ _
  · intro t1
    refine Acts.ite (fun _ => ?_) (fun _ => ?_)
    · refine Acts.trans ?_ (acts_ack _ _) rfl rfl
      exact Acts.refl _ _ _
    · exact Acts.refl _ _ _

theorem acts_execLadleSet (n : Nat) (s : State) :
    ActsR 4476391182334942078163524633078 18609192178673385321310037538880094656 s (execLadleSet n s) := by
  unfold execLadleSet
  refine ActsR.next ?_
  refine Acts.trans ?_ (acts_mbxRun (L := 4476391182334942078163524633078) (R := 18609192178673385321310037538880094656) _ _ _ ?_ rfl rfl) rfl rfl
  · exact Acts.refl _ _ _
  · intro t1
    intro t2
    extract_lets a3 a4 a5 a6 a7 a8
    clear_value a3
    clear_value a4
    clear_value a5
    clear_value a6
    have ha7 : Acts 4476391182334942078163524633078 18609192178673385321310037538880094656 t2 a7 := by
      dsimp only [a7]
      refine Acts.trans ?_ (acts_onWrite (L := 4476391182334942078163524633078) (R := 18609192178673385321310037538880094656) _ _ _ _ _ ?_ rfl rfl) rfl rfl
      · refine Acts.trans ?_ (acts_onWrite (L := 4476391182334942078163524633078) (R := 18609192178673385321310037538880094656) _ _ _ _ _ ?_ rfl rfl) rfl rfl
        · exact Acts.refl _ _ _
        · intro t9
          exact Acts.refl _ _ _
      · intro t10
        exact Acts.refl _ _ _
    clear_value a7
    have ha8 : Acts 4476391182334942078163524633078 18609192178673385321310037538880094656 t2 a8 := by
      dsimp only [a8]
      refine Acts.foldl (L2 := 4476391182334942078163524633078) (R2 := 18609192178673385321310037538880094656) _ ?_ (fun t11 x12 => ?_) rfl rfl
      · with_reducible assumption
      · refine Acts.trans ?_ (acts_onWrite (L := 4476391182334942078163524633078) (R := 18609192178673385321310037538880094656) _ _ _ _ _ ?_ rfl rfl) rfl rfl
        · exact Acts.refl _ _ _
        · intro t13
          exact Acts.refl _ _ _
    clear_value a8
    refine Acts.ite2 (fun _ => ?_) (fun _ => ?_)
    · exact Acts.refl _ _ _
    · refine Acts.trans ?_ (acts_after _ _) rfl rfl
      refine Acts.trans ?_ (acts_ladleCfg _ _ _ _) rfl rfl
      with_reducible assumption

theorem acts_execPowerRead (n : Nat) (mw : List Nat) (s : State) :
    ActsR 39614081257132168796771975168 0 s (execPowerRead n mw s) := by
  unfold execPowerRead
  refine ActsR.next ?_
  refine Acts.trans ?_ (acts_mbxAsk _ _ _ _) rfl rfl
  exact Acts.refl _ _ _

theorem acts_execVersion (n : Nat) (s : State) :
    ActsR 39614081257132168796771975168 0 s (execVersion n s) := by
  unfold execVersion
  refine ActsR.next ?_
  refine Acts.trans ?_ (acts_mbxAsk _ _ _ _) rfl rfl
  exact Acts.refl _ _ _

theorem acts_execSlotDisarm (n : Nat) (s : State) :
    ActsR 3208740582106712677079138288118 237684563100661312663326818752 s (execSlotDisarm n s) := by
  unfold execSlotDisarm
  refine ActsR.next ?_
  refine Acts.trans ?_ (acts_mbxRun (L := 3208740582106712677079138288118) (R := 237684563100661312663326818752) _ _ _ ?_ rfl rfl) rfl rfl
  · exact Acts.refl _ _ _
  · intro t1
    intro t2
    extract_lets a3
    clear_value a3
    refine Acts.ite2 (fun _ => ?_) (fun _ => ?_)
    · exact Acts.refl _ _ _
    · refine Acts.trans ?_ (acts_after _ _) rfl rfl
      refine Acts.trans ?_ (acts_slotCfgWrite _ _ _ _) rfl rfl
      exact Acts.refl _ _ _

theorem acts_execMbxRevokeImageKey (n : Nat) (bad : List Nat) (s : State) :
    ActsR 673449053019917302559380980182 237723248726884406828545868224 s (execMbxRevokeImageKey n bad s) := by
  unfold execMbxRevokeImageKey
  refine ActsR.next ?_
  refine Acts.trans ?_ (acts_mbxRun (L := 673449053019917302559380980182) (R := 237723248726884406828545868224) _ _ _ ?_ rfl rfl) rfl rfl
  · exact Acts.refl _ _ _
  · intro t1
    intro t2
    extract_lets a3
    clear_value (ea3 : a3 = _)
    have ha3 : Acts 673449053019917302559380980182 237723248726884406828545868224 t2 a3.2.2 := by
      rw [ea3]
      clear ea3
      refine Acts.trans ?_ (acts_revokeImage _ _ _) rfl rfl
      exact Acts.refl _ _ _
    clear ea3
    with_reducible assumption

theorem acts_execSmbusTimeout (s : State) :
    ActsR 59421121885698253195157962752 0 s (execSmbusTimeout s) := by
  unfold execSmbusTimeout
  refine ActsR.next ?_
  refine Acts.trans ?_ (acts_setPage _ _ _) rfl rfl
  refine Acts.trans ?_ (Acts.set_mac _ _) rfl rfl
  exact Acts.refl _ _ _

theorem acts_execRtcSet (n : Nat) (s : State) :
    ActsR 39616499108771398055121387536 2475880078570760549798248448 s (execRtcSet n s) := by
  unfold execRtcSet
  refine ActsR.next ?_
  refine Acts.trans ?_ (acts_mbxRun (L := 39616499108771398055121387536) (R := 2475880078570760549798248448) _ _ _ ?_ rfl rfl) rfl rfl
  · exact Acts.refl _ _ _
  · intro t1
    intro t2
    extract_lets a3 a4
    clear_value (ea3 : a3 = _)
    have ha3 : Acts 39616499108771398055121387536 2475880078570760549798248448 t2 a3.2 := by
      rw [ea3]
      clear ea3
      refine Acts.trans ?_ (acts_macSet _ _ _ _) rfl rfl
      exact Acts.refl _ _ _
    clear ea3
    have ha4 : Acts 39616499108771398055121387536 2475880078570760549798248448 t2 a4 := by
      dsimp only [a4]
      with_reducible assumption
    clear_value a4
    refine Acts.ite2 (fun _ => ?_) (fun _ => ?_)
    · dsimp only
      refine Acts.trans ?_ (Acts.set_rtcAcc _ _) rfl rfl
      with_reducible assumption
    · exact Acts.refl _ _ _

theorem acts_execMbxTrialConfirm (n : Nat) (fails : Nat) (bad : List Nat) (s : State) :
    ActsR 676002304350943399376360423894 237877991231795079362908258752 s (execMbxTrialConfirm n fails bad s) := by
  unfold execMbxTrialConfirm
  refine ActsR.next ?_
  refine Acts.trans ?_ (acts_mbxRun (L := 676002304350943399376360423894) (R := 237877991231795079362908258752) _ _ _ ?_ rfl rfl) rfl rfl
  · exact Acts.refl _ _ _
  · intro t1
    intro t2
    extract_lets a3
    clear_value (ea3 : a3 = _)
    have ha3 : Acts 676002304350943399376360423894 237877991231795079362908258752 t2 a3.2.2 := by
      rw [ea3]
      clear ea3
      refine Acts.trans ?_ (acts_trialConfirm _ _ _) rfl rfl
      exact Acts.refl _ _ _
    clear ea3
    with_reducible assumption

theorem acts_execPromote (n : Nat) (s : State) :
    ActsR 3228547622735278761547317494262 1505335163328886553608046248384 s (execPromote n s) := by
  unfold execPromote
  refine ActsR.next ?_
  refine Acts.trans ?_ (acts_mbxRun (L := 3228547622735278761547317494262) (R := 1505335163328886553608046248384) _ _ _ ?_ rfl rfl) rfl rfl
  · exact Acts.refl _ _ _
  · intro t1
    intro t2
    extract_lets a3 a4 a5
    clear_value a3
    clear_value a4
    have ha5 : Acts 3228547622735278761547317494262 1505335163328886553608046248384 t2 a5 := by
      dsimp only [a5]
      refine Acts.trans ?_ (acts_promoteWrite _ _ _ _) rfl rfl
      exact Acts.refl _ _ _
    clear_value a5
    refine Acts.ite2 (fun _ => ?_) (fun _ => ?_)
    · exact Acts.refl _ _ _
    · refine Acts.ite2 (fun _ => ?_) (fun _ => ?_)
      · with_reducible assumption
      · refine Acts.trans ?_ (acts_opStart _ _ _ _ _ _) rfl rfl
        with_reducible assumption

theorem acts_execWriteWord (w : Nat) (pec : Bool) (s : State) :
    ActsR 673439381650253873673402434006 237684563100656738694955270592 s (execWriteWord w pec s) := by
  unfold execWriteWord
  refine ActsR.next ?_
  refine Acts.ite (fun _ => ?_) (fun _ => ?_)
  · exact Acts.refl _ _ _
  · refine Acts.ite (fun _ => ?_) (fun _ => ?_)
    · refine Acts.trans ?_ (acts_pecFail _ _) rfl rfl
      exact Acts.refl _ _ _
    · refine Acts.trans ?_ (acts_setPage _ _ _) rfl rfl
      exact Acts.refl _ _ _

theorem acts_execIdlePolicy (n : Nat) (s : State) :
    ActsR 59421121885698253195157962752 0 s (execIdlePolicy n s) := by
  unfold execIdlePolicy
  refine ActsR.next ?_
  refine Acts.trans ?_ (acts_mbxRun (L := 59421121885698253195157962752) (R := 0) _ _ _ ?_ rfl rfl) rfl rfl
  · exact Acts.refl _ _ _
  · intro t1
    intro t2
    extract_lets a3 a4
    clear_value a3
    clear_value a4
    refine Acts.ite2 (fun _ => ?_) (fun _ => ?_)
    · exact Acts.refl _ _ _
    · dsimp only
      refine Acts.trans ?_ (Acts.set_mac _ _) rfl rfl
      exact Acts.refl _ _ _

theorem acts_execPstateSet (n : Nat) (s : State) :
    ActsR 39614987951496879768653004816 4951760157141521099596496896 s (execPstateSet n s) := by
  unfold execPstateSet
  refine ActsR.next ?_
  refine Acts.trans ?_ (acts_mbxRun (L := 39614987951496879768653004816) (R := 4951760157141521099596496896) _ _ _ ?_ rfl rfl) rfl rfl
  · exact Acts.refl _ _ _
  · intro t1
    intro t2
    extract_lets a3
    clear_value a3
    refine Acts.ite2 (fun _ => ?_) (fun _ => ?_)
    · exact Acts.refl _ _ _
    · dsimp only
      refine Acts.trans ?_ (acts_pStart _ _) rfl rfl
      refine Acts.trans ?_ (acts_setFld _ _ _ _) rfl rfl
      exact Acts.refl _ _ _

theorem acts_execPartReset (n : Nat) (s : State) :
    ActsR 40485346578501582935224880201686 680564733841876926926749214863536422911 s (execPartReset n s) := by
  unfold execPartReset
  refine ActsR.next ?_
  refine Acts.trans ?_ (acts_mbxRun (L := 40485346578501582935224880201686) (R := 680564733841876926926749214863536422911) _ _ _ ?_ rfl rfl) rfl rfl
  · exact Acts.refl _ _ _
  · intro t1
    intro t2
    extract_lets a3 a4
    clear_value a3
    have ha4 : Acts 40485346578501582935224880201686 680564733841876926926749214863536422911 t2 a4 := by
      dsimp only [a4]
      refine Acts.trans ?_ (acts_partStart _ _ _) rfl rfl
      refine Acts.trans ?_ (acts_setFld _ _ _ _) rfl rfl
      exact Acts.refl _ _ _
    clear_value a4
    refine Acts.ite2 (fun _ => ?_) (fun _ => ?_)
    · exact Acts.refl _ _ _
    · refine Acts.ite2 (fun _ => ?_) (fun _ => ?_)
      · exact Acts.refl _ _ _
      · refine Acts.ite2 (fun _ => ?_) (fun _ => ?_)
        · with_reducible assumption
        · refine Acts.trans ?_ (acts_opStart _ _ _ _ _ _) rfl rfl
          with_reducible assumption

end Sys2Proof.Machine
end

