-- ==== Sys2Proof/Laws/DebugActs.lean ====
section
/-! SUPPORT. What each operation and each command of Debug.lean may touch: `acts_<name>` bounds the fields and the registers that
`<name>` can change (see Acts.lean). -/

namespace Sys2Proof.Machine

open Sys2Proof

theorem acts_freshNonce (s : State) (port : Nat) :
    Acts 18 5070602400912917605986812821504 s (State.freshNonce s port) := by
  unfold State.freshNonce
  extract_lets a1
  clear_value (ea1 : a1 = _)
  have ha1 : Acts 18 5070602400912917605986812821504 s a1.2 := by
    rw [ea1]
    clear ea1
    refine Acts.trans ?_ (acts_nonce _) rfl rfl
    exact Acts.refl _ _ _
  clear ea1
  refine Acts.foldl (L2 := 18) (R2 := 5070602400912917605986812821504) _ ?_ (fun t2 x3 => ?_) rfl rfl
  · with_reducible assumption
  · refine Acts.trans ?_ (Acts.wr _ _ _ _) rfl rfl
    exact Acts.refl _ _ _

theorem acts_portAnswer (s : State) (p : DbgPort) (data : W) (status : Nat) :
    Acts 2535301200456458802993410605152 0 s (State.portAnswer s p data status) := by
  unfold State.portAnswer
  split
  · refine Acts.trans ?_ (Acts.set_dbg _ _) rfl rfl
    exact Acts.refl _ _ _
  · refine Acts.trans ?_ (acts_answer _ _ _ _) rfl rfl
    exact Acts.refl _ _ _

theorem acts_portAccess {L R : Nat} (s : State) (p : DbgPort) (r : RegId) (i : Nat) (write : Option W) {k : State → W × State}
    (hk : ∀ t, Acts L R t (k t).2) (hL : 3169126500849580507870049452534 ||| L = L) (hR : 237684563100656738694955270592 ||| R = R) : Acts L R s (s.portAccess p r i write k) := by
  unfold State.portAccess
  split
  · split
    · exact Acts.trans (L2 := 3169126500849580507870049452534) (R2 := 237684563100656738694955270592) (hk _) ((acts_portAnswer _ _ _ _).mono rfl rfl) hL hR
    · exact (acts_portAnswer _ _ _ _).mono (L := 3169126500849580507870049452534) (R := 237684563100656738694955270592) rfl rfl |>.mono hL hR
  · split
    · refine Acts.ite (fun _ => ?_) (fun _ => ?_)
      · exact Acts.trans (L2 := 3169126500849580507870049452534) (R2 := 237684563100656738694955270592) (hk _) ((acts_answerW _ _ _ _).mono rfl rfl) hL hR
      · exact Acts.trans (L2 := 3169126500849580507870049452534) (R2 := 237684563100656738694955270592) (hk _) ((acts_answer _ _ _ _).mono rfl rfl) hL hR
    · exact (acts_refuse _ _ _ _ _).mono (L := 3169126500849580507870049452534) (R := 237684563100656738694955270592) rfl rfl |>.mono hL hR

theorem acts_portWrite {L R : Nat} (s : State) (p : DbgPort) (r : RegId) (i : Nat) (w : W) {k : State → State}
    (hk : ∀ t, Acts L R t (k t)) (hL : 3169126500849580507870049452534 ||| L = L) (hR : (237684563100656738694955270592 ||| 2 ^ r.num) ||| R = R) : Acts L R s (s.portWrite p r i w k) := by
  have hR0 : 237684563100656738694955270592 ||| R = R := by rw [← hR, ← Nat.or_assoc, ← Nat.or_assoc, Nat.or_self]
  have hR1 : 2 ^ r.num ||| R = R := by
    rw [← hR, ← Nat.or_assoc, Nat.or_comm (2 ^ r.num), Nat.or_assoc 237684563100656738694955270592, Nat.or_self]
  unfold State.portWrite
  refine acts_portAccess _ _ _ _ _ (fun t => ?_) hL hR0
  exact Acts.trans ((acts_regWrite _ _ _ _).mono (L := 3169126500849580507870049452534) (R := 2 ^ r.num) rfl (Nat.or_self _) |>.mono hL hR1) (hk _)
        (Nat.or_self _) (Nat.or_self _)

theorem acts_unhalt (s : State) (c : Nat) (step : Bool) :
    Acts 3327582825601408021942891446352 3245185536659825131557474529181888 s (State.unhalt s c step) := by
  unfold State.unhalt
  extract_lets a1 a2 a3
  clear_value a1
  have ha2 : Acts 3327582825601408021942891446352 3245185536659825131557474529181888 s a2 := by
    dsimp only [a2]
    refine Acts.trans ?_ (acts_onCore _ _ _) rfl rfl
    exact Acts.refl _ _ _
  clear_value a2
  have ha3 : Acts 3327582825601408021942891446352 3245185536659825131557474529181888 s a3 := by
    dsimp only [a3]
    refine Acts.trans ?_ (acts_setFld _ _ _ _) rfl rfl
    refine Acts.trans ?_ (acts_setFld _ _ _ _) rfl rfl
    refine Acts.trans ?_ (acts_setFld _ _ _ _) rfl rfl
    refine Acts.trans ?_ (acts_trailerRun _ _ _) rfl rfl
    with_reducible assumption
  clear_value a3
  refine Acts.trans ?_ (acts_trace _ _ _ _ _) rfl rfl
  with_reducible assumption

theorem acts_runCmd (s : State) (h : Nat) (cmd : Nat) :
    Acts 3327582825601408021942891446352 3245185536659825131557474529181888 s (State.runCmd s h cmd) := by
  unfold State.runCmd
  split
  · exact Acts.refl _ _ _
  · extract_lets a1
    clear_value a1
    refine Acts.ite (fun _ => ?_) (fun _ => ?_)
    · exact Acts.refl _ _ _
    · split
      · refine Acts.ite (fun _ => ?_) (fun _ => ?_)
        · exact Acts.refl _ _ _
        · refine Acts.trans ?_ (acts_setFld _ _ _ _) rfl rfl
          refine Acts.trans ?_ (acts_onCore _ _ _) rfl rfl
          exact Acts.refl _ _ _
      · refine Acts.ite (fun _ => ?_) (fun _ => ?_)
        · refine Acts.trans ?_ (acts_unhalt _ _ _) rfl rfl
          exact Acts.refl _ _ _
        · refine Acts.ite (fun _ => ?_) (fun _ => ?_)
          · refine Acts.trans ?_ (acts_setFld _ _ _ _) rfl rfl
            refine Acts.trans ?_ (acts_onCore _ _ _) rfl rfl
            exact Acts.refl _ _ _
          · exact Acts.refl _ _ _
      · refine Acts.ite (fun _ => ?_) (fun _ => ?_)
        · refine Acts.trans ?_ (acts_unhalt _ _ _) rfl rfl
          exact Acts.refl _ _ _
        · exact Acts.refl _ _ _
      · exact Acts.refl _ _ _

theorem acts_coreCtlWrite (s : State) (p : DbgPort) (h : Nat) (w : W) :
    Acts 3347389866506675338858317595126 680564733841876926926749214863536422911 s (State.coreCtlWrite s p h w) := by
  unfold State.coreCtlWrite
  extract_lets a1 a2 a3 a4 a5 a6 a7
  clear_value a1
  clear_value a2
  clear_value a3
  clear_value a4
  clear_value a5
  clear_value a6
  clear_value a7
  refine Acts.trans ?_ (acts_portWrite (L := 3347389866506675338858317595126) (R := 680564733841876926926749214863536422911) _ _ _ _ _ ?_ rfl rfl) rfl rfl
  · exact Acts.refl _ _ _
  · intro t8
    extract_lets a9
    have ha9 : Acts 3347389866506675338858317595126 680564733841876926926749214863536422911 t8 a9 := by
      dsimp only [a9]
      refine Acts.trans ?_ (acts_runCmd _ _ _) rfl rfl
      exact Acts.refl _ _ _
    clear_value a9
    refine Acts.ite (fun _ => ?_) (fun _ => ?_)
    · split
      · refine Acts.trans ?_ (acts_coreResetStep _ _) rfl rfl
        with_reducible assumption
      · with_reducible assumption
    · with_reducible assumption

theorem acts_execHalt (p : DbgPort) (h : Nat) (w : W) (s : State) :
    ActsR 3347389866506675338858317595126 680564733841876926926749214863536422911 s (execHalt p h w s) := by
  unfold execHalt
  refine ActsR.next ?_
  refine Acts.ite (fun _ => ?_) (fun _ => ?_)
  · refine Acts.trans ?_ (acts_coreCtlWrite _ _ _ _) rfl rfl
    exact Acts.refl _ _ _
  · exact Acts.refl _ _ _

theorem acts_setTap (s : State) (f : Tap → Tap) :
    Acts 2535301200456458802993406410752 0 s (State.setTap s f) := by
  unfold State.setTap
  refine Acts.trans ?_ (Acts.set_dbg _ _) rfl rfl
  exact Acts.refl _ _ _

theorem acts_execBypass (s : State) :
    ActsR 2535301200456458802993406410752 0 s (execBypass s) := by
  unfold execBypass
  refine ActsR.next ?_
  refine Acts.trans ?_ (acts_setTap _ _) rfl rfl
  exact Acts.refl _ _ _

theorem acts_verified (s : State) (port : Nat) (reason : Nat) (c : List Byte) :
    Acts 3169126500812687019722617766358 7843588164470033147675174502848 s (State.verified s port reason c) := by
  unfold State.verified
  extract_lets a1 a2 a3 a4 a5 a6
  clear_value a1
  have ha2 : Acts 3169126500812687019722617766358 7843588164470033147675174502848 s a2 := by
    refine Acts.trans ?_ (Acts.set_dbg _ _) rfl rfl
    exact Acts.refl _ _ _
  clear_value a2
  have ha3 : Acts 3169126500812687019722617766358 7843588164470033147675174502848 s a3 := by
    dsimp only [a3]
    refine Acts.trans ?_ (acts_setFld _ _ _ _) rfl rfl
    refine Acts.trans ?_ (acts_setFld _ _ _ _) rfl rfl
    with_reducible assumption
  clear_value a3
  clear_value a4
  clear_value a5
  have ha6 : Acts 3169126500812687019722617766358 7843588164470033147675174502848 s a6 := by
    dsimp only [a6]
    refine Acts.ite (fun _ => ?_) (fun _ => ?_)
    · refine Acts.trans ?_ (acts_logErr _ _ _ _ _ _) rfl rfl
      with_reducible assumption
    · refine Acts.ite (fun _ => ?_) (fun _ => ?_)
      · with_reducible assumption
      · refine Acts.trans ?_ (acts_logErr _ _ _ _ _ _) rfl rfl
        refine Acts.trans ?_ (acts_setFld _ _ _ _) rfl rfl
        refine Acts.trans ?_ (acts_setFld _ _ _ _) rfl rfl
        refine Acts.trans ?_ (acts_setFld _ _ _ _) rfl rfl
        with_reducible assumption
  clear_value a6
  refine Acts.trans ?_ (acts_raise _ _) rfl rfl
  refine Acts.trans ?_ (acts_freshNonce _ _) rfl rfl
  with_reducible assumption

theorem acts_execSamplePreload (pins : List Bool) (cells : List Bool) (s : State) :
    ActsR 2535301200456458802993406410752 0 s (execSamplePreload pins cells s) := by
  unfold execSamplePreload
  refine ActsR.next ?_
  refine Acts.trans ?_ (acts_setTap _ _) rfl rfl
  exact Acts.refl _ _ _

theorem acts_setCoreReg (s : State) (c : Nat) (n : Nat) (w : W) :
    Acts 633825300114114700748351602768 680564733841876926926749214863536422911 s (State.setCoreReg s c n w) := by
  unfold State.setCoreReg
  refine Acts.ite (fun _ => ?_) (fun _ => ?_)
  · refine Acts.trans ?_ (acts_onCore _ _ _) rfl rfl
    refine Acts.trans ?_ (acts_resumeTrailer _ _) rfl rfl
    refine Acts.trans ?_ (acts_csrPut _ _ _ _) rfl rfl
    exact Acts.refl _ _ _
  · refine Acts.ite (fun _ => ?_) (fun _ => ?_)
    · refine Acts.ite (fun _ => ?_) (fun _ => ?_)
      · exact Acts.refl _ _ _
      · refine Acts.trans ?_ (acts_csrPut _ _ _ _) rfl rfl
        exact Acts.refl _ _ _
    · refine Acts.trans ?_ (acts_onCore _ _ _) rfl rfl
      exact Acts.refl _ _ _

theorem acts_regdata (s : State) (p : DbgPort) (h : Nat) (wr : Option W) (half : Option Bool) :
    Acts 3169126500849580507870049452534 680564733841876926926749214863536422911 s (State.regdata s p h wr half) := by
  unfold State.regdata
  extract_lets a1
  clear_value a1
  refine Acts.trans ?_ (acts_portAccess (L := 3169126500849580507870049452534) (R := 680564733841876926926749214863536422911) _ _ _ _ _ ?_ rfl rfl) rfl rfl
  · exact Acts.refl _ _ _
  · intro t2
    split
    · dsimp only
      refine Acts.trans ?_ (acts_setFld _ _ _ _) rfl rfl
      exact Acts.refl _ _ _
    · refine Acts.ite2 (fun _ => ?_) (fun _ => ?_)
      · dsimp only
        refine Acts.trans ?_ (acts_setFld _ _ _ _) rfl rfl
        exact Acts.refl _ _ _
      · split
        · exact Acts.refl _ _ _
        · dsimp only
          refine Acts.foldl (L2 := 3169126500849580507870049452534) (R2 := 680564733841876926926749214863536422911) _ ?_ (fun t3 x4 => ?_) rfl rfl
          · exact Acts.refl _ _ _
          · refine Acts.trans ?_ (acts_setCoreReg _ _ _ _) rfl rfl
            exact Acts.refl _ _ _

theorem acts_traceDrain (s : State) (h : Nat) :
    Acts 792281625144949218958075085270 649037107392411317292226364572096 s (State.traceDrain s h) := by
  unfold State.traceDrain
  extract_lets a1 a2 a3 a4
  clear_value a1
  clear_value a2
  clear_value a3
  clear_value a4
  refine Acts.foldl (L2 := 792281625144949218958075085270) (R2 := 649037107392411317292226364572096) _ ?_ (fun t5 x6 => ?_) rfl rfl
  · refine Acts.trans ?_ (Acts.set_traceBuf _ _) rfl rfl
    exact Acts.refl _ _ _
  · extract_lets a7 a8
    clear_value a7
    clear_value a8
    refine Acts.ite (fun _ => ?_) (fun _ => ?_)
    · refine Acts.trans ?_ (acts_setFld _ _ _ _) rfl rfl
      refine Acts.trans ?_ (acts_agentWriteBytes _ _ _ _) rfl rfl
      exact Acts.refl _ _ _
    · refine Acts.trans ?_ (acts_raise _ _) rfl rfl
      refine Acts.trans ?_ (acts_incSat _ _ _) rfl rfl
      exact Acts.refl _ _ _

theorem acts_execTapReset (s : State) :
    ActsR 2535301200456458802993406410752 0 s (execTapReset s) := by
  unfold execTapReset
  refine ActsR.next ?_
  refine Acts.trans ?_ (acts_setTap _ _) rfl rfl
  exact Acts.refl _ _ _

theorem acts_traceCfgWrite (s : State) (p : DbgPort) (w : W) :
    Acts 3169126500849580507870049452534 973793345538380837088163016999360 s (State.traceCfgWrite s p w) := by
  unfold State.traceCfgWrite
  extract_lets a1
  clear_value a1
  refine Acts.trans ?_ (acts_portWrite (L := 3169126500849580507870049452534) (R := 973793345538380837088163016999360) _ _ _ _ _ ?_ rfl rfl) rfl rfl
  · exact Acts.refl _ _ _
  · intro t2
    refine Acts.ite (fun _ => ?_) (fun _ => ?_)
    · refine Acts.trans ?_ (Acts.wr _ _ _ _) rfl rfl
      exact Acts.refl _ _ _
    · exact Acts.refl _ _ _

theorem acts_vtAccess (s : State) (p : DbgPort) (dir : Nat) (i : Nat) (wr : Option W) (low : Bool) :
    Acts 3486039150906637858244225253878 680564733841876926926749214863536422911 s (State.vtAccess s p dir i wr low) := by
  unfold State.vtAccess
  extract_lets a1 a2 a3 a4
  clear_value a1
  clear_value a2
  clear_value a4
  refine Acts.trans ?_ (acts_portAccess (L := 3486039150906637858244225253878) (R := 680564733841876926926749214863536422911) _ _ _ _ _ ?_ rfl rfl) rfl rfl
  · exact Acts.refl _ _ _
  · intro t5
    extract_lets a6 a7 a8 a9
    clear_value a6
    clear_value a7
    have ha8 : Acts 3486039150906637858244225253878 680564733841876926926749214863536422911 t5 a8 := by
      dsimp only [a8]
      refine Acts.trans ?_ (acts_snap _ _ _ _) rfl rfl
      exact Acts.refl _ _ _
    clear_value a8
    clear_value a9
    split
    · dsimp only
      refine Acts.ite (fun _ => ?_) (fun _ => ?_)
      · refine Acts.trans ?_ (Acts.set_dbg _ _) rfl rfl
        with_reducible assumption
      · with_reducible assumption
    · extract_lets a10 a11
      have ha10 : Acts 3486039150906637858244225253878 680564733841876926926749214863536422911 t5 a10 := by
        dsimp only [a10]
        refine Acts.ite (fun _ => ?_) (fun _ => ?_)
        · refine Acts.trans ?_ (acts_setFld _ _ _ _) rfl (RegId.inAll _)
          exact Acts.refl _ _ _
        · exact Acts.refl _ _ _
      clear_value a10
      clear_value a11
      dsimp only
      refine Acts.ite (fun _ => ?_) (fun _ => ?_)
      · with_reducible assumption
      · refine Acts.ite (fun _ => ?_) (fun _ => ?_)
        · refine Acts.trans ?_ (acts_setFld _ _ _ _) rfl (RegId.inAll _)
          with_reducible assumption
        · refine Acts.trans ?_ (Acts.set_dbg _ _) rfl rfl
          with_reducible assumption

theorem acts_execVtTx (p : DbgPort) (i : Nat) (wr : Option W) (low : Bool) (s : State) :
    ActsR 3486039150906637858244225253878 680564733841876926926749214863536422911 s (execVtTx p i wr low s) := by
  unfold execVtTx
  refine ActsR.next ?_
  refine Acts.ite (fun _ => ?_) (fun _ => ?_)
  · refine Acts.trans ?_ (acts_vtAccess _ _ _ _ _ _) rfl rfl
    exact Acts.refl _ _ _
  · exact Acts.refl _ _ _

theorem acts_execStep (p : DbgPort) (h : Nat) (w : W) (s : State) :
    ActsR 3347389866506675338858317595126 680564733841876926926749214863536422911 s (execStep p h w s) := by
  unfold execStep
  refine ActsR.next ?_
  refine Acts.ite (fun _ => ?_) (fun _ => ?_)
  · refine Acts.trans ?_ (acts_coreCtlWrite _ _ _ _) rfl rfl
    exact Acts.refl _ _ _
  · exact Acts.refl _ _ _

theorem acts_execDebugResume (p : DbgPort) (h : Nat) (w : W) (s : State) :
    ActsR 3347389866506675338858317595126 680564733841876926926749214863536422911 s (execDebugResume p h w s) := by
  unfold execDebugResume
  refine ActsR.next ?_
  refine Acts.ite (fun _ => ?_) (fun _ => ?_)
  · refine Acts.trans ?_ (acts_coreCtlWrite _ _ _ _) rfl rfl
    exact Acts.refl _ _ _
  · exact Acts.refl _ _ _

theorem acts_execVerifyComplete (p : DbgPort) (s : State) :
    ActsR 3169126500812687019722617766358 7843588164470033147675174502848 s (execVerifyComplete p s) := by
  unfold execVerifyComplete
  extract_lets a1
  clear_value a1
  refine ActsR.next ?_
  split
  · exact Acts.refl _ _ _
  · refine Acts.trans ?_ (acts_verified _ _ _ _) rfl rfl
    exact Acts.refl _ _ _

theorem acts_execDebugCoreReset (p : DbgPort) (h : Nat) (w : W) (s : State) :
    ActsR 3347389866506675338858586030582 680564733841876926926749214863536422911 s (execDebugCoreReset p h w s) := by
  unfold execDebugCoreReset
  refine ActsR.next ?_
  refine Acts.ite (fun _ => ?_) (fun _ => ?_)
  · exact Acts.refl _ _ _
  · split
    · refine Acts.trans ?_ (acts_coreCtlWrite _ _ _ _) rfl rfl
      exact Acts.refl _ _ _
    · extract_lets a1
      clear_value a1
      refine Acts.ite (fun _ => ?_) (fun _ => ?_)
      · refine Acts.trans ?_ (acts_portWrite (L := 3347389866506675338858586030582) (R := 680564733841876926926749214863536422911) _ _ _ _ _ ?_ rfl rfl) rfl rfl
        · exact Acts.refl _ _ _
        · intro t2
          refine Acts.trans ?_ (acts_coreRelease _ _) rfl rfl
          exact Acts.refl _ _ _
      · refine Acts.trans ?_ (acts_coreCtlWrite _ _ _ _) rfl rfl
        exact Acts.refl _ _ _

theorem acts_execVtRx (p : DbgPort) (i : Nat) (wr : Option W) (low : Bool) (s : State) :
    ActsR 3486039150906637858244225253878 680564733841876926926749214863536422911 s (execVtRx p i wr low s) := by
  unfold execVtRx
  refine ActsR.next ?_
  refine Acts.ite (fun _ => ?_) (fun _ => ?_)
  · refine Acts.trans ?_ (acts_vtAccess _ _ _ _ _ _) rfl rfl
    exact Acts.refl _ _ _
  · exact Acts.refl _ _ _

theorem acts_execIdcode (s : State) :
    ActsR 2535301200456458802993406410752 0 s (execIdcode s) := by
  unfold execIdcode
  refine ActsR.next ?_
  refine Acts.trans ?_ (acts_setTap _ _) rfl rfl
  exact Acts.refl _ _ _

theorem acts_authWrite (s : State) (p : DbgPort) (w : W) :
    Acts 40485346578501582935224880201718 680564733841876926926749214863536422911 s (State.authWrite s p w) := by
  unfold State.authWrite
  extract_lets a1 a2
  clear_value a1
  clear_value a2
  refine Acts.ite (fun _ => ?_) (fun _ => ?_)
  · split
    · refine Acts.trans ?_ (acts_portAnswer _ _ _ _) rfl rfl
      exact Acts.refl _ _ _
    · split
      · refine Acts.trans ?_ (acts_refuse _ _ _ _ _) rfl rfl
        exact Acts.refl _ _ _
      · refine Acts.trans ?_ (acts_refuse _ _ _ _ _) rfl rfl
        exact Acts.refl _ _ _
  · refine Acts.trans ?_ (acts_portAccess (L := 40485346578501582935224880201718) (R := 680564733841876926926749214863536422911) _ _ _ _ _ ?_ rfl rfl) rfl rfl
    · exact Acts.refl _ _ _
    · intro t3
      dsimp only
      split
      · refine Acts.ite (fun _ => ?_) (fun _ => ?_)
        · exact Acts.refl _ _ _
        · refine Acts.ite (fun _ => ?_) (fun _ => ?_)
          · refine Acts.trans ?_ (acts_verified _ _ _ _) rfl rfl
            refine Acts.trans ?_ (Acts.set_dbg _ _) rfl rfl
            exact Acts.refl _ _ _
          · refine Acts.trans ?_ (acts_setFld _ _ _ _) rfl rfl
            refine Acts.trans ?_ (Acts.set_dbg _ _) rfl rfl
            exact Acts.refl _ _ _
      · refine Acts.ite (fun _ => ?_) (fun _ => ?_)
        · exact Acts.refl _ _ _
        · refine Acts.trans ?_ (acts_freshNonce _ _) rfl rfl
          refine Acts.trans ?_ (acts_setFld _ _ _ _) rfl rfl
          refine Acts.trans ?_ (acts_setFld _ _ _ _) rfl rfl
          refine Acts.trans ?_ (acts_setFld _ _ _ _) rfl rfl
          exact Acts.refl _ _ _
      · refine Acts.trans ?_ (acts_systemReset _ _) rfl rfl
        exact Acts.refl _ _ _
      · exact Acts.refl _ _ _

theorem acts_execTraceSync (s : State) :
    ActsR 3327582825601408021951481496022 649037107392411317292226364572096 s (execTraceSync s) := by
  unfold execTraceSync
  refine ActsR.next ?_
  refine Acts.ite (fun _ => ?_) (fun _ => ?_)
  · exact Acts.refl _ _ _
  · extract_lets a1
    have ha1 : Acts 3327582825601408021951481496022 649037107392411317292226364572096 s a1 := by
      dsimp only [a1]
      refine Acts.foldl (L2 := 3327582825601408021951481496022) (R2 := 649037107392411317292226364572096) _ ?_ (fun t2 x3 => ?_) rfl rfl
      · exact Acts.refl _ _ _
      · split
        · refine Acts.ite (fun _ => ?_) (fun _ => ?_)
          · refine Acts.trans ?_ (acts_trace _ _ _ _ _) rfl rfl
            exact Acts.refl _ _ _
          · exact Acts.refl _ _ _
        · exact Acts.refl _ _ _
    clear_value a1
    refine Acts.foldl (L2 := 3327582825601408021951481496022) (R2 := 649037107392411317292226364572096) _ ?_ (fun t4 x5 => ?_) rfl rfl
    · with_reducible assumption
    · refine Acts.trans ?_ (acts_traceDrain _ _) rfl rfl
      exact Acts.refl _ _ _

theorem acts_execLcCmd (target : Nat) (bad : List Nat) (s : State) :
    ActsR 3169136172219243936756015415766 237684563100656738694955270592 s (execLcCmd target bad s) := by
  unfold execLcCmd
  refine ActsR.next ?_
  refine Acts.ite (fun _ => ?_) (fun _ => ?_)
  · refine Acts.trans ?_ (acts_setTap _ _) rfl rfl
    exact Acts.refl _ _ _
  · extract_lets a1
    clear_value (ea1 : a1 = _)
    have ha1 : Acts 3169136172219243936756015415766 237684563100656738694955270592 s a1.2.2 := by
      rw [ea1]
      clear ea1
      refine Acts.trans ?_ (acts_lcAdvance _ _ _) rfl rfl
      exact Acts.refl _ _ _
    clear ea1
    refine Acts.trans ?_ (acts_setTap _ _) rfl rfl
    with_reducible assumption

theorem acts_execDebugSystemReset (p : DbgPort) (w : W) (s : State) :
    ActsR 40485346578501582935224880201718 680564733841876926926749214863536422911 s (execDebugSystemReset p w s) := by
  unfold execDebugSystemReset
  refine ActsR.next ?_
  refine Acts.ite (fun _ => ?_) (fun _ => ?_)
  · refine Acts.trans ?_ (acts_authWrite _ _ _) rfl rfl
    exact Acts.refl _ _ _
  · exact Acts.refl _ _ _

theorem acts_execVerify (p : DbgPort) (w : W) (s : State) :
    ActsR 40485346578501582935224880201718 680564733841876926926749214863536422911 s (execVerify p w s) := by
  unfold execVerify
  refine ActsR.next ?_
  refine Acts.ite (fun _ => ?_) (fun _ => ?_)
  · refine Acts.trans ?_ (acts_authWrite _ _ _) rfl rfl
    exact Acts.refl _ _ _
  · exact Acts.refl _ _ _

theorem acts_execEnd (p : DbgPort) (w : W) (s : State) :
    ActsR 40485346578501582935224880201718 680564733841876926926749214863536422911 s (execEnd p w s) := by
  unfold execEnd
  refine ActsR.next ?_
  refine Acts.ite (fun _ => ?_) (fun _ => ?_)
  · refine Acts.trans ?_ (acts_authWrite _ _ _) rfl rfl
    exact Acts.refl _ _ _
  · exact Acts.refl _ _ _

theorem acts_execExtest (s : State) :
    ActsR 2535301200456458802993406410752 0 s (execExtest s) := by
  unfold execExtest
  refine ActsR.next ?_
  refine Acts.trans ?_ (acts_setTap _ _) rfl rfl
  exact Acts.refl _ _ _

theorem acts_execHaltTaken (c : Nat) (s : State) :
    ActsR 3327582825601408021942891446352 3245185536659825131557474529181888 s (execHaltTaken c s) := by
  unfold execHaltTaken
  extract_lets a1
  clear_value a1
  refine ActsR.next ?_
  refine Acts.ite (fun _ => ?_) (fun _ => ?_)
  · exact Acts.refl _ _ _
  · refine Acts.ite (fun _ => ?_) (fun _ => ?_)
    · split
      · refine Acts.trans ?_ (acts_enterHalt _ _ _ _) rfl rfl
        exact Acts.refl _ _ _
      · refine Acts.trans ?_ (acts_enterHalt _ _ _ _) rfl rfl
        exact Acts.refl _ _ _
    · refine Acts.ite (fun _ => ?_) (fun _ => ?_)
      · refine Acts.trans ?_ (acts_closeIval _ _) rfl rfl
        exact Acts.refl _ _ _
      · exact Acts.refl _ _ _

theorem acts_execRegdataAccess (p : DbgPort) (h : Nat) (wr : Option W) (s : State) :
    ActsR 3169126500849580507870049452534 680564733841876926926749214863536422911 s (execRegdataAccess p h wr s) := by
  unfold execRegdataAccess
  refine ActsR.next ?_
  refine Acts.ite (fun _ => ?_) (fun _ => ?_)
  · refine Acts.trans ?_ (acts_regdata _ _ _ _ _) rfl rfl
    exact Acts.refl _ _ _
  · exact Acts.refl _ _ _

theorem acts_execFreezeRelease (part : Nat) (s : State) :
    ActsR 12676506002282294014967032053776 39614081257132168796771975168 s (execFreezeRelease part s) := by
  unfold execFreezeRelease
  refine ActsR.next ?_
  refine Acts.ite (fun _ => ?_) (fun _ => ?_)
  · exact Acts.refl _ _ _
  · extract_lets a1 a2 a3
    clear_value a1
    have ha2 : Acts 12676506002282294014967032053776 39614081257132168796771975168 s a2 := by
      refine Acts.trans ?_ (Acts.set_dbg _ _) rfl rfl
      exact Acts.refl _ _ _
    clear_value a2
    clear_value a3
    refine Acts.ite (fun _ => ?_) (fun _ => ?_)
    · refine Acts.trans ?_ (acts_wdogLoad _ _ _) rfl rfl
      with_reducible assumption
    · with_reducible assumption

end Sys2Proof.Machine
end

