-- ==== Sys2Proof/Laws/LowSpeedActs.lean ====
section
/-! SUPPORT. What each operation and each command of LowSpeed.lean may touch: `acts_<name>` bounds the fields and the registers that
`<name>` can change (see Acts.lean). -/

namespace Sys2Proof.Machine

open Sys2Proof

theorem acts_uartStart (s : State) (u : Nat) :
    Acts 5070602400912917605986812821504 0 s (State.uartStart s u) := by
  unfold State.uartStart
  split
  · refine Acts.ite (fun _ => ?_) (fun _ => ?_)
    · refine Acts.trans ?_ (Acts.set_lsio _ _) rfl rfl
      exact Acts.refl _ _ _
    · exact Acts.refl _ _ _
  · exact Acts.refl _ _ _

theorem acts_uartSources (s : State) (u : Nat) :
    Acts 633825300117573465267003981904 75557863725914323419328 s (State.uartSources s u) := by
  unfold State.uartSources
  extract_lets a1 a2 a3 a4
  clear_value a1
  clear_value a2
  clear_value a3
  clear_value a4
  refine Acts.trans ?_ (acts_setSource _ _ _) rfl rfl
  refine Acts.trans ?_ (acts_setSource _ _ _) rfl rfl
  refine Acts.trans ?_ (acts_setSource _ _ _) rfl rfl
  exact Acts.refl _ _ _

theorem acts_uartCfg (s : State) (ag : Agent) (u : Nat) (w : W) :
    Acts 8239728901763651035361469121014 21267648170243217067117651659440783808 s (State.uartCfg s ag u w) := by
  unfold State.uartCfg
  refine Acts.trans ?_ (acts_onWrite (L := 8239728901763651035361469121014) (R := 21267648170243217067117651659440783808) _ _ _ _ _ ?_ rfl rfl) rfl rfl
  · exact Acts.refl _ _ _
  · intro t1
    refine Acts.trans ?_ (acts_uartSources _ _) rfl rfl
    refine Acts.trans ?_ (acts_uartStart _ _) rfl rfl
    exact Acts.refl _ _ _

theorem acts_uartStatus (s : State) (ag : Agent) (u : Nat) (w : W) :
    Acts 3169126500850733429374656299510 85070591967919178966500390552897323456 s (State.uartStatus s ag u w) := by
  unfold State.uartStatus
  refine Acts.trans ?_ (acts_onWrite (L := 3169126500850733429374656299510) (R := 85070591967919178966500390552897323456) _ _ _ _ _ ?_ rfl rfl) rfl rfl
  · exact Acts.refl _ _ _
  · intro t1
    refine Acts.trans ?_ (acts_uartSources _ _) rfl rfl
    exact Acts.refl _ _ _

theorem acts_execUartCharacter (u : Nat) (b : Byte) (err : Bool) (s : State) :
    ActsR 5704427701030491071253816803408 85070591730234691423707377772265472192 s (execUartCharacter u b err s) := by
  unfold execUartCharacter
  refine ActsR.next ?_
  refine Acts.ite (fun _ => ?_) (fun _ => ?_)
  · exact Acts.refl _ _ _
  · extract_lets a1 a2 a3 a4
    clear_value a1
    clear_value a2
    have ha3 : Acts 5704427701030491071253816803408 85070591730234691423707377772265472192 s a3 := by
      refine Acts.trans ?_ (Acts.set_lsio _ _) rfl rfl
      exact Acts.refl _ _ _
    clear_value a3
    have ha4 : Acts 5704427701030491071253816803408 85070591730234691423707377772265472192 s a4 := by
      dsimp only [a4]
      refine Acts.ite (fun _ => ?_) (fun _ => ?_)
      · refine Acts.trans ?_ (acts_setFld _ _ _ _) rfl rfl
        exact Acts.refl _ _ _
      · refine Acts.ite (fun _ => ?_) (fun _ => ?_)
        · refine Acts.trans ?_ (acts_setFld _ _ _ _) rfl rfl
          with_reducible assumption
        · with_reducible assumption
    clear_value a4
    refine Acts.trans ?_ (acts_uartSources _ _) rfl rfl
    with_reducible assumption

theorem acts_gpioCfg (s : State) (ag : Agent) (n : Nat) (w : W) :
    Acts 3169126500850733429374656299510 170141183698153794832344042410839376320 s (State.gpioCfg s ag n w) := by
  unfold State.gpioCfg
  refine Acts.trans ?_ (acts_onWrite (L := 3169126500850733429374656299510) (R := 170141183698153794832344042410839376320) _ _ _ _ _ ?_ rfl rfl) rfl rfl
  · exact Acts.refl _ _ _
  · intro t1
    refine Acts.trans ?_ (acts_setSource _ _ _) rfl rfl
    exact Acts.refl _ _ _

theorem acts_uartGet (s : State) (ag : Agent) (u : Nat) :
    Acts 8556641551820708385735644922358 237684563100656738694955270592 s (State.uartGet s ag u) := by
  unfold State.uartGet
  split
  · extract_lets a1 a2 a3
    clear_value a1
    clear_value a2
    have ha3 : Acts 8556641551820708385735644922358 237684563100656738694955270592 s a3 := by
      refine Acts.trans ?_ (Acts.set_lsio _ _) rfl rfl
      exact Acts.refl _ _ _
    clear_value a3
    refine Acts.trans ?_ (acts_answer _ _ _ _) rfl rfl
    refine Acts.trans ?_ (acts_snap _ _ _ _) rfl rfl
    refine Acts.trans ?_ (acts_uartSources _ _) rfl rfl
    with_reducible assumption
  · refine Acts.trans ?_ (acts_refuse _ _ _ _ _) rfl rfl
    exact Acts.refl _ _ _

theorem acts_execUartReceiveRead (ag : Agent) (u : Nat) (s : State) :
    ActsR 8556641551820708385735644922358 237684563100656738694955270592 s (execUartReceiveRead ag u s) := by
  unfold execUartReceiveRead
  refine ActsR.next ?_
  refine Acts.ite (fun _ => ?_) (fun _ => ?_)
  · refine Acts.trans ?_ (acts_uartGet _ _ _) rfl rfl
    exact Acts.refl _ _ _
  · exact Acts.refl _ _ _

theorem acts_execUartCharacterSent (u : Nat) (s : State) :
    ActsR 5704427701030491071253816803408 75557863725914323419328 s (execUartCharacterSent u s) := by
  unfold execUartCharacterSent
  refine ActsR.next ?_
  refine Acts.ite (fun _ => ?_) (fun _ => ?_)
  · exact Acts.refl _ _ _
  · extract_lets a1 a2
    clear_value a1
    have ha2 : Acts 5704427701030491071253816803408 75557863725914323419328 s a2 := by
      dsimp only [a2]
      split
      · refine Acts.trans ?_ (Acts.set_lsio _ _) rfl rfl
        exact Acts.refl _ _ _
      · exact Acts.refl _ _ _
    clear_value a2
    refine Acts.trans ?_ (acts_uartSources _ _) rfl rfl
    refine Acts.trans ?_ (acts_uartStart _ _) rfl rfl
    with_reducible assumption

theorem acts_uartPut (s : State) (ag : Agent) (u : Nat) (w : W) :
    Acts 8239728901763651035361469121014 127605887833036486899422216481868349888 s (State.uartPut s ag u w) := by
  unfold State.uartPut
  refine Acts.trans ?_ (acts_onWrite (L := 8239728901763651035361469121014) (R := 127605887833036486899422216481868349888) _ _ _ _ _ ?_ rfl rfl) rfl rfl
  · exact Acts.refl _ _ _
  · intro t1
    extract_lets a2 a3 a4
    clear_value a2
    clear_value a3
    have ha4 : Acts 8239728901763651035361469121014 127605887833036486899422216481868349888 t1 a4 := by
      dsimp only [a4]
      refine Acts.ite (fun _ => ?_) (fun _ => ?_)
      · refine Acts.trans ?_ (acts_setFld _ _ _ _) rfl rfl
        exact Acts.refl _ _ _
      · refine Acts.trans ?_ (Acts.set_lsio _ _) rfl rfl
        exact Acts.refl _ _ _
    clear_value a4
    refine Acts.trans ?_ (acts_uartSources _ _) rfl rfl
    refine Acts.trans ?_ (acts_uartStart _ _) rfl rfl
    with_reducible assumption

theorem acts_execUartTransmit (ag : Agent) (u : Nat) (w : W) (s : State) :
    ActsR 8239728901763651035361469121014 127605887833036486899422216481868349888 s (execUartTransmit ag u w s) := by
  unfold execUartTransmit
  refine ActsR.next ?_
  refine Acts.ite (fun _ => ?_) (fun _ => ?_)
  · refine Acts.trans ?_ (acts_uartPut _ _ _ _) rfl rfl
    exact Acts.refl _ _ _
  · exact Acts.refl _ _ _

end Sys2Proof.Machine
end

