-- ==== Sys2Proof/Laws/AccessActs.lean ====
section
/-! SUPPORT. What each operation and each command of Access.lean may touch: `acts_<name>` bounds the fields and the registers that
`<name>` can change (see Acts.lean). -/

namespace Sys2Proof.Machine

open Sys2Proof

theorem acts_memCtlWrite (s : State) (p : DbgPort) (w : W) :
    Acts 3169126500849580507870183670262 20520094166752327162642206556608 s (State.memCtlWrite s p w) := by
  unfold State.memCtlWrite
  extract_lets a1 a2 a3 a4 a5 a6 a7 a8
  clear_value a1
  clear_value a2
  clear_value a3
  clear_value a4
  clear_value a5
  clear_value a6
  clear_value a7
  clear_value a8
  refine Acts.trans ?_ (acts_portWrite (L := 3169126500849580507870183670262) (R := 20520094166752327162642206556608) _ _ _ _ _ ?_ rfl rfl) rfl rfl
  · exact Acts.refl _ _ _
  · intro t9
    refine Acts.ite (fun _ => ?_) (fun _ => ?_)
    · exact Acts.refl _ _ _
    · extract_lets a10 a11 a12 a13 a14 a15
      clear_value a10
      clear_value a11
      have ha12 : Acts 3169126500849580507870183670262 20520094166752327162642206556608 t9 a12 := by
        dsimp only [a12]
        refine Acts.trans ?_ (acts_setFld _ _ _ _) rfl rfl
        exact Acts.refl _ _ _
      clear_value a12
      clear_value a13
      clear_value a15
      refine Acts.ite (fun _ => ?_) (fun _ => ?_)
      · dsimp only [a14]
        refine Acts.trans ?_ (Acts.set_dbg _ _) rfl rfl
        with_reducible assumption
      · split
        · dsimp only [a14]
          refine Acts.trans ?_ (Acts.set_dbg _ _) rfl rfl
          with_reducible assumption
        · dsimp only [a14]
          refine Acts.trans ?_ (Acts.set_dbg _ _) rfl rfl
          refine Acts.trans ?_ (acts_setIo _ _ _ _) rfl rfl
          refine Acts.trans ?_ (acts_takeTxn_eq (by assumption)) rfl rfl
          with_reducible assumption

theorem acts_dbgPut (s : State) (p : DbgPort) (r : RegId) (i : Nat) (w : W) (low : Bool) :
    Acts 40485346578501582935224880201718 680564733841876926926749214863536422911 s (State.dbgPut s p r i w low) := by
  unfold State.dbgPut
  split
  · refine Acts.trans ?_ (acts_authWrite _ _ _) rfl rfl
    exact Acts.refl _ _ _
  · refine Acts.trans ?_ (acts_coreCtlWrite _ _ _ _) rfl rfl
    exact Acts.refl _ _ _
  · refine Acts.trans ?_ (acts_regdata _ _ _ _ _) rfl rfl
    exact Acts.refl _ _ _
  · refine Acts.trans ?_ (acts_vtAccess _ _ _ _ _ _) rfl rfl
    exact Acts.refl _ _ _
  · refine Acts.trans ?_ (acts_vtAccess _ _ _ _ _ _) rfl rfl
    exact Acts.refl _ _ _
  · refine Acts.trans ?_ (acts_memCtlWrite _ _ _) rfl rfl
    exact Acts.refl _ _ _
  · refine Acts.trans ?_ (acts_traceCfgWrite _ _ _) rfl rfl
    exact Acts.refl _ _ _
  · refine Acts.trans ?_ (acts_portWrite (L := 40485346578501582935224880201718) (R := 680564733841876926926749214863536422911) _ _ _ _ _ ?_ rfl (RegId.inAll2 _ _ rfl)) rfl rfl
    · exact Acts.refl _ _ _
    · intro t1
      exact Acts.refl _ _ _

theorem acts_nextOf {L R : Nat} {u s : State} {r : Res} (h0 : Acts L R u s) (h : ActsR L R u r) : Acts L R u (nextOf s r) := by
  unfold nextOf
  split
  · exact h _ rfl
  · exact h0

theorem acts_snapRead (s : State) (ag : Agent) (r : RegId) (i : Nat) (half : Option Bool) :
    Acts 3486039150906637858244225253878 237684563100656738694955270592 s (State.snapRead s ag r i half) := by
  unfold State.snapRead
  split
  · extract_lets a1 a2 a3
    clear_value a1
    clear_value a2
    clear_value a3
    refine Acts.ite (fun _ => ?_) (fun _ => ?_)
    · refine Acts.trans ?_ (acts_answer _ _ _ _) rfl rfl
      exact Acts.refl _ _ _
    · refine Acts.trans ?_ (acts_answer _ _ _ _) rfl rfl
      refine Acts.trans ?_ (acts_snap _ _ _ _) rfl rfl
      exact Acts.refl _ _ _
  · refine Acts.trans ?_ (acts_refuse _ _ _ _ _) rfl rfl
    exact Acts.refl _ _ _

theorem acts_execRsSnapshotRead (ag : Agent) (pa : Nat) (size : Nat) (s : State) :
    ActsR 3486039150906637858244225253878 237684563100656738694955270592 s (execRsSnapshotRead ag pa size s) := by
  unfold execRsSnapshotRead
  refine ActsR.next ?_
  split
  · refine Acts.ite (fun _ => ?_) (fun _ => ?_)
    · exact Acts.refl _ _ _
    · refine Acts.trans ?_ (acts_snapRead _ _ _ _ _) rfl rfl
      exact Acts.refl _ _ _
  · exact Acts.refl _ _ _

theorem acts_jtagRead (s : State) (r : RegId) (i : Nat) :
    Acts 3486039150906637858244225253878 680564733841876926926749214863536422911 s (State.jtagRead s r i) := by
  unfold State.jtagRead
  split
  · refine Acts.trans ?_ (acts_regdata _ _ _ _ _) rfl rfl
    exact Acts.refl _ _ _
  · refine Acts.trans ?_ (acts_vtAccess _ _ _ _ _ _) rfl rfl
    exact Acts.refl _ _ _
  · refine Acts.trans ?_ (acts_vtAccess _ _ _ _ _ _) rfl rfl
    exact Acts.refl _ _ _
  · refine Acts.trans ?_ (acts_portAnswer _ _ _ _) rfl rfl
    exact Acts.refl _ _ _
  · refine Acts.trans ?_ (acts_portAnswer _ _ _ _) rfl rfl
    exact Acts.refl _ _ _
  · refine Acts.trans ?_ (acts_portAccess (L := 3486039150906637858244225253878) (R := 680564733841876926926749214863536422911) _ _ _ _ _ ?_ rfl rfl) rfl rfl
    · exact Acts.refl _ _ _
    · intro t1
      exact Acts.refl _ _ _

theorem acts_execDbgacc (op : Nat) (off : Nat) (data : W) (s0 : State) :
    ActsR 40485346578501582935224880201718 680564733841876926926749214863536422911 s0 (execDbgacc op off data s0) := by
  unfold execDbgacc
  extract_lets a1 a2
  have ha1 : Acts 40485346578501582935224880201718 680564733841876926926749214863536422911 s0 a1 := by
    dsimp only [a1]
    refine Acts.trans ?_ (acts_setTap _ _) rfl rfl
    exact Acts.refl _ _ _
  clear_value a1
  clear_value a2
  refine ActsR.next ?_
  refine Acts.ite (fun _ => ?_) (fun _ => ?_)
  · with_reducible assumption
  · refine Acts.ite (fun _ => ?_) (fun _ => ?_)
    · refine Acts.trans ?_ (acts_portAnswer _ _ _ _) rfl rfl
      with_reducible assumption
    · split
      · refine Acts.ite (fun _ => ?_) (fun _ => ?_)
        · refine Acts.trans ?_ (acts_portAnswer _ _ _ _) rfl rfl
          with_reducible assumption
        · refine Acts.ite (fun _ => ?_) (fun _ => ?_)
          · refine Acts.trans ?_ (acts_portAnswer _ _ _ _) rfl rfl
            refine Acts.trans ?_ (acts_bufPut _ _ _) rfl rfl
            with_reducible assumption
          · refine Acts.trans ?_ (acts_portAnswer _ _ _ _) rfl rfl
            with_reducible assumption
      · split
        · refine Acts.trans ?_ (acts_portAnswer _ _ _ _) rfl rfl
          with_reducible assumption
        · refine Acts.ite (fun _ => ?_) (fun _ => ?_)
          · refine Acts.trans ?_ (acts_portAnswer _ _ _ _) rfl rfl
            with_reducible assumption
          · refine Acts.ite (fun _ => ?_) (fun _ => ?_)
            · refine Acts.trans ?_ (acts_dbgPut _ _ _ _ _ _) rfl rfl
              with_reducible assumption
            · refine Acts.trans ?_ (acts_jtagRead _ _ _) rfl rfl
              with_reducible assumption

theorem acts_execGo (p : DbgPort) (w : W) (s : State) :
    ActsR 3169126500849580507870183670262 20520094166752327162642206556608 s (execGo p w s) := by
  unfold execGo
  refine ActsR.next ?_
  refine Acts.ite (fun _ => ?_) (fun _ => ?_)
  · refine Acts.trans ?_ (acts_memCtlWrite _ _ _) rfl rfl
    exact Acts.refl _ _ _
  · exact Acts.refl _ _ _

theorem acts_cntWrite (s : State) (ag : Agent) (i : Nat) (w : W) :
    Acts 3169126500849580507870049452534 1329228233469478973560545755235615168 s (State.cntWrite s ag i w) := by
  unfold State.cntWrite
  refine Acts.trans ?_ (acts_onWrite (L := 3169126500849580507870049452534) (R := 1329228233469478973560545755235615168) _ _ _ _ _ ?_ rfl rfl) rfl rfl
  · exact Acts.refl _ _ _
  · intro t1
    extract_lets a2
    clear_value a2
    refine Acts.trans ?_ (Acts.set_cnt _ _) rfl rfl
    exact Acts.refl _ _ _

theorem acts_regGet (s : State) (ag : Agent) (pa : Nat) (size : Nat) :
    Acts 8556641551825320071754072310262 680564733841876926926749214863536422911 s (State.regGet s ag pa size) := by
  unfold State.regGet
  split
  · refine Acts.ite (fun _ => ?_) (fun _ => ?_)
    · refine Acts.trans ?_ (acts_odcRead _ _ _ _) rfl rfl
      exact Acts.refl _ _ _
    · refine Acts.ite (fun _ => ?_) (fun _ => ?_)
      · refine Acts.trans ?_ (acts_regdata _ _ _ _ _) rfl rfl
        exact Acts.refl _ _ _
      · refine Acts.ite (fun _ => ?_) (fun _ => ?_)
        · refine Acts.trans ?_ (acts_snapRead _ _ _ _ _) rfl rfl
          exact Acts.refl _ _ _
        · split
          · refine Acts.trans ?_ (acts_claim _ _ _ _) rfl rfl
            exact Acts.refl _ _ _
          · refine Acts.trans ?_ (acts_uartGet _ _ _) rfl rfl
            exact Acts.refl _ _ _
          · refine Acts.trans ?_ (acts_vtAccess _ _ _ _ _ _) rfl rfl
            exact Acts.refl _ _ _
          · refine Acts.trans ?_ (acts_vtAccess _ _ _ _ _ _) rfl rfl
            exact Acts.refl _ _ _
  · refine Acts.trans ?_ (acts_odcRead _ _ _ _) rfl rfl
    exact Acts.refl _ _ _

theorem acts_threshWrite (s : State) (ag : Agent) (i : Nat) (w : W) :
    Acts 3169126500849580507870049452534 237689398803935197211654095296 s (State.threshWrite s ag i w) := by
  unfold State.threshWrite
  refine Acts.trans ?_ (acts_onWrite (L := 3169126500849580507870049452534) (R := 237689398803935197211654095296) _ _ _ _ _ ?_ rfl rfl) rfl rfl
  · exact Acts.refl _ _ _
  · intro t1
    refine Acts.trans ?_ (acts_deliver _ _ _) rfl rfl
    exact Acts.refl _ _ _

theorem acts_ovfWrite (s : State) (ag : Agent) (c : Nat) (w : W) :
    Acts 3169126500849580507870049452534 332307236630792068882690460025356736 s (State.ovfWrite s ag c w) := by
  unfold State.ovfWrite
  refine Acts.trans ?_ (acts_onWrite (L := 3169126500849580507870049452534) (R := 332307236630792068882690460025356736) _ _ _ _ _ ?_ rfl rfl) rfl rfl
  · exact Acts.refl _ _ _
  · intro t1
    refine Acts.trans ?_ (Acts.set_cnt _ _) rfl rfl
    exact Acts.refl _ _ _

theorem acts_pcieCtlWrite (s : State) (ag : Agent) (c : Nat) (w : W) :
    Acts 3169126500849580507870049452534 237684563102097890575713829312 s (State.pcieCtlWrite s ag c w) := by
  unfold State.pcieCtlWrite
  refine Acts.trans ?_ (acts_onWrite (L := 3169126500849580507870049452534) (R := 237684563102097890575713829312) _ _ _ _ _ ?_ rfl rfl) rfl rfl
  · exact Acts.refl _ _ _
  · intro t1
    refine Acts.ite (fun _ => ?_) (fun _ => ?_)
    · exact Acts.refl _ _ _
    · refine Acts.trans ?_ (acts_pcieDown _ _) rfl rfl
      exact Acts.refl _ _ _

theorem acts_regPut (s : State) (ag : Agent) (r : RegId) (i : Nat) (w : W) (low : Bool) :
    Acts 40485348996353222164483229614070 680564733841876926926749214863536422911 s (State.regPut s ag r i w low) := by
  unfold State.regPut
  extract_lets a1
  refine Acts.ite (fun _ => ?_) (fun _ => ?_)
  · refine Acts.trans ?_ (acts_dbgPut _ _ _ _ _ _) rfl rfl
    exact Acts.refl _ _ _
  · split
    · dsimp only [a1]
      refine acts_nextOf ?_ ?_
      · exact Acts.refl _ _ _
      · refine ActsR.trans ?_ (acts_execApply _ _ _ _ _) rfl rfl
        exact Acts.refl _ _ _
    · dsimp only [a1]
      refine acts_nextOf ?_ ?_
      · exact Acts.refl _ _ _
      · refine ActsR.trans ?_ (acts_execClear _ _ _ _) rfl rfl
        exact Acts.refl _ _ _
    · refine Acts.ite (fun _ => ?_) (fun _ => ?_)
      · dsimp only [a1]
        refine acts_nextOf ?_ ?_
        · exact Acts.refl _ _ _
        · refine ActsR.trans ?_ (acts_execOpen _ _ _ _ _) rfl rfl
          exact Acts.refl _ _ _
      · dsimp only [a1]
        refine acts_nextOf ?_ ?_
        · exact Acts.refl _ _ _
        · refine ActsR.trans ?_ (acts_execClose _ _ _ _ _) rfl rfl
          exact Acts.refl _ _ _
    · refine Acts.ite (fun _ => ?_) (fun _ => ?_)
      · dsimp only [a1]
        refine acts_nextOf ?_ ?_
        · exact Acts.refl _ _ _
        · refine ActsR.trans ?_ (acts_execStreamEnable _ _ _ _) rfl rfl
          exact Acts.refl _ _ _
      · dsimp only [a1]
        refine acts_nextOf ?_ ?_
        · exact Acts.refl _ _ _
        · refine ActsR.trans ?_ (acts_execStreamDisable _ _ _ _) rfl rfl
          exact Acts.refl _ _ _
    · split
      · dsimp only [a1]
        refine acts_nextOf ?_ ?_
        · exact Acts.refl _ _ _
        · refine ActsR.trans ?_ (acts_execFenceStream _ _ _) rfl rfl
          exact Acts.refl _ _ _
      · dsimp only [a1]
        refine acts_nextOf ?_ ?_
        · exact Acts.refl _ _ _
        · refine ActsR.trans ?_ (acts_execResume _ _ _) rfl rfl
          exact Acts.refl _ _ _
      · dsimp only [a1]
        refine acts_nextOf ?_ ?_
        · exact Acts.refl _ _ _
        · refine ActsR.trans ?_ (acts_execRestart _ _ _) rfl rfl
          exact Acts.refl _ _ _
      · refine Acts.trans ?_ (acts_onWrite (L := 40485348996353222164483229614070) (R := 680564733841876926926749214863536422911) _ _ _ _ _ ?_ rfl rfl) rfl rfl
        · exact Acts.refl _ _ _
        · intro t2
          exact Acts.refl _ _ _
    · dsimp only [a1]
      refine acts_nextOf ?_ ?_
      · exact Acts.refl _ _ _
      · refine ActsR.trans ?_ (acts_execDrainPtrWrite _ _ _ _) rfl rfl
        exact Acts.refl _ _ _
    · refine Acts.trans ?_ (acts_membersWrite _ _ _ _) rfl rfl
      exact Acts.refl _ _ _
    · refine Acts.ite (fun _ => ?_) (fun _ => ?_)
      · refine Acts.trans ?_ (acts_promoteWrite _ _ _ _) rfl rfl
        exact Acts.refl _ _ _
      · refine Acts.trans ?_ (acts_stepDownWrite _ _ _ _) rfl rfl
        exact Acts.refl _ _ _
    · refine Acts.trans ?_ (acts_slotCfgWrite _ _ _ _) rfl rfl
      exact Acts.refl _ _ _
    · refine Acts.trans ?_ (acts_nodeWrite _ _ _) rfl rfl
      exact Acts.refl _ _ _
    · dsimp only [a1]
      refine acts_nextOf ?_ ?_
      · exact Acts.refl _ _ _
      · refine ActsR.trans ?_ (acts_execLaneSwap _ _ _ _) rfl rfl
        exact Acts.refl _ _ _
    · dsimp only [a1]
      refine acts_nextOf ?_ ?_
      · exact Acts.refl _ _ _
      · refine ActsR.trans ?_ (acts_execTail _ _ _ _) rfl rfl
        exact Acts.refl _ _ _
    · dsimp only [a1]
      refine acts_nextOf ?_ ?_
      · exact Acts.refl _ _ _
      · refine ActsR.trans ?_ (acts_execEccCountClear _ _ _ _) rfl rfl
        exact Acts.refl _ _ _
    · refine Acts.trans ?_ (acts_pcieCtlWrite _ _ _ _) rfl rfl
      exact Acts.refl _ _ _
    · dsimp only [a1]
      refine acts_nextOf ?_ ?_
      · exact Acts.refl _ _ _
      · refine ActsR.trans ?_ (acts_execPerstRel _ _ _ _ _) rfl rfl
        exact Acts.refl _ _ _
    · refine Acts.trans ?_ (acts_invalWrite _ _ _ _) rfl rfl
      exact Acts.refl _ _ _
    · dsimp only [a1]
      refine acts_nextOf ?_ ?_
      · exact Acts.refl _ _ _
      · refine ActsR.trans ?_ (acts_execCphTail _ _ _ _ _) rfl rfl
        exact Acts.refl _ _ _
    · dsimp only [a1]
      refine acts_nextOf ?_ ?_
      · exact Acts.refl _ _ _
      · refine ActsR.trans ?_ (acts_execWpcSyncGo _ _ _) rfl rfl
        exact Acts.refl _ _ _
    · refine Acts.trans ?_ (acts_partCtlWrite _ _ _ _) rfl rfl
      exact Acts.refl _ _ _
    · dsimp only [a1]
      refine acts_nextOf ?_ ?_
      · exact Acts.refl _ _ _
      · refine ActsR.trans ?_ (acts_execEvrSrcCfgWrite _ _ _ _) rfl rfl
        exact Acts.refl _ _ _
    · refine Acts.ite (fun _ => ?_) (fun _ => ?_)
      · dsimp only [a1]
        refine acts_nextOf ?_ ?_
        · exact Acts.refl _ _ _
        · refine ActsR.trans ?_ (acts_execEvrTgtEoi _ _ _ _ _) rfl rfl
          exact Acts.refl _ _ _
      · refine Acts.trans ?_ (acts_onWrite (L := 40485348996353222164483229614070) (R := 680564733841876926926749214863536422911) _ _ _ _ _ ?_ rfl rfl) rfl rfl
        · exact Acts.refl _ _ _
        · intro t3
          exact Acts.refl _ _ _
    · refine Acts.ite (fun _ => ?_) (fun _ => ?_)
      · dsimp only [a1]
        refine acts_nextOf ?_ ?_
        · exact Acts.refl _ _ _
        · refine ActsR.trans ?_ (acts_execEvrTgtInject _ _ _ _ _) rfl rfl
          exact Acts.refl _ _ _
      · refine Acts.trans ?_ (acts_onWrite (L := 40485348996353222164483229614070) (R := 680564733841876926926749214863536422911) _ _ _ _ _ ?_ rfl rfl) rfl rfl
        · exact Acts.refl _ _ _
        · intro t4
          exact Acts.refl _ _ _
    · refine Acts.trans ?_ (acts_threshWrite _ _ _ _) rfl rfl
      exact Acts.refl _ _ _
    · dsimp only [a1]
      refine acts_nextOf ?_ ?_
      · exact Acts.refl _ _ _
      · refine ActsR.trans ?_ (acts_execClearCauses _ _ _) rfl rfl
        exact Acts.refl _ _ _
    · dsimp only [a1]
      refine acts_nextOf ?_ ?_
      · exact Acts.refl _ _ _
      · refine ActsR.trans ?_ (acts_execRtcWrite _ _ _) rfl rfl
        exact Acts.refl _ _ _
    · dsimp only [a1]
      refine acts_nextOf ?_ ?_
      · exact Acts.refl _ _ _
      · refine ActsR.trans ?_ (acts_execTarget _ _ _ _) rfl rfl
        exact Acts.refl _ _ _
    · dsimp only [a1]
      refine acts_nextOf ?_ ?_
      · exact Acts.refl _ _ _
      · refine ActsR.trans ?_ (acts_execPwrOn _ _ _ _) rfl rfl
        exact Acts.refl _ _ _
    · dsimp only [a1]
      refine acts_nextOf ?_ ?_
      · exact Acts.refl _ _ _
      · refine ActsR.trans ?_ (acts_execKick _ _ _ _) rfl rfl
        exact Acts.refl _ _ _
    · refine Acts.ite (fun _ => ?_) (fun _ => ?_)
      · dsimp only [a1]
        refine acts_nextOf ?_ ?_
        · exact Acts.refl _ _ _
        · refine ActsR.trans ?_ (acts_execMbxAck _ _ _ _) rfl rfl
          exact Acts.refl _ _ _
      · dsimp only [a1]
        refine acts_nextOf ?_ ?_
        · exact Acts.refl _ _ _
        · refine ActsR.trans ?_ (acts_execRing _ _ _ _) rfl rfl
          exact Acts.refl _ _ _
    · refine Acts.trans ?_ (acts_ovfWrite _ _ _ _) rfl rfl
      exact Acts.refl _ _ _
    · refine Acts.trans ?_ (acts_cntWrite _ _ _ _) rfl rfl
      exact Acts.refl _ _ _
    · refine Acts.trans ?_ (acts_ladleCfg _ _ _ _) rfl rfl
      exact Acts.refl _ _ _
    · refine Acts.trans ?_ (acts_uartCfg _ _ _ _) rfl rfl
      exact Acts.refl _ _ _
    · refine Acts.ite (fun _ => ?_) (fun _ => ?_)
      · refine Acts.trans ?_ (acts_uartPut _ _ _ _) rfl rfl
        exact Acts.refl _ _ _
      · refine Acts.trans ?_ (acts_onWrite (L := 40485348996353222164483229614070) (R := 680564733841876926926749214863536422911) _ _ _ _ _ ?_ rfl rfl) rfl rfl
        · exact Acts.refl _ _ _
        · intro t5
          exact Acts.refl _ _ _
    · refine Acts.trans ?_ (acts_uartStatus _ _ _ _) rfl rfl
      exact Acts.refl _ _ _
    · refine Acts.trans ?_ (acts_gpioCfg _ _ _ _) rfl rfl
      exact Acts.refl _ _ _
    · refine Acts.trans ?_ (acts_onWrite (L := 40485348996353222164483229614070) (R := 680564733841876926926749214863536422911) _ _ _ _ _ ?_ rfl (RegId.inAll2 _ _ rfl)) rfl rfl
      · exact Acts.refl _ _ _
      · intro t6
        exact Acts.refl _ _ _

theorem acts_odcWrite (s : State) (ag : Agent) (pa : Nat) (size : Nat) (value : Nat) :
    Acts 40485348996353222164483229614070 680564733841876926926749214863536422911 s (State.odcWrite s ag pa size value) := by
  unfold State.odcWrite
  split
  · refine Acts.ite (fun _ => ?_) (fun _ => ?_)
    · refine Acts.trans ?_ (acts_answerW _ _ _ _) rfl rfl
      exact Acts.refl _ _ _
    · split
      · refine Acts.trans ?_ (acts_answerW _ _ _ _) rfl rfl
        refine Acts.trans ?_ (acts_bufPut _ _ _) rfl rfl
        exact Acts.refl _ _ _
      · refine Acts.trans ?_ (acts_refuse _ _ _ _ _) rfl rfl
        exact Acts.refl _ _ _
  · split
    · split
      · refine Acts.trans ?_ (acts_answerW _ _ _ _) rfl rfl
        exact Acts.refl _ _ _
      · split
        · refine Acts.trans ?_ (acts_answerW _ _ _ _) rfl rfl
          exact Acts.refl _ _ _
        · refine Acts.trans ?_ (acts_refuse _ _ _ _ _) rfl rfl
          exact Acts.refl _ _ _
    · split
      · refine Acts.trans ?_ (acts_answerW _ _ _ _) rfl rfl
        exact Acts.refl _ _ _
      · refine Acts.trans ?_ (acts_refuse _ _ _ _ _) rfl rfl
        exact Acts.refl _ _ _
    · refine Acts.trans ?_ (acts_regPut _ _ _ _ _ _) rfl rfl
      exact Acts.refl _ _ _
    · refine Acts.trans ?_ (acts_regPut _ _ _ _ _ _) rfl rfl
      exact Acts.refl _ _ _

theorem acts_dbgEnd (s : State) (status : Nat) (data : Option Nat) :
    Acts 2535301200456458802993406410768 60847228810955011271841753858048 s (State.dbgEnd s status data) := by
  unfold State.dbgEnd
  extract_lets a1 a2 a3
  clear_value a1
  have ha2 : Acts 2535301200456458802993406410768 60847228810955011271841753858048 s a2 := by
    refine Acts.trans ?_ (Acts.set_dbg _ _) rfl rfl
    exact Acts.refl _ _ _
  clear_value a2
  have ha3 : Acts 2535301200456458802993406410768 60847228810955011271841753858048 s a3 := by
    dsimp only [a3]
    refine Acts.trans ?_ (acts_setFld _ _ _ _) rfl rfl
    refine Acts.trans ?_ (acts_setFld _ _ _ _) rfl rfl
    with_reducible assumption
  clear_value a3
  split
  · refine Acts.trans ?_ (Acts.wr _ _ _ _) rfl rfl
    with_reducible assumption
  · with_reducible assumption

theorem acts_peek (s : State) (ag : Agent) (pa : Nat) (size : Nat) :
    Acts 3486039150906637858244225253878 237684563100656738694955270592 s (State.peek s ag pa size) := by
  unfold State.peek
  split
  · split
    · refine Acts.trans ?_ (acts_answer _ _ _ _) rfl rfl
      exact Acts.refl _ _ _
    · refine Acts.trans ?_ (acts_refuse _ _ _ _ _) rfl rfl
      exact Acts.refl _ _ _
  · refine Acts.trans ?_ (acts_odcRead _ _ _ _) rfl rfl
    exact Acts.refl _ _ _

theorem acts_dbgPerform (s : State) (w : W) (d : W) (no : Bool) (tag : Option Nat) :
    Acts 40485348996353222164483229614070 680564733841876926926749214863536422911 s (State.dbgPerform s w d no tag) := by
  unfold State.dbgPerform
  extract_lets a1 a2 a3 a4 a5 a6 a7 a8 a9 a10 a11 a12
  clear_value a1
  clear_value a2
  clear_value a3
  clear_value a4
  clear_value a5
  clear_value a6
  clear_value a7
  clear_value a9
  have ha10 : Acts 40485348996353222164483229614070 680564733841876926926749214863536422911 s a10 := by
    dsimp only [a10]
    refine Acts.trans ?_ (acts_agentRead _ _) rfl rfl
    exact Acts.refl _ _ _
  clear_value a10
  clear_value a11
  have ha12 : Acts 40485348996353222164483229614070 680564733841876926926749214863536422911 s a12 := by
    refine Acts.trans ?_ (Acts.set_dbg _ _) rfl rfl
    exact Acts.refl _ _ _
  clear_value a12
  refine Acts.ite (fun _ => ?_) (fun _ => ?_)
  · refine Acts.trans ?_ (acts_dbgEnd _ _ _) rfl rfl
    exact Acts.refl _ _ _
  · refine Acts.ite (fun _ => ?_) (fun _ => ?_)
    · refine Acts.trans ?_ (acts_dbgEnd _ _ _) rfl rfl
      exact Acts.refl _ _ _
    · refine Acts.ite (fun _ => ?_) (fun _ => ?_)
      · refine Acts.ite (fun _ => ?_) (fun _ => ?_)
        · refine Acts.trans ?_ (acts_dbgEnd _ _ _) rfl rfl
          refine Acts.trans ?_ (acts_refuse _ _ _ _ _) rfl rfl
          exact Acts.refl _ _ _
        · refine Acts.ite (fun _ => ?_) (fun _ => ?_)
          · refine Acts.trans ?_ (acts_dbgEnd _ _ _) rfl rfl
            exact Acts.refl _ _ _
          · refine Acts.ite (fun _ => ?_) (fun _ => ?_)
            · refine Acts.trans ?_ (acts_dbgEnd _ _ _) rfl rfl
              refine Acts.trans ?_ (acts_agentWriteBytes _ _ _ _) rfl rfl
              exact Acts.refl _ _ _
            · refine Acts.ite (fun _ => ?_) (fun _ => ?_)
              · refine Acts.trans ?_ (acts_dbgEnd _ _ _) rfl rfl
                exact Acts.refl _ _ _
              · refine Acts.trans ?_ (acts_dbgEnd _ _ _) rfl rfl
                with_reducible assumption
      · refine Acts.ite (fun _ => ?_) (fun _ => ?_)
        · refine Acts.trans ?_ (acts_dbgEnd _ _ _) rfl rfl
          exact Acts.refl _ _ _
        · refine Acts.ite (fun _ => ?_) (fun _ => ?_)
          · refine Acts.ite (fun _ => ?_) (fun _ => ?_)
            · dsimp only [a8]
              split
              · refine Acts.trans ?_ (acts_dbgEnd _ _ _) rfl rfl
                refine Acts.trans ?_ (acts_odcWrite _ _ _ _ _) rfl rfl
                with_reducible assumption
              · refine Acts.trans ?_ (acts_dbgEnd _ _ _) rfl rfl
                refine Acts.trans ?_ (acts_odcWrite _ _ _ _ _) rfl rfl
                with_reducible assumption
            · refine Acts.ite (fun _ => ?_) (fun _ => ?_)
              · dsimp only [a8]
                split
                · refine Acts.trans ?_ (acts_dbgEnd _ _ _) rfl rfl
                  refine Acts.trans ?_ (acts_regGet _ _ _ _) rfl rfl
                  with_reducible assumption
                · refine Acts.trans ?_ (acts_dbgEnd _ _ _) rfl rfl
                  refine Acts.trans ?_ (acts_regGet _ _ _ _) rfl rfl
                  with_reducible assumption
              · dsimp only [a8]
                split
                · refine Acts.trans ?_ (acts_dbgEnd _ _ _) rfl rfl
                  refine Acts.trans ?_ (acts_peek _ _ _ _) rfl rfl
                  with_reducible assumption
                · refine Acts.trans ?_ (acts_dbgEnd _ _ _) rfl rfl
                  refine Acts.trans ?_ (acts_peek _ _ _ _) rfl rfl
                  with_reducible assumption
          · split
            · refine Acts.ite (fun _ => ?_) (fun _ => ?_)
              · refine Acts.trans ?_ (acts_dbgEnd _ _ _) rfl rfl
                exact Acts.refl _ _ _
              · refine Acts.trans ?_ (acts_dbgEnd _ _ _) rfl rfl
                refine Acts.trans ?_ (acts_refuse _ _ _ _ _) rfl rfl
                exact Acts.refl _ _ _
            · extract_lets a13
              clear_value a13
              refine Acts.ite (fun _ => ?_) (fun _ => ?_)
              · refine Acts.trans ?_ (acts_dbgEnd _ _ _) rfl rfl
                exact Acts.refl _ _ _
              · split
                · refine Acts.trans ?_ (acts_dbgEnd _ _ _) rfl rfl
                  refine Acts.trans ?_ (acts_freeTxn _ _ _) rfl rfl
                  exact Acts.refl _ _ _
                · exact Acts.refl _ _ _

theorem acts_execRegisterWrite (ag : Agent) (pa : Nat) (size : Nat) (value : Nat) (s : State) :
    ActsR 40485348996353222164483229614070 680564733841876926926749214863536422911 s (execRegisterWrite ag pa size value s) := by
  unfold execRegisterWrite
  refine ActsR.next ?_
  split
  · refine Acts.trans ?_ (acts_odcWrite _ _ _ _ _) rfl rfl
    exact Acts.refl _ _ _
  · refine Acts.trans ?_ (acts_odcWrite _ _ _ _ _) rfl rfl
    exact Acts.refl _ _ _
  · exact Acts.refl _ _ _

theorem acts_execDebugAccessComplete (s : State) :
    ActsR 40485348996353222164483229614070 680564733841876926926749214863536422911 s (execDebugAccessComplete s) := by
  unfold execDebugAccessComplete
  refine ActsR.next ?_
  split
  · refine Acts.trans ?_ (acts_dbgPerform _ _ _ _ _) rfl rfl
    exact Acts.refl _ _ _
  · exact Acts.refl _ _ _

end Sys2Proof.Machine
end

