-- ==== Sys2Proof/Laws/TickActs.lean ====
section
/-! SUPPORT. What each operation and each command of Tick.lean may touch: `acts_<name>` bounds the fields and the registers that
`<name>` can change (see Acts.lean). -/

namespace Sys2Proof.Machine

open Sys2Proof

theorem acts_perCycle (s : State) (unit : Nat) (ev : Nat) (part : Option Nat) (q : Nat) (n : Nat) :
    Acts 633825300114114700748351602688 0 s (State.perCycle s unit ev part q n) := by
  unfold State.perCycle
  refine Acts.ite (fun _ => ?_) (fun _ => ?_)
  · exact Acts.refl _ _ _
  · refine Acts.trans ?_ (acts_count _ _ _ _ _) rfl rfl
    exact Acts.refl _ _ _

theorem acts_tickBackoff (s : State) (n : Nat) (c : Nat) :
    Acts 633825300114114700748351602688 0 s (State.tickBackoff s n c) := by
  unfold State.tickBackoff
  refine Acts.foldl (L2 := 633825300114114700748351602688) (R2 := 0) _ ?_ (fun t1 x2 => ?_) rfl rfl
  · exact Acts.refl _ _ _
  · split
    · refine Acts.ite (fun _ => ?_) (fun _ => ?_)
      · exact Acts.refl _ _ _
      · refine Acts.trans ?_ (acts_perCycle _ _ _ _ _ _) rfl rfl
        exact Acts.refl _ _ _
    · exact Acts.refl _ _ _

theorem acts_tickPort (s : State) (t0 : Nat) (p : Nat) :
    Acts 633825300114114700748351602688 0 s (State.tickPort s t0 p) := by
  unfold State.tickPort
  extract_lets a1 a2 a3 a4
  clear_value a1
  clear_value a2
  clear_value a3
  clear_value a4
  refine Acts.trans ?_ (acts_perCycle _ _ _ _ _ _) rfl rfl
  refine Acts.trans ?_ (acts_perCycle _ _ _ _ _ _) rfl rfl
  exact Acts.refl _ _ _

theorem acts_tickTrackers (s : State) (n : Nat) :
    Acts 633825300114114700748351602688 0 s (State.tickTrackers s n) := by
  unfold State.tickTrackers
  refine Acts.foldl (L2 := 633825300114114700748351602688) (R2 := 0) _ ?_ (fun t1 x2 => ?_) rfl rfl
  · exact Acts.refl _ _ _
  · refine Acts.trans ?_ (acts_perCycle _ _ _ _ _ _) rfl rfl
    exact Acts.refl _ _ _

theorem acts_tickChannel (s : State) (t0 : Nat) (ch : Nat) :
    Acts 633825300114114700748351602688 0 s (State.tickChannel s t0 ch) := by
  unfold State.tickChannel
  extract_lets a1
  clear_value a1
  refine Acts.trans ?_ (acts_perCycle _ _ _ _ _ _) rfl rfl
  refine Acts.trans ?_ (acts_perCycle _ _ _ _ _ _) rfl rfl
  exact Acts.refl _ _ _

theorem acts_tickSpine (s : State) (n : Nat) :
    Acts 633825300114114700748351602688 0 s (State.tickSpine s n) := by
  unfold State.tickSpine
  extract_lets a1 a2 a3 a4
  clear_value a1
  clear_value a2
  clear_value a3
  clear_value a4
  refine Acts.trans ?_ (acts_perCycle _ _ _ _ _ _) rfl rfl
  refine Acts.trans ?_ (acts_perCycle _ _ _ _ _ _) rfl rfl
  refine Acts.trans ?_ (acts_perCycle _ _ _ _ _ _) rfl rfl
  refine Acts.trans ?_ (acts_perCycle _ _ _ _ _ _) rfl rfl
  exact Acts.refl _ _ _

theorem acts_tickBlocks (s : State) (t0 : Nat) :
    Acts 633825300114114700748351602688 0 s (State.tickBlocks s t0) := by
  unfold State.tickBlocks
  extract_lets a1 a2 a3 a4 a5
  clear_value a1
  have ha2 : Acts 633825300114114700748351602688 0 s a2 := by
    dsimp only [a2]
    refine Acts.trans ?_ (acts_tickTrackers _ _) rfl rfl
    refine Acts.foldl (L2 := 633825300114114700748351602688) (R2 := 0) _ ?_ (fun t6 x7 => ?_) rfl rfl
    · exact Acts.refl _ _ _
    · refine Acts.trans ?_ (acts_tickBackoff _ _ _) rfl rfl
      exact Acts.refl _ _ _
  clear_value a2
  have ha3 : Acts 633825300114114700748351602688 0 s a3 := by
    dsimp only [a3]
    refine Acts.foldl (L2 := 633825300114114700748351602688) (R2 := 0) _ ?_ (fun t8 x9 => ?_) rfl rfl
    · with_reducible assumption
    · refine Acts.trans ?_ (acts_tickChannel _ _ _) rfl rfl
      exact Acts.refl _ _ _
  clear_value a3
  have ha4 : Acts 633825300114114700748351602688 0 s a4 := by
    dsimp only [a4]
    refine Acts.trans ?_ (acts_tickSpine _ _) rfl rfl
    refine Acts.foldl (L2 := 633825300114114700748351602688) (R2 := 0) _ ?_ (fun t10 x11 => ?_) rfl rfl
    · with_reducible assumption
    · refine Acts.trans ?_ (acts_tickPort _ _ _) rfl rfl
      exact Acts.refl _ _ _
  clear_value a4
  have ha5 : Acts 633825300114114700748351602688 0 s a5 := by
    dsimp only [a5]
    refine Acts.foldl (L2 := 633825300114114700748351602688) (R2 := 0) _ ?_ (fun t12 x13 => ?_) rfl rfl
    · with_reducible assumption
    · refine Acts.trans ?_ (acts_perCycle _ _ _ _ _ _) rfl rfl
      exact Acts.refl _ _ _
  clear_value a5
  refine Acts.foldl (L2 := 633825300114114700748351602688) (R2 := 0) _ ?_ (fun t14 x15 => ?_) rfl rfl
  · with_reducible assumption
  · refine Acts.trans ?_ (acts_perCycle _ _ _ _ _ _) rfl rfl
    exact Acts.refl _ _ _

theorem acts_tickCount (s : State) (f : Fld) (i : Nat) (slot : Nat) :
    Acts 10141204801825835211973625643024 680564733841876926926749214863536422911 s (State.tickCount s f i slot) := by
  unfold State.tickCount
  refine Acts.ite (fun _ => ?_) (fun _ => ?_)
  · exact Acts.refl _ _ _
  · refine Acts.ite (fun _ => ?_) (fun _ => ?_)
    · refine Acts.trans ?_ (Acts.set_wdogNs _ _) rfl rfl
      exact Acts.refl _ _ _
    · refine Acts.trans ?_ (acts_setFld _ _ _ _) rfl (RegId.inAll _)
      refine Acts.trans ?_ (Acts.set_wdogNs _ _) rfl rfl
      exact Acts.refl _ _ _

theorem acts_tickDogs (s : State) :
    Acts 10141204801825835211973625643024 680564733841876926926749214863536422911 s (State.tickDogs s) := by
  unfold State.tickDogs
  extract_lets a1
  have ha1 : Acts 10141204801825835211973625643024 680564733841876926926749214863536422911 s a1 := by
    dsimp only [a1]
    refine Acts.foldl (L2 := 10141204801825835211973625643024) (R2 := 680564733841876926926749214863536422911) _ ?_ (fun t2 x3 => ?_) rfl rfl
    · exact Acts.refl _ _ _
    · refine Acts.ite (fun _ => ?_) (fun _ => ?_)
      · exact Acts.refl _ _ _
      · refine Acts.trans ?_ (acts_tickCount _ _ _ _) rfl rfl
        exact Acts.refl _ _ _
  clear_value a1
  refine Acts.ite (fun _ => ?_) (fun _ => ?_)
  · refine Acts.trans ?_ (acts_tickCount _ _ _ _) rfl rfl
    with_reducible assumption
  · with_reducible assumption

theorem acts_tickTime (s : State) :
    Acts 52776558133256 0 s (State.tickTime s) := by
  unfold State.tickTime
  refine Acts.ite (fun _ => ?_) (fun _ => ?_)
  · refine Acts.trans ?_ (Acts.set_dtime _ _) rfl rfl
    exact Acts.refl _ _ _
  · refine Acts.ite (fun _ => ?_) (fun _ => ?_)
    · refine Acts.trans ?_ (Acts.set_dtime_slewAcc _ _ _) rfl rfl
      exact Acts.refl _ _ _
    · refine Acts.ite (fun _ => ?_) (fun _ => ?_)
      · refine Acts.trans ?_ (Acts.set_dtime_slew_slewAcc _ _ _ _) rfl rfl
        exact Acts.refl _ _ _
      · refine Acts.trans ?_ (Acts.set_slew_slewAcc _ _ _) rfl rfl
        exact Acts.refl _ _ _

theorem acts_addCnt (s : State) (c : Nat) (k : Nat) (n : Nat) :
    Acts 633825300114114700748351602688 0 s (State.addCnt s c k n) := by
  unfold State.addCnt
  refine Acts.ite (fun _ => ?_) (fun _ => ?_)
  · exact Acts.refl _ _ _
  · refine Acts.trans ?_ (Acts.set_cnt _ _) rfl rfl
    exact Acts.refl _ _ _

theorem acts_tickCore (s : State) (c : Nat) :
    Acts 20916234903765785124695602888704 0 s (State.tickCore s c) := by
  unfold State.tickCore
  extract_lets a1 a2 a3 a4 a5 a6 a7
  clear_value a1
  clear_value a2
  clear_value a3
  clear_value a4
  have ha5 : Acts 20916234903765785124695602888704 0 s a5 := by
    refine Acts.trans ?_ (Acts.set_cycAcc _ _) rfl rfl
    exact Acts.refl _ _ _
  clear_value a5
  have ha6 : Acts 20916234903765785124695602888704 0 s a6 := by
    dsimp only [a6]
    refine Acts.ite (fun _ => ?_) (fun _ => ?_)
    · with_reducible assumption
    · refine Acts.trans ?_ (acts_addCnt _ _ _ _) rfl rfl
      with_reducible assumption
  clear_value a6
  clear_value a7
  refine Acts.ite (fun _ => ?_) (fun _ => ?_)
  · exact Acts.refl _ _ _
  · refine Acts.foldl (L2 := 20916234903765785124695602888704) (R2 := 0) _ ?_ (fun t8 x9 => ?_) rfl rfl
    · with_reducible assumption
    · refine Acts.ite (fun _ => ?_) (fun _ => ?_)
      · exact Acts.refl _ _ _
      · split
        · refine Acts.trans ?_ (acts_addCnt _ _ _ _) rfl rfl
          exact Acts.refl _ _ _
        · refine Acts.ite (fun _ => ?_) (fun _ => ?_)
          · refine Acts.trans ?_ (acts_addCnt _ _ _ _) rfl rfl
            exact Acts.refl _ _ _
          · exact Acts.refl _ _ _
        · exact Acts.refl _ _ _

theorem acts_tickRtc (s : State) :
    Acts 2417851639229258349412368 2475880078570760549798248448 s (State.tickRtc s) := by
  unfold State.tickRtc
  refine Acts.ite (fun _ => ?_) (fun _ => ?_)
  · refine Acts.trans ?_ (Acts.set_rtcAcc _ _) rfl rfl
    exact Acts.refl _ _ _
  · refine Acts.trans ?_ (Acts.wr _ _ _ _) rfl rfl
    refine Acts.trans ?_ (Acts.set_rtcAcc _ _) rfl rfl
    exact Acts.refl _ _ _

theorem acts_tick (s : State) :
    Acts 31057442123443259618704140271640 680564733841876926926749214863536422911 s (State.tick s) := by
  unfold State.tick
  extract_lets a1
  have ha1 : Acts 31057442123443259618704140271640 680564733841876926926749214863536422911 s a1 := by
    dsimp only [a1]
    refine Acts.foldl (L2 := 31057442123443259618704140271640) (R2 := 680564733841876926926749214863536422911) _ ?_ (fun t2 x3 => ?_) rfl rfl
    · refine Acts.trans ?_ (acts_meshCycle _) rfl rfl
      refine Acts.trans ?_ (acts_meshCycle _) rfl rfl
      refine Acts.trans ?_ (acts_tickDogs _) rfl rfl
      refine Acts.trans ?_ (acts_tickRtc _) rfl rfl
      refine Acts.trans ?_ (acts_tickTime _) rfl rfl
      exact Acts.refl _ _ _
    · refine Acts.trans ?_ (acts_tickCore _ _) rfl rfl
      exact Acts.refl _ _ _
  clear_value a1
  refine Acts.ite (fun _ => ?_) (fun _ => ?_)
  · refine Acts.trans ?_ (acts_tickBlocks _ _) rfl rfl
    with_reducible assumption
  · with_reducible assumption

end Sys2Proof.Machine
end

