-- ==== Sys2Proof/Laws/ExecActs.lean ====
section
/-! SUPPORT. What every command keeps: the queue, the canonical form of memory, and the blown fuses. -/

namespace Sys2Proof.Machine

open Sys2Proof

theorem exec_registerWrite (ag : Agent) (pa : Nat) (size : Nat) (value : Nat) (s : State) : exec (.registerWrite ag pa size value) s = execRegisterWrite ag pa size value s := rfl
theorem exec_rsSnapshotRead (ag : Agent) (pa : Nat) (size : Nat) (s : State) : exec (.rsSnapshotRead ag pa size) s = execRsSnapshotRead ag pa size s := rfl
theorem exec_load (c : Nat) (dst : Dst) (rs1 : Nat) (imm : W) (size : Nat) (len : Nat) (acc : Nat) (ahead : Nat) (off : Nat) (n : Nat) (insn : W) (s : State) : exec (.load c dst rs1 imm size len acc ahead off n insn) s = execLoad c dst rs1 imm size len acc ahead off n insn s := rfl
theorem exec_store (c : Nat) (src : Src) (rs1 : Nat) (imm : W) (size : Nat) (len : Nat) (acc : Nat) (insn : W) (s : State) : exec (.store c src rs1 imm size len acc insn) s = execStore c src rs1 imm size len acc insn s := rfl
theorem exec_storeBufferWrite (c : Nat) (n : Nat) (s : State) : exec (.storeBufferWrite c n) s = execStoreBufferWrite c n s := rfl
theorem exec_amo (c : Nat) (op : AmoOp) (rd : Nat) (rs1 : Nat) (rs2 : Nat) (size : Nat) (aq : Bool) (rl : Bool) (len : Nat) (s : State) : exec (.amo c op rd rs1 rs2 size aq rl len) s = execAmo c op rd rs1 rs2 size aq rl len s := rfl
theorem exec_lr (c : Nat) (rd : Nat) (rs1 : Nat) (size : Nat) (aq : Bool) (rl : Bool) (len : Nat) (s : State) : exec (.lr c rd rs1 size aq rl len) s = execLr c rd rs1 size aq rl len s := rfl
theorem exec_sc (c : Nat) (rd : Nat) (rs1 : Nat) (rs2 : Nat) (size : Nat) (aq : Bool) (rl : Bool) (len : Nat) (s : State) : exec (.sc c rd rs1 rs2 size aq rl len) s = execSc c rd rs1 rs2 size aq rl len s := rfl
theorem exec_holdWindowEnd (c : Nat) (s : State) : exec (.holdWindowEnd c) s = execHoldWindowEnd c s := rfl
theorem exec_fence (c : Nat) (pred : Nat) (succ : Nat) (len : Nat) (s : State) : exec (.fence c pred succ len) s = execFence c pred succ len s := rfl
theorem exec_fenceTso (c : Nat) (len : Nat) (s : State) : exec (.fenceTso c len) s = execFenceTso c len s := rfl
theorem exec_fenceI (c : Nat) (len : Nat) (s : State) : exec (.fenceI c len) s = execFenceI c len s := rfl
theorem exec_sfenceVma (c : Nat) (rs1 : Nat) (rs2 : Nat) (len : Nat) (insn : W) (s : State) : exec (.sfenceVma c rs1 rs2 len insn) s = execSfenceVma c rs1 rs2 len insn s := rfl
theorem exec_hfenceVvma (c : Nat) (rs1 : Nat) (rs2 : Nat) (len : Nat) (insn : W) (s : State) : exec (.hfenceVvma c rs1 rs2 len insn) s = execHfenceVvma c rs1 rs2 len insn s := rfl
theorem exec_hfenceGvma (c : Nat) (rs1 : Nat) (rs2 : Nat) (len : Nat) (insn : W) (s : State) : exec (.hfenceGvma c rs1 rs2 len insn) s = execHfenceGvma c rs1 rs2 len insn s := rfl
theorem exec_sinvalVma (c : Nat) (kind : Nat) (rs1 : Nat) (rs2 : Nat) (len : Nat) (insn : W) (s : State) : exec (.sinvalVma c kind rs1 rs2 len insn) s = execSinvalVma c kind rs1 rs2 len insn s := rfl
theorem exec_sfenceWInval (c : Nat) (len : Nat) (insn : W) (s : State) : exec (.sfenceWInval c len insn) s = execSfenceWInval c len insn s := rfl
theorem exec_sfenceInvalIr (c : Nat) (len : Nat) (insn : W) (s : State) : exec (.sfenceInvalIr c len insn) s = execSfenceInvalIr c len insn s := rfl
theorem exec_cboZero (c : Nat) (rs1 : Nat) (len : Nat) (insn : W) (s : State) : exec (.cboZero c rs1 len insn) s = execCboZero c rs1 len insn s := rfl
theorem exec_cboClean (c : Nat) (rs1 : Nat) (len : Nat) (insn : W) (s : State) : exec (.cboClean c rs1 len insn) s = execCboClean c rs1 len insn s := rfl
theorem exec_cboFlush (c : Nat) (rs1 : Nat) (len : Nat) (insn : W) (s : State) : exec (.cboFlush c rs1 len insn) s = execCboFlush c rs1 len insn s := rfl
theorem exec_cboInval (c : Nat) (rs1 : Nat) (len : Nat) (insn : W) (s : State) : exec (.cboInval c rs1 len insn) s = execCboInval c rs1 len insn s := rfl
theorem exec_prefetch (c : Nat) (kind : Nat) (rs1 : Nat) (imm : W) (len : Nat) (s : State) : exec (.prefetch c kind rs1 imm len) s = execPrefetch c kind rs1 imm len s := rfl
theorem exec_wfi (c : Nat) (len : Nat) (insn : W) (s : State) : exec (.wfi c len insn) s = execWfi c len insn s := rfl
theorem exec_wfiWake (c : Nat) (s : State) : exec (.wfiWake c) s = execWfiWake c s := rfl
theorem exec_pause (c : Nat) (len : Nat) (s : State) : exec (.pause c len) s = execPause c len s := rfl
theorem exec_pauseEnd (c : Nat) (s : State) : exec (.pauseEnd c) s = execPauseEnd c s := rfl
theorem exec_timeRead (c : Nat) (rd : Nat) (len : Nat) (insn : W) (s : State) : exec (.timeRead c rd len insn) s = execTimeRead c rd len insn s := rfl
theorem exec_csrWrite (c : Nat) (csr : Nat) (op : Nat) (rd : Nat) (rs1 : Nat) (imm : Bool) (len : Nat) (insn : W) (s : State) : exec (.csrWrite c csr op rd rs1 imm len insn) s = execCsrWrite c csr op rd rs1 imm len insn s := rfl
theorem exec_ecall (c : Nat) (s : State) : exec (.ecall c) s = execEcall c s := rfl
theorem exec_ebreak (c : Nat) (s : State) : exec (.ebreak c) s = execEbreak c s := rfl
theorem exec_mret (c : Nat) (insn : W) (s : State) : exec (.mret c insn) s = execMret c insn s := rfl
theorem exec_sret (c : Nat) (insn : W) (s : State) : exec (.sret c insn) s = execSret c insn s := rfl
theorem exec_trap (c : Nat) (intr : Bool) (code : Nat) (tval : W) (gpa : W) (s : State) : exec (.trap c intr code tval gpa) s = execTrap c intr code tval gpa s := rfl
theorem exec_branchMispredict (c : Nat) (rd : Nat) (taken : Bool) (jump : Bool) (call : Bool) (ret : Bool) (target : W) (len : Nat) (s : State) : exec (.branchMispredict c rd taken jump call ret target len) s = execBranchMispredict c rd taken jump call ret target len s := rfl
theorem exec_pageTableWalk (c : Nat) (va : Nat) (acc : Nat) (spec : Bool) (s : State) : exec (.pageTableWalk c va acc spec) s = execPageTableWalk c va acc spec s := rfl
theorem exec_deviceStoreAck (c : Nat) (target : Bool) (tag : Nat) (status : Nat) (s : State) : exec (.deviceStoreAck c target tag status) s = execDeviceStoreAck c target tag status s := rfl
theorem exec_rdShared (c : Nat) (line : Nat) (s : State) : exec (.rdShared c line) s = execRdShared c line s := rfl
theorem exec_rdOwn (rq : Rq) (line : Nat) (s : State) : exec (.rdOwn rq line) s = execRdOwn rq line s := rfl
theorem exec_upgrade (c : Nat) (line : Nat) (s : State) : exec (.upgrade c line) s = execUpgrade c line s := rfl
theorem exec_rdOnce (pos : Nat) (line : Nat) (s : State) : exec (.rdOnce pos line) s = execRdOnce pos line s := rfl
theorem exec_wrLine (pos : Nat) (line : Nat) (data : BitVec 512) (s : State) : exec (.wrLine pos line data) s = execWrLine pos line data s := rfl
theorem exec_cboFlushRequest (c : Nat) (line : Nat) (s : State) : exec (.cboFlushRequest c line) s = execCboFlushRequest c line s := rfl
theorem exec_amoHome (c : Nat) (line : Nat) (s : State) : exec (.amoHome c line) s = execAmoHome c line s := rfl
theorem exec_nak (rq : Rq) (line : Nat) (s : State) : exec (.nak rq line) s = execNak rq line s := rfl
theorem exec_nakRetry (rq : Rq) (line : Nat) (s : State) : exec (.nakRetry rq line) s = execNakRetry rq line s := rfl
theorem exec_fairnessReservationDrop (line : Nat) (s : State) : exec (.fairnessReservationDrop line) s = execFairnessReservationDrop line s := rfl
theorem exec_comp (rq : Rq) (line : Nat) (s : State) : exec (.comp rq line) s = execComp rq line s := rfl
theorem exec_data (rq : Rq) (line : Nat) (s : State) : exec (.data rq line) s = execData rq line s := rfl
theorem exec_deferRsp (line : Nat) (s : State) : exec (.deferRsp line) s = execDeferRsp line s := rfl
theorem exec_wbDirty (c : Nat) (line : Nat) (s : State) : exec (.wbDirty c line) s = execWbDirty c line s := rfl
theorem exec_evictClean (c : Nat) (line : Nat) (s : State) : exec (.evictClean c line) s = execEvictClean c line s := rfl
theorem exec_wbAck (c : Nat) (line : Nat) (s : State) : exec (.wbAck c line) s = execWbAck c line s := rfl
theorem exec_wbAckDiscarded (c : Nat) (line : Nat) (s : State) : exec (.wbAckDiscarded c line) s = execWbAckDiscarded c line s := rfl
theorem exec_evictAck (c : Nat) (line : Nat) (s : State) : exec (.evictAck c line) s = execEvictAck c line s := rfl
theorem exec_snpShared (ring : Nat) (slot : Nat) (pos : Nat) (s : State) : exec (.snpShared ring slot pos) s = execSnpShared ring slot pos s := rfl
theorem exec_snpOwn (ring : Nat) (slot : Nat) (pos : Nat) (s : State) : exec (.snpOwn ring slot pos) s = execSnpOwn ring slot pos s := rfl
theorem exec_snpOnce (ring : Nat) (slot : Nat) (pos : Nat) (s : State) : exec (.snpOnce ring slot pos) s = execSnpOnce ring slot pos s := rfl
theorem exec_snpInv (ring : Nat) (slot : Nat) (pos : Nat) (s : State) : exec (.snpInv ring slot pos) s = execSnpInv ring slot pos s := rfl
theorem exec_combinedResponse (ring : Nat) (slot : Nat) (s : State) : exec (.combinedResponse ring slot) s = execCombinedResponse ring slot s := rfl
theorem exec_snoopSlotReservation (line : Nat) (ring : Nat) (slot : Nat) (s : State) : exec (.snoopSlotReservation line ring slot) s = execSnoopSlotReservation line ring slot s := rfl
theorem exec_timeout (node : Nat) (tag : Nat) (s : State) : exec (.timeout node tag) s = execTimeout node tag s := rfl
theorem exec_lateResponse (node : Nat) (tag : Nat) (s : State) : exec (.lateResponse node tag) s = execLateResponse node tag s := rfl
theorem exec_errorResponse (node : Nat) (tag : Nat) (status : Nat) (s : State) : exec (.errorResponse node tag status) s = execErrorResponse node tag status s := rfl
theorem exec_linkCorrected (node : Nat) (port : Nat) (wire : Nat) (s : State) : exec (.linkCorrected node port wire) s = execLinkCorrected node port wire s := rfl
theorem exec_linkUncorrected (node : Nat) (port : Nat) (s : State) : exec (.linkUncorrected node port) s = execLinkUncorrected node port s := rfl
theorem exec_apply (ag : Agent) (node : Nat) (port : Nat) (w : W) (s : State) : exec (.apply ag node port w) s = execApply ag node port w s := rfl
theorem exec_linkReconfigDone (node : Nat) (port : Nat) (s : State) : exec (.linkReconfigDone node port) s = execLinkReconfigDone node port s := rfl
theorem exec_clear (ag : Agent) (node : Nat) (w : W) (s : State) : exec (.clear ag node w) s = execClear ag node w s := rfl
theorem exec_close (ag : Agent) (node : Nat) (sec : Nat) (w : W) (s : State) : exec (.close ag node sec w) s = execClose ag node sec w s := rfl
theorem exec_lidOpen (ag : Agent) (node : Nat) (sec : Nat) (w : W) (s : State) : exec (.lidOpen ag node sec w) s = execOpen ag node sec w s := rfl
theorem exec_lidDrain (node : Nat) (sec : Nat) (s : State) : exec (.lidDrain node sec) s = execLidDrain node sec s := rfl
theorem exec_lidDrainLimit (node : Nat) (sec : Nat) (s : State) : exec (.lidDrainLimit node sec) s = execLidDrainLimit node sec s := rfl
theorem exec_lidClosed (node : Nat) (sec : Nat) (s : State) : exec (.lidClosed node sec) s = execLidClosed node sec s := rfl
theorem exec_domainOff (node : Nat) (tag : Nat) (s : State) : exec (.domainOff node tag) s = execDomainOff node tag s := rfl
theorem exec_cgBegin (c : Nat) (rd : Nat) (rs1 : Nat) (len : Nat) (insn : W) (s : State) : exec (.cgBegin c rd rs1 len insn) s = execCgBegin c rd rs1 len insn s := rfl
theorem exec_cgEnd (c : Nat) (rd : Nat) (rs1 : Nat) (len : Nat) (insn : W) (s : State) : exec (.cgEnd c rd rs1 len insn) s = execCgEnd c rd rs1 len insn s := rfl
theorem exec_cgAbort (c : Nat) (rs1 : Nat) (len : Nat) (insn : W) (s : State) : exec (.cgAbort c rs1 len insn) s = execCgAbort c rs1 len insn s := rfl
theorem exec_cgTest (c : Nat) (rd : Nat) (len : Nat) (insn : W) (s : State) : exec (.cgTest c rd len insn) s = execCgTest c rd len insn s := rfl
theorem exec_fenceD (c : Nat) (len : Nat) (insn : W) (s : State) : exec (.fenceD c len insn) s = execFenceD c len insn s := rfl
theorem exec_cgInterruptDeferral (c : Nat) (s : State) : exec (.cgInterruptDeferral c) s = execCgInterruptDeferral c s := rfl
theorem exec_stagingReservation (c : Nat) (s : State) : exec (.stagingReservation c) s = execStagingReservation c s := rfl
theorem exec_stagingGrant (c : Nat) (s : State) : exec (.stagingGrant c) s = execStagingGrant c s := rfl
theorem exec_journalFull (c : Nat) (s : State) : exec (.journalFull c) s = execJournalFull c s := rfl
theorem exec_stagingCancel (c : Nat) (s : State) : exec (.stagingCancel c) s = execStagingCancel c s := rfl
theorem exec_commitRequest (c : Nat) (s : State) : exec (.commitRequest c) s = execCommitRequest c s := rfl
theorem exec_commitReply (c : Nat) (s : State) : exec (.commitReply c) s = execCommitReply c s := rfl
theorem exec_flipWindowEnd (c : Nat) (s : State) : exec (.flipWindowEnd c) s = execFlipWindowEnd c s := rfl
theorem exec_recordSegment (stream : Nat) (g : Nat) (s : State) : exec (.recordSegment stream g) s = execRecordSegment stream g s := rfl
theorem exec_watermarkPublication (dest : Nat) (s : State) : exec (.watermarkPublication dest) s = execWatermarkPublication dest s := rfl
theorem exec_cgDepseqWrite (c : Nat) (op : Nat) (rd : Nat) (rs1 : Nat) (imm : Bool) (len : Nat) (s : State) : exec (.cgDepseqWrite c op rd rs1 imm len) s = execCgDepseqWrite c op rd rs1 imm len s := rfl
theorem exec_cgDepseqAnswer (c : Nat) (s : State) : exec (.cgDepseqAnswer c) s = execCgDepseqAnswer c s := rfl
theorem exec_lostClear (c : Nat) (op : Nat) (rd : Nat) (rs1 : Nat) (imm : Bool) (len : Nat) (s : State) : exec (.lostClear c op rd rs1 imm len) s = execLostClear c op rd rs1 imm len s := rfl
theorem exec_publicationRound (s : State) : exec (.publicationRound) s = execPublicationRound s := rfl
theorem exec_resolution (stream : Nat) (s : State) : exec (.resolution stream) s = execResolution stream s := rfl
theorem exec_streamEnable (ag : Agent) (stream : Nat) (level : Nat) (s : State) : exec (.streamEnable ag stream level) s = execStreamEnable ag stream level s := rfl
theorem exec_streamDisable (ag : Agent) (stream : Nat) (level : Nat) (s : State) : exec (.streamDisable ag stream level) s = execStreamDisable ag stream level s := rfl
theorem exec_fenceStream (ag : Agent) (stream : Nat) (s : State) : exec (.fenceStream ag stream) s = execFenceStream ag stream s := rfl
theorem exec_resume (ag : Agent) (stream : Nat) (s : State) : exec (.resume ag stream) s = execResume ag stream s := rfl
theorem exec_restart (ag : Agent) (stream : Nat) (s : State) : exec (.restart ag stream) s = execRestart ag stream s := rfl
theorem exec_sweep (stream : Nat) (dest : Nat) (s : State) : exec (.sweep stream dest) s = execSweep stream dest s := rfl
theorem exec_sweepAnswer (stream : Nat) (dest : Nat) (s : State) : exec (.sweepAnswer stream dest) s = execSweepAnswer stream dest s := rfl
theorem exec_closeMark (c : Nat) (s : State) : exec (.closeMark c) s = execCloseMark c s := rfl
theorem exec_journalAppend (stream : Nat) (s : State) : exec (.journalAppend stream) s = execJournalAppend stream s := rfl
theorem exec_appendAccepted (stream : Nat) (g : Nat) (s : State) : exec (.appendAccepted stream g) s = execAppendAccepted stream g s := rfl
theorem exec_drainPtrWrite (ag : Agent) (stream : Nat) (w : W) (s : State) : exec (.drainPtrWrite ag stream w) s = execDrainPtrWrite ag stream w s := rfl
theorem exec_park (c : Nat) (op : Nat) (rd : Nat) (rs1 : Nat) (imm : Bool) (len : Nat) (insn : W) (s : State) : exec (.park c op rd rs1 imm len insn) s = execPark c op rd rs1 imm len insn s := rfl
theorem exec_bind (c : Nat) (op : Nat) (rd : Nat) (rs1 : Nat) (imm : Bool) (len : Nat) (insn : W) (s : State) : exec (.bind c op rd rs1 imm len insn) s = execBind c op rd rs1 imm len insn s := rfl
theorem exec_unbind (c : Nat) (op : Nat) (rd : Nat) (rs1 : Nat) (imm : Bool) (len : Nat) (insn : W) (s : State) : exec (.unbind c op rd rs1 imm len insn) s = execUnbind c op rd rs1 imm len insn s := rfl
theorem exec_pairSync (c : Nat) (len : Nat) (insn : W) (s : State) : exec (.pairSync c len insn) s = execPairSync c len insn s := rfl
theorem exec_intervalEnd (i : Nat) (s : State) : exec (.intervalEnd i) s = execIntervalEnd i s := rfl
theorem exec_intervalComparison (i : Nat) (sig : W) (stores : List StoreEnt) (race : Bool) (s : State) : exec (.intervalComparison i sig stores race) s = execIntervalComparison i sig stores race s := rfl
theorem exec_voteSparePowered (i : Nat) (s : State) : exec (.voteSparePowered i) s = execVoteSparePowered i s := rfl
theorem exec_voteResult (i : Nat) (tSig : W) (tStores : List StoreEnt) (sSig : W) (sStores : List StoreEnt) (fin : Ckpt) (s : State) : exec (.voteResult i tSig tStores sSig sStores fin) s = execVoteResult i tSig tStores sSig sStores fin s := rfl
theorem exec_voteLimit (i : Nat) (s : State) : exec (.voteLimit i) s = execVoteLimit i s := rfl
theorem exec_enable (ag : Agent) (p : Nat) (w : W) (s : State) : exec (.enable ag p w) s = execEnable ag p w s := rfl
theorem exec_retrain (ag : Agent) (p : Nat) (w : W) (s : State) : exec (.retrain ag p w) s = execRetrain ag p w s := rfl
theorem exec_laneSwap (ag : Agent) (p : Nat) (w : W) (s : State) : exec (.laneSwap ag p w) s = execLaneSwap ag p w s := rfl
theorem exec_laneSwapPacket (s : State) : exec (.laneSwapPacket) s = execLaneSwapPacket s := rfl
theorem exec_trainingComplete (p : Nat) (lanes : Nat) (rtt : Nat) (s : State) : exec (.trainingComplete p lanes rtt) s = execTrainingComplete p lanes rtt s := rfl
theorem exec_trainingRetry (p : Nat) (s : State) : exec (.trainingRetry p) s = execTrainingRetry p s := rfl
theorem exec_attestNonce (s : State) : exec (.attestNonce) s = execAttestNonce s := rfl
theorem exec_attestEvidence (s : State) : exec (.attestEvidence) s = execAttestEvidence s := rfl
theorem exec_attestResult (s : State) : exec (.attestResult) s = execAttestResult s := rfl
theorem exec_attestationLimit (p : Nat) (s : State) : exec (.attestationLimit p) s = execAttestationLimit p s := rfl
theorem exec_dataFolio (p : Nat) (f : Folio) (s : State) : exec (.dataFolio p f) s = execDataFolio p f s := rfl
theorem exec_idleFolio (p : Nat) (f : Folio) (s : State) : exec (.idleFolio p f) s = execIdleFolio p f s := rfl
theorem exec_folioNak (p : Nat) (ack : Nat) (s : State) : exec (.folioNak p ack) s = execFolioNak p ack s := rfl
theorem exec_nakRepeat (p : Nat) (s : State) : exec (.nakRepeat p) s = execNakRepeat p s := rfl
theorem exec_replayTimeout (p : Nat) (s : State) : exec (.replayTimeout p) s = execReplayTimeout p s := rfl
theorem exec_linkDown (p : Nat) (loss : Bool) (s : State) : exec (.linkDown p loss) s = execLinkDown p loss s := rfl
theorem exec_switchForward (p : Nat) (s : State) : exec (.switchForward p) s = execSwitchForward p s := rfl
theorem exec_apertureAccess (node : Nat) (tag : Nat) (s : State) : exec (.apertureAccess node tag) s = execApertureAccess node tag s := rfl
theorem exec_write (s : State) : exec (.write) s = execWrite s := rfl
theorem exec_read (s : State) : exec (.read) s = execRead s := rfl
theorem exec_atomic (s : State) : exec (.atomic) s = execAtomic s := rfl
theorem exec_readRsp (s : State) : exec (.readRsp) s = execReadRsp s := rfl
theorem exec_writeAck (s : State) : exec (.writeAck) s = execWriteAck s := rfl
theorem exec_atomicRsp (s : State) : exec (.atomicRsp) s = execAtomicRsp s := rfl
theorem exec_remoteReadTimeout (tag : Nat) (s : State) : exec (.remoteReadTimeout tag) s = execRemoteReadTimeout tag s := rfl
theorem exec_msg (s : State) : exec (.msg) s = execMsg s := rfl
theorem exec_msgRsp (s : State) : exec (.msgRsp) s = execMsgRsp s := rfl
theorem exec_tail (ag : Agent) (q : Nat) (w : W) (s : State) : exec (.tail ag q w) s = execTail ag q w s := rfl
theorem exec_consumer (ag : Agent) (ring : Nat) (w : W) (s : State) : exec (.consumer ag ring w) s = execConsumer ag ring w s := rfl
theorem exec_timeSync (s : State) : exec (.timeSync) s = execTimeSync s := rfl
theorem exec_timeSyncInterval (p : Nat) (s : State) : exec (.timeSyncInterval p) s = execTimeSyncInterval p s := rfl
theorem exec_timeDelayReq (s : State) : exec (.timeDelayReq) s = execTimeDelayReq s := rfl
theorem exec_timeDelayRsp (s : State) : exec (.timeDelayRsp) s = execTimeDelayRsp s := rfl
theorem exec_remoteReset (s : State) : exec (.remoteReset) s = execRemoteReset s := rfl
theorem exec_remoteResetVerified (s : State) : exec (.remoteResetVerified) s = execRemoteResetVerified s := rfl
theorem exec_remoteResetRsp (s : State) : exec (.remoteResetRsp) s = execRemoteResetRsp s := rfl
theorem exec_quire (s : State) : exec (.quire) s = execQuire s := rfl
theorem exec_ack (s : State) : exec (.ack) s = execAck s := rfl
theorem exec_reject (s : State) : exec (.reject) s = execReject s := rfl
theorem exec_probe (s : State) : exec (.probe) s = execProbe s := rfl
theorem exec_probeInterval (stream : Nat) (r : Nat) (s : State) : exec (.probeInterval stream r) s = execProbeInterval stream r s := rfl
theorem exec_rejoin (s : State) : exec (.rejoin) s = execRejoin s := rfl
theorem exec_termRequest (s : State) : exec (.termRequest) s = execTermRequest s := rfl
theorem exec_termGrant (s : State) : exec (.termGrant) s = execTermGrant s := rfl
theorem exec_termRefuse (s : State) : exec (.termRefuse) s = execTermRefuse s := rfl
theorem exec_lastGasp (s : State) : exec (.lastGasp) s = execLastGasp s := rfl
theorem exec_cmdPromote (ag : Agent) (stream : Nat) (w : W) (s : State) : exec (.cmdPromote ag stream w) s = execCmdPromote ag stream w s := rfl
theorem exec_stepDown (ag : Agent) (stream : Nat) (w : W) (s : State) : exec (.stepDown ag stream w) s = execStepDown ag stream w s := rfl
theorem exec_promotionLimit (stream : Nat) (s : State) : exec (.promotionLimit stream) s = execPromotionLimit stream s := rfl
theorem exec_replicaSilent (stream : Nat) (r : Nat) (s : State) : exec (.replicaSilent stream r) s = execReplicaSilent stream r s := rfl
theorem exec_catchupWalk (stream : Nat) (r : Nat) (s : State) : exec (.catchupWalk stream r) s = execCatchupWalk stream r s := rfl
theorem exec_catchupSwitch (stream : Nat) (r : Nat) (s : State) : exec (.catchupSwitch stream r) s = execCatchupSwitch stream r s := rfl
theorem exec_slotValid (ag : Agent) (slot : Nat) (w : W) (s : State) : exec (.slotValid ag slot w) s = execSlotValid ag slot w s := rfl
theorem exec_lastGaspBudget (stream : Nat) (s : State) : exec (.lastGaspBudget stream) s = execLastGaspBudget stream s := rfl
theorem exec_degradedFromClear (ag : Agent) (stream : Nat) (w : W) (s : State) : exec (.degradedFromClear ag stream w) s = execDegradedFromClear ag stream w s := rfl
theorem exec_channelTraining (ch : Nat) (pop : DimmPop) (s : State) : exec (.channelTraining ch pop) s = execChannelTraining ch pop s := rfl
theorem exec_dramZeroing (s : State) : exec (.dramZeroing) s = execDramZeroing s := rfl
theorem exec_mctDecodeWrite (ag : Agent) (n : Nat) (w : W) (s : State) : exec (.mctDecodeWrite ag n w) s = execMctDecodeWrite ag n w s := rfl
theorem exec_mcRead (line : Nat) (cls : Nat) (part : Nat) (bucket : Bool) (s : State) : exec (.mcRead line cls part bucket) s = execMcRead line cls part bucket s := rfl
theorem exec_mcWrite (line : Nat) (data : BitVec 512) (mask : Nat) (poison : Bool) (cls : Nat) (part : Nat) (bucket : Bool) (b : Burst) (pb : Burst) (s : State) : exec (.mcWrite line data mask poison cls part bucket b pb) s = execMcWrite line data mask poison cls part bucket b pb s := rfl
theorem exec_dramReadComplete (ch : Nat) (hits : List Nat) (b : Burst) (pb : Burst) (s : State) : exec (.dramReadComplete ch hits b pb) s = execDramReadComplete ch hits b pb s := rfl
theorem exec_refresh (ch : Nat) (rank : Nat) (postpone : Bool) (s : State) : exec (.refresh ch rank postpone) s = execRefresh ch rank postpone s := rfl
theorem exec_zqcs (ch : Nat) (rank : Nat) (s : State) : exec (.zqcs ch rank) s = execZqcs ch rank s := rfl
theorem exec_caParityFailure (ch : Nat) (s : State) : exec (.caParityFailure ch) s = execCaParityFailure ch s := rfl
theorem exec_channelLost (ch : Nat) (s : State) : exec (.channelLost ch) s = execChannelLost ch s := rfl
theorem exec_deviceErased (ch : Nat) (rank : Nat) (dev : Nat) (s : State) : exec (.deviceErased ch rank dev) s = execDeviceErased ch rank dev s := rfl
theorem exec_pprApplied (ch : Nat) (line : Nat) (place : Nat) (s : State) : exec (.pprApplied ch line place) s = execPprApplied ch line place s := rfl
theorem exec_rankSpared (ch : Nat) (rank : Nat) (s : State) : exec (.rankSpared ch rank) s = execRankSpared ch rank s := rfl
theorem exec_rankCopyDone (ch : Nat) (s : State) : exec (.rankCopyDone ch) s = execRankCopyDone ch s := rfl
theorem exec_patrolScrub (ch : Nat) (b : Burst) (pb : Burst) (s : State) : exec (.patrolScrub ch b pb) s = execPatrolScrub ch b pb s := rfl
theorem exec_selfRefreshEntry (ch : Nat) (s : State) : exec (.selfRefreshEntry ch) s = execSelfRefreshEntry ch s := rfl
theorem exec_selfRefreshExit (ch : Nat) (s : State) : exec (.selfRefreshExit ch) s = execSelfRefreshExit ch s := rfl
theorem exec_eccCountClear (ag : Agent) (ch : Nat) (w : W) (s : State) : exec (.eccCountClear ag ch w) s = execEccCountClear ag ch w s := rfl
theorem exec_pcieOutboundRequest (node : Nat) (tag : Nat) (p : Nat) (tenBit : Bool) (s : State) : exec (.pcieOutboundRequest node tag p tenBit) s = execPcieOutboundRequest node tag p tenBit s := rfl
theorem exec_pcieCompletion (c : Nat) (tag : Nat) (status : Nat) (data : Nat) (poisoned : Bool) (s : State) : exec (.pcieCompletion c tag status data poisoned) s = execPcieCompletion c tag status data poisoned s := rfl
theorem exec_pcieCplTimeout (c : Nat) (tag : Nat) (s : State) : exec (.pcieCplTimeout c tag) s = execPcieCplTimeout c tag s := rfl
theorem exec_pcieInboundRequest (c : Nat) (p : Nat) (rid : Nat) (write : Bool) (addr : Nat) (len : Nat) (data : List Byte) (pasid : Bool) (bar2 : Bool) (tenBit : Bool) (s : State) : exec (.pcieInboundRequest c p rid write addr len data pasid bar2 tenBit) s = execPcieInboundRequest c p rid write addr len data pasid bar2 tenBit s := rfl
theorem exec_pcieLinkDown (c : Nat) (p : Nat) (up : Bool) (width : Nat) (speed : Nat) (ltssm : Nat) (surprise : Bool) (s : State) : exec (.pcieLinkDown c p up width speed ltssm surprise) s = execPcieLinkDown c p up width speed ltssm surprise s := rfl
theorem exec_pcieAer (c : Nat) (p : Nat) (sev : Nat) (s : State) : exec (.pcieAer c p sev) s = execPcieAer c p sev s := rfl
theorem exec_perstRel (ag : Agent) (c : Nat) (p : Nat) (w : W) (s : State) : exec (.perstRel ag c p w) s = execPerstRel ag c p w s := rfl
theorem exec_invalPartition (ag : Agent) (part : Nat) (w : W) (s : State) : exec (.invalPartition ag part w) s = execInvalPartition ag part w s := rfl
theorem exec_invalFatEntry (ag : Agent) (part : Nat) (w : W) (s : State) : exec (.invalFatEntry ag part w) s = execInvalFatEntry ag part w s := rfl
theorem exec_invalVmid (ag : Agent) (part : Nat) (w : W) (s : State) : exec (.invalVmid ag part w) s = execInvalVmid ag part w s := rfl
theorem exec_invalDone (part : Nat) (s : State) : exec (.invalDone part) s = execInvalDone part s := rfl
theorem exec_cphTail (ag : Agent) (k : Nat) (r : Nat) (w : W) (s : State) : exec (.cphTail ag k r w) s = execCphTail ag k r w s := rfl
theorem exec_descriptorFetch (k : Nat) (s : State) : exec (.descriptorFetch k) s = execDescriptorFetch k s := rfl
theorem exec_aesEncrypt (k : Nat) (r : Nat) (ix : Nat) (s : State) : exec (.aesEncrypt k r ix) s = execAesEncrypt k r ix s := rfl
theorem exec_aesDecrypt (k : Nat) (r : Nat) (ix : Nat) (s : State) : exec (.aesDecrypt k r ix) s = execAesDecrypt k r ix s := rfl
theorem exec_aesCmacGenerate (k : Nat) (r : Nat) (ix : Nat) (s : State) : exec (.aesCmacGenerate k r ix) s = execAesCmacGenerate k r ix s := rfl
theorem exec_aesCmacVerify (k : Nat) (r : Nat) (ix : Nat) (s : State) : exec (.aesCmacVerify k r ix) s = execAesCmacVerify k r ix s := rfl
theorem exec_tdesEncrypt (k : Nat) (r : Nat) (ix : Nat) (s : State) : exec (.tdesEncrypt k r ix) s = execTdesEncrypt k r ix s := rfl
theorem exec_tdesDecrypt (k : Nat) (r : Nat) (ix : Nat) (s : State) : exec (.tdesDecrypt k r ix) s = execTdesDecrypt k r ix s := rfl
theorem exec_retailMacGenerate (k : Nat) (r : Nat) (ix : Nat) (s : State) : exec (.retailMacGenerate k r ix) s = execRetailMacGenerate k r ix s := rfl
theorem exec_retailMacVerify (k : Nat) (r : Nat) (ix : Nat) (s : State) : exec (.retailMacVerify k r ix) s = execRetailMacVerify k r ix s := rfl
theorem exec_hash (k : Nat) (r : Nat) (ix : Nat) (s : State) : exec (.hash k r ix) s = execHash k r ix s := rfl
theorem exec_hmacGenerate (k : Nat) (r : Nat) (ix : Nat) (s : State) : exec (.hmacGenerate k r ix) s = execHmacGenerate k r ix s := rfl
theorem exec_hmacVerify (k : Nat) (r : Nat) (ix : Nat) (s : State) : exec (.hmacVerify k r ix) s = execHmacVerify k r ix s := rfl
theorem exec_rsaVerify (k : Nat) (r : Nat) (ix : Nat) (s : State) : exec (.rsaVerify k r ix) s = execRsaVerify k r ix s := rfl
theorem exec_rsaSign (k : Nat) (r : Nat) (ix : Nat) (s : State) : exec (.rsaSign k r ix) s = execRsaSign k r ix s := rfl
theorem exec_ecdsaVerify (k : Nat) (r : Nat) (ix : Nat) (s : State) : exec (.ecdsaVerify k r ix) s = execEcdsaVerify k r ix s := rfl
theorem exec_ecdsaSign (k : Nat) (r : Nat) (ix : Nat) (s : State) : exec (.ecdsaSign k r ix) s = execEcdsaSign k r ix s := rfl
theorem exec_ed25519Verify (k : Nat) (r : Nat) (ix : Nat) (s : State) : exec (.ed25519Verify k r ix) s = execEd25519Verify k r ix s := rfl
theorem exec_ed25519Sign (k : Nat) (r : Nat) (ix : Nat) (s : State) : exec (.ed25519Sign k r ix) s = execEd25519Sign k r ix s := rfl
theorem exec_mlDsa65Verify (k : Nat) (r : Nat) (ix : Nat) (s : State) : exec (.mlDsa65Verify k r ix) s = execMlDsa65Verify k r ix s := rfl
theorem exec_mlDsa65Sign (k : Nat) (r : Nat) (ix : Nat) (s : State) : exec (.mlDsa65Sign k r ix) s = execMlDsa65Sign k r ix s := rfl
theorem exec_pinTranslate (k : Nat) (r : Nat) (ix : Nat) (s : State) : exec (.pinTranslate k r ix) s = execPinTranslate k r ix s := rfl
theorem exec_dukptPinTranslate (k : Nat) (r : Nat) (ix : Nat) (s : State) : exec (.dukptPinTranslate k r ix) s = execDukptPinTranslate k r ix s := rfl
theorem exec_dukptMacVerify (k : Nat) (r : Nat) (ix : Nat) (s : State) : exec (.dukptMacVerify k r ix) s = execDukptMacVerify k r ix s := rfl
theorem exec_cryptogramVerify (k : Nat) (r : Nat) (ix : Nat) (s : State) : exec (.cryptogramVerify k r ix) s = execCryptogramVerify k r ix s := rfl
theorem exec_random (k : Nat) (r : Nat) (ix : Nat) (s : State) : exec (.random k r ix) s = execRandom k r ix s := rfl
theorem exec_jobComplete (k : Nat) (r : Nat) (ix : Nat) (s : State) : exec (.jobComplete k r ix) s = execJobComplete k r ix s := rfl
theorem exec_cipherSelftest (k : Nat) (failed : Nat) (s : State) : exec (.cipherSelftest k failed) s = execCipherSelftest k failed s := rfl
theorem exec_wpcSyncGo (ag : Agent) (w : W) (s : State) : exec (.wpcSyncGo ag w) s = execWpcSyncGo ag w s := rfl
theorem exec_wpcSyncDone (s : State) : exec (.wpcSyncDone) s = execWpcSyncDone s := rfl
theorem exec_lock (ag : Agent) (w : W) (s : State) : exec (.lock ag w) s = execLock ag w s := rfl
theorem exec_reset (ag : Agent) (part : Nat) (w : W) (s : State) : exec (.reset ag part w) s = execReset ag part w s := rfl
theorem exec_release (ag : Agent) (part : Nat) (w : W) (s : State) : exec (.release ag part w) s = execRelease ag part w s := rfl
theorem exec_partitionReset (part : Nat) (s : State) : exec (.partitionReset part) s = execPartitionReset part s := rfl
theorem exec_partitionFlushDone (part : Nat) (s : State) : exec (.partitionFlushDone part) s = execPartitionFlushDone part s := rfl
theorem exec_flushLimit (part : Nat) (s : State) : exec (.flushLimit part) s = execFlushLimit part s := rfl
theorem exec_wcall (c : Nat) (insn : W) (s : State) : exec (.wcall c insn) s = execWcall c insn s := rfl
theorem exec_wcallVersion (c : Nat) (s : State) : exec (.wcallVersion c) s = execWcallVersion c s := rfl
theorem exec_pairBind (c : Nat) (s : State) : exec (.pairBind c) s = execPairBind c s := rfl
theorem exec_pairUnbind (c : Nat) (s : State) : exec (.pairUnbind c) s = execPairUnbind c s := rfl
theorem exec_partResetSelf (c : Nat) (s : State) : exec (.partResetSelf c) s = execPartResetSelf c s := rfl
theorem exec_sourcePending (src : Nat) (high : Bool) (s : State) : exec (.sourcePending src high) s = execSourcePending src high s := rfl
theorem exec_messageInterrupt (hart : Nat) (page : Nat) (prio : Nat) (s : State) : exec (.messageInterrupt hart page prio) s = execMessageInterrupt hart page prio s := rfl
theorem exec_evrTgtClaim (ag : Agent) (h : Nat) (t : Nat) (s : State) : exec (.evrTgtClaim ag h t) s = execEvrTgtClaim ag h t s := rfl
theorem exec_evrTgtEoi (ag : Agent) (h : Nat) (t : Nat) (w : W) (s : State) : exec (.evrTgtEoi ag h t w) s = execEvrTgtEoi ag h t w s := rfl
theorem exec_evrTgtInject (ag : Agent) (h : Nat) (t : Nat) (w : W) (s : State) : exec (.evrTgtInject ag h t w) s = execEvrTgtInject ag h t w s := rfl
theorem exec_evrSrcCfgWrite (ag : Agent) (n : Nat) (w : W) (s : State) : exec (.evrSrcCfgWrite ag n w) s = execEvrSrcCfgWrite ag n w s := rfl
theorem exec_nmiEntry (c : Nat) (s : State) : exec (.nmiEntry c) s = execNmiEntry c s := rfl
theorem exec_keyGenerate (ag : Agent) (cls : Nat) (secure : Bool) (part : Nat) (usage : Nat) (alg : Nat) (size : Nat) (s : State) : exec (.keyGenerate ag cls secure part usage alg size) s = execKeyGenerate ag cls secure part usage alg size s := rfl
theorem exec_keyImport (ag : Agent) (kek : Nat) (secure : Bool) (part : Nat) (alg : Nat) (size : Nat) (block : List Byte) (s : State) : exec (.keyImport ag kek secure part alg size block) s = execKeyImport ag kek secure part alg size block s := rfl
theorem exec_keyExport (ag : Agent) (h : Nat) (kek : Nat) (s : State) : exec (.keyExport ag h kek) s = execKeyExport ag h kek s := rfl
theorem exec_keyDelete (ag : Agent) (h : Nat) (s : State) : exec (.keyDelete ag h) s = execKeyDelete ag h s := rfl
theorem exec_keyInfo (ag : Agent) (h : Nat) (s : State) : exec (.keyInfo ag h) s = execKeyInfo ag h s := rfl
theorem exec_fmKeySet (ag : Agent) (hashes : List Byte) (s : State) : exec (.fmKeySet ag hashes) s = execFmKeySet ag hashes s := rfl
theorem exec_imageArm (ag : Agent) (slot : Nat) (maxA : Nat) (trialS : Nat) (good : Bool) (s : State) : exec (.imageArm ag slot maxA trialS good) s = execImageArm ag slot maxA trialS good s := rfl
theorem exec_trialConfirm (ag : Agent) (fails : Nat) (bad : List Nat) (s : State) : exec (.trialConfirm ag fails bad) s = execTrialConfirm ag fails bad s := rfl
theorem exec_revokeImageKey (ag : Agent) (k : Nat) (bad : List Nat) (s : State) : exec (.revokeImageKey ag k bad) s = execRevokeImageKey ag k bad s := rfl
theorem exec_revokeDebugKey (ag : Agent) (k : Nat) (bad : List Nat) (s : State) : exec (.revokeDebugKey ag k bad) s = execRevokeDebugKey ag k bad s := rfl
theorem exec_lcAdvance (ag : Agent) (target : Nat) (bad : List Nat) (s : State) : exec (.lcAdvance ag target bad) s = execLcAdvance ag target bad s := rfl
theorem exec_keystoreErase (ag : Agent) (s : State) : exec (.keystoreErase ag) s = execKeystoreErase ag s := rfl
theorem exec_attest (ag : Agent) (nonce : List Byte) (s : State) : exec (.attest ag nonce) s = execAttest ag nonce s := rfl
theorem exec_tamper (sensor : Nat) (s : State) : exec (.tamper sensor) s = execTamper sensor s := rfl
theorem exec_spBoot (goods : List Bool) (bad : List Nat) (s : State) : exec (.spBoot goods bad) s = execSpBoot goods bad s := rfl
theorem exec_trialWatchdogWarning (s : State) : exec (.trialWatchdogWarning) s = execTrialWatchdogWarning s := rfl
theorem exec_trialWatchdogExpiry (s : State) : exec (.trialWatchdogExpiry) s = execTrialWatchdogExpiry s := rfl
theorem exec_chunk (data : List Byte) (w : W) (s : State) : exec (.chunk data w) s = execChunk data w s := rfl
theorem exec_finish (w : W) (good : Bool) (s : State) : exec (.finish w good) s = execFinish w good s := rfl
theorem exec_rcvAbort (w : W) (s : State) : exec (.rcvAbort w) s = execAbort w s := rfl
theorem exec_fabricRecovery (p : Nat) (off : Nat) (data : List Byte) (fin : Bool) (good : Bool) (s : State) : exec (.fabricRecovery p off data fin good) s = execFabricRecovery p off data fin good s := rfl
theorem exec_powerOnReset (cause : Nat) (s : State) : exec (.powerOnReset cause) s = execPowerOnReset cause s := rfl
theorem exec_systemReset (cause : Nat) (s : State) : exec (.systemReset cause) s = execSystemReset cause s := rfl
theorem exec_coreReset (cs : List Nat) (s : State) : exec (.coreReset cs) s = execCoreReset cs s := rfl
theorem exec_blockReset (u : Nat) (s : State) : exec (.blockReset u) s = execBlockReset u s := rfl
theorem exec_resetInN (low : Bool) (s : State) : exec (.resetInN low) s = execResetInN low s := rfl
theorem exec_pwrgood (sig : Nat) (good : Bool) (s : State) : exec (.pwrgood sig good) s = execPwrgood sig good s := rfl
theorem exec_thermtrip (s : State) : exec (.thermtrip) s = execThermtrip s := rfl
theorem exec_resetHoldEnd (s : State) : exec (.resetHoldEnd) s = execResetHoldEnd s := rfl
theorem exec_domainRelease (step : Nat) (cal : List Reading) (s : State) : exec (.domainRelease step cal) s = execDomainRelease step cal s := rfl
theorem exec_optionLoading (src : Nat) (recov : Bool) (s : State) : exec (.optionLoading src recov) s = execOptionLoading src recov s := rfl
theorem exec_lockLoss (d : ClockDom) (s : State) : exec (.lockLoss d) s = execLockLoss d s := rfl
theorem exec_regulatorFault (reg : Nat) (units : List Nat) (s : State) : exec (.regulatorFault reg units) s = execRegulatorFault reg units s := rfl
theorem exec_railNearEdge (rail : Nat) (s : State) : exec (.railNearEdge rail) s = execRailNearEdge rail s := rfl
theorem exec_vbakLost (s : State) : exec (.vbakLost) s = execVbakLost s := rfl
theorem exec_powerFailWarning (s : State) : exec (.powerFailWarning) s = execPowerFailWarning s := rfl
theorem exec_prochotN (low : Bool) (s : State) : exec (.prochotN low) s = execProchotN low s := rfl
theorem exec_throttleEntry (sensor : Nat) (tj : Int) (s : State) : exec (.throttleEntry sensor tj) s = execThrottleEntry sensor tj s := rfl
theorem exec_throttleExit (sensor : Nat) (tj : Int) (s : State) : exec (.throttleExit sensor tj) s = execThrottleExit sensor tj s := rfl
theorem exec_target (ag : Agent) (p : Nat) (w : W) (s : State) : exec (.target ag p w) s = execTarget ag p w s := rfl
theorem exec_pstateChangeDone (p : Nat) (s : State) : exec (.pstateChangeDone p) s = execPstateChangeDone p s := rfl
theorem exec_pwrOn (ag : Agent) (u : Nat) (w : W) (s : State) : exec (.pwrOn ag u w) s = execPwrOn ag u w s := rfl
theorem exec_powerGateDone (u : Nat) (s : State) : exec (.powerGateDone u) s = execPowerGateDone u s := rfl
theorem exec_corePowerGate (c : Nat) (s : State) : exec (.corePowerGate c) s = execCorePowerGate c s := rfl
theorem exec_packageIdleEntry (s : State) : exec (.packageIdleEntry) s = execPackageIdleEntry s := rfl
theorem exec_packageIdleExit (s : State) : exec (.packageIdleExit) s = execPackageIdleExit s := rfl
theorem exec_kick (ag : Agent) (wd : Nat) (w : W) (s : State) : exec (.kick ag wd w) s = execKick ag wd w s := rfl
theorem exec_watchdogHalf (wd : Nat) (s : State) : exec (.watchdogHalf wd) s = execWatchdogHalf wd s := rfl
theorem exec_watchdogExpiry (wd : Nat) (s : State) : exec (.watchdogExpiry wd) s = execWatchdogExpiry wd s := rfl
theorem exec_clearCauses (ag : Agent) (w : W) (s : State) : exec (.clearCauses ag w) s = execClearCauses ag w s := rfl
theorem exec_rtcWrite (ag : Agent) (w : W) (s : State) : exec (.rtcWrite ag w) s = execRtcWrite ag w s := rfl
theorem exec_ring (ag : Agent) (n : Nat) (w : W) (s : State) : exec (.ring ag n w) s = execRing ag n w s := rfl
theorem exec_mbxAck (ag : Agent) (n : Nat) (w : W) (s : State) : exec (.mbxAck ag n w) s = execMbxAck ag n w s := rfl
theorem exec_commandFinished (n : Nat) (s : State) : exec (.commandFinished n) s = execCommandFinished n s := rfl
theorem exec_operationFinished (n : Nat) (id : Nat) (s : State) : exec (.operationFinished n id) s = execOperationFinished n id s := rfl
theorem exec_featuresGet (n : Nat) (s : State) : exec (.featuresGet n) s = execFeaturesGet n s := rfl
theorem exec_featuresSet (n : Nat) (s : State) : exec (.featuresSet n) s = execFeaturesSet n s := rfl
theorem exec_opStatus (n : Nat) (s : State) : exec (.opStatus n) s = execOpStatus n s := rfl
theorem exec_version (n : Nat) (s : State) : exec (.version n) s = execVersion n s := rfl
theorem exec_pstateSet (n : Nat) (s : State) : exec (.pstateSet n) s = execPstateSet n s := rfl
theorem exec_pstateGet (n : Nat) (s : State) : exec (.pstateGet n) s = execPstateGet n s := rfl
theorem exec_blockPower (n : Nat) (s : State) : exec (.blockPower n) s = execBlockPower n s := rfl
theorem exec_idlePolicy (n : Nat) (s : State) : exec (.idlePolicy n) s = execIdlePolicy n s := rfl
theorem exec_powerRead (n : Nat) (mw : List Nat) (s : State) : exec (.powerRead n mw) s = execPowerRead n mw s := rfl
theorem exec_errlogRead (n : Nat) (s : State) : exec (.errlogRead n) s = execErrlogRead n s := rfl
theorem exec_sparesGet (n : Nat) (s : State) : exec (.sparesGet n) s = execSparesGet n s := rfl
theorem exec_ageingGet (n : Nat) (s : State) : exec (.ageingGet n) s = execAgeingGet n s := rfl
theorem exec_coreSwap (n : Nat) (s : State) : exec (.coreSwap n) s = execCoreSwap n s := rfl
theorem exec_partReset (n : Nat) (s : State) : exec (.partReset n) s = execPartReset n s := rfl
theorem exec_hartRelease (n : Nat) (s : State) : exec (.hartRelease n) s = execHartRelease n s := rfl
theorem exec_partStatus (n : Nat) (s : State) : exec (.partStatus n) s = execPartStatus n s := rfl
theorem exec_wtAssign (n : Nat) (s : State) : exec (.wtAssign n) s = execWtAssign n s := rfl
theorem exec_ownerSet (n : Nat) (s : State) : exec (.ownerSet n) s = execOwnerSet n s := rfl
theorem exec_routeSet (n : Nat) (s : State) : exec (.routeSet n) s = execRouteSet n s := rfl
theorem exec_portSet (n : Nat) (s : State) : exec (.portSet n) s = execPortSet n s := rfl
theorem exec_portGet (n : Nat) (s : State) : exec (.portGet n) s = execPortGet n s := rfl
theorem exec_nodeSet (n : Nat) (s : State) : exec (.nodeSet n) s = execNodeSet n s := rfl
theorem exec_replCfg (n : Nat) (s : State) : exec (.replCfg n) s = execReplCfg n s := rfl
theorem exec_promote (n : Nat) (s : State) : exec (.promote n) s = execPromote n s := rfl
theorem exec_mbxStepDown (n : Nat) (s : State) : exec (.mbxStepDown n) s = execMbxStepDown n s := rfl
theorem exec_slotArm (n : Nat) (s : State) : exec (.slotArm n) s = execSlotArm n s := rfl
theorem exec_slotDisarm (n : Nat) (s : State) : exec (.slotDisarm n) s = execSlotDisarm n s := rfl
theorem exec_replGet (n : Nat) (s : State) : exec (.replGet n) s = execReplGet n s := rfl
theorem exec_ladleSet (n : Nat) (s : State) : exec (.ladleSet n) s = execLadleSet n s := rfl
theorem exec_imageWrite (n : Nat) (s : State) : exec (.imageWrite n) s = execImageWrite n s := rfl
theorem exec_mbxImageArm (n : Nat) (good : Bool) (s : State) : exec (.mbxImageArm n good) s = execMbxImageArm n good s := rfl
theorem exec_mbxTrialConfirm (n : Nat) (fails : Nat) (bad : List Nat) (s : State) : exec (.mbxTrialConfirm n fails bad) s = execMbxTrialConfirm n fails bad s := rfl
theorem exec_mbxRevokeImageKey (n : Nat) (bad : List Nat) (s : State) : exec (.mbxRevokeImageKey n bad) s = execMbxRevokeImageKey n bad s := rfl
theorem exec_mbxAttest (n : Nat) (s : State) : exec (.mbxAttest n) s = execMbxAttest n s := rfl
theorem exec_timeGet (n : Nat) (s : State) : exec (.timeGet n) s = execTimeGet n s := rfl
theorem exec_rtcSet (n : Nat) (s : State) : exec (.rtcSet n) s = execRtcSet n s := rfl
theorem exec_errorRecord (source : Nat) (unit : Nat) (cls : Nat) (code : Nat) (addr : Nat) (place : Nat) (s : State) : exec (.errorRecord source unit cls code addr place) s = execErrorRecord source unit cls code addr place s := rfl
theorem exec_macenRestart (part : List (Nat × Nat)) (s : State) : exec (.macenRestart part) s = execMacenRestart part s := rfl
theorem exec_writeWord (w : Nat) (pec : Bool) (s : State) : exec (.writeWord w pec) s = execWriteWord w pec s := rfl
theorem exec_blockWrite (bs : List Byte) (pec : Bool) (s : State) : exec (.blockWrite bs pec) s = execBlockWrite bs pec s := rfl
theorem exec_blockRead (pec : Bool) (s : State) : exec (.blockRead pec) s = execBlockRead pec s := rfl
theorem exec_writeByte (b : Byte) (pec : Bool) (s : State) : exec (.writeByte b pec) s = execWriteByte b pec s := rfl
theorem exec_smbusTimeout (s : State) : exec (.smbusTimeout) s = execSmbusTimeout s := rfl
theorem exec_ageingSample (rs : List Reading) (s : State) : exec (.ageingSample rs) s = execAgeingSample rs s := rfl
theorem exec_liveCoreSwap (t : Nat) (s : State) : exec (.liveCoreSwap t) s = execLiveCoreSwap t s := rfl
theorem exec_swapSparePowered (t : Nat) (s : State) : exec (.swapSparePowered t) s = execSwapSparePowered t s := rfl
theorem exec_swapInReset (c : Nat) (s : State) : exec (.swapInReset c) s = execSwapInReset c s := rfl
theorem exec_oldSlotGated (t : Nat) (s : State) : exec (.oldSlotGated t) s = execOldSlotGated t s := rfl
theorem exec_repairLogAppend (bad : List Nat) (s : State) : exec (.repairLogAppend bad) s = execRepairLogAppend bad s := rfl
theorem exec_sramRowSpare (arr : Nat) (row : Nat) (sets : List Nat) (s : State) : exec (.sramRowSpare arr row sets) s = execSramRowSpare arr row sets s := rfl
theorem exec_coreArrayRowSpare (arr : Nat) (row : Nat) (pass : Bool) (s : State) : exec (.coreArrayRowSpare arr row pass) s = execCoreArrayRowSpare arr row pass s := rfl
theorem exec_spdLogWrite (ch : Nat) (dimm : Nat) (typ : Nat) (rankDev : Nat) (bank : Nat) (row : Nat) (good : Bool) (s : State) : exec (.spdLogWrite ch dimm typ rankDev bank row good) s = execSpdLogWrite ch dimm typ rankDev bank row good s := rfl
theorem exec_idcode (s : State) : exec (.idcode) s = execIdcode s := rfl
theorem exec_samplePreload (pins : List Bool) (cells : List Bool) (s : State) : exec (.samplePreload pins cells) s = execSamplePreload pins cells s := rfl
theorem exec_extest (s : State) : exec (.extest) s = execExtest s := rfl
theorem exec_dbgacc (op : Nat) (off : Nat) (data : W) (s : State) : exec (.dbgacc op off data) s = execDbgacc op off data s := rfl
theorem exec_lcCmd (target : Nat) (bad : List Nat) (s : State) : exec (.lcCmd target bad) s = execLcCmd target bad s := rfl
theorem exec_bypass (s : State) : exec (.bypass) s = execBypass s := rfl
theorem exec_tapReset (s : State) : exec (.tapReset) s = execTapReset s := rfl
theorem exec_verify (p : DbgPort) (w : W) (s : State) : exec (.verify p w) s = execVerify p w s := rfl
theorem exec_verifyComplete (p : DbgPort) (s : State) : exec (.verifyComplete p) s = execVerifyComplete p s := rfl
theorem exec_dbgEnd (p : DbgPort) (w : W) (s : State) : exec (.dbgEnd p w) s = execEnd p w s := rfl
theorem exec_debugSystemReset (p : DbgPort) (w : W) (s : State) : exec (.debugSystemReset p w) s = execDebugSystemReset p w s := rfl
theorem exec_haltHart (p : DbgPort) (h : Nat) (w : W) (s : State) : exec (.haltHart p h w) s = execHalt p h w s := rfl
theorem exec_haltTaken (c : Nat) (s : State) : exec (.haltTaken c) s = execHaltTaken c s := rfl
theorem exec_debugResume (p : DbgPort) (h : Nat) (w : W) (s : State) : exec (.debugResume p h w) s = execDebugResume p h w s := rfl
theorem exec_stepHart (p : DbgPort) (h : Nat) (w : W) (s : State) : exec (.stepHart p h w) s = execStep p h w s := rfl
theorem exec_debugCoreReset (p : DbgPort) (h : Nat) (w : W) (s : State) : exec (.debugCoreReset p h w) s = execDebugCoreReset p h w s := rfl
theorem exec_regdataAccess (p : DbgPort) (h : Nat) (wr : Option W) (s : State) : exec (.regdataAccess p h wr) s = execRegdataAccess p h wr s := rfl
theorem exec_goCmd (p : DbgPort) (w : W) (s : State) : exec (.goCmd p w) s = execGo p w s := rfl
theorem exec_debugAccessComplete (s : State) : exec (.debugAccessComplete) s = execDebugAccessComplete s := rfl
theorem exec_freezeRelease (part : Nat) (s : State) : exec (.freezeRelease part) s = execFreezeRelease part s := rfl
theorem exec_vtTx (p : DbgPort) (i : Nat) (wr : Option W) (low : Bool) (s : State) : exec (.vtTx p i wr low) s = execVtTx p i wr low s := rfl
theorem exec_vtRx (p : DbgPort) (i : Nat) (wr : Option W) (low : Bool) (s : State) : exec (.vtRx p i wr low) s = execVtRx p i wr low s := rfl
theorem exec_traceSync (s : State) : exec (.traceSync) s = execTraceSync s := rfl
theorem exec_ladleTick (s : State) : exec (.ladleTick) s = execLadleTick s := rfl
theorem exec_ladleRecord (s : State) : exec (.ladleRecord) s = execLadleRecord s := rfl
theorem exec_uartTransmit (ag : Agent) (u : Nat) (w : W) (s : State) : exec (.uartTransmit ag u w) s = execUartTransmit ag u w s := rfl
theorem exec_uartReceiveRead (ag : Agent) (u : Nat) (s : State) : exec (.uartReceiveRead ag u) s = execUartReceiveRead ag u s := rfl
theorem exec_uartCharacter (u : Nat) (b : Byte) (err : Bool) (s : State) : exec (.uartCharacter u b err) s = execUartCharacter u b err s := rfl
theorem exec_pllRelock (d : ClockDom) (s : State) : exec (.pllRelock d) s = execPllRelock d s := rfl
theorem exec_pfwNRelease (s : State) : exec (.pfwNRelease) s = execPfwNRelease s := rfl
theorem exec_secondaryBusResetEnd (c : Nat) (p : Nat) (s : State) : exec (.secondaryBusResetEnd c p) s = execSecondaryBusResetEnd c p s := rfl
theorem exec_powerUpDone (u : Nat) (s : State) : exec (.powerUpDone u) s = execPowerUpDone u s := rfl
theorem exec_uartCharacterSent (u : Nat) (s : State) : exec (.uartCharacterSent u) s = execUartCharacterSent u s := rfl
theorem exec_dimmTemperature (ch : Nat) (dimm : Nat) (temp : Nat) (s : State) : exec (.dimmTemperature ch dimm temp) s = execDimmTemperature ch dimm temp s := rfl

theorem ActsR.mono {L R L2 R2 : Nat} {s : State} {r : Host.Outcome State Fault Refusal} (h : ActsR L2 R2 s r) (hL : L2 ||| L = L)
    (hR : R2 ||| R = R) : ActsR L R s r := fun t e => (h t e).mono hL hR

/-- No command touches the queue. -/
theorem acts_exec (i : Instr) (s : State) : ActsR 40564819207303340847894502572030 680564733841876926926749214863536422911 s (exec i s) := by
  cases i with
  | registerWrite _ _ _ _ => exact exec_registerWrite _ _ _ _ s ▸ (acts_execRegisterWrite _ _ _ _ s).mono rfl rfl
  | rsSnapshotRead _ _ _ => exact exec_rsSnapshotRead _ _ _ s ▸ (acts_execRsSnapshotRead _ _ _ s).mono rfl rfl
  | load _ _ _ _ _ _ _ _ _ _ _ => exact exec_load _ _ _ _ _ _ _ _ _ _ _ s ▸ (acts_execLoad _ _ _ _ _ _ _ _ _ _ _ s).mono rfl rfl
  | store _ _ _ _ _ _ _ _ => exact exec_store _ _ _ _ _ _ _ _ s ▸ (acts_execStore _ _ _ _ _ _ _ _ s).mono rfl rfl
  | storeBufferWrite _ _ => exact exec_storeBufferWrite _ _ s ▸ (acts_execStoreBufferWrite _ _ s).mono rfl rfl
  | amo _ _ _ _ _ _ _ _ _ => exact exec_amo _ _ _ _ _ _ _ _ _ s ▸ (acts_execAmo _ _ _ _ _ _ _ _ _ s).mono rfl rfl
  | lr _ _ _ _ _ _ _ => exact exec_lr _ _ _ _ _ _ _ s ▸ (acts_execLr _ _ _ _ _ _ _ s).mono rfl rfl
  | sc _ _ _ _ _ _ _ _ => exact exec_sc _ _ _ _ _ _ _ _ s ▸ (acts_execSc _ _ _ _ _ _ _ _ s).mono rfl rfl
  | holdWindowEnd _ => exact exec_holdWindowEnd _ s ▸ (acts_execHoldWindowEnd _ s).mono rfl rfl
  | fence _ _ _ _ => exact exec_fence _ _ _ _ s ▸ (acts_execFence _ _ _ _ s).mono rfl rfl
  | fenceTso _ _ => exact exec_fenceTso _ _ s ▸ (acts_execFenceTso _ _ s).mono rfl rfl
  | fenceI _ _ => exact exec_fenceI _ _ s ▸ (acts_execFenceI _ _ s).mono rfl rfl
  | sfenceVma _ _ _ _ _ => exact exec_sfenceVma _ _ _ _ _ s ▸ (acts_execSfenceVma _ _ _ _ _ s).mono rfl rfl
  | hfenceVvma _ _ _ _ _ => exact exec_hfenceVvma _ _ _ _ _ s ▸ (acts_execHfenceVvma _ _ _ _ _ s).mono rfl rfl
  | hfenceGvma _ _ _ _ _ => exact exec_hfenceGvma _ _ _ _ _ s ▸ (acts_execHfenceGvma _ _ _ _ _ s).mono rfl rfl
  | sinvalVma _ _ _ _ _ _ => exact exec_sinvalVma _ _ _ _ _ _ s ▸ (acts_execSinvalVma _ _ _ _ _ _ s).mono rfl rfl
  | sfenceWInval _ _ _ => exact exec_sfenceWInval _ _ _ s ▸ (acts_execSfenceWInval _ _ _ s).mono rfl rfl
  | sfenceInvalIr _ _ _ => exact exec_sfenceInvalIr _ _ _ s ▸ (acts_execSfenceInvalIr _ _ _ s).mono rfl rfl
  | cboZero _ _ _ _ => exact exec_cboZero _ _ _ _ s ▸ (acts_execCboZero _ _ _ _ s).mono rfl rfl
  | cboClean _ _ _ _ => exact exec_cboClean _ _ _ _ s ▸ (acts_execCboClean _ _ _ _ s).mono rfl rfl
  | cboFlush _ _ _ _ => exact exec_cboFlush _ _ _ _ s ▸ (acts_execCboFlush _ _ _ _ s).mono rfl rfl
  | cboInval _ _ _ _ => exact exec_cboInval _ _ _ _ s ▸ (acts_execCboInval _ _ _ _ s).mono rfl rfl
  | prefetch _ _ _ _ _ => exact exec_prefetch _ _ _ _ _ s ▸ (acts_execPrefetch _ _ _ _ _ s).mono rfl rfl
  | wfi _ _ _ => exact exec_wfi _ _ _ s ▸ (acts_execWfi _ _ _ s).mono rfl rfl
  | wfiWake _ => exact exec_wfiWake _ s ▸ (acts_execWfiWake _ s).mono rfl rfl
  | pause _ _ => exact exec_pause _ _ s ▸ (acts_execPause _ _ s).mono rfl rfl
  | pauseEnd _ => exact exec_pauseEnd _ s ▸ (acts_execPauseEnd _ s).mono rfl rfl
  | timeRead _ _ _ _ => exact exec_timeRead _ _ _ _ s ▸ (acts_execTimeRead _ _ _ _ s).mono rfl rfl
  | csrWrite _ _ _ _ _ _ _ _ => exact exec_csrWrite _ _ _ _ _ _ _ _ s ▸ (acts_execCsrWrite _ _ _ _ _ _ _ _ s).mono rfl rfl
  | ecall _ => exact exec_ecall _ s ▸ (acts_execEcall _ s).mono rfl rfl
  | ebreak _ => exact exec_ebreak _ s ▸ (acts_execEbreak _ s).mono rfl rfl
  | mret _ _ => exact exec_mret _ _ s ▸ (acts_execMret _ _ s).mono rfl rfl
  | sret _ _ => exact exec_sret _ _ s ▸ (acts_execSret _ _ s).mono rfl rfl
  | trap _ _ _ _ _ => exact exec_trap _ _ _ _ _ s ▸ (acts_execTrap _ _ _ _ _ s).mono rfl rfl
  | branchMispredict _ _ _ _ _ _ _ _ => exact exec_branchMispredict _ _ _ _ _ _ _ _ s ▸ (acts_execBranchMispredict _ _ _ _ _ _ _ _ s).mono rfl rfl
  | pageTableWalk _ _ _ _ => exact exec_pageTableWalk _ _ _ _ s ▸ (acts_execPageTableWalk _ _ _ _ s).mono rfl rfl
  | deviceStoreAck _ _ _ _ => exact exec_deviceStoreAck _ _ _ _ s ▸ (acts_execDeviceStoreAck _ _ _ _ s).mono rfl rfl
  | rdShared _ _ => exact exec_rdShared _ _ s ▸ (acts_execRdShared _ _ s).mono rfl rfl
  | rdOwn _ _ => exact exec_rdOwn _ _ s ▸ (acts_execRdOwn _ _ s).mono rfl rfl
  | upgrade _ _ => exact exec_upgrade _ _ s ▸ (acts_execUpgrade _ _ s).mono rfl rfl
  | rdOnce _ _ => exact exec_rdOnce _ _ s ▸ (acts_execRdOnce _ _ s).mono rfl rfl
  | wrLine _ _ _ => exact exec_wrLine _ _ _ s ▸ (acts_execWrLine _ _ _ s).mono rfl rfl
  | cboFlushRequest _ _ => exact exec_cboFlushRequest _ _ s ▸ (acts_execCboFlushRequest _ _ s).mono rfl rfl
  | amoHome _ _ => exact exec_amoHome _ _ s ▸ (acts_execAmoHome _ _ s).mono rfl rfl
  | nak _ _ => exact exec_nak _ _ s ▸ (acts_execNak _ _ s).mono rfl rfl
  | nakRetry _ _ => exact exec_nakRetry _ _ s ▸ (acts_execNakRetry _ _ s).mono rfl rfl
  | fairnessReservationDrop _ => exact exec_fairnessReservationDrop _ s ▸ (acts_execFairnessReservationDrop _ s).mono rfl rfl
  | comp _ _ => exact exec_comp _ _ s ▸ (acts_execComp _ _ s).mono rfl rfl
  | data _ _ => exact exec_data _ _ s ▸ (acts_execData _ _ s).mono rfl rfl
  | deferRsp _ => exact exec_deferRsp _ s ▸ (acts_execDeferRsp _ s).mono rfl rfl
  | wbDirty _ _ => exact exec_wbDirty _ _ s ▸ (acts_execWbDirty _ _ s).mono rfl rfl
  | evictClean _ _ => exact exec_evictClean _ _ s ▸ (acts_execEvictClean _ _ s).mono rfl rfl
  | wbAck _ _ => exact exec_wbAck _ _ s ▸ (acts_execWbAck _ _ s).mono rfl rfl
  | wbAckDiscarded _ _ => exact exec_wbAckDiscarded _ _ s ▸ (acts_execWbAckDiscarded _ _ s).mono rfl rfl
  | evictAck _ _ => exact exec_evictAck _ _ s ▸ (acts_execEvictAck _ _ s).mono rfl rfl
  | snpShared _ _ _ => exact exec_snpShared _ _ _ s ▸ (acts_execSnpShared _ _ _ s).mono rfl rfl
  | snpOwn _ _ _ => exact exec_snpOwn _ _ _ s ▸ (acts_execSnpOwn _ _ _ s).mono rfl rfl
  | snpOnce _ _ _ => exact exec_snpOnce _ _ _ s ▸ (acts_execSnpOnce _ _ _ s).mono rfl rfl
  | snpInv _ _ _ => exact exec_snpInv _ _ _ s ▸ (acts_execSnpInv _ _ _ s).mono rfl rfl
  | combinedResponse _ _ => exact exec_combinedResponse _ _ s ▸ (acts_execCombinedResponse _ _ s).mono rfl rfl
  | snoopSlotReservation _ _ _ => exact exec_snoopSlotReservation _ _ _ s ▸ (acts_execSnoopSlotReservation _ _ _ s).mono rfl rfl
  | timeout _ _ => exact exec_timeout _ _ s ▸ (acts_execTimeout _ _ s).mono rfl rfl
  | lateResponse _ _ => exact exec_lateResponse _ _ s ▸ (acts_execLateResponse _ _ s).mono rfl rfl
  | errorResponse _ _ _ => exact exec_errorResponse _ _ _ s ▸ (acts_execErrorResponse _ _ _ s).mono rfl rfl
  | linkCorrected _ _ _ => exact exec_linkCorrected _ _ _ s ▸ (acts_execLinkCorrected _ _ _ s).mono rfl rfl
  | linkUncorrected _ _ => exact exec_linkUncorrected _ _ s ▸ (acts_execLinkUncorrected _ _ s).mono rfl rfl
  | apply _ _ _ _ => exact exec_apply _ _ _ _ s ▸ (acts_execApply _ _ _ _ s).mono rfl rfl
  | linkReconfigDone _ _ => exact exec_linkReconfigDone _ _ s ▸ (acts_execLinkReconfigDone _ _ s).mono rfl rfl
  | clear _ _ _ => exact exec_clear _ _ _ s ▸ (acts_execClear _ _ _ s).mono rfl rfl
  | close _ _ _ _ => exact exec_close _ _ _ _ s ▸ (acts_execClose _ _ _ _ s).mono rfl rfl
  | lidOpen _ _ _ _ => exact exec_lidOpen _ _ _ _ s ▸ (acts_execOpen _ _ _ _ s).mono rfl rfl
  | lidDrain _ _ => exact exec_lidDrain _ _ s ▸ (acts_execLidDrain _ _ s).mono rfl rfl
  | lidDrainLimit _ _ => exact exec_lidDrainLimit _ _ s ▸ (acts_execLidDrainLimit _ _ s).mono rfl rfl
  | lidClosed _ _ => exact exec_lidClosed _ _ s ▸ (acts_execLidClosed _ _ s).mono rfl rfl
  | domainOff _ _ => exact exec_domainOff _ _ s ▸ (acts_execDomainOff _ _ s).mono rfl rfl
  | cgBegin _ _ _ _ _ => exact exec_cgBegin _ _ _ _ _ s ▸ (acts_execCgBegin _ _ _ _ _ s).mono rfl rfl
  | cgEnd _ _ _ _ _ => exact exec_cgEnd _ _ _ _ _ s ▸ (acts_execCgEnd _ _ _ _ _ s).mono rfl rfl
  | cgAbort _ _ _ _ => exact exec_cgAbort _ _ _ _ s ▸ (acts_execCgAbort _ _ _ _ s).mono rfl rfl
  | cgTest _ _ _ _ => exact exec_cgTest _ _ _ _ s ▸ (acts_execCgTest _ _ _ _ s).mono rfl rfl
  | fenceD _ _ _ => exact exec_fenceD _ _ _ s ▸ (acts_execFenceD _ _ _ s).mono rfl rfl
  | cgInterruptDeferral _ => exact exec_cgInterruptDeferral _ s ▸ (acts_execCgInterruptDeferral _ s).mono rfl rfl
  | stagingReservation _ => exact exec_stagingReservation _ s ▸ (acts_execStagingReservation _ s).mono rfl rfl
  | stagingGrant _ => exact exec_stagingGrant _ s ▸ (acts_execStagingGrant _ s).mono rfl rfl
  | journalFull _ => exact exec_journalFull _ s ▸ (acts_execJournalFull _ s).mono rfl rfl
  | stagingCancel _ => exact exec_stagingCancel _ s ▸ (acts_execStagingCancel _ s).mono rfl rfl
  | commitRequest _ => exact exec_commitRequest _ s ▸ (acts_execCommitRequest _ s).mono rfl rfl
  | commitReply _ => exact exec_commitReply _ s ▸ (acts_execCommitReply _ s).mono rfl rfl
  | flipWindowEnd _ => exact exec_flipWindowEnd _ s ▸ (acts_execFlipWindowEnd _ s).mono rfl rfl
  | recordSegment _ _ => exact exec_recordSegment _ _ s ▸ (acts_execRecordSegment _ _ s).mono rfl rfl
  | watermarkPublication _ => exact exec_watermarkPublication _ s ▸ (acts_execWatermarkPublication _ s).mono rfl rfl
  | cgDepseqWrite _ _ _ _ _ _ => exact exec_cgDepseqWrite _ _ _ _ _ _ s ▸ (acts_execCgDepseqWrite _ _ _ _ _ _ s).mono rfl rfl
  | cgDepseqAnswer _ => exact exec_cgDepseqAnswer _ s ▸ (acts_execCgDepseqAnswer _ s).mono rfl rfl
  | lostClear _ _ _ _ _ _ => exact exec_lostClear _ _ _ _ _ _ s ▸ (acts_execLostClear _ _ _ _ _ _ s).mono rfl rfl
  | publicationRound => exact exec_publicationRound s ▸ (acts_execPublicationRound s).mono rfl rfl
  | resolution _ => exact exec_resolution _ s ▸ (acts_execResolution _ s).mono rfl rfl
  | streamEnable _ _ _ => exact exec_streamEnable _ _ _ s ▸ (acts_execStreamEnable _ _ _ s).mono rfl rfl
  | streamDisable _ _ _ => exact exec_streamDisable _ _ _ s ▸ (acts_execStreamDisable _ _ _ s).mono rfl rfl
  | fenceStream _ _ => exact exec_fenceStream _ _ s ▸ (acts_execFenceStream _ _ s).mono rfl rfl
  | resume _ _ => exact exec_resume _ _ s ▸ (acts_execResume _ _ s).mono rfl rfl
  | restart _ _ => exact exec_restart _ _ s ▸ (acts_execRestart _ _ s).mono rfl rfl
  | sweep _ _ => exact exec_sweep _ _ s ▸ (acts_execSweep _ _ s).mono rfl rfl
  | sweepAnswer _ _ => exact exec_sweepAnswer _ _ s ▸ (acts_execSweepAnswer _ _ s).mono rfl rfl
  | closeMark _ => exact exec_closeMark _ s ▸ (acts_execCloseMark _ s).mono rfl rfl
  | journalAppend _ => exact exec_journalAppend _ s ▸ (acts_execJournalAppend _ s).mono rfl rfl
  | appendAccepted _ _ => exact exec_appendAccepted _ _ s ▸ (acts_execAppendAccepted _ _ s).mono rfl rfl
  | drainPtrWrite _ _ _ => exact exec_drainPtrWrite _ _ _ s ▸ (acts_execDrainPtrWrite _ _ _ s).mono rfl rfl
  | park _ _ _ _ _ _ _ => exact exec_park _ _ _ _ _ _ _ s ▸ (acts_execPark _ _ _ _ _ _ _ s).mono rfl rfl
  | bind _ _ _ _ _ _ _ => exact exec_bind _ _ _ _ _ _ _ s ▸ (acts_execBind _ _ _ _ _ _ _ s).mono rfl rfl
  | unbind _ _ _ _ _ _ _ => exact exec_unbind _ _ _ _ _ _ _ s ▸ (acts_execUnbind _ _ _ _ _ _ _ s).mono rfl rfl
  | pairSync _ _ _ => exact exec_pairSync _ _ _ s ▸ (acts_execPairSync _ _ _ s).mono rfl rfl
  | intervalEnd _ => exact exec_intervalEnd _ s ▸ (acts_execIntervalEnd _ s).mono rfl rfl
  | intervalComparison _ _ _ _ => exact exec_intervalComparison _ _ _ _ s ▸ (acts_execIntervalComparison _ _ _ _ s).mono rfl rfl
  | voteSparePowered _ => exact exec_voteSparePowered _ s ▸ (acts_execVoteSparePowered _ s).mono rfl rfl
  | voteResult _ _ _ _ _ _ => exact exec_voteResult _ _ _ _ _ _ s ▸ (acts_execVoteResult _ _ _ _ _ _ s).mono rfl rfl
  | voteLimit _ => exact exec_voteLimit _ s ▸ (acts_execVoteLimit _ s).mono rfl rfl
  | enable _ _ _ => exact exec_enable _ _ _ s ▸ (acts_execEnable _ _ _ s).mono rfl rfl
  | retrain _ _ _ => exact exec_retrain _ _ _ s ▸ (acts_execRetrain _ _ _ s).mono rfl rfl
  | laneSwap _ _ _ => exact exec_laneSwap _ _ _ s ▸ (acts_execLaneSwap _ _ _ s).mono rfl rfl
  | laneSwapPacket => exact exec_laneSwapPacket s ▸ (acts_execLaneSwapPacket s).mono rfl rfl
  | trainingComplete _ _ _ => exact exec_trainingComplete _ _ _ s ▸ (acts_execTrainingComplete _ _ _ s).mono rfl rfl
  | trainingRetry _ => exact exec_trainingRetry _ s ▸ (acts_execTrainingRetry _ s).mono rfl rfl
  | attestNonce => exact exec_attestNonce s ▸ (acts_execAttestNonce s).mono rfl rfl
  | attestEvidence => exact exec_attestEvidence s ▸ (acts_execAttestEvidence s).mono rfl rfl
  | attestResult => exact exec_attestResult s ▸ (acts_execAttestResult s).mono rfl rfl
  | attestationLimit _ => exact exec_attestationLimit _ s ▸ (acts_execAttestationLimit _ s).mono rfl rfl
  | dataFolio _ _ => exact exec_dataFolio _ _ s ▸ (acts_execDataFolio _ _ s).mono rfl rfl
  | idleFolio _ _ => exact exec_idleFolio _ _ s ▸ (acts_execIdleFolio _ _ s).mono rfl rfl
  | folioNak _ _ => exact exec_folioNak _ _ s ▸ (acts_execFolioNak _ _ s).mono rfl rfl
  | nakRepeat _ => exact exec_nakRepeat _ s ▸ (acts_execNakRepeat _ s).mono rfl rfl
  | replayTimeout _ => exact exec_replayTimeout _ s ▸ (acts_execReplayTimeout _ s).mono rfl rfl
  | linkDown _ _ => exact exec_linkDown _ _ s ▸ (acts_execLinkDown _ _ s).mono rfl rfl
  | switchForward _ => exact exec_switchForward _ s ▸ (acts_execSwitchForward _ s).mono rfl rfl
  | apertureAccess _ _ => exact exec_apertureAccess _ _ s ▸ (acts_execApertureAccess _ _ s).mono rfl rfl
  | write => exact exec_write s ▸ (acts_execWrite s).mono rfl rfl
  | read => exact exec_read s ▸ (acts_execRead s).mono rfl rfl
  | atomic => exact exec_atomic s ▸ (acts_execAtomic s).mono rfl rfl
  | readRsp => exact exec_readRsp s ▸ (acts_execReadRsp s).mono rfl rfl
  | writeAck => exact exec_writeAck s ▸ (acts_execWriteAck s).mono rfl rfl
  | atomicRsp => exact exec_atomicRsp s ▸ (acts_execAtomicRsp s).mono rfl rfl
  | remoteReadTimeout _ => exact exec_remoteReadTimeout _ s ▸ (acts_execRemoteReadTimeout _ s).mono rfl rfl
  | msg => exact exec_msg s ▸ (acts_execMsg s).mono rfl rfl
  | msgRsp => exact exec_msgRsp s ▸ (acts_execMsgRsp s).mono rfl rfl
  | tail _ _ _ => exact exec_tail _ _ _ s ▸ (acts_execTail _ _ _ s).mono rfl rfl
  | consumer _ _ _ => exact exec_consumer _ _ _ s ▸ (acts_execConsumer _ _ _ s).mono rfl rfl
  | timeSync => exact exec_timeSync s ▸ (acts_execTimeSync s).mono rfl rfl
  | timeSyncInterval _ => exact exec_timeSyncInterval _ s ▸ (acts_execTimeSyncInterval _ s).mono rfl rfl
  | timeDelayReq => exact exec_timeDelayReq s ▸ (acts_execTimeDelayReq s).mono rfl rfl
  | timeDelayRsp => exact exec_timeDelayRsp s ▸ (acts_execTimeDelayRsp s).mono rfl rfl
  | remoteReset => exact exec_remoteReset s ▸ (acts_execRemoteReset s).mono rfl rfl
  | remoteResetVerified => exact exec_remoteResetVerified s ▸ (acts_execRemoteResetVerified s).mono rfl rfl
  | remoteResetRsp => exact exec_remoteResetRsp s ▸ (acts_execRemoteResetRsp s).mono rfl rfl
  | quire => exact exec_quire s ▸ (acts_execQuire s).mono rfl rfl
  | ack => exact exec_ack s ▸ (acts_execAck s).mono rfl rfl
  | reject => exact exec_reject s ▸ (acts_execReject s).mono rfl rfl
  | probe => exact exec_probe s ▸ (acts_execProbe s).mono rfl rfl
  | probeInterval _ _ => exact exec_probeInterval _ _ s ▸ (acts_execProbeInterval _ _ s).mono rfl rfl
  | rejoin => exact exec_rejoin s ▸ (acts_execRejoin s).mono rfl rfl
  | termRequest => exact exec_termRequest s ▸ (acts_execTermRequest s).mono rfl rfl
  | termGrant => exact exec_termGrant s ▸ (acts_execTermGrant s).mono rfl rfl
  | termRefuse => exact exec_termRefuse s ▸ (acts_execTermRefuse s).mono rfl rfl
  | lastGasp => exact exec_lastGasp s ▸ (acts_execLastGasp s).mono rfl rfl
  | cmdPromote _ _ _ => exact exec_cmdPromote _ _ _ s ▸ (acts_execCmdPromote _ _ _ s).mono rfl rfl
  | stepDown _ _ _ => exact exec_stepDown _ _ _ s ▸ (acts_execStepDown _ _ _ s).mono rfl rfl
  | promotionLimit _ => exact exec_promotionLimit _ s ▸ (acts_execPromotionLimit _ s).mono rfl rfl
  | replicaSilent _ _ => exact exec_replicaSilent _ _ s ▸ (acts_execReplicaSilent _ _ s).mono rfl rfl
  | catchupWalk _ _ => exact exec_catchupWalk _ _ s ▸ (acts_execCatchupWalk _ _ s).mono rfl rfl
  | catchupSwitch _ _ => exact exec_catchupSwitch _ _ s ▸ (acts_execCatchupSwitch _ _ s).mono rfl rfl
  | slotValid _ _ _ => exact exec_slotValid _ _ _ s ▸ (acts_execSlotValid _ _ _ s).mono rfl rfl
  | lastGaspBudget _ => exact exec_lastGaspBudget _ s ▸ (acts_execLastGaspBudget _ s).mono rfl rfl
  | degradedFromClear _ _ _ => exact exec_degradedFromClear _ _ _ s ▸ (acts_execDegradedFromClear _ _ _ s).mono rfl rfl
  | channelTraining _ _ => exact exec_channelTraining _ _ s ▸ (acts_execChannelTraining _ _ s).mono rfl rfl
  | dramZeroing => exact exec_dramZeroing s ▸ (acts_execDramZeroing s).mono rfl rfl
  | mctDecodeWrite _ _ _ => exact exec_mctDecodeWrite _ _ _ s ▸ (acts_execMctDecodeWrite _ _ _ s).mono rfl rfl
  | mcRead _ _ _ _ => exact exec_mcRead _ _ _ _ s ▸ (acts_execMcRead _ _ _ _ s).mono rfl rfl
  | mcWrite _ _ _ _ _ _ _ _ _ => exact exec_mcWrite _ _ _ _ _ _ _ _ _ s ▸ (acts_execMcWrite _ _ _ _ _ _ _ _ _ s).mono rfl rfl
  | dramReadComplete _ _ _ _ => exact exec_dramReadComplete _ _ _ _ s ▸ (acts_execDramReadComplete _ _ _ _ s).mono rfl rfl
  | refresh _ _ _ => exact exec_refresh _ _ _ s ▸ (acts_execRefresh _ _ _ s).mono rfl rfl
  | zqcs _ _ => exact exec_zqcs _ _ s ▸ (acts_execZqcs _ _ s).mono rfl rfl
  | caParityFailure _ => exact exec_caParityFailure _ s ▸ (acts_execCaParityFailure _ s).mono rfl rfl
  | channelLost _ => exact exec_channelLost _ s ▸ (acts_execChannelLost _ s).mono rfl rfl
  | deviceErased _ _ _ => exact exec_deviceErased _ _ _ s ▸ (acts_execDeviceErased _ _ _ s).mono rfl rfl
  | pprApplied _ _ _ => exact exec_pprApplied _ _ _ s ▸ (acts_execPprApplied _ _ _ s).mono rfl rfl
  | rankSpared _ _ => exact exec_rankSpared _ _ s ▸ (acts_execRankSpared _ _ s).mono rfl rfl
  | rankCopyDone _ => exact exec_rankCopyDone _ s ▸ (acts_execRankCopyDone _ s).mono rfl rfl
  | patrolScrub _ _ _ => exact exec_patrolScrub _ _ _ s ▸ (acts_execPatrolScrub _ _ _ s).mono rfl rfl
  | selfRefreshEntry _ => exact exec_selfRefreshEntry _ s ▸ (acts_execSelfRefreshEntry _ s).mono rfl rfl
  | selfRefreshExit _ => exact exec_selfRefreshExit _ s ▸ (acts_execSelfRefreshExit _ s).mono rfl rfl
  | eccCountClear _ _ _ => exact exec_eccCountClear _ _ _ s ▸ (acts_execEccCountClear _ _ _ s).mono rfl rfl
  | pcieOutboundRequest _ _ _ _ => exact exec_pcieOutboundRequest _ _ _ _ s ▸ (acts_execPcieOutboundRequest _ _ _ _ s).mono rfl rfl
  | pcieCompletion _ _ _ _ _ => exact exec_pcieCompletion _ _ _ _ _ s ▸ (acts_execPcieCompletion _ _ _ _ _ s).mono rfl rfl
  | pcieCplTimeout _ _ => exact exec_pcieCplTimeout _ _ s ▸ (acts_execPcieCplTimeout _ _ s).mono rfl rfl
  | pcieInboundRequest _ _ _ _ _ _ _ _ _ _ => exact exec_pcieInboundRequest _ _ _ _ _ _ _ _ _ _ s ▸ (acts_execPcieInboundRequest _ _ _ _ _ _ _ _ _ _ s).mono rfl rfl
  | pcieLinkDown _ _ _ _ _ _ _ => exact exec_pcieLinkDown _ _ _ _ _ _ _ s ▸ (acts_execPcieLinkDown _ _ _ _ _ _ _ s).mono rfl rfl
  | pcieAer _ _ _ => exact exec_pcieAer _ _ _ s ▸ (acts_execPcieAer _ _ _ s).mono rfl rfl
  | perstRel _ _ _ _ => exact exec_perstRel _ _ _ _ s ▸ (acts_execPerstRel _ _ _ _ s).mono rfl rfl
  | invalPartition _ _ _ => exact exec_invalPartition _ _ _ s ▸ (acts_execInvalPartition _ _ _ s).mono rfl rfl
  | invalFatEntry _ _ _ => exact exec_invalFatEntry _ _ _ s ▸ (acts_execInvalFatEntry _ _ _ s).mono rfl rfl
  | invalVmid _ _ _ => exact exec_invalVmid _ _ _ s ▸ (acts_execInvalVmid _ _ _ s).mono rfl rfl
  | invalDone _ => exact exec_invalDone _ s ▸ (acts_execInvalDone _ s).mono rfl rfl
  | cphTail _ _ _ _ => exact exec_cphTail _ _ _ _ s ▸ (acts_execCphTail _ _ _ _ s).mono rfl rfl
  | descriptorFetch _ => exact exec_descriptorFetch _ s ▸ (acts_execDescriptorFetch _ s).mono rfl rfl
  | aesEncrypt _ _ _ => exact exec_aesEncrypt _ _ _ s ▸ (acts_execAesEncrypt _ _ _ s).mono rfl rfl
  | aesDecrypt _ _ _ => exact exec_aesDecrypt _ _ _ s ▸ (acts_execAesDecrypt _ _ _ s).mono rfl rfl
  | aesCmacGenerate _ _ _ => exact exec_aesCmacGenerate _ _ _ s ▸ (acts_execAesCmacGenerate _ _ _ s).mono rfl rfl
  | aesCmacVerify _ _ _ => exact exec_aesCmacVerify _ _ _ s ▸ (acts_execAesCmacVerify _ _ _ s).mono rfl rfl
  | tdesEncrypt _ _ _ => exact exec_tdesEncrypt _ _ _ s ▸ (acts_execTdesEncrypt _ _ _ s).mono rfl rfl
  | tdesDecrypt _ _ _ => exact exec_tdesDecrypt _ _ _ s ▸ (acts_execTdesDecrypt _ _ _ s).mono rfl rfl
  | retailMacGenerate _ _ _ => exact exec_retailMacGenerate _ _ _ s ▸ (acts_execRetailMacGenerate _ _ _ s).mono rfl rfl
  | retailMacVerify _ _ _ => exact exec_retailMacVerify _ _ _ s ▸ (acts_execRetailMacVerify _ _ _ s).mono rfl rfl
  | hash _ _ _ => exact exec_hash _ _ _ s ▸ (acts_execHash _ _ _ s).mono rfl rfl
  | hmacGenerate _ _ _ => exact exec_hmacGenerate _ _ _ s ▸ (acts_execHmacGenerate _ _ _ s).mono rfl rfl
  | hmacVerify _ _ _ => exact exec_hmacVerify _ _ _ s ▸ (acts_execHmacVerify _ _ _ s).mono rfl rfl
  | rsaVerify _ _ _ => exact exec_rsaVerify _ _ _ s ▸ (acts_execRsaVerify _ _ _ s).mono rfl rfl
  | rsaSign _ _ _ => exact exec_rsaSign _ _ _ s ▸ (acts_execRsaSign _ _ _ s).mono rfl rfl
  | ecdsaVerify _ _ _ => exact exec_ecdsaVerify _ _ _ s ▸ (acts_execEcdsaVerify _ _ _ s).mono rfl rfl
  | ecdsaSign _ _ _ => exact exec_ecdsaSign _ _ _ s ▸ (acts_execEcdsaSign _ _ _ s).mono rfl rfl
  | ed25519Verify _ _ _ => exact exec_ed25519Verify _ _ _ s ▸ (acts_execEd25519Verify _ _ _ s).mono rfl rfl
  | ed25519Sign _ _ _ => exact exec_ed25519Sign _ _ _ s ▸ (acts_execEd25519Sign _ _ _ s).mono rfl rfl
  | mlDsa65Verify _ _ _ => exact exec_mlDsa65Verify _ _ _ s ▸ (acts_execMlDsa65Verify _ _ _ s).mono rfl rfl
  | mlDsa65Sign _ _ _ => exact exec_mlDsa65Sign _ _ _ s ▸ (acts_execMlDsa65Sign _ _ _ s).mono rfl rfl
  | pinTranslate _ _ _ => exact exec_pinTranslate _ _ _ s ▸ (acts_execPinTranslate _ _ _ s).mono rfl rfl
  | dukptPinTranslate _ _ _ => exact exec_dukptPinTranslate _ _ _ s ▸ (acts_execDukptPinTranslate _ _ _ s).mono rfl rfl
  | dukptMacVerify _ _ _ => exact exec_dukptMacVerify _ _ _ s ▸ (acts_execDukptMacVerify _ _ _ s).mono rfl rfl
  | cryptogramVerify _ _ _ => exact exec_cryptogramVerify _ _ _ s ▸ (acts_execCryptogramVerify _ _ _ s).mono rfl rfl
  | random _ _ _ => exact exec_random _ _ _ s ▸ (acts_execRandom _ _ _ s).mono rfl rfl
  | jobComplete _ _ _ => exact exec_jobComplete _ _ _ s ▸ (acts_execJobComplete _ _ _ s).mono rfl rfl
  | cipherSelftest _ _ => exact exec_cipherSelftest _ _ s ▸ (acts_execCipherSelftest _ _ s).mono rfl rfl
  | wpcSyncGo _ _ => exact exec_wpcSyncGo _ _ s ▸ (acts_execWpcSyncGo _ _ s).mono rfl rfl
  | wpcSyncDone => exact exec_wpcSyncDone s ▸ (acts_execWpcSyncDone s).mono rfl rfl
  | lock _ _ => exact exec_lock _ _ s ▸ (acts_execLock _ _ s).mono rfl rfl
  | reset _ _ _ => exact exec_reset _ _ _ s ▸ (acts_execReset _ _ _ s).mono rfl rfl
  | release _ _ _ => exact exec_release _ _ _ s ▸ (acts_execRelease _ _ _ s).mono rfl rfl
  | partitionReset _ => exact exec_partitionReset _ s ▸ (acts_execPartitionReset _ s).mono rfl rfl
  | partitionFlushDone _ => exact exec_partitionFlushDone _ s ▸ (acts_execPartitionFlushDone _ s).mono rfl rfl
  | flushLimit _ => exact exec_flushLimit _ s ▸ (acts_execFlushLimit _ s).mono rfl rfl
  | wcall _ _ => exact exec_wcall _ _ s ▸ (acts_execWcall _ _ s).mono rfl rfl
  | wcallVersion _ => exact exec_wcallVersion _ s ▸ (acts_execWcallVersion _ s).mono rfl rfl
  | pairBind _ => exact exec_pairBind _ s ▸ (acts_execPairBind _ s).mono rfl rfl
  | pairUnbind _ => exact exec_pairUnbind _ s ▸ (acts_execPairUnbind _ s).mono rfl rfl
  | partResetSelf _ => exact exec_partResetSelf _ s ▸ (acts_execPartResetSelf _ s).mono rfl rfl
  | sourcePending _ _ => exact exec_sourcePending _ _ s ▸ (acts_execSourcePending _ _ s).mono rfl rfl
  | messageInterrupt _ _ _ => exact exec_messageInterrupt _ _ _ s ▸ (acts_execMessageInterrupt _ _ _ s).mono rfl rfl
  | evrTgtClaim _ _ _ => exact exec_evrTgtClaim _ _ _ s ▸ (acts_execEvrTgtClaim _ _ _ s).mono rfl rfl
  | evrTgtEoi _ _ _ _ => exact exec_evrTgtEoi _ _ _ _ s ▸ (acts_execEvrTgtEoi _ _ _ _ s).mono rfl rfl
  | evrTgtInject _ _ _ _ => exact exec_evrTgtInject _ _ _ _ s ▸ (acts_execEvrTgtInject _ _ _ _ s).mono rfl rfl
  | evrSrcCfgWrite _ _ _ => exact exec_evrSrcCfgWrite _ _ _ s ▸ (acts_execEvrSrcCfgWrite _ _ _ s).mono rfl rfl
  | nmiEntry _ => exact exec_nmiEntry _ s ▸ (acts_execNmiEntry _ s).mono rfl rfl
  | keyGenerate _ _ _ _ _ _ _ => exact exec_keyGenerate _ _ _ _ _ _ _ s ▸ (acts_execKeyGenerate _ _ _ _ _ _ _ s).mono rfl rfl
  | keyImport _ _ _ _ _ _ _ => exact exec_keyImport _ _ _ _ _ _ _ s ▸ (acts_execKeyImport _ _ _ _ _ _ _ s).mono rfl rfl
  | keyExport _ _ _ => exact exec_keyExport _ _ _ s ▸ (acts_execKeyExport _ _ _ s).mono rfl rfl
  | keyDelete _ _ => exact exec_keyDelete _ _ s ▸ (acts_execKeyDelete _ _ s).mono rfl rfl
  | keyInfo _ _ => exact exec_keyInfo _ _ s ▸ (acts_execKeyInfo _ _ s).mono rfl rfl
  | fmKeySet _ _ => exact exec_fmKeySet _ _ s ▸ (acts_execFmKeySet _ _ s).mono rfl rfl
  | imageArm _ _ _ _ _ => exact exec_imageArm _ _ _ _ _ s ▸ (acts_execImageArm _ _ _ _ _ s).mono rfl rfl
  | trialConfirm _ _ _ => exact exec_trialConfirm _ _ _ s ▸ (acts_execTrialConfirm _ _ _ s).mono rfl rfl
  | revokeImageKey _ _ _ => exact exec_revokeImageKey _ _ _ s ▸ (acts_execRevokeImageKey _ _ _ s).mono rfl rfl
  | revokeDebugKey _ _ _ => exact exec_revokeDebugKey _ _ _ s ▸ (acts_execRevokeDebugKey _ _ _ s).mono rfl rfl
  | lcAdvance _ _ _ => exact exec_lcAdvance _ _ _ s ▸ (acts_execLcAdvance _ _ _ s).mono rfl rfl
  | keystoreErase _ => exact exec_keystoreErase _ s ▸ (acts_execKeystoreErase _ s).mono rfl rfl
  | attest _ _ => exact exec_attest _ _ s ▸ (acts_execAttest _ _ s).mono rfl rfl
  | tamper _ => exact exec_tamper _ s ▸ (acts_execTamper _ s).mono rfl rfl
  | spBoot _ _ => exact exec_spBoot _ _ s ▸ (acts_execSpBoot _ _ s).mono rfl rfl
  | trialWatchdogWarning => exact exec_trialWatchdogWarning s ▸ (acts_execTrialWatchdogWarning s).mono rfl rfl
  | trialWatchdogExpiry => exact exec_trialWatchdogExpiry s ▸ (acts_execTrialWatchdogExpiry s).mono rfl rfl
  | chunk _ _ => exact exec_chunk _ _ s ▸ (acts_execChunk _ _ s).mono rfl rfl
  | finish _ _ => exact exec_finish _ _ s ▸ (acts_execFinish _ _ s).mono rfl rfl
  | rcvAbort _ => exact exec_rcvAbort _ s ▸ (acts_execAbort _ s).mono rfl rfl
  | fabricRecovery _ _ _ _ _ => exact exec_fabricRecovery _ _ _ _ _ s ▸ (acts_execFabricRecovery _ _ _ _ _ s).mono rfl rfl
  | powerOnReset _ => exact exec_powerOnReset _ s ▸ (acts_execPowerOnReset _ s).mono rfl rfl
  | systemReset _ => exact exec_systemReset _ s ▸ (acts_execSystemReset _ s).mono rfl rfl
  | coreReset _ => exact exec_coreReset _ s ▸ (acts_execCoreReset _ s).mono rfl rfl
  | blockReset _ => exact exec_blockReset _ s ▸ (acts_execBlockReset _ s).mono rfl rfl
  | resetInN _ => exact exec_resetInN _ s ▸ (acts_execResetInN _ s).mono rfl rfl
  | pwrgood _ _ => exact exec_pwrgood _ _ s ▸ (acts_execPwrgood _ _ s).mono rfl rfl
  | thermtrip => exact exec_thermtrip s ▸ (acts_execThermtrip s).mono rfl rfl
  | resetHoldEnd => exact exec_resetHoldEnd s ▸ (acts_execResetHoldEnd s).mono rfl rfl
  | domainRelease _ _ => exact exec_domainRelease _ _ s ▸ (acts_execDomainRelease _ _ s).mono rfl rfl
  | optionLoading _ _ => exact exec_optionLoading _ _ s ▸ (acts_execOptionLoading _ _ s).mono rfl rfl
  | lockLoss _ => exact exec_lockLoss _ s ▸ (acts_execLockLoss _ s).mono rfl rfl
  | regulatorFault _ _ => exact exec_regulatorFault _ _ s ▸ (acts_execRegulatorFault _ _ s).mono rfl rfl
  | railNearEdge _ => exact exec_railNearEdge _ s ▸ (acts_execRailNearEdge _ s).mono rfl rfl
  | vbakLost => exact exec_vbakLost s ▸ (acts_execVbakLost s).mono rfl rfl
  | powerFailWarning => exact exec_powerFailWarning s ▸ (acts_execPowerFailWarning s).mono rfl rfl
  | prochotN _ => exact exec_prochotN _ s ▸ (acts_execProchotN _ s).mono rfl rfl
  | throttleEntry _ _ => exact exec_throttleEntry _ _ s ▸ (acts_execThrottleEntry _ _ s).mono rfl rfl
  | throttleExit _ _ => exact exec_throttleExit _ _ s ▸ (acts_execThrottleExit _ _ s).mono rfl rfl
  | target _ _ _ => exact exec_target _ _ _ s ▸ (acts_execTarget _ _ _ s).mono rfl rfl
  | pstateChangeDone _ => exact exec_pstateChangeDone _ s ▸ (acts_execPstateChangeDone _ s).mono rfl rfl
  | pwrOn _ _ _ => exact exec_pwrOn _ _ _ s ▸ (acts_execPwrOn _ _ _ s).mono rfl rfl
  | powerGateDone _ => exact exec_powerGateDone _ s ▸ (acts_execPowerGateDone _ s).mono rfl rfl
  | corePowerGate _ => exact exec_corePowerGate _ s ▸ (acts_execCorePowerGate _ s).mono rfl rfl
  | packageIdleEntry => exact exec_packageIdleEntry s ▸ (acts_execPackageIdleEntry s).mono rfl rfl
  | packageIdleExit => exact exec_packageIdleExit s ▸ (acts_execPackageIdleExit s).mono rfl rfl
  | kick _ _ _ => exact exec_kick _ _ _ s ▸ (acts_execKick _ _ _ s).mono rfl rfl
  | watchdogHalf _ => exact exec_watchdogHalf _ s ▸ (acts_execWatchdogHalf _ s).mono rfl rfl
  | watchdogExpiry _ => exact exec_watchdogExpiry _ s ▸ (acts_execWatchdogExpiry _ s).mono rfl rfl
  | clearCauses _ _ => exact exec_clearCauses _ _ s ▸ (acts_execClearCauses _ _ s).mono rfl rfl
  | rtcWrite _ _ => exact exec_rtcWrite _ _ s ▸ (acts_execRtcWrite _ _ s).mono rfl rfl
  | ring _ _ _ => exact exec_ring _ _ _ s ▸ (acts_execRing _ _ _ s).mono rfl rfl
  | mbxAck _ _ _ => exact exec_mbxAck _ _ _ s ▸ (acts_execMbxAck _ _ _ s).mono rfl rfl
  | commandFinished _ => exact exec_commandFinished _ s ▸ (acts_execCommandFinished _ s).mono rfl rfl
  | operationFinished _ _ => exact exec_operationFinished _ _ s ▸ (acts_execOperationFinished _ _ s).mono rfl rfl
  | featuresGet _ => exact exec_featuresGet _ s ▸ (acts_execFeaturesGet _ s).mono rfl rfl
  | featuresSet _ => exact exec_featuresSet _ s ▸ (acts_execFeaturesSet _ s).mono rfl rfl
  | opStatus _ => exact exec_opStatus _ s ▸ (acts_execOpStatus _ s).mono rfl rfl
  | version _ => exact exec_version _ s ▸ (acts_execVersion _ s).mono rfl rfl
  | pstateSet _ => exact exec_pstateSet _ s ▸ (acts_execPstateSet _ s).mono rfl rfl
  | pstateGet _ => exact exec_pstateGet _ s ▸ (acts_execPstateGet _ s).mono rfl rfl
  | blockPower _ => exact exec_blockPower _ s ▸ (acts_execBlockPower _ s).mono rfl rfl
  | idlePolicy _ => exact exec_idlePolicy _ s ▸ (acts_execIdlePolicy _ s).mono rfl rfl
  | powerRead _ _ => exact exec_powerRead _ _ s ▸ (acts_execPowerRead _ _ s).mono rfl rfl
  | errlogRead _ => exact exec_errlogRead _ s ▸ (acts_execErrlogRead _ s).mono rfl rfl
  | sparesGet _ => exact exec_sparesGet _ s ▸ (acts_execSparesGet _ s).mono rfl rfl
  | ageingGet _ => exact exec_ageingGet _ s ▸ (acts_execAgeingGet _ s).mono rfl rfl
  | coreSwap _ => exact exec_coreSwap _ s ▸ (acts_execCoreSwap _ s).mono rfl rfl
  | partReset _ => exact exec_partReset _ s ▸ (acts_execPartReset _ s).mono rfl rfl
  | hartRelease _ => exact exec_hartRelease _ s ▸ (acts_execHartRelease _ s).mono rfl rfl
  | partStatus _ => exact exec_partStatus _ s ▸ (acts_execPartStatus _ s).mono rfl rfl
  | wtAssign _ => exact exec_wtAssign _ s ▸ (acts_execWtAssign _ s).mono rfl rfl
  | ownerSet _ => exact exec_ownerSet _ s ▸ (acts_execOwnerSet _ s).mono rfl rfl
  | routeSet _ => exact exec_routeSet _ s ▸ (acts_execRouteSet _ s).mono rfl rfl
  | portSet _ => exact exec_portSet _ s ▸ (acts_execPortSet _ s).mono rfl rfl
  | portGet _ => exact exec_portGet _ s ▸ (acts_execPortGet _ s).mono rfl rfl
  | nodeSet _ => exact exec_nodeSet _ s ▸ (acts_execNodeSet _ s).mono rfl rfl
  | replCfg _ => exact exec_replCfg _ s ▸ (acts_execReplCfg _ s).mono rfl rfl
  | promote _ => exact exec_promote _ s ▸ (acts_execPromote _ s).mono rfl rfl
  | mbxStepDown _ => exact exec_mbxStepDown _ s ▸ (acts_execMbxStepDown _ s).mono rfl rfl
  | slotArm _ => exact exec_slotArm _ s ▸ (acts_execSlotArm _ s).mono rfl rfl
  | slotDisarm _ => exact exec_slotDisarm _ s ▸ (acts_execSlotDisarm _ s).mono rfl rfl
  | replGet _ => exact exec_replGet _ s ▸ (acts_execReplGet _ s).mono rfl rfl
  | ladleSet _ => exact exec_ladleSet _ s ▸ (acts_execLadleSet _ s).mono rfl rfl
  | imageWrite _ => exact exec_imageWrite _ s ▸ (acts_execImageWrite _ s).mono rfl rfl
  | mbxImageArm _ _ => exact exec_mbxImageArm _ _ s ▸ (acts_execMbxImageArm _ _ s).mono rfl rfl
  | mbxTrialConfirm _ _ _ => exact exec_mbxTrialConfirm _ _ _ s ▸ (acts_execMbxTrialConfirm _ _ _ s).mono rfl rfl
  | mbxRevokeImageKey _ _ => exact exec_mbxRevokeImageKey _ _ s ▸ (acts_execMbxRevokeImageKey _ _ s).mono rfl rfl
  | mbxAttest _ => exact exec_mbxAttest _ s ▸ (acts_execMbxAttest _ s).mono rfl rfl
  | timeGet _ => exact exec_timeGet _ s ▸ (acts_execTimeGet _ s).mono rfl rfl
  | rtcSet _ => exact exec_rtcSet _ s ▸ (acts_execRtcSet _ s).mono rfl rfl
  | errorRecord _ _ _ _ _ _ => exact exec_errorRecord _ _ _ _ _ _ s ▸ (acts_execErrorRecord _ _ _ _ _ _ s).mono rfl rfl
  | macenRestart _ => exact exec_macenRestart _ s ▸ (acts_execMacenRestart _ s).mono rfl rfl
  | writeWord _ _ => exact exec_writeWord _ _ s ▸ (acts_execWriteWord _ _ s).mono rfl rfl
  | blockWrite _ _ => exact exec_blockWrite _ _ s ▸ (acts_execBlockWrite _ _ s).mono rfl rfl
  | blockRead _ => exact exec_blockRead _ s ▸ (acts_execBlockRead _ s).mono rfl rfl
  | writeByte _ _ => exact exec_writeByte _ _ s ▸ (acts_execWriteByte _ _ s).mono rfl rfl
  | smbusTimeout => exact exec_smbusTimeout s ▸ (acts_execSmbusTimeout s).mono rfl rfl
  | ageingSample _ => exact exec_ageingSample _ s ▸ (acts_execAgeingSample _ s).mono rfl rfl
  | liveCoreSwap _ => exact exec_liveCoreSwap _ s ▸ (acts_execLiveCoreSwap _ s).mono rfl rfl
  | swapSparePowered _ => exact exec_swapSparePowered _ s ▸ (acts_execSwapSparePowered _ s).mono rfl rfl
  | swapInReset _ => exact exec_swapInReset _ s ▸ (acts_execSwapInReset _ s).mono rfl rfl
  | oldSlotGated _ => exact exec_oldSlotGated _ s ▸ (acts_execOldSlotGated _ s).mono rfl rfl
  | repairLogAppend _ => exact exec_repairLogAppend _ s ▸ (acts_execRepairLogAppend _ s).mono rfl rfl
  | sramRowSpare _ _ _ => exact exec_sramRowSpare _ _ _ s ▸ (acts_execSramRowSpare _ _ _ s).mono rfl rfl
  | coreArrayRowSpare _ _ _ => exact exec_coreArrayRowSpare _ _ _ s ▸ (acts_execCoreArrayRowSpare _ _ _ s).mono rfl rfl
  | spdLogWrite _ _ _ _ _ _ _ => exact exec_spdLogWrite _ _ _ _ _ _ _ s ▸ (acts_execSpdLogWrite _ _ _ _ _ _ _ s).mono rfl rfl
  | idcode => exact exec_idcode s ▸ (acts_execIdcode s).mono rfl rfl
  | samplePreload _ _ => exact exec_samplePreload _ _ s ▸ (acts_execSamplePreload _ _ s).mono rfl rfl
  | extest => exact exec_extest s ▸ (acts_execExtest s).mono rfl rfl
  | dbgacc _ _ _ => exact exec_dbgacc _ _ _ s ▸ (acts_execDbgacc _ _ _ s).mono rfl rfl
  | lcCmd _ _ => exact exec_lcCmd _ _ s ▸ (acts_execLcCmd _ _ s).mono rfl rfl
  | bypass => exact exec_bypass s ▸ (acts_execBypass s).mono rfl rfl
  | tapReset => exact exec_tapReset s ▸ (acts_execTapReset s).mono rfl rfl
  | verify _ _ => exact exec_verify _ _ s ▸ (acts_execVerify _ _ s).mono rfl rfl
  | verifyComplete _ => exact exec_verifyComplete _ s ▸ (acts_execVerifyComplete _ s).mono rfl rfl
  | dbgEnd _ _ => exact exec_dbgEnd _ _ s ▸ (acts_execEnd _ _ s).mono rfl rfl
  | debugSystemReset _ _ => exact exec_debugSystemReset _ _ s ▸ (acts_execDebugSystemReset _ _ s).mono rfl rfl
  | haltHart _ _ _ => exact exec_haltHart _ _ _ s ▸ (acts_execHalt _ _ _ s).mono rfl rfl
  | haltTaken _ => exact exec_haltTaken _ s ▸ (acts_execHaltTaken _ s).mono rfl rfl
  | debugResume _ _ _ => exact exec_debugResume _ _ _ s ▸ (acts_execDebugResume _ _ _ s).mono rfl rfl
  | stepHart _ _ _ => exact exec_stepHart _ _ _ s ▸ (acts_execStep _ _ _ s).mono rfl rfl
  | debugCoreReset _ _ _ => exact exec_debugCoreReset _ _ _ s ▸ (acts_execDebugCoreReset _ _ _ s).mono rfl rfl
  | regdataAccess _ _ _ => exact exec_regdataAccess _ _ _ s ▸ (acts_execRegdataAccess _ _ _ s).mono rfl rfl
  | goCmd _ _ => exact exec_goCmd _ _ s ▸ (acts_execGo _ _ s).mono rfl rfl
  | debugAccessComplete => exact exec_debugAccessComplete s ▸ (acts_execDebugAccessComplete s).mono rfl rfl
  | freezeRelease _ => exact exec_freezeRelease _ s ▸ (acts_execFreezeRelease _ s).mono rfl rfl
  | vtTx _ _ _ _ => exact exec_vtTx _ _ _ _ s ▸ (acts_execVtTx _ _ _ _ s).mono rfl rfl
  | vtRx _ _ _ _ => exact exec_vtRx _ _ _ _ s ▸ (acts_execVtRx _ _ _ _ s).mono rfl rfl
  | traceSync => exact exec_traceSync s ▸ (acts_execTraceSync s).mono rfl rfl
  | ladleTick => exact exec_ladleTick s ▸ (acts_execLadleTick s).mono rfl rfl
  | ladleRecord => exact exec_ladleRecord s ▸ (acts_execLadleRecord s).mono rfl rfl
  | uartTransmit _ _ _ => exact exec_uartTransmit _ _ _ s ▸ (acts_execUartTransmit _ _ _ s).mono rfl rfl
  | uartReceiveRead _ _ => exact exec_uartReceiveRead _ _ s ▸ (acts_execUartReceiveRead _ _ s).mono rfl rfl
  | uartCharacter _ _ _ => exact exec_uartCharacter _ _ _ s ▸ (acts_execUartCharacter _ _ _ s).mono rfl rfl
  | pllRelock _ => exact exec_pllRelock _ s ▸ (acts_execPllRelock _ s).mono rfl rfl
  | pfwNRelease => exact exec_pfwNRelease s ▸ (acts_execPfwNRelease s).mono rfl rfl
  | secondaryBusResetEnd _ _ => exact exec_secondaryBusResetEnd _ _ s ▸ (acts_execSecondaryBusResetEnd _ _ s).mono rfl rfl
  | powerUpDone _ => exact exec_powerUpDone _ s ▸ (acts_execPowerUpDone _ s).mono rfl rfl
  | uartCharacterSent _ => exact exec_uartCharacterSent _ s ▸ (acts_execUartCharacterSent _ s).mono rfl rfl
  | dimmTemperature _ _ _ => exact exec_dimmTemperature _ _ _ s ▸ (acts_execDimmTemperature _ _ _ s).mono rfl rfl

end Sys2Proof.Machine
end

