-- ==== Sys2Proof/Laws/Only.lean ====
section
/-! SUPPORT. From the bounds of Acts.lean to the frames of Frames.lean. -/

namespace Sys2Proof.Machine

open Sys2Proof

/-- The bit of a part in the bounds of `Acts`. -/
def Part.ix : Part → Nat
  | .pending => 0
  | .free => 1
  | .stamp => 2
  | .dtime => 3
  | .rsp => 5
  | .cores => 6
  | .mem => 7
  | .memPoison => 8
  | .chans => 9
  | .mcRsp => 10
  | .opt => 11
  | .bootSrc => 12
  | .recovSel => 13
  | .l3 => 14
  | .depvb => 15
  | .sieve => 16
  | .trk => 17
  | .fair => 18
  | .slots => 19
  | .agentReqs => 20
  | .ghosts => 21
  | .mesh => 22
  | .txns => 23
  | .linkStopped => 24
  | .lidHeld => 25
  | .pfw => 26
  | .wtCache => 27
  | .hartPart => 28
  | .pairs => 29
  | .spn => 30
  | .spnChanged => 31
  | .jrnRes => 32
  | .jrnRecs => 33
  | .pubs => 34
  | .pubFlits => 35
  | .repl => 36
  | .ports => 37
  | .fabIn => 38
  | .fabRem => 39
  | .fabDropped => 40
  | .remote => 41
  | .sqNext => 42
  | .sqDone => 43
  | .slew => 44
  | .slewAcc => 45
  | .pcieTags => 46
  | .pcieOut => 47
  | .pcieCpl => 48
  | .portReset => 49
  | .pcieLate => 50
  | .msiLost => 51
  | .ctxCache => 52
  | .ioTlb => 53
  | .jobs => 54
  | .cphTurn => 55
  | .cphKeys => 56
  | .keys => 57
  | .keyNext => 58
  | .keyFreed => 59
  | .srcHigh => 60
  | .pend => 61
  | .inServ => 62
  | .nmiTaken => 63
  | .records => 64
  | .limits => 65
  | .withheld => 66
  | .errorN => 67
  | .rstLevel => 68
  | .relStep => 69
  | .railOut => 70
  | .pwrgood => 71
  | .resetInLow => 72
  | .prochotLow => 73
  | .thermtrip => 74
  | .readyPin => 75
  | .unlocked => 76
  | .regFailed => 77
  | .pGoal => 78
  | .pStop => 79
  | .pkgIdle => 80
  | .rtcAcc => 81
  | .partStep => 82
  | .fuses => 83
  | .rcv => 84
  | .bootStep => 85
  | .flash => 86
  | .ksCopy => 87
  | .kek => 88
  | .ksErased => 89
  | .fmKeys => 90
  | .boot => 91
  | .spRsp => 92
  | .evidence => 93
  | .mac => 94
  | .pages => 95
  | .spd => 96
  | .traceBuf => 97
  | .snaps => 98
  | .cnt => 99
  | .ldl => 100
  | .dbg => 101
  | .lsio => 102
  | .wdogNs => 103
  | .cycAcc => 104

/-- The part with a bit. -/
def Part.ofIx : Nat → Part
  | 0 => .pending
  | 1 => .free
  | 2 => .stamp
  | 3 => .dtime
  | 5 => .rsp
  | 6 => .cores
  | 7 => .mem
  | 8 => .memPoison
  | 9 => .chans
  | 10 => .mcRsp
  | 11 => .opt
  | 12 => .bootSrc
  | 13 => .recovSel
  | 14 => .l3
  | 15 => .depvb
  | 16 => .sieve
  | 17 => .trk
  | 18 => .fair
  | 19 => .slots
  | 20 => .agentReqs
  | 21 => .ghosts
  | 22 => .mesh
  | 23 => .txns
  | 24 => .linkStopped
  | 25 => .lidHeld
  | 26 => .pfw
  | 27 => .wtCache
  | 28 => .hartPart
  | 29 => .pairs
  | 30 => .spn
  | 31 => .spnChanged
  | 32 => .jrnRes
  | 33 => .jrnRecs
  | 34 => .pubs
  | 35 => .pubFlits
  | 36 => .repl
  | 37 => .ports
  | 38 => .fabIn
  | 39 => .fabRem
  | 40 => .fabDropped
  | 41 => .remote
  | 42 => .sqNext
  | 43 => .sqDone
  | 44 => .slew
  | 45 => .slewAcc
  | 46 => .pcieTags
  | 47 => .pcieOut
  | 48 => .pcieCpl
  | 49 => .portReset
  | 50 => .pcieLate
  | 51 => .msiLost
  | 52 => .ctxCache
  | 53 => .ioTlb
  | 54 => .jobs
  | 55 => .cphTurn
  | 56 => .cphKeys
  | 57 => .keys
  | 58 => .keyNext
  | 59 => .keyFreed
  | 60 => .srcHigh
  | 61 => .pend
  | 62 => .inServ
  | 63 => .nmiTaken
  | 64 => .records
  | 65 => .limits
  | 66 => .withheld
  | 67 => .errorN
  | 68 => .rstLevel
  | 69 => .relStep
  | 70 => .railOut
  | 71 => .pwrgood
  | 72 => .resetInLow
  | 73 => .prochotLow
  | 74 => .thermtrip
  | 75 => .readyPin
  | 76 => .unlocked
  | 77 => .regFailed
  | 78 => .pGoal
  | 79 => .pStop
  | 80 => .pkgIdle
  | 81 => .rtcAcc
  | 82 => .partStep
  | 83 => .fuses
  | 84 => .rcv
  | 85 => .bootStep
  | 86 => .flash
  | 87 => .ksCopy
  | 88 => .kek
  | 89 => .ksErased
  | 90 => .fmKeys
  | 91 => .boot
  | 92 => .spRsp
  | 93 => .evidence
  | 94 => .mac
  | 95 => .pages
  | 96 => .spd
  | 97 => .traceBuf
  | 98 => .snaps
  | 99 => .cnt
  | 100 => .ldl
  | 101 => .dbg
  | 102 => .lsio
  | 103 => .wdogNs
  | _ => .cycAcc

theorem Part.ofIx_ix (p : Part) : Part.ofIx p.ix = p := by cases p <;> rfl

theorem Part.ix_inj {p q : Part} (h : p.ix = q.ix) : p = q := by
  rw [← Part.ofIx_ix p, ← Part.ofIx_ix q, h]

/-- The bounds that lists of parts and of registers stand for; bit 4 is that of the registers. -/
def maskP (ps : List Part) : Nat := ps.foldr (fun p m => 2 ^ p.ix ||| m) 16
def maskR (rs : List RegId) : Nat := rs.foldr (fun r m => 2 ^ r.num ||| m) 0

theorem maskP_testBit {ps : List Part} {p : Part} (h : p ∉ ps) : (maskP ps).testBit p.ix = false := by
  induction ps with
  | nil => cases p <;> rfl
  | cons q l ih =>
    have h1 : p ≠ q := fun e => h (e ▸ List.mem_cons_self)
    have h2 : p ∉ l := fun e => h (List.mem_cons_of_mem _ e)
    show (2 ^ q.ix ||| maskP l).testBit p.ix = false
    rw [Nat.testBit_or, ih h2, Nat.testBit_two_pow, Bool.or_false]
    refine decide_eq_false fun e => h1 ?_
    exact (Part.ix_inj e).symm

theorem maskR_testBit {rs : List RegId} {r : RegId} (h : r ∉ rs) : (maskR rs).testBit r.num = false := by
  induction rs with
  | nil => exact Nat.zero_testBit _
  | cons q l ih =>
    have h1 : r ≠ q := fun e => h (e ▸ List.mem_cons_self)
    have h2 : r ∉ l := fun e => h (List.mem_cons_of_mem _ e)
    show (2 ^ q.num ||| maskR l).testBit r.num = false
    rw [Nat.testBit_or, ih h2, Nat.testBit_two_pow, Bool.or_false]
    exact decide_eq_false fun e => h1 (RegId.num_inj e).symm

theorem Acts.part {L R : Nat} {s t : State} (h : Acts L R s t) (p : Part) (hp : L.testBit p.ix = false) : p.same s t := by
  cases p
  · exact h.pending hp
  · exact h.free hp
  · exact h.stamp hp
  · exact h.dtime hp
  · exact h.rsp hp
  · exact h.cores hp
  · exact h.mem hp
  · exact h.memPoison hp
  · exact h.chans hp
  · exact h.mcRsp hp
  · exact h.opt hp
  · exact h.bootSrc hp
  · exact h.recovSel hp
  · exact h.l3 hp
  · exact h.depvb hp
  · exact h.sieve hp
  · exact h.trk hp
  · exact h.fair hp
  · exact h.slots hp
  · exact h.agentReqs hp
  · exact h.ghosts hp
  · exact h.mesh hp
  · exact h.txns hp
  · exact h.linkStopped hp
  · exact h.lidHeld hp
  · exact h.pfw hp
  · exact h.wtCache hp
  · exact h.hartPart hp
  · exact h.pairs hp
  · exact h.spn hp
  · exact h.spnChanged hp
  · exact h.jrnRes hp
  · exact h.jrnRecs hp
  · exact h.pubs hp
  · exact h.pubFlits hp
  · exact h.repl hp
  · exact h.ports hp
  · exact h.fabIn hp
  · exact h.fabRem hp
  · exact h.fabDropped hp
  · exact h.remote hp
  · exact h.sqNext hp
  · exact h.sqDone hp
  · exact h.slew hp
  · exact h.slewAcc hp
  · exact h.pcieTags hp
  · exact h.pcieOut hp
  · exact h.pcieCpl hp
  · exact h.portReset hp
  · exact h.pcieLate hp
  · exact h.msiLost hp
  · exact h.ctxCache hp
  · exact h.ioTlb hp
  · exact h.jobs hp
  · exact h.cphTurn hp
  · exact h.cphKeys hp
  · exact h.keys hp
  · exact h.keyNext hp
  · exact h.keyFreed hp
  · exact h.srcHigh hp
  · exact h.pend hp
  · exact h.inServ hp
  · exact h.nmiTaken hp
  · exact h.records hp
  · exact h.limits hp
  · exact h.withheld hp
  · exact h.errorN hp
  · exact h.rstLevel hp
  · exact h.relStep hp
  · exact h.railOut hp
  · exact h.pwrgood hp
  · exact h.resetInLow hp
  · exact h.prochotLow hp
  · exact h.thermtrip hp
  · exact h.readyPin hp
  · exact h.unlocked hp
  · exact h.regFailed hp
  · exact h.pGoal hp
  · exact h.pStop hp
  · exact h.pkgIdle hp
  · exact h.rtcAcc hp
  · exact h.partStep hp
  · exact h.fuses hp
  · exact h.rcv hp
  · exact h.bootStep hp
  · exact h.flash hp
  · exact h.ksCopy hp
  · exact h.kek hp
  · exact h.ksErased hp
  · exact h.fmKeys hp
  · exact h.boot hp
  · exact h.spRsp hp
  · exact h.evidence hp
  · exact h.mac hp
  · exact h.pages hp
  · exact h.spd hp
  · exact h.traceBuf hp
  · exact h.snaps hp
  · exact h.cnt hp
  · exact h.ldl hp
  · exact h.dbg hp
  · exact h.lsio hp
  · exact h.wdogNs hp
  · exact h.cycAcc hp

/-- A bound is a frame. -/
theorem Only.of_acts {ps : List Part} {rs : List RegId} {s t : State} (h : Acts (maskP ps) (maskR rs) s t) : Only ps rs s t :=
  ⟨fun p hp => h.part p (maskP_testBit hp), fun r hr i => h.reg r i (maskR_testBit hr)⟩

/-- A field of a register outside the bound reads as before. -/
theorem Acts.fld {L R : Nat} {s t : State} (h : Acts L R s t) (F : Fld) (i : Nat) (hF : R.testBit F.reg.num = false) :
    t.fld F i = s.fld F i := by
  unfold State.fld
  rw [h.reg _ _ hF]

theorem Acts.core {L R : Nat} {s t : State} (h : Acts L R s t) (c : Nat) (hL : L.testBit 6 = false) : t.core c = s.core c := by
  unfold State.core
  rw [h.cores hL]

end Sys2Proof.Machine
end

