-- ==== Sys2Proof/Laws/State.lean ====
section
/-! SUPPORT. What the shared updates of a state leave alone, one lemma for each field and update, for `simp`. The lemmas on registers
have the side condition that the register is not among those that the update may write; `decide` settles it for a register by name. -/

namespace Sys2Proof.Machine

open Sys2Proof

@[simp] theorem State.wr_pending (s : State) (r : RegId) (i : Nat) (v : W) : (State.wr s r i v).pending = s.pending := rfl
@[simp] theorem State.wr_free (s : State) (r : RegId) (i : Nat) (v : W) : (State.wr s r i v).free = s.free := rfl
@[simp] theorem State.wr_stamp (s : State) (r : RegId) (i : Nat) (v : W) : (State.wr s r i v).stamp = s.stamp := rfl
@[simp] theorem State.wr_dtime (s : State) (r : RegId) (i : Nat) (v : W) : (State.wr s r i v).dtime = s.dtime := rfl
@[simp] theorem State.wr_rsp (s : State) (r : RegId) (i : Nat) (v : W) : (State.wr s r i v).rsp = s.rsp := rfl
@[simp] theorem State.wr_cores (s : State) (r : RegId) (i : Nat) (v : W) : (State.wr s r i v).cores = s.cores := rfl
@[simp] theorem State.wr_mem (s : State) (r : RegId) (i : Nat) (v : W) : (State.wr s r i v).mem = s.mem := rfl
@[simp] theorem State.wr_memPoison (s : State) (r : RegId) (i : Nat) (v : W) : (State.wr s r i v).memPoison = s.memPoison := rfl
@[simp] theorem State.wr_chans (s : State) (r : RegId) (i : Nat) (v : W) : (State.wr s r i v).chans = s.chans := rfl
@[simp] theorem State.wr_mcRsp (s : State) (r : RegId) (i : Nat) (v : W) : (State.wr s r i v).mcRsp = s.mcRsp := rfl
@[simp] theorem State.wr_opt (s : State) (r : RegId) (i : Nat) (v : W) : (State.wr s r i v).opt = s.opt := rfl
@[simp] theorem State.wr_bootSrc (s : State) (r : RegId) (i : Nat) (v : W) : (State.wr s r i v).bootSrc = s.bootSrc := rfl
@[simp] theorem State.wr_recovSel (s : State) (r : RegId) (i : Nat) (v : W) : (State.wr s r i v).recovSel = s.recovSel := rfl
@[simp] theorem State.wr_l3 (s : State) (r : RegId) (i : Nat) (v : W) : (State.wr s r i v).l3 = s.l3 := rfl
@[simp] theorem State.wr_depvb (s : State) (r : RegId) (i : Nat) (v : W) : (State.wr s r i v).depvb = s.depvb := rfl
@[simp] theorem State.wr_sieve (s : State) (r : RegId) (i : Nat) (v : W) : (State.wr s r i v).sieve = s.sieve := rfl
@[simp] theorem State.wr_trk (s : State) (r : RegId) (i : Nat) (v : W) : (State.wr s r i v).trk = s.trk := rfl
@[simp] theorem State.wr_fair (s : State) (r : RegId) (i : Nat) (v : W) : (State.wr s r i v).fair = s.fair := rfl
@[simp] theorem State.wr_slots (s : State) (r : RegId) (i : Nat) (v : W) : (State.wr s r i v).slots = s.slots := rfl
@[simp] theorem State.wr_agentReqs (s : State) (r : RegId) (i : Nat) (v : W) : (State.wr s r i v).agentReqs = s.agentReqs := rfl
@[simp] theorem State.wr_ghosts (s : State) (r : RegId) (i : Nat) (v : W) : (State.wr s r i v).ghosts = s.ghosts := rfl
@[simp] theorem State.wr_mesh (s : State) (r : RegId) (i : Nat) (v : W) : (State.wr s r i v).mesh = s.mesh := rfl
@[simp] theorem State.wr_txns (s : State) (r : RegId) (i : Nat) (v : W) : (State.wr s r i v).txns = s.txns := rfl
@[simp] theorem State.wr_linkStopped (s : State) (r : RegId) (i : Nat) (v : W) : (State.wr s r i v).linkStopped = s.linkStopped := rfl
@[simp] theorem State.wr_lidHeld (s : State) (r : RegId) (i : Nat) (v : W) : (State.wr s r i v).lidHeld = s.lidHeld := rfl
@[simp] theorem State.wr_pfw (s : State) (r : RegId) (i : Nat) (v : W) : (State.wr s r i v).pfw = s.pfw := rfl
@[simp] theorem State.wr_wtCache (s : State) (r : RegId) (i : Nat) (v : W) : (State.wr s r i v).wtCache = s.wtCache := rfl
@[simp] theorem State.wr_hartPart (s : State) (r : RegId) (i : Nat) (v : W) : (State.wr s r i v).hartPart = s.hartPart := rfl
@[simp] theorem State.wr_pairs (s : State) (r : RegId) (i : Nat) (v : W) : (State.wr s r i v).pairs = s.pairs := rfl
@[simp] theorem State.wr_spn (s : State) (r : RegId) (i : Nat) (v : W) : (State.wr s r i v).spn = s.spn := rfl
@[simp] theorem State.wr_spnChanged (s : State) (r : RegId) (i : Nat) (v : W) : (State.wr s r i v).spnChanged = s.spnChanged := rfl
@[simp] theorem State.wr_jrnRes (s : State) (r : RegId) (i : Nat) (v : W) : (State.wr s r i v).jrnRes = s.jrnRes := rfl
@[simp] theorem State.wr_jrnRecs (s : State) (r : RegId) (i : Nat) (v : W) : (State.wr s r i v).jrnRecs = s.jrnRecs := rfl
@[simp] theorem State.wr_pubs (s : State) (r : RegId) (i : Nat) (v : W) : (State.wr s r i v).pubs = s.pubs := rfl
@[simp] theorem State.wr_pubFlits (s : State) (r : RegId) (i : Nat) (v : W) : (State.wr s r i v).pubFlits = s.pubFlits := rfl
@[simp] theorem State.wr_repl (s : State) (r : RegId) (i : Nat) (v : W) : (State.wr s r i v).repl = s.repl := rfl
@[simp] theorem State.wr_ports (s : State) (r : RegId) (i : Nat) (v : W) : (State.wr s r i v).ports = s.ports := rfl
@[simp] theorem State.wr_fabIn (s : State) (r : RegId) (i : Nat) (v : W) : (State.wr s r i v).fabIn = s.fabIn := rfl
@[simp] theorem State.wr_fabRem (s : State) (r : RegId) (i : Nat) (v : W) : (State.wr s r i v).fabRem = s.fabRem := rfl
@[simp] theorem State.wr_fabDropped (s : State) (r : RegId) (i : Nat) (v : W) : (State.wr s r i v).fabDropped = s.fabDropped := rfl
@[simp] theorem State.wr_remote (s : State) (r : RegId) (i : Nat) (v : W) : (State.wr s r i v).remote = s.remote := rfl
@[simp] theorem State.wr_sqNext (s : State) (r : RegId) (i : Nat) (v : W) : (State.wr s r i v).sqNext = s.sqNext := rfl
@[simp] theorem State.wr_sqDone (s : State) (r : RegId) (i : Nat) (v : W) : (State.wr s r i v).sqDone = s.sqDone := rfl
@[simp] theorem State.wr_slew (s : State) (r : RegId) (i : Nat) (v : W) : (State.wr s r i v).slew = s.slew := rfl
@[simp] theorem State.wr_slewAcc (s : State) (r : RegId) (i : Nat) (v : W) : (State.wr s r i v).slewAcc = s.slewAcc := rfl
@[simp] theorem State.wr_pcieTags (s : State) (r : RegId) (i : Nat) (v : W) : (State.wr s r i v).pcieTags = s.pcieTags := rfl
@[simp] theorem State.wr_pcieOut (s : State) (r : RegId) (i : Nat) (v : W) : (State.wr s r i v).pcieOut = s.pcieOut := rfl
@[simp] theorem State.wr_pcieCpl (s : State) (r : RegId) (i : Nat) (v : W) : (State.wr s r i v).pcieCpl = s.pcieCpl := rfl
@[simp] theorem State.wr_portReset (s : State) (r : RegId) (i : Nat) (v : W) : (State.wr s r i v).portReset = s.portReset := rfl
@[simp] theorem State.wr_pcieLate (s : State) (r : RegId) (i : Nat) (v : W) : (State.wr s r i v).pcieLate = s.pcieLate := rfl
@[simp] theorem State.wr_msiLost (s : State) (r : RegId) (i : Nat) (v : W) : (State.wr s r i v).msiLost = s.msiLost := rfl
@[simp] theorem State.wr_ctxCache (s : State) (r : RegId) (i : Nat) (v : W) : (State.wr s r i v).ctxCache = s.ctxCache := rfl
@[simp] theorem State.wr_ioTlb (s : State) (r : RegId) (i : Nat) (v : W) : (State.wr s r i v).ioTlb = s.ioTlb := rfl
@[simp] theorem State.wr_jobs (s : State) (r : RegId) (i : Nat) (v : W) : (State.wr s r i v).jobs = s.jobs := rfl
@[simp] theorem State.wr_cphTurn (s : State) (r : RegId) (i : Nat) (v : W) : (State.wr s r i v).cphTurn = s.cphTurn := rfl
@[simp] theorem State.wr_cphKeys (s : State) (r : RegId) (i : Nat) (v : W) : (State.wr s r i v).cphKeys = s.cphKeys := rfl
@[simp] theorem State.wr_keys (s : State) (r : RegId) (i : Nat) (v : W) : (State.wr s r i v).keys = s.keys := rfl
@[simp] theorem State.wr_keyNext (s : State) (r : RegId) (i : Nat) (v : W) : (State.wr s r i v).keyNext = s.keyNext := rfl
@[simp] theorem State.wr_keyFreed (s : State) (r : RegId) (i : Nat) (v : W) : (State.wr s r i v).keyFreed = s.keyFreed := rfl
@[simp] theorem State.wr_srcHigh (s : State) (r : RegId) (i : Nat) (v : W) : (State.wr s r i v).srcHigh = s.srcHigh := rfl
@[simp] theorem State.wr_pend (s : State) (r : RegId) (i : Nat) (v : W) : (State.wr s r i v).pend = s.pend := rfl
@[simp] theorem State.wr_inServ (s : State) (r : RegId) (i : Nat) (v : W) : (State.wr s r i v).inServ = s.inServ := rfl
@[simp] theorem State.wr_nmiTaken (s : State) (r : RegId) (i : Nat) (v : W) : (State.wr s r i v).nmiTaken = s.nmiTaken := rfl
@[simp] theorem State.wr_records (s : State) (r : RegId) (i : Nat) (v : W) : (State.wr s r i v).records = s.records := rfl
@[simp] theorem State.wr_limits (s : State) (r : RegId) (i : Nat) (v : W) : (State.wr s r i v).limits = s.limits := rfl
@[simp] theorem State.wr_withheld (s : State) (r : RegId) (i : Nat) (v : W) : (State.wr s r i v).withheld = s.withheld := rfl
@[simp] theorem State.wr_errorN (s : State) (r : RegId) (i : Nat) (v : W) : (State.wr s r i v).errorN = s.errorN := rfl
@[simp] theorem State.wr_rstLevel (s : State) (r : RegId) (i : Nat) (v : W) : (State.wr s r i v).rstLevel = s.rstLevel := rfl
@[simp] theorem State.wr_relStep (s : State) (r : RegId) (i : Nat) (v : W) : (State.wr s r i v).relStep = s.relStep := rfl
@[simp] theorem State.wr_railOut (s : State) (r : RegId) (i : Nat) (v : W) : (State.wr s r i v).railOut = s.railOut := rfl
@[simp] theorem State.wr_pwrgood (s : State) (r : RegId) (i : Nat) (v : W) : (State.wr s r i v).pwrgood = s.pwrgood := rfl
@[simp] theorem State.wr_resetInLow (s : State) (r : RegId) (i : Nat) (v : W) : (State.wr s r i v).resetInLow = s.resetInLow := rfl
@[simp] theorem State.wr_prochotLow (s : State) (r : RegId) (i : Nat) (v : W) : (State.wr s r i v).prochotLow = s.prochotLow := rfl
@[simp] theorem State.wr_thermtrip (s : State) (r : RegId) (i : Nat) (v : W) : (State.wr s r i v).thermtrip = s.thermtrip := rfl
@[simp] theorem State.wr_readyPin (s : State) (r : RegId) (i : Nat) (v : W) : (State.wr s r i v).readyPin = s.readyPin := rfl
@[simp] theorem State.wr_unlocked (s : State) (r : RegId) (i : Nat) (v : W) : (State.wr s r i v).unlocked = s.unlocked := rfl
@[simp] theorem State.wr_regFailed (s : State) (r : RegId) (i : Nat) (v : W) : (State.wr s r i v).regFailed = s.regFailed := rfl
@[simp] theorem State.wr_pGoal (s : State) (r : RegId) (i : Nat) (v : W) : (State.wr s r i v).pGoal = s.pGoal := rfl
@[simp] theorem State.wr_pStop (s : State) (r : RegId) (i : Nat) (v : W) : (State.wr s r i v).pStop = s.pStop := rfl
@[simp] theorem State.wr_pkgIdle (s : State) (r : RegId) (i : Nat) (v : W) : (State.wr s r i v).pkgIdle = s.pkgIdle := rfl
@[simp] theorem State.wr_rtcAcc (s : State) (r : RegId) (i : Nat) (v : W) : (State.wr s r i v).rtcAcc = s.rtcAcc := rfl
@[simp] theorem State.wr_partStep (s : State) (r : RegId) (i : Nat) (v : W) : (State.wr s r i v).partStep = s.partStep := rfl
@[simp] theorem State.wr_fuses (s : State) (r : RegId) (i : Nat) (v : W) : (State.wr s r i v).fuses = s.fuses := rfl
@[simp] theorem State.wr_rcv (s : State) (r : RegId) (i : Nat) (v : W) : (State.wr s r i v).rcv = s.rcv := rfl
@[simp] theorem State.wr_bootStep (s : State) (r : RegId) (i : Nat) (v : W) : (State.wr s r i v).bootStep = s.bootStep := rfl
@[simp] theorem State.wr_flash (s : State) (r : RegId) (i : Nat) (v : W) : (State.wr s r i v).flash = s.flash := rfl
@[simp] theorem State.wr_ksCopy (s : State) (r : RegId) (i : Nat) (v : W) : (State.wr s r i v).ksCopy = s.ksCopy := rfl
@[simp] theorem State.wr_kek (s : State) (r : RegId) (i : Nat) (v : W) : (State.wr s r i v).kek = s.kek := rfl
@[simp] theorem State.wr_ksErased (s : State) (r : RegId) (i : Nat) (v : W) : (State.wr s r i v).ksErased = s.ksErased := rfl
@[simp] theorem State.wr_fmKeys (s : State) (r : RegId) (i : Nat) (v : W) : (State.wr s r i v).fmKeys = s.fmKeys := rfl
@[simp] theorem State.wr_boot (s : State) (r : RegId) (i : Nat) (v : W) : (State.wr s r i v).boot = s.boot := rfl
@[simp] theorem State.wr_spRsp (s : State) (r : RegId) (i : Nat) (v : W) : (State.wr s r i v).spRsp = s.spRsp := rfl
@[simp] theorem State.wr_evidence (s : State) (r : RegId) (i : Nat) (v : W) : (State.wr s r i v).evidence = s.evidence := rfl
@[simp] theorem State.wr_mac (s : State) (r : RegId) (i : Nat) (v : W) : (State.wr s r i v).mac = s.mac := rfl
@[simp] theorem State.wr_pages (s : State) (r : RegId) (i : Nat) (v : W) : (State.wr s r i v).pages = s.pages := rfl
@[simp] theorem State.wr_spd (s : State) (r : RegId) (i : Nat) (v : W) : (State.wr s r i v).spd = s.spd := rfl
@[simp] theorem State.wr_traceBuf (s : State) (r : RegId) (i : Nat) (v : W) : (State.wr s r i v).traceBuf = s.traceBuf := rfl
@[simp] theorem State.wr_snaps (s : State) (r : RegId) (i : Nat) (v : W) : (State.wr s r i v).snaps = s.snaps := rfl
@[simp] theorem State.wr_cnt (s : State) (r : RegId) (i : Nat) (v : W) : (State.wr s r i v).cnt = s.cnt := rfl
@[simp] theorem State.wr_ldl (s : State) (r : RegId) (i : Nat) (v : W) : (State.wr s r i v).ldl = s.ldl := rfl
@[simp] theorem State.wr_dbg (s : State) (r : RegId) (i : Nat) (v : W) : (State.wr s r i v).dbg = s.dbg := rfl
@[simp] theorem State.wr_lsio (s : State) (r : RegId) (i : Nat) (v : W) : (State.wr s r i v).lsio = s.lsio := rfl
@[simp] theorem State.wr_wdogNs (s : State) (r : RegId) (i : Nat) (v : W) : (State.wr s r i v).wdogNs = s.wdogNs := rfl
@[simp] theorem State.wr_cycAcc (s : State) (r : RegId) (i : Nat) (v : W) : (State.wr s r i v).cycAcc = s.cycAcc := rfl
@[simp] theorem State.setFld_pending (s : State) (F : Fld) (i : Nat) (v : Nat) : (State.setFld s F i v).pending = s.pending := (acts_setFld s F i v).pending rfl
@[simp] theorem State.setFld_free (s : State) (F : Fld) (i : Nat) (v : Nat) : (State.setFld s F i v).free = s.free := (acts_setFld s F i v).free rfl
@[simp] theorem State.setFld_stamp (s : State) (F : Fld) (i : Nat) (v : Nat) : (State.setFld s F i v).stamp = s.stamp := (acts_setFld s F i v).stamp rfl
@[simp] theorem State.setFld_dtime (s : State) (F : Fld) (i : Nat) (v : Nat) : (State.setFld s F i v).dtime = s.dtime := (acts_setFld s F i v).dtime rfl
@[simp] theorem State.setFld_rsp (s : State) (F : Fld) (i : Nat) (v : Nat) : (State.setFld s F i v).rsp = s.rsp := (acts_setFld s F i v).rsp rfl
@[simp] theorem State.setFld_cores (s : State) (F : Fld) (i : Nat) (v : Nat) : (State.setFld s F i v).cores = s.cores := (acts_setFld s F i v).cores rfl
@[simp] theorem State.setFld_mem (s : State) (F : Fld) (i : Nat) (v : Nat) : (State.setFld s F i v).mem = s.mem := (acts_setFld s F i v).mem rfl
@[simp] theorem State.setFld_memPoison (s : State) (F : Fld) (i : Nat) (v : Nat) : (State.setFld s F i v).memPoison = s.memPoison := (acts_setFld s F i v).memPoison rfl
@[simp] theorem State.setFld_chans (s : State) (F : Fld) (i : Nat) (v : Nat) : (State.setFld s F i v).chans = s.chans := (acts_setFld s F i v).chans rfl
@[simp] theorem State.setFld_mcRsp (s : State) (F : Fld) (i : Nat) (v : Nat) : (State.setFld s F i v).mcRsp = s.mcRsp := (acts_setFld s F i v).mcRsp rfl
@[simp] theorem State.setFld_opt (s : State) (F : Fld) (i : Nat) (v : Nat) : (State.setFld s F i v).opt = s.opt := (acts_setFld s F i v).opt rfl
@[simp] theorem State.setFld_bootSrc (s : State) (F : Fld) (i : Nat) (v : Nat) : (State.setFld s F i v).bootSrc = s.bootSrc := (acts_setFld s F i v).bootSrc rfl
@[simp] theorem State.setFld_recovSel (s : State) (F : Fld) (i : Nat) (v : Nat) : (State.setFld s F i v).recovSel = s.recovSel := (acts_setFld s F i v).recovSel rfl
@[simp] theorem State.setFld_l3 (s : State) (F : Fld) (i : Nat) (v : Nat) : (State.setFld s F i v).l3 = s.l3 := (acts_setFld s F i v).l3 rfl
@[simp] theorem State.setFld_depvb (s : State) (F : Fld) (i : Nat) (v : Nat) : (State.setFld s F i v).depvb = s.depvb := (acts_setFld s F i v).depvb rfl
@[simp] theorem State.setFld_sieve (s : State) (F : Fld) (i : Nat) (v : Nat) : (State.setFld s F i v).sieve = s.sieve := (acts_setFld s F i v).sieve rfl
@[simp] theorem State.setFld_trk (s : State) (F : Fld) (i : Nat) (v : Nat) : (State.setFld s F i v).trk = s.trk := (acts_setFld s F i v).trk rfl
@[simp] theorem State.setFld_fair (s : State) (F : Fld) (i : Nat) (v : Nat) : (State.setFld s F i v).fair = s.fair := (acts_setFld s F i v).fair rfl
@[simp] theorem State.setFld_slots (s : State) (F : Fld) (i : Nat) (v : Nat) : (State.setFld s F i v).slots = s.slots := (acts_setFld s F i v).slots rfl
@[simp] theorem State.setFld_agentReqs (s : State) (F : Fld) (i : Nat) (v : Nat) : (State.setFld s F i v).agentReqs = s.agentReqs := (acts_setFld s F i v).agentReqs rfl
@[simp] theorem State.setFld_ghosts (s : State) (F : Fld) (i : Nat) (v : Nat) : (State.setFld s F i v).ghosts = s.ghosts := (acts_setFld s F i v).ghosts rfl
@[simp] theorem State.setFld_mesh (s : State) (F : Fld) (i : Nat) (v : Nat) : (State.setFld s F i v).mesh = s.mesh := (acts_setFld s F i v).mesh rfl
@[simp] theorem State.setFld_txns (s : State) (F : Fld) (i : Nat) (v : Nat) : (State.setFld s F i v).txns = s.txns := (acts_setFld s F i v).txns rfl
@[simp] theorem State.setFld_linkStopped (s : State) (F : Fld) (i : Nat) (v : Nat) : (State.setFld s F i v).linkStopped = s.linkStopped := (acts_setFld s F i v).linkStopped rfl
@[simp] theorem State.setFld_lidHeld (s : State) (F : Fld) (i : Nat) (v : Nat) : (State.setFld s F i v).lidHeld = s.lidHeld := (acts_setFld s F i v).lidHeld rfl
@[simp] theorem State.setFld_pfw (s : State) (F : Fld) (i : Nat) (v : Nat) : (State.setFld s F i v).pfw = s.pfw := (acts_setFld s F i v).pfw rfl
@[simp] theorem State.setFld_wtCache (s : State) (F : Fld) (i : Nat) (v : Nat) : (State.setFld s F i v).wtCache = s.wtCache := (acts_setFld s F i v).wtCache rfl
@[simp] theorem State.setFld_hartPart (s : State) (F : Fld) (i : Nat) (v : Nat) : (State.setFld s F i v).hartPart = s.hartPart := (acts_setFld s F i v).hartPart rfl
@[simp] theorem State.setFld_pairs (s : State) (F : Fld) (i : Nat) (v : Nat) : (State.setFld s F i v).pairs = s.pairs := (acts_setFld s F i v).pairs rfl
@[simp] theorem State.setFld_spn (s : State) (F : Fld) (i : Nat) (v : Nat) : (State.setFld s F i v).spn = s.spn := (acts_setFld s F i v).spn rfl
@[simp] theorem State.setFld_spnChanged (s : State) (F : Fld) (i : Nat) (v : Nat) : (State.setFld s F i v).spnChanged = s.spnChanged := (acts_setFld s F i v).spnChanged rfl
@[simp] theorem State.setFld_jrnRes (s : State) (F : Fld) (i : Nat) (v : Nat) : (State.setFld s F i v).jrnRes = s.jrnRes := (acts_setFld s F i v).jrnRes rfl
@[simp] theorem State.setFld_jrnRecs (s : State) (F : Fld) (i : Nat) (v : Nat) : (State.setFld s F i v).jrnRecs = s.jrnRecs := (acts_setFld s F i v).jrnRecs rfl
@[simp] theorem State.setFld_pubs (s : State) (F : Fld) (i : Nat) (v : Nat) : (State.setFld s F i v).pubs = s.pubs := (acts_setFld s F i v).pubs rfl
@[simp] theorem State.setFld_pubFlits (s : State) (F : Fld) (i : Nat) (v : Nat) : (State.setFld s F i v).pubFlits = s.pubFlits := (acts_setFld s F i v).pubFlits rfl
@[simp] theorem State.setFld_repl (s : State) (F : Fld) (i : Nat) (v : Nat) : (State.setFld s F i v).repl = s.repl := (acts_setFld s F i v).repl rfl
@[simp] theorem State.setFld_ports (s : State) (F : Fld) (i : Nat) (v : Nat) : (State.setFld s F i v).ports = s.ports := (acts_setFld s F i v).ports rfl
@[simp] theorem State.setFld_fabIn (s : State) (F : Fld) (i : Nat) (v : Nat) : (State.setFld s F i v).fabIn = s.fabIn := (acts_setFld s F i v).fabIn rfl
@[simp] theorem State.setFld_fabRem (s : State) (F : Fld) (i : Nat) (v : Nat) : (State.setFld s F i v).fabRem = s.fabRem := (acts_setFld s F i v).fabRem rfl
@[simp] theorem State.setFld_fabDropped (s : State) (F : Fld) (i : Nat) (v : Nat) : (State.setFld s F i v).fabDropped = s.fabDropped := (acts_setFld s F i v).fabDropped rfl
@[simp] theorem State.setFld_remote (s : State) (F : Fld) (i : Nat) (v : Nat) : (State.setFld s F i v).remote = s.remote := (acts_setFld s F i v).remote rfl
@[simp] theorem State.setFld_sqNext (s : State) (F : Fld) (i : Nat) (v : Nat) : (State.setFld s F i v).sqNext = s.sqNext := (acts_setFld s F i v).sqNext rfl
@[simp] theorem State.setFld_sqDone (s : State) (F : Fld) (i : Nat) (v : Nat) : (State.setFld s F i v).sqDone = s.sqDone := (acts_setFld s F i v).sqDone rfl
@[simp] theorem State.setFld_slew (s : State) (F : Fld) (i : Nat) (v : Nat) : (State.setFld s F i v).slew = s.slew := (acts_setFld s F i v).slew rfl
@[simp] theorem State.setFld_slewAcc (s : State) (F : Fld) (i : Nat) (v : Nat) : (State.setFld s F i v).slewAcc = s.slewAcc := (acts_setFld s F i v).slewAcc rfl
@[simp] theorem State.setFld_pcieTags (s : State) (F : Fld) (i : Nat) (v : Nat) : (State.setFld s F i v).pcieTags = s.pcieTags := (acts_setFld s F i v).pcieTags rfl
@[simp] theorem State.setFld_pcieOut (s : State) (F : Fld) (i : Nat) (v : Nat) : (State.setFld s F i v).pcieOut = s.pcieOut := (acts_setFld s F i v).pcieOut rfl
@[simp] theorem State.setFld_pcieCpl (s : State) (F : Fld) (i : Nat) (v : Nat) : (State.setFld s F i v).pcieCpl = s.pcieCpl := (acts_setFld s F i v).pcieCpl rfl
@[simp] theorem State.setFld_portReset (s : State) (F : Fld) (i : Nat) (v : Nat) : (State.setFld s F i v).portReset = s.portReset := (acts_setFld s F i v).portReset rfl
@[simp] theorem State.setFld_pcieLate (s : State) (F : Fld) (i : Nat) (v : Nat) : (State.setFld s F i v).pcieLate = s.pcieLate := (acts_setFld s F i v).pcieLate rfl
@[simp] theorem State.setFld_msiLost (s : State) (F : Fld) (i : Nat) (v : Nat) : (State.setFld s F i v).msiLost = s.msiLost := (acts_setFld s F i v).msiLost rfl
@[simp] theorem State.setFld_ctxCache (s : State) (F : Fld) (i : Nat) (v : Nat) : (State.setFld s F i v).ctxCache = s.ctxCache := (acts_setFld s F i v).ctxCache rfl
@[simp] theorem State.setFld_ioTlb (s : State) (F : Fld) (i : Nat) (v : Nat) : (State.setFld s F i v).ioTlb = s.ioTlb := (acts_setFld s F i v).ioTlb rfl
@[simp] theorem State.setFld_jobs (s : State) (F : Fld) (i : Nat) (v : Nat) : (State.setFld s F i v).jobs = s.jobs := (acts_setFld s F i v).jobs rfl
@[simp] theorem State.setFld_cphTurn (s : State) (F : Fld) (i : Nat) (v : Nat) : (State.setFld s F i v).cphTurn = s.cphTurn := (acts_setFld s F i v).cphTurn rfl
@[simp] theorem State.setFld_cphKeys (s : State) (F : Fld) (i : Nat) (v : Nat) : (State.setFld s F i v).cphKeys = s.cphKeys := (acts_setFld s F i v).cphKeys rfl
@[simp] theorem State.setFld_keys (s : State) (F : Fld) (i : Nat) (v : Nat) : (State.setFld s F i v).keys = s.keys := (acts_setFld s F i v).keys rfl
@[simp] theorem State.setFld_keyNext (s : State) (F : Fld) (i : Nat) (v : Nat) : (State.setFld s F i v).keyNext = s.keyNext := (acts_setFld s F i v).keyNext rfl
@[simp] theorem State.setFld_keyFreed (s : State) (F : Fld) (i : Nat) (v : Nat) : (State.setFld s F i v).keyFreed = s.keyFreed := (acts_setFld s F i v).keyFreed rfl
@[simp] theorem State.setFld_srcHigh (s : State) (F : Fld) (i : Nat) (v : Nat) : (State.setFld s F i v).srcHigh = s.srcHigh := (acts_setFld s F i v).srcHigh rfl
@[simp] theorem State.setFld_pend (s : State) (F : Fld) (i : Nat) (v : Nat) : (State.setFld s F i v).pend = s.pend := (acts_setFld s F i v).pend rfl
@[simp] theorem State.setFld_inServ (s : State) (F : Fld) (i : Nat) (v : Nat) : (State.setFld s F i v).inServ = s.inServ := (acts_setFld s F i v).inServ rfl
@[simp] theorem State.setFld_nmiTaken (s : State) (F : Fld) (i : Nat) (v : Nat) : (State.setFld s F i v).nmiTaken = s.nmiTaken := (acts_setFld s F i v).nmiTaken rfl
@[simp] theorem State.setFld_records (s : State) (F : Fld) (i : Nat) (v : Nat) : (State.setFld s F i v).records = s.records := (acts_setFld s F i v).records rfl
@[simp] theorem State.setFld_limits (s : State) (F : Fld) (i : Nat) (v : Nat) : (State.setFld s F i v).limits = s.limits := (acts_setFld s F i v).limits rfl
@[simp] theorem State.setFld_withheld (s : State) (F : Fld) (i : Nat) (v : Nat) : (State.setFld s F i v).withheld = s.withheld := (acts_setFld s F i v).withheld rfl
@[simp] theorem State.setFld_errorN (s : State) (F : Fld) (i : Nat) (v : Nat) : (State.setFld s F i v).errorN = s.errorN := (acts_setFld s F i v).errorN rfl
@[simp] theorem State.setFld_rstLevel (s : State) (F : Fld) (i : Nat) (v : Nat) : (State.setFld s F i v).rstLevel = s.rstLevel := (acts_setFld s F i v).rstLevel rfl
@[simp] theorem State.setFld_relStep (s : State) (F : Fld) (i : Nat) (v : Nat) : (State.setFld s F i v).relStep = s.relStep := (acts_setFld s F i v).relStep rfl
@[simp] theorem State.setFld_railOut (s : State) (F : Fld) (i : Nat) (v : Nat) : (State.setFld s F i v).railOut = s.railOut := (acts_setFld s F i v).railOut rfl
@[simp] theorem State.setFld_pwrgood (s : State) (F : Fld) (i : Nat) (v : Nat) : (State.setFld s F i v).pwrgood = s.pwrgood := (acts_setFld s F i v).pwrgood rfl
@[simp] theorem State.setFld_resetInLow (s : State) (F : Fld) (i : Nat) (v : Nat) : (State.setFld s F i v).resetInLow = s.resetInLow := (acts_setFld s F i v).resetInLow rfl
@[simp] theorem State.setFld_prochotLow (s : State) (F : Fld) (i : Nat) (v : Nat) : (State.setFld s F i v).prochotLow = s.prochotLow := (acts_setFld s F i v).prochotLow rfl
@[simp] theorem State.setFld_thermtrip (s : State) (F : Fld) (i : Nat) (v : Nat) : (State.setFld s F i v).thermtrip = s.thermtrip := (acts_setFld s F i v).thermtrip rfl
@[simp] theorem State.setFld_readyPin (s : State) (F : Fld) (i : Nat) (v : Nat) : (State.setFld s F i v).readyPin = s.readyPin := (acts_setFld s F i v).readyPin rfl
@[simp] theorem State.setFld_unlocked (s : State) (F : Fld) (i : Nat) (v : Nat) : (State.setFld s F i v).unlocked = s.unlocked := (acts_setFld s F i v).unlocked rfl
@[simp] theorem State.setFld_regFailed (s : State) (F : Fld) (i : Nat) (v : Nat) : (State.setFld s F i v).regFailed = s.regFailed := (acts_setFld s F i v).regFailed rfl
@[simp] theorem State.setFld_pGoal (s : State) (F : Fld) (i : Nat) (v : Nat) : (State.setFld s F i v).pGoal = s.pGoal := (acts_setFld s F i v).pGoal rfl
@[simp] theorem State.setFld_pStop (s : State) (F : Fld) (i : Nat) (v : Nat) : (State.setFld s F i v).pStop = s.pStop := (acts_setFld s F i v).pStop rfl
@[simp] theorem State.setFld_pkgIdle (s : State) (F : Fld) (i : Nat) (v : Nat) : (State.setFld s F i v).pkgIdle = s.pkgIdle := (acts_setFld s F i v).pkgIdle rfl
@[simp] theorem State.setFld_rtcAcc (s : State) (F : Fld) (i : Nat) (v : Nat) : (State.setFld s F i v).rtcAcc = s.rtcAcc := (acts_setFld s F i v).rtcAcc rfl
@[simp] theorem State.setFld_partStep (s : State) (F : Fld) (i : Nat) (v : Nat) : (State.setFld s F i v).partStep = s.partStep := (acts_setFld s F i v).partStep rfl
@[simp] theorem State.setFld_fuses (s : State) (F : Fld) (i : Nat) (v : Nat) : (State.setFld s F i v).fuses = s.fuses := (acts_setFld s F i v).fuses rfl
@[simp] theorem State.setFld_rcv (s : State) (F : Fld) (i : Nat) (v : Nat) : (State.setFld s F i v).rcv = s.rcv := (acts_setFld s F i v).rcv rfl
@[simp] theorem State.setFld_bootStep (s : State) (F : Fld) (i : Nat) (v : Nat) : (State.setFld s F i v).bootStep = s.bootStep := (acts_setFld s F i v).bootStep rfl
@[simp] theorem State.setFld_flash (s : State) (F : Fld) (i : Nat) (v : Nat) : (State.setFld s F i v).flash = s.flash := (acts_setFld s F i v).flash rfl
@[simp] theorem State.setFld_ksCopy (s : State) (F : Fld) (i : Nat) (v : Nat) : (State.setFld s F i v).ksCopy = s.ksCopy := (acts_setFld s F i v).ksCopy rfl
@[simp] theorem State.setFld_kek (s : State) (F : Fld) (i : Nat) (v : Nat) : (State.setFld s F i v).kek = s.kek := (acts_setFld s F i v).kek rfl
@[simp] theorem State.setFld_ksErased (s : State) (F : Fld) (i : Nat) (v : Nat) : (State.setFld s F i v).ksErased = s.ksErased := (acts_setFld s F i v).ksErased rfl
@[simp] theorem State.setFld_fmKeys (s : State) (F : Fld) (i : Nat) (v : Nat) : (State.setFld s F i v).fmKeys = s.fmKeys := (acts_setFld s F i v).fmKeys rfl
@[simp] theorem State.setFld_boot (s : State) (F : Fld) (i : Nat) (v : Nat) : (State.setFld s F i v).boot = s.boot := (acts_setFld s F i v).boot rfl
@[simp] theorem State.setFld_spRsp (s : State) (F : Fld) (i : Nat) (v : Nat) : (State.setFld s F i v).spRsp = s.spRsp := (acts_setFld s F i v).spRsp rfl
@[simp] theorem State.setFld_evidence (s : State) (F : Fld) (i : Nat) (v : Nat) : (State.setFld s F i v).evidence = s.evidence := (acts_setFld s F i v).evidence rfl
@[simp] theorem State.setFld_mac (s : State) (F : Fld) (i : Nat) (v : Nat) : (State.setFld s F i v).mac = s.mac := (acts_setFld s F i v).mac rfl
@[simp] theorem State.setFld_pages (s : State) (F : Fld) (i : Nat) (v : Nat) : (State.setFld s F i v).pages = s.pages := (acts_setFld s F i v).pages rfl
@[simp] theorem State.setFld_spd (s : State) (F : Fld) (i : Nat) (v : Nat) : (State.setFld s F i v).spd = s.spd := (acts_setFld s F i v).spd rfl
@[simp] theorem State.setFld_traceBuf (s : State) (F : Fld) (i : Nat) (v : Nat) : (State.setFld s F i v).traceBuf = s.traceBuf := (acts_setFld s F i v).traceBuf rfl
@[simp] theorem State.setFld_snaps (s : State) (F : Fld) (i : Nat) (v : Nat) : (State.setFld s F i v).snaps = s.snaps := (acts_setFld s F i v).snaps rfl
@[simp] theorem State.setFld_cnt (s : State) (F : Fld) (i : Nat) (v : Nat) : (State.setFld s F i v).cnt = s.cnt := (acts_setFld s F i v).cnt rfl
@[simp] theorem State.setFld_ldl (s : State) (F : Fld) (i : Nat) (v : Nat) : (State.setFld s F i v).ldl = s.ldl := (acts_setFld s F i v).ldl rfl
@[simp] theorem State.setFld_dbg (s : State) (F : Fld) (i : Nat) (v : Nat) : (State.setFld s F i v).dbg = s.dbg := (acts_setFld s F i v).dbg rfl
@[simp] theorem State.setFld_lsio (s : State) (F : Fld) (i : Nat) (v : Nat) : (State.setFld s F i v).lsio = s.lsio := (acts_setFld s F i v).lsio rfl
@[simp] theorem State.setFld_wdogNs (s : State) (F : Fld) (i : Nat) (v : Nat) : (State.setFld s F i v).wdogNs = s.wdogNs := (acts_setFld s F i v).wdogNs rfl
@[simp] theorem State.setFld_cycAcc (s : State) (F : Fld) (i : Nat) (v : Nat) : (State.setFld s F i v).cycAcc = s.cycAcc := (acts_setFld s F i v).cycAcc rfl
@[simp] theorem State.incSat_pending (s : State) (F : Fld) (i : Nat) : (State.incSat s F i).pending = s.pending := (acts_incSat s F i).pending rfl
@[simp] theorem State.incSat_free (s : State) (F : Fld) (i : Nat) : (State.incSat s F i).free = s.free := (acts_incSat s F i).free rfl
@[simp] theorem State.incSat_stamp (s : State) (F : Fld) (i : Nat) : (State.incSat s F i).stamp = s.stamp := (acts_incSat s F i).stamp rfl
@[simp] theorem State.incSat_dtime (s : State) (F : Fld) (i : Nat) : (State.incSat s F i).dtime = s.dtime := (acts_incSat s F i).dtime rfl
@[simp] theorem State.incSat_rsp (s : State) (F : Fld) (i : Nat) : (State.incSat s F i).rsp = s.rsp := (acts_incSat s F i).rsp rfl
@[simp] theorem State.incSat_cores (s : State) (F : Fld) (i : Nat) : (State.incSat s F i).cores = s.cores := (acts_incSat s F i).cores rfl
@[simp] theorem State.incSat_mem (s : State) (F : Fld) (i : Nat) : (State.incSat s F i).mem = s.mem := (acts_incSat s F i).mem rfl
@[simp] theorem State.incSat_memPoison (s : State) (F : Fld) (i : Nat) : (State.incSat s F i).memPoison = s.memPoison := (acts_incSat s F i).memPoison rfl
@[simp] theorem State.incSat_chans (s : State) (F : Fld) (i : Nat) : (State.incSat s F i).chans = s.chans := (acts_incSat s F i).chans rfl
@[simp] theorem State.incSat_mcRsp (s : State) (F : Fld) (i : Nat) : (State.incSat s F i).mcRsp = s.mcRsp := (acts_incSat s F i).mcRsp rfl
@[simp] theorem State.incSat_opt (s : State) (F : Fld) (i : Nat) : (State.incSat s F i).opt = s.opt := (acts_incSat s F i).opt rfl
@[simp] theorem State.incSat_bootSrc (s : State) (F : Fld) (i : Nat) : (State.incSat s F i).bootSrc = s.bootSrc := (acts_incSat s F i).bootSrc rfl
@[simp] theorem State.incSat_recovSel (s : State) (F : Fld) (i : Nat) : (State.incSat s F i).recovSel = s.recovSel := (acts_incSat s F i).recovSel rfl
@[simp] theorem State.incSat_l3 (s : State) (F : Fld) (i : Nat) : (State.incSat s F i).l3 = s.l3 := (acts_incSat s F i).l3 rfl
@[simp] theorem State.incSat_depvb (s : State) (F : Fld) (i : Nat) : (State.incSat s F i).depvb = s.depvb := (acts_incSat s F i).depvb rfl
@[simp] theorem State.incSat_sieve (s : State) (F : Fld) (i : Nat) : (State.incSat s F i).sieve = s.sieve := (acts_incSat s F i).sieve rfl
@[simp] theorem State.incSat_trk (s : State) (F : Fld) (i : Nat) : (State.incSat s F i).trk = s.trk := (acts_incSat s F i).trk rfl
@[simp] theorem State.incSat_fair (s : State) (F : Fld) (i : Nat) : (State.incSat s F i).fair = s.fair := (acts_incSat s F i).fair rfl
@[simp] theorem State.incSat_slots (s : State) (F : Fld) (i : Nat) : (State.incSat s F i).slots = s.slots := (acts_incSat s F i).slots rfl
@[simp] theorem State.incSat_agentReqs (s : State) (F : Fld) (i : Nat) : (State.incSat s F i).agentReqs = s.agentReqs := (acts_incSat s F i).agentReqs rfl
@[simp] theorem State.incSat_ghosts (s : State) (F : Fld) (i : Nat) : (State.incSat s F i).ghosts = s.ghosts := (acts_incSat s F i).ghosts rfl
@[simp] theorem State.incSat_mesh (s : State) (F : Fld) (i : Nat) : (State.incSat s F i).mesh = s.mesh := (acts_incSat s F i).mesh rfl
@[simp] theorem State.incSat_txns (s : State) (F : Fld) (i : Nat) : (State.incSat s F i).txns = s.txns := (acts_incSat s F i).txns rfl
@[simp] theorem State.incSat_linkStopped (s : State) (F : Fld) (i : Nat) : (State.incSat s F i).linkStopped = s.linkStopped := (acts_incSat s F i).linkStopped rfl
@[simp] theorem State.incSat_lidHeld (s : State) (F : Fld) (i : Nat) : (State.incSat s F i).lidHeld = s.lidHeld := (acts_incSat s F i).lidHeld rfl
@[simp] theorem State.incSat_pfw (s : State) (F : Fld) (i : Nat) : (State.incSat s F i).pfw = s.pfw := (acts_incSat s F i).pfw rfl
@[simp] theorem State.incSat_wtCache (s : State) (F : Fld) (i : Nat) : (State.incSat s F i).wtCache = s.wtCache := (acts_incSat s F i).wtCache rfl
@[simp] theorem State.incSat_hartPart (s : State) (F : Fld) (i : Nat) : (State.incSat s F i).hartPart = s.hartPart := (acts_incSat s F i).hartPart rfl
@[simp] theorem State.incSat_pairs (s : State) (F : Fld) (i : Nat) : (State.incSat s F i).pairs = s.pairs := (acts_incSat s F i).pairs rfl
@[simp] theorem State.incSat_spn (s : State) (F : Fld) (i : Nat) : (State.incSat s F i).spn = s.spn := (acts_incSat s F i).spn rfl
@[simp] theorem State.incSat_spnChanged (s : State) (F : Fld) (i : Nat) : (State.incSat s F i).spnChanged = s.spnChanged := (acts_incSat s F i).spnChanged rfl
@[simp] theorem State.incSat_jrnRes (s : State) (F : Fld) (i : Nat) : (State.incSat s F i).jrnRes = s.jrnRes := (acts_incSat s F i).jrnRes rfl
@[simp] theorem State.incSat_jrnRecs (s : State) (F : Fld) (i : Nat) : (State.incSat s F i).jrnRecs = s.jrnRecs := (acts_incSat s F i).jrnRecs rfl
@[simp] theorem State.incSat_pubs (s : State) (F : Fld) (i : Nat) : (State.incSat s F i).pubs = s.pubs := (acts_incSat s F i).pubs rfl
@[simp] theorem State.incSat_pubFlits (s : State) (F : Fld) (i : Nat) : (State.incSat s F i).pubFlits = s.pubFlits := (acts_incSat s F i).pubFlits rfl
@[simp] theorem State.incSat_repl (s : State) (F : Fld) (i : Nat) : (State.incSat s F i).repl = s.repl := (acts_incSat s F i).repl rfl
@[simp] theorem State.incSat_ports (s : State) (F : Fld) (i : Nat) : (State.incSat s F i).ports = s.ports := (acts_incSat s F i).ports rfl
@[simp] theorem State.incSat_fabIn (s : State) (F : Fld) (i : Nat) : (State.incSat s F i).fabIn = s.fabIn := (acts_incSat s F i).fabIn rfl
@[simp] theorem State.incSat_fabRem (s : State) (F : Fld) (i : Nat) : (State.incSat s F i).fabRem = s.fabRem := (acts_incSat s F i).fabRem rfl
@[simp] theorem State.incSat_fabDropped (s : State) (F : Fld) (i : Nat) : (State.incSat s F i).fabDropped = s.fabDropped := (acts_incSat s F i).fabDropped rfl
@[simp] theorem State.incSat_remote (s : State) (F : Fld) (i : Nat) : (State.incSat s F i).remote = s.remote := (acts_incSat s F i).remote rfl
@[simp] theorem State.incSat_sqNext (s : State) (F : Fld) (i : Nat) : (State.incSat s F i).sqNext = s.sqNext := (acts_incSat s F i).sqNext rfl
@[simp] theorem State.incSat_sqDone (s : State) (F : Fld) (i : Nat) : (State.incSat s F i).sqDone = s.sqDone := (acts_incSat s F i).sqDone rfl
@[simp] theorem State.incSat_slew (s : State) (F : Fld) (i : Nat) : (State.incSat s F i).slew = s.slew := (acts_incSat s F i).slew rfl
@[simp] theorem State.incSat_slewAcc (s : State) (F : Fld) (i : Nat) : (State.incSat s F i).slewAcc = s.slewAcc := (acts_incSat s F i).slewAcc rfl
@[simp] theorem State.incSat_pcieTags (s : State) (F : Fld) (i : Nat) : (State.incSat s F i).pcieTags = s.pcieTags := (acts_incSat s F i).pcieTags rfl
@[simp] theorem State.incSat_pcieOut (s : State) (F : Fld) (i : Nat) : (State.incSat s F i).pcieOut = s.pcieOut := (acts_incSat s F i).pcieOut rfl
@[simp] theorem State.incSat_pcieCpl (s : State) (F : Fld) (i : Nat) : (State.incSat s F i).pcieCpl = s.pcieCpl := (acts_incSat s F i).pcieCpl rfl
@[simp] theorem State.incSat_portReset (s : State) (F : Fld) (i : Nat) : (State.incSat s F i).portReset = s.portReset := (acts_incSat s F i).portReset rfl
@[simp] theorem State.incSat_pcieLate (s : State) (F : Fld) (i : Nat) : (State.incSat s F i).pcieLate = s.pcieLate := (acts_incSat s F i).pcieLate rfl
@[simp] theorem State.incSat_msiLost (s : State) (F : Fld) (i : Nat) : (State.incSat s F i).msiLost = s.msiLost := (acts_incSat s F i).msiLost rfl
@[simp] theorem State.incSat_ctxCache (s : State) (F : Fld) (i : Nat) : (State.incSat s F i).ctxCache = s.ctxCache := (acts_incSat s F i).ctxCache rfl
@[simp] theorem State.incSat_ioTlb (s : State) (F : Fld) (i : Nat) : (State.incSat s F i).ioTlb = s.ioTlb := (acts_incSat s F i).ioTlb rfl
@[simp] theorem State.incSat_jobs (s : State) (F : Fld) (i : Nat) : (State.incSat s F i).jobs = s.jobs := (acts_incSat s F i).jobs rfl
@[simp] theorem State.incSat_cphTurn (s : State) (F : Fld) (i : Nat) : (State.incSat s F i).cphTurn = s.cphTurn := (acts_incSat s F i).cphTurn rfl
@[simp] theorem State.incSat_cphKeys (s : State) (F : Fld) (i : Nat) : (State.incSat s F i).cphKeys = s.cphKeys := (acts_incSat s F i).cphKeys rfl
@[simp] theorem State.incSat_keys (s : State) (F : Fld) (i : Nat) : (State.incSat s F i).keys = s.keys := (acts_incSat s F i).keys rfl
@[simp] theorem State.incSat_keyNext (s : State) (F : Fld) (i : Nat) : (State.incSat s F i).keyNext = s.keyNext := (acts_incSat s F i).keyNext rfl
@[simp] theorem State.incSat_keyFreed (s : State) (F : Fld) (i : Nat) : (State.incSat s F i).keyFreed = s.keyFreed := (acts_incSat s F i).keyFreed rfl
@[simp] theorem State.incSat_srcHigh (s : State) (F : Fld) (i : Nat) : (State.incSat s F i).srcHigh = s.srcHigh := (acts_incSat s F i).srcHigh rfl
@[simp] theorem State.incSat_pend (s : State) (F : Fld) (i : Nat) : (State.incSat s F i).pend = s.pend := (acts_incSat s F i).pend rfl
@[simp] theorem State.incSat_inServ (s : State) (F : Fld) (i : Nat) : (State.incSat s F i).inServ = s.inServ := (acts_incSat s F i).inServ rfl
@[simp] theorem State.incSat_nmiTaken (s : State) (F : Fld) (i : Nat) : (State.incSat s F i).nmiTaken = s.nmiTaken := (acts_incSat s F i).nmiTaken rfl
@[simp] theorem State.incSat_records (s : State) (F : Fld) (i : Nat) : (State.incSat s F i).records = s.records := (acts_incSat s F i).records rfl
@[simp] theorem State.incSat_limits (s : State) (F : Fld) (i : Nat) : (State.incSat s F i).limits = s.limits := (acts_incSat s F i).limits rfl
@[simp] theorem State.incSat_withheld (s : State) (F : Fld) (i : Nat) : (State.incSat s F i).withheld = s.withheld := (acts_incSat s F i).withheld rfl
@[simp] theorem State.incSat_errorN (s : State) (F : Fld) (i : Nat) : (State.incSat s F i).errorN = s.errorN := (acts_incSat s F i).errorN rfl
@[simp] theorem State.incSat_rstLevel (s : State) (F : Fld) (i : Nat) : (State.incSat s F i).rstLevel = s.rstLevel := (acts_incSat s F i).rstLevel rfl
@[simp] theorem State.incSat_relStep (s : State) (F : Fld) (i : Nat) : (State.incSat s F i).relStep = s.relStep := (acts_incSat s F i).relStep rfl
@[simp] theorem State.incSat_railOut (s : State) (F : Fld) (i : Nat) : (State.incSat s F i).railOut = s.railOut := (acts_incSat s F i).railOut rfl
@[simp] theorem State.incSat_pwrgood (s : State) (F : Fld) (i : Nat) : (State.incSat s F i).pwrgood = s.pwrgood := (acts_incSat s F i).pwrgood rfl
@[simp] theorem State.incSat_resetInLow (s : State) (F : Fld) (i : Nat) : (State.incSat s F i).resetInLow = s.resetInLow := (acts_incSat s F i).resetInLow rfl
@[simp] theorem State.incSat_prochotLow (s : State) (F : Fld) (i : Nat) : (State.incSat s F i).prochotLow = s.prochotLow := (acts_incSat s F i).prochotLow rfl
@[simp] theorem State.incSat_thermtrip (s : State) (F : Fld) (i : Nat) : (State.incSat s F i).thermtrip = s.thermtrip := (acts_incSat s F i).thermtrip rfl
@[simp] theorem State.incSat_readyPin (s : State) (F : Fld) (i : Nat) : (State.incSat s F i).readyPin = s.readyPin := (acts_incSat s F i).readyPin rfl
@[simp] theorem State.incSat_unlocked (s : State) (F : Fld) (i : Nat) : (State.incSat s F i).unlocked = s.unlocked := (acts_incSat s F i).unlocked rfl
@[simp] theorem State.incSat_regFailed (s : State) (F : Fld) (i : Nat) : (State.incSat s F i).regFailed = s.regFailed := (acts_incSat s F i).regFailed rfl
@[simp] theorem State.incSat_pGoal (s : State) (F : Fld) (i : Nat) : (State.incSat s F i).pGoal = s.pGoal := (acts_incSat s F i).pGoal rfl
@[simp] theorem State.incSat_pStop (s : State) (F : Fld) (i : Nat) : (State.incSat s F i).pStop = s.pStop := (acts_incSat s F i).pStop rfl
@[simp] theorem State.incSat_pkgIdle (s : State) (F : Fld) (i : Nat) : (State.incSat s F i).pkgIdle = s.pkgIdle := (acts_incSat s F i).pkgIdle rfl
@[simp] theorem State.incSat_rtcAcc (s : State) (F : Fld) (i : Nat) : (State.incSat s F i).rtcAcc = s.rtcAcc := (acts_incSat s F i).rtcAcc rfl
@[simp] theorem State.incSat_partStep (s : State) (F : Fld) (i : Nat) : (State.incSat s F i).partStep = s.partStep := (acts_incSat s F i).partStep rfl
@[simp] theorem State.incSat_fuses (s : State) (F : Fld) (i : Nat) : (State.incSat s F i).fuses = s.fuses := (acts_incSat s F i).fuses rfl
@[simp] theorem State.incSat_rcv (s : State) (F : Fld) (i : Nat) : (State.incSat s F i).rcv = s.rcv := (acts_incSat s F i).rcv rfl
@[simp] theorem State.incSat_bootStep (s : State) (F : Fld) (i : Nat) : (State.incSat s F i).bootStep = s.bootStep := (acts_incSat s F i).bootStep rfl
@[simp] theorem State.incSat_flash (s : State) (F : Fld) (i : Nat) : (State.incSat s F i).flash = s.flash := (acts_incSat s F i).flash rfl
@[simp] theorem State.incSat_ksCopy (s : State) (F : Fld) (i : Nat) : (State.incSat s F i).ksCopy = s.ksCopy := (acts_incSat s F i).ksCopy rfl
@[simp] theorem State.incSat_kek (s : State) (F : Fld) (i : Nat) : (State.incSat s F i).kek = s.kek := (acts_incSat s F i).kek rfl
@[simp] theorem State.incSat_ksErased (s : State) (F : Fld) (i : Nat) : (State.incSat s F i).ksErased = s.ksErased := (acts_incSat s F i).ksErased rfl
@[simp] theorem State.incSat_fmKeys (s : State) (F : Fld) (i : Nat) : (State.incSat s F i).fmKeys = s.fmKeys := (acts_incSat s F i).fmKeys rfl
@[simp] theorem State.incSat_boot (s : State) (F : Fld) (i : Nat) : (State.incSat s F i).boot = s.boot := (acts_incSat s F i).boot rfl
@[simp] theorem State.incSat_spRsp (s : State) (F : Fld) (i : Nat) : (State.incSat s F i).spRsp = s.spRsp := (acts_incSat s F i).spRsp rfl
@[simp] theorem State.incSat_evidence (s : State) (F : Fld) (i : Nat) : (State.incSat s F i).evidence = s.evidence := (acts_incSat s F i).evidence rfl
@[simp] theorem State.incSat_mac (s : State) (F : Fld) (i : Nat) : (State.incSat s F i).mac = s.mac := (acts_incSat s F i).mac rfl
@[simp] theorem State.incSat_pages (s : State) (F : Fld) (i : Nat) : (State.incSat s F i).pages = s.pages := (acts_incSat s F i).pages rfl
@[simp] theorem State.incSat_spd (s : State) (F : Fld) (i : Nat) : (State.incSat s F i).spd = s.spd := (acts_incSat s F i).spd rfl
@[simp] theorem State.incSat_traceBuf (s : State) (F : Fld) (i : Nat) : (State.incSat s F i).traceBuf = s.traceBuf := (acts_incSat s F i).traceBuf rfl
@[simp] theorem State.incSat_snaps (s : State) (F : Fld) (i : Nat) : (State.incSat s F i).snaps = s.snaps := (acts_incSat s F i).snaps rfl
@[simp] theorem State.incSat_cnt (s : State) (F : Fld) (i : Nat) : (State.incSat s F i).cnt = s.cnt := (acts_incSat s F i).cnt rfl
@[simp] theorem State.incSat_ldl (s : State) (F : Fld) (i : Nat) : (State.incSat s F i).ldl = s.ldl := (acts_incSat s F i).ldl rfl
@[simp] theorem State.incSat_dbg (s : State) (F : Fld) (i : Nat) : (State.incSat s F i).dbg = s.dbg := (acts_incSat s F i).dbg rfl
@[simp] theorem State.incSat_lsio (s : State) (F : Fld) (i : Nat) : (State.incSat s F i).lsio = s.lsio := (acts_incSat s F i).lsio rfl
@[simp] theorem State.incSat_wdogNs (s : State) (F : Fld) (i : Nat) : (State.incSat s F i).wdogNs = s.wdogNs := (acts_incSat s F i).wdogNs rfl
@[simp] theorem State.incSat_cycAcc (s : State) (F : Fld) (i : Nat) : (State.incSat s F i).cycAcc = s.cycAcc := (acts_incSat s F i).cycAcc rfl
@[simp] theorem State.regWrite_pending (s : State) (r : RegId) (i : Nat) (w : W) : (State.regWrite s r i w).pending = s.pending := (acts_regWrite s r i w).pending rfl
@[simp] theorem State.regWrite_free (s : State) (r : RegId) (i : Nat) (w : W) : (State.regWrite s r i w).free = s.free := (acts_regWrite s r i w).free rfl
@[simp] theorem State.regWrite_stamp (s : State) (r : RegId) (i : Nat) (w : W) : (State.regWrite s r i w).stamp = s.stamp := (acts_regWrite s r i w).stamp rfl
@[simp] theorem State.regWrite_dtime (s : State) (r : RegId) (i : Nat) (w : W) : (State.regWrite s r i w).dtime = s.dtime := (acts_regWrite s r i w).dtime rfl
@[simp] theorem State.regWrite_rsp (s : State) (r : RegId) (i : Nat) (w : W) : (State.regWrite s r i w).rsp = s.rsp := (acts_regWrite s r i w).rsp rfl
@[simp] theorem State.regWrite_cores (s : State) (r : RegId) (i : Nat) (w : W) : (State.regWrite s r i w).cores = s.cores := (acts_regWrite s r i w).cores rfl
@[simp] theorem State.regWrite_mem (s : State) (r : RegId) (i : Nat) (w : W) : (State.regWrite s r i w).mem = s.mem := (acts_regWrite s r i w).mem rfl
@[simp] theorem State.regWrite_memPoison (s : State) (r : RegId) (i : Nat) (w : W) : (State.regWrite s r i w).memPoison = s.memPoison := (acts_regWrite s r i w).memPoison rfl
@[simp] theorem State.regWrite_chans (s : State) (r : RegId) (i : Nat) (w : W) : (State.regWrite s r i w).chans = s.chans := (acts_regWrite s r i w).chans rfl
@[simp] theorem State.regWrite_mcRsp (s : State) (r : RegId) (i : Nat) (w : W) : (State.regWrite s r i w).mcRsp = s.mcRsp := (acts_regWrite s r i w).mcRsp rfl
@[simp] theorem State.regWrite_opt (s : State) (r : RegId) (i : Nat) (w : W) : (State.regWrite s r i w).opt = s.opt := (acts_regWrite s r i w).opt rfl
@[simp] theorem State.regWrite_bootSrc (s : State) (r : RegId) (i : Nat) (w : W) : (State.regWrite s r i w).bootSrc = s.bootSrc := (acts_regWrite s r i w).bootSrc rfl
@[simp] theorem State.regWrite_recovSel (s : State) (r : RegId) (i : Nat) (w : W) : (State.regWrite s r i w).recovSel = s.recovSel := (acts_regWrite s r i w).recovSel rfl
@[simp] theorem State.regWrite_l3 (s : State) (r : RegId) (i : Nat) (w : W) : (State.regWrite s r i w).l3 = s.l3 := (acts_regWrite s r i w).l3 rfl
@[simp] theorem State.regWrite_depvb (s : State) (r : RegId) (i : Nat) (w : W) : (State.regWrite s r i w).depvb = s.depvb := (acts_regWrite s r i w).depvb rfl
@[simp] theorem State.regWrite_sieve (s : State) (r : RegId) (i : Nat) (w : W) : (State.regWrite s r i w).sieve = s.sieve := (acts_regWrite s r i w).sieve rfl
@[simp] theorem State.regWrite_trk (s : State) (r : RegId) (i : Nat) (w : W) : (State.regWrite s r i w).trk = s.trk := (acts_regWrite s r i w).trk rfl
@[simp] theorem State.regWrite_fair (s : State) (r : RegId) (i : Nat) (w : W) : (State.regWrite s r i w).fair = s.fair := (acts_regWrite s r i w).fair rfl
@[simp] theorem State.regWrite_slots (s : State) (r : RegId) (i : Nat) (w : W) : (State.regWrite s r i w).slots = s.slots := (acts_regWrite s r i w).slots rfl
@[simp] theorem State.regWrite_agentReqs (s : State) (r : RegId) (i : Nat) (w : W) : (State.regWrite s r i w).agentReqs = s.agentReqs := (acts_regWrite s r i w).agentReqs rfl
@[simp] theorem State.regWrite_ghosts (s : State) (r : RegId) (i : Nat) (w : W) : (State.regWrite s r i w).ghosts = s.ghosts := (acts_regWrite s r i w).ghosts rfl
@[simp] theorem State.regWrite_mesh (s : State) (r : RegId) (i : Nat) (w : W) : (State.regWrite s r i w).mesh = s.mesh := (acts_regWrite s r i w).mesh rfl
@[simp] theorem State.regWrite_txns (s : State) (r : RegId) (i : Nat) (w : W) : (State.regWrite s r i w).txns = s.txns := (acts_regWrite s r i w).txns rfl
@[simp] theorem State.regWrite_linkStopped (s : State) (r : RegId) (i : Nat) (w : W) : (State.regWrite s r i w).linkStopped = s.linkStopped := (acts_regWrite s r i w).linkStopped rfl
@[simp] theorem State.regWrite_lidHeld (s : State) (r : RegId) (i : Nat) (w : W) : (State.regWrite s r i w).lidHeld = s.lidHeld := (acts_regWrite s r i w).lidHeld rfl
@[simp] theorem State.regWrite_pfw (s : State) (r : RegId) (i : Nat) (w : W) : (State.regWrite s r i w).pfw = s.pfw := (acts_regWrite s r i w).pfw rfl
@[simp] theorem State.regWrite_wtCache (s : State) (r : RegId) (i : Nat) (w : W) : (State.regWrite s r i w).wtCache = s.wtCache := (acts_regWrite s r i w).wtCache rfl
@[simp] theorem State.regWrite_hartPart (s : State) (r : RegId) (i : Nat) (w : W) : (State.regWrite s r i w).hartPart = s.hartPart := (acts_regWrite s r i w).hartPart rfl
@[simp] theorem State.regWrite_pairs (s : State) (r : RegId) (i : Nat) (w : W) : (State.regWrite s r i w).pairs = s.pairs := (acts_regWrite s r i w).pairs rfl
@[simp] theorem State.regWrite_spn (s : State) (r : RegId) (i : Nat) (w : W) : (State.regWrite s r i w).spn = s.spn := (acts_regWrite s r i w).spn rfl
@[simp] theorem State.regWrite_spnChanged (s : State) (r : RegId) (i : Nat) (w : W) : (State.regWrite s r i w).spnChanged = s.spnChanged := (acts_regWrite s r i w).spnChanged rfl
@[simp] theorem State.regWrite_jrnRes (s : State) (r : RegId) (i : Nat) (w : W) : (State.regWrite s r i w).jrnRes = s.jrnRes := (acts_regWrite s r i w).jrnRes rfl
@[simp] theorem State.regWrite_jrnRecs (s : State) (r : RegId) (i : Nat) (w : W) : (State.regWrite s r i w).jrnRecs = s.jrnRecs := (acts_regWrite s r i w).jrnRecs rfl
@[simp] theorem State.regWrite_pubs (s : State) (r : RegId) (i : Nat) (w : W) : (State.regWrite s r i w).pubs = s.pubs := (acts_regWrite s r i w).pubs rfl
@[simp] theorem State.regWrite_pubFlits (s : State) (r : RegId) (i : Nat) (w : W) : (State.regWrite s r i w).pubFlits = s.pubFlits := (acts_regWrite s r i w).pubFlits rfl
@[simp] theorem State.regWrite_repl (s : State) (r : RegId) (i : Nat) (w : W) : (State.regWrite s r i w).repl = s.repl := (acts_regWrite s r i w).repl rfl
@[simp] theorem State.regWrite_ports (s : State) (r : RegId) (i : Nat) (w : W) : (State.regWrite s r i w).ports = s.ports := (acts_regWrite s r i w).ports rfl
@[simp] theorem State.regWrite_fabIn (s : State) (r : RegId) (i : Nat) (w : W) : (State.regWrite s r i w).fabIn = s.fabIn := (acts_regWrite s r i w).fabIn rfl
@[simp] theorem State.regWrite_fabRem (s : State) (r : RegId) (i : Nat) (w : W) : (State.regWrite s r i w).fabRem = s.fabRem := (acts_regWrite s r i w).fabRem rfl
@[simp] theorem State.regWrite_fabDropped (s : State) (r : RegId) (i : Nat) (w : W) : (State.regWrite s r i w).fabDropped = s.fabDropped := (acts_regWrite s r i w).fabDropped rfl
@[simp] theorem State.regWrite_remote (s : State) (r : RegId) (i : Nat) (w : W) : (State.regWrite s r i w).remote = s.remote := (acts_regWrite s r i w).remote rfl
@[simp] theorem State.regWrite_sqNext (s : State) (r : RegId) (i : Nat) (w : W) : (State.regWrite s r i w).sqNext = s.sqNext := (acts_regWrite s r i w).sqNext rfl
@[simp] theorem State.regWrite_sqDone (s : State) (r : RegId) (i : Nat) (w : W) : (State.regWrite s r i w).sqDone = s.sqDone := (acts_regWrite s r i w).sqDone rfl
@[simp] theorem State.regWrite_slew (s : State) (r : RegId) (i : Nat) (w : W) : (State.regWrite s r i w).slew = s.slew := (acts_regWrite s r i w).slew rfl
@[simp] theorem State.regWrite_slewAcc (s : State) (r : RegId) (i : Nat) (w : W) : (State.regWrite s r i w).slewAcc = s.slewAcc := (acts_regWrite s r i w).slewAcc rfl
@[simp] theorem State.regWrite_pcieTags (s : State) (r : RegId) (i : Nat) (w : W) : (State.regWrite s r i w).pcieTags = s.pcieTags := (acts_regWrite s r i w).pcieTags rfl
@[simp] theorem State.regWrite_pcieOut (s : State) (r : RegId) (i : Nat) (w : W) : (State.regWrite s r i w).pcieOut = s.pcieOut := (acts_regWrite s r i w).pcieOut rfl
@[simp] theorem State.regWrite_pcieCpl (s : State) (r : RegId) (i : Nat) (w : W) : (State.regWrite s r i w).pcieCpl = s.pcieCpl := (acts_regWrite s r i w).pcieCpl rfl
@[simp] theorem State.regWrite_portReset (s : State) (r : RegId) (i : Nat) (w : W) : (State.regWrite s r i w).portReset = s.portReset := (acts_regWrite s r i w).portReset rfl
@[simp] theorem State.regWrite_pcieLate (s : State) (r : RegId) (i : Nat) (w : W) : (State.regWrite s r i w).pcieLate = s.pcieLate := (acts_regWrite s r i w).pcieLate rfl
@[simp] theorem State.regWrite_msiLost (s : State) (r : RegId) (i : Nat) (w : W) : (State.regWrite s r i w).msiLost = s.msiLost := (acts_regWrite s r i w).msiLost rfl
@[simp] theorem State.regWrite_ctxCache (s : State) (r : RegId) (i : Nat) (w : W) : (State.regWrite s r i w).ctxCache = s.ctxCache := (acts_regWrite s r i w).ctxCache rfl
@[simp] theorem State.regWrite_ioTlb (s : State) (r : RegId) (i : Nat) (w : W) : (State.regWrite s r i w).ioTlb = s.ioTlb := (acts_regWrite s r i w).ioTlb rfl
@[simp] theorem State.regWrite_jobs (s : State) (r : RegId) (i : Nat) (w : W) : (State.regWrite s r i w).jobs = s.jobs := (acts_regWrite s r i w).jobs rfl
@[simp] theorem State.regWrite_cphTurn (s : State) (r : RegId) (i : Nat) (w : W) : (State.regWrite s r i w).cphTurn = s.cphTurn := (acts_regWrite s r i w).cphTurn rfl
@[simp] theorem State.regWrite_cphKeys (s : State) (r : RegId) (i : Nat) (w : W) : (State.regWrite s r i w).cphKeys = s.cphKeys := (acts_regWrite s r i w).cphKeys rfl
@[simp] theorem State.regWrite_keys (s : State) (r : RegId) (i : Nat) (w : W) : (State.regWrite s r i w).keys = s.keys := (acts_regWrite s r i w).keys rfl
@[simp] theorem State.regWrite_keyNext (s : State) (r : RegId) (i : Nat) (w : W) : (State.regWrite s r i w).keyNext = s.keyNext := (acts_regWrite s r i w).keyNext rfl
@[simp] theorem State.regWrite_keyFreed (s : State) (r : RegId) (i : Nat) (w : W) : (State.regWrite s r i w).keyFreed = s.keyFreed := (acts_regWrite s r i w).keyFreed rfl
@[simp] theorem State.regWrite_srcHigh (s : State) (r : RegId) (i : Nat) (w : W) : (State.regWrite s r i w).srcHigh = s.srcHigh := (acts_regWrite s r i w).srcHigh rfl
@[simp] theorem State.regWrite_pend (s : State) (r : RegId) (i : Nat) (w : W) : (State.regWrite s r i w).pend = s.pend := (acts_regWrite s r i w).pend rfl
@[simp] theorem State.regWrite_inServ (s : State) (r : RegId) (i : Nat) (w : W) : (State.regWrite s r i w).inServ = s.inServ := (acts_regWrite s r i w).inServ rfl
@[simp] theorem State.regWrite_nmiTaken (s : State) (r : RegId) (i : Nat) (w : W) : (State.regWrite s r i w).nmiTaken = s.nmiTaken := (acts_regWrite s r i w).nmiTaken rfl
@[simp] theorem State.regWrite_records (s : State) (r : RegId) (i : Nat) (w : W) : (State.regWrite s r i w).records = s.records := (acts_regWrite s r i w).records rfl
@[simp] theorem State.regWrite_limits (s : State) (r : RegId) (i : Nat) (w : W) : (State.regWrite s r i w).limits = s.limits := (acts_regWrite s r i w).limits rfl
@[simp] theorem State.regWrite_withheld (s : State) (r : RegId) (i : Nat) (w : W) : (State.regWrite s r i w).withheld = s.withheld := (acts_regWrite s r i w).withheld rfl
@[simp] theorem State.regWrite_errorN (s : State) (r : RegId) (i : Nat) (w : W) : (State.regWrite s r i w).errorN = s.errorN := (acts_regWrite s r i w).errorN rfl
@[simp] theorem State.regWrite_rstLevel (s : State) (r : RegId) (i : Nat) (w : W) : (State.regWrite s r i w).rstLevel = s.rstLevel := (acts_regWrite s r i w).rstLevel rfl
@[simp] theorem State.regWrite_relStep (s : State) (r : RegId) (i : Nat) (w : W) : (State.regWrite s r i w).relStep = s.relStep := (acts_regWrite s r i w).relStep rfl
@[simp] theorem State.regWrite_railOut (s : State) (r : RegId) (i : Nat) (w : W) : (State.regWrite s r i w).railOut = s.railOut := (acts_regWrite s r i w).railOut rfl
@[simp] theorem State.regWrite_pwrgood (s : State) (r : RegId) (i : Nat) (w : W) : (State.regWrite s r i w).pwrgood = s.pwrgood := (acts_regWrite s r i w).pwrgood rfl
@[simp] theorem State.regWrite_resetInLow (s : State) (r : RegId) (i : Nat) (w : W) : (State.regWrite s r i w).resetInLow = s.resetInLow := (acts_regWrite s r i w).resetInLow rfl
@[simp] theorem State.regWrite_prochotLow (s : State) (r : RegId) (i : Nat) (w : W) : (State.regWrite s r i w).prochotLow = s.prochotLow := (acts_regWrite s r i w).prochotLow rfl
@[simp] theorem State.regWrite_thermtrip (s : State) (r : RegId) (i : Nat) (w : W) : (State.regWrite s r i w).thermtrip = s.thermtrip := (acts_regWrite s r i w).thermtrip rfl
@[simp] theorem State.regWrite_readyPin (s : State) (r : RegId) (i : Nat) (w : W) : (State.regWrite s r i w).readyPin = s.readyPin := (acts_regWrite s r i w).readyPin rfl
@[simp] theorem State.regWrite_unlocked (s : State) (r : RegId) (i : Nat) (w : W) : (State.regWrite s r i w).unlocked = s.unlocked := (acts_regWrite s r i w).unlocked rfl
@[simp] theorem State.regWrite_regFailed (s : State) (r : RegId) (i : Nat) (w : W) : (State.regWrite s r i w).regFailed = s.regFailed := (acts_regWrite s r i w).regFailed rfl
@[simp] theorem State.regWrite_pGoal (s : State) (r : RegId) (i : Nat) (w : W) : (State.regWrite s r i w).pGoal = s.pGoal := (acts_regWrite s r i w).pGoal rfl
@[simp] theorem State.regWrite_pStop (s : State) (r : RegId) (i : Nat) (w : W) : (State.regWrite s r i w).pStop = s.pStop := (acts_regWrite s r i w).pStop rfl
@[simp] theorem State.regWrite_pkgIdle (s : State) (r : RegId) (i : Nat) (w : W) : (State.regWrite s r i w).pkgIdle = s.pkgIdle := (acts_regWrite s r i w).pkgIdle rfl
@[simp] theorem State.regWrite_rtcAcc (s : State) (r : RegId) (i : Nat) (w : W) : (State.regWrite s r i w).rtcAcc = s.rtcAcc := (acts_regWrite s r i w).rtcAcc rfl
@[simp] theorem State.regWrite_partStep (s : State) (r : RegId) (i : Nat) (w : W) : (State.regWrite s r i w).partStep = s.partStep := (acts_regWrite s r i w).partStep rfl
@[simp] theorem State.regWrite_fuses (s : State) (r : RegId) (i : Nat) (w : W) : (State.regWrite s r i w).fuses = s.fuses := (acts_regWrite s r i w).fuses rfl
@[simp] theorem State.regWrite_rcv (s : State) (r : RegId) (i : Nat) (w : W) : (State.regWrite s r i w).rcv = s.rcv := (acts_regWrite s r i w).rcv rfl
@[simp] theorem State.regWrite_bootStep (s : State) (r : RegId) (i : Nat) (w : W) : (State.regWrite s r i w).bootStep = s.bootStep := (acts_regWrite s r i w).bootStep rfl
@[simp] theorem State.regWrite_flash (s : State) (r : RegId) (i : Nat) (w : W) : (State.regWrite s r i w).flash = s.flash := (acts_regWrite s r i w).flash rfl
@[simp] theorem State.regWrite_ksCopy (s : State) (r : RegId) (i : Nat) (w : W) : (State.regWrite s r i w).ksCopy = s.ksCopy := (acts_regWrite s r i w).ksCopy rfl
@[simp] theorem State.regWrite_kek (s : State) (r : RegId) (i : Nat) (w : W) : (State.regWrite s r i w).kek = s.kek := (acts_regWrite s r i w).kek rfl
@[simp] theorem State.regWrite_ksErased (s : State) (r : RegId) (i : Nat) (w : W) : (State.regWrite s r i w).ksErased = s.ksErased := (acts_regWrite s r i w).ksErased rfl
@[simp] theorem State.regWrite_fmKeys (s : State) (r : RegId) (i : Nat) (w : W) : (State.regWrite s r i w).fmKeys = s.fmKeys := (acts_regWrite s r i w).fmKeys rfl
@[simp] theorem State.regWrite_boot (s : State) (r : RegId) (i : Nat) (w : W) : (State.regWrite s r i w).boot = s.boot := (acts_regWrite s r i w).boot rfl
@[simp] theorem State.regWrite_spRsp (s : State) (r : RegId) (i : Nat) (w : W) : (State.regWrite s r i w).spRsp = s.spRsp := (acts_regWrite s r i w).spRsp rfl
@[simp] theorem State.regWrite_evidence (s : State) (r : RegId) (i : Nat) (w : W) : (State.regWrite s r i w).evidence = s.evidence := (acts_regWrite s r i w).evidence rfl
@[simp] theorem State.regWrite_mac (s : State) (r : RegId) (i : Nat) (w : W) : (State.regWrite s r i w).mac = s.mac := (acts_regWrite s r i w).mac rfl
@[simp] theorem State.regWrite_pages (s : State) (r : RegId) (i : Nat) (w : W) : (State.regWrite s r i w).pages = s.pages := (acts_regWrite s r i w).pages rfl
@[simp] theorem State.regWrite_spd (s : State) (r : RegId) (i : Nat) (w : W) : (State.regWrite s r i w).spd = s.spd := (acts_regWrite s r i w).spd rfl
@[simp] theorem State.regWrite_traceBuf (s : State) (r : RegId) (i : Nat) (w : W) : (State.regWrite s r i w).traceBuf = s.traceBuf := (acts_regWrite s r i w).traceBuf rfl
@[simp] theorem State.regWrite_snaps (s : State) (r : RegId) (i : Nat) (w : W) : (State.regWrite s r i w).snaps = s.snaps := (acts_regWrite s r i w).snaps rfl
@[simp] theorem State.regWrite_cnt (s : State) (r : RegId) (i : Nat) (w : W) : (State.regWrite s r i w).cnt = s.cnt := (acts_regWrite s r i w).cnt rfl
@[simp] theorem State.regWrite_ldl (s : State) (r : RegId) (i : Nat) (w : W) : (State.regWrite s r i w).ldl = s.ldl := (acts_regWrite s r i w).ldl rfl
@[simp] theorem State.regWrite_dbg (s : State) (r : RegId) (i : Nat) (w : W) : (State.regWrite s r i w).dbg = s.dbg := (acts_regWrite s r i w).dbg rfl
@[simp] theorem State.regWrite_lsio (s : State) (r : RegId) (i : Nat) (w : W) : (State.regWrite s r i w).lsio = s.lsio := (acts_regWrite s r i w).lsio rfl
@[simp] theorem State.regWrite_wdogNs (s : State) (r : RegId) (i : Nat) (w : W) : (State.regWrite s r i w).wdogNs = s.wdogNs := (acts_regWrite s r i w).wdogNs rfl
@[simp] theorem State.regWrite_cycAcc (s : State) (r : RegId) (i : Nat) (w : W) : (State.regWrite s r i w).cycAcc = s.cycAcc := (acts_regWrite s r i w).cycAcc rfl
@[simp] theorem State.setCore_pending (s : State) (c : Nat) (k : Core) : (State.setCore s c k).pending = s.pending := (acts_setCore s c k).pending rfl
@[simp] theorem State.setCore_free (s : State) (c : Nat) (k : Core) : (State.setCore s c k).free = s.free := (acts_setCore s c k).free rfl
@[simp] theorem State.setCore_stamp (s : State) (c : Nat) (k : Core) : (State.setCore s c k).stamp = s.stamp := (acts_setCore s c k).stamp rfl
@[simp] theorem State.setCore_dtime (s : State) (c : Nat) (k : Core) : (State.setCore s c k).dtime = s.dtime := (acts_setCore s c k).dtime rfl
@[simp] theorem State.setCore_rsp (s : State) (c : Nat) (k : Core) : (State.setCore s c k).rsp = s.rsp := (acts_setCore s c k).rsp rfl
@[simp] theorem State.setCore_mem (s : State) (c : Nat) (k : Core) : (State.setCore s c k).mem = s.mem := (acts_setCore s c k).mem rfl
@[simp] theorem State.setCore_memPoison (s : State) (c : Nat) (k : Core) : (State.setCore s c k).memPoison = s.memPoison := (acts_setCore s c k).memPoison rfl
@[simp] theorem State.setCore_chans (s : State) (c : Nat) (k : Core) : (State.setCore s c k).chans = s.chans := (acts_setCore s c k).chans rfl
@[simp] theorem State.setCore_mcRsp (s : State) (c : Nat) (k : Core) : (State.setCore s c k).mcRsp = s.mcRsp := (acts_setCore s c k).mcRsp rfl
@[simp] theorem State.setCore_opt (s : State) (c : Nat) (k : Core) : (State.setCore s c k).opt = s.opt := (acts_setCore s c k).opt rfl
@[simp] theorem State.setCore_bootSrc (s : State) (c : Nat) (k : Core) : (State.setCore s c k).bootSrc = s.bootSrc := (acts_setCore s c k).bootSrc rfl
@[simp] theorem State.setCore_recovSel (s : State) (c : Nat) (k : Core) : (State.setCore s c k).recovSel = s.recovSel := (acts_setCore s c k).recovSel rfl
@[simp] theorem State.setCore_l3 (s : State) (c : Nat) (k : Core) : (State.setCore s c k).l3 = s.l3 := (acts_setCore s c k).l3 rfl
@[simp] theorem State.setCore_depvb (s : State) (c : Nat) (k : Core) : (State.setCore s c k).depvb = s.depvb := (acts_setCore s c k).depvb rfl
@[simp] theorem State.setCore_sieve (s : State) (c : Nat) (k : Core) : (State.setCore s c k).sieve = s.sieve := (acts_setCore s c k).sieve rfl
@[simp] theorem State.setCore_trk (s : State) (c : Nat) (k : Core) : (State.setCore s c k).trk = s.trk := (acts_setCore s c k).trk rfl
@[simp] theorem State.setCore_fair (s : State) (c : Nat) (k : Core) : (State.setCore s c k).fair = s.fair := (acts_setCore s c k).fair rfl
@[simp] theorem State.setCore_slots (s : State) (c : Nat) (k : Core) : (State.setCore s c k).slots = s.slots := (acts_setCore s c k).slots rfl
@[simp] theorem State.setCore_agentReqs (s : State) (c : Nat) (k : Core) : (State.setCore s c k).agentReqs = s.agentReqs := (acts_setCore s c k).agentReqs rfl
@[simp] theorem State.setCore_ghosts (s : State) (c : Nat) (k : Core) : (State.setCore s c k).ghosts = s.ghosts := (acts_setCore s c k).ghosts rfl
@[simp] theorem State.setCore_mesh (s : State) (c : Nat) (k : Core) : (State.setCore s c k).mesh = s.mesh := (acts_setCore s c k).mesh rfl
@[simp] theorem State.setCore_txns (s : State) (c : Nat) (k : Core) : (State.setCore s c k).txns = s.txns := (acts_setCore s c k).txns rfl
@[simp] theorem State.setCore_linkStopped (s : State) (c : Nat) (k : Core) : (State.setCore s c k).linkStopped = s.linkStopped := (acts_setCore s c k).linkStopped rfl
@[simp] theorem State.setCore_lidHeld (s : State) (c : Nat) (k : Core) : (State.setCore s c k).lidHeld = s.lidHeld := (acts_setCore s c k).lidHeld rfl
@[simp] theorem State.setCore_pfw (s : State) (c : Nat) (k : Core) : (State.setCore s c k).pfw = s.pfw := (acts_setCore s c k).pfw rfl
@[simp] theorem State.setCore_wtCache (s : State) (c : Nat) (k : Core) : (State.setCore s c k).wtCache = s.wtCache := (acts_setCore s c k).wtCache rfl
@[simp] theorem State.setCore_hartPart (s : State) (c : Nat) (k : Core) : (State.setCore s c k).hartPart = s.hartPart := (acts_setCore s c k).hartPart rfl
@[simp] theorem State.setCore_pairs (s : State) (c : Nat) (k : Core) : (State.setCore s c k).pairs = s.pairs := (acts_setCore s c k).pairs rfl
@[simp] theorem State.setCore_spn (s : State) (c : Nat) (k : Core) : (State.setCore s c k).spn = s.spn := (acts_setCore s c k).spn rfl
@[simp] theorem State.setCore_spnChanged (s : State) (c : Nat) (k : Core) : (State.setCore s c k).spnChanged = s.spnChanged := (acts_setCore s c k).spnChanged rfl
@[simp] theorem State.setCore_jrnRes (s : State) (c : Nat) (k : Core) : (State.setCore s c k).jrnRes = s.jrnRes := (acts_setCore s c k).jrnRes rfl
@[simp] theorem State.setCore_jrnRecs (s : State) (c : Nat) (k : Core) : (State.setCore s c k).jrnRecs = s.jrnRecs := (acts_setCore s c k).jrnRecs rfl
@[simp] theorem State.setCore_pubs (s : State) (c : Nat) (k : Core) : (State.setCore s c k).pubs = s.pubs := (acts_setCore s c k).pubs rfl
@[simp] theorem State.setCore_pubFlits (s : State) (c : Nat) (k : Core) : (State.setCore s c k).pubFlits = s.pubFlits := (acts_setCore s c k).pubFlits rfl
@[simp] theorem State.setCore_repl (s : State) (c : Nat) (k : Core) : (State.setCore s c k).repl = s.repl := (acts_setCore s c k).repl rfl
@[simp] theorem State.setCore_ports (s : State) (c : Nat) (k : Core) : (State.setCore s c k).ports = s.ports := (acts_setCore s c k).ports rfl
@[simp] theorem State.setCore_fabIn (s : State) (c : Nat) (k : Core) : (State.setCore s c k).fabIn = s.fabIn := (acts_setCore s c k).fabIn rfl
@[simp] theorem State.setCore_fabRem (s : State) (c : Nat) (k : Core) : (State.setCore s c k).fabRem = s.fabRem := (acts_setCore s c k).fabRem rfl
@[simp] theorem State.setCore_fabDropped (s : State) (c : Nat) (k : Core) : (State.setCore s c k).fabDropped = s.fabDropped := (acts_setCore s c k).fabDropped rfl
@[simp] theorem State.setCore_remote (s : State) (c : Nat) (k : Core) : (State.setCore s c k).remote = s.remote := (acts_setCore s c k).remote rfl
@[simp] theorem State.setCore_sqNext (s : State) (c : Nat) (k : Core) : (State.setCore s c k).sqNext = s.sqNext := (acts_setCore s c k).sqNext rfl
@[simp] theorem State.setCore_sqDone (s : State) (c : Nat) (k : Core) : (State.setCore s c k).sqDone = s.sqDone := (acts_setCore s c k).sqDone rfl
@[simp] theorem State.setCore_slew (s : State) (c : Nat) (k : Core) : (State.setCore s c k).slew = s.slew := (acts_setCore s c k).slew rfl
@[simp] theorem State.setCore_slewAcc (s : State) (c : Nat) (k : Core) : (State.setCore s c k).slewAcc = s.slewAcc := (acts_setCore s c k).slewAcc rfl
@[simp] theorem State.setCore_pcieTags (s : State) (c : Nat) (k : Core) : (State.setCore s c k).pcieTags = s.pcieTags := (acts_setCore s c k).pcieTags rfl
@[simp] theorem State.setCore_pcieOut (s : State) (c : Nat) (k : Core) : (State.setCore s c k).pcieOut = s.pcieOut := (acts_setCore s c k).pcieOut rfl
@[simp] theorem State.setCore_pcieCpl (s : State) (c : Nat) (k : Core) : (State.setCore s c k).pcieCpl = s.pcieCpl := (acts_setCore s c k).pcieCpl rfl
@[simp] theorem State.setCore_portReset (s : State) (c : Nat) (k : Core) : (State.setCore s c k).portReset = s.portReset := (acts_setCore s c k).portReset rfl
@[simp] theorem State.setCore_pcieLate (s : State) (c : Nat) (k : Core) : (State.setCore s c k).pcieLate = s.pcieLate := (acts_setCore s c k).pcieLate rfl
@[simp] theorem State.setCore_msiLost (s : State) (c : Nat) (k : Core) : (State.setCore s c k).msiLost = s.msiLost := (acts_setCore s c k).msiLost rfl
@[simp] theorem State.setCore_ctxCache (s : State) (c : Nat) (k : Core) : (State.setCore s c k).ctxCache = s.ctxCache := (acts_setCore s c k).ctxCache rfl
@[simp] theorem State.setCore_ioTlb (s : State) (c : Nat) (k : Core) : (State.setCore s c k).ioTlb = s.ioTlb := (acts_setCore s c k).ioTlb rfl
@[simp] theorem State.setCore_jobs (s : State) (c : Nat) (k : Core) : (State.setCore s c k).jobs = s.jobs := (acts_setCore s c k).jobs rfl
@[simp] theorem State.setCore_cphTurn (s : State) (c : Nat) (k : Core) : (State.setCore s c k).cphTurn = s.cphTurn := (acts_setCore s c k).cphTurn rfl
@[simp] theorem State.setCore_cphKeys (s : State) (c : Nat) (k : Core) : (State.setCore s c k).cphKeys = s.cphKeys := (acts_setCore s c k).cphKeys rfl
@[simp] theorem State.setCore_keys (s : State) (c : Nat) (k : Core) : (State.setCore s c k).keys = s.keys := (acts_setCore s c k).keys rfl
@[simp] theorem State.setCore_keyNext (s : State) (c : Nat) (k : Core) : (State.setCore s c k).keyNext = s.keyNext := (acts_setCore s c k).keyNext rfl
@[simp] theorem State.setCore_keyFreed (s : State) (c : Nat) (k : Core) : (State.setCore s c k).keyFreed = s.keyFreed := (acts_setCore s c k).keyFreed rfl
@[simp] theorem State.setCore_srcHigh (s : State) (c : Nat) (k : Core) : (State.setCore s c k).srcHigh = s.srcHigh := (acts_setCore s c k).srcHigh rfl
@[simp] theorem State.setCore_pend (s : State) (c : Nat) (k : Core) : (State.setCore s c k).pend = s.pend := (acts_setCore s c k).pend rfl
@[simp] theorem State.setCore_inServ (s : State) (c : Nat) (k : Core) : (State.setCore s c k).inServ = s.inServ := (acts_setCore s c k).inServ rfl
@[simp] theorem State.setCore_nmiTaken (s : State) (c : Nat) (k : Core) : (State.setCore s c k).nmiTaken = s.nmiTaken := (acts_setCore s c k).nmiTaken rfl
@[simp] theorem State.setCore_records (s : State) (c : Nat) (k : Core) : (State.setCore s c k).records = s.records := (acts_setCore s c k).records rfl
@[simp] theorem State.setCore_limits (s : State) (c : Nat) (k : Core) : (State.setCore s c k).limits = s.limits := (acts_setCore s c k).limits rfl
@[simp] theorem State.setCore_withheld (s : State) (c : Nat) (k : Core) : (State.setCore s c k).withheld = s.withheld := (acts_setCore s c k).withheld rfl
@[simp] theorem State.setCore_errorN (s : State) (c : Nat) (k : Core) : (State.setCore s c k).errorN = s.errorN := (acts_setCore s c k).errorN rfl
@[simp] theorem State.setCore_rstLevel (s : State) (c : Nat) (k : Core) : (State.setCore s c k).rstLevel = s.rstLevel := (acts_setCore s c k).rstLevel rfl
@[simp] theorem State.setCore_relStep (s : State) (c : Nat) (k : Core) : (State.setCore s c k).relStep = s.relStep := (acts_setCore s c k).relStep rfl
@[simp] theorem State.setCore_railOut (s : State) (c : Nat) (k : Core) : (State.setCore s c k).railOut = s.railOut := (acts_setCore s c k).railOut rfl
@[simp] theorem State.setCore_pwrgood (s : State) (c : Nat) (k : Core) : (State.setCore s c k).pwrgood = s.pwrgood := (acts_setCore s c k).pwrgood rfl
@[simp] theorem State.setCore_resetInLow (s : State) (c : Nat) (k : Core) : (State.setCore s c k).resetInLow = s.resetInLow := (acts_setCore s c k).resetInLow rfl
@[simp] theorem State.setCore_prochotLow (s : State) (c : Nat) (k : Core) : (State.setCore s c k).prochotLow = s.prochotLow := (acts_setCore s c k).prochotLow rfl
@[simp] theorem State.setCore_thermtrip (s : State) (c : Nat) (k : Core) : (State.setCore s c k).thermtrip = s.thermtrip := (acts_setCore s c k).thermtrip rfl
@[simp] theorem State.setCore_readyPin (s : State) (c : Nat) (k : Core) : (State.setCore s c k).readyPin = s.readyPin := (acts_setCore s c k).readyPin rfl
@[simp] theorem State.setCore_unlocked (s : State) (c : Nat) (k : Core) : (State.setCore s c k).unlocked = s.unlocked := (acts_setCore s c k).unlocked rfl
@[simp] theorem State.setCore_regFailed (s : State) (c : Nat) (k : Core) : (State.setCore s c k).regFailed = s.regFailed := (acts_setCore s c k).regFailed rfl
@[simp] theorem State.setCore_pGoal (s : State) (c : Nat) (k : Core) : (State.setCore s c k).pGoal = s.pGoal := (acts_setCore s c k).pGoal rfl
@[simp] theorem State.setCore_pStop (s : State) (c : Nat) (k : Core) : (State.setCore s c k).pStop = s.pStop := (acts_setCore s c k).pStop rfl
@[simp] theorem State.setCore_pkgIdle (s : State) (c : Nat) (k : Core) : (State.setCore s c k).pkgIdle = s.pkgIdle := (acts_setCore s c k).pkgIdle rfl
@[simp] theorem State.setCore_rtcAcc (s : State) (c : Nat) (k : Core) : (State.setCore s c k).rtcAcc = s.rtcAcc := (acts_setCore s c k).rtcAcc rfl
@[simp] theorem State.setCore_partStep (s : State) (c : Nat) (k : Core) : (State.setCore s c k).partStep = s.partStep := (acts_setCore s c k).partStep rfl
@[simp] theorem State.setCore_fuses (s : State) (c : Nat) (k : Core) : (State.setCore s c k).fuses = s.fuses := (acts_setCore s c k).fuses rfl
@[simp] theorem State.setCore_rcv (s : State) (c : Nat) (k : Core) : (State.setCore s c k).rcv = s.rcv := (acts_setCore s c k).rcv rfl
@[simp] theorem State.setCore_bootStep (s : State) (c : Nat) (k : Core) : (State.setCore s c k).bootStep = s.bootStep := (acts_setCore s c k).bootStep rfl
@[simp] theorem State.setCore_flash (s : State) (c : Nat) (k : Core) : (State.setCore s c k).flash = s.flash := (acts_setCore s c k).flash rfl
@[simp] theorem State.setCore_ksCopy (s : State) (c : Nat) (k : Core) : (State.setCore s c k).ksCopy = s.ksCopy := (acts_setCore s c k).ksCopy rfl
@[simp] theorem State.setCore_kek (s : State) (c : Nat) (k : Core) : (State.setCore s c k).kek = s.kek := (acts_setCore s c k).kek rfl
@[simp] theorem State.setCore_ksErased (s : State) (c : Nat) (k : Core) : (State.setCore s c k).ksErased = s.ksErased := (acts_setCore s c k).ksErased rfl
@[simp] theorem State.setCore_fmKeys (s : State) (c : Nat) (k : Core) : (State.setCore s c k).fmKeys = s.fmKeys := (acts_setCore s c k).fmKeys rfl
@[simp] theorem State.setCore_boot (s : State) (c : Nat) (k : Core) : (State.setCore s c k).boot = s.boot := (acts_setCore s c k).boot rfl
@[simp] theorem State.setCore_spRsp (s : State) (c : Nat) (k : Core) : (State.setCore s c k).spRsp = s.spRsp := (acts_setCore s c k).spRsp rfl
@[simp] theorem State.setCore_evidence (s : State) (c : Nat) (k : Core) : (State.setCore s c k).evidence = s.evidence := (acts_setCore s c k).evidence rfl
@[simp] theorem State.setCore_mac (s : State) (c : Nat) (k : Core) : (State.setCore s c k).mac = s.mac := (acts_setCore s c k).mac rfl
@[simp] theorem State.setCore_pages (s : State) (c : Nat) (k : Core) : (State.setCore s c k).pages = s.pages := (acts_setCore s c k).pages rfl
@[simp] theorem State.setCore_spd (s : State) (c : Nat) (k : Core) : (State.setCore s c k).spd = s.spd := (acts_setCore s c k).spd rfl
@[simp] theorem State.setCore_traceBuf (s : State) (c : Nat) (k : Core) : (State.setCore s c k).traceBuf = s.traceBuf := (acts_setCore s c k).traceBuf rfl
@[simp] theorem State.setCore_snaps (s : State) (c : Nat) (k : Core) : (State.setCore s c k).snaps = s.snaps := (acts_setCore s c k).snaps rfl
@[simp] theorem State.setCore_cnt (s : State) (c : Nat) (k : Core) : (State.setCore s c k).cnt = s.cnt := (acts_setCore s c k).cnt rfl
@[simp] theorem State.setCore_ldl (s : State) (c : Nat) (k : Core) : (State.setCore s c k).ldl = s.ldl := (acts_setCore s c k).ldl rfl
@[simp] theorem State.setCore_dbg (s : State) (c : Nat) (k : Core) : (State.setCore s c k).dbg = s.dbg := (acts_setCore s c k).dbg rfl
@[simp] theorem State.setCore_lsio (s : State) (c : Nat) (k : Core) : (State.setCore s c k).lsio = s.lsio := (acts_setCore s c k).lsio rfl
@[simp] theorem State.setCore_wdogNs (s : State) (c : Nat) (k : Core) : (State.setCore s c k).wdogNs = s.wdogNs := (acts_setCore s c k).wdogNs rfl
@[simp] theorem State.setCore_cycAcc (s : State) (c : Nat) (k : Core) : (State.setCore s c k).cycAcc = s.cycAcc := (acts_setCore s c k).cycAcc rfl
@[simp] theorem State.rd_setCore (s : State) (c : Nat) (k : Core) (q : RegId) (j : Nat) : (State.setCore s c k).rd q j = s.rd q j := (acts_setCore s c k).reg q j (Nat.zero_testBit _)
@[simp] theorem State.fld_setCore (s : State) (c : Nat) (k : Core) (F : Fld) (j : Nat) : (State.setCore s c k).fld F j = s.fld F j := (acts_setCore s c k).fld F j (Nat.zero_testBit _)

@[simp] theorem State.onCore_pending (s : State) (c : Nat) (f : Core → Core) : (State.onCore s c f).pending = s.pending := (acts_onCore s c f).pending rfl
@[simp] theorem State.onCore_free (s : State) (c : Nat) (f : Core → Core) : (State.onCore s c f).free = s.free := (acts_onCore s c f).free rfl
@[simp] theorem State.onCore_stamp (s : State) (c : Nat) (f : Core → Core) : (State.onCore s c f).stamp = s.stamp := (acts_onCore s c f).stamp rfl
@[simp] theorem State.onCore_dtime (s : State) (c : Nat) (f : Core → Core) : (State.onCore s c f).dtime = s.dtime := (acts_onCore s c f).dtime rfl
@[simp] theorem State.onCore_rsp (s : State) (c : Nat) (f : Core → Core) : (State.onCore s c f).rsp = s.rsp := (acts_onCore s c f).rsp rfl
@[simp] theorem State.onCore_mem (s : State) (c : Nat) (f : Core → Core) : (State.onCore s c f).mem = s.mem := (acts_onCore s c f).mem rfl
@[simp] theorem State.onCore_memPoison (s : State) (c : Nat) (f : Core → Core) : (State.onCore s c f).memPoison = s.memPoison := (acts_onCore s c f).memPoison rfl
@[simp] theorem State.onCore_chans (s : State) (c : Nat) (f : Core → Core) : (State.onCore s c f).chans = s.chans := (acts_onCore s c f).chans rfl
@[simp] theorem State.onCore_mcRsp (s : State) (c : Nat) (f : Core → Core) : (State.onCore s c f).mcRsp = s.mcRsp := (acts_onCore s c f).mcRsp rfl
@[simp] theorem State.onCore_opt (s : State) (c : Nat) (f : Core → Core) : (State.onCore s c f).opt = s.opt := (acts_onCore s c f).opt rfl
@[simp] theorem State.onCore_bootSrc (s : State) (c : Nat) (f : Core → Core) : (State.onCore s c f).bootSrc = s.bootSrc := (acts_onCore s c f).bootSrc rfl
@[simp] theorem State.onCore_recovSel (s : State) (c : Nat) (f : Core → Core) : (State.onCore s c f).recovSel = s.recovSel := (acts_onCore s c f).recovSel rfl
@[simp] theorem State.onCore_l3 (s : State) (c : Nat) (f : Core → Core) : (State.onCore s c f).l3 = s.l3 := (acts_onCore s c f).l3 rfl
@[simp] theorem State.onCore_depvb (s : State) (c : Nat) (f : Core → Core) : (State.onCore s c f).depvb = s.depvb := (acts_onCore s c f).depvb rfl
@[simp] theorem State.onCore_sieve (s : State) (c : Nat) (f : Core → Core) : (State.onCore s c f).sieve = s.sieve := (acts_onCore s c f).sieve rfl
@[simp] theorem State.onCore_trk (s : State) (c : Nat) (f : Core → Core) : (State.onCore s c f).trk = s.trk := (acts_onCore s c f).trk rfl
@[simp] theorem State.onCore_fair (s : State) (c : Nat) (f : Core → Core) : (State.onCore s c f).fair = s.fair := (acts_onCore s c f).fair rfl
@[simp] theorem State.onCore_slots (s : State) (c : Nat) (f : Core → Core) : (State.onCore s c f).slots = s.slots := (acts_onCore s c f).slots rfl
@[simp] theorem State.onCore_agentReqs (s : State) (c : Nat) (f : Core → Core) : (State.onCore s c f).agentReqs = s.agentReqs := (acts_onCore s c f).agentReqs rfl
@[simp] theorem State.onCore_ghosts (s : State) (c : Nat) (f : Core → Core) : (State.onCore s c f).ghosts = s.ghosts := (acts_onCore s c f).ghosts rfl
@[simp] theorem State.onCore_mesh (s : State) (c : Nat) (f : Core → Core) : (State.onCore s c f).mesh = s.mesh := (acts_onCore s c f).mesh rfl
@[simp] theorem State.onCore_txns (s : State) (c : Nat) (f : Core → Core) : (State.onCore s c f).txns = s.txns := (acts_onCore s c f).txns rfl
@[simp] theorem State.onCore_linkStopped (s : State) (c : Nat) (f : Core → Core) : (State.onCore s c f).linkStopped = s.linkStopped := (acts_onCore s c f).linkStopped rfl
@[simp] theorem State.onCore_lidHeld (s : State) (c : Nat) (f : Core → Core) : (State.onCore s c f).lidHeld = s.lidHeld := (acts_onCore s c f).lidHeld rfl
@[simp] theorem State.onCore_pfw (s : State) (c : Nat) (f : Core → Core) : (State.onCore s c f).pfw = s.pfw := (acts_onCore s c f).pfw rfl
@[simp] theorem State.onCore_wtCache (s : State) (c : Nat) (f : Core → Core) : (State.onCore s c f).wtCache = s.wtCache := (acts_onCore s c f).wtCache rfl
@[simp] theorem State.onCore_hartPart (s : State) (c : Nat) (f : Core → Core) : (State.onCore s c f).hartPart = s.hartPart := (acts_onCore s c f).hartPart rfl
@[simp] theorem State.onCore_pairs (s : State) (c : Nat) (f : Core → Core) : (State.onCore s c f).pairs = s.pairs := (acts_onCore s c f).pairs rfl
@[simp] theorem State.onCore_spn (s : State) (c : Nat) (f : Core → Core) : (State.onCore s c f).spn = s.spn := (acts_onCore s c f).spn rfl
@[simp] theorem State.onCore_spnChanged (s : State) (c : Nat) (f : Core → Core) : (State.onCore s c f).spnChanged = s.spnChanged := (acts_onCore s c f).spnChanged rfl
@[simp] theorem State.onCore_jrnRes (s : State) (c : Nat) (f : Core → Core) : (State.onCore s c f).jrnRes = s.jrnRes := (acts_onCore s c f).jrnRes rfl
@[simp] theorem State.onCore_jrnRecs (s : State) (c : Nat) (f : Core → Core) : (State.onCore s c f).jrnRecs = s.jrnRecs := (acts_onCore s c f).jrnRecs rfl
@[simp] theorem State.onCore_pubs (s : State) (c : Nat) (f : Core → Core) : (State.onCore s c f).pubs = s.pubs := (acts_onCore s c f).pubs rfl
@[simp] theorem State.onCore_pubFlits (s : State) (c : Nat) (f : Core → Core) : (State.onCore s c f).pubFlits = s.pubFlits := (acts_onCore s c f).pubFlits rfl
@[simp] theorem State.onCore_repl (s : State) (c : Nat) (f : Core → Core) : (State.onCore s c f).repl = s.repl := (acts_onCore s c f).repl rfl
@[simp] theorem State.onCore_ports (s : State) (c : Nat) (f : Core → Core) : (State.onCore s c f).ports = s.ports := (acts_onCore s c f).ports rfl
@[simp] theorem State.onCore_fabIn (s : State) (c : Nat) (f : Core → Core) : (State.onCore s c f).fabIn = s.fabIn := (acts_onCore s c f).fabIn rfl
@[simp] theorem State.onCore_fabRem (s : State) (c : Nat) (f : Core → Core) : (State.onCore s c f).fabRem = s.fabRem := (acts_onCore s c f).fabRem rfl
@[simp] theorem State.onCore_fabDropped (s : State) (c : Nat) (f : Core → Core) : (State.onCore s c f).fabDropped = s.fabDropped := (acts_onCore s c f).fabDropped rfl
@[simp] theorem State.onCore_remote (s : State) (c : Nat) (f : Core → Core) : (State.onCore s c f).remote = s.remote := (acts_onCore s c f).remote rfl
@[simp] theorem State.onCore_sqNext (s : State) (c : Nat) (f : Core → Core) : (State.onCore s c f).sqNext = s.sqNext := (acts_onCore s c f).sqNext rfl
@[simp] theorem State.onCore_sqDone (s : State) (c : Nat) (f : Core → Core) : (State.onCore s c f).sqDone = s.sqDone := (acts_onCore s c f).sqDone rfl
@[simp] theorem State.onCore_slew (s : State) (c : Nat) (f : Core → Core) : (State.onCore s c f).slew = s.slew := (acts_onCore s c f).slew rfl
@[simp] theorem State.onCore_slewAcc (s : State) (c : Nat) (f : Core → Core) : (State.onCore s c f).slewAcc = s.slewAcc := (acts_onCore s c f).slewAcc rfl
@[simp] theorem State.onCore_pcieTags (s : State) (c : Nat) (f : Core → Core) : (State.onCore s c f).pcieTags = s.pcieTags := (acts_onCore s c f).pcieTags rfl
@[simp] theorem State.onCore_pcieOut (s : State) (c : Nat) (f : Core → Core) : (State.onCore s c f).pcieOut = s.pcieOut := (acts_onCore s c f).pcieOut rfl
@[simp] theorem State.onCore_pcieCpl (s : State) (c : Nat) (f : Core → Core) : (State.onCore s c f).pcieCpl = s.pcieCpl := (acts_onCore s c f).pcieCpl rfl
@[simp] theorem State.onCore_portReset (s : State) (c : Nat) (f : Core → Core) : (State.onCore s c f).portReset = s.portReset := (acts_onCore s c f).portReset rfl
@[simp] theorem State.onCore_pcieLate (s : State) (c : Nat) (f : Core → Core) : (State.onCore s c f).pcieLate = s.pcieLate := (acts_onCore s c f).pcieLate rfl
@[simp] theorem State.onCore_msiLost (s : State) (c : Nat) (f : Core → Core) : (State.onCore s c f).msiLost = s.msiLost := (acts_onCore s c f).msiLost rfl
@[simp] theorem State.onCore_ctxCache (s : State) (c : Nat) (f : Core → Core) : (State.onCore s c f).ctxCache = s.ctxCache := (acts_onCore s c f).ctxCache rfl
@[simp] theorem State.onCore_ioTlb (s : State) (c : Nat) (f : Core → Core) : (State.onCore s c f).ioTlb = s.ioTlb := (acts_onCore s c f).ioTlb rfl
@[simp] theorem State.onCore_jobs (s : State) (c : Nat) (f : Core → Core) : (State.onCore s c f).jobs = s.jobs := (acts_onCore s c f).jobs rfl
@[simp] theorem State.onCore_cphTurn (s : State) (c : Nat) (f : Core → Core) : (State.onCore s c f).cphTurn = s.cphTurn := (acts_onCore s c f).cphTurn rfl
@[simp] theorem State.onCore_cphKeys (s : State) (c : Nat) (f : Core → Core) : (State.onCore s c f).cphKeys = s.cphKeys := (acts_onCore s c f).cphKeys rfl
@[simp] theorem State.onCore_keys (s : State) (c : Nat) (f : Core → Core) : (State.onCore s c f).keys = s.keys := (acts_onCore s c f).keys rfl
@[simp] theorem State.onCore_keyNext (s : State) (c : Nat) (f : Core → Core) : (State.onCore s c f).keyNext = s.keyNext := (acts_onCore s c f).keyNext rfl
@[simp] theorem State.onCore_keyFreed (s : State) (c : Nat) (f : Core → Core) : (State.onCore s c f).keyFreed = s.keyFreed := (acts_onCore s c f).keyFreed rfl
@[simp] theorem State.onCore_srcHigh (s : State) (c : Nat) (f : Core → Core) : (State.onCore s c f).srcHigh = s.srcHigh := (acts_onCore s c f).srcHigh rfl
@[simp] theorem State.onCore_pend (s : State) (c : Nat) (f : Core → Core) : (State.onCore s c f).pend = s.pend := (acts_onCore s c f).pend rfl
@[simp] theorem State.onCore_inServ (s : State) (c : Nat) (f : Core → Core) : (State.onCore s c f).inServ = s.inServ := (acts_onCore s c f).inServ rfl
@[simp] theorem State.onCore_nmiTaken (s : State) (c : Nat) (f : Core → Core) : (State.onCore s c f).nmiTaken = s.nmiTaken := (acts_onCore s c f).nmiTaken rfl
@[simp] theorem State.onCore_records (s : State) (c : Nat) (f : Core → Core) : (State.onCore s c f).records = s.records := (acts_onCore s c f).records rfl
@[simp] theorem State.onCore_limits (s : State) (c : Nat) (f : Core → Core) : (State.onCore s c f).limits = s.limits := (acts_onCore s c f).limits rfl
@[simp] theorem State.onCore_withheld (s : State) (c : Nat) (f : Core → Core) : (State.onCore s c f).withheld = s.withheld := (acts_onCore s c f).withheld rfl
@[simp] theorem State.onCore_errorN (s : State) (c : Nat) (f : Core → Core) : (State.onCore s c f).errorN = s.errorN := (acts_onCore s c f).errorN rfl
@[simp] theorem State.onCore_rstLevel (s : State) (c : Nat) (f : Core → Core) : (State.onCore s c f).rstLevel = s.rstLevel := (acts_onCore s c f).rstLevel rfl
@[simp] theorem State.onCore_relStep (s : State) (c : Nat) (f : Core → Core) : (State.onCore s c f).relStep = s.relStep := (acts_onCore s c f).relStep rfl
@[simp] theorem State.onCore_railOut (s : State) (c : Nat) (f : Core → Core) : (State.onCore s c f).railOut = s.railOut := (acts_onCore s c f).railOut rfl
@[simp] theorem State.onCore_pwrgood (s : State) (c : Nat) (f : Core → Core) : (State.onCore s c f).pwrgood = s.pwrgood := (acts_onCore s c f).pwrgood rfl
@[simp] theorem State.onCore_resetInLow (s : State) (c : Nat) (f : Core → Core) : (State.onCore s c f).resetInLow = s.resetInLow := (acts_onCore s c f).resetInLow rfl
@[simp] theorem State.onCore_prochotLow (s : State) (c : Nat) (f : Core → Core) : (State.onCore s c f).prochotLow = s.prochotLow := (acts_onCore s c f).prochotLow rfl
@[simp] theorem State.onCore_thermtrip (s : State) (c : Nat) (f : Core → Core) : (State.onCore s c f).thermtrip = s.thermtrip := (acts_onCore s c f).thermtrip rfl
@[simp] theorem State.onCore_readyPin (s : State) (c : Nat) (f : Core → Core) : (State.onCore s c f).readyPin = s.readyPin := (acts_onCore s c f).readyPin rfl
@[simp] theorem State.onCore_unlocked (s : State) (c : Nat) (f : Core → Core) : (State.onCore s c f).unlocked = s.unlocked := (acts_onCore s c f).unlocked rfl
@[simp] theorem State.onCore_regFailed (s : State) (c : Nat) (f : Core → Core) : (State.onCore s c f).regFailed = s.regFailed := (acts_onCore s c f).regFailed rfl
@[simp] theorem State.onCore_pGoal (s : State) (c : Nat) (f : Core → Core) : (State.onCore s c f).pGoal = s.pGoal := (acts_onCore s c f).pGoal rfl
@[simp] theorem State.onCore_pStop (s : State) (c : Nat) (f : Core → Core) : (State.onCore s c f).pStop = s.pStop := (acts_onCore s c f).pStop rfl
@[simp] theorem State.onCore_pkgIdle (s : State) (c : Nat) (f : Core → Core) : (State.onCore s c f).pkgIdle = s.pkgIdle := (acts_onCore s c f).pkgIdle rfl
@[simp] theorem State.onCore_rtcAcc (s : State) (c : Nat) (f : Core → Core) : (State.onCore s c f).rtcAcc = s.rtcAcc := (acts_onCore s c f).rtcAcc rfl
@[simp] theorem State.onCore_partStep (s : State) (c : Nat) (f : Core → Core) : (State.onCore s c f).partStep = s.partStep := (acts_onCore s c f).partStep rfl
@[simp] theorem State.onCore_fuses (s : State) (c : Nat) (f : Core → Core) : (State.onCore s c f).fuses = s.fuses := (acts_onCore s c f).fuses rfl
@[simp] theorem State.onCore_rcv (s : State) (c : Nat) (f : Core → Core) : (State.onCore s c f).rcv = s.rcv := (acts_onCore s c f).rcv rfl
@[simp] theorem State.onCore_bootStep (s : State) (c : Nat) (f : Core → Core) : (State.onCore s c f).bootStep = s.bootStep := (acts_onCore s c f).bootStep rfl
@[simp] theorem State.onCore_flash (s : State) (c : Nat) (f : Core → Core) : (State.onCore s c f).flash = s.flash := (acts_onCore s c f).flash rfl
@[simp] theorem State.onCore_ksCopy (s : State) (c : Nat) (f : Core → Core) : (State.onCore s c f).ksCopy = s.ksCopy := (acts_onCore s c f).ksCopy rfl
@[simp] theorem State.onCore_kek (s : State) (c : Nat) (f : Core → Core) : (State.onCore s c f).kek = s.kek := (acts_onCore s c f).kek rfl
@[simp] theorem State.onCore_ksErased (s : State) (c : Nat) (f : Core → Core) : (State.onCore s c f).ksErased = s.ksErased := (acts_onCore s c f).ksErased rfl
@[simp] theorem State.onCore_fmKeys (s : State) (c : Nat) (f : Core → Core) : (State.onCore s c f).fmKeys = s.fmKeys := (acts_onCore s c f).fmKeys rfl
@[simp] theorem State.onCore_boot (s : State) (c : Nat) (f : Core → Core) : (State.onCore s c f).boot = s.boot := (acts_onCore s c f).boot rfl
@[simp] theorem State.onCore_spRsp (s : State) (c : Nat) (f : Core → Core) : (State.onCore s c f).spRsp = s.spRsp := (acts_onCore s c f).spRsp rfl
@[simp] theorem State.onCore_evidence (s : State) (c : Nat) (f : Core → Core) : (State.onCore s c f).evidence = s.evidence := (acts_onCore s c f).evidence rfl
@[simp] theorem State.onCore_mac (s : State) (c : Nat) (f : Core → Core) : (State.onCore s c f).mac = s.mac := (acts_onCore s c f).mac rfl
@[simp] theorem State.onCore_pages (s : State) (c : Nat) (f : Core → Core) : (State.onCore s c f).pages = s.pages := (acts_onCore s c f).pages rfl
@[simp] theorem State.onCore_spd (s : State) (c : Nat) (f : Core → Core) : (State.onCore s c f).spd = s.spd := (acts_onCore s c f).spd rfl
@[simp] theorem State.onCore_traceBuf (s : State) (c : Nat) (f : Core → Core) : (State.onCore s c f).traceBuf = s.traceBuf := (acts_onCore s c f).traceBuf rfl
@[simp] theorem State.onCore_snaps (s : State) (c : Nat) (f : Core → Core) : (State.onCore s c f).snaps = s.snaps := (acts_onCore s c f).snaps rfl
@[simp] theorem State.onCore_cnt (s : State) (c : Nat) (f : Core → Core) : (State.onCore s c f).cnt = s.cnt := (acts_onCore s c f).cnt rfl
@[simp] theorem State.onCore_ldl (s : State) (c : Nat) (f : Core → Core) : (State.onCore s c f).ldl = s.ldl := (acts_onCore s c f).ldl rfl
@[simp] theorem State.onCore_dbg (s : State) (c : Nat) (f : Core → Core) : (State.onCore s c f).dbg = s.dbg := (acts_onCore s c f).dbg rfl
@[simp] theorem State.onCore_lsio (s : State) (c : Nat) (f : Core → Core) : (State.onCore s c f).lsio = s.lsio := (acts_onCore s c f).lsio rfl
@[simp] theorem State.onCore_wdogNs (s : State) (c : Nat) (f : Core → Core) : (State.onCore s c f).wdogNs = s.wdogNs := (acts_onCore s c f).wdogNs rfl
@[simp] theorem State.onCore_cycAcc (s : State) (c : Nat) (f : Core → Core) : (State.onCore s c f).cycAcc = s.cycAcc := (acts_onCore s c f).cycAcc rfl
@[simp] theorem State.rd_onCore (s : State) (c : Nat) (f : Core → Core) (q : RegId) (j : Nat) : (State.onCore s c f).rd q j = s.rd q j := (acts_onCore s c f).reg q j (Nat.zero_testBit _)
@[simp] theorem State.fld_onCore (s : State) (c : Nat) (f : Core → Core) (F : Fld) (j : Nat) : (State.onCore s c f).fld F j = s.fld F j := (acts_onCore s c f).fld F j (Nat.zero_testBit _)

@[simp] theorem State.coreCount_pending (s : State) (c : Nat) (ev : Nat) : (State.coreCount s c ev).pending = s.pending := (acts_coreCount s c ev).pending rfl
@[simp] theorem State.coreCount_free (s : State) (c : Nat) (ev : Nat) : (State.coreCount s c ev).free = s.free := (acts_coreCount s c ev).free rfl
@[simp] theorem State.coreCount_stamp (s : State) (c : Nat) (ev : Nat) : (State.coreCount s c ev).stamp = s.stamp := (acts_coreCount s c ev).stamp rfl
@[simp] theorem State.coreCount_dtime (s : State) (c : Nat) (ev : Nat) : (State.coreCount s c ev).dtime = s.dtime := (acts_coreCount s c ev).dtime rfl
@[simp] theorem State.coreCount_rsp (s : State) (c : Nat) (ev : Nat) : (State.coreCount s c ev).rsp = s.rsp := (acts_coreCount s c ev).rsp rfl
@[simp] theorem State.coreCount_cores (s : State) (c : Nat) (ev : Nat) : (State.coreCount s c ev).cores = s.cores := (acts_coreCount s c ev).cores rfl
@[simp] theorem State.coreCount_mem (s : State) (c : Nat) (ev : Nat) : (State.coreCount s c ev).mem = s.mem := (acts_coreCount s c ev).mem rfl
@[simp] theorem State.coreCount_memPoison (s : State) (c : Nat) (ev : Nat) : (State.coreCount s c ev).memPoison = s.memPoison := (acts_coreCount s c ev).memPoison rfl
@[simp] theorem State.coreCount_chans (s : State) (c : Nat) (ev : Nat) : (State.coreCount s c ev).chans = s.chans := (acts_coreCount s c ev).chans rfl
@[simp] theorem State.coreCount_mcRsp (s : State) (c : Nat) (ev : Nat) : (State.coreCount s c ev).mcRsp = s.mcRsp := (acts_coreCount s c ev).mcRsp rfl
@[simp] theorem State.coreCount_opt (s : State) (c : Nat) (ev : Nat) : (State.coreCount s c ev).opt = s.opt := (acts_coreCount s c ev).opt rfl
@[simp] theorem State.coreCount_bootSrc (s : State) (c : Nat) (ev : Nat) : (State.coreCount s c ev).bootSrc = s.bootSrc := (acts_coreCount s c ev).bootSrc rfl
@[simp] theorem State.coreCount_recovSel (s : State) (c : Nat) (ev : Nat) : (State.coreCount s c ev).recovSel = s.recovSel := (acts_coreCount s c ev).recovSel rfl
@[simp] theorem State.coreCount_l3 (s : State) (c : Nat) (ev : Nat) : (State.coreCount s c ev).l3 = s.l3 := (acts_coreCount s c ev).l3 rfl
@[simp] theorem State.coreCount_depvb (s : State) (c : Nat) (ev : Nat) : (State.coreCount s c ev).depvb = s.depvb := (acts_coreCount s c ev).depvb rfl
@[simp] theorem State.coreCount_sieve (s : State) (c : Nat) (ev : Nat) : (State.coreCount s c ev).sieve = s.sieve := (acts_coreCount s c ev).sieve rfl
@[simp] theorem State.coreCount_trk (s : State) (c : Nat) (ev : Nat) : (State.coreCount s c ev).trk = s.trk := (acts_coreCount s c ev).trk rfl
@[simp] theorem State.coreCount_fair (s : State) (c : Nat) (ev : Nat) : (State.coreCount s c ev).fair = s.fair := (acts_coreCount s c ev).fair rfl
@[simp] theorem State.coreCount_slots (s : State) (c : Nat) (ev : Nat) : (State.coreCount s c ev).slots = s.slots := (acts_coreCount s c ev).slots rfl
@[simp] theorem State.coreCount_agentReqs (s : State) (c : Nat) (ev : Nat) : (State.coreCount s c ev).agentReqs = s.agentReqs := (acts_coreCount s c ev).agentReqs rfl
@[simp] theorem State.coreCount_ghosts (s : State) (c : Nat) (ev : Nat) : (State.coreCount s c ev).ghosts = s.ghosts := (acts_coreCount s c ev).ghosts rfl
@[simp] theorem State.coreCount_mesh (s : State) (c : Nat) (ev : Nat) : (State.coreCount s c ev).mesh = s.mesh := (acts_coreCount s c ev).mesh rfl
@[simp] theorem State.coreCount_txns (s : State) (c : Nat) (ev : Nat) : (State.coreCount s c ev).txns = s.txns := (acts_coreCount s c ev).txns rfl
@[simp] theorem State.coreCount_linkStopped (s : State) (c : Nat) (ev : Nat) : (State.coreCount s c ev).linkStopped = s.linkStopped := (acts_coreCount s c ev).linkStopped rfl
@[simp] theorem State.coreCount_lidHeld (s : State) (c : Nat) (ev : Nat) : (State.coreCount s c ev).lidHeld = s.lidHeld := (acts_coreCount s c ev).lidHeld rfl
@[simp] theorem State.coreCount_pfw (s : State) (c : Nat) (ev : Nat) : (State.coreCount s c ev).pfw = s.pfw := (acts_coreCount s c ev).pfw rfl
@[simp] theorem State.coreCount_wtCache (s : State) (c : Nat) (ev : Nat) : (State.coreCount s c ev).wtCache = s.wtCache := (acts_coreCount s c ev).wtCache rfl
@[simp] theorem State.coreCount_hartPart (s : State) (c : Nat) (ev : Nat) : (State.coreCount s c ev).hartPart = s.hartPart := (acts_coreCount s c ev).hartPart rfl
@[simp] theorem State.coreCount_pairs (s : State) (c : Nat) (ev : Nat) : (State.coreCount s c ev).pairs = s.pairs := (acts_coreCount s c ev).pairs rfl
@[simp] theorem State.coreCount_spn (s : State) (c : Nat) (ev : Nat) : (State.coreCount s c ev).spn = s.spn := (acts_coreCount s c ev).spn rfl
@[simp] theorem State.coreCount_spnChanged (s : State) (c : Nat) (ev : Nat) : (State.coreCount s c ev).spnChanged = s.spnChanged := (acts_coreCount s c ev).spnChanged rfl
@[simp] theorem State.coreCount_jrnRes (s : State) (c : Nat) (ev : Nat) : (State.coreCount s c ev).jrnRes = s.jrnRes := (acts_coreCount s c ev).jrnRes rfl
@[simp] theorem State.coreCount_jrnRecs (s : State) (c : Nat) (ev : Nat) : (State.coreCount s c ev).jrnRecs = s.jrnRecs := (acts_coreCount s c ev).jrnRecs rfl
@[simp] theorem State.coreCount_pubs (s : State) (c : Nat) (ev : Nat) : (State.coreCount s c ev).pubs = s.pubs := (acts_coreCount s c ev).pubs rfl
@[simp] theorem State.coreCount_pubFlits (s : State) (c : Nat) (ev : Nat) : (State.coreCount s c ev).pubFlits = s.pubFlits := (acts_coreCount s c ev).pubFlits rfl
@[simp] theorem State.coreCount_repl (s : State) (c : Nat) (ev : Nat) : (State.coreCount s c ev).repl = s.repl := (acts_coreCount s c ev).repl rfl
@[simp] theorem State.coreCount_ports (s : State) (c : Nat) (ev : Nat) : (State.coreCount s c ev).ports = s.ports := (acts_coreCount s c ev).ports rfl
@[simp] theorem State.coreCount_fabIn (s : State) (c : Nat) (ev : Nat) : (State.coreCount s c ev).fabIn = s.fabIn := (acts_coreCount s c ev).fabIn rfl
@[simp] theorem State.coreCount_fabRem (s : State) (c : Nat) (ev : Nat) : (State.coreCount s c ev).fabRem = s.fabRem := (acts_coreCount s c ev).fabRem rfl
@[simp] theorem State.coreCount_fabDropped (s : State) (c : Nat) (ev : Nat) : (State.coreCount s c ev).fabDropped = s.fabDropped := (acts_coreCount s c ev).fabDropped rfl
@[simp] theorem State.coreCount_remote (s : State) (c : Nat) (ev : Nat) : (State.coreCount s c ev).remote = s.remote := (acts_coreCount s c ev).remote rfl
@[simp] theorem State.coreCount_sqNext (s : State) (c : Nat) (ev : Nat) : (State.coreCount s c ev).sqNext = s.sqNext := (acts_coreCount s c ev).sqNext rfl
@[simp] theorem State.coreCount_sqDone (s : State) (c : Nat) (ev : Nat) : (State.coreCount s c ev).sqDone = s.sqDone := (acts_coreCount s c ev).sqDone rfl
@[simp] theorem State.coreCount_slew (s : State) (c : Nat) (ev : Nat) : (State.coreCount s c ev).slew = s.slew := (acts_coreCount s c ev).slew rfl
@[simp] theorem State.coreCount_slewAcc (s : State) (c : Nat) (ev : Nat) : (State.coreCount s c ev).slewAcc = s.slewAcc := (acts_coreCount s c ev).slewAcc rfl
@[simp] theorem State.coreCount_pcieTags (s : State) (c : Nat) (ev : Nat) : (State.coreCount s c ev).pcieTags = s.pcieTags := (acts_coreCount s c ev).pcieTags rfl
@[simp] theorem State.coreCount_pcieOut (s : State) (c : Nat) (ev : Nat) : (State.coreCount s c ev).pcieOut = s.pcieOut := (acts_coreCount s c ev).pcieOut rfl
@[simp] theorem State.coreCount_pcieCpl (s : State) (c : Nat) (ev : Nat) : (State.coreCount s c ev).pcieCpl = s.pcieCpl := (acts_coreCount s c ev).pcieCpl rfl
@[simp] theorem State.coreCount_portReset (s : State) (c : Nat) (ev : Nat) : (State.coreCount s c ev).portReset = s.portReset := (acts_coreCount s c ev).portReset rfl
@[simp] theorem State.coreCount_pcieLate (s : State) (c : Nat) (ev : Nat) : (State.coreCount s c ev).pcieLate = s.pcieLate := (acts_coreCount s c ev).pcieLate rfl
@[simp] theorem State.coreCount_msiLost (s : State) (c : Nat) (ev : Nat) : (State.coreCount s c ev).msiLost = s.msiLost := (acts_coreCount s c ev).msiLost rfl
@[simp] theorem State.coreCount_ctxCache (s : State) (c : Nat) (ev : Nat) : (State.coreCount s c ev).ctxCache = s.ctxCache := (acts_coreCount s c ev).ctxCache rfl
@[simp] theorem State.coreCount_ioTlb (s : State) (c : Nat) (ev : Nat) : (State.coreCount s c ev).ioTlb = s.ioTlb := (acts_coreCount s c ev).ioTlb rfl
@[simp] theorem State.coreCount_jobs (s : State) (c : Nat) (ev : Nat) : (State.coreCount s c ev).jobs = s.jobs := (acts_coreCount s c ev).jobs rfl
@[simp] theorem State.coreCount_cphTurn (s : State) (c : Nat) (ev : Nat) : (State.coreCount s c ev).cphTurn = s.cphTurn := (acts_coreCount s c ev).cphTurn rfl
@[simp] theorem State.coreCount_cphKeys (s : State) (c : Nat) (ev : Nat) : (State.coreCount s c ev).cphKeys = s.cphKeys := (acts_coreCount s c ev).cphKeys rfl
@[simp] theorem State.coreCount_keys (s : State) (c : Nat) (ev : Nat) : (State.coreCount s c ev).keys = s.keys := (acts_coreCount s c ev).keys rfl
@[simp] theorem State.coreCount_keyNext (s : State) (c : Nat) (ev : Nat) : (State.coreCount s c ev).keyNext = s.keyNext := (acts_coreCount s c ev).keyNext rfl
@[simp] theorem State.coreCount_keyFreed (s : State) (c : Nat) (ev : Nat) : (State.coreCount s c ev).keyFreed = s.keyFreed := (acts_coreCount s c ev).keyFreed rfl
@[simp] theorem State.coreCount_srcHigh (s : State) (c : Nat) (ev : Nat) : (State.coreCount s c ev).srcHigh = s.srcHigh := (acts_coreCount s c ev).srcHigh rfl
@[simp] theorem State.coreCount_pend (s : State) (c : Nat) (ev : Nat) : (State.coreCount s c ev).pend = s.pend := (acts_coreCount s c ev).pend rfl
@[simp] theorem State.coreCount_inServ (s : State) (c : Nat) (ev : Nat) : (State.coreCount s c ev).inServ = s.inServ := (acts_coreCount s c ev).inServ rfl
@[simp] theorem State.coreCount_nmiTaken (s : State) (c : Nat) (ev : Nat) : (State.coreCount s c ev).nmiTaken = s.nmiTaken := (acts_coreCount s c ev).nmiTaken rfl
@[simp] theorem State.coreCount_records (s : State) (c : Nat) (ev : Nat) : (State.coreCount s c ev).records = s.records := (acts_coreCount s c ev).records rfl
@[simp] theorem State.coreCount_limits (s : State) (c : Nat) (ev : Nat) : (State.coreCount s c ev).limits = s.limits := (acts_coreCount s c ev).limits rfl
@[simp] theorem State.coreCount_withheld (s : State) (c : Nat) (ev : Nat) : (State.coreCount s c ev).withheld = s.withheld := (acts_coreCount s c ev).withheld rfl
@[simp] theorem State.coreCount_errorN (s : State) (c : Nat) (ev : Nat) : (State.coreCount s c ev).errorN = s.errorN := (acts_coreCount s c ev).errorN rfl
@[simp] theorem State.coreCount_rstLevel (s : State) (c : Nat) (ev : Nat) : (State.coreCount s c ev).rstLevel = s.rstLevel := (acts_coreCount s c ev).rstLevel rfl
@[simp] theorem State.coreCount_relStep (s : State) (c : Nat) (ev : Nat) : (State.coreCount s c ev).relStep = s.relStep := (acts_coreCount s c ev).relStep rfl
@[simp] theorem State.coreCount_railOut (s : State) (c : Nat) (ev : Nat) : (State.coreCount s c ev).railOut = s.railOut := (acts_coreCount s c ev).railOut rfl
@[simp] theorem State.coreCount_pwrgood (s : State) (c : Nat) (ev : Nat) : (State.coreCount s c ev).pwrgood = s.pwrgood := (acts_coreCount s c ev).pwrgood rfl
@[simp] theorem State.coreCount_resetInLow (s : State) (c : Nat) (ev : Nat) : (State.coreCount s c ev).resetInLow = s.resetInLow := (acts_coreCount s c ev).resetInLow rfl
@[simp] theorem State.coreCount_prochotLow (s : State) (c : Nat) (ev : Nat) : (State.coreCount s c ev).prochotLow = s.prochotLow := (acts_coreCount s c ev).prochotLow rfl
@[simp] theorem State.coreCount_thermtrip (s : State) (c : Nat) (ev : Nat) : (State.coreCount s c ev).thermtrip = s.thermtrip := (acts_coreCount s c ev).thermtrip rfl
@[simp] theorem State.coreCount_readyPin (s : State) (c : Nat) (ev : Nat) : (State.coreCount s c ev).readyPin = s.readyPin := (acts_coreCount s c ev).readyPin rfl
@[simp] theorem State.coreCount_unlocked (s : State) (c : Nat) (ev : Nat) : (State.coreCount s c ev).unlocked = s.unlocked := (acts_coreCount s c ev).unlocked rfl
@[simp] theorem State.coreCount_regFailed (s : State) (c : Nat) (ev : Nat) : (State.coreCount s c ev).regFailed = s.regFailed := (acts_coreCount s c ev).regFailed rfl
@[simp] theorem State.coreCount_pGoal (s : State) (c : Nat) (ev : Nat) : (State.coreCount s c ev).pGoal = s.pGoal := (acts_coreCount s c ev).pGoal rfl
@[simp] theorem State.coreCount_pStop (s : State) (c : Nat) (ev : Nat) : (State.coreCount s c ev).pStop = s.pStop := (acts_coreCount s c ev).pStop rfl
@[simp] theorem State.coreCount_pkgIdle (s : State) (c : Nat) (ev : Nat) : (State.coreCount s c ev).pkgIdle = s.pkgIdle := (acts_coreCount s c ev).pkgIdle rfl
@[simp] theorem State.coreCount_rtcAcc (s : State) (c : Nat) (ev : Nat) : (State.coreCount s c ev).rtcAcc = s.rtcAcc := (acts_coreCount s c ev).rtcAcc rfl
@[simp] theorem State.coreCount_partStep (s : State) (c : Nat) (ev : Nat) : (State.coreCount s c ev).partStep = s.partStep := (acts_coreCount s c ev).partStep rfl
@[simp] theorem State.coreCount_fuses (s : State) (c : Nat) (ev : Nat) : (State.coreCount s c ev).fuses = s.fuses := (acts_coreCount s c ev).fuses rfl
@[simp] theorem State.coreCount_rcv (s : State) (c : Nat) (ev : Nat) : (State.coreCount s c ev).rcv = s.rcv := (acts_coreCount s c ev).rcv rfl
@[simp] theorem State.coreCount_bootStep (s : State) (c : Nat) (ev : Nat) : (State.coreCount s c ev).bootStep = s.bootStep := (acts_coreCount s c ev).bootStep rfl
@[simp] theorem State.coreCount_flash (s : State) (c : Nat) (ev : Nat) : (State.coreCount s c ev).flash = s.flash := (acts_coreCount s c ev).flash rfl
@[simp] theorem State.coreCount_ksCopy (s : State) (c : Nat) (ev : Nat) : (State.coreCount s c ev).ksCopy = s.ksCopy := (acts_coreCount s c ev).ksCopy rfl
@[simp] theorem State.coreCount_kek (s : State) (c : Nat) (ev : Nat) : (State.coreCount s c ev).kek = s.kek := (acts_coreCount s c ev).kek rfl
@[simp] theorem State.coreCount_ksErased (s : State) (c : Nat) (ev : Nat) : (State.coreCount s c ev).ksErased = s.ksErased := (acts_coreCount s c ev).ksErased rfl
@[simp] theorem State.coreCount_fmKeys (s : State) (c : Nat) (ev : Nat) : (State.coreCount s c ev).fmKeys = s.fmKeys := (acts_coreCount s c ev).fmKeys rfl
@[simp] theorem State.coreCount_boot (s : State) (c : Nat) (ev : Nat) : (State.coreCount s c ev).boot = s.boot := (acts_coreCount s c ev).boot rfl
@[simp] theorem State.coreCount_spRsp (s : State) (c : Nat) (ev : Nat) : (State.coreCount s c ev).spRsp = s.spRsp := (acts_coreCount s c ev).spRsp rfl
@[simp] theorem State.coreCount_evidence (s : State) (c : Nat) (ev : Nat) : (State.coreCount s c ev).evidence = s.evidence := (acts_coreCount s c ev).evidence rfl
@[simp] theorem State.coreCount_mac (s : State) (c : Nat) (ev : Nat) : (State.coreCount s c ev).mac = s.mac := (acts_coreCount s c ev).mac rfl
@[simp] theorem State.coreCount_pages (s : State) (c : Nat) (ev : Nat) : (State.coreCount s c ev).pages = s.pages := (acts_coreCount s c ev).pages rfl
@[simp] theorem State.coreCount_spd (s : State) (c : Nat) (ev : Nat) : (State.coreCount s c ev).spd = s.spd := (acts_coreCount s c ev).spd rfl
@[simp] theorem State.coreCount_traceBuf (s : State) (c : Nat) (ev : Nat) : (State.coreCount s c ev).traceBuf = s.traceBuf := (acts_coreCount s c ev).traceBuf rfl
@[simp] theorem State.coreCount_snaps (s : State) (c : Nat) (ev : Nat) : (State.coreCount s c ev).snaps = s.snaps := (acts_coreCount s c ev).snaps rfl
@[simp] theorem State.coreCount_ldl (s : State) (c : Nat) (ev : Nat) : (State.coreCount s c ev).ldl = s.ldl := (acts_coreCount s c ev).ldl rfl
@[simp] theorem State.coreCount_dbg (s : State) (c : Nat) (ev : Nat) : (State.coreCount s c ev).dbg = s.dbg := (acts_coreCount s c ev).dbg rfl
@[simp] theorem State.coreCount_lsio (s : State) (c : Nat) (ev : Nat) : (State.coreCount s c ev).lsio = s.lsio := (acts_coreCount s c ev).lsio rfl
@[simp] theorem State.coreCount_wdogNs (s : State) (c : Nat) (ev : Nat) : (State.coreCount s c ev).wdogNs = s.wdogNs := (acts_coreCount s c ev).wdogNs rfl
@[simp] theorem State.coreCount_cycAcc (s : State) (c : Nat) (ev : Nat) : (State.coreCount s c ev).cycAcc = s.cycAcc := (acts_coreCount s c ev).cycAcc rfl
@[simp] theorem State.rd_coreCount (s : State) (c : Nat) (ev : Nat) (q : RegId) (j : Nat) : (State.coreCount s c ev).rd q j = s.rd q j := (acts_coreCount s c ev).reg q j (Nat.zero_testBit _)
@[simp] theorem State.fld_coreCount (s : State) (c : Nat) (ev : Nat) (F : Fld) (j : Nat) : (State.coreCount s c ev).fld F j = s.fld F j := (acts_coreCount s c ev).fld F j (Nat.zero_testBit _)

@[simp] theorem State.count_pending (s : State) (unit : Nat) (ev : Nat) (part : Option Nat) (n : Nat) : (State.count s unit ev part n).pending = s.pending := (acts_count s unit ev part n).pending rfl
@[simp] theorem State.count_free (s : State) (unit : Nat) (ev : Nat) (part : Option Nat) (n : Nat) : (State.count s unit ev part n).free = s.free := (acts_count s unit ev part n).free rfl
@[simp] theorem State.count_stamp (s : State) (unit : Nat) (ev : Nat) (part : Option Nat) (n : Nat) : (State.count s unit ev part n).stamp = s.stamp := (acts_count s unit ev part n).stamp rfl
@[simp] theorem State.count_dtime (s : State) (unit : Nat) (ev : Nat) (part : Option Nat) (n : Nat) : (State.count s unit ev part n).dtime = s.dtime := (acts_count s unit ev part n).dtime rfl
@[simp] theorem State.count_rsp (s : State) (unit : Nat) (ev : Nat) (part : Option Nat) (n : Nat) : (State.count s unit ev part n).rsp = s.rsp := (acts_count s unit ev part n).rsp rfl
@[simp] theorem State.count_cores (s : State) (unit : Nat) (ev : Nat) (part : Option Nat) (n : Nat) : (State.count s unit ev part n).cores = s.cores := (acts_count s unit ev part n).cores rfl
@[simp] theorem State.count_mem (s : State) (unit : Nat) (ev : Nat) (part : Option Nat) (n : Nat) : (State.count s unit ev part n).mem = s.mem := (acts_count s unit ev part n).mem rfl
@[simp] theorem State.count_memPoison (s : State) (unit : Nat) (ev : Nat) (part : Option Nat) (n : Nat) : (State.count s unit ev part n).memPoison = s.memPoison := (acts_count s unit ev part n).memPoison rfl
@[simp] theorem State.count_chans (s : State) (unit : Nat) (ev : Nat) (part : Option Nat) (n : Nat) : (State.count s unit ev part n).chans = s.chans := (acts_count s unit ev part n).chans rfl
@[simp] theorem State.count_mcRsp (s : State) (unit : Nat) (ev : Nat) (part : Option Nat) (n : Nat) : (State.count s unit ev part n).mcRsp = s.mcRsp := (acts_count s unit ev part n).mcRsp rfl
@[simp] theorem State.count_opt (s : State) (unit : Nat) (ev : Nat) (part : Option Nat) (n : Nat) : (State.count s unit ev part n).opt = s.opt := (acts_count s unit ev part n).opt rfl
@[simp] theorem State.count_bootSrc (s : State) (unit : Nat) (ev : Nat) (part : Option Nat) (n : Nat) : (State.count s unit ev part n).bootSrc = s.bootSrc := (acts_count s unit ev part n).bootSrc rfl
@[simp] theorem State.count_recovSel (s : State) (unit : Nat) (ev : Nat) (part : Option Nat) (n : Nat) : (State.count s unit ev part n).recovSel = s.recovSel := (acts_count s unit ev part n).recovSel rfl
@[simp] theorem State.count_l3 (s : State) (unit : Nat) (ev : Nat) (part : Option Nat) (n : Nat) : (State.count s unit ev part n).l3 = s.l3 := (acts_count s unit ev part n).l3 rfl
@[simp] theorem State.count_depvb (s : State) (unit : Nat) (ev : Nat) (part : Option Nat) (n : Nat) : (State.count s unit ev part n).depvb = s.depvb := (acts_count s unit ev part n).depvb rfl
@[simp] theorem State.count_sieve (s : State) (unit : Nat) (ev : Nat) (part : Option Nat) (n : Nat) : (State.count s unit ev part n).sieve = s.sieve := (acts_count s unit ev part n).sieve rfl
@[simp] theorem State.count_trk (s : State) (unit : Nat) (ev : Nat) (part : Option Nat) (n : Nat) : (State.count s unit ev part n).trk = s.trk := (acts_count s unit ev part n).trk rfl
@[simp] theorem State.count_fair (s : State) (unit : Nat) (ev : Nat) (part : Option Nat) (n : Nat) : (State.count s unit ev part n).fair = s.fair := (acts_count s unit ev part n).fair rfl
@[simp] theorem State.count_slots (s : State) (unit : Nat) (ev : Nat) (part : Option Nat) (n : Nat) : (State.count s unit ev part n).slots = s.slots := (acts_count s unit ev part n).slots rfl
@[simp] theorem State.count_agentReqs (s : State) (unit : Nat) (ev : Nat) (part : Option Nat) (n : Nat) : (State.count s unit ev part n).agentReqs = s.agentReqs := (acts_count s unit ev part n).agentReqs rfl
@[simp] theorem State.count_ghosts (s : State) (unit : Nat) (ev : Nat) (part : Option Nat) (n : Nat) : (State.count s unit ev part n).ghosts = s.ghosts := (acts_count s unit ev part n).ghosts rfl
@[simp] theorem State.count_mesh (s : State) (unit : Nat) (ev : Nat) (part : Option Nat) (n : Nat) : (State.count s unit ev part n).mesh = s.mesh := (acts_count s unit ev part n).mesh rfl
@[simp] theorem State.count_txns (s : State) (unit : Nat) (ev : Nat) (part : Option Nat) (n : Nat) : (State.count s unit ev part n).txns = s.txns := (acts_count s unit ev part n).txns rfl
@[simp] theorem State.count_linkStopped (s : State) (unit : Nat) (ev : Nat) (part : Option Nat) (n : Nat) : (State.count s unit ev part n).linkStopped = s.linkStopped := (acts_count s unit ev part n).linkStopped rfl
@[simp] theorem State.count_lidHeld (s : State) (unit : Nat) (ev : Nat) (part : Option Nat) (n : Nat) : (State.count s unit ev part n).lidHeld = s.lidHeld := (acts_count s unit ev part n).lidHeld rfl
@[simp] theorem State.count_pfw (s : State) (unit : Nat) (ev : Nat) (part : Option Nat) (n : Nat) : (State.count s unit ev part n).pfw = s.pfw := (acts_count s unit ev part n).pfw rfl
@[simp] theorem State.count_wtCache (s : State) (unit : Nat) (ev : Nat) (part : Option Nat) (n : Nat) : (State.count s unit ev part n).wtCache = s.wtCache := (acts_count s unit ev part n).wtCache rfl
@[simp] theorem State.count_hartPart (s : State) (unit : Nat) (ev : Nat) (part : Option Nat) (n : Nat) : (State.count s unit ev part n).hartPart = s.hartPart := (acts_count s unit ev part n).hartPart rfl
@[simp] theorem State.count_pairs (s : State) (unit : Nat) (ev : Nat) (part : Option Nat) (n : Nat) : (State.count s unit ev part n).pairs = s.pairs := (acts_count s unit ev part n).pairs rfl
@[simp] theorem State.count_spn (s : State) (unit : Nat) (ev : Nat) (part : Option Nat) (n : Nat) : (State.count s unit ev part n).spn = s.spn := (acts_count s unit ev part n).spn rfl
@[simp] theorem State.count_spnChanged (s : State) (unit : Nat) (ev : Nat) (part : Option Nat) (n : Nat) : (State.count s unit ev part n).spnChanged = s.spnChanged := (acts_count s unit ev part n).spnChanged rfl
@[simp] theorem State.count_jrnRes (s : State) (unit : Nat) (ev : Nat) (part : Option Nat) (n : Nat) : (State.count s unit ev part n).jrnRes = s.jrnRes := (acts_count s unit ev part n).jrnRes rfl
@[simp] theorem State.count_jrnRecs (s : State) (unit : Nat) (ev : Nat) (part : Option Nat) (n : Nat) : (State.count s unit ev part n).jrnRecs = s.jrnRecs := (acts_count s unit ev part n).jrnRecs rfl
@[simp] theorem State.count_pubs (s : State) (unit : Nat) (ev : Nat) (part : Option Nat) (n : Nat) : (State.count s unit ev part n).pubs = s.pubs := (acts_count s unit ev part n).pubs rfl
@[simp] theorem State.count_pubFlits (s : State) (unit : Nat) (ev : Nat) (part : Option Nat) (n : Nat) : (State.count s unit ev part n).pubFlits = s.pubFlits := (acts_count s unit ev part n).pubFlits rfl
@[simp] theorem State.count_repl (s : State) (unit : Nat) (ev : Nat) (part : Option Nat) (n : Nat) : (State.count s unit ev part n).repl = s.repl := (acts_count s unit ev part n).repl rfl
@[simp] theorem State.count_ports (s : State) (unit : Nat) (ev : Nat) (part : Option Nat) (n : Nat) : (State.count s unit ev part n).ports = s.ports := (acts_count s unit ev part n).ports rfl
@[simp] theorem State.count_fabIn (s : State) (unit : Nat) (ev : Nat) (part : Option Nat) (n : Nat) : (State.count s unit ev part n).fabIn = s.fabIn := (acts_count s unit ev part n).fabIn rfl
@[simp] theorem State.count_fabRem (s : State) (unit : Nat) (ev : Nat) (part : Option Nat) (n : Nat) : (State.count s unit ev part n).fabRem = s.fabRem := (acts_count s unit ev part n).fabRem rfl
@[simp] theorem State.count_fabDropped (s : State) (unit : Nat) (ev : Nat) (part : Option Nat) (n : Nat) : (State.count s unit ev part n).fabDropped = s.fabDropped := (acts_count s unit ev part n).fabDropped rfl
@[simp] theorem State.count_remote (s : State) (unit : Nat) (ev : Nat) (part : Option Nat) (n : Nat) : (State.count s unit ev part n).remote = s.remote := (acts_count s unit ev part n).remote rfl
@[simp] theorem State.count_sqNext (s : State) (unit : Nat) (ev : Nat) (part : Option Nat) (n : Nat) : (State.count s unit ev part n).sqNext = s.sqNext := (acts_count s unit ev part n).sqNext rfl
@[simp] theorem State.count_sqDone (s : State) (unit : Nat) (ev : Nat) (part : Option Nat) (n : Nat) : (State.count s unit ev part n).sqDone = s.sqDone := (acts_count s unit ev part n).sqDone rfl
@[simp] theorem State.count_slew (s : State) (unit : Nat) (ev : Nat) (part : Option Nat) (n : Nat) : (State.count s unit ev part n).slew = s.slew := (acts_count s unit ev part n).slew rfl
@[simp] theorem State.count_slewAcc (s : State) (unit : Nat) (ev : Nat) (part : Option Nat) (n : Nat) : (State.count s unit ev part n).slewAcc = s.slewAcc := (acts_count s unit ev part n).slewAcc rfl
@[simp] theorem State.count_pcieTags (s : State) (unit : Nat) (ev : Nat) (part : Option Nat) (n : Nat) : (State.count s unit ev part n).pcieTags = s.pcieTags := (acts_count s unit ev part n).pcieTags rfl
@[simp] theorem State.count_pcieOut (s : State) (unit : Nat) (ev : Nat) (part : Option Nat) (n : Nat) : (State.count s unit ev part n).pcieOut = s.pcieOut := (acts_count s unit ev part n).pcieOut rfl
@[simp] theorem State.count_pcieCpl (s : State) (unit : Nat) (ev : Nat) (part : Option Nat) (n : Nat) : (State.count s unit ev part n).pcieCpl = s.pcieCpl := (acts_count s unit ev part n).pcieCpl rfl
@[simp] theorem State.count_portReset (s : State) (unit : Nat) (ev : Nat) (part : Option Nat) (n : Nat) : (State.count s unit ev part n).portReset = s.portReset := (acts_count s unit ev part n).portReset rfl
@[simp] theorem State.count_pcieLate (s : State) (unit : Nat) (ev : Nat) (part : Option Nat) (n : Nat) : (State.count s unit ev part n).pcieLate = s.pcieLate := (acts_count s unit ev part n).pcieLate rfl
@[simp] theorem State.count_msiLost (s : State) (unit : Nat) (ev : Nat) (part : Option Nat) (n : Nat) : (State.count s unit ev part n).msiLost = s.msiLost := (acts_count s unit ev part n).msiLost rfl
@[simp] theorem State.count_ctxCache (s : State) (unit : Nat) (ev : Nat) (part : Option Nat) (n : Nat) : (State.count s unit ev part n).ctxCache = s.ctxCache := (acts_count s unit ev part n).ctxCache rfl
@[simp] theorem State.count_ioTlb (s : State) (unit : Nat) (ev : Nat) (part : Option Nat) (n : Nat) : (State.count s unit ev part n).ioTlb = s.ioTlb := (acts_count s unit ev part n).ioTlb rfl
@[simp] theorem State.count_jobs (s : State) (unit : Nat) (ev : Nat) (part : Option Nat) (n : Nat) : (State.count s unit ev part n).jobs = s.jobs := (acts_count s unit ev part n).jobs rfl
@[simp] theorem State.count_cphTurn (s : State) (unit : Nat) (ev : Nat) (part : Option Nat) (n : Nat) : (State.count s unit ev part n).cphTurn = s.cphTurn := (acts_count s unit ev part n).cphTurn rfl
@[simp] theorem State.count_cphKeys (s : State) (unit : Nat) (ev : Nat) (part : Option Nat) (n : Nat) : (State.count s unit ev part n).cphKeys = s.cphKeys := (acts_count s unit ev part n).cphKeys rfl
@[simp] theorem State.count_keys (s : State) (unit : Nat) (ev : Nat) (part : Option Nat) (n : Nat) : (State.count s unit ev part n).keys = s.keys := (acts_count s unit ev part n).keys rfl
@[simp] theorem State.count_keyNext (s : State) (unit : Nat) (ev : Nat) (part : Option Nat) (n : Nat) : (State.count s unit ev part n).keyNext = s.keyNext := (acts_count s unit ev part n).keyNext rfl
@[simp] theorem State.count_keyFreed (s : State) (unit : Nat) (ev : Nat) (part : Option Nat) (n : Nat) : (State.count s unit ev part n).keyFreed = s.keyFreed := (acts_count s unit ev part n).keyFreed rfl
@[simp] theorem State.count_srcHigh (s : State) (unit : Nat) (ev : Nat) (part : Option Nat) (n : Nat) : (State.count s unit ev part n).srcHigh = s.srcHigh := (acts_count s unit ev part n).srcHigh rfl
@[simp] theorem State.count_pend (s : State) (unit : Nat) (ev : Nat) (part : Option Nat) (n : Nat) : (State.count s unit ev part n).pend = s.pend := (acts_count s unit ev part n).pend rfl
@[simp] theorem State.count_inServ (s : State) (unit : Nat) (ev : Nat) (part : Option Nat) (n : Nat) : (State.count s unit ev part n).inServ = s.inServ := (acts_count s unit ev part n).inServ rfl
@[simp] theorem State.count_nmiTaken (s : State) (unit : Nat) (ev : Nat) (part : Option Nat) (n : Nat) : (State.count s unit ev part n).nmiTaken = s.nmiTaken := (acts_count s unit ev part n).nmiTaken rfl
@[simp] theorem State.count_records (s : State) (unit : Nat) (ev : Nat) (part : Option Nat) (n : Nat) : (State.count s unit ev part n).records = s.records := (acts_count s unit ev part n).records rfl
@[simp] theorem State.count_limits (s : State) (unit : Nat) (ev : Nat) (part : Option Nat) (n : Nat) : (State.count s unit ev part n).limits = s.limits := (acts_count s unit ev part n).limits rfl
@[simp] theorem State.count_withheld (s : State) (unit : Nat) (ev : Nat) (part : Option Nat) (n : Nat) : (State.count s unit ev part n).withheld = s.withheld := (acts_count s unit ev part n).withheld rfl
@[simp] theorem State.count_errorN (s : State) (unit : Nat) (ev : Nat) (part : Option Nat) (n : Nat) : (State.count s unit ev part n).errorN = s.errorN := (acts_count s unit ev part n).errorN rfl
@[simp] theorem State.count_rstLevel (s : State) (unit : Nat) (ev : Nat) (part : Option Nat) (n : Nat) : (State.count s unit ev part n).rstLevel = s.rstLevel := (acts_count s unit ev part n).rstLevel rfl
@[simp] theorem State.count_relStep (s : State) (unit : Nat) (ev : Nat) (part : Option Nat) (n : Nat) : (State.count s unit ev part n).relStep = s.relStep := (acts_count s unit ev part n).relStep rfl
@[simp] theorem State.count_railOut (s : State) (unit : Nat) (ev : Nat) (part : Option Nat) (n : Nat) : (State.count s unit ev part n).railOut = s.railOut := (acts_count s unit ev part n).railOut rfl
@[simp] theorem State.count_pwrgood (s : State) (unit : Nat) (ev : Nat) (part : Option Nat) (n : Nat) : (State.count s unit ev part n).pwrgood = s.pwrgood := (acts_count s unit ev part n).pwrgood rfl
@[simp] theorem State.count_resetInLow (s : State) (unit : Nat) (ev : Nat) (part : Option Nat) (n : Nat) : (State.count s unit ev part n).resetInLow = s.resetInLow := (acts_count s unit ev part n).resetInLow rfl
@[simp] theorem State.count_prochotLow (s : State) (unit : Nat) (ev : Nat) (part : Option Nat) (n : Nat) : (State.count s unit ev part n).prochotLow = s.prochotLow := (acts_count s unit ev part n).prochotLow rfl
@[simp] theorem State.count_thermtrip (s : State) (unit : Nat) (ev : Nat) (part : Option Nat) (n : Nat) : (State.count s unit ev part n).thermtrip = s.thermtrip := (acts_count s unit ev part n).thermtrip rfl
@[simp] theorem State.count_readyPin (s : State) (unit : Nat) (ev : Nat) (part : Option Nat) (n : Nat) : (State.count s unit ev part n).readyPin = s.readyPin := (acts_count s unit ev part n).readyPin rfl
@[simp] theorem State.count_unlocked (s : State) (unit : Nat) (ev : Nat) (part : Option Nat) (n : Nat) : (State.count s unit ev part n).unlocked = s.unlocked := (acts_count s unit ev part n).unlocked rfl
@[simp] theorem State.count_regFailed (s : State) (unit : Nat) (ev : Nat) (part : Option Nat) (n : Nat) : (State.count s unit ev part n).regFailed = s.regFailed := (acts_count s unit ev part n).regFailed rfl
@[simp] theorem State.count_pGoal (s : State) (unit : Nat) (ev : Nat) (part : Option Nat) (n : Nat) : (State.count s unit ev part n).pGoal = s.pGoal := (acts_count s unit ev part n).pGoal rfl
@[simp] theorem State.count_pStop (s : State) (unit : Nat) (ev : Nat) (part : Option Nat) (n : Nat) : (State.count s unit ev part n).pStop = s.pStop := (acts_count s unit ev part n).pStop rfl
@[simp] theorem State.count_pkgIdle (s : State) (unit : Nat) (ev : Nat) (part : Option Nat) (n : Nat) : (State.count s unit ev part n).pkgIdle = s.pkgIdle := (acts_count s unit ev part n).pkgIdle rfl
@[simp] theorem State.count_rtcAcc (s : State) (unit : Nat) (ev : Nat) (part : Option Nat) (n : Nat) : (State.count s unit ev part n).rtcAcc = s.rtcAcc := (acts_count s unit ev part n).rtcAcc rfl
@[simp] theorem State.count_partStep (s : State) (unit : Nat) (ev : Nat) (part : Option Nat) (n : Nat) : (State.count s unit ev part n).partStep = s.partStep := (acts_count s unit ev part n).partStep rfl
@[simp] theorem State.count_fuses (s : State) (unit : Nat) (ev : Nat) (part : Option Nat) (n : Nat) : (State.count s unit ev part n).fuses = s.fuses := (acts_count s unit ev part n).fuses rfl
@[simp] theorem State.count_rcv (s : State) (unit : Nat) (ev : Nat) (part : Option Nat) (n : Nat) : (State.count s unit ev part n).rcv = s.rcv := (acts_count s unit ev part n).rcv rfl
@[simp] theorem State.count_bootStep (s : State) (unit : Nat) (ev : Nat) (part : Option Nat) (n : Nat) : (State.count s unit ev part n).bootStep = s.bootStep := (acts_count s unit ev part n).bootStep rfl
@[simp] theorem State.count_flash (s : State) (unit : Nat) (ev : Nat) (part : Option Nat) (n : Nat) : (State.count s unit ev part n).flash = s.flash := (acts_count s unit ev part n).flash rfl
@[simp] theorem State.count_ksCopy (s : State) (unit : Nat) (ev : Nat) (part : Option Nat) (n : Nat) : (State.count s unit ev part n).ksCopy = s.ksCopy := (acts_count s unit ev part n).ksCopy rfl
@[simp] theorem State.count_kek (s : State) (unit : Nat) (ev : Nat) (part : Option Nat) (n : Nat) : (State.count s unit ev part n).kek = s.kek := (acts_count s unit ev part n).kek rfl
@[simp] theorem State.count_ksErased (s : State) (unit : Nat) (ev : Nat) (part : Option Nat) (n : Nat) : (State.count s unit ev part n).ksErased = s.ksErased := (acts_count s unit ev part n).ksErased rfl
@[simp] theorem State.count_fmKeys (s : State) (unit : Nat) (ev : Nat) (part : Option Nat) (n : Nat) : (State.count s unit ev part n).fmKeys = s.fmKeys := (acts_count s unit ev part n).fmKeys rfl
@[simp] theorem State.count_boot (s : State) (unit : Nat) (ev : Nat) (part : Option Nat) (n : Nat) : (State.count s unit ev part n).boot = s.boot := (acts_count s unit ev part n).boot rfl
@[simp] theorem State.count_spRsp (s : State) (unit : Nat) (ev : Nat) (part : Option Nat) (n : Nat) : (State.count s unit ev part n).spRsp = s.spRsp := (acts_count s unit ev part n).spRsp rfl
@[simp] theorem State.count_evidence (s : State) (unit : Nat) (ev : Nat) (part : Option Nat) (n : Nat) : (State.count s unit ev part n).evidence = s.evidence := (acts_count s unit ev part n).evidence rfl
@[simp] theorem State.count_mac (s : State) (unit : Nat) (ev : Nat) (part : Option Nat) (n : Nat) : (State.count s unit ev part n).mac = s.mac := (acts_count s unit ev part n).mac rfl
@[simp] theorem State.count_pages (s : State) (unit : Nat) (ev : Nat) (part : Option Nat) (n : Nat) : (State.count s unit ev part n).pages = s.pages := (acts_count s unit ev part n).pages rfl
@[simp] theorem State.count_spd (s : State) (unit : Nat) (ev : Nat) (part : Option Nat) (n : Nat) : (State.count s unit ev part n).spd = s.spd := (acts_count s unit ev part n).spd rfl
@[simp] theorem State.count_traceBuf (s : State) (unit : Nat) (ev : Nat) (part : Option Nat) (n : Nat) : (State.count s unit ev part n).traceBuf = s.traceBuf := (acts_count s unit ev part n).traceBuf rfl
@[simp] theorem State.count_snaps (s : State) (unit : Nat) (ev : Nat) (part : Option Nat) (n : Nat) : (State.count s unit ev part n).snaps = s.snaps := (acts_count s unit ev part n).snaps rfl
@[simp] theorem State.count_ldl (s : State) (unit : Nat) (ev : Nat) (part : Option Nat) (n : Nat) : (State.count s unit ev part n).ldl = s.ldl := (acts_count s unit ev part n).ldl rfl
@[simp] theorem State.count_dbg (s : State) (unit : Nat) (ev : Nat) (part : Option Nat) (n : Nat) : (State.count s unit ev part n).dbg = s.dbg := (acts_count s unit ev part n).dbg rfl
@[simp] theorem State.count_lsio (s : State) (unit : Nat) (ev : Nat) (part : Option Nat) (n : Nat) : (State.count s unit ev part n).lsio = s.lsio := (acts_count s unit ev part n).lsio rfl
@[simp] theorem State.count_wdogNs (s : State) (unit : Nat) (ev : Nat) (part : Option Nat) (n : Nat) : (State.count s unit ev part n).wdogNs = s.wdogNs := (acts_count s unit ev part n).wdogNs rfl
@[simp] theorem State.count_cycAcc (s : State) (unit : Nat) (ev : Nat) (part : Option Nat) (n : Nat) : (State.count s unit ev part n).cycAcc = s.cycAcc := (acts_count s unit ev part n).cycAcc rfl
@[simp] theorem State.rd_count (s : State) (unit : Nat) (ev : Nat) (part : Option Nat) (n : Nat) (q : RegId) (j : Nat) : (State.count s unit ev part n).rd q j = s.rd q j := (acts_count s unit ev part n).reg q j (Nat.zero_testBit _)
@[simp] theorem State.fld_count (s : State) (unit : Nat) (ev : Nat) (part : Option Nat) (n : Nat) (F : Fld) (j : Nat) : (State.count s unit ev part n).fld F j = s.fld F j := (acts_count s unit ev part n).fld F j (Nat.zero_testBit _)

@[simp] theorem State.raise_pending (s : State) (src : Nat) : (State.raise s src).pending = s.pending := (acts_raise s src).pending rfl
@[simp] theorem State.raise_free (s : State) (src : Nat) : (State.raise s src).free = s.free := (acts_raise s src).free rfl
@[simp] theorem State.raise_stamp (s : State) (src : Nat) : (State.raise s src).stamp = s.stamp := (acts_raise s src).stamp rfl
@[simp] theorem State.raise_dtime (s : State) (src : Nat) : (State.raise s src).dtime = s.dtime := (acts_raise s src).dtime rfl
@[simp] theorem State.raise_rsp (s : State) (src : Nat) : (State.raise s src).rsp = s.rsp := (acts_raise s src).rsp rfl
@[simp] theorem State.raise_mem (s : State) (src : Nat) : (State.raise s src).mem = s.mem := (acts_raise s src).mem rfl
@[simp] theorem State.raise_memPoison (s : State) (src : Nat) : (State.raise s src).memPoison = s.memPoison := (acts_raise s src).memPoison rfl
@[simp] theorem State.raise_chans (s : State) (src : Nat) : (State.raise s src).chans = s.chans := (acts_raise s src).chans rfl
@[simp] theorem State.raise_mcRsp (s : State) (src : Nat) : (State.raise s src).mcRsp = s.mcRsp := (acts_raise s src).mcRsp rfl
@[simp] theorem State.raise_opt (s : State) (src : Nat) : (State.raise s src).opt = s.opt := (acts_raise s src).opt rfl
@[simp] theorem State.raise_bootSrc (s : State) (src : Nat) : (State.raise s src).bootSrc = s.bootSrc := (acts_raise s src).bootSrc rfl
@[simp] theorem State.raise_recovSel (s : State) (src : Nat) : (State.raise s src).recovSel = s.recovSel := (acts_raise s src).recovSel rfl
@[simp] theorem State.raise_l3 (s : State) (src : Nat) : (State.raise s src).l3 = s.l3 := (acts_raise s src).l3 rfl
@[simp] theorem State.raise_depvb (s : State) (src : Nat) : (State.raise s src).depvb = s.depvb := (acts_raise s src).depvb rfl
@[simp] theorem State.raise_sieve (s : State) (src : Nat) : (State.raise s src).sieve = s.sieve := (acts_raise s src).sieve rfl
@[simp] theorem State.raise_trk (s : State) (src : Nat) : (State.raise s src).trk = s.trk := (acts_raise s src).trk rfl
@[simp] theorem State.raise_fair (s : State) (src : Nat) : (State.raise s src).fair = s.fair := (acts_raise s src).fair rfl
@[simp] theorem State.raise_slots (s : State) (src : Nat) : (State.raise s src).slots = s.slots := (acts_raise s src).slots rfl
@[simp] theorem State.raise_agentReqs (s : State) (src : Nat) : (State.raise s src).agentReqs = s.agentReqs := (acts_raise s src).agentReqs rfl
@[simp] theorem State.raise_ghosts (s : State) (src : Nat) : (State.raise s src).ghosts = s.ghosts := (acts_raise s src).ghosts rfl
@[simp] theorem State.raise_mesh (s : State) (src : Nat) : (State.raise s src).mesh = s.mesh := (acts_raise s src).mesh rfl
@[simp] theorem State.raise_txns (s : State) (src : Nat) : (State.raise s src).txns = s.txns := (acts_raise s src).txns rfl
@[simp] theorem State.raise_linkStopped (s : State) (src : Nat) : (State.raise s src).linkStopped = s.linkStopped := (acts_raise s src).linkStopped rfl
@[simp] theorem State.raise_lidHeld (s : State) (src : Nat) : (State.raise s src).lidHeld = s.lidHeld := (acts_raise s src).lidHeld rfl
@[simp] theorem State.raise_pfw (s : State) (src : Nat) : (State.raise s src).pfw = s.pfw := (acts_raise s src).pfw rfl
@[simp] theorem State.raise_wtCache (s : State) (src : Nat) : (State.raise s src).wtCache = s.wtCache := (acts_raise s src).wtCache rfl
@[simp] theorem State.raise_hartPart (s : State) (src : Nat) : (State.raise s src).hartPart = s.hartPart := (acts_raise s src).hartPart rfl
@[simp] theorem State.raise_spn (s : State) (src : Nat) : (State.raise s src).spn = s.spn := (acts_raise s src).spn rfl
@[simp] theorem State.raise_spnChanged (s : State) (src : Nat) : (State.raise s src).spnChanged = s.spnChanged := (acts_raise s src).spnChanged rfl
@[simp] theorem State.raise_jrnRecs (s : State) (src : Nat) : (State.raise s src).jrnRecs = s.jrnRecs := (acts_raise s src).jrnRecs rfl
@[simp] theorem State.raise_pubs (s : State) (src : Nat) : (State.raise s src).pubs = s.pubs := (acts_raise s src).pubs rfl
@[simp] theorem State.raise_pubFlits (s : State) (src : Nat) : (State.raise s src).pubFlits = s.pubFlits := (acts_raise s src).pubFlits rfl
@[simp] theorem State.raise_repl (s : State) (src : Nat) : (State.raise s src).repl = s.repl := (acts_raise s src).repl rfl
@[simp] theorem State.raise_ports (s : State) (src : Nat) : (State.raise s src).ports = s.ports := (acts_raise s src).ports rfl
@[simp] theorem State.raise_fabIn (s : State) (src : Nat) : (State.raise s src).fabIn = s.fabIn := (acts_raise s src).fabIn rfl
@[simp] theorem State.raise_fabRem (s : State) (src : Nat) : (State.raise s src).fabRem = s.fabRem := (acts_raise s src).fabRem rfl
@[simp] theorem State.raise_fabDropped (s : State) (src : Nat) : (State.raise s src).fabDropped = s.fabDropped := (acts_raise s src).fabDropped rfl
@[simp] theorem State.raise_remote (s : State) (src : Nat) : (State.raise s src).remote = s.remote := (acts_raise s src).remote rfl
@[simp] theorem State.raise_sqNext (s : State) (src : Nat) : (State.raise s src).sqNext = s.sqNext := (acts_raise s src).sqNext rfl
@[simp] theorem State.raise_sqDone (s : State) (src : Nat) : (State.raise s src).sqDone = s.sqDone := (acts_raise s src).sqDone rfl
@[simp] theorem State.raise_slew (s : State) (src : Nat) : (State.raise s src).slew = s.slew := (acts_raise s src).slew rfl
@[simp] theorem State.raise_slewAcc (s : State) (src : Nat) : (State.raise s src).slewAcc = s.slewAcc := (acts_raise s src).slewAcc rfl
@[simp] theorem State.raise_pcieTags (s : State) (src : Nat) : (State.raise s src).pcieTags = s.pcieTags := (acts_raise s src).pcieTags rfl
@[simp] theorem State.raise_pcieOut (s : State) (src : Nat) : (State.raise s src).pcieOut = s.pcieOut := (acts_raise s src).pcieOut rfl
@[simp] theorem State.raise_pcieCpl (s : State) (src : Nat) : (State.raise s src).pcieCpl = s.pcieCpl := (acts_raise s src).pcieCpl rfl
@[simp] theorem State.raise_portReset (s : State) (src : Nat) : (State.raise s src).portReset = s.portReset := (acts_raise s src).portReset rfl
@[simp] theorem State.raise_pcieLate (s : State) (src : Nat) : (State.raise s src).pcieLate = s.pcieLate := (acts_raise s src).pcieLate rfl
@[simp] theorem State.raise_msiLost (s : State) (src : Nat) : (State.raise s src).msiLost = s.msiLost := (acts_raise s src).msiLost rfl
@[simp] theorem State.raise_ctxCache (s : State) (src : Nat) : (State.raise s src).ctxCache = s.ctxCache := (acts_raise s src).ctxCache rfl
@[simp] theorem State.raise_ioTlb (s : State) (src : Nat) : (State.raise s src).ioTlb = s.ioTlb := (acts_raise s src).ioTlb rfl
@[simp] theorem State.raise_jobs (s : State) (src : Nat) : (State.raise s src).jobs = s.jobs := (acts_raise s src).jobs rfl
@[simp] theorem State.raise_cphTurn (s : State) (src : Nat) : (State.raise s src).cphTurn = s.cphTurn := (acts_raise s src).cphTurn rfl
@[simp] theorem State.raise_cphKeys (s : State) (src : Nat) : (State.raise s src).cphKeys = s.cphKeys := (acts_raise s src).cphKeys rfl
@[simp] theorem State.raise_keys (s : State) (src : Nat) : (State.raise s src).keys = s.keys := (acts_raise s src).keys rfl
@[simp] theorem State.raise_keyNext (s : State) (src : Nat) : (State.raise s src).keyNext = s.keyNext := (acts_raise s src).keyNext rfl
@[simp] theorem State.raise_keyFreed (s : State) (src : Nat) : (State.raise s src).keyFreed = s.keyFreed := (acts_raise s src).keyFreed rfl
@[simp] theorem State.raise_srcHigh (s : State) (src : Nat) : (State.raise s src).srcHigh = s.srcHigh := (acts_raise s src).srcHigh rfl
@[simp] theorem State.raise_inServ (s : State) (src : Nat) : (State.raise s src).inServ = s.inServ := (acts_raise s src).inServ rfl
@[simp] theorem State.raise_nmiTaken (s : State) (src : Nat) : (State.raise s src).nmiTaken = s.nmiTaken := (acts_raise s src).nmiTaken rfl
@[simp] theorem State.raise_records (s : State) (src : Nat) : (State.raise s src).records = s.records := (acts_raise s src).records rfl
@[simp] theorem State.raise_limits (s : State) (src : Nat) : (State.raise s src).limits = s.limits := (acts_raise s src).limits rfl
@[simp] theorem State.raise_withheld (s : State) (src : Nat) : (State.raise s src).withheld = s.withheld := (acts_raise s src).withheld rfl
@[simp] theorem State.raise_errorN (s : State) (src : Nat) : (State.raise s src).errorN = s.errorN := (acts_raise s src).errorN rfl
@[simp] theorem State.raise_rstLevel (s : State) (src : Nat) : (State.raise s src).rstLevel = s.rstLevel := (acts_raise s src).rstLevel rfl
@[simp] theorem State.raise_relStep (s : State) (src : Nat) : (State.raise s src).relStep = s.relStep := (acts_raise s src).relStep rfl
@[simp] theorem State.raise_railOut (s : State) (src : Nat) : (State.raise s src).railOut = s.railOut := (acts_raise s src).railOut rfl
@[simp] theorem State.raise_pwrgood (s : State) (src : Nat) : (State.raise s src).pwrgood = s.pwrgood := (acts_raise s src).pwrgood rfl
@[simp] theorem State.raise_resetInLow (s : State) (src : Nat) : (State.raise s src).resetInLow = s.resetInLow := (acts_raise s src).resetInLow rfl
@[simp] theorem State.raise_prochotLow (s : State) (src : Nat) : (State.raise s src).prochotLow = s.prochotLow := (acts_raise s src).prochotLow rfl
@[simp] theorem State.raise_thermtrip (s : State) (src : Nat) : (State.raise s src).thermtrip = s.thermtrip := (acts_raise s src).thermtrip rfl
@[simp] theorem State.raise_readyPin (s : State) (src : Nat) : (State.raise s src).readyPin = s.readyPin := (acts_raise s src).readyPin rfl
@[simp] theorem State.raise_unlocked (s : State) (src : Nat) : (State.raise s src).unlocked = s.unlocked := (acts_raise s src).unlocked rfl
@[simp] theorem State.raise_regFailed (s : State) (src : Nat) : (State.raise s src).regFailed = s.regFailed := (acts_raise s src).regFailed rfl
@[simp] theorem State.raise_pGoal (s : State) (src : Nat) : (State.raise s src).pGoal = s.pGoal := (acts_raise s src).pGoal rfl
@[simp] theorem State.raise_pStop (s : State) (src : Nat) : (State.raise s src).pStop = s.pStop := (acts_raise s src).pStop rfl
@[simp] theorem State.raise_pkgIdle (s : State) (src : Nat) : (State.raise s src).pkgIdle = s.pkgIdle := (acts_raise s src).pkgIdle rfl
@[simp] theorem State.raise_rtcAcc (s : State) (src : Nat) : (State.raise s src).rtcAcc = s.rtcAcc := (acts_raise s src).rtcAcc rfl
@[simp] theorem State.raise_partStep (s : State) (src : Nat) : (State.raise s src).partStep = s.partStep := (acts_raise s src).partStep rfl
@[simp] theorem State.raise_fuses (s : State) (src : Nat) : (State.raise s src).fuses = s.fuses := (acts_raise s src).fuses rfl
@[simp] theorem State.raise_rcv (s : State) (src : Nat) : (State.raise s src).rcv = s.rcv := (acts_raise s src).rcv rfl
@[simp] theorem State.raise_bootStep (s : State) (src : Nat) : (State.raise s src).bootStep = s.bootStep := (acts_raise s src).bootStep rfl
@[simp] theorem State.raise_flash (s : State) (src : Nat) : (State.raise s src).flash = s.flash := (acts_raise s src).flash rfl
@[simp] theorem State.raise_ksCopy (s : State) (src : Nat) : (State.raise s src).ksCopy = s.ksCopy := (acts_raise s src).ksCopy rfl
@[simp] theorem State.raise_kek (s : State) (src : Nat) : (State.raise s src).kek = s.kek := (acts_raise s src).kek rfl
@[simp] theorem State.raise_ksErased (s : State) (src : Nat) : (State.raise s src).ksErased = s.ksErased := (acts_raise s src).ksErased rfl
@[simp] theorem State.raise_fmKeys (s : State) (src : Nat) : (State.raise s src).fmKeys = s.fmKeys := (acts_raise s src).fmKeys rfl
@[simp] theorem State.raise_boot (s : State) (src : Nat) : (State.raise s src).boot = s.boot := (acts_raise s src).boot rfl
@[simp] theorem State.raise_spRsp (s : State) (src : Nat) : (State.raise s src).spRsp = s.spRsp := (acts_raise s src).spRsp rfl
@[simp] theorem State.raise_evidence (s : State) (src : Nat) : (State.raise s src).evidence = s.evidence := (acts_raise s src).evidence rfl
@[simp] theorem State.raise_mac (s : State) (src : Nat) : (State.raise s src).mac = s.mac := (acts_raise s src).mac rfl
@[simp] theorem State.raise_pages (s : State) (src : Nat) : (State.raise s src).pages = s.pages := (acts_raise s src).pages rfl
@[simp] theorem State.raise_spd (s : State) (src : Nat) : (State.raise s src).spd = s.spd := (acts_raise s src).spd rfl
@[simp] theorem State.raise_traceBuf (s : State) (src : Nat) : (State.raise s src).traceBuf = s.traceBuf := (acts_raise s src).traceBuf rfl
@[simp] theorem State.raise_snaps (s : State) (src : Nat) : (State.raise s src).snaps = s.snaps := (acts_raise s src).snaps rfl
@[simp] theorem State.raise_ldl (s : State) (src : Nat) : (State.raise s src).ldl = s.ldl := (acts_raise s src).ldl rfl
@[simp] theorem State.raise_dbg (s : State) (src : Nat) : (State.raise s src).dbg = s.dbg := (acts_raise s src).dbg rfl
@[simp] theorem State.raise_lsio (s : State) (src : Nat) : (State.raise s src).lsio = s.lsio := (acts_raise s src).lsio rfl
@[simp] theorem State.raise_wdogNs (s : State) (src : Nat) : (State.raise s src).wdogNs = s.wdogNs := (acts_raise s src).wdogNs rfl
@[simp] theorem State.raise_cycAcc (s : State) (src : Nat) : (State.raise s src).cycAcc = s.cycAcc := (acts_raise s src).cycAcc rfl
@[simp] theorem State.rd_raise (s : State) (src : Nat) (q : RegId) (j : Nat) (hq : Nat.testBit 75557863725914323419328 q.num = false) : (State.raise s src).rd q j = s.rd q j := (acts_raise s src).reg q j (hq)
@[simp] theorem State.fld_raise (s : State) (src : Nat) (F : Fld) (j : Nat) (hq : Nat.testBit 75557863725914323419328 F.reg.num = false) : (State.raise s src).fld F j = s.fld F j := (acts_raise s src).fld F j (hq)

@[simp] theorem State.logErr_pending (s : State) (source : Nat) (unit : Nat) (cls : Nat) (code : Nat) (addr : Nat) : (State.logErr s source unit cls code addr).pending = s.pending := (acts_logErr s source unit cls code addr).pending rfl
@[simp] theorem State.logErr_dtime (s : State) (source : Nat) (unit : Nat) (cls : Nat) (code : Nat) (addr : Nat) : (State.logErr s source unit cls code addr).dtime = s.dtime := (acts_logErr s source unit cls code addr).dtime rfl
@[simp] theorem State.logErr_rsp (s : State) (source : Nat) (unit : Nat) (cls : Nat) (code : Nat) (addr : Nat) : (State.logErr s source unit cls code addr).rsp = s.rsp := (acts_logErr s source unit cls code addr).rsp rfl
@[simp] theorem State.logErr_chans (s : State) (source : Nat) (unit : Nat) (cls : Nat) (code : Nat) (addr : Nat) : (State.logErr s source unit cls code addr).chans = s.chans := (acts_logErr s source unit cls code addr).chans rfl
@[simp] theorem State.logErr_mcRsp (s : State) (source : Nat) (unit : Nat) (cls : Nat) (code : Nat) (addr : Nat) : (State.logErr s source unit cls code addr).mcRsp = s.mcRsp := (acts_logErr s source unit cls code addr).mcRsp rfl
@[simp] theorem State.logErr_opt (s : State) (source : Nat) (unit : Nat) (cls : Nat) (code : Nat) (addr : Nat) : (State.logErr s source unit cls code addr).opt = s.opt := (acts_logErr s source unit cls code addr).opt rfl
@[simp] theorem State.logErr_bootSrc (s : State) (source : Nat) (unit : Nat) (cls : Nat) (code : Nat) (addr : Nat) : (State.logErr s source unit cls code addr).bootSrc = s.bootSrc := (acts_logErr s source unit cls code addr).bootSrc rfl
@[simp] theorem State.logErr_recovSel (s : State) (source : Nat) (unit : Nat) (cls : Nat) (code : Nat) (addr : Nat) : (State.logErr s source unit cls code addr).recovSel = s.recovSel := (acts_logErr s source unit cls code addr).recovSel rfl
@[simp] theorem State.logErr_trk (s : State) (source : Nat) (unit : Nat) (cls : Nat) (code : Nat) (addr : Nat) : (State.logErr s source unit cls code addr).trk = s.trk := (acts_logErr s source unit cls code addr).trk rfl
@[simp] theorem State.logErr_fair (s : State) (source : Nat) (unit : Nat) (cls : Nat) (code : Nat) (addr : Nat) : (State.logErr s source unit cls code addr).fair = s.fair := (acts_logErr s source unit cls code addr).fair rfl
@[simp] theorem State.logErr_slots (s : State) (source : Nat) (unit : Nat) (cls : Nat) (code : Nat) (addr : Nat) : (State.logErr s source unit cls code addr).slots = s.slots := (acts_logErr s source unit cls code addr).slots rfl
@[simp] theorem State.logErr_agentReqs (s : State) (source : Nat) (unit : Nat) (cls : Nat) (code : Nat) (addr : Nat) : (State.logErr s source unit cls code addr).agentReqs = s.agentReqs := (acts_logErr s source unit cls code addr).agentReqs rfl
@[simp] theorem State.logErr_ghosts (s : State) (source : Nat) (unit : Nat) (cls : Nat) (code : Nat) (addr : Nat) : (State.logErr s source unit cls code addr).ghosts = s.ghosts := (acts_logErr s source unit cls code addr).ghosts rfl
@[simp] theorem State.logErr_mesh (s : State) (source : Nat) (unit : Nat) (cls : Nat) (code : Nat) (addr : Nat) : (State.logErr s source unit cls code addr).mesh = s.mesh := (acts_logErr s source unit cls code addr).mesh rfl
@[simp] theorem State.logErr_txns (s : State) (source : Nat) (unit : Nat) (cls : Nat) (code : Nat) (addr : Nat) : (State.logErr s source unit cls code addr).txns = s.txns := (acts_logErr s source unit cls code addr).txns rfl
@[simp] theorem State.logErr_linkStopped (s : State) (source : Nat) (unit : Nat) (cls : Nat) (code : Nat) (addr : Nat) : (State.logErr s source unit cls code addr).linkStopped = s.linkStopped := (acts_logErr s source unit cls code addr).linkStopped rfl
@[simp] theorem State.logErr_lidHeld (s : State) (source : Nat) (unit : Nat) (cls : Nat) (code : Nat) (addr : Nat) : (State.logErr s source unit cls code addr).lidHeld = s.lidHeld := (acts_logErr s source unit cls code addr).lidHeld rfl
@[simp] theorem State.logErr_pfw (s : State) (source : Nat) (unit : Nat) (cls : Nat) (code : Nat) (addr : Nat) : (State.logErr s source unit cls code addr).pfw = s.pfw := (acts_logErr s source unit cls code addr).pfw rfl
@[simp] theorem State.logErr_wtCache (s : State) (source : Nat) (unit : Nat) (cls : Nat) (code : Nat) (addr : Nat) : (State.logErr s source unit cls code addr).wtCache = s.wtCache := (acts_logErr s source unit cls code addr).wtCache rfl
@[simp] theorem State.logErr_hartPart (s : State) (source : Nat) (unit : Nat) (cls : Nat) (code : Nat) (addr : Nat) : (State.logErr s source unit cls code addr).hartPart = s.hartPart := (acts_logErr s source unit cls code addr).hartPart rfl
@[simp] theorem State.logErr_spn (s : State) (source : Nat) (unit : Nat) (cls : Nat) (code : Nat) (addr : Nat) : (State.logErr s source unit cls code addr).spn = s.spn := (acts_logErr s source unit cls code addr).spn rfl
@[simp] theorem State.logErr_spnChanged (s : State) (source : Nat) (unit : Nat) (cls : Nat) (code : Nat) (addr : Nat) : (State.logErr s source unit cls code addr).spnChanged = s.spnChanged := (acts_logErr s source unit cls code addr).spnChanged rfl
@[simp] theorem State.logErr_pubs (s : State) (source : Nat) (unit : Nat) (cls : Nat) (code : Nat) (addr : Nat) : (State.logErr s source unit cls code addr).pubs = s.pubs := (acts_logErr s source unit cls code addr).pubs rfl
@[simp] theorem State.logErr_pubFlits (s : State) (source : Nat) (unit : Nat) (cls : Nat) (code : Nat) (addr : Nat) : (State.logErr s source unit cls code addr).pubFlits = s.pubFlits := (acts_logErr s source unit cls code addr).pubFlits rfl
@[simp] theorem State.logErr_repl (s : State) (source : Nat) (unit : Nat) (cls : Nat) (code : Nat) (addr : Nat) : (State.logErr s source unit cls code addr).repl = s.repl := (acts_logErr s source unit cls code addr).repl rfl
@[simp] theorem State.logErr_ports (s : State) (source : Nat) (unit : Nat) (cls : Nat) (code : Nat) (addr : Nat) : (State.logErr s source unit cls code addr).ports = s.ports := (acts_logErr s source unit cls code addr).ports rfl
@[simp] theorem State.logErr_fabIn (s : State) (source : Nat) (unit : Nat) (cls : Nat) (code : Nat) (addr : Nat) : (State.logErr s source unit cls code addr).fabIn = s.fabIn := (acts_logErr s source unit cls code addr).fabIn rfl
@[simp] theorem State.logErr_fabRem (s : State) (source : Nat) (unit : Nat) (cls : Nat) (code : Nat) (addr : Nat) : (State.logErr s source unit cls code addr).fabRem = s.fabRem := (acts_logErr s source unit cls code addr).fabRem rfl
@[simp] theorem State.logErr_fabDropped (s : State) (source : Nat) (unit : Nat) (cls : Nat) (code : Nat) (addr : Nat) : (State.logErr s source unit cls code addr).fabDropped = s.fabDropped := (acts_logErr s source unit cls code addr).fabDropped rfl
@[simp] theorem State.logErr_remote (s : State) (source : Nat) (unit : Nat) (cls : Nat) (code : Nat) (addr : Nat) : (State.logErr s source unit cls code addr).remote = s.remote := (acts_logErr s source unit cls code addr).remote rfl
@[simp] theorem State.logErr_sqNext (s : State) (source : Nat) (unit : Nat) (cls : Nat) (code : Nat) (addr : Nat) : (State.logErr s source unit cls code addr).sqNext = s.sqNext := (acts_logErr s source unit cls code addr).sqNext rfl
@[simp] theorem State.logErr_sqDone (s : State) (source : Nat) (unit : Nat) (cls : Nat) (code : Nat) (addr : Nat) : (State.logErr s source unit cls code addr).sqDone = s.sqDone := (acts_logErr s source unit cls code addr).sqDone rfl
@[simp] theorem State.logErr_slew (s : State) (source : Nat) (unit : Nat) (cls : Nat) (code : Nat) (addr : Nat) : (State.logErr s source unit cls code addr).slew = s.slew := (acts_logErr s source unit cls code addr).slew rfl
@[simp] theorem State.logErr_slewAcc (s : State) (source : Nat) (unit : Nat) (cls : Nat) (code : Nat) (addr : Nat) : (State.logErr s source unit cls code addr).slewAcc = s.slewAcc := (acts_logErr s source unit cls code addr).slewAcc rfl
@[simp] theorem State.logErr_pcieTags (s : State) (source : Nat) (unit : Nat) (cls : Nat) (code : Nat) (addr : Nat) : (State.logErr s source unit cls code addr).pcieTags = s.pcieTags := (acts_logErr s source unit cls code addr).pcieTags rfl
@[simp] theorem State.logErr_pcieOut (s : State) (source : Nat) (unit : Nat) (cls : Nat) (code : Nat) (addr : Nat) : (State.logErr s source unit cls code addr).pcieOut = s.pcieOut := (acts_logErr s source unit cls code addr).pcieOut rfl
@[simp] theorem State.logErr_pcieCpl (s : State) (source : Nat) (unit : Nat) (cls : Nat) (code : Nat) (addr : Nat) : (State.logErr s source unit cls code addr).pcieCpl = s.pcieCpl := (acts_logErr s source unit cls code addr).pcieCpl rfl
@[simp] theorem State.logErr_portReset (s : State) (source : Nat) (unit : Nat) (cls : Nat) (code : Nat) (addr : Nat) : (State.logErr s source unit cls code addr).portReset = s.portReset := (acts_logErr s source unit cls code addr).portReset rfl
@[simp] theorem State.logErr_pcieLate (s : State) (source : Nat) (unit : Nat) (cls : Nat) (code : Nat) (addr : Nat) : (State.logErr s source unit cls code addr).pcieLate = s.pcieLate := (acts_logErr s source unit cls code addr).pcieLate rfl
@[simp] theorem State.logErr_msiLost (s : State) (source : Nat) (unit : Nat) (cls : Nat) (code : Nat) (addr : Nat) : (State.logErr s source unit cls code addr).msiLost = s.msiLost := (acts_logErr s source unit cls code addr).msiLost rfl
@[simp] theorem State.logErr_ctxCache (s : State) (source : Nat) (unit : Nat) (cls : Nat) (code : Nat) (addr : Nat) : (State.logErr s source unit cls code addr).ctxCache = s.ctxCache := (acts_logErr s source unit cls code addr).ctxCache rfl
@[simp] theorem State.logErr_ioTlb (s : State) (source : Nat) (unit : Nat) (cls : Nat) (code : Nat) (addr : Nat) : (State.logErr s source unit cls code addr).ioTlb = s.ioTlb := (acts_logErr s source unit cls code addr).ioTlb rfl
@[simp] theorem State.logErr_jobs (s : State) (source : Nat) (unit : Nat) (cls : Nat) (code : Nat) (addr : Nat) : (State.logErr s source unit cls code addr).jobs = s.jobs := (acts_logErr s source unit cls code addr).jobs rfl
@[simp] theorem State.logErr_cphTurn (s : State) (source : Nat) (unit : Nat) (cls : Nat) (code : Nat) (addr : Nat) : (State.logErr s source unit cls code addr).cphTurn = s.cphTurn := (acts_logErr s source unit cls code addr).cphTurn rfl
@[simp] theorem State.logErr_cphKeys (s : State) (source : Nat) (unit : Nat) (cls : Nat) (code : Nat) (addr : Nat) : (State.logErr s source unit cls code addr).cphKeys = s.cphKeys := (acts_logErr s source unit cls code addr).cphKeys rfl
@[simp] theorem State.logErr_keys (s : State) (source : Nat) (unit : Nat) (cls : Nat) (code : Nat) (addr : Nat) : (State.logErr s source unit cls code addr).keys = s.keys := (acts_logErr s source unit cls code addr).keys rfl
@[simp] theorem State.logErr_keyNext (s : State) (source : Nat) (unit : Nat) (cls : Nat) (code : Nat) (addr : Nat) : (State.logErr s source unit cls code addr).keyNext = s.keyNext := (acts_logErr s source unit cls code addr).keyNext rfl
@[simp] theorem State.logErr_keyFreed (s : State) (source : Nat) (unit : Nat) (cls : Nat) (code : Nat) (addr : Nat) : (State.logErr s source unit cls code addr).keyFreed = s.keyFreed := (acts_logErr s source unit cls code addr).keyFreed rfl
@[simp] theorem State.logErr_srcHigh (s : State) (source : Nat) (unit : Nat) (cls : Nat) (code : Nat) (addr : Nat) : (State.logErr s source unit cls code addr).srcHigh = s.srcHigh := (acts_logErr s source unit cls code addr).srcHigh rfl
@[simp] theorem State.logErr_inServ (s : State) (source : Nat) (unit : Nat) (cls : Nat) (code : Nat) (addr : Nat) : (State.logErr s source unit cls code addr).inServ = s.inServ := (acts_logErr s source unit cls code addr).inServ rfl
@[simp] theorem State.logErr_nmiTaken (s : State) (source : Nat) (unit : Nat) (cls : Nat) (code : Nat) (addr : Nat) : (State.logErr s source unit cls code addr).nmiTaken = s.nmiTaken := (acts_logErr s source unit cls code addr).nmiTaken rfl
@[simp] theorem State.logErr_limits (s : State) (source : Nat) (unit : Nat) (cls : Nat) (code : Nat) (addr : Nat) : (State.logErr s source unit cls code addr).limits = s.limits := (acts_logErr s source unit cls code addr).limits rfl
@[simp] theorem State.logErr_rstLevel (s : State) (source : Nat) (unit : Nat) (cls : Nat) (code : Nat) (addr : Nat) : (State.logErr s source unit cls code addr).rstLevel = s.rstLevel := (acts_logErr s source unit cls code addr).rstLevel rfl
@[simp] theorem State.logErr_relStep (s : State) (source : Nat) (unit : Nat) (cls : Nat) (code : Nat) (addr : Nat) : (State.logErr s source unit cls code addr).relStep = s.relStep := (acts_logErr s source unit cls code addr).relStep rfl
@[simp] theorem State.logErr_railOut (s : State) (source : Nat) (unit : Nat) (cls : Nat) (code : Nat) (addr : Nat) : (State.logErr s source unit cls code addr).railOut = s.railOut := (acts_logErr s source unit cls code addr).railOut rfl
@[simp] theorem State.logErr_pwrgood (s : State) (source : Nat) (unit : Nat) (cls : Nat) (code : Nat) (addr : Nat) : (State.logErr s source unit cls code addr).pwrgood = s.pwrgood := (acts_logErr s source unit cls code addr).pwrgood rfl
@[simp] theorem State.logErr_resetInLow (s : State) (source : Nat) (unit : Nat) (cls : Nat) (code : Nat) (addr : Nat) : (State.logErr s source unit cls code addr).resetInLow = s.resetInLow := (acts_logErr s source unit cls code addr).resetInLow rfl
@[simp] theorem State.logErr_prochotLow (s : State) (source : Nat) (unit : Nat) (cls : Nat) (code : Nat) (addr : Nat) : (State.logErr s source unit cls code addr).prochotLow = s.prochotLow := (acts_logErr s source unit cls code addr).prochotLow rfl
@[simp] theorem State.logErr_thermtrip (s : State) (source : Nat) (unit : Nat) (cls : Nat) (code : Nat) (addr : Nat) : (State.logErr s source unit cls code addr).thermtrip = s.thermtrip := (acts_logErr s source unit cls code addr).thermtrip rfl
@[simp] theorem State.logErr_readyPin (s : State) (source : Nat) (unit : Nat) (cls : Nat) (code : Nat) (addr : Nat) : (State.logErr s source unit cls code addr).readyPin = s.readyPin := (acts_logErr s source unit cls code addr).readyPin rfl
@[simp] theorem State.logErr_unlocked (s : State) (source : Nat) (unit : Nat) (cls : Nat) (code : Nat) (addr : Nat) : (State.logErr s source unit cls code addr).unlocked = s.unlocked := (acts_logErr s source unit cls code addr).unlocked rfl
@[simp] theorem State.logErr_regFailed (s : State) (source : Nat) (unit : Nat) (cls : Nat) (code : Nat) (addr : Nat) : (State.logErr s source unit cls code addr).regFailed = s.regFailed := (acts_logErr s source unit cls code addr).regFailed rfl
@[simp] theorem State.logErr_pGoal (s : State) (source : Nat) (unit : Nat) (cls : Nat) (code : Nat) (addr : Nat) : (State.logErr s source unit cls code addr).pGoal = s.pGoal := (acts_logErr s source unit cls code addr).pGoal rfl
@[simp] theorem State.logErr_pStop (s : State) (source : Nat) (unit : Nat) (cls : Nat) (code : Nat) (addr : Nat) : (State.logErr s source unit cls code addr).pStop = s.pStop := (acts_logErr s source unit cls code addr).pStop rfl
@[simp] theorem State.logErr_pkgIdle (s : State) (source : Nat) (unit : Nat) (cls : Nat) (code : Nat) (addr : Nat) : (State.logErr s source unit cls code addr).pkgIdle = s.pkgIdle := (acts_logErr s source unit cls code addr).pkgIdle rfl
@[simp] theorem State.logErr_rtcAcc (s : State) (source : Nat) (unit : Nat) (cls : Nat) (code : Nat) (addr : Nat) : (State.logErr s source unit cls code addr).rtcAcc = s.rtcAcc := (acts_logErr s source unit cls code addr).rtcAcc rfl
@[simp] theorem State.logErr_partStep (s : State) (source : Nat) (unit : Nat) (cls : Nat) (code : Nat) (addr : Nat) : (State.logErr s source unit cls code addr).partStep = s.partStep := (acts_logErr s source unit cls code addr).partStep rfl
@[simp] theorem State.logErr_fuses (s : State) (source : Nat) (unit : Nat) (cls : Nat) (code : Nat) (addr : Nat) : (State.logErr s source unit cls code addr).fuses = s.fuses := (acts_logErr s source unit cls code addr).fuses rfl
@[simp] theorem State.logErr_rcv (s : State) (source : Nat) (unit : Nat) (cls : Nat) (code : Nat) (addr : Nat) : (State.logErr s source unit cls code addr).rcv = s.rcv := (acts_logErr s source unit cls code addr).rcv rfl
@[simp] theorem State.logErr_bootStep (s : State) (source : Nat) (unit : Nat) (cls : Nat) (code : Nat) (addr : Nat) : (State.logErr s source unit cls code addr).bootStep = s.bootStep := (acts_logErr s source unit cls code addr).bootStep rfl
@[simp] theorem State.logErr_flash (s : State) (source : Nat) (unit : Nat) (cls : Nat) (code : Nat) (addr : Nat) : (State.logErr s source unit cls code addr).flash = s.flash := (acts_logErr s source unit cls code addr).flash rfl
@[simp] theorem State.logErr_ksCopy (s : State) (source : Nat) (unit : Nat) (cls : Nat) (code : Nat) (addr : Nat) : (State.logErr s source unit cls code addr).ksCopy = s.ksCopy := (acts_logErr s source unit cls code addr).ksCopy rfl
@[simp] theorem State.logErr_kek (s : State) (source : Nat) (unit : Nat) (cls : Nat) (code : Nat) (addr : Nat) : (State.logErr s source unit cls code addr).kek = s.kek := (acts_logErr s source unit cls code addr).kek rfl
@[simp] theorem State.logErr_ksErased (s : State) (source : Nat) (unit : Nat) (cls : Nat) (code : Nat) (addr : Nat) : (State.logErr s source unit cls code addr).ksErased = s.ksErased := (acts_logErr s source unit cls code addr).ksErased rfl
@[simp] theorem State.logErr_fmKeys (s : State) (source : Nat) (unit : Nat) (cls : Nat) (code : Nat) (addr : Nat) : (State.logErr s source unit cls code addr).fmKeys = s.fmKeys := (acts_logErr s source unit cls code addr).fmKeys rfl
@[simp] theorem State.logErr_boot (s : State) (source : Nat) (unit : Nat) (cls : Nat) (code : Nat) (addr : Nat) : (State.logErr s source unit cls code addr).boot = s.boot := (acts_logErr s source unit cls code addr).boot rfl
@[simp] theorem State.logErr_spRsp (s : State) (source : Nat) (unit : Nat) (cls : Nat) (code : Nat) (addr : Nat) : (State.logErr s source unit cls code addr).spRsp = s.spRsp := (acts_logErr s source unit cls code addr).spRsp rfl
@[simp] theorem State.logErr_evidence (s : State) (source : Nat) (unit : Nat) (cls : Nat) (code : Nat) (addr : Nat) : (State.logErr s source unit cls code addr).evidence = s.evidence := (acts_logErr s source unit cls code addr).evidence rfl
@[simp] theorem State.logErr_mac (s : State) (source : Nat) (unit : Nat) (cls : Nat) (code : Nat) (addr : Nat) : (State.logErr s source unit cls code addr).mac = s.mac := (acts_logErr s source unit cls code addr).mac rfl
@[simp] theorem State.logErr_pages (s : State) (source : Nat) (unit : Nat) (cls : Nat) (code : Nat) (addr : Nat) : (State.logErr s source unit cls code addr).pages = s.pages := (acts_logErr s source unit cls code addr).pages rfl
@[simp] theorem State.logErr_spd (s : State) (source : Nat) (unit : Nat) (cls : Nat) (code : Nat) (addr : Nat) : (State.logErr s source unit cls code addr).spd = s.spd := (acts_logErr s source unit cls code addr).spd rfl
@[simp] theorem State.logErr_traceBuf (s : State) (source : Nat) (unit : Nat) (cls : Nat) (code : Nat) (addr : Nat) : (State.logErr s source unit cls code addr).traceBuf = s.traceBuf := (acts_logErr s source unit cls code addr).traceBuf rfl
@[simp] theorem State.logErr_snaps (s : State) (source : Nat) (unit : Nat) (cls : Nat) (code : Nat) (addr : Nat) : (State.logErr s source unit cls code addr).snaps = s.snaps := (acts_logErr s source unit cls code addr).snaps rfl
@[simp] theorem State.logErr_ldl (s : State) (source : Nat) (unit : Nat) (cls : Nat) (code : Nat) (addr : Nat) : (State.logErr s source unit cls code addr).ldl = s.ldl := (acts_logErr s source unit cls code addr).ldl rfl
@[simp] theorem State.logErr_dbg (s : State) (source : Nat) (unit : Nat) (cls : Nat) (code : Nat) (addr : Nat) : (State.logErr s source unit cls code addr).dbg = s.dbg := (acts_logErr s source unit cls code addr).dbg rfl
@[simp] theorem State.logErr_lsio (s : State) (source : Nat) (unit : Nat) (cls : Nat) (code : Nat) (addr : Nat) : (State.logErr s source unit cls code addr).lsio = s.lsio := (acts_logErr s source unit cls code addr).lsio rfl
@[simp] theorem State.logErr_wdogNs (s : State) (source : Nat) (unit : Nat) (cls : Nat) (code : Nat) (addr : Nat) : (State.logErr s source unit cls code addr).wdogNs = s.wdogNs := (acts_logErr s source unit cls code addr).wdogNs rfl
@[simp] theorem State.logErr_cycAcc (s : State) (source : Nat) (unit : Nat) (cls : Nat) (code : Nat) (addr : Nat) : (State.logErr s source unit cls code addr).cycAcc = s.cycAcc := (acts_logErr s source unit cls code addr).cycAcc rfl
@[simp] theorem State.rd_logErr (s : State) (source : Nat) (unit : Nat) (cls : Nat) (code : Nat) (addr : Nat) (q : RegId) (j : Nat) (hq : Nat.testBit 237684563100656738694955270592 q.num = false) : (State.logErr s source unit cls code addr).rd q j = s.rd q j := (acts_logErr s source unit cls code addr).reg q j (hq)
@[simp] theorem State.fld_logErr (s : State) (source : Nat) (unit : Nat) (cls : Nat) (code : Nat) (addr : Nat) (F : Fld) (j : Nat) (hq : Nat.testBit 237684563100656738694955270592 F.reg.num = false) : (State.logErr s source unit cls code addr).fld F j = s.fld F j := (acts_logErr s source unit cls code addr).fld F j (hq)

@[simp] theorem State.answer_pending (s : State) (ag : Agent) (data : W) (status : Nat) : (State.answer s ag data status).pending = s.pending := (acts_answer s ag data status).pending rfl
@[simp] theorem State.answer_free (s : State) (ag : Agent) (data : W) (status : Nat) : (State.answer s ag data status).free = s.free := (acts_answer s ag data status).free rfl
@[simp] theorem State.answer_stamp (s : State) (ag : Agent) (data : W) (status : Nat) : (State.answer s ag data status).stamp = s.stamp := (acts_answer s ag data status).stamp rfl
@[simp] theorem State.answer_dtime (s : State) (ag : Agent) (data : W) (status : Nat) : (State.answer s ag data status).dtime = s.dtime := (acts_answer s ag data status).dtime rfl
@[simp] theorem State.answer_mem (s : State) (ag : Agent) (data : W) (status : Nat) : (State.answer s ag data status).mem = s.mem := (acts_answer s ag data status).mem rfl
@[simp] theorem State.answer_memPoison (s : State) (ag : Agent) (data : W) (status : Nat) : (State.answer s ag data status).memPoison = s.memPoison := (acts_answer s ag data status).memPoison rfl
@[simp] theorem State.answer_chans (s : State) (ag : Agent) (data : W) (status : Nat) : (State.answer s ag data status).chans = s.chans := (acts_answer s ag data status).chans rfl
@[simp] theorem State.answer_mcRsp (s : State) (ag : Agent) (data : W) (status : Nat) : (State.answer s ag data status).mcRsp = s.mcRsp := (acts_answer s ag data status).mcRsp rfl
@[simp] theorem State.answer_opt (s : State) (ag : Agent) (data : W) (status : Nat) : (State.answer s ag data status).opt = s.opt := (acts_answer s ag data status).opt rfl
@[simp] theorem State.answer_bootSrc (s : State) (ag : Agent) (data : W) (status : Nat) : (State.answer s ag data status).bootSrc = s.bootSrc := (acts_answer s ag data status).bootSrc rfl
@[simp] theorem State.answer_recovSel (s : State) (ag : Agent) (data : W) (status : Nat) : (State.answer s ag data status).recovSel = s.recovSel := (acts_answer s ag data status).recovSel rfl
@[simp] theorem State.answer_l3 (s : State) (ag : Agent) (data : W) (status : Nat) : (State.answer s ag data status).l3 = s.l3 := (acts_answer s ag data status).l3 rfl
@[simp] theorem State.answer_depvb (s : State) (ag : Agent) (data : W) (status : Nat) : (State.answer s ag data status).depvb = s.depvb := (acts_answer s ag data status).depvb rfl
@[simp] theorem State.answer_sieve (s : State) (ag : Agent) (data : W) (status : Nat) : (State.answer s ag data status).sieve = s.sieve := (acts_answer s ag data status).sieve rfl
@[simp] theorem State.answer_trk (s : State) (ag : Agent) (data : W) (status : Nat) : (State.answer s ag data status).trk = s.trk := (acts_answer s ag data status).trk rfl
@[simp] theorem State.answer_fair (s : State) (ag : Agent) (data : W) (status : Nat) : (State.answer s ag data status).fair = s.fair := (acts_answer s ag data status).fair rfl
@[simp] theorem State.answer_slots (s : State) (ag : Agent) (data : W) (status : Nat) : (State.answer s ag data status).slots = s.slots := (acts_answer s ag data status).slots rfl
@[simp] theorem State.answer_agentReqs (s : State) (ag : Agent) (data : W) (status : Nat) : (State.answer s ag data status).agentReqs = s.agentReqs := (acts_answer s ag data status).agentReqs rfl
@[simp] theorem State.answer_ghosts (s : State) (ag : Agent) (data : W) (status : Nat) : (State.answer s ag data status).ghosts = s.ghosts := (acts_answer s ag data status).ghosts rfl
@[simp] theorem State.answer_txns (s : State) (ag : Agent) (data : W) (status : Nat) : (State.answer s ag data status).txns = s.txns := (acts_answer s ag data status).txns rfl
@[simp] theorem State.answer_linkStopped (s : State) (ag : Agent) (data : W) (status : Nat) : (State.answer s ag data status).linkStopped = s.linkStopped := (acts_answer s ag data status).linkStopped rfl
@[simp] theorem State.answer_lidHeld (s : State) (ag : Agent) (data : W) (status : Nat) : (State.answer s ag data status).lidHeld = s.lidHeld := (acts_answer s ag data status).lidHeld rfl
@[simp] theorem State.answer_pfw (s : State) (ag : Agent) (data : W) (status : Nat) : (State.answer s ag data status).pfw = s.pfw := (acts_answer s ag data status).pfw rfl
@[simp] theorem State.answer_wtCache (s : State) (ag : Agent) (data : W) (status : Nat) : (State.answer s ag data status).wtCache = s.wtCache := (acts_answer s ag data status).wtCache rfl
@[simp] theorem State.answer_hartPart (s : State) (ag : Agent) (data : W) (status : Nat) : (State.answer s ag data status).hartPart = s.hartPart := (acts_answer s ag data status).hartPart rfl
@[simp] theorem State.answer_pairs (s : State) (ag : Agent) (data : W) (status : Nat) : (State.answer s ag data status).pairs = s.pairs := (acts_answer s ag data status).pairs rfl
@[simp] theorem State.answer_spn (s : State) (ag : Agent) (data : W) (status : Nat) : (State.answer s ag data status).spn = s.spn := (acts_answer s ag data status).spn rfl
@[simp] theorem State.answer_spnChanged (s : State) (ag : Agent) (data : W) (status : Nat) : (State.answer s ag data status).spnChanged = s.spnChanged := (acts_answer s ag data status).spnChanged rfl
@[simp] theorem State.answer_jrnRes (s : State) (ag : Agent) (data : W) (status : Nat) : (State.answer s ag data status).jrnRes = s.jrnRes := (acts_answer s ag data status).jrnRes rfl
@[simp] theorem State.answer_jrnRecs (s : State) (ag : Agent) (data : W) (status : Nat) : (State.answer s ag data status).jrnRecs = s.jrnRecs := (acts_answer s ag data status).jrnRecs rfl
@[simp] theorem State.answer_pubs (s : State) (ag : Agent) (data : W) (status : Nat) : (State.answer s ag data status).pubs = s.pubs := (acts_answer s ag data status).pubs rfl
@[simp] theorem State.answer_pubFlits (s : State) (ag : Agent) (data : W) (status : Nat) : (State.answer s ag data status).pubFlits = s.pubFlits := (acts_answer s ag data status).pubFlits rfl
@[simp] theorem State.answer_repl (s : State) (ag : Agent) (data : W) (status : Nat) : (State.answer s ag data status).repl = s.repl := (acts_answer s ag data status).repl rfl
@[simp] theorem State.answer_ports (s : State) (ag : Agent) (data : W) (status : Nat) : (State.answer s ag data status).ports = s.ports := (acts_answer s ag data status).ports rfl
@[simp] theorem State.answer_fabIn (s : State) (ag : Agent) (data : W) (status : Nat) : (State.answer s ag data status).fabIn = s.fabIn := (acts_answer s ag data status).fabIn rfl
@[simp] theorem State.answer_fabRem (s : State) (ag : Agent) (data : W) (status : Nat) : (State.answer s ag data status).fabRem = s.fabRem := (acts_answer s ag data status).fabRem rfl
@[simp] theorem State.answer_fabDropped (s : State) (ag : Agent) (data : W) (status : Nat) : (State.answer s ag data status).fabDropped = s.fabDropped := (acts_answer s ag data status).fabDropped rfl
@[simp] theorem State.answer_remote (s : State) (ag : Agent) (data : W) (status : Nat) : (State.answer s ag data status).remote = s.remote := (acts_answer s ag data status).remote rfl
@[simp] theorem State.answer_sqNext (s : State) (ag : Agent) (data : W) (status : Nat) : (State.answer s ag data status).sqNext = s.sqNext := (acts_answer s ag data status).sqNext rfl
@[simp] theorem State.answer_sqDone (s : State) (ag : Agent) (data : W) (status : Nat) : (State.answer s ag data status).sqDone = s.sqDone := (acts_answer s ag data status).sqDone rfl
@[simp] theorem State.answer_slew (s : State) (ag : Agent) (data : W) (status : Nat) : (State.answer s ag data status).slew = s.slew := (acts_answer s ag data status).slew rfl
@[simp] theorem State.answer_slewAcc (s : State) (ag : Agent) (data : W) (status : Nat) : (State.answer s ag data status).slewAcc = s.slewAcc := (acts_answer s ag data status).slewAcc rfl
@[simp] theorem State.answer_pcieTags (s : State) (ag : Agent) (data : W) (status : Nat) : (State.answer s ag data status).pcieTags = s.pcieTags := (acts_answer s ag data status).pcieTags rfl
@[simp] theorem State.answer_pcieOut (s : State) (ag : Agent) (data : W) (status : Nat) : (State.answer s ag data status).pcieOut = s.pcieOut := (acts_answer s ag data status).pcieOut rfl
@[simp] theorem State.answer_pcieCpl (s : State) (ag : Agent) (data : W) (status : Nat) : (State.answer s ag data status).pcieCpl = s.pcieCpl := (acts_answer s ag data status).pcieCpl rfl
@[simp] theorem State.answer_portReset (s : State) (ag : Agent) (data : W) (status : Nat) : (State.answer s ag data status).portReset = s.portReset := (acts_answer s ag data status).portReset rfl
@[simp] theorem State.answer_pcieLate (s : State) (ag : Agent) (data : W) (status : Nat) : (State.answer s ag data status).pcieLate = s.pcieLate := (acts_answer s ag data status).pcieLate rfl
@[simp] theorem State.answer_msiLost (s : State) (ag : Agent) (data : W) (status : Nat) : (State.answer s ag data status).msiLost = s.msiLost := (acts_answer s ag data status).msiLost rfl
@[simp] theorem State.answer_ctxCache (s : State) (ag : Agent) (data : W) (status : Nat) : (State.answer s ag data status).ctxCache = s.ctxCache := (acts_answer s ag data status).ctxCache rfl
@[simp] theorem State.answer_ioTlb (s : State) (ag : Agent) (data : W) (status : Nat) : (State.answer s ag data status).ioTlb = s.ioTlb := (acts_answer s ag data status).ioTlb rfl
@[simp] theorem State.answer_jobs (s : State) (ag : Agent) (data : W) (status : Nat) : (State.answer s ag data status).jobs = s.jobs := (acts_answer s ag data status).jobs rfl
@[simp] theorem State.answer_cphTurn (s : State) (ag : Agent) (data : W) (status : Nat) : (State.answer s ag data status).cphTurn = s.cphTurn := (acts_answer s ag data status).cphTurn rfl
@[simp] theorem State.answer_cphKeys (s : State) (ag : Agent) (data : W) (status : Nat) : (State.answer s ag data status).cphKeys = s.cphKeys := (acts_answer s ag data status).cphKeys rfl
@[simp] theorem State.answer_keys (s : State) (ag : Agent) (data : W) (status : Nat) : (State.answer s ag data status).keys = s.keys := (acts_answer s ag data status).keys rfl
@[simp] theorem State.answer_keyNext (s : State) (ag : Agent) (data : W) (status : Nat) : (State.answer s ag data status).keyNext = s.keyNext := (acts_answer s ag data status).keyNext rfl
@[simp] theorem State.answer_keyFreed (s : State) (ag : Agent) (data : W) (status : Nat) : (State.answer s ag data status).keyFreed = s.keyFreed := (acts_answer s ag data status).keyFreed rfl
@[simp] theorem State.answer_srcHigh (s : State) (ag : Agent) (data : W) (status : Nat) : (State.answer s ag data status).srcHigh = s.srcHigh := (acts_answer s ag data status).srcHigh rfl
@[simp] theorem State.answer_pend (s : State) (ag : Agent) (data : W) (status : Nat) : (State.answer s ag data status).pend = s.pend := (acts_answer s ag data status).pend rfl
@[simp] theorem State.answer_inServ (s : State) (ag : Agent) (data : W) (status : Nat) : (State.answer s ag data status).inServ = s.inServ := (acts_answer s ag data status).inServ rfl
@[simp] theorem State.answer_nmiTaken (s : State) (ag : Agent) (data : W) (status : Nat) : (State.answer s ag data status).nmiTaken = s.nmiTaken := (acts_answer s ag data status).nmiTaken rfl
@[simp] theorem State.answer_records (s : State) (ag : Agent) (data : W) (status : Nat) : (State.answer s ag data status).records = s.records := (acts_answer s ag data status).records rfl
@[simp] theorem State.answer_limits (s : State) (ag : Agent) (data : W) (status : Nat) : (State.answer s ag data status).limits = s.limits := (acts_answer s ag data status).limits rfl
@[simp] theorem State.answer_withheld (s : State) (ag : Agent) (data : W) (status : Nat) : (State.answer s ag data status).withheld = s.withheld := (acts_answer s ag data status).withheld rfl
@[simp] theorem State.answer_errorN (s : State) (ag : Agent) (data : W) (status : Nat) : (State.answer s ag data status).errorN = s.errorN := (acts_answer s ag data status).errorN rfl
@[simp] theorem State.answer_rstLevel (s : State) (ag : Agent) (data : W) (status : Nat) : (State.answer s ag data status).rstLevel = s.rstLevel := (acts_answer s ag data status).rstLevel rfl
@[simp] theorem State.answer_relStep (s : State) (ag : Agent) (data : W) (status : Nat) : (State.answer s ag data status).relStep = s.relStep := (acts_answer s ag data status).relStep rfl
@[simp] theorem State.answer_railOut (s : State) (ag : Agent) (data : W) (status : Nat) : (State.answer s ag data status).railOut = s.railOut := (acts_answer s ag data status).railOut rfl
@[simp] theorem State.answer_pwrgood (s : State) (ag : Agent) (data : W) (status : Nat) : (State.answer s ag data status).pwrgood = s.pwrgood := (acts_answer s ag data status).pwrgood rfl
@[simp] theorem State.answer_resetInLow (s : State) (ag : Agent) (data : W) (status : Nat) : (State.answer s ag data status).resetInLow = s.resetInLow := (acts_answer s ag data status).resetInLow rfl
@[simp] theorem State.answer_prochotLow (s : State) (ag : Agent) (data : W) (status : Nat) : (State.answer s ag data status).prochotLow = s.prochotLow := (acts_answer s ag data status).prochotLow rfl
@[simp] theorem State.answer_thermtrip (s : State) (ag : Agent) (data : W) (status : Nat) : (State.answer s ag data status).thermtrip = s.thermtrip := (acts_answer s ag data status).thermtrip rfl
@[simp] theorem State.answer_readyPin (s : State) (ag : Agent) (data : W) (status : Nat) : (State.answer s ag data status).readyPin = s.readyPin := (acts_answer s ag data status).readyPin rfl
@[simp] theorem State.answer_unlocked (s : State) (ag : Agent) (data : W) (status : Nat) : (State.answer s ag data status).unlocked = s.unlocked := (acts_answer s ag data status).unlocked rfl
@[simp] theorem State.answer_regFailed (s : State) (ag : Agent) (data : W) (status : Nat) : (State.answer s ag data status).regFailed = s.regFailed := (acts_answer s ag data status).regFailed rfl
@[simp] theorem State.answer_pGoal (s : State) (ag : Agent) (data : W) (status : Nat) : (State.answer s ag data status).pGoal = s.pGoal := (acts_answer s ag data status).pGoal rfl
@[simp] theorem State.answer_pStop (s : State) (ag : Agent) (data : W) (status : Nat) : (State.answer s ag data status).pStop = s.pStop := (acts_answer s ag data status).pStop rfl
@[simp] theorem State.answer_pkgIdle (s : State) (ag : Agent) (data : W) (status : Nat) : (State.answer s ag data status).pkgIdle = s.pkgIdle := (acts_answer s ag data status).pkgIdle rfl
@[simp] theorem State.answer_rtcAcc (s : State) (ag : Agent) (data : W) (status : Nat) : (State.answer s ag data status).rtcAcc = s.rtcAcc := (acts_answer s ag data status).rtcAcc rfl
@[simp] theorem State.answer_partStep (s : State) (ag : Agent) (data : W) (status : Nat) : (State.answer s ag data status).partStep = s.partStep := (acts_answer s ag data status).partStep rfl
@[simp] theorem State.answer_fuses (s : State) (ag : Agent) (data : W) (status : Nat) : (State.answer s ag data status).fuses = s.fuses := (acts_answer s ag data status).fuses rfl
@[simp] theorem State.answer_rcv (s : State) (ag : Agent) (data : W) (status : Nat) : (State.answer s ag data status).rcv = s.rcv := (acts_answer s ag data status).rcv rfl
@[simp] theorem State.answer_bootStep (s : State) (ag : Agent) (data : W) (status : Nat) : (State.answer s ag data status).bootStep = s.bootStep := (acts_answer s ag data status).bootStep rfl
@[simp] theorem State.answer_flash (s : State) (ag : Agent) (data : W) (status : Nat) : (State.answer s ag data status).flash = s.flash := (acts_answer s ag data status).flash rfl
@[simp] theorem State.answer_ksCopy (s : State) (ag : Agent) (data : W) (status : Nat) : (State.answer s ag data status).ksCopy = s.ksCopy := (acts_answer s ag data status).ksCopy rfl
@[simp] theorem State.answer_kek (s : State) (ag : Agent) (data : W) (status : Nat) : (State.answer s ag data status).kek = s.kek := (acts_answer s ag data status).kek rfl
@[simp] theorem State.answer_ksErased (s : State) (ag : Agent) (data : W) (status : Nat) : (State.answer s ag data status).ksErased = s.ksErased := (acts_answer s ag data status).ksErased rfl
@[simp] theorem State.answer_fmKeys (s : State) (ag : Agent) (data : W) (status : Nat) : (State.answer s ag data status).fmKeys = s.fmKeys := (acts_answer s ag data status).fmKeys rfl
@[simp] theorem State.answer_boot (s : State) (ag : Agent) (data : W) (status : Nat) : (State.answer s ag data status).boot = s.boot := (acts_answer s ag data status).boot rfl
@[simp] theorem State.answer_spRsp (s : State) (ag : Agent) (data : W) (status : Nat) : (State.answer s ag data status).spRsp = s.spRsp := (acts_answer s ag data status).spRsp rfl
@[simp] theorem State.answer_evidence (s : State) (ag : Agent) (data : W) (status : Nat) : (State.answer s ag data status).evidence = s.evidence := (acts_answer s ag data status).evidence rfl
@[simp] theorem State.answer_mac (s : State) (ag : Agent) (data : W) (status : Nat) : (State.answer s ag data status).mac = s.mac := (acts_answer s ag data status).mac rfl
@[simp] theorem State.answer_pages (s : State) (ag : Agent) (data : W) (status : Nat) : (State.answer s ag data status).pages = s.pages := (acts_answer s ag data status).pages rfl
@[simp] theorem State.answer_spd (s : State) (ag : Agent) (data : W) (status : Nat) : (State.answer s ag data status).spd = s.spd := (acts_answer s ag data status).spd rfl
@[simp] theorem State.answer_traceBuf (s : State) (ag : Agent) (data : W) (status : Nat) : (State.answer s ag data status).traceBuf = s.traceBuf := (acts_answer s ag data status).traceBuf rfl
@[simp] theorem State.answer_snaps (s : State) (ag : Agent) (data : W) (status : Nat) : (State.answer s ag data status).snaps = s.snaps := (acts_answer s ag data status).snaps rfl
@[simp] theorem State.answer_cnt (s : State) (ag : Agent) (data : W) (status : Nat) : (State.answer s ag data status).cnt = s.cnt := (acts_answer s ag data status).cnt rfl
@[simp] theorem State.answer_ldl (s : State) (ag : Agent) (data : W) (status : Nat) : (State.answer s ag data status).ldl = s.ldl := (acts_answer s ag data status).ldl rfl
@[simp] theorem State.answer_lsio (s : State) (ag : Agent) (data : W) (status : Nat) : (State.answer s ag data status).lsio = s.lsio := (acts_answer s ag data status).lsio rfl
@[simp] theorem State.answer_wdogNs (s : State) (ag : Agent) (data : W) (status : Nat) : (State.answer s ag data status).wdogNs = s.wdogNs := (acts_answer s ag data status).wdogNs rfl
@[simp] theorem State.answer_cycAcc (s : State) (ag : Agent) (data : W) (status : Nat) : (State.answer s ag data status).cycAcc = s.cycAcc := (acts_answer s ag data status).cycAcc rfl
@[simp] theorem State.rd_answer (s : State) (ag : Agent) (data : W) (status : Nat) (q : RegId) (j : Nat) : (State.answer s ag data status).rd q j = s.rd q j := (acts_answer s ag data status).reg q j (Nat.zero_testBit _)
@[simp] theorem State.fld_answer (s : State) (ag : Agent) (data : W) (status : Nat) (F : Fld) (j : Nat) : (State.answer s ag data status).fld F j = s.fld F j := (acts_answer s ag data status).fld F j (Nat.zero_testBit _)

@[simp] theorem State.answerW_pending (s : State) (ag : Agent) (pa : Nat) (status : Nat) : (State.answerW s ag pa status).pending = s.pending := (acts_answerW s ag pa status).pending rfl
@[simp] theorem State.answerW_free (s : State) (ag : Agent) (pa : Nat) (status : Nat) : (State.answerW s ag pa status).free = s.free := (acts_answerW s ag pa status).free rfl
@[simp] theorem State.answerW_stamp (s : State) (ag : Agent) (pa : Nat) (status : Nat) : (State.answerW s ag pa status).stamp = s.stamp := (acts_answerW s ag pa status).stamp rfl
@[simp] theorem State.answerW_dtime (s : State) (ag : Agent) (pa : Nat) (status : Nat) : (State.answerW s ag pa status).dtime = s.dtime := (acts_answerW s ag pa status).dtime rfl
@[simp] theorem State.answerW_mem (s : State) (ag : Agent) (pa : Nat) (status : Nat) : (State.answerW s ag pa status).mem = s.mem := (acts_answerW s ag pa status).mem rfl
@[simp] theorem State.answerW_memPoison (s : State) (ag : Agent) (pa : Nat) (status : Nat) : (State.answerW s ag pa status).memPoison = s.memPoison := (acts_answerW s ag pa status).memPoison rfl
@[simp] theorem State.answerW_chans (s : State) (ag : Agent) (pa : Nat) (status : Nat) : (State.answerW s ag pa status).chans = s.chans := (acts_answerW s ag pa status).chans rfl
@[simp] theorem State.answerW_mcRsp (s : State) (ag : Agent) (pa : Nat) (status : Nat) : (State.answerW s ag pa status).mcRsp = s.mcRsp := (acts_answerW s ag pa status).mcRsp rfl
@[simp] theorem State.answerW_opt (s : State) (ag : Agent) (pa : Nat) (status : Nat) : (State.answerW s ag pa status).opt = s.opt := (acts_answerW s ag pa status).opt rfl
@[simp] theorem State.answerW_bootSrc (s : State) (ag : Agent) (pa : Nat) (status : Nat) : (State.answerW s ag pa status).bootSrc = s.bootSrc := (acts_answerW s ag pa status).bootSrc rfl
@[simp] theorem State.answerW_recovSel (s : State) (ag : Agent) (pa : Nat) (status : Nat) : (State.answerW s ag pa status).recovSel = s.recovSel := (acts_answerW s ag pa status).recovSel rfl
@[simp] theorem State.answerW_l3 (s : State) (ag : Agent) (pa : Nat) (status : Nat) : (State.answerW s ag pa status).l3 = s.l3 := (acts_answerW s ag pa status).l3 rfl
@[simp] theorem State.answerW_depvb (s : State) (ag : Agent) (pa : Nat) (status : Nat) : (State.answerW s ag pa status).depvb = s.depvb := (acts_answerW s ag pa status).depvb rfl
@[simp] theorem State.answerW_sieve (s : State) (ag : Agent) (pa : Nat) (status : Nat) : (State.answerW s ag pa status).sieve = s.sieve := (acts_answerW s ag pa status).sieve rfl
@[simp] theorem State.answerW_trk (s : State) (ag : Agent) (pa : Nat) (status : Nat) : (State.answerW s ag pa status).trk = s.trk := (acts_answerW s ag pa status).trk rfl
@[simp] theorem State.answerW_fair (s : State) (ag : Agent) (pa : Nat) (status : Nat) : (State.answerW s ag pa status).fair = s.fair := (acts_answerW s ag pa status).fair rfl
@[simp] theorem State.answerW_slots (s : State) (ag : Agent) (pa : Nat) (status : Nat) : (State.answerW s ag pa status).slots = s.slots := (acts_answerW s ag pa status).slots rfl
@[simp] theorem State.answerW_agentReqs (s : State) (ag : Agent) (pa : Nat) (status : Nat) : (State.answerW s ag pa status).agentReqs = s.agentReqs := (acts_answerW s ag pa status).agentReqs rfl
@[simp] theorem State.answerW_ghosts (s : State) (ag : Agent) (pa : Nat) (status : Nat) : (State.answerW s ag pa status).ghosts = s.ghosts := (acts_answerW s ag pa status).ghosts rfl
@[simp] theorem State.answerW_linkStopped (s : State) (ag : Agent) (pa : Nat) (status : Nat) : (State.answerW s ag pa status).linkStopped = s.linkStopped := (acts_answerW s ag pa status).linkStopped rfl
@[simp] theorem State.answerW_lidHeld (s : State) (ag : Agent) (pa : Nat) (status : Nat) : (State.answerW s ag pa status).lidHeld = s.lidHeld := (acts_answerW s ag pa status).lidHeld rfl
@[simp] theorem State.answerW_pfw (s : State) (ag : Agent) (pa : Nat) (status : Nat) : (State.answerW s ag pa status).pfw = s.pfw := (acts_answerW s ag pa status).pfw rfl
@[simp] theorem State.answerW_wtCache (s : State) (ag : Agent) (pa : Nat) (status : Nat) : (State.answerW s ag pa status).wtCache = s.wtCache := (acts_answerW s ag pa status).wtCache rfl
@[simp] theorem State.answerW_hartPart (s : State) (ag : Agent) (pa : Nat) (status : Nat) : (State.answerW s ag pa status).hartPart = s.hartPart := (acts_answerW s ag pa status).hartPart rfl
@[simp] theorem State.answerW_pairs (s : State) (ag : Agent) (pa : Nat) (status : Nat) : (State.answerW s ag pa status).pairs = s.pairs := (acts_answerW s ag pa status).pairs rfl
@[simp] theorem State.answerW_spn (s : State) (ag : Agent) (pa : Nat) (status : Nat) : (State.answerW s ag pa status).spn = s.spn := (acts_answerW s ag pa status).spn rfl
@[simp] theorem State.answerW_spnChanged (s : State) (ag : Agent) (pa : Nat) (status : Nat) : (State.answerW s ag pa status).spnChanged = s.spnChanged := (acts_answerW s ag pa status).spnChanged rfl
@[simp] theorem State.answerW_jrnRes (s : State) (ag : Agent) (pa : Nat) (status : Nat) : (State.answerW s ag pa status).jrnRes = s.jrnRes := (acts_answerW s ag pa status).jrnRes rfl
@[simp] theorem State.answerW_jrnRecs (s : State) (ag : Agent) (pa : Nat) (status : Nat) : (State.answerW s ag pa status).jrnRecs = s.jrnRecs := (acts_answerW s ag pa status).jrnRecs rfl
@[simp] theorem State.answerW_pubs (s : State) (ag : Agent) (pa : Nat) (status : Nat) : (State.answerW s ag pa status).pubs = s.pubs := (acts_answerW s ag pa status).pubs rfl
@[simp] theorem State.answerW_pubFlits (s : State) (ag : Agent) (pa : Nat) (status : Nat) : (State.answerW s ag pa status).pubFlits = s.pubFlits := (acts_answerW s ag pa status).pubFlits rfl
@[simp] theorem State.answerW_repl (s : State) (ag : Agent) (pa : Nat) (status : Nat) : (State.answerW s ag pa status).repl = s.repl := (acts_answerW s ag pa status).repl rfl
@[simp] theorem State.answerW_ports (s : State) (ag : Agent) (pa : Nat) (status : Nat) : (State.answerW s ag pa status).ports = s.ports := (acts_answerW s ag pa status).ports rfl
@[simp] theorem State.answerW_fabIn (s : State) (ag : Agent) (pa : Nat) (status : Nat) : (State.answerW s ag pa status).fabIn = s.fabIn := (acts_answerW s ag pa status).fabIn rfl
@[simp] theorem State.answerW_fabRem (s : State) (ag : Agent) (pa : Nat) (status : Nat) : (State.answerW s ag pa status).fabRem = s.fabRem := (acts_answerW s ag pa status).fabRem rfl
@[simp] theorem State.answerW_fabDropped (s : State) (ag : Agent) (pa : Nat) (status : Nat) : (State.answerW s ag pa status).fabDropped = s.fabDropped := (acts_answerW s ag pa status).fabDropped rfl
@[simp] theorem State.answerW_remote (s : State) (ag : Agent) (pa : Nat) (status : Nat) : (State.answerW s ag pa status).remote = s.remote := (acts_answerW s ag pa status).remote rfl
@[simp] theorem State.answerW_sqNext (s : State) (ag : Agent) (pa : Nat) (status : Nat) : (State.answerW s ag pa status).sqNext = s.sqNext := (acts_answerW s ag pa status).sqNext rfl
@[simp] theorem State.answerW_sqDone (s : State) (ag : Agent) (pa : Nat) (status : Nat) : (State.answerW s ag pa status).sqDone = s.sqDone := (acts_answerW s ag pa status).sqDone rfl
@[simp] theorem State.answerW_slew (s : State) (ag : Agent) (pa : Nat) (status : Nat) : (State.answerW s ag pa status).slew = s.slew := (acts_answerW s ag pa status).slew rfl
@[simp] theorem State.answerW_slewAcc (s : State) (ag : Agent) (pa : Nat) (status : Nat) : (State.answerW s ag pa status).slewAcc = s.slewAcc := (acts_answerW s ag pa status).slewAcc rfl
@[simp] theorem State.answerW_pcieTags (s : State) (ag : Agent) (pa : Nat) (status : Nat) : (State.answerW s ag pa status).pcieTags = s.pcieTags := (acts_answerW s ag pa status).pcieTags rfl
@[simp] theorem State.answerW_pcieOut (s : State) (ag : Agent) (pa : Nat) (status : Nat) : (State.answerW s ag pa status).pcieOut = s.pcieOut := (acts_answerW s ag pa status).pcieOut rfl
@[simp] theorem State.answerW_pcieCpl (s : State) (ag : Agent) (pa : Nat) (status : Nat) : (State.answerW s ag pa status).pcieCpl = s.pcieCpl := (acts_answerW s ag pa status).pcieCpl rfl
@[simp] theorem State.answerW_portReset (s : State) (ag : Agent) (pa : Nat) (status : Nat) : (State.answerW s ag pa status).portReset = s.portReset := (acts_answerW s ag pa status).portReset rfl
@[simp] theorem State.answerW_pcieLate (s : State) (ag : Agent) (pa : Nat) (status : Nat) : (State.answerW s ag pa status).pcieLate = s.pcieLate := (acts_answerW s ag pa status).pcieLate rfl
@[simp] theorem State.answerW_msiLost (s : State) (ag : Agent) (pa : Nat) (status : Nat) : (State.answerW s ag pa status).msiLost = s.msiLost := (acts_answerW s ag pa status).msiLost rfl
@[simp] theorem State.answerW_ctxCache (s : State) (ag : Agent) (pa : Nat) (status : Nat) : (State.answerW s ag pa status).ctxCache = s.ctxCache := (acts_answerW s ag pa status).ctxCache rfl
@[simp] theorem State.answerW_ioTlb (s : State) (ag : Agent) (pa : Nat) (status : Nat) : (State.answerW s ag pa status).ioTlb = s.ioTlb := (acts_answerW s ag pa status).ioTlb rfl
@[simp] theorem State.answerW_jobs (s : State) (ag : Agent) (pa : Nat) (status : Nat) : (State.answerW s ag pa status).jobs = s.jobs := (acts_answerW s ag pa status).jobs rfl
@[simp] theorem State.answerW_cphTurn (s : State) (ag : Agent) (pa : Nat) (status : Nat) : (State.answerW s ag pa status).cphTurn = s.cphTurn := (acts_answerW s ag pa status).cphTurn rfl
@[simp] theorem State.answerW_cphKeys (s : State) (ag : Agent) (pa : Nat) (status : Nat) : (State.answerW s ag pa status).cphKeys = s.cphKeys := (acts_answerW s ag pa status).cphKeys rfl
@[simp] theorem State.answerW_keys (s : State) (ag : Agent) (pa : Nat) (status : Nat) : (State.answerW s ag pa status).keys = s.keys := (acts_answerW s ag pa status).keys rfl
@[simp] theorem State.answerW_keyNext (s : State) (ag : Agent) (pa : Nat) (status : Nat) : (State.answerW s ag pa status).keyNext = s.keyNext := (acts_answerW s ag pa status).keyNext rfl
@[simp] theorem State.answerW_keyFreed (s : State) (ag : Agent) (pa : Nat) (status : Nat) : (State.answerW s ag pa status).keyFreed = s.keyFreed := (acts_answerW s ag pa status).keyFreed rfl
@[simp] theorem State.answerW_srcHigh (s : State) (ag : Agent) (pa : Nat) (status : Nat) : (State.answerW s ag pa status).srcHigh = s.srcHigh := (acts_answerW s ag pa status).srcHigh rfl
@[simp] theorem State.answerW_pend (s : State) (ag : Agent) (pa : Nat) (status : Nat) : (State.answerW s ag pa status).pend = s.pend := (acts_answerW s ag pa status).pend rfl
@[simp] theorem State.answerW_inServ (s : State) (ag : Agent) (pa : Nat) (status : Nat) : (State.answerW s ag pa status).inServ = s.inServ := (acts_answerW s ag pa status).inServ rfl
@[simp] theorem State.answerW_nmiTaken (s : State) (ag : Agent) (pa : Nat) (status : Nat) : (State.answerW s ag pa status).nmiTaken = s.nmiTaken := (acts_answerW s ag pa status).nmiTaken rfl
@[simp] theorem State.answerW_records (s : State) (ag : Agent) (pa : Nat) (status : Nat) : (State.answerW s ag pa status).records = s.records := (acts_answerW s ag pa status).records rfl
@[simp] theorem State.answerW_limits (s : State) (ag : Agent) (pa : Nat) (status : Nat) : (State.answerW s ag pa status).limits = s.limits := (acts_answerW s ag pa status).limits rfl
@[simp] theorem State.answerW_withheld (s : State) (ag : Agent) (pa : Nat) (status : Nat) : (State.answerW s ag pa status).withheld = s.withheld := (acts_answerW s ag pa status).withheld rfl
@[simp] theorem State.answerW_errorN (s : State) (ag : Agent) (pa : Nat) (status : Nat) : (State.answerW s ag pa status).errorN = s.errorN := (acts_answerW s ag pa status).errorN rfl
@[simp] theorem State.answerW_rstLevel (s : State) (ag : Agent) (pa : Nat) (status : Nat) : (State.answerW s ag pa status).rstLevel = s.rstLevel := (acts_answerW s ag pa status).rstLevel rfl
@[simp] theorem State.answerW_relStep (s : State) (ag : Agent) (pa : Nat) (status : Nat) : (State.answerW s ag pa status).relStep = s.relStep := (acts_answerW s ag pa status).relStep rfl
@[simp] theorem State.answerW_railOut (s : State) (ag : Agent) (pa : Nat) (status : Nat) : (State.answerW s ag pa status).railOut = s.railOut := (acts_answerW s ag pa status).railOut rfl
@[simp] theorem State.answerW_pwrgood (s : State) (ag : Agent) (pa : Nat) (status : Nat) : (State.answerW s ag pa status).pwrgood = s.pwrgood := (acts_answerW s ag pa status).pwrgood rfl
@[simp] theorem State.answerW_resetInLow (s : State) (ag : Agent) (pa : Nat) (status : Nat) : (State.answerW s ag pa status).resetInLow = s.resetInLow := (acts_answerW s ag pa status).resetInLow rfl
@[simp] theorem State.answerW_prochotLow (s : State) (ag : Agent) (pa : Nat) (status : Nat) : (State.answerW s ag pa status).prochotLow = s.prochotLow := (acts_answerW s ag pa status).prochotLow rfl
@[simp] theorem State.answerW_thermtrip (s : State) (ag : Agent) (pa : Nat) (status : Nat) : (State.answerW s ag pa status).thermtrip = s.thermtrip := (acts_answerW s ag pa status).thermtrip rfl
@[simp] theorem State.answerW_readyPin (s : State) (ag : Agent) (pa : Nat) (status : Nat) : (State.answerW s ag pa status).readyPin = s.readyPin := (acts_answerW s ag pa status).readyPin rfl
@[simp] theorem State.answerW_unlocked (s : State) (ag : Agent) (pa : Nat) (status : Nat) : (State.answerW s ag pa status).unlocked = s.unlocked := (acts_answerW s ag pa status).unlocked rfl
@[simp] theorem State.answerW_regFailed (s : State) (ag : Agent) (pa : Nat) (status : Nat) : (State.answerW s ag pa status).regFailed = s.regFailed := (acts_answerW s ag pa status).regFailed rfl
@[simp] theorem State.answerW_pGoal (s : State) (ag : Agent) (pa : Nat) (status : Nat) : (State.answerW s ag pa status).pGoal = s.pGoal := (acts_answerW s ag pa status).pGoal rfl
@[simp] theorem State.answerW_pStop (s : State) (ag : Agent) (pa : Nat) (status : Nat) : (State.answerW s ag pa status).pStop = s.pStop := (acts_answerW s ag pa status).pStop rfl
@[simp] theorem State.answerW_pkgIdle (s : State) (ag : Agent) (pa : Nat) (status : Nat) : (State.answerW s ag pa status).pkgIdle = s.pkgIdle := (acts_answerW s ag pa status).pkgIdle rfl
@[simp] theorem State.answerW_rtcAcc (s : State) (ag : Agent) (pa : Nat) (status : Nat) : (State.answerW s ag pa status).rtcAcc = s.rtcAcc := (acts_answerW s ag pa status).rtcAcc rfl
@[simp] theorem State.answerW_partStep (s : State) (ag : Agent) (pa : Nat) (status : Nat) : (State.answerW s ag pa status).partStep = s.partStep := (acts_answerW s ag pa status).partStep rfl
@[simp] theorem State.answerW_fuses (s : State) (ag : Agent) (pa : Nat) (status : Nat) : (State.answerW s ag pa status).fuses = s.fuses := (acts_answerW s ag pa status).fuses rfl
@[simp] theorem State.answerW_rcv (s : State) (ag : Agent) (pa : Nat) (status : Nat) : (State.answerW s ag pa status).rcv = s.rcv := (acts_answerW s ag pa status).rcv rfl
@[simp] theorem State.answerW_bootStep (s : State) (ag : Agent) (pa : Nat) (status : Nat) : (State.answerW s ag pa status).bootStep = s.bootStep := (acts_answerW s ag pa status).bootStep rfl
@[simp] theorem State.answerW_flash (s : State) (ag : Agent) (pa : Nat) (status : Nat) : (State.answerW s ag pa status).flash = s.flash := (acts_answerW s ag pa status).flash rfl
@[simp] theorem State.answerW_ksCopy (s : State) (ag : Agent) (pa : Nat) (status : Nat) : (State.answerW s ag pa status).ksCopy = s.ksCopy := (acts_answerW s ag pa status).ksCopy rfl
@[simp] theorem State.answerW_kek (s : State) (ag : Agent) (pa : Nat) (status : Nat) : (State.answerW s ag pa status).kek = s.kek := (acts_answerW s ag pa status).kek rfl
@[simp] theorem State.answerW_ksErased (s : State) (ag : Agent) (pa : Nat) (status : Nat) : (State.answerW s ag pa status).ksErased = s.ksErased := (acts_answerW s ag pa status).ksErased rfl
@[simp] theorem State.answerW_fmKeys (s : State) (ag : Agent) (pa : Nat) (status : Nat) : (State.answerW s ag pa status).fmKeys = s.fmKeys := (acts_answerW s ag pa status).fmKeys rfl
@[simp] theorem State.answerW_boot (s : State) (ag : Agent) (pa : Nat) (status : Nat) : (State.answerW s ag pa status).boot = s.boot := (acts_answerW s ag pa status).boot rfl
@[simp] theorem State.answerW_spRsp (s : State) (ag : Agent) (pa : Nat) (status : Nat) : (State.answerW s ag pa status).spRsp = s.spRsp := (acts_answerW s ag pa status).spRsp rfl
@[simp] theorem State.answerW_evidence (s : State) (ag : Agent) (pa : Nat) (status : Nat) : (State.answerW s ag pa status).evidence = s.evidence := (acts_answerW s ag pa status).evidence rfl
@[simp] theorem State.answerW_mac (s : State) (ag : Agent) (pa : Nat) (status : Nat) : (State.answerW s ag pa status).mac = s.mac := (acts_answerW s ag pa status).mac rfl
@[simp] theorem State.answerW_pages (s : State) (ag : Agent) (pa : Nat) (status : Nat) : (State.answerW s ag pa status).pages = s.pages := (acts_answerW s ag pa status).pages rfl
@[simp] theorem State.answerW_spd (s : State) (ag : Agent) (pa : Nat) (status : Nat) : (State.answerW s ag pa status).spd = s.spd := (acts_answerW s ag pa status).spd rfl
@[simp] theorem State.answerW_traceBuf (s : State) (ag : Agent) (pa : Nat) (status : Nat) : (State.answerW s ag pa status).traceBuf = s.traceBuf := (acts_answerW s ag pa status).traceBuf rfl
@[simp] theorem State.answerW_snaps (s : State) (ag : Agent) (pa : Nat) (status : Nat) : (State.answerW s ag pa status).snaps = s.snaps := (acts_answerW s ag pa status).snaps rfl
@[simp] theorem State.answerW_cnt (s : State) (ag : Agent) (pa : Nat) (status : Nat) : (State.answerW s ag pa status).cnt = s.cnt := (acts_answerW s ag pa status).cnt rfl
@[simp] theorem State.answerW_ldl (s : State) (ag : Agent) (pa : Nat) (status : Nat) : (State.answerW s ag pa status).ldl = s.ldl := (acts_answerW s ag pa status).ldl rfl
@[simp] theorem State.answerW_lsio (s : State) (ag : Agent) (pa : Nat) (status : Nat) : (State.answerW s ag pa status).lsio = s.lsio := (acts_answerW s ag pa status).lsio rfl
@[simp] theorem State.answerW_wdogNs (s : State) (ag : Agent) (pa : Nat) (status : Nat) : (State.answerW s ag pa status).wdogNs = s.wdogNs := (acts_answerW s ag pa status).wdogNs rfl
@[simp] theorem State.answerW_cycAcc (s : State) (ag : Agent) (pa : Nat) (status : Nat) : (State.answerW s ag pa status).cycAcc = s.cycAcc := (acts_answerW s ag pa status).cycAcc rfl
@[simp] theorem State.rd_answerW (s : State) (ag : Agent) (pa : Nat) (status : Nat) (q : RegId) (j : Nat) : (State.answerW s ag pa status).rd q j = s.rd q j := (acts_answerW s ag pa status).reg q j (Nat.zero_testBit _)
@[simp] theorem State.fld_answerW (s : State) (ag : Agent) (pa : Nat) (status : Nat) (F : Fld) (j : Nat) : (State.answerW s ag pa status).fld F j = s.fld F j := (acts_answerW s ag pa status).fld F j (Nat.zero_testBit _)

@[simp] theorem State.take_pending (s : State) (m : Msg) (who : Nat) (addr : Nat) : (State.take s m who addr).pending = s.pending := (acts_take s m who addr).pending rfl
@[simp] theorem State.take_free (s : State) (m : Msg) (who : Nat) (addr : Nat) : (State.take s m who addr).free = s.free := (acts_take s m who addr).free rfl
@[simp] theorem State.take_stamp (s : State) (m : Msg) (who : Nat) (addr : Nat) : (State.take s m who addr).stamp = s.stamp := (acts_take s m who addr).stamp rfl
@[simp] theorem State.take_dtime (s : State) (m : Msg) (who : Nat) (addr : Nat) : (State.take s m who addr).dtime = s.dtime := (acts_take s m who addr).dtime rfl
@[simp] theorem State.take_rsp (s : State) (m : Msg) (who : Nat) (addr : Nat) : (State.take s m who addr).rsp = s.rsp := (acts_take s m who addr).rsp rfl
@[simp] theorem State.take_cores (s : State) (m : Msg) (who : Nat) (addr : Nat) : (State.take s m who addr).cores = s.cores := (acts_take s m who addr).cores rfl
@[simp] theorem State.take_mem (s : State) (m : Msg) (who : Nat) (addr : Nat) : (State.take s m who addr).mem = s.mem := (acts_take s m who addr).mem rfl
@[simp] theorem State.take_memPoison (s : State) (m : Msg) (who : Nat) (addr : Nat) : (State.take s m who addr).memPoison = s.memPoison := (acts_take s m who addr).memPoison rfl
@[simp] theorem State.take_chans (s : State) (m : Msg) (who : Nat) (addr : Nat) : (State.take s m who addr).chans = s.chans := (acts_take s m who addr).chans rfl
@[simp] theorem State.take_mcRsp (s : State) (m : Msg) (who : Nat) (addr : Nat) : (State.take s m who addr).mcRsp = s.mcRsp := (acts_take s m who addr).mcRsp rfl
@[simp] theorem State.take_opt (s : State) (m : Msg) (who : Nat) (addr : Nat) : (State.take s m who addr).opt = s.opt := (acts_take s m who addr).opt rfl
@[simp] theorem State.take_bootSrc (s : State) (m : Msg) (who : Nat) (addr : Nat) : (State.take s m who addr).bootSrc = s.bootSrc := (acts_take s m who addr).bootSrc rfl
@[simp] theorem State.take_recovSel (s : State) (m : Msg) (who : Nat) (addr : Nat) : (State.take s m who addr).recovSel = s.recovSel := (acts_take s m who addr).recovSel rfl
@[simp] theorem State.take_l3 (s : State) (m : Msg) (who : Nat) (addr : Nat) : (State.take s m who addr).l3 = s.l3 := (acts_take s m who addr).l3 rfl
@[simp] theorem State.take_depvb (s : State) (m : Msg) (who : Nat) (addr : Nat) : (State.take s m who addr).depvb = s.depvb := (acts_take s m who addr).depvb rfl
@[simp] theorem State.take_sieve (s : State) (m : Msg) (who : Nat) (addr : Nat) : (State.take s m who addr).sieve = s.sieve := (acts_take s m who addr).sieve rfl
@[simp] theorem State.take_trk (s : State) (m : Msg) (who : Nat) (addr : Nat) : (State.take s m who addr).trk = s.trk := (acts_take s m who addr).trk rfl
@[simp] theorem State.take_fair (s : State) (m : Msg) (who : Nat) (addr : Nat) : (State.take s m who addr).fair = s.fair := (acts_take s m who addr).fair rfl
@[simp] theorem State.take_slots (s : State) (m : Msg) (who : Nat) (addr : Nat) : (State.take s m who addr).slots = s.slots := (acts_take s m who addr).slots rfl
@[simp] theorem State.take_agentReqs (s : State) (m : Msg) (who : Nat) (addr : Nat) : (State.take s m who addr).agentReqs = s.agentReqs := (acts_take s m who addr).agentReqs rfl
@[simp] theorem State.take_ghosts (s : State) (m : Msg) (who : Nat) (addr : Nat) : (State.take s m who addr).ghosts = s.ghosts := (acts_take s m who addr).ghosts rfl
@[simp] theorem State.take_txns (s : State) (m : Msg) (who : Nat) (addr : Nat) : (State.take s m who addr).txns = s.txns := (acts_take s m who addr).txns rfl
@[simp] theorem State.take_linkStopped (s : State) (m : Msg) (who : Nat) (addr : Nat) : (State.take s m who addr).linkStopped = s.linkStopped := (acts_take s m who addr).linkStopped rfl
@[simp] theorem State.take_lidHeld (s : State) (m : Msg) (who : Nat) (addr : Nat) : (State.take s m who addr).lidHeld = s.lidHeld := (acts_take s m who addr).lidHeld rfl
@[simp] theorem State.take_pfw (s : State) (m : Msg) (who : Nat) (addr : Nat) : (State.take s m who addr).pfw = s.pfw := (acts_take s m who addr).pfw rfl
@[simp] theorem State.take_wtCache (s : State) (m : Msg) (who : Nat) (addr : Nat) : (State.take s m who addr).wtCache = s.wtCache := (acts_take s m who addr).wtCache rfl
@[simp] theorem State.take_hartPart (s : State) (m : Msg) (who : Nat) (addr : Nat) : (State.take s m who addr).hartPart = s.hartPart := (acts_take s m who addr).hartPart rfl
@[simp] theorem State.take_pairs (s : State) (m : Msg) (who : Nat) (addr : Nat) : (State.take s m who addr).pairs = s.pairs := (acts_take s m who addr).pairs rfl
@[simp] theorem State.take_spn (s : State) (m : Msg) (who : Nat) (addr : Nat) : (State.take s m who addr).spn = s.spn := (acts_take s m who addr).spn rfl
@[simp] theorem State.take_spnChanged (s : State) (m : Msg) (who : Nat) (addr : Nat) : (State.take s m who addr).spnChanged = s.spnChanged := (acts_take s m who addr).spnChanged rfl
@[simp] theorem State.take_jrnRes (s : State) (m : Msg) (who : Nat) (addr : Nat) : (State.take s m who addr).jrnRes = s.jrnRes := (acts_take s m who addr).jrnRes rfl
@[simp] theorem State.take_jrnRecs (s : State) (m : Msg) (who : Nat) (addr : Nat) : (State.take s m who addr).jrnRecs = s.jrnRecs := (acts_take s m who addr).jrnRecs rfl
@[simp] theorem State.take_pubs (s : State) (m : Msg) (who : Nat) (addr : Nat) : (State.take s m who addr).pubs = s.pubs := (acts_take s m who addr).pubs rfl
@[simp] theorem State.take_pubFlits (s : State) (m : Msg) (who : Nat) (addr : Nat) : (State.take s m who addr).pubFlits = s.pubFlits := (acts_take s m who addr).pubFlits rfl
@[simp] theorem State.take_repl (s : State) (m : Msg) (who : Nat) (addr : Nat) : (State.take s m who addr).repl = s.repl := (acts_take s m who addr).repl rfl
@[simp] theorem State.take_ports (s : State) (m : Msg) (who : Nat) (addr : Nat) : (State.take s m who addr).ports = s.ports := (acts_take s m who addr).ports rfl
@[simp] theorem State.take_fabIn (s : State) (m : Msg) (who : Nat) (addr : Nat) : (State.take s m who addr).fabIn = s.fabIn := (acts_take s m who addr).fabIn rfl
@[simp] theorem State.take_fabRem (s : State) (m : Msg) (who : Nat) (addr : Nat) : (State.take s m who addr).fabRem = s.fabRem := (acts_take s m who addr).fabRem rfl
@[simp] theorem State.take_fabDropped (s : State) (m : Msg) (who : Nat) (addr : Nat) : (State.take s m who addr).fabDropped = s.fabDropped := (acts_take s m who addr).fabDropped rfl
@[simp] theorem State.take_remote (s : State) (m : Msg) (who : Nat) (addr : Nat) : (State.take s m who addr).remote = s.remote := (acts_take s m who addr).remote rfl
@[simp] theorem State.take_sqNext (s : State) (m : Msg) (who : Nat) (addr : Nat) : (State.take s m who addr).sqNext = s.sqNext := (acts_take s m who addr).sqNext rfl
@[simp] theorem State.take_sqDone (s : State) (m : Msg) (who : Nat) (addr : Nat) : (State.take s m who addr).sqDone = s.sqDone := (acts_take s m who addr).sqDone rfl
@[simp] theorem State.take_slew (s : State) (m : Msg) (who : Nat) (addr : Nat) : (State.take s m who addr).slew = s.slew := (acts_take s m who addr).slew rfl
@[simp] theorem State.take_slewAcc (s : State) (m : Msg) (who : Nat) (addr : Nat) : (State.take s m who addr).slewAcc = s.slewAcc := (acts_take s m who addr).slewAcc rfl
@[simp] theorem State.take_pcieTags (s : State) (m : Msg) (who : Nat) (addr : Nat) : (State.take s m who addr).pcieTags = s.pcieTags := (acts_take s m who addr).pcieTags rfl
@[simp] theorem State.take_pcieOut (s : State) (m : Msg) (who : Nat) (addr : Nat) : (State.take s m who addr).pcieOut = s.pcieOut := (acts_take s m who addr).pcieOut rfl
@[simp] theorem State.take_pcieCpl (s : State) (m : Msg) (who : Nat) (addr : Nat) : (State.take s m who addr).pcieCpl = s.pcieCpl := (acts_take s m who addr).pcieCpl rfl
@[simp] theorem State.take_portReset (s : State) (m : Msg) (who : Nat) (addr : Nat) : (State.take s m who addr).portReset = s.portReset := (acts_take s m who addr).portReset rfl
@[simp] theorem State.take_pcieLate (s : State) (m : Msg) (who : Nat) (addr : Nat) : (State.take s m who addr).pcieLate = s.pcieLate := (acts_take s m who addr).pcieLate rfl
@[simp] theorem State.take_msiLost (s : State) (m : Msg) (who : Nat) (addr : Nat) : (State.take s m who addr).msiLost = s.msiLost := (acts_take s m who addr).msiLost rfl
@[simp] theorem State.take_ctxCache (s : State) (m : Msg) (who : Nat) (addr : Nat) : (State.take s m who addr).ctxCache = s.ctxCache := (acts_take s m who addr).ctxCache rfl
@[simp] theorem State.take_ioTlb (s : State) (m : Msg) (who : Nat) (addr : Nat) : (State.take s m who addr).ioTlb = s.ioTlb := (acts_take s m who addr).ioTlb rfl
@[simp] theorem State.take_jobs (s : State) (m : Msg) (who : Nat) (addr : Nat) : (State.take s m who addr).jobs = s.jobs := (acts_take s m who addr).jobs rfl
@[simp] theorem State.take_cphTurn (s : State) (m : Msg) (who : Nat) (addr : Nat) : (State.take s m who addr).cphTurn = s.cphTurn := (acts_take s m who addr).cphTurn rfl
@[simp] theorem State.take_cphKeys (s : State) (m : Msg) (who : Nat) (addr : Nat) : (State.take s m who addr).cphKeys = s.cphKeys := (acts_take s m who addr).cphKeys rfl
@[simp] theorem State.take_keys (s : State) (m : Msg) (who : Nat) (addr : Nat) : (State.take s m who addr).keys = s.keys := (acts_take s m who addr).keys rfl
@[simp] theorem State.take_keyNext (s : State) (m : Msg) (who : Nat) (addr : Nat) : (State.take s m who addr).keyNext = s.keyNext := (acts_take s m who addr).keyNext rfl
@[simp] theorem State.take_keyFreed (s : State) (m : Msg) (who : Nat) (addr : Nat) : (State.take s m who addr).keyFreed = s.keyFreed := (acts_take s m who addr).keyFreed rfl
@[simp] theorem State.take_srcHigh (s : State) (m : Msg) (who : Nat) (addr : Nat) : (State.take s m who addr).srcHigh = s.srcHigh := (acts_take s m who addr).srcHigh rfl
@[simp] theorem State.take_pend (s : State) (m : Msg) (who : Nat) (addr : Nat) : (State.take s m who addr).pend = s.pend := (acts_take s m who addr).pend rfl
@[simp] theorem State.take_inServ (s : State) (m : Msg) (who : Nat) (addr : Nat) : (State.take s m who addr).inServ = s.inServ := (acts_take s m who addr).inServ rfl
@[simp] theorem State.take_nmiTaken (s : State) (m : Msg) (who : Nat) (addr : Nat) : (State.take s m who addr).nmiTaken = s.nmiTaken := (acts_take s m who addr).nmiTaken rfl
@[simp] theorem State.take_records (s : State) (m : Msg) (who : Nat) (addr : Nat) : (State.take s m who addr).records = s.records := (acts_take s m who addr).records rfl
@[simp] theorem State.take_limits (s : State) (m : Msg) (who : Nat) (addr : Nat) : (State.take s m who addr).limits = s.limits := (acts_take s m who addr).limits rfl
@[simp] theorem State.take_withheld (s : State) (m : Msg) (who : Nat) (addr : Nat) : (State.take s m who addr).withheld = s.withheld := (acts_take s m who addr).withheld rfl
@[simp] theorem State.take_errorN (s : State) (m : Msg) (who : Nat) (addr : Nat) : (State.take s m who addr).errorN = s.errorN := (acts_take s m who addr).errorN rfl
@[simp] theorem State.take_rstLevel (s : State) (m : Msg) (who : Nat) (addr : Nat) : (State.take s m who addr).rstLevel = s.rstLevel := (acts_take s m who addr).rstLevel rfl
@[simp] theorem State.take_relStep (s : State) (m : Msg) (who : Nat) (addr : Nat) : (State.take s m who addr).relStep = s.relStep := (acts_take s m who addr).relStep rfl
@[simp] theorem State.take_railOut (s : State) (m : Msg) (who : Nat) (addr : Nat) : (State.take s m who addr).railOut = s.railOut := (acts_take s m who addr).railOut rfl
@[simp] theorem State.take_pwrgood (s : State) (m : Msg) (who : Nat) (addr : Nat) : (State.take s m who addr).pwrgood = s.pwrgood := (acts_take s m who addr).pwrgood rfl
@[simp] theorem State.take_resetInLow (s : State) (m : Msg) (who : Nat) (addr : Nat) : (State.take s m who addr).resetInLow = s.resetInLow := (acts_take s m who addr).resetInLow rfl
@[simp] theorem State.take_prochotLow (s : State) (m : Msg) (who : Nat) (addr : Nat) : (State.take s m who addr).prochotLow = s.prochotLow := (acts_take s m who addr).prochotLow rfl
@[simp] theorem State.take_thermtrip (s : State) (m : Msg) (who : Nat) (addr : Nat) : (State.take s m who addr).thermtrip = s.thermtrip := (acts_take s m who addr).thermtrip rfl
@[simp] theorem State.take_readyPin (s : State) (m : Msg) (who : Nat) (addr : Nat) : (State.take s m who addr).readyPin = s.readyPin := (acts_take s m who addr).readyPin rfl
@[simp] theorem State.take_unlocked (s : State) (m : Msg) (who : Nat) (addr : Nat) : (State.take s m who addr).unlocked = s.unlocked := (acts_take s m who addr).unlocked rfl
@[simp] theorem State.take_regFailed (s : State) (m : Msg) (who : Nat) (addr : Nat) : (State.take s m who addr).regFailed = s.regFailed := (acts_take s m who addr).regFailed rfl
@[simp] theorem State.take_pGoal (s : State) (m : Msg) (who : Nat) (addr : Nat) : (State.take s m who addr).pGoal = s.pGoal := (acts_take s m who addr).pGoal rfl
@[simp] theorem State.take_pStop (s : State) (m : Msg) (who : Nat) (addr : Nat) : (State.take s m who addr).pStop = s.pStop := (acts_take s m who addr).pStop rfl
@[simp] theorem State.take_pkgIdle (s : State) (m : Msg) (who : Nat) (addr : Nat) : (State.take s m who addr).pkgIdle = s.pkgIdle := (acts_take s m who addr).pkgIdle rfl
@[simp] theorem State.take_rtcAcc (s : State) (m : Msg) (who : Nat) (addr : Nat) : (State.take s m who addr).rtcAcc = s.rtcAcc := (acts_take s m who addr).rtcAcc rfl
@[simp] theorem State.take_partStep (s : State) (m : Msg) (who : Nat) (addr : Nat) : (State.take s m who addr).partStep = s.partStep := (acts_take s m who addr).partStep rfl
@[simp] theorem State.take_fuses (s : State) (m : Msg) (who : Nat) (addr : Nat) : (State.take s m who addr).fuses = s.fuses := (acts_take s m who addr).fuses rfl
@[simp] theorem State.take_rcv (s : State) (m : Msg) (who : Nat) (addr : Nat) : (State.take s m who addr).rcv = s.rcv := (acts_take s m who addr).rcv rfl
@[simp] theorem State.take_bootStep (s : State) (m : Msg) (who : Nat) (addr : Nat) : (State.take s m who addr).bootStep = s.bootStep := (acts_take s m who addr).bootStep rfl
@[simp] theorem State.take_flash (s : State) (m : Msg) (who : Nat) (addr : Nat) : (State.take s m who addr).flash = s.flash := (acts_take s m who addr).flash rfl
@[simp] theorem State.take_ksCopy (s : State) (m : Msg) (who : Nat) (addr : Nat) : (State.take s m who addr).ksCopy = s.ksCopy := (acts_take s m who addr).ksCopy rfl
@[simp] theorem State.take_kek (s : State) (m : Msg) (who : Nat) (addr : Nat) : (State.take s m who addr).kek = s.kek := (acts_take s m who addr).kek rfl
@[simp] theorem State.take_ksErased (s : State) (m : Msg) (who : Nat) (addr : Nat) : (State.take s m who addr).ksErased = s.ksErased := (acts_take s m who addr).ksErased rfl
@[simp] theorem State.take_fmKeys (s : State) (m : Msg) (who : Nat) (addr : Nat) : (State.take s m who addr).fmKeys = s.fmKeys := (acts_take s m who addr).fmKeys rfl
@[simp] theorem State.take_boot (s : State) (m : Msg) (who : Nat) (addr : Nat) : (State.take s m who addr).boot = s.boot := (acts_take s m who addr).boot rfl
@[simp] theorem State.take_spRsp (s : State) (m : Msg) (who : Nat) (addr : Nat) : (State.take s m who addr).spRsp = s.spRsp := (acts_take s m who addr).spRsp rfl
@[simp] theorem State.take_evidence (s : State) (m : Msg) (who : Nat) (addr : Nat) : (State.take s m who addr).evidence = s.evidence := (acts_take s m who addr).evidence rfl
@[simp] theorem State.take_mac (s : State) (m : Msg) (who : Nat) (addr : Nat) : (State.take s m who addr).mac = s.mac := (acts_take s m who addr).mac rfl
@[simp] theorem State.take_pages (s : State) (m : Msg) (who : Nat) (addr : Nat) : (State.take s m who addr).pages = s.pages := (acts_take s m who addr).pages rfl
@[simp] theorem State.take_spd (s : State) (m : Msg) (who : Nat) (addr : Nat) : (State.take s m who addr).spd = s.spd := (acts_take s m who addr).spd rfl
@[simp] theorem State.take_traceBuf (s : State) (m : Msg) (who : Nat) (addr : Nat) : (State.take s m who addr).traceBuf = s.traceBuf := (acts_take s m who addr).traceBuf rfl
@[simp] theorem State.take_snaps (s : State) (m : Msg) (who : Nat) (addr : Nat) : (State.take s m who addr).snaps = s.snaps := (acts_take s m who addr).snaps rfl
@[simp] theorem State.take_cnt (s : State) (m : Msg) (who : Nat) (addr : Nat) : (State.take s m who addr).cnt = s.cnt := (acts_take s m who addr).cnt rfl
@[simp] theorem State.take_ldl (s : State) (m : Msg) (who : Nat) (addr : Nat) : (State.take s m who addr).ldl = s.ldl := (acts_take s m who addr).ldl rfl
@[simp] theorem State.take_dbg (s : State) (m : Msg) (who : Nat) (addr : Nat) : (State.take s m who addr).dbg = s.dbg := (acts_take s m who addr).dbg rfl
@[simp] theorem State.take_lsio (s : State) (m : Msg) (who : Nat) (addr : Nat) : (State.take s m who addr).lsio = s.lsio := (acts_take s m who addr).lsio rfl
@[simp] theorem State.take_wdogNs (s : State) (m : Msg) (who : Nat) (addr : Nat) : (State.take s m who addr).wdogNs = s.wdogNs := (acts_take s m who addr).wdogNs rfl
@[simp] theorem State.take_cycAcc (s : State) (m : Msg) (who : Nat) (addr : Nat) : (State.take s m who addr).cycAcc = s.cycAcc := (acts_take s m who addr).cycAcc rfl
@[simp] theorem State.rd_take (s : State) (m : Msg) (who : Nat) (addr : Nat) (q : RegId) (j : Nat) : (State.take s m who addr).rd q j = s.rd q j := (acts_take s m who addr).reg q j (Nat.zero_testBit _)
@[simp] theorem State.fld_take (s : State) (m : Msg) (who : Nat) (addr : Nat) (F : Fld) (j : Nat) : (State.take s m who addr).fld F j = s.fld F j := (acts_take s m who addr).fld F j (Nat.zero_testBit _)

@[simp] theorem State.post_pending (s : State) (p : MPkt) : (State.post s p).pending = s.pending := (acts_post s p).pending rfl
@[simp] theorem State.post_free (s : State) (p : MPkt) : (State.post s p).free = s.free := (acts_post s p).free rfl
@[simp] theorem State.post_stamp (s : State) (p : MPkt) : (State.post s p).stamp = s.stamp := (acts_post s p).stamp rfl
@[simp] theorem State.post_dtime (s : State) (p : MPkt) : (State.post s p).dtime = s.dtime := (acts_post s p).dtime rfl
@[simp] theorem State.post_rsp (s : State) (p : MPkt) : (State.post s p).rsp = s.rsp := (acts_post s p).rsp rfl
@[simp] theorem State.post_cores (s : State) (p : MPkt) : (State.post s p).cores = s.cores := (acts_post s p).cores rfl
@[simp] theorem State.post_mem (s : State) (p : MPkt) : (State.post s p).mem = s.mem := (acts_post s p).mem rfl
@[simp] theorem State.post_memPoison (s : State) (p : MPkt) : (State.post s p).memPoison = s.memPoison := (acts_post s p).memPoison rfl
@[simp] theorem State.post_chans (s : State) (p : MPkt) : (State.post s p).chans = s.chans := (acts_post s p).chans rfl
@[simp] theorem State.post_mcRsp (s : State) (p : MPkt) : (State.post s p).mcRsp = s.mcRsp := (acts_post s p).mcRsp rfl
@[simp] theorem State.post_opt (s : State) (p : MPkt) : (State.post s p).opt = s.opt := (acts_post s p).opt rfl
@[simp] theorem State.post_bootSrc (s : State) (p : MPkt) : (State.post s p).bootSrc = s.bootSrc := (acts_post s p).bootSrc rfl
@[simp] theorem State.post_recovSel (s : State) (p : MPkt) : (State.post s p).recovSel = s.recovSel := (acts_post s p).recovSel rfl
@[simp] theorem State.post_l3 (s : State) (p : MPkt) : (State.post s p).l3 = s.l3 := (acts_post s p).l3 rfl
@[simp] theorem State.post_depvb (s : State) (p : MPkt) : (State.post s p).depvb = s.depvb := (acts_post s p).depvb rfl
@[simp] theorem State.post_sieve (s : State) (p : MPkt) : (State.post s p).sieve = s.sieve := (acts_post s p).sieve rfl
@[simp] theorem State.post_trk (s : State) (p : MPkt) : (State.post s p).trk = s.trk := (acts_post s p).trk rfl
@[simp] theorem State.post_fair (s : State) (p : MPkt) : (State.post s p).fair = s.fair := (acts_post s p).fair rfl
@[simp] theorem State.post_slots (s : State) (p : MPkt) : (State.post s p).slots = s.slots := (acts_post s p).slots rfl
@[simp] theorem State.post_agentReqs (s : State) (p : MPkt) : (State.post s p).agentReqs = s.agentReqs := (acts_post s p).agentReqs rfl
@[simp] theorem State.post_ghosts (s : State) (p : MPkt) : (State.post s p).ghosts = s.ghosts := (acts_post s p).ghosts rfl
@[simp] theorem State.post_txns (s : State) (p : MPkt) : (State.post s p).txns = s.txns := (acts_post s p).txns rfl
@[simp] theorem State.post_linkStopped (s : State) (p : MPkt) : (State.post s p).linkStopped = s.linkStopped := (acts_post s p).linkStopped rfl
@[simp] theorem State.post_lidHeld (s : State) (p : MPkt) : (State.post s p).lidHeld = s.lidHeld := (acts_post s p).lidHeld rfl
@[simp] theorem State.post_pfw (s : State) (p : MPkt) : (State.post s p).pfw = s.pfw := (acts_post s p).pfw rfl
@[simp] theorem State.post_wtCache (s : State) (p : MPkt) : (State.post s p).wtCache = s.wtCache := (acts_post s p).wtCache rfl
@[simp] theorem State.post_hartPart (s : State) (p : MPkt) : (State.post s p).hartPart = s.hartPart := (acts_post s p).hartPart rfl
@[simp] theorem State.post_pairs (s : State) (p : MPkt) : (State.post s p).pairs = s.pairs := (acts_post s p).pairs rfl
@[simp] theorem State.post_spn (s : State) (p : MPkt) : (State.post s p).spn = s.spn := (acts_post s p).spn rfl
@[simp] theorem State.post_spnChanged (s : State) (p : MPkt) : (State.post s p).spnChanged = s.spnChanged := (acts_post s p).spnChanged rfl
@[simp] theorem State.post_jrnRes (s : State) (p : MPkt) : (State.post s p).jrnRes = s.jrnRes := (acts_post s p).jrnRes rfl
@[simp] theorem State.post_jrnRecs (s : State) (p : MPkt) : (State.post s p).jrnRecs = s.jrnRecs := (acts_post s p).jrnRecs rfl
@[simp] theorem State.post_pubs (s : State) (p : MPkt) : (State.post s p).pubs = s.pubs := (acts_post s p).pubs rfl
@[simp] theorem State.post_pubFlits (s : State) (p : MPkt) : (State.post s p).pubFlits = s.pubFlits := (acts_post s p).pubFlits rfl
@[simp] theorem State.post_repl (s : State) (p : MPkt) : (State.post s p).repl = s.repl := (acts_post s p).repl rfl
@[simp] theorem State.post_ports (s : State) (p : MPkt) : (State.post s p).ports = s.ports := (acts_post s p).ports rfl
@[simp] theorem State.post_fabIn (s : State) (p : MPkt) : (State.post s p).fabIn = s.fabIn := (acts_post s p).fabIn rfl
@[simp] theorem State.post_fabRem (s : State) (p : MPkt) : (State.post s p).fabRem = s.fabRem := (acts_post s p).fabRem rfl
@[simp] theorem State.post_fabDropped (s : State) (p : MPkt) : (State.post s p).fabDropped = s.fabDropped := (acts_post s p).fabDropped rfl
@[simp] theorem State.post_remote (s : State) (p : MPkt) : (State.post s p).remote = s.remote := (acts_post s p).remote rfl
@[simp] theorem State.post_sqNext (s : State) (p : MPkt) : (State.post s p).sqNext = s.sqNext := (acts_post s p).sqNext rfl
@[simp] theorem State.post_sqDone (s : State) (p : MPkt) : (State.post s p).sqDone = s.sqDone := (acts_post s p).sqDone rfl
@[simp] theorem State.post_slew (s : State) (p : MPkt) : (State.post s p).slew = s.slew := (acts_post s p).slew rfl
@[simp] theorem State.post_slewAcc (s : State) (p : MPkt) : (State.post s p).slewAcc = s.slewAcc := (acts_post s p).slewAcc rfl
@[simp] theorem State.post_pcieTags (s : State) (p : MPkt) : (State.post s p).pcieTags = s.pcieTags := (acts_post s p).pcieTags rfl
@[simp] theorem State.post_pcieOut (s : State) (p : MPkt) : (State.post s p).pcieOut = s.pcieOut := (acts_post s p).pcieOut rfl
@[simp] theorem State.post_pcieCpl (s : State) (p : MPkt) : (State.post s p).pcieCpl = s.pcieCpl := (acts_post s p).pcieCpl rfl
@[simp] theorem State.post_portReset (s : State) (p : MPkt) : (State.post s p).portReset = s.portReset := (acts_post s p).portReset rfl
@[simp] theorem State.post_pcieLate (s : State) (p : MPkt) : (State.post s p).pcieLate = s.pcieLate := (acts_post s p).pcieLate rfl
@[simp] theorem State.post_msiLost (s : State) (p : MPkt) : (State.post s p).msiLost = s.msiLost := (acts_post s p).msiLost rfl
@[simp] theorem State.post_ctxCache (s : State) (p : MPkt) : (State.post s p).ctxCache = s.ctxCache := (acts_post s p).ctxCache rfl
@[simp] theorem State.post_ioTlb (s : State) (p : MPkt) : (State.post s p).ioTlb = s.ioTlb := (acts_post s p).ioTlb rfl
@[simp] theorem State.post_jobs (s : State) (p : MPkt) : (State.post s p).jobs = s.jobs := (acts_post s p).jobs rfl
@[simp] theorem State.post_cphTurn (s : State) (p : MPkt) : (State.post s p).cphTurn = s.cphTurn := (acts_post s p).cphTurn rfl
@[simp] theorem State.post_cphKeys (s : State) (p : MPkt) : (State.post s p).cphKeys = s.cphKeys := (acts_post s p).cphKeys rfl
@[simp] theorem State.post_keys (s : State) (p : MPkt) : (State.post s p).keys = s.keys := (acts_post s p).keys rfl
@[simp] theorem State.post_keyNext (s : State) (p : MPkt) : (State.post s p).keyNext = s.keyNext := (acts_post s p).keyNext rfl
@[simp] theorem State.post_keyFreed (s : State) (p : MPkt) : (State.post s p).keyFreed = s.keyFreed := (acts_post s p).keyFreed rfl
@[simp] theorem State.post_srcHigh (s : State) (p : MPkt) : (State.post s p).srcHigh = s.srcHigh := (acts_post s p).srcHigh rfl
@[simp] theorem State.post_pend (s : State) (p : MPkt) : (State.post s p).pend = s.pend := (acts_post s p).pend rfl
@[simp] theorem State.post_inServ (s : State) (p : MPkt) : (State.post s p).inServ = s.inServ := (acts_post s p).inServ rfl
@[simp] theorem State.post_nmiTaken (s : State) (p : MPkt) : (State.post s p).nmiTaken = s.nmiTaken := (acts_post s p).nmiTaken rfl
@[simp] theorem State.post_records (s : State) (p : MPkt) : (State.post s p).records = s.records := (acts_post s p).records rfl
@[simp] theorem State.post_limits (s : State) (p : MPkt) : (State.post s p).limits = s.limits := (acts_post s p).limits rfl
@[simp] theorem State.post_withheld (s : State) (p : MPkt) : (State.post s p).withheld = s.withheld := (acts_post s p).withheld rfl
@[simp] theorem State.post_errorN (s : State) (p : MPkt) : (State.post s p).errorN = s.errorN := (acts_post s p).errorN rfl
@[simp] theorem State.post_rstLevel (s : State) (p : MPkt) : (State.post s p).rstLevel = s.rstLevel := (acts_post s p).rstLevel rfl
@[simp] theorem State.post_relStep (s : State) (p : MPkt) : (State.post s p).relStep = s.relStep := (acts_post s p).relStep rfl
@[simp] theorem State.post_railOut (s : State) (p : MPkt) : (State.post s p).railOut = s.railOut := (acts_post s p).railOut rfl
@[simp] theorem State.post_pwrgood (s : State) (p : MPkt) : (State.post s p).pwrgood = s.pwrgood := (acts_post s p).pwrgood rfl
@[simp] theorem State.post_resetInLow (s : State) (p : MPkt) : (State.post s p).resetInLow = s.resetInLow := (acts_post s p).resetInLow rfl
@[simp] theorem State.post_prochotLow (s : State) (p : MPkt) : (State.post s p).prochotLow = s.prochotLow := (acts_post s p).prochotLow rfl
@[simp] theorem State.post_thermtrip (s : State) (p : MPkt) : (State.post s p).thermtrip = s.thermtrip := (acts_post s p).thermtrip rfl
@[simp] theorem State.post_readyPin (s : State) (p : MPkt) : (State.post s p).readyPin = s.readyPin := (acts_post s p).readyPin rfl
@[simp] theorem State.post_unlocked (s : State) (p : MPkt) : (State.post s p).unlocked = s.unlocked := (acts_post s p).unlocked rfl
@[simp] theorem State.post_regFailed (s : State) (p : MPkt) : (State.post s p).regFailed = s.regFailed := (acts_post s p).regFailed rfl
@[simp] theorem State.post_pGoal (s : State) (p : MPkt) : (State.post s p).pGoal = s.pGoal := (acts_post s p).pGoal rfl
@[simp] theorem State.post_pStop (s : State) (p : MPkt) : (State.post s p).pStop = s.pStop := (acts_post s p).pStop rfl
@[simp] theorem State.post_pkgIdle (s : State) (p : MPkt) : (State.post s p).pkgIdle = s.pkgIdle := (acts_post s p).pkgIdle rfl
@[simp] theorem State.post_rtcAcc (s : State) (p : MPkt) : (State.post s p).rtcAcc = s.rtcAcc := (acts_post s p).rtcAcc rfl
@[simp] theorem State.post_partStep (s : State) (p : MPkt) : (State.post s p).partStep = s.partStep := (acts_post s p).partStep rfl
@[simp] theorem State.post_fuses (s : State) (p : MPkt) : (State.post s p).fuses = s.fuses := (acts_post s p).fuses rfl
@[simp] theorem State.post_rcv (s : State) (p : MPkt) : (State.post s p).rcv = s.rcv := (acts_post s p).rcv rfl
@[simp] theorem State.post_bootStep (s : State) (p : MPkt) : (State.post s p).bootStep = s.bootStep := (acts_post s p).bootStep rfl
@[simp] theorem State.post_flash (s : State) (p : MPkt) : (State.post s p).flash = s.flash := (acts_post s p).flash rfl
@[simp] theorem State.post_ksCopy (s : State) (p : MPkt) : (State.post s p).ksCopy = s.ksCopy := (acts_post s p).ksCopy rfl
@[simp] theorem State.post_kek (s : State) (p : MPkt) : (State.post s p).kek = s.kek := (acts_post s p).kek rfl
@[simp] theorem State.post_ksErased (s : State) (p : MPkt) : (State.post s p).ksErased = s.ksErased := (acts_post s p).ksErased rfl
@[simp] theorem State.post_fmKeys (s : State) (p : MPkt) : (State.post s p).fmKeys = s.fmKeys := (acts_post s p).fmKeys rfl
@[simp] theorem State.post_boot (s : State) (p : MPkt) : (State.post s p).boot = s.boot := (acts_post s p).boot rfl
@[simp] theorem State.post_spRsp (s : State) (p : MPkt) : (State.post s p).spRsp = s.spRsp := (acts_post s p).spRsp rfl
@[simp] theorem State.post_evidence (s : State) (p : MPkt) : (State.post s p).evidence = s.evidence := (acts_post s p).evidence rfl
@[simp] theorem State.post_mac (s : State) (p : MPkt) : (State.post s p).mac = s.mac := (acts_post s p).mac rfl
@[simp] theorem State.post_pages (s : State) (p : MPkt) : (State.post s p).pages = s.pages := (acts_post s p).pages rfl
@[simp] theorem State.post_spd (s : State) (p : MPkt) : (State.post s p).spd = s.spd := (acts_post s p).spd rfl
@[simp] theorem State.post_traceBuf (s : State) (p : MPkt) : (State.post s p).traceBuf = s.traceBuf := (acts_post s p).traceBuf rfl
@[simp] theorem State.post_snaps (s : State) (p : MPkt) : (State.post s p).snaps = s.snaps := (acts_post s p).snaps rfl
@[simp] theorem State.post_cnt (s : State) (p : MPkt) : (State.post s p).cnt = s.cnt := (acts_post s p).cnt rfl
@[simp] theorem State.post_ldl (s : State) (p : MPkt) : (State.post s p).ldl = s.ldl := (acts_post s p).ldl rfl
@[simp] theorem State.post_dbg (s : State) (p : MPkt) : (State.post s p).dbg = s.dbg := (acts_post s p).dbg rfl
@[simp] theorem State.post_lsio (s : State) (p : MPkt) : (State.post s p).lsio = s.lsio := (acts_post s p).lsio rfl
@[simp] theorem State.post_wdogNs (s : State) (p : MPkt) : (State.post s p).wdogNs = s.wdogNs := (acts_post s p).wdogNs rfl
@[simp] theorem State.post_cycAcc (s : State) (p : MPkt) : (State.post s p).cycAcc = s.cycAcc := (acts_post s p).cycAcc rfl
@[simp] theorem State.rd_post (s : State) (p : MPkt) (q : RegId) (j : Nat) : (State.post s p).rd q j = s.rd q j := (acts_post s p).reg q j (Nat.zero_testBit _)
@[simp] theorem State.fld_post (s : State) (p : MPkt) (F : Fld) (j : Nat) : (State.post s p).fld F j = s.fld F j := (acts_post s p).fld F j (Nat.zero_testBit _)

@[simp] theorem State.drawn_pending (s : State) : (State.drawn s).pending = s.pending := (acts_drawn s).pending rfl
@[simp] theorem State.drawn_stamp (s : State) : (State.drawn s).stamp = s.stamp := (acts_drawn s).stamp rfl
@[simp] theorem State.drawn_dtime (s : State) : (State.drawn s).dtime = s.dtime := (acts_drawn s).dtime rfl
@[simp] theorem State.drawn_rsp (s : State) : (State.drawn s).rsp = s.rsp := (acts_drawn s).rsp rfl
@[simp] theorem State.drawn_cores (s : State) : (State.drawn s).cores = s.cores := (acts_drawn s).cores rfl
@[simp] theorem State.drawn_mem (s : State) : (State.drawn s).mem = s.mem := (acts_drawn s).mem rfl
@[simp] theorem State.drawn_memPoison (s : State) : (State.drawn s).memPoison = s.memPoison := (acts_drawn s).memPoison rfl
@[simp] theorem State.drawn_chans (s : State) : (State.drawn s).chans = s.chans := (acts_drawn s).chans rfl
@[simp] theorem State.drawn_mcRsp (s : State) : (State.drawn s).mcRsp = s.mcRsp := (acts_drawn s).mcRsp rfl
@[simp] theorem State.drawn_opt (s : State) : (State.drawn s).opt = s.opt := (acts_drawn s).opt rfl
@[simp] theorem State.drawn_bootSrc (s : State) : (State.drawn s).bootSrc = s.bootSrc := (acts_drawn s).bootSrc rfl
@[simp] theorem State.drawn_recovSel (s : State) : (State.drawn s).recovSel = s.recovSel := (acts_drawn s).recovSel rfl
@[simp] theorem State.drawn_l3 (s : State) : (State.drawn s).l3 = s.l3 := (acts_drawn s).l3 rfl
@[simp] theorem State.drawn_depvb (s : State) : (State.drawn s).depvb = s.depvb := (acts_drawn s).depvb rfl
@[simp] theorem State.drawn_sieve (s : State) : (State.drawn s).sieve = s.sieve := (acts_drawn s).sieve rfl
@[simp] theorem State.drawn_trk (s : State) : (State.drawn s).trk = s.trk := (acts_drawn s).trk rfl
@[simp] theorem State.drawn_fair (s : State) : (State.drawn s).fair = s.fair := (acts_drawn s).fair rfl
@[simp] theorem State.drawn_slots (s : State) : (State.drawn s).slots = s.slots := (acts_drawn s).slots rfl
@[simp] theorem State.drawn_agentReqs (s : State) : (State.drawn s).agentReqs = s.agentReqs := (acts_drawn s).agentReqs rfl
@[simp] theorem State.drawn_ghosts (s : State) : (State.drawn s).ghosts = s.ghosts := (acts_drawn s).ghosts rfl
@[simp] theorem State.drawn_mesh (s : State) : (State.drawn s).mesh = s.mesh := (acts_drawn s).mesh rfl
@[simp] theorem State.drawn_txns (s : State) : (State.drawn s).txns = s.txns := (acts_drawn s).txns rfl
@[simp] theorem State.drawn_linkStopped (s : State) : (State.drawn s).linkStopped = s.linkStopped := (acts_drawn s).linkStopped rfl
@[simp] theorem State.drawn_lidHeld (s : State) : (State.drawn s).lidHeld = s.lidHeld := (acts_drawn s).lidHeld rfl
@[simp] theorem State.drawn_pfw (s : State) : (State.drawn s).pfw = s.pfw := (acts_drawn s).pfw rfl
@[simp] theorem State.drawn_wtCache (s : State) : (State.drawn s).wtCache = s.wtCache := (acts_drawn s).wtCache rfl
@[simp] theorem State.drawn_hartPart (s : State) : (State.drawn s).hartPart = s.hartPart := (acts_drawn s).hartPart rfl
@[simp] theorem State.drawn_pairs (s : State) : (State.drawn s).pairs = s.pairs := (acts_drawn s).pairs rfl
@[simp] theorem State.drawn_spn (s : State) : (State.drawn s).spn = s.spn := (acts_drawn s).spn rfl
@[simp] theorem State.drawn_spnChanged (s : State) : (State.drawn s).spnChanged = s.spnChanged := (acts_drawn s).spnChanged rfl
@[simp] theorem State.drawn_jrnRes (s : State) : (State.drawn s).jrnRes = s.jrnRes := (acts_drawn s).jrnRes rfl
@[simp] theorem State.drawn_jrnRecs (s : State) : (State.drawn s).jrnRecs = s.jrnRecs := (acts_drawn s).jrnRecs rfl
@[simp] theorem State.drawn_pubs (s : State) : (State.drawn s).pubs = s.pubs := (acts_drawn s).pubs rfl
@[simp] theorem State.drawn_pubFlits (s : State) : (State.drawn s).pubFlits = s.pubFlits := (acts_drawn s).pubFlits rfl
@[simp] theorem State.drawn_repl (s : State) : (State.drawn s).repl = s.repl := (acts_drawn s).repl rfl
@[simp] theorem State.drawn_ports (s : State) : (State.drawn s).ports = s.ports := (acts_drawn s).ports rfl
@[simp] theorem State.drawn_fabIn (s : State) : (State.drawn s).fabIn = s.fabIn := (acts_drawn s).fabIn rfl
@[simp] theorem State.drawn_fabRem (s : State) : (State.drawn s).fabRem = s.fabRem := (acts_drawn s).fabRem rfl
@[simp] theorem State.drawn_fabDropped (s : State) : (State.drawn s).fabDropped = s.fabDropped := (acts_drawn s).fabDropped rfl
@[simp] theorem State.drawn_remote (s : State) : (State.drawn s).remote = s.remote := (acts_drawn s).remote rfl
@[simp] theorem State.drawn_sqNext (s : State) : (State.drawn s).sqNext = s.sqNext := (acts_drawn s).sqNext rfl
@[simp] theorem State.drawn_sqDone (s : State) : (State.drawn s).sqDone = s.sqDone := (acts_drawn s).sqDone rfl
@[simp] theorem State.drawn_slew (s : State) : (State.drawn s).slew = s.slew := (acts_drawn s).slew rfl
@[simp] theorem State.drawn_slewAcc (s : State) : (State.drawn s).slewAcc = s.slewAcc := (acts_drawn s).slewAcc rfl
@[simp] theorem State.drawn_pcieTags (s : State) : (State.drawn s).pcieTags = s.pcieTags := (acts_drawn s).pcieTags rfl
@[simp] theorem State.drawn_pcieOut (s : State) : (State.drawn s).pcieOut = s.pcieOut := (acts_drawn s).pcieOut rfl
@[simp] theorem State.drawn_pcieCpl (s : State) : (State.drawn s).pcieCpl = s.pcieCpl := (acts_drawn s).pcieCpl rfl
@[simp] theorem State.drawn_portReset (s : State) : (State.drawn s).portReset = s.portReset := (acts_drawn s).portReset rfl
@[simp] theorem State.drawn_pcieLate (s : State) : (State.drawn s).pcieLate = s.pcieLate := (acts_drawn s).pcieLate rfl
@[simp] theorem State.drawn_msiLost (s : State) : (State.drawn s).msiLost = s.msiLost := (acts_drawn s).msiLost rfl
@[simp] theorem State.drawn_ctxCache (s : State) : (State.drawn s).ctxCache = s.ctxCache := (acts_drawn s).ctxCache rfl
@[simp] theorem State.drawn_ioTlb (s : State) : (State.drawn s).ioTlb = s.ioTlb := (acts_drawn s).ioTlb rfl
@[simp] theorem State.drawn_jobs (s : State) : (State.drawn s).jobs = s.jobs := (acts_drawn s).jobs rfl
@[simp] theorem State.drawn_cphTurn (s : State) : (State.drawn s).cphTurn = s.cphTurn := (acts_drawn s).cphTurn rfl
@[simp] theorem State.drawn_cphKeys (s : State) : (State.drawn s).cphKeys = s.cphKeys := (acts_drawn s).cphKeys rfl
@[simp] theorem State.drawn_keys (s : State) : (State.drawn s).keys = s.keys := (acts_drawn s).keys rfl
@[simp] theorem State.drawn_keyNext (s : State) : (State.drawn s).keyNext = s.keyNext := (acts_drawn s).keyNext rfl
@[simp] theorem State.drawn_keyFreed (s : State) : (State.drawn s).keyFreed = s.keyFreed := (acts_drawn s).keyFreed rfl
@[simp] theorem State.drawn_srcHigh (s : State) : (State.drawn s).srcHigh = s.srcHigh := (acts_drawn s).srcHigh rfl
@[simp] theorem State.drawn_pend (s : State) : (State.drawn s).pend = s.pend := (acts_drawn s).pend rfl
@[simp] theorem State.drawn_inServ (s : State) : (State.drawn s).inServ = s.inServ := (acts_drawn s).inServ rfl
@[simp] theorem State.drawn_nmiTaken (s : State) : (State.drawn s).nmiTaken = s.nmiTaken := (acts_drawn s).nmiTaken rfl
@[simp] theorem State.drawn_records (s : State) : (State.drawn s).records = s.records := (acts_drawn s).records rfl
@[simp] theorem State.drawn_limits (s : State) : (State.drawn s).limits = s.limits := (acts_drawn s).limits rfl
@[simp] theorem State.drawn_withheld (s : State) : (State.drawn s).withheld = s.withheld := (acts_drawn s).withheld rfl
@[simp] theorem State.drawn_errorN (s : State) : (State.drawn s).errorN = s.errorN := (acts_drawn s).errorN rfl
@[simp] theorem State.drawn_rstLevel (s : State) : (State.drawn s).rstLevel = s.rstLevel := (acts_drawn s).rstLevel rfl
@[simp] theorem State.drawn_relStep (s : State) : (State.drawn s).relStep = s.relStep := (acts_drawn s).relStep rfl
@[simp] theorem State.drawn_railOut (s : State) : (State.drawn s).railOut = s.railOut := (acts_drawn s).railOut rfl
@[simp] theorem State.drawn_pwrgood (s : State) : (State.drawn s).pwrgood = s.pwrgood := (acts_drawn s).pwrgood rfl
@[simp] theorem State.drawn_resetInLow (s : State) : (State.drawn s).resetInLow = s.resetInLow := (acts_drawn s).resetInLow rfl
@[simp] theorem State.drawn_prochotLow (s : State) : (State.drawn s).prochotLow = s.prochotLow := (acts_drawn s).prochotLow rfl
@[simp] theorem State.drawn_thermtrip (s : State) : (State.drawn s).thermtrip = s.thermtrip := (acts_drawn s).thermtrip rfl
@[simp] theorem State.drawn_readyPin (s : State) : (State.drawn s).readyPin = s.readyPin := (acts_drawn s).readyPin rfl
@[simp] theorem State.drawn_unlocked (s : State) : (State.drawn s).unlocked = s.unlocked := (acts_drawn s).unlocked rfl
@[simp] theorem State.drawn_regFailed (s : State) : (State.drawn s).regFailed = s.regFailed := (acts_drawn s).regFailed rfl
@[simp] theorem State.drawn_pGoal (s : State) : (State.drawn s).pGoal = s.pGoal := (acts_drawn s).pGoal rfl
@[simp] theorem State.drawn_pStop (s : State) : (State.drawn s).pStop = s.pStop := (acts_drawn s).pStop rfl
@[simp] theorem State.drawn_pkgIdle (s : State) : (State.drawn s).pkgIdle = s.pkgIdle := (acts_drawn s).pkgIdle rfl
@[simp] theorem State.drawn_rtcAcc (s : State) : (State.drawn s).rtcAcc = s.rtcAcc := (acts_drawn s).rtcAcc rfl
@[simp] theorem State.drawn_partStep (s : State) : (State.drawn s).partStep = s.partStep := (acts_drawn s).partStep rfl
@[simp] theorem State.drawn_fuses (s : State) : (State.drawn s).fuses = s.fuses := (acts_drawn s).fuses rfl
@[simp] theorem State.drawn_rcv (s : State) : (State.drawn s).rcv = s.rcv := (acts_drawn s).rcv rfl
@[simp] theorem State.drawn_bootStep (s : State) : (State.drawn s).bootStep = s.bootStep := (acts_drawn s).bootStep rfl
@[simp] theorem State.drawn_flash (s : State) : (State.drawn s).flash = s.flash := (acts_drawn s).flash rfl
@[simp] theorem State.drawn_ksCopy (s : State) : (State.drawn s).ksCopy = s.ksCopy := (acts_drawn s).ksCopy rfl
@[simp] theorem State.drawn_kek (s : State) : (State.drawn s).kek = s.kek := (acts_drawn s).kek rfl
@[simp] theorem State.drawn_ksErased (s : State) : (State.drawn s).ksErased = s.ksErased := (acts_drawn s).ksErased rfl
@[simp] theorem State.drawn_fmKeys (s : State) : (State.drawn s).fmKeys = s.fmKeys := (acts_drawn s).fmKeys rfl
@[simp] theorem State.drawn_boot (s : State) : (State.drawn s).boot = s.boot := (acts_drawn s).boot rfl
@[simp] theorem State.drawn_spRsp (s : State) : (State.drawn s).spRsp = s.spRsp := (acts_drawn s).spRsp rfl
@[simp] theorem State.drawn_evidence (s : State) : (State.drawn s).evidence = s.evidence := (acts_drawn s).evidence rfl
@[simp] theorem State.drawn_mac (s : State) : (State.drawn s).mac = s.mac := (acts_drawn s).mac rfl
@[simp] theorem State.drawn_pages (s : State) : (State.drawn s).pages = s.pages := (acts_drawn s).pages rfl
@[simp] theorem State.drawn_spd (s : State) : (State.drawn s).spd = s.spd := (acts_drawn s).spd rfl
@[simp] theorem State.drawn_traceBuf (s : State) : (State.drawn s).traceBuf = s.traceBuf := (acts_drawn s).traceBuf rfl
@[simp] theorem State.drawn_snaps (s : State) : (State.drawn s).snaps = s.snaps := (acts_drawn s).snaps rfl
@[simp] theorem State.drawn_cnt (s : State) : (State.drawn s).cnt = s.cnt := (acts_drawn s).cnt rfl
@[simp] theorem State.drawn_ldl (s : State) : (State.drawn s).ldl = s.ldl := (acts_drawn s).ldl rfl
@[simp] theorem State.drawn_dbg (s : State) : (State.drawn s).dbg = s.dbg := (acts_drawn s).dbg rfl
@[simp] theorem State.drawn_lsio (s : State) : (State.drawn s).lsio = s.lsio := (acts_drawn s).lsio rfl
@[simp] theorem State.drawn_wdogNs (s : State) : (State.drawn s).wdogNs = s.wdogNs := (acts_drawn s).wdogNs rfl
@[simp] theorem State.drawn_cycAcc (s : State) : (State.drawn s).cycAcc = s.cycAcc := (acts_drawn s).cycAcc rfl
@[simp] theorem State.rd_drawn (s : State) (q : RegId) (j : Nat) : (State.drawn s).rd q j = s.rd q j := (acts_drawn s).reg q j (Nat.zero_testBit _)
@[simp] theorem State.fld_drawn (s : State) (F : Fld) (j : Nat) : (State.drawn s).fld F j = s.fld F j := (acts_drawn s).fld F j (Nat.zero_testBit _)

@[simp] theorem State.deliver_pending (s : State) (h : Nat) (t : Nat) : (State.deliver s h t).pending = s.pending := (acts_deliver s h t).pending rfl
@[simp] theorem State.deliver_free (s : State) (h : Nat) (t : Nat) : (State.deliver s h t).free = s.free := (acts_deliver s h t).free rfl
@[simp] theorem State.deliver_stamp (s : State) (h : Nat) (t : Nat) : (State.deliver s h t).stamp = s.stamp := (acts_deliver s h t).stamp rfl
@[simp] theorem State.deliver_dtime (s : State) (h : Nat) (t : Nat) : (State.deliver s h t).dtime = s.dtime := (acts_deliver s h t).dtime rfl
@[simp] theorem State.deliver_rsp (s : State) (h : Nat) (t : Nat) : (State.deliver s h t).rsp = s.rsp := (acts_deliver s h t).rsp rfl
@[simp] theorem State.deliver_mem (s : State) (h : Nat) (t : Nat) : (State.deliver s h t).mem = s.mem := (acts_deliver s h t).mem rfl
@[simp] theorem State.deliver_memPoison (s : State) (h : Nat) (t : Nat) : (State.deliver s h t).memPoison = s.memPoison := (acts_deliver s h t).memPoison rfl
@[simp] theorem State.deliver_chans (s : State) (h : Nat) (t : Nat) : (State.deliver s h t).chans = s.chans := (acts_deliver s h t).chans rfl
@[simp] theorem State.deliver_mcRsp (s : State) (h : Nat) (t : Nat) : (State.deliver s h t).mcRsp = s.mcRsp := (acts_deliver s h t).mcRsp rfl
@[simp] theorem State.deliver_opt (s : State) (h : Nat) (t : Nat) : (State.deliver s h t).opt = s.opt := (acts_deliver s h t).opt rfl
@[simp] theorem State.deliver_bootSrc (s : State) (h : Nat) (t : Nat) : (State.deliver s h t).bootSrc = s.bootSrc := (acts_deliver s h t).bootSrc rfl
@[simp] theorem State.deliver_recovSel (s : State) (h : Nat) (t : Nat) : (State.deliver s h t).recovSel = s.recovSel := (acts_deliver s h t).recovSel rfl
@[simp] theorem State.deliver_l3 (s : State) (h : Nat) (t : Nat) : (State.deliver s h t).l3 = s.l3 := (acts_deliver s h t).l3 rfl
@[simp] theorem State.deliver_depvb (s : State) (h : Nat) (t : Nat) : (State.deliver s h t).depvb = s.depvb := (acts_deliver s h t).depvb rfl
@[simp] theorem State.deliver_sieve (s : State) (h : Nat) (t : Nat) : (State.deliver s h t).sieve = s.sieve := (acts_deliver s h t).sieve rfl
@[simp] theorem State.deliver_trk (s : State) (h : Nat) (t : Nat) : (State.deliver s h t).trk = s.trk := (acts_deliver s h t).trk rfl
@[simp] theorem State.deliver_fair (s : State) (h : Nat) (t : Nat) : (State.deliver s h t).fair = s.fair := (acts_deliver s h t).fair rfl
@[simp] theorem State.deliver_slots (s : State) (h : Nat) (t : Nat) : (State.deliver s h t).slots = s.slots := (acts_deliver s h t).slots rfl
@[simp] theorem State.deliver_agentReqs (s : State) (h : Nat) (t : Nat) : (State.deliver s h t).agentReqs = s.agentReqs := (acts_deliver s h t).agentReqs rfl
@[simp] theorem State.deliver_ghosts (s : State) (h : Nat) (t : Nat) : (State.deliver s h t).ghosts = s.ghosts := (acts_deliver s h t).ghosts rfl
@[simp] theorem State.deliver_mesh (s : State) (h : Nat) (t : Nat) : (State.deliver s h t).mesh = s.mesh := (acts_deliver s h t).mesh rfl
@[simp] theorem State.deliver_txns (s : State) (h : Nat) (t : Nat) : (State.deliver s h t).txns = s.txns := (acts_deliver s h t).txns rfl
@[simp] theorem State.deliver_linkStopped (s : State) (h : Nat) (t : Nat) : (State.deliver s h t).linkStopped = s.linkStopped := (acts_deliver s h t).linkStopped rfl
@[simp] theorem State.deliver_lidHeld (s : State) (h : Nat) (t : Nat) : (State.deliver s h t).lidHeld = s.lidHeld := (acts_deliver s h t).lidHeld rfl
@[simp] theorem State.deliver_pfw (s : State) (h : Nat) (t : Nat) : (State.deliver s h t).pfw = s.pfw := (acts_deliver s h t).pfw rfl
@[simp] theorem State.deliver_wtCache (s : State) (h : Nat) (t : Nat) : (State.deliver s h t).wtCache = s.wtCache := (acts_deliver s h t).wtCache rfl
@[simp] theorem State.deliver_hartPart (s : State) (h : Nat) (t : Nat) : (State.deliver s h t).hartPart = s.hartPart := (acts_deliver s h t).hartPart rfl
@[simp] theorem State.deliver_spn (s : State) (h : Nat) (t : Nat) : (State.deliver s h t).spn = s.spn := (acts_deliver s h t).spn rfl
@[simp] theorem State.deliver_spnChanged (s : State) (h : Nat) (t : Nat) : (State.deliver s h t).spnChanged = s.spnChanged := (acts_deliver s h t).spnChanged rfl
@[simp] theorem State.deliver_jrnRecs (s : State) (h : Nat) (t : Nat) : (State.deliver s h t).jrnRecs = s.jrnRecs := (acts_deliver s h t).jrnRecs rfl
@[simp] theorem State.deliver_pubs (s : State) (h : Nat) (t : Nat) : (State.deliver s h t).pubs = s.pubs := (acts_deliver s h t).pubs rfl
@[simp] theorem State.deliver_pubFlits (s : State) (h : Nat) (t : Nat) : (State.deliver s h t).pubFlits = s.pubFlits := (acts_deliver s h t).pubFlits rfl
@[simp] theorem State.deliver_repl (s : State) (h : Nat) (t : Nat) : (State.deliver s h t).repl = s.repl := (acts_deliver s h t).repl rfl
@[simp] theorem State.deliver_ports (s : State) (h : Nat) (t : Nat) : (State.deliver s h t).ports = s.ports := (acts_deliver s h t).ports rfl
@[simp] theorem State.deliver_fabIn (s : State) (h : Nat) (t : Nat) : (State.deliver s h t).fabIn = s.fabIn := (acts_deliver s h t).fabIn rfl
@[simp] theorem State.deliver_fabRem (s : State) (h : Nat) (t : Nat) : (State.deliver s h t).fabRem = s.fabRem := (acts_deliver s h t).fabRem rfl
@[simp] theorem State.deliver_fabDropped (s : State) (h : Nat) (t : Nat) : (State.deliver s h t).fabDropped = s.fabDropped := (acts_deliver s h t).fabDropped rfl
@[simp] theorem State.deliver_remote (s : State) (h : Nat) (t : Nat) : (State.deliver s h t).remote = s.remote := (acts_deliver s h t).remote rfl
@[simp] theorem State.deliver_sqNext (s : State) (h : Nat) (t : Nat) : (State.deliver s h t).sqNext = s.sqNext := (acts_deliver s h t).sqNext rfl
@[simp] theorem State.deliver_sqDone (s : State) (h : Nat) (t : Nat) : (State.deliver s h t).sqDone = s.sqDone := (acts_deliver s h t).sqDone rfl
@[simp] theorem State.deliver_slew (s : State) (h : Nat) (t : Nat) : (State.deliver s h t).slew = s.slew := (acts_deliver s h t).slew rfl
@[simp] theorem State.deliver_slewAcc (s : State) (h : Nat) (t : Nat) : (State.deliver s h t).slewAcc = s.slewAcc := (acts_deliver s h t).slewAcc rfl
@[simp] theorem State.deliver_pcieTags (s : State) (h : Nat) (t : Nat) : (State.deliver s h t).pcieTags = s.pcieTags := (acts_deliver s h t).pcieTags rfl
@[simp] theorem State.deliver_pcieOut (s : State) (h : Nat) (t : Nat) : (State.deliver s h t).pcieOut = s.pcieOut := (acts_deliver s h t).pcieOut rfl
@[simp] theorem State.deliver_pcieCpl (s : State) (h : Nat) (t : Nat) : (State.deliver s h t).pcieCpl = s.pcieCpl := (acts_deliver s h t).pcieCpl rfl
@[simp] theorem State.deliver_portReset (s : State) (h : Nat) (t : Nat) : (State.deliver s h t).portReset = s.portReset := (acts_deliver s h t).portReset rfl
@[simp] theorem State.deliver_pcieLate (s : State) (h : Nat) (t : Nat) : (State.deliver s h t).pcieLate = s.pcieLate := (acts_deliver s h t).pcieLate rfl
@[simp] theorem State.deliver_msiLost (s : State) (h : Nat) (t : Nat) : (State.deliver s h t).msiLost = s.msiLost := (acts_deliver s h t).msiLost rfl
@[simp] theorem State.deliver_ctxCache (s : State) (h : Nat) (t : Nat) : (State.deliver s h t).ctxCache = s.ctxCache := (acts_deliver s h t).ctxCache rfl
@[simp] theorem State.deliver_ioTlb (s : State) (h : Nat) (t : Nat) : (State.deliver s h t).ioTlb = s.ioTlb := (acts_deliver s h t).ioTlb rfl
@[simp] theorem State.deliver_jobs (s : State) (h : Nat) (t : Nat) : (State.deliver s h t).jobs = s.jobs := (acts_deliver s h t).jobs rfl
@[simp] theorem State.deliver_cphTurn (s : State) (h : Nat) (t : Nat) : (State.deliver s h t).cphTurn = s.cphTurn := (acts_deliver s h t).cphTurn rfl
@[simp] theorem State.deliver_cphKeys (s : State) (h : Nat) (t : Nat) : (State.deliver s h t).cphKeys = s.cphKeys := (acts_deliver s h t).cphKeys rfl
@[simp] theorem State.deliver_keys (s : State) (h : Nat) (t : Nat) : (State.deliver s h t).keys = s.keys := (acts_deliver s h t).keys rfl
@[simp] theorem State.deliver_keyNext (s : State) (h : Nat) (t : Nat) : (State.deliver s h t).keyNext = s.keyNext := (acts_deliver s h t).keyNext rfl
@[simp] theorem State.deliver_keyFreed (s : State) (h : Nat) (t : Nat) : (State.deliver s h t).keyFreed = s.keyFreed := (acts_deliver s h t).keyFreed rfl
@[simp] theorem State.deliver_srcHigh (s : State) (h : Nat) (t : Nat) : (State.deliver s h t).srcHigh = s.srcHigh := (acts_deliver s h t).srcHigh rfl
@[simp] theorem State.deliver_pend (s : State) (h : Nat) (t : Nat) : (State.deliver s h t).pend = s.pend := (acts_deliver s h t).pend rfl
@[simp] theorem State.deliver_inServ (s : State) (h : Nat) (t : Nat) : (State.deliver s h t).inServ = s.inServ := (acts_deliver s h t).inServ rfl
@[simp] theorem State.deliver_nmiTaken (s : State) (h : Nat) (t : Nat) : (State.deliver s h t).nmiTaken = s.nmiTaken := (acts_deliver s h t).nmiTaken rfl
@[simp] theorem State.deliver_records (s : State) (h : Nat) (t : Nat) : (State.deliver s h t).records = s.records := (acts_deliver s h t).records rfl
@[simp] theorem State.deliver_limits (s : State) (h : Nat) (t : Nat) : (State.deliver s h t).limits = s.limits := (acts_deliver s h t).limits rfl
@[simp] theorem State.deliver_withheld (s : State) (h : Nat) (t : Nat) : (State.deliver s h t).withheld = s.withheld := (acts_deliver s h t).withheld rfl
@[simp] theorem State.deliver_errorN (s : State) (h : Nat) (t : Nat) : (State.deliver s h t).errorN = s.errorN := (acts_deliver s h t).errorN rfl
@[simp] theorem State.deliver_rstLevel (s : State) (h : Nat) (t : Nat) : (State.deliver s h t).rstLevel = s.rstLevel := (acts_deliver s h t).rstLevel rfl
@[simp] theorem State.deliver_relStep (s : State) (h : Nat) (t : Nat) : (State.deliver s h t).relStep = s.relStep := (acts_deliver s h t).relStep rfl
@[simp] theorem State.deliver_railOut (s : State) (h : Nat) (t : Nat) : (State.deliver s h t).railOut = s.railOut := (acts_deliver s h t).railOut rfl
@[simp] theorem State.deliver_pwrgood (s : State) (h : Nat) (t : Nat) : (State.deliver s h t).pwrgood = s.pwrgood := (acts_deliver s h t).pwrgood rfl
@[simp] theorem State.deliver_resetInLow (s : State) (h : Nat) (t : Nat) : (State.deliver s h t).resetInLow = s.resetInLow := (acts_deliver s h t).resetInLow rfl
@[simp] theorem State.deliver_prochotLow (s : State) (h : Nat) (t : Nat) : (State.deliver s h t).prochotLow = s.prochotLow := (acts_deliver s h t).prochotLow rfl
@[simp] theorem State.deliver_thermtrip (s : State) (h : Nat) (t : Nat) : (State.deliver s h t).thermtrip = s.thermtrip := (acts_deliver s h t).thermtrip rfl
@[simp] theorem State.deliver_readyPin (s : State) (h : Nat) (t : Nat) : (State.deliver s h t).readyPin = s.readyPin := (acts_deliver s h t).readyPin rfl
@[simp] theorem State.deliver_unlocked (s : State) (h : Nat) (t : Nat) : (State.deliver s h t).unlocked = s.unlocked := (acts_deliver s h t).unlocked rfl
@[simp] theorem State.deliver_regFailed (s : State) (h : Nat) (t : Nat) : (State.deliver s h t).regFailed = s.regFailed := (acts_deliver s h t).regFailed rfl
@[simp] theorem State.deliver_pGoal (s : State) (h : Nat) (t : Nat) : (State.deliver s h t).pGoal = s.pGoal := (acts_deliver s h t).pGoal rfl
@[simp] theorem State.deliver_pStop (s : State) (h : Nat) (t : Nat) : (State.deliver s h t).pStop = s.pStop := (acts_deliver s h t).pStop rfl
@[simp] theorem State.deliver_pkgIdle (s : State) (h : Nat) (t : Nat) : (State.deliver s h t).pkgIdle = s.pkgIdle := (acts_deliver s h t).pkgIdle rfl
@[simp] theorem State.deliver_rtcAcc (s : State) (h : Nat) (t : Nat) : (State.deliver s h t).rtcAcc = s.rtcAcc := (acts_deliver s h t).rtcAcc rfl
@[simp] theorem State.deliver_partStep (s : State) (h : Nat) (t : Nat) : (State.deliver s h t).partStep = s.partStep := (acts_deliver s h t).partStep rfl
@[simp] theorem State.deliver_fuses (s : State) (h : Nat) (t : Nat) : (State.deliver s h t).fuses = s.fuses := (acts_deliver s h t).fuses rfl
@[simp] theorem State.deliver_rcv (s : State) (h : Nat) (t : Nat) : (State.deliver s h t).rcv = s.rcv := (acts_deliver s h t).rcv rfl
@[simp] theorem State.deliver_bootStep (s : State) (h : Nat) (t : Nat) : (State.deliver s h t).bootStep = s.bootStep := (acts_deliver s h t).bootStep rfl
@[simp] theorem State.deliver_flash (s : State) (h : Nat) (t : Nat) : (State.deliver s h t).flash = s.flash := (acts_deliver s h t).flash rfl
@[simp] theorem State.deliver_ksCopy (s : State) (h : Nat) (t : Nat) : (State.deliver s h t).ksCopy = s.ksCopy := (acts_deliver s h t).ksCopy rfl
@[simp] theorem State.deliver_kek (s : State) (h : Nat) (t : Nat) : (State.deliver s h t).kek = s.kek := (acts_deliver s h t).kek rfl
@[simp] theorem State.deliver_ksErased (s : State) (h : Nat) (t : Nat) : (State.deliver s h t).ksErased = s.ksErased := (acts_deliver s h t).ksErased rfl
@[simp] theorem State.deliver_fmKeys (s : State) (h : Nat) (t : Nat) : (State.deliver s h t).fmKeys = s.fmKeys := (acts_deliver s h t).fmKeys rfl
@[simp] theorem State.deliver_boot (s : State) (h : Nat) (t : Nat) : (State.deliver s h t).boot = s.boot := (acts_deliver s h t).boot rfl
@[simp] theorem State.deliver_spRsp (s : State) (h : Nat) (t : Nat) : (State.deliver s h t).spRsp = s.spRsp := (acts_deliver s h t).spRsp rfl
@[simp] theorem State.deliver_evidence (s : State) (h : Nat) (t : Nat) : (State.deliver s h t).evidence = s.evidence := (acts_deliver s h t).evidence rfl
@[simp] theorem State.deliver_mac (s : State) (h : Nat) (t : Nat) : (State.deliver s h t).mac = s.mac := (acts_deliver s h t).mac rfl
@[simp] theorem State.deliver_pages (s : State) (h : Nat) (t : Nat) : (State.deliver s h t).pages = s.pages := (acts_deliver s h t).pages rfl
@[simp] theorem State.deliver_spd (s : State) (h : Nat) (t : Nat) : (State.deliver s h t).spd = s.spd := (acts_deliver s h t).spd rfl
@[simp] theorem State.deliver_traceBuf (s : State) (h : Nat) (t : Nat) : (State.deliver s h t).traceBuf = s.traceBuf := (acts_deliver s h t).traceBuf rfl
@[simp] theorem State.deliver_snaps (s : State) (h : Nat) (t : Nat) : (State.deliver s h t).snaps = s.snaps := (acts_deliver s h t).snaps rfl
@[simp] theorem State.deliver_ldl (s : State) (h : Nat) (t : Nat) : (State.deliver s h t).ldl = s.ldl := (acts_deliver s h t).ldl rfl
@[simp] theorem State.deliver_dbg (s : State) (h : Nat) (t : Nat) : (State.deliver s h t).dbg = s.dbg := (acts_deliver s h t).dbg rfl
@[simp] theorem State.deliver_lsio (s : State) (h : Nat) (t : Nat) : (State.deliver s h t).lsio = s.lsio := (acts_deliver s h t).lsio rfl
@[simp] theorem State.deliver_wdogNs (s : State) (h : Nat) (t : Nat) : (State.deliver s h t).wdogNs = s.wdogNs := (acts_deliver s h t).wdogNs rfl
@[simp] theorem State.deliver_cycAcc (s : State) (h : Nat) (t : Nat) : (State.deliver s h t).cycAcc = s.cycAcc := (acts_deliver s h t).cycAcc rfl
@[simp] theorem State.rd_deliver (s : State) (h : Nat) (t : Nat) (q : RegId) (j : Nat) (hq : Nat.testBit 192 q.num = false) : (State.deliver s h t).rd q j = s.rd q j := (acts_deliver s h t).reg q j (hq)
@[simp] theorem State.fld_deliver (s : State) (h : Nat) (t : Nat) (F : Fld) (j : Nat) (hq : Nat.testBit 192 F.reg.num = false) : (State.deliver s h t).fld F j = s.fld F j := (acts_deliver s h t).fld F j (hq)

@[simp] theorem State.message_pending (s : State) (h : Nat) (t : Nat) (p : Nat) : (State.message s h t p).pending = s.pending := (acts_message s h t p).pending rfl
@[simp] theorem State.message_free (s : State) (h : Nat) (t : Nat) (p : Nat) : (State.message s h t p).free = s.free := (acts_message s h t p).free rfl
@[simp] theorem State.message_stamp (s : State) (h : Nat) (t : Nat) (p : Nat) : (State.message s h t p).stamp = s.stamp := (acts_message s h t p).stamp rfl
@[simp] theorem State.message_dtime (s : State) (h : Nat) (t : Nat) (p : Nat) : (State.message s h t p).dtime = s.dtime := (acts_message s h t p).dtime rfl
@[simp] theorem State.message_rsp (s : State) (h : Nat) (t : Nat) (p : Nat) : (State.message s h t p).rsp = s.rsp := (acts_message s h t p).rsp rfl
@[simp] theorem State.message_mem (s : State) (h : Nat) (t : Nat) (p : Nat) : (State.message s h t p).mem = s.mem := (acts_message s h t p).mem rfl
@[simp] theorem State.message_memPoison (s : State) (h : Nat) (t : Nat) (p : Nat) : (State.message s h t p).memPoison = s.memPoison := (acts_message s h t p).memPoison rfl
@[simp] theorem State.message_chans (s : State) (h : Nat) (t : Nat) (p : Nat) : (State.message s h t p).chans = s.chans := (acts_message s h t p).chans rfl
@[simp] theorem State.message_mcRsp (s : State) (h : Nat) (t : Nat) (p : Nat) : (State.message s h t p).mcRsp = s.mcRsp := (acts_message s h t p).mcRsp rfl
@[simp] theorem State.message_opt (s : State) (h : Nat) (t : Nat) (p : Nat) : (State.message s h t p).opt = s.opt := (acts_message s h t p).opt rfl
@[simp] theorem State.message_bootSrc (s : State) (h : Nat) (t : Nat) (p : Nat) : (State.message s h t p).bootSrc = s.bootSrc := (acts_message s h t p).bootSrc rfl
@[simp] theorem State.message_recovSel (s : State) (h : Nat) (t : Nat) (p : Nat) : (State.message s h t p).recovSel = s.recovSel := (acts_message s h t p).recovSel rfl
@[simp] theorem State.message_l3 (s : State) (h : Nat) (t : Nat) (p : Nat) : (State.message s h t p).l3 = s.l3 := (acts_message s h t p).l3 rfl
@[simp] theorem State.message_depvb (s : State) (h : Nat) (t : Nat) (p : Nat) : (State.message s h t p).depvb = s.depvb := (acts_message s h t p).depvb rfl
@[simp] theorem State.message_sieve (s : State) (h : Nat) (t : Nat) (p : Nat) : (State.message s h t p).sieve = s.sieve := (acts_message s h t p).sieve rfl
@[simp] theorem State.message_trk (s : State) (h : Nat) (t : Nat) (p : Nat) : (State.message s h t p).trk = s.trk := (acts_message s h t p).trk rfl
@[simp] theorem State.message_fair (s : State) (h : Nat) (t : Nat) (p : Nat) : (State.message s h t p).fair = s.fair := (acts_message s h t p).fair rfl
@[simp] theorem State.message_slots (s : State) (h : Nat) (t : Nat) (p : Nat) : (State.message s h t p).slots = s.slots := (acts_message s h t p).slots rfl
@[simp] theorem State.message_agentReqs (s : State) (h : Nat) (t : Nat) (p : Nat) : (State.message s h t p).agentReqs = s.agentReqs := (acts_message s h t p).agentReqs rfl
@[simp] theorem State.message_ghosts (s : State) (h : Nat) (t : Nat) (p : Nat) : (State.message s h t p).ghosts = s.ghosts := (acts_message s h t p).ghosts rfl
@[simp] theorem State.message_mesh (s : State) (h : Nat) (t : Nat) (p : Nat) : (State.message s h t p).mesh = s.mesh := (acts_message s h t p).mesh rfl
@[simp] theorem State.message_txns (s : State) (h : Nat) (t : Nat) (p : Nat) : (State.message s h t p).txns = s.txns := (acts_message s h t p).txns rfl
@[simp] theorem State.message_linkStopped (s : State) (h : Nat) (t : Nat) (p : Nat) : (State.message s h t p).linkStopped = s.linkStopped := (acts_message s h t p).linkStopped rfl
@[simp] theorem State.message_lidHeld (s : State) (h : Nat) (t : Nat) (p : Nat) : (State.message s h t p).lidHeld = s.lidHeld := (acts_message s h t p).lidHeld rfl
@[simp] theorem State.message_pfw (s : State) (h : Nat) (t : Nat) (p : Nat) : (State.message s h t p).pfw = s.pfw := (acts_message s h t p).pfw rfl
@[simp] theorem State.message_wtCache (s : State) (h : Nat) (t : Nat) (p : Nat) : (State.message s h t p).wtCache = s.wtCache := (acts_message s h t p).wtCache rfl
@[simp] theorem State.message_hartPart (s : State) (h : Nat) (t : Nat) (p : Nat) : (State.message s h t p).hartPart = s.hartPart := (acts_message s h t p).hartPart rfl
@[simp] theorem State.message_spn (s : State) (h : Nat) (t : Nat) (p : Nat) : (State.message s h t p).spn = s.spn := (acts_message s h t p).spn rfl
@[simp] theorem State.message_spnChanged (s : State) (h : Nat) (t : Nat) (p : Nat) : (State.message s h t p).spnChanged = s.spnChanged := (acts_message s h t p).spnChanged rfl
@[simp] theorem State.message_jrnRecs (s : State) (h : Nat) (t : Nat) (p : Nat) : (State.message s h t p).jrnRecs = s.jrnRecs := (acts_message s h t p).jrnRecs rfl
@[simp] theorem State.message_pubs (s : State) (h : Nat) (t : Nat) (p : Nat) : (State.message s h t p).pubs = s.pubs := (acts_message s h t p).pubs rfl
@[simp] theorem State.message_pubFlits (s : State) (h : Nat) (t : Nat) (p : Nat) : (State.message s h t p).pubFlits = s.pubFlits := (acts_message s h t p).pubFlits rfl
@[simp] theorem State.message_repl (s : State) (h : Nat) (t : Nat) (p : Nat) : (State.message s h t p).repl = s.repl := (acts_message s h t p).repl rfl
@[simp] theorem State.message_ports (s : State) (h : Nat) (t : Nat) (p : Nat) : (State.message s h t p).ports = s.ports := (acts_message s h t p).ports rfl
@[simp] theorem State.message_fabIn (s : State) (h : Nat) (t : Nat) (p : Nat) : (State.message s h t p).fabIn = s.fabIn := (acts_message s h t p).fabIn rfl
@[simp] theorem State.message_fabRem (s : State) (h : Nat) (t : Nat) (p : Nat) : (State.message s h t p).fabRem = s.fabRem := (acts_message s h t p).fabRem rfl
@[simp] theorem State.message_fabDropped (s : State) (h : Nat) (t : Nat) (p : Nat) : (State.message s h t p).fabDropped = s.fabDropped := (acts_message s h t p).fabDropped rfl
@[simp] theorem State.message_remote (s : State) (h : Nat) (t : Nat) (p : Nat) : (State.message s h t p).remote = s.remote := (acts_message s h t p).remote rfl
@[simp] theorem State.message_sqNext (s : State) (h : Nat) (t : Nat) (p : Nat) : (State.message s h t p).sqNext = s.sqNext := (acts_message s h t p).sqNext rfl
@[simp] theorem State.message_sqDone (s : State) (h : Nat) (t : Nat) (p : Nat) : (State.message s h t p).sqDone = s.sqDone := (acts_message s h t p).sqDone rfl
@[simp] theorem State.message_slew (s : State) (h : Nat) (t : Nat) (p : Nat) : (State.message s h t p).slew = s.slew := (acts_message s h t p).slew rfl
@[simp] theorem State.message_slewAcc (s : State) (h : Nat) (t : Nat) (p : Nat) : (State.message s h t p).slewAcc = s.slewAcc := (acts_message s h t p).slewAcc rfl
@[simp] theorem State.message_pcieTags (s : State) (h : Nat) (t : Nat) (p : Nat) : (State.message s h t p).pcieTags = s.pcieTags := (acts_message s h t p).pcieTags rfl
@[simp] theorem State.message_pcieOut (s : State) (h : Nat) (t : Nat) (p : Nat) : (State.message s h t p).pcieOut = s.pcieOut := (acts_message s h t p).pcieOut rfl
@[simp] theorem State.message_pcieCpl (s : State) (h : Nat) (t : Nat) (p : Nat) : (State.message s h t p).pcieCpl = s.pcieCpl := (acts_message s h t p).pcieCpl rfl
@[simp] theorem State.message_portReset (s : State) (h : Nat) (t : Nat) (p : Nat) : (State.message s h t p).portReset = s.portReset := (acts_message s h t p).portReset rfl
@[simp] theorem State.message_pcieLate (s : State) (h : Nat) (t : Nat) (p : Nat) : (State.message s h t p).pcieLate = s.pcieLate := (acts_message s h t p).pcieLate rfl
@[simp] theorem State.message_msiLost (s : State) (h : Nat) (t : Nat) (p : Nat) : (State.message s h t p).msiLost = s.msiLost := (acts_message s h t p).msiLost rfl
@[simp] theorem State.message_ctxCache (s : State) (h : Nat) (t : Nat) (p : Nat) : (State.message s h t p).ctxCache = s.ctxCache := (acts_message s h t p).ctxCache rfl
@[simp] theorem State.message_ioTlb (s : State) (h : Nat) (t : Nat) (p : Nat) : (State.message s h t p).ioTlb = s.ioTlb := (acts_message s h t p).ioTlb rfl
@[simp] theorem State.message_jobs (s : State) (h : Nat) (t : Nat) (p : Nat) : (State.message s h t p).jobs = s.jobs := (acts_message s h t p).jobs rfl
@[simp] theorem State.message_cphTurn (s : State) (h : Nat) (t : Nat) (p : Nat) : (State.message s h t p).cphTurn = s.cphTurn := (acts_message s h t p).cphTurn rfl
@[simp] theorem State.message_cphKeys (s : State) (h : Nat) (t : Nat) (p : Nat) : (State.message s h t p).cphKeys = s.cphKeys := (acts_message s h t p).cphKeys rfl
@[simp] theorem State.message_keys (s : State) (h : Nat) (t : Nat) (p : Nat) : (State.message s h t p).keys = s.keys := (acts_message s h t p).keys rfl
@[simp] theorem State.message_keyNext (s : State) (h : Nat) (t : Nat) (p : Nat) : (State.message s h t p).keyNext = s.keyNext := (acts_message s h t p).keyNext rfl
@[simp] theorem State.message_keyFreed (s : State) (h : Nat) (t : Nat) (p : Nat) : (State.message s h t p).keyFreed = s.keyFreed := (acts_message s h t p).keyFreed rfl
@[simp] theorem State.message_srcHigh (s : State) (h : Nat) (t : Nat) (p : Nat) : (State.message s h t p).srcHigh = s.srcHigh := (acts_message s h t p).srcHigh rfl
@[simp] theorem State.message_inServ (s : State) (h : Nat) (t : Nat) (p : Nat) : (State.message s h t p).inServ = s.inServ := (acts_message s h t p).inServ rfl
@[simp] theorem State.message_nmiTaken (s : State) (h : Nat) (t : Nat) (p : Nat) : (State.message s h t p).nmiTaken = s.nmiTaken := (acts_message s h t p).nmiTaken rfl
@[simp] theorem State.message_records (s : State) (h : Nat) (t : Nat) (p : Nat) : (State.message s h t p).records = s.records := (acts_message s h t p).records rfl
@[simp] theorem State.message_limits (s : State) (h : Nat) (t : Nat) (p : Nat) : (State.message s h t p).limits = s.limits := (acts_message s h t p).limits rfl
@[simp] theorem State.message_withheld (s : State) (h : Nat) (t : Nat) (p : Nat) : (State.message s h t p).withheld = s.withheld := (acts_message s h t p).withheld rfl
@[simp] theorem State.message_errorN (s : State) (h : Nat) (t : Nat) (p : Nat) : (State.message s h t p).errorN = s.errorN := (acts_message s h t p).errorN rfl
@[simp] theorem State.message_rstLevel (s : State) (h : Nat) (t : Nat) (p : Nat) : (State.message s h t p).rstLevel = s.rstLevel := (acts_message s h t p).rstLevel rfl
@[simp] theorem State.message_relStep (s : State) (h : Nat) (t : Nat) (p : Nat) : (State.message s h t p).relStep = s.relStep := (acts_message s h t p).relStep rfl
@[simp] theorem State.message_railOut (s : State) (h : Nat) (t : Nat) (p : Nat) : (State.message s h t p).railOut = s.railOut := (acts_message s h t p).railOut rfl
@[simp] theorem State.message_pwrgood (s : State) (h : Nat) (t : Nat) (p : Nat) : (State.message s h t p).pwrgood = s.pwrgood := (acts_message s h t p).pwrgood rfl
@[simp] theorem State.message_resetInLow (s : State) (h : Nat) (t : Nat) (p : Nat) : (State.message s h t p).resetInLow = s.resetInLow := (acts_message s h t p).resetInLow rfl
@[simp] theorem State.message_prochotLow (s : State) (h : Nat) (t : Nat) (p : Nat) : (State.message s h t p).prochotLow = s.prochotLow := (acts_message s h t p).prochotLow rfl
@[simp] theorem State.message_thermtrip (s : State) (h : Nat) (t : Nat) (p : Nat) : (State.message s h t p).thermtrip = s.thermtrip := (acts_message s h t p).thermtrip rfl
@[simp] theorem State.message_readyPin (s : State) (h : Nat) (t : Nat) (p : Nat) : (State.message s h t p).readyPin = s.readyPin := (acts_message s h t p).readyPin rfl
@[simp] theorem State.message_unlocked (s : State) (h : Nat) (t : Nat) (p : Nat) : (State.message s h t p).unlocked = s.unlocked := (acts_message s h t p).unlocked rfl
@[simp] theorem State.message_regFailed (s : State) (h : Nat) (t : Nat) (p : Nat) : (State.message s h t p).regFailed = s.regFailed := (acts_message s h t p).regFailed rfl
@[simp] theorem State.message_pGoal (s : State) (h : Nat) (t : Nat) (p : Nat) : (State.message s h t p).pGoal = s.pGoal := (acts_message s h t p).pGoal rfl
@[simp] theorem State.message_pStop (s : State) (h : Nat) (t : Nat) (p : Nat) : (State.message s h t p).pStop = s.pStop := (acts_message s h t p).pStop rfl
@[simp] theorem State.message_pkgIdle (s : State) (h : Nat) (t : Nat) (p : Nat) : (State.message s h t p).pkgIdle = s.pkgIdle := (acts_message s h t p).pkgIdle rfl
@[simp] theorem State.message_rtcAcc (s : State) (h : Nat) (t : Nat) (p : Nat) : (State.message s h t p).rtcAcc = s.rtcAcc := (acts_message s h t p).rtcAcc rfl
@[simp] theorem State.message_partStep (s : State) (h : Nat) (t : Nat) (p : Nat) : (State.message s h t p).partStep = s.partStep := (acts_message s h t p).partStep rfl
@[simp] theorem State.message_fuses (s : State) (h : Nat) (t : Nat) (p : Nat) : (State.message s h t p).fuses = s.fuses := (acts_message s h t p).fuses rfl
@[simp] theorem State.message_rcv (s : State) (h : Nat) (t : Nat) (p : Nat) : (State.message s h t p).rcv = s.rcv := (acts_message s h t p).rcv rfl
@[simp] theorem State.message_bootStep (s : State) (h : Nat) (t : Nat) (p : Nat) : (State.message s h t p).bootStep = s.bootStep := (acts_message s h t p).bootStep rfl
@[simp] theorem State.message_flash (s : State) (h : Nat) (t : Nat) (p : Nat) : (State.message s h t p).flash = s.flash := (acts_message s h t p).flash rfl
@[simp] theorem State.message_ksCopy (s : State) (h : Nat) (t : Nat) (p : Nat) : (State.message s h t p).ksCopy = s.ksCopy := (acts_message s h t p).ksCopy rfl
@[simp] theorem State.message_kek (s : State) (h : Nat) (t : Nat) (p : Nat) : (State.message s h t p).kek = s.kek := (acts_message s h t p).kek rfl
@[simp] theorem State.message_ksErased (s : State) (h : Nat) (t : Nat) (p : Nat) : (State.message s h t p).ksErased = s.ksErased := (acts_message s h t p).ksErased rfl
@[simp] theorem State.message_fmKeys (s : State) (h : Nat) (t : Nat) (p : Nat) : (State.message s h t p).fmKeys = s.fmKeys := (acts_message s h t p).fmKeys rfl
@[simp] theorem State.message_boot (s : State) (h : Nat) (t : Nat) (p : Nat) : (State.message s h t p).boot = s.boot := (acts_message s h t p).boot rfl
@[simp] theorem State.message_spRsp (s : State) (h : Nat) (t : Nat) (p : Nat) : (State.message s h t p).spRsp = s.spRsp := (acts_message s h t p).spRsp rfl
@[simp] theorem State.message_evidence (s : State) (h : Nat) (t : Nat) (p : Nat) : (State.message s h t p).evidence = s.evidence := (acts_message s h t p).evidence rfl
@[simp] theorem State.message_mac (s : State) (h : Nat) (t : Nat) (p : Nat) : (State.message s h t p).mac = s.mac := (acts_message s h t p).mac rfl
@[simp] theorem State.message_pages (s : State) (h : Nat) (t : Nat) (p : Nat) : (State.message s h t p).pages = s.pages := (acts_message s h t p).pages rfl
@[simp] theorem State.message_spd (s : State) (h : Nat) (t : Nat) (p : Nat) : (State.message s h t p).spd = s.spd := (acts_message s h t p).spd rfl
@[simp] theorem State.message_traceBuf (s : State) (h : Nat) (t : Nat) (p : Nat) : (State.message s h t p).traceBuf = s.traceBuf := (acts_message s h t p).traceBuf rfl
@[simp] theorem State.message_snaps (s : State) (h : Nat) (t : Nat) (p : Nat) : (State.message s h t p).snaps = s.snaps := (acts_message s h t p).snaps rfl
@[simp] theorem State.message_ldl (s : State) (h : Nat) (t : Nat) (p : Nat) : (State.message s h t p).ldl = s.ldl := (acts_message s h t p).ldl rfl
@[simp] theorem State.message_dbg (s : State) (h : Nat) (t : Nat) (p : Nat) : (State.message s h t p).dbg = s.dbg := (acts_message s h t p).dbg rfl
@[simp] theorem State.message_lsio (s : State) (h : Nat) (t : Nat) (p : Nat) : (State.message s h t p).lsio = s.lsio := (acts_message s h t p).lsio rfl
@[simp] theorem State.message_wdogNs (s : State) (h : Nat) (t : Nat) (p : Nat) : (State.message s h t p).wdogNs = s.wdogNs := (acts_message s h t p).wdogNs rfl
@[simp] theorem State.message_cycAcc (s : State) (h : Nat) (t : Nat) (p : Nat) : (State.message s h t p).cycAcc = s.cycAcc := (acts_message s h t p).cycAcc rfl
@[simp] theorem State.rd_message (s : State) (h : Nat) (t : Nat) (p : Nat) (q : RegId) (j : Nat) (hq : Nat.testBit 192 q.num = false) : (State.message s h t p).rd q j = s.rd q j := (acts_message s h t p).reg q j (hq)
@[simp] theorem State.fld_message (s : State) (h : Nat) (t : Nat) (p : Nat) (F : Fld) (j : Nat) (hq : Nat.testBit 192 F.reg.num = false) : (State.message s h t p).fld F j = s.fld F j := (acts_message s h t p).fld F j (hq)

@[simp] theorem State.abortGroup_pending (s : State) (c : Nat) (code : Nat) (cause : Nat) (user : Nat) : (State.abortGroup s c code cause user).pending = s.pending := (acts_abortGroup s c code cause user).pending rfl
@[simp] theorem State.abortGroup_free (s : State) (c : Nat) (code : Nat) (cause : Nat) (user : Nat) : (State.abortGroup s c code cause user).free = s.free := (acts_abortGroup s c code cause user).free rfl
@[simp] theorem State.abortGroup_stamp (s : State) (c : Nat) (code : Nat) (cause : Nat) (user : Nat) : (State.abortGroup s c code cause user).stamp = s.stamp := (acts_abortGroup s c code cause user).stamp rfl
@[simp] theorem State.abortGroup_dtime (s : State) (c : Nat) (code : Nat) (cause : Nat) (user : Nat) : (State.abortGroup s c code cause user).dtime = s.dtime := (acts_abortGroup s c code cause user).dtime rfl
@[simp] theorem State.abortGroup_rsp (s : State) (c : Nat) (code : Nat) (cause : Nat) (user : Nat) : (State.abortGroup s c code cause user).rsp = s.rsp := (acts_abortGroup s c code cause user).rsp rfl
@[simp] theorem State.abortGroup_mem (s : State) (c : Nat) (code : Nat) (cause : Nat) (user : Nat) : (State.abortGroup s c code cause user).mem = s.mem := (acts_abortGroup s c code cause user).mem rfl
@[simp] theorem State.abortGroup_memPoison (s : State) (c : Nat) (code : Nat) (cause : Nat) (user : Nat) : (State.abortGroup s c code cause user).memPoison = s.memPoison := (acts_abortGroup s c code cause user).memPoison rfl
@[simp] theorem State.abortGroup_chans (s : State) (c : Nat) (code : Nat) (cause : Nat) (user : Nat) : (State.abortGroup s c code cause user).chans = s.chans := (acts_abortGroup s c code cause user).chans rfl
@[simp] theorem State.abortGroup_mcRsp (s : State) (c : Nat) (code : Nat) (cause : Nat) (user : Nat) : (State.abortGroup s c code cause user).mcRsp = s.mcRsp := (acts_abortGroup s c code cause user).mcRsp rfl
@[simp] theorem State.abortGroup_opt (s : State) (c : Nat) (code : Nat) (cause : Nat) (user : Nat) : (State.abortGroup s c code cause user).opt = s.opt := (acts_abortGroup s c code cause user).opt rfl
@[simp] theorem State.abortGroup_bootSrc (s : State) (c : Nat) (code : Nat) (cause : Nat) (user : Nat) : (State.abortGroup s c code cause user).bootSrc = s.bootSrc := (acts_abortGroup s c code cause user).bootSrc rfl
@[simp] theorem State.abortGroup_recovSel (s : State) (c : Nat) (code : Nat) (cause : Nat) (user : Nat) : (State.abortGroup s c code cause user).recovSel = s.recovSel := (acts_abortGroup s c code cause user).recovSel rfl
@[simp] theorem State.abortGroup_l3 (s : State) (c : Nat) (code : Nat) (cause : Nat) (user : Nat) : (State.abortGroup s c code cause user).l3 = s.l3 := (acts_abortGroup s c code cause user).l3 rfl
@[simp] theorem State.abortGroup_depvb (s : State) (c : Nat) (code : Nat) (cause : Nat) (user : Nat) : (State.abortGroup s c code cause user).depvb = s.depvb := (acts_abortGroup s c code cause user).depvb rfl
@[simp] theorem State.abortGroup_sieve (s : State) (c : Nat) (code : Nat) (cause : Nat) (user : Nat) : (State.abortGroup s c code cause user).sieve = s.sieve := (acts_abortGroup s c code cause user).sieve rfl
@[simp] theorem State.abortGroup_trk (s : State) (c : Nat) (code : Nat) (cause : Nat) (user : Nat) : (State.abortGroup s c code cause user).trk = s.trk := (acts_abortGroup s c code cause user).trk rfl
@[simp] theorem State.abortGroup_fair (s : State) (c : Nat) (code : Nat) (cause : Nat) (user : Nat) : (State.abortGroup s c code cause user).fair = s.fair := (acts_abortGroup s c code cause user).fair rfl
@[simp] theorem State.abortGroup_slots (s : State) (c : Nat) (code : Nat) (cause : Nat) (user : Nat) : (State.abortGroup s c code cause user).slots = s.slots := (acts_abortGroup s c code cause user).slots rfl
@[simp] theorem State.abortGroup_agentReqs (s : State) (c : Nat) (code : Nat) (cause : Nat) (user : Nat) : (State.abortGroup s c code cause user).agentReqs = s.agentReqs := (acts_abortGroup s c code cause user).agentReqs rfl
@[simp] theorem State.abortGroup_ghosts (s : State) (c : Nat) (code : Nat) (cause : Nat) (user : Nat) : (State.abortGroup s c code cause user).ghosts = s.ghosts := (acts_abortGroup s c code cause user).ghosts rfl
@[simp] theorem State.abortGroup_mesh (s : State) (c : Nat) (code : Nat) (cause : Nat) (user : Nat) : (State.abortGroup s c code cause user).mesh = s.mesh := (acts_abortGroup s c code cause user).mesh rfl
@[simp] theorem State.abortGroup_txns (s : State) (c : Nat) (code : Nat) (cause : Nat) (user : Nat) : (State.abortGroup s c code cause user).txns = s.txns := (acts_abortGroup s c code cause user).txns rfl
@[simp] theorem State.abortGroup_linkStopped (s : State) (c : Nat) (code : Nat) (cause : Nat) (user : Nat) : (State.abortGroup s c code cause user).linkStopped = s.linkStopped := (acts_abortGroup s c code cause user).linkStopped rfl
@[simp] theorem State.abortGroup_lidHeld (s : State) (c : Nat) (code : Nat) (cause : Nat) (user : Nat) : (State.abortGroup s c code cause user).lidHeld = s.lidHeld := (acts_abortGroup s c code cause user).lidHeld rfl
@[simp] theorem State.abortGroup_pfw (s : State) (c : Nat) (code : Nat) (cause : Nat) (user : Nat) : (State.abortGroup s c code cause user).pfw = s.pfw := (acts_abortGroup s c code cause user).pfw rfl
@[simp] theorem State.abortGroup_wtCache (s : State) (c : Nat) (code : Nat) (cause : Nat) (user : Nat) : (State.abortGroup s c code cause user).wtCache = s.wtCache := (acts_abortGroup s c code cause user).wtCache rfl
@[simp] theorem State.abortGroup_hartPart (s : State) (c : Nat) (code : Nat) (cause : Nat) (user : Nat) : (State.abortGroup s c code cause user).hartPart = s.hartPart := (acts_abortGroup s c code cause user).hartPart rfl
@[simp] theorem State.abortGroup_spn (s : State) (c : Nat) (code : Nat) (cause : Nat) (user : Nat) : (State.abortGroup s c code cause user).spn = s.spn := (acts_abortGroup s c code cause user).spn rfl
@[simp] theorem State.abortGroup_spnChanged (s : State) (c : Nat) (code : Nat) (cause : Nat) (user : Nat) : (State.abortGroup s c code cause user).spnChanged = s.spnChanged := (acts_abortGroup s c code cause user).spnChanged rfl
@[simp] theorem State.abortGroup_jrnRecs (s : State) (c : Nat) (code : Nat) (cause : Nat) (user : Nat) : (State.abortGroup s c code cause user).jrnRecs = s.jrnRecs := (acts_abortGroup s c code cause user).jrnRecs rfl
@[simp] theorem State.abortGroup_pubs (s : State) (c : Nat) (code : Nat) (cause : Nat) (user : Nat) : (State.abortGroup s c code cause user).pubs = s.pubs := (acts_abortGroup s c code cause user).pubs rfl
@[simp] theorem State.abortGroup_pubFlits (s : State) (c : Nat) (code : Nat) (cause : Nat) (user : Nat) : (State.abortGroup s c code cause user).pubFlits = s.pubFlits := (acts_abortGroup s c code cause user).pubFlits rfl
@[simp] theorem State.abortGroup_repl (s : State) (c : Nat) (code : Nat) (cause : Nat) (user : Nat) : (State.abortGroup s c code cause user).repl = s.repl := (acts_abortGroup s c code cause user).repl rfl
@[simp] theorem State.abortGroup_ports (s : State) (c : Nat) (code : Nat) (cause : Nat) (user : Nat) : (State.abortGroup s c code cause user).ports = s.ports := (acts_abortGroup s c code cause user).ports rfl
@[simp] theorem State.abortGroup_fabIn (s : State) (c : Nat) (code : Nat) (cause : Nat) (user : Nat) : (State.abortGroup s c code cause user).fabIn = s.fabIn := (acts_abortGroup s c code cause user).fabIn rfl
@[simp] theorem State.abortGroup_fabRem (s : State) (c : Nat) (code : Nat) (cause : Nat) (user : Nat) : (State.abortGroup s c code cause user).fabRem = s.fabRem := (acts_abortGroup s c code cause user).fabRem rfl
@[simp] theorem State.abortGroup_fabDropped (s : State) (c : Nat) (code : Nat) (cause : Nat) (user : Nat) : (State.abortGroup s c code cause user).fabDropped = s.fabDropped := (acts_abortGroup s c code cause user).fabDropped rfl
@[simp] theorem State.abortGroup_remote (s : State) (c : Nat) (code : Nat) (cause : Nat) (user : Nat) : (State.abortGroup s c code cause user).remote = s.remote := (acts_abortGroup s c code cause user).remote rfl
@[simp] theorem State.abortGroup_sqNext (s : State) (c : Nat) (code : Nat) (cause : Nat) (user : Nat) : (State.abortGroup s c code cause user).sqNext = s.sqNext := (acts_abortGroup s c code cause user).sqNext rfl
@[simp] theorem State.abortGroup_sqDone (s : State) (c : Nat) (code : Nat) (cause : Nat) (user : Nat) : (State.abortGroup s c code cause user).sqDone = s.sqDone := (acts_abortGroup s c code cause user).sqDone rfl
@[simp] theorem State.abortGroup_slew (s : State) (c : Nat) (code : Nat) (cause : Nat) (user : Nat) : (State.abortGroup s c code cause user).slew = s.slew := (acts_abortGroup s c code cause user).slew rfl
@[simp] theorem State.abortGroup_slewAcc (s : State) (c : Nat) (code : Nat) (cause : Nat) (user : Nat) : (State.abortGroup s c code cause user).slewAcc = s.slewAcc := (acts_abortGroup s c code cause user).slewAcc rfl
@[simp] theorem State.abortGroup_pcieTags (s : State) (c : Nat) (code : Nat) (cause : Nat) (user : Nat) : (State.abortGroup s c code cause user).pcieTags = s.pcieTags := (acts_abortGroup s c code cause user).pcieTags rfl
@[simp] theorem State.abortGroup_pcieOut (s : State) (c : Nat) (code : Nat) (cause : Nat) (user : Nat) : (State.abortGroup s c code cause user).pcieOut = s.pcieOut := (acts_abortGroup s c code cause user).pcieOut rfl
@[simp] theorem State.abortGroup_pcieCpl (s : State) (c : Nat) (code : Nat) (cause : Nat) (user : Nat) : (State.abortGroup s c code cause user).pcieCpl = s.pcieCpl := (acts_abortGroup s c code cause user).pcieCpl rfl
@[simp] theorem State.abortGroup_portReset (s : State) (c : Nat) (code : Nat) (cause : Nat) (user : Nat) : (State.abortGroup s c code cause user).portReset = s.portReset := (acts_abortGroup s c code cause user).portReset rfl
@[simp] theorem State.abortGroup_pcieLate (s : State) (c : Nat) (code : Nat) (cause : Nat) (user : Nat) : (State.abortGroup s c code cause user).pcieLate = s.pcieLate := (acts_abortGroup s c code cause user).pcieLate rfl
@[simp] theorem State.abortGroup_msiLost (s : State) (c : Nat) (code : Nat) (cause : Nat) (user : Nat) : (State.abortGroup s c code cause user).msiLost = s.msiLost := (acts_abortGroup s c code cause user).msiLost rfl
@[simp] theorem State.abortGroup_ctxCache (s : State) (c : Nat) (code : Nat) (cause : Nat) (user : Nat) : (State.abortGroup s c code cause user).ctxCache = s.ctxCache := (acts_abortGroup s c code cause user).ctxCache rfl
@[simp] theorem State.abortGroup_ioTlb (s : State) (c : Nat) (code : Nat) (cause : Nat) (user : Nat) : (State.abortGroup s c code cause user).ioTlb = s.ioTlb := (acts_abortGroup s c code cause user).ioTlb rfl
@[simp] theorem State.abortGroup_jobs (s : State) (c : Nat) (code : Nat) (cause : Nat) (user : Nat) : (State.abortGroup s c code cause user).jobs = s.jobs := (acts_abortGroup s c code cause user).jobs rfl
@[simp] theorem State.abortGroup_cphTurn (s : State) (c : Nat) (code : Nat) (cause : Nat) (user : Nat) : (State.abortGroup s c code cause user).cphTurn = s.cphTurn := (acts_abortGroup s c code cause user).cphTurn rfl
@[simp] theorem State.abortGroup_cphKeys (s : State) (c : Nat) (code : Nat) (cause : Nat) (user : Nat) : (State.abortGroup s c code cause user).cphKeys = s.cphKeys := (acts_abortGroup s c code cause user).cphKeys rfl
@[simp] theorem State.abortGroup_keys (s : State) (c : Nat) (code : Nat) (cause : Nat) (user : Nat) : (State.abortGroup s c code cause user).keys = s.keys := (acts_abortGroup s c code cause user).keys rfl
@[simp] theorem State.abortGroup_keyNext (s : State) (c : Nat) (code : Nat) (cause : Nat) (user : Nat) : (State.abortGroup s c code cause user).keyNext = s.keyNext := (acts_abortGroup s c code cause user).keyNext rfl
@[simp] theorem State.abortGroup_keyFreed (s : State) (c : Nat) (code : Nat) (cause : Nat) (user : Nat) : (State.abortGroup s c code cause user).keyFreed = s.keyFreed := (acts_abortGroup s c code cause user).keyFreed rfl
@[simp] theorem State.abortGroup_srcHigh (s : State) (c : Nat) (code : Nat) (cause : Nat) (user : Nat) : (State.abortGroup s c code cause user).srcHigh = s.srcHigh := (acts_abortGroup s c code cause user).srcHigh rfl
@[simp] theorem State.abortGroup_pend (s : State) (c : Nat) (code : Nat) (cause : Nat) (user : Nat) : (State.abortGroup s c code cause user).pend = s.pend := (acts_abortGroup s c code cause user).pend rfl
@[simp] theorem State.abortGroup_inServ (s : State) (c : Nat) (code : Nat) (cause : Nat) (user : Nat) : (State.abortGroup s c code cause user).inServ = s.inServ := (acts_abortGroup s c code cause user).inServ rfl
@[simp] theorem State.abortGroup_nmiTaken (s : State) (c : Nat) (code : Nat) (cause : Nat) (user : Nat) : (State.abortGroup s c code cause user).nmiTaken = s.nmiTaken := (acts_abortGroup s c code cause user).nmiTaken rfl
@[simp] theorem State.abortGroup_records (s : State) (c : Nat) (code : Nat) (cause : Nat) (user : Nat) : (State.abortGroup s c code cause user).records = s.records := (acts_abortGroup s c code cause user).records rfl
@[simp] theorem State.abortGroup_limits (s : State) (c : Nat) (code : Nat) (cause : Nat) (user : Nat) : (State.abortGroup s c code cause user).limits = s.limits := (acts_abortGroup s c code cause user).limits rfl
@[simp] theorem State.abortGroup_withheld (s : State) (c : Nat) (code : Nat) (cause : Nat) (user : Nat) : (State.abortGroup s c code cause user).withheld = s.withheld := (acts_abortGroup s c code cause user).withheld rfl
@[simp] theorem State.abortGroup_errorN (s : State) (c : Nat) (code : Nat) (cause : Nat) (user : Nat) : (State.abortGroup s c code cause user).errorN = s.errorN := (acts_abortGroup s c code cause user).errorN rfl
@[simp] theorem State.abortGroup_rstLevel (s : State) (c : Nat) (code : Nat) (cause : Nat) (user : Nat) : (State.abortGroup s c code cause user).rstLevel = s.rstLevel := (acts_abortGroup s c code cause user).rstLevel rfl
@[simp] theorem State.abortGroup_relStep (s : State) (c : Nat) (code : Nat) (cause : Nat) (user : Nat) : (State.abortGroup s c code cause user).relStep = s.relStep := (acts_abortGroup s c code cause user).relStep rfl
@[simp] theorem State.abortGroup_railOut (s : State) (c : Nat) (code : Nat) (cause : Nat) (user : Nat) : (State.abortGroup s c code cause user).railOut = s.railOut := (acts_abortGroup s c code cause user).railOut rfl
@[simp] theorem State.abortGroup_pwrgood (s : State) (c : Nat) (code : Nat) (cause : Nat) (user : Nat) : (State.abortGroup s c code cause user).pwrgood = s.pwrgood := (acts_abortGroup s c code cause user).pwrgood rfl
@[simp] theorem State.abortGroup_resetInLow (s : State) (c : Nat) (code : Nat) (cause : Nat) (user : Nat) : (State.abortGroup s c code cause user).resetInLow = s.resetInLow := (acts_abortGroup s c code cause user).resetInLow rfl
@[simp] theorem State.abortGroup_prochotLow (s : State) (c : Nat) (code : Nat) (cause : Nat) (user : Nat) : (State.abortGroup s c code cause user).prochotLow = s.prochotLow := (acts_abortGroup s c code cause user).prochotLow rfl
@[simp] theorem State.abortGroup_thermtrip (s : State) (c : Nat) (code : Nat) (cause : Nat) (user : Nat) : (State.abortGroup s c code cause user).thermtrip = s.thermtrip := (acts_abortGroup s c code cause user).thermtrip rfl
@[simp] theorem State.abortGroup_readyPin (s : State) (c : Nat) (code : Nat) (cause : Nat) (user : Nat) : (State.abortGroup s c code cause user).readyPin = s.readyPin := (acts_abortGroup s c code cause user).readyPin rfl
@[simp] theorem State.abortGroup_unlocked (s : State) (c : Nat) (code : Nat) (cause : Nat) (user : Nat) : (State.abortGroup s c code cause user).unlocked = s.unlocked := (acts_abortGroup s c code cause user).unlocked rfl
@[simp] theorem State.abortGroup_regFailed (s : State) (c : Nat) (code : Nat) (cause : Nat) (user : Nat) : (State.abortGroup s c code cause user).regFailed = s.regFailed := (acts_abortGroup s c code cause user).regFailed rfl
@[simp] theorem State.abortGroup_pGoal (s : State) (c : Nat) (code : Nat) (cause : Nat) (user : Nat) : (State.abortGroup s c code cause user).pGoal = s.pGoal := (acts_abortGroup s c code cause user).pGoal rfl
@[simp] theorem State.abortGroup_pStop (s : State) (c : Nat) (code : Nat) (cause : Nat) (user : Nat) : (State.abortGroup s c code cause user).pStop = s.pStop := (acts_abortGroup s c code cause user).pStop rfl
@[simp] theorem State.abortGroup_pkgIdle (s : State) (c : Nat) (code : Nat) (cause : Nat) (user : Nat) : (State.abortGroup s c code cause user).pkgIdle = s.pkgIdle := (acts_abortGroup s c code cause user).pkgIdle rfl
@[simp] theorem State.abortGroup_rtcAcc (s : State) (c : Nat) (code : Nat) (cause : Nat) (user : Nat) : (State.abortGroup s c code cause user).rtcAcc = s.rtcAcc := (acts_abortGroup s c code cause user).rtcAcc rfl
@[simp] theorem State.abortGroup_partStep (s : State) (c : Nat) (code : Nat) (cause : Nat) (user : Nat) : (State.abortGroup s c code cause user).partStep = s.partStep := (acts_abortGroup s c code cause user).partStep rfl
@[simp] theorem State.abortGroup_fuses (s : State) (c : Nat) (code : Nat) (cause : Nat) (user : Nat) : (State.abortGroup s c code cause user).fuses = s.fuses := (acts_abortGroup s c code cause user).fuses rfl
@[simp] theorem State.abortGroup_rcv (s : State) (c : Nat) (code : Nat) (cause : Nat) (user : Nat) : (State.abortGroup s c code cause user).rcv = s.rcv := (acts_abortGroup s c code cause user).rcv rfl
@[simp] theorem State.abortGroup_bootStep (s : State) (c : Nat) (code : Nat) (cause : Nat) (user : Nat) : (State.abortGroup s c code cause user).bootStep = s.bootStep := (acts_abortGroup s c code cause user).bootStep rfl
@[simp] theorem State.abortGroup_flash (s : State) (c : Nat) (code : Nat) (cause : Nat) (user : Nat) : (State.abortGroup s c code cause user).flash = s.flash := (acts_abortGroup s c code cause user).flash rfl
@[simp] theorem State.abortGroup_ksCopy (s : State) (c : Nat) (code : Nat) (cause : Nat) (user : Nat) : (State.abortGroup s c code cause user).ksCopy = s.ksCopy := (acts_abortGroup s c code cause user).ksCopy rfl
@[simp] theorem State.abortGroup_kek (s : State) (c : Nat) (code : Nat) (cause : Nat) (user : Nat) : (State.abortGroup s c code cause user).kek = s.kek := (acts_abortGroup s c code cause user).kek rfl
@[simp] theorem State.abortGroup_ksErased (s : State) (c : Nat) (code : Nat) (cause : Nat) (user : Nat) : (State.abortGroup s c code cause user).ksErased = s.ksErased := (acts_abortGroup s c code cause user).ksErased rfl
@[simp] theorem State.abortGroup_fmKeys (s : State) (c : Nat) (code : Nat) (cause : Nat) (user : Nat) : (State.abortGroup s c code cause user).fmKeys = s.fmKeys := (acts_abortGroup s c code cause user).fmKeys rfl
@[simp] theorem State.abortGroup_boot (s : State) (c : Nat) (code : Nat) (cause : Nat) (user : Nat) : (State.abortGroup s c code cause user).boot = s.boot := (acts_abortGroup s c code cause user).boot rfl
@[simp] theorem State.abortGroup_spRsp (s : State) (c : Nat) (code : Nat) (cause : Nat) (user : Nat) : (State.abortGroup s c code cause user).spRsp = s.spRsp := (acts_abortGroup s c code cause user).spRsp rfl
@[simp] theorem State.abortGroup_evidence (s : State) (c : Nat) (code : Nat) (cause : Nat) (user : Nat) : (State.abortGroup s c code cause user).evidence = s.evidence := (acts_abortGroup s c code cause user).evidence rfl
@[simp] theorem State.abortGroup_mac (s : State) (c : Nat) (code : Nat) (cause : Nat) (user : Nat) : (State.abortGroup s c code cause user).mac = s.mac := (acts_abortGroup s c code cause user).mac rfl
@[simp] theorem State.abortGroup_pages (s : State) (c : Nat) (code : Nat) (cause : Nat) (user : Nat) : (State.abortGroup s c code cause user).pages = s.pages := (acts_abortGroup s c code cause user).pages rfl
@[simp] theorem State.abortGroup_spd (s : State) (c : Nat) (code : Nat) (cause : Nat) (user : Nat) : (State.abortGroup s c code cause user).spd = s.spd := (acts_abortGroup s c code cause user).spd rfl
@[simp] theorem State.abortGroup_traceBuf (s : State) (c : Nat) (code : Nat) (cause : Nat) (user : Nat) : (State.abortGroup s c code cause user).traceBuf = s.traceBuf := (acts_abortGroup s c code cause user).traceBuf rfl
@[simp] theorem State.abortGroup_snaps (s : State) (c : Nat) (code : Nat) (cause : Nat) (user : Nat) : (State.abortGroup s c code cause user).snaps = s.snaps := (acts_abortGroup s c code cause user).snaps rfl
@[simp] theorem State.abortGroup_ldl (s : State) (c : Nat) (code : Nat) (cause : Nat) (user : Nat) : (State.abortGroup s c code cause user).ldl = s.ldl := (acts_abortGroup s c code cause user).ldl rfl
@[simp] theorem State.abortGroup_dbg (s : State) (c : Nat) (code : Nat) (cause : Nat) (user : Nat) : (State.abortGroup s c code cause user).dbg = s.dbg := (acts_abortGroup s c code cause user).dbg rfl
@[simp] theorem State.abortGroup_lsio (s : State) (c : Nat) (code : Nat) (cause : Nat) (user : Nat) : (State.abortGroup s c code cause user).lsio = s.lsio := (acts_abortGroup s c code cause user).lsio rfl
@[simp] theorem State.abortGroup_wdogNs (s : State) (c : Nat) (code : Nat) (cause : Nat) (user : Nat) : (State.abortGroup s c code cause user).wdogNs = s.wdogNs := (acts_abortGroup s c code cause user).wdogNs rfl
@[simp] theorem State.abortGroup_cycAcc (s : State) (c : Nat) (code : Nat) (cause : Nat) (user : Nat) : (State.abortGroup s c code cause user).cycAcc = s.cycAcc := (acts_abortGroup s c code cause user).cycAcc rfl
@[simp] theorem State.rd_abortGroup (s : State) (c : Nat) (code : Nat) (cause : Nat) (user : Nat) (q : RegId) (j : Nat) (hq : Nat.testBit 192 q.num = false) : (State.abortGroup s c code cause user).rd q j = s.rd q j := (acts_abortGroup s c code cause user).reg q j (hq)
@[simp] theorem State.fld_abortGroup (s : State) (c : Nat) (code : Nat) (cause : Nat) (user : Nat) (F : Fld) (j : Nat) (hq : Nat.testBit 192 F.reg.num = false) : (State.abortGroup s c code cause user).fld F j = s.fld F j := (acts_abortGroup s c code cause user).fld F j (hq)

@[simp] theorem State.agentWriteBytes_pending (s : State) (pa : Nat) (bs : List Byte) (secure : Bool) : (State.agentWriteBytes s pa bs secure).pending = s.pending := (acts_agentWriteBytes s pa bs secure).pending rfl
@[simp] theorem State.agentWriteBytes_dtime (s : State) (pa : Nat) (bs : List Byte) (secure : Bool) : (State.agentWriteBytes s pa bs secure).dtime = s.dtime := (acts_agentWriteBytes s pa bs secure).dtime rfl
@[simp] theorem State.agentWriteBytes_rsp (s : State) (pa : Nat) (bs : List Byte) (secure : Bool) : (State.agentWriteBytes s pa bs secure).rsp = s.rsp := (acts_agentWriteBytes s pa bs secure).rsp rfl
@[simp] theorem State.agentWriteBytes_chans (s : State) (pa : Nat) (bs : List Byte) (secure : Bool) : (State.agentWriteBytes s pa bs secure).chans = s.chans := (acts_agentWriteBytes s pa bs secure).chans rfl
@[simp] theorem State.agentWriteBytes_mcRsp (s : State) (pa : Nat) (bs : List Byte) (secure : Bool) : (State.agentWriteBytes s pa bs secure).mcRsp = s.mcRsp := (acts_agentWriteBytes s pa bs secure).mcRsp rfl
@[simp] theorem State.agentWriteBytes_opt (s : State) (pa : Nat) (bs : List Byte) (secure : Bool) : (State.agentWriteBytes s pa bs secure).opt = s.opt := (acts_agentWriteBytes s pa bs secure).opt rfl
@[simp] theorem State.agentWriteBytes_bootSrc (s : State) (pa : Nat) (bs : List Byte) (secure : Bool) : (State.agentWriteBytes s pa bs secure).bootSrc = s.bootSrc := (acts_agentWriteBytes s pa bs secure).bootSrc rfl
@[simp] theorem State.agentWriteBytes_recovSel (s : State) (pa : Nat) (bs : List Byte) (secure : Bool) : (State.agentWriteBytes s pa bs secure).recovSel = s.recovSel := (acts_agentWriteBytes s pa bs secure).recovSel rfl
@[simp] theorem State.agentWriteBytes_trk (s : State) (pa : Nat) (bs : List Byte) (secure : Bool) : (State.agentWriteBytes s pa bs secure).trk = s.trk := (acts_agentWriteBytes s pa bs secure).trk rfl
@[simp] theorem State.agentWriteBytes_fair (s : State) (pa : Nat) (bs : List Byte) (secure : Bool) : (State.agentWriteBytes s pa bs secure).fair = s.fair := (acts_agentWriteBytes s pa bs secure).fair rfl
@[simp] theorem State.agentWriteBytes_slots (s : State) (pa : Nat) (bs : List Byte) (secure : Bool) : (State.agentWriteBytes s pa bs secure).slots = s.slots := (acts_agentWriteBytes s pa bs secure).slots rfl
@[simp] theorem State.agentWriteBytes_agentReqs (s : State) (pa : Nat) (bs : List Byte) (secure : Bool) : (State.agentWriteBytes s pa bs secure).agentReqs = s.agentReqs := (acts_agentWriteBytes s pa bs secure).agentReqs rfl
@[simp] theorem State.agentWriteBytes_ghosts (s : State) (pa : Nat) (bs : List Byte) (secure : Bool) : (State.agentWriteBytes s pa bs secure).ghosts = s.ghosts := (acts_agentWriteBytes s pa bs secure).ghosts rfl
@[simp] theorem State.agentWriteBytes_mesh (s : State) (pa : Nat) (bs : List Byte) (secure : Bool) : (State.agentWriteBytes s pa bs secure).mesh = s.mesh := (acts_agentWriteBytes s pa bs secure).mesh rfl
@[simp] theorem State.agentWriteBytes_txns (s : State) (pa : Nat) (bs : List Byte) (secure : Bool) : (State.agentWriteBytes s pa bs secure).txns = s.txns := (acts_agentWriteBytes s pa bs secure).txns rfl
@[simp] theorem State.agentWriteBytes_linkStopped (s : State) (pa : Nat) (bs : List Byte) (secure : Bool) : (State.agentWriteBytes s pa bs secure).linkStopped = s.linkStopped := (acts_agentWriteBytes s pa bs secure).linkStopped rfl
@[simp] theorem State.agentWriteBytes_lidHeld (s : State) (pa : Nat) (bs : List Byte) (secure : Bool) : (State.agentWriteBytes s pa bs secure).lidHeld = s.lidHeld := (acts_agentWriteBytes s pa bs secure).lidHeld rfl
@[simp] theorem State.agentWriteBytes_pfw (s : State) (pa : Nat) (bs : List Byte) (secure : Bool) : (State.agentWriteBytes s pa bs secure).pfw = s.pfw := (acts_agentWriteBytes s pa bs secure).pfw rfl
@[simp] theorem State.agentWriteBytes_wtCache (s : State) (pa : Nat) (bs : List Byte) (secure : Bool) : (State.agentWriteBytes s pa bs secure).wtCache = s.wtCache := (acts_agentWriteBytes s pa bs secure).wtCache rfl
@[simp] theorem State.agentWriteBytes_hartPart (s : State) (pa : Nat) (bs : List Byte) (secure : Bool) : (State.agentWriteBytes s pa bs secure).hartPart = s.hartPart := (acts_agentWriteBytes s pa bs secure).hartPart rfl
@[simp] theorem State.agentWriteBytes_spn (s : State) (pa : Nat) (bs : List Byte) (secure : Bool) : (State.agentWriteBytes s pa bs secure).spn = s.spn := (acts_agentWriteBytes s pa bs secure).spn rfl
@[simp] theorem State.agentWriteBytes_spnChanged (s : State) (pa : Nat) (bs : List Byte) (secure : Bool) : (State.agentWriteBytes s pa bs secure).spnChanged = s.spnChanged := (acts_agentWriteBytes s pa bs secure).spnChanged rfl
@[simp] theorem State.agentWriteBytes_pubs (s : State) (pa : Nat) (bs : List Byte) (secure : Bool) : (State.agentWriteBytes s pa bs secure).pubs = s.pubs := (acts_agentWriteBytes s pa bs secure).pubs rfl
@[simp] theorem State.agentWriteBytes_pubFlits (s : State) (pa : Nat) (bs : List Byte) (secure : Bool) : (State.agentWriteBytes s pa bs secure).pubFlits = s.pubFlits := (acts_agentWriteBytes s pa bs secure).pubFlits rfl
@[simp] theorem State.agentWriteBytes_repl (s : State) (pa : Nat) (bs : List Byte) (secure : Bool) : (State.agentWriteBytes s pa bs secure).repl = s.repl := (acts_agentWriteBytes s pa bs secure).repl rfl
@[simp] theorem State.agentWriteBytes_ports (s : State) (pa : Nat) (bs : List Byte) (secure : Bool) : (State.agentWriteBytes s pa bs secure).ports = s.ports := (acts_agentWriteBytes s pa bs secure).ports rfl
@[simp] theorem State.agentWriteBytes_fabIn (s : State) (pa : Nat) (bs : List Byte) (secure : Bool) : (State.agentWriteBytes s pa bs secure).fabIn = s.fabIn := (acts_agentWriteBytes s pa bs secure).fabIn rfl
@[simp] theorem State.agentWriteBytes_fabRem (s : State) (pa : Nat) (bs : List Byte) (secure : Bool) : (State.agentWriteBytes s pa bs secure).fabRem = s.fabRem := (acts_agentWriteBytes s pa bs secure).fabRem rfl
@[simp] theorem State.agentWriteBytes_fabDropped (s : State) (pa : Nat) (bs : List Byte) (secure : Bool) : (State.agentWriteBytes s pa bs secure).fabDropped = s.fabDropped := (acts_agentWriteBytes s pa bs secure).fabDropped rfl
@[simp] theorem State.agentWriteBytes_remote (s : State) (pa : Nat) (bs : List Byte) (secure : Bool) : (State.agentWriteBytes s pa bs secure).remote = s.remote := (acts_agentWriteBytes s pa bs secure).remote rfl
@[simp] theorem State.agentWriteBytes_sqNext (s : State) (pa : Nat) (bs : List Byte) (secure : Bool) : (State.agentWriteBytes s pa bs secure).sqNext = s.sqNext := (acts_agentWriteBytes s pa bs secure).sqNext rfl
@[simp] theorem State.agentWriteBytes_sqDone (s : State) (pa : Nat) (bs : List Byte) (secure : Bool) : (State.agentWriteBytes s pa bs secure).sqDone = s.sqDone := (acts_agentWriteBytes s pa bs secure).sqDone rfl
@[simp] theorem State.agentWriteBytes_slew (s : State) (pa : Nat) (bs : List Byte) (secure : Bool) : (State.agentWriteBytes s pa bs secure).slew = s.slew := (acts_agentWriteBytes s pa bs secure).slew rfl
@[simp] theorem State.agentWriteBytes_slewAcc (s : State) (pa : Nat) (bs : List Byte) (secure : Bool) : (State.agentWriteBytes s pa bs secure).slewAcc = s.slewAcc := (acts_agentWriteBytes s pa bs secure).slewAcc rfl
@[simp] theorem State.agentWriteBytes_pcieTags (s : State) (pa : Nat) (bs : List Byte) (secure : Bool) : (State.agentWriteBytes s pa bs secure).pcieTags = s.pcieTags := (acts_agentWriteBytes s pa bs secure).pcieTags rfl
@[simp] theorem State.agentWriteBytes_pcieOut (s : State) (pa : Nat) (bs : List Byte) (secure : Bool) : (State.agentWriteBytes s pa bs secure).pcieOut = s.pcieOut := (acts_agentWriteBytes s pa bs secure).pcieOut rfl
@[simp] theorem State.agentWriteBytes_pcieCpl (s : State) (pa : Nat) (bs : List Byte) (secure : Bool) : (State.agentWriteBytes s pa bs secure).pcieCpl = s.pcieCpl := (acts_agentWriteBytes s pa bs secure).pcieCpl rfl
@[simp] theorem State.agentWriteBytes_portReset (s : State) (pa : Nat) (bs : List Byte) (secure : Bool) : (State.agentWriteBytes s pa bs secure).portReset = s.portReset := (acts_agentWriteBytes s pa bs secure).portReset rfl
@[simp] theorem State.agentWriteBytes_pcieLate (s : State) (pa : Nat) (bs : List Byte) (secure : Bool) : (State.agentWriteBytes s pa bs secure).pcieLate = s.pcieLate := (acts_agentWriteBytes s pa bs secure).pcieLate rfl
@[simp] theorem State.agentWriteBytes_msiLost (s : State) (pa : Nat) (bs : List Byte) (secure : Bool) : (State.agentWriteBytes s pa bs secure).msiLost = s.msiLost := (acts_agentWriteBytes s pa bs secure).msiLost rfl
@[simp] theorem State.agentWriteBytes_ctxCache (s : State) (pa : Nat) (bs : List Byte) (secure : Bool) : (State.agentWriteBytes s pa bs secure).ctxCache = s.ctxCache := (acts_agentWriteBytes s pa bs secure).ctxCache rfl
@[simp] theorem State.agentWriteBytes_ioTlb (s : State) (pa : Nat) (bs : List Byte) (secure : Bool) : (State.agentWriteBytes s pa bs secure).ioTlb = s.ioTlb := (acts_agentWriteBytes s pa bs secure).ioTlb rfl
@[simp] theorem State.agentWriteBytes_jobs (s : State) (pa : Nat) (bs : List Byte) (secure : Bool) : (State.agentWriteBytes s pa bs secure).jobs = s.jobs := (acts_agentWriteBytes s pa bs secure).jobs rfl
@[simp] theorem State.agentWriteBytes_cphTurn (s : State) (pa : Nat) (bs : List Byte) (secure : Bool) : (State.agentWriteBytes s pa bs secure).cphTurn = s.cphTurn := (acts_agentWriteBytes s pa bs secure).cphTurn rfl
@[simp] theorem State.agentWriteBytes_cphKeys (s : State) (pa : Nat) (bs : List Byte) (secure : Bool) : (State.agentWriteBytes s pa bs secure).cphKeys = s.cphKeys := (acts_agentWriteBytes s pa bs secure).cphKeys rfl
@[simp] theorem State.agentWriteBytes_keys (s : State) (pa : Nat) (bs : List Byte) (secure : Bool) : (State.agentWriteBytes s pa bs secure).keys = s.keys := (acts_agentWriteBytes s pa bs secure).keys rfl
@[simp] theorem State.agentWriteBytes_keyNext (s : State) (pa : Nat) (bs : List Byte) (secure : Bool) : (State.agentWriteBytes s pa bs secure).keyNext = s.keyNext := (acts_agentWriteBytes s pa bs secure).keyNext rfl
@[simp] theorem State.agentWriteBytes_keyFreed (s : State) (pa : Nat) (bs : List Byte) (secure : Bool) : (State.agentWriteBytes s pa bs secure).keyFreed = s.keyFreed := (acts_agentWriteBytes s pa bs secure).keyFreed rfl
@[simp] theorem State.agentWriteBytes_srcHigh (s : State) (pa : Nat) (bs : List Byte) (secure : Bool) : (State.agentWriteBytes s pa bs secure).srcHigh = s.srcHigh := (acts_agentWriteBytes s pa bs secure).srcHigh rfl
@[simp] theorem State.agentWriteBytes_inServ (s : State) (pa : Nat) (bs : List Byte) (secure : Bool) : (State.agentWriteBytes s pa bs secure).inServ = s.inServ := (acts_agentWriteBytes s pa bs secure).inServ rfl
@[simp] theorem State.agentWriteBytes_nmiTaken (s : State) (pa : Nat) (bs : List Byte) (secure : Bool) : (State.agentWriteBytes s pa bs secure).nmiTaken = s.nmiTaken := (acts_agentWriteBytes s pa bs secure).nmiTaken rfl
@[simp] theorem State.agentWriteBytes_records (s : State) (pa : Nat) (bs : List Byte) (secure : Bool) : (State.agentWriteBytes s pa bs secure).records = s.records := (acts_agentWriteBytes s pa bs secure).records rfl
@[simp] theorem State.agentWriteBytes_limits (s : State) (pa : Nat) (bs : List Byte) (secure : Bool) : (State.agentWriteBytes s pa bs secure).limits = s.limits := (acts_agentWriteBytes s pa bs secure).limits rfl
@[simp] theorem State.agentWriteBytes_withheld (s : State) (pa : Nat) (bs : List Byte) (secure : Bool) : (State.agentWriteBytes s pa bs secure).withheld = s.withheld := (acts_agentWriteBytes s pa bs secure).withheld rfl
@[simp] theorem State.agentWriteBytes_errorN (s : State) (pa : Nat) (bs : List Byte) (secure : Bool) : (State.agentWriteBytes s pa bs secure).errorN = s.errorN := (acts_agentWriteBytes s pa bs secure).errorN rfl
@[simp] theorem State.agentWriteBytes_rstLevel (s : State) (pa : Nat) (bs : List Byte) (secure : Bool) : (State.agentWriteBytes s pa bs secure).rstLevel = s.rstLevel := (acts_agentWriteBytes s pa bs secure).rstLevel rfl
@[simp] theorem State.agentWriteBytes_relStep (s : State) (pa : Nat) (bs : List Byte) (secure : Bool) : (State.agentWriteBytes s pa bs secure).relStep = s.relStep := (acts_agentWriteBytes s pa bs secure).relStep rfl
@[simp] theorem State.agentWriteBytes_railOut (s : State) (pa : Nat) (bs : List Byte) (secure : Bool) : (State.agentWriteBytes s pa bs secure).railOut = s.railOut := (acts_agentWriteBytes s pa bs secure).railOut rfl
@[simp] theorem State.agentWriteBytes_pwrgood (s : State) (pa : Nat) (bs : List Byte) (secure : Bool) : (State.agentWriteBytes s pa bs secure).pwrgood = s.pwrgood := (acts_agentWriteBytes s pa bs secure).pwrgood rfl
@[simp] theorem State.agentWriteBytes_resetInLow (s : State) (pa : Nat) (bs : List Byte) (secure : Bool) : (State.agentWriteBytes s pa bs secure).resetInLow = s.resetInLow := (acts_agentWriteBytes s pa bs secure).resetInLow rfl
@[simp] theorem State.agentWriteBytes_prochotLow (s : State) (pa : Nat) (bs : List Byte) (secure : Bool) : (State.agentWriteBytes s pa bs secure).prochotLow = s.prochotLow := (acts_agentWriteBytes s pa bs secure).prochotLow rfl
@[simp] theorem State.agentWriteBytes_thermtrip (s : State) (pa : Nat) (bs : List Byte) (secure : Bool) : (State.agentWriteBytes s pa bs secure).thermtrip = s.thermtrip := (acts_agentWriteBytes s pa bs secure).thermtrip rfl
@[simp] theorem State.agentWriteBytes_readyPin (s : State) (pa : Nat) (bs : List Byte) (secure : Bool) : (State.agentWriteBytes s pa bs secure).readyPin = s.readyPin := (acts_agentWriteBytes s pa bs secure).readyPin rfl
@[simp] theorem State.agentWriteBytes_unlocked (s : State) (pa : Nat) (bs : List Byte) (secure : Bool) : (State.agentWriteBytes s pa bs secure).unlocked = s.unlocked := (acts_agentWriteBytes s pa bs secure).unlocked rfl
@[simp] theorem State.agentWriteBytes_regFailed (s : State) (pa : Nat) (bs : List Byte) (secure : Bool) : (State.agentWriteBytes s pa bs secure).regFailed = s.regFailed := (acts_agentWriteBytes s pa bs secure).regFailed rfl
@[simp] theorem State.agentWriteBytes_pGoal (s : State) (pa : Nat) (bs : List Byte) (secure : Bool) : (State.agentWriteBytes s pa bs secure).pGoal = s.pGoal := (acts_agentWriteBytes s pa bs secure).pGoal rfl
@[simp] theorem State.agentWriteBytes_pStop (s : State) (pa : Nat) (bs : List Byte) (secure : Bool) : (State.agentWriteBytes s pa bs secure).pStop = s.pStop := (acts_agentWriteBytes s pa bs secure).pStop rfl
@[simp] theorem State.agentWriteBytes_pkgIdle (s : State) (pa : Nat) (bs : List Byte) (secure : Bool) : (State.agentWriteBytes s pa bs secure).pkgIdle = s.pkgIdle := (acts_agentWriteBytes s pa bs secure).pkgIdle rfl
@[simp] theorem State.agentWriteBytes_rtcAcc (s : State) (pa : Nat) (bs : List Byte) (secure : Bool) : (State.agentWriteBytes s pa bs secure).rtcAcc = s.rtcAcc := (acts_agentWriteBytes s pa bs secure).rtcAcc rfl
@[simp] theorem State.agentWriteBytes_partStep (s : State) (pa : Nat) (bs : List Byte) (secure : Bool) : (State.agentWriteBytes s pa bs secure).partStep = s.partStep := (acts_agentWriteBytes s pa bs secure).partStep rfl
@[simp] theorem State.agentWriteBytes_fuses (s : State) (pa : Nat) (bs : List Byte) (secure : Bool) : (State.agentWriteBytes s pa bs secure).fuses = s.fuses := (acts_agentWriteBytes s pa bs secure).fuses rfl
@[simp] theorem State.agentWriteBytes_rcv (s : State) (pa : Nat) (bs : List Byte) (secure : Bool) : (State.agentWriteBytes s pa bs secure).rcv = s.rcv := (acts_agentWriteBytes s pa bs secure).rcv rfl
@[simp] theorem State.agentWriteBytes_bootStep (s : State) (pa : Nat) (bs : List Byte) (secure : Bool) : (State.agentWriteBytes s pa bs secure).bootStep = s.bootStep := (acts_agentWriteBytes s pa bs secure).bootStep rfl
@[simp] theorem State.agentWriteBytes_flash (s : State) (pa : Nat) (bs : List Byte) (secure : Bool) : (State.agentWriteBytes s pa bs secure).flash = s.flash := (acts_agentWriteBytes s pa bs secure).flash rfl
@[simp] theorem State.agentWriteBytes_ksCopy (s : State) (pa : Nat) (bs : List Byte) (secure : Bool) : (State.agentWriteBytes s pa bs secure).ksCopy = s.ksCopy := (acts_agentWriteBytes s pa bs secure).ksCopy rfl
@[simp] theorem State.agentWriteBytes_kek (s : State) (pa : Nat) (bs : List Byte) (secure : Bool) : (State.agentWriteBytes s pa bs secure).kek = s.kek := (acts_agentWriteBytes s pa bs secure).kek rfl
@[simp] theorem State.agentWriteBytes_ksErased (s : State) (pa : Nat) (bs : List Byte) (secure : Bool) : (State.agentWriteBytes s pa bs secure).ksErased = s.ksErased := (acts_agentWriteBytes s pa bs secure).ksErased rfl
@[simp] theorem State.agentWriteBytes_fmKeys (s : State) (pa : Nat) (bs : List Byte) (secure : Bool) : (State.agentWriteBytes s pa bs secure).fmKeys = s.fmKeys := (acts_agentWriteBytes s pa bs secure).fmKeys rfl
@[simp] theorem State.agentWriteBytes_boot (s : State) (pa : Nat) (bs : List Byte) (secure : Bool) : (State.agentWriteBytes s pa bs secure).boot = s.boot := (acts_agentWriteBytes s pa bs secure).boot rfl
@[simp] theorem State.agentWriteBytes_spRsp (s : State) (pa : Nat) (bs : List Byte) (secure : Bool) : (State.agentWriteBytes s pa bs secure).spRsp = s.spRsp := (acts_agentWriteBytes s pa bs secure).spRsp rfl
@[simp] theorem State.agentWriteBytes_evidence (s : State) (pa : Nat) (bs : List Byte) (secure : Bool) : (State.agentWriteBytes s pa bs secure).evidence = s.evidence := (acts_agentWriteBytes s pa bs secure).evidence rfl
@[simp] theorem State.agentWriteBytes_mac (s : State) (pa : Nat) (bs : List Byte) (secure : Bool) : (State.agentWriteBytes s pa bs secure).mac = s.mac := (acts_agentWriteBytes s pa bs secure).mac rfl
@[simp] theorem State.agentWriteBytes_pages (s : State) (pa : Nat) (bs : List Byte) (secure : Bool) : (State.agentWriteBytes s pa bs secure).pages = s.pages := (acts_agentWriteBytes s pa bs secure).pages rfl
@[simp] theorem State.agentWriteBytes_spd (s : State) (pa : Nat) (bs : List Byte) (secure : Bool) : (State.agentWriteBytes s pa bs secure).spd = s.spd := (acts_agentWriteBytes s pa bs secure).spd rfl
@[simp] theorem State.agentWriteBytes_traceBuf (s : State) (pa : Nat) (bs : List Byte) (secure : Bool) : (State.agentWriteBytes s pa bs secure).traceBuf = s.traceBuf := (acts_agentWriteBytes s pa bs secure).traceBuf rfl
@[simp] theorem State.agentWriteBytes_snaps (s : State) (pa : Nat) (bs : List Byte) (secure : Bool) : (State.agentWriteBytes s pa bs secure).snaps = s.snaps := (acts_agentWriteBytes s pa bs secure).snaps rfl
@[simp] theorem State.agentWriteBytes_ldl (s : State) (pa : Nat) (bs : List Byte) (secure : Bool) : (State.agentWriteBytes s pa bs secure).ldl = s.ldl := (acts_agentWriteBytes s pa bs secure).ldl rfl
@[simp] theorem State.agentWriteBytes_dbg (s : State) (pa : Nat) (bs : List Byte) (secure : Bool) : (State.agentWriteBytes s pa bs secure).dbg = s.dbg := (acts_agentWriteBytes s pa bs secure).dbg rfl
@[simp] theorem State.agentWriteBytes_lsio (s : State) (pa : Nat) (bs : List Byte) (secure : Bool) : (State.agentWriteBytes s pa bs secure).lsio = s.lsio := (acts_agentWriteBytes s pa bs secure).lsio rfl
@[simp] theorem State.agentWriteBytes_wdogNs (s : State) (pa : Nat) (bs : List Byte) (secure : Bool) : (State.agentWriteBytes s pa bs secure).wdogNs = s.wdogNs := (acts_agentWriteBytes s pa bs secure).wdogNs rfl
@[simp] theorem State.agentWriteBytes_cycAcc (s : State) (pa : Nat) (bs : List Byte) (secure : Bool) : (State.agentWriteBytes s pa bs secure).cycAcc = s.cycAcc := (acts_agentWriteBytes s pa bs secure).cycAcc rfl
@[simp] theorem State.rd_agentWriteBytes (s : State) (pa : Nat) (bs : List Byte) (secure : Bool) (q : RegId) (j : Nat) (hq : Nat.testBit 75557863725914323419584 q.num = false) : (State.agentWriteBytes s pa bs secure).rd q j = s.rd q j := (acts_agentWriteBytes s pa bs secure).reg q j (hq)
@[simp] theorem State.fld_agentWriteBytes (s : State) (pa : Nat) (bs : List Byte) (secure : Bool) (F : Fld) (j : Nat) (hq : Nat.testBit 75557863725914323419584 F.reg.num = false) : (State.agentWriteBytes s pa bs secure).fld F j = s.fld F j := (acts_agentWriteBytes s pa bs secure).fld F j (hq)

@[simp] theorem State.trace_pending (s : State) (c : Nat) (typ : Nat) (info : Nat) (addr : Nat) : (State.trace s c typ info addr).pending = s.pending := (acts_trace s c typ info addr).pending rfl
@[simp] theorem State.trace_free (s : State) (c : Nat) (typ : Nat) (info : Nat) (addr : Nat) : (State.trace s c typ info addr).free = s.free := (acts_trace s c typ info addr).free rfl
@[simp] theorem State.trace_stamp (s : State) (c : Nat) (typ : Nat) (info : Nat) (addr : Nat) : (State.trace s c typ info addr).stamp = s.stamp := (acts_trace s c typ info addr).stamp rfl
@[simp] theorem State.trace_dtime (s : State) (c : Nat) (typ : Nat) (info : Nat) (addr : Nat) : (State.trace s c typ info addr).dtime = s.dtime := (acts_trace s c typ info addr).dtime rfl
@[simp] theorem State.trace_rsp (s : State) (c : Nat) (typ : Nat) (info : Nat) (addr : Nat) : (State.trace s c typ info addr).rsp = s.rsp := (acts_trace s c typ info addr).rsp rfl
@[simp] theorem State.trace_mem (s : State) (c : Nat) (typ : Nat) (info : Nat) (addr : Nat) : (State.trace s c typ info addr).mem = s.mem := (acts_trace s c typ info addr).mem rfl
@[simp] theorem State.trace_memPoison (s : State) (c : Nat) (typ : Nat) (info : Nat) (addr : Nat) : (State.trace s c typ info addr).memPoison = s.memPoison := (acts_trace s c typ info addr).memPoison rfl
@[simp] theorem State.trace_chans (s : State) (c : Nat) (typ : Nat) (info : Nat) (addr : Nat) : (State.trace s c typ info addr).chans = s.chans := (acts_trace s c typ info addr).chans rfl
@[simp] theorem State.trace_mcRsp (s : State) (c : Nat) (typ : Nat) (info : Nat) (addr : Nat) : (State.trace s c typ info addr).mcRsp = s.mcRsp := (acts_trace s c typ info addr).mcRsp rfl
@[simp] theorem State.trace_opt (s : State) (c : Nat) (typ : Nat) (info : Nat) (addr : Nat) : (State.trace s c typ info addr).opt = s.opt := (acts_trace s c typ info addr).opt rfl
@[simp] theorem State.trace_bootSrc (s : State) (c : Nat) (typ : Nat) (info : Nat) (addr : Nat) : (State.trace s c typ info addr).bootSrc = s.bootSrc := (acts_trace s c typ info addr).bootSrc rfl
@[simp] theorem State.trace_recovSel (s : State) (c : Nat) (typ : Nat) (info : Nat) (addr : Nat) : (State.trace s c typ info addr).recovSel = s.recovSel := (acts_trace s c typ info addr).recovSel rfl
@[simp] theorem State.trace_l3 (s : State) (c : Nat) (typ : Nat) (info : Nat) (addr : Nat) : (State.trace s c typ info addr).l3 = s.l3 := (acts_trace s c typ info addr).l3 rfl
@[simp] theorem State.trace_depvb (s : State) (c : Nat) (typ : Nat) (info : Nat) (addr : Nat) : (State.trace s c typ info addr).depvb = s.depvb := (acts_trace s c typ info addr).depvb rfl
@[simp] theorem State.trace_sieve (s : State) (c : Nat) (typ : Nat) (info : Nat) (addr : Nat) : (State.trace s c typ info addr).sieve = s.sieve := (acts_trace s c typ info addr).sieve rfl
@[simp] theorem State.trace_trk (s : State) (c : Nat) (typ : Nat) (info : Nat) (addr : Nat) : (State.trace s c typ info addr).trk = s.trk := (acts_trace s c typ info addr).trk rfl
@[simp] theorem State.trace_fair (s : State) (c : Nat) (typ : Nat) (info : Nat) (addr : Nat) : (State.trace s c typ info addr).fair = s.fair := (acts_trace s c typ info addr).fair rfl
@[simp] theorem State.trace_slots (s : State) (c : Nat) (typ : Nat) (info : Nat) (addr : Nat) : (State.trace s c typ info addr).slots = s.slots := (acts_trace s c typ info addr).slots rfl
@[simp] theorem State.trace_agentReqs (s : State) (c : Nat) (typ : Nat) (info : Nat) (addr : Nat) : (State.trace s c typ info addr).agentReqs = s.agentReqs := (acts_trace s c typ info addr).agentReqs rfl
@[simp] theorem State.trace_ghosts (s : State) (c : Nat) (typ : Nat) (info : Nat) (addr : Nat) : (State.trace s c typ info addr).ghosts = s.ghosts := (acts_trace s c typ info addr).ghosts rfl
@[simp] theorem State.trace_mesh (s : State) (c : Nat) (typ : Nat) (info : Nat) (addr : Nat) : (State.trace s c typ info addr).mesh = s.mesh := (acts_trace s c typ info addr).mesh rfl
@[simp] theorem State.trace_txns (s : State) (c : Nat) (typ : Nat) (info : Nat) (addr : Nat) : (State.trace s c typ info addr).txns = s.txns := (acts_trace s c typ info addr).txns rfl
@[simp] theorem State.trace_linkStopped (s : State) (c : Nat) (typ : Nat) (info : Nat) (addr : Nat) : (State.trace s c typ info addr).linkStopped = s.linkStopped := (acts_trace s c typ info addr).linkStopped rfl
@[simp] theorem State.trace_lidHeld (s : State) (c : Nat) (typ : Nat) (info : Nat) (addr : Nat) : (State.trace s c typ info addr).lidHeld = s.lidHeld := (acts_trace s c typ info addr).lidHeld rfl
@[simp] theorem State.trace_pfw (s : State) (c : Nat) (typ : Nat) (info : Nat) (addr : Nat) : (State.trace s c typ info addr).pfw = s.pfw := (acts_trace s c typ info addr).pfw rfl
@[simp] theorem State.trace_wtCache (s : State) (c : Nat) (typ : Nat) (info : Nat) (addr : Nat) : (State.trace s c typ info addr).wtCache = s.wtCache := (acts_trace s c typ info addr).wtCache rfl
@[simp] theorem State.trace_hartPart (s : State) (c : Nat) (typ : Nat) (info : Nat) (addr : Nat) : (State.trace s c typ info addr).hartPart = s.hartPart := (acts_trace s c typ info addr).hartPart rfl
@[simp] theorem State.trace_spn (s : State) (c : Nat) (typ : Nat) (info : Nat) (addr : Nat) : (State.trace s c typ info addr).spn = s.spn := (acts_trace s c typ info addr).spn rfl
@[simp] theorem State.trace_spnChanged (s : State) (c : Nat) (typ : Nat) (info : Nat) (addr : Nat) : (State.trace s c typ info addr).spnChanged = s.spnChanged := (acts_trace s c typ info addr).spnChanged rfl
@[simp] theorem State.trace_jrnRecs (s : State) (c : Nat) (typ : Nat) (info : Nat) (addr : Nat) : (State.trace s c typ info addr).jrnRecs = s.jrnRecs := (acts_trace s c typ info addr).jrnRecs rfl
@[simp] theorem State.trace_pubs (s : State) (c : Nat) (typ : Nat) (info : Nat) (addr : Nat) : (State.trace s c typ info addr).pubs = s.pubs := (acts_trace s c typ info addr).pubs rfl
@[simp] theorem State.trace_pubFlits (s : State) (c : Nat) (typ : Nat) (info : Nat) (addr : Nat) : (State.trace s c typ info addr).pubFlits = s.pubFlits := (acts_trace s c typ info addr).pubFlits rfl
@[simp] theorem State.trace_repl (s : State) (c : Nat) (typ : Nat) (info : Nat) (addr : Nat) : (State.trace s c typ info addr).repl = s.repl := (acts_trace s c typ info addr).repl rfl
@[simp] theorem State.trace_ports (s : State) (c : Nat) (typ : Nat) (info : Nat) (addr : Nat) : (State.trace s c typ info addr).ports = s.ports := (acts_trace s c typ info addr).ports rfl
@[simp] theorem State.trace_fabIn (s : State) (c : Nat) (typ : Nat) (info : Nat) (addr : Nat) : (State.trace s c typ info addr).fabIn = s.fabIn := (acts_trace s c typ info addr).fabIn rfl
@[simp] theorem State.trace_fabRem (s : State) (c : Nat) (typ : Nat) (info : Nat) (addr : Nat) : (State.trace s c typ info addr).fabRem = s.fabRem := (acts_trace s c typ info addr).fabRem rfl
@[simp] theorem State.trace_fabDropped (s : State) (c : Nat) (typ : Nat) (info : Nat) (addr : Nat) : (State.trace s c typ info addr).fabDropped = s.fabDropped := (acts_trace s c typ info addr).fabDropped rfl
@[simp] theorem State.trace_remote (s : State) (c : Nat) (typ : Nat) (info : Nat) (addr : Nat) : (State.trace s c typ info addr).remote = s.remote := (acts_trace s c typ info addr).remote rfl
@[simp] theorem State.trace_sqNext (s : State) (c : Nat) (typ : Nat) (info : Nat) (addr : Nat) : (State.trace s c typ info addr).sqNext = s.sqNext := (acts_trace s c typ info addr).sqNext rfl
@[simp] theorem State.trace_sqDone (s : State) (c : Nat) (typ : Nat) (info : Nat) (addr : Nat) : (State.trace s c typ info addr).sqDone = s.sqDone := (acts_trace s c typ info addr).sqDone rfl
@[simp] theorem State.trace_slew (s : State) (c : Nat) (typ : Nat) (info : Nat) (addr : Nat) : (State.trace s c typ info addr).slew = s.slew := (acts_trace s c typ info addr).slew rfl
@[simp] theorem State.trace_slewAcc (s : State) (c : Nat) (typ : Nat) (info : Nat) (addr : Nat) : (State.trace s c typ info addr).slewAcc = s.slewAcc := (acts_trace s c typ info addr).slewAcc rfl
@[simp] theorem State.trace_pcieTags (s : State) (c : Nat) (typ : Nat) (info : Nat) (addr : Nat) : (State.trace s c typ info addr).pcieTags = s.pcieTags := (acts_trace s c typ info addr).pcieTags rfl
@[simp] theorem State.trace_pcieOut (s : State) (c : Nat) (typ : Nat) (info : Nat) (addr : Nat) : (State.trace s c typ info addr).pcieOut = s.pcieOut := (acts_trace s c typ info addr).pcieOut rfl
@[simp] theorem State.trace_pcieCpl (s : State) (c : Nat) (typ : Nat) (info : Nat) (addr : Nat) : (State.trace s c typ info addr).pcieCpl = s.pcieCpl := (acts_trace s c typ info addr).pcieCpl rfl
@[simp] theorem State.trace_portReset (s : State) (c : Nat) (typ : Nat) (info : Nat) (addr : Nat) : (State.trace s c typ info addr).portReset = s.portReset := (acts_trace s c typ info addr).portReset rfl
@[simp] theorem State.trace_pcieLate (s : State) (c : Nat) (typ : Nat) (info : Nat) (addr : Nat) : (State.trace s c typ info addr).pcieLate = s.pcieLate := (acts_trace s c typ info addr).pcieLate rfl
@[simp] theorem State.trace_msiLost (s : State) (c : Nat) (typ : Nat) (info : Nat) (addr : Nat) : (State.trace s c typ info addr).msiLost = s.msiLost := (acts_trace s c typ info addr).msiLost rfl
@[simp] theorem State.trace_ctxCache (s : State) (c : Nat) (typ : Nat) (info : Nat) (addr : Nat) : (State.trace s c typ info addr).ctxCache = s.ctxCache := (acts_trace s c typ info addr).ctxCache rfl
@[simp] theorem State.trace_ioTlb (s : State) (c : Nat) (typ : Nat) (info : Nat) (addr : Nat) : (State.trace s c typ info addr).ioTlb = s.ioTlb := (acts_trace s c typ info addr).ioTlb rfl
@[simp] theorem State.trace_jobs (s : State) (c : Nat) (typ : Nat) (info : Nat) (addr : Nat) : (State.trace s c typ info addr).jobs = s.jobs := (acts_trace s c typ info addr).jobs rfl
@[simp] theorem State.trace_cphTurn (s : State) (c : Nat) (typ : Nat) (info : Nat) (addr : Nat) : (State.trace s c typ info addr).cphTurn = s.cphTurn := (acts_trace s c typ info addr).cphTurn rfl
@[simp] theorem State.trace_cphKeys (s : State) (c : Nat) (typ : Nat) (info : Nat) (addr : Nat) : (State.trace s c typ info addr).cphKeys = s.cphKeys := (acts_trace s c typ info addr).cphKeys rfl
@[simp] theorem State.trace_keys (s : State) (c : Nat) (typ : Nat) (info : Nat) (addr : Nat) : (State.trace s c typ info addr).keys = s.keys := (acts_trace s c typ info addr).keys rfl
@[simp] theorem State.trace_keyNext (s : State) (c : Nat) (typ : Nat) (info : Nat) (addr : Nat) : (State.trace s c typ info addr).keyNext = s.keyNext := (acts_trace s c typ info addr).keyNext rfl
@[simp] theorem State.trace_keyFreed (s : State) (c : Nat) (typ : Nat) (info : Nat) (addr : Nat) : (State.trace s c typ info addr).keyFreed = s.keyFreed := (acts_trace s c typ info addr).keyFreed rfl
@[simp] theorem State.trace_srcHigh (s : State) (c : Nat) (typ : Nat) (info : Nat) (addr : Nat) : (State.trace s c typ info addr).srcHigh = s.srcHigh := (acts_trace s c typ info addr).srcHigh rfl
@[simp] theorem State.trace_inServ (s : State) (c : Nat) (typ : Nat) (info : Nat) (addr : Nat) : (State.trace s c typ info addr).inServ = s.inServ := (acts_trace s c typ info addr).inServ rfl
@[simp] theorem State.trace_nmiTaken (s : State) (c : Nat) (typ : Nat) (info : Nat) (addr : Nat) : (State.trace s c typ info addr).nmiTaken = s.nmiTaken := (acts_trace s c typ info addr).nmiTaken rfl
@[simp] theorem State.trace_records (s : State) (c : Nat) (typ : Nat) (info : Nat) (addr : Nat) : (State.trace s c typ info addr).records = s.records := (acts_trace s c typ info addr).records rfl
@[simp] theorem State.trace_limits (s : State) (c : Nat) (typ : Nat) (info : Nat) (addr : Nat) : (State.trace s c typ info addr).limits = s.limits := (acts_trace s c typ info addr).limits rfl
@[simp] theorem State.trace_withheld (s : State) (c : Nat) (typ : Nat) (info : Nat) (addr : Nat) : (State.trace s c typ info addr).withheld = s.withheld := (acts_trace s c typ info addr).withheld rfl
@[simp] theorem State.trace_errorN (s : State) (c : Nat) (typ : Nat) (info : Nat) (addr : Nat) : (State.trace s c typ info addr).errorN = s.errorN := (acts_trace s c typ info addr).errorN rfl
@[simp] theorem State.trace_rstLevel (s : State) (c : Nat) (typ : Nat) (info : Nat) (addr : Nat) : (State.trace s c typ info addr).rstLevel = s.rstLevel := (acts_trace s c typ info addr).rstLevel rfl
@[simp] theorem State.trace_relStep (s : State) (c : Nat) (typ : Nat) (info : Nat) (addr : Nat) : (State.trace s c typ info addr).relStep = s.relStep := (acts_trace s c typ info addr).relStep rfl
@[simp] theorem State.trace_railOut (s : State) (c : Nat) (typ : Nat) (info : Nat) (addr : Nat) : (State.trace s c typ info addr).railOut = s.railOut := (acts_trace s c typ info addr).railOut rfl
@[simp] theorem State.trace_pwrgood (s : State) (c : Nat) (typ : Nat) (info : Nat) (addr : Nat) : (State.trace s c typ info addr).pwrgood = s.pwrgood := (acts_trace s c typ info addr).pwrgood rfl
@[simp] theorem State.trace_resetInLow (s : State) (c : Nat) (typ : Nat) (info : Nat) (addr : Nat) : (State.trace s c typ info addr).resetInLow = s.resetInLow := (acts_trace s c typ info addr).resetInLow rfl
@[simp] theorem State.trace_prochotLow (s : State) (c : Nat) (typ : Nat) (info : Nat) (addr : Nat) : (State.trace s c typ info addr).prochotLow = s.prochotLow := (acts_trace s c typ info addr).prochotLow rfl
@[simp] theorem State.trace_thermtrip (s : State) (c : Nat) (typ : Nat) (info : Nat) (addr : Nat) : (State.trace s c typ info addr).thermtrip = s.thermtrip := (acts_trace s c typ info addr).thermtrip rfl
@[simp] theorem State.trace_readyPin (s : State) (c : Nat) (typ : Nat) (info : Nat) (addr : Nat) : (State.trace s c typ info addr).readyPin = s.readyPin := (acts_trace s c typ info addr).readyPin rfl
@[simp] theorem State.trace_unlocked (s : State) (c : Nat) (typ : Nat) (info : Nat) (addr : Nat) : (State.trace s c typ info addr).unlocked = s.unlocked := (acts_trace s c typ info addr).unlocked rfl
@[simp] theorem State.trace_regFailed (s : State) (c : Nat) (typ : Nat) (info : Nat) (addr : Nat) : (State.trace s c typ info addr).regFailed = s.regFailed := (acts_trace s c typ info addr).regFailed rfl
@[simp] theorem State.trace_pGoal (s : State) (c : Nat) (typ : Nat) (info : Nat) (addr : Nat) : (State.trace s c typ info addr).pGoal = s.pGoal := (acts_trace s c typ info addr).pGoal rfl
@[simp] theorem State.trace_pStop (s : State) (c : Nat) (typ : Nat) (info : Nat) (addr : Nat) : (State.trace s c typ info addr).pStop = s.pStop := (acts_trace s c typ info addr).pStop rfl
@[simp] theorem State.trace_pkgIdle (s : State) (c : Nat) (typ : Nat) (info : Nat) (addr : Nat) : (State.trace s c typ info addr).pkgIdle = s.pkgIdle := (acts_trace s c typ info addr).pkgIdle rfl
@[simp] theorem State.trace_rtcAcc (s : State) (c : Nat) (typ : Nat) (info : Nat) (addr : Nat) : (State.trace s c typ info addr).rtcAcc = s.rtcAcc := (acts_trace s c typ info addr).rtcAcc rfl
@[simp] theorem State.trace_partStep (s : State) (c : Nat) (typ : Nat) (info : Nat) (addr : Nat) : (State.trace s c typ info addr).partStep = s.partStep := (acts_trace s c typ info addr).partStep rfl
@[simp] theorem State.trace_fuses (s : State) (c : Nat) (typ : Nat) (info : Nat) (addr : Nat) : (State.trace s c typ info addr).fuses = s.fuses := (acts_trace s c typ info addr).fuses rfl
@[simp] theorem State.trace_rcv (s : State) (c : Nat) (typ : Nat) (info : Nat) (addr : Nat) : (State.trace s c typ info addr).rcv = s.rcv := (acts_trace s c typ info addr).rcv rfl
@[simp] theorem State.trace_bootStep (s : State) (c : Nat) (typ : Nat) (info : Nat) (addr : Nat) : (State.trace s c typ info addr).bootStep = s.bootStep := (acts_trace s c typ info addr).bootStep rfl
@[simp] theorem State.trace_flash (s : State) (c : Nat) (typ : Nat) (info : Nat) (addr : Nat) : (State.trace s c typ info addr).flash = s.flash := (acts_trace s c typ info addr).flash rfl
@[simp] theorem State.trace_ksCopy (s : State) (c : Nat) (typ : Nat) (info : Nat) (addr : Nat) : (State.trace s c typ info addr).ksCopy = s.ksCopy := (acts_trace s c typ info addr).ksCopy rfl
@[simp] theorem State.trace_kek (s : State) (c : Nat) (typ : Nat) (info : Nat) (addr : Nat) : (State.trace s c typ info addr).kek = s.kek := (acts_trace s c typ info addr).kek rfl
@[simp] theorem State.trace_ksErased (s : State) (c : Nat) (typ : Nat) (info : Nat) (addr : Nat) : (State.trace s c typ info addr).ksErased = s.ksErased := (acts_trace s c typ info addr).ksErased rfl
@[simp] theorem State.trace_fmKeys (s : State) (c : Nat) (typ : Nat) (info : Nat) (addr : Nat) : (State.trace s c typ info addr).fmKeys = s.fmKeys := (acts_trace s c typ info addr).fmKeys rfl
@[simp] theorem State.trace_boot (s : State) (c : Nat) (typ : Nat) (info : Nat) (addr : Nat) : (State.trace s c typ info addr).boot = s.boot := (acts_trace s c typ info addr).boot rfl
@[simp] theorem State.trace_spRsp (s : State) (c : Nat) (typ : Nat) (info : Nat) (addr : Nat) : (State.trace s c typ info addr).spRsp = s.spRsp := (acts_trace s c typ info addr).spRsp rfl
@[simp] theorem State.trace_evidence (s : State) (c : Nat) (typ : Nat) (info : Nat) (addr : Nat) : (State.trace s c typ info addr).evidence = s.evidence := (acts_trace s c typ info addr).evidence rfl
@[simp] theorem State.trace_mac (s : State) (c : Nat) (typ : Nat) (info : Nat) (addr : Nat) : (State.trace s c typ info addr).mac = s.mac := (acts_trace s c typ info addr).mac rfl
@[simp] theorem State.trace_pages (s : State) (c : Nat) (typ : Nat) (info : Nat) (addr : Nat) : (State.trace s c typ info addr).pages = s.pages := (acts_trace s c typ info addr).pages rfl
@[simp] theorem State.trace_spd (s : State) (c : Nat) (typ : Nat) (info : Nat) (addr : Nat) : (State.trace s c typ info addr).spd = s.spd := (acts_trace s c typ info addr).spd rfl
@[simp] theorem State.trace_snaps (s : State) (c : Nat) (typ : Nat) (info : Nat) (addr : Nat) : (State.trace s c typ info addr).snaps = s.snaps := (acts_trace s c typ info addr).snaps rfl
@[simp] theorem State.trace_ldl (s : State) (c : Nat) (typ : Nat) (info : Nat) (addr : Nat) : (State.trace s c typ info addr).ldl = s.ldl := (acts_trace s c typ info addr).ldl rfl
@[simp] theorem State.trace_lsio (s : State) (c : Nat) (typ : Nat) (info : Nat) (addr : Nat) : (State.trace s c typ info addr).lsio = s.lsio := (acts_trace s c typ info addr).lsio rfl
@[simp] theorem State.trace_wdogNs (s : State) (c : Nat) (typ : Nat) (info : Nat) (addr : Nat) : (State.trace s c typ info addr).wdogNs = s.wdogNs := (acts_trace s c typ info addr).wdogNs rfl
@[simp] theorem State.trace_cycAcc (s : State) (c : Nat) (typ : Nat) (info : Nat) (addr : Nat) : (State.trace s c typ info addr).cycAcc = s.cycAcc := (acts_trace s c typ info addr).cycAcc rfl
@[simp] theorem State.rd_trace (s : State) (c : Nat) (typ : Nat) (info : Nat) (addr : Nat) (q : RegId) (j : Nat) (hq : Nat.testBit 649037107392411317292226364571840 q.num = false) : (State.trace s c typ info addr).rd q j = s.rd q j := (acts_trace s c typ info addr).reg q j (hq)
@[simp] theorem State.fld_trace (s : State) (c : Nat) (typ : Nat) (info : Nat) (addr : Nat) (F : Fld) (j : Nat) (hq : Nat.testBit 649037107392411317292226364571840 F.reg.num = false) : (State.trace s c typ info addr).fld F j = s.fld F j := (acts_trace s c typ info addr).fld F j (hq)

@[simp] theorem State.pairLog_pending (s : State) (c : Nat) (typ : Nat) (value : W) : (State.pairLog s c typ value).pending = s.pending := (acts_pairLog s c typ value).pending rfl
@[simp] theorem State.pairLog_free (s : State) (c : Nat) (typ : Nat) (value : W) : (State.pairLog s c typ value).free = s.free := (acts_pairLog s c typ value).free rfl
@[simp] theorem State.pairLog_stamp (s : State) (c : Nat) (typ : Nat) (value : W) : (State.pairLog s c typ value).stamp = s.stamp := (acts_pairLog s c typ value).stamp rfl
@[simp] theorem State.pairLog_dtime (s : State) (c : Nat) (typ : Nat) (value : W) : (State.pairLog s c typ value).dtime = s.dtime := (acts_pairLog s c typ value).dtime rfl
@[simp] theorem State.pairLog_rsp (s : State) (c : Nat) (typ : Nat) (value : W) : (State.pairLog s c typ value).rsp = s.rsp := (acts_pairLog s c typ value).rsp rfl
@[simp] theorem State.pairLog_cores (s : State) (c : Nat) (typ : Nat) (value : W) : (State.pairLog s c typ value).cores = s.cores := (acts_pairLog s c typ value).cores rfl
@[simp] theorem State.pairLog_mem (s : State) (c : Nat) (typ : Nat) (value : W) : (State.pairLog s c typ value).mem = s.mem := (acts_pairLog s c typ value).mem rfl
@[simp] theorem State.pairLog_memPoison (s : State) (c : Nat) (typ : Nat) (value : W) : (State.pairLog s c typ value).memPoison = s.memPoison := (acts_pairLog s c typ value).memPoison rfl
@[simp] theorem State.pairLog_chans (s : State) (c : Nat) (typ : Nat) (value : W) : (State.pairLog s c typ value).chans = s.chans := (acts_pairLog s c typ value).chans rfl
@[simp] theorem State.pairLog_mcRsp (s : State) (c : Nat) (typ : Nat) (value : W) : (State.pairLog s c typ value).mcRsp = s.mcRsp := (acts_pairLog s c typ value).mcRsp rfl
@[simp] theorem State.pairLog_opt (s : State) (c : Nat) (typ : Nat) (value : W) : (State.pairLog s c typ value).opt = s.opt := (acts_pairLog s c typ value).opt rfl
@[simp] theorem State.pairLog_bootSrc (s : State) (c : Nat) (typ : Nat) (value : W) : (State.pairLog s c typ value).bootSrc = s.bootSrc := (acts_pairLog s c typ value).bootSrc rfl
@[simp] theorem State.pairLog_recovSel (s : State) (c : Nat) (typ : Nat) (value : W) : (State.pairLog s c typ value).recovSel = s.recovSel := (acts_pairLog s c typ value).recovSel rfl
@[simp] theorem State.pairLog_l3 (s : State) (c : Nat) (typ : Nat) (value : W) : (State.pairLog s c typ value).l3 = s.l3 := (acts_pairLog s c typ value).l3 rfl
@[simp] theorem State.pairLog_depvb (s : State) (c : Nat) (typ : Nat) (value : W) : (State.pairLog s c typ value).depvb = s.depvb := (acts_pairLog s c typ value).depvb rfl
@[simp] theorem State.pairLog_sieve (s : State) (c : Nat) (typ : Nat) (value : W) : (State.pairLog s c typ value).sieve = s.sieve := (acts_pairLog s c typ value).sieve rfl
@[simp] theorem State.pairLog_trk (s : State) (c : Nat) (typ : Nat) (value : W) : (State.pairLog s c typ value).trk = s.trk := (acts_pairLog s c typ value).trk rfl
@[simp] theorem State.pairLog_fair (s : State) (c : Nat) (typ : Nat) (value : W) : (State.pairLog s c typ value).fair = s.fair := (acts_pairLog s c typ value).fair rfl
@[simp] theorem State.pairLog_slots (s : State) (c : Nat) (typ : Nat) (value : W) : (State.pairLog s c typ value).slots = s.slots := (acts_pairLog s c typ value).slots rfl
@[simp] theorem State.pairLog_agentReqs (s : State) (c : Nat) (typ : Nat) (value : W) : (State.pairLog s c typ value).agentReqs = s.agentReqs := (acts_pairLog s c typ value).agentReqs rfl
@[simp] theorem State.pairLog_ghosts (s : State) (c : Nat) (typ : Nat) (value : W) : (State.pairLog s c typ value).ghosts = s.ghosts := (acts_pairLog s c typ value).ghosts rfl
@[simp] theorem State.pairLog_mesh (s : State) (c : Nat) (typ : Nat) (value : W) : (State.pairLog s c typ value).mesh = s.mesh := (acts_pairLog s c typ value).mesh rfl
@[simp] theorem State.pairLog_txns (s : State) (c : Nat) (typ : Nat) (value : W) : (State.pairLog s c typ value).txns = s.txns := (acts_pairLog s c typ value).txns rfl
@[simp] theorem State.pairLog_linkStopped (s : State) (c : Nat) (typ : Nat) (value : W) : (State.pairLog s c typ value).linkStopped = s.linkStopped := (acts_pairLog s c typ value).linkStopped rfl
@[simp] theorem State.pairLog_lidHeld (s : State) (c : Nat) (typ : Nat) (value : W) : (State.pairLog s c typ value).lidHeld = s.lidHeld := (acts_pairLog s c typ value).lidHeld rfl
@[simp] theorem State.pairLog_pfw (s : State) (c : Nat) (typ : Nat) (value : W) : (State.pairLog s c typ value).pfw = s.pfw := (acts_pairLog s c typ value).pfw rfl
@[simp] theorem State.pairLog_wtCache (s : State) (c : Nat) (typ : Nat) (value : W) : (State.pairLog s c typ value).wtCache = s.wtCache := (acts_pairLog s c typ value).wtCache rfl
@[simp] theorem State.pairLog_hartPart (s : State) (c : Nat) (typ : Nat) (value : W) : (State.pairLog s c typ value).hartPart = s.hartPart := (acts_pairLog s c typ value).hartPart rfl
@[simp] theorem State.pairLog_spn (s : State) (c : Nat) (typ : Nat) (value : W) : (State.pairLog s c typ value).spn = s.spn := (acts_pairLog s c typ value).spn rfl
@[simp] theorem State.pairLog_spnChanged (s : State) (c : Nat) (typ : Nat) (value : W) : (State.pairLog s c typ value).spnChanged = s.spnChanged := (acts_pairLog s c typ value).spnChanged rfl
@[simp] theorem State.pairLog_jrnRes (s : State) (c : Nat) (typ : Nat) (value : W) : (State.pairLog s c typ value).jrnRes = s.jrnRes := (acts_pairLog s c typ value).jrnRes rfl
@[simp] theorem State.pairLog_jrnRecs (s : State) (c : Nat) (typ : Nat) (value : W) : (State.pairLog s c typ value).jrnRecs = s.jrnRecs := (acts_pairLog s c typ value).jrnRecs rfl
@[simp] theorem State.pairLog_pubs (s : State) (c : Nat) (typ : Nat) (value : W) : (State.pairLog s c typ value).pubs = s.pubs := (acts_pairLog s c typ value).pubs rfl
@[simp] theorem State.pairLog_pubFlits (s : State) (c : Nat) (typ : Nat) (value : W) : (State.pairLog s c typ value).pubFlits = s.pubFlits := (acts_pairLog s c typ value).pubFlits rfl
@[simp] theorem State.pairLog_repl (s : State) (c : Nat) (typ : Nat) (value : W) : (State.pairLog s c typ value).repl = s.repl := (acts_pairLog s c typ value).repl rfl
@[simp] theorem State.pairLog_ports (s : State) (c : Nat) (typ : Nat) (value : W) : (State.pairLog s c typ value).ports = s.ports := (acts_pairLog s c typ value).ports rfl
@[simp] theorem State.pairLog_fabIn (s : State) (c : Nat) (typ : Nat) (value : W) : (State.pairLog s c typ value).fabIn = s.fabIn := (acts_pairLog s c typ value).fabIn rfl
@[simp] theorem State.pairLog_fabRem (s : State) (c : Nat) (typ : Nat) (value : W) : (State.pairLog s c typ value).fabRem = s.fabRem := (acts_pairLog s c typ value).fabRem rfl
@[simp] theorem State.pairLog_fabDropped (s : State) (c : Nat) (typ : Nat) (value : W) : (State.pairLog s c typ value).fabDropped = s.fabDropped := (acts_pairLog s c typ value).fabDropped rfl
@[simp] theorem State.pairLog_remote (s : State) (c : Nat) (typ : Nat) (value : W) : (State.pairLog s c typ value).remote = s.remote := (acts_pairLog s c typ value).remote rfl
@[simp] theorem State.pairLog_sqNext (s : State) (c : Nat) (typ : Nat) (value : W) : (State.pairLog s c typ value).sqNext = s.sqNext := (acts_pairLog s c typ value).sqNext rfl
@[simp] theorem State.pairLog_sqDone (s : State) (c : Nat) (typ : Nat) (value : W) : (State.pairLog s c typ value).sqDone = s.sqDone := (acts_pairLog s c typ value).sqDone rfl
@[simp] theorem State.pairLog_slew (s : State) (c : Nat) (typ : Nat) (value : W) : (State.pairLog s c typ value).slew = s.slew := (acts_pairLog s c typ value).slew rfl
@[simp] theorem State.pairLog_slewAcc (s : State) (c : Nat) (typ : Nat) (value : W) : (State.pairLog s c typ value).slewAcc = s.slewAcc := (acts_pairLog s c typ value).slewAcc rfl
@[simp] theorem State.pairLog_pcieTags (s : State) (c : Nat) (typ : Nat) (value : W) : (State.pairLog s c typ value).pcieTags = s.pcieTags := (acts_pairLog s c typ value).pcieTags rfl
@[simp] theorem State.pairLog_pcieOut (s : State) (c : Nat) (typ : Nat) (value : W) : (State.pairLog s c typ value).pcieOut = s.pcieOut := (acts_pairLog s c typ value).pcieOut rfl
@[simp] theorem State.pairLog_pcieCpl (s : State) (c : Nat) (typ : Nat) (value : W) : (State.pairLog s c typ value).pcieCpl = s.pcieCpl := (acts_pairLog s c typ value).pcieCpl rfl
@[simp] theorem State.pairLog_portReset (s : State) (c : Nat) (typ : Nat) (value : W) : (State.pairLog s c typ value).portReset = s.portReset := (acts_pairLog s c typ value).portReset rfl
@[simp] theorem State.pairLog_pcieLate (s : State) (c : Nat) (typ : Nat) (value : W) : (State.pairLog s c typ value).pcieLate = s.pcieLate := (acts_pairLog s c typ value).pcieLate rfl
@[simp] theorem State.pairLog_msiLost (s : State) (c : Nat) (typ : Nat) (value : W) : (State.pairLog s c typ value).msiLost = s.msiLost := (acts_pairLog s c typ value).msiLost rfl
@[simp] theorem State.pairLog_ctxCache (s : State) (c : Nat) (typ : Nat) (value : W) : (State.pairLog s c typ value).ctxCache = s.ctxCache := (acts_pairLog s c typ value).ctxCache rfl
@[simp] theorem State.pairLog_ioTlb (s : State) (c : Nat) (typ : Nat) (value : W) : (State.pairLog s c typ value).ioTlb = s.ioTlb := (acts_pairLog s c typ value).ioTlb rfl
@[simp] theorem State.pairLog_jobs (s : State) (c : Nat) (typ : Nat) (value : W) : (State.pairLog s c typ value).jobs = s.jobs := (acts_pairLog s c typ value).jobs rfl
@[simp] theorem State.pairLog_cphTurn (s : State) (c : Nat) (typ : Nat) (value : W) : (State.pairLog s c typ value).cphTurn = s.cphTurn := (acts_pairLog s c typ value).cphTurn rfl
@[simp] theorem State.pairLog_cphKeys (s : State) (c : Nat) (typ : Nat) (value : W) : (State.pairLog s c typ value).cphKeys = s.cphKeys := (acts_pairLog s c typ value).cphKeys rfl
@[simp] theorem State.pairLog_keys (s : State) (c : Nat) (typ : Nat) (value : W) : (State.pairLog s c typ value).keys = s.keys := (acts_pairLog s c typ value).keys rfl
@[simp] theorem State.pairLog_keyNext (s : State) (c : Nat) (typ : Nat) (value : W) : (State.pairLog s c typ value).keyNext = s.keyNext := (acts_pairLog s c typ value).keyNext rfl
@[simp] theorem State.pairLog_keyFreed (s : State) (c : Nat) (typ : Nat) (value : W) : (State.pairLog s c typ value).keyFreed = s.keyFreed := (acts_pairLog s c typ value).keyFreed rfl
@[simp] theorem State.pairLog_srcHigh (s : State) (c : Nat) (typ : Nat) (value : W) : (State.pairLog s c typ value).srcHigh = s.srcHigh := (acts_pairLog s c typ value).srcHigh rfl
@[simp] theorem State.pairLog_pend (s : State) (c : Nat) (typ : Nat) (value : W) : (State.pairLog s c typ value).pend = s.pend := (acts_pairLog s c typ value).pend rfl
@[simp] theorem State.pairLog_inServ (s : State) (c : Nat) (typ : Nat) (value : W) : (State.pairLog s c typ value).inServ = s.inServ := (acts_pairLog s c typ value).inServ rfl
@[simp] theorem State.pairLog_nmiTaken (s : State) (c : Nat) (typ : Nat) (value : W) : (State.pairLog s c typ value).nmiTaken = s.nmiTaken := (acts_pairLog s c typ value).nmiTaken rfl
@[simp] theorem State.pairLog_records (s : State) (c : Nat) (typ : Nat) (value : W) : (State.pairLog s c typ value).records = s.records := (acts_pairLog s c typ value).records rfl
@[simp] theorem State.pairLog_limits (s : State) (c : Nat) (typ : Nat) (value : W) : (State.pairLog s c typ value).limits = s.limits := (acts_pairLog s c typ value).limits rfl
@[simp] theorem State.pairLog_withheld (s : State) (c : Nat) (typ : Nat) (value : W) : (State.pairLog s c typ value).withheld = s.withheld := (acts_pairLog s c typ value).withheld rfl
@[simp] theorem State.pairLog_errorN (s : State) (c : Nat) (typ : Nat) (value : W) : (State.pairLog s c typ value).errorN = s.errorN := (acts_pairLog s c typ value).errorN rfl
@[simp] theorem State.pairLog_rstLevel (s : State) (c : Nat) (typ : Nat) (value : W) : (State.pairLog s c typ value).rstLevel = s.rstLevel := (acts_pairLog s c typ value).rstLevel rfl
@[simp] theorem State.pairLog_relStep (s : State) (c : Nat) (typ : Nat) (value : W) : (State.pairLog s c typ value).relStep = s.relStep := (acts_pairLog s c typ value).relStep rfl
@[simp] theorem State.pairLog_railOut (s : State) (c : Nat) (typ : Nat) (value : W) : (State.pairLog s c typ value).railOut = s.railOut := (acts_pairLog s c typ value).railOut rfl
@[simp] theorem State.pairLog_pwrgood (s : State) (c : Nat) (typ : Nat) (value : W) : (State.pairLog s c typ value).pwrgood = s.pwrgood := (acts_pairLog s c typ value).pwrgood rfl
@[simp] theorem State.pairLog_resetInLow (s : State) (c : Nat) (typ : Nat) (value : W) : (State.pairLog s c typ value).resetInLow = s.resetInLow := (acts_pairLog s c typ value).resetInLow rfl
@[simp] theorem State.pairLog_prochotLow (s : State) (c : Nat) (typ : Nat) (value : W) : (State.pairLog s c typ value).prochotLow = s.prochotLow := (acts_pairLog s c typ value).prochotLow rfl
@[simp] theorem State.pairLog_thermtrip (s : State) (c : Nat) (typ : Nat) (value : W) : (State.pairLog s c typ value).thermtrip = s.thermtrip := (acts_pairLog s c typ value).thermtrip rfl
@[simp] theorem State.pairLog_readyPin (s : State) (c : Nat) (typ : Nat) (value : W) : (State.pairLog s c typ value).readyPin = s.readyPin := (acts_pairLog s c typ value).readyPin rfl
@[simp] theorem State.pairLog_unlocked (s : State) (c : Nat) (typ : Nat) (value : W) : (State.pairLog s c typ value).unlocked = s.unlocked := (acts_pairLog s c typ value).unlocked rfl
@[simp] theorem State.pairLog_regFailed (s : State) (c : Nat) (typ : Nat) (value : W) : (State.pairLog s c typ value).regFailed = s.regFailed := (acts_pairLog s c typ value).regFailed rfl
@[simp] theorem State.pairLog_pGoal (s : State) (c : Nat) (typ : Nat) (value : W) : (State.pairLog s c typ value).pGoal = s.pGoal := (acts_pairLog s c typ value).pGoal rfl
@[simp] theorem State.pairLog_pStop (s : State) (c : Nat) (typ : Nat) (value : W) : (State.pairLog s c typ value).pStop = s.pStop := (acts_pairLog s c typ value).pStop rfl
@[simp] theorem State.pairLog_pkgIdle (s : State) (c : Nat) (typ : Nat) (value : W) : (State.pairLog s c typ value).pkgIdle = s.pkgIdle := (acts_pairLog s c typ value).pkgIdle rfl
@[simp] theorem State.pairLog_rtcAcc (s : State) (c : Nat) (typ : Nat) (value : W) : (State.pairLog s c typ value).rtcAcc = s.rtcAcc := (acts_pairLog s c typ value).rtcAcc rfl
@[simp] theorem State.pairLog_partStep (s : State) (c : Nat) (typ : Nat) (value : W) : (State.pairLog s c typ value).partStep = s.partStep := (acts_pairLog s c typ value).partStep rfl
@[simp] theorem State.pairLog_fuses (s : State) (c : Nat) (typ : Nat) (value : W) : (State.pairLog s c typ value).fuses = s.fuses := (acts_pairLog s c typ value).fuses rfl
@[simp] theorem State.pairLog_rcv (s : State) (c : Nat) (typ : Nat) (value : W) : (State.pairLog s c typ value).rcv = s.rcv := (acts_pairLog s c typ value).rcv rfl
@[simp] theorem State.pairLog_bootStep (s : State) (c : Nat) (typ : Nat) (value : W) : (State.pairLog s c typ value).bootStep = s.bootStep := (acts_pairLog s c typ value).bootStep rfl
@[simp] theorem State.pairLog_flash (s : State) (c : Nat) (typ : Nat) (value : W) : (State.pairLog s c typ value).flash = s.flash := (acts_pairLog s c typ value).flash rfl
@[simp] theorem State.pairLog_ksCopy (s : State) (c : Nat) (typ : Nat) (value : W) : (State.pairLog s c typ value).ksCopy = s.ksCopy := (acts_pairLog s c typ value).ksCopy rfl
@[simp] theorem State.pairLog_kek (s : State) (c : Nat) (typ : Nat) (value : W) : (State.pairLog s c typ value).kek = s.kek := (acts_pairLog s c typ value).kek rfl
@[simp] theorem State.pairLog_ksErased (s : State) (c : Nat) (typ : Nat) (value : W) : (State.pairLog s c typ value).ksErased = s.ksErased := (acts_pairLog s c typ value).ksErased rfl
@[simp] theorem State.pairLog_fmKeys (s : State) (c : Nat) (typ : Nat) (value : W) : (State.pairLog s c typ value).fmKeys = s.fmKeys := (acts_pairLog s c typ value).fmKeys rfl
@[simp] theorem State.pairLog_boot (s : State) (c : Nat) (typ : Nat) (value : W) : (State.pairLog s c typ value).boot = s.boot := (acts_pairLog s c typ value).boot rfl
@[simp] theorem State.pairLog_spRsp (s : State) (c : Nat) (typ : Nat) (value : W) : (State.pairLog s c typ value).spRsp = s.spRsp := (acts_pairLog s c typ value).spRsp rfl
@[simp] theorem State.pairLog_evidence (s : State) (c : Nat) (typ : Nat) (value : W) : (State.pairLog s c typ value).evidence = s.evidence := (acts_pairLog s c typ value).evidence rfl
@[simp] theorem State.pairLog_mac (s : State) (c : Nat) (typ : Nat) (value : W) : (State.pairLog s c typ value).mac = s.mac := (acts_pairLog s c typ value).mac rfl
@[simp] theorem State.pairLog_pages (s : State) (c : Nat) (typ : Nat) (value : W) : (State.pairLog s c typ value).pages = s.pages := (acts_pairLog s c typ value).pages rfl
@[simp] theorem State.pairLog_spd (s : State) (c : Nat) (typ : Nat) (value : W) : (State.pairLog s c typ value).spd = s.spd := (acts_pairLog s c typ value).spd rfl
@[simp] theorem State.pairLog_traceBuf (s : State) (c : Nat) (typ : Nat) (value : W) : (State.pairLog s c typ value).traceBuf = s.traceBuf := (acts_pairLog s c typ value).traceBuf rfl
@[simp] theorem State.pairLog_snaps (s : State) (c : Nat) (typ : Nat) (value : W) : (State.pairLog s c typ value).snaps = s.snaps := (acts_pairLog s c typ value).snaps rfl
@[simp] theorem State.pairLog_cnt (s : State) (c : Nat) (typ : Nat) (value : W) : (State.pairLog s c typ value).cnt = s.cnt := (acts_pairLog s c typ value).cnt rfl
@[simp] theorem State.pairLog_ldl (s : State) (c : Nat) (typ : Nat) (value : W) : (State.pairLog s c typ value).ldl = s.ldl := (acts_pairLog s c typ value).ldl rfl
@[simp] theorem State.pairLog_dbg (s : State) (c : Nat) (typ : Nat) (value : W) : (State.pairLog s c typ value).dbg = s.dbg := (acts_pairLog s c typ value).dbg rfl
@[simp] theorem State.pairLog_lsio (s : State) (c : Nat) (typ : Nat) (value : W) : (State.pairLog s c typ value).lsio = s.lsio := (acts_pairLog s c typ value).lsio rfl
@[simp] theorem State.pairLog_wdogNs (s : State) (c : Nat) (typ : Nat) (value : W) : (State.pairLog s c typ value).wdogNs = s.wdogNs := (acts_pairLog s c typ value).wdogNs rfl
@[simp] theorem State.pairLog_cycAcc (s : State) (c : Nat) (typ : Nat) (value : W) : (State.pairLog s c typ value).cycAcc = s.cycAcc := (acts_pairLog s c typ value).cycAcc rfl
@[simp] theorem State.rd_pairLog (s : State) (c : Nat) (typ : Nat) (value : W) (q : RegId) (j : Nat) : (State.pairLog s c typ value).rd q j = s.rd q j := (acts_pairLog s c typ value).reg q j (Nat.zero_testBit _)
@[simp] theorem State.fld_pairLog (s : State) (c : Nat) (typ : Nat) (value : W) (F : Fld) (j : Nat) : (State.pairLog s c typ value).fld F j = s.fld F j := (acts_pairLog s c typ value).fld F j (Nat.zero_testBit _)

end Sys2Proof.Machine
end

