-- ==== Sys2Proof/Laws/Results.lean ====
section
/-! SUPPORT. What the shared operations come to where they act: the entry that a raised source makes, the answer to an access, a write of
a register that passes its checks. -/

namespace Sys2Proof.Machine

open Sys2Proof

@[simp] theorem State.answer_rsp (s : State) (ag : Agent) (d : W) (st : Nat) : (s.answer ag d st).rsp = { data := d, status := st } := by
  unfold State.answer
  cases ag with
  | core c =>
    dsimp only
    split
    · split
      · simp
      · rfl
    · rfl
  | macen => rfl
  | sp => rfl
  | dbg a b => rfl

@[simp] theorem State.answerW_rsp (s : State) (ag : Agent) (pa st : Nat) : (s.answerW ag pa st).rsp = { data := 0, status := st } := by
  unfold State.answerW
  split
  · split
    · simp
    · rfl
  · exact s.answer_rsp ag 0 st

/-- A write that passes its checks: the register's fields, the side effect, and the answer OK. -/
theorem State.onWrite_pass (s : State) (ag : Agent) (r : RegId) (i : Nat) (w : W) (k : State → State)
    (h : s.gate ag r i (some w) = .pass) (h2 : regAbsent r i = false) :
    s.onWrite ag r i w k = (k (s.regWrite r i w)).answerW ag (regAddr r i) 0 := by
  unfold State.onWrite
  rw [h, h2]
  rfl

theorem State.rd_regWrite (s : State) {r q : RegId} (i : Nat) (w : W) (j : Nat) (h : q ≠ r) : (s.regWrite r i w).rd q j = s.rd q j := by
  refine (acts_regWrite s r i w).reg q j ?_
  rw [Nat.testBit_two_pow]
  simpa using fun e => h (RegId.num_inj e).symm

theorem fld_bit {s : State} {F : Fld} {i : Nat} (h : F.hi = F.lo) (h2 : s.fld F i ≠ 1) : s.fld F i = 0 := by
  have := s.fld_lt F i
  rw [h, Nat.add_sub_cancel_left] at this
  omega

/-- A raised source's entry goes to the end of the pending ones. -/
theorem State.raise_pend (s : State) (src : Nat) (h : s.canPend src) : (s.raise src).pend = s.pend ++ [s.entryOf src] := by
  obtain ⟨h1, h2, h3, h4⟩ := h
  unfold State.raise
  dsimp only
  rw [if_neg, if_neg, if_neg, if_neg]
  · rw [State.deliver_pend]
    split <;> simp [State.entryOf]
  · simp [h4]
  · rintro ⟨e, h⟩
    rcases h3 with h3 | h3
    · omega
    · obtain ⟨x, hx, hy⟩ := List.any_eq_true.mp h
      exact h3 x hx (by simpa using hy)
  · intro h
    obtain ⟨x, hx, hy⟩ := List.any_eq_true.mp h
    exact h2 x hx (by simpa using hy)
  · rintro ⟨e, h⟩
    rcases h1 with h1 | h1
    · omega
    · rw [h1] at h; cases h

/-- A message's entry goes to the end of the pending ones (R374). -/
theorem State.message_pend (s : State) (h t p : Nat) (hd : s.discards h none = false)
    (hn : ∀ e ∈ s.pend, ¬(e.hart = h ∧ e.page = t ∧ e.ident = 0x800 + s.heldPrio h t p)) :
    (s.message h t p).pend = s.pend ++ [{ hart := h, page := t, prio := s.heldPrio h t p, ident := 0x800 + s.heldPrio h t p }] := by
  unfold State.message
  dsimp only
  rw [if_neg (by simp [hd]), if_neg]
  · rw [State.deliver_pend]
  · intro e
    obtain ⟨x, hx, hy⟩ := List.any_eq_true.mp e
    exact hn x hx (by simpa [and_assoc] using hy)

end Sys2Proof.Machine
end

