-- ==== Sys2Proof/Laws/CoreResults.lean ====
section
/-! SUPPORT. What the operations that every instruction shares come to when the instruction goes through: it is issued, it retires, its
core's pc moves, and nothing else of the core changes. -/

namespace Sys2Proof.Machine

open Sys2Proof

@[simp] theorem State.core_onCore_same (s : State) (c : Nat) (f : Core → Core) : (s.onCore c f).core c = f (s.core c) := by
  simp [State.onCore, State.setCore, State.core]

@[simp] theorem State.core_setCore_same (s : State) (c : Nat) (k : Core) : (s.setCore c k).core c = k := by
  simp [State.setCore, State.core]

/-- An instruction that its core carries out now. -/
theorem State.issue_go (s : State) (c : Nat) (a : Option MemAcc) (k : State → State) (h1 : s.ready c = true) (h2 : s.untriggered c a) :
    s.issue c a k = k s := by
  unfold State.issue
  rw [if_neg (by simp [h1]), h2.1, h2.2]
  rfl

/-- The registers that decide which triggers fire. -/
def trigRegs : List RegId := [.DBG_TRIG_VAL, .DBG_TRIG_CFG, .DBG_AUTH, .TILE_CORE_MAP]

theorem State.fired_congr (s t : State) (c : Nat) (ts : List (List Nat × List Nat)) (hr : ∀ r ∈ trigRegs, ∀ i, t.rd r i = s.rd r i)
    (h1 : (t.core c).mode = (s.core c).mode) (h2 : (t.core c).virt = (s.core c).virt) (h3 : (t.core c).secure = (s.core c).secure) :
    t.fired c ts = s.fired c ts := by
  have e1 := hr .DBG_TRIG_VAL (by decide)
  have e2 := hr .DBG_TRIG_CFG (by decide)
  have e3 := hr .DBG_AUTH (by decide)
  have e4 := hr .TILE_CORE_MAP (by decide)
  have eh : t.coreHart c = s.coreHart c := by unfold State.coreHart; rw [e4]
  have em : (t.core c).modeBit = (s.core c).modeBit := by unfold Core.modeBit; rw [h1, h2]
  have f2 : ∀ F : Fld, F.reg = .DBG_TRIG_CFG → ∀ i, t.fld F i = s.fld F i := fun F h i => by unfold State.fld; rw [h, e2]
  have f3 : ∀ F : Fld, F.reg = .DBG_AUTH → ∀ i, t.fld F i = s.fld F i := fun F h i => by unfold State.fld; rw [h, e3]
  have et : ∀ n ty vs, t.trigMatch (s.coreHart c) n (t.core c) ty vs = s.trigMatch (s.coreHart c) n (s.core c) ty vs := by
    intro n ty vs
    unfold State.trigMatch
    simp only [em, h3, e1, f2 DBG_TRIG_CFG.EN rfl, f2 DBG_TRIG_CFG.TYPE rfl, f2 DBG_TRIG_CFG.MODES rfl, f2 DBG_TRIG_CFG.MATCH rfl,
      f3 DBG_AUTH.SESSION rfl]
  unfold State.fired
  simp only [et, eh, f2 DBG_TRIG_CFG.CHAIN rfl]

/-- A state in which the same triggers fire. -/
theorem State.untriggered_congr (s t : State) (c : Nat) (a : Option MemAcc) (h : s.untriggered c a)
    (hr : ∀ r ∈ trigRegs, ∀ i, t.rd r i = s.rd r i)
    (h1 : (t.core c).mode = (s.core c).mode) (h2 : (t.core c).virt = (s.core c).virt) (h3 : (t.core c).secure = (s.core c).secure)
    (h4 : (t.core c).pc = (s.core c).pc) (h5 : (t.core c).step = (s.core c).step) : t.untriggered c a := by
  unfold State.untriggered
  rw [h5, h4, State.fired_congr s t c _ hr h1 h2 h3]
  exact h

/-- An operation that leaves the trigger registers and the core's mode, world, pc and step alone leaves its triggers alone. -/
theorem State.untriggered_onCore (s : State) (c : Nat) (a : Option MemAcc) (f : Core → Core) (h : s.untriggered c a)
    (h1 : (f (s.core c)).mode = (s.core c).mode) (h2 : (f (s.core c)).virt = (s.core c).virt)
    (h3 : (f (s.core c)).secure = (s.core c).secure) (h4 : (f (s.core c)).pc = (s.core c).pc)
    (h5 : (f (s.core c)).step = (s.core c).step) : (s.onCore c f).untriggered c a :=
  s.untriggered_congr _ c a h (fun _ _ _ => rfl) (by simpa using h1) (by simpa using h2) (by simpa using h3) (by simpa using h4)
    (by simpa using h5)

theorem State.pairFold_core (s : State) (c pc : Nat) (ds : List W) (a : Option MemAcc) (d : Nat) : (s.pairFold c pc ds a).core d = s.core d := by
  unfold State.core
  rw [(acts_pairFold s c pc ds a).cores rfl]

/-- An instruction that no trigger or step halts retires: its core goes to the next pc, it is counted, and a pair folds it in. -/
theorem State.retireTo_eq (s : State) (c : Nat) (n : W) (ds : List W) (a : Option MemAcc) (h : s.untriggered c a) :
    s.retireTo c n ds a = ((s.onCore c fun k => k.advance n).countInstret c).pairFold c (s.core c).pc.toNat ds a := by
  have hc : ∀ t : State, (t.countInstret c).core c = t.core c := by
    intro t; unfold State.core; rw [(acts_countInstret t c).cores rfl]
  have hs : ∀ t : State, t.core c = (s.core c).advance n → t.stopAfter c [] = t := fun t e => by
    unfold State.stopAfter
    rw [e, show (if ((s.core c).advance n).step = true then some (2, 0) else Option.map (fun n => (3, n)) (t.trigHalt c [])) = none from by
      rw [show ((s.core c).advance n).step = false from h.1]; rfl]
  unfold State.retireTo
  dsimp only
  rw [h.2, show s.trigPackets c [] = s from rfl]
  refine hs _ ?_
  rw [State.pairFold_core, hc]
  exact s.core_onCore_same c _

theorem State.retireTo_core (s : State) (c : Nat) (n : W) (ds : List W) (a : Option MemAcc) (h : s.untriggered c a) :
    (s.retireTo c n ds a).core c = (s.core c).advance n := by
  rw [s.retireTo_eq c n ds a h, State.pairFold_core]
  unfold State.core
  rw [(acts_countInstret _ c).cores rfl]
  exact s.core_onCore_same c _

theorem State.retire_core (s : State) (c len : Nat) (ds : List W) (a : Option MemAcc) (h : s.untriggered c a) :
    (s.retire c len ds a).core c = (s.core c).advance ((s.core c).pc + BitVec.ofNat 64 len) :=
  s.retireTo_core c _ ds a h

/-! ### A core outside a group -/

theorem State.core_onCore_other (s : State) {c d : Nat} (f : Core → Core) (h : d ≠ c) : (s.onCore c f).core d = s.core d := by
  unfold State.onCore State.setCore State.core
  exact tget_tset_other _ _ _ (Ne.symm h)

theorem State.abortGroup_none (s : State) (c code cause user : Nat) (h : (s.core c).group = none) : s.abortGroup c code cause user = s := by
  unfold State.abortGroup
  dsimp only
  rw [h]

/-- Taking one core's group down leaves every other core alone. -/
theorem State.abortGroup_other (s : State) (c code cause user d : Nat) (h : d ≠ c) : (s.abortGroup c code cause user).core d = s.core d := by
  have e0 : ∀ (p : Prop) [Decidable p] (f : Core → Core) (js : Tbl (List StageRes)),
      (if p then s.onCore c f else { s with jrnRes := js }).core d = s.core d := fun p _ f js => by
    split
    · exact s.core_onCore_other _ h
    · rfl
  have e1 : ∀ (t : State) (k : Core), (t.setCore c k).core d = t.core d := fun t k => by
    unfold State.setCore State.core
    exact tget_tset_other _ _ _ (Ne.symm h)
  have e2 : ∀ (t : State) n, (t.coreCount c n).core d = t.core d := fun t n => by unfold State.core; rw [(acts_coreCount t c n).cores rfl]
  unfold State.abortGroup
  dsimp only
  split
  · rfl
  · split
    · rfl
    · split
      · rw [show ∀ t : State, (t.count _ _ _ _).core d = t.core d from fun t => by unfold State.core; rw [(acts_count t _ _ _ _).cores rfl]]
        exact (e1 _ _).trans (e0 _ _ _)
      · split
        · rw [show ∀ t i, (State.openIval t i).core d = t.core d from fun t i => by unfold State.core; rw [(acts_openIval t i).cores rfl],
            show ∀ t ty v, (State.pairLog t c ty v).core d = t.core d from fun t ty v => by unfold State.core; rw [(acts_pairLog t c ty v).cores rfl]]
          exact (e2 _ _).trans ((e1 _ _).trans (e0 _ _ _))
        · exact (e2 _ _).trans ((e1 _ _).trans (e0 _ _ _))

theorem State.deliver_core (s : State) (h t c : Nat) (hg : (s.core c).group = none) : (s.deliver h t).core c = s.core c := by
  unfold State.deliver
  split
  · rfl
  · split
    · rfl
    · rename_i c' _
      by_cases e : c = c'
      · subst e
        rw [hg]
      · split
        · rfl
        · split
          · split
            · rfl
            · exact s.abortGroup_other _ _ _ _ _ e
          · split
            · rfl
            · exact s.core_onCore_other _ e

/-- An event leaves a core that holds no group alone. -/
theorem State.raise_core (s : State) (src c : Nat) (hg : (s.core c).group = none) : (s.raise src).core c = s.core c := by
  unfold State.raise
  dsimp only
  split
  · rfl
  · split
    · rfl
    · split
      · rfl
      · split
        · rfl
        · split
          · rw [State.deliver_core]
            · rfl
            · exact hg
          · rw [State.deliver_core]
            · rfl
            · exact hg

/-- Where no core holds a group, an event and a record change no core and no pair. -/
theorem State.deliver_calm (s : State) (h t : Nat) (hg : s.noGroups) : s.deliver h t = s := by
  unfold State.deliver
  split
  · rfl
  · split
    · rfl
    · rename_i c' _
      rw [hg c']

theorem State.raise_calm (s : State) (src : Nat) (hg : s.noGroups) : (s.raise src).cores = s.cores ∧ (s.raise src).pairs = s.pairs := by
  unfold State.raise
  dsimp only
  split
  · exact ⟨rfl, rfl⟩
  · split
    · exact ⟨rfl, rfl⟩
    · split
      · exact ⟨rfl, rfl⟩
      · split
        · exact ⟨rfl, rfl⟩
        · split
          · rw [State.deliver_calm]
            · exact ⟨rfl, rfl⟩
            · exact hg
          · rw [State.deliver_calm]
            · exact ⟨rfl, rfl⟩
            · exact hg

theorem State.logErr_calm (s : State) (source unit cls code addr : Nat) (hg : s.noGroups) (hr : s.fld ERC_RING_CFG.EN 0 = 0) :
    (s.logErr source unit cls code addr).cores = s.cores ∧ (s.logErr source unit cls code addr).pairs = s.pairs := by
  have e : ∀ (x : State) (r : ErrRec), x.fld ERC_RING_CFG.EN 0 = 0 → x.ringWrite r = x := fun x r h => by
    unfold State.ringWrite
    rw [if_pos h]
  unfold State.logErr
  extract_lets n key r s1 s2
  have e2 : s2 = s1.setFld ERC_STATUS.LAST_SEQ 0 n := e _ _ ((State.fld_setFld_apart _ _ _ _ _ _ (by decide) (by decide)).trans hr)
  rw [e2]
  exact State.raise_calm _ _ hg

/-- A record is stored under the next SEQUENCE (R469). -/
theorem State.logErr_recorded (s : State) (source unit cls code addr : Nat) :
    s.recorded (s.logErr source unit cls code addr) source unit cls code addr := by
  unfold State.recorded State.logErr
  extract_lets n key r s1 s2
  have e : ∀ x : State, (x.raise (1604 + cls)).records = x.records ∧ (x.raise (1604 + cls)).fld ERC_STATUS.LAST_SEQ 0 = x.fld ERC_STATUS.LAST_SEQ 0 :=
    fun x => ⟨(acts_raise x _).records rfl, by unfold State.fld; rw [(acts_raise x _).reg _ _ rfl]⟩
  have e2 : s2.records = s1.records ∧ s2.fld ERC_STATUS.LAST_SEQ 0 = n % 2 ^ 64 := by
    refine ⟨(acts_ringWrite _ r).records rfl, ?_⟩
    unfold State.fld
    rw [show s2.rd ERC_STATUS.LAST_SEQ.reg 0 = (s1.setFld ERC_STATUS.LAST_SEQ 0 n).rd ERC_STATUS.LAST_SEQ.reg 0 from (acts_ringWrite _ r).reg _ _ rfl]
    exact s1.fld_setFld_same _ _ _ (by decide)
  rw [(e s2).1, (e s2).2, e2.1, e2.2]
  refine ⟨rfl, ?_⟩
  show tget {} (tset {} s.records (n % 4096) r) (n % 4096) = r
  exact tget_tset_same _ _ _ _

/-- So does a trace packet. -/
theorem State.trace_core (s : State) (c typ info addr d : Nat) (hg : (s.core d).group = none) : (s.trace c typ info addr).core d = s.core d := by
  have e : ∀ t : State, t.cores = s.cores → ((t.incSat DBG_TRACE_PTR.LOST 0).raise 1762).core d = s.core d := by
    intro t ht
    have e1 : (t.incSat DBG_TRACE_PTR.LOST 0).core d = s.core d := by
      unfold State.core; rw [(acts_incSat t _ _).cores rfl, ht]
    rw [State.raise_core _ _ _ (by rw [e1]; exact hg), e1]
  unfold State.trace
  dsimp only
  repeat' split
  all_goals first | rfl | exact e _ rfl

/-- A trace packet that raises no event changes the trace buffers alone (R512). -/
theorem State.trace_room (s : State) (c typ info addr : Nat) (h : s.traceRoom c) :
    (s.trace c typ info addr).cores = s.cores ∧ (s.trace c typ info addr).regs = s.regs := by
  unfold State.trace
  dsimp only
  split
  · exact ⟨rfl, rfl⟩
  · rename_i h1
    rcases h with h | h
    · exact absurd (.inr (.inr h)) h1
    · repeat' split
      all_goals first | exact ⟨rfl, rfl⟩ | (exfalso; omega)

/-- A trace packet leaves a core alone that is outside a group, or whose buffer has room. -/
theorem State.trace_calm (s : State) (c typ info addr : Nat) (h : s.traceCalm c) : (s.trace c typ info addr).core c = s.core c := by
  rcases h with h | h
  · exact s.trace_core _ _ _ _ _ h
  · unfold State.core; rw [(s.trace_room c typ info addr h).1]

/-- CG_STATUS and CG_ABORT_PC of a core change with no other core's group, and not by an event while the core holds none. -/
theorem State.abortGroup_rd_other (s : State) (c code cause user d : Nat) (h : d ≠ c) (r : RegId) (hr : r = .CG_STATUS ∨ r = .CG_ABORT_PC) :
    (s.abortGroup c code cause user).rd r d = s.rd r d := by
  have e1 : ∀ t n, (State.coreCount t c n).rd r d = t.rd r d := fun t n => (acts_coreCount t c n).reg r d (by rcases hr with h | h <;> subst h <;> rfl)
  have e2 : ∀ t i, (State.openIval t i).rd r d = t.rd r d := fun t i => (acts_openIval t i).reg r d (by rcases hr with h | h <;> subst h <;> rfl)
  have e3 : ∀ t ty v, (State.pairLog t c ty v).rd r d = t.rd r d := fun t ty v => (acts_pairLog t c ty v).reg r d (by rcases hr with h | h <;> subst h <;> rfl)
  have e4 : ∀ t a b x y, (State.count t a b x y).rd r d = t.rd r d := fun t a b x y =>
    (acts_count t a b x y).reg r d (by rcases hr with h | h <;> subst h <;> rfl)
  have e5 : ∀ (t : State) q v, (t.wr q c v).rd r d = t.rd r d := fun t q v => by
    rw [State.rd_wr, if_neg (fun x => h x.2.symm)]
  have e6 : ∀ (t : State) k (q : RegId) (i : Nat), (t.setCore c k).rd q i = t.rd q i := fun _ _ _ _ => rfl
  unfold State.abortGroup
  dsimp only
  have e7 : ∀ (f : Core → Core) (q : RegId) (i : Nat), (s.onCore c f).rd q i = s.rd q i := fun _ _ _ => rfl
  repeat' split
  all_goals simp only [e1, e2, e3, e4, e5, e6, e7]
  all_goals rfl

theorem State.deliver_rd (s : State) (h t d : Nat) (hg : (s.core d).group = none) (r : RegId) (hr : r = .CG_STATUS ∨ r = .CG_ABORT_PC) :
    (s.deliver h t).rd r d = s.rd r d := by
  unfold State.deliver
  split
  · rfl
  · split
    · rfl
    · rename_i c' _
      by_cases e : d = c'
      · subst e; rw [hg]
      · repeat' split
        all_goals first | rfl | exact s.abortGroup_rd_other _ _ _ _ _ e r hr

theorem State.raise_rd (s : State) (src d : Nat) (hg : (s.core d).group = none) (r : RegId) (hr : r = .CG_STATUS ∨ r = .CG_ABORT_PC) :
    (s.raise src).rd r d = s.rd r d := by
  unfold State.raise
  dsimp only
  repeat' split
  all_goals first | rfl | (rw [State.deliver_rd _ _ _ _ (by exact hg) r hr]; first | rfl | (rw [State.rd_wr, if_neg (fun x => by rcases hr with h | h <;> rw [h] at x <;> exact absurd x.1 (by decide))]; rfl))

theorem State.trace_rd (s : State) (c typ info addr d : Nat) (hg : (s.core d).group = none) (r : RegId) (hr : r = .CG_STATUS ∨ r = .CG_ABORT_PC) :
    (s.trace c typ info addr).rd r d = s.rd r d := by
  have e : ∀ t : State, t.cores = s.cores → t.regs = s.regs → ((t.incSat DBG_TRACE_PTR.LOST 0).raise 1762).rd r d = s.rd r d := by
    intro t ht h2
    have e1 : (t.incSat DBG_TRACE_PTR.LOST 0).core d = s.core d := by
      unfold State.core; rw [(acts_incSat t _ _).cores rfl, ht]
    rw [State.raise_rd _ _ _ (by rw [e1]; exact hg) r hr]
    rw [(acts_incSat t DBG_TRACE_PTR.LOST 0).reg r d (by rcases hr with h | h <;> subst h <;> rfl)]
    unfold State.rd; rw [h2]
  unfold State.trace
  dsimp only
  repeat' split
  all_goals first | rfl | exact e _ rfl rfl

/-- A world switch of a core outside a group. -/
theorem State.worldSwitch_core (s : State) (c : Nat) (b : Bool) (hg : (s.core c).group = none) :
    (s.worldSwitch c b).core c = { (s.core c).squash with ras := [], resv := none, secure := b } := by
  unfold State.worldSwitch
  dsimp only
  rw [s.abortGroup_none _ _ _ _ hg, State.trace_core, State.core_onCore_same]
  rw [State.core_onCore_same]
  exact hg

theorem State.rebase_core (s : State) (c d : Nat) : (s.rebase c).core d = s.core d := by
  unfold State.core; rw [(acts_rebase s c).cores rfl]

theorem State.coreCount_core (s : State) (c n d : Nat) : (s.coreCount c n).core d = s.core d := by
  unfold State.core; rw [(acts_coreCount s c n).cores rfl]

theorem State.pairLog_core (s : State) (c t : Nat) (v : W) (d : Nat) : (s.pairLog c t v).core d = s.core d := by
  unfold State.core; rw [(acts_pairLog s c t v).cores rfl]

theorem State.closeIval_core (s : State) (c d : Nat) : (s.closeIval c).core d = s.core d := by
  unfold State.core; rw [(acts_closeIval s c).cores rfl]

theorem State.setFld_core (s : State) (F : Fld) (i v d : Nat) : (s.setFld F i v).core d = s.core d := rfl

/-- Entering a trap reads and writes a core's pc, mode and CSRs alone. -/
theorem Core.enterTrap_congr (k k' : Core) (intr : Bool) (code : Nat) (tval gpa : W) (h1 : k'.csr = k.csr) (h2 : k'.pc = k.pc)
    (h3 : k'.mode = k.mode) (h4 : k'.virt = k.virt) :
    (k'.enterTrap intr code tval gpa).pc = (k.enterTrap intr code tval gpa).pc ∧
    (k'.enterTrap intr code tval gpa).csr = (k.enterTrap intr code tval gpa).csr ∧
    (k'.enterTrap intr code tval gpa).mode = (k.enterTrap intr code tval gpa).mode ∧
    (k'.enterTrap intr code tval gpa).virt = (k.enterTrap intr code tval gpa).virt := by
  have g : ∀ a, k'.getCsr a = k.getCsr a := fun a => by unfold Core.getCsr; rw [h1]
  have e1 : k'.delegTo intr code = k.delegTo intr code := by unfold Core.delegTo Core.mideleg; simp only [g, h3, h4]
  have e2 : k'.trapGva intr code = k.trapGva intr code := by unfold Core.trapGva; rw [h4]
  unfold Core.enterTrap
  dsimp only
  rw [e1, e2]
  simp only [g, h2, h3, h4]
  split <;> simp only [Core.setCsr, h1, and_self]

theorem Core.enterTrap_keeps (k : Core) (intr : Bool) (code : Nat) (tval gpa : W) :
    (k.enterTrap intr code tval gpa).group = k.group ∧ (k.enterTrap intr code tval gpa).x = k.x := by
  unfold Core.enterTrap
  dsimp only
  split <;> simp only [Core.setCsr, and_self]

/-- A trap of a core outside a group: an interrupt, or an exception of an instruction that is not single-stepped (R349). -/
theorem State.takeTrap_trapped (s : State) (c : Nat) (intr : Bool) (code : Nat) (tval gpa : W) (hg : (s.core c).group = none)
    (hs : (s.core c).step = false ∨ intr = true) : s.trapped (s.takeTrap c intr code tval gpa) c intr code tval gpa := by
  unfold State.takeTrap
  dsimp only
  generalize hb : (if ((s.core c).delegTo intr code).1 = .m ∧ (s.core c).secure = false then s.worldSwitch c true else s) = s1
  have h1 : (s1.core c).csr = (s.core c).csr ∧ (s1.core c).pc = (s.core c).pc ∧ (s1.core c).mode = (s.core c).mode ∧
      (s1.core c).virt = (s.core c).virt ∧ (s1.core c).x = (s.core c).x ∧ (s1.core c).group = (s.core c).group := by
    rw [← hb]
    split
    · rw [s.worldSwitch_core c true hg]; exact ⟨rfl, rfl, rfl, rfl, rfl, rfl⟩
    · exact ⟨rfl, rfl, rfl, rfl, rfl, rfl⟩
  obtain ⟨e1, e2, e3, e4, e5, e6⟩ := h1
  have hE := (s.core c).enterTrap_congr (s1.core c) intr code tval (trapGpa intr code gpa) e1 e2 e3 e4
  have hK := (s1.core c).enterTrap_keeps intr code tval (trapGpa intr code gpa)
  have key : ∀ t : State, ∀ k : Core, t.core c = k → k.group = none → ∀ a b d : Nat,
      (((t.coreCount c 0x10).trace c a b d).rebase c).core c = k := by
    intro t k e1 e2 a b d
    rw [State.rebase_core, State.trace_core, State.coreCount_core, e1]
    rw [State.coreCount_core, e1]; exact e2
  have fin : ∀ (t : State) (b : Bool), (s.core c).step = false ∨ intr = true →
      s.trapped t c intr code tval gpa → s.trapped (if (s.core c).step = true then (if b = true then (if intr = true then t else t.enterHalt c 2 0)
        else t.onCore c fun k => { k with step := false, stopNext := some (if intr = true then 6 else 2, 0) }) else t) c intr code tval gpa := by
    intro t b hs h
    split
    · rename_i hx
      have hi : intr = true := by
        rcases hs with hs | hs
        · rw [hs] at hx; cases hx
        · exact hs
      subst hi
      split
      · exact h
      · unfold State.trapped at h ⊢
        rw [State.core_onCore_same]
        exact h
    · exact h
  apply fin _ _ hs
  unfold State.trapped
  rw [key _ _ ?_ ?_]
  rotate_left
  · exact { ((s1.core c).enterTrap intr code tval (trapGpa intr code gpa)).squash with
      resv := none, cgWait := none, run := if (s1.core c).run = .wfi ∨ (s1.core c).run = .pause then .running else (s1.core c).run }
  · split
    · exact s1.core_setCore_same c _
    · exact s1.core_setCore_same c _
  · exact (hK.1.trans e6).trans hg
  · exact ⟨hE.1, hE.2.1, hE.2.2.1, hE.2.2.2, hK.2.trans e5, rfl⟩

/-! ### Instructions that go through, and CSR writes -/

theorem runs_go {s : State} {c : Nat} (h : s.runs c) (k : State → State) : s.issue c none k = k s := s.issue_go c none k h.1 h.2

theorem ready_running {s : State} {c : Nat} (h : s.ready c = true) : (s.core c).run = .running := by
  unfold State.ready at h
  simp only [Bool.and_eq_true] at h
  simpa using h.1.1.1.1.1.2

theorem notInGroup_go {s : State} {c : Nat} (h : (s.core c).group = none) (k : State → State) : s.notInGroup c k = k s := by
  unfold State.notInGroup
  rw [h]

theorem Core.getX_setX (k : Core) (r : Nat) (v : W) (h : r ≠ 0) : (k.setX r v).getX r = v := by
  unfold Core.setX Core.getX
  rw [if_neg h]
  simp [h]

/-- A read of a register after a write of it: register 0 reads 0 whatever is written. -/
theorem Core.getX_setX_all (k : Core) (r : Nat) (v : W) : (k.setX r v).getX r = if r = 0 then 0 else v := by
  by_cases h : r = 0
  · subst h; rfl
  · rw [if_neg h]; exact k.getX_setX r v h

theorem exception_go {s : State} {c code : Nat} {tval gpa : W} (h : (s.core c).group = none) (h2 : s.allCompared c = true) :
    s.exception c code tval gpa = s.takeTrap c false code tval gpa := by
  unfold State.exception
  rw [h]
  dsimp only
  rw [if_pos h2]

theorem csrReg_trig {a : Nat} {r : RegId} {n : Nat} (h : csrReg a = some (r, n)) : r ∉ trigRegs := by
  unfold csrReg at h
  split at h <;> first | cases h; done | (injection h with h; injection h with h; subst h; decide)

/-- The CSRs of a core alone differ. -/
def CsrOnly (k k' : Core) : Prop := ∃ x, k' = { k with csr := x }
theorem CsrOnly.refl (k : Core) : CsrOnly k k := ⟨_, rfl⟩
theorem CsrOnly.set {k k' : Core} (h : CsrOnly k k') (a : Nat) (v : W) : CsrOnly k (k'.setCsr a v) := by
  obtain ⟨x, rfl⟩ := h; exact ⟨_, rfl⟩
theorem CsrOnly.dirty {k k' : Core} (h : CsrOnly k k') (a b : Nat) : CsrOnly k (k'.dirty a b) := by
  obtain ⟨x, rfl⟩ := h
  unfold Core.dirty; dsimp only; split <;> exact ⟨_, rfl⟩

/-- A CSR write leaves the trigger registers and everything of its core but the CSRs alone. -/
theorem csrPut_frame (s : State) (c a : Nat) (v : W) : (∀ r ∈ trigRegs, ∀ i, (s.csrPut c a v).rd r i = s.rd r i) ∧
    CsrOnly (s.core c) ((s.csrPut c a v).core c) := by
  have key : ∀ k, CsrOnly (s.core c) k → (∀ r ∈ trigRegs, ∀ i, (s.setCore c k).rd r i = s.rd r i) ∧
    CsrOnly (s.core c) ((s.setCore c k).core c) := fun k h => ⟨fun _ _ _ => rfl, by rw [s.core_setCore_same]; exact h⟩
  have R := CsrOnly.refl (s.core c)
  unfold State.csrPut
  dsimp only
  split
  · rename_i r n h
    split
    · exact ⟨fun _ _ _ => rfl, _, rfl⟩
    · split
      · exact ⟨fun _ _ _ => rfl, _, rfl⟩
      · refine ⟨fun q hq i => ?_, ?_⟩
        · have : q ≠ r := fun e => csrReg_trig h (e ▸ hq)
          exact State.rd_regWrite s _ _ _ this
        · unfold State.core; rw [State.regWrite_cores]; exact R
  · have kI : ∀ (p : Prop) [Decidable p] (x y : State),
        ((∀ r ∈ trigRegs, ∀ i, x.rd r i = s.rd r i) ∧ CsrOnly (s.core c) (x.core c)) →
        ((∀ r ∈ trigRegs, ∀ i, y.rd r i = s.rd r i) ∧ CsrOnly (s.core c) (y.core c)) →
        ((∀ r ∈ trigRegs, ∀ i, (if p then x else y).rd r i = s.rd r i) ∧ CsrOnly (s.core c) ((if p then x else y).core c)) :=
      fun p _ x y hx hy => by split <;> assumption
    have k0 : (∀ r ∈ trigRegs, ∀ i, s.rd r i = s.rd r i) ∧ CsrOnly (s.core c) (s.core c) := ⟨fun _ _ _ => rfl, R⟩
    repeat' first
      | with_reducible refine kI _ _ _ ?_ ?_
      | with_reducible exact k0
      | with_reducible exact key _ ((R.set _ _).dirty _ _)
      | with_reducible exact key _ (((R.set _ _).set _ _).dirty _ _)
      | with_reducible exact key _ (R.set _ _)
      | with_reducible exact key _ ((R.set _ _).set _ _)
    exact ⟨fun r _ i => (acts_setCoreCnt s c _ v).reg r i (Nat.zero_testBit _), by unfold State.core; rw [(acts_setCoreCnt s c _ v).cores rfl]; exact R⟩


/-- A CSR instruction retires with the old value in rd. -/
theorem State.csrDone_core {s t : State} {c : Nat} (h : s.untriggered c none) (h1 : ∀ r ∈ trigRegs, ∀ i, t.rd r i = s.rd r i)
    (h2 : CsrOnly (s.core c) (t.core c)) (rd len : Nat) (old : W) :
    (t.csrDone c rd len old).core c = ((t.core c).setX rd old).advance ((s.core c).pc + BitVec.ofNat 64 len) := by
  obtain ⟨x, e⟩ := h2
  have e2 : (t.onCore c fun k => k.setX rd old).core c = (t.core c).setX rd old := t.core_onCore_same c _
  have e3 : ((t.core c).setX rd old).mode = (s.core c).mode ∧ ((t.core c).setX rd old).virt = (s.core c).virt ∧
      ((t.core c).setX rd old).secure = (s.core c).secure ∧ ((t.core c).setX rd old).pc = (s.core c).pc ∧
      ((t.core c).setX rd old).step = (s.core c).step := by
    rw [e]; unfold Core.setX; split <;> exact ⟨rfl, rfl, rfl, rfl, rfl⟩
  have h3 : (t.onCore c fun k => k.setX rd old).untriggered c none :=
    s.untriggered_congr (t.onCore c fun k => k.setX rd old) c none h h1 (by rw [e2]; exact e3.1) (by rw [e2]; exact e3.2.1)
      (by rw [e2]; exact e3.2.2.1) (by rw [e2]; exact e3.2.2.2.1) (by rw [e2]; exact e3.2.2.2.2)
  unfold State.csrDone
  rw [State.retire_core _ _ _ _ _ h3, e2, e3.2.2.2.1]

/-- Stopping or starting a trailer changes nothing of a core but its run state. -/
theorem State.trailerRun_core (s : State) (c : Nat) (r : Run) (d : Nat) :
    ((s.trailerRun c r).core d).pc = (s.core d).pc ∧ ((s.trailerRun c r).core d).x = (s.core d).x ∧
    ((s.trailerRun c r).core d).group = (s.core d).group := by
  unfold State.trailerRun
  split
  · rename_i i _
    by_cases e : d = i / 2 * 5 + (tget {} s.pairs i).trailer
    · rw [e, State.core_onCore_same]; exact ⟨rfl, rfl, rfl⟩
    · rw [State.core_onCore_other _ _ e]; exact ⟨rfl, rfl, rfl⟩
  · exact ⟨rfl, rfl, rfl⟩

/-- A core outside a group that enters the debug halt (R499, R500). -/
theorem State.enterHalt_core (s : State) (c cause trig : Nat) (hg : (s.core c).group = none) :
    ((s.enterHalt c cause trig).core c).run = .halted ∧ ((s.enterHalt c cause trig).core c).pc = (s.core c).pc ∧
    ((s.enterHalt c cause trig).core c).x = (s.core c).x ∧ ((s.enterHalt c cause trig).core c).resv = none := by
  unfold State.enterHalt
  dsimp only
  rw [s.abortGroup_none _ _ _ _ hg]
  have key : ∀ (t : State) (a b d x : Nat), (t.core c).group = none → ∀ dd : Dbg, ({ (t.trace c a b d).raise x with dbg := dd } : State).core c = t.core c := by
    intro t a b d x hg dd
    show ((t.trace c a b d).raise x).core c = t.core c
    rw [State.raise_core, State.trace_core _ _ _ _ _ _ hg]
    rw [State.trace_core _ _ _ _ _ _ hg]
    exact hg
  have h := fun u => State.trailerRun_core (s.pairLog c 7 u) c .halted c
  simp only [State.pairLog_core] at h
  rw [key]
  · simp only [State.setFld_core, State.core_onCore_same, h, and_self]
  · simp only [State.setFld_core, State.core_onCore_same, h]
    exact hg

end Sys2Proof.Machine
end

