-- ==== Sys2Proof/Laws/MemResults.lean ====
section
/-! SUPPORT. What the memory instructions' shared operations leave of their core: its registers, pc, mode, store buffer and L2 lines. -/

namespace Sys2Proof.Machine

open Sys2Proof

/-- A core whose registers, pc, mode, store buffer and L2 lines are those of another one. -/
structure Keep (k k' : Core) : Prop where
  x : k'.x = k.x
  pc : k'.pc = k.pc
  mode : k'.mode = k.mode
  virt : k'.virt = k.virt
  secure : k'.secure = k.secure
  part : k'.part = k.part
  step : k'.step = k.step
  group : k'.group = k.group
  csr : k'.csr = k.csr
  sb : k'.sb = k.sb
  seg : k'.seg = k.seg
  l2 : k'.l2 = k.l2

theorem Keep.refl (k : Core) : Keep k k := ⟨rfl, rfl, rfl, rfl, rfl, rfl, rfl, rfl, rfl, rfl, rfl, rfl⟩

theorem Keep.trans {a b c : Core} (h1 : Keep a b) (h2 : Keep b c) : Keep a c :=
  ⟨h2.x.trans h1.x, h2.pc.trans h1.pc, h2.mode.trans h1.mode, h2.virt.trans h1.virt, h2.secure.trans h1.secure, h2.part.trans h1.part,
   h2.step.trans h1.step, h2.group.trans h1.group, h2.csr.trans h1.csr, h2.sb.trans h1.sb, h2.seg.trans h1.seg, h2.l2.trans h1.l2⟩

/-- An operation that keeps core `c` so, and leaves the trigger registers alone. -/
def Quiet (s t : State) (c : Nat) : Prop := (∀ r ∈ trigRegs, ∀ i, t.rd r i = s.rd r i) ∧ Keep (s.core c) (t.core c)

theorem Quiet.refl (s : State) (c : Nat) : Quiet s s c := ⟨fun _ _ _ => rfl, Keep.refl _⟩

theorem Quiet.trans {a b t : State} {c : Nat} (h1 : Quiet a b c) (h2 : Quiet b t c) : Quiet a t c :=
  ⟨fun r hr i => (h2.1 r hr i).trans (h1.1 r hr i), h1.2.trans h2.2⟩

theorem Quiet.ofActs {L R : Nat} {s t : State} {c : Nat} (h : Acts L R s t) (hl : L.testBit 6 = false)
    (hr : trigRegs.all (fun r => !R.testBit r.num) = true) : Quiet s t c := by
  refine ⟨fun r hm i => h.reg r i ?_, ?_⟩
  · simpa using List.all_eq_true.mp hr r hm
  · have e : t.core c = s.core c := by unfold State.core; rw [h.cores hl]
    rw [e]; exact Keep.refl _

theorem Quiet.ofCore {s t : State} {c : Nat} (h : t.regs = s.regs) (hk : Keep (s.core c) (t.core c)) : Quiet s t c :=
  ⟨fun r _ i => by unfold State.rd; rw [h], hk⟩

theorem Quiet.onCore {s : State} {c : Nat} {f : Core → Core} (h : Keep (s.core c) (f (s.core c))) : Quiet s (s.onCore c f) c :=
  Quiet.ofCore rfl (by rw [State.core_onCore_same]; exact h)

/-- The triggers of a core that is kept so are as before. -/
theorem Quiet.untriggered {s t : State} {c : Nat} (h : Quiet s t c) {a : Option MemAcc} (hu : s.untriggered c a) : t.untriggered c a :=
  s.untriggered_congr t c a hu h.1 h.2.mode h.2.virt h.2.secure h.2.pc h.2.step

theorem Quiet.ite {s t u : State} {c : Nat} {p : Prop} [Decidable p] (h1 : Quiet s t c) (h2 : Quiet s u c) : Quiet s (if p then t else u) c := by
  split <;> assumption

theorem State.fillL1_quiet (s : State) (c line : Nat) : Quiet s (s.fillL1 c line) c := by
  unfold State.fillL1
  dsimp only
  split
  · exact Quiet.refl _ _
  · split
    · exact Quiet.ofCore rfl (by rw [State.core_setCore_same]; exact ⟨rfl, rfl, rfl, rfl, rfl, rfl, rfl, rfl, rfl, rfl, rfl, rfl⟩)
    · exact Quiet.ofCore rfl (by rw [State.core_setCore_same]; exact ⟨rfl, rfl, rfl, rfl, rfl, rfl, rfl, rfl, rfl, rfl, rfl, rfl⟩)

theorem Quiet.raise (s : State) (src c : Nat) (hg : (s.core c).group = none) : Quiet s (s.raise src) c := by
  refine ⟨fun r hr i => ?_, by rw [State.raise_core _ _ _ hg]; exact Keep.refl _⟩
  simp only [trigRegs, List.mem_cons, List.not_mem_nil, or_false] at hr
  rcases hr with h | h | h | h <;> subst h <;> exact (acts_raise s src).reg _ i rfl

theorem Quiet.setFld (s : State) (F : Fld) (i v c : Nat) (h : F.reg ∉ trigRegs) : Quiet s (s.setFld F i v) c := by
  refine ⟨fun r hr j => ?_, Keep.refl _⟩
  unfold State.setFld
  rw [State.rd_wr, if_neg]
  rintro ⟨e, _⟩
  exact h (e ▸ hr)

theorem State.lostMark_quiet (s : State) (c : Nat) (hg : (s.core c).group = none) :
    Quiet s (((s.setFld CG_STATUS.LOST c 1).raise (16 * coreTile c + 5 + coreSlot c)).abortGroup c 0x0F 0 0) c := by
  have e2 : ((s.setFld CG_STATUS.LOST c 1).raise (16 * coreTile c + 5 + coreSlot c)).core c = s.core c := by
    rw [State.raise_core]
    · rfl
    · exact hg
  rw [State.abortGroup_none _ _ _ _ _ (by rw [e2]; exact hg)]
  exact (Quiet.setFld _ _ _ _ _ (by decide)).trans (Quiet.raise _ _ _ hg)

theorem State.depRecord_quiet (s : State) (c : Nat) (t : Option Tag) (hg : (s.core c).group = none) : Quiet s (s.depRecord c t) c := by
  have kq : ∀ f : Core → Core, (∀ k, ∃ d, f k = { k with deps := d }) → Quiet s (s.onCore c f) c := by
    intro f hf
    obtain ⟨d, e⟩ := hf (s.core c)
    exact Quiet.onCore (by rw [e]; exact ⟨rfl, rfl, rfl, rfl, rfl, rfl, rfl, rfl, rfl, rfl, rfl, rfl⟩)
  unfold State.depRecord
  split
  · exact Quiet.refl _ _
  · dsimp only
    split
    · exact (kq _ fun k => ⟨_, rfl⟩).trans (State.lostMark_quiet _ c (by rw [State.core_onCore_same]; exact hg))
    · split
      · exact Quiet.refl _ _
      · exact kq _ fun k => ⟨_, rfl⟩

theorem State.joinReads_none (s : State) (c line : Nat) (hg : (s.core c).group = none) : s.joinReads c line = s := by
  unfold State.joinReads
  rw [hg]

theorem State.groupLost_none (s t : State) (c : Nat) (hg : (s.core c).group = none) : s.groupLost t c = false := by
  unfold State.groupLost
  rw [hg]
  rfl

theorem State.pairLog_quiet (s : State) (c t : Nat) (v : W) : Quiet s (s.pairLog c t v) c :=
  Quiet.ofActs (acts_pairLog s c t v) rfl rfl

theorem State.pairStores_quiet (s : State) (c : Nat) (es : List StoreEnt) : Quiet s (s.pairStores c es) c :=
  Quiet.ofActs (acts_pairStores s c es) rfl rfl

/-- Fetching a line of the World Table changes no core. -/
theorem State.worldOk_quiet (s : State) (key : Nat) (sec : Bool) (part pa c : Nat) : Quiet s (s.worldOk key sec part pa).2 c ∧
    (s.worldOk key sec part pa).2.cores = s.cores ∧ (s.worldOk key sec part pa).2.pairs = s.pairs ∧ ∀ pa', (s.worldOk key sec part pa).2.region pa' = s.region pa' := by
  refine ⟨Quiet.ofActs (acts_worldOk s key sec part pa) rfl rfl, (acts_worldOk s key sec part pa).cores rfl, (acts_worldOk s key sec part pa).pairs rfl, fun pa' => ?_⟩
  have a := acts_worldOk s key sec part pa
  have e : ∀ i, (s.worldOk key sec part pa).2.rd .MCT_DECODE i = s.rd .MCT_DECODE i := fun i => a.reg _ i rfl
  have f : ∀ F : Fld, F.reg = .MCT_DECODE → ∀ i, (s.worldOk key sec part pa).2.fld F i = s.fld F i := fun F h i => by
    unfold State.fld; rw [h, e]
  unfold State.region State.isDram State.window
  simp only [f MCT_DECODE.VALID rfl, f MCT_DECODE.BASE_GIB rfl, f MCT_DECODE.LIMIT_GIB rfl]

/-- A core that differs in its translation structures alone. -/
def TlbOnly (k k' : Core) : Prop := ∃ a b d e, k' = { k with tlb := a, tlbBig := b, dtlb := d, itlb := e }

theorem TlbOnly.refl (k : Core) : TlbOnly k k := ⟨_, _, _, _, rfl⟩

theorem Core.tlbAdd_only (k : Core) (acc : Nat) (e : TlbEnt) : TlbOnly k (k.tlbAdd acc e) := by
  unfold Core.tlbAdd
  dsimp only
  split <;> split <;> exact ⟨_, _, _, _, rfl⟩

theorem TlbOnly.keep {k k' : Core} (h : TlbOnly k k') : Keep k k' := by
  obtain ⟨a, b, d, e, rfl⟩ := h
  exact ⟨rfl, rfl, rfl, rfl, rfl, rfl, rfl, rfl, rfl, rfl, rfl, rfl⟩

/-- What a translation that goes through leaves: everything but the translation structures of its own core, the World Table caches and the
counters. -/
structure Mapped (s t : State) (c : Nat) : Prop where
  quiet : Quiet s t c
  own : TlbOnly (s.core c) (t.core c)
  other : ∀ d, d ≠ c → t.core d = s.core d
  pairs : t.pairs = s.pairs
  region : ∀ q, t.region q = s.region q
  acts : Acts 633825300114114700748485820480 0 s t

theorem Mapped.refl (s : State) (c : Nat) : Mapped s s c := ⟨Quiet.refl _ _, TlbOnly.refl _, fun _ _ => rfl, rfl, fun _ => rfl, Acts.refl _ _ _⟩

theorem Mapped.trans {s t u : State} {c : Nat} (h1 : Mapped s t c) (h2 : Mapped t u c) : Mapped s u c := by
  refine ⟨h1.quiet.trans h2.quiet, ?_, fun d hd => (h2.other d hd).trans (h1.other d hd), h2.pairs.trans h1.pairs,
    fun q => (h2.region q).trans (h1.region q), h1.acts.trans h2.acts rfl rfl⟩
  obtain ⟨a, b, d, e, h⟩ := h1.own
  obtain ⟨a', b', d', e', h'⟩ := h2.own
  exact ⟨a', b', d', e', by rw [h', h]⟩

theorem Mapped.tlbAdd (s : State) (c acc : Nat) (e : TlbEnt) : Mapped s (s.onCore c fun k => k.tlbAdd acc e) c := by
  have h := (s.core c).tlbAdd_only acc e
  exact ⟨Quiet.onCore h.keep, by rw [State.core_onCore_same]; exact h, fun d hd => s.core_onCore_other _ hd, rfl, fun _ => rfl,
    (acts_onCore s c fun k => k.tlbAdd acc e).mono rfl rfl⟩

theorem State.worldOk_mapped (s : State) (key : Nat) (sec : Bool) (part pa c : Nat) : Mapped s (s.worldOk key sec part pa).2 c := by
  obtain ⟨h1, h2, h3, h4⟩ := s.worldOk_quiet key sec part pa c
  have e : ∀ d, (s.worldOk key sec part pa).2.core d = s.core d := fun d => by unfold State.core; rw [h2]
  exact ⟨h1, by rw [e]; exact TlbOnly.refl _, fun d _ => e d, h3, h4, (acts_worldOk s key sec part pa).mono rfl rfl⟩

/-- The checks of a physical address that go through: where it lies and what it leaves, whatever the attributes `att` allow. -/
theorem State.xlatChecks_ok (s : State) (c : Nat) (md : Mode) (size acc pa pb : Nat) (ewa : Bool) (wt : Option Bool)
    (att : Region → Nat → Bool) (pa' pb' : Nat) (e : Bool) (h : (s.xlatChecks c md size acc pa pb ewa wt att).1 = .ok pa' pb' e) :
    Mapped s (s.xlatChecks c md size acc pa pb ewa wt att).2 c ∧ pa' = pa ∧ pb' = pb ∧
    ∀ att', att' (s.region pa) pb = true → s.xlatChecks c md size acc pa pb ewa wt att' = s.xlatChecks c md size acc pa pb ewa wt att := by
  unfold State.xlatChecks at h ⊢
  dsimp only at h ⊢
  split at h
  · cases h
  · rename_i h1
    split at h
    · cases h
    · rename_i h2
      split at h
      · cases h
      · rename_i h3
        split at h
        · cases h
        · rename_i h4
          have ha : ∀ att' : Region → Nat → Bool, att' (s.region pa) pb = true → ¬att' (s.region pa) pb = false := fun _ e => by simp [e]
          rw [if_neg h1, if_neg h2, if_neg h3, if_neg h4]
          cases wt with
          | some b =>
            dsimp only at h ⊢
            split at h
            · rename_i h5
              injection h with e1 e2 _
              rw [if_pos h5]
              exact ⟨Mapped.refl _ _, e1.symm, e2.symm, fun att' ha' => by rw [if_neg h1, if_neg h2, if_neg h3, if_neg (ha att' ha')]⟩
            · cases h
          | none =>
            dsimp only at h ⊢
            split at h
            · rename_i h5
              injection h with e1 e2 _
              rw [if_pos h5]
              exact ⟨s.worldOk_mapped _ _ _ _ _, e1.symm, e2.symm, fun att' ha' => by rw [if_neg h1, if_neg h2, if_neg h3, if_neg (ha att' ha')]⟩
            · cases h

/-- An access that goes through, whatever attributes its instruction asks for (R75). -/
theorem State.xlatAs_ok (s : State) (c va size acc : Nat) (att : Region → Nat → Bool) (pa pb : Nat) (e : Bool)
    (h : (s.xlatAs c va size acc att).1 = .ok pa pb e) :
    Mapped s (s.xlatAs c va size acc att).2 c ∧
    ∀ att', att' (s.region pa) pb = true → s.xlatAs c va size acc att' = s.xlatAs c va size acc att := by
  unfold State.xlatAs at h ⊢
  dsimp only at h ⊢
  split at h
  · rename_i h1
    rw [if_pos h1]
    obtain ⟨m, rfl, rfl, k⟩ := s.xlatChecks_ok _ _ _ _ _ _ _ _ _ _ _ _ h
    exact ⟨m, fun att' ha => by rw [if_pos h1]; exact k att' ha⟩
  · rename_i h1
    rw [if_neg h1]
    split at h
    · cases h
    · rename_i e1 h2
      generalize (s.core c).getCsr (if ((s.core c).accMode acc).2 = true then 0x200 else 0x300) = st at h ⊢
      split at h
      · cases h
      · rename_i h3
        split at h
        · cases h
        · rename_i h4
          rw [if_neg h3, if_neg h4]
          have m0 := Mapped.tlbAdd s c acc e1
          split at h
          · rename_i h5
            rw [if_pos h5]
            obtain ⟨m, rfl, rfl, k⟩ := State.xlatChecks_ok _ _ _ _ _ _ _ _ _ _ _ _ _ h
            exact ⟨m0.trans m, fun att' ha => by rw [if_neg h1, if_neg h3, if_neg h4, if_pos h5]; exact k att' ha⟩
          · rename_i h5
            rw [if_neg h5]
            obtain ⟨m, rfl, rfl, k⟩ := State.xlatChecks_ok _ _ _ _ _ _ _ _ _ _ _ _ _ h
            exact ⟨m0.trans m, fun att' ha => by rw [if_neg h1, if_neg h3, if_neg h4, if_neg h5]; exact k att' ha⟩

theorem State.xlat_ok (s : State) (c va size acc pa pb : Nat) (e : Bool) (h : (s.xlat c va size acc).1 = .ok pa pb e) :
    Mapped s (s.xlat c va size acc).2 c ∧ ∀ att : Region → Nat → Bool, att (s.region pa) pb = true → s.xlatAs c va size acc att = s.xlat c va size acc :=
  s.xlatAs_ok c va size acc _ pa pb e h

/-- Clearing the other cores' reservations leaves this core alone; clearing its own leaves the rest of it. -/
theorem State.clearResv_quiet (s : State) (line : Nat) (ex : Option Nat) (c : Nat) : Quiet s (s.clearResv line ex) c := by
  unfold State.clearResv
  generalize s.coreIds = l
  induction l generalizing s with
  | nil => exact Quiet.refl _ _
  | cons d l ih =>
    rw [List.foldl_cons]
    refine Quiet.trans ?_ (ih _)
    split
    · split
      · by_cases e : c = d
        · subst e
          exact Quiet.onCore ⟨rfl, rfl, rfl, rfl, rfl, rfl, rfl, rfl, rfl, rfl, rfl, rfl⟩
        · exact Quiet.ofCore rfl (by rw [State.core_onCore_other _ _ e]; exact Keep.refl _)
      · exact Quiet.refl _ _
    · exact Quiet.refl _ _

/-- What a store outside a group leaves of a line it owns. -/
def L2Line.stored (l : L2Line) (pa n v : Nat) : L2Line :=
  { st := .m, d := { l.d with data := lineSet l.d.data (pa % 64) n v, poison := l.d.poison && !(n == 64) } }

/-- A store outside a group to a line the core owns writes the line and nothing else of its core's memory (R78). -/
theorem State.ownedWrite_plain (s : State) (c pa n v : Nat) (l : L2Line) (h : tget none (s.core c).l2 (pa / 64) = some l) :
    Quiet (s.onCore c fun k => { k with l2 := tset none k.l2 (pa / 64) (some (l.stored pa n v)) }) (s.ownedWrite c pa n v false) c := by
  unfold State.ownedWrite
  dsimp only
  rw [h]
  exact (State.clearResv_quiet _ _ _ _).trans (State.fillL1_quiet _ _ _)

theorem State.sendReqAs_quiet (s : State) (c line : Nat) (kind : ReqKind) (r0 : Req) : Quiet s (s.sendReqAs c line kind r0) c := by
  unfold State.sendReqAs
  dsimp only
  split
  · exact Quiet.refl _ _
  · split
    · exact Quiet.refl _ _
    · rename_i h
      have a := Quiet.ofActs (c := c) (acts_takeTxn_eq h) rfl rfl
      have p : ∀ (u : State) (q : Prop) [Decidable q] (m : MPkt), Quiet s u c → Quiet s (if q then u else u.post m) c := fun u q _ m hu => by
        split
        · exact hu
        · exact hu.trans (Quiet.ofActs (acts_post _ _) rfl rfl)
      refine p _ _ _ (a.trans (Quiet.trans (Quiet.onCore ?_) (Quiet.ofActs (acts_coreCount _ _ _) rfl rfl)))
      exact ⟨rfl, rfl, rfl, rfl, rfl, rfl, rfl, rfl, rfl, rfl, rfl, rfl⟩

theorem State.sendReq_quiet (s : State) (c line : Nat) (kind : ReqKind) (wr : Option LineData) : Quiet s (s.sendReq c line kind wr) c :=
  s.sendReqAs_quiet _ _ _ _

theorem State.wantOwnAs_quiet (s : State) (c line : Nat) (r0 : Req) : Quiet s (s.wantOwnAs c line r0) c := by
  unfold State.wantOwnAs
  split <;> exact s.sendReqAs_quiet _ _ _ _

theorem State.wantOwn_quiet (s : State) (c line : Nat) : Quiet s (s.wantOwn c line) c := s.wantOwnAs_quiet _ _ _

theorem State.ownReqs_quiet (s : State) (c : Nat) : Quiet s (s.ownReqs c) c := by
  unfold State.ownReqs
  generalize (s.core c).sb = l
  induction l generalizing s with
  | nil => exact Quiet.refl _ _
  | cons d l ih =>
    rw [List.foldl_cons]
    refine Quiet.trans ?_ (ih _)
    dsimp only
    split
    · exact s.wantOwnAs_quiet _ _ _
    · exact Quiet.refl _ _

theorem State.ledPair_congr (s t : State) (c : Nat) (h : t.pairs = s.pairs) : t.ledPair c = s.ledPair c := by
  unfold State.ledPair State.pairOf
  rw [h]

theorem State.pairLog_none (s : State) (c t : Nat) (v : W) (h : s.ledPair c = none) : s.pairLog c t v = s := by
  unfold State.pairLog; rw [h]
theorem State.pairStores_none (s : State) (c : Nat) (es : List StoreEnt) (h : s.ledPair c = none) : s.pairStores c es = s := by
  unfold State.pairStores; rw [h]
theorem State.allCompared_none (s : State) (c : Nat) (h : s.ledPair c = none) : s.allCompared c = true := by
  unfold State.allCompared; rw [h]
theorem State.rebase_quiet (s : State) (c : Nat) : Quiet s (s.rebase c) c := Quiet.ofActs (acts_rebase s c) rfl rfl
theorem State.closeIval_quiet (s : State) (c : Nat) : Quiet s (s.closeIval c) c := Quiet.ofActs (acts_closeIval s c) rfl rfl

/-- With tracing off no packet is recorded (R512). -/
theorem State.trace_off (s : State) (c typ info addr : Nat) (h : s.fld DBG_TRACE_CFG.EN 0 = 0) : s.trace c typ info addr = s := by
  unfold State.trace
  dsimp only
  rw [if_pos (.inr (.inr h))]

theorem Quiet.retire {s t : State} {c len : Nat} {a : Option MemAcc} (h : Quiet s t c) (hu : s.untriggered c a) (ds : List W) :
    (t.retire c len ds a).core c = (t.core c).advance ((s.core c).pc + BitVec.ofNat 64 len) := by
  rw [State.retire_core t c len ds a (h.untriggered hu), h.2.pc]

/-- An operation that leaves the trigger registers alone and changes of core `c` only what an instruction's retirement does not look at. -/
def Still (s t : State) (c : Nat) : Prop := (∀ r ∈ trigRegs, ∀ i, t.rd r i = s.rd r i) ∧ (t.core c).mode = (s.core c).mode ∧
  (t.core c).virt = (s.core c).virt ∧ (t.core c).secure = (s.core c).secure ∧ (t.core c).pc = (s.core c).pc ∧ (t.core c).step = (s.core c).step

theorem Still.untriggered {s t : State} {c : Nat} (h : Still s t c) {a : Option MemAcc} (hu : s.untriggered c a) : t.untriggered c a :=
  s.untriggered_congr t c a hu h.1 h.2.1 h.2.2.1 h.2.2.2.1 h.2.2.2.2.1 h.2.2.2.2.2

theorem Still.retire {s t : State} {c len : Nat} {a : Option MemAcc} (h : Still s t c) (hu : s.untriggered c a) (ds : List W) :
    (t.retire c len ds a).core c = (t.core c).advance ((s.core c).pc + BitVec.ofNat 64 len) := by
  rw [State.retire_core t c len ds a (h.untriggered hu), h.2.2.2.2.1]

end Sys2Proof.Machine
end

