-- ==== Sys2Proof/WellFormed.lean ====
section
/-! DEFINITION. Which operands a command can carry: register numbers, unit numbers, sizes and addresses in the ranges that the manual gives
them. Nothing outside these ranges can be put to the device. -/

namespace Sys2Proof

/-- A requester of the configuration space: a core slot (R21), or the debug module with one of the 16 partitions (R504). -/
def okAgent : Agent → Bool
  | .core c => decide (c < 120)
  | .macen => true
  | .sp => true
  | .dbg _ p => decide (p < 16)

/-- A debug port (R495). -/
def okDbgPort : DbgPort → Bool
  | .jtag => true
  | .mesh ag => okAgent ag

/-- A coherence requester: a core slot, or one of the four agents with a ring stop of its own (R13). -/
def okRq : Rq → Bool
  | .core c => decide (c < 120)
  | .agent pos => [0, 25, 26, 27].contains pos

/-- A destination register. -/
def okDst : Dst → Bool
  | .x rd _ => decide (rd < 32)
  | .f rd => decide (rd < 32)
  | .v rd => decide (rd < 32)

/-- A source register. -/
def okSrc : Src → Bool
  | .x r => decide (r < 32)
  | .f r => decide (r < 32)
  | .v r => decide (r < 32)

/-- A clock domain (R435). -/
def okDom : ClockDom → Bool
  | .core c => decide (c < 120)
  | .chan ch => decide (ch < 16)
  | .block u => decide (u < 84)
  | .aon | .sp | .macen | .mesh | .ext => true

/-- A folio's header fields in their widths, with at most 232 payload bytes (R226). -/
def okFolio (f : Folio) : Bool :=
  decide (f.typ < 2) && decide (f.seq < 4096) && decide (f.ack < 4096) && decide (f.cls < 8) && decide (f.seg < 4) &&
    decide (f.crClass < 8) && decide (f.crCount < 2048) && decide (f.payload.length ≤ 232) &&
    decide (f.plen ≤ 232) && decide (f.trailer.length ≤ 16)

/-- The check on a command's operands. -/
def wellFormed : Instr → Bool
  | .registerWrite ag pa size value => okAgent ag && decide (pa < 2 ^ 48) && [1, 2, 4, 8].contains size && decide (value < 2 ^ 64)
  | .rsSnapshotRead ag pa size => okAgent ag && decide (pa < 2 ^ 48) && (decide (size = 4) || decide (size = 8))
  | .load c dst rs1 _ size len acc _ off n insn => decide (c < 120) && okDst dst && decide (rs1 < 32) && decide (1 ≤ size ∧ size ≤ 32) && (decide (len = 2) || decide (len = 4)) && [0, 4, 6].contains acc && decide (off ≤ 32) && decide (n ≤ 32) && decide (insn.toNat < 2 ^ 32)
  | .store c src rs1 _ size len acc insn => decide (c < 120) && okSrc src && decide (rs1 < 32) && decide (1 ≤ size ∧ size ≤ 32) && (decide (len = 2) || decide (len = 4)) && [1, 5].contains acc && decide (insn.toNat < 2 ^ 32)
  | .storeBufferWrite c n => decide (c < 120) && decide (n < 96)
  | .amo c _ rd rs1 rs2 size _ _ len => decide (c < 120) && decide (rd < 32) && decide (rs1 < 32) && decide (rs2 < 32) && (decide (size = 4) || decide (size = 8)) && (decide (len = 2) || decide (len = 4))
  | .lr c rd rs1 size _ _ len => decide (c < 120) && decide (rd < 32) && decide (rs1 < 32) && (decide (size = 4) || decide (size = 8)) && (decide (len = 2) || decide (len = 4))
  | .sc c rd rs1 rs2 size _ _ len => decide (c < 120) && decide (rd < 32) && decide (rs1 < 32) && decide (rs2 < 32) && (decide (size = 4) || decide (size = 8)) && (decide (len = 2) || decide (len = 4))
  | .holdWindowEnd c => decide (c < 120)
  | .fence c pred succ len => decide (c < 120) && decide (pred < 16) && decide (succ < 16) && (decide (len = 2) || decide (len = 4))
  | .fenceTso c len => decide (c < 120) && (decide (len = 2) || decide (len = 4))
  | .fenceI c len => decide (c < 120) && (decide (len = 2) || decide (len = 4))
  | .sfenceVma c rs1 rs2 len insn => decide (c < 120) && decide (rs1 < 32) && decide (rs2 < 32) && (decide (len = 2) || decide (len = 4)) && decide (insn.toNat < 2 ^ 32)
  | .hfenceVvma c rs1 rs2 len insn => decide (c < 120) && decide (rs1 < 32) && decide (rs2 < 32) && (decide (len = 2) || decide (len = 4)) && decide (insn.toNat < 2 ^ 32)
  | .hfenceGvma c rs1 rs2 len insn => decide (c < 120) && decide (rs1 < 32) && decide (rs2 < 32) && (decide (len = 2) || decide (len = 4)) && decide (insn.toNat < 2 ^ 32)
  | .sinvalVma c kind rs1 rs2 len insn => decide (c < 120) && decide (kind < 3) && decide (rs1 < 32) && decide (rs2 < 32) && (decide (len = 2) || decide (len = 4)) && decide (insn.toNat < 2 ^ 32)
  | .sfenceWInval c len insn => decide (c < 120) && (decide (len = 2) || decide (len = 4)) && decide (insn.toNat < 2 ^ 32)
  | .sfenceInvalIr c len insn => decide (c < 120) && (decide (len = 2) || decide (len = 4)) && decide (insn.toNat < 2 ^ 32)
  | .cboZero c rs1 len insn => decide (c < 120) && decide (rs1 < 32) && (decide (len = 2) || decide (len = 4)) && decide (insn.toNat < 2 ^ 32)
  | .cboClean c rs1 len insn => decide (c < 120) && decide (rs1 < 32) && (decide (len = 2) || decide (len = 4)) && decide (insn.toNat < 2 ^ 32)
  | .cboFlush c rs1 len insn => decide (c < 120) && decide (rs1 < 32) && (decide (len = 2) || decide (len = 4)) && decide (insn.toNat < 2 ^ 32)
  | .cboInval c rs1 len insn => decide (c < 120) && decide (rs1 < 32) && (decide (len = 2) || decide (len = 4)) && decide (insn.toNat < 2 ^ 32)
  | .prefetch c kind rs1 _ len => decide (c < 120) && decide (kind < 3) && decide (rs1 < 32) && (decide (len = 2) || decide (len = 4))
  | .wfi c len insn => decide (c < 120) && (decide (len = 2) || decide (len = 4)) && decide (insn.toNat < 2 ^ 32)
  | .wfiWake c => decide (c < 120)
  | .pause c len => decide (c < 120) && (decide (len = 2) || decide (len = 4))
  | .pauseEnd c => decide (c < 120)
  | .timeRead c rd len insn => decide (c < 120) && decide (rd < 32) && (decide (len = 2) || decide (len = 4)) && decide (insn.toNat < 2 ^ 32)
  | .csrWrite c csr op rd rs1 _ len insn => decide (c < 120) && decide (csr < 4096) && decide (op < 3) && decide (rd < 32) && decide (rs1 < 32) && (decide (len = 2) || decide (len = 4)) && decide (insn.toNat < 2 ^ 32)
  | .ecall c => decide (c < 120)
  | .ebreak c => decide (c < 120)
  | .mret c insn => decide (c < 120) && decide (insn.toNat < 2 ^ 32)
  | .sret c insn => decide (c < 120) && decide (insn.toNat < 2 ^ 32)
  | .trap c _ code _ _ => decide (c < 120) && decide (code < 64)
  | .branchMispredict c rd _ _ _ _ _ len => decide (c < 120) && decide (rd < 32) && (decide (len = 2) || decide (len = 4))
  | .pageTableWalk c va acc _ => decide (c < 120) && decide (va < 2 ^ 64) && [0, 1, 2, 4, 5, 6].contains acc
  | .deviceStoreAck c _ tag status => decide (c < 120) && decide (tag < 1024) && decide (status < 5)
  | .rdShared c line => decide (c < 120) && decide (line < 2 ^ 42)
  | .rdOwn rq line => okRq rq && decide (line < 2 ^ 42)
  | .upgrade c line => decide (c < 120) && decide (line < 2 ^ 42)
  | .rdOnce pos line => decide (pos < 28) && decide (line < 2 ^ 42)
  | .wrLine pos line _ => decide (pos < 28) && decide (line < 2 ^ 42)
  | .cboFlushRequest c line => decide (c < 120) && decide (line < 2 ^ 42)
  | .amoHome c line => decide (c < 120) && decide (line < 2 ^ 42)
  | .nak rq line => okRq rq && decide (line < 2 ^ 42)
  | .nakRetry rq line => okRq rq && decide (line < 2 ^ 42)
  | .fairnessReservationDrop line => decide (line < 2 ^ 42)
  | .comp rq line => okRq rq && decide (line < 2 ^ 42)
  | .data rq line => okRq rq && decide (line < 2 ^ 42)
  | .deferRsp line => decide (line < 2 ^ 42)
  | .wbDirty c line => decide (c < 120) && decide (line < 2 ^ 42)
  | .evictClean c line => decide (c < 120) && decide (line < 2 ^ 42)
  | .wbAck c line => decide (c < 120) && decide (line < 2 ^ 42)
  | .wbAckDiscarded c line => decide (c < 120) && decide (line < 2 ^ 42)
  | .evictAck c line => decide (c < 120) && decide (line < 2 ^ 42)
  | .snpShared ring slot pos => decide (ring < 2) && decide (slot < 28) && decide (pos < 28)
  | .snpOwn ring slot pos => decide (ring < 2) && decide (slot < 28) && decide (pos < 28)
  | .snpOnce ring slot pos => decide (ring < 2) && decide (slot < 28) && decide (pos < 28)
  | .snpInv ring slot pos => decide (ring < 2) && decide (slot < 28) && decide (pos < 28)
  | .combinedResponse ring slot => decide (ring < 2) && decide (slot < 28)
  | .snoopSlotReservation line ring slot => decide (line < 2 ^ 42) && decide (ring < 2) && decide (slot < 28)
  | .timeout node tag => decide (node < 48) && decide (tag < 1024)
  | .lateResponse node tag => decide (node < 48) && decide (tag < 1024)
  | .errorResponse node tag status => decide (node < 48) && decide (tag < 1024) && decide (status < 5)
  | .linkCorrected node port wire => decide (node < 48) && decide (port < 4) && decide (wire < 1024)
  | .linkUncorrected node port => decide (node < 48) && decide (port < 4)
  | .apply ag node port _ => okAgent ag && decide (node < 48) && decide (port < 4)
  | .linkReconfigDone node port => decide (node < 48) && decide (port < 4)
  | .clear ag node _ => okAgent ag && decide (node < 48)
  | .close ag node sec _ => okAgent ag && decide (node < 48) && decide (sec < 5)
  | .lidOpen ag node sec _ => okAgent ag && decide (node < 48) && decide (sec < 5)
  | .lidDrain node sec => decide (node < 48) && decide (sec < 5)
  | .lidDrainLimit node sec => decide (node < 48) && decide (sec < 5)
  | .lidClosed node sec => decide (node < 48) && decide (sec < 5)
  | .domainOff node tag => decide (node < 48) && decide (tag < 1024)
  | .cgBegin c rd rs1 len insn => decide (c < 120) && decide (rd < 32) && decide (rs1 < 32) && (decide (len = 2) || decide (len = 4)) && decide (insn.toNat < 2 ^ 32)
  | .cgEnd c rd rs1 len insn => decide (c < 120) && decide (rd < 32) && decide (rs1 < 32) && (decide (len = 2) || decide (len = 4)) && decide (insn.toNat < 2 ^ 32)
  | .cgAbort c rs1 len insn => decide (c < 120) && decide (rs1 < 32) && (decide (len = 2) || decide (len = 4)) && decide (insn.toNat < 2 ^ 32)
  | .cgTest c rd len insn => decide (c < 120) && decide (rd < 32) && (decide (len = 2) || decide (len = 4)) && decide (insn.toNat < 2 ^ 32)
  | .fenceD c len insn => decide (c < 120) && (decide (len = 2) || decide (len = 4)) && decide (insn.toNat < 2 ^ 32)
  | .cgInterruptDeferral c => decide (c < 120)
  | .stagingReservation c => decide (c < 120)
  | .stagingGrant c => decide (c < 120)
  | .journalFull c => decide (c < 120)
  | .stagingCancel c => decide (c < 120)
  | .commitRequest c => decide (c < 120)
  | .commitReply c => decide (c < 120)
  | .flipWindowEnd c => decide (c < 120)
  | .recordSegment stream g => decide (stream < 64) && decide (g < 2 ^ 48)
  | .watermarkPublication dest => decide (dest < 28)
  | .cgDepseqWrite c op rd rs1 _ len => decide (c < 120) && decide (op < 3) && decide (rd < 32) && decide (rs1 < 32) && (decide (len = 2) || decide (len = 4))
  | .cgDepseqAnswer c => decide (c < 120)
  | .lostClear c op rd rs1 _ len => decide (c < 120) && decide (op < 3) && decide (rd < 32) && decide (rs1 < 32) && (decide (len = 2) || decide (len = 4))
  | .publicationRound => true
  | .resolution stream => decide (stream < 64)
  | .streamEnable ag stream level => okAgent ag && decide (stream < 64) && decide (level < 4)
  | .streamDisable ag stream level => okAgent ag && decide (stream < 64) && decide (level < 4)
  | .fenceStream ag stream => okAgent ag && decide (stream < 64)
  | .resume ag stream => okAgent ag && decide (stream < 64)
  | .restart ag stream => okAgent ag && decide (stream < 64)
  | .sweep stream dest => decide (stream < 64) && decide (dest < 28)
  | .sweepAnswer stream dest => decide (stream < 64) && decide (dest < 28)
  | .closeMark c => decide (c < 120)
  | .journalAppend stream => decide (stream < 64)
  | .appendAccepted stream g => decide (stream < 64) && decide (g < 2 ^ 48)
  | .drainPtrWrite ag stream _ => okAgent ag && decide (stream < 64)
  | .park c op rd rs1 _ len insn => decide (c < 120) && decide (op < 3) && decide (rd < 32) && decide (rs1 < 32) && (decide (len = 2) || decide (len = 4)) && decide (insn.toNat < 2 ^ 32)
  | .bind c op rd rs1 _ len insn => decide (c < 120) && decide (op < 3) && decide (rd < 32) && decide (rs1 < 32) && (decide (len = 2) || decide (len = 4)) && decide (insn.toNat < 2 ^ 32)
  | .unbind c op rd rs1 _ len insn => decide (c < 120) && decide (op < 3) && decide (rd < 32) && decide (rs1 < 32) && (decide (len = 2) || decide (len = 4)) && decide (insn.toNat < 2 ^ 32)
  | .pairSync c len insn => decide (c < 120) && (decide (len = 2) || decide (len = 4)) && decide (insn.toNat < 2 ^ 32)
  | .intervalEnd i => decide (i < 48)
  | .intervalComparison i _ _ _ => decide (i < 48)
  | .voteSparePowered i => decide (i < 48)
  | .voteResult i _ _ _ _ _ => decide (i < 48)
  | .voteLimit i => decide (i < 48)
  | .enable ag p _ => okAgent ag && decide (p < 8)
  | .retrain ag p _ => okAgent ag && decide (p < 8)
  | .laneSwap ag p _ => okAgent ag && decide (p < 8)
  | .laneSwapPacket => true
  | .trainingComplete p lanes _ => decide (p < 8) && (decide (lanes = 2) || decide (lanes = 4))
  | .trainingRetry p => decide (p < 8)
  | .attestNonce => true
  | .attestEvidence => true
  | .attestResult => true
  | .attestationLimit p => decide (p < 8)
  | .dataFolio p f => decide (p < 8) && okFolio f
  | .idleFolio p f => decide (p < 8) && okFolio f
  | .folioNak p ack => decide (p < 8) && decide (ack < 4096)
  | .nakRepeat p => decide (p < 8)
  | .replayTimeout p => decide (p < 8)
  | .linkDown p _ => decide (p < 8)
  | .switchForward p => decide (p < 8)
  | .apertureAccess node tag => decide (node < 48) && decide (tag < 1024)
  | .write => true
  | .read => true
  | .atomic => true
  | .readRsp => true
  | .writeAck => true
  | .atomicRsp => true
  | .remoteReadTimeout tag => decide (tag < 2 ^ 16)
  | .msg => true
  | .msgRsp => true
  | .tail ag q _ => okAgent ag && decide (q < 16)
  | .consumer ag ring _ => okAgent ag && decide (ring < 256)
  | .timeSync => true
  | .timeSyncInterval p => decide (p < 8)
  | .timeDelayReq => true
  | .timeDelayRsp => true
  | .remoteReset => true
  | .remoteResetVerified => true
  | .remoteResetRsp => true
  | .quire => true
  | .ack => true
  | .reject => true
  | .probe => true
  | .probeInterval stream r => decide (stream < 64) && decide (r < 2)
  | .rejoin => true
  | .termRequest => true
  | .termGrant => true
  | .termRefuse => true
  | .lastGasp => true
  | .cmdPromote ag stream _ => okAgent ag && decide (stream < 64)
  | .stepDown ag stream _ => okAgent ag && decide (stream < 64)
  | .promotionLimit stream => decide (stream < 64)
  | .replicaSilent stream r => decide (stream < 64) && decide (r < 2)
  | .catchupWalk stream r => decide (stream < 64) && decide (r < 2)
  | .catchupSwitch stream r => decide (stream < 64) && decide (r < 2)
  | .slotValid ag slot _ => okAgent ag && decide (slot < 64)
  | .lastGaspBudget stream => decide (stream < 64)
  | .degradedFromClear ag stream _ => okAgent ag && decide (stream < 64)
  | .channelTraining ch _ => decide (ch < 16)
  | .dramZeroing => true
  | .mctDecodeWrite ag n _ => okAgent ag && decide (n < 8)
  | .mcRead line cls part _ => decide (line < 2 ^ 42) && decide (cls < 4) && decide (part < 16)
  | .mcWrite line _ mask _ cls part _ _ _ => decide (line < 2 ^ 42) && decide (mask < 2 ^ 64) && decide (cls < 4) && decide (part < 16)
  | .dramReadComplete ch _ _ _ => decide (ch < 16)
  | .refresh ch rank _ => decide (ch < 16) && decide (rank < 16)
  | .zqcs ch rank => decide (ch < 16) && decide (rank < 16)
  | .caParityFailure ch => decide (ch < 16)
  | .channelLost ch => decide (ch < 16)
  | .deviceErased ch rank dev => decide (ch < 16) && decide (rank < 16) && decide (dev < 18)
  | .pprApplied ch line _ => decide (ch < 16) && decide (line < 2 ^ 42)
  | .rankSpared ch rank => decide (ch < 16) && decide (rank < 16)
  | .rankCopyDone ch => decide (ch < 16)
  | .patrolScrub ch _ _ => decide (ch < 16)
  | .selfRefreshEntry ch => decide (ch < 16)
  | .selfRefreshExit ch => decide (ch < 16)
  | .eccCountClear ag ch _ => okAgent ag && decide (ch < 16)
  | .pcieOutboundRequest node tag p _ => decide (node < 48) && decide (tag < 1024) && decide (p < 4)
  | .pcieCompletion c tag status _ _ => decide (c < 4) && decide (tag < 1024) && decide (status < 3)
  | .pcieCplTimeout c tag => decide (c < 4) && decide (tag < 1024)
  | .pcieInboundRequest c p rid _ addr len _ _ _ _ => decide (c < 4) && decide (p < 4) && decide (rid < 65536) && decide (addr < 2 ^ 64) && decide (len < 4097)
  | .pcieLinkDown c p _ _ _ _ _ => decide (c < 4) && decide (p < 4)
  | .pcieAer c p sev => decide (c < 4) && decide (p < 4) && decide (sev < 3)
  | .perstRel ag c p _ => okAgent ag && decide (c < 4) && decide (p < 4)
  | .invalPartition ag part _ => okAgent ag && decide (part < 16)
  | .invalFatEntry ag part _ => okAgent ag && decide (part < 16)
  | .invalVmid ag part _ => okAgent ag && decide (part < 16)
  | .invalDone part => decide (part < 16)
  | .cphTail ag k r _ => okAgent ag && decide (k < 2) && decide (r < 32)
  | .descriptorFetch k => decide (k < 2)
  | .aesEncrypt k r ix => decide (k < 2) && decide (r < 32) && decide (ix < 2 ^ 16)
  | .aesDecrypt k r ix => decide (k < 2) && decide (r < 32) && decide (ix < 2 ^ 16)
  | .aesCmacGenerate k r ix => decide (k < 2) && decide (r < 32) && decide (ix < 2 ^ 16)
  | .aesCmacVerify k r ix => decide (k < 2) && decide (r < 32) && decide (ix < 2 ^ 16)
  | .tdesEncrypt k r ix => decide (k < 2) && decide (r < 32) && decide (ix < 2 ^ 16)
  | .tdesDecrypt k r ix => decide (k < 2) && decide (r < 32) && decide (ix < 2 ^ 16)
  | .retailMacGenerate k r ix => decide (k < 2) && decide (r < 32) && decide (ix < 2 ^ 16)
  | .retailMacVerify k r ix => decide (k < 2) && decide (r < 32) && decide (ix < 2 ^ 16)
  | .hash k r ix => decide (k < 2) && decide (r < 32) && decide (ix < 2 ^ 16)
  | .hmacGenerate k r ix => decide (k < 2) && decide (r < 32) && decide (ix < 2 ^ 16)
  | .hmacVerify k r ix => decide (k < 2) && decide (r < 32) && decide (ix < 2 ^ 16)
  | .rsaVerify k r ix => decide (k < 2) && decide (r < 32) && decide (ix < 2 ^ 16)
  | .rsaSign k r ix => decide (k < 2) && decide (r < 32) && decide (ix < 2 ^ 16)
  | .ecdsaVerify k r ix => decide (k < 2) && decide (r < 32) && decide (ix < 2 ^ 16)
  | .ecdsaSign k r ix => decide (k < 2) && decide (r < 32) && decide (ix < 2 ^ 16)
  | .ed25519Verify k r ix => decide (k < 2) && decide (r < 32) && decide (ix < 2 ^ 16)
  | .ed25519Sign k r ix => decide (k < 2) && decide (r < 32) && decide (ix < 2 ^ 16)
  | .mlDsa65Verify k r ix => decide (k < 2) && decide (r < 32) && decide (ix < 2 ^ 16)
  | .mlDsa65Sign k r ix => decide (k < 2) && decide (r < 32) && decide (ix < 2 ^ 16)
  | .pinTranslate k r ix => decide (k < 2) && decide (r < 32) && decide (ix < 2 ^ 16)
  | .dukptPinTranslate k r ix => decide (k < 2) && decide (r < 32) && decide (ix < 2 ^ 16)
  | .dukptMacVerify k r ix => decide (k < 2) && decide (r < 32) && decide (ix < 2 ^ 16)
  | .cryptogramVerify k r ix => decide (k < 2) && decide (r < 32) && decide (ix < 2 ^ 16)
  | .random k r ix => decide (k < 2) && decide (r < 32) && decide (ix < 2 ^ 16)
  | .jobComplete k r ix => decide (k < 2) && decide (r < 32) && decide (ix < 2 ^ 16)
  | .cipherSelftest k _ => decide (k < 2)
  | .wpcSyncGo ag _ => okAgent ag
  | .wpcSyncDone => true
  | .lock ag _ => okAgent ag
  | .reset ag part _ => okAgent ag && decide (part < 16)
  | .release ag part _ => okAgent ag && decide (part < 16)
  | .partitionReset part => decide (part < 16)
  | .partitionFlushDone part => decide (part < 16)
  | .flushLimit part => decide (part < 16)
  | .wcall c insn => decide (c < 120) && decide (insn.toNat < 2 ^ 32)
  | .wcallVersion c => decide (c < 120)
  | .pairBind c => decide (c < 120)
  | .pairUnbind c => decide (c < 120)
  | .partResetSelf c => decide (c < 120)
  | .sourcePending src _ => decide (src < 2048)
  | .messageInterrupt hart page prio => decide (hart < 96) && decide (page ≤ 16) && decide (prio < 256)
  | .evrTgtClaim ag h t => okAgent ag && decide (h < 96) && decide (t ≤ 16)
  | .evrTgtEoi ag h t _ => okAgent ag && decide (h < 96) && decide (t ≤ 16)
  | .evrTgtInject ag h t _ => okAgent ag && decide (h < 96) && decide (t ≤ 16)
  | .evrSrcCfgWrite ag n _ => okAgent ag && decide (n < 2048)
  | .nmiEntry c => decide (c < 120)
  | .keyGenerate ag cls _ part _ _ size => okAgent ag && decide (cls < 16) && decide (part < 16) && decide (size ≤ 512)
  | .keyImport ag _ _ part _ size _ => okAgent ag && decide (part < 16) && decide (size ≤ 512)
  | .keyExport ag h _ => okAgent ag && decide (h < 2 ^ 16)
  | .keyDelete ag h => okAgent ag && decide (h < 2 ^ 16)
  | .keyInfo ag h => okAgent ag && decide (h < 2 ^ 16)
  | .fmKeySet ag _ => okAgent ag
  | .imageArm ag slot _ _ _ => okAgent ag && decide (slot < 2)
  | .trialConfirm ag _ _ => okAgent ag
  | .revokeImageKey ag k _ => okAgent ag && decide (k < 8)
  | .revokeDebugKey ag k _ => okAgent ag && decide (k < 8)
  | .lcAdvance ag target _ => okAgent ag && decide (target < 8)
  | .keystoreErase ag => okAgent ag
  | .attest ag nonce => okAgent ag && decide (nonce.length = 32)
  | .tamper sensor => decide (sensor < 5)
  | .spBoot _ _ => true
  | .trialWatchdogWarning => true
  | .trialWatchdogExpiry => true
  | .chunk _ _ => true
  | .finish _ _ => true
  | .rcvAbort _ => true
  | .fabricRecovery p off _ _ _ => decide (p < 8) && decide (off < 2 ^ 32)
  | .powerOnReset cause => decide (cause < 13)
  | .systemReset cause => decide (cause < 13)
  | .coreReset cs => (cs.all fun c => decide (c < 120))
  | .blockReset u => decide (u < 84)
  | .resetInN _ => true
  | .pwrgood sig _ => decide (sig < 6)
  | .thermtrip => true
  | .resetHoldEnd => true
  | .domainRelease step _ => decide (1 ≤ step ∧ step ≤ 8)
  | .optionLoading src _ => decide (src < 8)
  | .lockLoss d => okDom d
  | .regulatorFault reg units => decide (reg < 144) && (units.all fun u => decide (u < 84))
  | .railNearEdge rail => decide (rail < 5)
  | .vbakLost => true
  | .powerFailWarning => true
  | .prochotN _ => true
  | .throttleEntry sensor _ => decide (sensor < 48)
  | .throttleExit sensor _ => decide (sensor < 48)
  | .target ag p _ => okAgent ag && decide (p < 16)
  | .pstateChangeDone p => decide (p < 16)
  | .pwrOn ag u _ => okAgent ag && decide (u < 84)
  | .powerGateDone u => decide (u < 84)
  | .corePowerGate c => decide (c < 120)
  | .packageIdleEntry => true
  | .packageIdleExit => true
  | .kick ag wd _ => okAgent ag && decide (wd ≤ 16)
  | .watchdogHalf wd => decide (wd ≤ 16)
  | .watchdogExpiry wd => decide (wd ≤ 16)
  | .clearCauses ag _ => okAgent ag
  | .rtcWrite ag _ => okAgent ag
  | .ring ag n _ => okAgent ag && decide (n < 19)
  | .mbxAck ag n _ => okAgent ag && decide (n < 19)
  | .commandFinished n => decide (n < 19)
  | .operationFinished n _ => decide (n < 19)
  | .featuresGet n => decide (n < 19)
  | .featuresSet n => decide (n < 19)
  | .opStatus n => decide (n < 19)
  | .version n => decide (n < 19)
  | .pstateSet n => decide (n < 19)
  | .pstateGet n => decide (n < 19)
  | .blockPower n => decide (n < 19)
  | .idlePolicy n => decide (n < 19)
  | .powerRead n _ => decide (n < 19)
  | .errlogRead n => decide (n < 19)
  | .sparesGet n => decide (n < 19)
  | .ageingGet n => decide (n < 19)
  | .coreSwap n => decide (n < 19)
  | .partReset n => decide (n < 19)
  | .hartRelease n => decide (n < 19)
  | .partStatus n => decide (n < 19)
  | .wtAssign n => decide (n < 19)
  | .ownerSet n => decide (n < 19)
  | .routeSet n => decide (n < 19)
  | .portSet n => decide (n < 19)
  | .portGet n => decide (n < 19)
  | .nodeSet n => decide (n < 19)
  | .replCfg n => decide (n < 19)
  | .promote n => decide (n < 19)
  | .mbxStepDown n => decide (n < 19)
  | .slotArm n => decide (n < 19)
  | .slotDisarm n => decide (n < 19)
  | .replGet n => decide (n < 19)
  | .ladleSet n => decide (n < 19)
  | .imageWrite n => decide (n < 19)
  | .mbxImageArm n _ => decide (n < 19)
  | .mbxTrialConfirm n _ _ => decide (n < 19)
  | .mbxRevokeImageKey n _ => decide (n < 19)
  | .mbxAttest n => decide (n < 19)
  | .timeGet n => decide (n < 19)
  | .rtcSet n => decide (n < 19)
  | .errorRecord source unit cls code addr _ => decide (source < 48) && decide (unit < 256) && decide (cls < 4) && decide (code < 4096) && decide (addr < 2 ^ 64)
  | .macenRestart _ => true
  | .writeWord w _ => decide (w < 65536)
  | .blockWrite bs _ => decide (bs.length ≤ 255)
  | .blockRead _ => true
  | .writeByte _ _ => true
  | .smbusTimeout => true
  | .ageingSample _ => true
  | .liveCoreSwap t => decide (t < 24)
  | .swapSparePowered t => decide (t < 24)
  | .swapInReset c => decide (c < 120)
  | .oldSlotGated t => decide (t < 24)
  | .repairLogAppend _ => true
  | .sramRowSpare arr _ _ => decide (arr < 553)
  | .coreArrayRowSpare arr _ _ => decide (arr < 553)
  | .spdLogWrite ch dimm typ _ _ _ _ => decide (ch < 16) && decide (dimm < 2) && decide (1 ≤ typ ∧ typ ≤ 4)
  | .idcode => true
  | .samplePreload _ _ => true
  | .extest => true
  | .dbgacc op off _ => [1, 2].contains op && decide (off < 2 ^ 32)
  | .lcCmd target _ => decide (target < 8)
  | .bypass => true
  | .tapReset => true
  | .verify p _ => okDbgPort p
  | .verifyComplete p => okDbgPort p
  | .dbgEnd p _ => okDbgPort p
  | .debugSystemReset p _ => okDbgPort p
  | .haltHart p h _ => okDbgPort p && decide (h < 96)
  | .haltTaken c => decide (c < 120)
  | .debugResume p h _ => okDbgPort p && decide (h < 96)
  | .stepHart p h _ => okDbgPort p && decide (h < 96)
  | .debugCoreReset p h _ => okDbgPort p && decide (h < 96)
  | .regdataAccess p h _ => okDbgPort p && decide (h < 96)
  | .goCmd p _ => okDbgPort p
  | .debugAccessComplete => true
  | .freezeRelease part => decide (part < 16)
  | .vtTx p i _ _ => okDbgPort p && decide (i < 196)
  | .vtRx p i _ _ => okDbgPort p && decide (i < 196)
  | .traceSync => true
  | .ladleTick => true
  | .ladleRecord => true
  | .uartTransmit ag u _ => okAgent ag && decide (u < 2)
  | .uartReceiveRead ag u => okAgent ag && decide (u < 2)
  | .uartCharacter u _ _ => decide (u < 2)
  | .pllRelock d => okDom d
  | .pfwNRelease => true
  | .secondaryBusResetEnd c p => decide (c < 4) && decide (p < 4)
  | .powerUpDone u => decide (u < 84)
  | .uartCharacterSent u => decide (u < 2)
  | .dimmTemperature ch dimm _ => decide (ch < 16) && decide (dimm < 2)

end Sys2Proof
end

