-- ==== Sys2Proof/Tests/Slice0.lean ====
section
/-! SUPPORT. The smoke tests of WellFormed, and for every statement a state and operands that meet its hypotheses. -/

set_option Elab.async false

namespace Sys2Proof.Tests

open Sys2Proof Sys2Proof.Machine

/-- Commands with one operand outside its range, a different check in each. -/
theorem test_ill_formed_1 : (([.registerWrite (.core 120) 0 1 0, .registerWrite .macen (2 ^ 48) 1 0, .registerWrite .macen 0 77 0, .registerWrite .macen 0 1 (2 ^ 64),
   .rsSnapshotRead .macen 0 3, .load (120) (.x 0 false) 0 0 1 2 0 0 0 0 0, .load 0 (.x 32 false) 0 0 1 2 0 0 0 0 0,
   .load 0 (.x 0 false) (32) 0 1 2 0 0 0 0 0, .load 0 (.x 0 false) 0 0 (32 + 1) 2 0 0 0 0 0, .load 0 (.x 0 false) 0 0 1 3 0 0 0 0 0,
   .load 0 (.x 0 false) 0 0 1 2 77 0 0 0 0, .load 0 (.x 0 false) 0 0 1 2 0 0 (32 + 1) 0 0, .load 0 (.x 0 false) 0 0 1 2 0 0 0 (32 + 1) 0,
   .load 0 (.x 0 false) 0 0 1 2 0 0 0 0 (BitVec.ofNat 64 (2 ^ 32)), .store 0 (.x 32) 0 0 1 2 1 0, .store 0 (.x 0) 0 0 1 2 77 0,
   .storeBufferWrite 0 (96), .amo 0 .swap (32) 0 0 4 false false 2, .amo 0 .swap 0 0 (32) 4 false false 2, .fence 0 (16) 0 2, .fence 0 0 (16) 2,
   .sinvalVma 0 (3) 0 0 2 0, .csrWrite 0 (4096) 0 0 0 false 2 0, .csrWrite 0 0 (3) 0 0 false 2 0, .trap 0 false (64) 0 0,
   .pageTableWalk 0 (2 ^ 64) 0 false, .pageTableWalk 0 0 77 false, .deviceStoreAck 0 false (1024) 0] : List Instr).all fun i => !wellFormed i) = true := by decide +kernel
/-- Commands with one operand outside its range, a different check in each. -/
theorem test_ill_formed_2 : (([.deviceStoreAck 0 false 0 (5), .rdShared 0 (2 ^ 42), .rdOwn (.agent 1) 0, .rdOnce (28) 0, .snpShared (2) 0 0, .snpShared 0 (28) 0,
   .timeout (48) 0, .linkCorrected 0 (4) 0, .linkCorrected 0 0 (1024), .close .macen 0 (5) 0, .recordSegment (64) 0, .recordSegment 0 (2 ^ 48),
   .watermarkPublication (28), .streamEnable .macen 0 (4), .intervalEnd (48), .enable .macen (8) 0, .trainingComplete 0 3 0,
   .dataFolio 0 { typ := 2 }, .folioNak 0 (4096), .remoteReadTimeout (2 ^ 16), .tail .macen (16) 0, .consumer .macen (256) 0, .probeInterval 0 (2),
   .slotValid .macen (64) 0, .channelTraining (16) {}, .mctDecodeWrite .macen (8) 0, .mcRead 0 (4) 0 false, .mcRead 0 0 (16) false] : List Instr).all fun i => !wellFormed i) = true := by decide +kernel
/-- Commands with one operand outside its range, a different check in each. -/
theorem test_ill_formed_3 : (([.mcWrite 0 0 (2 ^ 64) false 0 0 false {} {}, .refresh 0 (16) false, .deviceErased 0 0 (18), .pcieOutboundRequest 0 0 (4) false,
   .pcieCompletion (4) 0 0 0 false, .pcieCompletion 0 0 (3) 0 false, .pcieInboundRequest 0 0 (65536) false 0 0 [] false false false,
   .pcieInboundRequest 0 0 0 false (2 ^ 64) 0 [] false false false, .pcieInboundRequest 0 0 0 false 0 (4097) [] false false false, .pcieAer 0 0 (3),
   .cphTail .macen (2) 0 0, .cphTail .macen 0 (32) 0, .aesEncrypt 0 0 (2 ^ 16), .sourcePending (2048) false, .messageInterrupt (96) 0 0,
   .messageInterrupt 0 (16 + 1) 0, .messageInterrupt 0 0 (256), .evrTgtClaim .macen (96) 0, .evrTgtClaim .macen 0 (16 + 1),
   .evrSrcCfgWrite .macen (2048) 0, .keyGenerate .macen (16) false 0 0 0 0, .keyGenerate .macen 0 false 0 0 0 (512 + 1),
   .keyExport .macen (2 ^ 16) 0, .imageArm .macen (2) 0 0 false, .revokeImageKey .macen (8) [], .lcAdvance .macen (8) [],
   .attest .macen (List.replicate (32 + 1) 0), .tamper (5)] : List Instr).all fun i => !wellFormed i) = true := by decide +kernel
/-- Commands with one operand outside its range, a different check in each. -/
theorem test_ill_formed_4 : (([.fabricRecovery 0 (2 ^ 32) [] false false, .powerOnReset (13), .coreReset [120], .blockReset (84), .pwrgood (6) false, .domainRelease (8 + 1) [],
   .optionLoading (8) false, .lockLoss (.block 84), .regulatorFault (144) [], .regulatorFault 0 [120], .railNearEdge (5), .throttleEntry (48) 0,
   .target .macen (16) 0, .kick .macen (16 + 1) 0, .ring .macen (19) 0, .errorRecord (48) 0 0 0 0 0, .errorRecord 0 (256) 0 0 0 0,
   .errorRecord 0 0 0 (4096) 0 0, .writeWord (65536) false, .blockWrite (List.replicate (255 + 1) 0) false, .liveCoreSwap (24),
   .sramRowSpare (553) 0 [], .spdLogWrite 0 (2) 1 0 0 0 false, .spdLogWrite 0 0 (4 + 1) 0 0 0 false, .dbgacc 77 0 0, .verify (.mesh (.core 120)) 0,
   .vtTx .jtag (196) none false, .uartTransmit .macen (2) 0] : List Instr).all fun i => !wellFormed i) = true := by decide +kernel
theorem test_well_formed : (([.registerWrite .macen 0 1 0, .rsSnapshotRead .macen 0 4, .load 0 (.x 0 false) 0 0 1 2 0 0 0 0 0, .store 0 (.x 0) 0 0 1 2 1 0,
   .storeBufferWrite 0 0, .amo 0 .swap 0 0 0 4 false false 2, .lr 0 0 0 4 false false 2, .sc 0 0 0 0 4 false false 2, .holdWindowEnd 0,
   .fence 0 0 0 2, .fenceTso 0 2, .fenceI 0 2, .sfenceVma 0 0 0 2 0, .hfenceVvma 0 0 0 2 0, .hfenceGvma 0 0 0 2 0, .sinvalVma 0 0 0 0 2 0,
   .sfenceWInval 0 2 0, .sfenceInvalIr 0 2 0, .cboZero 0 0 2 0, .cboClean 0 0 2 0, .cboFlush 0 0 2 0, .cboInval 0 0 2 0, .prefetch 0 0 0 0 2,
   .wfi 0 2 0] : List Instr).all wellFormed) = true := by decide +kernel

/-- The device after reset with core 0 running in M-mode. -/
def wRun : State := State.reset.onCore 0 fun k => { k with run := .running }
/-- A condition about what a core carries out, on a small state. -/
theorem runs_of {s : State} {c : Nat} (h : (s.ready c && !(s.core c).step && (s.fired c (trigTests (s.core c).pc.toNat none)).isEmpty) = true) :
    s.runs c := by
  simp only [Bool.and_eq_true, Bool.not_eq_true', List.isEmpty_iff] at h
  exact ⟨h.1.1, h.1.2, h.2⟩
theorem wRun_runs : wRun.runs 0 := runs_of (by decide +kernel)

/-- No core of a state is in a group where none of those listed is. -/
theorem groups_none {s : State} (h : (s.cores.all fun p => p.2.group.isNone) = true) : s.noGroups := by
  intro c
  unfold State.core
  simp only [List.all_eq_true, Option.isNone_iff_eq_none] at h
  generalize s.cores = l at h
  induction l with
  | nil => rfl
  | cons p l ih =>
    obtain ⟨a, b⟩ := p
    by_cases e : a = c
    · simp only [tget, e]
      simpa using h (a, b) (by simp)
    · have := ih fun x hx => h x (by simp [hx])
      simpa [tget, e] using this
/-- The device after reset with one window of DRAM, and core 1 of no hart running in the secure world with x1 = 64 and line 1 in M. -/
def wMem : State :=
  (((((State.reset.setFld MCT_DECODE.VALID 0 1).setFld MCT_DECODE.LIMIT_GIB 0 1).setFld MCT_DECODE.CH_MASK 0 1).setSlot 1 1 0x7F).onCore 1 fun k =>
    { (k.setX 1 64).setX 2 7 with run := .running, l2 := [(1, some { st := .m, d := { data := 5 } })] })

/-! ### General -/

/-- States for the general statements: two commands queued; the reset counter at its end; partition 3 in reset step 3; the backup domain lost
before step 5 of a release; and a core in a group without writes. -/
def wGenQueue : State := { State.reset with pending := [.vbakLost, .idcode] }
def wGenLast : State := { State.reset.setFld RCP_RESET_CAUSE.TOTAL 0 0xFFFFFFFF with remote := { accepted := true } }
def wGenFlush : State := { State.reset with partStep := [(3, 3)], hartPart := [(0, 3)] }
def wGenVbak : State :=
  { (State.reset.setFld RCP_RESET_CAUSE.VBAK_LOST 0 1).setFld EVR_SRC_CFG.EN 1615 1 with relStep := 4 }
def wGenEmpty (x : W) : State :=
  ((State.reset.setSlot 1 1 0x7F).onCore 1 fun k =>
    { k.setX 6 x with run := .running, secure := false, mode := .s, group := some { stream := 0 }, deps := [(0, { seq := 2, lost := false })] })
theorem witness_queue : wGenQueue.pending = .vbakLost :: [.idcode] ∧ State.reset.pending = [] ∧ (∃ t, step State.reset = .next t) :=
  ⟨rfl, rfl, _, rfl⟩
theorem witness_frame : ∃ t, exec .vbakLost wGenQueue = .next t := ⟨_, rfl⟩
theorem witness_fuses : ({ State.reset with fuses := [(0, true)] } : State).fuse 0 = true ∧
    ∃ t, step { State.reset with fuses := [(0, true)] } = .next t := ⟨by decide, _, rfl⟩
theorem witness_satp : field (0x8000000000000000 : W) 63 60 ∈ [0, 8, 9, 10] ∧ field (0x1000000000000000 : W) 63 60 ∉ [0, 8, 9, 10] := by decide
theorem witness_last_count : wGenLast.fld RCP_RESET_CAUSE.TOTAL 0 = 0xFFFFFFFF ∧ wGenLast.remote.accepted = true := by decide +kernel
theorem witness_flush_done : tget 0 wGenFlush.partStep 3 = 3 ∧ ∀ c ∈ wGenFlush.partCores 3, (wGenFlush.core c).flushed = true := by decide +kernel
theorem witness_backup_domain : wGenVbak.fld RCP_RESET_CAUSE.VBAK_LOST 0 = 1 ∧ wGenVbak.rstLevel = 0 ∧ wGenVbak.relStep = 4 ∧
    wGenVbak.stepReady 5 = true ∧ wGenVbak.canPend 1615 := ⟨by decide +kernel, by decide +kernel, by decide +kernel, by decide +kernel,
  by unfold State.canPend; decide +kernel⟩
theorem witness_empty_group : (wGenEmpty 1).runs 1 ∧ (wGenEmpty 1).ledPair 1 = none ∧ (wGenEmpty 1).fld DBG_TRACE_CFG.EN 0 = 0 ∧
    custom0Bad 0x0002D28B true true = false ∧ (wGenEmpty 1).allCompared 1 = true ∧ ((wGenEmpty 1).core 1).cgWait = none ∧ ((wGenEmpty 1).core 1).cgMode = true ∧ field (((wGenEmpty 1).core 1).getX 6) 63 1 = 0 ∧
    ((wGenEmpty 1).core 1).group = some { stream := 0 } ∧ ((wGenEmpty 1).core 1).anyLost = false ∧ ((wGenEmpty 1).core 1).sb.any (·.grp) = false ∧
    bit (((wGenEmpty 1).core 1).getX 6) 0 = true := ⟨runs_of (by decide +kernel), by decide +kernel⟩
theorem witness_empty_group_waits : (wGenEmpty 0).runs 1 ∧ bit (((wGenEmpty 0).core 1).getX 6) 0 = false ∧ (wGenEmpty 0).undurable 1 ≠ [] ∧
    (((wGenEmpty 0).undurable 1).filter fun d => d.1 ≠ 0).length ≤ 4 := ⟨runs_of (by decide +kernel), by decide +kernel⟩

/-! ### CoreSys -/

/-- Core 0 in WFI with an event signalled at its secure target. -/
def wWoken : State := { (State.reset.setFld EVR_TGT_THRESH.THRESH (tgtIx 0 16) 255).onCore 0 fun k => { k with run := .wfi } with
  pend := [{ hart := 0, page := 16, prio := 9, ident := 5 }] }
/-- Core 0 running with a machine external interrupt enabled and due. -/
def wDue : State := { ((wRun.setFld EVR_TGT_THRESH.THRESH (tgtIx 0 16) 255).onCore 0 fun k => (k.setCsr 0x304 0x800).setCsr 0x300 8) with
  pend := [{ hart := 0, page := 16, prio := 9, ident := 5 }] }
/-- Core 0 running under a FULL session that takes its EBREAK in M-mode. -/
def wBreak : State := (wRun.setFld DBG_AUTH.SESSION 0 2).setFld DBG_CORE_CTL.EBREAKM 0 8

/-- Core 0 power-gated in WFI, with the same event. -/
def wGatedWfi : State := wWoken.onCore 0 fun k => { k with run := .gated, idle := .wfi }
/-- Core 0 about to write 0x7D0, PAIR_CTL, with commands BIND, UNBIND and PARK in x1 to x3. -/
def wPairCsr : State := wRun.onCore 0 fun k => ((k.setX 1 1).setX 2 2).setX 3 3

theorem witness_wfi : wRun.runs 0 ∧ (wRun.core 0).group = none ∧ (wRun.core 0).wfiRefusal = 0 ∧ wRun.allCompared 0 = true :=
  ⟨wRun_runs, by decide +kernel⟩
theorem witness_wfi_wake : wWoken.wakes 0 = true ∧ (wWoken.core 0).run = .wfi ∧ wGatedWfi.wakes 0 = true ∧ (wGatedWfi.core 0).run = .gated ∧
    (wGatedWfi.core 0).idle = .wfi := by decide +kernel
theorem witness_pause : wRun.runs 0 := wRun_runs
theorem witness_pause_end : let s := wRun.onCore 0 fun k => { k with run := .pause }
    (s.core 0).run = .pause ∧ tget false s.pStop (s.core 0).part = false := by decide +kernel
theorem witness_time_read : wRun.runs 0 ∧ wRun.csrRefusal 0 0xC01 false = 0 := ⟨wRun_runs, by decide +kernel⟩
theorem witness_csr_write : wRun.runs 0 ∧ wRun.csrRefusal 0 0x643 (csrWrites 2 31) = 0 ∧ (wRun.core 0).group = none ∧ wRun.allCompared 0 = true ∧
    csrWrites 2 31 = true := ⟨wRun_runs, by decide +kernel⟩
theorem witness_csr_write_serial : wRun.csrRefusal 0 0x180 (csrWrites 0 1) = 0 ∧ csrSerial ((wRun.core 0).csrAddr 0x180) = true := by decide +kernel
theorem witness_csr_commands : wPairCsr.runs 0 ∧ (wPairCsr.core 0).mode = .m ∧ (wPairCsr.core 0).group = none ∧ wPairCsr.allCompared 0 = true ∧
    wPairCsr.csrRefusal 0 0x800 (csrWrites 0 1) = 0 ∧ wPairCsr.csrRefusal 0 0x804 (csrWrites 0 1) = 0 ∧
    (∀ r ∈ [0, 1, 2, 3], field (csrNew 0 (wPairCsr.regRead .PAIR_CTL 0 none) ((wPairCsr.core 0).csrSrc r false)) 1 0 = r) :=
  ⟨runs_of (by decide +kernel), by decide +kernel⟩
theorem witness_branch : wRun.runs 0 ∧ wRun.traceCalm 0 := ⟨wRun_runs, Or.inl (by decide +kernel)⟩
theorem witness_ecall : wRun.runs 0 ∧ (wRun.core 0).group = none ∧ wRun.allCompared 0 = true ∧ wRun.ebreakHalts 0 = false ∧
    (wRun.core 0).mode = .m ∧ (wRun.core 0).sretRefusal = 0 := ⟨wRun_runs, by decide +kernel⟩
theorem witness_ebreak_halts : wBreak.runs 0 ∧ (wBreak.core 0).group = none ∧ wBreak.allCompared 0 = true ∧ wBreak.ebreakHalts 0 = true :=
  ⟨runs_of (by decide +kernel), by decide +kernel⟩
theorem witness_trap : wDue.intr 0 = some 11 ∧ wDue.intrReady 0 11 = true := by decide +kernel

/-! ### CoreMem -/

/-- A condition about what a core carries out with a memory access: no trigger is armed. -/
theorem runsMem_of {s : State} {c va size : Nat} {ld st : Bool} (h : s.ready c = true) (h1 : (s.core c).step = false) (h2 : 96 ≤ s.coreHart c) :
    s.runsMem c va size ld st := by
  refine ⟨h, fun lv sv => ⟨h1, ?_⟩⟩
  unfold State.fired
  dsimp only
  rw [if_pos h2]
/-- The same with a reservation of the line, and with the home's answer to its CBO. -/
def wResv : State := wMem.onCore 1 fun k => { k with resv := some { line := 1, width := 8 } }
def wCbo : State := wMem.onCore 1 fun k => { k with cboDone := some 1 }
/-- The same with a store to the line in the store buffer; with one of CBO.ZERO; and inside a group. -/
def wSb : State := wMem.onCore 1 fun k => { k with sb := [{ pa := 64, size := 8, data := 9 }] }
def wSbZ : State := wMem.onCore 1 fun k => { k with sb := [{ pa := 64, size := 64, kind := .cboZero }] }
def wSbG : State := wMem.onCore 1 fun k => { k with sb := [{ pa := 64, size := 8, data := 9, grp := true }], group := some {} }
/-- The same with x1 in an aperture and an answer that has come; with device stores in the store buffer, acknowledged early, and sent to node 42. -/
def wAp : State := wMem.onCore 1 fun k => { k.setX 1 0x080000000000 with devAns := some (7, 0) }
def wDev : State := wMem.onCore 1 fun k => { k with sb := [{ pa := 64, size := 8, kind := .device, ewa := true, sent := true }] }
def wDevOut : State := wMem.onCore 1 fun k => { k with sb := [{ pa := 0x080000000000, size := 8, kind := .device }] }
def wDevAns : State := { wMem with txns := [(tileNode 0 * 1024, { use := some (.devStore 1 false), io := { ans := some (0, 0) } })] }
/-- The same in S-mode under Sv39, PMP entry 0 open, and the root table's first entry a leaf of 1 GiB in a line of the L2. -/
def wWalk : State := wMem.onCore 1 fun k =>
  { ((k.setCsr 0x180 0x8000000000000001).setCsr 0x3A0 0x1F).setCsr 0x3B0 0x3FFFFFFFFFFFFF with
    mode := .s, l2 := [(64, some { st := .m, d := { data := 0xCF } })] }

theorem witness_load : wMem.runsMem 1 64 8 true false ∧ (wMem.core 1).group = none ∧ sizeOk (dstV (.x 3 true)) 8 = true ∧
    wMem.memIllegal 1 0 (dstF (.x 3 true)) (dstV (.x 3 true)) 0 = none ∧ wMem.toDram 1 64 8 0 64 ∧ (wMem.core 1).fresh ∧
    (wMem.core 1).sbOverlap 64 8 = [] ∧ wMem.holds 1 1 { data := 5 } ∧ ((wMem.core 1).getX 1 + 0).toNat = 64 :=
  ⟨runsMem_of (by decide +kernel) (by decide +kernel) (by decide +kernel), by decide +kernel, by decide +kernel, by decide +kernel,
   ⟨by decide +kernel, false, by decide +kernel⟩, by unfold Core.fresh; decide +kernel, by decide +kernel, ⟨⟨.m, by decide +kernel⟩, rfl⟩,
   by decide +kernel⟩
theorem witness_load_forwarded : wSb.runsMem 1 64 8 true false ∧ (wSb.core 1).group = none ∧
    wSb.memIllegal 1 0 (dstF (.x 3 true)) (dstV (.x 3 true)) 0 = none ∧ wSb.toDram 1 64 8 0 64 ∧ (wSb.core 1).fresh ∧
    (wSb.core 1).sbOverlap 64 8 = [{ pa := 64, size := 8, data := 9 }] ∧ ((wSb.core 1).getX 1 + 0).toNat = 64 :=
  ⟨runsMem_of (by decide +kernel) (by decide +kernel) (by decide +kernel), by decide +kernel, by decide +kernel,
   ⟨by decide +kernel, false, by decide +kernel⟩, by unfold Core.fresh; decide +kernel, by decide +kernel, by decide +kernel⟩
theorem witness_load_device : wAp.runsMem 1 0x080000000000 8 true false ∧ (wAp.core 1).group = none ∧
    wAp.memIllegal 1 0 (dstF (.x 3 true)) (dstV (.x 3 true)) 0 = none ∧ wAp.toDevice 1 0x080000000000 8 0 0x080000000000 false ∧
    wAp.widthOk 0x080000000000 8 = true ∧ wAp.allCompared 1 = true ∧ (wAp.core 1).sb.any (·.kind == .device) = false ∧
    (wAp.core 1).devAns = some (7, 0) ∧ ((wAp.core 1).getX 1 + 0).toNat = 0x080000000000 :=
  ⟨runsMem_of (by decide +kernel) (by decide +kernel) (by decide +kernel), by decide +kernel, by decide +kernel,
   ⟨by decide +kernel, by decide +kernel, by decide +kernel⟩, by decide +kernel, by decide +kernel, by decide +kernel, by decide +kernel,
   by decide +kernel⟩
theorem witness_load_early : (wMem.core 1).run = .running ∧ wMem.isTrailer 1 = false ∧ wMem.toDram 1 64 8 0 64 ∧ (wMem.core 1).loadq = [] ∧
    (wMem.core 1).sbOverlap 64 8 = [] ∧ (wMem.core 1).lineView 1 = some { data := 5 } :=
  ⟨by decide +kernel, by decide +kernel, ⟨by decide +kernel, false, by decide +kernel⟩, by decide +kernel, by decide +kernel, by decide +kernel⟩
theorem witness_store : wMem.runsMem 1 64 8 false true ∧ wMem.memIllegal 1 1 (srcF (.x 2)) (srcV (.x 2)) 0 = none ∧ wMem.toDram 1 64 8 1 64 ∧
    (wMem.core 1).sb.length < 96 ∧ (wMem.core 1).writesFull 1 = false ∧ ((wMem.core 1).getX 1 + 0).toNat = 64 :=
  ⟨runsMem_of (by decide +kernel) (by decide +kernel) (by decide +kernel), by decide +kernel,
   ⟨by decide +kernel, false, by decide +kernel⟩, by decide +kernel, by decide +kernel, by decide +kernel⟩
theorem witness_store_device : wAp.runsMem 1 0x080000000000 8 false true ∧ wAp.memIllegal 1 1 (srcF (.x 2)) (srcV (.x 2)) 0 = none ∧
    wAp.toDevice 1 0x080000000000 8 1 0x080000000000 false ∧ wAp.devHold 1 = 0 ∧ wAp.allCompared 1 = true ∧ (wAp.core 1).sb.length < 96 :=
  ⟨runsMem_of (by decide +kernel) (by decide +kernel) (by decide +kernel), by decide +kernel,
   ⟨by decide +kernel, by decide +kernel, by decide +kernel⟩, by decide +kernel, by decide +kernel, by decide +kernel⟩
theorem witness_store_leaves : (wSb.core 1).sb[0]? = some { pa := 64, size := 8, data := 9 } ∧
    (wSb.core 1).sbMayLeave 0 { pa := 64, size := 8, data := 9 } = true ∧ tget none (wSb.core 1).l2 1 = some { st := .m, d := { data := 5 } } := by
  decide +kernel
theorem witness_zero_leaves : (wSbZ.core 1).sb[0]? = some { pa := 64, size := 64, kind := .cboZero } ∧
    (wSbZ.core 1).sbMayLeave 0 { pa := 64, size := 64, kind := .cboZero } = true ∧
    tget none (wSbZ.core 1).l2 1 = some { st := .m, d := { data := 5 } } := by
  decide +kernel
theorem witness_group_store_leaves : (wSbG.core 1).sb[0]? = some { pa := 64, size := 8, data := 9, grp := true } ∧
    (wSbG.core 1).sbMayLeave 0 { pa := 64, size := 8, data := 9, grp := true } = true ∧
    tget none (wSbG.core 1).l2 1 = some { st := .m, d := { data := 5 } } ∧ (wSbG.core 1).group = some {} := by
  decide +kernel
theorem witness_device_store_leaves : (wDevOut.core 1).sb[0]? = some { pa := 0x080000000000, size := 8, kind := .device } ∧
    (wDevOut.core 1).sbMayLeave 0 { pa := 0x080000000000, size := 8, kind := .device } = true ∧ wDevOut.region 0x080000000000 ≠ .dram ∧
    (wDevOut.core 1).reqs.length + wDevOut.devOut 1 < 64 ∧
    (wDevOut.takeTxn (tileNode (coreTile 1)) (.devStore 1 false) 0x080000000000 true).isSome = true := by
  decide +kernel
theorem witness_store_ack : (wDev.core 1).sb = { pa := 64, size := 8, kind := .device, ewa := true, sent := true } :: [] ∧
    (tget {} wDevAns.txns (tileNode (coreTile 1) * 1024 + 0)).use = some (.devStore 1 false) ∧
    (tget {} wDevAns.txns (tileNode (coreTile 1) * 1024 + 0)).io.ans = some (0, 0) := by decide +kernel
theorem witness_amo : wMem.runsMem 1 64 8 true true ∧ (wMem.core 1).group = none ∧ wMem.allCompared 1 = true ∧ wMem.toDram 1 64 8 1 64 ∧
    (wMem.core 1).sbOverlap 64 8 = [] ∧ (wMem.core 1).atomicWaits true = false ∧ wMem.ownsLine 1 1 { data := 5 } ∧ ((wMem.core 1).getX 1).toNat = 64 :=
  ⟨runsMem_of (by decide +kernel) (by decide +kernel) (by decide +kernel), by decide +kernel, by decide +kernel,
   ⟨by decide +kernel, false, by decide +kernel⟩, by decide +kernel, by decide +kernel, ⟨⟨.m, .inl rfl, by decide +kernel⟩, rfl⟩, by decide +kernel⟩
theorem witness_amo_device : wAp.runsMem 1 0x080000000000 8 true true ∧ (wAp.core 1).group = none ∧ wAp.allCompared 1 = true ∧
    wAp.toDevice 1 0x080000000000 8 1 0x080000000000 false ∧ wAp.region 0x080000000000 = .aperture ∧ wAp.devHold 1 = 0 ∧
    (wAp.core 1).atomicWaits true = false ∧ (wAp.core 1).devAns = some (7, 0) ∧ ((wAp.core 1).getX 1).toNat = 0x080000000000 :=
  ⟨runsMem_of (by decide +kernel) (by decide +kernel) (by decide +kernel), by decide +kernel, by decide +kernel,
   ⟨by decide +kernel, by decide +kernel, by decide +kernel⟩, by decide +kernel⟩
theorem witness_lr : wMem.runsMem 1 64 8 true false ∧ (wMem.core 1).group = none ∧ wMem.allCompared 1 = true ∧ wMem.toDram 1 64 8 0 64 ∧
    (wMem.core 1).sbOverlap 64 8 = [] ∧ (wMem.core 1).sb = [] ∧ wMem.ownsLine 1 1 { data := 5 } :=
  ⟨runsMem_of (by decide +kernel) (by decide +kernel) (by decide +kernel), by decide +kernel, by decide +kernel,
   ⟨by decide +kernel, false, by decide +kernel⟩, by decide +kernel, by decide +kernel, ⟨⟨.m, .inl rfl, by decide +kernel⟩, rfl⟩⟩
theorem witness_sc : wResv.runsMem 1 64 8 false true ∧ (wResv.core 1).group = none ∧ wResv.allCompared 1 = true ∧ wResv.toDram 1 64 8 1 64 ∧
    (wResv.core 1).sbOverlap 64 8 = [] ∧ (wResv.core 1).atomicWaits true = false ∧ wResv.ownsLine 1 1 { data := 5 } ∧
    (wResv.core 1).resv = some { line := 1, width := 8 } :=
  ⟨runsMem_of (by decide +kernel) (by decide +kernel) (by decide +kernel), by decide +kernel, by decide +kernel,
   ⟨by decide +kernel, false, by decide +kernel⟩, by decide +kernel, by decide +kernel, ⟨⟨.m, .inl rfl, by decide +kernel⟩, rfl⟩, by decide +kernel⟩
theorem witness_sc_fails : wMem.runsMem 1 64 8 false true ∧ wMem.allCompared 1 = true ∧ wMem.toDram 1 64 8 1 64 ∧ (wMem.core 1).sb = [] ∧
    (wMem.core 1).resv = none :=
  ⟨runsMem_of (by decide +kernel) (by decide +kernel) (by decide +kernel), by decide +kernel,
   ⟨by decide +kernel, false, by decide +kernel⟩, by decide +kernel, by decide +kernel⟩
theorem witness_hold_window : (wResv.core 1).resv = some { line := 1, width := 8 } := by decide +kernel
theorem witness_cbo_zero : wMem.runsMem 1 64 64 false true ∧ ((wMem.core 1).envOk fun e => bit e 7).1 = true ∧
    wMem.toDram 1 64 64 1 64 ∧ (wMem.core 1).writesFull 1 = false :=
  ⟨runsMem_of (by decide +kernel) (by decide +kernel) (by decide +kernel), by decide +kernel,
   ⟨by decide +kernel, false, by decide +kernel⟩, by decide +kernel⟩
theorem witness_fences : wMem.runs 1 ∧ (wMem.core 1).group = none ∧ wMem.allCompared 1 = true ∧ (wMem.core 1).sb = [] ∧
    (wMem.core 1).sfenceOk.1 = true ∧ (wMem.core 1).hfenceOk.1 = true ∧
    ¬((wMem.core 1).mode = .s ∧ bit ((wMem.core 1).getCsr 0x300) 20) ∧ (wMem.core 1).mode ≠ .u :=
  ⟨runs_of (by decide +kernel), by decide +kernel⟩
theorem witness_cbo : wCbo.runs 1 ∧ (wCbo.core 1).group = none ∧ wCbo.allCompared 1 = true ∧ ((wCbo.core 1).envOk fun e => bit e 6).1 = true ∧
    ((wCbo.core 1).envOk fun e => field e 5 4 != 0).1 = true ∧ wCbo.toDram 1 64 64 0 64 ∧ (wCbo.core 1).sbOverlap 64 64 = [] ∧
    (wCbo.core 1).cboDone = some 1 ∧ tget none (wCbo.core 1).l2 1 = some { st := .m, d := { data := 5 } } :=
  ⟨runs_of (by decide +kernel), by decide +kernel, by decide +kernel, by decide +kernel, by decide +kernel,
   ⟨by decide +kernel, false, by decide +kernel⟩, by decide +kernel, by decide +kernel, by decide +kernel⟩
theorem witness_prefetch : wMem.runs 1 ∧ (wMem.core 1).group = none ∧ wMem.toDram 1 64 64 0 64 ∧ (tget none (wMem.core 1).l2 1).isSome = true :=
  ⟨runs_of (by decide +kernel), by decide +kernel, ⟨by decide +kernel, false, by decide +kernel⟩, by decide +kernel⟩
theorem witness_walk : ((wWalk.mirror 1).core 1).run = .running ∧ ((wWalk.mirror 1).core 1).walks.length < 4 ∧
    ((wWalk.mirror 1).core 1).translated (((wWalk.mirror 1).core 1).accMode 0).1 (((wWalk.mirror 1).core 1).accMode 0).2 = true ∧
    (let w := ({ s := (wWalk.onCore 1 fun k => { k with walks := k.walks ++ [(1, 0)] }).coreCount 1 0x08 } : Wk).walk 1 0x1234 0
     w.1 = .ok { pa := 0, size := 30, r := true, w := true, x := true, u := false, glob := false, dirty := true, pbmt := 0 } ∧ w.2.2.upd = []) := by
  decide +kernel

/-! ### Commit -/

/-- Core 1 of partition 0 running in the normal world in S-mode, holding no hart, with groups on and slot 0 bound to stream 0, which
partition 0 owns. -/
def wCg : State := ((((((State.reset.setFld CG_CFG.EN 1 1).setFld CG_BIND.VALID 8 1).setSlot 1 1 0x7F).setFld WPC_OWNER.VALID (ixStream 0) 1).setFld WPC_OWNER.KIND (ixStream 0) 1).onCore 1 fun k =>
    { k with run := .running, secure := false, mode := .s })
/-- The same in a group with one written line, before and after CG.END, and waiting for number 3. -/
def wG : Group := { stream := 0, writes := [(2, some (7, 1))], fallback := 0x100 }
def wIn (p : GPhase) : State := wCg.onCore 1 fun k => { k with group := some { wG with phase := p }, l2 := [(2, some { st := .e })] }
def wWait : State := { wCg.onCore 1 fun k => { k with cgWait := some { g := 3, stream := 0, rd := 5 } } with pubs := [(0, { w := 3, a := 3 })] }
/-- The same after the stream was fenced below the number. -/
def wFail : State := { wWait with pubs := [(0, { w := 2, a := 3, fenced := true })] }
/-- The same with an interrupt due, with its reservation granted, and with the reply there. -/
def wDefer : State := { (((wIn .opened).onCore 1 fun k => { k with swapReq := true })) with jrnRes := [] }
def wGranted : State := { wIn .staging with jrnRes := [(0, [{ core := 1, bytes := 136, granted := true }])] }
def wReply : State := (wIn .requested).onCore 1 fun k => { k with cgReply := some (0, 3, false) }
/-- The same with a dependency on number 2 of stream 0 to be recorded, of 4 assigned. -/
def wDep : State := (wCg.setFld SPN_STREAM_ASSIGNED.A 0 4).onCore 1 fun k => { k with depseqReq := some (0, 2, 5, 4) }
/-- A destination with one published entry. -/
def wPub : State := { wCg with pubFlits := [(24, [[{ stream := 0, w := 3, a := 4 }]])] }

theorem witness_cg_begin : wCg.runs 1 ∧ (wCg.core 1).group = none ∧ wCg.allCompared 1 = true ∧ wCg.traceRoom 1 ∧ custom0Bad 0 true true = false ∧
    (wCg.core 1).cgMode = true ∧ wCg.fld CG_CFG.EN 1 = 1 ∧
    field ((wCg.core 1).getX 0) 32 3 = 0 ∧ wCg.fld CG_BIND.VALID (1 * 8 + field ((wCg.core 1).getX 0) 2 0) = 1 ∧ (wCg.core 1).mode ≠ .u ∧
    wCg.fld CG_BIND.STREAM (1 * 8 + field ((wCg.core 1).getX 0) 2 0) = 0 ∧ wCg.owner (ixStream 0) = some (wCg.core 1).part ∧
    (wCg.core 1).sb = [] ∧ (wCg.core 1).anyLost = false ∧ (wCg.pub (coreTile 1) 0).fenced = false ∧
    ¬(wCg.hartOf 1 < 96 ∧ wCg.signalled (wCg.hartOf 1) 16 = true) :=
  ⟨runs_of (by decide +kernel), by decide +kernel, by decide +kernel, .inl (by decide +kernel), by decide +kernel⟩
theorem witness_cg_end : (wIn .opened).runs 1 ∧ (wIn .opened).allCompared 1 = true ∧ ((wIn .opened).core 1).cgMode = true ∧
    field (((wIn .opened).core 1).getX 0) 63 1 = 0 ∧ ((wIn .opened).core 1).group = some { wG with phase := .opened } ∧
    ((wIn .opened).core 1).anyLost = false ∧ ((wIn .opened).core 1).sb.any (·.grp) = false ∧ (wIn .opened).undurable 1 = [] ∧ wG.writes ≠ [] :=
  ⟨runs_of (by decide +kernel), by decide +kernel⟩
theorem witness_cg_end_outside : wCg.runs 1 ∧ wCg.allCompared 1 = true ∧ (wCg.core 1).cgMode = true ∧
    field ((wCg.core 1).getX 0) 63 1 = 0 ∧ (wCg.core 1).group = none ∧ wCg.undurable 1 = [] := ⟨runs_of (by decide +kernel), by decide +kernel⟩
theorem witness_cg_end_retires : (wWait.core 1).cgWait = some { g := 3, stream := 0, rd := 5 } ∧ wWait.untriggered 1 none ∧
    (wWait.core 1).run = .running ∧ 3 ≤ (wWait.pub (coreTile 1) 0).w :=
  ⟨by decide +kernel, ⟨by decide +kernel, by decide +kernel⟩, by decide +kernel⟩
theorem witness_cg_end_fails : (wFail.core 1).cgWait = some { g := 3, stream := 0, rd := 5 } ∧ wFail.untriggered 1 none ∧
    (wFail.core 1).run = .running ∧ (wFail.pub (coreTile 1) 0).fenced = true ∧ (wFail.pub (coreTile 1) 0).w < 3 :=
  ⟨by decide +kernel, ⟨by decide +kernel, by decide +kernel⟩, by decide +kernel⟩
theorem witness_cg_abort : (wIn .opened).runs 1 ∧ ((wIn .opened).core 1).cgMode = true ∧ custom0Bad 0 false true = false ∧
    ((wIn .opened).core 1).group = some { wG with phase := .opened } ∧ wG.abortable = true ∧ wCg.runs 1 ∧ (wCg.core 1).group = none :=
  ⟨runs_of (by decide +kernel), by decide +kernel, by decide +kernel, by decide +kernel, by decide +kernel, runs_of (by decide +kernel), by decide +kernel⟩
theorem witness_cg_test : (wIn .opened).runs 1 ∧ custom0Bad 0 true false = false ∧ ((wIn .opened).core 1).mode ≠ .m :=
  ⟨runs_of (by decide +kernel), by decide +kernel⟩
theorem witness_fence_d : wCg.runs 1 ∧ wCg.allCompared 1 = true ∧ custom0Bad 0 false false = false ∧ (wCg.core 1).cgMode = true ∧ wCg.undurable 1 = [] :=
  ⟨runs_of (by decide +kernel), by decide +kernel⟩
theorem witness_lost_clear : (wCg.onCore 1 fun k => k.setX 6 0x2000000000000000).runs 1 ∧ csrWrites 0 6 = true ∧
    bit (csrNew 0 (wCg.regRead .CG_STATUS 1 none) (((wCg.onCore 1 fun k => k.setX 6 0x2000000000000000).core 1).csrSrc 6 false)) 61 = true :=
  ⟨runs_of (by decide +kernel), by decide +kernel⟩
theorem witness_depseq_write : wCg.runs 1 ∧ csrWrites 0 2 = true ∧
    (csrNew 0 (wCg.regRead .CG_DEPSEQ 1 none) ((wCg.core 1).csrSrc 2 true)).toNat = 2 ∧ (wCg.core 1).mode ≠ .u ∧ wCg.fld CG_DEPSEL.STREAM 1 = 0 ∧
    wCg.streamMine 1 0 = true ∧ (tget {} (wCg.core 1).deps 0).lost = false ∧
    (csrNew 0 (wCg.regRead .CG_DEPSEQ 1 none) ((wCg.core 1).csrSrc 0 true)).toNat = 0 :=
  ⟨runs_of (by decide +kernel), by decide +kernel⟩
theorem witness_depseq_answer : (wDep.core 1).depseqReq = some (0, 2, 5, 4) ∧ wDep.untriggered 1 none :=
  ⟨by decide +kernel, ⟨by decide +kernel, by decide +kernel⟩⟩
theorem witness_cg_deferral : (wDefer.core 1).group = some { wG with phase := .opened } ∧
    wG.abortable = true ∧ wG.requestSent = false ∧ (wDefer.core 1).swapReq = true := by decide +kernel
theorem witness_staging_grant : (wGranted.core 1).group = some { wG with phase := .staging } ∧
    ((tget [] wGranted.jrnRes wG.stream).any fun r => r.core == 1 && r.granted && !r.used) = true ∧ (wGranted.core 1).cgReq = none ∧
    (wGranted.core 1).cgReply = none ∧ (wGranted.core 1).voidOut = false := by decide +kernel
theorem witness_journal_full : (wGranted.core 1).group = some { wG with phase := .staging } := by decide +kernel
theorem witness_commit_reply : (wReply.core 1).cgReply = some (0, 3, false) ∧ (wReply.core 1).voidOut = false ∧
    wReply.fld DBG_TRACE_CFG.EN 0 = 0 ∧ (wReply.core 1).group = some { wG with phase := .requested } := by decide +kernel
theorem witness_flip : ((wIn (.flipping 3 false)).core 1).group = some { wG with phase := .flipping 3 false } ∧
    ((wIn (.flipping 3 false)).pub (coreTile 1) 0).w < 3 ∧ ((wIn (.flipping 3 false)).pub (coreTile 1) 0).fenced = false ∧
    (wG.writes.map (·.1)).Nodup ∧ (2, some (7, 1)) ∈ wG.writes := by decide +kernel
theorem witness_flip_retires : ({ wIn (.flipping 3 false) with pubs := [(0, { w := 3, a := 3 })] } : State).untriggered 1 none ∧
    3 ≤ (({ wIn (.flipping 3 false) with pubs := [(0, { w := 3, a := 3 })] } : State).pub (coreTile 1) 0).w ∧
    (({ wIn (.flipping 3 false) with pubs := [(0, { w := 3, a := 3 })] } : State).core 1).run = .running :=
  ⟨⟨by decide +kernel, by decide +kernel⟩, by decide +kernel⟩
theorem witness_watermark : tget [] wPub.pubFlits 24 = [{ stream := 0, w := 3, a := 4 }] :: [] := by decide +kernel

/-! ### Pairs -/

/-- Core 0 running in M-mode with a PAIR_CTL value in x5: PARK, BIND with slot 4, or UNBIND. -/
def wCtl (w : W) : State := wRun.onCore 0 fun k => k.setX 5 w
/-- The same with core 4 parked. -/
def wParked : State := ((wCtl 2053).setFld PAIR_STATUS.STATE 4 1).setSlot 4 0 4
/-- Core 0 leads pair 0 with core 4, with an interval as given. -/
def wPair (p : Pair) : State :=
  ({ (wCtl 2).setFld PAIR_STATUS.STATE 0 2 with pairs := [(0, { p with bound := true, leader := 0, trailer := 4 })] } : State)
def wVote (v : Vote) : State := wPair { vote := some v, awaiting := [{ id := 1, count := 3 }] }

theorem witness_park : (wCtl 2059).runs 0 ∧ (wCtl 2059).ledPair 0 = none ∧ ((wCtl 2059).core 0).mode = .m ∧ csrWrites 0 5 = true ∧
    csrNew 0 ((wCtl 2059).regRead .PAIR_CTL 0 none) (((wCtl 2059).core 0).csrSrc 5 false) = 2059 ∧ field (2059 : W) 1 0 = 3 ∧
    (wCtl 2059).fld PAIR_STATUS.STATE 0 = 0 ∧ ((wCtl 2059).regWrite .PAIR_CTL 0 2059).fld PAIR_CTL.ROLE 0 = 2 ∧
    ((wCtl 2059).regWrite .PAIR_CTL 0 2059).fld PAIR_CTL.PARTNER 0 ≤ 4 := ⟨runs_of (by decide +kernel), by decide +kernel⟩
theorem witness_bind : wParked.runs 0 ∧ wParked.ledPair 0 = none ∧ (wParked.core 0).mode = .m ∧ csrWrites 0 5 = true ∧
    csrNew 0 (wParked.regRead .PAIR_CTL 0 none) ((wParked.core 0).csrSrc 5 false) = 2053 ∧ field (2053 : W) 1 0 = 1 ∧
    wParked.fld PAIR_STATUS.STATE 0 = 0 ∧ (wParked.regWrite .PAIR_CTL 0 2053).fld PAIR_CTL.ROLE 0 = 1 ∧
    (wParked.regWrite .PAIR_CTL 0 2053).fld PAIR_CTL.PARTNER 0 = 4 ∧ 4 ≠ coreSlot 0 ∧ wParked.slotState (coreTile 0 * 5 + 4) = 0 ∧
    wParked.fld PAIR_STATUS.STATE (coreTile 0 * 5 + 4) = 1 ∧ (wParked.core (coreTile 0 * 5 + 4)).part = (wParked.core 0).part ∧
    ¬((wParked.pair (2 * coreTile 0)).bound = true ∧ (wParked.pair (2 * coreTile 0 + 1)).bound = true) := ⟨runs_of (by decide +kernel), by decide +kernel⟩
theorem witness_unbind : (wPair {}).runs 0 ∧ (wPair {}).ledPair 0 = some 0 ∧ (wPair {}).allCompared 0 = true ∧ ((wPair {}).core 0).mode = .m ∧
    csrWrites 0 5 = true ∧ csrNew 0 ((wPair {}).regRead .PAIR_CTL 0 none) (((wPair {}).core 0).csrSrc 5 false) = 2 ∧ field (2 : W) 1 0 = 2 ∧
    (wPair {}).fld PAIR_STATUS.STATE 0 = 2 := ⟨runs_of (by decide +kernel), by decide +kernel⟩
theorem witness_pair_sync : (wPair {}).runs 0 ∧ custom0Bad 0 false false = false ∧ (wPair {}).allCompared 0 = true := ⟨runs_of (by decide +kernel), by decide +kernel⟩
theorem witness_interval_end : ((wPair { cur := { count := 512 } }).pair 0).bound = true ∧ ((wPair { cur := { count := 512 } }).pair 0).vote = none ∧
    ((wPair { cur := { count := 512 } }).pair 0).voteWaits = false ∧ ((wPair { cur := { count := 512 } }).pair 0).awaiting.length ≤ 2 ∧
    ((wPair { cur := { count := 512 } }).pair 0).cur.count ≠ 0 := by decide +kernel
theorem witness_interval_comparison : ((wPair { awaiting := [{ id := 1 }] }).pair 0).bound = true ∧
    ((wPair { awaiting := [{ id := 1 }] }).pair 0).vote = none ∧ ((wPair { awaiting := [{ id := 1 }] }).pair 0).race = false ∧ ((wPair { awaiting := [{ id := 1 }] }).pair 0).awaiting = { id := 1 } :: [] := by
  decide +kernel
theorem witness_interval_mismatch : ((wPair { awaiting := [{ id := 1, startPc := 4 }] }).pair 0).awaiting = { id := 1, startPc := 4 } :: [] ∧
    (5 : W) ≠ ({ id := 1, startPc := 4 } : Ival).sig ∧ (wPair { awaiting := [{ id := 1, startPc := 4 }] }).noGroups ∧
    (wPair { awaiting := [{ id := 1, startPc := 4 }] }).fld ERC_RING_CFG.EN 0 = 0 ∧
    (wPair { awaiting := [{ id := 1, startPc := 4 }] }).rd .PAIR_FAILPC ((wPair { awaiting := [{ id := 1, startPc := 4 }] }).leaderOf 0) ≠ 4 :=
  ⟨by decide +kernel, by decide +kernel, groups_none (by decide +kernel), by decide +kernel, by decide +kernel⟩
theorem witness_vote_spare : ((wVote { ival := { id := 1 }, spare := 2 }).pair 0).vote = some { ival := { id := 1 }, spare := 2 } ∧
    ((wVote { ival := { id := 1 }, spare := 2 }).pair 0).voteWaits = false ∧
    ((wVote { ival := { id := 1 }, spare := 2 }).core (0 / 2 * 5 + 2)).flushing = false := by decide +kernel
theorem witness_vote_result : ((wVote { ival := { id := 1 }, spare := 2, powered := true }).pair 0).vote = some { ival := { id := 1 }, spare := 2, powered := true } ∧
    ((wVote { ival := { id := 1 }, spare := 2, powered := true }).pair 0).awaiting = { id := 1, count := 3 } :: [] ∧
    (wVote { ival := { id := 1 }, spare := 2, powered := true }).noGroups ∧
    (wVote { ival := { id := 1 }, spare := 2, powered := true }).fld ERC_RING_CFG.EN 0 = 0 ∧
    ((wVote { ival := { id := 1 }, spare := 2, powered := true }).pair 1).voteWaits = false ∧
    2 ≠ ((wVote { ival := { id := 1 }, spare := 2, powered := true }).pair 0).trailer ∧ (5 : W) ≠ ({ id := 1, count := 3 } : Ival).sig := by
  refine ⟨by decide +kernel, by decide +kernel, ?_, by decide +kernel⟩
  exact groups_none (by decide +kernel)
theorem witness_vote_limit : ((({ wVote { ival := { id := 1 } } with pairs := [(0, { bound := true, vote := some { ival := { id := 1 } }, voteWaits := true })] } : State)).pair 0).vote =
    some { ival := { id := 1 } } ∧
    ((({ wVote { ival := { id := 1 } } with pairs := [(0, { bound := true, vote := some { ival := { id := 1 } }, voteWaits := true })] } : State)).pair 0).voteWaits = true := by
  decide +kernel

/-! ### Coherence -/

/-- A device with DRAM whose core 0 has a request of kind `k` for line 2, which is in L3 with a dirty copy. -/
def wReq (k : ReqKind) : State :=
  { wMem.onCore 0 (fun c => { c with reqs := [(2, some { kind := k, tag := 3 })], l2 := [(2, some {})] }) with
    l3 := [(2, some { data := 9, dirty := true })] }
/-- The same with the line not in the core's L2. -/
def wReq0 (k : ReqKind) : State := (wReq k).onCore 0 fun c => { c with l2 := [] }
/-- An atomic of the core on line 2 mapped NC. -/
def wAmo : State := (wReq .amoHome).onCore 0 fun c => { c with amoReq := some (.add, 8, 128, 5) }

theorem witness_rd_shared : (wReq0 .rdShared).canAccept (.core 0) 2 { kind := .rdShared, tag := 3 } ∧ (wReq0 .rdShared).sieveFree 2 ∧
    (tget none (wReq0 .rdShared).l3 2).isSome := by unfold State.canAccept State.sieveFree; decide +kernel
theorem witness_rd_own : (wReq0 .rdOwn).canAccept (.core 0) 2 { kind := .rdOwn, tag := 3 } ∧ (wReq0 .rdOwn).sieveFree 2 ∧
    (tget none (wReq0 .rdOwn).l3 2).isSome := by unfold State.canAccept State.sieveFree; decide +kernel
theorem witness_upgrade : (wReq .upgrade).canAccept (.core 0) 2 { kind := .upgrade, tag := 3 } ∧ (wReq .upgrade).sieveFree 2 ∧
    (tget none ((wReq .upgrade).core 0).l2 2).isSome := by unfold State.canAccept State.sieveFree; decide +kernel
theorem witness_rd_once : ((wReq .rdShared).agentSend (.agent 0) 2 .rdOnce none).canAccept (.agent 0) 2 { kind := .rdOnce, secure := true } ∧
    (wReq .rdShared).sieveFree 2 ∧ (tget none (wReq .rdShared).l3 2).isSome := by unfold State.canAccept State.sieveFree; decide +kernel
theorem witness_wr_line : ((wReq .rdShared).agentSend (.agent 0) 2 .wrLine (some { data := 7 })).canAccept (.agent 0) 2
    { kind := .wrLine, wr := some { data := 7 }, secure := true } ∧ (wReq .rdShared).sieveFree 2 := by unfold State.canAccept State.sieveFree; decide +kernel
theorem witness_cbo_flush : (wReq0 .cboFlush).canAccept (.core 0) 2 { kind := .cboFlush, tag := 3 } ∧ (wReq0 .cboFlush).sieveFree 2 ∧
    (tget none ((wReq0 .cboFlush).core 0).l2 2).isSome = false ∧ (wReq0 .cboFlush).wbDue 2 = false ∧
    ((wReq0 .cboFlush).homeData 2).tag = none ∧ (wReq0 .cboFlush).memStatus 2 = 0 := by unfold State.canAccept State.sieveFree; decide +kernel
theorem witness_amo_home : tget none (wAmo.core 0).reqs 2 = some { kind := .amoHome, tag := 3 } ∧ (wAmo.core 0).amoReq = some (.add, 8, 128, 5) ∧
    128 / 64 = 2 ∧ wAmo.msgOk .amoHome (.core 0) 2 = true ∧ tget none wAmo.trk 2 = none ∧ tget none wAmo.fair 2 = none ∧
    wAmo.trkFull (homeOf 2) = false := by decide +kernel
theorem witness_nak : State.getReq ((wReq .rdOwn).putReq (.core 0) 2 (some { kind := .rdOwn, nakIn := true, nak := 7 })) (.core 0) 2 =
    some { kind := .rdOwn, nakIn := true, nak := 7 } ∧
    State.msgOk ((wReq .rdOwn).putReq (.core 0) 2 (some { kind := .rdOwn, nakIn := true, nak := 7 })) .nak (.core 0) 2 = true := by decide +kernel
/-- A request of core 0 for line 2 with both replies sent, and with the DATA or COMP still to come. -/
def wGot (a b : Bool) : State := wMem.onCore 0 fun c =>
  { c with reqs := [(2, some { kind := .rdOwn, comp := some (some .m), data := some { data := 9 }, compHeld := a, dataHeld := b })] }
/-- A read by the agent at ring position 0 whose snoop waits, or is deferred; and its slot. -/
def wTrk (ph : TrkPhase) : State :=
  { wMem with trk := [(2, some { rq := some (.agent 0), kind := .rdOnce, phase := ph, resp := { typ := .once, ownerPos := 1, line := 2 } })],
              agentReqs := [(2, some { kind := .rdOnce, accepted := true })] }
def wSlot (typ : Snp) (seen : Nat) : State :=
  { (wTrk .snooping).onCore 3 (fun c => { c with l2 := [(2, some { st := .m, d := { data := 9 } })] }) with
    slots := [(0, { valid := true, typ := typ, line := 2, seen := seen, at_ := 5 })] }
/-- The same with a hold window of core 3. -/
def wHeld : State := (wSlot .own 0).onCore 3 fun c => { c with resv := some { line := 2, width := 8, hold := true } }
/-- A CBO of core 0 whose COMP has been sent. -/
def wCboComp : State := wMem.onCore 0 fun c => { c with reqs := [(2, some { kind := .cboFlush, comp := some none, noData := true })] }
/-- Core 0's writeback buffer with one entry for line 2, of which L3 has a copy. -/
def wWb (w : WbEnt) : State := (wReq .rdOwn).onCore 0 fun c => { c with reqs := [], secure := false, wb := [(2, some w)] }

theorem witness_comp : (wGot false false).getReq (.core 0) 2 =
    some { kind := .rdOwn, comp := some (some .m), data := some { data := 9 }, compHeld := false, dataHeld := false } ∧
    (wGot false false).msgOk .comp (.core 0) 2 = true ∧ (wGot false false).msgOk .data (.core 0) 2 = true := by decide +kernel
theorem witness_comp_cbo : wCboComp.getReq (.core 0) 2 = some { kind := .cboFlush, comp := some none, noData := true } ∧
    wCboComp.msgOk .comp (.core 0) 2 = true := by decide +kernel
theorem witness_data_installs : tget none ((wGot true false).core 0).reqs 2 =
      some { kind := .rdOwn, comp := some (some .m), data := some { data := 9 }, compHeld := true, dataHeld := false } ∧
    tget none ((wGot true false).core 0).l2 2 = none ∧ (((wGot true false).core 0).l2.filter fun e => e.1 % 2048 == 2 % 2048).length < 8 := by decide +kernel
theorem witness_defer_rsp : tget none (wTrk .deferred).trk 2 =
      some { rq := some (.agent 0), kind := .rdOnce, phase := .deferred, resp := { typ := .once, ownerPos := 1, line := 2 } } ∧
    ((wTrk .deferred).coreIds.any fun c => ((wTrk .deferred).core c).flippingLine 2) = false ∧
    ((wTrk .deferred).getReq (.agent 0) 2).isSome = true := by decide +kernel
theorem witness_wb_dirty : tget none ((wWb {}).core 0).wb 2 = some {} ∧ tget none (wWb {}).trk 2 = none ∧
    (wWb {}).msgOk .wbDirty (.core 0) 2 = true ∧ tget none (wWb {}).l3 2 = some { data := 9, dirty := true } ∧ (wWb {}).l3Ways false ≠ 0 ∧ ((wWb {}).core 0).secure = false ∧
    (wWb {}).l3Held 2 = false := by decide +kernel
theorem witness_wb_discarded : tget none ((wWb { disc := true }).core 0).wb 2 = some { disc := true } := by decide +kernel
theorem witness_evict_clean : tget none ((wWb { dirty := false, last := true }).core 0).wb 2 = some { dirty := false, last := true } := by decide +kernel
theorem witness_acks : tget none ((wWb { acked := 1 }).core 0).wb 2 = some { acked := 1 } ∧ tget none ((wWb { acked := 2 }).core 0).wb 2 = some { acked := 2 } ∧
    tget none ((wWb { dirty := false, acked := 1 }).core 0).wb 2 = some { dirty := false, acked := 1 } := by decide +kernel
theorem witness_snoops : ∀ typ, tget {} (wSlot typ 0).slots (0 * 28 + 0) = { valid := true, typ := typ, line := 2, seen := 0, at_ := 5 } ∧
    (0 : Nat).testBit 6 = false ∧ 6 = ringNext 0 5 ∧ posTile 6 = some 0 ∧ (wSlot typ 0).noGroups ∧
    (∀ k, k < 5 → ((wSlot typ 0).core (0 * 5 + k)).lrWin ≠ some (2, 1) ∧ ((wSlot typ 0).core (0 * 5 + k)).resv = none) ∧
    ∀ t, tget none (wSlot typ 0).trk 2 = some t → ∀ k, k < 5 → t.rq ≠ some (.core (0 * 5 + k)) := by
  intro typ
  have h : ∀ t, tget none (wSlot typ 0).trk 2 = some t → t.rq = some (.agent 0) := by
    intro t h
    have e : tget none (wSlot typ 0).trk 2 = some { rq := some (.agent 0), kind := .rdOnce, phase := .snooping, resp := { typ := .once, ownerPos := 1, line := 2 } } := rfl
    rw [e] at h
    cases h
    rfl
  refine ⟨rfl, by decide, by decide, by decide, groups_none (by cases typ <;> decide +kernel), ?_, fun t ht k _ e => by rw [h t ht] at e; cases e⟩
  cases typ <;> decide +kernel
theorem witness_hold : (wHeld.core 3).resv = some { line := 2, width := 8, hold := true } ∧ wHeld.noGroups ∧
    tget {} wHeld.slots (0 * 28 + 0) = { valid := true, typ := .own, line := 2, seen := 0, at_ := 5 } :=
  ⟨by decide +kernel, groups_none (by decide +kernel), by decide +kernel⟩
theorem witness_combined : tget {} (wSlot .once (2 ^ 28 - 1)).slots (0 * 28 + 0) = { valid := true, typ := .once, line := 2, seen := 2 ^ 28 - 1, at_ := 5 } ∧
    tget none (wSlot .once (2 ^ 28 - 1)).trk 2 =
      some { rq := some (.agent 0), kind := .rdOnce, phase := .snooping, resp := { typ := .once, ownerPos := 1, line := 2 } } ∧
    ((wSlot .once (2 ^ 28 - 1)).getReq (.agent 0) 2).isSome = true ∧
    ((wSlot .once (2 ^ 28 - 1)).trk.all fun e => match e.2 with | some t => t.phase != .needSlot | none => true) = true := by decide +kernel
/-- Every slot of ring 0 is full. -/
def wFull : State := { wSlot .once 0 with trk := [(4, some { phase := .needSlot })],
                                          slots := (List.range 28).map fun n => (n, { valid := true, line := 6 }) }
theorem witness_slot_reservation : tget none wFull.trk 4 = some { phase := .needSlot } ∧
    (∀ n, n < 28 → (tget {} wFull.slots (4 % 2 * 28 + n)).valid = true) ∧ (tget {} wFull.slots (4 % 2 * 28 + 0)).rsv = false := by decide +kernel

/-! ### Mesh -/

/-- A device with a memory request of core 0 outstanding under tag index 3 and two late responses pending. -/
def wTxn : State := { wMem with dtime := 9, txns := [(3, { use := some (.devLoad 0), pa := 64, late := 2, deadline := 8 })] }
/-- The Lid section of node 0 in a state. -/
def wLid (st : Nat) : State := wTxn.setFld LID_SECTION.STATE (lidIx 0 0) st

theorem witness_timeout : (tget {} wTxn.txns (0 * 1024 + 3 % 1024)).use = some (.devLoad 0) ∧ (tget {} wTxn.txns (0 * 1024 + 3 % 1024)).late ≠ 0 ∧
    wTxn.overdue 0 (3 % 1024) = true ∧ wTxn.respArrived (tget {} wTxn.txns (0 * 1024 + 3 % 1024)) (3 % 1024) = false := by
  decide +kernel
theorem witness_link_corrected : ((wTxn.logErr (hopNode 0 (1 % 4)) 0 0 0x110 (1 * 1024 + 5)).note (2 * 2 ^ 40 + (0 * 4 + 1 % 4) * 1024 + 5) hour 0).1.length < 16 := by
  decide +kernel
theorem witness_apply : ¬(Agent.macen = .macen ∧ wTxn.pfw = true) ∧ wTxn.fld MESH_LINK_CFG.QUIESCE_BUSY (0 * 4 + 1 % 4) = 0 ∧
    wTxn.gate .macen .MESH_LINK_CFG (0 * 4 + 1 % 4) (some 0x4000000000000000) = .pass ∧ regAbsent .MESH_LINK_CFG (0 * 4 + 1 % 4) = false ∧
    bit (0x4000000000000000 : W) 62 = true ∧ wTxn.mac.due = [] := by decide +kernel
theorem witness_clear : wTxn.gate .macen .MESH_INIT_STATUS 0 (some 0x8000) = .pass ∧ regAbsent .MESH_INIT_STATUS 0 = false ∧
    bit (0x8000 : W) 15 = true := by decide +kernel
theorem witness_lid_close : (wLid 0).gate .macen .LID_SECTION (lidIx 0 0) (some 1) = .pass ∧ regAbsent .LID_SECTION (lidIx 0 0) = false ∧
    field (1 : W) 1 0 = 1 ∧ ((wLid 0).regWrite .LID_SECTION (lidIx 0 0) 1).lidState 0 0 = 0 ∧ 0 < lidSections 0 ∧ (wLid 0).lidState 0 0 = 0 ∧
    (wLid 0).mayClose 0 0 = true := by
  decide +kernel
/-- A tile's section 0, CLOSED and held by no reset. -/
def wLidShut : State := { wTxn.setFld LID_SECTION.STATE (lidIx 9 0) 2 with lidHeld := [] }
theorem witness_lid_open : wLidShut.gate .macen .LID_SECTION (lidIx 9 0) (some 2) = .pass ∧ regAbsent .LID_SECTION (lidIx 9 0) = false ∧
    field (2 : W) 1 0 = 2 ∧ (wLidShut.regWrite .LID_SECTION (lidIx 9 0) 2).lidState 9 0 = 2 ∧ tget false wLidShut.lidHeld (lidIx 9 0) = false := by
  decide +kernel
theorem witness_lid_drain_limit : (wLid 1).lidState 0 0 = 1 ∧ (wLid 1).outbound 0 0 ≠ [] := by decide +kernel
theorem witness_link_reconfig : (wTxn.setFld MESH_LINK_CFG.QUIESCE_BUSY (0 * 4 + 1 % 4) 1).mac.due = [] ∧
    (wTxn.setFld MESH_LINK_CFG.QUIESCE_BUSY (0 * 4 + 1 % 4) 1).fld MESH_LINK_CFG.QUIESCE_BUSY (0 * 4 + 1 % 4) ≠ 0 := by decide +kernel
theorem witness_lid_closed : (wLid 1).lidState 0 1 = 0 ∧ ((wLid 0).setFld LID_SECTION.STATE (lidIx 0 1) 1).lidState 0 1 = 1 ∧
    ((wLid 0).setFld LID_SECTION.STATE (lidIx 0 1) 1).outbound 0 1 = [] ∧ ((wLid 0).setFld LID_SECTION.STATE (lidIx 0 1) 1).accepted 0 1 = [] := by
  decide +kernel
/-- A request that its own draining block presented. -/
def wTxnOff : State := { wTxn with txns := [(3, { use := some (.devLoad 0), pa := 64, io := { off := true } })] }
theorem witness_domain_off : wTxnOff.meetsLid 0 (3 % 1024) = true ∧
    wTxnOff.respArrived (tget {} wTxnOff.txns (0 * 1024 + 3 % 1024)) (3 % 1024) = false := by decide +kernel

/-! ### Spine -/

/-- A device whose stream 0 is in a state, owned by the secure world, with numbers up to 4 assigned and 3 durable, and core 0 with a commit
request, a group that waits for its reservation, and a reservation to cancel on stream 1. -/
def wSpn (st : Nat) : State :=
  { (((((wMem.setFld SPN_STREAM_STATE.STATE 0 st).setFld SPN_STREAM_ASSIGNED.A 0 4).setFld SPN_STREAM_WMARK.W 0 3).setFld SPN_STREAM_NEXT.NEXT 0 5).onCore 0 fun k =>
      { k with cgReq := some { stream := 0, core := 0, len := 136 }, group := some { stream := 0, phase := .staging, writes := [(2, some (7, 1))] },
               cancel := some 1, cgReply := some (0, 3, false), voidOut := true }) with
    jrnRes := [(1, [{ core := 0, bytes := 64 }, { core := 1, bytes := 64 }])], spnChanged := [0, 1, 2, 3, 4] }
/-- The same with number 4 outstanding, its record as given. -/
def wRec (r : JRec) : State :=
  { wSpn 1 with spn := [(0, { nums := [{ seq := 4, staged := true }] })], jrnRecs := [(0, [r])] }
/-- The same with a region of 2 MiB in mirrored DRAM. -/
def wReg : State :=
  ((((wRec { seq := 4, complete := true, nlines := 1, term := 2, lines := [(2, 1, 9)] }).setFld JRN_REGION.SIZE_LOG2 0 21).setFld JRN_APPEND_PTR.APPEND 0 64).setFld
    MCT_DECODE.MIRROR 0 1).setFld MCT_DECODE.CH_MASK 0 3
/-- The same with a sweep whose last answer is due, from destination 5, or from 5 and 6. -/
def wSweep (ds : List Nat) (sw : List Nat) : State := { wSpn 0 with spn := [(0, { sweep := some ds, swept := sw })] }

theorem witness_commit_request : ((wSpn 1).core 0).cgReq = some { stream := 0, core := 0, len := 136 } ∧ (wSpn 1).fld SPN_STREAM_STATE.STATE 0 = 1 ∧
    (wSpn 2).fld SPN_STREAM_STATE.STATE 0 = 2 ∧ (wSpn 3).fld SPN_STREAM_STATE.STATE 0 = 3 ∧
    (wSpn 1).undurableNums 0 < 1024 ∧ ((wSpn 1).stream 0).parked = [] ∧ ((wSpn 1).stream 0).gasp = false ∧ (wSpn 1).spn = [] := by decide +kernel
theorem witness_record_segment : ((tget [] (wRec { seq := 4, lines := [(2, 1, 9)] }).jrnRecs 0).find? fun r => r.seq = 4) = some { seq := 4, lines := [(2, 1, 9)] } ∧
    ({ seq := 4, lines := [(2, 1, 9)] } : JRec).typ = 1 := by decide +kernel
theorem witness_publication : (wSpn 1).spnChanged ≠ [] := by decide +kernel
theorem witness_resolution : (wRec {}).streamUp 0 = true ∧ ((wRec {}).stream 0).nums = [{ seq := 4, staged := true }] ∧
    ({ seq := 4, staged := true } : SeqEnt).resolved = true ∧ ({ seq := 4, staged := true } : SeqEnt).deps = [] := by decide +kernel
theorem witness_stream_enable : (wSpn 0).gate (.core 1) .SPN_STREAM_CFG 0 (some (putField (BitVec.ofNat 64 (1 % 4)) 63 63 1)) = .pass ∧
    regAbsent .SPN_STREAM_CFG 0 = false ∧ (wSpn 0).fld SPN_STREAM_STATE.STATE 0 = 0 ∧ ((wSpn 0).stream 0).sweep = none := by decide +kernel
theorem witness_stream_disable : (wSpn 3).gate (.core 1) .SPN_STREAM_CFG 0 (some (BitVec.ofNat 64 (1 % 4))) = .pass ∧
    (wSpn 3).fld SPN_STREAM_STATE.STATE 0 = 3 := by decide +kernel
theorem witness_stream_cmds : (wSpn 1).gate (.core 1) .SPN_STREAM_STATE 0 (some 1) = .pass ∧ regAbsent .SPN_STREAM_STATE 0 = false ∧
    ((wSpn 1).regWrite .SPN_STREAM_STATE 0 1).streamUp 0 = true ∧ (wSpn 2).gate (.core 1) .SPN_STREAM_STATE 0 (some 2) = .pass ∧
    ((wSpn 2).regWrite .SPN_STREAM_STATE 0 2).fld SPN_STREAM_STATE.STATE 0 = 2 ∧ (wSpn 3).gate (.core 1) .SPN_STREAM_STATE 0 (some 3) = .pass ∧
    ((wSpn 3).regWrite .SPN_STREAM_STATE 0 3).fld SPN_STREAM_STATE.STATE 0 = 3 := by decide +kernel
theorem witness_sweep : ((wSweep [5] []).stream 0).sweep.isSome = true ∧ ((wSweep [5] []).stream 0).swept.contains 5 = false ∧
    ((wSweep [5] [5]).stream 0).sweep = some [5] ∧ ((wSweep [5] [5]).stream 0).swept.contains 5 = true ∧
    ((wSweep [5, 6] [5]).stream 0).sweep = some [5, 6] ∧ [5, 6].filter (· ≠ 5) ≠ [] := by decide +kernel
theorem witness_staging_reservation : (((wSpn 1).onCore 0 fun k => { k with cancel := none }).core 0).group =
      some { stream := 0, phase := .staging, writes := [(2, some (7, 1))] } ∧ (((wSpn 1).onCore 0 fun k => { k with cancel := none }).core 0).cancel = none ∧
    ((tget [] (wSpn 1).jrnRes 0).any fun r => r.core = 0) = false := by decide +kernel
theorem witness_staging_cancel : ((wSpn 1).core 0).cancel = some 1 := by decide +kernel
theorem witness_journal_append : wReg.nextRec 0 = some { seq := 4, complete := true, nlines := 1, term := 2, lines := [(2, 1, 9)] } ∧
    wReg.streamUp 0 = true ∧ wReg.jrnSize 0 ≠ 0 ∧
    wReg.regionFits 0 (recBytes 0 { seq := 4, complete := true, nlines := 1, term := 2, lines := [(2, 1, 9)] } 0).length = true ∧
    padFor (wReg.jrnSize 0) (wReg.fld JRN_APPEND_PTR.APPEND 0)
      (recBytes 0 { seq := 4, complete := true, nlines := 1, term := 2, lines := [(2, 1, 9)] } 0).length = 0 ∧
    (wReg.appendOk (wReg.owner (ixStream 0)).isNone (wReg.streamPart 0) (wReg.jrnBase 0 + (wReg.fld JRN_APPEND_PTR.APPEND 0 + padFor (wReg.jrnSize 0) (wReg.fld JRN_APPEND_PTR.APPEND 0)
      (recBytes 0 { seq := 4, complete := true, nlines := 1, term := 2, lines := [(2, 1, 9)] } 0).length) % wReg.jrnSize 0)
      (recBytes 0 { seq := 4, complete := true, nlines := 1, term := 2, lines := [(2, 1, 9)] } 0).length).1 = true := by decide +kernel
/-- The same region all but full: 64 bytes from the drain's last release. -/
def wRegFull : State := (wReg.setFld JRN_APPEND_PTR.APPEND 0 (2 ^ 21 - 64)).setFld JRN_DRAIN_PTR.DRAIN 0 0
theorem witness_journal_append_full : wRegFull.nextRec 0 = some { seq := 4, complete := true, nlines := 1, term := 2, lines := [(2, 1, 9)] } ∧
    wRegFull.streamUp 0 = true ∧ wRegFull.jrnSize 0 ≠ 0 ∧
    wRegFull.regionFits 0 (recBytes 0 { seq := 4, complete := true, nlines := 1, term := 2, lines := [(2, 1, 9)] } 0).length = false := by decide +kernel
theorem witness_append_accepted : ((tget [] (wRec { seq := 4, appending := true }).jrnRecs 0).any fun r => r.seq = 4 ∧ r.appending) = true := by
  decide +kernel
theorem witness_drain_ptr : wReg.gate (.core 1) .JRN_DRAIN_PTR 0 (some 32) = .pass ∧
    ptrDiff (32 : W).toNat (wReg.fld JRN_DRAIN_PTR.DRAIN 0) ≤ ptrDiff (wReg.fld JRN_APPEND_PTR.APPEND 0) (wReg.fld JRN_DRAIN_PTR.DRAIN 0) := by decide +kernel
theorem witness_drain_ptr_beyond : wReg.gate (.core 1) .JRN_DRAIN_PTR 0 (some 96) = .pass ∧
    ptrDiff (wReg.fld JRN_APPEND_PTR.APPEND 0) (wReg.fld JRN_DRAIN_PTR.DRAIN 0) < ptrDiff (96 : W).toNat (wReg.fld JRN_DRAIN_PTR.DRAIN 0) := by decide +kernel

/-! ### Repl -/

/-- A message with ledger 7, term, two numbers, the term of the last record and a reason, from node 9. -/
def wMsg (op term a b lt reason : Nat) (body : List Byte) : Pkt :=
  { dst := 0, src := 9, op := op, data := ctlBlock 7 term a b lt reason 0 0 ++ body }
/-- A device with a replica slot 0 of ledger 7 in a state, in term 2 of node 9, and a message delivered. -/
def wSlotR (st : Nat) (k : Pkt) : State :=
  { (((((wMem.setFld JRN_RSLOT_CFG.VALID 0 1).setFld JRN_RSLOT_CFG.LEDGER 0 7).setFld JRN_RSLOT_CFG.STATE 0 st).setFld JRN_RSLOT_TERM.TERM 0 2).setFld
      JRN_RSLOT_CFG.PRIMARY 0 9).setFld JRN_RSLOT_REGION.SIZE_LOG2 0 21 with fabIn := [(0, k)] }
/-- The same after the message is taken. -/
def wSlotU (st : Nat) : State := { wSlotR st {} with fabIn := [] }
/-- A record of number 1 in term 2 with its CRC. -/
def wRecB : List Byte := recBytes 0 { seq := 1, term := 2, typ := 2, complete := true } 0
/-- A stream 3 of ledger 7 in term 2 in a replication state, replica 0 at node 9 in a state of its own, replica 1 and the witness at others, and
a message delivered. -/
def wRepl (st r0 : Nat) (k : Pkt) : State :=
  { (((((((((wMem.setFld JRN_REPL_CFG.LEDGER 3 7).setFld JRN_REPL_STATE.STATE 3 st).setFld JRN_REPL_STATE.TERM 3 2).setFld JRN_REPL_STATE.R0_STATE 3 r0).setFld
      JRN_REPL_MEMBERS.R0_VALID 3 1).setFld JRN_REPL_MEMBERS.R0_NODE 3 9).setFld JRN_REPL_MEMBERS.R1_VALID 3 1).setFld JRN_REPL_MEMBERS.R1_NODE 3 10).setFld
      JRN_REPL_MEMBERS.WIT_VALID 3 1).setFld JRN_REPL_MEMBERS.WIT_NODE 3 11 with
    fabIn := [(0, k)], spn := [(3, { nums := [{ seq := 5 }], openNext := 9, gasp := false })], repl := [(6, { quires := [(4, 5)], next := 6 })] }
def wReplU (st r0 : Nat) : State := { wRepl st r0 {} with fabIn := [] }
/-- The same with replica 0's header walk due. -/
def wWalkDue (b : Bool) : State := { wReplU 1 2 with repl := [(6, { next := 6, walk := b })] }

theorem witness_quire : (wSlotR 2 (wMsg 0x10 2 1 1 2 0 [])).takePkt 0x10 = some (0, wMsg 0x10 2 1 1 2 0 [], wSlotU 2) ∧
    (wSlotU 2).candidateSees (wMsg 0x10 2 1 1 2 0 []) = wSlotU 2 ∧
    (wSlotU 2).slotStale 0 (wMsg 0x10 2 1 1 2 0 []) = false ∧ (wSlotU 2).slotTerm 0 (wMsg 0x10 2 1 1 2 0 []) = some (wSlotU 2) ∧
    (wSlotU 2).fld JRN_RSLOT_HELD.HELD 0 < (wMsg 0x10 2 1 1 2 0 []).ctl.b ∧ (wMsg 0x10 2 1 1 2 0 []).ctl.a ≤ (wSlotU 2).fld JRN_RSLOT_HELD.HELD 0 + 1 ∧
    State.takeRecs 1024 0 ((wMsg 0x10 2 1 1 2 0 []).data.drop 32) false (wSlotU 2) = (.all, false, wSlotU 2) := by decide +kernel
theorem witness_probe : (wSlotR 2 (wMsg 0x13 3 0 0 0 0 [])).takePkt 0x13 = some (0, wMsg 0x13 3 0 0 0 0 [], wSlotU 2) ∧
    (wSlotU 2).candidateSees (wMsg 0x13 3 0 0 0 0 []) = wSlotU 2 ∧
    (wSlotU 2).slotOf (wMsg 0x13 3 0 0 0 0 []).ctl.ledger = some 0 ∧ (wSlotU 2).fld JRN_RSLOT_CFG.STATE 0 = 2 ∧
    (wSlotU 2).fld JRN_RSLOT_CFG.WITNESS 0 = 0 ∧ (wSlotU 2).fld JRN_RSLOT_TERM.TERM 0 < (wMsg 0x13 3 0 0 0 0 []).ctl.term ∧
    (wMsg 0x13 3 0 0 0 0 []).ctl.term < 2 ^ 32 ∧ (wMsg 0x13 3 0 0 0 0 []).src < 2 ^ 14 := by decide +kernel
theorem witness_last_gasp : (wSlotR 2 (wMsg 0x18 2 4 0 2 0 wRecB)).takePkt 0x18 = some (0, wMsg 0x18 2 4 0 2 0 wRecB, wSlotU 2) ∧
    (wSlotU 2).candidateSees (wMsg 0x18 2 4 0 2 0 wRecB) = wSlotU 2 ∧
    (wSlotU 2).slotOf (wMsg 0x18 2 4 0 2 0 wRecB).ctl.ledger = some 0 ∧ (wSlotU 2).fld JRN_RSLOT_TERM.TERM 0 = (wMsg 0x18 2 4 0 2 0 wRecB).ctl.term ∧
    (wSlotU 2).fld JRN_RSLOT_CFG.PRIMARY 0 = 9 ∧ (wMsg 0x18 2 4 0 2 0 wRecB).ctl.a < 2 ^ 64 := by decide +kernel
theorem witness_term_request : (wSlotR 2 (wMsg 0x15 3 4 0 2 0 [])).takePkt 0x15 = some (0, wMsg 0x15 3 4 0 2 0 [], wSlotU 2) ∧
    (wSlotU 2).candidateSees (wMsg 0x15 3 4 0 2 0 []) = wSlotU 2 ∧
    grants (wMsg 0x15 3 4 0 2 0 []).ctl.term ((wSlotU 2).fld JRN_RSLOT_TERM.TERM 0) (wMsg 0x15 3 4 0 2 0 []).ctl.lastTerm (wMsg 0x15 3 4 0 2 0 []).ctl.a
      ((wSlotU 2).fld JRN_RSLOT_TERM.LAST_TERM 0) ((wSlotU 2).fld JRN_RSLOT_HELD.HELD 0) = true := by decide +kernel
theorem witness_slot_valid : wMem.gate (.core 1) .JRN_RSLOT_CFG 0 (some 0x8000000000000000) = .pass ∧
    regAbsent .JRN_RSLOT_CFG 0 = false ∧ wMem.fld JRN_RSLOT_CFG.VALID 0 = 0 ∧
    (wMem.regWrite .JRN_RSLOT_CFG 0 0x8000000000000000).fld JRN_RSLOT_CFG.VALID 0 = 1 := by decide +kernel
theorem witness_slot_off : (wSlotU 2).gate (.core 1) .JRN_RSLOT_CFG 0 (some 0) = .pass ∧
    ((wSlotU 2).regWrite .JRN_RSLOT_CFG 0 0).fld JRN_RSLOT_CFG.VALID 0 = 0 := by decide +kernel
theorem witness_ack : (wRepl 1 1 (wMsg 0x11 2 5 0 2 0 [])).takePkt 0x11 = some (0, wMsg 0x11 2 5 0 2 0 [], wReplU 1 1) ∧
    (wReplU 1 1).response (wMsg 0x11 2 5 0 2 0 []) = (wReplU 1 1, some (3, some 0)) ∧ (wReplU 1 1).rstate 3 0 = 1 ∧ (wReplU 1 1).sending 3 = true ∧
    (wReplU 1 1).diverged 3 (wMsg 0x11 2 5 0 2 0 []).ctl.a (wMsg 0x11 2 5 0 2 0 []).ctl.lastTerm = false ∧
    ((wReplU 1 1).stream 3).gasp = false ∧ (wReplU 1 1).fld JRN_REPL_HELD.HELD (3 * 2 + 0) < (wMsg 0x11 2 5 0 2 0 []).ctl.a ∧
    (wMsg 0x11 2 5 0 2 0 []).ctl.a < 2 ^ 64 := by decide +kernel
theorem witness_reject : (wRepl 1 1 (wMsg 0x12 2 3 0 2 2 [])).takePkt 0x12 = some (0, wMsg 0x12 2 3 0 2 2 [], wReplU 1 1) ∧
    (wReplU 1 1).response (wMsg 0x12 2 3 0 2 2 []) = (wReplU 1 1, some (3, some 0)) ∧ (wMsg 0x12 2 3 0 2 2 []).status ≠ 5 ∧
    (wMsg 0x12 2 3 0 2 2 []).ctl.reason = 2 := by decide +kernel
theorem witness_reject_silent : (wRepl 1 1 (wMsg 0x12 2 3 0 2 3 [])).takePkt 0x12 = some (0, wMsg 0x12 2 3 0 2 3 [], wReplU 1 1) ∧
    (wReplU 1 1).response (wMsg 0x12 2 3 0 2 3 []) = (wReplU 1 1, some (3, some 0)) ∧ (wMsg 0x12 2 3 0 2 3 []).ctl.reason = 3 := by decide +kernel
theorem witness_rejoin : (wRepl 1 3 (wMsg 0x14 2 3 0 2 0 [])).takePkt 0x14 = some (0, wMsg 0x14 2 3 0 2 0 [], wReplU 1 3) ∧
    (wReplU 1 3).streamOf (wMsg 0x14 2 3 0 2 0 []).ctl.ledger = some 3 ∧ (wReplU 1 3).streamTerm 3 (wMsg 0x14 2 3 0 2 0 []) true = (true, wReplU 1 3) ∧
    (wReplU 1 3).memberAt 3 9 = some 0 ∧ (wReplU 1 3).rstate 3 0 = 3 ∧
    (wReplU 1 3).diverged 3 (wMsg 0x14 2 3 0 2 0 []).ctl.a (wMsg 0x14 2 3 0 2 0 []).ctl.lastTerm = false := by decide +kernel
theorem witness_term_grant : (wRepl 3 0 (wMsg 0x16 2 3 0 2 0 [])).takePkt 0x16 = some (0, wMsg 0x16 2 3 0 2 0 [], wReplU 3 0) ∧
    (wReplU 3 0).response (wMsg 0x16 2 3 0 2 0 []) = (wReplU 3 0, some (3, some 0)) ∧ (wReplU 3 0).fld JRN_REPL_STATE.STATE 3 = 3 ∧
    (wMsg 0x16 2 3 0 2 0 []).ctl.term = (wReplU 3 0).fld JRN_REPL_STATE.TERM 3 ∧
    2 * (((List.range 3).filter fun b => ((wReplU 3 0).fld JRN_REPL_STATE.GRANTED 3 ||| grantBit 0).testBit b).length + 1) ≤
      ((wReplU 3 0).members 3).length + 1 := by decide +kernel
/-- The same where replica 1 has granted already. -/
def wVoted : State := (wReplU 3 0).setFld JRN_REPL_STATE.GRANTED 3 2
theorem witness_term_majority : ({ wVoted with fabIn := [(0, wMsg 0x16 2 3 0 2 0 [])] } : State).takePkt 0x16 =
      some (0, wMsg 0x16 2 3 0 2 0 [], wVoted) ∧
    wVoted.response (wMsg 0x16 2 3 0 2 0 []) = (wVoted, some (3, some 0)) ∧ wVoted.fld JRN_REPL_STATE.STATE 3 = 3 ∧
    (wMsg 0x16 2 3 0 2 0 []).ctl.term = wVoted.fld JRN_REPL_STATE.TERM 3 ∧ (wVoted.members 3).length + 1 <
      2 * (((List.range 3).filter fun b => (wVoted.fld JRN_REPL_STATE.GRANTED 3 ||| grantBit 0).testBit b).length + 1) := by decide +kernel
theorem witness_term_refuse : (wRepl 3 0 (wMsg 0x17 2 3 0 2 7 [])).takePkt 0x17 = some (0, wMsg 0x17 2 3 0 2 7 [], wReplU 3 0) ∧
    (wReplU 3 0).response (wMsg 0x17 2 3 0 2 7 []) = (wReplU 3 0, some (3, some 0)) := by decide +kernel
theorem witness_probe_interval : (wReplU 1 3).member 3 0 = some 9 ∧ (wReplU 1 3).rstate 3 0 = 3 ∧ (wReplU 1 3).sending 3 = true ∧
    (wReplU 1 3).fld FAB_NODE.FREEZE 0 = 0 ∧ ((wReplU 1 1).getRepl 3 0).quires ≠ [] ∧ (wReplU 1 1).rstate 3 0 = 1 := by decide +kernel
theorem witness_catchup_walk : (wWalkDue true).rstate 3 0 = 2 ∧ ((wWalkDue true).getRepl 3 0).walk = true ∧ ((wWalkDue true).getRepl 3 0).lastAck = none ∧
    (wWalkDue true).sending 3 = true ∧ (wWalkDue true).findRec ((wWalkDue true).jrnBase 3) ((wWalkDue true).jrnSize 3)
      ((wWalkDue true).fld JRN_APPEND_PTR.APPEND 3) ((wWalkDue true).getRepl 3 0).next ((wWalkDue true).jrnSize 3 / 64 + 1)
      ((wWalkDue true).fld JRN_DRAIN_PTR.DRAIN 3) = none ∧ ((wWalkDue true).stream 3).lastApp < ((wWalkDue true).getRepl 3 0).next ∧
    ((wWalkDue false).getRepl 3 0).walk = false := by decide +kernel
theorem witness_promote : (wReplU 0 0).gate (.core 1) .JRN_REPL_STATE 3 (some 0x0000000000030001) = .pass ∧ regAbsent .JRN_REPL_STATE 3 = false ∧
    field (0x0000000000030001 : W) 3 0 = 1 ∧ (wReplU 0 0).fld JRN_REPL_STATE.STATE 3 = 0 ∧
    ((wReplU 0 0).regWrite .JRN_REPL_STATE 3 0x0000000000030001).fld JRN_REPL_STATE.STATE 3 = 0 ∧ (wReplU 0 0).fld SPN_STREAM_STATE.STATE 3 = 0 ∧
    (wReplU 0 0).fld JRN_REPL_STATE.TERM 3 < ((wReplU 0 0).regWrite .JRN_REPL_STATE 3 0x0000000000030001).fld JRN_REPL_STATE.TERM 3 ∧
    ((wReplU 0 0).regWrite .JRN_REPL_STATE 3 0x0000000000030001).fld JRN_REPL_STATE.SLOT_V 3 = 0 ∧ (wReplU 0 0).members 3 ≠ [] := by decide +kernel
theorem witness_promote_refused : (wReplU 1 0).gate (.core 1) .JRN_REPL_STATE 3 (some 0x0000000000030001) = .pass ∧
    ((wReplU 1 0).regWrite .JRN_REPL_STATE 3 0x0000000000030001).fld JRN_REPL_STATE.STATE 3 = 1 := by decide +kernel
theorem witness_step_down : (wReplU 1 0).gate (.core 1) .JRN_REPL_STATE 3 (some 2) = .pass ∧ field (2 : W) 3 0 = 2 ∧
    ((wReplU 1 0).regWrite .JRN_REPL_STATE 3 2).sending 3 = true := by decide +kernel
theorem witness_gasp_budget : ((({ wReplU 1 0 with spn := [(3, { gasp := true })] } : State)).stream 3).gasp = true ∧
    (({ wReplU 1 0 with spn := [(3, { gasp := true })] } : State)).sending 3 = true := by decide +kernel
theorem witness_degraded : (wReplU 1 0).gate (.core 1) .JRN_REPL_DEGRADED 3 (some 0) = .pass ∧ regAbsent .JRN_REPL_DEGRADED 3 = false := by decide +kernel

/-! ### Fabric -/

/-- Port 1 in a state, enabled, with its lanes' spare free, and what it holds. -/
def wPort (st : Nat) (x : Port) : State :=
  { (((wMem.setFld FAB_PORT_STATUS.STATE 1 st).setFld FAB_PORT_STATUS.SPARE_USE 1 7).setFld FAB_PORT_CTL.ENABLE 1 1) with ports := [(1, x)] }
/-- The same with a packet delivered from port 1 to node 42. -/
def wIn1 (s : State) (k : Pkt) : State := { s with fabIn := [(1, k)] }
/-- Core 1 with a device load outstanding under tag index 3 of its node at an aperture address, and a fabric request of it under tag 5. -/
def wRem (use : TxnUse) (op : Nat) : State :=
  { (((((wMem.setFld FAB_APERTURE.VALID 0 1).setFld FAB_APERTURE.RD 0 1).setFld FAB_APERTURE.SIZE_LOG2 0 20).setFld FAB_NODE.NODE_ID 0 7).onCore 1 fun k =>
      { k with devLoad := some (3, 0) }) with
    txns := [(3, { use := some use, pa := 0x080000000040, device := true, io := { size := 8 } })],
    fabRem := [(5, some { use := .core 0 3 0, port := 8, pkt := { op := op } })] }
/-- Node 7 with an inbound window over its secure DRAM, receive ring 0 and send queue 0. -/
def wInb : State :=
  (((((((wMem.setFld FAB_INBOUND.VALID 0 1).setFld FAB_INBOUND.RD 0 1).setFld FAB_INBOUND.WR 0 1).setFld FAB_INBOUND.ATOM 0 1).setFld FAB_INBOUND.WORLD 0 1).setFld
    FAB_INBOUND.SIZE_LOG2 0 21).setFld FAB_NODE.NODE_ID 0 7)

theorem witness_enable : (wPort 0 {}).gate (.core 1) .FAB_PORT_CTL 1 (some 0x8000000000000000) = .pass ∧ regAbsent .FAB_PORT_CTL 1 = false ∧
    ((wPort 0 {}).regWrite .FAB_PORT_CTL 1 0x8000000000000000).fld FAB_PORT_CTL.ENABLE 1 = 1 ∧ field (0x8000000000000000 : W) 3 0 = 0 ∧
    (wPort 0 {}).fld FAB_PORT_STATUS.STATE 1 = 0 ∧ (wPort 4 {}).gate (.core 1) .FAB_PORT_CTL 1 (some 0) = .pass ∧
    ((wPort 4 {}).regWrite .FAB_PORT_CTL 1 0).fld FAB_PORT_CTL.ENABLE 1 = 0 ∧ (wPort 4 {}).fld FAB_PORT_STATUS.STATE 1 = 4 := by decide +kernel
theorem witness_retrain : (wPort 5 {}).gate (.core 1) .FAB_PORT_CTL 1 (some 0x8000000000000001) = .pass ∧
    ((wPort 5 {}).regWrite .FAB_PORT_CTL 1 0x8000000000000001).fld FAB_PORT_CTL.ENABLE 1 = 1 ∧ field (0x8000000000000001 : W) 3 0 = 1 ∧
    (wPort 5 {}).fld FAB_PORT_STATUS.STATE 1 = 5 := by decide +kernel
theorem witness_lane_swap : (wPort 4 {}).gate (.core 1) .FAB_PORT_CTL 1 (some 0x8000000002000002) = .pass ∧
    ((wPort 4 {}).regWrite .FAB_PORT_CTL 1 0x8000000002000002).fld FAB_PORT_CTL.ENABLE 1 = 1 ∧
    ((wPort 4 {}).regWrite .FAB_PORT_CTL 1 0x8000000002000002).fld FAB_PORT_CTL.SPARE_FOR 1 = 2 ∧ field (0x8000000002000002 : W) 3 0 = 2 ∧
    (wPort 4 {}).fld FAB_PORT_STATUS.SPARE_USE 1 = 7 := by decide +kernel
theorem witness_lane_swap_packet : (wIn1 (wPort 4 { swap := 14 }) { op := 0x3A, data := [3, 2] }).takePkt 0x3A =
      some (1, { op := 0x3A, data := [3, 2] }, wPort 4 { swap := 14 }) ∧ ((wPort 4 { swap := 14 }).port 1).swap = 4 * 3 + 2 := by decide +kernel
theorem witness_lane_swap_steps : (wIn1 (wPort 4 {}) { op := 0x3A, data := [3, 0] }).takePkt 0x3A =
      some (1, { op := 0x3A, data := [3, 0] }, wPort 4 {}) ∧ (wIn1 (wPort 4 { swap := 13 }) { op := 0x3A, data := [3, 1] }).takePkt 0x3A =
      some (1, { op := 0x3A, data := [3, 1] }, wPort 4 { swap := 13 }) ∧ ((wPort 4 { swap := 13 }).port 1).swap = 4 * 3 + 1 := by decide +kernel
theorem witness_training : (wPort 1 {}).fld FAB_PORT_STATUS.STATE 1 = 1 ∧ (wPort 1 {}).fabLane 1 = none ∧ goodLanes 29 = 4 ∧
    (wPort 1 {}).fld FAB_PORT_CTL.ENABLE 1 = 1 := by decide +kernel
/-- A DATA folio with the sequence number 4095, one with a spoilt CRC, and an IDLE folio that acknowledges 3. -/
def wFolio : Folio := { typ := 1, seq := 4095, trailer := folioCrc { typ := 1, seq := 4095 } }
def wBadFolio : Folio := { wFolio with trailer := [] }
def wIdleFolio : Folio := { typ := 0, ack := 3, trailer := folioCrc { typ := 0, ack := 3 } }
theorem witness_data_folio : (wPort 4 { rxExp := 4095 }).linkUp 1 = true ∧ ((wPort 4 { rxExp := 4095 }).port 1).rxExp = 4095 ∧
    (wPort 4 { rxExp := 4095 }).openFolio 1 wFolio = some wFolio ∧ wFolio.nak = false ∧ wFolio.fecOk = true ∧
    (wPort 4 { rxExp := 4095 }).openFolio 1 wBadFolio = none := by decide +kernel
theorem witness_idle_folio : (wPort 4 { replay := [{ seq := 3 }, { seq := 4 }] }).openFolio 1 wIdleFolio = some wIdleFolio ∧ wIdleFolio.fecOk = true ∧
    ((wPort 4 { replay := [{ seq := 3 }, { seq := 4 }] }).port 1).txq = [] ∧
    (((wPort 4 { replay := [{ seq := 3 }, { seq := 4 }] }).port 1).replay.findIdx? fun g => g.seq == 3) = some 0 ∧
    (((wPort 4 { replay := [{ seq := 3 }, { seq := 4 }] }).port 1).replay.findIdx? fun g => g.seq == 2) = none ∧
    (wPort 4 { replay := [{ seq := 3 }, { seq := 4 }] }).linkUp 1 = true := by decide +kernel
theorem witness_nak_repeat : (wPort 4 { nakOut := true }).linkUp 1 = true ∧ ((wPort 4 { nakOut := true }).port 1).nakOut = true ∧
    (wPort 4 { nakOut := true }).fld FAB_NODE.FREEZE 0 = 0 := by decide +kernel
theorem witness_switch_forward : ((wPort 4 { rxq := [(2, { op := 2, dst := 0 })] }).port 1).rxq = (2, { op := 2, dst := 0 }) :: [] ∧ (opVl 2).isSome = true ∧
    (wPort 4 { rxq := [(2, { op := 2, dst := 0 })] }).routeOf 0 true = some (none, false) := by decide +kernel
theorem witness_switch_nowhere : ((wPort 4 { rxq := [(2, { op := 3, dst := 9 })] }).port 1).rxq = (2, { op := 3, dst := 9 }) :: [] ∧ (opVl 3).isSome = true ∧
    (wPort 4 { rxq := [(2, { op := 3, dst := 9 })] }).routeOf 9 true = none ∧ ({ op := 3, dst := 9 } : Pkt).unreachable = none ∧ opVl 99 = none := by
  decide +kernel
theorem witness_aperture : (wRem (.devLoad 1) 2).ioNext 0 3 = true ∧ (wRem (.devLoad 1) 2).region (tget {} (wRem (.devLoad 1) 2).txns (0 * 1024 + 3)).pa = .aperture ∧
    (wRem (.devLoad 1) 2).apertureAddr (tget {} (wRem (.devLoad 1) 2).txns (0 * 1024 + 3)).pa 0 = some (0, 64) ∧ (wRem (.devLoad 1) 2).fabTag = some 0 := by
  decide +kernel
/-- A posted store of core 1 to the aperture, and a load of an aperture that has no window. -/
def wRemSt : State :=
  { (wRem (.devLoad 1) 2).setFld FAB_APERTURE.WR 0 1 with
    txns := [(3, { use := some (.devStore 1 true), pa := 0x080000000040, device := true, io := { size := 8, kind := 1, ewa := true } })] }
def wRemNo : State :=
  { wRem (.devLoad 1) 2 with txns := [(3, { use := some (.devLoad 1), pa := 0x080080000040, device := true, io := { size := 8 } })] }
theorem witness_aperture_posted : wRemSt.ioNext 0 3 = true ∧ wRemSt.region (tget {} wRemSt.txns (0 * 1024 + 3)).pa = .aperture ∧
    wRemSt.apertureAddr (tget {} wRemSt.txns (0 * 1024 + 3)).pa 1 = some (0, 64) ∧ wRemNo.ioNext 0 3 = true ∧
    wRemNo.region (tget {} wRemNo.txns (0 * 1024 + 3)).pa = .aperture ∧ wRemNo.apertureAddr (tget {} wRemNo.txns (0 * 1024 + 3)).pa 0 = none ∧
    (wRemNo.core 1).devLoad = some (3, 0) ∧ (wRemNo.core 1).group = none := by decide +kernel
theorem witness_aperture_room : ∀ p, (wRem (.devLoad 1) 2).fabOut p < 1024 := by
  intro p
  unfold State.fabOut
  exact Nat.lt_of_le_of_lt (List.length_filter_le _ _) (by decide +kernel)
theorem witness_fab_write : ((wIn1 wInb { op := 1, data := List.replicate 16 255 }).takePkt 1).map (·.2.1) = some { op := 1, data := List.replicate 16 255 } ∧
    (wInb.inboundOk { op := 1, data := List.replicate 16 255 } 8 FAB_INBOUND.WR).1 = some true ∧
    ((linesOf 0 8).all fun l => (wInb.inboundOk { op := 1, data := List.replicate 16 255 } 8 FAB_INBOUND.WR).2.lineOk l) = true := by decide +kernel
theorem witness_fab_write_denied : ((wIn1 wMem { op := 1, data := List.replicate 16 255 }).takePkt 1).map (·.2.1) = some { op := 1, data := List.replicate 16 255 } ∧
    (wMem.inboundOk { op := 1, data := List.replicate 16 255 } 8 FAB_INBOUND.WR).1 = none := by decide +kernel
theorem witness_fab_read : ((wIn1 wInb { op := 2, len := 8 }).takePkt 2).map (·.2.1) = some { op := 2, len := 8 } ∧
    (wInb.inboundOk { op := 2, len := 8 } 8 FAB_INBOUND.RD).1 = some true ∧
    ((wInb.inboundOk { op := 2, len := 8 } 8 FAB_INBOUND.RD).2.dmaRead 24 0 8).1 = .ok (List.replicate 8 0) := by decide +kernel
theorem witness_fab_atomic : amoOf ((256 : Nat) % 32) = some .add ∧ (256 : Nat).testBit 8 = true ∧
    (wInb.inboundOk { op := 5, aux := 256 } 8 FAB_INBOUND.ATOM).1 = some true ∧
    ((wInb.inboundOk { op := 5, aux := 256 } 8 FAB_INBOUND.ATOM).2.dmaRead 24 0 8).1 = .ok (List.replicate 8 0) := by decide +kernel
theorem witness_read_rsp : (wIn1 (wRem (.devLoad 1) 2) { op := 3, tag := 5, data := [9] }).takePkt 3 = some (1, { op := 3, tag := 5, data := [9] }, wRem (.devLoad 1) 2) ∧
    tget none (wRem (.devLoad 1) 2).fabRem 5 = some { use := .core 0 3 0, port := 8, pkt := { op := 2 } } ∧
    (tget {} (wRem (.devLoad 1) 2).txns (0 * 1024 + 3)).epoch = 0 ∧ (tget {} (wRem (.devLoad 1) 2).txns (0 * 1024 + 3)).use = some (.devLoad 1) ∧
    ((wRem (.devLoad 1) 2).core 1).devLoad = some (3, 0) ∧ (wRem (.devLoad 1) 2).fld FAB_NODE.FREEZE 0 = 0 := by decide +kernel
theorem witness_write_ack : (wIn1 (wRem (.devStore 1 false) 1) { op := 4, tag := 5 }).takePkt 4 = some (1, { op := 4, tag := 5 }, wRem (.devStore 1 false) 1) ∧
    tget none (wRem (.devStore 1 false) 1).fabRem 5 = some { use := .core 0 3 0, port := 8, pkt := { op := 1 } } ∧
    (tget {} (wRem (.devStore 1 false) 1).txns (0 * 1024 + 3)).use = some (.devStore 1 false) := by decide +kernel
theorem witness_atomic_rsp : (wIn1 (wRem (.devLoad 1) 5) { op := 6, tag := 5, data := [9] }).takePkt 6 = some (1, { op := 6, tag := 5, data := [9] }, wRem (.devLoad 1) 5) ∧
    tget none (wRem (.devLoad 1) 5).fabRem 5 = some { use := .core 0 3 0, port := 8, pkt := { op := 5 } } := by decide +kernel
theorem witness_msg_rsp : (wIn1 { wInb with fabRem := [(5, some { use := .msg 0 0 })] } { op := 8, tag := 5 }).takePkt 8 =
      some (1, { op := 8, tag := 5 }, { wInb with fabRem := [(5, some { use := .msg 0 0 })] }) ∧
    ({ wInb with fabRem := [(5, some { use := .msg 0 0 })] } : State).fld FAB_SQ_PTR.HEAD 0 = 0 ∧
    tget [] ({ wInb with fabRem := [(5, some { use := .msg 0 0 })] } : State).sqDone 0 = [] ∧
    ({ wInb with fabRem := [(5, some { use := .msg 0 0 })] } : State).fld FAB_SQ_CFG.VALID 0 = 0 := by decide +kernel
theorem witness_msg_timeout : ({ wInb with fabRem := [(5, some { use := .msg 0 0 })] } : State).fld FAB_NODE.FREEZE 0 = 0 ∧
    tget none ({ wInb with fabRem := [(5, some { use := .msg 0 0 })] } : State).fabRem 5 = some { use := .msg 0 0 } := by decide +kernel
theorem witness_tail : wInb.gate (.core 1) .FAB_SQ_PTR 0 (some 1) = .pass ∧ regAbsent .FAB_SQ_PTR 0 = false ∧
    wInb.gate (.core 1) .FAB_RXRING_PTR 0 (some 1) = .pass ∧ regAbsent .FAB_RXRING_PTR 0 = false := by decide +kernel
/-- Port 1 upstream, and downstream. -/
def wTime (role : Nat) : State := (wPort 4 {}).setFld FAB_PORT_CTL.TIME_ROLE 1 role
theorem witness_time_sync : (wIn1 (wTime 1) { op := 0x20, operand := 90000 }).takePkt 0x20 = some (1, { op := 0x20, operand := 90000 }, wTime 1) ∧
    (wTime 1).upstream 1 = true ∧ (wTime 1).dtime + 50000 < 90000 + ((wTime 1).port 1).delay ∧
    (wIn1 (wTime 1) { op := 0x20, operand := 50000 }).takePkt 0x20 = some (1, { op := 0x20, operand := 50000 }, wTime 1) ∧
    50000 + ((wTime 1).port 1).delay ≤ (wTime 1).dtime + 50000 := by decide +kernel
theorem witness_time_roles : (wTime 2).fld FAB_PORT_STATUS.STATE 1 = 4 ∧ (wTime 2).fld FAB_PORT_CTL.TIME_ROLE 1 = 2 ∧
    (wIn1 (wTime 2) { op := 0x21 }).takePkt 0x21 = some (1, { op := 0x21 }, wTime 2) ∧
    (wIn1 (wTime 1) { op := 0x22, data := [8] }).takePkt 0x22 = some (1, { op := 0x22, data := [8] }, wTime 1) := by decide +kernel
/-- Node 7 with a world table that gives 8 MiB to partition 0, and receive ring 0 of partition 0 there. -/
def wMsgRing : State :=
  { ((((((wInb.setFld WPC_CFG.WT_EN 0 1).setFld WPC_CFG.WT_BASE 0 1).setFld FAB_RXRING_CFG.VALID 0 1).setFld FAB_RXRING_CFG.SLOT_LOG2 0 6).setFld
    FAB_RXRING_CFG.COUNT_LOG2 0 4).setFld FAB_RXRING_CFG.BASE 0 0x800) with mem := [(0x400004, 0x80)] }
theorem witness_msg : (wIn1 wMsgRing { op := 7, src := 9, data := [1, 2] }).takePkt 7 = some (1, { op := 7, src := 9, data := [1, 2] }, wMsgRing) ∧
    wMsgRing.fld FAB_RXRING_CFG.VALID 0 = 1 ∧ wMsgRing.fld FAB_RXRING_CFG.SRC_NODE 0 = 0 ∧ (wMsgRing.dramIs 25 0x800000 1024 false 0).1 = true ∧
    ((wMsgRing.dramIs 25 0x800000 1024 false 0).2.dmaWrite 0x800000
      (leBytes 2 9 ++ leBytes 2 2 ++ leBytes 4 0 ++ leBytes 8 wMsgRing.dtime ++ [1, 2]) false).isSome = true := by decide +kernel

/-! ### Dram -/

/-- One window of DRAM on channel 0, in state `st`. -/
def wCh (st : Nat) (x : Chan) : State := (((wMem.setFld MCT_CH_STATUS.STATE 0 st).setFld MCT_CH_STATUS.CAP_GIB 0 1).setFld MCT_SCRUB.EN 0 1).setChan 0 x
def wDueCh (d : Nat × Nat × Nat) : State := (wCh 2 {}).setDue d
/-- A population of one DIMM with two ranks of 32 GiB, one with too many ranks, and one that fails step 3. -/
def wPop : DimmPop := { populated := true, supported := true, dpc := 1, ranks := 2, rankGib := 32, speed := 3 }
def wPopBad : DimmPop := { wPop with ranks := 9 }
def wPopFails : DimmPop := { wPop with failed := 3 }
theorem witness_channel_training : State.reset.bootStep < 8 ∧ State.reset.fld MCT_CH_STATUS.STATE 0 = 0 ∧ dimmFits wPop = true ∧ wPop.failed = 0 ∧
    dimmFits wPopBad = false ∧ dimmFits wPopFails = true ∧ wPopFails.failed ≠ 0 := by decide +kernel
theorem witness_training_follows : (State.reset.setChan 0 { pop := some wPop }).fld MCT_CH_STATUS.STATE 1 = 0 ∧
    ((State.reset.setChan 0 { pop := some wPop }).chan 0).pop = some wPop := by decide +kernel
theorem witness_decode_write : State.reset.gate .macen .MCT_DECODE 0 (some 5) = .pass ∧ regAbsent .MCT_DECODE 0 = false := by decide +kernel
theorem witness_ecc_clear : wMem.gate .macen .MCT_ECC_COUNT 0 (some 0x8000) = .pass ∧ regAbsent .MCT_ECC_COUNT 0 = false ∧ bit (0x8000 : W) 15 = true := by
  decide +kernel
theorem witness_refresh : (wCh 2 { reads := [{}] }).fld MCT_CH_STATUS.STATE 0 = 2 ∧ tget 0 ((wCh 2 { reads := [{}] }).chan 0).postponed 3 < 8 ∧
    ((wCh 2 { reads := [{}] }).chan 0).reads ≠ [] ∧ 8 ≤ tget 0 ((wCh 2 { postponed := [(3, 8)] }).chan 0).postponed 3 := by decide +kernel
theorem witness_self_refresh : (wCh 2 { writes := [{}] }).fld MCT_CH_STATUS.STATE 0 = 2 ∧ ((wCh 2 { writes := [{}] }).chan 0).reads = [] ∧
    (wCh 3 {}).fld MCT_CH_STATUS.STATE 0 = 3 := by decide +kernel
theorem witness_parity : (wCh 2 { parity := 3 }).fld MCT_CH_STATUS.STATE 0 = 2 ∧ ((wCh 2 { parity := 3 }).chan 0).parity < 4 ∧
    4 ≤ ((wCh 2 { parity := 4 }).chan 0).parity := by decide +kernel
theorem witness_mc_read : (wCh 2 {}).readCh 7 = some 0 ∧ (wCh 2 {}).fld MCT_CH_STATUS.STATE 0 = 2 ∧ ((wCh 2 {}).chan 0).reads.length < 128 ∧
    (((wCh 2 {}).chan 0).writes.any fun q => q.line == 7) = false ∧ (wCh 2 { writes := [{ line := 7 }] }).readCh 7 = some 0 ∧
    (((wCh 2 { writes := [{ line := 7 }] }).chan 0).writes.any fun q => q.line == 7) = true ∧ (wCh 4 {}).readCh 7 = none := by decide +kernel
theorem witness_mc_write : (wCh 2 {}).place (7 * 64) = some (0, none, 448) ∧ ((wCh 2 {}).chan 0).writes.length < 96 ∧ (wCh 2 {}).chServes 0 = true ∧
    (wCh 4 {}).place (7 * 64) = some (0, none, 448) ∧ (wCh 4 {}).chServes 0 = false := by decide +kernel
theorem witness_burst : (wCh 2 { reads := [{ line := 7 }] }).mcPick 0 [{ line := 7 }] [] = some 0 ∧ ((wCh 2 { reads := [{ line := 7 }] }).chan 0).reads = [{ line := 7 }] ∧ ((wCh 2 { reads := [{ line := 7 }] }).chan 0).writes = [] ∧
    (wCh 2 { reads := [{ line := 7 }] }).fld MCT_CH_STATUS.ERASED_DEV 0 = 31 ∧ tget false (wCh 2 { reads := [{ line := 7 }] }).memPoison 7 = false ∧
    (wCh 2 { reads := [{ line := 7 }] }).partner 0 7 = none := by decide +kernel
theorem witness_device_erased : (4, 0, 2 * 32 + 17) ∈ (wDueCh (4, 0, 2 * 32 + 17)).mac.due ∧ (wDueCh (4, 0, 2 * 32 + 17)).pfw = false ∧
    (wDueCh (4, 0, 2 * 32 + 17)).fld MCT_CH_STATUS.STATE 0 = 2 ∧ (wDueCh (4, 0, 2 * 32 + 17)).fld MCT_CH_STATUS.ERASED_DEV 0 = 31 := by decide +kernel
theorem witness_ppr : (3, 0, 77) ∈ (wDueCh (3, 0, 77)).mac.due ∧ (wDueCh (3, 0, 77)).pfw = false ∧ (wDueCh (3, 0, 77)).fld MCT_CH_STATUS.STATE 0 = 2 := by
  decide +kernel
theorem witness_rank : ((wCh 2 {}).setFld MCT_CH_STATUS.SPARE 0 1).fld MCT_CH_STATUS.SPARE 0 = 1 ∧
    ((wCh 2 {}).setFld MCT_CH_STATUS.SPARE 0 1).fld MCT_CH_STATUS.STATE 0 = 2 ∧
    ((wCh 2 { copyRank := 31 }).setFld MCT_CH_STATUS.SPARE 0 2).fld MCT_CH_STATUS.SPARE 0 = 2 ∧
    ((wCh 2 { copyRank := 31 }).setFld MCT_CH_STATUS.SPARE 0 2).fld MCT_CH_STATUS.ERASED_RANK 0 = 31 := by decide +kernel
theorem witness_patrol : (wCh 2 { scrub := 5 }).fld MCT_SCRUB.EN 0 = 1 ∧ (wCh 2 { scrub := 5 }).fld MCT_CH_STATUS.STATE 0 = 2 ∧
    5 + 1 < (wCh 2 { scrub := 5 }).fld MCT_CH_STATUS.CAP_GIB 0 * 2 ^ 24 ∧
    (wCh 2 { scrub := 2 ^ 24 - 1 }).fld MCT_CH_STATUS.CAP_GIB 0 * 2 ^ 24 ≤ ((wCh 2 { scrub := 2 ^ 24 - 1 }).chan 0).scrub + 1 ∧ (wCh 2 { scrub := 5 }).chLine 0 (5 * 64) = some 5 ∧
    (wCh 2 { scrub := 5 }).fld MCT_CH_STATUS.ERASED_DEV 0 = 31 ∧ (wCh 2 { scrub := 5 }).partner 0 5 = none := by decide +kernel

/-! ### Pcie -/

/-- Port 0 of controller 0 up, and core 1's device access `k` (0 a load, 1 a store) in its window under tag index 3. -/
def wPcie (k : Nat) (u : TxnUse) : State :=
  { (((wMem.setFld PCIE_CTL.EN 0 1).setFld PCIE_CTL.MAX_SPEED 0 4).setFld PCIE_PORT_STATUS.LINK_UP 0 1).onCore 1 fun c => { c with devLoad := some (3, 0) } with
    txns := [(3, { use := some u, pa := 0x100000000040, device := true, io := { kind := k, size := 8, data := 77 } })],
    pcieTags := [(5, some { use := .core 0 3 0, size := 8, pa := 0x100000000040 })] }
/-- The same with FAT entry 0 for requester 0x100 of the secure world, its context cached. -/
def wIo : State :=
  { ((wPcie 0 (.devLoad 1)).setFld IOMMU_FAT_MATCH.VALID 0 1).setFld IOMMU_FAT_MATCH.RID_BASE 0 0x100 with
    ctxCache := [{ rid := 0x100, secure := true, msi := 9, irt := 0x2000, irtLog2 := 4, valid := true }] }
/-- A normal-world context of partition 0, whose remap table at 8 MiB has entry 1 for hart 2, page 0, identity 5. -/
def wMsi : State :=
  { (wIo.setFld WPC_CFG.WT_EN 0 1).setFld WPC_CFG.WT_BASE 0 1 with
    ctxCache := [{ rid := 0x100, msi := 9, irt := 0x800000, irtLog2 := 4, valid := true }],
    mem := [(0x400004, 0x80), (0x800008, 5), (0x80000A, 2), (0x80000F, 0x80)] }
theorem witness_outbound : (wPcie 0 (.devLoad 1)).region 0x100000000040 = .pcie ∧ (wPcie 0 (.devLoad 1)).isEcam 0x100000000040 = false ∧
    (wPcie 0 (.devLoad 1)).lidState (pcieNode 0) 0 = 0 ∧ (wPcie 0 (.devLoad 1)).portUp 0 0 = true ∧ (wPcie 0 (.devLoad 1)).pcieTag 0 0 false = some 0 ∧
    (wPcie 0 (.devLoad 1)).widthOk 0x100000000040 8 = true ∧ (wPcie 0 (.devLoad 1)).ioNext 0 3 = true ∧
    (wPcie 1 (.devStore 1 false)).ioNext 0 3 = true ∧ (wPcie 0 (.devLoad 1)).portUp 0 1 = false := by decide +kernel
def ecamBase : Nat := 0x10FFF0000000
/-- Core 1's access to the configuration space of function 0 of a device on bus 1, and of a root port on bus 0. -/
def wEcam (k off : Nat) : State :=
  { wPcie k (.devLoad 1) with txns := [(3, { use := some (.devLoad 1), pa := ecamBase + off, device := true, io := { kind := k, size := 4 } })] }
theorem witness_ecam : (wEcam 0 0x100000).region (ecamBase + 0x100000) = .pcie ∧ (wEcam 0 0x100000).isEcam (ecamBase + 0x100000) = true ∧
    (wEcam 0 0x100000).widthOk (ecamBase + 0x100000) 4 = true ∧ (wEcam 1 0x100000).ioNext 0 3 = true ∧ (wEcam 0 0).ioNext 0 3 = true ∧
    2 ^ 20 ≤ (ecamBase + 0x100000) % 2 ^ 40 % 0x10000000 ∧ (ecamBase + 0) % 0x10000000 < 2 ^ 20 ∧
    (wEcam 0 0).isEcam (ecamBase + 0) = true := by decide +kernel
theorem witness_completion : tget none (wPcie 0 (.devLoad 1)).pcieTags 5 = some { use := .core 0 3 0, size := 8, pa := 0x100000000040 } ∧
    (tget {} (wPcie 0 (.devLoad 1)).txns 3).use = some (.devLoad 1) ∧ ((wPcie 0 (.devLoad 1)).core 1).devLoad = some (3, 0) ∧
    tget none (wPcie 0 (.devLoad 1)).pcieTags 6 = none ∧ (wPcie 0 (.devLoad 1)).fld ERC_RING_CFG.EN 0 = 0 := by decide +kernel
theorem witness_completion_groups : (wPcie 0 (.devLoad 1)).noGroups := groups_none (by decide +kernel)
theorem witness_pcie_port : (wPcie 0 (.devLoad 1)).portWidth 0 0 ≠ 0 ∧ (wPcie 0 (.devLoad 1)).fld PCIE_CTL.EN 0 = 1 ∧
    (wPcie 0 (.devLoad 1)).gate (.core 1) .PCIE_PORT_CFG 0 (some 0) = .pass ∧ regAbsent .PCIE_PORT_CFG 0 = false := by decide +kernel
theorem witness_takes_inbound : wIo.takesInbound 0 0 0x100 64 2 0x100 false := by unfold State.takesInbound; decide +kernel
/-- The controller in endpoint mode. -/
def wEp : State := wIo.setFld PCIE_CTL.MODE 0 1
theorem witness_takes_endpoint : wEp.takesInbound 0 0 7 64 2 0 false ∧ wEp.fld PCIE_CTL.MODE 0 = 1 := by unfold State.takesInbound; decide +kernel
theorem witness_io_fault :
    (match (wIo.count (cuPcie 0) 3 (some 0) 1).ioXlat { rid := 0x100, s1 := 0x8000000000000000, secure := true, valid := true } false 64 with
     | (.fault k a, _) => k == 1 && a == 64
     | _ => false) = true ∧ ({ wIo with ctxCache := [{ rid := 0x100, s1 := 0x8000000000000000, secure := true, valid := true }] } : State).ioContext 0 0x100 0 =
      (.ok { rid := 0x100, s1 := 0x8000000000000000, secure := true, valid := true },
       { wIo with ctxCache := [{ rid := 0x100, s1 := 0x8000000000000000, secure := true, valid := true }] }) := by decide +kernel
theorem witness_io_write : wIo.fatMatch 0 0x100 = some 0 ∧ wIo.inbReset 0 = false ∧
    wIo.ioContext 0 0x100 0 = (.ok { rid := 0x100, secure := true, msi := 9, irt := 0x2000, irtLog2 := 4, valid := true }, wIo) ∧
    (match (wIo.count (cuPcie 0) 3 (some 0) 1).ioXlat { rid := 0x100, secure := true, msi := 9, irt := 0x2000, irtLog2 := 4, valid := true } true 64 with
     | (.ok pa, s3) => pa == 64 && s3.region pa == .dram && (s3.ioMay { secure := true } pa 2).1 && ((s3.ioMay { secure := true } pa 2).2.dmaWrite pa [1, 2] true).isSome
     | _ => false) = true := by decide +kernel
theorem witness_io_read :
    (match (wIo.count (cuPcie 0) 3 (some 0) 1).ioXlat { rid := 0x100, secure := true, msi := 9, irt := 0x2000, irtLog2 := 4, valid := true } false 64 with
     | (.ok pa, s3) => pa == 64 && s3.region pa == .dram && (s3.ioMay { secure := true } pa 2).1 && ((s3.ioMay { secure := true } pa 2).2.dmaRead 27 pa 2).1 == .ok [5, 0]
     | _ => false) = true := by decide +kernel
theorem witness_io_msi : wMsi.fatMatch 0 0x100 = some 0 ∧ (wMsi.ioContext 0 0x100 0).2 = wMsi ∧
    ((wMsi.count (cuPcie 0) 3 (some 0) 1).ioMay { rid := 0x100, msi := 9, irt := 0x800000, irtLog2 := 4, valid := true } 0x800008 8).1 = true ∧
    (let u := ((wMsi.count (cuPcie 0) 3 (some 0) 1).ioMay { rid := 0x100, msi := 9, irt := 0x800000, irtLog2 := 4, valid := true } 0x800008 8).2.agentRead (0x800008 / 64)
     let w : W := BitVec.ofNat 64 (u.curNat 0x800008 8)
     bit w 63 = true ∧ field w 22 16 < 96 ∧ u.ownsHart 0 (field w 22 16) = true) := by decide +kernel
theorem witness_io_none : wIo.fatMatch 0 0x200 = none ∧ wIo.portUp 0 0 = true ∧ wIo.fld PCIE_CTL.MODE 0 = 0 := by decide +kernel
theorem witness_inval : wIo.gate (.core 1) .IOMMU_INVAL 0 (some 1) = .pass ∧ regAbsent .IOMMU_INVAL 0 = false ∧ wIo.fld IOMMU_INVAL.BUSY 0 = 0 ∧
    field (1 : W) 2 0 = 1 ∧ wIo.gate (.core 1) .IOMMU_INVAL 0 (some 2) = .pass ∧ field (2 : W) 2 0 = 2 ∧ wIo.gate (.core 1) .IOMMU_INVAL 0 (some 3) = .pass ∧
    field (3 : W) 2 0 = 3 := by decide +kernel
theorem witness_inval_done : ((wIo.setFld EVR_SRC_CFG.EN 1552 1).setFld IOMMU_INVAL.BUSY 0 1).fld IOMMU_INVAL.BUSY 0 = 1 ∧
    (((wIo.setFld EVR_SRC_CFG.EN 1552 1).setFld IOMMU_INVAL.BUSY 0 1).setFld IOMMU_INVAL.BUSY 0 0).canPend 1552 := by
  unfold State.canPend; decide +kernel

/-! ### Cipher -/

/-- Cluster 0 in RUN, its ring 0 of the secure world at address 1 MiB with the jobs `js`; lines of zeros at 64 KiB. -/
def wCph (j : Job) : State :=
  { ((((wMem.setFld CPH_STATUS.STATE 0 2).setFld CPH_RING_CFG.VALID 0 1).setFld CPH_RING_CFG.WORLD 0 1).setFld CPH_RING_CFG.BASE 0 0x100).setFld
      CPH_RING_CFG.COUNT_LOG2 0 4 with
    jobs := [(0, [{ j with started := true, src := 0x10000, dst := 0x20000, aux := 0x30000 }])] }
/-- What the statements ask of such a state, for a job that reads `src` bytes of SRC and `aux` of AUX and writes `dst`. -/
def jobRuns (j : Job) (op : Nat) (src aux dst : Nat) : Bool :=
  let s := wCph j
  let j : Job := { j with started := true, src := 0x10000, dst := 0x20000, aux := 0x30000 }
  s.lidState (cphNode 0) 0 != 2 && decide (s.agentLines 26 < 128) && (s.ringJobs 0 0).find? (fun j => j.ix == 0 && j.op == op && j.started && j.status.isNone) == some j &&
  j.srcLen == src && j.auxLen == aux &&
  (match s.cphRead 0 0 0x10000 src with
   | (.ok _, u) => (match u.cphRead 0 0 0x30000 aux with
     | (.ok _, v) => decide (dst ≤ j.dstLen) && ((v.unwait 0 0 j).cphMay 0 0 0x20000 dst).1 &&
         (linesOf 0x20000 dst).all (fun l => ((v.unwait 0 0 j).cphMay 0 0 0x20000 dst).2.lineOk l)
     | _ => false)
   | _ => false)
theorem witness_cph_tail : wMem.gate (.core 1) .CPH_RING_PTR 0 (some 1) = .pass ∧ regAbsent .CPH_RING_PTR 0 = false := by decide +kernel
theorem witness_fetch : (let s : State := { (wCph {}).setFld CPH_RING_PTR.TAIL 0 1 with jobs := [], mem := [(0x100000, 0x3F), (0x10001C, 8)] }
    s.fld CPH_STATUS.STATE 0 = 2 ∧ s.lidState (cphNode 0) 0 = 0 ∧ s.fld CPH_STATUS.JOBS 0 < 64 ∧ tget 0 s.cphTurn 0 = 0 ∧ s.fetchable 0 0 = some 0 ∧
    (s.cphRead 0 0 0x100000 64).1 = .ok (0x3F :: List.replicate 27 0 ++ 8 :: List.replicate 35 0) ∧ algOk 0x3F 0 = true ∧
    (s.cphRead 0 0 0x100000 64).2.keyOk true 0 0x3F 0 0 false = true ∧ (s.cphRead 0 0 0x100000 64).2.keyOk true 0 0x3F 0 0 true = true) := by decide +kernel
theorem witness_job_complete : (let s := wCph { status := some 1, flags := 1 }
    (s.ringJobs 0 0).length = 1 ∧ s.fld CPH_RING_PTR.HEAD 0 = 0 ∧ (s.cphMay 0 0 0x100000 64).1 = true ∧
    ((linesOf (0x100000 + 28) 4).all fun l => (s.cphMay 0 0 0x100000 64).2.lineOk l) = true) := by decide +kernel
theorem witness_selftest : State.reset.fld CPH_STATUS.STATE 1 < 2 := by decide +kernel
theorem witness_hash : jobRuns { op := 0x10, srcLen := 3, dstLen := 32 } 0x10 3 0 32 = true ∧ (wCph { op := 0x10 }).jobAlg 0 0 0 = 0 := by decide +kernel
/-- A hash job whose SRC is at an address that no DRAM serves. -/
def wFarJob : Job := { op := 0x10, srcLen := 3, dstLen := 32, src := 2 ^ 47, started := true }
def wCphFar : State := { wCph {} with jobs := [(0, [wFarJob])] }
theorem witness_hash_fails : wCphFar.agentLines 26 < 128 ∧
    (wCphFar.ringJobs 0 0).find? (fun j => j.ix == 0 && j.op == 0x10 && j.started && j.status.isNone) = some wFarJob ∧
    wCphFar.cphRead 0 0 wFarJob.src wFarJob.srcLen = (.fail 0x0C (2 ^ 47), wCphFar) ∧ hashLen 0 ≤ wFarJob.dstLen := by decide +kernel
theorem witness_fetch_failed : (let s : State := { (wCph {}).setFld CPH_RING_PTR.TAIL 0 1 with jobs := [] }.setFld CPH_STATUS.STATE 0 3
    s.fld CPH_STATUS.STATE 0 = 3 ∧ s.fetchable 0 0 = some 0 ∧ (s.cphRead 0 0 0x100000 64).1 = .ok (List.replicate 64 0)) := by decide +kernel
theorem witness_random : jobRuns { op := 0x3F, dstLen := 20 } 0x3F 0 0 20 = true := by decide +kernel
theorem witness_aes : jobRuns { op := 1, alg := 1, srcLen := 16, dstLen := 16 } 1 16 0 16 = true ∧ jobRuns { op := 2, srcLen := 16, dstLen := 16 } 2 16 0 16 = true ∧
    jobRuns { op := 1, alg := 3, srcLen := 16, dstLen := 32, auxLen := 5 } 1 16 5 32 = true ∧
    jobRuns { op := 2, alg := 3, srcLen := 17, dstLen := 1, auxLen := 5 } 2 17 5 1 = true := by decide +kernel
theorem witness_macs : jobRuns { op := 3, srcLen := 3, dstLen := 16 } 3 3 0 16 = true ∧ jobRuns { op := 4, srcLen := 3, auxLen := 16 } 4 3 16 0 = true ∧
    jobRuns { op := 7, srcLen := 3, dstLen := 8 } 7 3 0 8 = true ∧ jobRuns { op := 8, srcLen := 3, auxLen := 8 } 8 3 8 0 = true ∧
    jobRuns { op := 0x11, alg := 1, srcLen := 3, dstLen := 48 } 0x11 3 0 48 = true ∧ (wCph { op := 0x11, alg := 1 }).jobAlg 0 0 0 = 1 ∧
    jobRuns { op := 0x12, srcLen := 3, auxLen := 32 } 0x12 3 32 0 = true := by decide +kernel
theorem witness_tdes : jobRuns { op := 5, srcLen := 8, dstLen := 8 } 5 8 0 8 = true ∧ jobRuns { op := 6, srcLen := 8, dstLen := 8 } 6 8 0 8 = true := by
  decide +kernel
theorem witness_verify : jobRuns { op := 0x20, k1 := some { alg := 5, size := 256 }, srcLen := 3, auxLen := 256 } 0x20 3 256 0 = true ∧
    sigLens 0x20 { k1 := some { alg := 5, size := 256 } } = (256, 256) ∧ jobRuns { op := 0x22, srcLen := 3, auxLen := 128 } 0x22 3 128 0 = true ∧
    sigLens 0x22 {} = (64, 64) ∧ jobRuns { op := 0x24, srcLen := 3, auxLen := 96 } 0x24 3 96 0 = true ∧ sigLens 0x24 {} = (32, 64) ∧
    jobRuns { op := 0x26, srcLen := 3, auxLen := 5261 } 0x26 3 5261 0 = true ∧ sigLens 0x26 {} = (1952, 3309) := by decide +kernel
theorem witness_sign : jobRuns { op := 0x21, alg := 16, k1 := some { alg := 5, size := 256 }, srcLen := 3, dstLen := 256 } 0x21 3 0 256 = true ∧
    jobRuns { op := 0x23, srcLen := 3, dstLen := 64 } 0x23 3 0 64 = true ∧ jobRuns { op := 0x25, srcLen := 3, dstLen := 64 } 0x25 3 0 64 = true ∧
    jobRuns { op := 0x27, srcLen := 3, dstLen := 3309 } 0x27 3 0 3309 = true := by decide +kernel
theorem witness_payment : jobRuns { op := 0x30, auxLen := 27, dstLen := 8 } 0x30 0 27 8 = true ∧ jobRuns { op := 0x31, auxLen := 27, dstLen := 16, alg := 0x40 } 0x31 0 27 16 = true ∧
    (ksnOf {}).2 = true ∧ jobRuns { op := 0x32, srcLen := 3, auxLen := 16, alg := 1 } 0x32 3 16 0 = true ∧
    jobRuns { op := 0x33, srcLen := 3, auxLen := 32 } 0x33 3 32 0 = true ∧ jobRuns { op := 0x33, flags := 4, srcLen := 3, auxLen := 48, dstLen := 8 } 0x33 3 48 8 = true := by
  decide +kernel

/-! ### Wpc -/

/-- Partition 3 in reset step `k`, with hart 0 on core 0. -/
def wPart (k : Nat) : State :=
  { (((wRun.setFld WPC_OWNER.VALID (ixHart 0) 1).setFld WPC_OWNER.PARTITION (ixHart 0) 3).setFld WPC_PART_CTL.STATE 3 1) with
    partStep := [(3, k)], hartPart := [(0, 3)] }
def wHold (s : State) : State := s.setFld WPC_PART_CTL.HOLD 3 1
/-- Core 0 of the monitor with a call of function `fn` and argument `a1`, core 4 of its tile parked. -/
def wCall (fn a1 : W) : State :=
  (((wRun.onCore 0 fun k => (((k.setX 10 fn).setX 11 a1).setCsr 0x342 24).setCsr 0x341 0x1000).setFld PAIR_STATUS.STATE 4 1).setSlot 4 0 4)
def wCallPair : State := { wCall 0x02000002 0 with pairs := [(0, { bound := true, leader := 0, trailer := 4 })] }
theorem witness_sync : wMem.gate (.core 1) .WPC_SYNC 0 (some 1) = .pass ∧ regAbsent .WPC_SYNC 0 = false ∧ bit (1 : W) 0 = true ∧
    wMem.fld WPC_SYNC.BUSY 0 = 0 ∧ (wMem.setFld WPC_SYNC.BUSY 0 1).fld WPC_SYNC.BUSY 0 = 1 := by decide +kernel
theorem witness_lock : wMem.gate (.core 1) .WPC_CFG 0 (some (2 ^ 63)) = .pass ∧ regAbsent .WPC_CFG 0 = false := by decide +kernel
theorem witness_part_reset : wMem.gate (.core 1) .WPC_PART_CTL 3 (some 1) = .pass ∧ regAbsent .WPC_PART_CTL 3 = false ∧ field (1 : W) 1 0 = 1 ∧
    (wMem.regWrite .WPC_PART_CTL 3 1).fld WPC_PART_CTL.STATE 3 = 0 ∧ wMem.fld WPC_PART_CFG.ESCALATE 3 = 0 ∧
    (wMem.setFld WPC_PART_CFG.ESCALATE 3 1).gate (.core 1) .WPC_PART_CTL 3 (some 1) = .pass ∧
    (wMem.setFld WPC_PART_CFG.ESCALATE 3 1).fld WPC_PART_CFG.ESCALATE 3 = 1 ∧ wMem.rstLevel = 0 ∧
    ((wMem.setFld WPC_PART_CTL.STATE 3 2).regWrite .WPC_PART_CTL 3 1).fld WPC_PART_CTL.STATE 3 ≠ 0 := by decide +kernel
theorem witness_part_release : (wMem.setFld WPC_PART_CTL.STATE 3 2).gate (.core 1) .WPC_PART_CTL 3 (some 2) = .pass ∧ field (2 : W) 1 0 = 2 ∧
    ((wMem.setFld WPC_PART_CTL.STATE 3 2).regWrite .WPC_PART_CTL 3 2).fld WPC_PART_CTL.STATE 3 = 2 := by decide +kernel
theorem witness_part_steps : tget 0 (wPart 2).partStep 3 = 2 ∧ (wPart 2).partCores 3 = [0] ∧ tget 0 (wPart 5).partStep 3 = 5 ∧ (wPart 5).portsBusy 3 = false ∧
    (wPart 5).fld WPC_PART_CTL.HOLD 3 = 0 ∧ (wHold (wPart 5)).portsBusy 3 = false ∧ (wHold (wPart 5)).fld WPC_PART_CTL.HOLD 3 = 1 ∧
    tget 0 (wPart 3).partStep 3 = 3 ∧ (∀ c ∈ (wPart 3).partCores 3, ((wPart 3).core c).flushed = true) ∧ (wPart 3).rstLevel = 0 ∧
    ((wPart 2).pairOf 0) = none := by decide +kernel
/-- The same with harts 0 and 1 of the partition on cores 0 and 4, which are a pair. -/
def wPartPair : State :=
  { (((wPart 2).setSlot 1 1 0x7F).setSlot 4 0 1) with hartPart := [(0, 3), (1, 3)], pairs := [(0, { bound := true, leader := 0, trailer := 4 })] }
theorem witness_part_pair : tget 0 wPartPair.partStep 3 = 2 ∧ wPartPair.partCores 3 = [wPartPair.leaderOf 0, wPartPair.trailerOf 0] ∧
    wPartPair.pairOf (wPartPair.leaderOf 0) = some 0 ∧ (wPartPair.pair 0).vote = none ∧ (wPartPair.pair 0).leader ≠ (wPartPair.pair 0).trailer ∧
    (wPartPair.pair 0).leader < 5 ∧ (wPartPair.pair 0).trailer < 5 ∧ (wPartPair.pair (0 / 2 * 2 + (1 - 0 % 2))).bound = false := by decide +kernel
/-- Core 0 in S-mode, and the same inside a group. -/
def wSup : State := wRun.onCore 0 fun k => { k with mode := .s }
def wSupIn : State := wSup.onCore 0 fun k => { k with group := some { fallback := 64 } }
theorem witness_wcall : wSup.runs 0 ∧ (wSup.core 0).mode = .s ∧ custom0Bad 0 false false = false ∧
    (wSup.core 0).virt = false ∧ (wSup.core 0).group = none ∧ wSup.allCompared 0 = true := ⟨runs_of (by decide +kernel), by decide +kernel⟩
theorem witness_wcall_group : wSupIn.runs 0 ∧ (wSupIn.core 0).mode = .s ∧ (wSupIn.core 0).virt = false ∧
    ((wSupIn.core 0).group.map (·.abortable)) = some true := ⟨runs_of (by decide +kernel), by decide +kernel⟩
theorem witness_wcall_illegal : wRun.runs 0 ∧ (wRun.core 0).mode ≠ .s ∧ (wRun.core 0).group = none ∧ wRun.allCompared 0 = true ∧
    custom0Bad 0x7000 false false = true := ⟨runs_of (by decide +kernel), by decide +kernel⟩
theorem witness_calls : (wCall 0 0).wcallPends 0 0 = true ∧ (wCall 0x02000001 5).wcallPends 0 0x02000001 = true ∧
    5 ≤ (((wCall 0x02000001 5).core 0).getX 11).toNat ∧ (wCall 0x02000002 0).wcallPends 0 0x02000002 = true ∧ (wCall 0x02000002 0).ledPair 0 = none := by
  decide +kernel
theorem witness_call_bind : (wCall 0x02000001 4).wcallPends 0 0x02000001 = true ∧ (((wCall 0x02000001 4).core 0).getX 11).toNat = 4 ∧ 4 ≠ coreSlot 0 ∧
    (wCall 0x02000001 4).slotState (coreTile 0 * 5 + 4) = 0 ∧ (wCall 0x02000001 4).fld PAIR_STATUS.STATE (coreTile 0 * 5 + 4) = 1 ∧
    ((wCall 0x02000001 4).core (coreTile 0 * 5 + 4)).part = ((wCall 0x02000001 4).core 0).part ∧ ((wCall 0x02000001 4).pair (2 * coreTile 0)).bound = false ∧
    (wCall 0x02000001 4).fld PAIR_STATUS.STATE 0 = 0 := by
  decide +kernel
theorem witness_call_bind_not : (wCall 0x02000001 0).wcallPends 0 0x02000001 = true ∧ (((wCall 0x02000001 0).core 0).getX 11).toNat = 0 ∧
    (wCall 0x02000001 0).fld PAIR_STATUS.STATE 0 = 0 ∧ (wCall 0x02000001 0).bindErr 0 0 = 3 ∧
    ((wCall 0x02000001 0).setFld PAIR_STATUS.STATE 0 2).wcallPends 0 0x02000001 = true ∧
    ((wCall 0x02000001 0).setFld PAIR_STATUS.STATE 0 2).fld PAIR_STATUS.STATE 0 ≠ 0 := by decide +kernel
theorem witness_call_unbind : wCallPair.wcallPends 0 0x02000002 = true ∧ wCallPair.ledPair 0 = some 0 ∧ wCallPair.allCompared 0 = true := by decide +kernel
theorem witness_call_reset : (wCall 0x03000001 0).wcallPends 0 0x03000001 = true ∧ field (((wCall 0x03000001 0).core 0).getCsr 0x680) 63 60 = 0 ∧
    ((wCall 0x03000001 0).core 0).part = 0 ∧ (wCall 0x03000001 0).fld WPC_PART_CTL.STATE 0 = 0 ∧ (wCall 0x03000001 0).fld WPC_PART_CFG.ESCALATE 0 = 0 ∧
    field ((((wCall 0x03000001 0).onCore 0 fun k => k.setCsr 0x680 (8 <<< 60)).core 0).getCsr 0x680) 63 60 ≠ 0 ∧
    ((wCall 0x03000001 0).onCore 0 fun k => k.setCsr 0x680 (8 <<< 60)).wcallPends 0 0x03000001 = true ∧
    ((wCall 0x03000001 0).setFld WPC_PART_CTL.STATE 0 1).fld WPC_PART_CTL.STATE 0 ≠ 0 ∧
    ((wCall 0x03000001 0).setFld WPC_PART_CFG.ESCALATE 0 1).fld WPC_PART_CFG.ESCALATE 0 = 1 ∧ (wCall 0x03000001 0).rstLevel = 0 := by decide +kernel

/-! ### Evr -/

/-- A device with source 5 enabled and edge-triggered, routed to hart 0's page 2; hart 0 is in a running partition. -/
def wEvents : State :=
  ((((State.reset.setFld EVR_SRC_CFG.EN 5 1).setFld EVR_SRC_CFG.EDGE 5 1).setFld EVR_SRC_CFG.PAGE 5 2).setFld EVR_TGT_THRESH.THRESH (tgtIx 0 16) 255)
/-- The same with an entry pending at hart 0's secure target. -/
def wPend : State := { wEvents with pend := [{ hart := 0, page := 16, prio := 9, ident := 5 }] }
/-- The same with core 0 running and the entry's source NMI-class. -/
def wNmi : State := (wPend.setFld EVR_SRC_CFG.NMI 5 1).onCore 0 fun k => { k with run := .running }

theorem witness_events_rise : tget false wEvents.srcHigh 5 = false ∧ wEvents.canPend 5 := by
  unfold State.canPend; decide +kernel
theorem witness_events_fall : State.reset.fld EVR_SRC_CFG.EDGE 5 = 0 ∧ isMcheck 5 = false := by decide +kernel
theorem witness_events_message : State.reset.discards 95 none = false ∧
    ∀ e ∈ State.reset.pend, ¬(e.hart = 95 ∧ e.page = 16 ∧ e.ident = 0x800 + State.reset.heldPrio 95 16 255) := by decide +kernel
theorem witness_events_claim : wPend.gate (.core 0) .EVR_TGT_CLAIM (tgtIx 0 16) none = .pass ∧
    wPend.best 0 16 = some { hart := 0, page := 16, prio := 9, ident := 5 } := by decide +kernel
theorem witness_events_eoi : wPend.gate (.core 0) .EVR_TGT_EOI (tgtIx 95 16) (some 5) = .pass := by decide +kernel
theorem witness_events_inject : State.reset.gate (.core 0) .EVR_TGT_INJECT (tgtIx 0 16) (some 255) = .pass ∧
    State.reset.discards 0 none = false := by decide +kernel
theorem witness_events_route : State.reset.gate (.core 0) .EVR_SRC_CFG 2047 (some 0) = .pass ∧ regAbsent .EVR_SRC_CFG 2047 = false ∧
    (State.reset.regWrite .EVR_SRC_CFG 2047 0).fld EVR_SRC_CFG.EN 2047 = 0 ∧ isMcheck 2047 = false := by decide +kernel
/-- The same with core 0 inside a group. -/
def wNmiIn : State := wNmi.onCore 0 fun k => { k with group := some { fallback := 64 } }
/-- Source 1700 at the pin of GPIO 4, which has an entry at the normal target of hart 0. -/
def wGpio : State := { (State.reset.setFld EVR_SRC_CFG.EN 1700 1) with pend := [{ hart := 0, page := 0, prio := 9, ident := 1700 }] }
theorem witness_events_edge_fall : wEvents.fld EVR_SRC_CFG.EDGE 5 = 1 := by decide +kernel
theorem witness_events_merge : ∃ e ∈ ({ State.reset with pend := [{ hart := 0, page := 16, prio := 9, ident := 0x809 }] } : State).pend,
    e.hart = 0 ∧ e.page = 16 ∧ e.ident = 0x800 + State.reset.heldPrio 0 16 9 := by decide +kernel
theorem witness_events_look : wPend.gate .macen .EVR_TGT_CLAIM (tgtIx 0 16) none = .pass ∧ State.reset.best 0 16 = none := by decide +kernel
theorem witness_events_move : wGpio.gate (.core 0) .EVR_SRC_CFG 1700 (some (2 ^ 63)) = .pass ∧ regAbsent .EVR_SRC_CFG 1700 = false ∧
    (wGpio.pend.any fun e => e.ident == 1700) = true ∧ (wGpio.regWrite .EVR_SRC_CFG 1700 (2 ^ 63)).fld EVR_SRC_CFG.EN 1700 = 1 := by decide +kernel
theorem witness_events_level : ({ State.reset with srcHigh := [(1700, true)] } : State).gate (.core 0) .EVR_SRC_CFG 1700 (some (2 ^ 63)) = .pass ∧
    (({ State.reset with srcHigh := [(1700, true)] } : State).regWrite .EVR_SRC_CFG 1700 (2 ^ 63)).canPend 1700 ∧
    (({ State.reset with srcHigh := [(1700, true)] } : State).regWrite .EVR_SRC_CFG 1700 (2 ^ 63)).fld EVR_SRC_CFG.EDGE 1700 = 0 := by
  unfold State.canPend; decide +kernel
theorem witness_events_nmi_group : wNmiIn.coreHart 0 < 96 ∧
    wNmiIn.bestNmi (wNmiIn.coreHart 0) = some { hart := 0, page := 16, prio := 9, ident := 5 } ∧
    wNmiIn.fld EVR_TGT_STATUS.NMI_ACTIVE (tgtIx (wNmiIn.coreHart 0) 16) = 0 ∧
    (wNmiIn.core 0).group = some { fallback := 64 } ∧ ({ fallback := 64 } : Group).abortable = true ∧
    ({ fallback := 64 } : Group).requestSent = false ∧ (wNmiIn.cgAbort 0 0x0C 0 0).intrReady 0 32 = true := by decide +kernel
theorem witness_events_nmi : wNmi.coreHart 0 < 96 ∧ wNmi.bestNmi (wNmi.coreHart 0) = some { hart := 0, page := 16, prio := 9, ident := 5 } ∧
    (wNmi.core 0).group = none ∧ wNmi.fld EVR_TGT_STATUS.NMI_ACTIVE (tgtIx (wNmi.coreHart 0) 16) = 0 ∧ wNmi.intrReady 0 32 = true := by
  decide +kernel

/-! ### Sp -/

/-- Core 1 of the secure world, keys 1 (a KEK) and 2 (exportable). -/
def wKeys : State :=
  { wMem with keys := [(1, some { cls := 0, usage := 1, alg := 1, value := [1, 2] }), (2, some { cls := 0, usage := 2, alg := 1, value := [3] })], keyNext := 3 }
/-- The SP released with the options loaded, in life-cycle state `lc`. -/
def wBoot (lc : Nat) : State :=
  { State.reset with
    bootStep := 2, relStep := 3, fuses := (List.range lc).flatMap fun g => (List.range 8).map fun i => (8 * g + i, true) }
def wLc (lc : Nat) : State := { wMem with fuses := (wBoot lc).fuses }
def wSel : State := { wBoot 3 with recovSel := true }
def wZero (s : State) : State := { s with bootStep := 6, relStep := 6 }
def wTrial : State :=
  { (wMem.setFld SP_TRIAL.RUNNING 0 1).setFld EVR_SRC_CFG.EN 1666 1 with boot := { slot := some 0, trial := true } }
def wRcv (c : Nat) : State := { wMem with rcv := { active := true, chan := c, slot := some 1 }, opt := { node := 9, source := 4 } }
theorem witness_key_generate : wKeys.agentSecure (.core 1) = true ∧ classTakes 0 1 0 = true ∧ wKeys.keys.length < 8192 ∧ wKeys.keyNext < 65536 ∧
    classTakes 6 6 0 = true ∧ pubLen 6 0 = 64 ∧ wKeys.evReady = true := by decide +kernel
theorem witness_key_handles : tget none wKeys.keys 1 = some { cls := 0, usage := 1, alg := 1, value := [1, 2] } ∧ (1 : Nat).testBit 0 = true ∧
    tget none wKeys.keys 2 = some { cls := 0, usage := 2, alg := 1, value := [3] } ∧ (2 : Nat).testBit 1 = true := by decide +kernel
theorem witness_lc : wKeys.lc < 3 ∧ (wLc 2).agentSecure (.core 1) = true ∧ 1 ≤ (wLc 2).lc ∧
    (wLc 2).lc ≤ 4 := by decide +kernel
theorem witness_key_refused : tget none wKeys.keys 9 = none ∧ classTakes 6 1 0 = false ∧ (0 : Nat).testBit 1 = false ∧ ([] : List Byte).length ≠ 96 ∧
    ([] : List Byte).length ≠ 32 := by decide +kernel
theorem witness_key_full : 8192 ≤ ({ wKeys with keys := List.replicate 8192 (9, none) } : State).keys.length :=
  Nat.le_of_eq List.length_replicate.symm
theorem witness_lc_rma : ({ wLc 3 with ksErased := true } : State).lc = 3 ∧ ({ wLc 3 with ksErased := true } : State).ksErased = true ∧
    (wLc 3).agentSecure (.core 1) = true ∧ (wLc 3).ksErased = false ∧ (wLc 5).lc = 5 ∧ wMem.lc = 0 := by decide +kernel
theorem witness_tamper_masked : wMem.lc ≤ 1 := by decide +kernel
theorem witness_trial_not : wMem.agentSecure (.core 1) = true ∧ wMem.boot.slot = none ∧
    ({ wMem with boot := { slot := some 0 } } : State).boot.slot ≠ none ∧ ({ wMem with boot := { slot := some 0 } } : State).boot.trial = false ∧
    wMem.fld SP_TRIAL.RUNNING 0 = 0 := by decide +kernel
theorem witness_boot_scrapped : (wBoot 5).bootStep = 2 ∧ 3 ≤ (wBoot 5).relStep ∧ (wBoot 5).rcv.active = false ∧ (wBoot 5).lc = 5 := by decide +kernel
theorem witness_chunk_not : field (0x0001000000000000 : W) 49 48 = 1 ∧ field (0x0001000000000000 : W) 47 32 = 0 := by decide +kernel
theorem witness_recovery_end : ((wRcv 2).setFld FAB_NODE.NODE_ID 0 9 |>.setFld FAB_PORT_STATUS.STATE 3 4).rcv.slot = some 1 ∧
    (wRcv 2).rstLevel = 0 ∧ (wRcv 2).rcv.chan = 2 ∧ ({ wRcv 2 with opt := {} } : State).opt.node = 0 := by decide +kernel
theorem witness_tamper : 1 < (wBoot 2).lc ∧ (wBoot 2).rstLevel < 2 := by decide +kernel
theorem witness_boot : (wBoot 0).bootStep = 2 ∧ (wBoot 0).rcv.active = false ∧ (wBoot 0).lc = 0 ∧ 3 ≤ (wBoot 0).relStep ∧ (wBoot 3).lc = 3 ∧ (wBoot 3).recovSel = false ∧
    (wSel).lc = 3 ∧ (wBoot 3).rstLevel = 0 := by decide +kernel
theorem witness_zeroing : (wZero wMem).boot.slot = none ∧ (wZero wTrial).boot.slot = some 0 ∧
    wTrial.rstLevel = 0 := by decide +kernel
theorem witness_trial : wTrial.boot.slot = some 0 ∧ wTrial.fld SP_TRIAL.RUNNING 0 = 1 ∧ wTrial.halted 16 = false ∧ wTrial.rstLevel = 0 := by decide +kernel
theorem witness_trial_warning : wTrial.canPend 1666 := by unfold State.canPend; decide +kernel
theorem witness_recovery : (wRcv 1).rcv.active = true ∧ field (0x0001000200000000 : W) 49 48 = 1 ∧ field (0x0001000200000000 : W) 47 32 = 2 ∧
    field (0x0002000000000000 : W) 49 48 = 2 ∧ field (0x0003000000000000 : W) 49 48 = 3 ∧ (wRcv 1).rstLevel = 0 := by decide +kernel
theorem witness_fabric_recovery : (wRcv 2).fld FAB_NODE.NODE_ID 0 ≠ (wRcv 2).opt.node ∧
    ((wRcv 2).setFld FAB_NODE.NODE_ID 0 9 |>.setFld FAB_PORT_STATUS.STATE 3 4).fld FAB_NODE.NODE_ID 0 = 9 ∧
    ((wRcv 2).setFld FAB_NODE.NODE_ID 0 9 |>.setFld FAB_PORT_STATUS.STATE 3 4).fld FAB_PORT_STATUS.STATE 3 = 4 := by decide +kernel

/-! ### Rcp -/

/-- Core 1 running, unit 22 closed or drained or off, a channel trained, watchdogs 3 and 16 counting, and every source enabled that the RCP
raises. -/
def wRcp : State :=
  ((((wRun.setFld TMR_WDOG.EN 3 1).setFld MCT_CH_STATUS.STATE 2 2).setFld EVR_SRC_CFG.EN 1283 1).setFld EVR_SRC_CFG.EN 1600 1).setFld EVR_SRC_CFG.EN 1609 1
def wUnit (st pwr lid : Nat) : State :=
  ((wMem.setFld RCP_BLOCK_CTL.STATE 22 st).setFld RCP_BLOCK_CTL.PWR_ON 22 pwr).setFld LID_SECTION.STATE (lidIx 43 0) lid
def wReset (l : Nat) : State := { wRcp with rstLevel := l }
def wRelease (k : Nat) : State := { State.reset with relStep := k, bootStep := if k = 2 then 2 else 0 }
def wIdle : State := { wRcp.onCore 0 fun k => { k with run := .wfi } with mac := { idle := [(0, 5)] } }
def wQuiet : State :=
  ((List.range 120).foldl (fun (s : State) c => s.onCore c fun k => { k with run := .gated }) State.reset).setFld MCT_CH_STATUS.STATE 2 2
def wHot (b : Bool) : State := { (wRcp.setFld RCP_THERMAL.THROTTLE 0 1) with prochotLow := b }
theorem witness_reset_levels : (wReset 0).rstLevel < 2 ∧ (wReset 2).rstLevel = 2 ∧ (wReset 0).rstLevel = 0 ∧ (wReset 0).resetInLow = false ∧
    ((wReset 0).core 0).flushing = false := by decide +kernel
theorem witness_core_reset : ((wRun.onCore 4 fun k => { k with run := .gated }).core 4).flushing = false ∧
    ((wRun.onCore 4 fun k => { k with run := .gated }).core 4).run = .gated ∧ (wRun.onCore 4 fun k => { k with run := .gated }).slotState 4 ≠ 0 ∧
    (wReset 0).allHeld = false ∧ ((wReset 0).setFld PAIR_STATUS.STATE 0 1).fld PAIR_STATUS.STATE 0 = 1 := by decide +kernel
theorem witness_core_resets : ∃ u, exec (.coreReset [0]) (wRun.onCore 1 fun k => { k with run := .running }) = .next u ∧ u.allHeld = false :=
  ⟨_, rfl, by decide +kernel⟩
theorem witness_rail_back : ({ wRcp with pwrgood := true, railOut := [(2, true)] } : State).pwrgood = true ∧
    tget false ({ wRcp with pwrgood := true, railOut := [(2, true)] } : State).railOut 2 = true ∧
    ({ wRcp with pwrgood := true, railOut := tset false [(2, true)] 2 false } : State).powerGood = true ∧
    ({ wRcp with pwrgood := true, railOut := tset false [(2, true), (3, true)] 2 false } : State).powerGood = false := by decide +kernel
theorem witness_block_reset : (wUnit 0 1 0).unitClosed 22 = false ∧ (wUnit 0 1 0).lidState (unitStop 22).1 0 = 0 ∧ (wUnit 0 1 2).unitClosed 22 = true ∧
    tget false (wUnit 0 1 2).unlocked 222 = false ∧ unitSecs 22 = [0] := by decide +kernel
theorem witness_pins : ({ wRcp with pwrgood := false } : State).pwrgood = false ∧ (wRcp.railOut.all fun e => !e.2) = true ∧
    (wReset 1).resetInLow = false ∧ ({ wReset 1 with pwrgood := true } : State).powerGood = true ∧ (wReset 1).thermtrip = false := by decide +kernel
theorem witness_backup_writes : wMem.gate (.core 1) .RCP_RESET_CAUSE 0 (some 0x40000000) = .pass ∧ bit (0x40000000 : W) 30 = true ∧
    wMem.gate (.core 1) .RCP_RTC 0 (some 7) = .pass := by decide +kernel
theorem witness_release : ([0, 2, 6].all fun k => (wRelease k).rstLevel == 0 && ({ wRelease k with pwrgood := true } : State).stepReady (k + 1)) = true := by
  decide +kernel
theorem witness_release_power_on : ({ State.reset with pwrgood := true, rstLevel := 2 } : State).stepReady 1 = true ∧
    ({ State.reset with pwrgood := true, rstLevel := 2 } : State).thermtrip = false ∧
    ({ State.reset with pwrgood := true, rstLevel := 2 } : State).relStep = 0 := by decide +kernel
theorem witness_release_last : ({ wRelease 7 with bootStep := 7, boot := { slot := some 0 } } : State).stepReady 8 = true ∧
    ({ wRelease 7 with bootStep := 7, boot := { slot := some 0 } } : State).hartCore 0 = some 0 ∧
    ({ wRelease 7 with bootStep := 7, boot := { slot := some 0 } } : State).boot.slot = some 0 := by decide +kernel
theorem witness_options : (wRelease 2).relStep = 2 ∧ ({ wRelease 2 with bootStep := 0 } : State).bootStep = 0 ∧ (wRelease 2).rstLevel = 0 := by decide +kernel
theorem witness_clocks : (wReset 0).rstLevel = 0 ∧ ((wReset 0).core 0).flushing = false ∧ (wReset 0).fld MCT_CH_STATUS.STATE 2 = 2 ∧
    tget false (wReset 0).regFailed 0 = false ∧
    (let s : State := { wUnit 0 1 2 with unlocked := [(222, true)] }
     tget false s.unlocked (200 + 22) = true ∧ ∀ k ∈ unitSecs 22, s.lidState (unitStop 22).1 k = 2) := by decide +kernel
theorem witness_regulators : tget false wRcp.regFailed 125 = false ∧ (∀ k, k < 12 → tget false wRcp.regFailed (120 + k) = false) ∧
    tget false ({ wRcp with regFailed := [(120, true)] } : State).regFailed (120 + 0) = true ∧
    tget false ({ wRcp with regFailed := [(120, true)] } : State).regFailed 125 = false := by decide +kernel
theorem witness_power_sources : wRcp.canPend 1609 ∧ wRcp.canPend 1600 ∧ wRcp.canPend (1280 + 3) ∧ (wRcp.setFld EVR_SRC_CFG.EN 1610 1).canPend (1610 + 0) ∧
    wRcp.pfw = false := by unfold State.canPend; decide +kernel
theorem witness_target : wMem.gate .macen .RCP_PSTATE 3 (some 0x2000000000000) = .pass ∧
    (wMem.regWrite .RCP_PSTATE 3 0x2000000000000).fld RCP_PSTATE.THROTTLED 3 = 0 ∧ (wMem.regWrite .RCP_PSTATE 3 0x2000000000000).fld RCP_PSTATE.CHANGING 3 = 0 ∧
    (wMem.regWrite .RCP_PSTATE 3 0x2000000000000).fld RCP_PSTATE.TARGET 3 ≠ (wMem.regWrite .RCP_PSTATE 3 0x2000000000000).fld RCP_PSTATE.CURRENT 3 := by
  decide +kernel
/-- Partition 3 on its way from P-state `cur` to 2, at a stop or not. -/
def wPst (cur : Nat) (stop : Bool) : State :=
  { ((wMem.setFld RCP_PSTATE.CHANGING 3 1).setFld RCP_PSTATE.TARGET 3 2).setFld RCP_PSTATE.CURRENT 3 cur with
    pGoal := [(3, 2)], pStop := [(3, stop)] }
theorem witness_pstate_done : (∀ cur, cur < 4 → ∀ stop, (wPst cur stop).fld RCP_PSTATE.CHANGING 3 = 1 ∧ tget 0 (wPst cur stop).pGoal 3 = 2 ∧
    (wPst cur stop).fld RCP_PSTATE.CURRENT 3 = cur ∧ tget false (wPst cur stop).pStop 3 = stop ∧ (wPst cur stop).pWanted 3 = 2) := by decide +kernel
theorem witness_block_power : (wUnit 0 1 0).gate (.core 1) .RCP_BLOCK_CTL 22 (some 0) = .pass ∧
    ((wUnit 0 1 0).regWrite .RCP_BLOCK_CTL 22 0).fld RCP_BLOCK_CTL.PWR_ON 22 = 0 ∧ (wUnit 0 1 0).fld RCP_BLOCK_CTL.STATE 22 = 0 ∧ votedUnit 22 = false ∧
    (wUnit 2 0 2).gate (.core 1) .RCP_BLOCK_CTL 22 (some (2 ^ 63)) = .pass ∧
    ((wUnit 2 0 2).regWrite .RCP_BLOCK_CTL 22 (2 ^ 63)).fld RCP_BLOCK_CTL.PWR_ON 22 = 1 ∧ (wUnit 2 0 2).fld RCP_BLOCK_CTL.STATE 22 = 2 ∧
    (wUnit 1 0 2).fld RCP_BLOCK_CTL.STATE 22 = 1 ∧ (wUnit 1 0 2).unitClosed 22 = true ∧ (wUnit 3 1 2).fld RCP_BLOCK_CTL.STATE 22 = 3 ∧
    (wUnit 3 1 2).fld RCP_BLOCK_CTL.PWR_ON 22 = 1 := by decide +kernel
theorem witness_core_gate : (wIdle.core 0).run = .wfi ∧ tget 0 wIdle.mac.idle (wIdle.core 0).part ≠ 0 ∧
    (wIdle.setFld EVR_SRC_CFG.HART 1600 5).coreHart 0 ≠ (wIdle.setFld EVR_SRC_CFG.HART 1600 5).fld EVR_SRC_CFG.HART 1600 ∧ wIdle.pairOf 0 = none ∧
    (wIdle.core 0).sb = [] ∧ (wIdle.core 0).l2 = [] ∧ (wIdle.core 0).wb = [] ∧ (wIdle.core 0).reqs = [] ∧
    wIdle.lidState (tileNode (coreTile 0)) (coreSlot 0) ≤ 2 ∧ wIdle.outbound (tileNode (coreTile 0)) (coreSlot 0) = [] ∧
    wIdle.accepted (tileNode (coreTile 0)) (coreSlot 0) = [] := by decide +kernel
theorem witness_package_idle : (∀ c, c < 120 → wQuiet.slotState c ≠ 0 ∨ (wQuiet.core c).run = .wfi ∨ (wQuiet.core c).run = .gated) ∧ wQuiet.pfw = false ∧
    (∀ p, p < 16 → wQuiet.fld RCP_PSTATE.CHANGING p = 0) ∧ wQuiet.fld MCT_CH_STATUS.STATE 2 = 2 ∧ (wQuiet.chan 2).reads = [] ∧
    (let s : State := { wQuiet.setFld MCT_CH_STATUS.STATE 2 3 with pkgIdle := true }; s.pkgIdle = true ∧ s.fld MCT_CH_STATUS.STATE 2 = 3) := by decide +kernel
theorem witness_thermal : wRcp.prochotLow = false ∧ wRcp.fld RCP_THERMAL.THROTTLE 0 = 0 ∧ (wHot false).fld RCP_THERMAL.THROTTLE 0 = 1 ∧
    (wHot false).prochotLow = false := by decide +kernel
theorem witness_kick : (wMem.setFld TMR_WDOG.EN 3 1).gate (.core 1) .TMR_WDOG 3 (some 0x800003E84B430000) = .pass ∧ (wMem.setFld TMR_WDOG.EN 3 1).fld TMR_WDOG.EN 3 = 1 ∧
    ((wMem.setFld TMR_WDOG.EN 3 1).regWrite .TMR_WDOG 3 0x800003E84B430000).fld TMR_WDOG.EN 3 = 1 ∧ field (0x800003E84B430000 : W) 31 16 = 0x4B43 ∧
    wMem.gate (.core 1) .TMR_WDOG 3 (some 0x3E800000000) = .pass ∧ (wMem.regWrite .TMR_WDOG 3 0x3E800000000).fld TMR_WDOG.EN 3 = 0 := by decide +kernel
theorem witness_watchdogs : wRcp.fld TMR_WDOG.EN 3 = 1 ∧ wRcp.wdogFrozen 3 = false ∧ wRcp.fld WPC_PART_CTL.STATE 3 = 0 ∧
    wRcp.fld WPC_PART_CFG.ESCALATE 3 = 0 ∧ wRcp.fld TMR_WDOG.EN 16 = 1 ∧ ({ wRcp with relStep := 3 } : State).relStep = 3 ∧ wRcp.rstLevel = 0 := by
  decide +kernel

/-! ### Macen -/

/-- Page `n` in a STATE, with a command that runs, finished or waiting, and an operation that is known to end. -/
def wBox (n st : Nat) (m : Option MbxCmd) : State :=
  { wMem.setFld MBX_STATUS.STATE n st with relStep := 4, pages := [(n, { cur := m, ops := [{ id := 7, code := 0x1003, res := some (0, 0, [5]) }] })] }
/-- Page 17 with the command `code` running on the payload `p`. -/
def wMbx (code : Nat) (p : List Byte) : State := wBox 17 1 (some { code := code, tag := 3, payload := p })
def mbxOf (n code : Nat) (p : List Byte) (s : State) : Bool :=
  (s.page n).cur == some { code := code, tag := 3, payload := p }
/-- A page whose command is this one runs it. -/
theorem runsCmd_of {s : State} {n code : Nat} {p : List Byte} (h : mbxOf n code p s = true) : s.runsCmd n code p := by
  unfold mbxOf at h
  exact ⟨_, eq_of_beq h, rfl, rfl, rfl⟩
/-- Page 17 runs whatever it is given. -/
theorem wMbx_runs (code : Nat) (p : List Byte) : (wMbx code p).runsCmd 17 code p := ⟨_, rfl, rfl, rfl, rfl⟩
theorem witness_ranges : (wMbx 0x1001 [16, 0]).runsCmd 17 0x1001 [16, 0] ∧ 16 ≤ pl [16, 0] 0 1 ∧ 84 ≤ pl [84, 0, 1] 0 2 ∧ 8 ≤ pl [8] 0 1 ∧ 64 ≤ pl [64, 0] 0 1 ∧
    6432 ≤ pl [0x20, 0x19, 0, 0] 0 4 ∧ 16384 < pl [0, 0x40, 1, 0] 0 2 + pl [0, 0x40, 1, 0] 2 2 ∧ 96 ≤ pl [96, 0] 0 1 ∧ pl [0, 0xFF] 1 1 = 0xFF ∧
    pl ([] : List Byte) 8 2 = 0 ∧ pl ([] : List Byte) 2 2 = 0 ∧ pl ([] : List Byte) 8 4 = 0 ∧ pl ([] : List Byte) 2 1 < 12 ∧
    pl [0, 0, 0, 0, 1, 0, 0, 0] 4 4 = 1 ∧ 2 ≤ pl [2] 0 1 := ⟨wMbx_runs _ _, by decide +kernel⟩
theorem witness_ranges_denied : ((wMbx 0x1301 [3, 1]).setFld WPC_PART_CTL.STATE 3 1).fld WPC_PART_CTL.STATE (pl [3, 1] 0 1) ≠ 0 ∧
    (wMbx 0x1302 [0]).hartCore (pl [0] 0 1) = some 0 ∧
    (((wMbx 0x1302 [0]).onCore 0 fun k => { k with run := .running }).core 0).run ≠ .held ∧
    ({ wMbx 0x1801 [0] with boot := { slot := some 0 } } : State).boot.slot = some (pl [0] 0 1) ∧
    (wMbx 0x1003 [0, 0, 1]).locked RCP_BLOCK_CTL.PWR_ON (pl [0, 0, 1] 0 2) 0 = true ∧
    ((wMbx 0x1203 [0, 4]).setSlot 4 2 0x7F).swapBegin [0, 4] = none ∧ ((wMbx 0x1203 [0, 255]).spareOf 0).isSome = true := by decide +kernel
theorem witness_operation : (let s : State := { (wBox 17 1 none).setFld RCP_BLOCK_CTL.STATE 22 0 with
      pages := [(17, { ops := [{ id := 7, code := 0x1003, payload := [22, 0, 1] }] })] }
    (s.page 17).ops.find? (fun o => o.id == 7 && !o.done) = some { id := 7, code := 0x1003, payload := [22, 0, 1] } ∧
    (s.opEnd { id := 7, code := 0x1003, payload := [22, 0, 1] }).1.isSome = true ∧
    ((s.opEnd { id := 7, code := 0x1003, payload := [22, 0, 1] }).2.page 17).ops = (s.page 17).ops) := by decide +kernel
theorem witness_pstate_finish : (let s := wBox 17 1 (some { code := 0x1001, tag := 3, payload := [3, 2], res := some (0, 0, []) })
    (s.page 17).cur = some { code := 0x1001, tag := 3, payload := [3, 2], res := some (0, 0, []) } ∧ s.fld MBX_STATUS.STATE 17 = 1 ∧
    s.fld RCP_PSTATE.CHANGING (pl [3, 2] 0 1) ≠ 1 ∧ (s.setFld RCP_PSTATE.CHANGING 3 1).fld RCP_PSTATE.CHANGING 3 = 1) := by decide +kernel
theorem witness_restart_soon : ({ wMem with mac := { lastStart := 1 } } : State).mac.lastStart ≠ 0 ∧
    ({ wMem with mac := { lastStart := 1 } } : State).dtime + 1 < 1 + 1000000000 ∧ State.reset.relStep < 4 := by decide +kernel
theorem witness_time_fault : (wMbx 0x1A01 []).runsCmd 17 0x1A01 [] ∧
    ((wMbx 0x1A01 []).setFld FAB_PORT_STATUS.TIME_FAULT 7 1).fld FAB_PORT_STATUS.TIME_FAULT 7 = 1 := ⟨wMbx_runs _ _, by decide +kernel⟩
theorem witness_swap_waits : (({ wMbx 0x1203 [0, 4] with mac := { swaps := [(0, { phase := 1 })] } } : State).swapOf 0).phase ≠ 0 := by decide +kernel
theorem witness_ring : (wBox 17 0 none).gate (.core 1) .MBX_DOORBELL 17 (some 1) = .pass ∧ (wBox 17 0 none).fld MBX_STATUS.STATE 17 = 0 ∧
    (wBox 17 1 none).gate (.core 1) .MBX_DOORBELL 17 (some 1) = .pass ∧ (wBox 17 1 none).fld MBX_STATUS.STATE 17 = 1 ∧
    (wBox 17 2 none).gate (.core 1) .MBX_DOORBELL 17 (some 1) = .pass ∧ (wBox 17 2 none).fld MBX_STATUS.STATE 17 = 2 ∧
    ofLeBytes (((wBox 17 2 none).page 17).reqBytes 2 2) = (wBox 17 2 none).fld MBX_STATUS.TAG 17 ∧ field (1 : W) 1 0 = 1 ∧ field (2 : W) 1 0 = 2 ∧
    (wBox 17 2 none).gate (.core 1) .MBX_DOORBELL 17 (some 2) = .pass := by decide +kernel
theorem witness_finish : (let s := wBox 17 1 (some { code := 0x1002, tag := 3, res := some (0, 0, [1]) })
    (s.page 17).cur = some { code := 0x1002, tag := 3, res := some (0, 0, [1]) } ∧ s.fld MBX_STATUS.STATE 17 = 1 ∧
    (s.page 17).ops.find? (fun o => o.id == 7 && !o.done) = some { id := 7, code := 0x1003, res := some (0, 0, [5]) }) ∧
    (wMem.setFld EVR_SRC_CFG.EN 1489 1).canPend (1472 + 17) := ⟨by decide +kernel, by unfold State.canPend; decide +kernel⟩
theorem witness_restart : wMem.mac.restarts < 15 ∧ wMem.mac.lastStart = 0 ∧ wMem.boot.slot = none ∧
    15 ≤ ({ wMem with mac := { restarts := 15 } } : State).mac.restarts ∧ wMem.rstLevel = 0 := by decide +kernel
theorem witness_sideband : 4 ≤ (wBox 18 0 none).relStep ∧ tget 0 (wBox 18 0 none).limits (2 ^ 22) = 0 ∧ (wBox 18 0 none).fld MBX_STATUS.STATE 18 ≠ 1 ∧
    (wBox 18 0 none).fld MBX_STATUS.STATE 18 = 0 ∧ (wBox 18 2 none).fld MBX_STATUS.STATE 18 = 2 ∧
    (({ ({ ptr := 0x1000 } : Page) with ptr := 0x1000 } : Page)).ptr + 31 < 0x8000 := by decide +kernel
theorem witness_plain_queries : (wMbx 1 []).runsCmd 17 1 [] ∧ (wMbx 2 [3]).runsCmd 17 2 [3] ∧ (wMbx 4 []).runsCmd 17 4 [] ∧ (wMbx 0x1005 []).runsCmd 17 0x1005 [] ∧
    (wMbx 0x1201 []).runsCmd 17 0x1201 [] ∧ (wMbx 0x1A01 []).runsCmd 17 0x1A01 [] :=
  ⟨runsCmd_of (by decide +kernel), runsCmd_of (by decide +kernel), runsCmd_of (by decide +kernel), runsCmd_of (by decide +kernel),
   runsCmd_of (by decide +kernel), runsCmd_of (by decide +kernel)⟩
theorem witness_op_status : (let s : State := { wMbx 3 [7, 0, 0, 0] with pages := [(17, { cur := some { code := 3, tag := 3, payload := [7, 0, 0, 0] }, ops := [{ id := 7, code := 0x1003, res := some (0, 0, [5]), done := true }] })] }
    (s.page 17).ops.find? (fun o => o.id == pl [7, 0, 0, 0] 0 4) = some { id := 7, code := 0x1003, res := some (0, 0, [5]), done := true } ∧
    mbxOf 17 3 [7, 0, 0, 0] s = true) ∧ ((wMbx 3 [8, 0, 0, 0]).page 17).ops.find? (fun o => o.id == pl [8, 0, 0, 0] 0 4) = none ∧
    (∀ q, q < 8 → (wMbx 0x1A01 []).fld FAB_PORT_STATUS.TIME_FAULT q = 0) := by decide +kernel
theorem witness_ranged_queries : (wMbx 0x1002 [3, 0]).runsCmd 17 0x1002 [3, 0] ∧ pl [3, 0] 0 1 < 16 ∧ pl [3, 0] 1 1 < 4 ∧
    ((wMbx 0x1101 [1, 0, 0, 0, 0, 0, 0, 0, 2, 0]).setFld ERC_STATUS.LAST_SEQ 0 1).fld ERC_STATUS.LAST_SEQ 0 = 1 ∧ pl [1, 0, 0, 0, 0, 0, 0, 0, 2, 0] 0 8 = 1 ∧
    pl [1, 0, 0, 0, 0, 0, 0, 0, 2, 0] 8 2 = 2 ∧ pl [0, 0, 2, 0] 2 2 = 2 ∧ pl [0, 0, 2, 0] 0 2 + 2 ≤ 580 ∧
    mbxOf 17 0x1101 [1, 0, 0, 0, 0, 0, 0, 0, 2, 0] ((wMbx 0x1101 [1, 0, 0, 0, 0, 0, 0, 0, 2, 0]).setFld ERC_STATUS.LAST_SEQ 0 1) = true :=
  ⟨runsCmd_of (by decide +kernel), by decide +kernel⟩
theorem witness_power_commands : (wMbx 0x1003 [22, 0, 1]).runsCmd 17 0x1003 [22, 0, 1] ∧ pl [22, 0, 1] 0 2 < 84 ∧ pl [22, 0, 1] 2 1 = 1 ∧
    (wMbx 0x1003 [22, 0, 1]).locked RCP_BLOCK_CTL.PWR_ON 22 0 = false ∧
    ((wMbx 0x1003 [22, 0, 1]).setFld RCP_BLOCK_CTL.STATE 22 2).fld RCP_BLOCK_CTL.STATE 22 = 2 ∧
    pl [3, 0, 0, 0, 100, 0, 0, 0] 0 1 < 16 ∧ pl [3, 0, 0, 0, 100, 0, 0, 0] 4 4 = 100 := ⟨runsCmd_of (by decide +kernel), by decide +kernel⟩
theorem witness_core_commands : (let s := ((wMbx 0x1203 [0, 4]).setSlot 4 1 0x7F)
    mbxOf 17 0x1203 [0, 4] s = true ∧ s.hartCore (pl [0, 4] 0 1) = some 0 ∧ (s.swapOf (pl [0, 4] 0 1 / 4)).phase = 0 ∧
    s.slotState (5 * coreTile 0 + pl [0, 4] 1 1) = 1 ∧ (s.core 0).run = .held ∧ (s.core 0).flushing = false ∧ s.coreHart 0 = 0 ∧ s.slotState 0 = 0 ∧
    tget false s.unlocked 0 = false ∧ s.slotFailed 0 = false ∧ s.fld DBG_CORE_CTL.RESETHALT 0 = 0) := by decide +kernel
theorem witness_part_commands : (let s := wBox 3 1 (some { code := 0x1301, tag := 3, payload := [3, 1] })
    mbxOf 3 0x1301 [3, 1] s = true ∧ pl [3, 1] 0 1 < 16 ∧ pl [3, 1] 1 1 < 2 ∧ s.fld WPC_PART_CTL.STATE 3 = 0 ∧ s.fld WPC_PART_CFG.ESCALATE 3 = 0) := by
  decide +kernel
theorem witness_wt_assign : (let p : List Byte := [0, 0, 0, 0, 0, 0, 0, 0, 1, 0, 0, 0, 0]
    let s := wMbx 0x1401 p
    mbxOf 17 0x1401 p s = true ∧ pl p 0 8 % 2 ^ 21 = 0 ∧ 1 ≤ pl p 8 4 ∧ pl p 8 4 ≤ 4194304 ∧ pl p 0 8 + pl p 8 4 * 2 ^ 21 ≤ 2 ^ 43 ∧ pl p 12 1 / 32 % 4 = 0 ∧
    s.isDram (s.fld WPC_CFG.WT_BASE 0 * 2 ^ 22) = true ∧ (s.wtAssign p (pl p 8 4)).fld WPC_SYNC.BUSY 0 = 0) := by decide +kernel
theorem witness_owner_set : (let p : List Byte := [200, 0, 0, 0, 3, 0, 0, 0, 0, 0, 0, 0]
    pl p 0 4 = 200 ∧ ownerRange 200 = none ∧ ownerRange 22 = some (0xFE0000000000, 0xFE0100000000) ∧
    ((wMbx 0x1402 p).macSet .WPC_OWNER 200 (BitVec.ofNat 64 (pl p 4 8))).1 = true ∧ ((wMbx 0x1402 p).macSet .WPC_OWNER 22 3).1 = true ∧
    (wMbx 0x1402 p).fld WPC_SYNC.BUSY 0 = 0) := by decide +kernel
theorem witness_mbx_writes : (let s := wMbx 0 []
    s.gate .macen .FAB_ROUTE 5 (some 1) = .pass ∧ s.gate .macen .FAB_PORT_CTL 1 (some 1) = .pass ∧ s.gate .macen .FAB_NODE 0 (some 1) = .pass ∧
    s.gate .macen .JRN_REPL_CFG 2 (some 1) = .pass ∧ s.gate .macen .JRN_REPL_MEMBERS 2 (some 1) = .pass ∧ s.gate .macen .JRN_REPL_STATE 2 (some 2) = .pass ∧
    s.gate .macen .LDL_PART_CFG 2 (some 0) = .pass ∧ (s.setFld JRN_REPL_STATE.STATE 2 1).fld JRN_REPL_STATE.STATE 2 = 1 ∧
    (s.macSet .RCP_RTC 0 7).1 = true ∧ s.boot.slot ≠ some 0 ∧
    (∀ r ∈ [RegId.JRN_RSLOT_CFG, .JRN_RSLOT_REGION, .JRN_RSLOT_TERM, .JRN_RSLOT_HELD, .JRN_RSLOT_APPEND, .JRN_RSLOT_DRAIN],
      s.gate .macen r 2 (some 0) = .pass)) := by decide +kernel
theorem witness_ladle_set : (let p : List Byte := [2, 1, 12, 0, 10, 0, 0, 0, 0, 16, 0, 0, 0, 0, 0, 0] ++ List.replicate 32 0
    pl p 0 1 = 2 ∧ pl p 1 1 < 2 ∧ 12 ≤ pl p 2 1 ∧ pl p 2 1 ≤ 40 ∧ pl p 4 4 = 10 ∧ pl p 8 8 = 4096 ∧ pl p 8 8 % 2 ^ pl p 2 1 = 0 ∧
    mbxOf 17 0x1701 p (wMbx 0x1701 p) = true) := by decide +kernel

/-! ### Admission -/

/-- Port 1 in ATTESTING, its own check of the peer passed or not, with a packet from it. -/
def wAdmit (ok : Bool) (k : Pkt) : State :=
  { (wMem.setFld FAB_PORT_STATUS.STATE 1 3).setFld FAB_NODE.NODE_ID 0 7 with fabIn := [(1, k)], ports := [(1, { ownOk := ok, peerNode := 9 })], remote := { accepted := ok } }
def wAdmit0 (ok : Bool) : State :=
  { (wMem.setFld FAB_PORT_STATUS.STATE 1 3).setFld FAB_NODE.NODE_ID 0 7 with ports := [(1, { ownOk := ok, peerNode := 9 })], remote := { accepted := ok } }
theorem witness_attest_nonce : (wAdmit false { op := 0x30, data := List.replicate 32 5 }).takePkt 0x30 = some (1, { op := 0x30, data := List.replicate 32 5 }, wAdmit0 false) ∧
    (wAdmit0 false).attesting 1 = true ∧ (wAdmit0 false).evReady = true := by decide +kernel
theorem witness_attest_evidence : (wAdmit false { op := 0x31, data := [1] }).takePkt 0x31 = some (1, { op := 0x31, data := [1] }, wAdmit0 false) ∧
    (wAdmit0 false).fld FAB_PORT_CTL.ENC 1 = 0 := by decide +kernel
theorem witness_attest_enc : ((wAdmit0 false).setFld FAB_PORT_CTL.ENC 1 1).fld FAB_PORT_CTL.ENC 1 ≠ 0 ∧
    (match ((wAdmit0 false).setFld FAB_PORT_CTL.ENC 1 1).linkEpoch 1 with | none => true | some _ => false) = true ∧
    ((match ({ (wAdmit0 false).setFld FAB_PORT_CTL.ENC 1 1 with keys := [(0, some { cls := 7, epoch := 4 })] } : State).linkEpoch 1 with
      | none => 0 | some e => e.1) = 5) := by decide +kernel
theorem witness_attest_waits : ({ wAdmit0 false with evidence := List.replicate 50 0 } : State).evReady = false ∧ wMem.attesting 1 = false ∧
    ((wAdmit0 false).port 1).ownOk = false ∧ ({ wAdmit0 false with remote := { at_ := 1 } } : State).remote.at_ = 1 ∧
    (wAdmit0 false).dtime + 1 < 1 + 10000000 := by decide +kernel
theorem witness_attest_result : (wAdmit true { op := 0x32, data := List.replicate 8 0 }).takePkt 0x32 = some (1, { op := 0x32, data := List.replicate 8 0 }, wAdmit0 true) ∧
    evField (List.replicate 8 0) 0 4 = 0 ∧ ((wAdmit0 true).port 1).ownOk = true ∧ ((wAdmit0 true).port 1).peerNode < 16384 ∧
    (wAdmit true { op := 0x32, data := [8, 0, 0, 0] }).takePkt 0x32 = some (1, { op := 0x32, data := [8, 0, 0, 0] }, wAdmit0 true) ∧ evField [8, 0, 0, 0] 0 4 = 8 := by
  decide +kernel
theorem witness_attest_limit : (wAdmit0 true).attesting 1 = true ∧ (wAdmit0 true).fld FAB_NODE.FREEZE 0 = 0 := by decide +kernel
theorem witness_remote_reset : (wAdmit false { op := 0x38, src := 4 }).takePkt 0x38 = some (1, { op := 0x38, src := 4 }, wAdmit0 false) ∧
    (wAdmit0 false).remote.at_ = 0 ∧ (wAdmit0 true).remote.accepted = true ∧ (wAdmit0 true).rstLevel = 0 ∧
    (wAdmit false { op := 0x39, src := 4 }).takePkt 0x39 = some (1, { op := 0x39, src := 4 }, wAdmit0 false) := by decide +kernel

/-! ### Longevity -/

/-- Tile 0 with core 0 running hart 0, slot 4 SPARE, a swap of them in a phase, and what Macen's firmware holds. -/
def wSwap (w : Swap) (m : Macen) : State := { (wRun.setSlot 4 1 0x7F) with mac := { m with swaps := [(0, w)] } }
def wSlotFail (sp : Nat) : State := { (((wRun.onCore 0 fun k => { k with run := .held }).setSlot 4 sp 0x7F)) with mac := { failed := [(0, 1)] } }
theorem witness_sample : (wSwap {} { mons := [(2, { low := 2 })] }).monOn 2 = true ∧ ((wSwap {} { mons := [(2, { low := 2 })] }).mon 2).low = 2 ∧
    (wSwap {} { mons := [(2, { low := 2 })] }).guard (monSupply 2) < 10 ∧ monSupply 2 ≠ 126 := by decide +kernel
theorem witness_swap_request : ((wSwap { phase := 2, new := 4 } {}).swapOf 0).phase = 2 ∧ (wSwap { phase := 2, new := 4 } {}).slotState 4 = 1 := by decide +kernel
theorem witness_swap : ((wSwap { phase := 3, new := 4 } {}).swapOf 0).phase = 3 ∧ (wSwap { phase := 3, new := 4 } {}).swapBoundary 0 = true ∧
    ((wSwap { phase := 3, new := 4 } {}).core 0).sb = [] ∧ (wSwap { phase := 3, new := 4 } {}).slotState 4 = 1 ∧
    (wSwap { phase := 3, new := 4 } {}).fld ERC_RING_CFG.EN 0 = 0 := by decide +kernel
theorem witness_swap_groups : (wSwap { phase := 3, new := 4 } {}).noGroups := groups_none (by decide +kernel)
/-- Slot 0 of tile 0 has lost its role and written everything back. -/
def wLeft (w : Swap) : State := ((wSwap w {}).setSlot 0 1 0x7F).onCore 0 fun _ => { run := .held, flushing := true }
theorem witness_old_slot : ((wLeft { phase := 4, new := 4, why := 1 }).swapOf 0).phase = 4 ∧ ((wLeft {}).core 0).run = .held ∧
    ((wLeft {}).core 0).flushing = true ∧ (wLeft {}).slotState 0 ≠ 0 ∧ ((wLeft {}).core 0).l2 = [] ∧ ((wLeft {}).core 0).wb = [] ∧
    ((wLeft {}).core 0).reqs = [] ∧ (wLeft {}).lidState (tileNode 0) (coreSlot 0) ≤ 2 ∧ (wLeft {}).outbound (tileNode 0) (coreSlot 0) = [] ∧
    (wLeft {}).accepted (tileNode 0) (coreSlot 0) = [] ∧ (wLeft { phase := 4, new := 4, why := 1 }).mac.due = [] ∧
    ((wLeft { phase := 4, new := 4, why := 3 }).swapOf 0).why = 3 ∧ ((wLeft {}).swapOf 0).phase ≠ 4 ∧ 0 ∈ tileCores 0 := by decide +kernel
theorem witness_swap_boundary_waits : ((wSwap { phase := 3, new := 4 } {}).onCore 0 fun k => { k with sb := [{ pa := 0 }] }).swapBoundary 0 = true ∧
    (((wSwap { phase := 3, new := 4 } {}).onCore 0 fun k => { k with group := some {} }).core 0).group ≠ none := by decide +kernel
theorem witness_sample_limit : (let s := wSwap {} { mons := [(2, { lim := 2 })], guards := [(0, 10)] }
    s.monOn 2 = true ∧ s.guard (2 / 4) = 10 ∧ (s.mon 2).lim = 2 ∧ s.mac.due = [] ∧ (s.swapOf (2 / 4 / 5)).phase = 0 ∧ s.spareOf (2 / 4 / 5) = some 4 ∧
    (([{ mon := 2, slack := 30, tj := 50 }, { mon := 3, slack := 25, tj := 50 }] : List Reading).map (·.mon)).Nodup ∧ s.monOn 19 = false) := by
  decide +kernel
theorem witness_swap_in_reset : (wSlotFail 1).slotFailed 0 = true ∧ ((wSlotFail 1).core 0).run = .held ∧ (wSlotFail 1).slotState 0 = 0 ∧ (wSlotFail 1).pfw = false ∧
    ((wSlotFail 1).core 0).flushing = false ∧ (wSlotFail 1).spareOf (coreTile 0) = some 4 ∧ (wSlotFail 2).spareOf (coreTile 0) = none ∧ (wSlotFail 2).slotFailed 0 = true := by decide +kernel
theorem witness_repair_log : (wSwap {} { repairQ := [0x30000025] }).mac.repairQ = 0x30000025 :: [] ∧
    (wSwap {} { repairQ := [0x30000025] }).logFree.find? (fun i => decide (i < 488) || logTyp 0x30000025 == 2) = some 0 := by decide +kernel
/-- A repair log whose first 488 places are taken. -/
def fullLog : Tbl Bool := (List.range 488).map fun i => (9472 + 32 * i, true)
def wLogFull : State := { wSwap {} { repairQ := [0x30000025] } with fuses := fullLog }
/-- A blown fuse makes a field that holds it other than 0. -/
theorem fuseField_ne (l : Tbl Bool) (lo n m : Nat) (h : (m, true) ∈ l) (h1 : lo ≤ m) (h2 : m < lo + n) (v : Nat) :
    0 < l.foldl (fun v e => if lo ≤ e.1 ∧ e.1 < lo + n ∧ e.2 then v + 2 ^ (e.1 - lo) else v) v := by
  have up : ∀ (l : Tbl Bool) (v : Nat), v ≤ l.foldl (fun v e => if lo ≤ e.1 ∧ e.1 < lo + n ∧ e.2 then v + 2 ^ (e.1 - lo) else v) v := by
    intro l
    induction l with
    | nil => intro v; exact Nat.le_refl v
    | cons e l ih =>
      intro v
      rw [List.foldl_cons]
      refine Nat.le_trans ?_ (ih _)
      split
      · exact Nat.le_add_right _ _
      · exact Nat.le_refl _
  induction l generalizing v with
  | nil => simp at h
  | cons e l ih =>
    rw [List.foldl_cons]
    rcases List.mem_cons.1 h with h | h
    · subst h
      refine Nat.lt_of_lt_of_le ?_ (up l _)
      rw [if_pos ⟨h1, h2, rfl⟩]
      exact Nat.lt_of_lt_of_le (Nat.two_pow_pos (m - lo)) (Nat.le_add_left _ _)
    · exact ih h _
theorem witness_repair_log_full : wLogFull.mac.repairQ = 0x30000025 :: [] ∧
    wLogFull.logFree.find? (fun i => decide (i < 488) || logTyp 0x30000025 == 2) = none := by
  refine ⟨by decide +kernel, ?_⟩
  rw [List.find?_eq_none]
  intro i hi hp
  have hl : logTyp 0x30000025 = 3 := by decide
  rw [hl] at hp
  have h4 : i < 488 := by simpa using hp
  unfold State.logFree at hi
  rw [List.mem_filter] at hi
  have h0 : wLogFull.logFuse i = 0 := by simpa using hi.2
  have hm : (9472 + 32 * i, true) ∈ fullLog := by
    unfold fullLog
    exact List.mem_map.2 ⟨i, List.mem_range.2 h4, rfl⟩
  have := fuseField_ne fullLog (9472 + 32 * i) 32 (9472 + 32 * i) hm (Nat.le_refl _) (by omega) 0
  unfold State.logFuse State.fuseField at h0
  rw [show wLogFull.fuses = fullLog from rfl] at h0
  omega
theorem witness_sram : (1, 552, 7) ∈ (wSwap {} { due := [(1, 552, 7)] }).mac.due ∧ (wSwap {} { due := [(1, 552, 7)] }).pfw = false ∧
    (tget [] (wSwap {} { due := [(1, 552, 7)] }).mac.rows 552).length < arraySpares 552 ∧ (wSwap {} { due := [(1, 552, 7)] }).l3 = [] ∧
    (wSwap {} { due := [(1, 552, 7)] }).sieve = [] ∧ (1, 528, 7) ∈ (wSwap {} { due := [(1, 528, 7)] }).mac.due ∧
    ((wSwap {} { due := [(1, 528, 7)] }).swapOf 0).phase = 0 ∧ (1, 553, 7) ∈ (wSwap {} { due := [(1, 553, 7)] }).mac.due ∧
    (tget [] (wSwap {} { due := [(1, 553, 7)] }).mac.rows 553).length < arraySpares 553 ∧ (1, 480, 7) ∈ (wSwap {} { due := [(1, 480, 7)] }).mac.due := by decide +kernel
theorem witness_core_array : (1, 3, 7) ∈ (wSwap {} { due := [(1, 3, 7)] }).mac.due ∧ ((wSwap {} { due := [(1, 3, 7)] }).swapOf 0).phase = 0 ∧
    (wSwap {} { due := [(1, 3, 7)] }).spareOf 0 = some 4 ∧ (wSwap {} { due := [(1, 3, 7)] }).slotState 0 = 0 ∧
    (tget [] (wSwap {} { due := [(1, 3, 7)] }).mac.rows 3).length < arraySpares 3 ∧
    ((wSwap { phase := 5, new := 4, why := 3 } { due := [(1, 3, 7)] }).swapOf 0).phase = 5 ∧
    ({ (wSlotFail 2) with mac := { due := [(1, 3, 7)] } } : State).spareOf 0 = none := by decide +kernel
theorem witness_spd_log : (List.range 16).find? (fun i => (State.reset.spdEnt 3 i).isNone) = some 0 := by decide +kernel

/-! ### Debug -/

/-- A port with a session, the ceiling written and a working DEVELOP part, with core 0 of hart 0 running in the normal world. -/
def wDbg (ses : Nat) : State :=
  let s := (wRun.onCore 0 fun k => { k with secure := false }).setFld DBG_AUTH.SESSION 0 ses
  { s with dbg := { s.dbg with ceilOn := true } }
def wDbgCore (ses : Nat) (f : Core → Core) : State := (wDbg ses).onCore 0 f
/-- The debug module with an access under way. -/
def wAcc (w : W) (no : Bool) (tag : Option Nat) : State := { wMem with dbg := { wMem.dbg with acc := some (w, 7, no, tag) } }
theorem witness_tap : (wDbg 2).extestOk = false := by decide +kernel
/-- Every core in reset and Macen's too, with the ceiling FULL. -/
def wExt : State := { State.reset with dbg := { State.reset.dbg with ceilOn := true } }
theorem witness_extest : wExt.extestOk = true ∧ wExt.lc = 0 ∧ ({ State.reset with fuses := (List.range 24).map fun i => (i, true) } : State).lc ≠ 0 := by decide +kernel
/-- The offset of a register of the DBG window. -/
def dbgOff (r : RegId) (i : Nat) : Nat := regAddr r i - regAddr .DBG_AUTH 0
theorem witness_dbgacc : (regAddr .DBG_AUTH 0 + dbgOff .DBG_FREEZE 0 % 2 ^ 24) % 8 = 0 ∧ bufAt (regAddr .DBG_AUTH 0 + dbgOff .DBG_FREEZE 0 % 2 ^ 24) = none ∧
    regAt (regAddr .DBG_AUTH 0 + dbgOff .DBG_FREEZE 0 % 2 ^ 24) = some (.DBG_FREEZE, 0) ∧ isDbgReg .DBG_FREEZE = true ∧
    (wDbg 2).dbgMay 0 .DBG_FREEZE 0 true = true ∧ (wDbg 2).dbgMay 0 .DBG_FREEZE 0 false = true ∧ (wDbg 0).dbgMay 0 .DBG_FREEZE 0 true = false ∧
    (wDbg 0).dbgMay 0 .DBG_FREEZE 0 false = false := by decide +kernel
theorem witness_dbgacc_rows : ([(RegId.DBG_AUTH, 0), (.DBG_AUTH_NONCE, 0), (.DBG_CORE_CTL, 0), (.DBG_CORE_REGDATA, 0), (.DBG_VT_TX, 0), (.DBG_VT_RX, 0), (.DBG_MEM_CTL, 0)].all fun e =>
    (regAddr .DBG_AUTH 0 + dbgOff e.1 e.2 % 2 ^ 24) % 8 == 0 && bufAt (regAddr .DBG_AUTH 0 + dbgOff e.1 e.2 % 2 ^ 24) == none &&
    regAt (regAddr .DBG_AUTH 0 + dbgOff e.1 e.2 % 2 ^ 24) == some e) = true := by decide +kernel
theorem witness_dbgacc_other : (regAddr .DBG_AUTH 0 + 4 % 2 ^ 24) % 8 ≠ 0 ∧ (regAddr .DBG_AUTH 0 + 0x2000 % 2 ^ 24) % 8 = 0 ∧
    bufAt (regAddr .DBG_AUTH 0 + 0x2000 % 2 ^ 24) = some (.cert 0) ∧ (wDbg 2).dbg.ceilOn = true ∧ (wDbg 2).lc ≠ 5 ∧
    bufAt (regAddr .DBG_AUTH 0 + 0x80 % 2 ^ 24) = none ∧ regAt (regAddr .DBG_AUTH 0 + 0x80 % 2 ^ 24) = none := by decide +kernel
theorem witness_debug_verify : (wDbg 0).portWrites .jtag .DBG_AUTH (portNo .jtag) ∧ field (1 : W) 1 0 = 1 ∧ (wDbg 0).dbg.ceilOn = true ∧
    (wDbg 0).fld DBG_AUTH.RESULT (portNo .jtag) ≠ 3 ∧ tget 0 (wDbg 0).dbg.lastVerify (portNo .jtag) = 0 ∧ field (2 : W) 1 0 = 2 ∧
    ({ wDbg 0 with dbg := { (wDbg 0).dbg with lastVerify := [(0, 1)] } } : State).dtime + 1 < 1 + 100000000 ∧ wRun.dbg.ceilOn = false :=
  ⟨rfl, by decide +kernel⟩
/-- A certificate waits for the SP on the JTAG port. -/
def wCertPend (ses : Nat) : State := { wDbg ses with dbg := { (wDbg ses).dbg with pend := [(0, [1])] } }
theorem witness_verify_complete : tget [] (wCertPend 0).dbg.pend (portNo .jtag) = [1] ∧ (wCertPend 0).session (portNo .jtag) ≠ 2 ∧ ceiling (wCertPend 0).lc ≠ 0 ∧
    (wCertPend 2).session (portNo .jtag) = 2 ∧ tget [] (wDbg 0).dbg.pend (portNo .jtag) = [] := by decide +kernel
theorem witness_debug_reset : (wDbg 2).portWrites .jtag .DBG_AUTH (portNo .jtag) ∧ field (3 : W) 1 0 = 3 ∧ (wDbg 2).session (portNo .jtag) = 2 ∧
    (wDbg 2).rstLevel = 0 ∧ (wDbg 1).session (portNo .jtag) ≠ 2 := ⟨rfl, by decide +kernel⟩
theorem witness_go : (wDbg 2).portWrites .jtag .DBG_MEM_CTL 0 ∧ bit (BitVec.ofNat 64 (2 ^ 48)) 48 = true ∧ (wDbg 2).fld DBG_MEM_CTL.BUSY 0 = 0 ∧
    ((wDbg 2).setFld DBG_MEM_CTL.BUSY 0 1).fld DBG_MEM_CTL.BUSY 0 = 1 := ⟨rfl, by decide +kernel⟩
/-- DBG_MEM_CTL for 8 bytes at an address: bits 52 WRITE, 59 WORLD and 60 EFFECT as given. -/
def memCtl (pa wr sec eff : Nat) : W := BitVec.ofNat 64 (pa + 2 ^ 52 * wr + 3 * 2 ^ 53 + 2 ^ 59 * sec + 2 ^ 60 * eff)
theorem witness_access : (wAcc (memCtl 64 1 1 0) false none).dbg.acc = some (memCtl 64 1 1 0, 7, false, none) ∧
    (wAcc (memCtl 64 1 1 0) false none).region (field (memCtl 64 1 1 0) 47 0) = .dram ∧ 64 % 2 ^ field (memCtl 64 1 1 0) 54 53 = 0 ∧
    bit (memCtl 64 1 1 0) 52 = true ∧ bit (memCtl 64 0 1 0) 52 = false ∧ bit (memCtl 64 1 1 0) 59 = true ∧ (wAcc (memCtl 64 1 1 0) false none).lineOk 1 = true ∧
    ((wAcc (memCtl 64 0 1 0) false none).curLine 1).poison = false ∧ bit (memCtl 64 0 0 0) 59 = false ∧
    (wAcc (memCtl 64 0 0 0) false none).wtOwner 64 ≠ some (field (memCtl 64 0 0 0) 58 55) ∧ field (memCtl 65 0 0 0) 47 0 % 2 ^ field (memCtl 65 0 0 0) 54 53 ≠ 0 := by
  decide +kernel
theorem witness_access_error : (({ wAcc (memCtl 128 0 1 0) false none with l3 := [(2, some { poison := true })] } : State).curLine 2).poison = true ∧
    (wAcc (memCtl 128 0 1 0) false none).region 128 = .dram := by decide +kernel
theorem witness_access_odc : (wAcc (memCtl 0xFE0000000000 0 1 0) false none).region (field (memCtl 0xFE0000000000 0 1 0) 47 0) = .odc ∧
    field (memCtl 0xFE0000000000 0 1 0) 47 0 % 2 ^ field (memCtl 0xFE0000000000 0 1 0) 54 53 = 0 ∧ bit (memCtl 0xFE0000000000 0 1 0) 60 = false ∧
    regForm (field (memCtl 0xFE0000000000 0 1 0) 47 0) (2 ^ field (memCtl 0xFE0000000000 0 1 0) 54 53) = some (some (.RCP_RESET_CAUSE, 0), none) ∧
    (wAcc (memCtl 0xFE0000000000 0 1 0) false none).gate (.dbg (bit (memCtl 0xFE0000000000 0 1 0) 59) (field (memCtl 0xFE0000000000 0 1 0) 58 55))
      .RCP_RESET_CAUSE 0 none = .pass := by decide +kernel
theorem witness_access_device : (wAcc (memCtl 0x100000000000 0 1 1) false (some 3)).region (field (memCtl 0x100000000000 0 1 1) 47 0) = .pcie ∧
    bit (memCtl 0x100000000000 0 1 1) 60 = true ∧ bit (memCtl 0x100000000000 0 1 0) 60 = false ∧
    ({ wAcc (memCtl 0x100000000000 0 1 1) false (some 3) with txns := [(47 * 1024 + 3, { use := some (.other 0) })] } : State).txns =
      [(47 * 1024 + 3, { use := some (.other 0) })] := by decide +kernel

theorem witness_halt : (wDbg 2).portWrites .jtag .DBG_CORE_CTL 0 ∧ (wDbg 2).portRight .jtag 0 ∧ field (1 : W) 1 0 = 1 ∧ bit (1 : W) 2 = false ∧
    (wDbg 2).hartCore 0 = some 0 ∧ (wDbg 2).isTrailer 0 = false ∧ ((wDbg 2).core 0).run ≠ .held ∧ ((wDbg 2).core 0).run ≠ .halted ∧
    ((wDbg 2).core 0).haltReq = false := ⟨rfl, Or.inl (by decide +kernel), by decide +kernel⟩
theorem witness_halt_taken : (wDbg 2).coreHart 0 < 96 ∧ (wDbgCore 2 fun k => { k with haltReq := true }).haltBoundary 0 = true ∧
    ((wDbgCore 2 fun k => { k with haltReq := true }).core 0).haltReq = true ∧ ((wDbgCore 2 fun k => { k with stopNext := some (2, 1) }).core 0).stopNext = some (2, 1) ∧
    (wDbgCore 2 fun k => { k with stopNext := some (2, 1) }).haltBoundary 0 = true ∧
    (wDbgCore 2 fun k => { k with haltReq := true, devLoad := some (8, 0) }).haltBoundary 0 = false := by decide +kernel
theorem witness_halted : ((wDbgCore 2 fun k => { k with run := .halted }).core 0).run = .halted ∧ (wDbgCore 2 fun k => { k with run := .halted }).isTrailer 0 = false ∧
    (wDbgCore 2 fun k => { k with run := .halted }).hartCore 0 = some 0 ∧ field (2 : W) 1 0 = 2 ∧ field (3 : W) 1 0 = 3 ∧
    (wDbgCore 2 fun k => { k with run := .halted }).dbgMay 0 .DBG_CORE_CTL 0 true = true := by decide +kernel
theorem witness_debug_core_reset : (wDbg 2).slotState 0 = 0 ∧ ((wDbg 2).core 0).flushing = false ∧ bit (4 : W) 2 = true ∧
    ((wDbgCore 2 fun _ => { run := .held, flushing := true }).core 0).flushing = true ∧ ((wDbgCore 2 fun _ => { run := .held }).core 0).run = .held ∧
    tget false (wDbgCore 2 fun _ => { run := .held }).unlocked 0 = false ∧ (wDbgCore 2 fun _ => { run := .held }).slotFailed 0 = false ∧
    (wDbgCore 2 fun _ => { run := .held }).hartCore 0 = some 0 := by decide +kernel
/-- Core 0 halted with a register selected. -/
def wSelReg (n : Nat) : State := (wDbgCore 2 fun k => { k with run := .halted }).setFld DBG_CORE_REGSEL.REG 0 n
theorem witness_regdata : (wSelReg 0x1000).portReads .jtag .DBG_CORE_REGDATA 0 ∧ (wSelReg 0x1000).portWrites .jtag .DBG_CORE_REGDATA 0 ∧
    (wSelReg 0x1000).hartCore 0 = some 0 ∧ (wSelReg 0x117F).regAllowed (portNo .jtag) 0 0x117F = true ∧
    ([0, 0x300, 0x7C0, 0x1000, 0x1040, 0x1041, 0x1100, 0x117F].map fun n => ((wSelReg n).fld DBG_CORE_REGSEL.REG 0 == n, regListed n)) =
      [(true, false), (true, true), (true, true), (true, true), (true, true), (true, false), (true, true), (true, true)] ∧
    (wSelReg 0x300).regCores 0 = [0] ∧ ((wDbg 2).core 0).run ≠ .halted := ⟨rfl, rfl, by decide +kernel⟩
theorem witness_freeze : tget false ({ wDbg 0 with dbg := { froze := [(1, true)] } } : State).dbg.froze 1 = true ∧ (wDbg 0).halted 1 = false ∧
    tget false (wDbg 0).dbg.froze 1 = false := by decide +kernel
theorem witness_vt : (wDbg 2).portWrites .jtag .DBG_VT_TX 0 ∧ (wDbg 2).portReads .jtag .DBG_VT_TX 98 ∧ (wDbg 2).portWrites .jtag .DBG_VT_RX 195 ∧
    (wDbg 2).portReads .jtag .DBG_VT_RX 97 := ⟨rfl, rfl, rfl, rfl⟩
/-- Hart 0 is traced into the ring at 1 MiB of the DRAM window. -/
def wTrace : State := ((((((wMem.onCore 0 fun k => { k with run := .running, secure := false }).setFld DBG_CORE_CTL.TRACE 0 1).setFld DBG_TRACE_CFG.EN 0 1).setFld
  DBG_TRACE_CFG.WORLD 0 1).setFld DBG_TRACE_CFG.BASE 0 256).setFld DBG_TRACE_CFG.SIZE_LOG2 0 16)
theorem witness_trace : wTrace.hartCore 0 = some 0 ∧ wTrace.fld DBG_CORE_CTL.TRACE 0 = 1 ∧ wTrace.fld DBG_TRACE_CFG.EN 0 = 1 ∧ wTrace.fld DBG_TRACE_CFG.WORLD 0 = 1 ∧
    (wTrace.core 0).secure = false ∧ wTrace.traceBuf = [] ∧ tget 0 wTrace.dbg.lost 0 = 0 ∧ ((List.range 96).all fun g => g == 0 || wTrace.fld DBG_CORE_CTL.TRACE g == 0) = true ∧
    wTrace.isDram (wTrace.fld DBG_TRACE_CFG.BASE 0 * 4096 + wTrace.fld DBG_TRACE_PTR.WRITE 0 % 2 ^ wTrace.fld DBG_TRACE_CFG.SIZE_LOG2 0) = true ∧
    (wDbg 0).fld DBG_TRACE_CFG.EN 0 = 0 := by decide +kernel

/-! ### Misc -/

/-- Patch unit 3 stands for line 2 of Macen's code. -/
def wPatch : State := ((wRun.setFld DBG_PATCH_CFG.EN 3 1).setFld DBG_PATCH_CFG.TARGET 3 1).setFld DBG_PATCH_CFG.LINE 3 2
theorem witness_patch : wPatch.fld DBG_PATCH_CFG.EN 3 = 1 ∧ wPatch.fld DBG_PATCH_CFG.TARGET 3 = b2n true ∧ wPatch.fld DBG_PATCH_CFG.LINE 3 = 64 / 32 % 2 ^ 43 ∧
    ((List.range 3).all fun v => wPatch.fld DBG_PATCH_CFG.EN v == 0) = true ∧ ((List.range 16).all fun v => wRun.fld DBG_PATCH_CFG.EN v == 0) = true := by
  decide +kernel
theorem witness_register_write : wRun.region (regAddr .LSIO_PAD_CFG 0) = .odc ∧ bufAt (regAddr .LSIO_PAD_CFG 0) = none ∧
    regForm (regAddr .LSIO_PAD_CFG 0) 8 = some (some (.LSIO_PAD_CFG, 0), none) ∧ regForm (regAddr .LSIO_PAD_CFG 0 + 4) 4 = some (some (.LSIO_PAD_CFG, 0), some true) ∧
    isDbgReg .LSIO_PAD_CFG = false ∧ wRun.gate .macen .LSIO_PAD_CFG 0 (some (BitVec.ofNat 64 5)) = .pass ∧ regAbsent .LSIO_PAD_CFG 0 = false ∧
    wRun.gate .macen .LSIO_PAD_CFG 0 (some (wRun.halfValue .LSIO_PAD_CFG 0 true 5)) = .pass ∧ (wRun.onCore 0 fun k => { k with secure := false }).gate (.core 0) .WPC_CFG 0 (some (BitVec.ofNat 64 5)) = .late := by
  decide +kernel
theorem witness_register_rows : ([RegId.MESH_LINK_CFG, .MESH_INIT_STATUS, .LID_SECTION, .SPN_STREAM_CFG, .SPN_STREAM_STATE, .JRN_DRAIN_PTR, .JRN_REPL_STATE,
    .JRN_RSLOT_CFG, .FAB_PORT_CTL, .FAB_SQ_PTR, .MCT_ECC_COUNT, .PCIE_PORT_CFG, .IOMMU_INVAL, .CPH_RING_PTR, .WPC_SYNC, .WPC_PART_CTL, .EVR_SRC_CFG, .EVR_TGT_EOI,
    .EVR_TGT_INJECT, .RCP_RESET_CAUSE, .RCP_RTC, .RCP_PSTATE, .RCP_BLOCK_CTL, .TMR_WDOG, .MBX_DOORBELL, .UART_DATA].all fun r =>
      wRun.region (regAddr r 0) == .odc && bufAt (regAddr r 0) == none && regForm (regAddr r 0) 8 == some (some (r, 0), none)) = true := by decide +kernel
theorem witness_register_none : wRun.region 0 ≠ .odc ∧ wRun.region 0 ≠ .secureOnly ∧ regForm (regAddr .LSIO_PAD_CFG 0 + 2) 2 = none ∧
    bufAt (regAddr .LSIO_PAD_CFG 0 + 2) = none ∧ wRun.region (regAddr .LSIO_PAD_CFG 0 + 2) = .odc ∧ (regAt (regAddr .LSIO_PAD_CFG 0 + 2 - (regAddr .LSIO_PAD_CFG 0 + 2) % 8)).isSome = true ∧
    regAt (0xFE0000FF0000 - 0xFE0000FF0000 % 8) = none ∧ regForm 0xFE0000FF0000 2 = none ∧ regForm 0xFE0000FF0000 8 = some (none, none) ∧
    bufAt 0xFE0000FF0000 = none ∧ wRun.region 0xFE0000FF0000 = .odc ∧ wRun.odcGate .macen 0xFE0000FF0000 true = .pass := by decide +kernel
theorem witness_register_buffer : wRun.region 0xFE0001001000 = .odc ∧ bufAt 0xFE0001001000 = some (.mbx 0 0x1000) ∧ 0xFE0001001000 % 4 = 0 ∧
    wRun.odcGate (.core 1) 0xFE0001001000 true = .pass ∧ 0xFE0001001000 % 3 ≠ 0 := by decide +kernel
theorem witness_snapshot : readRow .MCT_ECC_LOG = true ∧ popRow .MCT_ECC_LOG = false ∧ regForm (regAddr .MCT_ECC_LOG 0) 8 = some (some (.MCT_ECC_LOG, 0), none) ∧
    regForm (regAddr .MCT_ECC_LOG 0 + 4) 4 = some (some (.MCT_ECC_LOG, 0), some true) ∧ wRun.gate .macen .MCT_ECC_LOG 0 none = .pass ∧ readRow .LSIO_PAD_CFG = false := by decide +kernel
/-- Partition 1's Ladle is on with hart 0 in its mask. -/
def wLadle : State := { (((wRun.setFld LDL_PART_CFG.EN 1 1).setFld LDL_PART_CFG.PERIOD_US 1 100).setFld LDL_PART_CFG.SIZE_LOG2 1 16).wr .LDL_PART_MASK 4 1 with dtime := 100000 }
theorem witness_ladle_tick : wLadle.ldl.lastT ≠ wLadle.dtime + 1 ∧
    (List.range 16).filter (fun p => wLadle.fld LDL_PART_CFG.EN p == 1 && decide (wLadle.dtime % (wLadle.fld LDL_PART_CFG.PERIOD_US p * 1000) = 0) &&
      tget 0 wLadle.ldl.since p != wLadle.dtime + 1) = [1] ∧ 0 ∈ maskSets (wLadle.ladleMask 1) := by decide +kernel
theorem witness_ladle_gather : (maskSets 1).flatMap setKeys ≠ [] ∧ ({ wLadle with ldl := { waits := [(1, 0, 1, 100)] } } : State).ladleHeld 1 = false := by decide +kernel
/-- A staged record of partition `p` with the DRAM window's World Table giving it megabyte 2. -/
def wStaged (own : Nat) : State :=
  { ((((wMem.setFld WPC_CFG.WT_EN 0 1).setFld LDL_PART_CFG.BASE 1 4096).setFld LDL_PART_CFG.SIZE_LOG2 1 16).setFld WPC_CFG.WT_BASE 0 1) with
    ldl := { staged := [(1, 0, 1, 100, [7, 8, 9, 1, 2, 3, 4, 5])] }, mem := [(0x400008, own)] }
theorem witness_ladle_record : (wStaged 0x81).wtOwner 0x1000000 = some 1 ∧ (wStaged 0x81).wtOwner (0x1000000 + 128 - 1) = some 1 ∧
    recordLen 8 = 128 ∧ 128 ≤ 2 ^ (wStaged 0x81).fld LDL_PART_CFG.SIZE_LOG2 1 ∧ (wStaged 0).wtOwner 0x1000000 ≠ some 1 ∧
    (wStaged 0x81).fld LDL_PART_CFG.BASE 1 * 4096 = 0x1000000 := by decide +kernel
/-- A UART that is on, with what its FIFOs hold. -/
def wUart (l : Lsio) : State := { wMem.setFld UART_CFG.EN 1 1 with lsio := l }
theorem witness_uart : (wUart {}).gate (.core 1) .UART_DATA 1 (some 65) = .pass ∧ (wUart {}).gate (.core 1) .UART_DATA 1 none = .pass ∧
    (wUart {}).fld UART_CFG.EN 1 = 1 ∧ (wUart {}).uartFrozen 1 = false ∧ wMem.fld UART_CFG.EN 1 = 0 ∧
    64 ≤ (tget [] (wUart { tx := [(1, List.replicate 64 0)] }).lsio.tx 1).length ∧ tget none (wUart {}).lsio.shift 1 = none := by decide +kernel

end Sys2Proof.Tests
end

/-!
The CSR misa (R31). It lies in none of the ranges that the on-die registers and the custom CSRs take, so its value and
its fate under a write are those of its own branch in `State.csrRead` and `State.csrPut`.
-/
namespace Sys2Proof.Machine

open Sys2Proof

/-- misa is no on-die register seen through a CSR number. -/
theorem csrReg_misa : csrReg 0x301 = none := by decide

/-- misa is outside the custom ranges, whose unlisted numbers read 0 (R54). -/
theorem customCsr_misa : customCsr 0x301 = false := by decide

/-- The value of R31: MXL for 64 bits, and a bit for each of the letters A, B, C, D, F, H, I, M, S, U and V. -/
theorem csrRead_misa (s : State) (c : Nat) : s.csrRead c 0x301 = 0x80000000003411AF := by
  simp [State.csrRead, csrReg_misa, customCsr_misa]

theorem csrPut_misa (s : State) (c : Nat) (v : W) : s.csrPut c 0x301 v = s := by
  simp [State.csrPut, csrReg_misa, customCsr_misa]

/-- Settles O8: misa has a branch of its own in the read and in the write of a CSR, and neither looks at the state. -/
theorem misaIsReadOnly : Obligations.MisaIsReadOnly :=
  fun s c v => ⟨csrRead_misa s c, csrPut_misa s c v⟩

end Sys2Proof.Machine

/-!
The root registers of translation (R56, R57): satp, vsatp and hgatp. None has a write of its own in `State.csrPut`, so a
write stores what `csrKeep` keeps of it: the written bits under a mask that holds all of MODE, or the whole old value.
-/
namespace Sys2Proof.Machine

open Sys2Proof

@[simp] theorem Core.getCsr_setCsr_same (k : Core) (a : Nat) (v : W) : (k.setCsr a v).getCsr a = v :=
  tget_tset_same 0 k.csr a v

/-- A mask with bits [63:60] set keeps the MODE field. -/
theorem field_mode_and (v m : W) (hm : m.toNat >>> 60 = 15) : field (v &&& m) 63 60 = field v 63 60 := by
  unfold field
  rw [BitVec.toNat_and, Nat.shiftRight_and_distrib, hm, Nat.and_two_pow_sub_one_eq_mod _ 4]
  exact Nat.mod_mod _ _

/-- A CSR address is that of a root register: satp, vsatp or hgatp. -/
def IsRootCsr (a : Nat) : Prop := a = 0x180 ∨ a = 0x280 ∨ a = 0x680

/-- The bits that a root register implements (R57). -/
def rootMask (a : Nat) : W := if a = 0x680 then 0xF3FFF00FFFFFFFFC else 0xFFFFF00FFFFFFFFF

theorem rootMask_mode (a : Nat) : (rootMask a).toNat >>> 60 = 15 := by
  unfold rootMask
  split <;> decide

/-- R56 and R57 as one rule for the three root registers. -/
theorem csrKeep_root {a : Nat} (ha : IsRootCsr a) (old new : W) :
    csrKeep a old new = if field new 63 60 ∈ [0, 8, 9, 10] then new &&& rootMask a else old := by
  rcases ha with rfl | rfl | rfl
  case inl => simp [csrKeep, satpVal, rootMask]
  case inr.inl => simp [csrKeep, satpVal, rootMask]
  case inr.inr => simp [csrKeep, hgatpVal, rootMask]

/-- A root register is no on-die register seen through a CSR number, lies in no custom range, and takes the write of a
plain CSR. -/
theorem csrPut_root (s : State) (c : Nat) {a : Nat} (ha : IsRootCsr a) (v : W) :
    s.csrPut c a v = s.setCore c ((s.core c).setCsr a (csrKeep a ((s.core c).getCsr a) v)) := by
  have hreg : csrReg a = none := by rcases ha with rfl | rfl | rfl <;> decide
  have hcustom : customCsr a = false := by rcases ha with rfl | rfl | rfl <;> decide
  rcases ha with rfl | rfl | rfl <;> simp [State.csrPut, hreg, hcustom]

/-- What a root register holds after a write to it. -/
theorem getCsr_csrPut_root (s : State) (c : Nat) {a : Nat} (ha : IsRootCsr a) (v : W) :
    ((s.csrPut c a v).core c).getCsr a =
      if field v 63 60 ∈ [0, 8, 9, 10] then v &&& rootMask a else (s.core c).getCsr a := by
  rw [csrPut_root s c ha, State.core_setCore_same, Core.getCsr_setCsr_same, csrKeep_root ha]

/-- Settles O9: an accepted MODE passes the mask of the register unchanged, and a write of any other keeps the old value. -/
theorem translationModes : Obligations.TranslationModes := by
  intro s c a v ha
  rw [getCsr_csrPut_root s c ha]
  constructor
  · intro hmode
    rw [if_pos hmode]
    exact field_mode_and v _ (rootMask_mode a)
  · intro hmode
    rw [if_neg hmode]

end Sys2Proof.Machine

/-!
CG.END of a group with an empty write set (R165): no number, no record, no reservation. What its retirement can change
is stated by `Acts` masks, as for every other operation; the group's own end is `State.endEmptyGroup`.
-/
namespace Sys2Proof.Machine

open Sys2Proof

/-- Writing an integer register changes nothing of the core but the integer registers. -/
theorem Core.setX_eq (k : Core) (r : Nat) (v : W) : k.setX r v = { k with x := (k.setX r v).x } := by
  unfold Core.setX
  split <;> rfl

/-- CG.END's write of rd does not change which triggers fire. -/
theorem State.untriggered_cgDest {s : State} {c : Nat} (h : s.untriggered c none) (rd : Nat) (v : W) :
    (s.onCore c fun k => { k.setX rd v with cgWait := none }).untriggered c none := by
  apply s.untriggered_onCore c none _ h <;> rw [Core.setX_eq]

/-- Where no trigger and no step halts the core, a CG.END's retirement touches the cores (field 6), the pairs (29) and the
counters (99), and no register. -/
theorem acts_cgRetire_untriggered {s : State} {c : Nat} (h : s.untriggered c none) (rd len : Nat) (v : W) :
    Acts (2 ^ 6 + 2 ^ 29 + 2 ^ 99) 0 s (s.cgRetire c rd len v) := by
  unfold State.cgRetire State.retire
  rw [State.retireTo_eq _ c _ _ none (State.untriggered_cgDest h rd v)]
  refine Acts.trans ?_ (acts_closeIval _ _) rfl rfl
  refine Acts.trans ?_ (acts_pairFold _ _ _ _ _) rfl rfl
  refine Acts.trans ?_ (acts_countInstret _ _) rfl rfl
  refine Acts.trans ?_ (acts_onCore _ _ _) rfl rfl
  exact (acts_onCore _ _ _).mono rfl rfl

theorem State.cgRetire_core {s : State} {c : Nat} (h : s.untriggered c none) (rd len : Nat) (v : W) :
    (s.cgRetire c rd len v).core c =
      ({ (s.core c).setX rd v with cgWait := none } : Core).advance ((s.core c).pc + BitVec.ofNat 64 len) := by
  unfold State.cgRetire
  rw [State.closeIval_core, State.retire_core _ _ _ _ _ (State.untriggered_cgDest h rd v), State.core_onCore_same,
    Core.setX_eq]

/-- The end of a core's group that has written nothing (R165), before the CG.END retires. -/
def State.endEmptyGroup (s : State) (c : Nat) : State :=
  (((s.setCore c { (s.core c).squash with group := none, resv := none }).setFld CG_STATUS.ACTIVE c 0).wr
    .CG_LASTSEQ c 0).trace c 0x07 0 0

/-- The end of an empty group writes CG_STATUS and CG_LASTSEQ; the rest of the two masks is the trace packet's. -/
theorem acts_endEmptyGroup (s : State) (c : Nat) :
    Acts 3327582825601408021942891446352 (649037107392411317292226364571840 + 2 ^ RegId.CG_LASTSEQ.num) s
      (s.endEmptyGroup c) := by
  unfold State.endEmptyGroup
  refine Acts.trans ?_ (acts_trace _ _ _ _ _) rfl rfl
  refine Acts.trans ?_ (Acts.wr _ _ _ _) rfl rfl
  refine Acts.trans ?_ (acts_setFld _ _ _ _) rfl rfl
  exact (acts_setCore _ _ _).mono rfl rfl

/-- The trace packet of the commit finds the group closed, so no event of the packet's ring can reach the core. -/
theorem State.endEmptyGroup_core (s : State) (c : Nat) :
    (s.endEmptyGroup c).core c = { (s.core c).squash with group := none, resv := none } := by
  unfold State.endEmptyGroup
  have hcore := s.core_setCore_same c { (s.core c).squash with group := none, resv := none }
  rw [State.trace_core]
  · exact hcore
  · exact congrArg Core.group hcore

theorem State.endEmptyGroup_lastseq (s : State) (c : Nat) : (s.endEmptyGroup c).rd .CG_LASTSEQ c = 0 :=
  (State.rd_trace _ _ _ _ _ _ _ rfl).trans (State.rd_wr_same _ _ _ _)

theorem State.endEmptyGroup_untriggered {s : State} {c : Nat} (h : s.untriggered c none) :
    (s.endEmptyGroup c).untriggered c none := by
  have hregs : ∀ r ∈ trigRegs, ∀ i, (s.endEmptyGroup c).rd r i = s.rd r i := by
    intro r hr i
    refine (acts_endEmptyGroup s c).reg r i ?_
    revert r
    decide
  apply s.untriggered_congr _ c none h hregs <;> rw [State.endEmptyGroup_core] <;> rfl

/-- With tracing off the end of an empty group leaves the journal engine's reservations and records alone. -/
theorem State.endEmptyGroup_journal (s : State) (c : Nat) (hoff : s.fld DBG_TRACE_CFG.EN 0 = 0) :
    (s.endEmptyGroup c).jrnRes = s.jrnRes ∧ (s.endEmptyGroup c).jrnRecs = s.jrnRecs := by
  unfold State.endEmptyGroup
  rw [State.trace_off]
  · simp
  · rw [State.fld_wr_reg _ _ _ _ _ (by decide), State.fld_setFld_apart _ _ _ _ _ _ (by decide) (by decide),
      State.fld_setCore, hoff]

/-- CG.END of an open group that has lost no dependency, waits for no line and has written nothing: it ends the group, or
without EARLY waits for its dependencies. -/
theorem execCgEnd_empty {s : State} {c : Nat} (rd : Nat) {rs1 : Nat} (len : Nat) {insn : W} {g : Group} (hruns : s.runs c)
    (hinsn : custom0Bad insn true true = false) (hwait : (s.core c).cgWait = none) (hmode : (s.core c).cgMode = true)
    (hrs1 : field ((s.core c).getX rs1) 63 1 = 0) (hgroup : (s.core c).group = some g) (hempty : g.writes = [])
    (hlost : (s.core c).anyLost = false) (hsb : (s.core c).sb.any (·.grp) = false) (hcmp : s.allCompared c = true) :
    execCgEnd c rd rs1 len insn s =
      .next (if bit ((s.core c).getX rs1) 0 = false ∧ s.undurable c ≠ [] then s
        else (s.endEmptyGroup c).cgRetire c rd len 0) := by
  unfold execCgEnd State.endEmptyGroup
  rw [runs_go hruns]
  simp [hinsn, hwait, hmode, hrs1, hgroup, hempty, hlost, hsb, hcmp]

/-- Settles O14: the two cases are those of `execCgEnd_empty`; where the group ends, the retirement adds the pc, rd, the
count and the pair's interval to what `State.endEmptyGroup` did. -/
theorem emptyGroupCommit : Obligations.EmptyGroupCommit := by
  intro s c rd rs1 len insn g hruns hinsn hwait hmode hrs1 hgroup hempty hlost hsb hcmp
  have hexec : exec (.cgEnd c rd rs1 len insn) s = _ :=
    execCgEnd_empty rd len hruns hinsn hwait hmode hrs1 hgroup hempty hlost hsb hcmp
  constructor
  · intro hgo
    have hends : ¬(bit ((s.core c).getX rs1) 0 = false ∧ s.undurable c ≠ []) := by
      rintro ⟨hearly, hund⟩
      rcases hgo with h | h
      · exact absurd (hearly.symm.trans h) (by decide)
      · exact hund h
    rw [if_neg hends] at hexec
    have huntrig := State.endEmptyGroup_untriggered hruns.2
    have hcore := State.cgRetire_core huntrig rd len 0
    have hacts := acts_cgRetire_untriggered huntrig rd len 0
    rw [State.endEmptyGroup_core] at hcore
    refine ⟨_, hexec, ?pc, ?lastseq, ?rd, ?closed, ?noRequest, ?spine, ?journal⟩
    case pc => rw [State.advanced, hcore]; rfl
    case lastseq => rw [hacts.reg _ _ rfl, State.endEmptyGroup_lastseq]
    case rd =>
      rw [hcore]
      refine (Core.getX_setX_all _ rd 0).trans ?_
      split <;> rfl
    case closed => rw [hcore, Core.setX_eq]; rfl
    case noRequest => rw [hcore, Core.setX_eq]; rfl
    case spine => rw [hacts.spn rfl, (acts_endEmptyGroup s c).spn rfl]
    case journal =>
      intro _ hoff
      rw [hacts.jrnRes rfl, hacts.jrnRecs rfl]
      exact s.endEmptyGroup_journal c hoff
  · intro hearly hund
    rw [if_pos ⟨hearly, hund⟩] at hexec
    exact hexec

end Sys2Proof.Machine

/-!
The fabric send queue at a partition reset (R248). Step 5 of R364 empties the queue last, after the other units' parts of
the reset, none of which writes FAB_SQ_PTR; so the TAIL that HEAD takes is the one from before the command.
-/
namespace Sys2Proof.Machine

open Sys2Proof

theorem State.sqPartReset_head (s : State) (q : Nat) :
    (s.sqPartReset q).fld FAB_SQ_PTR.HEAD q = s.fld FAB_SQ_PTR.TAIL q := by
  have htail : s.fld FAB_SQ_PTR.TAIL q < 2 ^ 16 := s.fld_lt FAB_SQ_PTR.TAIL q
  unfold State.sqPartReset
  rw [State.fld_setFld_same _ _ _ _ (by decide)]
  exact Nat.mod_eq_of_lt htail

theorem State.sqPartReset_tail (s : State) (q : Nat) :
    (s.sqPartReset q).fld FAB_SQ_PTR.TAIL q = s.fld FAB_SQ_PTR.TAIL q := by
  unfold State.sqPartReset
  rw [State.fld_setFld_apart _ _ _ _ _ _ (by decide) (by decide)]
  rfl

/-- The next descriptor to send is the one at TAIL, so none is left to send. -/
theorem State.sqPartReset_next (s : State) (q : Nat) :
    tget 0 (s.sqPartReset q).sqNext q = s.fld FAB_SQ_PTR.TAIL q := by
  simp [State.sqPartReset]

theorem State.sqPartReset_done (s : State) (q : Nat) : tget [] (s.sqPartReset q).sqDone q = [] := by
  simp [State.sqPartReset]

/-- A request that still waits for a response is no message of the queue that was emptied. -/
theorem State.sqPartReset_msg {s : State} {q : Nat} {e : Nat × Option RemOp} {o : RemOp} {q' ix : Nat}
    (he : e ∈ (s.sqPartReset q).fabRem) (hop : e.2 = some o) (hmsg : o.use = .msg q' ix) : q' ≠ q := by
  simp only [State.sqPartReset, State.setFld_fabRem, List.mem_filter, hop, hmsg] at he
  simpa using he.2

/-- Step 4 of a partition reset and the parts of step 5 that come before the send queue's (R364). -/
def State.partCloseAndReset (s : State) (q : Nat) : State :=
  ((((s.partCores q).foldl (fun s c => s.coreClose c) s).fillBuckets q).pciePartReset q).cphPartReset q

theorem State.sqTail_closeCores (s : State) (cs : List Nat) (q : Nat) :
    (cs.foldl (fun s c => s.coreClose c) s).fld FAB_SQ_PTR.TAIL q = s.fld FAB_SQ_PTR.TAIL q := by
  induction cs generalizing s with
  | nil => rfl
  | cons c cs ih => rw [List.foldl_cons, ih, (acts_coreClose s c).fld _ _ rfl]

theorem State.sqTail_partCloseAndReset (s : State) (part q : Nat) :
    (s.partCloseAndReset part).fld FAB_SQ_PTR.TAIL q = s.fld FAB_SQ_PTR.TAIL q := by
  unfold State.partCloseAndReset
  rw [(acts_cphPartReset _ _).fld _ _ rfl, (acts_pciePartReset _ _).fld _ _ rfl, (acts_fillBuckets _ _).fld _ _ rfl,
    State.sqTail_closeCores]

/-- PARTITION_FLUSH_DONE in step 3 with every L2 of the partition written back: steps 4 and 5, the send queue last. -/
theorem execPartitionFlushDone_flushed {s : State} {q : Nat} (hstep : tget 0 s.partStep q = 3)
    (hflushed : ∀ c ∈ s.partCores q, (s.core c).flushed = true) :
    execPartitionFlushDone q s =
      .next { (s.partCloseAndReset q).sqPartReset q with
        partStep := tset 0 ((s.partCloseAndReset q).sqPartReset q).partStep q 5 } := by
  have hgo : ¬(tget 0 s.partStep q ≠ 3 ∨ ((s.partCores q).all fun c => (s.core c).flushed) = false) := by
    simpa [hstep] using hflushed
  unfold execPartitionFlushDone
  exact congrArg Host.Outcome.next (if_neg hgo)

/-- Settles O12: the queue's own part of the reset (`State.sqPartReset`) gives every clause, and the steps before it keep
TAIL. -/
theorem sendQueueAtPartitionReset : Obligations.SendQueueAtPartitionReset := by
  intro s q hstep hflushed
  have htail : (s.partCloseAndReset q).fld FAB_SQ_PTR.TAIL q = s.fld FAB_SQ_PTR.TAIL q :=
    s.sqTail_partCloseAndReset q q
  have htail' := (s.partCloseAndReset q).sqPartReset_tail q
  refine ⟨_, execPartitionFlushDone_flushed hstep hflushed, ?head, ?tail, ?next, ?done, ?requests⟩
  case head => exact (State.sqPartReset_head _ q).trans htail'.symm
  case tail => exact htail'.trans htail
  case next => exact (State.sqPartReset_next _ q).trans htail'.symm
  case done => exact State.sqPartReset_done _ q
  case requests => exact fun _ he _ hop _ _ hmsg => State.sqPartReset_msg he hop hmsg

end Sys2Proof.Machine

/-!
The token buckets at a partition reset (R306). Of what PARTITION_FLUSH_DONE does, only `State.fillBuckets` touches the
channels, and on each channel it fills one bucket and leaves the queues alone.
-/
namespace Sys2Proof.Machine

open Sys2Proof

/-- An operation that leaves field 9 of the state alone leaves every channel alone. -/
theorem Acts.chan {L R : Nat} {s t : State} (h : Acts L R s t) (ch : Nat) (hL : L.testBit 9 = false) :
    t.chan ch = s.chan ch := by
  unfold State.chan
  rw [h.chans hL]

theorem State.chan_setChan_same (s : State) (ch : Nat) (x : Chan) : (s.setChan ch x).chan ch = x :=
  tget_tset_same _ _ _ _

theorem State.chan_setChan_other (s : State) {ch ch' : Nat} (x : Chan) (h : ch ≠ ch') :
    (s.setChan ch x).chan ch' = s.chan ch' :=
  tget_tset_other _ _ _ h

/-- A channel with one partition's bucket filled (R306); a full bucket stays as it is. -/
def Chan.fillBucket (x : Chan) (part : Nat) : Chan :=
  if (tget {} x.buckets part).bytes.isNone then x else { x with buckets := tset {} x.buckets part {} }

theorem Chan.fillBucket_full (x : Chan) (part : Nat) : (tget {} (x.fillBucket part).buckets part).bytes = none := by
  unfold Chan.fillBucket
  split
  next hfull => exact Option.isNone_iff_eq_none.1 hfull
  next => exact congrArg Bucket.bytes (tget_tset_same {} x.buckets part {})

theorem Chan.fillBucket_other (x : Chan) {part p : Nat} (h : p ≠ part) :
    tget {} (x.fillBucket part).buckets p = tget {} x.buckets p := by
  unfold Chan.fillBucket
  split
  next => rfl
  next => exact tget_tset_other {} x.buckets {} h.symm

theorem Chan.fillBucket_reads (x : Chan) (part : Nat) : (x.fillBucket part).reads = x.reads := by
  unfold Chan.fillBucket
  split <;> rfl

theorem Chan.fillBucket_writes (x : Chan) (part : Nat) : (x.fillBucket part).writes = x.writes := by
  unfold Chan.fillBucket
  split <;> rfl

theorem Chan.fillBucket_idem (x : Chan) (part : Nat) : (x.fillBucket part).fillBucket part = x.fillBucket part :=
  if_pos (Option.isNone_iff_eq_none.2 (x.fillBucket_full part))

/-- What `State.fillBuckets` does on one channel. -/
def State.fillBucketOn (s : State) (part ch : Nat) : State :=
  if (tget {} (s.chan ch).buckets part).bytes.isNone then s
  else s.setChan ch { s.chan ch with buckets := tset {} (s.chan ch).buckets part {} }

theorem State.chan_fillBucketOn_same (s : State) (part ch : Nat) :
    (s.fillBucketOn part ch).chan ch = (s.chan ch).fillBucket part := by
  unfold State.fillBucketOn
  split
  next hfull => exact (if_pos hfull).symm
  next hlow => exact (s.chan_setChan_same ch _).trans (if_neg hlow).symm

theorem State.chan_fillBucketOn_other (s : State) (part : Nat) {ch ch' : Nat} (h : ch ≠ ch') :
    (s.fillBucketOn part ch).chan ch' = s.chan ch' := by
  unfold State.fillBucketOn
  split
  next => rfl
  next => exact s.chan_setChan_other _ h

theorem State.fillBuckets_eq_foldl (s : State) (part : Nat) :
    s.fillBuckets part = (List.range 16).foldl (fun s ch => s.fillBucketOn part ch) s := rfl

/-- A list that names a channel more than once fills its bucket no further. -/
theorem State.chan_foldl_fillBucketOn (s : State) (part ch : Nat) (chs : List Nat) :
    (chs.foldl (fun s c => s.fillBucketOn part c) s).chan ch =
      if ch ∈ chs then (s.chan ch).fillBucket part else s.chan ch := by
  induction chs generalizing s with
  | nil => rfl
  | cons c chs ih =>
    rw [List.foldl_cons, ih]
    by_cases hc : c = ch
    · subst hc
      simp [State.chan_fillBucketOn_same, Chan.fillBucket_idem]
    · simp [State.chan_fillBucketOn_other _ _ hc, Ne.symm hc]

theorem State.chan_fillBuckets (s : State) (part : Nat) {ch : Nat} (h : ch < 16) :
    (s.fillBuckets part).chan ch = (s.chan ch).fillBucket part := by
  rw [State.fillBuckets_eq_foldl, State.chan_foldl_fillBucketOn, if_pos (List.mem_range.2 h)]

theorem State.chan_closeCores (s : State) (cs : List Nat) (ch : Nat) :
    (cs.foldl (fun s c => s.coreClose c) s).chan ch = s.chan ch := by
  induction cs generalizing s with
  | nil => rfl
  | cons c cs ih => rw [List.foldl_cons, ih, (acts_coreClose s c).chan ch rfl]

/-- Steps 4 and 5 of a partition reset fill the partition's bucket on a channel and leave the channel otherwise alone. -/
theorem State.chan_partCloseAndReset (s : State) (part : Nat) {ch : Nat} (h : ch < 16) :
    (s.partCloseAndReset part).chan ch = (s.chan ch).fillBucket part := by
  unfold State.partCloseAndReset
  rw [(acts_cphPartReset _ _).chan ch rfl, (acts_pciePartReset _ _).chan ch rfl, State.chan_fillBuckets _ _ h,
    State.chan_closeCores]

/-- PARTITION_FLUSH_DONE in step 3, seen on the channels; the send queue's part that comes last touches none. -/
theorem exec_partitionFlushDone_chan {s : State} {part : Nat} (hstep : tget 0 s.partStep part = 3)
    (hflushed : ∀ c ∈ s.partCores part, (s.core c).flushed = true) :
    ∃ t, exec (.partitionFlushDone part) s = .next t ∧ ∀ ch < 16, t.chan ch = (s.chan ch).fillBucket part :=
  ⟨_, execPartitionFlushDone_flushed hstep hflushed, fun ch hch =>
    ((acts_sqPartReset _ part).chan ch rfl).trans (s.chan_partCloseAndReset part hch)⟩

/-- Settles O11: after the command each channel is the one from before it with the partition's bucket filled. -/
theorem bucketsAtPartitionReset : Obligations.BucketsAtPartitionReset := by
  intro s part ch hstep hflushed hch
  obtain ⟨t, hexec, hchan⟩ := exec_partitionFlushDone_chan hstep hflushed
  refine ⟨t, hexec, ?_⟩
  rw [hchan ch hch]
  exact ⟨Chan.fillBucket_full _ _, fun p hp => Chan.fillBucket_other _ hp, Chan.fillBucket_reads _ _,
    Chan.fillBucket_writes _ _⟩

end Sys2Proof.Machine

/-!
REMOTE_RESET at the last count (R428). The command is judged in the state that its packet has left, and taking a packet
writes no register, so TOTAL is the one from before the command.
-/
namespace Sys2Proof.Machine

open Sys2Proof

theorem State.remoteOk_lastCount {s : State} (h : s.fld RCP_RESET_CAUSE.TOTAL 0 = 0xFFFFFFFF) (d : List Byte) :
    s.remoteOk d = false := by
  simp [State.remoteOk, h]

/-- What REMOTE_RESET can do to the accepted command (R254): without a packet, or within 10 ms of the last one, it stays;
otherwise it is the verdict on the payload that arrived. -/
theorem execRemoteReset_accepted {s t : State} (h : execRemoteReset s = .next t) :
    t.remote.accepted = s.remote.accepted ∨
      ∃ p k u, s.takePkt 0x38 = some (p, k, u) ∧ t.remote.accepted = u.remoteOk k.data := by
  unfold execRemoteReset at h
  injection h with h
  split at h
  next => exact .inl (h ▸ rfl)
  next p k u htake =>
    split at h
    next hearly =>
      subst h
      exact .inl (congrArg Remote.accepted ((acts_takePkt_eq htake).remote rfl))
    next hdue =>
      refine .inr ⟨p, k, u, htake, ?_⟩
      subst h
      dsimp only
      split
      · rw [(acts_fabSend _ _).remote rfl]
      · rw [(acts_logErr _ _ _ _ _ _).remote rfl, (acts_fabSend _ _).remote rfl]

/-- Settles O10: of the two outcomes of `execRemoteReset_accepted` the verdict is a rejection at the last count. -/
theorem remoteResetStopsAtTheLastCount : Obligations.RemoteResetStopsAtTheLastCount := by
  intro s htotal
  refine ⟨s.remoteOk_lastCount htotal, fun t hexec haccepted => ?_⟩
  rcases execRemoteReset_accepted hexec with hkept | ⟨p, k, u, htake, hverdict⟩
  · exact hkept ▸ haccepted
  · have htotal' : u.fld RCP_RESET_CAUSE.TOTAL 0 = 0xFFFFFFFF := ((acts_takePkt_eq htake).fld _ _ rfl).trans htotal
    rw [hverdict, u.remoteOk_lastCount htotal'] at haccepted
    cases haccepted

end Sys2Proof.Machine

/-!
The loss of the backup domain (R429). VBAK_LOST only writes registers. Step 5 of a release calibrates its supplies and
replays the repair log before it looks at VBAK_LOST; neither touches what decides whether a source pends, so source 1615
can pend afterwards if it could before.
-/
namespace Sys2Proof.Machine

open Sys2Proof

theorem Acts.owner {L R : Nat} {s t : State} (h : Acts L R s t) (i : Nat)
    (hown : R.testBit RegId.WPC_OWNER.num = false) : t.owner i = s.owner i := by
  unfold State.owner
  rw [h.fld WPC_OWNER.VALID i hown, h.fld WPC_OWNER.KIND i hown, h.fld WPC_OWNER.PARTITION i hown]

/-- A partition reset's discarding depends on the harts' partitions (field 28), the partitions' states and the owners. -/
theorem Acts.discards {L R : Nat} {s t : State} (h : Acts L R s t) (hart : Nat) (src : Option Nat)
    (hpart : L.testBit 28 = false) (hctl : R.testBit RegId.WPC_PART_CTL.num = false)
    (hown : R.testBit RegId.WPC_OWNER.num = false) : t.discards hart src = s.discards hart src := by
  have hstate : ∀ p, t.fld WPC_PART_CTL.STATE p = s.fld WPC_PART_CTL.STATE p := fun p => h.fld _ p hctl
  simp only [State.discards, State.hartPart1, h.hartPart hpart, hstate, h.owner _ hown]

/-- Whether a source can pend depends on the pending entries and those in service (fields 61 and 62), on the source's own
configuration, and on the discarding. -/
theorem Acts.canPend {L R : Nat} {s t : State} {src : Nat} (h : Acts L R s t) (hcan : s.canPend src)
    (hpart : L.testBit 28 = false) (hpend : L.testBit 61 = false) (hserv : L.testBit 62 = false)
    (hcfg : R.testBit RegId.EVR_SRC_CFG.num = false) (hctl : R.testBit RegId.WPC_PART_CTL.num = false)
    (hown : R.testBit RegId.WPC_OWNER.num = false) : t.canPend src := by
  unfold State.canPend
  rw [h.fld EVR_SRC_CFG.EN src hcfg, h.fld EVR_SRC_CFG.EDGE src hcfg, h.fld EVR_SRC_CFG.HART src hcfg, h.pend hpend,
    h.inServ hserv, h.discards _ _ hpart hctl hown]
  exact hcan

theorem State.exists_mem_raise_pend {s : State} {src : Nat} (h : s.canPend src) :
    ∃ e ∈ (s.raise src).pend, e.ident = src :=
  ⟨s.entryOf src, by simp [s.raise_pend src h], rfl⟩

/-- The wires that a repair entry spares are fields of one register. -/
theorem spareWire_reg (p : Prop) [Decidable p] :
    (if p then MESH_LINK_CFG.SPARE1_WIRE else MESH_LINK_CFG.SPARE0_WIRE).reg = .MESH_LINK_CFG := by
  split <;> rfl

/-- Replaying the repair log changes registers (field 4), cores (6) and Macen's rows (94), and writes no register but
TILE_CORE_MAP and MESH_LINK_CFG. -/
theorem acts_replayLog_coreMap_meshLink (s : State) :
    Acts (2 ^ 4 ||| 2 ^ 6 ||| 2 ^ 94) (2 ^ RegId.TILE_CORE_MAP.num ||| 2 ^ RegId.MESH_LINK_CFG.num) s s.replayLog := by
  unfold State.replayLog
  refine Acts.foldl (L2 := 2 ^ 4 ||| 2 ^ 94) (R2 := 2 ^ RegId.MESH_LINK_CFG.num) _ ?cores (fun t e => ?entry) rfl rfl
  case cores =>
    refine Acts.foldl (L2 := 2 ^ 6) (R2 := 0) _ ?maps (fun t c => ?gate) rfl rfl
    case maps => exact Acts.foldl _ (Acts.refl _ _ _) (fun t i => Acts.wr t .TILE_CORE_MAP i _) rfl rfl
    case gate => exact Acts.ite (fun _ => Acts.refl _ _ _) fun _ => acts_onCore t c _
  case entry =>
    refine Acts.ite (fun _ => Acts.ite (fun _ => ?wire) fun _ => Acts.refl _ _ _) fun _ =>
      Acts.ite (fun _ => (Acts.set_mac t _).mono rfl rfl) fun _ => Acts.refl _ _ _
    case wire => exact (acts_setFld t _ _ _).mono rfl (by rw [spareWire_reg]; rfl)

/-- Step 5 of a release up to the repair log's replay. -/
def State.releaseMesh (s : State) (cal : List Reading) : State :=
  ({ s.calibrate cal with relStep := 5, rstLevel := 0 } : State).replayLog

theorem State.releaseMesh_relStep (s : State) (cal : List Reading) : (s.releaseMesh cal).relStep = 5 :=
  (acts_replayLog _).relStep rfl

/-- To what the replay changes, step 5 adds the release's progress (fields 68 and 69) and the calibration's RCP_PSTATE. -/
theorem acts_releaseMesh (s : State) (cal : List Reading) :
    Acts (2 ^ 4 ||| 2 ^ 6 ||| 2 ^ 68 ||| 2 ^ 69 ||| 2 ^ 94)
      (2 ^ RegId.TILE_CORE_MAP.num ||| 2 ^ RegId.MESH_LINK_CFG.num ||| 2 ^ RegId.RCP_PSTATE.num) s (s.releaseMesh cal) :=
  (((acts_calibrate s cal).mono rfl rfl).trans (Acts.set_rstLevel_relStep _ 0 5) rfl rfl).trans
    (acts_replayLog_coreMap_meshLink _) rfl rfl

/-- DOMAIN_RELEASE of the next step outside a reset, with the step's condition met (R434). -/
theorem execDomainRelease_next {s : State} {step : Nat} (cal : List Reading) (hlevel : s.rstLevel = 0)
    (hstep : step = s.relStep + 1) (hlast : step ≤ 8) (hready : s.stepReady step = true) :
    execDomainRelease step cal s =
      .next (({ (if 4 < step then s.calibrate cal else s) with relStep := step, rstLevel := 0 } : State).stepWork step) := by
  simp [execDomainRelease, hlevel, ← hstep, hready, Nat.not_lt.2 hlast]

/-- With VBAK_LOST set, the last that step 5 does is to raise source 1615. -/
theorem execDomainRelease_vbakLost {s : State} (cal : List Reading) (hvbak : s.fld RCP_RESET_CAUSE.VBAK_LOST 0 = 1)
    (hlevel : s.rstLevel = 0) (hstep : s.relStep = 4) (hready : s.stepReady 5 = true) :
    execDomainRelease 5 cal s = .next ((s.releaseMesh cal).raise 1615) := by
  have hvbak' : (s.releaseMesh cal).fld RCP_RESET_CAUSE.VBAK_LOST 0 = 1 :=
    ((acts_releaseMesh s cal).fld _ _ rfl).trans hvbak
  rw [execDomainRelease_next cal hlevel (by rw [hstep]) (by decide) hready]
  exact congrArg Host.Outcome.next (if_pos hvbak')

/-- The four words that the loss of VBAK leaves; they are apart, so no write touches another's word. -/
theorem execVbakLost_rd (s : State) : ∃ t, execVbakLost s = .next t ∧ t.rd .RCP_RESET_CAUSE 0 = 0x80000000 ∧
    t.rd .RCP_CAUSE_COUNT 0 = 0 ∧ t.rd .RCP_CAUSE_COUNT 1 = 0 ∧ t.rd .RCP_RTC 0 = 0 := by
  refine ⟨_, rfl, ?_⟩
  simp [State.rd_wr]

/-- Settles O13: VBAK_LOST is the one bit that the loss leaves set, and step 5 raises source 1615 in a state that agrees
with the one before it on all that decides whether the source pends. -/
theorem backupDomainLost : Obligations.BackupDomainLost := by
  refine ⟨fun s => ?loss, fun s cal hvbak hlevel hstep hready hcan => ?release⟩
  case loss =>
    obtain ⟨t, hexec, hcause, hcount0, hcount1, hrtc⟩ := execVbakLost_rd s
    have hlost : t.fld RCP_RESET_CAUSE.VBAK_LOST 0 = 1 := congrArg (field · 31 31) hcause
    exact ⟨t, hexec, hlost, hcause, hcount0, hcount1, hrtc⟩
  case release =>
    have hcan' : (s.releaseMesh cal).canPend 1615 := (acts_releaseMesh s cal).canPend hcan rfl rfl rfl rfl rfl rfl
    have hstep' : ((s.releaseMesh cal).raise 1615).relStep = 5 :=
      (State.raise_relStep _ _).trans (s.releaseMesh_relStep cal)
    exact ⟨_, execDomainRelease_vbakLost cal hvbak hlevel hstep hready, hstep', State.exists_mem_raise_pend hcan'⟩

end Sys2Proof.Machine
